-- ==== Sys2Proof/Word.lean ====
section
/-! DEFINITION. The word types of the device: registers of 32 bits, bytes, 64-byte lines, codewords, and the shape of a sparse store. -/

namespace Sys2Proof

/-- A register of a register block is 32 bits wide (R21: one register per 32 bits). -/
abbrev Word := BitVec 32

/-- A byte. -/
abbrev Byte := BitVec 8

/-- A 64-byte line; byte `n` occupies bits 8n to 8n+7 (R75). -/
abbrev Line := BitVec 512

/-- A codeword of the on-chip memories: 137 bits for a 128-bit word, of which a 64-bit word's codeword uses the lowest 72 (R142); in raw
mode the 72 raw bits of a block RAM word. -/
abbrev Codeword := BitVec 137

/-- A configuration frame: configuration bits [4095:0], then the 16 bits of its ECC field (R315). -/
abbrev Frame := BitVec 4112

/-- A store in which only the entries that differ from their default are listed: key and value, keys rising. -/
abbrev Sparse (α : Type) := List (Nat × α)

end Sys2Proof
end

