-- ==== Sys2Proof/FabricAttr.lean ====
section
/-! DEFINITION. The settings that configuration frames give the elements of a sector: logic cells and clusters (R103–R113), arithmetic
slices (R140) and block RAMs (R144, R145), the wires and crossbars (R115–R122), the hasps (R121, R337), and what a clock edge's command
still says. -/

namespace Sys2Proof

/-- The modes of a LUT (R103). -/
inductive LutMode where
  | single
  | split
  | arith
deriving DecidableEq, Repr, Inhabited

/-- The modes of a cluster's memory LCs (R111). -/
inductive MemMode where
  | logic
  | sp
  | sdp
  | qdp
  | shift
deriving DecidableEq, Repr, Inhabited

/-- Where a chain's carry enters LC0 (R105): a constant, the BX input, or the cluster below. -/
inductive CarrySel where
  | zero
  | one
  | bx
  | chain
deriving DecidableEq, Repr, Inhabited

/-- The settings of a flip-flop (R106): D from the bypass input or the LUT, its control set, INIT and SRVAL. -/
structure FfAttr where
  bypass : Bool
  ctl1 : Bool
  init : Bool
  srval : Bool
deriving DecidableEq, Repr, Inhabited

/-- The settings of a logic cell: its mode, its table (the upper 64 bits are a memory LC's upper bank, R110), its flip-flops, and for a
shift register whether it is two of 64 bits and whether the last bit of the LC before feeds it (R113). -/
structure LcAttr where
  mode : LutMode
  table : BitVec 128
  ff0 : FfAttr
  ff1 : FfAttr
  two64 : Bool
  linked : Bool
deriving DecidableEq, Repr, Inhabited

/-- A control set (R107): its clock line, 36 or more when unused; CE and SR from the crossbar or constant; SR asynchronous. -/
structure CtlAttr where
  clk : Nat
  useCe : Bool
  useSr : Bool
  async : Bool
deriving DecidableEq, Repr, Inhabited

/-- The settings of a cluster. -/
structure ClusterAttr where
  mem : MemMode
  cin : CarrySel
  ctl0 : CtlAttr
  ctl1 : CtlAttr
deriving DecidableEq, Repr, Inhabited

/-- The multiplier modes of a slice (R128). -/
inductive SliceMode where
  | m24
  | m12x2
  | m8x4
  | fp
deriving DecidableEq, Repr, Inhabited

/-- The operand formats of FP mode (R136). -/
inductive FpFormat where
  | fp32
  | fp16
  | bf16
deriving DecidableEq, Repr, Inhabited

/-- The roundings of FP mode (R136). -/
inductive FpRound where
  | nearest
  | zero
  | plus
  | minus
deriving DecidableEq, Repr, Inhabited

/-- The roundings of the formatter (R134). -/
inductive IntRound where
  | trunc
  | halfUp
  | halfEven
deriving DecidableEq, Repr, Inhabited

/-- AUTORST (R135). -/
inductive AutoRst where
  | none
  | onMatch
  | onMatchN
deriving DecidableEq, Repr, Inhabited

/-- The attributes of a slice (R140), with their ranges; `satw` is SATW less 8; `clk` 36 or more: unused. -/
structure SliceAttr where
  mode : SliceMode
  simd : Bool
  asgn : Bool
  bsgn : Bool
  csgn : Bool
  dsgn : Bool
  preadd : Bool
  acasc : Bool
  adepth : Fin 3
  stgI : Bool
  stgPs : Bool
  stgM : Bool
  rshift : Fin 48
  rmode : IntRound
  sat : Bool
  satw : Fin 41
  pattern : BitVec 72
  pmask : BitVec 72
  patsrc : Bool
  autorst : AutoRst
  fmt : FpFormat
  frnd : FpRound
  ftz : Bool
  clk : Nat
deriving DecidableEq, Repr, Inhabited

/-- What a block RAM port shows after a write of its own (R145). -/
inductive WrOut where
  | old
  | new
  | hold
deriving DecidableEq, Repr, Inhabited

/-- SATW (R134, R140). -/
def SliceAttr.width (a : SliceAttr) : Nat := a.satw + 8

/-- The settings of a block RAM port: its raw width (R144), its clock line, its output register, what it shows after a write, and its reset
value. -/
structure PortAttr where
  code : Fin 7
  clk : Nat
  oreg : Bool
  wrout : WrOut
  rstval : BitVec 72
deriving DecidableEq, Repr, Inhabited

/-- The raw width of a port: 1, 2, 4, 9, 18, 36 or 72 bits (R144). -/
def PortAttr.width (a : PortAttr) : Nat := [1, 2, 4, 9, 18, 36, 72].getD a.code 72

/-- The settings of a block RAM (R144, R145, R157). -/
structure BramAttr where
  ecc : Bool
  a : PortAttr
  b : PortAttr
  scrubA : Bool
deriving DecidableEq, Repr, Inhabited

/-! ### Wires -/

/-- The directions of wires: east and north are those of rising columns and rows (R118). -/
inductive Dir where
  | east
  | west
  | north
  | south
deriving DecidableEq, Repr, Inhabited

/-- The lengths of wires, in clusters (R118). -/
inductive WireLen where
  | l1
  | l2
  | l4
  | l12
  | l24
deriving DecidableEq, Repr, Inhabited

/-- A wire as a cluster sees it: its direction and length, its number among the starts, and the clusters it has come (R118). -/
structure WireRef where
  dir : Dir
  len : WireLen
  k : Fin 16
  dist : Fin 25
deriving DecidableEq, Repr, Inhabited

/-- The outputs of a logic cell (R102). -/
inductive LcOut where
  | o5
  | o6
  | q0
  | q1
deriving DecidableEq, Repr, Inhabited

/-- What the multiplexer of a wire start has selected (R118): nothing, an output of a logic cell of its cluster, the end of a wire there, or an
output pin of the hard element beside it (R116); `ctl`: of the sector-control interface. -/
inductive WireSrc where
  | none
  | lc (l : Fin 16) (o : LcOut)
  | wireEnd (w : WireRef)
  | hard (ctl : Bool) (pin : Nat)
deriving DecidableEq, Repr, Inhabited

/-- Where an input pin of a hard element takes its level (R116): a wire at one of the rows it occupies, on its left or its right. -/
structure HardTap where
  row : Nat
  right : Bool
  wire : WireRef
deriving DecidableEq, Repr, Inhabited

/-- A hasp point (R121): the side of its sector, the row or column along it, the track, and whether it is outbound. -/
structure Hasp where
  side : Dir
  along : Fin 64
  track : Fin 160
  out : Bool
deriving DecidableEq, Repr, Inhabited

/-- The park values of an outbound border pin (R337). -/
inductive Park where
  | zero
  | one
  | hold
deriving DecidableEq, Repr, Inhabited

/-! ### Pins at an edge -/

/-- The pins of a cluster at a clock edge: for each of its 16 LCs the inputs A to F in bits 0 to 5, BX in bit 6 and BY in bit 7; CE and SR
of the control sets; WE and WA; and whether an asynchronous SR is released inside the window of R108. -/
structure ClusterPins where
  lc : List (BitVec 8)
  ce0 : Bool
  ce1 : Bool
  sr0 : Bool
  sr1 : Bool
  we : Bool
  wa : BitVec 6
  rel0 : Bool
  rel1 : Bool
deriving DecidableEq, Repr, Inhabited

/-- The pins of a slice at a clock edge (R127). -/
structure SlicePins where
  ceI : Bool
  cePs : Bool
  ceM : Bool
  ceP : Bool
  rst : Bool
  a : BitVec 32
  b : BitVec 32
  d : BitVec 24
  c : BitVec 48
  msel : BitVec 2
  zsel : BitVec 3
  sub : Bool
  psub : Bool
deriving DecidableEq, Repr

/-- The pins of a block RAM port at a clock edge (R145); `close`: the edge lies less than tCOLL after the other port's last one (R146). -/
structure PortPins where
  en : Bool
  we : BitVec 9
  addr : BitVec 16
  din : BitVec 72
  rst : Bool
  close : Bool
deriving DecidableEq, Repr

/-- What the command of an edge says beside the levels that the wires carry: the asynchronous SRs that are released inside the window of R108, by
cluster and control set; the block RAM ports, by block RAM and side, whose edge lies less than tCOLL after the other port's last one (R146); and upset
or stuck positions of block RAM words, by block RAM and word. -/
structure EdgePins where
  late : List (Nat × Bool)
  close : List (Nat × Bool)
  flips : List (Nat × Nat × List Nat)
deriving DecidableEq, Repr

end Sys2Proof
end

