-- ==== Sys2Proof/RegName.lean ====
section
/-! DEFINITION. The names of the machine's registers: one constructor per row of the register tables of
spec/ (R71, R101, R163, R167, R211, R224, R249, R285, R314, R346, R361, R385, R386, R411, R427, R453, R469, R487).
A name stands for every copy of the register; a copy is picked by an index (Machine/RegMap.lean says how). -/

namespace Sys2Proof

/-- The registers of the register tables. -/
inductive RegName where
  /-- CLK_STRAP (R71): Latched straps and reference kind. -/
  | CLK_STRAP
  /-- CLK_ROOT_CFG (R71): Root multiplier; sealed per R44. -/
  | CLK_ROOT_CFG
  /-- CLK_ROOT_STAT (R71): PLL lock, alignment, relock state. -/
  | CLK_ROOT_STAT
  /-- CLK_ALIGN_ERR (R71): Phase error of L1–L3 against L0. -/
  | CLK_ALIGN_ERR
  /-- CLK_MON_CTL (R71): Monitor actions on an out-of-range window. -/
  | CLK_MON_CTL
  /-- CLK_MON_STAT (R71): Monitor run count and sticky flags. -/
  | CLK_MON_STAT
  /-- CLK_MON_CAUSE (R71): Cause of the last clock-fail reset. -/
  | CLK_MON_CAUSE
  /-- CLK_MON_FREQ (R71): Last measured reference frequency. -/
  | CLK_MON_FREQ
  /-- CLK_KCK_CTL (R71): KCK divisor and source. -/
  | CLK_KCK_CTL
  /-- CLK_CCK_CTL (R71): CCK divisor and source. -/
  | CLK_CCK_CTL
  /-- CLK_SW_STAT (R71): Switch progress and forced-switch flags. -/
  | CLK_SW_STAT
  /-- CLK_LREF_STAT (R71): Lane reference presence and loss. -/
  | CLK_LREF_STAT
  /-- CLK_DTC_INC (R71): DTC increment per R65; bits [31:0] fraction. -/
  | CLK_DTC_INC
  /-- CLK_DTC_INC_HI (R71): DTC increment integer nanoseconds. -/
  | CLK_DTC_INC_HI
  /-- CLK_DTC_LO (R71): DTC bits [31:0]; the read copies bits [63:32]. -/
  | CLK_DTC_LO
  /-- CLK_DTC_HI (R71): Copy of DTC bits [63:32]. -/
  | CLK_DTC_HI
  /-- CLK_FCKn (R71): Fabric clock n. -/
  | CLK_FCK
  /-- CLK_ECKn (R71): Engine clock of leaf n. -/
  | CLK_ECK
  /-- CLK_MCKn (R71): DRAM controller clock of channel n. -/
  | CLK_MCK
  /-- CLK_SGATEs (R71): Gate state of sector s on FCK0–FCK31. -/
  | CLK_SGATE
  /-- KRV_CTL (R101): Network event enables. -/
  | KRV_CTL
  /-- KRV_TMO (R101): Source completion timeout under R94. -/
  | KRV_TMO
  /-- KRV_KNK_THR (R101): Knuckle retirement thresholds. -/
  | KRV_KNK_THR
  /-- KRV_KNK_SPAREg (R101): Retired physical channels and restore. -/
  | KRV_KNK_SPARE
  /-- KRV_KNK_STATg (R101): Failed logical channels, spares, detour. -/
  | KRV_KNK_STAT
  /-- KRV_KNK_ERRg (R101): CRC and replay counts. -/
  | KRV_KNK_ERR
  /-- KRV_ELOG0 (R101): First logged network error: code and requester. -/
  | KRV_ELOG0
  /-- KRV_ELOG1 (R101): DA[31:0] of the logged request. -/
  | KRV_ELOG1
  /-- KRV_ELOG2 (R101): DA[47:32] of the logged request. -/
  | KRV_ELOG2
  /-- KRV_CRCDROP (R101): Flits discarded at destinations under R79. -/
  | KRV_CRCDROP
  /-- KRV_LATE (R101): Late responses discarded under R94. -/
  | KRV_LATE
  /-- KRV_APa (R101): State of access port a. -/
  | KRV_AP
  /-- MEM_SCR_CTLn (R163): Scrubber enables, remap and event enables. -/
  | MEM_SCR_CTL
  /-- MEM_SCR_PERIODn (R163): Pass period in ms. -/
  | MEM_SCR_PERIOD
  /-- MEM_SCR_STATn (R163): Pass number and state. -/
  | MEM_SCR_STAT
  /-- MEM_CE_CNTn (R163): Corrections in slots. -/
  | MEM_CE_CNT
  /-- MEM_UE_CNTn (R163): Uncorrectable results in slots. -/
  | MEM_UE_CNT
  /-- MEM_BIST_STATn (R163): Self-test state of the leaf. -/
  | MEM_BIST_STAT
  /-- MEM_LOG_CTLn (R163): Log ring state and pop. -/
  | MEM_LOG_CTL
  /-- MEM_LOG_LOSTn (R163): Records lost on a full ring. -/
  | MEM_LOG_LOST
  /-- MEM_LOGn_m_Wk (R163): Word k of ring slot m. -/
  | MEM_LOG_W
  /-- MEM_BRAMb (R163): State of block RAM b. -/
  | MEM_BRAM
  /-- MEM_VAULTv (R163): State of vault v. -/
  | MEM_VAULT
  /-- MEM_TMBe (R163): State of engine e's memories. -/
  | MEM_TMB
  /-- MEM_RMP_SEL (R163): Selects a remap entry to read or an instance to remap. -/
  | MEM_RMP_SEL
  /-- MEM_RMP_DATA (R163): The selected remap entry. -/
  | MEM_RMP_DATA
  /-- MEM_RMP_CMD (R163): Firmware-directed remap under R161. -/
  | MEM_RMP_CMD
  /-- MEM_RMP_STAT (R163): Remap command state. -/
  | MEM_RMP_STAT
  /-- STATUS (R167): Event enable, bank, sticky flags. -/
  | CR_STATUS
  /-- EVT (R167): Pending event causes. -/
  | CR_EVT
  /-- EVMASK (R167): Event enables, same layout as EVT. -/
  | CR_EVMASK
  /-- HVEC (R167): Handler bundle address in bits [9:0]. -/
  | CR_HVEC
  /-- EPC (R167): Resume bundle address in bits [9:0]. -/
  | CR_EPC
  /-- NOUT (R167): Outstanding network operations, 0–16, in bits [4:0]. -/
  | CR_NOUT
  /-- NLOG (R167): First network failure. -/
  | CR_NLOG
  /-- SSTAT (R167): Stream FIFO levels and link state. -/
  | CR_SSTAT
  /-- SEVSEL (R167): Bits [3:0]: input FIFOs whose contents raise EVT.STREAM. -/
  | CR_SEVSEL
  /-- CYC (R167): ECK cycles spent Running or in Handler, including held cycles; wraps. -/
  | CR_CYC
  /-- TCMP (R167): EVT.TIMER is set in the cycle in which CYC equals TCMP. -/
  | CR_TCMP
  /-- ENGID (R167): Engine number e of R18, in bits [8:0]. -/
  | CR_ENGID
  /-- JARG0–JARG3 (R211): Job arguments under R210. -/
  | CR_JARG
  /-- JINFO (R211): Rank, NUM, set. -/
  | CR_JINFO
  /-- DBCAUSE (R211): Doorbell causes. -/
  | CR_DBCAUSE
  /-- DBADDR (R211): Doorbell word. -/
  | CR_DBADDR
  /-- WOFF_LO (R211): Offset [31:0] of the request at the head of the window queue. -/
  | CR_WOFF_LO
  /-- WOFF_HI (R211): Offset [39:32] and queue state. -/
  | CR_WOFF_HI
  /-- WRSP (R211): Reply to the request at the head of the window queue. -/
  | CR_WRSP
  /-- WSTAT (R211): Window queue depth and stray replies. -/
  | CR_WSTAT
  /-- TMB_CFGe (R224): Set membership under R205. -/
  | TMB_CFG
  /-- TMB_STATe (R224): Run state, test, retirement. -/
  | TMB_STAT
  /-- TMB_CTLe (R224): Stop, test, restore. -/
  | TMB_CTL
  /-- TMB_PCe (R224): PC and EPC. -/
  | TMB_PC
  /-- TMB_TSIGe (R224): Signature of the last self-test. -/
  | TMB_TSIG
  /-- TMB_EVCAUSEe (R224): Event causes under R223. -/
  | TMB_EVCAUSE
  /-- TMB_EVENe (R224): Event enables, same layout. -/
  | TMB_EVEN
  /-- TMB_CRe_n (R224): Control register n; writes take effect only while the engine is Idle or halted by the debugger. -/
  | TMB_CR
  /-- TMB_SETs_CFG (R224): Set existence, tenant, window use. -/
  | TMB_SET_CFG
  /-- TMB_SETs_INFO (R224): NUM and leaf. -/
  | TMB_SET_INFO
  /-- TMB_SETs_JOB (R224): Entry address and start. -/
  | TMB_SET_JOB
  /-- TMB_SETs_TMO (R224): Job timeout in µs; 0: none. -/
  | TMB_SET_TMO
  /-- TMB_SETs_ARGk (R224): Job arguments. -/
  | TMB_SET_ARG
  /-- TMB_SETs_JSTAT (R224): Job state. -/
  | TMB_SET_JSTAT
  /-- TMB_SETs_STOP (R224): Bit [0]: end the job with STOPPED. -/
  | TMB_SET_STOP
  /-- TMB_SETs_DB (R224): Bit [0]: set DBCAUSE.KEEPER in every live member. -/
  | TMB_SET_DB
  /-- TMB_TWw_CFG (R224): Window enable, set, size. -/
  | TMB_TW_CFG
  /-- TMB_TWw_BASE_LO (R224): Bits [31:12]: base DA[31:12]. -/
  | TMB_TW_BASE_LO
  /-- TMB_TWw_BASE_HI (R224): Bits [15:0]: base DA[47:32]. -/
  | TMB_TW_BASE_HI
  /-- TMB_TWw_BOUND (R224): Bits [15:0]: BOUND in ns. -/
  | TMB_TW_BOUND
  /-- TMB_TWw_SERVED (R224): Reads answered by the set in time. -/
  | TMB_TW_SERVED
  /-- TMB_TWw_OVERRUN (R224): Reads poisoned under R218. -/
  | TMB_TW_OVERRUN
  /-- TMB_TWw_NOTREADY (R224): Reads poisoned under R215. -/
  | TMB_TW_NOTREADY
  /-- TMB_TWw_LATE (R224): Late replies discarded. -/
  | TMB_TW_LATE
  /-- TMB_TWw_WRITES (R224): Writes under R216. -/
  | TMB_TW_WRITES
  /-- LNK_PCFGp (R249): Port mode and reference mode. -/
  | LNK_PCFG
  /-- LNK_PSTATp (R249): PLL lock and reference presence. -/
  | LNK_PSTAT
  /-- LNK_RETp (R249): Retired lanes and restore. -/
  | LNK_RET
  /-- LNK_TMOp (R249): Attempt timeout. -/
  | LNK_TMO
  /-- LNK_HCTLp_h (R249): Hold, retrain, rate limit. -/
  | LNK_HCTL
  /-- LNK_HCFGp_h (R249): Head policy. -/
  | LNK_HCFG
  /-- LNK_HSTATp_h (R249): Head state, rate and width. -/
  | LNK_HSTAT
  /-- LNK_HATTp_h (R249): Attempts and failed attempts. -/
  | LNK_HATT
  /-- LNK_HRECp_h (R249): Recovery entries under R240. -/
  | LNK_HREC
  /-- LNK_HFECp_h (R249): FEC corrections. -/
  | LNK_HFEC
  /-- LNK_HREPLAYp_h (R249): Replays. -/
  | LNK_HREPLAY
  /-- LNK_HTHRp_h (R249): Error-rate threshold. -/
  | LNK_HTHR
  /-- LNK_HEVTp_h (R249): Event causes. -/
  | LNK_HEVT
  /-- LNK_HEVENp_h (R249): Event enables. -/
  | LNK_HEVEN
  /-- LNK_LSTATp_l (R249): Lane state. -/
  | LNK_LSTAT
  /-- LNK_LERRp_l (R249): Receiver errors. -/
  | LNK_LERR
  /-- LNK_LTXEQp_l (R249): Transmitter settings. -/
  | LNK_LTXEQ
  /-- LNK_LRXEQp_l (R249): Receiver adaptation. -/
  | LNK_LRXEQ
  /-- LNK_LLBp_l (R249): Loopback control. -/
  | LNK_LLB
  /-- LNK_LLBERRp_l (R249): Loopback checker errors. -/
  | LNK_LLBERR
  /-- COH_CTL (R285): Event enables. -/
  | COH_CTL
  /-- COH_BITMO (R285): Snoop timeout under R275. -/
  | COH_BITMO
  /-- COH_PT_CMD (R285): Partition command under R262. -/
  | COH_PT_CMD
  /-- COH_PT_STAT (R285): Command state and result. -/
  | COH_PT_STAT
  /-- COH_PT_DATA0 (R285): ACC and WR. -/
  | COH_PT_DATA0
  /-- COH_PT_DATA1 (R285): MODE, STATIC, STATE. -/
  | COH_PT_DATA1
  /-- COH_PT_DATA2 (R285): HPA. -/
  | COH_PT_DATA2
  /-- COH_XM_CMD (R285): Translation-range command. -/
  | COH_XM_CMD
  /-- COH_XM_DATA0 (R285): DPA base and valid. -/
  | COH_XM_DATA0
  /-- COH_XM_DATA1 (R285): DA base. -/
  | COH_XM_DATA1
  /-- COH_XM_DATA2 (R285): Count. -/
  | COH_XM_DATA2
  /-- COH_EVT (R285): Event causes. -/
  | COH_EVT
  /-- COH_HEADn (R285): Head type, fence, port ID. -/
  | COH_HEAD
  /-- COH_VBYn (R285): Violations by tenant n. -/
  | COH_VBY
  /-- COH_VONn (R285): Violations against tenant n. -/
  | COH_VON
  /-- COH_DIRL_OCC (R285): Valid entries. -/
  | COH_DIR_OCC
  /-- COH_DIRL_ALLOC (R285): Allocations. -/
  | COH_DIR_ALLOC
  /-- COH_DIRL_EVICT (R285): Capacity evictions. -/
  | COH_DIR_EVICT
  /-- COH_DIRL_PEND (R285): Pending lines and victims. -/
  | COH_DIR_PEND
  /-- COH_DIRL_PERR (R285): Entry parity errors. -/
  | COH_DIR_PERR
  /-- COH_DCp_HIT (R285): Device cache hits. -/
  | COH_DC_HIT
  /-- COH_DCp_MISS (R285): Device cache misses. -/
  | COH_DC_MISS
  /-- COH_DCp_ERR (R285): Uncorrectable and lost lines. -/
  | COH_DC_ERR
  /-- COH_VLOG_CTL (R285): Violation ring state and pop. -/
  | COH_VLOG_CTL
  /-- COH_VLOG_LOST (R285): Records lost on a full ring. -/
  | COH_VLOG_LOST
  /-- COH_VLOGm_Wk (R285): Word k of ring slot m. -/
  | COH_VLOG_W
  /-- DDR_CFGn (R314): Population; sealed under R290. -/
  | DDR_CFG
  /-- DDR_CTLn (R314): Service, mapping, page and refresh policy. -/
  | DDR_CTL
  /-- DDR_STATn (R314): State, rate, HOT flags. -/
  | DDR_STAT
  /-- DDR_ILVn (R314): Interleave membership and seal. -/
  | DDR_ILV
  /-- DDR_ILVBASEn (R314): First extent of the set. -/
  | DDR_ILVBASE
  /-- DDR_MAPCAPn (R314): Mapped capacity M. -/
  | DDR_MAPCAP
  /-- DDR_SCHEDn (R314): Write watermarks and age limit. -/
  | DDR_SCHED
  /-- DDR_SRIDLEn (R314): Idle time before power-saving self-refresh. -/
  | DDR_SRIDLE
  /-- DDR_HOLD_CTLn (R314): Hold start and completion. -/
  | DDR_HOLD_CTL
  /-- DDR_HOLD_STATn (R314): Hold state. -/
  | DDR_HOLD_STAT
  /-- DDR_PAT_CTLn (R314): Patrol enable and period. -/
  | DDR_PAT_CTL
  /-- DDR_PAT_STATn (R314): Patrol passes and lag. -/
  | DDR_PAT_STAT
  /-- DDR_PAT_POS_LOn (R314): Next patrol line, bits [31:0]. -/
  | DDR_PAT_POS_LO
  /-- DDR_PAT_POS_HIn (R314): Next patrol line, bit [32]. -/
  | DDR_PAT_POS_HI
  /-- DDR_CE_CNTn (R314): Corrections made by the patrol and by demand scrubs, under R301; a correction delivered to a user read counts through its demand scrub. -/
  | DDR_CE_CNT
  /-- DDR_UE_CNTn (R314): Uncorrectable lines found by any read, user reads included, under R298. -/
  | DDR_UE_CNT
  /-- DDR_ECC_CTLn (R314): Classification and remap control. -/
  | DDR_ECC_CTL
  /-- DDR_DEVFAILn (R314): Last failed device. -/
  | DDR_DEVFAIL
  /-- DDR_ELOGn_Wk (R314): First logged error event. -/
  | DDR_ELOG_W
  /-- DDR_RMP_SELn (R314): Remap entry selection. -/
  | DDR_RMP_SEL
  /-- DDR_RMP_DATA0n (R314): Selected entry, line bits [31:0]. -/
  | DDR_RMP_DATA0
  /-- DDR_RMP_DATA1n (R314): Selected entry, line bit [32] and state. -/
  | DDR_RMP_DATA1
  /-- DDR_RMP_CMDn (R314): Firmware-directed remap. -/
  | DDR_RMP_CMD
  /-- DDR_RMP_STATn (R314): Table use and command state. -/
  | DDR_RMP_STAT
  /-- DDR_EVTn (R314): Event causes. -/
  | DDR_EVT
  /-- DDR_EVENn (R314): Event enables. -/
  | DDR_EVEN
  /-- DDR_TIM_ACTn_k (R314): Active timing set. -/
  | DDR_TIM_ACT
  /-- DDR_TIM_SHADOWn_k (R314): Shadow timing set. -/
  | DDR_TIM_SHADOW
  /-- DDR_TIM_SHCTLn (R314): Shadow valid. -/
  | DDR_TIM_SHCTL
  /-- DDR_TRN_CTLn (R314): Generator and comparator control. -/
  | DDR_TRN_CTL
  /-- DDR_TRN_STATn (R314): Generator state. -/
  | DDR_TRN_STAT
  /-- DDR_TRN_ADDRn (R314): First line, bits [31:0]. -/
  | DDR_TRN_ADDR
  /-- DDR_TRN_USERn_k (R314): User pattern, bytes 4k to 4k+3. -/
  | DDR_TRN_USER
  /-- DDR_TRN_ERRn_b (R314): Mismatches on DQ lane b (40 × SC + bit). -/
  | DDR_TRN_ERR
  /-- DDR_DLY_SELn (R314): Lane and rank for delay access. -/
  | DDR_DLY_SEL
  /-- DDR_DLY_DATAn (R314): Delays of the selected lane. -/
  | DDR_DLY_DATA
  /-- DDR_RXEQ_DATAn (R314): Receiver reference and DFE of the selected DQ lane. -/
  | DDR_RXEQ_DATA
  /-- DDR_MR_CMDn (R314): Mode-register command. -/
  | DDR_MR_CMD
  /-- DDR_MR_DATAn (R314): MRR result. -/
  | DDR_MR_DATA
  /-- CFG_BOOT_STAT (R346): Boot mode, sources, stage, attempts. -/
  | CFG_BOOT_STAT
  /-- CFG_PINS (R346): CONF_DONE and CONF_ERR_N. -/
  | CFG_PINS
  /-- CFG_IDENT (R346): Family and part codes. -/
  | CFG_IDENT
  /-- CFG_REV (R346): Die revisions and platform key state. -/
  | CFG_REV
  /-- CFG_LDTMO (R346): Stall timeout. -/
  | CFG_LDTMO
  /-- CFG_CMDL (R346): Command. -/
  | CFG_CMD
  /-- CFG_LDSTATL (R346): Phase and result. -/
  | CFG_LDSTAT
  /-- CFG_LDERRL (R346): Error code and frame. -/
  | CFG_LDERR
  /-- CFG_LDCNTL (R346): Frames written. -/
  | CFG_LDCNT
  /-- CFG_EVTL (R346): Event causes. -/
  | CFG_EVT
  /-- CFG_EVENL (R346): Event enables. -/
  | CFG_EVEN
  /-- CFG_RGNr_CFG (R346): Owner, state, leaf. -/
  | CFG_RGN_CFG
  /-- CFG_RGNr_MASK0 (R346): Leaf-local sectors 0–31. -/
  | CFG_RGN_MASK0
  /-- CFG_RGNr_MASK1 (R346): Leaf-local sectors 32–63. -/
  | CFG_RGN_MASK1
  /-- CFG_RGNr_MASK2 (R346): Leaf-local sectors 64–79. -/
  | CFG_RGN_MASK2
  /-- CFG_SECTs (R346): Region and closure of sector s. -/
  | CFG_SECT
  /-- CFG_FRD_CMD (R346): Frame readback. -/
  | CFG_FRD_CMD
  /-- CFG_FRD_STAT (R346): Readback state. -/
  | CFG_FRD_STAT
  /-- CFG_FRD_DATAk (R346): Frame read back. -/
  | CFG_FRD_DATA
  /-- CFG_TKHn_k (R346): Tenant image key hash. -/
  | CFG_TKH
  /-- CFG_TEKn_k (R346): Tenant image decryption key. -/
  | CFG_TEK
  /-- SCB_CTL (R361): Scanner enable and logging. -/
  | SCB_CTL
  /-- SCB_FIXTMO (R361): Pending timeout under R356. -/
  | SCB_FIXTMO
  /-- SCB_HFn (R361): Hard faults in tenant n's regions. -/
  | SCB_HF
  /-- SCB_UNRn (R361): Unrepaired frames of tenant n. -/
  | SCB_UNR
  /-- SCB_HFS (R361): Hard faults in static frames. -/
  | SCB_HFS
  /-- SCB_UNRS (R361): Unrepaired static frames. -/
  | SCB_UNRS
  /-- SCB_STATL (R361): Pass number and pace. -/
  | SCB_STAT
  /-- SCB_SBCNTL (R361): Single-bit repairs. -/
  | SCB_SBCNT
  /-- SCB_MBCNTL (R361): Multi-bit upsets found. -/
  | SCB_MBCNT
  /-- SCB_HFCNTL (R361): Hard faults. -/
  | SCB_HFCNT
  /-- SCB_SKIPL (R361): Frames skipped in the last pass. -/
  | SCB_SKIP
  /-- SCB_EVTL (R361): Event causes. -/
  | SCB_EVT
  /-- SCB_EVENL (R361): Event enables. -/
  | SCB_EVEN
  /-- SCB_PENDL (R361): Pending-list occupancy. -/
  | SCB_PEND
  /-- SCB_PSELL (R361): Pending entry selection. -/
  | SCB_PSEL
  /-- SCB_PENTL (R361): Selected pending entry. -/
  | SCB_PENT
  /-- SCB_FIXCMDL (R361): Supply or give up a frame. -/
  | SCB_FIXCMD
  /-- SCB_FIXSTATL (R361): Fix result. -/
  | SCB_FIXSTAT
  /-- SCB_LOGCTLL (R361): Log ring state and pop. -/
  | SCB_LOGCTL
  /-- SCB_LOSTL (R361): Records lost on a full ring. -/
  | SCB_LOST
  /-- SCB_FIXL_DATAk (R361): Supplied frame. -/
  | SCB_FIX_DATA
  /-- SCB_LOGL_m_Wk (R361): Word k of ring slot m. -/
  | SCB_LOG_W
  /-- KP_CORE_STAT (R385): State of each core. -/
  | KP_CORE_STAT
  /-- KP_LSCTL (R385): Lockstep mode and split state. -/
  | KP_LSCTL
  /-- KP_LSERR (R385): Lockstep mismatches. -/
  | KP_LSERR
  /-- KP_SRAM_CE (R385): SRAM corrections. -/
  | KP_SRAM_CE
  /-- KP_SRAM_UE (R385): SRAM uncorrectable reads. -/
  | KP_SRAM_UE
  /-- KP_WDT_CTL (R385): Watchdog enables and debug pause. -/
  | KP_WDT_CTL
  /-- KP_WDT_KICK (R385): Reload watchdogs. -/
  | KP_WDT_KICK
  /-- KP_WDT_TMOc (R385): Timeout of watchdog c (0–3 cores, 4 device). -/
  | KP_WDT_TMO
  /-- KP_WDT_CNTc (R385): Remaining time of watchdog c. -/
  | KP_WDT_CNT
  /-- KP_DMAc_DESC (R385): SRAM address of the first descriptor. -/
  | KP_DMA_DESC
  /-- KP_DMAc_STAT (R385): Channel state. -/
  | KP_DMA_STAT
  /-- WRD_STAT (R386): Seals and policy difference. -/
  | WRD_STAT
  /-- WRD_GRTMO (R386): Grant lifetime. -/
  | WRD_GRTMO
  /-- WRD_THERM (R386): Warning level. -/
  | WRD_THERM
  /-- WRD_THSTAT (R386): Trip and alert state. -/
  | WRD_THSTAT
  /-- WRD_PWR (R386): Power limit. -/
  | WRD_PWR
  /-- WRD_PWRSTAT (R386): Estimate and throttle. -/
  | WRD_PWRSTAT
  /-- WRD_TXCLAMP (R386): Transmitter clamps. -/
  | WRD_TXCLAMP
  /-- WRD_TSENSk (R386): Sensor 4 × leaf + index. -/
  | WRD_TSENS
  /-- WRD_PINOWNk (R386): Owners of pins 8k to 8k+7. -/
  | WRD_PINOWN
  /-- WRD_MSGn (R386): Message bucket of head n. -/
  | WRD_MSG
  /-- WRD_MSGSTATn (R386): Held messages. -/
  | WRD_MSGSTAT
  /-- WRD_VIOn (R386): Violations against tenant n. -/
  | WRD_VIO
  /-- WRD_GRANTn_k (R386): Grant slot k of tenant n. -/
  | WRD_GRANT
  /-- WRD_LOGCTL (R386): Log ring state and pop. -/
  | WRD_LOGCTL
  /-- WRD_LOGLOST (R386): Records lost on a full ring. -/
  | WRD_LOGLOST
  /-- WRD_LOGm_Wk (R386): Word k of ring slot m. -/
  | WRD_LOG_W
  /-- WRD_HWINn_w_k (R386): Window w of tenant n. -/
  | WRD_HWIN
  /-- SHX_IDENT (R411): Interface version and head. -/
  | SHX_IDENT
  /-- SHX_HSTAT (R411): Keeper and tenant state. -/
  | SHX_HSTAT
  /-- SHX_CTR_NEXT_LO (R411): NEXT [31:0]. -/
  | SHX_CTR_NEXT_LO
  /-- SHX_CTR_NEXT_HI (R411): NEXT [63:32]. -/
  | SHX_CTR_NEXT_HI
  /-- SHX_OWNER (R411): Device owner; one register for all heads. It is 0 after power-on reset and kept by every other reset. The Keeper firmware writes it only under R405. -/
  | SHX_OWNER
  /-- SHX_MBm_DB (R411): Mailbox transitions. -/
  | SHX_MB_DB
  /-- SHX_MBm_STAT (R411): Mailbox state. -/
  | SHX_MB_STAT
  /-- SHX_MBm_STAMP (R411): DTC[31:0] of the last RING. -/
  | SHX_MB_STAMP
  /-- SHX_CR_BASE_LO (R411): Ring base [31:12] in bits [31:12]. -/
  | SHX_CR_BASE_LO
  /-- SHX_CR_BASE_HI (R411): Ring base [63:32]. -/
  | SHX_CR_BASE_HI
  /-- SHX_CR_CTL (R411): Ring enable and size. -/
  | SHX_CR_CTL
  /-- SHX_CR_HEAD (R411): Bits [15:0]: next record host software will consume. -/
  | SHX_CR_HEAD
  /-- SHX_CR_TAIL (R411): Next slot to fill and phase. -/
  | SHX_CR_TAIL
  /-- SHX_CR_STAT (R411): Held records and ward refusals. -/
  | SHX_CR_STAT
  /-- SHX_MBm_CMD (R411): Command area, 256 bytes. -/
  | SHX_MB_CMD
  /-- SHX_MBm_RSP (R411): Response area, 256 bytes. -/
  | SHX_MB_RSP
  /-- SHX_HWINw_k (R411): Window slot w, in the layout of WRD_HWINn_w_k. -/
  | SHX_HWIN
  /-- SHX_GRANT (R411): Arms a grant under R376. -/
  | SHX_GRANT
  /-- SHX_GRANTk (R411): View of WRD_GRANTn_k. -/
  | SHX_GRANTV
  /-- SHX_VBY (R411): View of COH_VBYn. -/
  | SHX_VBY
  /-- SHX_VON (R411): View of COH_VONn. -/
  | SHX_VON
  /-- SHX_WVIO (R411): View of WRD_VIOn. -/
  | SHX_WVIO
  /-- SHX_HF (R411): View of SCB_HFn. -/
  | SHX_HF
  /-- SHX_UNR (R411): View of SCB_UNRn. -/
  | SHX_UNR
  /-- SHX_HFS (R411): View of SCB_HFS on the owner's head; 0 elsewhere. -/
  | SHX_HFS
  /-- SHX_UNRS (R411): View of SCB_UNRS on the owner's head; 0 elsewhere. -/
  | SHX_UNRS
  /-- SHX_MSIXv (R411): MSI-X table entry v. -/
  | SHX_MSIX
  /-- SHX_MSIX_PBA (R411): Pending bits of vectors 0–31. -/
  | SHX_MSIX_PBA
  /-- EVC_STAT (R427): Refused writes. -/
  | EVC_STAT
  /-- EVC_SWSET (R427): Raise a software source. -/
  | EVC_SWSET
  /-- EVC_DROP (R427): Deliveries dropped under R417. -/
  | EVC_DROP
  /-- EVC_CLAIMc (R427): Claim under R419; the read has a side effect. -/
  | EVC_CLAIM
  /-- EVC_COMPLETEc (R427): Complete a source. -/
  | EVC_COMPLETE
  /-- EVC_THRc (R427): Threshold. -/
  | EVC_THR
  /-- EVC_CSTATc (R427): Target state. -/
  | EVC_CSTAT
  /-- EVC_PEEKc (R427): Side-effect-free view of EVC_CLAIMc. -/
  | EVC_PEEK
  /-- EVC_HOLDg (R427): Group hold-off. -/
  | EVC_HOLD
  /-- EVC_TCHn (R427): Tenant channel state. -/
  | EVC_TCH
  /-- EVC_PENDk (R427): Bit j: source 32k + j Pending or Active-and-pending. -/
  | EVC_PEND
  /-- EVC_ACTk (R427): Bit j: source 32k + j Active or Active-and-pending. -/
  | EVC_ACT
  /-- EVC_SRCs (R427): Source s. -/
  | EVC_SRC
  /-- PWR_RST_CAUSE (R453): Last device-wide reset and classes seen. -/
  | PWR_RST_CAUSE
  /-- PWR_BOOTCNT (R453): Start-up attempts under R441. -/
  | PWR_BOOTCNT
  /-- PWR_RST_CTL (R453): Sherex device reset. -/
  | PWR_RST_CTL
  /-- PWR_SUP_STAT (R453): Supply presence. -/
  | PWR_SUP_STAT
  /-- PWR_EVT (R453): Event causes. -/
  | PWR_EVT
  /-- PWR_EVEN (R453): Event enables. -/
  | PWR_EVEN
  /-- PWR_MODE_CTL (R453): Transaction start and unit reset. -/
  | PWR_MODE_CTL
  /-- PWR_MODE_STAT (R453): Transaction state. -/
  | PWR_MODE_STAT
  /-- PWR_MODE_TMO (R453): Prepare and rollback timeout. -/
  | PWR_MODE_TMO
  /-- PWR_MODE_CHAN (R453): Channels taking part. -/
  | PWR_MODE_CHAN
  /-- PWR_DOM_TGTk (R453): Target state of domains 32k to 32k + 31. -/
  | PWR_DOM_TGT
  /-- PWR_DOM_STATk (R453): Current state of the same domains. -/
  | PWR_DOM_STAT
  /-- PWR_MODE_UNITk (R453): States of units 8k to 8k + 7. -/
  | PWR_MODE_UNIT
  /-- PWR_TRST_CMD (R453): Tenant reset. -/
  | PWR_TRST_CMD
  /-- PWR_TRST_STAT (R453): Tenant reset state. -/
  | PWR_TRST_STAT
  /-- PWR_MNT_REQ (R453): Maintenance request. -/
  | PWR_MNT_REQ
  /-- PWR_MNT_RESP (R453): Answer to the last request. -/
  | PWR_MNT_RESP
  /-- PWR_MNT_DONE (R453): End an activity. -/
  | PWR_MNT_DONE
  /-- PWR_MNT_STAT (R453): Queue state. -/
  | PWR_MNT_STAT
  /-- PWR_MNT_ENTk (R453): Arbiter entry k. -/
  | PWR_MNT_ENT
  /-- MGP_BOARD (R469): SPD buses; loaded from the policy image. -/
  | MGP_BOARD
  /-- MGP_STAT (R469): Conflict summary. -/
  | MGP_STAT
  /-- MGP_PINi (R469): Pin i. -/
  | MGP_PIN
  /-- MGP_INk (R469): Bit j: IN of pin 32k + j. -/
  | MGP_IN
  /-- MGP_MAPm (R469): Peripheral signal m. -/
  | MGP_MAP
  /-- MGP_EVLn (R469): Event line n. -/
  | MGP_EVL
  /-- MGP_EVSTAT (R469): Bit n: event line n. -/
  | MGP_EVSTAT
  /-- MGP_I2CbCTL (R469): I2C control. -/
  | MGP_I2CCTL
  /-- MGP_I2CbCMD (R469): I2C transfer. -/
  | MGP_I2CCMD
  /-- MGP_I2CbSTAT (R469): I2C state. -/
  | MGP_I2CSTAT
  /-- MGP_I2CbDATAk (R469): 16-byte buffer, bytes 4k to 4k+3. -/
  | MGP_I2CDATA
  /-- MGP_UARTuCTL (R469): UART control. -/
  | MGP_UARTCTL
  /-- MGP_UARTuDATA (R469): FIFO access; the read dequeues. -/
  | MGP_UARTDATA
  /-- MGP_UARTuSTAT (R469): FIFO levels and errors. -/
  | MGP_UARTSTAT
  /-- MGP_SPIsCTL (R469): SPI control. -/
  | MGP_SPICTL
  /-- MGP_SPIsDATA (R469): Byte exchange. -/
  | MGP_SPIDATA
  /-- MGP_SPIsSTAT (R469): SPI state. -/
  | MGP_SPISTAT
  /-- MGP_PWMf (R469): Fan PWM. -/
  | MGP_PWM
  /-- MGP_TACHf (R469): Fan tach period. -/
  | MGP_TACH
  /-- KH_ID (R487): Part code and port version. -/
  | KH_ID
  /-- KH_SES (R487): Session and level. -/
  | KH_SES
  /-- KH_STAT (R487): Last fault. -/
  | KH_STAT
  /-- KH_DAHI (R487): DA[47:32] for DA frames. -/
  | KH_DAHI
  /-- KH_CHALk (R487): Challenge bytes 4k to 4k+3. -/
  | KH_CHAL
  /-- KH_RESPk (R487): Response bytes 4k to 4k+3. -/
  | KH_RESP
  /-- KH_AUTH (R487): Authentication request. -/
  | KH_AUTH
  /-- KH_CORE_CTL (R487): Core halt, step, resume. -/
  | KH_CORE_CTL
  /-- KH_CORE_STAT (R487): Core debug state. -/
  | KH_CORE_STAT
  /-- KH_PCSc_LO (R487): PC sample [31:0] of core c, taken without halting. -/
  | KH_PCS_LO
  /-- KH_PCSc_HI (R487): PC sample [63:32]. -/
  | KH_PCS_HI
  /-- KH_CREG_SEL (R487): Core register selection. -/
  | KH_CREG_SEL
  /-- KH_CREG_LO (R487): Data [31:0]. -/
  | KH_CREG_LO
  /-- KH_CREG_HI (R487): Data [63:32]. -/
  | KH_CREG_HI
  /-- KH_CREG_CMD (R487): Read or write. -/
  | KH_CREG_CMD
  /-- KH_TMB_CTL (R487): Engine halt, step, resume. -/
  | KH_TMB_CTL
  /-- KH_TMB_STAT (R487): State of the selected engine. -/
  | KH_TMB_STAT
  /-- KH_TREG_SEL (R487): Engine register selection. -/
  | KH_TREG_SEL
  /-- KH_TREG_DATA (R487): Data word. -/
  | KH_TREG_DATA
  /-- KH_TREG_CMD (R487): Read or write. -/
  | KH_TREG_CMD
  /-- KH_VT_TX (R487): Keeper to debugger; read side effect under R481. -/
  | KH_VT_TX
  /-- KH_VT_RX (R487): Debugger to Keeper. -/
  | KH_VT_RX
  /-- KH_VT_STAT (R487): Terminal flags. -/
  | KH_VT_STAT
  /-- KH_VT_EN (R487): Terminal event enables. -/
  | KH_VT_EN
  /-- KH_IMG_CTL (R487): Image length and state. -/
  | KH_IMG_CTL
  /-- KH_IMG_DATA (R487): Next 4 image bytes, little-endian. -/
  | KH_IMG_DATA
deriving DecidableEq, Repr

end Sys2Proof
end

