-- ==== Sys2Proof/Operand.lean ====
section
/-! DEFINITION. The operands the commands carry: who acts, and the shapes of the things commands name. -/

namespace Sys2Proof

/-- Who reaches a register: the Keeper firmware on a core, a DMA channel of the Keeper, the debugger, or the host of a head through
its BAR0 (R6, R411). -/
inductive Actor where
  | keeper (c : Fin 4)
  | dma (c : Fin 8)
  | debugger
  | host (n : Fin 16)
deriving DecidableEq, Repr

/-- The two domains with a source switch (R54). -/
inductive SwDomain where
  | kck
  | cck
deriving DecidableEq, Repr

/-- A divider with its own enable and divisor fields (R47). -/
inductive ClkDiv where
  | fck (n : Fin 32)
  | eck (l : Fin 4)
  | mck (c : Fin 12)
deriving DecidableEq, Repr

/-- What the clock block sees of a reference in one window of 400 KOSC cycles (R57): the rising edges in it, and the time
between the first and the last of them in eighths of a KOSC cycle. -/
structure RefWindow where
  edges : Nat
  span : Nat
deriving DecidableEq, Repr

/-- A physical channel of a knuckle group: group 0 joins L0 and L1, 1 L2 and L3, 2 L0 and L2, 3 L1 and L3 (R101). -/
structure KnkChannel where
  group : Fin 4
  phys : Fin 18
deriving DecidableEq, Repr

/-- A message the Keeper firmware asks a link port to originate (R374): a memory request with the DMA channel that issues it, an
MSI-X by its vector index, or any other type. -/
inductive KpMessage where
  | memRead (dma : Fin 8) (addr : BitVec 64) (len : Nat)
  | memWrite (dma : Fin 8) (addr : BitVec 64) (len : Nat)
  | msix (vector : Nat)
  | other
deriving DecidableEq, Repr

/-- The caching intent of a head's read, or the resulting state of its write (R271): none or I, shared, exclusive. -/
inductive Intent where
  | none
  | shared
  | excl
deriving DecidableEq, Repr

/-- What a host's CXL.mem request is known by: its tag and its requester's port ID (R253). -/
structure HostId where
  tag : Nat
  port : Nat
deriving DecidableEq, Repr

/-- What radiation or wear does to the stored word a command reads, before it reads it: the flipped positions of a codeword, and for a
DRAM line the differences of its devices. -/
structure Upset where
  bits : List Nat
  devs : List (Fin 10 × BitVec 64)
deriving DecidableEq, Repr

/-- No upset. -/
def Upset.none : Upset := ⟨[], []⟩

/-- How a request comes to its target: its flit, by its source endpoint and TXN; or an access a Keeper core or a DMA channel makes
now, with its bytes in their lanes where it writes. -/
inductive NetFrom where
  | flit (src : BitVec 13) (txn : BitVec 8)
  | core (c : Fin 4) (da : BitVec 48) (len : Nat) (data : BitVec 512)
  | dma (c : Fin 8) (da : BitVec 48) (len : Nat) (data : BitVec 512)
deriving DecidableEq, Repr

/-- What the controller does at a refresh interval of a rank (R305): a due one refreshes all banks, or one bank of each bank group, or is postponed; one
that is owed is made up, or one is pulled in, with its bank where one bank of each group is refreshed. -/
inductive RefreshAct where
  | all
  | bank (b : Fin 4)
  | postpone
  | pullIn (b : Fin 4)
deriving DecidableEq, Repr

/-- How an attempt starts (R233): from Detect, with the port lanes on which a receiver has been detected; or from Recovery, which an
error or the partner has caused, or a rate change or an equalisation request. -/
inductive AttemptFrom where
  | detect (found : BitVec 16)
  | recovery (counted : Bool) (equalise : Bool)
deriving DecidableEq, Repr

/-- The link that an attempt forms: its rate code, its width, flit mode, reversed lane order, whether both sides have agreed on CXL,
whether this training goes on with a further rate change, and the port ID the fabric manager has assigned, if it has. -/
structure LinkForm where
  rate : Fin 8
  width : Nat
  flit : Bool
  rev : Bool
  cxl : Bool
  more : Bool
  pid : Option (BitVec 12)
deriving DecidableEq, Repr

/-- The transitions of an Up link (R236): into L0p with the number of lanes that stay active, into L1 or L2, and back to L0. -/
inductive LowPower where
  | l0p (active : Nat)
  | l1
  | l2
  | l0
deriving DecidableEq, Repr

/-- The kinds of memory instance, in the order of their codes (R162). -/
inductive MemKind where
  | bram
  | vault
  | data
  | prog
deriving DecidableEq, Repr

/-- What an upset does to an entry of the signature store (R349): the flipped positions of its codeword, and of its three class bits. -/
structure SigFlips where
  code : List (Fin 39)
  cls : List (Fin 3)
deriving DecidableEq, Repr

/-- A supply other than the core's (R494): the two lane supplies of a leaf, a channel's VDDQ, and a user I/O bank's VCCIO. -/
inductive Supply where
  | vlane085 (l : Fin 4)
  | vlane120 (l : Fin 4)
  | vddq (n : Fin 12)
  | vccio (b : Fin 16)
deriving DecidableEq, Repr

/-- What the boot ROM reads from a flash: the 64 bytes of its directory, and the image at the offset that the directory gives (R326). -/
structure FlashRead where
  directory : List (BitVec 8)
  image : List (BitVec 8)
deriving DecidableEq, Repr

/-- How an I2C command ends (R459): with DONE and the bytes read, with NACK, or with arbitration lost. -/
inductive I2cEnd where
  | ok (bytes : List (BitVec 8))
  | nack
  | arbLost
deriving DecidableEq, Repr

end Sys2Proof
end

