-- ==== Sys2Proof/Syntax.lean ====
section
/-! DEFINITION. The commands the block takes, one constructor per row of spec/opcode_table.json. -/

namespace Sys2Proof

/-- The commands. -/
inductive Instr where
  /-- REGISTER_WRITE (R9): A write to a register that has no row of its own takes effect field by field under its access codes, with reserved fields ignored and reserved encodings keeping the old value. -/
  | registerWrite (actor : Actor) (r : RegName) (i : Nat) (v : Word)
  /-- CLEARING_READ (R10): A read of an RC field returns its value and then clears it, keeping any setting or increment made in the same access cycle. -/
  | clearingRead (r : RegName) (i : Nat) (same : Word)
  /-- SUPPLIES_GOOD (R446): VCCINT, VCCAUX and VCC33 have been above their thresholds for 200 us, so power-on reset is released and KOSC is enabled. -/
  | suppliesGood (khLow : Bool)
  /-- POWER_ON_RESET (R446): A core supply falls below its threshold for 2 us or more, and the device is held in power-on reset. -/
  | powerOnReset
  /-- KOSC_STABLE (R40): KOSC completes 8,192 cycles and is declared stable, which is step 2 of the start-up. -/
  | koscStable (xsel : BitVec 1) (xdly : BitVec 2) (bootMode : BitVec 3)
  /-- CRYSTAL_DELAY_COMPLETE (R41): The XDLY crystal delay timed by KOSC ends, which is step 3 of the start-up. -/
  | crystalDelayComplete (w : RefWindow)
  /-- REFERENCE_PRESENT (R41): 1,024 consecutive reference edges arrive with no long gap, so the reference is declared present. -/
  | referencePresent
  /-- ROOT_PLL_LOCK (R41): All four root PLLs lock at the root frequency. -/
  | rootPllLock
  /-- LEAF_ALIGNED (R41): L1, L2 and L3 are aligned to L0 within 20 ps, which completes step 6. -/
  | leafAligned
  /-- STARTUP_TIMEOUT (R42): A start-up step exceeds its timeout, and a clock-fail reset with CAUSE 5 follows. -/
  | startupTimeout
  /-- CLOCK_FAIL_RESET (R61): A device-wide clock-fail reset records its cause, increments PWR_BOOTCNT and begins a new attempt at step 2. -/
  | clockFailReset (cause : Fin 8) (leaf : Fin 4) (stepNo : Fin 8)
  /-- KNUCKLE_TEST_COMPLETE (R98): The reset-time test pattern over every physical knuckle channel ends, and failing channels are retired before first use. -/
  | knuckleTestComplete (failing : List KnkChannel)
  /-- MULT_WRITE (R43): A write of a new valid MULT starts a relock of all root PLLs, or is ignored with REJECT when a clock is on the root or the root is sealed. -/
  | multWrite (v : Word)
  /-- ROOT_SEAL (R44): A write of 1 to CLK_ROOT_CFG.SEALED seals the root frequency until the next device-wide reset. -/
  | rootSeal
  /-- RELOCK_COMPLETE (R43): A commanded relock reaches lock and alignment, sets a new epoch, restarts TBC and resumes the DTC. -/
  | relockComplete
  /-- RELOCK_TIMEOUT (R45): A commanded relock has not reached lock and alignment within 1 ms, and a clock-fail reset follows. -/
  | relockTimeout
  /-- ALIGNMENT_FAULT (R46): Phase error out of range or PLL lock loss lasts 16 consecutive monitor windows, which is a clock failure. -/
  | alignmentFault (leaf : Fin 4)
  /-- DIVIDER_ENABLE (R49): A write of a divider EN field starts or stops a root-derived clock, and the first enable seals the root. -/
  | dividerEnable (d : ClkDiv) (en : Bool)
  /-- DIVISOR_CHANGE (R50): A committed divisor change takes effect at the first root edge that is a multiple of the lcm of the old and new divisors. -/
  | divisorChange (n : Nat)
  /-- SOURCE_SWITCH (R54): A write of SRC for KCK or CCK starts a glitch-free switch, or is held while a switch is busy. -/
  | sourceSwitch (d : SwDomain) (root : Bool)
  /-- SWITCH_COMPLETE (R54): The new clock drives the switched domain, BUSY clears and any held SRC write is applied. -/
  | switchComplete (d : SwDomain)
  /-- FORCED_SWITCH (R55): The old clock has not stopped within 16 new-clock cycles, so the switch forces the output low and sets FORCED. -/
  | forcedSwitch (d : SwDomain)
  /-- MONITOR_WINDOW (R57): A 400-KOSC-cycle monitor window ends, and the reference frequency is measured and judged in or out of range. -/
  | monitorWindow (w : RefWindow) (err1 : BitVec 8) (err2 : BitVec 8) (err3 : BitVec 8) (lock : BitVec 4)
  /-- MONITOR_RESET (R58): The count of consecutive out-of-range windows reaches 16, and a clock-fail reset follows. -/
  | monitorReset
  /-- KOSC_FAULT (R62): KOSC is more than 10 % off 400 MHz in 16 consecutive TBC windows, and a clock-fail reset follows. -/
  | koscFault (counts : List Nat)
  /-- LANE_REFERENCE_WINDOW (R63): A check window of LREFCLKn ends and is judged in or out of range. -/
  | laneReferenceWindow (n : Fin 8) (w : RefWindow)
  /-- LANE_REFERENCE_PRESENT (R63): LREFCLKn has been in range for 16 consecutive windows, so PRESENT[n] becomes 1 and the port's heads may train. -/
  | laneReferencePresent (n : Fin 8)
  /-- LANE_REFERENCE_LOST (R63): A present LREFCLKn is out of range for 4 consecutive windows, so PRESENT clears, LOST is set, both heads go down and the event is raised. -/
  | laneReferenceLost (n : Fin 8)
  /-- DTC_LO_READ (R66): A read of CLK_DTC_LO returns the low DTC bits and copies the high bits into CLK_DTC_HI. -/
  | dtcLoRead
  /-- READ (R77): A READ request reaches its target endpoint, is checked and served, and a response is sent back to the stamped requester. -/
  | read (f : NetFrom) (ups : List (List Nat)) (u : Upset) (parity : BitVec 16) (damage : Option (Fin 1152))
  /-- WRITE (R77): A WRITE command flit and its data flit reach the target, are checked and stored, and an ACK or ERROR is returned. -/
  | write (f : NetFrom) (ups : List (List Nat)) (u : Upset) (parity : BitVec 16) (damage : Option (Fin 1152))
  /-- REG_READ (R83): A register read reaches the register hub, is forwarded to the block that holds the register and answered. -/
  | regRead (f : NetFrom) (damage : Option (Fin 1152))
  /-- REG_WRITE (R83): A register write reaches the register hub, is forwarded to the block that holds the register and acknowledged. -/
  | regWrite (f : NetFrom) (damage : Option (Fin 1152))
  /-- DATA (R75): A DATA response arrives at the source endpoint and completes its outstanding request. -/
  | data (src : BitVec 13) (txn : BitVec 8) (damage : Option (Fin 1152))
  /-- DATA_POISONED (R99): A DATA_POISONED response arrives at the source endpoint and completes its request with poisoned data. -/
  | dataPoisoned (src : BitVec 13) (txn : BitVec 8) (damage : Option (Fin 1152))
  /-- ACK (R75): An ACK response arrives at the source endpoint and completes its write. -/
  | ack (src : BitVec 13) (txn : BitVec 8) (damage : Option (Fin 1152))
  /-- ERROR (R99): An ERROR response arrives at the source endpoint, completes its request as failed and is logged where its code requires. -/
  | error (src : BitVec 13) (txn : BitVec 8) (damage : Option (Fin 1152))
  /-- ACCESS_PORT_REQUEST (R91): An access port accepts a request from the fabric design, stamps it and sends it into the network. -/
  | accessPortRequest (a : Fin 640) (write : Bool) (txn : Fin 64) (da : BitVec 48) (len : Fin 64) (data : BitVec 512)
  /-- ACCESS_PORT_RESPONSE (R92): An access port hands a response to the fabric design on the RSP handshake. -/
  | accessPortResponse (a : Fin 640)
  /-- TIMEOUT (R94): A source's KRV_TMO window ends without a response, so the request completes with code 0x08 and its TXN is quarantined. -/
  | timeout (src : BitVec 13) (txn : BitVec 8)
  /-- LATE_RESPONSE (R94): A response to a timed-out request arrives, is discarded and counted in KRV_LATE, and its TXN is released. -/
  | lateResponse (src : BitVec 13) (txn : BitVec 8)
  /-- KRV_TMO_WRITE (R214): A write of KRV_TMO is applied to later requests, or refused when it would not exceed the BOUND of every enabled window. -/
  | krvTmoWrite (v : Word)
  /-- KNUCKLE_CRC_MISMATCH (R96): A knuckle receiver finds a CRC mismatch, discards flits and asks for a replay, and a fifth mismatch of one flit begins retirement. -/
  | knuckleCrcMismatch (g : Fin 4) (n : Fin 16) (sameFlit : Bool)
  /-- REPLAY_COMPLETE (R96): The replayed flits arrive with good CRC and the channel returns to Active. -/
  | replayComplete (g : Fin 4) (n : Fin 16)
  /-- REPLAY_MAX_REACHED (R96): A channel's replay count in its window reaches REPLAY_MAX, and retirement begins. -/
  | replayMaxReached (g : Fin 4) (n : Fin 16)
  /-- KNUCKLE_STALL (R96): A knuckle handshake with flits pending does not complete within 1 us, and retirement begins. -/
  | knuckleStall (g : Fin 4) (n : Fin 16)
  /-- REMAP_COMPLETE (R97): A knuckle remap finishes and the paused logical channels resume with their unacknowledged flits resent. -/
  | remapComplete (g : Fin 4)
  /-- KNUCKLE_RESTORE (R98): A write of RESTORE starts a retest of every retired or failed physical channel of the group. -/
  | knuckleRestore (g : Fin 4)
  /-- RESTORE_COMPLETE (R98): The retest and the remaps of a restore finish, passing channels become spares and BUSY clears. -/
  | restoreComplete (g : Fin 4) (passing : List Nat)
  /-- VIOLATION_REPORT (R282): A checkpoint's violation report reaches the COH block, which appends a record and increments the tenant counters. -/
  | violationReport
  /-- CHECKER_SELF_TEST_DONE (R154): An instance's self-test finishes and sets USABLE, or marks the instance unusable and spares bad. -/
  | checkerSelfTestDone (kind : MemKind) (i : Nat) (pass : Bool) (badSpares : BitVec 8)
  /-- SCRUB_TICK (R155): A scrubber tick makes every enabled instance of the leaf due for its slots. -/
  | scrubTick (leaf : Fin 4)
  /-- MEM_PASS_BOUNDARY (R155): A memory scrub pass ends, PASS increments and a new PERIOD takes effect. -/
  | memPassBoundary (leaf : Fin 4)
  /-- SCRUB_SLOT (R157): An instance takes a due slot in an idle cycle, reads and decodes its next word or a directed word and classifies any correction. -/
  | scrubSlot (kind : MemKind) (i : Nat) (bank : Fin 4) (flips : List Nat)
  /-- FORCED_SCRUB_SLOT (R157): After 64 consecutive busy cycles a vault bank, data memory bank or program memory takes a scrub slot by force. -/
  | forcedScrubSlot (kind : MemKind) (i : Nat) (bank : Fin 4) (flips : List Nat)
  /-- COMPARE_AND_WRITE (R158): In its next slot an instance writes back a corrected codeword, unless a user write has changed the word since. -/
  | compareAndWrite (kind : MemKind) (i : Nat) (bank : Fin 4) (flips : List Nat)
  /-- MEM_REMAP_ADD (R161): A write of MEM_RMP_CMD.ADD requests a firmware-directed remap of a word, or sets FAIL. -/
  | memRemapAdd (v : Word)
  /-- FIRMWARE_REMAP_COPY (R161): In its next slot the instance copies the selected word into a spare and sets the remap entry valid. -/
  | firmwareRemapCopy (flips : List Nat)
  /-- MEM_LOG_POP (R162): A write of MEM_LOG_CTLn.POP discards the oldest record of the leaf's log ring. -/
  | memLogPop (leaf : Fin 4) (v : Word)
  /-- NOP (R169): A tumbler slot with opcode 0x00 does nothing. -/
  | nop (e : Fin 512) (slot : Fin 3)
  /-- ADD (R177): Scalar rd gets rs plus rt. -/
  | add (e : Fin 512)
  /-- SUB (R177): Scalar rd gets rs minus rt. -/
  | sub (e : Fin 512)
  /-- AND (R177): Scalar rd gets rs and rt. -/
  | and (e : Fin 512)
  /-- OR (R177): Scalar rd gets rs or rt. -/
  | or (e : Fin 512)
  /-- XOR (R177): Scalar rd gets rs exclusive-or rt. -/
  | xor (e : Fin 512)
  /-- SLL (R177): Scalar rd gets rs shifted left by rt[4:0]. -/
  | sll (e : Fin 512)
  /-- SRL (R177): Scalar rd gets rs shifted right logically by rt[4:0]. -/
  | srl (e : Fin 512)
  /-- SRA (R177): Scalar rd gets rs shifted right arithmetically by rt[4:0]. -/
  | sra (e : Fin 512)
  /-- SLT (R177): Scalar rd gets 1 if rs is below rt signed, else 0. -/
  | slt (e : Fin 512)
  /-- SLTU (R177): Scalar rd gets 1 if rs is below rt unsigned, else 0. -/
  | sltu (e : Fin 512)
  /-- MUL (R177): Scalar rd gets the low 32 bits of rs times rt, with latency 2. -/
  | mul (e : Fin 512)
  /-- MULH (R177): Scalar rd gets the signed high 32 bits of rs times rt, with latency 2. -/
  | mulh (e : Fin 512)
  /-- MIN (R177): Scalar rd gets the signed minimum of rs and rt. -/
  | min (e : Fin 512)
  /-- MAX (R177): Scalar rd gets the signed maximum of rs and rt. -/
  | max (e : Fin 512)
  /-- ADDI (R177): Scalar rd gets rs plus the sign-extended IMM17. -/
  | addi (e : Fin 512)
  /-- ANDI (R177): Scalar rd gets rs and the zero-extended IMM17. -/
  | andi (e : Fin 512)
  /-- ORI (R177): Scalar rd gets rs or the zero-extended IMM17. -/
  | ori (e : Fin 512)
  /-- XORI (R177): Scalar rd gets rs exclusive-or the zero-extended IMM17. -/
  | xori (e : Fin 512)
  /-- SLLI (R177): Scalar rd gets rs shifted left by IMM17[4:0]. -/
  | slli (e : Fin 512)
  /-- SRLI (R177): Scalar rd gets rs shifted right logically by IMM17[4:0]. -/
  | srli (e : Fin 512)
  /-- SRAI (R177): Scalar rd gets rs shifted right arithmetically by IMM17[4:0]. -/
  | srai (e : Fin 512)
  /-- LUI (R177): Scalar rd gets IMM17[14:0] shifted left by 17. -/
  | lui (e : Fin 512)
  /-- NORM (R182): NORM writes rs shifted by its redundant sign bits to s(RD) and the count to s(RD+1). -/
  | norm (e : Fin 512)
  /-- EXP (R182): EXP writes the unbiased binary32 exponent of rs. -/
  | exp (e : Fin 512)
  /-- SATS (R181): SATS shifts, rounds and saturates a scalar to WM1+1 bits. -/
  | sats (e : Fin 512)
  /-- PSET (R177): PSET writes rs[15:0] into field F of pointer P. -/
  | pset (e : Fin 512)
  /-- PGET (R177): PGET reads field F of pointer P into rd. -/
  | pget (e : Fin 512)
  /-- BR (R172): BR branches to TARGET after two delay slots. -/
  | br (e : Fin 512)
  /-- BEQZ (R177): BEQZ branches to TARGET if rs is zero. -/
  | beqz (e : Fin 512)
  /-- BNEZ (R177): BNEZ branches to TARGET if rs is nonzero. -/
  | bnez (e : Fin 512)
  /-- BLTZ (R177): BLTZ branches to TARGET if rs is negative. -/
  | bltz (e : Fin 512)
  /-- BGEZ (R177): BGEZ branches to TARGET if rs is zero or positive. -/
  | bgez (e : Fin 512)
  /-- CALL (R177): CALL writes its address plus 3 to s31 and branches to TARGET. -/
  | call (e : Fin 512)
  /-- RET (R177): RET branches to s31[9:0]. -/
  | ret (e : Fin 512)
  /-- RETI (R192): RETI returns to EPC in the primary bank, or re-enters the handler if an enabled cause is pending. -/
  | reti (e : Fin 512)
  /-- LOOP (R186): LOOP sets up a loop level with the count taken from rs. -/
  | loop (e : Fin 512)
  /-- LOOPI (R186): LOOPI sets up a loop level with an immediate count. -/
  | loopi (e : Fin 512)
  /-- LCLR (R177): LCLR clears ACTIVE of loop level LV. -/
  | lclr (e : Fin 512)
  /-- WAITN (R176): WAITN holds issue until NOUT is at most K. -/
  | waitn (e : Fin 512)
  /-- WAITE (R194): WAITE stops issue and puts the engine into Sleeping. -/
  | waite (e : Fin 512)
  /-- DONE (R194): DONE stops issue and takes the engine to Idle once its network operations and results have completed. -/
  | done (e : Fin 512)
  /-- SWI (R177): SWI sets EVT.SWI. -/
  | swi (e : Fin 512)
  /-- MFC (R167): MFC reads a control register into rd. -/
  | mfc (e : Fin 512)
  /-- MTC (R167): MTC writes rs to a control register under that register's access codes. -/
  | mtc (e : Fin 512)
  /-- VADD (R178): VADD adds vectors element-wise with wrap. -/
  | vadd (e : Fin 512)
  /-- VSUB (R178): VSUB subtracts vectors element-wise with wrap. -/
  | vsub (e : Fin 512)
  /-- VMUL (R178): VMUL keeps the low bits of each element product. -/
  | vmul (e : Fin 512)
  /-- VAND (R178): VAND ands two vectors bitwise. -/
  | vand (e : Fin 512)
  /-- VOR (R178): VOR ors two vectors bitwise. -/
  | vor (e : Fin 512)
  /-- VXOR (R178): VXOR exclusive-ors two vectors bitwise. -/
  | vxor (e : Fin 512)
  /-- VSHL (R178): VSHL shifts each element left by a scalar amount. -/
  | vshl (e : Fin 512)
  /-- VSRA (R178): VSRA shifts each element right arithmetically by a scalar amount. -/
  | vsra (e : Fin 512)
  /-- VMIN (R178): VMIN takes the element-wise minimum. -/
  | vmin (e : Fin 512)
  /-- VMAX (R178): VMAX takes the element-wise maximum. -/
  | vmax (e : Fin 512)
  /-- VBCAST (R178): VBCAST fills every element from a scalar. -/
  | vbcast (e : Fin 512)
  /-- VGET (R178): VGET moves one vector element into a scalar. -/
  | vget (e : Fin 512)
  /-- VMAC (R179): VMAC adds the product of two vectors to an accumulator. -/
  | vmac (e : Fin 512)
  /-- VMSU (R179): VMSU subtracts the product of two vectors from an accumulator. -/
  | vmsu (e : Fin 512)
  /-- VMPY (R179): VMPY writes the product of two vectors into an accumulator. -/
  | vmpy (e : Fin 512)
  /-- VMACB (R180): VMACB adds aligned BFP16 products to the A64 lanes of an accumulator. -/
  | vmacb (e : Fin 512)
  /-- VMPYB (R180): VMPYB writes aligned BFP16 products into the A64 lanes of an accumulator. -/
  | vmpyb (e : Fin 512)
  /-- ACLR (R178): ACLR clears an accumulator and sets its AEXP. -/
  | aclr (e : Fin 512)
  /-- VSAT (R181): VSAT shifts, rounds and saturates accumulator lanes into a vector. -/
  | vsat (e : Fin 512)
  /-- AMOV (R178): AMOV copies an accumulator slice into a vector. -/
  | amov (e : Fin 512)
  /-- AMOVI (R178): AMOVI writes a vector into an accumulator slice. -/
  | amovi (e : Fin 512)
  /-- AGETE (R178): AGETE reads an accumulator's AEXP into a scalar. -/
  | agete (e : Fin 512)
  /-- VCLS (R182): VCLS counts the redundant sign bits of each element. -/
  | vcls (e : Fin 512)
  /-- VEXP (R182): VEXP extracts the exponent of each binary32 element. -/
  | vexp (e : Fin 512)
  /-- BNORM (R183): BNORM normalises the INT16 mantissas of each block and lowers its exponent. -/
  | bnorm (e : Fin 512)
  /-- BNORMA (R184): BNORMA converts the A64 lanes of an accumulator to a BFP16 vector. -/
  | bnorma (e : Fin 512)
  /-- LDB (R201): LDB loads a sign-extended byte. -/
  | ldb (e : Fin 512) (flips : List Nat)
  /-- LDBU (R201): LDBU loads a zero-extended byte. -/
  | ldbu (e : Fin 512) (flips : List Nat)
  /-- LDH (R201): LDH loads a sign-extended halfword. -/
  | ldh (e : Fin 512) (flips : List Nat)
  /-- LDHU (R201): LDHU loads a zero-extended halfword. -/
  | ldhu (e : Fin 512) (flips : List Nat)
  /-- LDW (R201): LDW loads a word. -/
  | ldw (e : Fin 512) (flips : List Nat)
  /-- STB (R175): STB stores the low byte of a scalar in the next cycle. -/
  | stb (e : Fin 512)
  /-- STH (R175): STH stores the low halfword of a scalar in the next cycle. -/
  | sth (e : Fin 512)
  /-- STW (R175): STW stores a scalar word in the next cycle. -/
  | stw (e : Fin 512)
  /-- LDV (R201): LDV loads 64 bytes into a vector register. -/
  | ldv (e : Fin 512) (flips : List (List Nat))
  /-- STV (R201): STV stores a vector register as 64 bytes. -/
  | stv (e : Fin 512)
  /-- SSEND (R197): SSEND sends a vector on a neighbour link when a credit is held, or discards it on a closed link. -/
  | ssend (e : Fin 512)
  /-- SRECV (R197): SRECV takes the oldest vector from an input FIFO and returns its credit. -/
  | srecv (e : Fin 512)
  /-- NGET (R202): NGET issues a network read whose returned bytes are written to local memory. -/
  | nget (e : Fin 512)
  /-- NPUT (R202): NPUT reads local bytes and issues them as a network WRITE. -/
  | nput (e : Fin 512)
  /-- RESULT_LANDING (R172): A pipelined result is written to its register at the end of cycle t + L - 1. -/
  | resultLanding (e : Fin 512)
  /-- STREAM_ARRIVAL (R197): A sent vector enters the receiver's input FIFO one cycle after it was sent. -/
  | streamArrival (e : Fin 512) (d : Fin 4)
  /-- EVENT_ENTRY (R190): An enabled pending cause is recognised, EPC is written and the engine enters its handler in the shadow bank. -/
  | eventEntry (e : Fin 512)
  /-- UNCORRECTABLE_FETCH (R193): A fetched bundle is uncorrectable, is not issued, and the engine becomes Faulted. -/
  | uncorrectableFetch (e : Fin 512) (flips : List Nat)
  /-- TIMER (R167): CYC equals TCMP and EVT.TIMER is set. -/
  | timer (e : Fin 512)
  /-- FORCED_NETWORK_ACCESS (R199): A network access that has waited 16 cycles for data-memory banks takes them and holds issue for one cycle. -/
  | forcedNetworkAccess (e : Fin 512) (src : BitVec 13) (txn : BitVec 8) (ups : List (List Nat))
  /-- WRSP (R217): A write of WRSP removes the head window request, reads the named line and sends it as the reply. -/
  | wrsp (e : Fin 512) (v : Word)
  /-- ENGINE_STOP (R194): A stop request halts issue, lets in-flight results land and takes the engine to Idle. -/
  | engineStop (e : Fin 512)
  /-- TMB_CFG_WRITE (R205): A write of TMB_CFGe changes an engine's set membership, or is refused with REJECT. -/
  | tmbCfgWrite (e : Fin 512) (v : Word)
  /-- SET_CFG_WRITE (R205): A write of TMB_SETs_CFG creates, deletes, retenants or marks a set for window use, or is refused. -/
  | setCfgWrite (k : Fin 64) (v : Word)
  /-- CLEARING_END (R206): An engine's clearing finishes after 1,024 KOSC cycles and CLEARING drops. -/
  | clearingEnd (e : Fin 512)
  /-- JOB_GO (R209): A write of TMB_SETs_JOB.GO starts a job on every live member at ENTRY, or is refused. -/
  | jobGo (k : Fin 64) (v : Word)
  /-- JOB_END (R213): A job ends when every member is Idle and its last network operation has completed, setting END and raising JOBEND. -/
  | jobEnd (k : Fin 64)
  /-- JOB_TIMEOUT (R213): The DTC reaches the start stamp plus TMO for a non-window set, and every member is sent a stop request. -/
  | jobTimeout (k : Fin 64)
  /-- SET_STOP (R213): A write of TMB_SETs_STOP stops every member and ends the job STOPPED. -/
  | setStop (k : Fin 64) (v : Word)
  /-- TMB_SETS_DB (R212): A write of TMB_SETs_DB sets DBCAUSE.KEEPER in every live member. -/
  | tmbSetsDb (k : Fin 64) (v : Word)
  /-- WINDOW_ENABLE (R214): A write of TMB_TWw_CFG.EN enables a transform window or clears it, or is refused with REJECT. -/
  | windowEnable (w : Fin 16) (v : Word)
  /-- WINDOW_READ (R215): A host read of a transform window at the link port is dispatched to a live member, or answered poisoned. -/
  | windowRead (n : Fin 16) (id : HostId) (dpa : Nat)
  /-- WINDOW_WRITE (R216): A host write to an owned enabled window completes with no effect and is counted. -/
  | windowWrite (n : Fin 16) (id : HostId) (dpa len : Nat) (data : BitVec 512)
  /-- WINDOW_BOUND_EXPIRY (R218): A window read's BOUND ends without a reply, so the host gets a poisoned line and OVERRUN is counted. -/
  | windowBoundExpiry (src : BitVec 13) (txn : BitVec 8)
  /-- ENGINE_SELF_TEST (R221): A write of TMB_CTLe.TEST starts the engine self-test on an Idle engine. -/
  | engineSelfTest (e : Fin 512)
  /-- ENGINE_SELF_TEST_DONE (R221): An engine self-test completes, setting TESTED or retiring the engine, and raises TESTDONE. -/
  | engineSelfTestDone (e : Fin 512) (sig : Word)
  /-- ENGINE_RESTORE (R222): A write of TMB_CTLe.RESTORE retests a retired engine and returns it to the live mask if it passes. -/
  | engineRestore (e : Fin 512)
  /-- PLL_LOCK (R225): A half-port transmit PLL locks and PLLOCK reads 1. -/
  | pllLock (p : Fin 8) (h : Fin 2)
  /-- ATTEMPT_START (R233): The LTSSM leaves Detect or enters Recovery from L0, L0p or L1, which starts a training attempt. -/
  | attemptStart (n : Fin 16) (start : AttemptFrom)
  /-- ATTEMPT_SUCCESS (R236): An attempt reaches L0, k is reset, lanes that never locked are charged and UP is raised if it started from Detect. -/
  | attemptSuccess (n : Fin 16) (f : LinkForm)
  /-- ATTEMPT_FAILURE (R236): The LTSSM returns to Detect before L0, lanes are charged and the head enters Backoff. -/
  | attemptFailure (n : Fin 16)
  /-- TRAIN_TIMEOUT (R233): An attempt exceeds LNK_TMOp.TRAIN, and the device directs the LTSSM to Detect as a failed attempt. -/
  | trainTimeout (n : Fin 16)
  /-- BACKOFF_END (R235): The exponential backoff wait ends and the LTSSM starts again at Detect. -/
  | backoffEnd (n : Fin 16)
  /-- LINK_DOWN (R236): An Up link goes to Detect without passing through Recovery, which raises DOWN without charging any lane. -/
  | linkDown (n : Fin 16)
  /-- LOW_POWER_TRANSITION (R236): The LTSSM enters L0p, L1 or L2, or returns from L0p or L1 to L0, and the head stays Up. -/
  | lowPowerTransition (n : Fin 16) (dir : LowPower)
  /-- L2_EXIT (R236): The LTSSM leaves L2 for Detect and the head trains without an event. -/
  | l2Exit (n : Fin 16)
  /-- HEAD_RESET (R444): PERST_N[n] goes low or a hot reset arrives, resetting the head's link, windows, grants, ring registers, cache ways and directory entries. -/
  | headReset (n : Fin 16) (hot : Bool)
  /-- PERST_N_HIGH (R236): PERST_N[n] goes high while HOLD is 0 and the head starts training or waits for its reference. -/
  | perstNHigh (n : Fin 16)
  /-- HOLD_WRITE (R236): A write of LNK_HCTLp_h.HOLD releases the head to train or holds it in Detect. -/
  | holdWrite (n : Fin 16) (hold : Bool)
  /-- HCTL_RETRAIN (R249): A write of RETRAIN directs the LTSSM from L0 to Recovery. -/
  | hctlRetrain (n : Fin 16)
  /-- REDETECT (R249): A write of REDETECT directs the LTSSM to Detect and takes the link down. -/
  | redetect (n : Fin 16)
  /-- EQUALISATION_REQUEST (R238): A partner's transmitter preset or coefficient request is accepted within the bound or rejected. -/
  | equalisationRequest (lane : Fin 128) (pre : BitVec 6) (post : BitVec 6)
  /-- LNK_RESTORE (R244): A write of LNK_RETp.RESTORE ends a lane's retirement and loopback and turns its termination back on. -/
  | lnkRestore (p : Fin 8) (v : Word)
  /-- LOOPBACK_MODE_WRITE (R246): A write of LNK_LLBp_l.MODE starts a near-end loopback on an eligible lane, or is ignored with REJECT. -/
  | loopbackModeWrite (lane : Fin 128) (v : Word)
  /-- FAR_END_LOOPBACK (R247): The partner directs the link into Loopback, and the device follows and raises FELB. -/
  | farEndLoopback (n : Fin 16) (lanes : BitVec 16)
  /-- CXL_MEM_READ (R256): A host CXL.mem read reaches the link port, is translated and sent into the network, and its outcome is returned to the host. -/
  | cxlMemRead (n : Fin 16) (id : HostId) (dpa : Nat) (intent : Intent)
  /-- CXL_MEM_WRITE (R257): A host CXL.mem write is translated and sent, and its completion is returned only after the ACK. -/
  | cxlMemWrite (n : Fin 16) (id : HostId) (dpa : Nat) (len : Nat) (data : BitVec 512) (keep : Intent)
  /-- PT_READ (R262): COH_PT_CMD with OP READ loads a partition entry into the DATA registers. -/
  | ptRead (v : Word)
  /-- ASSIGN (R262): COH_PT_CMD with OP ASSIGN assigns a FREE extent, clearing it first when it is not clean. -/
  | assign (v : Word)
  /-- NARROW (R262): COH_PT_CMD with OP NARROW narrows an extent's masks and walks the directory where needed. -/
  | narrow (v : Word)
  /-- RELEASE (R262): COH_PT_CMD with OP RELEASE denies requests to an extent and drains, walks and clears it. -/
  | release (v : Word)
  /-- PT_IN_FORCE (R264): An accepted partition command is in force at every front end and COH_PT_STAT.BUSY clears. -/
  | ptInForce
  /-- DRAIN_COMPLETE (R263): The drain of a released extent completes, so a HOST extent becomes FREE or clearing starts. -/
  | drainComplete (ext : Nat)
  /-- EXTENT_CLEARING_COMPLETE (R263): The last line of an extent is cleared, so CLEAN is set and the extent comes into force or becomes FREE. -/
  | extentClearingComplete (ext : Nat)
  /-- WALK_COMPLETE (R264): A directory walk finishes, ending a NARROW or RELEASE drain or a fence. -/
  | walkComplete (leaf : Fin 4) (damaged : List (Fin 1048576))
  /-- BACKGROUND_CHECK (R261): The background check decodes a partition entry, corrects a single-bit error or marks the entry uncorrectable. -/
  | backgroundCheck (chan : Option (Fin 12)) (ext : Nat) (bad : Bool)
  /-- REPLICA_RELOAD (R261): A front end reloads an uncorrectable replica entry from the master copy. -/
  | replicaReload (chan : Fin 12) (ext : Nat)
  /-- SNP_INV (R270): An SNP_INV snoop reaches a head endpoint and is passed to the host as a back-invalidate snoop. -/
  | snpInv (n : Fin 16) (line : Nat)
  /-- SNP_DATA (R270): An SNP_DATA snoop reaches a head endpoint and is passed to the host. -/
  | snpData (n : Fin 16) (line : Nat)
  /-- RSP_I (R270): A host's RSP_I reaches the directory, which frees or updates the pending line. -/
  | rspI (n : Fin 16) (line : Nat)
  /-- RSP_S (R270): A host's RSP_S reaches the directory, which updates the pending line. -/
  | rspS (n : Fin 16) (line : Nat)
  /-- RSP_I_DATA (R270): A host's RSP_I_DATA reaches the directory, and its dirty data is written to DRAM. -/
  | rspIData (n : Fin 16) (line : Nat) (data : BitVec 512)
  /-- RSP_S_DATA (R270): A host's RSP_S_DATA reaches the directory, and its dirty data is written to DRAM. -/
  | rspSData (n : Fin 16) (line : Nat) (data : BitVec 512)
  /-- SNOOP_TIMEOUT (R275): A snoop's COH_BITMO window ends without a response, so the snoop fails and the head is fenced. -/
  | snoopTimeout (n : Fin 16) (line : Nat)
  /-- HOST_FILL (R279): A device-cache fill or ownership answer arrives from the host and the forwarded request is served. -/
  | hostFill (n : Fin 16) (line : Nat) (own : Bool) (poison : Bool) (data : BitVec 512) (u : Upset)
  /-- HOST_SNOOP (R278): A host's CXL.cache snoop to the port's device cache is answered as the standard defines. -/
  | hostSnoop (n : Fin 16) (line : Nat) (inv : Bool) (u : Upset)
  /-- RANGE_READ (R285): COH_XM_CMD with OP 1 reads a head's translation range into the DATA registers. -/
  | rangeRead (v : Word)
  /-- RANGE_WRITE (R285): COH_XM_CMD with OP 2 writes a head's translation range, applying it to later requests. -/
  | rangeWrite (v : Word)
  /-- COH_VLOG_POP (R282): A write of COH_VLOG_CTL.POP discards the oldest violation record. -/
  | cohVlogPop (v : Word)
  /-- SCHEDULER_SERVE (R294): A subchannel scheduler serves a queued read or write under its priority, drain and age rules. -/
  | schedulerServe (n : Fin 12) (sc : Fin 2) (u : Upset)
  /-- DEMAND_SCRUB (R299): A posted corrected line is reread in an idle slot, classified and written back unless a write has intervened. -/
  | demandScrub (n : Fin 12) (sc : Fin 2) (u : Upset)
  /-- PATROL_READ (R300): The DRAM patrol reads its next line when the read queue has room, classifies it and writes corrections back. -/
  | patrolRead (n : Fin 12) (u : Upset)
  /-- ROW_COPY_COMPLETE (R303): The copy of a retired row's 128 lines into its spare row finishes. -/
  | rowCopyComplete (n : Fin 12)
  /-- PERMWIN_WINDOW (R301): A PERMWIN window ends and the per-device correction counts start again. -/
  | permwinWindow (n : Fin 12)
  /-- DDR_REMAP_ADD (R304): A write of DDR_RMP_CMDn.ADD adds a line remap or row retirement, or sets FAIL. -/
  | ddrRemapAdd (n : Fin 12) (v : Word)
  /-- REFRESH (R305): A refresh interval of a rank falls due and REFab or REFsb is issued, postponed or pulled in. -/
  | refresh (n : Fin 12) (rank : Fin 8) (act : RefreshAct)
  /-- MR4_POLL (R306): Every 32 ms the controller reads each rank's temperature and sets or clears its HOT flag. -/
  | mr4Poll (n : Fin 12) (readouts : List (Fin 8 × Nat))
  /-- SELF_REFRESH_ENTRY (R307): The queues have been empty for SRIDLE, so power-saving self-refresh entry is issued. -/
  | selfRefreshEntry (n : Fin 12)
  /-- SELF_REFRESH_EXIT (R307): After tCSR and tXS a channel leaves SRPower and held requests are served. -/
  | selfRefreshExit (n : Fin 12)
  /-- HOLD_GO (R309): A write of DDR_HOLD_CTLn.GO starts a frequency change or training hold by draining, or is refused. -/
  | holdGo (n : Fin 12) (kind : BitVec 1)
  /-- QUEUES_EMPTY (R307): A Draining channel's queues empty, and it enters frequency-change self-refresh or TrainHold. -/
  | queuesEmpty (n : Fin 12)
  /-- FREQCHANGE_ENTRY_COMPLETE (R307): Self-refresh entry completes, so timing sets swap, the MCK divisor commits and the PHY relocks. -/
  | freqchangeEntryComplete (n : Fin 12)
  /-- FREQCHANGE_EXIT (R307): Self-refresh exit completes after tXS and the channel enters TrainHold. -/
  | freqchangeExit (n : Fin 12)
  /-- TRAINHOLD_DONE (R309): A write of DDR_HOLD_CTLn.DONE ends TrainHold and releases held requests into the queues. -/
  | trainholdDone (n : Fin 12)
  /-- INSERVICE (R508): A write of DDR_CTLn.INSERVICE = 1 in Init starts refresh and patrol and makes the channel Active. -/
  | inservice (n : Fin 12)
  /-- SHADOW_VALID (R507): A write of DDR_TIM_SHCTLn.VALID in Init loads the shadow timing set and commits its MCK divisor. -/
  | shadowValid (n : Fin 12)
  /-- GENERATOR_WRITE (R311): DDR_TRN_CTLn GO with MODE 1 writes the pattern to LINES lines. -/
  | generatorWrite (n : Fin 12) (v : Word)
  /-- GENERATOR_READ_COMPARE (R311): DDR_TRN_CTLn GO with MODE 2 reads lines and counts mismatches per lane. -/
  | generatorReadCompare (n : Fin 12) (v : Word) (ups : List Upset)
  /-- GENERATOR_SAVE_WRITE_COMPARE (R311): DDR_TRN_CTLn GO with MODE 3 saves lines, writes the pattern, then reads and compares. -/
  | generatorSaveWriteCompare (n : Fin 12) (v : Word) (ups : List Upset)
  /-- GENERATOR_RESTORE (R311): A write of DDR_TRN_CTLn.RESTORE writes the saved codewords back unchanged. -/
  | generatorRestore (n : Fin 12) (v : Word)
  /-- GENERATOR_DONE (R311): A generator run or restore finishes and sets DONE. -/
  | generatorDone (n : Fin 12)
  /-- MRW (R311): DDR_MR_CMDn with OP MRW writes a mode register of a rank and subchannel. -/
  | mrw (n : Fin 12) (v : Word)
  /-- MRR (R311): DDR_MR_CMDn with OP MRR reads a mode register into DDR_MR_DATAn. -/
  | mrr (n : Fin 12) (v : Word) (byte : Byte)
  /-- MPC (R311): DDR_MR_CMDn with OP MPC issues a multi-purpose command. -/
  | mpc (n : Fin 12) (v : Word)
  /-- DLY_DATA_WRITE (R311): A write of DDR_DLY_DATAn sets a lane's delays in Init or TrainHold, or is refused with REJECT. -/
  | dlyDataWrite (n : Fin 12) (v : Word)
  /-- RXEQ_DATA_WRITE (R311): A write of DDR_RXEQ_DATAn sets a lane's receiver reference and DFE taps, or is refused. -/
  | rxeqDataWrite (n : Fin 12) (v : Word)
  /-- SEAL (R290): A write of DDR_ILVn.SEAL validates and seals the interleave sets in every channel, or sets SEALERR. -/
  | sealChannel (n : Fin 12)
  /-- IMG_DATA (R324): An IMG_DATA flit delivers 64 image bytes to a configuration controller, which buffers them or refuses them. -/
  | imgData (leaf : Fin 4) (dma : Option (Fin 8)) (src : BitVec 13) (txn : BitVec 8) (data : BitVec 512)
  /-- SIGNATURE_VERIFIED (R323): The shared ECDSA verifier completes a header signature verification. -/
  | signatureVerified (leaf : Fin 4)
  /-- CHUNK_VERIFIED (R323): A chunk's digest, and its GCM tag when encrypted, are checked before its records are processed. -/
  | chunkVerified (leaf : Fin 4)
  /-- FRAME_FWD (R324): A frame or MEMINIT word forwarded by the L0 controller during a full load reaches another leaf's controller. -/
  | frameFwd (leaf : Fin 4) (src : BitVec 13)
  /-- FRAME (R320): A FRAME record writes one frame and its golden signature after its checks pass. -/
  | frame (leaf : Fin 4)
  /-- ZERO (R320): A ZERO record writes N blank static frames. -/
  | zero (leaf : Fin 4)
  /-- REPEAT (R320): A REPEAT record writes N copies of the last frame written. -/
  | repeatRecord (leaf : Fin 4)
  /-- MEMINIT (R320): A MEMINIT record initialises words of a block RAM or vault after it has been zeroed. -/
  | meminit (leaf : Fin 4)
  /-- RGNDEF (R333): A RGNDEF record of a full image defines a region, or ends the load with RGNDEF. -/
  | rgndef (leaf : Fin 4)
  /-- END (R321): An END record checks the frame count and, for a passing region load, releases the region. -/
  | endRecord (leaf : Fin 4)
  /-- LOAD (R335): CFG_CMDL with OP LOAD starts a partial load of a region. -/
  | load (leaf : Fin 4) (region : Fin 64)
  /-- LOAD_FULL (R341): CFG_CMD0 with OP LOAD and FULL starts a full load on all four controllers. -/
  | loadFull (sherex : Bool)
  /-- CLEAR (R342): CFG_CMDL with OP CLEAR closes a region and writes blank frames and zero memories. -/
  | clear (leaf : Fin 4) (region : Fin 64)
  /-- ABORT (R340): CFG_CMDL with OP ABORT ends a load after the frame being written. -/
  | abort (leaf : Fin 4)
  /-- REGION_DRAINED (R336): Every access port of a closing region shows DRAINED and frame writing begins. -/
  | regionDrained (leaf : Fin 4)
  /-- CLEAR_COMPLETE (R335): The last blank frame of a CLEAR is written and the region becomes EMPTY. -/
  | clearComplete (leaf : Fin 4)
  /-- STALL (R340): A load receives no IMG_DATA for CFG_LDTMO.STALL ms and ends with STALL. -/
  | stall (leaf : Fin 4)
  /-- REGION_OWNER_WRITE (R334): A write of CFG_RGNr_CFG.OWNER changes an EMPTY region's owner, or is refused with REJECT. -/
  | regionOwnerWrite (r : Fin 64) (v : Word)
  /-- FRAME_READBACK (R344): CFG_FRD_CMD with GO reads back a frame and classifies it, or sets DENIED. -/
  | frameReadback (v : Word)
  /-- BOOT_RETRY (R331): The wait after a failed boot-time load ends and the next attempt reads the alternate flash. -/
  | bootRetry
  /-- BOOT_ROM_START (R366): The boot ROM starts on K0/K1, tests and zeroes Keeper SRAM, and reads the policy image. -/
  | bootRomStart (failing : Bool)
  /-- POLICY_IMAGE_APPLIED (R367): An authenticated policy image's entries are written and the policy and ward seals are set. -/
  | policyImageApplied (flash : Option FlashRead) (fabdep : BitVec 16)
  /-- KEEPER_FIRMWARE_START (R366): The authenticated Keeper firmware image is copied to SRAM and all four cores start at its entry. -/
  | keeperFirmwareStart (flash : Option FlashRead)
  /-- FRAME_SLOT (R350): The scanner reads a frame at its slot, compares its signature and classifies it, or skips it. -/
  | frameSlot (leaf : Fin 4) (flips : List (Fin 4112)) (store : SigFlips)
  /-- SCAN_PASS_START (R350): A new scan pass of a leaf starts and PASS increments. -/
  | scanPassStart (leaf : Fin 4)
  /-- REPAIR_WRITE (R353): The controller writes a corrected frame from the repair queue and checks the repair against the history. -/
  | repairWrite (leaf : Fin 4)
  /-- FIX_GO (R355): SCB_FIXCMDL with GO checks a supplied frame against the golden signature and writes it, or records BADSIG. -/
  | fixGo (leaf : Fin 4) (frame : Nat)
  /-- GIVEUP (R356): SCB_FIXCMDL with GIVEUP makes a pending entry UNREPAIRED. -/
  | giveup (leaf : Fin 4) (frame : Nat)
  /-- FIX_TIMEOUT (R356): A pending entry's FIXTMO window ends and it becomes UNREPAIRED. -/
  | fixTimeout (leaf : Fin 4) (entry : Fin 16)
  /-- SCB_LOG_POP (R360): A write of SCB_LOGCTLL.POP discards the oldest scrub log record. -/
  | scbLogPop (leaf : Fin 4) (v : Word)
  /-- LOCKSTEP_MISMATCH (R363): A lockstep checker mismatch stops both cores of the pair and raises the Keeper fault event. -/
  | lockstepMismatch (q : Fin 2)
  /-- DMA_START (R362): A write of KP_DMAc_DESC starts a Keeper DMA channel on its descriptor chain. -/
  | dmaStart (c : Fin 8) (v : Word) (transfers : Nat)
  /-- WINDOW_COMMIT (R371): Host software's write of word 0 of a window slot commits the host-memory window. -/
  | windowCommit (n w : Fin 16) (v : Word)
  /-- GRANT (R376): Host software's write of SHX_GRANT arms a one-shot grant in the lowest free or oldest slot. -/
  | grant (n : Fin 16) (v : Word)
  /-- GRANT_EXPIRY (R376): A grant's lifetime ends and its slot is freed. -/
  | grantExpiry (n : Fin 16) (k : Fin 4)
  /-- LINK_MESSAGE (R374): A Keeper-originated message to a head is checked for type and windows and admitted, held or dropped. -/
  | linkMessage (n : Fin 16) (msg : KpMessage)
  /-- HELD_MESSAGE_RELEASE (R375): A token accrues in a head's bucket and the oldest held message is sent. -/
  | heldMessageRelease (n : Fin 16)
  /-- SENSOR_SAMPLE (R381): Every 10 us the ward samples all junction sensors and updates the warning. -/
  | sensorSample (temps : List (BitVec 12))
  /-- POWER_AVERAGE (R383): Each 1 ms power average adjusts the engine throttle level and may set OVER. -/
  | powerAverage (watts : BitVec 12)
  /-- WRD_LOG_POP (R386): A write of WRD_LOGCTL.POP discards the oldest ward log record. -/
  | wrdLogPop (v : Word)
  /-- RING (R387): Host software rings a FREE mailbox, which stamps it, makes it POSTED and raises the doorbell event. -/
  | ring (n : Fin 16) (m : Fin 2)
  /-- TAKE (R387): The Keeper firmware takes a POSTED mailbox and it becomes BUSY. -/
  | take (n : Fin 16) (m : Fin 2)
  /-- MAILBOX_DONE (R387): The Keeper firmware writes DONE, making the mailbox DONE or FREE and raising the mailbox notification. -/
  | mailboxDone (n : Fin 16) (m : Fin 2)
  /-- MAILBOX_ACK (R387): Host software acknowledges a DONE mailbox and it becomes FREE. -/
  | mailboxAck (n : Fin 16) (m : Fin 2)
  /-- COUNTER_FLOOR_WRITE (R402): A new counter floor is written to flash, or the write fails and the command ends with PERSIST. -/
  | counterFloorWrite (n : Fin 16) (m : Fin 2) (ok : Bool)
  /-- RECORD_WRITE (R397): The Keeper firmware writes a completion record into the ring and requests MSI-X vector 0. -/
  | recordWrite (n : Fin 16)
  /-- CR_ENABLE (R396): A write of SHX_CR_CTL.EN = 1 resets HEAD, TAIL and PHASE and enables the ring. -/
  | crEnable (n : Fin 16) (v : Word)
  /-- CR_HEAD_WRITE (R396): A write of SHX_CR_HEAD consumes records, or is ignored with HERR. -/
  | crHeadWrite (n : Fin 16) (v : Word)
  /-- SHEREX_NOP (R406): The Sherex NOP command does nothing. -/
  | sherexNop (n : Fin 16) (m : Fin 2)
  /-- GET_INFO (R406): GET_INFO returns identity, revision, firmware version, fabric state, head type and owner. -/
  | getInfo (n : Fin 16) (m : Fin 2)
  /-- GET_RESOURCES (R406): GET_RESOURCES returns the tenant's regions, sets, windows and extents held. -/
  | getResources (n : Fin 16) (m : Fin 2)
  /-- GET_EXTENTS (R406): GET_EXTENTS lists the extents whose ACC includes the tenant. -/
  | getExtents (n : Fin 16) (m : Fin 2)
  /-- HANDLE_STATUS (R406): HANDLE_STATUS reports whether a handle is queued, running or has its record held. -/
  | handleStatus (n : Fin 16) (m : Fin 2)
  /-- EXT_ASSIGN (R406): EXT_ASSIGN assigns an extent and offers it to each head in ACC. -/
  | extAssign (n : Fin 16) (m : Fin 2)
  /-- EXTENT_OFFER_RESPONSE (R254): A head accepts or refuses an offered dynamic-capacity extent. -/
  | extentOfferResponse (n : Fin 16) (ext : Nat) (accept : Bool)
  /-- EXTENT_OFFER_TIMEOUT (R406): An extent offer has gone unanswered for 1 s, and non-accepting heads are narrowed out. -/
  | extentOfferTimeout (ext : Nat)
  /-- EXT_NARROW (R406): EXT_NARROW narrows an extent's masks and completes at PTDONE. -/
  | extNarrow (n : Fin 16) (m : Fin 2)
  /-- EXT_RELEASE (R406): EXT_RELEASE asks the heads to release an extent, then releases and clears it. -/
  | extRelease (n : Fin 16) (m : Fin 2)
  /-- XLAT_SET (R406): XLAT_SET writes a head's translation range. -/
  | xlatSet (n : Fin 16) (m : Fin 2)
  /-- RGN_ASSIGN (R406): RGN_ASSIGN sets the owner of an EMPTY region. -/
  | rgnAssign (n : Fin 16) (m : Fin 2)
  /-- RGN_LOAD (R406): RGN_LOAD loads a partial image into an owned region from host memory or the last kept image. -/
  | rgnLoad (n : Fin 16) (m : Fin 2)
  /-- RGN_CLEAR (R406): RGN_CLEAR clears a region and completes at CLRDONE. -/
  | rgnClear (n : Fin 16) (m : Fin 2)
  /-- RGN_ABORT (R406): RGN_ABORT writes ABORT for a region's running load. -/
  | rgnAbort (n : Fin 16) (m : Fin 2)
  /-- RGN_STATUS (R406): RGN_STATUS returns a region's configuration, masks and last load error. -/
  | rgnStatus (n : Fin 16) (m : Fin 2)
  /-- RGN_READBACK (R406): RGN_READBACK reads a frame of an owned region back to host memory under a READBACK grant. -/
  | rgnReadback (n : Fin 16) (m : Fin 2)
  /-- FULL_LOAD (R406): FULL_LOAD loads a full image while CONF_DONE is low. -/
  | fullLoad (n : Fin 16) (m : Fin 2)
  /-- SET_CREATE (R406): SET_CREATE creates a tumbler set for a tenant. -/
  | setCreate (n : Fin 16) (m : Fin 2)
  /-- SET_MEMBERS (R406): SET_MEMBERS adds or removes engines and completes when their clearing has ended. -/
  | setMembers (n : Fin 16) (m : Fin 2)
  /-- SET_DELETE (R406): SET_DELETE deletes a set that has no members. -/
  | setDelete (n : Fin 16) (m : Fin 2)
  /-- SET_LOAD (R406): SET_LOAD writes data and program images into every live member under a SETWRITE grant. -/
  | setLoad (n : Fin 16) (m : Fin 2) (dimg pimg : List (BitVec 8))
  /-- JOB_START (R406): JOB_START starts a job, or the serving job of a window set, and completes at job end. -/
  | jobStart (n : Fin 16) (m : Fin 2)
  /-- JOB_STOP (R406): JOB_STOP stops a set's running job. -/
  | jobStop (n : Fin 16) (m : Fin 2)
  /-- SET_DOORBELL (R406): SET_DOORBELL writes TMB_SETs_DB for an owned set. -/
  | setDoorbell (n : Fin 16) (m : Fin 2)
  /-- WIN_BIND (R406): WIN_BIND binds and enables a transform window. -/
  | winBind (n : Fin 16) (m : Fin 2)
  /-- WIN_UNBIND (R406): WIN_UNBIND disables a transform window. -/
  | winUnbind (n : Fin 16) (m : Fin 2)
  /-- ENG_TEST (R406): ENG_TEST runs an engine self-test or restore and returns TMB_STATe. -/
  | engTest (n : Fin 16) (m : Fin 2)
  /-- CANCEL (R399): CANCEL removes a queued operation and completes it CANCELLED. -/
  | cancel (n : Fin 16) (m : Fin 2)
  /-- EVT_ROUTE (R406): EVT_ROUTE routes an allowed source to one of the tenant's MSI-X vectors. -/
  | evtRoute (n : Fin 16) (m : Fin 2)
  /-- WAKE_CTL (R406): WAKE_CTL enables or disables WAKE_N for the tenant. -/
  | wakeCtl (n : Fin 16) (m : Fin 2)
  /-- LANE_RESTORE (R406): LANE_RESTORE restores retired lanes of the own head and forces a redetect. -/
  | laneRestore (n : Fin 16) (m : Fin 2)
  /-- RETRAIN (R406): RETRAIN directs the own head into Recovery or Detect. -/
  | retrain (n : Fin 16) (m : Fin 2)
  /-- SCRUB_PASS (R406): SCRUB_PASS completes at the end of the next full pass of a scrubber, patrol or scanner. -/
  | scrubPass (n : Fin 16) (m : Fin 2)
  /-- DRAM_RATE (R406): DRAM_RATE changes the data rate of channels with a frequency change and short retraining. -/
  | dramRate (n : Fin 16) (m : Fin 2)
  /-- TENANT_RESET (R406): TENANT_RESET starts a tenant reset of the sender or, for the owner, of another tenant. -/
  | tenantReset (n : Fin 16) (m : Fin 2)
  /-- DEVICE_RESET (R406): DEVICE_RESET answers OK and a device-wide reset follows 10 ms after DONE. -/
  | deviceReset (n : Fin 16) (m : Fin 2)
  /-- KEY_INSTALL_OWNER (R404): KEY_INSTALL_OWNER installs the owner's command key in plain form when none is stored. -/
  | keyInstallOwner (n : Fin 16) (m : Fin 2)
  /-- KEY_SET (R406): KEY_SET installs a wrapped command key for a tenant that has none. -/
  | keySet (n : Fin 16) (m : Fin 2)
  /-- KEY_REPLACE (R406): KEY_REPLACE replaces the sender's command key with a wrapped new key. -/
  | keyReplace (n : Fin 16) (m : Fin 2)
  /-- KEY_ERASE (R406): KEY_ERASE removes a tenant's command key. -/
  | keyErase (n : Fin 16) (m : Fin 2)
  /-- IMGKEY_HASH (R406): IMGKEY_HASH writes the tenant's image key hash into CFG_TKHn. -/
  | imgkeyHash (n : Fin 16) (m : Fin 2)
  /-- IMGKEY_DEC (R406): IMGKEY_DEC unwraps the tenant's image decryption key into CFG_TEKn. -/
  | imgkeyDec (n : Fin 16) (m : Fin 2)
  /-- OWNER_CHANGE (R405): OWNER_CHANGE makes another tenant with a key the device owner at DONE. -/
  | ownerChange (n : Fin 16) (m : Fin 2)
  /-- POLICY_UPDATE (R406): POLICY_UPDATE writes a checked policy image to flash. -/
  | policyUpdate (n : Fin 16) (m : Fin 2) (img : List (BitVec 8))
  /-- FW_UPDATE (R406): FW_UPDATE writes a checked Keeper firmware image to flash. -/
  | fwUpdate (n : Fin 16) (m : Fin 2) (img : List (BitVec 8))
  /-- PIN_GRANT (R406): PIN_GRANT names the tenants that may read and write a Keeper-owned pin. -/
  | pinGrant (n : Fin 16) (m : Fin 2)
  /-- PIN_READ (R406): PIN_READ returns a granted pin's synchronised level. -/
  | pinRead (n : Fin 16) (m : Fin 2)
  /-- PIN_WRITE (R406): PIN_WRITE drives a granted pin, refused with STATE when it would make a conflict. -/
  | pinWrite (n : Fin 16) (m : Fin 2)
  /-- I2C_XFER (R406): I2C_XFER carries out a granted bus transaction as a chain of I2C commands. -/
  | i2cXfer (n : Fin 16) (m : Fin 2)
  /-- SENSORS (R406): SENSORS returns the junction sensors and the power status. -/
  | sensors (n : Fin 16) (m : Fin 2)
  /-- LINK_STATS (R406): LINK_STATS returns the own head's link and lane counters. -/
  | linkStats (n : Fin 16) (m : Fin 2)
  /-- LANE_LOOPBACK (R406): LANE_LOOPBACK holds the own head and runs near-end loopbacks for TIME. -/
  | laneLoopback (n : Fin 16) (m : Fin 2)
  /-- RAISE (R415): An enabled source is raised, stamped, and made Pending or coalesced. -/
  | raise (src : Fin 1024)
  /-- CLAIM (R419): A read of EVC_CLAIMc makes the offered source Active on the core and starts the group hold-off. -/
  | claim (c : Fin 4)
  /-- COMPLETE (R419): A write of EVC_COMPLETEc completes an Active source, or sets BADCMP. -/
  | complete (c : Fin 4) (v : Word)
  /-- EVC_SRC_WRITE (R417): A write of EVC_SRCs changes a source's routing, refused with REJECT for a disallowed tenant target. -/
  | evcSrcWrite (src : Fin 1024) (v : Word)
  /-- EVC_SWSET (R413): A write of EVC_SWSET raises a software source, or sets SWBAD. -/
  | evcSwset (v : Word)
  /-- HOLD_OFF_EXPIRY (R420): A group's hold-off window closes and its pending sources are evaluated. -/
  | holdOffExpiry (g : Fin 64)
  /-- NOTIFICATION (R421): A delivery to a tenant channel issues the MSI-X message, or is held while the head is not in L0. -/
  | notification (src : Fin 1024)
  /-- FEVT (R414): The OR of a region's FEVT pins rises at a TBC edge and raises the fabric source. -/
  | fevt (r : Fin 64) (i : Fin 4) (pins : List (Fin 320))
  /-- KICK (R423): A write of KP_WDT_KICK reloads the named watchdogs. -/
  | kick (v : Word)
  /-- WATCHDOG_ENABLE (R423): A write of KP_WDT_CTL.EN loads and starts or stops a watchdog. -/
  | watchdogEnable (v : Word)
  /-- WATCHDOG_EXPIRY (R424): A core watchdog expires, raises its source, reloads and keeps counting. -/
  | watchdogExpiry (c : Fin 4)
  /-- HALF_TIME (R424): The device watchdog reaches half its timeout without a kick and raises source 29. -/
  | halfTime
  /-- DEVICE_WATCHDOG_RESET (R426): The device watchdog expires and performs a device-wide reset. -/
  | deviceWatchdogReset
  /-- MODE_GO (R436): A write of PWR_MODE_CTL.GO broadcasts prepare to the taking-part units, or ends at once with none. -/
  | modeGo (v : Word)
  /-- PREPARE_ACK (R436): A unit acknowledges prepare, and the last acknowledgement leads to the commit edge. -/
  | prepareAck (u : Fin 76)
  /-- UNIT_REFUSE (R435): A unit refuses prepare, and rollback is sent to every prepared unit. -/
  | unitRefuse (u : Fin 76)
  /-- MODE_TIMEOUT (R436): The PWR_MODE_TMO timer ends in PREPARE and the transaction rolls back. -/
  | modeTimeout
  /-- COMMIT (R437): At the commit edge every unit commits: divisors change, holds start and domains are cut or ramped. -/
  | commit (edge : Nat)
  /-- RAMP_COMPLETE (R432): A domain finishes its power-on ramp and its on-actions run. -/
  | rampComplete (d : Fin 60)
  /-- ROLLBACK_COMPLETE (R436): Every prepared unit has resumed and MODEABORT is raised. -/
  | rollbackComplete
  /-- ROLLBACK_TIMEOUT (R436): A unit has not resumed within PWR_MODE_TMO and enters SPLIT. -/
  | rollbackTimeout (stuck : List (Fin 76))
  /-- UNITRST (R439): A write of PWR_MODE_CTL.UNITRST power-cycles a SPLIT unit's domain and makes it IDLE. -/
  | unitrst (v : Word)
  /-- SHEREX_DEVICE_RESET (R440): A write of PWR_RST_CTL with KEY 0xA5 and GO performs a device-wide reset. -/
  | sherexDeviceReset (v : Word)
  /-- TRST_GO (R445): A write of PWR_TRST_CMD starts a tenant reset of windows, sets, regions and cache ways. -/
  | trstGo (v : Word)
  /-- TENANT_RESET_COMPLETE (R445): Steps 1 to 4 of a tenant reset end and PWR_TRST_STAT.BUSY clears. -/
  | tenantResetComplete
  /-- SUPPLY_LOSS (R494): A non-core supply leaves its window for 2 us, and its domains are isolated and shown OFF. -/
  | supplyLoss (sup : Supply)
  /-- SUPPLY_RETURN (R494): A lost supply returns and its PWR_SUP_STAT bit is set again. -/
  | supplyReturn (sup : Supply)
  /-- MAINTENANCE_REQUEST (R450): A write of PWR_MNT_REQ records an activity and answers GRANTED, QUEUED or FULL. -/
  | maintenanceRequest (v : Word)
  /-- PWR_MNT_DONE (R450): A write of PWR_MNT_DONE ends an activity and grants queued requests in order. -/
  | pwrMntDone (v : Word)
  /-- PIN_REGISTER_WRITE (R461): A write of MGP_PINi is admitted for the pin's owner and takes effect at the next KCK edge. -/
  | pinRegisterWrite (src : Actor) (i : Fin 64) (v : Word)
  /-- FUNCTION_SWITCH (R463): A map-entry write that changes a pin's drivers drops its output enable and holds the pad. -/
  | functionSwitch (src : Actor) (m : Fin 34) (v : Word)
  /-- GAP_END (R463): Two KCK cycles after a function switch, the new drivers drive the pin. -/
  | gapEnd (i : Fin 64)
  /-- EVENT_LINE_WRITE (R461): A write of MGP_EVLn is admitted under the ownership of the pins selected before and after. -/
  | eventLineWrite (src : Actor) (n : Fin 16) (v : Word)
  /-- PIN_EVENT (R466): An event line detects its edge or level, sets MGP_EVSTAT and interrupts cores or toggles MG_EV. -/
  | pinEvent (n : Fin 16) (level : Bool)
  /-- I2C_GO (R460): A write of MGP_I2CbCMD.GO starts or continues an I2C transaction. -/
  | i2cGo (src : Actor) (b : Fin 4) (v : Word)
  /-- I2C_DONE (R460): An I2C command ends with DONE, NACK or ARBLOST. -/
  | i2cDone (b : Fin 4) (e : I2cEnd)
  /-- SMBUS_TIMEOUT (R459): The SMBus clock-low timeout of 25 ms ends a transaction with TMO. -/
  | smbusTimeout (b : Fin 4)
  /-- UART_DATA_WRITE (R459): A write of MGP_UARTuDATA enqueues a byte for transmission. -/
  | uartDataWrite (src : Actor) (u : Fin 2) (v : Word)
  /-- UART_DATA_READ (R481): A read of MGP_UARTuDATA dequeues one received byte. -/
  | uartDataRead (u : Fin 2)
  /-- UART_RECEIVE (R459): A UART receives a byte into its RX FIFO, or sets OVR or FERR. -/
  | uartReceive (u : Fin 2) (b : BitVec 8) (stop : Bool)
  /-- SPI_EXCHANGE (R469): A write of MGP_SPIsDATA exchanges one byte on the SPI bus. -/
  | spiExchange (src : Actor) (bus : Fin 2) (v : Word)
  /-- SPI_DONE (R469): An SPI byte exchange ends and the received byte is readable. -/
  | spiDone (bus : Fin 2) (b : BitVec 8)
  /-- TACH_EDGE (R459): A falling edge on a fan tach input updates the measured period. -/
  | tachEdge (f : Fin 4)
  /-- KEYHOLE_LOW (R471): A low on nRST_KH ends and is classified as a glitch, bit, framing error, end of session or entry low. -/
  | keyholeLow (w : Nat)
  /-- KEYHOLE_RESET (R472): A low on nRST_KH reaches 39,400 KOSC cycles and performs a device-wide reset. -/
  | keyholeReset
  /-- SESSION_ENTRY (R473): An entry low followed by the word 0xB4 opens a session at its initial level. -/
  | sessionEntry
  /-- FRAME_GAP_TIMEOUT (R474): The line stays high more than 20 us between slots of a frame, which is discarded with FRAMEERR. -/
  | frameGapTimeout
  /-- KEYHOLE_NOP (R476): The Keyhole NOP frame returns KH_SES. -/
  | keyholeNop
  /-- KH_READ (R476): A KH_READ frame reads a KH register. -/
  | khRead
  /-- KH_WRITE (R476): A KH_WRITE frame writes a KH register. -/
  | khWrite
  /-- DA_READ (R478): A DA_READ frame makes a debug-master read of a device address, answered WAIT until it completes. -/
  | daRead
  /-- DA_WRITE (R478): A DA_WRITE frame makes a debug-master write of a device address at most once. -/
  | daWrite
  /-- KSP_READ (R476): A KSP_READ frame reads a Keeper address; `flips` are positions of the word's codeword in Keeper SRAM that have inverted. -/
  | kspRead (flips : List Nat)
  /-- KSP_WRITE (R476): A KSP_WRITE frame writes a Keeper address. -/
  | kspWrite
  /-- EXIT (R476): An EXIT frame returns KH_SES and ends the session. -/
  | exit
  /-- AUTH (R479): A write of KH_AUTH with GO checks the challenge response and raises the session level or counts a failure. -/
  | auth (v : Word)
  /-- CORE_HALT (R482): KH_CORE_CTL.HALT stops a Keeper core at an instruction boundary and clears its reservation. -/
  | coreHalt (c : Fin 4) (pc : BitVec 64)
  /-- CORE_STEP (R482): KH_CORE_CTL.STEP runs one instruction of a halted core. -/
  | coreStep (c : Fin 4) (pc : BitVec 64) (rd : Option (Fin 32 × BitVec 64))
  /-- CORE_RESUME (R482): KH_CORE_CTL.RESUME lets a halted core continue and resumes its paused watchdog. -/
  | coreResume (c : Fin 4)
  /-- EBREAK_HALT (R482): A core with EBRK set executes EBREAK and halts. -/
  | ebreakHalt (c : Fin 4) (pc : BitVec 64)
  /-- CREG_READ (R482): KH_CREG_CMD.READ copies a halted core's register into KH_CREG_LO and HI. -/
  | cregRead (sel : Word)
  /-- CREG_WRITE (R482): KH_CREG_CMD.WRITE writes a halted core's register. -/
  | cregWrite (sel : Word) (v : BitVec 64)
  /-- ENGINE_HALT (R484): KH_TMB_CTL.HALT stops an engine at its next bundle boundary with its pipeline frozen. -/
  | engineHalt (e : Fin 512)
  /-- ENGINE_STEP (R484): KH_TMB_CTL.STEP runs one cycle of a halted engine. -/
  | engineStep (e : Fin 512)
  /-- ENGINE_RESUME (R484): KH_TMB_CTL.RESUME restarts issue and applies a recorded stop request. -/
  | engineResume (e : Fin 512)
  /-- TREG_READ (R484): KH_TREG_CMD.READ reads one word of an engine register. -/
  | tregRead (sel : Word)
  /-- TREG_WRITE (R484): KH_TREG_CMD.WRITE writes one word of an engine register. -/
  | tregWrite (sel : Word) (v : Word)
  /-- VT_TX_WRITE (R485): A Keeper write of KH_VT_TX sets TXFULL, or sets OVR when full. -/
  | vtTxWrite (v : Word)
  /-- VT_TX_READ (R485): A debug read of KH_VT_TX clears TXFULL and may raise source 48. -/
  | vtTxRead
  /-- VT_RX_WRITE (R485): A debug write of KH_VT_RX sets RXFULL and may raise source 48. -/
  | vtRxWrite (v : Word)
  /-- VT_RX_READ (R485): A Keeper read of KH_VT_RX clears RXFULL. -/
  | vtRxRead
  /-- KH_IMG_DATA (R486): A write of KH_IMG_DATA delivers four image bytes to the waiting boot ROM. -/
  | khImgData (v : Word)
  /-- KEYHOLE_RELEASE (R472): nRST_KH is released after a Keyhole reset low, or after a low held through power-up, and the new attempt begins at step 2. -/
  | keyholeRelease
  /-- FABRIC_CLOCK_EDGE (R107): A rising edge of a sector clock line loads flip-flops, LUT RAM, shift registers, block RAM ports and arithmetic slice stages. -/
  | fabricClockEdge (x : Fin 320) (line : Fin 36) (pins : EdgePins)
  /-- LANE_STAGE_REACHED (R234): A lane of a training head reaches bit lock, symbol or block lock, lane number or equalisation, and its STAGE is recorded. -/
  | laneStageReached (lane : Fin 128) (stage : Fin 8) (polInv : Bool) (rx : Word)
  /-- RECEIVER_ERROR (R240): A lane's receiver detects an error, including an elastic-buffer overflow or underflow, and LNK_LERR counts it. -/
  | receiverError (lane : Fin 128)
  /-- FEC_CORRECTION (R240): The link corrects a flit with FEC and LNK_HFEC counts it. -/
  | fecCorrection (n : Fin 16)
  /-- LINK_REPLAY (R240): The link layer replays and LNK_HREPLAY counts it. -/
  | linkReplay (n : Fin 16)
  /-- ERROR_RATE_WINDOW (R240): A 1 s error-rate window of the DTC ends and the head's Recovery count for ERRRATE starts again. -/
  | errorRateWindow (n : Fin 16)
  /-- REPLAY_WINDOW_BOUNDARY (R96): A KRV_KNK_THR.WIN window ends and each knuckle channel's replay count starts again. -/
  | replayWindowBoundary
  /-- CHECKER_LOCK (R245): A loopback checker locks to its PRBS pattern and LLB.LOCK becomes 1. -/
  | checkerLock (lane : Fin 128)
  /-- LOOPBACK_MISMATCH (R245): A locked loopback checker finds a mismatched bit and LNK_LLBERR counts it. -/
  | loopbackMismatch (lane : Fin 128)
  /-- FAR_END_LOOPBACK_EXIT (R247): The partner ends Loopback, the LTSSM goes to Detect and LLB.FELB clears on the looped lanes. -/
  | farEndLoopbackExit (n : Fin 16)
  /-- OPEN_ROW_TIMEOUT (R292): A bank has been idle for PGTMO MCK cycles under the open-adaptive policy and its open row is precharged. -/
  | openRowTimeout (n : Fin 12) (bank : Fin 512)
  /-- WFI (R419): A Keeper core executes WFI, becomes asleep and the event controller re-evaluates its offers. -/
  | wfi (c : Fin 4)
  /-- MSIX_ENABLE (R421): Host software enables MSI-X on the head's function and held tenant notifications are issued. -/
  | msixEnable (n : Fin 16) (on : Bool)
  /-- EXTENT_RELEASE_RESPONSE (R406): A head answers the dynamic-capacity release request of EXT_RELEASE for an extent. -/
  | extentReleaseResponse (n : Fin 16) (ext : Nat)
  /-- EXTENT_RELEASE_WAIT_EXPIRY (R406): The WAIT of EXT_RELEASE ends with a head not released, so the operation fails with FORCE 0 or RELEASE proceeds. -/
  | extentReleaseWaitExpiry (ext : Nat)
  /-- LOOPBACK_TIME_EXPIRY (R406): The TIME of LANE_LOOPBACK ends, the loopbacks stop and the error counts go to RESULT. -/
  | loopbackTimeExpiry (n : Fin 16)
  /-- AUTH_HOLD_EXPIRY (R403): 1 s after the last AUTH_FAILED, a held authenticated command of a throttled tenant may be answered. -/
  | authHoldExpiry (n : Fin 16) (m : Fin 2)
  /-- UART_TRANSMIT (R459): A UART finishes sending a byte and removes it from its TX FIFO. -/
  | uartTransmit (u : Fin 2)
  /-- TACH_TIMEOUT (R469): No falling edge arrives on a fan tach input for 1 s and its PERIOD becomes 0. -/
  | tachTimeout (f : Fin 4)
  /-- TARGET_SLOT (R474): The debugger's falling edge begins a target slot, and the device holds the line low to send 0 or leaves it to send 1. -/
  | targetSlot
deriving DecidableEq, Repr

end Sys2Proof
end

