-- ==== Sys2Proof/Machine/Bits.lean ====
section
/-! DEFINITION. Bit fields of words, and small helpers on numbers that the chapters share. -/

namespace Sys2Proof.Machine
open Sys2Proof

/-- The field of `n` bits from bit `lo` of a 32-bit word, as a number (R5). -/
def getF (w : Word) (lo n : Nat) : Nat := (w.toNat >>> lo) % 2 ^ n

/-- The word with `v` in the field of `n` bits from bit `lo`; every other bit as it was. -/
def setF (w : Word) (lo n v : Nat) : Word :=
  (w &&& ~~~(BitVec.ofNat 32 (2 ^ n - 1) <<< lo)) ||| (BitVec.ofNat 32 (v % 2 ^ n) <<< lo)

/-- Bit `k` of a number. -/
def nbit (v k : Nat) : Bool := v.testBit k

/-- The number with bit `k` set or cleared. -/
def nsetBit (v k : Nat) (b : Bool) : Nat :=
  if b then v ||| (1 <<< k) else if v.testBit k then v - (1 <<< k) else v

/-- The number a bit stands for. -/
def b2n (b : Bool) : Nat := if b then 1 else 0

/-- The positions of the bits that are 1 among the lowest `n`. -/
def bitsOf (v n : Nat) : List Nat := (List.range n).filter (fun k => v.testBit k)

/-- How many of the lowest `n` bits are 1. -/
def popcount (v n : Nat) : Nat := (bitsOf v n).length

/-- A signed number from `n` bits of two's complement. -/
def toSigned (n v : Nat) : Int := if v % 2 ^ n < 2 ^ (n - 1) then (v % 2 ^ n : Nat) else (v % 2 ^ n : Nat) - (2 ^ n : Nat)

/-- `n` bits of two's complement from a signed number. -/
def ofSigned (n : Nat) (v : Int) : Nat := (v % (2 ^ n : Nat)).toNat

/-- Element `n` of a list replaced. -/
def listSet {α : Type} : List α → Nat → α → List α
  | [], _, _ => []
  | _ :: l, 0, a => a :: l
  | b :: l, n + 1, a => b :: listSet l n a

end Sys2Proof.Machine
end

