-- ==== Sys2Proof/Machine/Codec.lean ====
section
/-! DEFINITION. The extended Hamming codes of R142 and R143, over any codeword given by its bits: n = 72 and 137 in the on-chip memories,
39 in the signature store (R349), 4,110 in configuration frames (R315). -/

namespace Sys2Proof.Machine
open Sys2Proof

/-- A check position: 0 or a power of two (R142). -/
def checkPos (k : Nat) : Bool := k = 2 ^ Nat.log2 k || k = 0

/-- The data bit that position k holds, for a position that is no check position: positions below k hold it but for position 0 and the
powers of two (R142). -/
def dataIndex (k : Nat) : Nat := k - (Nat.log2 k + 2)

/-- The data positions of a code of length n, in the order of the data bits (R142). -/
def dataPos (n : Nat) : List Nat := (List.range n).filter (fun k => !checkPos k)

/-- The XOR of the indices of the positions below n that hold 1 (R143). -/
def syndrome (n : Nat) (bit : Nat → Bool) : Nat := (List.range n).foldl (fun a k => if bit k then a ^^^ k else a) 0

/-- The overall parity of the positions below n. -/
def codeParity (n : Nat) (bit : Nat → Bool) : Bool := (List.range n).foldl (fun a k => a != bit k) false

/-- What a decoder says of a word (R143). -/
inductive Decoded where
  | clean
  | corrected (pos : Nat)
  | uncorrectable
deriving DecidableEq, Repr

/-- The classification of R143. -/
def classifyCode (n : Nat) (bit : Nat → Bool) : Decoded :=
  let s := syndrome n bit
  if codeParity n bit then (if s < n then .corrected s else .uncorrectable)
  else if s = 0 then .clean
  else .uncorrectable

/-- The codeword that encodes given data bits: the data positions hold them, check bit 2^j makes the syndrome's bit j zero, and position 0
makes the parity even (R142). -/
def codeBit (n : Nat) (data : Nat → Bool) : Nat → Bool :=
  let raw (k : Nat) : Bool := !checkPos k && data (dataIndex k)
  let s := syndrome n raw
  let b (k : Nat) : Bool := if checkPos k then k != 0 && nbit s (Nat.log2 k) else raw k
  let p := codeParity n b
  fun k => if k = 0 then p else b k

/-- The bits below n gathered into a number. -/
def gather (n : Nat) (bit : Nat → Bool) : Nat := (List.range n).foldl (fun a k => if bit k then a + 2 ^ k else a) 0

/-! ### Stored words -/

/-- The codeword with position k inverted. -/
def flipPos (w : Codeword) (k : Nat) : Codeword := w ^^^ BitVec.ofNat 137 (2 ^ k)

/-- The encoder of the code of length n (R142). -/
def encodeWord (n : Nat) (d : BitVec 128) : Codeword := BitVec.ofNat 137 (gather n (codeBit n d.getLsbD))

/-- The classification of R143. -/
def classifyWord (n : Nat) (w : Codeword) : Decoded := classifyCode n w.getLsbD

/-- The codeword after correction. -/
def fixWord (n : Nat) (w : Codeword) : Codeword :=
  match classifyWord n w with
  | .corrected p => flipPos w p
  | _ => w

/-- The data bits of a codeword as it stands, at the positions given. -/
def takeData (w : Codeword) (ps : List Nat) : BitVec 128 :=
  BitVec.ofNat 128 (ps.foldl (fun a k => if w.getLsbD k then a + 2 ^ dataIndex k else a) 0)

/-- The data a decoder delivers. -/
def wordData (n : Nat) (w : Codeword) : BitVec 128 := takeData (fixWord n w) (dataPos n)

end Sys2Proof.Machine
end

