-- ==== Sys2Proof/Config.lean ====
section
/-! DEFINITION. What the spec leaves to the device or to outside standards: constants without a body.  Nothing in Lean can
evaluate one, so whatever is proved holds for every value. -/

namespace Sys2Proof.Config
open Sys2Proof

/-- A fresh value the spec leaves open, one per draw (the counter `State.freeCtr`): log entry 2. -/
opaque freeNat : Nat → Nat

/-- A fresh bit the spec leaves open: log entry 2. -/
opaque freeBit : Nat → Bool

/-- The contents of a DRAM line that nothing has written since its channel lost its contents, by the number of resets and losses, the
channel and the line (R304): log entry 2. -/
opaque dramData : Nat → Nat → Nat → Nat → Line

/-- The errors such a line holds against the code, over the ten devices (R304, R297): log entry 2. -/
opaque dramErr : Nat → Nat → Nat → Nat → BitVec 640

/-- How a Reed–Solomon codeword of ten symbols decodes whose error pattern has two or more symbols other than 0 (R297): 0: every
syndrome zero; 1 + d: one symbol located, of device d, for d below 10; 11 or more: none located.  The code's polynomials are not in
the spec: log entry 12. -/
opaque rsLocate : BitVec 80 → Nat

/-- The value such a decoding puts in place of the located symbol's error: log entry 12. -/
opaque rsValue : BitVec 80 → BitVec 8

/-- The check symbols of a line's data under the code of R297, devices 8 and 9: log entry 12. -/
opaque rsCheck : Line → BitVec 128

/-- The training pattern on line k of a run, for the pattern codes 0 to 5 (R311); their seeds and bit orders are not in the spec: log
entry 14. -/
opaque trnPattern : Nat → Nat → Line

/-- The codeword that a word of a tumbler memory holds before anything has written it since its power came up, by the number of resets,
of power losses, the instance and the word (R431): log entry 2. -/
opaque tmbWord : Nat → Nat → Nat → Nat → Codeword

/-- The level of a fabric signal that the spec leaves open, by the count of open values and the signal's number: log entry 2. -/
opaque openSignal : Nat → Nat → Bool

/-- The settings that the frame of a cluster's column and pair of rows gives logic cell `lc` of the pair's lower or upper cluster (R316): the places
of the bits are in the Limard device database, not in the spec: log entry 22. -/
opaque lcAttr : Frame → Bool → Nat → LcAttr

/-- The settings it gives the cluster: log entry 22. -/
opaque clusterAttr : Frame → Bool → ClusterAttr

/-- The input, of the 36 of a crossbar output, that it selects (R115): log entry 22. -/
opaque xbarSel : Frame → Bool → Fin 139 → Fin 36

/-- What it selects for a wire start (R118): log entry 22. -/
opaque wireSel : Frame → Bool → Dir → WireLen → Fin 16 → WireSrc

/-- The 36 inputs of each crossbar output, of 144: the device database's, not in the spec (R115): log entry 22. -/
opaque xbarInput : Fin 139 → Fin 36 → Fin 144

/-- The wire that each of the 80 taps of a crossbar is on: log entry 22. -/
opaque xbarTap : Fin 80 → WireRef

/-- The 24 of its cluster's 152 wire starts that each output of a logic cell reaches (R118): log entry 22. -/
opaque lcReach : Fin 16 → LcOut → Fin 24 → Fin 152

/-- The tap that the frames of the clusters beside a hard element give its input pin (R116): log entry 22. -/
opaque hardTap : List Frame → Nat → HardTap

/-- The settings that a slice's four frames give it: log entry 22. -/
opaque sliceAttr : List Frame → SliceAttr

/-- The settings that a block RAM's four frames give it: log entry 22. -/
opaque bramAttr : List Frame → BramAttr

/-- The global networks that the frames of a sector's clock-line selection enable (R53, R316): log entry 22. -/
opaque sectorNets : List Frame → BitVec 32

/-- The cluster column, in cluster row 0, and the crossbar output that those frames make the driver of local clock line j (R122); none: it has no
driver: log entry 22. -/
opaque lckDriver : List Frame → Fin 4 → Option (Fin 32 × Fin 139)

/-- A hasp point that those frames make a border pin, with its park value (R121, R337): log entry 22. -/
opaque borderPin : List Frame → Hasp → Option Park

/-- The global network, 0 to 31, that the frames of the access ports give port k as its APCLK (R90): log entry 22. -/
opaque apClock : List Frame → Nat → Fin 32

/-- The signature of a frame (R347) under the key drawn at a device-wide reset (R348), by the number of resets and the frame number: the
key is open: log entry 23. -/
opaque frameSig : Nat → Nat → Frame → BitVec 32

/-- SHA-384, an outside standard (R317–R319): log entry 24. -/
opaque sha384 : List Byte → BitVec 384

/-- ECDSA P-384 verification of a signature over a digest with a public key, an outside standard (R317): log entry 24. -/
opaque ecdsaOk : List Byte → List Byte → BitVec 384 → Bool

/-- The opening of an AES-256-GCM ciphertext with its tag, under a key, nonce and additional data; none where the tag fails (R319): log
entry 24. -/
opaque gcmOpen : BitVec 256 → List Byte → List Byte → List Byte → Option (List Byte)

/-- The Ranqueto key hash, fixed in fuses (R318): log entry 25. -/
opaque ranquetoHash : BitVec 384

/-- The platform key hash in fuses; none while it is unprogrammed (R318): log entry 25. -/
opaque platformHash : Option (BitVec 384)

/-- The device key and the platform encryption key, key slots 0 and 1 (R318): log entry 25. -/
opaque fusedKey : Nat → BitVec 256

/-- The die revision of a leaf: 0 A0, 1 B0 (R346): log entry 25. -/
opaque dieRev : Nat → Fin 4

/-- The level of a management pin on which two or more drivers act (R462), by the count of open values and the pin: log entry 27. -/
opaque conflictLevel : Nat → Nat → Bool

/-- HMAC-SHA-256 of a message under a key, an outside standard (R401): log entry 24. -/
opaque hmacSha256 : List Byte → List Byte → List Byte

/-- AES key unwrap (RFC 3394) of a wrapped key under a wrapping key; none where its check fails (R404): log entry 24. -/
opaque unwrapKey : List Byte → List Byte → Option (List Byte)

/-- The version of the Keeper firmware that GET_INFO returns; the spec does not say where it comes from: log entry 25. -/
opaque firmwareVersion : Word

/-- The fuse KH_AUTHMODE: challenge-response in place of levels (R479): log entry 25. -/
opaque khAuthMode : Bool

/-- The fuse KH_LEVEL (R479): log entry 25. -/
opaque khLevel : BitVec 2

/-- The per-device debug key in fuses (R479): log entry 25. -/
opaque debugKey : List Byte

/-- A register of a Keeper core as the firmware left it when the debugger halted the core, by the count of open values, and the register:
general register n at n, CSR n at 4096 + n (R482): log entry 2. -/
opaque coreReg : Nat → Nat → BitVec 64

/-- The signature of an engine that passes its self-test, fixed in the silicon; its value is not in the spec (R221): log entry 25. -/
opaque engineSignature : Word

/-- A byte of the boot ROM, whose code is not in the spec (R362): log entry 25. -/
opaque bootRom : Nat → Byte

end Sys2Proof.Config
end

