-- ==== Sys2Proof/Machine/Sparse.lean ====
section
/-! DEFINITION. Reading and writing a sparse store.  Two stores that hold the same values are the same list: the keys rise
strictly and no entry holds the default. -/

namespace Sys2Proof.Machine
open Sys2Proof

/-- The value at key `k`, or the default where the store lists none. -/
def sget {α : Type} (d : α) : Sparse α → Nat → α
  | [], _ => d
  | (k', v) :: l, k => if k = k' then v else sget d l k

/-- The store without key `k`. -/
def serase {α : Type} : Sparse α → Nat → Sparse α
  | [], _ => []
  | (k', v) :: l, k => if k = k' then serase l k else (k', v) :: serase l k

/-- The store with an entry put in at its place. -/
def sinsert {α : Type} : Sparse α → Nat → α → Sparse α
  | [], k, v => [(k, v)]
  | (k', v') :: l, k, v => if k < k' then (k, v) :: (k', v') :: l else (k', v') :: sinsert l k v

/-- The store with value `v` at key `k`; writing the default removes the entry. -/
def sset {α : Type} [DecidableEq α] (d : α) (l : Sparse α) (k : Nat) (v : α) : Sparse α :=
  if v = d then serase l k else sinsert (serase l k) k v

/-- The canonical form: keys strictly rising, no entry equal to the default of its key. -/
def swf {α : Type} (d : Nat → α) (l : Sparse α) : Prop :=
  l.Pairwise (fun a b => a.1 < b.1) ∧ ∀ p ∈ l, p.2 ≠ d p.1

/-- The entries whose value satisfies `p`, as keys, in rising order. -/
def skeys {α : Type} (p : α → Bool) (l : Sparse α) : List Nat :=
  (l.filter (fun e => p e.2)).map (·.1)

end Sys2Proof.Machine
end

