-- ==== Sys2Proof/Machine/RegMap.lean ====
section
/-! DEFINITION. The register map: the fields of every register (place, width, access code), its reset value and
its address, from the register and field tables of spec/ (R71, R101, R163, R167, R211, R224, R249, R285, R314, R346,
R361, R385, R386, R411, R427, R453, R469, R487). A register with several copies is picked by one index: the
numbers in its name in their order there, the last one counting fastest. -/

namespace Sys2Proof.Machine
open Sys2Proof

/-- A field: its register, its lowest bit and its width. -/
structure Fld where
  reg : RegName
  lo : Nat
  width : Nat
deriving DecidableEq, Repr

/-- The access codes of R9. -/
inductive Access where
  | RW | RO | WO | W1C | W1S | RC | RWL
deriving DecidableEq, Repr

/-- A row of a field table: place, width, the access code, and the code of the Keeper side where the SHX block gives two (R411). -/
structure FieldRow where
  lo : Nat
  width : Nat
  acc : Access
  kacc : Access
deriving DecidableEq, Repr

def F.CLK_STRAP.XSEL : Fld := ⟨.CLK_STRAP, 0, 1⟩
def F.CLK_STRAP.XDLY : Fld := ⟨.CLK_STRAP, 1, 2⟩
def F.CLK_STRAP.REFKIND : Fld := ⟨.CLK_STRAP, 3, 2⟩
def F.CLK_ROOT_CFG.MULT : Fld := ⟨.CLK_ROOT_CFG, 0, 7⟩
def F.CLK_ROOT_CFG.SEALED : Fld := ⟨.CLK_ROOT_CFG, 31, 1⟩
def F.CLK_ROOT_STAT.LOCK : Fld := ⟨.CLK_ROOT_STAT, 0, 4⟩
def F.CLK_ROOT_STAT.ALIGNED : Fld := ⟨.CLK_ROOT_STAT, 4, 4⟩
def F.CLK_ROOT_STAT.RELOCK : Fld := ⟨.CLK_ROOT_STAT, 8, 1⟩
def F.CLK_ROOT_STAT.REJECT : Fld := ⟨.CLK_ROOT_STAT, 9, 1⟩
def F.CLK_ROOT_STAT.EPOCH : Fld := ⟨.CLK_ROOT_STAT, 10, 1⟩
def F.CLK_ALIGN_ERR.ERR_L1 : Fld := ⟨.CLK_ALIGN_ERR, 0, 8⟩
def F.CLK_ALIGN_ERR.ERR_L2 : Fld := ⟨.CLK_ALIGN_ERR, 8, 8⟩
def F.CLK_ALIGN_ERR.ERR_L3 : Fld := ⟨.CLK_ALIGN_ERR, 16, 8⟩
def F.CLK_MON_CTL.AUTOSW : Fld := ⟨.CLK_MON_CTL, 0, 1⟩
def F.CLK_MON_CTL.EVT_EN : Fld := ⟨.CLK_MON_CTL, 1, 1⟩
def F.CLK_MON_STAT.RUN : Fld := ⟨.CLK_MON_STAT, 0, 5⟩
def F.CLK_MON_STAT.OOR_SEEN : Fld := ⟨.CLK_MON_STAT, 8, 1⟩
def F.CLK_MON_STAT.LOCKLOSS_SEEN : Fld := ⟨.CLK_MON_STAT, 9, 1⟩
def F.CLK_MON_STAT.AUTOSW_DONE : Fld := ⟨.CLK_MON_STAT, 10, 1⟩
def F.CLK_MON_CAUSE.CAUSE : Fld := ⟨.CLK_MON_CAUSE, 0, 3⟩
def F.CLK_MON_CAUSE.LEAF : Fld := ⟨.CLK_MON_CAUSE, 4, 2⟩
def F.CLK_MON_CAUSE.STEP : Fld := ⟨.CLK_MON_CAUSE, 8, 3⟩
def F.CLK_MON_FREQ.FREQ : Fld := ⟨.CLK_MON_FREQ, 0, 16⟩
def F.CLK_KCK_CTL.DIV : Fld := ⟨.CLK_KCK_CTL, 0, 7⟩
def F.CLK_KCK_CTL.SRC : Fld := ⟨.CLK_KCK_CTL, 8, 1⟩
def F.CLK_CCK_CTL.DIV : Fld := ⟨.CLK_CCK_CTL, 0, 7⟩
def F.CLK_CCK_CTL.SRC : Fld := ⟨.CLK_CCK_CTL, 8, 1⟩
def F.CLK_SW_STAT.BUSY_KCK : Fld := ⟨.CLK_SW_STAT, 0, 1⟩
def F.CLK_SW_STAT.BUSY_CCK : Fld := ⟨.CLK_SW_STAT, 1, 1⟩
def F.CLK_SW_STAT.FORCED_KCK : Fld := ⟨.CLK_SW_STAT, 8, 1⟩
def F.CLK_SW_STAT.FORCED_CCK : Fld := ⟨.CLK_SW_STAT, 9, 1⟩
def F.CLK_LREF_STAT.PRESENT : Fld := ⟨.CLK_LREF_STAT, 0, 8⟩
def F.CLK_LREF_STAT.LOST : Fld := ⟨.CLK_LREF_STAT, 8, 8⟩
def F.CLK_DTC_INC.VALUE : Fld := ⟨.CLK_DTC_INC, 0, 32⟩
def F.CLK_DTC_INC_HI.VALUE : Fld := ⟨.CLK_DTC_INC_HI, 0, 32⟩
def F.CLK_DTC_LO.VALUE : Fld := ⟨.CLK_DTC_LO, 0, 32⟩
def F.CLK_DTC_HI.VALUE : Fld := ⟨.CLK_DTC_HI, 0, 32⟩
def F.CLK_FCK.DIV_NEXT : Fld := ⟨.CLK_FCK, 0, 11⟩
def F.CLK_FCK.DIV : Fld := ⟨.CLK_FCK, 16, 11⟩
def F.CLK_FCK.EN : Fld := ⟨.CLK_FCK, 31, 1⟩
def F.CLK_ECK.DIV_NEXT : Fld := ⟨.CLK_ECK, 0, 7⟩
def F.CLK_ECK.DIV : Fld := ⟨.CLK_ECK, 16, 7⟩
def F.CLK_ECK.EN : Fld := ⟨.CLK_ECK, 31, 1⟩
def F.CLK_MCK.DIV_NEXT : Fld := ⟨.CLK_MCK, 0, 6⟩
def F.CLK_MCK.DIV : Fld := ⟨.CLK_MCK, 16, 6⟩
def F.CLK_MCK.EN : Fld := ⟨.CLK_MCK, 31, 1⟩
def F.CLK_SGATE.OPEN : Fld := ⟨.CLK_SGATE, 0, 32⟩
def F.KRV_CTL.RET_EVT_EN : Fld := ⟨.KRV_CTL, 0, 1⟩
def F.KRV_CTL.TMO_EVT_EN : Fld := ⟨.KRV_CTL, 1, 1⟩
def F.KRV_TMO.TMO : Fld := ⟨.KRV_TMO, 0, 16⟩
def F.KRV_KNK_THR.REPLAY_MAX : Fld := ⟨.KRV_KNK_THR, 0, 8⟩
def F.KRV_KNK_THR.WIN : Fld := ⟨.KRV_KNK_THR, 8, 8⟩
def F.KRV_KNK_SPARE.RET0 : Fld := ⟨.KRV_KNK_SPARE, 0, 5⟩
def F.KRV_KNK_SPARE.RET1 : Fld := ⟨.KRV_KNK_SPARE, 8, 5⟩
def F.KRV_KNK_SPARE.RESTORE : Fld := ⟨.KRV_KNK_SPARE, 16, 1⟩
def F.KRV_KNK_STAT.LFAIL : Fld := ⟨.KRV_KNK_STAT, 0, 16⟩
def F.KRV_KNK_STAT.SPARES_LEFT : Fld := ⟨.KRV_KNK_STAT, 16, 2⟩
def F.KRV_KNK_STAT.BUSY : Fld := ⟨.KRV_KNK_STAT, 18, 1⟩
def F.KRV_KNK_STAT.DETOUR : Fld := ⟨.KRV_KNK_STAT, 19, 1⟩
def F.KRV_KNK_ERR.CRC_ERR : Fld := ⟨.KRV_KNK_ERR, 0, 16⟩
def F.KRV_KNK_ERR.REPLAY : Fld := ⟨.KRV_KNK_ERR, 16, 16⟩
def F.KRV_ELOG0.CODE : Fld := ⟨.KRV_ELOG0, 0, 8⟩
def F.KRV_ELOG0.DETAIL : Fld := ⟨.KRV_ELOG0, 8, 8⟩
def F.KRV_ELOG0.SRC : Fld := ⟨.KRV_ELOG0, 16, 13⟩
def F.KRV_ELOG0.VALID : Fld := ⟨.KRV_ELOG0, 31, 1⟩
def F.KRV_ELOG1.DA_LO : Fld := ⟨.KRV_ELOG1, 0, 32⟩
def F.KRV_ELOG2.DA_HI : Fld := ⟨.KRV_ELOG2, 0, 16⟩
def F.KRV_CRCDROP.COUNT : Fld := ⟨.KRV_CRCDROP, 0, 32⟩
def F.KRV_LATE.COUNT : Fld := ⟨.KRV_LATE, 0, 32⟩
def F.KRV_AP.OUTST : Fld := ⟨.KRV_AP, 0, 7⟩
def F.KRV_AP.QUAR : Fld := ⟨.KRV_AP, 8, 7⟩
def F.KRV_AP.CLOSED : Fld := ⟨.KRV_AP, 16, 1⟩
def F.KRV_AP.DRAINED : Fld := ⟨.KRV_AP, 17, 1⟩
def F.KRV_AP.CLKOK : Fld := ⟨.KRV_AP, 18, 1⟩
def F.MEM_SCR_CTL.EN : Fld := ⟨.MEM_SCR_CTL, 0, 1⟩
def F.MEM_SCR_CTL.BRAM : Fld := ⟨.MEM_SCR_CTL, 1, 1⟩
def F.MEM_SCR_CTL.VAULT : Fld := ⟨.MEM_SCR_CTL, 2, 1⟩
def F.MEM_SCR_CTL.TMBD : Fld := ⟨.MEM_SCR_CTL, 3, 1⟩
def F.MEM_SCR_CTL.TMBP : Fld := ⟨.MEM_SCR_CTL, 4, 1⟩
def F.MEM_SCR_CTL.CE_EVT : Fld := ⟨.MEM_SCR_CTL, 8, 1⟩
def F.MEM_SCR_CTL.UE_EVT : Fld := ⟨.MEM_SCR_CTL, 9, 1⟩
def F.MEM_SCR_CTL.PERM_EVT : Fld := ⟨.MEM_SCR_CTL, 10, 1⟩
def F.MEM_SCR_CTL.AUTOREMAP : Fld := ⟨.MEM_SCR_CTL, 11, 1⟩
def F.MEM_SCR_PERIOD.PERIOD : Fld := ⟨.MEM_SCR_PERIOD, 0, 16⟩
def F.MEM_SCR_STAT.PASS : Fld := ⟨.MEM_SCR_STAT, 0, 16⟩
def F.MEM_SCR_STAT.LATE : Fld := ⟨.MEM_SCR_STAT, 16, 1⟩
def F.MEM_SCR_STAT.RUN : Fld := ⟨.MEM_SCR_STAT, 17, 1⟩
def F.MEM_CE_CNT.COUNT : Fld := ⟨.MEM_CE_CNT, 0, 32⟩
def F.MEM_UE_CNT.COUNT : Fld := ⟨.MEM_UE_CNT, 0, 32⟩
def F.MEM_BIST_STAT.DONE : Fld := ⟨.MEM_BIST_STAT, 0, 1⟩
def F.MEM_BIST_STAT.FAILED : Fld := ⟨.MEM_BIST_STAT, 16, 16⟩
def F.MEM_LOG_CTL.HEAD : Fld := ⟨.MEM_LOG_CTL, 0, 4⟩
def F.MEM_LOG_CTL.COUNT : Fld := ⟨.MEM_LOG_CTL, 4, 5⟩
def F.MEM_LOG_CTL.POP : Fld := ⟨.MEM_LOG_CTL, 31, 1⟩
def F.MEM_LOG_LOST.COUNT : Fld := ⟨.MEM_LOG_LOST, 0, 32⟩
def F.MEM_LOG_W0.KIND : Fld := ⟨.MEM_LOG_W, 0, 3⟩
def F.MEM_LOG_W0.MKIND : Fld := ⟨.MEM_LOG_W, 3, 2⟩
def F.MEM_LOG_W0.INST : Fld := ⟨.MEM_LOG_W, 5, 13⟩
def F.MEM_LOG_W0.ENTRY : Fld := ⟨.MEM_LOG_W, 18, 3⟩
def F.MEM_LOG_W1.WORD : Fld := ⟨.MEM_LOG_W, 0, 13⟩
def F.MEM_LOG_W1.POS : Fld := ⟨.MEM_LOG_W, 16, 8⟩
def F.MEM_LOG_W1.PASS : Fld := ⟨.MEM_LOG_W, 24, 8⟩
def F.MEM_LOG_W2.DTC_LO : Fld := ⟨.MEM_LOG_W, 0, 32⟩
def F.MEM_LOG_W3.DTC_HI : Fld := ⟨.MEM_LOG_W, 0, 32⟩
def F.MEM_BRAM.USABLE : Fld := ⟨.MEM_BRAM, 0, 1⟩
def F.MEM_BRAM.DEGRADED : Fld := ⟨.MEM_BRAM, 1, 1⟩
def F.MEM_BRAM.ECCON : Fld := ⟨.MEM_BRAM, 2, 1⟩
def F.MEM_BRAM.SKIPPED : Fld := ⟨.MEM_BRAM, 3, 1⟩
def F.MEM_BRAM.RMP_USED : Fld := ⟨.MEM_BRAM, 4, 8⟩
def F.MEM_BRAM.SPARE_BAD : Fld := ⟨.MEM_BRAM, 12, 8⟩
def F.MEM_BRAM.CE : Fld := ⟨.MEM_BRAM, 20, 8⟩
def F.MEM_BRAM.PROG_PERM : Fld := ⟨.MEM_BRAM, 28, 1⟩
def F.MEM_VAULT.USABLE : Fld := ⟨.MEM_VAULT, 0, 1⟩
def F.MEM_VAULT.DEGRADED : Fld := ⟨.MEM_VAULT, 1, 1⟩
def F.MEM_VAULT.ECCON : Fld := ⟨.MEM_VAULT, 2, 1⟩
def F.MEM_VAULT.SKIPPED : Fld := ⟨.MEM_VAULT, 3, 1⟩
def F.MEM_VAULT.RMP_USED : Fld := ⟨.MEM_VAULT, 4, 8⟩
def F.MEM_VAULT.SPARE_BAD : Fld := ⟨.MEM_VAULT, 12, 8⟩
def F.MEM_VAULT.CE : Fld := ⟨.MEM_VAULT, 20, 8⟩
def F.MEM_VAULT.PROG_PERM : Fld := ⟨.MEM_VAULT, 28, 1⟩
def F.MEM_TMB.USABLE : Fld := ⟨.MEM_TMB, 0, 1⟩
def F.MEM_TMB.DEGRADED : Fld := ⟨.MEM_TMB, 1, 1⟩
def F.MEM_TMB.ECCON : Fld := ⟨.MEM_TMB, 2, 1⟩
def F.MEM_TMB.SKIPPED : Fld := ⟨.MEM_TMB, 3, 1⟩
def F.MEM_TMB.RMP_USED : Fld := ⟨.MEM_TMB, 4, 8⟩
def F.MEM_TMB.SPARE_BAD : Fld := ⟨.MEM_TMB, 12, 8⟩
def F.MEM_TMB.CE : Fld := ⟨.MEM_TMB, 20, 8⟩
def F.MEM_TMB.PROG_PERM : Fld := ⟨.MEM_TMB, 28, 1⟩
def F.MEM_RMP_SEL.MKIND : Fld := ⟨.MEM_RMP_SEL, 0, 2⟩
def F.MEM_RMP_SEL.INST : Fld := ⟨.MEM_RMP_SEL, 2, 13⟩
def F.MEM_RMP_SEL.ENTRY : Fld := ⟨.MEM_RMP_SEL, 16, 3⟩
def F.MEM_RMP_DATA.WORD : Fld := ⟨.MEM_RMP_DATA, 0, 13⟩
def F.MEM_RMP_DATA.POS : Fld := ⟨.MEM_RMP_DATA, 16, 8⟩
def F.MEM_RMP_DATA.SRC : Fld := ⟨.MEM_RMP_DATA, 28, 2⟩
def F.MEM_RMP_DATA.VALID : Fld := ⟨.MEM_RMP_DATA, 31, 1⟩
def F.MEM_RMP_CMD.WORD : Fld := ⟨.MEM_RMP_CMD, 0, 13⟩
def F.MEM_RMP_CMD.ADD : Fld := ⟨.MEM_RMP_CMD, 31, 1⟩
def F.MEM_RMP_STAT.BUSY : Fld := ⟨.MEM_RMP_STAT, 0, 1⟩
def F.MEM_RMP_STAT.FAIL : Fld := ⟨.MEM_RMP_STAT, 1, 1⟩
def F.CR_STATUS.IE : Fld := ⟨.CR_STATUS, 0, 1⟩
def F.CR_STATUS.BANK : Fld := ⟨.CR_STATUS, 1, 1⟩
def F.CR_STATUS.SAT : Fld := ⟨.CR_STATUS, 2, 1⟩
def F.CR_STATUS.AOVF : Fld := ⟨.CR_STATUS, 3, 1⟩
def F.CR_STATUS.FINV : Fld := ⟨.CR_STATUS, 4, 1⟩
def F.CR_STATUS.FOVF : Fld := ⟨.CR_STATUS, 5, 1⟩
def F.CR_STATUS.ILL : Fld := ⟨.CR_STATUS, 6, 1⟩
def F.CR_STATUS.MERR : Fld := ⟨.CR_STATUS, 7, 1⟩
def F.CR_EVT.DOORBELL : Fld := ⟨.CR_EVT, 0, 1⟩
def F.CR_EVT.STREAM : Fld := ⟨.CR_EVT, 1, 1⟩
def F.CR_EVT.NETDONE : Fld := ⟨.CR_EVT, 2, 1⟩
def F.CR_EVT.TIMER : Fld := ⟨.CR_EVT, 3, 1⟩
def F.CR_EVT.NERR : Fld := ⟨.CR_EVT, 4, 1⟩
def F.CR_EVT.SERR : Fld := ⟨.CR_EVT, 5, 1⟩
def F.CR_EVT.MERR : Fld := ⟨.CR_EVT, 6, 1⟩
def F.CR_EVT.SWI : Fld := ⟨.CR_EVT, 7, 1⟩
def F.CR_EVMASK.DOORBELL : Fld := ⟨.CR_EVMASK, 0, 1⟩
def F.CR_EVMASK.STREAM : Fld := ⟨.CR_EVMASK, 1, 1⟩
def F.CR_EVMASK.NETDONE : Fld := ⟨.CR_EVMASK, 2, 1⟩
def F.CR_EVMASK.TIMER : Fld := ⟨.CR_EVMASK, 3, 1⟩
def F.CR_EVMASK.NERR : Fld := ⟨.CR_EVMASK, 4, 1⟩
def F.CR_EVMASK.SERR : Fld := ⟨.CR_EVMASK, 5, 1⟩
def F.CR_EVMASK.MERR : Fld := ⟨.CR_EVMASK, 6, 1⟩
def F.CR_EVMASK.SWI : Fld := ⟨.CR_EVMASK, 7, 1⟩
def F.CR_HVEC.ADDR : Fld := ⟨.CR_HVEC, 0, 10⟩
def F.CR_EPC.ADDR : Fld := ⟨.CR_EPC, 0, 10⟩
def F.CR_NOUT.COUNT : Fld := ⟨.CR_NOUT, 0, 5⟩
def F.CR_NLOG.CODE : Fld := ⟨.CR_NLOG, 0, 8⟩
def F.CR_NLOG.BADDR : Fld := ⟨.CR_NLOG, 16, 10⟩
def F.CR_NLOG.VALID : Fld := ⟨.CR_NLOG, 31, 1⟩
def F.CR_SSTAT.IN_N : Fld := ⟨.CR_SSTAT, 0, 3⟩
def F.CR_SSTAT.IN_E : Fld := ⟨.CR_SSTAT, 4, 3⟩
def F.CR_SSTAT.IN_S : Fld := ⟨.CR_SSTAT, 8, 3⟩
def F.CR_SSTAT.IN_W : Fld := ⟨.CR_SSTAT, 12, 3⟩
def F.CR_SSTAT.OPEN : Fld := ⟨.CR_SSTAT, 16, 4⟩
def F.CR_SEVSEL.SEL : Fld := ⟨.CR_SEVSEL, 0, 4⟩
def F.CR_CYC.VALUE : Fld := ⟨.CR_CYC, 0, 32⟩
def F.CR_TCMP.VALUE : Fld := ⟨.CR_TCMP, 0, 32⟩
def F.CR_ENGID.ENG : Fld := ⟨.CR_ENGID, 0, 9⟩
def F.CR_JARG.VALUE : Fld := ⟨.CR_JARG, 0, 32⟩
def F.CR_JINFO.RANK : Fld := ⟨.CR_JINFO, 0, 7⟩
def F.CR_JINFO.NUM : Fld := ⟨.CR_JINFO, 8, 8⟩
def F.CR_JINFO.SET : Fld := ⟨.CR_JINFO, 16, 6⟩
def F.CR_DBCAUSE.NET : Fld := ⟨.CR_DBCAUSE, 0, 1⟩
def F.CR_DBCAUSE.KEEPER : Fld := ⟨.CR_DBCAUSE, 1, 1⟩
def F.CR_DBCAUSE.WREQ : Fld := ⟨.CR_DBCAUSE, 2, 1⟩
def F.CR_DBADDR.EN : Fld := ⟨.CR_DBADDR, 0, 1⟩
def F.CR_DBADDR.ADDR : Fld := ⟨.CR_DBADDR, 3, 13⟩
def F.CR_WOFF_LO.VALUE : Fld := ⟨.CR_WOFF_LO, 0, 32⟩
def F.CR_WOFF_HI.OFF_HI : Fld := ⟨.CR_WOFF_HI, 0, 8⟩
def F.CR_WOFF_HI.VALID : Fld := ⟨.CR_WOFF_HI, 31, 1⟩
def F.CR_WRSP.LINE : Fld := ⟨.CR_WRSP, 6, 10⟩
def F.CR_WSTAT.DEPTH : Fld := ⟨.CR_WSTAT, 0, 3⟩
def F.CR_WSTAT.STRAY : Fld := ⟨.CR_WSTAT, 8, 1⟩
def F.TMB_CFG.SET : Fld := ⟨.TMB_CFG, 0, 6⟩
def F.TMB_CFG.VALID : Fld := ⟨.TMB_CFG, 8, 1⟩
def F.TMB_STAT.RUN : Fld := ⟨.TMB_STAT, 0, 3⟩
def F.TMB_STAT.BANK : Fld := ⟨.TMB_STAT, 3, 1⟩
def F.TMB_STAT.TESTED : Fld := ⟨.TMB_STAT, 4, 1⟩
def F.TMB_STAT.RETIRED : Fld := ⟨.TMB_STAT, 5, 1⟩
def F.TMB_STAT.CLEARING : Fld := ⟨.TMB_STAT, 6, 1⟩
def F.TMB_STAT.TBUSY : Fld := ⟨.TMB_STAT, 7, 1⟩
def F.TMB_STAT.LIVE : Fld := ⟨.TMB_STAT, 8, 1⟩
def F.TMB_STAT.RCAUSE : Fld := ⟨.TMB_STAT, 9, 3⟩
def F.TMB_STAT.WDEPTH : Fld := ⟨.TMB_STAT, 12, 3⟩
def F.TMB_STAT.REJECT : Fld := ⟨.TMB_STAT, 16, 1⟩
def F.TMB_CTL.STOP : Fld := ⟨.TMB_CTL, 0, 1⟩
def F.TMB_CTL.TEST : Fld := ⟨.TMB_CTL, 1, 1⟩
def F.TMB_CTL.RESTORE : Fld := ⟨.TMB_CTL, 2, 1⟩
def F.TMB_PC.PC : Fld := ⟨.TMB_PC, 0, 10⟩
def F.TMB_PC.EPC : Fld := ⟨.TMB_PC, 16, 10⟩
def F.TMB_TSIG.SIG : Fld := ⟨.TMB_TSIG, 0, 32⟩
def F.TMB_EVCAUSE.FAULT : Fld := ⟨.TMB_EVCAUSE, 0, 1⟩
def F.TMB_EVCAUSE.MEMERR : Fld := ⟨.TMB_EVCAUSE, 1, 1⟩
def F.TMB_EVCAUSE.RETIRED : Fld := ⟨.TMB_EVCAUSE, 2, 1⟩
def F.TMB_EVCAUSE.TESTDONE : Fld := ⟨.TMB_EVCAUSE, 3, 1⟩
def F.TMB_EVCAUSE.JOBEND : Fld := ⟨.TMB_EVCAUSE, 4, 1⟩
def F.TMB_EVEN.FAULT : Fld := ⟨.TMB_EVEN, 0, 1⟩
def F.TMB_EVEN.MEMERR : Fld := ⟨.TMB_EVEN, 1, 1⟩
def F.TMB_EVEN.RETIRED : Fld := ⟨.TMB_EVEN, 2, 1⟩
def F.TMB_EVEN.TESTDONE : Fld := ⟨.TMB_EVEN, 3, 1⟩
def F.TMB_EVEN.JOBEND : Fld := ⟨.TMB_EVEN, 4, 1⟩
def F.TMB_CR.VALUE : Fld := ⟨.TMB_CR, 0, 32⟩
def F.TMB_SET_CFG.TENANT : Fld := ⟨.TMB_SET_CFG, 0, 4⟩
def F.TMB_SET_CFG.VALID : Fld := ⟨.TMB_SET_CFG, 8, 1⟩
def F.TMB_SET_CFG.WINDOW : Fld := ⟨.TMB_SET_CFG, 9, 1⟩
def F.TMB_SET_CFG.REJECT : Fld := ⟨.TMB_SET_CFG, 16, 1⟩
def F.TMB_SET_INFO.NUM : Fld := ⟨.TMB_SET_INFO, 0, 8⟩
def F.TMB_SET_INFO.MEMBERS : Fld := ⟨.TMB_SET_INFO, 8, 8⟩
def F.TMB_SET_INFO.LEAF : Fld := ⟨.TMB_SET_INFO, 16, 2⟩
def F.TMB_SET_JOB.ENTRY : Fld := ⟨.TMB_SET_JOB, 0, 10⟩
def F.TMB_SET_JOB.GO : Fld := ⟨.TMB_SET_JOB, 31, 1⟩
def F.TMB_SET_TMO.TMO : Fld := ⟨.TMB_SET_TMO, 0, 32⟩
def F.TMB_SET_ARG.ARG : Fld := ⟨.TMB_SET_ARG, 0, 32⟩
def F.TMB_SET_JSTAT.RUNNING : Fld := ⟨.TMB_SET_JSTAT, 0, 1⟩
def F.TMB_SET_JSTAT.END : Fld := ⟨.TMB_SET_JSTAT, 1, 3⟩
def F.TMB_SET_JSTAT.REJECT : Fld := ⟨.TMB_SET_JSTAT, 4, 1⟩
def F.TMB_SET_STOP.STOP : Fld := ⟨.TMB_SET_STOP, 0, 1⟩
def F.TMB_SET_DB.DB : Fld := ⟨.TMB_SET_DB, 0, 1⟩
def F.TMB_TW_CFG.EN : Fld := ⟨.TMB_TW_CFG, 0, 1⟩
def F.TMB_TW_CFG.REJECT : Fld := ⟨.TMB_TW_CFG, 1, 1⟩
def F.TMB_TW_CFG.TENANT : Fld := ⟨.TMB_TW_CFG, 8, 4⟩
def F.TMB_TW_CFG.SET : Fld := ⟨.TMB_TW_CFG, 16, 6⟩
def F.TMB_TW_CFG.SIZE : Fld := ⟨.TMB_TW_CFG, 24, 6⟩
def F.TMB_TW_BASE_LO.BASE : Fld := ⟨.TMB_TW_BASE_LO, 12, 20⟩
def F.TMB_TW_BASE_HI.BASE : Fld := ⟨.TMB_TW_BASE_HI, 0, 16⟩
def F.TMB_TW_BOUND.BOUND : Fld := ⟨.TMB_TW_BOUND, 0, 16⟩
def F.TMB_TW_SERVED.VALUE : Fld := ⟨.TMB_TW_SERVED, 0, 32⟩
def F.TMB_TW_OVERRUN.VALUE : Fld := ⟨.TMB_TW_OVERRUN, 0, 32⟩
def F.TMB_TW_NOTREADY.VALUE : Fld := ⟨.TMB_TW_NOTREADY, 0, 32⟩
def F.TMB_TW_LATE.VALUE : Fld := ⟨.TMB_TW_LATE, 0, 32⟩
def F.TMB_TW_WRITES.VALUE : Fld := ⟨.TMB_TW_WRITES, 0, 32⟩
def F.LNK_PCFG.X8X2 : Fld := ⟨.LNK_PCFG, 0, 1⟩
def F.LNK_PCFG.REFMODE : Fld := ⟨.LNK_PCFG, 1, 1⟩
def F.LNK_PSTAT.PLLOCK : Fld := ⟨.LNK_PSTAT, 0, 2⟩
def F.LNK_PSTAT.REFOK : Fld := ⟨.LNK_PSTAT, 2, 1⟩
def F.LNK_RET.RET : Fld := ⟨.LNK_RET, 0, 16⟩
def F.LNK_RET.RESTORE : Fld := ⟨.LNK_RET, 16, 16⟩
def F.LNK_TMO.TRAIN : Fld := ⟨.LNK_TMO, 0, 10⟩
def F.LNK_HCTL.HOLD : Fld := ⟨.LNK_HCTL, 0, 1⟩
def F.LNK_HCTL.RETRAIN : Fld := ⟨.LNK_HCTL, 1, 1⟩
def F.LNK_HCTL.REDETECT : Fld := ⟨.LNK_HCTL, 2, 1⟩
def F.LNK_HCTL.RATE_LIM : Fld := ⟨.LNK_HCTL, 4, 3⟩
def F.LNK_HCFG.EXISTS : Fld := ⟨.LNK_HCFG, 0, 1⟩
def F.LNK_HCFG.CXL : Fld := ⟨.LNK_HCFG, 1, 1⟩
def F.LNK_HCFG.MAXRATE : Fld := ⟨.LNK_HCFG, 2, 3⟩
def F.LNK_HSTAT.LTSSM : Fld := ⟨.LNK_HSTAT, 0, 4⟩
def F.LNK_HSTAT.CTLST : Fld := ⟨.LNK_HSTAT, 4, 3⟩
def F.LNK_HSTAT.RATE : Fld := ⟨.LNK_HSTAT, 8, 3⟩
def F.LNK_HSTAT.WIDTH : Fld := ⟨.LNK_HSTAT, 11, 5⟩
def F.LNK_HSTAT.FLIT : Fld := ⟨.LNK_HSTAT, 16, 1⟩
def F.LNK_HSTAT.CXLUP : Fld := ⟨.LNK_HSTAT, 17, 1⟩
def F.LNK_HSTAT.REV : Fld := ⟨.LNK_HSTAT, 18, 1⟩
def F.LNK_HSTAT.UP : Fld := ⟨.LNK_HSTAT, 19, 1⟩
def F.LNK_HSTAT.BACKOFF_K : Fld := ⟨.LNK_HSTAT, 20, 4⟩
def F.LNK_HATT.ATTEMPTS : Fld := ⟨.LNK_HATT, 0, 16⟩
def F.LNK_HATT.FAILED : Fld := ⟨.LNK_HATT, 16, 16⟩
def F.LNK_HREC.COUNT : Fld := ⟨.LNK_HREC, 0, 32⟩
def F.LNK_HFEC.COUNT : Fld := ⟨.LNK_HFEC, 0, 32⟩
def F.LNK_HREPLAY.COUNT : Fld := ⟨.LNK_HREPLAY, 0, 32⟩
def F.LNK_HTHR.THR : Fld := ⟨.LNK_HTHR, 0, 8⟩
def F.LNK_HEVT.UP : Fld := ⟨.LNK_HEVT, 0, 1⟩
def F.LNK_HEVT.DOWN : Fld := ⟨.LNK_HEVT, 1, 1⟩
def F.LNK_HEVT.RETIRED : Fld := ⟨.LNK_HEVT, 2, 1⟩
def F.LNK_HEVT.ERRRATE : Fld := ⟨.LNK_HEVT, 3, 1⟩
def F.LNK_HEVT.FELB : Fld := ⟨.LNK_HEVT, 4, 1⟩
def F.LNK_HEVEN.UP : Fld := ⟨.LNK_HEVEN, 0, 1⟩
def F.LNK_HEVEN.DOWN : Fld := ⟨.LNK_HEVEN, 1, 1⟩
def F.LNK_HEVEN.RETIRED : Fld := ⟨.LNK_HEVEN, 2, 1⟩
def F.LNK_HEVEN.ERRRATE : Fld := ⟨.LNK_HEVEN, 3, 1⟩
def F.LNK_HEVEN.FELB : Fld := ⟨.LNK_HEVEN, 4, 1⟩
def F.LNK_LSTAT.STAGE : Fld := ⟨.LNK_LSTAT, 0, 3⟩
def F.LNK_LSTAT.INLINK : Fld := ⟨.LNK_LSTAT, 3, 1⟩
def F.LNK_LSTAT.POLINV : Fld := ⟨.LNK_LSTAT, 4, 1⟩
def F.LNK_LSTAT.RETIRED : Fld := ⟨.LNK_LSTAT, 5, 1⟩
def F.LNK_LSTAT.CHARGES : Fld := ⟨.LNK_LSTAT, 6, 2⟩
def F.LNK_LSTAT.LNUM : Fld := ⟨.LNK_LSTAT, 8, 4⟩
def F.LNK_LERR.COUNT : Fld := ⟨.LNK_LERR, 0, 32⟩
def F.LNK_LTXEQ.PRE : Fld := ⟨.LNK_LTXEQ, 0, 6⟩
def F.LNK_LTXEQ.POST : Fld := ⟨.LNK_LTXEQ, 8, 6⟩
def F.LNK_LTXEQ.OVR : Fld := ⟨.LNK_LTXEQ, 15, 1⟩
def F.LNK_LTXEQ.PRE_APP : Fld := ⟨.LNK_LTXEQ, 16, 6⟩
def F.LNK_LTXEQ.POST_APP : Fld := ⟨.LNK_LTXEQ, 24, 6⟩
def F.LNK_LTXEQ.CLAMPED : Fld := ⟨.LNK_LTXEQ, 31, 1⟩
def F.LNK_LRXEQ.CTLE : Fld := ⟨.LNK_LRXEQ, 0, 5⟩
def F.LNK_LRXEQ.DFE1 : Fld := ⟨.LNK_LRXEQ, 8, 5⟩
def F.LNK_LRXEQ.DFE2 : Fld := ⟨.LNK_LRXEQ, 16, 5⟩
def F.LNK_LRXEQ.DFE3 : Fld := ⟨.LNK_LRXEQ, 24, 5⟩
def F.LNK_LLB.MODE : Fld := ⟨.LNK_LLB, 0, 2⟩
def F.LNK_LLB.PAT : Fld := ⟨.LNK_LLB, 2, 3⟩
def F.LNK_LLB.RATE : Fld := ⟨.LNK_LLB, 8, 3⟩
def F.LNK_LLB.LOCK : Fld := ⟨.LNK_LLB, 11, 1⟩
def F.LNK_LLB.REJECT : Fld := ⟨.LNK_LLB, 16, 1⟩
def F.LNK_LLB.FELB : Fld := ⟨.LNK_LLB, 17, 1⟩
def F.LNK_LLBERR.COUNT : Fld := ⟨.LNK_LLBERR, 0, 32⟩
def F.COH_CTL.VEVT_EN : Fld := ⟨.COH_CTL, 0, 1⟩
def F.COH_CTL.BIEVT_EN : Fld := ⟨.COH_CTL, 1, 1⟩
def F.COH_CTL.DIREVT_EN : Fld := ⟨.COH_CTL, 2, 1⟩
def F.COH_CTL.DCEVT_EN : Fld := ⟨.COH_CTL, 3, 1⟩
def F.COH_CTL.PTEVT_EN : Fld := ⟨.COH_CTL, 4, 1⟩
def F.COH_BITMO.TMO : Fld := ⟨.COH_BITMO, 0, 16⟩
def F.COH_PT_CMD.EXT : Fld := ⟨.COH_PT_CMD, 0, 15⟩
def F.COH_PT_CMD.OP : Fld := ⟨.COH_PT_CMD, 16, 3⟩
def F.COH_PT_STAT.BUSY : Fld := ⟨.COH_PT_STAT, 0, 1⟩
def F.COH_PT_STAT.RESULT : Fld := ⟨.COH_PT_STAT, 4, 4⟩
def F.COH_PT_STAT.DONE : Fld := ⟨.COH_PT_STAT, 8, 1⟩
def F.COH_PT_DATA0.ACC : Fld := ⟨.COH_PT_DATA0, 0, 16⟩
def F.COH_PT_DATA0.WR : Fld := ⟨.COH_PT_DATA0, 16, 16⟩
def F.COH_PT_DATA1.MODE : Fld := ⟨.COH_PT_DATA1, 0, 3⟩
def F.COH_PT_DATA1.STATIC : Fld := ⟨.COH_PT_DATA1, 3, 1⟩
def F.COH_PT_DATA1.STATE : Fld := ⟨.COH_PT_DATA1, 4, 2⟩
def F.COH_PT_DATA1.CLEAN : Fld := ⟨.COH_PT_DATA1, 6, 1⟩
def F.COH_PT_DATA2.HPA : Fld := ⟨.COH_PT_DATA2, 0, 24⟩
def F.COH_XM_CMD.HEAD : Fld := ⟨.COH_XM_CMD, 0, 4⟩
def F.COH_XM_CMD.RANGE : Fld := ⟨.COH_XM_CMD, 4, 8⟩
def F.COH_XM_CMD.OP : Fld := ⟨.COH_XM_CMD, 12, 2⟩
def F.COH_XM_DATA0.DPA_BASE : Fld := ⟨.COH_XM_DATA0, 0, 15⟩
def F.COH_XM_DATA0.VALID : Fld := ⟨.COH_XM_DATA0, 31, 1⟩
def F.COH_XM_DATA1.DA_BASE : Fld := ⟨.COH_XM_DATA1, 0, 20⟩
def F.COH_XM_DATA2.COUNT : Fld := ⟨.COH_XM_DATA2, 0, 16⟩
def F.COH_EVT.DIRPERR : Fld := ⟨.COH_EVT, 0, 4⟩
def F.COH_EVT.DCERR : Fld := ⟨.COH_EVT, 4, 8⟩
def F.COH_EVT.PTERR : Fld := ⟨.COH_EVT, 12, 1⟩
def F.COH_EVT.PTDONE : Fld := ⟨.COH_EVT, 13, 1⟩
def F.COH_EVT.CLRDONE : Fld := ⟨.COH_EVT, 14, 1⟩
def F.COH_HEAD.TYPE : Fld := ⟨.COH_HEAD, 0, 1⟩
def F.COH_HEAD.FENCED : Fld := ⟨.COH_HEAD, 1, 1⟩
def F.COH_HEAD.WALK : Fld := ⟨.COH_HEAD, 2, 1⟩
def F.COH_HEAD.PID : Fld := ⟨.COH_HEAD, 4, 12⟩
def F.COH_VBY.COUNT : Fld := ⟨.COH_VBY, 0, 32⟩
def F.COH_VON.COUNT : Fld := ⟨.COH_VON, 0, 32⟩
def F.COH_DIR_OCC.VALID : Fld := ⟨.COH_DIR_OCC, 0, 21⟩
def F.COH_DIR_ALLOC.VALUE : Fld := ⟨.COH_DIR_ALLOC, 0, 32⟩
def F.COH_DIR_EVICT.VALUE : Fld := ⟨.COH_DIR_EVICT, 0, 32⟩
def F.COH_DIR_PEND.PENDING : Fld := ⟨.COH_DIR_PEND, 0, 10⟩
def F.COH_DIR_PEND.VICTIMS : Fld := ⟨.COH_DIR_PEND, 16, 9⟩
def F.COH_DIR_PERR.VALUE : Fld := ⟨.COH_DIR_PERR, 0, 32⟩
def F.COH_DC_HIT.VALUE : Fld := ⟨.COH_DC_HIT, 0, 32⟩
def F.COH_DC_MISS.VALUE : Fld := ⟨.COH_DC_MISS, 0, 32⟩
def F.COH_DC_ERR.UE : Fld := ⟨.COH_DC_ERR, 0, 16⟩
def F.COH_DC_ERR.LOST : Fld := ⟨.COH_DC_ERR, 16, 16⟩
def F.COH_VLOG_CTL.HEAD : Fld := ⟨.COH_VLOG_CTL, 0, 5⟩
def F.COH_VLOG_CTL.COUNT : Fld := ⟨.COH_VLOG_CTL, 5, 6⟩
def F.COH_VLOG_CTL.POP : Fld := ⟨.COH_VLOG_CTL, 31, 1⟩
def F.COH_VLOG_LOST.VALUE : Fld := ⟨.COH_VLOG_LOST, 0, 32⟩
def F.COH_VLOG_W0.REASON : Fld := ⟨.COH_VLOG_W, 0, 3⟩
def F.COH_VLOG_W0.RQC : Fld := ⟨.COH_VLOG_W, 3, 3⟩
def F.COH_VLOG_W0.RQID : Fld := ⟨.COH_VLOG_W, 6, 5⟩
def F.COH_VLOG_W0.SRC : Fld := ⟨.COH_VLOG_W, 11, 13⟩
def F.COH_VLOG_W0.WRITE : Fld := ⟨.COH_VLOG_W, 24, 1⟩
def F.COH_VLOG_W1.DA_LO : Fld := ⟨.COH_VLOG_W, 0, 32⟩
def F.COH_VLOG_W2.DA_HI : Fld := ⟨.COH_VLOG_W, 0, 16⟩
def F.COH_VLOG_W2.EXT : Fld := ⟨.COH_VLOG_W, 16, 15⟩
def F.COH_VLOG_W3.VICTIMS : Fld := ⟨.COH_VLOG_W, 0, 16⟩
def F.COH_VLOG_W4.DTC_LO : Fld := ⟨.COH_VLOG_W, 0, 32⟩
def F.COH_VLOG_W5.DTC_HI : Fld := ⟨.COH_VLOG_W, 0, 32⟩
def F.DDR_CFG.KIND : Fld := ⟨.DDR_CFG, 0, 2⟩
def F.DDR_CFG.DPC : Fld := ⟨.DDR_CFG, 2, 1⟩
def F.DDR_CFG.RANKS : Fld := ⟨.DDR_CFG, 4, 2⟩
def F.DDR_CFG.DENS : Fld := ⟨.DDR_CFG, 8, 2⟩
def F.DDR_CTL.PAGE : Fld := ⟨.DDR_CTL, 0, 1⟩
def F.DDR_CTL.MAP : Fld := ⟨.DDR_CTL, 1, 1⟩
def F.DDR_CTL.REFSB : Fld := ⟨.DDR_CTL, 2, 1⟩
def F.DDR_CTL.INSERVICE : Fld := ⟨.DDR_CTL, 4, 1⟩
def F.DDR_CTL.PGTMO : Fld := ⟨.DDR_CTL, 8, 8⟩
def F.DDR_STAT.STATE : Fld := ⟨.DDR_STAT, 0, 4⟩
def F.DDR_STAT.RATE : Fld := ⟨.DDR_STAT, 4, 3⟩
def F.DDR_STAT.HOT : Fld := ⟨.DDR_STAT, 8, 8⟩
def F.DDR_STAT.DEGRADED : Fld := ⟨.DDR_STAT, 16, 1⟩
def F.DDR_STAT.DEVFAIL : Fld := ⟨.DDR_STAT, 17, 1⟩
def F.DDR_ILV.SET : Fld := ⟨.DDR_ILV, 0, 4⟩
def F.DDR_ILV.WAYS : Fld := ⟨.DDR_ILV, 4, 4⟩
def F.DDR_ILV.POS : Fld := ⟨.DDR_ILV, 8, 4⟩
def F.DDR_ILV.GRAN : Fld := ⟨.DDR_ILV, 12, 1⟩
def F.DDR_ILV.SEALERR : Fld := ⟨.DDR_ILV, 30, 1⟩
def F.DDR_ILV.SEAL : Fld := ⟨.DDR_ILV, 31, 1⟩
def F.DDR_ILVBASE.BASE : Fld := ⟨.DDR_ILVBASE, 0, 15⟩
def F.DDR_MAPCAP.M : Fld := ⟨.DDR_MAPCAP, 0, 11⟩
def F.DDR_SCHED.WHI : Fld := ⟨.DDR_SCHED, 0, 7⟩
def F.DDR_SCHED.WLO : Fld := ⟨.DDR_SCHED, 8, 6⟩
def F.DDR_SCHED.AGEMAX : Fld := ⟨.DDR_SCHED, 16, 12⟩
def F.DDR_SRIDLE.IDLE : Fld := ⟨.DDR_SRIDLE, 0, 16⟩
def F.DDR_HOLD_CTL.GO : Fld := ⟨.DDR_HOLD_CTL, 0, 1⟩
def F.DDR_HOLD_CTL.KIND : Fld := ⟨.DDR_HOLD_CTL, 1, 1⟩
def F.DDR_HOLD_CTL.DONE : Fld := ⟨.DDR_HOLD_CTL, 2, 1⟩
def F.DDR_HOLD_STAT.HELD : Fld := ⟨.DDR_HOLD_STAT, 0, 10⟩
def F.DDR_HOLD_STAT.REJECT : Fld := ⟨.DDR_HOLD_STAT, 16, 1⟩
def F.DDR_PAT_CTL.EN : Fld := ⟨.DDR_PAT_CTL, 0, 1⟩
def F.DDR_PAT_CTL.PERIOD : Fld := ⟨.DDR_PAT_CTL, 16, 16⟩
def F.DDR_PAT_STAT.PASS : Fld := ⟨.DDR_PAT_STAT, 0, 16⟩
def F.DDR_PAT_STAT.LATE : Fld := ⟨.DDR_PAT_STAT, 16, 1⟩
def F.DDR_PAT_POS_LO.LINE : Fld := ⟨.DDR_PAT_POS_LO, 0, 32⟩
def F.DDR_PAT_POS_HI.LINE32 : Fld := ⟨.DDR_PAT_POS_HI, 0, 1⟩
def F.DDR_CE_CNT.COUNT : Fld := ⟨.DDR_CE_CNT, 0, 32⟩
def F.DDR_UE_CNT.COUNT : Fld := ⟨.DDR_UE_CNT, 0, 32⟩
def F.DDR_ECC_CTL.PERMWIN : Fld := ⟨.DDR_ECC_CTL, 0, 8⟩
def F.DDR_ECC_CTL.DEVTHR : Fld := ⟨.DDR_ECC_CTL, 8, 8⟩
def F.DDR_ECC_CTL.AUTOREMAP : Fld := ⟨.DDR_ECC_CTL, 16, 1⟩
def F.DDR_DEVFAIL.DEV : Fld := ⟨.DDR_DEVFAIL, 0, 4⟩
def F.DDR_DEVFAIL.SC : Fld := ⟨.DDR_DEVFAIL, 4, 1⟩
def F.DDR_DEVFAIL.RANK : Fld := ⟨.DDR_DEVFAIL, 5, 3⟩
def F.DDR_DEVFAIL.COUNT : Fld := ⟨.DDR_DEVFAIL, 8, 8⟩
def F.DDR_ELOG_W0.KIND : Fld := ⟨.DDR_ELOG_W, 0, 3⟩
def F.DDR_ELOG_W0.SC : Fld := ⟨.DDR_ELOG_W, 3, 1⟩
def F.DDR_ELOG_W0.RANK : Fld := ⟨.DDR_ELOG_W, 4, 3⟩
def F.DDR_ELOG_W0.DEV : Fld := ⟨.DDR_ELOG_W, 8, 4⟩
def F.DDR_ELOG_W0.LINE32 : Fld := ⟨.DDR_ELOG_W, 12, 1⟩
def F.DDR_ELOG_W0.VALID : Fld := ⟨.DDR_ELOG_W, 31, 1⟩
def F.DDR_ELOG_W1.LINE : Fld := ⟨.DDR_ELOG_W, 0, 32⟩
def F.DDR_ELOG_W2.DTC_LO : Fld := ⟨.DDR_ELOG_W, 0, 32⟩
def F.DDR_ELOG_W3.DTC_HI : Fld := ⟨.DDR_ELOG_W, 0, 32⟩
def F.DDR_RMP_SEL.TABLE : Fld := ⟨.DDR_RMP_SEL, 0, 1⟩
def F.DDR_RMP_SEL.ENTRY : Fld := ⟨.DDR_RMP_SEL, 8, 6⟩
def F.DDR_RMP_DATA0.LINE : Fld := ⟨.DDR_RMP_DATA0, 0, 32⟩
def F.DDR_RMP_DATA1.LINE32 : Fld := ⟨.DDR_RMP_DATA1, 0, 1⟩
def F.DDR_RMP_DATA1.SRC : Fld := ⟨.DDR_RMP_DATA1, 28, 2⟩
def F.DDR_RMP_DATA1.COPYING : Fld := ⟨.DDR_RMP_DATA1, 30, 1⟩
def F.DDR_RMP_DATA1.VALID : Fld := ⟨.DDR_RMP_DATA1, 31, 1⟩
def F.DDR_RMP_CMD.LINE : Fld := ⟨.DDR_RMP_CMD, 0, 29⟩
def F.DDR_RMP_CMD.ROW : Fld := ⟨.DDR_RMP_CMD, 30, 1⟩
def F.DDR_RMP_CMD.ADD : Fld := ⟨.DDR_RMP_CMD, 31, 1⟩
def F.DDR_RMP_STAT.LUSED : Fld := ⟨.DDR_RMP_STAT, 0, 6⟩
def F.DDR_RMP_STAT.RUSED : Fld := ⟨.DDR_RMP_STAT, 8, 7⟩
def F.DDR_RMP_STAT.BUSY : Fld := ⟨.DDR_RMP_STAT, 16, 1⟩
def F.DDR_RMP_STAT.FAIL : Fld := ⟨.DDR_RMP_STAT, 17, 1⟩
def F.DDR_EVT.UE : Fld := ⟨.DDR_EVT, 0, 1⟩
def F.DDR_EVT.PERM : Fld := ⟨.DDR_EVT, 1, 1⟩
def F.DDR_EVT.REMAP : Fld := ⟨.DDR_EVT, 2, 1⟩
def F.DDR_EVT.ROWRET : Fld := ⟨.DDR_EVT, 3, 1⟩
def F.DDR_EVT.DEGRADED : Fld := ⟨.DDR_EVT, 4, 1⟩
def F.DDR_EVT.DEVFAIL : Fld := ⟨.DDR_EVT, 5, 1⟩
def F.DDR_EVT.HOT : Fld := ⟨.DDR_EVT, 6, 1⟩
def F.DDR_EVT.HOLDDONE : Fld := ⟨.DDR_EVT, 7, 1⟩
def F.DDR_EVT.PATLATE : Fld := ⟨.DDR_EVT, 8, 1⟩
def F.DDR_EVEN.UE : Fld := ⟨.DDR_EVEN, 0, 1⟩
def F.DDR_EVEN.PERM : Fld := ⟨.DDR_EVEN, 1, 1⟩
def F.DDR_EVEN.REMAP : Fld := ⟨.DDR_EVEN, 2, 1⟩
def F.DDR_EVEN.ROWRET : Fld := ⟨.DDR_EVEN, 3, 1⟩
def F.DDR_EVEN.DEGRADED : Fld := ⟨.DDR_EVEN, 4, 1⟩
def F.DDR_EVEN.DEVFAIL : Fld := ⟨.DDR_EVEN, 5, 1⟩
def F.DDR_EVEN.HOT : Fld := ⟨.DDR_EVEN, 6, 1⟩
def F.DDR_EVEN.HOLDDONE : Fld := ⟨.DDR_EVEN, 7, 1⟩
def F.DDR_EVEN.PATLATE : Fld := ⟨.DDR_EVEN, 8, 1⟩
def F.DDR_TIM_ACT0.RATE : Fld := ⟨.DDR_TIM_ACT, 0, 3⟩
def F.DDR_TIM_ACT0.MCKDIV : Fld := ⟨.DDR_TIM_ACT, 8, 6⟩
def F.DDR_TIM_ACT0.CL : Fld := ⟨.DDR_TIM_ACT, 16, 8⟩
def F.DDR_TIM_ACT0.CWL : Fld := ⟨.DDR_TIM_ACT, 24, 8⟩
def F.DDR_TIM_ACT1.RCD : Fld := ⟨.DDR_TIM_ACT, 0, 8⟩
def F.DDR_TIM_ACT1.RP : Fld := ⟨.DDR_TIM_ACT, 8, 8⟩
def F.DDR_TIM_ACT1.RAS : Fld := ⟨.DDR_TIM_ACT, 16, 10⟩
def F.DDR_TIM_ACT2.RC : Fld := ⟨.DDR_TIM_ACT, 0, 10⟩
def F.DDR_TIM_ACT2.WR : Fld := ⟨.DDR_TIM_ACT, 10, 10⟩
def F.DDR_TIM_ACT2.RTP : Fld := ⟨.DDR_TIM_ACT, 20, 8⟩
def F.DDR_TIM_ACT3.RRD_S : Fld := ⟨.DDR_TIM_ACT, 0, 6⟩
def F.DDR_TIM_ACT3.RRD_L : Fld := ⟨.DDR_TIM_ACT, 8, 6⟩
def F.DDR_TIM_ACT3.FAW : Fld := ⟨.DDR_TIM_ACT, 16, 8⟩
def F.DDR_TIM_ACT3.CCD_L : Fld := ⟨.DDR_TIM_ACT, 24, 6⟩
def F.DDR_TIM_ACT4.CCD_L_WR : Fld := ⟨.DDR_TIM_ACT, 0, 8⟩
def F.DDR_TIM_ACT4.WTR_S : Fld := ⟨.DDR_TIM_ACT, 8, 8⟩
def F.DDR_TIM_ACT4.WTR_L : Fld := ⟨.DDR_TIM_ACT, 16, 8⟩
def F.DDR_TIM_ACT4.CCD_S : Fld := ⟨.DDR_TIM_ACT, 24, 4⟩
def F.DDR_TIM_ACT5.RFC1 : Fld := ⟨.DDR_TIM_ACT, 0, 12⟩
def F.DDR_TIM_ACT5.RFCSB : Fld := ⟨.DDR_TIM_ACT, 16, 12⟩
def F.DDR_TIM_ACT6.REFI : Fld := ⟨.DDR_TIM_ACT, 0, 16⟩
def F.DDR_TIM_ACT6.XS : Fld := ⟨.DDR_TIM_ACT, 16, 12⟩
def F.DDR_TIM_ACT7.CSR : Fld := ⟨.DDR_TIM_ACT, 0, 8⟩
def F.DDR_TIM_SHADOW0.RATE : Fld := ⟨.DDR_TIM_SHADOW, 0, 3⟩
def F.DDR_TIM_SHADOW0.MCKDIV : Fld := ⟨.DDR_TIM_SHADOW, 8, 6⟩
def F.DDR_TIM_SHADOW0.CL : Fld := ⟨.DDR_TIM_SHADOW, 16, 8⟩
def F.DDR_TIM_SHADOW0.CWL : Fld := ⟨.DDR_TIM_SHADOW, 24, 8⟩
def F.DDR_TIM_SHADOW1.RCD : Fld := ⟨.DDR_TIM_SHADOW, 0, 8⟩
def F.DDR_TIM_SHADOW1.RP : Fld := ⟨.DDR_TIM_SHADOW, 8, 8⟩
def F.DDR_TIM_SHADOW1.RAS : Fld := ⟨.DDR_TIM_SHADOW, 16, 10⟩
def F.DDR_TIM_SHADOW2.RC : Fld := ⟨.DDR_TIM_SHADOW, 0, 10⟩
def F.DDR_TIM_SHADOW2.WR : Fld := ⟨.DDR_TIM_SHADOW, 10, 10⟩
def F.DDR_TIM_SHADOW2.RTP : Fld := ⟨.DDR_TIM_SHADOW, 20, 8⟩
def F.DDR_TIM_SHADOW3.RRD_S : Fld := ⟨.DDR_TIM_SHADOW, 0, 6⟩
def F.DDR_TIM_SHADOW3.RRD_L : Fld := ⟨.DDR_TIM_SHADOW, 8, 6⟩
def F.DDR_TIM_SHADOW3.FAW : Fld := ⟨.DDR_TIM_SHADOW, 16, 8⟩
def F.DDR_TIM_SHADOW3.CCD_L : Fld := ⟨.DDR_TIM_SHADOW, 24, 6⟩
def F.DDR_TIM_SHADOW4.CCD_L_WR : Fld := ⟨.DDR_TIM_SHADOW, 0, 8⟩
def F.DDR_TIM_SHADOW4.WTR_S : Fld := ⟨.DDR_TIM_SHADOW, 8, 8⟩
def F.DDR_TIM_SHADOW4.WTR_L : Fld := ⟨.DDR_TIM_SHADOW, 16, 8⟩
def F.DDR_TIM_SHADOW4.CCD_S : Fld := ⟨.DDR_TIM_SHADOW, 24, 4⟩
def F.DDR_TIM_SHADOW5.RFC1 : Fld := ⟨.DDR_TIM_SHADOW, 0, 12⟩
def F.DDR_TIM_SHADOW5.RFCSB : Fld := ⟨.DDR_TIM_SHADOW, 16, 12⟩
def F.DDR_TIM_SHADOW6.REFI : Fld := ⟨.DDR_TIM_SHADOW, 0, 16⟩
def F.DDR_TIM_SHADOW6.XS : Fld := ⟨.DDR_TIM_SHADOW, 16, 12⟩
def F.DDR_TIM_SHADOW7.CSR : Fld := ⟨.DDR_TIM_SHADOW, 0, 8⟩
def F.DDR_TIM_SHCTL.VALID : Fld := ⟨.DDR_TIM_SHCTL, 0, 1⟩
def F.DDR_TRN_CTL.MODE : Fld := ⟨.DDR_TRN_CTL, 0, 2⟩
def F.DDR_TRN_CTL.SCMASK : Fld := ⟨.DDR_TRN_CTL, 2, 2⟩
def F.DDR_TRN_CTL.PAT : Fld := ⟨.DDR_TRN_CTL, 4, 3⟩
def F.DDR_TRN_CTL.LINES : Fld := ⟨.DDR_TRN_CTL, 16, 12⟩
def F.DDR_TRN_CTL.RESTORE : Fld := ⟨.DDR_TRN_CTL, 30, 1⟩
def F.DDR_TRN_CTL.GO : Fld := ⟨.DDR_TRN_CTL, 31, 1⟩
def F.DDR_TRN_STAT.BUSY : Fld := ⟨.DDR_TRN_STAT, 0, 1⟩
def F.DDR_TRN_STAT.SAVED : Fld := ⟨.DDR_TRN_STAT, 1, 1⟩
def F.DDR_TRN_STAT.DONE : Fld := ⟨.DDR_TRN_STAT, 2, 1⟩
def F.DDR_TRN_STAT.REJECT : Fld := ⟨.DDR_TRN_STAT, 3, 1⟩
def F.DDR_TRN_STAT.ERRLINES : Fld := ⟨.DDR_TRN_STAT, 16, 12⟩
def F.DDR_TRN_ADDR.LINE : Fld := ⟨.DDR_TRN_ADDR, 0, 32⟩
def F.DDR_TRN_USER.DATA : Fld := ⟨.DDR_TRN_USER, 0, 32⟩
def F.DDR_TRN_ERR.COUNT : Fld := ⟨.DDR_TRN_ERR, 0, 32⟩
def F.DDR_DLY_SEL.LANE : Fld := ⟨.DDR_DLY_SEL, 0, 8⟩
def F.DDR_DLY_SEL.RANK : Fld := ⟨.DDR_DLY_SEL, 8, 3⟩
def F.DDR_DLY_DATA.RDLY : Fld := ⟨.DDR_DLY_DATA, 0, 9⟩
def F.DDR_DLY_DATA.WDLY : Fld := ⟨.DDR_DLY_DATA, 16, 9⟩
def F.DDR_RXEQ_DATA.VREF : Fld := ⟨.DDR_RXEQ_DATA, 0, 8⟩
def F.DDR_RXEQ_DATA.DFE1 : Fld := ⟨.DDR_RXEQ_DATA, 8, 6⟩
def F.DDR_RXEQ_DATA.DFE2 : Fld := ⟨.DDR_RXEQ_DATA, 16, 6⟩
def F.DDR_RXEQ_DATA.DFE3 : Fld := ⟨.DDR_RXEQ_DATA, 24, 6⟩
def F.DDR_MR_CMD.OP : Fld := ⟨.DDR_MR_CMD, 0, 2⟩
def F.DDR_MR_CMD.SC : Fld := ⟨.DDR_MR_CMD, 2, 1⟩
def F.DDR_MR_CMD.RANK : Fld := ⟨.DDR_MR_CMD, 4, 3⟩
def F.DDR_MR_CMD.MR : Fld := ⟨.DDR_MR_CMD, 8, 8⟩
def F.DDR_MR_CMD.DATA : Fld := ⟨.DDR_MR_CMD, 16, 8⟩
def F.DDR_MR_CMD.DEV : Fld := ⟨.DDR_MR_CMD, 24, 4⟩
def F.DDR_MR_DATA.DATA : Fld := ⟨.DDR_MR_DATA, 0, 8⟩
def F.DDR_MR_DATA.BUSY : Fld := ⟨.DDR_MR_DATA, 31, 1⟩
def F.CFG_BOOT_STAT.BOOT_MODE : Fld := ⟨.CFG_BOOT_STAT, 0, 3⟩
def F.CFG_BOOT_STAT.BMBAD : Fld := ⟨.CFG_BOOT_STAT, 3, 1⟩
def F.CFG_BOOT_STAT.KSRC : Fld := ⟨.CFG_BOOT_STAT, 4, 2⟩
def F.CFG_BOOT_STAT.FSRC : Fld := ⟨.CFG_BOOT_STAT, 6, 2⟩
def F.CFG_BOOT_STAT.STAGE : Fld := ⟨.CFG_BOOT_STAT, 8, 3⟩
def F.CFG_BOOT_STAT.ATTEMPTS : Fld := ⟨.CFG_BOOT_STAT, 16, 16⟩
def F.CFG_PINS.DONE : Fld := ⟨.CFG_PINS, 0, 1⟩
def F.CFG_PINS.ERR : Fld := ⟨.CFG_PINS, 1, 1⟩
def F.CFG_IDENT.FAMILY : Fld := ⟨.CFG_IDENT, 0, 16⟩
def F.CFG_IDENT.PART : Fld := ⟨.CFG_IDENT, 16, 16⟩
def F.CFG_REV.REV : Fld := ⟨.CFG_REV, 0, 8⟩
def F.CFG_REV.PLATOPEN : Fld := ⟨.CFG_REV, 8, 1⟩
def F.CFG_LDTMO.STALL : Fld := ⟨.CFG_LDTMO, 0, 16⟩
def F.CFG_CMD.OP : Fld := ⟨.CFG_CMD, 0, 3⟩
def F.CFG_CMD.REGION : Fld := ⟨.CFG_CMD, 4, 6⟩
def F.CFG_CMD.FULL : Fld := ⟨.CFG_CMD, 10, 1⟩
def F.CFG_LDSTAT.PHASE : Fld := ⟨.CFG_LDSTAT, 0, 3⟩
def F.CFG_LDSTAT.RESULT : Fld := ⟨.CFG_LDSTAT, 4, 4⟩
def F.CFG_LDSTAT.DONE : Fld := ⟨.CFG_LDSTAT, 8, 1⟩
def F.CFG_LDSTAT.FAIL : Fld := ⟨.CFG_LDSTAT, 9, 1⟩
def F.CFG_LDSTAT.REGION : Fld := ⟨.CFG_LDSTAT, 10, 6⟩
def F.CFG_LDERR.CODE : Fld := ⟨.CFG_LDERR, 0, 8⟩
def F.CFG_LDERR.FRAME : Fld := ⟨.CFG_LDERR, 8, 19⟩
def F.CFG_LDCNT.WRITTEN : Fld := ⟨.CFG_LDCNT, 0, 19⟩
def F.CFG_EVT.LDDONE : Fld := ⟨.CFG_EVT, 0, 1⟩
def F.CFG_EVT.LDFAIL : Fld := ⟨.CFG_EVT, 1, 1⟩
def F.CFG_EVT.CLRDONE : Fld := ⟨.CFG_EVT, 2, 1⟩
def F.CFG_EVEN.LDDONE : Fld := ⟨.CFG_EVEN, 0, 1⟩
def F.CFG_EVEN.LDFAIL : Fld := ⟨.CFG_EVEN, 1, 1⟩
def F.CFG_EVEN.CLRDONE : Fld := ⟨.CFG_EVEN, 2, 1⟩
def F.CFG_RGN_CFG.OWNER : Fld := ⟨.CFG_RGN_CFG, 0, 5⟩
def F.CFG_RGN_CFG.STATE : Fld := ⟨.CFG_RGN_CFG, 8, 3⟩
def F.CFG_RGN_CFG.LEAF : Fld := ⟨.CFG_RGN_CFG, 12, 2⟩
def F.CFG_RGN_CFG.STATIC : Fld := ⟨.CFG_RGN_CFG, 14, 1⟩
def F.CFG_RGN_CFG.REJECT : Fld := ⟨.CFG_RGN_CFG, 16, 1⟩
def F.CFG_RGN_CFG.NSECT : Fld := ⟨.CFG_RGN_CFG, 24, 7⟩
def F.CFG_RGN_MASK0.SECT : Fld := ⟨.CFG_RGN_MASK0, 0, 32⟩
def F.CFG_RGN_MASK1.SECT : Fld := ⟨.CFG_RGN_MASK1, 0, 32⟩
def F.CFG_RGN_MASK2.SECT : Fld := ⟨.CFG_RGN_MASK2, 0, 16⟩
def F.CFG_SECT.REGION : Fld := ⟨.CFG_SECT, 0, 6⟩
def F.CFG_SECT.INRGN : Fld := ⟨.CFG_SECT, 6, 1⟩
def F.CFG_SECT.CLOSED : Fld := ⟨.CFG_SECT, 7, 1⟩
def F.CFG_FRD_CMD.FRAME : Fld := ⟨.CFG_FRD_CMD, 0, 19⟩
def F.CFG_FRD_CMD.GO : Fld := ⟨.CFG_FRD_CMD, 31, 1⟩
def F.CFG_FRD_STAT.BUSY : Fld := ⟨.CFG_FRD_STAT, 0, 1⟩
def F.CFG_FRD_STAT.VALID : Fld := ⟨.CFG_FRD_STAT, 1, 1⟩
def F.CFG_FRD_STAT.DENIED : Fld := ⟨.CFG_FRD_STAT, 2, 1⟩
def F.CFG_FRD_STAT.CE : Fld := ⟨.CFG_FRD_STAT, 3, 1⟩
def F.CFG_FRD_STAT.UE : Fld := ⟨.CFG_FRD_STAT, 4, 1⟩
def F.CFG_FRD_DATA.DATA : Fld := ⟨.CFG_FRD_DATA, 0, 32⟩
def F.CFG_TKH.HASH : Fld := ⟨.CFG_TKH, 0, 32⟩
def F.CFG_TEK.KEY : Fld := ⟨.CFG_TEK, 0, 32⟩
def F.SCB_CTL.EN : Fld := ⟨.SCB_CTL, 0, 1⟩
def F.SCB_CTL.LOGSB : Fld := ⟨.SCB_CTL, 1, 1⟩
def F.SCB_FIXTMO.TMO : Fld := ⟨.SCB_FIXTMO, 0, 16⟩
def F.SCB_HF.COUNT : Fld := ⟨.SCB_HF, 0, 32⟩
def F.SCB_UNR.COUNT : Fld := ⟨.SCB_UNR, 0, 32⟩
def F.SCB_HFS.COUNT : Fld := ⟨.SCB_HFS, 0, 32⟩
def F.SCB_UNRS.COUNT : Fld := ⟨.SCB_UNRS, 0, 32⟩
def F.SCB_STAT.PASS : Fld := ⟨.SCB_STAT, 0, 16⟩
def F.SCB_STAT.RUN : Fld := ⟨.SCB_STAT, 16, 1⟩
def F.SCB_STAT.LATE : Fld := ⟨.SCB_STAT, 17, 1⟩
def F.SCB_STAT.SLOW : Fld := ⟨.SCB_STAT, 18, 1⟩
def F.SCB_SBCNT.COUNT : Fld := ⟨.SCB_SBCNT, 0, 32⟩
def F.SCB_MBCNT.COUNT : Fld := ⟨.SCB_MBCNT, 0, 32⟩
def F.SCB_HFCNT.COUNT : Fld := ⟨.SCB_HFCNT, 0, 32⟩
def F.SCB_SKIP.SKIPPED : Fld := ⟨.SCB_SKIP, 0, 17⟩
def F.SCB_EVT.SBFIX : Fld := ⟨.SCB_EVT, 0, 1⟩
def F.SCB_EVT.MBPEND : Fld := ⟨.SCB_EVT, 1, 1⟩
def F.SCB_EVT.HARD : Fld := ⟨.SCB_EVT, 2, 1⟩
def F.SCB_EVT.UNREP : Fld := ⟨.SCB_EVT, 3, 1⟩
def F.SCB_EVEN.SBFIX : Fld := ⟨.SCB_EVEN, 0, 1⟩
def F.SCB_EVEN.MBPEND : Fld := ⟨.SCB_EVEN, 1, 1⟩
def F.SCB_EVEN.HARD : Fld := ⟨.SCB_EVEN, 2, 1⟩
def F.SCB_EVEN.UNREP : Fld := ⟨.SCB_EVEN, 3, 1⟩
def F.SCB_PEND.WAITING : Fld := ⟨.SCB_PEND, 0, 5⟩
def F.SCB_PEND.UNREP : Fld := ⟨.SCB_PEND, 8, 5⟩
def F.SCB_PSEL.ENTRY : Fld := ⟨.SCB_PSEL, 0, 4⟩
def F.SCB_PENT.FRAME : Fld := ⟨.SCB_PENT, 0, 19⟩
def F.SCB_PENT.STATE : Fld := ⟨.SCB_PENT, 20, 2⟩
def F.SCB_PENT.REFUSALS : Fld := ⟨.SCB_PENT, 22, 3⟩
def F.SCB_FIXCMD.FRAME : Fld := ⟨.SCB_FIXCMD, 0, 19⟩
def F.SCB_FIXCMD.GIVEUP : Fld := ⟨.SCB_FIXCMD, 30, 1⟩
def F.SCB_FIXCMD.GO : Fld := ⟨.SCB_FIXCMD, 31, 1⟩
def F.SCB_FIXSTAT.BUSY : Fld := ⟨.SCB_FIXSTAT, 0, 1⟩
def F.SCB_FIXSTAT.ACCEPT : Fld := ⟨.SCB_FIXSTAT, 1, 1⟩
def F.SCB_FIXSTAT.BADSIG : Fld := ⟨.SCB_FIXSTAT, 2, 1⟩
def F.SCB_FIXSTAT.NOTPEND : Fld := ⟨.SCB_FIXSTAT, 3, 1⟩
def F.SCB_LOGCTL.HEAD : Fld := ⟨.SCB_LOGCTL, 0, 4⟩
def F.SCB_LOGCTL.COUNT : Fld := ⟨.SCB_LOGCTL, 4, 5⟩
def F.SCB_LOGCTL.POP : Fld := ⟨.SCB_LOGCTL, 31, 1⟩
def F.SCB_LOST.COUNT : Fld := ⟨.SCB_LOST, 0, 32⟩
def F.SCB_FIX_DATA.DATA : Fld := ⟨.SCB_FIX_DATA, 0, 32⟩
def F.SCB_LOG_W0.KIND : Fld := ⟨.SCB_LOG_W, 0, 3⟩
def F.SCB_LOG_W0.OWNER : Fld := ⟨.SCB_LOG_W, 3, 5⟩
def F.SCB_LOG_W0.FRAME : Fld := ⟨.SCB_LOG_W, 8, 19⟩
def F.SCB_LOG_W1.BIT : Fld := ⟨.SCB_LOG_W, 0, 13⟩
def F.SCB_LOG_W1.PASS : Fld := ⟨.SCB_LOG_W, 16, 16⟩
def F.SCB_LOG_W2.DTC_LO : Fld := ⟨.SCB_LOG_W, 0, 32⟩
def F.SCB_LOG_W3.DTC_HI : Fld := ⟨.SCB_LOG_W, 0, 32⟩
def F.KP_CORE_STAT.RUN (j : Nat) : Fld := ⟨.KP_CORE_STAT, 0 + 8 * j, 2⟩
def F.KP_CORE_STAT.MISMATCH (j : Nat) : Fld := ⟨.KP_CORE_STAT, 2 + 8 * j, 1⟩
def F.KP_LSCTL.LSMODE : Fld := ⟨.KP_LSCTL, 0, 2⟩
def F.KP_LSCTL.SPLIT : Fld := ⟨.KP_LSCTL, 2, 2⟩
def F.KP_LSERR.COUNT : Fld := ⟨.KP_LSERR, 0, 32⟩
def F.KP_SRAM_CE.COUNT : Fld := ⟨.KP_SRAM_CE, 0, 32⟩
def F.KP_SRAM_UE.COUNT : Fld := ⟨.KP_SRAM_UE, 0, 32⟩
def F.KP_WDT_CTL.EN : Fld := ⟨.KP_WDT_CTL, 0, 5⟩
def F.KP_WDT_CTL.DBGPAUSE : Fld := ⟨.KP_WDT_CTL, 8, 1⟩
def F.KP_WDT_KICK.KICK : Fld := ⟨.KP_WDT_KICK, 0, 5⟩
def F.KP_WDT_TMO.TMO : Fld := ⟨.KP_WDT_TMO, 0, 24⟩
def F.KP_WDT_CNT.LEFT : Fld := ⟨.KP_WDT_CNT, 0, 24⟩
def F.KP_DMA_DESC.ADDR : Fld := ⟨.KP_DMA_DESC, 0, 21⟩
def F.KP_DMA_STAT.BUSY : Fld := ⟨.KP_DMA_STAT, 0, 1⟩
def F.KP_DMA_STAT.ERR : Fld := ⟨.KP_DMA_STAT, 1, 1⟩
def F.KP_DMA_STAT.CODE : Fld := ⟨.KP_DMA_STAT, 8, 8⟩
def F.WRD_STAT.SEALED : Fld := ⟨.WRD_STAT, 0, 1⟩
def F.WRD_STAT.POLSEAL : Fld := ⟨.WRD_STAT, 1, 1⟩
def F.WRD_STAT.POLDIFF : Fld := ⟨.WRD_STAT, 2, 1⟩
def F.WRD_GRTMO.TMO : Fld := ⟨.WRD_GRTMO, 0, 16⟩
def F.WRD_THERM.WARN : Fld := ⟨.WRD_THERM, 0, 8⟩
def F.WRD_THSTAT.TRIP : Fld := ⟨.WRD_THSTAT, 0, 1⟩
def F.WRD_THSTAT.ALERT : Fld := ⟨.WRD_THSTAT, 1, 1⟩
def F.WRD_THSTAT.SENSOR : Fld := ⟨.WRD_THSTAT, 4, 4⟩
def F.WRD_PWR.PLIM : Fld := ⟨.WRD_PWR, 0, 10⟩
def F.WRD_PWRSTAT.WATTS : Fld := ⟨.WRD_PWRSTAT, 0, 12⟩
def F.WRD_PWRSTAT.THROTTLE : Fld := ⟨.WRD_PWRSTAT, 16, 4⟩
def F.WRD_PWRSTAT.OVER : Fld := ⟨.WRD_PWRSTAT, 20, 1⟩
def F.WRD_TXCLAMP.COUNT : Fld := ⟨.WRD_TXCLAMP, 0, 32⟩
def F.WRD_TSENS.TEMP : Fld := ⟨.WRD_TSENS, 0, 12⟩
def F.WRD_PINOWN.OWN (j : Nat) : Fld := ⟨.WRD_PINOWN, 0 + 4 * j, 4⟩
def F.WRD_MSG.RATE : Fld := ⟨.WRD_MSG, 0, 8⟩
def F.WRD_MSG.BURST : Fld := ⟨.WRD_MSG, 16, 10⟩
def F.WRD_MSGSTAT.COUNT : Fld := ⟨.WRD_MSGSTAT, 0, 32⟩
def F.WRD_VIO.COUNT : Fld := ⟨.WRD_VIO, 0, 32⟩
def F.WRD_GRANT.OP : Fld := ⟨.WRD_GRANT, 0, 3⟩
def F.WRD_GRANT.OBJ : Fld := ⟨.WRD_GRANT, 8, 6⟩
def F.WRD_LOGCTL.HEAD : Fld := ⟨.WRD_LOGCTL, 0, 5⟩
def F.WRD_LOGCTL.COUNT : Fld := ⟨.WRD_LOGCTL, 5, 6⟩
def F.WRD_LOGCTL.POP : Fld := ⟨.WRD_LOGCTL, 31, 1⟩
def F.WRD_LOGLOST.COUNT : Fld := ⟨.WRD_LOGLOST, 0, 32⟩
def F.WRD_LOG_W0.KIND : Fld := ⟨.WRD_LOG_W, 0, 3⟩
def F.WRD_LOG_W0.TENANT : Fld := ⟨.WRD_LOG_W, 3, 5⟩
def F.WRD_LOG_W0.DETAIL : Fld := ⟨.WRD_LOG_W, 8, 8⟩
def F.WRD_LOG_W1.ADDR : Fld := ⟨.WRD_LOG_W, 0, 32⟩
def F.WRD_LOG_W2.DTC_LO : Fld := ⟨.WRD_LOG_W, 0, 32⟩
def F.WRD_LOG_W3.DTC_HI : Fld := ⟨.WRD_LOG_W, 0, 32⟩
def F.WRD_HWIN0.BASE_LO : Fld := ⟨.WRD_HWIN, 12, 20⟩
def F.WRD_HWIN0.VALID : Fld := ⟨.WRD_HWIN, 0, 1⟩
def F.WRD_HWIN0.R : Fld := ⟨.WRD_HWIN, 1, 1⟩
def F.WRD_HWIN0.W : Fld := ⟨.WRD_HWIN, 2, 1⟩
def F.WRD_HWIN1.BASE_HI : Fld := ⟨.WRD_HWIN, 0, 32⟩
def F.WRD_HWIN2.PAGES : Fld := ⟨.WRD_HWIN, 0, 28⟩
def F.SHX_IDENT.IFVER : Fld := ⟨.SHX_IDENT, 0, 8⟩
def F.SHX_IDENT.HEAD : Fld := ⟨.SHX_IDENT, 8, 4⟩
def F.SHX_IDENT.X8 : Fld := ⟨.SHX_IDENT, 12, 1⟩
def F.SHX_HSTAT.KREADY : Fld := ⟨.SHX_HSTAT, 0, 1⟩
def F.SHX_HSTAT.FABRIC : Fld := ⟨.SHX_HSTAT, 1, 1⟩
def F.SHX_HSTAT.OWNER : Fld := ⟨.SHX_HSTAT, 2, 1⟩
def F.SHX_HSTAT.KEY : Fld := ⟨.SHX_HSTAT, 3, 1⟩
def F.SHX_HSTAT.FENCED : Fld := ⟨.SHX_HSTAT, 4, 1⟩
def F.SHX_HSTAT.THROTTLED : Fld := ⟨.SHX_HSTAT, 5, 1⟩
def F.SHX_HSTAT.OUTST : Fld := ⟨.SHX_HSTAT, 8, 9⟩
def F.SHX_CTR_NEXT_LO.VALUE : Fld := ⟨.SHX_CTR_NEXT_LO, 0, 32⟩
def F.SHX_CTR_NEXT_HI.VALUE : Fld := ⟨.SHX_CTR_NEXT_HI, 0, 32⟩
def F.SHX_OWNER.OWNER : Fld := ⟨.SHX_OWNER, 0, 4⟩
def F.SHX_MB_DB.RING : Fld := ⟨.SHX_MB_DB, 0, 1⟩
def F.SHX_MB_DB.ACK : Fld := ⟨.SHX_MB_DB, 1, 1⟩
def F.SHX_MB_DB.TAKE : Fld := ⟨.SHX_MB_DB, 2, 1⟩
def F.SHX_MB_DB.DONE : Fld := ⟨.SHX_MB_DB, 3, 1⟩
def F.SHX_MB_STAT.STATE : Fld := ⟨.SHX_MB_STAT, 0, 2⟩
def F.SHX_MB_STAT.ORPHAN : Fld := ⟨.SHX_MB_STAT, 2, 1⟩
def F.SHX_MB_STAT.OVR : Fld := ⟨.SHX_MB_STAT, 8, 1⟩
def F.SHX_MB_STAMP.VALUE : Fld := ⟨.SHX_MB_STAMP, 0, 32⟩
def F.SHX_CR_BASE_LO.BASE : Fld := ⟨.SHX_CR_BASE_LO, 12, 20⟩
def F.SHX_CR_BASE_HI.VALUE : Fld := ⟨.SHX_CR_BASE_HI, 0, 32⟩
def F.SHX_CR_CTL.EN : Fld := ⟨.SHX_CR_CTL, 0, 1⟩
def F.SHX_CR_CTL.MBV_EN : Fld := ⟨.SHX_CR_CTL, 1, 1⟩
def F.SHX_CR_CTL.SIZE : Fld := ⟨.SHX_CR_CTL, 4, 5⟩
def F.SHX_CR_HEAD.HEAD : Fld := ⟨.SHX_CR_HEAD, 0, 16⟩
def F.SHX_CR_TAIL.TAIL : Fld := ⟨.SHX_CR_TAIL, 0, 16⟩
def F.SHX_CR_TAIL.PHASE : Fld := ⟨.SHX_CR_TAIL, 16, 1⟩
def F.SHX_CR_STAT.HELD : Fld := ⟨.SHX_CR_STAT, 0, 9⟩
def F.SHX_CR_STAT.WERR : Fld := ⟨.SHX_CR_STAT, 16, 1⟩
def F.SHX_CR_STAT.HERR : Fld := ⟨.SHX_CR_STAT, 17, 1⟩
def F.SHX_MB_CMD.VALUE : Fld := ⟨.SHX_MB_CMD, 0, 32⟩
def F.SHX_MB_RSP.VALUE : Fld := ⟨.SHX_MB_RSP, 0, 32⟩
def F.SHX_HWIN0.BASE_LO : Fld := ⟨.SHX_HWIN, 12, 20⟩
def F.SHX_HWIN0.VALID : Fld := ⟨.SHX_HWIN, 0, 1⟩
def F.SHX_HWIN0.R : Fld := ⟨.SHX_HWIN, 1, 1⟩
def F.SHX_HWIN0.W : Fld := ⟨.SHX_HWIN, 2, 1⟩
def F.SHX_HWIN1.BASE_HI : Fld := ⟨.SHX_HWIN, 0, 32⟩
def F.SHX_HWIN2.PAGES : Fld := ⟨.SHX_HWIN, 0, 28⟩
def F.SHX_GRANT.OP : Fld := ⟨.SHX_GRANT, 0, 3⟩
def F.SHX_GRANT.OBJ : Fld := ⟨.SHX_GRANT, 8, 6⟩
def F.SHX_GRANTV.VALUE : Fld := ⟨.SHX_GRANTV, 0, 32⟩
def F.SHX_VBY.VALUE : Fld := ⟨.SHX_VBY, 0, 32⟩
def F.SHX_VON.VALUE : Fld := ⟨.SHX_VON, 0, 32⟩
def F.SHX_WVIO.VALUE : Fld := ⟨.SHX_WVIO, 0, 32⟩
def F.SHX_HF.VALUE : Fld := ⟨.SHX_HF, 0, 32⟩
def F.SHX_UNR.VALUE : Fld := ⟨.SHX_UNR, 0, 32⟩
def F.SHX_HFS.VALUE : Fld := ⟨.SHX_HFS, 0, 32⟩
def F.SHX_UNRS.VALUE : Fld := ⟨.SHX_UNRS, 0, 32⟩
def F.SHX_MSIX.VALUE : Fld := ⟨.SHX_MSIX, 0, 32⟩
def F.SHX_MSIX_PBA.VALUE : Fld := ⟨.SHX_MSIX_PBA, 0, 32⟩
def F.EVC_STAT.REJECT : Fld := ⟨.EVC_STAT, 0, 1⟩
def F.EVC_STAT.BADCMP : Fld := ⟨.EVC_STAT, 1, 1⟩
def F.EVC_STAT.SWBAD : Fld := ⟨.EVC_STAT, 2, 1⟩
def F.EVC_SWSET.SOURCE : Fld := ⟨.EVC_SWSET, 0, 10⟩
def F.EVC_DROP.COUNT : Fld := ⟨.EVC_DROP, 0, 32⟩
def F.EVC_CLAIM.SOURCE : Fld := ⟨.EVC_CLAIM, 0, 10⟩
def F.EVC_COMPLETE.SOURCE : Fld := ⟨.EVC_COMPLETE, 0, 10⟩
def F.EVC_THR.THR : Fld := ⟨.EVC_THR, 0, 4⟩
def F.EVC_CSTAT.CPRI : Fld := ⟨.EVC_CSTAT, 0, 4⟩
def F.EVC_CSTAT.SLEEP : Fld := ⟨.EVC_CSTAT, 4, 1⟩
def F.EVC_CSTAT.HALT : Fld := ⟨.EVC_CSTAT, 5, 1⟩
def F.EVC_CSTAT.OFFER : Fld := ⟨.EVC_CSTAT, 6, 1⟩
def F.EVC_CSTAT.PAIRED : Fld := ⟨.EVC_CSTAT, 7, 1⟩
def F.EVC_PEEK.SOURCE : Fld := ⟨.EVC_PEEK, 0, 10⟩
def F.EVC_HOLD.HOLD : Fld := ⟨.EVC_HOLD, 0, 16⟩
def F.EVC_HOLD.OPEN : Fld := ⟨.EVC_HOLD, 16, 1⟩
def F.EVC_TCH.WAKEEN : Fld := ⟨.EVC_TCH, 0, 1⟩
def F.EVC_TCH.WAKE : Fld := ⟨.EVC_TCH, 1, 1⟩
def F.EVC_TCH.L1EXIT : Fld := ⟨.EVC_TCH, 2, 1⟩
def F.EVC_TCH.HELD : Fld := ⟨.EVC_TCH, 8, 5⟩
def F.EVC_PEND.VALUE : Fld := ⟨.EVC_PEND, 0, 32⟩
def F.EVC_ACT.VALUE : Fld := ⟨.EVC_ACT, 0, 32⟩
def F.EVC_SRC.PRIO : Fld := ⟨.EVC_SRC, 0, 4⟩
def F.EVC_SRC.EN : Fld := ⟨.EVC_SRC, 4, 1⟩
def F.EVC_SRC.TKIND : Fld := ⟨.EVC_SRC, 5, 1⟩
def F.EVC_SRC.KMASK : Fld := ⟨.EVC_SRC, 8, 4⟩
def F.EVC_SRC.TENANT : Fld := ⟨.EVC_SRC, 12, 4⟩
def F.EVC_SRC.VECTOR : Fld := ⟨.EVC_SRC, 16, 5⟩
def F.EVC_SRC.GROUP : Fld := ⟨.EVC_SRC, 24, 6⟩
def F.PWR_RST_CAUSE.LAST : Fld := ⟨.PWR_RST_CAUSE, 0, 3⟩
def F.PWR_RST_CAUSE.SEEN : Fld := ⟨.PWR_RST_CAUSE, 8, 5⟩
def F.PWR_BOOTCNT.COUNT : Fld := ⟨.PWR_BOOTCNT, 0, 16⟩
def F.PWR_RST_CTL.KEY : Fld := ⟨.PWR_RST_CTL, 0, 8⟩
def F.PWR_RST_CTL.GO : Fld := ⟨.PWR_RST_CTL, 8, 1⟩
def F.PWR_SUP_STAT.LANE : Fld := ⟨.PWR_SUP_STAT, 0, 4⟩
def F.PWR_SUP_STAT.VDDQ : Fld := ⟨.PWR_SUP_STAT, 4, 12⟩
def F.PWR_EVT.MODEDONE : Fld := ⟨.PWR_EVT, 0, 1⟩
def F.PWR_EVT.MODEABORT : Fld := ⟨.PWR_EVT, 1, 1⟩
def F.PWR_EVT.SPLIT : Fld := ⟨.PWR_EVT, 2, 1⟩
def F.PWR_EVT.MNTGRANT : Fld := ⟨.PWR_EVT, 3, 1⟩
def F.PWR_EVEN.MODEDONE : Fld := ⟨.PWR_EVEN, 0, 1⟩
def F.PWR_EVEN.MODEABORT : Fld := ⟨.PWR_EVEN, 1, 1⟩
def F.PWR_EVEN.SPLIT : Fld := ⟨.PWR_EVEN, 2, 1⟩
def F.PWR_EVEN.MNTGRANT : Fld := ⟨.PWR_EVEN, 3, 1⟩
def F.PWR_MODE_CTL.CLK : Fld := ⟨.PWR_MODE_CTL, 0, 1⟩
def F.PWR_MODE_CTL.GO : Fld := ⟨.PWR_MODE_CTL, 1, 1⟩
def F.PWR_MODE_CTL.UNIT : Fld := ⟨.PWR_MODE_CTL, 2, 7⟩
def F.PWR_MODE_CTL.UNITRST : Fld := ⟨.PWR_MODE_CTL, 9, 1⟩
def F.PWR_MODE_STAT.STATE : Fld := ⟨.PWR_MODE_STAT, 0, 3⟩
def F.PWR_MODE_STAT.DONE : Fld := ⟨.PWR_MODE_STAT, 3, 1⟩
def F.PWR_MODE_STAT.ABORT : Fld := ⟨.PWR_MODE_STAT, 4, 1⟩
def F.PWR_MODE_STAT.SPLIT : Fld := ⟨.PWR_MODE_STAT, 5, 1⟩
def F.PWR_MODE_STAT.BUSYREJ : Fld := ⟨.PWR_MODE_STAT, 6, 1⟩
def F.PWR_MODE_STAT.REFUSER : Fld := ⟨.PWR_MODE_STAT, 8, 7⟩
def F.PWR_MODE_TMO.TMO : Fld := ⟨.PWR_MODE_TMO, 0, 16⟩
def F.PWR_MODE_CHAN.MASK : Fld := ⟨.PWR_MODE_CHAN, 0, 12⟩
def F.PWR_DOM_TGT.ON (j : Nat) : Fld := ⟨.PWR_DOM_TGT, 0 + 1 * j, 1⟩
def F.PWR_DOM_STAT.ON (j : Nat) : Fld := ⟨.PWR_DOM_STAT, 0 + 1 * j, 1⟩
def F.PWR_MODE_UNIT.ST (j : Nat) : Fld := ⟨.PWR_MODE_UNIT, 0 + 4 * j, 4⟩
def F.PWR_TRST_CMD.TENANT : Fld := ⟨.PWR_TRST_CMD, 0, 4⟩
def F.PWR_TRST_CMD.GO : Fld := ⟨.PWR_TRST_CMD, 31, 1⟩
def F.PWR_TRST_STAT.BUSY : Fld := ⟨.PWR_TRST_STAT, 0, 1⟩
def F.PWR_TRST_STAT.TENANT : Fld := ⟨.PWR_TRST_STAT, 4, 4⟩
def F.PWR_MNT_REQ.ACT : Fld := ⟨.PWR_MNT_REQ, 0, 4⟩
def F.PWR_MNT_REQ.RES : Fld := ⟨.PWR_MNT_REQ, 4, 12⟩
def F.PWR_MNT_REQ.GO : Fld := ⟨.PWR_MNT_REQ, 31, 1⟩
def F.PWR_MNT_RESP.TICKET : Fld := ⟨.PWR_MNT_RESP, 0, 6⟩
def F.PWR_MNT_RESP.OUTCOME : Fld := ⟨.PWR_MNT_RESP, 8, 2⟩
def F.PWR_MNT_DONE.TICKET : Fld := ⟨.PWR_MNT_DONE, 0, 6⟩
def F.PWR_MNT_STAT.RUNNING : Fld := ⟨.PWR_MNT_STAT, 0, 7⟩
def F.PWR_MNT_STAT.QUEUED : Fld := ⟨.PWR_MNT_STAT, 8, 7⟩
def F.PWR_MNT_ENT.ACT : Fld := ⟨.PWR_MNT_ENT, 0, 4⟩
def F.PWR_MNT_ENT.RES : Fld := ⟨.PWR_MNT_ENT, 4, 12⟩
def F.PWR_MNT_ENT.STATE : Fld := ⟨.PWR_MNT_ENT, 16, 2⟩
def F.PWR_MNT_ENT.HW : Fld := ⟨.PWR_MNT_ENT, 18, 1⟩
def F.MGP_BOARD.SPDBUS (j : Nat) : Fld := ⟨.MGP_BOARD, 0 + 2 * j, 2⟩
def F.MGP_STAT.CONFANY : Fld := ⟨.MGP_STAT, 0, 1⟩
def F.MGP_PIN.OUT : Fld := ⟨.MGP_PIN, 0, 1⟩
def F.MGP_PIN.OE : Fld := ⟨.MGP_PIN, 1, 1⟩
def F.MGP_PIN.OD : Fld := ⟨.MGP_PIN, 2, 1⟩
def F.MGP_PIN.SLOW : Fld := ⟨.MGP_PIN, 3, 1⟩
def F.MGP_PIN.PULL : Fld := ⟨.MGP_PIN, 4, 2⟩
def F.MGP_PIN.DRIVE : Fld := ⟨.MGP_PIN, 6, 2⟩
def F.MGP_PIN.IN : Fld := ⟨.MGP_PIN, 8, 1⟩
def F.MGP_PIN.CONF : Fld := ⟨.MGP_PIN, 9, 1⟩
def F.MGP_PIN.GAP : Fld := ⟨.MGP_PIN, 10, 1⟩
def F.MGP_IN.VALUE : Fld := ⟨.MGP_IN, 0, 32⟩
def F.MGP_MAP.PIN : Fld := ⟨.MGP_MAP, 0, 6⟩
def F.MGP_MAP.EN : Fld := ⟨.MGP_MAP, 7, 1⟩
def F.MGP_EVL.PORT : Fld := ⟨.MGP_EVL, 0, 2⟩
def F.MGP_EVL.MODE : Fld := ⟨.MGP_EVL, 2, 3⟩
def F.MGP_EVL.CMASK : Fld := ⟨.MGP_EVL, 8, 4⟩
def F.MGP_EVSTAT.LINES : Fld := ⟨.MGP_EVSTAT, 0, 16⟩
def F.MGP_I2CCTL.EN : Fld := ⟨.MGP_I2CCTL, 0, 1⟩
def F.MGP_I2CCTL.SPEED : Fld := ⟨.MGP_I2CCTL, 1, 2⟩
def F.MGP_I2CCTL.SMB : Fld := ⟨.MGP_I2CCTL, 3, 1⟩
def F.MGP_I2CCMD.ADDR : Fld := ⟨.MGP_I2CCMD, 0, 7⟩
def F.MGP_I2CCMD.WLEN : Fld := ⟨.MGP_I2CCMD, 8, 5⟩
def F.MGP_I2CCMD.RLEN : Fld := ⟨.MGP_I2CCMD, 16, 5⟩
def F.MGP_I2CCMD.NOSTART : Fld := ⟨.MGP_I2CCMD, 24, 1⟩
def F.MGP_I2CCMD.NOSTOP : Fld := ⟨.MGP_I2CCMD, 25, 1⟩
def F.MGP_I2CCMD.GO : Fld := ⟨.MGP_I2CCMD, 31, 1⟩
def F.MGP_I2CSTAT.BUSY : Fld := ⟨.MGP_I2CSTAT, 0, 1⟩
def F.MGP_I2CSTAT.DONE : Fld := ⟨.MGP_I2CSTAT, 1, 1⟩
def F.MGP_I2CSTAT.NACK : Fld := ⟨.MGP_I2CSTAT, 2, 1⟩
def F.MGP_I2CSTAT.ARBLOST : Fld := ⟨.MGP_I2CSTAT, 3, 1⟩
def F.MGP_I2CSTAT.TMO : Fld := ⟨.MGP_I2CSTAT, 4, 1⟩
def F.MGP_I2CDATA.VALUE : Fld := ⟨.MGP_I2CDATA, 0, 32⟩
def F.MGP_UARTCTL.EN : Fld := ⟨.MGP_UARTCTL, 0, 1⟩
def F.MGP_UARTCTL.FLOW : Fld := ⟨.MGP_UARTCTL, 1, 1⟩
def F.MGP_UARTCTL.DIV : Fld := ⟨.MGP_UARTCTL, 8, 16⟩
def F.MGP_UARTDATA.DATA : Fld := ⟨.MGP_UARTDATA, 0, 8⟩
def F.MGP_UARTSTAT.TXLVL : Fld := ⟨.MGP_UARTSTAT, 0, 5⟩
def F.MGP_UARTSTAT.RXLVL : Fld := ⟨.MGP_UARTSTAT, 8, 5⟩
def F.MGP_UARTSTAT.OVR : Fld := ⟨.MGP_UARTSTAT, 16, 1⟩
def F.MGP_UARTSTAT.FERR : Fld := ⟨.MGP_UARTSTAT, 17, 1⟩
def F.MGP_SPICTL.EN : Fld := ⟨.MGP_SPICTL, 0, 1⟩
def F.MGP_SPICTL.MODE : Fld := ⟨.MGP_SPICTL, 1, 2⟩
def F.MGP_SPICTL.CS : Fld := ⟨.MGP_SPICTL, 3, 1⟩
def F.MGP_SPICTL.DIV : Fld := ⟨.MGP_SPICTL, 8, 8⟩
def F.MGP_SPIDATA.DATA : Fld := ⟨.MGP_SPIDATA, 0, 8⟩
def F.MGP_SPISTAT.BUSY : Fld := ⟨.MGP_SPISTAT, 0, 1⟩
def F.MGP_PWM.DUTY : Fld := ⟨.MGP_PWM, 0, 8⟩
def F.MGP_PWM.PERIOD : Fld := ⟨.MGP_PWM, 8, 16⟩
def F.MGP_PWM.EN : Fld := ⟨.MGP_PWM, 31, 1⟩
def F.MGP_TACH.PERIOD : Fld := ⟨.MGP_TACH, 0, 24⟩
def F.KH_ID.VER : Fld := ⟨.KH_ID, 0, 8⟩
def F.KH_ID.PART : Fld := ⟨.KH_ID, 16, 16⟩
def F.KH_SES.ACTIVE : Fld := ⟨.KH_SES, 0, 1⟩
def F.KH_SES.LEVEL : Fld := ⟨.KH_SES, 1, 2⟩
def F.KH_SES.AUTHMODE : Fld := ⟨.KH_SES, 3, 1⟩
def F.KH_SES.FUSELVL : Fld := ⟨.KH_SES, 4, 2⟩
def F.KH_STAT.CODE : Fld := ⟨.KH_STAT, 0, 4⟩
def F.KH_STAT.ERRCODE : Fld := ⟨.KH_STAT, 8, 8⟩
def F.KH_STAT.FRAMEERR : Fld := ⟨.KH_STAT, 16, 1⟩
def F.KH_STAT.FAULTSEEN : Fld := ⟨.KH_STAT, 17, 1⟩
def F.KH_DAHI.DAHI : Fld := ⟨.KH_DAHI, 0, 16⟩
def F.KH_CHAL.VALUE : Fld := ⟨.KH_CHAL, 0, 32⟩
def F.KH_RESP.VALUE : Fld := ⟨.KH_RESP, 0, 32⟩
def F.KH_AUTH.LVL : Fld := ⟨.KH_AUTH, 0, 2⟩
def F.KH_AUTH.GO : Fld := ⟨.KH_AUTH, 7, 1⟩
def F.KH_AUTH.FAILS : Fld := ⟨.KH_AUTH, 8, 8⟩
def F.KH_AUTH.AUTHWAIT : Fld := ⟨.KH_AUTH, 16, 1⟩
def F.KH_CORE_CTL.HALT : Fld := ⟨.KH_CORE_CTL, 0, 4⟩
def F.KH_CORE_CTL.STEP : Fld := ⟨.KH_CORE_CTL, 4, 4⟩
def F.KH_CORE_CTL.RESUME : Fld := ⟨.KH_CORE_CTL, 8, 4⟩
def F.KH_CORE_CTL.EBRK : Fld := ⟨.KH_CORE_CTL, 12, 4⟩
def F.KH_CORE_STAT.HALTED : Fld := ⟨.KH_CORE_STAT, 0, 4⟩
def F.KH_CORE_STAT.STEPPING : Fld := ⟨.KH_CORE_STAT, 4, 4⟩
def F.KH_PCS_LO.VALUE : Fld := ⟨.KH_PCS_LO, 0, 32⟩
def F.KH_PCS_HI.VALUE : Fld := ⟨.KH_PCS_HI, 0, 32⟩
def F.KH_CREG_SEL.CORE : Fld := ⟨.KH_CREG_SEL, 0, 2⟩
def F.KH_CREG_SEL.SPACE : Fld := ⟨.KH_CREG_SEL, 2, 2⟩
def F.KH_CREG_SEL.NUM : Fld := ⟨.KH_CREG_SEL, 4, 12⟩
def F.KH_CREG_LO.VALUE : Fld := ⟨.KH_CREG_LO, 0, 32⟩
def F.KH_CREG_HI.VALUE : Fld := ⟨.KH_CREG_HI, 0, 32⟩
def F.KH_CREG_CMD.READ : Fld := ⟨.KH_CREG_CMD, 0, 1⟩
def F.KH_CREG_CMD.WRITE : Fld := ⟨.KH_CREG_CMD, 1, 1⟩
def F.KH_TMB_CTL.ENGINE : Fld := ⟨.KH_TMB_CTL, 0, 9⟩
def F.KH_TMB_CTL.HALT : Fld := ⟨.KH_TMB_CTL, 16, 1⟩
def F.KH_TMB_CTL.STEP : Fld := ⟨.KH_TMB_CTL, 17, 1⟩
def F.KH_TMB_CTL.RESUME : Fld := ⟨.KH_TMB_CTL, 18, 1⟩
def F.KH_TMB_STAT.ENGINE : Fld := ⟨.KH_TMB_STAT, 0, 9⟩
def F.KH_TMB_STAT.RUN : Fld := ⟨.KH_TMB_STAT, 16, 3⟩
def F.KH_TMB_STAT.STOPPEND : Fld := ⟨.KH_TMB_STAT, 19, 1⟩
def F.KH_TREG_SEL.ENGINE : Fld := ⟨.KH_TREG_SEL, 0, 9⟩
def F.KH_TREG_SEL.KIND : Fld := ⟨.KH_TREG_SEL, 9, 3⟩
def F.KH_TREG_SEL.INDEX : Fld := ⟨.KH_TREG_SEL, 12, 5⟩
def F.KH_TREG_SEL.BANK : Fld := ⟨.KH_TREG_SEL, 17, 1⟩
def F.KH_TREG_SEL.WORD : Fld := ⟨.KH_TREG_SEL, 18, 7⟩
def F.KH_TREG_DATA.VALUE : Fld := ⟨.KH_TREG_DATA, 0, 32⟩
def F.KH_TREG_CMD.READ : Fld := ⟨.KH_TREG_CMD, 0, 1⟩
def F.KH_TREG_CMD.WRITE : Fld := ⟨.KH_TREG_CMD, 1, 1⟩
def F.KH_VT_TX.VALUE : Fld := ⟨.KH_VT_TX, 0, 32⟩
def F.KH_VT_RX.VALUE : Fld := ⟨.KH_VT_RX, 0, 32⟩
def F.KH_VT_STAT.TXFULL : Fld := ⟨.KH_VT_STAT, 0, 1⟩
def F.KH_VT_STAT.RXFULL : Fld := ⟨.KH_VT_STAT, 1, 1⟩
def F.KH_VT_STAT.OVR : Fld := ⟨.KH_VT_STAT, 2, 1⟩
def F.KH_VT_EN.RXEVT : Fld := ⟨.KH_VT_EN, 0, 1⟩
def F.KH_VT_EN.TXEVT : Fld := ⟨.KH_VT_EN, 1, 1⟩
def F.KH_IMG_CTL.LEN : Fld := ⟨.KH_IMG_CTL, 0, 21⟩
def F.KH_IMG_CTL.READY : Fld := ⟨.KH_IMG_CTL, 30, 1⟩
def F.KH_IMG_CTL.BUSY : Fld := ⟨.KH_IMG_CTL, 31, 1⟩
def F.KH_IMG_DATA.VALUE : Fld := ⟨.KH_IMG_DATA, 0, 32⟩

/-- The rows of the register's field table (for a register whose words differ, the word the index picks). -/
def regFields (r : RegName) (i : Nat) : List FieldRow :=
  match r with
  | .CLK_STRAP => [⟨0, 1, .RO, .RO⟩, ⟨1, 2, .RO, .RO⟩, ⟨3, 2, .RO, .RO⟩]
  | .CLK_ROOT_CFG => [⟨0, 7, .RWL, .RWL⟩, ⟨31, 1, .W1S, .W1S⟩]
  | .CLK_ROOT_STAT => [⟨0, 4, .RO, .RO⟩, ⟨4, 4, .RO, .RO⟩, ⟨8, 1, .RO, .RO⟩, ⟨9, 1, .W1C, .W1C⟩, ⟨10, 1, .RO, .RO⟩]
  | .CLK_ALIGN_ERR => [⟨0, 8, .RO, .RO⟩, ⟨8, 8, .RO, .RO⟩, ⟨16, 8, .RO, .RO⟩]
  | .CLK_MON_CTL => [⟨0, 1, .RW, .RW⟩, ⟨1, 1, .RW, .RW⟩]
  | .CLK_MON_STAT => [⟨0, 5, .RO, .RO⟩, ⟨8, 1, .W1C, .W1C⟩, ⟨9, 1, .W1C, .W1C⟩, ⟨10, 1, .W1C, .W1C⟩]
  | .CLK_MON_CAUSE => [⟨0, 3, .RO, .RO⟩, ⟨4, 2, .RO, .RO⟩, ⟨8, 3, .RO, .RO⟩]
  | .CLK_MON_FREQ => [⟨0, 16, .RO, .RO⟩]
  | .CLK_KCK_CTL => [⟨0, 7, .RW, .RW⟩, ⟨8, 1, .RW, .RW⟩]
  | .CLK_CCK_CTL => [⟨0, 7, .RW, .RW⟩, ⟨8, 1, .RW, .RW⟩]
  | .CLK_SW_STAT => [⟨0, 1, .RO, .RO⟩, ⟨1, 1, .RO, .RO⟩, ⟨8, 1, .W1C, .W1C⟩, ⟨9, 1, .W1C, .W1C⟩]
  | .CLK_LREF_STAT => [⟨0, 8, .RO, .RO⟩, ⟨8, 8, .W1C, .W1C⟩]
  | .CLK_DTC_INC => [⟨0, 32, .RO, .RO⟩]
  | .CLK_DTC_INC_HI => [⟨0, 32, .RO, .RO⟩]
  | .CLK_DTC_LO => [⟨0, 32, .RO, .RO⟩]
  | .CLK_DTC_HI => [⟨0, 32, .RO, .RO⟩]
  | .CLK_FCK => [⟨0, 11, .RW, .RW⟩, ⟨16, 11, .RO, .RO⟩, ⟨31, 1, .RW, .RW⟩]
  | .CLK_ECK => [⟨0, 7, .RW, .RW⟩, ⟨16, 7, .RO, .RO⟩, ⟨31, 1, .RW, .RW⟩]
  | .CLK_MCK => [⟨0, 6, .RW, .RW⟩, ⟨16, 6, .RO, .RO⟩, ⟨31, 1, .RW, .RW⟩]
  | .CLK_SGATE => [⟨0, 32, .RO, .RO⟩]
  | .KRV_CTL => [⟨0, 1, .RW, .RW⟩, ⟨1, 1, .RW, .RW⟩]
  | .KRV_TMO => [⟨0, 16, .RW, .RW⟩]
  | .KRV_KNK_THR => [⟨0, 8, .RW, .RW⟩, ⟨8, 8, .RW, .RW⟩]
  | .KRV_KNK_SPARE => [⟨0, 5, .RO, .RO⟩, ⟨8, 5, .RO, .RO⟩, ⟨16, 1, .WO, .WO⟩]
  | .KRV_KNK_STAT => [⟨0, 16, .RO, .RO⟩, ⟨16, 2, .RO, .RO⟩, ⟨18, 1, .RO, .RO⟩, ⟨19, 1, .RO, .RO⟩]
  | .KRV_KNK_ERR => [⟨0, 16, .RC, .RC⟩, ⟨16, 16, .RC, .RC⟩]
  | .KRV_ELOG0 => [⟨0, 8, .RO, .RO⟩, ⟨8, 8, .RO, .RO⟩, ⟨16, 13, .RO, .RO⟩, ⟨31, 1, .W1C, .W1C⟩]
  | .KRV_ELOG1 => [⟨0, 32, .RO, .RO⟩]
  | .KRV_ELOG2 => [⟨0, 16, .RO, .RO⟩]
  | .KRV_CRCDROP => [⟨0, 32, .RC, .RC⟩]
  | .KRV_LATE => [⟨0, 32, .RC, .RC⟩]
  | .KRV_AP => [⟨0, 7, .RO, .RO⟩, ⟨8, 7, .RO, .RO⟩, ⟨16, 1, .RO, .RO⟩, ⟨17, 1, .RO, .RO⟩, ⟨18, 1, .RO, .RO⟩]
  | .MEM_SCR_CTL => [⟨0, 1, .RW, .RW⟩, ⟨1, 1, .RW, .RW⟩, ⟨2, 1, .RW, .RW⟩, ⟨3, 1, .RW, .RW⟩, ⟨4, 1, .RW, .RW⟩, ⟨8, 1, .RW, .RW⟩, ⟨9, 1, .RW, .RW⟩, ⟨10, 1, .RW, .RW⟩, ⟨11, 1, .RW, .RW⟩]
  | .MEM_SCR_PERIOD => [⟨0, 16, .RW, .RW⟩]
  | .MEM_SCR_STAT => [⟨0, 16, .RO, .RO⟩, ⟨16, 1, .W1C, .W1C⟩, ⟨17, 1, .RO, .RO⟩]
  | .MEM_CE_CNT => [⟨0, 32, .RC, .RC⟩]
  | .MEM_UE_CNT => [⟨0, 32, .RC, .RC⟩]
  | .MEM_BIST_STAT => [⟨0, 1, .RO, .RO⟩, ⟨16, 16, .RO, .RO⟩]
  | .MEM_LOG_CTL => [⟨0, 4, .RO, .RO⟩, ⟨4, 5, .RO, .RO⟩, ⟨31, 1, .WO, .WO⟩]
  | .MEM_LOG_LOST => [⟨0, 32, .RC, .RC⟩]
  | .MEM_LOG_W => match i % 4 with
    | 0 => [⟨0, 3, .RO, .RO⟩, ⟨3, 2, .RO, .RO⟩, ⟨5, 13, .RO, .RO⟩, ⟨18, 3, .RO, .RO⟩]
    | 1 => [⟨0, 13, .RO, .RO⟩, ⟨16, 8, .RO, .RO⟩, ⟨24, 8, .RO, .RO⟩]
    | 2 => [⟨0, 32, .RO, .RO⟩]
    | _ => [⟨0, 32, .RO, .RO⟩]
  | .MEM_BRAM => [⟨0, 1, .RO, .RO⟩, ⟨1, 1, .RO, .RO⟩, ⟨2, 1, .RO, .RO⟩, ⟨3, 1, .RO, .RO⟩, ⟨4, 8, .RO, .RO⟩, ⟨12, 8, .RO, .RO⟩, ⟨20, 8, .RC, .RC⟩, ⟨28, 1, .RO, .RO⟩]
  | .MEM_VAULT => [⟨0, 1, .RO, .RO⟩, ⟨1, 1, .RO, .RO⟩, ⟨2, 1, .RO, .RO⟩, ⟨3, 1, .RO, .RO⟩, ⟨4, 8, .RO, .RO⟩, ⟨12, 8, .RO, .RO⟩, ⟨20, 8, .RC, .RC⟩, ⟨28, 1, .RO, .RO⟩]
  | .MEM_TMB => [⟨0, 1, .RO, .RO⟩, ⟨1, 1, .RO, .RO⟩, ⟨2, 1, .RO, .RO⟩, ⟨3, 1, .RO, .RO⟩, ⟨4, 8, .RO, .RO⟩, ⟨12, 8, .RO, .RO⟩, ⟨20, 8, .RC, .RC⟩, ⟨28, 1, .RO, .RO⟩]
  | .MEM_RMP_SEL => [⟨0, 2, .RW, .RW⟩, ⟨2, 13, .RW, .RW⟩, ⟨16, 3, .RW, .RW⟩]
  | .MEM_RMP_DATA => [⟨0, 13, .RO, .RO⟩, ⟨16, 8, .RO, .RO⟩, ⟨28, 2, .RO, .RO⟩, ⟨31, 1, .RO, .RO⟩]
  | .MEM_RMP_CMD => [⟨0, 13, .WO, .WO⟩, ⟨31, 1, .WO, .WO⟩]
  | .MEM_RMP_STAT => [⟨0, 1, .RO, .RO⟩, ⟨1, 1, .W1C, .W1C⟩]
  | .CR_STATUS => [⟨0, 1, .RW, .RW⟩, ⟨1, 1, .RO, .RO⟩, ⟨2, 1, .W1C, .W1C⟩, ⟨3, 1, .W1C, .W1C⟩, ⟨4, 1, .W1C, .W1C⟩, ⟨5, 1, .W1C, .W1C⟩, ⟨6, 1, .W1C, .W1C⟩, ⟨7, 1, .W1C, .W1C⟩]
  | .CR_EVT => [⟨0, 1, .W1C, .W1C⟩, ⟨1, 1, .RO, .RO⟩, ⟨2, 1, .W1C, .W1C⟩, ⟨3, 1, .W1C, .W1C⟩, ⟨4, 1, .W1C, .W1C⟩, ⟨5, 1, .W1C, .W1C⟩, ⟨6, 1, .W1C, .W1C⟩, ⟨7, 1, .W1C, .W1C⟩]
  | .CR_EVMASK => [⟨0, 1, .RW, .RW⟩, ⟨1, 1, .RW, .RW⟩, ⟨2, 1, .RW, .RW⟩, ⟨3, 1, .RW, .RW⟩, ⟨4, 1, .RW, .RW⟩, ⟨5, 1, .RW, .RW⟩, ⟨6, 1, .RW, .RW⟩, ⟨7, 1, .RW, .RW⟩]
  | .CR_HVEC => [⟨0, 10, .RW, .RW⟩]
  | .CR_EPC => [⟨0, 10, .RW, .RW⟩]
  | .CR_NOUT => [⟨0, 5, .RO, .RO⟩]
  | .CR_NLOG => [⟨0, 8, .RO, .RO⟩, ⟨16, 10, .RO, .RO⟩, ⟨31, 1, .W1C, .W1C⟩]
  | .CR_SSTAT => [⟨0, 3, .RO, .RO⟩, ⟨4, 3, .RO, .RO⟩, ⟨8, 3, .RO, .RO⟩, ⟨12, 3, .RO, .RO⟩, ⟨16, 4, .RO, .RO⟩]
  | .CR_SEVSEL => [⟨0, 4, .RW, .RW⟩]
  | .CR_CYC => [⟨0, 32, .RO, .RO⟩]
  | .CR_TCMP => [⟨0, 32, .RW, .RW⟩]
  | .CR_ENGID => [⟨0, 9, .RO, .RO⟩]
  | .CR_JARG => [⟨0, 32, .RO, .RO⟩]
  | .CR_JINFO => [⟨0, 7, .RO, .RO⟩, ⟨8, 8, .RO, .RO⟩, ⟨16, 6, .RO, .RO⟩]
  | .CR_DBCAUSE => [⟨0, 1, .W1C, .W1C⟩, ⟨1, 1, .W1C, .W1C⟩, ⟨2, 1, .RO, .RO⟩]
  | .CR_DBADDR => [⟨0, 1, .RW, .RW⟩, ⟨3, 13, .RW, .RW⟩]
  | .CR_WOFF_LO => [⟨0, 32, .RO, .RO⟩]
  | .CR_WOFF_HI => [⟨0, 8, .RO, .RO⟩, ⟨31, 1, .RO, .RO⟩]
  | .CR_WRSP => [⟨6, 10, .WO, .WO⟩]
  | .CR_WSTAT => [⟨0, 3, .RO, .RO⟩, ⟨8, 1, .W1C, .W1C⟩]
  | .TMB_CFG => [⟨0, 6, .RW, .RW⟩, ⟨8, 1, .RW, .RW⟩]
  | .TMB_STAT => [⟨0, 3, .RO, .RO⟩, ⟨3, 1, .RO, .RO⟩, ⟨4, 1, .RO, .RO⟩, ⟨5, 1, .RO, .RO⟩, ⟨6, 1, .RO, .RO⟩, ⟨7, 1, .RO, .RO⟩, ⟨8, 1, .RO, .RO⟩, ⟨9, 3, .RO, .RO⟩, ⟨12, 3, .RO, .RO⟩, ⟨16, 1, .W1C, .W1C⟩]
  | .TMB_CTL => [⟨0, 1, .WO, .WO⟩, ⟨1, 1, .WO, .WO⟩, ⟨2, 1, .WO, .WO⟩]
  | .TMB_PC => [⟨0, 10, .RO, .RO⟩, ⟨16, 10, .RO, .RO⟩]
  | .TMB_TSIG => [⟨0, 32, .RO, .RO⟩]
  | .TMB_EVCAUSE => [⟨0, 1, .W1C, .W1C⟩, ⟨1, 1, .W1C, .W1C⟩, ⟨2, 1, .W1C, .W1C⟩, ⟨3, 1, .W1C, .W1C⟩, ⟨4, 1, .W1C, .W1C⟩]
  | .TMB_EVEN => [⟨0, 1, .RW, .RW⟩, ⟨1, 1, .RW, .RW⟩, ⟨2, 1, .RW, .RW⟩, ⟨3, 1, .RW, .RW⟩, ⟨4, 1, .RW, .RW⟩]
  | .TMB_CR => [⟨0, 32, .RW, .RW⟩]
  | .TMB_SET_CFG => [⟨0, 4, .RW, .RW⟩, ⟨8, 1, .RW, .RW⟩, ⟨9, 1, .RW, .RW⟩, ⟨16, 1, .W1C, .W1C⟩]
  | .TMB_SET_INFO => [⟨0, 8, .RO, .RO⟩, ⟨8, 8, .RO, .RO⟩, ⟨16, 2, .RO, .RO⟩]
  | .TMB_SET_JOB => [⟨0, 10, .RW, .RW⟩, ⟨31, 1, .WO, .WO⟩]
  | .TMB_SET_TMO => [⟨0, 32, .RW, .RW⟩]
  | .TMB_SET_ARG => [⟨0, 32, .RW, .RW⟩]
  | .TMB_SET_JSTAT => [⟨0, 1, .RO, .RO⟩, ⟨1, 3, .RO, .RO⟩, ⟨4, 1, .W1C, .W1C⟩]
  | .TMB_SET_STOP => [⟨0, 1, .WO, .WO⟩]
  | .TMB_SET_DB => [⟨0, 1, .WO, .WO⟩]
  | .TMB_TW_CFG => [⟨0, 1, .RW, .RW⟩, ⟨1, 1, .W1C, .W1C⟩, ⟨8, 4, .RO, .RO⟩, ⟨16, 6, .RW, .RW⟩, ⟨24, 6, .RW, .RW⟩]
  | .TMB_TW_BASE_LO => [⟨12, 20, .RW, .RW⟩]
  | .TMB_TW_BASE_HI => [⟨0, 16, .RW, .RW⟩]
  | .TMB_TW_BOUND => [⟨0, 16, .RW, .RW⟩]
  | .TMB_TW_SERVED => [⟨0, 32, .RC, .RC⟩]
  | .TMB_TW_OVERRUN => [⟨0, 32, .RC, .RC⟩]
  | .TMB_TW_NOTREADY => [⟨0, 32, .RC, .RC⟩]
  | .TMB_TW_LATE => [⟨0, 32, .RC, .RC⟩]
  | .TMB_TW_WRITES => [⟨0, 32, .RC, .RC⟩]
  | .LNK_PCFG => [⟨0, 1, .RO, .RO⟩, ⟨1, 1, .RO, .RO⟩]
  | .LNK_PSTAT => [⟨0, 2, .RO, .RO⟩, ⟨2, 1, .RO, .RO⟩]
  | .LNK_RET => [⟨0, 16, .RO, .RO⟩, ⟨16, 16, .WO, .WO⟩]
  | .LNK_TMO => [⟨0, 10, .RW, .RW⟩]
  | .LNK_HCTL => [⟨0, 1, .RW, .RW⟩, ⟨1, 1, .WO, .WO⟩, ⟨2, 1, .WO, .WO⟩, ⟨4, 3, .RW, .RW⟩]
  | .LNK_HCFG => [⟨0, 1, .RO, .RO⟩, ⟨1, 1, .RO, .RO⟩, ⟨2, 3, .RO, .RO⟩]
  | .LNK_HSTAT => [⟨0, 4, .RO, .RO⟩, ⟨4, 3, .RO, .RO⟩, ⟨8, 3, .RO, .RO⟩, ⟨11, 5, .RO, .RO⟩, ⟨16, 1, .RO, .RO⟩, ⟨17, 1, .RO, .RO⟩, ⟨18, 1, .RO, .RO⟩, ⟨19, 1, .RO, .RO⟩, ⟨20, 4, .RO, .RO⟩]
  | .LNK_HATT => [⟨0, 16, .RC, .RC⟩, ⟨16, 16, .RC, .RC⟩]
  | .LNK_HREC => [⟨0, 32, .RC, .RC⟩]
  | .LNK_HFEC => [⟨0, 32, .RC, .RC⟩]
  | .LNK_HREPLAY => [⟨0, 32, .RC, .RC⟩]
  | .LNK_HTHR => [⟨0, 8, .RW, .RW⟩]
  | .LNK_HEVT => [⟨0, 1, .W1C, .W1C⟩, ⟨1, 1, .W1C, .W1C⟩, ⟨2, 1, .W1C, .W1C⟩, ⟨3, 1, .W1C, .W1C⟩, ⟨4, 1, .W1C, .W1C⟩]
  | .LNK_HEVEN => [⟨0, 1, .RW, .RW⟩, ⟨1, 1, .RW, .RW⟩, ⟨2, 1, .RW, .RW⟩, ⟨3, 1, .RW, .RW⟩, ⟨4, 1, .RW, .RW⟩]
  | .LNK_LSTAT => [⟨0, 3, .RO, .RO⟩, ⟨3, 1, .RO, .RO⟩, ⟨4, 1, .RO, .RO⟩, ⟨5, 1, .RO, .RO⟩, ⟨6, 2, .RO, .RO⟩, ⟨8, 4, .RO, .RO⟩]
  | .LNK_LERR => [⟨0, 32, .RC, .RC⟩]
  | .LNK_LTXEQ => [⟨0, 6, .RW, .RW⟩, ⟨8, 6, .RW, .RW⟩, ⟨15, 1, .RW, .RW⟩, ⟨16, 6, .RO, .RO⟩, ⟨24, 6, .RO, .RO⟩, ⟨31, 1, .W1C, .W1C⟩]
  | .LNK_LRXEQ => [⟨0, 5, .RO, .RO⟩, ⟨8, 5, .RO, .RO⟩, ⟨16, 5, .RO, .RO⟩, ⟨24, 5, .RO, .RO⟩]
  | .LNK_LLB => [⟨0, 2, .RW, .RW⟩, ⟨2, 3, .RW, .RW⟩, ⟨8, 3, .RW, .RW⟩, ⟨11, 1, .RO, .RO⟩, ⟨16, 1, .W1C, .W1C⟩, ⟨17, 1, .RO, .RO⟩]
  | .LNK_LLBERR => [⟨0, 32, .RC, .RC⟩]
  | .COH_CTL => [⟨0, 1, .RW, .RW⟩, ⟨1, 1, .RW, .RW⟩, ⟨2, 1, .RW, .RW⟩, ⟨3, 1, .RW, .RW⟩, ⟨4, 1, .RW, .RW⟩]
  | .COH_BITMO => [⟨0, 16, .RW, .RW⟩]
  | .COH_PT_CMD => [⟨0, 15, .WO, .WO⟩, ⟨16, 3, .WO, .WO⟩]
  | .COH_PT_STAT => [⟨0, 1, .RO, .RO⟩, ⟨4, 4, .RO, .RO⟩, ⟨8, 1, .W1C, .W1C⟩]
  | .COH_PT_DATA0 => [⟨0, 16, .RW, .RW⟩, ⟨16, 16, .RW, .RW⟩]
  | .COH_PT_DATA1 => [⟨0, 3, .RW, .RW⟩, ⟨3, 1, .RW, .RW⟩, ⟨4, 2, .RO, .RO⟩, ⟨6, 1, .RO, .RO⟩]
  | .COH_PT_DATA2 => [⟨0, 24, .RW, .RW⟩]
  | .COH_XM_CMD => [⟨0, 4, .WO, .WO⟩, ⟨4, 8, .WO, .WO⟩, ⟨12, 2, .WO, .WO⟩]
  | .COH_XM_DATA0 => [⟨0, 15, .RW, .RW⟩, ⟨31, 1, .RW, .RW⟩]
  | .COH_XM_DATA1 => [⟨0, 20, .RW, .RW⟩]
  | .COH_XM_DATA2 => [⟨0, 16, .RW, .RW⟩]
  | .COH_EVT => [⟨0, 4, .W1C, .W1C⟩, ⟨4, 8, .W1C, .W1C⟩, ⟨12, 1, .W1C, .W1C⟩, ⟨13, 1, .W1C, .W1C⟩, ⟨14, 1, .W1C, .W1C⟩]
  | .COH_HEAD => [⟨0, 1, .RO, .RO⟩, ⟨1, 1, .RO, .RO⟩, ⟨2, 1, .RO, .RO⟩, ⟨4, 12, .RO, .RO⟩]
  | .COH_VBY => [⟨0, 32, .RO, .RO⟩]
  | .COH_VON => [⟨0, 32, .RO, .RO⟩]
  | .COH_DIR_OCC => [⟨0, 21, .RO, .RO⟩]
  | .COH_DIR_ALLOC => [⟨0, 32, .RC, .RC⟩]
  | .COH_DIR_EVICT => [⟨0, 32, .RC, .RC⟩]
  | .COH_DIR_PEND => [⟨0, 10, .RO, .RO⟩, ⟨16, 9, .RO, .RO⟩]
  | .COH_DIR_PERR => [⟨0, 32, .RC, .RC⟩]
  | .COH_DC_HIT => [⟨0, 32, .RC, .RC⟩]
  | .COH_DC_MISS => [⟨0, 32, .RC, .RC⟩]
  | .COH_DC_ERR => [⟨0, 16, .RC, .RC⟩, ⟨16, 16, .RC, .RC⟩]
  | .COH_VLOG_CTL => [⟨0, 5, .RO, .RO⟩, ⟨5, 6, .RO, .RO⟩, ⟨31, 1, .WO, .WO⟩]
  | .COH_VLOG_LOST => [⟨0, 32, .RC, .RC⟩]
  | .COH_VLOG_W => match i % 6 with
    | 0 => [⟨0, 3, .RO, .RO⟩, ⟨3, 3, .RO, .RO⟩, ⟨6, 5, .RO, .RO⟩, ⟨11, 13, .RO, .RO⟩, ⟨24, 1, .RO, .RO⟩]
    | 1 => [⟨0, 32, .RO, .RO⟩]
    | 2 => [⟨0, 16, .RO, .RO⟩, ⟨16, 15, .RO, .RO⟩]
    | 3 => [⟨0, 16, .RO, .RO⟩]
    | 4 => [⟨0, 32, .RO, .RO⟩]
    | _ => [⟨0, 32, .RO, .RO⟩]
  | .DDR_CFG => [⟨0, 2, .RWL, .RWL⟩, ⟨2, 1, .RWL, .RWL⟩, ⟨4, 2, .RWL, .RWL⟩, ⟨8, 2, .RWL, .RWL⟩]
  | .DDR_CTL => [⟨0, 1, .RW, .RW⟩, ⟨1, 1, .RW, .RW⟩, ⟨2, 1, .RW, .RW⟩, ⟨4, 1, .RW, .RW⟩, ⟨8, 8, .RW, .RW⟩]
  | .DDR_STAT => [⟨0, 4, .RO, .RO⟩, ⟨4, 3, .RO, .RO⟩, ⟨8, 8, .RO, .RO⟩, ⟨16, 1, .RO, .RO⟩, ⟨17, 1, .RO, .RO⟩]
  | .DDR_ILV => [⟨0, 4, .RWL, .RWL⟩, ⟨4, 4, .RWL, .RWL⟩, ⟨8, 4, .RWL, .RWL⟩, ⟨12, 1, .RWL, .RWL⟩, ⟨30, 1, .RO, .RO⟩, ⟨31, 1, .W1S, .W1S⟩]
  | .DDR_ILVBASE => [⟨0, 15, .RWL, .RWL⟩]
  | .DDR_MAPCAP => [⟨0, 11, .RO, .RO⟩]
  | .DDR_SCHED => [⟨0, 7, .RW, .RW⟩, ⟨8, 6, .RW, .RW⟩, ⟨16, 12, .RW, .RW⟩]
  | .DDR_SRIDLE => [⟨0, 16, .RW, .RW⟩]
  | .DDR_HOLD_CTL => [⟨0, 1, .WO, .WO⟩, ⟨1, 1, .WO, .WO⟩, ⟨2, 1, .WO, .WO⟩]
  | .DDR_HOLD_STAT => [⟨0, 10, .RO, .RO⟩, ⟨16, 1, .W1C, .W1C⟩]
  | .DDR_PAT_CTL => [⟨0, 1, .RW, .RW⟩, ⟨16, 16, .RW, .RW⟩]
  | .DDR_PAT_STAT => [⟨0, 16, .RO, .RO⟩, ⟨16, 1, .W1C, .W1C⟩]
  | .DDR_PAT_POS_LO => [⟨0, 32, .RO, .RO⟩]
  | .DDR_PAT_POS_HI => [⟨0, 1, .RO, .RO⟩]
  | .DDR_CE_CNT => [⟨0, 32, .RC, .RC⟩]
  | .DDR_UE_CNT => [⟨0, 32, .RC, .RC⟩]
  | .DDR_ECC_CTL => [⟨0, 8, .RW, .RW⟩, ⟨8, 8, .RW, .RW⟩, ⟨16, 1, .RW, .RW⟩]
  | .DDR_DEVFAIL => [⟨0, 4, .RO, .RO⟩, ⟨4, 1, .RO, .RO⟩, ⟨5, 3, .RO, .RO⟩, ⟨8, 8, .RO, .RO⟩]
  | .DDR_ELOG_W => match i % 4 with
    | 0 => [⟨0, 3, .RO, .RO⟩, ⟨3, 1, .RO, .RO⟩, ⟨4, 3, .RO, .RO⟩, ⟨8, 4, .RO, .RO⟩, ⟨12, 1, .RO, .RO⟩, ⟨31, 1, .W1C, .W1C⟩]
    | 1 => [⟨0, 32, .RO, .RO⟩]
    | 2 => [⟨0, 32, .RO, .RO⟩]
    | _ => [⟨0, 32, .RO, .RO⟩]
  | .DDR_RMP_SEL => [⟨0, 1, .RW, .RW⟩, ⟨8, 6, .RW, .RW⟩]
  | .DDR_RMP_DATA0 => [⟨0, 32, .RO, .RO⟩]
  | .DDR_RMP_DATA1 => [⟨0, 1, .RO, .RO⟩, ⟨28, 2, .RO, .RO⟩, ⟨30, 1, .RO, .RO⟩, ⟨31, 1, .RO, .RO⟩]
  | .DDR_RMP_CMD => [⟨0, 29, .WO, .WO⟩, ⟨30, 1, .WO, .WO⟩, ⟨31, 1, .WO, .WO⟩]
  | .DDR_RMP_STAT => [⟨0, 6, .RO, .RO⟩, ⟨8, 7, .RO, .RO⟩, ⟨16, 1, .RO, .RO⟩, ⟨17, 1, .W1C, .W1C⟩]
  | .DDR_EVT => [⟨0, 1, .W1C, .W1C⟩, ⟨1, 1, .W1C, .W1C⟩, ⟨2, 1, .W1C, .W1C⟩, ⟨3, 1, .W1C, .W1C⟩, ⟨4, 1, .W1C, .W1C⟩, ⟨5, 1, .W1C, .W1C⟩, ⟨6, 1, .W1C, .W1C⟩, ⟨7, 1, .W1C, .W1C⟩, ⟨8, 1, .W1C, .W1C⟩]
  | .DDR_EVEN => [⟨0, 1, .RW, .RW⟩, ⟨1, 1, .RW, .RW⟩, ⟨2, 1, .RW, .RW⟩, ⟨3, 1, .RW, .RW⟩, ⟨4, 1, .RW, .RW⟩, ⟨5, 1, .RW, .RW⟩, ⟨6, 1, .RW, .RW⟩, ⟨7, 1, .RW, .RW⟩, ⟨8, 1, .RW, .RW⟩]
  | .DDR_TIM_ACT => match i % 8 with
    | 0 => [⟨0, 3, .RO, .RO⟩, ⟨8, 6, .RO, .RO⟩, ⟨16, 8, .RO, .RO⟩, ⟨24, 8, .RO, .RO⟩]
    | 1 => [⟨0, 8, .RO, .RO⟩, ⟨8, 8, .RO, .RO⟩, ⟨16, 10, .RO, .RO⟩]
    | 2 => [⟨0, 10, .RO, .RO⟩, ⟨10, 10, .RO, .RO⟩, ⟨20, 8, .RO, .RO⟩]
    | 3 => [⟨0, 6, .RO, .RO⟩, ⟨8, 6, .RO, .RO⟩, ⟨16, 8, .RO, .RO⟩, ⟨24, 6, .RO, .RO⟩]
    | 4 => [⟨0, 8, .RO, .RO⟩, ⟨8, 8, .RO, .RO⟩, ⟨16, 8, .RO, .RO⟩, ⟨24, 4, .RO, .RO⟩]
    | 5 => [⟨0, 12, .RO, .RO⟩, ⟨16, 12, .RO, .RO⟩]
    | 6 => [⟨0, 16, .RO, .RO⟩, ⟨16, 12, .RO, .RO⟩]
    | _ => [⟨0, 8, .RO, .RO⟩]
  | .DDR_TIM_SHADOW => match i % 8 with
    | 0 => [⟨0, 3, .RW, .RW⟩, ⟨8, 6, .RW, .RW⟩, ⟨16, 8, .RW, .RW⟩, ⟨24, 8, .RW, .RW⟩]
    | 1 => [⟨0, 8, .RW, .RW⟩, ⟨8, 8, .RW, .RW⟩, ⟨16, 10, .RW, .RW⟩]
    | 2 => [⟨0, 10, .RW, .RW⟩, ⟨10, 10, .RW, .RW⟩, ⟨20, 8, .RW, .RW⟩]
    | 3 => [⟨0, 6, .RW, .RW⟩, ⟨8, 6, .RW, .RW⟩, ⟨16, 8, .RW, .RW⟩, ⟨24, 6, .RW, .RW⟩]
    | 4 => [⟨0, 8, .RW, .RW⟩, ⟨8, 8, .RW, .RW⟩, ⟨16, 8, .RW, .RW⟩, ⟨24, 4, .RW, .RW⟩]
    | 5 => [⟨0, 12, .RW, .RW⟩, ⟨16, 12, .RW, .RW⟩]
    | 6 => [⟨0, 16, .RW, .RW⟩, ⟨16, 12, .RW, .RW⟩]
    | _ => [⟨0, 8, .RW, .RW⟩]
  | .DDR_TIM_SHCTL => [⟨0, 1, .RW, .RW⟩]
  | .DDR_TRN_CTL => [⟨0, 2, .RW, .RW⟩, ⟨2, 2, .RW, .RW⟩, ⟨4, 3, .RW, .RW⟩, ⟨16, 12, .RW, .RW⟩, ⟨30, 1, .WO, .WO⟩, ⟨31, 1, .WO, .WO⟩]
  | .DDR_TRN_STAT => [⟨0, 1, .RO, .RO⟩, ⟨1, 1, .RO, .RO⟩, ⟨2, 1, .W1C, .W1C⟩, ⟨3, 1, .W1C, .W1C⟩, ⟨16, 12, .RO, .RO⟩]
  | .DDR_TRN_ADDR => [⟨0, 32, .RW, .RW⟩]
  | .DDR_TRN_USER => [⟨0, 32, .RW, .RW⟩]
  | .DDR_TRN_ERR => [⟨0, 32, .RC, .RC⟩]
  | .DDR_DLY_SEL => [⟨0, 8, .RW, .RW⟩, ⟨8, 3, .RW, .RW⟩]
  | .DDR_DLY_DATA => [⟨0, 9, .RW, .RW⟩, ⟨16, 9, .RW, .RW⟩]
  | .DDR_RXEQ_DATA => [⟨0, 8, .RW, .RW⟩, ⟨8, 6, .RW, .RW⟩, ⟨16, 6, .RW, .RW⟩, ⟨24, 6, .RW, .RW⟩]
  | .DDR_MR_CMD => [⟨0, 2, .WO, .WO⟩, ⟨2, 1, .WO, .WO⟩, ⟨4, 3, .WO, .WO⟩, ⟨8, 8, .WO, .WO⟩, ⟨16, 8, .WO, .WO⟩, ⟨24, 4, .WO, .WO⟩]
  | .DDR_MR_DATA => [⟨0, 8, .RO, .RO⟩, ⟨31, 1, .RO, .RO⟩]
  | .CFG_BOOT_STAT => [⟨0, 3, .RO, .RO⟩, ⟨3, 1, .RO, .RO⟩, ⟨4, 2, .RO, .RO⟩, ⟨6, 2, .RO, .RO⟩, ⟨8, 3, .RO, .RO⟩, ⟨16, 16, .RO, .RO⟩]
  | .CFG_PINS => [⟨0, 1, .RO, .RO⟩, ⟨1, 1, .RO, .RO⟩]
  | .CFG_IDENT => [⟨0, 16, .RO, .RO⟩, ⟨16, 16, .RO, .RO⟩]
  | .CFG_REV => [⟨0, 8, .RO, .RO⟩, ⟨8, 1, .RO, .RO⟩]
  | .CFG_LDTMO => [⟨0, 16, .RW, .RW⟩]
  | .CFG_CMD => [⟨0, 3, .WO, .WO⟩, ⟨4, 6, .WO, .WO⟩, ⟨10, 1, .WO, .WO⟩]
  | .CFG_LDSTAT => [⟨0, 3, .RO, .RO⟩, ⟨4, 4, .RO, .RO⟩, ⟨8, 1, .W1C, .W1C⟩, ⟨9, 1, .W1C, .W1C⟩, ⟨10, 6, .RO, .RO⟩]
  | .CFG_LDERR => [⟨0, 8, .RO, .RO⟩, ⟨8, 19, .RO, .RO⟩]
  | .CFG_LDCNT => [⟨0, 19, .RO, .RO⟩]
  | .CFG_EVT => [⟨0, 1, .W1C, .W1C⟩, ⟨1, 1, .W1C, .W1C⟩, ⟨2, 1, .W1C, .W1C⟩]
  | .CFG_EVEN => [⟨0, 1, .RW, .RW⟩, ⟨1, 1, .RW, .RW⟩, ⟨2, 1, .RW, .RW⟩]
  | .CFG_RGN_CFG => [⟨0, 5, .RW, .RW⟩, ⟨8, 3, .RO, .RO⟩, ⟨12, 2, .RO, .RO⟩, ⟨14, 1, .RO, .RO⟩, ⟨16, 1, .W1C, .W1C⟩, ⟨24, 7, .RO, .RO⟩]
  | .CFG_RGN_MASK0 => [⟨0, 32, .RO, .RO⟩]
  | .CFG_RGN_MASK1 => [⟨0, 32, .RO, .RO⟩]
  | .CFG_RGN_MASK2 => [⟨0, 16, .RO, .RO⟩]
  | .CFG_SECT => [⟨0, 6, .RO, .RO⟩, ⟨6, 1, .RO, .RO⟩, ⟨7, 1, .RO, .RO⟩]
  | .CFG_FRD_CMD => [⟨0, 19, .WO, .WO⟩, ⟨31, 1, .WO, .WO⟩]
  | .CFG_FRD_STAT => [⟨0, 1, .RO, .RO⟩, ⟨1, 1, .RO, .RO⟩, ⟨2, 1, .W1C, .W1C⟩, ⟨3, 1, .RO, .RO⟩, ⟨4, 1, .RO, .RO⟩]
  | .CFG_FRD_DATA => [⟨0, 32, .RO, .RO⟩]
  | .CFG_TKH => [⟨0, 32, .RW, .RW⟩]
  | .CFG_TEK => [⟨0, 32, .WO, .WO⟩]
  | .SCB_CTL => [⟨0, 1, .RW, .RW⟩, ⟨1, 1, .RW, .RW⟩]
  | .SCB_FIXTMO => [⟨0, 16, .RW, .RW⟩]
  | .SCB_HF => [⟨0, 32, .RO, .RO⟩]
  | .SCB_UNR => [⟨0, 32, .RO, .RO⟩]
  | .SCB_HFS => [⟨0, 32, .RO, .RO⟩]
  | .SCB_UNRS => [⟨0, 32, .RO, .RO⟩]
  | .SCB_STAT => [⟨0, 16, .RO, .RO⟩, ⟨16, 1, .RO, .RO⟩, ⟨17, 1, .W1C, .W1C⟩, ⟨18, 1, .W1C, .W1C⟩]
  | .SCB_SBCNT => [⟨0, 32, .RC, .RC⟩]
  | .SCB_MBCNT => [⟨0, 32, .RC, .RC⟩]
  | .SCB_HFCNT => [⟨0, 32, .RC, .RC⟩]
  | .SCB_SKIP => [⟨0, 17, .RO, .RO⟩]
  | .SCB_EVT => [⟨0, 1, .W1C, .W1C⟩, ⟨1, 1, .W1C, .W1C⟩, ⟨2, 1, .W1C, .W1C⟩, ⟨3, 1, .W1C, .W1C⟩]
  | .SCB_EVEN => [⟨0, 1, .RW, .RW⟩, ⟨1, 1, .RW, .RW⟩, ⟨2, 1, .RW, .RW⟩, ⟨3, 1, .RW, .RW⟩]
  | .SCB_PEND => [⟨0, 5, .RO, .RO⟩, ⟨8, 5, .RO, .RO⟩]
  | .SCB_PSEL => [⟨0, 4, .RW, .RW⟩]
  | .SCB_PENT => [⟨0, 19, .RO, .RO⟩, ⟨20, 2, .RO, .RO⟩, ⟨22, 3, .RO, .RO⟩]
  | .SCB_FIXCMD => [⟨0, 19, .WO, .WO⟩, ⟨30, 1, .WO, .WO⟩, ⟨31, 1, .WO, .WO⟩]
  | .SCB_FIXSTAT => [⟨0, 1, .RO, .RO⟩, ⟨1, 1, .W1C, .W1C⟩, ⟨2, 1, .W1C, .W1C⟩, ⟨3, 1, .W1C, .W1C⟩]
  | .SCB_LOGCTL => [⟨0, 4, .RO, .RO⟩, ⟨4, 5, .RO, .RO⟩, ⟨31, 1, .WO, .WO⟩]
  | .SCB_LOST => [⟨0, 32, .RC, .RC⟩]
  | .SCB_FIX_DATA => [⟨0, 32, .WO, .WO⟩]
  | .SCB_LOG_W => match i % 4 with
    | 0 => [⟨0, 3, .RO, .RO⟩, ⟨3, 5, .RO, .RO⟩, ⟨8, 19, .RO, .RO⟩]
    | 1 => [⟨0, 13, .RO, .RO⟩, ⟨16, 16, .RO, .RO⟩]
    | 2 => [⟨0, 32, .RO, .RO⟩]
    | _ => [⟨0, 32, .RO, .RO⟩]
  | .KP_CORE_STAT => [⟨0, 2, .RO, .RO⟩, ⟨8, 2, .RO, .RO⟩, ⟨16, 2, .RO, .RO⟩, ⟨24, 2, .RO, .RO⟩, ⟨2, 1, .RO, .RO⟩, ⟨10, 1, .RO, .RO⟩, ⟨18, 1, .RO, .RO⟩, ⟨26, 1, .RO, .RO⟩]
  | .KP_LSCTL => [⟨0, 2, .RO, .RO⟩, ⟨2, 2, .RO, .RO⟩]
  | .KP_LSERR => [⟨0, 32, .RC, .RC⟩]
  | .KP_SRAM_CE => [⟨0, 32, .RC, .RC⟩]
  | .KP_SRAM_UE => [⟨0, 32, .RC, .RC⟩]
  | .KP_WDT_CTL => [⟨0, 5, .RW, .RW⟩, ⟨8, 1, .RW, .RW⟩]
  | .KP_WDT_KICK => [⟨0, 5, .WO, .WO⟩]
  | .KP_WDT_TMO => [⟨0, 24, .RW, .RW⟩]
  | .KP_WDT_CNT => [⟨0, 24, .RO, .RO⟩]
  | .KP_DMA_DESC => [⟨0, 21, .RW, .RW⟩]
  | .KP_DMA_STAT => [⟨0, 1, .RO, .RO⟩, ⟨1, 1, .W1C, .W1C⟩, ⟨8, 8, .RO, .RO⟩]
  | .WRD_STAT => [⟨0, 1, .W1S, .W1S⟩, ⟨1, 1, .W1S, .W1S⟩, ⟨2, 1, .W1C, .W1C⟩]
  | .WRD_GRTMO => [⟨0, 16, .RWL, .RWL⟩]
  | .WRD_THERM => [⟨0, 8, .RWL, .RWL⟩]
  | .WRD_THSTAT => [⟨0, 1, .RO, .RO⟩, ⟨1, 1, .RO, .RO⟩, ⟨4, 4, .RO, .RO⟩]
  | .WRD_PWR => [⟨0, 10, .RWL, .RWL⟩]
  | .WRD_PWRSTAT => [⟨0, 12, .RO, .RO⟩, ⟨16, 4, .RO, .RO⟩, ⟨20, 1, .W1C, .W1C⟩]
  | .WRD_TXCLAMP => [⟨0, 32, .RC, .RC⟩]
  | .WRD_TSENS => [⟨0, 12, .RO, .RO⟩]
  | .WRD_PINOWN => [⟨0, 4, .RWL, .RWL⟩, ⟨4, 4, .RWL, .RWL⟩, ⟨8, 4, .RWL, .RWL⟩, ⟨12, 4, .RWL, .RWL⟩, ⟨16, 4, .RWL, .RWL⟩, ⟨20, 4, .RWL, .RWL⟩, ⟨24, 4, .RWL, .RWL⟩, ⟨28, 4, .RWL, .RWL⟩]
  | .WRD_MSG => [⟨0, 8, .RWL, .RWL⟩, ⟨16, 10, .RWL, .RWL⟩]
  | .WRD_MSGSTAT => [⟨0, 32, .RC, .RC⟩]
  | .WRD_VIO => [⟨0, 32, .RO, .RO⟩]
  | .WRD_GRANT => [⟨0, 3, .RO, .RO⟩, ⟨8, 6, .RO, .RO⟩]
  | .WRD_LOGCTL => [⟨0, 5, .RO, .RO⟩, ⟨5, 6, .RO, .RO⟩, ⟨31, 1, .WO, .WO⟩]
  | .WRD_LOGLOST => [⟨0, 32, .RC, .RC⟩]
  | .WRD_LOG_W => match i % 4 with
    | 0 => [⟨0, 3, .RO, .RO⟩, ⟨3, 5, .RO, .RO⟩, ⟨8, 8, .RO, .RO⟩]
    | 1 => [⟨0, 32, .RO, .RO⟩]
    | 2 => [⟨0, 32, .RO, .RO⟩]
    | _ => [⟨0, 32, .RO, .RO⟩]
  | .WRD_HWIN => match i % 3 with
    | 0 => [⟨12, 20, .RO, .RO⟩, ⟨0, 1, .RO, .RO⟩, ⟨1, 1, .RO, .RO⟩, ⟨2, 1, .RO, .RO⟩]
    | 1 => [⟨0, 32, .RO, .RO⟩]
    | _ => [⟨0, 28, .RO, .RO⟩]
  | .SHX_IDENT => [⟨0, 8, .RO, .RO⟩, ⟨8, 4, .RO, .RO⟩, ⟨12, 1, .RO, .RO⟩]
  | .SHX_HSTAT => [⟨0, 1, .RO, .RW⟩, ⟨1, 1, .RO, .RO⟩, ⟨2, 1, .RO, .RO⟩, ⟨3, 1, .RO, .RW⟩, ⟨4, 1, .RO, .RO⟩, ⟨5, 1, .RO, .RW⟩, ⟨8, 9, .RO, .RW⟩]
  | .SHX_CTR_NEXT_LO => [⟨0, 32, .RO, .RW⟩]
  | .SHX_CTR_NEXT_HI => [⟨0, 32, .RO, .RW⟩]
  | .SHX_OWNER => [⟨0, 4, .RO, .RW⟩]
  | .SHX_MB_DB => [⟨0, 1, .WO, .RO⟩, ⟨1, 1, .WO, .RO⟩, ⟨2, 1, .RO, .WO⟩, ⟨3, 1, .RO, .WO⟩]
  | .SHX_MB_STAT => [⟨0, 2, .RO, .RO⟩, ⟨2, 1, .RO, .RO⟩, ⟨8, 1, .W1C, .RO⟩]
  | .SHX_MB_STAMP => [⟨0, 32, .RO, .RO⟩]
  | .SHX_CR_BASE_LO => [⟨12, 20, .RW, .RO⟩]
  | .SHX_CR_BASE_HI => [⟨0, 32, .RW, .RO⟩]
  | .SHX_CR_CTL => [⟨0, 1, .RW, .RO⟩, ⟨1, 1, .RW, .RO⟩, ⟨4, 5, .RW, .RO⟩]
  | .SHX_CR_HEAD => [⟨0, 16, .RW, .RO⟩]
  | .SHX_CR_TAIL => [⟨0, 16, .RO, .RW⟩, ⟨16, 1, .RO, .RW⟩]
  | .SHX_CR_STAT => [⟨0, 9, .RO, .RW⟩, ⟨16, 1, .W1C, .RW⟩, ⟨17, 1, .W1C, .RO⟩]
  | .SHX_MB_CMD => [⟨0, 32, .RW, .RO⟩]
  | .SHX_MB_RSP => [⟨0, 32, .RO, .RW⟩]
  | .SHX_HWIN => match i % 3 with
    | 0 => [⟨12, 20, .RW, .RO⟩, ⟨0, 1, .RW, .RO⟩, ⟨1, 1, .RW, .RO⟩, ⟨2, 1, .RW, .RO⟩]
    | 1 => [⟨0, 32, .RW, .RO⟩]
    | _ => [⟨0, 28, .RW, .RO⟩]
  | .SHX_GRANT => [⟨0, 3, .WO, .RO⟩, ⟨8, 6, .WO, .RO⟩]
  | .SHX_GRANTV => [⟨0, 32, .RO, .RO⟩]
  | .SHX_VBY => [⟨0, 32, .RO, .RO⟩]
  | .SHX_VON => [⟨0, 32, .RO, .RO⟩]
  | .SHX_WVIO => [⟨0, 32, .RO, .RO⟩]
  | .SHX_HF => [⟨0, 32, .RO, .RO⟩]
  | .SHX_UNR => [⟨0, 32, .RO, .RO⟩]
  | .SHX_HFS => [⟨0, 32, .RO, .RO⟩]
  | .SHX_UNRS => [⟨0, 32, .RO, .RO⟩]
  | .SHX_MSIX => [⟨0, 32, .RW, .RO⟩]
  | .SHX_MSIX_PBA => [⟨0, 32, .RO, .RO⟩]
  | .EVC_STAT => [⟨0, 1, .W1C, .W1C⟩, ⟨1, 1, .W1C, .W1C⟩, ⟨2, 1, .W1C, .W1C⟩]
  | .EVC_SWSET => [⟨0, 10, .WO, .WO⟩]
  | .EVC_DROP => [⟨0, 32, .RC, .RC⟩]
  | .EVC_CLAIM => [⟨0, 10, .RO, .RO⟩]
  | .EVC_COMPLETE => [⟨0, 10, .WO, .WO⟩]
  | .EVC_THR => [⟨0, 4, .RW, .RW⟩]
  | .EVC_CSTAT => [⟨0, 4, .RO, .RO⟩, ⟨4, 1, .RO, .RO⟩, ⟨5, 1, .RO, .RO⟩, ⟨6, 1, .RO, .RO⟩, ⟨7, 1, .RO, .RO⟩]
  | .EVC_PEEK => [⟨0, 10, .RO, .RO⟩]
  | .EVC_HOLD => [⟨0, 16, .RW, .RW⟩, ⟨16, 1, .RO, .RO⟩]
  | .EVC_TCH => [⟨0, 1, .RW, .RW⟩, ⟨1, 1, .RO, .RO⟩, ⟨2, 1, .RO, .RO⟩, ⟨8, 5, .RO, .RO⟩]
  | .EVC_PEND => [⟨0, 32, .RO, .RO⟩]
  | .EVC_ACT => [⟨0, 32, .RO, .RO⟩]
  | .EVC_SRC => [⟨0, 4, .RW, .RW⟩, ⟨4, 1, .RW, .RW⟩, ⟨5, 1, .RW, .RW⟩, ⟨8, 4, .RW, .RW⟩, ⟨12, 4, .RW, .RW⟩, ⟨16, 5, .RW, .RW⟩, ⟨24, 6, .RW, .RW⟩]
  | .PWR_RST_CAUSE => [⟨0, 3, .RO, .RO⟩, ⟨8, 5, .RO, .RO⟩]
  | .PWR_BOOTCNT => [⟨0, 16, .RO, .RO⟩]
  | .PWR_RST_CTL => [⟨0, 8, .WO, .WO⟩, ⟨8, 1, .WO, .WO⟩]
  | .PWR_SUP_STAT => [⟨0, 4, .RO, .RO⟩, ⟨4, 12, .RO, .RO⟩]
  | .PWR_EVT => [⟨0, 1, .W1C, .W1C⟩, ⟨1, 1, .W1C, .W1C⟩, ⟨2, 1, .W1C, .W1C⟩, ⟨3, 1, .W1C, .W1C⟩]
  | .PWR_EVEN => [⟨0, 1, .RW, .RW⟩, ⟨1, 1, .RW, .RW⟩, ⟨2, 1, .RW, .RW⟩, ⟨3, 1, .RW, .RW⟩]
  | .PWR_MODE_CTL => [⟨0, 1, .RW, .RW⟩, ⟨1, 1, .WO, .WO⟩, ⟨2, 7, .WO, .WO⟩, ⟨9, 1, .WO, .WO⟩]
  | .PWR_MODE_STAT => [⟨0, 3, .RO, .RO⟩, ⟨3, 1, .W1C, .W1C⟩, ⟨4, 1, .W1C, .W1C⟩, ⟨5, 1, .RO, .RO⟩, ⟨6, 1, .W1C, .W1C⟩, ⟨8, 7, .RO, .RO⟩]
  | .PWR_MODE_TMO => [⟨0, 16, .RW, .RW⟩]
  | .PWR_MODE_CHAN => [⟨0, 12, .RW, .RW⟩]
  | .PWR_DOM_TGT => List.take (if i = 1 then 28 else 32) [⟨0, 1, .RW, .RW⟩, ⟨1, 1, .RW, .RW⟩, ⟨2, 1, .RW, .RW⟩, ⟨3, 1, .RW, .RW⟩, ⟨4, 1, .RW, .RW⟩, ⟨5, 1, .RW, .RW⟩, ⟨6, 1, .RW, .RW⟩, ⟨7, 1, .RW, .RW⟩, ⟨8, 1, .RW, .RW⟩, ⟨9, 1, .RW, .RW⟩, ⟨10, 1, .RW, .RW⟩, ⟨11, 1, .RW, .RW⟩, ⟨12, 1, .RW, .RW⟩, ⟨13, 1, .RW, .RW⟩, ⟨14, 1, .RW, .RW⟩, ⟨15, 1, .RW, .RW⟩, ⟨16, 1, .RW, .RW⟩, ⟨17, 1, .RW, .RW⟩, ⟨18, 1, .RW, .RW⟩, ⟨19, 1, .RW, .RW⟩, ⟨20, 1, .RW, .RW⟩, ⟨21, 1, .RW, .RW⟩, ⟨22, 1, .RW, .RW⟩, ⟨23, 1, .RW, .RW⟩, ⟨24, 1, .RW, .RW⟩, ⟨25, 1, .RW, .RW⟩, ⟨26, 1, .RW, .RW⟩, ⟨27, 1, .RW, .RW⟩, ⟨28, 1, .RW, .RW⟩, ⟨29, 1, .RW, .RW⟩, ⟨30, 1, .RW, .RW⟩, ⟨31, 1, .RW, .RW⟩]
  | .PWR_DOM_STAT => [⟨0, 1, .RO, .RO⟩, ⟨1, 1, .RO, .RO⟩, ⟨2, 1, .RO, .RO⟩, ⟨3, 1, .RO, .RO⟩, ⟨4, 1, .RO, .RO⟩, ⟨5, 1, .RO, .RO⟩, ⟨6, 1, .RO, .RO⟩, ⟨7, 1, .RO, .RO⟩, ⟨8, 1, .RO, .RO⟩, ⟨9, 1, .RO, .RO⟩, ⟨10, 1, .RO, .RO⟩, ⟨11, 1, .RO, .RO⟩, ⟨12, 1, .RO, .RO⟩, ⟨13, 1, .RO, .RO⟩, ⟨14, 1, .RO, .RO⟩, ⟨15, 1, .RO, .RO⟩, ⟨16, 1, .RO, .RO⟩, ⟨17, 1, .RO, .RO⟩, ⟨18, 1, .RO, .RO⟩, ⟨19, 1, .RO, .RO⟩, ⟨20, 1, .RO, .RO⟩, ⟨21, 1, .RO, .RO⟩, ⟨22, 1, .RO, .RO⟩, ⟨23, 1, .RO, .RO⟩, ⟨24, 1, .RO, .RO⟩, ⟨25, 1, .RO, .RO⟩, ⟨26, 1, .RO, .RO⟩, ⟨27, 1, .RO, .RO⟩, ⟨28, 1, .RO, .RO⟩, ⟨29, 1, .RO, .RO⟩, ⟨30, 1, .RO, .RO⟩, ⟨31, 1, .RO, .RO⟩]
  | .PWR_MODE_UNIT => [⟨0, 4, .RO, .RO⟩, ⟨4, 4, .RO, .RO⟩, ⟨8, 4, .RO, .RO⟩, ⟨12, 4, .RO, .RO⟩, ⟨16, 4, .RO, .RO⟩, ⟨20, 4, .RO, .RO⟩, ⟨24, 4, .RO, .RO⟩, ⟨28, 4, .RO, .RO⟩]
  | .PWR_TRST_CMD => [⟨0, 4, .WO, .WO⟩, ⟨31, 1, .WO, .WO⟩]
  | .PWR_TRST_STAT => [⟨0, 1, .RO, .RO⟩, ⟨4, 4, .RO, .RO⟩]
  | .PWR_MNT_REQ => [⟨0, 4, .WO, .WO⟩, ⟨4, 12, .WO, .WO⟩, ⟨31, 1, .WO, .WO⟩]
  | .PWR_MNT_RESP => [⟨0, 6, .RO, .RO⟩, ⟨8, 2, .RO, .RO⟩]
  | .PWR_MNT_DONE => [⟨0, 6, .WO, .WO⟩]
  | .PWR_MNT_STAT => [⟨0, 7, .RO, .RO⟩, ⟨8, 7, .RO, .RO⟩]
  | .PWR_MNT_ENT => [⟨0, 4, .RO, .RO⟩, ⟨4, 12, .RO, .RO⟩, ⟨16, 2, .RO, .RO⟩, ⟨18, 1, .RO, .RO⟩]
  | .MGP_BOARD => [⟨0, 2, .RO, .RO⟩, ⟨2, 2, .RO, .RO⟩, ⟨4, 2, .RO, .RO⟩, ⟨6, 2, .RO, .RO⟩]
  | .MGP_STAT => [⟨0, 1, .RO, .RO⟩]
  | .MGP_PIN => [⟨0, 1, .RW, .RW⟩, ⟨1, 1, .RW, .RW⟩, ⟨2, 1, .RW, .RW⟩, ⟨3, 1, .RW, .RW⟩, ⟨4, 2, .RW, .RW⟩, ⟨6, 2, .RW, .RW⟩, ⟨8, 1, .RO, .RO⟩, ⟨9, 1, .RO, .RO⟩, ⟨10, 1, .RO, .RO⟩]
  | .MGP_IN => [⟨0, 32, .RO, .RO⟩]
  | .MGP_MAP => [⟨0, 6, .RW, .RW⟩, ⟨7, 1, .RW, .RW⟩]
  | .MGP_EVL => [⟨0, 2, .RW, .RW⟩, ⟨2, 3, .RW, .RW⟩, ⟨8, 4, .RW, .RW⟩]
  | .MGP_EVSTAT => [⟨0, 16, .W1C, .W1C⟩]
  | .MGP_I2CCTL => [⟨0, 1, .RW, .RW⟩, ⟨1, 2, .RW, .RW⟩, ⟨3, 1, .RW, .RW⟩]
  | .MGP_I2CCMD => [⟨0, 7, .WO, .WO⟩, ⟨8, 5, .WO, .WO⟩, ⟨16, 5, .WO, .WO⟩, ⟨24, 1, .WO, .WO⟩, ⟨25, 1, .WO, .WO⟩, ⟨31, 1, .WO, .WO⟩]
  | .MGP_I2CSTAT => [⟨0, 1, .RO, .RO⟩, ⟨1, 1, .W1C, .W1C⟩, ⟨2, 1, .W1C, .W1C⟩, ⟨3, 1, .W1C, .W1C⟩, ⟨4, 1, .W1C, .W1C⟩]
  | .MGP_I2CDATA => [⟨0, 32, .RW, .RW⟩]
  | .MGP_UARTCTL => [⟨0, 1, .RW, .RW⟩, ⟨1, 1, .RW, .RW⟩, ⟨8, 16, .RW, .RW⟩]
  | .MGP_UARTDATA => [⟨0, 8, .RW, .RW⟩]
  | .MGP_UARTSTAT => [⟨0, 5, .RO, .RO⟩, ⟨8, 5, .RO, .RO⟩, ⟨16, 1, .W1C, .W1C⟩, ⟨17, 1, .W1C, .W1C⟩]
  | .MGP_SPICTL => [⟨0, 1, .RW, .RW⟩, ⟨1, 2, .RW, .RW⟩, ⟨3, 1, .RW, .RW⟩, ⟨8, 8, .RW, .RW⟩]
  | .MGP_SPIDATA => [⟨0, 8, .RW, .RW⟩]
  | .MGP_SPISTAT => [⟨0, 1, .RO, .RO⟩]
  | .MGP_PWM => [⟨0, 8, .RW, .RW⟩, ⟨8, 16, .RW, .RW⟩, ⟨31, 1, .RW, .RW⟩]
  | .MGP_TACH => [⟨0, 24, .RO, .RO⟩]
  | .KH_ID => [⟨0, 8, .RO, .RO⟩, ⟨16, 16, .RO, .RO⟩]
  | .KH_SES => [⟨0, 1, .RO, .RO⟩, ⟨1, 2, .RO, .RO⟩, ⟨3, 1, .RO, .RO⟩, ⟨4, 2, .RO, .RO⟩]
  | .KH_STAT => [⟨0, 4, .RO, .RO⟩, ⟨8, 8, .RO, .RO⟩, ⟨16, 1, .W1C, .W1C⟩, ⟨17, 1, .W1C, .W1C⟩]
  | .KH_DAHI => [⟨0, 16, .RW, .RW⟩]
  | .KH_CHAL => [⟨0, 32, .RO, .RO⟩]
  | .KH_RESP => [⟨0, 32, .WO, .WO⟩]
  | .KH_AUTH => [⟨0, 2, .WO, .WO⟩, ⟨7, 1, .WO, .WO⟩, ⟨8, 8, .RO, .RO⟩, ⟨16, 1, .RO, .RO⟩]
  | .KH_CORE_CTL => [⟨0, 4, .WO, .WO⟩, ⟨4, 4, .WO, .WO⟩, ⟨8, 4, .WO, .WO⟩, ⟨12, 4, .RW, .RW⟩]
  | .KH_CORE_STAT => [⟨0, 4, .RO, .RO⟩, ⟨4, 4, .RO, .RO⟩]
  | .KH_PCS_LO => [⟨0, 32, .RO, .RO⟩]
  | .KH_PCS_HI => [⟨0, 32, .RO, .RO⟩]
  | .KH_CREG_SEL => [⟨0, 2, .RW, .RW⟩, ⟨2, 2, .RW, .RW⟩, ⟨4, 12, .RW, .RW⟩]
  | .KH_CREG_LO => [⟨0, 32, .RW, .RW⟩]
  | .KH_CREG_HI => [⟨0, 32, .RW, .RW⟩]
  | .KH_CREG_CMD => [⟨0, 1, .WO, .WO⟩, ⟨1, 1, .WO, .WO⟩]
  | .KH_TMB_CTL => [⟨0, 9, .WO, .WO⟩, ⟨16, 1, .WO, .WO⟩, ⟨17, 1, .WO, .WO⟩, ⟨18, 1, .WO, .WO⟩]
  | .KH_TMB_STAT => [⟨0, 9, .RO, .RO⟩, ⟨16, 3, .RO, .RO⟩, ⟨19, 1, .RO, .RO⟩]
  | .KH_TREG_SEL => [⟨0, 9, .RW, .RW⟩, ⟨9, 3, .RW, .RW⟩, ⟨12, 5, .RW, .RW⟩, ⟨17, 1, .RW, .RW⟩, ⟨18, 7, .RW, .RW⟩]
  | .KH_TREG_DATA => [⟨0, 32, .RW, .RW⟩]
  | .KH_TREG_CMD => [⟨0, 1, .WO, .WO⟩, ⟨1, 1, .WO, .WO⟩]
  | .KH_VT_TX => [⟨0, 32, .RW, .RW⟩]
  | .KH_VT_RX => [⟨0, 32, .RW, .RW⟩]
  | .KH_VT_STAT => [⟨0, 1, .RO, .RO⟩, ⟨1, 1, .RO, .RO⟩, ⟨2, 1, .W1C, .W1C⟩]
  | .KH_VT_EN => [⟨0, 1, .RW, .RW⟩, ⟨1, 1, .RW, .RW⟩]
  | .KH_IMG_CTL => [⟨0, 21, .RW, .RW⟩, ⟨30, 1, .RO, .RO⟩, ⟨31, 1, .RO, .RO⟩]
  | .KH_IMG_DATA => [⟨0, 32, .WO, .WO⟩]

/-- Sources 0 to 1023 have the group s >> 4 at reset; R428 gives sources 96 to 127 their own values. -/
def evcSrcReset (i : Nat) : Nat :=
  i / 16 * 0x1000000 + (if 96 ≤ i ∧ i < 128 then 0x20 + (i % 16) * 0x1000 + (i / 112) * 0x10000 else 0)

/-- The Reset column: the value after power-on reset (R11).  `strap` and `X` entries start at 0: DESIGN CHOICE, log entry 1. -/
def regResetNat (r : RegName) (i : Nat) : Nat :=
  match r with
  | .CLK_STRAP => 0
  | .CLK_ROOT_CFG => 0x40
  | .CLK_ROOT_STAT => 0x0
  | .CLK_ALIGN_ERR => 0x0
  | .CLK_MON_CTL => 0x3
  | .CLK_MON_STAT => 0x0
  | .CLK_MON_CAUSE => 0x0
  | .CLK_MON_FREQ => 0x0
  | .CLK_KCK_CTL => 0x8
  | .CLK_CCK_CTL => 0x10
  | .CLK_SW_STAT => 0x0
  | .CLK_LREF_STAT => 0x0
  | .CLK_DTC_INC => 0
  | .CLK_DTC_INC_HI => 0
  | .CLK_DTC_LO => 0x0
  | .CLK_DTC_HI => 0x0
  | .CLK_FCK => 0x4000400
  | .CLK_ECK => 0x400040
  | .CLK_MCK => 0x200020
  | .CLK_SGATE => 0x0
  | .KRV_CTL => 0x3
  | .KRV_TMO => 0x3e8
  | .KRV_KNK_THR => 0x110
  | .KRV_KNK_SPARE => 0x1f1f
  | .KRV_KNK_STAT => 0x20000
  | .KRV_KNK_ERR => 0x0
  | .KRV_ELOG0 => 0x0
  | .KRV_ELOG1 => 0x0
  | .KRV_ELOG2 => 0x0
  | .KRV_CRCDROP => 0x0
  | .KRV_LATE => 0x0
  | .KRV_AP => 0x0
  | .MEM_SCR_CTL => 0x61f
  | .MEM_SCR_PERIOD => 0x3e8
  | .MEM_SCR_STAT => 0x0
  | .MEM_CE_CNT => 0x0
  | .MEM_UE_CNT => 0x0
  | .MEM_BIST_STAT => 0x0
  | .MEM_LOG_CTL => 0x0
  | .MEM_LOG_LOST => 0x0
  | .MEM_LOG_W => 0
  | .MEM_BRAM => 0x0
  | .MEM_VAULT => 0x0
  | .MEM_TMB => 0x0
  | .MEM_RMP_SEL => 0x0
  | .MEM_RMP_DATA => 0x0
  | .MEM_RMP_CMD => 0x0
  | .MEM_RMP_STAT => 0x0
  | .CR_STATUS => 0x0
  | .CR_EVT => 0x0
  | .CR_EVMASK => 0x0
  | .CR_HVEC => 0x0
  | .CR_EPC => 0x0
  | .CR_NOUT => 0x0
  | .CR_NLOG => 0x0
  | .CR_SSTAT => 0x0
  | .CR_SEVSEL => 0x0
  | .CR_CYC => 0x0
  | .CR_TCMP => 0xffffffff
  | .CR_ENGID => i
  | .CR_JARG => 0x0
  | .CR_JINFO => 0x0
  | .CR_DBCAUSE => 0x0
  | .CR_DBADDR => 0x0
  | .CR_WOFF_LO => 0x0
  | .CR_WOFF_HI => 0x0
  | .CR_WRSP => 0x0
  | .CR_WSTAT => 0x0
  | .TMB_CFG => 0x0
  | .TMB_STAT => 0x0
  | .TMB_CTL => 0x0
  | .TMB_PC => 0x0
  | .TMB_TSIG => 0x0
  | .TMB_EVCAUSE => 0x0
  | .TMB_EVEN => 0x1f
  | .TMB_CR => 0
  | .TMB_SET_CFG => 0x0
  | .TMB_SET_INFO => 0x0
  | .TMB_SET_JOB => 0x0
  | .TMB_SET_TMO => 0x0
  | .TMB_SET_ARG => 0x0
  | .TMB_SET_JSTAT => 0x0
  | .TMB_SET_STOP => 0x0
  | .TMB_SET_DB => 0x0
  | .TMB_TW_CFG => 0xc000000
  | .TMB_TW_BASE_LO => 0x0
  | .TMB_TW_BASE_HI => 0x0
  | .TMB_TW_BOUND => 0xc8
  | .TMB_TW_SERVED => 0x0
  | .TMB_TW_OVERRUN => 0x0
  | .TMB_TW_NOTREADY => 0x0
  | .TMB_TW_LATE => 0x0
  | .TMB_TW_WRITES => 0x0
  | .LNK_PCFG => 0x0
  | .LNK_PSTAT => 0x0
  | .LNK_RET => 0x0
  | .LNK_TMO => 0x64
  | .LNK_HCTL => 0x1
  | .LNK_HCFG => 0x0
  | .LNK_HSTAT => 0x0
  | .LNK_HATT => 0x0
  | .LNK_HREC => 0x0
  | .LNK_HFEC => 0x0
  | .LNK_HREPLAY => 0x0
  | .LNK_HTHR => 0x8
  | .LNK_HEVT => 0x0
  | .LNK_HEVEN => 0x1f
  | .LNK_LSTAT => 0x0
  | .LNK_LERR => 0x0
  | .LNK_LTXEQ => 0x0
  | .LNK_LRXEQ => 0x0
  | .LNK_LLB => 0x0
  | .LNK_LLBERR => 0x0
  | .COH_CTL => 0x1f
  | .COH_BITMO => 0x64
  | .COH_PT_CMD => 0x0
  | .COH_PT_STAT => 0x0
  | .COH_PT_DATA0 => 0x0
  | .COH_PT_DATA1 => 0x0
  | .COH_PT_DATA2 => 0x0
  | .COH_XM_CMD => 0x0
  | .COH_XM_DATA0 => 0x0
  | .COH_XM_DATA1 => 0x0
  | .COH_XM_DATA2 => 0x0
  | .COH_EVT => 0x0
  | .COH_HEAD => 0x0
  | .COH_VBY => 0x0
  | .COH_VON => 0x0
  | .COH_DIR_OCC => 0x0
  | .COH_DIR_ALLOC => 0x0
  | .COH_DIR_EVICT => 0x0
  | .COH_DIR_PEND => 0x0
  | .COH_DIR_PERR => 0x0
  | .COH_DC_HIT => 0x0
  | .COH_DC_MISS => 0x0
  | .COH_DC_ERR => 0x0
  | .COH_VLOG_CTL => 0x0
  | .COH_VLOG_LOST => 0x0
  | .COH_VLOG_W => 0
  | .DDR_CFG => 0x0
  | .DDR_CTL => 0x2001
  | .DDR_STAT => 0x0
  | .DDR_ILV => 0x0
  | .DDR_ILVBASE => 0x0
  | .DDR_MAPCAP => 0x0
  | .DDR_SCHED => 0x1001030
  | .DDR_SRIDLE => 0x0
  | .DDR_HOLD_CTL => 0x0
  | .DDR_HOLD_STAT => 0x0
  | .DDR_PAT_CTL => 0x5a00001
  | .DDR_PAT_STAT => 0x0
  | .DDR_PAT_POS_LO => 0x0
  | .DDR_PAT_POS_HI => 0x0
  | .DDR_CE_CNT => 0x0
  | .DDR_UE_CNT => 0x0
  | .DDR_ECC_CTL => 0x1018
  | .DDR_DEVFAIL => 0x0
  | .DDR_ELOG_W => 0x0
  | .DDR_RMP_SEL => 0x0
  | .DDR_RMP_DATA0 => 0x0
  | .DDR_RMP_DATA1 => 0x0
  | .DDR_RMP_CMD => 0x0
  | .DDR_RMP_STAT => 0x0
  | .DDR_EVT => 0x0
  | .DDR_EVEN => 0xff
  | .DDR_TIM_ACT => 0
  | .DDR_TIM_SHADOW => 0
  | .DDR_TIM_SHCTL => 0x0
  | .DDR_TRN_CTL => 0x0
  | .DDR_TRN_STAT => 0x0
  | .DDR_TRN_ADDR => 0x0
  | .DDR_TRN_USER => 0x0
  | .DDR_TRN_ERR => 0x0
  | .DDR_DLY_SEL => 0x0
  | .DDR_DLY_DATA => 0x0
  | .DDR_RXEQ_DATA => 0x0
  | .DDR_MR_CMD => 0x0
  | .DDR_MR_DATA => 0x0
  | .CFG_BOOT_STAT => 0
  | .CFG_PINS => 0x0
  | .CFG_IDENT => 0x28f000a7
  | .CFG_REV => 0
  | .CFG_LDTMO => 0xa
  | .CFG_CMD => 0x0
  | .CFG_LDSTAT => 0x0
  | .CFG_LDERR => 0x0
  | .CFG_LDCNT => 0x0
  | .CFG_EVT => 0x0
  | .CFG_EVEN => 0x7
  | .CFG_RGN_CFG => 0x1f
  | .CFG_RGN_MASK0 => 0x0
  | .CFG_RGN_MASK1 => 0x0
  | .CFG_RGN_MASK2 => 0x0
  | .CFG_SECT => 0x80
  | .CFG_FRD_CMD => 0x0
  | .CFG_FRD_STAT => 0x0
  | .CFG_FRD_DATA => 0
  | .CFG_TKH => 0x0
  | .CFG_TEK => 0x0
  | .SCB_CTL => 0x0
  | .SCB_FIXTMO => 0x64
  | .SCB_HF => 0x0
  | .SCB_UNR => 0x0
  | .SCB_HFS => 0x0
  | .SCB_UNRS => 0x0
  | .SCB_STAT => 0x0
  | .SCB_SBCNT => 0x0
  | .SCB_MBCNT => 0x0
  | .SCB_HFCNT => 0x0
  | .SCB_SKIP => 0x0
  | .SCB_EVT => 0x0
  | .SCB_EVEN => 0xe
  | .SCB_PEND => 0x0
  | .SCB_PSEL => 0x0
  | .SCB_PENT => 0x0
  | .SCB_FIXCMD => 0x0
  | .SCB_FIXSTAT => 0x0
  | .SCB_LOGCTL => 0x0
  | .SCB_LOST => 0x0
  | .SCB_FIX_DATA => 0x0
  | .SCB_LOG_W => 0
  | .KP_CORE_STAT => 0x0
  | .KP_LSCTL => 0x3
  | .KP_LSERR => 0x0
  | .KP_SRAM_CE => 0x0
  | .KP_SRAM_UE => 0x0
  | .KP_WDT_CTL => 0x100
  | .KP_WDT_KICK => 0x0
  | .KP_WDT_TMO => 0x3e8
  | .KP_WDT_CNT => 0x0
  | .KP_DMA_DESC => 0x0
  | .KP_DMA_STAT => 0x0
  | .WRD_STAT => 0x0
  | .WRD_GRTMO => 0x3e8
  | .WRD_THERM => 0x64
  | .WRD_THSTAT => 0x0
  | .WRD_PWR => 0x1e0
  | .WRD_PWRSTAT => 0x0
  | .WRD_TXCLAMP => 0x0
  | .WRD_TSENS => 0x0
  | .WRD_PINOWN => 0x0
  | .WRD_MSG => 0x400080
  | .WRD_MSGSTAT => 0x0
  | .WRD_VIO => 0x0
  | .WRD_GRANT => 0x0
  | .WRD_LOGCTL => 0x0
  | .WRD_LOGLOST => 0x0
  | .WRD_LOG_W => 0
  | .WRD_HWIN => 0x0
  | .SHX_IDENT => 1 + 0x100 * i
  | .SHX_HSTAT => 0x0
  | .SHX_CTR_NEXT_LO => 0x0
  | .SHX_CTR_NEXT_HI => 0x0
  | .SHX_OWNER => 0x0
  | .SHX_MB_DB => 0x0
  | .SHX_MB_STAT => 0x0
  | .SHX_MB_STAMP => 0x0
  | .SHX_CR_BASE_LO => 0x0
  | .SHX_CR_BASE_HI => 0x0
  | .SHX_CR_CTL => 0x40
  | .SHX_CR_HEAD => 0x0
  | .SHX_CR_TAIL => 0x10000
  | .SHX_CR_STAT => 0x0
  | .SHX_MB_CMD => 0x0
  | .SHX_MB_RSP => 0x0
  | .SHX_HWIN => 0x0
  | .SHX_GRANT => 0x0
  | .SHX_GRANTV => 0x0
  | .SHX_VBY => 0x0
  | .SHX_VON => 0x0
  | .SHX_WVIO => 0x0
  | .SHX_HF => 0x0
  | .SHX_UNR => 0x0
  | .SHX_HFS => 0x0
  | .SHX_UNRS => 0x0
  | .SHX_MSIX => if i % 4 = 3 then 1 else 0
  | .SHX_MSIX_PBA => 0x0
  | .EVC_STAT => 0x0
  | .EVC_SWSET => 0x0
  | .EVC_DROP => 0x0
  | .EVC_CLAIM => 0x3ff
  | .EVC_COMPLETE => 0x0
  | .EVC_THR => 0x0
  | .EVC_CSTAT => 0x0
  | .EVC_PEEK => 0x3ff
  | .EVC_HOLD => 0x0
  | .EVC_TCH => 0x0
  | .EVC_PEND => 0x0
  | .EVC_ACT => 0x0
  | .EVC_SRC => evcSrcReset i
  | .PWR_RST_CAUSE => 0x0
  | .PWR_BOOTCNT => 0x0
  | .PWR_RST_CTL => 0x0
  | .PWR_SUP_STAT => 0x0
  | .PWR_EVT => 0x0
  | .PWR_EVEN => 0xf
  | .PWR_MODE_CTL => 0x0
  | .PWR_MODE_STAT => 0x7F00
  | .PWR_MODE_TMO => 0x64
  | .PWR_MODE_CHAN => 0x0
  | .PWR_DOM_TGT => if i = 0 then 0xFFFFFFFF else 0x0FFFFFFF
  | .PWR_DOM_STAT => 0x0
  | .PWR_MODE_UNIT => 0x0
  | .PWR_TRST_CMD => 0x0
  | .PWR_TRST_STAT => 0x0
  | .PWR_MNT_REQ => 0x0
  | .PWR_MNT_RESP => 0x0
  | .PWR_MNT_DONE => 0x0
  | .PWR_MNT_STAT => 0x0
  | .PWR_MNT_ENT => 0x0
  | .MGP_BOARD => 0xe4
  | .MGP_STAT => 0x0
  | .MGP_PIN => 0x50
  | .MGP_IN => 0x0
  | .MGP_MAP => 0x0
  | .MGP_EVL => 0x0
  | .MGP_EVSTAT => 0x0
  | .MGP_I2CCTL => 0x0
  | .MGP_I2CCMD => 0x0
  | .MGP_I2CSTAT => 0x0
  | .MGP_I2CDATA => 0x0
  | .MGP_UARTCTL => 0x0
  | .MGP_UARTDATA => 0x0
  | .MGP_UARTSTAT => 0x0
  | .MGP_SPICTL => 0x0
  | .MGP_SPIDATA => 0x0
  | .MGP_SPISTAT => 0x0
  | .MGP_PWM => 0x0
  | .MGP_TACH => 0x0
  | .KH_ID => 0x28f00001
  | .KH_SES => 0x0
  | .KH_STAT => 0x0
  | .KH_DAHI => 0x0
  | .KH_CHAL => 0
  | .KH_RESP => 0x0
  | .KH_AUTH => 0x0
  | .KH_CORE_CTL => 0x0
  | .KH_CORE_STAT => 0x0
  | .KH_PCS_LO => 0x0
  | .KH_PCS_HI => 0x0
  | .KH_CREG_SEL => 0x0
  | .KH_CREG_LO => 0x0
  | .KH_CREG_HI => 0x0
  | .KH_CREG_CMD => 0x0
  | .KH_TMB_CTL => 0x0
  | .KH_TMB_STAT => 0x0
  | .KH_TREG_SEL => 0x0
  | .KH_TREG_DATA => 0x0
  | .KH_TREG_CMD => 0x0
  | .KH_VT_TX => 0x0
  | .KH_VT_RX => 0x0
  | .KH_VT_STAT => 0x0
  | .KH_VT_EN => 0x0
  | .KH_IMG_CTL => 0x0
  | .KH_IMG_DATA => 0x0

/-- A row of a register table: the block's base, the first copy's offset, and for each number in the name how many
copies it counts and how far apart they lie. -/
structure RegRow where
  reg : RegName
  base : Nat
  off : Nat
  dims : List (Nat × Nat)
deriving DecidableEq, Repr

/-- The rows of the CLK block. -/
def regRowsCLK : List RegRow := [
  ⟨.CLK_STRAP, 0xc0000200000, 0x0, []⟩,
  ⟨.CLK_ROOT_CFG, 0xc0000200000, 0x4, []⟩,
  ⟨.CLK_ROOT_STAT, 0xc0000200000, 0x8, []⟩,
  ⟨.CLK_ALIGN_ERR, 0xc0000200000, 0xc, []⟩,
  ⟨.CLK_MON_CTL, 0xc0000200000, 0x10, []⟩,
  ⟨.CLK_MON_STAT, 0xc0000200000, 0x14, []⟩,
  ⟨.CLK_MON_CAUSE, 0xc0000200000, 0x18, []⟩,
  ⟨.CLK_MON_FREQ, 0xc0000200000, 0x1c, []⟩,
  ⟨.CLK_KCK_CTL, 0xc0000200000, 0x20, []⟩,
  ⟨.CLK_CCK_CTL, 0xc0000200000, 0x24, []⟩,
  ⟨.CLK_SW_STAT, 0xc0000200000, 0x28, []⟩,
  ⟨.CLK_LREF_STAT, 0xc0000200000, 0x2c, []⟩,
  ⟨.CLK_DTC_INC, 0xc0000200000, 0x30, []⟩,
  ⟨.CLK_DTC_INC_HI, 0xc0000200000, 0x34, []⟩,
  ⟨.CLK_DTC_LO, 0xc0000200000, 0x38, []⟩,
  ⟨.CLK_DTC_HI, 0xc0000200000, 0x3c, []⟩,
  ⟨.CLK_FCK, 0xc0000200000, 0x100, [(32, 4)]⟩,
  ⟨.CLK_ECK, 0xc0000200000, 0x180, [(4, 4)]⟩,
  ⟨.CLK_MCK, 0xc0000200000, 0x1c0, [(12, 4)]⟩,
  ⟨.CLK_SGATE, 0xc0000200000, 0x1000, [(320, 4)]⟩]

/-- The rows of the KRV block. -/
def regRowsKRV : List RegRow := [
  ⟨.KRV_CTL, 0xc0000700000, 0x0, []⟩,
  ⟨.KRV_TMO, 0xc0000700000, 0x4, []⟩,
  ⟨.KRV_KNK_THR, 0xc0000700000, 0x8, []⟩,
  ⟨.KRV_KNK_SPARE, 0xc0000700000, 0x10, [(4, 4)]⟩,
  ⟨.KRV_KNK_STAT, 0xc0000700000, 0x20, [(4, 4)]⟩,
  ⟨.KRV_KNK_ERR, 0xc0000700000, 0x30, [(4, 4)]⟩,
  ⟨.KRV_ELOG0, 0xc0000700000, 0x40, []⟩,
  ⟨.KRV_ELOG1, 0xc0000700000, 0x44, []⟩,
  ⟨.KRV_ELOG2, 0xc0000700000, 0x48, []⟩,
  ⟨.KRV_CRCDROP, 0xc0000700000, 0x4c, []⟩,
  ⟨.KRV_LATE, 0xc0000700000, 0x50, []⟩,
  ⟨.KRV_AP, 0xc0000700000, 0x1000, [(640, 4)]⟩]

/-- The rows of the MEM block. -/
def regRowsMEM : List RegRow := [
  ⟨.MEM_SCR_CTL, 0xc0000600000, 0x0, [(4, 256)]⟩,
  ⟨.MEM_SCR_PERIOD, 0xc0000600000, 0x4, [(4, 256)]⟩,
  ⟨.MEM_SCR_STAT, 0xc0000600000, 0x8, [(4, 256)]⟩,
  ⟨.MEM_CE_CNT, 0xc0000600000, 0xc, [(4, 256)]⟩,
  ⟨.MEM_UE_CNT, 0xc0000600000, 0x10, [(4, 256)]⟩,
  ⟨.MEM_BIST_STAT, 0xc0000600000, 0x14, [(4, 256)]⟩,
  ⟨.MEM_LOG_CTL, 0xc0000600000, 0x18, [(4, 256)]⟩,
  ⟨.MEM_LOG_LOST, 0xc0000600000, 0x1c, [(4, 256)]⟩,
  ⟨.MEM_LOG_W, 0xc0000600000, 0x1000, [(4, 1024), (16, 16), (4, 4)]⟩,
  ⟨.MEM_BRAM, 0xc0000600000, 0x10000, [(5120, 4)]⟩,
  ⟨.MEM_VAULT, 0xc0000600000, 0x18000, [(640, 4)]⟩,
  ⟨.MEM_TMB, 0xc0000600000, 0x19000, [(512, 4)]⟩,
  ⟨.MEM_RMP_SEL, 0xc0000600000, 0x20000, []⟩,
  ⟨.MEM_RMP_DATA, 0xc0000600000, 0x20004, []⟩,
  ⟨.MEM_RMP_CMD, 0xc0000600000, 0x20008, []⟩,
  ⟨.MEM_RMP_STAT, 0xc0000600000, 0x2000c, []⟩]

/-- The rows of the TMB block. -/
def regRowsTMB : List RegRow := [
  ⟨.TMB_CFG, 0xc0000800000, 0x0, [(512, 1024)]⟩,
  ⟨.TMB_STAT, 0xc0000800000, 0x4, [(512, 1024)]⟩,
  ⟨.TMB_CTL, 0xc0000800000, 0x8, [(512, 1024)]⟩,
  ⟨.TMB_PC, 0xc0000800000, 0xc, [(512, 1024)]⟩,
  ⟨.TMB_TSIG, 0xc0000800000, 0x10, [(512, 1024)]⟩,
  ⟨.TMB_EVCAUSE, 0xc0000800000, 0x14, [(512, 1024)]⟩,
  ⟨.TMB_EVEN, 0xc0000800000, 0x18, [(512, 1024)]⟩,
  ⟨.TMB_CR, 0xc0000800000, 0x100, [(512, 1024), (32, 4)]⟩,
  ⟨.TMB_SET_CFG, 0xc0000800000, 0x200, [(64, 1024)]⟩,
  ⟨.TMB_SET_INFO, 0xc0000800000, 0x204, [(64, 1024)]⟩,
  ⟨.TMB_SET_JOB, 0xc0000800000, 0x208, [(64, 1024)]⟩,
  ⟨.TMB_SET_TMO, 0xc0000800000, 0x20c, [(64, 1024)]⟩,
  ⟨.TMB_SET_ARG, 0xc0000800000, 0x210, [(64, 1024), (4, 4)]⟩,
  ⟨.TMB_SET_JSTAT, 0xc0000800000, 0x220, [(64, 1024)]⟩,
  ⟨.TMB_SET_STOP, 0xc0000800000, 0x224, [(64, 1024)]⟩,
  ⟨.TMB_SET_DB, 0xc0000800000, 0x228, [(64, 1024)]⟩,
  ⟨.TMB_TW_CFG, 0xc0000800000, 0x280, [(16, 1024)]⟩,
  ⟨.TMB_TW_BASE_LO, 0xc0000800000, 0x284, [(16, 1024)]⟩,
  ⟨.TMB_TW_BASE_HI, 0xc0000800000, 0x288, [(16, 1024)]⟩,
  ⟨.TMB_TW_BOUND, 0xc0000800000, 0x28c, [(16, 1024)]⟩,
  ⟨.TMB_TW_SERVED, 0xc0000800000, 0x290, [(16, 1024)]⟩,
  ⟨.TMB_TW_OVERRUN, 0xc0000800000, 0x294, [(16, 1024)]⟩,
  ⟨.TMB_TW_NOTREADY, 0xc0000800000, 0x298, [(16, 1024)]⟩,
  ⟨.TMB_TW_LATE, 0xc0000800000, 0x29c, [(16, 1024)]⟩,
  ⟨.TMB_TW_WRITES, 0xc0000800000, 0x2a0, [(16, 1024)]⟩]

/-- The rows of the LNK block. -/
def regRowsLNK : List RegRow := [
  ⟨.LNK_PCFG, 0xc0000900000, 0x0, [(8, 65536)]⟩,
  ⟨.LNK_PSTAT, 0xc0000900000, 0x4, [(8, 65536)]⟩,
  ⟨.LNK_RET, 0xc0000900000, 0x8, [(8, 65536)]⟩,
  ⟨.LNK_TMO, 0xc0000900000, 0xc, [(8, 65536)]⟩,
  ⟨.LNK_HCTL, 0xc0000900000, 0x100, [(8, 65536), (2, 64)]⟩,
  ⟨.LNK_HCFG, 0xc0000900000, 0x104, [(8, 65536), (2, 64)]⟩,
  ⟨.LNK_HSTAT, 0xc0000900000, 0x108, [(8, 65536), (2, 64)]⟩,
  ⟨.LNK_HATT, 0xc0000900000, 0x10c, [(8, 65536), (2, 64)]⟩,
  ⟨.LNK_HREC, 0xc0000900000, 0x110, [(8, 65536), (2, 64)]⟩,
  ⟨.LNK_HFEC, 0xc0000900000, 0x114, [(8, 65536), (2, 64)]⟩,
  ⟨.LNK_HREPLAY, 0xc0000900000, 0x118, [(8, 65536), (2, 64)]⟩,
  ⟨.LNK_HTHR, 0xc0000900000, 0x11c, [(8, 65536), (2, 64)]⟩,
  ⟨.LNK_HEVT, 0xc0000900000, 0x120, [(8, 65536), (2, 64)]⟩,
  ⟨.LNK_HEVEN, 0xc0000900000, 0x124, [(8, 65536), (2, 64)]⟩,
  ⟨.LNK_LSTAT, 0xc0000900000, 0x1000, [(8, 65536), (16, 32)]⟩,
  ⟨.LNK_LERR, 0xc0000900000, 0x1004, [(8, 65536), (16, 32)]⟩,
  ⟨.LNK_LTXEQ, 0xc0000900000, 0x1008, [(8, 65536), (16, 32)]⟩,
  ⟨.LNK_LRXEQ, 0xc0000900000, 0x100c, [(8, 65536), (16, 32)]⟩,
  ⟨.LNK_LLB, 0xc0000900000, 0x1010, [(8, 65536), (16, 32)]⟩,
  ⟨.LNK_LLBERR, 0xc0000900000, 0x1014, [(8, 65536), (16, 32)]⟩]

/-- The rows of the COH block. -/
def regRowsCOH : List RegRow := [
  ⟨.COH_CTL, 0xc0000a00000, 0x0, []⟩,
  ⟨.COH_BITMO, 0xc0000a00000, 0x4, []⟩,
  ⟨.COH_PT_CMD, 0xc0000a00000, 0x10, []⟩,
  ⟨.COH_PT_STAT, 0xc0000a00000, 0x14, []⟩,
  ⟨.COH_PT_DATA0, 0xc0000a00000, 0x18, []⟩,
  ⟨.COH_PT_DATA1, 0xc0000a00000, 0x1c, []⟩,
  ⟨.COH_PT_DATA2, 0xc0000a00000, 0x20, []⟩,
  ⟨.COH_XM_CMD, 0xc0000a00000, 0x30, []⟩,
  ⟨.COH_XM_DATA0, 0xc0000a00000, 0x34, []⟩,
  ⟨.COH_XM_DATA1, 0xc0000a00000, 0x38, []⟩,
  ⟨.COH_XM_DATA2, 0xc0000a00000, 0x3c, []⟩,
  ⟨.COH_EVT, 0xc0000a00000, 0x40, []⟩,
  ⟨.COH_HEAD, 0xc0000a00000, 0x100, [(16, 4)]⟩,
  ⟨.COH_VBY, 0xc0000a00000, 0x140, [(16, 4)]⟩,
  ⟨.COH_VON, 0xc0000a00000, 0x180, [(16, 4)]⟩,
  ⟨.COH_DIR_OCC, 0xc0000a00000, 0x200, [(4, 32)]⟩,
  ⟨.COH_DIR_ALLOC, 0xc0000a00000, 0x204, [(4, 32)]⟩,
  ⟨.COH_DIR_EVICT, 0xc0000a00000, 0x208, [(4, 32)]⟩,
  ⟨.COH_DIR_PEND, 0xc0000a00000, 0x20c, [(4, 32)]⟩,
  ⟨.COH_DIR_PERR, 0xc0000a00000, 0x210, [(4, 32)]⟩,
  ⟨.COH_DC_HIT, 0xc0000a00000, 0x300, [(8, 16)]⟩,
  ⟨.COH_DC_MISS, 0xc0000a00000, 0x304, [(8, 16)]⟩,
  ⟨.COH_DC_ERR, 0xc0000a00000, 0x308, [(8, 16)]⟩,
  ⟨.COH_VLOG_CTL, 0xc0000a00000, 0x400, []⟩,
  ⟨.COH_VLOG_LOST, 0xc0000a00000, 0x404, []⟩,
  ⟨.COH_VLOG_W, 0xc0000a00000, 0x1000, [(32, 32), (6, 4)]⟩]

/-- The rows of the DDR block. -/
def regRowsDDR : List RegRow := [
  ⟨.DDR_CFG, 0xc0000b00000, 0x0, [(12, 65536)]⟩,
  ⟨.DDR_CTL, 0xc0000b00000, 0x4, [(12, 65536)]⟩,
  ⟨.DDR_STAT, 0xc0000b00000, 0x8, [(12, 65536)]⟩,
  ⟨.DDR_ILV, 0xc0000b00000, 0xc, [(12, 65536)]⟩,
  ⟨.DDR_ILVBASE, 0xc0000b00000, 0x10, [(12, 65536)]⟩,
  ⟨.DDR_MAPCAP, 0xc0000b00000, 0x14, [(12, 65536)]⟩,
  ⟨.DDR_SCHED, 0xc0000b00000, 0x18, [(12, 65536)]⟩,
  ⟨.DDR_SRIDLE, 0xc0000b00000, 0x1c, [(12, 65536)]⟩,
  ⟨.DDR_HOLD_CTL, 0xc0000b00000, 0x20, [(12, 65536)]⟩,
  ⟨.DDR_HOLD_STAT, 0xc0000b00000, 0x24, [(12, 65536)]⟩,
  ⟨.DDR_PAT_CTL, 0xc0000b00000, 0x40, [(12, 65536)]⟩,
  ⟨.DDR_PAT_STAT, 0xc0000b00000, 0x44, [(12, 65536)]⟩,
  ⟨.DDR_PAT_POS_LO, 0xc0000b00000, 0x48, [(12, 65536)]⟩,
  ⟨.DDR_PAT_POS_HI, 0xc0000b00000, 0x4c, [(12, 65536)]⟩,
  ⟨.DDR_CE_CNT, 0xc0000b00000, 0x50, [(12, 65536)]⟩,
  ⟨.DDR_UE_CNT, 0xc0000b00000, 0x54, [(12, 65536)]⟩,
  ⟨.DDR_ECC_CTL, 0xc0000b00000, 0x58, [(12, 65536)]⟩,
  ⟨.DDR_DEVFAIL, 0xc0000b00000, 0x5c, [(12, 65536)]⟩,
  ⟨.DDR_ELOG_W, 0xc0000b00000, 0x60, [(12, 65536), (4, 4)]⟩,
  ⟨.DDR_RMP_SEL, 0xc0000b00000, 0x80, [(12, 65536)]⟩,
  ⟨.DDR_RMP_DATA0, 0xc0000b00000, 0x84, [(12, 65536)]⟩,
  ⟨.DDR_RMP_DATA1, 0xc0000b00000, 0x88, [(12, 65536)]⟩,
  ⟨.DDR_RMP_CMD, 0xc0000b00000, 0x8c, [(12, 65536)]⟩,
  ⟨.DDR_RMP_STAT, 0xc0000b00000, 0x90, [(12, 65536)]⟩,
  ⟨.DDR_EVT, 0xc0000b00000, 0xa0, [(12, 65536)]⟩,
  ⟨.DDR_EVEN, 0xc0000b00000, 0xa4, [(12, 65536)]⟩,
  ⟨.DDR_TIM_ACT, 0xc0000b00000, 0x100, [(12, 65536), (8, 4)]⟩,
  ⟨.DDR_TIM_SHADOW, 0xc0000b00000, 0x120, [(12, 65536), (8, 4)]⟩,
  ⟨.DDR_TIM_SHCTL, 0xc0000b00000, 0x140, [(12, 65536)]⟩,
  ⟨.DDR_TRN_CTL, 0xc0000b00000, 0x200, [(12, 65536)]⟩,
  ⟨.DDR_TRN_STAT, 0xc0000b00000, 0x204, [(12, 65536)]⟩,
  ⟨.DDR_TRN_ADDR, 0xc0000b00000, 0x208, [(12, 65536)]⟩,
  ⟨.DDR_TRN_USER, 0xc0000b00000, 0x240, [(12, 65536), (16, 4)]⟩,
  ⟨.DDR_TRN_ERR, 0xc0000b00000, 0x300, [(12, 65536), (80, 4)]⟩,
  ⟨.DDR_DLY_SEL, 0xc0000b00000, 0x500, [(12, 65536)]⟩,
  ⟨.DDR_DLY_DATA, 0xc0000b00000, 0x504, [(12, 65536)]⟩,
  ⟨.DDR_RXEQ_DATA, 0xc0000b00000, 0x508, [(12, 65536)]⟩,
  ⟨.DDR_MR_CMD, 0xc0000b00000, 0x510, [(12, 65536)]⟩,
  ⟨.DDR_MR_DATA, 0xc0000b00000, 0x514, [(12, 65536)]⟩]

/-- The rows of the CFG block. -/
def regRowsCFG : List RegRow := [
  ⟨.CFG_BOOT_STAT, 0xc0000400000, 0x0, []⟩,
  ⟨.CFG_PINS, 0xc0000400000, 0x4, []⟩,
  ⟨.CFG_IDENT, 0xc0000400000, 0x8, []⟩,
  ⟨.CFG_REV, 0xc0000400000, 0xc, []⟩,
  ⟨.CFG_LDTMO, 0xc0000400000, 0x10, []⟩,
  ⟨.CFG_CMD, 0xc0000400000, 0x100, [(4, 32)]⟩,
  ⟨.CFG_LDSTAT, 0xc0000400000, 0x104, [(4, 32)]⟩,
  ⟨.CFG_LDERR, 0xc0000400000, 0x108, [(4, 32)]⟩,
  ⟨.CFG_LDCNT, 0xc0000400000, 0x10c, [(4, 32)]⟩,
  ⟨.CFG_EVT, 0xc0000400000, 0x110, [(4, 32)]⟩,
  ⟨.CFG_EVEN, 0xc0000400000, 0x114, [(4, 32)]⟩,
  ⟨.CFG_RGN_CFG, 0xc0000400000, 0x400, [(64, 16)]⟩,
  ⟨.CFG_RGN_MASK0, 0xc0000400000, 0x404, [(64, 16)]⟩,
  ⟨.CFG_RGN_MASK1, 0xc0000400000, 0x408, [(64, 16)]⟩,
  ⟨.CFG_RGN_MASK2, 0xc0000400000, 0x40c, [(64, 16)]⟩,
  ⟨.CFG_SECT, 0xc0000400000, 0x800, [(320, 4)]⟩,
  ⟨.CFG_FRD_CMD, 0xc0000400000, 0x1000, []⟩,
  ⟨.CFG_FRD_STAT, 0xc0000400000, 0x1004, []⟩,
  ⟨.CFG_FRD_DATA, 0xc0000400000, 0x1100, [(129, 4)]⟩,
  ⟨.CFG_TKH, 0xc0000400000, 0x2000, [(16, 64), (12, 4)]⟩,
  ⟨.CFG_TEK, 0xc0000400000, 0x3000, [(16, 32), (8, 4)]⟩]

/-- The rows of the SCB block. -/
def regRowsSCB : List RegRow := [
  ⟨.SCB_CTL, 0xc0000500000, 0x0, []⟩,
  ⟨.SCB_FIXTMO, 0xc0000500000, 0x4, []⟩,
  ⟨.SCB_HF, 0xc0000500000, 0x10, [(16, 4)]⟩,
  ⟨.SCB_UNR, 0xc0000500000, 0x50, [(16, 4)]⟩,
  ⟨.SCB_HFS, 0xc0000500000, 0x90, []⟩,
  ⟨.SCB_UNRS, 0xc0000500000, 0x94, []⟩,
  ⟨.SCB_STAT, 0xc0000500000, 0x100, [(4, 64)]⟩,
  ⟨.SCB_SBCNT, 0xc0000500000, 0x104, [(4, 64)]⟩,
  ⟨.SCB_MBCNT, 0xc0000500000, 0x108, [(4, 64)]⟩,
  ⟨.SCB_HFCNT, 0xc0000500000, 0x10c, [(4, 64)]⟩,
  ⟨.SCB_SKIP, 0xc0000500000, 0x110, [(4, 64)]⟩,
  ⟨.SCB_EVT, 0xc0000500000, 0x114, [(4, 64)]⟩,
  ⟨.SCB_EVEN, 0xc0000500000, 0x118, [(4, 64)]⟩,
  ⟨.SCB_PEND, 0xc0000500000, 0x11c, [(4, 64)]⟩,
  ⟨.SCB_PSEL, 0xc0000500000, 0x120, [(4, 64)]⟩,
  ⟨.SCB_PENT, 0xc0000500000, 0x124, [(4, 64)]⟩,
  ⟨.SCB_FIXCMD, 0xc0000500000, 0x128, [(4, 64)]⟩,
  ⟨.SCB_FIXSTAT, 0xc0000500000, 0x12c, [(4, 64)]⟩,
  ⟨.SCB_LOGCTL, 0xc0000500000, 0x130, [(4, 64)]⟩,
  ⟨.SCB_LOST, 0xc0000500000, 0x134, [(4, 64)]⟩,
  ⟨.SCB_FIX_DATA, 0xc0000500000, 0x1000, [(4, 1024), (129, 4)]⟩,
  ⟨.SCB_LOG_W, 0xc0000500000, 0x2000, [(4, 256), (16, 16), (4, 4)]⟩]

/-- The rows of the KP block. -/
def regRowsKP : List RegRow := [
  ⟨.KP_CORE_STAT, 0xc0000000000, 0x0, []⟩,
  ⟨.KP_LSCTL, 0xc0000000000, 0x4, []⟩,
  ⟨.KP_LSERR, 0xc0000000000, 0x8, []⟩,
  ⟨.KP_SRAM_CE, 0xc0000000000, 0xc, []⟩,
  ⟨.KP_SRAM_UE, 0xc0000000000, 0x10, []⟩,
  ⟨.KP_WDT_CTL, 0xc0000000000, 0x20, []⟩,
  ⟨.KP_WDT_KICK, 0xc0000000000, 0x24, []⟩,
  ⟨.KP_WDT_TMO, 0xc0000000000, 0x30, [(5, 4)]⟩,
  ⟨.KP_WDT_CNT, 0xc0000000000, 0x50, [(5, 4)]⟩,
  ⟨.KP_DMA_DESC, 0xc0000000000, 0x100, [(8, 8)]⟩,
  ⟨.KP_DMA_STAT, 0xc0000000000, 0x104, [(8, 8)]⟩]

/-- The rows of the WRD block. -/
def regRowsWRD : List RegRow := [
  ⟨.WRD_STAT, 0xc0000c00000, 0x0, []⟩,
  ⟨.WRD_GRTMO, 0xc0000c00000, 0x4, []⟩,
  ⟨.WRD_THERM, 0xc0000c00000, 0x8, []⟩,
  ⟨.WRD_THSTAT, 0xc0000c00000, 0xc, []⟩,
  ⟨.WRD_PWR, 0xc0000c00000, 0x10, []⟩,
  ⟨.WRD_PWRSTAT, 0xc0000c00000, 0x14, []⟩,
  ⟨.WRD_TXCLAMP, 0xc0000c00000, 0x18, []⟩,
  ⟨.WRD_TSENS, 0xc0000c00000, 0x40, [(16, 4)]⟩,
  ⟨.WRD_PINOWN, 0xc0000c00000, 0x80, [(8, 4)]⟩,
  ⟨.WRD_MSG, 0xc0000c00000, 0x100, [(16, 4)]⟩,
  ⟨.WRD_MSGSTAT, 0xc0000c00000, 0x140, [(16, 4)]⟩,
  ⟨.WRD_VIO, 0xc0000c00000, 0x180, [(16, 4)]⟩,
  ⟨.WRD_GRANT, 0xc0000c00000, 0x200, [(16, 16), (4, 4)]⟩,
  ⟨.WRD_LOGCTL, 0xc0000c00000, 0x400, []⟩,
  ⟨.WRD_LOGLOST, 0xc0000c00000, 0x404, []⟩,
  ⟨.WRD_LOG_W, 0xc0000c00000, 0x800, [(32, 16), (4, 4)]⟩,
  ⟨.WRD_HWIN, 0xc0000c00000, 0x1000, [(16, 256), (16, 16), (3, 4)]⟩]

/-- The rows of the SHX block. -/
def regRowsSHX : List RegRow := [
  ⟨.SHX_IDENT, 0xc0000f00000, 0x0, [(16, 65536)]⟩,
  ⟨.SHX_HSTAT, 0xc0000f00000, 0x4, [(16, 65536)]⟩,
  ⟨.SHX_CTR_NEXT_LO, 0xc0000f00000, 0x8, [(16, 65536)]⟩,
  ⟨.SHX_CTR_NEXT_HI, 0xc0000f00000, 0xc, [(16, 65536)]⟩,
  ⟨.SHX_OWNER, 0xc0000f00000, 0x10, [(16, 65536)]⟩,
  ⟨.SHX_MB_DB, 0xc0000f00000, 0x100, [(16, 65536), (2, 16)]⟩,
  ⟨.SHX_MB_STAT, 0xc0000f00000, 0x104, [(16, 65536), (2, 16)]⟩,
  ⟨.SHX_MB_STAMP, 0xc0000f00000, 0x108, [(16, 65536), (2, 16)]⟩,
  ⟨.SHX_CR_BASE_LO, 0xc0000f00000, 0x200, [(16, 65536)]⟩,
  ⟨.SHX_CR_BASE_HI, 0xc0000f00000, 0x204, [(16, 65536)]⟩,
  ⟨.SHX_CR_CTL, 0xc0000f00000, 0x208, [(16, 65536)]⟩,
  ⟨.SHX_CR_HEAD, 0xc0000f00000, 0x20c, [(16, 65536)]⟩,
  ⟨.SHX_CR_TAIL, 0xc0000f00000, 0x210, [(16, 65536)]⟩,
  ⟨.SHX_CR_STAT, 0xc0000f00000, 0x214, [(16, 65536)]⟩,
  ⟨.SHX_MB_CMD, 0xc0000f00000, 0x400, [(16, 65536), (2, 512), (64, 4)]⟩,
  ⟨.SHX_MB_RSP, 0xc0000f00000, 0x500, [(16, 65536), (2, 512), (64, 4)]⟩,
  ⟨.SHX_HWIN, 0xc0000f00000, 0x800, [(16, 65536), (16, 16), (3, 4)]⟩,
  ⟨.SHX_GRANT, 0xc0000f00000, 0x900, [(16, 65536)]⟩,
  ⟨.SHX_GRANTV, 0xc0000f00000, 0x910, [(16, 65536), (4, 4)]⟩,
  ⟨.SHX_VBY, 0xc0000f00000, 0xa00, [(16, 65536)]⟩,
  ⟨.SHX_VON, 0xc0000f00000, 0xa04, [(16, 65536)]⟩,
  ⟨.SHX_WVIO, 0xc0000f00000, 0xa08, [(16, 65536)]⟩,
  ⟨.SHX_HF, 0xc0000f00000, 0xa0c, [(16, 65536)]⟩,
  ⟨.SHX_UNR, 0xc0000f00000, 0xa10, [(16, 65536)]⟩,
  ⟨.SHX_HFS, 0xc0000f00000, 0xa14, [(16, 65536)]⟩,
  ⟨.SHX_UNRS, 0xc0000f00000, 0xa18, [(16, 65536)]⟩,
  ⟨.SHX_MSIX, 0xc0000f00000, 0x2000, [(16, 65536), (32, 16), (4, 4)]⟩,
  ⟨.SHX_MSIX_PBA, 0xc0000f00000, 0x3000, [(16, 65536)]⟩]

/-- The rows of the EVC block. -/
def regRowsEVC : List RegRow := [
  ⟨.EVC_STAT, 0xc0000100000, 0x0, []⟩,
  ⟨.EVC_SWSET, 0xc0000100000, 0x4, []⟩,
  ⟨.EVC_DROP, 0xc0000100000, 0x8, []⟩,
  ⟨.EVC_CLAIM, 0xc0000100000, 0x100, [(4, 32)]⟩,
  ⟨.EVC_COMPLETE, 0xc0000100000, 0x104, [(4, 32)]⟩,
  ⟨.EVC_THR, 0xc0000100000, 0x108, [(4, 32)]⟩,
  ⟨.EVC_CSTAT, 0xc0000100000, 0x10c, [(4, 32)]⟩,
  ⟨.EVC_PEEK, 0xc0000100000, 0x110, [(4, 32)]⟩,
  ⟨.EVC_HOLD, 0xc0000100000, 0x200, [(64, 4)]⟩,
  ⟨.EVC_TCH, 0xc0000100000, 0x300, [(16, 4)]⟩,
  ⟨.EVC_PEND, 0xc0000100000, 0x400, [(32, 4)]⟩,
  ⟨.EVC_ACT, 0xc0000100000, 0x480, [(32, 4)]⟩,
  ⟨.EVC_SRC, 0xc0000100000, 0x1000, [(1024, 4)]⟩]

/-- The rows of the PWR block. -/
def regRowsPWR : List RegRow := [
  ⟨.PWR_RST_CAUSE, 0xc0000300000, 0x0, []⟩,
  ⟨.PWR_BOOTCNT, 0xc0000300000, 0x4, []⟩,
  ⟨.PWR_RST_CTL, 0xc0000300000, 0x8, []⟩,
  ⟨.PWR_SUP_STAT, 0xc0000300000, 0xc, []⟩,
  ⟨.PWR_EVT, 0xc0000300000, 0x10, []⟩,
  ⟨.PWR_EVEN, 0xc0000300000, 0x14, []⟩,
  ⟨.PWR_MODE_CTL, 0xc0000300000, 0x100, []⟩,
  ⟨.PWR_MODE_STAT, 0xc0000300000, 0x104, []⟩,
  ⟨.PWR_MODE_TMO, 0xc0000300000, 0x108, []⟩,
  ⟨.PWR_MODE_CHAN, 0xc0000300000, 0x10c, []⟩,
  ⟨.PWR_DOM_TGT, 0xc0000300000, 0x110, [(2, 4)]⟩,
  ⟨.PWR_DOM_STAT, 0xc0000300000, 0x118, [(2, 4)]⟩,
  ⟨.PWR_MODE_UNIT, 0xc0000300000, 0x140, [(10, 4)]⟩,
  ⟨.PWR_TRST_CMD, 0xc0000300000, 0x200, []⟩,
  ⟨.PWR_TRST_STAT, 0xc0000300000, 0x204, []⟩,
  ⟨.PWR_MNT_REQ, 0xc0000300000, 0x300, []⟩,
  ⟨.PWR_MNT_RESP, 0xc0000300000, 0x304, []⟩,
  ⟨.PWR_MNT_DONE, 0xc0000300000, 0x308, []⟩,
  ⟨.PWR_MNT_STAT, 0xc0000300000, 0x30c, []⟩,
  ⟨.PWR_MNT_ENT, 0xc0000300000, 0x400, [(64, 4)]⟩]

/-- The rows of the MGP block. -/
def regRowsMGP : List RegRow := [
  ⟨.MGP_BOARD, 0xc0000d00000, 0x0, []⟩,
  ⟨.MGP_STAT, 0xc0000d00000, 0x4, []⟩,
  ⟨.MGP_PIN, 0xc0000d00000, 0x100, [(64, 4)]⟩,
  ⟨.MGP_IN, 0xc0000d00000, 0x200, [(2, 4)]⟩,
  ⟨.MGP_MAP, 0xc0000d00000, 0x300, [(34, 4)]⟩,
  ⟨.MGP_EVL, 0xc0000d00000, 0x400, [(16, 4)]⟩,
  ⟨.MGP_EVSTAT, 0xc0000d00000, 0x440, []⟩,
  ⟨.MGP_I2CCTL, 0xc0000d00000, 0x1000, [(4, 64)]⟩,
  ⟨.MGP_I2CCMD, 0xc0000d00000, 0x1004, [(4, 64)]⟩,
  ⟨.MGP_I2CSTAT, 0xc0000d00000, 0x1008, [(4, 64)]⟩,
  ⟨.MGP_I2CDATA, 0xc0000d00000, 0x1010, [(4, 64), (4, 4)]⟩,
  ⟨.MGP_UARTCTL, 0xc0000d00000, 0x1200, [(2, 64)]⟩,
  ⟨.MGP_UARTDATA, 0xc0000d00000, 0x1204, [(2, 64)]⟩,
  ⟨.MGP_UARTSTAT, 0xc0000d00000, 0x1208, [(2, 64)]⟩,
  ⟨.MGP_SPICTL, 0xc0000d00000, 0x1300, [(2, 64)]⟩,
  ⟨.MGP_SPIDATA, 0xc0000d00000, 0x1304, [(2, 64)]⟩,
  ⟨.MGP_SPISTAT, 0xc0000d00000, 0x1308, [(2, 64)]⟩,
  ⟨.MGP_PWM, 0xc0000d00000, 0x1400, [(4, 4)]⟩,
  ⟨.MGP_TACH, 0xc0000d00000, 0x1410, [(4, 4)]⟩]

/-- The rows of the KH block. -/
def regRowsKH : List RegRow := [
  ⟨.KH_ID, 0xc0000e00000, 0x0, []⟩,
  ⟨.KH_SES, 0xc0000e00000, 0x4, []⟩,
  ⟨.KH_STAT, 0xc0000e00000, 0x8, []⟩,
  ⟨.KH_DAHI, 0xc0000e00000, 0xc, []⟩,
  ⟨.KH_CHAL, 0xc0000e00000, 0x10, [(4, 4)]⟩,
  ⟨.KH_RESP, 0xc0000e00000, 0x20, [(4, 4)]⟩,
  ⟨.KH_AUTH, 0xc0000e00000, 0x30, []⟩,
  ⟨.KH_CORE_CTL, 0xc0000e00000, 0x40, []⟩,
  ⟨.KH_CORE_STAT, 0xc0000e00000, 0x44, []⟩,
  ⟨.KH_PCS_LO, 0xc0000e00000, 0x50, [(4, 8)]⟩,
  ⟨.KH_PCS_HI, 0xc0000e00000, 0x54, [(4, 8)]⟩,
  ⟨.KH_CREG_SEL, 0xc0000e00000, 0x70, []⟩,
  ⟨.KH_CREG_LO, 0xc0000e00000, 0x74, []⟩,
  ⟨.KH_CREG_HI, 0xc0000e00000, 0x78, []⟩,
  ⟨.KH_CREG_CMD, 0xc0000e00000, 0x7c, []⟩,
  ⟨.KH_TMB_CTL, 0xc0000e00000, 0x80, []⟩,
  ⟨.KH_TMB_STAT, 0xc0000e00000, 0x84, []⟩,
  ⟨.KH_TREG_SEL, 0xc0000e00000, 0x88, []⟩,
  ⟨.KH_TREG_DATA, 0xc0000e00000, 0x8c, []⟩,
  ⟨.KH_TREG_CMD, 0xc0000e00000, 0x90, []⟩,
  ⟨.KH_VT_TX, 0xc0000e00000, 0xa0, []⟩,
  ⟨.KH_VT_RX, 0xc0000e00000, 0xa4, []⟩,
  ⟨.KH_VT_STAT, 0xc0000e00000, 0xa8, []⟩,
  ⟨.KH_VT_EN, 0xc0000e00000, 0xac, []⟩,
  ⟨.KH_IMG_CTL, 0xc0000e00000, 0xc0, []⟩,
  ⟨.KH_IMG_DATA, 0xc0000e00000, 0xc4, []⟩]

end Sys2Proof.Machine
end

