-- ==== Sys2Proof/Machine/State.lean ====
section
/-! DEFINITION. The state of the device: every register of the register tables (`regs`), and for each chapter of the spec the
state that no register holds. -/

namespace Sys2Proof.Machine
open Sys2Proof

/-! ### Clock root (chapter 2) -/

/-- What the clock root holds beside its registers. -/
structure ClkState where
  /-- The last completed step of the start-up table of R41; 0: held in power-on reset. -/
  step : Nat
  /-- KOSC is enabled (R40). -/
  koscOn : Bool
  /-- The straps have been latched since power-on reset (R37). -/
  strapsLatched : Bool
  /-- The accumulator of R65; bits [95:32] are the DTC. -/
  dtc : BitVec 96
  /-- The DTC holds its value during a commanded relock (R45). -/
  dtcHeld : Bool
  /-- Root edges counted from the epoch at the last TBC edge, N of R48. -/
  rootEdges : Nat
  /-- The dividers whose new divisor is committed and waits for its edge, with that divisor and the root edge of the commit (R50). -/
  committed : List (ClkDiv × Nat × Nat)
  /-- The root edge, N of R48, of the last rising edge of global network n that sector s has seen, at 32 s + n. -/
  edgeAt : Sparse Nat
  /-- The root edge, N of R48, of the last rising edge of ECK that engine e has seen (R48, R383). -/
  eckAt : Sparse Nat
  /-- The root divider drives KCK (R54). -/
  kckRoot : Bool
  /-- The root divider drives CCK. -/
  cckRoot : Bool
  /-- The write of SRC held while the KCK switch is busy (R56). -/
  kckHeld : Option Bool
  /-- The same for CCK. -/
  cckHeld : Option Bool
  /-- Consecutive monitor windows, per leaf, with its root PLL out of lock, and with its phase error out of range (R46). -/
  lockRun : Sparse Nat
  phaseRun : Sparse Nat
  /-- The last monitor window held fewer than two edges (R57). -/
  refMissing : Bool
  /-- Consecutive in-range windows of each lane reference (R63). -/
  lrefIn : Sparse Nat
  /-- Consecutive out-of-range windows of each lane reference (R63). -/
  lrefOut : Sparse Nat
deriving DecidableEq, Repr

/-! ### Event controller and watchdogs (chapter 16) -/

/-- The states of a source (R415). -/
inductive SrcState where
  | inactive
  | pending
  | active
  | activePending
deriving DecidableEq, Repr

/-- A source: its state, the target that holds it active, and its stamp. -/
structure SrcRec where
  st : SrcState
  core : Nat
  stamp : Nat
deriving DecidableEq, Repr

/-- A source nothing has raised. -/
def SrcRec.idle : SrcRec := ⟨.inactive, 0, 0⟩

/-- A running watchdog: the DTC value at which it expires, the length it was loaded with in microseconds, and, while it holds its
value under a debug halt, the microseconds left (R423, R425). -/
structure WdtRec where
  due : Nat
  len : Nat
  paused : Option Nat
deriving DecidableEq, Repr

/-- What the event controller and the watchdogs hold beside their registers. -/
structure EvcState where
  /-- The state of each source (R415). -/
  src : Sparse SrcRec
  /-- For each target, one more than the source offered to it; 0: none (R419). -/
  offers : Sparse Nat
  /-- For each group, the DTC value at which its hold-off window ends; 0: closed (R420). -/
  holdEnd : Sparse Nat
  /-- For each tenant, the sources whose delivery is held, oldest first (R422). -/
  held : Sparse (List Nat)
  /-- MSI-X is enabled in the function of head n (R421). -/
  msixEn : BitVec 16
  /-- For each fabric source, the OR of its pins at the last sample (R414). -/
  fevtLast : Sparse Nat
  /-- The running watchdogs (R423). -/
  wdt : Sparse (Option WdtRec)
  /-- The half-time event of the device watchdog has been raised since its last reload (R424). -/
  wdtHalf : Bool
deriving DecidableEq, Repr

/-- The port IDs of a message of a head: its own as the source, and that of the node it is addressed to (R253). -/
structure Ports where
  src : Nat
  dst : Nat
deriving DecidableEq, Repr

/-- A message the device sends to the world outside it. -/
inductive OutMsg where
  /-- An MSI-X message on a head: its vector, and the address and data of its table entry (R421). -/
  | msix (head vector : Nat) (addr data : Nat) (p : Ports)
  /-- A response an access port hands to the fabric design: the port, RSP_TXN, RSP_KIND, RSP_CODE and RSP_DATA (R90). -/
  | apResponse (port txn kind code : Nat) (data : Line)
  /-- The answer to a link partner's request for transmitter settings on a device lane (R238). -/
  | eqAnswer (lane : Nat) (accepted : Bool)
  /-- The answer to a host's CXL.mem read: its tag, the data, poison, and what the host may keep the line as (R256, R271). -/
  | cxlData (head tag : Nat) (data : Line) (poison : Bool) (grant : Intent) (p : Ports)
  /-- The completion of a host's CXL.mem write (R256). -/
  | cxlCompletion (head tag : Nat) (p : Ports)
  /-- A back-invalidate snoop to a host: invalidate, or keep at most a shared copy (R270). -/
  | biSnoop (head : Nat) (inv : Bool) (line : Nat) (p : Ports)
  /-- A device-cache request to a host: a line wanted, and whether ownership and data are asked for (R279). -/
  | cacheRequest (head line : Nat) (own wantData : Bool) (p : Ports)
  /-- A device-cache write-back to a host (R279, R280). -/
  | cacheWriteBack (head line : Nat) (data : Line) (poison : Bool) (p : Ports)
  /-- The answer of the device cache to a host's snoop, with the data of a dirty line and its poison (R278, R280). -/
  | cacheSnoopAnswer (head line : Nat) (data : Option (Line × Bool)) (p : Ports)
  /-- A dynamic-capacity event record to a head's host: an extent offered, or asked back (R254). -/
  | capacityEvent (head ext : Nat) (add : Bool) (p : Ports)
  /-- A mode-register command to a DRAM channel: its operation (1 MRW, 2 MRR, 3 MPC), subchannel, rank, register and data (R311). -/
  | dramMr (chan op sc rank mr data : Nat)
  /-- A Keeper memory message on a head: a read or a write of host memory (R374). -/
  | keeperMem (head : Nat) (write : Bool) (addr len : Nat) (p : Ports)
  /-- Bytes the Keeper writes to host memory on a head: a completion record or returned data (R396, R406); the message that carries them is
  `keeperMem`. -/
  | hostData (head addr : Nat) (bytes : List Byte)
  /-- A command on an I2C bus: its address, the bytes written and the number read; whether it opens with a START (or a repeated one), and whether
  it leaves the transaction open (R460). -/
  | i2c (bus addr : Nat) (wdata : List Byte) (rlen : Nat) (start stop : Bool)
  /-- A byte sent by a UART (R459). -/
  | uart (u : Nat) (b : Byte)
  /-- A byte sent on an SPI bus, with its chip select (R469). -/
  | spi (bus cs : Nat) (b : Byte)
  /-- The bit the device sends in a target slot of the Keyhole port: 0 by holding the line low (R474). -/
  | keyhole (bit : Bool)
deriving DecidableEq, Repr

/-! ### The Krovow network (chapter 3) -/

/-- The states of a knuckle channel (R96). -/
inductive KnkState where
  | active
  | replay
  | retiring
  | failed
deriving DecidableEq, Repr

/-- A logical knuckle channel: its state, its replays in the current window, and the CRC mismatches of one flit in a row. -/
structure KnkRec where
  st : KnkState
  replays : Nat
  inRow : Nat
deriving DecidableEq, Repr

/-- A channel that runs and has replayed nothing. -/
def KnkRec.idle : KnkRec := ⟨.active, 0, 0⟩

/-- What the knuckle groups hold beside their registers. -/
structure KnkNet where
  /-- The reset-time test has ended and the network carries traffic (R98). -/
  carrying : Bool
  /-- The logical channels, channel n of group g at 16 g + n (R95, R96). -/
  chan : Sparse KnkRec
  /-- For each group, the physical channels marked failed, as bits (R95). -/
  physFailed : Sparse Nat
  /-- The groups whose restore is in progress, as bits (R98). -/
  restoring : BitVec 4
  /-- The start of the current replay window (R96). -/
  winStart : Nat
deriving DecidableEq, Repr

/-- A requester tag (R31): the class RQC and the identity RQID of R75. -/
structure Tag where
  cls : Nat
  id : Nat
deriving DecidableEq, Repr

/-- The request operations of R76. -/
inductive NetOp where
  | read
  | write
deriving DecidableEq, Repr

/-- A request in flight (R75, R77).  `len` is the byte count; `data` holds a write's bytes in their lanes; `intent` is the caching
intent, or for a write the resulting state, that a head's request carries (R271). -/
structure Req where
  op : NetOp
  src : Nat
  dst : Nat
  txn : Nat
  tag : Tag
  da : Nat
  len : Nat
  data : Line
  intent : Intent
deriving DecidableEq, Repr

/-- What a response says (R76, R77). -/
inductive Answer where
  | data (d : Line)
  | poisoned (d : Line)
  | ack
  | error (code detail : Nat)
deriving DecidableEq, Repr

/-- A response in flight, back to the stamped requester (R75); `grant`: what its host may keep the line as (R271). -/
structure Resp where
  src : Nat
  dst : Nat
  txn : Nat
  tag : Tag
  ans : Answer
  grant : Intent
deriving DecidableEq, Repr

/-- Who waits for a response: an access port, a head with the tag of its host's request, a window read of a head, an engine, a
Keeper core, a Keeper DMA channel, or the debug master. -/
inductive Who where
  | port (a : Nat)
  | head (n : Nat) (id : HostId)
  | window (n : Nat) (id : HostId) (w : Nat)
  | engine (e : Nat)
  | core (c : Nat)
  | dma (c : Nat)
  | debug
deriving DecidableEq, Repr

/-- An outstanding request at its source (R94): its stamp and its window in nanoseconds. -/
structure Outst where
  who : Who
  req : Req
  sentAt : Nat
  window : Nat
deriving DecidableEq, Repr

/-- A place on a flow's path (R72, R73, R95): the store of a source, the link from an endpoint into its router, link n of the bundle between two
routers, the replay buffer of logical channel `ch` of group g on leaf `leaf`, the receiving buffer on the other leaf, and the link from a
router to an endpoint. -/
inductive Hop where
  | source (ep : Nat)
  | enter (ep : Nat)
  | link (a b n : Nat)
  | send (g leaf ch : Nat)
  | recv (g leaf ch : Nat)
  | exit (ep : Nat)
deriving DecidableEq, Repr

/-- A message on its way: a request by its source and TXN, a response by its requester and TXN, a snoop by its head, its line and
whether it is SNP_INV. -/
inductive MsgName where
  | req (src txn : Nat)
  | resp (dst txn : Nat)
  | snoop (head line : Nat) (inv : Bool)
deriving DecidableEq, Repr

/-- Where a message stands: its class (R75), its flow, its flits, its path from the hop whose receiving buffer it stands in, and the
(input link, class) pairs that have been served before it at its output link since it stands there (R86). -/
structure Transit where
  name : MsgName
  cls : Nat
  src : Nat
  dst : Nat
  flits : Nat
  path : List Hop
  passed : List (Hop × Nat)
deriving DecidableEq, Repr

/-- What the network and its sources hold. -/
structure NetState where
  /-- Requests on their way or waiting at their destination, in the order in which they were sent. -/
  reqs : List Req
  /-- Responses on their way. -/
  resps : List Resp
  /-- Outstanding requests of every source. -/
  outst : List Outst
  /-- Quarantined transaction numbers: endpoint and TXN (R94). -/
  quar : List (Nat × Nat)
  /-- Those of window reads: endpoint, TXN and window (R218). -/
  lateWin : List (Nat × Nat × Nat)
  /-- The responses each access port has taken in and not yet handed over (R90): the first four stand in its elastic buffer. -/
  apStore : Sparse (List Resp)
  /-- Where the messages on their way stand (R74, R85–R87), in the order in which they came there; a message without a record is at its destination. -/
  way : List Transit
  /-- The offset in its window of the last window read sent from an endpoint with a TXN, at 256 × endpoint + TXN (R217). -/
  winOff : Sparse Nat
deriving DecidableEq, Repr
/-! ### The fabric (chapters 4 and 5) -/

/-- What a slice samples beside operand A at one edge (R127, R130). -/
structure SliceIn where
  b : BitVec 32
  d : BitVec 24
  c : BitVec 48
  msel : BitVec 2
  zsel : BitVec 3
  sub : Bool
  psub : Bool
deriving DecidableEq, Repr

/-- What travels through a stage of a slice: operand A and what was sampled with it. -/
structure SliceOp where
  a : BitVec 32
  x : SliceIn
deriving DecidableEq, Repr

/-- A stage that has been reset. -/
def SliceOp.zero : SliceOp := ⟨0, ⟨0, 0, 0, 0, 0, false, false⟩⟩

/-- The registers of a slice: A's two input registers, the stages I, PS, M and the alignment stage of FP mode, then P, Q and the outputs
that load with them (R127, R130, R139). -/
structure SliceRec where
  a1 : BitVec 32
  a2 : BitVec 32
  inn : SliceIn
  ps : SliceOp
  m : SliceOp
  al : SliceOp
  p : BitVec 72
  q : BitVec 48
  pmatch : Bool
  pmatchn : Bool
  ovf : Bool
  flg : BitVec 4
  satf : Bool
deriving DecidableEq, Repr

/-- A slice that has been reset. -/
def SliceRec.zero : SliceRec := ⟨0, 0, SliceOp.zero.x, .zero, .zero, .zero, 0, 0, false, false, false, 0, false⟩

/-- A word on a block RAM port's outputs, with CEF and UEF (R145). -/
structure BramOut where
  data : BitVec 72
  ce : Bool
  ue : Bool
deriving DecidableEq, Repr

/-- Nothing read yet. -/
def BramOut.zero : BramOut := ⟨0, false, false⟩

/-- A block RAM port: what its array access gave, its output register, and its last access: the word, what it held before, and the bits
written (R145, R146). -/
structure BramPort where
  latch : BramOut
  out : BramOut
  lastWord : Nat
  lastOld : Codeword
  lastMask : BitVec 72
deriving DecidableEq, Repr

/-- A port that has accessed nothing. -/
def BramPort.zero : BramPort := ⟨.zero, .zero, 0, 0, 0⟩

/-- What the fabric holds.  A flip-flop or table that nothing has written since its release holds what the frames gave it. -/
structure FabState where
  /-- The frames of a sector as they stood at its last release: what INIT and the tables' first contents came from (R109, R114). -/
  relFrames : Sparse Frame
  /-- Flip-flop f of LC l of cluster c of sector x, at ((2,048 x + c) × 16 + l) × 2 + f (R106). -/
  ff : Sparse (Option Bool)
  /-- The table of memory LC 8 + k, at (2,048 x + c) × 8 + k (R110). -/
  lut : Sparse (Option (BitVec 128))
  /-- Slice j of sector x, at 40 x + j. -/
  slice : Sparse SliceRec
  /-- Port A of block RAM b at 2 b, port B at 2 b + 1. -/
  bram : Sparse BramPort
  /-- The outbound border pins of closed sectors that hold a 1 (R337), by `haspKey`. -/
  parked : List Nat
  /-- The local clock lines, 4 x + j, whose driver was last seen high (R122). -/
  lckHigh : List Nat
deriving DecidableEq, Repr

/-! ### Configuration and scrubbing (chapters 12 and 13) -/

/-- A load machine's header fields, once it holds the header (R317). -/
structure ImgHeader where
  kind : Nat
  enc : Bool
  keyslot : Nat
  frames : Nat
  bodyLen : Nat
  chunks : Nat
deriving DecidableEq, Repr

/-- An IMG_DATA that a controller has taken off the network and not yet answered (R324). -/
structure ImgHeld where
  /-- The Keeper DMA channel that sent it. -/
  dma : Option Nat
  src : Nat
  txn : Nat
  bytes : List Byte
deriving DecidableEq, Repr

/-- A leaf's configuration controller beside its registers (R321–R323, R338–R342). -/
structure Loader where
  /-- The operation: 0 none, 1 a partial load, 2 a full load, 3 a CLEAR. -/
  op : Nat
  /-- The bytes of the header and the digest table, as far as they have come. -/
  head : List Byte
  hdr : Option ImgHeader
  /-- Stored bytes of the body that wait to be checked. -/
  body : List Byte
  /-- Chunks checked, and body bytes taken in. -/
  chunk : Nat
  taken : Nat
  /-- The plaintext of checked chunks that no record has used yet. -/
  plain : List Byte
  /-- The next frame the load may write, and how many it has written. -/
  next : Nat
  written : Nat
  /-- The content of the last frame written. -/
  last : Option Frame
  /-- A FRAME, ZERO, REPEAT or MEMINIT record has been processed. -/
  content : Bool
  /-- The DTC value of the last IMG_DATA. -/
  dataAt : Nat
  /-- The IMG_DATA whose ACK is withheld until a chunk buffer frees, in their order (R324). -/
  waiting : List ImgHeld
deriving DecidableEq, Repr

/-- An idle controller. -/
def Loader.idle : Loader := ⟨0, [], none, [], 0, 0, [], 0, 0, none, false, 0, []⟩

/-- A run of frames of one content, or a MEMINIT word, that the L0 controller forwards during a full load (R324). -/
inductive FwdItem where
  | frames (f n : Nat) (v : Frame)
  | mem (vault : Bool) (inst word : Nat) (v : BitVec 128)
deriving DecidableEq, Repr

/-- A damaged entry of the signature store (R349): the flipped positions of its 39-bit codeword, and the flips of its three class bits. -/
structure SigErr where
  code : BitVec 39
  cls : BitVec 3
deriving DecidableEq, Repr

/-- A pending entry (R355, R356): its frame, the owner it was classified under, whether it has become UNREPAIRED, its refusals, its stamp and its timeout. -/
structure PendFrame where
  frame : Nat
  owner : Nat
  unrepaired : Bool
  refusals : Nat
  since : Nat
  tmo : Nat
deriving DecidableEq, Repr

/-- An entry of a leaf's upset history (R357). -/
structure UpsetHist where
  frame : Nat
  bit : Nat
  pass : Nat
deriving DecidableEq, Repr

/-- A leaf's scanner beside its registers (R350–R357). -/
structure Scanner where
  /-- The start of the pass, and the index of the next frame in it; a pass that has handled its last frame has 102,400. -/
  start : Nat
  idx : Nat
  /-- Frames skipped so far in the pass. -/
  skipped : Nat
  /-- The repair queue: a frame, its corrected content, the frame bit, and its owner (R353, R359). -/
  queue : List (Nat × Frame × Nat × Nat)
  /-- The pending list; a freed place is none (R355). -/
  pend : List (Option PendFrame)
  hist : List UpsetHist
  /-- Frames whose store entry is unverifiable (R349). -/
  unver : List Nat
deriving DecidableEq, Repr

/-- A scanner before its first pass. -/
def Scanner.idle : Scanner := ⟨0, 102400, 0, [], [], [], []⟩

/-- What the configuration controllers and the scanners hold beside their registers. -/
structure CfgState where
  /-- The configuration frames (R315). -/
  frames : Sparse Frame
  /-- The frames whose signatures the signature store holds: the content each was last written with (R347, R349). -/
  golden : Sparse Frame
  /-- The damaged entries of the signature store. -/
  sigErr : Sparse SigErr
  loader : Sparse Loader
  /-- What the L0 controller has forwarded and no other leaf has written yet. -/
  fwd : List FwdItem
  /-- The regions the full image in progress has defined (R333): region, leaf, static, and its mask. -/
  defs : List (Nat × Nat × Bool × Nat)
  scan : Sparse Scanner
  /-- The words of a frame written to SCB_FIXL_DATA, at 129 × leaf + k. -/
  fix : Sparse Word
  /-- The image keys of CFG_TEKn (R346), at 8 n + k. -/
  tek : Sparse Word
  /-- The wait of R331 ends at this DTC value; 0: none. -/
  retryAt : Nat
  /-- The heads whose FABDEP flag the policy image has set (R329). -/
  fabdep : BitVec 16
  /-- The attempts of the current boot stage; CFG_BOOT_STAT.ATTEMPTS shows them, saturated (R331). -/
  attempt : Nat
  /-- The leaves whose controllers wait for the signature verifier, in the order of their requests (R323). -/
  verify : List Nat
deriving DecidableEq, Repr
/-! ### On-chip memories (chapter 6) -/

/-- An entry of an instance's history (R159): word, codeword position, and the pass of the correction. -/
structure HistEnt where
  word : Nat
  pos : Nat
  pass : Nat
deriving DecidableEq, Repr

/-- A valid remap entry (R160, R161): the word, the position that made the fault permanent (0xFF: added by the firmware), and who
added it: 1 the device, 2 the Keeper firmware. -/
structure RmpEnt where
  word : Nat
  pos : Nat
  by_ : Nat
deriving DecidableEq, Repr

/-- A corrected word that waits for its compare-and-write (R158): the word, the codeword read, and the corrected one. -/
structure WriteBack where
  word : Nat
  read : Codeword
  fixed : Codeword
deriving DecidableEq, Repr

/-- A leaf's scrubber: the start of its pass, the ticks taken in it, and the period in force in milliseconds (R155). -/
structure LeafScrub where
  passStart : Nat
  ticks : Nat
  period : Nat
deriving DecidableEq, Repr

/-- A scrubber at its reset period. -/
def LeafScrub.idle : LeafScrub := ⟨0, 0, 1000⟩

/-- What the memory instances and the scrubbers hold beside the MEM registers.  An instance is numbered 8,192 × kind + its number, with
the kinds of R162; a bank 4 × instance + bank, bank 0 where the instance has none of its own. -/
structure MemState where
  /-- The codewords written since the instance's memory lost its contents, at 8,192 × instance + word; a word that a spare serves is the
  spare's (R160).  Block RAMs and vaults start from zero codewords. -/
  code : Sparse (Option Codeword)
  /-- The power losses of each band half, 2 × leaf + half: what its memories hold is open anew (log entry 2). -/
  gen : Sparse Nat
  /-- The engine memories whose words have been cleared: a word that nothing has written since is the zero codeword (R206). -/
  cleared : Sparse Bool
  /-- Remap entry j of an instance, at 8 × instance + j. -/
  rmp : Sparse (Option RmpEnt)
  /-- The history of a bank (R159). -/
  hist : Sparse (List HistEnt)
  /-- The directed-scrub register of a bank (R147, R150). -/
  directed : Sparse (Option Nat)
  /-- The pending compare-and-write of a bank. -/
  back : Sparse (Option WriteBack)
  /-- The next word of an instance's walk. -/
  walk : Sparse Nat
  /-- The pass that was current at its start. -/
  walkPass : Sparse Nat
  /-- The slots an instance has due (R155). -/
  due : Sparse Nat
  /-- The instances that have taken a slot in the current pass. -/
  scrubbed : Sparse Bool
  /-- The self-test of an instance since its power came up: 0 not finished, 1 passed, 2 failed (R154). -/
  tested : Sparse Nat
  /-- The scrubber of each leaf. -/
  scrub : Sparse LeafScrub
  /-- The pending firmware remap: the instance and its word (R161). -/
  rmpAdd : Option (Nat × Nat)
deriving DecidableEq, Repr
/-! ### Tumbler engines, sets and windows (chapters 7 and 8) -/

/-- A pointer (R164); its step is the 16 bits of the signed number. -/
structure PtrRec where
  pa : Nat
  ps : Nat
  pb : Nat
  pl : Nat
  mode : Nat
deriving DecidableEq, Repr

/-- A pointer at its reset value. -/
def PtrRec.zero : PtrRec := ⟨0, 0, 0, 0, 0⟩

/-- A loop level (R164). -/
structure LoopRec where
  start : Nat
  last : Nat
  count : Nat
  active : Bool
deriving DecidableEq, Repr

/-- A loop level at its reset value. -/
def LoopRec.zero : LoopRec := ⟨0, 0, 0, false⟩

/-- One copy of the banked registers (R164). -/
structure TmbBank where
  s : Sparse Word
  p : Sparse PtrRec
  lp : Sparse LoopRec
deriving DecidableEq, Repr

/-- An accumulator and its block exponent (R164). -/
structure AccRec where
  bits : BitVec 2048
  exp : Nat
deriving DecidableEq, Repr

/-- An accumulator at its reset value. -/
def AccRec.zero : AccRec := ⟨0, 0⟩

/-- What an accumulator writer does in its fourth stage, with the operands it read at issue (R173). -/
inductive AccOp where
  /-- VMAC (0), VMSU (1), VMPY (2) on elements of type `t` (R179). -/
  | mac (kind t : Nat) (u h : Bool) (x y : Line)
  /-- VMACB, or VMPYB where `add` is false, with the exponents of both operands (R180). -/
  | macb (add : Bool) (bsz : Bool) (x y : Line) (exps : Word)
  /-- ACLR. -/
  | clear (exp : Nat)
  /-- AMOVI. -/
  | slice (part : Nat) (x : Line)
deriving DecidableEq, Repr

/-- What a result does when it lands (R172); `bank` is the bank in force at its issue (R189): true for the shadow bank. -/
inductive ResAct where
  | sreg (bank : Bool) (r : Nat) (v : Word)
  /-- Bytes 0 and 1 of a scalar register (R183, R184). -/
  | sregLow (bank : Bool) (r : Nat) (v : Word)
  /-- Field f of a pointer: 0 PA, 1 PS, 2 PB, 3 PL, 4 MODE. -/
  | ptr (bank : Bool) (p f v : Nat)
  | vreg (r : Nat) (v : Line)
  | acc (r : Nat) (op : AccOp)
  /-- Sticky bits of STATUS. -/
  | flags (bits : Word)
  /-- Cause bits of EVT. -/
  | evt (bits : Word)
  /-- A load has delivered an uncorrectable word (R200). -/
  | loadError
  | lclr (bank : Bool) (lv : Nat)
  | loop (bank : Bool) (lv start last count : Nat)
  | crWrite (n : Nat) (v : Word)
  /-- The bytes of a store, in the lanes of a line, at a byte address (R175). -/
  | store (addr len : Nat) (d : Line)
deriving DecidableEq, Repr

/-- A result on its way: it lands after so many further cycles in which issue is not held. -/
structure Result where
  left : Nat
  act : ResAct
deriving DecidableEq, Repr

/-- What the C slot of a bundle does to the flow of control: nothing, a control transfer that is not taken, one to a target (whether
it returns to the primary bank), LOOP or LOOPI with its target (R186), WAITE, or DONE. -/
inductive CFlow where
  | none
  | notTaken
  | go (target : Nat) (toPrimary : Bool)
  | loop (target : Nat)
  | sleep
  | done
deriving DecidableEq, Repr

/-- An outstanding network operation of an engine (R202): its TXN, its local address and length, whether it is an NGET, and the
address of its bundle. -/
structure TmbOp where
  txn : Nat
  addr : Nat
  len : Nat
  get : Bool
  at_ : Nat
deriving DecidableEq, Repr

/-- A window request in an engine's queue, with its offset in the window, and the ECK cycles until WOFF may show it (R217). -/
structure WinReq where
  req : Req
  off : Nat
  wait : Nat
deriving DecidableEq, Repr

/-- A bundle that the network has just written: the old codeword, and for each of the coming ECK cycles in which a fetch may still
return it, whether it does (R208). -/
structure StaleBundle where
  word : Nat
  old : Codeword
  picks : List Bool
deriving DecidableEq, Repr

/-- An engine (R164, R194). -/
structure EngineRec where
  /-- 0 Idle, 1 Running, 2 Handler, 3 Sleeping, 4 Faulted. -/
  run : Nat
  /-- Held by the debugger, or to be held at the next bundle boundary; one cycle of a step may run (R484). -/
  halted : Bool
  haltAsked : Bool
  stepping : Bool
  pc : Nat
  /-- The engine issues from the shadow bank. -/
  bank : Bool
  prim : TmbBank
  shad : TmbBank
  v : Sparse Line
  a : Sparse AccRec
  /-- The control registers that hold a value, by their CR numbers (R167, R211). -/
  cr : Sparse Word
  /-- The stream input FIFOs, and the credits held for each direction (R197). -/
  fifo : Sparse (List Line)
  credits : Sparse Nat
  /-- Vectors sent to this engine that have not yet entered their FIFO: direction and vector. -/
  coming : List (Nat × Line)
  /-- The results in flight, in the order in which their instructions issued. -/
  pend : List Result
  /-- The bundle of the current cycle, once a slot of it has issued. -/
  ir : Option (BitVec 128)
  /-- The slots of the current cycle's bundle that have issued, with their results. -/
  issM : Option (List Result)
  issV : Option (List Result)
  issC : Option (List Result × CFlow)
  /-- The target of a control transfer whose delay slots are issuing, and whether it returns to the primary bank. -/
  redir : Option (Nat × Bool)
  /-- That transfer is a LOOP or a LOOPI: loop-backs go on in its delay slots (R187). -/
  soft : Bool
  /-- Delay slots left before that target issues. -/
  slots : Nat
  /-- Bundles left that are delay slots of a control transfer, taken or not (R190). -/
  ctl : Nat
  /-- Cycles for which issue is held by one-cycle conditions (R176). -/
  hold : Nat
  /-- A window reply has taken the data-memory banks in this cycle (R199). -/
  replied : Bool
  /-- An event has been recognised; the address that EPC takes (R190). -/
  take : Option Nat
  /-- The cycle of the event entry in which nothing issues. -/
  bubble : Bool
  /-- The address of the WAITE that put the engine to sleep. -/
  waitAt : Nat
  /-- DONE has issued; a stop request is in force; the engine last became Idle by DONE. -/
  doneWait : Bool
  stopping : Bool
  byDone : Bool
  ops : List TmbOp
  wq : List WinReq
  stale : List StaleBundle
  /-- The self-test that runs is a RESTORE (R222). -/
  restoring : Bool
deriving DecidableEq, Repr

/-- A register bank at its reset values. -/
def TmbBank.zero : TmbBank := ⟨[], [], []⟩

/-- An engine after a device-wide reset. -/
def EngineRec.idle : EngineRec where
  run := 0
  halted := false
  haltAsked := false
  stepping := false
  pc := 0
  bank := false
  prim := .zero
  shad := .zero
  v := []
  a := []
  cr := []
  fifo := []
  credits := []
  coming := []
  pend := []
  ir := none
  issM := none
  issV := none
  issC := none
  redir := none
  soft := false
  slots := 0
  ctl := 0
  hold := 0
  replied := false
  take := none
  bubble := false
  waitAt := 0
  doneWait := false
  stopping := false
  byDone := false
  ops := []
  wq := []
  stale := []
  restoring := false

/-- The job of a set (R213): its start stamp, the timeout that applies to it, and the end code recognised with its stamp; code 0: none. -/
structure JobRec where
  start : Nat
  tmo : Nat
  code : Nat
  codeAt : Nat
deriving DecidableEq, Repr

/-- No job. -/
def JobRec.none : JobRec := ⟨0, 0, 0, 0⟩

/-- What the tumbler array holds beside the TMB registers. -/
structure TmbState where
  eng : Sparse EngineRec
  job : Sparse JobRec
deriving DecidableEq, Repr
/-! ### Lanes and links (chapter 9) -/

/-- What a head holds beside its registers: the attempt in progress, with its stamp, its timeout in milliseconds, whether it started
from Recovery, and the highest rate it may reach (R233, R249); the end of the backoff wait (R235); the current error-rate window with the
Recovery entries counted in it and whether ERRRATE has been set in it (R240); whether CXL may still come up in this training from Detect
(R228); and the lanes idled by L0p, as bits over the port lanes (R237). -/
structure HeadRec where
  attempt : Bool
  startAt : Nat
  train : Nat
  fromRec : Bool
  limit : Nat
  backoffEnd : Nat
  recWindow : Nat
  recCount : Nat
  errDone : Bool
  cxlOpen : Bool
  l0pIdle : Nat
deriving DecidableEq, Repr

/-- A head in which nothing runs. -/
def HeadRec.idle : HeadRec := ⟨false, 0, 0, false, 0, 0, 0, 0, false, false, 0⟩

/-- What the ports, heads and lanes hold beside their registers. -/
structure LnkState where
  head : Sparse HeadRec
  /-- The stamps of a device lane's last charges, oldest first, at most two (R242). -/
  charges : Sparse (List Nat)
  /-- The PLL of half-port 2 p + h: 0 stopped, 1 running, 2 locked (R225). -/
  pll : Sparse Nat
  /-- The levels of the pins PERST_N[15:0]. -/
  perst : BitVec 16
  /-- The lanes whose override of the transmitter settings is in force, as bits over the device lanes (R239). -/
  ovr : Nat
deriving DecidableEq, Repr
/-! ### Coherence and tenancy (chapter 10) -/

/-- An entry of the partition table (R258); `rel`: a RELEASE is in progress (R263). -/
structure PtEntry where
  mode : Nat
  acc : Nat
  wr : Nat
  static : Bool
  hpa : Nat
  st : Nat
  clean : Bool
  rel : Bool
deriving DecidableEq, Repr

/-- A FREE extent that is not clean. -/
def PtEntry.free : PtEntry := ⟨0, 0, 0, false, 0, 0, false, false⟩

/-- A translation range of a head (R255). -/
structure XRange where
  valid : Bool
  dpaBase : Nat
  daBase : Nat
  count : Nat
deriving DecidableEq, Repr

/-- A range not in use. -/
def XRange.none : XRange := ⟨false, 0, 0, 0⟩

/-- A violation report on its way to the COH block, with its stamp (R282). -/
structure VioReport where
  reason : Nat
  tag : Tag
  src : Nat
  write : Bool
  da : Nat
  ext : Nat
  victims : Nat
  stamp : Nat
deriving DecidableEq, Repr

/-- Why a directory is walked (R263, R275). -/
inductive WalkWhy where
  | narrow (ext accLost wrLost : Nat)
  | release (ext : Nat)
  | head (n : Nat)
deriving DecidableEq, Repr

/-- A walk: the leaves for which the arbiter has still to be asked, those that wait for it, and those being walked; and, by source and TXN,
the requests admitted under a NARROW's old masks that have still to complete (R263, R308). -/
structure WalkRec where
  why : WalkWhy
  leaves : List Nat
  asked : List Nat
  running : List Nat
  before : List (Nat × Nat)
deriving DecidableEq, Repr

/-- A directory entry (R269): the line (DA over 64), its state and its sharers; `line` 0 with no sharers is invalid. -/
structure DirEntry where
  line : Nat
  excl : Bool
  sharers : Nat
deriving DecidableEq, Repr

/-- An invalid entry. -/
def DirEntry.none : DirEntry := ⟨0, false, 0⟩

/-- An outstanding snoop: its head, its operation, the stamp of its sending, and whether it has reached the head (R270, R275). -/
structure Snoop where
  head : Nat
  inv : Bool
  sentAt : Nat
  window : Nat
  delivered : Bool
deriving DecidableEq, Repr

/-- A pending line of a leaf's directory (R272, R273): its outstanding snoops, the head that held it exclusively, the request it
serves (none for a victim or a walk), what its entry becomes, and the requests that wait for it, in arrival order; `discard`: data
that snoops return is dropped (R263). -/
structure PendLine where
  leaf : Nat
  line : Nat
  victim : Bool
  discard : Bool
  exclWas : Option Nat
  snoops : List Snoop
  req : Option Req
  after : DirEntry
  waiting : List Req
deriving DecidableEq, Repr

/-- A line of a device cache (R278): the head it serves, its line address, whether it is owned and dirty, its data, and the flips of its eight
codewords of 72 bits, codeword k in bits [72k+71:72k]. -/
structure DcLine where
  head : Nat
  line : Nat
  owned : Bool
  dirty : Bool
  data : Line
  err : BitVec 576
deriving DecidableEq, Repr

/-- What the coherence block, the directories and the device caches hold beside their registers. -/
structure CohState where
  /-- The master copy of the partition table, by extent. -/
  pt : Sparse PtEntry
  /-- The entry that the front ends still apply while a command is not yet in force (R264). -/
  ptOld : Option (Nat × PtEntry)
  /-- Extents whose master entry has been found uncorrectable (R261). -/
  masterBad : Sparse Nat
  /-- Replica entries found uncorrectable: 32768 × channel + extent. -/
  replicaBad : Sparse Nat
  /-- The translation ranges, 256 × head + range. -/
  xlat : Sparse XRange
  /-- The extents to be cleared, in the order of their commands (R264). -/
  clearQ : List Nat
  /-- The walks in progress or waiting for the arbiter. -/
  walks : List WalkRec
  /-- The directory entries: (leaf × 65,536 + set) × 16 + way. -/
  dir : Sparse DirEntry
  /-- The pseudo-LRU bits of each set: leaf × 65,536 + set. -/
  plru : Sparse Nat
  /-- The pending lines. -/
  pend : List PendLine
  /-- Requests that wait for a victim buffer entry or a way, in arrival order (R272). -/
  stalled : List Req
  /-- The device caches: (port × 2,048 + set) × 16 + way. -/
  dc : Sparse (Option DcLine)
  /-- The pseudo-LRU bits of each device-cache set. -/
  dcPlru : Sparse Nat
  /-- Requests that wait for a fill, in arrival order, with their line's host address over 64. -/
  dcWait : List (Nat × Req)
  /-- The heads whose ways a tenant reset has still to write back and invalidate, once they are Up again, as bits (R280). -/
  dcFlush : BitVec 16
  /-- Heads whose reset has completed since they were fenced, as bits (R275). -/
  fenceReset : BitVec 16
  /-- Violation reports on their way. -/
  reports : List VioReport
  /-- The extents offered to each head and not answered (R254). -/
  offered : Sparse (List Nat)
  /-- The extents each head has accepted (R254). -/
  accepted : Sparse (List Nat)
  /-- The port ID from which a head's host last sent a request: snoops and the head's own requests are addressed to it (R253). -/
  hostPort : Sparse Nat
deriving DecidableEq, Repr
/-! ### DDR5 controllers (chapter 11) -/

/-- A stored line: its data as last written, and the errors of the stored symbols as a difference over the ten devices, 64 bits
each; device d < 8 holds bytes 8d to 8d+7 of the line, devices 8 and 9 the check symbols (R286, R297, log entry 12). -/
structure DramLine where
  data : Line
  err : BitVec 640
deriving DecidableEq, Repr

/-- A read that waits in a subchannel's queue, with the DTC value of its arrival. -/
structure RdEntry where
  req : Req
  line : Nat
  since : Nat
deriving DecidableEq, Repr

/-- A line that waits in a subchannel's write queue. -/
structure WrEntry where
  line : Nat
  data : Line
  since : Nat
deriving DecidableEq, Repr

/-- A correction in a channel's history (R301). -/
structure Correction where
  line : Nat
  dev : Nat
  stamp : Nat
deriving DecidableEq, Repr

/-- An entry of the line remap table (R302): the line, its spare line, and who added it (1 the device, 2 the Keeper firmware). -/
structure LineMap where
  line : Nat
  spare : Nat
  by_ : Nat
deriving DecidableEq, Repr

/-- An entry of the row table (R303): the row's first line, who added it, whether its copy is still in progress, and how many of its lines have been
copied. -/
structure RowMap where
  first : Nat
  by_ : Nat
  copying : Bool
  copied : Nat
deriving DecidableEq, Repr

/-- What a DRAM channel holds beside its registers. -/
structure ChanRec where
  /-- The read queues of both subchannels, oldest first; L[0] of a line says which (R291, R293). -/
  rq : List RdEntry
  /-- The write queues. -/
  wq : List WrEntry
  /-- Admitted requests at the front end that wait for a queue, or for an earlier request to their line. -/
  fe : List Req
  /-- Requests parked during a hold or self-refresh (R308). -/
  held : List Req
  /-- The subchannels in a write drain, as bits (R294). -/
  drain : BitVec 2
  /-- Open rows: for each bank one more than its row; with the DTC value of its last access (R292). -/
  open_ : Sparse (Nat × Nat)
  /-- The lines written since the channel last lost its contents. -/
  lines : Sparse (Option DramLine)
  /-- How often the channel has lost its contents. -/
  gen : Nat
  /-- The extents cleared since then: a line of theirs that nothing has written since holds zero codewords (R263). -/
  zeroed : List Nat
  /-- The line posted for demand scrub in each subchannel (R299). -/
  demand : Sparse (Option Nat)
  /-- The start of the patrol pass, and the user reads since the patrol's last slot (R300). -/
  passStart : Nat
  readsSince : Nat
  /-- The length of that pass in nanoseconds. -/
  passLen : Nat
  /-- The patrol has fallen behind and has not caught up (R300). -/
  lagging : Bool
  /-- The correction history (R301). -/
  hist : List Correction
  /-- The distinct lines corrected in the current PERMWIN window, with the device's number: (rank × 2 + SC) × 10 + device. -/
  permLines : List (Nat × Nat)
  /-- The devices whose count has reached DEVTHR in that window, by the same number. -/
  reached : List Nat
  /-- The start of that window. -/
  permStart : Nat
  /-- One more than the failed device of each rank and subchannel, by rank × 2 + SC; 0: none (R301). -/
  failed : Sparse Nat
  lineMap : List LineMap
  rowMap : List RowMap
  /-- A timing set has been loaded since the PHY domain was powered (R507). -/
  timed : Bool
  /-- Lines saved by the training generator (R311). -/
  saved : List (Nat × DramLine)
  /-- Delays, by rank × 128 + lane. -/
  dly : Sparse Word
  /-- Receiver settings, by DQ lane. -/
  rxeq : Sparse Word
  /-- The DTC value of the last self-refresh entry command, and of the queues' becoming empty (R307). -/
  srAt : Nat
  emptyAt : Nat
  /-- The hold in progress is a frequency change (R307). -/
  freqHold : Bool
  /-- The timing sets of the frequency change have been swapped. -/
  swapped : Bool
  /-- A hold accepted in SRPower, which starts at the exit: whether it is a frequency change. -/
  holdNext : Option Bool
  /-- Refresh intervals owed by each rank; pulled-in intervals count below 0 (R305). -/
  owed : Sparse Int
  /-- The ranks whose next refresh starts their shortened interval, as bits (R306). -/
  shortened : BitVec 8
deriving DecidableEq, Repr

/-- What the DRAM channels hold. -/
structure DdrState where
  chan : Sparse ChanRec
  /-- The channels that were in service at the SEAL write, as bits (R290). -/
  members : BitVec 12
deriving DecidableEq, Repr
/-! ### The Keeper and the wards (chapter 14) -/

/-- A message bucket: the tokens missing from BURST, in thousandths, at a DTC value. -/
structure Bucket where
  missing : Nat
  at_ : Nat
deriving DecidableEq, Repr

/-- The exception a core takes on an ERROR response (R365), and the address of the access. -/
inductive AccessFault where
  | load (addr : Nat)
  | store (addr : Nat)
  | fetch (addr : Nat)
deriving DecidableEq, Repr

/-- The privilege modes of a Keeper core (R362). -/
inductive CoreMode where
  | machine
  | supervisor
deriving DecidableEq, Repr

/-- What the spec gives a Keeper core beside its registers in KP (R362–R366). -/
structure CoreRec where
  pc : Nat
  mode : CoreMode
  /-- The last access-fault exception the core took. -/
  fault : Option AccessFault
  /-- The data of the core's last completed load, in the lanes of a line. -/
  loaded : Line
  /-- The load-reserved reservation (R483). -/
  reserved : Bool
  /-- While the debugger halts the core: the registers written since the halt, general register n at n and CSR n at 4096 + n; every other
  register holds what the firmware left there, an open value drawn at the halt (log entry 2). -/
  regs : Sparse (Option (BitVec 64))
  seed : Nat
deriving DecidableEq, Repr

/-- A core at its reset vector. -/
def CoreRec.idle : CoreRec := ⟨0, .machine, none, 0, false, [], 0⟩

/-- What the Keeper and the wards hold beside their registers. -/
structure KpState where
  /-- Cores K0–K3. -/
  core : Sparse CoreRec
  /-- The bytes of the Keeper SRAM that are not 0, by offset. -/
  sram : Sparse Byte
  /-- The inverted positions of the codewords of the Keeper SRAM, by word of eight bytes (R142, R362). -/
  sramBad : Sparse Codeword
  /-- The boot ROM has tested and zeroed the Keeper SRAM in this attempt (R366). -/
  sramReady : Bool
  /-- For each DMA channel, the transfers of its chain still to be done. -/
  dmaLeft : Sparse Nat
  /-- The message bucket of each head (R375). -/
  bucket : Sparse Bucket
  /-- The messages held at each head, oldest first. -/
  heldMsgs : Sparse (List KpMessage)
  /-- The stamp at which grant slot k of tenant n was armed, at 4 n + k (R376). -/
  grantAt : Sparse Nat
  /-- Some sensor read 110 °C or more in the last sample (R381). -/
  hot : Bool
  /-- ALERT_N is driven low (R381, R383). -/
  alertLow : Bool
deriving DecidableEq, Repr

/-! ### The Sherex command interface (chapter 15) -/

/-- An object that a long operation occupies (R407). -/
inductive ShxObj where
  | extent (k : Nat)
  | region (r : Nat)
  | set (k : Nat)
  | engine (e : Nat)
  | head (n : Nat)
  | channel (n : Nat)
  | bus (b : Nat)
  | flash (f kind : Nat)
  | pass (kind i : Nat)
deriving DecidableEq, Repr

/-- How far the Keeper firmware is with a command it has taken (R392, R402, R403): held by the throttle, waiting for its counter floor, checked and
ready, or answered. -/
inductive MbPhase where
  | held
  | floor
  | ready
  | answered
deriving DecidableEq, Repr

/-- A taken command: its phase, and what DONE brings with it: a new device owner, a device-wide reset (R405, R406). -/
structure MbTaken where
  phase : MbPhase
  newOwner : Option Nat
  reset : Bool
deriving DecidableEq, Repr

/-- A long operation (R394, R406, R407): its handle, tag, opcode and tenant, its objects, its activity at the arbiter with its ticket, whether it
has started, and its progress: a phase, a time, a mask, its payload, and data in transit. -/
structure ShxOp where
  handle : Nat
  tag : Nat
  opcode : Nat
  tenant : Nat
  objs : List ShxObj
  act : Option (Nat × Nat)
  ticket : Option Nat
  started : Bool
  phase : Nat
  at_ : Nat
  mask : Nat
  args : List Byte
  data : List Byte
deriving DecidableEq, Repr

/-- A completion record that waits to be written (R395, R397), with the objects it keeps occupied. -/
structure ShxRecord where
  handle : Nat
  tag : Nat
  opcode : Nat
  tenant : Nat
  objs : List ShxObj
  status : Nat
  dsrc : Nat
  detail : Nat
  result : List Byte
  dtc : Nat
deriving DecidableEq, Repr

/-- What the Sherex interface and the Keeper firmware behind it hold beside the SHX registers. -/
structure ShxState where
  /-- The taken command of mailbox m of head n, at 2 n + m. -/
  taken : Sparse (Option MbTaken)
  /-- The staged words of a window slot, at (16 n + w) × 3 + k (R411). -/
  staged : Sparse (Option Word)
  /-- The long operations, in the order of their rings. -/
  ops : List ShxOp
  /-- The records held, in the order of completion. -/
  held : List ShxRecord
  /-- Each tenant's generation and its next serial number (R394). -/
  gen : Sparse Nat
  serial : Sparse Nat
  /-- Consecutive AUTH_FAILED results of each tenant, and the stamp of the last (R403). -/
  fails : Sparse Nat
  failAt : Sparse Nat
  /-- The tenants that may read and that may write each pin (PIN_GRANT). -/
  readers : Sparse Nat
  writers : Sparse Nat
  /-- The regions whose last image the Keeper firmware keeps (RGN_LOAD). -/
  kept : BitVec 64
  /-- The DTC value at which the device-wide reset of DEVICE_RESET follows. -/
  resetAt : Option Nat
  /-- In flash: each tenant's counter floor and command key, and the policy and Keeper firmware images written by commands, at 2 × flash + (0
  policy, 1 firmware) (R402, R404, R443). -/
  floor : Sparse Nat
  keys : Sparse (Option (List Byte))
  flash : Sparse (Option (List Byte))
deriving DecidableEq, Repr
/-! ### The maintenance arbiter (R448–R451) and the tenant reset (R445) -/

/-- What the arbiter holds beside its entries: the tickets in request order, and the hardware requests that wait for an entry; and the
engines that a tenant reset has still to clear, and the regions, with whether the arbiter has been asked for the first of them, and whether its CLEAR
runs. -/
structure MntState where
  order : List Nat
  hwWait : List (Nat × Nat)
  trstEng : List Nat
  trst : List Nat
  trstAsked : Bool
  trstRuns : Bool
deriving DecidableEq, Repr

/-! ### Power, the mode sequencer and the supplies (R429–R439, R493, R494) -/

/-- A supply other than the core supplies (R494): those of a leaf's lanes, a channel's VDDQ, and a user I/O bank's VCCIO.  What the power
block holds beside its registers. -/
structure PwrState where
  /-- The lane supplies present: VLANE085 of leaf L at bit 2 L, VLANE120 at bit 2 L + 1. -/
  lane : BitVec 8
  /-- The banks whose VCCIO is present. -/
  vccio : BitVec 16
  /-- The domains on their ramp, at most four, and those that wait for one, in order (R432). -/
  ramping : List Nat
  rampQ : List Nat
  /-- The fabric groups that a configuration controller wants powered and no transaction has taken yet (R434). -/
  wanted : List Nat
  /-- The domains that the committed transaction switches on and that have not all completed (R436). -/
  ups : List Nat
  /-- The DTC value at which the sequencer's timer started, and that of the last acknowledgement (R436, R437). -/
  timerAt : Nat
  ackAt : Nat
deriving DecidableEq, Repr

/-! ### Management pins and peripherals (chapter 18) -/

/-- A chained I2C transaction left open (R460): its address, and whether its last command ended in the read phase. -/
structure I2cOpen where
  addr : Nat
  reading : Bool
deriving DecidableEq, Repr

/-- What the management pins and their peripherals hold beside their registers. -/
structure PinState where
  /-- The level of each pad as the board and the peripherals give it, where no GPIO output drives it. -/
  pads : BitVec 64
  /-- The level that bus-hold keeps through a function switch's gap (R463). -/
  hold : BitVec 64
  /-- The level each event line saw last (R466). -/
  seen : BitVec 16
  /-- The signals MG_EV to the fabric (R466). -/
  mgEv : BitVec 16
  /-- The signals MG_FO and MG_FOE behind their synchronisers (R117, R465). -/
  mgFo : BitVec 64
  mgFoe : BitVec 64
  /-- The transactions left open on each bus. -/
  i2c : Sparse (Option I2cOpen)
  /-- The command in progress on each bus. -/
  i2cCmd : Sparse Word
  /-- The FIFOs of the UARTs (R459). -/
  tx : Sparse (List Byte)
  rx : Sparse (List Byte)
  /-- The DTC value of the last falling edge of each fan tach input. -/
  tachAt : Sparse (Option Nat)
deriving DecidableEq, Repr

/-! ### The Keyhole debug port (chapter 19) -/

/-- What the debugger's slots are read as: nothing, the entry word after an entry low, or the frames of a session (R473). -/
inductive KhPhase where
  | idle
  | entry
  | session
deriving DecidableEq, Repr

/-- A frame whose RCRC has matched (R475). -/
structure KhFrame where
  op : Nat
  addr : Nat
  wdata : Nat
deriving DecidableEq, Repr

/-- The answer in preparation: OK, with RDATA for a read form; FAULT; or what the debug master's access gives by the ACK slots (R477, R478). -/
inductive KhReply where
  | ok (data : Option Word)
  | fault
  | wait
  | access
deriving DecidableEq, Repr

/-- How an access of the debug master ends: with data, without, or with an ERROR code (R477). -/
inductive KhOutcome where
  | data (w : Word)
  | ack
  | error (code : Nat)
deriving DecidableEq, Repr

/-- The one access the debug master holds, with its outcome once it is there (R478). -/
structure KhAccess where
  frame : KhFrame
  outcome : Option KhOutcome
deriving DecidableEq, Repr

/-- What the Keyhole port holds beside its registers. -/
structure KhState where
  /-- The device waits for the release of nRST_KH: a reset low, or a low held through power-up (R472). -/
  held : Bool
  phase : KhPhase
  /-- The debugger slots of the entry word or of the frame in progress, in wire order. -/
  bits : List Bool
  /-- A frame that has been received whole and not yet acted on. -/
  frame : Option KhFrame
  /-- The answer to the last frame, and whether its turnaround slot has passed. -/
  reply : Option KhReply
  turned : Bool
  /-- The bits still to be sent in target slots. -/
  sending : List Bool
  access : Option KhAccess
  /-- The DTC value of the last authentication mismatch (R479). -/
  failAt : Option Nat
  /-- The bytes of the image in progress, and the images received whole, in order (R486). -/
  img : List Byte
  images : List (List Byte)
  /-- The cores asked to halt, as bits (R482). -/
  haltAsk : BitVec 4
deriving DecidableEq, Repr

/-! ### The whole state -/

/-- The state of the block. -/
structure State where
  /-- The commands that are waiting, first in, first out. -/
  pending : List Instr
  /-- Every register of the register tables that differs from its reset value, by `regKey`. -/
  regs : Sparse Word
  /-- The model's own counter of open values drawn (log entry 2). -/
  freeCtr : Nat
  /-- How often a device-wide reset has taken the contents of the memories (log entry 2). -/
  memGen : Nat
  /-- The value the last direct read of a register returned (log entry 3). -/
  rdata : Word
  /-- The messages that have left the device, oldest first. -/
  out : List OutMsg
  clk : ClkState
  evc : EvcState
  knk : KnkNet
  net : NetState
  fab : FabState
  cfg : CfgState
  mem : MemState
  tmb : TmbState
  lnk : LnkState
  coh : CohState
  ddr : DdrState
  kp : KpState
  shx : ShxState
  mnt : MntState
  pwr : PwrState
  pin : PinState
  kh : KhState
deriving DecidableEq, Repr

/-- Why the block stops.  No command of this model stops with a fault: R2 lays down that behaviour the spec leaves undefined
never breaks isolation, and every row of the table has an effect. -/
inductive Fault where
  /-- Raised by no meaning; kept so that the type says a fault has a reason.  Safe. -/
  | none
deriving DecidableEq, Repr

/-- Why the block refuses a command. -/
inductive Refusal where
  /-- The command's arm has no meaning yet; raised by the dispatcher alone.  Safe: nothing is claimed of it. -/
  | notModelled (mnemonic : String)
deriving DecidableEq, Repr

/-- The clock root held in power-on reset. -/
def ClkState.init : ClkState where
  step := 0
  koscOn := false
  strapsLatched := false
  dtc := 0
  dtcHeld := false
  rootEdges := 0
  committed := []
  edgeAt := []
  eckAt := []
  kckRoot := false
  cckRoot := false
  kckHeld := none
  cckHeld := none
  lockRun := []
  phaseRun := []
  refMissing := false
  lrefIn := []
  lrefOut := []

/-- The event controller after reset: every source Inactive, every watchdog stopped. -/
def EvcState.init : EvcState := ⟨[], [], [], [], 0, [], [], false⟩

/-- The knuckle groups before the reset-time test. -/
def KnkNet.init : KnkNet := ⟨false, [], [], 0, 0⟩
/-- An empty network. -/
def NetState.init : NetState := ⟨[], [], [], [], [], [], [], []⟩
/-- A fabric at its initial values. -/
def FabState.init : FabState := ⟨[], [], [], [], [], [], []⟩
/-- Blank frames, idle controllers and scanners (log entry 21). -/
def CfgState.init : CfgState := ⟨[], [], [], [], [], [], [], [], [], 0, 0, 0, []⟩
/-- Memories before their self-tests. -/
def MemState.init : MemState := ⟨[], [], [], [], [], [], [], [], [], [], [], [], [], none⟩
/-- The tumbler array after a device-wide reset. -/
def TmbState.init : TmbState := ⟨[], []⟩
/-- Heads held, PERST_N low. -/
def LnkState.init : LnkState := ⟨[], [], [], 0, 0⟩
/-- Every extent FREE and not clean, no translation, empty directories and caches. -/
def CohState.init : CohState := ⟨[], none, [], [], [], [], [], [], [], [], [], [], [], [], 0, 0, [], [], [], []⟩
/-- A channel with empty queues and tables and no defined contents. -/
def ChanRec.init : ChanRec :=
  ⟨[], [], [], [], 0, [], [], 0, [], [], 0, 0, 0, false, [], [], [], 0, [], [], [], false, [], [], [], 0, 0, false, false, none, [], 0⟩

/-- No channel in an interleave set. -/
def DdrState.init : DdrState := ⟨[], 0⟩
/-- The Keeper at its reset vectors, every bucket full. -/
def KpState.init : KpState := ⟨[], [], [], false, [], [], [], [], false, false⟩
/-- Nothing taken, no operation, no key. -/
def ShxState.init : ShxState := ⟨[], [], [], [], [], [], [], [], [], [], 0, none, [], [], []⟩
/-- An idle arbiter. -/
def MntState.init : MntState := ⟨[], [], [], [], false, false⟩
/-- No supply beside the core's, an idle sequencer. -/
def PwrState.init : PwrState := ⟨0, 0, [], [], [], [], 0, 0⟩
/-- Every pad low, idle peripherals. -/
def PinState.init : PinState := ⟨0, 0, 0, 0, 0, 0, [], [], [], [], []⟩
/-- No session, nothing received. -/
def KhState.init : KhState := ⟨false, .idle, [], none, none, false, [], none, none, [], [], 0⟩

/-- The device held in power-on reset (R446): every register at its reset value, nothing pending.  `SUPPLIES_GOOD` releases it. -/
def State.reset : State where
  pending := []
  regs := []
  freeCtr := 0
  memGen := 0
  rdata := 0
  out := []
  clk := .init
  evc := .init
  knk := .init
  net := .init
  fab := .init
  cfg := .init
  mem := .init
  tmb := .init
  lnk := .init
  coh := .init
  ddr := .init
  kp := .init
  shx := .init
  mnt := .init
  pwr := .init
  pin := .init
  kh := .init

end Sys2Proof.Machine
end

