-- ==== Sys2Proof/Machine/Ops.lean ====
section
/-! DEFINITION. The shared operations on the state: registers and their fields, the access codes of R9 and R10, open values,
and the device time counter. -/

namespace Sys2Proof.Machine
open Sys2Proof

/-! ### Registers -/

/-- The place of copy `i` of register `r` in the register store. -/
def regKey (r : RegName) (i : Nat) : Nat := i * 1024 + r.ctorIdx

/-- The reset value of copy `i` of register `r` (R11). -/
def regReset (r : RegName) (i : Nat) : Word := BitVec.ofNat 32 (regResetNat r i)

/-- The value of copy `i` of register `r`. -/
def State.reg (s : State) (r : RegName) (i : Nat) : Word := sget (regReset r i) s.regs (regKey r i)

/-- The state with copy `i` of register `r` holding `v`. -/
def State.setReg (s : State) (r : RegName) (i : Nat) (v : Word) : State :=
  { s with regs := sset (regReset r i) s.regs (regKey r i) v }

/-- The value of a field of copy `i` of its register. -/
def State.rd (s : State) (f : Fld) (i : Nat) : Nat := getF (s.reg f.reg i) f.lo f.width

/-- The state with a field of copy `i` of its register set. -/
def State.wr (s : State) (f : Fld) (i : Nat) (v : Nat) : State :=
  s.setReg f.reg i (setF (s.reg f.reg i) f.lo f.width v)

/-- A field read as a flag: it is not 0. -/
def State.flag (s : State) (f : Fld) (i : Nat) : Bool := s.rd f i != 0

/-- A flag set. -/
def State.on (s : State) (f : Fld) (i : Nat) : State := s.wr f i 1

/-- A flag cleared. -/
def State.off (s : State) (f : Fld) (i : Nat) : State := s.wr f i 0

/-- Bit `k` of a field set or cleared. -/
def State.wrBit (s : State) (f : Fld) (i k : Nat) (b : Bool) : State := s.wr f i (nsetBit (s.rd f i) k b)

/-- A counter that stops at its largest value, `n` more. -/
def State.satAdd (s : State) (f : Fld) (i n : Nat) : State :=
  s.wr f i (min (s.rd f i + n) (2 ^ f.width - 1))

/-- A counter that wraps, one more. -/
def State.wrapInc (s : State) (f : Fld) (i : Nat) : State := s.wr f i (s.rd f i + 1)

/-- A field of a word that is not yet in a register. -/
def Fld.of (f : Fld) (v : Word) : Nat := getF v f.lo f.width

/-! ### The access codes -/

/-- A field's value in `w` replaced by its value in `v`. -/
def copyField (w v : Word) (lo n : Nat) : Word := setF w lo n (getF v lo n)

/-- The effect of writing `v` on one field of a word, under its access code (R9); `legal`: the written encoding is not
reserved (R8); `sealed`: the seal named for the register is set. -/
def writeField (acc : Access) (legal sealed : Bool) (lo n : Nat) (v w : Word) : Word :=
  match acc with
  | .RW => if legal then copyField w v lo n else w
  | .RWL => if legal && !sealed then copyField w v lo n else w
  | .W1C => setF w lo n (getF (w &&& ~~~v) lo n)
  | .W1S => setF w lo n (getF (w ||| v) lo n)
  | .RO => w
  | .WO => w
  | .RC => w

/-- The word after a write of `v` over a list of fields; the bits of no field keep their value (R7). -/
def writeFields (keeperSide sealed : Bool) (legal : Nat → Nat → Bool) (v : Word) : List FieldRow → Word → Word
  | [], w => w
  | f :: l, w =>
    writeFields keeperSide sealed legal v l
      (writeField (if keeperSide then f.kacc else f.acc) (legal f.lo (getF v f.lo f.width)) sealed f.lo f.width v w)

/-- The word after a read: each RC field is cleared and takes what the device sets in the same access cycle (R10). -/
def clearRC (same : Word) : List FieldRow → Word → Word
  | [], w => w
  | f :: l, w => clearRC same l (if f.acc = .RC then copyField w same f.lo f.width else w)

/-- How many copies a register row counts. -/
def RegRow.copies (row : RegRow) : Nat := row.dims.foldl (fun n d => n * d.1) 1

/-! ### Open values -/

/-- The next open number, and the state with one more drawn. -/
def State.fresh (s : State) : Nat × State := (Config.freeNat s.freeCtr, { s with freeCtr := s.freeCtr + 1 })

/-- The next open bit, and the state with one more drawn. -/
def State.freshBit (s : State) : Bool × State := (Config.freeBit s.freeCtr, { s with freeCtr := s.freeCtr + 1 })

/-! ### Time -/

/-- The DTC in nanoseconds: the upper 64 bits of the accumulator (R65). -/
def State.dtcNow (s : State) : Nat := (s.clk.dtc >>> 32).toNat

/-- A half-open window of length `len` from `start` has expired (R68). -/
def State.expired (s : State) (start len : Nat) : Bool := start + len ≤ s.dtcNow

/-- The increment per TBC edge, a 32.32 fixed-point number of nanoseconds: round(320 × 2^32 / MULT) (R65). -/
def dtcIncFor (mult : Nat) : Nat := (2 * 320 * 2 ^ 32 + mult) / (2 * mult)

/-- The increment in force, from its two registers. -/
def State.dtcInc (s : State) : Nat := (s.reg .CLK_DTC_INC_HI 0).toNat * 2 ^ 32 + (s.reg .CLK_DTC_INC 0).toNat

/-- The stamp of an event of a root-derived domain (R69): log entry 4 places the event at the last TBC edge. -/
def State.stamp (s : State) : Nat := s.dtcNow

/-- The stamp of an event of a clockless block, KOSC or a lane reference: the second or the third TBC edge from it, which of
the two is open (R70). -/
def State.stampAsync (s : State) : Nat × State :=
  let (late, s') := s.freshBit
  ((((s.clk.dtc.toNat + (if late then 2 else 1) * s.dtcInc) / 2 ^ 32) % 2 ^ 64), s')

/-! ### Running a command -/

/-- The answer of a command that has its effect. -/
def done (s : State) : Host.Outcome State Fault Refusal := .next s

/-- The effect where a condition holds; elsewhere the state is unchanged (log entry 5). -/
def guarded (b : Bool) (s : State) (f : State → State) : State := if b then f s else s

end Sys2Proof.Machine
end

