-- ==== Sys2Proof/Machine/Events.lean ====
section
/-! DEFINITION. The event controller (R412–R422): source states, offers, claims, hold-off, tenant notification, and the
watchdogs (R423–R426) up to the device-wide reset, which Power.lean holds. -/

namespace Sys2Proof.Machine
open Sys2Proof

/-! ### Sources and targets -/

/-- The record of source `n`. -/
def State.src (s : State) (n : Nat) : SrcRec := sget .idle s.evc.src n

/-- The state with the record of source `n` replaced. -/
def State.setSrc (s : State) (n : Nat) (r : SrcRec) : State :=
  { s with evc := { s.evc with src := sset .idle s.evc.src n r } }

/-- Pair `q` runs in lockstep: its mode bit is set and it has not split (R363, R364). -/
def lockstep (s : State) (q : Nat) : Bool :=
  nbit (s.rd F.KP_LSCTL.LSMODE 0) q && !nbit (s.rd F.KP_LSCTL.SPLIT 0) q

/-- Core `c` is served as the higher core of a lockstep pair (R418). -/
def higherOfPair (s : State) (c : Nat) : Bool := c % 2 == 1 && lockstep s (c / 2)

/-- The targets: a lockstep pair under its lower core, and every core of a split or unpaired pair (R418). -/
def targets (s : State) : List Nat := (List.range 4).filter (fun c => !higherOfPair s c)

/-- The highest priority among the sources target `c` holds Active (R418). -/
def activePrio (s : State) (c : Nat) : Nat :=
  s.evc.src.foldl (fun m e =>
    if (e.2.st = .active ∨ e.2.st = .activePending) ∧ e.2.core = c then max m (s.rd F.EVC_SRC.PRIO e.1) else m) 0

/-- The current priority of target `c` (R418). -/
def cpri (s : State) (c : Nat) : Nat := max (s.rd F.EVC_THR.THR c) (activePrio s c)

/-- Core `c` is halted by the debugger or stopped by a mismatch. -/
def coreStopped (s : State) (c : Nat) : Bool := 2 ≤ s.rd (F.KP_CORE_STAT.RUN c) 0

/-- The hold-off window of group `g` is open (R420). -/
def groupOpen (s : State) (g : Nat) : Bool := sget 0 s.evc.holdEnd g != 0

/-- Target `c` may take pending source `n` (R418). -/
def eligible (s : State) (n c : Nat) : Bool :=
  nbit (s.rd F.EVC_SRC.KMASK n) c && !coreStopped s c && decide (cpri s c < s.rd F.EVC_SRC.PRIO n)

/-- Target `c` executes WFI. -/
def asleep (s : State) (c : Nat) : Bool := s.flag F.EVC_CSTAT.SLEEP c

/-- A list of pending sources with one put in its place: higher PRIO first, the lower number on a tie (R419). -/
def insertByPrio (s : State) (n : Nat) : List Nat → List Nat
  | [] => [n]
  | m :: l => if s.rd F.EVC_SRC.PRIO m < s.rd F.EVC_SRC.PRIO n then n :: m :: l else m :: insertByPrio s n l

/-- The sources that wait for a Keeper core, in the order the controller takes them. -/
def pendingForKeeper (s : State) : List Nat :=
  ((skeys (fun r => r.st == .pending) s.evc.src).filter
    (fun n => s.rd F.EVC_SRC.TKIND n == 0 && !groupOpen s (s.rd F.EVC_SRC.GROUP n))).foldl (fun l n => insertByPrio s n l) []

/-- Of a list of targets, the one with the lowest CPRI; the first on a tie. -/
def lowestCpri (s : State) : List Nat → Option Nat
  | [] => none
  | c :: l => match lowestCpri s l with
    | none => some c
    | some d => if cpri s c ≤ cpri s d then some c else some d

/-- The target the controller chooses for source `n` among those without an offer (R419). -/
def chooseTarget (s : State) (n : Nat) (taken : Sparse Nat) : Option Nat :=
  let el := (targets s).filter (fun c => eligible s n c && sget 0 taken c == 0)
  match lowestCpri s (el.filter (fun c => !asleep s c)) with
  | some c => some c
  | none => el.head?

/-- The offers of the pending sources, taken in order. -/
def offersFor (s : State) : List Nat → Sparse Nat → Sparse Nat
  | [], taken => taken
  | n :: l, taken => match chooseTarget s n taken with
    | none => offersFor s l taken
    | some c => offersFor s l (sset 0 taken c (n + 1))

/-- A target the controller wakes: it is offered a source while it executes WFI; every core of its pair wakes with it (R419; log entry 215). -/
def wakeOffered (offers : Sparse Nat) (s : State) : State :=
  (List.range 4).foldl (fun t c =>
    let home := if higherOfPair s c then c - 1 else c
    if sget 0 offers home != 0 && asleep s c then t.off F.EVC_CSTAT.SLEEP c else t) s

/-- The offers anew, as R419 asks at every change: the interrupts follow them and sleeping targets wake. -/
def evaluate (s : State) : State :=
  let offers := offersFor s (pendingForKeeper s) []
  wakeOffered offers { s with evc := { s.evc with offers := offers } }

/-! ### Raising -/

/-- A held delivery of source `n` waits for its tenant (R422). -/
def heldFor (s : State) (n : Nat) : Bool := (sget [] s.evc.held (s.rd F.EVC_SRC.TENANT n)).contains n

/-- Sources stamped under R70 (R412): the reference checks on KOSC (R57, R63), the clockless network, the links, whose lane PLLs run from LREFCLKp
(R225), and the self-timed directories and device caches (R277).  The spec names no block's domain beside the event (DEDUCED, unsafe: log entry
209). -/
def asyncSource (n : Nat) : Bool := decide (n ≤ 9) || (decide (128 ≤ n) && decide (n ≤ 255)) || (decide (688 ≤ n) && decide (n ≤ 699))

/-- The stamp of source `n` raised now (R412). -/
def srcStamp (n : Nat) (s : State) : Nat × State := if asyncSource n then s.stampAsync else (s.stamp, s)

/-- Source `n` is raised (R412, R415); a raise while its delivery is held coalesces with it (R422). -/
def raise (n : Nat) (s : State) : State :=
  if s.flag F.EVC_SRC.EN n then
    let r := s.src n
    match r.st with
    | .inactive =>
      if heldFor s n then s
      else
        let (t, s1) := srcStamp n s
        evaluate (s1.setSrc n ⟨.pending, r.core, t⟩)
    | .pending => s
    | .active => s.setSrc n { r with st := .activePending }
    | .activePending => s
  else s

/-- A sticky cause bit becomes 1; where it was 0 and its enable is 1, the source is raised (R412). -/
def raiseCause (cause enable : Fld) (i src : Nat) (s : State) : State :=
  if s.flag cause i then s
  else if s.flag enable i then raise src (s.on cause i) else s.on cause i

/-! ### Claim and completion -/

/-- The delivery of a source of group `g` starts the group's hold-off window (R420). -/
def startHoldOff (g : Nat) (s : State) : State :=
  let h := s.rd F.EVC_HOLD.HOLD g
  if h = 0 then s
  else { s with evc := { s.evc with holdEnd := sset 0 s.evc.holdEnd g (s.dtcNow + 250 * h) } }.on F.EVC_HOLD.OPEN g

/-- The source offered to core `c` as EVC_PEEKc shows it; 0x3FF: none, or the higher core of a pair. -/
def peek (s : State) (c : Nat) : Nat :=
  if higherOfPair s c then 0x3FF
  else match sget 0 s.evc.offers c with
    | 0 => 0x3FF
    | n + 1 => n

/-- A claim: the offered source becomes Active on the target and its group's hold-off starts (R419, R420). -/
def claim (c : Nat) (s : State) : Nat × State :=
  let n := peek s c
  if n = 0x3FF then (n, s)
  else
    (n, evaluate (startHoldOff (s.rd F.EVC_SRC.GROUP n)
      ({ s with evc := { s.evc with offers := sset 0 s.evc.offers c 0 } }.setSrc n { s.src n with st := .active, core := c })))

/-- A completion; one that names a source not Active on the target is ignored and sets BADCMP (R419). -/
def complete (c n : Nat) (s : State) : State :=
  if higherOfPair s c then s
  else
    let r := s.src n
    if (r.st = .active ∨ r.st = .activePending) ∧ r.core = c then
      evaluate (s.setSrc n (if r.st = .active then .idle else { r with st := .pending }))
    else s.on F.EVC_STAT.BADCMP 0

/-! ### Routing -/

/-- The vectors and tenant R417 admits for a write of TKIND = 1 to source `n`. -/
def tenantRowAdmits (s : State) (n tenant vector : Nat) : Bool :=
  if 128 ≤ n ∧ n < 256 then
    let k := n - 128
    k % 16 < 2 && tenant == 2 * (k / 16) + k % 16 && 2 ≤ vector
  else if 640 ≤ n ∧ n < 688 then tenant == n % 16 && 2 ≤ vector
  else if 768 ≤ n ∧ n < 1024 then
    s.rd F.CFG_RGN_CFG.OWNER ((n - 768) / 4) == tenant && 2 ≤ vector
  else false

/-- A write of EVC_SRCs (R415–R417, R428). -/
def evcSrcWrite (n : Nat) (v : Word) (s : State) : State :=
  let g (f : Fld) : Nat := f.of v
  let common (t : State) : State :=
    let t := (((t.wr F.EVC_SRC.PRIO n (g F.EVC_SRC.PRIO)).wr F.EVC_SRC.EN n (g F.EVC_SRC.EN)).wr F.EVC_SRC.KMASK n
      (g F.EVC_SRC.KMASK)).wr F.EVC_SRC.GROUP n (g F.EVC_SRC.GROUP)
    evaluate (if g F.EVC_SRC.EN = 0 ∧ (s.src n).st = .pending then t.setSrc n .idle else t)
  if 96 ≤ n ∧ n < 128 then common s
  else if g F.EVC_SRC.TKIND = 1 ∧ !tenantRowAdmits s n (g F.EVC_SRC.TENANT) (g F.EVC_SRC.VECTOR) then
    s.on F.EVC_STAT.REJECT 0
  else
    common (((s.wr F.EVC_SRC.TKIND n (g F.EVC_SRC.TKIND)).wr F.EVC_SRC.TENANT n (g F.EVC_SRC.TENANT)).wr F.EVC_SRC.VECTOR n
      (g F.EVC_SRC.VECTOR))

/-- A write of EVC_SWSET (R413). -/
def evcSwset (v : Word) (s : State) : State :=
  let n := F.EVC_SWSET.SOURCE.of v
  if (64 ≤ n ∧ n < 80) ∨ (96 ≤ n ∧ n < 112) then raise n s else s.on F.EVC_STAT.SWBAD 0

/-! ### Tenant notification channels -/

/-- LNK registers of head `n` use copy `n`: head H(2p+h) is row (p, h) (R249). -/
def headUp (s : State) (n : Nat) : Bool := s.rd F.LNK_HSTAT.CTLST n == 3

/-- The link of head `n` is in L0 or L0p. -/
def headL0 (s : State) (n : Nat) : Bool := s.rd F.LNK_HSTAT.LTSSM n == 3 || s.rd F.LNK_HSTAT.LTSSM n == 6

/-- Channel `n` may issue a message (R421). -/
def channelReady (s : State) (n : Nat) : Bool := headUp s n && headL0 s n && nbit s.evc.msixEn.toNat n

/-- The vector of source `n`. -/
def srcVector (s : State) (n : Nat) : Nat := s.rd F.EVC_SRC.VECTOR n

/-- The state with the list of held deliveries of tenant `t` replaced; EVC_TCHn.HELD counts them, up to 31 (log entry 213). -/
def setHeld (t : Nat) (l : List Nat) (s : State) : State :=
  { s with evc := { s.evc with held := sset [] s.evc.held t l } }.wr F.EVC_TCH.HELD t (min 31 l.length)

/-- The address and data of entry `v` of head `n`'s MSI-X table (R421). -/
def msixEntry (s : State) (n v : Nat) : Nat × Nat :=
  let w (k : Nat) : Nat := (s.reg .SHX_MSIX ((n * 32 + v) * 4 + k)).toNat
  (w 0 + 2 ^ 32 * w 1, w 2)

/-- The mask bit of the entry's vector control word. -/
def msixMasked (s : State) (n v : Nat) : Bool := nbit (s.reg .SHX_MSIX ((n * 32 + v) * 4 + 3)).toNat 0

/-- The port IDs of a message of head n to its host (R253). -/
def State.toHost (s : State) (n : Nat) : Ports := ⟨s.rd F.COH_HEAD.PID n, sget 0 s.coh.hostPort n⟩

/-- The message of vector `v` issued on head `n`; a masked vector sets its pending bit instead (R421). -/
def issueMsix (n v : Nat) (s : State) : State :=
  if msixMasked s n v then s.wrBit F.SHX_MSIX_PBA.VALUE n v true
  else
    let (a, d) := msixEntry s n v
    { s with out := s.out ++ [.msix n v a d (s.toHost n)] }

/-- The message of source `n` issued: its tenant's channel sends it and its group's hold-off starts (R420, R421). -/
def issueSource (n : Nat) (s : State) : State :=
  startHoldOff (s.rd F.EVC_SRC.GROUP n) (issueMsix (s.rd F.EVC_SRC.TENANT n) (srcVector s n) s)

/-- The held deliveries of tenant `t` issued in order, once its channel is ready (R422). -/
def flushHeld (t : Nat) (s : State) : State :=
  if channelReady s t then (sget [] s.evc.held t).foldl (fun a n => issueSource n a) (setHeld t [] s) else s

/-- A fabric source whose region no longer belongs to the tenant it names (R417). -/
def formerOwner (s : State) (n : Nat) : Bool :=
  768 ≤ n && s.rd F.CFG_RGN_CFG.OWNER ((n - 768) / 4) != s.rd F.EVC_SRC.TENANT n

/-- What the device does for a held delivery: it starts the exit from L1, or drives WAKE_N from L2 or L3 (R422). -/
def nudgeHead (t : Nat) (s : State) : State :=
  if !headUp s t then s
  else if s.rd F.LNK_HSTAT.LTSSM t = 7 then s.on F.EVC_TCH.L1EXIT t
  else if s.rd F.LNK_HSTAT.LTSSM t = 8 ∧ s.flag F.EVC_TCH.WAKEEN t then s.on F.EVC_TCH.WAKE t
  else s

/-- The delivery of pending source `n` to its tenant's channel (R415, R417, R421, R422). -/
def deliverTenant (n : Nat) (s : State) : State :=
  let t := s.rd F.EVC_SRC.TENANT n
  let s1 := s.setSrc n .idle
  if formerOwner s n then s1.satAdd F.EVC_DROP.COUNT 0 1
  else if channelReady s t then issueSource n s1
  else nudgeHead t (setHeld t (sget [] s.evc.held t ++ [n]) s1)

/-! ### Watchdogs -/

/-- Watchdog `c` while it runs. -/
def State.wdt (s : State) (c : Nat) : Option WdtRec := sget none s.evc.wdt c

/-- The state with watchdog `c` replaced. -/
def State.setWdt (s : State) (c : Nat) (r : Option WdtRec) : State :=
  { s with evc := { s.evc with wdt := sset none s.evc.wdt c r } }

/-- Watchdog `c` loaded from its timeout register; one that a halt pauses holds the new value (R425), and in lockstep the watchdog of the higher
core is loaded with it (R423). -/
def wdtLoad (c : Nat) (s : State) : State :=
  let tmo := s.rd F.KP_WDT_TMO.TMO c
  let r : WdtRec := ⟨s.dtcNow + 1000 * tmo, tmo, ((s.wdt c).bind (·.paused)).map (fun _ => tmo)⟩
  let s1 := s.setWdt c (some r)
  if c = 4 then { s1 with evc := { s1.evc with wdtHalf := false } }
  else if c % 2 = 0 ∧ lockstep s (c / 2) ∧ (s.wdt (c + 1)).isSome then s1.setWdt (c + 1) (some r)
  else s1

/-- Watchdog `c` has reached its end: it runs, is not paused, and the DTC is at its due value (R68, R423). -/
def wdtExpired (s : State) (c : Nat) : Bool :=
  match s.wdt c with
  | some r => r.paused.isNone && decide (r.due ≤ s.dtcNow)
  | none => false

/-- The expiry of the watchdog of core `c`: it raises its source and reloads (R424); in lockstep the pair raises only the lower
core's source (R423). -/
def wdtCoreExpiry (c : Nat) (s : State) : State :=
  let home := if higherOfPair s c then c - 1 else c
  raise (25 + home) (wdtLoad home s)

/-- The microseconds a watchdog has left, as KP_WDT_CNTc shows them. -/
def wdtLeft (s : State) (c : Nat) : Nat :=
  match s.wdt c with
  | none => 0
  | some r => match r.paused with
    | some l => l
    | none => (r.due - s.dtcNow + 999) / 1000

/-- A watchdog holds its value while the debugger halts its core (R425). -/
def wdtPause (c : Nat) (s : State) : State :=
  match s.wdt c with
  | some r => if r.paused.isNone then s.setWdt c (some { r with paused := some (wdtLeft s c) }) else s
  | none => s

/-- A paused watchdog resumes; fewer than 1,000 microseconds become 1,000 (R425). -/
def wdtResume (c : Nat) (s : State) : State :=
  match s.wdt c with
  | some r => match r.paused with
    | some l => s.setWdt c (some { r with due := s.dtcNow + 1000 * max l 1000, paused := none })
    | none => s
  | none => s

/-- A core is halted by the debugger whose halt watchdog `c` follows: core c, or any core for the device watchdog (R425). -/
def haltsWatchdog (s : State) (c : Nat) : Bool :=
  if c = 4 then (List.range 4).any (fun k => s.rd (F.KP_CORE_STAT.RUN k) 0 == 2) else s.rd (F.KP_CORE_STAT.RUN c) 0 == 2

/-- A write of KP_WDT_CTL: each EN bit that becomes 1 loads and starts its watchdog, each that becomes 0 stops it (R423, R424), and the
watchdogs that a halt concerns pause with DBGPAUSE and run on without it (R425). -/
def wdtControl (v : Word) (s : State) : State :=
  let old := s.rd F.KP_WDT_CTL.EN 0
  let new := F.KP_WDT_CTL.EN.of v
  let pause := F.KP_WDT_CTL.DBGPAUSE.of v == 1
  let s1 := (s.wr F.KP_WDT_CTL.EN 0 new).wr F.KP_WDT_CTL.DBGPAUSE 0 (F.KP_WDT_CTL.DBGPAUSE.of v)
  (List.range 5).foldl (fun t c =>
    let u :=
      if nbit new c && !nbit old c then
        (if c < 4 && higherOfPair t c && (t.wdt (c - 1)).isSome then t.setWdt c (t.wdt (c - 1)) else wdtLoad c t)
      else if !nbit new c && nbit old c then t.setWdt c none
      else t
    if haltsWatchdog s c then (if pause then wdtPause c u else wdtResume c u) else u) s1

/-! ### The commands -/

/-- RAISE: a block raises source `n`. -/
def execRaise (src : Fin 1024) (s : State) : Host.Outcome State Fault Refusal := done (raise src s)

/-- COMPLETE: a write of EVC_COMPLETEc. -/
def execComplete (c : Fin 4) (v : Word) (s : State) : Host.Outcome State Fault Refusal :=
  done (complete c (F.EVC_COMPLETE.SOURCE.of v) s)

/-- EVC_SRC_WRITE. -/
def execEvcSrcWrite (src : Fin 1024) (v : Word) (s : State) : Host.Outcome State Fault Refusal := done (evcSrcWrite src v s)

/-- EVC_SWSET. -/
def execEvcSwset (v : Word) (s : State) : Host.Outcome State Fault Refusal := done (evcSwset v s)

/-- HOLD_OFF_EXPIRY: the window of group `g` closes at its end and the controller evaluates the group's sources (R420). -/
def execHoldOffExpiry (g : Fin 64) (s : State) : Host.Outcome State Fault Refusal :=
  done (guarded (groupOpen s g && decide (sget 0 s.evc.holdEnd g ≤ s.dtcNow)) s (fun s =>
    evaluate ({ s with evc := { s.evc with holdEnd := sset 0 s.evc.holdEnd g 0 } }.off F.EVC_HOLD.OPEN g)))

/-- NOTIFICATION: the delivery of a pending source to its tenant's channel falls due. -/
def execNotification (src : Fin 1024) (s : State) : Host.Outcome State Fault Refusal :=
  done (guarded ((s.src src).st == .pending && s.rd F.EVC_SRC.TKIND src == 1 && !groupOpen s (s.rd F.EVC_SRC.GROUP src)) s
    (deliverTenant src))

/-- Sector `x` is in region `r`. -/
def sectorIn (s : State) (r x : Nat) : Bool := s.flag F.CFG_SECT.INRGN x && s.rd F.CFG_SECT.REGION x == r

/-- FEVT: the device samples event pin `i` of region `r`; `pins` are the sectors whose pin is 1 (R414; log entry 218). -/
def execFevt (r : Fin 64) (i : Fin 4) (pins : List (Fin 320)) (s : State) : Host.Outcome State Fault Refusal :=
  let n := 768 + 4 * r.val + i.val
  let new := b2n (pins.any (fun x => sectorIn s r x && !s.flag F.CFG_SECT.CLOSED x))
  let s1 := { s with evc := { s.evc with fevtLast := sset 0 s.evc.fevtLast n new } }
  done (if sget 0 s.evc.fevtLast n = 0 ∧ new = 1 then raise n s1 else s1)

/-- WATCHDOG_ENABLE: a write of KP_WDT_CTL. -/
def execWatchdogEnable (v : Word) (s : State) : Host.Outcome State Fault Refusal := done (wdtControl v s)

/-- WATCHDOG_EXPIRY: a core's watchdog reaches its end. -/
def execWatchdogExpiry (c : Fin 4) (s : State) : Host.Outcome State Fault Refusal :=
  done (guarded (wdtExpired s c) s (wdtCoreExpiry c))

/-- HALF_TIME: half of the device watchdog's timeout has passed without a kick (R424). -/
def execHalfTime (s : State) : Host.Outcome State Fault Refusal :=
  done (match s.wdt 4 with
    | some r =>
      guarded (r.paused.isNone && !s.evc.wdtHalf && decide (r.due ≤ s.dtcNow + 500 * r.len)) s (fun s =>
        raise 29 { s with evc := { s.evc with wdtHalf := true } })
    | none => s)

/-- WFI: core `c` executes WFI and sleeps, unless a source is offered to it already; a lockstep pair sleeps as one (R418, R419). -/
def execWfi (c : Fin 4) (s : State) : Host.Outcome State Fault Refusal :=
  let home := if higherOfPair s c then c.val - 1 else c.val
  done (guarded (s.rd (F.KP_CORE_STAT.RUN c) 0 == 1 && sget 0 s.evc.offers home == 0) s (fun s =>
    let t := s.on F.EVC_CSTAT.SLEEP home
    evaluate (if lockstep s (home / 2) then t.on F.EVC_CSTAT.SLEEP (home + 1) else t)))

/-- MSIX_ENABLE: the function of head `n` enables or disables MSI-X; once enabled, held deliveries go out (R421, R422). -/
def execMsixEnable (n : Fin 16) (on : Bool) (s : State) : Host.Outcome State Fault Refusal :=
  done (flushHeld n { s with evc := { s.evc with
    msixEn := BitVec.ofNat 16 (nsetBit s.evc.msixEn.toNat n on) } })

/-- The register of core `c`'s claim: the read has the claim's effect. -/
def execClaim (c : Fin 4) (s : State) : Host.Outcome State Fault Refusal :=
  let (n, t) := claim c s
  done { t with rdata := BitVec.ofNat 32 n }

end Sys2Proof.Machine
end

