-- ==== Sys2Proof/Machine/Reset.lean ====
section
/-! DEFINITION. What a device-wide reset leaves (R440–R443) and the start of an attempt (R441, R41 step 2). -/

namespace Sys2Proof.Machine
open Sys2Proof

/-- The registers that keep their value over every device-wide reset but power-on (R443); PWR_SUP_STAT shows the supplies, which a
reset does not change. -/
def survivors : List RegName :=
  [.CLK_MON_CAUSE, .PWR_BOOTCNT, .PWR_RST_CAUSE, .SHX_OWNER, .WRD_GRTMO, .WRD_THERM, .WRD_PWR, .WRD_PINOWN, .WRD_MSG,
   .PWR_SUP_STAT]

/-- The fields that keep their value in registers that otherwise reset: the ward seal, the trip latch with its sensor, and the
latched straps (R368, R382, R61). -/
def survivorFields : List Fld :=
  [F.WRD_STAT.SEALED, F.WRD_THSTAT.TRIP, F.WRD_THSTAT.SENSOR, F.CLK_STRAP.XSEL, F.CLK_STRAP.XDLY, F.CFG_BOOT_STAT.BOOT_MODE,
   F.CFG_BOOT_STAT.BMBAD]

/-- The register store after a device-wide reset other than power-on. -/
def survivingRegs (regs : Sparse Word) : Sparse Word :=
  regs.filter (fun e => (survivors.map (·.ctorIdx)).contains (e.1 % 1024))

/-- Every state a device-wide reset clears, cleared; what no reset reaches, kept: the commands that wait, the count of open values,
the message history, and what is not volatile (R443). -/
def clearedState (s : State) : State :=
  { State.reset with
    pending := s.pending
    freeCtr := s.freeCtr
    memGen := s.memGen + 1
    rdata := s.rdata
    out := s.out
    pin := { PinState.init with pads := s.pin.pads }
    lnk := { LnkState.init with perst := s.lnk.perst }
    pwr := { PwrState.init with lane := s.pwr.lane, vccio := s.pwr.vccio }
    shx := { ShxState.init with floor := s.shx.floor, keys := s.shx.keys, flash := s.shx.flash } }

/-- The start of an attempt at step 2: PWR_BOOTCNT counts it, and a reference that needs no delay is at step 3 (R41, R441). -/
def startAttempt (s : State) : State :=
  let s1 := s.satAdd F.PWR_BOOTCNT.COUNT 0 1
  if s1.flag F.CLK_STRAP.XSEL 0 then { s1 with clk := { s1.clk with step := 2 } }
  else { s1 with clk := { s1.clk with step := 3 } }.wr F.CLK_STRAP.REFKIND 0 1

/-- The state a device-wide reset of class `c` leaves, before the next attempt begins; PWR_RST_CAUSE records the class (R441–R443). -/
def deviceResetHeld (c : Nat) (s : State) : State :=
  let base := { clearedState s with regs := survivingRegs s.regs }
  let s1 := survivorFields.foldl (fun t f => t.wr f 0 (s.rd f 0)) base
  let s2 := { s1 with clk := { s1.clk with koscOn := s.clk.koscOn, strapsLatched := s.clk.strapsLatched, step := 1 } }
  (s2.wr F.PWR_RST_CAUSE.LAST 0 c).wrBit F.PWR_RST_CAUSE.SEEN 0 c true

/-- A device-wide reset whose attempt begins at once at step 2 (R440). -/
def deviceReset (c : Nat) (s : State) : State := startAttempt (deviceResetHeld c s)

/-- Power-on reset: nothing but what is not volatile is kept, and the device is held until the supplies are good (R446).  PWR_SUP_STAT goes on
showing the supplies. -/
def powerOnReset (s : State) : State := (clearedState s).setReg .PWR_SUP_STAT 0 (s.reg .PWR_SUP_STAT 0)

/-- The supplies that domain d needs are present (R432, R453). -/
def supplied (s : State) (d : Nat) : Bool :=
  let i := d % 15
  if i = 10 ∨ i = 11 then nbit (s.rd F.PWR_SUP_STAT.LANE 0) (d / 15)
  else if 12 ≤ i then nbit (s.rd F.PWR_SUP_STAT.VDDQ 0) (3 * (d / 15) + i - 12)
  else true

/-- The first domain of a list whose supplies are present, and the rest. -/
def nextRamp (s : State) : List Nat → Option (Nat × List Nat)
  | [] => none
  | d :: l => if supplied s d then some (d, l) else (nextRamp s l).map (fun p => (p.1, d :: p.2))

/-- Ramps begin while fewer than four run; none begins under the thermal trip (R432, R382). -/
def startRamps : Nat → State → State
  | 0, s => s
  | f + 1, s =>
    if s.flag F.WRD_THSTAT.TRIP 0 ∨ 4 ≤ s.pwr.ramping.length then s
    else match nextRamp s s.pwr.rampQ with
      | none => s
      | some (d, rest) => startRamps f { s with pwr := { s.pwr with ramping := s.pwr.ramping ++ [d], rampQ := rest } }

/-- Domains put in line for their ramps. -/
def queueRamps (ds : List Nat) (s : State) : State :=
  startRamps 4 { s with pwr := { s.pwr with rampQ := s.pwr.rampQ ++ ds } }

/-- A clock-fail reset: CLK_MON_CAUSE records the cause, and a new attempt begins (R61). -/
def clockFail (cause leaf stepNo : Nat) (s : State) : State :=
  deviceReset 2 (((s.wr F.CLK_MON_CAUSE.CAUSE 0 cause).wr F.CLK_MON_CAUSE.LEAF 0 (if cause = 3 then leaf else 0)).wr
    F.CLK_MON_CAUSE.STEP 0 (if cause = 5 then stepNo else 0))

/-- CLOCK_FAIL_RESET. -/
def execClockFailReset (cause : Fin 8) (leaf : Fin 4) (stepNo : Fin 8) (s : State) : Host.Outcome State Fault Refusal :=
  done (guarded (decide (1 ≤ cause.val ∧ cause.val ≤ 5)) s (clockFail cause leaf stepNo))

/-- SUPPLIES_GOOD: power-on reset is released and KOSC is enabled; with nRST_KH low the attempt waits for its release (R41 step 1, R446, R472). -/
def execSuppliesGood (khLow : Bool) (s : State) : Host.Outcome State Fault Refusal :=
  done (guarded (s.clk.step == 0) s (fun s =>
    { s with clk := { s.clk with step := 1, koscOn := true }, kh := { s.kh with held := khLow } }))

/-- POWER_ON_RESET. -/
def execPowerOnReset (s : State) : Host.Outcome State Fault Refusal := done (powerOnReset s)

/-- KICK: each watchdog named is reloaded, one that has reached its end after its expiry (R423, R424). -/
def kickWrite (v : Word) (s : State) : State :=
  let named := F.KP_WDT_KICK.KICK.of v
  if nbit named 4 && wdtExpired s 4 then deviceReset 3 s
  else (List.range 5).foldl (fun t c =>
    if nbit named c && (t.wdt c).isSome && !(c < 4 && higherOfPair t c) then
      wdtLoad c (if c < 4 && wdtExpired t c then wdtCoreExpiry c t else t)
    else t) s

/-- KICK. -/
def execKick (v : Word) (s : State) : Host.Outcome State Fault Refusal := done (kickWrite v s)

/-- DEVICE_WATCHDOG_RESET: the device watchdog reaches its end (R424, R426). -/
def execDeviceWatchdogReset (s : State) : Host.Outcome State Fault Refusal :=
  done (guarded (wdtExpired s 4) s (deviceReset 3))

end Sys2Proof.Machine
end

