-- ==== Sys2Proof/Machine/Wards.lean ====
section
/-! DEFINITION. The wards (R370–R384): the log, the host-memory windows, link messages, tenant grants, the power throttle, and the
lockstep checker of the Keeper cores. -/

namespace Sys2Proof.Machine
open Sys2Proof

/-! ### The ward log -/

/-- A record put on the log ring; a full ring loses it and WRD_LOGLOST counts it (R386). -/
def wardLog (kind tenant detail addr : Nat) (s : State) : State :=
  let n := s.rd F.WRD_LOGCTL.COUNT 0
  if n = 32 then s.satAdd F.WRD_LOGLOST.COUNT 0 1
  else
    let m := (s.rd F.WRD_LOGCTL.HEAD 0 + n) % 32
    let s1 := ((s.wr F.WRD_LOG_W0.KIND (4 * m) kind).wr F.WRD_LOG_W0.TENANT (4 * m) tenant).wr F.WRD_LOG_W0.DETAIL (4 * m) detail
    let s2 := s1.wr F.WRD_LOG_W1.ADDR (4 * m + 1) addr
    let s3 := (s2.wr F.WRD_LOG_W2.DTC_LO (4 * m + 2) s.stamp).wr F.WRD_LOG_W3.DTC_HI (4 * m + 3) (s.stamp / 2 ^ 32)
    s3.wr F.WRD_LOGCTL.COUNT 0 (n + 1)

/-- The oldest record is discarded; with none held, nothing happens. -/
def wardLogPop (v : Word) (s : State) : State :=
  let n := s.rd F.WRD_LOGCTL.COUNT 0
  if F.WRD_LOGCTL.POP.of v = 1 ∧ n ≠ 0 then
    (s.wr F.WRD_LOGCTL.HEAD 0 (s.rd F.WRD_LOGCTL.HEAD 0 + 1)).wr F.WRD_LOGCTL.COUNT 0 (n - 1)
  else s

/-- A violation whose victim is tenant `n` (R384). -/
def vio (n : Nat) (s : State) : State := s.satAdd F.WRD_VIO.COUNT n 1

/-! ### Host-memory windows -/

/-- The register index of word `k` of window `w` of tenant `n`. -/
def hwin (n w k : Nat) : Nat := (n * 16 + w) * 3 + k

/-- Window `w` of tenant `n` holds the whole request and gives the permission it needs (R371, R372). -/
def windowHolds (s : State) (n w addr len : Nat) (write : Bool) : Bool :=
  let base := s.rd F.WRD_HWIN0.BASE_LO (hwin n w 0) * 4096 + s.rd F.WRD_HWIN1.BASE_HI (hwin n w 1) * 2 ^ 32
  let size := (s.rd F.WRD_HWIN2.PAGES (hwin n w 2) + 1) * 4096
  s.flag F.WRD_HWIN0.VALID (hwin n w 0) && s.flag (if write then F.WRD_HWIN0.W else F.WRD_HWIN0.R) (hwin n w 0) &&
    decide (base ≤ addr) && decide (addr + len ≤ base + size)

/-- One valid window of tenant `n` admits the whole request. -/
def windowAdmits (s : State) (n addr len : Nat) (write : Bool) : Bool :=
  (List.range 16).any (fun w => windowHolds s n w addr len write)

/-- The windows and grants of tenant `n` cleared (R371, R376). -/
def clearWindowsGrants (n : Nat) (s : State) : State :=
  let s1 := (List.range 48).foldl (fun t k => t.setReg .WRD_HWIN (48 * n + k) 0) s
  (List.range 4).foldl (fun t k =>
    { t with kp := { t.kp with grantAt := sset 0 t.kp.grantAt (4 * n + k) 0 } }.setReg .WRD_GRANT (4 * n + k) 0) s1

/-! ### Tenant grants -/

/-- Grant slot `k` of tenant `n` is armed and has not expired (R376). -/
def grantLive (s : State) (n k : Nat) : Bool :=
  s.rd F.WRD_GRANT.OP (4 * n + k) != 0 &&
    !s.expired (sget 0 s.kp.grantAt (4 * n + k)) (1000000 * s.rd F.WRD_GRTMO.TMO 0)

/-- The oldest of a list of slots of tenant `n`; the lowest on a tie. -/
def oldestGrant (s : State) (n : Nat) : List Nat → Option Nat
  | [] => none
  | k :: l => match oldestGrant s n l with
    | none => some k
    | some j => if sget 0 s.kp.grantAt (4 * n + k) ≤ sget 0 s.kp.grantAt (4 * n + j) then some k else some j

/-- The oldest live grant of tenant `n` for the operation and object. -/
def findGrant (s : State) (n op obj : Nat) : Option Nat :=
  oldestGrant s n ((List.range 4).filter (fun k =>
    grantLive s n k && s.rd F.WRD_GRANT.OP (4 * n + k) == op && s.rd F.WRD_GRANT.OBJ (4 * n + k) == obj))

/-- Grant slot `k` of tenant `n` freed. -/
def freeGrant (n k : Nat) (s : State) : State :=
  { s with kp := { s.kp with grantAt := sset 0 s.kp.grantAt (4 * n + k) 0 } }.setReg .WRD_GRANT (4 * n + k) 0

/-- The grants of tenant `n` for the operation and object, freed. -/
def freeGrants (n op obj : Nat) (s : State) : State :=
  ((List.range 4).filter (fun k => s.rd F.WRD_GRANT.OP (4 * n + k) == op && s.rd F.WRD_GRANT.OBJ (4 * n + k) == obj)).foldl
    (fun t k => freeGrant n k t) s

/-- A grant armed by tenant `n`: in the lowest free slot, or in place of the oldest; a reserved OP arms nothing (R376, R8). -/
def armGrant (n : Nat) (v : Word) (s : State) : State :=
  let op := F.WRD_GRANT.OP.of v
  if op = 0 ∨ 4 < op then s
  else
    let free := (List.range 4).filter (fun k => !grantLive s n k)
    let k := match free with
      | k :: _ => k
      | [] => (oldestGrant s n [0, 1, 2, 3]).getD 0
    let s1 := { s with kp := { s.kp with grantAt := sset 0 s.kp.grantAt (4 * n + k) s.stamp } }.setReg .WRD_GRANT (4 * n + k) 0
    (s1.wr F.WRD_GRANT.OP (4 * n + k) op).wr F.WRD_GRANT.OBJ (4 * n + k) (F.WRD_GRANT.OBJ.of v)

/-- GRANT: host software of tenant `n` writes SHX_GRANT. -/
def execGrant (n : Fin 16) (v : Word) (s : State) : Host.Outcome State Fault Refusal := done (armGrant n v s)

/-- GRANT_EXPIRY: the grant's lifetime ends and its slot is free. -/
def execGrantExpiry (n : Fin 16) (k : Fin 4) (s : State) : Host.Outcome State Fault Refusal :=
  done (guarded (s.rd F.WRD_GRANT.OP (4 * n.val + k.val) != 0 && !grantLive s n k) s (freeGrant n k))

/-! ### Link messages -/

/-- The tokens missing from the bucket of head `n` now, in thousandths: RATE tokens come back per microsecond (R375). -/
def bucketMissing (s : State) (n : Nat) : Nat :=
  let b := sget ⟨0, 0⟩ s.kp.bucket n
  b.missing - (s.dtcNow - b.at_) * s.rd F.WRD_MSG.RATE n

/-- How many tokens a message takes (R375). -/
def tokensOf : KpMessage → Nat
  | .memRead _ _ len => max 1 ((len + 63) / 64)
  | .memWrite _ _ len => max 1 ((len + 63) / 64)
  | .msix _ => 1
  | .other => 1

/-- The bucket of head `n` holds the tokens the message takes. -/
def tokensThere (s : State) (n : Nat) (m : KpMessage) : Bool :=
  decide (bucketMissing s n + 1000 * tokensOf m ≤ 1000 * s.rd F.WRD_MSG.BURST n)

/-- A message leaves head `n` and takes its tokens. -/
def sendMessage (n : Nat) (m : KpMessage) (s : State) : State :=
  let s1 := { s with kp := { s.kp with
    bucket := sset ⟨0, 0⟩ s.kp.bucket n ⟨bucketMissing s n + 1000 * tokensOf m, s.dtcNow⟩ } }
  match m with
  | .memRead _ a l => { s1 with out := s1.out ++ [.keeperMem n false a.toNat l (s1.toHost n)] }
  | .memWrite _ a l => { s1 with out := s1.out ++ [.keeperMem n true a.toNat l (s1.toHost n)] }
  | .msix v => issueMsix n v s1
  | .other => s1

/-- An admitted message is sent, or held in order behind a token (R375). -/
def admitMessage (n : Nat) (m : KpMessage) (s : State) : State :=
  let q := sget [] s.kp.heldMsgs n
  if q.isEmpty && tokensThere s n m then sendMessage n m s
  else { s with kp := { s.kp with heldMsgs := sset [] s.kp.heldMsgs n (q ++ [m]) } }.satAdd F.WRD_MSGSTAT.COUNT n 1

/-- The Keeper DMA channel that makes a message; none for the firmware's own (R374). -/
def messageChannel : KpMessage → Option Nat
  | .memRead c _ _ => some c
  | .memWrite c _ _ => some c
  | .msix _ => none
  | .other => none

/-- Keeper DMA channel c stalls: a message of its waits for a token (R375). -/
def dmaStalls (s : State) (c : Nat) : Bool :=
  (List.range 16).any (fun n => (sget [] s.kp.heldMsgs n).any (fun m => messageChannel m == some c))

/-- A message is not made: its channel stalls. -/
def messageStalls (s : State) (m : KpMessage) : Bool := (messageChannel m).any (dmaStalls s)

/-- A Keeper DMA channel stops on an ERROR response, records its code and raises source 31 (R365, R413). -/
def dmaStop (c code : Nat) (s : State) : State :=
  raise 31 (((({ s with kp := { s.kp with dmaLeft := sset 0 s.kp.dmaLeft c 0 } }).off F.KP_DMA_STAT.BUSY c).on
    F.KP_DMA_STAT.ERR c).wr F.KP_DMA_STAT.CODE c code)

/-- A request outside the windows: not sent, answered with code 0x02, logged and counted (R372). -/
def windowRefused (n c addr : Nat) (s : State) : State := dmaStop c 2 (vio n (wardLog 0 n 0 addr s))

/-- LINK_MESSAGE: the ward of the link port checks a Keeper message to head `n`; a channel that stalls makes none (R372, R374, R375). -/
def execLinkMessage (n : Fin 16) (msg : KpMessage) (s : State) : Host.Outcome State Fault Refusal :=
  done (guarded (!messageStalls s msg) s (fun s => match msg with
    | .memRead c a l => if windowAdmits s n a.toNat l false then admitMessage n msg s else windowRefused n c a.toNat s
    | .memWrite c a l => if windowAdmits s n a.toNat l true then admitMessage n msg s else windowRefused n c a.toNat s
    | .msix v => if v < 32 then admitMessage n msg s else vio n (wardLog 1 n 0 0 s)
    | .other => vio n (wardLog 1 n 0 0 s)))

/-- HELD_MESSAGE_RELEASE: a token has accrued and the oldest held message of head `n` is sent. -/
def execHeldMessageRelease (n : Fin 16) (s : State) : Host.Outcome State Fault Refusal :=
  done (match sget [] s.kp.heldMsgs n with
    | [] => s
    | m :: q => guarded (tokensThere s n m) s (fun s =>
        sendMessage n m { s with kp := { s.kp with heldMsgs := sset [] s.kp.heldMsgs n q } }))

/-! ### Power -/

/-- ALERT_N follows the thermal warning and the throttle (R381, R383). -/
def alertPin (s : State) : State :=
  { s with kp := { s.kp with alertLow := s.flag F.WRD_THSTAT.ALERT 0 || s.flag F.WRD_PWRSTAT.THROTTLE 0 } }

/-- POWER_AVERAGE: a 1 ms average in quarter watts adjusts the throttle (R383).  OVER is set by an average above PLIM with k already
12 (log entry 7). -/
def execPowerAverage (watts : BitVec 12) (s : State) : Host.Outcome State Fault Refusal :=
  let w := watts.toNat
  let plim := 4 * s.rd F.WRD_PWR.PLIM 0
  let k := s.rd F.WRD_PWRSTAT.THROTTLE 0
  let s1 := s.wr F.WRD_PWRSTAT.WATTS 0 w
  done (alertPin (
    if plim < w then
      (if k < 12 then s1.wr F.WRD_PWRSTAT.THROTTLE 0 (k + 1)
       else if s1.flag F.WRD_PWRSTAT.OVER 0 then s1
       else raise 24 (wardLog 6 31 0 0 (s1.on F.WRD_PWRSTAT.OVER 0)))
    else if 100 * w < 95 * plim then s1.wr F.WRD_PWRSTAT.THROTTLE 0 (k - 1)
    else s1))

/-- WRD_LOG_POP: a write of WRD_LOGCTL. -/
def execWrdLogPop (v : Word) (s : State) : Host.Outcome State Fault Refusal := done (wardLogPop v s)

/-! ### Keeper cores -/

/-- The record of core `c`. -/
def State.core (s : State) (c : Nat) : CoreRec := sget .idle s.kp.core c

/-- The state with the record of core `c` replaced. -/
def State.setCore (s : State) (c : Nat) (r : CoreRec) : State := { s with kp := { s.kp with core := sset .idle s.kp.core c r } }

/-- A core takes the access-fault exception of an ERROR response (R365). -/
def coreAccessFault (c : Nat) (f : AccessFault) (s : State) : State := s.setCore c { s.core c with fault := some f }

/-- LOCKSTEP_MISMATCH: both cores of the pair stop until the next device-wide reset (R363). -/
def execLockstepMismatch (q : Fin 2) (s : State) : Host.Outcome State Fault Refusal :=
  done (guarded (lockstep s q && s.rd (F.KP_CORE_STAT.RUN (2 * q.val)) 0 != 3) s (fun s =>
    let stop (c : Nat) (t : State) : State := (t.wr (F.KP_CORE_STAT.RUN c) 0 3).on (F.KP_CORE_STAT.MISMATCH c) 0
    raise (22 + q.val) (((stop (2 * q.val + 1) (stop (2 * q.val) s)).satAdd F.KP_LSERR.COUNT 0 1))))

/-- DMA_START: a write of KP_DMAc_DESC; the channel starts on its chain of `transfers` transfers when it is not busy (R362, R385).
The format of a descriptor is not in the spec: the operand says what the chain holds (log entry 8). -/
def dmaStart (c : Nat) (v : Word) (transfers : Nat) (s : State) : State :=
  let a := F.KP_DMA_DESC.ADDR.of v
  let s1 := if a % 32 = 0 then s.wr F.KP_DMA_DESC.ADDR c a else s
  if s.flag F.KP_DMA_STAT.BUSY c ∨ transfers = 0 then s1
  else { s1 with kp := { s1.kp with dmaLeft := sset 0 s1.kp.dmaLeft c transfers } }.on F.KP_DMA_STAT.BUSY c

/-- DMA_START. -/
def execDmaStart (c : Fin 8) (v : Word) (transfers : Nat) (s : State) : Host.Outcome State Fault Refusal :=
  done (dmaStart c v transfers s)

end Sys2Proof.Machine
end

