-- ==== Sys2Proof/Machine/Clock.lean ====
section
/-! DEFINITION. The clock root (R37–R71): start-up, the root multiplier, dividers, source switches, the monitors and the DTC. -/

namespace Sys2Proof.Machine
open Sys2Proof

/-! ### Start-up -/

/-- KOSC_STABLE: the straps are latched, and step 2 of the first attempt follows, once nRST_KH is high (R37, R325, R41, R472). -/
def execKoscStable (xsel : BitVec 1) (xdly : BitVec 2) (bootMode : BitVec 3) (s : State) : Host.Outcome State Fault Refusal :=
  done (guarded (s.clk.step == 1 && s.clk.koscOn && !s.clk.strapsLatched) s (fun s =>
    let latched := ((s.wr F.CLK_STRAP.XSEL 0 xsel.toNat).wr F.CLK_STRAP.XDLY 0 xdly.toNat).wr
      F.CFG_BOOT_STAT.BOOT_MODE 0 bootMode.toNat
    let latched := latched.wr F.CFG_BOOT_STAT.BMBAD 0 (b2n (decide (5 ≤ bootMode.toNat)))
    let latched := { latched with clk := { latched.clk with strapsLatched := true } }
    if s.kh.held then latched else startAttempt latched))

/-- The edges and span of a window, as a frequency in units of 10 kHz: `edges - 1` periods over `span` eighths of a KOSC cycle of
2.5 ns (R57); the spec does not say how the result is rounded to those units: it is rounded down (DESIGN CHOICE, log entry 188). -/
def windowFreq (w : RefWindow) : Nat := (w.edges - 1) * 320000 / w.span

/-- The window is within 5 % of `nominal`, in units of 10 kHz, with two edges or more (R57). -/
def windowInRange (w : RefWindow) (nominal : Nat) : Bool :=
  let a := (w.edges - 1) * 320000
  let b := w.span * nominal
  decide (2 ≤ w.edges) && decide (95 * b ≤ 100 * a) && decide (100 * a ≤ 105 * b)

/-- CRYSTAL_DELAY_COMPLETE: the crystal is measured and its kind identified; any other result counts as an absent reference (R39). -/
def execCrystalDelayComplete (w : RefWindow) (s : State) : Host.Outcome State Fault Refusal :=
  done (guarded (s.clk.step == 2) s (fun s =>
    let kind := if windowInRange w 2500 then 2 else if windowInRange w 5000 then 3 else 0
    { s with clk := { s.clk with step := 3 } }.wr F.CLK_STRAP.REFKIND 0 kind))

/-- REFERENCE_PRESENT: step 4. -/
def execReferencePresent (s : State) : Host.Outcome State Fault Refusal :=
  done (guarded (s.clk.step == 3 && s.rd F.CLK_STRAP.REFKIND 0 != 0) s (fun s => { s with clk := { s.clk with step := 4 } }))

/-- ROOT_PLL_LOCK: step 5, or the same within a commanded relock. -/
def execRootPllLock (s : State) : Host.Outcome State Fault Refusal :=
  let locked (t : State) : State := (t.wr F.CLK_ROOT_STAT.LOCK 0 0xF).wrBit F.CLK_ROOT_STAT.ALIGNED 0 0 true
  done (if s.clk.step = 4 then locked { s with clk := { s.clk with step := 5 } }
    else if s.flag F.CLK_ROOT_STAT.RELOCK 0 then locked s
    else s)

/-- The increment of the DTC computed from MULT (R65). -/
def setDtcInc (s : State) : State :=
  let inc := dtcIncFor (s.rd F.CLK_ROOT_CFG.MULT 0)
  (s.wr F.CLK_DTC_INC.VALUE 0 (inc % 2 ^ 32)).wr F.CLK_DTC_INC_HI.VALUE 0 (inc / 2 ^ 32)

/-- A new epoch: every leaf locked and aligned, and N counts from 0 (R41 step 7, R48). -/
def setEpoch (s : State) : State :=
  let s1 := ((s.wr F.CLK_ROOT_STAT.LOCK 0 0xF).wr F.CLK_ROOT_STAT.ALIGNED 0 0xF).on F.CLK_ROOT_STAT.EPOCH 0
  { s1 with clk := { s1.clk with rootEdges := 0, edgeAt := [], eckAt := [], lockRun := [], phaseRun := [] } }

/-- LEAF_ALIGNED: steps 6 and 7; the epoch is set, the DTC starts at 0, the monitors start, and every domain waits for its ramp (R41, R63,
R447). -/
def execLeafAligned (s : State) : Host.Outcome State Fault Refusal :=
  done (guarded (s.clk.step == 5) s (fun s =>
    let s1 := setDtcInc (setEpoch s)
    let s2 := { s1 with clk := { s1.clk with
      step := 7, dtc := 0, dtcHeld := false, refMissing := false, lrefIn := [], lrefOut := [] } }
    queueRamps (List.range 60) ((s2.wr F.CLK_MON_STAT.RUN 0 0).wr F.CLK_LREF_STAT.PRESENT 0 0)))

/-- STARTUP_TIMEOUT: step 4, 5 or 6 has not completed in its 1 ms (R42). -/
def execStartupTimeout (s : State) : Host.Outcome State Fault Refusal :=
  done (guarded (decide (3 ≤ s.clk.step ∧ s.clk.step ≤ 5)) s (clockFail 5 0 (s.clk.step + 1)))

/-! ### The root multiplier -/

/-- KCK or CCK is sourced from the root (R43): its switch is set to the root, or the root still drives it (log entry 9). -/
def onRoot (s : State) : Bool :=
  s.flag F.CLK_KCK_CTL.SRC 0 || s.flag F.CLK_CCK_CTL.SRC 0 || s.clk.kckRoot || s.clk.cckRoot

/-- The written MULT is a write of MULT: valid, and not the one in force (R43). -/
def isMultWrite (s : State) (v : Word) : Bool :=
  let m := F.CLK_ROOT_CFG.MULT.of v
  decide (64 ≤ m ∧ m ≤ 96) && m != s.rd F.CLK_ROOT_CFG.MULT 0

/-- A relock at multiplier `m`: the PLLs leave lock, the DTC holds, and the increment follows MULT (R43, R45, R65). -/
def startRelock (m : Nat) (s : State) : State :=
  let s1 := ((s.wr F.CLK_ROOT_CFG.MULT 0 m).wr F.CLK_ROOT_STAT.LOCK 0 0).wr F.CLK_ROOT_STAT.ALIGNED 0 0
  let s2 := setDtcInc ((s1.on F.CLK_ROOT_STAT.RELOCK 0).off F.CLK_ROOT_STAT.EPOCH 0)
  { s2 with clk := { s2.clk with dtcHeld := true, lockRun := [], phaseRun := [] } }

/-- A write of CLK_ROOT_CFG: MULT is judged first, then the seal takes effect (R43, R44). -/
def rootCfgWrite (v : Word) (s : State) : State :=
  let s1 := if isMultWrite s v then
      (if onRoot s || s.flag F.CLK_ROOT_CFG.SEALED 0 then s.on F.CLK_ROOT_STAT.REJECT 0
       else startRelock (F.CLK_ROOT_CFG.MULT.of v) s)
    else s
  if F.CLK_ROOT_CFG.SEALED.of v = 1 then s1.on F.CLK_ROOT_CFG.SEALED 0 else s1

/-- MULT_WRITE: a write of CLK_ROOT_CFG. -/
def execMultWrite (v : Word) (s : State) : Host.Outcome State Fault Refusal := done (rootCfgWrite v s)

/-- ROOT_SEAL. -/
def execRootSeal (s : State) : Host.Outcome State Fault Refusal := done (s.on F.CLK_ROOT_CFG.SEALED 0)

/-- RELOCK_COMPLETE: a new epoch; the DTC goes on from the value it held (R43). -/
def execRelockComplete (s : State) : Host.Outcome State Fault Refusal :=
  done (guarded (s.flag F.CLK_ROOT_STAT.RELOCK 0) s (fun s =>
    let s1 := (setEpoch s).off F.CLK_ROOT_STAT.RELOCK 0
    { s1 with clk := { s1.clk with dtcHeld := false } }))

/-- The lowest leaf whose PLL is out of lock or whose phase is out of range; 0 with none. -/
def unlockedLeaf (s : State) : Nat :=
  ((List.range 4).find? (fun l => !(nbit (s.rd F.CLK_ROOT_STAT.LOCK 0) l && nbit (s.rd F.CLK_ROOT_STAT.ALIGNED 0) l))).getD 0

/-- RELOCK_TIMEOUT: a commanded relock has not ended within 1 ms (R45). -/
def execRelockTimeout (s : State) : Host.Outcome State Fault Refusal :=
  done (guarded (s.flag F.CLK_ROOT_STAT.RELOCK 0) s (clockFail 3 (unlockedLeaf s) 0))

/-- A condition of R46 has lasted 16 monitor windows on the leaf: its PLL out of lock, or its phase error out of range. -/
def alignFault (s : State) (leaf : Nat) : Bool :=
  decide (16 ≤ sget 0 s.clk.lockRun leaf) || decide (16 ≤ sget 0 s.clk.phaseRun leaf)

/-- ALIGNMENT_FAULT: a condition of R46 has lasted 16 monitor windows on the leaf. -/
def execAlignmentFault (leaf : Fin 4) (s : State) : Host.Outcome State Fault Refusal :=
  done (guarded (alignFault s leaf) s (clockFail 3 leaf 0))

/-! ### Dividers -/

/-- A divider's register, its index, and the range and maximum of its divisor, in MHz (R47). -/
def divReg : ClkDiv → RegName × Nat × Nat × Nat × Nat
  | .fck n => (.CLK_FCK, n, 8, 1024, 1200)
  | .eck l => (.CLK_ECK, l, 5, 64, 1280)
  | .mck c => (.CLK_MCK, c, 8, 32, 800)

/-- How many bits a domain's divisor fields have; the bits above them are reserved. -/
def divWidth : ClkDiv → Nat
  | .fck _ => 11
  | .eck _ => 7
  | .mck _ => 6

/-- The divisor in force. -/
def divNow (s : State) (d : ClkDiv) : Nat := let (r, i, _) := divReg d; getF (s.reg r i) 16 11

/-- The divisor that the next commit applies. -/
def divNext (s : State) (d : ClkDiv) : Nat := let (r, i, _) := divReg d; getF (s.reg r i) 0 11

/-- The divider runs. -/
def divOn (s : State) (d : ClkDiv) : Bool := let (r, i, _) := divReg d; nbit (s.reg r i).toNat 31

/-- A divisor is no reserved encoding: in range, and not above the domain's maximum at the root in force (R51). -/
def divLegal (s : State) (d : ClkDiv) (v : Nat) : Bool :=
  let (_, _, lo, hi, mhz) := divReg d
  decide (lo ≤ v ∧ v ≤ hi) && decide (100 * s.rd F.CLK_ROOT_CFG.MULT 0 ≤ mhz * v)

/-- The enable of a divider written; the first 1 to any of them seals the root (R44, R49). -/
def divEnable (d : ClkDiv) (en : Bool) (s : State) : State :=
  let (r, i, _) := divReg d
  let s1 := s.setReg r i (setF (s.reg r i) 31 1 (b2n en))
  if en then s1.on F.CLK_ROOT_CFG.SEALED 0 else s1

/-- A write of a divider's register: DIV_NEXT unless the encoding is reserved, and EN (R51, R49). -/
def divWrite (d : ClkDiv) (v : Word) (s : State) : State :=
  let (r, i, _) := divReg d
  let next := getF v 0 (divWidth d)
  divEnable d (nbit v.toNat 31) (if divLegal s d next then s.setReg r i (setF (s.reg r i) 0 11 next) else s)

/-- DIVIDER_ENABLE. -/
def execDividerEnable (d : ClkDiv) (en : Bool) (s : State) : Host.Outcome State Fault Refusal := done (divEnable d en s)

/-- Divider `d` commits to divisor `v` at the root edge now (R50). -/
def commitDivisor (d : ClkDiv) (v : Nat) (s : State) : State :=
  { s with clk := { s.clk with committed := s.clk.committed.filter (fun e => e.1 != d) ++ [(d, v, s.clk.rootEdges)] } }

/-- The divisor of `d` takes effect. -/
def applyDivisor (d : ClkDiv) (v : Nat) (s : State) : State :=
  let (r, i, _) := divReg d
  s.setReg r i (setF (s.reg r i) 16 11 v)

/-- The root edge at which a committed change of one divider takes effect: the first after the commit that is a multiple of the least common
multiple of the old and the new divisor (R50); changes that the mode sequencer commits together have theirs at COMMIT. -/
def changeEdge (s : State) (e : ClkDiv × Nat × Nat) : Nat :=
  let m := Nat.lcm (divNow s e.1) e.2.1
  (e.2.2 / m + 1) * m

/-- DIVISOR_CHANGE: at root edge `n` the committed changes whose edge it is take effect (R50). -/
def execDivisorChange (n : Nat) (s : State) : Host.Outcome State Fault Refusal :=
  let due := s.clk.committed.filter (fun e => changeEdge s e == n)
  done (guarded (!due.isEmpty) s (fun s =>
    let s1 := due.foldl (fun t e => applyDivisor e.1 e.2.1 t) s
    { s1 with clk := { s1.clk with committed := s1.clk.committed.filter (fun e => !due.contains e) } }))

/-- The next rising edge of global network n at a sector, as its root edge: the next multiple of the divisor after the last edge the sector has
seen, and not before the last TBC edge (R48, R49; log entry 220). -/
def nextEdge (s : State) (x n : Nat) : Nat :=
  let d := divNow s (.fck (Fin.ofNat 32 n))
  let last := sget 0 s.clk.edgeAt (32 * x + n)
  max ((last / d + 1) * d) ((s.clk.rootEdges + d - 1) / d * d)

/-- Global network n has its next rising edge at sector x: the root has an epoch and the divider runs (R48, R49). -/
def netTicks (s : State) (n : Nat) : Bool := s.flag F.CLK_ROOT_STAT.EPOCH 0 && divOn s (.fck (Fin.ofNat 32 n))

/-- That edge has come. -/
def noteEdge (x n : Nat) (s : State) : State :=
  { s with clk := { s.clk with edgeAt := sset 0 s.clk.edgeAt (32 * x + n) (nextEdge s x n) } }

/-- At throttle level k, ECK of a leaf suppresses the first k of every 16 rising edges, counted from the epoch (R383): the root edge of the first
that is left at or after root edge m. -/
def eckEdgeFrom (s : State) (leaf m : Nat) : Nat :=
  let d := divNow s (.eck (Fin.ofNat 4 leaf))
  let k := s.rd F.WRD_PWRSTAT.THROTTLE 0
  let j := (m + d - 1) / d
  (if j % 16 < k then j / 16 * 16 + k else j) * d

/-- The next rising edge of ECK at engine e: after the last that it has seen, and not before the last TBC edge (R48, R383; log entry 220). -/
def nextEck (s : State) (e : Nat) : Nat :=
  max (eckEdgeFrom s (e / 128) (sget 0 s.clk.eckAt e + 1)) (eckEdgeFrom s (e / 128) s.clk.rootEdges)

/-- That edge has come. -/
def noteEck (e : Nat) (s : State) : State := { s with clk := { s.clk with eckAt := sset 0 s.clk.eckAt e (nextEck s e) } }

/-! ### Source switches -/

/-- The fields of a switch: its source select, BUSY and FORCED. -/
def swFields : SwDomain → Fld × Fld × Fld
  | .kck => (F.CLK_KCK_CTL.SRC, F.CLK_SW_STAT.BUSY_KCK, F.CLK_SW_STAT.FORCED_KCK)
  | .cck => (F.CLK_CCK_CTL.SRC, F.CLK_SW_STAT.BUSY_CCK, F.CLK_SW_STAT.FORCED_CCK)

/-- The write of SRC that waits for the switch in progress. -/
def swHeld (s : State) : SwDomain → Option Bool
  | .kck => s.clk.kckHeld
  | .cck => s.clk.cckHeld

/-- The state with the waiting write replaced. -/
def setSwHeld (d : SwDomain) (h : Option Bool) (s : State) : State :=
  match d with
  | .kck => { s with clk := { s.clk with kckHeld := h } }
  | .cck => { s with clk := { s.clk with cckHeld := h } }

/-- The state with the clock that drives the domain replaced. -/
def setDriver (d : SwDomain) (root : Bool) (s : State) : State :=
  match d with
  | .kck => { s with clk := { s.clk with kckRoot := root } }
  | .cck => { s with clk := { s.clk with cckRoot := root } }

/-- A write of SRC: a change starts the switch; while one is in progress the write is held, the last one winning (R54, R56). -/
def srcWrite (d : SwDomain) (root : Bool) (s : State) : State :=
  let (src, busy, _) := swFields d
  if s.flag busy 0 then setSwHeld d (some root) s
  else if s.rd src 0 = b2n root then s
  else (s.wr src 0 (b2n root)).on busy 0

/-- SOURCE_SWITCH. -/
def execSourceSwitch (d : SwDomain) (root : Bool) (s : State) : Host.Outcome State Fault Refusal := done (srcWrite d root s)

/-- SWITCH_COMPLETE: the new clock drives; a held write of SRC is applied (R54, R56). -/
def execSwitchComplete (d : SwDomain) (s : State) : Host.Outcome State Fault Refusal :=
  let (src, busy, _) := swFields d
  done (guarded (s.flag busy 0) s (fun s =>
    let s1 := setSwHeld d none ((setDriver d (s.flag src 0) s).off busy 0)
    match swHeld s d with
    | some root => srcWrite d root s1
    | none => s1))

/-- FORCED_SWITCH: step 1 has not completed in 16 cycles of the new clock; the output is forced low and FORCED is set (R55). -/
def execForcedSwitch (d : SwDomain) (s : State) : Host.Outcome State Fault Refusal :=
  let (_, busy, forced) := swFields d
  done (guarded (s.flag busy 0) s (fun s => s.on forced 0))

/-- The domain is sourced from the root: its source select says so, or the root still drives it during a switch (R51, log entry 9). -/
def sourcedFromRoot (s : State) (d : SwDomain) : Bool :=
  s.flag (swFields d).1 0 || (match d with
    | .kck => s.clk.kckRoot
    | .cck => s.clk.cckRoot)

/-- A write of KCK's or CCK's control register: the divisor unless reserved, and the source (R51, R54).  The divisor is judged by the source as it
stood before the write, so a write that sets SRC and carries a divisor too fast for the root takes both (DESIGN CHOICE, log entry 189). -/
def swCtlWrite (d : SwDomain) (v : Word) (s : State) : State :=
  let div := getF v 0 7
  let (fld, lo, hi) := match d with
    | .kck => (F.CLK_KCK_CTL.DIV, 8, 16)
    | .cck => (F.CLK_CCK_CTL.DIV, 12, 64)
  let fast := sourcedFromRoot s d && decide (800 * div < 100 * s.rd F.CLK_ROOT_CFG.MULT 0)
  srcWrite d (nbit v.toNat 8) (if lo ≤ div ∧ div ≤ hi ∧ !fast then s.wr fld 0 div else s)

/-! ### Monitors -/

/-- The nominal frequency of the selected reference in units of 10 kHz (R57). -/
def nominalRef (s : State) : Nat :=
  match s.rd F.CLK_STRAP.REFKIND 0 with
  | 2 => 2500
  | 3 => 5000
  | _ => 10000

/-- The actions of the first out-of-range window of a run (R59). -/
def firstOutOfRange (s : State) : State :=
  let s1 := if s.flag F.CLK_MON_CTL.AUTOSW 0 then
      (if s.flag F.CLK_KCK_CTL.SRC 0 || s.clk.kckHeld == some true then
        (srcWrite .kck false s).on F.CLK_MON_STAT.AUTOSW_DONE 0
       else s)
    else s
  if s1.flag F.CLK_MON_CTL.EVT_EN 0 then raise 0 s1 else s1

/-- A signed phase error in 2 ps units is outside 20 ps (R46). -/
def phaseOut (e : BitVec 8) : Bool := decide (10 < e.toInt.natAbs)

/-- A run of consecutive windows per leaf, with one more window. -/
def countRun (bad : Nat → Bool) (run : Sparse Nat) : Sparse Nat :=
  (List.range 4).foldl (fun m l => sset 0 m l (if bad l then min 16 (sget 0 m l + 1) else 0)) run

/-- The phase errors and locks of a window: shown, and each condition counted per leaf unless a commanded relock masks the detector (R45, R46,
R71). -/
def alignWindow (errs : List (BitVec 8)) (lock : BitVec 4) (s : State) : State :=
  let e (k : Nat) : BitVec 8 := errs.getD k 0
  let unlocked (l : Nat) : Bool := !nbit lock.toNat l
  let out (l : Nat) : Bool := l != 0 && phaseOut (e (l - 1))
  let s1 := ((s.wr F.CLK_ALIGN_ERR.ERR_L1 0 (e 0).toNat).wr F.CLK_ALIGN_ERR.ERR_L2 0 (e 1).toNat).wr
    F.CLK_ALIGN_ERR.ERR_L3 0 (e 2).toNat
  if s.flag F.CLK_ROOT_STAT.RELOCK 0 then s1
  else
    let aligned := (List.range 4).foldl (fun m l => nsetBit m l (if l = 0 then !unlocked 0 else !out l)) 0
    let s2 := (s1.wr F.CLK_ROOT_STAT.LOCK 0 lock.toNat).wr F.CLK_ROOT_STAT.ALIGNED 0 aligned
    let s3 := { s2 with clk := { s2.clk with
      lockRun := countRun unlocked s2.clk.lockRun
      phaseRun := countRun out s2.clk.phaseRun } }
    if (List.range 4).any (fun l => unlocked l || out l) then s3.on F.CLK_MON_STAT.LOCKLOSS_SEEN 0 else s3

/-- FREQ after a window; with a single edge no period is measured and the value is open (log entry 10). -/
def showFreq (w : RefWindow) (s : State) : State :=
  if w.edges = 1 then let (v, t) := s.fresh; t.wr F.CLK_MON_FREQ.FREQ 0 v
  else s.wr F.CLK_MON_FREQ.FREQ 0 (windowFreq w)

/-- MONITOR_WINDOW: a window of 400 KOSC cycles ends (R57–R59, R46). -/
def execMonitorWindow (w : RefWindow) (err1 err2 err3 : BitVec 8) (lock : BitVec 4) (s : State) :
    Host.Outcome State Fault Refusal :=
  done (guarded (decide (7 ≤ s.clk.step)) s (fun s =>
    let s1 := alignWindow [err1, err2, err3] lock (showFreq w s)
    if windowInRange w (nominalRef s) then s1.wr F.CLK_MON_STAT.RUN 0 0
    else
      let run := s.rd F.CLK_MON_STAT.RUN 0
      let s2 := (s1.wr F.CLK_MON_STAT.RUN 0 (min 16 (run + 1))).on F.CLK_MON_STAT.OOR_SEEN 0
      let s3 := { s2 with clk := { s2.clk with refMissing := decide (w.edges < 2) } }
      if run = 0 then firstOutOfRange s3 else s3))

/-- MONITOR_RESET: 16 consecutive windows were out of range (R58); the cause is what the last of them showed (log entry 11). -/
def execMonitorReset (s : State) : Host.Outcome State Fault Refusal :=
  done (guarded (s.rd F.CLK_MON_STAT.RUN 0 == 16) s (clockFail (if s.clk.refMissing then 1 else 2) 0 0))

/-- A count of KOSC cycles in 256 TBC cycles is more than 10 % off 400 MHz (R62). -/
def koscOff (mult count : Nat) : Bool :=
  decide (32768 * 11 < 10 * count * mult) || decide (10 * count * mult < 32768 * 9)

/-- KOSC_FAULT: the counts of 16 consecutive windows are all off. -/
def execKoscFault (counts : List Nat) (s : State) : Host.Outcome State Fault Refusal :=
  done (guarded (s.flag F.CLK_ROOT_STAT.EPOCH 0 && counts.length == 16 &&
    counts.all (koscOff (s.rd F.CLK_ROOT_CFG.MULT 0))) s (clockFail 4 0 0))

/-- LANE_REFERENCE_WINDOW: a check window of LREFCLKn ends (R63). -/
def execLaneReferenceWindow (n : Fin 8) (w : RefWindow) (s : State) : Host.Outcome State Fault Refusal :=
  done (guarded (decide (7 ≤ s.clk.step)) s (fun s =>
    let ok := windowInRange w 10000
    { s with clk := { s.clk with
        lrefIn := sset 0 s.clk.lrefIn n (if ok then min 16 (sget 0 s.clk.lrefIn n + 1) else 0)
        lrefOut := sset 0 s.clk.lrefOut n (if ok then 0 else min 4 (sget 0 s.clk.lrefOut n + 1)) } }))

/-- DTC_LO_READ: the low half is returned and the high half copied into CLK_DTC_HI (R66). -/
def dtcLoRead (s : State) : State :=
  { s with rdata := BitVec.ofNat 32 s.dtcNow }.wr F.CLK_DTC_HI.VALUE 0 (s.dtcNow / 2 ^ 32)

/-- DTC_LO_READ. -/
def execDtcLoRead (s : State) : Host.Outcome State Fault Refusal := done (dtcLoRead s)

/-- One edge of TBC: the DTC advances by its increment while an epoch is set and no relock holds it (R65, R45). -/
def tick (s : State) : State :=
  if s.flag F.CLK_ROOT_STAT.EPOCH 0 && !s.clk.dtcHeld then
    { s with clk := { s.clk with dtc := s.clk.dtc + BitVec.ofNat 96 s.dtcInc, rootEdges := s.clk.rootEdges + 32 } }
  else s

end Sys2Proof.Machine
end

