-- ==== Sys2Proof/Machine/Knuckle.lean ====
section
/-! DEFINITION. The knuckle groups of the Krovow network: the mapping of logical onto physical channels (R95), and the groups a flow between
two leaves crosses (R84). -/

namespace Sys2Proof.Machine
open Sys2Proof

/-- Logical channel `n` of group `g`. -/
def State.knkAt (s : State) (g n : Nat) : KnkRec := sget .idle s.knk.chan (16 * g + n)

/-- The state with a logical channel replaced. -/
def State.setKnk (s : State) (g n : Nat) (r : KnkRec) : State :=
  { s with knk := { s.knk with chan := sset .idle s.knk.chan (16 * g + n) r } }

/-- Physical channel `p` of group `g` is retired or marked failed (R95). -/
def physOut (s : State) (g p : Nat) : Bool :=
  s.rd F.KRV_KNK_SPARE.RET0 g == p || s.rd F.KRV_KNK_SPARE.RET1 g == p || nbit (sget 0 s.knk.physFailed g) p

/-- The physical channels of group `g` in use or spare, in ascending order. -/
def physUsable (s : State) (g : Nat) : List Nat := (List.range 18).filter (fun p => !physOut s g p)

/-- Logical channel `n` of group `g` has failed. -/
def logicalFailed (s : State) (g n : Nat) : Bool := nbit (s.rd F.KRV_KNK_STAT.LFAIL g) n

/-- The logical channels of group `g` that have not failed, in ascending order. -/
def logicalUsable (s : State) (g : Nat) : List Nat := (List.range 16).filter (fun n => !logicalFailed s g n)

/-- The physical channel that carries logical channel `n`: the lowest logical channel runs on the lowest physical channel, and so
on (R95); none for a failed one. -/
def physOf (s : State) (g n : Nat) : Option Nat :=
  if logicalFailed s g n then none
  else (physUsable s g)[((logicalUsable s g).filter (· < n)).length]?

/-- The logical channel that runs on physical channel `p`; none for a spare. -/
def logicalOn (s : State) (g p : Nat) : Option Nat :=
  if physOut s g p then none else (logicalUsable s g)[((physUsable s g).filter (· < p)).length]?

/-- The spare physical channels of group `g` left. -/
def sparesLeft (s : State) (g : Nat) : Nat := (physUsable s g).length - (logicalUsable s g).length

/-! ### Routes between leaves -/

/-- The group that joins two leaves; none for a diagonal pair (R20). -/
def groupOf (a b : Nat) : Option Nat :=
  if (a = 0 ∧ b = 1) ∨ (a = 1 ∧ b = 0) then some 0
  else if (a = 2 ∧ b = 3) ∨ (a = 3 ∧ b = 2) then some 1
  else if (a = 0 ∧ b = 2) ∨ (a = 2 ∧ b = 0) then some 2
  else if (a = 1 ∧ b = 3) ∨ (a = 3 ∧ b = 1) then some 3
  else none

/-- Group `g` has a usable landing router: one of its logical channels has not failed (R84). -/
def groupUsable (s : State) (g : Nat) : Bool := !s.flag F.KRV_KNK_STAT.DETOUR g

/-- The groups a flow from leaf `a` to leaf `b` crosses, in order; none where no route exists (R84). -/
def leafRoute (s : State) (a b : Nat) : Option (List Nat) :=
  if a = b then some []
  else match groupOf a b with
    | some g =>
      if groupUsable s g then some [g]
      else
        let others := (if g = 0 then (if a = 0 then [2, 1, 3] else [3, 1, 2])
          else if g = 1 then (if a = 2 then [2, 0, 3] else [3, 0, 2])
          else if g = 2 then (if a = 0 then [0, 3, 1] else [1, 3, 0])
          else (if a = 1 then [0, 2, 1] else [1, 2, 0]))
        if others.all (groupUsable s) then some others else none
    | none =>
      let h := if a < 2 then 0 else 1
      let v := if b = 0 ∨ b = 2 then 2 else 3
      let h' := if a < 2 then 1 else 0
      let v' := if a = 0 ∨ a = 2 then 2 else 3
      if groupUsable s h && groupUsable s v then some [h, v]
      else if groupUsable s v' && groupUsable s h' then some [v', h']
      else none

end Sys2Proof.Machine
end

