-- ==== Sys2Proof/Machine/Route.lean ====
section
/-! DEFINITION. Where the routers and endpoints of the Krovow network stand, the widths of their links, and the one path that a flow takes
(R19, R20, R36, R72, R73, R84, R85). -/

namespace Sys2Proof.Machine
open Sys2Proof

/-! ### Endpoints -/

/-- An endpoint from its leaf, router and local index (R73). -/
def endpoint (leaf router local_ : Nat) : Nat := leaf * 2048 + router * 16 + local_

/-- The leaf of an endpoint. -/
def epLeaf (ep : Nat) : Nat := ep / 2048

/-- The router of an endpoint. -/
def epRouter (ep : Nat) : Nat := ep / 16 % 128

/-- The local index of an endpoint. -/
def epLocal (ep : Nat) : Nat := ep % 16

/-! ### Routers -/

/-- The router of an endpoint among all: 128 × leaf + its index in the leaf. -/
def routerOf (ep : Nat) : Nat := ep / 16

/-- The sector router at (row, column) of a leaf (R73). -/
def sectorRouter (leaf row col : Nat) : Nat := 128 * leaf + 8 * row + col

/-- The sector router, as (row, column), at which a router stands: itself, or the one to which an edge router is attached (R19). -/
def routerSpot (r : Nat) : Nat × Nat :=
  let i := r % 128
  if i < 80 then (i / 8, i % 8)
  else if i < 88 then (0, i - 80)
  else [(0, 1), (0, 4), (0, 6), (2, 0), (7, 0), (0, 0)].getD (i - 88) (0, 0)

/-- Steps from a to b along a line, a left out. -/
def lineSteps (a b : Nat) : List Nat :=
  if a ≤ b then (List.range (b - a)).map (fun k => a + 1 + k) else (List.range (a - b)).map (fun k => a - 1 - k)

/-- The sector routers from one to another of a leaf, the first left out: the row changes first, then the column (R84). -/
def sectorSteps (p q : Nat × Nat) : List (Nat × Nat) :=
  (lineSteps p.1 q.1).map (fun r => (r, p.2)) ++ (lineSteps p.2 q.2).map (fun c => (q.1, c))

/-- The sector routers that a path between two sector routers of one leaf passes (R36). -/
def sectorHops (p q : Nat × Nat) : Nat := (max p.1 q.1 - min p.1 q.1) + (max p.2 q.2 - min p.2 q.2) + 1

/-- The routers from a to b of one leaf, a left out. -/
def leafSteps (a b : Nat) : List Nat :=
  if a = b then []
  else
    let at_ (p : Nat × Nat) : Nat := sectorRouter (a / 128) p.1 p.2
    let first := if a % 128 < 80 then [] else [at_ (routerSpot a)]
    let last := if b % 128 < 80 then [] else [b]
    first ++ (sectorSteps (routerSpot a) (routerSpot b)).map at_ ++ last

/-- The links in each direction between two routers that are joined (R72). -/
def linkWidth (a b : Nat) : Nat :=
  let i := a % 128
  let j := b % 128
  if i < 80 ∧ j < 80 then (if (i < 8 ∧ j < 8) ∨ (i % 8 = 0 ∧ j % 8 = 0) then 4 else 2)
  else if i = 91 ∨ i = 92 ∨ j = 91 ∨ j = 92 then 4
  else 2

/-- The link of a bundle of 2 or 4 that a flow takes, with x = SRC XOR DST (R85). -/
def bundleLink (x : BitVec 13) (links : Nat) : Nat :=
  if links = 4 then ((x.extractLsb' 0 2) ^^^ (x.extractLsb' 2 2)).toNat else (x.extractLsb' 0 1).toNat

/-! ### Landings -/

/-- The landing routers of a group, by the row or column along its edge: ten at column 7 for a horizontal group, eight at row 9 for a
vertical one (R20). -/
def landings (g : Nat) : List Nat := if g < 2 then List.range 10 else List.range 8

/-- The place of landing k of a group, the same on both of its leaves (R20). -/
def landingSpot (g k : Nat) : Nat × Nat := if g < 2 then (k, 7) else (9, k)

/-- The logical channels that land there: two at each of rows 0 to 5 and one at each of rows 6 to 9, or two at each column (R20).  Which
numbers they have is not in the spec: they are taken in order along the edge (DESIGN CHOICE, unsafe: log entry 192). -/
def landingChans (g k : Nat) : List Nat := if g < 2 ∧ 6 ≤ k then [6 + k] else [2 * k, 2 * k + 1]

/-- The channels of a landing that have not failed. -/
def landingLive (s : State) (g k : Nat) : List Nat := (landingChans g k).filter (fun n => !logicalFailed s g n)

/-- The landings of a group with a channel that has not failed (R84). -/
def usableLandings (s : State) (g : Nat) : List Nat := (landings g).filter (fun k => !(landingLive s g k).isEmpty)

/-- The leaf across a group. -/
def acrossGroup (g leaf : Nat) : Nat := if g < 2 then (if leaf % 2 = 0 then leaf + 1 else leaf - 1) else (if leaf < 2 then leaf + 2 else leaf - 2)

/-- The fewest sector routers from a place over the groups still to cross to the destination's place. -/
def fewestHops (s : State) (q : Nat × Nat) : List Nat → Nat × Nat → Nat
  | [], p => sectorHops p q
  | g :: gs, p => (usableLandings s g).foldl (fun m k =>
      min m (sectorHops p (landingSpot g k) + fewestHops s q gs (landingSpot g k))) 1000

/-- The landing by which a flow leaves its leaf: of those that give the fewest routers in total, the one with the fewest on the current
leaf, and of those the lowest (R84). -/
def chooseLanding (s : State) (q : Nat × Nat) (g : Nat) (gs : List Nat) (p : Nat × Nat) : Nat :=
  let here (k : Nat) : Nat := sectorHops p (landingSpot g k)
  let cost (k : Nat) : Nat := 1000 * (here k + fewestHops s q gs (landingSpot g k)) + here k
  ((usableLandings s g).foldl (fun (b : Option Nat) k => match b with
    | none => some k
    | some j => if cost k < cost j then some k else some j) none).getD 0

/-- Which of a landing's logical channels a flow takes (R85); the one left where the other has failed. -/
def landingChannel (s : State) (g k : Nat) (x : BitVec 13) : Nat :=
  match landingLive s g k with
  | [a, b] => if x.getLsbD 1 then b else a
  | [a] => a
  | _ => 0

/-! ### Paths -/

/-- The hops through a list of routers. -/
def linkHops (x : BitVec 13) : Nat → List Nat → List Hop
  | _, [] => []
  | a, b :: l => .link a b (bundleLink x (linkWidth a b)) :: linkHops x b l

/-- The hops from router a over the groups to router b. -/
def groupHops (s : State) (x : BitVec 13) (b : Nat) : List Nat → Nat → List Hop
  | [], a => linkHops x a (leafSteps a b)
  | g :: gs, a =>
    let k := chooseLanding s (routerSpot b) g gs (routerSpot a)
    let spot := landingSpot g k
    let here := sectorRouter (a / 128) spot.1 spot.2
    let ch := landingChannel s g k x
    linkHops x a (leafSteps a here) ++ [.send g (a / 128) ch, .recv g (a / 128) ch] ++
      groupHops s x b gs (sectorRouter (acrossGroup g (a / 128)) spot.1 spot.2)

/-- What a flow from `src` to `dst` passes from router a on; none where no route exists (R84, R85). -/
def routeFrom (s : State) (a src dst : Nat) : Option (List Hop) :=
  (leafRoute s (a / 128) (epLeaf dst)).map (fun gs =>
    groupHops s (BitVec.ofNat 13 src ^^^ BitVec.ofNat 13 dst) (routerOf dst) gs a ++ [.exit dst])

/-- The sector router at which a knuckle hop stands on its sending side. -/
def sendRouter (g leaf ch : Nat) : Nat :=
  let k := ((landings g).find? (fun k => (landingChans g k).contains ch)).getD 0
  sectorRouter leaf (landingSpot g k).1 (landingSpot g k).2

/-- The router in which a flit at a hop stands, before its next hop. -/
def hopRouter : Hop → Nat
  | .source ep => routerOf ep
  | .enter ep => routerOf ep
  | .link _ b _ => b
  | .send g leaf ch => sendRouter g leaf ch
  | .recv g leaf ch => let r := sendRouter g leaf ch; 128 * acrossGroup g leaf + r % 128
  | .exit ep => routerOf ep

/-- The routers that a path passes from its first one (R36). -/
def pathRouters (start : Nat) (hs : List Hop) : List Nat :=
  start :: hs.filterMap (fun h => match h with
    | .link _ b _ => some b
    | .recv _ _ _ => some (hopRouter h)
    | _ => none)

end Sys2Proof.Machine
end

