-- ==== Sys2Proof/Machine/Flight.lean ====
section
/-! DEFINITION. Messages on their way (R74, R77, R80, R81, R85–R89, R95): where each stands on its path, the buffers that hold it, and how it
moves.  The network moves on its own and faster than any command, and the spec fixes no moment: a message moves when a later message needs
its place, when it has been passed once too often, or when the command of its arrival asks for it (DESIGN CHOICE, unsafe: log entry 193). -/

namespace Sys2Proof.Machine
open Sys2Proof

/-! ### Buffers -/

/-- The messages on their way. -/
def State.setWay (s : State) (l : List Transit) : State := { s with net := { s.net with way := l } }

/-- The hop at which a message stands. -/
def Transit.here (u : Transit) : Option Hop := u.path.head?

/-- A message stands at a hop in a class; a replay buffer has one order for all classes. -/
def standsAt (h : Hop) (cls : Nat) (u : Transit) : Bool :=
  u.here == some h && (u.cls == cls || match h with
    | .send _ _ _ => true
    | _ => false)

/-- The flits of a list of messages. -/
def flitCount (l : List Transit) : Nat := (l.map (·.flits)).foldl (· + ·) 0

/-- The flits of a class that stand at a hop. -/
def flitsAt (s : State) (h : Hop) (cls : Nat) : Nat := flitCount (s.net.way.filter (fun u => u.here == some h && u.cls == cls))

/-- The flits of every class that stand at a hop. -/
def flitsIn (s : State) (h : Hop) : Nat := flitCount (s.net.way.filter (fun u => u.here == some h))

/-- Logical channel n of group g takes and delivers flits: it has not failed, is not paused, and the network carries traffic (R96–R98). -/
def channelOpen (s : State) (g n : Nat) : Bool := s.knk.carrying && !logicalFailed s g n && (s.knkAt g n).st != .retiring

/-- The receiving buffer of a hop has room for n more flits of a class: 4 flits of each class on a link (R74, R87), the 16 credits of each
class on a knuckle channel (R87) and its replay buffer of 32 flits; an endpoint takes responses, snoops and register traffic into stores
reserved for them (R88, R274), and buffers 4 flits of requests (DESIGN CHOICE, unsafe: log entry 193).  A source's store holds four
requests of an access port (R90), and whatever else is sent. -/
def roomAt (s : State) (h : Hop) (cls n : Nat) : Bool :=
  match h with
  | .source ep => cls != 0 || decide ((s.net.way.filter (fun u => u.here == some (.source ep) && u.cls == 0)).length < 4)
  | .enter _ => decide (flitsAt s h cls + n ≤ 4)
  | .link _ _ _ => decide (flitsAt s h cls + n ≤ 4)
  | .send g leaf ch => channelOpen s g ch && decide (flitsIn s h + n ≤ 32) &&
      decide (flitsAt s h cls + flitsAt s (.recv g leaf ch) cls + n ≤ 16)
  | .recv g leaf ch => channelOpen s g ch && (s.knkAt g ch).st == .active && decide (flitsAt s (.recv g leaf ch) cls + n ≤ 16)
  | .exit _ => cls != 0 || decide (flitsAt s h cls + n ≤ 4)

/-- The first message of a class at a hop. -/
def frontAt (s : State) (h : Hop) (cls : Nat) : Option Transit := s.net.way.find? (standsAt h cls)

/-! ### Moves -/

/-- A message's next hop. -/
def Transit.next (u : Transit) : Option Hop := u.path.tail.head?

/-- The output link h is granted to a message: it moves on, both flits of a write together (R77), and every other message that waits at
the front of its buffer for h notes its (input link, class) pair (R86). -/
def moveOn (h : Hop) (u : Transit) (s : State) : State :=
  let pair := u.here.map (fun i => (i, u.cls))
  let waits (v : Transit) : Bool := v.next == some h && v.here.any (fun i => frontAt s i v.cls == some v)
  let rest := (s.net.way.erase u).map (fun v => match pair with
    | some p => if waits v then { v with passed := p :: v.passed } else v
    | none => v)
  s.setWay (rest ++ [{ u with path := u.path.tail, passed := [] }])

/-- The messages that wait for output link h, have room there, and have been passed once by the pair of u: they go first (R86). -/
def overdue (s : State) (h : Hop) (u : Transit) : List Transit :=
  s.net.way.filter (fun v => v != u && v.next == some h && v.here.any (fun i => frontAt s i v.cls == some v) &&
    u.here.any (fun i => v.passed.contains (i, u.cls)))

/-- Output link h serves the messages that are due before u, then u, where the receiving buffer has room (R86, R87). -/
def grant (h : Hop) (u : Transit) (s : State) : Option State :=
  let s1 := (overdue s h u).foldl (fun t v => if roomAt t h v.cls v.flits then moveOn h v t else t) s
  match s1.net.way.find? (fun v => v.name == u.name && v.path == u.path) with
  | some v => if roomAt s1 h v.cls v.flits then some (moveOn h v s1) else none
  | none => none

/-- Where a message has to move for room at hop h in a class: at h itself, or at the far end of a knuckle channel whose receiver holds the
credits (R87). -/
def blockedAt (s : State) (h : Hop) (cls : Nat) : Hop :=
  match h with
  | .send g leaf ch => if flitsIn s h < 31 ∧ (frontAt s (.recv g leaf ch) cls).isSome then .recv g leaf ch else h
  | _ => h

/-- A move repeated up to n times, until there is room. -/
def untilFree : Nat → (State → Bool) → (State → Option State) → State → Option State
  | 0, free, _, s => if free s then some s else none
  | n + 1, free, move, s => if free s then some s else (move s).bind (untilFree n free move)

/-- More moves than free any place: a replay buffer holds 32 flits and its receiver 16 of each class. -/
def roomFuel : Nat := 96

/-- The first message of a class at a hop moves one hop on, room being made for it first; none: it has to wait.  The fuel bounds the
length of a path. -/
def push : Nat → Hop → Nat → State → Option State
  | 0, _, _, _ => none
  | f + 1, h, cls, s =>
    match frontAt s h cls with
    | none => none
    | some u => match u.next with
      | none => none
      | some h' =>
        (untilFree roomFuel (fun t => roomAt t h' u.cls u.flits) (fun t => push f (blockedAt t h' u.cls) u.cls t) s).bind (grant h' u)

/-- The longest path, in hops: three groups and the rows and columns of four leaves. -/
def pathFuel : Nat := 120

/-- Room for n flits of a class at a hop, made by moving what stands there. -/
def makeRoom (h : Hop) (cls n : Nat) (s : State) : Option State :=
  untilFree roomFuel (fun t => roomAt t h cls n) (fun t => push pathFuel (blockedAt t h cls) cls t) s

/-- The record of a message. -/
def transitOf (s : State) (m : MsgName) : Option Transit := s.net.way.find? (fun u => u.name == m)

/-- A message moves to its destination, whatever stands before it moving as it must; none: something holds it up. -/
def travel : Nat → MsgName → State → Option State
  | 0, _, _ => none
  | f + 1, m, s =>
    match transitOf s m with
    | none => some s
    | some u => match u.here, u.next with
      | some (.exit ep), none => if frontAt s (.exit ep) u.cls = some u then some s else none
      | some h, _ => (push pathFuel h u.cls s).bind (travel f m)
      | none, _ => none

/-- The moves that bring any message to its destination. -/
def travelFuel : Nat := 1000

/-- A message reaches its destination; none: it cannot yet. -/
def reach (m : MsgName) (s : State) : Option State := travel travelFuel m s

/-- A message leaves the network. -/
def landed (m : MsgName) (s : State) : State := s.setWay (s.net.way.filter (fun u => u.name != m))

/-! ### Sending -/

/-- The path of a flow from the endpoint that sends it on; one for which no route exists stays there. -/
def pathOf (s : State) (at_ src dst : Nat) : List Hop :=
  match routeFrom s (routerOf at_) src dst with
  | some hs => .enter at_ :: hs
  | none => []

/-- A message from a source that keeps it until its router takes it: a response, a snoop, register traffic, and the requests of an access
port (R88, R90, R274); none: its store is full, or the network carries no traffic yet (R98). -/
def post (m : MsgName) (cls src dst n : Nat) (s : State) : Option State :=
  if !s.knk.carrying then none
  else (makeRoom (.source src) cls n s).map (fun t =>
    t.setWay (t.net.way ++ [⟨m, cls, src, dst, n, .source src :: pathOf t src src dst, []⟩]))

/-- A request sent, or sent on, from an endpoint without such a store: none where its router's buffer has no room, which is the back-pressure
of R89. -/
def launch (m : MsgName) (cls at_ src dst n : Nat) (s : State) : Option State :=
  if !s.knk.carrying then none
  else (makeRoom (.enter at_) cls n s).map (fun t => t.setWay (t.net.way ++ [⟨m, cls, src, dst, n, pathOf t at_ src dst, []⟩]))

/-- A message that its source always has room for. -/
def dispatch (m : MsgName) (cls src dst n : Nat) (s : State) : State := (post m cls src dst n s).getD s

/-- A path does not lead to its destination, or leads over a channel that has failed. -/
def pathLost (s : State) (u : Transit) : Bool :=
  u.path.getLast? != some (.exit u.dst) || u.path.any (fun h => match h with
    | .send g _ ch => logicalFailed s g ch
    | _ => false)

/-- The flows whose path is lost take another one from where they stand (R84, R85, R96); the flits of a failed channel that its sender still
holds go with them.  Where no route exists they wait. -/
def reroute (s : State) : State :=
  s.setWay (s.net.way.map (fun u =>
    if !pathLost s u then u
    else match u.here with
      | none => u
      | some h =>
        let start := match h with
          | .source ep => [Hop.enter ep]
          | _ => []
        match routeFrom s (hopRouter h) u.src u.dst with
        | some hs => { u with path := h :: start ++ hs, passed := [] }
        | none => u))

end Sys2Proof.Machine
end

