-- ==== Sys2Proof/Machine/Replay.lean ====
section
/-! DEFINITION. The channels of the knuckle groups (R96–R98): replays, retirement, failure and restore. -/

namespace Sys2Proof.Machine
open Sys2Proof

/-- SPARES_LEFT and DETOUR of group `g` as the channels now stand (R95, R96). -/
def knkStat (g : Nat) (s : State) : State :=
  (s.wr F.KRV_KNK_STAT.SPARES_LEFT g (sparesLeft s g)).wr F.KRV_KNK_STAT.DETOUR g (b2n (s.rd F.KRV_KNK_STAT.LFAIL g == 0xFFFF))

/-- A retired physical channel is recorded in RET0, or in RET1 if RET0 is used (R96). -/
def recordRetired (g p : Nat) (s : State) : State :=
  if s.rd F.KRV_KNK_SPARE.RET0 g = 31 then s.wr F.KRV_KNK_SPARE.RET0 g p else s.wr F.KRV_KNK_SPARE.RET1 g p

/-- The network event of a retirement or failure, once the network carries traffic (R96, R98). -/
def knkEvent (s : State) : State :=
  if s.knk.carrying && s.flag F.KRV_CTL.RET_EVT_EN 0 then raise 9 s else s

/-- The logical channels of group g at and above n pause for a remap (R96, R97); channel n's replay count starts again, since its new
physical channel has replayed nothing, and the others keep theirs (DESIGN CHOICE, unsafe: log entry 194). -/
def pauseFrom (g n : Nat) (s : State) : State :=
  ((List.range 16).foldl (fun t m =>
    if m < n ∨ logicalFailed t g m then t
    else t.setKnk g m ⟨.retiring, if m = n then 0 else (t.knkAt g m).replays, 0⟩) s).on F.KRV_KNK_STAT.BUSY g

/-- A physical channel taken out of use.  With a spare left it is recorded as retired and its logical channel, with every higher
one, is remapped; with none left its logical channel fails and its flows take other paths (R95, R96). -/
def takeOut (g p : Nat) (s : State) : State :=
  if physOut s g p then s
  else if 0 < sparesLeft s g then
    match logicalOn s g p with
    | none => knkEvent (knkStat g (recordRetired g p s))
    | some n =>
      let s1 := recordRetired g p s
      knkEvent (knkStat g (if s.knk.carrying then pauseFrom g n s1 else s1))
  else
    match logicalOn s g p with
    | none => s
    | some n =>
      let s1 := { s with knk := { s.knk with physFailed := sset 0 s.knk.physFailed g (nsetBit (sget 0 s.knk.physFailed g) p true) } }
      knkEvent (reroute (knkStat g ((s1.setKnk g n ⟨.failed, 0, 0⟩).wrBit F.KRV_KNK_STAT.LFAIL g n true)))

/-- Retirement of logical channel `n` begins (R96). -/
def retireChannel (g n : Nat) (s : State) : State :=
  match physOf s g n with
  | some p => takeOut g p s
  | none => s

/-- The channel runs or replays. -/
def knkRuns (r : KnkRec) : Bool := r.st == .active || r.st == .replay

/-- KNUCKLE_CRC_MISMATCH: a mismatch starts a replay and counts; the fifth mismatch of one flit in a row begins retirement (R96). -/
def execKnuckleCrcMismatch (g : Fin 4) (n : Fin 16) (sameFlit : Bool) (s : State) : Host.Outcome State Fault Refusal :=
  let r := s.knkAt g n
  done (guarded (knkRuns r) s (fun s =>
    let s1 := (s.satAdd F.KRV_KNK_ERR.CRC_ERR g 1).satAdd F.KRV_KNK_ERR.REPLAY g 1
    let inRow := if r.st == .replay && sameFlit then r.inRow + 1 else 1
    let s2 := s1.setKnk g n ⟨.replay, r.replays + 1, inRow⟩
    if 5 ≤ inRow then retireChannel g n s2 else s2))

/-- REPLAY_COMPLETE: the replayed flits arrive with a good CRC. -/
def execReplayComplete (g : Fin 4) (n : Fin 16) (s : State) : Host.Outcome State Fault Refusal :=
  let r := s.knkAt g n
  done (guarded (r.st == .replay) s (fun s => s.setKnk g n { r with st := .active, inRow := 0 }))

/-- REPLAY_MAX_REACHED: the channel's replay count in the window has reached REPLAY_MAX. -/
def execReplayMaxReached (g : Fin 4) (n : Fin 16) (s : State) : Host.Outcome State Fault Refusal :=
  let r := s.knkAt g n
  done (guarded (knkRuns r && decide (s.rd F.KRV_KNK_THR.REPLAY_MAX 0 ≤ r.replays)) s (retireChannel g n))

/-- KNUCKLE_STALL: a handshake with flits pending has not completed within 1 microsecond. -/
def execKnuckleStall (g : Fin 4) (n : Fin 16) (s : State) : Host.Outcome State Fault Refusal :=
  done (guarded (knkRuns (s.knkAt g n)) s (retireChannel g n))

/-- REPLAY_WINDOW_BOUNDARY: the window of KRV_KNK_THR.WIN ms ends and every channel's count starts again (R96). -/
def execReplayWindowBoundary (s : State) : Host.Outcome State Fault Refusal :=
  let len := 1000000 * s.rd F.KRV_KNK_THR.WIN 0
  done (guarded (s.expired s.knk.winStart len) s (fun s =>
    { s with knk := { s.knk with
        winStart := s.knk.winStart + len
        chan := s.knk.chan.foldl (fun l e => sset .idle l e.1 { e.2 with replays := 0 }) s.knk.chan } }))

/-- REMAP_COMPLETE: the paused logical channels of the group run on their new physical channels, on which the flits they had not delivered go
first (R96, R97). -/
def execRemapComplete (g : Fin 4) (s : State) : Host.Outcome State Fault Refusal :=
  done (guarded (s.flag F.KRV_KNK_STAT.BUSY g && !nbit s.knk.restoring.toNat g) s (fun s =>
    ((List.range 16).foldl (fun t n => if (t.knkAt g n).st = .retiring then t.setKnk g n { t.knkAt g n with st := .active } else t) s).off
      F.KRV_KNK_STAT.BUSY g))

/-- KNUCKLE_TEST_COMPLETE: the reset-time test ends; each failing channel is taken out without an event, and the network carries
traffic (R98). -/
def execKnuckleTestComplete (failing : List KnkChannel) (s : State) : Host.Outcome State Fault Refusal :=
  done (guarded (!s.knk.carrying) s (fun s =>
    let s1 := failing.foldl (fun t c => takeOut c.group c.phys t) s
    { s1 with knk := { s1.knk with carrying := true, winStart := s1.dtcNow } }))

/-- A write of 1 to RESTORE starts the retest; it is ignored while BUSY is 1 (R98, R101). -/
def knuckleRestore (g : Nat) (s : State) : State :=
  if s.flag F.KRV_KNK_STAT.BUSY g then s
  else { s with knk := { s.knk with restoring := BitVec.ofNat 4 (nsetBit s.knk.restoring.toNat g true) } }.on F.KRV_KNK_STAT.BUSY g

/-- KNUCKLE_RESTORE. -/
def execKnuckleRestore (g : Fin 4) (s : State) : Host.Outcome State Fault Refusal := done (knuckleRestore g s)

/-- A retired-channel field of a passing channel becomes 31. -/
def restoreField (f : Fld) (g : Nat) (passing : List Nat) (s : State) : State :=
  if passing.contains (s.rd f g) then s.wr f g 31 else s

/-- A failed logical channel brought back by a remap while a physical channel is free for it, the lowest number first (log entry 6); it and
the channels above it pause (R97, R98). -/
def bringBack (g n : Nat) (s : State) : State :=
  if logicalFailed s g n ∧ 0 < sparesLeft s g then pauseFrom g n ((s.setKnk g n .idle).wrBit F.KRV_KNK_STAT.LFAIL g n false) else s

/-- RESTORE_COMPLETE: each retired or failed channel among `passing` becomes a spare and each failed logical channel is brought back; BUSY
stays until every remap is complete (R98). -/
def execRestoreComplete (g : Fin 4) (passing : List Nat) (s : State) : Host.Outcome State Fault Refusal :=
  done (guarded (nbit s.knk.restoring.toNat g) s (fun s =>
    let s1 := restoreField F.KRV_KNK_SPARE.RET1 g passing (restoreField F.KRV_KNK_SPARE.RET0 g passing s)
    let left := passing.foldl (fun m p => nsetBit m p false) (sget 0 s1.knk.physFailed g)
    let s2 := { s1 with knk := { s1.knk with
      physFailed := sset 0 s1.knk.physFailed g left
      restoring := BitVec.ofNat 4 (nsetBit s1.knk.restoring.toNat g false) } }
    let s3 := (List.range 16).foldl (fun t n => bringBack g n t) s2
    let paused := (List.range 16).any (fun n => (s3.knkAt g n).st == .retiring)
    reroute (knkStat g (if paused then s3 else s3.off F.KRV_KNK_STAT.BUSY g))))

end Sys2Proof.Machine
end

