-- ==== Sys2Proof/Machine/Net.lean ====
section
/-! DEFINITION. The Krovow network between sources and targets: endpoints (R73), the device address map (R21–R26, R290), requester
tags (R31), the source decode (R83), outstanding requests and their timeouts (R94), error logging (R99) and violation reports (R282). -/

namespace Sys2Proof.Machine
open Sys2Proof

/-! ### Endpoints -/

/-- Access port k of sector s, numbered a = 2 s + k (R90). -/
def portEp (a : Nat) : Nat := endpoint (a / 160) (a / 2 % 80) (a % 2)

/-- Vault v = 2 s + k (R24). -/
def vaultEp (v : Nat) : Nat := endpoint (v / 160) (v / 2 % 80) (2 + v % 2)

/-- Engine e = 128 × leaf + 16 × band row + band column, at the band router of its column (R18, R19). -/
def engineEp (e : Nat) : Nat :=
  let row := e / 16 % 8
  let col := e % 16
  endpoint (e / 128) (80 + col / 2) (2 * row + col % 2)

/-- The front end of channel n (R15, R73). -/
def channelEp (n : Nat) : Nat := endpoint (n / 3) (88 + n % 3) 0

/-- The directory slice of channel n, and its registers and training port (R73). -/
def dirEp (n : Nat) : Nat := endpoint (n / 3) (88 + n % 3) 1
/-- The registers and the training port of channel n. -/
def chanRegEp (n : Nat) : Nat := endpoint (n / 3) (88 + n % 3) 2

/-- The registers of port p. -/
def portRegEp (p : Nat) : Nat := endpoint (p / 2) (91 + p % 2) 8

/-- The configuration controller of leaf l. -/
def ctlEp (l : Nat) : Nat := endpoint l 93 0
/-- The scrub scanner of leaf l. -/
def scanEp (l : Nat) : Nat := endpoint l 93 1

/-- Head n's source endpoint for an address (R83): the port runs as two x8 heads, or as one x16. -/
def headEp (s : State) (n da : Nat) : Nat :=
  let p := n / 2
  let l := if s.flag F.LNK_PCFG.X8X2 p then (if n % 2 = 0 then da / 64 % 4 else 4 + da / 64 % 4) else da / 64 % 8
  endpoint (p / 2) (91 + p % 2) l

/-- The Keeper cores, the Keeper DMA and the debug master, on L0's corner router. -/
def coreEp : Nat := endpoint 0 93 3
/-- The endpoint of the Keeper DMA. -/
def dmaEp : Nat := endpoint 0 93 4
/-- The endpoint of the debug master. -/
def debugEp : Nat := endpoint 0 93 5

/-- The register hub, on L0's corner router (R73, R83). -/
def hubEp : Nat := endpoint 0 93 2

/-- Head n exists: its port runs as two x8 links, or it is the port's first head (R27). -/
def headExists (s : State) (n : Nat) : Bool := n % 2 == 0 || s.flag F.LNK_PCFG.X8X2 (n / 2)

/-! ### Power domains -/

/-- Power domain d is ON (R431). -/
def domOn (s : State) (d : Nat) : Bool := s.flag (F.PWR_DOM_STAT.ON (d % 32)) (d / 32)

/-- The power domain of port p (R429). -/
def portDom (p : Nat) : Nat := 15 * (p / 2) + 10 + p % 2

/-- The power domain of the fabric group that holds sector x (R429). -/
def sectorDom (x : Nat) : Nat := 15 * (x / 80) + x % 8

/-- The power domain of the band half that holds engine e. -/
def engineDom (e : Nat) : Nat := 15 * (e / 128) + 8 + e % 16 / 8

/-- The power domain of the PHY of channel n. -/
def channelDom (n : Nat) : Nat := 15 * (n / 3) + 12 + n % 3

/-! ### Tags -/

/-- The identity of the logic of a sector: the tenant that owns its region, or Static (R30, R31). -/
def sectorId (s : State) (x : Nat) : Nat :=
  let o := s.rd F.CFG_RGN_CFG.OWNER (s.rd F.CFG_SECT.REGION x)
  if s.flag F.CFG_SECT.INRGN x && decide (o < 16) then o else 16

/-- The set an engine belongs to. -/
def engineSet (s : State) (e : Nat) : Option Nat :=
  if s.flag F.TMB_CFG.VALID e && s.flag F.TMB_SET_CFG.VALID (s.rd F.TMB_CFG.SET e) then some (s.rd F.TMB_CFG.SET e) else none

/-- The tenant of an engine's set. -/
def engineTenant (s : State) (e : Nat) : Option Nat := (engineSet s e).map (fun k => s.rd F.TMB_SET_CFG.TENANT k)

/-- The tag of a head's requests. -/
def headTag (n : Nat) : Tag := ⟨0, n⟩
/-- The tag of the Keeper. -/
def keeperTag : Tag := ⟨3, 17⟩
/-- The tag of the debug master. -/
def debugTag : Tag := ⟨4, 18⟩

/-! ### Interleave sets -/

/-- The interleave sets are sealed. -/
def ilvSealed (s : State) : Bool := s.flag F.DDR_ILV.SEAL 0

/-- The number of channels a WAYS code stands for (R290). -/
def waysOf (code : Nat) : Nat := [1, 2, 3, 4, 6, 12].getD code 0

/-- The granule in bytes. -/
def granOf (s : State) (n : Nat) : Nat := if s.flag F.DDR_ILV.GRAN n then 4096 else 256

/-- The mapped capacity of channel n in extents: ranks times the capacity of a rank, less the reserve (R287, R289). -/
def mapCap (s : State) (n : Nat) : Nat :=
  if s.rd F.DDR_CFG.KIND n = 0 then 0
  else 2 ^ s.rd F.DDR_CFG.RANKS n * (128 * 2 ^ s.rd F.DDR_CFG.DENS n) - 1

/-- Channel n is a member of a sealed set. -/
def ilvMember (s : State) (n : Nat) : Bool := ilvSealed s && s.ddr.members.getLsbD n

/-- The extents of the set that channel n is in: its first extent and their number. -/
def setSpan (s : State) (n : Nat) : Nat × Nat :=
  (s.rd F.DDR_ILVBASE.BASE n, waysOf (s.rd F.DDR_ILV.WAYS n) * mapCap s n)

/-- The channel address of DA at channel n, where n is the member of the set at the position that DA decodes to (R290). -/
def chanAddr (s : State) (n da : Nat) : Option Nat :=
  let (b, size) := setSpan s n
  let w := waysOf (s.rd F.DDR_ILV.WAYS n)
  let g := granOf s n
  let o := da - b * 2 ^ 28
  if ilvMember s n && decide (b * 2 ^ 28 ≤ da) && decide (o < size * 2 ^ 28) && (o / g) % w == s.rd F.DDR_ILV.POS n then
    some (o / g / w * g + o % g)
  else none

/-- The channel and channel address of a DRAM address; none where it is unpopulated (R22, R290). -/
def dramPlace (s : State) (da : Nat) : Option (Nat × Nat) :=
  (List.range 12).findSome? (fun n => (chanAddr s n da).map (fun ca => (n, ca)))

/-- The device address of channel address `ca` of channel n. -/
def dramDa (s : State) (n ca : Nat) : Nat :=
  let g := granOf s n
  let w := waysOf (s.rd F.DDR_ILV.WAYS n)
  (setSpan s n).1 * 2 ^ 28 + (ca / g * w + s.rd F.DDR_ILV.POS n) * g + ca % g

/-- The channels that hold lines of extent k. -/
def chansOf (s : State) (k : Nat) : List Nat :=
  (List.range 12).filter (fun n => ilvMember s n && decide ((setSpan s n).1 ≤ k) && decide (k < (setSpan s n).1 + (setSpan s n).2))

/-! ### The address map -/

/-- What an address names (R21). -/
inductive Place where
  | dram (n ca : Nat)
  | window (w : Nat)
  | windowGap
  | vault (v off : Nat)
  | engine (e off : Nat)
  | reg (off : Nat)
  | unmapped
deriving DecidableEq, Repr

/-- The rows of the block whose number the offset names: the blocks lie 1 MiB apart (R6). -/
def blockRows (b : Nat) : List RegRow :=
  match b with
  | 0 => regRowsKP
  | 1 => regRowsEVC
  | 2 => regRowsCLK
  | 3 => regRowsPWR
  | 4 => regRowsCFG
  | 5 => regRowsSCB
  | 6 => regRowsMEM
  | 7 => regRowsKRV
  | 8 => regRowsTMB
  | 9 => regRowsLNK
  | 10 => regRowsCOH
  | 11 => regRowsDDR
  | 12 => regRowsWRD
  | 13 => regRowsMGP
  | 14 => regRowsKH
  | 15 => regRowsSHX
  | _ => []

/-- The copy that lies `off` bytes after the first one, by the counts and strides of a row: its number, the last count fastest. -/
def copyAt : List (Nat × Nat) → Nat → Nat → Option Nat
  | [], off, i => if off = 0 then some i else none
  | (count, stride) :: l, off, i =>
    if off / stride < count then copyAt l (off - off / stride * stride) (i * count + off / stride) else none

/-- The register at an offset from 0x0C00_0000_0000. -/
def regAt (off : Nat) : Option (RegName × Nat) :=
  (blockRows (off / 2 ^ 20)).findSome? (fun row =>
    if off % 2 ^ 20 < row.off then none else (copyAt row.dims (off % 2 ^ 20 - row.off) 0).map (fun i => (row.reg, i)))

/-- The base of window w (R214). -/
def windowBase (s : State) (w : Nat) : Nat := s.rd F.TMB_TW_BASE_LO.BASE w * 4096 + s.rd F.TMB_TW_BASE_HI.BASE w * 2 ^ 32

/-- Window w is enabled and covers the address. -/
def windowCovers (s : State) (w da : Nat) : Bool :=
  s.flag F.TMB_TW_CFG.EN w && decide (windowBase s w ≤ da) && decide (da < windowBase s w + 2 ^ s.rd F.TMB_TW_CFG.SIZE w)

/-- The decode of a device address (R21–R26, R214); an address in a register block that names no register is reserved (R26; DEDUCED, unsafe:
log entry 178). -/
def decodeDa (s : State) (da : Nat) : Place :=
  if da < 0x060000000000 then
    match dramPlace s da with
    | some (n, ca) => .dram n ca
    | none => .unmapped
  else if da < 0x070000000000 then .unmapped
  else if da < 0x080000000000 then
    match (List.range 16).find? (fun w => windowCovers s w da) with
    | some w => .window w
    | none => .windowGap
  else if da < 0x080005000000 then .vault ((da - 0x080000000000) / 0x20000) (da % 0x20000)
  else if 0x080100000000 ≤ da ∧ da < 0x080104000000 then
    let off := da % 0x20000
    if off < 0x14000 then .engine ((da - 0x080100000000) / 0x20000) off else .unmapped
  else if 0x0C0000000000 ≤ da ∧ da < 0x0C0001000000 then
    let off := da - 0x0C0000000000
    if (regAt (off / 4 * 4)).isSome then .reg off else .unmapped
  else .unmapped

/-! ### Errors and violations -/

/-- An error with a code that KRV_ELOG records: the first one while VALID is 0 (R99, R101). -/
def netLog (code detail src da : Nat) (s : State) : State :=
  if s.flag F.KRV_ELOG0.VALID 0 then s
  else
    let s1 := ((s.wr F.KRV_ELOG0.CODE 0 code).wr F.KRV_ELOG0.DETAIL 0 detail).wr F.KRV_ELOG0.SRC 0 src
    ((s1.on F.KRV_ELOG0.VALID 0).wr F.KRV_ELOG1.DA_LO 0 (da % 2 ^ 32)).wr F.KRV_ELOG2.DA_HI 0 (da / 2 ^ 32)

/-- The error is one that KRV_ELOG records: codes 0x01 and 0x04 to 0x08. -/
def netLogged (code : Nat) : Bool := code == 1 || (4 ≤ code && code ≤ 8)

/-- An error recorded where its code is recorded. -/
def netError (code detail src da : Nat) (s : State) : State := if netLogged code then netLog code detail src da s else s

/-- A checkpoint reports a violation to the COH block (R282). -/
def report (reason : Nat) (tag : Tag) (src : Nat) (write : Bool) (da ext victims : Nat) (s : State) : State :=
  { s with coh := { s.coh with reports := s.coh.reports ++ [⟨reason, tag, src, write, da, ext, victims, s.stamp⟩] } }

/-- The bit of a tenant. -/
def tenantBit (n : Nat) : Nat := if n < 16 then 2 ^ n else 0

/-- The identity that owns a vault's sector: its region's tenant, Static for a static region; none for a sector in no region, or in
a region without an owner (R33). -/
def vaultOwner (s : State) (v : Nat) : Option Nat :=
  let x := v / 2
  let o := s.rd F.CFG_RGN_CFG.OWNER (s.rd F.CFG_SECT.REGION x)
  if s.flag F.CFG_SECT.INRGN x then (if o ≤ 16 then some o else none) else none

/-! ### Sources -/

/-- A transaction number is in use or quarantined at an endpoint. -/
def txnTaken (s : State) (ep txn : Nat) : Bool :=
  s.net.outst.any (fun o => o.req.src == ep && o.req.txn == txn) || s.net.quar.contains (ep, txn)

/-- The lowest free transaction number of an endpoint (log entry 13). -/
def freeTxn (s : State) (ep : Nat) : Option Nat := (List.range 256).find? (fun t => !txnTaken s ep t)

/-- What the source does with a request (R83): it goes into the network, the source answers it itself, or it waits, for a TXN or for room
(R89). -/
inductive Admit where
  | sent (s : State)
  | answered (code detail : Nat) (s : State)
  | waits
deriving DecidableEq, Repr

/-- The request waits at its source. -/
def Admit.held : Admit → Bool
  | .waits => true
  | _ => false

/-- An answer of the source, recorded where its code is recorded. -/
def answer (code detail src da : Nat) (s : State) : Admit := .answered code detail (netError code detail src da s)

/-- Access port a's state registers follow its requests: OUTST, QUAR and DRAINED (R93, R101). -/
def portRegs (a : Nat) (s : State) : State :=
  let ep := portEp a
  let n := (s.net.outst.filter (fun o => o.req.src == ep)).length
  let q := (s.net.quar.filter (fun e => e.1 == ep)).length
  ((s.wr F.KRV_AP.OUTST a n).wr F.KRV_AP.QUAR a q).wr F.KRV_AP.DRAINED a (b2n (s.flag F.KRV_AP.CLOSED a && n == 0))

/-- The registers that show who waits, after a change at an endpoint. -/
def whoRegs (who : Who) (s : State) : State :=
  match who with
  | .port a => portRegs a s
  | _ => s

/-- The flits of a request: a write's command flit has a data flit behind it; register requests are single flits (R77). -/
def reqFlits (r : Req) : Nat := if r.op = .write ∧ r.dst ≠ hubEp then 2 else 1

/-- The class of a request: configuration to the register hub, request elsewhere (R75, R83). -/
def reqClass (r : Req) : Nat := if r.dst = hubEp then 3 else 0

/-- A request given to the network: an access port keeps it until its router takes it, any other source waits with it (R89, R90); none: there
is no room for it. -/
def netEnter (who : Who) (r : Req) (s : State) : Option State :=
  match who with
  | .port _ => post (.req r.src r.txn) (reqClass r) r.src r.dst (reqFlits r) s
  | _ => launch (.req r.src r.txn) (reqClass r) r.src r.src r.dst (reqFlits r) s

/-- A request put into the network and on its source's list; none: the network has no room for it yet (R89). -/
def netPut (who : Who) (window : Nat) (r : Req) (s : State) : Option State :=
  (netEnter who r s).map (fun t =>
    whoRegs who { t with net := { t.net with reqs := t.net.reqs ++ [r], outst := t.net.outst ++ [⟨who, r, t.stamp, window⟩] } })

/-- The window of R94 for a request sent now, in nanoseconds. -/
def tmoWindow (s : State) : Nat := 1000 * s.rd F.KRV_TMO.TMO 0

/-- The destination of a decoded place. -/
def placeEp : Place → Nat
  | .dram n _ => channelEp n
  | .vault v _ => vaultEp v
  | .engine e _ => engineEp e
  | .reg _ => hubEp
  | _ => 0

/-- The source decode of a request other than to a window (R83), with TXN `txn`; every request to a register goes to the hub. -/
def netSend (who : Who) (tag : Tag) (op : NetOp) (src txn da len : Nat) (data : Line) (intent : Intent) (pl : Place) (s : State) :
    Admit :=
  let dst := placeEp pl
  match leafRoute s (epLeaf src) (epLeaf dst) with
  | none => answer 6 0 src da s
  | some _ => match netPut who (tmoWindow s) ⟨op, src, dst, txn, tag, da, len, data, intent⟩ s with
    | some t => .sent t
    | none => .waits

/-- A "Never" request: stopped at the source and reported (R33, R83). -/
def never (tag : Tag) (src : Nat) (write : Bool) (da reason victims : Nat) (s : State) : Admit :=
  .answered 2 0 (report reason tag src write da 0x7FFF victims s)

/-- A request of a source other than a head: decoded, checked and sent (R83, R33).  A request that crosses a line and also decodes to a
reserved or unpopulated address or to one that is never served is answered MALFORMED, DETAIL 1: the spec gives the checks no order (DESIGN
CHOICE, unsafe: log entry 195). -/
def netAdmit (who : Who) (tag : Tag) (op : NetOp) (src : Nat) (txn : Option Nat) (da len : Nat) (data : Line) (s : State) : Admit :=
  if len = 0 ∨ 64 < da % 64 + len then answer 4 1 src da s
  else match decodeDa s da with
    | .unmapped => answer 1 0 src da s
    | .windowGap => answer 1 0 src da s
    | .window _ => never tag src (op == .write) da 2 0 s
    | .reg off =>
      if tag.cls ≠ 3 ∧ tag.cls ≠ 4 then never tag src (op == .write) da 2 0 s
      else if len ≠ 4 ∨ da % 4 ≠ 0 then answer 4 2 src da s
      else match txn with
        | none => .waits
        | some t => netSend who tag op src t da len data .none (.reg off) s
    | pl => match txn with
      | none => .waits
      | some t => netSend who tag op src t da len data .none pl s

/-! ### Responses -/

/-- A response to a request enters the network (R75). -/
def respond (r : Req) (a : Answer) (s : State) : State :=
  let s1 := match a with
    | .error c d => netError c d r.src r.da s
    | _ => s
  let s2 := dispatch (.resp r.src r.txn) 1 r.dst r.src 1 s1
  { s2 with net := { s2.net with resps := s2.net.resps ++ [⟨r.dst, r.src, r.txn, r.tag, a, r.intent⟩] } }

/-- A failed isolation check at a target: reported, and answered with ACCESS_DENIED (R33, R99). -/
def denied (r : Req) (reason ext victims : Nat) (s : State) : State :=
  respond r (.error 2 0) (report reason r.tag r.src (r.op == .write) r.da ext victims s)

/-! ### Lines -/

/-- Byte k of a line. -/
def lineByte (l : Line) (k : Nat) : Byte := l.extractLsb' (8 * k) 8

/-- The mask of bytes `off` to `off + len - 1` of a line. -/
def byteMask (off len : Nat) : Line := (BitVec.allOnes 512 >>> (512 - 8 * len)) <<< (8 * off)

/-- A line with the bytes of a write in their lanes merged over it (R77). -/
def mergeLine (old new : Line) (off len : Nat) : Line := (old &&& ~~~byteMask off len) ||| (new &&& byteMask off len)

/-- The bytes of a request's lanes, the others 0. -/
def laneBytes (l : Line) (off len : Nat) : Line := l &&& byteMask off len

end Sys2Proof.Machine
end

