-- ==== Sys2Proof/Machine/Dram.lean ====
section
/-! DEFINITION. A DRAM channel's lines, queues and error handling: the mapping of lines (R291), the line code (R297, R298), the queues
and the scheduler (R293–R295), and what a correction leads to (R299–R304). -/

namespace Sys2Proof.Machine
open Sys2Proof

/-- The record of channel n. -/
def State.chan (s : State) (n : Nat) : ChanRec := sget .init s.ddr.chan n

/-- The state with the record of channel n replaced. -/
def State.setChan (s : State) (n : Nat) (c : ChanRec) : State :=
  { s with ddr := { s.ddr with chan := sset .init s.ddr.chan n c } }

/-- A cause of channel n (R313). -/
def ddrEvent (n : Nat) (cause enable : Fld) (s : State) : State := raiseCause cause enable n (256 + n) s

/-- The state of a channel (R307). -/
def chanState (s : State) (n : Nat) : Nat := s.rd F.DDR_STAT.STATE n

/-! ### Mapping -/

/-- Where a line of a channel lies (R291). -/
structure DramLoc where
  sc : Nat
  rank : Nat
  bg : Nat
  bank : Nat
  row : Nat
  col : Nat
deriving DecidableEq, Repr

/-- The mapping of line L (R291). -/
def lineLoc (s : State) (n line : Nat) : DramLoc :=
  let r := s.rd F.DDR_CTL.MAP n
  let k := s.rd F.DDR_CFG.RANKS n
  let row := line / 2 ^ (13 + k)
  let rank := line / 2 ^ 13 % 2 ^ k
  if r = 0 then
    ⟨line % 2, rank, (line / 2 % 8) ^^^ (row % 8), (line / 16 % 4) ^^^ (row / 8 % 4), row, line / 64 % 128⟩
  else
    ⟨line % 2, rank, (line / 256 % 8) ^^^ (row % 8), (line / 2048 % 4) ^^^ (row / 8 % 4), row, line / 2 % 128⟩

/-- The number of a bank within its channel. -/
def bankOf (l : DramLoc) : Nat := ((l.sc * 8 + l.rank) * 8 + l.bg) * 4 + l.bank

/-- The first line of a line's row, and the line's place in it (R291). -/
def rowFirst (s : State) (n line : Nat) : Nat :=
  if s.rd F.DDR_CTL.MAP n = 0 then line - line / 64 % 128 * 64 else line - line / 2 % 128 * 2

/-- Line c of the row whose first line is `first`. -/
def rowLine (s : State) (n first c : Nat) : Nat := if s.rd F.DDR_CTL.MAP n = 0 then first + 64 * c else first + 2 * c

/-- The mapped lines of a channel: 2^22 to an extent. -/
def mapLines (s : State) (n : Nat) : Nat := mapCap s n * 2 ^ 22

/-- Line c of spare row k in the channel reserve (R289). -/
def spareRowLine (s : State) (n k c : Nat) : Nat := mapLines s n + 32768 + 128 * k + c

/-- Where an entry of the remap tables sends a line: its spare line, or its place in a spare row, once the row's copy has come to it (R302, R303). -/
def mapStep (s : State) (n line : Nat) : Option Nat :=
  let c := s.chan n
  match c.lineMap.find? (fun e => e.line == line) with
  | some e => some e.spare
  | none =>
    let col := (lineLoc s n line).col
    (c.rowMap.findIdx? (fun e => e.first == rowFirst s n line && (!e.copying || decide (col < e.copied)))).map
      (fun k => spareRowLine s n k col)

/-- The entries followed from a line: a spare that has turned faulty has an entry of its own. -/
def followMap (s : State) (n : Nat) : Nat → Nat → Nat
  | 0, line => line
  | f + 1, line => match mapStep s n line with
    | some l => followMap s n f l
    | none => line

/-- The line that serves line L (R302, R303); the tables hold 96 entries. -/
def physLine (s : State) (n line : Nat) : Nat := followMap s n 96 line

/-! ### The line code -/

/-- The extent that a channel's line belongs to; none for a line of the channel reserve. -/
def extOfLine (s : State) (n line : Nat) : Option Nat :=
  if line < mapLines s n ∧ ilvMember s n then some (dramDa s n (64 * line) / 2 ^ 28) else none

/-- A line lies in an extent cleared since the channel lost its contents. -/
def zeroedLine (s : State) (n line : Nat) : Bool :=
  match extOfLine s n line with
  | some k => (s.chan n).zeroed.contains k
  | none => false

/-- The contents of a stored line; of one that nothing has written since the channel lost its contents, zero codewords where its
extent has been cleared (R263), else an open value (R304). -/
def stored (s : State) (n phys : Nat) : DramLine :=
  match sget none (s.chan n).lines phys with
  | some d => d
  | none => if zeroedLine s n phys then ⟨0, 0⟩ else ⟨Config.dramData s.memGen (s.chan n).gen n phys, Config.dramErr s.memGen (s.chan n).gen n phys⟩

/-- A line stored; what the line reads as unlisted is not listed. -/
def storeLine (n phys : Nat) (d : DramLine) (s : State) : State :=
  let c := s.chan n
  s.setChan n { c with lines := sset none c.lines phys (if zeroedLine s n phys && d == ⟨0, 0⟩ then none else some d) }

/-- The error pattern of a poisoned line: both check symbols of every codeword inverted (R298). -/
def poisonErr : BitVec 640 := BitVec.allOnes 640 <<< 512

/-- A line with an upset's differences in its devices. -/
def upsetLine (u : Upset) (d : DramLine) : DramLine :=
  { d with err := u.devs.foldl (fun e x => e ^^^ (x.2.setWidth 640).shiftLeft (64 * x.1.val)) d.err }

/-- The data symbols of a line as stored. -/
def storedData (d : DramLine) : Line := d.data ^^^ d.err.extractLsb' 0 512

/-- Symbol j of device `dev` in an error pattern. -/
def errSym (e : BitVec 640) (j dev : Nat) : BitVec 8 := e.extractLsb' (64 * dev + 8 * j) 8

/-- Codeword j of an error pattern, ten symbols. -/
def codewordErr (e : BitVec 640) (j : Nat) : BitVec 80 :=
  (List.range 10).foldl (fun w dev => w ||| ((errSym e j dev).setWidth 80 <<< (8 * dev))) 0

/-- The devices whose symbol of codeword j is in error. -/
def errDevs (e : BitVec 640) (j : Nat) : List Nat := (List.range 10).filter (fun dev => errSym e j dev != 0)

/-- How codeword j decodes (R297): 0 zero syndromes, 1 + d located in device d, 11 none located.  A failed device's symbols are
erasures. -/
def codewordOutcome (failed : Nat) (e : BitVec 640) (j : Nat) : Nat :=
  if failed = 0 then
    match errDevs e j with
    | [] => 0
    | [d] => 1 + d
    | _ => Config.rsLocate (codewordErr e j)
  else
    match (errDevs e j).filter (fun d => d + 1 != failed) with
    | [] => if (errDevs e j).isEmpty then 0 else failed
    | [_] => 11
    | _ => if Config.rsLocate (codewordErr e j) = 0 then 0 else 11

/-- What a read of a line finds (R297). -/
inductive LineOutcome where
  | clean
  | corrected (dev : Nat)
  | uncorrectable
  | poisoned
deriving DecidableEq, Repr

/-- The decoding of a line. -/
def classify (failed : Nat) (d : DramLine) : LineOutcome :=
  if d.err = poisonErr then .poisoned
  else
    let os := ((List.range 8).map (codewordOutcome failed d.err)).filter (· != 0)
    match os with
    | [] => .clean
    | o :: rest => if o ≤ 10 ∧ rest.all (· == o) then .corrected (o - 1) else .uncorrectable

/-- What is left of codeword j's errors after its correction. -/
def correctCodeword (failed : Nat) (e : BitVec 640) (j : Nat) : BitVec 640 :=
  let o := codewordOutcome failed e j
  if o = 0 ∨ 10 < o then e
  else
    let v := match errDevs e j with
      | [d] => errSym e j d
      | _ => if failed = o then errSym e j (o - 1) else Config.rsValue (codewordErr e j)
    e ^^^ (v.setWidth 640).shiftLeft (64 * (o - 1) + 8 * j)

/-- The data a corrected or clean line delivers. -/
def correctedData (failed : Nat) (d : DramLine) : Line :=
  d.data ^^^ ((List.range 8).foldl (correctCodeword failed) d.err).extractLsb' 0 512

/-- The failed device of a rank and subchannel; 0: none (R301). -/
def failedOf (s : State) (n : Nat) (l : DramLoc) : Nat := sget 0 (s.chan n).failed (l.rank * 2 + l.sc)

/-- The failed device among those that hold a line, where the line is stored (R297, R301). -/
def failedAt (s : State) (n line : Nat) : Nat := failedOf s n (lineLoc s n (physLine s n line))

/-! ### Logs and counts -/

/-- An error event in DDR_ELOG, the first while VALID is 0. -/
def ddrLog (n kind dev line : Nat) (s : State) : State :=
  if s.flag F.DDR_ELOG_W0.VALID (4 * n) then s
  else
    let l := lineLoc s n line
    let s1 := ((s.wr F.DDR_ELOG_W0.KIND (4 * n) kind).wr F.DDR_ELOG_W0.SC (4 * n) l.sc).wr F.DDR_ELOG_W0.RANK (4 * n) l.rank
    let s2 := ((s1.wr F.DDR_ELOG_W0.DEV (4 * n) dev).wr F.DDR_ELOG_W0.LINE32 (4 * n) (line / 2 ^ 32)).on F.DDR_ELOG_W0.VALID (4 * n)
    ((s2.wr F.DDR_ELOG_W1.LINE (4 * n + 1) line).wr F.DDR_ELOG_W2.DTC_LO (4 * n + 2) s.stamp).wr
      F.DDR_ELOG_W3.DTC_HI (4 * n + 3) (s.stamp / 2 ^ 32)

/-- An uncorrectable line is found by a read (R298). -/
def foundUncorrectable (n line : Nat) (s : State) : State :=
  ddrEvent n F.DDR_EVT.UE F.DDR_EVEN.UE (ddrLog n 0 15 line (s.satAdd F.DDR_UE_CNT.COUNT n 1))

/-! ### Remap -/

/-- The lowest unused spare line whose bank differs from the line's (R302). -/
def spareFor (s : State) (n line : Nat) : Option Nat :=
  let b := bankOf (lineLoc s n line)
  (List.range 1024).findSome? (fun k =>
    let l := mapLines s n + k
    if (s.chan n).lineMap.any (fun e => e.spare == l) ∨ bankOf (lineLoc s n l) = b then none else some l)

/-- The line as it moves to a spare: corrected where it can be, else as stored. -/
def movedLine (s : State) (n line : Nat) : DramLine :=
  let d := stored s n (physLine s n line)
  let f := failedAt s n line
  match classify f d with
  | .clean | .corrected _ => ⟨correctedData f d, 0⟩
  | .uncorrectable | .poisoned => d

/-- A line remapped (R302, R304). -/
def remapLine (n line by_ : Nat) (s : State) : State :=
  match spareFor s n line with
  | none => s
  | some sp =>
    let d := movedLine s n line
    let s1 := storeLine n sp d s
    let c := s1.chan n
    let s2 := s1.setChan n { c with lineMap := c.lineMap ++ [⟨line, sp, by_⟩] }
    let s3 := s2.wr F.DDR_RMP_STAT.LUSED n ((s2.chan n).lineMap.length)
    ddrEvent n F.DDR_EVT.REMAP F.DDR_EVEN.REMAP (ddrLog n 2 15 line s3)

/-- A row's retirement begins: its copy into the next spare row (R303). -/
def retireRow (n line by_ : Nat) (s : State) : State :=
  let c := s.chan n
  let s1 := s.setChan n { c with rowMap := c.rowMap ++ [⟨rowFirst s n line, by_, true, 0⟩] }
  (s1.wr F.DDR_RMP_STAT.RUSED n ((s1.chan n).rowMap.length)).on F.DDR_RMP_STAT.BUSY n

/-- The line has an entry in a remap table. -/
def alreadyMapped (s : State) (n line : Nat) : Bool :=
  (s.chan n).lineMap.any (fun e => e.line == line) || (s.chan n).rowMap.any (fun e => e.first == rowFirst s n line)

/-- What a permanent fault does (R302–R304); the entry is for the place that holds the line, which may be a spare. -/
def permanentFault (n line dev : Nat) (s : State) : State :=
  let s1 := ddrEvent n F.DDR_EVT.PERM F.DDR_EVEN.PERM (ddrLog n 1 dev line s)
  let at_ := physLine s1 n line
  if !s1.flag F.DDR_ECC_CTL.AUTOREMAP n || alreadyMapped s1 n at_ then s1
  else if (s1.chan n).lineMap.length < 32 then remapLine n at_ 1 s1
  else if (s1.chan n).rowMap.length < 64 then retireRow n at_ 1 s1
  else ddrEvent n F.DDR_EVT.DEGRADED F.DDR_EVEN.DEGRADED (ddrLog n 5 dev line (s1.on F.DDR_STAT.DEGRADED n))

/-! ### Corrections -/

/-- The lines of a device corrected in the current window. -/
def permCount (c : ChanRec) (id : Nat) : Nat := (c.permLines.filter (fun e => e.1 == id)).length

/-- A device reaches DEVTHR distinct lines: it is marked failed unless its rank and subchannel hold a failed one; `at_` is where the line is
stored (R301). -/
def deviceThreshold (n at_ dev : Nat) (s : State) : State :=
  let l := lineLoc s n at_
  let s1 := ddrLog n 4 dev at_ s
  if failedOf s n l = 0 then
    let c := s1.chan n
    let s2 := s1.setChan n { c with failed := sset 0 c.failed (l.rank * 2 + l.sc) (dev + 1) }
    let s3 := ((s2.on F.DDR_STAT.DEVFAIL n).wr F.DDR_DEVFAIL.DEV n dev).wr F.DDR_DEVFAIL.SC n l.sc
    ddrEvent n F.DDR_EVT.DEVFAIL F.DDR_EVEN.DEVFAIL ((s3.wr F.DDR_DEVFAIL.RANK n l.rank).satAdd F.DDR_DEVFAIL.COUNT n 1)
  else s1

/-- The correction of a line counted for its device, where the line is stored; the count that reaches DEVTHR in a window acts once (R301). -/
def countDevice (n line dev : Nat) (s : State) : State :=
  let at_ := physLine s n line
  let l := lineLoc s n at_
  let id := (l.rank * 2 + l.sc) * 10 + dev
  let c := s.chan n
  if c.permLines.contains (id, at_) then s
  else
    let c' := { c with permLines := c.permLines ++ [(id, at_)] }
    if s.rd F.DDR_ECC_CTL.DEVTHR n ≤ permCount c' id ∧ c.reached.contains id = false then
      deviceThreshold n at_ dev (s.setChan n { c' with reached := c.reached ++ [id] })
    else s.setChan n c'

/-- The history without the entries that are free: those more than PERMWIN hours old (R301). -/
def liveHistory (s : State) (n : Nat) : List Correction :=
  (s.chan n).hist.filter (fun e => decide (s.dtcNow ≤ e.stamp + 3600000000000 * s.rd F.DDR_ECC_CTL.PERMWIN n))

/-- The history with room for one more: its oldest entry gone where it is full (R301). -/
def historyRoom (s : State) (n : Nat) : List Correction :=
  let h := liveHistory s n
  if h.length < 16 then h else h.drop 1

/-- A correction made by the patrol or by a demand scrub, recorded by the place that holds the line (R301). -/
def correction (n line dev : Nat) (s : State) : State :=
  let at_ := physLine s n line
  let s1 := s.satAdd F.DDR_CE_CNT.COUNT n 1
  let s2 := countDevice n line dev s1
  if (liveHistory s n).any (fun e => e.line == at_ && e.dev == dev) then permanentFault n line dev s2
  else s2.setChan n { s2.chan n with hist := historyRoom s n ++ [⟨at_, dev, s.stamp⟩] }

/-! ### Queues -/

/-- The line of a request at channel n. -/
def reqLine (s : State) (n : Nat) (r : Req) : Nat := ((chanAddr s n r.da).getD 0) / 64

/-- The queues of a channel are empty. -/
def queuesEmpty (c : ChanRec) : Bool := c.rq.isEmpty && c.wq.isEmpty

/-- Nothing waits for the queues of a channel either. -/
def nothingWaits (c : ChanRec) : Bool := queuesEmpty c && c.fe.isEmpty

/-- The DTC value of the queues' becoming empty kept (R307). -/
def noteEmpty (n : Nat) (s : State) : State :=
  let c := s.chan n
  if nothingWaits c then s.setChan n { c with emptyAt := s.dtcNow } else s

/-- The subchannels that drain writes, after a change of the queues: a drain begins with WHI lines, or with none to read and writes waiting, and
ends with WLO lines or fewer and reads waiting (R294). -/
def drainBits (s : State) (n : Nat) (c : ChanRec) : BitVec 2 :=
  BitVec.ofNat 2 ((List.range 2).foldl (fun m sc =>
    let w := (c.wq.filter (fun e => e.line % 2 == sc)).length
    let r := (c.rq.filter (fun e => e.line % 2 == sc)).length
    let d := if c.drain.getLsbD sc then !(decide (w ≤ s.rd F.DDR_SCHED.WLO n) && decide (0 < r))
      else decide (s.rd F.DDR_SCHED.WHI n ≤ w) || (r == 0 && decide (0 < w))
    m + b2n d * 2 ^ sc) 0)

/-- The queues of a channel changed. -/
def setQueues (n : Nat) (rq : List RdEntry) (wq : List WrEntry) (s : State) : State :=
  let c := { s.chan n with rq := rq, wq := wq }
  s.setChan n { c with drain := drainBits s n c }

/-- The data of a queued write to a line. -/
def queuedWrite (c : ChanRec) (line : Nat) : Option Line := (c.wq.find? (fun e => e.line == line)).map (·.data)

/-- A whole line put into the write queue; a line queued already takes its place (R295, log entry 15). -/
def queueLine (n line : Nat) (d : Line) (s : State) : State :=
  let c := s.chan n
  setQueues n c.rq
    (if (queuedWrite c line).isSome then c.wq.map (fun e => if e.line = line then { e with data := d } else e)
      else c.wq ++ [⟨line, d, s.dtcNow⟩]) s

/-- A request waits at the front end of the channel. -/
def feWait (n : Nat) (r : Req) (s : State) : State :=
  let c := s.chan n
  s.setChan n { c with fe := c.fe ++ [r] }

/-- The read that merges a partial write: the line from the write queue, or from DRAM; none where it is uncorrectable or poisoned (R295). -/
def mergeRead (n line : Nat) (s : State) : Option Line × State :=
  match queuedWrite (s.chan n) line with
  | some d => (some d, s)
  | none =>
    let d := stored s n (physLine s n line)
    let f := failedAt s n line
    match classify f d with
    | .clean | .corrected _ => (some (correctedData f d), s)
    | .uncorrectable => (none, foundUncorrectable n line s)
    | .poisoned => (none, s)

/-- A request enters its queue, is answered from the write queue, or waits at the front end (R293, R295). -/
def enqueue (n : Nat) (s : State) (r : Req) : State :=
  let line := reqLine s n r
  let c := s.chan n
  let sc := line % 2
  if c.fe.any (fun q => reqLine s n q == line) then feWait n r s
  else match r.op with
    | .read => match queuedWrite c line with
      | some d => respond r (.data (laneBytes d (r.da % 64) r.len)) s
      | none =>
        if (c.rq.filter (fun e => e.line % 2 == sc)).length < 64 then setQueues n (c.rq ++ [⟨r, line, s.dtcNow⟩]) c.wq s
        else feWait n r s
    | .write =>
      if c.rq.any (fun e => e.line == line) then feWait n r s
      else if (queuedWrite c line).isNone ∧ 64 ≤ (c.wq.filter (fun e => e.line % 2 == sc)).length then feWait n r s
      else if r.len = 64 then respond r .ack (queueLine n line r.data s)
      else
        let (old, s1) := mergeRead n line s
        match old with
        | some d => respond r .ack (queueLine n line (mergeLine d r.data (r.da % 64) r.len) s1)
        | none => respond r (.error 5 2) s1

/-- The requests at the front end tried again, in arrival order, while the queues accept (R307). -/
def refeed (n : Nat) (s : State) : State :=
  let c := s.chan n
  if chanState s n = 2 then noteEmpty n (c.fe.foldl (enqueue n) (s.setChan n { c with fe := [] })) else s

/-! ### The scheduler -/

/-- MCK cycles of channel n in a time of `ns` nanoseconds. -/
def mckCycles (s : State) (n ns : Nat) : Nat := ns * s.rd F.CLK_ROOT_CFG.MULT 0 / (10 * s.rd F.CLK_MCK.DIV n)

/-- The row of a line is open in its bank. -/
def rowHit (s : State) (n line : Nat) : Bool :=
  let l := lineLoc s n (physLine s n line)
  (sget (0, 0) (s.chan n).open_ (bankOf l)).1 == l.row + 1

/-- The entry to be served first (R294): one past the age limit, else a row hit, else the oldest.  Arguments: the line and the arrival
of each entry, oldest first. -/
def pickEntry (s : State) (n : Nat) (q : List (Nat × Nat)) : Option Nat :=
  let agemax := s.rd F.DDR_SCHED.AGEMAX n
  match q.find? (fun e => agemax ≤ mckCycles s n (s.dtcNow - e.2)) with
  | some e => some e.1
  | none => match q.find? (fun e => rowHit s n e.1) with
    | some e => some e.1
    | none => q.head?.map (·.1)

/-- The queues hold a further hit on the row of a line (R292). -/
def moreHits (s : State) (n line : Nat) : Bool :=
  let place (l : Nat) : Nat × Nat := let p := lineLoc s n (physLine s n l); (bankOf p, p.row)
  let c := s.chan n
  c.rq.any (fun e => place e.line == place line) || c.wq.any (fun e => place e.line == place line)

/-- The bank of a line after an access: the row stays open, or is precharged with the access that empties its queue of hits (R292). -/
def touchRow (n line : Nat) (s : State) : State :=
  let l := lineLoc s n (physLine s n line)
  let c := s.chan n
  let closed := (!s.flag F.DDR_CTL.PAGE n || s.rd F.DDR_CTL.PGTMO n == 0) && !moreHits s n line
  s.setChan n { c with open_ := sset (0, 0) c.open_ (bankOf l) (if closed then (0, 0) else (l.row + 1, s.dtcNow)) }

/-- A line read for a user: classified and answered (R297–R299). -/
def userRead (n : Nat) (e : RdEntry) (u : Upset) (s : State) : State :=
  let phys := physLine s n e.line
  let d := upsetLine u (stored s n phys)
  let s1 := if u.devs.isEmpty then s else storeLine n phys d s
  let f := failedAt s n e.line
  let lanes (x : Line) : Line := laneBytes x (e.req.da % 64) e.req.len
  match classify f d with
  | .clean => respond e.req (.data (lanes (storedData d))) s1
  | .corrected _ =>
    let c := s1.chan n
    let s2 := if (sget none c.demand (e.line % 2)).isNone then
        s1.setChan n { c with demand := sset none c.demand (e.line % 2) (some e.line) }
      else s1
    respond e.req (.data (lanes (correctedData f d))) s2
  | .uncorrectable => respond e.req (.poisoned (lanes (storedData d))) (foundUncorrectable n e.line s1)
  | .poisoned => respond e.req (.poisoned (lanes d.data)) s1

/-- The read of line `line` served. -/
def serveRead (n line : Nat) (u : Upset) (s : State) : State :=
  let c := s.chan n
  match c.rq.find? (fun e => e.line == line) with
  | none => s
  | some e =>
    let s1 := setQueues n (c.rq.erase e) c.wq s
    touchRow n line (userRead n e u (s1.setChan n { s1.chan n with readsSince := c.readsSince + 1 }))

/-- The queued write of line `line` served. -/
def serveWrite (n line : Nat) (s : State) : State :=
  let c := s.chan n
  match c.wq.find? (fun e => e.line == line) with
  | none => s
  | some e =>
    let s1 := setQueues n c.rq (c.wq.erase e) s
    touchRow n line (storeLine n (physLine s1 n line) ⟨e.data, 0⟩ s1)

/-- The next line of the oldest row in copying is copied, in one operation of the scheduler (R303; DESIGN CHOICE of the moment, log entry 191). -/
def copyLine (n : Nat) (s : State) : State :=
  match (s.chan n).rowMap.findIdx? (·.copying) with
  | none => s
  | some k => match (s.chan n).rowMap[k]? with
    | none => s
    | some r =>
      if 128 ≤ r.copied then s
      else
        let s1 := storeLine n (spareRowLine s n k r.copied) (movedLine s n (rowLine s n r.first r.copied)) s
        s1.setChan n { s1.chan n with rowMap := listSet (s1.chan n).rowMap k { r with copied := r.copied + 1 } }

/-- The scheduler of a subchannel serves one request: a write in a drain, else a read (R294). -/
def schedulerServe (n sc : Nat) (u : Upset) (s : State) : State :=
  let c := s.chan n
  let served :=
    if c.drain.getLsbD sc then
      match pickEntry s n ((c.wq.filter (fun e => e.line % 2 == sc)).map (fun e => (e.line, e.since))) with
      | some l => serveWrite n l s
      | none => s
    else
      match pickEntry s n ((c.rq.filter (fun e => e.line % 2 == sc)).map (fun e => (e.line, e.since))) with
      | some l => serveRead n l u s
      | none => s
  refeed n (copyLine n served)

/-- SCHEDULER_SERVE: in Active, or while a hold drains the queues. -/
def execSchedulerServe (n : Fin 12) (sc : Fin 2) (u : Upset) (s : State) : Host.Outcome State Fault Refusal :=
  done (guarded (chanState s n == 2 || chanState s n == 4) s (schedulerServe n sc u))

/-- OPEN_ROW_TIMEOUT: an open row has been idle for PGTMO MCK cycles (R292). -/
def execOpenRowTimeout (n : Fin 12) (bank : Fin 512) (s : State) : Host.Outcome State Fault Refusal :=
  let o := sget (0, 0) (s.chan n).open_ bank
  done (guarded (s.flag F.DDR_CTL.PAGE n && o.1 != 0 && decide (s.rd F.DDR_CTL.PGTMO n ≤ mckCycles s n (s.dtcNow - o.2))) s
    (fun s => s.setChan n { s.chan n with open_ := sset (0, 0) (s.chan n).open_ bank (0, 0) }))

/-! ### Poison and dirty data -/

/-- A line stored as poisoned, with the data last written (R298). -/
def poisonLine (n line : Nat) (s : State) : State :=
  let c := s.chan n
  let d := (queuedWrite c line).getD (stored s n (physLine s n line)).data
  storeLine n (physLine s n line) ⟨d, poisonErr⟩ (setQueues n c.rq (c.wq.filter (fun e => e.line != line)) s)

/-! ### Scrubs -/

/-- A scrub's reread of a line: a correction is written back unless a write to the line waits, and classified (R299, R301). -/
def scrubLine (n line : Nat) (u : Upset) (s : State) : State :=
  let phys := physLine s n line
  let d := upsetLine u (stored s n phys)
  let s1 := if u.devs.isEmpty then s else storeLine n phys d s
  let f := failedAt s n line
  match classify f d with
  | .clean | .poisoned => s1
  | .corrected dev =>
    let s2 := if (queuedWrite (s1.chan n) line).isSome then s1 else storeLine n phys ⟨correctedData f d, 0⟩ s1
    correction n line dev s2
  | .uncorrectable => foundUncorrectable n line s1

/-- DEMAND_SCRUB: the posted line of a subchannel is reread in an idle read slot. -/
def execDemandScrub (n : Fin 12) (sc : Fin 2) (u : Upset) (s : State) : Host.Outcome State Fault Refusal :=
  done (match sget none (s.chan n).demand sc with
    | none => s
    | some line => guarded (chanState s n == 2 && !(s.chan n).rq.any (fun e => e.line % 2 == sc.val)) s (fun s =>
        scrubLine n line u (s.setChan n { s.chan n with demand := sset none (s.chan n).demand sc none })))

/-- The spare lines the patrol reads: the spare lines in use and the lines of the spare rows in use, ascending (R300). -/
def spareInUse (s : State) (n : Nat) : List Nat :=
  let c := s.chan n
  let ls := ((List.range 1024).map (mapLines s n + ·)).filter (fun l => c.lineMap.any (fun e => e.spare == l))
  ls ++ ((List.range c.rowMap.length).map (fun k => (List.range 128).map (spareRowLine s n k))).flatten

/-- The patrol's next line. -/
def patrolPos (s : State) (n : Nat) : Nat := s.rd F.DDR_PAT_POS_LO.LINE n + 2 ^ 32 * s.rd F.DDR_PAT_POS_HI.LINE32 n

/-- The patrol's position set. -/
def setPatrolPos (n line : Nat) (s : State) : State :=
  (s.wr F.DDR_PAT_POS_LO.LINE n line).wr F.DDR_PAT_POS_HI.LINE32 n (line / 2 ^ 32)

/-- The lines of a pass, and the lines of it behind the position. -/
def patrolIdx (s : State) (n : Nat) : Nat × Nat :=
  let sp := spareInUse s n
  let pos := patrolPos s n
  (mapLines s n + sp.length, if pos < mapLines s n then pos else mapLines s n + (sp.filter (· < pos)).length)

/-- The lines the patrol should have read by now (R300). -/
def patrolDue (s : State) (n : Nat) : Nat :=
  let c := s.chan n
  let (total, _) := patrolIdx s n
  min total ((s.dtcNow - c.passStart) * total / max 1 c.passLen)

/-- A pass starts: the position is 0 and the PERIOD of now applies (R300). -/
def startPass (n start : Nat) (s : State) : State :=
  let s1 := setPatrolPos n 0 s
  s1.setChan n { s1.chan n with passStart := start, passLen := 60000000000 * s1.rd F.DDR_PAT_CTL.PERIOD n }

/-- The patrol moves to the next line, or to the next pass. -/
def patrolAdvance (n : Nat) (s : State) : State :=
  let pos := patrolPos s n
  if pos + 1 < mapLines s n then setPatrolPos n (pos + 1) s
  else match (spareInUse s n).find? (fun l => pos < l) with
    | some l => setPatrolPos n l s
    | none => startPass n ((s.chan n).passStart + (s.chan n).passLen) (s.wrapInc F.DDR_PAT_STAT.PASS n)

/-- The lag of the patrol noted: at 65,536 lines it is late, and it stays so until it has caught up (R300). -/
def patrolLag (n : Nat) (s : State) : State :=
  let behind := patrolDue s n - (patrolIdx s n).2
  if 65536 ≤ behind ∧ (s.chan n).lagging = false then
    ddrEvent n F.DDR_EVT.PATLATE F.DDR_EVEN.PATLATE
      ((s.setChan n { s.chan n with lagging := true }).on F.DDR_PAT_STAT.LATE n)
  else if behind ≤ 1 then s.setChan n { s.chan n with lagging := false }
  else s

/-- PATROL_READ: the patrol reads its next line when it is due and its subchannel has room, or when a slot falls to it (R300). -/
def execPatrolRead (n : Fin 12) (u : Upset) (s : State) : Host.Outcome State Fault Refusal :=
  let s1 := patrolLag n s
  let c := s1.chan n
  let pos := patrolPos s1 n
  let room := decide ((c.rq.filter (fun e => e.line % 2 == pos % 2)).length < 8) || (c.lagging && decide (32 ≤ c.readsSince))
  done (guarded (s.flag F.DDR_PAT_CTL.EN n && chanState s n == 2 && 0 < mapLines s n) s (fun _ =>
    guarded (room && decide ((patrolIdx s1 n).2 < patrolDue s1 n)) s1 (fun s =>
      patrolAdvance n (scrubLine n pos u (s.setChan n { s.chan n with readsSince := 0 })))))

/-- PERMWIN_WINDOW: the window of the device counts ends and the next begins (R301). -/
def execPermwinWindow (n : Fin 12) (s : State) : Host.Outcome State Fault Refusal :=
  let len := 3600000000000 * s.rd F.DDR_ECC_CTL.PERMWIN n
  done (guarded (s.expired (s.chan n).permStart len) s (fun s =>
    s.setChan n { s.chan n with permStart := (s.chan n).permStart + len, permLines := [], reached := [] }))

/-- The lines of a retired row still to be copied go into its spare row, and the row is retired (R303). -/
def copyRow (n k : Nat) (r : RowMap) (s : State) : State :=
  let s1 := ((List.range 128).drop r.copied).foldl (fun t c =>
    storeLine n (spareRowLine t n k c) (movedLine t n (rowLine t n r.first c)) t) s
  let s2 := s1.setChan n { s1.chan n with rowMap := listSet (s1.chan n).rowMap k { r with copying := false, copied := 128 } }
  let s3 := s2.wr F.DDR_RMP_STAT.BUSY n (b2n ((s2.chan n).rowMap.any (·.copying)))
  ddrEvent n F.DDR_EVT.ROWRET F.DDR_EVEN.ROWRET (ddrLog n 3 15 r.first s3)

/-- ROW_COPY_COMPLETE: the copy of the oldest row in copying ends. -/
def execRowCopyComplete (n : Fin 12) (s : State) : Host.Outcome State Fault Refusal :=
  done (match (s.chan n).rowMap.findIdx? (·.copying) with
    | some k => match (s.chan n).rowMap[k]? with
      | some r => copyRow n k r s
      | none => s
    | none => s)

/-- A write of DDR_RMP_CMDn (R304): an entry the Keeper firmware adds; FAIL where the table is full or the line is remapped. -/
def ddrRemapAdd (n : Nat) (v : Word) (s : State) : State :=
  if F.DDR_RMP_CMD.ADD.of v = 0 ∨ s.flag F.DDR_RMP_STAT.BUSY n then s
  else
    let line := 16 * F.DDR_RMP_CMD.LINE.of v
    if alreadyMapped s n line then s.on F.DDR_RMP_STAT.FAIL n
    else if F.DDR_RMP_CMD.ROW.of v = 1 then
      (if (s.chan n).rowMap.length < 64 then retireRow n line 2 s else s.on F.DDR_RMP_STAT.FAIL n)
    else if (s.chan n).lineMap.length < 32 then remapLine n line 2 s
    else s.on F.DDR_RMP_STAT.FAIL n

/-- DDR_REMAP_ADD. -/
def execDdrRemapAdd (n : Fin 12) (v : Word) (s : State) : Host.Outcome State Fault Refusal := done (ddrRemapAdd n v s)

end Sys2Proof.Machine
end

