-- ==== Sys2Proof/Machine/DramCtl.lean ====
section
/-! DEFINITION. The control of a DRAM channel: interleave sets and their seal (R290), refresh and temperature (R305, R306), self-refresh,
holds and frequency changes (R307–R310, R507, R508), and the training helpers (R311). -/

namespace Sys2Proof.Machine
open Sys2Proof

/-- A channel's state set. -/
def setChanState (n st : Nat) (s : State) : State := s.wr F.DDR_STAT.STATE n st

/-! ### Interleave sets -/

/-- MAPCAP computed from DDR_CFG (R289). -/
def showMapCap (n : Nat) (s : State) : State := s.wr F.DDR_MAPCAP.M n (mapCap s n)

/-- The channels in service now. -/
def inService (s : State) : List Nat := (List.range 12).filter (fun n => s.flag F.DDR_CTL.INSERVICE n)

/-- The members of set k. -/
def setMembers (s : State) (k : Nat) : List Nat := (inService s).filter (fun n => s.rd F.DDR_ILV.SET n == k)

/-- Set k has members that agree and fill every position once (R290). -/
def setGood (s : State) (k : Nat) : Bool :=
  match setMembers s k with
  | [] => false
  | m :: rest =>
    let w := waysOf (s.rd F.DDR_ILV.WAYS m)
    (m :: rest).all (fun n => s.rd F.DDR_CFG.KIND n != 0 && mapCap s n == mapCap s m &&
      s.rd F.DDR_ILV.WAYS n == s.rd F.DDR_ILV.WAYS m && s.rd F.DDR_ILV.GRAN n == s.rd F.DDR_ILV.GRAN m &&
      s.rd F.DDR_ILVBASE.BASE n == s.rd F.DDR_ILVBASE.BASE m) &&
    (m :: rest).length == w &&
    (List.range w).all (fun p => (m :: rest).any (fun n => s.rd F.DDR_ILV.POS n == p))

/-- Set k begins where the sets before it end; `at` is that extent. -/
def setsFollow (s : State) : Nat → Nat → Nat → Bool
  | 0, _, _ => true
  | c + 1, k, from_ =>
    match setMembers s k with
    | [] => false
    | m :: _ => s.rd F.DDR_ILVBASE.BASE m == from_ && setsFollow s c (k + 1) (from_ + (setSpan s m).2)

/-- The interleave registers meet R290. -/
def ilvGood (s : State) : Bool :=
  let sets := (inService s).foldl (fun m n => max m (s.rd F.DDR_ILV.SET n + 1)) 0
  (List.range sets).all (setGood s) && setsFollow s sets 0 0

/-- SEAL: the sets are sealed in every channel, or SEALERR is set in every channel (R290). -/
def sealIlv (s : State) : State :=
  if ilvSealed s then s
  else if ilvGood s then
    let s1 := { s with ddr := { s.ddr with members := (inService s).foldl (fun m n => m ||| BitVec.ofNat 12 (2 ^ n)) 0 } }
    (List.range 12).foldl (fun t n => (t.on F.DDR_ILV.SEAL n).off F.DDR_ILV.SEALERR n) s1
  else (List.range 12).foldl (fun t n => t.on F.DDR_ILV.SEALERR n) s

/-- SEAL: a write of 1 to DDR_ILVn.SEAL of a channel. -/
def execSealChannel (_n : Fin 12) (s : State) : Host.Outcome State Fault Refusal := done (sealIlv s)

/-! ### Refresh and temperature -/

/-- A rank has queued requests. -/
def rankBusy (s : State) (n rank : Nat) : Bool :=
  let c := s.chan n
  c.rq.any (fun e => (lineLoc s n e.line).rank == rank) || c.wq.any (fun e => (lineLoc s n e.line).rank == rank)

/-- The banks of a rank precharged for a refresh: all of them, or one of each bank group. -/
def closeBanks (n rank : Nat) (b : Option Nat) (s : State) : State :=
  let c := s.chan n
  s.setChan n { c with open_ := c.open_.filter (fun e =>
    !(e.1 / 32 % 8 == rank && (match b with | some k => e.1 % 4 == k | none => true))) }

/-- A refresh of a rank is issued: an interval owed is made up, and a change of HOT shows from now (R305, R306). -/
def issueRefresh (n rank : Nat) (b : Option Nat) (extra : Int) (s : State) : State :=
  let s1 := closeBanks n rank b s
  let c := s1.chan n
  s1.setChan n { c with
    owed := sset 0 c.owed rank (sget 0 c.owed rank + extra)
    shortened := BitVec.ofNat 8 (nsetBit c.shortened.toNat rank (nbit (s.rd F.DDR_STAT.HOT n) rank)) }

/-- The banks a refresh command of the channel's mode takes: all of them, or bank index `b` of each bank group (R305). -/
def refreshBanks (s : State) (n : Nat) (b : Fin 4) : Option Nat := if s.flag F.DDR_CTL.REFSB n then some b.val else none

/-- REFRESH: a refresh interval of a rank falls due, or one is made up or pulled in; at most 4 are owed or ahead (R305).  A due interval that has been
pulled in needs no refresh; any other is refreshed now, or postponed while the rank has queued requests. -/
def execRefresh (n : Fin 12) (rank : Fin 8) (act : RefreshAct) (s : State) : Host.Outcome State Fault Refusal :=
  let c := s.chan n
  let owed := sget 0 c.owed rank
  let runs := (chanState s n == 1 && c.timed) || chanState s n == 2 || chanState s n == 4 || chanState s n == 6
  done (guarded (runs && decide (rank.val < 2 ^ s.rd F.DDR_CFG.RANKS n)) s (fun s =>
    match act with
    | .all => guarded (!s.flag F.DDR_CTL.REFSB n) s (issueRefresh n rank none 0)
    | .bank b => guarded (s.flag F.DDR_CTL.REFSB n) s (issueRefresh n rank (some b.val) 0)
    | .postpone => guarded (decide (owed < 0) || (rankBusy s n rank && decide (owed < 4))) s (fun s =>
        s.setChan n { c with owed := sset 0 c.owed rank (owed + 1) })
    | .pullIn b => guarded (decide (0 < owed) || (!rankBusy s n rank && decide (-4 < owed))) s
        (issueRefresh n rank (refreshBanks s n b) (-1))))

/-- A rank's readout, the hottest of its devices at its hotter end (R306). -/
def hotReadout (n : Nat) (s : State) (e : Fin 8 × Nat) : State :=
  let was := nbit (s.rd F.DDR_STAT.HOT n) e.1
  let s1 := if 85 < e.2 then s.wrBit F.DDR_STAT.HOT n e.1 true
    else if e.2 ≤ 83 then s.wrBit F.DDR_STAT.HOT n e.1 false else s
  if (85 < e.2 ∧ !was) ∨ 95 < e.2 then ddrEvent n F.DDR_EVT.HOT F.DDR_EVEN.HOT s1 else s1

/-- MR4_POLL: the temperatures of the active ranks are read; not in self-refresh (R306). -/
def execMr4Poll (n : Fin 12) (readouts : List (Fin 8 × Nat)) (s : State) : Host.Outcome State Fault Refusal :=
  let runs := (chanState s n == 1 && (s.chan n).timed) || chanState s n == 2 || chanState s n == 4 || chanState s n == 6
  done (guarded runs s (fun s =>
    (readouts.filter (fun e => e.1.val < 2 ^ s.rd F.DDR_CFG.RANKS n)).foldl (hotReadout n) s))

/-! ### Self-refresh and holds -/

/-- An extent that waits for clearing has lines on the channel (R264). -/
def clearingWaits (s : State) (n : Nat) : Bool := s.coh.clearQ.any (fun k => (chansOf s k).contains n)

/-- SELF_REFRESH_ENTRY: the queues have been empty for SRIDLE microseconds (R307). -/
def execSelfRefreshEntry (n : Fin 12) (s : State) : Host.Outcome State Fault Refusal :=
  let c := s.chan n
  let idle := s.rd F.DDR_SRIDLE.IDLE n
  done (guarded (chanState s n == 2 && idle != 0 && nothingWaits c && c.held.isEmpty && c.holdNext.isNone && !clearingWaits s n &&
      decide (c.emptyAt + 1000 * idle ≤ s.dtcNow)) s (fun s =>
    setChanState n 3 (s.setChan n { s.chan n with srAt := s.dtcNow, open_ := [] })))

/-- The rates allowed for a population: the kind of module, the DIMMs, the ranks, and a capacity of at most 512 GiB (R287). -/
def rateAllowed (kind dpc ranks dens rate : Nat) : Bool :=
  decide (2 ^ ranks * (32 * 2 ^ dens) ≤ 512) &&
  (if kind = 1 then (if dpc = 0 then decide (rate ≤ 5) else decide (1 ≤ ranks) && decide (rate ≤ 2))
  else if kind = 2 then dpc == 0 && (rate == 5 || rate == 6)
  else false)

/-- A rate is allowed for the population of channel n. -/
def rateServes (s : State) (n rate : Nat) : Bool :=
  rateAllowed (s.rd F.DDR_CFG.KIND n) (s.rd F.DDR_CFG.DPC n) (s.rd F.DDR_CFG.RANKS n) (s.rd F.DDR_CFG.DENS n) rate

/-- The MCK of a rate code, in MHz: a sixteenth of the data rate (R288). -/
def rateMck (rate : Nat) : Nat := [300, 350, 400, 450, 500, 550, 800].getD rate 0

/-- A divisor gives a rate its MCK at the root in force: legal, and the root exactly that multiple of MCK (R47, R288). -/
def mckServes (s : State) (n rate div : Nat) : Bool :=
  divLegal s (.mck (Fin.ofNat 12 n)) div && 100 * s.rd F.CLK_ROOT_CFG.MULT 0 == rateMck rate * div

/-- The shadow set can be used now: its divisor meets R47 at the root in force, and its rate R287 (R309, R507). -/
def shadowGood (s : State) (n : Nat) : Bool :=
  let rate := s.rd F.DDR_TIM_SHADOW0.RATE (8 * n)
  mckServes s n rate (s.rd F.DDR_TIM_SHADOW0.MCKDIV (8 * n)) && rateServes s n rate

/-- A hold of the kind would be accepted now (R309). -/
def holdAccepted (s : State) (n kind : Nat) : Bool :=
  let st := chanState s n
  (st == 2 || st == 3 || (st == 6 && kind == 0)) && (s.chan n).holdNext.isNone &&
    (kind == 1 || (s.flag F.DDR_TIM_SHCTL.VALID n && shadowGood s n))

/-- A frequency change begins once the queues are empty: the postponed refreshes are issued, and the entry command with every bank closed (R307). -/
def freqEntry (n : Nat) (s : State) : State :=
  let c := s.chan n
  setChanState n 5 (s.setChan n { c with owed := c.owed.filter (fun e => decide (e.2 < 0)), srAt := s.dtcNow, open_ := [] })

/-- A hold starts: Draining from Active, at the exit from SRPower, FreqChange from TrainHold (R307). -/
def startHold (n kind : Nat) (s : State) : State :=
  let c := s.chan n
  if chanState s n = 3 then s.setChan n { c with holdNext := some (kind == 0) }
  else
    let s1 := s.setChan n { c with freqHold := kind == 0, swapped := false }
    if chanState s n = 6 then freqEntry n s1 else setChanState n 4 s1

/-- A GO of the kind (R309). -/
def holdGo (n kind : Nat) (s : State) : State :=
  if holdAccepted s n kind then startHold n kind s else s.on F.DDR_HOLD_STAT.REJECT n

/-- HOLD_GO. -/
def execHoldGo (n : Fin 12) (kind : BitVec 1) (s : State) : Host.Outcome State Fault Refusal := done (holdGo n kind.toNat s)

/-- QUEUES_EMPTY: a drain ends (R307). -/
def execQueuesEmpty (n : Fin 12) (s : State) : Host.Outcome State Fault Refusal :=
  let c := s.chan n
  done (guarded (chanState s n == 4 && queuesEmpty c) s (fun s =>
    if c.freqHold then freqEntry n s else setChanState n 6 s))

/-- The shadow set becomes the active set and its divisor commits to the channel's clock (R307, R507, R50). -/
def loadShadow (n : Nat) (keepActive : Bool) (s : State) : State :=
  let act (k : Nat) : Word := s.reg .DDR_TIM_ACT (8 * n + k)
  let sh (k : Nat) : Word := s.reg .DDR_TIM_SHADOW (8 * n + k)
  let s1 := (List.range 8).foldl (fun t k =>
    let t1 := t.setReg .DDR_TIM_ACT (8 * n + k) (sh k)
    if keepActive then t1.setReg .DDR_TIM_SHADOW (8 * n + k) (act k) else t1) s
  let div := s1.rd F.DDR_TIM_ACT0.MCKDIV (8 * n)
  let s2 := (s1.wr F.CLK_MCK.DIV_NEXT n div).wr F.DDR_STAT.RATE n (s1.rd F.DDR_TIM_ACT0.RATE (8 * n))
  commitDivisor (.mck (Fin.ofNat 12 n)) div (s2.off F.DDR_TIM_SHCTL.VALID n)

/-- FREQCHANGE_ENTRY_COMPLETE: the sets are swapped and the divisor committed (R307). -/
def execFreqchangeEntryComplete (n : Fin 12) (s : State) : Host.Outcome State Fault Refusal :=
  done (guarded (chanState s n == 5 && !(s.chan n).swapped) s (fun s =>
    let s1 := loadShadow n true s
    s1.setChan n { s1.chan n with swapped := true }))

/-- FREQCHANGE_EXIT: after tXS the channel is in TrainHold (R307). -/
def execFreqchangeExit (n : Fin 12) (s : State) : Host.Outcome State Fault Refusal :=
  done (guarded (chanState s n == 5 && (s.chan n).swapped) s (fun s =>
    ddrEvent n F.DDR_EVT.HOLDDONE F.DDR_EVEN.HOLDDONE (setChanState n 6 s)))

/-- A write of DDR_CTLn.INSERVICE = 1: only in Init; refresh and patrol start (R307, R508). -/
def inserviceWrite (n : Nat) (s : State) : State :=
  if chanState s n = 1 then
    noteEmpty n (startPass n s.dtcNow (setChanState n 2 (s.on F.DDR_CTL.INSERVICE n)))
  else s

/-- INSERVICE. -/
def execInservice (n : Fin 12) (s : State) : Host.Outcome State Fault Refusal := done (inserviceWrite n s)

/-- A write of 1 to DDR_TIM_SHCTLn.VALID: in Init the shadow set is loaded at once, or refused (R507). -/
def shadowValid (n : Nat) (s : State) : State :=
  if chanState s n = 1 then
    (if shadowGood s n then
      let s1 := loadShadow n false s
      s1.setChan n { s1.chan n with timed := true }
     else s.on F.DDR_HOLD_STAT.REJECT n)
  else s.on F.DDR_TIM_SHCTL.VALID n

/-- SHADOW_VALID. -/
def execShadowValid (n : Fin 12) (s : State) : Host.Outcome State Fault Refusal := done (shadowValid n s)

/-! ### The PHY domain -/

/-- The channel's PHY domain goes off: its contents, queues, tables and settings are lost (R307, R304, R431). -/
def channelOff (n : Nat) (s : State) : State :=
  let c := s.chan n
  let s1 := s.setChan n { ChanRec.init with gen := c.gen + 1, permStart := c.permStart }
  let s2 := ((setChanState n 0 s1).off F.DDR_CTL.INSERVICE n).wr F.DDR_HOLD_STAT.HELD n 0
  let s3 := ((s2.wr F.DDR_STAT.HOT n 0).off F.DDR_STAT.DEGRADED n).off F.DDR_STAT.DEVFAIL n
  let s4 := ((s3.wr F.DDR_RMP_STAT.LUSED n 0).wr F.DDR_RMP_STAT.RUSED n 0).off F.DDR_RMP_STAT.BUSY n
  let s5 := (s4.off F.DDR_TRN_STAT.SAVED n).off F.DDR_TRN_STAT.BUSY n
  { s5 with coh := { s5.coh with
      pt := s5.coh.pt.foldl (fun l e =>
        if (chansOf s e.1).contains n then sset .free l e.1 { e.2 with clean := false } else l) s5.coh.pt
      stalled := s5.coh.stalled.filter (fun r => r.dst != channelEp n) } }

/-- The PHY domain is on again: Init (R307). -/
def channelOn (n : Nat) (s : State) : State := if chanState s n = 0 then setChanState n 1 s else s

/-! ### Training helpers -/

/-- The helpers work in Init and in TrainHold only (R311). -/
def helperState (s : State) (n : Nat) : Bool := chanState s n == 1 || chanState s n == 6

/-- The lines a generator run covers: LINES lines from ADDR, at most 64 in TrainHold and for a run that saves, on the subchannels of
SCMASK (R311). -/
def trnLines (s : State) (n : Nat) (v : Word) : List Nat :=
  let l := F.DDR_TRN_CTL.LINES.of v
  let count := if l = 0 then 4096 else l
  let count := if chanState s n = 6 ∨ F.DDR_TRN_CTL.MODE.of v = 3 then min 64 count else count
  ((List.range count).map (s.rd F.DDR_TRN_ADDR.LINE n + ·)).filter (fun x => nbit (F.DDR_TRN_CTL.SCMASK.of v) (x % 2))

/-- The user pattern of 64 bytes (R311). -/
def userPattern (s : State) (n : Nat) : Line :=
  (List.range 16).foldl (fun l k => l ||| ((s.reg .DDR_TRN_USER (16 * n + k)).setWidth 512).shiftLeft (32 * k)) 0

/-- The pattern on line k of a run. -/
def trnData (s : State) (n pat k : Nat) : Line := if pat = 6 then userPattern s n else Config.trnPattern pat k

/-- The ward on the generator: while an extent of the channel is held by a tenant, the lines lie in the channel reserve or in FREE and
KEEPER extents of the channel (R378). -/
def trnAdmitted (s : State) (n : Nat) (lines : List Nat) : Bool :=
  let mode (k : Nat) : Nat := (sget .free s.coh.pt k).mode
  let anyHeld := s.coh.pt.any (fun e => (chansOf s e.1).contains n && e.2.mode != 0 && e.2.mode != 4)
  !anyHeld || lines.all (fun l =>
    decide (mapLines s n ≤ l) || (let m := mode (dramDa s n (64 * l) / 2 ^ 28); m == 0 || m == 4))

/-- The CLEAN bit of an extent cleared (R265). -/
def unclean (k : Nat) (s : State) : State :=
  { s with coh := { s.coh with pt := sset .free s.coh.pt k { sget .free s.coh.pt k with clean := false } } }

/-- The generator writes the pattern to its lines; their extents are no longer clean (R265, R311). -/
def trnWriteLines (n pat : Nat) (lines : List Nat) (s : State) : State :=
  (lines.foldl (fun (p : State × Nat) l =>
    let t := storeLine n (physLine p.1 n l) ⟨trnData p.1 n pat p.2, 0⟩ p.1
    (if l < mapLines t n then unclean (dramDa t n (64 * l) / 2 ^ 28) t else t, p.2 + 1)) (s, 0)).1

/-- The bits in which a stored line differs from the pattern, over the ten devices, without correction (R311). -/
def trnDiff (d : DramLine) (p : Line) : BitVec 640 :=
  (storedData d ^^^ p).setWidth 640 |||
    ((d.err.extractLsb' 512 128 ^^^ Config.rsCheck d.data ^^^ Config.rsCheck p).setWidth 640).shiftLeft 512

/-- The mismatched beats of a line counted per DQ lane: lane 40 × SC + 4 × device + q is bits q, q + 4, … of the device's 64 (R311, log
entry 12). -/
def countLanes (n sc : Nat) (e : BitVec 640) (s : State) : State :=
  (List.range 40).foldl (fun t b =>
    let dev := (e.extractLsb' (64 * (b / 4)) 64).toNat
    let beats := ((List.range 16).filter (fun k => nbit dev (4 * k + b % 4))).length
    if beats = 0 then t else t.satAdd F.DDR_TRN_ERR.COUNT (80 * n + 40 * sc + b) beats) s

/-- The comparator over a run's lines; ERRLINES counts those with a mismatch (R311). -/
def trnCompare (n pat : Nat) (ups : List Upset) (lines : List Nat) (s : State) : State :=
  let (t, _, bad) := lines.foldl (fun (p : State × Nat × Nat) l =>
    let phys := physLine p.1 n l
    let d := upsetLine (ups.getD p.2.1 .none) (stored p.1 n phys)
    let e := trnDiff d (trnData p.1 n pat p.2.1)
    (countLanes n (l % 2) e (storeLine n phys d p.1), p.2.1 + 1, if e = 0 then p.2.2 else p.2.2 + 1)) (s, 0, 0)
  t.wr F.DDR_TRN_STAT.ERRLINES n bad

/-- The lines of a run that are not yet saved; a line saved before keeps its first copy (R311). -/
def trnUnsaved (s : State) (n : Nat) (lines : List Nat) : List Nat :=
  lines.filter (fun l => !(s.chan n).saved.any (fun e => e.1 == l))

/-- The buffer of 5 KiB has room for the lines a run would save: it holds the 80 bytes of 64 lines (R311). -/
def trnRoom (s : State) (n : Nat) (lines : List Nat) : Bool :=
  decide ((s.chan n).saved.length + (trnUnsaved s n lines).length ≤ 64)

/-- The lines saved as read, without correction (R311). -/
def trnSave (n : Nat) (lines : List Nat) (s : State) : State :=
  let c := s.chan n
  (s.setChan n { c with
    saved := c.saved ++ (trnUnsaved s n lines).map (fun l => (l, stored s n (physLine s n l))) }).on F.DDR_TRN_STAT.SAVED n

/-- The saved codewords written back unchanged (R311). -/
def trnRestore (n : Nat) (s : State) : State :=
  let s1 := (s.chan n).saved.foldl (fun t e => storeLine n (physLine t n e.1) e.2 t) s
  (s1.setChan n { s1.chan n with saved := [] }).off F.DDR_TRN_STAT.SAVED n

/-- A run of the generator in the mode written; a run that would save more lines than the buffer has room for is ignored with REJECT, which the spec
leaves open (DESIGN CHOICE, log entry 190). -/
def trnRun (n : Nat) (v : Word) (ups : List Upset) (s : State) : State :=
  let lines := trnLines s n v
  let pat := s.rd F.DDR_TRN_CTL.PAT n
  let mode := F.DDR_TRN_CTL.MODE.of v
  if trnAdmitted s n lines && (mode != 3 || trnRoom s n lines) then
    (match mode with
      | 1 => trnWriteLines n pat lines s
      | 2 => trnCompare n pat ups lines s
      | 3 => trnCompare n pat ups lines (trnWriteLines n pat lines (trnSave n lines s))
      | _ => s).on F.DDR_TRN_STAT.BUSY n
  else s.on F.DDR_TRN_STAT.REJECT n

/-- A write of DDR_TRN_CTLn (R311): the settings, then RESTORE or GO; ignored with REJECT outside Init and TrainHold, and GO also
before a timing set is loaded, when nothing is issued (R507). -/
def trnCtlWrite (n : Nat) (v : Word) (ups : List Upset) (s : State) : State :=
  if !helperState s n then s.on F.DDR_TRN_STAT.REJECT n
  else
    let s1 := ((s.wr F.DDR_TRN_CTL.MODE n (F.DDR_TRN_CTL.MODE.of v)).wr F.DDR_TRN_CTL.SCMASK n (F.DDR_TRN_CTL.SCMASK.of v)).wr
      F.DDR_TRN_CTL.LINES n (F.DDR_TRN_CTL.LINES.of v)
    let s2 := if F.DDR_TRN_CTL.PAT.of v = 7 then s1 else s1.wr F.DDR_TRN_CTL.PAT n (F.DDR_TRN_CTL.PAT.of v)
    if s2.flag F.DDR_TRN_STAT.BUSY n || (chanState s n == 1 && !(s.chan n).timed) then s2
    else if F.DDR_TRN_CTL.RESTORE.of v = 1 then
      (if s2.flag F.DDR_TRN_STAT.SAVED n then (trnRestore n s2).on F.DDR_TRN_STAT.BUSY n else s2)
    else if F.DDR_TRN_CTL.GO.of v = 1 ∧ F.DDR_TRN_CTL.MODE.of v ≠ 0 then trnRun n v ups s2
    else s2

/-- GENERATOR_WRITE: GO with MODE 1. -/
def execGeneratorWrite (n : Fin 12) (v : Word) (s : State) : Host.Outcome State Fault Refusal :=
  done (guarded (F.DDR_TRN_CTL.GO.of v == 1 && F.DDR_TRN_CTL.MODE.of v == 1) s (trnCtlWrite n v []))

/-- GENERATOR_READ_COMPARE: GO with MODE 2. -/
def execGeneratorReadCompare (n : Fin 12) (v : Word) (ups : List Upset) (s : State) : Host.Outcome State Fault Refusal :=
  done (guarded (F.DDR_TRN_CTL.GO.of v == 1 && F.DDR_TRN_CTL.MODE.of v == 2) s (trnCtlWrite n v ups))

/-- GENERATOR_SAVE_WRITE_COMPARE: GO with MODE 3. -/
def execGeneratorSaveWriteCompare (n : Fin 12) (v : Word) (ups : List Upset) (s : State) : Host.Outcome State Fault Refusal :=
  done (guarded (F.DDR_TRN_CTL.GO.of v == 1 && F.DDR_TRN_CTL.MODE.of v == 3) s (trnCtlWrite n v ups))

/-- GENERATOR_RESTORE: a write with RESTORE = 1. -/
def execGeneratorRestore (n : Fin 12) (v : Word) (s : State) : Host.Outcome State Fault Refusal :=
  done (guarded (F.DDR_TRN_CTL.RESTORE.of v == 1) s (trnCtlWrite n v []))

/-- GENERATOR_DONE: a run or restore ends. -/
def execGeneratorDone (n : Fin 12) (s : State) : Host.Outcome State Fault Refusal :=
  done (guarded (s.flag F.DDR_TRN_STAT.BUSY n) s (fun s => (s.off F.DDR_TRN_STAT.BUSY n).on F.DDR_TRN_STAT.DONE n))

/-- A write of DDR_MR_CMDn (R311); `byte` is what the selected device answers to an MRR.  Before a timing set is loaded nothing is
issued (R507). -/
def mrCmd (n : Nat) (v : Word) (byte : Byte) (s : State) : State :=
  let op := F.DDR_MR_CMD.OP.of v
  if !helperState s n then s.on F.DDR_TRN_STAT.REJECT n
  else if op = 0 ∨ (chanState s n = 1 ∧ (s.chan n).timed = false) then s
  else
    let s1 := { s with out := s.out ++ [.dramMr n op (F.DDR_MR_CMD.SC.of v) (F.DDR_MR_CMD.RANK.of v) (F.DDR_MR_CMD.MR.of v)
      (F.DDR_MR_CMD.DATA.of v)] }
    if op = 2 then s1.wr F.DDR_MR_DATA.DATA n byte.toNat else s1

/-- MRW. -/
def execMrw (n : Fin 12) (v : Word) (s : State) : Host.Outcome State Fault Refusal :=
  done (guarded (F.DDR_MR_CMD.OP.of v == 1) s (mrCmd n v 0))

/-- MRR. -/
def execMrr (n : Fin 12) (v : Word) (byte : Byte) (s : State) : Host.Outcome State Fault Refusal :=
  done (guarded (F.DDR_MR_CMD.OP.of v == 2) s (mrCmd n v byte))

/-- MPC. -/
def execMpc (n : Fin 12) (v : Word) (s : State) : Host.Outcome State Fault Refusal :=
  done (guarded (F.DDR_MR_CMD.OP.of v == 3) s (mrCmd n v 0))

/-- The selected lane and rank (R314). -/
def dlySel (s : State) (n : Nat) : Nat × Nat := (s.rd F.DDR_DLY_SEL.LANE n, s.rd F.DDR_DLY_SEL.RANK n)

/-- A write of DDR_DLY_DATAn: the delays of the selected lane; RDLY on DQ and DQS lanes only (R311). -/
def dlyWrite (n : Nat) (v : Word) (s : State) : State :=
  let (lane, rank) := dlySel s n
  let c := s.chan n
  let w := setF (setF 0 0 9 (if lane < 100 then F.DDR_DLY_DATA.RDLY.of v else 0)) 16 9 (F.DDR_DLY_DATA.WDLY.of v)
  if helperState s n then s.setChan n { c with dly := sset 0 c.dly (rank * 128 + lane) w }
  else s.on F.DDR_TRN_STAT.REJECT n

/-- DLY_DATA_WRITE. -/
def execDlyDataWrite (n : Fin 12) (v : Word) (s : State) : Host.Outcome State Fault Refusal := done (dlyWrite n v s)

/-- A write of DDR_RXEQ_DATAn: the receiver of the selected DQ lane (R311). -/
def rxeqWrite (n : Nat) (v : Word) (s : State) : State :=
  let (lane, _) := dlySel s n
  let c := s.chan n
  if helperState s n then
    (if lane < 80 then s.setChan n { c with rxeq := sset 0 c.rxeq lane (v &&& 0x3F3F3FFF#32) } else s)
  else s.on F.DDR_TRN_STAT.REJECT n

/-- RXEQ_DATA_WRITE. -/
def execRxeqDataWrite (n : Fin 12) (v : Word) (s : State) : Host.Outcome State Fault Refusal := done (rxeqWrite n v s)

end Sys2Proof.Machine
end

