-- ==== Sys2Proof/Machine/Directory.lean ====
section
/-! DEFINITION. The leaf directories (R269–R276): entries, snoops, pending lines, victims, fencing; and the maintenance arbiter
(R448–R451), which a directory walk waits for. -/

namespace Sys2Proof.Machine
open Sys2Proof

/-! ### Entries -/

/-- The set of a line, within its leaf (R269). -/
def dirSet (line : Nat) : Nat := (line % 65536) ^^^ (line / 65536 % 65536)

/-- The place of a way. -/
def dirKey (leaf line way : Nat) : Nat := (leaf * 65536 + dirSet line) * 16 + way

/-- An entry. -/
def dirAt (s : State) (leaf line way : Nat) : DirEntry := sget .none s.coh.dir (dirKey leaf line way)

/-- The way that holds a line. -/
def dirFind (s : State) (leaf line : Nat) : Option Nat :=
  (List.range 16).find? (fun w => (dirAt s leaf line w).sharers != 0 && (dirAt s leaf line w).line == line)

/-- The entry of a line; an invalid one where the directory has none. -/
def dirEntry (s : State) (leaf line : Nat) : DirEntry :=
  match dirFind s leaf line with
  | some w => dirAt s leaf line w
  | none => .none

/-- The valid entries of a leaf. -/
def dirValid (s : State) (leaf : Nat) : Nat :=
  (s.coh.dir.filter (fun e => e.1 / 1048576 == leaf && e.2.sharers != 0)).length

/-- OCC and PEND of a leaf follow its entries and pending lines (R285). -/
def dirRegs (leaf : Nat) (s : State) : State :=
  let p := s.coh.pend.filter (fun e => e.leaf == leaf)
  ((s.wr F.COH_DIR_OCC.VALID leaf (dirValid s leaf)).wr F.COH_DIR_PEND.PENDING leaf p.length).wr
    F.COH_DIR_PEND.VICTIMS leaf (p.filter (·.victim)).length

/-- A way written; an entry without sharers is invalid. -/
def dirPut (leaf line way : Nat) (e : DirEntry) (s : State) : State :=
  { s with coh := { s.coh with dir := sset .none s.coh.dir (dirKey leaf line way) (if e.sharers = 0 then .none else e) } }

/-- A pending line of the leaf. -/
def pendOf (s : State) (leaf line : Nat) : Option PendLine := s.coh.pend.find? (fun p => p.leaf == leaf && p.line == line)

/-- A pending line replaced. -/
def setPend (p : PendLine) (s : State) : State :=
  { s with coh := { s.coh with pend := s.coh.pend.map (fun q => if q.leaf = p.leaf ∧ q.line = p.line then p else q) } }

/-! ### Pseudo-LRU -/

/-- The tree bits after an access to a way: each node on its path points away from it (R272). -/
def plruTouch (bits : Nat) (levels way : Nat) : Nat :=
  ((List.range levels).foldl (fun (p : Nat × Nat) l =>
    let b := way / 2 ^ (levels - 1 - l) % 2
    (nsetBit p.1 p.2 (b == 0), 2 * p.2 + b)) (bits, 1)).1

/-- The way the tree points at among those allowed: a node whose half holds none of them is passed the other way (log entry 16). -/
def plruVictim (bits : Nat) (ok : Nat → Bool) : Nat → Nat → Nat → Option Nat
  | 0, _, base => if ok base then some base else none
  | l + 1, node, base =>
    let b := b2n (nbit bits node)
    match plruVictim bits ok l (2 * node + b) (base + b * 2 ^ l) with
    | some w => some w
    | none => plruVictim bits ok l (2 * node + (1 - b)) (base + (1 - b) * 2 ^ l)

/-- The pseudo-LRU bits of a line's set after an access to a way. -/
def dirTouch (leaf line way : Nat) (s : State) : State :=
  let k := leaf * 65536 + dirSet line
  { s with coh := { s.coh with plru := sset 0 s.coh.plru k (plruTouch (sget 0 s.coh.plru k) 4 way) } }

/-! ### Snoops -/

/-- A snoop to head n can be answered: its controller is Up or Retraining (R275). -/
def snoopable (s : State) (n : Nat) : Bool := s.rd F.LNK_HSTAT.CTLST n == 3 || s.rd F.LNK_HSTAT.CTLST n == 4

/-- The directory fences head n and starts the walk of all four directories (R275, R284). -/
def fence (n : Nat) (s : State) : State :=
  if s.flag F.COH_HEAD.FENCED n then s
  else
    let s1 := (s.on F.COH_HEAD.FENCED n).on F.COH_HEAD.WALK n
    let s2 := if s1.flag F.COH_CTL.BIEVT_EN 0 then raise (672 + n) s1 else s1
    { s2 with coh := { s2.coh with
      walks := s2.coh.walks ++ [⟨.head n, [0, 1, 2, 3], [], [], []⟩]
      fenceReset := BitVec.ofNat 16 (nsetBit s2.coh.fenceReset.toNat n false) } }

/-- The channel of a line. -/
def lineChan (s : State) (line : Nat) : Nat := ((dramPlace s (64 * line)).map (·.1)).getD 0

/-- The line of its channel that a directory line is. -/
def chanLine (s : State) (line : Nat) : Nat := ((dramPlace s (64 * line)).map (·.2)).getD 0 / 64

/-- An admitted request goes to its channel's queues, or is parked while the channel is in a hold or in self-refresh (R307, R308). -/
def toChannel (n : Nat) (r : Req) (s : State) : State :=
  let c := s.chan n
  if chanState s n = 2 then noteEmpty n (enqueue n s r)
  else if chanState s n ≤ 1 then s
  else (s.setChan n { c with held := c.held ++ [r] }).wr F.DDR_HOLD_STAT.HELD n (c.held.length + 1)

/-- Dirty data of a snoop written to DRAM (R271); the extent is no longer clean (R265). -/
def dirtyWrite (line : Nat) (d : Line) (s : State) : State :=
  unclean (64 * line / 2 ^ 28) (queueLine (lineChan s line) (chanLine s line) d s)

/-- A head left out of what an entry becomes. -/
def dropSharer (n : Nat) (e : DirEntry) : DirEntry :=
  { e with sharers := nsetBit e.sharers n false, excl := e.excl && !nbit e.sharers n }

/-- The failed snoop's line: poisoned where the head held it exclusively (R275). -/
def failPoison (p : PendLine) (n : Nat) (s : State) : State :=
  if p.exclWas = some n ∧ p.discard = false then poisonLine (lineChan s p.line) (chanLine s p.line) s else s

/-- Snoops of a pending line that fail at their sending, since their head is not Up or Retraining: each counts as RSP_I and fences its
head (R275). -/
def failUnsent (p : PendLine) (s : State) : PendLine × State :=
  let bad := p.snoops.filter (fun q => !snoopable s q.head)
  let p' := bad.foldl (fun a q => { a with after := dropSharer q.head a.after }) { p with snoops := p.snoops.filter (fun q => snoopable s q.head) }
  (p', bad.foldl (fun t q => fence q.head (failPoison p q.head t)) s)

/-- The snoops of a pending line go into the network, from the directory slice of the line's channel to the head endpoint that R83 selects
for the line (R270); space for each is kept for it (R274). -/
def sendSnoops (p : PendLine) (s : State) : State :=
  p.snoops.foldl (fun t q => dispatch (.snoop q.head p.line q.inv) 2 (dirEp (lineChan t p.line)) (headEp t q.head (64 * p.line)) 1 t) s

/-- The snoops of an operation to a set of heads, sent now. -/
def mkSnoops (s : State) (heads : Nat) (inv : Bool) : List Snoop :=
  (bitsOf heads 16).map (fun n => ⟨n, inv, s.stamp, 1000 * s.rd F.COH_BITMO.TMO 0, false⟩)

/-! ### Requests -/

/-- What a head may keep the line as: a read with exclusive intent of a head outside WR is handled as one with shared intent (R271). -/
def grantOf (r : Req) (mayOwn : Bool) : Intent := if r.intent = .excl ∧ r.op = .read ∧ !mayOwn then .shared else r.intent

/-- What a request does to its line's entry (R271): the snoops as heads to invalidate and heads to reduce, and the entry after.
`n`: the requesting head, none for a device request; `mayOwn`: the head is in WR. -/
def dirAction (e : DirEntry) (r : Req) (line : Nat) (n : Option Nat) (mayOwn : Bool) : Nat × Nat × DirEntry :=
  let intent := grantOf r mayOwn
  match n, r.op with
  | none, .read => if e.excl then (0, e.sharers, ⟨line, false, e.sharers⟩) else (0, 0, e)
  | none, .write => (e.sharers, 0, .none)
  | some n, .read =>
    let me := 2 ^ n
    if e.sharers = 0 then
      match intent with
      | .none => (0, 0, .none)
      | .shared => (0, 0, ⟨line, false, me⟩)
      | .excl => (0, 0, ⟨line, true, me⟩)
    else if e.excl then
      if e.sharers = me then (0, 0, e)
      else match intent with
        | .none => (0, e.sharers, ⟨line, false, e.sharers⟩)
        | .shared => (0, e.sharers, ⟨line, false, e.sharers ||| me⟩)
        | .excl => (e.sharers, 0, ⟨line, true, me⟩)
    else
      match intent with
      | .none => (0, 0, e)
      | .shared => (0, 0, ⟨line, false, e.sharers ||| me⟩)
      | .excl => (nsetBit e.sharers n false, 0, ⟨line, true, me⟩)
  | some n, .write =>
    let me := 2 ^ n
    if e.excl ∧ e.sharers = me then
      match r.intent with
      | .none => (0, 0, .none)
      | .shared => (0, 0, ⟨line, false, me⟩)
      | .excl => (0, 0, e)
    else (nsetBit e.sharers n false, 0, .none)

/-- The requesting head of a request; none for fabric, tumbler and static requests. -/
def reqHead (r : Req) : Option Nat := if r.tag.cls = 0 then some r.tag.id else none

/-- A line becomes pending with snoops (R273). -/
def addPend (p : PendLine) (s : State) : State :=
  sendSnoops p (dirRegs p.leaf { s with coh := { s.coh with pend := s.coh.pend ++ [p] } })

/-- The way for a new entry of a line: an invalid one, or the pseudo-LRU victim among the ways that are not pending; with the victim's
entry (R272). -/
def dirWay (s : State) (leaf line : Nat) : Option (Nat × Option DirEntry) :=
  match (List.range 16).find? (fun w => (dirAt s leaf line w).sharers == 0) with
  | some w => some (w, none)
  | none =>
    let ok (w : Nat) : Bool := (pendOf s leaf (dirAt s leaf line w).line).isNone
    match plruVictim (sget 0 s.coh.plru (leaf * 65536 + dirSet line)) ok 4 1 0 with
    | some w => some (w, some (dirAt s leaf line w))
    | none => none

/-- A victim moved to the victim buffer, with SNP_INV to each of its sharers (R272); one whose snoops all fail at once is gone. -/
def evict (leaf : Nat) (e : DirEntry) (s : State) : State :=
  let s1 := s.satAdd F.COH_DIR_EVICT.VALUE leaf 1
  let p : PendLine := ⟨leaf, e.line, true, false, if e.excl then some (Nat.log2 e.sharers) else none,
    mkSnoops s1 e.sharers true, none, .none, []⟩
  let (p', s2) := failUnsent p s1
  if p'.snoops.isEmpty then s2 else addPend p' s2

/-- The victim buffer entries of a leaf in use. -/
def victimsOf (s : State) (leaf : Nat) : Nat := (s.coh.pend.filter (fun p => p.leaf == leaf && p.victim)).length

/-- The pending lines of a leaf. -/
def pendingOf (s : State) (leaf : Nat) : Nat := (s.coh.pend.filter (fun p => p.leaf == leaf)).length

/-- A request waits for a way, a victim buffer entry or a place among the pending lines (R272, R273). -/
def stallReq (r : Req) (s : State) : State := { s with coh := { s.coh with stalled := s.coh.stalled ++ [r] } }

/-- A request to a line that is not pending: its entry is looked up and changed and its snoops sent, or, where it needs a way or a
buffer that is not free, it waits (R271–R273).  It goes on with what its host may keep the line as. -/
def dirAct (leaf : Nat) (q : Req) (s : State) : State :=
  let line := q.da / 64
  let ext := q.da / 2 ^ 28
  let n := reqHead q
  let mayOwn := match n with
    | some k => nbit (sget .free s.coh.pt ext).wr k
    | none => false
  let e := dirEntry s leaf line
  let r := { q with intent := grantOf q mayOwn }
  let (inv, dat, after) := dirAction e q line n mayOwn
  let stall (t : State) : State := stallReq q t
  if inv = 0 ∧ dat = 0 then
    match dirFind s leaf line with
    | some w => toChannel (lineChan s line) r (dirRegs leaf (dirTouch leaf line w (dirPut leaf line w after s)))
    | none =>
      if after.sharers = 0 then toChannel (lineChan s line) r s
      else match dirWay s leaf line with
        | none => stall s
        | some (w, v) =>
          if v.isSome ∧ 256 ≤ victimsOf s leaf then stall s
          else
            let s1 := dirTouch leaf line w (dirPut leaf line w after s)
            let s2 := match v with
              | some e => evict leaf e s1
              | none => s1
            toChannel (lineChan s line) r (dirRegs leaf (s2.satAdd F.COH_DIR_ALLOC.VALUE leaf 1))
  else
    let p : PendLine := ⟨leaf, line, false, false, if e.excl then some (Nat.log2 e.sharers) else none,
      mkSnoops s inv true ++ mkSnoops s dat false, some r, after, []⟩
    let (p', s1) := failUnsent p s
    if p'.snoops.isEmpty then
      let s2 := match dirFind s1 leaf line with
        | some w => dirPut leaf line w p'.after s1
        | none => s1
      toChannel (lineChan s line) r (dirRegs leaf s2)
    else addPend p' s1

/-- A request consults the directory (R271); one to a pending line waits there in arrival order, and none is served while the leaf holds
512 pending lines (R273). -/
def dirRequest (leaf : Nat) (s : State) (r : Req) : State :=
  let line := r.da / 64
  match pendOf s leaf line with
  | some p => setPend { p with waiting := p.waiting ++ [r] } s
  | none =>
    if 512 ≤ pendingOf s leaf ∨ s.coh.stalled.any (fun q => q.da / 64 == line) then stallReq r s
    else dirAct leaf r s

/-- The leaf of a request's channel. -/
def reqLeaf (s : State) (r : Req) : Nat := lineChan s (r.da / 64) / 3

/-- The requests that wait for a way or a buffer tried again, in arrival order. -/
def retryStalled (s : State) : State :=
  s.coh.stalled.foldl (fun t r => dirRequest (reqLeaf t r) t r) { s with coh := { s.coh with stalled := [] } }

/-- A pending line whose last snoop has been answered: its entry changes, its request is served, then those that waited (R271, R273).  Where
its way has been freed meanwhile, by a walk or a parity error, a request that leaves an entry consults the directory anew. -/
def finishPend (p : PendLine) (s : State) : State :=
  let s1 := { s with coh := { s.coh with pend := s.coh.pend.filter (fun q => !(q.leaf == p.leaf && q.line == p.line)) } }
  let way := if p.victim then none else dirFind s1 p.leaf p.line
  let s2 := match way with
    | some w => dirPut p.leaf p.line w p.after s1
    | none => s1
  let s3 := match p.req with
    | some r => if way.isNone ∧ p.after.sharers ≠ 0 then dirRequest p.leaf s2 r else toChannel (lineChan s2 p.line) r s2
    | none => s2
  dirRegs p.leaf (retryStalled (p.waiting.foldl (dirRequest p.leaf) s3))

/-- A snoop of head n to a pending line answered or failed; `keeps`: the head keeps a shared copy; `data`: what it returned. -/
def snoopEnd (p : PendLine) (n : Nat) (keeps : Bool) (data : Option Line) (s : State) : State :=
  let s1 := match data with
    | some d => if p.discard then s else dirtyWrite p.line d s
    | none => s
  let p' := { p with
    snoops := p.snoops.filter (fun q => q.head != n)
    after := if keeps then p.after else dropSharer n p.after }
  if p'.snoops.isEmpty then finishPend p' s1 else setPend p' s1

/-- A snoop fails: it counts as RSP_I, an exclusive line is poisoned, and its head is fenced (R275). -/
def snoopFail (p : PendLine) (n : Nat) (s : State) : State := fence n (snoopEnd p n false none (failPoison p n s))

/-- Every snoop that waits for head n fails, since the head is neither Up nor Retraining any more (R275). -/
def failSnoopsOf (n : Nat) (s : State) : State :=
  (s.coh.pend.filter (fun p => p.snoops.any (fun q => q.head == n))).foldl (fun t p =>
    match pendOf t p.leaf p.line with
    | some q => snoopFail q n t
    | none => t) s

/-- Entries of a leaf that fail their parity check, by set × 16 + way, are dropped without snoops and counted (R276). -/
def dirDamaged (leaf : Nat) (keys : List Nat) (s : State) : State :=
  let bad := (keys.map (· + leaf * 1048576)).filter (fun k => (sget .none s.coh.dir k).sharers != 0)
  if bad.isEmpty then s
  else
    let s1 := { s with coh := { s.coh with dir := bad.foldl (fun l k => sset .none l k .none) s.coh.dir } }
    raiseCause ⟨.COH_EVT, leaf, 1⟩ F.COH_CTL.DIREVT_EN 0 (688 + leaf)
      ((dirRegs leaf s1).satAdd F.COH_DIR_PERR.VALUE leaf bad.eraseDups.length)

/-- The set of a line is read: the ways found damaged are dropped (R276). -/
def dirParity (leaf line : Nat) (ways : BitVec 16) (s : State) : State :=
  dirDamaged leaf ((bitsOf ways.toNat 16).map (fun w => dirSet line * 16 + w)) s

/-! ### The maintenance arbiter -/

/-- The state, activity and resource of entry k. -/
def mntEnt (s : State) (k : Nat) : Nat × Nat × Nat := (s.rd F.PWR_MNT_ENT.STATE k, s.rd F.PWR_MNT_ENT.ACT k, s.rd F.PWR_MNT_ENT.RES k)

/-- The band half of an engine. -/
def bandHalf (e : Nat) : Nat := e / 128 * 2 + e % 16 / 8

/-- Two activities conflict (R449), but for the rule of 16 engines. -/
def mntPair (a r b q : Nat) : Bool :=
  let train (x : Nat) : Bool := x == 3 || x == 4
  let leafMask (l : Nat) : Nat := 7 * 2 ^ (3 * (l % 4))
  (a == 5 && b == 5 && r == q) || (a == 9 && (b == 5 || b == 9)) || (a == 5 && b == 9) ||
  (train a && train b && r &&& q != 0) || (train a && b == 8 && r &&& leafMask q != 0) ||
  (a == 8 && train b && q &&& leafMask r != 0) || (a == 8 && b == 8 && r == q) || (a == 8 && b == 6) || (a == 6 && b == 8)

/-- An activity conflicts with a list of entries (R449). -/
def mntConflict (s : State) (a r : Nat) (ks : List Nat) : Bool :=
  ks.any (fun k => mntPair a r (mntEnt s k).2.1 (mntEnt s k).2.2) ||
    (a == 7 && decide (16 ≤ (ks.filter (fun k => (mntEnt s k).2.1 == 7 && bandHalf (mntEnt s k).2.2 == bandHalf r)).length))

/-- MNT_STAT follows the entries. -/
def mntStat (s : State) : State :=
  let n (st : Nat) : Nat := ((List.range 64).filter (fun k => (mntEnt s k).1 == st)).length
  (s.wr F.PWR_MNT_STAT.RUNNING 0 (n 2)).wr F.PWR_MNT_STAT.QUEUED 0 (n 1)

/-- The entries before ticket k in request order that are running, or queued. -/
def mntBefore (s : State) (k : Nat) : List Nat :=
  (List.range 64).filter (fun j => (mntEnt s j).1 == 2) ++ (s.mnt.order.takeWhile (· != k)).filter (fun j => (mntEnt s j).1 == 1)

/-- A request recorded in entry k and granted or queued (R450). -/
def mntRecord (k act res : Nat) (hw : Bool) (s : State) : State × Bool :=
  let s1 := (((s.setReg .PWR_MNT_ENT k 0).wr F.PWR_MNT_ENT.ACT k act).wr F.PWR_MNT_ENT.RES k res).wr F.PWR_MNT_ENT.HW k (b2n hw)
  let s2 := { s1 with mnt := { s1.mnt with order := s1.mnt.order.filter (· != k) ++ [k] } }
  let ok := !mntConflict s2 act res (mntBefore s2 k)
  (mntStat (s2.wr F.PWR_MNT_ENT.STATE k (if ok then 2 else 1)), ok)

/-- The lowest free entry (log entry 17). -/
def mntFree (s : State) : Option Nat := (List.range 64).find? (fun k => (mntEnt s k).1 == 0)

/-- A hardware request: granted or queued, or waiting for an entry ahead of the Keeper's requests (R450). -/
def mntHwRequest (act res : Nat) (s : State) : State × Bool :=
  match (if s.mnt.hwWait.isEmpty then mntFree s else none) with
  | some k => mntRecord k act res true s
  | none => ({ s with mnt := { s.mnt with hwWait := s.mnt.hwWait ++ [(act, res)] } }, false)

/-- The first queued entry that conflicts with nothing running and nothing queued before it. -/
def mntNext (s : State) : Option Nat :=
  s.mnt.order.find? (fun k => (mntEnt s k).1 == 1 && !mntConflict s (mntEnt s k).2.1 (mntEnt s k).2.2 (mntBefore s k))

/-- The ticket of a running activity. -/
def mntTicket (s : State) (act res : Nat) : Option Nat :=
  (List.range 64).find? (fun k => (mntEnt s k).1 == 2 && (mntEnt s k).2.1 == act && (mntEnt s k).2.2 == res)

/-! ### Walks -/

/-- A leaf's walk begins for the first walk that waits for it: the granted walk. -/
def walkRun (leaf : Nat) : List WalkRec → Option (WalkRec × List WalkRec)
  | [] => none
  | w :: l =>
    if w.asked.contains leaf then
      some (w, { w with asked := w.asked.erase leaf, running := w.running ++ [leaf] } :: l)
    else (walkRun leaf l).map (fun p => (p.1, w :: p.2))

/-- The lines of an extent that a leaf's directory holds and that are not pending. -/
def extEntries (s : State) (leaf ext : Nat) : List DirEntry :=
  ((s.coh.dir.filter (fun e => e.1 / 1048576 == leaf && e.2.line / 2 ^ 22 == ext)).map (·.2)).filter
    (fun e => (pendOf s leaf e.line).isNone)

/-- The snoops a walk of an extent sends for one entry (R263); with 512 lines pending the entry waits for the walk's next round (R269). -/
def walkEntry (leaf accLost wrLost : Nat) (discard : Bool) (s : State) (e : DirEntry) : State :=
  let inv := e.sharers &&& accLost
  let dat := if e.excl then e.sharers &&& wrLost &&& (accLost ^^^ 0xFFFF) else 0
  if (inv = 0 ∧ dat = 0) ∨ 512 ≤ pendingOf s leaf then s
  else
    let after : DirEntry := ⟨e.line, false, e.sharers &&& (accLost ^^^ 0xFFFF)⟩
    let p : PendLine := ⟨leaf, e.line, false, discard, if e.excl then some (Nat.log2 e.sharers) else none,
      mkSnoops s inv true ++ mkSnoops s dat false, none, after, []⟩
    let (p', s1) := failUnsent p s
    if p'.snoops.isEmpty then
      match dirFind s1 leaf e.line with
      | some w => dirPut leaf e.line w p'.after s1
      | none => s1
    else addPend p' s1

/-- Head n taken out of every entry of a leaf; the lines it held exclusively are poisoned (R275). -/
def walkHead (leaf n : Nat) (s : State) : State :=
  let mine := s.coh.dir.filter (fun e => e.1 / 1048576 == leaf && nbit e.2.sharers n)
  let s1 := mine.foldl (fun t e =>
    let t1 := if e.2.excl then poisonLine (lineChan t e.2.line) (chanLine t e.2.line) t else t
    let d := dropSharer n e.2
    let d' := if d.sharers = 0 then DirEntry.none else d
    { t1 with coh := { t1.coh with dir := sset .none t1.coh.dir e.1 d' } }) s
  dirRegs leaf { s1 with coh := { s1.coh with
    pend := s1.coh.pend.map (fun p => if p.leaf = leaf then { p with after := dropSharer n p.after } else p) } }

/-- A granted walk of a leaf does what its reason asks (R263, R275). -/
def walkLeaf (leaf : Nat) (s : State) : State :=
  match walkRun leaf s.coh.walks with
  | none => s
  | some (w, rest) =>
    let s1 := { s with coh := { s.coh with walks := rest } }
    match w.why with
    | .narrow ext a w => dirRegs leaf ((extEntries s1 leaf ext).foldl (walkEntry leaf a w false) s1)
    | .release ext => dirRegs leaf ((extEntries s1 leaf ext).foldl (walkEntry leaf 0xFFFF 0 true) s1)
    | .head n => walkHead leaf n s1

/-- The first walk with a leaf to ask the arbiter for. -/
def walkAsk : List WalkRec → Option (Nat × List WalkRec)
  | [] => none
  | w :: l => match w.leaves with
    | x :: xs => some (x, { w with leaves := xs, asked := w.asked ++ [x] } :: l)
    | [] => (walkAsk l).map (fun p => (p.1, w :: p.2))

/-- Every walk asks the arbiter for its leaves; the granted ones begin (R264).  The fuel covers four leaves for each head and each
extent command. -/
def pumpWalks : Nat → State → State
  | 0, s => s
  | f + 1, s =>
    match walkAsk s.coh.walks with
    | none => s
    | some (leaf, ws) =>
      let (s1, ok) := mntHwRequest 8 leaf { s with coh := { s.coh with walks := ws } }
      pumpWalks f (if ok then walkLeaf leaf s1 else s1)

/-- The walks served as far as the arbiter lets them. -/
def walks (s : State) : State := pumpWalks 512 s

/-- Queued requests granted in order, each with MNTGRANT; a granted walk begins (R450, R452). -/
def mntGrants : Nat → State → State
  | 0, s => s
  | f + 1, s =>
    match mntNext s with
    | none => s
    | some k =>
      let s1 := raiseCause F.PWR_EVT.MNTGRANT F.PWR_EVEN.MNTGRANT 0 30 (mntStat (s.wr F.PWR_MNT_ENT.STATE k 2))
      mntGrants f (if (mntEnt s k).2.1 = 8 ∧ s.flag F.PWR_MNT_ENT.HW k then walkLeaf (mntEnt s k).2.2 s1 else s1)

/-- Hardware requests that waited for an entry take the entries that have freed (R450). -/
def mntAdmitHw : Nat → State → State
  | 0, s => s
  | f + 1, s =>
    match s.mnt.hwWait, mntFree s with
    | (a, r) :: l, some k =>
      let (s1, ok) := mntRecord k a r true { s with mnt := { s.mnt with hwWait := l } }
      mntAdmitHw f (if ok ∧ a = 8 then walkLeaf r s1 else s1)
    | _, _ => s

/-- An activity ends: its entry is free, and the requests that waited are granted (R450). -/
def mntEnd (k : Nat) (s : State) : State :=
  let s1 := s.setReg .PWR_MNT_ENT k 0
  let s2 := mntStat { s1 with mnt := { s1.mnt with order := s1.mnt.order.filter (· != k) } }
  walks (mntGrants 64 (mntAdmitHw 64 s2))

end Sys2Proof.Machine
end

