-- ==== Sys2Proof/Machine/DevCache.lean ====
section
/-! DEFINITION. The device caches of the ports (R278–R280, R373): hits, fills, ownership, victims and write-backs. -/

namespace Sys2Proof.Machine
open Sys2Proof

/-- The ways that serve head n: all sixteen in x16 mode, else half of them (R278). -/
def headWays (s : State) (n : Nat) : List Nat :=
  if s.flag F.LNK_PCFG.X8X2 (n / 2) then (if n % 2 = 0 then List.range 8 else (List.range 8).map (· + 8)) else List.range 16

/-- The set of a host line, by its low bits (log entry 18). -/
def dcSet (n line : Nat) : Nat := n / 2 * 2048 + line % 2048

/-- A way of the cache. -/
def dcAt (s : State) (n line way : Nat) : Option DcLine := sget none s.coh.dc (dcSet n line * 16 + way)

/-- The way that holds head n's line. -/
def dcFind (s : State) (n line : Nat) : Option (Nat × DcLine) :=
  (headWays s n).findSome? (fun w => match dcAt s n line w with
    | some d => if d.line = line ∧ d.head = n then some (w, d) else none
    | none => none)

/-- A way written. -/
def dcPut (n line way : Nat) (d : Option DcLine) (s : State) : State :=
  { s with coh := { s.coh with dc := sset none s.coh.dc (dcSet n line * 16 + way) d } }

/-- The pseudo-LRU bits of a set after an access. -/
def dcTouch (n line way : Nat) (s : State) : State :=
  let k := dcSet n line
  { s with coh := { s.coh with dcPlru := sset 0 s.coh.dcPlru k (plruTouch (sget 0 s.coh.dcPlru k) 4 way) } }

/-- An event of the device cache of head n's port (R284). -/
def dcErr (n : Nat) (s : State) : State :=
  let p := n / 2
  if nbit (s.rd F.COH_EVT.DCERR 0) p then s
  else
    let s1 := s.wrBit F.COH_EVT.DCERR 0 p true
    if s1.flag F.COH_CTL.DCEVT_EN 0 then raise (692 + p) s1 else s1

/-! ### Stored lines -/

/-- Codeword k of a line as a difference to the codeword of its data: the code is linear (R142, R278). -/
def dcWordErr (d : DcLine) (k : Nat) : Codeword := (d.err.extractLsb' (72 * k) 72).setWidth 137

/-- A line's codewords decoded (R143, R278): some word is uncorrectable. -/
def dcBad (d : DcLine) : Bool := (List.range 8).any (fun k => classifyWord 72 (dcWordErr d k) == .uncorrectable)

/-- The data that the decoders deliver. -/
def dcSeen (d : DcLine) : Line :=
  d.data ^^^ BitVec.ofNat 512 ((List.range 8).foldl (fun v k => v + ((wordData 72 (dcWordErr d k)).toNat % 2 ^ 64) * 2 ^ (64 * k)) 0)

/-- Positions of a line's 576 stored bits inverted. -/
def dcFlip (bits : List Nat) (d : DcLine) : DcLine := { d with err := bits.foldl (fun e b => e ^^^ BitVec.ofNat 576 (2 ^ b)) d.err }

/-- A line after a write of bytes: the codewords written are new, the others keep their errors. -/
def dcWritten (d : DcLine) (new : Line) (off len : Nat) : DcLine :=
  let hit (k : Nat) : Bool := (byteMask off len).extractLsb' (64 * k) 64 != 0
  let data := mergeLine (dcSeen d) new off len
  { d with
    dirty := true
    data := (List.range 8).foldl (fun v k => if hit k then v
      else mergeLine v d.data (8 * k) 8) data
    err := (List.range 8).foldl (fun e k => if hit k then e &&& ~~~(((BitVec.allOnes 72).setWidth 576) <<< (72 * k)) else e) d.err }

/-- A line written back to its host; one outside every window with W is discarded and reported with REASON 6 (R373). -/
def writeBack (n line : Nat) (d : Line) (poison : Bool) (s : State) : State :=
  if windowAdmits s n (64 * line) 64 true then { s with out := s.out ++ [.cacheWriteBack n line d poison (s.toHost n)] }
  else report 6 ⟨5, n⟩ (headEp s n (64 * line)) true (64 * line) 0x7FFF (tenantBit n) s

/-- The head's controller is Up. -/
def cacheUp (s : State) (n : Nat) : Bool := headUp s n

/-- A line found uncorrectable: counted, with DCERR (R280). -/
def dcUe (n : Nat) (s : State) : State := dcErr n (s.satAdd F.COH_DC_ERR.UE (n / 2) 1)

/-- A dirty line written back: with poison, and counted, where it is uncorrectable (R280). -/
def dcWriteBack (n : Nat) (d : DcLine) (s : State) : State :=
  if dcBad d then dcUe n (writeBack n d.line (dcSeen d) true s) else writeBack n d.line (dcSeen d) false s

/-- A line of the cache leaves it, written back where it is dirty. -/
def dcDrop (n way : Nat) (d : DcLine) (s : State) : State := dcPut n d.line way none (if d.dirty then dcWriteBack n d s else s)

/-- The lines of head n with their keys. -/
def dcLines (s : State) (n : Nat) : List (Nat × DcLine) :=
  s.coh.dc.filterMap (fun e => match e.2 with
    | some d => if d.head = n then some (e.1, d) else none
    | none => none)

/-- Lines of head n that meet a test written back and invalidated. -/
def dcDropAll (n : Nat) (p : DcLine → Bool) (s : State) : State :=
  ((dcLines s n).filter (fun e => p e.2)).foldl (fun t e => dcDrop n (e.1 % 16) e.2 t) s

/-- A line belongs to a HOST extent whose RELEASE is in progress (R263). -/
def dcReleased (s : State) (n : Nat) (d : DcLine) : Bool :=
  s.coh.pt.any (fun e => e.2.mode == 5 && e.2.rel && Nat.log2 e.2.acc == n && e.2.hpa == d.line / 2 ^ 22)

/-- The lines of head n's released extents leave its cache, while its link is Up; they are looked at again when a fill has been used and when
the link is Up again, so that the drain ends (R263, R280). -/
def dcFlushReleased (n : Nat) (s : State) : State := if cacheUp s n then dcDropAll n (dcReleased s n) s else s

/-- The ways of head n written back and invalidated at a tenant reset, once its link is Up (R280). -/
def dcFlushAll (n : Nat) (s : State) : State :=
  if cacheUp s n then dcDropAll n (fun _ => true) s
  else { s with coh := { s.coh with dcFlush := BitVec.ofNat 16 (nsetBit s.coh.dcFlush.toNat n true) } }

/-- A dirty line written back where the link is Up again: it stays, clean, unless it is uncorrectable (R280). -/
def dcClean (n : Nat) (s : State) (e : Nat × DcLine) : State :=
  if !e.2.dirty then s
  else dcPut n e.2.line (e.1 % 16) (if dcBad e.2 then none else some { e.2 with dirty := false }) (dcWriteBack n e.2 s)

/-- The link of head n is Up again: what a tenant reset asked for is done, else its dirty lines are written back (R280). -/
def dcLinkUp (n : Nat) (s : State) : State :=
  if s.coh.dcFlush.getLsbD n then
    dcDropAll n (fun _ => true) { s with coh := { s.coh with dcFlush := BitVec.ofNat 16 (nsetBit s.coh.dcFlush.toNat n false) } }
  else dcFlushReleased n ((dcLines s n).foldl (dcClean n) s)

/-- A head reset: the head's ways are invalidated without write-back; dirty lines are counted as lost (R280). -/
def dcHeadReset (n : Nat) (s : State) : State :=
  let ls := dcLines s n
  let lost := (ls.filter (fun e => e.2.dirty)).length
  let s1 := ls.foldl (fun t e => dcPut n e.2.line (e.1 % 16) none t) s
  if lost = 0 then s1 else dcErr n (s1.satAdd F.COH_DC_ERR.LOST (n / 2) lost)

/-! ### Requests -/

/-- The line of a head's host that a request to a HOST extent names (R279). -/
def hostLine (e : PtEntry) (da : Nat) : Nat := (e.hpa * 2 ^ 28 + da % 2 ^ 28) / 64

/-- A line that a request meets: an upset damages it first; where a word of it is uncorrectable a clean line is invalidated, to be fetched again,
and a dirty one written back with poison (R280). -/
def dcUpset (n line : Nat) (u : Upset) (s : State) : State :=
  match dcFind s n line with
  | none => s
  | some (w, d) =>
    let d' := dcFlip u.bits d
    if !dcBad d' then (if u.bits.isEmpty then s else dcPut n line w (some d') s)
    else if d'.dirty then dcPut n line w none (dcWriteBack n d' s)
    else dcUe n (dcPut n line w none s)

/-- A way for a new line of head n: an empty one, or the pseudo-LRU victim among the head's ways, dropped first (R279). -/
def dcWay (n line : Nat) (u : Upset) (s : State) : Nat × State :=
  match (headWays s n).find? (fun w => (dcAt s n line w).isNone) with
  | some w => (w, s)
  | none =>
    let w := (plruVictim (sget 0 s.coh.dcPlru (dcSet n line)) (fun w => (headWays s n).contains w) 4 1 0).getD 0
    match dcAt s n line w with
    | some d => (w, dcDrop n w (dcFlip u.bits d) s)
    | none => (w, s)

/-- A request served from a line that the cache holds (R279). -/
def dcServe (n : Nat) (r : Req) (w : Nat) (d : DcLine) (s : State) : State :=
  let s1 := dcTouch n d.line w s
  match r.op with
  | .read => respond r (.data (laneBytes (dcSeen d) (r.da % 64) r.len)) s1
  | .write => respond r .ack (dcPut n d.line w (some (dcWritten d r.data (r.da % 64) r.len)) s1)

/-- A request can be served from the line: a read, or a write to an owned line. -/
def dcHolds (r : Req) (d : DcLine) : Bool := r.op == .read || d.owned

/-- A miss: the host is asked for the line, or for its ownership, within the registered windows; else the request is denied (R279).
A fill that fetches data needs R, ownership without data needs W (log entry 19). -/
def dcMiss (n line : Nat) (r : Req) (s : State) : State :=
  let whole := r.op == .write && r.len == 64
  if !cacheUp s n then respond r (.error 5 4) s
  else if windowAdmits s n (64 * line) 64 whole then
    { s with
      out := s.out ++ [.cacheRequest n line (r.op == .write) (!whole) (s.toHost n)]
      coh := { s.coh with dcWait := s.coh.dcWait ++ [(line, r)] } }
  else denied r 6 0x7FFF (tenantBit n) s

/-- The head a forwarded request is for: the tenant of its HOST extent (R268). -/
def agentHead (s : State) (r : Req) : Nat := Nat.log2 (sget .free s.coh.pt (r.da / 2 ^ 28)).acc

/-- A request waits for the same line of the same head. -/
def dcPending (s : State) (n line : Nat) : Bool := s.coh.dcWait.any (fun e => e.1 == line && agentHead s e.2 == n)

/-- CXL.cache of head n is ready: CXL runs on a Type 1 head, and, where the policy image sets FABDEP, the fabric has been released (R279, R329). -/
def cacheReady (s : State) (n : Nat) : Bool :=
  s.flag F.COH_HEAD.TYPE n && s.flag F.LNK_HSTAT.CXLUP n && (s.flag F.CFG_PINS.DONE 0 || !s.cfg.fabdep.getLsbD n)

/-- The agent can take a request: one that it would answer at once waits while an earlier one of its source to the line does (R82, R279). -/
def agentTakes (s : State) (r : Req) : Bool :=
  let n := agentHead s r
  (cacheReady s n && cacheUp s n) || !s.coh.dcWait.any (fun e => e.2.src == r.src && e.2.da / 64 == r.da / 64)

/-- The coherent agent serves a forwarded request (R279); one for a line that has been asked for waits behind those before it, unless its
head is not Up. -/
def agentServe (r : Req) (u : Upset) (s : State) : State :=
  let e := sget .free s.coh.pt (r.da / 2 ^ 28)
  let n := agentHead s r
  let line := hostLine e r.da
  if !cacheReady s n then respond r (.error 5 4) s
  else if dcPending s n line then
    (if cacheUp s n then { s with coh := { s.coh with dcWait := s.coh.dcWait ++ [(line, r)] } }
    else respond r (.error 5 4) (s.satAdd F.COH_DC_MISS.VALUE (n / 2) 1))
  else
    let s1 := dcUpset n line u s
    match dcFind s1 n line with
    | some (w, d) =>
      if dcHolds r d then dcServe n r w d (s1.satAdd F.COH_DC_HIT.VALUE (n / 2) 1)
      else dcMiss n line r (s1.satAdd F.COH_DC_MISS.VALUE (n / 2) 1)
    | none => dcMiss n line r (s1.satAdd F.COH_DC_MISS.VALUE (n / 2) 1)

/-- The requests that waited for a line served in order from it; one that needs ownership the line does not have asks for it, and the
rest go on waiting behind it; where it asks for nothing they are served on (R279). -/
def dcDrain (n line : Nat) : List Req → State → State
  | [], s => s
  | r :: l, s =>
    let back (t : State) : State :=
      if dcPending t n line then { t with coh := { t.coh with dcWait := t.coh.dcWait ++ l.map (fun q => (line, q)) } }
      else dcDrain n line l t
    match dcFind s n line with
    | some (w, d) => if dcHolds r d then dcDrain n line l (dcServe n r w d s) else back (dcMiss n line r s)
    | none => back (dcMiss n line r s)

/-- The requests that waited for a line answered as poisoned: a partial write cannot be merged (R279, R99). -/
def poisonAnswer (data : Line) (s : State) (r : Req) : State :=
  match r.op with
  | .read => respond r (.poisoned (laneBytes data (r.da % 64) r.len)) s
  | .write => respond r (.error 5 2) s

/-- HOST_FILL: the host's answer arrives; `u` has happened to the line that makes room for it. -/
def execHostFill (n : Fin 16) (line : Nat) (own poison : Bool) (data : BitVec 512) (u : Upset) (s : State) :
    Host.Outcome State Fault Refusal :=
  let waiting := (s.coh.dcWait.filter (fun e => e.1 == line && agentHead s e.2 == n.val)).map (·.2)
  done (guarded (!waiting.isEmpty) s (fun s =>
    let s1 := { s with coh := { s.coh with dcWait := s.coh.dcWait.filter (fun e => !(e.1 == line && agentHead s e.2 == n.val)) } }
    if poison then waiting.foldl (poisonAnswer data) s1
    else
      let (w, s2) := match dcFind s1 n line with
        | some (w, _) => (w, s1)
        | none => dcWay n line u s1
      let old := match dcFind s1 n line with
        | some (_, d) => (d.data, d.err)
        | none => (data, 0)
      dcFlushReleased n (dcDrain n line waiting (dcPut n line w (some ⟨n, line, own, false, old.1, old.2⟩) s2))))

/-- HOST_SNOOP: a host's snoop to the device cache: an invalidation gives the line up, any other leaves a shared clean copy; dirty data
goes with the answer (R278).  A line found uncorrectable is given up: dirty data goes with poison (R280). -/
def execHostSnoop (n : Fin 16) (line : Nat) (inv : Bool) (u : Upset) (s : State) : Host.Outcome State Fault Refusal :=
  let answer (d : Option (Line × Bool)) (t : State) : State := { t with out := t.out ++ [.cacheSnoopAnswer n line d (t.toHost n)] }
  done (match dcFind s n line with
    | none => answer none s
    | some (w, d) =>
      let d' := dcFlip u.bits d
      let s1 := answer (if d'.dirty then some (dcSeen d', dcBad d') else none) s
      if dcBad d' then dcUe n (dcPut n line w none s1)
      else dcPut n line w (if inv then none else some { d' with owned := false, dirty := false }) s1)

end Sys2Proof.Machine
end

