-- ==== Sys2Proof/Machine/Coherence.lean ====
section
/-! DEFINITION. The partition table and its commands (R258–R265), the check at a DRAM front end (R260), the answers of heads to snoops
(R270, R275), violations (R282–R284), translation ranges (R255) and the end of holds (R307). -/

namespace Sys2Proof.Machine
open Sys2Proof

/-! ### The partition check -/

/-- The entry of extent k in the master copy. -/
def State.ptEntry (s : State) (k : Nat) : PtEntry := sget .free s.coh.pt k

/-- The state with the entry of extent k replaced. -/
def State.setPt (s : State) (k : Nat) (e : PtEntry) : State := { s with coh := { s.coh with pt := sset .free s.coh.pt k e } }

/-- The entry that the front ends apply: a command's new entry once it is in force (R264). -/
def feEntry (s : State) (k : Nat) : PtEntry :=
  match s.coh.ptOld with
  | some (j, e) => if j = k then e else s.ptEntry k
  | none => s.ptEntry k

/-- The copy of extent k's entry at channel n, or the master copy, has been found uncorrectable (R261). -/
def entryBad (s : State) (n k : Nat) : Bool := sget 0 s.coh.masterBad k != 0 || sget 0 s.coh.replicaBad (n * 32768 + k) != 0

/-- Why the front end of channel n refuses a request, with the victims: the first reason of R282 that applies; none: it is admitted
(R260, R282). -/
def partitionCheck (s : State) (n : Nat) (r : Req) : Option (Nat × Nat) :=
  let k := r.da / 2 ^ 28
  let e := feEntry s k
  let t := r.tag
  let data := e.mode == 1 || e.mode == 2 || e.mode == 3
  let byTenant (modes : Bool) : Option (Nat × Nat) :=
    if !(modes && e.st == 0) then some (2, 0)
    else if !nbit e.acc t.id then some (0, e.acc)
    else if r.op == .write && !nbit e.wr t.id then some (1, e.acc)
    else if t.cls == 0 && e.mode == 2 && s.flag F.COH_HEAD.FENCED t.id then some (3, 0)
    else none
  if entryBad s n k then some (7, e.acc)
  else if t.cls = 0 then byTenant data
  else if t.cls = 1 ∧ t.id = 16 then
    (if !(data && e.st == 0) then some (2, 0) else if e.static then none else some (0, e.acc))
  else if t.cls = 1 ∨ t.cls = 2 then byTenant (data || e.mode == 5)
  else if t.cls = 3 ∨ t.cls = 4 then (if e.st = 0 ∧ (e.mode = 0 ∨ e.mode = 4) then none else some (2, 0))
  else some (2, 0)

/-- An admitted request goes to the directory of a SHARED_COH extent, or to its channel (R271, R293). -/
def admitted (n : Nat) (s : State) (r : Req) : State :=
  if (s.ptEntry (r.da / 2 ^ 28)).mode = 2 then dirRequest (n / 3) s r else toChannel n r s

/-- The requests of an extent that have been admitted and have still to complete: in the channels' queues and front ends, parked, at the
directories, and those of a HOST extent at the coherent agents. -/
def extRequests (s : State) (k : Nat) : List Req :=
  let chans := (chansOf s k).flatMap (fun n => let c := s.chan n; c.rq.map (·.req) ++ c.fe ++ c.held)
  let dir := s.coh.pend.flatMap (fun p => p.req.toList ++ p.waiting) ++ s.coh.stalled
  (chans ++ dir ++ s.coh.dcWait.map (·.2) ++ s.net.reqs.filter (fun r => decide (91 ≤ epRouter r.dst) && decide (epRouter r.dst < 93))).filter
    (fun r => r.da / 2 ^ 28 == k)

/-- An earlier request of the same source to the same line has still to complete at the channel's front end, its queues or its directory (R82);
one that is merely parked does not count: R308 has a refused request answered at once. -/
def earlierLine (s : State) (n : Nat) (r : Req) : Bool :=
  let same (q : Req) : Bool := q.src == r.src && q.da / 64 == r.da / 64
  let c := s.chan n
  c.rq.any (fun e => same e.req) || c.fe.any same || s.coh.stalled.any same ||
    s.coh.pend.any (fun p => p.req.any same || p.waiting.any same)

/-- A request to a HOST extent goes on to the coherent agent of its tenant's head, unchanged but for DST (R268); none: the network has no
room for it. -/
def forwarded (n : Nat) (r : Req) (s : State) : Option State :=
  let q := { r with dst := headEp s (agentHead s r) r.da }
  match leafRoute s (epLeaf (channelEp n)) (epLeaf q.dst) with
  | none => some (respond r (.error 6 0) s)
  | some _ => (launch (.req q.src q.txn) 0 (channelEp n) q.src q.dst (reqFlits q) s).map (fun t =>
      { t with net := { t.net with reqs := t.net.reqs ++ [q] } })

/-- The front end can take a request: a refused one once no earlier request of its source to the line is left (R82); one to a HOST extent
where it can be sent on; one to a SHARED_COH extent while the directory takes requests (R273); and 512 requests at most are parked (R308). -/
def frontEndTakes (s : State) (n : Nat) (r : Req) : Bool :=
  let mode := (feEntry s (r.da / 2 ^ 28)).mode
  if (partitionCheck s n r).isSome || chanState s n ≤ 1 then !earlierLine s n r
  else if mode = 5 then (forwarded n r (landed (.req r.src r.txn) s)).isSome
  else if chanState s n = 2 then mode != 2 || decide (pendingOf s (n / 3) < 512)
  else decide ((s.chan n).held.length < 512)

/-- The front end of channel n takes a request (R260, R265, R268, R293, R308, R508). -/
def frontEnd (n : Nat) (r : Req) (s : State) : State :=
  let k := r.da / 2 ^ 28
  match partitionCheck s n r with
  | some (reason, victims) => denied r reason k victims s
  | none =>
    if chanState s n ≤ 1 then respond r (.error 5 5) s
    else
      let s1 := if r.op = .write then unclean k s else s
      if (feEntry s k).mode = 5 then (forwarded n r s1).getD s1
      else if chanState s1 n = 2 then admitted n s1 r
      else
        let c := s1.chan n
        (s1.setChan n { c with held := c.held ++ [r] }).wr F.DDR_HOLD_STAT.HELD n (c.held.length + 1)

/-- The requests of a channel that is Active again, in arrival order: those that waited for its queues before the hold, then the parked ones
(R307). -/
def releaseHeld (n : Nat) (s : State) : State :=
  let s1 := refeed n s
  let c := s1.chan n
  walks (c.held.foldl (admitted n) ((s1.setChan n { c with held := [] }).wr F.DDR_HOLD_STAT.HELD n 0))

/-- A write of DONE (R307, R309). -/
def holdDone (n : Nat) (s : State) : State :=
  if chanState s n = 6 ∧ !s.flag F.DDR_TRN_STAT.SAVED n then
    releaseHeld n (noteEmpty n (ddrEvent n F.DDR_EVT.HOLDDONE F.DDR_EVEN.HOLDDONE (setChanState n 2 s)))
  else s.on F.DDR_HOLD_STAT.REJECT n

/-- TRAINHOLD_DONE. -/
def execTrainholdDone (n : Fin 12) (s : State) : Host.Outcome State Fault Refusal := done (holdDone n s)

/-- SELF_REFRESH_EXIT: after tCSR and tXS the channel serves the requests that arrived, or starts the hold that was accepted (R307). -/
def execSelfRefreshExit (n : Fin 12) (s : State) : Host.Outcome State Fault Refusal :=
  let c := s.chan n
  done (guarded (chanState s n == 3 && (!c.held.isEmpty || c.holdNext.isSome || clearingWaits s n)) s (fun s =>
    match c.holdNext with
    | some f => setChanState n 4 (s.setChan n { c with holdNext := none, freqHold := f, swapped := false })
    | none => releaseHeld n (noteEmpty n (setChanState n 2 s))))

/-! ### Partition commands -/

/-- The DATA registers as an entry's fields. -/
def ptData (s : State) : PtEntry :=
  ⟨s.rd F.COH_PT_DATA1.MODE 0, s.rd F.COH_PT_DATA0.ACC 0, s.rd F.COH_PT_DATA0.WR 0, s.flag F.COH_PT_DATA1.STATIC 0,
    s.rd F.COH_PT_DATA2.HPA 0, 0, false, false⟩

/-- A mask is a subset of another. -/
def subMask (a b : Nat) : Bool := a &&& b == a

/-- The constraints of R259 for a new mode other than FREE, the heads apart. -/
def ptDataGood (e : PtEntry) : Bool :=
  match e.mode with
  | 1 => popcount e.acc 16 == 1 && subMask e.wr e.acc && e.hpa == 0
  | 2 | 3 => e.acc != 0 && subMask e.wr e.acc && e.hpa == 0
  | 4 => e.acc == 0 && e.wr == 0 && !e.static && e.hpa == 0
  | 5 => popcount e.acc 16 == 1 && e.wr == e.acc && !e.static
  | _ => false

/-- Every tenant of ACC has a head, of TYPE 1 for a HOST extent (R259). -/
def ptHeadsGood (s : State) (e : PtEntry) : Bool :=
  (bitsOf e.acc 16).all (fun n => headExists s n && (e.mode != 5 || s.flag F.COH_HEAD.TYPE n))

/-- The DATA registers narrow an entry (R262). -/
def ptNarrows (old new : PtEntry) : Bool :=
  new.mode == old.mode && new.hpa == old.hpa && new.acc != 0 && subMask new.acc old.acc && subMask new.wr old.wr &&
    subMask new.wr new.acc && (new.static == old.static || (old.static && !new.static))

/-- The RESULT of a command: 0 where it is accepted (R262, R285); the checks in the order of log entry 20. -/
def ptResult (s : State) (op k : Nat) : Nat :=
  let e := s.ptEntry k
  let d := ptData s
  if 24575 < k then 1
  else if sget 0 s.coh.masterBad k ≠ 0 then 6
  else match op with
    | 1 => 0
    | 2 => if e.mode ≠ 0 ∨ e.st ≠ 0 then 2 else if !ptDataGood d then 3 else if !ptHeadsGood s d then 5 else 0
    | 3 => if !(e.mode == 1 || e.mode == 2 || e.mode == 3) || e.st != 0 then 2 else if !ptNarrows e d then 4 else 0
    | _ => if e.mode = 0 ∨ e.st ≠ 0 then 2 else 0

/-- An accepted change: the master holds the new entry, the front ends the old one until it is in force (R264). -/
def ptChange (k : Nat) (e : PtEntry) (s : State) : State :=
  ({ s with coh := { s.coh with ptOld := some (k, s.ptEntry k) } }.setPt k e).on F.COH_PT_STAT.BUSY 0

/-- READ: the DATA registers show the entry. -/
def ptRead (k : Nat) (s : State) : State :=
  let e := s.ptEntry k
  let s1 := (s.wr F.COH_PT_DATA0.ACC 0 e.acc).wr F.COH_PT_DATA0.WR 0 e.wr
  let s2 := (s1.wr F.COH_PT_DATA1.MODE 0 e.mode).wr F.COH_PT_DATA1.STATIC 0 (b2n e.static)
  ((s2.wr F.COH_PT_DATA1.STATE 0 e.st).wr F.COH_PT_DATA1.CLEAN 0 (b2n e.clean)).wr F.COH_PT_DATA2.HPA 0 e.hpa

/-- A walk of the leaves whose channels hold an extent. -/
def addWalk (k : Nat) (why : WalkWhy) (s : State) : State :=
  let leaves := (List.range 4).filter (fun l => (chansOf s k).any (fun n => n / 3 == l))
  walks { s with coh := { s.coh with walks := s.coh.walks ++ [⟨why, leaves, [], [], []⟩] } }

/-- ASSIGN accepted (R262, R263). -/
def ptAssign (k : Nat) (s : State) : State :=
  let old := s.ptEntry k
  let d := ptData s
  if d.mode = 5 ∨ old.clean then ptChange k { d with clean := old.clean } s
  else
    let s1 := ptChange k { d with st := 2 } s
    { s1 with coh := { s1.coh with clearQ := s1.coh.clearQ ++ [k] } }

/-- NARROW accepted: a walk where a head leaves ACC or WR of a SHARED_COH extent (R263). -/
def ptNarrow (k : Nat) (s : State) : State :=
  let old := s.ptEntry k
  let d := ptData s
  let e := { old with acc := d.acc, wr := d.wr, static := d.static }
  let accLost := old.acc ^^^ d.acc
  let wrLost := (old.wr ^^^ d.wr) &&& d.acc
  if old.mode = 2 ∧ (accLost ≠ 0 ∨ wrLost ≠ 0) then addWalk k (.narrow k accLost wrLost) (ptChange k { e with st := 1 } s)
  else ptChange k e s

/-- RELEASE accepted (R263): denied at every front end, drained, and, but for HOST, cleared. -/
def ptRelease (k : Nat) (s : State) : State :=
  let old := s.ptEntry k
  let s1 := ptChange k { old with st := 1, rel := true } s
  let s2 := if old.mode = 5 then s1 else { s1 with coh := { s1.coh with clearQ := s1.coh.clearQ ++ [k] } }
  if old.mode = 2 then addWalk k (.release k) s2
  else if old.mode = 5 then dcFlushReleased (Nat.log2 old.acc) s2
  else s2

/-- A write of COH_PT_CMD (R262): ignored while BUSY is 1, and for an OP that is none or reserved. -/
def ptCmd (v : Word) (s : State) : State :=
  let k := F.COH_PT_CMD.EXT.of v
  let op := F.COH_PT_CMD.OP.of v
  if s.flag F.COH_PT_STAT.BUSY 0 ∨ op = 0 ∨ 4 < op then s
  else
    let res := ptResult s op k
    let s1 := (s.wr F.COH_PT_STAT.RESULT 0 res).on F.COH_PT_STAT.DONE 0
    if res ≠ 0 then s1
    else match op with
      | 1 => ptRead k s1
      | 2 => ptAssign k s1
      | 3 => ptNarrow k s1
      | _ => ptRelease k s1

/-- PT_READ. -/
def execPtRead (v : Word) (s : State) : Host.Outcome State Fault Refusal := done (guarded (F.COH_PT_CMD.OP.of v == 1) s (ptCmd v))

/-- ASSIGN. -/
def execAssign (v : Word) (s : State) : Host.Outcome State Fault Refusal := done (guarded (F.COH_PT_CMD.OP.of v == 2) s (ptCmd v))

/-- NARROW. -/
def execNarrow (v : Word) (s : State) : Host.Outcome State Fault Refusal := done (guarded (F.COH_PT_CMD.OP.of v == 3) s (ptCmd v))

/-- RELEASE. -/
def execRelease (v : Word) (s : State) : Host.Outcome State Fault Refusal := done (guarded (F.COH_PT_CMD.OP.of v == 4) s (ptCmd v))

/-- The walk of a NARROW of extent k waits for the requests admitted under the old masks, up to now (R263, R308). -/
def noteBefore (s : State) (k : Nat) (w : WalkRec) : WalkRec :=
  match w.why with
  | .narrow j _ _ => if j = k then { w with before := (extRequests s k).map (fun r => (r.src, r.txn)) } else w
  | _ => w

/-- PT_IN_FORCE: the accepted command is in force at every front end (R264). -/
def execPtInForce (s : State) : Host.Outcome State Fault Refusal :=
  done (guarded (s.flag F.COH_PT_STAT.BUSY 0) s (fun s =>
    let ws := match s.coh.ptOld with
      | some (k, _) => s.coh.walks.map (noteBefore s k)
      | none => s.coh.walks
    { s with coh := { s.coh with ptOld := none, walks := ws } }.off F.COH_PT_STAT.BUSY 0))

/-- PTDONE or CLRDONE is set (R284). -/
def ptEvent (cause : Fld) (s : State) : State := raiseCause cause F.COH_CTL.PTEVT_EN 0 701 s

/-- No request admitted to an extent is still to complete. -/
def extDrained (s : State) (k : Nat) : Bool :=
  (extRequests s k).isEmpty && !s.coh.pend.any (fun p => p.line / 2 ^ 22 == k)

/-- A walk of an extent is still to end. -/
def walkOf (s : State) (k : Nat) : Bool :=
  s.coh.walks.any (fun w => match w.why with
    | .release j => j == k
    | .narrow j _ _ => j == k
    | .head _ => false)

/-- The lines of a HOST extent have left the device cache. -/
def cacheDrained (s : State) (e : PtEntry) : Bool :=
  e.mode != 5 || !(dcLines s (Nat.log2 e.acc)).any (fun l => l.2.line / 2 ^ 22 == e.hpa)

/-- DRAIN_COMPLETE: the drain of a released extent ends: a HOST extent is FREE, another is cleared (R263). -/
def execDrainComplete (ext : Nat) (s : State) : Host.Outcome State Fault Refusal :=
  let e := s.ptEntry ext
  done (guarded (e.rel && e.st == 1 && s.coh.ptOld.isNone && extDrained s ext && !walkOf s ext && cacheDrained s e) s (fun s =>
    if e.mode = 5 then ptEvent F.COH_EVT.CLRDONE (s.setPt ext { PtEntry.free with clean := e.clean })
    else s.setPt ext { e with st := 2 }))

/-- Zero codewords in every line of an extent on channel n; writes to it that were queued are gone before. -/
def clearOn (k : Nat) (s : State) (n : Nat) : State :=
  let c := s.chan n
  let inExt (l : Nat) : Bool := extOfLine s n l == some k
  let c1 := { c with
    lines := c.lines.filter (fun e => !inExt e.1)
    wq := c.wq.filter (fun e => !inExt e.line)
    zeroed := k :: c.zeroed.filter (· != k) }
  let s1 := s.setChan n c1
  let moved := (c.lineMap.map (·.line) ++
    (c.rowMap.map (fun r => (List.range 128).map (rowLine s n r.first))).flatten).filter inExt
  moved.foldl (fun t l => storeLine n (physLine t n l) ⟨0, 0⟩ t) s1

/-- An extent's clearing has its turn and its channels run (R264). -/
def clearTurn (s : State) (k : Nat) : Bool :=
  (chansOf s k).all (fun n => (chanState s n == 2 || chanState s n == 3) &&
    s.coh.clearQ.find? (fun j => (chansOf s j).contains n) == some k)

/-- EXTENT_CLEARING_COMPLETE: the last line is written: CLEAN is 1, and the extent is in force, or FREE (R263, R265). -/
def execExtentClearingComplete (ext : Nat) (s : State) : Host.Outcome State Fault Refusal :=
  let e := s.ptEntry ext
  done (guarded (e.st == 2 && s.coh.ptOld.isNone && clearTurn s ext) s (fun s =>
    let s1 := (chansOf s ext).foldl (clearOn ext) s
    let s2 := { s1 with coh := { s1.coh with clearQ := s1.coh.clearQ.filter (· != ext) } }
    if e.rel then ptEvent F.COH_EVT.CLRDONE (s2.setPt ext { PtEntry.free with clean := true })
    else ptEvent F.COH_EVT.PTDONE (s2.setPt ext { e with st := 0, clean := true })))

/-- BACKGROUND_CHECK: an entry of a copy decoded; a single-bit error is corrected in place, a worse one found uncorrectable (R261). -/
def execBackgroundCheck (chan : Option (Fin 12)) (ext : Nat) (bad : Bool) (s : State) : Host.Outcome State Fault Refusal :=
  done (guarded (bad && decide (ext < 24576)) s (fun s =>
    match chan with
    | none => raiseCause F.COH_EVT.PTERR F.COH_CTL.PTEVT_EN 0 700
        { s with coh := { s.coh with masterBad := sset 0 s.coh.masterBad ext 1 } }
    | some n => { s with coh := { s.coh with replicaBad := sset 0 s.coh.replicaBad (n.val * 32768 + ext) 1 } }))

/-- REPLICA_RELOAD: an uncorrectable replica entry is loaded from a good master entry (R261). -/
def execReplicaReload (chan : Fin 12) (ext : Nat) (s : State) : Host.Outcome State Fault Refusal :=
  done (guarded (sget 0 s.coh.masterBad ext == 0) s (fun s =>
    { s with coh := { s.coh with replicaBad := sset 0 s.coh.replicaBad (chan.val * 32768 + ext) 0 } }))

/-! ### Walks end -/

/-- The entries of an extent in a leaf that a walk has still to snoop. -/
def walkLeft (s : State) (leaf : Nat) : WalkWhy → List DirEntry
  | .narrow k a w => (extEntries s leaf k).filter (fun e => e.sharers &&& a != 0 || (e.excl && e.sharers &&& w != 0))
  | .release k => extEntries s leaf k
  | .head _ => []

/-- A pending line of the leaf holds a walk up; so does, for a NARROW, that it is not yet in force, or that a request admitted under the old
masks has still to complete (R263, R308). -/
def walkHeldUp (s : State) (leaf : Nat) (w : WalkRec) : Bool :=
  let busy (k : Nat) : Bool := s.coh.pend.any (fun p => p.leaf == leaf && p.line / 2 ^ 22 == k)
  match w.why with
  | .narrow k _ _ => busy k || s.coh.ptOld.any (fun e => e.1 == k) || (extRequests s k).any (fun r => w.before.contains (r.src, r.txn))
  | .release k => busy k
  | .head _ => false

/-- A walk has ended in every leaf (R263, R275). -/
def walkEnds (why : WalkWhy) (s : State) : State :=
  match why with
  | .narrow k _ _ => ptEvent F.COH_EVT.PTDONE (s.setPt k { s.ptEntry k with st := 0 })
  | .release _ => s
  | .head n =>
    let s1 := s.off F.COH_HEAD.WALK n
    if nbit s.coh.fenceReset.toNat n then s1.off F.COH_HEAD.FENCED n else s1

/-- A leaf's part of the first walk that runs there ends. -/
def walkLeafEnds (leaf : Nat) (w : WalkRec) (s : State) : State :=
  let w' := { w with running := w.running.erase leaf }
  let ended := w'.leaves.isEmpty && w'.asked.isEmpty && w'.running.isEmpty
  let s1 := { s with coh := { s.coh with
    walks := if ended then s.coh.walks.erase w else s.coh.walks.map (fun x => if x = w then w' else x) } }
  let s2 := if ended then walkEnds w.why s1 else s1
  match mntTicket s2 8 leaf with
  | some k => mntEnd k s2
  | none => s2

/-- WALK_COMPLETE: a leaf has been walked and its snoops answered; entries that came meanwhile, or found no place among the pending lines, are
snooped first; `damaged`: the entries that the walk has found damaged, by set × 16 + way (R276). -/
def execWalkComplete (leaf : Fin 4) (damaged : List (Fin 1048576)) (s : State) : Host.Outcome State Fault Refusal :=
  let s := dirDamaged leaf (damaged.map (·.val)) s
  done (match s.coh.walks.find? (fun w => w.running.contains leaf.val) with
    | none => s
    | some w =>
      if walkHeldUp s leaf w then s
      else match walkLeft s leaf w.why, w.why with
        | [], _ => walkLeafEnds leaf w s
        | es, .narrow _ a d => walks (dirRegs leaf (es.foldl (walkEntry leaf a d false) s))
        | es, _ => walks (dirRegs leaf (es.foldl (walkEntry leaf 0xFFFF 0 true) s)))

/-- A head reset as the coherence block sees it: the cache ways are dropped, and the directories walked; a fence ends with its walk
(R275, R280). -/
def cohHeadReset (n : Nat) (s : State) : State :=
  let s1 := failSnoopsOf n (dcHeadReset n s)
  let s2 := { s1 with coh := { s1.coh with fenceReset := BitVec.ofNat 16 (nsetBit s1.coh.fenceReset.toNat n true) } }
  if s2.flag F.COH_HEAD.FENCED n then
    (if s2.flag F.COH_HEAD.WALK n then walks s2 else s2.off F.COH_HEAD.FENCED n)
  else
    let w : WalkRec := ⟨.head n, [0, 1, 2, 3], [], [], []⟩
    let s3 := { s2 with coh := { s2.coh with walks := s2.coh.walks ++ [w] } }
    walks (s3.on F.COH_HEAD.WALK n)

/-! ### Snoops and their responses -/

/-- The pending line with an outstanding snoop to head n. -/
def snoopFor (s : State) (n line : Nat) : Option (PendLine × Snoop) :=
  s.coh.pend.findSome? (fun p => if p.line = line then (p.snoops.find? (fun q => q.head == n)).map (fun q => (p, q)) else none)

/-- A snoop that its head passes on is marked as delivered. -/
def markDelivered (n line : Nat) (inv : Bool) (s : State) : State :=
  match snoopFor s n line with
  | some (p, q) =>
    if q.inv = inv ∧ q.delivered = false then
      setPend { p with snoops := p.snoops.map (fun x => if x.head = n then { x with delivered := true } else x) } s
    else s
  | none => s

/-- A snoop reaches its head and goes to the host; it waits for Up while the head is in Retraining (R275).  One whose flit has been sent
and whose record is gone has failed: its host gets it all the same, and the answer will be late. -/
def snoopArrives (n line : Nat) (inv : Bool) (s : State) : State :=
  let m : MsgName := .snoop n line inv
  if !headUp s n || !((transitOf s m).isSome || (snoopFor s n line).any (fun e => e.2.inv == inv && !e.2.delivered)) then s
  else match reach m s with
    | none => s
    | some t =>
      let t1 := landed m t
      markDelivered n line inv { t1 with out := t1.out ++ [.biSnoop n inv line (t1.toHost n)] }

/-- SNP_INV. -/
def execSnpInv (n : Fin 16) (line : Nat) (s : State) : Host.Outcome State Fault Refusal := done (snoopArrives n line true s)

/-- SNP_DATA. -/
def execSnpData (n : Fin 16) (line : Nat) (s : State) : Host.Outcome State Fault Refusal := done (snoopArrives n line false s)

/-- The response of head n goes through the network, its one or two flits, to the directory slice that sent the snoop (R270); none: it cannot
get there yet. -/
def snoopReturns (n line : Nat) (inv : Bool) (data : Option Line) (s : State) : Option State :=
  let m : MsgName := .snoop n line inv
  let t := dispatch m 2 (headEp s n (64 * line)) (dirEp (lineChan s line)) (if data.isSome then 2 else 1) s
  (reach m t).map (landed m)

/-- A host's response to a delivered snoop reaches the directory; any other is late and discarded (R270, R271, R275). -/
def snoopResponse (n line : Nat) (shared : Bool) (data : Option Line) (s : State) : State :=
  match snoopFor s n line with
  | none => s
  | some (p, q) =>
    if !q.delivered then s
    else match snoopReturns n line q.inv data s with
      | some t => walks (snoopEnd p n (shared && !q.inv) data t)
      | none => s

/-- RSP_I. -/
def execRspI (n : Fin 16) (line : Nat) (s : State) : Host.Outcome State Fault Refusal := done (snoopResponse n line false none s)

/-- RSP_S. -/
def execRspS (n : Fin 16) (line : Nat) (s : State) : Host.Outcome State Fault Refusal := done (snoopResponse n line true none s)

/-- RSP_I_DATA. -/
def execRspIData (n : Fin 16) (line : Nat) (data : BitVec 512) (s : State) : Host.Outcome State Fault Refusal :=
  done (snoopResponse n line false (some data) s)

/-- RSP_S_DATA. -/
def execRspSData (n : Fin 16) (line : Nat) (data : BitVec 512) (s : State) : Host.Outcome State Fault Refusal :=
  done (snoopResponse n line true (some data) s)

/-- SNOOP_TIMEOUT: the snoop's window has ended without a response (R275). -/
def execSnoopTimeout (n : Fin 16) (line : Nat) (s : State) : Host.Outcome State Fault Refusal :=
  done (match snoopFor s n line with
    | none => s
    | some (p, q) => guarded (s.expired q.sentAt q.window) s (fun s => walks (snoopFail p n s)))

/-! ### Violations -/

/-- A tenant's counter of violations goes up, with its event (R283, R284). -/
def vioCount (f : Fld) (src n : Nat) (s : State) : State :=
  let s1 := s.satAdd f n 1
  if s1.flag F.COH_CTL.VEVT_EN 0 then raise (src + n) s1 else s1

/-- A record put on the ring; a full ring loses it (R282). -/
def vlogAppend (v : VioReport) (s : State) : State :=
  let c := s.rd F.COH_VLOG_CTL.COUNT 0
  if c = 32 then s.satAdd F.COH_VLOG_LOST.VALUE 0 1
  else
    let m := 6 * ((s.rd F.COH_VLOG_CTL.HEAD 0 + c) % 32)
    let s1 := ((s.wr F.COH_VLOG_W0.REASON m v.reason).wr F.COH_VLOG_W0.RQC m v.tag.cls).wr F.COH_VLOG_W0.RQID m v.tag.id
    let s2 := (s1.wr F.COH_VLOG_W0.SRC m v.src).wr F.COH_VLOG_W0.WRITE m (b2n v.write)
    let s3 := ((s2.wr F.COH_VLOG_W1.DA_LO (m + 1) v.da).wr F.COH_VLOG_W2.DA_HI (m + 2) (v.da / 2 ^ 32)).wr
      F.COH_VLOG_W2.EXT (m + 2) v.ext
    let s4 := ((s3.wr F.COH_VLOG_W3.VICTIMS (m + 3) v.victims).wr F.COH_VLOG_W4.DTC_LO (m + 4) v.stamp).wr
      F.COH_VLOG_W5.DTC_HI (m + 5) (v.stamp / 2 ^ 32)
    s4.wr F.COH_VLOG_CTL.COUNT 0 (c + 1)

/-- VIOLATION_REPORT: the oldest report reaches the COH block. -/
def execViolationReport (s : State) : Host.Outcome State Fault Refusal :=
  done (match s.coh.reports with
    | [] => s
    | v :: l =>
      let s1 := vlogAppend v { s with coh := { s.coh with reports := l } }
      let s2 := if v.tag.cls ≤ 2 ∧ v.tag.id < 16 then vioCount F.COH_VBY.COUNT 656 v.tag.id s1 else s1
      (bitsOf v.victims 16).foldl (fun t n => vioCount F.COH_VON.COUNT 640 n t) s2)

/-- A write of COH_VLOG_CTL (R282). -/
def vlogPop (v : Word) (s : State) : State :=
  let c := s.rd F.COH_VLOG_CTL.COUNT 0
  if F.COH_VLOG_CTL.POP.of v = 1 ∧ c ≠ 0 then
    (s.wr F.COH_VLOG_CTL.HEAD 0 (s.rd F.COH_VLOG_CTL.HEAD 0 + 1)).wr F.COH_VLOG_CTL.COUNT 0 (c - 1)
  else s

/-- COH_VLOG_POP. -/
def execCohVlogPop (v : Word) (s : State) : Host.Outcome State Fault Refusal := done (vlogPop v s)

/-! ### Translation ranges -/

/-- A write of COH_XM_CMD (R255, R285). -/
def xmCmd (v : Word) (s : State) : State :=
  let k := 256 * F.COH_XM_CMD.HEAD.of v + F.COH_XM_CMD.RANGE.of v
  match F.COH_XM_CMD.OP.of v with
  | 1 =>
    let x := sget XRange.none s.coh.xlat k
    (((s.wr F.COH_XM_DATA0.DPA_BASE 0 x.dpaBase).wr F.COH_XM_DATA0.VALID 0 (b2n x.valid)).wr
      F.COH_XM_DATA1.DA_BASE 0 x.daBase).wr F.COH_XM_DATA2.COUNT 0 x.count
  | 2 =>
    let x : XRange := ⟨s.flag F.COH_XM_DATA0.VALID 0, s.rd F.COH_XM_DATA0.DPA_BASE 0, s.rd F.COH_XM_DATA1.DA_BASE 0,
      s.rd F.COH_XM_DATA2.COUNT 0⟩
    { s with coh := { s.coh with xlat := sset XRange.none s.coh.xlat k x } }
  | _ => s

/-- RANGE_READ. -/
def execRangeRead (v : Word) (s : State) : Host.Outcome State Fault Refusal := done (guarded (F.COH_XM_CMD.OP.of v == 1) s (xmCmd v))

/-- RANGE_WRITE. -/
def execRangeWrite (v : Word) (s : State) : Host.Outcome State Fault Refusal := done (guarded (F.COH_XM_CMD.OP.of v == 2) s (xmCmd v))

/-- The device address of a DPA of head n: the lowest valid range that covers it (R255). -/
def translate (s : State) (n dpa : Nat) : Option Nat :=
  let d := dpa / 2 ^ 28
  if 2 ^ 43 ≤ dpa then none
  else (List.range 256).findSome? (fun r =>
    let x := sget XRange.none s.coh.xlat (256 * n + r)
    if x.valid && decide (x.dpaBase ≤ d) && decide (d < x.dpaBase + x.count) then
      some (x.daBase * 2 ^ 28 + (dpa - x.dpaBase * 2 ^ 28)) else none)

/-- EXTENT_OFFER_RESPONSE: a head's host accepts or refuses an extent offered to it (R254). -/
def execExtentOfferResponse (n : Fin 16) (ext : Nat) (accept : Bool) (s : State) : Host.Outcome State Fault Refusal :=
  let o := sget [] s.coh.offered n
  done (guarded (o.contains ext) s (fun s =>
    let a := sget [] s.coh.accepted n
    { s with coh := { s.coh with
      offered := sset [] s.coh.offered n (o.erase ext)
      accepted := sset [] s.coh.accepted n (if accept && !a.contains ext then a ++ [ext] else a) } }))

/-! ### Host requests -/

/-- The victims and reason of a head's request to a vault or an engine (R33). -/
def headNever (s : State) (n : Nat) (pl : Place) : Nat × Nat :=
  let owner := match pl with
    | .vault v _ => vaultOwner s v
    | .engine e _ => engineTenant s e
    | _ => none
  match owner with
  | some t => if t < 16 ∧ t ≠ n then (5, tenantBit t) else (2, 0)
  | none => (2, 0)

/-- The answer of a link port to its host, from the head's port ID to the requester's (R253, R256), with what the host may keep the line as
(R271). -/
def hostAnswer (n : Nat) (id : HostId) (op : NetOp) (a : Answer) (grant : Intent) (s : State) : State :=
  let p : Ports := ⟨s.rd F.COH_HEAD.PID n, id.port⟩
  let send (m : OutMsg) : State := { s with out := s.out ++ [m] }
  match op, a with
  | .read, .data d => send (.cxlData n id.tag d false grant p)
  | .read, .poisoned d => send (.cxlData n id.tag d true grant p)
  | .read, _ => send (.cxlData n id.tag 0 true .none p)
  | .write, _ => send (.cxlCompletion n id.tag p)

/-- The live members of a set, in ascending order: the ranks that a window dispatches to (R215, R220). -/
def liveMembers (s : State) (k : Nat) : List Nat :=
  (List.range 512).filter (fun e => engineSet s e == some k && !s.flag F.TMB_STAT.RETIRED e)

/-- A head's read of window w (R215, R33); writes complete with no effect and are counted (R216). -/
def windowRequest (n : Nat) (id : HostId) (w : Nat) (op : NetOp) (da : Nat) (s : State) : State :=
  let k := s.rd F.TMB_TW_CFG.SET w
  let owner := s.rd F.TMB_SET_CFG.TENANT k
  let src := headEp s n da
  if owner ≠ n then hostAnswer n id op (.error 2 0) .none (report 4 (headTag n) src (op == .write) da 0x7FFF (tenantBit owner) s)
  else match op with
    | .write => hostAnswer n id op .ack .none (s.satAdd F.TMB_TW_WRITES.VALUE w 1)
    | .read =>
      let live := liveMembers s k
      if !s.flag F.TMB_SET_JSTAT.RUNNING k || live.isEmpty then
        hostAnswer n id op (.poisoned 0) .none (s.satAdd F.TMB_TW_NOTREADY.VALUE w 1)
      else
        let e := live.getD ((da - windowBase s w) / 64 % live.length) 0
        let dst := engineEp e
        match leafRoute s (epLeaf src) (epLeaf dst), freeTxn s src with
        | none, _ => hostAnswer n id op (.error 6 0) .none (netError 6 0 src da s)
        | some _, none => s
        | some _, some t =>
          let s1 := { s with net := { s.net with winOff := sset 0 s.net.winOff (256 * src + t) (da - windowBase s w) } }
          (netPut (.window n id w) (s.rd F.TMB_TW_BOUND.BOUND w)
            ⟨.read, src, dst, t, headTag n, da / 64 * 64, 64, 0, .none⟩ s1).getD s

/-- A host's CXL.mem request at head n: translated, checked and sent, or answered at once (R255, R256, R83, R33); one for which the network
has no room waits with the host, whose credits are withheld (R89).  `dpa` is what the head's HDM decoders give: they are the standard's
(R254). -/
def hostRequest (n : Nat) (id : HostId) (dpa len : Nat) (op : NetOp) (data : Line) (intent : Intent) (s : State) : State :=
  let s := { s with coh := { s.coh with hostPort := sset 0 s.coh.hostPort n id.port } }
  let src := headEp s n dpa
  let refuse (code detail : Nat) (t : State) : State := hostAnswer n id op (.error code detail) .none t
  match translate s n dpa with
  | none => refuse 1 1 (netError 1 1 src dpa s)
  | some da =>
    let src := headEp s n da
    if len = 0 ∨ 64 < da % 64 + len then refuse 4 1 (netError 4 1 src da s)
    else match decodeDa s da with
      | .unmapped => refuse 1 0 (netError 1 0 src da s)
      | .windowGap => refuse 1 0 (netError 1 0 src da s)
      | .window w => windowRequest n id w op da s
      | .reg _ => refuse 2 0 (report 2 (headTag n) src (op == .write) da 0x7FFF 0 s)
      | .dram c ca =>
        (match freeTxn s src with
        | none => s
        | some t => match netSend (.head n id) (headTag n) op src t da len data intent (.dram c ca) s with
          | .sent s1 => s1
          | .answered code d s1 => refuse code d s1
          | .waits => s)
      | pl =>
        let (reason, victims) := headNever s n pl
        refuse 2 0 (report reason (headTag n) src (op == .write) da 0x7FFF victims s)

/-- What the CXL DVSEC of head n reports: its memory is active.  It is not where the head has trained without CXL, or waits for the fabric
(R252, R329). -/
def dvsecActive (s : State) (n : Nat) : Bool :=
  s.flag F.LNK_HSTAT.CXLUP n && (s.flag F.CFG_PINS.DONE 0 || !s.cfg.fabdep.getLsbD n)

/-- The head has a path to DRAM: its memory is active and its link carries requests (R252). -/
def cxlReady (s : State) (n : Nat) : Bool := headExists s n && headUp s n && dvsecActive s n

/-- CXL_MEM_READ: a host reads a line. -/
def execCxlMemRead (n : Fin 16) (id : HostId) (dpa : Nat) (intent : Intent) (s : State) : Host.Outcome State Fault Refusal :=
  done (guarded (cxlReady s n) s (hostRequest n id (dpa / 64 * 64) 64 .read 0 intent))

/-- CXL_MEM_WRITE: a host writes bytes of a line; `keep` is the state it keeps the line in. -/
def execCxlMemWrite (n : Fin 16) (id : HostId) (dpa len : Nat) (data : BitVec 512) (keep : Intent) (s : State) :
    Host.Outcome State Fault Refusal :=
  done (guarded (cxlReady s n) s (hostRequest n id dpa len .write data keep))

end Sys2Proof.Machine
end

