-- ==== Sys2Proof/Machine/Float.lean ====
section
/-! DEFINITION. Binary floating point (R136, R137, R179): operands as exact numbers, one rounding to binary32, and the roundings of
integers (R134). -/

namespace Sys2Proof.Machine
open Sys2Proof

/-- An operand: a NaN, an infinity, or the exact number m × 2^e with its sign. -/
inductive FpVal where
  | nan (signalling : Bool)
  | inf (neg : Bool)
  | num (neg : Bool) (m : Nat) (e : Int)
deriving DecidableEq, Repr

/-- A rounded result: the binary32 bits, and whether it was invalid, overflowed, underflowed, or was inexact. -/
structure FpRes where
  bits : Nat
  invalid : Bool
  overflow : Bool
  underflow : Bool
  inexact : Bool
deriving DecidableEq, Repr

/-- An operand of a format with `eb` exponent and `fb` fraction bits; with `ftz` a subnormal is a zero of its sign (R137). -/
def fpDecode (eb fb : Nat) (ftz : Bool) (v : Nat) : FpVal :=
  let f := v % 2 ^ fb
  let x := v / 2 ^ fb % 2 ^ eb
  let neg := v.testBit (eb + fb)
  let bias : Int := 2 ^ (eb - 1) - 1
  if x = 2 ^ eb - 1 then (if f = 0 then .inf neg else .nan (!f.testBit (fb - 1)))
  else if x = 0 then .num neg (if ftz then 0 else f) (1 - bias - fb)
  else .num neg (2 ^ fb + f) (x - bias - fb)

/-- A binary32 operand. -/
def fp32 (ftz : Bool) (v : Nat) : FpVal := fpDecode 8 23 ftz v

/-- The sign bit of binary32. -/
def signBit (neg : Bool) : Nat := if neg then 0x80000000 else 0

/-- The canonical quiet NaN (R137). -/
def fpQNaN : Nat := 0x7FC00000

/-- A value cut at 2^sh units: one unit more where the rounding asks for it, and whether anything was cut off. -/
def roundUnits (mode : FpRound) (neg : Bool) (m sh : Nat) : Nat × Bool :=
  let r := m / 2 ^ sh
  let rest := m % 2 ^ sh
  let up := match mode with
    | .nearest => decide (2 ^ sh < 2 * rest) || (decide (2 * rest = 2 ^ sh) && r % 2 == 1)
    | .zero => false
    | .plus => !neg && rest != 0
    | .minus => neg && rest != 0
  (if up then r + 1 else r, rest != 0)

/-- The number m × 2^e, m not 0, rounded to units of 2^q. -/
def roundTo (mode : FpRound) (neg : Bool) (m : Nat) (e q : Int) : Nat × Bool :=
  if q ≤ e then (m * 2 ^ (e - q).toNat, false) else roundUnits mode neg m (q - e).toNat

/-- The result of an overflow (IEEE 754, R137). -/
def fpOverflow (mode : FpRound) (neg : Bool) : Nat :=
  let toInf := match mode with
    | .nearest => true
    | .zero => false
    | .plus => !neg
    | .minus => neg
  signBit neg + (if toInf then 0x7F800000 else 0x7F7FFFFF)

/-- The exact number m × 2^e rounded once to binary32 (R136, R137); with `ftz` a result whose magnitude, rounded to 24 bits as if the
exponent had no limit, lies below the smallest normal number becomes a zero of its sign (R137, R179; DEDUCED, unsafe: log entry 187), flagged as
inexact even where it was exactly representable (DESIGN CHOICE, unsafe: log entry 203). -/
def fpRound (mode : FpRound) (ftz neg : Bool) (m : Nat) (e : Int) : FpRes :=
  if m = 0 then ⟨signBit neg, false, false, false, false⟩
  else
    let top : Int := e + Nat.log2 m
    let q := max (top - 23) (-149)
    let (r, cut) := roundTo mode neg m e q
    let (ru, _) := roundTo mode neg m e (top - 23)
    let tiny := decide (top < -127) || (decide (top = -127) && decide (ru < 2 ^ 24))
    if 2 ^ 24 ≤ r ∧ 127 < q + 24 ∨ 2 ^ 23 ≤ r ∧ 127 < q + 23 then ⟨fpOverflow mode neg, false, true, false, true⟩
    else
      -- r has at most 24 bits, or is 2^24 exactly: the sum of the fields carries into the exponent
      let bits := if r < 2 ^ 23 then r else (q + 149).toNat * 2 ^ 23 + r
      if ftz ∧ tiny then ⟨signBit neg, false, false, true, true⟩
      else ⟨signBit neg + bits, false, false, tiny && cut, cut⟩

/-- The exact product of two numbers, or a special value; none: invalid (0 × infinity). -/
def fpMul (a b : FpVal) : Option FpVal :=
  match a, b with
  | .nan s, .nan t => some (.nan (s || t))
  | .nan s, _ => some (.nan s)
  | _, .nan s => some (.nan s)
  | .inf s, .inf t => some (.inf (s != t))
  | .inf s, .num t m _ => if m = 0 then none else some (.inf (s != t))
  | .num t m _, .inf s => if m = 0 then none else some (.inf (s != t))
  | .num s m e, .num t n f => some (.num (s != t) (m * n) (e + f))

/-- The value with its sign inverted. -/
def fpNeg : FpVal → FpVal
  | .nan s => .nan s
  | .inf s => .inf (!s)
  | .num s m e => .num (!s) m e

/-- A signed count of units of 2^q. -/
def fpInt (neg : Bool) (m : Nat) (e q : Int) : Int :=
  let u : Int := m * 2 ^ (e - q).toNat
  if neg then -u else u

/-- An invalid result, or a NaN operand's. -/
def fpNaN (invalid : Bool) : FpRes := ⟨fpQNaN, invalid, false, false, false⟩

/-- Z + T, rounded once (R136, R137): an exact zero sum is +0, or −0 under rounding toward minus infinity, and two zeros of one sign keep
it where `keep` says so. -/
def fpAdd (mode : FpRound) (ftz keep : Bool) (z t : FpVal) : FpRes :=
  match z, t with
  | .nan s, .nan u => fpNaN (s || u)
  | .nan s, _ => fpNaN s
  | _, .nan s => fpNaN s
  | .inf s, .inf u => if s = u then ⟨signBit s + 0x7F800000, false, false, false, false⟩ else fpNaN true
  | .inf s, .num _ _ _ => ⟨signBit s + 0x7F800000, false, false, false, false⟩
  | .num _ _ _, .inf s => ⟨signBit s + 0x7F800000, false, false, false, false⟩
  | .num s m e, .num u n f =>
    let q := min e f
    let x := fpInt s m e q + fpInt u n f q
    if x = 0 then
      (if keep ∧ m = 0 ∧ n = 0 ∧ s = u then ⟨signBit s, false, false, false, false⟩
       else ⟨signBit (decide (mode = .minus)), false, false, false, false⟩)
    else fpRound mode ftz (decide (x < 0)) x.natAbs q

/-- Z ± A × B, fused, with the invalid product told (R137). -/
def fpFma (mode : FpRound) (ftz keep sub : Bool) (z a b : FpVal) : FpRes :=
  match fpMul a b with
  | none => fpNaN true
  | some t =>
    let sig (v : FpVal) : Bool := match v with | .nan s => s | _ => false
    let r := fpAdd mode ftz keep z (if sub then fpNeg t else t)
    { r with invalid := r.invalid || sig a || sig b }

/-- The rounded product alone, an exact zero keeping the product's sign (R179). -/
def fpProd (mode : FpRound) (ftz : Bool) (a b : FpVal) : FpRes :=
  match fpMul a b with
  | none => fpNaN true
  | some (.nan s) => fpNaN s
  | some (.inf s) => ⟨signBit s + 0x7F800000, false, false, false, false⟩
  | some (.num s m e) => fpRound mode ftz s m e

/-- The operand is a NaN. -/
def fpIsNaN : FpVal → Bool
  | .nan _ => true
  | _ => false

/-! ### Integers -/

/-- A number shifted right by `sh` bits and rounded (R134). -/
def shiftRound (mode : IntRound) (sh : Nat) (v : Int) : Int :=
  let d : Int := 2 ^ sh
  let r := v / d
  let rest := v % d
  match mode with
  | .trunc => r
  | .halfUp => if d ≤ 2 * rest then r + 1 else r
  | .halfEven => if d < 2 * rest ∨ (d = 2 * rest ∧ r % 2 = 1) then r + 1 else r

/-- The signed range of n bits. -/
def inSigned (n : Nat) (v : Int) : Bool := decide (-(2 ^ (n - 1) : Int) ≤ v) && decide (v < (2 ^ (n - 1) : Int))

/-- A number limited to the signed range of n bits. -/
def satSigned (n : Nat) (v : Int) : Int := max (-(2 ^ (n - 1) : Int)) (min v ((2 ^ (n - 1) : Int) - 1))

end Sys2Proof.Machine
end

