-- ==== Sys2Proof/Machine/Memory.lean ====
section
/-! DEFINITION. On-chip memories (R142–R163): the codes, the instances' words, the vaults, self-tests, the scrubbers, remap and logs. -/

namespace Sys2Proof.Machine
open Sys2Proof

/-! ### Instances -/

/-- The code of a kind (R162). -/
def kindCode : MemKind → Nat
  | .bram => 0
  | .vault => 1
  | .data => 2
  | .prog => 3

/-- The kind of a code; 3 and above: program memory. -/
def kindOf : Nat → MemKind
  | 0 => .bram
  | 1 => .vault
  | 2 => .data
  | _ => .prog

/-- How many instances a kind has. -/
def kindCount : MemKind → Nat
  | .bram => 5120
  | .vault => 640
  | _ => 512

/-- The codeword length of a kind (R142, R149, R152). -/
def kindLen : MemKind → Nat
  | .bram => 72
  | .vault => 137
  | .data => 72
  | .prog => 137

/-- The words of an instance (R155). -/
def kindWords : MemKind → Nat
  | .bram => 1024
  | .vault => 8192
  | .data => 8192
  | .prog => 1024

/-- The state register of an instance of a kind: the three share one layout (R163). -/
def kindFld (k : MemKind) (f : Fld) : Fld :=
  match k with
  | .bram => { f with reg := .MEM_BRAM }
  | .vault => { f with reg := .MEM_VAULT }
  | _ => { f with reg := .MEM_TMB }

/-- The number of an instance among all. -/
def instKey (k : MemKind) (i : Nat) : Nat := kindCode k * 8192 + i

/-- The bank of a word: a vault has four with histories of their own (R149, R159). -/
def memBank (k : MemKind) (w : Nat) : Nat := if k = .vault then w % 4 else 0

/-- The sector that holds an instance; none for an engine's memories. -/
def instSector (k : MemKind) (i : Nat) : Option Nat :=
  match k with
  | .bram => some (i / 16)
  | .vault => some (i / 2)
  | _ => none

/-- The leaf of an instance. -/
def instLeaf (k : MemKind) (i : Nat) : Nat :=
  match k with
  | .bram => i / 1280
  | .vault => i / 160
  | _ => i / 128

/-- The words of an instance that the store does not list hold 0: of a block RAM or a vault (R145), and of a tumbler memory once it has
been cleared (R206). -/
def zeroFilled (s : State) (k : MemKind) (i : Nat) : Bool :=
  match k with
  | .bram => true
  | .vault => true
  | _ => sget false s.mem.cleared (instKey k i)

/-- The codeword of a word of an instance. -/
def memCode (s : State) (k : MemKind) (i w : Nat) : Codeword :=
  match sget none s.mem.code (instKey k i * 8192 + w) with
  | some c => c
  | none => if zeroFilled s k i then 0
    else Config.tmbWord s.memGen (sget 0 s.mem.gen (2 * (i / 128) + i % 16 / 8)) (instKey k i) w

/-- The state with a codeword stored; what the word reads as unlisted is not listed. -/
def setCode (k : MemKind) (i w : Nat) (c : Codeword) (s : State) : State :=
  let e := if zeroFilled s k i && c == 0 then none else some c
  { s with mem := { s.mem with code := sset none s.mem.code (instKey k i * 8192 + w) e } }

/-- Positions of a stored word inverted by an upset or a stuck cell. -/
def flipCode (k : MemKind) (i w : Nat) (flips : List Nat) (s : State) : State :=
  match flips with
  | [] => s
  | _ => setCode k i w (flips.foldl flipPos (memCode s k i w)) s

/-- A word of data written with its check bits. -/
def storeWord (k : MemKind) (i w : Nat) (d : BitVec 128) (s : State) : State := setCode k i w (encodeWord (kindLen k) d) s

/-- The instance is usable (R154). -/
def usable (s : State) (k : MemKind) (i : Nat) : Bool := s.flag (kindFld k F.MEM_BRAM.USABLE) i

/-- The instance's words all hold zero codewords, or what is open where nothing has been written (R145, R431). -/
def dropCodes (p : Nat → Bool) (s : State) : State :=
  { s with mem := { s.mem with code := s.mem.code.filter (fun e => !p (e.1 / 8192)) } }

/-! ### Directed scrubs -/

/-- A corrected read posts its word to the bank's directed-scrub register, unless that is occupied (R147, R150). -/
def postDirected (k : MemKind) (i w : Nat) (s : State) : State :=
  let key := 4 * instKey k i + memBank k w
  match sget none s.mem.directed key with
  | some _ => s
  | none => { s with mem := { s.mem with directed := sset none s.mem.directed key (some w) } }

/-- Scrubbing is enabled for the instance; its sector is in no closed region (R156). -/
def scrubOn (s : State) (k : MemKind) (i : Nat) : Bool :=
  let l := instLeaf k i
  let kindOn := match k with
    | .bram => s.flag F.MEM_SCR_CTL.BRAM l && s.flag F.MEM_BRAM.ECCON i
    | .vault => s.flag F.MEM_SCR_CTL.VAULT l
    | .data => s.flag F.MEM_SCR_CTL.TMBD l
    | .prog => s.flag F.MEM_SCR_CTL.TMBP l
  let isOpen := match instSector k i with
    | some x => !(s.flag F.CFG_SECT.INRGN x && s.flag F.CFG_SECT.CLOSED x)
    | none => true
  s.flag F.MEM_SCR_CTL.EN l && kindOn && usable s k i && isOpen

/-- The walk of the instances of sector x stops at its closure and starts again from word 0 at its release (R156). -/
def restartWalks (x : Nat) (s : State) : State :=
  let mine (inst : Nat) : Bool := instSector (kindOf (inst / 8192)) (inst % 8192) == some x
  { s with mem := { s.mem with
      walk := s.mem.walk.filter (fun e => !mine e.1)
      due := s.mem.due.filter (fun e => !mine e.1)
      back := s.mem.back.filter (fun e => !mine (e.1 / 4))
      directed := s.mem.directed.filter (fun e => !mine (e.1 / 4)) } }

/-! ### Reads and writes of lines -/

/-- The words a request touches: those of `unit` bytes each from offset `off` for `len` bytes. -/
def touched (unit off len : Nat) : List Nat := (List.range ((off + len - 1) / unit + 1 - off / unit)).map (fun j => off / unit + j)

/-- The bytes of a word put into their lanes of a line, for a word of `unit` bytes at byte offset w × unit. -/
def wordLanes (unit w : Nat) (d : BitVec 128) : Line := (d.setWidth 512) <<< (8 * (w * unit % 64))

/-- The read of R150 over words of `unit` bytes: the bytes in their lanes, and whether a word was uncorrectable; a corrected word is
posted for a directed scrub. -/
def readWords (k : MemKind) (i unit : Nat) : List Nat → Line → Bool → State → Line × Bool × State
  | [], l, bad, s => (l, bad, s)
  | w :: ws, l, bad, s =>
    let c := memCode s k i w
    let d := wordData (kindLen k) c
    let l' := l ||| wordLanes unit w (if unit = 8 then (d.setWidth 64).setWidth 128 else d)
    match classifyWord (kindLen k) c with
    | .clean => readWords k i unit ws l' bad s
    | .corrected _ => readWords k i unit ws l' bad (if scrubOn s k i then postDirected k i w s else s)
    | .uncorrectable => readWords k i unit ws l' true s

/-- The bytes of word w that a write covers, as first byte and length within the word. -/
def covered (unit off len w : Nat) : Nat × Nat :=
  let lo := max off (w * unit)
  let hi := min (off + len) ((w + 1) * unit)
  (lo - w * unit, hi - lo)

/-- A partial write finds a word uncorrectable (R150). -/
def writeBlocked (s : State) (k : MemKind) (i unit off len : Nat) : Bool :=
  (touched unit off len).any (fun w =>
    (covered unit off len w).2 != unit && classifyWord (kindLen k) (memCode s k i w) == .uncorrectable)

/-- The 128 data bits of a word's lanes of a line. -/
def laneWord (unit w : Nat) (l : Line) : BitVec 128 := (l >>> (8 * (w * unit % 64))).setWidth 128

/-- The mask of `n` bytes from byte `a` of a word. -/
def wordMask (a n : Nat) : BitVec 128 := (BitVec.allOnes 128 >>> (128 - 8 * n)) <<< (8 * a)

/-- The writes of R150 over the words a request touches.  The read inside a partial write posts no word for a directed scrub: R150 posts
a corrected read, and says of this one only that it takes a bank cycle (DESIGN CHOICE, unsafe: log entry 198). -/
def writeWords (k : MemKind) (i unit off len : Nat) (data : Line) (s : State) : State :=
  (touched unit off len).foldl (fun t w =>
    let (a, n) := covered unit off len w
    let old := wordData (kindLen k) (memCode t k i w)
    let m := wordMask a n
    storeWord k i w ((old &&& ~~~m) ||| (laneWord unit w data &&& m)) t) s

/-- Each word touched is met by its upset before the request reads it. -/
def flipTouched (k : MemKind) (i unit off len : Nat) (ups : List (List Nat)) (s : State) : State :=
  ((touched unit off len).zip ups).foldl (fun t e => flipCode k i e.1 e.2 t) s

/-- The answer of a memory to an admitted request over words of `unit` bytes at offset `off` (R150, R152). -/
def serveWords (k : MemKind) (i unit off : Nat) (r : Req) (s : State) : State :=
  match r.op with
  | .read =>
    let (l, bad, t) := readWords k i unit (touched unit off r.len) 0 false s
    let d := laneBytes l (r.da % 64) r.len
    respond r (if bad then .poisoned d else .data d) t
  | .write =>
    if writeBlocked s k i unit off r.len then respond r (.error 5 2) s
    else respond r .ack (writeWords k i unit off r.len r.data s)

/-! ### Vaults -/

/-- R33 at a vault: the same identity; the Keeper and the debugger reach vaults in no region or in a static region (R378). -/
def vaultAdmits (s : State) (v : Nat) (t : Tag) : Bool :=
  if t.cls = 3 ∨ t.cls = 4 then
    !s.flag F.CFG_SECT.INRGN (v / 2) || vaultOwner s v == some 16
  else vaultOwner s v == some t.id

/-- A request at vault v, in the order of R150; `ups`: what has happened to the words it touches. -/
def vaultRequest (v off : Nat) (ups : List (List Nat)) (r : Req) (s : State) : State :=
  if vaultAdmits s v r.tag then
    if s.flag F.CFG_SECT.INRGN (v / 2) && s.flag F.CFG_SECT.CLOSED (v / 2) then respond r (.error 3 0) s
    else if !usable s .vault v then respond r (.error 5 1) s
    else serveWords .vault v 16 off r (flipTouched .vault v 16 off r.len ups s)
  else denied r 5 0x7FFF (match vaultOwner s v with | some o => tenantBit o | none => 0) s

/-! ### Logs -/

/-- A record appended to the ring of leaf l; on a full ring it is lost; where appended and enabled, the memory event is raised
(R162). -/
def memLog (k : MemKind) (i kind entry word pos : Nat) (s : State) : State :=
  let l := instLeaf k i
  let n := s.rd F.MEM_LOG_CTL.COUNT l
  if n = 16 then s.satAdd F.MEM_LOG_LOST.COUNT l 1
  else
    let b := 4 * (16 * l + (s.rd F.MEM_LOG_CTL.HEAD l + n) % 16)
    let s1 := (((s.wr F.MEM_LOG_W0.KIND b kind).wr F.MEM_LOG_W0.MKIND b (kindCode k)).wr F.MEM_LOG_W0.INST b i).wr
      F.MEM_LOG_W0.ENTRY b entry
    let s2 := ((s1.wr F.MEM_LOG_W1.WORD (b + 1) word).wr F.MEM_LOG_W1.POS (b + 1) pos).wr F.MEM_LOG_W1.PASS (b + 1)
      (s.rd F.MEM_SCR_STAT.PASS l)
    let s3 := (s2.wr F.MEM_LOG_W2.DTC_LO (b + 2) s.stamp).wr F.MEM_LOG_W3.DTC_HI (b + 3) (s.stamp / 2 ^ 32)
    let s4 := s3.wr F.MEM_LOG_CTL.COUNT l (n + 1)
    let en := if kind = 0 then F.MEM_SCR_CTL.CE_EVT else if kind = 1 ∨ kind = 5 then F.MEM_SCR_CTL.UE_EVT else F.MEM_SCR_CTL.PERM_EVT
    if s4.flag en l then raise (10 + l) s4 else s4

/-- The oldest record of leaf l's ring is discarded. -/
def memLogPop (l : Nat) (v : Word) (s : State) : State :=
  let n := s.rd F.MEM_LOG_CTL.COUNT l
  if F.MEM_LOG_CTL.POP.of v = 1 ∧ n ≠ 0 then
    (s.wr F.MEM_LOG_CTL.HEAD l (s.rd F.MEM_LOG_CTL.HEAD l + 1)).wr F.MEM_LOG_CTL.COUNT l (n - 1)
  else s

/-- MEM_LOG_POP. -/
def execMemLogPop (leaf : Fin 4) (v : Word) (s : State) : Host.Outcome State Fault Refusal := done (memLogPop leaf v s)

/-! ### Remap -/

/-- The remap entries a word may use: a vault bank's two, or the two of another instance; program memory has none (R160). -/
def spareEntries (k : MemKind) (w : Nat) : List Nat :=
  match k with
  | .vault => [2 * (w % 4), 2 * (w % 4) + 1]
  | .prog => []
  | _ => [0, 1]

/-- The lowest free spare for the word. -/
def freeSpare (s : State) (k : MemKind) (i w : Nat) : Option Nat :=
  (spareEntries k w).find? (fun j =>
    !nbit (s.rd (kindFld k F.MEM_BRAM.RMP_USED) i) j && !nbit (s.rd (kindFld k F.MEM_BRAM.SPARE_BAD) i) j)

/-- Remap entry j of the instance. -/
def rmpEntry (s : State) (k : MemKind) (i j : Nat) : Option RmpEnt := sget none s.mem.rmp (8 * instKey k i + j)

/-- The word is served by a spare. -/
def remapped (s : State) (k : MemKind) (i w : Nat) : Bool :=
  (List.range 8).any (fun j => (rmpEntry s k i j).any (fun e => e.word == w))

/-- Entry j becomes valid for the word, whose spare holds codeword c. -/
def addRemap (k : MemKind) (i j w pos src : Nat) (c : Codeword) (s : State) : State :=
  let s1 := { s with mem := { s.mem with rmp := sset none s.mem.rmp (8 * instKey k i + j) (some ⟨w, pos, src⟩) } }
  memLog k i 3 j w pos (setCode k i w c (s1.wrBit (kindFld k F.MEM_BRAM.RMP_USED) i j true))

/-- The word MEM_RMP_DATA shows for the entry that MEM_RMP_SEL names. -/
def rmpData (s : State) : Word :=
  let k := kindOf (s.rd F.MEM_RMP_SEL.MKIND 0)
  match rmpEntry s k (s.rd F.MEM_RMP_SEL.INST 0) (s.rd F.MEM_RMP_SEL.ENTRY 0) with
  | none => 0
  | some e => setF (setF (setF (setF 0 0 13 e.word) 16 8 e.pos) 28 2 e.by_) 31 1 1

/-- A write of MEM_RMP_SEL's fields is legal: kind 3 is reserved, and so is an instance beyond the kind's range (R163). -/
def rmpSelWrite (v : Word) (s : State) : State :=
  let k := F.MEM_RMP_SEL.MKIND.of v
  let s1 := if k = 3 then s else s.wr F.MEM_RMP_SEL.MKIND 0 k
  let i := F.MEM_RMP_SEL.INST.of v
  let s2 := if i < kindCount (kindOf (s1.rd F.MEM_RMP_SEL.MKIND 0)) then s1.wr F.MEM_RMP_SEL.INST 0 i else s1
  s2.wr F.MEM_RMP_SEL.ENTRY 0 (F.MEM_RMP_SEL.ENTRY.of v)

/-- A write of MEM_RMP_CMD (R161, R163). -/
def rmpCmd (v : Word) (s : State) : State :=
  let k := kindOf (s.rd F.MEM_RMP_SEL.MKIND 0)
  let i := s.rd F.MEM_RMP_SEL.INST 0
  let w := F.MEM_RMP_CMD.WORD.of v
  if F.MEM_RMP_CMD.ADD.of v = 0 ∨ s.flag F.MEM_RMP_STAT.BUSY 0 ∨ kindWords k ≤ w ∨ kindCount k ≤ i then s
  else if (freeSpare s k i w).isNone || !usable s k i || remapped s k i w then s.on F.MEM_RMP_STAT.FAIL 0
  else { s with mem := { s.mem with rmpAdd := some (instKey k i, w) } }.on F.MEM_RMP_STAT.BUSY 0

/-- MEM_REMAP_ADD. -/
def execMemRemapAdd (v : Word) (s : State) : Host.Outcome State Fault Refusal := done (rmpCmd v s)

/-- A firmware remap: the word is copied as stored into the lowest free spare (R161); where the scrubber has taken the last one
meanwhile, the command fails. -/
def remapCopy (flips : List Nat) (s : State) : State :=
  match s.mem.rmpAdd with
    | none => s
    | some (inst, w) =>
      let k := kindOf (inst / 8192)
      let i := inst % 8192
      let s1 := flipCode k i w flips ({ s with mem := { s.mem with rmpAdd := none } }.off F.MEM_RMP_STAT.BUSY 0)
      match freeSpare s1 k i w with
      | some j => addRemap k i j w 0xFF 2 (memCode s1 k i w) s1
      | none => s1.on F.MEM_RMP_STAT.FAIL 0

/-! ### Scrubbing -/

/-- The scrubber record of a leaf. -/
def State.scrub (s : State) (l : Nat) : LeafScrub := sget .idle s.mem.scrub l

/-- The state with it replaced. -/
def State.setScrub (s : State) (l : Nat) (r : LeafScrub) : State :=
  { s with mem := { s.mem with scrub := sset .idle s.mem.scrub l r } }

/-- The instances of a kind in leaf l. -/
def leafInstances (k : MemKind) (l : Nat) : List Nat :=
  let n := kindCount k / 4
  (List.range n).map (fun j => l * n + j)

/-- An instance becomes due for one slot more, of at most 4; beyond them its walk lags (R155). -/
def dueSlot (k : MemKind) (i : Nat) (s : State) : State :=
  let key := instKey k i
  let n := sget 0 s.mem.due key
  if scrubOn s k i then
    (if n < 4 then { s with mem := { s.mem with due := sset 0 s.mem.due key (n + 1) } }
     else s.on F.MEM_SCR_STAT.LATE (instLeaf k i))
  else s

/-- The kinds that a tick of the given number serves (R155). -/
def tickKinds (t : Nat) : List MemKind := if t % 8 = 0 then [.bram, .vault, .data, .prog] else [.vault, .data]

/-- SCRUB_TICK: tick t of the pass falls at t/8,192 of it (R155).  While EN is 0 the pass stands where it is, and its missed ticks fall due
when EN returns: the spec does not say what becomes of the pass (DESIGN CHOICE, unsafe: log entry 200). -/
def execScrubTick (leaf : Fin 4) (s : State) : Host.Outcome State Fault Refusal :=
  let r := s.scrub leaf
  done (guarded (s.flag F.MEM_SCR_CTL.EN leaf && decide (r.ticks < 8192) &&
      decide (8192 * r.passStart + r.ticks * (1000000 * r.period) ≤ 8192 * s.dtcNow)) s (fun s =>
    (tickKinds r.ticks).foldl (fun t k => (leafInstances k leaf).foldl (fun u i => dueSlot k i u) t)
      (s.setScrub leaf { r with ticks := r.ticks + 1 })))

/-- The scrubber of leaf l runs: it is enabled, and has served its first tick (RUN is 0 at reset although EN is 1; from when on it reads 1 is the
model's: DESIGN CHOICE, unsafe: log entry 205). -/
def scrubRuns (s : State) (l : Nat) : Bool := s.flag F.MEM_SCR_CTL.EN l && ((s.scrub l).ticks != 0 || (s.scrub l).passStart != 0)

/-- SKIPPED of each instance of the leaf says whether it took no slot in the pass that ends. -/
def showSkipped (l : Nat) (s : State) : State :=
  let show1 (k : MemKind) (t : State) : State := (leafInstances k l).foldl (fun u i =>
    u.wr (kindFld k F.MEM_BRAM.SKIPPED) i (b2n (!sget false s.mem.scrubbed (instKey k i)))) t
  let s1 := show1 .data (show1 .vault (show1 .bram s))
  { s1 with mem := { s1.mem with scrubbed := s1.mem.scrubbed.filter (fun e => instLeaf (kindOf (e.1 / 8192)) (e.1 % 8192) != l) } }

/-- MEM_PASS_BOUNDARY: the pass has taken its ticks and its time (R155). -/
def execMemPassBoundary (leaf : Fin 4) (s : State) : Host.Outcome State Fault Refusal :=
  let r := s.scrub leaf
  done (guarded (s.flag F.MEM_SCR_CTL.EN leaf && r.ticks == 8192 && s.expired r.passStart (1000000 * r.period)) s (fun s =>
    let s1 := (showSkipped leaf s).wrapInc F.MEM_SCR_STAT.PASS leaf
    s1.setScrub leaf ⟨r.passStart + 1000000 * r.period, 0, s1.rd F.MEM_SCR_PERIOD.PERIOD leaf⟩))

/-- The history entry is in use: its pass is at most 2 below the current one, modulo 2^16 (R159, R163). -/
def histLive (s : State) (l : Nat) (e : HistEnt) : Bool := decide ((s.rd F.MEM_SCR_STAT.PASS l + 65536 - e.pass) % 65536 ≤ 2)

/-- The age of an entry in passes. -/
def histAge (s : State) (l : Nat) (e : HistEnt) : Nat := (s.rd F.MEM_SCR_STAT.PASS l + 65536 - e.pass) % 65536

/-- The list without its oldest entry; the first on a tie. -/
def dropOldest (s : State) (l : Nat) (h : List HistEnt) : List HistEnt :=
  match h.find? (fun e => h.all (fun f => histAge s l f ≤ histAge s l e)) with
  | some e => h.erase e
  | none => h

/-- A correction at a position of a word: recorded in the bank's history, or found there and so permanent (R159). -/
def recordCorrection (k : MemKind) (i w pos : Nat) (s : State) : Bool × State :=
  let l := instLeaf k i
  let key := 4 * instKey k i + memBank k w
  let h := (sget [] s.mem.hist key).filter (histLive s l)
  let put (x : List HistEnt) : State := { s with mem := { s.mem with hist := sset [] s.mem.hist key x } }
  if h.any (fun e => e.word == w && e.pos == pos) then (true, put h)
  else (false, put ((if h.length < 4 then h else dropOldest s l h) ++ [⟨w, pos, sget 0 s.mem.walkPass (instKey k i)⟩]))

/-- A permanent fault (R160, R152): remapped where that is enabled and a spare is free; else DEGRADED, or PROG_PERM of a program memory.
With AUTOREMAP 0 the fault is logged only, whether or not a spare is free: R160 gives both rules and no order (DESIGN CHOICE, unsafe: log entry
201). -/
def wordPermanent (k : MemKind) (i w pos : Nat) (fixed : Codeword) (s : State) : State :=
  let s1 := memLog k i 2 0 w pos s
  if k = .prog then s1.on F.MEM_TMB.PROG_PERM i
  else if s1.flag F.MEM_SCR_CTL.AUTOREMAP (instLeaf k i) then
    match freeSpare s1 k i w with
    | some j => addRemap k i j w pos 1 fixed s1
    | none =>
      if s1.flag (kindFld k F.MEM_BRAM.DEGRADED) i then s1
      else memLog k i 4 0 w pos (s1.on (kindFld k F.MEM_BRAM.DEGRADED) i)
  else s1

/-- A scrub slot's read of a word (R155, R158–R160): a correction is counted and classified, and its write-back waits for the next
slot; an uncorrectable word is logged. -/
def scrubWord (k : MemKind) (i w : Nat) (s : State) : State :=
  let l := instLeaf k i
  let n := kindLen k
  let c := memCode s k i w
  match classifyWord n c with
  | .clean => s
  | .uncorrectable => memLog k i 1 0 w 0xFF (s.satAdd F.MEM_UE_CNT.COUNT l 1)
  | .corrected p =>
    let s1 := (s.satAdd F.MEM_CE_CNT.COUNT l 1).satAdd (kindFld k F.MEM_BRAM.CE) i 1
    let (perm, s2) := recordCorrection k i w p s1
    let s3 := memLog k i 0 0 w p s2
    let s4 := if perm then wordPermanent k i w p (fixWord n c) s3 else s3
    if remapped s4 k i w && !remapped s3 k i w then s4
    else { s4 with mem := { s4.mem with
      back := sset none s4.mem.back (4 * instKey k i + memBank k w) (some ⟨w, c, fixWord n c⟩) } }

/-- The instance has taken a slot in this pass. -/
def markScrubbed (k : MemKind) (i : Nat) (s : State) : State :=
  { s with mem := { s.mem with scrubbed := sset false s.mem.scrubbed (instKey k i) true } }

/-- One due slot less. -/
def takeDue (k : MemKind) (i : Nat) (s : State) : State :=
  { s with mem := { s.mem with due := sset 0 s.mem.due (instKey k i) (sget 0 s.mem.due (instKey k i) - 1) } }

/-- The walk goes on to its next word; a new walk belongs to the pass in which it starts (R155). -/
def advanceWalk (k : MemKind) (i : Nat) (s : State) : State :=
  let key := instKey k i
  { s with mem := { s.mem with walk := sset 0 s.mem.walk key ((sget 0 s.mem.walk key + 1) % kindWords k) } }

/-- At word 0 the walk takes the current pass. -/
def startWalk (k : MemKind) (i : Nat) (s : State) : State :=
  if sget 0 s.mem.walk (instKey k i) = 0 then
    { s with mem := { s.mem with walkPass := sset 0 s.mem.walkPass (instKey k i) (s.rd F.MEM_SCR_STAT.PASS (instLeaf k i)) } }
  else s

/-- The compare-and-write of a bank: the corrected codeword is written where the word still holds what was corrected (R158). -/
def compareWrite (k : MemKind) (i bank : Nat) (flips : List Nat) (s : State) : State :=
  let key := 4 * instKey k i + bank
  match sget none s.mem.back key with
  | none => s
  | some b =>
    let s1 := flipCode k i b.word flips { s with mem := { s.mem with back := sset none s.mem.back key none } }
    if memCode s1 k i b.word = b.read then setCode k i b.word b.fixed s1 else s1

/-- A write-back waits for the next slot of the bank. -/
def backWaits (s : State) (k : MemKind) (i bank : Nat) : Bool := (sget none s.mem.back (4 * instKey k i + bank)).isSome

/-- A firmware remap waits for the next slot of the bank. -/
def rmpWaits (s : State) (k : MemKind) (i bank : Nat) : Bool := s.mem.rmpAdd.any (fun e => e.1 == instKey k i && memBank k e.2 == bank)

/-- A slot of the walk is due in the bank: it lies in the bank of the walk's next word (R155). -/
def walkDue (s : State) (k : MemKind) (i bank : Nat) : Bool :=
  sget 0 s.mem.due (instKey k i) != 0 && memBank k (sget 0 s.mem.walk (instKey k i)) == bank

/-- The bank has something to do in a slot; a directed word waits for no tick, as step 5 of the worked example beside R163 shows (DEDUCED, safe: log
entry 45). -/
def slotReady (s : State) (k : MemKind) (i bank : Nat) : Bool :=
  scrubOn s k i && (backWaits s k i bank || rmpWaits s k i bank || (sget none s.mem.directed (4 * instKey k i + bank)).isSome || walkDue s k i bank)

/-- A slot for the directed word of a bank, ahead of the walk: it is the due one where one is due in the bank (R155, log entry 45). -/
def directedSlot (k : MemKind) (i bank w : Nat) (flips : List Nat) (s : State) : State :=
  let s1 := markScrubbed k i (startWalk k i s)
  let s2 := if walkDue s k i bank then takeDue k i s1 else s1
  scrubWord k i w (flipCode k i w flips { s2 with mem := { s2.mem with directed := sset none s2.mem.directed (4 * instKey k i + bank) none } })

/-- A due slot for the next word of the walk (R155). -/
def walkSlot (k : MemKind) (i : Nat) (flips : List Nat) (s : State) : State :=
  let w := sget 0 s.mem.walk (instKey k i)
  advanceWalk k i (scrubWord k i w (flipCode k i w flips (takeDue k i (markScrubbed k i (startWalk k i s)))))

/-- A slot of a bank: a write-back or a firmware remap takes the next one, the write-back first (R158, R161, log entry 207); then the directed word goes
ahead of the walk (R155). -/
def scrubSlot (k : MemKind) (i bank : Nat) (flips : List Nat) (s : State) : State :=
  if scrubOn s k i then
    if backWaits s k i bank then compareWrite k i bank flips s
    else if rmpWaits s k i bank then remapCopy flips s
    else
      match sget none s.mem.directed (4 * instKey k i + bank) with
      | some w => directedSlot k i bank w flips s
      | none => if walkDue s k i bank then walkSlot k i flips s else s
  else s

/-- FIRMWARE_REMAP_COPY: the slot in which the instance copies the word, behind a write-back of the same bank (R161, log entry 207). -/
def execFirmwareRemapCopy (flips : List Nat) (s : State) : Host.Outcome State Fault Refusal :=
  done (match s.mem.rmpAdd with
    | none => s
    | some (inst, w) =>
      let k := kindOf (inst / 8192)
      if backWaits s k (inst % 8192) (memBank k w) then s else remapCopy flips s)

/-- COMPARE_AND_WRITE: the slot in which the bank writes a correction back (R158). -/
def execCompareAndWrite (kind : MemKind) (i : Nat) (bank : Fin 4) (flips : List Nat) (s : State) :
    Host.Outcome State Fault Refusal :=
  done (guarded (scrubOn s kind i) s (compareWrite kind i bank flips))

/-! ### Self-tests and power -/

/-- The instances of a leaf that R153 tests: each has finished where its power is on. -/
def selfTestState (l : Nat) (powered : MemKind → Nat → Bool) (s : State) : State :=
  let all := [MemKind.bram, .vault, .data, .prog].flatMap (fun k => (leafInstances k l).map (fun i => (k, i)))
  let done1 := all.all (fun e => !powered e.1 e.2 || sget 0 s.mem.tested (instKey e.1 e.2) != 0)
  let failed := (all.filter (fun e => sget 0 s.mem.tested (instKey e.1 e.2) == 2)).length
  (s.wr F.MEM_BIST_STAT.DONE l (b2n done1)).wr F.MEM_BIST_STAT.FAILED l failed

/-- The self-test of an instance ends (R154): a checker failure makes it unusable, and a failed spare is never used.  An engine is
usable when both of its memories have passed.  ECCON of a vault or an engine becomes 1 here: R163 gives it the reset value 0 and the meaning 1, and
no moment (DESIGN CHOICE, unsafe: log entry 202). -/
def selfTestEnds (k : MemKind) (i : Nat) (pass : Bool) (badSpares : Nat) (s : State) : State :=
  let s1 := { s with mem := { s.mem with tested := sset 0 s.mem.tested (instKey k i) (if pass then 1 else 2) } }
  let ok := match k with
    | .bram => pass
    | .vault => pass
    | _ => sget 0 s1.mem.tested (instKey .data i) == 1 && sget 0 s1.mem.tested (instKey .prog i) == 1
  let s2 := s1.wr (kindFld k F.MEM_BRAM.USABLE) i (b2n ok)
  let s3 := if k = .bram then s2 else s2.on (kindFld k F.MEM_BRAM.ECCON) i
  let n := match k with | .vault => 256 | .prog => 1 | _ => 4
  let s4 := s3.wr (kindFld k F.MEM_BRAM.SPARE_BAD) i (s3.rd (kindFld k F.MEM_BRAM.SPARE_BAD) i ||| badSpares % n)
  if pass then s4 else memLog k i 5 0 0 0xFF s4

/-- An instance loses its power: its contents, its remap entries, SPARE_BAD and its history (R161, R431). -/
def instOff (p : MemKind → Nat → Bool) (s : State) : State :=
  let gone (inst : Nat) : Bool := p (kindOf (inst / 8192)) (inst % 8192)
  let m := s.mem
  let s1 := { s with mem := { m with
    code := m.code.filter (fun e => !gone (e.1 / 8192))
    cleared := m.cleared.filter (fun e => !gone e.1)
    rmp := m.rmp.filter (fun e => !gone (e.1 / 8))
    hist := m.hist.filter (fun e => !gone (e.1 / 4))
    directed := m.directed.filter (fun e => !gone (e.1 / 4))
    back := m.back.filter (fun e => !gone (e.1 / 4))
    walk := m.walk.filter (fun e => !gone e.1)
    walkPass := m.walkPass.filter (fun e => !gone e.1)
    due := m.due.filter (fun e => !gone e.1)
    tested := m.tested.filter (fun e => !gone e.1)
    rmpAdd := m.rmpAdd.filter (fun e => !gone e.1) } }
  let s2 := if s1.mem.rmpAdd.isNone then s1.off F.MEM_RMP_STAT.BUSY 0 else s1
  [MemKind.bram, .vault, .data].foldl (fun t k =>
    ((List.range (kindCount k)).filter (p k)).foldl (fun u i =>
      ((((u.off (kindFld k F.MEM_BRAM.USABLE) i).off (kindFld k F.MEM_BRAM.DEGRADED) i).wr
        (kindFld k F.MEM_BRAM.RMP_USED) i 0).wr (kindFld k F.MEM_BRAM.SPARE_BAD) i 0).off
        (kindFld k F.MEM_BRAM.PROG_PERM) i) t) s2

end Sys2Proof.Machine
end

