-- ==== Sys2Proof/Machine/Pads.lean ====
section
/-! DEFINITION. The management pins: their owners, what drives them and the level of each pad (R379, R459, R462–R465). -/

namespace Sys2Proof.Machine
open Sys2Proof

/-! ### Ownership -/

/-- The owner of pin i: 0 the secure Keeper, 1 to 4 a core, 5 the fabric; reserved codes count as 0 (R379). -/
def pinOwner (s : State) (i : Nat) : Nat :=
  let o := s.rd (F.WRD_PINOWN.OWN (i % 8)) (i / 8)
  if 6 ≤ o then 0 else o

/-! ### Drivers and levels -/

/-- Map entry m carries an output signal (R459). -/
def isOutput (m : Nat) : Bool :=
  if m < 8 then true
  else if m < 16 then m % 4 == 0 || m % 4 == 2
  else if m < 26 then (m - 16) % 5 != 2
  else decide (m < 30)

/-- Map entry m is enabled and names pin i. -/
def mapsTo (s : State) (m i : Nat) : Bool := s.flag F.MGP_MAP.EN m && s.rd F.MGP_MAP.PIN m == i

/-- The output signals mapped to pin i. -/
def mappedOuts (s : State) (i : Nat) : List Nat := (List.range 34).filter (fun m => isOutput m && mapsTo s m i)

/-- Sector x is static: its region is, or it is in no region (R332). -/
def sectorStatic (s : State) (x : Nat) : Bool := !s.flag F.CFG_SECT.INRGN x || s.flag F.CFG_RGN_CFG.STATIC (s.rd F.CFG_SECT.REGION x)

/-- The device honours the MG signals: sector 0 is open and static (R465). -/
def mgHonoured (s : State) : Bool := !s.flag F.CFG_SECT.CLOSED 0 && sectorStatic s 0

/-- The output of pin i's owner drives the pin: OE, or MG_FOE of a fabric-owned pin (R462, R465). -/
def ownerDrives (s : State) (i : Nat) : Bool :=
  if pinOwner s i = 5 then mgHonoured s && s.pin.mgFoe.getLsbD i else s.flag F.MGP_PIN.OE i

/-- How many drivers act on pin i: its owner's output, and the mapped outputs (R462, R465). -/
def pinDrivers (s : State) (i : Nat) : Nat := b2n (ownerDrives s i) + (mappedOuts s i).length

/-- CONF of pin i (R462). -/
def pinConflict (s : State) (i : Nat) : Bool := decide (2 ≤ pinDrivers s i)

/-- The level of pad i: held through a gap, open under a conflict, its owner's output, where that drives it, and elsewhere the board's or the
peripheral's (R462–R465); a fabric-owned pin keeps the reset value of OD. -/
def padLevel (s : State) (i : Nat) : Bool :=
  if s.flag F.MGP_PIN.GAP i then s.pin.hold.getLsbD i
  else if pinConflict s i then Config.conflictLevel s.freeCtr i
  else if !ownerDrives s i then s.pin.pads.getLsbD i
  else if pinOwner s i = 5 then s.pin.mgFo.getLsbD i
  else if s.flag F.MGP_PIN.OD i && s.flag F.MGP_PIN.OUT i then s.pin.pads.getLsbD i
  else s.flag F.MGP_PIN.OUT i

end Sys2Proof.Machine
end

