-- ==== Sys2Proof/Machine/Wires.lean ====
section
/-! DEFINITION. The fabric's geometry: what each frame of a sector sets (R316), the places of clusters and hard elements (R116), the wires with
their starts, ends and taps, what may drive them (R118–R120), and the hasps where wires cross sector boundaries (R121, R336, R337). -/

namespace Sys2Proof.Machine
open Sys2Proof

/-! ### Frames -/

/-- The frames of sector x, by k of R316. -/
def sectorFrames (s : State) (x : Nat) : Nat → Frame := fun k => sget 0 s.cfg.frames (1280 * x + k)

/-- The same at the sector's last release. -/
def releaseFrames (s : State) (x : Nat) : Nat → Frame := fun k => sget 0 s.fab.relFrames (1280 * x + k)

/-- The n frames from frame a on. -/
def framesAt (g : Nat → Frame) (a n : Nat) : List Frame := (List.range n).map (fun j => g (a + j))

/-- The frame of cluster c = 32 × row + column: that of its column and its pair of rows. -/
def clusterFrame (g : Nat → Frame) (c : Nat) : Frame := g (32 * (c % 32) + c / 64)

/-- The cluster is the upper one of its pair. -/
def upperRow (c : Nat) : Bool := c / 32 % 2 == 1

/-- The settings of LC l of cluster c. -/
def lcAt (g : Nat → Frame) (c l : Nat) : LcAttr := Config.lcAttr (clusterFrame g c) (upperRow c) l

/-- The settings of cluster c; one at an odd cluster column is logic-only (R110). -/
def clusterAt (g : Nat → Frame) (c : Nat) : ClusterAttr :=
  let a := Config.clusterAttr (clusterFrame g c) (upperRow c)
  if c % 2 = 0 then a else { a with mem := .logic }

/-- The settings of slice i = 20 × arithmetic column + j. -/
def sliceAt (g : Nat → Frame) (i : Nat) : SliceAttr := Config.sliceAttr (framesAt g (1088 + 4 * i) 4)

/-- The settings of block RAM j. -/
def bramAt (g : Nat → Frame) (j : Nat) : BramAttr := Config.bramAttr (framesAt g (1024 + 4 * j) 4)

/-- The frames of a sector's access ports. -/
def portFrames (g : Nat → Frame) : List Frame := framesAt g 1248 8

/-- The frames of its clock lines, hasps and sector control. -/
def ringFrames (g : Nat → Frame) : List Frame := framesAt g 1256 24

/-! ### Places -/

/-- Cluster c of sector x as row and column of its leaf, of 640 rows and 256 columns (R16, R116). -/
def spotOf (x c : Nat) : Nat × Nat := (64 * (x % 80 / 8) + c / 32, 32 * (x % 8) + c % 32)

/-- The sector at a place of a leaf. -/
def sectorAt (leaf : Nat) (p : Nat × Nat) : Nat := 80 * leaf + 8 * (p.1 / 64) + p.2 / 32

/-- The cluster at a place, within its sector. -/
def clusterAtSpot (p : Nat × Nat) : Nat := 32 * (p.1 % 64) + p.2 % 32

/-- The hard elements with pins on the routing (R116): block RAM j, slice i, the interface of access port k, and the sector-control interface. -/
inductive Hard where
  | bram (j : Nat)
  | slice (i : Nat)
  | port (k : Nat)
  | ctl
deriving DecidableEq, Repr

/-- The cluster rows a hard element occupies, as the first and their number, and the cluster column on its left (R116). -/
def hardPlace : Hard → Nat × Nat × Nat
  | .bram j => (4 * j, 4, 7)
  | .slice i => (3 * (i % 20), 3, if i < 20 then 15 else 23)
  | .port k => (60, 4, if k = 0 then 15 else 23)
  | .ctl => (60, 4, 15)

/-- The hard element beside cluster c; `ctl`: the sector-control interface. -/
def hardBeside (c : Nat) (ctl : Bool) : Option Hard :=
  let row := c / 32
  let col := c % 32
  if col = 7 ∨ col = 8 then (if ctl then none else some (.bram (row / 4)))
  else if col = 15 ∨ col = 16 then
    (if row < 60 then (if ctl then none else some (.slice (row / 3))) else some (if ctl then .ctl else .port 0))
  else if col = 23 ∨ col = 24 then (if ctl then none else some (if row < 60 then .slice (20 + row / 3) else .port 1))
  else none

/-- The frames of the clusters beside a hard element, whose multiplexers its pins share (R316). -/
def hardFrames (g : Nat → Frame) (h : Hard) : List Frame :=
  let (row, n, col) := hardPlace h
  (List.range n).flatMap (fun r => [clusterFrame g (32 * (row + r) + col), clusterFrame g (32 * (row + r) + col + 1)])

/-! ### Wires -/

/-- A wire, by its start (R118). -/
structure Wire where
  leaf : Nat
  row : Nat
  col : Nat
  dir : Dir
  len : WireLen
  k : Nat
deriving DecidableEq, Repr

/-- A length in clusters. -/
def lenSize : WireLen → Nat
  | .l1 => 1
  | .l2 => 2
  | .l4 => 4
  | .l12 => 12
  | .l24 => 24

/-- The starts of a length in each cluster and direction. -/
def lenStarts : WireLen → Nat
  | .l1 => 16
  | .l2 => 8
  | .l4 => 8
  | .l12 => 4
  | .l24 => 2

/-- The clusters along a wire at which it has crossbar taps. -/
def lenTaps : WireLen → List Nat
  | .l1 => [1]
  | .l2 => [2]
  | .l4 => [4]
  | .l12 => [4, 8, 12]
  | .l24 => [12, 24]

/-- The starts of the shorter lengths. -/
def startsBelow : WireLen → Nat
  | .l1 => 0
  | .l2 => 16
  | .l4 => 24
  | .l12 => 32
  | .l24 => 36

/-- The tracks of the shorter lengths across a cluster boundary. -/
def tracksBelow : WireLen → Nat
  | .l1 => 0
  | .l2 => 16
  | .l4 => 32
  | .l12 => 64
  | .l24 => 112

/-- The lengths. -/
def allLens : List WireLen := [.l1, .l2, .l4, .l12, .l24]

/-- The directions. -/
def allDirs : List Dir := [.east, .west, .north, .south]

/-- The number of a direction. -/
def dirCode : Dir → Nat
  | .east => 0
  | .west => 1
  | .north => 2
  | .south => 3

/-- The opposite direction. -/
def opposite : Dir → Dir
  | .east => .west
  | .west => .east
  | .north => .south
  | .south => .north

/-- The clusters between a place and the leaf's edge in a direction. -/
def roomTo (d : Dir) (p : Nat × Nat) : Nat :=
  match d with
  | .east => 255 - p.2
  | .west => p.2
  | .north => 639 - p.1
  | .south => p.1

/-- The place j clusters away in a direction; none beyond the leaf's edge (R120). -/
def moved (d : Dir) (p : Nat × Nat) (j : Nat) : Option (Nat × Nat) :=
  if roomTo d p < j then none
  else some (match d with
    | .east => (p.1, p.2 + j)
    | .west => (p.1, p.2 - j)
    | .north => (p.1 + j, p.2)
    | .south => (p.1 - j, p.2))

/-- The clusters that a wire runs: it ends at the last cluster before the leaf's edge (R120). -/
def Wire.reach (w : Wire) : Nat := min (lenSize w.len) (roomTo w.dir (w.row, w.col))

/-- The place of a wire after j clusters. -/
def Wire.spot (w : Wire) (j : Nat) : Nat × Nat := (moved w.dir (w.row, w.col) j).getD (w.row, w.col)

/-- The sector it is in there. -/
def Wire.sector (w : Wire) (j : Nat) : Nat := sectorAt w.leaf (w.spot j)

/-- The wire that a reference names at cluster c of sector x. -/
def refWire (x c : Nat) (r : WireRef) : Option Wire :=
  if r.k < lenStarts r.len ∧ r.dist ≤ lenSize r.len then
    (moved (opposite r.dir) (spotOf x c) r.dist).map (fun p => ⟨x / 80, p.1, p.2, r.dir, r.len, r.k⟩)
  else none

/-- The wire that taps at cluster c by a reference: at one of its tap places (R118, R120). -/
def tapWire (x c : Nat) (r : WireRef) : Option Wire :=
  if (lenTaps r.len).contains r.dist then refWire x c r else none

/-- The wire that ends at cluster c by a reference. -/
def endWire (x c : Nat) (r : WireRef) : Option Wire :=
  (refWire x c r).filter (fun w => r.dist.val != 0 && w.reach == r.dist.val)

/-- The number of a wire start among the 152 of its cluster. -/
def startNumber (d : Dir) (n : WireLen) (k : Nat) : Nat := 38 * dirCode d + startsBelow n + k

/-- A length is one of 1, 2 and 4. -/
def shortLen : WireLen → Bool
  | .l12 => false
  | .l24 => false
  | _ => true

/-- An output of a logic cell may drive a wire start of its cluster: one of the 24 it reaches, and a long one only from a flip-flop (R118, R119). -/
def outMayDrive (l : Fin 16) (o : LcOut) (d : Dir) (n : WireLen) (k : Nat) : Bool :=
  (shortLen n || o == .q0 || o == .q1) && (List.finRange 24).any (fun j => (Config.lcReach l o j).val == startNumber d n k)

/-- The end of a wire may drive a wire start there: not one in the opposite direction, and a long one only from the lengths R118 lists (R119). -/
def endMayDrive (d : Dir) (n : WireLen) (d' : Dir) (n' : WireLen) : Bool :=
  d' != opposite d && (match n' with
    | .l12 => n == .l4 || n == .l12 || n == .l24
    | .l24 => n == .l12 || n == .l24
    | _ => true)

/-! ### Hasps -/

/-- The region of sector x. -/
def sectorRegion (s : State) (x : Nat) : Option Nat := if s.flag F.CFG_SECT.INRGN x then some (s.rd F.CFG_SECT.REGION x) else none

/-- The hasps between two sectors pass every signal: they are of one region, or both static (R121). -/
def haspsPass (s : State) (x y : Nat) : Bool :=
  ((sectorRegion s x).isSome && sectorRegion s x == sectorRegion s y) || (sectorStatic s x && sectorStatic s y)

/-- The sectors belong to two different tenants: the device holds the hasps between them closed, whatever the frames say (R121). -/
def tenantsApart (s : State) (x y : Nat) : Bool :=
  decide (sectorId s x < 16) && decide (sectorId s y < 16) && sectorId s x != sectorId s y

/-- The frames that set the hasps of sector x: while it is closed, those it was last released with, so that what it parks stays steady while
its frames are written (R337). -/
def haspFrames (s : State) (x : Nat) : List Frame :=
  ringFrames (if s.flag F.CFG_SECT.CLOSED x then releaseFrames s x else sectorFrames s x)

/-- The number of a hasp point's place in the device. -/
def haspKey (x : Nat) (h : Hasp) : Nat := ((4 * x + dirCode h.side) * 64 + h.along) * 160 + h.track

/-- The row or column along the boundary that a wire crosses. -/
def alongOf (d : Dir) (p : Nat × Nat) : Nat :=
  match d with
  | .east => p.1 % 64
  | .west => p.1 % 64
  | .north => p.2 % 32
  | .south => p.2 % 32

/-- The track of a wire between its places j and j + 1 (R118, R126). -/
def trackOf (w : Wire) (j : Nat) : Nat := tracksBelow w.len + lenSize w.len * w.k + j

/-- The outbound hasp between places j and j + 1 of a wire. -/
def outHasp (w : Wire) (j : Nat) : Hasp := ⟨w.dir, Fin.ofNat 64 (alongOf w.dir (w.spot j)), Fin.ofNat 160 (trackOf w j), true⟩

/-- The inbound one. -/
def inHasp (w : Wire) (j : Nat) : Hasp := { outHasp w j with side := opposite w.dir, out := false }

/-- The level that an outbound border pin of a closed sector parks (R336, R337). -/
def parkLevel (s : State) (x : Nat) (h : Hasp) : Park → Bool
  | .zero => false
  | .one => true
  | .hold => s.fab.parked.contains (haspKey x h)

/-- What level v becomes on the way through the hasps from sector x to sector y, where a hasp that passes nothing leaves `idle` behind it
(R121, R336). -/
def throughHasps (s : State) (x y : Nat) (ho hi : Hasp) (idle v : Bool) : Bool :=
  if tenantsApart s x y then idle
  else if haspsPass s x y then v
  else if (Config.borderPin (haspFrames s y) hi).isNone then idle
  else if s.flag F.CFG_SECT.CLOSED y then false
  else match Config.borderPin (haspFrames s x) ho with
    | some p => if s.flag F.CFG_SECT.CLOSED x then parkLevel s x ho p else v
    | none => idle

/-- The sector beside x on a side; none at the leaf's edge. -/
def sectorBeside (x : Nat) (d : Dir) : Option Nat :=
  match d with
  | .east => if x % 8 = 7 then none else some (x + 1)
  | .west => if x % 8 = 0 then none else some (x - 1)
  | .north => if x % 80 / 8 = 9 then none else some (x + 8)
  | .south => if x % 80 / 8 = 0 then none else some (x - 8)

/-- The length of a sector's side in clusters. -/
def sideLength (d : Dir) : Nat :=
  match d with
  | .east => 64
  | .west => 64
  | .north => 32
  | .south => 32

/-- The outbound hasp points of one side of a sector. -/
def sideHasps (d : Dir) : List Hasp :=
  (List.range (sideLength d)).flatMap (fun a => (List.finRange 160).map (fun t => ⟨d, Fin.ofNat 64 a, t, true⟩))

/-- The length and number of the wire on a track, and how many clusters it has come when it leaves the sector. -/
def trackWire (t : Nat) : WireLen × Nat × Nat :=
  match allLens.reverse.find? (fun n => decide (tracksBelow n ≤ t)) with
  | some n => (n, (t - tracksBelow n) / lenSize n, (t - tracksBelow n) % lenSize n)
  | none => (.l1, 0, 0)

/-- The cluster of a sector inside an outbound hasp point. -/
def haspCluster (h : Hasp) : Nat :=
  match h.side with
  | .east => 32 * h.along + 31
  | .west => 32 * h.along
  | .north => 32 * 63 + h.along % 32
  | .south => h.along % 32

end Sys2Proof.Machine
end

