-- ==== Sys2Proof/Machine/Levels.lean ====
section
/-! DEFINITION. The levels of the fabric's signals (R102–R106, R110–R113, R115–R122): what the registers of a moment put on the outputs of logic
cells, on the carry chains, the wires, the crossbars and the pins of hard elements. -/

namespace Sys2Proof.Machine
open Sys2Proof

/-! ### Logic cells -/

/-- A bit of a table. -/
def tbit (t : BitVec 128) (i : Nat) : Bool := t.getLsbD i

/-- O5, O6 and COUT of a logic cell outside the memory modes (R103, R104); `open_`: COUT where the cell forms none. -/
def lutOut (m : LutMode) (t : BitVec 128) (pins : BitVec 8) (cin open_ : Bool) : Bool × Bool × Bool :=
  match m with
  | .single => (tbit t (pins.toNat % 32), tbit t (pins.toNat % 64), open_)
  | .split => (tbit t (pins.toNat % 32), tbit t (32 + pins.toNat % 32), open_)
  | .arith =>
    let i := pins.toNat % 16
    let p0 := tbit t i
    let c1 := tbit t (16 + i) || (p0 && cin)
    let p1 := tbit t (32 + i)
    (p0 != cin, p1 != c1, tbit t (48 + i) || (p1 && c1))

/-- O5 and O6 of a memory LC in a memory mode (R111, R113); `o5`, `sel`: what the spec leaves open of a shift register's outputs. -/
def memOut (m : MemMode) (two64 : Bool) (t : BitVec 128) (pins : BitVec 8) (o5 sel : Bool) : Bool × Bool :=
  let i := pins.toNat % 64
  if m = .shift then (o5, if two64 then tbit t (if sel then 64 + i else i) else tbit t (if pins.getLsbD 7 then 64 + i else i))
  else (tbit t i, tbit t (64 + i))

/-- The cluster's place among all. -/
def clusterKey (x c : Nat) : Nat := 2048 * x + c

/-- A flip-flop's value (R106, R109). -/
def ffValue (s : State) (x c l f : Nat) : Bool :=
  match sget none s.fab.ff ((clusterKey x c * 16 + l) * 2 + f) with
  | some b => b
  | none =>
    let a := lcAt (releaseFrames s x) c l
    if f = 0 then a.ff0.init else a.ff1.init

/-- The table of memory LC 8 + k (R110, R114). -/
def lutTable (s : State) (x c k : Nat) : BitVec 128 :=
  match sget none s.fab.lut (clusterKey x c * 8 + k) with
  | some t => t
  | none => (lcAt (releaseFrames s x) c (8 + k)).table

/-! ### Registers of hard elements -/

/-- A slice's registers. -/
def sliceRec (s : State) (x i : Nat) : SliceRec := sget .zero s.fab.slice (40 * x + i)

/-- A block RAM port's record: side 0 is A, 1 is B. -/
def portRec (s : State) (b side : Nat) : BramPort := sget .zero s.fab.bram (2 * b + side)

/-- The outputs of a slice (R127), P from bit 0, then Q, PMATCH, PMATCHN, OVF, FLG and SATF. -/
def sliceOuts (r : SliceRec) : BitVec 128 :=
  BitVec.ofBool r.satf ++ r.flg ++ BitVec.ofBool r.ovf ++ BitVec.ofBool r.pmatchn ++ BitVec.ofBool r.pmatch ++ r.q ++ r.p

/-- DOUT from bit 0, CEF and UEF of a block RAM port (R145). -/
def ramOuts (a : PortAttr) (r : BramPort) : BitVec 74 :=
  let o := if a.oreg then r.out else r.latch
  BitVec.ofBool o.ue ++ BitVec.ofBool o.ce ++ o.data

/-- What an access port shows of a response (R90): KIND, CODE and the data in their lanes. -/
def answerShown : Answer → Nat × Nat × Line
  | .data d => (0, 0, d)
  | .poisoned d => (1, 0, d)
  | .ack => (2, 0, 0)
  | .error c _ => (3, c, 0)

/-- The outputs of access port a (R90): AP_CLOSED, REQ_READY, RSP_VALID, RSP_TXN, RSP_KIND, RSP_CODE and RSP_DATA, from bit 0 up. -/
def apOuts (s : State) (a : Nat) : BitVec 531 :=
  let closed := s.flag F.KRV_AP.CLOSED a
  let ready := !closed && roomAt s (.source (portEp a)) 0 1
  let first := (sget [] s.net.apStore a).head?
  let (kind, code, data) := (first.map (fun p => answerShown p.ans)).getD (0, 0, 0)
  data ++ BitVec.ofNat 8 code ++ BitVec.ofNat 2 kind ++ BitVec.ofNat 6 ((first.map (·.txn)).getD 0) ++ BitVec.ofBool first.isSome ++
    BitVec.ofBool ready ++ BitVec.ofBool closed

/-- The outputs of the sector-control interface (R117): MG_FI, the pads, and MG_EV, in sector 0. -/
def ctlOuts (s : State) (x : Nat) : BitVec 80 :=
  if x = 0 then s.pin.mgEv ++ BitVec.ofNat 64 (gather 64 (padLevel s)) else 0

/-- The level of an output pin of a hard element of sector x. -/
def hardOut (s : State) (x : Nat) (h : Hard) (pin : Nat) : Bool :=
  match h with
  | .slice i => (sliceOuts (sliceRec s x i)).getLsbD pin
  | .bram j =>
    let at_ := bramAt (sectorFrames s x) j
    let b := 16 * x + j
    (ramOuts at_.b (portRec s b 1) ++ ramOuts at_.a (portRec s b 0)).getLsbD pin
  | .port k => (apOuts s (2 * x + k)).getLsbD pin
  | .ctl => (ctlOuts s x).getLsbD pin

/-! ### Signals -/

/-- A signal of the fabric: an output of a logic cell, its COUT, an output of a cluster's crossbar, a wire after some clusters, and an input
pin of a hard element. -/
inductive Sig where
  | out (x c : Nat) (l : Fin 16) (o : LcOut)
  | cout (x c : Nat) (l : Fin 16)
  | cross (x c : Nat) (o : Fin 139)
  | wire (w : Wire) (d : Nat)
  | pin (x : Nat) (h : Hard) (pin : Nat)
deriving DecidableEq, Repr

/-- The number of a wire. -/
def wireKey (w : Wire) : Nat :=
  (((w.leaf * 640 + w.row) * 256 + w.col) * 4 + dirCode w.dir) * 64 + startsBelow w.len + w.k

/-- The number of an output of a logic cell. -/
def outCode : LcOut → Nat
  | .o5 => 0
  | .o6 => 1
  | .q0 => 2
  | .q1 => 3

/-- The number of a hard element in its sector. -/
def hardCode : Hard → Nat
  | .bram j => j
  | .slice i => 16 + i
  | .port k => 56 + k
  | .ctl => 58

/-- The number of a signal, for its open level. -/
def sigKey : Sig → Nat
  | .out x c l o => 8 * ((clusterKey x c * 16 + l) * 4 + outCode o)
  | .cout x c l => 8 * (clusterKey x c * 16 + l) + 1
  | .cross x c o => 8 * (clusterKey x c * 139 + o) + 2
  | .wire w d => 8 * (wireKey w * 32 + d) + 3
  | .pin x h p => 8 * ((x * 64 + hardCode h) * 1024 + p) + 4

/-- The level of a signal where the spec leaves it open (log entry 2). -/
def openLevel (s : State) (g : Sig) : Bool := Config.openSignal s.freeCtr (sigKey g)

/-- A level, or the open one of the signal. -/
def levelOr (s : State) (g : Sig) (v : Option Bool) : Bool := v.getD (openLevel s g)

/-! ### Crossbars and wires -/

/-- Input i of a crossbar (R115): the 80 taps, then O5, O6, Q0 and Q1 of each of the 16 logic cells. -/
def crossInput (x c : Nat) (i : Fin 144) : Option Sig :=
  if h : i.val < 80 then
    let r := Config.xbarTap ⟨i.val, h⟩
    (tapWire x c r).map (fun w => .wire w r.dist)
  else some (.out x c (Fin.ofNat 16 ((i - 80) / 4)) ([LcOut.o5, .o6, .q0, .q1].getD ((i - 80) % 4) .q1))

/-- The input that a crossbar output selects, of its 36 (R115). -/
def crossSource (s : State) (x c : Nat) (o : Fin 139) : Option Sig :=
  crossInput x c (Config.xbarInput o (Config.xbarSel (clusterFrame (sectorFrames s x) c) (upperRow c) o))

/-- What drives a wire (R118, R119): what its start's multiplexer has selected, where that may drive it. -/
def wireSource (s : State) (w : Wire) : Option (Sum Sig Bool) :=
  let x := w.sector 0
  let c := clusterAtSpot (w.row, w.col)
  match Config.wireSel (clusterFrame (sectorFrames s x) c) (upperRow c) w.dir w.len (Fin.ofNat 16 w.k) with
  | .none => none
  | .lc l o => if outMayDrive l o w.dir w.len w.k then some (.inl (.out x c l o)) else none
  | .wireEnd r => if endMayDrive r.dir r.len w.dir w.len then (endWire x c r).map (fun v => .inl (.wire v r.dist)) else none
  | .hard ctl p => (hardBeside c ctl).map (fun h => .inr (hardOut s x h p))

/-- The tap that an input pin of a hard element takes its level from (R116). -/
def pinSource (s : State) (x : Nat) (h : Hard) (p : Nat) : Option Sig :=
  let (row, n, col) := hardPlace h
  let t := Config.hardTap (hardFrames (sectorFrames s x) h) (if h = .ctl then 4096 + p else p)
  (tapWire x (32 * (row + t.row % n) + col + b2n t.right) t.wire).map (fun w => .wire w t.wire.dist)

/-- A level put on a wire, after d clusters: through the hasps of every sector boundary it has crossed (R121). -/
def alongWire (s : State) (w : Wire) (d : Nat) (v : Bool) : Bool :=
  (List.range (min d w.reach)).foldl (fun v j =>
    let x := w.sector j
    let y := w.sector (j + 1)
    if x = y then v else throughHasps s x y (outHasp w j) (inHasp w j) (openLevel s (.wire w (j + 1))) v) v

/-! ### Clusters -/

/-- The cluster's memory LC l takes its shift input and its BX from the last bit of the LC before (R113). -/
def bxLinked (s : State) (x c : Nat) (l : Fin 16) : Bool :=
  decide (9 ≤ l.val) && (clusterAt (sectorFrames s x) c).mem == .shift && (lcAt (sectorFrames s x) c l).linked

/-- The last bit of the shift register of LC l; of two registers in one LC the spec does not say which (log entry 40). -/
def lastBit (s : State) (x c : Nat) (l : Fin 16) : Bool :=
  let t := lutTable s x c (l - 8)
  if (lcAt (sectorFrames s x) c l).two64 && openLevel s (.out x c l .q1) then tbit t 63 else tbit t 127

/-- Pin i of LC l, A to F, BX and BY: the crossbar's, or for BX the dedicated link's. -/
def pinLevel (ask : Sig → Bool) (s : State) (x c : Nat) (l : Fin 16) (i : Nat) : Bool :=
  if i = 6 ∧ bxLinked s x c l then lastBit s x c (l - 1) else ask (.cross x c (Fin.ofNat 139 (8 * l + i)))

/-- The pins of LC l. -/
def lcPinsNow (ask : Sig → Bool) (s : State) (x c : Nat) (l : Fin 16) : BitVec 8 := BitVec.ofNat 8 (gather 8 (pinLevel ask s x c l))

/-- CIN of LC l (R105): COUT of the LC below it, of the cluster one row below for LC0 of a chain that goes on, or what the chain begins with.  A
chain never crosses a sector boundary: row 0 has no cluster below. -/
def carryIn (ask : Sig → Bool) (s : State) (x c : Nat) (l : Fin 16) : Bool :=
  if l = 0 then
    match (clusterAt (sectorFrames s x) c).cin with
    | .zero => false
    | .one => true
    | .bx => pinLevel ask s x c 0 6
    | .chain => if c < 32 then false else ask (.cout x (c - 32) 15)
  else ask (.cout x c (l - 1))

/-- O5, O6 and COUT of LC l (R103, R104, R111). -/
def lcOuts (ask : Sig → Bool) (s : State) (x c : Nat) (l : Fin 16) : Bool × Bool × Bool :=
  let a := clusterAt (sectorFrames s x) c
  let la := lcAt (sectorFrames s x) c l
  let pins := lcPinsNow ask s x c l
  if 8 ≤ l.val ∧ a.mem ≠ .logic then
    let (o5, o6) := memOut a.mem la.two64 (lutTable s x c (l - 8)) pins (openLevel s (.out x c l .o5)) (openLevel s (.out x c l .o6))
    (o5, o6, openLevel s (.cout x c l))
  else lutOut la.mode la.table pins (carryIn ask s x c l) (openLevel s (.cout x c l))

/-! ### Levels -/

/-- The level of a signal, from those of the signals it depends on. -/
def levelFrom (ask : Sig → Bool) (s : State) (g : Sig) : Bool :=
  match g with
  | .out x c l o =>
    (match o with
    | .o5 => (lcOuts ask s x c l).1
    | .o6 => (lcOuts ask s x c l).2.1
    | .q0 => ffValue s x c l 0
    | .q1 => ffValue s x c l 1)
  | .cout x c l => (lcOuts ask s x c l).2.2
  | .cross x c o => levelOr s g ((crossSource s x c o).map ask)
  | .wire w d =>
    alongWire s w d (match wireSource s w with
      | some (.inl f) => ask f
      | some (.inr v) => v
      | none => openLevel s (.wire w 0))
  | .pin x h p => levelOr s g ((pinSource s x h p).map ask)

/-- The level of a signal through at most n others; beyond them, which only a combinational loop reaches, it is open. -/
def levelIn : Nat → State → Sig → Bool
  | 0, s, g => openLevel s g
  | n + 1, s, g => levelFrom (levelIn n s) s g

/-- More signals than any path without a loop passes. -/
def signalFuel : Nat := 1000000000

/-- The level of a signal. -/
def level (s : State) (g : Sig) : Bool := levelIn signalFuel s g

/-- The levels of n input pins of a hard element, from pin p up. -/
def pinBits (s : State) (x : Nat) (h : Hard) (p n : Nat) : Nat := gather n (fun k => level s (.pin x h (p + k)))

/-! ### Local clock lines and the MG signals -/

/-- Local clock line j of sector x is high: the crossbar output of cluster row 0 that the frames make its driver is 1 (R122). -/
def lckLevel (s : State) (x : Nat) (j : Fin 4) : Bool :=
  match Config.lckDriver (ringFrames (sectorFrames s x)) j with
  | some (c, o) => level s (.cross x c o)
  | none => false

/-- The local clock lines of the sectors of `xs` are seen as they stand. -/
def seeLocal (xs : List Nat) (s : State) : State :=
  let high := xs.flatMap (fun x => ((List.finRange 4).filter (lckLevel s x)).map (fun j => 4 * x + j.val))
  { s with fab := { s.fab with lckHigh := s.fab.lckHigh.filter (fun k => !xs.contains (k / 4)) ++ high } }

/-- The local clock lines that have fallen are seen low. -/
def seeFalls (s : State) : State :=
  { s with fab := { s.fab with lckHigh := s.fab.lckHigh.filter (fun k => lckLevel s (k / 4) (Fin.ofNat 4 k)) } }

/-- MG_FO and MG_FOE pass their synchronisers (R117); when they have passed is not a command's: after each edge and release (log entry 208). -/
def sampleMg (s : State) : State :=
  { s with pin := { s.pin with
    mgFo := BitVec.ofNat 64 (pinBits s 0 .ctl 4 64)
    mgFoe := BitVec.ofNat 64 (pinBits s 0 .ctl 68 64) } }

/-! ### Parking -/

/-- The outbound border pins of sector x that carry a 1 and are to hold it (R337), by number. -/
def heldHigh (s : State) (x : Nat) : List Nat :=
  allDirs.flatMap (fun d => match sectorBeside x d with
    | none => []
    | some y =>
      if haspsPass s x y then []
      else (sideHasps d).filterMap (fun h =>
        let (n, k, j) := trackWire h.track
        if Config.borderPin (ringFrames (sectorFrames s x)) h = some .hold &&
            (refWire x (haspCluster h) ⟨d, n, Fin.ofNat 16 k, Fin.ofNat 25 j⟩).any (fun w => level s (.wire w j)) then
          some (haspKey x h)
        else none))

/-- The sectors of `xs` that are open take the values that their outbound border pins hold while they are closed (R337). -/
def holdPins (xs : List Nat) (s : State) : State :=
  let closing := xs.filter (fun x => !s.flag F.CFG_SECT.CLOSED x)
  let kept := s.fab.parked.filter (fun k => !closing.contains (k / 40960))
  { s with fab := { s.fab with parked := kept ++ closing.flatMap (heldHigh s) } }

end Sys2Proof.Machine
end

