-- ==== Sys2Proof/Machine/Fabric.lean ====
section
/-! DEFINITION. The fabric (R102–R141, R144–R147): what one edge of a sector clock line does to the logic cells, slices and block RAMs of the sector,
whose pins carry the levels of Levels. -/

namespace Sys2Proof.Machine
open Sys2Proof

/-! ### Logic cells -/

/-- The flip-flop after an edge of clock line `line` (R107, R108); `rel`: SR is released inside the window; `pick`: the open choice. -/
def ffNext (a : CtlAttr) (line : Nat) (ce sr rel pick srval cur d : Bool) : Bool :=
  let s := a.useSr && sr
  let captured := if !a.useCe || ce then d else cur
  if a.async then
    (if s then srval else if a.clk ≠ line then cur else if rel && pick then srval else captured)
  else if a.clk ≠ line then cur
  else if s then srval
  else captured

/-- The pins of cluster c as an edge finds them; `late` is the command's. -/
def clusterPins (s : State) (x c : Nat) (late : List (Nat × Bool)) : ClusterPins :=
  let ctl (k : Nat) : Bool := level s (.cross x c (Fin.ofNat 139 (128 + k)))
  ⟨(List.finRange 16).map (lcPinsNow (level s) s x c), ctl 0, ctl 1, ctl 2, ctl 3, ctl 4, BitVec.ofNat 6 (gather 6 (fun k => ctl (5 + k))),
    late.contains (c, false), late.contains (c, true)⟩

/-- The pins of LC l. -/
def lcPins (p : ClusterPins) (l : Nat) : BitVec 8 := p.lc.getD l 0

/-- The table of memory LC 8 + k after an edge of the control-set 0 clock (R111–R113); a linked LC's BX is the last bit of the LC before. -/
def lutNext (s : State) (x c : Nat) (a : ClusterAttr) (p : ClusterPins) (k : Nat) : BitVec 128 :=
  let t := lutTable s x c k
  let put (src : Nat) : BitVec 128 :=
    let d := lcPins p (8 + src)
    let w := p.wa.toNat
    let clear := t &&& ~~~(BitVec.ofNat 128 (2 ^ w + 2 ^ (64 + w)))
    clear ||| BitVec.ofNat 128 (b2n (d.getLsbD 6) * 2 ^ w + b2n (d.getLsbD 7) * 2 ^ (64 + w))
  let ce := !a.ctl0.useCe || p.ce0
  match a.mem with
  | .logic => t
  | .sp => if p.we && ce then put k else t
  | .sdp => if p.we && ce then put (k % 4) else t
  | .qdp => if p.we && ce then put (k % 2) else t
  | .shift =>
    if ce then
      let bx := (lcPins p (8 + k)).getLsbD 6
      if (lcAt (sectorFrames s x) c (8 + k)).two64 then
        let lo := ((t.setWidth 64) <<< 1) ||| BitVec.ofNat 64 (b2n bx)
        let hi := (((t >>> 64).setWidth 64) <<< 1) ||| BitVec.ofNat 64 (b2n ((lcPins p (8 + k)).getLsbD 7))
        ((hi.setWidth 128) <<< 64) ||| lo.setWidth 128
      else (t <<< 1) ||| BitVec.ofNat 128 (b2n bx)
    else t

/-- A flip-flop after the edge, given the LUT output that may feed it; `pick`: the open choice of R108. -/
def ffAfter (s : State) (x c line : Nat) (a : ClusterAttr) (p : ClusterPins) (l f : Nat) (o pick : Bool) : Bool :=
  let la := lcAt (sectorFrames s x) c l
  let fa := if f = 0 then la.ff0 else la.ff1
  let d := if fa.bypass then (lcPins p l).getLsbD (6 + f) else o
  let cur := ffValue s x c l f
  if fa.ctl1 then ffNext a.ctl1 line p.ce1 p.sr1 p.rel1 pick fa.srval cur d
  else ffNext a.ctl0 line p.ce0 p.sr0 p.rel0 pick fa.srval cur d

/-- A flip-flop takes a value. -/
def setFf (x c l f : Nat) (v : Bool) (s : State) : State :=
  { s with fab := { s.fab with ff := sset none s.fab.ff ((clusterKey x c * 16 + l) * 2 + f) (some v) } }

/-- The flip-flops of LC l after the edge, given O5 and O6; `s` is the state before it. -/
def lcEdge (s : State) (x c line : Nat) (a : ClusterAttr) (p : ClusterPins) (l : Fin 16) (t : State) : State :=
  let o := lcOuts (level s) s x c l
  let pick (f : Nat) : Bool := Config.freeBit (s.freeCtr + 2 * (16 * clusterKey x c + l) + f)
  let one (f : Nat) (v : Bool) (t : State) : State := if v = ffValue s x c l f then t else setFf x c l f v t
  one 1 (ffAfter s x c line a p l 1 o.2.1 (pick 1)) (one 0 (ffAfter s x c line a p l 0 o.1 (pick 0)) t)

/-- An edge of a clock line at cluster c of sector x; `s` is the state before the edge. -/
def clusterEdge (s : State) (x line c : Nat) (late : List (Nat × Bool)) (t : State) : State :=
  let a := clusterAt (sectorFrames s x) c
  let p := clusterPins s x c late
  let t1 := (List.finRange 16).foldl (fun t l => lcEdge s x c line a p l t) t
  if a.mem = .logic ∨ a.ctl0.clk ≠ line then t1
  else (List.range 8).foldl (fun t k =>
    { t with fab := { t.fab with lut := sset none t.fab.lut (clusterKey x c * 8 + k) (some (lutNext s x c a p k)) } }) t1

/-! ### Arithmetic slices -/

/-- A number from the low n bits of an operand (R128). -/
def operandInt (sg : Bool) (n v : Nat) : Int := if sg then toSigned n v else ((v % 2 ^ n : Nat) : Int)

/-- Lanes, their operand width, and the width of their lane of P and of C (R128, R132). -/
def laneShape (m : SliceMode) : Nat × Nat × Nat × Nat :=
  match m with
  | .m12x2 => (2, 12, 36, 24)
  | .m8x4 => (4, 8, 18, 12)
  | _ => (1, 24, 72, 48)

/-- The product of lane k (R128, R129). -/
def laneProduct (a : SliceAttr) (o : SliceOp) (k : Nat) : Int :=
  let w := (laneShape a.mode).2.1
  let b := operandInt a.bsgn w (o.x.b.toNat >>> (w * k))
  if a.mode = .m24 ∧ a.preadd then
    let d := operandInt true 24 o.x.d.toNat
    let n := operandInt true 24 o.a.toNat
    (if o.x.psub then d - n else d + n) * b
  else operandInt a.asgn w (o.a.toNat >>> (w * k)) * b

/-- The product term, or the sum of the lane products. -/
def productTerm (a : SliceAttr) (o : SliceOp) : Int :=
  (List.range (laneShape a.mode).1).foldl (fun n k => n + laneProduct a o k) 0

/-- C extended to 72 bits (R131). -/
def cExt (a : SliceAttr) (c : BitVec 48) : BitVec 72 := if a.csgn then c.signExtend 72 else c.setWidth 72

/-- What a load of P leaves: P, OVF and FLG. -/
def loadLane (sg sub : Bool) (w : Nat) (z : Nat) (t : Int) : Nat × Bool :=
  let zi := operandInt sg w z
  let v := if sub then zi - t else zi + t
  (ofSigned w v, if sg then !inSigned w v else decide (v < 0) || decide ((2 ^ w : Int) ≤ v))

/-- The integer load of P (R131–R133).  A term shifted right arithmetically is not zero-extended, so its load has a signed result. -/
def intLoad (a : SliceAttr) (o : SliceOp) (zsel : Nat) (p casc : BitVec 72) : BitVec 72 × Bool :=
  let simd := a.simd && decide (a.mode ≠ .m24)
  let (n, _, w, cw) := if simd then laneShape a.mode else (1, 24, 72, 48)
  let lanes := (List.range n).map (fun k =>
    let c := operandInt a.csgn cw (o.x.c.toNat >>> (cw * k))
    let t : Int := match o.x.msel.toNat with
      | 1 => if simd then laneProduct a o k else productTerm a o
      | 2 => c
      | _ => 0
    let z : BitVec 72 := match zsel with
      | 1 => p
      | 2 => BitVec.ofNat 72 (ofSigned w c * 2 ^ (w * k))
      | 3 => casc
      | 4 => if simd then 0 else casc.sshiftRight 24
      | 5 => if simd then 0 else p.sshiftRight 24
      | _ => 0
    let sg := (o.x.msel = 1 && (a.asgn || a.bsgn)) || ((o.x.msel = 2 || zsel = 2) && a.csgn) || (!simd && (zsel == 4 || zsel == 5))
    loadLane sg o.x.sub w (z.toNat / 2 ^ (w * k) % 2 ^ w) t)
  (BitVec.ofNat 72 ((lanes.zip (List.range n)).foldl (fun v e => v + e.1.1 * 2 ^ (w * e.2)) 0), lanes.any (·.2))

/-- A floating-point operand (R136). -/
def fpOperand (a : SliceAttr) (v : BitVec 32) : FpVal :=
  match a.fmt with
  | .fp32 => fpDecode 8 23 a.ftz v.toNat
  | .fp16 => fpDecode 5 10 a.ftz (v.toNat % 2 ^ 16)
  | .bf16 => fpDecode 8 7 a.ftz (v.toNat % 2 ^ 16)

/-- The floating-point load of P (R136, R137). -/
def fpLoad (a : SliceAttr) (o : SliceOp) (zsel : Nat) (p casc : BitVec 72) : FpRes :=
  let z : Nat := match zsel with
    | 1 => p.toNat % 2 ^ 32
    | 2 => o.x.c.toNat % 2 ^ 32
    | 3 => casc.toNat % 2 ^ 32
    | _ => 0
  let zv := fp32 a.ftz z
  if o.x.msel = 1 then fpFma a.frnd a.ftz true o.x.sub zv (fpOperand a o.a) (fpOperand a o.x.b)
  else
    let t := fp32 a.ftz (if o.x.msel = 2 then o.x.c.toNat % 2 ^ 32 else 0)
    fpAdd a.frnd a.ftz true zv (if o.x.sub then fpNeg t else t)

/-- The formatter (R134): Q and SATF. -/
def formatP (a : SliceAttr) (p : BitVec 72) : BitVec 48 × Bool :=
  if a.mode = .fp ∨ (a.simd ∧ a.mode ≠ .m24) then (0, false)
  else
    let r := shiftRound a.rmode a.rshift (toSigned 72 p.toNat)
    if a.sat then
      let v := satSigned a.width r
      (BitVec.ofNat 48 (ofSigned 48 v), v != r)
    else (BitVec.ofNat 48 (ofSigned 48 (toSigned a.width (ofSigned a.width r))), false)

/-- Stage P, the outputs that load with it, and Q (R130, R131, R135, R139).  FLG after an integer load is 0: the spec gives it for floating-point
results only (DESIGN CHOICE, unsafe: log entry 204). -/
def loadP (a : SliceAttr) (o : SliceOp) (casc : BitVec 72) (r : SliceRec) : SliceRec :=
  let hit := match a.autorst with
    | .none => false
    | .onMatch => r.pmatch
    | .onMatchN => r.pmatchn
  let zsel := if hit then 0 else o.x.zsel.toNat
  let (q, sat) := formatP a r.p
  let pat := if a.patsrc then cExt a o.x.c else a.pattern
  let base := { r with q := q, satf := sat }
  let shown (v : SliceRec) : SliceRec :=
    { v with pmatch := (v.p ^^^ pat) &&& ~~~a.pmask == 0, pmatchn := (v.p ^^^ ~~~pat) &&& ~~~a.pmask == 0 }
  if a.mode = .fp then
    let f := fpLoad a o zsel r.p casc
    let g := BitVec.ofNat 4 (b2n f.invalid + 2 * b2n f.overflow + 4 * b2n f.underflow + 8 * b2n f.inexact)
    shown { base with p := BitVec.ofNat 72 f.bits, ovf := f.overflow, flg := g }
  else
    let v := intLoad a o zsel r.p casc
    shown { base with p := v.1, ovf := v.2, flg := 0 }

/-- A slice at an edge of its clock: the operand A it samples, its other pins, and CASC_IN (R130, R139). -/
def sliceNext (a : SliceAttr) (pins : SlicePins) (aIn : BitVec 32) (casc : BitVec 72) (r : SliceRec) : SliceRec :=
  if pins.rst then .zero
  else
    let live : SliceIn := ⟨pins.b, pins.d, pins.c, pins.msel, pins.zsel, pins.sub, pins.psub⟩
    let fp := decide (a.mode = .fp)
    let opI : SliceOp :=
      ⟨if a.adepth = 0 then aIn else if a.adepth = 1 then r.a1 else r.a2, if a.stgI || fp then r.inn else live⟩
    let opPs := if a.mode = .m24 ∧ a.preadd ∧ a.stgPs then r.ps else opI
    let opM := if a.stgM || fp then r.m else opPs
    let opP := if fp then r.al else opM
    let r1 := if pins.ceP then loadP a opP casc r else r
    let r2 := if pins.ceM then { r1 with m := opPs, al := opM } else r1
    let r3 := if pins.cePs then { r2 with ps := opI } else r2
    if pins.ceI then { r3 with a1 := aIn, a2 := r.a1, inn := live } else r3

/-- The input pins of slice i, in the order of R127: the clock enables, RST, A, B, D, C, MSEL, ZSEL, SUB and PSUB. -/
def slicePins (s : State) (x i : Nat) : SlicePins :=
  let v (p n : Nat) : Nat := pinBits s x (.slice i) p n
  let b (p : Nat) : Bool := v p 1 == 1
  ⟨b 0, b 1, b 2, b 3, b 4, BitVec.ofNat 32 (v 5 32), BitVec.ofNat 32 (v 37 32), BitVec.ofNat 24 (v 69 24), BitVec.ofNat 48 (v 93 48),
    BitVec.ofNat 2 (v 141 2), BitVec.ofNat 3 (v 143 3), b 146, b 147⟩

/-- Operand A as slice 20 × column + j samples it, its own pins or OCIN, the lower slices followed for `n` steps (R138). -/
def sliceA (s : State) (x : Nat) : Nat → Nat → BitVec 32
  | 0, _ => 0
  | n + 1, i =>
    if !(sliceAt (sectorFrames s x) i).acasc then (slicePins s x i).a
    else if i % 20 = 0 then 0
    else
      let b := sliceAt (sectorFrames s x) (i - 1)
      if 36 ≤ b.clk then 0
      else if b.adepth = 0 then sliceA s x n (i - 1)
      else if b.adepth = 1 then (sliceRec s x (i - 1)).a1 else (sliceRec s x (i - 1)).a2

/-- CASC_IN of a slice (R138). -/
def sliceCasc (s : State) (x i : Nat) : BitVec 72 :=
  if i % 20 = 0 ∨ 36 ≤ (sliceAt (sectorFrames s x) (i - 1)).clk then 0 else (sliceRec s x (i - 1)).p

/-- An edge of a clock line at a slice; `s` is the state before the edge. -/
def sliceEdge (s : State) (x line i : Nat) (t : State) : State :=
  let a := sliceAt (sectorFrames s x) i
  if a.clk ≠ line then t
  else
    let r := sliceNext a (slicePins s x i) (sliceA s x 20 i) (sliceCasc s x i) (sliceRec s x i)
    { t with fab := { t.fab with slice := sset .zero t.fab.slice (40 * x + i) r } }

/-! ### Block RAM ports -/

/-- The word a port addresses, and the place and length of its bits in it (R144). -/
def portPlace (ecc : Bool) (a : PortAttr) (addr : Nat) : Nat × Nat × Nat :=
  if ecc then (addr % 1024, 0, 72)
  else
    let per := if a.width < 9 then 64 / a.width else 72 / a.width
    (addr / per % 1024, a.width * (addr % per), a.width)

/-- The bits of its word that a port writes (R144).  WEx[0] serves the widths 1, 2, 4 and 9, for which the table names no enable (DESIGN CHOICE,
unsafe: log entry 197). -/
def portMask (ecc : Bool) (a : PortAttr) (p : PortPins) : BitVec 72 :=
  let (_, lo, n) := portPlace ecc a p.addr.toNat
  if ecc then (if p.we.getLsbD 0 then BitVec.allOnes 72 else 0)
  else if n ≤ 9 then (if p.we.getLsbD 0 then BitVec.ofNat 72 ((2 ^ n - 1) * 2 ^ lo) else 0)
  else BitVec.ofNat 72 ((bitsOf p.we.toNat (n / 9)).foldl (fun v k => v + 511 * 2 ^ (lo + 9 * k)) 0)

/-- What a port's outputs show of a word (R144, R147). -/
def portShows (ecc : Bool) (a : PortAttr) (addr : Nat) (w : Codeword) : BramOut :=
  if ecc then
    let c := classifyWord 72 w
    ⟨((wordData 72 w).setWidth 64).setWidth 72, c != .clean && c != .uncorrectable, c == .uncorrectable⟩
  else
    let (_, lo, n) := portPlace false a addr
    ⟨BitVec.ofNat 72 (w.toNat / 2 ^ lo % 2 ^ n), false, false⟩

/-- The word a read returns: what stood before a write of the other port less than tCOLL ago (R146). -/
def readCode (s : State) (b side w : Nat) (close : Bool) : Codeword :=
  let o := portRec s b (1 - side)
  if close && decide (o.lastWord = w) && o.lastMask != 0 then o.lastOld else memCode s .bram b w

/-- The codeword that a port writes over a word. -/
def portCode (ecc : Bool) (a : PortAttr) (p : PortPins) (mask : BitVec 72) (old : Codeword) : Codeword :=
  if ecc then encodeWord 72 ((p.din.setWidth 64).setWidth 128)
  else
    let (_, lo, _) := portPlace false a p.addr.toNat
    (((old.setWidth 72 &&& ~~~mask) ||| ((p.din <<< lo) &&& mask))).setWidth 137

/-- The 9-bit bytes in which a mask has a bit; in ECC mode the whole word (R146). -/
def byteSpan (ecc : Bool) (m : BitVec 72) : BitVec 72 :=
  if ecc then (if m = 0 then 0 else BitVec.allOnes 72)
  else BitVec.ofNat 72 ((List.range 8).foldl (fun v k => if m.extractLsb' (9 * k) 9 = 0 then v else v + 511 * 2 ^ (9 * k)) 0)

/-- The bytes of a span that the open choice gives to the other port; in ECC mode the word has one (R146). -/
def lostBytes (s : State) (ecc : Bool) (span : BitVec 72) : BitVec 72 :=
  let lost (k : Nat) : Bool := Config.freeBit (s.freeCtr + k)
  if ecc then (if lost 0 then span else 0)
  else BitVec.ofNat 72 ((List.range 8).foldl (fun v k => if lost k then v + 511 * 2 ^ (9 * k) else v) 0) &&& span

/-- The bits that a port writes at an edge; none where it is not enabled or its block RAM is unusable (R144, R154). -/
def activeMask (s : State) (b : Nat) (ecc : Bool) (a : PortAttr) (p : PortPins) : BitVec 72 :=
  if p.en && usable s .bram b then portMask ecc a p else 0

/-- The write of a port (R146).  `taken`: the bytes that the other port writes at this very edge.  Where the other port's edge was less than tCOLL ago
and both write a byte, the byte is one port's: this one's over what stood before both, or the other's as it stands. -/
def portWrite (b side : Nat) (ecc : Bool) (a : PortAttr) (p : PortPins) (taken : BitVec 72) (s : State) : State :=
  let (w, _, _) := portPlace ecc a p.addr.toNat
  let m0 := activeMask s b ecc a p &&& ~~~taken
  if m0 == 0 then s
  else
    let o := portRec s b (1 - side)
    let both := if p.close && decide (o.lastWord = w) then byteSpan ecc m0 &&& byteSpan ecc o.lastMask else 0
    let lost := lostBytes s ecc both
    let won := both &&& ~~~lost
    let s1 := if p.close then { s with freeCtr := s.freeCtr + 8 } else s
    let m := m0 &&& ~~~lost
    let cur := memCode s1 .bram b w
    let old : Codeword := if ecc then cur else ((cur.setWidth 72 &&& ~~~won) ||| (o.lastOld.setWidth 72 &&& won)).setWidth 137
    if m = 0 then s1 else setCode .bram b w (portCode ecc a p m old) s1

/-- A port's registers after an edge; `s` is the state before it (R145, R146).  After a write that an unusable block RAM ignores, WROUT = NEW shows the
word as it would have been written, with UEF 0: R154 speaks of reads only (DESIGN CHOICE, unsafe: log entry 199). -/
def portNext (s : State) (b side : Nat) (ecc : Bool) (a : PortAttr) (p : PortPins) : BramPort :=
  let r := portRec s b side
  let (w, _, _) := portPlace ecc a p.addr.toNat
  let mask := portMask ecc a p
  let seen := if usable s .bram b then portShows ecc a p.addr.toNat (readCode s b side w p.close) else ⟨0, false, true⟩
  let taken : BramOut :=
    if !p.en then r.latch
    else if mask = 0 then seen
    else match a.wrout with
      | .old => seen
      | .new => portShows ecc a p.addr.toNat (portCode ecc a p mask (memCode s .bram b w))
      | .hold => r.latch
  let rstOut : BramOut := ⟨a.rstval, false, false⟩
  { r with
    latch := if p.rst && !a.oreg then rstOut else taken
    out := if p.rst && a.oreg then rstOut else r.latch
    lastWord := if p.en then w else r.lastWord
    lastOld := if p.en then memCode s .bram b w else r.lastOld
    lastMask := if p.en then mask else 0 }

/-- A corrected read posts its word (R147). -/
def portPosts (s : State) (b side : Nat) (ecc : Bool) (a : PortAttr) (p : PortPins) (t : State) : State :=
  let (w, _, _) := portPlace ecc a p.addr.toNat
  if ecc && p.en && (portMask ecc a p == 0 || a.wrout = .old) && scrubOn s .bram b &&
      (portShows ecc a p.addr.toNat (readCode s b side w p.close)).ce then postDirected .bram b w t
  else t

/-- The input pins of a port of block RAM j (R145): EN, WE, ADDR, DIN and RST of side 0 from pin 0, of side 1 from pin 99. -/
def ramPins (s : State) (x j side : Nat) (close : Bool) : PortPins :=
  let v (p n : Nat) : Nat := pinBits s x (.bram j) (99 * side + p) n
  ⟨v 0 1 == 1, BitVec.ofNat 9 (v 1 9), BitVec.ofNat 16 (v 10 16), BitVec.ofNat 72 (v 26 72), v 98 1 == 1, close⟩

/-- Both ports of a block RAM at an edge, those that it clocks: both see the array as it was; of a byte that both write, port A's is stored
(R146). -/
def bramPorts (b : Nat) (ecc : Bool) (at_ : BramAttr) (pa pb : Option PortPins) (s t : State) : State :=
  let word (a : PortAttr) (p : PortPins) : Nat := (portPlace ecc a p.addr.toNat).1
  let port (side : Nat) (a : PortAttr) (p : Option PortPins) (t : State) : State :=
    match p with
    | none => t
    | some q =>
      let t1 := portPosts s b side ecc a q t
      { t1 with fab := { t1.fab with bram := sset .zero t1.fab.bram (2 * b + side) (portNext s b side ecc a q) } }
  let write (side : Nat) (a : PortAttr) (p : Option PortPins) (taken : BitVec 72) (t : State) : State :=
    match p with
    | none => t
    | some q => portWrite b side ecc a q taken t
  let taken : BitVec 72 := match pa, pb with
    | some q, some r => if word at_.a q = word at_.b r then byteSpan ecc (activeMask s b ecc at_.a q) else 0
    | _, _ => 0
  port 0 at_.a pa (port 1 at_.b pb (write 0 at_.a pa 0 (write 1 at_.b pb taken t)))

/-- An edge of a clock line at block RAM j of sector x; `s` is the state before the edge. -/
def bramEdge (s : State) (x line j : Nat) (close : List (Nat × Bool)) (t : State) : State :=
  let at_ := bramAt (sectorFrames s x) j
  let b := 16 * x + j
  let pins (a : PortAttr) (side : Nat) : Option PortPins :=
    if a.clk = line then some (ramPins s x j side (close.contains (j, side == 1))) else none
  bramPorts b (s.flag F.MEM_BRAM.ECCON b) at_ (pins at_.a 0) (pins at_.b 1) s t

/-! ### The edge -/

/-- The sector's clock lines reach its elements: it is powered and open (R53, R109). -/
def sectorRuns (s : State) (x : Nat) : Bool := domOn s (sectorDom x) && !s.flag F.CFG_SECT.CLOSED x

/-- The gate of sector x on global network n is open (R53). -/
def gateOpen (s : State) (x n : Nat) : Bool := sectorRuns s x && (Config.sectorNets (ringFrames (sectorFrames s x))).getLsbD n

/-- An edge of clock line `line` of sector x at every element of the sector (R126): each takes what its pins and its registers carried before the
edge. -/
def fabricEdge (x line : Nat) (e : EdgePins) (s : State) : State :=
  let s0 := e.flips.foldl (fun t f => flipCode .bram (16 * x + f.1) f.2.1 f.2.2 t) s
  let s1 := (List.range 2048).foldl (fun t c => clusterEdge s0 x line c e.late t) s0
  let s2 := (List.range 40).foldl (fun t i => sliceEdge s0 x line i t) s1
  let s3 := { s2 with freeCtr := s2.freeCtr + 65536 * (x + 1) }
  sampleMg (seeFalls ((List.range 16).foldl (fun t j => bramEdge s0 x line j e.close t) s3))

/-- Local clock line j of sector x has a rising edge: its driver is high, and was last seen low (R122). -/
def lckRises (s : State) (x : Nat) (j : Fin 4) : Bool := !s.fab.lckHigh.contains (4 * x + j) && lckLevel s x j

/-- The line is seen high. -/
def noteHigh (x : Nat) (j : Fin 4) (s : State) : State := { s with fab := { s.fab with lckHigh := s.fab.lckHigh ++ [4 * x + j.val] } }

/-- FABRIC_CLOCK_EDGE: a global network's edge reaches the sector through its open gate at a multiple of the divisor (R48, R49, R53); a local
line's when its driver rises (R122). -/
def execFabricClockEdge (x : Fin 320) (line : Fin 36) (pins : EdgePins) (s : State) : Host.Outcome State Fault Refusal :=
  done (if line.val < 32 then
      guarded (gateOpen s x line && netTicks s line) s (fun s => fabricEdge x line pins (noteEdge x line s))
    else
      let j := Fin.ofNat 4 line.val
      guarded (sectorRuns s x && lckRises s x j) s (fun s => fabricEdge x line pins (noteHigh x j s)))

/-- The sectors of `p` come out of a load: flip-flops take INIT, tables what the frames gave them, and slices and block RAM ports are
reset (R109, R139). -/
def fabricRelease (p : Nat → Bool) (s : State) : State :=
  let rel := s.cfg.frames.foldl (fun l e => if p (e.1 / 1280) then sset 0 l e.1 e.2 else l)
    (s.fab.relFrames.filter (fun e => !p (e.1 / 1280)))
  { s with fab := { s.fab with
      relFrames := rel
      ff := s.fab.ff.filter (fun e => !p (e.1 / 65536))
      lut := s.fab.lut.filter (fun e => !p (e.1 / 16384))
      slice := s.fab.slice.filter (fun e => !p (e.1 / 40))
      bram := s.fab.bram.filter (fun e => !p (e.1 / 32))
      parked := s.fab.parked.filter (fun k => !p (k / 40960)) } }

end Sys2Proof.Machine
end

