-- ==== Sys2Proof/Machine/Links.lean ====
section
/-! DEFINITION. Serial lanes and link ports (R225–R249). -/

namespace Sys2Proof.Machine
open Sys2Proof

/-! ### Lanes, heads and PLLs -/

/-- CLK_LREF_STAT.PRESENT of port p. -/
def lrefPresent (s : State) (p : Nat) : Bool := nbit (s.rd F.CLK_LREF_STAT.PRESENT 0) p

/-- The lanes of head n, as device lanes (R225). -/
def headLanes (s : State) (n : Nat) : List Nat :=
  let p := n / 2
  if s.flag F.LNK_PCFG.X8X2 p then (List.range 8).map (fun l => 16 * p + 8 * (n % 2) + l)
  else if n % 2 = 0 then (List.range 16).map (fun l => 16 * p + l)
  else []

/-- The head that device lane g belongs to. -/
def laneHead (s : State) (g : Nat) : Nat :=
  if s.flag F.LNK_PCFG.X8X2 (g / 16) then 2 * (g / 16) + g % 16 / 8 else 2 * (g / 16)

/-- Device lane g is retired. -/
def laneRetired (s : State) (g : Nat) : Bool := nbit (s.rd F.LNK_RET.RET (g / 16)) (g % 16)

/-- The lanes of head n that are in service. -/
def lanesIn (s : State) (n : Nat) : List Nat := (headLanes s n).filter (fun g => !laneRetired s g)

/-- The record of head n. -/
def State.head (s : State) (n : Nat) : HeadRec := sget .idle s.lnk.head n

/-- The state with the record of head n replaced. -/
def State.setHead (s : State) (n : Nat) (r : HeadRec) : State :=
  { s with lnk := { s.lnk with head := sset .idle s.lnk.head n r } }

/-- The half-port PLL has locked. -/
def halfLock (s : State) (p h : Nat) : Bool := sget 0 s.lnk.pll (2 * p + h) == 2

/-- LNK_PSTATp.PLLOCK[h]: in x16 mode both read 1 only when both are locked (R225). -/
def pllLock (s : State) (p h : Nat) : Bool :=
  if s.flag F.LNK_PCFG.X8X2 p then halfLock s p h else halfLock s p 0 && halfLock s p 1

/-- A half-port PLL in a state: 0 stopped, 1 running, 2 locked. -/
def setPll (p h v : Nat) (s : State) : State := { s with lnk := { s.lnk with pll := sset 0 s.lnk.pll (2 * p + h) v } }

/-- A half-port PLL starts where its conditions now hold, and stops where they no longer do (R225). -/
def pllFollow (p h : Nat) (s : State) : State :=
  if domOn s (portDom p) && lrefPresent s p then (if sget 0 s.lnk.pll (2 * p + h) = 0 then setPll p h 1 s else s) else setPll p h 0 s

/-- Both PLLs of port p follow the port's power and its reference. -/
def pllsFollow (p : Nat) (s : State) : State := pllFollow p 1 (pllFollow p 0 s)

/-- PLL_LOCK: the PLL of half-port h locks; in x16 mode both PLLs lock together (R225). -/
def execPllLock (p : Fin 8) (h : Fin 2) (s : State) : Host.Outcome State Fault Refusal :=
  let lock (h : Nat) (s : State) : State := if sget 0 s.lnk.pll (2 * p.val + h) = 1 then setPll p h 2 s else s
  done (if s.flag F.LNK_PCFG.X8X2 p then lock h s else lock 1 (lock 0 s))

/-- The PLL of each half-port of head n is locked. -/
def headPll (s : State) (n : Nat) : Bool :=
  if s.flag F.LNK_PCFG.X8X2 (n / 2) then pllLock s (n / 2) (n % 2) else pllLock s (n / 2) 0

/-! ### Causes and states -/

/-- A cause of head n becomes 1 (R248). -/
def headCause (cause enable : Fld) (n : Nat) (s : State) : State :=
  raiseCause cause enable n (128 + 16 * (n / 2) + n % 2) s

/-- The control state of head n; UP follows it. -/
def setCtl (n st : Nat) (s : State) : State := (s.wr F.LNK_HSTAT.CTLST n st).wr F.LNK_HSTAT.UP n (b2n (st = 3))

/-- The standard state of head n. -/
def setLtssm (n st : Nat) (s : State) : State := s.wr F.LNK_HSTAT.LTSSM n st

/-- The link of head n is gone, and its control state is `st`: no lane is in a link, nothing runs, and the snoops out to it fail, as do
those that are sent while it is neither Up nor Retraining (R275). -/
def linkGone (n st : Nat) (s : State) : State :=
  let s1 := ((((s.wr F.LNK_HSTAT.RATE n 0).wr F.LNK_HSTAT.WIDTH n 0).wr F.LNK_HSTAT.FLIT n 0).wr F.LNK_HSTAT.CXLUP n 0).wr
    F.LNK_HSTAT.REV n 0
  let s2 := (headLanes s1 n).foldl (fun t g => ((t.off F.LNK_LSTAT.INLINK g).wr F.LNK_LSTAT.LNUM g 0).off F.LNK_LLB.FELB g)
    (setLtssm n 0 (setCtl n st s1))
  let r := s2.head n
  walks (failSnoopsOf n ((s2.setHead n { r with attempt := false, cxlOpen := false, l0pIdle := 0 }).off F.EVC_TCH.L1EXIT n))

/-- DOWN is raised where `b` holds. -/
def downIf (b : Bool) (n : Nat) (s : State) : State := if b then headCause F.LNK_HEVT.DOWN F.LNK_HEVEN.DOWN n s else s

/-- The head leaves Held or a reset: Training where its reference is present, else Waiting (R236). -/
def headRelease (n : Nat) (s : State) : State := setLtssm n 0 (setCtl n (if lrefPresent s (n / 2) then 2 else 1) s)

/-- PERST_N[n] is high. -/
def perstHigh (s : State) (n : Nat) : Bool := s.lnk.perst.getLsbD n

/-- Some in-service lane of the head is in a near-end loopback (R246). -/
def loopedLane (s : State) (n : Nat) : Bool := (lanesIn s n).any (fun g => s.rd F.LNK_LLB.MODE g != 0)

/-- A write of HOLD on head n (R236, R246). -/
def holdWrite (n : Nat) (hold : Bool) (s : State) : State :=
  if hold then
    let s1 := s.on F.LNK_HCTL.HOLD n
    if s.rd F.LNK_HSTAT.CTLST n = 0 then s1
    else downIf (s.rd F.LNK_HSTAT.CTLST n == 3) n (linkGone n 0 s1)
  else if loopedLane s n then s
  else
    let s1 := s.off F.LNK_HCTL.HOLD n
    if s.rd F.LNK_HSTAT.CTLST n = 0 ∧ perstHigh s n then headRelease n s1 else s1

/-- The port's power domain goes off: both heads are Held with HOLD at 1, and the PLLs stop (R431). -/
def portOff (p : Nat) (s : State) : State :=
  let hold (n : Nat) (t : State) : State := linkGone n 0 (t.on F.LNK_HCTL.HOLD n)
  pllsFollow p (hold (2 * p + 1) (hold (2 * p) s))

/-! ### Charges and retirement -/

/-- Device lane g is retired (R242). -/
def retireLane (n g : Nat) (s : State) : State :=
  let s1 := (s.wrBit F.LNK_RET.RET (g / 16) (g % 16) true).on F.LNK_LSTAT.RETIRED g
  headCause F.LNK_HEVT.RETIRED F.LNK_HEVEN.RETIRED n { s1 with lnk := { s1.lnk with charges := sset [] s1.lnk.charges g [] } }

/-- Device lane g is charged now; a third charge within 1,000 ms of the first of its two previous ones retires it (R242). -/
def chargeLane (n g : Nat) (s : State) : State :=
  let put (l : List Nat) : State := { s with lnk := { s.lnk with charges := sset [] s.lnk.charges g l } }
  match sget [] s.lnk.charges g with
  | [t1, t2] => if s.stamp < t1 + 1000000000 then retireLane n g s else put [t2, s.stamp]
  | l => put (l ++ [s.stamp])

/-- How many charges of a lane fall in the last 1,000 ms, as LSTAT.CHARGES shows. -/
def recentCharges (s : State) (g : Nat) : Nat :=
  ((sget [] s.lnk.charges g).filter (fun t => decide (s.dtcNow < t + 1000000000))).length

/-- The stage that the largest number of lanes has reached; on a tie the higher stage (R241). -/
def commonStage (s : State) (ls : List Nat) : Nat :=
  ((List.range 7).foldl (fun (best : Nat × Nat) st =>
    let c := (ls.filter (fun g => s.rd F.LNK_LSTAT.STAGE g == st)).length
    if best.2 ≤ c then (st, c) else best) (0, 0)).1

/-- The lanes that the end of an attempt charges (R241). -/
def chargedLanes (s : State) (n : Nat) (success : Bool) : List Nat :=
  let ls := lanesIn s n
  let m := commonStage s ls
  ls.filter (fun g =>
    let st := s.rd F.LNK_LSTAT.STAGE g
    !nbit (s.head n).l0pIdle (g % 16) && decide (1 ≤ st) &&
      (if success then decide (st < 3) else decide (2 ≤ m) && decide (st < m)))

/-- The end of an attempt charges lanes. -/
def chargeLanes (n : Nat) (success : Bool) (s : State) : State :=
  (chargedLanes s n success).foldl (fun t g => chargeLane n g t) s

/-! ### Attempts -/

/-- The highest rate of head n: RATE_LIM where it is a rate within the cap, else the cap (R249). -/
def rateCap (s : State) (n : Nat) : Nat := if s.rd F.LNK_HCFG.MAXRATE n = 0 then 7 else s.rd F.LNK_HCFG.MAXRATE n

/-- The rate limit of the next attempt. -/
def rateLimit (s : State) (n : Nat) : Nat :=
  let l := s.rd F.LNK_HCTL.RATE_LIM n
  if l = 0 ∨ rateCap s n < l then rateCap s n else l

/-- The transmitter settings of a lane at the start of an attempt: an override applies, clamped to the bound (R239, R380). -/
def applyOverride (n : Nat) (s : State) (g : Nat) : State :=
  let force (b : Bool) (t : State) : State := { t with lnk := { t.lnk with ovr := nsetBit t.lnk.ovr g b } }
  if s.flag F.LNK_LTXEQ.OVR g then
    let pre := s.rd F.LNK_LTXEQ.PRE g
    let post := s.rd F.LNK_LTXEQ.POST g
    let pa := min pre 12
    let qa := min post (16 - pa)
    let s1 := force true ((s.wr F.LNK_LTXEQ.PRE_APP g pa).wr F.LNK_LTXEQ.POST_APP g qa)
    if pa = pre ∧ qa = post then s1
    else wardLog 4 n g 0 ((s1.on F.LNK_LTXEQ.CLAMPED g).satAdd F.WRD_TXCLAMP.COUNT 0 1)
  else force false s

/-- An attempt of head n starts, with the lanes that are at stage 1 at once (R233, R234). -/
def attemptStart (n : Nat) (fromRec : Bool) (stage1 : List Nat) (s : State) : State :=
  let s1 := (headLanes s n).foldl (fun t g => t.wr F.LNK_LSTAT.STAGE g (if stage1.contains g then 1 else 0)) s
  let s2 := ((headLanes s1 n).foldl (applyOverride n) s1).satAdd F.LNK_HATT.ATTEMPTS n 1
  s2.setHead n { s2.head n with
    attempt := true
    startAt := s2.stamp
    train := s2.rd F.LNK_TMO.TRAIN (n / 2)
    fromRec := fromRec
    limit := rateLimit s2 n }

/-- The current error-rate window of R240: the DTC in whole seconds. -/
def errWindow (s : State) : Nat := s.dtcNow / 1000000000

/-- The record's count belongs to the current window; an older one starts again (R240). -/
def windowRoll (s : State) (r : HeadRec) : HeadRec :=
  if r.recWindow = errWindow s then r else { r with recWindow := errWindow s, recCount := 0, errDone := false }

/-- A Recovery entry counted under R240. -/
def countRecovery (n : Nat) (s : State) : State :=
  let r := windowRoll s (s.head n)
  let r1 := { r with recCount := r.recCount + 1 }
  let s1 := s.satAdd F.LNK_HREC.COUNT n 1
  let thr := s1.rd F.LNK_HTHR.THR n
  if thr ≠ 0 ∧ thr ≤ r1.recCount ∧ r1.errDone = false then
    headCause F.LNK_HEVT.ERRRATE F.LNK_HEVEN.ERRRATE n (s1.setHead n { r1 with errDone := true })
  else s1.setHead n r1

/-- The head enters Recovery from L0, L0p or L1 (R236). -/
def enterRecovery (n : Nat) (counted equalise : Bool) (s : State) : State :=
  let s1 := if counted then countRecovery n s else s
  let s2 := setLtssm n (if equalise then 5 else 4) (setCtl n 4 (s1.off F.EVC_TCH.L1EXIT n))
  attemptStart n true ((lanesIn s2 n).filter (fun g => s2.flag F.LNK_LSTAT.INLINK g)) s2

/-- The link is in L0, L0p or L1. -/
def linkActive (s : State) (n : Nat) : Bool :=
  s.rd F.LNK_HSTAT.CTLST n == 3 && [3, 6, 7].contains (s.rd F.LNK_HSTAT.LTSSM n)

/-- ATTEMPT_START. -/
def execAttemptStart (n : Fin 16) (start : AttemptFrom) (s : State) : Host.Outcome State Fault Refusal :=
  done (match start with
    | .detect found =>
      let stage1 := (lanesIn s n).filter (fun g => found.getLsbD (g % 16))
      guarded (s.rd F.LNK_HSTAT.CTLST n == 2 && s.rd F.LNK_HSTAT.LTSSM n == 0 && headPll s n && !stage1.isEmpty) s
        (fun s => attemptStart n false stage1 (setLtssm n 1 s))
    | .recovery counted equalise => guarded (linkActive s n) s (enterRecovery n counted equalise))

/-- A failed attempt (R233, R235, R236, R241). -/
def attemptFail (n : Nat) (s : State) : State :=
  let fromRec := (s.head n).fromRec
  let s1 := chargeLanes n false (s.satAdd F.LNK_HATT.FAILED n 1)
  let k := min 15 (s1.rd F.LNK_HSTAT.BACKOFF_K n + 1)
  let s2 := linkGone n 5 (s1.wr F.LNK_HSTAT.BACKOFF_K n k)
  downIf fromRec n (s2.setHead n { s2.head n with backoffEnd := s2.stamp + 1000000 * min 512 (2 ^ (k - 1)) })

/-- ATTEMPT_FAILURE. -/
def execAttemptFailure (n : Fin 16) (s : State) : Host.Outcome State Fault Refusal :=
  done (guarded (s.head n).attempt s (attemptFail n))

/-- TRAIN_TIMEOUT. -/
def execTrainTimeout (n : Fin 16) (s : State) : Host.Outcome State Fault Refusal :=
  done (guarded ((s.head n).attempt && s.expired (s.head n).startAt (1000000 * (s.head n).train)) s (attemptFail n))

/-- BACKOFF_END. -/
def execBackoffEnd (n : Fin 16) (s : State) : Host.Outcome State Fault Refusal :=
  done (guarded (s.rd F.LNK_HSTAT.CTLST n == 5 && decide ((s.head n).backoffEnd ≤ s.dtcNow)) s
    (fun s => setLtssm n 0 (setCtl n 2 s)))

/-- The lanes of a link of the given width: from the head's physical lane 0 upward, or with reversed order from its highest lane
downward, in the order of their logical numbers (R226, R243). -/
def linkLanes (s : State) (n : Nat) (f : LinkForm) : List Nat :=
  (if f.rev then (headLanes s n).reverse else headLanes s n).take f.width

/-- The link can form so: a rate within the attempt's limit, 64 and 128 GT/s in flit mode only, a width of the head (R227), and of the
in-service lanes those that take part in this attempt: a receiver found on them, or in the link when the Recovery began.  So a
Recovery widens no link, and a restored lane joins at a training from Detect only (R234, R237, R244). -/
def formOk (s : State) (n : Nat) (f : LinkForm) : Bool :=
  decide (1 ≤ f.rate.val ∧ f.rate.val ≤ (s.head n).limit) && (decide (f.rate.val ≤ 5) || f.flit) && [1, 2, 4, 8, 16].contains f.width &&
    decide (f.width ≤ (headLanes s n).length) && (linkLanes s n f).all (fun g => !laneRetired s g && s.rd F.LNK_LSTAT.STAGE g != 0)

/-- CXL after an attempt that reached L0 (R227, R228): it comes up at 32 or 64 GT/s and at x4 or wider; a training that ends elsewhere
leaves it unavailable until the head next trains from Detect. -/
def cxlAfter (n : Nat) (fromRec : Bool) (f : LinkForm) (s : State) : State :=
  let r := s.head n
  let may := if fromRec then r.cxlOpen else s.flag F.LNK_HCFG.CXL n && f.cxl
  let up := may && [5, 6].contains f.rate.val && decide (4 ≤ f.width)
  (s.setHead n { r with cxlOpen := up || (may && f.more) }).wr F.LNK_HSTAT.CXLUP n (b2n up)

/-- The formed link in its registers. -/
def showLink (n : Nat) (f : LinkForm) (s : State) : State :=
  let ll := linkLanes s n f
  let s1 := (headLanes s n).foldl (fun t g =>
    if ll.contains g then ((t.wr F.LNK_LSTAT.STAGE g 6).on F.LNK_LSTAT.INLINK g).wr F.LNK_LSTAT.LNUM g (ll.findIdx (· == g))
    else (t.off F.LNK_LSTAT.INLINK g).wr F.LNK_LSTAT.LNUM g 0) s
  let s2 := (((s1.wr F.LNK_HSTAT.RATE n f.rate).wr F.LNK_HSTAT.WIDTH n f.width).wr F.LNK_HSTAT.FLIT n (b2n f.flit)).wr
    F.LNK_HSTAT.REV n (b2n f.rev)
  match f.pid with
  | some pid => s2.wr F.COH_HEAD.PID n pid.toNat
  | none => s2

/-- What waits for the head goes on once the link is in L0: device-cache write-backs, held notifications (R280, R422). -/
def linkReady (n : Nat) (s : State) : State := flushHeld n (dcLinkUp n s)

/-- ATTEMPT_SUCCESS. -/
def execAttemptSuccess (n : Fin 16) (f : LinkForm) (s : State) : Host.Outcome State Fault Refusal :=
  done (guarded ((s.head n).attempt && formOk s n f) s (fun s =>
    let fromRec := (s.head n).fromRec
    let s1 := chargeLanes n true (showLink n f s)
    let s2 := cxlAfter n fromRec f (s1.setHead n { s1.head n with attempt := false, l0pIdle := 0 })
    let s3 := (setLtssm n 3 (setCtl n 3 (s2.wr F.LNK_HSTAT.BACKOFF_K n 0))).off F.EVC_TCH.WAKE n
    linkReady n (if fromRec then s3 else headCause F.LNK_HEVT.UP F.LNK_HEVEN.UP n s3)))

/-- LANE_STAGE_REACHED: bit lock, symbol or block lock, lane number or equalisation; with the polarity and, once equalised, the
adapted receiver settings (R226, R234, R238). -/
def execLaneStageReached (lane : Fin 128) (stage : Fin 8) (polInv : Bool) (rx : Word) (s : State) :
    Host.Outcome State Fault Refusal :=
  let n := laneHead s lane
  let g := lane.val
  done (guarded ((s.head n).attempt && !laneRetired s g && decide (2 ≤ stage.val ∧ stage.val ≤ 5) &&
      s.rd F.LNK_LSTAT.STAGE g != 0) s (fun s =>
    let s1 := (s.wr F.LNK_LSTAT.STAGE g (max stage.val (s.rd F.LNK_LSTAT.STAGE g))).wr F.LNK_LSTAT.POLINV g (b2n polInv)
    let s2 := if stage.val = 4 ∧ s1.rd F.LNK_HSTAT.LTSSM n = 1 then setLtssm n 2 s1 else s1
    if stage.val = 5 then
      (((s2.wr F.LNK_LRXEQ.CTLE g (F.LNK_LRXEQ.CTLE.of rx)).wr F.LNK_LRXEQ.DFE1 g (F.LNK_LRXEQ.DFE1.of rx)).wr
        F.LNK_LRXEQ.DFE2 g (F.LNK_LRXEQ.DFE2.of rx)).wr F.LNK_LRXEQ.DFE3 g (F.LNK_LRXEQ.DFE3.of rx)
    else s2))

/-- EQUALISATION_REQUEST: the partner's request is accepted within the bound, and rejected otherwise or under an override (R238,
R239). -/
def execEqualisationRequest (lane : Fin 128) (pre post : BitVec 6) (s : State) : Host.Outcome State Fault Refusal :=
  let g := lane.val
  let ok := decide (pre.toNat ≤ 12 ∧ pre.toNat + post.toNat ≤ 16) && !nbit s.lnk.ovr g
  done (guarded (s.head (laneHead s g)).attempt s (fun s =>
    let s1 := if ok then (s.wr F.LNK_LTXEQ.PRE_APP g pre.toNat).wr F.LNK_LTXEQ.POST_APP g post.toNat else s
    { s1 with out := s1.out ++ [.eqAnswer g ok] }))

/-! ### Transitions without an attempt -/

/-- An Up link goes to Detect: the head trains again (R236). -/
def upToDetect (n : Nat) (down : Bool) (s : State) : State := downIf down n (linkGone n 2 s)

/-- LINK_DOWN. -/
def execLinkDown (n : Fin 16) (s : State) : Host.Outcome State Fault Refusal :=
  done (guarded (linkActive s n) s (upToDetect n true))

/-- L2_EXIT. -/
def execL2Exit (n : Fin 16) (s : State) : Host.Outcome State Fault Refusal :=
  done (guarded (s.rd F.LNK_HSTAT.CTLST n == 3 && s.rd F.LNK_HSTAT.LTSSM n == 8) s (upToDetect n false))

/-- LOW_POWER_TRANSITION: the head stays Up; L0p in flit mode only (R229), and idles lanes of the link (R237). -/
def execLowPowerTransition (n : Fin 16) (dir : LowPower) (s : State) : Host.Outcome State Fault Refusal :=
  let st := s.rd F.LNK_HSTAT.LTSSM n
  let idle (active : Nat) : Nat := ((headLanes s n).filter (fun g =>
    s.flag F.LNK_LSTAT.INLINK g && decide (active ≤ s.rd F.LNK_LSTAT.LNUM g))).foldl (fun m g => nsetBit m (g % 16) true) 0
  done (guarded (s.rd F.LNK_HSTAT.CTLST n == 3) s (fun s =>
    match dir with
    | .l0p active =>
      if (st = 3 ∨ st = 6) ∧ s.flag F.LNK_HSTAT.FLIT n ∧ 1 ≤ active ∧ active ≤ s.rd F.LNK_HSTAT.WIDTH n then
        setLtssm n 6 (s.setHead n { s.head n with l0pIdle := idle active })
      else s
    | .l1 => if st = 3 ∨ st = 6 then setLtssm n 7 s else s
    | .l2 => if st = 3 ∨ st = 6 then setLtssm n 8 s else s
    | .l0 =>
      if st = 6 ∨ st = 7 then
        linkReady n (setLtssm n 3 ((s.setHead n { s.head n with l0pIdle := 0 }).off F.EVC_TCH.L1EXIT n))
      else s))

/-- PERST_N_HIGH. -/
def execPerstNHigh (n : Fin 16) (s : State) : Host.Outcome State Fault Refusal :=
  let s1 := { s with lnk := { s.lnk with perst := BitVec.ofNat 16 (nsetBit s.lnk.perst.toNat n true) } }
  done (if headExists s n ∧ s.rd F.LNK_HSTAT.CTLST n = 0 ∧ s.rd F.LNK_HCTL.HOLD n = 0 then headRelease n s1 else s1)

/-- Head n leaves its link because the port's reference is lost (R236). -/
def headWaits (n : Nat) (s : State) : State :=
  let st := s.rd F.LNK_HSTAT.CTLST n
  if st = 0 then s else downIf (st == 3 || st == 4) n (linkGone n 1 s)

/-- LANE_REFERENCE_PRESENT: 16 consecutive windows were in range; the heads that wait start training (R63, R236). -/
def execLaneReferencePresent (n : Fin 8) (s : State) : Host.Outcome State Fault Refusal :=
  let go (h : Nat) (t : State) : State := if t.rd F.LNK_HSTAT.CTLST h = 1 then setLtssm h 0 (setCtl h 2 t) else t
  done (guarded (sget 0 s.clk.lrefIn n == 16 && !lrefPresent s n) s (fun s =>
    go (2 * n.val + 1) (go (2 * n.val) (pllsFollow n (s.wrBit F.CLK_LREF_STAT.PRESENT 0 n true)))))

/-- LANE_REFERENCE_LOST: four consecutive windows were out of range (R63). -/
def execLaneReferenceLost (n : Fin 8) (s : State) : Host.Outcome State Fault Refusal :=
  done (guarded (lrefPresent s n && sget 0 s.clk.lrefOut n == 4) s (fun s =>
    let s1 := pllsFollow n ((s.wrBit F.CLK_LREF_STAT.PRESENT 0 n false).wrBit F.CLK_LREF_STAT.LOST 0 n true)
    raise (1 + n.val) (headWaits (2 * n.val + 1) (headWaits (2 * n.val) s1))))

/-! ### Writes of LNK_HCTL -/

/-- RETRAIN: from L0 to Recovery (R249). -/
def hctlRetrain (n : Nat) (s : State) : State :=
  if s.rd F.LNK_HSTAT.CTLST n = 3 ∧ s.rd F.LNK_HSTAT.LTSSM n = 3 then enterRecovery n false false s else s

/-- The head leaves the standard's Loopback state for Detect (R247). -/
def leaveLoopback (n : Nat) (s : State) : State :=
  (headLanes s n).foldl (fun t g => t.off F.LNK_LLB.FELB g) (setLtssm n 0 (setCtl n 2 s))

/-- REDETECT: the LTSSM is directed to Detect (R249), from every state; a running attempt fails by it (R233). -/
def hctlRedetect (n : Nat) (s : State) : State :=
  if (s.head n).attempt then attemptFail n s
  else if s.rd F.LNK_HSTAT.LTSSM n = 10 then leaveLoopback n s
  else if linkActive s n then upToDetect n true s
  else if s.rd F.LNK_HSTAT.CTLST n = 3 ∧ s.rd F.LNK_HSTAT.LTSSM n = 8 then upToDetect n false s
  else s

/-- A write of LNK_HCTLp_h. -/
def hctlWrite (n : Nat) (v : Word) (s : State) : State :=
  let s1 := s.wr F.LNK_HCTL.RATE_LIM n (F.LNK_HCTL.RATE_LIM.of v)
  let s2 := holdWrite n (F.LNK_HCTL.HOLD.of v == 1) s1
  let s3 := if F.LNK_HCTL.RETRAIN.of v = 1 then hctlRetrain n s2 else s2
  if F.LNK_HCTL.REDETECT.of v = 1 then hctlRedetect n s3 else s3

/-- HOLD_WRITE. -/
def execHoldWrite (n : Fin 16) (hold : Bool) (s : State) : Host.Outcome State Fault Refusal :=
  done (guarded (headExists s n) s (holdWrite n hold))

/-- HCTL_RETRAIN. -/
def execHctlRetrain (n : Fin 16) (s : State) : Host.Outcome State Fault Refusal :=
  done (guarded (headExists s n) s (hctlRetrain n))

/-- REDETECT. -/
def execRedetect (n : Fin 16) (s : State) : Host.Outcome State Fault Refusal :=
  done (guarded (headExists s n) s (hctlRedetect n))

/-! ### Restore and loopbacks -/

/-- Device lane g is restored (R244). -/
def restoreLane (g : Nat) (s : State) : State :=
  let s1 := ((s.wr F.LNK_LLB.MODE g 0).off F.LNK_LLB.LOCK g).off F.LNK_LLB.FELB g
  let s2 := (s1.wrBit F.LNK_RET.RET (g / 16) (g % 16) false).off F.LNK_LSTAT.RETIRED g
  { s2 with lnk := { s2.lnk with charges := sset [] s2.lnk.charges g [] } }

/-- A write of LNK_RETp. -/
def retWrite (p : Nat) (v : Word) (s : State) : State :=
  (List.range 16).foldl (fun t l =>
    if nbit (F.LNK_RET.RESTORE.of v) l && laneRetired t (16 * p + l) then restoreLane (16 * p + l) t else t) s

/-- LNK_RESTORE. -/
def execLnkRestore (p : Fin 8) (v : Word) (s : State) : Host.Outcome State Fault Refusal := done (retWrite p v s)

/-- A near-end loopback may start on device lane g (R246). -/
def loopbackOk (s : State) (g : Nat) : Bool :=
  s.rd F.LNK_HSTAT.CTLST (laneHead s g) == 0 || laneRetired s g || !headExists s (laneHead s g)

/-- A write of LNK_LLBp_l (R245, R246): reserved encodings leave their fields, and a refused MODE sets REJECT. -/
def llbWrite (g : Nat) (v : Word) (s : State) : State :=
  let pat := F.LNK_LLB.PAT.of v
  let rate := F.LNK_LLB.RATE.of v
  let mode := F.LNK_LLB.MODE.of v
  let s1 := if pat ≤ 3 then s.wr F.LNK_LLB.PAT g pat else s
  let s2 := if 1 ≤ rate ∧ rate ≤ rateCap s (laneHead s g) then s1.wr F.LNK_LLB.RATE g rate else s1
  let s3 := if F.LNK_LLB.REJECT.of v = 1 then s2.off F.LNK_LLB.REJECT g else s2
  if mode = 0 then (s3.wr F.LNK_LLB.MODE g 0).off F.LNK_LLB.LOCK g
  else if !loopbackOk s g then s3.on F.LNK_LLB.REJECT g
  else if mode = 3 then s3
  else (s3.wr F.LNK_LLB.MODE g mode).off F.LNK_LLB.LOCK g

/-- LOOPBACK_MODE_WRITE. -/
def execLoopbackModeWrite (lane : Fin 128) (v : Word) (s : State) : Host.Outcome State Fault Refusal := done (llbWrite lane v s)

/-- FAR_END_LOOPBACK: the device follows; Loopback is not an attempt, and a link that enters it from Recovery is down (R247). -/
def execFarEndLoopback (n : Fin 16) (lanes : BitVec 16) (s : State) : Host.Outcome State Fault Refusal :=
  done (guarded (s.head n).attempt s (fun s =>
    let fromRec := (s.head n).fromRec
    let s1 := setLtssm n 10 (linkGone n 2 s)
    let s2 := ((lanesIn s1 n).filter (fun g => lanes.getLsbD (g % 16))).foldl (fun t g => t.on F.LNK_LLB.FELB g) s1
    headCause F.LNK_HEVT.FELB F.LNK_HEVEN.FELB n (downIf fromRec n s2)))

/-- FAR_END_LOOPBACK_EXIT. -/
def execFarEndLoopbackExit (n : Fin 16) (s : State) : Host.Outcome State Fault Refusal :=
  done (guarded (s.rd F.LNK_HSTAT.LTSSM n == 10) s (leaveLoopback n))

/-- CHECKER_LOCK. -/
def execCheckerLock (lane : Fin 128) (s : State) : Host.Outcome State Fault Refusal :=
  done (guarded (s.rd F.LNK_LLB.MODE lane != 0) s (fun s => s.on F.LNK_LLB.LOCK lane))

/-- LOOPBACK_MISMATCH. -/
def execLoopbackMismatch (lane : Fin 128) (s : State) : Host.Outcome State Fault Refusal :=
  done (guarded (s.flag F.LNK_LLB.LOCK lane) s (fun s => s.satAdd F.LNK_LLBERR.COUNT lane 1))

/-! ### Counters -/

/-- RECEIVER_ERROR. -/
def execReceiverError (lane : Fin 128) (s : State) : Host.Outcome State Fault Refusal :=
  done (s.satAdd F.LNK_LERR.COUNT lane 1)

/-- FEC_CORRECTION. -/
def execFecCorrection (n : Fin 16) (s : State) : Host.Outcome State Fault Refusal :=
  done (guarded (headExists s n) s (fun s => s.satAdd F.LNK_HFEC.COUNT n 1))

/-- LINK_REPLAY. -/
def execLinkReplay (n : Fin 16) (s : State) : Host.Outcome State Fault Refusal :=
  done (guarded (headExists s n) s (fun s => s.satAdd F.LNK_HREPLAY.COUNT n 1))

/-- ERROR_RATE_WINDOW: a window has ended and the count starts again (R240). -/
def execErrorRateWindow (n : Fin 16) (s : State) : Host.Outcome State Fault Refusal :=
  done (s.setHead n (windowRoll s (s.head n)))

end Sys2Proof.Machine
end

