-- ==== Sys2Proof/Machine/Flit.lean ====
section
/-! DEFINITION. The flits of messages (R75–R77, R270): their fields, their operation codes and payloads, and the CRC that a destination
checks (R79). -/

namespace Sys2Proof.Machine
open Sys2Proof

/-- A flit: header and sideband in bits [63:0], payload in bits [575:64] (R75). -/
abbrev Flit := BitVec 576

/-! ### The CRC -/

/-- One bit taken into a CRC with the polynomial x^16 + x^12 + x^5 + 1. -/
def crcStep (c : BitVec 16) (b : Bool) : BitVec 16 := if c.msb != b then (c <<< 1) ^^^ 0x1021 else c <<< 1

/-- The bits that the CRC covers: bits [575:64], then bits [47:0], each range from its highest bit down (the order within a range is not in
the spec: DESIGN CHOICE, unsafe: log entry 196). -/
def crcBits (f : Flit) : List Bool :=
  (List.range 512).map (fun k => f.getLsbD (575 - k)) ++ (List.range 48).map (fun k => f.getLsbD (47 - k))

/-- The CRC of a flit, from the initial value 0xFFFF. -/
def crcOf (f : Flit) : BitVec 16 := (crcBits f).foldl crcStep 0xFFFF

/-- The CRC field. -/
def flitCrc (f : Flit) : BitVec 16 := f.extractLsb' 48 16

/-- A flit whose CRC field matches (R79). -/
def flitGood (f : Flit) : Bool := flitCrc f == crcOf f

/-- A flit with its CRC field filled in. -/
def sealFlit (f : Flit) : Flit := (f &&& ~~~((0xFFFF : Flit) <<< 48)) ||| ((crcOf f).setWidth 576 <<< 48)

/-! ### Fields -/

/-- The header fields of R75, the CRC apart. -/
structure FlitHead where
  cls : Nat
  op : Nat
  dst : Nat
  src : Nat
  txn : Nat
  rqc : Nat
  rqid : Nat
  more : Bool
deriving DecidableEq, Repr

/-- The header in bits [47:0]. -/
def FlitHead.bits (h : FlitHead) : BitVec 48 :=
  BitVec.ofBool h.more ++ BitVec.ofNat 5 h.rqid ++ BitVec.ofNat 3 h.rqc ++ BitVec.ofNat 8 h.txn ++ BitVec.ofNat 13 h.src ++
    BitVec.ofNat 13 h.dst ++ BitVec.ofNat 3 h.op ++ BitVec.ofNat 2 h.cls

/-- The header of a flit. -/
def flitHead (f : Flit) : FlitHead :=
  let n (lo w : Nat) : Nat := (f.extractLsb' lo w).toNat
  ⟨n 0 2, n 2 3, n 5 13, n 18 13, n 31 8, n 39 3, n 42 5, f.getLsbD 47⟩

/-- The payload of a flit; payload byte n in flit bits [71+8n:64+8n]. -/
def flitPayload (f : Flit) : Line := f.extractLsb' 64 512

/-- A flit of a header and a payload, its CRC filled in. -/
def mkFlit (h : FlitHead) (p : Line) : Flit := sealFlit (p ++ (0 : BitVec 16) ++ h.bits)

/-- The payload of a command flit: the DA in bytes 0 to 5, LEN in bits [53:48], and the value of a REG_WRITE in bytes 8 to 11 (R77). -/
def commandPayload (r : Req) : Line :=
  let v : Nat := if r.dst = hubEp ∧ r.op = .write then (r.data.toNat / 2 ^ (8 * (r.da % 64 / 4 * 4))) % 2 ^ 32 else 0
  BitVec.ofNat 512 (r.da % 2 ^ 48 + (r.len - 1) % 64 * 2 ^ 48 + v * 2 ^ 64)

/-- The OP of a request within its class: READ or REG_READ 0, WRITE or REG_WRITE 1 (R76). -/
def opCode : NetOp → Nat
  | .read => 0
  | .write => 1

/-- The flits of a request (R77): a WRITE is a command flit with MORE = 1 and a data flit with MORE = 0, which repeats the header (which
header a data flit carries is not in the spec: DESIGN CHOICE, unsafe: log entry 196). -/
def reqFlitsOf (r : Req) : List Flit :=
  let h (more : Bool) : FlitHead := ⟨reqClass r, opCode r.op, r.dst, r.src, r.txn, r.tag.cls, r.tag.id, more⟩
  if reqFlits r = 2 then [mkFlit (h true) (commandPayload r), mkFlit (h false) r.data] else [mkFlit (h false) (commandPayload r)]

/-- The OP of a response and its payload: data in its lanes, or CODE, DETAIL and the DA of the failed request (R76, R77). -/
def answerBits (da : Nat) : Answer → Nat × Line
  | .data d => (0, d)
  | .poisoned d => (1, d)
  | .ack => (2, 0)
  | .error code detail => (3, BitVec.ofNat 512 (code % 256 + detail % 256 * 2 ^ 8 + da % 2 ^ 48 * 2 ^ 64))

/-- The flit of a response: SRC and DST are the request's, exchanged, TXN, RQC and RQID the request's (R75). -/
def respFlitsOf (da : Nat) (p : Resp) : List Flit :=
  let (op, d) := answerBits da p.ans
  [mkFlit ⟨1, op, p.dst, p.src, p.txn, p.tag.cls, p.tag.id, false⟩ d]

/-- The OP of a snoop (R270). -/
def snoopOp (inv : Bool) : Nat := if inv then 0 else 1

/-- The OP of a snoop's response (R270). -/
def snoopRespOp (shared data : Bool) : Nat := 4 + b2n shared + 2 * b2n data

/-- The flit of a snoop: the line's DA in payload bytes 0 to 5 (R270).  The spec gives a snoop no TXN, RQC or RQID: 0 (DESIGN CHOICE,
unsafe: log entry 196). -/
def snoopFlit (src dst line : Nat) (inv : Bool) : Flit :=
  mkFlit ⟨2, snoopOp inv, dst, src, 0, 0, 0, false⟩ (BitVec.ofNat 512 (64 * line % 2 ^ 48))

/-- The flits of its response, with a data flit where it returns data (R270). -/
def snoopRespFlits (src dst line : Nat) (shared : Bool) (data : Option Line) : List Flit :=
  let h (more : Bool) : FlitHead := ⟨2, snoopRespOp shared data.isSome, dst, src, 0, 0, 0, more⟩
  let cmd : Line := BitVec.ofNat 512 (64 * line % 2 ^ 48)
  match data with
  | none => [mkFlit (h false) cmd]
  | some d => [mkFlit (h true) cmd, mkFlit (h false) d]

/-! ### Damage -/

/-- Flits as they arrive: bit `damage` of the message's bits, 576 to a flit, has been inverted on the way. -/
def arrivedFlits (fs : List Flit) : Option (Fin 1152) → List Flit
  | none => fs
  | some k => fs.set (k / 576) (fs.getD (k / 576) 0 ^^^ BitVec.ofNat 576 (2 ^ (k.val % 576)))

/-- The destination finds a mismatch in one of a message's flits: it discards the message (R79). -/
def crcFails (fs : List Flit) (damage : Option (Fin 1152)) : Bool := !(arrivedFlits fs damage).all flitGood

end Sys2Proof.Machine
end

