-- ==== Sys2Proof/Machine/Sequencer.lean ====
section
/-! DEFINITION. The mode sequencer's transactions (R434–R438): units, what starts one and what it leaves in its registers. -/

namespace Sys2Proof.Machine
open Sys2Proof

/-- The state of unit u (R453). -/
def unitSt (s : State) (u : Nat) : Nat := s.rd (F.PWR_MODE_UNIT.ST (u % 8)) (u / 8)

/-- The state of unit u set. -/
def setUnit (u st : Nat) (s : State) : State := s.wr (F.PWR_MODE_UNIT.ST (u % 8)) (u / 8) st

/-- The units, 0 to 75. -/
def units : List Nat := 0 :: ((List.range 12).map (· + 1) ++ (List.range 60).map (· + 16))

/-- The state of the sequencer (R436). -/
def modeState (s : State) : Nat := s.rd F.PWR_MODE_STAT.STATE 0

/-- Every unit in no transaction is IDLE; one in SPLIT stays so (R439). -/
def unitsIdle (s : State) : State := units.foldl (fun t u => if unitSt t u = 6 then t else setUnit u 0 t) s

/-- Prepare is broadcast to the units that take part, and the timer starts (R436). -/
def broadcast (us : List Nat) (s : State) : State :=
  let s1 := us.foldl (fun t u => setUnit u 1 t) ((unitsIdle s).wr F.PWR_MODE_STAT.REFUSER 0 0x7F)
  { s1 with pwr := { s1.pwr with timerAt := s1.dtcNow, ups := [] } }.wr F.PWR_MODE_STAT.STATE 0 1

/-- The groups that a configuration controller waits for and that a transaction can switch on. -/
def wantedNow (s : State) : List Nat :=
  s.pwr.wanted.filter (fun d => !domOn s d && unitSt s (16 + d) != 6 && !s.pwr.ramping.contains d && !s.pwr.rampQ.contains d)

/-- A transaction of a configuration controller starts as soon as the sequencer is idle, but not under the trip (R434, R382). -/
def ownTransaction (s : State) : State :=
  if modeState s = 0 ∧ !s.flag F.WRD_THSTAT.TRIP 0 ∧ wantedNow s ≠ [] then
    let ds := wantedNow s
    broadcast (ds.map (16 + ·)) { s with pwr := { s.pwr with wanted := s.pwr.wanted.filter (fun d => !ds.contains d && !domOn s d) } }
  else s

/-- A controller that closes a window wants its groups powered (R434). -/
def wantPower (ds : List Nat) (s : State) : State :=
  let new := (ds.eraseDups).filter (fun d => !domOn s d && !s.pwr.wanted.contains d)
  ownTransaction { s with pwr := { s.pwr with wanted := s.pwr.wanted ++ new } }

end Sys2Proof.Machine
end

