-- ==== Sys2Proof/Machine/Load.lean ====
section
/-! DEFINITION. Configuration (R315–R346): frames, images and their checks, the record stream, regions, release, and boot retries. -/

namespace Sys2Proof.Machine
open Sys2Proof

/-! ### Frames -/

/-- Bit k of the codeword of a frame (R315): check positions in the ECC field, data bits in the configuration bits. -/
def frameCodeBit (v : Frame) (k : Nat) : Bool :=
  if k = 0 then v.getLsbD 4109
  else if checkPos k then v.getLsbD (4096 + Nat.log2 k)
  else v.getLsbD (dataIndex k)

/-- The frame bit of a codeword position (R352). -/
def frameBitOf (k : Nat) : Nat := if k = 0 then 4109 else if checkPos k then 4096 + Nat.log2 k else dataIndex k

/-- What the decoder says of a frame. -/
def classifyFrame (v : Frame) : Decoded := classifyCode 4110 (frameCodeBit v)

/-- A frame with bit b inverted. -/
def flipFrame (v : Frame) (b : Nat) : Frame := v ^^^ BitVec.ofNat 4112 (2 ^ b)

/-- The class of a frame (R315). -/
def frameClass (v : Frame) : Nat := v.toNat / 2 ^ 4110

/-- The content of a frame. -/
def frameNow (s : State) (f : Nat) : Frame := sget 0 s.cfg.frames f

/-- The scanner of leaf l. -/
def State.scan (s : State) (l : Nat) : Scanner := sget .idle s.cfg.scan l

/-- The state with the scanner of leaf l set; SCB_PEND follows its list. -/
def State.setScan (s : State) (l : Nat) (c : Scanner) : State :=
  let n (u : Bool) : Nat := (c.pend.filter (fun e => e.any (fun p => p.unrepaired == u))).length
  (({ s with cfg := { s.cfg with scan := sset .idle s.cfg.scan l c } }).wr F.SCB_PEND.WAITING l (n false)).wr F.SCB_PEND.UNREP l (n true)

/-- Pending entries and unverifiable marks of the frames of `p` are dropped: a load or CLEAR writes them (R349, R356). -/
def forgetScan (p : Nat → Bool) (s : State) : State :=
  (List.range 4).foldl (fun t l =>
    let c := t.scan l
    if c.unver.any p || c.pend.any (fun e => e.any (fun q => p q.frame)) then
      t.setScan l { c with
        unver := c.unver.filter (fun f => !p f)
        pend := c.pend.map (fun e => e.filter (fun q => !p q.frame)) }
    else t) s

/-- Frames f to f + n - 1 written with one content, with their golden signatures (R338, R347; log entry 216). -/
def writeFrames (f n : Nat) (v : Frame) (s : State) : State :=
  let mine (k : Nat) : Bool := decide (f ≤ k) && decide (k < f + n)
  let put (l : Sparse Frame) : Sparse Frame :=
    let rest := l.filter (fun e => !mine e.1)
    if v = 0 then rest else (List.range n).foldl (fun m j => sset 0 m (f + j) v) rest
  forgetScan mine { s with cfg := { s.cfg with
    frames := put s.cfg.frames
    golden := put s.cfg.golden
    sigErr := s.cfg.sigErr.filter (fun e => !mine e.1) } }

/-! ### Bytes -/

/-- A number from bytes, the lowest first (R5). -/
def leNat : List Byte → Nat
  | [] => 0
  | b :: l => b.toNat + 256 * leNat l

/-- The number in `n` bytes from offset `o`. -/
def bytesAt (l : List Byte) (o n : Nat) : Nat := leNat ((l.drop o).take n)

/-- The bytes of a flit's payload. -/
def lineBytes (l : Line) : List Byte := (List.range 64).map (lineByte l)

/-- The bytes of a number, the lowest first. -/
def natBytes (n v : Nat) : List Byte := (List.range n).map (fun k => BitVec.ofNat 8 (v / 256 ^ k))

/-- A digest as a byte string, in the big-endian order of its algorithm (R317). -/
def digestBytes (d : BitVec 384) : List Byte := (List.range 48).map (fun k => d.extractLsb' (8 * (47 - k)) 8)

/-! ### Regions and windows -/

/-- The load machine of leaf l. -/
def State.loader (s : State) (l : Nat) : Loader := sget .idle s.cfg.loader l

/-- The state with the load machine of leaf l set. -/
def State.setLoader (s : State) (l : Nat) (c : Loader) : State :=
  { s with cfg := { s.cfg with loader := sset .idle s.cfg.loader l c } }

/-- The sectors of region r. -/
def regionSectors (s : State) (r : Nat) : List Nat := (List.range 320).filter (sectorIn s r)

/-- Region r's mask (R346). -/
def regionMask (s : State) (r : Nat) : Nat :=
  s.rd F.CFG_RGN_MASK0.SECT r + s.rd F.CFG_RGN_MASK1.SECT r * 2 ^ 32 + s.rd F.CFG_RGN_MASK2.SECT r * 2 ^ 64

/-- The region of the operation of leaf l. -/
def opRegion (s : State) (l : Nat) : Nat := s.rd F.CFG_LDSTAT.REGION l

/-- A sector is in the window of leaf l's operation (R321). -/
def inWindow (s : State) (l x : Nat) : Bool := decide (x < 320) && ((s.loader l).op == 2 || sectorIn s (opRegion s l) x)

/-- The sectors of that window. -/
def windowSectors (s : State) (l : Nat) : List Nat := (List.range 320).filter (inWindow s l)

/-- The next frame the load would have written; 0x7FFFF when there is none (R339). -/
def nextFrame (s : State) (l : Nat) : Nat :=
  let n := (s.loader l).next
  match (windowSectors s l).find? (fun x => decide (n < 1280 * x + 1280)) with
  | some x => max n (1280 * x)
  | none => 0x7FFFF

/-- The phase of leaf l's controller. -/
def ldPhase (s : State) (l : Nat) : Nat := s.rd F.CFG_LDSTAT.PHASE l

/-- A full load runs. -/
def fullRuns (s : State) : Bool := (s.loader 0).op == 2

/-! ### Closing and opening -/

/-- A sector closes or opens with its access ports (R93, R336, R343). -/
def setClosed (b : Bool) (x : Nat) (s : State) : State :=
  let s1 := s.wr F.CFG_SECT.CLOSED x (b2n b)
  [2 * x, 2 * x + 1].foldl (fun t a =>
    portRegs a ({ t with net := { t.net with apStore := if b then sset [] t.net.apStore a [] else t.net.apStore } }.wr
      F.KRV_AP.CLOSED a (b2n b))) (restartWalks x s1)

/-- The sectors of a window close: their borders park (R337), their ports close, and what the scanner still holds of their frames is dropped (R336, R358). -/
def closeSectors (xs : List Nat) (s : State) : State :=
  let mine (f : Nat) : Bool := xs.contains (f / 1280)
  let s1 := xs.foldl (fun t x => setClosed true x t) (holdPins xs s)
  (List.range 4).foldl (fun t l =>
    let c := t.scan l
    t.setScan l { c with
      queue := c.queue.filter (fun e => !mine e.1)
      pend := c.pend.map (fun e => e.filter (fun q => !mine q.frame)) }) s1

/-- A controller closes its window, and has the groups of its sectors powered (R335, R434). -/
def closeWindow (xs : List Nat) (s : State) : State := wantPower (xs.map sectorDom) (closeSectors xs s)

/-- The block RAMs and vaults of the sectors are zeroed (R145, R338). -/
def zeroMemories (xs : List Nat) (s : State) : State :=
  dropCodes (fun inst => match instSector (kindOf (inst / 8192)) (inst % 8192) with
    | some x => xs.contains x
    | none => false) s

/-- The sectors are released: elements initialised, ECC modes shown, hasps open; a local clock line that is high then has its first edge after it
has fallen (R343). -/
def releaseSectors (xs : List Nat) (s : State) : State :=
  let s1 := fabricRelease (fun x => xs.contains x) s
  sampleMg (seeLocal xs (xs.foldl (fun t x =>
    setClosed false x ((List.range 16).foldl (fun u j =>
      u.wr F.MEM_BRAM.ECCON (16 * x + j) (b2n (bramAt (sectorFrames u x) j).ecc)) t)) s1))

/-! ### Events and ends of operations -/

/-- A cause in CFG_EVT of leaf l (R345). -/
def cfgEvent (cause enable : Fld) (l : Nat) (s : State) : State := raiseCause cause enable l (14 + l) s

/-- The flash of attempt k (R325, R331): 1 primary, 2 fallback. -/
def flashOf (mode k : Nat) : Nat := if mode = 1 then 1 else if mode = 2 then 2 else if k % 2 = 1 then 1 else 2

/-- The attempt of the current stage is number k (R331). -/
def setAttempt (k : Nat) (s : State) : State := { s with cfg := { s.cfg with attempt := k } }.wr F.CFG_BOOT_STAT.ATTEMPTS 0 (min k 65535)

/-- No full image comes from flash in this boot mode (R325). -/
def noFullFlash (s : State) : Bool := s.rd F.CFG_BOOT_STAT.BOOT_MODE 0 == 3 || s.rd F.CFG_BOOT_STAT.BOOT_MODE 0 == 4

/-- The wait of R331 begins after attempt k. -/
def startRetryWait (s : State) : State :=
  { s with cfg := { s.cfg with retryAt := s.dtcNow + 1000000 * min (2 ^ min (s.cfg.attempt - 1) 10) 1000 } }

/-- The boot ROM waits for image words from the Keyhole port, where the boot mode takes the images from there (R325, R486). -/
def khImages (s : State) : State :=
  if s.rd F.CFG_BOOT_STAT.BOOT_MODE 0 = 4 then
    { s with kh := { s.kh with img := [], images := [] } }.on F.KH_IMG_CTL.READY 0 |>.off F.KH_IMG_CTL.BUSY 0
  else s

/-- A boot-time attempt of the boot ROM fails (R330). -/
def bootRomFails (s : State) : State :=
  startRetryWait (khImages ((s.on F.CFG_PINS.ERR 0).wr F.CFG_BOOT_STAT.STAGE 0 5))

/-- A full load fails: from flash it lowers CONF_ERR_N and is tried again; through Sherex it leaves the loop as it is (R330, R331). -/
def fullFails (s : State) : State :=
  if s.rd F.CFG_BOOT_STAT.FSRC 0 = 3 then s.wr F.CFG_BOOT_STAT.STAGE 0 (if noFullFlash s then 7 else 6)
  else startRetryWait ((s.on F.CFG_PINS.ERR 0).wr F.CFG_BOOT_STAT.STAGE 0 6)

/-- The response to an IMG_DATA (R324). -/
def imgAnswer (l : Nat) (src txn : Nat) (a : Answer) (s : State) : State :=
  let s1 := dispatch (.resp src txn) 1 (ctlEp l) src 1 s
  { s1 with net := { s1.net with resps := s1.net.resps ++ [⟨ctlEp l, src, txn, keeperTag, a, .none⟩] } }

/-- The bytes of an IMG_DATA that no LOAD waits for are discarded: ERROR 2 with DETAIL 1, an error that only KRV_ELOG records (R324). -/
def imgRefused (l src txn : Nat) (s : State) : State :=
  let (da, s1) := s.fresh
  imgAnswer l src txn (.error 2 1) (netLog 2 1 src da s1)

/-- The controller of leaf l is idle again, and waits for the verifier no longer.  An IMG_DATA whose ACK is still withheld meets no LOAD and
is refused (the spec states no answer there: DESIGN CHOICE, unsafe: log entry 206). -/
def endLoader (l : Nat) (s : State) : State :=
  let held := (s.loader l).waiting
  let s1 := s.setLoader l .idle
  held.foldl (fun t h => imgRefused l h.src h.txn t) { s1 with cfg := { s1.cfg with verify := s1.cfg.verify.erase l } }

/-- An operation ends with a code (R322, R339); a load that had begun to close its region leaves it INVALID. -/
def loadFail (l code frame : Nat) (s : State) : State :=
  let c := s.loader l
  let inBody := 3 ≤ ldPhase s l
  let s1 := ((endLoader l s).wr F.CFG_LDERR.CODE l code).wr F.CFG_LDERR.FRAME l frame
  let s2 := (s1.wr F.CFG_LDSTAT.PHASE l 0).on F.CFG_LDSTAT.FAIL l
  let s3 := if c.op = 2 then fullFails { s2 with cfg := { s2.cfg with fwd := [], defs := [] } }
    else if inBody then s2.wr F.CFG_RGN_CFG.STATE (opRegion s l) 4
    else s2
  cfgEvent F.CFG_EVT.LDFAIL F.CFG_EVEN.LDFAIL l s3

/-- A failure in the body that names the next frame (R339). -/
def failNext (l code : Nat) (s : State) : State := loadFail l code (nextFrame s l) s

/-- A controller's operation ends well. -/
def opDone (l : Nat) (s : State) : State := ((endLoader l s).wr F.CFG_LDSTAT.PHASE l 0).on F.CFG_LDSTAT.DONE l

/-! ### Commands -/

/-- RESULT of a command on leaf l. -/
def ldResult (l v : Nat) (s : State) : State := s.wr F.CFG_LDSTAT.RESULT l v

/-- An operation begins on leaf l. -/
def startOp (l op region phase : Nat) (s : State) : State :=
  ldResult l 0 ((((s.setLoader l { Loader.idle with op := op, dataAt := s.stamp }).wr F.CFG_LDSTAT.PHASE l phase).wr
    F.CFG_LDSTAT.REGION l region).wr F.CFG_LDCNT.WRITTEN l 0)

/-- The region is defined on leaf l (R335). -/
def regionOn (s : State) (l r : Nat) : Bool := s.rd F.CFG_RGN_CFG.STATE r != 0 && s.rd F.CFG_RGN_CFG.LEAF r == l

/-- A write of OP = LOAD (R335, R341). -/
def cfgLoad (l r : Nat) (s : State) : State :=
  if (s.loader l).op ≠ 0 ∨ fullRuns s then ldResult l 1 s
  else if !regionOn s l r then ldResult l 2 s
  else startOp l 1 r 1 s

/-- A write of OP = LOAD with FULL on leaf 0 (R331, R341); `sherex`: the image comes through Sherex (log entry 26).  From flash the load is the
next attempt, unless BOOT_RETRY has begun that; after a failed attempt it waits for BOOT_RETRY's moment, and in boot modes 3 and 4 there is none
(R325). -/
def cfgLoadFull (sherex : Bool) (s : State) : State :=
  if (List.range 4).any (fun l => (s.loader l).op != 0) then ldResult 0 1 s
  else if s.flag F.CFG_PINS.DONE 0 then ldResult 0 4 s
  else
    let stage := s.rd F.CFG_BOOT_STAT.STAGE 0
    if !sherex && (noFullFlash s || (stage == 6 && decide (s.dtcNow < s.cfg.retryAt))) then s
    else
      let k := if stage = 3 then s.cfg.attempt else s.cfg.attempt + 1
      let s1 := if sherex then s else setAttempt k { s with cfg := { s.cfg with retryAt := 0 } }
      startOp 0 2 0 1 ((s1.wr F.CFG_BOOT_STAT.STAGE 0 3).wr F.CFG_BOOT_STAT.FSRC 0
        (if sherex then 3 else flashOf (s.rd F.CFG_BOOT_STAT.BOOT_MODE 0) k))

/-- A write of OP = CLEAR (R335, R342). -/
def cfgClear (l r : Nat) (s : State) : State :=
  let st := s.rd F.CFG_RGN_CFG.STATE r
  if (s.loader l).op ≠ 0 ∨ fullRuns s then ldResult l 1 s
  else if !regionOn s l r then ldResult l 2 s
  else if st ≠ 3 ∧ st ≠ 4 then ldResult l 3 s
  else closeWindow (regionSectors s r) ((startOp l 3 r 3 s).wr F.CFG_RGN_CFG.STATE r 5)

/-- A write of OP = ABORT (R340). -/
def cfgAbort (l : Nat) (s : State) : State :=
  let c := s.loader l
  if (c.op = 1 ∨ c.op = 2) ∧ 1 ≤ ldPhase s l ∧ ldPhase s l ≤ 4 then failNext l 16 (ldResult l 0 s) else ldResult l 3 s

/-! ### The clears of a tenant reset (R445 step 3) -/

/-- The running activity 5 of the tenant-reset sequencer on a leaf. -/
def trstTicket (s : State) (l : Nat) : Option Nat :=
  (List.range 64).find? (fun k => mntEnt s k == (2, 5, l) && s.flag F.PWR_MNT_ENT.HW k)

/-- The sequencer's first region is cleared as soon as the arbiter grants it and its controller is idle; a region that holds nothing needs
no CLEAR. -/
def trstStep (s : State) : State :=
  match s.mnt.trst with
  | [] => s
  | r :: rest =>
    if !s.mnt.trstEng.isEmpty then s else
    let l := s.rd F.CFG_RGN_CFG.LEAF r
    let st := s.rd F.CFG_RGN_CFG.STATE r
    if s.mnt.trstRuns then s
    else if st ≠ 3 ∧ st ≠ 4 ∧ st ≠ 2 ∧ st ≠ 5 then
      -- nothing to clear
      { s with mnt := { s.mnt with trst := rest, trstAsked := false } }
    else
      let s1 := if s.mnt.trstAsked then s else
        (mntHwRequest 5 l { s with mnt := { s.mnt with trstAsked := true } }).1
      if (trstTicket s1 l).isSome ∧ (s1.loader l).op = 0 ∧ !fullRuns s1 then
        { cfgClear l r s1 with mnt := { s1.mnt with trstRuns := true } }
      else s1

/-- The sequencer goes on as far as it can. -/
def trstAdvance (s : State) : State := (List.range 65).foldl (fun t _ => trstStep t) s

/-- The first region of the sequencer has reached EMPTY: its activity ends. -/
def trstCleared (r : Nat) (s : State) : State :=
  if s.mnt.trst.head? = some r ∧ s.mnt.trstRuns then
    let s1 := { s with mnt := { s.mnt with trst := s.mnt.trst.drop 1, trstAsked := false, trstRuns := false } }
    trstAdvance (match trstTicket s1 (s1.rd F.CFG_RGN_CFG.LEAF r) with
      | some k => mntEnd k s1
      | none => s1)
  else trstAdvance s

/-- LOAD. -/
def execLoad (leaf : Fin 4) (region : Fin 64) (s : State) : Host.Outcome State Fault Refusal := done (cfgLoad leaf region s)

/-- LOAD_FULL. -/
def execLoadFull (sherex : Bool) (s : State) : Host.Outcome State Fault Refusal := done (cfgLoadFull sherex s)

/-- CLEAR. -/
def execClear (leaf : Fin 4) (region : Fin 64) (s : State) : Host.Outcome State Fault Refusal := done (cfgClear leaf region s)

/-- ABORT. -/
def execAbort (leaf : Fin 4) (s : State) : Host.Outcome State Fault Refusal := done (trstAdvance (cfgAbort leaf s))

/-- REGION_DRAINED: every port of the window is DRAINED and every group powered; memories are zeroed and writing begins (R335, R434). -/
def execRegionDrained (leaf : Fin 4) (s : State) : Host.Outcome State Fault Refusal :=
  let l := leaf.val
  let xs := windowSectors s l
  done (guarded (ldPhase s l == 3 && xs.all (fun x =>
      s.flag F.KRV_AP.DRAINED (2 * x) && s.flag F.KRV_AP.DRAINED (2 * x + 1) && domOn s (sectorDom x))) s (fun s =>
    (zeroMemories xs s).wr F.CFG_LDSTAT.PHASE l (if (s.loader l).op = 3 then 6 else 4)))

/-- CLEAR_COMPLETE: every frame of the region is blank, and the region is EMPTY and stays closed (R335, R342). -/
def execClearComplete (leaf : Fin 4) (s : State) : Host.Outcome State Fault Refusal :=
  let l := leaf.val
  let r := opRegion s l
  done (guarded ((s.loader l).op == 3 && ldPhase s l == 6) s (fun s =>
    let xs := regionSectors s r
    let s1 := xs.foldl (fun t x => writeFrames (1280 * x) 1280 0 t) s
    let s2 := (opDone l (s1.wr F.CFG_LDCNT.WRITTEN l (1280 * xs.length))).wr F.CFG_RGN_CFG.STATE r 1
    trstCleared r (cfgEvent F.CFG_EVT.CLRDONE F.CFG_EVEN.CLRDONE l s2)))

/-- STALL: a load that waits for image data has had none for CFG_LDTMO.STALL ms (R340). -/
def execStall (leaf : Fin 4) (s : State) : Host.Outcome State Fault Refusal :=
  let l := leaf.val
  let c := s.loader l
  let waits := match c.hdr with
    | some h => decide (c.taken < h.bodyLen)
    | none => true
  let powered := (windowSectors s l).all (fun x => domOn s (sectorDom x))
  done (guarded ((ldPhase s l == 3 || ldPhase s l == 4) && c.op != 3 && waits && powered &&
    s.expired c.dataAt (1000000 * s.rd F.CFG_LDTMO.STALL 0)) s (fun s => trstAdvance (failNext l 18 s)))

/-! ### Header checks -/

/-- The header, and how long it is with its digest table. -/
def headLength (h : List Byte) : Nat := 352 + 48 * bytesAt h 0x30 4

/-- The header fields the load needs. -/
def parseHeader (h : List Byte) : ImgHeader :=
  ⟨bytesAt h 6 1, bytesAt h 7 1 % 2 == 1, bytesAt h 15 1, bytesAt h 0x14 4, bytesAt h 0x18 8, bytesAt h 0x30 4⟩

/-- Check 1 (R322). -/
def checkFormat (h : List Byte) : Bool :=
  bytesAt h 0 4 == 0x44524D4C && bytesAt h 4 2 == 0x0100 && bytesAt h 7 1 < 2 && bytesAt h 13 1 < 4 && bytesAt h 0x12 2 == 0 &&
    bytesAt h 0x2A 6 == 0 && bytesAt h 0xD0 48 == 0 && bytesAt h 0x30 4 == (bytesAt h 0x18 8 + 65535) / 65536

/-- Check 2. -/
def checkIdentity (h : List Byte) : Bool :=
  bytesAt h 8 2 == 0x00A7 && bytesAt h 10 2 == 0x28F0 && bytesAt h 12 1 == 4 &&
    (List.range 4).all (fun l => nbit (bytesAt h 13 1) (Config.dieRev l).val)

/-- Tenant n's image key hash (R346). -/
def tkhBytes (s : State) (n : Nat) : List Byte := (List.range 12).flatMap (fun k => natBytes 4 (s.reg .CFG_TKH (12 * n + k)).toNat)

/-- The hash of the public key matches the one the signing key stands for (R318). -/
def keyMatches (s : State) (sigkey owner : Nat) (pub : List Byte) : Bool :=
  let d := Config.sha384 pub
  if sigkey = 0 then d == Config.ranquetoHash
  else if sigkey = 1 then (match Config.platformHash with
    | some h => d == h
    | none => true)
  else digestBytes d == tkhBytes s owner

/-- Check 4: the signing key and key slot allowed for the target (R318). -/
def checkKey (s : State) (op owner : Nat) (h : List Byte) : Bool :=
  let enc := bytesAt h 7 1 == 1
  let slot := bytesAt h 15 1
  let want := if op = 2 ∨ owner = 16 then 1 else 2
  let slots := if enc then (if want = 1 then [0, 1] else [0, 2]) else [0]
  decide (op = 2 ∨ owner ≤ 16) && bytesAt h 14 1 == want && slots.contains slot && keyMatches s want owner ((h.drop 0x70).take 96)

/-- Checks 1 to 4, on leaf l: 0, or the code of the first that fails (R322). -/
def firstChecks (s : State) (l : Nat) (h : List Byte) : Nat :=
  let op := (s.loader l).op
  if !checkFormat h then 1
  else if !checkIdentity h then 2
  else if bytesAt h 6 1 ≠ (if op = 2 then 2 else 3) ∨ (op = 2 ∧ s.flag F.CFG_PINS.DONE 0) then 3
  else if !checkKey s op (s.rd F.CFG_RGN_CFG.OWNER (opRegion s l)) h then 4
  else 0

/-- Check 7 (R322). -/
def checkTarget (s : State) (l : Nat) (h : List Byte) : Bool :=
  if (s.loader l).op = 2 then bytesAt h 0x14 4 == 409600 && bytesAt h 16 2 == 0 && bytesAt h 0x20 10 == 0
  else
    let r := opRegion s l
    let st := s.rd F.CFG_RGN_CFG.STATE r
    bytesAt h 16 1 == r && bytesAt h 17 1 == s.rd F.CFG_RGN_CFG.LEAF r && bytesAt h 0x20 10 == regionMask s r &&
      bytesAt h 0x14 4 == 1280 * (regionSectors s r).length && (st == 1 || st == 3 || st == 4) && s.rd F.CFG_RGN_CFG.OWNER r != 31

/-- A region ward check (R376, R377): the owner's one-shot grant is used up, or the refusal is logged. -/
def regionWard (n op r : Nat) (s : State) : Bool × State :=
  match findGrant s n op r with
  | some k => (true, freeGrant n k s)
  | none => (false, vio n (wardLog 2 n op r s))

/-- Closing begins (R335): a region is LOADING. -/
def startClosing (l : Nat) (s : State) : State :=
  let s1 := s.wr F.CFG_LDSTAT.PHASE l 3
  let s2 := s1.setLoader l { s1.loader l with dataAt := s.stamp }
  closeWindow (windowSectors s l) (if (s.loader l).op = 2 then s2 else s2.wr F.CFG_RGN_CFG.STATE (opRegion s l) 2)

/-- Checks 5 to 8 (R322). -/
def lastChecks (l : Nat) (s : State) : State :=
  let c := s.loader l
  let h := c.head.take 352
  let o := s.rd F.CFG_RGN_CFG.OWNER (opRegion s l)
  if !Config.ecdsaOk ((h.drop 0x70).take 96) ((h.drop 0x100).take 96) (Config.sha384 (h.take 0x100)) then loadFail l 5 0x7FFFF s
  else if digestBytes (Config.sha384 (c.head.drop 352)) ≠ (h.drop 0x40).take 48 then loadFail l 6 0x7FFFF s
  else if !checkTarget s l h then loadFail l 7 0x7FFFF s
  else if c.op = 1 ∧ o < 16 then
    let (ok, s1) := regionWard o 1 (opRegion s l) s
    if ok then startClosing l s1 else loadFail l 8 0x7FFFF s1
  else startClosing l s

/-- SIGNATURE_VERIFIED: the one verifier has served the first of the controllers that wait for it (R323). -/
def execSignatureVerified (leaf : Fin 4) (s : State) : Host.Outcome State Fault Refusal :=
  done (guarded (ldPhase s leaf == 2 && s.cfg.verify.head? == some leaf.val) s (fun s =>
    trstAdvance (lastChecks leaf { s with cfg := { s.cfg with verify := s.cfg.verify.drop 1 } })))

/-- The image key hash of tenant n cannot be written: a load to a region of n is past check 4 (R346). -/
def tkhLocked (s : State) (n : Nat) : Bool :=
  (List.range 4).any (fun l => (s.loader l).op == 1 && decide (2 ≤ ldPhase s l) && s.rd F.CFG_RGN_CFG.OWNER (opRegion s l) == n)

/-! ### Image data -/

/-- The controller waits for data: it has not yet taken the whole image (R324). -/
def wantsData (s : State) (l : Nat) : Bool :=
  let c := s.loader l
  let p := ldPhase s l
  (c.op == 1 || c.op == 2) && decide (1 ≤ p ∧ p ≤ 4) && (match c.hdr with
    | some h => decide (c.taken < h.bodyLen)
    | none => true)

/-- Both chunk buffers are full: the ACK is withheld (R323, R324). -/
def buffersFull (c : Loader) : Bool := decide (131072 < c.body.length + c.plain.length + 64)

/-- Body bytes taken in, up to the image's length. -/
def takeBody (c : Loader) (h : ImgHeader) (l : List Byte) : Loader :=
  let b := l.take (h.bodyLen - c.taken)
  { c with body := c.body ++ b, taken := c.taken + b.length }

/-- The bytes of a flit taken by leaf l; with the header and the table held, the first checks run (R322). -/
def takeBytes (l : Nat) (b : List Byte) (s : State) : State :=
  let c := { s.loader l with dataAt := s.stamp }
  match c.hdr with
  | some h => s.setLoader l (takeBody c h b)
  | none =>
    let all := c.head ++ b
    if all.length < 352 ∨ all.length < headLength all then s.setLoader l { c with head := all }
    else
      let n := headLength all
      let h := parseHeader all
      let s1 := (s.setLoader l (takeBody { c with head := all.take n, hdr := some h } h (all.drop n))).wr F.CFG_LDSTAT.PHASE l 2
      match firstChecks s1 l all with
      | 0 => { s1 with cfg := { s1.cfg with verify := s1.cfg.verify ++ [l] } }
      | code + 1 => loadFail l (code + 1) 0x7FFFF s1

/-- The first IMG_DATA that waits is taken and acknowledged where a chunk buffer is free; beyond the end of the image it is refused. -/
def takeStep (l : Nat) (s : State) : State :=
  let c := s.loader l
  match c.waiting with
  | [] => s
  | h :: rest =>
    let s1 := s.setLoader l { c with waiting := rest }
    if !wantsData s l then imgRefused l h.src h.txn s1
    else if buffersFull c then s
    else takeBytes l h.bytes (imgAnswer l h.src h.txn .ack s1)

/-- Every IMG_DATA that waits and that the buffers have room for is taken (R324). -/
def takeHeld (l : Nat) (s : State) : State := (s.loader l).waiting.foldl (fun t _ => takeStep l t) s

/-- The Keeper DMA's record of an IMG_DATA it has sent. -/
def imgSent (l : Nat) (dma : Option Nat) (src txn : Nat) (s : State) : State :=
  match dma with
  | some c =>
    let o : Outst := ⟨.dma c, ⟨.write, src, ctlEp l, txn, keeperTag, 0, 64, 0, .none⟩, s.stamp, tmoWindow s⟩
    { s with net := { s.net with outst := s.net.outst ++ [o] } }
  | none => s

/-- IMG_DATA: `dma` says which Keeper DMA channel sends it, none while it stalls (R375); without one, `src` is another endpoint (R324).  Its
ACK is withheld while both chunk buffers are full. -/
def execImgData (leaf : Fin 4) (dma : Option (Fin 8)) (src : BitVec 13) (txn : BitVec 8) (data : BitVec 512) (s : State) :
    Host.Outcome State Fault Refusal :=
  let l := leaf.val
  let d := dma.map (·.val)
  let from_ := if d.isSome then dmaEp else src.toNat
  done (if d.any (dmaStalls s) || d.isSome && txnTaken s dmaEp txn.toNat then s
    else
      let s1 := imgSent l d from_ txn.toNat s
      if decide (from_ = dmaEp) && wantsData s l then
        let c := s1.loader l
        trstAdvance (takeHeld l (s1.setLoader l { c with waiting := c.waiting ++ [⟨d, from_, txn.toNat, lineBytes data⟩] }))
      else imgRefused l from_ txn.toNat s1)

/-- A tenant's image decryption key (R346). -/
def tekOf (s : State) (n : Nat) : BitVec 256 :=
  BitVec.ofNat 256 ((List.range 8).foldl (fun v k => v + (sget 0 s.cfg.tek (8 * n + k)).toNat * 2 ^ (32 * k)) 0)

/-- The plaintext of stored chunk i, where it matches the table and its tag verifies (R319, R323). -/
def openChunk (s : State) (l i : Nat) (c : Loader) (h : ImgHeader) (b : List Byte) : Option (List Byte) :=
  if digestBytes (Config.sha384 b) ≠ (c.head.drop (352 + 48 * i)).take 48 then none
  else if !h.enc then some b
  else
    let key := if h.keyslot = 2 then tekOf s (s.rd F.CFG_RGN_CFG.OWNER (opRegion s l)) else Config.fusedKey h.keyslot
    let iv := (c.head.drop 0x34).take 12
    let nonce := iv.take 8 ++ natBytes 4 ((leNat (iv.drop 8) + i) % 2 ^ 32)
    Config.gcmOpen key nonce (natBytes 4 i) b

/-- CHUNK_VERIFIED: the next chunk, once it is there whole, is checked and its plaintext joins the stream, or the load ends. -/
def execChunkVerified (leaf : Fin 4) (s : State) : Host.Outcome State Fault Refusal :=
  let l := leaf.val
  let c := s.loader l
  done (match c.hdr with
    | none => s
    | some h =>
      let n := min 65536 (h.bodyLen - 65536 * c.chunk)
      if (ldPhase s l = 3 ∨ ldPhase s l = 4) ∧ c.chunk < h.chunks ∧ n ≤ c.body.length then
        match openChunk s l c.chunk c h (c.body.take n) with
        | some p => s.setLoader l { c with body := c.body.drop n, plain := c.plain ++ p, chunk := c.chunk + 1 }
        | none => trstAdvance (failNext l 10 s)
      else s)

/-! ### Records -/

/-- A record's first word: its TYPE and ARG, and whether a reserved bit is set (R320). -/
def recWord (p : List Byte) : Nat × Nat × Bool :=
  let w := bytesAt p 0 4
  (w % 256, w / 256 % 2 ^ 19, decide (2 ^ 27 ≤ w))

/-- The length of a record. -/
def recLength (p : List Byte) : Nat :=
  match (recWord p).1 with
  | 1 => 520
  | 2 => 8
  | 3 => 8
  | 4 => 8 + 16 * (bytesAt p 6 2 % 2 ^ 14)
  | 5 => 20
  | _ => 4

/-- A record leaves the stream, which may free a chunk buffer. -/
def eatRecord (l n : Nat) (s : State) : State :=
  takeHeld l (s.setLoader l { s.loader l with plain := (s.loader l).plain.drop n })

/-- What CFG_LDERR names when a record's own form ends the load: the first frame of a FRAME, ZERO or REPEAT record, the ARG of a MEMINIT, else the
next frame the load would have written (R339). -/
def recordFrame (s : State) (l typ arg : Nat) : Nat := if 1 ≤ typ ∧ typ ≤ 4 then arg else nextFrame s l

/-- A record of TYPE `typ` is processed where it is the next of leaf l's stream: `act` gets its ARG and its bytes.  An unknown TYPE and a
reserved bit end the load (R321). -/
def recordRow (l typ : Nat) (act : Nat → List Byte → State → State) (s : State) : State :=
  let p := (s.loader l).plain
  if ldPhase s l ≠ 4 ∨ p.length < 4 then s
  else
    let (t, arg, bad) := recWord p
    if bad ∨ t = 0 ∨ 6 < t then trstAdvance (loadFail l 13 (recordFrame s l t arg) s)
    else if t ≠ typ ∨ p.length < recLength p then s
    else act arg (p.take (recLength p)) s

/-- The part of a run of frames that leaf l's controller writes itself, and the part it forwards in a full load (R341). -/
def putFrames (l f n : Nat) (v : Frame) (s : State) : State :=
  let c := s.loader l
  let own := if c.op = 2 then min n (102400 - f) else n
  let s1 := writeFrames f own v s
  let s2 := if own < n then { s1 with cfg := { s1.cfg with fwd := s1.cfg.fwd ++ [.frames (f + own) (n - own) v] } } else s1
  (s2.setLoader l { c with next := f + n, written := c.written + n, last := some v, content := true }).wr
    F.CFG_LDCNT.WRITTEN l (c.written + n)

/-- The first frame of a run outside the window (R321). -/
def outside (s : State) (l f n : Nat) : Option Nat :=
  if !inWindow s l (f / 1280) then some f
  else ((List.range 320).find? (fun x => decide (f < 1280 * x ∧ 1280 * x < f + n) && !inWindow s l x)).map (1280 * ·)

/-- A run of frames under the rules of R321 that follow RECORD. -/
def frameRules (l f n : Nat) (v : Frame) (len : Nat) (s : State) : State :=
  match outside s l f n with
  | some g => loadFail l 11 g s
  | none =>
    if f < (s.loader l).next then loadFail l 12 f s
    else if classifyFrame v ≠ .clean then loadFail l 14 f s
    else putFrames l f n v (eatRecord l len s)

/-- FRAME. -/
def execFrame (leaf : Fin 4) (s : State) : Host.Outcome State Fault Refusal :=
  let l := leaf.val
  done (recordRow l 1 (fun f b s =>
    let v : Frame := BitVec.ofNat 4112 (bytesAt b 4 514)
    trstAdvance (if 2 ≤ frameClass v ∨ bytesAt b 518 2 ≠ 0 then loadFail l 13 f s else frameRules l f 1 v 520 s)) s)

/-- ZERO. -/
def execZero (leaf : Fin 4) (s : State) : Host.Outcome State Fault Refusal :=
  let l := leaf.val
  done (recordRow l 2 (fun f b s =>
    let n := bytesAt b 4 4
    trstAdvance (if n = 0 ∨ 409600 < f + n then loadFail l 13 f s else frameRules l f n 0 8 s)) s)

/-- REPEAT. -/
def execRepeatRecord (leaf : Fin 4) (s : State) : Host.Outcome State Fault Refusal :=
  let l := leaf.val
  done (recordRow l 3 (fun f b s =>
    let n := bytesAt b 4 4
    trstAdvance (match (s.loader l).last with
      | none => loadFail l 13 f s
      | some v => if n = 0 ∨ 409600 < f + n then loadFail l 13 f s else frameRules l f n v 8 s)) s)

/-- The codeword that a MEMINIT word of 16 bytes gives (R320): raw bits for a block RAM with ECC off. -/
def meminitCode (s : State) (vault : Bool) (inst : Nat) (v : BitVec 128) : Codeword :=
  if vault then encodeWord 137 v
  else if (bramAt (sectorFrames s (inst / 16)) (inst % 16)).ecc then encodeWord 72 ((v.setWidth 64).setWidth 128)
  else (v.setWidth 72).setWidth 137

/-- A MEMINIT word stored by the controller of its leaf, under the frames written by then (log entry 104). -/
def meminitWord (vault : Bool) (inst w : Nat) (v : BitVec 128) (s : State) : State :=
  setCode (if vault then .vault else .bram) inst w (meminitCode s vault inst v) s

/-- The words of a MEMINIT record, stored or forwarded. -/
def meminitWords (l : Nat) (vault : Bool) (inst first : Nat) (b : List Byte) (s : State) : State :=
  let n := bytesAt b 6 2 % 2 ^ 14
  let leaf := instLeaf (if vault then .vault else .bram) inst
  (List.range n).foldl (fun t j =>
    let v := BitVec.ofNat 128 (bytesAt b (8 + 16 * j) 16)
    if (t.loader l).op = 2 ∧ leaf ≠ 0 then
      { t with cfg := { t.cfg with fwd := t.cfg.fwd ++ [.mem vault inst (first + j) v] } }
    else meminitWord vault inst (first + j) v t) s

/-- MEMINIT. -/
def execMeminit (leaf : Fin 4) (s : State) : Host.Outcome State Fault Refusal :=
  let l := leaf.val
  let fails (b : List Byte) (arg : Nat) : Bool :=
    let w := bytesAt b 4 4
    let n := w / 2 ^ 16 % 2 ^ 14
    decide (arg / 2 ^ 13 % 32 ≠ 0 ∨ w / 2 ^ 13 % 8 ≠ 0 ∨ 2 ^ 30 ≤ w ∨ n = 0 ∨
      (if nbit arg 18 then 8192 else 1024) < w % 2 ^ 13 + n)
  let p := (s.loader l).plain
  -- a record that breaks RECORD ends the load before its words are there
  done (if ldPhase s l = 4 ∧ 8 ≤ p.length ∧ recWord p = (4, (recWord p).2.1, false) ∧ fails p (recWord p).2.1 then
      trstAdvance (loadFail l 13 (recWord p).2.1 s)
    else recordRow l 4 (fun arg b s =>
      let vault := nbit arg 18
      let inst := arg % 2 ^ 13
      let n := if vault then 640 else 5120
      trstAdvance (if n ≤ inst ∨ !inWindow s l (if vault then inst / 2 else inst / 16) then loadFail l 17 arg s
      else
        let s1 := eatRecord l (recLength b) s
        meminitWords l vault inst (bytesAt b 4 2 % 2 ^ 13) b (s1.setLoader l { s1.loader l with content := true }))) s)

/-- RGNDEF (R321, R333). -/
def execRgndef (leaf : Fin 4) (s : State) : Host.Outcome State Fault Refusal :=
  let l := leaf.val
  done (recordRow l 5 (fun r b s =>
    let mask := bytesAt b 6 10
    let lf := bytesAt b 4 1 % 4
    let defs := s.cfg.defs
    trstAdvance (if (s.loader l).op ≠ 2 ∨ (s.loader l).content ∨ 63 < r ∨ 8 ≤ bytesAt b 4 1 ∨ bytesAt b 5 1 ≠ 0 ∨
        bytesAt b 16 4 ≠ 0 then failNext l 13 s
    else if mask = 0 ∨ defs.any (fun d => d.1 == r || (d.2.1 == lf && d.2.2.2 &&& mask != 0)) then loadFail l 19 0x7FFFF s
    else
      let s1 := eatRecord l 20 s
      { s1 with cfg := { s1.cfg with defs := defs ++ [(r, lf, nbit (bytesAt b 4 1) 2, mask)] } })) s)

/-- FRAME_FWD: the first item that the L0 controller has forwarded to this leaf is written (R324, R341). -/
def takeFwd (leaf : Nat) : List FwdItem → Option (FwdItem × List FwdItem)
  | [] => none
  | .frames f n v :: rest =>
    if f / 102400 = leaf ∧ 0 < n then
      some (.frames f 1 v, if n = 1 then rest else .frames (f + 1) (n - 1) v :: rest)
    else (takeFwd leaf rest).map (fun e => (e.1, .frames f n v :: e.2))
  | .mem vault inst w c :: rest =>
    if instLeaf (if vault then .vault else .bram) inst = leaf then some (.mem vault inst w c, rest)
    else (takeFwd leaf rest).map (fun e => (e.1, .mem vault inst w c :: e.2))

/-- FRAME_FWD. -/
def execFrameFwd (leaf : Fin 4) (src : BitVec 13) (s : State) : Host.Outcome State Fault Refusal :=
  done (if src.toNat ≠ ctlEp 0 then s
    else match takeFwd leaf s.cfg.fwd with
      | none => s
      | some (.frames f n v, rest) => writeFrames f n v { s with cfg := { s.cfg with fwd := rest } }
      | some (.mem vault inst w v, rest) => meminitWord vault inst w v { s with cfg := { s.cfg with fwd := rest } })

/-- The regions of a full image take their definitions (R333, R335). -/
def defineRegions (s : State) : State :=
  s.cfg.defs.foldl (fun t d =>
    let (r, lf, st, mask) := d
    let xs := bitsOf mask 80
    let t1 := (((t.wr F.CFG_RGN_CFG.OWNER r (if st then 16 else 31)).wr F.CFG_RGN_CFG.STATE r (if st then 3 else 1)).wr
      F.CFG_RGN_CFG.LEAF r lf).wr F.CFG_RGN_CFG.STATIC r (b2n st)
    let t2 := (((t1.wr F.CFG_RGN_CFG.NSECT r xs.length).wr F.CFG_RGN_MASK0.SECT r mask).wr F.CFG_RGN_MASK1.SECT r (mask / 2 ^ 32)).wr
      F.CFG_RGN_MASK2.SECT r (mask / 2 ^ 64)
    xs.foldl (fun u i => (u.wr F.CFG_SECT.REGION (80 * lf + i) r).on F.CFG_SECT.INRGN (80 * lf + i)) t2) s

/-- The sectors that a full image opens: all but those of the tenant-assignable regions it defines (R343). -/
def fullOpens (s : State) : List Nat :=
  (List.range 320).filter (fun x => !s.cfg.defs.any (fun d => !d.2.2.1 && d.2.1 == x / 80 && d.2.2.2.testBit (x % 80)))

/-- Every memory of the sectors has finished its self-tests (R153). -/
def sectorsTested (s : State) (xs : List Nat) : Bool :=
  let ended (k : MemKind) (i : Nat) : Bool := sget 0 s.mem.tested (instKey k i) != 0
  xs.all (fun x => (List.range 16).all (fun j => ended .bram (16 * x + j)) && ended .vault (2 * x) && ended .vault (2 * x + 1))

/-- A full image is released: its regions exist, every sector but those of tenant-assignable regions opens, CONF_DONE is high (R332,
R333, R335, R343). -/
def fullRelease (s : State) : State :=
  let s1 := defineRegions s
  let s2 := releaseSectors (fullOpens s) { s1 with cfg := { s1.cfg with defs := [], retryAt := 0 } }
  ((s2.on F.CFG_PINS.DONE 0).off F.CFG_PINS.ERR 0).wr F.CFG_BOOT_STAT.STAGE 0 4

/-- END: the counts are checked, and the window is released once its memories have finished their self-tests (R153, R321, R343).  A stream that has no further record ends here too. -/
def execEndRecord (leaf : Fin 4) (s : State) : Host.Outcome State Fault Refusal :=
  let l := leaf.val
  let c := s.loader l
  let whole := c.hdr.any (fun h => decide (h.chunks ≤ c.chunk))
  done (if ldPhase s l = 4 ∧ whole ∧ (c.plain.length < 4 ∨
        (c.plain.length < recLength c.plain ∧ 1 ≤ (recWord c.plain).1 ∧ (recWord c.plain).1 ≤ 6 ∧ (recWord c.plain).2.2 = false)) then
      trstAdvance (failNext l 15 s)
    else recordRow l 6 (fun arg _ s =>
      let frames := (c.hdr.map (·.frames)).getD 0
      let xs := windowSectors s l
      if arg ≠ 0 then trstAdvance (failNext l 13 s)
      else if c.written ≠ frames ∨ c.written ≠ 1280 * xs.length then trstAdvance (failNext l 15 s)
      else if !s.cfg.fwd.isEmpty || !sectorsTested s (if c.op = 2 then fullOpens s else xs) then s
      else
        let s1 := opDone l s
        let s2 := if c.op = 2 then fullRelease s1
          else (releaseSectors xs s1).wr F.CFG_RGN_CFG.STATE (opRegion s l) 3
        trstAdvance (cfgEvent F.CFG_EVT.LDDONE F.CFG_EVEN.LDDONE l s2)) s)

/-! ### Owners and readback -/

/-- A write of CFG_RGNr_CFG: REJECT is written one to clear, and OWNER under R334. -/
def rgnCfgWrite (r : Nat) (v : Word) (s : State) : State :=
  let s1 := if F.CFG_RGN_CFG.REJECT.of v = 1 then s.off F.CFG_RGN_CFG.REJECT r else s
  let o := F.CFG_RGN_CFG.OWNER.of v
  if o = s.rd F.CFG_RGN_CFG.OWNER r then s1
  else if !s.flag F.CFG_RGN_CFG.STATIC r && s.rd F.CFG_RGN_CFG.STATE r == 1 && (o == 31 || (decide (o < 16) && headExists s o)) then
    s1.wr F.CFG_RGN_CFG.OWNER r o
  else s1.on F.CFG_RGN_CFG.REJECT r

/-- REGION_OWNER_WRITE. -/
def execRegionOwnerWrite (r : Fin 64) (v : Word) (s : State) : Host.Outcome State Fault Refusal := done (rgnCfgWrite r v s)

/-- The region of a frame's sector, where it has one. -/
def frameRegion (s : State) (f : Nat) : Option Nat :=
  if s.flag F.CFG_SECT.INRGN (f / 1280) then some (s.rd F.CFG_SECT.REGION (f / 1280)) else none

/-- The owner of a frame: its region's tenant, or 16 (R359; log entry 217). -/
def frameOwner (s : State) (f : Nat) : Nat :=
  match frameRegion s f with
  | some r => if s.rd F.CFG_RGN_CFG.OWNER r < 16 then s.rd F.CFG_RGN_CFG.OWNER r else 16
  | none => 16

/-- What a read-back says of the frame's check bits (R344). -/
def showVerdict (k : Decoded) (s : State) : State :=
  match k with
  | .clean => (s.off F.CFG_FRD_STAT.CE 0).off F.CFG_FRD_STAT.UE 0
  | .corrected _ => (s.on F.CFG_FRD_STAT.CE 0).off F.CFG_FRD_STAT.UE 0
  | .uncorrectable => (s.off F.CFG_FRD_STAT.CE 0).on F.CFG_FRD_STAT.UE 0

/-- A frame read back into CFG_FRD_DATA (R344). -/
def showFrame (v : Frame) (s : State) : State :=
  showVerdict (classifyFrame v)
    (((List.range 129).foldl (fun t k => t.setReg .CFG_FRD_DATA k ((v >>> (32 * k)).setWidth 32)) s).on F.CFG_FRD_STAT.VALID 0)

/-- A write of CFG_FRD_CMD (R344, R376). -/
def frameReadback (v : Word) (s : State) : State :=
  let f := F.CFG_FRD_CMD.FRAME.of v
  let refuse (t : State) : State := (t.off F.CFG_FRD_STAT.VALID 0).on F.CFG_FRD_STAT.DENIED 0
  if F.CFG_FRD_CMD.GO.of v = 0 then s
  else if 409600 ≤ f then refuse s
  else if frameOwner s f = 16 then showFrame (frameNow s f) s
  else
    let (ok, s1) := regionWard (frameOwner s f) 2 ((frameRegion s f).getD 0) s
    if ok then showFrame (frameNow s f) s1 else refuse s1

/-- FRAME_READBACK. -/
def execFrameReadback (v : Word) (s : State) : Host.Outcome State Fault Refusal := done (frameReadback v s)

/-- BOOT_RETRY: the wait after a failed attempt ends, and the next attempt reads the flash of its number (R331). -/
def execBootRetry (s : State) : Host.Outcome State Fault Refusal :=
  let st := s.rd F.CFG_BOOT_STAT.STAGE 0
  done (guarded (s.cfg.retryAt != 0 && decide (s.cfg.retryAt ≤ s.dtcNow) && (st == 5 || st == 6)) s (fun s =>
    let s1 := setAttempt (s.cfg.attempt + 1) { s with cfg := { s.cfg with retryAt := 0 } }
    let src := flashOf (s.rd F.CFG_BOOT_STAT.BOOT_MODE 0) s1.cfg.attempt
    if st = 5 then
      (s1.wr F.CFG_BOOT_STAT.STAGE 0 0).wr F.CFG_BOOT_STAT.KSRC 0 (if s.rd F.CFG_BOOT_STAT.BOOT_MODE 0 = 4 then 3 else src)
    else (s1.wr F.CFG_BOOT_STAT.STAGE 0 3).wr F.CFG_BOOT_STAT.FSRC 0 src))

end Sys2Proof.Machine
end

