-- ==== Sys2Proof/Machine/TmbArith.lean ====
section
/-! DEFINITION. The arithmetic of the tumbler instructions (R177–R185), on plain values. -/

namespace Sys2Proof.Machine
open Sys2Proof

/-! ### Elements and lanes -/

/-- Element k of width w of a vector (R168). -/
def elem (w k : Nat) (x : Line) : Nat := x.toNat / 2 ^ (w * k) % 2 ^ w

/-- A vector from `n` elements of width w. -/
def packLine (w n : Nat) (f : Nat → Nat) : Line :=
  BitVec.ofNat 512 ((List.range n).foldl (fun a k => a + f k % 2 ^ w * 2 ^ (w * k)) 0)

/-- Lane k of width w of an accumulator (R166). -/
def aLane (w k : Nat) (a : BitVec 2048) : Nat := a.toNat / 2 ^ (w * k) % 2 ^ w

/-- An accumulator from its lanes of width w. -/
def packAcc (w : Nat) (f : Nat → Nat) : BitVec 2048 :=
  BitVec.ofNat 2048 ((List.range (2048 / w)).foldl (fun a k => a + f k % 2 ^ w * 2 ^ (w * k)) 0)

/-- A value of width w, unsigned or signed. -/
def numOf (u : Bool) (w v : Nat) : Int := if u then (v : Int) else toSigned w v

/-- The element width of type t (R168). -/
def elemWidth (t : Nat) : Nat := 8 * 2 ^ t

/-- A vector computed element by element. -/
def mapElems (t : Nat) (f : Nat → Nat) : Line := packLine (elemWidth t) (512 / elemWidth t) f

/-- The count of redundant sign bits of a w-bit value (R182). -/
def redundant (w v : Nat) : Nat :=
  let top := v.testBit (w - 1)
  ((List.range (w - 1)).map (fun j => w - 2 - j)).takeWhile (fun k => v.testBit k == top) |>.length

/-- The unbiased exponent of a binary32 value (R182). -/
def expOf (v : Nat) : Int := (v / 2 ^ 23 % 256 : Nat) - 127

/-- A rounding code (R170); code 3 is reserved. -/
def roundOf : Nat → IntRound
  | 1 => .halfUp
  | 2 => .halfEven
  | _ => .trunc

/-- The positions of the sticky bits of STATUS (R167). -/
def stSat : Word := 0x4
/-- AOVF. -/
def stAovf : Word := 0x8
/-- FINV. -/
def stFinv : Word := 0x10
/-- FOVF. -/
def stFovf : Word := 0x20
/-- ILL. -/
def stIll : Word := 0x40
/-- MERR. -/
def stMerr : Word := 0x80

/-- A flag where a condition holds. -/
def flagIf (b : Bool) (f : Word) : Word := if b then f else 0

/-! ### Scalar operations -/

/-- The 32 bits of a signed number. -/
def word32 (v : Int) : Word := BitVec.ofNat 32 (ofSigned 32 v)

/-- A 17-bit immediate, sign-extended. -/
def sext17 (v : Nat) : Word := word32 (toSigned 17 v)

/-- The signed high word of a product (R177). -/
def mulHigh (a b : Word) : Word := word32 (a.toInt * b.toInt / 2 ^ 32)

/-- SATS: shifted, rounded and saturated to `n` bits, and whether it saturated (R181). -/
def satScalar (v : Word) (sh rnd n : Nat) : Word × Bool :=
  let r := shiftRound (roundOf rnd) sh v.toInt
  (word32 (satSigned n r), !inSigned n r)

/-! ### Accumulators -/

/-- The exact update of a lane by VMAC (0), VMSU (1) or VMPY (2). -/
def macExact (kind : Nat) (z p : Int) : Int := if kind = 0 then z + p else if kind = 1 then z - p else p

/-- The integer MACs: lanes of width lw take products of elements of width ew; AOVF where an exact result leaves the lane's range
(R179). -/
def macInt (kind ew lw : Nat) (u : Bool) (a : BitVec 2048) (x y : Line) : BitVec 2048 × Word :=
  let exact (k : Nat) : Int := macExact kind (numOf u lw (aLane lw k a)) (numOf u ew (elem ew k x) * numOf u ew (elem ew k y))
  let out (k : Nat) : Bool := if u then decide (exact k < 0) || decide ((2 : Int) ^ lw ≤ exact k) else !inSigned lw (exact k)
  (packAcc lw (fun k => ofSigned lw (exact k)), flagIf ((List.range (2048 / lw)).any out) stAovf)

/-- One lane of the binary32 MACs: its bits and flags (R179). -/
def macFpLane (kind z x y : Nat) : Nat × Word :=
  let fx := fp32 true x
  let fy := fp32 true y
  let fz := fp32 true z
  let r := if kind = 2 then fpProd .nearest true fx fy else fpFma .nearest true false (kind == 1) fz fx fy
  let nan := fpIsNaN fx || fpIsNaN fy || (kind != 2 && fpIsNaN fz)
  (r.bits, flagIf (r.invalid || nan) stFinv ||| flagIf r.overflow stFovf)

/-- The binary32 MACs on FP lanes 8H to 8H + 7; the other bits stay (R166, R179). -/
def macFp (kind : Nat) (h : Bool) (a : BitVec 2048) (x y : Line) : BitVec 2048 × Word :=
  let lo := if h then 8 else 0
  let lane (k : Nat) : Nat × Word := macFpLane kind (aLane 32 k a) (elem 32 k x) (elem 32 k y)
  (packAcc 32 (fun k => if lo ≤ k ∧ k < lo + 8 then (lane k).1 else aLane 32 k a),
   (List.range 8).foldl (fun f j => f ||| (lane (lo + j)).2) 0)

/-- The exponent of block b of an operand from byte `lo` of a scalar (R168). -/
def blockExp (bsz : Bool) (w : Word) (lo k : Nat) : Nat := getF w (8 * (lo + if bsz then 0 else k / 16)) 8

/-- One lane of VMACB and VMPYB: its exact new value and whether AOVF is set (R180). -/
def macbLane (add : Bool) (z : Int) (d : Int) (p : Int) : Int × Bool :=
  if d > 31 ∧ p ≠ 0 then (if p < 0 then -(2 ^ 63) else 2 ^ 63 - 1, true)
  else
    let term := if d > 31 then 0 else if d ≥ 0 then p * 2 ^ d.toNat else if d ≥ -63 then p / 2 ^ (-d).toNat else 0
    let r := if add then z + term else term
    (r, add && !inSigned 64 r)

/-- VMACB and VMPYB (R180). -/
def macb (add bsz : Bool) (a : AccRec) (x y : Line) (exps : Word) : BitVec 2048 × Word :=
  let lane (k : Nat) : Int × Bool :=
    let d : Int := blockExp bsz exps 0 k + blockExp bsz exps 2 k - 127 - a.exp
    macbLane add (toSigned 64 (aLane 64 k a.bits)) d (toSigned 16 (elem 16 k x) * toSigned 16 (elem 16 k y))
  (packAcc 64 (fun k => ofSigned 64 (lane k).1), flagIf ((List.range 32).any (fun k => (lane k).2)) stAovf)

/-- What an accumulator writer makes of the accumulator in its fourth stage, and the sticky flags it sets (R173). -/
def accWrite (a : AccRec) : AccOp → AccRec × Word
  | .mac kind t u h x y =>
    let (b, f) := if t = 0 then macInt kind 8 32 u a.bits x y
      else if t = 1 then macInt kind 16 64 u a.bits x y
      else macFp kind h a.bits x y
    ({ a with bits := b }, f)
  | .macb add bsz x y exps =>
    let (b, f) := macb add bsz a x y exps
    ({ a with bits := b }, f)
  | .clear e => (⟨0, e⟩, 0)
  | .slice q x => ({ a with bits := packAcc 512 (fun k => if k = q then x.toNat else aLane 512 k a.bits) }, 0)

/-- VSAT (R181). -/
def vsat (a : BitVec 2048) (view : Bool) (outt part sh rnd : Nat) : Line × Word :=
  let lw := if view then 64 else 32
  let ow := elemWidth outt
  let n := 512 / ow
  let r (k : Nat) : Int := shiftRound (roundOf rnd) sh (toSigned lw (aLane lw (part * n + k) a))
  let real (k : Nat) : Bool := decide (part * n + k < 2048 / lw)
  (packLine ow n (fun k => if real k then ofSigned ow (satSigned ow (r k)) else 0),
   flagIf ((List.range n).any (fun k => real k && !inSigned ow (r k))) stSat)

/-- The elements of block b: both blocks of 16, or one of 32 (R168). -/
def blockElems (bsz : Bool) (b : Nat) : List Nat := if bsz then List.range 32 else (List.range 16).map (· + 16 * b)

/-- The smallest of a list of numbers, at most `m`. -/
def minOf (m : Nat) (l : List Nat) : Nat := l.foldl min m

/-- The two exponent bytes an instruction writes: with one block, byte 1 is a copy of byte 0 (R168). -/
def expBytes (bsz : Bool) (f : Nat → Nat) : Word := BitVec.ofNat 32 (f 0 + 256 * f (if bsz then 0 else 1))

/-- BNORM (R183). -/
def bnorm (bsz : Bool) (x : Line) (exps : Word) : Line × Word :=
  let e (b : Nat) : Nat := getF exps (8 * b) 8
  let r (b : Nat) : Nat := minOf (e b) ((blockElems bsz b).map (fun k => redundant 16 (elem 16 k x)))
  let blk (k : Nat) : Nat := if bsz then 0 else k / 16
  (packLine 16 32 (fun k => elem 16 k x * 2 ^ r (blk k)), expBytes bsz (fun b => e b - r b))

/-- The shift of a block of BNORMA, limited so that the exponent stays in range, and whether it was above 255 (R184). -/
def bnormaShift (bsz : Bool) (a : AccRec) (b : Nat) : Int × Bool :=
  let r := minOf 63 ((blockElems bsz b).map (fun k => redundant 64 (aLane 64 k a.bits)))
  let q : Int := max (48 - r) (-a.exp)
  if a.exp + q > 255 then (255 - a.exp, true) else (q, false)

/-- BNORMA: the vector, the exponent bytes, and the sticky flags (R184). -/
def bnorma (bsz : Bool) (a : AccRec) : Line × Word × Word :=
  let blk (k : Nat) : Nat := if bsz then 0 else k / 16
  let v (k : Nat) : Int :=
    let q := (bnormaShift bsz a (blk k)).1
    let x := toSigned 64 (aLane 64 k a.bits)
    if q ≥ 0 then shiftRound .halfEven q.toNat x else x * 2 ^ (-q).toNat
  let tooBig := (bnormaShift bsz a 0).2 || (!bsz && (bnormaShift bsz a 1).2)
  (packLine 16 32 (fun k => ofSigned 16 (satSigned 16 (v k))),
   expBytes bsz (fun b => ((a.exp : Int) + (bnormaShift bsz a b).1).toNat),
   flagIf tooBig stAovf ||| flagIf ((List.range 32).any (fun k => !inSigned 16 (v k))) stSat)

/-! ### Addresses -/

/-- The lowest k bits of a number reversed. -/
def revBits (k v : Nat) : Nat := (List.range k).foldl (fun a j => if v.testBit j then a + 2 ^ (k - 1 - j) else a) 0

/-- PA after a POST access (R185). -/
def postModify (p : PtrRec) : Nat :=
  let o := (p.pa + 65536 - p.pb) % 65536
  let len := if p.pl = 0 then 65536 else p.pl
  if p.mode = 0 then (p.pa + p.ps) % 65536
  else if p.mode = 1 then
    let o1 : Int := o + toSigned 16 p.ps
    let o2 := if o1 ≥ len then o1 - len else if o1 < 0 then o1 + len else o1
    ofSigned 16 (p.pb + o2)
  else if p.mode = 2 then
    let k := Nat.log2 len
    let low := revBits k ((revBits k o + revBits k p.ps) % 2 ^ k)
    (p.pb + (o / 2 ^ k * 2 ^ k + low)) % 65536
  else p.pa

/-- The address of an access: PA + OFF, modulo 65,536 (R165, R185). -/
def accessAddr (p : PtrRec) (off : Nat) : Nat := ofSigned 16 (p.pa + toSigned 16 off)

end Sys2Proof.Machine
end

