-- ==== Sys2Proof/Machine/Tumbler.lean ====
section
/-! DEFINITION. A tumbler engine: its registers, views, memories, stream links and window queue (R164–R168, R195–R203, R211, R217), and
what its bundles may do in a cycle (R169–R171, R176). -/

namespace Sys2Proof.Machine
open Sys2Proof

/-! ### Records -/

/-- The record of engine e. -/
def State.eng (s : State) (e : Nat) : EngineRec := sget .idle s.tmb.eng e

/-- The state with it replaced. -/
def State.setEng (s : State) (e : Nat) (r : EngineRec) : State := { s with tmb := { s.tmb with eng := sset .idle s.tmb.eng e r } }

/-- The state with the record of engine e changed. -/
def State.modEng (s : State) (e : Nat) (f : EngineRec → EngineRec) : State := s.setEng e (f (s.eng e))

/-- The bank of an engine: true for the shadow bank (R164). -/
def EngineRec.regs (r : EngineRec) (b : Bool) : TmbBank := if b then r.shad else r.prim

/-- The engine with a bank replaced. -/
def EngineRec.setRegs (r : EngineRec) (b : Bool) (k : TmbBank) : EngineRec := if b then { r with shad := k } else { r with prim := k }

/-- Scalar register n of a bank. -/
def EngineRec.sreg (r : EngineRec) (b : Bool) (n : Nat) : Word := sget 0 (r.regs b).s n

/-- The scalar register written. -/
def EngineRec.setSreg (r : EngineRec) (b : Bool) (n : Nat) (v : Word) : EngineRec :=
  r.setRegs b { r.regs b with s := sset 0 (r.regs b).s n v }

/-- Pointer n of a bank. -/
def EngineRec.ptr (r : EngineRec) (b : Bool) (n : Nat) : PtrRec := sget .zero (r.regs b).p n

/-- The pointer written. -/
def EngineRec.setPtr (r : EngineRec) (b : Bool) (n : Nat) (v : PtrRec) : EngineRec :=
  r.setRegs b { r.regs b with p := sset .zero (r.regs b).p n v }

/-- Loop level n of a bank. -/
def EngineRec.loopLv (r : EngineRec) (b : Bool) (n : Nat) : LoopRec := sget .zero (r.regs b).lp n

/-- The loop level written. -/
def EngineRec.setLoop (r : EngineRec) (b : Bool) (n : Nat) (v : LoopRec) : EngineRec :=
  r.setRegs b { r.regs b with lp := sset .zero (r.regs b).lp n v }

/-- Vector register n. -/
def EngineRec.vreg (r : EngineRec) (n : Nat) : Line := sget 0 r.v n

/-- Accumulator n. -/
def EngineRec.acc (r : EngineRec) (n : Nat) : AccRec := sget .zero r.a n

/-- A field of a pointer (R170). -/
def ptrField (p : PtrRec) (f : Nat) : Nat :=
  if f = 0 then p.pa else if f = 1 then p.ps else if f = 2 then p.pb else if f = 3 then p.pl else p.mode

/-- A field of a pointer written, in its width (R164). -/
def ptrSet (p : PtrRec) (f v : Nat) : PtrRec :=
  if f = 0 then { p with pa := v % 65536 } else if f = 1 then { p with ps := v % 65536 }
  else if f = 2 then { p with pb := v % 65536 } else if f = 3 then { p with pl := v % 65536 } else { p with mode := v % 4 }

/-! ### Control registers -/

/-- The reset value of a control register (R167). -/
def crReset (n : Nat) : Word := if n = 0x0A then 0xFFFFFFFF else 0

/-- The stored value of a control register. -/
def EngineRec.crGet (r : EngineRec) (n : Nat) : Word := sget (crReset n) r.cr n

/-- The control register stored. -/
def EngineRec.crSet (r : EngineRec) (n : Nat) (v : Word) : EngineRec := { r with cr := sset (crReset n) r.cr n v }

/-- Cause bits of EVT set. -/
def EngineRec.setEvt (r : EngineRec) (bits : Word) : EngineRec := r.crSet 1 (r.crGet 1 ||| bits)

/-- Sticky bits of STATUS set. -/
def EngineRec.setSticky (r : EngineRec) (bits : Word) : EngineRec := r.crSet 0 (r.crGet 0 ||| bits)

/-- The input FIFO of a direction (R197). -/
def EngineRec.fifoOf (r : EngineRec) (d : Nat) : List Line := sget [] r.fifo d

/-- The credits held for a direction; a sender starts with 4 (R197). -/
def EngineRec.creditsOf (r : EngineRec) (d : Nat) : Nat := sget 4 r.credits d

/-- The FIFO replaced. -/
def EngineRec.setFifo (r : EngineRec) (d : Nat) (l : List Line) : EngineRec := { r with fifo := sset [] r.fifo d l }

/-- The credits replaced. -/
def EngineRec.setCredits (r : EngineRec) (d n : Nat) : EngineRec := { r with credits := sset 4 r.credits d n }

/-- The window request that WOFF shows (R217). -/
def EngineRec.whead (r : EngineRec) : Option WinReq :=
  match r.wq with
  | q :: _ => if q.wait = 0 then some q else none
  | [] => none

/-- EVT as a program reads it: STREAM follows the FIFOs that SEVSEL selects (R167). -/
def EngineRec.evtView (r : EngineRec) : Word :=
  let stream := (List.range 4).any (fun d => (r.crGet 8).getLsbD d && !(r.fifoOf d).isEmpty)
  (r.crGet 1 &&& 0xFD) ||| flagIf stream 2

/-- An enabled cause is pending (R190). -/
def EngineRec.causePending (r : EngineRec) : Bool := r.evtView &&& r.crGet 2 != 0

/-- STATUS.IE. -/
def EngineRec.ie (r : EngineRec) : Bool := (r.crGet 0).getLsbD 0

/-! ### Sets and links -/

/-- The tenant and clock under which the engine may issue: the root has an epoch and ECK of its leaf runs (R48, R49, R209). -/
def eckOn (s : State) (e : Nat) : Bool := s.flag F.CLK_ROOT_STAT.EPOCH 0 && s.flag F.CLK_ECK.EN (e / 128)

/-- The neighbour of an engine in direction d, 0 N, 1 E, 2 S, 3 W, where one exists (R18, R196). -/
def neighbour (e d : Nat) : Option Nat :=
  let row := e / 16 % 8
  let col := e % 16
  if d = 0 then (if row = 0 then none else some (e - 16))
  else if d = 1 then (if col = 15 then none else some (e + 1))
  else if d = 2 then (if row = 7 then none else some (e + 16))
  else (if col = 0 then none else some (e - 1))

/-- The neighbour over an open link: both engines are in one set (R196). -/
def openLink (s : State) (e d : Nat) : Option Nat :=
  match neighbour e d with
  | some f => if (engineSet s e).isSome && engineSet s e == engineSet s f then some f else none
  | none => none

/-- SSTAT (R167). -/
def sstat (s : State) (e : Nat) : Word :=
  (List.range 4).foldl (fun w d =>
    setF (setF w (4 * d) 3 ((s.eng e).fifoOf d).length) (16 + d) 1 (b2n (openLink s e d).isSome)) 0

/-- A control register as MFC and TMB_CR read it (R167, R211). -/
def crView (s : State) (e n : Nat) : Word :=
  let r := s.eng e
  if n = 0x00 then setF (r.crGet 0) 1 1 (b2n r.bank)
  else if n = 0x01 then r.evtView
  else if n = 0x05 then BitVec.ofNat 32 r.ops.length
  else if n = 0x07 then sstat s e
  else if n = 0x0B then BitVec.ofNat 32 e
  else if n = 0x15 then setF (r.crGet 0x15) 2 1 (b2n r.whead.isSome)
  else if n = 0x17 then (match r.whead with | some q => BitVec.ofNat 32 q.off | none => 0)
  else if n = 0x18 then
    (match r.whead with | some q => setF (BitVec.ofNat 32 (q.off / 2 ^ 32 % 256)) 31 1 1 | none => 0)
  else if n = 0x1A then setF (r.crGet 0x1A) 0 3 r.wq.length
  else if n = 0x19 ∨ (0x0C ≤ n ∧ n ≤ 0x0F) ∨ 0x1B ≤ n then 0
  else r.crGet n

/-! ### Data memory -/

/-- The bytes of a data-memory access in their lanes of a line, as delivered: corrected, or as stored where uncorrectable
(R143, R200). -/
def dataLanes (s : State) (e addr len : Nat) : Line :=
  laneBytes ((touched 8 addr len).foldl (fun l w =>
    l ||| wordLanes 8 w (((wordData 72 (memCode s .data e w)).setWidth 64).setWidth 128)) 0) (addr % 64) len

/-- A word of the access is uncorrectable. -/
def dataBad (s : State) (e addr len : Nat) : Bool :=
  (touched 8 addr len).any (fun w => classifyWord 72 (memCode s .data e w) == .uncorrectable)

/-- A store of bytes, given in their lanes (R175).  A word that is uncorrectable and not wholly written stays uncorrectable. -/
def engineStore (e addr len : Nat) (d : Line) (s : State) : State :=
  (touched 8 addr len).foldl (fun t w =>
    let (a, n) := covered 8 addr len w
    let c := memCode t .data e w
    let bad := n != 8 && classifyWord 72 c == .uncorrectable
    let old := if bad then takeData c (dataPos 72) else wordData 72 c
    let m := wordMask a n
    let fresh := encodeWord 72 ((old &&& ~~~m) ||| (laneWord 8 w d &&& m))
    setCode .data e w (if bad then fresh ^^^ (c ^^^ encodeWord 72 old) else fresh) t) s

/-- Words made uncorrectable, whatever they held: of each a codeword of its data with two check bits inverted (R203, R143). -/
def poisonWords (e addr len : Nat) (s : State) : State :=
  (touched 8 addr len).foldl (fun t w =>
    setCode .data e w (flipPos (flipPos (encodeWord 72 (takeData (memCode t .data e w) (dataPos 72))) 1) 2) t) s

/-! ### Program memory -/

/-- The codeword that a fetch of bundle a reads now: within 4 ECK cycles of a network write it may be the old one (R208). -/
def fetchCode (s : State) (e a : Nat) : Codeword :=
  match (s.eng e).stale.find? (fun x => x.word == a) with
  | some x => if x.picks.headD false then x.old else memCode s .prog e a
  | none => memCode s .prog e a

/-- The bundle of the current cycle (R169). -/
def bundle (s : State) (e : Nat) : BitVec 128 :=
  match (s.eng e).ir with
  | some b => b
  | none => wordData 137 (fetchCode s e (s.eng e).pc)

/-- The fetch of the next bundle finds it uncorrectable (R193). -/
def fetchBad (s : State) (e : Nat) : Bool := classifyWord 137 (fetchCode s e (s.eng e).pc) == .uncorrectable

/-! ### Slots -/

/-- The slots of a bundle (R169). -/
inductive Slot where
  | c
  | v
  | m
deriving DecidableEq, Repr

/-- The bits of a slot. -/
def slotBits (k : Slot) (b : BitVec 128) : Nat :=
  match k with
  | .c => b.toNat % 2 ^ 40
  | .v => b.toNat / 2 ^ 40 % 2 ^ 48
  | .m => b.toNat / 2 ^ 88

/-- The opcode of a slot: its top 8 bits. -/
def slotOp (k : Slot) (w : Nat) : Nat :=
  match k with
  | .c => w / 2 ^ 32
  | .v => w / 2 ^ 40
  | .m => w / 2 ^ 32

/-- A field of a slot: `n` bits from bit `lo`. -/
def sf (w lo n : Nat) : Nat := w / 2 ^ lo % 2 ^ n

/-- The bits of a field as a mask. -/
def fm (lo n : Nat) : Nat := (2 ^ n - 1) * 2 ^ lo

/-- The fields of a C slot's format, without the opcode (R170, R177); none: a reserved opcode. -/
def cFields (op : Nat) : Option Nat :=
  let rr := fm 17 15
  let ri := fm 22 10 + fm 0 17
  let br := fm 22 5 + fm 0 10
  if op = 0 then some 0
  else if (0x01 ≤ op ∧ op ≤ 0x0E) ∨ op = 0x20 ∨ op = 0x21 then some rr
  else if op = 0x11 ∨ (0x13 ≤ op ∧ op ≤ 0x18) then some ri
  else if op = 0x19 then some (fm 27 5 + fm 0 17)
  else if op = 0x22 then some (fm 22 10 + fm 0 12)
  else if op = 0x28 then some (fm 22 5 + fm 15 6)
  else if op = 0x29 then some (fm 27 5 + fm 15 6)
  else if 0x30 ≤ op ∧ op ≤ 0x36 then some br
  else if op = 0x37 ∨ (0x3C ≤ op ∧ op ≤ 0x3E) then some 0
  else if op = 0x38 then some (fm 30 2 + fm 22 5 + fm 0 10)
  else if op = 0x39 then some (fm 30 2 + fm 0 26)
  else if op = 0x3A then some (fm 30 2)
  else if op = 0x3B then some (fm 0 4)
  else if op = 0x40 then some (fm 27 5 + fm 0 5)
  else if op = 0x41 then some (fm 22 5 + fm 0 5)
  else none

/-- The fields a V slot's instruction uses (R170, R178); none: a reserved opcode. -/
def vFields (op : Nat) : Option Nat :=
  let vd := fm 36 4
  let ad := fm 36 3
  let vs := fm 32 4
  let as_ := fm 32 3
  let vt := fm 28 4
  let sx := fm 23 5
  let t := fm 21 2
  let u := fm 20 1
  if op = 0 then some 0
  else if 0x01 ≤ op ∧ op ≤ 0x03 then some (vd + vs + vt + t)
  else if 0x04 ≤ op ∧ op ≤ 0x06 then some (vd + vs + vt)
  else if op = 0x07 ∨ op = 0x08 then some (vd + vs + sx + t)
  else if op = 0x09 ∨ op = 0x0A then some (vd + vs + vt + t + u)
  else if op = 0x0B then some (vd + sx + t)
  else if op = 0x0C then some (vs + sx + t + u + fm 12 6)
  else if 0x10 ≤ op ∧ op ≤ 0x12 then some (ad + vs + vt + t + u + fm 19 1)
  else if op = 0x13 ∨ op = 0x14 then some (ad + vs + vt + sx + fm 18 1)
  else if op = 0x18 then some (ad + sx)
  else if op = 0x19 then some (vd + as_ + fm 5 13)
  else if op = 0x1A then some (vd + as_ + fm 8 2)
  else if op = 0x1B then some (ad + vs + fm 8 2)
  else if op = 0x1C then some (ad + sx)
  else if op = 0x20 then some (vd + vs + t)
  else if op = 0x21 then some (vd + vs)
  else if op = 0x22 then some (vd + vs + sx + fm 18 1)
  else if op = 0x23 then some (vd + as_ + sx + fm 18 1)
  else none

/-- The fields of an M slot's format (R170, R201); none: a reserved opcode. -/
def mFields (op : Nat) : Option Nat :=
  let mem := fm 23 4 + fm 0 16
  if op = 0 then some 0
  else if 0x01 ≤ op ∧ op ≤ 0x08 then some (fm 27 5 + mem)
  else if op = 0x09 ∨ op = 0x0A then some (fm 27 4 + mem)
  else if op = 0x10 ∨ op = 0x11 then some (fm 27 4 + fm 21 2)
  else if op = 0x18 ∨ op = 0x19 then some (fm 27 5 + fm 23 4 + fm 16 6)
  else none

/-- A reserved encoding of a field of a C slot (R171): a pointer field above 4, RND = 3, an odd RD of NORM, WAITE in Handler, a loop
whose END lies below its START. -/
def cReserved (w pc run : Nat) : Bool :=
  let op := slotOp .c w
  ((op == 0x28 || op == 0x29) && decide (4 < sf w 15 3)) || (op == 0x22 && sf w 5 2 == 3) || (op == 0x20 && sf w 27 1 == 1) ||
  (op == 0x3C && run == 2) || ((op == 0x38 || op == 0x39) && decide (sf w 0 10 < (pc + 3) % 1024))

/-- A reserved encoding of a field of a V slot (R171, R178, R179, R181). -/
def vReserved (w : Nat) : Bool :=
  let op := slotOp .v w
  let t := sf w 21 2
  t == 3 || sf w 10 2 == 3 || sf w 5 2 == 3 ||
  (0x10 ≤ op && op ≤ 0x12 && ((t == 2 && sf w 20 1 == 1) || (t != 2 && sf w 19 1 == 1))) ||
  (op == 0x0C && decide (64 / 2 ^ t ≤ sf w 12 6)) ||
  (op == 0x19 && decide (64 / 2 ^ sf w 7 1 ≤ sf w 8 2 * (64 / 2 ^ sf w 5 2)))

/-- A reserved encoding of an M slot: an odd RS of NGET and NPUT (R202). -/
def mReserved (w : Nat) : Bool := (slotOp .m w == 0x18 || slotOp .m w == 0x19) && sf w 27 1 == 1

/-- Every bit of the slot below its opcode lies in the fields given. -/
def within (bits fields w : Nat) : Bool := (w % 2 ^ bits) &&& fields == w % 2 ^ bits

/-- The slot is one that executes: no reserved opcode, field or encoding (R171). -/
def slotLegal (k : Slot) (w pc run : Nat) : Bool :=
  match k with
  | .c => (cFields (slotOp .c w)).any (fun f => within 32 f w) && !cReserved w pc run
  | .v => (vFields (slotOp .v w)).any (fun f => within 40 f w) && !vReserved w
  | .m => (mFields (slotOp .m w)).any (fun f => within 32 f w) && !mReserved w

/-! ### Holds -/

/-- The M slot of a bundle accesses the data memory: a load, a store, or the read of an NPUT. -/
def touchesData (w pc run : Nat) : Bool :=
  let op := slotOp .m w
  slotLegal .m w pc run && ((0x01 ≤ op && op ≤ 0x0A) || op == 0x19)

/-- The device address of a network operation (R202). -/
def netAddr (r : EngineRec) (w : Nat) : Nat :=
  (r.sreg r.bank (sf w 27 5)).toNat + (r.sreg r.bank (sf w 27 5 + 1)).toNat % 65536 * 2 ^ 32

/-- The band router refuses the request of an NGET or NPUT for now (R89, R176). -/
def routerRefuses (s : State) (e w : Nat) : Bool :=
  let r := s.eng e
  match engineTenant s e with
  | none => false
  | some n =>
    (netAdmit (.engine e) ⟨2, n⟩ (if slotOp .m w = 0x18 then .read else .write) (engineEp e) (freeTxn s (engineEp e)) (netAddr r w)
      (sf w 16 6 + 1) 0 s).held

/-- A blocking instruction of the bundle holds issue (R176). -/
def blocked (s : State) (e : Nat) : Bool :=
  let r := s.eng e
  let c := slotBits .c (bundle s e)
  let m := slotBits .m (bundle s e)
  let cLegal := slotLegal .c c r.pc r.run
  let mLegal := slotLegal .m m r.pc r.run
  let d := sf m 21 2
  (cLegal && slotOp .c c == 0x3B && decide (sf c 0 4 < r.ops.length)) ||
  (mLegal && (slotOp .m m == 0x18 || slotOp .m m == 0x19) &&
    (decide (16 ≤ r.ops.length) || routerRefuses s e m)) ||
  (mLegal && slotOp .m m == 0x10 && (openLink s e d).isSome && r.creditsOf d == 0) ||
  (mLegal && slotOp .m m == 0x11 && (openLink s e d).isSome && (r.fifoOf d).isEmpty)

/-- The M slot's access is displaced by a window reply (R199). -/
def displaced (s : State) (e : Nat) : Bool :=
  let r := s.eng e
  r.replied && touchesData (slotBits .m (bundle s e)) r.pc r.run

/-- No slot of the next bundle has issued yet. -/
def EngineRec.noSlot (r : EngineRec) : Bool := r.issM.isNone && r.issV.isNone && r.issC.isNone

/-- The engine issues: it runs with its clock, and nothing has stopped it (R176, R190, R194, R206, R221, R484). -/
def issuing (s : State) (e : Nat) : Bool :=
  let r := s.eng e
  (r.run == 1 || r.run == 2) && eckOn s e && (if r.halted then r.stepping else !r.stopping) && !r.doneWait && r.take.isNone &&
    !s.flag F.TMB_STAT.CLEARING e && !s.flag F.TMB_STAT.TBUSY e

/-- A slot of the current bundle may issue in this cycle. -/
def canIssue (s : State) (e : Nat) : Bool :=
  let r := s.eng e
  issuing s e && !r.bubble &&
    (!r.noSlot || (r.hold == 0 && !fetchBad s e && !displaced s e && !blocked s e))

end Sys2Proof.Machine
end

