-- ==== Sys2Proof/Machine/TumblerSlots.lean ====
section
/-! DEFINITION. The instructions of the tumbler engines (R177–R186, R194, R197–R203): each row issues one slot of the bundle at the
engine's PC, which reads its operands now and whose results land later (R172). -/

namespace Sys2Proof.Machine
open Sys2Proof

/-! ### Issuing a slot -/

/-- The result of a slot that executes as NOP because it is reserved (R171). -/
def illResult : List Result := [⟨1, .flags stIll⟩]

/-- The C slot of engine e issues, where its opcode is `op`: `f` gives its results from the state, the engine and the slot's bits. -/
def issueC (e op : Nat) (f : State → EngineRec → Nat → List Result × CFlow) (s : State) : State :=
  let w := slotBits .c (bundle s e)
  guarded (canIssue s e && (s.eng e).issC.isNone && slotOp .c w == op) s (fun s =>
    let r := s.eng e
    s.setEng e { r with
      ir := some (bundle s e)
      issC := some (if slotLegal .c w r.pc r.run then f s r w else (illResult, .none)) })

/-- The V slot of engine e issues, where its opcode is `op`. -/
def issueV (e op : Nat) (f : EngineRec → Nat → List Result) (s : State) : State :=
  let w := slotBits .v (bundle s e)
  guarded (canIssue s e && (s.eng e).issV.isNone && slotOp .v w == op) s (fun s =>
    let r := s.eng e
    s.setEng e { r with
      ir := some (bundle s e)
      issV := some (if slotLegal .v w r.pc r.run then f r w else illResult) })

/-- The M slot of engine e issues, where its opcode is `op`; `f` may also act at once, on a stream link or the network. -/
def issueM (e op : Nat) (f : State → EngineRec → Nat → List Result × State) (s : State) : State :=
  let b := bundle s e
  let w := slotBits .m b
  guarded (canIssue s e && (s.eng e).issM.isNone && slotOp .m w == op) s (fun s =>
    let r := s.eng e
    let (l, t) := if slotLegal .m w r.pc r.run then f s r w else (illResult, s)
    t.modEng e (fun q => { q with ir := some b, issM := some l }))

/-- The bits of slot k of the current bundle. -/
def slotNow (s : State) (e : Nat) (k : Slot) : Nat := slotBits k (bundle s e)

/-- A slot that does nothing: opcode 0, or any that is reserved (R169, R171). -/
def issueNop (e : Nat) (k : Slot) (s : State) : State :=
  let w := slotNow s e k
  let r := s.eng e
  let legal := slotLegal k w r.pc r.run
  guarded (slotOp k w == 0 || !legal) s (fun s =>
    match k with
    | .c => issueC e (slotOp .c w) (fun _ _ _ => ([], .none)) s
    | .v => issueV e (slotOp .v w) (fun _ _ => []) s
    | .m => issueM e (slotOp .m w) (fun s _ _ => ([], s)) s)

/-- NOP. -/
def execNop (e : Fin 512) (slot : Fin 3) (s : State) : Host.Outcome State Fault Refusal :=
  done (issueNop e (if slot.val = 0 then .c else if slot.val = 1 then .v else .m) s)

/-! ### The C slot -/

/-- A scalar result of latency L in RD, with no effect on the flow. -/
def toRd (l : Nat) (r : EngineRec) (w : Nat) (v : Word) : List Result × CFlow := ([⟨l, .sreg r.bank (sf w 27 5) v⟩], .none)

/-- The scalar RS of a C slot. -/
def rsOf (r : EngineRec) (w : Nat) : Word := r.sreg r.bank (sf w 22 5)

/-- The scalar RT of a C slot. -/
def rtOf (r : EngineRec) (w : Nat) : Word := r.sreg r.bank (sf w 17 5)

/-- An RR instruction of latency L (R177). -/
def issueRR (e op l : Nat) (f : Word → Word → Word) (s : State) : State :=
  issueC e op (fun _ r w => toRd l r w (f (rsOf r w) (rtOf r w))) s

/-- An RI instruction of latency 1, whose function takes IMM17 as a number (R177). -/
def issueRI (e op : Nat) (f : Word → Nat → Word) (s : State) : State :=
  issueC e op (fun _ r w => toRd 1 r w (f (rsOf r w) (sf w 0 17))) s

/-- A conditional branch on RS (R177). -/
def issueBranch (e op : Nat) (c : Word → Bool) (s : State) : State :=
  issueC e op (fun _ r w => ([], if c (rsOf r w) then .go (sf w 0 10) false else .notTaken)) s

/-- A loop set-up with its count (R186). -/
def loopSetup (r : EngineRec) (w count : Nat) : List Result × CFlow :=
  let start := (r.pc + 3) % 1024
  let last := sf w 0 10
  ([⟨1, .loop r.bank (sf w 30 2) start last count⟩], .loop (if count = 0 then (last + 1) % 1024 else start))

/-- ADD. -/
def execAdd (e : Fin 512) (s : State) : Host.Outcome State Fault Refusal :=
  done (issueRR e 0x01 1 (fun a b => a + b) s)

/-- SUB. -/
def execSub (e : Fin 512) (s : State) : Host.Outcome State Fault Refusal :=
  done (issueRR e 0x02 1 (fun a b => a - b) s)

/-- AND. -/
def execAnd (e : Fin 512) (s : State) : Host.Outcome State Fault Refusal :=
  done (issueRR e 0x03 1 (fun a b => a &&& b) s)

/-- OR. -/
def execOr (e : Fin 512) (s : State) : Host.Outcome State Fault Refusal :=
  done (issueRR e 0x04 1 (fun a b => a ||| b) s)

/-- XOR. -/
def execXor (e : Fin 512) (s : State) : Host.Outcome State Fault Refusal :=
  done (issueRR e 0x05 1 (fun a b => a ^^^ b) s)

/-- SLL. -/
def execSll (e : Fin 512) (s : State) : Host.Outcome State Fault Refusal :=
  done (issueRR e 0x06 1 (fun a b => a <<< (b.toNat % 32)) s)

/-- SRL. -/
def execSrl (e : Fin 512) (s : State) : Host.Outcome State Fault Refusal :=
  done (issueRR e 0x07 1 (fun a b => a >>> (b.toNat % 32)) s)

/-- SRA. -/
def execSra (e : Fin 512) (s : State) : Host.Outcome State Fault Refusal :=
  done (issueRR e 0x08 1 (fun a b => a.sshiftRight (b.toNat % 32)) s)

/-- SLT. -/
def execSlt (e : Fin 512) (s : State) : Host.Outcome State Fault Refusal :=
  done (issueRR e 0x09 1 (fun a b => if a.toInt < b.toInt then 1 else 0) s)

/-- SLTU. -/
def execSltu (e : Fin 512) (s : State) : Host.Outcome State Fault Refusal :=
  done (issueRR e 0x0A 1 (fun a b => if a.toNat < b.toNat then 1 else 0) s)

/-- MUL. -/
def execMul (e : Fin 512) (s : State) : Host.Outcome State Fault Refusal :=
  done (issueRR e 0x0B 2 (fun a b => a * b) s)

/-- MULH. -/
def execMulh (e : Fin 512) (s : State) : Host.Outcome State Fault Refusal :=
  done (issueRR e 0x0C 2 (fun a b => mulHigh a b) s)

/-- MIN. -/
def execMin (e : Fin 512) (s : State) : Host.Outcome State Fault Refusal :=
  done (issueRR e 0x0D 1 (fun a b => if a.toInt ≤ b.toInt then a else b) s)

/-- MAX. -/
def execMax (e : Fin 512) (s : State) : Host.Outcome State Fault Refusal :=
  done (issueRR e 0x0E 1 (fun a b => if a.toInt ≤ b.toInt then b else a) s)

/-- ADDI. -/
def execAddi (e : Fin 512) (s : State) : Host.Outcome State Fault Refusal :=
  done (issueRI e 0x11 (fun a i => a + sext17 i) s)

/-- ANDI. -/
def execAndi (e : Fin 512) (s : State) : Host.Outcome State Fault Refusal :=
  done (issueRI e 0x13 (fun a i => a &&& BitVec.ofNat 32 i) s)

/-- ORI. -/
def execOri (e : Fin 512) (s : State) : Host.Outcome State Fault Refusal :=
  done (issueRI e 0x14 (fun a i => a ||| BitVec.ofNat 32 i) s)

/-- XORI. -/
def execXori (e : Fin 512) (s : State) : Host.Outcome State Fault Refusal :=
  done (issueRI e 0x15 (fun a i => a ^^^ BitVec.ofNat 32 i) s)

/-- SLLI. -/
def execSlli (e : Fin 512) (s : State) : Host.Outcome State Fault Refusal :=
  done (issueRI e 0x16 (fun a i => a <<< (i % 32)) s)

/-- SRLI. -/
def execSrli (e : Fin 512) (s : State) : Host.Outcome State Fault Refusal :=
  done (issueRI e 0x17 (fun a i => a >>> (i % 32)) s)

/-- SRAI. -/
def execSrai (e : Fin 512) (s : State) : Host.Outcome State Fault Refusal :=
  done (issueRI e 0x18 (fun a i => a.sshiftRight (i % 32)) s)

/-- LUI. -/
def execLui (e : Fin 512) (s : State) : Host.Outcome State Fault Refusal :=
  done (issueC e 0x19 (fun _ r w => toRd 1 r w (BitVec.ofNat 32 (sf w 0 15 * 2 ^ 17))) s)

/-- NORM. -/
def execNorm (e : Fin 512) (s : State) : Host.Outcome State Fault Refusal :=
  done (issueC e 0x20 (fun _ r w =>
    let a := rsOf r w
    let n := redundant 32 a.toNat
    ([⟨1, .sreg r.bank (sf w 27 5) (a <<< n)⟩, ⟨1, .sreg r.bank (sf w 27 5 + 1) (BitVec.ofNat 32 n)⟩], .none)) s)

/-- EXP. -/
def execExp (e : Fin 512) (s : State) : Host.Outcome State Fault Refusal :=
  done (issueC e 0x21 (fun _ r w => toRd 1 r w (word32 (expOf (rsOf r w).toNat))) s)

/-- SATS. -/
def execSats (e : Fin 512) (s : State) : Host.Outcome State Fault Refusal :=
  done (issueC e 0x22 (fun _ r w =>
    let (v, sat) := satScalar (rsOf r w) (sf w 0 5) (sf w 5 2) (sf w 7 5 + 1)
    ([⟨1, .sreg r.bank (sf w 27 5) v⟩, ⟨1, .flags (flagIf sat stSat)⟩], .none)) s)

/-- PSET. -/
def execPset (e : Fin 512) (s : State) : Host.Outcome State Fault Refusal :=
  done (issueC e 0x28 (fun _ r w => ([⟨1, .ptr r.bank (sf w 18 3) (sf w 15 3) ((rsOf r w).toNat % 65536)⟩], .none)) s)

/-- PGET. -/
def execPget (e : Fin 512) (s : State) : Host.Outcome State Fault Refusal :=
  done (issueC e 0x29 (fun _ r w =>
    toRd 1 r w (BitVec.ofNat 32 (ptrField (r.ptr r.bank (sf w 18 3)) (sf w 15 3)))) s)

/-- BR. -/
def execBr (e : Fin 512) (s : State) : Host.Outcome State Fault Refusal :=
  done (issueC e 0x30 (fun _ _ w => ([], .go (sf w 0 10) false)) s)

/-- BEQZ. -/
def execBeqz (e : Fin 512) (s : State) : Host.Outcome State Fault Refusal :=
  done (issueBranch e 0x31 (fun a => a == 0) s)

/-- BNEZ. -/
def execBnez (e : Fin 512) (s : State) : Host.Outcome State Fault Refusal :=
  done (issueBranch e 0x32 (fun a => a != 0) s)

/-- BLTZ. -/
def execBltz (e : Fin 512) (s : State) : Host.Outcome State Fault Refusal :=
  done (issueBranch e 0x33 (fun a => decide (a.toInt < 0)) s)

/-- BGEZ. -/
def execBgez (e : Fin 512) (s : State) : Host.Outcome State Fault Refusal :=
  done (issueBranch e 0x34 (fun a => decide (0 ≤ a.toInt)) s)

/-- CALL. -/
def execCall (e : Fin 512) (s : State) : Host.Outcome State Fault Refusal :=
  done (issueC e 0x35 (fun _ r w =>
    ([⟨1, .sreg r.bank 31 (BitVec.ofNat 32 ((r.pc + 3) % 1024))⟩], .go (sf w 0 10) false)) s)

/-- RET. -/
def execRet (e : Fin 512) (s : State) : Host.Outcome State Fault Refusal :=
  done (issueC e 0x36 (fun _ r _ => ([], .go ((r.sreg r.bank 31).toNat % 1024) false)) s)

/-- RETI: with an enabled cause pending the bundle at HVEC follows, else the one at EPC in the primary bank (R192). -/
def execReti (e : Fin 512) (s : State) : Host.Outcome State Fault Refusal :=
  done (issueC e 0x37 (fun _ r _ =>
    ([], if r.causePending then .go ((r.crGet 3).toNat % 1024) false else .go ((r.crGet 4).toNat % 1024) true)) s)

/-- LOOP. -/
def execLoop (e : Fin 512) (s : State) : Host.Outcome State Fault Refusal :=
  done (issueC e 0x38 (fun _ r w => loopSetup r w ((rsOf r w).toNat % 65536)) s)

/-- LOOPI. -/
def execLoopi (e : Fin 512) (s : State) : Host.Outcome State Fault Refusal :=
  done (issueC e 0x39 (fun _ r w => loopSetup r w (sf w 10 16)) s)

/-- LCLR. -/
def execLclr (e : Fin 512) (s : State) : Host.Outcome State Fault Refusal :=
  done (issueC e 0x3A (fun _ r w => ([⟨1, .lclr r.bank (sf w 30 2)⟩], .none)) s)

/-- WAITN: the hold is `blocked`; once NOUT is at most K the slot issues. -/
def execWaitn (e : Fin 512) (s : State) : Host.Outcome State Fault Refusal :=
  done (issueC e 0x3B (fun _ _ _ => ([], .none)) s)

/-- WAITE. -/
def execWaite (e : Fin 512) (s : State) : Host.Outcome State Fault Refusal :=
  done (issueC e 0x3C (fun _ _ _ => ([], .sleep)) s)

/-- DONE. -/
def execDone (e : Fin 512) (s : State) : Host.Outcome State Fault Refusal :=
  done (issueC e 0x3D (fun _ _ _ => ([], .done)) s)

/-- SWI. -/
def execSwi (e : Fin 512) (s : State) : Host.Outcome State Fault Refusal :=
  done (issueC e 0x3E (fun _ _ _ => ([⟨1, .evt 0x80⟩], .none)) s)

/-- MFC. -/
def execMfc (e : Fin 512) (s : State) : Host.Outcome State Fault Refusal :=
  done (issueC e 0x40 (fun s r w => toRd 1 r w (crView s e (sf w 0 5))) s)

/-- MTC. -/
def execMtc (e : Fin 512) (s : State) : Host.Outcome State Fault Refusal :=
  done (issueC e 0x41 (fun _ r w => ([⟨1, .crWrite (sf w 0 5) (rsOf r w)⟩], .none)) s)

/-! ### The V slot -/

/-- A vector result in VD. -/
def toVd (l w : Nat) (v : Line) : List Result := [⟨l, .vreg (sf w 36 4) v⟩]

/-- The vector VS. -/
def vsOf (r : EngineRec) (w : Nat) : Line := r.vreg (sf w 32 4)

/-- The vector VT. -/
def vtOf (r : EngineRec) (w : Nat) : Line := r.vreg (sf w 28 4)

/-- The scalar s(SX). -/
def sxOf (r : EngineRec) (w : Nat) : Word := r.sreg r.bank (sf w 23 5)

/-- The accumulator that VSAT, AMOV and BNORMA read (R170). -/
def srcAcc (r : EngineRec) (w : Nat) : AccRec := r.acc (sf w 32 3)

/-- An element-wise instruction on VS and VT: `f` takes the element width and the two elements (R178). -/
def issueElems (e op l : Nat) (f : Nat → Nat → Nat → Nat) (s : State) : State :=
  issueV e op (fun r w =>
    let t := sf w 21 2
    let n := elemWidth t
    toVd l w (mapElems t (fun k => f n (elem n k (vsOf r w)) (elem n k (vtOf r w))))) s

/-- A bitwise instruction on VS and VT. -/
def issueBits (e op : Nat) (f : Line → Line → Line) (s : State) : State :=
  issueV e op (fun r w => toVd 2 w (f (vsOf r w) (vtOf r w))) s

/-- A shift of every element by s(SX)[4:0] modulo the width. -/
def issueShift (e op : Nat) (f : Nat → Nat → Nat → Nat) (s : State) : State :=
  issueV e op (fun r w =>
    let n := elemWidth (sf w 21 2)
    let k := (sxOf r w).toNat % 32 % n
    toVd 2 w (mapElems (sf w 21 2) (fun j => f n (elem n j (vsOf r w)) k))) s

/-- VMIN and VMAX: `less` takes the first element where it is below the second. -/
def issueMinMax (e op : Nat) (less : Bool) (s : State) : State :=
  issueV e op (fun r w =>
    let n := elemWidth (sf w 21 2)
    let u := sf w 20 1 == 1
    let pick (a b : Nat) : Nat := if decide (numOf u n a < numOf u n b) == less then a else b
    toVd 2 w (mapElems (sf w 21 2) (fun k => pick (elem n k (vsOf r w)) (elem n k (vtOf r w))))) s

/-- VMAC, VMSU and VMPY: the operation lands in the fourth stage (R173, R179). -/
def issueMac (e op kind : Nat) (s : State) : State :=
  issueV e op (fun r w =>
    [⟨4, .acc (sf w 36 3) (.mac kind (sf w 21 2) (sf w 20 1 == 1) (sf w 19 1 == 1) (vsOf r w) (vtOf r w))⟩]) s

/-- VMACB and VMPYB. -/
def issueMacb (e op : Nat) (add : Bool) (s : State) : State :=
  issueV e op (fun r w =>
    [⟨4, .acc (sf w 36 3) (.macb add (sf w 18 1 == 1) (vsOf r w) (vtOf r w) (sxOf r w))⟩]) s

/-- VADD. -/
def execVadd (e : Fin 512) (s : State) : Host.Outcome State Fault Refusal :=
  done (issueElems e 0x01 2 (fun _ a b => a + b) s)

/-- VSUB. -/
def execVsub (e : Fin 512) (s : State) : Host.Outcome State Fault Refusal :=
  done (issueElems e 0x02 2 (fun n a b => a + (2 ^ n - b)) s)

/-- VMUL. -/
def execVmul (e : Fin 512) (s : State) : Host.Outcome State Fault Refusal :=
  done (issueElems e 0x03 3 (fun _ a b => a * b) s)

/-- VAND. -/
def execVand (e : Fin 512) (s : State) : Host.Outcome State Fault Refusal :=
  done (issueBits e 0x04 (fun a b => a &&& b) s)

/-- VOR. -/
def execVor (e : Fin 512) (s : State) : Host.Outcome State Fault Refusal :=
  done (issueBits e 0x05 (fun a b => a ||| b) s)

/-- VXOR. -/
def execVxor (e : Fin 512) (s : State) : Host.Outcome State Fault Refusal :=
  done (issueBits e 0x06 (fun a b => a ^^^ b) s)

/-- VSHL. -/
def execVshl (e : Fin 512) (s : State) : Host.Outcome State Fault Refusal :=
  done (issueShift e 0x07 (fun _ a k => a * 2 ^ k) s)

/-- VSRA. -/
def execVsra (e : Fin 512) (s : State) : Host.Outcome State Fault Refusal :=
  done (issueShift e 0x08 (fun n a k => ofSigned n (toSigned n a / 2 ^ k)) s)

/-- VMIN. -/
def execVmin (e : Fin 512) (s : State) : Host.Outcome State Fault Refusal :=
  done (issueMinMax e 0x09 true s)

/-- VMAX. -/
def execVmax (e : Fin 512) (s : State) : Host.Outcome State Fault Refusal :=
  done (issueMinMax e 0x0A false s)

/-- VBCAST. -/
def execVbcast (e : Fin 512) (s : State) : Host.Outcome State Fault Refusal :=
  done (issueV e 0x0B (fun r w => toVd 2 w (mapElems (sf w 21 2) (fun _ => (sxOf r w).toNat))) s)

/-- VGET. -/
def execVget (e : Fin 512) (s : State) : Host.Outcome State Fault Refusal :=
  done (issueV e 0x0C (fun r w =>
    let n := elemWidth (sf w 21 2)
    [⟨2, .sreg r.bank (sf w 23 5) (word32 (numOf (sf w 20 1 == 1) n (elem n (sf w 12 6) (vsOf r w))))⟩]) s)

/-- VMAC. -/
def execVmac (e : Fin 512) (s : State) : Host.Outcome State Fault Refusal :=
  done (issueMac e 0x10 0 s)

/-- VMSU. -/
def execVmsu (e : Fin 512) (s : State) : Host.Outcome State Fault Refusal :=
  done (issueMac e 0x11 1 s)

/-- VMPY. -/
def execVmpy (e : Fin 512) (s : State) : Host.Outcome State Fault Refusal :=
  done (issueMac e 0x12 2 s)

/-- VMACB. -/
def execVmacb (e : Fin 512) (s : State) : Host.Outcome State Fault Refusal :=
  done (issueMacb e 0x13 true s)

/-- VMPYB. -/
def execVmpyb (e : Fin 512) (s : State) : Host.Outcome State Fault Refusal :=
  done (issueMacb e 0x14 false s)

/-- ACLR. -/
def execAclr (e : Fin 512) (s : State) : Host.Outcome State Fault Refusal :=
  done (issueV e 0x18 (fun r w => [⟨4, .acc (sf w 36 3) (.clear ((sxOf r w).toNat % 256))⟩]) s)

/-- VSAT. -/
def execVsat (e : Fin 512) (s : State) : Host.Outcome State Fault Refusal :=
  done (issueV e 0x19 (fun r w =>
    let (v, f) := vsat (srcAcc r w).bits (sf w 7 1 == 1) (sf w 5 2) (sf w 8 2) (sf w 12 6) (sf w 10 2)
    toVd 3 w v ++ [⟨3, .flags f⟩]) s)

/-- AMOV. -/
def execAmov (e : Fin 512) (s : State) : Host.Outcome State Fault Refusal :=
  done (issueV e 0x1A (fun r w => toVd 3 w (BitVec.ofNat 512 (aLane 512 (sf w 8 2) (srcAcc r w).bits))) s)

/-- AMOVI. -/
def execAmovi (e : Fin 512) (s : State) : Host.Outcome State Fault Refusal :=
  done (issueV e 0x1B (fun r w => [⟨4, .acc (sf w 36 3) (.slice (sf w 8 2) (vsOf r w))⟩]) s)

/-- AGETE. -/
def execAgete (e : Fin 512) (s : State) : Host.Outcome State Fault Refusal :=
  done (issueV e 0x1C (fun r w => [⟨3, .sreg r.bank (sf w 23 5) (BitVec.ofNat 32 (r.acc (sf w 36 3)).exp)⟩]) s)

/-- VCLS. -/
def execVcls (e : Fin 512) (s : State) : Host.Outcome State Fault Refusal :=
  done (issueV e 0x20 (fun r w =>
    let n := elemWidth (sf w 21 2)
    toVd 2 w (mapElems (sf w 21 2) (fun k => redundant n (elem n k (vsOf r w))))) s)

/-- VEXP. -/
def execVexp (e : Fin 512) (s : State) : Host.Outcome State Fault Refusal :=
  done (issueV e 0x21 (fun r w => toVd 2 w (mapElems 2 (fun k => ofSigned 32 (expOf (elem 32 k (vsOf r w)))))) s)

/-- BNORM. -/
def execBnorm (e : Fin 512) (s : State) : Host.Outcome State Fault Refusal :=
  done (issueV e 0x22 (fun r w =>
    let (v, x) := bnorm (sf w 18 1 == 1) (vsOf r w) (sxOf r w)
    toVd 3 w v ++ [⟨3, .sregLow r.bank (sf w 23 5) x⟩]) s)

/-- BNORMA. -/
def execBnorma (e : Fin 512) (s : State) : Host.Outcome State Fault Refusal :=
  done (issueV e 0x23 (fun r w =>
    let (v, x, f) := bnorma (sf w 18 1 == 1) (srcAcc r w)
    toVd 3 w v ++ [⟨3, .sregLow r.bank (sf w 23 5) x⟩, ⟨3, .flags f⟩]) s)

/-! ### The M slot -/

/-- The pointer of an M slot. -/
def mPtr (r : EngineRec) (w : Nat) : PtrRec := r.ptr r.bank (sf w 24 3)

/-- The post-modification of the pointer, where POST is 1 (R185). -/
def postResult (r : EngineRec) (w : Nat) : List Result :=
  if sf w 23 1 = 1 then [⟨1, .ptr r.bank (sf w 24 3) 0 (postModify (mPtr r w))⟩] else []

/-- The address of a load or store of `n` bytes: the address bits below the size are ignored (R199). -/
def memAddr (r : EngineRec) (w n : Nat) : Nat := accessAddr (mPtr r w) (sf w 0 16) / n * n

/-- A scalar load of `n` bytes, sign- or zero-extended (R200, R201). -/
def issueLoad (e op n : Nat) (signed : Bool) (flips : List Nat) (s : State) : State :=
  issueM e op (fun s r w =>
    let a := memAddr r w n
    let t := flipCode .data e (a / 8) flips s
    let v := (dataLanes t e a n).toNat / 2 ^ (8 * (a % 64)) % 2 ^ (8 * n)
    (([⟨3, .sreg r.bank (sf w 27 5) (word32 (numOf (!signed) (8 * n) v))⟩] ++
      (if dataBad t e a n then [⟨3, .loadError⟩] else [])) ++ postResult r w, t)) s

/-- A scalar store of `n` bytes (R175, R201). -/
def issueStore (e op n : Nat) (s : State) : State :=
  issueM e op (fun s r w =>
    let a := memAddr r w n
    let d := (r.sreg r.bank (sf w 27 5)).toNat % 2 ^ (8 * n)
    ([⟨1, .store a n (BitVec.ofNat 512 (d * 2 ^ (8 * (a % 64))))⟩] ++ postResult r w, s)) s

/-- LDB. -/
def execLdb (e : Fin 512) (flips : List Nat) (s : State) : Host.Outcome State Fault Refusal :=
  done (issueLoad e 0x01 1 true flips s)

/-- LDBU. -/
def execLdbu (e : Fin 512) (flips : List Nat) (s : State) : Host.Outcome State Fault Refusal :=
  done (issueLoad e 0x02 1 false flips s)

/-- LDH. -/
def execLdh (e : Fin 512) (flips : List Nat) (s : State) : Host.Outcome State Fault Refusal :=
  done (issueLoad e 0x03 2 true flips s)

/-- LDHU. -/
def execLdhu (e : Fin 512) (flips : List Nat) (s : State) : Host.Outcome State Fault Refusal :=
  done (issueLoad e 0x04 2 false flips s)

/-- LDW. -/
def execLdw (e : Fin 512) (flips : List Nat) (s : State) : Host.Outcome State Fault Refusal :=
  done (issueLoad e 0x05 4 false flips s)

/-- STB. -/
def execStb (e : Fin 512) (s : State) : Host.Outcome State Fault Refusal :=
  done (issueStore e 0x06 1 s)

/-- STH. -/
def execSth (e : Fin 512) (s : State) : Host.Outcome State Fault Refusal :=
  done (issueStore e 0x07 2 s)

/-- STW. -/
def execStw (e : Fin 512) (s : State) : Host.Outcome State Fault Refusal :=
  done (issueStore e 0x08 4 s)

/-- LDV. -/
def execLdv (e : Fin 512) (flips : List (List Nat)) (s : State) : Host.Outcome State Fault Refusal :=
  done (issueM e 0x09 (fun s r w =>
    let a := memAddr r w 64
    let t := flipTouched .data e 8 a 64 flips s
    (([⟨3, .vreg (sf w 27 4) (dataLanes t e a 64)⟩] ++ (if dataBad t e a 64 then [⟨3, .loadError⟩] else [])) ++ postResult r w, t)) s)

/-- STV. -/
def execStv (e : Fin 512) (s : State) : Host.Outcome State Fault Refusal :=
  done (issueM e 0x0A (fun s r w =>
    ([⟨1, .store (memAddr r w 64) 64 (r.vreg (sf w 27 4))⟩] ++ postResult r w, s)) s)

/-- The direction at the other end of a link. -/
def oppositeDir (d : Nat) : Nat := (d + 2) % 4

/-- SSEND: over an open link the vector leaves and a credit is taken; on a closed one it is discarded (R197, R198).  The links of a
retired neighbour carry nothing and its FIFOs stay empty (R207): the vector is on no way to it.  MARK (DESIGN CHOICE, log 210): it uses
the sender's credit all the same. -/
def execSsend (e : Fin 512) (s : State) : Host.Outcome State Fault Refusal :=
  done (issueM e 0x10 (fun s r w =>
    let d := sf w 21 2
    match openLink s e d with
    | none => ([⟨1, .evt 0x20⟩], s)
    | some f =>
      let t := s.setEng e (r.setCredits d (r.creditsOf d - 1))
      ([], if s.flag F.TMB_STAT.RETIRED f then t
        else t.modEng f (fun q => { q with coming := q.coming ++ [(oppositeDir d, r.vreg (sf w 27 4))] }))) s)

/-- SRECV: the oldest entry is taken and its credit returned; on a closed link VD takes 0 (R197, R198). -/
def execSrecv (e : Fin 512) (s : State) : Host.Outcome State Fault Refusal :=
  done (issueM e 0x11 (fun s r w =>
    let d := sf w 21 2
    match openLink s e d with
    | none => ([⟨2, .vreg (sf w 27 4) 0⟩, ⟨1, .evt 0x20⟩], s)
    | some f =>
      ([⟨2, .vreg (sf w 27 4) ((r.fifoOf d).headD 0)⟩],
       (s.setEng e (r.setFifo d ((r.fifoOf d).drop 1))).modEng f (fun q =>
        q.setCredits (oppositeDir d) (q.creditsOf (oppositeDir d) + 1)))) s)

/-- A network operation has failed (R203): EVT.NERR is set, and NLOG filled unless it holds a failure. -/
def netFailed (code at_ : Nat) (r : EngineRec) : EngineRec :=
  let r1 := r.setEvt 0x10
  if (r1.crGet 6).getLsbD 31 then r1 else r1.crSet 6 (BitVec.ofNat 32 (code % 256 + at_ * 2 ^ 16 + 2 ^ 31))

/-- EVT.NETDONE where NOUT has fallen to 0 (R167). -/
def netFell (r : EngineRec) : EngineRec := if r.ops.isEmpty then r.setEvt 0x4 else r

/-- What an engine does once the network interface has taken its request, has answered it at the source, or lets it wait. -/
def netTaken (e : Nat) (get : Bool) (txn addr len : Nat) (r : EngineRec) (s : State) (a : Admit) : State :=
  match a with
  | .sent t => t.modEng e (fun q => { q with ops := q.ops ++ [⟨txn, addr, len, get, r.pc⟩] })
  | .answered code _ t => t.modEng e (fun q => netFell (netFailed code r.pc q))
  | .waits => s

/-- NGET and NPUT issue: decoded, checked and sent under the tag of the engine's set; a refusal of the source fails at once.  An engine
in no set cannot issue: its operation fails with code 2 (R31, R202). -/
def netIssue (e : Nat) (get : Bool) (s : State) (r : EngineRec) (w : Nat) : List Result × State :=
  let da := netAddr r w
  let len := sf w 16 6 + 1
  let addr := (mPtr r w).pa / 64 * 64 + da % 64
  let txn := freeTxn s (engineEp e)
  let data := if get then 0 else dataLanes s e addr len
  (postResult r w, match engineTenant s e with
    | none => s.modEng e (fun q => netFell (netFailed 2 r.pc q))
    | some n => netTaken e get (txn.getD 0) addr len r s
        (netAdmit (.engine e) ⟨2, n⟩ (if get then .read else .write) (engineEp e) txn da len data s))

/-- The response to an operation of engine e has come (R202, R203). -/
def engineDone (e txn : Nat) (a : Answer) (s : State) : State :=
  match (s.eng e).ops.find? (fun o => o.txn == txn) with
  | none => s
  | some o =>
    let s1 := match a with
      | .data d => if o.get then engineStore e o.addr o.len d s else s
      | .poisoned d => if o.get then poisonWords e o.addr o.len (engineStore e o.addr o.len d s) else s
      | _ => s
    s1.modEng e (fun r =>
      let r1 := { r with ops := r.ops.erase o }
      netFell (match a with
        | .error c _ => netFailed c o.at_ r1
        | .poisoned _ => netFailed 0xFE o.at_ r1
        | _ => r1))

/-- A legal M slot's network operation has room at its router, or needs none (R89); until it has, the slot does not issue. -/
def netRoom (s : State) (e : Nat) : Bool :=
  let w := slotNow s e .m
  !(slotLegal .m w (s.eng e).pc (s.eng e).run && routerRefuses s e w)

/-- NGET. -/
def execNget (e : Fin 512) (s : State) : Host.Outcome State Fault Refusal :=
  done (guarded (netRoom s e) s (issueM e 0x18 (netIssue e true)))

/-- NPUT. -/
def execNput (e : Fin 512) (s : State) : Host.Outcome State Fault Refusal :=
  done (guarded (netRoom s e) s (issueM e 0x19 (netIssue e false)))

/-- STREAM_ARRIVAL: the oldest vector sent over the link in direction d enters its FIFO (R197). -/
def execStreamArrival (e : Fin 512) (d : Fin 4) (s : State) : Host.Outcome State Fault Refusal :=
  let r := s.eng e
  done (match r.coming.find? (fun x => x.1 == d.val) with
    | some x => s.setEng e ({ r with coming := r.coming.erase x }.setFifo d (r.fifoOf d ++ [x.2]))
    | none => s)

end Sys2Proof.Machine
end

