-- ==== Sys2Proof/Machine/TumblerRun.lean ====
section
/-! DEFINITION. The cycle of an engine: results land, control flows, events are recognised (R172–R176, R186–R195), the window queue is
answered (R217), and jobs see their members stop (R213). -/

namespace Sys2Proof.Machine
open Sys2Proof

/-! ### Sets and jobs -/

/-- The members of set k (R204). -/
def tmbMembers (s : State) (k : Nat) : List Nat := (List.range 512).filter (fun e => s.flag F.TMB_CFG.VALID e && s.rd F.TMB_CFG.SET e == k)

/-- The job of set k. -/
def State.job (s : State) (k : Nat) : JobRec := sget .none s.tmb.job k

/-- The state with it replaced. -/
def State.setJob (s : State) (k : Nat) (r : JobRec) : State := { s with tmb := { s.tmb with job := sset .none s.tmb.job k r } }

/-- The set runs a job. -/
def jobRuns (s : State) (k : Nat) : Bool := s.flag F.TMB_SET_JSTAT.RUNNING k

/-- The place of an end code in the table of R213: the lower goes first. -/
def endOrder (code : Nat) : Nat := if code = 2 then 1 else if code = 5 then 2 else if code = 1 then 3 else if code = 3 then 4 else 5

/-- An end condition of the job of set k is recognised: the first counts, and at one stamp the one that stands highest (R213). -/
def endCode (k code : Nat) (s : State) : State :=
  let j := s.job k
  if jobRuns s k && (j.code == 0 || (j.codeAt == s.stamp && decide (endOrder code < endOrder j.code))) then
    s.setJob k { j with code := code, codeAt := s.stamp }
  else s

/-- A cause of engine e (R223). -/
def engineCause (e : Nat) (cause enable : Fld) (s : State) : State := raiseCause cause enable e (384 + e / 2) s

/-- The engine becomes Idle (R194, R195). -/
def goIdle (r : EngineRec) : EngineRec :=
  { r with
    run := 0
    byDone := r.doneWait && !r.stopping
    doneWait := false
    stopping := false
    take := none
    bubble := false
    hold := 0
    replied := false
    redir := none
    slots := 0
    ctl := 0 }

/-- Every live member of set k is Idle after DONE: the job's third condition (R213), which does not end a job while ECK is stopped (R209). -/
def checkDone (k : Nat) (s : State) : State :=
  let live := liveMembers s k
  if jobRuns s k && !live.isEmpty && live.all (fun e => (s.eng e).run == 0 && (s.eng e).byDone && eckOn s e) then endCode k 1 s else s

/-- An engine that DONE or a stop request has ended becomes Idle once its results have landed and its network operations have
completed (R194); a halted one waits for its release (R484), and after DONE one whose ECK is stopped for its clock (R209). -/
def settle (e : Nat) (s : State) : State :=
  let r := s.eng e
  if (r.stopping || (r.doneWait && eckOn s e)) && r.pend.isEmpty && r.ops.isEmpty && !r.halted then
    let t := s.setEng e (goIdle r)
    match engineSet s e with
    | some k => checkDone k t
    | none => t
  else s

/-- The results of the slots that have issued in the current cycle, in their order of precedence (R174). -/
def EngineRec.issued (r : EngineRec) : List Result := r.issM.getD [] ++ r.issV.getD [] ++ (r.issC.map (·.1)).getD []

/-- The engine with the current bundle's results put behind those in flight. -/
def EngineRec.intoFlight (r : EngineRec) : EngineRec :=
  { r with pend := r.pend ++ r.issued, ir := none, issM := none, issV := none, issC := none }

/-- A stop request (R194): issue stops; results in flight still land.  An Idle engine ignores it; a halted one records it (R484). -/
def stopEngine (e : Nat) (s : State) : State :=
  let r := s.eng e
  if r.run = 0 then s
  else if r.halted then s.setEng e { r with stopping := true }
  else settle e (s.setEng e { r.intoFlight with stopping := true, haltAsked := false })

/-- Every member of set k but those in the list receives a stop request (R213). -/
def stopMembers (k : Nat) (but : List Nat) (s : State) : State :=
  ((tmbMembers s k).filter (fun e => !but.contains e)).foldl (fun t e => stopEngine e t) s

/-- The engine is Idle (R205, R209). -/
def isIdle (s : State) (e : Nat) : Bool := (s.eng e).run == 0

/-- An engine is faulted (R193): the job of its set ends where it is live (R213). -/
def faultEngine (e : Nat) (s : State) : State :=
  let r := s.eng e
  let s1 := s.setEng e { r.intoFlight with run := 4, bubble := false, redir := none, slots := 0, ctl := 0, hold := 0, replied := false }
  let s2 := engineCause e F.TMB_EVCAUSE.FAULT F.TMB_EVEN.FAULT (engineCause e F.TMB_EVCAUSE.MEMERR F.TMB_EVEN.MEMERR s1)
  match engineSet s e with
  | some k =>
    if (liveMembers s k).contains e && jobRuns s k then stopMembers k [e] (endCode k 2 s2) else s2
  | none => s2

/-! ### Control registers -/

/-- A write of WRSP (R217): the head request leaves the queue, its line is read and sent; without one the write is a stray. -/
def writeWrsp (e : Nat) (v : Word) (s : State) : State :=
  let r := s.eng e
  match r.whead with
  | none => s.setEng e (r.crSet 0x1A (setF (r.crGet 0x1A) 8 1 1))
  | some q =>
    let addr := getF v 6 10 * 64
    let d := dataLanes s e addr 64
    let t := s.setEng e { r with wq := r.wq.drop 1, replied := true }
    respond q.req (if dataBad s e addr 64 then .poisoned d else .data d) t

/-- A write of control register n under its access codes (R167, R211). -/
def crWrite (e n : Nat) (v : Word) (s : State) : State :=
  let r := s.eng e
  let put (w : Word) : State := s.setEng e (r.crSet n w)
  let old := r.crGet n
  if n = 0x00 then put ((v &&& 1) ||| (old &&& 0xFC &&& ~~~v))
  else if n = 0x01 then put (old &&& ~~~(v &&& 0xFD))
  else if n = 0x02 then put (v &&& 0xFF)
  else if n = 0x03 ∨ n = 0x04 then put (v &&& 0x3FF)
  else if n = 0x06 then put (old &&& ~~~(v &&& 0x80000000))
  else if n = 0x08 then put (v &&& 0xF)
  else if n = 0x0A then put v
  else if n = 0x15 then put (old &&& ~~~(v &&& 3))
  else if n = 0x16 then put (v &&& 0xFFF9)
  else if n = 0x1A then put (old &&& ~~~(v &&& 0x100))
  else if n = 0x19 then writeWrsp e v s
  else s

/-! ### Landing -/

/-- A result lands (R172, R173, R200). -/
def landResult (e : Nat) (a : ResAct) (s : State) : State :=
  match a with
  | .sreg b n v => s.modEng e (fun r => r.setSreg b n v)
  | .sregLow b n v => s.modEng e (fun r => r.setSreg b n (setF (r.sreg b n) 0 16 (getF v 0 16)))
  | .ptr b p f v => s.modEng e (fun r => r.setPtr b p (ptrSet (r.ptr b p) f v))
  | .vreg n v => s.modEng e (fun r => { r with v := sset 0 r.v n v })
  | .acc n op => s.modEng e (fun r =>
      let (q, f) := accWrite (r.acc n) op
      EngineRec.setSticky { r with a := sset .zero r.a n q } f)
  | .flags f => s.modEng e (fun r => r.setSticky f)
  | .evt b => s.modEng e (fun r => r.setEvt b)
  | .loadError => engineCause e F.TMB_EVCAUSE.MEMERR F.TMB_EVEN.MEMERR (s.modEng e (fun r => (r.setSticky stMerr).setEvt 0x40))
  | .lclr b n => s.modEng e (fun r => r.setLoop b n { r.loopLv b n with active := false })
  | .loop b n start last count => s.modEng e (fun r => r.setLoop b n ⟨start, last, count, count != 0⟩)
  | .crWrite n v => crWrite e n v s
  | .store addr len d => engineStore e addr len d s

/-- An MTC to a register with bits that are written one to clear: it lands before what sets them in the same cycle (R10). -/
def clearsBits (a : ResAct) : Bool :=
  match a with
  | .crWrite n _ => n == 0x00 || n == 0x01 || n == 0x06 || n == 0x15 || n == 0x1A
  | _ => false

/-- Every stage of the pipeline advances by one cycle; the results that are due land in the order of their issue, so that a WRSP lands after a
store of its own bundle (R172, R174, R199); only what clears sticky bits goes first (R10). -/
def advancePipe (e : Nat) (s : State) : State :=
  let r := s.eng e
  let moved := r.pend.map (fun p => ({ p with left := p.left - 1 } : Result))
  let due := (moved.filter (fun p => p.left == 0)).map (·.act)
  (due.filter clearsBits ++ due.filter (fun a => !clearsBits a)).foldl (fun t a => landResult e a t) (s.setEng e { r with pend := moved.filter (fun p => p.left != 0) })

/-! ### Control flow -/

/-- The loop-back of R187 after the bundle at `a`: levels 3 down to 0. -/
def loopBack (b : Bool) (a : Nat) : List Nat → EngineRec → EngineRec × Option Nat
  | [], r => (r, none)
  | n :: l, r =>
    let q := r.loopLv b n
    if q.active && q.last == a then
      if 1 < q.count then (r.setLoop b n { q with count := q.count - 1 }, some q.start)
      else loopBack b a l (r.setLoop b n { q with count := 0, active := false })
    else loopBack b a l r

/-- What follows the bundle at PC (R172, R186–R188, R192).  A control transfer in a delay slot replaces the earlier target; at a LOOP or LOOPI, which is
no taken branch, and in its delay slots loop-backs go on (R187, log entry 55). -/
def flow (f : CFlow) (r : EngineRec) : EngineRec :=
  let next := (r.pc + 1) % 1024
  let r0 := { r with ctl := match f with | .go _ _ => 2 | .loop _ => 2 | .notTaken => 2 | _ => r.ctl - 1 }
  let looped := loopBack r0.bank r0.pc [3, 2, 1, 0] r0
  let r1 := match f with
    | .go t p => { r0 with redir := some (t, p), soft := false, slots := 2, pc := next }
    | .loop t => { looped.1 with redir := some (t, false), soft := true, slots := 2, pc := looped.2.getD next }
    | _ =>
      match r0.redir with
      | some (t, p) =>
        let (q, back) := if r0.soft then looped else (r0, none)
        if r0.slots ≤ 1 then
          let u := { q with redir := none, slots := 0, pc := back.getD t }
          if p then { u with bank := false, run := 1 } else u
        else { q with slots := r0.slots - 1, pc := back.getD next }
      | none => { looped.1 with pc := looped.2.getD next }
  match f with
  | .sleep => { r1 with run := 3, waitAt := r.pc }
  | .done => { r1 with doneWait := true }
  | _ => r1

/-- The bundle of this cycle is a control transfer or a delay slot of one (R190). -/
def inTransfer (r : EngineRec) : Bool :=
  r.ctl != 0 || (match r.issC with | some (_, .go _ _) => true | some (_, .loop _) => true | some (_, .notTaken) => true | _ => false)

/-- An event is recognised where the engine is Running with an enabled cause pending (R190). -/
def recognise (r : EngineRec) : EngineRec :=
  if r.run == 1 && r.ie && r.causePending && !r.doneWait then { r with take := some r.pc } else r

/-! ### The cycle -/

/-- What goes on in every ECK cycle: fetches of rewritten bundles settle (R208), the window queue shows its head (R217), and a request
there keeps EVT.DOORBELL set (R212). -/
def tickEngine (r : EngineRec) : EngineRec :=
  let r1 : EngineRec := { r with
    stale := (r.stale.map (fun x => ({ x with picks := x.picks.drop 1 } : StaleBundle))).filter (fun x => !x.picks.isEmpty)
    wq := r.wq.map (fun q => ({ q with wait := q.wait - 1 } : WinReq)) }
  if r1.whead.isSome then r1.setEvt 1 else r1

/-- The end of a step under the debugger, and a halt that has waited for the bundle boundary (R484). -/
def endHalt (r : EngineRec) : EngineRec := { r with stepping := false, halted := r.halted || r.haltAsked, haltAsked := false }

/-- CYC counts a cycle in Running or Handler (R167). -/
def countCycle (r : EngineRec) : EngineRec := r.crSet 9 (r.crGet 9 + 1)

/-- A cycle in which the engine issues nothing and its pipeline is frozen (R176). -/
def heldCycle (e : Nat) (f : EngineRec → EngineRec) (s : State) : State :=
  s.modEng e (fun r => endHalt (f (tickEngine (countCycle r))))

/-- A cycle in which every slot of a bundle has issued. -/
def issueCycle (e : Nat) (s : State) : State :=
  let r := s.eng e
  let transfer := inTransfer r
  let f := (r.issC.map (·.2)).getD .none
  let s1 := advancePipe e (s.setEng e (flow f { (countCycle r).intoFlight with replied := false }))
  settle e (s1.modEng e (fun q =>
    let t := tickEngine q
    endHalt (if transfer then t else recognise t)))

/-- The end of an ECK cycle of a running engine; no edge has come while its bundle has slots left to issue. -/
def runCycle (e : Nat) (s : State) : State :=
  let r := s.eng e
  let held (f : EngineRec → EngineRec) : State := noteEck e (heldCycle e (fun q => f { q with replied := false }) s)
  if r.bubble then noteEck e (advancePipe e (heldCycle e (fun q => { q with bubble := false, replied := false }) s))
  else if r.noSlot then
    if 0 < r.hold then held (fun q => { q with hold := q.hold - 1 })
    else if fetchBad s e then s
    else if displaced s e then held id
    else if blocked s e then held (fun q => if q.ctl = 0 then recognise q else q)
    else s
  else if r.issM.isSome && r.issV.isSome && r.issC.isSome then noteEck e (issueCycle e s)
  else s

/-- The end of an ECK cycle of a sleeping engine (R194). -/
def sleepCycle (e : Nat) (s : State) : State :=
  s.modEng e (fun r =>
    let q := { tickEngine r with replied := false }
    endHalt (if q.causePending then
      (if q.ie then { q with take := some ((q.waitAt + 1) % 1024) } else { q with run := 1 })
    else q))

/-- An ECK cycle in which engine e issues nothing, since it has stopped or a halt holds it: the window queue goes on, and a bank that a reply took is
free again. -/
def quietCycle (e : Nat) (s : State) : State := s.modEng e (fun r => { tickEngine r with replied := false })

/-- Results go on landing after DONE or a stop request; the engine still counts as Running or in Handler (R167, R194). -/
def endingCycle (e : Nat) (s : State) : State :=
  let r := s.eng e
  let s0 := if eckOn s e then noteEck e s else s
  let s1 := if eckOn s e && (r.run == 1 || r.run == 2) then s0.modEng e countCycle else s0
  if r.halted then quietCycle e s1
  else
    let t := settle e (advancePipe e (quietCycle e s1))
    match engineSet s e with
    | some k => if r.run = 0 then checkDone k t else t
    | none => t

/-- RESULT_LANDING: an ECK cycle of engine e ends, at the next rising edge that the throttle leaves (R383).  Nothing happens while its bundle has
slots left to issue or an event entry is due. -/
def execResultLanding (e : Fin 512) (s : State) : Host.Outcome State Fault Refusal :=
  let r := s.eng e
  done (
    if r.run = 0 ∨ r.run = 4 ∨ (r.stopping ∧ !r.halted) ∨ r.doneWait then
      guarded (r.stopping || eckOn s e) s (endingCycle e)
    else guarded (eckOn s e && r.take.isNone) s (fun s =>
      if r.halted && !r.stepping then noteEck e (quietCycle e s)
      else if r.run = 3 then noteEck e (sleepCycle e s)
      else runCycle e s))

/-- EVENT_ENTRY: the recognised event is entered: EPC is written and the shadow bank takes over (R190). -/
def execEventEntry (e : Fin 512) (s : State) : Host.Outcome State Fault Refusal :=
  let r := s.eng e
  done (match r.take with
    | none => s
    | some a => guarded (eckOn s e && (if r.halted then r.stepping else !r.stopping)) s (fun s =>
        s.setEng e { r.crSet 4 (BitVec.ofNat 32 a) with
          run := 2, bank := true, pc := (r.crGet 3).toNat % 1024, bubble := true, take := none, redir := none, slots := 0, ctl := 0 }))

/-- UNCORRECTABLE_FETCH (R193). -/
def execUncorrectableFetch (e : Fin 512) (flips : List Nat) (s : State) : Host.Outcome State Fault Refusal :=
  done (guarded (issuing s e && !(s.eng e).bubble && (s.eng e).noSlot && (s.eng e).hold == 0) s (fun s =>
    let t := flipCode .prog e (s.eng e).pc flips s
    if fetchBad t e then faultEngine e (t.modEng e (fun r => r.crSet 4 (BitVec.ofNat 32 r.pc))) else t))

/-- TIMER (R167). -/
def execTimer (e : Fin 512) (s : State) : Host.Outcome State Fault Refusal :=
  let r := s.eng e
  done (guarded ((r.run == 1 || r.run == 2) && r.crGet 9 == r.crGet 0x0A) s (fun s => s.modEng e (fun r => r.setEvt 8)))

/-- A write of TMB_CRe_n: it takes effect only while the engine is Idle or halted (R224). -/
def crFromOutside (e n : Nat) (v : Word) (s : State) : State :=
  if (s.eng e).run = 0 ∨ (s.eng e).halted then crWrite e n v s else s

/-- WRSP: a write of the register from outside; an MTC makes the same write when it lands. -/
def execWrsp (e : Fin 512) (v : Word) (s : State) : Host.Outcome State Fault Refusal := done (crFromOutside e 0x19 v s)

/-! ### Network accesses to an engine's memories -/

/-- A network write has touched the armed doorbell word (R212). -/
def ringDoorbell (e off len : Nat) (s : State) : State :=
  let r := s.eng e
  let db := r.crGet 0x16
  let a := getF db 3 13 * 8
  if db.getLsbD 0 && decide (off < a + 8) && decide (a < off + len) then
    s.setEng e ((r.crSet 0x15 (r.crGet 0x15 ||| 1)).setEvt (flagIf (!(r.crGet 0x15).getLsbD 0) 1))
  else s

/-- The engine is in Running or Handler and still issues bundles. -/
def issuesNow (s : State) (e : Nat) : Bool :=
  let r := s.eng e
  (r.run == 1 || r.run == 2) && !r.stopping && !r.doneWait

/-- A write to program memory: for 4 ECK cycles a fetch may still return the old bundle, and issue is held for a cycle (R208). -/
def markStale (e w : Nat) (old : Codeword) (s : State) : State :=
  let bit (k : Nat) : Bool := Config.freeBit (s.freeCtr + k)
  let s1 := { s with freeCtr := s.freeCtr + 4 }
  s1.modEng e (fun r => { r with stale := r.stale.filter (fun x => x.word != w) ++ [⟨w, old, [bit 0, bit 1, bit 2, bit 3]⟩] })

/-- The tags that R33, R376 and R378 admit to the memories of engine e: the tenant of its set; for the Keeper and the debugger an engine
in no set, or a grant of the set's tenant. -/
def engineAdmits (s : State) (e : Nat) (r : Req) : Bool :=
  match engineSet s e with
  | none => r.tag.cls == 3 || r.tag.cls == 4
  | some k =>
    let n := s.rd F.TMB_SET_CFG.TENANT k
    if r.tag.cls = 3 ∨ r.tag.cls = 4 then (findGrant s n (if r.op = .write then 3 else 4) k).isSome
    else (r.tag.cls == 1 || r.tag.cls == 2) && r.tag.id == n

/-- An admitted access to the data memory (R150, R152, R212). -/
def dataAccess (e off : Nat) (r : Req) (s : State) : State :=
  let t := serveWords .data e 8 off r s
  if r.op = .write ∧ !writeBlocked s .data e 8 off r.len then ringDoorbell e off r.len t else t

/-- An admitted access to the program memory: reads return bundles as stored (R208). -/
def progAccess (e off : Nat) (r : Req) (s : State) : State :=
  match r.op with
  | .read =>
    let l := (touched 16 off r.len).foldl (fun l w => l ||| wordLanes 16 w (takeData (memCode s .prog e w) (dataPos 137))) 0
    respond r (.data (laneBytes l (r.da % 64) r.len)) s
  | .write =>
    if writeBlocked s .prog e 16 off r.len then respond r (.error 5 2) s
    else
      let t := (touched 16 off r.len).foldl (fun t w => markStale e w (memCode s .prog e w) t)
        (respond r .ack (writeWords .prog e 16 off r.len r.data s))
      if issuesNow s e then t.modEng e (fun q => { q with hold := q.hold + 1 }) else t

/-- A request at offset `off` of engine e's stride, in the order of the checks of R33, R99, R206, R221, R150; `ups`: what has happened to
the words it touches. -/
def engineRequest (e off : Nat) (ups : List (List Nat)) (r : Req) (s : State) : State :=
  if engineAdmits s e r then
    if s.flag F.TMB_STAT.CLEARING e || s.flag F.TMB_STAT.TBUSY e then respond r (.error 5 3) s
    else if !s.flag F.MEM_TMB.USABLE e || s.flag F.TMB_STAT.RETIRED e then respond r (.error 5 1) s
    else if off < 0x10000 then dataAccess e off r (flipTouched .data e 8 off r.len ups s)
    else progAccess e (off - 0x10000) r (flipTouched .prog e 16 (off - 0x10000) r.len ups s)
  else denied r 5 0x7FFF (match engineTenant s e with | some n => tenantBit n | none => 0) s

/-- A window's read at engine e (R215, R217, R220): queued, or answered poisoned where the engine has been retired; none: it waits. -/
def windowArrives (e : Nat) (r : Req) (s : State) : Option State :=
  if s.flag F.TMB_STAT.RETIRED e then some (respond r (.poisoned 0) s)
  else if (s.eng e).wq.length < 4 then
    let (late, t) := s.freshBit
    some (t.modEng e (fun q => { q with wq := q.wq ++ [⟨r, sget 0 s.net.winOff (256 * r.src + r.txn), if late then 3 else 2⟩] }))
  else none

end Sys2Proof.Machine
end

