-- ==== Sys2Proof/Machine/TumblerSets.lean ====
section
/-! DEFINITION. Tumbler sets, jobs, transform windows, retirement and self-test (R204–R223). -/

namespace Sys2Proof.Machine
open Sys2Proof

/-! ### Clearing and links -/

/-- The memories and registers of engine e cleared (R206): zero codewords in both memories, every register of R164 at its reset value,
empty FIFOs.  What waits in its window queue stays. -/
def clearEngine (e : Nat) (s : State) : State :=
  let d := instKey .data e
  let p := instKey .prog e
  let t := dropCodes (fun i => i == d || i == p) s
  let u := { t with mem := { t.mem with cleared := sset false (sset false t.mem.cleared d true) p true } }
  u.setEng e { EngineRec.idle with wq := (s.eng e).wq }

/-- The tenant whose tag engine e carries has changed from `old`: it is cleared, and CLEARING shows it until the clearing ends (R206). -/
def tagChanged (e : Nat) (old : Option Nat) (s : State) : State :=
  if engineTenant s e = old then s else (clearEngine e s).on F.TMB_STAT.CLEARING e

/-- One end of a closed link: its FIFO is emptied and its credits are restored (R198). -/
def emptyLink (e d : Nat) (s : State) : State :=
  s.modEng e (fun r =>
    let q := (r.setFifo d []).setCredits d 4
    { q with coming := q.coming.filter (fun x => x.1 != d) })

/-- The links of engine e that were open in state `old` and are closed now (R196, R198). -/
def closeLinks (e : Nat) (old s : State) : State :=
  (List.range 4).foldl (fun t d =>
    match openLink old e d with
    | some f => if (openLink s e d).isSome then t else emptyLink f (oppositeDir d) (emptyLink e d t)
    | none => t) s

/-- CLEARING_END: an engine's clearing has taken its 1,024 KOSC cycles (R206). -/
def execClearingEnd (e : Fin 512) (s : State) : Host.Outcome State Fault Refusal :=
  done (guarded (s.flag F.TMB_STAT.CLEARING e) s (fun s => s.off F.TMB_STAT.CLEARING e))

/-! ### Membership -/

/-- The conditions under which a write of TMB_CFGe that names set k (`join`: as a member) is refused (R205). -/
def cfgRefused (s : State) (e k : Nat) (join : Bool) : Bool :=
  let now := engineSet s e
  let joins := join && now != some k
  !isIdle s e || now.any (jobRuns s) || (join && jobRuns s k) ||
  (joins && (!s.flag F.TMB_STAT.TESTED e || s.flag F.TMB_STAT.RETIRED e)) ||
  s.flag F.TMB_STAT.CLEARING e ||
  (join && (!s.flag F.TMB_SET_CFG.VALID k || (tmbMembers s k).any (fun f => f != e && f / 128 != e / 128)))

/-- TMB_CFG_WRITE (R205, R206). -/
def tmbCfgWrite (e : Nat) (v : Word) (s : State) : State :=
  let k := F.TMB_CFG.SET.of v
  let join := F.TMB_CFG.VALID.of v == 1
  if cfgRefused s e k join then s.on F.TMB_STAT.REJECT e
  else
    let t := (s.wr F.TMB_CFG.SET e k).wr F.TMB_CFG.VALID e (b2n join)
    tagChanged e (engineTenant s e) (closeLinks e s t)

/-- TMB_CFG_WRITE. -/
def execTmbCfgWrite (e : Fin 512) (v : Word) (s : State) : Host.Outcome State Fault Refusal := done (tmbCfgWrite e v s)

/-- A change of set k's tenant is refused (R205). -/
def retenantRefused (s : State) (k : Nat) : Bool :=
  jobRuns s k || (tmbMembers s k).any (fun e => !isIdle s e || s.flag F.TMB_STAT.CLEARING e)

/-- A write of TMB_SETs_CFG (R204, R205, R224). -/
def setCfgWrite (k : Nat) (v : Word) (s : State) : State :=
  let s0 := if F.TMB_SET_CFG.REJECT.of v = 1 then s.off F.TMB_SET_CFG.REJECT k else s
  let n := F.TMB_SET_CFG.TENANT.of v
  let valid := F.TMB_SET_CFG.VALID.of v
  let window := F.TMB_SET_CFG.WINDOW.of v
  let members := tmbMembers s k
  if n ≠ s.rd F.TMB_SET_CFG.TENANT k ∧ retenantRefused s k then s0.on F.TMB_SET_CFG.REJECT k
  else
    let s1 := s0.wr F.TMB_SET_CFG.TENANT k n
    let s2 := if valid = 0 ∧ s.flag F.TMB_SET_CFG.VALID k ∧ !members.isEmpty then s1.on F.TMB_SET_CFG.REJECT k
      else s1.wr F.TMB_SET_CFG.VALID k valid
    let s3 := if window ≠ s.rd F.TMB_SET_CFG.WINDOW k ∧ jobRuns s k then s2.on F.TMB_SET_CFG.REJECT k
      else s2.wr F.TMB_SET_CFG.WINDOW k window
    members.foldl (fun t e => tagChanged e (engineTenant s e) t) s3

/-- SET_CFG_WRITE. -/
def execSetCfgWrite (k : Fin 64) (v : Word) (s : State) : Host.Outcome State Fault Refusal := done (setCfgWrite k v s)

/-! ### Jobs -/

/-- The leaf of set k: that of its members; 0 without any (R204). -/
def setLeaf (s : State) (k : Nat) : Nat := match tmbMembers s k with | e :: _ => e / 128 | [] => 0

/-- A GO is refused (R209). -/
def goRefused (s : State) (k : Nat) : Bool :=
  let live := liveMembers s k
  jobRuns s k || live.isEmpty || live.any (fun e => !isIdle s e || s.flag F.TMB_STAT.CLEARING e) || !s.flag F.CLK_ECK.EN (setLeaf s k)

/-- Every loop level inactive (R210). -/
def loopsOff (b : TmbBank) : TmbBank :=
  { b with lp := [0, 1, 2, 3].foldl (fun l n => sset .zero l n { sget .zero l n with active := false }) b.lp }

/-- What a job start sets in an engine: its entry, its arguments and JINFO (R210). -/
def startEngine (entry : Nat) (args : List Word) (info : Word) (r : EngineRec) : EngineRec :=
  let kept := r.cr.filter (fun e => !([0, 1, 2, 3, 4, 6, 8, 9, 10, 16, 17, 18, 19, 20, 21, 22].contains e.1))
  let r1 : EngineRec := { r with
    run := 1, pc := entry, bank := false, byDone := false, cr := kept, fifo := [], credits := [], coming := [], take := none,
    bubble := false, hold := 0, redir := none, slots := 0, ctl := 0, prim := loopsOff r.prim, shad := loopsOff r.shad }
  (((((r1.crSet 16 (args.getD 0 0)).crSet 17 (args.getD 1 0)).crSet 18 (args.getD 2 0)).crSet 19 (args.getD 3 0)).crSet 20 info)

/-- JINFO of the live member of rank j (R211). -/
def jinfo (j num k : Nat) : Word := BitVec.ofNat 32 (j % 128 + num * 2 ^ 8 + k * 2 ^ 16)

/-- The live members of set k start at ENTRY (R207, R209, R210). -/
def startMembers (k entry : Nat) (s : State) : State :=
  let live := liveMembers s k
  let args := (List.range 4).map (fun j => s.reg .TMB_SET_ARG (4 * k + j))
  ((List.range live.length).zip live).foldl (fun t x => t.modEng x.2 (startEngine entry args (jinfo x.1 live.length k))) s

/-- A write of TMB_SETs_JOB (R209). -/
def setJobWrite (k : Nat) (v : Word) (s : State) : State :=
  let entry := F.TMB_SET_JOB.ENTRY.of v
  if F.TMB_SET_JOB.GO.of v = 0 then s.wr F.TMB_SET_JOB.ENTRY k entry
  else if goRefused s k then s.on F.TMB_SET_JSTAT.REJECT k
  else
    let t := freeGrants (s.rd F.TMB_SET_CFG.TENANT k) 3 k (s.wr F.TMB_SET_JOB.ENTRY k entry)
    (startMembers k entry (t.setJob k ⟨s.stamp, s.rd F.TMB_SET_TMO.TMO k, 0, 0⟩)).on F.TMB_SET_JSTAT.RUNNING k

/-- JOB_GO: a write of TMB_SETs_JOB. -/
def execJobGo (k : Fin 64) (v : Word) (s : State) : Host.Outcome State Fault Refusal := done (setJobWrite k v s)

/-- The job of set k has an end code, every member is Idle and no network operation is outstanding (R213). -/
def jobOver (s : State) (k : Nat) : Bool :=
  jobRuns s k && (s.job k).code != 0 && (tmbMembers s k).all (fun e => isIdle s e && (s.eng e).ops.isEmpty)

/-- JOB_END (R213, R223). -/
def execJobEnd (k : Fin 64) (s : State) : Host.Outcome State Fault Refusal :=
  done (guarded (jobOver s k) s (fun s =>
    let t := ((s.off F.TMB_SET_JSTAT.RUNNING k).wr F.TMB_SET_JSTAT.END k (s.job k).code).setJob k .none
    match (liveMembers s k).head? <|> (tmbMembers s k).head? with
    | some e => engineCause e F.TMB_EVCAUSE.JOBEND F.TMB_EVEN.JOBEND t
    | none => t))

/-- An end condition under which every member stops (R213). -/
def endStopping (k code : Nat) (s : State) : State := stopMembers k [] (endCode k code s)

/-- JOB_TIMEOUT (R213, R215). -/
def execJobTimeout (k : Fin 64) (s : State) : Host.Outcome State Fault Refusal :=
  let j := s.job k
  done (guarded (jobRuns s k && !s.flag F.TMB_SET_CFG.WINDOW k && j.tmo != 0 && s.expired j.start (1000 * j.tmo)) s
    (endStopping k 3))

/-- SET_STOP: a write of TMB_SETs_STOP. -/
def setStopWrite (k : Nat) (v : Word) (s : State) : State :=
  guarded (F.TMB_SET_STOP.STOP.of v == 1 && jobRuns s k) s (endStopping k 4)

/-- SET_STOP. -/
def execSetStop (k : Fin 64) (v : Word) (s : State) : Host.Outcome State Fault Refusal := done (setStopWrite k v s)

/-- ENGINE_STOP: a write of TMB_CTLe.STOP; in a job it ends the job (R194, R224). -/
def stopGo (e : Nat) (s : State) : State :=
  match engineSet s e with
  | some k => if jobRuns s k then stopEngine e (endStopping k 4 s) else stopEngine e s
  | none => stopEngine e s

/-- ENGINE_STOP. -/
def execEngineStop (e : Fin 512) (s : State) : Host.Outcome State Fault Refusal := done (stopGo e s)

/-- DBCAUSE.KEEPER of an engine (R212). -/
def keeperBell (r : EngineRec) : EngineRec :=
  (r.crSet 0x15 (r.crGet 0x15 ||| 2)).setEvt (flagIf (!(r.crGet 0x15).getLsbD 1) 1)

/-- TMB_SETS_DB: a write of TMB_SETs_DB; a set that serves a window takes none (R212, R215). -/
def setDbWrite (k : Nat) (v : Word) (s : State) : State :=
  guarded (F.TMB_SET_DB.DB.of v == 1 && !s.flag F.TMB_SET_CFG.WINDOW k) s (fun s =>
    (liveMembers s k).foldl (fun t e => t.modEng e keeperBell) s)

/-- TMB_SETS_DB. -/
def execTmbSetsDb (k : Fin 64) (v : Word) (s : State) : Host.Outcome State Fault Refusal := done (setDbWrite k v s)

/-! ### Transform windows -/

/-- The ranges of windows w and x overlap. -/
def windowsOverlap (s : State) (w x : Nat) : Bool :=
  decide (windowBase s w < windowBase s x + 2 ^ s.rd F.TMB_TW_CFG.SIZE x) &&
  decide (windowBase s x < windowBase s w + 2 ^ s.rd F.TMB_TW_CFG.SIZE w)

/-- Window w, as its registers stand, may be enabled (R214). -/
def windowOk (s : State) (w : Nat) : Bool :=
  let k := s.rd F.TMB_TW_CFG.SET w
  let z := s.rd F.TMB_TW_CFG.SIZE w
  let b := windowBase s w
  let bound := s.rd F.TMB_TW_BOUND.BOUND w
  s.flag F.TMB_SET_CFG.VALID k && s.flag F.TMB_SET_CFG.WINDOW k && decide (12 ≤ z ∧ z ≤ 40) && b % 2 ^ z == 0 &&
  decide (0x070000000000 ≤ b ∧ b + 2 ^ z ≤ 0x080000000000) &&
  !(List.range 16).any (fun x => x != w && s.flag F.TMB_TW_CFG.EN x && windowsOverlap s w x) &&
  decide (100 ≤ bound) && decide (bound < 1000 * s.rd F.KRV_TMO.TMO 0)

/-- A write of TMB_TWw_CFG (R214, R219): while EN is 1 only EN is written. -/
def windowCfgWrite (w : Nat) (v : Word) (s : State) : State :=
  let en := F.TMB_TW_CFG.EN.of v
  if s.flag F.TMB_TW_CFG.EN w then s.wr F.TMB_TW_CFG.EN w en
  else
    let s0 := if F.TMB_TW_CFG.REJECT.of v = 1 then s.off F.TMB_TW_CFG.REJECT w else s
    let t := (s0.wr F.TMB_TW_CFG.SET w (F.TMB_TW_CFG.SET.of v)).wr F.TMB_TW_CFG.SIZE w (F.TMB_TW_CFG.SIZE.of v)
    if en = 0 then t
    else if windowOk t w then t.on F.TMB_TW_CFG.EN w
    else t.on F.TMB_TW_CFG.REJECT w

/-- WINDOW_ENABLE: a write of TMB_TWw_CFG. -/
def execWindowEnable (w : Fin 16) (v : Word) (s : State) : Host.Outcome State Fault Refusal := done (windowCfgWrite w v s)

/-- A new KRV_TMO.TMO is legal: 16 to 65,535, and every enabled window's BOUND ends before it (R94, R214). -/
def tmoLegal (s : State) (t : Nat) : Bool :=
  decide (16 ≤ t) && (List.range 16).all (fun w => !s.flag F.TMB_TW_CFG.EN w || decide (s.rd F.TMB_TW_BOUND.BOUND w < 1000 * t))

/-- KRV_TMO_WRITE. -/
def tmoWrite (v : Word) (s : State) : State :=
  let t := F.KRV_TMO.TMO.of v
  if tmoLegal s t then s.wr F.KRV_TMO.TMO 0 t else s

/-- KRV_TMO_WRITE. -/
def execKrvTmoWrite (v : Word) (s : State) : Host.Outcome State Fault Refusal := done (tmoWrite v s)

/-- The address a host names lies in an enabled window. -/
def dpaInWindow (s : State) (n dpa : Nat) : Bool :=
  match translate s n dpa with
  | some da => (match decodeDa s da with | .window _ => true | _ => false)
  | none => false

/-- WINDOW_READ (R215). -/
def execWindowRead (n : Fin 16) (id : HostId) (dpa : Nat) (s : State) : Host.Outcome State Fault Refusal :=
  done (guarded (cxlReady s n && dpaInWindow s n dpa) s (hostRequest n id (dpa / 64 * 64) 64 .read 0 .none))

/-- WINDOW_WRITE (R216). -/
def execWindowWrite (n : Fin 16) (id : HostId) (dpa len : Nat) (data : BitVec 512) (s : State) : Host.Outcome State Fault Refusal :=
  done (guarded (cxlReady s n && dpaInWindow s n dpa) s (hostRequest n id dpa len .write data .none))

/-- WINDOW_BOUND_EXPIRY: the BOUND of a window read ends without a reply (R218). -/
def execWindowBoundExpiry (src : BitVec 13) (txn : BitVec 8) (s : State) : Host.Outcome State Fault Refusal :=
  done (match s.net.outst.find? (fun o => o.req.src == src.toNat && o.req.txn == txn.toNat) with
    | some o =>
      (match o.who with
      | .window n id w => guarded (s.expired o.sentAt o.window) s (fun s =>
          let t := { s with net := { s.net with outst := s.net.outst.erase o, quar := s.net.quar ++ [(o.req.src, o.req.txn)], lateWin := s.net.lateWin ++ [(o.req.src, o.req.txn, w)] } }
          hostAnswer n id .read (.poisoned 0) .none (t.satAdd F.TMB_TW_OVERRUN.VALUE w 1))
      | _ => s)
    | none => s)

/-! ### Retirement and self-test -/

/-- Engine e is retired for a reason (R220): it stops, its job may end, a window's requests in its queue are answered poisoned, and its FIFOs are
empty (R207). -/
def retireEngine (e cause : Nat) (s : State) : State :=
  if s.flag F.TMB_STAT.RETIRED e then s
  else
    let s1 := (s.on F.TMB_STAT.RETIRED e).wr F.TMB_STAT.RCAUSE e cause
    let wasLive := (engineSet s e).isSome
    let s2 := match engineSet s e with
      | none => stopEngine e s1
      | some k =>
        if s.flag F.TMB_SET_CFG.WINDOW k then
          let t := stopEngine e s1
          checkDone k ((t.eng e).wq.foldl (fun (u : State) (q : WinReq) => respond q.req (.poisoned 0) u) (t.modEng e (fun r => { r with wq := [] })))
        else if jobRuns s k && wasLive then stopMembers k [] (endCode k 5 s1)
        else stopEngine e s1
    engineCause e F.TMB_EVCAUSE.RETIRED F.TMB_EVEN.RETIRED (s2.modEng e (fun r => { r with fifo := [], coming := [] }))

/-- An engine whose program memory has become permanently faulty is retired (R220). -/
def retireForProgram (old : State) (e : Nat) (s : State) : State :=
  if !old.flag F.MEM_TMB.PROG_PERM e && s.flag F.MEM_TMB.PROG_PERM e then retireEngine e 3 s else s

/-- A self-test cannot start: one runs, the engine clears, or its band half is off (R221, R431). -/
def testBlocked (s : State) (e : Nat) : Bool :=
  s.flag F.TMB_STAT.TBUSY e || s.flag F.TMB_STAT.CLEARING e || !domOn s (engineDom e)

/-- The job that engine e's set runs, if any. -/
def inJob (s : State) (e : Nat) : Bool := (engineSet s e).any (jobRuns s)

/-- A self-test starts (R221). -/
def startTest (e : Nat) (restore : Bool) (s : State) : State :=
  (s.modEng e (fun r => { r with restoring := restore })).on F.TMB_STAT.TBUSY e

/-- ENGINE_SELF_TEST: a write of TMB_CTLe.TEST. -/
def selfTestGo (e : Nat) (s : State) : State := guarded (!testBlocked s e && isIdle s e && !inJob s e) s (startTest e false)

/-- ENGINE_SELF_TEST. -/
def execEngineSelfTest (e : Fin 512) (s : State) : Host.Outcome State Fault Refusal := done (selfTestGo e s)

/-- ENGINE_RESTORE: a write of TMB_CTLe.RESTORE, ignored while the set runs a job that serves no window (R222). -/
def restoreGo (e : Nat) (s : State) : State :=
  let plainJob := (engineSet s e).any (fun k => jobRuns s k && !s.flag F.TMB_SET_CFG.WINDOW k)
  guarded (!testBlocked s e && isIdle s e && s.flag F.TMB_STAT.RETIRED e && !plainJob) s (startTest e true)

/-- ENGINE_RESTORE. -/
def execEngineRestore (e : Fin 512) (s : State) : Host.Outcome State Fault Refusal := done (restoreGo e s)

/-- The end of a self-test (R221, R222): it passes with the signature that the silicon holds. -/
def endTest (e : Nat) (sig : Word) (s : State) : State :=
  let pass := sig == Config.engineSignature
  let r := s.eng e
  let s1 := ((s.setEng e { EngineRec.idle with wq := r.wq }).off F.TMB_STAT.TBUSY e).wr F.TMB_TSIG.SIG e sig.toNat
  let s2 := if pass then
      (let t := s1.on F.TMB_STAT.TESTED e
       if r.restoring && s.flag F.MEM_TMB.USABLE e && !s.flag F.MEM_TMB.PROG_PERM e then
         (t.off F.TMB_STAT.RETIRED e).wr F.TMB_STAT.RCAUSE e 0
       else t)
    else retireEngine e 1 s1
  engineCause e F.TMB_EVCAUSE.TESTDONE F.TMB_EVEN.TESTDONE s2

/-- ENGINE_SELF_TEST_DONE: the sequencer ends with its signature. -/
def execEngineSelfTestDone (e : Fin 512) (sig : Word) (s : State) : Host.Outcome State Fault Refusal :=
  done (guarded (s.flag F.TMB_STAT.TBUSY e) s (endTest e sig))

/-! ### Register views -/

/-- TMB_STATe (R224). -/
def tmbStatView (s : State) (e : Nat) : Word :=
  let r := s.eng e
  let w := s.reg .TMB_STAT e
  setF (setF (setF (setF w 0 3 (if r.halted then 5 else r.run)) 3 1 (b2n r.bank)) 8 1
    (b2n ((engineSet s e).isSome && !s.flag F.TMB_STAT.RETIRED e))) 12 3 r.wq.length

/-- TMB_PCe (R224). -/
def tmbPcView (s : State) (e : Nat) : Word := BitVec.ofNat 32 ((s.eng e).pc % 1024 + ((s.eng e).crGet 4).toNat % 1024 * 2 ^ 16)

/-- TMB_SETs_INFO (R207, R224). -/
def setInfoView (s : State) (k : Nat) : Word :=
  BitVec.ofNat 32 ((liveMembers s k).length + (tmbMembers s k).length * 2 ^ 8 + setLeaf s k * 2 ^ 16)

/-- TMB_TWw_CFG (R214, R224). -/
def windowCfgView (s : State) (w : Nat) : Word :=
  setF (s.reg .TMB_TW_CFG w) 8 4 (s.rd F.TMB_SET_CFG.TENANT (s.rd F.TMB_TW_CFG.SET w))

end Sys2Proof.Machine
end

