-- ==== Sys2Proof/Machine/Keyhole.lean ====
section
/-! DEFINITION. The Keyhole debug port up to its frames (R470–R475, R479–R487): lows, sessions, authorisation, the debug controls of the
Keeper cores and of the engines, the virtual terminal, and boot images. -/

namespace Sys2Proof.Machine
open Sys2Proof

/-! ### Sessions -/

/-- A session is open (R473). -/
def khOpen (s : State) : Bool := s.flag F.KH_SES.ACTIVE 0

/-- The session's level (R479). -/
def khLevelNow (s : State) : Nat := s.rd F.KH_SES.LEVEL 0

/-- The level that the fuse holds; 3 counts as none (R479). -/
def fuseLevel : Nat := if Config.khLevel = 3 then 0 else Config.khLevel.toNat

/-- KH_SES: the session, its level, and the fuses (R487). -/
def sesView (s : State) : Word := setF (setF (s.reg .KH_SES 0) 3 1 (b2n Config.khAuthMode)) 4 2 Config.khLevel.toNat

/-- Whatever has been received, or is being answered, dropped. -/
def dropFrame (s : State) : State :=
  { s with kh := { s.kh with bits := [], frame := none, reply := none, turned := false, sending := [] } }

/-- A session ends (R473). -/
def endSession (s : State) : State :=
  let s1 := (s.off F.KH_SES.ACTIVE 0).wr F.KH_SES.LEVEL 0 0
  { s1 with kh := { s1.kh with phase := .idle } }

/-- A new challenge from the random source (R479). -/
def drawChallenge (s : State) : State :=
  (List.range 4).foldl (fun t k => let (v, t1) := t.fresh; t1.wr F.KH_CHAL.VALUE k v) s

/-- A frame discarded (R471, R474). -/
def frameError (s : State) : State := (dropFrame s).on F.KH_STAT.FRAMEERR 0

/-- Some part of a frame has been received, or an answer is due. -/
def frameRuns (s : State) : Bool := !s.kh.bits.isEmpty || s.kh.frame.isSome || s.kh.reply.isSome

/-! ### Frames -/

/-- The CRC-8 of R475 over bits in wire order. -/
def crc8 (l : List Bool) : Nat :=
  l.foldl (fun c b => if nbit c 7 != b then (2 * c % 256) ^^^ 0x07 else 2 * c % 256) 0

/-- The value of bits sent least significant bit first. -/
def ofBits : List Bool → Nat
  | [] => 0
  | b :: l => b2n b + 2 * ofBits l

/-- The n low bits of a value, least significant bit first. -/
def toBits (n v : Nat) : List Bool := (List.range n).map (nbit v)

/-- The write-form operations (R476). -/
def isWriteForm (op : Nat) : Bool := op == 0x02 || op == 0x11 || op == 0x13

/-- The operations of R476. -/
def isOperation (op : Nat) : Bool := [0x00, 0x01, 0x02, 0x10, 0x11, 0x12, 0x13, 0x20].contains op

/-- The debugger slots of a frame (R475). -/
def frameSlots (op : Nat) : Nat := if isWriteForm op then 80 else 48

/-- A FAULT recorded (R477). -/
def khFault (code : Nat) (s : State) : State := (s.wr F.KH_STAT.CODE 0 code).on F.KH_STAT.FAULTSEEN 0

/-- The answer to the frame is chosen. -/
def khReply (r : KhReply) (s : State) : State :=
  { s with kh := { s.kh with frame := none, reply := some r, turned := false, sending := [] } }

/-- The frame is answered FAULT with a code; 0: it is answered as `r` says. -/
def khAnswer (code : Nat) (r : KhReply) (s : State) : State :=
  if code = 0 then khReply r s else khReply .fault (khFault code s)

/-- The bits of a frame are all there: its RCRC is checked, and an OP that does not exist is refused (R476, R477). -/
def frameIn (bits : List Bool) (s : State) : State :=
  let op := ofBits (bits.take 8)
  let n := frameSlots op - 8
  let s1 := { s with kh := { s.kh with bits := [] } }
  if crc8 (bits.take n) ≠ ofBits ((bits.drop n).take 8) then khAnswer 1 .fault s1
  else if !isOperation op then khAnswer 2 .fault s1
  else
    { s1 with kh := { s1.kh with frame := some ⟨op, ofBits ((bits.drop 8).take 32),
        if isWriteForm op then ofBits ((bits.drop 40).take 32) else 0⟩ } }

/-- A bit the debugger sends (R471, R475): of the entry word, or of a frame.  In a session without a target slot due, it joins the frame. -/
def khBit (b : Bool) (s : State) : State :=
  match s.kh.phase with
  | .idle => s
  | .entry =>
    let l := s.kh.bits ++ [b]
    if l.length = 8 ∧ ofBits l ≠ 0xB4 then { s with kh := { s.kh with phase := .idle, bits := [] } }
    else if 8 < l.length then s
    else { s with kh := { s.kh with bits := l } }
  | .session =>
    if s.kh.frame.isSome ∨ s.kh.reply.isSome then s
    else
      let l := s.kh.bits ++ [b]
      if 8 ≤ l.length ∧ l.length = frameSlots (ofBits (l.take 8)) then frameIn l s
      else { s with kh := { s.kh with bits := l } }

/-- The start of an attempt once nRST_KH is high (R440, R472). -/
def khRelease (s : State) : State :=
  let s1 := { s with kh := { s.kh with held := false } }
  if s.clk.strapsLatched then startAttempt s1 else s1

/-- A Keyhole reset: the device stays in reset until the line is released (R472). -/
def khReset (s : State) : State :=
  let s1 := deviceResetHeld 1 s
  { s1 with kh := { s1.kh with held := true } }

/-- KOSC measures the lows on nRST_KH (R471). -/
def khMeasures (s : State) : Bool := s.clk.koscOn && s.clk.strapsLatched

/-- KEYHOLE_LOW: a low of `w` KOSC cycles ends (R471, R473). -/
def execKeyholeLow (w : Nat) (s : State) : Host.Outcome State Fault Refusal :=
  done (guarded (khMeasures s) s (fun s =>
    if 39400 ≤ w then khRelease (if s.kh.held then s else khReset s)
    else if s.kh.held ∨ w < 16 then s
    else if w < 180 then khBit true s
    else if w < 400 then khBit false s
    else if w < 8000 then (if khOpen s then frameError s else s)
    else if 15600 ≤ w ∧ w ≤ 24800 then
      let s1 := dropFrame (endSession s)
      { s1 with kh := { s1.kh with phase := .entry } }
    else dropFrame (endSession s)))

/-- KEYHOLE_RESET: a low has reached 39,400 KOSC cycles (R472). -/
def execKeyholeReset (s : State) : Host.Outcome State Fault Refusal := done (guarded (khMeasures s && !s.kh.held) s khReset)

/-- KEYHOLE_RELEASE (R472). -/
def execKeyholeRelease (s : State) : Host.Outcome State Fault Refusal := done (guarded s.kh.held s khRelease)

/-- SESSION_ENTRY: the entry word is there and the session opens at its initial level (R473, R479). -/
def execSessionEntry (s : State) : Host.Outcome State Fault Refusal :=
  done (guarded (s.kh.phase == .entry && s.kh.bits.length == 8 && ofBits s.kh.bits == 0xB4) s (fun s =>
    let s1 := { s with kh := { s.kh with phase := .session, bits := [] } }
    let s2 := ((s1.on F.KH_SES.ACTIVE 0).wr F.KH_SES.LEVEL 0 (if Config.khAuthMode then 0 else fuseLevel))
    let s3 := (s2.wr F.KH_AUTH.FAILS 0 0).off F.KH_AUTH.AUTHWAIT 0
    if Config.khAuthMode then drawChallenge s3 else s3))

/-- FRAME_GAP_TIMEOUT (R474). -/
def execFrameGapTimeout (s : State) : Host.Outcome State Fault Refusal :=
  done (guarded (s.kh.phase == .session && frameRuns s) s frameError)

/-! ### Target slots -/

/-- The bits of an answer from its ACK on, with what it leaves: a FAULT of a failed access is recorded (R475, R477, R478). -/
def ackBits (r : KhReply) (s : State) : List Bool × State :=
  let okBits (d : Option Word) : List Bool :=
    [false, true, false] ++ (match d with
      | some w => toBits 32 w.toNat ++ toBits 8 (crc8 (toBits 32 w.toNat))
      | none => [])
  match r with
  | .ok d => (okBits d, s)
  | .fault => ([false, false, false], s)
  | .wait => ([false, false, true], s)
  | .access =>
    match s.kh.access with
    | none => ([false, false, true], s)
    | some a =>
      let s1 : State := { s with kh := { s.kh with access := none } }
      match a.outcome with
      | none => ([false, false, true], s)
      | some (.data w) => (okBits (some w), s1)
      | some .ack => (okBits none, s1)
      | some (.error c) => ([false, false, false], (khFault 4 s1).wr F.KH_STAT.ERRCODE 0 c)

/-- The device sends a bit; after the last bit of an answer the next frame may begin. -/
def sendBit (b : Bool) (rest : List Bool) (s : State) : State :=
  let k : KhState := if rest.isEmpty then { s.kh with reply := none, turned := false, sending := [] } else { s.kh with sending := rest }
  { s with out := s.out ++ [.keyhole b], kh := k }

/-- TARGET_SLOT: the turnaround slot, then the bits of the answer; with no answer due the device does nothing, which sends 1 (R474, R475). -/
def execTargetSlot (s : State) : Host.Outcome State Fault Refusal :=
  done (match s.kh.reply with
    | none => { s with out := s.out ++ [.keyhole true] }
    | some r =>
      if !s.kh.turned then { s with out := s.out ++ [.keyhole true], kh := { s.kh with turned := true } }
      else match s.kh.sending with
        | b :: l => sendBit b l s
        | [] => match ackBits r s with
          | (b :: l, t) => sendBit b l t
          | ([], t) => t)

/-! ### Authorisation -/

/-- The bytes of four registers, byte 4 k of register k in bits [7:0] (R487). -/
def khBytes (s : State) (f : Fld) : List Byte := (List.range 4).flatMap (fun k => natBytes 4 (s.rd f k))

/-- The response the device expects for a level (R479). -/
def expectedResponse (s : State) (lvl : Nat) : List Byte :=
  (Config.hmacSha256 Config.debugKey (khBytes s F.KH_CHAL.VALUE ++ natBytes 1 lvl)).take 16

/-- A write of KH_AUTH (R479). -/
def authWrite (v : Word) (s : State) : State :=
  let lvl := F.KH_AUTH.LVL.of v
  if F.KH_AUTH.GO.of v = 0 ∨ lvl = 3 ∨ !Config.khAuthMode then s
  else if s.kh.failAt.any (fun t => s.dtcNow < t + 1000000000) then s.on F.KH_AUTH.AUTHWAIT 0
  else
    let s1 := s.off F.KH_AUTH.AUTHWAIT 0
    drawChallenge (if khBytes s F.KH_RESP.VALUE = expectedResponse s lvl then s1.wr F.KH_SES.LEVEL 0 lvl
      else { s1.satAdd F.KH_AUTH.FAILS 0 1 with kh := { s1.kh with failAt := some s.dtcNow } })

/-! ### Keeper cores -/

/-- Core c is halted by the debugger. -/
def coreHalted (s : State) (c : Nat) : Bool := s.rd (F.KP_CORE_STAT.RUN c) 0 == 2

/-- Some core is halted by the debugger. -/
def anyHalted (s : State) : Bool := (List.range 4).any (coreHalted s)

/-- Core c halts at `pc`: its pair splits, its reservation is cleared, its watchdog pauses (R364, R425, R482, R483). -/
def coreHalt (c pc : Nat) (s : State) : State :=
  let split := if lockstep s (c / 2) then s.wrBit F.KP_LSCTL.SPLIT 0 (c / 2) true else s
  let t := ((split.wr (F.KP_CORE_STAT.RUN c) 0 2).wrBit F.KH_CORE_STAT.HALTED 0 c true)
  let t := { t.setCore c { t.core c with pc := pc, reserved := false, regs := [], seed := t.freeCtr } with
    freeCtr := t.freeCtr + 1, kh := { t.kh with haltAsk := BitVec.ofNat 4 (nsetBit t.kh.haltAsk.toNat c false) } }
  evaluate (if t.flag F.KP_WDT_CTL.DBGPAUSE 0 then wdtPause 4 (wdtPause c t) else t)

/-- A halted core continues; its paused watchdog resumes, and the device's once no core is halted (R425, R482). -/
def coreResume (c : Nat) (s : State) : State :=
  let t := ((s.wr (F.KP_CORE_STAT.RUN c) 0 1).wrBit F.KH_CORE_STAT.HALTED 0 c false).wrBit F.KH_CORE_STAT.STEPPING 0 c false
  let t := wdtResume c t
  evaluate (if anyHalted t then t else wdtResume 4 t)

/-- A write of KH_CORE_CTL: halts are asked for, steps begin, halted cores resume (R482). -/
def coreCtlWrite (v : Word) (s : State) : State :=
  let s1 := s.wr F.KH_CORE_CTL.EBRK 0 (F.KH_CORE_CTL.EBRK.of v)
  (List.range 4).foldl (fun t c =>
    let t := if nbit (F.KH_CORE_CTL.HALT.of v) c && t.rd (F.KP_CORE_STAT.RUN c) 0 == 1 then
        { t with kh := { t.kh with haltAsk := BitVec.ofNat 4 (nsetBit t.kh.haltAsk.toNat c true) } } else t
    let t := if nbit (F.KH_CORE_CTL.STEP.of v) c && coreHalted t c then t.wrBit F.KH_CORE_STAT.STEPPING 0 c true else t
    if nbit (F.KH_CORE_CTL.RESUME.of v) c && coreHalted t c then coreResume c t else t) s1

/-- CORE_HALT: a core that has been asked to reaches an instruction boundary, at `pc`. -/
def execCoreHalt (c : Fin 4) (pc : BitVec 64) (s : State) : Host.Outcome State Fault Refusal :=
  done (guarded (s.kh.haltAsk.getLsbD c && s.rd (F.KP_CORE_STAT.RUN c) 0 == 1) s (coreHalt c pc.toNat))

/-- EBREAK_HALT: a running core executes EBREAK with its EBRK bit set. -/
def execEbreakHalt (c : Fin 4) (pc : BitVec 64) (s : State) : Host.Outcome State Fault Refusal :=
  done (guarded (nbit (s.rd F.KH_CORE_CTL.EBRK 0) c && s.rd (F.KP_CORE_STAT.RUN c) 0 == 1) s (coreHalt c pc.toNat))

/-- The value of a register of a halted core: SPACE 0 a general register, 1 a CSR, 2 the PC (R482, R487); x0 reads 0. -/
def coreReg (s : State) (c space num : Nat) : BitVec 64 :=
  let r := s.core c
  if space = 2 then BitVec.ofNat 64 r.pc
  else if space = 0 ∧ (num = 0 ∨ 32 ≤ num) then 0
  else
    let k := 4096 * space + num
    match sget none r.regs k with
    | some v => v
    | none => Config.coreReg r.seed (8192 * c + k)

/-- A register of a halted core written; x0 discards the value. -/
def setCoreReg (c space num : Nat) (v : BitVec 64) (s : State) : State :=
  let r := s.core c
  if space = 2 then s.setCore c { r with pc := v.toNat }
  else if space = 0 ∧ (num = 0 ∨ 32 ≤ num) then s
  else s.setCore c { r with regs := sset none r.regs (4096 * space + num) (some v) }

/-- CORE_STEP: the stepped core has run one instruction, which may have written a general register, and halts at `pc` (R482, R483). -/
def execCoreStep (c : Fin 4) (pc : BitVec 64) (rd : Option (Fin 32 × BitVec 64)) (s : State) : Host.Outcome State Fault Refusal :=
  done (guarded (coreHalted s c && nbit (s.rd F.KH_CORE_STAT.STEPPING 0) c) s (fun s =>
    let s1 := match rd with
      | some (r, v) => setCoreReg c 0 r v s
      | none => s
    (s1.setCore c { s1.core c with pc := pc.toNat, reserved := false }).wrBit F.KH_CORE_STAT.STEPPING 0 c false))

/-- A write of KH_CREG_CMD: a transfer, or FAULT code 5 on a core that is not halted (R482). -/
def cregCmd (v : Word) (s : State) : Nat × State :=
  let c := s.rd F.KH_CREG_SEL.CORE 0
  let space := s.rd F.KH_CREG_SEL.SPACE 0
  let num := s.rd F.KH_CREG_SEL.NUM 0
  if F.KH_CREG_CMD.READ.of v = 0 ∧ F.KH_CREG_CMD.WRITE.of v = 0 then (0, s)
  else if !coreHalted s c then (5, s)
  else
    let x := coreReg s c space num
    let s1 := if F.KH_CREG_CMD.READ.of v = 1 then
        (s.wr F.KH_CREG_LO.VALUE 0 (x.toNat % 2 ^ 32)).wr F.KH_CREG_HI.VALUE 0 (x.toNat / 2 ^ 32) else s
    let w := BitVec.ofNat 64 (s1.rd F.KH_CREG_LO.VALUE 0 + s1.rd F.KH_CREG_HI.VALUE 0 * 2 ^ 32)
    (0, if F.KH_CREG_CMD.WRITE.of v = 1 then setCoreReg c space num w s1 else s1)

/-! ### Tumbler engines -/

/-- Engine e may be reached by the debugger for an operation of a grant, 4 SETREAD or 3 SETWRITE: it is in no set, or its tenant has granted
it (R376, R378, R484). -/
def engineGranted (s : State) (e op : Nat) : Bool :=
  match engineSet s e with
  | none => true
  | some k => (findGrant s (s.rd F.TMB_SET_CFG.TENANT k) op k).isSome

/-- HALT of an engine: at once on a bundle boundary, else at the next one; an Idle or Faulted engine ignores it (R484). -/
def engineHalt (e : Nat) (s : State) : State :=
  let r := s.eng e
  if (r.run = 1 ∨ r.run = 2 ∨ r.run = 3) ∧ !r.halted then
    s.setEng e (if r.noSlot then { r with halted := true } else { r with haltAsked := true })
  else s

/-- STEP of a halted engine: one cycle may run (R484). -/
def engineStep (e : Nat) (s : State) : State :=
  if (s.eng e).halted then s.modEng e (fun r => { r with stepping := true }) else s

/-- RESUME: issue continues, and a recorded stop request is applied (R484). -/
def engineResume (e : Nat) (s : State) : State :=
  let r := s.eng e
  if r.halted then
    let t := s.setEng e { r with halted := false, stepping := false, stopping := false }
    if r.stopping then stopEngine e t else settle e t
  else s

/-- A write of KH_TMB_CTL (R484). -/
def tmbCtlWrite (v : Word) (s : State) : Nat × State :=
  let e := F.KH_TMB_CTL.ENGINE.of v
  let s1 := s.wr F.KH_TMB_STAT.ENGINE 0 e
  let halt := F.KH_TMB_CTL.HALT.of v == 1
  let step := F.KH_TMB_CTL.STEP.of v == 1
  if (halt || step) && !engineGranted s e 4 then (6, s1)
  else
    let s2 := if halt then engineHalt e s1 else s1
    let s3 := if step then engineStep e s2 else s2
    (0, if F.KH_TMB_CTL.RESUME.of v = 1 then engineResume e s3 else s3)

/-- KH_TMB_STAT: the engine of the last write, its state, and a recorded stop request (R484). -/
def khTmbView (s : State) : Word :=
  let e := s.rd F.KH_TMB_STAT.ENGINE 0
  let r := s.eng e
  setF (setF (s.reg .KH_TMB_STAT 0) 16 3 (if r.halted then 5 else r.run)) 19 1 (b2n (r.halted && r.stopping))

/-- Word `w` of a register of an engine (R164, R487). -/
def tregGet (r : EngineRec) (kind idx w : Nat) (bank : Bool) : Word :=
  if kind = 0 then (if w = 0 then r.sreg bank idx else 0)
  else if kind = 1 then (if idx < 8 ∧ w < 5 then BitVec.ofNat 32 (ptrField (r.ptr bank idx) w) else 0)
  else if kind = 2 then
    (if idx < 4 then
      (let q := r.loopLv bank idx
       BitVec.ofNat 32 (if w = 0 then q.start else if w = 1 then q.last else if w = 2 then q.count
         else if w = 3 then b2n q.active else 0))
    else 0)
  else if kind = 3 then (if idx < 16 ∧ w < 16 then (r.vreg idx).extractLsb' (32 * w) 32 else 0)
  else if kind = 4 then
    (if idx < 8 then
      (if w < 64 then (r.acc idx).bits.extractLsb' (32 * w) 32 else if w = 64 then BitVec.ofNat 32 (r.acc idx).exp else 0)
    else 0)
  else 0

/-- A word of a bit vector replaced. -/
def putWord {n : Nat} (x : BitVec n) (w : Nat) (v : Word) : BitVec n :=
  (x &&& ~~~(((BitVec.allOnes 32).setWidth n).shiftLeft (32 * w))) ||| (v.setWidth n).shiftLeft (32 * w)

/-- That word written. -/
def tregSet (kind idx w : Nat) (bank : Bool) (v : Word) (r : EngineRec) : EngineRec :=
  if kind = 0 then (if w = 0 then r.setSreg bank idx v else r)
  else if kind = 1 then (if idx < 8 ∧ w < 5 then r.setPtr bank idx (ptrSet (r.ptr bank idx) w v.toNat) else r)
  else if kind = 2 then
    (if idx < 4 then
      (let q := r.loopLv bank idx
       if w = 0 then r.setLoop bank idx { q with start := v.toNat % 1024 }
       else if w = 1 then r.setLoop bank idx { q with last := v.toNat % 1024 }
       else if w = 2 then r.setLoop bank idx { q with count := v.toNat % 65536 }
       else if w = 3 then r.setLoop bank idx { q with active := nbit v.toNat 0 }
       else r)
    else r)
  else if kind = 3 then (if idx < 16 ∧ w < 16 then { r with v := sset 0 r.v idx (putWord (r.vreg idx) w v) } else r)
  else if kind = 4 then
    (if idx < 8 then
      (let q := r.acc idx
       if w < 64 then { r with a := sset .zero r.a idx { q with bits := putWord q.bits w v } }
       else if w = 64 then { r with a := sset .zero r.a idx { q with exp := v.toNat % 256 } }
       else r)
    else r)
  else r

/-- A write of KH_TREG_CMD: a transfer, or FAULT code 5 on a running engine, or code 6 without the grant (R484). -/
def tregCmd (v : Word) (s : State) : Nat × State :=
  let e := s.rd F.KH_TREG_SEL.ENGINE 0
  let kind := s.rd F.KH_TREG_SEL.KIND 0
  let idx := s.rd F.KH_TREG_SEL.INDEX 0
  let bank := s.flag F.KH_TREG_SEL.BANK 0
  let w := s.rd F.KH_TREG_SEL.WORD 0
  let rd := F.KH_TREG_CMD.READ.of v == 1
  let wr := F.KH_TREG_CMD.WRITE.of v == 1
  if !rd && !wr then (0, s)
  else if !((s.eng e).halted || (s.eng e).run == 0) then (5, s)
  else if (rd && !engineGranted s e 4) || (wr && !engineGranted s e 3) then (6, s)
  else
    let s1 := if rd then s.setReg .KH_TREG_DATA 0 (tregGet (s.eng e) kind idx w bank) else s
    (0, if wr then s1.modEng e (tregSet kind idx w bank (s1.reg .KH_TREG_DATA 0)) else s1)

/-! ### The virtual terminal -/

/-- The Keeper firmware writes KH_VT_TX (R485). -/
def vtTxWrite (v : Word) (s : State) : State :=
  if s.flag F.KH_VT_STAT.TXFULL 0 then s.on F.KH_VT_STAT.OVR 0 else (s.setReg .KH_VT_TX 0 v).on F.KH_VT_STAT.TXFULL 0

/-- The debugger reads KH_VT_TX (R485). -/
def vtTxRead (s : State) : Word × State :=
  if s.flag F.KH_VT_STAT.TXFULL 0 then
    let s1 := s.off F.KH_VT_STAT.TXFULL 0
    (s.reg .KH_VT_TX 0, if s.flag F.KH_VT_EN.TXEVT 0 then raise 48 s1 else s1)
  else (0, s)

/-- The debugger writes KH_VT_RX (R485). -/
def vtRxWrite (v : Word) (s : State) : State :=
  if s.flag F.KH_VT_STAT.RXFULL 0 then s.on F.KH_VT_STAT.OVR 0
  else
    let s1 := (s.setReg .KH_VT_RX 0 v).on F.KH_VT_STAT.RXFULL 0
    if s.flag F.KH_VT_EN.RXEVT 0 then raise 48 s1 else s1

/-- The Keeper firmware reads KH_VT_RX (R485). -/
def vtRxRead (s : State) : Word × State :=
  if s.flag F.KH_VT_STAT.RXFULL 0 then (s.reg .KH_VT_RX 0, s.off F.KH_VT_STAT.RXFULL 0) else (0, s)

/-! ### Boot images -/

/-- A write of KH_IMG_CTL: the length of the image that follows (R486). -/
def imgCtlWrite (v : Word) (s : State) : State :=
  { s.wr F.KH_IMG_CTL.LEN 0 (F.KH_IMG_CTL.LEN.of v) with kh := { s.kh with img := [] } }

/-- A write of KH_IMG_DATA: four bytes of the image, while the boot ROM waits for them; the last word completes the image, and the second
image ends the waiting (R486). -/
def imgDataWrite (v : Word) (s : State) : State :=
  let st := s.rd F.CFG_BOOT_STAT.STAGE 0
  let len := s.rd F.KH_IMG_CTL.LEN 0
  if (st = 0 ∨ st = 5) ∧ s.flag F.KH_IMG_CTL.READY 0 ∧ len ≠ 0 then
    let img := s.kh.img ++ natBytes 4 v.toNat
    if img.length < 4 * len then { s with kh := { s.kh with img := img } }
    else
      let l := s.kh.images ++ [img]
      let s1 := { s with kh := { s.kh with img := [], images := l } }.on F.KH_IMG_CTL.BUSY 0
      (s1.wr F.KH_IMG_CTL.LEN 0 0).wr F.KH_IMG_CTL.READY 0 (b2n (decide (l.length < 2)))
  else s

/-! ### The KH registers under the debugger's frames -/

/-- The level a KH register asks for (R480): of a write, or of a read.  What the table does not list takes level full, but for a read of
KH_DAHI, which takes the level of its write. -/
def khNeeds (write : Bool) (off : Nat) : Nat :=
  if write then
    (if (0x20 ≤ off ∧ off < 0x30) ∨ off = 0x30 ∨ off = 0x08 ∨ off = 0xC0 ∨ off = 0xC4 then 0
     else if off = 0x0C ∨ off = 0xA4 then 1
     else 2)
  else
    (if off < 0x0C ∨ (0x10 ≤ off ∧ off < 0x20) ∨ off = 0x30 ∨ off = 0xC0 ∨ off = 0xC4 then 0
     else if off = 0x0C ∨ off = 0x44 ∨ (0x50 ≤ off ∧ off < 0x70) ∨ off = 0x84 ∨ off = 0xA0 ∨ off = 0xA8 then 1
     else 2)

/-- A sample of the PC of a core: its PC at reset or halted, an open value while it runs (log entry 2). -/
def pcSample (c : Nat) (s : State) : Nat × State :=
  if s.rd (F.KP_CORE_STAT.RUN c) 0 = 1 then s.fresh else ((s.core c).pc, s)

/-- A read of the KH register at an offset. -/
def khGet (off : Nat) (s : State) : Word × State :=
  let plain (r : RegName) (i : Nat) : Word × State := (s.reg r i, s)
  if off = 0x00 then plain .KH_ID 0
  else if off = 0x04 then (sesView s, s)
  else if off = 0x08 then plain .KH_STAT 0
  else if off = 0x0C then plain .KH_DAHI 0
  else if 0x10 ≤ off ∧ off < 0x20 then plain .KH_CHAL ((off - 0x10) / 4)
  else if off = 0x30 then plain .KH_AUTH 0
  else if off = 0x40 then plain .KH_CORE_CTL 0
  else if off = 0x44 then plain .KH_CORE_STAT 0
  else if 0x50 ≤ off ∧ off < 0x70 then
    let (p, t) := pcSample ((off - 0x50) / 8) s
    (BitVec.ofNat 32 (if off % 8 = 0 then p % 2 ^ 32 else p / 2 ^ 32), t)
  else if off = 0x70 then plain .KH_CREG_SEL 0
  else if off = 0x74 then plain .KH_CREG_LO 0
  else if off = 0x78 then plain .KH_CREG_HI 0
  else if off = 0x84 then (khTmbView s, s)
  else if off = 0x88 then plain .KH_TREG_SEL 0
  else if off = 0x8C then plain .KH_TREG_DATA 0
  else if off = 0xA0 then vtTxRead s
  else if off = 0xA4 then (if s.flag F.KH_VT_STAT.RXFULL 0 then plain .KH_VT_RX 0 else (0, s))
  else if off = 0xA8 then plain .KH_VT_STAT 0
  else if off = 0xAC then plain .KH_VT_EN 0
  else if off = 0xC0 then plain .KH_IMG_CTL 0
  else (0, s)

/-- A write of a register by its access codes alone. -/
def plainWrite (r : RegName) (i : Nat) (legal : Nat → Nat → Bool) (v : Word) (s : State) : State :=
  s.setReg r i (writeFields false false legal v (regFields r i) (s.reg r i))

/-- A write of the KH register at an offset: a FAULT code, 0 for none, and what follows. -/
def khPut (off : Nat) (v : Word) (s : State) : Nat × State :=
  let plain (r : RegName) : Nat × State := (0, plainWrite r 0 (fun _ _ => true) v s)
  if off = 0x08 then plain .KH_STAT
  else if off = 0x0C then plain .KH_DAHI
  else if 0x20 ≤ off ∧ off < 0x30 then (0, s.setReg .KH_RESP ((off - 0x20) / 4) v)
  else if off = 0x30 then (0, authWrite v s)
  else if off = 0x40 then (0, coreCtlWrite v s)
  else if off = 0x70 then (0, plainWrite .KH_CREG_SEL 0 (fun lo x => !(lo == 2 && x == 3)) v s)
  else if off = 0x74 then plain .KH_CREG_LO
  else if off = 0x78 then plain .KH_CREG_HI
  else if off = 0x7C then cregCmd v s
  else if off = 0x80 then tmbCtlWrite v s
  else if off = 0x88 then (0, plainWrite .KH_TREG_SEL 0 (fun lo x => !(lo == 9 && 5 ≤ x)) v s)
  else if off = 0x8C then plain .KH_TREG_DATA
  else if off = 0x90 then tregCmd v s
  else if off = 0xA4 then (0, vtRxWrite v s)
  else if off = 0xA8 then plain .KH_VT_STAT
  else if off = 0xAC then plain .KH_VT_EN
  else if off = 0xC0 then (0, imgCtlWrite v s)
  else if off = 0xC4 then (0, imgDataWrite v s)
  else (0, s)

/-- What a frame of a session does to a KH register, where the session's level admits it (R477, R480); the code of its FAULT is recorded. -/
def khDebug (off : Nat) (v : Word) (s : State) : State :=
  guarded (khOpen s) s (fun s =>
    if khLevelNow s < khNeeds true off then khFault 3 s
    else
      let (code, t) := khPut off v s
      if code = 0 then t else khFault code t)

/-- AUTH: a frame's write of KH_AUTH. -/
def execAuth (v : Word) (s : State) : Host.Outcome State Fault Refusal := done (khDebug 0x30 v s)

/-- CORE_RESUME: a frame's write of the core's RESUME bit. -/
def execCoreResume (c : Fin 4) (s : State) : Host.Outcome State Fault Refusal :=
  done (khDebug 0x40 (BitVec.ofNat 32 (2 ^ (8 + c.val) + s.rd F.KH_CORE_CTL.EBRK 0 * 2 ^ 12)) s)

/-- CREG_READ: KH_CREG_SEL and a READ command. -/
def execCregRead (sel : Word) (s : State) : Host.Outcome State Fault Refusal := done (khDebug 0x7C 1 (khDebug 0x70 sel s))

/-- CREG_WRITE: KH_CREG_SEL, the data, and a WRITE command. -/
def execCregWrite (sel : Word) (v : BitVec 64) (s : State) : Host.Outcome State Fault Refusal :=
  done (khDebug 0x7C 2 (khDebug 0x78 (v.extractLsb' 32 32) (khDebug 0x74 (v.extractLsb' 0 32) (khDebug 0x70 sel s))))

/-- ENGINE_HALT: a frame's write of KH_TMB_CTL.HALT. -/
def execEngineHalt (e : Fin 512) (s : State) : Host.Outcome State Fault Refusal := done (khDebug 0x80 (BitVec.ofNat 32 (e.val + 2 ^ 16)) s)

/-- ENGINE_STEP: a frame's write of KH_TMB_CTL.STEP. -/
def execEngineStep (e : Fin 512) (s : State) : Host.Outcome State Fault Refusal := done (khDebug 0x80 (BitVec.ofNat 32 (e.val + 2 ^ 17)) s)

/-- ENGINE_RESUME: a frame's write of KH_TMB_CTL.RESUME. -/
def execEngineResume (e : Fin 512) (s : State) : Host.Outcome State Fault Refusal := done (khDebug 0x80 (BitVec.ofNat 32 (e.val + 2 ^ 18)) s)

/-- TREG_READ: KH_TREG_SEL and a READ command. -/
def execTregRead (sel : Word) (s : State) : Host.Outcome State Fault Refusal := done (khDebug 0x90 1 (khDebug 0x88 sel s))

/-- TREG_WRITE: KH_TREG_SEL, the data, and a WRITE command. -/
def execTregWrite (sel v : Word) (s : State) : Host.Outcome State Fault Refusal :=
  done (khDebug 0x90 2 (khDebug 0x8C v (khDebug 0x88 sel s)))

/-- VT_TX_WRITE. -/
def execVtTxWrite (v : Word) (s : State) : Host.Outcome State Fault Refusal := done (vtTxWrite v s)

/-- VT_TX_READ: a frame's read, at level non-invasive or above. -/
def execVtTxRead (s : State) : Host.Outcome State Fault Refusal :=
  done (guarded (khOpen s) s (fun s =>
    if khLevelNow s < khNeeds false 0xA0 then khFault 3 s
    else
      let (w, t) := vtTxRead s
      { t with rdata := w }))

/-- VT_RX_WRITE: a frame's write. -/
def execVtRxWrite (v : Word) (s : State) : Host.Outcome State Fault Refusal := done (khDebug 0xA4 v s)

/-- VT_RX_READ. -/
def execVtRxRead (s : State) : Host.Outcome State Fault Refusal :=
  let (w, t) := vtRxRead s
  done { t with rdata := w }

/-- KH_IMG_DATA: a frame's write. -/
def execKhImgData (v : Word) (s : State) : Host.Outcome State Fault Refusal := done (khDebug 0xC4 v s)

end Sys2Proof.Machine
end

