-- ==== Sys2Proof/Machine/NetRows.lean ====
section
/-! DEFINITION. Requests at their targets, responses at their sources, timeouts, and the access ports (R75–R94, R99, R199). -/

namespace Sys2Proof.Machine
open Sys2Proof

/-! ### Arrival -/

/-- The request of a source with a TXN, once every earlier one to the same destination has been taken (R81). -/
def arriving (s : State) (src txn : Nat) : Option Req :=
  match s.net.reqs.find? (fun r => r.src == src && r.txn == txn) with
  | some r => if s.net.reqs.find? (fun q => q.src == src && q.dst == r.dst) = some r then some r else none
  | none => none

/-- A request taken off the network. -/
def takeReq (r : Req) (s : State) : State :=
  let t := landed (.req r.src r.txn) s
  { t with net := { t.net with reqs := t.net.reqs.erase r } }

/-- A flit with a bad CRC discarded by its destination (R79). -/
def crcDrop (s : State) : State := s.satAdd F.KRV_CRCDROP.COUNT 0 1

/-- The power domain of an endpoint's block; none for the always-on ones (R429, R99). -/
def endpointDom (ep : Nat) : Option Nat :=
  let l := epLeaf ep
  let r := epRouter ep
  if r < 80 then some (sectorDom (80 * l + r))
  else if r < 88 then some (15 * l + 8 + (r - 80) / 4)
  else if r < 91 then some (channelDom (3 * l + (r - 88)))
  else if r < 93 then some (portDom (2 * l + (r - 91)))
  else none

/-- The target of a request serves it, and the request leaves the network; none: the target cannot take it yet (R33, R77, R99, R271, R293).
`ups` and `u`: what has happened to the words, or to the line, that it touches; `parity`: the damaged ways of its line's directory set. -/
def serveRequest (ups : List (List Nat)) (u : Upset) (parity : BitVec 16) (r : Req) (s : State) : Option State :=
  let t := takeReq r s
  let router := epRouter r.dst
  let leaf := epLeaf r.dst
  if (endpointDom r.dst).any (fun d => !domOn s d) then some (respond r (.error 7 0) t)
  else if router < 80 then
    let v := 160 * leaf + 2 * router + (epLocal r.dst - 2)
    some (if epLocal r.dst = 2 ∨ epLocal r.dst = 3 then vaultRequest v (r.da % 0x20000) ups r t else respond r (.error 4 3) t)
  else if router < 88 then
    let e := 128 * leaf + 16 * (epLocal r.dst / 2) + 2 * (router - 80) + epLocal r.dst % 2
    if r.tag.cls = 0 then windowArrives e r t
    else some (engineRequest e (r.da % 0x20000) ups r t)
  else if router < 91 then
    let n := 3 * leaf + (router - 88)
    if epLocal r.dst ≠ 0 then some (respond r (.error 4 3) t)
    else if frontEndTakes s n r then
      some (walks (frontEnd n r (dirParity leaf (r.da / 64) parity t)))
    else none
  else if router < 93 ∧ epLocal r.dst < 8 then (if agentTakes s r then some (agentServe r u t) else none)
  else some (respond r (.error 4 3) t)

/-- A read or write request reaches its target, which checks its flits and serves it, or leaves it in its buffer (R79, R89); registers are
the hub's (REG_READ, REG_WRITE). -/
def requestArrives (op : NetOp) (src txn : Nat) (ups : List (List Nat)) (u : Upset) (parity : BitVec 16) (damage : Option (Fin 1152))
    (s : State) : State :=
  match arriving s src txn with
  | none => s
  | some r =>
    if r.op ≠ op ∨ r.dst = hubEp then s
    else match reach (.req src txn) s with
      | none => s
      | some t =>
        if crcFails (reqFlitsOf r) damage then crcDrop (takeReq r t)
        else (serveRequest ups u parity r t).getD t

/-! ### Completion -/

/-- One transfer of a DMA channel has completed; the last ends the chain (R362). -/
def dmaStep (c : Nat) (s : State) : State :=
  let left := sget 0 s.kp.dmaLeft c - 1
  let t := { s with kp := { s.kp with dmaLeft := sset 0 s.kp.dmaLeft c left } }
  if left = 0 then t.off F.KP_DMA_STAT.BUSY c else t

/-- The exception of a core's access (R365). -/
def accessFault (op : NetOp) (da : Nat) : AccessFault :=
  match op with
  | .read => .load da
  | .write => .store da

/-- The debug master's access ends (R478). -/
def debugDone (o : KhOutcome) (s : State) : State :=
  match s.kh.access with
  | some a => { s with kh := { s.kh with access := some { a with outcome := some o } } }
  | none => s

/-- The 32-bit word of an access at an address, from the lanes of a line. -/
def lineWord (l : Line) (da : Nat) : Word := l.extractLsb' (8 * (da % 64 / 4 * 4)) 32

/-- The response a port hands to the fabric design is stored, unless its region is closed (R90, R93). -/
def portTakes (a : Nat) (p : Resp) (s : State) : State :=
  if s.flag F.KRV_AP.CLOSED a then s
  else { s with net := { s.net with apStore := sset [] s.net.apStore a (sget [] s.net.apStore a ++ [p]) } }

/-- What a completed request does at its source (R90, R202, R218, R256, R365, R478); `grant`: what a head's host may keep the line as. -/
def completeAt (who : Who) (r : Req) (a : Answer) (grant : Intent) (s : State) : State :=
  match who with
  | .port p => portTakes p ⟨r.dst, r.src, r.txn, r.tag, a, grant⟩ s
  | .head n id => hostAnswer n id r.op a grant s
  | .window n id w =>
    hostAnswer n id r.op a .none (match a with
      | .data _ => s.satAdd F.TMB_TW_SERVED.VALUE w 1
      | .poisoned _ => s.satAdd F.TMB_TW_SERVED.VALUE w 1
      | _ => s)
  | .engine e => settle e (engineDone e r.txn a s)
  | .core c =>
    (match a with
    | .data d => s.setCore c { s.core c with loaded := d }
    | .poisoned d => s.setCore c { s.core c with loaded := d }
    | .ack => s
    | .error _ _ => coreAccessFault c (accessFault r.op r.da) s)
  | .dma c =>
    (match a with
    | .error code _ => dmaStop c code s
    | _ => dmaStep c s)
  | .debug => debugDone (match a with
      | .data d => .data (lineWord d r.da)
      | .poisoned d => .data (lineWord d r.da)
      | .ack => .ack
      | .error code _ => .error code) s

/-- An access of a Keeper core or of the DMA goes into the network, or its source answers it (R83). -/
def keeperAccess (who : Who) (op : NetOp) (src da len : Nat) (data : Line) (s : State) : Option Nat × State :=
  let txn := freeTxn s src
  match netAdmit who keeperTag op src txn da len data s with
  | .sent t => (txn, t)
  | .answered code detail t => (none, completeAt who ⟨op, src, 0, 0, keeperTag, da, len, data, .none⟩ (.error code detail) .none t)
  | .waits => (none, s)

/-- Where the request of a command comes from: one that is on its way, or one that a core or a DMA channel makes now. -/
def requestOf (op : NetOp) (f : NetFrom) (s : State) : Option (Nat × Nat) × State :=
  match f with
  | .flit src txn => (some (src.toNat, txn.toNat), s)
  | .core c da len data =>
    let (t, s1) := keeperAccess (.core c) op coreEp da.toNat len (if op = .write then data else 0) s
    (t.map (fun x => (coreEp, x)), s1)
  | .dma c da len data =>
    if s.flag F.KP_DMA_STAT.BUSY c && !dmaStalls s c then
      let (t, s1) := keeperAccess (.dma c) op dmaEp da.toNat len (if op = .write then data else 0) s
      (t.map (fun x => (dmaEp, x)), s1)
    else (none, s)

/-- READ: the request is made where a core or a DMA channel makes it, and it reaches its target. -/
def execRead (f : NetFrom) (ups : List (List Nat)) (u : Upset) (parity : BitVec 16) (damage : Option (Fin 1152)) (s : State) :
    Host.Outcome State Fault Refusal :=
  done (match requestOf .read f s with
    | (some (src, txn), t) => requestArrives .read src txn ups u parity damage t
    | (none, t) => t)

/-- WRITE: the same for a write. -/
def execWrite (f : NetFrom) (ups : List (List Nat)) (u : Upset) (parity : BitVec 16) (damage : Option (Fin 1152)) (s : State) :
    Host.Outcome State Fault Refusal :=
  done (match requestOf .write f s with
    | (some (src, txn), t) => requestArrives .write src txn ups u parity damage t
    | (none, t) => t)

/-! ### Responses -/

/-- The kinds of response (R76). -/
inductive RespKind where
  | data
  | poisoned
  | ack
  | error
deriving DecidableEq, Repr

/-- The kind of an answer. -/
def answerKind : Answer → RespKind
  | .data _ => .data
  | .poisoned _ => .poisoned
  | .ack => .ack
  | .error _ _ => .error

/-- The response on its way to a source, once every earlier one from the same target has arrived (R81). -/
def respArriving (s : State) (src txn : Nat) : Option Resp :=
  match s.net.resps.find? (fun p => p.dst == src && p.txn == txn) with
  | some p => if s.net.resps.find? (fun q => q.dst == src && q.src == p.src) = some p then some p else none
  | none => none

/-- The outstanding request that a response answers. -/
def outstOf (s : State) (src txn : Nat) : Option Outst := s.net.outst.find? (fun o => o.req.src == src && o.req.txn == txn)

/-- A response taken off the network. -/
def takeResp (p : Resp) (s : State) : State :=
  let t := landed (.resp p.dst p.txn) s
  { t with net := { t.net with resps := t.net.resps.erase p } }

/-- A request leaves its source's list. -/
def takeOutst (o : Outst) (s : State) : State := whoRegs o.who { s with net := { s.net with outst := s.net.outst.erase o } }

/-- A response of a kind arrives at its source within the window of its request (R75, R79, R94). -/
def responseArrives (k : RespKind) (src txn : Nat) (damage : Option (Fin 1152)) (s : State) : State :=
  match respArriving s src txn with
  | none => s
  | some p =>
    if answerKind p.ans ≠ k then s
    else match reach (.resp src txn) s with
      | none => s
      | some t =>
        if crcFails (respFlitsOf (((outstOf s src txn).map (·.req.da)).getD 0) p) damage then crcDrop (takeResp p t)
        else match outstOf s src txn with
          | none => t
          | some o =>
            if s.expired o.sentAt o.window then t
            else completeAt o.who o.req p.ans p.grant (takeOutst o (takeResp p t))

/-- Issue of engine e is held for a cycle, where it issues (R176, R199). -/
def holdEngine (e : Nat) (s : State) : State := if issuesNow s e then s.modEng e (fun q => { q with hold := q.hold + 1 }) else s

/-- The data of an NGET of engine e have come with a TXN. -/
def ngetData (s : State) (e txn : Nat) : Bool :=
  (s.eng e).ops.any (fun o => o.txn == txn && o.get) && (respArriving s (engineEp e) txn).any (fun p => answerKind p.ans == .data || answerKind p.ans == .poisoned)

/-- FORCED_NETWORK_ACCESS: an access to the data memory of engine e, of another source or of the data that its own NGET brings, takes its banks after
16 cycles, and issue is held for one (R199). -/
def execForcedNetworkAccess (e : Fin 512) (src : BitVec 13) (txn : BitVec 8) (ups : List (List Nat)) (s : State) :
    Host.Outcome State Fault Refusal :=
  done (match arriving s src.toNat txn.toNat with
    | none =>
      guarded (src.toNat == engineEp e && ngetData s e txn.toNat) s (fun s =>
        let k := ((respArriving s (engineEp e) txn.toNat).map (fun p => answerKind p.ans)).getD .data
        holdEngine e (responseArrives k src.toNat txn.toNat none s))
    | some r =>
      guarded (r.dst == engineEp e && r.tag.cls != 0 && decide (r.da % 0x20000 < 0x10000) && domOn s (engineDom e)) s (fun s =>
        match reach (.req src.toNat txn.toNat) s with
        | none => s
        | some s1 => holdEngine e (engineRequest e (r.da % 0x20000) ups r (takeReq r s1))))

/-- DATA. -/
def execData (src : BitVec 13) (txn : BitVec 8) (damage : Option (Fin 1152)) (s : State) : Host.Outcome State Fault Refusal :=
  done (responseArrives .data src.toNat txn.toNat damage s)

/-- DATA_POISONED. -/
def execDataPoisoned (src : BitVec 13) (txn : BitVec 8) (damage : Option (Fin 1152)) (s : State) : Host.Outcome State Fault Refusal :=
  done (responseArrives .poisoned src.toNat txn.toNat damage s)

/-- ACK. -/
def execAck (src : BitVec 13) (txn : BitVec 8) (damage : Option (Fin 1152)) (s : State) : Host.Outcome State Fault Refusal :=
  done (responseArrives .ack src.toNat txn.toNat damage s)

/-- ERROR. -/
def execError (src : BitVec 13) (txn : BitVec 8) (damage : Option (Fin 1152)) (s : State) : Host.Outcome State Fault Refusal :=
  done (responseArrives .error src.toNat txn.toNat damage s)

/-- A request is one of a window read, which has its own bound (R218). -/
def isWindowRead (o : Outst) : Bool :=
  match o.who with
  | .window _ _ _ => true
  | _ => false

/-- TIMEOUT: the window of R94 ends without a response; the request completes with code 0x08, is logged, and its TXN is quarantined. -/
def execTimeout (src : BitVec 13) (txn : BitVec 8) (s : State) : Host.Outcome State Fault Refusal :=
  done (match outstOf s src.toNat txn.toNat with
    | none => s
    | some o =>
      guarded (!isWindowRead o && s.expired o.sentAt o.window) s (fun s =>
        let s1 := { s with net := { s.net with quar := s.net.quar ++ [(o.req.src, o.req.txn)] } }
        let s2 := completeAt o.who o.req (.error 8 0) .none (netError 8 0 o.req.src o.req.da (takeOutst o s1))
        if s.flag F.KRV_CTL.TMO_EVT_EN 0 then raise 9 s2 else s2))

/-- LATE_RESPONSE: the response to a quarantined request arrives: it is discarded and counted, and its TXN is free again (R94, R218). -/
def execLateResponse (src : BitVec 13) (txn : BitVec 8) (s : State) : Host.Outcome State Fault Refusal :=
  let ep := src.toNat
  let x := txn.toNat
  done (match respArriving s ep x with
    | none => s
    | some p =>
      guarded (s.net.quar.contains (ep, x) && (outstOf s ep x).isNone && (reach (.resp ep x) s).isSome) s (fun s =>
        let s1 := takeResp p ((reach (.resp ep x) s).getD s)
        let s2 := { s1 with net := { s1.net with
          quar := s1.net.quar.erase (ep, x)
          lateWin := s1.net.lateWin.filter (fun (e : Nat × Nat × Nat) => !(e.1 == ep && e.2.1 == x)) } }
        let s3 := (match s.net.lateWin.find? (fun (e : Nat × Nat × Nat) => e.1 == ep && e.2.1 == x) with
          | some e => s2.satAdd F.TMB_TW_LATE.VALUE e.2.2 1
          | none => s2).satAdd F.KRV_LATE.COUNT 0 1
        (match (List.range 640).find? (fun a => portEp a == ep) with
          | some a => portRegs a s3
          | none => s3)))

/-! ### Access ports -/

/-- APCLK runs at access port a: a global network open at its sector, whose clock is enabled (R53, R90). -/
def apClockOk (s : State) (a : Nat) : Bool :=
  let n := Config.apClock (portFrames (sectorFrames s (a / 2))) (a % 2)
  gateOpen s (a / 2) n && divOn s (.fck n)

/-- The entries of access port a's response store that are taken: four responses stand in its elastic buffer (R90). -/
def storeUsed (s : State) (a : Nat) : Nat := (sget [] s.net.apStore a).length - 4

/-- ACCESS_PORT_REQUEST: the fabric design makes a request that the port accepts (R83, R90, R91); REQ_READY is 0 while its elastic buffer is
full (R89). -/
def execAccessPortRequest (a : Fin 640) (write : Bool) (txn : Fin 64) (da : BitVec 48) (len : Fin 64) (data : BitVec 512) (s : State) :
    Host.Outcome State Fault Refusal :=
  let ep := portEp a
  let op : NetOp := if write then .write else .read
  let busy := (s.net.outst.filter (fun o => o.req.src == ep)).length
  done (guarded (apClockOk s a && !txnTaken s ep txn && decide (storeUsed s a + busy < 64) && !s.flag F.KRV_AP.CLOSED a) s (fun s =>
    let tag : Tag := ⟨1, sectorId s (a / 2)⟩
    match netAdmit (.port a) tag op ep (some txn.val) da.toNat (len.val + 1) (if write then data else 0) s with
    | .sent t => t
    | .answered code detail t => portTakes a ⟨ep, ep, txn, tag, .error code detail, .none⟩ t
    | .waits => s))

/-- ACCESS_PORT_RESPONSE: the oldest response stored is handed over (R90, R91). -/
def execAccessPortResponse (a : Fin 640) (s : State) : Host.Outcome State Fault Refusal :=
  done (match sget [] s.net.apStore a with
    | [] => s
    | p :: l => guarded (apClockOk s a) s (fun s =>
      let (kind, code, d) := match p.ans with
        | .data d => (0, 0, d)
        | .poisoned d => (1, 0, d)
        | .ack => (2, 0, 0)
        | .error c _ => (3, c, 0)
      { s with net := { s.net with apStore := sset [] s.net.apStore a l }, out := s.out ++ [.apResponse a p.txn kind code d] }))

end Sys2Proof.Machine
end

