-- ==== Sys2Proof/Machine/Pins.lean ====
section
/-! DEFINITION. The user I/O banks and the management pins with their peripherals (R454–R469). -/

namespace Sys2Proof.Machine
open Sys2Proof

/-! ### User I/O -/

/-- What a user I/O pin does (R456). -/
inductive UserPin where
  /-- Driver and input buffer off, weak pull-up on. -/
  | disabled
  /-- The pin follows its frames. -/
  | follows
  /-- The driver is off and bus-hold keeps the pad's level. -/
  | held
  /-- The bank's VCCIO is absent: drivers off, inputs 0 (R494). -/
  | unpowered
deriving DecidableEq, Repr

/-- The sector to whose routing pin k of bank b connects: column 0, rows 2 j and 2 j + 1 of the leaf, 24 pins each (R454). -/
def userPinSector (b k : Nat) : Nat := 80 * (b / 4) + 8 * (2 * (b % 4) + k / 24)

/-- The state of pin k of user I/O bank b (R456, R494). -/
def userPin (s : State) (b k : Nat) : UserPin :=
  if !s.pwr.vccio.getLsbD b then .unpowered
  else if !s.flag F.CFG_PINS.DONE 0 then .disabled
  else if s.flag F.CFG_SECT.CLOSED (userPinSector b k) then .held
  else .follows

/-! ### Ownership -/

/-- Core c runs in machine mode. -/
def inMachineMode (s : State) (c : Nat) : Bool := (s.core c).mode == .machine

/-- A write from the source is admitted for pin i (R379). -/
def pinAdmits (s : State) (src : Actor) (i : Nat) : Bool :=
  match src with
  | .keeper c => if pinOwner s i = 0 then inMachineMode s c else pinOwner s i == c.val + 1
  | .dma _ => false
  | .debugger => pinOwner s i == 0
  | .host _ => false

/-- A refused write is logged with the first pin that does not admit it (R379). -/
def pinGuard (src : Actor) (pins : List Nat) (f : State → State) (s : State) : State :=
  match pins.find? (fun i => !pinAdmits s src i) with
  | some i => wardLog 3 31 i 0 s
  | none => f s

/-! ### Registers as read -/

/-- MGP_PINi as a read shows it. -/
def mgpPinView (s : State) (i : Nat) : Word :=
  setF (setF (s.reg .MGP_PIN i) 8 1 (b2n (padLevel s i))) 9 1 (b2n (pinConflict s i))

/-- MGP_INk as a read shows it. -/
def mgpInView (s : State) (k : Nat) : Word :=
  (List.range 32).foldl (fun w j => setF w j 1 (b2n (padLevel s (32 * k + j)))) 0

/-- MGP_STAT as a read shows it. -/
def mgpStatView (s : State) : Word := BitVec.ofNat 32 (b2n ((List.range 64).any (pinConflict s)))

/-! ### Pin registers and function switches -/

/-- The writable fields of MGP_PINi (R469); a reserved DRIVE is ignored (R8). -/
def pinWrite (i : Nat) (v : Word) (s : State) : State :=
  s.setReg .MGP_PIN i (writeFields true false (fun lo x => !(lo == 6 && x == 3)) v (regFields .MGP_PIN i) (s.reg .MGP_PIN i))

/-- The gap of a function switch of pin i begins, or begins again (R463). -/
def startGap (i : Nat) (s : State) : State :=
  let l := padLevel s i
  ({ s with pin := { s.pin with hold := BitVec.ofNat 64 (nsetBit s.pin.hold.toNat i l) } }).on F.MGP_PIN.GAP i

/-- A write of map entry m: a pin that gains or loses an output signal is switched (R461, R463). -/
def mapWrite (src : Actor) (m : Nat) (v : Word) (s : State) : State :=
  let oldPin := s.rd F.MGP_MAP.PIN m
  let oldOn := s.flag F.MGP_MAP.EN m
  let newPin := F.MGP_MAP.PIN.of v
  let newOn := F.MGP_MAP.EN.of v == 1
  pinGuard src (newPin :: (if oldOn then [oldPin] else [])) (fun s =>
    let lost := if isOutput m && oldOn && !(newOn && newPin == oldPin) then [oldPin] else []
    let won := if isOutput m && newOn && !(oldOn && newPin == oldPin) then [newPin] else []
    let s1 := (lost ++ won).foldl (fun t i => startGap i t) s
    (s1.wr F.MGP_MAP.PIN m newPin).wr F.MGP_MAP.EN m (b2n newOn)) s

/-- FUNCTION_SWITCH: a write of MGP_MAPm. -/
def execFunctionSwitch (src : Actor) (m : Fin 34) (v : Word) (s : State) : Host.Outcome State Fault Refusal :=
  done (mapWrite src m v s)

/-! ### Event lines -/

/-- The pin that event line n watches (R466). -/
def linePin (s : State) (n : Nat) : Nat := 16 * s.rd F.MGP_EVL.PORT n + n

/-- The level mode of line n holds at a level of its pin. -/
def lineHolds (s : State) (n : Nat) (level : Bool) : Bool :=
  let m := s.rd F.MGP_EVL.MODE n
  (m == 4 && level) || (m == 5 && !level)

/-- Event line n sees a level of its pin: an edge or a level that its mode asks for sets its bit, and a fabric-owned pin's line drives MG_EV
(R466). -/
def lineSees (n : Nat) (level : Bool) (s : State) : State :=
  let was := s.pin.seen.getLsbD n
  let m := s.rd F.MGP_EVL.MODE n
  let edge := ((m == 1 || m == 3) && !was && level) || ((m == 2 || m == 3) && was && !level)
  let holds := lineHolds s n level
  let fabric := pinOwner s (linePin s n) == 5
  let ev := s.pin.mgEv.getLsbD n
  let ev' := if fabric then (if m = 4 ∨ m = 5 then holds else if edge then !ev else ev) else ev
  let s1 := { s with pin := { s.pin with
    seen := BitVec.ofNat 16 (nsetBit s.pin.seen.toNat n level)
    mgEv := BitVec.ofNat 16 (nsetBit s.pin.mgEv.toNat n ev') } }
  if edge || holds then s1.wrBit F.MGP_EVSTAT.LINES 0 n true else s1

/-- The event lines see the levels of their pins that have changed (R466; log entry 219). -/
def linesSee (s : State) : State :=
  (List.range 16).foldl (fun t n =>
    let level := padLevel t (linePin t n)
    if level == t.pin.seen.getLsbD n then t else lineSees n level t) s

/-- A write of MGP_PINi, and what the event lines then see of its pad (R461, R466). -/
def pinDrive (i : Nat) (v : Word) (s : State) : State := linesSee (pinWrite i v s)

/-- PIN_REGISTER_WRITE (R461, R379). -/
def execPinRegisterWrite (src : Actor) (i : Fin 64) (v : Word) (s : State) : Host.Outcome State Fault Refusal :=
  done (pinGuard src [i.val] (pinDrive i v) s)

/-- GAP_END: the new drivers drive the pin (R463). -/
def execGapEnd (i : Fin 64) (s : State) : Host.Outcome State Fault Refusal :=
  done (guarded (s.flag F.MGP_PIN.GAP i) s (fun s => linesSee (s.off F.MGP_PIN.GAP i)))

/-- A write of MGP_EVLn: a write to the pin selected before and after (R461); a reserved MODE is ignored (R8). -/
def evlWrite (src : Actor) (n : Nat) (v : Word) (s : State) : State :=
  let port := F.MGP_EVL.PORT.of v
  pinGuard src [linePin s n, 16 * port + n] (fun s =>
    let s1 := (s.wr F.MGP_EVL.PORT n port).wr F.MGP_EVL.CMASK n (F.MGP_EVL.CMASK.of v)
    let s2 := if F.MGP_EVL.MODE.of v < 6 then s1.wr F.MGP_EVL.MODE n (F.MGP_EVL.MODE.of v) else s1
    let level := padLevel s2 (linePin s2 n)
    if lineHolds s2 n level then lineSees n level s2
    else { s2 with pin := { s2.pin with seen := BitVec.ofNat 16 (nsetBit s2.pin.seen.toNat n level) } }) s

/-- EVENT_LINE_WRITE. -/
def execEventLineWrite (src : Actor) (n : Fin 16) (v : Word) (s : State) : Host.Outcome State Fault Refusal :=
  done (evlWrite src n v s)

/-- PIN_EVENT: the board drives the pin that line n watches to a level, and the line sees the pad's synchronised level. -/
def execPinEvent (n : Fin 16) (level : Bool) (s : State) : Host.Outcome State Fault Refusal :=
  let i := linePin s n
  let s1 := { s with pin := { s.pin with pads := BitVec.ofNat 64 (nsetBit s.pin.pads.toNat i level) } }
  done (lineSees n (padLevel s1 i) s1)

/-- A write of 1 to MGP_EVSTAT bits: the bit of a level that still holds stays (R466). -/
def evstatWrite (v : Word) (s : State) : State :=
  (List.range 16).foldl (fun t n =>
    if nbit v.toNat n && !lineHolds t n (padLevel t (linePin t n)) then t.wrBit F.MGP_EVSTAT.LINES 0 n false else t) s

/-- Local interrupt 16 + n is asserted on core c; a lockstep pair sees the bit of its lower core (R466). -/
def localInterrupt (s : State) (c n : Nat) : Bool :=
  let home := if higherOfPair s c then c - 1 else c
  pinOwner s (linePin s n) != 5 && nbit (s.rd F.MGP_EVSTAT.LINES 0) n && nbit (s.rd F.MGP_EVL.CMASK n) home

/-! ### Peripherals -/

/-- The pins that the enabled map entries of a peripheral name. -/
def mapPins (s : State) (first count : Nat) : List Nat :=
  ((List.range count).filter (fun k => s.flag F.MGP_MAP.EN (first + k))).map (fun k => s.rd F.MGP_MAP.PIN (first + k))

/-- A peripheral's registers accept a write from the source (R461). -/
def periphAdmits (s : State) (src : Actor) (first count : Nat) : Bool :=
  match src with
  | .keeper c => inMachineMode s c || (mapPins s first count).all (fun i => pinOwner s i == c.val + 1)
  | .dma _ => false
  | .debugger => true
  | .host _ => false

/-! #### I2C -/

/-- The bytes of the buffer of bus b. -/
def i2cBytes (s : State) (b n : Nat) : List Byte :=
  (List.range n).map (fun k => (s.reg .MGP_I2CDATA (4 * b + k / 4)).extractLsb' (8 * (k % 4)) 8)

/-- Bytes put into the buffer of bus b from byte 0. -/
def i2cStore (b : Nat) (l : List Byte) (s : State) : State :=
  (List.range l.length).foldl (fun t k =>
    t.setReg .MGP_I2CDATA (4 * b + k / 4) (setF (t.reg .MGP_I2CDATA (4 * b + k / 4)) (8 * (k % 4)) 8 (l.getD k 0).toNat)) s

/-- The open transaction of bus b. -/
def i2cLeft (s : State) (b : Nat) : Option I2cOpen := sget none s.pin.i2c b

/-- The open transaction of bus b replaced. -/
def setI2cLeft (b : Nat) (o : Option I2cOpen) (s : State) : State := { s with pin := { s.pin with i2c := sset none s.pin.i2c b o } }

/-- A command goes out on bus b. -/
def i2cStart (b : Nat) (v : Word) (s : State) : State :=
  let addr := F.MGP_I2CCMD.ADDR.of v
  let turns := match i2cLeft s b with
    | some o => !o.reading && F.MGP_I2CCMD.WLEN.of v == 0
    | none => true
  let s1 := { s with
    pin := { s.pin with i2cCmd := sset 0 s.pin.i2cCmd b v }
    out := s.out ++ [OutMsg.i2c b addr (i2cBytes s b (F.MGP_I2CCMD.WLEN.of v)) (F.MGP_I2CCMD.RLEN.of v)
      (F.MGP_I2CCMD.NOSTART.of v == 0 || turns) (F.MGP_I2CCMD.NOSTOP.of v == 0)] }
  s1.on F.MGP_I2CSTAT.BUSY b

/-- A write of MGP_I2CbCMD (R460): ignored without GO, while BUSY is 1, on a disabled bus, and with a length above 16; an invalid
continuation ends at once with NACK. -/
def i2cGo (b : Nat) (v : Word) (s : State) : State :=
  if F.MGP_I2CCMD.GO.of v = 0 ∨ s.flag F.MGP_I2CSTAT.BUSY b ∨ !s.flag F.MGP_I2CCTL.EN b ∨ 16 < F.MGP_I2CCMD.WLEN.of v ∨
    16 < F.MGP_I2CCMD.RLEN.of v then s
  else if F.MGP_I2CCMD.NOSTART.of v = 0 then i2cStart b v s
  else match i2cLeft s b with
    | some o => if o.addr = F.MGP_I2CCMD.ADDR.of v then i2cStart b v s else s.on F.MGP_I2CSTAT.NACK b
    | none => s.on F.MGP_I2CSTAT.NACK b

/-- I2C_GO. -/
def execI2cGo (src : Actor) (b : Fin 4) (v : Word) (s : State) : Host.Outcome State Fault Refusal :=
  done (guarded (periphAdmits s src (2 * b.val) 2) s (i2cGo b v))

/-- The command on bus b ends (R460). -/
def i2cEnds (b : Nat) (e : I2cEnd) (s : State) : State :=
  let v := sget 0 s.pin.i2cCmd b
  let s1 := s.off F.MGP_I2CSTAT.BUSY b
  match e with
  | .nack => setI2cLeft b none (s1.on F.MGP_I2CSTAT.NACK b)
  | .arbLost => setI2cLeft b none (s1.on F.MGP_I2CSTAT.ARBLOST b)
  | .ok bytes =>
    let rlen := F.MGP_I2CCMD.RLEN.of v
    let was := match i2cLeft s b with | some o => o.reading && F.MGP_I2CCMD.NOSTART.of v == 1 | none => false
    let reading := rlen != 0 || (was && F.MGP_I2CCMD.WLEN.of v == 0)
    let left := if F.MGP_I2CCMD.NOSTOP.of v = 1 then some ⟨F.MGP_I2CCMD.ADDR.of v, reading⟩ else none
    setI2cLeft b left (i2cStore b (bytes.take rlen) (s1.on F.MGP_I2CSTAT.DONE b))

/-- I2C_DONE. -/
def execI2cDone (b : Fin 4) (e : I2cEnd) (s : State) : Host.Outcome State Fault Refusal :=
  done (guarded (s.flag F.MGP_I2CSTAT.BUSY b) s (i2cEnds b e))

/-- SMBUS_TIMEOUT: the clock has been low for 25 ms with SMB = 1 (R459, R460). -/
def execSmbusTimeout (b : Fin 4) (s : State) : Host.Outcome State Fault Refusal :=
  done (guarded (s.flag F.MGP_I2CCTL.SMB b && (s.flag F.MGP_I2CSTAT.BUSY b || (i2cLeft s b).isSome)) s (fun s =>
    setI2cLeft b none ((s.off F.MGP_I2CSTAT.BUSY b).on F.MGP_I2CSTAT.TMO b)))

/-! #### UART -/

/-- The FIFOs of UART u replaced, and their levels shown. -/
def setUart (u : Nat) (tx rx : List Byte) (s : State) : State :=
  (({ s with pin := { s.pin with tx := sset [] s.pin.tx u tx, rx := sset [] s.pin.rx u rx } }).wr F.MGP_UARTSTAT.TXLVL u tx.length).wr
    F.MGP_UARTSTAT.RXLVL u rx.length

/-- A byte written to MGP_UARTuDATA: enqueued where the FIFO has room (R459). -/
def uartPut (u : Nat) (v : Word) (s : State) : State :=
  let q := sget [] s.pin.tx u
  if q.length < 16 then setUart u (q ++ [v.extractLsb' 0 8]) (sget [] s.pin.rx u) s else s

/-- UART_DATA_WRITE. -/
def execUartDataWrite (src : Actor) (u : Fin 2) (v : Word) (s : State) : Host.Outcome State Fault Refusal :=
  done (guarded (periphAdmits s src (8 + 4 * u.val) 4) s (uartPut u v))

/-- A read of MGP_UARTuDATA: the oldest byte received, or 0 (R481). -/
def uartGet (u : Nat) (s : State) : State :=
  match sget [] s.pin.rx u with
  | [] => { s with rdata := 0 }
  | b :: q => { setUart u (sget [] s.pin.tx u) q s with rdata := b.setWidth 32 }

/-- UART_DATA_READ. -/
def execUartDataRead (u : Fin 2) (s : State) : Host.Outcome State Fault Refusal := done (uartGet u s)

/-- UART_RECEIVE: a byte comes in with its stop bit; a full FIFO loses it with OVR, a bad stop bit sets FERR (R459, R469). -/
def execUartReceive (u : Fin 2) (b : BitVec 8) (stop : Bool) (s : State) : Host.Outcome State Fault Refusal :=
  done (guarded (s.flag F.MGP_UARTCTL.EN u) s (fun s =>
    let q := sget [] s.pin.rx u
    if !stop then s.on F.MGP_UARTSTAT.FERR u
    else if 16 ≤ q.length then s.on F.MGP_UARTSTAT.OVR u
    else setUart u (sget [] s.pin.tx u) (q ++ [b]) s))

/-- The partner of UART u is clear to receive: CTS is low, or flow control is off, or CTS is not mapped. -/
def clearToSend (s : State) (u : Nat) : Bool :=
  let m := 11 + 4 * u
  !s.flag F.MGP_UARTCTL.FLOW u || !s.flag F.MGP_MAP.EN m || !padLevel s (s.rd F.MGP_MAP.PIN m)

/-- UART_TRANSMIT. -/
def execUartTransmit (u : Fin 2) (s : State) : Host.Outcome State Fault Refusal :=
  done (match sget [] s.pin.tx u with
    | [] => s
    | b :: q => guarded (s.flag F.MGP_UARTCTL.EN u && clearToSend s u) s (fun s =>
        setUart u q (sget [] s.pin.rx u) { s with out := s.out ++ [.uart u b] }))

/-! #### SPI and tach -/

/-- A write of MGP_SPIsDATA: the exchange of one byte begins; ignored while one runs or the bus is disabled (R469). -/
def spiPut (p : Nat) (v : Word) (s : State) : State :=
  if s.flag F.MGP_SPISTAT.BUSY p ∨ !s.flag F.MGP_SPICTL.EN p then s
  else { s with out := s.out ++ [OutMsg.spi p (s.rd F.MGP_SPICTL.CS p) (v.extractLsb' 0 8)] }.on F.MGP_SPISTAT.BUSY p

/-- SPI_EXCHANGE. -/
def execSpiExchange (src : Actor) (bus : Fin 2) (v : Word) (s : State) : Host.Outcome State Fault Refusal :=
  done (guarded (periphAdmits s src (16 + 5 * bus.val) 5) s (spiPut bus v))

/-- SPI_DONE: the byte received is readable. -/
def execSpiDone (bus : Fin 2) (b : BitVec 8) (s : State) : Host.Outcome State Fault Refusal :=
  done (guarded (s.flag F.MGP_SPISTAT.BUSY bus) s (fun s => (s.off F.MGP_SPISTAT.BUSY bus).wr F.MGP_SPIDATA.DATA bus b.toNat))

/-- TACH_EDGE: PERIOD is the microseconds between the last two falling edges (R459, R469). -/
def execTachEdge (f : Fin 4) (s : State) : Host.Outcome State Fault Refusal :=
  let s1 := { s with pin := { s.pin with tachAt := sset none s.pin.tachAt f (some s.dtcNow) } }
  done (match sget none s.pin.tachAt f with
    | some t => s1.wr F.MGP_TACH.PERIOD f (min ((s.dtcNow - t) / 1000) (2 ^ 24 - 1))
    | none => s1)

/-- TACH_TIMEOUT: no edge has come for 1 s. -/
def execTachTimeout (f : Fin 4) (s : State) : Host.Outcome State Fault Refusal :=
  done (guarded (match sget none s.pin.tachAt f with | some t => s.expired t 1000000000 | none => true) s
    (fun s => s.wr F.MGP_TACH.PERIOD f 0))

end Sys2Proof.Machine
end

