-- ==== Sys2Proof/Machine/Power.lean ====
section
/-! DEFINITION. Power domains, the mode sequencer, the supplies, the junction sensors, and the maintenance arbiter's commands (R381, R382,
R429–R439, R445, R450, R494). -/

namespace Sys2Proof.Machine
open Sys2Proof

/-! ### Domains -/

/-- The sectors of a fabric group's domain (R429). -/
def groupSectors (d : Nat) : List Nat := (List.range 10).map (fun r => 80 * (d / 15) + 8 * r + d % 15)

/-- The engines of a band half's domain. -/
def halfEngines (d : Nat) : List Nat :=
  (List.range 64).map (fun j => 128 * (d / 15) + 16 * (j / 8) + 8 * (d % 15 - 8) + j % 8)

/-- The port of a port domain. -/
def domPort (d : Nat) : Nat := 2 * (d / 15) + (d % 15 - 10)

/-- The channel of a PHY domain. -/
def domChannel (d : Nat) : Nat := 3 * (d / 15) + (d % 15 - 12)

/-- The idle condition of a domain (R431). -/
def domIdle (s : State) (d : Nat) : Bool :=
  let i := d % 15
  if i < 8 then
    (groupSectors d).all (fun x =>
      s.flag F.CFG_SECT.CLOSED x && s.flag F.KRV_AP.DRAINED (2 * x) && s.flag F.KRV_AP.DRAINED (2 * x + 1) &&
      !s.net.reqs.any (fun r => r.dst == vaultEp (2 * x) || r.dst == vaultEp (2 * x + 1)) &&
      !(s.flag F.CFG_PINS.DONE 0 && s.flag F.CFG_SECT.INRGN x && s.flag F.CFG_RGN_CFG.STATIC (s.rd F.CFG_SECT.REGION x)))
  else if i < 10 then
    (halfEngines d).all (fun e =>
      (isIdle s e || s.flag F.TMB_STAT.RETIRED e) && (engineSet s e).isNone && !s.net.reqs.any (fun r => r.dst == engineEp e))
  else if i < 12 then
    let p := domPort d
    [2 * p, 2 * p + 1].all (fun n => !headExists s n || s.rd F.LNK_HSTAT.CTLST n == 0) &&
    !s.coh.dc.any (fun e => e.1 / 32768 == p && (match e.2 with | some l => l.dirty | none => false)) &&
    !s.coh.dcWait.any (fun e => agentHead s e.2 / 2 == p) &&
    !s.net.reqs.any (fun r => r.dst / 16 == endpoint (p / 2) (91 + p % 2) 0 / 16)
  else
    let n := domChannel d
    !ilvMember s n && nothingWaits (s.chan n) && (s.chan n).held.isEmpty

/-- The losses of a fabric group (R431): its sectors stay closed until their next release. -/
def groupOff (d : Nat) (s : State) : State :=
  let p (x : Nat) : Bool := (groupSectors d).contains x
  let s1 := closeSectors (groupSectors d) s
  let s2 := { s1 with fab := { s1.fab with
    ff := s1.fab.ff.filter (fun e => !p (e.1 / 65536))
    lut := s1.fab.lut.filter (fun e => !p (e.1 / 16384))
    slice := s1.fab.slice.filter (fun e => !p (e.1 / 40))
    bram := s1.fab.bram.filter (fun e => !p (e.1 / 32)) } }
  instOff (fun k i => match instSector k i with | some x => p x | none => false) s2

/-- The losses of a band half: memories, engine registers and TESTED; RETIRED is kept (R431). -/
def halfOff (d : Nat) (s : State) : State :=
  let es := halfEngines d
  let s1 := instOff (fun k i => (k == .data || k == .prog) && es.contains i) s
  let g := 2 * (d / 15) + (d % 15 - 8)
  let s2 := { s1 with mem := { s1.mem with gen := sset 0 s1.mem.gen g (sget 0 s1.mem.gen g + 1) } }
  es.foldl (fun t e =>
    let u := (((t.setEng e .idle).off F.TMB_STAT.TESTED e).off F.TMB_STAT.TBUSY e).off F.TMB_STAT.CLEARING e
    match engineSet u e with
    | some k => checkDone k u
    | none => u) s2

/-- The losses of a port: its device cache and its link state; both heads are Held (R431). -/
def portCut (d : Nat) (s : State) : State :=
  let p := domPort d
  let s1 := { s with coh := { s.coh with
    dc := s.coh.dc.filter (fun e => e.1 / 32768 != p)
    dcPlru := s.coh.dcPlru.filter (fun e => e.1 / 2048 != p)
    dcWait := s.coh.dcWait.filter (fun e => agentHead s e.2 / 2 != p) } }
  portOff p s1

/-- The power domain of an instance (R429). -/
def instDom (k : MemKind) (i : Nat) : Nat :=
  match instSector k i with
  | some x => sectorDom x
  | none => engineDom i

/-- Domain d is isolated and its supply removed, with the losses of R431; the leaf's test state counts powered instances only (R163). -/
def domCut (d : Nat) (s : State) : State :=
  if domOn s d then
    let s1 := s.off (F.PWR_DOM_STAT.ON (d % 32)) (d / 32)
    let i := d % 15
    if i < 10 then selfTestState (d / 15) (fun k j => domOn s1 (instDom k j)) (if i < 8 then groupOff d s1 else halfOff d s1)
    else if i < 12 then portCut d s1
    else channelOff (domChannel d) s1
  else s

/-- The self-tests of the domain's memories have all ended (R153, R436). -/
def domTested (s : State) (d : Nat) : Bool :=
  let ended (k : MemKind) (i : Nat) : Bool := sget 0 s.mem.tested (instKey k i) != 0
  let i := d % 15
  if i < 8 then
    (groupSectors d).all (fun x =>
      (List.range 16).all (fun j => ended .bram (16 * x + j)) && ended .vault (2 * x) && ended .vault (2 * x + 1))
  else if i < 10 then (halfEngines d).all (fun e => ended .data e && ended .prog e)
  else true

/-! ### The end of a transaction -/

/-- SPLIT shows that some unit is in SPLIT. -/
def showSplit (s : State) : State := s.wr F.PWR_MODE_STAT.SPLIT 0 (b2n (units.any (fun u => unitSt s u == 6)))

/-- The sequencer is idle again; a configuration controller's transaction may be waiting (R434, R438). -/
def modeEnds (s : State) : State := ownTransaction ((unitsIdle s).wr F.PWR_MODE_STAT.STATE 0 0)

/-- WAITDONE ends when every domain that goes ON has completed its ramp and its self-test (R436). -/
def checkModeDone (s : State) : State :=
  if modeState s = 3 then
    let left := s.pwr.ups.filter (fun d => !(domOn s d && domTested s d))
    let s1 := { s with pwr := { s.pwr with ups := left } }
    if left.isEmpty then
      modeEnds (raiseCause F.PWR_EVT.MODEDONE F.PWR_EVEN.MODEDONE 0 30 (s1.on F.PWR_MODE_STAT.DONE 0))
    else s1
  else s

/-! ### The transaction -/

/-- The dividers of the clock block's unit whose DIV_NEXT differs from DIV (R435). -/
def changing (s : State) : List ClkDiv :=
  (((List.range 32).map (fun n => ClkDiv.fck (Fin.ofNat 32 n))) ++ (List.range 4).map (fun l => ClkDiv.eck (Fin.ofNat 4 l))).filter
    (fun d => divNext s d != divNow s d)

/-- L of R437: the least common multiple of the old and new divisors of every changing divider; 1 when none changes. -/
def changeLcm (s : State) : Nat := (changing s).foldl (fun l d => Nat.lcm l (Nat.lcm (divNow s d) (divNext s d))) 1

/-- The units that take part in the Keeper firmware's transaction (R435, R439). -/
def takingPart (s : State) : List Nat :=
  let target (d : Nat) : Bool := s.flag (F.PWR_DOM_TGT.ON (d % 32)) (d / 32)
  (if s.flag F.PWR_MODE_CTL.CLK 0 then [0] else []) ++
    ((List.range 12).filter (fun n => nbit (s.rd F.PWR_MODE_CHAN.MASK 0) n)).map (1 + ·) ++
    ((List.range 60).filter (fun d => target d != domOn s d && unitSt s (16 + d) != 6 && !s.pwr.ramping.contains d &&
      !s.pwr.rampQ.contains d)).map (16 + ·)

/-- A GO (R436, R438). -/
def modeGo (s : State) : State :=
  if modeState s ≠ 0 then s.on F.PWR_MODE_STAT.BUSYREJ 0
  else match takingPart s with
    | [] => s.on F.PWR_MODE_STAT.DONE 0
    | us => broadcast us s

/-- UNITRST: the supply of a SPLIT unit's domain is removed and restored (R439). -/
def unitRst (u : Nat) (s : State) : State :=
  if 16 ≤ u ∧ u < 76 ∧ unitSt s u = 6 ∧ !s.pwr.ramping.contains (u - 16) ∧ !s.pwr.rampQ.contains (u - 16) then
    queueRamps [u - 16] (domCut (u - 16) s)
  else s

/-- A write of PWR_MODE_CTL. -/
def modeCtlWrite (v : Word) (s : State) : State :=
  let s1 := s.wr F.PWR_MODE_CTL.CLK 0 (F.PWR_MODE_CTL.CLK.of v)
  let s2 := if F.PWR_MODE_CTL.UNITRST.of v = 1 then unitRst (F.PWR_MODE_CTL.UNIT.of v) s1 else s1
  if F.PWR_MODE_CTL.GO.of v = 1 then modeGo s2 else s2

/-- MODE_GO: a write of PWR_MODE_CTL with GO = 1. -/
def execModeGo (v : Word) (s : State) : Host.Outcome State Fault Refusal :=
  done (guarded (F.PWR_MODE_CTL.GO.of v == 1) s (modeCtlWrite v))

/-- UNITRST: a write of PWR_MODE_CTL with UNITRST = 1. -/
def execUnitrst (v : Word) (s : State) : Host.Outcome State Fault Refusal :=
  done (guarded (F.PWR_MODE_CTL.UNITRST.of v == 1) s (modeCtlWrite v))

/-- What unit u checks for its acknowledgement (R435); a domain that is ON is to go OFF. -/
def prepared (s : State) (u : Nat) : Bool :=
  if u = 0 then (changing s).all (fun d => divLegal s d (divNext s d)) && decide (changeLcm s ≤ 2 ^ 20)
  else if u < 13 then holdAccepted s (u - 1) 0
  else if domOn s (u - 16) then domIdle s (u - 16)
  else supplied s (u - 16) && !s.flag F.WRD_THSTAT.TRIP 0

/-- The timer of PWR_MODE_TMO has ended. -/
def modeTimer (s : State) : Bool := s.expired s.pwr.timerAt (1000 * s.rd F.PWR_MODE_TMO.TMO 0)

/-- PREPARE_ACK: a unit that finds its condition met acknowledges; after the last one the commit edge is awaited (R436, R437). -/
def execPrepareAck (u : Fin 76) (s : State) : Host.Outcome State Fault Refusal :=
  done (guarded (modeState s == 1 && unitSt s u == 1 && prepared s u && !modeTimer s) s (fun s =>
    let s1 := setUnit u 2 s
    let s2 := { s1 with pwr := { s1.pwr with ackAt := s1.stamp } }
    if units.any (fun k => unitSt s2 k == 1) then s2 else s2.wr F.PWR_MODE_STAT.STATE 0 2))

/-- Units refuse: rollback is sent to every unit that prepared, and only a quiesce request takes time to withdraw (R435, R436). -/
def refuse (us : List Nat) (s : State) : State :=
  let s1 := us.foldl (fun t u => setUnit u 3 t) s
  let s2 := units.foldl (fun t u =>
    if unitSt t u = 1 ∨ unitSt t u = 2 then setUnit u (if 16 ≤ u ∧ domOn t (u - 16) then 5 else 0) t else t) s1
  let s3 := ((s2.wr F.PWR_MODE_STAT.STATE 0 4).on F.PWR_MODE_STAT.ABORT 0).wr F.PWR_MODE_STAT.REFUSER 0 (us.headD 0x7F)
  { s3 with pwr := { s3.pwr with timerAt := s3.dtcNow } }

/-- UNIT_REFUSE: a unit that finds its condition unmet refuses; a domain that is to go OFF only at the end of the timer. -/
def execUnitRefuse (u : Fin 76) (s : State) : Host.Outcome State Fault Refusal :=
  let goesOff := decide (16 ≤ u.val) && domOn s (u.val - 16)
  done (guarded (modeState s == 1 && unitSt s u == 1 && !prepared s u && (!goesOff || modeTimer s)) s (refuse [u.val]))

/-- MODE_TIMEOUT: the timer ends in PREPARE; the units that have not acknowledged refuse, the lowest first. -/
def execModeTimeout (s : State) : Host.Outcome State Fault Refusal :=
  done (guarded (modeState s == 1 && modeTimer s) s (fun s => refuse (units.filter (fun u => unitSt s u == 1)) s))

/-- Every prepared unit commits (R435, R436); a channel as if GO had been written (R310). -/
def commitUnits (s : State) : State :=
  let us := units.filter (fun u => unitSt s u == 2)
  let doms := (us.filter (16 ≤ ·)).map (· - 16)
  let offs := doms.filter (domOn s)
  let ons := doms.filter (fun d => !domOn s d)
  let s1 := if us.contains 0 then (changing s).foldl (fun t d => applyDivisor d (divNext s d) t) s else s
  let s2 := (us.filter (fun u => 1 ≤ u && u < 13)).foldl (fun t u => holdGo (u - 1) 0 t) s1
  let s3 := offs.foldl (fun t d => domCut d t) s2
  let s4 := us.foldl (fun t u => setUnit u 4 t) s3
  let s5 := { s4 with pwr := { s4.pwr with ups := ons } }.wr F.PWR_MODE_STAT.STATE 0 3
  checkModeDone (queueRamps ons s5)

/-- The commit tick: the first multiple of 1,024 ns at or after the last acknowledgement (R437). -/
def commitTick (s : State) : Nat := (s.pwr.ackAt + 1023) / 1024 * 1024

/-- The commit edge: the first root edge at or after the TBC edge of the commit tick that is a multiple of L (R437). -/
def commitEdge (s : State) : Nat :=
  let l := if unitSt s 0 = 2 then changeLcm s else 1
  let since := (s.clk.dtc.toNat - commitTick s * 2 ^ 32) / s.dtcInc
  (s.clk.rootEdges - 32 * since + l - 1) / l * l

/-- COMMIT: root edge `edge` is the commit edge (R437). -/
def execCommit (edge : Nat) (s : State) : Host.Outcome State Fault Refusal :=
  done (guarded (modeState s == 2 && decide (commitTick s ≤ s.dtcNow) && edge == commitEdge s) s commitUnits)

/-- ROLLBACK_COMPLETE: every prepared unit has resumed (R436). -/
def execRollbackComplete (s : State) : Host.Outcome State Fault Refusal :=
  done (guarded (modeState s == 4) s (fun s =>
    modeEnds (raiseCause F.PWR_EVT.MODEABORT F.PWR_EVEN.MODEABORT 0 30 s)))

/-- ROLLBACK_TIMEOUT: the named units have not resumed by the end of the timer and enter SPLIT (R436, R439). -/
def execRollbackTimeout (stuck : List (Fin 76)) (s : State) : Host.Outcome State Fault Refusal :=
  let us := (stuck.map (·.val)).filter (fun u => unitSt s u == 5)
  done (guarded (modeState s == 4 && modeTimer s && !us.isEmpty) s (fun s =>
    let s1 := showSplit (us.foldl (fun t u => setUnit u 6 t) s)
    modeEnds (raiseCause F.PWR_EVT.SPLIT F.PWR_EVEN.SPLIT 0 30 s1)))

/-- A domain is ON: what R431 lists happens, and a unit whose supply UNITRST restored becomes IDLE (R431, R439). -/
def domUp (d : Nat) (s : State) : State :=
  let s1 := s.on (F.PWR_DOM_STAT.ON (d % 32)) (d / 32)
  let i := d % 15
  let s2 := if i < 10 then selfTestState (d / 15) (fun k j => domOn s1 (instDom k j)) s1
    else if i < 12 then pllsFollow (domPort d) s1
    else channelOn (domChannel d) s1
  if unitSt s2 (16 + d) = 6 then showSplit (setUnit (16 + d) 0 s2) else s2

/-- RAMP_COMPLETE: a domain finishes its ramp (R432). -/
def execRampComplete (d : Fin 60) (s : State) : Host.Outcome State Fault Refusal :=
  done (guarded (s.pwr.ramping.contains d.val) s (fun s =>
    let s1 := { s with pwr := { s.pwr with ramping := s.pwr.ramping.erase d.val } }
    checkModeDone (startRamps 4 (domUp d s1))))

/-! ### Supplies -/

/-- PWR_SUP_STAT shows a leaf's lane supplies where both are present (R453). -/
def showLanes (l : Nat) (s : State) : State :=
  s.wrBit F.PWR_SUP_STAT.LANE 0 l (nbit s.pwr.lane.toNat (2 * l) && nbit s.pwr.lane.toNat (2 * l + 1))

/-- The domains whose supply has gone are isolated and shown OFF; one on its ramp waits for the supply again (R494). -/
def dropUnsupplied (s : State) : State :=
  let lost := (List.range 60).filter (fun d => !supplied s d)
  let s1 := lost.foldl (fun t d => domCut d t) s
  let back := s1.pwr.ramping.filter (fun d => lost.contains d)
  checkModeDone (startRamps 4 { s1 with pwr := { s1.pwr with
    ups := s1.pwr.ups.filter (fun d => !(lost.contains d && domOn s d))
    ramping := s1.pwr.ramping.filter (fun d => !lost.contains d)
    rampQ := back ++ s1.pwr.rampQ } })

/-- A supply recorded as present or absent. -/
def setSupply (x : Supply) (on : Bool) (s : State) : State :=
  match x with
  | .vlane085 l => showLanes l { s with pwr := { s.pwr with lane := BitVec.ofNat 8 (nsetBit s.pwr.lane.toNat (2 * l.val) on) } }
  | .vlane120 l => showLanes l { s with pwr := { s.pwr with lane := BitVec.ofNat 8 (nsetBit s.pwr.lane.toNat (2 * l.val + 1) on) } }
  | .vddq n => s.wrBit F.PWR_SUP_STAT.VDDQ 0 n on
  | .vccio b => { s with pwr := { s.pwr with vccio := BitVec.ofNat 16 (nsetBit s.pwr.vccio.toNat b.val on) } }

/-- SUPPLY_LOSS (R494). -/
def execSupplyLoss (sup : Supply) (s : State) : Host.Outcome State Fault Refusal := done (dropUnsupplied (setSupply sup false s))

/-- SUPPLY_RETURN: a domain that was ON stays OFF until a transaction; one that still waits for its ramp begins it (R432, R494). -/
def execSupplyReturn (sup : Supply) (s : State) : Host.Outcome State Fault Refusal := done (startRamps 4 (setSupply sup true s))

/-! ### Junction sensors -/

/-- The thermal trip (R382): latched, with its sensor; every domain goes off without a quiesce, and nothing ramps. -/
def thermalTrip (sensor : Nat) (s : State) : State :=
  if s.flag F.WRD_THSTAT.TRIP 0 then s
  else
    let s1 := (s.on F.WRD_THSTAT.TRIP 0).wr F.WRD_THSTAT.SENSOR 0 sensor
    (List.range 60).foldl (fun t d => domCut d t) { s1 with pwr := { s1.pwr with
      ramping := [], rampQ := [], wanted := [], ups := [] } }

/-- The warning follows the sensors (R381): raised at WARN, released 3 °C below it. -/
def thermalWarning (t : List (BitVec 12)) (s : State) : State :=
  let warn : Int := 4 * s.rd F.WRD_THERM.WARN 0
  match (List.range 16).find? (fun k => warn ≤ (t.getD k 0).toInt) with
  | some k =>
    if s.flag F.WRD_THSTAT.ALERT 0 then s else raise 24 (wardLog 5 31 k 0 (s.on F.WRD_THSTAT.ALERT 0))
  | none => if t.all (fun x => x.toInt ≤ warn - 12) then s.off F.WRD_THSTAT.ALERT 0 else s

/-- SENSOR_SAMPLE: the sixteen sensors, in quarters of a degree. -/
def execSensorSample (temps : List (BitVec 12)) (s : State) : Host.Outcome State Fault Refusal :=
  let t := (List.range 16).map (fun k => temps.getD k 0)
  let s1 := (List.range 16).foldl (fun u k => u.wr F.WRD_TSENS.TEMP k (t.getD k 0).toNat) s
  let s2 := alertPin (thermalWarning t s1)
  done (match (List.range 16).find? (fun k => (440 : Int) ≤ (t.getD k 0).toInt) with
    | some k =>
      let s3 := if s.kp.hot then thermalTrip k s2 else s2
      { s3 with kp := { s3.kp with hot := true } }
    | none => { s2 with kp := { s2.kp with hot := false } })

/-! ### Resets -/

/-- A write of PWR_RST_CTL (R440). -/
def rstCtlWrite (v : Word) (s : State) : State :=
  if F.PWR_RST_CTL.KEY.of v = 0xA5 ∧ F.PWR_RST_CTL.GO.of v = 1 then deviceReset 4 s else s

/-- SHEREX_DEVICE_RESET. -/
def execSherexDeviceReset (v : Word) (s : State) : Host.Outcome State Fault Refusal := done (rstCtlWrite v s)

/-! ### Tenant reset -/

/-- The sets of tenant n (R445). -/
def tenantSets (s : State) (n : Nat) : List Nat :=
  (List.range 64).filter (fun k => s.flag F.TMB_SET_CFG.VALID k && s.rd F.TMB_SET_CFG.TENANT k == n)

/-- Step 2: every member of the sets is sent a stop request; a running job ends STOPPED. -/
def stopSets (ks : List Nat) (s : State) : State :=
  ks.foldl (fun t k => if jobRuns t k then endStopping k 4 t else stopMembers k [] t) s

/-- Step 2 ends when every member is Idle: each is cleared. -/
def trstEngines (s : State) : State :=
  if s.mnt.trstEng.all (isIdle s) then
    s.mnt.trstEng.foldl (fun t e => (clearEngine e t).on F.TMB_STAT.CLEARING e) { s with mnt := { s.mnt with trstEng := [] } }
  else s

/-- Step 3 begins: running LOADs of the regions are aborted (R340), and each region is to be cleared. -/
def trstRegions (n : Nat) (s : State) : State :=
  let rs := (List.range 64).filter (fun r => s.rd F.CFG_RGN_CFG.STATE r != 0 && s.rd F.CFG_RGN_CFG.OWNER r == n)
  let s1 := (List.range 4).foldl (fun t l =>
    if (t.loader l).op = 1 ∧ rs.contains (opRegion t l) then cfgAbort l t else t) s
  { s1 with mnt := { s1.mnt with trst := rs } }

/-- A write of PWR_TRST_CMD (R445). -/
def trstCmdWrite (v : Word) (s : State) : State :=
  if F.PWR_TRST_CMD.GO.of v = 0 ∨ s.flag F.PWR_TRST_STAT.BUSY 0 then s
  else
    let n := F.PWR_TRST_CMD.TENANT.of v
    let s1 := clearWindowsGrants n ((s.on F.PWR_TRST_STAT.BUSY 0).wr F.PWR_TRST_STAT.TENANT 0 n)
    let ks := tenantSets s1 n
    let s2 := stopSets ks s1
    let s3 := trstEngines { s2 with mnt := { s2.mnt with trstEng := ks.flatMap (tmbMembers s2) } }
    if s3.mnt.trstEng.isEmpty then trstAdvance (trstRegions n s3) else s3

/-- TRST_GO. -/
def execTrstGo (v : Word) (s : State) : Host.Outcome State Fault Refusal := done (trstCmdWrite v s)

/-- The sequencer of a tenant reset goes on where it waits for engines to become Idle. -/
def trstPoll (s : State) : State :=
  if s.flag F.PWR_TRST_STAT.BUSY 0 && !s.mnt.trstEng.isEmpty then
    let s1 := trstEngines s
    if s1.mnt.trstEng.isEmpty then trstAdvance (trstRegions (s1.rd F.PWR_TRST_STAT.TENANT 0) s1) else s1
  else s

/-! ### The maintenance arbiter -/

/-- A write of PWR_MNT_REQ by the Keeper firmware (R450). -/
def mntReqWrite (v : Word) (s : State) : State :=
  let act := F.PWR_MNT_REQ.ACT.of v
  let answer (ticket outcome : Nat) (t : State) : State :=
    (t.wr F.PWR_MNT_RESP.TICKET 0 ticket).wr F.PWR_MNT_RESP.OUTCOME 0 outcome
  if F.PWR_MNT_REQ.GO.of v = 0 ∨ act < 3 ∨ 9 < act then s
  else match (if s.mnt.hwWait.isEmpty then mntFree s else none) with
    | none => answer 0 2 s
    | some k =>
      let (s1, ok) := mntRecord k act (F.PWR_MNT_REQ.RES.of v) false s
      answer k (if ok then 0 else 1) s1

/-- MAINTENANCE_REQUEST. -/
def execMaintenanceRequest (v : Word) (s : State) : Host.Outcome State Fault Refusal := done (mntReqWrite v s)

/-- A write of PWR_MNT_DONE: the entry ends, and what waited is granted; a free entry is ignored (R450). -/
def mntDoneWrite (v : Word) (s : State) : State :=
  let k := F.PWR_MNT_DONE.TICKET.of v
  if (mntEnt s k).1 = 0 then s else trstAdvance (mntEnd k s)

/-- PWR_MNT_DONE. -/
def execPwrMntDone (v : Word) (s : State) : Host.Outcome State Fault Refusal := done (mntDoneWrite v s)

end Sys2Proof.Machine
end

