-- ==== Sys2Proof/Machine/Scan.lean ====
section
/-! DEFINITION. Configuration upset detection and repair (R347–R361). -/

namespace Sys2Proof.Machine
open Sys2Proof

/-! ### Records and events -/

/-- A record on the ring of leaf l; a full ring loses it (R360). -/
def scbLog (l kind owner frame bit : Nat) (s : State) : State :=
  let n := s.rd F.SCB_LOGCTL.COUNT l
  if n = 16 then s.satAdd F.SCB_LOST.COUNT l 1
  else
    let b := 4 * (16 * l + (s.rd F.SCB_LOGCTL.HEAD l + n) % 16)
    let s1 := ((s.wr F.SCB_LOG_W0.KIND b kind).wr F.SCB_LOG_W0.OWNER b owner).wr F.SCB_LOG_W0.FRAME b frame
    let s2 := (s1.wr F.SCB_LOG_W1.BIT (b + 1) bit).wr F.SCB_LOG_W1.PASS (b + 1) (s.rd F.SCB_STAT.PASS l)
    let s3 := (s2.wr F.SCB_LOG_W2.DTC_LO (b + 2) s.stamp).wr F.SCB_LOG_W3.DTC_HI (b + 3) (s.stamp / 2 ^ 32)
    s3.wr F.SCB_LOGCTL.COUNT l (n + 1)

/-- A write of SCB_LOGCTL: the oldest record is discarded. -/
def scbLogPop (l : Nat) (v : Word) (s : State) : State :=
  let n := s.rd F.SCB_LOGCTL.COUNT l
  if F.SCB_LOGCTL.POP.of v = 1 ∧ n ≠ 0 then
    (s.wr F.SCB_LOGCTL.HEAD l (s.rd F.SCB_LOGCTL.HEAD l + 1)).wr F.SCB_LOGCTL.COUNT l (n - 1)
  else s

/-- SCB_LOG_POP. -/
def execScbLogPop (leaf : Fin 4) (v : Word) (s : State) : Host.Outcome State Fault Refusal := done (scbLogPop leaf v s)

/-- A cause of leaf l's scrub event (R360). -/
def scbEvent (cause enable : Fld) (l : Nat) (s : State) : State := raiseCause cause enable l (18 + l) s

/-- A frame counted as unrepaired against its owner (R359). -/
def countUnrepaired (owner : Nat) (s : State) : State :=
  if owner < 16 then s.satAdd F.SCB_UNR.COUNT owner 1 else s.satAdd F.SCB_UNRS.COUNT 0 1

/-- A hard fault counted against its owner (R359). -/
def countHard (l owner : Nat) (s : State) : State :=
  (if owner < 16 then s.satAdd F.SCB_HF.COUNT owner 1 else s.satAdd F.SCB_HFS.COUNT 0 1).satAdd F.SCB_HFCNT.COUNT l 1

/-! ### The signature store -/

/-- The damage of a store entry. -/
def sigErrOf (s : State) (f : Nat) : SigErr := sget ⟨0, 0⟩ s.cfg.sigErr f

/-- An upset of a store entry. -/
def flipSig (f : Nat) (x : SigFlips) (s : State) : State :=
  if x.code.isEmpty ∧ x.cls.isEmpty then s
  else
    let e := sigErrOf s f
    let e' : SigErr := ⟨x.code.foldl (fun v k => v ^^^ BitVec.ofNat 39 (2 ^ k.val)) e.code,
      x.cls.foldl (fun v k => v ^^^ BitVec.ofNat 3 (2 ^ k.val)) e.cls⟩
    { s with cfg := { s.cfg with sigErr := sset ⟨0, 0⟩ s.cfg.sigErr f e' } }

/-- The class bit by majority vote is 1: the frame is dynamic (R349). -/
def markedDynamic (s : State) (f : Nat) : Bool :=
  let stored := (sget 0 s.cfg.golden f).getLsbD 4110
  let flipped := decide (2 ≤ popcount (sigErrOf s f).cls.toNat 3)
  stored != flipped

/-- The store entry decoded (R349): the signature it gives with the damage that stays, or none where it is uncorrectable.  The code is
linear, so what the decoder does depends on the damage alone. -/
def goldenSig (s : State) (f : Nat) : Option (BitVec 32 × BitVec 39) :=
  let e := (sigErrOf s f).code
  let left := match classifyCode 39 e.getLsbD with
    | .clean => some e
    | .corrected p => some (e ^^^ BitVec.ofNat 39 (2 ^ p))
    | .uncorrectable => none
  left.map (fun r =>
    let d := (dataPos 39).foldl (fun a k => if r.getLsbD k then a + 2 ^ dataIndex k else a) 0
    (Config.frameSig s.memGen f (sget 0 s.cfg.golden f) ^^^ BitVec.ofNat 32 d, r))

/-- The store entry after its correction. -/
def fixSig (f : Nat) (r : BitVec 39) (s : State) : State :=
  { s with cfg := { s.cfg with sigErr := sset ⟨0, 0⟩ s.cfg.sigErr f ⟨r, (sigErrOf s f).cls⟩ } }

/-! ### The scan -/

/-- The scanner skips frame f of leaf l (R351), before its store entry is read. -/
def skips (s : State) (l f : Nat) : Bool :=
  let c := s.scan l
  let st := match frameRegion s f with
    | some r => s.rd F.CFG_RGN_CFG.STATE r
    | none => 3
  !s.flag F.CFG_PINS.DONE 0 || !s.flag F.SCB_CTL.EN 0 || st == 0 || st == 2 || st == 5 || markedDynamic s f ||
    c.queue.any (fun e => e.1 == f) || c.pend.any (fun e => e.any (fun p => p.frame == f)) || c.unver.contains f

/-- CCK is below 425 MHz (R350). -/
def slowCck (s : State) : Bool :=
  !s.clk.cckRoot || decide (100 * s.rd F.CLK_ROOT_CFG.MULT 0 < 425 * s.rd F.CLK_CCK_CTL.DIV 0)

/-- The scanner goes on to the next frame; after the last one the pass ends (R350, R361). -/
def nextSlot (l : Nat) (skipped : Bool) (s : State) : State :=
  let c := s.scan l
  let n := if skipped then c.skipped + 1 else c.skipped
  let s1 := s.setScan l { c with idx := c.idx + 1, skipped := n }
  if c.idx + 1 < 102400 then s1
  else
    let s2 := (s1.wr F.SCB_SKIP.SKIPPED l n).off F.SCB_STAT.RUN l
    if c.start + 4096000 < s.dtcNow then s2.on F.SCB_STAT.LATE l else s2

/-- A multi-bit upset enters the pending list, or finds it full (R355). -/
def multiBit (l f : Nat) (s : State) : State :=
  let c := s.scan l
  let o := frameOwner s f
  let s1 := s.satAdd F.SCB_MBCNT.COUNT l 1
  let e : PendFrame := ⟨f, o, false, 0, s.stamp, s.rd F.SCB_FIXTMO.TMO 0⟩
  match (List.range 16).find? (fun k => (c.pend.getD k none).isNone) with
  | some k =>
    let p := if k < c.pend.length then listSet c.pend k (some e) else c.pend ++ [some e]
    scbEvent F.SCB_EVT.MBPEND F.SCB_EVEN.MBPEND l (scbLog l 1 o f 0x1FFF (s1.setScan l { c with pend := p }))
  | none => scbEvent F.SCB_EVT.UNREP F.SCB_EVEN.UNREP l (scbLog l 6 o f 0x1FFF s1)

/-- A frame read and classified (R352); with a full repair queue a single-bit upset holds the scanner in place (R354). -/
def scanFrame (l f : Nat) (sig : BitVec 32) (s : State) : State :=
  let v := frameNow s f
  let multi := nextSlot l false (multiBit l f s)
  if Config.frameSig s.memGen f v = sig then nextSlot l false s
  else match classifyFrame v with
    | .corrected p =>
      let w := flipFrame v (frameBitOf p)
      if Config.frameSig s.memGen f w ≠ sig then multi
      else if 4 ≤ (s.scan l).queue.length then s.on F.SCB_STAT.LATE l
      else nextSlot l false (s.setScan l { s.scan l with queue := (s.scan l).queue ++ [(f, w, frameBitOf p, frameOwner s f)] })
    | _ => multi

/-- A store entry is found uncorrectable (R349). -/
def unverifiable (l f : Nat) (s : State) : State :=
  let o := frameOwner s f
  let s1 := s.setScan l { s.scan l with unver := (s.scan l).unver ++ [f] }
  nextSlot l true (scbEvent F.SCB_EVT.UNREP F.SCB_EVEN.UNREP l (countUnrepaired o (scbLog l 5 o f 0x1FFF s1)))

/-- A frame slot: what has struck the frame and its store entry strikes it, then the frame is skipped or read (R349–R352). -/
def frameSlot (l : Nat) (flips : List Nat) (x : SigFlips) (s : State) : State :=
  let c := s.scan l
  let f := 102400 * l + c.idx
  let struck := { s with cfg := { s.cfg with frames := sset 0 s.cfg.frames f (flips.foldl flipFrame (frameNow s f)) } }
  let s1 := flipSig f x struck
  let s2 := if slowCck s1 then s1.on F.SCB_STAT.SLOW l else s1
  if skips s2 l f then nextSlot l true s2
  else match goldenSig s2 f with
    | none => unverifiable l f s2
    | some (sig, r) => scanFrame l f sig (fixSig f r s2)

/-- FRAME_SLOT: the slot of the next frame has come (R350). -/
def execFrameSlot (leaf : Fin 4) (flips : List (Fin 4112)) (store : SigFlips) (s : State) : Host.Outcome State Fault Refusal :=
  let c := s.scan leaf
  done (guarded (s.flag F.SCB_STAT.RUN leaf && decide (c.idx < 102400) && decide (c.start + 40 * c.idx ≤ s.dtcNow)) s
    (frameSlot leaf (flips.map (·.val)) store))

/-- SCAN_PASS_START (R350). -/
def execScanPassStart (leaf : Fin 4) (s : State) : Host.Outcome State Fault Refusal :=
  let l := leaf.val
  let c := s.scan l
  done (guarded (c.idx == 102400 && (c.start == 0 || decide (c.start + 4096000 ≤ s.dtcNow))) s (fun s =>
    ((s.setScan l { c with start := s.dtcNow, idx := 0, skipped := 0 }).wrapInc F.SCB_STAT.PASS l).on F.SCB_STAT.RUN l))

/-! ### Repair -/

/-- A frame written by the repair path: its signature stays (R353). -/
def repairFrame (f : Nat) (v : Frame) (s : State) : State := { s with cfg := { s.cfg with frames := sset 0 s.cfg.frames f v } }

/-- A history entry is in use (R357). -/
def upsetLive (s : State) (l : Nat) (e : UpsetHist) : Bool := decide ((s.rd F.SCB_STAT.PASS l + 65536 - e.pass) % 65536 ≤ 3)

/-- The history without its entry of the oldest pass. -/
def dropOldestUpset (s : State) (l : Nat) (h : List UpsetHist) : List UpsetHist :=
  let age (e : UpsetHist) : Nat := (s.rd F.SCB_STAT.PASS l + 65536 - e.pass) % 65536
  let m := h.foldl (fun a e => max a (age e)) 0
  match h.find? (fun e => age e == m) with
  | some e => h.erase e
  | none => h

/-- A repair checked against the history (R357): a hard fault, or a new entry. -/
def checkHistory (l f bit owner : Nat) (s : State) : State :=
  let c := s.scan l
  let live := c.hist.filter (upsetLive s l)
  if live.any (fun e => e.frame == f && e.bit == bit) then
    scbEvent F.SCB_EVT.HARD F.SCB_EVEN.HARD l (countHard l owner (scbLog l 3 owner f bit s))
  else
    let h := if live.length < 16 then live else dropOldestUpset s l live
    s.setScan l { c with hist := h ++ [⟨f, bit, s.rd F.SCB_STAT.PASS l⟩] }

/-- REPAIR_WRITE: the oldest frame of the repair queue is written (R353). -/
def execRepairWrite (leaf : Fin 4) (s : State) : Host.Outcome State Fault Refusal :=
  let l := leaf.val
  done (match (s.scan l).queue with
    | [] => s
    | (f, v, bit, o) :: rest =>
      let s1 := (repairFrame f v (s.setScan l { s.scan l with queue := rest })).satAdd F.SCB_SBCNT.COUNT l 1
      let s2 := if s1.flag F.SCB_CTL.LOGSB 0 then scbLog l 0 o f bit s1 else s1
      checkHistory l f bit o (scbEvent F.SCB_EVT.SBFIX F.SCB_EVEN.SBFIX l s2))

/-- The place of frame f's WAITING entry (R355). -/
def waitingEntry (s : State) (l f : Nat) : Option (Nat × PendFrame) :=
  (List.range 16).findSome? (fun k => match (s.scan l).pend.getD k none with
    | some p => if p.frame = f ∧ !p.unrepaired then some (k, p) else none
    | none => none)

/-- Entry k of leaf l's pending list set. -/
def setPendFrame (l k : Nat) (e : Option PendFrame) (s : State) : State :=
  s.setScan l { s.scan l with pend := listSet (s.scan l).pend k e }

/-- A pending entry becomes UNREPAIRED (R356). -/
def giveUp (l k : Nat) (p : PendFrame) (s : State) : State :=
  let s1 := setPendFrame l k (some { p with unrepaired := true }) s
  scbEvent F.SCB_EVT.UNREP F.SCB_EVEN.UNREP l (countUnrepaired p.owner (scbLog l 4 p.owner p.frame 0x1FFF s1))

/-- The frame the Keeper firmware has supplied to leaf l. -/
def suppliedFrame (s : State) (l : Nat) : Frame :=
  (List.range 129).foldl (fun v k => v ||| (((sget 0 s.cfg.fix (129 * l + k)).setWidth 4112).shiftLeft (32 * k))) 0

/-- The lowest bit in which two frames differ. -/
def lowestDiff (v w : Frame) : Option Nat := (List.range 4112).find? (fun b => v.getLsbD b != w.getLsbD b)

/-- A fix is written, or refused for its signature (R355, R357). -/
def fixGo (l f : Nat) (s : State) : State :=
  match waitingEntry s l f with
  | none => s.on F.SCB_FIXSTAT.NOTPEND l
  | some (k, p) =>
    let v := suppliedFrame s l
    if (goldenSig s f).any (fun g => Config.frameSig s.memGen f v == g.1) then
      let bit := lowestDiff v (frameNow s f)
      let s1 := (repairFrame f v (setPendFrame l k none s)).on F.SCB_FIXSTAT.ACCEPT l
      let s2 := scbLog l 2 p.owner f (bit.getD 0x1FFF) s1
      match bit with
      | some b => checkHistory l f b p.owner s2
      | none => s2
    else
      let s1 := (setPendFrame l k (some { p with refusals := p.refusals + 1 }) s).on F.SCB_FIXSTAT.BADSIG l
      if 4 ≤ p.refusals + 1 then giveUp l k { p with refusals := p.refusals + 1 } s1 else s1

/-- A write of GIVEUP (R356). -/
def fixGiveUp (l f : Nat) (s : State) : State :=
  match waitingEntry s l f with
  | none => s.on F.SCB_FIXSTAT.NOTPEND l
  | some (k, p) => giveUp l k p s

/-- FIX_GO. -/
def execFixGo (leaf : Fin 4) (frame : Nat) (s : State) : Host.Outcome State Fault Refusal := done (fixGo leaf frame s)

/-- GIVEUP. -/
def execGiveup (leaf : Fin 4) (frame : Nat) (s : State) : Host.Outcome State Fault Refusal := done (fixGiveUp leaf frame s)

/-- FIX_TIMEOUT. -/
def execFixTimeout (leaf : Fin 4) (entry : Fin 16) (s : State) : Host.Outcome State Fault Refusal :=
  done (match (s.scan leaf).pend.getD entry.val none with
    | some p => if !p.unrepaired && s.expired p.since (1000000 * p.tmo) then giveUp leaf entry p s else s
    | none => s)

/-- SCB_PENT of leaf l (R361). -/
def scbPent (s : State) (l : Nat) : Word :=
  match (s.scan l).pend.getD (s.rd F.SCB_PSEL.ENTRY l) none with
  | none => 0
  | some p => setF (setF (setF 0 0 19 p.frame) 20 2 (if p.unrepaired then 2 else 1)) 22 3 p.refusals

end Sys2Proof.Machine
end

