-- ==== Sys2Proof/Machine/Sherex.lean ====
section
/-! DEFINITION. The Sherex mailboxes, the form and authentication checks, handles, completion records and the ring (R387–R405, R408, R409). -/

namespace Sys2Proof.Machine
open Sys2Proof

/-! ### Mailboxes -/

/-- The register index of mailbox m of head n. -/
def mbx (n m : Nat) : Nat := 2 * n + m

/-- The state of mailbox m of head n: 0 FREE, 1 POSTED, 2 BUSY, 3 DONE. -/
def mbState (s : State) (n m : Nat) : Nat := s.rd F.SHX_MB_STAT.STATE (mbx n m)

/-- The state of the mailbox set. -/
def setMbState (n m st : Nat) (s : State) : State := s.wr F.SHX_MB_STAT.STATE (mbx n m) st

/-- The Keeper firmware's record of the taken command. -/
def mbTaken (s : State) (n m : Nat) : Option MbTaken := sget none s.shx.taken (mbx n m)

/-- That record replaced. -/
def setTaken (n m : Nat) (t : Option MbTaken) (s : State) : State :=
  { s with shx := { s.shx with taken := sset none s.shx.taken (mbx n m) t } }

/-- A RING by host software (R387, R388). -/
def mbRing (n m : Nat) (s : State) : State :=
  if mbState s n m = 0 then raise (32 + n) (setMbState n m 1 (s.wr F.SHX_MB_STAMP.VALUE (mbx n m) s.stamp))
  else s.on F.SHX_MB_STAT.OVR (mbx n m)

/-- An ACK by host software. -/
def mbAck (n m : Nat) (s : State) : State :=
  if mbState s n m = 3 then setMbState n m 0 s else s.on F.SHX_MB_STAT.OVR (mbx n m)

/-- A TAKE by the Keeper firmware. -/
def mbTake (n m : Nat) (s : State) : State := if mbState s n m = 1 then setMbState n m 2 s else s

/-- A DONE by the Keeper firmware: the notification, unless the mailbox is orphaned. -/
def mbDone (n m : Nat) (s : State) : State :=
  if mbState s n m = 2 then
    let orphan := s.flag F.SHX_MB_STAT.ORPHAN (mbx n m)
    let s1 := (setMbState n m (if orphan then 0 else 3) s).off F.SHX_MB_STAT.ORPHAN (mbx n m)
    if s.flag F.SHX_CR_CTL.MBV_EN n && !orphan then raise (112 + n) s1 else s1
  else s

/-- RING. -/
def execRing (n : Fin 16) (m : Fin 2) (s : State) : Host.Outcome State Fault Refusal := done (guarded (headExists s n) s (mbRing n m))

/-- MAILBOX_ACK. -/
def execMailboxAck (n : Fin 16) (m : Fin 2) (s : State) : Host.Outcome State Fault Refusal :=
  done (guarded (headExists s n) s (mbAck n m))

/-- The device owner (R405). -/
def deviceOwner (s : State) : Nat := s.rd F.SHX_OWNER.OWNER 0

/-- MAILBOX_DONE: what a command's row makes effective at DONE takes effect now (R405, R406). -/
def mbDoneWrite (n m : Nat) (s : State) : State :=
  guarded (mbState s n m == 2) s (fun s =>
    let s1 := mbDone n m (setTaken n m none s)
    match mbTaken s n m with
    | some t =>
      let s2 := match t.newOwner with | some o => s1.wr F.SHX_OWNER.OWNER 0 o | none => s1
      if t.reset then { s2 with shx := { s2.shx with resetAt := some (s2.dtcNow + 10000000) } } else s2
    | none => s1)

/-- MAILBOX_DONE. -/
def execMailboxDone (n : Fin 16) (m : Fin 2) (s : State) : Host.Outcome State Fault Refusal := done (mbDoneWrite n m s)

/-! ### The command area -/

/-- The bytes of the command area of mailbox m of head n (R390). -/
def cmdBytes (s : State) (n m : Nat) : List Byte :=
  (List.range 64).flatMap (fun k => natBytes 4 (s.reg .SHX_MB_CMD (mbx n m * 64 + k)).toNat)

/-- OPCODE. -/
def cmdOpcode (s : State) (n m : Nat) : Nat := bytesAt (cmdBytes s n m) 0 2

/-- The command carries AUTH. -/
def cmdAuth (s : State) (n m : Nat) : Bool := bytesAt (cmdBytes s n m) 2 1 % 2 == 1

/-- TAG. -/
def cmdTag (s : State) (n m : Nat) : Nat := bytesAt (cmdBytes s n m) 8 4

/-- COUNTER. -/
def cmdCounter (s : State) (n m : Nat) : Nat := bytesAt (cmdBytes s n m) 0x10 8

/-- The payload. -/
def cmdPayload (s : State) (n m : Nat) : List Byte := ((cmdBytes s n m).drop 0x30).take (bytesAt (cmdBytes s n m) 4 2)

/-! ### The form of the commands -/

/-- The fields of a command's payload, offset and size; none for an unknown OPCODE (R406).  A part that the payload itself sizes follows
its COUNT or WLEN. -/
def shxFields (op : Nat) (p : List Byte) : Option (List (Nat × Nat)) :=
  match op with
  | 0x0000 => some []
  | 0x0001 => some []
  | 0x0002 => some []
  | 0x0003 => some [(0, 4)]
  | 0x0004 => some [(0, 4)]
  | 0x0100 => some [(0, 4), (4, 1), (5, 1), (6, 2), (8, 2), (12, 4)]
  | 0x0101 => some [(0, 4), (5, 1), (6, 2), (8, 2)]
  | 0x0102 => some [(0, 4), (4, 1), (6, 2)]
  | 0x0103 => some [(0, 1), (1, 1), (2, 1), (4, 2), (8, 4), (12, 2)]
  | 0x0200 => some [(0, 1), (1, 1)]
  | 0x0201 => some [(0, 1), (1, 1), (8, 8), (16, 8)]
  | 0x0202 => some [(0, 1)]
  | 0x0203 => some [(0, 1)]
  | 0x0204 => some [(0, 1)]
  | 0x0205 => some [(0, 1), (4, 4), (8, 8)]
  | 0x0206 => some [(8, 8), (16, 8)]
  | 0x0300 => some [(0, 1), (1, 1), (2, 1)]
  | 0x0301 => some [(0, 1), (1, 1), (2, 1), (8, 2 * bytesAt p 2 1)]
  | 0x0302 => some [(0, 1)]
  | 0x0303 => some [(0, 1), (8, 8), (16, 4), (20, 2), (24, 8), (32, 4)]
  | 0x0304 => some [(0, 1), (2, 2), (4, 4), (8, 16)]
  | 0x0305 => some [(0, 1)]
  | 0x0306 => some [(0, 1)]
  | 0x0307 => some [(0, 1), (1, 1), (2, 1), (4, 2), (8, 8)]
  | 0x0308 => some [(0, 1)]
  | 0x0309 => some [(0, 2), (2, 1)]
  | 0x0400 => some [(0, 4)]
  | 0x0401 => some [(0, 2), (2, 1), (3, 1)]
  | 0x0402 => some [(0, 1)]
  | 0x0500 => some [(0, 2)]
  | 0x0501 => some [(0, 1)]
  | 0x0502 => some [(0, 1), (1, 1)]
  | 0x0503 => some [(0, 2), (2, 1)]
  | 0x0504 => some [(0, 1)]
  | 0x0505 => some []
  | 0x0600 => some [(0, 32)]
  | 0x0601 => some [(0, 1), (8, 40)]
  | 0x0602 => some [(0, 40)]
  | 0x0603 => some [(0, 1)]
  | 0x0604 => some [(0, 48)]
  | 0x0605 => some [(0, 40)]
  | 0x0606 => some [(0, 1)]
  | 0x0607 => some [(0, 1), (8, 8), (16, 8)]
  | 0x0608 => some [(0, 1), (8, 8), (16, 8)]
  | 0x0700 => some [(0, 1), (2, 2), (4, 2)]
  | 0x0701 => some [(0, 1)]
  | 0x0702 => some [(0, 1), (1, 1)]
  | 0x0703 => some [(0, 1), (1, 1), (2, 1), (3, 1), (8, 8), (16, bytesAt p 2 1)]
  | 0x0704 => some []
  | 0x0800 => some []
  | 0x0801 => some [(0, 2), (2, 1), (3, 1), (4, 1), (8, 4)]
  | _ => none

/-- The critical commands (R400, R406). -/
def shxCritical : List Nat :=
  [0x0100, 0x0101, 0x0102, 0x0103, 0x0200, 0x0201, 0x0202, 0x0203, 0x0205, 0x0206, 0x0300, 0x0301, 0x0302, 0x0303, 0x0307, 0x0308,
   0x0500, 0x0503, 0x0504, 0x0505, 0x0601, 0x0602, 0x0603, 0x0604, 0x0605, 0x0606, 0x0607, 0x0608, 0x0700, 0x0801]

/-- The payload's length: the end of its last field. -/
def shxLength (fs : List (Nat × Nat)) : Nat := fs.foldl (fun l f => max l (f.1 + f.2)) 0

/-- Every byte of the payload that no field covers is 0. -/
def reservedZero (fs : List (Nat × Nat)) (p : List Byte) : Bool :=
  (List.range p.length).all (fun k => fs.any (fun f => decide (f.1 ≤ k) && decide (k < f.1 + f.2)) || p.getD k 0 == 0)

/-- A tenant with a head (R28). -/
def tenantThere (s : State) (t : Nat) : Bool := decide (t < 16) && headExists s t

/-- Every tenant of a mask has a head. -/
def headsThere (s : State) (mask : Nat) : Bool := (bitsOf mask 16).all (headExists s)

/-- The port lanes of head n, as a mask. -/
def headLaneMask (s : State) (n : Nat) : Nat := (headLanes s n).foldl (fun m g => nsetBit m (g % 16) true) 0

/-- The payload's encodings and ranges (R392 step 1). -/
def shxLegal (s : State) (n op : Nat) (p : List Byte) : Bool :=
  let b := bytesAt p
  let flag (o : Nat) : Bool := decide (b o 1 ≤ 1)
  match op with
  | 0x0100 => decide (b 0 4 < 24576) && decide (b 4 1 ≤ 5) && flag 5 && headsThere s (b 6 2) && headsThere s (b 8 2) &&
      decide (b 12 4 < 2 ^ 24)
  | 0x0101 => decide (b 0 4 < 24576) && flag 5 && headsThere s (b 6 2) && headsThere s (b 8 2)
  | 0x0102 => decide (b 0 4 < 24576) && flag 4
  | 0x0103 => tenantThere s (b 0 1) && flag 2 && decide (b 4 2 < 32768) && decide (b 8 4 < 2 ^ 20) &&
      decide (1 ≤ b 12 2 ∧ b 12 2 ≤ 32768)
  | 0x0200 => decide (b 0 1 < 64) && (b 1 1 == 31 || tenantThere s (b 1 1))
  | 0x0201 => decide (b 0 1 < 64) && flag 1 && (b 1 1 == 0 || (b 8 8 == 0 && b 16 8 == 0))
  | 0x0202 => decide (b 0 1 < 64)
  | 0x0203 => decide (b 0 1 < 64)
  | 0x0204 => decide (b 0 1 < 64)
  | 0x0205 => decide (b 0 1 < 64) && decide (b 4 4 < 409600)
  | 0x0300 => decide (b 0 1 < 64) && tenantThere s (b 1 1) && flag 2
  | 0x0301 => decide (b 0 1 < 64) && flag 1 && decide (1 ≤ b 2 1 ∧ b 2 1 ≤ 96) &&
      (List.range (b 2 1)).all (fun j => decide (b (8 + 2 * j) 2 < 512))
  | 0x0302 => decide (b 0 1 < 64)
  | 0x0303 => decide (b 0 1 < 64) && decide (b 20 2 + b 16 4 ≤ 0x10000) && decide (b 32 4 ≤ 0x4000)
  | 0x0304 => decide (b 0 1 < 64) && decide (b 2 2 < 1024)
  | 0x0305 => decide (b 0 1 < 64)
  | 0x0306 => decide (b 0 1 < 64)
  | 0x0307 => decide (b 0 1 < 16) && decide (b 1 1 < 64) && decide (b 2 1 < 64) && b 8 8 % 4096 == 0 && decide (b 8 8 < 2 ^ 48)
  | 0x0308 => decide (b 0 1 < 16)
  | 0x0309 => decide (b 0 2 < 512) && flag 2
  | 0x0401 => decide (b 0 2 < 1024) && decide (2 ≤ b 2 1 ∧ b 2 1 ≤ 31) && flag 3
  | 0x0402 => flag 0
  | 0x0500 => subMask (b 0 2) (headLaneMask s n)
  | 0x0501 => flag 0
  | 0x0502 => decide (b 0 1 ≤ 2) && decide (b 1 1 < (if b 0 1 = 1 then 12 else 4))
  | 0x0503 => decide (b 0 2 < 4096) && b 0 2 != 0 && decide (b 2 1 ≤ 6)
  | 0x0504 => tenantThere s (b 0 1)
  | 0x0601 => tenantThere s (b 0 1)
  | 0x0603 => tenantThere s (b 0 1)
  | 0x0606 => tenantThere s (b 0 1)
  | 0x0607 => flag 0
  | 0x0608 => flag 0
  | 0x0700 => decide (b 0 1 < 64) && headsThere s (b 2 2) && headsThere s (b 4 2)
  | 0x0701 => decide (b 0 1 < 64)
  | 0x0702 => decide (b 0 1 < 64) && flag 1
  | 0x0703 => decide (b 0 1 < 4) && decide (b 1 1 < 128) && decide (b 2 1 ≤ 128)
  | 0x0801 => subMask (b 0 2) (headLaneMask s n) && decide (1 ≤ b 2 1 ∧ b 2 1 ≤ 2) && decide (b 3 1 ≤ 3) &&
      decide (1 ≤ b 4 1 ∧ b 4 1 ≤ rateCap s n)
  | _ => true

/-- The header's reserved fields are 0 (R390). -/
def headerLegal (c : List Byte) : Bool :=
  decide (bytesAt c 2 1 ≤ 1) && bytesAt c 6 2 == 0 && bytesAt c 12 4 == 0 && bytesAt c 0x28 8 == 0 &&
    (bytesAt c 2 1 == 1 || (bytesAt c 0x10 8 == 0 && bytesAt c 0x18 16 == 0))

/-- Step 1 of R392: the STATUS of a command whose form fails. -/
def formStatus (s : State) (n m : Nat) : Option Nat :=
  let c := cmdBytes s n m
  if bytesAt c 3 1 ≠ 1 then some 0x13
  else match shxFields (bytesAt c 0 2) (c.drop 0x30) with
    | none => some 0x10
    | some fs =>
      if bytesAt c 4 2 ≠ shxLength fs then some 0x11
      else
        let p := cmdPayload s n m
        if headerLegal c && reservedZero fs p && shxLegal s n (bytesAt c 0 2) p then none else some 0x12

/-! ### Responses -/

/-- Bytes put into the response area from its start, as whole words. -/
def putResponse (n m : Nat) (l : List Byte) (s : State) : State :=
  (List.range ((l.length + 3) / 4)).foldl (fun t k =>
    t.setReg .SHX_MB_RSP (mbx n m * 64 + k) (BitVec.ofNat 32 (bytesAt l (4 * k) 4))) s

/-- The answer of a command (R391): the response is written, and DONE may follow. -/
def shxAnswer (n m status dsrc handle detail : Nat) (result : List Byte) (s : State) : State :=
  let head := natBytes 1 status ++ natBytes 1 dsrc ++ natBytes 2 result.length ++ natBytes 4 (cmdTag s n m) ++ natBytes 4 handle ++
    natBytes 4 detail ++ natBytes 16 0
  let s1 := putResponse n m (head ++ result) s
  let t := (mbTaken s n m).getD ⟨.answered, none, false⟩
  setTaken n m (some { t with phase := .answered }) s1

/-- A command refused with a STATUS. -/
def shxRefuse (n m status : Nat) (s : State) : State := shxAnswer n m status 0 0 0 [] s

/-! ### Authentication -/

/-- The command key of tenant n (R404). -/
def cmdKey (s : State) (n : Nat) : Option (List Byte) := sget none s.shx.keys n

/-- A tenant's key set or removed; KEY shows it. -/
def setKey (n : Nat) (k : Option (List Byte)) (s : State) : State :=
  { s with shx := { s.shx with keys := sset none s.shx.keys n k } }.wr F.SHX_HSTAT.KEY n (b2n k.isSome)

/-- NEXT of tenant n (R402). -/
def ctrNext (s : State) (n : Nat) : Nat := s.rd F.SHX_CTR_NEXT_LO.VALUE n + 2 ^ 32 * s.rd F.SHX_CTR_NEXT_HI.VALUE n

/-- NEXT set. -/
def setNext (n v : Nat) (s : State) : State := (s.wr F.SHX_CTR_NEXT_LO.VALUE n v).wr F.SHX_CTR_NEXT_HI.VALUE n (v / 2 ^ 32)

/-- The floor F of tenant n. -/
def ctrFloor (s : State) (n : Nat) : Nat := sget 0 s.shx.floor n

/-- CHECK matches (R401). -/
def checkMatches (s : State) (n m : Nat) (key : List Byte) : Bool :=
  let c := cmdBytes s n m
  let msg := c.take 0x18 ++ natBytes 16 0 ++ (c.drop 0x28).take 8 ++ cmdPayload s n m
  (Config.hmacSha256 key msg).take 16 == (c.drop 0x18).take 16

/-- The mailbox goes on to a phase. -/
def setPhase (n m : Nat) (p : MbPhase) (s : State) : State :=
  setTaken n m (some { (mbTaken s n m).getD ⟨p, none, false⟩ with phase := p }) s

/-- The counter passes and is used up. -/
def counterTaken (n m : Nat) (s : State) : State := setPhase n m .ready (setNext n (cmdCounter s n m + 1) s)

/-- The counter's check (R402). -/
def checkCounter (n m : Nat) (s : State) : State :=
  let c := cmdCounter s n m
  if c < ctrNext s n ∨ 0xFFFFFFFFFFFF0000 ≤ c then shxRefuse n m 0x22 s
  else if ctrFloor s n ≤ c then setPhase n m .floor s
  else counterTaken n m s

/-- One more AUTH_FAILED; the eighth in a row starts the hold (R403). -/
def authFailed (n m : Nat) (s : State) : State :=
  let k := sget 0 s.shx.fails n + 1
  let s1 := { s with shx := { s.shx with fails := sset 0 s.shx.fails n k, failAt := sset 0 s.shx.failAt n s.stamp } }
  shxRefuse n m 0x21 (if 8 ≤ k then s1.on F.SHX_HSTAT.THROTTLED n else s1)

/-- Step 2 of R392 for a command with AUTH: NO_KEY, CHECK, COUNTER (R401). -/
def authenticate (n m : Nat) (s : State) : State :=
  match cmdKey s n with
  | none => shxRefuse n m 0x23 s
  | some key =>
    if checkMatches s n m key then
      checkCounter n m ({ s with shx := { s.shx with fails := sset 0 s.shx.fails n 0 } }.off F.SHX_HSTAT.THROTTLED n)
    else authFailed n m s

/-- A tenant's authenticated commands are held: 8 failures in a row, the last less than 1 s ago (R403). -/
def authHeld (s : State) (n : Nat) : Bool := decide (8 ≤ sget 0 s.shx.fails n) && !s.expired (sget 0 s.shx.failAt n) 1000000000

/-- Steps 1 and 2 of R392. -/
def examine (n m : Nat) (s : State) : State :=
  match formStatus s n m with
  | some st => shxRefuse n m st s
  | none =>
    if cmdAuth s n m then (if authHeld s n then setPhase n m .held s else authenticate n m s)
    else if shxCritical.contains (cmdOpcode s n m) then shxRefuse n m 0x20 s
    else setPhase n m .ready s

/-- Mailbox m of head n is before mailbox m' of head n' in the order of ring stamps, compared modulo 2^32 (R389). -/
def rungBefore (s : State) (n m n' m' : Nat) : Bool :=
  let a := s.rd F.SHX_MB_STAMP.VALUE (mbx n m)
  let b := s.rd F.SHX_MB_STAMP.VALUE (mbx n' m')
  if a = b then decide (mbx n m < mbx n' m') else decide ((b + 2 ^ 32 - a) % 2 ^ 32 < 2 ^ 31)

/-- Mailbox m of head n is the next the Keeper firmware takes: it serves Sherex there, no posted mailbox it serves was rung earlier, and no
earlier command of the tenant is still to be checked and carried out. -/
def takesNext (s : State) (n m : Nat) : Bool :=
  let busy (q : MbTaken) : Bool := q.phase == .floor || q.phase == .ready || (q.phase == .held && cmdAuth s n m)
  s.flag F.SHX_HSTAT.KREADY n && mbState s n m == 1 &&
    (List.range 32).all (fun k =>
      k == mbx n m || mbState s (k / 2) (k % 2) != 1 || !s.flag F.SHX_HSTAT.KREADY (k / 2) || rungBefore s n m (k / 2) (k % 2)) &&
    !(mbTaken s n (1 - m)).any busy

/-- TAKE: the Keeper firmware takes the next mailbox and checks its command (R387, R389, R392). -/
def execTake (n : Fin 16) (m : Fin 2) (s : State) : Host.Outcome State Fault Refusal :=
  done (guarded (takesNext s n m) s (fun s => examine n m (setTaken n m none (mbTake n m s))))

/-- AUTH_HOLD_EXPIRY: a held command is checked (R403). -/
def execAuthHoldExpiry (n : Fin 16) (m : Fin 2) (s : State) : Host.Outcome State Fault Refusal :=
  let o := 1 - m.val
  let held (k : Nat) : Bool := (mbTaken s n k).any (fun t => t.phase == .held)
  done (guarded (held m && !authHeld s n && !(held o && rungBefore s n o n m)) s (authenticate n m))

/-- COUNTER_FLOOR_WRITE: the new floor is in flash, or its write has failed (R402). -/
def execCounterFloorWrite (n : Fin 16) (m : Fin 2) (ok : Bool) (s : State) : Host.Outcome State Fault Refusal :=
  done (guarded ((mbTaken s n m).any (fun t => t.phase == .floor)) s (fun s =>
    if ok then
      counterTaken n m { s with shx := { s.shx with
        floor := sset 0 s.shx.floor n (cmdCounter s n m / 0x10000 * 0x10000 + 0x10000) } }
    else shxRefuse n m 0x41 s))

/-! ### Handles and records -/

/-- The generation of tenant n. -/
def shxGen (s : State) (n : Nat) : Nat := sget 0 s.shx.gen n

/-- A new handle for tenant n (R394). -/
def issueHandle (n : Nat) (s : State) : Nat × State :=
  let k := sget 1 s.shx.serial n
  (n * 2 ^ 28 + shxGen s n * 2 ^ 24 + k,
    { s with shx := { s.shx with serial := sset 1 s.shx.serial n (if k = 0xFFFFFF then 1 else k + 1) } })

/-- The outstanding handles of tenant n. -/
def outstanding (s : State) (n : Nat) : Nat :=
  (s.shx.ops.filter (fun o => o.tenant == n)).length + (s.shx.held.filter (fun r => r.tenant == n)).length

/-- OUTST and HELD follow the lists. -/
def showHandles (n : Nat) (s : State) : State :=
  (s.wr F.SHX_HSTAT.OUTST n (outstanding s n)).wr F.SHX_CR_STAT.HELD n (s.shx.held.filter (fun r => r.tenant == n)).length

/-- An operation in the list, replaced by its handle. -/
def setOp (o : ShxOp) (s : State) : State :=
  { s with shx := { s.shx with ops := s.shx.ops.map (fun q => if q.handle = o.handle then o else q) } }

/-- How a command or an operation ends: STATUS, DSRC, DETAIL and its data. -/
structure ShxEnd where
  status : Nat
  dsrc : Nat
  detail : Nat
  result : List Byte
deriving DecidableEq, Repr

/-- OK with data. -/
def okEnd (result : List Byte) : ShxEnd := ⟨0, 0, 0, result⟩

/-- DEVICE_ERROR with its source and detail. -/
def devError (dsrc detail : Nat) : ShxEnd := ⟨0x40, dsrc, detail, []⟩

/-- The activity of a ticket ends (R450). -/
def endTicket (t : Option Nat) (s : State) : State :=
  match t with
  | some k => mntDoneWrite (setF 0 F.PWR_MNT_DONE.TICKET.lo F.PWR_MNT_DONE.TICKET.width k) s
  | none => s

/-- An operation ends: its activity ends at the arbiter, and its record waits to be written (R395). -/
def finishOp (o : ShxOp) (e : ShxEnd) (s : State) : State :=
  let r : ShxRecord := ⟨o.handle, o.tag, o.opcode, o.tenant, o.objs, e.status, e.dsrc, e.detail, e.result, s.stamp⟩
  showHandles o.tenant (endTicket o.ticket { s with shx := { s.shx with
    ops := s.shx.ops.filter (fun q => q.handle != o.handle)
    held := s.shx.held ++ [r] } })

/-! ### The completion ring -/

/-- Bytes the Keeper writes to the host of head n (R374); the ward has admitted them. -/
def writeHost (n addr : Nat) (l : List Byte) (s : State) : State :=
  admitMessage n (.memWrite 0 (BitVec.ofNat 64 addr) l.length) { s with out := s.out ++ [OutMsg.hostData n addr l] }

/-- The bytes of a record (R395). -/
def recordBytes (r : ShxRecord) (phase : Nat) : List Byte :=
  natBytes 4 r.handle ++ natBytes 4 r.tag ++ natBytes 2 r.opcode ++ natBytes 1 r.status ++ natBytes 1 (phase + 16 * r.dsrc) ++
    natBytes 4 r.detail ++ natBytes 8 (leNat (r.result.take 8)) ++ natBytes 8 r.dtc

/-- The ring's number of entries, N. -/
def ringSize (s : State) (n : Nat) : Nat := 2 ^ s.rd F.SHX_CR_CTL.SIZE n

/-- The ring has room: it is enabled and not full (R396). -/
def ringRoom (s : State) (n : Nat) : Bool :=
  s.flag F.SHX_CR_CTL.EN n && (s.rd F.SHX_CR_TAIL.TAIL n + 1) % ringSize s n != s.rd F.SHX_CR_HEAD.HEAD n

/-- The host address of slot TAIL. -/
def ringSlot (s : State) (n : Nat) : Nat :=
  s.rd F.SHX_CR_BASE_LO.BASE n * 4096 + s.rd F.SHX_CR_BASE_HI.VALUE n * 2 ^ 32 + 32 * s.rd F.SHX_CR_TAIL.TAIL n

/-- TAIL advances; PHASE inverts when it wraps. -/
def advanceTail (n : Nat) (s : State) : State :=
  let t := (s.rd F.SHX_CR_TAIL.TAIL n + 1) % ringSize s n
  let s1 := s.wr F.SHX_CR_TAIL.TAIL n t
  if t = 0 then s1.wr F.SHX_CR_TAIL.PHASE n (1 - s.rd F.SHX_CR_TAIL.PHASE n) else s1

/-- RECORD_WRITE: the oldest record of tenant n is written, and MSI-X vector 0 requested; where the ward refuses it, it stays held (R396–R398). -/
def execRecordWrite (n : Fin 16) (s : State) : Host.Outcome State Fault Refusal :=
  done (match s.shx.held.find? (fun r => r.tenant == n.val) with
    | some r =>
      guarded (ringRoom s n) s (fun s =>
        let a := ringSlot s n
        if windowAdmits s n a 32 true then
          let s1 := writeHost n a (recordBytes r (s.rd F.SHX_CR_TAIL.PHASE n)) s
          let s2 := advanceTail n { s1 with shx := { s1.shx with held := s1.shx.held.filter (fun q => q.handle != r.handle) } }
          raise (96 + n.val) (showHandles n s2)
        else (vio n (wardLog 0 n 0 a s)).on F.SHX_CR_STAT.WERR n)
    | none => s)

/-- A host write of SHX_CR_CTL (R396): SIZE is locked while EN is 1, and a reserved SIZE is ignored; EN becoming 1 starts the ring anew. -/
def crCtlWrite (n : Nat) (v : Word) (s : State) : State :=
  let en := F.SHX_CR_CTL.EN.of v
  let was := s.flag F.SHX_CR_CTL.EN n
  let size := F.SHX_CR_CTL.SIZE.of v
  let s1 := (s.wr F.SHX_CR_CTL.EN n en).wr F.SHX_CR_CTL.MBV_EN n (F.SHX_CR_CTL.MBV_EN.of v)
  let s2 := if !was ∧ 4 ≤ size ∧ size ≤ 16 then s1.wr F.SHX_CR_CTL.SIZE n size else s1
  if en = 1 ∧ !was then ((s2.wr F.SHX_CR_HEAD.HEAD n 0).wr F.SHX_CR_TAIL.TAIL n 0).wr F.SHX_CR_TAIL.PHASE n 1 else s2

/-- CR_ENABLE: a write of SHX_CR_CTL with EN = 1. -/
def execCrEnable (n : Fin 16) (v : Word) (s : State) : Host.Outcome State Fault Refusal :=
  done (guarded (headExists s n && F.SHX_CR_CTL.EN.of v == 1) s (crCtlWrite n v))

/-- A host write of SHX_CR_HEAD (R396). -/
def crHeadWrite (n : Nat) (v : Word) (s : State) : State :=
  let h := F.SHX_CR_HEAD.HEAD.of v
  let size := ringSize s n
  let now := s.rd F.SHX_CR_HEAD.HEAD n
  let tail := s.rd F.SHX_CR_TAIL.TAIL n
  if size ≤ h ∨ (tail + size - now) % size < (h + size - now) % size then s.on F.SHX_CR_STAT.HERR n
  else s.wr F.SHX_CR_HEAD.HEAD n h

/-- CR_HEAD_WRITE. -/
def execCrHeadWrite (n : Fin 16) (v : Word) (s : State) : Host.Outcome State Fault Refusal :=
  done (guarded (headExists s n) s (crHeadWrite n v))

/-! ### Window slots -/

/-- A host write of word k of window slot w: words 1 and 2 are staged, and word 0 commits the slot (R371, R411). -/
def hwinWrite (n w k : Nat) (v : Word) (s : State) : State :=
  let put (k : Nat) (v : Word) (t : State) : State :=
    t.setReg .WRD_HWIN (hwin n w k) (writeFields false false (fun _ _ => true) v
      ((regFields .SHX_HWIN (hwin n w k))) (t.reg .WRD_HWIN (hwin n w k)))
  if k = 0 then
    let st (k : Nat) : Word := (sget none s.shx.staged (hwin n w k)).getD (s.reg .WRD_HWIN (hwin n w k))
    put 2 (st 2) (put 1 (st 1) (put 0 v { s with shx := { s.shx with
      staged := serase (serase s.shx.staged (hwin n w 1)) (hwin n w 2) } }))
  else { s with shx := { s.shx with staged := sset none s.shx.staged (hwin n w k) (some v) } }

/-- WINDOW_COMMIT. -/
def execWindowCommit (n w : Fin 16) (v : Word) (s : State) : Host.Outcome State Fault Refusal :=
  done (guarded (headExists s n) s (hwinWrite n w 0 v))

/-! ### Head reset -/

/-- What a head reset does to a mailbox (R387). -/
def mbHeadReset (n : Nat) (s : State) (m : Nat) : State :=
  match mbState s n m with
  | 0 => s
  | 3 => setMbState n m 0 s
  | _ => s.on F.SHX_MB_STAT.ORPHAN (mbx n m)

/-- A head reset at this interface (R408). -/
def shxHeadReset (n : Nat) (s : State) : State :=
  let s1 := [RegName.SHX_CR_CTL, .SHX_CR_BASE_LO, .SHX_CR_BASE_HI, .SHX_CR_HEAD, .SHX_CR_TAIL, .SHX_MSIX_PBA].foldl
    (fun t r => t.setReg r n (regReset r n)) s
  let s2 := (List.range 128).foldl (fun t k => t.setReg .SHX_MSIX (128 * n + k) (regReset .SHX_MSIX (128 * n + k))) s1
  let s3 := { s2 with
    evc := { s2.evc with msixEn := BitVec.ofNat 16 (nsetBit s2.evc.msixEn.toNat n false) }
    shx := { s2.shx with staged := s2.shx.staged.filter (fun e => e.1 / 48 != n) } }
  [0, 1].foldl (mbHeadReset n) s3

/-- The link of head n under a head reset: Held while PERST_N[n] is low, in training after a hot reset (R236, R444). -/
def linkHeadReset (n : Nat) (hot : Bool) (s : State) : State :=
  let st := s.rd F.LNK_HSTAT.CTLST n
  let s1 := if hot then s else { s with lnk := { s.lnk with perst := BitVec.ofNat 16 (nsetBit s.lnk.perst.toNat n false) } }
  let s2 := (linkGone n 0 s1).off F.EVC_TCH.WAKE n
  if !hot || st == 0 then s2 else headRelease n s2

/-- HEAD_RESET: PERST_N[n] has gone low, or a hot reset has arrived (R444). -/
def execHeadReset (n : Fin 16) (hot : Bool) (s : State) : Host.Outcome State Fault Refusal :=
  done (guarded (headExists s n) s (fun s =>
    cohHeadReset n (shxHeadReset n (clearWindowsGrants n (linkHeadReset n hot s)))))

/-! ### Tenant reset -/

/-- The operations that a tenant reset of tenant n ends: those still queued, its region loads and its jobs (R409, R445). -/
def endedByReset (n : Nat) (o : ShxOp) : Bool := o.tenant == n && (!o.started || o.opcode == 0x0201 || o.opcode == 0x0304)

/-- Step 5 of a tenant reset (R409). -/
def shxTenantReset (n : Nat) (s : State) : State :=
  let gone := s.shx.ops.filter (endedByReset n)
  let s1 := { s with shx := { s.shx with
    ops := s.shx.ops.filter (fun o => !endedByReset n o)
    held := s.shx.held.filter (fun r => r.tenant != n)
    gen := sset 0 s.shx.gen n ((shxGen s n + 1) % 16) } }
  showHandles n (gone.foldl (fun t o => endTicket o.ticket t) s1)

/-- TENANT_RESET_COMPLETE: step 4 after the others; BUSY clears, and the Keeper firmware performs step 5 (R445, R280, R422). -/
def execTenantResetComplete (s : State) : Host.Outcome State Fault Refusal :=
  let n := s.rd F.PWR_TRST_STAT.TENANT 0
  let s1 := trstPoll s
  let quiet := (tenantSets s1 n).all (fun k => (tmbMembers s1 k).all (fun e => !s1.flag F.TMB_STAT.CLEARING e))
  done (guarded (s1.flag F.PWR_TRST_STAT.BUSY 0 && s1.mnt.trstEng.isEmpty && s1.mnt.trst.isEmpty && quiet) s1 (fun s =>
    shxTenantReset n ((setHeld n [] (dcFlushAll n s)).off F.PWR_TRST_STAT.BUSY 0)))

end Sys2Proof.Machine
end

