-- ==== Sys2Proof/Machine/SherexOps.lean ====
section
/-! DEFINITION. The long operations of Sherex (R406, R407): how the Keeper firmware starts each one, and how it goes on to its end. -/

namespace Sys2Proof.Machine
open Sys2Proof

/-- What a step of an operation gives: the hardware refused its start, it goes on, or it is over. -/
inductive OpStep where
  | refused (e : ShxEnd)
  | going (o : ShxOp)
  | over (e : ShxEnd)
deriving DecidableEq, Repr

/-- A field of a word set. -/
def putF (f : Fld) (v : Nat) (w : Word) : Word := setF w f.lo f.width v

/-- A field of an operation's payload. -/
def ShxOp.arg (o : ShxOp) (off n : Nat) : Nat := bytesAt o.args off n

/-! ### Extents -/

/-- A partition command issued: its RESULT, or none while the COH block is busy (R262). -/
def ptIssue (op k : Nat) (e : PtEntry) (s : State) : Option Nat × State :=
  if s.flag F.COH_PT_STAT.BUSY 0 then (none, s)
  else
    let s1 := (s.wr F.COH_PT_DATA0.ACC 0 e.acc).wr F.COH_PT_DATA0.WR 0 e.wr
    let s2 := ((s1.wr F.COH_PT_DATA1.MODE 0 e.mode).wr F.COH_PT_DATA1.STATIC 0 (b2n e.static)).wr F.COH_PT_DATA2.HPA 0 e.hpa
    let s3 := ptCmd (putF F.COH_PT_CMD.EXT k (putF F.COH_PT_CMD.OP op 0)) s2
    (some (s3.rd F.COH_PT_STAT.RESULT 0), s3)

/-- A partition command of an operation: refused with DSRC 1, issued (the operation goes on as `next`), or still to be issued. -/
def ptStep (op k : Nat) (e : PtEntry) (o next : ShxOp) (s : State) : OpStep × State :=
  match ptIssue op k e s with
  | (none, s1) => (.going o, s1)
  | (some 0, s1) => (.going next, s1)
  | (some (r + 1), s1) => (.refused (devError 1 (r + 1)), s1)

/-- The entry of an extent is in force. -/
def extInForce (s : State) (k : Nat) : Bool := !(s.coh.ptOld.any (fun x => x.1 == k)) && (s.ptEntry k).st == 0

/-- An extent struck from the list of head n. -/
def dropExt (k n : Nat) (l : Sparse (List Nat)) : Sparse (List Nat) := sset [] l n ((sget [] l n).filter (· != k))

/-- An extent no longer offered to the heads of a mask. -/
def unoffer (k mask : Nat) (s : State) : State :=
  { s with coh := { s.coh with offered := (bitsOf mask 16).foldl (fun l n => dropExt k n l) s.coh.offered } }

/-- An extent no longer accepted by the heads of a mask. -/
def unaccept (k mask : Nat) (s : State) : State :=
  { s with coh := { s.coh with accepted := (bitsOf mask 16).foldl (fun l n => dropExt k n l) s.coh.accepted } }

/-- The heads of a mask that have accepted an extent. -/
def acceptedBy (s : State) (k mask : Nat) : Nat :=
  ((bitsOf mask 16).filter (fun n => (sget [] s.coh.accepted n).contains k)).foldl (fun m n => nsetBit m n true) 0

/-- EXT_ASSIGN issues its ASSIGN. -/
def extAssignStart (o : ShxOp) (s : State) : OpStep × State :=
  let e : PtEntry := ⟨o.arg 4 1, o.arg 6 2, o.arg 8 2, o.arg 5 1 == 1, o.arg 12 4, 0, false, false⟩
  ptStep 2 (o.arg 0 4) e o { o with phase := 1 } s

/-- The event records that offer an extent of the region of each head of a mask, or ask for it back (R254). -/
def capacityEvents (k : Nat) (add : Bool) (mask : Nat) (s : State) : State :=
  { s with out := s.out ++ (bitsOf mask 16).map (fun n => .capacityEvent n k add (s.toHost n)) }

/-- EXT_ASSIGN: 0 to be issued; 1 in clearing or not yet in force; 2 offered; 3 to be narrowed; 4 to be released; 5 narrowed, not yet in
force. -/
def extAssignPoll (o : ShxOp) (s : State) : OpStep × State :=
  let k := o.arg 0 4
  let e := s.ptEntry k
  match o.phase with
  | 0 => extAssignStart o s
  | 1 =>
    if !extInForce s k then (.going o, s)
    else if e.acc = 0 then (.over (okEnd (natBytes 8 0)), s)
    else
      let s1 := capacityEvents k true e.acc (unaccept k e.acc s)
      (.going { o with phase := 2, at_ := s.dtcNow, mask := e.acc }, { s1 with coh := { s1.coh with
        offered := (bitsOf e.acc 16).foldl (fun l n => sset [] l n (sget [] l n ++ [k])) s1.coh.offered } })
  | 2 =>
    if (bitsOf o.mask 16).any (fun n => (sget [] s.coh.offered n).contains k) then (.going o, s)
    else
      let a := acceptedBy s k o.mask
      if a = o.mask then (.over (okEnd (natBytes 8 a)), s)
      else (.going { o with phase := if a = 0 then 4 else 3, mask := a }, s)
  | 3 => ptStep 3 k { e with acc := e.acc &&& o.mask, wr := e.wr &&& o.mask } o { o with phase := 5 } s
  | 4 =>
    match ptIssue 4 k e s with
    | (none, s1) => (.going o, s1)
    | (some 0, s1) => (.over (devError 0 0), s1)
    | (some (r + 1), s1) => (.over (devError 1 (r + 1)), s1)
  | _ => if s.coh.ptOld.any (fun x => x.1 == k) then (.going o, s) else (.over (okEnd (natBytes 8 o.mask)), s)

/-- EXT_NARROW issues its NARROW, with the mode and address of the entry. -/
def extNarrowStart (o : ShxOp) (s : State) : OpStep × State :=
  let k := o.arg 0 4
  let e := s.ptEntry k
  ptStep 3 k { e with acc := o.arg 6 2, wr := o.arg 8 2, static := o.arg 5 1 == 1 } o { o with phase := 1, mask := e.acc } s

/-- EXT_NARROW ends when the new entry is in force and its walk has ended. -/
def extNarrowPoll (o : ShxOp) (s : State) : OpStep × State :=
  let k := o.arg 0 4
  if o.phase = 0 then extNarrowStart o s
  else if extInForce s k then (.over (okEnd []), unaccept k (o.mask &&& ((s.ptEntry k).acc ^^^ 0xFFFF)) s)
  else (.going o, s)

/-- EXT_RELEASE asks every head of ACC; without one, or for an extent the COH block refuses, the RELEASE follows at once. -/
def extReleaseStart (o : ShxOp) (s : State) : OpStep × State :=
  let k := o.arg 0 4
  let e := s.ptEntry k
  if e.mode ≠ 0 ∧ e.st = 0 ∧ e.acc ≠ 0 then
    (.going { o with phase := 1, mask := e.acc, at_ := s.dtcNow }, capacityEvents k false e.acc s)
  else ptStep 4 k e { o with phase := 2 } { o with phase := 3, mask := e.acc } s

/-- EXT_RELEASE: 1 heads still to release; 2 RELEASE to be issued; 3 draining and clearing. -/
def extReleasePoll (o : ShxOp) (s : State) : OpStep × State :=
  let k := o.arg 0 4
  match o.phase with
  | 1 => (.going (if o.mask = 0 then { o with phase := 2 } else o), s)
  | 2 => ptStep 4 k (s.ptEntry k) o { o with phase := 3 } s
  | _ => if extInForce s k && (s.ptEntry k).mode == 0 then (.over (okEnd []), unaccept k 0xFFFF s) else (.going o, s)

/-! ### Regions -/

/-- The end flags of leaf l's controller cleared. -/
def clearLdFlags (l : Nat) (s : State) : State := (s.off F.CFG_LDSTAT.DONE l).off F.CFG_LDSTAT.FAIL l

/-- The leaf an operation on a region uses: that of the region, or L0 for a full load. -/
def opLeaf (s : State) (o : ShxOp) : Nat := if o.opcode = 0x0206 then 0 else s.rd F.CFG_RGN_CFG.LEAF (o.arg 0 1)

/-- A write of CFG_CMD by an operation; a RESULT refuses it with DSRC 3. -/
def ldStart (o : ShxOp) (f : Nat → State → State) (s : State) : OpStep × State :=
  let l := opLeaf s o
  let s1 := trstAdvance (f l (clearLdFlags l s))
  match s1.rd F.CFG_LDSTAT.RESULT l with
  | 0 => (.going { o with phase := 1 }, s1)
  | r + 1 => (.refused (devError 3 (r + 1)), s1)

/-- RGN_LOAD, FULL_LOAD and RGN_CLEAR end with their controller's operation. -/
def ldPoll (o : ShxOp) (s : State) : OpStep × State :=
  let l := opLeaf s o
  if (s.loader l).op ≠ 0 then (.going o, s)
  else if s.flag F.CFG_LDSTAT.FAIL l then (.over (devError 2 (s.reg .CFG_LDERR l).toNat), s)
  else if o.opcode = 0x0201 then
    let r := o.arg 0 1
    (.over (okEnd (natBytes 4 (s.reg .CFG_LDCNT l).toNat ++ natBytes 1 r)),
      { s with shx := { s.shx with kept := s.shx.kept ||| BitVec.ofNat 64 (2 ^ r) } })
  else (.over (okEnd []), s)

/-- The bytes of the frame that CFG_FRD_DATA shows. -/
def frdBytes (s : State) : List Byte := ((List.range 129).flatMap (fun k => natBytes 4 (s.reg .CFG_FRD_DATA k).toNat)).take 514

/-- RGN_READBACK: the frame is read and written to ADDR, padded to 576 bytes. -/
def readbackStart (o : ShxOp) (s : State) : OpStep × State :=
  let s1 := frameReadback (putF F.CFG_FRD_CMD.FRAME (o.arg 4 4) (putF F.CFG_FRD_CMD.GO 1 0)) (s.off F.CFG_FRD_STAT.DENIED 0)
  if s1.flag F.CFG_FRD_STAT.DENIED 0 then (.refused (devError 0 0), s1)
  else (.over (okEnd []), writeHost o.tenant (o.arg 8 8) (frdBytes s1 ++ natBytes 62 0) s1)

/-! ### Engines and sets -/

/-- The engines that SET_MEMBERS names. -/
def ShxOp.engines (o : ShxOp) : List Nat := (List.range (o.arg 2 1)).map (fun j => o.arg (8 + 2 * j) 2)

/-- SET_MEMBERS writes TMB_CFG of every engine it names (R205). -/
def membersStart (o : ShxOp) (s : State) : OpStep × State :=
  let join := o.arg 1 1 == 0
  let k := o.arg 0 1
  let s1 := o.engines.foldl (fun t e =>
    tmbCfgWrite e (putF F.TMB_CFG.SET k (putF F.TMB_CFG.VALID (b2n join) 0)) (t.off F.TMB_STAT.REJECT e)) s
  if o.engines.any (s1.flag F.TMB_STAT.REJECT) then (.refused (devError 0 0), s1) else (.going { o with phase := 1 }, s1)

/-- SET_MEMBERS ends when every clearing has. -/
def membersPoll (o : ShxOp) (s : State) : OpStep × State :=
  if o.engines.any (s.flag F.TMB_STAT.CLEARING) then (.going o, s) else (.over (okEnd []), s)

/-- A write of the Keeper DMA to bytes of an engine's memory within one line: the code of an ERROR response, or 0. -/
def keeperStore (e off : Nat) (l : List Byte) (s : State) : Nat × State :=
  let da := 0x080100000000 + 0x20000 * e + off
  let d : Line := (BitVec.ofNat 512 (leNat l)) <<< (8 * (off % 64))
  let r : Req := ⟨.write, dmaEp, engineEp e, 0, keeperTag, da, l.length, d, .none⟩
  let s1 := engineRequest e off [] r s
  let code := match s1.net.resps.getLast? with
    | some q => (match q.ans with | .error c _ => c | _ => 0)
    | none => 0
  (code, { s1 with net := { s1.net with resps := s.net.resps, way := s.net.way } })

/-- An image written line by line; it ends at the first ERROR.  The first argument bounds the number of lines. -/
def keeperImage (e : Nat) : Nat → Nat → List Byte → State → Nat × State
  | 0, _, _, s => (0, s)
  | f + 1, off, l, s =>
    if l.isEmpty then (0, s)
    else
      let n := 64 - off % 64
      match keeperStore e off (l.take n) s with
      | (0, s1) => keeperImage e f (off + n) (l.drop n) s1
      | (c + 1, s1) => (c + 1, s1)

/-- SET_LOAD: both images into every live member; an ERROR ends it with DSRC 5. -/
def setLoadStart (o : ShxOp) (s : State) : OpStep × State :=
  let n := o.arg 16 4
  let (code, s1) := (liveMembers s (o.arg 0 1)).foldl (fun (x : Nat × State) e =>
    if x.1 ≠ 0 then x
    else match keeperImage e 1025 (o.arg 20 2) (o.data.take n) x.2 with
      | (0, t) => keeperImage e 257 0x10000 (o.data.drop n) t
      | y => y) (0, s)
  if code = 0 then (.over (okEnd []), s1) else (.refused (devError 5 code), s1)

/-- JOB_START writes the arguments, the timeout and TMB_SETs_JOB (R209). -/
def jobStart (o : ShxOp) (s : State) : OpStep × State :=
  let k := o.arg 0 1
  let s1 := (List.range 4).foldl (fun t j => t.setReg .TMB_SET_ARG (4 * k + j) (BitVec.ofNat 32 (o.arg (8 + 4 * j) 4))) s
  let s2 := setJobWrite k (putF F.TMB_SET_JOB.ENTRY (o.arg 2 2) (putF F.TMB_SET_JOB.GO 1 0))
    ((s1.wr F.TMB_SET_TMO.TMO k (o.arg 4 4)).off F.TMB_SET_JSTAT.REJECT k)
  if s2.flag F.TMB_SET_JSTAT.REJECT k then (.refused (devError 0 0), s2) else (.going { o with phase := 1 }, s2)

/-- JOB_START ends with the job. -/
def jobPoll (o : ShxOp) (s : State) : OpStep × State :=
  let k := o.arg 0 1
  let e := s.rd F.TMB_SET_JSTAT.END k
  if jobRuns s k then (.going o, s)
  else (.over ⟨if e = 1 then 0 else 0x40, if e = 1 then 0 else 4, if e = 1 then 0 else e, natBytes 1 e⟩, s)

/-- ENG_TEST writes TMB_CTLe; the device ignores a start it does not admit (R221, R222). -/
def engTestStart (o : ShxOp) (s : State) : OpStep × State :=
  let e := o.arg 0 2
  let restore := o.arg 2 1 == 1
  let job := if restore then (engineSet s e).any (fun k => jobRuns s k && !s.flag F.TMB_SET_CFG.WINDOW k) else inJob s e
  if testBlocked s e || !isIdle s e || job || (restore && !s.flag F.TMB_STAT.RETIRED e) then (.refused (devError 0 0), s)
  else (.going { o with phase := 1 }, startTest e restore s)

/-- ENG_TEST ends with the self-test. -/
def engTestPoll (o : ShxOp) (s : State) : OpStep × State :=
  let e := o.arg 0 2
  if s.flag F.TMB_STAT.TBUSY e then (.going o, s) else (.over (okEnd (natBytes 4 (tmbStatView s e).toNat)), s)

/-! ### Maintenance -/

/-- The head is Up with its link in L0. -/
def headInL0 (s : State) (n : Nat) : Bool := headUp s n && s.rd F.LNK_HSTAT.LTSSM n == 3

/-- After a direction to Recovery or Detect: 1 still in L0, 3 in the backoff that the direction itself has brought, else 2, in training. -/
def trainStart (o : ShxOp) (s : State) : OpStep × State :=
  (.going { o with phase := if headInL0 s o.tenant then 1 else if s.rd F.LNK_HSTAT.CTLST o.tenant = 5 then 3 else 2 }, s)

/-- LANE_RESTORE and RETRAIN end at the next UP or failed attempt. -/
def trainPoll (o : ShxOp) (s : State) : OpStep × State :=
  let n := o.tenant
  if s.rd F.LNK_HSTAT.CTLST n = 5 then (if o.phase = 3 then (.going o, s) else (.over (devError 0 0), s))
  else if headInL0 s n then (if o.phase = 2 then (.over (okEnd []), s) else (.going o, s))
  else (.going { o with phase := 2 }, s)

/-- LANE_RESTORE: the lanes are restored, and the head redetects (R244). -/
def laneRestoreStart (o : ShxOp) (s : State) : OpStep × State :=
  trainStart o (hctlRedetect o.tenant (retWrite (o.tenant / 2) (putF F.LNK_RET.RESTORE (o.arg 0 2) 0) s))

/-- RETRAIN. -/
def retrainStart (o : ShxOp) (s : State) : OpStep × State :=
  trainStart o (if o.arg 0 1 = 0 then hctlRetrain o.tenant s else hctlRedetect o.tenant s)

/-- The count of passes that a SCRUB_PASS follows. -/
def passCount (s : State) (kind i : Nat) : Nat :=
  if kind = 0 then s.rd F.MEM_SCR_STAT.PASS i else if kind = 1 then s.rd F.DDR_PAT_STAT.PASS i else s.rd F.SCB_STAT.PASS i

/-- SCRUB_PASS ends with the first pass that began after it. -/
def passPoll (o : ShxOp) (s : State) : OpStep × State :=
  if 2 ≤ (passCount s (o.arg 0 1) (o.arg 1 1) + 65536 - o.mask) % 65536 then (.over (okEnd []), s) else (.going o, s)

/-- The channels of a DRAM_RATE. -/
def ShxOp.channels (o : ShxOp) : List Nat := (List.range 12).filter (fun n => nbit (o.arg 0 2) n)

/-- The shadow set of a channel for a rate: its timings are the Keeper firmware's, and open; it is marked valid (R307). -/
def rateShadow (rate div : Nat) (s : State) (n : Nat) : State :=
  let s1 := (List.range 8).foldl (fun t k =>
    let (v, u) := t.fresh
    u.setReg .DDR_TIM_SHADOW (8 * n + k) (writeFields true false (fun _ _ => true) (BitVec.ofNat 32 v)
      (regFields .DDR_TIM_SHADOW (8 * n + k)) (u.reg .DDR_TIM_SHADOW (8 * n + k)))) s
  shadowValid n ((s1.wr F.DDR_TIM_SHADOW0.RATE (8 * n) rate).wr F.DDR_TIM_SHADOW0.MCKDIV (8 * n) div)

/-- DRAM_RATE: the shadow sets, then one transaction of the mode sequencer over the channels (R310). -/
def dramRateStart (o : ShxOp) (s : State) : OpStep × State :=
  let root := 100 * s.rd F.CLK_ROOT_CFG.MULT 0
  let mck := rateMck (o.arg 2 1)
  if mck = 0 ∨ root % mck ≠ 0 then (.refused (devError 0 0), s)
  else if modeState s ≠ 0 then (.going o, s)
  else
    let s1 := o.channels.foldl (rateShadow (o.arg 2 1) (root / mck)) s
    let s2 := ((s1.wr F.PWR_MODE_CHAN.MASK 0 (o.arg 0 2)).off F.PWR_MODE_STAT.DONE 0).off F.PWR_MODE_STAT.ABORT 0
    (.going { o with phase := 1 }, modeCtlWrite (putF F.PWR_MODE_CTL.GO 1 0) s2)

/-- DRAM_RATE: 0 the sequencer is busy; 1 in the transaction; 2 each channel is brought back with DONE after its short retraining (R312). -/
def dramRatePoll (o : ShxOp) (s : State) : OpStep × State :=
  match o.phase with
  | 0 => dramRateStart o s
  | 1 =>
    if modeState s = 1 ∨ modeState s = 2 ∨ modeState s = 4 then (.going o, s)
    else if s.flag F.PWR_MODE_STAT.ABORT 0 then (.over (devError 0 0), s)
    else (.going { o with phase := 2 }, s)
  | _ =>
    let s1 := o.channels.foldl (fun t n => if chanState t n = 6 then holdDone n t else t) s
    if o.channels.all (fun n => chanState s1 n == 2 || chanState s1 n == 3) then (.over (okEnd []), s1) else (.going o, s1)

/-! ### Images in flash -/

/-- Checks 1 to 6 of R322 for a policy (KIND 4) or Keeper firmware (KIND 1) image: 0, or the code of the first that fails. -/
def imageChecks (s : State) (kind : Nat) (img : List Byte) : Nat :=
  let h := img.take 352
  let enc := bytesAt h 7 1 == 1
  let slot := bytesAt h 15 1
  let want := if kind = 4 then 1 else 0
  let slots := if enc && kind == 4 then [0, 1] else [0]
  if img.length < 352 ∨ !checkFormat h ∨ img.length < headLength h then 1
  else if !checkIdentity h then 2
  else if bytesAt h 6 1 ≠ kind then 3
  else if !(bytesAt h 14 1 == want && slots.contains slot && keyMatches s want 0 ((h.drop 0x70).take 96)) then 4
  else if !Config.ecdsaOk ((h.drop 0x70).take 96) ((h.drop 0x100).take 96) (Config.sha384 (h.take 0x100)) then 5
  else if digestBytes (Config.sha384 ((img.take (headLength h)).drop 352)) ≠ (h.drop 0x40).take 48 then 6
  else 0

/-- POLICY_UPDATE and FW_UPDATE: the image goes to flash where it passes its checks. -/
def imageStart (o : ShxOp) (s : State) : OpStep × State :=
  let fw := o.opcode == 0x0608
  if imageChecks s (if fw then 1 else 4) o.data ≠ 0 then (.over (devError 0 0), s)
  else (.over (okEnd []), { s with shx := { s.shx with flash := sset none s.shx.flash (2 * o.arg 0 1 + b2n fw) (some o.data) } })

/-! ### I2C -/

/-- The commands of a transfer, in order: where its bytes start, how many are written, how many are read (R460). -/
def i2cPlan (wlen rlen : Nat) : List (Nat × Nat × Nat) :=
  let w := (List.range ((wlen + 15) / 16)).map (fun j => (16 * j, min 16 (wlen - 16 * j), 0))
  let r := (List.range ((rlen + 15) / 16)).map (fun j => (0, 0, min 16 (rlen - 16 * j)))
  if wlen = 0 ∧ rlen = 0 then [(0, 0, 0)] else w ++ r

/-- The command j of a transfer goes out. -/
def i2cNext (o : ShxOp) (j : Nat) (s : State) : State :=
  let b := o.arg 0 1
  let plan := i2cPlan (o.arg 2 1) (o.arg 3 1)
  let (off, w, r) := plan.getD j (0, 0, 0)
  let s1 := ((s.off F.MGP_I2CSTAT.DONE b).off F.MGP_I2CSTAT.NACK b).off F.MGP_I2CSTAT.ARBLOST b
  let s2 := i2cStore b ((o.args.drop (16 + off)).take w) (s1.off F.MGP_I2CSTAT.TMO b)
  i2cGo b (putF F.MGP_I2CCMD.ADDR (o.arg 1 1) (putF F.MGP_I2CCMD.WLEN w (putF F.MGP_I2CCMD.RLEN r
    (putF F.MGP_I2CCMD.NOSTART (b2n (j != 0)) (putF F.MGP_I2CCMD.NOSTOP (b2n (j + 1 != plan.length)) (putF F.MGP_I2CCMD.GO 1 0)))))) s2

/-- The end of a transfer: its data goes to RADDR, where the ward still admits it. -/
def i2cFinish (o : ShxOp) (data : List Byte) (s : State) : OpStep × State :=
  let a := o.arg 8 8
  if data.isEmpty then (.over (okEnd []), s)
  else if windowAdmits s o.tenant a data.length true then (.over (okEnd []), writeHost o.tenant a data s)
  else (.over (devError 5 2), vio o.tenant (wardLog 0 o.tenant 0 a s))

/-- I2C_XFER: `phase` commands have gone out. -/
def i2cPoll (o : ShxOp) (s : State) : OpStep × State :=
  let b := o.arg 0 1
  let plan := i2cPlan (o.arg 2 1) (o.arg 3 1)
  if s.flag F.MGP_I2CSTAT.BUSY b then (.going o, s)
  else if o.phase = 0 then (.going { o with phase := 1 }, i2cNext o 0 s)
  else if s.flag F.MGP_I2CSTAT.NACK b || s.flag F.MGP_I2CSTAT.ARBLOST b || s.flag F.MGP_I2CSTAT.TMO b then (.over (devError 0 0), s)
  else if s.flag F.MGP_I2CSTAT.DONE b then
    let data := o.data ++ i2cBytes s b (plan.getD (o.phase - 1) (0, 0, 0)).2.2
    if o.phase = plan.length then i2cFinish o data s
    else (.going { o with phase := o.phase + 1, data := data }, i2cNext o o.phase s)
  else (.going o, s)

/-! ### Loopback -/

/-- The device lanes of a LANE_LOOPBACK. -/
def loopLanes (s : State) (o : ShxOp) : List Nat := (headLanes s o.tenant).filter (fun g => nbit (o.arg 0 2) (g % 16))

/-- LANE_LOOPBACK: the head is held, and the lanes loop back; the checkers count from 0. -/
def loopbackStart (o : ShxOp) (s : State) : OpStep × State :=
  let n := o.tenant
  let v := putF F.LNK_LLB.MODE (o.arg 2 1) (putF F.LNK_LLB.PAT (o.arg 3 1) (putF F.LNK_LLB.RATE (o.arg 4 1) 0))
  let s1 := (loopLanes s o).foldl (fun t g => llbWrite g v (t.wr F.LNK_LLBERR.COUNT g 0)) (holdWrite n true s)
  (.going { o with phase := 1, at_ := s.dtcNow, mask := s.rd F.LNK_HCTL.HOLD n }, s1)

/-- The end of its TIME: the loopbacks stop, the head is released unless it was held before, and the errors go to RESULT. -/
def loopbackEnd (o : ShxOp) (s : State) : OpStep × State :=
  let ls := loopLanes s o
  let bad := ls.filter (fun g => s.rd F.LNK_LLBERR.COUNT g != 0)
  let s1 := ls.foldl (fun t g => (llbWrite g 0 t).wr F.LNK_LLBERR.COUNT g 0) s
  (.over (okEnd (natBytes 1 bad.length ++ natBytes 2 (bad.foldl (fun m g => nsetBit m (g % 16) true) 0))),
    if o.mask = 0 then holdWrite o.tenant false s1 else s1)

/-! ### The operations together -/

/-- An operation starts. -/
def opStart (o : ShxOp) (s : State) : OpStep × State :=
  match o.opcode with
  | 0x0100 => extAssignStart o s
  | 0x0101 => extNarrowStart o s
  | 0x0102 => extReleaseStart o s
  | 0x0201 => ldStart o (fun l => cfgLoad l (o.arg 0 1)) s
  | 0x0202 => ldStart o (fun l => cfgClear l (o.arg 0 1)) s
  | 0x0205 => readbackStart o s
  | 0x0206 => ldStart o (fun _ => cfgLoadFull true) s
  | 0x0301 => membersStart o s
  | 0x0303 => setLoadStart o s
  | 0x0304 => jobStart o s
  | 0x0309 => engTestStart o s
  | 0x0500 => laneRestoreStart o s
  | 0x0501 => retrainStart o s
  | 0x0502 => (.going { o with mask := passCount s (o.arg 0 1) (o.arg 1 1) }, s)
  | 0x0503 => dramRateStart o s
  | 0x0607 => imageStart o s
  | 0x0608 => imageStart o s
  | 0x0703 => i2cPoll o s
  | _ => loopbackStart o s

/-- An operation that runs goes on. -/
def opPoll (o : ShxOp) (s : State) : OpStep × State :=
  match o.opcode with
  | 0x0100 => extAssignPoll o s
  | 0x0101 => extNarrowPoll o s
  | 0x0102 => extReleasePoll o s
  | 0x0201 => ldPoll o s
  | 0x0202 => ldPoll o s
  | 0x0206 => ldPoll o s
  | 0x0301 => membersPoll o s
  | 0x0304 => jobPoll o s
  | 0x0309 => engTestPoll o s
  | 0x0500 => trainPoll o s
  | 0x0501 => trainPoll o s
  | 0x0502 => passPoll o s
  | 0x0503 => dramRatePoll o s
  | 0x0703 => i2cPoll o s
  | _ => (.going o, s)

/-- What a step of an operation leaves. -/
def opAfter (o : ShxOp) (x : OpStep × State) : State :=
  match x.1 with
  | .refused e => finishOp o e x.2
  | .over e => finishOp o e x.2
  | .going q => setOp { q with started := true } x.2

/-- The arbiter asked for an operation's activity: its ticket, unless every entry is in use, and whether it is granted (R450). -/
def askArbiter (a r : Nat) (s : State) : Option Nat × Bool × State :=
  let s1 := mntReqWrite (putF F.PWR_MNT_REQ.ACT a (putF F.PWR_MNT_REQ.RES r (putF F.PWR_MNT_REQ.GO 1 0))) s
  match s1.rd F.PWR_MNT_RESP.OUTCOME 0 with
  | 0 => (some (s1.rd F.PWR_MNT_RESP.TICKET 0), true, s1)
  | 1 => (some (s1.rd F.PWR_MNT_RESP.TICKET 0), false, s1)
  | _ => (none, false, s1)

/-- A queued operation: it starts once the arbiter has granted its ticket; one that found every entry in use asks again (R407, R450). -/
def opQueued (o : ShxOp) (s : State) : State :=
  match o.ticket with
  | some k => if (mntEnt s k).1 = 2 then opAfter o (opStart o s) else s
  | none =>
    match o.act with
    | none => s
    | some (a, r) =>
      let (t, granted, s1) := askArbiter a r s
      let o1 := { o with ticket := t }
      if granted then opAfter o1 (opStart o1 (setOp o1 s1)) else setOp o1 s1

/-- The operation with a handle goes on as far as one step. -/
def opNext (s : State) (h : Nat) : State :=
  match s.shx.ops.find? (fun o => o.handle == h) with
  | some o => if o.started then opAfter o (opPoll o s) else opQueued o s
  | none => s

/-- Every operation goes on, in the order of their rings. -/
def shxPoll (s : State) : State := (s.shx.ops.map (·.handle)).foldl opNext s

/-- The operation with a handle goes on by up to three steps. -/
def opRun (h : Nat) (s : State) : State := opNext (opNext (opNext s h) h) h

end Sys2Proof.Machine
end

