-- ==== Sys2Proof/Machine/SherexCmds.lean ====
section
/-! DEFINITION. The Sherex commands (R406): each command's role, its own conditions, and its effect or the operation it starts. -/

namespace Sys2Proof.Machine
open Sys2Proof

/-! ### Carrying out a command -/

/-- Mailbox m of head n holds a command of the opcode, taken and checked, that waits for its effect. -/
def shxReady (s : State) (n m op : Nat) : Bool :=
  mbState s n m == 2 && (mbTaken s n m).any (fun t => t.phase == .ready) && cmdOpcode s n m == op

/-- The STATUS of the first check that fails. -/
def firstStatus : List (Bool × Nat) → Option Nat
  | [] => none
  | (b, st) :: l => if b then some st else firstStatus l

/-- An object with an outstanding long operation (R407). -/
def objBusy (s : State) (x : ShxObj) : Bool :=
  s.shx.ops.any (fun o => o.objs.contains x) || s.shx.held.any (fun r => r.objs.contains x)

/-- A command without a handle: its checks in order, then its effect. -/
def shxShort (n m op : Nat) (checks : State → List Byte → List (Bool × Nat)) (act : List Byte → State → ShxEnd × State) (s : State) :
    State :=
  guarded (shxReady s n m op) s (fun s =>
    let p := cmdPayload s n m
    match firstStatus (checks s p) with
    | some st => shxRefuse n m st s
    | none =>
      let (e, s1) := act p s
      shxAnswer n m e.status e.dsrc 0 e.detail e.result s1)

/-- An operation that the arbiter admits starts now: refused by the hardware, or ACCEPTED. -/
def opBegin (n m : Nat) (o : ShxOp) (serial : Sparse Nat) (s : State) : State :=
  match opStart o s with
  | (.refused e, s1) =>
    let s2 := endTicket o.ticket { s1 with shx := { s1.shx with serial := serial } }
    shxAnswer n m e.status e.dsrc 0 e.detail e.result s2
  | (.going q, s1) =>
    shxAnswer n m 0x01 0 o.handle 0 [] (showHandles n { s1 with shx := { s1.shx with ops := s1.shx.ops ++ [{ q with started := true }] } })
  | (.over e, s1) => shxAnswer n m 0x01 0 o.handle 0 [] (finishOp o e s1)

/-- A command with a handle: its checks, BUSY for its objects (R407), LIMIT (R394), then its operation, which starts or waits for the
arbiter. -/
def shxLong (n m op : Nat) (checks : State → List Byte → List (Bool × Nat)) (objs : List Byte → List ShxObj)
    (act : State → List Byte → Option (Nat × Nat)) (data : List Byte) (s : State) : State :=
  guarded (shxReady s n m op) s (fun s =>
    let p := cmdPayload s n m
    match firstStatus (checks s p ++ [((objs p).any (objBusy s), 0x30), (decide (256 ≤ outstanding s n), 0x36)]) with
    | some st => shxRefuse n m st s
    | none =>
      let (h, s1) := issueHandle n s
      let o : ShxOp := ⟨h, cmdTag s n m, op, n, objs p, act s p, none, false, 0, 0, 0, p, data⟩
      match o.act with
      | none => opBegin n m o s.shx.serial s1
      | some (a, r) =>
        let (t, granted, s2) := askArbiter a r s1
        let o1 := { o with ticket := t }
        if granted then opBegin n m o1 s.shx.serial s2
        else shxAnswer n m 0x02 0 h 0 [] (showHandles n { s2 with shx := { s2.shx with ops := s2.shx.ops ++ [o1] } }))

/-! ### Roles -/

/-- NOT_OWNER unless the sender is the device owner. -/
def notOwner (s : State) (n : Nat) : Bool × Nat := (n != deviceOwner s, 0x24)

/-- The sender owns region r. -/
def ownsRegion (s : State) (n r : Nat) : Bool := s.rd F.CFG_RGN_CFG.OWNER r == n

/-- The sender owns set k. -/
def ownsSet (s : State) (n k : Nat) : Bool := s.flag F.TMB_SET_CFG.VALID k && s.rd F.TMB_SET_CFG.TENANT k == n

/-- A host range outside the sender's windows; an empty range is inside. -/
def noWindow (s : State) (n addr len : Nat) (write : Bool) : Bool × Nat := (len != 0 && !windowAdmits s n addr len write, 0x35)

/-- No checks of its own. -/
def noChecks (_ : State) (_ : List Byte) : List (Bool × Nat) := []

/-- No activity at the arbiter. -/
def noAct (_ : State) (_ : List Byte) : Option (Nat × Nat) := none

/-! ### Session and information -/

/-- SHEREX_NOP. -/
def execSherexNop (n : Fin 16) (m : Fin 2) (s : State) : Host.Outcome State Fault Refusal :=
  done (shxShort n m 0x0000 noChecks (fun _ s => (okEnd [], s)) s)

/-- CFG_REV, from the fuses (R318, R346). -/
def cfgRevView : Word :=
  (List.range 4).foldl (fun w l => setF w (2 * l) 2 (Config.dieRev l).val) (setF 0 8 1 (b2n Config.platformHash.isNone))

/-- GET_INFO. -/
def execGetInfo (n : Fin 16) (m : Fin 2) (s : State) : Host.Outcome State Fault Refusal :=
  done (shxShort n m 0x0001 noChecks (fun _ s =>
    (okEnd (natBytes 4 (s.reg .CFG_IDENT 0).toNat ++ natBytes 4 cfgRevView.toNat ++ natBytes 4 Config.firmwareVersion.toNat ++
      natBytes 1 (s.rd F.CFG_PINS.DONE 0) ++ natBytes 1 (s.rd F.COH_HEAD.TYPE n) ++ natBytes 1 (deviceOwner s)), s)) s)

/-- The numbers below a bound that satisfy a condition, as a mask. -/
def maskOf (k : Nat) (p : Nat → Bool) : Nat := ((List.range k).filter p).foldl (fun v j => nsetBit v j true) 0

/-- The extents whose ACC includes tenant n, in rising order. -/
def extentsOf (s : State) (n : Nat) : List (Nat × PtEntry) := s.coh.pt.filter (fun e => e.2.mode != 0 && nbit e.2.acc n)

/-- GET_RESOURCES. -/
def execGetResources (n : Fin 16) (m : Fin 2) (s : State) : Host.Outcome State Fault Refusal :=
  done (shxShort n m 0x0002 noChecks (fun _ s =>
    let wins := maskOf 16 (fun w => s.flag F.TMB_TW_CFG.EN w && s.rd F.TMB_SET_CFG.TENANT (s.rd F.TMB_TW_CFG.SET w) == n.val)
    (okEnd (natBytes 8 (maskOf 64 (ownsRegion s n)) ++ natBytes 8 (maskOf 64 (ownsSet s n)) ++ natBytes 2 wins ++
      natBytes 4 (extentsOf s n).length), s)) s)

/-- GET_EXTENTS. -/
def execGetExtents (n : Fin 16) (m : Fin 2) (s : State) : Host.Outcome State Fault Refusal :=
  done (shxShort n m 0x0003 noChecks (fun p s =>
    let l := ((extentsOf s n).filter (fun e => decide (bytesAt p 0 4 ≤ e.1))).take 24
    (okEnd (natBytes 4 l.length ++ l.flatMap (fun e =>
      natBytes 4 e.1 ++ natBytes 1 e.2.mode ++ natBytes 1 0 ++ natBytes 2 e.2.acc)), s)) s)

/-- A handle of the current generation of tenant n. -/
def handleOf (s : State) (n h : Nat) : Bool := h / 2 ^ 28 == n && h / 2 ^ 24 % 16 == shxGen s n

/-- Where a handle stands: 0 not outstanding, 1 queued, 2 running, 3 record held (R394, R399). -/
def handleState (s : State) (n h : Nat) : Nat :=
  if !handleOf s n h then 0
  else match s.shx.ops.find? (fun o => o.handle == h) with
    | some o => if o.started then 2 else 1
    | none => if s.shx.held.any (fun r => r.handle == h) then 3 else 0

/-- HANDLE_STATUS. -/
def execHandleStatus (n : Fin 16) (m : Fin 2) (s : State) : Host.Outcome State Fault Refusal :=
  done (shxShort n m 0x0004 (fun s p => [(handleState s n (bytesAt p 0 4) == 0, 0x34)]) (fun p s =>
    (okEnd (natBytes 4 (handleState s n (bytesAt p 0 4))), s)) s)

/-! ### Memory extents -/

/-- The extent that a command names. -/
def extentArg (p : List Byte) : List ShxObj := [.extent (bytesAt p 0 4)]

/-- EXT_ASSIGN. -/
def execExtAssign (n : Fin 16) (m : Fin 2) (s : State) : Host.Outcome State Fault Refusal :=
  done (shxLong n m 0x0100 (fun s _ => [notOwner s n]) extentArg noAct [] s)

/-- EXT_NARROW. -/
def execExtNarrow (n : Fin 16) (m : Fin 2) (s : State) : Host.Outcome State Fault Refusal :=
  done (shxLong n m 0x0101 (fun s _ => [notOwner s n]) extentArg noAct [] s)

/-- EXT_RELEASE. -/
def execExtRelease (n : Fin 16) (m : Fin 2) (s : State) : Host.Outcome State Fault Refusal :=
  done (shxLong n m 0x0102 (fun s _ => [notOwner s n]) extentArg noAct [] s)

/-- The operation of an opcode in a phase on an extent. -/
def extOp (s : State) (op phase ext : Nat) : Option ShxOp :=
  s.shx.ops.find? (fun o => o.opcode == op && o.started && o.phase == phase && o.arg 0 4 == ext)

/-- EXTENT_OFFER_TIMEOUT: the offer ends 1 s after it was made. -/
def execExtentOfferTimeout (ext : Nat) (s : State) : Host.Outcome State Fault Refusal :=
  done (match extOp s 0x0100 2 ext with
    | some o => guarded (s.expired o.at_ 1000000000) s (fun s => opRun o.handle (unoffer ext o.mask s))
    | none => s)

/-- EXTENT_RELEASE_RESPONSE: head n has released the extent. -/
def execExtentReleaseResponse (n : Fin 16) (ext : Nat) (s : State) : Host.Outcome State Fault Refusal :=
  done (match extOp s 0x0102 1 ext with
    | some o => guarded (nbit o.mask n) s (fun s =>
        opRun o.handle (setOp { o with mask := nsetBit o.mask n false } (unaccept ext (2 ^ n.val) s)))
    | none => s)

/-- EXTENT_RELEASE_WAIT_EXPIRY: WAIT has passed with a head that has not released; FORCE says what follows. -/
def execExtentReleaseWaitExpiry (ext : Nat) (s : State) : Host.Outcome State Fault Refusal :=
  done (match extOp s 0x0102 1 ext with
    | some o => guarded (o.mask != 0 && s.expired o.at_ (1000000 * o.arg 6 2)) s (fun s =>
        if o.arg 4 1 = 0 then finishOp o (devError 0 0) s else opRun o.handle (setOp { o with phase := 2 } s))
    | none => s)

/-- XLAT_SET. -/
def execXlatSet (n : Fin 16) (m : Fin 2) (s : State) : Host.Outcome State Fault Refusal :=
  done (shxShort n m 0x0103 (fun s _ => [notOwner s n]) (fun p s =>
    let s1 := ((s.wr F.COH_XM_DATA0.DPA_BASE 0 (bytesAt p 4 2)).wr F.COH_XM_DATA0.VALID 0 (bytesAt p 2 1)).wr
      F.COH_XM_DATA1.DA_BASE 0 (bytesAt p 8 4)
    let s2 := s1.wr F.COH_XM_DATA2.COUNT 0 (bytesAt p 12 2)
    (okEnd [], xmCmd (putF F.COH_XM_CMD.HEAD (bytesAt p 0 1) (putF F.COH_XM_CMD.RANGE (bytesAt p 1 1)
      (putF F.COH_XM_CMD.OP 2 0))) s2)) s)

/-! ### Regions -/

/-- The region that a command names. -/
def regionArg (p : List Byte) : List ShxObj := [.region (bytesAt p 0 1)]

/-- The activity of a load or CLEAR of the region a command names: 5, with its leaf (R448). -/
def regionAct (s : State) (p : List Byte) : Option (Nat × Nat) := some (5, s.rd F.CFG_RGN_CFG.LEAF (bytesAt p 0 1))

/-- RGN_ASSIGN. -/
def execRgnAssign (n : Fin 16) (m : Fin 2) (s : State) : Host.Outcome State Fault Refusal :=
  done (shxShort n m 0x0200 (fun s p =>
      let r := bytesAt p 0 1
      [notOwner s n, (s.rd F.CFG_RGN_CFG.STATE r != 1, 0x32), (objBusy s (.region r), 0x30)]) (fun p s =>
    let r := bytesAt p 0 1
    let s1 := rgnCfgWrite r (putF F.CFG_RGN_CFG.OWNER (bytesAt p 1 1) 0) (s.off F.CFG_RGN_CFG.REJECT r)
    (if s1.flag F.CFG_RGN_CFG.REJECT r then devError 0 0 else okEnd [], s1)) s)

/-- RGN_LOAD. -/
def execRgnLoad (n : Fin 16) (m : Fin 2) (s : State) : Host.Outcome State Fault Refusal :=
  done (shxLong n m 0x0201 (fun s p =>
      let r := bytesAt p 0 1
      let kept := bytesAt p 1 1 == 1
      [(!ownsRegion s n r, 0x25), (!s.flag F.CFG_PINS.DONE 0, 0x33), (kept && !s.shx.kept.getLsbD r, 0x32)] ++
        (if kept then [] else [noWindow s n (bytesAt p 8 8) (bytesAt p 16 8) false])) regionArg regionAct [] s)

/-- RGN_CLEAR. -/
def execRgnClear (n : Fin 16) (m : Fin 2) (s : State) : Host.Outcome State Fault Refusal :=
  done (shxLong n m 0x0202 (fun s p => [(!ownsRegion s n (bytesAt p 0 1) && n.val != deviceOwner s, 0x25)]) regionArg regionAct [] s)

/-- RGN_ABORT: exempt from BUSY; STATE unless a load of the region runs. -/
def execRgnAbort (n : Fin 16) (m : Fin 2) (s : State) : Host.Outcome State Fault Refusal :=
  done (shxShort n m 0x0203 (fun s p =>
      let r := bytesAt p 0 1
      let l := s.rd F.CFG_RGN_CFG.LEAF r
      [(!ownsRegion s n r, 0x25), ((s.loader l).op != 1 || opRegion s l != r, 0x32)]) (fun p s =>
    let l := s.rd F.CFG_RGN_CFG.LEAF (bytesAt p 0 1)
    let s1 := trstAdvance (cfgAbort l s)
    match s1.rd F.CFG_LDSTAT.RESULT l with
    | 0 => (okEnd [], s1)
    | k + 1 => (devError 3 (k + 1), s1)) s)

/-- RGN_STATUS: exempt from BUSY. -/
def execRgnStatus (n : Fin 16) (m : Fin 2) (s : State) : Host.Outcome State Fault Refusal :=
  done (shxShort n m 0x0204 (fun s p => [(!ownsRegion s n (bytesAt p 0 1) && n.val != deviceOwner s, 0x25)]) (fun p s =>
    let r := bytesAt p 0 1
    (okEnd ([s.reg .CFG_RGN_CFG r, s.reg .CFG_RGN_MASK0 r, s.reg .CFG_RGN_MASK1 r, s.reg .CFG_RGN_MASK2 r,
      s.reg .CFG_LDERR (s.rd F.CFG_RGN_CFG.LEAF r)].flatMap (fun w => natBytes 4 w.toNat)), s)) s)

/-- RGN_READBACK. -/
def execRgnReadback (n : Fin 16) (m : Fin 2) (s : State) : Host.Outcome State Fault Refusal :=
  done (shxLong n m 0x0205 (fun s p =>
      let r := bytesAt p 0 1
      [(!ownsRegion s n r, 0x25), (frameRegion s (bytesAt p 4 4) != some r, 0x12), noWindow s n (bytesAt p 8 8) 576 true])
    regionArg noAct [] s)

/-- FULL_LOAD. -/
def execFullLoad (n : Fin 16) (m : Fin 2) (s : State) : Host.Outcome State Fault Refusal :=
  done (shxLong n m 0x0206 (fun s p =>
      [notOwner s n, (s.flag F.CFG_PINS.DONE 0, 0x32), noWindow s n (bytesAt p 8 8) (bytesAt p 16 8) false])
    (fun _ => []) (fun _ _ => some (9, 0)) [] s)

/-! ### Engines -/

/-- The set that a command names. -/
def setArg (p : List Byte) : List ShxObj := [.set (bytesAt p 0 1)]

/-- A set is busy with a long operation. -/
def setBusy (s : State) (p : List Byte) : Bool × Nat := (objBusy s (.set (bytesAt p 0 1)), 0x30)

/-- A word for TMB_SETs_CFG. -/
def setCfgWord (valid tenant window : Nat) : Word :=
  putF F.TMB_SET_CFG.VALID valid (putF F.TMB_SET_CFG.TENANT tenant (putF F.TMB_SET_CFG.WINDOW window 0))

/-- A write of TMB_SETs_CFG and its REJECT. -/
def setCfgCmd (k : Nat) (v : Word) (s : State) : ShxEnd × State :=
  let s1 := setCfgWrite k v (s.off F.TMB_SET_CFG.REJECT k)
  (if s1.flag F.TMB_SET_CFG.REJECT k then devError 0 0 else okEnd [], s1)

/-- SET_CREATE. -/
def execSetCreate (n : Fin 16) (m : Fin 2) (s : State) : Host.Outcome State Fault Refusal :=
  done (shxShort n m 0x0300 (fun s p => [notOwner s n, (s.flag F.TMB_SET_CFG.VALID (bytesAt p 0 1), 0x32), setBusy s p]) (fun p s =>
    setCfgCmd (bytesAt p 0 1) (setCfgWord 1 (bytesAt p 1 1) (bytesAt p 2 1)) s) s)

/-- The engines of a SET_MEMBERS payload. -/
def enginesArg (p : List Byte) : List Nat := (List.range (bytesAt p 2 1)).map (fun j => bytesAt p (8 + 2 * j) 2)

/-- SET_MEMBERS. -/
def execSetMembers (n : Fin 16) (m : Fin 2) (s : State) : Host.Outcome State Fault Refusal :=
  done (shxLong n m 0x0301 (fun s p =>
      let k := bytesAt p 0 1
      let add := bytesAt p 1 1 == 0
      [notOwner s n, ((enginesArg p).any (fun e => cfgRefused s e k add || (!add && engineSet s e != some k)), 0x32)])
    (fun p => setArg p ++ (enginesArg p).map .engine) noAct [] s)

/-- SET_DELETE. -/
def execSetDelete (n : Fin 16) (m : Fin 2) (s : State) : Host.Outcome State Fault Refusal :=
  done (shxShort n m 0x0302 (fun s p =>
      let k := bytesAt p 0 1
      [notOwner s n, (!s.flag F.TMB_SET_CFG.VALID k || !(tmbMembers s k).isEmpty, 0x32), setBusy s p]) (fun p s =>
    let k := bytesAt p 0 1
    setCfgCmd k (setCfgWord 0 (s.rd F.TMB_SET_CFG.TENANT k) (s.rd F.TMB_SET_CFG.WINDOW k)) s) s)

/-- Exactly n bytes: what the host memory returned. -/
def fitBytes (n : Nat) (l : List Byte) : List Byte := (l ++ List.replicate n 0).take n

/-- SET_LOAD: `dimg` and `pimg` are what host memory holds at DADDR and PADDR. -/
def execSetLoad (n : Fin 16) (m : Fin 2) (dimg pimg : List Byte) (s : State) : Host.Outcome State Fault Refusal :=
  let p := cmdPayload s n m
  done (shxLong n m 0x0303 (fun s p =>
      [(!ownsSet s n (bytesAt p 0 1), 0x25), noWindow s n (bytesAt p 8 8) (bytesAt p 16 4) false,
        noWindow s n (bytesAt p 24 8) (bytesAt p 32 4) false])
    setArg noAct (fitBytes (bytesAt p 16 4) dimg ++ fitBytes (bytesAt p 32 4) pimg) s)

/-- JOB_START. -/
def execJobStart (n : Fin 16) (m : Fin 2) (s : State) : Host.Outcome State Fault Refusal :=
  done (shxLong n m 0x0304 (fun s p => [(!ownsSet s n (bytesAt p 0 1), 0x25), (jobRuns s (bytesAt p 0 1), 0x32)]) setArg noAct [] s)

/-- JOB_STOP: exempt from BUSY; without a running job it stops nothing. -/
def execJobStop (n : Fin 16) (m : Fin 2) (s : State) : Host.Outcome State Fault Refusal :=
  done (shxShort n m 0x0305 (fun s p => [(!ownsSet s n (bytesAt p 0 1), 0x25)]) (fun p s =>
    (okEnd [], if jobRuns s (bytesAt p 0 1) then endStopping (bytesAt p 0 1) 4 s else s)) s)

/-- SET_DOORBELL; a set that serves a window takes none (R215). -/
def execSetDoorbell (n : Fin 16) (m : Fin 2) (s : State) : Host.Outcome State Fault Refusal :=
  done (shxShort n m 0x0306 (fun s p => [(!ownsSet s n (bytesAt p 0 1), 0x25), setBusy s p]) (fun p s =>
    let k := bytesAt p 0 1
    (okEnd [], if s.flag F.TMB_SET_CFG.WINDOW k then s
      else (liveMembers s k).foldl (fun t e => t.modEng e keeperBell) s)) s)

/-- A write of TMB_TWw_CFG and its REJECT. -/
def windowCfgCmd (w : Nat) (v : Word) (s : State) : ShxEnd × State :=
  let s1 := windowCfgWrite w v (s.off F.TMB_TW_CFG.REJECT w)
  (if s1.flag F.TMB_TW_CFG.REJECT w then devError 0 0 else okEnd [], s1)

/-- WIN_BIND. -/
def execWinBind (n : Fin 16) (m : Fin 2) (s : State) : Host.Outcome State Fault Refusal :=
  done (shxShort n m 0x0307 (fun s p => [notOwner s n, (s.flag F.TMB_TW_CFG.EN (bytesAt p 0 1), 0x32)]) (fun p s =>
    let w := bytesAt p 0 1
    let b := bytesAt p 8 8
    let s1 := ((s.wr F.TMB_TW_BASE_LO.BASE w (b / 4096)).wr F.TMB_TW_BASE_HI.BASE w (b / 2 ^ 32)).wr F.TMB_TW_BOUND.BOUND w (bytesAt p 4 2)
    windowCfgCmd w (putF F.TMB_TW_CFG.EN 1 (putF F.TMB_TW_CFG.SET (bytesAt p 1 1) (putF F.TMB_TW_CFG.SIZE (bytesAt p 2 1) 0))) s1) s)

/-- WIN_UNBIND. -/
def execWinUnbind (n : Fin 16) (m : Fin 2) (s : State) : Host.Outcome State Fault Refusal :=
  done (shxShort n m 0x0308 (fun s _ => [notOwner s n]) (fun p s =>
    let w := bytesAt p 0 1
    windowCfgCmd w (putF F.TMB_TW_CFG.SET (s.rd F.TMB_TW_CFG.SET w) (putF F.TMB_TW_CFG.SIZE (s.rd F.TMB_TW_CFG.SIZE w) 0)) s) s)

/-- ENG_TEST: activity 7 of the engine. -/
def execEngTest (n : Fin 16) (m : Fin 2) (s : State) : Host.Outcome State Fault Refusal :=
  done (shxLong n m 0x0309 (fun s _ => [notOwner s n]) (fun p => [.engine (bytesAt p 0 2)]) (fun _ p => some (7, bytesAt p 0 2)) [] s)

/-! ### Events and completions -/

/-- CANCEL: a queued operation is removed and completes CANCELLED (R399). -/
def execCancel (n : Fin 16) (m : Fin 2) (s : State) : Host.Outcome State Fault Refusal :=
  done (shxShort n m 0x0400 (fun s p =>
      let st := handleState s n (bytesAt p 0 4)
      [(st == 0, 0x34), (st != 1, 0x32)]) (fun p s =>
    (okEnd [], match s.shx.ops.find? (fun o => o.handle == bytesAt p 0 4) with
      | some o => finishOp o ⟨0x03, 0, 0, []⟩ s
      | none => s)) s)

/-- EVT_ROUTE: a source that R417 allows the tenant is routed to a vector. -/
def execEvtRoute (n : Fin 16) (m : Fin 2) (s : State) : Host.Outcome State Fault Refusal :=
  done (shxShort n m 0x0401 (fun s p => [(!tenantRowAdmits s (bytesAt p 0 2) n (bytesAt p 2 1), 0x25)]) (fun p s =>
    let k := bytesAt p 0 2
    (okEnd [], evcSrcWrite k (putF F.EVC_SRC.TKIND 1 (putF F.EVC_SRC.TENANT n (putF F.EVC_SRC.VECTOR (bytesAt p 2 1)
      (putF F.EVC_SRC.EN (bytesAt p 3 1) (s.reg .EVC_SRC k))))) s)) s)

/-- WAKE_CTL. -/
def execWakeCtl (n : Fin 16) (m : Fin 2) (s : State) : Host.Outcome State Fault Refusal :=
  done (shxShort n m 0x0402 noChecks (fun p s => (okEnd [], s.wr F.EVC_TCH.WAKEEN n (bytesAt p 0 1))) s)

/-! ### Maintenance -/

/-- LANE_RESTORE: activity 6 of the head. -/
def execLaneRestore (n : Fin 16) (m : Fin 2) (s : State) : Host.Outcome State Fault Refusal :=
  done (shxLong n m 0x0500 noChecks (fun _ => [.head n]) (fun _ _ => some (6, n.val)) [] s)

/-- RETRAIN: the head must be Up. -/
def execRetrain (n : Fin 16) (m : Fin 2) (s : State) : Host.Outcome State Fault Refusal :=
  done (shxLong n m 0x0501 (fun s _ => [(!headUp s n, 0x33)]) (fun _ => [.head n]) (fun _ _ => some (6, n.val)) [] s)

/-- SCRUB_PASS. -/
def execScrubPass (n : Fin 16) (m : Fin 2) (s : State) : Host.Outcome State Fault Refusal :=
  done (shxLong n m 0x0502 (fun s _ => [notOwner s n]) (fun p => [.pass (bytesAt p 0 1) (bytesAt p 1 1)]) noAct [] s)

/-- DRAM_RATE: activity 4 of the channels. -/
def execDramRate (n : Fin 16) (m : Fin 2) (s : State) : Host.Outcome State Fault Refusal :=
  done (shxLong n m 0x0503 (fun s _ => [notOwner s n])
    (fun p => ((List.range 12).filter (fun c => nbit (bytesAt p 0 2) c)).map .channel) (fun _ p => some (4, bytesAt p 0 2)) [] s)

/-- TENANT_RESET: OK when the reset begins; STATE while another runs. -/
def execTenantReset (n : Fin 16) (m : Fin 2) (s : State) : Host.Outcome State Fault Refusal :=
  done (shxShort n m 0x0504 (fun s p =>
      [(bytesAt p 0 1 != n.val && n.val != deviceOwner s, 0x24), (s.flag F.PWR_TRST_STAT.BUSY 0, 0x32)]) (fun p s =>
    (okEnd [], trstCmdWrite (putF F.PWR_TRST_CMD.TENANT (bytesAt p 0 1) (putF F.PWR_TRST_CMD.GO 1 0)) s)) s)

/-- What DONE will bring with the command of mailbox m. -/
def atDone (n m : Nat) (owner : Option Nat) (reset : Bool) (s : State) : State := setTaken n m (some ⟨.ready, owner, reset⟩) s

/-- DEVICE_RESET. -/
def execDeviceReset (n : Fin 16) (m : Fin 2) (s : State) : Host.Outcome State Fault Refusal :=
  done (shxShort n m 0x0505 (fun s _ => [notOwner s n]) (fun _ s => (okEnd [], atDone n m none true s)) s)

/-! ### Keys and policy -/

/-- KEY_INSTALL_OWNER: only while the owner has no key (R404). -/
def execKeyInstallOwner (n : Fin 16) (m : Fin 2) (s : State) : Host.Outcome State Fault Refusal :=
  done (shxShort n m 0x0600 (fun s _ => [notOwner s n, ((cmdKey s n).isSome, 0x32)]) (fun p s => (okEnd [], setKey n (some p) s)) s)

/-- A key wrapped under the sender's command key; none where the wrap fails (R404). -/
def unwrapped (s : State) (n : Nat) (l : List Byte) : Option (List Byte) := (cmdKey s n).bind (fun k => Config.unwrapKey k l)

/-- KEY_SET. -/
def execKeySet (n : Fin 16) (m : Fin 2) (s : State) : Host.Outcome State Fault Refusal :=
  done (shxShort n m 0x0601 (fun s p =>
      [notOwner s n, ((cmdKey s (bytesAt p 0 1)).isSome, 0x32), ((unwrapped s n (p.drop 8)).isNone, 0x12)]) (fun p s =>
    (okEnd [], setKey (bytesAt p 0 1) (unwrapped s n (p.drop 8)) s)) s)

/-- KEY_REPLACE. -/
def execKeyReplace (n : Fin 16) (m : Fin 2) (s : State) : Host.Outcome State Fault Refusal :=
  done (shxShort n m 0x0602 (fun s p => [((unwrapped s n p).isNone, 0x12)]) (fun p s => (okEnd [], setKey n (unwrapped s n p) s)) s)

/-- KEY_ERASE. -/
def execKeyErase (n : Fin 16) (m : Fin 2) (s : State) : Host.Outcome State Fault Refusal :=
  done (shxShort n m 0x0603 (fun s _ => [notOwner s n]) (fun p s => (okEnd [], setKey (bytesAt p 0 1) none s)) s)

/-- IMGKEY_HASH. -/
def execImgkeyHash (n : Fin 16) (m : Fin 2) (s : State) : Host.Outcome State Fault Refusal :=
  done (shxShort n m 0x0604 (fun s _ => [(tkhLocked s n, 0x30)]) (fun p s =>
    (okEnd [], (List.range 12).foldl (fun t k => t.setReg .CFG_TKH (12 * n + k) (BitVec.ofNat 32 (bytesAt p (4 * k) 4))) s)) s)

/-- IMGKEY_DEC. -/
def execImgkeyDec (n : Fin 16) (m : Fin 2) (s : State) : Host.Outcome State Fault Refusal :=
  done (shxShort n m 0x0605 (fun s p => [((unwrapped s n p).isNone, 0x12)]) (fun p s =>
    let key := (unwrapped s n p).getD []
    (okEnd [], { s with cfg := { s.cfg with
      tek := (List.range 8).foldl (fun l k => sset 0 l (8 * n + k) (BitVec.ofNat 32 (bytesAt key (4 * k) 4))) s.cfg.tek } })) s)

/-- OWNER_CHANGE: effective at DONE (R405). -/
def execOwnerChange (n : Fin 16) (m : Fin 2) (s : State) : Host.Outcome State Fault Refusal :=
  done (shxShort n m 0x0606 (fun s p => [notOwner s n, ((cmdKey s (bytesAt p 0 1)).isNone, 0x32)]) (fun p s =>
    (okEnd [], atDone n m (some (bytesAt p 0 1)) false s)) s)

/-- The checks of an image update. -/
def imageUpdateChecks (n : Nat) (s : State) (p : List Byte) : List (Bool × Nat) :=
  [notOwner s n, noWindow s n (bytesAt p 8 8) (bytesAt p 16 8) false]

/-- POLICY_UPDATE: `img` is what host memory holds at ADDR. -/
def execPolicyUpdate (n : Fin 16) (m : Fin 2) (img : List Byte) (s : State) : Host.Outcome State Fault Refusal :=
  done (shxLong n m 0x0607 (imageUpdateChecks n) (fun p => [.flash (bytesAt p 0 1) 0]) noAct img s)

/-- FW_UPDATE. -/
def execFwUpdate (n : Fin 16) (m : Fin 2) (img : List Byte) (s : State) : Host.Outcome State Fault Refusal :=
  done (shxLong n m 0x0608 (imageUpdateChecks n) (fun p => [.flash (bytesAt p 0 1) 1]) noAct img s)

/-! ### Board and GPIO -/

/-- A pin that the fabric owns serves no command. -/
def fabricPin (s : State) (i : Nat) : Bool × Nat := (pinOwner s i == 5, 0x32)

/-- The tenants that may read, and that may write, a pin. -/
def pinReaders (s : State) (i : Nat) : Nat := sget 0 s.shx.readers i

/-- The tenants that may write a pin. -/
def pinWriters (s : State) (i : Nat) : Nat := sget 0 s.shx.writers i

/-- PIN_GRANT. -/
def execPinGrant (n : Fin 16) (m : Fin 2) (s : State) : Host.Outcome State Fault Refusal :=
  done (shxShort n m 0x0700 (fun s p => [notOwner s n, fabricPin s (bytesAt p 0 1)]) (fun p s =>
    (okEnd [], { s with shx := { s.shx with
      readers := sset 0 s.shx.readers (bytesAt p 0 1) (bytesAt p 2 2)
      writers := sset 0 s.shx.writers (bytesAt p 0 1) (bytesAt p 4 2) } })) s)

/-- PIN_READ. -/
def execPinRead (n : Fin 16) (m : Fin 2) (s : State) : Host.Outcome State Fault Refusal :=
  done (shxShort n m 0x0701 (fun s p => [(!nbit (pinReaders s (bytesAt p 0 1)) n, 0x25), fabricPin s (bytesAt p 0 1)]) (fun p s =>
    (okEnd (natBytes 1 (b2n (padLevel s (bytesAt p 0 1)))), s)) s)

/-- PIN_WRITE: the pin is driven; STATE where a mapped output drives it already (R462). -/
def execPinWrite (n : Fin 16) (m : Fin 2) (s : State) : Host.Outcome State Fault Refusal :=
  done (shxShort n m 0x0702 (fun s p =>
      let i := bytesAt p 0 1
      [(!nbit (pinWriters s i) n, 0x25), fabricPin s i, (!(mappedOuts s i).isEmpty, 0x32)]) (fun p s =>
    (okEnd [], linesSee ((s.wr F.MGP_PIN.OUT (bytesAt p 0 1) (bytesAt p 1 1)).on F.MGP_PIN.OE (bytesAt p 0 1)))) s)

/-- Access to an I2C bus through its pins: every pin granted for reading where bytes are read, and for writing otherwise. -/
def busGranted (s : State) (n : Nat) (p : List Byte) : Bool :=
  let pins := mapPins s (2 * bytesAt p 0 1) 2
  !pins.isEmpty && pins.all (fun i =>
    (bytesAt p 3 1 == 0 || nbit (pinReaders s i) n) && ((bytesAt p 2 1 == 0 && bytesAt p 3 1 != 0) || nbit (pinWriters s i) n))

/-- I2C_XFER. -/
def execI2cXfer (n : Fin 16) (m : Fin 2) (s : State) : Host.Outcome State Fault Refusal :=
  done (shxLong n m 0x0703 (fun s p =>
      let b := bytesAt p 0 1
      [(!busGranted s n p, 0x25), ((mapPins s (2 * b) 2).any (fun i => pinOwner s i == 5) || !s.flag F.MGP_I2CCTL.EN b, 0x32),
        noWindow s n (bytesAt p 8 8) (bytesAt p 3 1) true])
    (fun p => [.bus (bytesAt p 0 1)]) noAct [] s)

/-- SENSORS. -/
def execSensors (n : Fin 16) (m : Fin 2) (s : State) : Host.Outcome State Fault Refusal :=
  done (shxShort n m 0x0704 noChecks (fun _ s =>
    (okEnd ((List.range 16).flatMap (fun k => natBytes 2 (s.reg .WRD_TSENS k).toNat) ++ natBytes 4 (s.reg .WRD_PWRSTAT 0).toNat), s)) s)

/-! ### Diagnostics -/

/-- LINK_STATS: the Keeper firmware reads the counters, which the read clears (R10). -/
def execLinkStats (n : Fin 16) (m : Fin 2) (s : State) : Host.Outcome State Fault Refusal :=
  done (shxShort n m 0x0800 noChecks (fun _ s =>
    let regs : List (RegName × Nat) := [(.LNK_HATT, n.val), (.LNK_HREC, n.val), (.LNK_HFEC, n.val), (.LNK_HREPLAY, n.val)] ++
      (headLanes s n).map (fun g => (RegName.LNK_LERR, g))
    (okEnd (regs.flatMap (fun r => natBytes 4 (s.reg r.1 r.2).toNat)), regs.foldl (fun t r => t.setReg r.1 r.2 0) s)) s)

/-- LANE_LOOPBACK. -/
def execLaneLoopback (n : Fin 16) (m : Fin 2) (s : State) : Host.Outcome State Fault Refusal :=
  done (shxLong n m 0x0801 noChecks (fun _ => [.head n]) noAct [] s)

/-- LOOPBACK_TIME_EXPIRY: TIME has passed. -/
def execLoopbackTimeExpiry (n : Fin 16) (s : State) : Host.Outcome State Fault Refusal :=
  done (match s.shx.ops.find? (fun o => o.opcode == 0x0801 && o.started && o.tenant == n.val) with
    | some o => guarded (s.expired o.at_ (1000000 * o.arg 8 4)) s (fun s => opAfter o (loopbackEnd o s))
    | none => s)

end Sys2Proof.Machine
end

