-- ==== Sys2Proof/Machine/RegAccess.lean ====
section
/-! DEFINITION. The register space: which register an address names, what a read of it returns, and what a write of it does, with
the commands REGISTER_WRITE, CLEARING_READ, REG_READ and REG_WRITE (R6–R11, R83, R481). -/

namespace Sys2Proof.Machine
open Sys2Proof

/-! ### Addresses -/

/-- How many copies of a register the map has; a control register of the engines has one per engine, and JARG four. -/
def regCopies (r : RegName) : Nat :=
  match ((List.range 16).flatMap blockRows).find? (fun row => row.reg == r) with
  | some row => row.copies
  | none => 4 * 512

/-- The engine and the number of an engine control register (R167, R211). -/
def crOf (r : RegName) (i : Nat) : Option (Nat × Nat) :=
  match r with
  | .CR_STATUS => some (i, 0x00)
  | .CR_EVT => some (i, 0x01)
  | .CR_EVMASK => some (i, 0x02)
  | .CR_HVEC => some (i, 0x03)
  | .CR_EPC => some (i, 0x04)
  | .CR_NOUT => some (i, 0x05)
  | .CR_NLOG => some (i, 0x06)
  | .CR_SSTAT => some (i, 0x07)
  | .CR_SEVSEL => some (i, 0x08)
  | .CR_CYC => some (i, 0x09)
  | .CR_TCMP => some (i, 0x0A)
  | .CR_ENGID => some (i, 0x0B)
  | .CR_JARG => some (i / 4, 0x10 + i % 4)
  | .CR_JINFO => some (i, 0x14)
  | .CR_DBCAUSE => some (i, 0x15)
  | .CR_DBADDR => some (i, 0x16)
  | .CR_WOFF_LO => some (i, 0x17)
  | .CR_WOFF_HI => some (i, 0x18)
  | .CR_WRSP => some (i, 0x19)
  | .CR_WSTAT => some (i, 0x1A)
  | .TMB_CR => some (i / 32, i % 32)
  | _ => none

/-! ### What a read shows -/

/-- The word of the 32 sources from 32 k that are in a state. -/
def srcWord (s : State) (k : Nat) (st : SrcState) : Word :=
  (List.range 32).foldl (fun w j => setF w j 1 (b2n ((s.src (32 * k + j)).st == st))) 0

/-- The selected entry of a channel's remap tables (R303). -/
def ddrRmpView (s : State) (n : Nat) : Word × Word :=
  let k := s.rd F.DDR_RMP_SEL.ENTRY n
  let show_ (line by_ : Nat) (copying : Bool) : Word × Word :=
    (BitVec.ofNat 32 line, setF (setF (setF (setF 0 0 1 (line / 2 ^ 32)) 28 2 by_) 30 1 (b2n copying)) 31 1 1)
  if s.rd F.DDR_RMP_SEL.TABLE n = 0 then
    match (s.chan n).lineMap[k]? with
    | some e => show_ e.line e.by_ false
    | none => (0, 0)
  else
    match (s.chan n).rowMap[k]? with
    | some e => show_ e.first e.by_ e.copying
    | none => (0, 0)

/-- EVC_CSTATc: current priority, sleep, halt, offer and pairing. -/
def cstatView (s : State) (c : Nat) : Word :=
  putF F.EVC_CSTAT.PAIRED (b2n (lockstep s (c / 2))) (putF F.EVC_CSTAT.OFFER (b2n (peek s c != 0x3FF))
    (putF F.EVC_CSTAT.HALT (b2n (coreStopped s c)) (putF F.EVC_CSTAT.CPRI (cpri s c) (s.reg .EVC_CSTAT c))))

/-- SHX_HSTAT of head n: the stored fields and the copies of R411. -/
def hstatView (s : State) (n : Nat) : Word :=
  putF F.SHX_HSTAT.FENCED (s.rd F.COH_HEAD.FENCED n) (putF F.SHX_HSTAT.OWNER (b2n (deviceOwner s == n))
    (putF F.SHX_HSTAT.FABRIC (s.rd F.CFG_PINS.DONE 0) (s.reg .SHX_HSTAT n)))

/-- The value a register shows, without any side effect of a read (R481). Fields the device computes are computed here. -/
def regView (r : RegName) (i : Nat) (s : State) : Word :=
  match crOf r i with
  | some (e, n) => crView s e n
  | none =>
    match r with
    | .CLK_SGATE => (List.range 32).foldl (fun w n => setF w n 1 (b2n (gateOpen s i n))) 0
    | .CLK_DTC_LO => BitVec.ofNat 32 s.dtcNow
    | .KRV_AP => putF F.KRV_AP.CLKOK (b2n (apClockOk s i)) (s.reg r i)
    | .MEM_SCR_STAT => setF (s.reg r i) 17 1 (b2n (scrubRuns s i))
    | .MEM_RMP_DATA => rmpData s
    | .TMB_STAT => tmbStatView s i
    | .TMB_PC => tmbPcView s i
    | .TMB_SET_INFO => setInfoView s i
    | .TMB_TW_CFG => windowCfgView s i
    | .LNK_PSTAT =>
      putF F.LNK_PSTAT.REFOK (b2n (lrefPresent s i))
        (putF F.LNK_PSTAT.PLLOCK (b2n (pllLock s i 0) + 2 * b2n (pllLock s i 1)) (s.reg r i))
    | .LNK_HCFG => if headExists s i then putF F.LNK_HCFG.EXISTS 1 (s.reg r i) else 0
    | .LNK_HCTL => if headExists s i then s.reg r i else 0
    | .LNK_HSTAT => if headExists s i then s.reg r i else 0
    | .LNK_HATT => if headExists s i then s.reg r i else 0
    | .LNK_HREC => if headExists s i then s.reg r i else 0
    | .LNK_HFEC => if headExists s i then s.reg r i else 0
    | .LNK_HREPLAY => if headExists s i then s.reg r i else 0
    | .LNK_HTHR => if headExists s i then s.reg r i else 0
    | .LNK_HEVT => if headExists s i then s.reg r i else 0
    | .LNK_HEVEN => if headExists s i then s.reg r i else 0
    | .LNK_LSTAT => putF F.LNK_LSTAT.CHARGES (recentCharges s i) (s.reg r i)
    | .DDR_RMP_DATA0 => (ddrRmpView s i).1
    | .DDR_RMP_DATA1 => (ddrRmpView s i).2
    | .DDR_DLY_DATA => sget 0 (s.chan i).dly ((dlySel s i).2 * 128 + (dlySel s i).1)
    | .DDR_RXEQ_DATA => sget 0 (s.chan i).rxeq (dlySel s i).1
    | .CFG_REV => cfgRevView
    | .SCB_PENT => scbPent s i
    | .KP_WDT_CNT => BitVec.ofNat 32 (wdtLeft s i)
    | .EVC_CLAIM => BitVec.ofNat 32 (peek s i)
    | .EVC_PEEK => BitVec.ofNat 32 (peek s i)
    | .EVC_CSTAT => cstatView s i
    | .EVC_PEND => srcWord s i .pending
    | .EVC_ACT => srcWord s i .active
    | .MGP_PIN => mgpPinView s i
    | .MGP_IN => mgpInView s i
    | .MGP_STAT => mgpStatView s
    | .MGP_UARTDATA => ((sget [] s.pin.rx i).headD 0).setWidth 32
    | .SHX_IDENT => putF F.SHX_IDENT.X8 (s.rd F.LNK_PCFG.X8X2 (i / 2)) (s.reg r i)
    | .SHX_HSTAT => hstatView s i
    | .SHX_OWNER => s.reg .SHX_OWNER 0
    | .SHX_HWIN => s.reg .WRD_HWIN i
    | .SHX_GRANTV => s.reg .WRD_GRANT i
    | .SHX_VBY => s.reg .COH_VBY i
    | .SHX_VON => s.reg .COH_VON i
    | .SHX_WVIO => s.reg .WRD_VIO i
    | .SHX_HF => s.reg .SCB_HF i
    | .SHX_UNR => s.reg .SCB_UNR i
    | .SHX_HFS => if deviceOwner s = i then s.reg .SCB_HFS 0 else 0
    | .SHX_UNRS => if deviceOwner s = i then s.reg .SCB_UNRS 0 else 0
    | .KH_SES => sesView s
    | .KH_TMB_STAT => khTmbView s
    | _ => s.reg r i

/-! ### Reads -/

/-- A register of the KH block by its offset there (R487). -/
def khOffset (r : RegName) (i : Nat) : Option Nat :=
  (regRowsKH.find? (fun row => row.reg == r)).map (fun row => row.off + i * (row.dims.map (·.2)).headD 0)

/-- The KH registers the Keeper firmware reads (R487). -/
def keeperReadsKh (r : RegName) : Bool :=
  r == .KH_ID || r == .KH_SES || r == .KH_STAT || r == .KH_VT_RX || r == .KH_VT_STAT || r == .KH_VT_EN

/-- The register belongs to the frame of head n, by its copy number. -/
def shxHead (r : RegName) (i : Nat) : Option Nat :=
  (regRowsSHX.find? (fun row => row.reg == r)).map (fun row => i / (row.copies / 16))

/-- The value a read returns and the state after it, with the side effects of a read: an RC field clears, `same` being what the device
sets in the same access cycle (R9, R10); EVC_CLAIM claims, CLK_DTC_LO takes a copy, MGP_UARTDATA dequeues. -/
def readEffect (same : Word) (r : RegName) (i : Nat) (s : State) : Word × State :=
  match r with
  | .EVC_CLAIM => let (n, t) := claim i s; (BitVec.ofNat 32 n, t)
  | .CLK_DTC_LO => (regView r i s, dtcLoRead s)
  | .MGP_UARTDATA => (regView r i s, uartGet i s)
  | _ =>
    let v := regView r i s
    (v, if (crOf r i).isSome then s else s.setReg r i (clearRC same (regFields r i) (s.reg r i)))

/-- A KH register read by a debug access, where the session's level admits it (R480, R487). -/
def khDebugRead (off : Nat) (s : State) : Word × State :=
  if khOpen s ∧ khNeeds false off ≤ khLevelNow s then khGet off s else (0, s)

/-- A read of copy i of a register by an actor: the value and what follows (R411, R481, R487). -/
def readReg (a : Actor) (same : Word) (r : RegName) (i : Nat) (s : State) : Word × State :=
  match a, khOffset r i, shxHead r i with
  | .host n, _, some h =>
    if h ≠ n.val ∨ !headExists s n then (0, s)
    else match r with
      | .SHX_MB_RSP => (if s.rd F.SHX_MB_STAT.STATE (i / 64) = 3 then s.reg r i else 0, s)
      | _ => (regView r i s, s)
  | .host _, _, none => (0, s)
  | .debugger, some off, _ => khDebugRead off s
  | .debugger, none, _ =>
    match r with
    | .CLK_DTC_LO => readEffect same r i s
    | .MGP_UARTDATA => readEffect same r i s
    | _ => (regView r i s, s)
  | _, some _, _ =>
    if keeperReadsKh r then (match r with | .KH_VT_RX => vtRxRead s | _ => (regView r i s, s)) else (0, s)
  | _, none, _ => readEffect same r i s

/-! ### Writes -/

/-- The encoding `x` of the field from bit `lo` is not reserved (R8); `v` is the whole word written. -/
def writeLegal (s : State) (r : RegName) (i : Nat) (v : Word) (lo x : Nat) : Bool :=
  match r with
  | .KRV_KNK_THR => decide (1 ≤ x)
  | .MEM_SCR_PERIOD => decide (1 ≤ x)
  | .LNK_TMO => decide (10 ≤ x) && decide (x ≤ 1000)
  | .COH_BITMO => decide (10 ≤ x)
  | .COH_XM_DATA2 => decide (1 ≤ x) && decide (x ≤ 32768)
  | .DDR_CFG => !((lo == 0 || lo == 8) && x == 3)
  | .DDR_CTL => !(lo == 1 && s.flag F.DDR_CTL.INSERVICE i)
  | .DDR_ILV => !(lo == 4 && decide (6 ≤ x))
  | .DDR_SCHED =>
    if lo = 16 then decide (16 ≤ x)
    else
      let hi := F.DDR_SCHED.WHI.of v
      let hi' := if 2 ≤ hi ∧ hi ≤ 64 then hi else s.rd F.DDR_SCHED.WHI i
      decide (F.DDR_SCHED.WLO.of v < hi') && (lo != 0 || (decide (2 ≤ x) && decide (x ≤ 64)))
  | .DDR_PAT_CTL => lo != 16 || decide (1 ≤ x)
  | .DDR_ECC_CTL => if lo = 0 then decide (1 ≤ x) else if lo = 8 then decide (2 ≤ x) else true
  | .DDR_RMP_SEL => lo != 8 || F.DDR_RMP_SEL.TABLE.of v == 1 || decide (x < 32)
  | .DDR_DLY_SEL => lo != 0 || decide (x < 128)
  | .CFG_LDTMO => decide (1 ≤ x)
  | .SCB_FIXTMO => decide (1 ≤ x)
  | .KP_WDT_TMO => decide (10 ≤ x)
  | .WRD_GRTMO => decide (1 ≤ x)
  | .WRD_THERM => decide (70 ≤ x) && decide (x ≤ 105)
  | .WRD_PWR => decide (100 ≤ x) && decide (x ≤ 480)
  | .WRD_MSG => decide (1 ≤ x)
  | .PWR_MODE_TMO => decide (1 ≤ x)
  | .PWR_MODE_CHAN => s.rd F.PWR_MODE_STAT.STATE 0 == 0
  | .PWR_DOM_TGT => s.rd F.PWR_MODE_STAT.STATE 0 == 0
  | .MGP_I2CCTL => !(lo == 1 && x == 3)
  | .MGP_UARTCTL => lo != 8 || decide (1 ≤ x)
  | _ => true

/-- The seal named for an RWL register is set (R290, R368). -/
def writeSealed (s : State) (r : RegName) : Bool :=
  match r with
  | .DDR_CFG => ilvSealed s
  | .DDR_ILV => ilvSealed s
  | .DDR_ILVBASE => ilvSealed s
  | .CLK_ROOT_CFG => s.flag F.CLK_ROOT_CFG.SEALED 0
  | _ => s.flag F.WRD_STAT.SEALED 0

/-- A write that takes effect field by field under the access codes (R9). -/
def fieldWrite (keeperSide : Bool) (r : RegName) (i : Nat) (v : Word) (s : State) : State :=
  s.setReg r i (writeFields keeperSide (writeSealed s r) (writeLegal s r i v) v (regFields r i) (s.reg r i))

/-- A write of CFG_CMDL: OP 1 LOAD, or with FULL on leaf 0 a full load, from flash where the boot mode has one (log entry 26); 2 CLEAR;
3 ABORT (R340–R342). -/
def cfgCmdWrite (l : Nat) (v : Word) (s : State) : State :=
  let op := getF v 0 3
  let r := getF v 4 6
  if op = 1 then (if getF v 10 1 = 1 ∧ l = 0 then cfgLoadFull (noFullFlash s) s else cfgLoad l r s)
  else if op = 2 then cfgClear l r s
  else if op = 3 then trstAdvance (cfgAbort l s)
  else s

/-- A write of TMB_CTLe: stop, self-test, restore. -/
def tmbCtlBits (e : Nat) (v : Word) (s : State) : State :=
  let s1 := if getF v 0 1 = 1 then stopGo e s else s
  let s2 := if getF v 1 1 = 1 then selfTestGo e s1 else s1
  if getF v 2 1 = 1 then restoreGo e s2 else s2

/-- A write of TMB_TWw's base or bound, ignored while the window is enabled (R214). -/
def windowFieldWrite (r : RegName) (w : Nat) (v : Word) (s : State) : State :=
  if s.flag F.TMB_TW_CFG.EN w then s else fieldWrite true r w v s

/-- A write of DDR_HOLD_CTLn: the end of a training hold, and the start of a hold (R307, R309). -/
def holdWriteCtl (n : Nat) (v : Word) (s : State) : State :=
  let s1 := if F.DDR_HOLD_CTL.DONE.of v = 1 then holdDone n s else s
  if F.DDR_HOLD_CTL.GO.of v = 1 then holdGo n (F.DDR_HOLD_CTL.KIND.of v) s1 else s1

/-- A write of DDR_CTLn: its fields, and INSERVICE where it asks for service (R307). -/
def ddrCtlWrite (n : Nat) (v : Word) (s : State) : State :=
  let w := setF (setF (setF (s.reg .DDR_CTL n) 0 1 (getF v 0 1)) 2 1 (getF v 2 1)) 8 8 (getF v 8 8)
  let s1 := s.setReg .DDR_CTL n (if s.flag F.DDR_CTL.INSERVICE n then w else setF w 1 1 (getF v 1 1))
  if F.DDR_CTL.INSERVICE.of v = 1 then inserviceWrite n s1 else s1

/-- A write of DDR_ILVn: its fields, then the seal where it asks for it (R290). -/
def ddrIlvWrite (n : Nat) (v : Word) (s : State) : State :=
  let s1 := fieldWrite true .DDR_ILV n (setF v 31 1 0) s
  if F.DDR_ILV.SEAL.of v = 1 then sealIlv s1 else s1

/-- A write of SCB_FIXCMDL: GO with the supplied frame, or the entry given up (R355, R356). -/
def fixCmdWrite (l : Nat) (v : Word) (s : State) : State :=
  let f := getF v 0 19
  let s1 := if getF v 31 1 = 1 then fixGo l f s else s
  if getF v 30 1 = 1 then fixGiveUp l f s1 else s1

/-- A write of SHX_MBm_DB from the host: RING and ACK; from the Keeper side: TAKE and DONE (R387, R388). -/
def mbDbWrite (host : Bool) (n m : Nat) (v : Word) (s : State) : State :=
  if host then
    let s1 := if F.SHX_MB_DB.RING.of v = 1 then mbRing n m s else s
    if F.SHX_MB_DB.ACK.of v = 1 then mbAck n m s1 else s1
  else
    let s1 := if F.SHX_MB_DB.TAKE.of v = 1 then mbTake n m s else s
    if F.SHX_MB_DB.DONE.of v = 1 then mbDoneWrite n m s1 else s1

/-- A host's write of a word of its MSI-X table: the address is a multiple of 4, and of the control word only the mask is held; a vector
that is unmasked with its pending bit set sends its message (R421). -/
def msixWrite (i : Nat) (v : Word) (s : State) : State :=
  let n := i / 128
  let vec := i / 4 % 32
  if i % 4 = 0 then s.setReg .SHX_MSIX i (v &&& ~~~3#32)
  else if i % 4 = 3 then
    let s1 := s.setReg .SHX_MSIX i (v &&& 1#32)
    if !msixMasked s1 n vec && nbit (s1.rd F.SHX_MSIX_PBA.VALUE n) vec then issueMsix n vec (s1.wrBit F.SHX_MSIX_PBA.VALUE n vec false)
    else s1
  else s.setReg .SHX_MSIX i v

/-- A write of SHX copy i by the host of its head (R411). -/
def hostWrite (r : RegName) (i n : Nat) (v : Word) (s : State) : State :=
  match r with
  | .SHX_MB_DB => mbDbWrite true n (i % 2) v s
  | .SHX_MB_CMD => if s.rd F.SHX_MB_STAT.STATE (i / 64) = 0 then s.setReg r i v else s
  | .SHX_CR_BASE_LO => if s.flag F.SHX_CR_CTL.EN n then s else fieldWrite false r i v s
  | .SHX_CR_BASE_HI => if s.flag F.SHX_CR_CTL.EN n then s else fieldWrite false r i v s
  | .SHX_CR_CTL => crCtlWrite n v s
  | .SHX_CR_HEAD => crHeadWrite n v s
  | .SHX_HWIN => hwinWrite n (i / 3 % 16) (i % 3) v s
  | .SHX_GRANT => armGrant n v s
  | .SHX_MSIX => msixWrite i v s
  | _ => fieldWrite false r i v s

/-- A write of a SHX register from the Keeper side (R388, R411). -/
def keeperShxWrite (r : RegName) (i : Nat) (v : Word) (s : State) : State :=
  match r with
  | .SHX_OWNER => fieldWrite true r 0 v s
  | .SHX_MB_DB => mbDbWrite false (i / 2) (i % 2) v s
  | .SHX_MB_RSP => if s.rd F.SHX_MB_STAT.STATE (i / 64) = 2 then s.setReg r i v else s
  | .SHX_MB_CMD => s
  | .SHX_HWIN => s
  | .SHX_GRANT => s
  | .SHX_MSIX => s
  | _ => fieldWrite true r i v s

/-- A write of a peripheral's own register, from a source that R461 admits. -/
def periphWrite (a : Actor) (first count : Nat) (f : State → State) (s : State) : State :=
  if periphAdmits s a first count then f s else s

/-- A write of a management register (R379, R461). -/
def mgpWrite (a : Actor) (r : RegName) (i : Nat) (v : Word) (s : State) : State :=
  match r with
  | .MGP_PIN => pinGuard a [i] (pinDrive i v) s
  | .MGP_MAP => mapWrite a i v s
  | .MGP_EVL => evlWrite a i v s
  | .MGP_EVSTAT => evstatWrite v s
  | .MGP_I2CCTL => periphWrite a (2 * i) 2 (fieldWrite true r i v) s
  | .MGP_I2CCMD => periphWrite a (2 * i) 2 (i2cGo i v) s
  | .MGP_I2CSTAT => periphWrite a (2 * i) 2 (fieldWrite true r i v) s
  | .MGP_I2CDATA => periphWrite a (2 * (i / 4)) 2 (fieldWrite true r i v) s
  | .MGP_UARTCTL => periphWrite a (8 + 4 * i) 4 (fieldWrite true r i v) s
  | .MGP_UARTDATA => periphWrite a (8 + 4 * i) 4 (uartPut i v) s
  | .MGP_UARTSTAT => periphWrite a (8 + 4 * i) 4 (fieldWrite true r i v) s
  | .MGP_SPICTL => periphWrite a (16 + 5 * i) 5 (fieldWrite true r i v) s
  | .MGP_SPIDATA => periphWrite a (16 + 5 * i) 5 (spiPut i v) s
  | .MGP_PWM => periphWrite a (26 + i) 1 (fieldWrite true r i v) s
  | _ => s

/-- A write of a register that has its own rule, from the Keeper side; the others take effect field by field. -/
def keeperWrite (r : RegName) (i : Nat) (v : Word) (s : State) : State :=
  match r with
  | .CLK_ROOT_CFG => rootCfgWrite v s
  | .CLK_KCK_CTL => swCtlWrite .kck v s
  | .CLK_CCK_CTL => swCtlWrite .cck v s
  | .CLK_FCK => if h : i < 32 then divWrite (.fck ⟨i, h⟩) v s else s
  | .CLK_ECK => if h : i < 4 then divWrite (.eck ⟨i, h⟩) v s else s
  | .CLK_MCK => if h : i < 12 then divWrite (.mck ⟨i, h⟩) v s else s
  | .KRV_TMO => tmoWrite v s
  | .KRV_KNK_SPARE => if F.KRV_KNK_SPARE.RESTORE.of v = 1 then knuckleRestore i s else s
  | .MEM_LOG_CTL => memLogPop i v s
  | .MEM_RMP_SEL => rmpSelWrite v s
  | .MEM_RMP_CMD => rmpCmd v s
  | .TMB_CFG => tmbCfgWrite i v s
  | .TMB_STAT => fieldWrite true r i v s
  | .TMB_CTL => tmbCtlBits i v s
  | .TMB_SET_CFG => setCfgWrite i v s
  | .TMB_SET_JOB => setJobWrite i v s
  | .TMB_SET_STOP => setStopWrite i v s
  | .TMB_SET_DB => setDbWrite i v s
  | .TMB_TW_CFG => windowCfgWrite i v s
  | .TMB_TW_BASE_LO => windowFieldWrite r i v s
  | .TMB_TW_BASE_HI => windowFieldWrite r i v s
  | .TMB_TW_BOUND => windowFieldWrite r i v s
  | .LNK_RET => retWrite i v s
  | .LNK_HCTL => if headExists s i then hctlWrite i v s else s
  | .LNK_HTHR => if headExists s i then fieldWrite true r i v s else s
  | .LNK_HEVT => if headExists s i then fieldWrite true r i v s else s
  | .LNK_HEVEN => if headExists s i then fieldWrite true r i v s else s
  | .LNK_LLB => llbWrite i v s
  | .COH_PT_CMD => ptCmd v s
  | .COH_XM_CMD => xmCmd v s
  | .COH_VLOG_CTL => vlogPop v s
  | .DDR_CFG => showMapCap i (fieldWrite true r i v s)
  | .DDR_CTL => ddrCtlWrite i v s
  | .DDR_ILV => ddrIlvWrite i v s
  | .DDR_HOLD_CTL => holdWriteCtl i v s
  | .DDR_RMP_CMD => ddrRemapAdd i v s
  | .DDR_TIM_SHCTL => if F.DDR_TIM_SHCTL.VALID.of v = 1 then shadowValid i s else s.off F.DDR_TIM_SHCTL.VALID i
  | .DDR_TRN_CTL => trnCtlWrite i v [] s
  | .DDR_DLY_DATA => dlyWrite i v s
  | .DDR_RXEQ_DATA => rxeqWrite i v s
  | .DDR_MR_CMD => let (x, t) := s.fresh; mrCmd i v (BitVec.ofNat 8 x) t
  | .CFG_CMD => cfgCmdWrite i v s
  | .CFG_RGN_CFG => rgnCfgWrite i v s
  | .CFG_FRD_CMD => frameReadback v s
  | .CFG_TKH => if tkhLocked s (i / 12) then s else s.setReg r i v
  | .CFG_TEK => { s with cfg := { s.cfg with tek := sset 0 s.cfg.tek i v } }
  | .SCB_FIX_DATA => { s with cfg := { s.cfg with fix := sset 0 s.cfg.fix i v } }
  | .SCB_FIXCMD => fixCmdWrite i v s
  | .SCB_LOGCTL => scbLogPop i v s
  | .KP_WDT_CTL => wdtControl v s
  | .KP_WDT_KICK => kickWrite v s
  | .KP_DMA_DESC => let (x, t) := s.fresh; dmaStart i v x t
  | .WRD_LOGCTL => wardLogPop v s
  | .EVC_SWSET => evcSwset v s
  | .EVC_COMPLETE => complete i (F.EVC_COMPLETE.SOURCE.of v) s
  | .EVC_THR => evaluate (fieldWrite true r i v s)
  | .EVC_SRC => evcSrcWrite i v s
  | .PWR_RST_CTL => rstCtlWrite v s
  | .PWR_MODE_CTL => modeCtlWrite v s
  | .PWR_TRST_CMD => trstCmdWrite v s
  | .PWR_MNT_REQ => mntReqWrite v s
  | .PWR_MNT_DONE => mntDoneWrite v s
  | .KH_VT_TX => vtTxWrite v s
  | .KH_STAT => fieldWrite true r i v s
  | .KH_VT_STAT => fieldWrite true r i v s
  | .KH_VT_EN => fieldWrite true r i v s
  | _ => if (khOffset r i).isSome then s else fieldWrite true r i v s

/-- A write of copy i of a register by an actor (R9, R369, R379, R411, R487). -/
def writeReg (a : Actor) (r : RegName) (i : Nat) (v : Word) (s : State) : State :=
  match a, shxHead r i with
  | .host n, some h => if h = n.val ∧ headExists s n then hostWrite r i n v s else s
  | .host _, none => s
  | _, some _ => keeperShxWrite r i v s
  | _, none =>
    match crOf r i with
    | some (e, n) => crFromOutside e n v s
    | none =>
      if (regRowsMGP.any (fun row => row.reg == r)) then mgpWrite a r i v s
      else match a, khOffset r i with
        | .debugger, some off => khDebug off v s
        | _, _ => keeperWrite r i v s

/-! ### The rows -/

/-- REGISTER_WRITE. -/
def execRegisterWrite (actor : Actor) (r : RegName) (i : Nat) (v : Word) (s : State) : Host.Outcome State Fault Refusal :=
  done (guarded (decide (i < regCopies r)) s (writeReg actor r i v))

/-- CLEARING_READ: the read of an RC field, `same` being what the device sets in its bits in the same access cycle. -/
def execClearingRead (r : RegName) (i : Nat) (same : Word) (s : State) : Host.Outcome State Fault Refusal :=
  done (guarded (decide (i < regCopies r)) s (fun s =>
    let (v, t) := readReg (.keeper 0) same r i s
    { t with rdata := v }))

/-- Who sends a request, as the register hub sees it: the debug master by its tag, and a core or a DMA channel of the Keeper by the
request its source holds. -/
def hubActor (r : Req) (s : State) : Actor :=
  if r.tag = debugTag then .debugger
  else match outstOf s r.src r.txn with
    | some ⟨.core c, _, _, _⟩ => if h : c < 4 then .keeper ⟨c, h⟩ else .keeper 0
    | some ⟨.dma c, _, _, _⟩ => if h : c < 8 then .dma ⟨c, h⟩ else .keeper 0
    | _ => .keeper 0

/-- The offset of a register access from the start of the register space. -/
def regOffset (r : Req) : Nat := r.da - 0x0C0000000000

/-- A read at the register an offset names; an offset that names none reads 0. -/
def readAt (a : Actor) (at_ : Option (RegName × Nat)) (s : State) : Word × State :=
  match at_ with
  | some (g, i) => readReg a 0 g i s
  | none => (0, s)

/-- A write at the register an offset names; an offset that names none ignores it. -/
def writeAt (a : Actor) (at_ : Option (RegName × Nat)) (v : Word) (s : State) : State :=
  match at_ with
  | some (g, i) => writeReg a g i v s
  | none => s

/-- The row of a register. -/
def rowOf (rows : List RegRow) (r : RegName) : Option RegRow := rows.find? (fun row => row.reg == r)

/-- The unit that copy i of a register belongs to, where its first index counts `units` units; 0 for a register that has no such index. -/
def unitOf (row : RegRow) (units i : Nat) : Nat :=
  match row.dims with
  | (n, _) :: _ => if n = units then i / (row.copies / units) else 0
  | [] => 0

/-- The endpoint of the block that holds a register (R73): a channel's registers, a port's registers, a leaf's configuration controller
and its scrub scanner have their own, registers of no one leaf being L0's; every other block is reached at the hub (DEDUCED, safe: log
entry 211). -/
def blockEp (r : RegName) (i : Nat) : Nat :=
  match rowOf regRowsDDR r, rowOf regRowsLNK r, rowOf regRowsCFG r, rowOf regRowsSCB r with
  | some row, _, _, _ => chanRegEp (unitOf row 12 i)
  | _, some row, _, _ => portRegEp (unitOf row 8 i)
  | _, _, some row, _ => ctlEp (if r = .CFG_SECT then i / 80 else unitOf row 4 i)
  | _, _, _, some row => scanEp (unitOf row 4 i)
  | none, none, none, none => hubEp

/-- A flit of the hub's goes to a block or back within the command; none: it cannot get through yet. -/
def carry (m : MsgName) (cls src dst : Nat) (s : State) : Option State :=
  ((launch m cls src src dst 1 s).bind (reach m)).map (landed m)

/-- The block performs a register access, and the hub answers it: a read returns the register's value in its byte lanes, a write is
acknowledged; an offset that names no register reads 0 and ignores writes (R7, R83). -/
def blockServes (r : Req) (s : State) : State :=
  match r.op with
  | .read =>
    let x := readAt (hubActor r s) (regAt (regOffset r)) s
    respond r (.data ((x.1.setWidth 512).shiftLeft (8 * (r.da % 64)))) x.2
  | .write => writeAt (hubActor r s) (regAt (regOffset r)) (lineWord r.data r.da) (respond r .ack s)

/-- The register hub forwards a request in the configuration class to the block that holds the register, and returns its response (R83);
one for which there is no route gets ROUTE_LOST (R84), and one that cannot get through now waits at the hub. -/
def hubServes (r : Req) (s : State) : State :=
  let t := takeReq r s
  let ep := ((regAt (regOffset r)).map (fun x => blockEp x.1 x.2)).getD hubEp
  if ep = hubEp then blockServes r t
  else match leafRoute t (epLeaf hubEp) (epLeaf ep) with
    | none => respond r (.error 6 0) t
    | some _ => match (carry (.req r.src r.txn) 3 hubEp ep t).bind (carry (.resp r.src r.txn) 1 ep hubEp) with
      | some u => blockServes r u
      | none => s

/-- A register request reaches the hub; one whose check fails is dropped and counted (R79). -/
def hubArrives (op : NetOp) (src txn : Nat) (damage : Option (Fin 1152)) (s : State) : State :=
  match arriving s src txn with
  | none => s
  | some r =>
    if r.op ≠ op ∨ r.dst ≠ hubEp then s
    else match reach (.req src txn) s with
      | none => s
      | some t => if crcFails (reqFlitsOf r) damage then crcDrop (takeReq r t) else hubServes r t

/-- REG_READ. -/
def execRegRead (f : NetFrom) (damage : Option (Fin 1152)) (s : State) : Host.Outcome State Fault Refusal :=
  done (match requestOf .read f s with
    | (some (src, txn), t) => hubArrives .read src txn damage t
    | (none, t) => t)

/-- REG_WRITE. -/
def execRegWrite (f : NetFrom) (damage : Option (Fin 1152)) (s : State) : Host.Outcome State Fault Refusal :=
  done (match requestOf .write f s with
    | (some (src, txn), t) => hubArrives .write src txn damage t
    | (none, t) => t)

end Sys2Proof.Machine
end

