-- ==== Sys2Proof/Machine/Boot.lean ====
section
/-! DEFINITION. The boot ROM, the policy image and the start of the Keeper firmware (R366–R368, R325–R331). -/

namespace Sys2Proof.Machine
open Sys2Proof

/-- Core c runs in machine mode from an address. -/
def startCore (pc c : Nat) (s : State) : State :=
  if coreStopped s c then s
  else (s.setCore c { s.core c with pc := pc, mode := .machine }).wr (F.KP_CORE_STAT.RUN c) 0 1

/-- The Keeper SRAM has passed its test and holds zeros (R366). -/
def sramTested (s : State) : State := { s with kp := { s.kp with sram := [], sramBad := [], sramReady := true } }

/-- BOOT_ROM_START: step 8 of R41 puts KCK on the root, K0 and K1 run the ROM, and the Keeper SRAM is tested and zeroed; a failing SRAM
ends the attempt (R366). -/
def execBootRomStart (failing : Bool) (s : State) : Host.Outcome State Fault Refusal :=
  done (guarded (decide (7 ≤ s.clk.step) && s.rd F.CFG_BOOT_STAT.STAGE 0 == 0 && !s.kp.sramReady) s (fun s =>
    let s1 := if s.clk.step = 7 then setDriver .kck true ({ s with clk := { s.clk with step := 8 } }.on F.CLK_KCK_CTL.SRC 0) else s
    let k := max 1 s1.cfg.attempt
    let mode := s1.rd F.CFG_BOOT_STAT.BOOT_MODE 0
    let s2 := startCore 0 1 (startCore 0 0 (setAttempt k s1))
    let s3 := s2.wr F.CFG_BOOT_STAT.KSRC 0 (if mode = 4 then 3 else flashOf mode k)
    if failing then bootRomFails s3
    else khImages (sramTested s3)))

/-- A flash directory with its DMAGIC and with every offset a multiple of 4 KiB (R326). -/
def directoryGood (d : List Byte) : Bool :=
  bytesAt d 0 4 == 0x5249444C && [8, 0x10, 0x18].all (fun o => bytesAt d o 8 % 4096 == 0)

/-- The image the boot ROM reads next: the next one from the Keyhole in mode 4; else, behind a good directory of the attempt's flash, the one
a Sherex update has put there, or what the flash holds; none: the attempt fails (R325, R326, R486). -/
def bootImage (s : State) (fw : Bool) (flash : Option FlashRead) : Option (List Byte) :=
  if s.rd F.CFG_BOOT_STAT.BOOT_MODE 0 = 4 then s.kh.images.head?
  else flash.bind (fun d =>
    if !directoryGood d.directory then none
    else match sget none s.shx.flash (2 * (s.rd F.CFG_BOOT_STAT.KSRC 0 - 1) + b2n fw) with
      | some l => some l
      | none => some d.image)

/-- The image from the Keyhole is used up. -/
def dropImage (s : State) : State :=
  let l := s.kh.images.drop 1
  { s with kh := { s.kh with images := l } }.wr F.KH_IMG_CTL.BUSY 0 (b2n (!l.isEmpty))

/-- The plaintext body of a checked image; none where a chunk fails its hash or its tag (R323). -/
def imagePlain (s : State) (img : List Byte) : Option (List Byte) :=
  let h := parseHeader img
  let c : Loader := { Loader.idle with head := img.take (headLength img) }
  let body := img.drop (headLength img)
  if body.length < h.bodyLen then none
  else (List.range h.chunks).foldl (fun (acc : Option (List Byte)) i =>
    acc.bind (fun p => (openChunk s 0 i c h ((body.drop (65536 * i)).take (min 65536 (h.bodyLen - 65536 * i)))).map (p ++ ·))) (some [])

/-- A checked image of a kind, no longer than a limit: its plaintext (R322, R326). -/
def bootPlain (s : State) (kind limit : Nat) (img : Option (List Byte)) : Option (List Byte) :=
  img.bind (fun l => if limit < l.length ∨ imageChecks s kind l ≠ 0 then none else imagePlain s l)

/-- The fields loaded from the policy image, as bits of their registers (R367). -/
def policyMask (r : RegName) : Option Word :=
  match r with
  | .KP_LSCTL => some 0x3#32
  | .LNK_PCFG => some 0x3#32
  | .LNK_HCFG => some 0x1E#32
  | .COH_HEAD => some 0x1#32
  | .MGP_BOARD => some 0xFF#32
  | _ => none

/-- The RWL registers of the WRD block (R367). -/
def isWardReg (r : RegName) : Bool :=
  r == .WRD_GRTMO || r == .WRD_THERM || r == .WRD_PWR || r == .WRD_PINOWN || r == .WRD_MSG

/-- One policy entry (R367, R368); none where an entry may not name the register. -/
def policyEntry (off : Nat) (v : Word) (s : State) : Option State :=
  match regAt off with
  | none => none
  | some (r, i) =>
    match policyMask r with
    | some m =>
      some (if s.flag F.WRD_STAT.POLSEAL 0 then s else s.setReg r i ((s.reg r i &&& ~~~m) ||| (v &&& m)))
    | none =>
      if isWardReg r then
        some (if s.flag F.WRD_STAT.SEALED 0 then
          (if (fieldWrite true r i v (s.off F.WRD_STAT.SEALED 0)).reg r i = s.reg r i then s
           else wardLog 7 31 0 off (s.on F.WRD_STAT.POLDIFF 0))
        else fieldWrite true r i v s)
      else none

/-- The entries of a policy image in order; none where an entry or the length is wrong (R367). -/
def policyEntries : List Byte → State → Option State
  | [], s => some s
  | a0 :: a1 :: a2 :: a3 :: v0 :: v1 :: v2 :: v3 :: l, s =>
    match policyEntry (leNat [a0, a1, a2, a3]) (BitVec.ofNat 32 (leNat [v0, v1, v2, v3])) s with
    | some t => policyEntries l t
    | none => none
  | _, _ => none

/-- POLICY_IMAGE_APPLIED: the policy image is read and checked, its entries are written, and the seals are set (R366, R367, R368); what
ends the attempt is a failed read or check, or a wrong entry.  `fabdep` is its FABDEP flag of each head (R329). -/
def execPolicyImageApplied (flash : Option FlashRead) (fabdep : BitVec 16) (s : State) : Host.Outcome State Fault Refusal :=
  done (guarded (s.kp.sramReady && s.rd F.CFG_BOOT_STAT.STAGE 0 == 0 &&
      (s.rd F.CFG_BOOT_STAT.BOOT_MODE 0 != 4 || !s.kh.images.isEmpty)) s (fun s =>
    match bootPlain s 4 65536 (bootImage s false flash) with
    | none => bootRomFails s
    | some p =>
      match policyEntries p s with
      | none => bootRomFails s
      | some t =>
        let first := !s.flag F.WRD_STAT.POLSEAL 0
        let t1 := ((dropImage t).on F.WRD_STAT.POLSEAL 0).on F.WRD_STAT.SEALED 0
        let t2 := if first then ({ t1 with cfg := { t1.cfg with fabdep := fabdep } }).off F.CFG_PINS.ERR 0 else t1
        t2.wr F.CFG_BOOT_STAT.STAGE 0 1))

/-- The Keeper SRAM with an image from its first byte on. -/
def loadSram (p : List Byte) (m : Sparse Byte) : Sparse Byte :=
  ((p.zipIdx.filter (fun e => e.1 != 0)).map (fun e => (e.2, e.1))) ++ m.filter (fun e => decide (p.length ≤ e.1))

/-- An image copied to the Keeper SRAM. -/
def sramLoaded (p : List Byte) (s : State) : State := { s with kp := { s.kp with sram := loadSram p s.kp.sram } }

/-- The firmware's first acts for head n: it serves the head where it exists, shows whether the tenant has a command key, and takes up
the counter at its floor (R399, R411). -/
def firmwareServes (n : Nat) (s : State) : State :=
  setNext n (ctrFloor s n) ((s.wr F.SHX_HSTAT.KREADY n (b2n (headExists s n))).wr F.SHX_HSTAT.KEY n (b2n (cmdKey s n).isSome))

/-- KEEPER_FIRMWARE_START: the firmware image is read and checked and copied to the SRAM, and all four cores start at its entry (R366); in boot
modes 3 and 4 the firmware then waits for a full image through Sherex (R325). -/
def execKeeperFirmwareStart (flash : Option FlashRead) (s : State) : Host.Outcome State Fault Refusal :=
  done (guarded (s.rd F.CFG_BOOT_STAT.STAGE 0 == 1 &&
      (s.rd F.CFG_BOOT_STAT.BOOT_MODE 0 != 4 || !s.kh.images.isEmpty)) s (fun s =>
    match bootPlain s 1 1835008 (bootImage s true flash) with
    | none => bootRomFails s
    | some p =>
      let s0 := dropImage (sramLoaded p s)
      let s1 := { s0 with cfg := { s0.cfg with attempt := 0 } }
      let s2 := (List.range 4).foldl (fun t c => startCore (bytesAt p 0 8) c t)
        (((s1.wr F.CFG_BOOT_STAT.STAGE 0 (if noFullFlash s then 7 else 2)).off F.CFG_PINS.ERR 0).off F.KH_IMG_CTL.READY 0)
      let s3 := (List.range 16).foldl (fun t n => firmwareServes n t) s2
      evaluate (if headExists s3 (deviceOwner s3) then s3 else s3.wr F.SHX_OWNER.OWNER 0 0)))

end Sys2Proof.Machine
end

