-- ==== Sys2Proof/Machine/KhFrames.lean ====
section
/-! DEFINITION. The frames of the Keyhole port and what each operation does (R475–R478, R480). -/

namespace Sys2Proof.Machine
open Sys2Proof

/-- The level an operation needs (R480). -/
def frameNeeds (f : KhFrame) : Nat :=
  if f.op = 0x01 then khNeeds false f.addr
  else if f.op = 0x02 then khNeeds true f.addr
  else if f.op = 0x10 ∨ f.op = 0x12 then 1
  else if f.op = 0x11 ∨ f.op = 0x13 then 2
  else 0

/-- The debug master's access that has no outcome yet (R478). -/
def accessOutstanding (s : State) : Option KhAccess := s.kh.access.filter (fun a => a.outcome.isNone)

/-- The received frame carries the operation `op`: its level, its alignment, the access it may meet outstanding, and then what the
operation does (R476, R477, R478). -/
def frameRow (op : Nat) (act : KhFrame → State → State) (s : State) : State :=
  match s.kh.frame with
  | none => s
  | some f =>
    if f.op ≠ op ∨ !khOpen s then s
    else if khLevelNow s < frameNeeds f then khAnswer 3 .fault s
    else if f.addr % 4 ≠ 0 then khAnswer 2 .fault s
    else if (accessOutstanding s).any (fun a => a.frame != f) then khReply .wait s
    else act f s

/-- KEYHOLE_NOP. -/
def execKeyholeNop (s : State) : Host.Outcome State Fault Refusal :=
  done (frameRow 0x00 (fun _ s => khReply (.ok (some (sesView s))) s) s)

/-- EXIT: the answer is KH_SES and the session ends. -/
def execExit (s : State) : Host.Outcome State Fault Refusal :=
  done (frameRow 0x20 (fun _ s => endSession (khReply (.ok (some (sesView s))) s)) s)

/-- KH_READ. -/
def execKhRead (s : State) : Host.Outcome State Fault Refusal :=
  done (frameRow 0x01 (fun f s =>
    let (w, t) := khGet f.addr s
    khReply (.ok (some w)) t) s)

/-- KH_WRITE. -/
def execKhWrite (s : State) : Host.Outcome State Fault Refusal :=
  done (frameRow 0x02 (fun f s =>
    let (code, t) := khPut f.addr (BitVec.ofNat 32 f.wdata) s
    khAnswer code (.ok none) t) s)

/-- The answer to the frame once the network interface has taken its request, has answered it, or lets it wait (R478). -/
def debugTaken (f : KhFrame) (s : State) (a : Admit) : State :=
  match a with
  | .sent t => khReply .access { t with kh := { t.kh with access := some ⟨f, none⟩ } }
  | .answered code _ t => khReply .access { t with kh := { t.kh with access := some ⟨f, some (.error code)⟩ } }
  | .waits => khReply .wait s

/-- A debug-master access of device address space: a frame sent again meets the access it made, any other makes a new one, which goes
into the network under the tag Debug or is answered at the source (R477, R478). -/
def debugAccess (op : NetOp) (f : KhFrame) (s : State) : State :=
  if s.kh.access.any (fun a => a.frame == f) then khReply .access s
  else
    let da := s.rd F.KH_DAHI.DAHI 0 * 2 ^ 32 + f.addr
    let data : Line := match op with
      | .read => 0
      | .write => (BitVec.ofNat 512 f.wdata).shiftLeft (8 * (da % 64))
    let s1 : State := { s with kh := { s.kh with access := none } }
    debugTaken f s1 (netAdmit .debug debugTag op debugEp (freeTxn s1 debugEp) da 4 data s1)

/-- DA_READ. -/
def execDaRead (s : State) : Host.Outcome State Fault Refusal := done (frameRow 0x10 (debugAccess .read) s)

/-- DA_WRITE. -/
def execDaWrite (s : State) : Host.Outcome State Fault Refusal := done (frameRow 0x11 (debugAccess .write) s)

/-- The four bytes at a Keeper address: the boot ROM from 0, the Keeper SRAM from 0x1000_0000 (R362, R476); none elsewhere. -/
def keeperWord (s : State) (a : Nat) : Option Word :=
  if a < 0x20000 then
    some (BitVec.ofNat 32 (leNat ((List.range 4).map (fun k => Config.bootRom (a + k)))))
  else if 0x10000000 ≤ a ∧ a < 0x10200000 then
    some (BitVec.ofNat 32 (leNat ((List.range 4).map (fun k => sget 0 s.kp.sram (a - 0x10000000 + k)))))
  else none

/-- A word written at a Keeper SRAM offset, byte 0 in bits [7:0]. -/
def sramPut (off : Nat) (v : Nat) (s : State) : State :=
  { s with kp := { s.kp with sram := (List.range 4).foldl (fun m k => sset 0 m (off + k) (BitVec.ofNat 8 (v / 256 ^ k))) s.kp.sram } }

/-- The inverted positions of SRAM word k. -/
def sramPattern (s : State) (k : Nat) : Codeword := sget 0 s.kp.sramBad k

/-- Positions of the codeword of SRAM word k invert. -/
def sramUpset (flips : List Nat) (k : Nat) (s : State) : State :=
  match flips with
  | [] => s
  | _ => { s with kp := { s.kp with sramBad := sset 0 s.kp.sramBad k (flips.foldl flipPos (sramPattern s k)) } }

/-- A read of SRAM word k is decoded and counted (R143, R362); the code is linear, so that the inverted positions alone decide. -/
def sramCounted (k : Nat) (s : State) : State :=
  match classifyWord 72 (sramPattern s k) with
  | .clean => s
  | .corrected _ => s.satAdd F.KP_SRAM_CE.COUNT 0 1
  | .uncorrectable => s.satAdd F.KP_SRAM_UE.COUNT 0 1

/-- What a read of the half of SRAM word k at offset `off` delivers where the bytes are `w`: an uncorrectable word is an open value (log entry
214). -/
def sramData (w : Word) (off : Nat) (s : State) : Word × State :=
  let p := sramPattern s (off / 8)
  match classifyWord 72 p with
  | .uncorrectable => (BitVec.ofNat 32 s.fresh.1, s.fresh.2)
  | _ => (w ^^^ (wordData 72 p).extractLsb' (8 * (off % 8)) 32, s)

/-- A partial write of SRAM word k: a word that decodes is stored as a clean codeword again, one that does not stays uncorrectable (log entry
214). -/
def sramMerge (k : Nat) (s : State) : State :=
  let p := sramPattern s k
  let t := sramCounted k s
  match classifyWord 72 p with
  | .corrected _ =>
    let d := wordData 72 p
    { t with kp := { t.kp with
      sram := (List.range 8).foldl (fun m j => sset 0 m (8 * k + j) (sget 0 s.kp.sram (8 * k + j) ^^^ d.extractLsb' (8 * j) 8)) t.kp.sram
      sramBad := sset 0 t.kp.sramBad k 0 } }
  | _ => t

/-- An access of a Keeper address that no target holds ends with ERROR code 0x01 (R99, R477). -/
def kspError (s : State) : State := khAnswer 4 .fault (s.wr F.KH_STAT.ERRCODE 0 1)

/-- KSP_READ; a word of the SRAM is decoded, as it stands with `flips`. -/
def execKspRead (flips : List Nat) (s : State) : Host.Outcome State Fault Refusal :=
  done (frameRow 0x12 (fun f s =>
    match keeperWord s f.addr with
    | some w =>
      if f.addr < 0x20000 then khReply (.ok (some w)) s
      else
        let off := f.addr - 0x10000000
        let x := sramData w off (sramCounted (off / 8) (sramUpset flips (off / 8) s))
        khReply (.ok (some x.1)) x.2
    | none => kspError s) s)

/-- KSP_WRITE: the boot ROM ignores writes. -/
def execKspWrite (s : State) : Host.Outcome State Fault Refusal :=
  done (frameRow 0x13 (fun f s =>
    if f.addr < 0x20000 then khReply (.ok none) s
    else if 0x10000000 ≤ f.addr ∧ f.addr < 0x10200000 then
      khReply (.ok none) (sramPut (f.addr - 0x10000000) f.wdata (sramMerge ((f.addr - 0x10000000) / 8) s))
    else kspError s) s)

end Sys2Proof.Machine
end

