-- ==== Sys2Proof/Machine/MemRows.lean ====
section
/-! DEFINITION. The commands of the on-chip memories that may retire or hold an engine: self-tests and scrub slots (R153–R158, R220). -/

namespace Sys2Proof.Machine
open Sys2Proof

/-- The end of an instance's self-test (R153, R154): the leaf's test state follows, an engine with a failed memory is retired, and a transaction of
the mode sequencer may end. -/
def testEnds (k : MemKind) (i : Nat) (pass : Bool) (badSpares : Nat) (s : State) : State :=
  let t := selfTestState (instLeaf k i) (fun k i => domOn s (instDom k i)) (selfTestEnds k i pass badSpares s)
  checkModeDone (match k with
    | .bram => t
    | .vault => t
    | _ => if pass then t else retireEngine i 2 t)

/-- CHECKER_SELF_TEST_DONE. -/
def execCheckerSelfTestDone (kind : MemKind) (i : Nat) (pass : Bool) (badSpares : BitVec 8) (s : State) :
    Host.Outcome State Fault Refusal :=
  done (guarded (decide (i < kindCount kind)) s (testEnds kind i pass badSpares.toNat))

/-- A slot of an instance's bank, with the retirement that a permanent fault of a program memory brings (R155, R220). -/
def takeSlot (k : MemKind) (i bank : Nat) (flips : List Nat) (s : State) : State :=
  let t := scrubSlot k i bank flips s
  if k = .prog then retireForProgram s i t else t

/-- Clock line `line` of sector x runs: a global network's divider and gate; what drives a local line may stop it, which the command knows (R53,
R122). -/
def lineRuns (s : State) (x line : Nat) : Bool := if line < 32 then gateOpen s x line && netTicks s line else sectorRuns s x

/-- The clock of an instance's slots runs: that of the port that SCRUBPORT names, or ECK of an engine (R157). -/
def scrubClock (s : State) (k : MemKind) (i : Nat) : Bool :=
  match k with
  | .bram =>
    let a := bramAt (sectorFrames s (i / 16)) (i % 16)
    lineRuns s (i / 16) (if a.scrubA then a.a.clk else a.b.clk)
  | .data => eckOn s i
  | .prog => eckOn s i
  | .vault => true

/-- SCRUB_SLOT: the instance takes a slot that user access leaves free: of a block RAM, a cycle of the port that SCRUBPORT names in which that port's
EN is 0 and its clock runs; of an engine's memories, an ECK cycle (R157). -/
def execScrubSlot (kind : MemKind) (i : Nat) (bank : Fin 4) (flips : List Nat) (s : State) : Host.Outcome State Fault Refusal :=
  done (guarded (decide (i < kindCount kind) && scrubClock s kind i) s (takeSlot kind i bank flips))

/-- FORCED_SCRUB_SLOT: a slot that user access has kept waiting is taken all the same; an engine that issues is held for a cycle
(R157, R176).  A block RAM never forces a slot. -/
def execForcedScrubSlot (kind : MemKind) (i : Nat) (bank : Fin 4) (flips : List Nat) (s : State) : Host.Outcome State Fault Refusal :=
  done (guarded (decide (i < kindCount kind) && kind != .bram && scrubClock s kind i && slotReady s kind i bank) s (fun s =>
    let t := takeSlot kind i bank flips s
    if (kind == .data || kind == .prog) && issuesNow t i then t.modEng i (fun r => { r with hold := r.hold + 1 }) else t))

end Sys2Proof.Machine
end

