-- ==== Sys2Proof/Machine/Dispatch.lean ====
section
/-! DEFINITION. The command dispatcher: one arm per command, each a direct call of its meaning. -/

namespace Sys2Proof.Machine
open Sys2Proof

def exec (i : Instr) (s : State) : Host.Outcome State Fault Refusal :=
  match i with
  | .registerWrite actor r ix v => Sys2Proof.Machine.execRegisterWrite actor r ix v s
  | .clearingRead r ix same => Sys2Proof.Machine.execClearingRead r ix same s
  | .suppliesGood khLow => Sys2Proof.Machine.execSuppliesGood khLow s
  | .powerOnReset => Sys2Proof.Machine.execPowerOnReset s
  | .koscStable xsel xdly bootMode => Sys2Proof.Machine.execKoscStable xsel xdly bootMode s
  | .crystalDelayComplete w => Sys2Proof.Machine.execCrystalDelayComplete w s
  | .referencePresent => Sys2Proof.Machine.execReferencePresent s
  | .rootPllLock => Sys2Proof.Machine.execRootPllLock s
  | .leafAligned => Sys2Proof.Machine.execLeafAligned s
  | .startupTimeout => Sys2Proof.Machine.execStartupTimeout s
  | .clockFailReset cause leaf stepNo => Sys2Proof.Machine.execClockFailReset cause leaf stepNo s
  | .knuckleTestComplete failing => Sys2Proof.Machine.execKnuckleTestComplete failing s
  | .multWrite v => Sys2Proof.Machine.execMultWrite v s
  | .rootSeal => Sys2Proof.Machine.execRootSeal s
  | .relockComplete => Sys2Proof.Machine.execRelockComplete s
  | .relockTimeout => Sys2Proof.Machine.execRelockTimeout s
  | .alignmentFault leaf => Sys2Proof.Machine.execAlignmentFault leaf s
  | .dividerEnable d en => Sys2Proof.Machine.execDividerEnable d en s
  | .divisorChange n => Sys2Proof.Machine.execDivisorChange n s
  | .sourceSwitch d root => Sys2Proof.Machine.execSourceSwitch d root s
  | .switchComplete d => Sys2Proof.Machine.execSwitchComplete d s
  | .forcedSwitch d => Sys2Proof.Machine.execForcedSwitch d s
  | .monitorWindow w err1 err2 err3 lock => Sys2Proof.Machine.execMonitorWindow w err1 err2 err3 lock s
  | .monitorReset => Sys2Proof.Machine.execMonitorReset s
  | .koscFault counts => Sys2Proof.Machine.execKoscFault counts s
  | .laneReferenceWindow n w => Sys2Proof.Machine.execLaneReferenceWindow n w s
  | .laneReferencePresent n => Sys2Proof.Machine.execLaneReferencePresent n s
  | .laneReferenceLost n => Sys2Proof.Machine.execLaneReferenceLost n s
  | .dtcLoRead => Sys2Proof.Machine.execDtcLoRead s
  | .read f ups u parity damage => Sys2Proof.Machine.execRead f ups u parity damage s
  | .write f ups u parity damage => Sys2Proof.Machine.execWrite f ups u parity damage s
  | .regRead f damage => Sys2Proof.Machine.execRegRead f damage s
  | .regWrite f damage => Sys2Proof.Machine.execRegWrite f damage s
  | .data src txn damage => Sys2Proof.Machine.execData src txn damage s
  | .dataPoisoned src txn damage => Sys2Proof.Machine.execDataPoisoned src txn damage s
  | .ack src txn damage => Sys2Proof.Machine.execAck src txn damage s
  | .error src txn damage => Sys2Proof.Machine.execError src txn damage s
  | .accessPortRequest a write txn da len data => Sys2Proof.Machine.execAccessPortRequest a write txn da len data s
  | .accessPortResponse a => Sys2Proof.Machine.execAccessPortResponse a s
  | .timeout src txn => Sys2Proof.Machine.execTimeout src txn s
  | .lateResponse src txn => Sys2Proof.Machine.execLateResponse src txn s
  | .krvTmoWrite v => Sys2Proof.Machine.execKrvTmoWrite v s
  | .knuckleCrcMismatch g n sameFlit => Sys2Proof.Machine.execKnuckleCrcMismatch g n sameFlit s
  | .replayComplete g n => Sys2Proof.Machine.execReplayComplete g n s
  | .replayMaxReached g n => Sys2Proof.Machine.execReplayMaxReached g n s
  | .knuckleStall g n => Sys2Proof.Machine.execKnuckleStall g n s
  | .remapComplete g => Sys2Proof.Machine.execRemapComplete g s
  | .knuckleRestore g => Sys2Proof.Machine.execKnuckleRestore g s
  | .restoreComplete g passing => Sys2Proof.Machine.execRestoreComplete g passing s
  | .violationReport => Sys2Proof.Machine.execViolationReport s
  | .checkerSelfTestDone kind ix pass badSpares => Sys2Proof.Machine.execCheckerSelfTestDone kind ix pass badSpares s
  | .scrubTick leaf => Sys2Proof.Machine.execScrubTick leaf s
  | .memPassBoundary leaf => Sys2Proof.Machine.execMemPassBoundary leaf s
  | .scrubSlot kind ix bank flips => Sys2Proof.Machine.execScrubSlot kind ix bank flips s
  | .forcedScrubSlot kind ix bank flips => Sys2Proof.Machine.execForcedScrubSlot kind ix bank flips s
  | .compareAndWrite kind ix bank flips => Sys2Proof.Machine.execCompareAndWrite kind ix bank flips s
  | .memRemapAdd v => Sys2Proof.Machine.execMemRemapAdd v s
  | .firmwareRemapCopy flips => Sys2Proof.Machine.execFirmwareRemapCopy flips s
  | .memLogPop leaf v => Sys2Proof.Machine.execMemLogPop leaf v s
  | .nop e slot => Sys2Proof.Machine.execNop e slot s
  | .add e => Sys2Proof.Machine.execAdd e s
  | .sub e => Sys2Proof.Machine.execSub e s
  | .and e => Sys2Proof.Machine.execAnd e s
  | .or e => Sys2Proof.Machine.execOr e s
  | .xor e => Sys2Proof.Machine.execXor e s
  | .sll e => Sys2Proof.Machine.execSll e s
  | .srl e => Sys2Proof.Machine.execSrl e s
  | .sra e => Sys2Proof.Machine.execSra e s
  | .slt e => Sys2Proof.Machine.execSlt e s
  | .sltu e => Sys2Proof.Machine.execSltu e s
  | .mul e => Sys2Proof.Machine.execMul e s
  | .mulh e => Sys2Proof.Machine.execMulh e s
  | .min e => Sys2Proof.Machine.execMin e s
  | .max e => Sys2Proof.Machine.execMax e s
  | .addi e => Sys2Proof.Machine.execAddi e s
  | .andi e => Sys2Proof.Machine.execAndi e s
  | .ori e => Sys2Proof.Machine.execOri e s
  | .xori e => Sys2Proof.Machine.execXori e s
  | .slli e => Sys2Proof.Machine.execSlli e s
  | .srli e => Sys2Proof.Machine.execSrli e s
  | .srai e => Sys2Proof.Machine.execSrai e s
  | .lui e => Sys2Proof.Machine.execLui e s
  | .norm e => Sys2Proof.Machine.execNorm e s
  | .exp e => Sys2Proof.Machine.execExp e s
  | .sats e => Sys2Proof.Machine.execSats e s
  | .pset e => Sys2Proof.Machine.execPset e s
  | .pget e => Sys2Proof.Machine.execPget e s
  | .br e => Sys2Proof.Machine.execBr e s
  | .beqz e => Sys2Proof.Machine.execBeqz e s
  | .bnez e => Sys2Proof.Machine.execBnez e s
  | .bltz e => Sys2Proof.Machine.execBltz e s
  | .bgez e => Sys2Proof.Machine.execBgez e s
  | .call e => Sys2Proof.Machine.execCall e s
  | .ret e => Sys2Proof.Machine.execRet e s
  | .reti e => Sys2Proof.Machine.execReti e s
  | .loop e => Sys2Proof.Machine.execLoop e s
  | .loopi e => Sys2Proof.Machine.execLoopi e s
  | .lclr e => Sys2Proof.Machine.execLclr e s
  | .waitn e => Sys2Proof.Machine.execWaitn e s
  | .waite e => Sys2Proof.Machine.execWaite e s
  | .done e => Sys2Proof.Machine.execDone e s
  | .swi e => Sys2Proof.Machine.execSwi e s
  | .mfc e => Sys2Proof.Machine.execMfc e s
  | .mtc e => Sys2Proof.Machine.execMtc e s
  | .vadd e => Sys2Proof.Machine.execVadd e s
  | .vsub e => Sys2Proof.Machine.execVsub e s
  | .vmul e => Sys2Proof.Machine.execVmul e s
  | .vand e => Sys2Proof.Machine.execVand e s
  | .vor e => Sys2Proof.Machine.execVor e s
  | .vxor e => Sys2Proof.Machine.execVxor e s
  | .vshl e => Sys2Proof.Machine.execVshl e s
  | .vsra e => Sys2Proof.Machine.execVsra e s
  | .vmin e => Sys2Proof.Machine.execVmin e s
  | .vmax e => Sys2Proof.Machine.execVmax e s
  | .vbcast e => Sys2Proof.Machine.execVbcast e s
  | .vget e => Sys2Proof.Machine.execVget e s
  | .vmac e => Sys2Proof.Machine.execVmac e s
  | .vmsu e => Sys2Proof.Machine.execVmsu e s
  | .vmpy e => Sys2Proof.Machine.execVmpy e s
  | .vmacb e => Sys2Proof.Machine.execVmacb e s
  | .vmpyb e => Sys2Proof.Machine.execVmpyb e s
  | .aclr e => Sys2Proof.Machine.execAclr e s
  | .vsat e => Sys2Proof.Machine.execVsat e s
  | .amov e => Sys2Proof.Machine.execAmov e s
  | .amovi e => Sys2Proof.Machine.execAmovi e s
  | .agete e => Sys2Proof.Machine.execAgete e s
  | .vcls e => Sys2Proof.Machine.execVcls e s
  | .vexp e => Sys2Proof.Machine.execVexp e s
  | .bnorm e => Sys2Proof.Machine.execBnorm e s
  | .bnorma e => Sys2Proof.Machine.execBnorma e s
  | .ldb e flips => Sys2Proof.Machine.execLdb e flips s
  | .ldbu e flips => Sys2Proof.Machine.execLdbu e flips s
  | .ldh e flips => Sys2Proof.Machine.execLdh e flips s
  | .ldhu e flips => Sys2Proof.Machine.execLdhu e flips s
  | .ldw e flips => Sys2Proof.Machine.execLdw e flips s
  | .stb e => Sys2Proof.Machine.execStb e s
  | .sth e => Sys2Proof.Machine.execSth e s
  | .stw e => Sys2Proof.Machine.execStw e s
  | .ldv e flips => Sys2Proof.Machine.execLdv e flips s
  | .stv e => Sys2Proof.Machine.execStv e s
  | .ssend e => Sys2Proof.Machine.execSsend e s
  | .srecv e => Sys2Proof.Machine.execSrecv e s
  | .nget e => Sys2Proof.Machine.execNget e s
  | .nput e => Sys2Proof.Machine.execNput e s
  | .resultLanding e => Sys2Proof.Machine.execResultLanding e s
  | .streamArrival e d => Sys2Proof.Machine.execStreamArrival e d s
  | .eventEntry e => Sys2Proof.Machine.execEventEntry e s
  | .uncorrectableFetch e flips => Sys2Proof.Machine.execUncorrectableFetch e flips s
  | .timer e => Sys2Proof.Machine.execTimer e s
  | .forcedNetworkAccess e src txn ups => Sys2Proof.Machine.execForcedNetworkAccess e src txn ups s
  | .wrsp e v => Sys2Proof.Machine.execWrsp e v s
  | .engineStop e => Sys2Proof.Machine.execEngineStop e s
  | .tmbCfgWrite e v => Sys2Proof.Machine.execTmbCfgWrite e v s
  | .setCfgWrite k v => Sys2Proof.Machine.execSetCfgWrite k v s
  | .clearingEnd e => Sys2Proof.Machine.execClearingEnd e s
  | .jobGo k v => Sys2Proof.Machine.execJobGo k v s
  | .jobEnd k => Sys2Proof.Machine.execJobEnd k s
  | .jobTimeout k => Sys2Proof.Machine.execJobTimeout k s
  | .setStop k v => Sys2Proof.Machine.execSetStop k v s
  | .tmbSetsDb k v => Sys2Proof.Machine.execTmbSetsDb k v s
  | .windowEnable w v => Sys2Proof.Machine.execWindowEnable w v s
  | .windowRead n id dpa => Sys2Proof.Machine.execWindowRead n id dpa s
  | .windowWrite n id dpa len data => Sys2Proof.Machine.execWindowWrite n id dpa len data s
  | .windowBoundExpiry src txn => Sys2Proof.Machine.execWindowBoundExpiry src txn s
  | .engineSelfTest e => Sys2Proof.Machine.execEngineSelfTest e s
  | .engineSelfTestDone e sig => Sys2Proof.Machine.execEngineSelfTestDone e sig s
  | .engineRestore e => Sys2Proof.Machine.execEngineRestore e s
  | .pllLock p h => Sys2Proof.Machine.execPllLock p h s
  | .attemptStart n start => Sys2Proof.Machine.execAttemptStart n start s
  | .attemptSuccess n f => Sys2Proof.Machine.execAttemptSuccess n f s
  | .attemptFailure n => Sys2Proof.Machine.execAttemptFailure n s
  | .trainTimeout n => Sys2Proof.Machine.execTrainTimeout n s
  | .backoffEnd n => Sys2Proof.Machine.execBackoffEnd n s
  | .linkDown n => Sys2Proof.Machine.execLinkDown n s
  | .lowPowerTransition n dir => Sys2Proof.Machine.execLowPowerTransition n dir s
  | .l2Exit n => Sys2Proof.Machine.execL2Exit n s
  | .headReset n hot => Sys2Proof.Machine.execHeadReset n hot s
  | .perstNHigh n => Sys2Proof.Machine.execPerstNHigh n s
  | .holdWrite n hold => Sys2Proof.Machine.execHoldWrite n hold s
  | .hctlRetrain n => Sys2Proof.Machine.execHctlRetrain n s
  | .redetect n => Sys2Proof.Machine.execRedetect n s
  | .equalisationRequest lane pre post => Sys2Proof.Machine.execEqualisationRequest lane pre post s
  | .lnkRestore p v => Sys2Proof.Machine.execLnkRestore p v s
  | .loopbackModeWrite lane v => Sys2Proof.Machine.execLoopbackModeWrite lane v s
  | .farEndLoopback n lanes => Sys2Proof.Machine.execFarEndLoopback n lanes s
  | .cxlMemRead n id dpa intent => Sys2Proof.Machine.execCxlMemRead n id dpa intent s
  | .cxlMemWrite n id dpa len data keep => Sys2Proof.Machine.execCxlMemWrite n id dpa len data keep s
  | .ptRead v => Sys2Proof.Machine.execPtRead v s
  | .assign v => Sys2Proof.Machine.execAssign v s
  | .narrow v => Sys2Proof.Machine.execNarrow v s
  | .release v => Sys2Proof.Machine.execRelease v s
  | .ptInForce => Sys2Proof.Machine.execPtInForce s
  | .drainComplete ext => Sys2Proof.Machine.execDrainComplete ext s
  | .extentClearingComplete ext => Sys2Proof.Machine.execExtentClearingComplete ext s
  | .walkComplete leaf damaged => Sys2Proof.Machine.execWalkComplete leaf damaged s
  | .backgroundCheck chan ext bad => Sys2Proof.Machine.execBackgroundCheck chan ext bad s
  | .replicaReload chan ext => Sys2Proof.Machine.execReplicaReload chan ext s
  | .snpInv n line => Sys2Proof.Machine.execSnpInv n line s
  | .snpData n line => Sys2Proof.Machine.execSnpData n line s
  | .rspI n line => Sys2Proof.Machine.execRspI n line s
  | .rspS n line => Sys2Proof.Machine.execRspS n line s
  | .rspIData n line data => Sys2Proof.Machine.execRspIData n line data s
  | .rspSData n line data => Sys2Proof.Machine.execRspSData n line data s
  | .snoopTimeout n line => Sys2Proof.Machine.execSnoopTimeout n line s
  | .hostFill n line own poison data u => Sys2Proof.Machine.execHostFill n line own poison data u s
  | .hostSnoop n line inv u => Sys2Proof.Machine.execHostSnoop n line inv u s
  | .rangeRead v => Sys2Proof.Machine.execRangeRead v s
  | .rangeWrite v => Sys2Proof.Machine.execRangeWrite v s
  | .cohVlogPop v => Sys2Proof.Machine.execCohVlogPop v s
  | .schedulerServe n sc u => Sys2Proof.Machine.execSchedulerServe n sc u s
  | .demandScrub n sc u => Sys2Proof.Machine.execDemandScrub n sc u s
  | .patrolRead n u => Sys2Proof.Machine.execPatrolRead n u s
  | .rowCopyComplete n => Sys2Proof.Machine.execRowCopyComplete n s
  | .permwinWindow n => Sys2Proof.Machine.execPermwinWindow n s
  | .ddrRemapAdd n v => Sys2Proof.Machine.execDdrRemapAdd n v s
  | .refresh n rank act => Sys2Proof.Machine.execRefresh n rank act s
  | .mr4Poll n readouts => Sys2Proof.Machine.execMr4Poll n readouts s
  | .selfRefreshEntry n => Sys2Proof.Machine.execSelfRefreshEntry n s
  | .selfRefreshExit n => Sys2Proof.Machine.execSelfRefreshExit n s
  | .holdGo n kind => Sys2Proof.Machine.execHoldGo n kind s
  | .queuesEmpty n => Sys2Proof.Machine.execQueuesEmpty n s
  | .freqchangeEntryComplete n => Sys2Proof.Machine.execFreqchangeEntryComplete n s
  | .freqchangeExit n => Sys2Proof.Machine.execFreqchangeExit n s
  | .trainholdDone n => Sys2Proof.Machine.execTrainholdDone n s
  | .inservice n => Sys2Proof.Machine.execInservice n s
  | .shadowValid n => Sys2Proof.Machine.execShadowValid n s
  | .generatorWrite n v => Sys2Proof.Machine.execGeneratorWrite n v s
  | .generatorReadCompare n v ups => Sys2Proof.Machine.execGeneratorReadCompare n v ups s
  | .generatorSaveWriteCompare n v ups => Sys2Proof.Machine.execGeneratorSaveWriteCompare n v ups s
  | .generatorRestore n v => Sys2Proof.Machine.execGeneratorRestore n v s
  | .generatorDone n => Sys2Proof.Machine.execGeneratorDone n s
  | .mrw n v => Sys2Proof.Machine.execMrw n v s
  | .mrr n v byte => Sys2Proof.Machine.execMrr n v byte s
  | .mpc n v => Sys2Proof.Machine.execMpc n v s
  | .dlyDataWrite n v => Sys2Proof.Machine.execDlyDataWrite n v s
  | .rxeqDataWrite n v => Sys2Proof.Machine.execRxeqDataWrite n v s
  | .sealChannel n => Sys2Proof.Machine.execSealChannel n s
  | .imgData leaf dma src txn data => Sys2Proof.Machine.execImgData leaf dma src txn data s
  | .signatureVerified leaf => Sys2Proof.Machine.execSignatureVerified leaf s
  | .chunkVerified leaf => Sys2Proof.Machine.execChunkVerified leaf s
  | .frameFwd leaf src => Sys2Proof.Machine.execFrameFwd leaf src s
  | .frame leaf => Sys2Proof.Machine.execFrame leaf s
  | .zero leaf => Sys2Proof.Machine.execZero leaf s
  | .repeatRecord leaf => Sys2Proof.Machine.execRepeatRecord leaf s
  | .meminit leaf => Sys2Proof.Machine.execMeminit leaf s
  | .rgndef leaf => Sys2Proof.Machine.execRgndef leaf s
  | .endRecord leaf => Sys2Proof.Machine.execEndRecord leaf s
  | .load leaf region => Sys2Proof.Machine.execLoad leaf region s
  | .loadFull sherex => Sys2Proof.Machine.execLoadFull sherex s
  | .clear leaf region => Sys2Proof.Machine.execClear leaf region s
  | .abort leaf => Sys2Proof.Machine.execAbort leaf s
  | .regionDrained leaf => Sys2Proof.Machine.execRegionDrained leaf s
  | .clearComplete leaf => Sys2Proof.Machine.execClearComplete leaf s
  | .stall leaf => Sys2Proof.Machine.execStall leaf s
  | .regionOwnerWrite r v => Sys2Proof.Machine.execRegionOwnerWrite r v s
  | .frameReadback v => Sys2Proof.Machine.execFrameReadback v s
  | .bootRetry => Sys2Proof.Machine.execBootRetry s
  | .bootRomStart failing => Sys2Proof.Machine.execBootRomStart failing s
  | .policyImageApplied flash fabdep => Sys2Proof.Machine.execPolicyImageApplied flash fabdep s
  | .keeperFirmwareStart flash => Sys2Proof.Machine.execKeeperFirmwareStart flash s
  | .frameSlot leaf flips store => Sys2Proof.Machine.execFrameSlot leaf flips store s
  | .scanPassStart leaf => Sys2Proof.Machine.execScanPassStart leaf s
  | .repairWrite leaf => Sys2Proof.Machine.execRepairWrite leaf s
  | .fixGo leaf frame => Sys2Proof.Machine.execFixGo leaf frame s
  | .giveup leaf frame => Sys2Proof.Machine.execGiveup leaf frame s
  | .fixTimeout leaf entry => Sys2Proof.Machine.execFixTimeout leaf entry s
  | .scbLogPop leaf v => Sys2Proof.Machine.execScbLogPop leaf v s
  | .lockstepMismatch q => Sys2Proof.Machine.execLockstepMismatch q s
  | .dmaStart c v transfers => Sys2Proof.Machine.execDmaStart c v transfers s
  | .windowCommit n w v => Sys2Proof.Machine.execWindowCommit n w v s
  | .grant n v => Sys2Proof.Machine.execGrant n v s
  | .grantExpiry n k => Sys2Proof.Machine.execGrantExpiry n k s
  | .linkMessage n msg => Sys2Proof.Machine.execLinkMessage n msg s
  | .heldMessageRelease n => Sys2Proof.Machine.execHeldMessageRelease n s
  | .sensorSample temps => Sys2Proof.Machine.execSensorSample temps s
  | .powerAverage watts => Sys2Proof.Machine.execPowerAverage watts s
  | .wrdLogPop v => Sys2Proof.Machine.execWrdLogPop v s
  | .ring n m => Sys2Proof.Machine.execRing n m s
  | .take n m => Sys2Proof.Machine.execTake n m s
  | .mailboxDone n m => Sys2Proof.Machine.execMailboxDone n m s
  | .mailboxAck n m => Sys2Proof.Machine.execMailboxAck n m s
  | .counterFloorWrite n m ok => Sys2Proof.Machine.execCounterFloorWrite n m ok s
  | .recordWrite n => Sys2Proof.Machine.execRecordWrite n s
  | .crEnable n v => Sys2Proof.Machine.execCrEnable n v s
  | .crHeadWrite n v => Sys2Proof.Machine.execCrHeadWrite n v s
  | .sherexNop n m => Sys2Proof.Machine.execSherexNop n m s
  | .getInfo n m => Sys2Proof.Machine.execGetInfo n m s
  | .getResources n m => Sys2Proof.Machine.execGetResources n m s
  | .getExtents n m => Sys2Proof.Machine.execGetExtents n m s
  | .handleStatus n m => Sys2Proof.Machine.execHandleStatus n m s
  | .extAssign n m => Sys2Proof.Machine.execExtAssign n m s
  | .extentOfferResponse n ext accept => Sys2Proof.Machine.execExtentOfferResponse n ext accept s
  | .extentOfferTimeout ext => Sys2Proof.Machine.execExtentOfferTimeout ext s
  | .extNarrow n m => Sys2Proof.Machine.execExtNarrow n m s
  | .extRelease n m => Sys2Proof.Machine.execExtRelease n m s
  | .xlatSet n m => Sys2Proof.Machine.execXlatSet n m s
  | .rgnAssign n m => Sys2Proof.Machine.execRgnAssign n m s
  | .rgnLoad n m => Sys2Proof.Machine.execRgnLoad n m s
  | .rgnClear n m => Sys2Proof.Machine.execRgnClear n m s
  | .rgnAbort n m => Sys2Proof.Machine.execRgnAbort n m s
  | .rgnStatus n m => Sys2Proof.Machine.execRgnStatus n m s
  | .rgnReadback n m => Sys2Proof.Machine.execRgnReadback n m s
  | .fullLoad n m => Sys2Proof.Machine.execFullLoad n m s
  | .setCreate n m => Sys2Proof.Machine.execSetCreate n m s
  | .setMembers n m => Sys2Proof.Machine.execSetMembers n m s
  | .setDelete n m => Sys2Proof.Machine.execSetDelete n m s
  | .setLoad n m dimg pimg => Sys2Proof.Machine.execSetLoad n m dimg pimg s
  | .jobStart n m => Sys2Proof.Machine.execJobStart n m s
  | .jobStop n m => Sys2Proof.Machine.execJobStop n m s
  | .setDoorbell n m => Sys2Proof.Machine.execSetDoorbell n m s
  | .winBind n m => Sys2Proof.Machine.execWinBind n m s
  | .winUnbind n m => Sys2Proof.Machine.execWinUnbind n m s
  | .engTest n m => Sys2Proof.Machine.execEngTest n m s
  | .cancel n m => Sys2Proof.Machine.execCancel n m s
  | .evtRoute n m => Sys2Proof.Machine.execEvtRoute n m s
  | .wakeCtl n m => Sys2Proof.Machine.execWakeCtl n m s
  | .laneRestore n m => Sys2Proof.Machine.execLaneRestore n m s
  | .retrain n m => Sys2Proof.Machine.execRetrain n m s
  | .scrubPass n m => Sys2Proof.Machine.execScrubPass n m s
  | .dramRate n m => Sys2Proof.Machine.execDramRate n m s
  | .tenantReset n m => Sys2Proof.Machine.execTenantReset n m s
  | .deviceReset n m => Sys2Proof.Machine.execDeviceReset n m s
  | .keyInstallOwner n m => Sys2Proof.Machine.execKeyInstallOwner n m s
  | .keySet n m => Sys2Proof.Machine.execKeySet n m s
  | .keyReplace n m => Sys2Proof.Machine.execKeyReplace n m s
  | .keyErase n m => Sys2Proof.Machine.execKeyErase n m s
  | .imgkeyHash n m => Sys2Proof.Machine.execImgkeyHash n m s
  | .imgkeyDec n m => Sys2Proof.Machine.execImgkeyDec n m s
  | .ownerChange n m => Sys2Proof.Machine.execOwnerChange n m s
  | .policyUpdate n m img => Sys2Proof.Machine.execPolicyUpdate n m img s
  | .fwUpdate n m img => Sys2Proof.Machine.execFwUpdate n m img s
  | .pinGrant n m => Sys2Proof.Machine.execPinGrant n m s
  | .pinRead n m => Sys2Proof.Machine.execPinRead n m s
  | .pinWrite n m => Sys2Proof.Machine.execPinWrite n m s
  | .i2cXfer n m => Sys2Proof.Machine.execI2cXfer n m s
  | .sensors n m => Sys2Proof.Machine.execSensors n m s
  | .linkStats n m => Sys2Proof.Machine.execLinkStats n m s
  | .laneLoopback n m => Sys2Proof.Machine.execLaneLoopback n m s
  | .raise src => Sys2Proof.Machine.execRaise src s
  | .claim c => Sys2Proof.Machine.execClaim c s
  | .complete c v => Sys2Proof.Machine.execComplete c v s
  | .evcSrcWrite src v => Sys2Proof.Machine.execEvcSrcWrite src v s
  | .evcSwset v => Sys2Proof.Machine.execEvcSwset v s
  | .holdOffExpiry g => Sys2Proof.Machine.execHoldOffExpiry g s
  | .notification src => Sys2Proof.Machine.execNotification src s
  | .fevt r ix pins => Sys2Proof.Machine.execFevt r ix pins s
  | .kick v => Sys2Proof.Machine.execKick v s
  | .watchdogEnable v => Sys2Proof.Machine.execWatchdogEnable v s
  | .watchdogExpiry c => Sys2Proof.Machine.execWatchdogExpiry c s
  | .halfTime => Sys2Proof.Machine.execHalfTime s
  | .deviceWatchdogReset => Sys2Proof.Machine.execDeviceWatchdogReset s
  | .modeGo v => Sys2Proof.Machine.execModeGo v s
  | .prepareAck u => Sys2Proof.Machine.execPrepareAck u s
  | .unitRefuse u => Sys2Proof.Machine.execUnitRefuse u s
  | .modeTimeout => Sys2Proof.Machine.execModeTimeout s
  | .commit edge => Sys2Proof.Machine.execCommit edge s
  | .rampComplete d => Sys2Proof.Machine.execRampComplete d s
  | .rollbackComplete => Sys2Proof.Machine.execRollbackComplete s
  | .rollbackTimeout stuck => Sys2Proof.Machine.execRollbackTimeout stuck s
  | .unitrst v => Sys2Proof.Machine.execUnitrst v s
  | .sherexDeviceReset v => Sys2Proof.Machine.execSherexDeviceReset v s
  | .trstGo v => Sys2Proof.Machine.execTrstGo v s
  | .tenantResetComplete => Sys2Proof.Machine.execTenantResetComplete s
  | .supplyLoss sup => Sys2Proof.Machine.execSupplyLoss sup s
  | .supplyReturn sup => Sys2Proof.Machine.execSupplyReturn sup s
  | .maintenanceRequest v => Sys2Proof.Machine.execMaintenanceRequest v s
  | .pwrMntDone v => Sys2Proof.Machine.execPwrMntDone v s
  | .pinRegisterWrite src ix v => Sys2Proof.Machine.execPinRegisterWrite src ix v s
  | .functionSwitch src m v => Sys2Proof.Machine.execFunctionSwitch src m v s
  | .gapEnd ix => Sys2Proof.Machine.execGapEnd ix s
  | .eventLineWrite src n v => Sys2Proof.Machine.execEventLineWrite src n v s
  | .pinEvent n level => Sys2Proof.Machine.execPinEvent n level s
  | .i2cGo src b v => Sys2Proof.Machine.execI2cGo src b v s
  | .i2cDone b e => Sys2Proof.Machine.execI2cDone b e s
  | .smbusTimeout b => Sys2Proof.Machine.execSmbusTimeout b s
  | .uartDataWrite src u v => Sys2Proof.Machine.execUartDataWrite src u v s
  | .uartDataRead u => Sys2Proof.Machine.execUartDataRead u s
  | .uartReceive u b stop => Sys2Proof.Machine.execUartReceive u b stop s
  | .spiExchange src bus v => Sys2Proof.Machine.execSpiExchange src bus v s
  | .spiDone bus b => Sys2Proof.Machine.execSpiDone bus b s
  | .tachEdge f => Sys2Proof.Machine.execTachEdge f s
  | .keyholeLow w => Sys2Proof.Machine.execKeyholeLow w s
  | .keyholeReset => Sys2Proof.Machine.execKeyholeReset s
  | .sessionEntry => Sys2Proof.Machine.execSessionEntry s
  | .frameGapTimeout => Sys2Proof.Machine.execFrameGapTimeout s
  | .keyholeNop => Sys2Proof.Machine.execKeyholeNop s
  | .khRead => Sys2Proof.Machine.execKhRead s
  | .khWrite => Sys2Proof.Machine.execKhWrite s
  | .daRead => Sys2Proof.Machine.execDaRead s
  | .daWrite => Sys2Proof.Machine.execDaWrite s
  | .kspRead flips => Sys2Proof.Machine.execKspRead flips s
  | .kspWrite => Sys2Proof.Machine.execKspWrite s
  | .exit => Sys2Proof.Machine.execExit s
  | .auth v => Sys2Proof.Machine.execAuth v s
  | .coreHalt c pc => Sys2Proof.Machine.execCoreHalt c pc s
  | .coreStep c pc rd => Sys2Proof.Machine.execCoreStep c pc rd s
  | .coreResume c => Sys2Proof.Machine.execCoreResume c s
  | .ebreakHalt c pc => Sys2Proof.Machine.execEbreakHalt c pc s
  | .cregRead sel => Sys2Proof.Machine.execCregRead sel s
  | .cregWrite sel v => Sys2Proof.Machine.execCregWrite sel v s
  | .engineHalt e => Sys2Proof.Machine.execEngineHalt e s
  | .engineStep e => Sys2Proof.Machine.execEngineStep e s
  | .engineResume e => Sys2Proof.Machine.execEngineResume e s
  | .tregRead sel => Sys2Proof.Machine.execTregRead sel s
  | .tregWrite sel v => Sys2Proof.Machine.execTregWrite sel v s
  | .vtTxWrite v => Sys2Proof.Machine.execVtTxWrite v s
  | .vtTxRead => Sys2Proof.Machine.execVtTxRead s
  | .vtRxWrite v => Sys2Proof.Machine.execVtRxWrite v s
  | .vtRxRead => Sys2Proof.Machine.execVtRxRead s
  | .khImgData v => Sys2Proof.Machine.execKhImgData v s
  | .keyholeRelease => Sys2Proof.Machine.execKeyholeRelease s
  | .fabricClockEdge x line pins => Sys2Proof.Machine.execFabricClockEdge x line pins s
  | .laneStageReached lane stage polInv rx => Sys2Proof.Machine.execLaneStageReached lane stage polInv rx s
  | .receiverError lane => Sys2Proof.Machine.execReceiverError lane s
  | .fecCorrection n => Sys2Proof.Machine.execFecCorrection n s
  | .linkReplay n => Sys2Proof.Machine.execLinkReplay n s
  | .errorRateWindow n => Sys2Proof.Machine.execErrorRateWindow n s
  | .replayWindowBoundary => Sys2Proof.Machine.execReplayWindowBoundary s
  | .checkerLock lane => Sys2Proof.Machine.execCheckerLock lane s
  | .loopbackMismatch lane => Sys2Proof.Machine.execLoopbackMismatch lane s
  | .farEndLoopbackExit n => Sys2Proof.Machine.execFarEndLoopbackExit n s
  | .openRowTimeout n bank => Sys2Proof.Machine.execOpenRowTimeout n bank s
  | .wfi c => Sys2Proof.Machine.execWfi c s
  | .msixEnable n on => Sys2Proof.Machine.execMsixEnable n on s
  | .extentReleaseResponse n ext => Sys2Proof.Machine.execExtentReleaseResponse n ext s
  | .extentReleaseWaitExpiry ext => Sys2Proof.Machine.execExtentReleaseWaitExpiry ext s
  | .loopbackTimeExpiry n => Sys2Proof.Machine.execLoopbackTimeExpiry n s
  | .authHoldExpiry n m => Sys2Proof.Machine.execAuthHoldExpiry n m s
  | .uartTransmit u => Sys2Proof.Machine.execUartTransmit u s
  | .tachTimeout f => Sys2Proof.Machine.execTachTimeout f s
  | .targetSlot => Sys2Proof.Machine.execTargetSlot s

end Sys2Proof.Machine
end

