-- ==== Sys2Proof/Machine/Idle.lean ====
section
/-! DEFINITION. What happens where no command waits: one edge of the TBC, and what the block's own sequencers do at it (R65, R400, R406,
R447; log entry 28). -/

namespace Sys2Proof.Machine
open Sys2Proof

/-- The wait of a DEVICE_RESET command is over, and the Keeper firmware resets the device (R406). -/
def resetPoll (s : State) : State :=
  match s.shx.resetAt with
  | some t => if t ≤ s.dtcNow then deviceReset 4 { s with shx := { s.shx with resetAt := none } } else s
  | none => s

/-- One TBC edge without a command: the DTC counts, a tenant reset and the long Sherex operations go on. -/
def idle (s : State) : State := resetPoll (shxPoll (trstPoll (tick s)))

end Sys2Proof.Machine
end

