-- ==== Sys2Proof/Safety.lean ====
section
/-! DEFINITION. What counts as a safe run: a step answers a next state, and the stores that hold the registers and the memories keep their
canonical form, so that states that read alike are equal. -/

namespace Sys2Proof
open Sys2Proof.Machine

/-- A step answers a next state. -/
def answersNext (s : State) : Prop := ∃ t, step s = .next t

/-- Command `c` in state `s` answers a next state, of which `post` holds. -/
def Completes (c : Instr) (s : State) (post : State → Prop) : Prop := ∃ t, exec c s = .next t ∧ post t

/-- What a key of the register store reads as where it is not listed: the reset value of its register. -/
def regDefault (k : Nat) : Word := regReset (RegName.ofNat (k % 1024)) (k / 1024)

/-- The stores of the registers, of the on-chip memories, of the configuration frames and of the Keeper SRAM are canonical: their keys rise
strictly, and no entry is equal to what its key reads as unlisted. -/
def Canonical (s : State) : Prop :=
  swf regDefault s.regs ∧ swf (fun _ => none) s.mem.code ∧ swf (fun _ => 0) s.cfg.frames ∧ swf (fun _ => 0) s.kp.sram

/-- The parts of the state beside the registers and the queue of waiting commands. -/
inductive Part where
  | freeCtr | memGen | rdata | out | clk | evc | knk | net | fab | cfg | mem | tmb | lnk | coh | ddr | kp | shx | mnt | pwr | pin | kh
deriving DecidableEq, Repr

/-- The part is the same in both states. -/
def Part.same (p : Part) (s t : State) : Prop :=
  match p with
  | .freeCtr => t.freeCtr = s.freeCtr
  | .memGen => t.memGen = s.memGen
  | .rdata => t.rdata = s.rdata
  | .out => t.out = s.out
  | .clk => t.clk = s.clk
  | .evc => t.evc = s.evc
  | .knk => t.knk = s.knk
  | .net => t.net = s.net
  | .fab => t.fab = s.fab
  | .cfg => t.cfg = s.cfg
  | .mem => t.mem = s.mem
  | .tmb => t.tmb = s.tmb
  | .lnk => t.lnk = s.lnk
  | .coh => t.coh = s.coh
  | .ddr => t.ddr = s.ddr
  | .kp => t.kp = s.kp
  | .shx => t.shx = s.shx
  | .mnt => t.mnt = s.mnt
  | .pwr => t.pwr = s.pwr
  | .pin => t.pin = s.pin
  | .kh => t.kh = s.kh

/-- From `s` to `t` nothing changes but copies of the registers `rs` and the parts `ps`; the queue does not either. -/
def Touches (rs : List RegName) (ps : List Part) (s t : State) : Prop :=
  t.pending = s.pending ∧ (∀ r i, r ∉ rs → t.reg r i = s.reg r i) ∧ ∀ p, p ∉ ps → p.same s t

/-- The state of event source `n` once it is raised in `s` (R412, R415, R422). -/
def raisedState (s : State) (n : Nat) : SrcState :=
  if s.flag F.EVC_SRC.EN n = false then (s.src n).st
  else match (s.src n).st with
    | .inactive => if heldFor s n then .inactive else .pending
    | .pending => .pending
    | .active => .activePending
    | .activePending => .activePending

/-- Every offer names a pending source that a Keeper target takes, to a target eligible for it (R418, R419). -/
def offersHold (s : State) : Prop :=
  ∀ c : Fin 4, ∀ n : Nat, sget 0 s.evc.offers c = n + 1 →
    (s.src n).st = .pending ∧ s.rd F.EVC_SRC.TKIND n = 0 ∧ groupOpen s (s.rd F.EVC_SRC.GROUP n) = false ∧ eligible s n c = true ∧
    higherOfPair s c = false

/-- Word `k` of the response area of mailbox `m` of head `n`. -/
def rspWord (s : State) (n m k : Nat) : Word := s.reg .SHX_MB_RSP (mbx n m * 64 + k)

/-- From `s` to `t` the command in mailbox `m` of head `n` is answered: its header and its result are in the response area (R391). -/
def Answered (s t : State) (n m status dsrc handle detail : Nat) (result : List Byte) : Prop :=
  (mbTaken t n m).map (·.phase) = some .answered ∧
  rspWord t n m 0 = BitVec.ofNat 32 (status % 256 + 2 ^ 8 * (dsrc % 256) + 2 ^ 16 * (result.length % 65536)) ∧
  rspWord t n m 1 = BitVec.ofNat 32 (cmdTag s n m) ∧ rspWord t n m 2 = BitVec.ofNat 32 handle ∧
  rspWord t n m 3 = BitVec.ofNat 32 detail ∧ (∀ k : Fin 4, rspWord t n m (4 + k) = 0) ∧
  ∀ k : Nat, 4 * k < result.length → rspWord t n m (8 + k) = BitVec.ofNat 32 (bytesAt result (4 * k) 4)

/-- From `s` to `t` nothing changes but a response and the firmware's record of the command it answers. -/
def OnlyAnswers (s t : State) : Prop :=
  Touches [.SHX_MB_RSP] [.shx] s t ∧ t.shx = { s.shx with taken := t.shx.taken }

/-- The command in mailbox `m` of head `n` is refused with a STATUS and changes nothing (R392). -/
def Refuses (s t : State) (n m status : Nat) : Prop := Answered s t n m status 0 0 0 [] ∧ OnlyAnswers s t

/-- A long operation as its command makes it, with the next handle of tenant `n` (R394, R407). -/
def newOp (s : State) (n m op : Nat) (objs : List ShxObj) (act : Option (Nat × Nat)) (ticket : Option Nat) (data : List Byte) : ShxOp :=
  ⟨(issueHandle n s).1, cmdTag s n m, op, n, objs, act, ticket, false, 0, 0, 0, cmdPayload s n m, data⟩

/-- The answer of a command whose operation `o` has started with the outcome `x`: an error of the hardware, ACCEPTED with the operation
outstanding, or ACCEPTED with its record held (R394, R395, R407). -/
def StartAnswer (s : State) (n m : Nat) (o : ShxOp) (x : OpStep × State) (t : State) : Prop :=
  match x.1 with
  | .refused e => Answered s t n m e.status e.dsrc 0 e.detail e.result ∧ t.shx.ops = x.2.shx.ops ∧ t.shx.held = x.2.shx.held ∧
    t.shx.serial = s.shx.serial
  | .going q => Answered s t n m 1 0 o.handle 0 [] ∧ t.shx.ops = x.2.shx.ops ++ [{ q with started := true }] ∧
    t.shx.held = x.2.shx.held ∧ (∀ r i, r ≠ .SHX_MB_RSP → r ≠ .SHX_HSTAT → r ≠ .SHX_CR_STAT → t.reg r i = x.2.reg r i) ∧
    t.cfg = x.2.cfg ∧ t.coh = x.2.coh ∧ t.tmb = x.2.tmb ∧ t.mem = x.2.mem
  | .over e => Answered s t n m 1 0 o.handle 0 [] ∧ ∃ r : ShxRecord, t.shx.held = x.2.shx.held ++ [r] ∧ r.handle = o.handle ∧
    r.tag = o.tag ∧ r.opcode = o.opcode ∧ r.tenant = o.tenant ∧ r.status = e.status ∧ r.dsrc = e.dsrc ∧ r.detail = e.detail ∧
    r.result = e.result

end Sys2Proof
end

