-- ==== Sys2Proof/Footprint.lean ====
section
/-! DEFINITION. What each command may change: the registers and the parts of the state beside the registers. A command changes nothing outside
its footprint; the statements of the commands' results say what it does to what is in it. -/

namespace Sys2Proof
open Sys2Proof.Machine

/-- Every register name. -/
def allNames : List RegName := (List.range 355).map RegName.ofNat

/-- Every part of the state beside the registers; a device-wide reset reaches them (R442). -/
def allParts : List Part :=
  [.freeCtr, .memGen, .rdata, .out, .clk, .evc, .knk, .net, .fab, .cfg, .mem, .tmb, .lnk, .coh, .ddr, .kp, .shx, .mnt, .pwr, .pin, .kh]

/-- The registers and the parts that each command may change. -/
def footprint : Instr → List RegName × List Part
  | .registerWrite _ _ _ _ | .powerOnReset | .startupTimeout | .clockFailReset _ _ _ | .relockTimeout | .alignmentFault _
  | .monitorReset | .koscFault _ | .regRead _ _ | .regWrite _ _ | .kick _ | .deviceWatchdogReset | .sherexDeviceReset _ | .keyholeLow _
  | .keyholeReset =>
    (allNames, allParts)
  | .suppliesGood _ =>
    ([], [.clk, .kh])
  | .koscStable _ _ _ =>
    ([.CLK_STRAP, .CFG_BOOT_STAT, .PWR_BOOTCNT], [.clk])
  | .crystalDelayComplete _ =>
    ([.CLK_STRAP], [.clk])
  | .referencePresent | .laneReferenceWindow _ _ =>
    ([], [.clk])
  | .rootPllLock | .relockComplete =>
    ([.CLK_ROOT_STAT], [.clk])
  | .leafAligned =>
    ([.CLK_ROOT_STAT, .CLK_MON_STAT, .CLK_LREF_STAT, .CLK_DTC_INC, .CLK_DTC_INC_HI], [.clk, .pwr])
  | .knuckleTestComplete _ | .replayMaxReached _ _ | .knuckleStall _ _ =>
    ([.KRV_KNK_SPARE, .KRV_KNK_STAT, .EVC_CSTAT], [.freeCtr, .evc, .knk, .net])
  | .multWrite _ =>
    ([.CLK_ROOT_CFG, .CLK_ROOT_STAT, .CLK_DTC_INC, .CLK_DTC_INC_HI], [.clk])
  | .rootSeal =>
    ([.CLK_ROOT_CFG], [])
  | .dividerEnable _ _ =>
    ([.CLK_ROOT_CFG, .CLK_FCK, .CLK_ECK, .CLK_MCK], [])
  | .divisorChange _ =>
    ([.CLK_FCK, .CLK_ECK, .CLK_MCK], [.clk])
  | .sourceSwitch _ _ | .switchComplete _ =>
    ([.CLK_KCK_CTL, .CLK_CCK_CTL, .CLK_SW_STAT], [.clk])
  | .forcedSwitch _ =>
    ([.CLK_KCK_CTL, .CLK_CCK_CTL, .CLK_SW_STAT], [])
  | .monitorWindow _ _ _ _ _ =>
    ([
      .CLK_ROOT_STAT, .CLK_ALIGN_ERR, .CLK_MON_STAT, .CLK_MON_FREQ, .CLK_KCK_CTL, .CLK_CCK_CTL, .CLK_SW_STAT, .EVC_CSTAT],
    [.freeCtr, .clk, .evc])
  | .laneReferencePresent _ =>
    ([.CLK_LREF_STAT, .LNK_HSTAT], [.lnk])
  | .laneReferenceLost _ =>
    ([
      .CLK_LREF_STAT, .KRV_ELOG0, .KRV_ELOG1, .KRV_ELOG2, .LNK_HSTAT, .LNK_HEVT, .LNK_LSTAT, .LNK_LLB, .COH_HEAD, .COH_DIR_OCC,
      .COH_DIR_ALLOC, .COH_DIR_EVICT, .COH_DIR_PEND, .DDR_HOLD_STAT, .DDR_UE_CNT, .DDR_ELOG_W, .DDR_EVT, .EVC_CSTAT, .EVC_TCH,
      .PWR_MNT_STAT, .PWR_MNT_ENT],
    [.freeCtr, .evc, .net, .lnk, .coh, .ddr, .mnt])
  | .dtcLoRead =>
    ([.CLK_DTC_HI], [.rdata])
  | .read _ _ _ _ _ | .write _ _ _ _ _ =>
    ([
      .KRV_ELOG0, .KRV_ELOG1, .KRV_ELOG2, .KRV_CRCDROP, .KRV_AP, .TMB_TW_SERVED, .COH_EVT, .COH_HEAD, .COH_DIR_OCC, .COH_DIR_ALLOC,
      .COH_DIR_EVICT, .COH_DIR_PEND, .COH_DIR_PERR, .COH_DC_HIT, .COH_DC_MISS, .COH_DC_ERR, .DDR_HOLD_STAT, .DDR_UE_CNT, .DDR_ELOG_W,
      .DDR_EVT, .KP_DMA_STAT, .EVC_CSTAT, .PWR_MNT_STAT, .PWR_MNT_ENT],
    [.freeCtr, .out, .evc, .net, .mem, .tmb, .coh, .ddr, .kp, .mnt, .kh])
  | .data _ _ _ | .dataPoisoned _ _ _ | .ack _ _ _ | .error _ _ _ =>
    ([.KRV_CRCDROP, .KRV_AP, .TMB_TW_SERVED, .KP_DMA_STAT, .EVC_CSTAT], [.freeCtr, .out, .evc, .net, .mem, .tmb, .kp, .kh])
  | .accessPortRequest _ _ _ _ _ _ =>
    ([.KRV_ELOG0, .KRV_ELOG1, .KRV_ELOG2, .KRV_AP], [.net, .coh])
  | .accessPortResponse _ =>
    ([], [.out, .net])
  | .timeout _ _ =>
    ([
      .KRV_ELOG0, .KRV_ELOG1, .KRV_ELOG2, .KRV_AP, .TMB_TW_SERVED, .KP_DMA_STAT, .EVC_CSTAT],
    [.freeCtr, .out, .evc, .net, .mem, .tmb, .kp, .kh])
  | .lateResponse _ _ =>
    ([.KRV_LATE, .KRV_AP, .TMB_TW_LATE], [.net])
  | .krvTmoWrite _ =>
    ([.KRV_TMO], [])
  | .knuckleCrcMismatch _ _ _ =>
    ([.KRV_KNK_SPARE, .KRV_KNK_STAT, .KRV_KNK_ERR, .EVC_CSTAT], [.freeCtr, .evc, .knk, .net])
  | .replayComplete _ _ | .replayWindowBoundary =>
    ([], [.knk])
  | .remapComplete _ | .knuckleRestore _ =>
    ([.KRV_KNK_STAT], [.knk])
  | .restoreComplete _ _ =>
    ([.KRV_KNK_SPARE, .KRV_KNK_STAT], [.knk, .net])
  | .violationReport =>
    ([.COH_VBY, .COH_VON, .COH_VLOG_CTL, .COH_VLOG_LOST, .COH_VLOG_W, .EVC_CSTAT], [.freeCtr, .evc, .coh])
  | .checkerSelfTestDone _ _ _ _ =>
    ([
      .KRV_ELOG0, .KRV_ELOG1, .KRV_ELOG2, .MEM_BIST_STAT, .MEM_LOG_CTL, .MEM_LOG_LOST, .MEM_LOG_W, .MEM_BRAM, .MEM_VAULT, .MEM_TMB,
      .TMB_STAT, .TMB_EVCAUSE, .EVC_CSTAT, .PWR_EVT, .PWR_MODE_STAT, .PWR_MODE_UNIT],
    [.freeCtr, .evc, .net, .mem, .tmb, .pwr])
  | .scrubTick _ =>
    ([.MEM_SCR_STAT], [.mem])
  | .memPassBoundary _ =>
    ([.MEM_SCR_STAT, .MEM_BRAM, .MEM_VAULT, .MEM_TMB], [.mem])
  | .scrubSlot _ _ _ _ | .forcedScrubSlot _ _ _ _ =>
    ([
      .KRV_ELOG0, .KRV_ELOG1, .KRV_ELOG2, .MEM_CE_CNT, .MEM_UE_CNT, .MEM_LOG_CTL, .MEM_LOG_LOST, .MEM_LOG_W, .MEM_BRAM, .MEM_VAULT,
      .MEM_TMB, .MEM_RMP_STAT, .TMB_STAT, .TMB_EVCAUSE, .EVC_CSTAT],
    [.freeCtr, .evc, .net, .mem, .tmb])
  | .compareAndWrite _ _ _ _ =>
    ([], [.mem])
  | .memRemapAdd _ =>
    ([.MEM_RMP_STAT], [.mem])
  | .firmwareRemapCopy _ =>
    ([
      .MEM_LOG_CTL, .MEM_LOG_LOST, .MEM_LOG_W, .MEM_BRAM, .MEM_VAULT, .MEM_TMB, .MEM_RMP_STAT, .EVC_CSTAT],
    [.freeCtr, .evc, .mem])
  | .memLogPop _ _ =>
    ([.MEM_LOG_CTL], [])
  | .nop _ _ | .add _ | .sub _ | .and _ | .or _ | .xor _ | .sll _ | .srl _ | .sra _ | .slt _ | .sltu _ | .mul _ | .mulh _ | .min _
  | .max _ | .addi _ | .andi _ | .ori _ | .xori _ | .slli _ | .srli _ | .srai _ | .lui _ | .norm _ | .exp _ | .sats _ | .pset _
  | .pget _ | .br _ | .beqz _ | .bnez _ | .bltz _ | .bgez _ | .call _ | .ret _ | .reti _ | .loop _ | .loopi _ | .lclr _ | .waitn _
  | .waite _ | .done _ | .swi _ | .mfc _ | .mtc _ | .vadd _ | .vsub _ | .vmul _ | .vand _ | .vor _ | .vxor _ | .vshl _ | .vsra _
  | .vmin _ | .vmax _ | .vbcast _ | .vget _ | .vmac _ | .vmsu _ | .vmpy _ | .vmacb _ | .vmpyb _ | .aclr _ | .vsat _ | .amov _ | .amovi _
  | .agete _ | .vcls _ | .vexp _ | .bnorm _ | .bnorma _ | .stb _ | .sth _ | .stw _ | .stv _ | .ssend _ | .srecv _ | .streamArrival _ _
  | .eventEntry _ | .timer _ | .engineStop _ | .jobTimeout _ | .setStop _ _ | .tmbSetsDb _ _ =>
    ([], [.tmb])
  | .ldb _ _ | .ldbu _ _ | .ldh _ _ | .ldhu _ _ | .ldw _ _ | .ldv _ _ =>
    ([], [.mem, .tmb])
  | .nget _ | .nput _ =>
    ([.KRV_ELOG0, .KRV_ELOG1, .KRV_ELOG2, .KRV_AP], [.net, .tmb, .coh])
  | .resultLanding _ =>
    ([.KRV_ELOG0, .KRV_ELOG1, .KRV_ELOG2, .TMB_EVCAUSE, .EVC_CSTAT], [.freeCtr, .clk, .evc, .net, .mem, .tmb])
  | .uncorrectableFetch _ _ =>
    ([.TMB_EVCAUSE, .EVC_CSTAT], [.freeCtr, .evc, .mem, .tmb])
  | .forcedNetworkAccess _ _ _ _ =>
    ([
      .KRV_ELOG0, .KRV_ELOG1, .KRV_ELOG2, .KRV_CRCDROP, .KRV_AP, .TMB_TW_SERVED, .KP_DMA_STAT, .EVC_CSTAT],
    [.freeCtr, .out, .evc, .net, .mem, .tmb, .coh, .kp, .kh])
  | .wrsp _ _ =>
    ([.KRV_ELOG0, .KRV_ELOG1, .KRV_ELOG2], [.net, .tmb])
  | .tmbCfgWrite _ _ =>
    ([.TMB_CFG, .TMB_STAT], [.mem, .tmb])
  | .setCfgWrite _ _ =>
    ([.TMB_STAT, .TMB_SET_CFG], [.mem, .tmb])
  | .clearingEnd _ =>
    ([.TMB_STAT], [])
  | .jobGo _ _ =>
    ([.TMB_SET_JOB, .TMB_SET_JSTAT, .WRD_GRANT], [.tmb, .kp])
  | .jobEnd _ =>
    ([.TMB_EVCAUSE, .TMB_SET_JSTAT, .EVC_CSTAT], [.freeCtr, .evc, .tmb])
  | .windowEnable _ _ =>
    ([.TMB_TW_CFG], [])
  | .windowRead _ _ _ | .windowWrite _ _ _ _ _ | .cxlMemRead _ _ _ _ | .cxlMemWrite _ _ _ _ _ _ =>
    ([.KRV_ELOG0, .KRV_ELOG1, .KRV_ELOG2, .KRV_AP, .TMB_TW_NOTREADY, .TMB_TW_WRITES], [.out, .net, .coh])
  | .windowBoundExpiry _ _ =>
    ([.TMB_TW_OVERRUN], [.out, .net])
  | .engineSelfTest _ | .engineRestore _ =>
    ([.TMB_STAT], [.tmb])
  | .engineSelfTestDone _ _ =>
    ([.KRV_ELOG0, .KRV_ELOG1, .KRV_ELOG2, .TMB_STAT, .TMB_TSIG, .TMB_EVCAUSE, .EVC_CSTAT], [.freeCtr, .evc, .net, .tmb])
  | .pllLock _ _ | .errorRateWindow _ =>
    ([], [.lnk])
  | .attemptStart _ _ | .hctlRetrain _ =>
    ([
      .LNK_HSTAT, .LNK_HATT, .LNK_HREC, .LNK_HEVT, .LNK_LSTAT, .LNK_LTXEQ, .WRD_TXCLAMP, .WRD_LOGCTL, .WRD_LOGLOST, .WRD_LOG_W,
      .EVC_CSTAT, .EVC_TCH],
    [.freeCtr, .evc, .lnk])
  | .attemptSuccess _ _ =>
    ([
      .LNK_RET, .LNK_HSTAT, .LNK_HEVT, .LNK_LSTAT, .COH_EVT, .COH_HEAD, .COH_DC_ERR, .SHX_MSIX_PBA, .EVC_CSTAT, .EVC_HOLD, .EVC_TCH],
    [.freeCtr, .out, .evc, .lnk, .coh])
  | .attemptFailure _ | .trainTimeout _ | .redetect _ =>
    ([
      .KRV_ELOG0, .KRV_ELOG1, .KRV_ELOG2, .LNK_RET, .LNK_HSTAT, .LNK_HATT, .LNK_HEVT, .LNK_LSTAT, .LNK_LLB, .COH_HEAD, .COH_DIR_OCC,
      .COH_DIR_ALLOC, .COH_DIR_EVICT, .COH_DIR_PEND, .DDR_HOLD_STAT, .DDR_UE_CNT, .DDR_ELOG_W, .DDR_EVT, .EVC_CSTAT, .EVC_TCH,
      .PWR_MNT_STAT, .PWR_MNT_ENT],
    [.freeCtr, .evc, .net, .lnk, .coh, .ddr, .mnt])
  | .backoffEnd _ =>
    ([.LNK_HSTAT], [])
  | .linkDown _ | .l2Exit _ | .farEndLoopback _ _ =>
    ([
      .KRV_ELOG0, .KRV_ELOG1, .KRV_ELOG2, .LNK_HSTAT, .LNK_HEVT, .LNK_LSTAT, .LNK_LLB, .COH_HEAD, .COH_DIR_OCC, .COH_DIR_ALLOC,
      .COH_DIR_EVICT, .COH_DIR_PEND, .DDR_HOLD_STAT, .DDR_UE_CNT, .DDR_ELOG_W, .DDR_EVT, .EVC_CSTAT, .EVC_TCH, .PWR_MNT_STAT,
      .PWR_MNT_ENT],
    [.freeCtr, .evc, .net, .lnk, .coh, .ddr, .mnt])
  | .lowPowerTransition _ _ =>
    ([.LNK_HSTAT, .COH_EVT, .COH_DC_ERR, .SHX_MSIX_PBA, .EVC_CSTAT, .EVC_HOLD, .EVC_TCH], [.freeCtr, .out, .evc, .lnk, .coh])
  | .headReset _ _ =>
    ([
      .KRV_ELOG0, .KRV_ELOG1, .KRV_ELOG2, .LNK_HSTAT, .LNK_LSTAT, .LNK_LLB, .COH_EVT, .COH_HEAD, .COH_DIR_OCC, .COH_DIR_ALLOC,
      .COH_DIR_EVICT, .COH_DIR_PEND, .COH_DC_ERR, .DDR_HOLD_STAT, .DDR_UE_CNT, .DDR_ELOG_W, .DDR_EVT, .WRD_GRANT, .WRD_HWIN,
      .SHX_MB_STAT, .SHX_CR_BASE_LO, .SHX_CR_BASE_HI, .SHX_CR_CTL, .SHX_CR_HEAD, .SHX_CR_TAIL, .SHX_MSIX, .SHX_MSIX_PBA, .EVC_CSTAT,
      .EVC_TCH, .PWR_MNT_STAT, .PWR_MNT_ENT],
    [.freeCtr, .evc, .net, .lnk, .coh, .ddr, .kp, .shx, .mnt])
  | .perstNHigh _ =>
    ([.LNK_HSTAT], [.lnk])
  | .holdWrite _ _ =>
    ([
      .KRV_ELOG0, .KRV_ELOG1, .KRV_ELOG2, .LNK_HCTL, .LNK_HSTAT, .LNK_HEVT, .LNK_LSTAT, .LNK_LLB, .COH_HEAD, .COH_DIR_OCC,
      .COH_DIR_ALLOC, .COH_DIR_EVICT, .COH_DIR_PEND, .DDR_HOLD_STAT, .DDR_UE_CNT, .DDR_ELOG_W, .DDR_EVT, .EVC_CSTAT, .EVC_TCH,
      .PWR_MNT_STAT, .PWR_MNT_ENT],
    [.freeCtr, .evc, .net, .lnk, .coh, .ddr, .mnt])
  | .equalisationRequest _ _ _ =>
    ([.LNK_LTXEQ], [.out])
  | .lnkRestore _ _ =>
    ([.LNK_RET, .LNK_LSTAT, .LNK_LLB], [.lnk])
  | .loopbackModeWrite _ _ | .checkerLock _ =>
    ([.LNK_LLB], [])
  | .ptRead _ | .assign _ | .narrow _ | .release _ =>
    ([
      .COH_PT_STAT, .COH_PT_DATA0, .COH_PT_DATA1, .COH_PT_DATA2, .COH_EVT, .COH_HEAD, .COH_DIR_OCC, .COH_DIR_PEND, .COH_DC_ERR,
      .EVC_CSTAT, .PWR_MNT_STAT, .PWR_MNT_ENT],
    [.freeCtr, .out, .evc, .net, .coh, .ddr, .mnt])
  | .ptInForce =>
    ([.COH_PT_STAT], [.coh])
  | .drainComplete _ | .backgroundCheck _ _ _ =>
    ([.COH_EVT, .EVC_CSTAT], [.freeCtr, .evc, .coh])
  | .extentClearingComplete _ =>
    ([.COH_EVT, .EVC_CSTAT], [.freeCtr, .evc, .coh, .ddr])
  | .walkComplete _ _ =>
    ([
      .COH_EVT, .COH_HEAD, .COH_DIR_OCC, .COH_DIR_PEND, .COH_DIR_PERR, .EVC_CSTAT, .PWR_EVT, .PWR_MNT_STAT, .PWR_MNT_ENT],
    [.freeCtr, .evc, .net, .coh, .ddr, .mnt])
  | .replicaReload _ _ | .extentOfferResponse _ _ _ =>
    ([], [.coh])
  | .snpInv _ _ | .snpData _ _ =>
    ([], [.out, .net, .coh])
  | .rspI _ _ | .rspS _ _ | .rspIData _ _ _ | .rspSData _ _ _ | .snoopTimeout _ _ =>
    ([
      .KRV_ELOG0, .KRV_ELOG1, .KRV_ELOG2, .COH_HEAD, .COH_DIR_OCC, .COH_DIR_ALLOC, .COH_DIR_EVICT, .COH_DIR_PEND, .DDR_HOLD_STAT,
      .DDR_UE_CNT, .DDR_ELOG_W, .DDR_EVT, .EVC_CSTAT, .PWR_MNT_STAT, .PWR_MNT_ENT],
    [.freeCtr, .evc, .net, .coh, .ddr, .mnt])
  | .hostFill _ _ _ _ _ _ =>
    ([.KRV_ELOG0, .KRV_ELOG1, .KRV_ELOG2, .COH_EVT, .COH_DC_ERR, .EVC_CSTAT], [.freeCtr, .out, .evc, .net, .coh])
  | .hostSnoop _ _ _ _ =>
    ([.COH_EVT, .COH_DC_ERR, .EVC_CSTAT], [.freeCtr, .out, .evc, .coh])
  | .rangeRead _ | .rangeWrite _ =>
    ([.COH_XM_DATA0, .COH_XM_DATA1, .COH_XM_DATA2], [.coh])
  | .cohVlogPop _ =>
    ([.COH_VLOG_CTL], [])
  | .schedulerServe _ _ _ =>
    ([.KRV_ELOG0, .KRV_ELOG1, .KRV_ELOG2, .DDR_UE_CNT, .DDR_ELOG_W, .DDR_EVT, .EVC_CSTAT], [.freeCtr, .evc, .net, .ddr])
  | .demandScrub _ _ _ =>
    ([
      .DDR_STAT, .DDR_CE_CNT, .DDR_UE_CNT, .DDR_DEVFAIL, .DDR_ELOG_W, .DDR_RMP_STAT, .DDR_EVT, .EVC_CSTAT],
    [.freeCtr, .evc, .ddr])
  | .patrolRead _ _ =>
    ([
      .DDR_STAT, .DDR_PAT_STAT, .DDR_PAT_POS_LO, .DDR_PAT_POS_HI, .DDR_CE_CNT, .DDR_UE_CNT, .DDR_DEVFAIL, .DDR_ELOG_W, .DDR_RMP_STAT,
      .DDR_EVT, .EVC_CSTAT],
    [.freeCtr, .evc, .ddr])
  | .rowCopyComplete _ | .ddrRemapAdd _ _ =>
    ([.DDR_ELOG_W, .DDR_RMP_STAT, .DDR_EVT, .EVC_CSTAT], [.freeCtr, .evc, .ddr])
  | .permwinWindow _ | .refresh _ _ _ | .openRowTimeout _ _ =>
    ([], [.ddr])
  | .mr4Poll _ _ | .freqchangeExit _ =>
    ([.DDR_STAT, .DDR_EVT, .EVC_CSTAT], [.freeCtr, .evc])
  | .selfRefreshEntry _ | .queuesEmpty _ =>
    ([.DDR_STAT], [.ddr])
  | .selfRefreshExit _ | .trainholdDone _ =>
    ([
      .KRV_ELOG0, .KRV_ELOG1, .KRV_ELOG2, .COH_HEAD, .COH_DIR_OCC, .COH_DIR_ALLOC, .COH_DIR_EVICT, .COH_DIR_PEND, .DDR_STAT,
      .DDR_HOLD_STAT, .DDR_UE_CNT, .DDR_ELOG_W, .DDR_EVT, .EVC_CSTAT, .PWR_MNT_STAT, .PWR_MNT_ENT],
    [.freeCtr, .evc, .net, .coh, .ddr, .mnt])
  | .holdGo _ _ =>
    ([.DDR_STAT, .DDR_HOLD_STAT], [.ddr])
  | .freqchangeEntryComplete _ =>
    ([.CLK_MCK, .DDR_STAT, .DDR_TIM_ACT, .DDR_TIM_SHADOW, .DDR_TIM_SHCTL], [.clk, .ddr])
  | .inservice _ =>
    ([.DDR_CTL, .DDR_STAT, .DDR_PAT_POS_LO, .DDR_PAT_POS_HI], [.ddr])
  | .shadowValid _ =>
    ([.CLK_MCK, .DDR_STAT, .DDR_HOLD_STAT, .DDR_TIM_ACT, .DDR_TIM_SHADOW, .DDR_TIM_SHCTL], [.clk, .ddr])
  | .generatorWrite _ _ | .generatorReadCompare _ _ _ | .generatorSaveWriteCompare _ _ _ | .generatorRestore _ _ =>
    ([.DDR_TRN_CTL, .DDR_TRN_STAT, .DDR_TRN_ERR], [.coh, .ddr])
  | .generatorDone _ =>
    ([.DDR_TRN_STAT], [])
  | .mrw _ _ | .mrr _ _ _ | .mpc _ _ =>
    ([.DDR_TRN_STAT, .DDR_MR_DATA], [.out])
  | .dlyDataWrite _ _ | .rxeqDataWrite _ _ =>
    ([.DDR_TRN_STAT], [.ddr])
  | .sealChannel _ =>
    ([.DDR_ILV], [.ddr])
  | .imgData _ _ _ _ _ | .chunkVerified _ | .frame _ | .zero _ | .repeatRecord _ | .meminit _ | .rgndef _ | .abort _ | .stall _ =>
    ([
      .KRV_ELOG0, .KRV_ELOG1, .KRV_ELOG2, .KRV_AP, .CFG_BOOT_STAT, .CFG_PINS, .CFG_LDSTAT, .CFG_LDERR, .CFG_LDCNT, .CFG_EVT,
      .CFG_RGN_CFG, .CFG_SECT, .SCB_PEND, .EVC_CSTAT, .PWR_MODE_STAT, .PWR_MODE_UNIT, .PWR_MNT_STAT, .PWR_MNT_ENT],
    [.freeCtr, .evc, .net, .fab, .cfg, .mem, .mnt, .pwr])
  | .signatureVerified _ =>
    ([
      .KRV_ELOG0, .KRV_ELOG1, .KRV_ELOG2, .KRV_AP, .CFG_BOOT_STAT, .CFG_PINS, .CFG_LDSTAT, .CFG_LDERR, .CFG_LDCNT, .CFG_EVT,
      .CFG_RGN_CFG, .CFG_SECT, .SCB_PEND, .WRD_VIO, .WRD_GRANT, .WRD_LOGCTL, .WRD_LOGLOST, .WRD_LOG_W, .EVC_CSTAT, .PWR_MODE_STAT,
      .PWR_MODE_UNIT, .PWR_MNT_STAT, .PWR_MNT_ENT],
    [.freeCtr, .evc, .net, .fab, .cfg, .mem, .kp, .mnt, .pwr])
  | .frameFwd _ _ =>
    ([.SCB_PEND], [.cfg, .mem])
  | .endRecord _ =>
    ([
      .KRV_ELOG0, .KRV_ELOG1, .KRV_ELOG2, .KRV_AP, .MEM_BRAM, .CFG_BOOT_STAT, .CFG_PINS, .CFG_LDSTAT, .CFG_LDERR, .CFG_LDCNT, .CFG_EVT,
      .CFG_RGN_CFG, .CFG_RGN_MASK0, .CFG_RGN_MASK1, .CFG_RGN_MASK2, .CFG_SECT, .SCB_PEND, .EVC_CSTAT, .PWR_MODE_STAT, .PWR_MODE_UNIT,
      .PWR_MNT_STAT, .PWR_MNT_ENT],
    [.freeCtr, .evc, .net, .fab, .cfg, .mem, .mnt, .pwr, .pin])
  | .load _ _ =>
    ([.CFG_LDSTAT, .CFG_LDCNT], [.cfg])
  | .loadFull _ =>
    ([.CFG_BOOT_STAT, .CFG_LDSTAT, .CFG_LDCNT], [.cfg])
  | .clear _ _ =>
    ([
      .KRV_AP, .CFG_LDSTAT, .CFG_LDCNT, .CFG_RGN_CFG, .CFG_SECT, .SCB_PEND, .PWR_MODE_STAT, .PWR_MODE_UNIT],
    [.net, .fab, .cfg, .mem, .pwr])
  | .regionDrained _ =>
    ([.CFG_LDSTAT], [.mem])
  | .clearComplete _ =>
    ([
      .KRV_ELOG0, .KRV_ELOG1, .KRV_ELOG2, .KRV_AP, .COH_HEAD, .COH_DIR_OCC, .COH_DIR_PEND, .CFG_LDSTAT, .CFG_LDCNT, .CFG_EVT,
      .CFG_RGN_CFG, .CFG_SECT, .SCB_PEND, .EVC_CSTAT, .PWR_EVT, .PWR_MODE_STAT, .PWR_MODE_UNIT, .PWR_MNT_STAT, .PWR_MNT_ENT],
    [.freeCtr, .evc, .net, .fab, .cfg, .mem, .coh, .ddr, .mnt, .pwr])
  | .regionOwnerWrite _ _ =>
    ([.CFG_RGN_CFG], [])
  | .frameReadback _ =>
    ([.CFG_FRD_STAT, .CFG_FRD_DATA, .WRD_VIO, .WRD_GRANT, .WRD_LOGCTL, .WRD_LOGLOST, .WRD_LOG_W], [.kp])
  | .bootRetry =>
    ([.CFG_BOOT_STAT], [.cfg])
  | .bootRomStart _ =>
    ([.CLK_KCK_CTL, .CFG_BOOT_STAT, .CFG_PINS, .KP_CORE_STAT, .KH_IMG_CTL], [.clk, .cfg, .kp, .kh])
  | .policyImageApplied _ _ =>
    ([
      .LNK_PCFG, .LNK_HCFG, .COH_HEAD, .CFG_BOOT_STAT, .CFG_PINS, .KP_LSCTL, .WRD_STAT, .WRD_GRTMO, .WRD_THERM, .WRD_PWR, .WRD_PINOWN,
      .WRD_MSG, .WRD_LOGCTL, .WRD_LOGLOST, .WRD_LOG_W, .MGP_BOARD, .KH_IMG_CTL],
    [.cfg, .kh])
  | .keeperFirmwareStart _ =>
    ([
      .CFG_BOOT_STAT, .CFG_PINS, .KP_CORE_STAT, .SHX_HSTAT, .SHX_CTR_NEXT_LO, .SHX_CTR_NEXT_HI, .SHX_OWNER, .EVC_CSTAT, .KH_IMG_CTL],
    [.evc, .cfg, .kp, .kh])
  | .frameSlot _ _ _ =>
    ([
      .SCB_UNR, .SCB_UNRS, .SCB_STAT, .SCB_MBCNT, .SCB_SKIP, .SCB_EVT, .SCB_PEND, .SCB_LOGCTL, .SCB_LOST, .SCB_LOG_W, .EVC_CSTAT],
    [.freeCtr, .evc, .cfg])
  | .scanPassStart _ =>
    ([.SCB_STAT, .SCB_PEND], [.cfg])
  | .repairWrite _ =>
    ([
      .SCB_HF, .SCB_HFS, .SCB_SBCNT, .SCB_HFCNT, .SCB_EVT, .SCB_PEND, .SCB_LOGCTL, .SCB_LOST, .SCB_LOG_W, .EVC_CSTAT],
    [.freeCtr, .evc, .cfg])
  | .fixGo _ _ =>
    ([
      .SCB_HF, .SCB_UNR, .SCB_HFS, .SCB_UNRS, .SCB_HFCNT, .SCB_EVT, .SCB_PEND, .SCB_FIXSTAT, .SCB_LOGCTL, .SCB_LOST, .SCB_LOG_W,
      .EVC_CSTAT],
    [.freeCtr, .evc, .cfg])
  | .giveup _ _ =>
    ([
      .SCB_UNR, .SCB_UNRS, .SCB_EVT, .SCB_PEND, .SCB_FIXSTAT, .SCB_LOGCTL, .SCB_LOST, .SCB_LOG_W, .EVC_CSTAT],
    [.freeCtr, .evc, .cfg])
  | .fixTimeout _ _ =>
    ([.SCB_UNR, .SCB_UNRS, .SCB_EVT, .SCB_PEND, .SCB_LOGCTL, .SCB_LOST, .SCB_LOG_W, .EVC_CSTAT], [.freeCtr, .evc, .cfg])
  | .scbLogPop _ _ =>
    ([.SCB_LOGCTL], [])
  | .lockstepMismatch _ =>
    ([.KP_CORE_STAT, .KP_LSERR, .EVC_CSTAT], [.freeCtr, .evc])
  | .dmaStart _ _ _ =>
    ([.KP_DMA_DESC, .KP_DMA_STAT], [.kp])
  | .windowCommit _ _ _ =>
    ([.WRD_HWIN], [.shx])
  | .grant _ _ | .grantExpiry _ _ =>
    ([.WRD_GRANT], [.kp])
  | .linkMessage _ _ =>
    ([
      .KP_DMA_STAT, .WRD_MSGSTAT, .WRD_VIO, .WRD_LOGCTL, .WRD_LOGLOST, .WRD_LOG_W, .SHX_MSIX_PBA, .EVC_CSTAT],
    [.freeCtr, .out, .evc, .kp])
  | .heldMessageRelease _ =>
    ([.SHX_MSIX_PBA], [.out, .kp])
  | .sensorSample _ =>
    ([
      .KRV_ELOG0, .KRV_ELOG1, .KRV_ELOG2, .KRV_AP, .MEM_BIST_STAT, .MEM_BRAM, .MEM_VAULT, .MEM_TMB, .MEM_RMP_STAT, .TMB_STAT, .LNK_HCTL,
      .LNK_HSTAT, .LNK_LSTAT, .LNK_LLB, .COH_HEAD, .COH_DIR_OCC, .COH_DIR_ALLOC, .COH_DIR_EVICT, .COH_DIR_PEND, .DDR_CTL, .DDR_STAT,
      .DDR_HOLD_STAT, .DDR_UE_CNT, .DDR_ELOG_W, .DDR_RMP_STAT, .DDR_EVT, .DDR_TRN_STAT, .CFG_SECT, .SCB_PEND, .WRD_THSTAT, .WRD_TSENS,
      .WRD_LOGCTL, .WRD_LOGLOST, .WRD_LOG_W, .EVC_CSTAT, .EVC_TCH, .PWR_DOM_STAT, .PWR_MNT_STAT, .PWR_MNT_ENT],
    [.freeCtr, .evc, .net, .fab, .cfg, .mem, .tmb, .lnk, .coh, .ddr, .kp, .mnt, .pwr])
  | .powerAverage _ =>
    ([.WRD_PWRSTAT, .WRD_LOGCTL, .WRD_LOGLOST, .WRD_LOG_W, .EVC_CSTAT], [.freeCtr, .evc, .kp])
  | .wrdLogPop _ =>
    ([.WRD_LOGCTL], [])
  | .ring _ _ =>
    ([.SHX_MB_STAT, .SHX_MB_STAMP, .EVC_CSTAT], [.freeCtr, .evc])
  | .take _ _ =>
    ([.SHX_HSTAT, .SHX_CTR_NEXT_LO, .SHX_CTR_NEXT_HI, .SHX_MB_STAT, .SHX_MB_RSP], [.shx])
  | .mailboxDone _ _ =>
    ([.SHX_OWNER, .SHX_MB_STAT, .EVC_CSTAT], [.freeCtr, .evc, .shx])
  | .mailboxAck _ _ =>
    ([.SHX_MB_STAT], [])
  | .counterFloorWrite _ _ _ =>
    ([.SHX_CTR_NEXT_LO, .SHX_CTR_NEXT_HI, .SHX_MB_RSP], [.shx])
  | .recordWrite _ =>
    ([
      .WRD_MSGSTAT, .WRD_VIO, .WRD_LOGCTL, .WRD_LOGLOST, .WRD_LOG_W, .SHX_HSTAT, .SHX_CR_TAIL, .SHX_CR_STAT, .SHX_MSIX_PBA, .EVC_CSTAT],
    [.freeCtr, .out, .evc, .kp, .shx])
  | .crEnable _ _ =>
    ([.SHX_CR_CTL, .SHX_CR_HEAD, .SHX_CR_TAIL], [])
  | .crHeadWrite _ _ =>
    ([.SHX_CR_HEAD, .SHX_CR_STAT], [])
  | .sherexNop _ _ | .getInfo _ _ | .getResources _ _ | .getExtents _ _ | .handleStatus _ _ | .rgnStatus _ _ | .deviceReset _ _
  | .ownerChange _ _ | .pinGrant _ _ | .pinRead _ _ | .sensors _ _ =>
    ([.SHX_MB_RSP], [.shx])
  | .extAssign _ _ | .extNarrow _ _ | .extRelease _ _ | .rgnLoad _ _ | .rgnClear _ _ | .rgnReadback _ _ | .fullLoad _ _
  | .setMembers _ _ | .setLoad _ _ _ _ | .jobStart _ _ | .engTest _ _ | .laneRestore _ _ | .retrain _ _ | .scrubPass _ _ | .dramRate _ _
  | .policyUpdate _ _ _ | .fwUpdate _ _ _ | .i2cXfer _ _ | .laneLoopback _ _ =>
    ([
      .CLK_MCK, .KRV_ELOG0, .KRV_ELOG1, .KRV_ELOG2, .KRV_AP, .MEM_BIST_STAT, .MEM_BRAM, .MEM_VAULT, .MEM_TMB, .MEM_RMP_STAT, .TMB_CFG,
      .TMB_STAT, .TMB_SET_JOB, .TMB_SET_TMO, .TMB_SET_ARG, .TMB_SET_JSTAT, .LNK_RET, .LNK_HCTL, .LNK_HSTAT, .LNK_HATT, .LNK_HREC,
      .LNK_HEVT, .LNK_LSTAT, .LNK_LTXEQ, .LNK_LLB, .LNK_LLBERR, .COH_PT_STAT, .COH_PT_DATA0, .COH_PT_DATA1, .COH_PT_DATA2, .COH_EVT,
      .COH_HEAD, .COH_DIR_OCC, .COH_DIR_ALLOC, .COH_DIR_EVICT, .COH_DIR_PEND, .COH_DC_ERR, .DDR_CTL, .DDR_STAT, .DDR_HOLD_STAT,
      .DDR_UE_CNT, .DDR_ELOG_W, .DDR_RMP_STAT, .DDR_EVT, .DDR_TIM_ACT, .DDR_TIM_SHADOW, .DDR_TIM_SHCTL, .DDR_TRN_STAT, .CFG_BOOT_STAT,
      .CFG_LDSTAT, .CFG_LDCNT, .CFG_RGN_CFG, .CFG_SECT, .CFG_FRD_STAT, .CFG_FRD_DATA, .SCB_PEND, .WRD_TXCLAMP, .WRD_MSGSTAT, .WRD_VIO,
      .WRD_GRANT, .WRD_LOGCTL, .WRD_LOGLOST, .WRD_LOG_W, .SHX_HSTAT, .SHX_CR_STAT, .SHX_MB_RSP, .SHX_MSIX_PBA, .EVC_CSTAT, .EVC_TCH,
      .PWR_EVT, .PWR_MODE_CTL, .PWR_MODE_STAT, .PWR_MODE_CHAN, .PWR_DOM_STAT, .PWR_MODE_UNIT, .PWR_MNT_RESP, .PWR_MNT_STAT,
      .PWR_MNT_ENT, .MGP_I2CSTAT, .MGP_I2CDATA],
    [.freeCtr, .out, .clk, .evc, .net, .fab, .cfg, .mem, .tmb, .lnk, .coh, .ddr, .kp, .shx, .mnt, .pwr, .pin])
  | .extentOfferTimeout _ | .extentReleaseResponse _ _ | .extentReleaseWaitExpiry _ =>
    ([
      .CLK_MCK, .KRV_ELOG0, .KRV_ELOG1, .KRV_ELOG2, .KRV_AP, .MEM_BIST_STAT, .MEM_BRAM, .MEM_VAULT, .MEM_TMB, .MEM_RMP_STAT, .TMB_CFG,
      .TMB_STAT, .TMB_SET_JOB, .TMB_SET_TMO, .TMB_SET_ARG, .TMB_SET_JSTAT, .LNK_RET, .LNK_HCTL, .LNK_HSTAT, .LNK_HATT, .LNK_HREC,
      .LNK_HEVT, .LNK_LSTAT, .LNK_LTXEQ, .LNK_LLB, .LNK_LLBERR, .COH_PT_STAT, .COH_PT_DATA0, .COH_PT_DATA1, .COH_PT_DATA2, .COH_EVT,
      .COH_HEAD, .COH_DIR_OCC, .COH_DIR_ALLOC, .COH_DIR_EVICT, .COH_DIR_PEND, .COH_DC_ERR, .DDR_CTL, .DDR_STAT, .DDR_HOLD_STAT,
      .DDR_UE_CNT, .DDR_ELOG_W, .DDR_RMP_STAT, .DDR_EVT, .DDR_TIM_ACT, .DDR_TIM_SHADOW, .DDR_TIM_SHCTL, .DDR_TRN_STAT, .CFG_BOOT_STAT,
      .CFG_LDSTAT, .CFG_LDCNT, .CFG_RGN_CFG, .CFG_SECT, .CFG_FRD_STAT, .CFG_FRD_DATA, .SCB_PEND, .WRD_TXCLAMP, .WRD_MSGSTAT, .WRD_VIO,
      .WRD_GRANT, .WRD_LOGCTL, .WRD_LOGLOST, .WRD_LOG_W, .SHX_HSTAT, .SHX_CR_STAT, .SHX_MSIX_PBA, .EVC_CSTAT, .EVC_TCH, .PWR_EVT,
      .PWR_MODE_CTL, .PWR_MODE_STAT, .PWR_MODE_CHAN, .PWR_DOM_STAT, .PWR_MODE_UNIT, .PWR_MNT_RESP, .PWR_MNT_STAT, .PWR_MNT_ENT,
      .MGP_I2CSTAT, .MGP_I2CDATA],
    [.freeCtr, .out, .clk, .evc, .net, .fab, .cfg, .mem, .tmb, .lnk, .coh, .ddr, .kp, .shx, .mnt, .pwr, .pin])
  | .xlatSet _ _ =>
    ([.COH_XM_DATA0, .COH_XM_DATA1, .COH_XM_DATA2, .SHX_MB_RSP], [.coh, .shx])
  | .rgnAssign _ _ =>
    ([.CFG_RGN_CFG, .SHX_MB_RSP], [.shx])
  | .rgnAbort _ _ =>
    ([
      .KRV_ELOG0, .KRV_ELOG1, .KRV_ELOG2, .KRV_AP, .CFG_BOOT_STAT, .CFG_PINS, .CFG_LDSTAT, .CFG_LDERR, .CFG_LDCNT, .CFG_EVT,
      .CFG_RGN_CFG, .CFG_SECT, .SCB_PEND, .SHX_MB_RSP, .EVC_CSTAT, .PWR_MODE_STAT, .PWR_MODE_UNIT, .PWR_MNT_STAT, .PWR_MNT_ENT],
    [.freeCtr, .evc, .net, .fab, .cfg, .mem, .shx, .mnt, .pwr])
  | .setCreate _ _ | .setDelete _ _ =>
    ([.TMB_STAT, .TMB_SET_CFG, .SHX_MB_RSP], [.mem, .tmb, .shx])
  | .jobStop _ _ | .setDoorbell _ _ =>
    ([.SHX_MB_RSP], [.tmb, .shx])
  | .winBind _ _ =>
    ([.TMB_TW_CFG, .TMB_TW_BASE_LO, .TMB_TW_BASE_HI, .TMB_TW_BOUND, .SHX_MB_RSP], [.shx])
  | .winUnbind _ _ =>
    ([.TMB_TW_CFG, .SHX_MB_RSP], [.shx])
  | .cancel _ _ =>
    ([
      .KRV_AP, .COH_HEAD, .COH_DIR_OCC, .COH_DIR_PEND, .CFG_LDSTAT, .CFG_LDCNT, .CFG_RGN_CFG, .CFG_SECT, .SCB_PEND, .SHX_HSTAT,
      .SHX_CR_STAT, .SHX_MB_RSP, .EVC_CSTAT, .PWR_EVT, .PWR_MODE_STAT, .PWR_MODE_UNIT, .PWR_MNT_STAT, .PWR_MNT_ENT],
    [.freeCtr, .evc, .net, .fab, .cfg, .mem, .coh, .ddr, .shx, .mnt, .pwr])
  | .evtRoute _ _ =>
    ([.SHX_MB_RSP, .EVC_STAT, .EVC_CSTAT, .EVC_SRC], [.evc, .shx])
  | .wakeCtl _ _ =>
    ([.SHX_MB_RSP, .EVC_TCH], [.shx])
  | .tenantReset _ _ =>
    ([
      .KRV_ELOG0, .KRV_ELOG1, .KRV_ELOG2, .KRV_AP, .TMB_STAT, .CFG_BOOT_STAT, .CFG_PINS, .CFG_LDSTAT, .CFG_LDERR, .CFG_LDCNT, .CFG_EVT,
      .CFG_RGN_CFG, .CFG_SECT, .SCB_PEND, .WRD_GRANT, .WRD_HWIN, .SHX_MB_RSP, .EVC_CSTAT, .PWR_MODE_STAT, .PWR_MODE_UNIT,
      .PWR_TRST_STAT, .PWR_MNT_STAT, .PWR_MNT_ENT],
    [.freeCtr, .evc, .net, .fab, .cfg, .mem, .tmb, .kp, .shx, .mnt, .pwr])
  | .keyInstallOwner _ _ | .keySet _ _ | .keyReplace _ _ | .keyErase _ _ =>
    ([.SHX_HSTAT, .SHX_MB_RSP], [.shx])
  | .imgkeyHash _ _ =>
    ([.CFG_TKH, .SHX_MB_RSP], [.shx])
  | .imgkeyDec _ _ =>
    ([.SHX_MB_RSP], [.cfg, .shx])
  | .pinWrite _ _ =>
    ([.SHX_MB_RSP, .MGP_PIN, .MGP_EVSTAT], [.shx, .pin])
  | .linkStats _ _ =>
    ([.LNK_HATT, .LNK_HREC, .LNK_HFEC, .LNK_HREPLAY, .LNK_LERR, .SHX_MB_RSP], [.shx])
  | .raise _ | .fevt _ _ _ | .watchdogExpiry _ | .halfTime =>
    ([.EVC_CSTAT], [.freeCtr, .evc])
  | .claim _ =>
    ([.EVC_CSTAT, .EVC_HOLD], [.rdata, .evc])
  | .complete _ _ =>
    ([.EVC_STAT, .EVC_CSTAT], [.evc])
  | .evcSrcWrite _ _ =>
    ([.EVC_STAT, .EVC_CSTAT, .EVC_SRC], [.evc])
  | .evcSwset _ =>
    ([.EVC_STAT, .EVC_CSTAT], [.freeCtr, .evc])
  | .holdOffExpiry _ =>
    ([.EVC_CSTAT, .EVC_HOLD], [.evc])
  | .notification _ =>
    ([.SHX_MSIX_PBA, .EVC_DROP, .EVC_HOLD, .EVC_TCH], [.out, .evc])
  | .watchdogEnable _ =>
    ([.KP_WDT_CTL], [.evc])
  | .modeGo _ | .unitrst _ =>
    ([
      .KRV_ELOG0, .KRV_ELOG1, .KRV_ELOG2, .KRV_AP, .MEM_BIST_STAT, .MEM_BRAM, .MEM_VAULT, .MEM_TMB, .MEM_RMP_STAT, .TMB_STAT, .LNK_HCTL,
      .LNK_HSTAT, .LNK_LSTAT, .LNK_LLB, .COH_HEAD, .COH_DIR_OCC, .COH_DIR_ALLOC, .COH_DIR_EVICT, .COH_DIR_PEND, .DDR_CTL, .DDR_STAT,
      .DDR_HOLD_STAT, .DDR_UE_CNT, .DDR_ELOG_W, .DDR_RMP_STAT, .DDR_EVT, .DDR_TRN_STAT, .CFG_SECT, .SCB_PEND, .EVC_CSTAT, .EVC_TCH,
      .PWR_MODE_CTL, .PWR_MODE_STAT, .PWR_DOM_STAT, .PWR_MODE_UNIT, .PWR_MNT_STAT, .PWR_MNT_ENT],
    [.freeCtr, .evc, .net, .fab, .cfg, .mem, .tmb, .lnk, .coh, .ddr, .mnt, .pwr])
  | .prepareAck _ | .unitRefuse _ | .modeTimeout =>
    ([.PWR_MODE_STAT, .PWR_MODE_UNIT], [.pwr])
  | .commit _ =>
    ([
      .CLK_FCK, .CLK_ECK, .CLK_MCK, .KRV_ELOG0, .KRV_ELOG1, .KRV_ELOG2, .KRV_AP, .MEM_BIST_STAT, .MEM_BRAM, .MEM_VAULT, .MEM_TMB,
      .MEM_RMP_STAT, .TMB_STAT, .LNK_HCTL, .LNK_HSTAT, .LNK_LSTAT, .LNK_LLB, .COH_HEAD, .COH_DIR_OCC, .COH_DIR_ALLOC, .COH_DIR_EVICT,
      .COH_DIR_PEND, .DDR_CTL, .DDR_STAT, .DDR_HOLD_STAT, .DDR_UE_CNT, .DDR_ELOG_W, .DDR_RMP_STAT, .DDR_EVT, .DDR_TRN_STAT, .CFG_SECT,
      .SCB_PEND, .EVC_CSTAT, .EVC_TCH, .PWR_EVT, .PWR_MODE_STAT, .PWR_DOM_STAT, .PWR_MODE_UNIT, .PWR_MNT_STAT, .PWR_MNT_ENT],
    [.freeCtr, .evc, .net, .fab, .cfg, .mem, .tmb, .lnk, .coh, .ddr, .mnt, .pwr])
  | .rampComplete _ =>
    ([
      .MEM_BIST_STAT, .DDR_STAT, .EVC_CSTAT, .PWR_EVT, .PWR_MODE_STAT, .PWR_DOM_STAT, .PWR_MODE_UNIT],
    [.freeCtr, .evc, .lnk, .pwr])
  | .rollbackComplete | .rollbackTimeout _ =>
    ([.EVC_CSTAT, .PWR_EVT, .PWR_MODE_STAT, .PWR_MODE_UNIT], [.freeCtr, .evc, .pwr])
  | .trstGo _ =>
    ([
      .KRV_ELOG0, .KRV_ELOG1, .KRV_ELOG2, .KRV_AP, .TMB_STAT, .CFG_BOOT_STAT, .CFG_PINS, .CFG_LDSTAT, .CFG_LDERR, .CFG_LDCNT, .CFG_EVT,
      .CFG_RGN_CFG, .CFG_SECT, .SCB_PEND, .WRD_GRANT, .WRD_HWIN, .EVC_CSTAT, .PWR_MODE_STAT, .PWR_MODE_UNIT, .PWR_TRST_STAT,
      .PWR_MNT_STAT, .PWR_MNT_ENT],
    [.freeCtr, .evc, .net, .fab, .cfg, .mem, .tmb, .kp, .mnt, .pwr])
  | .tenantResetComplete =>
    ([
      .KRV_ELOG0, .KRV_ELOG1, .KRV_ELOG2, .KRV_AP, .TMB_STAT, .COH_EVT, .COH_HEAD, .COH_DIR_OCC, .COH_DIR_PEND, .COH_DC_ERR,
      .CFG_BOOT_STAT, .CFG_PINS, .CFG_LDSTAT, .CFG_LDERR, .CFG_LDCNT, .CFG_EVT, .CFG_RGN_CFG, .CFG_SECT, .SCB_PEND, .SHX_HSTAT,
      .SHX_CR_STAT, .EVC_CSTAT, .EVC_TCH, .PWR_EVT, .PWR_MODE_STAT, .PWR_MODE_UNIT, .PWR_TRST_STAT, .PWR_MNT_STAT, .PWR_MNT_ENT],
    [.freeCtr, .out, .evc, .net, .fab, .cfg, .mem, .tmb, .coh, .ddr, .shx, .mnt, .pwr])
  | .supplyLoss _ =>
    ([
      .KRV_ELOG0, .KRV_ELOG1, .KRV_ELOG2, .KRV_AP, .MEM_BIST_STAT, .MEM_BRAM, .MEM_VAULT, .MEM_TMB, .MEM_RMP_STAT, .TMB_STAT, .LNK_HCTL,
      .LNK_HSTAT, .LNK_LSTAT, .LNK_LLB, .COH_HEAD, .COH_DIR_OCC, .COH_DIR_ALLOC, .COH_DIR_EVICT, .COH_DIR_PEND, .DDR_CTL, .DDR_STAT,
      .DDR_HOLD_STAT, .DDR_UE_CNT, .DDR_ELOG_W, .DDR_RMP_STAT, .DDR_EVT, .DDR_TRN_STAT, .CFG_SECT, .SCB_PEND, .EVC_CSTAT, .EVC_TCH,
      .PWR_SUP_STAT, .PWR_EVT, .PWR_MODE_STAT, .PWR_DOM_STAT, .PWR_MODE_UNIT, .PWR_MNT_STAT, .PWR_MNT_ENT],
    [.freeCtr, .evc, .net, .fab, .cfg, .mem, .tmb, .lnk, .coh, .ddr, .mnt, .pwr])
  | .supplyReturn _ =>
    ([.PWR_SUP_STAT], [.pwr])
  | .maintenanceRequest _ =>
    ([.PWR_MNT_RESP, .PWR_MNT_STAT, .PWR_MNT_ENT], [.mnt])
  | .pwrMntDone _ =>
    ([
      .KRV_AP, .COH_HEAD, .COH_DIR_OCC, .COH_DIR_PEND, .CFG_LDSTAT, .CFG_LDCNT, .CFG_RGN_CFG, .CFG_SECT, .SCB_PEND, .EVC_CSTAT,
      .PWR_EVT, .PWR_MODE_STAT, .PWR_MODE_UNIT, .PWR_MNT_STAT, .PWR_MNT_ENT],
    [.freeCtr, .evc, .net, .fab, .cfg, .mem, .coh, .ddr, .mnt, .pwr])
  | .pinRegisterWrite _ _ _ =>
    ([.WRD_LOGCTL, .WRD_LOGLOST, .WRD_LOG_W, .MGP_PIN, .MGP_EVSTAT], [.pin])
  | .functionSwitch _ _ _ =>
    ([.WRD_LOGCTL, .WRD_LOGLOST, .WRD_LOG_W, .MGP_PIN, .MGP_MAP], [.pin])
  | .gapEnd _ =>
    ([.MGP_PIN, .MGP_EVSTAT], [.pin])
  | .eventLineWrite _ _ _ =>
    ([.WRD_LOGCTL, .WRD_LOGLOST, .WRD_LOG_W, .MGP_EVL, .MGP_EVSTAT], [.pin])
  | .pinEvent _ _ =>
    ([.MGP_EVSTAT], [.pin])
  | .i2cGo _ _ _ =>
    ([.MGP_I2CSTAT], [.out, .pin])
  | .i2cDone _ _ =>
    ([.MGP_I2CSTAT, .MGP_I2CDATA], [.pin])
  | .smbusTimeout _ =>
    ([.MGP_I2CSTAT], [.pin])
  | .uartDataWrite _ _ _ | .uartReceive _ _ _ =>
    ([.MGP_UARTSTAT], [.pin])
  | .uartDataRead _ =>
    ([.MGP_UARTSTAT], [.rdata, .pin])
  | .spiExchange _ _ _ =>
    ([.MGP_SPISTAT], [.out])
  | .spiDone _ _ =>
    ([.MGP_SPIDATA, .MGP_SPISTAT], [])
  | .tachEdge _ =>
    ([.MGP_TACH], [.pin])
  | .sessionEntry =>
    ([.KH_SES, .KH_CHAL, .KH_AUTH], [.freeCtr, .kh])
  | .kspRead _ =>
    ([.KP_SRAM_CE, .KP_SRAM_UE, .KH_STAT], [.freeCtr, .kp, .kh])
  | .frameGapTimeout | .keyholeNop =>
    ([.KH_STAT], [.kh])
  | .khRead =>
    ([.EVC_CSTAT, .KH_STAT, .KH_VT_STAT], [.freeCtr, .evc, .kh])
  | .khWrite | .auth _ | .coreResume _ | .cregRead _ | .cregWrite _ _ | .engineHalt _ | .engineStep _ | .engineResume _ | .tregRead _
  | .tregWrite _ _ | .vtRxWrite _ | .khImgData _ =>
    ([
      .KP_CORE_STAT, .EVC_CSTAT, .KH_SES, .KH_STAT, .KH_DAHI, .KH_CHAL, .KH_RESP, .KH_AUTH, .KH_CORE_CTL, .KH_CORE_STAT, .KH_CREG_SEL,
      .KH_CREG_LO, .KH_CREG_HI, .KH_TMB_STAT, .KH_TREG_SEL, .KH_TREG_DATA, .KH_VT_RX, .KH_VT_STAT, .KH_VT_EN, .KH_IMG_CTL],
    [.freeCtr, .evc, .tmb, .kp, .kh])
  | .daRead | .daWrite =>
    ([.KRV_ELOG0, .KRV_ELOG1, .KRV_ELOG2, .KRV_AP, .KH_STAT], [.net, .coh, .kh])
  | .kspWrite =>
    ([.KP_SRAM_CE, .KP_SRAM_UE, .KH_STAT], [.kp, .kh])
  | .exit =>
    ([.KH_SES, .KH_STAT], [.kh])
  | .coreHalt _ _ | .ebreakHalt _ _ =>
    ([.KP_CORE_STAT, .KP_LSCTL, .EVC_CSTAT, .KH_CORE_STAT], [.freeCtr, .evc, .kp, .kh])
  | .coreStep _ _ _ =>
    ([.KH_CORE_STAT], [.kp])
  | .vtTxWrite _ =>
    ([.KH_VT_TX, .KH_VT_STAT], [])
  | .vtTxRead =>
    ([.EVC_CSTAT, .KH_STAT, .KH_VT_STAT], [.freeCtr, .rdata, .evc])
  | .vtRxRead =>
    ([.KH_VT_STAT], [.rdata])
  | .keyholeRelease =>
    ([.CLK_STRAP, .PWR_BOOTCNT], [.clk, .kh])
  | .fabricClockEdge _ _ _ =>
    ([], [.freeCtr, .clk, .fab, .mem, .pin])
  | .laneStageReached _ _ _ _ =>
    ([.LNK_HSTAT, .LNK_LSTAT, .LNK_LRXEQ], [])
  | .receiverError _ =>
    ([.LNK_LERR], [])
  | .fecCorrection _ =>
    ([.LNK_HFEC], [])
  | .linkReplay _ =>
    ([.LNK_HREPLAY], [])
  | .loopbackMismatch _ =>
    ([.LNK_LLBERR], [])
  | .farEndLoopbackExit _ =>
    ([.LNK_HSTAT, .LNK_LLB], [])
  | .wfi _ =>
    ([.EVC_CSTAT], [.evc])
  | .msixEnable _ _ =>
    ([.SHX_MSIX_PBA, .EVC_HOLD, .EVC_TCH], [.out, .evc])
  | .loopbackTimeExpiry _ =>
    ([
      .KRV_ELOG0, .KRV_ELOG1, .KRV_ELOG2, .KRV_AP, .LNK_HCTL, .LNK_HSTAT, .LNK_HEVT, .LNK_LSTAT, .LNK_LLB, .LNK_LLBERR, .COH_HEAD,
      .COH_DIR_OCC, .COH_DIR_ALLOC, .COH_DIR_EVICT, .COH_DIR_PEND, .DDR_HOLD_STAT, .DDR_UE_CNT, .DDR_ELOG_W, .DDR_EVT, .CFG_LDSTAT,
      .CFG_LDCNT, .CFG_RGN_CFG, .CFG_SECT, .SCB_PEND, .SHX_HSTAT, .SHX_CR_STAT, .EVC_CSTAT, .EVC_TCH, .PWR_EVT, .PWR_MODE_STAT,
      .PWR_MODE_UNIT, .PWR_MNT_STAT, .PWR_MNT_ENT],
    [.freeCtr, .evc, .net, .fab, .cfg, .mem, .lnk, .coh, .ddr, .shx, .mnt, .pwr])
  | .authHoldExpiry _ _ =>
    ([.SHX_HSTAT, .SHX_CTR_NEXT_LO, .SHX_CTR_NEXT_HI, .SHX_MB_RSP], [.shx])
  | .uartTransmit _ =>
    ([.MGP_UARTSTAT], [.out, .pin])
  | .tachTimeout _ =>
    ([.MGP_TACH], [])
  | .targetSlot =>
    ([.KH_STAT], [.out, .kh])
  | .clearingRead r _ _ =>
    (r :: [.CLK_DTC_HI, .EVC_CSTAT, .EVC_HOLD, .MGP_UARTSTAT, .KH_VT_STAT], [.freeCtr, .rdata, .evc, .pin])

end Sys2Proof
end

