-- ==== Sys2Proof/Certificates/Slice0/Obligations.lean ====
section
/-! DEFINITION. The statements for the provers: what the commands do, rule by rule, to the state the spec gives the device; the frame of every
command; and what every step keeps. -/

open Sys2Proof
open Sys2Proof.Machine

namespace Sys2Proof

/-! ### What the statements are written in -/

/-- The registers outside the blocks SHX, MGP and KH and outside the engines' control registers whose writes have a rule of their own, so that R9
alone does not say what a write of them does. -/
def ownRule : List RegName := [
  .CLK_ROOT_CFG, .CLK_KCK_CTL, .CLK_CCK_CTL, .CLK_FCK, .CLK_ECK, .CLK_MCK, .KRV_TMO, .KRV_KNK_SPARE, .MEM_LOG_CTL, .MEM_RMP_SEL,
  .MEM_RMP_CMD, .TMB_CFG, .TMB_STAT, .TMB_CTL, .TMB_SET_CFG, .TMB_SET_JOB, .TMB_SET_STOP, .TMB_SET_DB, .TMB_TW_CFG, .TMB_TW_BASE_LO,
  .TMB_TW_BASE_HI, .TMB_TW_BOUND, .LNK_RET, .LNK_HCTL, .LNK_HTHR, .LNK_HEVT, .LNK_HEVEN, .LNK_LLB, .COH_PT_CMD, .COH_XM_CMD,
  .COH_VLOG_CTL, .DDR_CFG, .DDR_CTL, .DDR_ILV, .DDR_HOLD_CTL, .DDR_RMP_CMD, .DDR_TIM_SHCTL, .DDR_TRN_CTL, .DDR_DLY_DATA, .DDR_RXEQ_DATA,
  .DDR_MR_CMD, .CFG_CMD, .CFG_RGN_CFG, .CFG_FRD_CMD, .CFG_TKH, .CFG_TEK, .SCB_FIX_DATA, .SCB_FIXCMD, .SCB_LOGCTL, .KP_WDT_CTL,
  .KP_WDT_KICK, .KP_DMA_DESC, .WRD_LOGCTL, .EVC_SWSET, .EVC_COMPLETE, .EVC_THR, .EVC_SRC, .PWR_RST_CTL, .PWR_MODE_CTL, .PWR_TRST_CMD,
  .PWR_MNT_REQ, .PWR_MNT_DONE]

/-- A register whose writes R9 alone describes: none of those, no control register of an engine, and none of the blocks SHX, MGP and KH. -/
def Plain (r : RegName) : Prop :=
  r ∉ ownRule ∧ crOf r 0 = none ∧ shxHead r 0 = none ∧ khOffset r 0 = none ∧ ∀ row ∈ regRowsMGP, row.reg ≠ r

/-- What a write of `v` leaves in a field that holds `old` (R8, R9): `ok` says that the written encoding is not reserved and `sealed` that the
register's seal is set. -/
def fieldAfter (acc : Access) (ok isSealed : Bool) (old v : Nat) (w : Nat) : Nat :=
  match acc with
  | .RW => if ok then v else old
  | .RWL => if ok && !isSealed then v else old
  | .W1C => old - (old &&& v)
  | .W1S => (old ||| v) % 2 ^ w
  | .RO => old
  | .WO => old
  | .RC => old

/-- From `s` to `t` a write of `v` to copy `i` of register `r` takes effect field by field (R7, R8, R9). -/
def FieldsWritten (r : RegName) (i : Nat) (v : Word) (s t : State) : Prop :=
  (∀ f ∈ regFields r i, getF (t.reg r i) f.lo f.width =
    fieldAfter f.kacc (writeLegal s r i v f.lo (getF v f.lo f.width)) (writeSealed s r) (getF (s.reg r i) f.lo f.width)
      (getF v f.lo f.width) f.width) ∧
  (∀ k : Fin 32, (∀ f ∈ regFields r i, k.val < f.lo ∨ f.lo + f.width ≤ k.val) → getF (t.reg r i) k 1 = getF (s.reg r i) k 1) ∧
  ∀ j : Nat, j ≠ i → t.reg r j = s.reg r j

/-- From `s` to `t` a device-wide reset of class `c` other than power-on: the registers, and of the hidden state what no reset reaches (R441, R442,
R443).  `mon` is the cause, the leaf and the step that CLK_MON_CAUSE records, where the reset is a clock-fail reset. -/
def ResetOf (c : Nat) (mon : Option (Nat × Nat × Nat)) (s t : State) : Prop :=
  t.rd F.PWR_RST_CAUSE.LAST 0 = c ∧
  (∀ k : Fin 5, nbit (t.rd F.PWR_RST_CAUSE.SEEN 0) k = (nbit (s.rd F.PWR_RST_CAUSE.SEEN 0) k || k.val == c)) ∧
  (match mon with
    | none => t.reg .CLK_MON_CAUSE 0 = s.reg .CLK_MON_CAUSE 0
    | some (x, l, n) => t.rd F.CLK_MON_CAUSE.CAUSE 0 = x ∧ t.rd F.CLK_MON_CAUSE.LEAF 0 = l ∧ t.rd F.CLK_MON_CAUSE.STEP 0 = n) ∧
  (∀ r ∈ [RegName.SHX_OWNER, .WRD_GRTMO, .WRD_THERM, .WRD_PWR, .WRD_PINOWN, .WRD_MSG], ∀ i, t.reg r i = s.reg r i) ∧
  (∀ f ∈ [F.WRD_STAT.SEALED, F.WRD_THSTAT.TRIP, F.WRD_THSTAT.SENSOR, F.CLK_STRAP.XSEL, F.CLK_STRAP.XDLY, F.CFG_BOOT_STAT.BOOT_MODE,
    F.CFG_BOOT_STAT.BMBAD], t.rd f 0 = s.rd f 0) ∧
  (∀ r ∉ [RegName.CLK_MON_CAUSE, .PWR_BOOTCNT, .PWR_RST_CAUSE, .PWR_SUP_STAT, .SHX_OWNER, .WRD_GRTMO, .WRD_THERM, .WRD_PWR, .WRD_PINOWN,
    .WRD_MSG, .WRD_STAT, .WRD_THSTAT, .CLK_STRAP, .CFG_BOOT_STAT], ∀ i, t.reg r i = regReset r i) ∧
  t.pending = s.pending ∧ t.memGen = s.memGen + 1 ∧ t.shx.floor = s.shx.floor ∧ t.shx.keys = s.shx.keys ∧ t.shx.flash = s.shx.flash ∧
  t.shx.ops = [] ∧ t.shx.held = [] ∧ t.clk.koscOn = s.clk.koscOn ∧ t.tmb = .init ∧ t.coh = .init ∧ t.ddr = .init ∧ t.mem = .init ∧
  t.cfg = .init ∧ t.kp = .init ∧ t.fab = .init ∧ t.net = .init ∧ t.evc = .init ∧ t.mnt = .init

/-- From `s` to `t` the event lines have seen the levels of their pins in `t`: a change that a line's mode asks for sets its bit, and every other bit
stands (R466). -/
def LinesSaw (s t : State) : Prop :=
  ∀ n : Fin 16, ∀ l : Bool, l = padLevel t (linePin s n) →
    t.pin.seen.getLsbD n = l ∧
    nbit (t.rd F.MGP_EVSTAT.LINES 0) n = (nbit (s.rd F.MGP_EVSTAT.LINES 0) n || (s.pin.seen.getLsbD n != l &&
      (match s.rd F.MGP_EVL.MODE n with
       | 1 => l
       | 2 => !l
       | 3 => true
       | 4 => l
       | 5 => !l
       | _ => false)))

/-- A register request that has arrived at the hub gets through to the block at endpoint `ep`, and its response back, within the command (R83). -/
def HubReaches (s : State) (q : Req) (ep : Nat) : Prop :=
  ∃ u : State, reach (.req q.src q.txn) s = some u ∧
    (ep = hubEp ∨ leafRoute s (epLeaf hubEp) (epLeaf ep) ≠ none ∧
      ((carry (.req q.src q.txn) 3 hubEp ep (takeReq q u)).bind (carry (.resp q.src q.txn) 1 ep hubEp)).isSome = true)

/-- The attempt is begun: PWR_BOOTCNT counts it, from the count in `s`, and it stands at the end of step 2, or of step 3 where XSEL selects the
input that needs no delay (R41, R441). -/
def AttemptBegun (s t : State) : Prop :=
  t.rd F.PWR_BOOTCNT.COUNT 0 = min (s.rd F.PWR_BOOTCNT.COUNT 0 + 1) (2 ^ F.PWR_BOOTCNT.COUNT.width - 1) ∧
  t.clk.step = if s.flag F.CLK_STRAP.XSEL 0 then 2 else 3

end Sys2Proof

/-! ### The clock and the root (chapter 2) -/

/-- Start-up and the root (R37, R39, R41, R43, R44): each event of an attempt, in the step it belongs to, leads to the next step and leaves what it
latched or set; after the leaves align the epoch is set and the DTC starts at 0. MULT is taken up only where neither KCK nor CCK is on the root and
the root is not sealed; the DTC then holds until the relock has ended, and goes on from the value it held. Sealing is one way. The model's own
choices in it: log entries 5, 9, 30, 31, 33, 151. -/
def Obligations.StartupEventsAndTheMultiplierSetTheRoot : Prop :=
  (∀ (s : State) (khLow : Bool), s.clk.step = 0 →
    Completes (.suppliesGood khLow) s fun t => t.clk.step = 1 ∧ t.clk.koscOn = true ∧ t.kh.held = khLow) ∧
  (∀ (s : State) (xsel : BitVec 1) (xdly : BitVec 2) (bootMode : BitVec 3),
    s.clk.step = 1 → s.clk.koscOn = true → s.clk.strapsLatched = false →
    Completes (.koscStable xsel xdly bootMode) s fun t =>
      t.rd F.CLK_STRAP.XSEL 0 = xsel.toNat ∧ t.rd F.CLK_STRAP.XDLY 0 = xdly.toNat ∧
      t.rd F.CFG_BOOT_STAT.BOOT_MODE 0 = bootMode.toNat ∧ t.flag F.CFG_BOOT_STAT.BMBAD 0 = decide (5 ≤ bootMode.toNat) ∧
      t.clk.strapsLatched = true ∧ t.clk.step = if s.kh.held then 1 else if xsel = 1 then 2 else 3) ∧
  (∀ (s : State) (w : RefWindow), s.clk.step = 2 →
    Completes (.crystalDelayComplete w) s fun t =>
      t.clk.step = 3 ∧
      t.rd F.CLK_STRAP.REFKIND 0 = if windowInRange w 2500 then 2 else if windowInRange w 5000 then 3 else 0) ∧
  (∀ s : State, s.clk.step = 3 → s.rd F.CLK_STRAP.REFKIND 0 ≠ 0 → Completes .referencePresent s fun t => t.clk.step = 4) ∧
  (∀ s : State, s.clk.step = 4 → Completes .rootPllLock s fun t =>
    t.clk.step = 5 ∧ t.rd F.CLK_ROOT_STAT.LOCK 0 = 15 ∧ (t.rd F.CLK_ROOT_STAT.ALIGNED 0).testBit 0 = true) ∧
  (∀ s : State, s.clk.step ≠ 4 → s.flag F.CLK_ROOT_STAT.RELOCK 0 = true → Completes .rootPllLock s fun t =>
    t.clk = s.clk ∧ t.rd F.CLK_ROOT_STAT.LOCK 0 = 15) ∧
  (∀ s : State, s.clk.step = 5 → Completes .leafAligned s fun t =>
    t.clk.step = 7 ∧ t.clk.dtc = 0 ∧ t.clk.rootEdges = 0 ∧ t.clk.dtcHeld = false ∧ t.flag F.CLK_ROOT_STAT.EPOCH 0 = true ∧
    t.rd F.CLK_ROOT_STAT.LOCK 0 = 15 ∧ t.rd F.CLK_ROOT_STAT.ALIGNED 0 = 15 ∧ t.rd F.CLK_MON_STAT.RUN 0 = 0) ∧
  (∀ (s : State) (v : Word), isMultWrite s v = true → onRoot s = false → s.flag F.CLK_ROOT_CFG.SEALED 0 = false →
    Completes (.multWrite v) s fun t =>
      t.rd F.CLK_ROOT_CFG.MULT 0 = F.CLK_ROOT_CFG.MULT.of v ∧ t.flag F.CLK_ROOT_STAT.RELOCK 0 = true ∧
      t.flag F.CLK_ROOT_STAT.EPOCH 0 = false ∧ t.rd F.CLK_ROOT_STAT.LOCK 0 = 0 ∧ t.clk.dtcHeld = true ∧ t.clk.dtc = s.clk.dtc) ∧
  (∀ (s : State) (v : Word), isMultWrite s v = true → (onRoot s = true ∨ s.flag F.CLK_ROOT_CFG.SEALED 0 = true) →
    Completes (.multWrite v) s fun t =>
      t.rd F.CLK_ROOT_CFG.MULT 0 = s.rd F.CLK_ROOT_CFG.MULT 0 ∧ t.flag F.CLK_ROOT_STAT.REJECT 0 = true ∧ t.clk = s.clk) ∧
  (∀ s : State, Completes .rootSeal s fun t =>
    t.flag F.CLK_ROOT_CFG.SEALED 0 = true ∧ t.rd F.CLK_ROOT_CFG.MULT 0 = s.rd F.CLK_ROOT_CFG.MULT 0 ∧ t.clk = s.clk) ∧
  (∀ s : State, s.flag F.CLK_ROOT_STAT.RELOCK 0 = true → Completes .relockComplete s fun t =>
    t.flag F.CLK_ROOT_STAT.RELOCK 0 = false ∧ t.flag F.CLK_ROOT_STAT.EPOCH 0 = true ∧ t.rd F.CLK_ROOT_STAT.ALIGNED 0 = 15 ∧
    t.clk.dtcHeld = false ∧ t.clk.dtc = s.clk.dtc ∧ t.clk.rootEdges = 0)

/-- Dividers and source switches (R44, R49, R50, R54–R56): an enabled divider seals the root; a divisor takes effect at the first edge
after its commit that is a multiple of the least common multiple of the old and the new one, and at no other; a changed source starts a switch, whose end makes the new clock drive, and a write during it waits. The model's own choices in it: log
entry 5. -/
def Obligations.DividersAndSwitchesChangeAsCommitted : Prop :=
  (∀ (s : State) (d : ClkDiv) (en : Bool), Completes (.dividerEnable d en) s fun t =>
    divOn t d = en ∧ (en = true → t.flag F.CLK_ROOT_CFG.SEALED 0 = true) ∧
    divNow t d = divNow s d ∧ divNext t d = divNext s d ∧ t.clk = s.clk) ∧
  (∀ (s : State) (d : ClkDiv) (v c n : Nat), s.clk.committed = [(d, v, c)] → v < 2048 →
    let m := Nat.lcm (divNow s d) v
    (n = (c / m + 1) * m → Completes (.divisorChange n) s fun t =>
      divNow t d = v ∧ divNext t d = divNext s d ∧ divOn t d = divOn s d ∧ t.clk.committed = []) ∧
    (n ≠ (c / m + 1) * m → Completes (.divisorChange n) s fun t => t = s)) ∧
  (∀ (s : State) (d : SwDomain) (root : Bool), s.flag (swFields d).2.1 0 = false → s.rd (swFields d).1 0 ≠ b2n root →
    Completes (.sourceSwitch d root) s fun t =>
      t.flag (swFields d).1 0 = root ∧ t.flag (swFields d).2.1 0 = true ∧ t.clk = s.clk) ∧
  (∀ (s : State) (d : SwDomain) (root : Bool), s.flag (swFields d).2.1 0 = true →
    Completes (.sourceSwitch d root) s fun t =>
      swHeld t d = some root ∧ t.rd (swFields d).1 0 = s.rd (swFields d).1 0) ∧
  (∀ s : State, s.flag F.CLK_SW_STAT.BUSY_KCK 0 = true → s.clk.kckHeld = none → Completes (.switchComplete .kck) s fun t =>
    t.clk.kckRoot = s.flag F.CLK_KCK_CTL.SRC 0 ∧ t.flag F.CLK_SW_STAT.BUSY_KCK 0 = false ∧ t.clk.cckRoot = s.clk.cckRoot) ∧
  (∀ s : State, s.flag F.CLK_SW_STAT.BUSY_CCK 0 = true → s.clk.cckHeld = none → Completes (.switchComplete .cck) s fun t =>
    t.clk.cckRoot = s.flag F.CLK_CCK_CTL.SRC 0 ∧ t.flag F.CLK_SW_STAT.BUSY_CCK 0 = false ∧ t.clk.kckRoot = s.clk.kckRoot) ∧
  (∀ (s : State) (d : SwDomain), s.flag (swFields d).2.1 0 = true → Completes (.forcedSwitch d) s fun t =>
    t.flag (swFields d).2.2 0 = true ∧ t.flag (swFields d).2.1 0 = true ∧ t.clk = s.clk)

/-- Monitors and lane references (R57–R59, R63, R66): a window in range ends a run of bad windows, one out of range adds to it up to 16; a lane
reference's windows are counted up to 16 in range and 4 out of range, its presence follows the counts; a read of CLK_DTC_LO copies the high half.
The model's own choices in it: log entries 3, 10, 29. -/
def Obligations.MonitorWindowsAreCounted : Prop :=
  (∀ (s : State) (w : RefWindow) (e1 e2 e3 : BitVec 8) (lock : BitVec 4), 7 ≤ s.clk.step → windowInRange w (nominalRef s) = true →
    Completes (.monitorWindow w e1 e2 e3 lock) s fun t =>
      t.rd F.CLK_MON_STAT.RUN 0 = 0 ∧ t.rd F.CLK_MON_STAT.OOR_SEEN 0 = s.rd F.CLK_MON_STAT.OOR_SEEN 0 ∧
      t.rd F.CLK_ALIGN_ERR.ERR_L1 0 = e1.toNat ∧ t.rd F.CLK_ALIGN_ERR.ERR_L2 0 = e2.toNat ∧ t.rd F.CLK_ALIGN_ERR.ERR_L3 0 = e3.toNat) ∧
  (∀ (s : State) (w : RefWindow) (e1 e2 e3 : BitVec 8) (lock : BitVec 4), 7 ≤ s.clk.step → windowInRange w (nominalRef s) = false →
    Completes (.monitorWindow w e1 e2 e3 lock) s fun t =>
      t.rd F.CLK_MON_STAT.RUN 0 = min 16 (s.rd F.CLK_MON_STAT.RUN 0 + 1) ∧ t.flag F.CLK_MON_STAT.OOR_SEEN 0 = true ∧
      (s.rd F.CLK_MON_STAT.RUN 0 = 0 → s.flag F.CLK_MON_CTL.AUTOSW 0 = true → s.flag F.CLK_KCK_CTL.SRC 0 = true →
        s.flag F.CLK_SW_STAT.BUSY_KCK 0 = false → s.clk.kckHeld = none →
        t.flag F.CLK_KCK_CTL.SRC 0 = false ∧ t.flag F.CLK_MON_STAT.AUTOSW_DONE 0 = true) ∧
      (s.rd F.CLK_MON_STAT.RUN 0 = 0 → s.flag F.CLK_MON_CTL.EVT_EN 0 = true → s.flag F.EVC_SRC.EN 0 = true →
        (s.src 0).st = .inactive → heldFor s 0 = false → (t.src 0).st = .pending)) ∧
  (∀ (s : State) (n : Fin 8) (w : RefWindow), 7 ≤ s.clk.step → Completes (.laneReferenceWindow n w) s fun t =>
    (windowInRange w 10000 = true →
      sget 0 t.clk.lrefIn n = min 16 (sget 0 s.clk.lrefIn n + 1) ∧ sget 0 t.clk.lrefOut n = 0) ∧
    (windowInRange w 10000 = false →
      sget 0 t.clk.lrefIn n = 0 ∧ sget 0 t.clk.lrefOut n = min 4 (sget 0 s.clk.lrefOut n + 1)) ∧
    ∀ k : Nat, k ≠ n → sget 0 t.clk.lrefIn k = sget 0 s.clk.lrefIn k ∧ sget 0 t.clk.lrefOut k = sget 0 s.clk.lrefOut k) ∧
  (∀ (s : State) (n : Fin 8), sget 0 s.clk.lrefIn n = 16 → lrefPresent s n = false →
    Completes (.laneReferencePresent n) s fun t => lrefPresent t n = true ∧ t.clk = s.clk) ∧
  (∀ (s : State) (n : Fin 8), sget 0 s.clk.lrefOut n = 4 → lrefPresent s n = true →
    Completes (.laneReferenceLost n) s fun t =>
      lrefPresent t n = false ∧ nbit (t.rd F.CLK_LREF_STAT.LOST 0) n = true ∧ t.clk = s.clk) ∧
  (∀ s : State, Completes .dtcLoRead s fun t =>
    t.rdata = BitVec.ofNat 32 s.dtcNow ∧ t.rd F.CLK_DTC_HI.VALUE 0 = s.dtcNow / 2 ^ 32 % 2 ^ 32 ∧ t.clk = s.clk)

/-! ### The network (chapter 3) -/

/-- Knuckle channels (R95–R98): a mismatch replays and counts, a good replay ends it, a stall or too many replays retires the physical channel
onto a spare and pauses the logical channels that the remap moves, the end of the remap lets them run, the reset-time test takes failing
channels out, a restore tests again and brings a failed channel back. The model's own choices in it: log entries 5, 6, 194. -/
def Obligations.KnuckleChannelsReplayRetireAndRestore : Prop :=
  (∀ (s : State) (g : Fin 4) (n : Fin 16) (same : Bool), knkRuns (s.knkAt g n) = true → (s.knkAt g n).inRow < 4 →
    Completes (.knuckleCrcMismatch g n same) s fun t =>
      (t.knkAt g n).st = .replay ∧ (t.knkAt g n).replays = (s.knkAt g n).replays + 1 ∧
      ((t.knkAt g n).inRow = if (s.knkAt g n).st = .replay ∧ same = true then (s.knkAt g n).inRow + 1 else 1) ∧
      t.rd F.KRV_KNK_ERR.CRC_ERR g = min (s.rd F.KRV_KNK_ERR.CRC_ERR g + 1) (2 ^ F.KRV_KNK_ERR.CRC_ERR.width - 1) ∧
      t.rd F.KRV_KNK_ERR.REPLAY g = min (s.rd F.KRV_KNK_ERR.REPLAY g + 1) (2 ^ F.KRV_KNK_ERR.REPLAY.width - 1)) ∧
  (∀ (s : State) (g : Fin 4) (n : Fin 16) (p : Nat), (s.knkAt g n).st = .replay → 4 ≤ (s.knkAt g n).inRow →
      physOf s g n = some p → 0 < sparesLeft s g →
    Completes (.knuckleCrcMismatch g n true) s fun t => physOut t g p = true) ∧
  (∀ (s : State) (g : Fin 4) (n : Fin 16), (s.knkAt g n).st = .replay →
    Completes (.replayComplete g n) s fun t => t.knkAt g n = ⟨.active, (s.knkAt g n).replays, 0⟩ ∧ t.regs = s.regs) ∧
  (∀ (s : State) (g : Fin 4) (n : Fin 16) (p : Nat), knkRuns (s.knkAt g n) = true → s.knk.carrying = true → physOf s g n = some p →
      0 < sparesLeft s g → s.rd F.KRV_KNK_SPARE.RET0 g = 31 →
    Completes (.knuckleStall g n) s fun t =>
      t.rd F.KRV_KNK_SPARE.RET0 g = p ∧ t.knkAt g n = ⟨.retiring, 0, 0⟩ ∧ t.flag F.KRV_KNK_STAT.BUSY g = true ∧
      sparesLeft t g = sparesLeft s g - 1 ∧
      ∀ m : Fin 16, (m < n → t.knkAt g m = s.knkAt g m) ∧
        (n < m → logicalFailed s g m = false → t.knkAt g m = ⟨.retiring, (s.knkAt g m).replays, 0⟩)) ∧
  (∀ (s : State) (g : Fin 4) (n : Fin 16) (p : Nat), knkRuns (s.knkAt g n) = true → s.knk.carrying = true →
      s.rd F.KRV_KNK_THR.REPLAY_MAX 0 ≤ (s.knkAt g n).replays → physOf s g n = some p → 0 < sparesLeft s g →
      s.rd F.KRV_KNK_SPARE.RET0 g = 31 →
    Completes (.replayMaxReached g n) s fun t =>
      t.rd F.KRV_KNK_SPARE.RET0 g = p ∧ t.knkAt g n = ⟨.retiring, 0, 0⟩ ∧ t.flag F.KRV_KNK_STAT.BUSY g = true) ∧
  (∀ (s : State) (g : Fin 4) (n : Fin 16) (p : Nat), knkRuns (s.knkAt g n) = true → physOf s g n = some p → sparesLeft s g = 0 →
    Completes (.knuckleStall g n) s fun t => t.knkAt g n = ⟨.failed, 0, 0⟩ ∧ logicalFailed t g n = true) ∧
  (∀ s : State, s.expired s.knk.winStart (1000000 * s.rd F.KRV_KNK_THR.WIN 0) = true →
    Completes .replayWindowBoundary s fun t =>
      t.knk.winStart = s.knk.winStart + 1000000 * s.rd F.KRV_KNK_THR.WIN 0 ∧ t.regs = s.regs ∧
      ∀ k : Nat, (sget .idle t.knk.chan k).replays = 0) ∧
  (∀ (s : State) (failing : List KnkChannel), s.knk.carrying = false →
    Completes (.knuckleTestComplete failing) s fun t => t.knk.carrying = true ∧ t.knk.winStart = s.dtcNow) ∧
  (∀ (s : State) (c : KnkChannel), s.knk.carrying = false →
    Completes (.knuckleTestComplete [c]) s fun t => physOut t c.group c.phys = true) ∧
  (∀ (s : State) (g : Fin 4), s.flag F.KRV_KNK_STAT.BUSY g = true → nbit s.knk.restoring.toNat g = false →
    Completes (.remapComplete g) s fun t =>
      t.flag F.KRV_KNK_STAT.BUSY g = false ∧
      ∀ n : Fin 16, t.knkAt g n = { s.knkAt g n with st := if (s.knkAt g n).st = .retiring then .active else (s.knkAt g n).st }) ∧
  (∀ (s : State) (g : Fin 4), s.flag F.KRV_KNK_STAT.BUSY g = false → Completes (.knuckleRestore g) s fun t =>
    t.flag F.KRV_KNK_STAT.BUSY g = true ∧ nbit t.knk.restoring.toNat g = true) ∧
  (∀ (s : State) (g : Fin 4) (passing : List Nat), nbit s.knk.restoring.toNat g = true →
    Completes (.restoreComplete g passing) s fun t =>
      nbit t.knk.restoring.toNat g = false ∧
      (s.rd F.KRV_KNK_STAT.LFAIL g = 0 → (∀ n : Fin 16, (s.knkAt g n).st ≠ .retiring) → t.flag F.KRV_KNK_STAT.BUSY g = false) ∧
      (t.rd F.KRV_KNK_SPARE.RET0 g = if passing.contains (s.rd F.KRV_KNK_SPARE.RET0 g) then 31 else s.rd F.KRV_KNK_SPARE.RET0 g) ∧
      (t.rd F.KRV_KNK_SPARE.RET1 g = if passing.contains (s.rd F.KRV_KNK_SPARE.RET1 g) then 31 else s.rd F.KRV_KNK_SPARE.RET1 g)) ∧
  (∀ (s : State) (g : Fin 4) (n : Fin 16) (p : Fin 18), nbit s.knk.restoring.toNat g = true → s.rd F.KRV_KNK_STAT.LFAIL g = 2 ^ n.val →
      s.rd F.KRV_KNK_SPARE.RET0 g = 31 → s.rd F.KRV_KNK_SPARE.RET1 g = 31 → sget 0 s.knk.physFailed g = 2 ^ p.val →
      s.flag F.KRV_KNK_STAT.BUSY g = true →
    Completes (.restoreComplete g [p.val]) s fun t =>
      logicalFailed t g n = false ∧ t.knkAt g n = ⟨.retiring, 0, 0⟩ ∧ physOut t g p = false ∧ t.flag F.KRV_KNK_STAT.BUSY g = true)

/-- Flits (R75–R77, R79, R270): where a flit holds its fields, that the fields and the payload are read back from it and its CRC is good, that
an odd number of wrong bits anywhere in it is found, and which flits carry a request, a response, a snoop and its response. The model's own
choices in it: log entry 196. -/
def Obligations.FlitsCarryTheirFieldsAndShowDamage : Prop :=
  (∀ (h : FlitHead) (p : Line), h.cls < 4 → h.op < 8 → h.dst < 2 ^ 13 → h.src < 2 ^ 13 → h.txn < 256 → h.rqc < 8 → h.rqid < 32 →
    let f := mkFlit h p
    let n (hi lo : Nat) : Nat := f.toNat % 2 ^ (hi + 1) / 2 ^ lo
    n 1 0 = h.cls ∧ n 4 2 = h.op ∧ n 17 5 = h.dst ∧ n 30 18 = h.src ∧ n 38 31 = h.txn ∧ n 41 39 = h.rqc ∧ n 46 42 = h.rqid ∧
    n 47 47 = b2n h.more ∧ n 63 48 = (crcOf f).toNat ∧ n 575 64 = p.toNat ∧
    flitHead f = h ∧ flitPayload f = p ∧ flitGood f = true) ∧
  (∀ (f e : Flit), flitGood f = true → ((List.range 576).filter e.getLsbD).length % 2 = 1 → flitGood (f ^^^ e) = false) ∧
  (∀ r : Req, r.dst < 2 ^ 13 → r.src < 2 ^ 13 → r.txn < 256 → r.tag.cls < 8 → r.tag.id < 32 →
    let fs := reqFlitsOf r
    let write := r.op = .write ∧ r.dst ≠ hubEp
    (fs.length = if write then 2 else 1) ∧ fs.map (fun f => (flitHead f).more) = (if write then [true, false] else [false]) ∧
    (∀ f ∈ fs, ∃ more, flitHead f =
      ⟨if r.dst = hubEp then 3 else 0, if r.op = .write then 1 else 0, r.dst, r.src, r.txn, r.tag.cls, r.tag.id, more⟩) ∧
    (∀ f : Flit, fs.head? = some f → (flitPayload f).extractLsb' 0 48 = BitVec.ofNat 48 r.da ∧
      (flitPayload f).extractLsb' 48 6 = BitVec.ofNat 6 (r.len - 1)) ∧
    (r.dst = hubEp → r.op = .write → ∀ f : Flit, fs.head? = some f →
      (flitPayload f).extractLsb' 64 32 = r.data.extractLsb' (8 * (r.da % 64 / 4 * 4)) 32) ∧
    (write → fs.getLast?.map flitPayload = some r.data) ∧
    crcFails fs none = false ∧ ∀ k : Fin 1152, k.val < 576 * fs.length → crcFails fs (some k) = true) ∧
  (∀ (r : Resp) (da : Nat), r.dst < 2 ^ 13 → r.src < 2 ^ 13 → r.txn < 256 → r.tag.cls < 8 → r.tag.id < 32 →
    let fs := respFlitsOf da r
    fs.map flitHead = [⟨1, (match r.ans with
      | .data _ => 0
      | .poisoned _ => 1
      | .ack => 2
      | .error _ _ => 3), r.dst, r.src, r.txn, r.tag.cls, r.tag.id, false⟩] ∧
    (∀ f ∈ fs, match r.ans with
      | .data d => flitPayload f = d
      | .poisoned d => flitPayload f = d
      | .ack => True
      | .error c d => (flitPayload f).extractLsb' 0 8 = BitVec.ofNat 8 c ∧ (flitPayload f).extractLsb' 8 8 = BitVec.ofNat 8 d ∧
          (flitPayload f).extractLsb' 64 48 = BitVec.ofNat 48 da) ∧
    crcFails fs none = false ∧ ∀ k : Fin 1152, k.val < 576 → crcFails fs (some k) = true) ∧
  (∀ (src dst line : Nat) (inv shared : Bool) (data : Option Line), src < 2 ^ 13 → dst < 2 ^ 13 → 64 * line < 2 ^ 48 →
    flitHead (snoopFlit src dst line inv) = ⟨2, if inv then 0 else 1, dst, src, 0, 0, 0, false⟩ ∧
    (flitPayload (snoopFlit src dst line inv)).toNat = 64 * line ∧
    (let h (more : Bool) : FlitHead := ⟨2, 4 + b2n shared + 2 * b2n data.isSome, dst, src, 0, 0, 0, more⟩
     (snoopRespFlits src dst line shared data).map flitHead = if data.isSome = true then [h true, h false] else [h false]) ∧
    ∀ d : Line, data = some d → (snoopRespFlits src dst line shared data).getLast?.map flitPayload = some d)

/-- The buffers of the network hold no more than their places (R74, R87, R90), and a path that crosses a knuckle channel enters its sender's
buffer before its receiver's. -/
def BuffersHold (s : State) : Prop :=
  (∀ ep : Nat, (s.net.way.filter (fun u => u.here == some (.source ep) && u.cls == 0)).length ≤ 4) ∧
  (∀ ep cls : Nat, flitsAt s (.enter ep) cls ≤ 4) ∧
  (∀ a b n cls : Nat, flitsAt s (.link a b n) cls ≤ 4) ∧
  (∀ g leaf ch : Nat, flitsIn s (.send g leaf ch) ≤ 32) ∧
  (∀ g leaf ch cls : Nat, flitsAt s (.recv g leaf ch) cls ≤ 16 ∧
    flitsAt s (.send g leaf ch) cls + flitsAt s (.recv g leaf ch) cls ≤ 16) ∧
  (∀ ep : Nat, flitsAt s (.exit ep) 0 ≤ 4) ∧
  ∀ u ∈ s.net.way, ∀ k g leaf ch : Nat, u.path[k + 1]? = some (.recv g leaf ch) → u.path[k]? = some (.send g leaf ch)

/-- The path of a flow (R20, R36, R72, R84, R85): within a leaf the row changes first, then the column, by one router at a time, and
|Δrow| + |Δcolumn| + 1 routers are passed; the link of a bundle is that of the selector; every logical channel lands at one router; the
landing is the one of the fewest routers, then the fewest on the current leaf, then the lowest; nothing but the failed channels changes a
path; and the spec's three worked paths come out. A message that is brought to its destination stands first there, every move keeps each
buffer within its places and credits, and a message that has been passed once goes first (R74, R86, R87, R90). The model's own choices in it:
log entries 192, 193. -/
def Obligations.MessagesTakeOnePathAndKeepToTheirBuffers : Prop :=
  (∀ a b : Nat, a / 128 = b / 128 → a % 128 < 80 → b % 128 < 80 →
    let l := leafSteps a b
    l.length = ((a % 128 / 8 : Int) - (b % 128 / 8 : Int)).natAbs + ((a % 8 : Int) - (b % 8 : Int)).natAbs ∧
    (a :: l).getLast? = some b ∧
    (∃ k, (∀ r ∈ l.take k, r % 8 = a % 8) ∧ ∀ r ∈ l.drop k, r % 128 / 8 = b % 128 / 8) ∧
    ∀ i p q : Nat, (a :: l)[i]? = some p → l[i]? = some q →
      (p % 8 = q % 8 ∧ (q = p + 8 ∨ p = q + 8)) ∨ (p / 8 = q / 8 ∧ (q = p + 1 ∨ p = q + 1))) ∧
  (∀ x : BitVec 13, bundleLink x 2 = x.toNat % 2 ∧ bundleLink x 4 = (x.toNat % 4) ^^^ (x.toNat / 4 % 4) ∧ bundleLink x 4 < 4) ∧
  (∀ a b : Nat, a % 128 < 80 → b % 128 < 80 →
    linkWidth a b = if (a % 128 < 8 ∧ b % 128 < 8) ∨ (a % 8 = 0 ∧ b % 8 = 0) then 4 else 2) ∧
  (∀ a b : Nat, b % 128 < 80 → (linkWidth (128 * (a / 128) + 91) b = 4 ∧ linkWidth b (128 * (a / 128) + 92) = 4) ∧
    ∀ i : Nat, 80 ≤ i → i < 94 → i ≠ 91 → i ≠ 92 → linkWidth (128 * (a / 128) + i) b = 2 ∧ linkWidth b (128 * (a / 128) + i) = 2) ∧
  (∀ (g : Fin 4) (n : Fin 16), ∃ k ∈ landings g, n.val ∈ landingChans g k ∧ ∀ j ∈ landings g, n.val ∈ landingChans g j → j = k) ∧
  (∀ (g : Fin 4), ∀ k ∈ landings g, (landingChans g k).length = if g.val < 2 ∧ 6 ≤ k then 1 else 2) ∧
  (∀ (s : State) (q p : Nat × Nat) (g : Nat) (gs : List Nat), p.1 < 10 → p.2 < 8 → usableLandings s g ≠ [] →
    let here (k : Nat) : Nat := sectorHops p (landingSpot g k)
    let total (k : Nat) : Nat := here k + fewestHops s q gs (landingSpot g k)
    let k := chooseLanding s q g gs p
    k ∈ usableLandings s g ∧ ∀ j ∈ usableLandings s g,
      total k < total j ∨ (total k = total j ∧ (here k < here j ∨ (here k = here j ∧ k ≤ j)))) ∧
  (∀ (s t : State) (a src dst : Nat), (∀ g : Fin 4, s.rd F.KRV_KNK_STAT.LFAIL g = t.rd F.KRV_KNK_STAT.LFAIL g) →
      (∀ g : Fin 4, s.flag F.KRV_KNK_STAT.DETOUR g = t.flag F.KRV_KNK_STAT.DETOUR g) →
    routeFrom s a src dst = routeFrom t a src dst) ∧
  (∀ (s : State) (src : Nat), (∀ g : Fin 4, s.rd F.KRV_KNK_STAT.LFAIL g = 0) → (∀ g : Fin 4, s.flag F.KRV_KNK_STAT.DETOUR g = false) →
    (routeFrom s 91 src (channelEp 0)).map (pathRouters 91) = some [91, 16, 8, 0, 1, 88] ∧
    (routeFrom s 46 src (channelEp 9)).map (fun hs => ((pathRouters 46 hs).length,
      (hs.filter (fun h => match h with
        | .recv _ _ _ => true
        | _ => false)).length)) = some (24, 2) ∧
    ∀ e ∈ [134, 135, 150, 151, 246, 247],
      (routeFrom s 219 src (engineEp e)).map (pathRouters 219) = some [219, 144, 136, 128, 129, 130, 131, 211]) ∧
  (∀ (s t : State) (m : MsgName) (u : Transit), transitOf s m = some u → reach m s = some t →
    ∃ w ep, transitOf t m = some w ∧ w.path = [.exit ep] ∧ frontAt t (.exit ep) w.cls = some w) ∧
  (∀ (s t : State) (m : MsgName), BuffersHold s → reach m s = some t → BuffersHold t) ∧
  (∀ (s t : State) (m : MsgName) (cls at_ src dst n : Nat), BuffersHold s → launch m cls at_ src dst n s = some t → BuffersHold t) ∧
  (∀ (s t : State) (m : MsgName) (cls src dst n : Nat), BuffersHold s → post m cls src dst n s = some t → BuffersHold t) ∧
  (∀ (s : State) (m : MsgName), BuffersHold s → BuffersHold (landed m s) ∧ BuffersHold (reroute s)) ∧
  (∀ (s : State) (h i j : Hop) (u v : Transit), u.here = some i → v ∈ s.net.way → v ≠ u → v.next = some h → v.here = some j →
      frontAt s j v.cls = some v →
    ∃ w ∈ (moveOn h u s).net.way, w.name = v.name ∧ w.path = v.path ∧ (i, u.cls) ∈ w.passed) ∧
  (∀ (s t : State) (h : Hop) (u v : Transit), overdue s h u = [v] → u.name ≠ v.name → roomAt s h v.cls v.flits = true →
      grant h u s = some t →
    ∃ w ∈ t.net.way, w.name = v.name ∧ w.path = v.path.tail)

/-- Requests of the network at a vault (R77, R79, R89, R150) and a forced access to an engine's data memory (R199): a request that has reached its
target leaves the network, its target answers the stamped requester, and a write stores its bytes; one that something on its path holds up stays;
one of whose flits a bit was inverted is dropped and counted; a Keeper core's access is the request that its source decode puts into the network.
The model's own choices in it: log entries 13, 34, 53, 193. -/
def Obligations.RequestsAreServedAtTheirTargets : Prop :=
  (∀ (s : State) (src : BitVec 13) (txn : BitVec 8) (r : Req) (v : Fin 640) (u : Upset) (parity : BitVec 16) (s' : State),
      arriving s src.toNat txn.toNat = some r → reach (.req src.toNat txn.toNat) s = some s' → r.op = .read → r.dst = vaultEp v →
      domOn s (sectorDom (v / 2)) = true → vaultAdmits s v r.tag = true →
      (s.flag F.CFG_SECT.INRGN (v / 2) && s.flag F.CFG_SECT.CLOSED (v / 2)) = false → usable s .vault v = true →
    Completes (.read (.flit src txn) [] u parity none) s fun t =>
      t.net.reqs = s.net.reqs.erase r ∧ t.mem.code = s.mem.code ∧
      let x := readWords .vault v 16 (touched 16 (r.da % 0x20000) r.len) 0 false (takeReq r s')
      let d := laneBytes x.1 (r.da % 64) r.len
      t.net.resps = s.net.resps ++ [⟨r.dst, r.src, r.txn, r.tag, if x.2.1 then .poisoned d else .data d, r.intent⟩]) ∧
  (∀ (s : State) (src : BitVec 13) (txn : BitVec 8) (r : Req) (v : Fin 640) (u : Upset) (parity : BitVec 16),
      arriving s src.toNat txn.toNat = some r → (reach (.req src.toNat txn.toNat) s).isSome = true → r.op = .write → r.dst = vaultEp v →
      domOn s (sectorDom (v / 2)) = true → vaultAdmits s v r.tag = true →
      (s.flag F.CFG_SECT.INRGN (v / 2) && s.flag F.CFG_SECT.CLOSED (v / 2)) = false → usable s .vault v = true →
      writeBlocked s .vault v 16 (r.da % 0x20000) r.len = false →
    Completes (.write (.flit src txn) [] u parity none) s fun t =>
      t.net.reqs = s.net.reqs.erase r ∧ t.net.resps = s.net.resps ++ [⟨r.dst, r.src, r.txn, r.tag, .ack, r.intent⟩] ∧
      t.mem = (writeWords .vault v 16 (r.da % 0x20000) r.len r.data s).mem) ∧
  (∀ (s : State) (src : BitVec 13) (txn : BitVec 8) (r : Req) (v : Fin 640) (u : Upset) (parity : BitVec 16),
      arriving s src.toNat txn.toNat = some r → (reach (.req src.toNat txn.toNat) s).isSome = true → r.op = .write → r.dst = vaultEp v →
      domOn s (sectorDom (v / 2)) = true → vaultAdmits s v r.tag = false →
    Completes (.write (.flit src txn) [] u parity none) s fun t =>
      t.mem = s.mem ∧ t.net.resps = s.net.resps ++ [⟨r.dst, r.src, r.txn, r.tag, .error 2 0, r.intent⟩]) ∧
  (∀ (s : State) (src : BitVec 13) (txn : BitVec 8) (r : Req) (ups : List (List Nat)) (u : Upset) (parity : BitVec 16)
      (k : Fin 1152), arriving s src.toNat txn.toNat = some r → (reach (.req src.toNat txn.toNat) s).isSome = true → r.dst ≠ hubEp →
      k.val < 576 * (reqFlitsOf r).length →
    ∀ c ∈ [(NetOp.read, Instr.read (.flit src txn) ups u parity (some k)),
        (NetOp.write, Instr.write (.flit src txn) ups u parity (some k))],
      r.op = c.1 → Completes c.2 s fun t =>
        t.net.reqs = s.net.reqs.erase r ∧ t.net.resps = s.net.resps ∧
        t.rd F.KRV_CRCDROP.COUNT 0 = min (s.rd F.KRV_CRCDROP.COUNT 0 + 1) (2 ^ F.KRV_CRCDROP.COUNT.width - 1)) ∧
  (∀ (s : State) (c : Fin 4) (da : BitVec 48) (len : Nat) (data : Line) (ups : List (List Nat)) (u : Upset) (parity : BitVec 16)
      (bad : Option (Fin 1152)) (x : Nat) (t : State),
      keeperAccess (.core c) .read coreEp da.toNat len 0 s = (some x, t) →
    exec (.read (.core c da len data) ups u parity bad) s = .next (requestArrives .read coreEp x ups u parity bad t)) ∧
  (∀ (s : State) (src : BitVec 13) (txn : BitVec 8) (r : Req) (ups : List (List Nat)) (u : Upset) (parity : BitVec 16)
      (bad : Option (Fin 1152)), arriving s src.toNat txn.toNat = some r → reach (.req src.toNat txn.toNat) s = none →
    Completes (.read (.flit src txn) ups u parity bad) s fun t => t = s) ∧
  (∀ (s : State) (e : Fin 512) (src : BitVec 13) (txn : BitVec 8) (r : Req) (s' : State), arriving s src.toNat txn.toNat = some r →
      reach (.req src.toNat txn.toNat) s = some s' → r.op = .read → r.dst = engineEp e → r.tag.cls ≠ 0 → r.da % 0x20000 < 0x10000 → domOn s (engineDom e) = true →
      engineAdmits s e r = true → s.flag F.TMB_STAT.CLEARING e = false → s.flag F.TMB_STAT.TBUSY e = false →
      s.flag F.MEM_TMB.USABLE e = true → s.flag F.TMB_STAT.RETIRED e = false →
    Completes (.forcedNetworkAccess e src txn []) s fun t =>
      t.net.reqs = s.net.reqs.erase r ∧
      (let x := readWords .data e 8 (touched 8 (r.da % 0x20000) r.len) 0 false (takeReq r s')
       let d := laneBytes x.1 (r.da % 64) r.len
       t.net.resps = s.net.resps ++ [⟨r.dst, r.src, r.txn, r.tag, if x.2.1 then .poisoned d else .data d, r.intent⟩]) ∧
      (t.eng e).hold = if issuesNow s e then (s.eng e).hold + 1 else (s.eng e).hold)

/-- Responses at their sources (R75, R90, R94, R99): the response of an access port's request is stored for the fabric design and the request
leaves the list; an inverted bit drops the flit; a window without a response ends the request with code 0x08 and quarantines its TXN, which a late
response frees. The model's own choices in it: log entries 5, 35. -/
def Obligations.ResponsesCompleteTheirRequests : Prop :=
  (∀ (s : State) (src : BitVec 13) (txn : BitVec 8) (p : Resp) (o : Outst) (a : Nat),
      respArriving s src.toNat txn.toNat = some p → (reach (.resp src.toNat txn.toNat) s).isSome = true →
      outstOf s src.toNat txn.toNat = some o → o.who = .port a →
      s.expired o.sentAt o.window = false → s.flag F.KRV_AP.CLOSED a = false →
    ∀ c ∈ [(RespKind.data, Instr.data src txn none), (.poisoned, .dataPoisoned src txn none), (.ack, .ack src txn none),
        (.error, .error src txn none)],
      answerKind p.ans = c.1 → Completes c.2 s fun t =>
        t.net.resps = s.net.resps.erase p ∧ t.net.outst = s.net.outst.erase o ∧
        sget [] t.net.apStore a = sget [] s.net.apStore a ++ [⟨o.req.dst, o.req.src, o.req.txn, o.req.tag, p.ans, p.grant⟩]) ∧
  (∀ (s : State) (src : BitVec 13) (txn : BitVec 8) (p : Resp) (k : Fin 1152), respArriving s src.toNat txn.toNat = some p →
      (reach (.resp src.toNat txn.toNat) s).isSome = true → k.val < 576 →
    ∀ c ∈ [(RespKind.data, Instr.data src txn (some k)), (.poisoned, .dataPoisoned src txn (some k)), (.ack, .ack src txn (some k)),
        (.error, .error src txn (some k))],
      answerKind p.ans = c.1 → Completes c.2 s fun t =>
        t.net.resps = s.net.resps.erase p ∧ t.net.outst = s.net.outst ∧
        t.rd F.KRV_CRCDROP.COUNT 0 = min (s.rd F.KRV_CRCDROP.COUNT 0 + 1) (2 ^ F.KRV_CRCDROP.COUNT.width - 1)) ∧
  (∀ (s : State) (src : BitVec 13) (txn : BitVec 8) (o : Outst) (a : Nat), outstOf s src.toNat txn.toNat = some o → o.who = .port a →
      s.expired o.sentAt o.window = true → s.flag F.KRV_AP.CLOSED a = false →
    Completes (.timeout src txn) s fun t =>
      t.net.outst = s.net.outst.erase o ∧ t.net.quar = s.net.quar ++ [(o.req.src, o.req.txn)] ∧
      sget [] t.net.apStore a = sget [] s.net.apStore a ++ [⟨o.req.dst, o.req.src, o.req.txn, o.req.tag, .error 8 0, .none⟩] ∧
      (s.flag F.KRV_ELOG0.VALID 0 = false → t.flag F.KRV_ELOG0.VALID 0 = true ∧ t.rd F.KRV_ELOG0.CODE 0 = 8)) ∧
  (∀ (s : State) (src : BitVec 13) (txn : BitVec 8) (p : Resp), respArriving s src.toNat txn.toNat = some p →
      (reach (.resp src.toNat txn.toNat) s).isSome = true → s.net.quar.contains (src.toNat, txn.toNat) = true → outstOf s src.toNat txn.toNat = none →
    Completes (.lateResponse src txn) s fun t =>
      t.net.resps = s.net.resps.erase p ∧ t.net.quar = s.net.quar.erase (src.toNat, txn.toNat) ∧ t.net.apStore = s.net.apStore ∧
      t.rd F.KRV_LATE.COUNT 0 = min (s.rd F.KRV_LATE.COUNT 0 + 1) (2 ^ F.KRV_LATE.COUNT.width - 1))

/-- Access ports (R83, R89, R90, R91): with the TXN free, room for the response and the port open, and APCLK running, a request to a vault goes into
the port's elastic buffer with the tag of its sector, or is not taken while that is full, and one to no target is answered by the port with code
0x01; the oldest stored response is handed over.
APCLK follows from what the frames give the port, which the model leaves open (log entry 22). The model's own choices in it: log entry 22. -/
def Obligations.AccessPortsSendAndHandOver : Prop :=
  (∀ (s : State) (a : Fin 640) (write : Bool) (txn len : Fin 64) (da : BitVec 48) (data : Line) (v off : Nat) (path : List Nat),
      txnTaken s (portEp a) txn = false → s.flag F.KRV_AP.CLOSED a = false →
      storeUsed s a + (s.net.outst.filter (fun o => o.req.src == portEp a)).length < 64 →
      da.toNat % 64 + (len.val + 1) ≤ 64 → decodeDa s da.toNat = .vault v off →
      leafRoute s (epLeaf (portEp a)) (epLeaf (vaultEp v)) = some path →
    Completes (.accessPortRequest a write txn da len data) s fun t =>
      if apClockOk s a = true then
        let r : Req := ⟨if write then .write else .read, portEp a, vaultEp v, txn, ⟨1, sectorId s (a / 2)⟩, da.toNat, len + 1,
          if write then data else 0, .none⟩
        match netEnter (.port a) r s with
        | some u => t.net.reqs = s.net.reqs ++ [r] ∧ t.net.way = u.net.way ∧
          t.net.outst = s.net.outst ++ [⟨.port a, r, s.dtcNow, 1000 * s.rd F.KRV_TMO.TMO 0⟩]
        | none => t = s
      else t = s) ∧
  (∀ (s : State) (a : Fin 640) (write : Bool) (txn len : Fin 64) (da : BitVec 48) (data : Line),
      txnTaken s (portEp a) txn = false → s.flag F.KRV_AP.CLOSED a = false →
      storeUsed s a + (s.net.outst.filter (fun o => o.req.src == portEp a)).length < 64 →
      da.toNat % 64 + (len.val + 1) ≤ 64 → decodeDa s da.toNat = .unmapped →
    Completes (.accessPortRequest a write txn da len data) s fun t =>
      if apClockOk s a = true then
        t.net.reqs = s.net.reqs ∧ (s.flag F.KRV_ELOG0.VALID 0 = false → t.rd F.KRV_ELOG0.CODE 0 = 1) ∧
        sget [] t.net.apStore a =
          sget [] s.net.apStore a ++ [⟨portEp a, portEp a, txn, ⟨1, sectorId s (a / 2)⟩, .error 1 0, .none⟩]
      else t = s) ∧
  (∀ (s : State) (a : Fin 640) (p : Resp) (l : List Resp), sget [] s.net.apStore a = p :: l →
    Completes (.accessPortResponse a) s fun t =>
      if apClockOk s a = true then
        sget [] t.net.apStore a = l ∧
        t.out = s.out ++ [match p.ans with
          | .data d => .apResponse a p.txn 0 0 d
          | .poisoned d => .apResponse a p.txn 1 0 d
          | .ack => .apResponse a p.txn 2 0 0
          | .error c _ => .apResponse a p.txn 3 c 0]
      else t = s)

/-! ### The fabric and its slices, and the code of the memories (chapters 4 to 6) -/

/-- An edge of a sector's clock line (R106–R108, R111–R113, R122, R127, R130, R138, R145): where the sector runs, its gate is open and its network
ticks, or its local line's driver rises, every flip-flop, table, slice and block RAM port that the line clocks takes what its pins and the state
before the edge give; on any other line they stay, and so does every other sector. What the frames give an element is open (log entry 22). A slice
in its 24 × 24 mode with MSEL 1 and ZSEL 1 adds the product of A and B to P, modulo 2^72, and with SUB takes it away; with ZSEL 0 the product alone
is loaded (R128, R131). The model's own choices in it: log entries 2, 22, 37 to 44, 208. -/
def Obligations.FabricElementsFollowTheirClockEdge : Prop :=
  (∀ (s : State) (x : Fin 320) (line : Fin 36) (late close : List (Nat × Bool)),
    let lck : Fin 4 := Fin.ofNat 4 line.val
    let run := if line.val < 32 then gateOpen s x line && netTicks s line else sectorRuns s x && lckRises s x lck
    let u := if line.val < 32 then noteEdge x line s else noteHigh x lck s
    let g := sectorFrames s x
    Completes (.fabricClockEdge x line ⟨late, close, []⟩) s fun t =>
      (run = false → t = s) ∧
      (run = true → ∀ (c : Fin 2048) (l : Fin 16), (lcAt g c l).ff0.ctl1 = false → (clusterAt g c).ctl0.async = false →
        ((clusterAt g c).ctl0.clk ≠ line → ffValue t x c l 0 = ffValue s x c l 0) ∧
        ((clusterAt g c).ctl0.clk = line → (clusterAt g c).ctl0.useSr = false →
          ((clusterAt g c).ctl0.useCe = true → level u (.cross x c 128) = false → ffValue t x c l 0 = ffValue s x c l 0) ∧
          ((clusterAt g c).ctl0.useCe = false → (lcAt g c l).ff0.bypass = true →
            ffValue t x c l 0 = pinLevel (level u) u x c l 6))) ∧
      (run = true → ∀ (c : Fin 2048) (k : Fin 8), (clusterAt g c).mem ≠ .logic →
        lutTable t x c k = if (clusterAt g c).ctl0.clk = line then lutNext u x c (clusterAt g c) (clusterPins u x c late) k
          else lutTable s x c k) ∧
      (run = true → ∀ i : Fin 40,
        sliceRec t x i = (if (sliceAt g i).clk = line then
          sliceNext (sliceAt g i) (slicePins u x i) (sliceA u x 20 i) (sliceCasc s x i) (sliceRec s x i) else sliceRec s x i) ∧
        ((sliceAt g i).clk = line → level u (.pin x (.slice i) 4) = true → sliceRec t x i = .zero)) ∧
      (run = true → ∀ j : Fin 16, portRec t (16 * x + j) 0 = if (bramAt g j).a.clk = line then
          portNext u (16 * x + j) 0 (s.flag F.MEM_BRAM.ECCON (16 * x + j)) (bramAt g j).a (ramPins u x j 0 (close.contains (j.val, false)))
        else portRec s (16 * x + j) 0) ∧
      ∀ y : Fin 320, y ≠ x → (∀ (c : Fin 2048) (l : Fin 16) (f : Fin 2), ffValue t y c l f = ffValue s y c l f) ∧
        (∀ i : Fin 40, sliceRec t y i = sliceRec s y i) ∧
        ∀ (j : Fin 16) (w : Fin 1024), memCode t .bram (16 * y + j) w = memCode s .bram (16 * y + j) w) ∧
  (∀ (a : SliceAttr) (o : SliceOp) (p casc : BitVec 72), a.mode = .m24 → a.preadd = false → o.x.msel = 1 →
    let m := operandInt a.asgn 24 o.a.toNat * operandInt a.bsgn 24 o.x.b.toNat
    (intLoad a o 1 p casc).1 = (if o.x.sub then p - BitVec.ofInt 72 m else p + BitVec.ofInt 72 m) ∧
    (o.x.sub = false → (intLoad a o 0 p casc).1 = BitVec.ofInt 72 m))

/-- The fabric's wires (R105, R110, R115, R118–R121, R336, R337): the 38 starts of each direction and the 160 tracks are told apart; a wire runs
inside its leaf and ends at its last cluster; it taps only at its tap clusters; what drives a start, feeds a crossbar or carries into a chain comes
from its own cluster, the end or the tap of a wire there, or the cluster one row below in the sector; no signal passes between two tenants'
sectors; a closed sector's parked outputs stay and its inputs are ignored; and what an outbound border pin holds is the level at the closing.
The model's own choices in it: log entries 2, 22, 212. -/
def Obligations.WiresStayInTheirLeafAndKeepTenantsApart : Prop :=
  (∀ (d d' : Dir) (n n' : WireLen) (k k' : Nat), k < lenStarts n → k' < lenStarts n' →
    startNumber d n k < 152 ∧ (startNumber d n k = startNumber d' n' k' → d = d' ∧ n = n' ∧ k = k')) ∧
  (∀ (w : Wire) (j : Nat), w.k < lenStarts w.len → j < lenSize w.len → trackOf w j < 160 ∧ trackWire (trackOf w j) = (w.len, w.k, j)) ∧
  (∀ (w : Wire) (j : Nat), w.row < 640 → w.col < 256 → j ≤ w.reach →
    let p := w.spot j
    let last := w.spot w.reach
    p.1 < 640 ∧ p.2 < 256 ∧ w.reach ≤ lenSize w.len ∧
    (match w.dir with
      | .east => p = (w.row, w.col + j) ∧ (w.reach < lenSize w.len → last.2 = 255)
      | .west => p.1 = w.row ∧ p.2 + j = w.col ∧ (w.reach < lenSize w.len → last.2 = 0)
      | .north => p = (w.row + j, w.col) ∧ (w.reach < lenSize w.len → last.1 = 639)
      | .south => p.1 + j = w.row ∧ p.2 = w.col ∧ (w.reach < lenSize w.len → last.1 = 0))) ∧
  (∀ (x : Fin 320) (c : Fin 2048) (r : WireRef),
    let taps : List Nat := match r.len with
      | .l1 => [1]
      | .l2 => [2]
      | .l4 => [4]
      | .l12 => [4, 8, 12]
      | .l24 => [12, 24]
    match tapWire x c r with
    | some w => w.leaf = x / 80 ∧ w.row < 640 ∧ w.col < 256 ∧ w.dir = r.dir ∧ w.len = r.len ∧ w.k = r.k ∧ r.k.val < lenStarts r.len ∧
        r.dist.val ∈ taps ∧ r.dist.val ≤ w.reach ∧ w.sector r.dist = x ∧ clusterAtSpot (w.spot r.dist) = c
    | none => r.dist.val ∉ taps ∨ lenStarts r.len ≤ r.k.val ∨ roomTo (opposite r.dir) (spotOf x c) < r.dist.val) ∧
  (∀ (s : State) (w : Wire), w.leaf < 4 → w.row < 640 → w.col < 256 →
    match wireSource s w with
    | some (.inl (.out x c _ o)) => x = w.sector 0 ∧ c = clusterAtSpot (w.row, w.col) ∧ (w.len = .l12 ∨ w.len = .l24 → o = .q0 ∨ o = .q1)
    | some (.inl (.wire v d)) => v.leaf = w.leaf ∧ d = v.reach ∧ v.spot d = (w.row, w.col) ∧ w.dir ≠ opposite v.dir ∧
        (w.len = .l12 → v.len = .l4 ∨ v.len = .l12 ∨ v.len = .l24) ∧ (w.len = .l24 → v.len = .l12 ∨ v.len = .l24)
    | some (.inl _) => False
    | _ => True) ∧
  (∀ (s : State) (x : Fin 320) (c : Fin 2048) (o : Fin 139),
    match crossSource s x c o with
    | some (.out x' c' _ _) => x' = x.val ∧ c' = c.val
    | some (.wire w d) => w.leaf = x.val / 80 ∧ w.spot d = spotOf x c ∧ 1 ≤ d ∧ d ≤ w.reach
    | some _ => False
    | none => True) ∧
  (∀ (ask ask' : Sig → Bool) (s : State) (x c : Nat) (l : Fin 16), (∀ m : Fin 16, m < l → ask (.cout x c m) = ask' (.cout x c m)) →
      (32 ≤ c → ask (.cout x (c - 32) 15) = ask' (.cout x (c - 32) 15)) → ask (.cross x c 6) = ask' (.cross x c 6) →
    carryIn ask s x c l = carryIn ask' s x c l) ∧
  (∀ (g : Nat → Frame) (c : Nat), c % 2 = 1 → (clusterAt g c).mem = .logic) ∧
  (∀ (s : State) (w : Wire) (d j : Nat), j < min d w.reach → tenantsApart s (w.sector j) (w.sector (j + 1)) = true →
    alongWire s w d true = alongWire s w d false) ∧
  (∀ (s : State) (x y : Nat) (ho hi : Hasp) (idle v : Bool),
    (tenantsApart s x y = false → haspsPass s x y = true → throughHasps s x y ho hi idle v = v) ∧
    (haspsPass s x y = false → s.flag F.CFG_SECT.CLOSED x = true ∨ s.flag F.CFG_SECT.CLOSED y = true →
      throughHasps s x y ho hi idle v = throughHasps s x y ho hi idle (!v)) ∧
    (haspsPass s x y = false →
      throughHasps s x y ho hi idle v = idle ∨ s.flag F.CFG_SECT.CLOSED x = true ∨ s.flag F.CFG_SECT.CLOSED y = true ∨
        (Config.borderPin (haspFrames s x) ho).isSome = true ∧ (Config.borderPin (haspFrames s y) hi).isSome = true)) ∧
  (∀ (s : State) (x : Fin 320) (y : Nat) (h : Hasp), h.out = true → h.along.val < sideLength h.side → sectorBeside x h.side = some y →
      haspsPass s x y = false → s.flag F.CFG_SECT.CLOSED x = false →
    let r := trackWire h.track
    (holdPins [x.val] s).fab.parked.contains (haspKey x h) =
      (decide (Config.borderPin (ringFrames (sectorFrames s x)) h = some .hold) &&
        (refWire x (haspCluster h) ⟨h.side, r.1, Fin.ofNat 16 r.2.1, Fin.ofNat 25 r.2.2⟩).any (fun w => level s (.wire w r.2.2)))) ∧
  (∀ (s : State) (xs : List Nat) (x : Fin 320) (h : Hasp), x.val ∉ xs ∨ s.flag F.CFG_SECT.CLOSED x = true →
    (holdPins xs s).fab.parked.contains (haspKey x h) = s.fab.parked.contains (haspKey x h))

/-- The codes of the on-chip memories (R142, R143): how a word is stored, how the decoder classifies whatever it reads and which data it delivers;
so an encoded word is read back as it was, a single wrong bit is corrected, wherever it is, and two wrong bits are found and not corrected. -/
def Obligations.OneWrongBitIsCorrectedAndTwoAreFound : Prop :=
  (∀ k : MemKind, kindLen k = 72 ∨ kindLen k = 137) ∧
  (∀ x ∈ [(72, 64), (137, 128)], ∀ d : BitVec 128,
    let n := x.1
    let w := encodeWord n d
    let ones (p : Nat → Bool) := ((List.range n).filter (fun k => p k && w.getLsbD k)).length
    (∀ k : Nat, n ≤ k → w.getLsbD k = false) ∧
    (∀ j : Nat, 2 ^ j < n → ones (fun k => k.testBit j) % 2 = 0) ∧
    (∀ (i k : Nat), i < x.2 → ((List.range n).filter (fun k => k ≠ 0 ∧ ∀ j, j < 8 → k ≠ 2 ^ j))[i]? = some k → w.getLsbD k = d.getLsbD i) ∧
    w.getLsbD 0 = (ones (fun k => k != 0) % 2 == 1)) ∧
  (∀ x ∈ [(72, 64), (137, 128)], ∀ w : BitVec 137,
    let n := x.1
    let pos := (List.range n).filter (fun k => k ≠ 0 ∧ ∀ j, j < 8 → k ≠ 2 ^ j)
    let s := ((List.range n).filter (fun k => k != 0 && w.getLsbD k)).foldl (· ^^^ ·) 0
    let odd := ((List.range n).filter w.getLsbD).length % 2 = 1
    (¬ odd → s = 0 → classifyWord n w = .clean) ∧ (odd → s = 0 → classifyWord n w = .corrected 0) ∧
    (odd → 1 ≤ s → s < n → classifyWord n w = .corrected s) ∧ (odd → n ≤ s → classifyWord n w = .uncorrectable) ∧
    (¬ odd → s ≠ 0 → classifyWord n w = .uncorrectable) ∧
    ∀ (i k : Nat), pos[i]? = some k →
      (wordData n w).getLsbD i = if odd ∧ 1 ≤ s ∧ s < n ∧ k = s then !w.getLsbD k else w.getLsbD k) ∧
  ∀ (k : MemKind) (d : BitVec 128) (i j : Nat), i < kindLen k → j < kindLen k → i ≠ j →
    classifyWord (kindLen k) (encodeWord (kindLen k) d) = .clean ∧
    (kindLen k = 137 → wordData (kindLen k) (encodeWord (kindLen k) d) = d) ∧
    (kindLen k = 72 → (wordData (kindLen k) (encodeWord (kindLen k) d)).setWidth 64 = d.setWidth 64) ∧
    classifyWord (kindLen k) (flipPos (encodeWord (kindLen k) d) i) = .corrected i ∧
    wordData (kindLen k) (flipPos (encodeWord (kindLen k) d) i) = wordData (kindLen k) (encodeWord (kindLen k) d) ∧
    classifyWord (kindLen k) (flipPos (flipPos (encodeWord (kindLen k) d) i) j) = .uncorrectable

/-! ### The on-chip memories (chapter 6) -/

/-- Self-tests, the remap command and the log of the on-chip memories (R153, R154, R160–R163): a checker result makes an instance usable or not,
a failed engine memory retires its engine, a remap command takes the lowest free spare and copies the word as stored, and a pop drops the oldest
record. The model's own choices in it: log entries 5, 49, 50, 71. -/
def Obligations.MemoryTestsRemapsAndLogs : Prop :=
  (∀ (s : State) (k : MemKind) (i : Nat) (pass : Bool) (bad : BitVec 8), i < kindCount k → k = .bram ∨ k = .vault →
    Completes (.checkerSelfTestDone k i pass bad) s fun t =>
      t.flag (kindFld k F.MEM_BRAM.USABLE) i = pass ∧ sget 0 t.mem.tested (instKey k i) = (if pass then 1 else 2) ∧
      t.rd (kindFld k F.MEM_BRAM.SPARE_BAD) i =
        s.rd (kindFld k F.MEM_BRAM.SPARE_BAD) i ||| bad.toNat % (if k = .vault then 256 else 4)) ∧
  (∀ (s : State) (i : Fin 512) (bad : BitVec 8), sget 0 s.mem.tested (instKey .prog i) = 1 →
    Completes (.checkerSelfTestDone .data i true bad) s fun t => t.flag F.MEM_TMB.USABLE i = true) ∧
  (∀ (s : State) (i : Fin 512) (bad : BitVec 8), Completes (.checkerSelfTestDone .data i false bad) s fun t =>
    t.flag F.MEM_TMB.USABLE i = false ∧ t.flag F.TMB_STAT.RETIRED i = true ∧
    (s.flag F.TMB_STAT.RETIRED i = false → t.rd F.TMB_STAT.RCAUSE i = 2)) ∧
  (∀ (s : State) (v : Word) (k : MemKind), k = kindOf (s.rd F.MEM_RMP_SEL.MKIND 0) → F.MEM_RMP_CMD.ADD.of v = 1 →
      s.flag F.MEM_RMP_STAT.BUSY 0 = false → F.MEM_RMP_CMD.WORD.of v < kindWords k → s.rd F.MEM_RMP_SEL.INST 0 < kindCount k →
    Completes (.memRemapAdd v) s fun t =>
      if (freeSpare s k (s.rd F.MEM_RMP_SEL.INST 0) (F.MEM_RMP_CMD.WORD.of v)).isSome ∧ usable s k (s.rd F.MEM_RMP_SEL.INST 0) = true ∧
          remapped s k (s.rd F.MEM_RMP_SEL.INST 0) (F.MEM_RMP_CMD.WORD.of v) = false then
        t.flag F.MEM_RMP_STAT.BUSY 0 = true ∧
        t.mem.rmpAdd = some (instKey k (s.rd F.MEM_RMP_SEL.INST 0), F.MEM_RMP_CMD.WORD.of v)
      else t.flag F.MEM_RMP_STAT.FAIL 0 = true ∧ t.mem = s.mem) ∧
  (∀ (s : State) (k : MemKind) (i w j : Nat), i < kindCount k → s.mem.rmpAdd = some (instKey k i, w) → freeSpare s k i w = some j →
      backWaits s k i (memBank k w) = false →
    Completes (.firmwareRemapCopy []) s fun t =>
      t.flag F.MEM_RMP_STAT.BUSY 0 = false ∧ t.mem.rmpAdd = none ∧ rmpEntry t k i j = some ⟨w, 0xFF, 2⟩ ∧
      nbit (t.rd (kindFld k F.MEM_BRAM.RMP_USED) i) j = true ∧ memCode t k i w = memCode s k i w) ∧
  (∀ (s : State) (leaf : Fin 4) (v : Word), F.MEM_LOG_CTL.POP.of v = 1 → s.rd F.MEM_LOG_CTL.COUNT leaf ≠ 0 →
    Completes (.memLogPop leaf v) s fun t =>
      t.rd F.MEM_LOG_CTL.COUNT leaf = s.rd F.MEM_LOG_CTL.COUNT leaf - 1 ∧
      t.rd F.MEM_LOG_CTL.HEAD leaf = (s.rd F.MEM_LOG_CTL.HEAD leaf + 1) % 16 ∧ t.mem = s.mem)

/-- Scrubbing of the on-chip memories (R155–R160): a tick makes the instances due, a pass boundary starts a new pass, a slot reads the bank's
directed word, counts what it finds and keeps a correction for the write-back, which takes the bank's next slot and is made only where the word still
holds what was read; a firmware remap takes the next slot too, and a due slot with nothing else to do reads the next word of the walk. The model's own
choices in it: log entries 5, 45 to 48, 51, 207. -/
def Obligations.ScrubbersWalkCorrectAndWriteBack : Prop :=
  (∀ (s : State) (leaf : Fin 4) (i : Nat), s.flag F.MEM_SCR_CTL.EN leaf = true → (s.scrub leaf).ticks < 8192 →
      8192 * (s.scrub leaf).passStart + (s.scrub leaf).ticks * (1000000 * (s.scrub leaf).period) ≤ 8192 * s.dtcNow →
      i ∈ leafInstances .vault leaf → scrubOn s .vault i = true →
    Completes (.scrubTick leaf) s fun t =>
      (t.scrub leaf).ticks = (s.scrub leaf).ticks + 1 ∧
      (sget 0 s.mem.due (instKey .vault i) < 4 → sget 0 t.mem.due (instKey .vault i) = sget 0 s.mem.due (instKey .vault i) + 1) ∧
      (4 ≤ sget 0 s.mem.due (instKey .vault i) → t.flag F.MEM_SCR_STAT.LATE leaf = true)) ∧
  (∀ (s : State) (leaf : Fin 4), s.flag F.MEM_SCR_CTL.EN leaf = true → (s.scrub leaf).ticks = 8192 →
      s.expired (s.scrub leaf).passStart (1000000 * (s.scrub leaf).period) = true →
    Completes (.memPassBoundary leaf) s fun t =>
      t.rd F.MEM_SCR_STAT.PASS leaf = (s.rd F.MEM_SCR_STAT.PASS leaf + 1) % 2 ^ 16 ∧
      t.scrub leaf = ⟨(s.scrub leaf).passStart + 1000000 * (s.scrub leaf).period, 0, s.rd F.MEM_SCR_PERIOD.PERIOD leaf⟩ ∧
      t.mem.code = s.mem.code) ∧
  (∀ (s : State) (k : MemKind) (i w : Nat) (bank : Fin 4), i < kindCount k → k = .vault ∨ k = .data →
      scrubOn s k i = true → scrubClock s k i = true → backWaits s k i bank = false → rmpWaits s k i bank = false →
      memBank k w = bank.val → sget none s.mem.directed (4 * instKey k i + bank) = some w →
      classifyWord (kindLen k) (memCode s k i w) = .clean →
    ∀ c ∈ [Instr.scrubSlot k i bank [], .forcedScrubSlot k i bank []], Completes c s fun t =>
      t.mem.code = s.mem.code ∧ t.mem.back = s.mem.back ∧ sget none t.mem.directed (4 * instKey k i + bank) = none ∧
      t.rd F.MEM_CE_CNT.COUNT (instLeaf k i) = s.rd F.MEM_CE_CNT.COUNT (instLeaf k i)) ∧
  (∀ (s : State) (k : MemKind) (i w : Nat) (bank : Fin 4), i < kindCount k → k = .vault ∨ k = .data →
      scrubOn s k i = true → scrubClock s k i = true → backWaits s k i bank = false → rmpWaits s k i bank = false →
      memBank k w = bank.val → sget none s.mem.directed (4 * instKey k i + bank) = some w →
      classifyWord (kindLen k) (memCode s k i w) = .uncorrectable →
    ∀ c ∈ [Instr.scrubSlot k i bank [], .forcedScrubSlot k i bank []], Completes c s fun t =>
      t.mem.code = s.mem.code ∧
      t.rd F.MEM_UE_CNT.COUNT (instLeaf k i) =
        min (s.rd F.MEM_UE_CNT.COUNT (instLeaf k i) + 1) (2 ^ F.MEM_UE_CNT.COUNT.width - 1)) ∧
  (∀ (s : State) (k : MemKind) (i w p : Nat) (bank : Fin 4), i < kindCount k → k = .vault ∨ k = .data →
      scrubOn s k i = true → scrubClock s k i = true → backWaits s k i bank = false → rmpWaits s k i bank = false →
      memBank k w = bank.val → sget none s.mem.directed (4 * instKey k i + bank) = some w →
      classifyWord (kindLen k) (memCode s k i w) = .corrected p → sget [] s.mem.hist (4 * instKey k i + bank) = [] →
    ∀ c ∈ [Instr.scrubSlot k i bank [], .forcedScrubSlot k i bank []], Completes c s fun t =>
      sget none t.mem.back (4 * instKey k i + bank) = some ⟨w, memCode s k i w, flipPos (memCode s k i w) p⟩ ∧
      t.mem.code = s.mem.code ∧
      t.rd F.MEM_CE_CNT.COUNT (instLeaf k i) =
        min (s.rd F.MEM_CE_CNT.COUNT (instLeaf k i) + 1) (2 ^ F.MEM_CE_CNT.COUNT.width - 1)) ∧
  (∀ (s : State) (k : MemKind) (i : Nat) (bank : Fin 4) (b : WriteBack), sget none s.mem.back (4 * instKey k i + bank) = some b →
      scrubOn s k i = true →
    Completes (.compareAndWrite k i bank []) s fun t =>
      memCode t k i b.word = (if memCode s k i b.word = b.read then b.fixed else memCode s k i b.word) ∧
      sget none t.mem.back (4 * instKey k i + bank) = none ∧ t.regs = s.regs) ∧
  (∀ (s : State) (k : MemKind) (i w : Nat) (bank : Fin 4) (flips : List Nat), i < kindCount k → k ≠ .prog → scrubOn s k i = true →
      scrubClock s k i = true →
    (backWaits s k i bank = true → exec (.scrubSlot k i bank flips) s = exec (.compareAndWrite k i bank flips) s) ∧
    (backWaits s k i bank = false → s.mem.rmpAdd = some (instKey k i, w) → memBank k w = bank.val →
      exec (.scrubSlot k i bank flips) s = exec (.firmwareRemapCopy flips) s) ∧
    (backWaits s k i bank = false → rmpWaits s k i bank = false → sget none s.mem.directed (4 * instKey k i + bank) = none →
        walkDue s k i bank = false →
      exec (.scrubSlot k i bank flips) s = .next s) ∧
    (backWaits s k i bank = false → rmpWaits s k i bank = false → sget none s.mem.directed (4 * instKey k i + bank) = none →
        walkDue s k i bank = true → classifyWord (kindLen k) (memCode s k i (sget 0 s.mem.walk (instKey k i))) = .clean →
      Completes (.scrubSlot k i bank []) s fun t =>
        t.mem.code = s.mem.code ∧ sget 0 t.mem.due (instKey k i) = sget 0 s.mem.due (instKey k i) - 1 ∧
        sget 0 t.mem.walk (instKey k i) = (sget 0 s.mem.walk (instKey k i) + 1) % kindWords k ∧ t.regs = s.regs)) ∧
  (∀ (s : State) (k : MemKind) (i : Nat) (bank : Fin 4) (flips : List Nat), slotReady s k i bank = false →
    Completes (.forcedScrubSlot k i bank flips) s fun t => t = s)

/-! ### The tumbler engines (chapter 7) -/

/-- The C slot (R170, R172, R177, R181, R182, R186, R192, R194): where the C slot of engine e may issue and is legal, each RR and RI instruction puts
its result for RD behind the cycle, with the latency of the table, in the bank in force; pointers, loops, normalisation, saturation, control
transfers with their targets, event and control-register instructions put there what they say, and what follows the bundle; nothing else of the
device changes. The model's own choices in it: log entries 5, 54 to 57. -/
def Obligations.ScalarAndControlSlotsGiveTheirResults : Prop :=
  (∀ (s : State) (e : Fin 512) (r : EngineRec) (w : Nat), r = s.eng e → w = slotBits .c (bundle s e) → canIssue s e = true →
      r.issC = none → slotLegal .c w r.pc r.run = true →
    let a := r.sreg r.bank (sf w 22 5)
    let b := r.sreg r.bank (sf w 17 5)
    ∀ x ∈ [(0x01, Instr.add e, 1, a + b), (0x02, .sub e, 1, a - b), (0x03, .and e, 1, a &&& b), (0x04, .or e, 1, a ||| b),
        (0x05, .xor e, 1, a ^^^ b), (0x06, .sll e, 1, a <<< (b.toNat % 32)), (0x07, .srl e, 1, a >>> (b.toNat % 32)),
        (0x08, .sra e, 1, a.sshiftRight (b.toNat % 32)), (0x09, .slt e, 1, if a.toInt < b.toInt then 1 else 0),
        (0x0A, .sltu e, 1, if a.toNat < b.toNat then 1 else 0), (0x0B, .mul e, 2, a * b),
        (0x0C, .mulh e, 2, ((a.signExtend 64 * b.signExtend 64) >>> 32).setWidth 32),
        (0x0D, .min e, 1, if a.toInt ≤ b.toInt then a else b), (0x0E, .max e, 1, if a.toInt ≤ b.toInt then b else a)],
      slotOp .c w = x.1 → Completes x.2.1 s fun t =>
        (t.eng e).issC = some ([⟨x.2.2.1, .sreg r.bank (sf w 27 5) x.2.2.2⟩], .none) ∧ (t.eng e).issM = r.issM ∧
        (t.eng e).issV = r.issV ∧ (t.eng e).pc = r.pc ∧ t.regs = s.regs ∧ t.mem = s.mem ∧ ∀ n : Nat, n ≠ e → t.eng n = s.eng n) ∧
  (∀ (s : State) (e : Fin 512) (r : EngineRec) (w : Nat), r = s.eng e → w = slotBits .c (bundle s e) → canIssue s e = true →
      r.issC = none → slotLegal .c w r.pc r.run = true →
    let a := r.sreg r.bank (sf w 22 5)
    let imm := BitVec.ofNat 32 (sf w 0 17)
    ∀ x ∈ [(0x11, Instr.addi e, a + (imm.setWidth 17).signExtend 32), (0x13, .andi e, a &&& imm), (0x14, .ori e, a ||| imm),
        (0x15, .xori e, a ^^^ imm), (0x16, .slli e, a <<< (imm.toNat % 32)), (0x17, .srli e, a >>> (imm.toNat % 32)),
        (0x18, .srai e, a.sshiftRight (imm.toNat % 32)), (0x19, .lui e, (imm.setWidth 15).setWidth 32 <<< 17),
        (0x29, .pget e, BitVec.ofNat 32 (ptrField (r.ptr r.bank (sf w 18 3)) (sf w 15 3))),
        (0x21, .exp e, BitVec.ofInt 32 (((a >>> 23).setWidth 8).toNat - 127)), (0x40, .mfc e, crView s e (sf w 0 5))],
      slotOp .c w = x.1 → Completes x.2.1 s fun t =>
        (t.eng e).issC = some ([⟨1, .sreg r.bank (sf w 27 5) x.2.2⟩], .none) ∧ (t.eng e).issM = r.issM ∧
        (t.eng e).issV = r.issV ∧ (t.eng e).pc = r.pc ∧ t.regs = s.regs ∧ t.mem = s.mem ∧ ∀ n : Nat, n ≠ e → t.eng n = s.eng n) ∧
  (∀ (s : State) (e : Fin 512) (r : EngineRec) (w : Nat), r = s.eng e → w = slotBits .c (bundle s e) → canIssue s e = true →
      r.issC = none → slotLegal .c w r.pc r.run = true →
    let a := r.sreg r.bank (sf w 22 5)
    let rd := sf w 27 5
    let go : CFlow := .go (sf w 0 10) false
    let start := (r.pc + 3) % 1024
    let loop (n : Nat) : List Result × CFlow :=
      ([⟨1, .loop r.bank (sf w 30 2) start (sf w 0 10) n⟩], .loop (if n = 0 then (sf w 0 10 + 1) % 1024 else start))
    let sat := satScalar a (sf w 0 5) (sf w 5 2) (sf w 7 5 + 1)
    ∀ x ∈ [(0x20, Instr.norm e, ([⟨1, .sreg r.bank rd (a <<< redundant 32 a.toNat)⟩,
          ⟨1, .sreg r.bank (rd + 1) (BitVec.ofNat 32 (redundant 32 a.toNat))⟩], CFlow.none)),
        (0x22, .sats e, ([⟨1, .sreg r.bank rd sat.1⟩, ⟨1, .flags (if sat.2 then 0x4 else 0)⟩], .none)),
        (0x28, .pset e, ([⟨1, .ptr r.bank (sf w 18 3) (sf w 15 3) (a.toNat % 65536)⟩], .none)),
        (0x30, .br e, ([], go)), (0x31, .beqz e, ([], if a = 0 then go else .notTaken)),
        (0x32, .bnez e, ([], if a = 0 then .notTaken else go)), (0x33, .bltz e, ([], if a.toInt < 0 then go else .notTaken)),
        (0x34, .bgez e, ([], if a.toInt < 0 then .notTaken else go)),
        (0x35, .call e, ([⟨1, .sreg r.bank 31 (BitVec.ofNat 32 start)⟩], go)),
        (0x36, .ret e, ([], .go ((r.sreg r.bank 31).toNat % 1024) false)),
        (0x37, .reti e, ([], if r.causePending then .go ((r.crGet 3).toNat % 1024) false else .go ((r.crGet 4).toNat % 1024) true)),
        (0x38, .loop e, loop (a.toNat % 65536)), (0x39, .loopi e, loop (sf w 10 16)),
        (0x3A, .lclr e, ([⟨1, .lclr r.bank (sf w 30 2)⟩], .none)), (0x3B, .waitn e, ([], .none)), (0x3C, .waite e, ([], .sleep)),
        (0x3D, .done e, ([], .done)), (0x3E, .swi e, ([⟨1, .evt 0x80⟩], .none)),
        (0x41, .mtc e, ([⟨1, .crWrite (sf w 0 5) a⟩], .none)), (0x00, .nop e 0, ([], .none))],
      slotOp .c w = x.1 → Completes x.2.1 s fun t =>
        (t.eng e).issC = some x.2.2 ∧ (t.eng e).issM = r.issM ∧ (t.eng e).issV = r.issV ∧ (t.eng e).pc = r.pc ∧
        t.regs = s.regs ∧ t.mem = s.mem ∧ ∀ n : Nat, n ≠ e → t.eng n = s.eng n) ∧
  (∀ (s : State) (e : Fin 512) (r : EngineRec), r = s.eng e → canIssue s e = true → r.issC = none →
      slotLegal .c (slotBits .c (bundle s e)) r.pc r.run = false →
    Completes (.nop e 0) s fun t => (t.eng e).issC = some ([⟨1, .flags 0x40⟩], .none) ∧ t.regs = s.regs)

/-- The V slot's instructions (R168, R170, R178–R184): each puts its result for the vector register, the accumulator or the scalar behind the
cycle, with the latency of the table. The model's own choices in it: log entries 5, 54, 61, 62. -/
def Obligations.VectorSlotsGiveTheirResults : Prop :=
  ∀ (s : State) (e : Fin 512) (r : EngineRec) (w : Nat), r = s.eng e → w = slotBits .v (bundle s e) → canIssue s e = true →
      r.issV = none → slotLegal .v w r.pc r.run = true →
    let x := r.vreg (sf w 32 4)
    let y := r.vreg (sf w 28 4)
    let sx := r.sreg r.bank (sf w 23 5)
    let n := elemWidth (sf w 21 2)
    let u := sf w 20 1 == 1
    let bsz := sf w 18 1 == 1
    let ac := r.acc (sf w 32 3)
    let each (f : Nat → Nat) : ResAct := .vreg (sf w 36 4) (mapElems (sf w 21 2) f)
    let mac (k : Nat) : ResAct := .acc (sf w 36 3) (.mac k (sf w 21 2) u (sf w 19 1 == 1) x y)
    let sh := sx.toNat % 32 % n
    let sat := vsat ac.bits (sf w 7 1 == 1) (sf w 5 2) (sf w 8 2) (sf w 12 6) (sf w 10 2)
    ∀ z ∈ [(0x00, Instr.nop e 1, ([] : List Result)),
        (0x01, .vadd e, [⟨2, each (fun k => elem n k x + elem n k y)⟩]),
        (0x02, .vsub e, [⟨2, each (fun k => elem n k x + (2 ^ n - elem n k y))⟩]),
        (0x03, .vmul e, [⟨3, each (fun k => elem n k x * elem n k y)⟩]),
        (0x04, .vand e, [⟨2, .vreg (sf w 36 4) (x &&& y)⟩]), (0x05, .vor e, [⟨2, .vreg (sf w 36 4) (x ||| y)⟩]),
        (0x06, .vxor e, [⟨2, .vreg (sf w 36 4) (x ^^^ y)⟩]),
        (0x07, .vshl e, [⟨2, each (fun k => elem n k x * 2 ^ sh)⟩]),
        (0x08, .vsra e, [⟨2, each (fun k => ofSigned n (toSigned n (elem n k x) / 2 ^ sh))⟩]),
        (0x09, .vmin e, [⟨2, each (fun k => if numOf u n (elem n k x) < numOf u n (elem n k y) then elem n k x else elem n k y)⟩]),
        (0x0A, .vmax e, [⟨2, each (fun k => if numOf u n (elem n k x) < numOf u n (elem n k y) then elem n k y else elem n k x)⟩]),
        (0x0B, .vbcast e, [⟨2, each (fun _ => sx.toNat)⟩]),
        (0x0C, .vget e, [⟨2, .sreg r.bank (sf w 23 5) (BitVec.ofInt 32 (numOf u n (elem n (sf w 12 6) x)))⟩]),
        (0x10, .vmac e, [⟨4, mac 0⟩]), (0x11, .vmsu e, [⟨4, mac 1⟩]), (0x12, .vmpy e, [⟨4, mac 2⟩]),
        (0x13, .vmacb e, [⟨4, .acc (sf w 36 3) (.macb true bsz x y sx)⟩]),
        (0x14, .vmpyb e, [⟨4, .acc (sf w 36 3) (.macb false bsz x y sx)⟩]),
        (0x18, .aclr e, [⟨4, .acc (sf w 36 3) (.clear (sx.toNat % 256))⟩]),
        (0x19, .vsat e, [⟨3, .vreg (sf w 36 4) sat.1⟩, ⟨3, .flags sat.2⟩]),
        (0x1A, .amov e, [⟨3, .vreg (sf w 36 4) (BitVec.ofNat 512 (ac.bits.toNat / 2 ^ (512 * sf w 8 2)))⟩]),
        (0x1B, .amovi e, [⟨4, .acc (sf w 36 3) (.slice (sf w 8 2) x)⟩]),
        (0x1C, .agete e, [⟨3, .sreg r.bank (sf w 23 5) (BitVec.ofNat 32 (r.acc (sf w 36 3)).exp)⟩]),
        (0x20, .vcls e, [⟨2, each (fun k => redundant n (elem n k x))⟩]),
        (0x21, .vexp e, [⟨2, .vreg (sf w 36 4) (mapElems 2 (fun k => ofSigned 32 (expOf (elem 32 k x))))⟩]),
        (0x22, .bnorm e, [⟨3, .vreg (sf w 36 4) (bnorm bsz x sx).1⟩, ⟨3, .sregLow r.bank (sf w 23 5) (bnorm bsz x sx).2⟩]),
        (0x23, .bnorma e, [⟨3, .vreg (sf w 36 4) (bnorma bsz ac).1⟩, ⟨3, .sregLow r.bank (sf w 23 5) (bnorma bsz ac).2.1⟩,
          ⟨3, .flags (bnorma bsz ac).2.2⟩])],
      slotOp .v w = z.1 → Completes z.2.1 s fun t =>
        (t.eng e).issV = some z.2.2 ∧ (t.eng e).issM = r.issM ∧ (t.eng e).issC = r.issC ∧ (t.eng e).pc = r.pc ∧
        t.regs = s.regs ∧ t.mem = s.mem ∧ ∀ m : Nat, m ≠ e → t.eng m = s.eng m

/-- The M slot's loads and stores (R175, R185, R199–R201): the address is PA plus the offset with the bits below the size ignored, a load
delivers the bytes three cycles on, sign- or zero-extended, a store its bytes one cycle on, and POST moves the pointer. The model's own choices
in it: log entries 5, 54, 65. -/
def Obligations.LoadAndStoreSlotsGiveTheirResults : Prop :=
  ∀ (s : State) (e : Fin 512) (r : EngineRec) (w : Nat), r = s.eng e → w = slotBits .m (bundle s e) → canIssue s e = true →
      r.issM = none → slotLegal .m w r.pc r.run = true →
    let p := r.ptr r.bank (sf w 24 3)
    let at_ (n : Nat) : Nat := accessAddr p (sf w 0 16) / n * n
    let post : List Result := if sf w 23 1 = 1 then [⟨1, .ptr r.bank (sf w 24 3) 0 (postModify p)⟩] else []
    let bytes (n : Nat) : Nat := (dataLanes s e (at_ n) n).toNat / 2 ^ (8 * (at_ n % 64)) % 2 ^ (8 * n)
    let err (n : Nat) : List Result := if dataBad s e (at_ n) n then [⟨3, .loadError⟩] else []
    let load (n : Nat) (v : Int) : List Result := [⟨3, .sreg r.bank (sf w 27 5) (BitVec.ofInt 32 v)⟩] ++ err n ++ post
    let rs := (r.sreg r.bank (sf w 27 5)).toNat
    let store (n : Nat) : List Result := [⟨1, .store (at_ n) n (BitVec.ofNat 512 (rs % 2 ^ (8 * n) * 2 ^ (8 * (at_ n % 64))))⟩] ++ post
    ∀ z ∈ [(0x00, Instr.nop e 2, ([] : List Result)),
        (0x01, .ldb e [], load 1 (toSigned 8 (bytes 1))), (0x02, .ldbu e [], load 1 (bytes 1)),
        (0x03, .ldh e [], load 2 (toSigned 16 (bytes 2))), (0x04, .ldhu e [], load 2 (bytes 2)),
        (0x05, .ldw e [], load 4 (bytes 4)), (0x06, .stb e, store 1), (0x07, .sth e, store 2), (0x08, .stw e, store 4),
        (0x09, .ldv e [], [⟨3, .vreg (sf w 27 4) (dataLanes s e (at_ 64) 64)⟩] ++ err 64 ++ post),
        (0x0A, .stv e, [⟨1, .store (at_ 64) 64 (r.vreg (sf w 27 4))⟩] ++ post)],
      slotOp .m w = z.1 → Completes z.2.1 s fun t =>
        (t.eng e).issM = some z.2.2 ∧ (t.eng e).issV = r.issV ∧ (t.eng e).issC = r.issC ∧ (t.eng e).pc = r.pc ∧
        t.regs = s.regs ∧ t.mem = s.mem ∧ ∀ m : Nat, m ≠ e → t.eng m = s.eng m

/-- The M slot's stream and network instructions (R89, R197, R198, R202, R203, R207): over an open link a vector is sent for a credit and received
with the credit returned, and one sent to a retired engine goes nowhere; on a closed link EVT.STREAM_ERR is set; a network operation is sent under
the tag of the engine's set and counted as outstanding, or waits while the router has no room. The model's own choices in it: log entries 5, 13,
54, 59, 210. -/
def Obligations.StreamAndNetworkSlotsAct : Prop :=
  (∀ (s : State) (e : Fin 512) (w d : Nat) (f : Nat), w = slotBits .m (bundle s e) → canIssue s e = true → (s.eng e).issM = none →
      slotLegal .m w (s.eng e).pc (s.eng e).run = true → slotOp .m w = 0x10 → d = sf w 21 2 → openLink s e d = some f →
    Completes (.ssend e) s fun t =>
      (t.eng e).issM = some [] ∧ (t.eng e).creditsOf d = (s.eng e).creditsOf d - 1 ∧
      (t.eng f).coming = if s.flag F.TMB_STAT.RETIRED f = true then (s.eng f).coming
        else (s.eng f).coming ++ [((d + 2) % 4, (s.eng e).vreg (sf w 27 4))]) ∧
  (∀ (s : State) (e : Fin 512) (w d : Nat) (f : Nat), w = slotBits .m (bundle s e) → canIssue s e = true → (s.eng e).issM = none →
      slotLegal .m w (s.eng e).pc (s.eng e).run = true → slotOp .m w = 0x11 → d = sf w 21 2 → openLink s e d = some f →
    Completes (.srecv e) s fun t =>
      (t.eng e).issM = some [⟨2, .vreg (sf w 27 4) (((s.eng e).fifoOf d).headD 0)⟩] ∧
      (t.eng e).fifoOf d = ((s.eng e).fifoOf d).drop 1 ∧
      (t.eng f).creditsOf ((d + 2) % 4) = (s.eng f).creditsOf ((d + 2) % 4) + 1) ∧
  (∀ (s : State) (e : Fin 512) (w : Nat), w = slotBits .m (bundle s e) → canIssue s e = true → (s.eng e).issM = none →
      slotLegal .m w (s.eng e).pc (s.eng e).run = true → openLink s e (sf w 21 2) = none →
    ∀ z ∈ [(0x10, Instr.ssend e, ([⟨1, .evt 0x20⟩] : List Result)), (0x11, .srecv e, [⟨2, .vreg (sf w 27 4) 0⟩, ⟨1, .evt 0x20⟩])],
      slotOp .m w = z.1 → Completes z.2.1 s fun t => (t.eng e).issM = some z.2.2 ∧ ∀ m : Nat, m ≠ e → t.eng m = s.eng m) ∧
  (∀ (s : State) (e : Fin 512) (r : EngineRec) (w txn n v off : Nat) (path : List Nat), r = s.eng e → w = slotBits .m (bundle s e) →
      canIssue s e = true → r.issM = none → slotLegal .m w r.pc r.run = true → freeTxn s (engineEp e) = some txn →
      engineTenant s e = some n → netAddr r w % 64 + (sf w 16 6 + 1) ≤ 64 → decodeDa s (netAddr r w) = .vault v off →
      leafRoute s (epLeaf (engineEp e)) (epLeaf (vaultEp v)) = some path →
    let len := sf w 16 6 + 1
    let addr := (r.ptr r.bank (sf w 24 3)).pa / 64 * 64 + netAddr r w % 64
    let req (op : NetOp) (d : Line) : Req := ⟨op, engineEp e, vaultEp v, txn, ⟨2, n⟩, netAddr r w, len, d, .none⟩
    ∀ z ∈ [(0x18, Instr.nget e, true, req .read 0), (0x19, .nput e, false, req .write (dataLanes s e addr len))],
      slotOp .m w = z.1 → Completes z.2.1 s fun t =>
        match netEnter (.engine e) z.2.2.2 s with
        | some u => (t.eng e).ops = r.ops ++ [⟨txn, addr, len, z.2.2.1, r.pc⟩] ∧ t.net.reqs = s.net.reqs ++ [z.2.2.2] ∧
          t.net.way = u.net.way ∧ (t.eng e).issM = some (if sf w 23 1 = 1 then
            [⟨1, .ptr r.bank (sf w 24 3) 0 (postModify (r.ptr r.bank (sf w 24 3)))⟩] else [])
        | none => t = s) ∧
  (∀ (s : State) (e : Fin 512) (d : Fin 4) (v : Line) (l : List (Nat × Line)), (s.eng e).coming = (d.val, v) :: l →
    Completes (.streamArrival e d) s fun t =>
      (t.eng e).coming = l ∧ (t.eng e).fifoOf d = (s.eng e).fifoOf d ++ [v] ∧ ∀ m : Nat, m ≠ e → t.eng m = s.eng m)

/-- The cycle of an engine (R167, R172, R190, R193, R217): a result of latency 1 lands at the end of its bundle's cycle and the next bundle
follows; an event is entered in the shadow bank; an uncorrectable fetch faults the engine; TIMER and WRSP act on the engine's control registers.
The model's own choices in it: log entries 54 to 58, 63. -/
def Obligations.EngineCyclesLandResultsAndEnterEvents : Prop :=
  (∀ (s : State) (e : Fin 512) (r : EngineRec) (b : Bool) (n : Nat) (v : Word), r = s.eng e → r.run = 1 → eckOn s e = true →
      r.take = none → r.stopping = false → r.doneWait = false → r.halted = false → r.bubble = false → r.redir = none → r.pend = [] →
      r.wq = [] → r.issM = some [] → r.issV = some [] → r.issC = some ([⟨1, .sreg b n v⟩], .none) →
      (∀ l : Fin 4, (r.loopLv r.bank l).active = false) →
    Completes (.resultLanding e) s fun t =>
      (t.eng e).sreg b n = v ∧ (t.eng e).pc = (r.pc + 1) % 1024 ∧ (t.eng e).issC = none ∧ (t.eng e).pend = [] ∧
      (t.eng e).crGet 9 = r.crGet 9 + 1 ∧ sget 0 t.clk.eckAt e = nextEck s e ∧ t.regs = s.regs ∧ ∀ m : Nat, m ≠ e → t.eng m = s.eng m) ∧
  (∀ (s : State) (e : Fin 512) (a : Nat), (s.eng e).take = some a → eckOn s e = true → (s.eng e).halted = false →
      (s.eng e).stopping = false →
    Completes (.eventEntry e) s fun t =>
      (t.eng e).run = 2 ∧ (t.eng e).bank = true ∧ (t.eng e).pc = ((s.eng e).crGet 3).toNat % 1024 ∧
      (t.eng e).crGet 4 = BitVec.ofNat 32 a ∧ (t.eng e).take = none ∧ t.regs = s.regs) ∧
  (∀ (s : State) (e : Fin 512), issuing s e = true → (s.eng e).bubble = false → (s.eng e).noSlot = true → (s.eng e).hold = 0 →
      fetchBad s e = true → engineSet s e = none →
    Completes (.uncorrectableFetch e []) s fun t =>
      (t.eng e).run = 4 ∧ (t.eng e).crGet 4 = BitVec.ofNat 32 (s.eng e).pc ∧ t.flag F.TMB_EVCAUSE.FAULT e = true ∧
      t.flag F.TMB_EVCAUSE.MEMERR e = true) ∧
  (∀ (s : State) (e : Fin 512), (s.eng e).run = 1 ∨ (s.eng e).run = 2 → (s.eng e).crGet 9 = (s.eng e).crGet 0x0A →
    Completes (.timer e) s fun t => (t.eng e).crGet 1 = (s.eng e).crGet 1 ||| 8 ∧ t.regs = s.regs) ∧
  (∀ (s : State) (e : Fin 512) (v : Word) (q : Req) (off : Nat) (l : List WinReq), (s.eng e).run = 0 →
      (s.eng e).wq = ⟨q, off, 0⟩ :: l →
    Completes (.wrsp e v) s fun t =>
      (t.eng e).wq = l ∧
      (let a := getF v 6 10 * 64
       let d := dataLanes s e a 64
       t.net.resps = s.net.resps ++ [⟨q.dst, q.src, q.txn, q.tag, if dataBad s e a 64 then .poisoned d else .data d, q.intent⟩])) ∧
  (∀ (s : State) (e : Fin 512) (v : Word), (s.eng e).run = 0 → (s.eng e).whead = none →
    Completes (.wrsp e v) s fun t => getF ((t.eng e).crGet 0x1A) 8 1 = 1 ∧ t.net = s.net)

/-! ### Sets, jobs and windows (chapter 8) -/

/-- Sets and their members (R198, R204–R206, R222): a free, tested engine joins a valid set of its leaf and is cleared where its tag changes, one
that runs is refused; an empty set takes what is written, one whose job runs keeps its tenant; a clearing ends; tests and restores run, and
end by their signature. The model's own choices in it: log entries 25, 68 to 71, 73. -/
def Obligations.SetsTakeTheirEnginesAndTestsRun : Prop :=
  (∀ (s : State) (e : Fin 512) (v : Word) (k : Nat), k = F.TMB_CFG.SET.of v → F.TMB_CFG.VALID.of v = 1 → (s.eng e).run = 0 →
      engineSet s e = none → s.flag F.TMB_SET_CFG.VALID k = true → s.flag F.TMB_SET_JSTAT.RUNNING k = false →
      s.flag F.TMB_STAT.TESTED e = true → s.flag F.TMB_STAT.RETIRED e = false → s.flag F.TMB_STAT.CLEARING e = false →
      (∀ f ∈ tmbMembers s k, f / 128 = e.val / 128) →
    Completes (.tmbCfgWrite e v) s fun t =>
      engineSet t e = some k ∧ t.flag F.TMB_STAT.REJECT e = s.flag F.TMB_STAT.REJECT e ∧ t.flag F.TMB_STAT.CLEARING e = true ∧
      (t.eng e).prim = .zero ∧ (t.eng e).cr = [] ∧ ∀ w : Nat, w < 8192 → memCode t .data e w = 0) ∧
  (∀ (s : State) (e : Fin 512) (v : Word), (s.eng e).run ≠ 0 → Completes (.tmbCfgWrite e v) s fun t =>
    t.flag F.TMB_STAT.REJECT e = true ∧ t.reg .TMB_CFG e = s.reg .TMB_CFG e ∧ t.tmb = s.tmb) ∧
  (∀ (s : State) (k : Fin 64) (v : Word), tmbMembers s k = [] → s.flag F.TMB_SET_JSTAT.RUNNING k = false →
    Completes (.setCfgWrite k v) s fun t =>
      t.rd F.TMB_SET_CFG.TENANT k = F.TMB_SET_CFG.TENANT.of v ∧ t.rd F.TMB_SET_CFG.VALID k = F.TMB_SET_CFG.VALID.of v ∧
      t.rd F.TMB_SET_CFG.WINDOW k = F.TMB_SET_CFG.WINDOW.of v ∧ t.tmb = s.tmb ∧ t.mem = s.mem) ∧
  (∀ (s : State) (k : Fin 64) (v : Word), s.flag F.TMB_SET_JSTAT.RUNNING k = true →
      F.TMB_SET_CFG.TENANT.of v ≠ s.rd F.TMB_SET_CFG.TENANT k →
    Completes (.setCfgWrite k v) s fun t =>
      t.flag F.TMB_SET_CFG.REJECT k = true ∧ t.rd F.TMB_SET_CFG.TENANT k = s.rd F.TMB_SET_CFG.TENANT k ∧ t.tmb = s.tmb) ∧
  (∀ (s : State) (e : Fin 512), s.flag F.TMB_STAT.CLEARING e = true → Completes (.clearingEnd e) s fun t =>
    t.flag F.TMB_STAT.CLEARING e = false ∧ t.tmb = s.tmb ∧ t.mem = s.mem) ∧
  (∀ (s : State) (e : Fin 512), s.flag F.TMB_STAT.TBUSY e = false → s.flag F.TMB_STAT.CLEARING e = false →
      domOn s (engineDom e) = true → (s.eng e).run = 0 → engineSet s e = none →
    Completes (.engineSelfTest e) s fun t => t.flag F.TMB_STAT.TBUSY e = true ∧ (t.eng e).restoring = false ∧ t.mem = s.mem) ∧
  (∀ (s : State) (e : Fin 512), s.flag F.TMB_STAT.TBUSY e = false → s.flag F.TMB_STAT.CLEARING e = false →
      domOn s (engineDom e) = true → (s.eng e).run = 0 → s.flag F.TMB_STAT.RETIRED e = true → engineSet s e = none →
    Completes (.engineRestore e) s fun t => t.flag F.TMB_STAT.TBUSY e = true ∧ (t.eng e).restoring = true ∧ t.mem = s.mem) ∧
  (∀ (s : State) (e : Fin 512), s.flag F.TMB_STAT.TBUSY e = true → Completes (.engineSelfTestDone e Config.engineSignature) s fun t =>
    t.flag F.TMB_STAT.TBUSY e = false ∧ t.flag F.TMB_STAT.TESTED e = true ∧ t.rd F.TMB_TSIG.SIG e = Config.engineSignature.toNat ∧
    (t.flag F.TMB_STAT.RETIRED e = if (s.eng e).restoring = true ∧ s.flag F.MEM_TMB.USABLE e = true ∧
      s.flag F.MEM_TMB.PROG_PERM e = false then false else s.flag F.TMB_STAT.RETIRED e) ∧
    t.flag F.TMB_EVCAUSE.TESTDONE e = true) ∧
  (∀ (s : State) (e : Fin 512) (sig : Word), s.flag F.TMB_STAT.TBUSY e = true → sig ≠ Config.engineSignature →
    Completes (.engineSelfTestDone e sig) s fun t =>
    t.flag F.TMB_STAT.TBUSY e = false ∧ t.flag F.TMB_STAT.RETIRED e = true ∧ t.rd F.TMB_TSIG.SIG e = sig.toNat ∧
    (s.flag F.TMB_STAT.RETIRED e = false → t.rd F.TMB_STAT.RCAUSE e = 1))

/-- Jobs (R194, R207, R209–R213): GO starts every live member at ENTRY in the primary bank with its arguments, or is refused; a timeout and a
stop give the job its code and stop its members; the job ends when every member is Idle with no operation outstanding. The model's own choices in
it: log entries 67, 75, 76. -/
def Obligations.JobsStartStopAndEnd : Prop :=
  (∀ (s : State) (k : Fin 64) (v : Word), F.TMB_SET_JOB.GO.of v = 1 → s.flag F.TMB_SET_JSTAT.RUNNING k = false → liveMembers s k ≠ [] →
      (∀ e ∈ liveMembers s k, (s.eng e).run = 0 ∧ s.flag F.TMB_STAT.CLEARING e = false) → s.flag F.CLK_ECK.EN (setLeaf s k) = true →
    Completes (.jobGo k v) s fun t =>
      t.flag F.TMB_SET_JSTAT.RUNNING k = true ∧ t.job k = ⟨s.dtcNow, s.rd F.TMB_SET_TMO.TMO k, 0, 0⟩ ∧
      ∀ e ∈ liveMembers s k, (t.eng e).run = 1 ∧ (t.eng e).pc = F.TMB_SET_JOB.ENTRY.of v ∧ (t.eng e).bank = false ∧
        (t.eng e).crGet 16 = s.reg .TMB_SET_ARG (4 * k) ∧ (t.eng e).crGet 19 = s.reg .TMB_SET_ARG (4 * k + 3)) ∧
  (∀ (s : State) (k : Fin 64) (v : Word), F.TMB_SET_JOB.GO.of v = 1 → s.flag F.TMB_SET_JSTAT.RUNNING k = true ∨ liveMembers s k = [] →
    Completes (.jobGo k v) s fun t =>
      t.flag F.TMB_SET_JSTAT.REJECT k = true ∧ t.flag F.TMB_SET_JSTAT.RUNNING k = s.flag F.TMB_SET_JSTAT.RUNNING k ∧ t.tmb = s.tmb) ∧
  (∀ (s : State) (k : Fin 64) (e : Nat), s.flag F.TMB_SET_JSTAT.RUNNING k = true → s.flag F.TMB_SET_CFG.WINDOW k = false →
      (s.job k).tmo ≠ 0 → s.expired (s.job k).start (1000 * (s.job k).tmo) = true → (s.job k).code = 0 →
      e ∈ liveMembers s k → (s.eng e).byDone = false →
    Completes (.jobTimeout k) s fun t =>
      (t.job k).code = 3 ∧ ∀ f ∈ tmbMembers s k, (t.eng f).run = 0 ∨ (t.eng f).stopping = true) ∧
  (∀ (s : State) (k : Fin 64) (v : Word) (e : Nat), F.TMB_SET_STOP.STOP.of v = 1 → s.flag F.TMB_SET_JSTAT.RUNNING k = true →
      (s.job k).code = 0 → e ∈ liveMembers s k → (s.eng e).byDone = false →
    Completes (.setStop k v) s fun t =>
      (t.job k).code = 4 ∧ ∀ f ∈ tmbMembers s k, (t.eng f).run = 0 ∨ (t.eng f).stopping = true) ∧
  (∀ (s : State) (e : Fin 512) (r : EngineRec), r = s.eng e → engineSet s e = none → r.run ≠ 0 → r.halted = false →
    Completes (.engineStop e) s fun t =>
      (t.eng e).run = (if r.pend = [] ∧ r.issued = [] ∧ r.ops = [] then 0 else r.run) ∧
      ((t.eng e).run ≠ 0 → (t.eng e).stopping = true) ∧ t.regs = s.regs) ∧
  (∀ (s : State) (k : Fin 64), s.flag F.TMB_SET_JSTAT.RUNNING k = true → (s.job k).code ≠ 0 → (s.job k).code < 8 →
      (∀ e ∈ tmbMembers s k, (s.eng e).run = 0 ∧ (s.eng e).ops = []) →
    Completes (.jobEnd k) s fun t =>
      t.flag F.TMB_SET_JSTAT.RUNNING k = false ∧ t.rd F.TMB_SET_JSTAT.END k = (s.job k).code ∧ t.job k = .none ∧ t.tmb.eng = s.tmb.eng) ∧
  (∀ (s : State) (k : Fin 64) (v : Word), F.TMB_SET_DB.DB.of v = 1 → s.flag F.TMB_SET_CFG.WINDOW k = false →
    Completes (.tmbSetsDb k v) s fun t =>
      t.regs = s.regs ∧ ∀ e ∈ liveMembers s k, (t.eng e).crGet 0x15 = (s.eng e).crGet 0x15 ||| 2 ∧
        (((s.eng e).crGet 0x15).getLsbD 1 = false → ((t.eng e).crGet 1).getLsbD 0 = true))

/-- Transform windows (R89, R214–R219, R253): a window is enabled where its registers allow it, and rejected where they do not, and while it is
enabled only EN is written; a host's read goes to the member that the address names with its offset, unless the network has no room for it, or is answered poisoned where no job runs; a write completes and is counted; a bound that ends answers poisoned;
TMO is set where every enabled window's bound stays below it. The model's own choices in it: log entries 13, 72, 74, 75. -/
def Obligations.TransformWindowsServeTheirHost : Prop :=
  (∀ (s : State) (w : Fin 16) (v : Word), s.flag F.TMB_TW_CFG.EN w = false → F.TMB_TW_CFG.EN.of v = 1 → F.TMB_TW_CFG.REJECT.of v = 0 →
    Completes (.windowEnable w v) s fun t =>
      let u := (s.wr F.TMB_TW_CFG.SET w (F.TMB_TW_CFG.SET.of v)).wr F.TMB_TW_CFG.SIZE w (F.TMB_TW_CFG.SIZE.of v)
      t.flag F.TMB_TW_CFG.EN w = windowOk u w ∧ (windowOk u w = false → t.flag F.TMB_TW_CFG.REJECT w = true) ∧
      t.rd F.TMB_TW_CFG.SET w = F.TMB_TW_CFG.SET.of v ∧ t.rd F.TMB_TW_CFG.SIZE w = F.TMB_TW_CFG.SIZE.of v) ∧
  (∀ (s : State) (v : Word), Completes (.krvTmoWrite v) s fun t =>
    t.rd F.KRV_TMO.TMO 0 =
      if 16 ≤ F.KRV_TMO.TMO.of v ∧ ∀ w : Fin 16, s.flag F.TMB_TW_CFG.EN w = true →
          s.rd F.TMB_TW_BOUND.BOUND w < 1000 * F.KRV_TMO.TMO.of v then F.KRV_TMO.TMO.of v else s.rd F.KRV_TMO.TMO 0) ∧
  (∀ (s : State) (w : Fin 16) (v : Word), s.flag F.TMB_TW_CFG.EN w = true → Completes (.windowEnable w v) s fun t =>
      t.rd F.TMB_TW_CFG.EN w = F.TMB_TW_CFG.EN.of v ∧ t.rd F.TMB_TW_CFG.SET w = s.rd F.TMB_TW_CFG.SET w ∧
      t.rd F.TMB_TW_CFG.SIZE w = s.rd F.TMB_TW_CFG.SIZE w ∧ t.rd F.TMB_TW_CFG.REJECT w = s.rd F.TMB_TW_CFG.REJECT w) ∧
  (∀ (s : State) (n : Fin 16) (id : HostId) (dpa da w e txn : Nat) (path : List Nat), cxlReady s n = true → dpaInWindow s n dpa = true →
      translate s n (dpa / 64 * 64) = some da → decodeDa s da = .window w →
      s.rd F.TMB_SET_CFG.TENANT (s.rd F.TMB_TW_CFG.SET w) = n.val → s.flag F.TMB_SET_JSTAT.RUNNING (s.rd F.TMB_TW_CFG.SET w) = true →
      (liveMembers s (s.rd F.TMB_TW_CFG.SET w))[(da - windowBase s w) / 64 % (liveMembers s (s.rd F.TMB_TW_CFG.SET w)).length]? = some e →
      leafRoute s (epLeaf (headEp s n da)) (epLeaf (engineEp e)) = some path → freeTxn s (headEp s n da) = some txn →
    let src := headEp s n da
    let r : Req := ⟨.read, src, engineEp e, txn, ⟨0, n⟩, da / 64 * 64, 64, 0, .none⟩
    let s1 : State := { s with coh := { s.coh with hostPort := sset 0 s.coh.hostPort n id.port } }
    let s2 : State := { s1 with net := { s.net with winOff := sset 0 s.net.winOff (256 * src + txn) (da - windowBase s w) } }
    Completes (.windowRead n id dpa) s fun t =>
      match netEnter (.window n id w) r s2 with
      | some u =>
        t.net.reqs = s.net.reqs ++ [r] ∧ t.net.way = u.net.way ∧
        t.net.outst = s.net.outst ++ [⟨.window n id w, r, s.dtcNow, s.rd F.TMB_TW_BOUND.BOUND w⟩] ∧
        sget 0 t.net.winOff (256 * src + txn) = da - windowBase s w
      | none => t = s1) ∧
  (∀ (s : State) (n : Fin 16) (id : HostId) (dpa da w : Nat), cxlReady s n = true → dpaInWindow s n dpa = true →
      translate s n (dpa / 64 * 64) = some da → decodeDa s da = .window w →
      s.rd F.TMB_SET_CFG.TENANT (s.rd F.TMB_TW_CFG.SET w) = n.val → s.flag F.TMB_SET_JSTAT.RUNNING (s.rd F.TMB_TW_CFG.SET w) = false →
    Completes (.windowRead n id dpa) s fun t =>
      t.out = s.out ++ [.cxlData n id.tag 0 true .none ⟨s.rd F.COH_HEAD.PID n, id.port⟩] ∧
      t.rd F.TMB_TW_NOTREADY.VALUE w = min (s.rd F.TMB_TW_NOTREADY.VALUE w + 1) (2 ^ 32 - 1) ∧ t.net = s.net) ∧
  (∀ (s : State) (n : Fin 16) (id : HostId) (dpa len da w : Nat) (data : Line), cxlReady s n = true → translate s n dpa = some da →
      decodeDa s da = .window w → len ≠ 0 → da % 64 + len ≤ 64 →
      s.rd F.TMB_SET_CFG.TENANT (s.rd F.TMB_TW_CFG.SET w) = n.val →
    Completes (.windowWrite n id dpa len data) s fun t =>
      t.out = s.out ++ [.cxlCompletion n id.tag ⟨s.rd F.COH_HEAD.PID n, id.port⟩] ∧
      t.rd F.TMB_TW_WRITES.VALUE w = min (s.rd F.TMB_TW_WRITES.VALUE w + 1) (2 ^ 32 - 1) ∧ t.net = s.net ∧ t.tmb = s.tmb) ∧
  (∀ (s : State) (src : BitVec 13) (txn : BitVec 8) (o : Outst) (n : Nat) (id : HostId) (w : Nat),
      outstOf s src.toNat txn.toNat = some o → o.who = .window n id w → s.expired o.sentAt o.window = true →
    Completes (.windowBoundExpiry src txn) s fun t =>
      t.out = s.out ++ [.cxlData n id.tag 0 true .none ⟨s.rd F.COH_HEAD.PID n, id.port⟩] ∧ t.net.outst = s.net.outst.erase o ∧
      t.net.quar = s.net.quar ++ [(o.req.src, o.req.txn)] ∧
      t.rd F.TMB_TW_OVERRUN.VALUE w = min (s.rd F.TMB_TW_OVERRUN.VALUE w + 1) (2 ^ 32 - 1))

/-! ### Links and lanes (chapter 9) -/

/-- Heads under their control table (R227, R233–R237, R244, R249): an attempt starts from Detect or Recovery with its lanes' stages, succeeds into
Up or fails into Backoff with its wait, times out as a failure, and trains again after the wait; no link forms at 64 or 128 GT/s without flit mode,
or with a lane that takes no part in the attempt; a link that goes to Detect is down, and REDETECT ends a loopback too. The model's own
choices in it: log entries 5, 78, 79, 81. -/
def Obligations.HeadsFollowTheirControlTable : Prop :=
  (∀ (s : State) (n : Fin 16) (found : BitVec 16), s.rd F.LNK_HSTAT.CTLST n = 2 → s.rd F.LNK_HSTAT.LTSSM n = 0 → headPll s n = true →
      (∃ g ∈ lanesIn s n, found.getLsbD (g % 16) = true) →
    Completes (.attemptStart n (.detect found)) s fun t =>
      t.rd F.LNK_HSTAT.LTSSM n = 1 ∧ t.rd F.LNK_HSTAT.CTLST n = 2 ∧ (t.head n).attempt = true ∧ (t.head n).fromRec = false ∧
      (t.head n).startAt = s.stamp ∧ (t.head n).train = s.rd F.LNK_TMO.TRAIN (n / 2) ∧
      t.rd F.LNK_HATT.ATTEMPTS n = min (s.rd F.LNK_HATT.ATTEMPTS n + 1) 0xFFFF ∧
      ∀ g ∈ headLanes s n, t.rd F.LNK_LSTAT.STAGE g = if laneRetired s g = false ∧ found.getLsbD (g % 16) = true then 1 else 0) ∧
  (∀ (s : State) (n : Fin 16) (counted eq : Bool), linkActive s n = true →
    Completes (.attemptStart n (.recovery counted eq)) s fun t =>
      t.rd F.LNK_HSTAT.LTSSM n = (if eq = true then 5 else 4) ∧ t.rd F.LNK_HSTAT.CTLST n = 4 ∧ (t.head n).attempt = true ∧
      (t.head n).fromRec = true ∧
      t.rd F.LNK_HREC.COUNT n = (if counted = true then min (s.rd F.LNK_HREC.COUNT n + 1) (2 ^ 32 - 1) else s.rd F.LNK_HREC.COUNT n) ∧
      ∀ g ∈ headLanes s n, t.rd F.LNK_LSTAT.STAGE g =
        if laneRetired s g = false ∧ s.flag F.LNK_LSTAT.INLINK g = true then 1 else 0) ∧
  (∀ (s : State) (n : Fin 16) (f : LinkForm), (s.head n).attempt = true → formOk s n f = true →
    Completes (.attemptSuccess n f) s fun t =>
      t.rd F.LNK_HSTAT.CTLST n = 3 ∧ t.rd F.LNK_HSTAT.LTSSM n = 3 ∧ t.flag F.LNK_HSTAT.UP n = true ∧ t.rd F.LNK_HSTAT.BACKOFF_K n = 0 ∧
      t.rd F.LNK_HSTAT.RATE n = f.rate.val ∧ t.rd F.LNK_HSTAT.WIDTH n = f.width ∧ t.flag F.LNK_HSTAT.FLIT n = f.flit ∧
      t.flag F.LNK_HSTAT.REV n = f.rev ∧ (t.head n).attempt = false ∧ (f.rate.val < 5 ∨ f.rate.val = 7 ∨ f.width < 4 → t.flag F.LNK_HSTAT.CXLUP n = false) ∧
      (∀ g ∈ headLanes s n, t.flag F.LNK_LSTAT.INLINK g = (linkLanes s n f).contains g) ∧
      ((s.head n).fromRec = false → t.flag F.LNK_HEVT.UP n = true)) ∧
  (∀ (s : State) (n : Fin 16) (f : LinkForm), (5 < f.rate.val ∧ f.flit = false) ∨
      (∃ g ∈ linkLanes s n f, s.rd F.LNK_LSTAT.STAGE g = 0 ∨ laneRetired s g = true) →
    Completes (.attemptSuccess n f) s fun t => t = s) ∧
  (∀ (s : State) (n : Fin 16), (s.head n).attempt = true → Completes (.attemptFailure n) s fun t =>
      let k := min 15 (s.rd F.LNK_HSTAT.BACKOFF_K n + 1)
      t.rd F.LNK_HSTAT.CTLST n = 5 ∧ t.rd F.LNK_HSTAT.LTSSM n = 0 ∧ t.flag F.LNK_HSTAT.UP n = false ∧ t.rd F.LNK_HSTAT.WIDTH n = 0 ∧
      t.rd F.LNK_HSTAT.BACKOFF_K n = k ∧ (t.head n).backoffEnd = s.stamp + 1000000 * min 512 (2 ^ (k - 1)) ∧
      t.rd F.LNK_HATT.FAILED n = min (s.rd F.LNK_HATT.FAILED n + 1) 0xFFFF ∧ (t.head n).attempt = false ∧
      t.flag F.LNK_HEVT.DOWN n = ((s.head n).fromRec || s.flag F.LNK_HEVT.DOWN n)) ∧
  (∀ (s : State) (n : Fin 16), (s.head n).attempt = true → s.expired (s.head n).startAt (1000000 * (s.head n).train) = true →
    Completes (.trainTimeout n) s fun t => exec (.attemptFailure n) s = .next t) ∧
  (∀ (s : State) (n : Fin 16), s.rd F.LNK_HSTAT.CTLST n = 5 → (s.head n).backoffEnd ≤ s.dtcNow →
    Completes (.backoffEnd n) s fun t => t.rd F.LNK_HSTAT.CTLST n = 2 ∧ t.rd F.LNK_HSTAT.LTSSM n = 0 ∧ t.lnk = s.lnk) ∧
  (∀ (s : State) (n : Fin 16), linkActive s n = true → ∀ c ∈ [Instr.linkDown n, Instr.redetect n], headExists s n = true →
      (s.head n).attempt = false → Completes c s fun t =>
    t.rd F.LNK_HSTAT.CTLST n = 2 ∧ t.rd F.LNK_HSTAT.LTSSM n = 0 ∧ t.flag F.LNK_HEVT.DOWN n = true ∧ t.rd F.LNK_HSTAT.RATE n = 0 ∧
    t.lnk.charges = s.lnk.charges ∧ ∀ g ∈ headLanes s n, t.flag F.LNK_LSTAT.INLINK g = false) ∧
  (∀ (s : State) (n : Fin 16), headExists s n = true → (s.head n).attempt = false → s.rd F.LNK_HSTAT.LTSSM n = 10 →
    Completes (.redetect n) s fun t =>
      t.rd F.LNK_HSTAT.LTSSM n = 0 ∧ t.rd F.LNK_HSTAT.CTLST n = 2 ∧ ∀ g ∈ headLanes s n, t.flag F.LNK_LLB.FELB g = false) ∧
  (∀ (s : State) (n : Fin 16), s.rd F.LNK_HSTAT.CTLST n = 3 → s.rd F.LNK_HSTAT.LTSSM n = 8 →
    Completes (.l2Exit n) s fun t =>
      t.rd F.LNK_HSTAT.CTLST n = 2 ∧ t.rd F.LNK_HSTAT.LTSSM n = 0 ∧ t.flag F.LNK_HEVT.DOWN n = s.flag F.LNK_HEVT.DOWN n)

/-- What the Keeper, the board and the partner do to a head (R225, R236, R237, R246, R249): HOLD holds it and lets it go, PERST_N and resets hold
it or train it, RETRAIN enters Recovery from L0, low-power states leave it Up, and its PLLs lock together in x16 mode. The model's own choices in
it: log entries 5, 77, 80, 81, 86. -/
def Obligations.HeadsAreHeldResetAndIdled : Prop :=
  (∀ (s : State) (n : Fin 16), headExists s n = true → s.rd F.LNK_HSTAT.CTLST n ≠ 0 → Completes (.holdWrite n true) s fun t =>
    t.flag F.LNK_HCTL.HOLD n = true ∧ t.rd F.LNK_HSTAT.CTLST n = 0 ∧ t.rd F.LNK_HSTAT.LTSSM n = 0 ∧ t.rd F.LNK_HSTAT.WIDTH n = 0 ∧
    t.flag F.LNK_HEVT.DOWN n = (s.rd F.LNK_HSTAT.CTLST n == 3 || s.flag F.LNK_HEVT.DOWN n)) ∧
  (∀ (s : State) (n : Fin 16), headExists s n = true → s.rd F.LNK_HSTAT.CTLST n = 0 → Completes (.holdWrite n false) s fun t =>
    if loopedLane s n = true then t = s
    else t.flag F.LNK_HCTL.HOLD n = false ∧
      t.rd F.LNK_HSTAT.CTLST n = if perstHigh s n = false then 0 else if lrefPresent s (n / 2) = true then 2 else 1) ∧
  (∀ (s : State) (n : Fin 16), headExists s n = true → s.rd F.LNK_HSTAT.CTLST n = 0 → s.flag F.LNK_HCTL.HOLD n = false →
    Completes (.perstNHigh n) s fun t =>
      perstHigh t n = true ∧ t.rd F.LNK_HSTAT.CTLST n = if lrefPresent s (n / 2) = true then 2 else 1) ∧
  (∀ (s : State) (n : Fin 16) (hot : Bool), headExists s n = true → Completes (.headReset n hot) s fun t =>
    t.rd F.LNK_HSTAT.LTSSM n = 0 ∧ t.rd F.LNK_HSTAT.WIDTH n = 0 ∧ (t.head n).attempt = false ∧
    t.lnk.charges = s.lnk.charges ∧ t.rd F.LNK_RET.RET (n / 2) = s.rd F.LNK_RET.RET (n / 2) ∧
    (hot = false → perstHigh t n = false ∧ t.rd F.LNK_HSTAT.CTLST n = 0) ∧
    (hot = true → s.rd F.LNK_HSTAT.CTLST n ≠ 0 →
      t.rd F.LNK_HSTAT.CTLST n = if lrefPresent s (n / 2) = true then 2 else 1)) ∧
  (∀ (s : State) (n : Fin 16), headExists s n = true → s.rd F.LNK_HSTAT.CTLST n = 3 → s.rd F.LNK_HSTAT.LTSSM n = 3 →
    Completes (.hctlRetrain n) s fun t => exec (.attemptStart n (.recovery false false)) s = .next t) ∧
  (∀ (s : State) (n : Fin 16) (d : LowPower), s.rd F.LNK_HSTAT.CTLST n = 3 → s.rd F.LNK_HSTAT.LTSSM n = 3 → d ≠ .l0 →
      (∀ a, d = .l0p a → s.flag F.LNK_HSTAT.FLIT n = true ∧ 1 ≤ a ∧ a ≤ s.rd F.LNK_HSTAT.WIDTH n) →
    Completes (.lowPowerTransition n d) s fun t =>
      t.rd F.LNK_HSTAT.LTSSM n = (match d with | .l0p _ => 6 | .l1 => 7 | _ => 8) ∧ t.rd F.LNK_HSTAT.CTLST n = 3 ∧
      t.lnk.charges = s.lnk.charges) ∧
  (∀ (s : State) (n : Fin 16), s.rd F.LNK_HSTAT.CTLST n = 3 → s.rd F.LNK_HSTAT.LTSSM n = 6 ∨ s.rd F.LNK_HSTAT.LTSSM n = 7 →
    Completes (.lowPowerTransition n .l0) s fun t =>
      t.rd F.LNK_HSTAT.LTSSM n = 3 ∧ t.rd F.LNK_HSTAT.CTLST n = 3 ∧ (t.head n).l0pIdle = 0) ∧
  (∀ (s : State) (p : Fin 8) (h : Fin 2), s.flag F.LNK_PCFG.X8X2 p = false →
      (∀ k : Fin 2, sget 0 s.lnk.pll (2 * p.val + k.val) = 1 ∨ sget 0 s.lnk.pll (2 * p.val + k.val) = 2) →
    Completes (.pllLock p h) s fun t => pllLock t p 0 = true ∧ pllLock t p 1 = true ∧ t.regs = s.regs) ∧
  (∀ (s : State) (p : Fin 8) (h : Fin 2), s.flag F.LNK_PCFG.X8X2 p = true → sget 0 s.lnk.pll (2 * p + h) = 1 →
    Completes (.pllLock p h) s fun t => pllLock t p h = true ∧ pllLock t p (1 - h.val) = pllLock s p (1 - h.val) ∧ t.regs = s.regs) ∧
  (∀ (s : State) (n : Fin 16) (lanes : BitVec 16), (s.head n).attempt = true → Completes (.farEndLoopback n lanes) s fun t =>
    t.rd F.LNK_HSTAT.LTSSM n = 10 ∧ (t.head n).attempt = false ∧ t.flag F.LNK_HEVT.FELB n = true ∧ t.lnk.charges = s.lnk.charges ∧
    ∀ g ∈ lanesIn s n, t.flag F.LNK_LLB.FELB g = lanes.getLsbD (g % 16)) ∧
  (∀ (s : State) (n : Fin 16), s.rd F.LNK_HSTAT.LTSSM n = 10 → Completes (.farEndLoopbackExit n) s fun t =>
    t.rd F.LNK_HSTAT.LTSSM n = 0 ∧ t.rd F.LNK_HSTAT.CTLST n = 2 ∧ t.lnk = s.lnk ∧ ∀ g ∈ headLanes s n, t.flag F.LNK_LLB.FELB g = false)

/-- Lanes (R234, R238–R246): a lane's stage only rises in an attempt, its partner's request is taken within the bound, a failed attempt charges
the lanes below the common stage and a third charge in time retires a lane; restore and loopbacks; the counters. The model's own choices in it:
log entries 5, 80, 82 to 84. -/
def Obligations.LanesAreChargedRetiredAndLooped : Prop :=
  (∀ (s : State) (n : Fin 16) (g : Nat), (s.head n).attempt = true → g ∈ chargedLanes s n false →
    Completes (.attemptFailure n) s fun t =>
      (t.flag F.LNK_LSTAT.RETIRED g = true ∧ laneRetired t g = true ∧ t.flag F.LNK_HEVT.RETIRED n = true ∧ sget [] t.lnk.charges g = []) ∨
      (laneRetired t g = false ∧ (sget [] t.lnk.charges g).getLast? = some s.stamp)) ∧
  (∀ (s : State) (n : Fin 16) (g t1 t2 : Nat), (s.head n).attempt = true → g ∈ chargedLanes s n false → sget [] s.lnk.charges g = [t1, t2] →
    Completes (.attemptFailure n) s fun t =>
      laneRetired t g = decide (s.stamp < t1 + 1000000000) ∧
      sget [] t.lnk.charges g = if s.stamp < t1 + 1000000000 then [] else [t2, s.stamp]) ∧
  (∀ (s : State) (n : Nat) (g : Nat), g ∈ lanesIn s n → s.rd F.LNK_LSTAT.STAGE g = 0 → g ∉ chargedLanes s n false ∧ g ∉ chargedLanes s n true) ∧
  (∀ (s : State) (lane : Fin 128) (stage : Fin 8) (pol : Bool) (rx : Word), (s.head (laneHead s lane)).attempt = true →
      laneRetired s lane = false → 2 ≤ stage.val → stage.val ≤ 5 → s.rd F.LNK_LSTAT.STAGE lane ≠ 0 →
    Completes (.laneStageReached lane stage pol rx) s fun t =>
      t.rd F.LNK_LSTAT.STAGE lane = max stage.val (s.rd F.LNK_LSTAT.STAGE lane) ∧ t.flag F.LNK_LSTAT.POLINV lane = pol ∧
      (stage.val = 5 → t.rd F.LNK_LRXEQ.CTLE lane = F.LNK_LRXEQ.CTLE.of rx) ∧ t.lnk = s.lnk) ∧
  (∀ (s : State) (lane : Fin 128) (pre post : BitVec 6), (s.head (laneHead s lane)).attempt = true →
    Completes (.equalisationRequest lane pre post) s fun t =>
      let ok := decide (pre.toNat ≤ 12 ∧ pre.toNat + post.toNat ≤ 16) && !nbit s.lnk.ovr lane
      t.out = s.out ++ [.eqAnswer lane ok] ∧
      t.rd F.LNK_LTXEQ.PRE_APP lane = (if ok = true then pre.toNat else s.rd F.LNK_LTXEQ.PRE_APP lane) ∧
      t.rd F.LNK_LTXEQ.POST_APP lane = (if ok = true then post.toNat else s.rd F.LNK_LTXEQ.POST_APP lane)) ∧
  (∀ (s : State) (n : Nat) (g : Nat), s.flag F.LNK_LTXEQ.OVR g = true →
    let t := applyOverride n s g
    t.rd F.LNK_LTXEQ.PRE_APP g = min (s.rd F.LNK_LTXEQ.PRE g) 12 ∧
    t.rd F.LNK_LTXEQ.POST_APP g = min (s.rd F.LNK_LTXEQ.POST g) (16 - t.rd F.LNK_LTXEQ.PRE_APP g) ∧
    (t.rd F.LNK_LTXEQ.PRE_APP g ≠ s.rd F.LNK_LTXEQ.PRE g ∨ t.rd F.LNK_LTXEQ.POST_APP g ≠ s.rd F.LNK_LTXEQ.POST g →
      t.flag F.LNK_LTXEQ.CLAMPED g = true)) ∧
  (∀ (s : State) (p : Fin 8) (v : Word), Completes (.lnkRestore p v) s fun t => ∀ l : Fin 16,
    laneRetired t (16 * p + l) = (laneRetired s (16 * p + l) && !nbit (F.LNK_RET.RESTORE.of v) l) ∧
    (laneRetired s (16 * p + l) = true → nbit (F.LNK_RET.RESTORE.of v) l = true →
      sget [] t.lnk.charges (16 * p + l) = [] ∧ t.rd F.LNK_LLB.MODE (16 * p + l) = 0)) ∧
  (∀ (s : State) (lane : Fin 128) (v : Word), F.LNK_LLB.MODE.of v = 1 ∨ F.LNK_LLB.MODE.of v = 2 →
    Completes (.loopbackModeWrite lane v) s fun t =>
      if loopbackOk s lane = true then t.rd F.LNK_LLB.MODE lane = F.LNK_LLB.MODE.of v ∧ t.flag F.LNK_LLB.LOCK lane = false
      else t.rd F.LNK_LLB.MODE lane = s.rd F.LNK_LLB.MODE lane ∧ t.flag F.LNK_LLB.REJECT lane = true) ∧
  (∀ (s : State) (lane : Fin 128) (v : Word), F.LNK_LLB.MODE.of v = 3 → Completes (.loopbackModeWrite lane v) s fun t =>
    t.rd F.LNK_LLB.MODE lane = s.rd F.LNK_LLB.MODE lane ∧ (loopbackOk s lane = false → t.flag F.LNK_LLB.REJECT lane = true)) ∧
  (∀ (s : State) (lane : Fin 128), s.rd F.LNK_LLB.MODE lane ≠ 0 → Completes (.checkerLock lane) s fun t =>
    t.flag F.LNK_LLB.LOCK lane = true ∧ t.rd F.LNK_LLB.MODE lane = s.rd F.LNK_LLB.MODE lane) ∧
  (∀ (s : State) (lane : Fin 128), s.flag F.LNK_LLB.LOCK lane = true → Completes (.loopbackMismatch lane) s fun t =>
    t.rd F.LNK_LLBERR.COUNT lane = min (s.rd F.LNK_LLBERR.COUNT lane + 1) (2 ^ 32 - 1)) ∧
  (∀ (s : State) (lane : Fin 128), Completes (.receiverError lane) s fun t =>
    t.rd F.LNK_LERR.COUNT lane = min (s.rd F.LNK_LERR.COUNT lane + 1) (2 ^ 32 - 1)) ∧
  (∀ (s : State) (n : Fin 16), headExists s n = true → Completes (.fecCorrection n) s fun t =>
    t.rd F.LNK_HFEC.COUNT n = min (s.rd F.LNK_HFEC.COUNT n + 1) (2 ^ 32 - 1)) ∧
  (∀ (s : State) (n : Fin 16), headExists s n = true → Completes (.linkReplay n) s fun t =>
    t.rd F.LNK_HREPLAY.COUNT n = min (s.rd F.LNK_HREPLAY.COUNT n + 1) (2 ^ 32 - 1)) ∧
  (∀ (s : State) (n : Fin 16), (s.head n).recWindow ≠ s.dtcNow / 1000000000 → Completes (.errorRateWindow n) s fun t =>
    (t.head n).recWindow = s.dtcNow / 1000000000 ∧ (t.head n).recCount = 0 ∧ (t.head n).errDone = false ∧ t.regs = s.regs)

/-! ### Partition, coherence and the hosts (chapter 10) -/

/-- Partition commands (R258, R259, R262–R265): READ shows the entry; ASSIGN needs a FREE settled extent and, but for HOST and clean extents,
clears it first; NARROW only takes away; RELEASE denies, drains and clears; a refused command leaves the table as it was. The model's own choices
in it: log entry 20. -/
def Obligations.PartitionCommandsChangeTheTable : Prop :=
  (∀ (s : State) (v : Word) (k : Nat), k = F.COH_PT_CMD.EXT.of v → F.COH_PT_CMD.OP.of v = 1 → s.flag F.COH_PT_STAT.BUSY 0 = false →
      k ≤ 24575 → sget 0 s.coh.masterBad k = 0 →
    Completes (.ptRead v) s fun t =>
      t.rd F.COH_PT_STAT.RESULT 0 = 0 ∧ t.flag F.COH_PT_STAT.DONE 0 = true ∧ t.rd F.COH_PT_DATA0.ACC 0 = (s.ptEntry k).acc % 2 ^ 16 ∧
      t.rd F.COH_PT_DATA0.WR 0 = (s.ptEntry k).wr % 2 ^ 16 ∧ t.rd F.COH_PT_DATA1.MODE 0 = (s.ptEntry k).mode % 8 ∧
      t.rd F.COH_PT_DATA1.STATE 0 = (s.ptEntry k).st % 4 ∧ t.flag F.COH_PT_DATA1.CLEAN 0 = (s.ptEntry k).clean ∧
      t.rd F.COH_PT_DATA2.HPA 0 = (s.ptEntry k).hpa % 2 ^ 24 ∧ t.coh = s.coh) ∧
  (∀ (s : State) (v : Word) (k : Nat), k = F.COH_PT_CMD.EXT.of v → F.COH_PT_CMD.OP.of v = 2 → s.flag F.COH_PT_STAT.BUSY 0 = false →
      k ≤ 24575 → sget 0 s.coh.masterBad k = 0 →
    Completes (.assign v) s fun t =>
      let e := s.ptEntry k
      let d := ptData s
      if e.mode ≠ 0 ∨ e.st ≠ 0 then t.rd F.COH_PT_STAT.RESULT 0 = 2 ∧ t.coh = s.coh
      else if ptDataGood d = false then t.rd F.COH_PT_STAT.RESULT 0 = 3 ∧ t.coh = s.coh
      else if ptHeadsGood s d = false then t.rd F.COH_PT_STAT.RESULT 0 = 5 ∧ t.coh = s.coh
      else t.rd F.COH_PT_STAT.RESULT 0 = 0 ∧ t.flag F.COH_PT_STAT.BUSY 0 = true ∧ t.coh.ptOld = some (k, e) ∧
        (t.ptEntry k).mode = d.mode ∧ (t.ptEntry k).acc = d.acc ∧ (t.ptEntry k).wr = d.wr ∧ (t.ptEntry k).static = d.static ∧
        (t.ptEntry k).st = (if d.mode = 5 ∨ e.clean = true then 0 else 2) ∧
        t.coh.clearQ = (if d.mode = 5 ∨ e.clean = true then s.coh.clearQ else s.coh.clearQ ++ [k])) ∧
  (∀ (s : State) (v : Word) (k : Nat), k = F.COH_PT_CMD.EXT.of v → F.COH_PT_CMD.OP.of v = 3 → s.flag F.COH_PT_STAT.BUSY 0 = false →
      k ≤ 24575 → sget 0 s.coh.masterBad k = 0 → (s.ptEntry k).st = 0 → 1 ≤ (s.ptEntry k).mode → (s.ptEntry k).mode ≤ 3 →
    Completes (.narrow v) s fun t =>
      let e := s.ptEntry k
      let d := ptData s
      if ptNarrows e d = false then t.rd F.COH_PT_STAT.RESULT 0 = 4 ∧ t.coh = s.coh
      else t.rd F.COH_PT_STAT.RESULT 0 = 0 ∧ t.flag F.COH_PT_STAT.BUSY 0 = true ∧ t.coh.ptOld = some (k, e) ∧
        (t.ptEntry k).mode = e.mode ∧ (t.ptEntry k).acc = d.acc ∧ (t.ptEntry k).wr = d.wr ∧ (t.ptEntry k).static = d.static ∧
        (t.ptEntry k).clean = e.clean ∧
        (t.ptEntry k).st = if e.mode = 2 ∧ (e.acc ≠ d.acc ∨ (e.wr ^^^ d.wr) &&& d.acc ≠ 0) then 1 else 0) ∧
  (∀ (s : State) (v : Word) (k : Nat), k = F.COH_PT_CMD.EXT.of v → F.COH_PT_CMD.OP.of v = 4 → s.flag F.COH_PT_STAT.BUSY 0 = false →
      k ≤ 24575 → sget 0 s.coh.masterBad k = 0 →
    Completes (.release v) s fun t =>
      if (s.ptEntry k).mode = 0 ∨ (s.ptEntry k).st ≠ 0 then t.rd F.COH_PT_STAT.RESULT 0 = 2 ∧ t.coh = s.coh
      else t.rd F.COH_PT_STAT.RESULT 0 = 0 ∧ t.flag F.COH_PT_STAT.BUSY 0 = true ∧
        t.ptEntry k = { s.ptEntry k with st := 1, rel := true } ∧
        t.coh.clearQ = if (s.ptEntry k).mode = 5 then s.coh.clearQ else s.coh.clearQ ++ [k]) ∧
  (∀ (s : State) (v : Word) (k : Nat), k = F.COH_PT_CMD.EXT.of v → F.COH_PT_CMD.OP.of v = 4 →
    Completes (.release v) s fun t =>
      if s.flag F.COH_PT_STAT.BUSY 0 = true then t = s
      else 24575 < k → t.rd F.COH_PT_STAT.RESULT 0 = 1 ∧ t.coh = s.coh) ∧
  (∀ (s : State), s.flag F.COH_PT_STAT.BUSY 0 = true → Completes .ptInForce s fun t =>
    t.flag F.COH_PT_STAT.BUSY 0 = false ∧ ∀ k : Nat, feEntry t k = t.ptEntry k ∧ t.ptEntry k = s.ptEntry k) ∧
  (∀ (s : State) (k : Nat) (e : PtEntry), e = s.ptEntry k → e.rel = true → e.st = 1 → s.coh.ptOld = none → extDrained s k = true →
      walkOf s k = false → cacheDrained s e = true →
    Completes (.drainComplete k) s fun t =>
      t.ptEntry k = (if e.mode = 5 then { PtEntry.free with clean := e.clean } else { e with st := 2 }) ∧
      (e.mode = 5 → t.flag F.COH_EVT.CLRDONE 0 = true)) ∧
  (∀ (s : State) (k : Nat) (e : PtEntry), e = s.ptEntry k → e.st = 2 → s.coh.ptOld = none → clearTurn s k = true →
    Completes (.extentClearingComplete k) s fun t =>
      t.ptEntry k = (if e.rel = true then { PtEntry.free with clean := true } else { e with st := 0, clean := true }) ∧
      t.flag (if e.rel = true then F.COH_EVT.CLRDONE else F.COH_EVT.PTDONE) 0 = true ∧ k ∉ t.coh.clearQ ∧
      ∀ n ∈ chansOf s k, k ∈ (t.chan n).zeroed ∧ ∀ x ∈ (t.chan n).lines, extOfLine s n x.1 = some k → x.2 = some ⟨0, 0⟩ ∨ x.2 = none) ∧
  (∀ (s : State) (k : Nat), k < 24576 →
    (Completes (.backgroundCheck none k true) s fun t => sget 0 t.coh.masterBad k = 1 ∧ t.flag F.COH_EVT.PTERR 0 = true) ∧
    ∀ n : Fin 12, Completes (.backgroundCheck (some n) k true) s fun t => entryBad t n k = true ∧ t.regs = s.regs) ∧
  (∀ (s : State) (n : Fin 12) (k : Nat), sget 0 s.coh.masterBad k = 0 →
    Completes (.replicaReload n k) s fun t => entryBad t n k = false ∧ t.coh.pt = s.coh.pt ∧ t.regs = s.regs)

/-- The check of a front end and the directory's table (R260, R261, R271, R282): who an extent admits, with the first reason that applies; and
what a head's or a device's request does to a line's entry, with its snoops. The model's own choices in it: log entries 16, 88, 91. -/
def Obligations.FrontEndsAdmitAndDirectoriesDecide : Prop :=
  (∀ (s : State) (n t : Nat) (r : Req) (e : PtEntry), e = feEntry s (r.da / 2 ^ 28) → r.tag = ⟨0, t⟩ →
    entryBad s n (r.da / 2 ^ 28) = false →
    (partitionCheck s n r = none ↔ (e.mode = 1 ∨ e.mode = 2 ∨ e.mode = 3) ∧ e.st = 0 ∧ nbit e.acc t = true ∧
      (r.op = .write → nbit e.wr t = true) ∧ (e.mode = 2 → s.flag F.COH_HEAD.FENCED t = false))) ∧
  (∀ (s : State) (n t c : Nat) (r : Req) (e : PtEntry), e = feEntry s (r.da / 2 ^ 28) → r.tag = ⟨c, t⟩ → c = 1 ∨ c = 2 → t < 16 →
    entryBad s n (r.da / 2 ^ 28) = false →
    (partitionCheck s n r = none ↔ (e.mode = 1 ∨ e.mode = 2 ∨ e.mode = 3 ∨ e.mode = 5) ∧ e.st = 0 ∧ nbit e.acc t = true ∧
      (r.op = .write → nbit e.wr t = true))) ∧
  (∀ (s : State) (n : Nat) (r : Req) (e : PtEntry), e = feEntry s (r.da / 2 ^ 28) → r.tag = ⟨1, 16⟩ →
    entryBad s n (r.da / 2 ^ 28) = false →
    (partitionCheck s n r = none ↔ (e.mode = 1 ∨ e.mode = 2 ∨ e.mode = 3) ∧ e.st = 0 ∧ e.static = true)) ∧
  (∀ (s : State) (n t c : Nat) (r : Req) (e : PtEntry), e = feEntry s (r.da / 2 ^ 28) → r.tag = ⟨c, t⟩ → c = 3 ∨ c = 4 →
    entryBad s n (r.da / 2 ^ 28) = false → (partitionCheck s n r = none ↔ (e.mode = 0 ∨ e.mode = 4) ∧ e.st = 0)) ∧
  (∀ (s : State) (n : Nat) (r : Req), entryBad s n (r.da / 2 ^ 28) = true →
    partitionCheck s n r = some (7, (feEntry s (r.da / 2 ^ 28)).acc)) ∧
  (∀ (s : State) (n : Nat) (r : Req) (reason victims : Nat), partitionCheck s n r = some (reason, victims) →
    frontEnd n r s = denied r reason (r.da / 2 ^ 28) victims s) ∧
  (∀ (line m n : Nat) (e : DirEntry) (r : Req) (own : Bool), e = ⟨line, true, 2 ^ m⟩ → m ≠ n → r.op = .read →
    dirAction e r line (some n) own =
      (if r.intent = .excl ∧ own = true then (2 ^ m, 0, ⟨line, true, 2 ^ n⟩)
       else if r.intent = .none then (0, 2 ^ m, ⟨line, false, 2 ^ m⟩) else (0, 2 ^ m, ⟨line, false, 2 ^ m ||| 2 ^ n⟩))) ∧
  (∀ (line x n : Nat) (e : DirEntry) (r : Req) (own : Bool), e = ⟨line, false, x⟩ → x ≠ 0 → r.op = .read →
    dirAction e r line (some n) own =
      (if r.intent = .excl ∧ own = true then (nsetBit x n false, 0, ⟨line, true, 2 ^ n⟩)
       else if r.intent = .none then (0, 0, e) else (0, 0, ⟨line, false, x ||| 2 ^ n⟩))) ∧
  (∀ (line x n : Nat) (e : DirEntry) (r : Req) (own excl : Bool), e = ⟨line, excl, x⟩ → r.op = .write → ¬(excl = true ∧ x = 2 ^ n) →
    dirAction e r line (some n) own = (nsetBit x n false, 0, .none) ∧ dirAction e r line none own = (x, 0, .none)) ∧
  (∀ (line n : Nat) (e : DirEntry) (r : Req) (own : Bool), e = ⟨line, true, 2 ^ n⟩ → 
    (r.op = .read → dirAction e r line (some n) own = (0, 0, e) ∧ dirAction e r line none own = (0, 2 ^ n, ⟨line, false, 2 ^ n⟩)) ∧
    (r.op = .write → dirAction e r line (some n) own =
      (0, 0, match r.intent with | .none => .none | .shared => ⟨line, false, 2 ^ n⟩ | .excl => e)))

/-- Hosts and their caches (R254–R256, R278–R280): a translated read or write goes to its channel under a free TXN, one outside every range is
answered at once; a fill serves what waited for it, a snoop takes a line or its ownership; ranges and offers. The model's own choices in it: log
entries 13, 18, 19. -/
def Obligations.HostsReadWriteAndKeepTheirLines : Prop :=
  (∀ (s s1 : State) (n : Fin 16) (id : HostId) (dpa da c ca txn : Nat) (i : Intent) (path : List Nat), cxlReady s n = true →
      s1 = { s with coh := { s.coh with hostPort := sset 0 s.coh.hostPort n id.port } } →
      translate s n (dpa / 64 * 64) = some da → decodeDa s da = .dram c ca → freeTxn s (headEp s n da) = some txn → da % 64 = 0 →
      leafRoute s (epLeaf (headEp s n da)) (epLeaf (channelEp c)) = some path →
    Completes (.cxlMemRead n id dpa i) s fun t =>
      let r : Req := ⟨.read, headEp s n da, channelEp c, txn, ⟨0, n⟩, da, 64, 0, i⟩
      match netEnter (.head n id) r s1 with
      | some u => t.net.reqs = s.net.reqs ++ [r] ∧
          t.net.outst = s.net.outst ++ [⟨.head n id, r, s.stamp, 1000 * s.rd F.KRV_TMO.TMO 0⟩] ∧
          t.net.way = u.net.way ∧ t.out = s.out
      | none => t = s1) ∧
  (∀ (s s1 : State) (n : Fin 16) (id : HostId) (dpa da c ca txn len : Nat) (data : Line) (i : Intent) (path : List Nat),
      cxlReady s n = true → s1 = { s with coh := { s.coh with hostPort := sset 0 s.coh.hostPort n id.port } } →
      translate s n dpa = some da → decodeDa s da = .dram c ca → freeTxn s (headEp s n da) = some txn → 0 < len → da % 64 + len ≤ 64 →
      leafRoute s (epLeaf (headEp s n da)) (epLeaf (channelEp c)) = some path →
    Completes (.cxlMemWrite n id dpa len data i) s fun t =>
      let r : Req := ⟨.write, headEp s n da, channelEp c, txn, ⟨0, n⟩, da, len, data, i⟩
      match netEnter (.head n id) r s1 with
      | some u => t.net.reqs = s.net.reqs ++ [r] ∧ t.net.way = u.net.way ∧ t.out = s.out
      | none => t = s1) ∧
  (∀ (s : State) (n : Fin 16) (id : HostId) (dpa : Nat) (i : Intent), cxlReady s n = true → translate s n (dpa / 64 * 64) = none →
    Completes (.cxlMemRead n id dpa i) s fun t =>
      t.out = s.out ++ [.cxlData n id.tag 0 true .none ⟨s.rd F.COH_HEAD.PID n, id.port⟩] ∧ t.net = s.net) ∧
  (∀ (s : State) (n : Nat) (dpa r : Nat) (x : XRange), r < 256 → x = sget XRange.none s.coh.xlat (256 * n + r) → x.valid = true →
      x.dpaBase * 2 ^ 28 ≤ dpa → dpa < (x.dpaBase + x.count) * 2 ^ 28 → dpa < 2 ^ 43 →
      (∀ q : Nat, q < r → (sget XRange.none s.coh.xlat (256 * n + q)).valid = false) →
    translate s n dpa = some (x.daBase * 2 ^ 28 + (dpa - x.dpaBase * 2 ^ 28))) ∧
  (∀ (s : State) (v : Word) (k : Nat), k = 256 * F.COH_XM_CMD.HEAD.of v + F.COH_XM_CMD.RANGE.of v → F.COH_XM_CMD.OP.of v = 2 →
    Completes (.rangeWrite v) s fun t =>
      sget XRange.none t.coh.xlat k = ⟨s.flag F.COH_XM_DATA0.VALID 0, s.rd F.COH_XM_DATA0.DPA_BASE 0, s.rd F.COH_XM_DATA1.DA_BASE 0,
        s.rd F.COH_XM_DATA2.COUNT 0⟩ ∧ t.regs = s.regs ∧
      ∀ j : Nat, j ≠ k → sget XRange.none t.coh.xlat j = sget XRange.none s.coh.xlat j) ∧
  (∀ (s : State) (v : Word) (x : XRange), x = sget XRange.none s.coh.xlat (256 * F.COH_XM_CMD.HEAD.of v + F.COH_XM_CMD.RANGE.of v) →
      F.COH_XM_CMD.OP.of v = 1 →
    Completes (.rangeRead v) s fun t =>
      t.flag F.COH_XM_DATA0.VALID 0 = x.valid ∧ t.rd F.COH_XM_DATA0.DPA_BASE 0 = x.dpaBase % 2 ^ F.COH_XM_DATA0.DPA_BASE.width ∧
      t.rd F.COH_XM_DATA1.DA_BASE 0 = x.daBase % 2 ^ F.COH_XM_DATA1.DA_BASE.width ∧
      t.rd F.COH_XM_DATA2.COUNT 0 = x.count % 2 ^ F.COH_XM_DATA2.COUNT.width ∧ t.coh = s.coh) ∧
  (∀ (s : State) (n : Fin 16) (ext : Nat) (accept : Bool), ext ∈ sget [] s.coh.offered n →
    Completes (.extentOfferResponse n ext accept) s fun t =>
      sget [] t.coh.offered n = (sget [] s.coh.offered n).erase ext ∧ (accept = true → ext ∈ sget [] t.coh.accepted n) ∧
      (accept = false → sget [] t.coh.accepted n = sget [] s.coh.accepted n) ∧ t.regs = s.regs) ∧
  (∀ (s : State) (n : Fin 16) (line w : Nat) (d : DcLine) (inv : Bool), dcFind s n line = some (w, d) → d.err = 0 →
    Completes (.hostSnoop n line inv Upset.none) s fun t =>
      t.out = s.out ++ [.cacheSnoopAnswer n line (if d.dirty = true then some (d.data, false) else none) (s.toHost n)] ∧
      dcAt t n line w = (if inv = true then none else some { d with owned := false, dirty := false }) ∧ t.regs = s.regs) ∧
  (∀ (s : State) (n : Fin 16) (line w : Nat) (d : DcLine) (inv : Bool), dcFind s n line = some (w, d) → dcBad d = true →
    Completes (.hostSnoop n line inv Upset.none) s fun t =>
      t.out = s.out ++ [.cacheSnoopAnswer n line (if d.dirty = true then some (dcSeen d, true) else none) (s.toHost n)] ∧
      dcAt t n line w = none ∧ t.rd F.COH_DC_ERR.UE (n / 2) = min (s.rd F.COH_DC_ERR.UE (n / 2) + 1) (2 ^ 16 - 1) ∧
      nbit (t.rd F.COH_EVT.DCERR 0) (n / 2) = true) ∧
  (∀ (s : State) (n : Fin 16) (line : Nat) (inv : Bool) (u : Upset), dcFind s n line = none →
    Completes (.hostSnoop n line inv u) s fun t =>
      t = { s with out := s.out ++ [.cacheSnoopAnswer n line none (s.toHost n)] }) ∧
  (∀ (s : State) (n : Fin 16) (line w : Nat) (r : Req) (own : Bool) (data : Line), s.coh.dcWait = [(line, r)] → agentHead s r = n →
      r.op = .read → dcFind s n line = none → (headWays s n).find? (fun w => (dcAt s n line w).isNone) = some w →
      (∀ e ∈ s.coh.pt, e.2.rel = false) →
    Completes (.hostFill n line own false data Upset.none) s fun t =>
      t.coh.dcWait = [] ∧ dcAt t n line w = some ⟨n, line, own, false, data, 0⟩ ∧
      t.net.resps = s.net.resps ++ [⟨r.dst, r.src, r.txn, r.tag, .data (laneBytes data (r.da % 64) r.len), r.intent⟩]) ∧
  (∀ (s : State) (n : Fin 16) (line : Nat) (r : Req) (own : Bool) (data : Line), s.coh.dcWait = [(line, r)] → agentHead s r = n →
      r.op = .read →
    Completes (.hostFill n line own true data Upset.none) s fun t =>
      t.coh.dcWait = [] ∧ t.coh.dc = s.coh.dc ∧
      t.net.resps = s.net.resps ++ [⟨r.dst, r.src, r.txn, r.tag, .poisoned (laneBytes data (r.da % 64) r.len), r.intent⟩])

/-- Snoops, walks and violations (R263, R270–R275, R282–R284): a snoop reaches its host once; its last answer completes the line, dirty data
first; one that times out fences its head and poisons what it held; a walk ends its leaf; reports fill the ring and are counted. The model's own
choices in it: log entries 5, 89, 90. -/
def Obligations.SnoopsAreAnsweredAndViolationsLogged : Prop :=
  (∀ (s : State) (n : Fin 16) (line : Nat) (p : PendLine) (q : Snoop), snoopFor s n line = some (p, q) → q.delivered = false →
      headUp s n = true → (reach (.snoop n line q.inv) s).isSome = true →
    (q.inv = true → Completes (.snpInv n line) s fun t => t.out = s.out ++ [.biSnoop n true line (s.toHost n)] ∧ t.regs = s.regs) ∧
    (q.inv = false → Completes (.snpData n line) s fun t =>
      t.out = s.out ++ [.biSnoop n false line (s.toHost n)] ∧ t.regs = s.regs)) ∧
  (∀ (s : State) (n : Fin 16) (line : Nat), headUp s n = false →
    (Completes (.snpInv n line) s fun t => t = s) ∧ Completes (.snpData n line) s fun t => t = s) ∧
  (∀ (s u : State) (n : Fin 16) (p : PendLine) (q : Snoop), s.coh.pend = [p] → p.snoops = [q] → q.head = n → q.delivered = true →
      p.victim = true → p.req = none → p.waiting = [] → p.discard = false → s.coh.stalled = [] → s.coh.walks = [] →
    (snoopReturns n p.line q.inv none s = some u →
      (Completes (.rspI n p.line) s fun t => t.coh.pend = [] ∧ t.coh.dir = s.coh.dir ∧ t.ddr = s.ddr) ∧
      Completes (.rspS n p.line) s fun t => t.coh.pend = [] ∧ t.coh.dir = s.coh.dir ∧ t.ddr = s.ddr) ∧
    ∀ d : Line, snoopReturns n p.line q.inv (some d) s = some u →
      (Completes (.rspIData n p.line d) s fun t =>
        t.coh.pend = [] ∧ t.ddr = (queueLine (lineChan s p.line) (chanLine s p.line) d u).ddr ∧
        (t.ptEntry (64 * p.line / 2 ^ 28)).clean = false) ∧
      Completes (.rspSData n p.line d) s fun t =>
        t.coh.pend = [] ∧ t.ddr = (queueLine (lineChan s p.line) (chanLine s p.line) d u).ddr) ∧
  (∀ (s : State) (n : Fin 16) (p : PendLine) (q q2 : Snoop) (l : List Snoop), s.coh.pend = [p] → p.snoops = q :: q2 :: l →
      q.head = n → q.delivered = true → (∀ x ∈ q2 :: l, x.head ≠ n) → s.coh.walks = [] →
      (snoopReturns n p.line q.inv none s).isSome = true →
    Completes (.rspI n p.line) s fun t =>
      t.coh.pend = [{ p with snoops := q2 :: l, after := dropSharer n p.after }] ∧ t.regs = s.regs ∧ t.ddr = s.ddr) ∧
  (∀ (s : State) (n : Fin 16) (p : PendLine) (q q2 : Snoop) (l : List Snoop), s.coh.pend = [p] → p.snoops = q :: q2 :: l →
      q.head = n → (∀ x ∈ q2 :: l, x.head ≠ n) → s.coh.walks = [] → s.expired q.sentAt q.window = true →
      s.flag F.COH_HEAD.FENCED n = false → p.exclWas = none →
    Completes (.snoopTimeout n p.line) s fun t => t.flag F.COH_HEAD.FENCED n = true) ∧
  (∀ (s : State) (leaf : Fin 4) (w : WalkRec) (n : Nat), s.coh.walks = [w] → w = ⟨.head n, [], [], [leaf.val], []⟩ → n < 16 →
      s.coh.fenceReset.getLsbD n = true → mntTicket s 8 leaf = none →
    Completes (.walkComplete leaf []) s fun t =>
      t.coh.walks = [] ∧ t.flag F.COH_HEAD.WALK n = false ∧ t.flag F.COH_HEAD.FENCED n = false ∧ t.coh.dir = s.coh.dir) ∧
  (∀ (s : State) (v : VioReport) (l : List VioReport) (c : Nat), s.coh.reports = v :: l → c = s.rd F.COH_VLOG_CTL.COUNT 0 → c < 32 →
    Completes .violationReport s fun t =>
      let m := 6 * ((s.rd F.COH_VLOG_CTL.HEAD 0 + c) % 32)
      t.coh.reports = l ∧ t.rd F.COH_VLOG_CTL.COUNT 0 = c + 1 ∧ t.rd F.COH_VLOG_W0.REASON m = v.reason % 2 ^ F.COH_VLOG_W0.REASON.width ∧
      t.rd F.COH_VLOG_W1.DA_LO (m + 1) = v.da % 2 ^ 32 ∧ t.rd F.COH_VLOG_W3.VICTIMS (m + 3) = v.victims % 2 ^ 16 ∧
      t.rd F.COH_VLOG_LOST.VALUE 0 = s.rd F.COH_VLOG_LOST.VALUE 0 ∧
      ∀ n : Fin 16, t.rd F.COH_VON.COUNT n = min (s.rd F.COH_VON.COUNT n + b2n (nbit v.victims n)) (2 ^ 32 - 1)) ∧
  (∀ (s : State) (v : VioReport) (l : List VioReport), s.coh.reports = v :: l → s.rd F.COH_VLOG_CTL.COUNT 0 = 32 →
    Completes .violationReport s fun t =>
      t.coh.reports = l ∧ t.rd F.COH_VLOG_CTL.COUNT 0 = 32 ∧
      t.rd F.COH_VLOG_LOST.VALUE 0 = min (s.rd F.COH_VLOG_LOST.VALUE 0 + 1) (2 ^ 32 - 1) ∧
      ∀ i : Nat, t.reg .COH_VLOG_W i = s.reg .COH_VLOG_W i) ∧
  (∀ (s : State) (v : Word) (c : Nat), F.COH_VLOG_CTL.POP.of v = 1 → c = s.rd F.COH_VLOG_CTL.COUNT 0 → c ≠ 0 →
    Completes (.cohVlogPop v) s fun t =>
      t.rd F.COH_VLOG_CTL.COUNT 0 = c - 1 ∧ t.rd F.COH_VLOG_CTL.HEAD 0 = (s.rd F.COH_VLOG_CTL.HEAD 0 + 1) % 32 ∧ t.coh = s.coh)

/-! ### The DRAM channels (chapter 11) -/

/-- The line code (R297): an error confined to one device of a line is located and corrected, whatever the eight codewords hold of it. The
model's own choices in it: log entry 12. -/
def Obligations.OneBadDeviceIsCorrected : Prop :=
  ∀ (x : Line) (dev : Fin 10) (v : BitVec 64), v ≠ 0 →
    let d : DramLine := ⟨x, (v.setWidth 640) <<< (64 * dev.val)⟩
    classify 0 d = .corrected dev ∧ correctedData 0 d = x ∧
    (∀ f : Nat, f = dev.val + 1 → classify f d = .corrected dev ∧ correctedData f d = x)

/-- A channel's queues, scrubs and remaps (R292–R295, R297–R304): a read is answered with its line's data, or poisoned; a write is stored; a
corrected line is scrubbed, counted and kept in the history, and one corrected again is a permanent fault; lines and rows move to spares. The
model's own choices in it: log entries 5, 12, 15, 93, 94. -/
def Obligations.ChannelsServeScrubAndRemap : Prop :=
  (∀ (s : State) (n : Fin 12) (sc : Fin 2) (c : ChanRec) (e : RdEntry) (d : DramLine), c = s.chan n → chanState s n = 2 ∨ chanState s n = 4 →
      c.rq.filter (fun e => e.line % 2 == sc.val) = [e] → c.drain.getLsbD sc = false → c.fe = [] →
      (∀ r ∈ c.rowMap, r.copying = false) → sget none c.lines (physLine s n e.line) = some d → d.err = 0 ∨ d.err = poisonErr →
    Completes (.schedulerServe n sc Upset.none) s fun t =>
      let x := laneBytes d.data (e.req.da % 64) e.req.len
      t.net.resps = s.net.resps ++ [⟨e.req.dst, e.req.src, e.req.txn, e.req.tag, if d.err = 0 then .data x else .poisoned x,
        e.req.intent⟩] ∧
      (t.chan n).rq = c.rq.erase e ∧ (t.chan n).wq = c.wq ∧ (t.chan n).lines = c.lines ∧ t.regs = s.regs) ∧
  (∀ (s : State) (n : Fin 12) (sc : Fin 2) (c : ChanRec) (e : WrEntry), c = s.chan n → chanState s n = 2 ∨ chanState s n = 4 →
      c.wq.filter (fun e => e.line % 2 == sc.val) = [e] → c.drain.getLsbD sc = true → c.fe = [] →
      (∀ r ∈ c.rowMap, r.copying = false) →
    Completes (.schedulerServe n sc Upset.none) s fun t =>
      stored t n (physLine s n e.line) = ⟨e.data, 0⟩ ∧ (t.chan n).wq = c.wq.erase e ∧ (t.chan n).rq = c.rq ∧ t.regs = s.regs) ∧
  (∀ (s : State) (n : Fin 12) (sc : Fin 2) (line dev : Nat) (d : DramLine) (c : ChanRec), c = s.chan n → chanState s n = 2 →
      sget none c.demand sc = some line → (∀ e ∈ c.rq, e.line % 2 ≠ sc.val) → queuedWrite c line = none →
      stored s n (physLine s n line) = d → classify (failedAt s n line) d = .corrected dev → c.hist = [] →
    Completes (.demandScrub n sc Upset.none) s fun t =>
      sget none (t.chan n).demand sc = none ∧ t.rd F.DDR_CE_CNT.COUNT n = min (s.rd F.DDR_CE_CNT.COUNT n + 1) (2 ^ 32 - 1) ∧
      stored t n (physLine s n line) = ⟨correctedData (failedAt s n line) d, 0⟩ ∧
      (t.chan n).hist = [⟨physLine s n line, dev, s.stamp⟩] ∧ t.flag F.DDR_EVT.PERM n = s.flag F.DDR_EVT.PERM n) ∧
  (∀ (s : State) (n : Fin 12) (sc : Fin 2) (line dev : Nat) (h : Correction) (c : ChanRec), c = s.chan n → chanState s n = 2 →
      sget none c.demand sc = some line → (∀ e ∈ c.rq, e.line % 2 ≠ sc.val) →
      classify (failedAt s n line) (stored s n (physLine s n line)) = .corrected dev →
      h ∈ c.hist → h.line = physLine s n line → h.dev = dev → s.dtcNow ≤ h.stamp + 3600000000000 * s.rd F.DDR_ECC_CTL.PERMWIN n →
    Completes (.demandScrub n sc Upset.none) s fun t => t.flag F.DDR_EVT.PERM n = true ∧ (t.chan n).hist = c.hist) ∧
  (∀ (s : State) (n : Fin 12) (d : DramLine) (c : ChanRec) (pos : Nat), c = s.chan n → pos = patrolPos s n → chanState s n = 2 →
      s.flag F.DDR_PAT_CTL.EN n = true → c.rq = [] → c.lagging = false → (patrolIdx s n).2 < patrolDue s n →
      patrolDue s n - (patrolIdx s n).2 < 65536 → pos + 1 < mapLines s n →
      sget none c.lines (physLine s n pos) = some d → d.err = 0 →
    Completes (.patrolRead n Upset.none) s fun t =>
      patrolPos t n = (pos + 1) % 2 ^ 33 ∧ (t.chan n).lines = c.lines ∧ t.rd F.DDR_CE_CNT.COUNT n = s.rd F.DDR_CE_CNT.COUNT n) ∧
  (∀ (s : State) (n : Fin 12) (u : Upset), chanState s n = 2 → s.flag F.DDR_PAT_CTL.EN n = true → 0 < mapLines s n →
      (s.chan n).lagging = false → (patrolIdx s n).2 + 65536 ≤ patrolDue s n →
    Completes (.patrolRead n u) s fun t => t.flag F.DDR_PAT_STAT.LATE n = true ∧ t.flag F.DDR_EVT.PATLATE n = true) ∧
  (∀ (s : State) (n : Fin 12) (bank : Fin 512) (row last : Nat), sget (0, 0) (s.chan n).open_ bank = (row + 1, last) →
      s.flag F.DDR_CTL.PAGE n = true → s.rd F.DDR_CTL.PGTMO n ≤ mckCycles s n (s.dtcNow - last) →
    Completes (.openRowTimeout n bank) s fun t =>
      sget (0, 0) (t.chan n).open_ bank = (0, 0) ∧ t.regs = s.regs ∧
      ∀ b : Nat, b ≠ bank.val → sget (0, 0) (t.chan n).open_ b = sget (0, 0) (s.chan n).open_ b) ∧
  (∀ (s : State) (n : Fin 12) (len : Nat), len = 3600000000000 * s.rd F.DDR_ECC_CTL.PERMWIN n →
      s.expired (s.chan n).permStart len = true →
    Completes (.permwinWindow n) s fun t =>
      (t.chan n).permLines = [] ∧ (t.chan n).reached = [] ∧ (t.chan n).permStart = (s.chan n).permStart + len ∧ (t.chan n).hist = (s.chan n).hist ∧
      t.regs = s.regs) ∧
  (∀ (s : State) (n : Fin 12) (v : Word) (line sp : Nat), line = 16 * F.DDR_RMP_CMD.LINE.of v → F.DDR_RMP_CMD.ADD.of v = 1 →
      F.DDR_RMP_CMD.ROW.of v = 0 → s.flag F.DDR_RMP_STAT.BUSY n = false → alreadyMapped s n line = false →
      (s.chan n).lineMap.length < 32 → spareFor s n line = some sp → alreadyMapped s n sp = false →
    Completes (.ddrRemapAdd n v) s fun t =>
      (t.chan n).lineMap = (s.chan n).lineMap ++ [⟨line, sp, 2⟩] ∧ physLine t n line = sp ∧ stored t n sp = movedLine s n line ∧
      t.rd F.DDR_RMP_STAT.LUSED n = (s.chan n).lineMap.length + 1 ∧ t.flag F.DDR_EVT.REMAP n = true) ∧
  (∀ (s : State) (n : Fin 12) (v : Word) (line : Nat), line = 16 * F.DDR_RMP_CMD.LINE.of v → F.DDR_RMP_CMD.ADD.of v = 1 →
      F.DDR_RMP_CMD.ROW.of v = 1 → s.flag F.DDR_RMP_STAT.BUSY n = false → alreadyMapped s n line = false →
      (s.chan n).rowMap.length < 64 →
    Completes (.ddrRemapAdd n v) s fun t =>
      (t.chan n).rowMap = (s.chan n).rowMap ++ [⟨rowFirst s n line, 2, true, 0⟩] ∧ t.flag F.DDR_RMP_STAT.BUSY n = true ∧
      (t.chan n).lines = (s.chan n).lines) ∧
  (∀ (s : State) (n : Fin 12) (v : Word), F.DDR_RMP_CMD.ADD.of v = 1 → s.flag F.DDR_RMP_STAT.BUSY n = false →
      alreadyMapped s n (16 * F.DDR_RMP_CMD.LINE.of v) = true →
    Completes (.ddrRemapAdd n v) s fun t => t.flag F.DDR_RMP_STAT.FAIL n = true ∧ t.ddr = s.ddr) ∧
  (∀ (s : State) (n : Fin 12) (r : RowMap), (s.chan n).lineMap = [] → (s.chan n).rowMap = [r] → r.copying = true →
      r.copied = 0 → r.first + 8192 ≤ mapLines s n →
    Completes (.rowCopyComplete n) s fun t =>
      (t.chan n).rowMap = [{ r with copying := false, copied := 128 }] ∧ t.flag F.DDR_RMP_STAT.BUSY n = false ∧ t.flag F.DDR_EVT.ROWRET n = true ∧
      ∀ c : Fin 128, stored t n (spareRowLine s n 0 c) = movedLine s n (rowLine s n r.first c))

/-- A channel's states (R287, R290, R305–R310, R507, R508): sealing, refresh and temperature, self-refresh, holds and frequency changes, service.
The model's own choices in it: log entries 5, 32, 92, 96. -/
def Obligations.ChannelsRefreshHoldAndSeal : Prop :=
  (∀ (s : State) (n : Fin 12), ilvSealed s = false → Completes (.sealChannel n) s fun t =>
    if ilvGood s = true then
      (∀ m : Fin 12, t.flag F.DDR_ILV.SEAL m = true ∧ t.flag F.DDR_ILV.SEALERR m = false ∧
        t.ddr.members.getLsbD m = s.flag F.DDR_CTL.INSERVICE m)
    else t.ddr = s.ddr ∧ ∀ m : Fin 12, t.flag F.DDR_ILV.SEALERR m = true ∧ t.flag F.DDR_ILV.SEAL m = s.flag F.DDR_ILV.SEAL m) ∧
  (∀ (s : State) (n : Fin 12), ilvSealed s = true → Completes (.sealChannel n) s fun t => t = s) ∧
  (∀ (s : State) (n : Fin 12) (rank : Fin 8), chanState s n = 2 → rank.val < 2 ^ s.rd F.DDR_CFG.RANKS n →
    let owed := sget 0 (s.chan n).owed rank
    (Completes (.refresh n rank .all) s fun t =>
      if s.flag F.DDR_CTL.REFSB n = false then
        sget 0 (t.chan n).owed rank = owed ∧ (∀ e ∈ (t.chan n).open_, e.1 / 32 % 8 ≠ rank.val) ∧
        (t.chan n).lines = (s.chan n).lines ∧ t.regs = s.regs
      else t = s) ∧
    (∀ b : Fin 4, Completes (.refresh n rank (.bank b)) s fun t =>
      if s.flag F.DDR_CTL.REFSB n = true then
        sget 0 (t.chan n).owed rank = owed ∧ (∀ e ∈ (t.chan n).open_, e.1 / 32 % 8 = rank.val → e.1 % 4 ≠ b.val) ∧
        (t.chan n).lines = (s.chan n).lines ∧ t.regs = s.regs
      else t = s) ∧
    (Completes (.refresh n rank .postpone) s fun t =>
      if owed < 0 ∨ rankBusy s n rank = true ∧ owed < 4 then
        sget 0 (t.chan n).owed rank = owed + 1 ∧ (t.chan n).open_ = (s.chan n).open_
      else t = s) ∧
    ∀ b : Fin 4, Completes (.refresh n rank (.pullIn b)) s fun t =>
      if 0 < owed ∨ rankBusy s n rank = false ∧ -4 < owed then
        sget 0 (t.chan n).owed rank = owed - 1 ∧
        ∀ e ∈ (t.chan n).open_, e.1 / 32 % 8 = rank.val → s.flag F.DDR_CTL.REFSB n = true ∧ e.1 % 4 ≠ b.val
      else t = s) ∧
  (∀ (s : State) (n : Fin 12) (rank : Fin 8) (temp : Nat), chanState s n = 2 → rank.val < 2 ^ s.rd F.DDR_CFG.RANKS n →
    Completes (.mr4Poll n [(rank, temp)]) s fun t =>
      (nbit (t.rd F.DDR_STAT.HOT n) rank =
        if 85 < temp then true else if temp ≤ 83 then false else nbit (s.rd F.DDR_STAT.HOT n) rank) ∧
      (95 < temp → t.flag F.DDR_EVT.HOT n = true)) ∧
  (∀ (s : State) (n : Fin 12) (c : ChanRec), c = s.chan n → chanState s n = 2 → s.rd F.DDR_SRIDLE.IDLE n ≠ 0 → nothingWaits c = true →
      c.held = [] → c.holdNext = none → s.coh.clearQ = [] → c.emptyAt + 1000 * s.rd F.DDR_SRIDLE.IDLE n ≤ s.dtcNow →
    Completes (.selfRefreshEntry n) s fun t => chanState t n = 3 ∧ (t.chan n).open_ = [] ∧ (t.chan n).lines = c.lines) ∧
  (∀ (s : State) (n : Fin 12) (f : Bool), chanState s n = 3 → (s.chan n).holdNext = some f → Completes (.selfRefreshExit n) s fun t =>
    chanState t n = 4 ∧ (t.chan n).freqHold = f ∧ (t.chan n).holdNext = none) ∧
  (∀ (s : State) (n : Fin 12) (kind : BitVec 1), Completes (.holdGo n kind) s fun t =>
    if holdAccepted s n kind.toNat = true then
      (chanState t n = (if chanState s n = 3 then 3 else if chanState s n = 6 then 5 else 4)) ∧
      (chanState s n = 3 → (t.chan n).holdNext = some (kind == 0)) ∧ (chanState s n ≠ 3 → (t.chan n).freqHold = (kind == 0))
    else t.flag F.DDR_HOLD_STAT.REJECT n = true ∧ t.ddr = s.ddr ∧ chanState t n = chanState s n) ∧
  (∀ (s : State) (n : Fin 12) (kind : BitVec 1), holdAccepted s n kind.toNat = true →
    (chanState s n = 2 ∨ chanState s n = 3 ∨ chanState s n = 6 ∧ kind = 0) ∧
    (kind = 0 → s.flag F.DDR_TIM_SHCTL.VALID n = true ∧ shadowGood s n = true)) ∧
  (∀ (s : State) (n : Fin 12), chanState s n = 4 → queuesEmpty (s.chan n) = true → Completes (.queuesEmpty n) s fun t =>
    chanState t n = (if (s.chan n).freqHold = true then 5 else 6) ∧
    ((s.chan n).freqHold = true → (t.chan n).open_ = [] ∧ ∀ e ∈ (t.chan n).owed, e.2 < 0) ∧ (t.chan n).lines = (s.chan n).lines) ∧
  (∀ (s : State) (n : Fin 12), chanState s n = 5 → (s.chan n).swapped = false → Completes (.freqchangeEntryComplete n) s fun t =>
    (t.chan n).swapped = true ∧ chanState t n = 5 ∧ t.flag F.DDR_TIM_SHCTL.VALID n = false ∧
    t.rd F.DDR_STAT.RATE n = s.rd F.DDR_TIM_SHADOW0.RATE (8 * n) ∧
    (ClkDiv.mck n, s.rd F.DDR_TIM_SHADOW0.MCKDIV (8 * n), s.clk.rootEdges) ∈ t.clk.committed ∧
    ∀ k : Fin 8, t.reg .DDR_TIM_ACT (8 * n.val + k.val) = s.reg .DDR_TIM_SHADOW (8 * n.val + k.val) ∧
      t.reg .DDR_TIM_SHADOW (8 * n.val + k.val) = s.reg .DDR_TIM_ACT (8 * n.val + k.val)) ∧
  (∀ (s : State) (n : Fin 12), chanState s n = 5 → (s.chan n).swapped = true → Completes (.freqchangeExit n) s fun t =>
    chanState t n = 6 ∧ t.flag F.DDR_EVT.HOLDDONE n = true ∧ t.ddr = s.ddr) ∧
  (∀ (s : State) (n : Fin 12), chanState s n = 6 → s.flag F.DDR_TRN_STAT.SAVED n = false → (s.chan n).held = [] →
    Completes (.trainholdDone n) s fun t => chanState t n = 2 ∧ t.flag F.DDR_EVT.HOLDDONE n = true) ∧
  (∀ (s : State) (n : Fin 12), chanState s n ≠ 6 ∨ s.flag F.DDR_TRN_STAT.SAVED n = true →
    Completes (.trainholdDone n) s fun t => t.flag F.DDR_HOLD_STAT.REJECT n = true ∧ chanState t n = chanState s n ∧ t.ddr = s.ddr) ∧
  (∀ (s : State) (n : Fin 12), Completes (.inservice n) s fun t =>
    if chanState s n = 1 then chanState t n = 2 ∧ t.flag F.DDR_CTL.INSERVICE n = true ∧ patrolPos t n = 0 ∧
      (t.chan n).passStart = s.dtcNow
    else t = s) ∧
  (∀ (s : State) (n : Fin 12), Completes (.shadowValid n) s fun t =>
    if chanState s n ≠ 1 then t.flag F.DDR_TIM_SHCTL.VALID n = true ∧ t.ddr = s.ddr
    else if shadowGood s n = true then
      (t.chan n).timed = true ∧ t.rd F.DDR_STAT.RATE n = s.rd F.DDR_TIM_SHADOW0.RATE (8 * n) ∧
      ∀ k : Fin 8, t.reg .DDR_TIM_ACT (8 * n.val + k.val) = s.reg .DDR_TIM_SHADOW (8 * n.val + k.val)
    else t.flag F.DDR_HOLD_STAT.REJECT n = true ∧ t.ddr = s.ddr)

/-- The training helpers (R311, R378, R507): the generator writes, compares, saves and restores lines where its ward admits them; mode register
commands, delays and receiver settings; outside Init and TrainHold each is refused. The model's own choices in it: log entries 12, 14, 93, 95. -/
def Obligations.TrainingHelpersWorkInTheirStates : Prop :=
  (∀ (s : State) (n : Fin 12) (v : Word) (l : Nat), chanState s n = 6 → s.flag F.DDR_TRN_STAT.BUSY n = false →
      F.DDR_TRN_CTL.GO.of v = 1 → F.DDR_TRN_CTL.RESTORE.of v = 0 → trnLines s n v = [l] →
    (F.DDR_TRN_CTL.MODE.of v = 1 → Completes (.generatorWrite n v) s fun t =>
      if trnAdmitted s n [l] = true then
        t.flag F.DDR_TRN_STAT.BUSY n = true ∧ stored t n (physLine s n l) =
          ⟨trnData s n (if F.DDR_TRN_CTL.PAT.of v = 7 then s.rd F.DDR_TRN_CTL.PAT n else F.DDR_TRN_CTL.PAT.of v) 0, 0⟩ ∧
        (l < mapLines s n → (t.ptEntry (dramDa s n (64 * l) / 2 ^ 28)).clean = false)
      else t.flag F.DDR_TRN_STAT.REJECT n = true ∧ t.ddr = s.ddr ∧ t.coh = s.coh) ∧
    (F.DDR_TRN_CTL.MODE.of v = 2 → trnAdmitted s n [l] = true → F.DDR_TRN_CTL.PAT.of v = 6 →
      Completes (.generatorReadCompare n v []) s fun t =>
        t.flag F.DDR_TRN_STAT.BUSY n = true ∧ stored t n (physLine s n l) = stored s n (physLine s n l) ∧
        t.rd F.DDR_TRN_STAT.ERRLINES n = if trnDiff (stored s n (physLine s n l)) (userPattern s n) = 0 then 0 else 1) ∧
    (F.DDR_TRN_CTL.MODE.of v = 3 → trnAdmitted s n [l] = true → (s.chan n).saved = [] →
      Completes (.generatorSaveWriteCompare n v []) s fun t =>
        (t.chan n).saved = [(l, stored s n (physLine s n l))] ∧ t.flag F.DDR_TRN_STAT.SAVED n = true ∧
        t.rd F.DDR_TRN_STAT.ERRLINES n = 0)) ∧
  (∀ (s : State) (n : Fin 12) (v : Word) (l : Nat) (d : DramLine), chanState s n = 6 → s.flag F.DDR_TRN_STAT.BUSY n = false →
      F.DDR_TRN_CTL.RESTORE.of v = 1 → s.flag F.DDR_TRN_STAT.SAVED n = true → (s.chan n).saved = [(l, d)] →
    Completes (.generatorRestore n v) s fun t =>
      stored t n (physLine s n l) = d ∧ (t.chan n).saved = [] ∧ t.flag F.DDR_TRN_STAT.SAVED n = false ∧
      t.flag F.DDR_TRN_STAT.BUSY n = true ∧ t.coh = s.coh) ∧
  (∀ (s : State) (n : Fin 12) (v : Word), chanState s n ≠ 1 → chanState s n ≠ 6 → F.DDR_TRN_CTL.GO.of v = 1 → F.DDR_TRN_CTL.MODE.of v = 1 →
    Completes (.generatorWrite n v) s fun t => t.flag F.DDR_TRN_STAT.REJECT n = true ∧ t.ddr = s.ddr) ∧
  (∀ (s : State) (n : Fin 12), s.flag F.DDR_TRN_STAT.BUSY n = true → Completes (.generatorDone n) s fun t =>
    t.flag F.DDR_TRN_STAT.BUSY n = false ∧ t.flag F.DDR_TRN_STAT.DONE n = true ∧ t.ddr = s.ddr) ∧
  (∀ (s : State) (n : Fin 12) (v : Word) (byte : Byte), chanState s n = 6 →
    let o : OutMsg := .dramMr n (F.DDR_MR_CMD.OP.of v) (F.DDR_MR_CMD.SC.of v) (F.DDR_MR_CMD.RANK.of v) (F.DDR_MR_CMD.MR.of v)
      (F.DDR_MR_CMD.DATA.of v)
    (F.DDR_MR_CMD.OP.of v = 1 → Completes (.mrw n v) s fun t => t = { s with out := s.out ++ [o] }) ∧
    (F.DDR_MR_CMD.OP.of v = 2 → Completes (.mrr n v byte) s fun t =>
      t.out = s.out ++ [o] ∧ t.rd F.DDR_MR_DATA.DATA n = byte.toNat ∧ t.ddr = s.ddr) ∧
    (F.DDR_MR_CMD.OP.of v = 3 → Completes (.mpc n v) s fun t => t = { s with out := s.out ++ [o] })) ∧
  (∀ (s : State) (n : Fin 12) (v : Word), Completes (.dlyDataWrite n v) s fun t =>
    if chanState s n = 1 ∨ chanState s n = 6 then
      let w := sget 0 (t.chan n).dly (s.rd F.DDR_DLY_SEL.RANK n * 128 + s.rd F.DDR_DLY_SEL.LANE n)
      F.DDR_DLY_DATA.WDLY.of w = F.DDR_DLY_DATA.WDLY.of v ∧
      F.DDR_DLY_DATA.RDLY.of w = (if s.rd F.DDR_DLY_SEL.LANE n < 100 then F.DDR_DLY_DATA.RDLY.of v else 0) ∧ t.regs = s.regs
    else t.flag F.DDR_TRN_STAT.REJECT n = true ∧ t.ddr = s.ddr) ∧
  (∀ (s : State) (n : Fin 12) (v : Word), s.rd F.DDR_DLY_SEL.LANE n < 80 → Completes (.rxeqDataWrite n v) s fun t =>
    if chanState s n = 1 ∨ chanState s n = 6 then
      let w := sget 0 (t.chan n).rxeq (s.rd F.DDR_DLY_SEL.LANE n)
      F.DDR_RXEQ_DATA.VREF.of w = F.DDR_RXEQ_DATA.VREF.of v ∧ F.DDR_RXEQ_DATA.DFE1.of w = F.DDR_RXEQ_DATA.DFE1.of v ∧
      F.DDR_RXEQ_DATA.DFE2.of w = F.DDR_RXEQ_DATA.DFE2.of v ∧ F.DDR_RXEQ_DATA.DFE3.of w = F.DDR_RXEQ_DATA.DFE3.of v ∧ t.regs = s.regs
    else t.flag F.DDR_TRN_STAT.REJECT n = true ∧ t.ddr = s.ddr)

/-! ### Configuration, scanning and the boot (chapters 12 to 14) -/

/-- The operations of a configuration controller (R321–R324, R331, R335, R338–R342): a load begins on a defined region of an idle leaf; its
bytes, checks and chunks; closing, draining and writing; what ends it, with its code; a CLEAR blanks its region. The model's own choices in it:
log entries 5, 24 to 26, 99 to 103, 106, 108, 110. -/
def Obligations.LoadsRunThroughTheirPhases : Prop :=
  (∀ (s : State) (l : Fin 4) (r : Fin 64), Completes (.load l r) s fun t =>
    if (s.loader l).op ≠ 0 ∨ (s.loader 0).op = 2 then t.rd F.CFG_LDSTAT.RESULT l = 1 ∧ t.cfg = s.cfg
    else if s.rd F.CFG_RGN_CFG.STATE r = 0 ∨ s.rd F.CFG_RGN_CFG.LEAF r ≠ l.val then t.rd F.CFG_LDSTAT.RESULT l = 2 ∧ t.cfg = s.cfg
    else t.rd F.CFG_LDSTAT.RESULT l = 0 ∧ ldPhase t l = 1 ∧ t.rd F.CFG_LDSTAT.REGION l = r.val ∧ (t.loader l).op = 1 ∧
      (t.loader l).dataAt = s.stamp ∧ (t.loader l).written = 0 ∧ t.cfg.frames = s.cfg.frames) ∧
  (∀ (s : State) (sherex : Bool) (stage k : Nat), (∀ l : Fin 4, (s.loader l).op = 0) → stage = s.rd F.CFG_BOOT_STAT.STAGE 0 →
      k = (if stage = 3 then s.cfg.attempt else s.cfg.attempt + 1) →
    Completes (.loadFull sherex) s fun t =>
      if s.flag F.CFG_PINS.DONE 0 = true then t.rd F.CFG_LDSTAT.RESULT 0 = 4 ∧ t.cfg = s.cfg
      else if sherex = false ∧ (3 ≤ s.rd F.CFG_BOOT_STAT.BOOT_MODE 0 ∧ s.rd F.CFG_BOOT_STAT.BOOT_MODE 0 ≤ 4 ∨
          stage = 6 ∧ s.dtcNow < s.cfg.retryAt) then t = s
      else t.rd F.CFG_LDSTAT.RESULT 0 = 0 ∧ ldPhase t 0 = 1 ∧ (t.loader 0).op = 2 ∧ t.rd F.CFG_BOOT_STAT.STAGE 0 = 3 ∧
        (sherex = true → t.rd F.CFG_BOOT_STAT.FSRC 0 = 3 ∧ t.cfg.attempt = s.cfg.attempt) ∧
        (sherex = false → t.rd F.CFG_BOOT_STAT.FSRC 0 = flashOf (s.rd F.CFG_BOOT_STAT.BOOT_MODE 0) k ∧ t.cfg.attempt = k ∧
          t.rd F.CFG_BOOT_STAT.ATTEMPTS 0 = min k 65535 ∧ t.cfg.retryAt = 0)) ∧
  (∀ (s : State) (l : Fin 4) (r : Fin 64), (s.loader l).op = 0 → (s.loader 0).op ≠ 2 → s.rd F.CFG_RGN_CFG.LEAF r = l.val →
      s.rd F.CFG_RGN_CFG.STATE r = 3 ∨ s.rd F.CFG_RGN_CFG.STATE r = 4 →
    Completes (.clear l r) s fun t =>
      t.rd F.CFG_LDSTAT.RESULT l = 0 ∧ ldPhase t l = 3 ∧ (t.loader l).op = 3 ∧ t.rd F.CFG_RGN_CFG.STATE r = 5 ∧
      (∀ x ∈ regionSectors s r, t.flag F.CFG_SECT.CLOSED x = true ∧ t.flag F.KRV_AP.CLOSED (2 * x) = true ∧
        t.flag F.KRV_AP.CLOSED (2 * x + 1) = true) ∧ t.cfg.frames = s.cfg.frames) ∧
  (∀ (s : State) (l : Fin 4), s.mnt.trst = [] → Completes (.abort l) s fun t =>
    if ((s.loader l).op = 1 ∨ (s.loader l).op = 2) ∧ 1 ≤ ldPhase s l ∧ ldPhase s l ≤ 4 then
      t.rd F.CFG_LDERR.CODE l = 16 ∧ t.rd F.CFG_LDERR.FRAME l = nextFrame s l % 2 ^ 19 ∧ ldPhase t l = 0 ∧ (t.loader l).op = 0 ∧
      t.flag F.CFG_LDSTAT.FAIL l = true ∧ t.flag F.CFG_EVT.LDFAIL l = true ∧
      ((s.loader l).op = 1 → t.rd F.CFG_RGN_CFG.STATE (opRegion s l) =
        if 3 ≤ ldPhase s l then 4 else s.rd F.CFG_RGN_CFG.STATE (opRegion s l))
    else t.rd F.CFG_LDSTAT.RESULT l = 3 ∧ t.cfg = s.cfg) ∧
  (∀ (s : State) (l : Fin 4) (src : BitVec 13) (txn : BitVec 8) (data : BitVec 512), src.toNat ≠ dmaEp →
    Completes (.imgData l none src txn data) s fun t =>
      t.net.resps = s.net.resps ++ [⟨ctlEp l, src.toNat, txn.toNat, keeperTag, .error 2 1, .none⟩] ∧ t.cfg = s.cfg) ∧
  (∀ (s : State) (l : Fin 4) (src : BitVec 13) (txn : BitVec 8) (data : BitVec 512) (c : Loader), src.toNat = dmaEp → c = s.loader l →
      c.op = 1 → c.hdr = none → 1 ≤ ldPhase s l → ldPhase s l ≤ 4 → c.head.length + 64 < 352 → c.body = [] → c.plain = [] →
      c.waiting = [] → s.mnt.trst = [] →
    Completes (.imgData l none src txn data) s fun t =>
      (t.loader l).head = c.head ++ lineBytes data ∧ (t.loader l).dataAt = s.stamp ∧ t.regs = s.regs ∧
      t.net.resps = s.net.resps ++ [⟨ctlEp l, src.toNat, txn.toNat, keeperTag, .ack, .none⟩]) ∧
  (∀ (s : State) (l : Fin 4) (txn : BitVec 8) (data : BitVec 512) (c : Loader) (h : ImgHeader), c = s.loader l → c.op = 1 → c.hdr = some h →
      c.taken < h.bodyLen → 1 ≤ ldPhase s l → ldPhase s l ≤ 4 → buffersFull c = true → c.waiting = [] → s.mnt.trst = [] →
    Completes (.imgData l none (BitVec.ofNat 13 dmaEp) txn data) s fun t =>
      t.loader l = { c with waiting := [⟨none, dmaEp, txn.toNat, lineBytes data⟩] } ∧ t.net = s.net ∧ t.regs = s.regs) ∧
  (∀ (s : State) (l : Fin 4) (c : Loader) (h : List Byte), c = s.loader l → h = c.head.take 352 → ldPhase s l = 2 → c.op = 1 →
      s.cfg.verify.head? = some l.val →
      16 ≤ s.rd F.CFG_RGN_CFG.OWNER (opRegion s l) → s.mnt.trst = [] →
    Completes (.signatureVerified l) s fun t =>
      if Config.ecdsaOk ((h.drop 0x70).take 96) ((h.drop 0x100).take 96) (Config.sha384 (h.take 0x100)) = false then
        t.rd F.CFG_LDERR.CODE l = 5 ∧ ldPhase t l = 0
      else if digestBytes (Config.sha384 (c.head.drop 352)) ≠ (h.drop 0x40).take 48 then t.rd F.CFG_LDERR.CODE l = 6 ∧ ldPhase t l = 0
      else if checkTarget s l h = false then t.rd F.CFG_LDERR.CODE l = 7 ∧ ldPhase t l = 0
      else ldPhase t l = 3 ∧ t.rd F.CFG_RGN_CFG.STATE (opRegion s l) = 2 ∧
        ∀ x ∈ windowSectors s l, t.flag F.CFG_SECT.CLOSED x = true) ∧
  (∀ (s : State) (l : Fin 4), s.cfg.verify.head? ≠ some l.val → Completes (.signatureVerified l) s fun t => t = s) ∧
  (∀ (s : State) (l : Fin 4) (c : Loader) (h : ImgHeader) (n : Nat), c = s.loader l → c.hdr = some h →
      ldPhase s l = 3 ∨ ldPhase s l = 4 → c.chunk < h.chunks → n = min 65536 (h.bodyLen - 65536 * c.chunk) → n ≤ c.body.length →
      s.mnt.trst = [] →
    Completes (.chunkVerified l) s fun t =>
      match openChunk s l c.chunk c h (c.body.take n) with
      | some p => t.loader l = { c with body := c.body.drop n, plain := c.plain ++ p, chunk := c.chunk + 1 } ∧ t.regs = s.regs
      | none => t.rd F.CFG_LDERR.CODE l = 10 ∧ ldPhase t l = 0) ∧
  (∀ (s : State) (l : Fin 4), ldPhase s l = 3 → (∀ x ∈ windowSectors s l, s.flag F.KRV_AP.DRAINED (2 * x) = true ∧
      s.flag F.KRV_AP.DRAINED (2 * x + 1) = true ∧ domOn s (sectorDom x) = true) →
    Completes (.regionDrained l) s fun t =>
      ldPhase t l = (if (s.loader l).op = 3 then 6 else 4) ∧ t.cfg = s.cfg ∧
      ∀ x ∈ windowSectors s l, ∀ j : Fin 16, ∀ w : Nat, w < 1024 → memCode t .bram (16 * x + j) w = 0) ∧
  (∀ (s : State) (l : Fin 4), (s.loader l).op = 3 → ldPhase s l = 6 → s.mnt.trst = [] → Completes (.clearComplete l) s fun t =>
    ldPhase t l = 0 ∧ t.flag F.CFG_LDSTAT.DONE l = true ∧ t.rd F.CFG_RGN_CFG.STATE (opRegion s l) = 1 ∧
    t.flag F.CFG_EVT.CLRDONE l = true ∧ (∀ x : Nat, t.flag F.CFG_SECT.CLOSED x = s.flag F.CFG_SECT.CLOSED x) ∧
    ∀ f : Nat, frameNow t f = if f / 1280 ∈ regionSectors s (opRegion s l) then 0 else frameNow s f) ∧
  (∀ (s : State) (l : Fin 4), ldPhase s l = 3 ∨ ldPhase s l = 4 → (s.loader l).op = 1 → (s.loader l).hdr = none →
      (∀ x ∈ windowSectors s l, domOn s (sectorDom x) = true) →
      s.expired (s.loader l).dataAt (1000000 * s.rd F.CFG_LDTMO.STALL 0) = true → s.mnt.trst = [] →
    Completes (.stall l) s fun t =>
      t.rd F.CFG_LDERR.CODE l = 18 ∧ ldPhase t l = 0 ∧ t.rd F.CFG_RGN_CFG.STATE (opRegion s l) = 4 ∧ t.cfg.frames = s.cfg.frames)

/-- The records of an image (R315, R320, R321, R333, R334, R339, R343, R344): FRAME, ZERO and REPEAT write frames within the window, in rising
order and with good check bits, else the load ends with the record's code; MEMINIT, RGNDEF and END; readback shows a frame that is not a
tenant's. The model's own choices in it: log entries 104, 105, 107, 109. -/
def Obligations.RecordsWriteFramesInOrder : Prop :=
  (∀ (s : State) (l : Fin 4) (c : Loader) (f : Nat) (v : Frame), c = s.loader l → ldPhase s l = 4 → c.op = 1 → 520 ≤ c.plain.length →
      recWord c.plain = (1, f, false) → v = BitVec.ofNat 4112 (bytesAt c.plain 4 514) → frameClass v < 2 → bytesAt c.plain 518 2 = 0 →
      c.waiting = [] → s.mnt.trst = [] →
    Completes (.frame l) s fun t =>
      if inWindow s l (f / 1280) = false then t.rd F.CFG_LDERR.CODE l = 11 ∧ t.rd F.CFG_LDERR.FRAME l = f ∧ t.cfg.frames = s.cfg.frames
      else if f < c.next then t.rd F.CFG_LDERR.CODE l = 12 ∧ t.cfg.frames = s.cfg.frames
      else if classifyFrame v ≠ .clean then t.rd F.CFG_LDERR.CODE l = 14 ∧ t.cfg.frames = s.cfg.frames
      else frameNow t f = v ∧ sget 0 t.cfg.golden f = v ∧ (t.loader l).next = f + 1 ∧ (t.loader l).written = c.written + 1 ∧
        (t.loader l).plain = c.plain.drop 520 ∧ ∀ g : Nat, g ≠ f → frameNow t g = frameNow s g) ∧
  (∀ (s : State) (l : Fin 4) (c : Loader) (f n : Nat), c = s.loader l → ldPhase s l = 4 → c.op = 1 → 8 ≤ c.plain.length →
      n = bytesAt c.plain 4 4 → 0 < n → f + n ≤ 409600 → outside s l f n = none → c.next ≤ f →
      c.waiting = [] → s.mnt.trst = [] →
    (recWord c.plain = (2, f, false) → Completes (.zero l) s fun t =>
      (t.loader l).next = f + n ∧ ∀ g : Nat, frameNow t g = if f ≤ g ∧ g < f + n then 0 else frameNow s g) ∧
    (∀ v : Frame, recWord c.plain = (3, f, false) → c.last = some v → classifyFrame v = .clean → Completes (.repeatRecord l) s fun t =>
      (t.loader l).next = f + n ∧ ∀ g : Nat, frameNow t g = if f ≤ g ∧ g < f + n then v else frameNow s g)) ∧
  (∀ (s : State) (l : Fin 4) (c : Loader) (inst w : Nat), c = s.loader l → ldPhase s l = 4 → c.op = 1 → c.plain.length = 24 →
      recWord c.plain = (4, 2 ^ 18 + inst, false) → inst < 640 → bytesAt c.plain 4 4 = 2 ^ 16 + w → w < 8192 →
      inWindow s l (inst / 2) = true → c.waiting = [] → s.mnt.trst = [] →
    Completes (.meminit l) s fun t =>
      memCode t .vault inst w = encodeWord 137 (BitVec.ofNat 128 (bytesAt c.plain 8 16)) ∧ t.regs = s.regs ∧
      (t.loader l).plain = [] ∧ t.cfg.frames = s.cfg.frames) ∧
  (∀ (s : State) (c : Loader) (r mask : Nat), c = s.loader 0 → ldPhase s 0 = 4 → c.op = 2 → c.content = false → c.plain.length = 20 →
      recWord c.plain = (5, r, false) → r < 64 → bytesAt c.plain 4 1 < 8 → bytesAt c.plain 5 1 = 0 → mask = bytesAt c.plain 6 10 →
      bytesAt c.plain 16 4 = 0 → mask ≠ 0 → s.cfg.defs = [] → c.waiting = [] →
      s.mnt.trst = [] →
    Completes (.rgndef 0) s fun t =>
      t.cfg.defs = [(r, bytesAt c.plain 4 1 % 4, nbit (bytesAt c.plain 4 1) 2, mask)] ∧ t.regs = s.regs) ∧
  (∀ (s : State) (l : Fin 4) (c : Loader) (h : ImgHeader), c = s.loader l → ldPhase s l = 4 → c.op = 1 → c.hdr = some h →
      4 ≤ c.plain.length → recWord c.plain = (6, 0, false) → s.cfg.fwd = [] → s.mnt.trst = [] →
    Completes (.endRecord l) s fun t =>
      if c.written = h.frames ∧ c.written = 1280 * (windowSectors s l).length then
        if sectorsTested s (windowSectors s l) = false then t = s else
        t.rd F.CFG_RGN_CFG.STATE (opRegion s l) = 3 ∧ ldPhase t l = 0 ∧ t.flag F.CFG_LDSTAT.DONE l = true ∧
        t.flag F.CFG_EVT.LDDONE l = true ∧ ∀ x ∈ windowSectors s l, t.flag F.CFG_SECT.CLOSED x = false ∧ t.flag F.KRV_AP.CLOSED (2 * x) = false
      else t.rd F.CFG_LDERR.CODE l = 15 ∧ t.rd F.CFG_RGN_CFG.STATE (opRegion s l) = 4 ∧ t.flag F.CFG_LDSTAT.FAIL l = true) ∧
  (∀ (s : State) (l : Fin 4) (f n : Nat) (v : Frame) (rest : List FwdItem), s.cfg.fwd = .frames f n v :: rest → f / 102400 = l.val → 0 < n →
    Completes (.frameFwd l (BitVec.ofNat 13 (ctlEp 0))) s fun t =>
      frameNow t f = v ∧ sget 0 t.cfg.golden f = v ∧ t.cfg.fwd = (if n = 1 then rest else .frames (f + 1) (n - 1) v :: rest) ∧
      ∀ g : Nat, g ≠ f → frameNow t g = frameNow s g) ∧
  (∀ (s : State) (r : Fin 64) (v : Word), F.CFG_RGN_CFG.OWNER.of v ≠ s.rd F.CFG_RGN_CFG.OWNER r → F.CFG_RGN_CFG.REJECT.of v = 0 →
    Completes (.regionOwnerWrite r v) s fun t =>
      let o := F.CFG_RGN_CFG.OWNER.of v
      if s.flag F.CFG_RGN_CFG.STATIC r = false ∧ s.rd F.CFG_RGN_CFG.STATE r = 1 ∧ (o = 31 ∨ o < 16 ∧ headExists s o = true) then
        t.rd F.CFG_RGN_CFG.OWNER r = o ∧ t.flag F.CFG_RGN_CFG.REJECT r = s.flag F.CFG_RGN_CFG.REJECT r
      else t.rd F.CFG_RGN_CFG.OWNER r = s.rd F.CFG_RGN_CFG.OWNER r ∧ t.flag F.CFG_RGN_CFG.REJECT r = true) ∧
  (∀ (s : State) (v : Word) (f : Nat), f = F.CFG_FRD_CMD.FRAME.of v → F.CFG_FRD_CMD.GO.of v = 1 → f < 409600 → frameOwner s f = 16 →
    Completes (.frameReadback v) s fun t =>
      t.flag F.CFG_FRD_STAT.VALID 0 = true ∧ t.cfg = s.cfg ∧
      (t.flag F.CFG_FRD_STAT.UE 0 = decide (classifyFrame (frameNow s f) = .uncorrectable)) ∧
      ∀ k : Nat, k < 129 → t.reg .CFG_FRD_DATA k = ((frameNow s f) >>> (32 * k)).setWidth 32) ∧
  (∀ (s : State) (v : Word) (f : Nat), f = F.CFG_FRD_CMD.FRAME.of v → F.CFG_FRD_CMD.GO.of v = 1 → f < 409600 → frameOwner s f < 16 →
      findGrant s (frameOwner s f) 2 ((frameRegion s f).getD 0) = none →
    Completes (.frameReadback v) s fun t =>
      t.flag F.CFG_FRD_STAT.VALID 0 = false ∧ t.flag F.CFG_FRD_STAT.DENIED 0 = true ∧
      ∀ k : Nat, t.reg .CFG_FRD_DATA k = s.reg .CFG_FRD_DATA k)

/-- The scanners (R349–R360): a pass starts, each slot checks a frame against its golden signature, a single-bit upset is queued for repair and a
worse one waits for a fix; a repair writes the frame, a repeated upset is a hard fault; a fix needs the golden signature; the ring of records.
The model's own choices in it: log entries 5, 23, 112. -/
def Obligations.ScannersFindAndRepairUpsets : Prop :=
  (∀ (s : State) (l : Fin 4), (s.scan l).idx = 102400 → (s.scan l).start = 0 ∨ (s.scan l).start + 4096000 ≤ s.dtcNow →
    Completes (.scanPassStart l) s fun t =>
      (t.scan l).start = s.dtcNow ∧ (t.scan l).idx = 0 ∧ (t.scan l).skipped = 0 ∧ t.flag F.SCB_STAT.RUN l = true ∧
      t.rd F.SCB_STAT.PASS l = (s.rd F.SCB_STAT.PASS l + 1) % 2 ^ 16 ∧ t.cfg.frames = s.cfg.frames) ∧
  (∀ (s : State) (l : Fin 4) (c : Scanner) (f : Nat) (v g : Frame), c = s.scan l → f = 102400 * l.val + c.idx → v = frameNow s f →
      g = sget 0 s.cfg.golden f → s.flag F.SCB_STAT.RUN l = true → c.idx + 1 < 102400 → c.start + 40 * c.idx ≤ s.dtcNow →
      sigErrOf s f = ⟨0, 0⟩ → skips s l f = false →
    Completes (.frameSlot l [] ⟨[], []⟩) s fun t =>
      (∀ k : Nat, frameNow t k = frameNow s k) ∧
      if Config.frameSig s.memGen f v = Config.frameSig s.memGen f g then
        (t.scan l).idx = c.idx + 1 ∧ (t.scan l).queue = c.queue ∧ (t.scan l).pend = c.pend ∧
        t.rd F.SCB_MBCNT.COUNT l = s.rd F.SCB_MBCNT.COUNT l
      else match classifyFrame v with
        | .corrected p =>
          let w := flipFrame v (frameBitOf p)
          (Config.frameSig s.memGen f w = Config.frameSig s.memGen f g → c.queue.length < 4 →
            (t.scan l).queue = c.queue ++ [(f, w, frameBitOf p, frameOwner s f)] ∧ (t.scan l).idx = c.idx + 1) ∧
          (Config.frameSig s.memGen f w = Config.frameSig s.memGen f g → 4 ≤ c.queue.length →
            t.flag F.SCB_STAT.LATE l = true ∧ (t.scan l).idx = c.idx)
        | _ => t.rd F.SCB_MBCNT.COUNT l = min (s.rd F.SCB_MBCNT.COUNT l + 1) (2 ^ 32 - 1) ∧ (t.scan l).idx = c.idx + 1 ∧
          (c.pend = [] → (t.scan l).pend = [some ⟨f, frameOwner s f, false, 0, s.stamp, s.rd F.SCB_FIXTMO.TMO 0⟩])) ∧
  (∀ (s : State) (l : Fin 4) (f bit o : Nat) (v : Frame) (rest : List (Nat × Frame × Nat × Nat)),
      (s.scan l).queue = (f, v, bit, o) :: rest →
    Completes (.repairWrite l) s fun t =>
      frameNow t f = v ∧ (t.scan l).queue = rest ∧ t.cfg.golden = s.cfg.golden ∧
      t.rd F.SCB_SBCNT.COUNT l = min (s.rd F.SCB_SBCNT.COUNT l + 1) (2 ^ 32 - 1) ∧ t.flag F.SCB_EVT.SBFIX l = true ∧
      (∀ g : Nat, g ≠ f → frameNow t g = frameNow s g) ∧
      ((s.scan l).hist = [] → (t.scan l).hist = [⟨f, bit, s.rd F.SCB_STAT.PASS l⟩] ∧
        t.rd F.SCB_HFCNT.COUNT l = s.rd F.SCB_HFCNT.COUNT l) ∧
      (⟨f, bit, s.rd F.SCB_STAT.PASS l⟩ ∈ (s.scan l).hist →
        t.rd F.SCB_HFCNT.COUNT l = min (s.rd F.SCB_HFCNT.COUNT l + 1) (2 ^ 32 - 1) ∧ t.flag F.SCB_EVT.HARD l = true)) ∧
  (∀ (s : State) (l : Fin 4) (f : Nat), waitingEntry s l f = none →
    (Completes (.fixGo l f) s fun t => t.flag F.SCB_FIXSTAT.NOTPEND l = true ∧ t.cfg = s.cfg) ∧
    (Completes (.giveup l f) s fun t => t.flag F.SCB_FIXSTAT.NOTPEND l = true ∧ t.cfg = s.cfg)) ∧
  (∀ (s : State) (l : Fin 4) (f : Nat) (p : PendFrame) (v : Frame), (s.scan l).pend = [some p] → p.frame = f → p.unrepaired = false →
      v = suppliedFrame s l → sigErrOf s f = ⟨0, 0⟩ → p.refusals < 3 →
    Completes (.fixGo l f) s fun t =>
      if Config.frameSig s.memGen f v = Config.frameSig s.memGen f (sget 0 s.cfg.golden f) then
        frameNow t f = v ∧ t.flag F.SCB_FIXSTAT.ACCEPT l = true ∧ (t.scan l).pend = [none] ∧ t.cfg.golden = s.cfg.golden
      else t.cfg.frames = s.cfg.frames ∧ t.flag F.SCB_FIXSTAT.BADSIG l = true ∧
        (t.scan l).pend = [some { p with refusals := p.refusals + 1 }]) ∧
  (∀ (s : State) (l : Fin 4) (p : PendFrame), (s.scan l).pend = [some p] → p.unrepaired = false →
    (Completes (.giveup l p.frame) s fun t =>
      (t.scan l).pend = [some { p with unrepaired := true }] ∧ t.flag F.SCB_EVT.UNREP l = true ∧ t.cfg.frames = s.cfg.frames ∧
      (p.owner < 16 → t.rd F.SCB_UNR.COUNT p.owner = min (s.rd F.SCB_UNR.COUNT p.owner + 1) (2 ^ 32 - 1))) ∧
    (s.expired p.since (1000000 * p.tmo) = true → Completes (.fixTimeout l 0) s fun t =>
      (t.scan l).pend = [some { p with unrepaired := true }] ∧ t.flag F.SCB_EVT.UNREP l = true ∧ t.cfg.frames = s.cfg.frames)) ∧
  (∀ (s : State) (l : Fin 4) (v : Word) (n : Nat), F.SCB_LOGCTL.POP.of v = 1 → n = s.rd F.SCB_LOGCTL.COUNT l → n ≠ 0 →
    Completes (.scbLogPop l v) s fun t =>
      t.rd F.SCB_LOGCTL.COUNT l = n - 1 ∧ t.rd F.SCB_LOGCTL.HEAD l = (s.rd F.SCB_LOGCTL.HEAD l + 1) % 16 ∧ t.cfg = s.cfg)

/-- The boot (R325, R330, R331, R366–R368): the ROM starts on two cores, the policy image is applied once and sealed, the firmware starts on all
four, a failed attempt waits and is retried from the flash of its number. The model's own choices in it: log entries 24 to 26, 117 to 119. -/
def Obligations.BootRunsThroughItsStages : Prop :=
  (∀ (s : State) (failing : Bool), 7 ≤ s.clk.step → s.rd F.CFG_BOOT_STAT.STAGE 0 = 0 → s.kp.sramReady = false →
    Completes (.bootRomStart failing) s fun t =>
      (failing = true → t.rd F.CFG_BOOT_STAT.STAGE 0 = 5 ∧ t.flag F.CFG_PINS.ERR 0 = true ∧ t.kp.sramReady = false) ∧
      (failing = false → t.rd F.CFG_BOOT_STAT.STAGE 0 = 0 ∧ t.kp.sramReady = true ∧ t.kp.sram = [] ∧
        t.flag F.CFG_PINS.ERR 0 = s.flag F.CFG_PINS.ERR 0) ∧
      t.cfg.attempt = max 1 s.cfg.attempt ∧
      t.rd F.CFG_BOOT_STAT.ATTEMPTS 0 = min (max 1 s.cfg.attempt) 65535 ∧ (s.clk.step = 7 → t.clk.step = 8)) ∧
  (∀ (s : State) (img : Option FlashRead) (fabdep : BitVec 16), s.kp.sramReady = true → s.rd F.CFG_BOOT_STAT.STAGE 0 = 0 →
      (s.rd F.CFG_BOOT_STAT.BOOT_MODE 0 = 4 → s.kh.images ≠ []) →
    Completes (.policyImageApplied img fabdep) s fun t =>
      match (bootPlain s 4 65536 (bootImage s false img)).bind (fun p => policyEntries p s) with
      | none => t.rd F.CFG_BOOT_STAT.STAGE 0 = 5 ∧ t.flag F.CFG_PINS.ERR 0 = true ∧
          t.flag F.WRD_STAT.POLSEAL 0 = s.flag F.WRD_STAT.POLSEAL 0
      | some _ => t.rd F.CFG_BOOT_STAT.STAGE 0 = 1 ∧ t.flag F.WRD_STAT.POLSEAL 0 = true ∧ t.flag F.WRD_STAT.SEALED 0 = true) ∧
  (∀ (off : Nat) (v : Word) (s t : State), policyEntry off v s = some t →
    ∃ r i, regAt off = some (r, i) ∧ ((policyMask r).isSome = true ∨ isWardReg r = true) ∧
      (s.flag F.WRD_STAT.POLSEAL 0 = true → ∀ m, policyMask r = some m → t = s) ∧
      (s.flag F.WRD_STAT.POLSEAL 0 = false → ∀ m, policyMask r = some m →
        t.reg r i &&& m = v &&& m ∧ t.reg r i &&& ~~~m = s.reg r i &&& ~~~m)) ∧
  (∀ (s : State) (fw : Bool) (d : FlashRead), s.rd F.CFG_BOOT_STAT.BOOT_MODE 0 ≠ 4 →
      bytesAt d.directory 0 4 ≠ 0x5249444C ∨ (∃ o ∈ [8, 0x10, 0x18], bytesAt d.directory o 8 % 4096 ≠ 0) →
    bootImage s fw (some d) = none ∧ bootImage s fw none = none) ∧
  (∀ (s : State) (img : Option FlashRead), s.rd F.CFG_BOOT_STAT.STAGE 0 = 1 →
      (s.rd F.CFG_BOOT_STAT.BOOT_MODE 0 = 4 → s.kh.images ≠ []) →
    Completes (.keeperFirmwareStart img) s fun t =>
      match bootPlain s 1 1835008 (bootImage s true img) with
      | none => t.rd F.CFG_BOOT_STAT.STAGE 0 = 5 ∧ t.flag F.CFG_PINS.ERR 0 = true
      | some p => t.rd F.CFG_BOOT_STAT.STAGE 0 =
            (if s.rd F.CFG_BOOT_STAT.BOOT_MODE 0 = 3 ∨ s.rd F.CFG_BOOT_STAT.BOOT_MODE 0 = 4 then 7 else 2) ∧ t.flag F.CFG_PINS.ERR 0 = false ∧
          (∀ k : Nat, k < p.length → sget 0 t.kp.sram k = p.getD k 0) ∧
          ∀ c : Fin 4, coreStopped s c = false → (t.core c).pc = bytesAt p 0 8 ∧ (t.core c).mode = .machine) ∧
  (∀ (s : State) (st : Nat), st = s.rd F.CFG_BOOT_STAT.STAGE 0 → st = 5 ∨ st = 6 → s.cfg.retryAt ≠ 0 → s.cfg.retryAt ≤ s.dtcNow →
    Completes .bootRetry s fun t =>
      let k := s.cfg.attempt + 1
      t.cfg.attempt = k ∧ t.rd F.CFG_BOOT_STAT.ATTEMPTS 0 = min k 0xFFFF ∧ t.cfg.retryAt = 0 ∧ t.rd F.CFG_BOOT_STAT.STAGE 0 = (if st = 5 then 0 else 3) ∧
      t.rd (if st = 5 then F.CFG_BOOT_STAT.KSRC else F.CFG_BOOT_STAT.FSRC) 0 =
        if st = 5 ∧ s.rd F.CFG_BOOT_STAT.BOOT_MODE 0 = 4 then 3 else flashOf (s.rd F.CFG_BOOT_STAT.BOOT_MODE 0) k)

/-! ### The wards (chapter 14) -/

/-- The wards on the Keeper's traffic (R362, R363, R365, R371, R372, R374, R375, R384, R386): the lockstep checker stops its pair; DMA requests
outside the windows stop their channel and are logged; admitted messages take their tokens or are held in order; a host commits a window. The
model's own choices in it: log entries 8, 113, 140. -/
def Obligations.WardsBoundTheKeepersTraffic : Prop :=
  (∀ (s : State) (q : Fin 2), lockstep s q = true → s.rd (F.KP_CORE_STAT.RUN (2 * q.val)) 0 ≠ 3 → Completes (.lockstepMismatch q) s fun t =>
    t.rd (F.KP_CORE_STAT.RUN (2 * q.val)) 0 = 3 ∧ t.rd (F.KP_CORE_STAT.RUN (2 * q.val + 1)) 0 = 3 ∧
    t.flag (F.KP_CORE_STAT.MISMATCH (2 * q.val)) 0 = true ∧ t.flag (F.KP_CORE_STAT.MISMATCH (2 * q.val + 1)) 0 = true ∧
    t.rd F.KP_LSERR.COUNT 0 = min (s.rd F.KP_LSERR.COUNT 0 + 1) (2 ^ F.KP_LSERR.COUNT.width - 1)) ∧
  (∀ (s : State) (c : Fin 8) (v : Word) (k : Nat), Completes (.dmaStart c v k) s fun t =>
    t.rd F.KP_DMA_DESC.ADDR c =
      (if F.KP_DMA_DESC.ADDR.of v % 32 = 0 then F.KP_DMA_DESC.ADDR.of v else s.rd F.KP_DMA_DESC.ADDR c) ∧
    (s.flag F.KP_DMA_STAT.BUSY c = true → t.kp = s.kp ∧ t.flag F.KP_DMA_STAT.BUSY c = true) ∧
    (s.flag F.KP_DMA_STAT.BUSY c = false → 0 < k → t.flag F.KP_DMA_STAT.BUSY c = true ∧ sget 0 t.kp.dmaLeft c = k)) ∧
  (∀ (s : State) (n w : Fin 16) (v : Word) (j : Nat), j = hwin n w 0 → headExists s n = true → Completes (.windowCommit n w v) s fun t =>
    t.rd F.WRD_HWIN0.VALID j = F.WRD_HWIN0.VALID.of v ∧ t.rd F.WRD_HWIN0.R j = F.WRD_HWIN0.R.of v ∧
    t.rd F.WRD_HWIN0.W j = F.WRD_HWIN0.W.of v ∧ t.rd F.WRD_HWIN0.BASE_LO j = F.WRD_HWIN0.BASE_LO.of v ∧
    t.rd F.WRD_HWIN1.BASE_HI (j + 1) =
      F.WRD_HWIN1.BASE_HI.of ((sget none s.shx.staged (j + 1)).getD (s.reg .WRD_HWIN (j + 1))) ∧
    t.rd F.WRD_HWIN2.PAGES (j + 2) = F.WRD_HWIN2.PAGES.of ((sget none s.shx.staged (j + 2)).getD (s.reg .WRD_HWIN (j + 2))) ∧
    sget none t.shx.staged (j + 1) = none ∧ sget none t.shx.staged (j + 2) = none ∧
    ∀ i : Nat, i / 3 ≠ 16 * n.val + w.val → t.reg .WRD_HWIN i = s.reg .WRD_HWIN i) ∧
  (∀ (s : State) (n : Fin 16) (c : Fin 8) (a : BitVec 64) (l : Nat) (m : KpMessage) (wr : Bool),
      (m = .memRead c a l ∧ wr = false) ∨ (m = .memWrite c a l ∧ wr = true) → windowAdmits s n a.toNat l wr = false →
      messageStalls s m = false →
    Completes (.linkMessage n m) s fun t =>
      t.out = s.out ∧ sget 0 t.kp.dmaLeft c = 0 ∧ t.flag F.KP_DMA_STAT.BUSY c = false ∧ t.flag F.KP_DMA_STAT.ERR c = true ∧
      t.rd F.KP_DMA_STAT.CODE c = 2 ∧ t.rd F.WRD_VIO.COUNT n = min (s.rd F.WRD_VIO.COUNT n + 1) (2 ^ 32 - 1) ∧
      (s.rd F.WRD_LOGCTL.COUNT 0 = 32 → t.rd F.WRD_LOGLOST.COUNT 0 = min (s.rd F.WRD_LOGLOST.COUNT 0 + 1) (2 ^ 32 - 1)) ∧
      (s.rd F.WRD_LOGCTL.COUNT 0 < 32 → t.rd F.WRD_LOGCTL.COUNT 0 = s.rd F.WRD_LOGCTL.COUNT 0 + 1 ∧
        ∀ k : Nat, k = (s.rd F.WRD_LOGCTL.HEAD 0 + s.rd F.WRD_LOGCTL.COUNT 0) % 32 →
          t.rd F.WRD_LOG_W0.KIND (4 * k) = 0 ∧ t.rd F.WRD_LOG_W0.TENANT (4 * k) = n.val ∧
          t.rd F.WRD_LOG_W1.ADDR (4 * k + 1) = a.toNat % 2 ^ 32)) ∧
  (∀ (s : State) (n : Fin 16) (v : Nat) (m : KpMessage), (m = .msix v ∧ 32 ≤ v) ∨ m = .other → Completes (.linkMessage n m) s fun t =>
    t.out = s.out ∧ t.kp = s.kp ∧ t.rd F.WRD_VIO.COUNT n = min (s.rd F.WRD_VIO.COUNT n + 1) (2 ^ 32 - 1)) ∧
  (∀ (s : State) (n : Fin 16) (c : Fin 8) (a : BitVec 64) (l v : Nat) (m : KpMessage),
      (m = .memRead c a l ∧ windowAdmits s n a.toNat l false = true) ∨ (m = .memWrite c a l ∧ windowAdmits s n a.toNat l true = true) ∨
        (m = .msix v ∧ v < 32) → messageStalls s m = false →
    Completes (.linkMessage n m) s fun t =>
      t.rd F.WRD_VIO.COUNT n = s.rd F.WRD_VIO.COUNT n ∧
      if sget [] s.kp.heldMsgs n = [] ∧ tokensThere s n m = true then
        t.kp.heldMsgs = s.kp.heldMsgs ∧ t.rd F.WRD_MSGSTAT.COUNT n = s.rd F.WRD_MSGSTAT.COUNT n ∧
        sget ⟨0, 0⟩ t.kp.bucket n = ⟨bucketMissing s n + 1000 * tokensOf m, s.dtcNow⟩ ∧
        (m = .memRead c a l → t.out = s.out ++ [.keeperMem n false a.toNat l (s.toHost n)]) ∧
        (m = .memWrite c a l → t.out = s.out ++ [.keeperMem n true a.toNat l (s.toHost n)]) ∧
        (m = .msix v → msixMasked s n v = false → 
          t.out = s.out ++ [.msix n v (msixEntry s n v).1 (msixEntry s n v).2 (s.toHost n)]) ∧
        (m = .msix v → msixMasked s n v = true → t.out = s.out ∧ nbit (t.rd F.SHX_MSIX_PBA.VALUE n) v = true)
      else
        t.out = s.out ∧ sget [] t.kp.heldMsgs n = sget [] s.kp.heldMsgs n ++ [m] ∧
        t.rd F.WRD_MSGSTAT.COUNT n = min (s.rd F.WRD_MSGSTAT.COUNT n + 1) (2 ^ 32 - 1)) ∧
  (∀ (s : State) (n : Fin 16) (m : KpMessage), messageStalls s m = true → Completes (.linkMessage n m) s fun t => t = s) ∧
  (∀ (s : State) (n : Fin 16) (c : Fin 8) (a : BitVec 64) (l : Nat) (q : List KpMessage),
      sget [] s.kp.heldMsgs n = .memRead c a l :: q → tokensThere s n (.memRead c a l) = true →
    Completes (.heldMessageRelease n) s fun t =>
      sget [] t.kp.heldMsgs n = q ∧ t.out = s.out ++ [.keeperMem n false a.toNat l (s.toHost n)] ∧ t.regs = s.regs ∧
      sget ⟨0, 0⟩ t.kp.bucket n = ⟨bucketMissing s n + 1000 * tokensOf (.memRead c a l), s.dtcNow⟩)

/-- Grants, the ward log, the junction sensors and the throttle (R376, R381–R383, R386): a grant takes the lowest free slot or the oldest one's
place and ends with its lifetime; a trip switches every domain off; an average above PLIM raises the throttle level; at level k no edge of ECK is
among the first k of its group of 16. The model's own choices in it: log entries 7, 114, 115, 220. -/
def Obligations.GrantsExpireAndLimitsAct : Prop :=
  (∀ (s : State) (n : Fin 16) (v : Word), Completes (.grant n v) s fun t =>
    if F.WRD_GRANT.OP.of v = 0 ∨ 4 < F.WRD_GRANT.OP.of v then t = s
    else ∃ k : Fin 4, t.rd F.WRD_GRANT.OP (4 * n.val + k) = F.WRD_GRANT.OP.of v ∧
      t.rd F.WRD_GRANT.OBJ (4 * n.val + k) = F.WRD_GRANT.OBJ.of v ∧ sget 0 t.kp.grantAt (4 * n.val + k) = s.dtcNow ∧
      (∀ j : Fin 4, j ≠ k → t.reg .WRD_GRANT (4 * n.val + j) = s.reg .WRD_GRANT (4 * n.val + j)) ∧
      if ∃ j : Fin 4, grantLive s n j = false then grantLive s n k = false ∧ ∀ j : Fin 4, j < k → grantLive s n j = true
      else ∀ j : Fin 4, sget 0 s.kp.grantAt (4 * n.val + k) ≤ sget 0 s.kp.grantAt (4 * n.val + j)) ∧
  (∀ (s : State) (n : Fin 16) (k : Fin 4), s.rd F.WRD_GRANT.OP (4 * n.val + k) ≠ 0 →
      s.expired (sget 0 s.kp.grantAt (4 * n.val + k)) (1000000 * s.rd F.WRD_GRTMO.TMO 0) = true →
    Completes (.grantExpiry n k) s fun t =>
      t.rd F.WRD_GRANT.OP (4 * n.val + k) = 0 ∧ grantLive t n k = false ∧
      ∀ i : Nat, i ≠ 4 * n.val + k → t.reg .WRD_GRANT i = s.reg .WRD_GRANT i) ∧
  (∀ (s : State) (v : Word), F.WRD_LOGCTL.POP.of v = 1 → s.rd F.WRD_LOGCTL.COUNT 0 ≠ 0 → Completes (.wrdLogPop v) s fun t =>
    t.rd F.WRD_LOGCTL.HEAD 0 = (s.rd F.WRD_LOGCTL.HEAD 0 + 1) % 32 ∧ t.rd F.WRD_LOGCTL.COUNT 0 = s.rd F.WRD_LOGCTL.COUNT 0 - 1 ∧
    ∀ i : Nat, t.reg .WRD_LOG_W i = s.reg .WRD_LOG_W i) ∧
  (∀ (s : State) (temps : List (BitVec 12)) (hot : Bool) (warn : Int),
      hot = (List.range 16).any (fun k => decide ((440 : Int) ≤ (temps.getD k 0).toInt)) → warn = 4 * s.rd F.WRD_THERM.WARN 0 →
    Completes (.sensorSample temps) s fun t =>
      (∀ k : Nat, k < 16 → t.rd F.WRD_TSENS.TEMP k = (temps.getD k 0).toNat) ∧ t.kp.hot = hot ∧
      t.kp.alertLow = (t.flag F.WRD_THSTAT.ALERT 0 || s.flag F.WRD_PWRSTAT.THROTTLE 0) ∧
      t.flag F.WRD_THSTAT.TRIP 0 = (s.flag F.WRD_THSTAT.TRIP 0 || (hot && s.kp.hot)) ∧
      (hot = true → s.kp.hot = true → s.flag F.WRD_THSTAT.TRIP 0 = false →
        (∀ d : Fin 60, domOn t d = false) ∧ t.pwr.ramping = [] ∧ t.pwr.rampQ = [] ∧
        (440 : Int) ≤ (temps.getD (t.rd F.WRD_THSTAT.SENSOR 0) 0).toInt) ∧
      (∀ k : Nat, k < 16 → warn ≤ (temps.getD k 0).toInt → t.flag F.WRD_THSTAT.ALERT 0 = true) ∧
      ((∀ k : Nat, k < 16 → (temps.getD k 0).toInt < warn ∧ (temps.getD k 0).toInt ≤ warn - 12) → t.flag F.WRD_THSTAT.ALERT 0 = false)) ∧
  (∀ (s : State) (w : BitVec 12) (k plim : Nat), k = s.rd F.WRD_PWRSTAT.THROTTLE 0 → plim = 4 * s.rd F.WRD_PWR.PLIM 0 →
    Completes (.powerAverage w) s fun t =>
      t.rd F.WRD_PWRSTAT.WATTS 0 = w.toNat ∧
      t.rd F.WRD_PWRSTAT.THROTTLE 0 =
        (if plim < w.toNat then (if k < 12 then k + 1 else k) else if 100 * w.toNat < 95 * plim then k - 1 else k) ∧
      t.flag F.WRD_PWRSTAT.OVER 0 = (s.flag F.WRD_PWRSTAT.OVER 0 || (decide (plim < w.toNat) && decide (12 ≤ k))) ∧
      t.kp.alertLow = (s.flag F.WRD_THSTAT.ALERT 0 || t.flag F.WRD_PWRSTAT.THROTTLE 0)) ∧
  (∀ (s : State) (e : Fin 512) (d n : Nat), d = divNow s (.eck (Fin.ofNat 4 (e.val / 128))) → 0 < d → n = nextEck s e →
    d ∣ n ∧ sget 0 s.clk.eckAt e < n ∧ s.clk.rootEdges ≤ n ∧ s.rd F.WRD_PWRSTAT.THROTTLE 0 ≤ n / d % 16)

/-! ### The Sherex interface (chapter 15) -/

/-- The mailboxes (R387–R389, R391–R393, R400–R405): ring, take, DONE and ACK move a mailbox round; a taken command is checked in order, by its
form, its AUTH flag, the throttle, its key, CHECK and COUNTER; DONE brings what the command made due then. The model's own choices in it: log
entries 24, 128. -/
def Obligations.MailboxesCarryCommands : Prop :=
  (∀ (s : State) (n : Fin 16) (m : Fin 2), headExists s n = true → mbState s n m = 0 → Completes (.ring n m) s fun t =>
    mbState t n m = 1 ∧ t.rd F.SHX_MB_STAMP.VALUE (mbx n m) = s.stamp % 2 ^ 32 ∧ (t.src (32 + n)).st = raisedState s (32 + n)) ∧
  (∀ (s : State) (n : Fin 16) (m : Fin 2), headExists s n = true → mbState s n m ≠ 0 → Completes (.ring n m) s fun t =>
    mbState t n m = mbState s n m ∧ t.flag F.SHX_MB_STAT.OVR (mbx n m) = true ∧ t.evc = s.evc) ∧
  (∀ (s : State) (n : Fin 16) (m : Fin 2), headExists s n = true → Completes (.mailboxAck n m) s fun t =>
    if mbState s n m = 3 then mbState t n m = 0
    else mbState t n m = mbState s n m ∧ t.flag F.SHX_MB_STAT.OVR (mbx n m) = true) ∧
  (∀ (s : State) (n : Fin 16) (m : Fin 2) (c : List Byte), takesNext s n m = true → c = cmdBytes s n m → Completes (.take n m) s fun t =>
    mbState t n m = 2 ∧
    (bytesAt c 3 1 ≠ 1 → Answered s t n m 0x13 0 0 0 []) ∧
    (bytesAt c 3 1 = 1 → shxFields (bytesAt c 0 2) (c.drop 0x30) = none → Answered s t n m 0x10 0 0 0 []) ∧
    (∀ st : Nat, formStatus s n m = some st → Answered s t n m st 0 0 0 []) ∧
    (formStatus s n m = none → cmdAuth s n m = false →
      if bytesAt c 0 2 ∈ shxCritical then Answered s t n m 0x20 0 0 0 []
      else mbTaken t n m = some ⟨.ready, none, false⟩ ∧ ∀ k : Nat, t.reg .SHX_MB_RSP k = s.reg .SHX_MB_RSP k) ∧
    (formStatus s n m = none → cmdAuth s n m = true → authHeld s n = true → mbTaken t n m = some ⟨.held, none, false⟩) ∧
    (formStatus s n m = none → cmdAuth s n m = true → authHeld s n = false → cmdKey s n = none → Answered s t n m 0x23 0 0 0 [])) ∧
  (∀ (s : State) (n : Fin 16) (m : Fin 2) (key : List Byte) (cnt : Nat), takesNext s n m = true → formStatus s n m = none →
      cmdAuth s n m = true → authHeld s n = false → cmdKey s n = some key → cnt = cmdCounter s n m → Completes (.take n m) s fun t =>
    if checkMatches s n m key = false then
      Answered s t n m 0x21 0 0 0 [] ∧ sget 0 t.shx.fails n = sget 0 s.shx.fails n + 1 ∧ sget 0 t.shx.failAt n = s.stamp ∧
      ctrNext t n = ctrNext s n
    else sget 0 t.shx.fails n = 0 ∧ t.flag F.SHX_HSTAT.THROTTLED n = false ∧
      if cnt < ctrNext s n ∨ 0xFFFFFFFFFFFF0000 ≤ cnt then Answered s t n m 0x22 0 0 0 [] ∧ ctrNext t n = ctrNext s n
      else if ctrFloor s n ≤ cnt then mbTaken t n m = some ⟨.floor, none, false⟩ ∧ ctrNext t n = ctrNext s n
      else mbTaken t n m = some ⟨.ready, none, false⟩ ∧ ctrNext t n = cnt + 1) ∧
  (∀ (s : State) (n : Fin 16) (m : Fin 2), mbState s n m = 2 → Completes (.mailboxDone n m) s fun t =>
    mbState t n m = (if s.flag F.SHX_MB_STAT.ORPHAN (mbx n m) then 0 else 3) ∧ t.flag F.SHX_MB_STAT.ORPHAN (mbx n m) = false ∧
    mbTaken t n m = none ∧
    (s.flag F.SHX_CR_CTL.MBV_EN n = true → s.flag F.SHX_MB_STAT.ORPHAN (mbx n m) = false →
      (t.src (112 + n)).st = raisedState s (112 + n)) ∧
    (∀ (p : MbPhase) (o : Nat) (r : Bool), mbTaken s n m = some ⟨p, some o, r⟩ → o < 16 → deviceOwner t = o) ∧
    (∀ (p : MbPhase) (o : Option Nat), mbTaken s n m = some ⟨p, o, true⟩ → t.shx.resetAt = some (s.dtcNow + 10000000))) ∧
  (∀ (s : State) (n : Fin 16) (m : Fin 2) (ok : Bool), (mbTaken s n m).map (·.phase) = some .floor →
    Completes (.counterFloorWrite n m ok) s fun t =>
      if ok then (mbTaken t n m).map (·.phase) = some .ready ∧ ctrFloor t n = cmdCounter s n m / 2 ^ 16 * 2 ^ 16 + 2 ^ 16 ∧
        ctrNext t n = (cmdCounter s n m + 1) % 2 ^ 64
      else Answered s t n m 0x41 0 0 0 [] ∧ ctrNext t n = ctrNext s n ∧ ctrFloor t n = ctrFloor s n) ∧
  (∀ (s : State) (n : Fin 16) (m : Fin 2), (mbTaken s n m).map (·.phase) = some .held →
      ¬((mbTaken s n (1 - m.val)).map (·.phase) = some .held ∧ rungBefore s n (1 - m.val) n m = true) → authHeld s n = false →
    Completes (.authHoldExpiry n m) s fun t =>
      match cmdKey s n with
      | none => Answered s t n m 0x23 0 0 0 []
      | some key =>
        if checkMatches s n m key = false then Answered s t n m 0x21 0 0 0 [] ∧ sget 0 t.shx.fails n = sget 0 s.shx.fails n + 1
        else sget 0 t.shx.fails n = 0 ∧ (mbTaken t n m).map (·.phase) ≠ some .held)

/-- Sherex commands that only tell or route (R391, R394, R399, R406, R417): each answers OK with its data and changes nothing else, or refuses
with its own STATUS; CANCEL ends a queued operation with a CANCELLED record; LINK_STATS clears what it reads. The model's own choices in it: log
entries 25, 120 to 124, 138. -/
def Obligations.SherexTellsAndRoutes : Prop :=
  (∀ (s : State) (n : Fin 16) (m : Fin 2) (p : List Byte), shxReady s n m 0x0000 = true → p = cmdPayload s n m →
    Completes (.sherexNop n m) s fun t => Answered s t n m 0 0 0 0 [] ∧ OnlyAnswers s t) ∧
  (∀ (s : State) (n : Fin 16) (m : Fin 2) (p : List Byte), shxReady s n m 0x0001 = true → p = cmdPayload s n m →
    Completes (.getInfo n m) s fun t => OnlyAnswers s t ∧ Answered s t n m 0 0 0 0
      (natBytes 4 (s.reg .CFG_IDENT 0).toNat ++ natBytes 4 cfgRevView.toNat ++ natBytes 4 Config.firmwareVersion.toNat ++
        natBytes 1 (s.rd F.CFG_PINS.DONE 0) ++ natBytes 1 (s.rd F.COH_HEAD.TYPE n) ++ natBytes 1 (deviceOwner s))) ∧
  (∀ (s : State) (n : Fin 16) (m : Fin 2) (p : List Byte), shxReady s n m 0x0002 = true → p = cmdPayload s n m →
    Completes (.getResources n m) s fun t => OnlyAnswers s t ∧ Answered s t n m 0 0 0 0
      (natBytes 8 (maskOf 64 (fun r => s.rd F.CFG_RGN_CFG.OWNER r == n.val)) ++
        natBytes 8 (maskOf 64 (fun k => s.flag F.TMB_SET_CFG.VALID k && s.rd F.TMB_SET_CFG.TENANT k == n.val)) ++
        natBytes 2 (maskOf 16 (fun w => s.flag F.TMB_TW_CFG.EN w &&
          s.rd F.TMB_SET_CFG.TENANT (s.rd F.TMB_TW_CFG.SET w) == n.val)) ++
        natBytes 4 (s.coh.pt.filter (fun e => e.2.mode != 0 && nbit e.2.acc n)).length)) ∧
  (∀ (s : State) (n : Fin 16) (m : Fin 2) (p : List Byte) (l : List (Nat × PtEntry)), shxReady s n m 0x0003 = true → p = cmdPayload s n m →
      l = ((s.coh.pt.filter (fun e => e.2.mode != 0 && nbit e.2.acc n)).filter (fun e => decide (bytesAt p 0 4 ≤ e.1))).take 24 →
    Completes (.getExtents n m) s fun t => OnlyAnswers s t ∧ Answered s t n m 0 0 0 0 (natBytes 4 l.length ++
      l.flatMap (fun e => natBytes 4 e.1 ++ natBytes 1 e.2.mode ++ natBytes 1 0 ++ natBytes 2 e.2.acc))) ∧
  (∀ (s : State) (n : Fin 16) (m : Fin 2) (p : List Byte), shxReady s n m 0x0004 = true → p = cmdPayload s n m →
    Completes (.handleStatus n m) s fun t => 
      if handleState s n (bytesAt p 0 4) = 0 then Refuses s t n m 0x34
      else Answered s t n m 0 0 0 0 (natBytes 4 (handleState s n (bytesAt p 0 4))) ∧ OnlyAnswers s t) ∧
  (∀ (s : State) (n : Fin 16) (m : Fin 2) (p : List Byte) (h : Nat), shxReady s n m 0x0400 = true → p = cmdPayload s n m → h = bytesAt p 0 4 →
    Completes (.cancel n m) s fun t => 
      if handleState s n h = 0 then Refuses s t n m 0x34
      else if handleState s n h = 1 then
        Answered s t n m 0 0 0 0 [] ∧ (∀ o ∈ t.shx.ops, o.handle ≠ h) ∧ ∃ r ∈ t.shx.held, r.handle = h ∧ r.status = 3
      else Refuses s t n m 0x32) ∧
  (∀ (s : State) (n : Fin 16) (m : Fin 2) (p : List Byte) (k : Nat), shxReady s n m 0x0401 = true → p = cmdPayload s n m → k = bytesAt p 0 2 →
      bytesAt p 2 1 ≤ 31 → bytesAt p 3 1 ≤ 1 →
    Completes (.evtRoute n m) s fun t => 
      if tenantRowAdmits s k n (bytesAt p 2 1) = true then
        Answered s t n m 0 0 0 0 [] ∧ t.rd F.EVC_SRC.TKIND k = 1 ∧ t.rd F.EVC_SRC.TENANT k = n.val ∧
        t.rd F.EVC_SRC.VECTOR k = bytesAt p 2 1 ∧ t.rd F.EVC_SRC.EN k = bytesAt p 3 1
      else Refuses s t n m 0x25) ∧
  (∀ (s : State) (n : Fin 16) (m : Fin 2) (p : List Byte), shxReady s n m 0x0402 = true → p = cmdPayload s n m →
    Completes (.wakeCtl n m) s fun t => Answered s t n m 0 0 0 0 [] ∧ t.rd F.EVC_TCH.WAKEEN n = bytesAt p 0 1 % 2 ∧ t.evc = s.evc) ∧
  (∀ (s : State) (n : Fin 16) (m : Fin 2) (p : List Byte), shxReady s n m 0x0704 = true → p = cmdPayload s n m →
    Completes (.sensors n m) s fun t => OnlyAnswers s t ∧ Answered s t n m 0 0 0 0
      ((List.range 16).flatMap (fun k => natBytes 2 (s.reg .WRD_TSENS k).toNat) ++ natBytes 4 (s.reg .WRD_PWRSTAT 0).toNat)) ∧
  (∀ (s : State) (n : Fin 16) (m : Fin 2) (p : List Byte) (regs : List (RegName × Nat)), shxReady s n m 0x0800 = true → p = cmdPayload s n m →
      regs = [(.LNK_HATT, n.val), (.LNK_HREC, n.val), (.LNK_HFEC, n.val), (.LNK_HREPLAY, n.val)] ++
        (headLanes s n).map (fun g => (RegName.LNK_LERR, g)) →
    Completes (.linkStats n m) s fun t => 
      Answered s t n m 0 0 0 0 (regs.flatMap (fun r => natBytes 4 (s.reg r.1 r.2).toNat)) ∧ ∀ r ∈ regs, t.reg r.1 r.2 = 0)

/-- Sherex commands that act at once (R379, R392, R399, R404, R405, R406): only the device owner, or the owner of the object, is served; a state
that the command does not fit is refused; otherwise ranges, regions, sets, windows, keys, pins and resets follow the payload. The model's own
choices in it: log entries 120 to 124, 134, 135, 137, 141. -/
def Obligations.SherexActsAtOnce : Prop :=
  (∀ (s : State) (n : Fin 16) (m : Fin 2) (x : Nat × Instr), x ∈ [(0x0103, Instr.xlatSet n m), (0x0200, .rgnAssign n m), (0x0300, .setCreate n m),
      (0x0302, .setDelete n m), (0x0307, .winBind n m), (0x0308, .winUnbind n m), (0x0505, .deviceReset n m), (0x0600, .keyInstallOwner n m),
      (0x0601, .keySet n m), (0x0603, .keyErase n m), (0x0606, .ownerChange n m), (0x0700, .pinGrant n m)] → shxReady s n m x.1 = true →
      deviceOwner s ≠ n.val → Completes x.2 s fun t => Refuses s t n m 0x24) ∧
  (∀ (s : State) (n : Fin 16) (m : Fin 2) (p : List Byte) (k : Nat), shxReady s n m 0x0103 = true → p = cmdPayload s n m → deviceOwner s = n.val →
      bytesAt p 0 1 < 16 → k = 256 * bytesAt p 0 1 + bytesAt p 1 1 → bytesAt p 2 1 ≤ 1 →
    Completes (.xlatSet n m) s fun t => 
      Answered s t n m 0 0 0 0 [] ∧ (∀ j : Nat, j ≠ k → sget XRange.none t.coh.xlat j = sget XRange.none s.coh.xlat j) ∧
      sget XRange.none t.coh.xlat k = ⟨bytesAt p 2 1 == 1, bytesAt p 4 2 % 2 ^ F.COH_XM_DATA0.DPA_BASE.width,
        bytesAt p 8 4 % 2 ^ F.COH_XM_DATA1.DA_BASE.width, bytesAt p 12 2 % 2 ^ F.COH_XM_DATA2.COUNT.width⟩) ∧
  (∀ (s : State) (n : Fin 16) (m : Fin 2) (p : List Byte) (r o : Nat), shxReady s n m 0x0200 = true → p = cmdPayload s n m →
      deviceOwner s = n.val → r = bytesAt p 0 1 → r < 64 → objBusy s (.region r) = false → o = bytesAt p 1 1 →
      o = 31 ∨ (o < 16 ∧ headExists s o = true) →
    Completes (.rgnAssign n m) s fun t => 
      if s.rd F.CFG_RGN_CFG.STATE r = 1 ∧ (s.flag F.CFG_RGN_CFG.STATIC r = false ∨ o = s.rd F.CFG_RGN_CFG.OWNER r) then
        Answered s t n m 0 0 0 0 [] ∧ t.rd F.CFG_RGN_CFG.OWNER r = o ∧ ∀ k : Nat, k ≠ r → t.reg .CFG_RGN_CFG k = s.reg .CFG_RGN_CFG k
      else if s.rd F.CFG_RGN_CFG.STATE r = 1 then Answered s t n m 0x40 0 0 0 [] ∧ t.flag F.CFG_RGN_CFG.REJECT r = true
      else Refuses s t n m 0x32) ∧
  (∀ (s : State) (n : Fin 16) (m : Fin 2) (p : List Byte) (r : Nat) (l : Fin 4), shxReady s n m 0x0203 = true → p = cmdPayload s n m →
      r = bytesAt p 0 1 → l.val = s.rd F.CFG_RGN_CFG.LEAF r → s.mnt.trst = [] →
    Completes (.rgnAbort n m) s fun t => 
      if s.rd F.CFG_RGN_CFG.OWNER r ≠ n.val then Refuses s t n m 0x25
      else if (s.loader l).op ≠ 1 ∨ opRegion s l ≠ r then Refuses s t n m 0x32
      else if 1 ≤ ldPhase s l ∧ ldPhase s l ≤ 4 then
        Answered s t n m 0 0 0 0 [] ∧ t.rd F.CFG_LDERR.CODE l = 16 ∧ ldPhase t l = 0 ∧ (t.loader l).op = 0
      else Answered s t n m 0x40 3 0 3 [] ∧ t.cfg = s.cfg) ∧
  (∀ (s : State) (n : Fin 16) (m : Fin 2) (p : List Byte) (r : Nat), shxReady s n m 0x0204 = true → p = cmdPayload s n m → r = bytesAt p 0 1 →
    Completes (.rgnStatus n m) s fun t => 
      if s.rd F.CFG_RGN_CFG.OWNER r ≠ n.val ∧ n.val ≠ deviceOwner s then Refuses s t n m 0x25
      else OnlyAnswers s t ∧ Answered s t n m 0 0 0 0 ([s.reg .CFG_RGN_CFG r, s.reg .CFG_RGN_MASK0 r, s.reg .CFG_RGN_MASK1 r,
        s.reg .CFG_RGN_MASK2 r, s.reg .CFG_LDERR (s.rd F.CFG_RGN_CFG.LEAF r)].flatMap (fun w => natBytes 4 w.toNat))) ∧
  (∀ (s : State) (n : Fin 16) (m : Fin 2) (p : List Byte) (k : Nat), shxReady s n m 0x0300 = true → p = cmdPayload s n m → deviceOwner s = n.val →
      k = bytesAt p 0 1 → bytesAt p 1 1 < 16 → bytesAt p 2 1 ≤ 1 → objBusy s (.set k) = false → tmbMembers s k = [] → jobRuns s k = false →
    Completes (.setCreate n m) s fun t => 
      if s.flag F.TMB_SET_CFG.VALID k = true then Refuses s t n m 0x32
      else Answered s t n m 0 0 0 0 [] ∧ t.flag F.TMB_SET_CFG.VALID k = true ∧ t.rd F.TMB_SET_CFG.TENANT k = bytesAt p 1 1 ∧
        t.rd F.TMB_SET_CFG.WINDOW k = bytesAt p 2 1) ∧
  (∀ (s : State) (n : Fin 16) (m : Fin 2) (p : List Byte) (k : Nat), shxReady s n m 0x0302 = true → p = cmdPayload s n m → deviceOwner s = n.val →
      k = bytesAt p 0 1 → objBusy s (.set k) = false →
    Completes (.setDelete n m) s fun t => 
      if s.flag F.TMB_SET_CFG.VALID k = true ∧ tmbMembers s k = [] then
        Answered s t n m 0 0 0 0 [] ∧ t.flag F.TMB_SET_CFG.VALID k = false
      else Refuses s t n m 0x32) ∧
  (∀ (s : State) (n : Fin 16) (m : Fin 2) (p : List Byte) (k : Nat), shxReady s n m 0x0305 = true → p = cmdPayload s n m → k = bytesAt p 0 1 →
      k < 64 →
    Completes (.jobStop n m) s fun t => 
      if ownsSet s n k = false then Refuses s t n m 0x25
      else if jobRuns s k = false then Answered s t n m 0 0 0 0 [] ∧ OnlyAnswers s t
      else Answered s t n m 0 0 0 0 [] ∧ ∀ i : Nat, t.reg .TMB_SET_JSTAT i = (endStopping k 4 s).reg .TMB_SET_JSTAT i) ∧
  (∀ (s : State) (n : Fin 16) (m : Fin 2) (p : List Byte) (k : Nat), shxReady s n m 0x0306 = true → p = cmdPayload s n m → k = bytesAt p 0 1 →
      objBusy s (.set k) = false →
    Completes (.setDoorbell n m) s fun t => 
      if ownsSet s n k = false then Refuses s t n m 0x25
      else if s.flag F.TMB_SET_CFG.WINDOW k = true then Answered s t n m 0 0 0 0 [] ∧ OnlyAnswers s t
      else Answered s t n m 0 0 0 0 [] ∧ ∀ e : Fin 512, t.eng e =
        if engineSet s e = some k ∧ s.flag F.TMB_STAT.RETIRED e = false then keeperBell (s.eng e) else s.eng e) ∧
  (∀ (s : State) (n : Fin 16) (m : Fin 2) (p : List Byte) (w b : Nat), shxReady s n m 0x0307 = true → p = cmdPayload s n m →
      deviceOwner s = n.val → w = bytesAt p 0 1 → w < 16 → b = bytesAt p 8 8 → s.flag F.TMB_TW_CFG.EN w = false → bytesAt p 1 1 < 64 →
      bytesAt p 2 1 < 64 →
    Completes (.winBind n m) s fun t => 
      t.rd F.TMB_TW_BASE_LO.BASE w = b / 4096 % 2 ^ F.TMB_TW_BASE_LO.BASE.width ∧
      t.rd F.TMB_TW_BASE_HI.BASE w = b / 2 ^ 32 % 2 ^ F.TMB_TW_BASE_HI.BASE.width ∧ t.rd F.TMB_TW_BOUND.BOUND w = bytesAt p 4 2 ∧
      t.rd F.TMB_TW_CFG.SET w = bytesAt p 1 1 ∧ t.rd F.TMB_TW_CFG.SIZE w = bytesAt p 2 1 ∧
      if windowOk t w = true then Answered s t n m 0 0 0 0 [] ∧ t.flag F.TMB_TW_CFG.EN w = true
      else Answered s t n m 0x40 0 0 0 [] ∧ t.flag F.TMB_TW_CFG.EN w = false ∧ t.flag F.TMB_TW_CFG.REJECT w = true) ∧
  (∀ (s : State) (n : Fin 16) (m : Fin 2) (p : List Byte) (w : Nat), shxReady s n m 0x0308 = true → p = cmdPayload s n m → deviceOwner s = n.val →
      w = bytesAt p 0 1 → w < 16 →
    Completes (.winUnbind n m) s fun t => Answered s t n m 0 0 0 0 [] ∧ t.flag F.TMB_TW_CFG.EN w = false) ∧
  (∀ (s : State) (n : Fin 16) (m : Fin 2) (p : List Byte) (k : Nat), shxReady s n m 0x0504 = true → p = cmdPayload s n m → k = bytesAt p 0 1 →
      k < 16 → k = n.val ∨ n.val = deviceOwner s →
    Completes (.tenantReset n m) s fun t => 
      if s.flag F.PWR_TRST_STAT.BUSY 0 = true then Refuses s t n m 0x32
      else Answered s t n m 0 0 0 0 [] ∧ t.flag F.PWR_TRST_STAT.BUSY 0 = true ∧ t.rd F.PWR_TRST_STAT.TENANT 0 = k) ∧
  (∀ (s : State) (n : Fin 16) (m : Fin 2) (p : List Byte), shxReady s n m 0x0505 = true → p = cmdPayload s n m → deviceOwner s = n.val →
    Completes (.deviceReset n m) s fun t => Answered s t n m 0 0 0 0 [] ∧ mbTaken t n m = some ⟨.answered, none, true⟩ ∧ OnlyAnswers s t) ∧
  (∀ (s : State) (n : Fin 16) (m : Fin 2) (p : List Byte) (k : Nat), shxReady s n m 0x0606 = true → p = cmdPayload s n m → deviceOwner s = n.val →
      k = bytesAt p 0 1 →
    Completes (.ownerChange n m) s fun t => 
      if cmdKey s k = none then Refuses s t n m 0x32
      else Answered s t n m 0 0 0 0 [] ∧ mbTaken t n m = some ⟨.answered, some k, false⟩ ∧ OnlyAnswers s t) ∧
  (∀ (s : State) (n : Fin 16) (m : Fin 2) (p : List Byte), shxReady s n m 0x0600 = true → p = cmdPayload s n m → deviceOwner s = n.val →
    Completes (.keyInstallOwner n m) s fun t => 
      if cmdKey s n = none then Answered s t n m 0 0 0 0 [] ∧ cmdKey t n = some p ∧ t.flag F.SHX_HSTAT.KEY n = true
      else Refuses s t n m 0x32) ∧
  (∀ (s : State) (n : Fin 16) (m : Fin 2) (p : List Byte) (k : Nat), shxReady s n m 0x0601 = true → p = cmdPayload s n m → deviceOwner s = n.val →
      k = bytesAt p 0 1 →
    Completes (.keySet n m) s fun t => 
      if cmdKey s k ≠ none then Refuses s t n m 0x32
      else match unwrapped s n (p.drop 8) with
        | none => Refuses s t n m 0x12
        | some key => Answered s t n m 0 0 0 0 [] ∧ cmdKey t k = some key ∧ t.flag F.SHX_HSTAT.KEY k = true) ∧
  (∀ (s : State) (n : Fin 16) (m : Fin 2) (p : List Byte), shxReady s n m 0x0602 = true → p = cmdPayload s n m →
    Completes (.keyReplace n m) s fun t => 
      match unwrapped s n p with
      | none => Refuses s t n m 0x12
      | some key => Answered s t n m 0 0 0 0 [] ∧ cmdKey t n = some key ∧ ∀ k : Nat, k ≠ n.val → cmdKey t k = cmdKey s k) ∧
  (∀ (s : State) (n : Fin 16) (m : Fin 2) (p : List Byte) (k : Nat), shxReady s n m 0x0603 = true → p = cmdPayload s n m → deviceOwner s = n.val →
      k = bytesAt p 0 1 →
    Completes (.keyErase n m) s fun t => Answered s t n m 0 0 0 0 [] ∧ cmdKey t k = none ∧ t.flag F.SHX_HSTAT.KEY k = false) ∧
  (∀ (s : State) (n : Fin 16) (m : Fin 2) (p : List Byte), shxReady s n m 0x0604 = true → p = cmdPayload s n m →
    Completes (.imgkeyHash n m) s fun t => 
      if tkhLocked s n = true then Refuses s t n m 0x30
      else Answered s t n m 0 0 0 0 [] ∧ (∀ k : Fin 12, t.reg .CFG_TKH (12 * n.val + k) = BitVec.ofNat 32 (bytesAt p (4 * k) 4)) ∧
        ∀ i : Nat, i / 12 ≠ n.val → t.reg .CFG_TKH i = s.reg .CFG_TKH i) ∧
  (∀ (s : State) (n : Fin 16) (m : Fin 2) (p : List Byte), shxReady s n m 0x0605 = true → p = cmdPayload s n m →
    Completes (.imgkeyDec n m) s fun t => 
      match unwrapped s n p with
      | none => Refuses s t n m 0x12
      | some key => Answered s t n m 0 0 0 0 [] ∧
        ∀ k : Fin 8, sget 0 t.cfg.tek (8 * n.val + k) = BitVec.ofNat 32 (bytesAt key (4 * k) 4)) ∧
  (∀ (s : State) (n : Fin 16) (m : Fin 2) (p : List Byte) (i : Nat), shxReady s n m 0x0700 = true → p = cmdPayload s n m → deviceOwner s = n.val →
      i = bytesAt p 0 1 →
    Completes (.pinGrant n m) s fun t => 
      if pinOwner s i = 5 then Refuses s t n m 0x32
      else Answered s t n m 0 0 0 0 [] ∧ pinReaders t i = bytesAt p 2 2 ∧ pinWriters t i = bytesAt p 4 2) ∧
  (∀ (s : State) (n : Fin 16) (m : Fin 2) (p : List Byte) (i : Nat), shxReady s n m 0x0701 = true → p = cmdPayload s n m → i = bytesAt p 0 1 →
    Completes (.pinRead n m) s fun t => 
      if nbit (pinReaders s i) n = false then Refuses s t n m 0x25
      else if pinOwner s i = 5 then Refuses s t n m 0x32
      else Answered s t n m 0 0 0 0 (natBytes 1 (b2n (padLevel s i))) ∧ OnlyAnswers s t) ∧
  (∀ (s : State) (n : Fin 16) (m : Fin 2) (p : List Byte) (i : Nat), shxReady s n m 0x0702 = true → p = cmdPayload s n m → i = bytesAt p 0 1 →
    Completes (.pinWrite n m) s fun t => 
      if nbit (pinWriters s i) n = false then Refuses s t n m 0x25
      else if pinOwner s i = 5 ∨ mappedOuts s i ≠ [] then Refuses s t n m 0x32
      else Answered s t n m 0 0 0 0 [] ∧ t.rd F.MGP_PIN.OUT i = bytesAt p 1 1 % 2 ∧ t.flag F.MGP_PIN.OE i = true ∧ LinesSaw s t ∧
        ∀ j : Nat, j ≠ i → t.reg .MGP_PIN j = s.reg .MGP_PIN j)

/-- The long commands that pass their checks (R394, R395, R399, R400, R406, R407): the operation takes the next handle and starts at once, or is
QUEUED behind a conflicting activity of the arbiter; its start is refused by the hardware, goes on, or is over. The model's own choices in it:
log entries 120, 125, 126, 139. -/
def Obligations.LongCommandsStartOrQueue : Prop :=
  (∀ (s : State) (n : Fin 16) (m : Fin 2) (p : List Byte) (objs : List ShxObj) (o : ShxOp),
      shxReady s n m 0x0100 = true → p = cmdPayload s n m → deviceOwner s = n.val → objs = [.extent (bytesAt p 0 4)] →
      objs.any (objBusy s) = false → outstanding s n < 256 →
      o = newOp s n m 0x0100 objs none none [] → Completes (.extAssign n m) s fun t =>
    StartAnswer s n m o (opStart o (issueHandle n s).2) t) ∧
  (∀ (s : State) (n : Fin 16) (m : Fin 2) (p : List Byte) (objs : List ShxObj) (o : ShxOp),
      shxReady s n m 0x0101 = true → p = cmdPayload s n m → deviceOwner s = n.val → objs = [.extent (bytesAt p 0 4)] →
      objs.any (objBusy s) = false → outstanding s n < 256 →
      o = newOp s n m 0x0101 objs none none [] → Completes (.extNarrow n m) s fun t =>
    StartAnswer s n m o (opStart o (issueHandle n s).2) t) ∧
  (∀ (s : State) (n : Fin 16) (m : Fin 2) (p : List Byte) (objs : List ShxObj) (o : ShxOp),
      shxReady s n m 0x0102 = true → p = cmdPayload s n m → deviceOwner s = n.val → objs = [.extent (bytesAt p 0 4)] →
      objs.any (objBusy s) = false → outstanding s n < 256 →
      o = newOp s n m 0x0102 objs none none [] → Completes (.extRelease n m) s fun t =>
    StartAnswer s n m o (opStart o (issueHandle n s).2) t) ∧
  (∀ (s : State) (n : Fin 16) (m : Fin 2) (p : List Byte) (objs : List ShxObj) (o : ShxOp) (tk : Option Nat) (g : Bool) (u : State),
      shxReady s n m 0x0201 = true → p = cmdPayload s n m → s.rd F.CFG_RGN_CFG.OWNER (bytesAt p 0 1) = n.val → s.flag F.CFG_PINS.DONE 0 = true →
      (if bytesAt p 1 1 = 1 then s.shx.kept.getLsbD (bytesAt p 0 1) else !(noWindow s n (bytesAt p 8 8) (bytesAt p 16 8) false).1) = true →
      objs = [.region (bytesAt p 0 1)] → objs.any (objBusy s) = false → outstanding s n < 256 →
      askArbiter 5 (s.rd F.CFG_RGN_CFG.LEAF (bytesAt p 0 1)) (issueHandle n s).2 = (tk, g, u) →
      o = newOp s n m 0x0201 objs (some (5, s.rd F.CFG_RGN_CFG.LEAF (bytesAt p 0 1))) tk [] →
    Completes (.rgnLoad n m) s fun t =>
      if g then StartAnswer s n m o (opStart o u) t
      else Answered s t n m 2 0 o.handle 0 [] ∧ t.shx.ops = s.shx.ops ++ [o] ∧ t.cfg = s.cfg ∧ t.tmb = s.tmb ∧ t.lnk = s.lnk) ∧
  (∀ (s : State) (n : Fin 16) (m : Fin 2) (p : List Byte) (objs : List ShxObj) (o : ShxOp) (tk : Option Nat) (g : Bool) (u : State),
      shxReady s n m 0x0202 = true → p = cmdPayload s n m → s.rd F.CFG_RGN_CFG.OWNER (bytesAt p 0 1) = n.val ∨ n.val = deviceOwner s →
      objs = [.region (bytesAt p 0 1)] → objs.any (objBusy s) = false → outstanding s n < 256 →
      askArbiter 5 (s.rd F.CFG_RGN_CFG.LEAF (bytesAt p 0 1)) (issueHandle n s).2 = (tk, g, u) →
      o = newOp s n m 0x0202 objs (some (5, s.rd F.CFG_RGN_CFG.LEAF (bytesAt p 0 1))) tk [] →
    Completes (.rgnClear n m) s fun t =>
      if g then StartAnswer s n m o (opStart o u) t
      else Answered s t n m 2 0 o.handle 0 [] ∧ t.shx.ops = s.shx.ops ++ [o] ∧ t.cfg = s.cfg ∧ t.tmb = s.tmb ∧ t.lnk = s.lnk) ∧
  (∀ (s : State) (n : Fin 16) (m : Fin 2) (p : List Byte) (objs : List ShxObj) (o : ShxOp),
      shxReady s n m 0x0205 = true → p = cmdPayload s n m → s.rd F.CFG_RGN_CFG.OWNER (bytesAt p 0 1) = n.val →
      frameRegion s (bytesAt p 4 4) = some (bytesAt p 0 1) → (noWindow s n (bytesAt p 8 8) 576 true).1 = false → objs = [.region (bytesAt p 0 1)] →
      objs.any (objBusy s) = false → outstanding s n < 256 →
      o = newOp s n m 0x0205 objs none none [] → Completes (.rgnReadback n m) s fun t =>
    StartAnswer s n m o (opStart o (issueHandle n s).2) t) ∧
  (∀ (s : State) (n : Fin 16) (m : Fin 2) (p : List Byte) (objs : List ShxObj) (o : ShxOp) (tk : Option Nat) (g : Bool) (u : State),
      shxReady s n m 0x0206 = true → p = cmdPayload s n m → deviceOwner s = n.val → s.flag F.CFG_PINS.DONE 0 = false →
      (noWindow s n (bytesAt p 8 8) (bytesAt p 16 8) false).1 = false → objs = [] → objs.any (objBusy s) = false → outstanding s n < 256 →
      askArbiter 9 (0) (issueHandle n s).2 = (tk, g, u) → o = newOp s n m 0x0206 objs (some (9, 0)) tk [] →
    Completes (.fullLoad n m) s fun t =>
      if g then StartAnswer s n m o (opStart o u) t
      else Answered s t n m 2 0 o.handle 0 [] ∧ t.shx.ops = s.shx.ops ++ [o] ∧ t.cfg = s.cfg ∧ t.tmb = s.tmb ∧ t.lnk = s.lnk) ∧
  (∀ (s : State) (n : Fin 16) (m : Fin 2) (p : List Byte) (objs : List ShxObj) (o : ShxOp),
      shxReady s n m 0x0301 = true → p = cmdPayload s n m → deviceOwner s = n.val →
      (∀ e ∈ enginesArg p, cfgRefused s e (bytesAt p 0 1) (bytesAt p 1 1 == 0) = false) →
      (bytesAt p 1 1 = 0 ∨ ∀ e ∈ enginesArg p, engineSet s e = some (bytesAt p 0 1)) → objs = .set (bytesAt p 0 1) :: (enginesArg p).map .engine →
      objs.any (objBusy s) = false → outstanding s n < 256 →
      o = newOp s n m 0x0301 objs none none [] → Completes (.setMembers n m) s fun t =>
    StartAnswer s n m o (opStart o (issueHandle n s).2) t) ∧
  (∀ (s : State) (n : Fin 16) (m : Fin 2) (p : List Byte) (a b : List Byte) (objs : List ShxObj) (o : ShxOp),
      shxReady s n m 0x0303 = true → p = cmdPayload s n m → ownsSet s n (bytesAt p 0 1) = true →
      (noWindow s n (bytesAt p 8 8) (bytesAt p 16 4) false).1 = false → (noWindow s n (bytesAt p 24 8) (bytesAt p 32 4) false).1 = false →
      objs = [.set (bytesAt p 0 1)] → objs.any (objBusy s) = false → outstanding s n < 256 →
      o = newOp s n m 0x0303 objs none none (fitBytes (bytesAt p 16 4) a ++ fitBytes (bytesAt p 32 4) b) → Completes (.setLoad n m a b) s fun t =>
    StartAnswer s n m o (opStart o (issueHandle n s).2) t) ∧
  (∀ (s : State) (n : Fin 16) (m : Fin 2) (p : List Byte) (objs : List ShxObj) (o : ShxOp),
      shxReady s n m 0x0304 = true → p = cmdPayload s n m → ownsSet s n (bytesAt p 0 1) = true → jobRuns s (bytesAt p 0 1) = false →
      objs = [.set (bytesAt p 0 1)] → objs.any (objBusy s) = false → outstanding s n < 256 →
      o = newOp s n m 0x0304 objs none none [] → Completes (.jobStart n m) s fun t =>
    StartAnswer s n m o (opStart o (issueHandle n s).2) t) ∧
  (∀ (s : State) (n : Fin 16) (m : Fin 2) (p : List Byte) (objs : List ShxObj) (o : ShxOp) (tk : Option Nat) (g : Bool) (u : State),
      shxReady s n m 0x0309 = true → p = cmdPayload s n m → deviceOwner s = n.val → objs = [.engine (bytesAt p 0 2)] →
      objs.any (objBusy s) = false → outstanding s n < 256 →
      askArbiter 7 (bytesAt p 0 2) (issueHandle n s).2 = (tk, g, u) → o = newOp s n m 0x0309 objs (some (7, bytesAt p 0 2)) tk [] →
    Completes (.engTest n m) s fun t =>
      if g then StartAnswer s n m o (opStart o u) t
      else Answered s t n m 2 0 o.handle 0 [] ∧ t.shx.ops = s.shx.ops ++ [o] ∧ t.cfg = s.cfg ∧ t.tmb = s.tmb ∧ t.lnk = s.lnk) ∧
  (∀ (s : State) (n : Fin 16) (m : Fin 2) (p : List Byte) (objs : List ShxObj) (o : ShxOp) (tk : Option Nat) (g : Bool) (u : State),
      shxReady s n m 0x0500 = true → p = cmdPayload s n m → objs = [.head n] → objs.any (objBusy s) = false → outstanding s n < 256 →
      askArbiter 6 (n.val) (issueHandle n s).2 = (tk, g, u) → o = newOp s n m 0x0500 objs (some (6, n.val)) tk [] →
    Completes (.laneRestore n m) s fun t =>
      if g then StartAnswer s n m o (opStart o u) t
      else Answered s t n m 2 0 o.handle 0 [] ∧ t.shx.ops = s.shx.ops ++ [o] ∧ t.cfg = s.cfg ∧ t.tmb = s.tmb ∧ t.lnk = s.lnk) ∧
  (∀ (s : State) (n : Fin 16) (m : Fin 2) (p : List Byte) (objs : List ShxObj) (o : ShxOp) (tk : Option Nat) (g : Bool) (u : State),
      shxReady s n m 0x0501 = true → p = cmdPayload s n m → headUp s n = true → objs = [.head n] → objs.any (objBusy s) = false →
      outstanding s n < 256 →
      askArbiter 6 (n.val) (issueHandle n s).2 = (tk, g, u) → o = newOp s n m 0x0501 objs (some (6, n.val)) tk [] →
    Completes (.retrain n m) s fun t =>
      if g then StartAnswer s n m o (opStart o u) t
      else Answered s t n m 2 0 o.handle 0 [] ∧ t.shx.ops = s.shx.ops ++ [o] ∧ t.cfg = s.cfg ∧ t.tmb = s.tmb ∧ t.lnk = s.lnk) ∧
  (∀ (s : State) (n : Fin 16) (m : Fin 2) (p : List Byte) (objs : List ShxObj) (o : ShxOp),
      shxReady s n m 0x0502 = true → p = cmdPayload s n m → deviceOwner s = n.val → objs = [.pass (bytesAt p 0 1) (bytesAt p 1 1)] →
      objs.any (objBusy s) = false → outstanding s n < 256 →
      o = newOp s n m 0x0502 objs none none [] → Completes (.scrubPass n m) s fun t =>
    StartAnswer s n m o (opStart o (issueHandle n s).2) t) ∧
  (∀ (s : State) (n : Fin 16) (m : Fin 2) (p : List Byte) (objs : List ShxObj) (o : ShxOp) (tk : Option Nat) (g : Bool) (u : State),
      shxReady s n m 0x0503 = true → p = cmdPayload s n m → deviceOwner s = n.val →
      objs = ((List.range 12).filter (fun c => nbit (bytesAt p 0 2) c)).map .channel → objs.any (objBusy s) = false → outstanding s n < 256 →
      askArbiter 4 (bytesAt p 0 2) (issueHandle n s).2 = (tk, g, u) → o = newOp s n m 0x0503 objs (some (4, bytesAt p 0 2)) tk [] →
    Completes (.dramRate n m) s fun t =>
      if g then StartAnswer s n m o (opStart o u) t
      else Answered s t n m 2 0 o.handle 0 [] ∧ t.shx.ops = s.shx.ops ++ [o] ∧ t.cfg = s.cfg ∧ t.tmb = s.tmb ∧ t.lnk = s.lnk) ∧
  (∀ (s : State) (n : Fin 16) (m : Fin 2) (p : List Byte) (img : List Byte) (objs : List ShxObj) (o : ShxOp),
      shxReady s n m 0x0607 = true → p = cmdPayload s n m → deviceOwner s = n.val →
      (noWindow s n (bytesAt p 8 8) (bytesAt p 16 8) false).1 = false → objs = [.flash (bytesAt p 0 1) 0] → objs.any (objBusy s) = false →
      outstanding s n < 256 →
      o = newOp s n m 0x0607 objs none none img → Completes (.policyUpdate n m img) s fun t =>
    StartAnswer s n m o (opStart o (issueHandle n s).2) t) ∧
  (∀ (s : State) (n : Fin 16) (m : Fin 2) (p : List Byte) (img : List Byte) (objs : List ShxObj) (o : ShxOp),
      shxReady s n m 0x0608 = true → p = cmdPayload s n m → deviceOwner s = n.val →
      (noWindow s n (bytesAt p 8 8) (bytesAt p 16 8) false).1 = false → objs = [.flash (bytesAt p 0 1) 1] → objs.any (objBusy s) = false →
      outstanding s n < 256 →
      o = newOp s n m 0x0608 objs none none img → Completes (.fwUpdate n m img) s fun t =>
    StartAnswer s n m o (opStart o (issueHandle n s).2) t) ∧
  (∀ (s : State) (n : Fin 16) (m : Fin 2) (p : List Byte) (objs : List ShxObj) (o : ShxOp),
      shxReady s n m 0x0703 = true → p = cmdPayload s n m → busGranted s n p = true → (∀ i ∈ mapPins s (2 * bytesAt p 0 1) 2, pinOwner s i ≠ 5) →
      s.flag F.MGP_I2CCTL.EN (bytesAt p 0 1) = true → (noWindow s n (bytesAt p 8 8) (bytesAt p 3 1) true).1 = false →
      objs = [.bus (bytesAt p 0 1)] → objs.any (objBusy s) = false → outstanding s n < 256 →
      o = newOp s n m 0x0703 objs none none [] → Completes (.i2cXfer n m) s fun t =>
    StartAnswer s n m o (opStart o (issueHandle n s).2) t) ∧
  (∀ (s : State) (n : Fin 16) (m : Fin 2) (p : List Byte) (objs : List ShxObj) (o : ShxOp),
      shxReady s n m 0x0801 = true → p = cmdPayload s n m → objs = [.head n] → objs.any (objBusy s) = false → outstanding s n < 256 →
      o = newOp s n m 0x0801 objs none none [] → Completes (.laneLoopback n m) s fun t =>
    StartAnswer s n m o (opStart o (issueHandle n s).2) t)

/-- The conflicts of long commands, and how their operations go on (R264, R394–R398, R406, R407): BUSY and LIMIT; offers and releases of extents;
a loopback's end; records go to the ring in the tenant's window, and the ring's registers follow the host. The model's own choices in it: log
entries 5, 127, 129, 130. -/
def Obligations.OperationsEndInRecords : Prop :=
  (∀ (s : State) (n : Fin 16) (m : Fin 2) (x : ShxObj × Instr), x ∈ [(ShxObj.head n, Instr.laneLoopback n m), (.head n, .laneRestore n m)] →
      shxReady s n m (if x.2 = .laneRestore n m then 0x0500 else 0x0801) = true → Completes x.2 s fun t =>
    (objBusy s x.1 = true → Refuses s t n m 0x30) ∧
    (objBusy s x.1 = false → 256 ≤ outstanding s n → Refuses s t n m 0x36)) ∧
  (∀ (s : State) (k : Nat) (o : ShxOp), extOp s 0x0100 2 k = some o → s.expired o.at_ 1000000000 = true → acceptedBy s k o.mask = 0 → o.mask ≠ 0 →
      o.ticket = none → s.shx.ops = [o] → s.rd F.COH_PT_STAT.BUSY 0 = 0 → Completes (.extentOfferTimeout k) s fun t =>
    (∀ h ∈ bitsOf o.mask 16, k ∉ sget [] t.coh.offered h) ∧ t.shx.ops = [] ∧
    t.shx.held.dropLast = s.shx.held ∧ t.shx.held.getLast?.map (fun r => (r.handle, r.status)) = some (o.handle, 0x40)) ∧
  (∀ (s : State) (n : Fin 16) (k : Nat) (o : ShxOp), extOp s 0x0102 1 k = some o → nbit o.mask n = true → o.mask ≠ 2 ^ n.val →
      s.shx.ops = [o] → Completes (.extentReleaseResponse n k) s fun t =>
    t.shx.ops = [{ o with mask := nsetBit o.mask n false }] ∧ k ∉ sget [] t.coh.accepted n ∧ t.regs = s.regs) ∧
  (∀ (s : State) (k : Nat) (o : ShxOp), extOp s 0x0102 1 k = some o → o.mask ≠ 0 → s.expired o.at_ (1000000 * o.arg 6 2) = true →
      o.arg 4 1 = 0 → o.ticket = none → s.shx.ops = [o] → Completes (.extentReleaseWaitExpiry k) s fun t =>
    t.shx.ops = [] ∧ t.coh.pt = s.coh.pt ∧
    t.shx.held.dropLast = s.shx.held ∧ t.shx.held.getLast?.map (fun r => (r.handle, r.status)) = some (o.handle, 0x40)) ∧
  (∀ (s : State) (n : Fin 16) (o : ShxOp), s.shx.ops = [o] → o.opcode = 0x0801 → o.started = true → o.tenant = n.val → o.ticket = none →
      s.expired o.at_ (1000000 * o.arg 8 4) = true → Completes (.loopbackTimeExpiry n) s fun t =>
    t.shx.ops = [] ∧ (∀ g ∈ loopLanes s o, t.rd F.LNK_LLB.MODE g = 0 ∧ t.rd F.LNK_LLBERR.COUNT g = 0) ∧
    t.shx.held.dropLast = s.shx.held ∧ t.shx.held.getLast?.map (fun r => (r.handle, r.status, bytesAt r.result 0 1)) =
      some (o.handle, 0, ((loopLanes s o).filter (fun g => s.rd F.LNK_LLBERR.COUNT g != 0)).length % 256)) ∧
  (∀ (s : State) (n : Fin 16) (r : ShxRecord) (x : Nat), s.shx.held.find? (fun r => r.tenant == n.val) = some r → ringRoom s n = true →
      x = (s.rd F.SHX_CR_TAIL.TAIL n + 1) % ringSize s n → x < 2 ^ F.SHX_CR_TAIL.TAIL.width → Completes (.recordWrite n) s fun t =>
      if windowAdmits s n (ringSlot s n) 32 true = true then
        t.out.take (s.out.length + 1) = s.out ++ [.hostData n (ringSlot s n) (recordBytes r (s.rd F.SHX_CR_TAIL.PHASE n))] ∧
        (∀ q ∈ t.shx.held, q.handle ≠ r.handle) ∧ (t.src (96 + n)).st = raisedState s (96 + n) ∧
        (t.rd F.SHX_CR_TAIL.TAIL n = x ∧
          (x ≠ 0 → t.rd F.SHX_CR_TAIL.PHASE n = s.rd F.SHX_CR_TAIL.PHASE n) ∧
          (x = 0 → t.rd F.SHX_CR_TAIL.PHASE n = 1 - s.rd F.SHX_CR_TAIL.PHASE n))
      else t.shx = s.shx ∧ t.out = s.out ∧ t.flag F.SHX_CR_STAT.WERR n = true ∧
        t.rd F.WRD_VIO.COUNT n = min (s.rd F.WRD_VIO.COUNT n + 1) (2 ^ 32 - 1)) ∧
  (∀ (s : State) (n : Fin 16) (v : Word), headExists s n = true → F.SHX_CR_CTL.EN.of v = 1 → Completes (.crEnable n v) s fun t =>
    t.flag F.SHX_CR_CTL.EN n = true ∧ t.rd F.SHX_CR_CTL.MBV_EN n = F.SHX_CR_CTL.MBV_EN.of v ∧
    if s.flag F.SHX_CR_CTL.EN n = true then
      t.rd F.SHX_CR_CTL.SIZE n = s.rd F.SHX_CR_CTL.SIZE n ∧ t.reg .SHX_CR_HEAD n = s.reg .SHX_CR_HEAD n ∧
      t.reg .SHX_CR_TAIL n = s.reg .SHX_CR_TAIL n
    else
      t.rd F.SHX_CR_CTL.SIZE n = (if 4 ≤ F.SHX_CR_CTL.SIZE.of v ∧ F.SHX_CR_CTL.SIZE.of v ≤ 16 then F.SHX_CR_CTL.SIZE.of v
        else s.rd F.SHX_CR_CTL.SIZE n) ∧
      t.rd F.SHX_CR_HEAD.HEAD n = 0 ∧ t.rd F.SHX_CR_TAIL.TAIL n = 0 ∧ t.rd F.SHX_CR_TAIL.PHASE n = 1) ∧
  (∀ (s : State) (n : Fin 16) (v : Word) (h size now tail : Nat), headExists s n = true → h = F.SHX_CR_HEAD.HEAD.of v → size = ringSize s n →
      now = s.rd F.SHX_CR_HEAD.HEAD n → tail = s.rd F.SHX_CR_TAIL.TAIL n → Completes (.crHeadWrite n v) s fun t =>
    if h < size ∧ (h + size - now) % size ≤ (tail + size - now) % size then
      t.rd F.SHX_CR_HEAD.HEAD n = h ∧ t.flag F.SHX_CR_STAT.HERR n = s.flag F.SHX_CR_STAT.HERR n
    else t.rd F.SHX_CR_HEAD.HEAD n = now ∧ t.flag F.SHX_CR_STAT.HERR n = true)

/-! ### Events and watchdogs (chapter 16) -/

/-- The event controller (R412–R416, R419, R420): a raise moves a source on; a claim takes what is offered and starts the group's hold-off; a
completion ends it; offers go to eligible targets only; a window that closes lets its group's sources be offered. The model's own choices in it:
log entries 5, 144. -/
def Obligations.SourcesAreRaisedClaimedAndCompleted : Prop :=
  (∀ (s : State) (n : Fin 1024), Completes (.raise n) s fun t =>
    (t.src n).st = raisedState s n ∧ (∀ k : Nat, k ≠ n.val → t.src k = s.src k) ∧
    ((s.src n).st = .inactive → (t.src n).st = .pending →
      offersHold t ∧ (asyncSource n = false → (t.src n).stamp = s.stamp))) ∧
  (∀ (s : State) (c : Fin 4), peek s c = 0x3FF → Completes (.claim c) s fun t =>
    t.rdata = 0x3FF ∧ t.evc = s.evc ∧ t.regs = s.regs) ∧
  (∀ (s : State) (c : Fin 4) (n g : Nat), n < 1023 → higherOfPair s c = false → sget 0 s.evc.offers c = n + 1 →
      g = s.rd F.EVC_SRC.GROUP n → Completes (.claim c) s fun t =>
    t.rdata = BitVec.ofNat 32 n ∧ (t.src n).st = .active ∧ (t.src n).core = c.val ∧ (∀ k : Nat, k ≠ n → t.src k = s.src k) ∧
    offersHold t ∧
    (s.rd F.EVC_HOLD.HOLD g ≠ 0 → sget 0 t.evc.holdEnd g = s.dtcNow + 250 * s.rd F.EVC_HOLD.HOLD g ∧ t.flag F.EVC_HOLD.OPEN g = true)) ∧
  (∀ (s : State) (c : Fin 4) (v : Word) (n : Nat), n = F.EVC_COMPLETE.SOURCE.of v → higherOfPair s c = false →
    Completes (.complete c v) s fun t =>
      if (s.src n).core = c.val ∧ (s.src n).st = .active then (t.src n).st = .inactive ∧ offersHold t
      else if (s.src n).core = c.val ∧ (s.src n).st = .activePending then (t.src n).st = .pending ∧ offersHold t
      else t.flag F.EVC_STAT.BADCMP 0 = true ∧ t.evc = s.evc) ∧
  (∀ (s : State) (n : Fin 1024) (v : Word), n.val < 96 ∨ 128 ≤ n.val → Completes (.evcSrcWrite n v) s fun t =>
    if F.EVC_SRC.TKIND.of v = 1 ∧ tenantRowAdmits s n (F.EVC_SRC.TENANT.of v) (F.EVC_SRC.VECTOR.of v) = false then
      t.flag F.EVC_STAT.REJECT 0 = true ∧ t.reg .EVC_SRC n = s.reg .EVC_SRC n ∧ t.evc = s.evc
    else
      t.rd F.EVC_SRC.TKIND n = F.EVC_SRC.TKIND.of v ∧ t.rd F.EVC_SRC.TENANT n = F.EVC_SRC.TENANT.of v ∧
      t.rd F.EVC_SRC.VECTOR n = F.EVC_SRC.VECTOR.of v ∧ t.rd F.EVC_SRC.PRIO n = F.EVC_SRC.PRIO.of v ∧
      t.rd F.EVC_SRC.KMASK n = F.EVC_SRC.KMASK.of v ∧ t.rd F.EVC_SRC.GROUP n = F.EVC_SRC.GROUP.of v ∧
      t.rd F.EVC_SRC.EN n = F.EVC_SRC.EN.of v ∧ offersHold t ∧
      (t.src n).st = if F.EVC_SRC.EN.of v = 0 ∧ (s.src n).st = .pending then .inactive else (s.src n).st) ∧
  (∀ (s : State) (n : Fin 1024) (v : Word), 96 ≤ n.val → n.val < 128 → Completes (.evcSrcWrite n v) s fun t =>
    t.rd F.EVC_SRC.TKIND n = s.rd F.EVC_SRC.TKIND n ∧ t.rd F.EVC_SRC.TENANT n = s.rd F.EVC_SRC.TENANT n ∧
    t.rd F.EVC_SRC.VECTOR n = s.rd F.EVC_SRC.VECTOR n ∧ t.rd F.EVC_SRC.EN n = F.EVC_SRC.EN.of v ∧
    t.rd F.EVC_SRC.GROUP n = F.EVC_SRC.GROUP.of v) ∧
  (∀ (s : State) (v : Word) (n : Nat), n = F.EVC_SWSET.SOURCE.of v → Completes (.evcSwset v) s fun t =>
    if (64 ≤ n ∧ n < 80) ∨ (96 ≤ n ∧ n < 112) then (t.src n).st = raisedState s n
    else t.flag F.EVC_STAT.SWBAD 0 = true ∧ t.evc = s.evc) ∧
  (∀ (s : State) (g : Fin 64), groupOpen s g = true → sget 0 s.evc.holdEnd g ≤ s.dtcNow → Completes (.holdOffExpiry g) s fun t =>
    groupOpen t g = false ∧ t.flag F.EVC_HOLD.OPEN g = false ∧ offersHold t ∧ ∀ n : Nat, t.src n = s.src n) ∧
  (∀ (s : State) (c : Fin 4), s.rd (F.KP_CORE_STAT.RUN c) 0 = 1 → higherOfPair s c = false → sget 0 s.evc.offers c = 0 →
    Completes (.wfi c) s fun t =>
      (t.flag F.EVC_CSTAT.SLEEP c = true ∨ sget 0 t.evc.offers c ≠ 0) ∧ offersHold t ∧ ∀ n : Nat, t.src n = s.src n) ∧
  (∀ (s : State) (r : Fin 64) (i : Fin 4) (pins : List (Fin 320)) (n new : Nat), n = 768 + 4 * r.val + i.val →
      new = b2n (pins.any (fun x => s.flag F.CFG_SECT.INRGN x && s.rd F.CFG_SECT.REGION x == r.val && !s.flag F.CFG_SECT.CLOSED x)) →
    Completes (.fevt r i pins) s fun t =>
      sget 0 t.evc.fevtLast n = new ∧
      (t.src n).st = if sget 0 s.evc.fevtLast n = 0 ∧ new = 1 then raisedState s n else (s.src n).st)

/-- Tenant notification channels (R415, R417, R420–R422): a due delivery goes out as the vector's message, sets the pending bit of a masked vector,
is dropped for a former owner, or is held in order until the head is Up in L0 with MSI-X enabled. The watchdogs (R423, R424): an enable bit that
rises loads and starts its watchdog, one that falls stops it; a kick reloads; a core's watchdog at its end raises its source and reloads; the
device watchdog warns at half time and a kick at its end comes too late. The model's own choices in it: log entries 5, 87, 116, 144, 145. -/
def Obligations.NotificationsReachTheTenantAndWatchdogsAct : Prop :=
  (∀ (s : State) (n : Fin 1024) (tn v : Nat), (s.src n).st = .pending → s.rd F.EVC_SRC.TKIND n = 1 →
      groupOpen s (s.rd F.EVC_SRC.GROUP n) = false → tn = s.rd F.EVC_SRC.TENANT n → v = s.rd F.EVC_SRC.VECTOR n →
    Completes (.notification n) s fun t =>
      (t.src n).st = .inactive ∧
      if formerOwner s n = true then
        t.out = s.out ∧ t.rd F.EVC_DROP.COUNT 0 = min (s.rd F.EVC_DROP.COUNT 0 + 1) (2 ^ F.EVC_DROP.COUNT.width - 1)
      else if headUp s tn = true ∧ headL0 s tn = true ∧ nbit s.evc.msixEn.toNat tn = true then
        (∀ h : Nat, h = s.rd F.EVC_HOLD.HOLD (s.rd F.EVC_SRC.GROUP n) → h ≠ 0 →
          sget 0 t.evc.holdEnd (s.rd F.EVC_SRC.GROUP n) = s.dtcNow + 250 * h) ∧
        if msixMasked s tn v = true then t.out = s.out ∧ nbit (t.rd F.SHX_MSIX_PBA.VALUE tn) v = true
        else t.out = s.out ++ [.msix tn v (msixEntry s tn v).1 (msixEntry s tn v).2 (s.toHost tn)]
      else
        t.out = s.out ∧ sget [] t.evc.held tn = sget [] s.evc.held tn ++ [n.val] ∧
        (headUp s tn = true → s.rd F.LNK_HSTAT.LTSSM tn = 7 → t.flag F.EVC_TCH.L1EXIT tn = true) ∧
        (headUp s tn = true → s.rd F.LNK_HSTAT.LTSSM tn = 8 → s.flag F.EVC_TCH.WAKEEN tn = true → t.flag F.EVC_TCH.WAKE tn = true)) ∧
  (∀ (s : State) (n : Fin 16) (on : Bool), Completes (.msixEnable n on) s fun t =>
    nbit t.evc.msixEn.toNat n = on ∧
    if on = true ∧ headUp s n = true ∧ headL0 s n = true then sget [] t.evc.held n = [] ∧ t.rd F.EVC_TCH.HELD n = 0
    else t.evc.held = s.evc.held ∧ t.out = s.out) ∧
  (∀ (s : State) (n : Fin 16) (k : Nat), headUp s n = true → headL0 s n = true → sget [] s.evc.held n = [k] →
      s.rd F.EVC_SRC.TENANT k = n.val → msixMasked s n (s.rd F.EVC_SRC.VECTOR k) = false → Completes (.msixEnable n true) s fun t =>
    t.out = s.out ++ [.msix n (s.rd F.EVC_SRC.VECTOR k) (msixEntry s n (s.rd F.EVC_SRC.VECTOR k)).1
      (msixEntry s n (s.rd F.EVC_SRC.VECTOR k)).2 (s.toHost n)]) ∧
  (∀ (s : State) (v : Word) (c : Fin 5), c.val = 4 ∨ higherOfPair s c = false → Completes (.watchdogEnable v) s fun t =>
    t.rd F.KP_WDT_CTL.EN 0 = F.KP_WDT_CTL.EN.of v ∧ t.rd F.KP_WDT_CTL.DBGPAUSE 0 = F.KP_WDT_CTL.DBGPAUSE.of v ∧
    (haltsWatchdog s c = false → t.wdt c =
      if nbit (F.KP_WDT_CTL.EN.of v) c = nbit (s.rd F.KP_WDT_CTL.EN 0) c then s.wdt c
      else if nbit (F.KP_WDT_CTL.EN.of v) c = true then
        some ⟨s.dtcNow + 1000 * s.rd F.KP_WDT_TMO.TMO c, s.rd F.KP_WDT_TMO.TMO c, ((s.wdt c).bind (·.paused)).map (fun _ =>
          s.rd F.KP_WDT_TMO.TMO c)⟩
      else none) ∧
    (haltsWatchdog s c = true → nbit (F.KP_WDT_CTL.EN.of v) c = true → nbit (s.rd F.KP_WDT_CTL.EN 0) c = true → (s.wdt c).isSome = true →
      (t.wdt c).map (fun r => r.paused.isSome) = some (F.KP_WDT_CTL.DBGPAUSE.of v == 1))) ∧
  (∀ (s : State) (c : Fin 4), higherOfPair s c = false → wdtExpired s c = true → Completes (.watchdogExpiry c) s fun t =>
    (t.src (25 + c)).st = raisedState s (25 + c) ∧
    t.wdt c = some ⟨s.dtcNow + 1000 * s.rd F.KP_WDT_TMO.TMO c, s.rd F.KP_WDT_TMO.TMO c, none⟩ ∧
    (lockstep s (c / 2) = true → (s.wdt (c + 1)).isSome = true → t.wdt (c + 1) = t.wdt c)) ∧
  (∀ (s : State), (∃ r : WdtRec, s.wdt 4 = some r ∧ r.paused = none ∧ r.due ≤ s.dtcNow + 500 * r.len) → s.evc.wdtHalf = false →
    Completes (.halfTime) s fun t => t.evc.wdtHalf = true ∧ (t.src 29).st = raisedState s 29 ∧ t.wdt 4 = s.wdt 4) ∧
  (∀ (s : State) (v : Word), ¬(nbit (F.KP_WDT_KICK.KICK.of v) 4 = true ∧ wdtExpired s 4 = true) → Completes (.kick v) s fun t =>
    ∀ c : Fin 5, c.val = 4 ∨ higherOfPair s c = false → t.wdt c =
      if nbit (F.KP_WDT_KICK.KICK.of v) c = true ∧ (s.wdt c).isSome = true then
        some ⟨s.dtcNow + 1000 * s.rd F.KP_WDT_TMO.TMO c, s.rd F.KP_WDT_TMO.TMO c,
          ((s.wdt c).bind (·.paused)).map (fun _ => s.rd F.KP_WDT_TMO.TMO c)⟩
      else s.wdt c) ∧
  (∀ (s : State) (v : Word), nbit (F.KP_WDT_KICK.KICK.of v) 4 = true → wdtExpired s 4 = true → Completes (.kick v) s fun t =>
    t.rd F.PWR_RST_CAUSE.LAST 0 = 3 ∧ t.evc = State.reset.evc)

/-! ### Modes, domains, tenant resets and maintenance (chapter 17) -/

/-- The mode sequencer (R435–R439): a GO broadcasts prepare to the units that take part; a unit acknowledges or refuses; a refusal or the timer
rolls back; at the commit edge divisors change and domains are cut or ramped; the end leaves every unit IDLE but those in SPLIT. The model's own
choices in it: log entries 5, 146, 148, 149, 153, 158. -/
def Obligations.ModeTransactionsMoveAsOne : Prop :=
  (∀ (s : State) (v : Word), F.PWR_MODE_CTL.GO.of v = 1 → F.PWR_MODE_CTL.UNITRST.of v = 0 → modeState s ≠ 0 →
    Completes (.modeGo v) s fun t =>
      t.flag F.PWR_MODE_STAT.BUSYREJ 0 = true ∧ modeState t = modeState s ∧ t.pwr = s.pwr ∧ ∀ u : Fin 76, unitSt t u = unitSt s u) ∧
  (∀ (s : State) (v : Word) (takes : Nat → Bool), F.PWR_MODE_CTL.GO.of v = 1 → F.PWR_MODE_CTL.UNITRST.of v = 0 → modeState s = 0 →
      (takes = fun u => if u = 0 then F.PWR_MODE_CTL.CLK.of v == 1 else if u < 13 then nbit (s.rd F.PWR_MODE_CHAN.MASK 0) (u - 1)
        else if u < 16 then false
        else s.flag (F.PWR_DOM_TGT.ON ((u - 16) % 32)) ((u - 16) / 32) != domOn s (u - 16) && unitSt s u != 6 &&
          !s.pwr.ramping.contains (u - 16) && !s.pwr.rampQ.contains (u - 16)) →
    Completes (.modeGo v) s fun t =>
      if ∃ u : Fin 76, takes u = true then
        modeState t = 1 ∧ t.rd F.PWR_MODE_STAT.REFUSER 0 = 0x7F ∧ t.pwr.timerAt = s.dtcNow ∧
        ∀ u : Fin 76, u.val < 13 ∨ 16 ≤ u.val → unitSt t u = if takes u then 1 else if unitSt s u = 6 then 6 else 0
      else t.flag F.PWR_MODE_STAT.DONE 0 = true ∧ modeState t = 0 ∧ t.pwr = s.pwr) ∧
  (∀ (s : State) (u : Fin 76), modeState s = 1 → unitSt s u = 1 → prepared s u = true → modeTimer s = false →
    Completes (.prepareAck u) s fun t =>
      unitSt t u = 2 ∧ t.pwr.ackAt = s.stamp ∧ (∀ k : Fin 76, k ≠ u → unitSt t k = unitSt s k) ∧
      modeState t = if ∃ k : Fin 76, k ≠ u ∧ (k.val < 13 ∨ 16 ≤ k.val) ∧ unitSt s k = 1 then 1 else 2) ∧
  (∀ (s : State) (u : Fin 76), u.val < 13 ∨ 16 ≤ u.val → modeState s = 1 → unitSt s u = 1 → prepared s u = false →
      u.val < 16 ∨ domOn s (u - 16) = false ∨ modeTimer s = true →
    Completes (.unitRefuse u) s fun t =>
      modeState t = 4 ∧ t.flag F.PWR_MODE_STAT.ABORT 0 = true ∧ t.rd F.PWR_MODE_STAT.REFUSER 0 = u.val ∧ unitSt t u = 3 ∧
      t.pwr.timerAt = s.dtcNow ∧ ∀ k : Fin 76, k ≠ u → k.val < 13 ∨ 16 ≤ k.val → unitSt t k =
        if unitSt s k = 1 ∨ unitSt s k = 2 then (if 16 ≤ k.val ∧ domOn s (k - 16) = true then 5 else 0) else unitSt s k) ∧
  (∀ (s : State) (u : Fin 76), u.val < 13 ∨ 16 ≤ u.val → modeState s = 1 → modeTimer s = true → unitSt s u = 1 →
      (∀ k : Fin 76, k < u → k.val < 13 ∨ 16 ≤ k.val → unitSt s k ≠ 1) →
    Completes (.modeTimeout) s fun t =>
      modeState t = 4 ∧ t.flag F.PWR_MODE_STAT.ABORT 0 = true ∧ t.rd F.PWR_MODE_STAT.REFUSER 0 = u.val ∧
      ∀ k : Fin 76, k.val < 13 ∨ 16 ≤ k.val → unitSt s k = 1 → unitSt t k = 3) ∧
  (∀ (s : State) (n l tick first : Nat), modeState s = 2 → tick = (s.pwr.ackAt + 1023) / 1024 * 1024 → tick ≤ s.dtcNow →
      l = (if unitSt s 0 = 2 then changeLcm s else 1) → 0 < l → l ∣ n →
      first = s.clk.rootEdges - 32 * ((s.clk.dtc.toNat - tick * 2 ^ 32) / s.dtcInc) → first ≤ n → n < first + l →
    Completes (.commit n) s fun t =>
      (unitSt s 0 = 2 → ∀ d ∈ changing s, divNow t d = divNext s d) ∧
      (∀ d : Fin 60, unitSt s (16 + d) = 2 → domOn t d = false) ∧
      ((∃ d : Fin 60, unitSt s (16 + d) = 2 ∧ domOn s d = false) → modeState t = 3 ∧
        ∀ d : Fin 60, unitSt s (16 + d) = 2 → domOn s d = false → d.val ∈ t.pwr.ramping ++ t.pwr.rampQ ∧ unitSt t (16 + d) = 4) ∧
      ((∀ d : Fin 60, unitSt s (16 + d) = 2 → domOn s d = true) → s.pwr.wanted = [] →
        modeState t = 0 ∧ t.flag F.PWR_MODE_STAT.DONE 0 = true ∧ t.flag F.PWR_EVT.MODEDONE 0 = true)) ∧
  (∀ (s : State), modeState s = 4 → s.pwr.wanted = [] → Completes (.rollbackComplete) s fun t =>
    modeState t = 0 ∧ t.flag F.PWR_EVT.MODEABORT 0 = true ∧ t.pwr = s.pwr ∧
    ∀ u : Fin 76, u.val < 13 ∨ 16 ≤ u.val → unitSt t u = if unitSt s u = 6 then 6 else 0) ∧
  (∀ (s : State) (us : List (Fin 76)), modeState s = 4 → modeTimer s = true → (∃ u ∈ us, unitSt s u = 5 ∧ 16 ≤ u.val) → s.pwr.wanted = [] →
    Completes (.rollbackTimeout us) s fun t =>
      modeState t = 0 ∧ t.flag F.PWR_MODE_STAT.SPLIT 0 = true ∧ t.flag F.PWR_EVT.SPLIT 0 = true ∧
      (∀ u ∈ us, unitSt s u = 5 → unitSt t u = 6) ∧ ∀ d : Fin 60, domOn t d = domOn s d)

/-- Power domains and supplies (R429–R432, R439, R494): a domain that completes its ramp is ON; at most four ramp; UNITRST cuts and restores a
domain in SPLIT; without their supply domains are cut, and a returned supply brings none back. The model's own choices in it: log entries 5, 150,
152, 155. -/
def Obligations.DomainsFollowRampsAndSupplies : Prop :=
  (∀ (s : State) (d : Fin 60), d.val ∈ s.pwr.ramping → Completes (.rampComplete d) s fun t =>
    domOn t d = true ∧ (∀ k : Fin 60, domOn s k = true → domOn t k = true) ∧ (s.pwr.ramping.length ≤ 4 → t.pwr.ramping.length ≤ 4) ∧
    (12 ≤ d.val % 15 → chanState s (domChannel d) = 0 → chanState t (domChannel d) = 1) ∧
    (unitSt s (16 + d) = 6 → unitSt t (16 + d) = 0)) ∧
  (∀ (s : State) (v : Word) (d : Fin 60), F.PWR_MODE_CTL.UNITRST.of v = 1 → F.PWR_MODE_CTL.GO.of v = 0 →
      F.PWR_MODE_CTL.UNIT.of v = 16 + d.val → Completes (.unitrst v) s fun t =>
    if unitSt s (16 + d) = 6 ∧ d.val ∉ s.pwr.ramping ∧ d.val ∉ s.pwr.rampQ then
      domOn t d = false ∧ unitSt t (16 + d) = 6 ∧ d.val ∈ t.pwr.ramping ++ t.pwr.rampQ
    else t.pwr = s.pwr ∧ ∀ k : Fin 60, domOn t k = domOn s k) ∧
  (∀ (s : State) (n : Fin 12), Completes (.supplyLoss (.vddq n)) s fun t =>
    nbit (t.rd F.PWR_SUP_STAT.VDDQ 0) n = false ∧ domOn t (15 * (n / 3) + 12 + n % 3) = false ∧
    (15 * (n.val / 3) + 12 + n.val % 3) ∉ t.pwr.ramping) ∧
  (∀ (s : State) (l : Fin 4), ∀ x ∈ [Supply.vlane085 l, Supply.vlane120 l], Completes (.supplyLoss x) s fun t =>
    nbit (t.rd F.PWR_SUP_STAT.LANE 0) l = false ∧ domOn t (15 * l + 10) = false ∧ domOn t (15 * l + 11) = false) ∧
  (∀ (s : State) (b : Fin 16), (∀ d : Fin 60, supplied s d = true) → Completes (.supplyLoss (.vccio b)) s fun t =>
    nbit t.pwr.vccio.toNat b = false ∧ ∀ d : Fin 60, domOn t d = domOn s d) ∧
  (∀ (s : State) (n : Fin 12), Completes (.supplyReturn (.vddq n)) s fun t =>
    nbit (t.rd F.PWR_SUP_STAT.VDDQ 0) n = true ∧ ∀ d : Fin 60, domOn t d = domOn s d) ∧
  (∀ (s : State) (l : Fin 4), nbit s.pwr.lane.toNat (2 * l + 1) = true → Completes (.supplyReturn (.vlane085 l)) s fun t =>
    nbit (t.rd F.PWR_SUP_STAT.LANE 0) l = true ∧ ∀ d : Fin 60, domOn t d = domOn s d)

/-- Tenant resets and the maintenance arbiter (R445, R449, R450): a tenant reset clears windows and grants and stays BUSY to the end of step 4; a
request is granted, queued behind a conflict, or finds all 64 entries in use; the end of an activity frees its entry and grants what waited. The
model's own choices in it: log entries 17, 154, 157. -/
def Obligations.TenantResetsAndTicketsRunToTheirEnd : Prop :=
  (∀ (s : State) (v : Word), F.PWR_TRST_CMD.GO.of v = 0 ∨ s.flag F.PWR_TRST_STAT.BUSY 0 = true →
    Completes (.trstGo v) s fun t => t = s) ∧
  (∀ (s : State) (v : Word) (n : Fin 16), F.PWR_TRST_CMD.GO.of v = 1 → F.PWR_TRST_CMD.TENANT.of v = n.val →
      s.flag F.PWR_TRST_STAT.BUSY 0 = false → Completes (.trstGo v) s fun t =>
    t.flag F.PWR_TRST_STAT.BUSY 0 = true ∧ t.rd F.PWR_TRST_STAT.TENANT 0 = n.val ∧
    (∀ w : Fin 16, t.flag F.WRD_HWIN0.VALID (hwin n w 0) = false) ∧ (∀ k : Fin 4, t.rd F.WRD_GRANT.OP (4 * n.val + k) = 0) ∧
    ∀ k ∈ tenantSets s n, t.flag F.TMB_SET_CFG.VALID k = true ∧ t.rd F.TMB_SET_CFG.TENANT k = n.val) ∧
  (∀ (s : State) (n : Nat), s.flag F.PWR_TRST_STAT.BUSY 0 = true → n = s.rd F.PWR_TRST_STAT.TENANT 0 → s.mnt.trstEng = [] →
      s.mnt.trst = [] → tenantSets s n = [] → Completes (.tenantResetComplete) s fun t =>
    t.flag F.PWR_TRST_STAT.BUSY 0 = false ∧ sget [] t.evc.held n = [] ∧ t.rd F.EVC_TCH.HELD n = 0 ∧
    (∀ r ∈ t.shx.held, r.tenant ≠ n) ∧ ∀ i : Nat, t.reg .CFG_RGN_CFG i = s.reg .CFG_RGN_CFG i) ∧
  (∀ (s : State) (v : Word), F.PWR_MNT_REQ.GO.of v = 0 ∨ F.PWR_MNT_REQ.ACT.of v < 3 ∨ 9 < F.PWR_MNT_REQ.ACT.of v →
    Completes (.maintenanceRequest v) s fun t => t = s) ∧
  (∀ (s : State) (v : Word) (act res : Nat), F.PWR_MNT_REQ.GO.of v = 1 → act = F.PWR_MNT_REQ.ACT.of v → res = F.PWR_MNT_REQ.RES.of v →
      3 ≤ act → act ≤ 9 → (∀ j : Fin 64, s.rd F.PWR_MNT_ENT.STATE j ≠ 0) → Completes (.maintenanceRequest v) s fun t =>
    t.rd F.PWR_MNT_RESP.OUTCOME 0 = 2 ∧ t.mnt = s.mnt ∧ ∀ j : Nat, t.reg .PWR_MNT_ENT j = s.reg .PWR_MNT_ENT j) ∧
  (∀ (s : State) (v : Word) (act res : Nat) (k : Fin 64), F.PWR_MNT_REQ.GO.of v = 1 → act = F.PWR_MNT_REQ.ACT.of v →
      res = F.PWR_MNT_REQ.RES.of v → 3 ≤ act → act ≤ 9 → s.mnt.hwWait = [] → s.rd F.PWR_MNT_ENT.STATE k = 0 →
      (∀ j : Fin 64, j < k → s.rd F.PWR_MNT_ENT.STATE j ≠ 0) → Completes (.maintenanceRequest v) s fun t =>
    t.rd F.PWR_MNT_RESP.TICKET 0 = k.val ∧ t.rd F.PWR_MNT_ENT.ACT k = act ∧ t.rd F.PWR_MNT_ENT.RES k = res ∧
    (∀ j : Fin 64, j ≠ k → t.reg .PWR_MNT_ENT j = s.reg .PWR_MNT_ENT j) ∧
    (t.rd F.PWR_MNT_ENT.STATE k = if t.rd F.PWR_MNT_RESP.OUTCOME 0 = 0 then 2 else 1) ∧
    ((∃ j : Fin 64, s.rd F.PWR_MNT_ENT.STATE j = 2 ∧ mntPair act res (s.rd F.PWR_MNT_ENT.ACT j) (s.rd F.PWR_MNT_ENT.RES j) = true) →
      t.rd F.PWR_MNT_RESP.OUTCOME 0 = 1) ∧
    (act ≠ 7 → (∀ j : Fin 64, s.rd F.PWR_MNT_ENT.STATE j ≠ 0 →
        mntPair act res (s.rd F.PWR_MNT_ENT.ACT j) (s.rd F.PWR_MNT_ENT.RES j) = false) → (∀ j ∈ s.mnt.order, j < 64) →
      t.rd F.PWR_MNT_RESP.OUTCOME 0 = 0)) ∧
  (∀ (s : State) (v : Word) (k : Nat), k = F.PWR_MNT_DONE.TICKET.of v → s.rd F.PWR_MNT_ENT.STATE k ≠ 0 →
      (∀ j : Fin 64, j.val ≠ k → s.rd F.PWR_MNT_ENT.STATE j ≠ 1) → (∀ j ∈ s.mnt.order, j < 64) → s.mnt.hwWait = [] → s.coh.walks = [] →
      s.mnt.trst = [] → Completes (.pwrMntDone v) s fun t =>
    t.rd F.PWR_MNT_ENT.STATE k = 0 ∧ ∀ j : Fin 64, j.val ≠ k → t.reg .PWR_MNT_ENT j = s.reg .PWR_MNT_ENT j) ∧
  (∀ (s : State) (v : Word) (k j : Fin 64), k ≠ j → k.val = F.PWR_MNT_DONE.TICKET.of v → s.rd F.PWR_MNT_ENT.STATE k = 2 →
      s.rd F.PWR_MNT_ENT.STATE j = 1 → s.rd F.PWR_MNT_ENT.ACT j ≠ 8 → s.mnt.order = [j.val] → s.mnt.hwWait = [] → s.coh.walks = [] →
      s.mnt.trst = [] → (∀ i : Fin 64, i ≠ k → i ≠ j → s.rd F.PWR_MNT_ENT.STATE i = 0) → Completes (.pwrMntDone v) s fun t =>
    t.rd F.PWR_MNT_ENT.STATE k = 0 ∧ t.rd F.PWR_MNT_ENT.STATE j = 2 ∧ t.flag F.PWR_EVT.MNTGRANT 0 = true)

/-! ### Management pins (chapter 18) -/

/-- Management pins (R379, R461–R463, R465, R466, R469): a source that does not own the pin is logged and ignored; a switched pin keeps its level
through its gap; event lines see edges and levels of their pins, and those of the Keeper's raise local interrupts; a fabric-owned pin is driven from
MG_FO under MG_FOE where sector 0 is open and static; a user I/O pin follows its frames, or is disabled, held or without supply (R454, R456, R494).
The model's own choices in it: log entries 27, 159, 160, 162, 163, 219. -/
def Obligations.PinsServeTheirOwners : Prop :=
  (∀ (s : State) (src : Actor) (i : Fin 64) (v : Word), pinAdmits s src i = true → Completes (.pinRegisterWrite src i v) s fun t =>
    t.rd F.MGP_PIN.OUT i = F.MGP_PIN.OUT.of v ∧ t.rd F.MGP_PIN.OE i = F.MGP_PIN.OE.of v ∧ t.rd F.MGP_PIN.OD i = F.MGP_PIN.OD.of v ∧
    t.rd F.MGP_PIN.SLOW i = F.MGP_PIN.SLOW.of v ∧ t.rd F.MGP_PIN.PULL i = F.MGP_PIN.PULL.of v ∧
    t.rd F.MGP_PIN.DRIVE i = (if F.MGP_PIN.DRIVE.of v = 3 then s.rd F.MGP_PIN.DRIVE i else F.MGP_PIN.DRIVE.of v) ∧
    t.rd F.MGP_PIN.GAP i = s.rd F.MGP_PIN.GAP i ∧ LinesSaw s t ∧ t.pin.pads = s.pin.pads ∧ t.pin.hold = s.pin.hold ∧
    ∀ r k, ¬(r = .MGP_PIN ∧ k = i.val) → r ≠ .MGP_EVSTAT → t.reg r k = s.reg r k) ∧
  (∀ (s : State) (src : Actor) (i : Fin 64) (v : Word) (c : Nat), pinAdmits s src i = false → c = s.rd F.WRD_LOGCTL.COUNT 0 →
    Completes (.pinRegisterWrite src i v) s fun t =>
      t.pin = s.pin ∧ (∀ k : Nat, t.reg .MGP_PIN k = s.reg .MGP_PIN k) ∧
      (c < 32 → t.rd F.WRD_LOGCTL.COUNT 0 = c + 1 ∧ t.rd F.WRD_LOG_W0.KIND (4 * ((s.rd F.WRD_LOGCTL.HEAD 0 + c) % 32)) = 3 ∧
        t.rd F.WRD_LOG_W0.DETAIL (4 * ((s.rd F.WRD_LOGCTL.HEAD 0 + c) % 32)) = i.val)) ∧
  (∀ (s : State) (src : Actor) (m : Fin 34) (v : Word) (p q : Nat), q = F.MGP_MAP.PIN.of v → p = s.rd F.MGP_MAP.PIN m →
      pinAdmits s src q = true → pinAdmits s src p = true → Completes (.functionSwitch src m v) s fun t =>
    t.rd F.MGP_MAP.PIN m = q ∧ t.rd F.MGP_MAP.EN m = F.MGP_MAP.EN.of v ∧
    (isOutput m = true → F.MGP_MAP.EN.of v = 1 → s.flag F.MGP_MAP.EN m = false →
      t.flag F.MGP_PIN.GAP q = true ∧ t.pin.hold.getLsbD q = padLevel s q) ∧
    (isOutput m = true → F.MGP_MAP.EN.of v = 0 → s.flag F.MGP_MAP.EN m = true →
      t.flag F.MGP_PIN.GAP p = true ∧ t.pin.hold.getLsbD p = padLevel s p) ∧
    (isOutput m = false → t.pin = s.pin ∧ ∀ k : Nat, t.reg .MGP_PIN k = s.reg .MGP_PIN k)) ∧
  (∀ (s : State) (src : Actor) (m : Fin 34) (v : Word), pinAdmits s src (F.MGP_MAP.PIN.of v) = false →
    Completes (.functionSwitch src m v) s fun t => t.pin = s.pin ∧ ∀ k : Nat, t.reg .MGP_MAP k = s.reg .MGP_MAP k) ∧
  (∀ (s : State) (i : Fin 64), s.flag F.MGP_PIN.GAP i = true → Completes (.gapEnd i) s fun t =>
    t.flag F.MGP_PIN.GAP i = false ∧ t.pin.pads = s.pin.pads ∧ LinesSaw s t ∧
    ∀ k : Nat, k ≠ i.val → t.reg .MGP_PIN k = s.reg .MGP_PIN k) ∧
  (∀ (s : State) (src : Actor) (n : Fin 16) (v : Word), pinAdmits s src (linePin s n) = true →
      pinAdmits s src (16 * F.MGP_EVL.PORT.of v + n) = true → Completes (.eventLineWrite src n v) s fun t =>
    t.rd F.MGP_EVL.PORT n = F.MGP_EVL.PORT.of v ∧ t.rd F.MGP_EVL.CMASK n = F.MGP_EVL.CMASK.of v ∧
    t.rd F.MGP_EVL.MODE n = (if F.MGP_EVL.MODE.of v < 6 then F.MGP_EVL.MODE.of v else s.rd F.MGP_EVL.MODE n) ∧
    ∀ k : Nat, k ≠ n.val → t.reg .MGP_EVL k = s.reg .MGP_EVL k) ∧
  (∀ (s : State) (n : Fin 16) (level : Bool), s.flag F.MGP_PIN.GAP (linePin s n) = false → ownerDrives s (linePin s n) = false →
      pinConflict s (linePin s n) = false → Completes (.pinEvent n level) s fun t =>
    t.pin.pads.getLsbD (linePin s n) = level ∧ t.pin.seen.getLsbD n = level ∧
    nbit (t.rd F.MGP_EVSTAT.LINES 0) n = (nbit (s.rd F.MGP_EVSTAT.LINES 0) n ||
      (match s.rd F.MGP_EVL.MODE n with
       | 1 => !s.pin.seen.getLsbD n && level
       | 2 => s.pin.seen.getLsbD n && !level
       | 3 => s.pin.seen.getLsbD n != level
       | 4 => level
       | 5 => !level
       | _ => false)) ∧
    (∀ c : Fin 4, higherOfPair s c = false → localInterrupt t c n = (decide (pinOwner s (linePin s n) ≠ 5) &&
      nbit (t.rd F.MGP_EVSTAT.LINES 0) n && nbit (s.rd F.MGP_EVL.CMASK n) c)) ∧
    ∀ k : Nat, k < 16 → k ≠ n.val → nbit (t.rd F.MGP_EVSTAT.LINES 0) k = nbit (s.rd F.MGP_EVSTAT.LINES 0) k) ∧
  (∀ (s : State) (b : Fin 16) (k : Fin 48) (x : Nat), x = 80 * (b.val / 4) + 8 * (2 * (b.val % 4) + k.val / 24) →
    userPin s b k = if s.pwr.vccio.getLsbD b = false then .unpowered
      else if s.flag F.CFG_PINS.DONE 0 = false then .disabled
      else if s.flag F.CFG_SECT.CLOSED x = true then .held else .follows) ∧
  (∀ (s : State) (i : Fin 64), pinOwner s i = 5 → s.flag F.MGP_PIN.GAP i = false → mappedOuts s i = [] →
    padLevel s i = if s.flag F.CFG_SECT.CLOSED 0 = false ∧ sectorStatic s 0 = true ∧ s.pin.mgFoe.getLsbD i = true then
      s.pin.mgFo.getLsbD i else s.pin.pads.getLsbD i)

/-- The peripherals of the management pins (R459–R461, R469): an I2C command starts, continues an open transaction or ends at once; a UART keeps
16 bytes each way; SPI exchanges one byte; a tach shows the time between edges. The model's own choices in it: log entries 5, 159, 161, 164. -/
def Obligations.PeripheralsMoveBytes : Prop :=
  (∀ (s : State) (src : Actor) (b : Fin 4) (v : Word), periphAdmits s src (2 * b.val) 2 = true → F.MGP_I2CCMD.GO.of v = 1 →
      s.flag F.MGP_I2CSTAT.BUSY b = false → s.flag F.MGP_I2CCTL.EN b = true → F.MGP_I2CCMD.WLEN.of v ≤ 16 → F.MGP_I2CCMD.RLEN.of v ≤ 16 →
    Completes (.i2cGo src b v) s fun t =>
      if F.MGP_I2CCMD.NOSTART.of v = 0 ∨ (i2cLeft s b).map (·.addr) = some (F.MGP_I2CCMD.ADDR.of v) then
        t.flag F.MGP_I2CSTAT.BUSY b = true ∧ sget 0 t.pin.i2cCmd b = v ∧
        ∃ start : Bool, t.out = s.out ++ [.i2c b (F.MGP_I2CCMD.ADDR.of v) (i2cBytes s b (F.MGP_I2CCMD.WLEN.of v))
          (F.MGP_I2CCMD.RLEN.of v) start (F.MGP_I2CCMD.NOSTOP.of v == 0)] ∧ (F.MGP_I2CCMD.NOSTART.of v = 0 → start = true)
      else t.flag F.MGP_I2CSTAT.NACK b = true ∧ t.flag F.MGP_I2CSTAT.BUSY b = false ∧ t.out = s.out) ∧
  (∀ (s : State) (b : Fin 4) (e : I2cEnd) (v : Word), s.flag F.MGP_I2CSTAT.BUSY b = true → v = sget 0 s.pin.i2cCmd b →
    Completes (.i2cDone b e) s fun t =>
      t.flag F.MGP_I2CSTAT.BUSY b = false ∧
      (e = .nack → t.flag F.MGP_I2CSTAT.NACK b = true ∧ i2cLeft t b = none) ∧
      (e = .arbLost → t.flag F.MGP_I2CSTAT.ARBLOST b = true ∧ i2cLeft t b = none) ∧
      (∀ l : List Byte, e = .ok l → l.length = F.MGP_I2CCMD.RLEN.of v → l.length ≤ 16 → t.flag F.MGP_I2CSTAT.DONE b = true ∧
        i2cBytes t b l.length = l ∧ (i2cLeft t b).map (·.addr) =
          if F.MGP_I2CCMD.NOSTOP.of v = 1 then some (F.MGP_I2CCMD.ADDR.of v) else none)) ∧
  (∀ (s : State) (b : Fin 4), s.flag F.MGP_I2CCTL.SMB b = true → s.flag F.MGP_I2CSTAT.BUSY b = true → Completes (.smbusTimeout b) s fun t =>
    t.flag F.MGP_I2CSTAT.BUSY b = false ∧ t.flag F.MGP_I2CSTAT.TMO b = true ∧ i2cLeft t b = none) ∧
  (∀ (s : State) (src : Actor) (u : Fin 2) (v : Word), periphAdmits s src (8 + 4 * u.val) 4 = true → Completes (.uartDataWrite src u v) s fun t =>
    if (sget [] s.pin.tx u).length < 16 then
      sget [] t.pin.tx u = sget [] s.pin.tx u ++ [v.extractLsb' 0 8] ∧ sget [] t.pin.rx u = sget [] s.pin.rx u ∧
      t.rd F.MGP_UARTSTAT.TXLVL u = (sget [] s.pin.tx u).length + 1
    else t = s) ∧
  (∀ (s : State) (u : Fin 2), Completes (.uartDataRead u) s fun t =>
    (sget [] s.pin.rx u = [] → t = { s with rdata := 0 }) ∧
    ∀ (b : Byte) (q : List Byte), sget [] s.pin.rx u = b :: q → t.rdata = b.setWidth 32 ∧ sget [] t.pin.rx u = q ∧
      sget [] t.pin.tx u = sget [] s.pin.tx u ∧ (q.length ≤ 16 → t.rd F.MGP_UARTSTAT.RXLVL u = q.length)) ∧
  (∀ (s : State) (u : Fin 2) (b : BitVec 8) (stop : Bool), s.flag F.MGP_UARTCTL.EN u = true → Completes (.uartReceive u b stop) s fun t =>
    if stop = false then t.flag F.MGP_UARTSTAT.FERR u = true ∧ t.pin = s.pin
    else if 16 ≤ (sget [] s.pin.rx u).length then t.flag F.MGP_UARTSTAT.OVR u = true ∧ t.pin = s.pin
    else sget [] t.pin.rx u = sget [] s.pin.rx u ++ [b] ∧ t.rd F.MGP_UARTSTAT.RXLVL u = (sget [] s.pin.rx u).length + 1) ∧
  (∀ (s : State) (u : Fin 2) (b : Byte) (q : List Byte), sget [] s.pin.tx u = b :: q → s.flag F.MGP_UARTCTL.EN u = true →
      s.flag F.MGP_UARTCTL.FLOW u = false → Completes (.uartTransmit u) s fun t =>
    t.out = s.out ++ [.uart u b] ∧ sget [] t.pin.tx u = q ∧ sget [] t.pin.rx u = sget [] s.pin.rx u ∧
    (q.length ≤ 16 → t.rd F.MGP_UARTSTAT.TXLVL u = q.length)) ∧
  (∀ (s : State) (src : Actor) (p : Fin 2) (v : Word), periphAdmits s src (16 + 5 * p.val) 5 = true → Completes (.spiExchange src p v) s fun t =>
    if s.flag F.MGP_SPISTAT.BUSY p = true ∨ s.flag F.MGP_SPICTL.EN p = false then t = s
    else t.flag F.MGP_SPISTAT.BUSY p = true ∧ t.out = s.out ++ [.spi p (s.rd F.MGP_SPICTL.CS p) (v.extractLsb' 0 8)]) ∧
  (∀ (s : State) (p : Fin 2) (b : BitVec 8), s.flag F.MGP_SPISTAT.BUSY p = true → Completes (.spiDone p b) s fun t =>
    t.flag F.MGP_SPISTAT.BUSY p = false ∧ t.rd F.MGP_SPIDATA.DATA p = b.toNat) ∧
  (∀ (s : State) (f : Fin 4), Completes (.tachEdge f) s fun t =>
    sget none t.pin.tachAt f = some s.dtcNow ∧
    (sget none s.pin.tachAt f = none → t.regs = s.regs) ∧
    ∀ x : Nat, sget none s.pin.tachAt f = some x → t.rd F.MGP_TACH.PERIOD f = min ((s.dtcNow - x) / 1000) (2 ^ 24 - 1)) ∧
  (∀ (s : State) (f : Fin 4) (x : Nat), sget none s.pin.tachAt f = some x → x + 1000000000 ≤ s.dtcNow → Completes (.tachTimeout f) s fun t =>
    t.rd F.MGP_TACH.PERIOD f = 0 ∧ t.pin = s.pin)

/-! ### The Keyhole (chapter 19) -/

/-- The Keyhole port (R471–R478, R480): lows are bits, entries or the end of a session; a frame's CRC, level, address and access are checked in
order; an answer goes out bit by bit; KH, device and Keeper addresses are reached through frames. The model's own choices in it: log entries 165
to 170, 175 to 177. -/
def Obligations.KeyholeFramesAreCheckedAndAnswered : Prop :=
  (∀ (s : State) (w : Nat) (b : Bool) (l : List Bool), khMeasures s = true → s.kh.held = false → (16 ≤ w ∧ w < 180 ∧ b = true) ∨
      (180 ≤ w ∧ w < 400 ∧ b = false) → s.kh.phase = .session → s.kh.frame = none → s.kh.reply = none → l = s.kh.bits ++ [b] →
    Completes (.keyholeLow w) s fun t =>
      if l.length < 8 ∨ l.length ≠ frameSlots (ofBits (l.take 8)) then t.kh.bits = l ∧ t.regs = s.regs ∧ t.kh.frame = none
      else t.kh.bits = [] ∧
        if crc8 (l.take (l.length - 8)) ≠ ofBits (l.drop (l.length - 8)) then
          t.kh.reply = some .fault ∧ t.rd F.KH_STAT.CODE 0 = 1 ∧ t.kh.frame = none
        else if isOperation (ofBits (l.take 8)) = false then t.kh.reply = some .fault ∧ t.rd F.KH_STAT.CODE 0 = 2 ∧ t.kh.frame = none
        else t.regs = s.regs ∧ t.kh.reply = none ∧ t.kh.frame = some ⟨ofBits (l.take 8), ofBits ((l.drop 8).take 32),
          if isWriteForm (ofBits (l.take 8)) then ofBits ((l.drop 40).take 32) else 0⟩) ∧
  (∀ (s : State) (w : Nat), khMeasures s = true → s.kh.held = false → 15600 ≤ w → w ≤ 24800 → Completes (.keyholeLow w) s fun t =>
    t.kh.phase = .entry ∧ khOpen t = false ∧ t.kh.bits = [] ∧ t.rd F.KH_SES.LEVEL 0 = 0) ∧
  (∀ (s : State), s.kh.phase = .entry → s.kh.bits.length = 8 → ofBits s.kh.bits = 0xB4 → Completes .sessionEntry s fun t =>
    khOpen t = true ∧ t.kh.phase = .session ∧ t.kh.bits = [] ∧ t.rd F.KH_AUTH.FAILS 0 = 0 ∧ t.flag F.KH_AUTH.AUTHWAIT 0 = false ∧
    if Config.khAuthMode then khLevelNow t = 0 ∧ ∀ k : Fin 4, t.rd F.KH_CHAL.VALUE k = Config.freeNat (s.freeCtr + k) % 2 ^ 32
    else khLevelNow t = (if Config.khLevel = 3 then 0 else Config.khLevel.toNat)) ∧
  (∀ (s : State), s.kh.phase = .session → frameRuns s = true → Completes .frameGapTimeout s fun t =>
    t.flag F.KH_STAT.FRAMEERR 0 = true ∧ frameRuns t = false ∧ t.kh.sending = [] ∧ t.kh.phase = .session) ∧
  (∀ (s : State) (x : Nat × Instr) (f : KhFrame), x ∈ [(0x00, Instr.keyholeNop), (0x01, .khRead), (0x02, .khWrite), (0x10, .daRead),
      (0x11, .daWrite), (0x12, .kspRead []), (0x13, .kspWrite), (0x20, .exit)] → s.kh.frame = some f → f.op = x.1 → khOpen s = true →
    Completes x.2 s fun t =>
      t.kh.frame = none ∧
      (khLevelNow s < frameNeeds f → t.kh.reply = some .fault ∧ t.rd F.KH_STAT.CODE 0 = 3 ∧ t.net = s.net) ∧
      (frameNeeds f ≤ khLevelNow s → f.addr % 4 ≠ 0 → t.kh.reply = some .fault ∧ t.rd F.KH_STAT.CODE 0 = 2 ∧ t.net = s.net) ∧
      (frameNeeds f ≤ khLevelNow s → f.addr % 4 = 0 → ∀ a : KhAccess, s.kh.access = some a → a.outcome = none → a.frame ≠ f →
        t.kh.reply = some .wait ∧ t.kh.access = some a ∧ t.regs = s.regs ∧ t.net = s.net)) ∧
  (∀ (s : State) (f : KhFrame), s.kh.frame = some f → khOpen s = true → f.addr % 4 = 0 → frameNeeds f ≤ khLevelNow s →
      accessOutstanding s = none →
    (f.op = 0x00 → Completes .keyholeNop s fun t => t.kh.reply = some (.ok (some (sesView s))) ∧ t.regs = s.regs) ∧
    (f.op = 0x20 → Completes .exit s fun t =>
      t.kh.reply = some (.ok (some (sesView s))) ∧ khOpen t = false ∧ t.kh.phase = .idle) ∧
    (f.op = 0x01 → Completes .khRead s fun t => t.kh.reply = some (.ok (some (khGet f.addr s).1)) ∧ t.regs = (khGet f.addr s).2.regs) ∧
    (f.op = 0x02 → Completes .khWrite s fun t =>
      let (code, u) := khPut f.addr (BitVec.ofNat 32 f.wdata) s
      if code = 0 then t.kh.reply = some (.ok none) ∧ t.regs = u.regs
      else t.kh.reply = some .fault ∧ t.rd F.KH_STAT.CODE 0 = code % 2 ^ F.KH_STAT.CODE.width ∧ t.flag F.KH_STAT.FAULTSEEN 0 = true) ∧
    (∀ x : NetOp × Nat × Instr × Line, x ∈ [(NetOp.read, 0x10, Instr.daRead, (0 : Line)),
        (.write, 0x11, .daWrite, (BitVec.ofNat 512 f.wdata).shiftLeft (8 * ((s.rd F.KH_DAHI.DAHI 0 * 2 ^ 32 + f.addr) % 64)))] →
      f.op = x.2.1 → s.kh.access = none → Completes x.2.2.1 s fun t =>
        match netAdmit .debug debugTag x.1 debugEp (freeTxn s debugEp) (s.rd F.KH_DAHI.DAHI 0 * 2 ^ 32 + f.addr) 4 x.2.2.2 s with
        | .sent u => t.kh.reply = some .access ∧ t.kh.access = some ⟨f, none⟩ ∧ t.net = u.net
        | .answered code _ _ => t.kh.reply = some .access ∧ t.kh.access = some ⟨f, some (.error code)⟩
        | .waits => t.kh.reply = some .wait ∧ t.net = s.net) ∧
    (f.op = 0x12 → sramPattern s ((f.addr - 0x10000000) / 8) = 0 → Completes (.kspRead []) s fun t =>
      match keeperWord s f.addr with
      | some w => t.kh.reply = some (.ok (some w)) ∧ t.regs = s.regs
      | none => t.kh.reply = some .fault ∧ t.rd F.KH_STAT.CODE 0 = 4 ∧ t.rd F.KH_STAT.ERRCODE 0 = 1) ∧
    (f.op = 0x12 → sramPattern s ((f.addr - 0x10000000) / 8) = 0 → 0x10000000 ≤ f.addr → f.addr < 0x10200000 → ∀ p q : Fin 72, p ≠ q →
      Completes (.kspRead [p]) s (fun t => t.kh.reply = some (.ok (keeperWord s f.addr)) ∧
        t.rd F.KP_SRAM_CE.COUNT 0 = min (s.rd F.KP_SRAM_CE.COUNT 0 + 1) (2 ^ 32 - 1) ∧
        t.rd F.KP_SRAM_UE.COUNT 0 = s.rd F.KP_SRAM_UE.COUNT 0) ∧
      Completes (.kspRead [p, q]) s (fun t => t.rd F.KP_SRAM_CE.COUNT 0 = s.rd F.KP_SRAM_CE.COUNT 0 ∧
        t.rd F.KP_SRAM_UE.COUNT 0 = min (s.rd F.KP_SRAM_UE.COUNT 0 + 1) (2 ^ 32 - 1))) ∧
    (f.op = 0x13 → Completes .kspWrite s fun t =>
      (f.addr < 0x20000 → t.kh.reply = some (.ok none) ∧ t.kp = s.kp) ∧
      (0x10000000 ≤ f.addr → f.addr < 0x10200000 → t.kh.reply = some (.ok none) ∧ keeperWord t f.addr = some (BitVec.ofNat 32 f.wdata)) ∧
      (0x20000 ≤ f.addr → f.addr < 0x10000000 ∨ 0x10200000 ≤ f.addr →
        t.kh.reply = some .fault ∧ t.rd F.KH_STAT.CODE 0 = 4 ∧ t.kp = s.kp))) ∧
  (∀ (s : State), s.kh.reply = none → Completes .targetSlot s fun t => t.out = s.out ++ [.keyhole true] ∧ t.kh = s.kh) ∧
  (∀ (s : State) (r : KhReply), s.kh.reply = some r → s.kh.turned = false → Completes .targetSlot s fun t =>
    t.out = s.out ++ [.keyhole true] ∧ t.kh = { s.kh with turned := true }) ∧
  (∀ (s : State) (r : KhReply) (w : Word), s.kh.reply = some r → s.kh.turned = true → s.kh.sending = [] → Completes .targetSlot s fun t =>
    t.out = s.out ++ [.keyhole false] ∧ (r = .ok none → t.kh.sending = [true, false]) ∧ (r = .fault → t.kh.sending = [false, false]) ∧
    (r = .wait → t.kh.sending = [false, true]) ∧
    (r = .ok (some w) → t.kh.sending = [true, false] ++ toBits 32 w.toNat ++ toBits 8 (crc8 (toBits 32 w.toNat)))) ∧
  (∀ (s : State) (r : KhReply) (b : Bool) (l : List Bool), s.kh.reply = some r → s.kh.turned = true → s.kh.sending = b :: l →
    Completes .targetSlot s fun t => t.out = s.out ++ [.keyhole b] ∧ t.kh.sending = l ∧ (l = [] ↔ t.kh.reply = none))

/-- What the debugger controls (R425, R479, R482–R486): authorisation, halt, step and resume of Keeper cores and engines, their registers, the
virtual terminal, and boot images. The model's own choices in it: log entries 2, 168, 171 to 174. -/
def Obligations.DebuggerHaltsStepsAndReadsRegisters : Prop :=
  (∀ (s : State) (v : Word) (l : Nat), khOpen s = true → F.KH_AUTH.GO.of v = 1 → l = F.KH_AUTH.LVL.of v → l ≠ 3 → Completes (.auth v) s fun t =>
    if Config.khAuthMode = false then t = s
    else if s.kh.failAt.any (fun x => decide (s.dtcNow < x + 1000000000)) = true then
      t.flag F.KH_AUTH.AUTHWAIT 0 = true ∧ khLevelNow t = khLevelNow s ∧ t.freeCtr = s.freeCtr
    else (∀ k : Fin 4, t.rd F.KH_CHAL.VALUE k = Config.freeNat (s.freeCtr + k) % 2 ^ 32) ∧
      if khBytes s F.KH_RESP.VALUE = expectedResponse s l then khLevelNow t = l
      else khLevelNow t = khLevelNow s ∧ t.kh.failAt = some s.dtcNow ∧
        t.rd F.KH_AUTH.FAILS 0 = min (s.rd F.KH_AUTH.FAILS 0 + 1) (2 ^ F.KH_AUTH.FAILS.width - 1)) ∧
  (∀ (s : State) (c : Fin 4) (pc : BitVec 64) (i : Instr), s.rd (F.KP_CORE_STAT.RUN c) 0 = 1 →
      (i = .coreHalt c pc ∧ s.kh.haltAsk.getLsbD c = true) ∨ (i = .ebreakHalt c pc ∧ nbit (s.rd F.KH_CORE_CTL.EBRK 0) c = true) →
    Completes i s fun t =>
      coreHalted t c = true ∧ nbit (t.rd F.KH_CORE_STAT.HALTED 0) c = true ∧ (t.core c).pc = pc.toNat ∧ (t.core c).reserved = false ∧
      t.kh.haltAsk.getLsbD c = false ∧ lockstep t (c / 2) = false ∧ offersHold t ∧
      (lockstep s (c / 2) = true → nbit (t.rd F.KP_LSCTL.SPLIT 0) (c / 2) = true) ∧
      (∀ k : Nat, k ≠ c.val → t.core k = s.core k)) ∧
  (∀ (s : State) (c : Fin 4), khOpen s = true → 2 ≤ khLevelNow s → coreHalted s c = true → Completes (.coreResume c) s fun t =>
    t.rd (F.KP_CORE_STAT.RUN c) 0 = 1 ∧ nbit (t.rd F.KH_CORE_STAT.HALTED 0) c = false ∧
    nbit (t.rd F.KH_CORE_STAT.STEPPING 0) c = false ∧ t.core c = s.core c) ∧
  (∀ (s : State) (c : Fin 4) (pc : BitVec 64) (rd : Option (Fin 32 × BitVec 64)), coreHalted s c = true →
      nbit (s.rd F.KH_CORE_STAT.STEPPING 0) c = true → Completes (.coreStep c pc rd) s fun t =>
    (t.core c).pc = pc.toNat ∧ (t.core c).reserved = false ∧ coreHalted t c = true ∧ nbit (t.rd F.KH_CORE_STAT.STEPPING 0) c = false ∧
    ∀ (r : Fin 32) (v : BitVec 64), rd = some (r, v) → coreReg t c 0 r = if r.val = 0 then 0 else v) ∧
  (∀ (s : State) (sel : Word) (c sp k : Nat) (x : BitVec 64), khOpen s = true → 2 ≤ khLevelNow s → c = F.KH_CREG_SEL.CORE.of sel →
      sp = F.KH_CREG_SEL.SPACE.of sel → k = F.KH_CREG_SEL.NUM.of sel → sp ≠ 3 → x = coreReg s c sp k → Completes (.cregRead sel) s fun t =>
    if coreHalted s c = true then
      t.rd F.KH_CREG_LO.VALUE 0 = x.toNat % 2 ^ 32 ∧ t.rd F.KH_CREG_HI.VALUE 0 = x.toNat / 2 ^ 32 ∧ t.kp = s.kp
    else t.rd F.KH_STAT.CODE 0 = 5 ∧ t.kp = s.kp) ∧
  (∀ (s : State) (sel : Word) (v : BitVec 64) (c sp k : Nat), khOpen s = true → 2 ≤ khLevelNow s → c = F.KH_CREG_SEL.CORE.of sel →
      sp = F.KH_CREG_SEL.SPACE.of sel → k = F.KH_CREG_SEL.NUM.of sel → sp ≠ 3 → Completes (.cregWrite sel v) s fun t =>
    if coreHalted s c = true then
      coreReg t c sp k = (if sp = 0 ∧ (k = 0 ∨ 32 ≤ k) then 0 else v) ∧ ∀ j : Nat, j ≠ c → t.core j = s.core j
    else t.rd F.KH_STAT.CODE 0 = 5 ∧ t.kp = s.kp) ∧
  (∀ (s : State) (e : Fin 512), khOpen s = true → 2 ≤ khLevelNow s →
    (engineGranted s e 4 = false → ∀ i ∈ [Instr.engineHalt e, .engineStep e], Completes i s fun t =>
      t.rd F.KH_STAT.CODE 0 = 6 ∧ t.eng e = s.eng e) ∧
    (engineGranted s e 4 = true → 1 ≤ (s.eng e).run → (s.eng e).run ≤ 3 → (s.eng e).halted = false → Completes (.engineHalt e) s fun t =>
      t.rd F.KH_TMB_STAT.ENGINE 0 = e.val ∧
      t.eng e = if (s.eng e).noSlot then { s.eng e with halted := true } else { s.eng e with haltAsked := true }) ∧
    (engineGranted s e 4 = true → (s.eng e).halted = true → Completes (.engineStep e) s fun t => t.eng e = { s.eng e with stepping := true }) ∧
    ((s.eng e).halted = true → (s.eng e).stopping = false → (s.eng e).doneWait = false → Completes (.engineResume e) s fun t =>
      t.eng e = { s.eng e with halted := false, stepping := false, stopping := false })) ∧
  (∀ (s : State) (sel : Word) (e : Nat), khOpen s = true → 2 ≤ khLevelNow s → e = F.KH_TREG_SEL.ENGINE.of sel →
      F.KH_TREG_SEL.KIND.of sel ≤ 4 → Completes (.tregRead sel) s fun t =>
    t.eng e = s.eng e ∧
    if (s.eng e).halted = false ∧ (s.eng e).run ≠ 0 then t.rd F.KH_STAT.CODE 0 = 5
    else if engineGranted s e 4 = false then t.rd F.KH_STAT.CODE 0 = 6
    else t.reg .KH_TREG_DATA 0 = tregGet (s.eng e) (F.KH_TREG_SEL.KIND.of sel) (F.KH_TREG_SEL.INDEX.of sel) (F.KH_TREG_SEL.WORD.of sel)
      (F.KH_TREG_SEL.BANK.of sel != 0)) ∧
  (∀ (s : State) (sel v : Word) (e : Nat), khOpen s = true → 2 ≤ khLevelNow s → e = F.KH_TREG_SEL.ENGINE.of sel →
      F.KH_TREG_SEL.KIND.of sel ≤ 4 → Completes (.tregWrite sel v) s fun t =>
    (∀ k : Nat, k ≠ e → t.eng k = s.eng k) ∧
    if (s.eng e).halted = false ∧ (s.eng e).run ≠ 0 then t.rd F.KH_STAT.CODE 0 = 5 ∧ t.eng e = s.eng e
    else if engineGranted s e 3 = false then t.rd F.KH_STAT.CODE 0 = 6 ∧ t.eng e = s.eng e
    else t.eng e = tregSet (F.KH_TREG_SEL.KIND.of sel) (F.KH_TREG_SEL.INDEX.of sel) (F.KH_TREG_SEL.WORD.of sel)
      (F.KH_TREG_SEL.BANK.of sel != 0) v (s.eng e)) ∧
  (∀ (s : State) (v : Word), Completes (.vtTxWrite v) s fun t =>
    t.flag F.KH_VT_STAT.TXFULL 0 = true ∧
    if s.flag F.KH_VT_STAT.TXFULL 0 = true then t.flag F.KH_VT_STAT.OVR 0 = true ∧ t.reg .KH_VT_TX 0 = s.reg .KH_VT_TX 0
    else t.reg .KH_VT_TX 0 = v) ∧
  (∀ (s : State), khOpen s = true → 1 ≤ khLevelNow s → Completes .vtTxRead s fun t =>
    t.flag F.KH_VT_STAT.TXFULL 0 = false ∧ t.rdata = (if s.flag F.KH_VT_STAT.TXFULL 0 then s.reg .KH_VT_TX 0 else 0) ∧
    (s.flag F.KH_VT_STAT.TXFULL 0 = true → s.flag F.KH_VT_EN.TXEVT 0 = true → (t.src 48).st = raisedState s 48)) ∧
  (∀ (s : State) (v : Word), khOpen s = true → 1 ≤ khLevelNow s → Completes (.vtRxWrite v) s fun t =>
    t.flag F.KH_VT_STAT.RXFULL 0 = true ∧
    if s.flag F.KH_VT_STAT.RXFULL 0 = true then t.flag F.KH_VT_STAT.OVR 0 = true ∧ t.reg .KH_VT_RX 0 = s.reg .KH_VT_RX 0
    else t.reg .KH_VT_RX 0 = v ∧ (s.flag F.KH_VT_EN.RXEVT 0 = true → (t.src 48).st = raisedState s 48)) ∧
  (∀ (s : State), Completes .vtRxRead s fun t =>
    t.flag F.KH_VT_STAT.RXFULL 0 = false ∧ t.rdata = if s.flag F.KH_VT_STAT.RXFULL 0 then s.reg .KH_VT_RX 0 else 0) ∧
  (∀ (s : State) (v : Word) (len : Nat) (img : List Byte), khOpen s = true → s.rd F.CFG_BOOT_STAT.STAGE 0 = 0 ∨ s.rd F.CFG_BOOT_STAT.STAGE 0 = 5 →
      s.flag F.KH_IMG_CTL.READY 0 = true → len = s.rd F.KH_IMG_CTL.LEN 0 → len ≠ 0 → img = s.kh.img ++ natBytes 4 v.toNat →
    Completes (.khImgData v) s fun t =>
      if img.length < 4 * len then t.kh.img = img ∧ t.kh.images = s.kh.images ∧ t.regs = s.regs
      else t.kh.img = [] ∧ t.kh.images = s.kh.images ++ [img] ∧ t.rd F.KH_IMG_CTL.LEN 0 = 0)

/-! ### Registers (chapter 1) -/

/-- Register access (R7–R11, R83, R369, R411, R481): a write takes effect field by field under the access codes, a clearing read returns the
value and then clears its RC fields, which take what the device sets in the same cycle; a request at the register hub reads or writes the
register its address names, a debug read without side effects; a host reaches nothing but its own head's frame. The model's own choices in it:
log entries 3, 34, 36, 178, 179. -/
def Obligations.RegistersFollowTheirAccessCodes : Prop :=
  (∀ (s : State) (a : Actor) (r : RegName) (i : Nat) (v : Word), Plain r → i < regCopies r → (∀ n, a ≠ .host n) →
    Completes (.registerWrite a r i v) s fun t => FieldsWritten r i v s t ∧ Touches [r] [] s t) ∧
  (∀ (s : State) (n : Fin 16) (r : RegName) (i : Nat) (v : Word), shxHead r i ≠ some n.val →
    Completes (.registerWrite (.host n) r i v) s fun t => t = s) ∧
  (∀ (s : State) (r : RegName) (i : Nat) (same : Word), Plain r → r ≠ .CLK_DTC_LO → r ≠ .EVC_CLAIM → i < regCopies r →
    Completes (.clearingRead r i same) s fun t =>
      t.rdata = regView r i s ∧ Touches [r] [.rdata] s t ∧ (∀ j : Nat, j ≠ i → t.reg r j = s.reg r j) ∧
      (∀ f ∈ regFields r i, getF (t.reg r i) f.lo f.width =
        if f.acc = .RC then getF same f.lo f.width else getF (s.reg r i) f.lo f.width) ∧
      ∀ k : Fin 32, (∀ f ∈ regFields r i, k.val < f.lo ∨ f.lo + f.width ≤ k.val) → getF (t.reg r i) k 1 = getF (s.reg r i) k 1) ∧
  (∀ (s : State) (src : BitVec 13) (txn : BitVec 8) (q : Req) (r : RegName) (i : Nat), arriving s src.toNat txn.toNat = some q →
      q.op = .write → q.dst = hubEp → regAt (regOffset q) = some (r, i) → Plain r → i < regCopies r → HubReaches s q (blockEp r i) →
    Completes (.regWrite (.flit src txn) none) s fun t =>
      FieldsWritten r i (q.data.extractLsb' (8 * (q.da % 64 / 4 * 4)) 32) s t ∧ Touches [r] [.net] s t ∧
      t.net = { s.net with
        way := t.net.way
        reqs := s.net.reqs.erase q
        resps := s.net.resps ++ [⟨q.dst, q.src, q.txn, q.tag, .ack, q.intent⟩] }) ∧
  (∀ (s : State) (src : BitVec 13) (txn : BitVec 8) (q : Req) (r : RegName) (i : Nat), arriving s src.toNat txn.toNat = some q →
      q.op = .read → q.dst = hubEp → regAt (regOffset q) = some (r, i) → Plain r → r ≠ .CLK_DTC_LO → r ≠ .EVC_CLAIM →
      HubReaches s q (blockEp r i) →
    Completes (.regRead (.flit src txn) none) s fun t =>
      Touches [r] [.net] s t ∧
      t.net = { s.net with
        way := t.net.way
        reqs := s.net.reqs.erase q
        resps := s.net.resps ++
          [⟨q.dst, q.src, q.txn, q.tag, .data (((regView r i s).setWidth 512).shiftLeft (8 * (q.da % 64))), q.intent⟩] } ∧
      ∀ f ∈ regFields r i, getF (t.reg r i) f.lo f.width =
        if f.acc = .RC ∧ q.tag ≠ debugTag then 0 else getF (s.reg r i) f.lo f.width) ∧
  (∀ (s u : State) (src : BitVec 13) (txn : BitVec 8) (q : Req) (r : RegName) (i : Nat), arriving s src.toNat txn.toNat = some q →
      q.dst = hubEp → regAt (regOffset q) = some (r, i) → reach (.req q.src q.txn) s = some u → blockEp r i ≠ hubEp →
      leafRoute s (epLeaf hubEp) (epLeaf (blockEp r i)) = none →
    ∀ c ∈ [(NetOp.read, Instr.regRead (.flit src txn) none), (NetOp.write, Instr.regWrite (.flit src txn) none)], q.op = c.1 →
      Completes c.2 s fun t =>
        Touches [.KRV_ELOG0, .KRV_ELOG1, .KRV_ELOG2] [.net] s t ∧ t.net.reqs = s.net.reqs.erase q ∧
        t.net.resps = s.net.resps ++ [⟨q.dst, q.src, q.txn, q.tag, .error 6 0, q.intent⟩]) ∧
  (∀ (s : State) (src : BitVec 13) (txn : BitVec 8) (q : Req) (d : Fin 1152), arriving s src.toNat txn.toNat = some q → q.dst = hubEp →
      (reach (.req q.src q.txn) s).isSome = true → crcFails (reqFlitsOf q) (some d) = true →
    ∀ c ∈ [(NetOp.read, Instr.regRead (.flit src txn) (some d)), (NetOp.write, Instr.regWrite (.flit src txn) (some d))], q.op = c.1 →
      Completes c.2 s fun t =>
        Touches [.KRV_CRCDROP] [.net] s t ∧ t.net = { s.net with way := t.net.way, reqs := s.net.reqs.erase q } ∧
        t.rd F.KRV_CRCDROP.COUNT 0 = min (s.rd F.KRV_CRCDROP.COUNT 0 + 1) (2 ^ F.KRV_CRCDROP.COUNT.width - 1)) ∧
  (∀ (s : State) (c : Fin 4) (da : BitVec 48) (len : Nat) (data : Line) (bad : Option (Fin 1152)) (x : Nat) (t : State),
    (keeperAccess (.core c) .read coreEp da.toNat len 0 s = (some x, t) →
      exec (.regRead (.core c da len data) bad) s = .next (hubArrives .read coreEp x bad t)) ∧
    (keeperAccess (.core c) .write coreEp da.toNat len data s = (some x, t) →
      exec (.regWrite (.core c da len data) bad) s = .next (hubArrives .write coreEp x bad t)))

/-! ### Resets (chapter 17) -/

/-- Device-wide resets (R42, R45, R46, R58, R61, R62, R424, R426, R440–R443, R446, R472): each trigger records its class and its cause, keeps
what survives and begins a new attempt; a Keyhole reset holds the device until nRST_KH is released; power-on keeps no register. The model's own
choices in it: log entries 5, 11, 156, 180, 184. -/
def Obligations.DeviceWideResetsBeginANewAttempt : Prop :=
  (∀ (s : State) (cause leaf stepNo : Nat) (hc : cause < 8) (hl : leaf < 4) (hn : stepNo < 8), 1 ≤ cause → cause ≤ 5 →
    Completes (.clockFailReset ⟨cause, hc⟩ ⟨leaf, hl⟩ ⟨stepNo, hn⟩) s fun t =>
      ResetOf 2 (some (cause, if cause = 3 then leaf else 0, if cause = 5 then stepNo else 0)) s t ∧ AttemptBegun s t) ∧
  (∀ s : State, 3 ≤ s.clk.step → s.clk.step ≤ 5 → Completes .startupTimeout s fun t =>
    ResetOf 2 (some (5, 0, s.clk.step + 1)) s t ∧ AttemptBegun s t) ∧
  (∀ s : State, s.flag F.CLK_ROOT_STAT.RELOCK 0 = true → Completes .relockTimeout s fun t =>
    ∃ l : Fin 4, ResetOf 2 (some (3, l, 0)) s t ∧ AttemptBegun s t ∧
      ((∃ k : Fin 4, (nbit (s.rd F.CLK_ROOT_STAT.LOCK 0) k && nbit (s.rd F.CLK_ROOT_STAT.ALIGNED 0) k) = false) →
        (nbit (s.rd F.CLK_ROOT_STAT.LOCK 0) l && nbit (s.rd F.CLK_ROOT_STAT.ALIGNED 0) l) = false)) ∧
  (∀ (s : State) (leaf : Fin 4), 16 ≤ sget 0 s.clk.lockRun leaf ∨ 16 ≤ sget 0 s.clk.phaseRun leaf →
    Completes (.alignmentFault leaf) s fun t =>
    ResetOf 2 (some (3, leaf, 0)) s t ∧ AttemptBegun s t) ∧
  (∀ s : State, s.rd F.CLK_MON_STAT.RUN 0 = 16 → Completes .monitorReset s fun t =>
    ResetOf 2 (some (if s.clk.refMissing then 1 else 2, 0, 0)) s t ∧ AttemptBegun s t) ∧
  (∀ (s : State) (counts : List Nat), s.flag F.CLK_ROOT_STAT.EPOCH 0 = true → counts.length = 16 →
      (∀ n ∈ counts, 10 * n * s.rd F.CLK_ROOT_CFG.MULT 0 < 9 * 32768 ∨ 11 * 32768 < 10 * n * s.rd F.CLK_ROOT_CFG.MULT 0) →
    Completes (.koscFault counts) s fun t => ResetOf 2 (some (4, 0, 0)) s t ∧ AttemptBegun s t) ∧
  (∀ s : State, wdtExpired s 4 = true → Completes .deviceWatchdogReset s fun t => ResetOf 3 none s t ∧ AttemptBegun s t) ∧
  (∀ (s : State) (v : Word), Completes (.sherexDeviceReset v) s fun t =>
    if F.PWR_RST_CTL.KEY.of v = 0xA5 ∧ F.PWR_RST_CTL.GO.of v = 1 then ResetOf 4 none s t ∧ AttemptBegun s t else t = s) ∧
  (∀ s : State, s.clk.koscOn = true → s.clk.strapsLatched = true → s.kh.held = false → Completes .keyholeReset s fun t =>
    ResetOf 1 none s t ∧ t.reg .PWR_BOOTCNT 0 = s.reg .PWR_BOOTCNT 0 ∧ t.clk.step = 1 ∧ t.kh.held = true) ∧
  (∀ s : State, s.kh.held = true → Completes .keyholeRelease s fun t =>
    t.kh = { s.kh with held := false } ∧ Touches [.PWR_BOOTCNT, .CLK_STRAP] [.kh, .clk] s t ∧
    if s.clk.strapsLatched then AttemptBegun s t else t.regs = s.regs ∧ t.clk = s.clk) ∧
  (∀ s : State, Completes .powerOnReset s fun t =>
    (∀ r, r ≠ .PWR_SUP_STAT → ∀ i, t.reg r i = regReset r i) ∧ t.clk = .init ∧ t.shx.floor = s.shx.floor ∧ t.shx.keys = s.shx.keys ∧
    t.shx.flash = s.shx.flash ∧ t.memGen = s.memGen + 1)

/-! ### The whole machine -/

/-- PWR_BOOTCNT and PWR_RST_CAUSE (R441): every attempt counts once at the start of its step 2, up to the largest value; nothing but power-on
brings the count down or clears the sticky bit of a class; a device-wide reset records its class; after a clean power-on the count is 1. -/
def Obligations.BootCountAndCauseLastUntilPowerOn : Prop :=
  (∀ s t : State, step s = .next t → s.pending.head? ≠ some .powerOnReset →
    (t.rd F.PWR_BOOTCNT.COUNT 0 = s.rd F.PWR_BOOTCNT.COUNT 0 ∨
      t.rd F.PWR_BOOTCNT.COUNT 0 = min (s.rd F.PWR_BOOTCNT.COUNT 0 + 1) 0xFFFF) ∧
    ∀ k : Fin 5, nbit (s.rd F.PWR_RST_CAUSE.SEEN 0) k = true → nbit (t.rd F.PWR_RST_CAUSE.SEEN 0) k = true) ∧
  (∀ (s : State) (xsel : BitVec 1) (xdly : BitVec 2) (mode : BitVec 3), s.clk.step = 1 → s.clk.koscOn = true →
      s.clk.strapsLatched = false → s.kh.held = false →
    Completes (.koscStable xsel xdly mode) s fun t =>
      2 ≤ t.clk.step ∧ t.rd F.PWR_BOOTCNT.COUNT 0 = min (s.rd F.PWR_BOOTCNT.COUNT 0 + 1) 0xFFFF) ∧
  (∀ s : State, s.kh.held = true → s.clk.strapsLatched = true → Completes .keyholeRelease s fun t =>
    2 ≤ t.clk.step ∧ t.rd F.PWR_BOOTCNT.COUNT 0 = min (s.rd F.PWR_BOOTCNT.COUNT 0 + 1) 0xFFFF) ∧
  (∀ (s : State) (v : Word) (leaf : Fin 4) (cause : Fin 8) (stepNo : Fin 8) (counts : List Nat), ∀ x ∈ [
      (1, Instr.keyholeReset, s.clk.koscOn && s.clk.strapsLatched && !s.kh.held),
      (2, .clockFailReset cause leaf stepNo, decide (1 ≤ cause.val ∧ cause.val ≤ 5)),
      (2, .startupTimeout, decide (3 ≤ s.clk.step ∧ s.clk.step ≤ 5)), (2, .relockTimeout, s.flag F.CLK_ROOT_STAT.RELOCK 0),
      (2, .alignmentFault leaf, alignFault s leaf), (2, .monitorReset, s.rd F.CLK_MON_STAT.RUN 0 == 16),
      (2, .koscFault counts, s.flag F.CLK_ROOT_STAT.EPOCH 0 && counts.length == 16 && counts.all (koscOff (s.rd F.CLK_ROOT_CFG.MULT 0))),
      (3, .deviceWatchdogReset, wdtExpired s 4),
      (4, .sherexDeviceReset v, decide (F.PWR_RST_CTL.KEY.of v = 0xA5 ∧ F.PWR_RST_CTL.GO.of v = 1))],
    x.2.2 = true → Completes x.2.1 s fun t =>
      t.rd F.PWR_RST_CAUSE.LAST 0 = x.1 ∧ nbit (t.rd F.PWR_RST_CAUSE.SEEN 0) x.1 = true ∧
      (x.1 ≠ 1 → 2 ≤ t.clk.step ∧ t.rd F.PWR_BOOTCNT.COUNT 0 = min (s.rd F.PWR_BOOTCNT.COUNT 0 + 1) 0xFFFF)) ∧
  (∀ s : State, Completes .powerOnReset s fun t =>
    t.rd F.PWR_BOOTCNT.COUNT 0 = 0 ∧ t.rd F.PWR_RST_CAUSE.LAST 0 = 0) ∧
  (∀ (s : State) (xsel : BitVec 1) (xdly : BitVec 2) (mode : BitVec 3), ∃ t1 t2 t3 : State, exec .powerOnReset s = .next t1 ∧
    exec (.suppliesGood false) t1 = .next t2 ∧ exec (.koscStable xsel xdly mode) t2 = .next t3 ∧ t3.rd F.PWR_BOOTCNT.COUNT 0 = 1)

/-- One step (log entry 28 for the second clause): the command at the front of the queue acts on the state with the queue's rest; on an empty queue
the block idles for one TBC edge. -/
def Obligations.StepTakesTheFrontOrIdles : Prop :=
  (∀ (s : State) (c : Instr) (rest : List Instr), step { s with pending := c :: rest } = exec c { s with pending := rest }) ∧
  ∀ s : State, s.pending = [] → step s = .next (idle s)

/-- The state after reset (R11): its stores are canonical, no command waits, the device is held in power-on reset, and registers of every block
hold the values of the Reset columns. The model's own choices in it: log entry 147. -/
def Obligations.ResetIsCanonicalAndHoldsTheTablesValues : Prop :=
  Canonical State.reset ∧ State.reset.pending = [] ∧ State.reset.clk.step = 0 ∧
  ∀ x ∈ [(F.CLK_ROOT_CFG.MULT, 0, 64), (F.CLK_MON_CTL.AUTOSW, 0, 1), (F.CLK_KCK_CTL.DIV, 0, 8), (F.CLK_CCK_CTL.DIV, 0, 16),
      (F.KRV_TMO.TMO, 0, 1000), (F.KRV_KNK_THR.REPLAY_MAX, 0, 16), (F.KRV_KNK_SPARE.RET0, 3, 31), (F.KRV_KNK_STAT.SPARES_LEFT, 1, 2),
      (F.MEM_SCR_CTL.EN, 2, 1), (F.MEM_SCR_PERIOD.PERIOD, 0, 1000), (F.TMB_TW_CFG.SIZE, 5, 12), (F.LNK_TMO.TRAIN, 0, 100),
      (F.LNK_HCTL.HOLD, 15, 1), (F.LNK_HTHR.THR, 3, 8), (F.COH_BITMO.TMO, 0, 100), (F.DDR_CTL.PGTMO, 11, 32), (F.DDR_SCHED.WHI, 0, 48),
      (F.DDR_SCHED.WLO, 0, 16), (F.DDR_SCHED.AGEMAX, 0, 256), (F.DDR_ECC_CTL.PERMWIN, 4, 24), (F.DDR_ECC_CTL.DEVTHR, 4, 16),
      (F.CFG_LDTMO.STALL, 0, 10), (F.CFG_RGN_CFG.OWNER, 63, 31), (F.CFG_IDENT.PART, 0, 0x28F0), (F.SCB_FIXTMO.TMO, 0, 100),
      (F.KP_LSCTL.LSMODE, 0, 3), (F.KP_WDT_TMO.TMO, 4, 1000), (F.WRD_GRTMO.TMO, 0, 1000), (F.WRD_THERM.WARN, 0, 100),
      (F.SHX_IDENT.HEAD, 9, 9), (F.EVC_SRC.GROUP, 300, 18), (F.PWR_MODE_STAT.REFUSER, 0, 0x7F), (F.PWR_MODE_TMO.TMO, 0, 100)],
    State.reset.rd x.1 x.2.1 = x.2.2

/-- The invariant of the stores: every step, of a command or of the idle block, keeps them canonical, from whatever state. -/
def Obligations.StepKeepsTheStoresCanonical : Prop := ∀ s t : State, Canonical s → step s = .next t → Canonical t

/-- The frame of every command: it answers a next state, whatever its operands and the state; the queue is the one it was given, and no register
and no part of the state outside the command's footprint changes. -/
def Obligations.EveryCommandCompletesWithinItsFootprint : Prop :=
  ∀ (c : Instr) (s : State), Completes c s fun t => Touches (footprint c).1 (footprint c).2 s t
end

