-- ==== Sys2Proof/Laws/Sparse.lean ====
section
/-! SUPPORT. The laws of the sparse stores: a read after a write, and the canonical form kept by every operation. -/

namespace Sys2Proof.Machine
open Sys2Proof

variable {α : Type}

theorem sget_serase_self (d : α) (l : Sparse α) (k : Nat) : sget d (serase l k) k = d := by
  induction l with
  | nil => rfl
  | cons p l ih =>
    obtain ⟨k', v⟩ := p
    by_cases h : k = k'
    · subst h; simpa [serase] using ih
    · simp [serase, sget, h, ih]

theorem sget_serase_ne (d : α) (l : Sparse α) {k k' : Nat} (h : k' ≠ k) : sget d (serase l k) k' = sget d l k' := by
  induction l with
  | nil => rfl
  | cons p l ih =>
    obtain ⟨j, v⟩ := p
    by_cases hj : k = j
    · subst hj; simp [serase, sget, h, ih]
    · by_cases hk : k' = j
      · simp [serase, sget, hj, hk]
      · simp [serase, sget, hj, hk, ih]

theorem sget_sinsert_self (d : α) (l : Sparse α) (k : Nat) (v : α) (h : ∀ p ∈ l, p.1 ≠ k) : sget d (sinsert l k v) k = v := by
  induction l with
  | nil => simp [sinsert, sget]
  | cons p l ih =>
    obtain ⟨j, w⟩ := p
    have hj : j ≠ k := h (j, w) (by simp)
    by_cases hlt : k < j
    · simp [sinsert, sget, hlt]
    · have := ih (fun p hp => h p (by simp [hp]))
      simp [sinsert, sget, hlt, this, Ne.symm hj]

theorem sget_sinsert_ne (d : α) (l : Sparse α) {k k' : Nat} (v : α) (h : k' ≠ k) : sget d (sinsert l k v) k' = sget d l k' := by
  induction l with
  | nil => simp [sinsert, sget, h]
  | cons p l ih =>
    obtain ⟨j, w⟩ := p
    by_cases hlt : k < j
    · simp [sinsert, sget, hlt, h]
    · by_cases hk : k' = j
      · simp [sinsert, sget, hlt, hk]
      · simp [sinsert, sget, hlt, hk, ih]

theorem serase_keys (l : Sparse α) (k : Nat) : ∀ p ∈ serase l k, p.1 ≠ k ∧ p ∈ l := by
  induction l with
  | nil => simp [serase]
  | cons q l ih =>
    obtain ⟨j, w⟩ := q
    by_cases hj : k = j
    · intro p hp
      subst hj
      have := ih p (by simpa [serase] using hp)
      exact ⟨this.1, List.mem_cons_of_mem _ this.2⟩
    · intro p hp
      simp [serase, hj] at hp
      rcases hp with hp | hp
      · subst hp; exact ⟨fun e => hj e.symm, by simp⟩
      · have := ih p hp
        exact ⟨this.1, List.mem_cons_of_mem _ this.2⟩

/-- A read after a write to the same key. -/
@[simp] theorem sget_sset_self [DecidableEq α] (d : α) (l : Sparse α) (k : Nat) (v : α) : sget d (sset d l k v) k = v := by
  unfold sset
  split
  · rename_i h; subst h; exact sget_serase_self _ _ _
  · exact sget_sinsert_self _ _ _ _ (fun p hp => (serase_keys l k p hp).1)

/-- A write leaves every other key alone. -/
theorem sget_sset_ne [DecidableEq α] (d d' : α) (l : Sparse α) {k k' : Nat} (v : α) (h : k' ≠ k) :
    sget d' (sset d l k v) k' = sget d' l k' := by
  unfold sset
  split
  · exact sget_serase_ne _ _ h
  · rw [sget_sinsert_ne _ _ _ h, sget_serase_ne _ _ h]

theorem mem_sinsert (l : Sparse α) (k : Nat) (v : α) (p : Nat × α) : p ∈ sinsert l k v ↔ p = (k, v) ∨ p ∈ l := by
  induction l with
  | nil => simp [sinsert]
  | cons q l ih =>
    obtain ⟨j, w⟩ := q
    by_cases hlt : k < j
    · simp [sinsert, hlt]
    · simp [sinsert, hlt, ih]; tauto

theorem serase_pairwise (l : Sparse α) (k : Nat) (h : l.Pairwise (fun a b => a.1 < b.1)) :
    (serase l k).Pairwise (fun a b => a.1 < b.1) := by
  induction l with
  | nil => simp [serase]
  | cons q l ih =>
    obtain ⟨j, w⟩ := q
    rw [List.pairwise_cons] at h
    by_cases hj : k = j
    · subst hj; simpa [serase] using ih h.2
    · simp only [serase, if_neg hj, List.pairwise_cons]
      exact ⟨fun p hp => h.1 p (serase_keys l k p hp).2, ih h.2⟩

theorem sinsert_pairwise (l : Sparse α) (k : Nat) (v : α) (h : l.Pairwise (fun a b => a.1 < b.1)) (hk : ∀ p ∈ l, p.1 ≠ k) :
    (sinsert l k v).Pairwise (fun a b => a.1 < b.1) := by
  induction l with
  | nil => simp [sinsert]
  | cons q l ih =>
    obtain ⟨j, w⟩ := q
    rw [List.pairwise_cons] at h
    have hj : j ≠ k := hk (j, w) (by simp)
    by_cases hlt : k < j
    · simp only [sinsert, if_pos hlt, List.pairwise_cons]
      refine ⟨fun p hp => ?_, h.1, h.2⟩
      rcases List.mem_cons.mp hp with hp | hp
      · subst hp; exact hlt
      · exact lt_trans hlt (h.1 p hp)
    · simp only [sinsert, if_neg hlt, List.pairwise_cons]
      refine ⟨fun p hp => ?_, ih h.2 (fun p hp => hk p (by simp [hp]))⟩
      rcases (mem_sinsert _ _ _ _).mp hp with hp | hp
      · subst hp; simp only; omega
      · exact h.1 p hp

/-- A write keeps the canonical form. -/
theorem swf_sset [DecidableEq α] (d : Nat → α) (l : Sparse α) (k : Nat) (v : α) (h : swf d l) : swf d (sset (d k) l k v) := by
  obtain ⟨h1, h2⟩ := h
  unfold sset
  split
  · exact ⟨serase_pairwise l k h1, fun p hp => h2 p (serase_keys l k p hp).2⟩
  · rename_i hv
    refine ⟨sinsert_pairwise _ _ _ (serase_pairwise l k h1) (fun p hp => (serase_keys l k p hp).1), fun p hp => ?_⟩
    rcases (mem_sinsert _ _ _ _).mp hp with hp | hp
    · subst hp; exact hv
    · exact h2 p (serase_keys l k p hp).2

/-- The empty store is canonical. -/
theorem swf_nil (d : Nat → α) : swf d ([] : Sparse α) := ⟨List.Pairwise.nil, by simp⟩

/-- A store some of whose entries are dropped stays canonical. -/
theorem swf_filter (d : Nat → α) (l : Sparse α) (q : Nat × α → Bool) (h : swf d l) : swf d (l.filter q) :=
  ⟨h.1.filter q, fun p hp => h.2 p (List.mem_of_mem_filter hp)⟩

/-- Two canonical stores that read alike are the same list. -/
theorem swf_foldl_sset [DecidableEq α] {β : Type} (d : Nat → α) (l : List β) (m : Sparse α) (k : β → Nat) (v : β → α) (h : swf d m) :
    swf d (l.foldl (fun m b => sset (d (k b)) m (k b) (v b)) m) := by
  induction l generalizing m with
  | nil => exact h
  | cons b l ih => exact ih _ (swf_sset d m _ _ h)

theorem sget_of_mem (d : α) (l : Sparse α) (h : l.Pairwise (fun a b => a.1 < b.1)) (p : Nat × α) (hp : p ∈ l) : sget d l p.1 = p.2 := by
  induction l with
  | nil => simp at hp
  | cons q l ih =>
    obtain ⟨j, w⟩ := q
    rw [List.pairwise_cons] at h
    rcases List.mem_cons.mp hp with hp | hp
    · subst hp; simp [sget]
    · have := h.1 p hp
      have hne : p.1 ≠ j := by simp only at this; omega
      simp [sget, hne, ih h.2 hp]

end Sys2Proof.Machine
end

