-- ==== Sys2Proof/Laws/Registers.lean ====
section
/-! SUPPORT. The laws of bit fields and of the register store: a read after a write of the same field, and every other field unchanged. -/

namespace Sys2Proof.Machine
open Sys2Proof

/-! ### Fields of a word -/

theorem getF_testBit (w : Word) (lo n k : Nat) : (getF w lo n).testBit k = (decide (k < n) && w.getLsbD (lo + k)) := by
  simp [getF, Nat.testBit_mod_two_pow, Nat.testBit_shiftRight, BitVec.getLsbD]

theorem setF_getLsbD (w : Word) (lo n v k : Nat) (hk : k < 32) :
    (setF w lo n v).getLsbD k = if lo ≤ k ∧ k < lo + n then v.testBit (k - lo) else w.getLsbD k := by
  simp only [setF, BitVec.getLsbD_or, BitVec.getLsbD_and, BitVec.getLsbD_not, BitVec.getLsbD_shiftLeft, BitVec.getLsbD_ofNat,
    Nat.testBit_two_pow_sub_one, Nat.testBit_mod_two_pow, hk, decide_true, Bool.true_and]
  by_cases h1 : k < lo
  · have h2 : ¬ (lo ≤ k ∧ k < lo + n) := by omega
    simp [h1, h2]
  · have h3 : k - lo < 32 := by omega
    by_cases h4 : k - lo < n
    · have h2 : lo ≤ k ∧ k < lo + n := by omega
      simp [h1, h2, h3, h4]
    · have h2 : ¬ (lo ≤ k ∧ k < lo + n) := by omega
      simp [h1, h2, h3, h4]

/-- A field read after it is written holds the value, cut to its width. -/
theorem getF_setF_same (w : Word) (lo n v : Nat) (h : lo + n ≤ 32) : getF (setF w lo n v) lo n = v % 2 ^ n := by
  apply Nat.eq_of_testBit_eq
  intro k
  rw [getF_testBit, Nat.testBit_mod_two_pow]
  by_cases hk : k < n
  · rw [setF_getLsbD _ _ _ _ _ (by omega)]
    have : lo ≤ lo + k ∧ lo + k < lo + n := by omega
    simp [hk, this]
  · simp [hk]

/-- A write of one field leaves a field beside it alone. -/
theorem getF_setF_other (w : Word) (lo n lo' n' v : Nat) (h : lo + n ≤ lo' ∨ lo' + n' ≤ lo) :
    getF (setF w lo n v) lo' n' = getF w lo' n' := by
  apply Nat.eq_of_testBit_eq
  intro k
  rw [getF_testBit, getF_testBit]
  by_cases hk : k < n'
  · by_cases h32 : lo' + k < 32
    · rw [setF_getLsbD _ _ _ _ _ h32, if_neg (by omega)]
    · have e1 : (setF w lo n v).getLsbD (lo' + k) = false := BitVec.getLsbD_of_ge _ _ (by omega)
      have e2 : w.getLsbD (lo' + k) = false := BitVec.getLsbD_of_ge _ _ (by omega)
      rw [e1, e2]
  · simp [hk]

/-- A field is below the power of its width. -/
theorem getF_lt (w : Word) (lo n : Nat) : getF w lo n < 2 ^ n := Nat.mod_lt _ (Nat.two_pow_pos n)

theorem b2n_lt (b : Bool) : b2n b < 2 := by cases b <;> decide

@[simp] theorem b2n_true : b2n true = 1 := rfl
@[simp] theorem b2n_false : b2n false = 0 := rfl
@[simp] theorem b2n_mod_two (b : Bool) : b2n b % 2 = b2n b := by cases b <;> rfl
@[simp] theorem b2n_bne_zero (b : Bool) : (b2n b != 0) = b := by cases b <;> rfl

/-! ### The register store -/

theorem RegName.ctorIdx_lt (r : RegName) : r.ctorIdx < 1024 := by cases r <;> decide

theorem RegName.ctorIdx_inj {r q : RegName} (h : r.ctorIdx = q.ctorIdx) : r = q := by
  rw [← RegName.ofNat_ctorIdx r, ← RegName.ofNat_ctorIdx q, h]

theorem regKey_inj {r q : RegName} {i j : Nat} (h : regKey r i = regKey q j) : r = q ∧ i = j := by
  have h1 := RegName.ctorIdx_lt r
  have h2 := RegName.ctorIdx_lt q
  unfold regKey at h
  have : i = j := by omega
  refine ⟨RegName.ctorIdx_inj (by omega), this⟩

@[simp] theorem reg_setReg_same (s : State) (r : RegName) (i : Nat) (v : Word) : (s.setReg r i v).reg r i = v := by
  simp [State.reg, State.setReg]

theorem reg_setReg_ne (s : State) {r q : RegName} {i j : Nat} (v : Word) (h : ¬ (q = r ∧ j = i)) :
    (s.setReg r i v).reg q j = s.reg q j := by
  simp only [State.reg, State.setReg]
  exact sget_sset_ne _ _ _ _ (fun e => h (regKey_inj e))

theorem reg_setReg_reg_ne (s : State) {r q : RegName} (i j : Nat) (v : Word) (h : q ≠ r) : (s.setReg r i v).reg q j = s.reg q j :=
  reg_setReg_ne s v (fun e => h e.1)

/-- The registers of two states are equal when their stores are. -/
theorem reg_congr {s t : State} (h : t.regs = s.regs) (r : RegName) (i : Nat) : t.reg r i = s.reg r i := by
  simp [State.reg, h]

theorem rd_congr {s t : State} (h : t.regs = s.regs) (f : Fld) (i : Nat) : t.rd f i = s.rd f i := by
  simp [State.rd, reg_congr h]

theorem flag_congr {s t : State} (h : t.regs = s.regs) (f : Fld) (i : Nat) : t.flag f i = s.flag f i := by
  simp [State.flag, rd_congr h]

/-- A field read after it is written. -/
theorem rd_wr_same (s : State) (f : Fld) (i v : Nat) (h : f.lo + f.width ≤ 32) : (s.wr f i v).rd f i = v % 2 ^ f.width := by
  simp [State.rd, State.wr, getF_setF_same _ _ _ _ h]

/-- Two fields that share no bit of one copy of one register. -/
abbrev Fld.apart (f g : Fld) (i j : Nat) : Prop :=
  f.reg ≠ g.reg ∨ i ≠ j ∨ f.lo + f.width ≤ g.lo ∨ g.lo + g.width ≤ f.lo

/-- A write of a field leaves every other field alone. -/
theorem rd_wr_other (s : State) (f g : Fld) (i j v : Nat) (h : f.apart g i j) : (s.wr f i v).rd g j = s.rd g j := by
  simp only [State.rd, State.wr]
  by_cases e : g.reg = f.reg ∧ j = i
  · obtain ⟨e1, e2⟩ := e
    subst e2
    rw [e1, reg_setReg_same]
    refine getF_setF_other _ _ _ _ _ _ ?_
    rcases h with h | h | h | h
    · exact absurd e1.symm h
    · exact absurd rfl h
    · exact Or.inl h
    · exact Or.inr h
  · rw [reg_setReg_ne _ _ e]

theorem flag_wr_other (s : State) (f g : Fld) (i j v : Nat) (h : f.apart g i j) : (s.wr f i v).flag g j = s.flag g j := by
  simp [State.flag, rd_wr_other _ _ _ _ _ _ h]

/-- A write of a field changes no other register. -/
theorem reg_wr_ne (s : State) (f : Fld) (i v : Nat) {q : RegName} {j : Nat} (h : ¬ (q = f.reg ∧ j = i)) :
    (s.wr f i v).reg q j = s.reg q j := reg_setReg_ne s _ h

theorem reg_wr_same (s : State) (f : Fld) (i v : Nat) : (s.wr f i v).reg f.reg i = setF (s.reg f.reg i) f.lo f.width v := by
  simp [State.wr]

end Sys2Proof.Machine
end

