-- ==== Sys2Proof/Laws/Keeps.lean ====
section
/-! SUPPORT. What an operation of the block can change: the frame of each is one `Keeps`, with the registers and the parts of the state it may
write as two masks, and the canonical form of the stores, which every operation keeps.  Bit k of the first mask stands for the register whose
constructor index is k, bit k of the second for the part of that index. -/

namespace Sys2Proof.Machine
open Sys2Proof

/-- The mask of every register. -/
def allRegs : Nat := 0x7ffffffffffffffffffffffffffffffffffffffffffffffffffffffffffffffffffffffffffffffffffffffff

/-- The operation that leads from `s` to `t` leaves the queue alone, keeps the stores canonical, and changes no register outside `R` and no
part of the state outside `P`. -/
def Keeps (R P : Nat) (s t : State) : Prop :=
  t.pending = s.pending ∧ (Canonical s → Canonical t) ∧ (∀ r i, R.testBit r.ctorIdx = false → t.reg r i = s.reg r i) ∧
    ∀ p : Part, P.testBit p.ctorIdx = false → p.same s t

/-- The outcome, where it is a next state. -/
def KeepsO (R P : Nat) (s : State) (o : Host.Outcome State Fault Refusal) : Prop := ∀ t, o = .next t → Keeps R P s t

/-- What a source does with a request, whatever it does. -/
def KeepsA (R P : Nat) (s : State) (a : Admit) : Prop := ∀ t, (a = .sent t ∨ ∃ c d, a = .answered c d t) → Keeps R P s t

/-- The state of an answer, where there is one. -/
def KeepsP (R P : Nat) (s : State) (o : Option State) : Prop := ∀ t, o = some t → Keeps R P s t

theorem Part.same_refl (p : Part) (s : State) : p.same s s := by cases p <;> rfl

theorem Part.same_trans {p : Part} {s t u : State} (h1 : p.same s t) (h2 : p.same t u) : p.same s u := by
  cases p <;> exact Eq.trans h2 h1

theorem Keeps.refl {R P : Nat} (s : State) : Keeps R P s s := ⟨rfl, id, fun _ _ _ => rfl, fun p _ => Part.same_refl p s⟩

theorem Keeps.trans {R P : Nat} {s t u : State} (h1 : Keeps R P s t) (h2 : Keeps R P t u) : Keeps R P s u :=
  ⟨h2.1.trans h1.1, h2.2.1 ∘ h1.2.1, fun r i h => (h2.2.2.1 r i h).trans (h1.2.2.1 r i h),
    fun p h => Part.same_trans (h1.2.2.2 p h) (h2.2.2.2 p h)⟩

theorem testBit_of_sub {a b k : Nat} (h : a ||| b = b) (hb : b.testBit k = false) : a.testBit k = false := by
  rw [← h, Nat.testBit_or] at hb
  exact (Bool.or_eq_false_iff.1 hb).1

theorem Keeps.mono {R P R' P' : Nat} {s t : State} (h : Keeps R' P' s t) (hR : R' ||| R = R) (hP : P' ||| P = P) : Keeps R P s t :=
  ⟨h.1, h.2.1, fun r i hr => h.2.2.1 r i (testBit_of_sub hR hr), fun p hp => h.2.2.2 p (testBit_of_sub hP hp)⟩

/-- One operation more, with a frame inside that of the whole. -/
theorem Keeps.after {R P R' P' : Nat} {s t u : State} (h2 : Keeps R' P' t u) (hR : R' ||| R = R) (hP : P' ||| P = P)
    (h1 : Keeps R P s t) : Keeps R P s u := h1.trans (h2.mono hR hP)

/-- One operation more, with the frame of the whole. -/
theorem Keeps.andThen {R P : Nat} {s t u : State} (h2 : Keeps R P t u) (h1 : Keeps R P s t) : Keeps R P s u := h1.trans h2

theorem ctorIdx_ne {r q : RegName} {R : Nat} (hr : R.testBit r.ctorIdx = false) (hq : (1 <<< q.ctorIdx) ||| R = R) : r ≠ q := by
  rintro rfl
  have := testBit_of_sub hq hr
  simp [Nat.testBit_shiftLeft] at this

theorem sub_allRegs (r : RegName) : (1 <<< r.ctorIdx) ||| allRegs = allRegs := by cases r <;> rfl

theorem sub_left (a b : Nat) : a ||| (a ||| b) = a ||| b := by rw [← Nat.or_assoc, Nat.or_self]

theorem sub_right (a b : Nat) : b ||| (a ||| b) = a ||| b := by rw [Nat.or_comm a b, sub_left]

theorem sub_allRegs_or {r : RegName} {x : Nat} (h : x ||| allRegs = allRegs) : (1 <<< r.ctorIdx ||| x) ||| allRegs = allRegs := by
  rw [Nat.or_assoc, h, sub_allRegs]

theorem sub_into {a b c : Nat} (h : b ||| c = c) : b ||| (a ||| c) = a ||| c := by
  rw [← Nat.or_assoc, Nat.or_comm b a, Nat.or_assoc, h]

theorem sub_both {a b c : Nat} (h : b ||| c = c) : (a ||| b) ||| (a ||| c) = a ||| c := by
  rw [Nat.or_assoc, sub_into h, sub_left]

/-- The state register of a memory instance is one of three. -/
theorem sub_kind {k : MemKind} {f : Fld} {R : Nat} (h : 0xe0000000000 ||| R = R) : (1 <<< (kindFld k f).reg.ctorIdx) ||| R = R := by
  have h2 : 1 <<< (kindFld k f).reg.ctorIdx ||| 0xe0000000000 = 0xe0000000000 := by
    cases k <;> simp only [kindFld] <;> rfl
  rw [← h, ← Nat.or_assoc, h2]

/-- An update that changes no register: the parts it changes are in the mask, and a store it changes stays canonical. -/
theorem Keeps.store {R P : Nat} {s t : State} (hp : t.pending = s.pending) (hr : t.regs = s.regs)
    (hc : swf (fun _ => none) s.mem.code → swf (fun _ => none) t.mem.code)
    (hf : swf (fun _ => 0) s.cfg.frames → swf (fun _ => 0) t.cfg.frames)
    (hs : swf (fun _ => 0) s.kp.sram → swf (fun _ => 0) t.kp.sram)
    (h : ∀ p : Part, P.testBit p.ctorIdx = false → p.same s t) : Keeps R P s t :=
  ⟨hp, fun h => ⟨hr ▸ h.1, hc h.2.1, hf h.2.2.1, hs h.2.2.2⟩, fun r i _ => by unfold State.reg; rw [hr], h⟩

/-- An update written over a state: the queue and the registers stand, none of the stores changes, and what changes is in the mask. -/
theorem Keeps.upd {R P : Nat} {s t : State} {x0 : Nat} {x1 : Nat} {x2 : Word} {x3 : List OutMsg} {x4 : ClkState} {x5 : EvcState} {x6 : KnkNet} {x7 : NetState} {x8 : FabState} {x9 : CfgState} {x10 : MemState} {x11 : TmbState} {x12 : LnkState} {x13 : CohState} {x14 : DdrState} {x15 : KpState} {x16 : ShxState} {x17 : MntState} {x18 : PwrState} {x19 : PinState} {x20 : KhState}
    (hc : x10.code = t.mem.code) (hf : x9.frames = t.cfg.frames) (hs : x15.sram = t.kp.sram)
    (h0 : P.testBit 0 = true ∨ x0 = t.freeCtr)
    (h1 : P.testBit 1 = true ∨ x1 = t.memGen)
    (h2 : P.testBit 2 = true ∨ x2 = t.rdata)
    (h3 : P.testBit 3 = true ∨ x3 = t.out)
    (h4 : P.testBit 4 = true ∨ x4 = t.clk)
    (h5 : P.testBit 5 = true ∨ x5 = t.evc)
    (h6 : P.testBit 6 = true ∨ x6 = t.knk)
    (h7 : P.testBit 7 = true ∨ x7 = t.net)
    (h8 : P.testBit 8 = true ∨ x8 = t.fab)
    (h9 : P.testBit 9 = true ∨ x9 = t.cfg)
    (h10 : P.testBit 10 = true ∨ x10 = t.mem)
    (h11 : P.testBit 11 = true ∨ x11 = t.tmb)
    (h12 : P.testBit 12 = true ∨ x12 = t.lnk)
    (h13 : P.testBit 13 = true ∨ x13 = t.coh)
    (h14 : P.testBit 14 = true ∨ x14 = t.ddr)
    (h15 : P.testBit 15 = true ∨ x15 = t.kp)
    (h16 : P.testBit 16 = true ∨ x16 = t.shx)
    (h17 : P.testBit 17 = true ∨ x17 = t.mnt)
    (h18 : P.testBit 18 = true ∨ x18 = t.pwr)
    (h19 : P.testBit 19 = true ∨ x19 = t.pin)
    (h20 : P.testBit 20 = true ∨ x20 = t.kh) :
    Keeps R P s ⟨t.pending, t.regs, x0, x1, x2, x3, x4, x5, x6, x7, x8, x9, x10, x11, x12, x13, x14, x15, x16, x17, x18, x19, x20⟩ ↔ Keeps R P s t := by
  have hcan : Canonical ⟨t.pending, t.regs, x0, x1, x2, x3, x4, x5, x6, x7, x8, x9, x10, x11, x12, x13, x14, x15, x16, x17, x18, x19, x20⟩ ↔ Canonical t := by
    unfold Canonical; dsimp only; rw [hc, hf, hs]
  have hreg (r : RegName) (i : Nat) : State.reg ⟨t.pending, t.regs, x0, x1, x2, x3, x4, x5, x6, x7, x8, x9, x10, x11, x12, x13, x14, x15, x16, x17, x18, x19, x20⟩ r i = t.reg r i := rfl
  have hsame (p : Part) (hp : P.testBit p.ctorIdx = false) :
      p.same s ⟨t.pending, t.regs, x0, x1, x2, x3, x4, x5, x6, x7, x8, x9, x10, x11, x12, x13, x14, x15, x16, x17, x18, x19, x20⟩ ↔ p.same s t := by
    have no {k : Nat} {q : Prop} (h : P.testBit k = true ∨ q) (hk : P.testBit k = false) : q := h.resolve_left (by rw [hk]; decide)
    cases p with
    | freeCtr => simp only [Part.same]; rw [no h0 hp]
    | memGen => simp only [Part.same]; rw [no h1 hp]
    | rdata => simp only [Part.same]; rw [no h2 hp]
    | out => simp only [Part.same]; rw [no h3 hp]
    | clk => simp only [Part.same]; rw [no h4 hp]
    | evc => simp only [Part.same]; rw [no h5 hp]
    | knk => simp only [Part.same]; rw [no h6 hp]
    | net => simp only [Part.same]; rw [no h7 hp]
    | fab => simp only [Part.same]; rw [no h8 hp]
    | cfg => simp only [Part.same]; rw [no h9 hp]
    | mem => simp only [Part.same]; rw [no h10 hp]
    | tmb => simp only [Part.same]; rw [no h11 hp]
    | lnk => simp only [Part.same]; rw [no h12 hp]
    | coh => simp only [Part.same]; rw [no h13 hp]
    | ddr => simp only [Part.same]; rw [no h14 hp]
    | kp => simp only [Part.same]; rw [no h15 hp]
    | shx => simp only [Part.same]; rw [no h16 hp]
    | mnt => simp only [Part.same]; rw [no h17 hp]
    | pwr => simp only [Part.same]; rw [no h18 hp]
    | pin => simp only [Part.same]; rw [no h19 hp]
    | kh => simp only [Part.same]; rw [no h20 hp]
  unfold Keeps
  simp only [hcan, hreg]
  refine and_congr Iff.rfl (and_congr Iff.rfl (and_congr Iff.rfl ?_))
  exact forall_congr' fun p => forall_congr' fun hp => hsame p hp

theorem Keeps.ite_snd {R P : Nat} {α : Type} {c : Prop} [Decidable c] {s : State} {a b : α × State} (ha : Keeps R P s a.2)
    (hb : Keeps R P s b.2) : Keeps R P s (if c then a else b).2 := by
  split
  · exact ha
  · exact hb

theorem Keeps.guarded {R P : Nat} {b : Bool} {s : State} {f : State → State} (h : Keeps R P s (f s)) :
    Keeps R P s (Machine.guarded b s f) := by
  unfold Machine.guarded; split
  · exact h
  · exact refl s

theorem Keeps.foldl {R P : Nat} {α : Type} {l : List α} {f : State → α → State} {s : State} (h : ∀ t a, Keeps R P t (f t a)) :
    Keeps R P s (l.foldl f s) := by
  induction l generalizing s with
  | nil => exact refl s
  | cons a l ih => exact trans (h s a) (ih (s := f s a))

/-- A fold that carries a state beside something else. -/
theorem Keeps.foldl_snd {R P : Nat} {α β : Type} {l : List α} {f : β × State → α → β × State} {p : β × State}
    (h : ∀ q a, Keeps R P q.2 (f q a).2) : Keeps R P p.2 (l.foldl f p).2 := by
  induction l generalizing p with
  | nil => exact refl _
  | cons a l ih => exact trans (h p a) (ih (p := f p a))

/-- A fold that carries a state before something else. -/
theorem Keeps.foldl_fst {R P : Nat} {α β : Type} {l : List α} {f : State × β → α → State × β} {p : State × β}
    (h : ∀ q a, Keeps R P q.1 (f q a).1) : Keeps R P p.1 (l.foldl f p).1 := by
  induction l generalizing p with
  | nil => exact refl _
  | cons a l ih => exact trans (h p a) (ih (p := f p a))

theorem KeepsO.done {R P : Nat} {s t : State} (h : Keeps R P s t) : KeepsO R P s (Machine.done t) := by
  intro u hu
  obtain rfl : t = u := Host.Outcome.next.inj hu
  exact h

theorem KeepsA.sent {R P : Nat} {s t : State} (h : Keeps R P s t) : KeepsA R P s (.sent t) := by
  intro u hu; rcases hu with hu | ⟨_, _, hu⟩ <;> cases hu; exact h

theorem KeepsA.answered {R P : Nat} {s t : State} {c d : Nat} (h : Keeps R P s t) : KeepsA R P s (.answered c d t) := by
  intro u hu; rcases hu with hu | ⟨_, _, hu⟩ <;> cases hu; exact h

theorem KeepsA.waits {R P : Nat} (s : State) : KeepsA R P s .waits := by
  intro u hu; rcases hu with hu | ⟨_, _, hu⟩ <;> cases hu

theorem KeepsA.mono {R P R' P' : Nat} {s : State} {a : Admit} (h : KeepsA R' P' s a) (hR : R' ||| R = R) (hP : P' ||| P = P) :
    KeepsA R P s a := fun t ht => (h t ht).mono hR hP

theorem KeepsP.some {R P : Nat} {s t : State} (h : Keeps R P s t) : KeepsP R P s (some t) := by intro u hu; cases hu; exact h

theorem KeepsP.none {R P : Nat} (s : State) : KeepsP R P s none := by intro u hu; cases hu

theorem KeepsP.after {R P R' P' : Nat} {s t : State} {o : Option State} (h2 : KeepsP R' P' t o) (hR : R' ||| R = R) (hP : P' ||| P = P)
    (h1 : Keeps R P s t) : KeepsP R P s o := fun u hu => h1.trans ((h2 u hu).mono hR hP)

theorem KeepsP.mono {R P R' P' : Nat} {s : State} {o : Option State} (h : KeepsP R' P' s o) (hR : R' ||| R = R) (hP : P' ||| P = P) :
    KeepsP R P s o := fun t ht => (h t ht).mono hR hP

theorem KeepsP.bind {R P : Nat} {s : State} {o : Option State} {f : State → Option State} (h : KeepsP R P s o)
    (hf : ∀ t, KeepsP R P t (f t)) : KeepsP R P s (o.bind f) := by
  intro u hu
  obtain ⟨t, ht, hu⟩ := Option.bind_eq_some_iff.1 hu
  exact (h t ht).trans (hf t u hu)

theorem KeepsP.map {R P : Nat} {s : State} {o : Option State} {f : State → State} (h : KeepsP R P s o) (hf : ∀ t, Keeps R P t (f t)) :
    KeepsP R P s (o.map f) := by
  intro u hu
  obtain ⟨t, ht, rfl⟩ := Option.map_eq_some_iff.1 hu
  exact (h t ht).trans (hf t)

theorem Keeps.getD {R P R' P' : Nat} {s t d : State} {o : Option State} (h2 : KeepsP R' P' t o) (hR : R' ||| R = R) (hP : P' ||| P = P)
    (h1 : Keeps R P s t) (hd : Keeps R P s d) : Keeps R P s (o.getD d) := by
  cases o with
  | none => exact hd
  | some u => exact h1.trans ((h2 u rfl).mono hR hP)

theorem keeps_setReg (s : State) (r : RegName) (i : Nat) (v : Word) : Keeps (1 <<< r.ctorIdx) 0 s (s.setReg r i v) := by
  refine ⟨rfl, fun h => ⟨?_, h.2⟩, fun q j hq => ?_, fun p _ => by cases p <;> rfl⟩
  · have : regDefault (regKey r i) = regReset r i := by
      have := RegName.ctorIdx_lt r
      have h1 : (i * 1024 + r.ctorIdx) % 1024 = r.ctorIdx := by omega
      have h2 : (i * 1024 + r.ctorIdx) / 1024 = i := by omega
      simp [regDefault, regKey, h1, h2, RegName.ofNat_ctorIdx]
    have := swf_sset regDefault s.regs (regKey r i) v h.1
    simpa [State.setReg, ‹regDefault (regKey r i) = regReset r i›] using this
  · exact reg_setReg_ne s v (fun e => ctorIdx_ne hq (Nat.or_self _) e.1)

end Sys2Proof.Machine
end

