-- ==== Sys2Proof/Laws/Completes.lean ====
section
/-! SUPPORT. How a completion is shown: a command's meaning is an effect, or an effect under a condition; and what a frame says about the
fields and the parts of the state. -/

namespace Sys2Proof.Machine
open Sys2Proof

theorem Completes.of_eq {c : Instr} {s t : State} {post : State → Prop} (h : exec c s = done t) (hp : post t) : Completes c s post :=
  ⟨t, h, hp⟩

/-- The effect, where the condition of the command holds. -/
theorem Completes.of_guarded {c : Instr} {s : State} {b : Bool} {f : State → State} {post : State → Prop}
    (h : exec c s = done (guarded b s f)) (hb : b = true) (hp : post (f s)) : Completes c s post :=
  ⟨f s, by rw [h, hb]; rfl, hp⟩

theorem guarded_true {b : Bool} {s : State} {f : State → State} (h : b = true) : guarded b s f = f s := by rw [h]; rfl

theorem guarded_false {b : Bool} {s : State} {f : State → State} (h : b = false) : guarded b s f = s := by rw [h]; rfl

theorem Keeps.reg {R P : Nat} {s t : State} (h : Keeps R P s t) (r : RegName) (i : Nat) (hr : R.testBit r.ctorIdx = false) :
    t.reg r i = s.reg r i := h.2.2.1 r i hr

theorem Keeps.rd {R P : Nat} {s t : State} (h : Keeps R P s t) (f : Fld) (i : Nat) (hr : R.testBit f.reg.ctorIdx = false) :
    t.rd f i = s.rd f i := by unfold State.rd; rw [h.reg f.reg i hr]

theorem Keeps.flag {R P : Nat} {s t : State} (h : Keeps R P s t) (f : Fld) (i : Nat) (hr : R.testBit f.reg.ctorIdx = false) :
    t.flag f i = s.flag f i := by unfold State.flag; rw [h.rd f i hr]

theorem Keeps.part {R P : Nat} {s t : State} (h : Keeps R P s t) (p : Part) (hp : P.testBit p.ctorIdx = false) : p.same s t :=
  h.2.2.2 p hp

end Sys2Proof.Machine
end

