-- ==== Sys2Proof/Laws/Flit.lean ====
section
/-! SUPPORT. The CRC of a flit: it does not depend on its own field, a flit that is made carries the right one, and one wrong bit is found. -/

namespace Sys2Proof.Machine
open Sys2Proof

/-- The bits that a flit's CRC field does not touch. -/
theorem crcBits_congr {f g : Flit} (h : ∀ k, (k < 48 ∨ 64 ≤ k) → f.getLsbD k = g.getLsbD k) : crcBits f = crcBits g :=
  congrArg₂ (· ++ ·)
    (List.map_congr_left fun k hk => h _ (Or.inr (by have := List.mem_range.mp hk; omega)))
    (List.map_congr_left fun k _ => h _ (Or.inl (by omega)))

/-- The bits of a CRC field that is all ones. -/
theorem getLsbD_field (k : Nat) : (0xFFFF : Flit).getLsbD k = decide (k < 16) := by
  rw [show (0xFFFF : Flit) = BitVec.ofNat 576 65535 from rfl, BitVec.getLsbD_ofNat, show (65535 : Nat) = 2 ^ 16 - 1 from rfl, Nat.testBit_two_pow_sub_one]
  by_cases h : k < 16
  · rw [decide_eq_true (show k < 576 by omega), Bool.true_and]
  · rw [decide_eq_false h, Bool.and_false]

theorem getLsbD_sealFlit (f : Flit) (k : Nat) :
    (sealFlit f).getLsbD k = if 48 ≤ k ∧ k < 64 then (crcOf f).getLsbD (k - 48) else f.getLsbD k := by
  unfold sealFlit
  rw [BitVec.getLsbD_or, BitVec.getLsbD_and, BitVec.getLsbD_not, BitVec.getLsbD_shiftLeft, BitVec.getLsbD_shiftLeft, BitVec.getLsbD_setWidth,
    getLsbD_field]
  generalize crcOf f = c
  by_cases hk : k < 576
  · by_cases h1 : 48 ≤ k
    · by_cases h2 : k < 64
      · rw [if_pos ⟨h1, h2⟩, decide_eq_true hk, decide_eq_false (show ¬ k < 48 by omega), decide_eq_true (show k - 48 < 16 by omega),
          decide_eq_true (show k - 48 < 576 by omega)]
        simp
      · rw [if_neg (fun h => h2 h.2), decide_eq_true hk, decide_eq_false (show ¬ k < 48 by omega), decide_eq_false (show ¬ k - 48 < 16 by omega),
          BitVec.getLsbD_of_ge c _ (by omega)]
        simp
    · rw [if_neg (fun h => h1 h.1), decide_eq_true hk, decide_eq_true (show k < 48 by omega)]
      simp
  · rw [if_neg (fun h => hk (by omega)), BitVec.getLsbD_of_ge f _ (by omega), decide_eq_false hk]
    simp

@[simp] theorem crcOf_sealFlit (f : Flit) : crcOf (sealFlit f) = crcOf f := by
  unfold crcOf
  rw [crcBits_congr (f := sealFlit f) (g := f) fun k hk => by rw [getLsbD_sealFlit, if_neg (by omega)]]

@[simp] theorem flitCrc_sealFlit (f : Flit) : flitCrc (sealFlit f) = crcOf f := by
  apply BitVec.eq_of_getLsbD_eq
  intro i hi
  unfold flitCrc
  rw [BitVec.getLsbD_extractLsb', getLsbD_sealFlit, if_pos ⟨by omega, by omega⟩, Nat.add_sub_cancel_left]
  simp [hi]

/-- A flit that is made is good. -/
@[simp] theorem flitGood_sealFlit (f : Flit) : flitGood (sealFlit f) = true := by
  unfold flitGood
  rw [flitCrc_sealFlit, crcOf_sealFlit, beq_self_eq_true]

@[simp] theorem flitGood_mkFlit (h : FlitHead) (p : Line) : flitGood (mkFlit h p) = true := flitGood_sealFlit _

/-- One wrong bit in the CRC field is found. -/
theorem flitGood_flip_field {f : Flit} (hf : flitGood f = true) {k : Nat} (h1 : 48 ≤ k) (h2 : k < 64) :
    flitGood (f ^^^ BitVec.ofNat 576 (2 ^ k)) = false := by
  have b (i : Nat) : (BitVec.ofNat 576 (2 ^ k)).getLsbD i = (decide (i < 576) && decide (k = i)) := by
    rw [BitVec.getLsbD_ofNat, Nat.testBit_two_pow]
  have c : crcOf (f ^^^ BitVec.ofNat 576 (2 ^ k)) = crcOf f := by
    unfold crcOf
    rw [crcBits_congr (f := f ^^^ BitVec.ofNat 576 (2 ^ k)) (g := f) fun i hi => by
      rw [BitVec.getLsbD_xor, b, decide_eq_false (show ¬ k = i by omega), Bool.and_false, Bool.xor_false]]
  have e : flitCrc f = crcOf f := eq_of_beq hf
  unfold flitGood
  rw [c, ← e]
  refine beq_eq_false_iff_ne.mpr fun h => ?_
  have := congrArg (fun v : BitVec 16 => v.getLsbD (k - 48)) h
  simp only [flitCrc, BitVec.getLsbD_extractLsb', BitVec.getLsbD_xor, b, Nat.add_sub_cancel' h1, decide_eq_true (show k < 576 by omega),
    decide_eq_true (show k - 48 < 16 by omega), Bool.true_and, decide_true] at this
  revert this
  cases f.getLsbD k <;> decide

/-- The parity of the first n bits of g. -/
def parityOf (g : Nat → Bool) (n : Nat) : Bool := (List.range n).foldl (fun p k => p ^^ g k) false

@[simp] theorem parityOf_zero (g : Nat → Bool) : parityOf g 0 = false := rfl

theorem parityOf_succ (g : Nat → Bool) (n : Nat) : parityOf g (n + 1) = (parityOf g n ^^ g n) := by
  unfold parityOf
  rw [List.range_succ, List.foldl_append]
  rfl

theorem parityOf_congr {g h : Nat → Bool} (n : Nat) (e : ∀ k < n, g k = h k) : parityOf g n = parityOf h n :=
  List.foldl_ext _ _ _ fun p k hk => by rw [e k (List.mem_range.mp hk)]

theorem parityOf_xor (g h : Nat → Bool) (n : Nat) : parityOf (fun k => g k ^^ h k) n = (parityOf g n ^^ parityOf h n) := by
  induction n with
  | zero => rfl
  | succ n ih =>
    rw [parityOf_succ, parityOf_succ, parityOf_succ, ih]
    cases parityOf g n <;> cases parityOf h n <;> cases g n <;> cases h n <;> rfl

theorem parityOf_and (t : Bool) (h : Nat → Bool) (n : Nat) : parityOf (fun k => t && h k) n = (t && parityOf h n) := by
  cases t
  · induction n with
    | zero => rfl
    | succ n ih => rw [parityOf_succ, ih]; rfl
  · exact parityOf_congr n fun k _ => Bool.true_and _

theorem parityOf_shift (g : Nat → Bool) (n : Nat) : parityOf (fun k => !decide (k < 1) && g (k - 1)) (n + 1) = parityOf g n := by
  induction n with
  | zero => rfl
  | succ n ih =>
    rw [parityOf_succ, ih, parityOf_succ, decide_eq_false (show ¬ n + 1 < 1 by omega), Nat.add_sub_cancel]
    rfl

/-- The parity of a CRC. -/
def crcParity (c : BitVec 16) : Bool := parityOf c.getLsbD 16

theorem getLsbD_crcStep (c : BitVec 16) (b : Bool) (k : Nat) (hk : k < 16) :
    (crcStep c b).getLsbD k = ((!decide (k < 1) && c.getLsbD (k - 1)) ^^ ((c.getLsbD 15 ^^ b) && decide (k = 0 ∨ k = 5 ∨ k = 12))) := by
  have m : c.msb = c.getLsbD 15 := BitVec.msb_eq_getLsbD_last c
  have t : ∀ k < 16, (0x1021 : BitVec 16).getLsbD k = decide (k = 0 ∨ k = 5 ∨ k = 12) := by decide
  unfold crcStep
  rw [m]
  by_cases h : (c.getLsbD 15 ^^ b) = true
  · rw [if_pos (by simpa using h), BitVec.getLsbD_xor, BitVec.getLsbD_shiftLeft, h, t k hk, decide_eq_true hk, Bool.true_and, Bool.true_and]
  · rw [if_neg (by simpa using h), BitVec.getLsbD_shiftLeft, Bool.eq_false_iff.mpr h, decide_eq_true hk, Bool.true_and, Bool.false_and,
      Bool.xor_false]

/-- A bit taken in turns the parity of the CRC exactly where it is 1. -/
theorem crcParity_step (c : BitVec 16) (b : Bool) : crcParity (crcStep c b) = (crcParity c ^^ b) := by
  unfold crcParity
  rw [parityOf_congr 16 (getLsbD_crcStep c b), parityOf_xor, parityOf_shift, parityOf_and,
    show parityOf (fun k => decide (k = 0 ∨ k = 5 ∨ k = 12)) 16 = true from by decide, parityOf_succ c.getLsbD 15, Bool.and_true, Bool.xor_assoc]

theorem crcParity_foldl (l : List Bool) (c : BitVec 16) : crcParity (l.foldl crcStep c) = (crcParity c ^^ l.foldl (· ^^ ·) false) := by
  have e : ∀ (l : List Bool) (a : Bool), l.foldl (· ^^ ·) a = (a ^^ l.foldl (· ^^ ·) false) := by
    intro l
    induction l with
    | nil => intro a; exact (Bool.xor_false a).symm
    | cons b l ih => intro a; rw [List.foldl_cons, List.foldl_cons, ih (a ^^ b), ih (false ^^ b), Bool.false_xor, Bool.xor_assoc]
  induction l generalizing c with
  | nil => exact (Bool.xor_false _).symm
  | cons b l ih => rw [List.foldl_cons, List.foldl_cons, ih, crcParity_step, e l (false ^^ b), Bool.false_xor, Bool.xor_assoc]

end Sys2Proof.Machine
end

