-- ==== Sys2Proof/Laws/KeepsOps.lean ====
section
/-! SUPPORT. The frames of the operations of Machine/Ops.lean: what each can change, and that it keeps the stores canonical. -/

namespace Sys2Proof.Machine
open Sys2Proof

theorem keeps_fresh (s : State) :
    Keeps 0 0x1 s (State.fresh s).2 := by
  unfold State.fresh
  repeat' first
    | with_reducible first
        | apply Keeps.refl
    | simp (disch := first | exact Or.inl rfl | with_reducible exact Or.inr rfl | rfl) only [Keeps.upd]

theorem keeps_fresh_eq {s : State} {out} {t : State} (he : State.fresh s = (out, t)) :
    Keeps 0 0x1 s t := by
  have := keeps_fresh s
  rwa [he] at this

theorem keeps_freshBit (s : State) :
    Keeps 0 0x1 s (State.freshBit s).2 := by
  unfold State.freshBit
  repeat' first
    | with_reducible first
        | apply Keeps.refl
    | simp (disch := first | exact Or.inl rfl | with_reducible exact Or.inr rfl | rfl) only [Keeps.upd]

theorem keeps_freshBit_eq {s : State} {out} {t : State} (he : State.freshBit s = (out, t)) :
    Keeps 0 0x1 s t := by
  have := keeps_freshBit s
  rwa [he] at this

theorem keeps_wr (s : State) (f : Fld) (i : ℕ) (v : ℕ) :
    Keeps (1 <<< f.reg.ctorIdx) 0 s (State.wr s f i v) := by
  unfold State.wr
  repeat' first
    | with_reducible first
        | apply Keeps.refl
    | (with_reducible apply Keeps.after (keeps_setReg ..) ?_ ?_ ?_) <;> [(first | rfl | (dsimp only; rfl) | exact Nat.or_self _ | exact sub_left .. | exact sub_right .. | exact sub_into rfl | exact sub_both rfl); rfl; skip]

theorem keeps_off (s : State) (f : Fld) (i : ℕ) :
    Keeps (1 <<< f.reg.ctorIdx) 0 s (State.off s f i) := by
  unfold State.off
  repeat' first
    | with_reducible first
        | apply Keeps.refl
    | (with_reducible apply Keeps.after (keeps_wr ..) ?_ ?_ ?_) <;> [(first | rfl | (dsimp only; rfl) | exact Nat.or_self _ | exact sub_left .. | exact sub_right .. | exact sub_into rfl | exact sub_both rfl); rfl; skip]

theorem keeps_on (s : State) (f : Fld) (i : ℕ) :
    Keeps (1 <<< f.reg.ctorIdx) 0 s (State.on s f i) := by
  unfold State.on
  repeat' first
    | with_reducible first
        | apply Keeps.refl
    | (with_reducible apply Keeps.after (keeps_wr ..) ?_ ?_ ?_) <;> [(first | rfl | (dsimp only; rfl) | exact Nat.or_self _ | exact sub_left .. | exact sub_right .. | exact sub_into rfl | exact sub_both rfl); rfl; skip]

theorem keeps_satAdd (s : State) (f : Fld) (i : ℕ) (n : ℕ) :
    Keeps (1 <<< f.reg.ctorIdx) 0 s (State.satAdd s f i n) := by
  unfold State.satAdd
  repeat' first
    | with_reducible first
        | apply Keeps.refl
    | (with_reducible apply Keeps.after (keeps_wr ..) ?_ ?_ ?_) <;> [(first | rfl | (dsimp only; rfl) | exact Nat.or_self _ | exact sub_left .. | exact sub_right .. | exact sub_into rfl | exact sub_both rfl); rfl; skip]

theorem keeps_stampAsync (s : State) :
    Keeps 0 0x1 s (State.stampAsync s).2 := by
  unfold State.stampAsync
  repeat' first
    | with_reducible first
        | apply Keeps.refl
    | (with_reducible apply Keeps.after (keeps_freshBit ..) ?_ ?_ ?_) <;> [rfl; rfl; skip]

theorem keeps_stampAsync_eq {s : State} {out} {t : State} (he : State.stampAsync s = (out, t)) :
    Keeps 0 0x1 s t := by
  have := keeps_stampAsync s
  rwa [he] at this

theorem keeps_wrBit (s : State) (f : Fld) (i : ℕ) (k : ℕ) (b : Bool) :
    Keeps (1 <<< f.reg.ctorIdx) 0 s (State.wrBit s f i k b) := by
  unfold State.wrBit
  repeat' first
    | with_reducible first
        | apply Keeps.refl
    | (with_reducible apply Keeps.after (keeps_wr ..) ?_ ?_ ?_) <;> [(first | rfl | (dsimp only; rfl) | exact Nat.or_self _ | exact sub_left .. | exact sub_right .. | exact sub_into rfl | exact sub_both rfl); rfl; skip]

theorem keeps_wrapInc (s : State) (f : Fld) (i : ℕ) :
    Keeps (1 <<< f.reg.ctorIdx) 0 s (State.wrapInc s f i) := by
  unfold State.wrapInc
  repeat' first
    | with_reducible first
        | apply Keeps.refl
    | (with_reducible apply Keeps.after (keeps_wr ..) ?_ ?_ ?_) <;> [(first | rfl | (dsimp only; rfl) | exact Nat.or_self _ | exact sub_left .. | exact sub_right .. | exact sub_into rfl | exact sub_both rfl); rfl; skip]

end Sys2Proof.Machine
end

