-- ==== Sys2Proof/Laws/KeepsEvents.lean ====
section
/-! SUPPORT. The frames of the operations of Machine/Events.lean: what each can change, and that it keeps the stores canonical. -/

namespace Sys2Proof.Machine
open Sys2Proof

theorem keeps_setSrc (s : State) (n : ℕ) (r : SrcRec) :
    Keeps 0 0x20 s (State.setSrc s n r) := by
  unfold State.setSrc
  repeat' first
    | with_reducible first
        | apply Keeps.refl
    | simp (disch := first | exact Or.inl rfl | with_reducible exact Or.inr rfl | rfl) only [Keeps.upd]

theorem keeps_setWdt (s : State) (c : ℕ) (r : Option WdtRec) :
    Keeps 0 0x20 s (State.setWdt s c r) := by
  unfold State.setWdt
  repeat' first
    | with_reducible first
        | apply Keeps.refl
    | simp (disch := first | exact Or.inl rfl | with_reducible exact Or.inr rfl | rfl) only [Keeps.upd]

theorem keeps_wakeOffered (offers : Sparse ℕ) (s : State) :
    Keeps 0x80000000000000000000000000000000000000000000000000000000000000000000000 0 s (wakeOffered offers s) := by
  unfold wakeOffered
  repeat' first
    | with_reducible first
        | apply Keeps.refl
        | apply Keeps.andThen (Keeps.foldl (fun t a => ?_)) ?_
    | (with_reducible apply Keeps.after (keeps_off ..) ?_ ?_ ?_) <;> [(first | rfl | (dsimp only; rfl)); rfl; skip]
    | split
    | dsimp only

theorem keeps_evaluate (s : State) :
    Keeps 0x80000000000000000000000000000000000000000000000000000000000000000000000 0x20 s (evaluate s) := by
  unfold evaluate
  repeat' first
    | with_reducible first
        | apply Keeps.refl
    | (with_reducible apply Keeps.after (keeps_wakeOffered ..) ?_ ?_ ?_) <;> [rfl; rfl; skip]
    | simp (disch := first | exact Or.inl rfl | with_reducible exact Or.inr rfl | rfl) only [Keeps.upd]

theorem keeps_srcStamp (n : ℕ) (s : State) :
    Keeps 0 0x1 s (srcStamp n s).2 := by
  unfold srcStamp
  repeat' first
    | with_reducible first
        | apply Keeps.refl
    | (with_reducible apply Keeps.after (keeps_stampAsync ..) ?_ ?_ ?_) <;> [rfl; rfl; skip]
    | split

theorem keeps_srcStamp_eq {n : ℕ} {s : State} {out} {t : State} (he : srcStamp n s = (out, t)) :
    Keeps 0 0x1 s t := by
  have := keeps_srcStamp n s
  rwa [he] at this

theorem keeps_raise (n : ℕ) (s : State) :
    Keeps 0x80000000000000000000000000000000000000000000000000000000000000000000000 0x21 s (raise n s) := by
  unfold raise
  repeat' first
    | with_reducible first
        | apply Keeps.refl
    | (with_reducible apply Keeps.after (keeps_setSrc ..) ?_ ?_ ?_) <;> [rfl; rfl; skip]
    | (with_reducible apply Keeps.after (keeps_evaluate ..) ?_ ?_ ?_) <;> [rfl; rfl; skip]
    | (with_reducible apply Keeps.after (keeps_srcStamp ..) ?_ ?_ ?_) <;> [rfl; rfl; skip]
    | simp (disch := first | exact Or.inl rfl | with_reducible exact Or.inr rfl | rfl) only [Keeps.upd]
    | split

theorem keeps_issueMsix (n : ℕ) (v : ℕ) (s : State) :
    Keeps 0x1000000000000000000000000000000000000000000000000000000000000000000000 0x8 s (issueMsix n v s) := by
  unfold issueMsix
  repeat' first
    | with_reducible first
        | apply Keeps.refl
    | (with_reducible apply Keeps.after (keeps_wrBit ..) ?_ ?_ ?_) <;> [(first | rfl | (dsimp only; rfl)); rfl; skip]
    | simp (disch := first | exact Or.inl rfl | with_reducible exact Or.inr rfl | rfl) only [Keeps.upd]
    | split

theorem keeps_raiseCause (cause : Fld) (enable : Fld) (i : ℕ) (src : ℕ) (s : State) :
    Keeps (1 <<< cause.reg.ctorIdx ||| 0x80000000000000000000000000000000000000000000000000000000000000000000000) 0x21 s (raiseCause cause enable i src s) := by
  unfold raiseCause
  repeat' first
    | with_reducible first
        | apply Keeps.refl
    | (with_reducible apply Keeps.after (keeps_on ..) ?_ ?_ ?_) <;> [(first | rfl | (dsimp only; rfl) | exact Nat.or_self _ | exact sub_left .. | exact sub_right .. | exact sub_into rfl | exact sub_both rfl); rfl; skip]
    | (with_reducible apply Keeps.after (keeps_raise ..) ?_ ?_ ?_) <;> [(first | rfl | exact Nat.or_self _ | exact sub_left .. | exact sub_right .. | exact sub_into rfl | exact sub_both rfl); rfl; skip]
    | split

theorem keeps_startHoldOff (g : ℕ) (s : State) :
    Keeps 0x200000000000000000000000000000000000000000000000000000000000000000000000 0x20 s (startHoldOff g s) := by
  unfold startHoldOff
  repeat' first
    | with_reducible first
        | apply Keeps.refl
    | (with_reducible apply Keeps.after (keeps_on ..) ?_ ?_ ?_) <;> [(first | rfl | (dsimp only; rfl)); rfl; skip]
    | simp (disch := first | exact Or.inl rfl | with_reducible exact Or.inr rfl | rfl) only [Keeps.upd]
    | split

theorem keeps_claim (c : ℕ) (s : State) :
    Keeps 0x280000000000000000000000000000000000000000000000000000000000000000000000 0x20 s (claim c s).2 := by
  unfold claim
  repeat' first
    | with_reducible first
        | apply Keeps.refl
    | (with_reducible apply Keeps.after (keeps_setSrc ..) ?_ ?_ ?_) <;> [rfl; rfl; skip]
    | (with_reducible apply Keeps.after (keeps_evaluate ..) ?_ ?_ ?_) <;> [rfl; rfl; skip]
    | (with_reducible apply Keeps.after (keeps_startHoldOff ..) ?_ ?_ ?_) <;> [rfl; rfl; skip]
    | simp (disch := first | exact Or.inl rfl | with_reducible exact Or.inr rfl | rfl) only [Keeps.upd]
    | split

theorem keeps_claim_eq {c : ℕ} {s : State} {out} {t : State} (he : claim c s = (out, t)) :
    Keeps 0x280000000000000000000000000000000000000000000000000000000000000000000000 0x20 s t := by
  have := keeps_claim c s
  rwa [he] at this

theorem keeps_complete (c : ℕ) (n : ℕ) (s : State) :
    Keeps 0x82000000000000000000000000000000000000000000000000000000000000000000000 0x20 s (complete c n s) := by
  unfold complete
  repeat' first
    | with_reducible first
        | apply Keeps.refl
    | (with_reducible apply Keeps.after (keeps_on ..) ?_ ?_ ?_) <;> [(first | rfl | (dsimp only; rfl)); rfl; skip]
    | (with_reducible apply Keeps.after (keeps_setSrc ..) ?_ ?_ ?_) <;> [rfl; rfl; skip]
    | (with_reducible apply Keeps.after (keeps_evaluate ..) ?_ ?_ ?_) <;> [rfl; rfl; skip]
    | split
    | dsimp only

theorem keeps_evcSrcWrite (n : ℕ) (v : Word) (s : State) :
    Keeps 0x2082000000000000000000000000000000000000000000000000000000000000000000000 0x20 s (evcSrcWrite n v s) := by
  unfold evcSrcWrite
  repeat' first
    | with_reducible first
        | apply Keeps.refl
    | (with_reducible apply Keeps.after (keeps_wr ..) ?_ ?_ ?_) <;> [(first | rfl | (dsimp only; rfl)); rfl; skip]
    | (with_reducible apply Keeps.after (keeps_on ..) ?_ ?_ ?_) <;> [(first | rfl | (dsimp only; rfl)); rfl; skip]
    | (with_reducible apply Keeps.after (keeps_setSrc ..) ?_ ?_ ?_) <;> [rfl; rfl; skip]
    | (with_reducible apply Keeps.after (keeps_evaluate ..) ?_ ?_ ?_) <;> [rfl; rfl; skip]
    | split
    | dsimp only

theorem keeps_evcSwset (v : Word) (s : State) :
    Keeps 0x82000000000000000000000000000000000000000000000000000000000000000000000 0x21 s (evcSwset v s) := by
  unfold evcSwset
  repeat' first
    | with_reducible first
        | apply Keeps.refl
    | (with_reducible apply Keeps.after (keeps_on ..) ?_ ?_ ?_) <;> [(first | rfl | (dsimp only; rfl)); rfl; skip]
    | (with_reducible apply Keeps.after (keeps_raise ..) ?_ ?_ ?_) <;> [rfl; rfl; skip]
    | split
    | dsimp only

theorem keeps_wdtLoad (c : ℕ) (s : State) :
    Keeps 0 0x20 s (wdtLoad c s) := by
  unfold wdtLoad
  repeat' first
    | with_reducible first
        | apply Keeps.refl
    | (with_reducible apply Keeps.after (keeps_setWdt ..) ?_ ?_ ?_) <;> [rfl; rfl; skip]
    | simp (disch := first | exact Or.inl rfl | with_reducible exact Or.inr rfl | rfl) only [Keeps.upd]
    | split

theorem keeps_wdtCoreExpiry (c : ℕ) (s : State) :
    Keeps 0x80000000000000000000000000000000000000000000000000000000000000000000000 0x21 s (wdtCoreExpiry c s) := by
  unfold wdtCoreExpiry
  repeat' first
    | with_reducible first
        | apply Keeps.refl
    | (with_reducible apply Keeps.after (keeps_raise ..) ?_ ?_ ?_) <;> [rfl; rfl; skip]
    | (with_reducible apply Keeps.after (keeps_wdtLoad ..) ?_ ?_ ?_) <;> [rfl; rfl; skip]

theorem keeps_wdtResume (c : ℕ) (s : State) :
    Keeps 0 0x20 s (wdtResume c s) := by
  unfold wdtResume
  repeat' first
    | with_reducible first
        | apply Keeps.refl
    | (with_reducible apply Keeps.after (keeps_setWdt ..) ?_ ?_ ?_) <;> [rfl; rfl; skip]
    | split

theorem keeps_wdtPause (c : ℕ) (s : State) :
    Keeps 0 0x20 s (wdtPause c s) := by
  unfold wdtPause
  repeat' first
    | with_reducible first
        | apply Keeps.refl
    | (with_reducible apply Keeps.after (keeps_setWdt ..) ?_ ?_ ?_) <;> [rfl; rfl; skip]
    | split

theorem keeps_wdtControl (v : Word) (s : State) :
    Keeps 0x400000000000000000000000000000000000000000000000000000000 0x20 s (wdtControl v s) := by
  unfold wdtControl
  repeat' first
    | with_reducible first
        | apply Keeps.refl
        | apply Keeps.andThen (Keeps.foldl (fun t a => ?_)) ?_
    | (with_reducible apply Keeps.after (keeps_wr ..) ?_ ?_ ?_) <;> [(first | rfl | (dsimp only; rfl)); rfl; skip]
    | (with_reducible apply Keeps.after (keeps_setWdt ..) ?_ ?_ ?_) <;> [rfl; rfl; skip]
    | (with_reducible apply Keeps.after (keeps_wdtLoad ..) ?_ ?_ ?_) <;> [rfl; rfl; skip]
    | (with_reducible apply Keeps.after (keeps_wdtPause ..) ?_ ?_ ?_) <;> [rfl; rfl; skip]
    | (with_reducible apply Keeps.after (keeps_wdtResume ..) ?_ ?_ ?_) <;> [rfl; rfl; skip]
    | split

theorem keeps_issueSource (n : ℕ) (s : State) :
    Keeps 0x201000000000000000000000000000000000000000000000000000000000000000000000 0x28 s (issueSource n s) := by
  unfold issueSource
  repeat' first
    | with_reducible first
        | apply Keeps.refl
    | (with_reducible apply Keeps.after (keeps_issueMsix ..) ?_ ?_ ?_) <;> [rfl; rfl; skip]
    | (with_reducible apply Keeps.after (keeps_startHoldOff ..) ?_ ?_ ?_) <;> [rfl; rfl; skip]

theorem keeps_nudgeHead (t : ℕ) (s : State) :
    Keeps 0x400000000000000000000000000000000000000000000000000000000000000000000000 0 s (nudgeHead t s) := by
  unfold nudgeHead
  repeat' first
    | with_reducible first
        | apply Keeps.refl
    | (with_reducible apply Keeps.after (keeps_on ..) ?_ ?_ ?_) <;> [(first | rfl | (dsimp only; rfl)); rfl; skip]
    | split

theorem keeps_setHeld (t : ℕ) (l : List ℕ) (s : State) :
    Keeps 0x400000000000000000000000000000000000000000000000000000000000000000000000 0x20 s (setHeld t l s) := by
  unfold setHeld
  repeat' first
    | with_reducible first
        | apply Keeps.refl
    | (with_reducible apply Keeps.after (keeps_wr ..) ?_ ?_ ?_) <;> [(first | rfl | (dsimp only; rfl)); rfl; skip]
    | simp (disch := first | exact Or.inl rfl | with_reducible exact Or.inr rfl | rfl) only [Keeps.upd]

theorem keeps_deliverTenant (n : ℕ) (s : State) :
    Keeps 0x609000000000000000000000000000000000000000000000000000000000000000000000 0x28 s (deliverTenant n s) := by
  unfold deliverTenant
  repeat' first
    | with_reducible first
        | apply Keeps.refl
    | (with_reducible apply Keeps.after (keeps_satAdd ..) ?_ ?_ ?_) <;> [(first | rfl | (dsimp only; rfl)); rfl; skip]
    | (with_reducible apply Keeps.after (keeps_setSrc ..) ?_ ?_ ?_) <;> [rfl; rfl; skip]
    | (with_reducible apply Keeps.after (keeps_issueSource ..) ?_ ?_ ?_) <;> [rfl; rfl; skip]
    | (with_reducible apply Keeps.after (keeps_nudgeHead ..) ?_ ?_ ?_) <;> [rfl; rfl; skip]
    | (with_reducible apply Keeps.after (keeps_setHeld ..) ?_ ?_ ?_) <;> [rfl; rfl; skip]
    | split
    | dsimp only

theorem keeps_flushHeld (t : ℕ) (s : State) :
    Keeps 0x601000000000000000000000000000000000000000000000000000000000000000000000 0x28 s (flushHeld t s) := by
  unfold flushHeld
  repeat' first
    | with_reducible first
        | apply Keeps.refl
        | apply Keeps.andThen (Keeps.foldl (fun t a => ?_)) ?_
    | (with_reducible apply Keeps.after (keeps_issueSource ..) ?_ ?_ ?_) <;> [rfl; rfl; skip]
    | (with_reducible apply Keeps.after (keeps_setHeld ..) ?_ ?_ ?_) <;> [rfl; rfl; skip]
    | split

theorem keeps_execClaim (c : Fin 4) (s : State) :
    KeepsO 0x280000000000000000000000000000000000000000000000000000000000000000000000 0x24 s (execClaim c s) := by
  unfold execClaim
  repeat' first
    | with_reducible first
        | apply KeepsO.done
        | apply Keeps.refl
    | (with_reducible apply Keeps.after (keeps_claim ..) ?_ ?_ ?_) <;> [rfl; rfl; skip]
    | simp (disch := first | exact Or.inl rfl | with_reducible exact Or.inr rfl | rfl) only [Keeps.upd]

theorem keeps_execComplete (c : Fin 4) (v : Word) (s : State) :
    KeepsO 0x82000000000000000000000000000000000000000000000000000000000000000000000 0x20 s (execComplete c v s) := by
  unfold execComplete
  repeat' first
    | with_reducible first
        | apply KeepsO.done
        | apply Keeps.refl
    | (with_reducible apply Keeps.after (keeps_complete ..) ?_ ?_ ?_) <;> [rfl; rfl; skip]

theorem keeps_execEvcSrcWrite (src : Fin 1024) (v : Word) (s : State) :
    KeepsO 0x2082000000000000000000000000000000000000000000000000000000000000000000000 0x20 s (execEvcSrcWrite src v s) := by
  unfold execEvcSrcWrite
  repeat' first
    | with_reducible first
        | apply KeepsO.done
        | apply Keeps.refl
    | (with_reducible apply Keeps.after (keeps_evcSrcWrite ..) ?_ ?_ ?_) <;> [rfl; rfl; skip]

theorem keeps_execEvcSwset (v : Word) (s : State) :
    KeepsO 0x82000000000000000000000000000000000000000000000000000000000000000000000 0x21 s (execEvcSwset v s) := by
  unfold execEvcSwset
  repeat' first
    | with_reducible first
        | apply KeepsO.done
        | apply Keeps.refl
    | (with_reducible apply Keeps.after (keeps_evcSwset ..) ?_ ?_ ?_) <;> [rfl; rfl; skip]

theorem keeps_execFevt (r : Fin 64) (i : Fin 4) (pins : List (Fin 320)) (s : State) :
    KeepsO 0x80000000000000000000000000000000000000000000000000000000000000000000000 0x21 s (execFevt r i pins s) := by
  unfold execFevt
  repeat' first
    | with_reducible first
        | apply KeepsO.done
        | apply Keeps.refl
    | (with_reducible apply Keeps.after (keeps_raise ..) ?_ ?_ ?_) <;> [rfl; rfl; skip]
    | simp (disch := first | exact Or.inl rfl | with_reducible exact Or.inr rfl | rfl) only [Keeps.upd]
    | split

theorem keeps_execHalfTime (s : State) :
    KeepsO 0x80000000000000000000000000000000000000000000000000000000000000000000000 0x21 s (execHalfTime s) := by
  unfold execHalfTime
  repeat' first
    | with_reducible first
        | apply KeepsO.done
        | apply Keeps.refl
        | apply Keeps.andThen (Keeps.guarded ?_) ?_
    | (with_reducible apply Keeps.after (keeps_raise ..) ?_ ?_ ?_) <;> [rfl; rfl; skip]
    | simp (disch := first | exact Or.inl rfl | with_reducible exact Or.inr rfl | rfl) only [Keeps.upd]
    | split

theorem keeps_execHoldOffExpiry (g : Fin 64) (s : State) :
    KeepsO 0x280000000000000000000000000000000000000000000000000000000000000000000000 0x20 s (execHoldOffExpiry g s) := by
  unfold execHoldOffExpiry
  repeat' first
    | with_reducible first
        | apply KeepsO.done
        | apply Keeps.refl
        | apply Keeps.andThen (Keeps.guarded ?_) ?_
    | (with_reducible apply Keeps.after (keeps_off ..) ?_ ?_ ?_) <;> [(first | rfl | (dsimp only; rfl)); rfl; skip]
    | (with_reducible apply Keeps.after (keeps_evaluate ..) ?_ ?_ ?_) <;> [rfl; rfl; skip]
    | simp (disch := first | exact Or.inl rfl | with_reducible exact Or.inr rfl | rfl) only [Keeps.upd]

theorem keeps_execMsixEnable (n : Fin 16) (on : Bool) (s : State) :
    KeepsO 0x601000000000000000000000000000000000000000000000000000000000000000000000 0x28 s (execMsixEnable n on s) := by
  unfold execMsixEnable
  repeat' first
    | with_reducible first
        | apply KeepsO.done
        | apply Keeps.refl
    | (with_reducible apply Keeps.after (keeps_flushHeld ..) ?_ ?_ ?_) <;> [rfl; rfl; skip]
    | simp (disch := first | exact Or.inl rfl | with_reducible exact Or.inr rfl | rfl) only [Keeps.upd]

theorem keeps_execNotification (src : Fin 1024) (s : State) :
    KeepsO 0x609000000000000000000000000000000000000000000000000000000000000000000000 0x28 s (execNotification src s) := by
  unfold execNotification
  repeat' first
    | with_reducible first
        | apply KeepsO.done
        | apply Keeps.refl
        | apply Keeps.andThen (Keeps.guarded ?_) ?_
    | (with_reducible apply Keeps.after (keeps_deliverTenant ..) ?_ ?_ ?_) <;> [rfl; rfl; skip]

theorem keeps_execRaise (src : Fin 1024) (s : State) :
    KeepsO 0x80000000000000000000000000000000000000000000000000000000000000000000000 0x21 s (execRaise src s) := by
  unfold execRaise
  repeat' first
    | with_reducible first
        | apply KeepsO.done
        | apply Keeps.refl
    | (with_reducible apply Keeps.after (keeps_raise ..) ?_ ?_ ?_) <;> [rfl; rfl; skip]

theorem keeps_execWatchdogEnable (v : Word) (s : State) :
    KeepsO 0x400000000000000000000000000000000000000000000000000000000 0x20 s (execWatchdogEnable v s) := by
  unfold execWatchdogEnable
  repeat' first
    | with_reducible first
        | apply KeepsO.done
        | apply Keeps.refl
    | (with_reducible apply Keeps.after (keeps_wdtControl ..) ?_ ?_ ?_) <;> [rfl; rfl; skip]

theorem keeps_execWatchdogExpiry (c : Fin 4) (s : State) :
    KeepsO 0x80000000000000000000000000000000000000000000000000000000000000000000000 0x21 s (execWatchdogExpiry c s) := by
  unfold execWatchdogExpiry
  repeat' first
    | with_reducible first
        | apply KeepsO.done
        | apply Keeps.refl
        | apply Keeps.andThen (Keeps.guarded ?_) ?_
    | (with_reducible apply Keeps.after (keeps_wdtCoreExpiry ..) ?_ ?_ ?_) <;> [rfl; rfl; skip]

theorem keeps_execWfi (c : Fin 4) (s : State) :
    KeepsO 0x80000000000000000000000000000000000000000000000000000000000000000000000 0x20 s (execWfi c s) := by
  unfold execWfi
  repeat' first
    | with_reducible first
        | apply KeepsO.done
        | apply Keeps.refl
        | apply Keeps.andThen (Keeps.guarded ?_) ?_
    | (with_reducible apply Keeps.after (keeps_on ..) ?_ ?_ ?_) <;> [(first | rfl | (dsimp only; rfl) | (simp only [F.KP_CORE_STAT.RUN]; rfl)); rfl; skip]
    | (with_reducible apply Keeps.after (keeps_evaluate ..) ?_ ?_ ?_) <;> [rfl; rfl; skip]
    | split

end Sys2Proof.Machine
end

