-- ==== Sys2Proof/Laws/KeepsReset.lean ====
section
/-! SUPPORT. The frames of the operations of Machine/Reset.lean: what each can change, and that it keeps the stores canonical. -/

namespace Sys2Proof.Machine
open Sys2Proof

theorem keeps_clearedState (s : State) : Keeps allRegs 0x1fffff s (clearedState s) :=
  ⟨rfl, fun _ => ⟨swf_nil _, swf_nil _, swf_nil _, swf_nil _⟩, fun r _ h => (ctorIdx_ne h (sub_allRegs r) rfl).elim,
    fun p hp => by cases p <;> first | rfl | exact absurd hp (by decide)⟩

theorem keeps_deviceResetHeld (c : Nat) (s : State) : Keeps allRegs 0x1fffff s (deviceResetHeld c s) := by
  have h : Keeps allRegs 0x1fffff s { clearedState s with regs := survivingRegs s.regs } :=
    ⟨rfl, fun h => ⟨swf_filter _ _ _ h.1, swf_nil _, swf_nil _, swf_nil _⟩, fun r _ h => (ctorIdx_ne h (sub_allRegs r) rfl).elim,
      fun p hp => by cases p <;> first | rfl | exact absurd hp (by decide)⟩
  unfold deviceResetHeld
  generalize { clearedState s with regs := survivingRegs s.regs } = b at *
  repeat' first
    | with_reducible first
        | apply Keeps.refl
        | assumption
        | apply Keeps.andThen (Keeps.foldl (fun t a => ?_)) ?_
    | (with_reducible apply Keeps.after (keeps_wr ..) ?_ ?_ ?_) <;> [(first | rfl | (dsimp only; rfl) | exact sub_allRegs _ | exact sub_allRegs_or rfl); rfl; skip]
    | (with_reducible apply Keeps.after (keeps_wrBit ..) ?_ ?_ ?_) <;> [(first | rfl | (dsimp only; rfl) | exact sub_allRegs _ | exact sub_allRegs_or rfl); rfl; skip]
    | simp (disch := first | exact Or.inl rfl | with_reducible exact Or.inr rfl | rfl) only [Keeps.upd]

theorem keeps_startAttempt (s : State) :
    Keeps 0x8000000000000000000000000000000000000000000000000000000000000000000000001 0x10 s (startAttempt s) := by
  unfold startAttempt
  repeat' first
    | with_reducible first
        | apply Keeps.refl
    | (with_reducible apply Keeps.after (keeps_wr ..) ?_ ?_ ?_) <;> [(first | rfl | (dsimp only; rfl)); rfl; skip]
    | (with_reducible apply Keeps.after (keeps_satAdd ..) ?_ ?_ ?_) <;> [(first | rfl | (dsimp only; rfl)); rfl; skip]
    | simp (disch := first | exact Or.inl rfl | with_reducible exact Or.inr rfl | rfl) only [Keeps.upd]
    | split

theorem keeps_deviceReset (c : ℕ) (s : State) :
    Keeps allRegs 0x1fffff s (deviceReset c s) := by
  unfold deviceReset
  repeat' first
    | with_reducible first
        | apply Keeps.refl
    | (with_reducible apply Keeps.after (keeps_deviceResetHeld ..) ?_ ?_ ?_) <;> [rfl; rfl; skip]
    | (with_reducible apply Keeps.after (keeps_startAttempt ..) ?_ ?_ ?_) <;> [rfl; rfl; skip]

theorem keeps_kickWrite (v : Word) (s : State) :
    Keeps allRegs 0x1fffff s (kickWrite v s) := by
  unfold kickWrite
  repeat' first
    | with_reducible first
        | apply Keeps.refl
        | apply Keeps.andThen (Keeps.foldl (fun t a => ?_)) ?_
    | (with_reducible apply Keeps.after (keeps_deviceReset ..) ?_ ?_ ?_) <;> [rfl; rfl; skip]
    | (with_reducible apply Keeps.after (keeps_wdtLoad ..) ?_ ?_ ?_) <;> [rfl; rfl; skip]
    | (with_reducible apply Keeps.after (keeps_wdtCoreExpiry ..) ?_ ?_ ?_) <;> [rfl; rfl; skip]
    | split
    | dsimp only

theorem keeps_startRamps (f : Nat) (s : State) : Keeps 0 0x40000 s (startRamps f s) := by
  induction f generalizing s with
  | zero => exact Keeps.refl s
  | succ f ih =>
    unfold startRamps
    repeat' first
      | with_reducible first
          | apply Keeps.refl
          | apply Keeps.andThen (ih ..) ?_
      | simp (disch := first | exact Or.inl rfl | with_reducible exact Or.inr rfl | rfl) only [Keeps.upd]
      | split

theorem keeps_queueRamps (ds : List ℕ) (s : State) :
    Keeps 0 0x40000 s (queueRamps ds s) := by
  unfold queueRamps
  repeat' first
    | with_reducible first
        | apply Keeps.refl
    | (with_reducible apply Keeps.after (keeps_startRamps ..) ?_ ?_ ?_) <;> [rfl; rfl; skip]
    | simp (disch := first | exact Or.inl rfl | with_reducible exact Or.inr rfl | rfl) only [Keeps.upd]

theorem keeps_clockFail (cause : ℕ) (leaf : ℕ) (stepNo : ℕ) (s : State) :
    Keeps allRegs 0x1fffff s (clockFail cause leaf stepNo s) := by
  unfold clockFail
  repeat' first
    | with_reducible first
        | apply Keeps.refl
    | (with_reducible apply Keeps.after (keeps_wr ..) ?_ ?_ ?_) <;> [(first | rfl | (dsimp only; rfl) | exact sub_allRegs _ | exact sub_allRegs_or rfl); rfl; skip]
    | (with_reducible apply Keeps.after (keeps_deviceReset ..) ?_ ?_ ?_) <;> [rfl; rfl; skip]

theorem keeps_execClockFailReset (cause : Fin 8) (leaf : Fin 4) (stepNo : Fin 8) (s : State) :
    KeepsO allRegs 0x1fffff s (execClockFailReset cause leaf stepNo s) := by
  unfold execClockFailReset
  repeat' first
    | with_reducible first
        | apply KeepsO.done
        | apply Keeps.refl
        | apply Keeps.andThen (Keeps.guarded ?_) ?_
    | (with_reducible apply Keeps.after (keeps_clockFail ..) ?_ ?_ ?_) <;> [rfl; rfl; skip]

theorem keeps_execDeviceWatchdogReset (s : State) :
    KeepsO allRegs 0x1fffff s (execDeviceWatchdogReset s) := by
  unfold execDeviceWatchdogReset
  repeat' first
    | with_reducible first
        | apply KeepsO.done
        | apply Keeps.refl
        | apply Keeps.andThen (Keeps.guarded ?_) ?_
    | (with_reducible apply Keeps.after (keeps_deviceReset ..) ?_ ?_ ?_) <;> [rfl; rfl; skip]

theorem keeps_execKick (v : Word) (s : State) :
    KeepsO allRegs 0x1fffff s (execKick v s) := by
  unfold execKick
  repeat' first
    | with_reducible first
        | apply KeepsO.done
        | apply Keeps.refl
    | (with_reducible apply Keeps.after (keeps_kickWrite ..) ?_ ?_ ?_) <;> [rfl; rfl; skip]

theorem keeps_powerOnReset (s : State) :
    Keeps allRegs 0x1fffff s (powerOnReset s) := by
  unfold powerOnReset
  repeat' first
    | with_reducible first
        | apply Keeps.refl
    | (with_reducible apply Keeps.after (keeps_setReg ..) ?_ ?_ ?_) <;> [(first | rfl | (dsimp only; rfl) | exact sub_allRegs _ | exact sub_allRegs_or rfl); rfl; skip]
    | (with_reducible apply Keeps.after (keeps_clearedState ..) ?_ ?_ ?_) <;> [rfl; rfl; skip]

theorem keeps_execPowerOnReset (s : State) :
    KeepsO allRegs 0x1fffff s (execPowerOnReset s) := by
  unfold execPowerOnReset
  repeat' first
    | with_reducible first
        | apply KeepsO.done
        | apply Keeps.refl
    | (with_reducible apply Keeps.after (keeps_powerOnReset ..) ?_ ?_ ?_) <;> [rfl; rfl; skip]

theorem keeps_execSuppliesGood (khLow : Bool) (s : State) :
    KeepsO 0 0x100010 s (execSuppliesGood khLow s) := by
  unfold execSuppliesGood
  repeat' first
    | with_reducible first
        | apply KeepsO.done
        | apply Keeps.refl
        | apply Keeps.andThen (Keeps.guarded ?_) ?_
    | simp (disch := first | exact Or.inl rfl | with_reducible exact Or.inr rfl | rfl) only [Keeps.upd]

end Sys2Proof.Machine
end

