-- ==== Sys2Proof/Laws/KeepsClock.lean ====
section
/-! SUPPORT. The frames of the operations of Machine/Clock.lean: what each can change, and that it keeps the stores canonical. -/

namespace Sys2Proof.Machine
open Sys2Proof

theorem keeps_alignWindow (errs : List (BitVec 8)) (lock : BitVec 4) (s : State) :
    Keeps 0x2c 0x10 s (alignWindow errs lock s) := by
  unfold alignWindow
  repeat' first
    | with_reducible first
        | apply Keeps.refl
    | (with_reducible apply Keeps.after (keeps_wr ..) ?_ ?_ ?_) <;> [(first | rfl | (dsimp only; rfl)); rfl; skip]
    | (with_reducible apply Keeps.after (keeps_on ..) ?_ ?_ ?_) <;> [(first | rfl | (dsimp only; rfl)); rfl; skip]
    | simp (disch := first | exact Or.inl rfl | with_reducible exact Or.inr rfl | rfl) only [Keeps.upd]
    | split

theorem keeps_applyDivisor (d : ClkDiv) (v : ℕ) (s : State) :
    Keeps 0x70000 0 s (applyDivisor d v s) := by
  unfold applyDivisor
  repeat' first
    | with_reducible first
        | apply Keeps.refl
    | (with_reducible apply Keeps.after (keeps_setReg ..) ?_ ?_ ?_) <;> [(first | rfl | (dsimp only; rfl) | (cases d <;> simp only [divReg] <;> rfl)); rfl; skip]

theorem keeps_dtcLoRead (s : State) :
    Keeps 0x8000 0x4 s (dtcLoRead s) := by
  unfold dtcLoRead
  repeat' first
    | with_reducible first
        | apply Keeps.refl
    | (with_reducible apply Keeps.after (keeps_wr ..) ?_ ?_ ?_) <;> [(first | rfl | (dsimp only; rfl)); rfl; skip]
    | simp (disch := first | exact Or.inl rfl | with_reducible exact Or.inr rfl | rfl) only [Keeps.upd]

theorem keeps_divEnable (d : ClkDiv) (en : Bool) (s : State) :
    Keeps 0x70002 0 s (divEnable d en s) := by
  unfold divEnable
  repeat' first
    | with_reducible first
        | apply Keeps.refl
    | (with_reducible apply Keeps.after (keeps_setReg ..) ?_ ?_ ?_) <;> [(first | rfl | (dsimp only; rfl) | (cases d <;> simp only [divReg] <;> rfl)); rfl; skip]
    | (with_reducible apply Keeps.after (keeps_on ..) ?_ ?_ ?_) <;> [(first | rfl | (dsimp only; rfl) | (cases d <;> simp only [divReg] <;> rfl)); rfl; skip]
    | simp (disch := first | exact Or.inl rfl | with_reducible exact Or.inr rfl | rfl) only [Keeps.upd]
    | split

theorem keeps_divWrite (d : ClkDiv) (v : Word) (s : State) :
    Keeps 0x70002 0 s (divWrite d v s) := by
  unfold divWrite
  repeat' first
    | with_reducible first
        | apply Keeps.refl
    | (with_reducible apply Keeps.after (keeps_setReg ..) ?_ ?_ ?_) <;> [(first | rfl | (dsimp only; rfl) | (cases d <;> simp only [divReg] <;> rfl)); rfl; skip]
    | (with_reducible apply Keeps.after (keeps_divEnable ..) ?_ ?_ ?_) <;> [rfl; rfl; skip]
    | split

theorem keeps_setDtcInc (s : State) :
    Keeps 0x3000 0 s (setDtcInc s) := by
  unfold setDtcInc
  repeat' first
    | with_reducible first
        | apply Keeps.refl
    | (with_reducible apply Keeps.after (keeps_wr ..) ?_ ?_ ?_) <;> [(first | rfl | (dsimp only; rfl)); rfl; skip]

theorem keeps_startRelock (m : ℕ) (s : State) :
    Keeps 0x3006 0x10 s (startRelock m s) := by
  unfold startRelock
  repeat' first
    | with_reducible first
        | apply Keeps.refl
    | (with_reducible apply Keeps.after (keeps_wr ..) ?_ ?_ ?_) <;> [(first | rfl | (dsimp only; rfl)); rfl; skip]
    | (with_reducible apply Keeps.after (keeps_off ..) ?_ ?_ ?_) <;> [(first | rfl | (dsimp only; rfl)); rfl; skip]
    | (with_reducible apply Keeps.after (keeps_on ..) ?_ ?_ ?_) <;> [(first | rfl | (dsimp only; rfl)); rfl; skip]
    | (with_reducible apply Keeps.after (keeps_setDtcInc ..) ?_ ?_ ?_) <;> [rfl; rfl; skip]
    | simp (disch := first | exact Or.inl rfl | with_reducible exact Or.inr rfl | rfl) only [Keeps.upd]

theorem keeps_rootCfgWrite (v : Word) (s : State) :
    Keeps 0x3006 0x10 s (rootCfgWrite v s) := by
  unfold rootCfgWrite
  repeat' first
    | with_reducible first
        | apply Keeps.refl
    | (with_reducible apply Keeps.after (keeps_on ..) ?_ ?_ ?_) <;> [(first | rfl | (dsimp only; rfl)); rfl; skip]
    | (with_reducible apply Keeps.after (keeps_startRelock ..) ?_ ?_ ?_) <;> [rfl; rfl; skip]
    | split

theorem keeps_commitDivisor (d : ClkDiv) (v : ℕ) (s : State) :
    Keeps 0 0x10 s (commitDivisor d v s) := by
  unfold commitDivisor
  repeat' first
    | with_reducible first
        | apply Keeps.refl
    | simp (disch := first | exact Or.inl rfl | with_reducible exact Or.inr rfl | rfl) only [Keeps.upd]

theorem keeps_setSwHeld (d : SwDomain) (h : Option Bool) (s : State) :
    Keeps 0 0x10 s (setSwHeld d h s) := by
  unfold setSwHeld
  repeat' first
    | with_reducible first
        | apply Keeps.refl
    | simp (disch := first | exact Or.inl rfl | with_reducible exact Or.inr rfl | rfl) only [Keeps.upd]
    | split

theorem keeps_srcWrite (d : SwDomain) (root : Bool) (s : State) :
    Keeps 0x700 0x10 s (srcWrite d root s) := by
  unfold srcWrite
  repeat' first
    | with_reducible first
        | apply Keeps.refl
    | (with_reducible apply Keeps.after (keeps_wr ..) ?_ ?_ ?_) <;> [(first | rfl | (dsimp only; rfl) | (cases d <;> simp only [swFields] <;> rfl)); rfl; skip]
    | (with_reducible apply Keeps.after (keeps_on ..) ?_ ?_ ?_) <;> [(first | rfl | (dsimp only; rfl) | (cases d <;> simp only [swFields] <;> rfl)); rfl; skip]
    | (with_reducible apply Keeps.after (keeps_setSwHeld ..) ?_ ?_ ?_) <;> [rfl; rfl; skip]
    | simp (disch := first | exact Or.inl rfl | with_reducible exact Or.inr rfl | rfl) only [Keeps.upd]
    | split

theorem keeps_swCtlWrite (d : SwDomain) (v : Word) (s : State) :
    Keeps 0x702 0x10 s (swCtlWrite d v s) := by
  unfold swCtlWrite
  repeat' first
    | with_reducible first
        | apply Keeps.refl
    | (with_reducible apply Keeps.after (keeps_wr ..) ?_ ?_ ?_) <;> [(first | rfl | (dsimp only; rfl) | (cases d <;> simp only [swFields] <;> rfl)); rfl; skip]
    | (with_reducible apply Keeps.after (keeps_srcWrite ..) ?_ ?_ ?_) <;> [rfl; rfl; skip]
    | split

theorem keeps_execAlignmentFault (leaf : Fin 4) (s : State) :
    KeepsO allRegs 0x1fffff s (execAlignmentFault leaf s) := by
  unfold execAlignmentFault
  repeat' first
    | with_reducible first
        | apply KeepsO.done
        | apply Keeps.refl
        | apply Keeps.andThen (Keeps.guarded ?_) ?_
    | (with_reducible apply Keeps.after (keeps_clockFail ..) ?_ ?_ ?_) <;> [rfl; rfl; skip]

theorem keeps_setDriver (d : SwDomain) (root : Bool) (s : State) :
    Keeps 0 0x10 s (setDriver d root s) := by
  unfold setDriver
  repeat' first
    | with_reducible first
        | apply Keeps.refl
    | simp (disch := first | exact Or.inl rfl | with_reducible exact Or.inr rfl | rfl) only [Keeps.upd]
    | split

theorem keeps_execCrystalDelayComplete (w : RefWindow) (s : State) :
    KeepsO 0x1 0x10 s (execCrystalDelayComplete w s) := by
  unfold execCrystalDelayComplete
  repeat' first
    | with_reducible first
        | apply KeepsO.done
        | apply Keeps.refl
        | apply Keeps.andThen (Keeps.guarded ?_) ?_
    | (with_reducible apply Keeps.after (keeps_wr ..) ?_ ?_ ?_) <;> [(first | rfl | (dsimp only; rfl)); rfl; skip]
    | simp (disch := first | exact Or.inl rfl | with_reducible exact Or.inr rfl | rfl) only [Keeps.upd]

theorem keeps_execDividerEnable (d : ClkDiv) (en : Bool) (s : State) :
    KeepsO 0x70002 0 s (execDividerEnable d en s) := by
  unfold execDividerEnable
  repeat' first
    | with_reducible first
        | apply KeepsO.done
        | apply Keeps.refl
    | (with_reducible apply Keeps.after (keeps_divEnable ..) ?_ ?_ ?_) <;> [rfl; rfl; skip]

theorem keeps_execDivisorChange (n : ℕ) (s : State) :
    KeepsO 0x70000 0x10 s (execDivisorChange n s) := by
  unfold execDivisorChange
  repeat' first
    | with_reducible first
        | apply KeepsO.done
        | apply Keeps.refl
        | apply Keeps.andThen (Keeps.guarded ?_) ?_
        | apply Keeps.andThen (Keeps.foldl (fun t a => ?_)) ?_
    | (with_reducible apply Keeps.after (keeps_applyDivisor ..) ?_ ?_ ?_) <;> [rfl; rfl; skip]
    | simp (disch := first | exact Or.inl rfl | with_reducible exact Or.inr rfl | rfl) only [Keeps.upd]

theorem keeps_execDtcLoRead (s : State) :
    KeepsO 0x8000 0x4 s (execDtcLoRead s) := by
  unfold execDtcLoRead
  repeat' first
    | with_reducible first
        | apply KeepsO.done
        | apply Keeps.refl
    | (with_reducible apply Keeps.after (keeps_dtcLoRead ..) ?_ ?_ ?_) <;> [rfl; rfl; skip]

theorem keeps_noteEck (e : ℕ) (s : State) :
    Keeps 0 0x10 s (noteEck e s) := by
  unfold noteEck
  repeat' first
    | with_reducible first
        | apply Keeps.refl
    | simp (disch := first | exact Or.inl rfl | with_reducible exact Or.inr rfl | rfl) only [Keeps.upd]

theorem keeps_noteEdge (x : ℕ) (n : ℕ) (s : State) :
    Keeps 0 0x10 s (noteEdge x n s) := by
  unfold noteEdge
  repeat' first
    | with_reducible first
        | apply Keeps.refl
    | simp (disch := first | exact Or.inl rfl | with_reducible exact Or.inr rfl | rfl) only [Keeps.upd]

theorem keeps_execForcedSwitch (d : SwDomain) (s : State) :
    KeepsO 0x700 0 s (execForcedSwitch d s) := by
  unfold execForcedSwitch
  repeat' first
    | with_reducible first
        | apply KeepsO.done
        | apply Keeps.refl
        | apply Keeps.andThen (Keeps.guarded ?_) ?_
    | (with_reducible apply Keeps.after (keeps_on ..) ?_ ?_ ?_) <;> [(first | rfl | (dsimp only; rfl) | (cases d <;> simp only [swFields] <;> rfl)); rfl; skip]

theorem keeps_execKoscFault (counts : List ℕ) (s : State) :
    KeepsO allRegs 0x1fffff s (execKoscFault counts s) := by
  unfold execKoscFault
  repeat' first
    | with_reducible first
        | apply KeepsO.done
        | apply Keeps.refl
        | apply Keeps.andThen (Keeps.guarded ?_) ?_
    | (with_reducible apply Keeps.after (keeps_clockFail ..) ?_ ?_ ?_) <;> [rfl; rfl; skip]

theorem keeps_execKoscStable (xsel : BitVec 1) (xdly : BitVec 2) (bootMode : BitVec 3) (s : State) :
    KeepsO 0x8000000000000000000000000000400000000000000000000000000000000000000000001 0x10 s (execKoscStable xsel xdly bootMode s) := by
  unfold execKoscStable
  repeat' first
    | with_reducible first
        | apply KeepsO.done
        | apply Keeps.refl
        | apply Keeps.andThen (Keeps.guarded ?_) ?_
    | (with_reducible apply Keeps.after (keeps_wr ..) ?_ ?_ ?_) <;> [(first | rfl | (dsimp only; rfl)); rfl; skip]
    | (with_reducible apply Keeps.after (keeps_startAttempt ..) ?_ ?_ ?_) <;> [rfl; rfl; skip]
    | simp (disch := first | exact Or.inl rfl | with_reducible exact Or.inr rfl | rfl) only [Keeps.upd]
    | split

theorem keeps_execLaneReferenceWindow (n : Fin 8) (w : RefWindow) (s : State) :
    KeepsO 0 0x10 s (execLaneReferenceWindow n w s) := by
  unfold execLaneReferenceWindow
  repeat' first
    | with_reducible first
        | apply KeepsO.done
        | apply Keeps.refl
        | apply Keeps.andThen (Keeps.guarded ?_) ?_
    | simp (disch := first | exact Or.inl rfl | with_reducible exact Or.inr rfl | rfl) only [Keeps.upd]

theorem keeps_setEpoch (s : State) :
    Keeps 0x4 0x10 s (setEpoch s) := by
  unfold setEpoch
  repeat' first
    | with_reducible first
        | apply Keeps.refl
    | (with_reducible apply Keeps.after (keeps_wr ..) ?_ ?_ ?_) <;> [(first | rfl | (dsimp only; rfl)); rfl; skip]
    | (with_reducible apply Keeps.after (keeps_on ..) ?_ ?_ ?_) <;> [(first | rfl | (dsimp only; rfl)); rfl; skip]
    | simp (disch := first | exact Or.inl rfl | with_reducible exact Or.inr rfl | rfl) only [Keeps.upd]

theorem keeps_execLeafAligned (s : State) :
    KeepsO 0x3824 0x40010 s (execLeafAligned s) := by
  unfold execLeafAligned
  repeat' first
    | with_reducible first
        | apply KeepsO.done
        | apply Keeps.refl
        | apply Keeps.andThen (Keeps.guarded ?_) ?_
    | (with_reducible apply Keeps.after (keeps_wr ..) ?_ ?_ ?_) <;> [(first | rfl | (dsimp only; rfl)); rfl; skip]
    | (with_reducible apply Keeps.after (keeps_queueRamps ..) ?_ ?_ ?_) <;> [rfl; rfl; skip]
    | (with_reducible apply Keeps.after (keeps_setDtcInc ..) ?_ ?_ ?_) <;> [rfl; rfl; skip]
    | (with_reducible apply Keeps.after (keeps_setEpoch ..) ?_ ?_ ?_) <;> [rfl; rfl; skip]
    | simp (disch := first | exact Or.inl rfl | with_reducible exact Or.inr rfl | rfl) only [Keeps.upd]

theorem keeps_execMonitorReset (s : State) :
    KeepsO allRegs 0x1fffff s (execMonitorReset s) := by
  unfold execMonitorReset
  repeat' first
    | with_reducible first
        | apply KeepsO.done
        | apply Keeps.refl
        | apply Keeps.andThen (Keeps.guarded ?_) ?_
    | (with_reducible apply Keeps.after (keeps_clockFail ..) ?_ ?_ ?_) <;> [rfl; rfl; skip]

theorem keeps_firstOutOfRange (s : State) :
    Keeps 0x80000000000000000000000000000000000000000000000000000000000000000000720 0x31 s (firstOutOfRange s) := by
  unfold firstOutOfRange
  repeat' first
    | with_reducible first
        | apply Keeps.refl
    | (with_reducible apply Keeps.after (keeps_on ..) ?_ ?_ ?_) <;> [(first | rfl | (dsimp only; rfl)); rfl; skip]
    | (with_reducible apply Keeps.after (keeps_raise ..) ?_ ?_ ?_) <;> [rfl; rfl; skip]
    | (with_reducible apply Keeps.after (keeps_srcWrite ..) ?_ ?_ ?_) <;> [rfl; rfl; skip]
    | split
    | dsimp only

theorem keeps_showFreq (w : RefWindow) (s : State) :
    Keeps 0x80 0x1 s (showFreq w s) := by
  unfold showFreq
  repeat' first
    | with_reducible first
        | apply Keeps.refl
    | (with_reducible apply Keeps.after (keeps_fresh ..) ?_ ?_ ?_) <;> [rfl; rfl; skip]
    | (with_reducible apply Keeps.after (keeps_wr ..) ?_ ?_ ?_) <;> [(first | rfl | (dsimp only; rfl)); rfl; skip]
    | split

theorem keeps_execMonitorWindow (w : RefWindow) (err1 : BitVec 8) (err2 : BitVec 8) (err3 : BitVec 8) (lock : BitVec 4) (s : State) :
    KeepsO 0x800000000000000000000000000000000000000000000000000000000000000000007ac 0x31 s (execMonitorWindow w err1 err2 err3 lock s) := by
  unfold execMonitorWindow
  repeat' first
    | with_reducible first
        | apply KeepsO.done
        | apply Keeps.refl
        | apply Keeps.andThen (Keeps.guarded ?_) ?_
    | (with_reducible apply Keeps.after (keeps_wr ..) ?_ ?_ ?_) <;> [(first | rfl | (dsimp only; rfl)); rfl; skip]
    | (with_reducible apply Keeps.after (keeps_on ..) ?_ ?_ ?_) <;> [(first | rfl | (dsimp only; rfl)); rfl; skip]
    | (with_reducible apply Keeps.after (keeps_alignWindow ..) ?_ ?_ ?_) <;> [rfl; rfl; skip]
    | (with_reducible apply Keeps.after (keeps_firstOutOfRange ..) ?_ ?_ ?_) <;> [rfl; rfl; skip]
    | (with_reducible apply Keeps.after (keeps_showFreq ..) ?_ ?_ ?_) <;> [rfl; rfl; skip]
    | simp (disch := first | exact Or.inl rfl | with_reducible exact Or.inr rfl | rfl) only [Keeps.upd]
    | split

theorem keeps_execMultWrite (v : Word) (s : State) :
    KeepsO 0x3006 0x10 s (execMultWrite v s) := by
  unfold execMultWrite
  repeat' first
    | with_reducible first
        | apply KeepsO.done
        | apply Keeps.refl
    | (with_reducible apply Keeps.after (keeps_rootCfgWrite ..) ?_ ?_ ?_) <;> [rfl; rfl; skip]

theorem keeps_execReferencePresent (s : State) :
    KeepsO 0 0x10 s (execReferencePresent s) := by
  unfold execReferencePresent
  repeat' first
    | with_reducible first
        | apply KeepsO.done
        | apply Keeps.refl
        | apply Keeps.andThen (Keeps.guarded ?_) ?_
    | simp (disch := first | exact Or.inl rfl | with_reducible exact Or.inr rfl | rfl) only [Keeps.upd]

theorem keeps_execRelockComplete (s : State) :
    KeepsO 0x4 0x10 s (execRelockComplete s) := by
  unfold execRelockComplete
  repeat' first
    | with_reducible first
        | apply KeepsO.done
        | apply Keeps.refl
        | apply Keeps.andThen (Keeps.guarded ?_) ?_
    | (with_reducible apply Keeps.after (keeps_off ..) ?_ ?_ ?_) <;> [(first | rfl | (dsimp only; rfl)); rfl; skip]
    | (with_reducible apply Keeps.after (keeps_setEpoch ..) ?_ ?_ ?_) <;> [rfl; rfl; skip]
    | simp (disch := first | exact Or.inl rfl | with_reducible exact Or.inr rfl | rfl) only [Keeps.upd]

theorem keeps_execRelockTimeout (s : State) :
    KeepsO allRegs 0x1fffff s (execRelockTimeout s) := by
  unfold execRelockTimeout
  repeat' first
    | with_reducible first
        | apply KeepsO.done
        | apply Keeps.refl
        | apply Keeps.andThen (Keeps.guarded ?_) ?_
    | (with_reducible apply Keeps.after (keeps_clockFail ..) ?_ ?_ ?_) <;> [rfl; rfl; skip]

theorem keeps_execRootPllLock (s : State) :
    KeepsO 0x4 0x10 s (execRootPllLock s) := by
  unfold execRootPllLock
  repeat' first
    | with_reducible first
        | apply KeepsO.done
        | apply Keeps.refl
    | (with_reducible apply Keeps.after (keeps_wr ..) ?_ ?_ ?_) <;> [(first | rfl | (dsimp only; rfl)); rfl; skip]
    | (with_reducible apply Keeps.after (keeps_wrBit ..) ?_ ?_ ?_) <;> [(first | rfl | (dsimp only; rfl)); rfl; skip]
    | simp (disch := first | exact Or.inl rfl | with_reducible exact Or.inr rfl | rfl) only [Keeps.upd]
    | split

theorem keeps_execRootSeal (s : State) :
    KeepsO 0x2 0 s (execRootSeal s) := by
  unfold execRootSeal
  repeat' first
    | with_reducible first
        | apply KeepsO.done
        | apply Keeps.refl
    | (with_reducible apply Keeps.after (keeps_on ..) ?_ ?_ ?_) <;> [(first | rfl | (dsimp only; rfl)); rfl; skip]

theorem keeps_execSourceSwitch (d : SwDomain) (root : Bool) (s : State) :
    KeepsO 0x700 0x10 s (execSourceSwitch d root s) := by
  unfold execSourceSwitch
  repeat' first
    | with_reducible first
        | apply KeepsO.done
        | apply Keeps.refl
    | (with_reducible apply Keeps.after (keeps_srcWrite ..) ?_ ?_ ?_) <;> [rfl; rfl; skip]

theorem keeps_execStartupTimeout (s : State) :
    KeepsO allRegs 0x1fffff s (execStartupTimeout s) := by
  unfold execStartupTimeout
  repeat' first
    | with_reducible first
        | apply KeepsO.done
        | apply Keeps.refl
        | apply Keeps.andThen (Keeps.guarded ?_) ?_
    | (with_reducible apply Keeps.after (keeps_clockFail ..) ?_ ?_ ?_) <;> [rfl; rfl; skip]

theorem keeps_execSwitchComplete (d : SwDomain) (s : State) :
    KeepsO 0x700 0x10 s (execSwitchComplete d s) := by
  unfold execSwitchComplete
  repeat' first
    | with_reducible first
        | apply KeepsO.done
        | apply Keeps.refl
        | apply Keeps.andThen (Keeps.guarded ?_) ?_
    | (with_reducible apply Keeps.after (keeps_off ..) ?_ ?_ ?_) <;> [(first | rfl | (dsimp only; rfl) | (cases d <;> simp only [swFields] <;> rfl)); rfl; skip]
    | (with_reducible apply Keeps.after (keeps_setSwHeld ..) ?_ ?_ ?_) <;> [rfl; rfl; skip]
    | (with_reducible apply Keeps.after (keeps_srcWrite ..) ?_ ?_ ?_) <;> [rfl; rfl; skip]
    | (with_reducible apply Keeps.after (keeps_setDriver ..) ?_ ?_ ?_) <;> [rfl; rfl; skip]
    | split

theorem keeps_tick (s : State) :
    Keeps 0 0x10 s (tick s) := by
  unfold tick
  repeat' first
    | with_reducible first
        | apply Keeps.refl
    | simp (disch := first | exact Or.inl rfl | with_reducible exact Or.inr rfl | rfl) only [Keeps.upd]
    | split

end Sys2Proof.Machine
end

