-- ==== Sys2Proof/Laws/KeepsFlight.lean ====
section
/-! SUPPORT. The frames of the operations of Machine/Flight.lean: what each can change, and that it keeps the stores canonical. -/

namespace Sys2Proof.Machine
open Sys2Proof

theorem keeps_setWay (s : State) (l : List Transit) :
    Keeps 0 0x80 s (State.setWay s l) := by
  unfold State.setWay
  repeat' first
    | with_reducible first
        | apply Keeps.refl
    | simp (disch := first | exact Or.inl rfl | with_reducible exact Or.inr rfl | rfl) only [Keeps.upd]

theorem keeps_moveOn (h : Hop) (u : Transit) (s : State) :
    Keeps 0 0x80 s (moveOn h u s) := by
  unfold moveOn
  repeat' first
    | with_reducible first
        | apply Keeps.refl
    | (with_reducible apply Keeps.after (keeps_setWay ..) ?_ ?_ ?_) <;> [rfl; rfl; skip]

theorem keeps_grant_of (h : Hop) (u : Transit) (s : State) :
    KeepsP 0 0x80 s (grant h u s) := by
  unfold grant
  repeat' first
    | with_reducible first
        | apply KeepsP.some
        | apply KeepsP.none
        | apply Keeps.refl
        | apply Keeps.andThen (Keeps.foldl (fun t a => ?_)) ?_
    | (with_reducible apply Keeps.after (keeps_moveOn ..) ?_ ?_ ?_) <;> [rfl; rfl; skip]
    | split
    | dsimp only

theorem keeps_grant {h : Hop} {u : Transit} {s : State} {t : State} (he : grant h u s = some t) :
    Keeps 0 0x80 s t :=
  keeps_grant_of h u s t he

theorem keeps_untilFree_of (n : Nat) (free : State → Bool) (move : State → Option State) (s : State)
    (h : ∀ t, KeepsP 0 0x80 t (move t)) : KeepsP 0 0x80 s (untilFree n free move s) := by
  induction n generalizing s with
  | zero =>
    unfold untilFree
    split
    · exact KeepsP.some (Keeps.refl _)
    · exact KeepsP.none _
  | succ n ih =>
    unfold untilFree
    split
    · exact KeepsP.some (Keeps.refl _)
    · exact KeepsP.bind (h _) (fun t => ih t)

theorem keeps_push_of (f : Nat) (h : Hop) (cls : Nat) (s : State) : KeepsP 0 0x80 s (push f h cls s) := by
  induction f generalizing h cls s with
  | zero => exact KeepsP.none s
  | succ f ih =>
    unfold push
    split
    · exact KeepsP.none s
    · split
      · exact KeepsP.none s
      · exact KeepsP.bind (keeps_untilFree_of _ _ _ _ (fun t => ih _ _ _)) (fun t => keeps_grant_of _ _ _)

theorem keeps_push {f : Nat} {g : Hop} {cls : Nat} {s : State} {t : State} (h : push f g cls s = some t) : Keeps 0 0x80 s t :=
  keeps_push_of f g cls s t h

theorem keeps_makeRoom_of (h : Hop) (cls n : Nat) (s : State) : KeepsP 0 0x80 s (makeRoom h cls n s) :=
  keeps_untilFree_of _ _ _ _ (fun t => keeps_push_of _ _ _ _)

theorem keeps_makeRoom {g : Hop} {cls n : Nat} {s : State} {t : State} (h : makeRoom g cls n s = some t) : Keeps 0 0x80 s t :=
  keeps_makeRoom_of g cls n s t h

theorem keeps_post_of (m : MsgName) (cls src dst n : Nat) (s : State) : KeepsP 0 0x80 s (post m cls src dst n s) := by
  unfold post
  split
  · exact KeepsP.none s
  · exact KeepsP.map (keeps_makeRoom_of _ _ _ _) (fun t => keeps_setWay ..)

theorem keeps_post {m : MsgName} {cls src dst n : Nat} {s : State} {t : State} (h : post m cls src dst n s = some t) : Keeps 0 0x80 s t :=
  keeps_post_of m cls src dst n s t h

theorem keeps_dispatch (m : MsgName) (cls : ℕ) (src : ℕ) (dst : ℕ) (n : ℕ) (s : State) :
    Keeps 0 0x80 s (dispatch m cls src dst n s) := by
  unfold dispatch
  repeat' first
    | with_reducible first
        | apply Keeps.refl
    | (with_reducible apply Keeps.getD (keeps_post_of _ _ _ _ _ _) ?_ ?_ ?_ ?_) <;> [rfl; rfl; skip; skip]

theorem keeps_landed (m : MsgName) (s : State) :
    Keeps 0 0x80 s (landed m s) := by
  unfold landed
  repeat' first
    | with_reducible first
        | apply Keeps.refl
    | (with_reducible apply Keeps.after (keeps_setWay ..) ?_ ?_ ?_) <;> [rfl; rfl; skip]

theorem keeps_launch_of (m : MsgName) (cls at_ src dst n : Nat) (s : State) : KeepsP 0 0x80 s (launch m cls at_ src dst n s) := by
  unfold launch
  split
  · exact KeepsP.none s
  · exact KeepsP.map (keeps_makeRoom_of _ _ _ _) (fun t => keeps_setWay ..)

theorem keeps_launch {m : MsgName} {cls at_ src dst n : Nat} {s : State} {t : State} (h : launch m cls at_ src dst n s = some t) : Keeps 0 0x80 s t :=
  keeps_launch_of m cls at_ src dst n s t h

theorem keeps_travel_of (f : Nat) (m : MsgName) (s : State) : KeepsP 0 0x80 s (travel f m s) := by
  induction f generalizing s with
  | zero => exact KeepsP.none s
  | succ f ih =>
    unfold travel
    split
    · exact KeepsP.some (Keeps.refl s)
    · split
      · split
        · exact KeepsP.some (Keeps.refl s)
        · exact KeepsP.none s
      · exact KeepsP.bind (keeps_push_of _ _ _ _) (fun t => ih t)
      · exact KeepsP.none s

theorem keeps_travel {f : Nat} {m : MsgName} {s : State} {t : State} (h : travel f m s = some t) : Keeps 0 0x80 s t :=
  keeps_travel_of f m s t h

theorem keeps_reach_of (m : MsgName) (s : State) :
    KeepsP 0 0x80 s (reach m s) := by
  unfold reach
  repeat' first
    | with_reducible first
        | apply Keeps.refl
    | (with_reducible apply KeepsP.after (keeps_travel_of _ _ _) ?_ ?_ ?_) <;> [rfl; rfl; skip]

theorem keeps_reach {m : MsgName} {s : State} {t : State} (he : reach m s = some t) :
    Keeps 0 0x80 s t :=
  keeps_reach_of m s t he

theorem keeps_reroute (s : State) :
    Keeps 0 0x80 s (reroute s) := by
  unfold reroute
  repeat' first
    | with_reducible first
        | apply Keeps.refl
    | (with_reducible apply Keeps.after (keeps_setWay ..) ?_ ?_ ?_) <;> [rfl; rfl; skip]

end Sys2Proof.Machine
end

