-- ==== Sys2Proof/Laws/KeepsNet.lean ====
section
/-! SUPPORT. The frames of the operations of Machine/Net.lean: what each can change, and that it keeps the stores canonical. -/

namespace Sys2Proof.Machine
open Sys2Proof

theorem keeps_netLog (code : ℕ) (detail : ℕ) (src : ℕ) (da : ℕ) (s : State) :
    Keeps 0x1c000000 0 s (netLog code detail src da s) := by
  unfold netLog
  repeat' first
    | with_reducible first
        | apply Keeps.refl
    | (with_reducible apply Keeps.after (keeps_wr ..) ?_ ?_ ?_) <;> [(first | rfl | (dsimp only; rfl)); rfl; skip]
    | (with_reducible apply Keeps.after (keeps_on ..) ?_ ?_ ?_) <;> [(first | rfl | (dsimp only; rfl)); rfl; skip]
    | split

theorem keeps_netError (code : ℕ) (detail : ℕ) (src : ℕ) (da : ℕ) (s : State) :
    Keeps 0x1c000000 0 s (netError code detail src da s) := by
  unfold netError
  repeat' first
    | with_reducible first
        | apply Keeps.refl
    | (with_reducible apply Keeps.after (keeps_netLog ..) ?_ ?_ ?_) <;> [rfl; rfl; skip]
    | split

theorem keeps_respond (r : Req) (a : Answer) (s : State) :
    Keeps 0x1c000000 0x80 s (respond r a s) := by
  unfold respond
  repeat' first
    | with_reducible first
        | apply Keeps.refl
    | (with_reducible apply Keeps.after (keeps_dispatch ..) ?_ ?_ ?_) <;> [rfl; rfl; skip]
    | (with_reducible apply Keeps.after (keeps_netError ..) ?_ ?_ ?_) <;> [rfl; rfl; skip]
    | simp (disch := first | exact Or.inl rfl | with_reducible exact Or.inr rfl | rfl) only [Keeps.upd]
    | split

theorem keeps_report (reason : ℕ) (tag : Tag) (src : ℕ) (write : Bool) (da : ℕ) (ext : ℕ) (victims : ℕ) (s : State) :
    Keeps 0 0x2000 s (report reason tag src write da ext victims s) := by
  unfold report
  repeat' first
    | with_reducible first
        | apply Keeps.refl
    | simp (disch := first | exact Or.inl rfl | with_reducible exact Or.inr rfl | rfl) only [Keeps.upd]

theorem keeps_denied (r : Req) (reason : ℕ) (ext : ℕ) (victims : ℕ) (s : State) :
    Keeps 0x1c000000 0x2080 s (denied r reason ext victims s) := by
  unfold denied
  repeat' first
    | with_reducible first
        | apply Keeps.refl
    | (with_reducible apply Keeps.after (keeps_respond ..) ?_ ?_ ?_) <;> [rfl; rfl; skip]
    | (with_reducible apply Keeps.after (keeps_report ..) ?_ ?_ ?_) <;> [rfl; rfl; skip]

theorem keeps_answer (code : ℕ) (detail : ℕ) (src : ℕ) (da : ℕ) (s : State) :
    KeepsA 0x1c000000 0 s (answer code detail src da s) := by
  unfold answer
  repeat' first
    | with_reducible first
        | apply KeepsA.answered
        | apply Keeps.refl
    | (with_reducible apply Keeps.after (keeps_netError ..) ?_ ?_ ?_) <;> [rfl; rfl; skip]

theorem keeps_answer_sent {code : ℕ} {detail : ℕ} {src : ℕ} {da : ℕ} {s : State} {t : State} (he : answer code detail src da s = .sent t) :
    Keeps 0x1c000000 0 s t :=
  keeps_answer code detail src da s t (.inl he)

theorem keeps_answer_answered {code : ℕ} {detail : ℕ} {src : ℕ} {da : ℕ} {s : State} {c d : Nat} {t : State} (he : answer code detail src da s = .answered c d t) :
    Keeps 0x1c000000 0 s t :=
  keeps_answer code detail src da s t (.inr ⟨_, _, he⟩)

theorem keeps_portRegs (a : ℕ) (s : State) :
    Keeps 0x80000000 0 s (portRegs a s) := by
  unfold portRegs
  repeat' first
    | with_reducible first
        | apply Keeps.refl
    | (with_reducible apply Keeps.after (keeps_wr ..) ?_ ?_ ?_) <;> [(first | rfl | (dsimp only; rfl)); rfl; skip]

theorem keeps_netEnter_of (who : Who) (r : Req) (s : State) :
    KeepsP 0 0x80 s (netEnter who r s) := by
  unfold netEnter
  repeat' first
    | with_reducible first
        | apply Keeps.refl
    | (with_reducible apply KeepsP.after (keeps_post_of _ _ _ _ _ _) ?_ ?_ ?_) <;> [rfl; rfl; skip]
    | (with_reducible apply KeepsP.after (keeps_launch_of _ _ _ _ _ _ _) ?_ ?_ ?_) <;> [rfl; rfl; skip]
    | split

theorem keeps_netEnter {who : Who} {r : Req} {s : State} {t : State} (he : netEnter who r s = some t) :
    Keeps 0 0x80 s t :=
  keeps_netEnter_of who r s t he

theorem keeps_whoRegs (who : Who) (s : State) :
    Keeps 0x80000000 0 s (whoRegs who s) := by
  unfold whoRegs
  repeat' first
    | with_reducible first
        | apply Keeps.refl
    | (with_reducible apply Keeps.after (keeps_portRegs ..) ?_ ?_ ?_) <;> [rfl; rfl; skip]
    | split

theorem keeps_netPut_of (who : Who) (window : Nat) (r : Req) (s : State) : KeepsP 0x80000000 0x80 s (netPut who window r s) := by
  unfold netPut
  refine KeepsP.map (KeepsP.mono (keeps_netEnter_of _ _ _) rfl rfl) (fun t => ?_)
  repeat' first
    | with_reducible first
        | apply Keeps.refl
    | (with_reducible apply Keeps.after (keeps_whoRegs ..) ?_ ?_ ?_) <;> [rfl; rfl; skip]
    | simp (disch := first | exact Or.inl rfl | with_reducible exact Or.inr rfl | rfl) only [Keeps.upd]

theorem keeps_netPut {who : Who} {window : Nat} {r : Req} {s : State} {t : State} (h : netPut who window r s = some t) : Keeps 0x80000000 0x80 s t :=
  keeps_netPut_of who window r s t h

theorem keeps_netSend (who : Who) (tag : Tag) (op : NetOp) (src : ℕ) (txn : ℕ) (da : ℕ) (len : ℕ) (data : Line) (intent : Intent) (pl : Place) (s : State) :
    KeepsA 0x9c000000 0x80 s (netSend who tag op src txn da len data intent pl s) := by
  unfold netSend
  repeat' first
    | with_reducible first
        | apply KeepsA.sent
        | apply KeepsA.waits
        | apply Keeps.refl
    | (with_reducible apply KeepsA.mono (keeps_answer _ _ _ _ _) ?_ ?_) <;> [rfl; rfl]
    | (with_reducible apply Keeps.after (keeps_netPut (by assumption)) ?_ ?_ ?_) <;> [rfl; rfl; skip]
    | split
    | dsimp only

theorem keeps_netSend_sent {who : Who} {tag : Tag} {op : NetOp} {src : ℕ} {txn : ℕ} {da : ℕ} {len : ℕ} {data : Line} {intent : Intent} {pl : Place} {s : State} {t : State} (he : netSend who tag op src txn da len data intent pl s = .sent t) :
    Keeps 0x9c000000 0x80 s t :=
  keeps_netSend who tag op src txn da len data intent pl s t (.inl he)

theorem keeps_netSend_answered {who : Who} {tag : Tag} {op : NetOp} {src : ℕ} {txn : ℕ} {da : ℕ} {len : ℕ} {data : Line} {intent : Intent} {pl : Place} {s : State} {c d : Nat} {t : State} (he : netSend who tag op src txn da len data intent pl s = .answered c d t) :
    Keeps 0x9c000000 0x80 s t :=
  keeps_netSend who tag op src txn da len data intent pl s t (.inr ⟨_, _, he⟩)

theorem keeps_never (tag : Tag) (src : ℕ) (write : Bool) (da : ℕ) (reason : ℕ) (victims : ℕ) (s : State) :
    KeepsA 0 0x2000 s (never tag src write da reason victims s) := by
  unfold never
  repeat' first
    | with_reducible first
        | apply KeepsA.answered
        | apply Keeps.refl
    | (with_reducible apply Keeps.after (keeps_report ..) ?_ ?_ ?_) <;> [rfl; rfl; skip]

theorem keeps_never_sent {tag : Tag} {src : ℕ} {write : Bool} {da : ℕ} {reason : ℕ} {victims : ℕ} {s : State} {t : State} (he : never tag src write da reason victims s = .sent t) :
    Keeps 0 0x2000 s t :=
  keeps_never tag src write da reason victims s t (.inl he)

theorem keeps_never_answered {tag : Tag} {src : ℕ} {write : Bool} {da : ℕ} {reason : ℕ} {victims : ℕ} {s : State} {c d : Nat} {t : State} (he : never tag src write da reason victims s = .answered c d t) :
    Keeps 0 0x2000 s t :=
  keeps_never tag src write da reason victims s t (.inr ⟨_, _, he⟩)

theorem keeps_netAdmit (who : Who) (tag : Tag) (op : NetOp) (src : ℕ) (txn : Option ℕ) (da : ℕ) (len : ℕ) (data : Line) (s : State) :
    KeepsA 0x9c000000 0x2080 s (netAdmit who tag op src txn da len data s) := by
  unfold netAdmit
  repeat' first
    | with_reducible first
        | apply KeepsA.waits
    | (with_reducible apply KeepsA.mono (keeps_answer _ _ _ _ _) ?_ ?_) <;> [rfl; rfl]
    | (with_reducible apply KeepsA.mono (keeps_netSend _ _ _ _ _ _ _ _ _ _ _) ?_ ?_) <;> [rfl; rfl]
    | (with_reducible apply KeepsA.mono (keeps_never _ _ _ _ _ _ _) ?_ ?_) <;> [rfl; rfl]
    | split

theorem keeps_netAdmit_sent {who : Who} {tag : Tag} {op : NetOp} {src : ℕ} {txn : Option ℕ} {da : ℕ} {len : ℕ} {data : Line} {s : State} {t : State} (he : netAdmit who tag op src txn da len data s = .sent t) :
    Keeps 0x9c000000 0x2080 s t :=
  keeps_netAdmit who tag op src txn da len data s t (.inl he)

theorem keeps_netAdmit_answered {who : Who} {tag : Tag} {op : NetOp} {src : ℕ} {txn : Option ℕ} {da : ℕ} {len : ℕ} {data : Line} {s : State} {c d : Nat} {t : State} (he : netAdmit who tag op src txn da len data s = .answered c d t) :
    Keeps 0x9c000000 0x2080 s t :=
  keeps_netAdmit who tag op src txn da len data s t (.inr ⟨_, _, he⟩)

end Sys2Proof.Machine
end

