-- ==== Sys2Proof/Laws/KeepsDram.lean ====
section
/-! SUPPORT. The frames of the operations of Machine/Dram.lean: what each can change, and that it keeps the stores canonical. -/

namespace Sys2Proof.Machine
open Sys2Proof

theorem keeps_setChan (s : State) (n : ℕ) (c : ChanRec) :
    Keeps 0 0x4000 s (State.setChan s n c) := by
  unfold State.setChan
  repeat' first
    | with_reducible first
        | apply Keeps.refl
    | simp (disch := first | exact Or.inl rfl | with_reducible exact Or.inr rfl | rfl) only [Keeps.upd]

theorem keeps_setQueues (n : ℕ) (rq : List RdEntry) (wq : List WrEntry) (s : State) :
    Keeps 0 0x4000 s (setQueues n rq wq s) := by
  unfold setQueues
  repeat' first
    | with_reducible first
        | apply Keeps.refl
    | (with_reducible apply Keeps.after (keeps_setChan ..) ?_ ?_ ?_) <;> [rfl; rfl; skip]

theorem keeps_storeLine (n : ℕ) (phys : ℕ) (d : DramLine) (s : State) :
    Keeps 0 0x4000 s (storeLine n phys d s) := by
  unfold storeLine
  repeat' first
    | with_reducible first
        | apply Keeps.refl
    | (with_reducible apply Keeps.after (keeps_setChan ..) ?_ ?_ ?_) <;> [rfl; rfl; skip]

theorem keeps_poisonLine (n : ℕ) (line : ℕ) (s : State) :
    Keeps 0 0x4000 s (poisonLine n line s) := by
  unfold poisonLine
  repeat' first
    | with_reducible first
        | apply Keeps.refl
    | (with_reducible apply Keeps.after (keeps_setQueues ..) ?_ ?_ ?_) <;> [rfl; rfl; skip]
    | (with_reducible apply Keeps.after (keeps_storeLine ..) ?_ ?_ ?_) <;> [rfl; rfl; skip]

theorem keeps_feWait (n : ℕ) (r : Req) (s : State) :
    Keeps 0 0x4000 s (feWait n r s) := by
  unfold feWait
  repeat' first
    | with_reducible first
        | apply Keeps.refl
    | (with_reducible apply Keeps.after (keeps_setChan ..) ?_ ?_ ?_) <;> [rfl; rfl; skip]

theorem keeps_ddrEvent (n : ℕ) (cause : Fld) (enable : Fld) (s : State) :
    Keeps (1 <<< cause.reg.ctorIdx ||| 0x80000000000000000000000000000000000000000000000000000000000000000000000) 0x21 s (ddrEvent n cause enable s) := by
  unfold ddrEvent
  repeat' first
    | with_reducible first
        | apply Keeps.refl
    | (with_reducible apply Keeps.after (keeps_raiseCause ..) ?_ ?_ ?_) <;> [(first | rfl | (dsimp only; rfl) | exact Nat.or_self _ | exact sub_left .. | exact sub_right .. | exact sub_into rfl | exact sub_both rfl); rfl; skip]

theorem keeps_ddrLog (n : ℕ) (kind : ℕ) (dev : ℕ) (line : ℕ) (s : State) :
    Keeps 0x2000000000000000000000000000000000000000 0 s (ddrLog n kind dev line s) := by
  unfold ddrLog
  repeat' first
    | with_reducible first
        | apply Keeps.refl
    | (with_reducible apply Keeps.after (keeps_wr ..) ?_ ?_ ?_) <;> [(first | rfl | (dsimp only; rfl)); rfl; skip]
    | (with_reducible apply Keeps.after (keeps_on ..) ?_ ?_ ?_) <;> [(first | rfl | (dsimp only; rfl)); rfl; skip]
    | split

theorem keeps_foundUncorrectable (n : ℕ) (line : ℕ) (s : State) :
    Keeps 0x80000000000000000000000000000082400000000000000000000000000000000000000 0x21 s (foundUncorrectable n line s) := by
  unfold foundUncorrectable
  repeat' first
    | with_reducible first
        | apply Keeps.refl
    | (with_reducible apply Keeps.after (keeps_satAdd ..) ?_ ?_ ?_) <;> [(first | rfl | (dsimp only; rfl)); rfl; skip]
    | (with_reducible apply Keeps.after (keeps_ddrEvent ..) ?_ ?_ ?_) <;> [(first | rfl | (dsimp only; rfl)); rfl; skip]
    | (with_reducible apply Keeps.after (keeps_ddrLog ..) ?_ ?_ ?_) <;> [rfl; rfl; skip]

theorem keeps_mergeRead (n : ℕ) (line : ℕ) (s : State) :
    Keeps 0x80000000000000000000000000000082400000000000000000000000000000000000000 0x21 s (mergeRead n line s).2 := by
  unfold mergeRead
  repeat' first
    | with_reducible first
        | apply Keeps.refl
    | (with_reducible apply Keeps.after (keeps_foundUncorrectable ..) ?_ ?_ ?_) <;> [rfl; rfl; skip]
    | split
    | dsimp only

theorem keeps_mergeRead_eq {n : ℕ} {line : ℕ} {s : State} {out} {t : State} (he : mergeRead n line s = (out, t)) :
    Keeps 0x80000000000000000000000000000082400000000000000000000000000000000000000 0x21 s t := by
  have := keeps_mergeRead n line s
  rwa [he] at this

theorem keeps_queueLine (n : ℕ) (line : ℕ) (d : Line) (s : State) :
    Keeps 0 0x4000 s (queueLine n line d s) := by
  unfold queueLine
  repeat' first
    | with_reducible first
        | apply Keeps.refl
    | (with_reducible apply Keeps.after (keeps_setQueues ..) ?_ ?_ ?_) <;> [rfl; rfl; skip]

theorem keeps_enqueue (n : ℕ) (s : State) (r : Req) :
    Keeps 0x8000000000000000000000000000008240000000000000000000000000000001c000000 0x40a1 s (enqueue n s r) := by
  unfold enqueue
  repeat' first
    | with_reducible first
        | apply Keeps.refl
    | (with_reducible apply Keeps.after (keeps_setQueues ..) ?_ ?_ ?_) <;> [rfl; rfl; skip]
    | (with_reducible apply Keeps.after (keeps_feWait ..) ?_ ?_ ?_) <;> [rfl; rfl; skip]
    | (with_reducible apply Keeps.after (keeps_mergeRead ..) ?_ ?_ ?_) <;> [rfl; rfl; skip]
    | (with_reducible apply Keeps.after (keeps_queueLine ..) ?_ ?_ ?_) <;> [rfl; rfl; skip]
    | (with_reducible apply Keeps.after (keeps_respond ..) ?_ ?_ ?_) <;> [rfl; rfl; skip]
    | split
    | dsimp only

theorem keeps_noteEmpty (n : ℕ) (s : State) :
    Keeps 0 0x4000 s (noteEmpty n s) := by
  unfold noteEmpty
  repeat' first
    | with_reducible first
        | apply Keeps.refl
    | (with_reducible apply Keeps.after (keeps_setChan ..) ?_ ?_ ?_) <;> [rfl; rfl; skip]
    | split
    | dsimp only

theorem keeps_setPatrolPos (n : ℕ) (line : ℕ) (s : State) :
    Keeps 0x180000000000000000000000000000000000000 0 s (setPatrolPos n line s) := by
  unfold setPatrolPos
  repeat' first
    | with_reducible first
        | apply Keeps.refl
    | (with_reducible apply Keeps.after (keeps_wr ..) ?_ ?_ ?_) <;> [(first | rfl | (dsimp only; rfl)); rfl; skip]

theorem keeps_startPass (n : ℕ) (start : ℕ) (s : State) :
    Keeps 0x180000000000000000000000000000000000000 0x4000 s (startPass n start s) := by
  unfold startPass
  repeat' first
    | with_reducible first
        | apply Keeps.refl
    | (with_reducible apply Keeps.after (keeps_setChan ..) ?_ ?_ ?_) <;> [rfl; rfl; skip]
    | (with_reducible apply Keeps.after (keeps_setPatrolPos ..) ?_ ?_ ?_) <;> [rfl; rfl; skip]

theorem keeps_remapLine (n : ℕ) (line : ℕ) (by_ : ℕ) (s : State) :
    Keeps 0x800000000000000000000000000000c2000000000000000000000000000000000000000 0x4021 s (remapLine n line by_ s) := by
  unfold remapLine
  repeat' first
    | with_reducible first
        | apply Keeps.refl
    | (with_reducible apply Keeps.after (keeps_wr ..) ?_ ?_ ?_) <;> [(first | rfl | (dsimp only; rfl)); rfl; skip]
    | (with_reducible apply Keeps.after (keeps_setChan ..) ?_ ?_ ?_) <;> [rfl; rfl; skip]
    | (with_reducible apply Keeps.after (keeps_storeLine ..) ?_ ?_ ?_) <;> [rfl; rfl; skip]
    | (with_reducible apply Keeps.after (keeps_ddrEvent ..) ?_ ?_ ?_) <;> [(first | rfl | (dsimp only; rfl)); rfl; skip]
    | (with_reducible apply Keeps.after (keeps_ddrLog ..) ?_ ?_ ?_) <;> [rfl; rfl; skip]
    | split

theorem keeps_retireRow (n : ℕ) (line : ℕ) (by_ : ℕ) (s : State) :
    Keeps 0x40000000000000000000000000000000000000000 0x4000 s (retireRow n line by_ s) := by
  unfold retireRow
  repeat' first
    | with_reducible first
        | apply Keeps.refl
    | (with_reducible apply Keeps.after (keeps_wr ..) ?_ ?_ ?_) <;> [(first | rfl | (dsimp only; rfl)); rfl; skip]
    | (with_reducible apply Keeps.after (keeps_on ..) ?_ ?_ ?_) <;> [(first | rfl | (dsimp only; rfl)); rfl; skip]
    | (with_reducible apply Keeps.after (keeps_setChan ..) ?_ ?_ ?_) <;> [rfl; rfl; skip]

theorem keeps_ddrRemapAdd (n : ℕ) (v : Word) (s : State) :
    Keeps 0x800000000000000000000000000000c2000000000000000000000000000000000000000 0x4021 s (ddrRemapAdd n v s) := by
  unfold ddrRemapAdd
  repeat' first
    | with_reducible first
        | apply Keeps.refl
    | (with_reducible apply Keeps.after (keeps_on ..) ?_ ?_ ?_) <;> [(first | rfl | (dsimp only; rfl)); rfl; skip]
    | (with_reducible apply Keeps.after (keeps_remapLine ..) ?_ ?_ ?_) <;> [rfl; rfl; skip]
    | (with_reducible apply Keeps.after (keeps_retireRow ..) ?_ ?_ ?_) <;> [rfl; rfl; skip]
    | split
    | dsimp only

theorem keeps_refeed (n : ℕ) (s : State) :
    Keeps 0x8000000000000000000000000000008240000000000000000000000000000001c000000 0x40a1 s (refeed n s) := by
  unfold refeed
  repeat' first
    | with_reducible first
        | apply Keeps.refl
        | apply Keeps.andThen (Keeps.foldl (fun t a => ?_)) ?_
    | (with_reducible apply Keeps.after (keeps_setChan ..) ?_ ?_ ?_) <;> [rfl; rfl; skip]
    | (with_reducible apply Keeps.after (keeps_enqueue ..) ?_ ?_ ?_) <;> [rfl; rfl; skip]
    | (with_reducible apply Keeps.after (keeps_noteEmpty ..) ?_ ?_ ?_) <;> [rfl; rfl; skip]
    | split

theorem keeps_copyLine (n : ℕ) (s : State) :
    Keeps 0 0x4000 s (copyLine n s) := by
  unfold copyLine
  repeat' first
    | with_reducible first
        | apply Keeps.refl
    | (with_reducible apply Keeps.after (keeps_setChan ..) ?_ ?_ ?_) <;> [rfl; rfl; skip]
    | (with_reducible apply Keeps.after (keeps_storeLine ..) ?_ ?_ ?_) <;> [rfl; rfl; skip]
    | split

theorem keeps_copyRow (n : ℕ) (k : ℕ) (r : RowMap) (s : State) :
    Keeps 0x800000000000000000000000000000c2000000000000000000000000000000000000000 0x4021 s (copyRow n k r s) := by
  unfold copyRow
  repeat' first
    | with_reducible first
        | apply Keeps.refl
        | apply Keeps.andThen (Keeps.foldl (fun t a => ?_)) ?_
    | (with_reducible apply Keeps.after (keeps_wr ..) ?_ ?_ ?_) <;> [(first | rfl | (dsimp only; rfl)); rfl; skip]
    | (with_reducible apply Keeps.after (keeps_setChan ..) ?_ ?_ ?_) <;> [rfl; rfl; skip]
    | (with_reducible apply Keeps.after (keeps_storeLine ..) ?_ ?_ ?_) <;> [rfl; rfl; skip]
    | (with_reducible apply Keeps.after (keeps_ddrEvent ..) ?_ ?_ ?_) <;> [(first | rfl | (dsimp only; rfl)); rfl; skip]
    | (with_reducible apply Keeps.after (keeps_ddrLog ..) ?_ ?_ ?_) <;> [rfl; rfl; skip]

theorem keeps_deviceThreshold (n : ℕ) (at_ : ℕ) (dev : ℕ) (s : State) :
    Keeps 0x80000000000000000000000000000083000200000000000000000000000000000000000 0x4021 s (deviceThreshold n at_ dev s) := by
  unfold deviceThreshold
  repeat' first
    | with_reducible first
        | apply Keeps.refl
    | (with_reducible apply Keeps.after (keeps_wr ..) ?_ ?_ ?_) <;> [(first | rfl | (dsimp only; rfl)); rfl; skip]
    | (with_reducible apply Keeps.after (keeps_on ..) ?_ ?_ ?_) <;> [(first | rfl | (dsimp only; rfl)); rfl; skip]
    | (with_reducible apply Keeps.after (keeps_satAdd ..) ?_ ?_ ?_) <;> [(first | rfl | (dsimp only; rfl)); rfl; skip]
    | (with_reducible apply Keeps.after (keeps_setChan ..) ?_ ?_ ?_) <;> [rfl; rfl; skip]
    | (with_reducible apply Keeps.after (keeps_ddrEvent ..) ?_ ?_ ?_) <;> [(first | rfl | (dsimp only; rfl)); rfl; skip]
    | (with_reducible apply Keeps.after (keeps_ddrLog ..) ?_ ?_ ?_) <;> [rfl; rfl; skip]
    | split
    | dsimp only

theorem keeps_countDevice (n : ℕ) (line : ℕ) (dev : ℕ) (s : State) :
    Keeps 0x80000000000000000000000000000083000200000000000000000000000000000000000 0x4021 s (countDevice n line dev s) := by
  unfold countDevice
  repeat' first
    | with_reducible first
        | apply Keeps.refl
    | (with_reducible apply Keeps.after (keeps_setChan ..) ?_ ?_ ?_) <;> [rfl; rfl; skip]
    | (with_reducible apply Keeps.after (keeps_deviceThreshold ..) ?_ ?_ ?_) <;> [rfl; rfl; skip]
    | split
    | dsimp only

theorem keeps_permanentFault (n : ℕ) (line : ℕ) (dev : ℕ) (s : State) :
    Keeps 0x800000000000000000000000000000c2000200000000000000000000000000000000000 0x4021 s (permanentFault n line dev s) := by
  unfold permanentFault
  repeat' first
    | with_reducible first
        | apply Keeps.refl
    | (with_reducible apply Keeps.after (keeps_on ..) ?_ ?_ ?_) <;> [(first | rfl | (dsimp only; rfl)); rfl; skip]
    | (with_reducible apply Keeps.after (keeps_ddrEvent ..) ?_ ?_ ?_) <;> [(first | rfl | (dsimp only; rfl)); rfl; skip]
    | (with_reducible apply Keeps.after (keeps_ddrLog ..) ?_ ?_ ?_) <;> [rfl; rfl; skip]
    | (with_reducible apply Keeps.after (keeps_remapLine ..) ?_ ?_ ?_) <;> [rfl; rfl; skip]
    | (with_reducible apply Keeps.after (keeps_retireRow ..) ?_ ?_ ?_) <;> [rfl; rfl; skip]
    | split
    | dsimp only

theorem keeps_correction (n : ℕ) (line : ℕ) (dev : ℕ) (s : State) :
    Keeps 0x800000000000000000000000000000c3200200000000000000000000000000000000000 0x4021 s (correction n line dev s) := by
  unfold correction
  repeat' first
    | with_reducible first
        | apply Keeps.refl
    | (with_reducible apply Keeps.after (keeps_satAdd ..) ?_ ?_ ?_) <;> [(first | rfl | (dsimp only; rfl)); rfl; skip]
    | (with_reducible apply Keeps.after (keeps_setChan ..) ?_ ?_ ?_) <;> [rfl; rfl; skip]
    | (with_reducible apply Keeps.after (keeps_countDevice ..) ?_ ?_ ?_) <;> [rfl; rfl; skip]
    | (with_reducible apply Keeps.after (keeps_permanentFault ..) ?_ ?_ ?_) <;> [rfl; rfl; skip]
    | split
    | dsimp only

theorem keeps_execDdrRemapAdd (n : Fin 12) (v : Word) (s : State) :
    KeepsO 0x800000000000000000000000000000c2000000000000000000000000000000000000000 0x4021 s (execDdrRemapAdd n v s) := by
  unfold execDdrRemapAdd
  repeat' first
    | with_reducible first
        | apply KeepsO.done
        | apply Keeps.refl
    | (with_reducible apply Keeps.after (keeps_ddrRemapAdd ..) ?_ ?_ ?_) <;> [rfl; rfl; skip]

theorem keeps_scrubLine (n : ℕ) (line : ℕ) (u : Upset) (s : State) :
    Keeps 0x800000000000000000000000000000c3600200000000000000000000000000000000000 0x4021 s (scrubLine n line u s) := by
  unfold scrubLine
  repeat' first
    | with_reducible first
        | apply Keeps.refl
    | (with_reducible apply Keeps.after (keeps_storeLine ..) ?_ ?_ ?_) <;> [rfl; rfl; skip]
    | (with_reducible apply Keeps.after (keeps_foundUncorrectable ..) ?_ ?_ ?_) <;> [rfl; rfl; skip]
    | (with_reducible apply Keeps.after (keeps_correction ..) ?_ ?_ ?_) <;> [rfl; rfl; skip]
    | split
    | dsimp only

theorem keeps_execDemandScrub (n : Fin 12) (sc : Fin 2) (u : Upset) (s : State) :
    KeepsO 0x800000000000000000000000000000c3600200000000000000000000000000000000000 0x4021 s (execDemandScrub n sc u s) := by
  unfold execDemandScrub
  repeat' first
    | with_reducible first
        | apply KeepsO.done
        | apply Keeps.refl
        | apply Keeps.andThen (Keeps.guarded ?_) ?_
    | (with_reducible apply Keeps.after (keeps_setChan ..) ?_ ?_ ?_) <;> [rfl; rfl; skip]
    | (with_reducible apply Keeps.after (keeps_scrubLine ..) ?_ ?_ ?_) <;> [rfl; rfl; skip]
    | split

theorem keeps_execOpenRowTimeout (n : Fin 12) (bank : Fin 512) (s : State) :
    KeepsO 0 0x4000 s (execOpenRowTimeout n bank s) := by
  unfold execOpenRowTimeout
  repeat' first
    | with_reducible first
        | apply KeepsO.done
        | apply Keeps.refl
        | apply Keeps.andThen (Keeps.guarded ?_) ?_
    | (with_reducible apply Keeps.after (keeps_setChan ..) ?_ ?_ ?_) <;> [rfl; rfl; skip]

theorem keeps_patrolAdvance (n : ℕ) (s : State) :
    Keeps 0x1c0000000000000000000000000000000000000 0x4000 s (patrolAdvance n s) := by
  unfold patrolAdvance
  repeat' first
    | with_reducible first
        | apply Keeps.refl
    | (with_reducible apply Keeps.after (keeps_wrapInc ..) ?_ ?_ ?_) <;> [(first | rfl | (dsimp only; rfl)); rfl; skip]
    | (with_reducible apply Keeps.after (keeps_setPatrolPos ..) ?_ ?_ ?_) <;> [rfl; rfl; skip]
    | (with_reducible apply Keeps.after (keeps_startPass ..) ?_ ?_ ?_) <;> [rfl; rfl; skip]
    | split
    | dsimp only

theorem keeps_patrolLag (n : ℕ) (s : State) :
    Keeps 0x80000000000000000000000000000080040000000000000000000000000000000000000 0x4021 s (patrolLag n s) := by
  unfold patrolLag
  repeat' first
    | with_reducible first
        | apply Keeps.refl
    | (with_reducible apply Keeps.after (keeps_on ..) ?_ ?_ ?_) <;> [(first | rfl | (dsimp only; rfl)); rfl; skip]
    | (with_reducible apply Keeps.after (keeps_setChan ..) ?_ ?_ ?_) <;> [rfl; rfl; skip]
    | (with_reducible apply Keeps.after (keeps_ddrEvent ..) ?_ ?_ ?_) <;> [(first | rfl | (dsimp only; rfl)); rfl; skip]
    | split
    | dsimp only

theorem keeps_execPatrolRead (n : Fin 12) (u : Upset) (s : State) :
    KeepsO 0x800000000000000000000000000000c37c0200000000000000000000000000000000000 0x4021 s (execPatrolRead n u s) := by
  unfold execPatrolRead
  repeat' first
    | with_reducible first
        | apply KeepsO.done
        | apply Keeps.refl
        | apply Keeps.andThen (Keeps.guarded ?_) ?_
    | (with_reducible apply Keeps.after (keeps_setChan ..) ?_ ?_ ?_) <;> [rfl; rfl; skip]
    | (with_reducible apply Keeps.after (keeps_scrubLine ..) ?_ ?_ ?_) <;> [rfl; rfl; skip]
    | (with_reducible apply Keeps.after (keeps_patrolAdvance ..) ?_ ?_ ?_) <;> [rfl; rfl; skip]
    | (with_reducible apply Keeps.after (keeps_patrolLag ..) ?_ ?_ ?_) <;> [rfl; rfl; skip]

theorem keeps_execPermwinWindow (n : Fin 12) (s : State) :
    KeepsO 0 0x4000 s (execPermwinWindow n s) := by
  unfold execPermwinWindow
  repeat' first
    | with_reducible first
        | apply KeepsO.done
        | apply Keeps.refl
        | apply Keeps.andThen (Keeps.guarded ?_) ?_
    | (with_reducible apply Keeps.after (keeps_setChan ..) ?_ ?_ ?_) <;> [rfl; rfl; skip]

theorem keeps_execRowCopyComplete (n : Fin 12) (s : State) :
    KeepsO 0x800000000000000000000000000000c2000000000000000000000000000000000000000 0x4021 s (execRowCopyComplete n s) := by
  unfold execRowCopyComplete
  repeat' first
    | with_reducible first
        | apply KeepsO.done
        | apply Keeps.refl
    | (with_reducible apply Keeps.after (keeps_copyRow ..) ?_ ?_ ?_) <;> [rfl; rfl; skip]
    | split

theorem keeps_touchRow (n : ℕ) (line : ℕ) (s : State) :
    Keeps 0 0x4000 s (touchRow n line s) := by
  unfold touchRow
  repeat' first
    | with_reducible first
        | apply Keeps.refl
    | (with_reducible apply Keeps.after (keeps_setChan ..) ?_ ?_ ?_) <;> [rfl; rfl; skip]

theorem keeps_userRead (n : ℕ) (e : RdEntry) (u : Upset) (s : State) :
    Keeps 0x8000000000000000000000000000008240000000000000000000000000000001c000000 0x40a1 s (userRead n e u s) := by
  unfold userRead
  repeat' first
    | with_reducible first
        | apply Keeps.refl
    | (with_reducible apply Keeps.after (keeps_setChan ..) ?_ ?_ ?_) <;> [rfl; rfl; skip]
    | (with_reducible apply Keeps.after (keeps_storeLine ..) ?_ ?_ ?_) <;> [rfl; rfl; skip]
    | (with_reducible apply Keeps.after (keeps_foundUncorrectable ..) ?_ ?_ ?_) <;> [rfl; rfl; skip]
    | (with_reducible apply Keeps.after (keeps_respond ..) ?_ ?_ ?_) <;> [rfl; rfl; skip]
    | split
    | dsimp only

theorem keeps_serveRead (n : ℕ) (line : ℕ) (u : Upset) (s : State) :
    Keeps 0x8000000000000000000000000000008240000000000000000000000000000001c000000 0x40a1 s (serveRead n line u s) := by
  unfold serveRead
  repeat' first
    | with_reducible first
        | apply Keeps.refl
    | (with_reducible apply Keeps.after (keeps_setChan ..) ?_ ?_ ?_) <;> [rfl; rfl; skip]
    | (with_reducible apply Keeps.after (keeps_setQueues ..) ?_ ?_ ?_) <;> [rfl; rfl; skip]
    | (with_reducible apply Keeps.after (keeps_touchRow ..) ?_ ?_ ?_) <;> [rfl; rfl; skip]
    | (with_reducible apply Keeps.after (keeps_userRead ..) ?_ ?_ ?_) <;> [rfl; rfl; skip]
    | split
    | dsimp only

theorem keeps_serveWrite (n : ℕ) (line : ℕ) (s : State) :
    Keeps 0 0x4000 s (serveWrite n line s) := by
  unfold serveWrite
  repeat' first
    | with_reducible first
        | apply Keeps.refl
    | (with_reducible apply Keeps.after (keeps_setQueues ..) ?_ ?_ ?_) <;> [rfl; rfl; skip]
    | (with_reducible apply Keeps.after (keeps_storeLine ..) ?_ ?_ ?_) <;> [rfl; rfl; skip]
    | (with_reducible apply Keeps.after (keeps_touchRow ..) ?_ ?_ ?_) <;> [rfl; rfl; skip]
    | split
    | dsimp only

theorem keeps_schedulerServe (n : ℕ) (sc : ℕ) (u : Upset) (s : State) :
    Keeps 0x8000000000000000000000000000008240000000000000000000000000000001c000000 0x40a1 s (schedulerServe n sc u s) := by
  unfold schedulerServe
  repeat' first
    | with_reducible first
        | apply Keeps.refl
    | (with_reducible apply Keeps.after (keeps_refeed ..) ?_ ?_ ?_) <;> [rfl; rfl; skip]
    | (with_reducible apply Keeps.after (keeps_copyLine ..) ?_ ?_ ?_) <;> [rfl; rfl; skip]
    | (with_reducible apply Keeps.after (keeps_serveRead ..) ?_ ?_ ?_) <;> [rfl; rfl; skip]
    | (with_reducible apply Keeps.after (keeps_serveWrite ..) ?_ ?_ ?_) <;> [rfl; rfl; skip]
    | split

theorem keeps_execSchedulerServe (n : Fin 12) (sc : Fin 2) (u : Upset) (s : State) :
    KeepsO 0x8000000000000000000000000000008240000000000000000000000000000001c000000 0x40a1 s (execSchedulerServe n sc u s) := by
  unfold execSchedulerServe
  repeat' first
    | with_reducible first
        | apply KeepsO.done
        | apply Keeps.refl
        | apply Keeps.andThen (Keeps.guarded ?_) ?_
    | (with_reducible apply Keeps.after (keeps_schedulerServe ..) ?_ ?_ ?_) <;> [rfl; rfl; skip]

end Sys2Proof.Machine
end

