-- ==== Sys2Proof/Laws/KeepsDramCtl.lean ====
section
/-! SUPPORT. The frames of the operations of Machine/DramCtl.lean: what each can change, and that it keeps the stores canonical. -/

namespace Sys2Proof.Machine
open Sys2Proof

theorem keeps_unclean (k : ℕ) (s : State) :
    Keeps 0 0x2000 s (unclean k s) := by
  unfold unclean
  repeat' first
    | with_reducible first
        | apply Keeps.refl
    | simp (disch := first | exact Or.inl rfl | with_reducible exact Or.inr rfl | rfl) only [Keeps.upd]

theorem keeps_setChanState (n : ℕ) (st : ℕ) (s : State) :
    Keeps 0x200000000000000000000000000000000000 0 s (setChanState n st s) := by
  unfold setChanState
  repeat' first
    | with_reducible first
        | apply Keeps.refl
    | (with_reducible apply Keeps.after (keeps_wr ..) ?_ ?_ ?_) <;> [(first | rfl | (dsimp only; rfl)); rfl; skip]

theorem keeps_inserviceWrite (n : ℕ) (s : State) :
    Keeps 0x180300000000000000000000000000000000000 0x4000 s (inserviceWrite n s) := by
  unfold inserviceWrite
  repeat' first
    | with_reducible first
        | apply Keeps.refl
    | (with_reducible apply Keeps.after (keeps_on ..) ?_ ?_ ?_) <;> [(first | rfl | (dsimp only; rfl)); rfl; skip]
    | (with_reducible apply Keeps.after (keeps_noteEmpty ..) ?_ ?_ ?_) <;> [rfl; rfl; skip]
    | (with_reducible apply Keeps.after (keeps_setChanState ..) ?_ ?_ ?_) <;> [rfl; rfl; skip]
    | (with_reducible apply Keeps.after (keeps_startPass ..) ?_ ?_ ?_) <;> [rfl; rfl; skip]
    | split

theorem keeps_sealIlv (s : State) :
    Keeps 0x400000000000000000000000000000000000 0x4000 s (sealIlv s) := by
  unfold sealIlv
  repeat' first
    | with_reducible first
        | apply Keeps.refl
        | apply Keeps.andThen (Keeps.foldl (fun t a => ?_)) ?_
    | (with_reducible apply Keeps.after (keeps_off ..) ?_ ?_ ?_) <;> [(first | rfl | (dsimp only; rfl)); rfl; skip]
    | (with_reducible apply Keeps.after (keeps_on ..) ?_ ?_ ?_) <;> [(first | rfl | (dsimp only; rfl)); rfl; skip]
    | simp (disch := first | exact Or.inl rfl | with_reducible exact Or.inr rfl | rfl) only [Keeps.upd]
    | split

theorem keeps_dlyWrite (n : ℕ) (v : Word) (s : State) :
    Keeps 0x2000000000000000000000000000000000000000000 0x4000 s (dlyWrite n v s) := by
  unfold dlyWrite
  repeat' first
    | with_reducible first
        | apply Keeps.refl
    | (with_reducible apply Keeps.after (keeps_on ..) ?_ ?_ ?_) <;> [(first | rfl | (dsimp only; rfl)); rfl; skip]
    | (with_reducible apply Keeps.after (keeps_setChan ..) ?_ ?_ ?_) <;> [rfl; rfl; skip]
    | split

theorem keeps_freqEntry (n : ℕ) (s : State) :
    Keeps 0x200000000000000000000000000000000000 0x4000 s (freqEntry n s) := by
  unfold freqEntry
  repeat' first
    | with_reducible first
        | apply Keeps.refl
    | (with_reducible apply Keeps.after (keeps_setChan ..) ?_ ?_ ?_) <;> [rfl; rfl; skip]
    | (with_reducible apply Keeps.after (keeps_setChanState ..) ?_ ?_ ?_) <;> [rfl; rfl; skip]

theorem keeps_startHold (n : ℕ) (kind : ℕ) (s : State) :
    Keeps 0x200000000000000000000000000000000000 0x4000 s (startHold n kind s) := by
  unfold startHold
  repeat' first
    | with_reducible first
        | apply Keeps.refl
    | (with_reducible apply Keeps.after (keeps_setChan ..) ?_ ?_ ?_) <;> [rfl; rfl; skip]
    | (with_reducible apply Keeps.after (keeps_setChanState ..) ?_ ?_ ?_) <;> [rfl; rfl; skip]
    | (with_reducible apply Keeps.after (keeps_freqEntry ..) ?_ ?_ ?_) <;> [rfl; rfl; skip]
    | split

theorem keeps_holdGo (n : ℕ) (kind : ℕ) (s : State) :
    Keeps 0x10200000000000000000000000000000000000 0x4000 s (holdGo n kind s) := by
  unfold holdGo
  repeat' first
    | with_reducible first
        | apply Keeps.refl
    | (with_reducible apply Keeps.after (keeps_on ..) ?_ ?_ ?_) <;> [(first | rfl | (dsimp only; rfl)); rfl; skip]
    | (with_reducible apply Keeps.after (keeps_startHold ..) ?_ ?_ ?_) <;> [rfl; rfl; skip]
    | split

theorem keeps_channelOff (n : ℕ) (s : State) :
    Keeps 0x2040010300000000000000000000000000000000000 0x6000 s (channelOff n s) := by
  unfold channelOff
  repeat' first
    | with_reducible first
        | apply Keeps.refl
    | (with_reducible apply Keeps.after (keeps_wr ..) ?_ ?_ ?_) <;> [(first | rfl | (dsimp only; rfl)); rfl; skip]
    | (with_reducible apply Keeps.after (keeps_off ..) ?_ ?_ ?_) <;> [(first | rfl | (dsimp only; rfl)); rfl; skip]
    | (with_reducible apply Keeps.after (keeps_setChan ..) ?_ ?_ ?_) <;> [rfl; rfl; skip]
    | (with_reducible apply Keeps.after (keeps_setChanState ..) ?_ ?_ ?_) <;> [rfl; rfl; skip]
    | simp (disch := first | exact Or.inl rfl | with_reducible exact Or.inr rfl | rfl) only [Keeps.upd]

theorem keeps_mrCmd (n : ℕ) (v : Word) (byte : Byte) (s : State) :
    Keeps 0x202000000000000000000000000000000000000000000 0x8 s (mrCmd n v byte s) := by
  unfold mrCmd
  repeat' first
    | with_reducible first
        | apply Keeps.refl
    | (with_reducible apply Keeps.after (keeps_wr ..) ?_ ?_ ?_) <;> [(first | rfl | (dsimp only; rfl)); rfl; skip]
    | (with_reducible apply Keeps.after (keeps_on ..) ?_ ?_ ?_) <;> [(first | rfl | (dsimp only; rfl)); rfl; skip]
    | simp (disch := first | exact Or.inl rfl | with_reducible exact Or.inr rfl | rfl) only [Keeps.upd]
    | split

theorem keeps_rxeqWrite (n : ℕ) (v : Word) (s : State) :
    Keeps 0x2000000000000000000000000000000000000000000 0x4000 s (rxeqWrite n v s) := by
  unfold rxeqWrite
  repeat' first
    | with_reducible first
        | apply Keeps.refl
    | (with_reducible apply Keeps.after (keeps_on ..) ?_ ?_ ?_) <;> [(first | rfl | (dsimp only; rfl)); rfl; skip]
    | (with_reducible apply Keeps.after (keeps_setChan ..) ?_ ?_ ?_) <;> [rfl; rfl; skip]
    | split

theorem keeps_loadShadow (n : ℕ) (keepActive : Bool) (s : State) :
    Keeps 0xe00000200000000000000000000000000000040000 0x10 s (loadShadow n keepActive s) := by
  unfold loadShadow
  repeat' first
    | with_reducible first
        | apply Keeps.refl
        | apply Keeps.andThen (Keeps.foldl (fun t a => ?_)) ?_
    | (with_reducible apply Keeps.after (keeps_setReg ..) ?_ ?_ ?_) <;> [(first | rfl | (dsimp only; rfl)); rfl; skip]
    | (with_reducible apply Keeps.after (keeps_wr ..) ?_ ?_ ?_) <;> [(first | rfl | (dsimp only; rfl)); rfl; skip]
    | (with_reducible apply Keeps.after (keeps_off ..) ?_ ?_ ?_) <;> [(first | rfl | (dsimp only; rfl)); rfl; skip]
    | (with_reducible apply Keeps.after (keeps_commitDivisor ..) ?_ ?_ ?_) <;> [rfl; rfl; skip]
    | split

theorem keeps_shadowValid (n : ℕ) (s : State) :
    Keeps 0xe00010200000000000000000000000000000040000 0x4010 s (shadowValid n s) := by
  unfold shadowValid
  repeat' first
    | with_reducible first
        | apply Keeps.refl
    | (with_reducible apply Keeps.after (keeps_on ..) ?_ ?_ ?_) <;> [(first | rfl | (dsimp only; rfl)); rfl; skip]
    | (with_reducible apply Keeps.after (keeps_setChan ..) ?_ ?_ ?_) <;> [rfl; rfl; skip]
    | (with_reducible apply Keeps.after (keeps_loadShadow ..) ?_ ?_ ?_) <;> [rfl; rfl; skip]
    | split

theorem keeps_showMapCap (n : ℕ) (s : State) :
    Keeps 0x1000000000000000000000000000000000000 0 s (showMapCap n s) := by
  unfold showMapCap
  repeat' first
    | with_reducible first
        | apply Keeps.refl
    | (with_reducible apply Keeps.after (keeps_wr ..) ?_ ?_ ?_) <;> [(first | rfl | (dsimp only; rfl)); rfl; skip]

theorem keeps_trnRestore (n : ℕ) (s : State) :
    Keeps 0x2000000000000000000000000000000000000000000 0x4000 s (trnRestore n s) := by
  unfold trnRestore
  repeat' first
    | with_reducible first
        | apply Keeps.refl
        | apply Keeps.andThen (Keeps.foldl (fun t a => ?_)) ?_
    | (with_reducible apply Keeps.after (keeps_off ..) ?_ ?_ ?_) <;> [(first | rfl | (dsimp only; rfl)); rfl; skip]
    | (with_reducible apply Keeps.after (keeps_setChan ..) ?_ ?_ ?_) <;> [rfl; rfl; skip]
    | (with_reducible apply Keeps.after (keeps_storeLine ..) ?_ ?_ ?_) <;> [rfl; rfl; skip]

theorem keeps_countLanes (n : ℕ) (sc : ℕ) (e : BitVec 640) (s : State) :
    Keeps 0x10000000000000000000000000000000000000000000 0 s (countLanes n sc e s) := by
  unfold countLanes
  repeat' first
    | with_reducible first
        | apply Keeps.refl
        | apply Keeps.andThen (Keeps.foldl (fun t a => ?_)) ?_
    | (with_reducible apply Keeps.after (keeps_satAdd ..) ?_ ?_ ?_) <;> [(first | rfl | (dsimp only; rfl)); rfl; skip]
    | split
    | dsimp only

theorem keeps_trnCompare (n : ℕ) (pat : ℕ) (ups : List Upset) (lines : List ℕ) (s : State) :
    Keeps 0x12000000000000000000000000000000000000000000 0x4000 s (trnCompare n pat ups lines s) := by
  unfold trnCompare
  repeat' first
    | with_reducible first
        | apply Keeps.refl
        | apply Keeps.andThen (Keeps.foldl_fst (fun t a => ?_)) ?_
    | (with_reducible apply Keeps.after (keeps_wr ..) ?_ ?_ ?_) <;> [(first | rfl | (dsimp only; rfl)); rfl; skip]
    | (with_reducible apply Keeps.after (keeps_storeLine ..) ?_ ?_ ?_) <;> [rfl; rfl; skip]
    | (with_reducible apply Keeps.after (keeps_countLanes ..) ?_ ?_ ?_) <;> [rfl; rfl; skip]

theorem keeps_trnSave (n : ℕ) (lines : List ℕ) (s : State) :
    Keeps 0x2000000000000000000000000000000000000000000 0x4000 s (trnSave n lines s) := by
  unfold trnSave
  repeat' first
    | with_reducible first
        | apply Keeps.refl
    | (with_reducible apply Keeps.after (keeps_on ..) ?_ ?_ ?_) <;> [(first | rfl | (dsimp only; rfl)); rfl; skip]
    | (with_reducible apply Keeps.after (keeps_setChan ..) ?_ ?_ ?_) <;> [rfl; rfl; skip]

theorem keeps_trnWriteLines (n : ℕ) (pat : ℕ) (lines : List ℕ) (s : State) :
    Keeps 0 0x6000 s (trnWriteLines n pat lines s) := by
  unfold trnWriteLines
  repeat' first
    | with_reducible first
        | apply Keeps.refl
        | apply Keeps.andThen (Keeps.foldl_fst (fun t a => ?_)) ?_
    | (with_reducible apply Keeps.after (keeps_storeLine ..) ?_ ?_ ?_) <;> [rfl; rfl; skip]
    | (with_reducible apply Keeps.after (keeps_unclean ..) ?_ ?_ ?_) <;> [rfl; rfl; skip]
    | split
    | dsimp only

theorem keeps_trnRun (n : ℕ) (v : Word) (ups : List Upset) (s : State) :
    Keeps 0x12000000000000000000000000000000000000000000 0x6000 s (trnRun n v ups s) := by
  unfold trnRun
  repeat' first
    | with_reducible first
        | apply Keeps.refl
    | (with_reducible apply Keeps.after (keeps_on ..) ?_ ?_ ?_) <;> [(first | rfl | (dsimp only; rfl)); rfl; skip]
    | (with_reducible apply Keeps.after (keeps_trnCompare ..) ?_ ?_ ?_) <;> [rfl; rfl; skip]
    | (with_reducible apply Keeps.after (keeps_trnSave ..) ?_ ?_ ?_) <;> [rfl; rfl; skip]
    | (with_reducible apply Keeps.after (keeps_trnWriteLines ..) ?_ ?_ ?_) <;> [rfl; rfl; skip]
    | split
    | dsimp only

theorem keeps_trnCtlWrite (n : ℕ) (v : Word) (ups : List Upset) (s : State) :
    Keeps 0x13000000000000000000000000000000000000000000 0x6000 s (trnCtlWrite n v ups s) := by
  unfold trnCtlWrite
  repeat' first
    | with_reducible first
        | apply Keeps.refl
    | (with_reducible apply Keeps.after (keeps_wr ..) ?_ ?_ ?_) <;> [(first | rfl | (dsimp only; rfl)); rfl; skip]
    | (with_reducible apply Keeps.after (keeps_on ..) ?_ ?_ ?_) <;> [(first | rfl | (dsimp only; rfl)); rfl; skip]
    | (with_reducible apply Keeps.after (keeps_trnRestore ..) ?_ ?_ ?_) <;> [rfl; rfl; skip]
    | (with_reducible apply Keeps.after (keeps_trnRun ..) ?_ ?_ ?_) <;> [rfl; rfl; skip]
    | split
    | dsimp only

theorem keeps_channelOn (n : ℕ) (s : State) :
    Keeps 0x200000000000000000000000000000000000 0 s (channelOn n s) := by
  unfold channelOn
  repeat' first
    | with_reducible first
        | apply Keeps.refl
    | (with_reducible apply Keeps.after (keeps_setChanState ..) ?_ ?_ ?_) <;> [rfl; rfl; skip]
    | split

theorem keeps_closeBanks (n : ℕ) (rank : ℕ) (b : Option ℕ) (s : State) :
    Keeps 0 0x4000 s (closeBanks n rank b s) := by
  unfold closeBanks
  repeat' first
    | with_reducible first
        | apply Keeps.refl
    | (with_reducible apply Keeps.after (keeps_setChan ..) ?_ ?_ ?_) <;> [rfl; rfl; skip]

theorem keeps_execDlyDataWrite (n : Fin 12) (v : Word) (s : State) :
    KeepsO 0x2000000000000000000000000000000000000000000 0x4000 s (execDlyDataWrite n v s) := by
  unfold execDlyDataWrite
  repeat' first
    | with_reducible first
        | apply KeepsO.done
        | apply Keeps.refl
    | (with_reducible apply Keeps.after (keeps_dlyWrite ..) ?_ ?_ ?_) <;> [rfl; rfl; skip]

theorem keeps_execFreqchangeEntryComplete (n : Fin 12) (s : State) :
    KeepsO 0xe00000200000000000000000000000000000040000 0x4010 s (execFreqchangeEntryComplete n s) := by
  unfold execFreqchangeEntryComplete
  repeat' first
    | with_reducible first
        | apply KeepsO.done
        | apply Keeps.refl
        | apply Keeps.andThen (Keeps.guarded ?_) ?_
    | (with_reducible apply Keeps.after (keeps_setChan ..) ?_ ?_ ?_) <;> [rfl; rfl; skip]
    | (with_reducible apply Keeps.after (keeps_loadShadow ..) ?_ ?_ ?_) <;> [rfl; rfl; skip]

theorem keeps_execFreqchangeExit (n : Fin 12) (s : State) :
    KeepsO 0x80000000000000000000000000000080000200000000000000000000000000000000000 0x21 s (execFreqchangeExit n s) := by
  unfold execFreqchangeExit
  repeat' first
    | with_reducible first
        | apply KeepsO.done
        | apply Keeps.refl
        | apply Keeps.andThen (Keeps.guarded ?_) ?_
    | (with_reducible apply Keeps.after (keeps_ddrEvent ..) ?_ ?_ ?_) <;> [(first | rfl | (dsimp only; rfl)); rfl; skip]
    | (with_reducible apply Keeps.after (keeps_setChanState ..) ?_ ?_ ?_) <;> [rfl; rfl; skip]

theorem keeps_execGeneratorDone (n : Fin 12) (s : State) :
    KeepsO 0x2000000000000000000000000000000000000000000 0 s (execGeneratorDone n s) := by
  unfold execGeneratorDone
  repeat' first
    | with_reducible first
        | apply KeepsO.done
        | apply Keeps.refl
        | apply Keeps.andThen (Keeps.guarded ?_) ?_
    | (with_reducible apply Keeps.after (keeps_off ..) ?_ ?_ ?_) <;> [(first | rfl | (dsimp only; rfl)); rfl; skip]
    | (with_reducible apply Keeps.after (keeps_on ..) ?_ ?_ ?_) <;> [(first | rfl | (dsimp only; rfl)); rfl; skip]

theorem keeps_execGeneratorReadCompare (n : Fin 12) (v : Word) (ups : List Upset) (s : State) :
    KeepsO 0x13000000000000000000000000000000000000000000 0x6000 s (execGeneratorReadCompare n v ups s) := by
  unfold execGeneratorReadCompare
  repeat' first
    | with_reducible first
        | apply KeepsO.done
        | apply Keeps.refl
        | apply Keeps.andThen (Keeps.guarded ?_) ?_
    | (with_reducible apply Keeps.after (keeps_trnCtlWrite ..) ?_ ?_ ?_) <;> [rfl; rfl; skip]

theorem keeps_execGeneratorRestore (n : Fin 12) (v : Word) (s : State) :
    KeepsO 0x13000000000000000000000000000000000000000000 0x6000 s (execGeneratorRestore n v s) := by
  unfold execGeneratorRestore
  repeat' first
    | with_reducible first
        | apply KeepsO.done
        | apply Keeps.refl
        | apply Keeps.andThen (Keeps.guarded ?_) ?_
    | (with_reducible apply Keeps.after (keeps_trnCtlWrite ..) ?_ ?_ ?_) <;> [rfl; rfl; skip]

theorem keeps_execGeneratorSaveWriteCompare (n : Fin 12) (v : Word) (ups : List Upset) (s : State) :
    KeepsO 0x13000000000000000000000000000000000000000000 0x6000 s (execGeneratorSaveWriteCompare n v ups s) := by
  unfold execGeneratorSaveWriteCompare
  repeat' first
    | with_reducible first
        | apply KeepsO.done
        | apply Keeps.refl
        | apply Keeps.andThen (Keeps.guarded ?_) ?_
    | (with_reducible apply Keeps.after (keeps_trnCtlWrite ..) ?_ ?_ ?_) <;> [rfl; rfl; skip]

theorem keeps_execGeneratorWrite (n : Fin 12) (v : Word) (s : State) :
    KeepsO 0x13000000000000000000000000000000000000000000 0x6000 s (execGeneratorWrite n v s) := by
  unfold execGeneratorWrite
  repeat' first
    | with_reducible first
        | apply KeepsO.done
        | apply Keeps.refl
        | apply Keeps.andThen (Keeps.guarded ?_) ?_
    | (with_reducible apply Keeps.after (keeps_trnCtlWrite ..) ?_ ?_ ?_) <;> [rfl; rfl; skip]

theorem keeps_execHoldGo (n : Fin 12) (kind : BitVec 1) (s : State) :
    KeepsO 0x10200000000000000000000000000000000000 0x4000 s (execHoldGo n kind s) := by
  unfold execHoldGo
  repeat' first
    | with_reducible first
        | apply KeepsO.done
        | apply Keeps.refl
    | (with_reducible apply Keeps.after (keeps_holdGo ..) ?_ ?_ ?_) <;> [rfl; rfl; skip]

theorem keeps_execInservice (n : Fin 12) (s : State) :
    KeepsO 0x180300000000000000000000000000000000000 0x4000 s (execInservice n s) := by
  unfold execInservice
  repeat' first
    | with_reducible first
        | apply KeepsO.done
        | apply Keeps.refl
    | (with_reducible apply Keeps.after (keeps_inserviceWrite ..) ?_ ?_ ?_) <;> [rfl; rfl; skip]

theorem keeps_execMpc (n : Fin 12) (v : Word) (s : State) :
    KeepsO 0x202000000000000000000000000000000000000000000 0x8 s (execMpc n v s) := by
  unfold execMpc
  repeat' first
    | with_reducible first
        | apply KeepsO.done
        | apply Keeps.refl
        | apply Keeps.andThen (Keeps.guarded ?_) ?_
    | (with_reducible apply Keeps.after (keeps_mrCmd ..) ?_ ?_ ?_) <;> [rfl; rfl; skip]

theorem keeps_hotReadout (n : ℕ) (s : State) (e : Fin 8 × ℕ) :
    Keeps 0x80000000000000000000000000000080000200000000000000000000000000000000000 0x21 s (hotReadout n s e) := by
  unfold hotReadout
  repeat' first
    | with_reducible first
        | apply Keeps.refl
    | (with_reducible apply Keeps.after (keeps_wrBit ..) ?_ ?_ ?_) <;> [(first | rfl | (dsimp only; rfl)); rfl; skip]
    | (with_reducible apply Keeps.after (keeps_ddrEvent ..) ?_ ?_ ?_) <;> [(first | rfl | (dsimp only; rfl)); rfl; skip]
    | split
    | dsimp only

theorem keeps_execMr4Poll (n : Fin 12) (readouts : List (Fin 8 × ℕ)) (s : State) :
    KeepsO 0x80000000000000000000000000000080000200000000000000000000000000000000000 0x21 s (execMr4Poll n readouts s) := by
  unfold execMr4Poll
  repeat' first
    | with_reducible first
        | apply KeepsO.done
        | apply Keeps.refl
        | apply Keeps.andThen (Keeps.guarded ?_) ?_
        | apply Keeps.andThen (Keeps.foldl (fun t a => ?_)) ?_
    | (with_reducible apply Keeps.after (keeps_hotReadout ..) ?_ ?_ ?_) <;> [rfl; rfl; skip]

theorem keeps_execMrr (n : Fin 12) (v : Word) (byte : Byte) (s : State) :
    KeepsO 0x202000000000000000000000000000000000000000000 0x8 s (execMrr n v byte s) := by
  unfold execMrr
  repeat' first
    | with_reducible first
        | apply KeepsO.done
        | apply Keeps.refl
        | apply Keeps.andThen (Keeps.guarded ?_) ?_
    | (with_reducible apply Keeps.after (keeps_mrCmd ..) ?_ ?_ ?_) <;> [rfl; rfl; skip]

theorem keeps_execMrw (n : Fin 12) (v : Word) (s : State) :
    KeepsO 0x202000000000000000000000000000000000000000000 0x8 s (execMrw n v s) := by
  unfold execMrw
  repeat' first
    | with_reducible first
        | apply KeepsO.done
        | apply Keeps.refl
        | apply Keeps.andThen (Keeps.guarded ?_) ?_
    | (with_reducible apply Keeps.after (keeps_mrCmd ..) ?_ ?_ ?_) <;> [rfl; rfl; skip]

theorem keeps_execQueuesEmpty (n : Fin 12) (s : State) :
    KeepsO 0x200000000000000000000000000000000000 0x4000 s (execQueuesEmpty n s) := by
  unfold execQueuesEmpty
  repeat' first
    | with_reducible first
        | apply KeepsO.done
        | apply Keeps.refl
        | apply Keeps.andThen (Keeps.guarded ?_) ?_
    | (with_reducible apply Keeps.after (keeps_setChanState ..) ?_ ?_ ?_) <;> [rfl; rfl; skip]
    | (with_reducible apply Keeps.after (keeps_freqEntry ..) ?_ ?_ ?_) <;> [rfl; rfl; skip]
    | split

theorem keeps_issueRefresh (n : ℕ) (rank : ℕ) (b : Option ℕ) (extra : ℤ) (s : State) :
    Keeps 0 0x4000 s (issueRefresh n rank b extra s) := by
  unfold issueRefresh
  repeat' first
    | with_reducible first
        | apply Keeps.refl
    | (with_reducible apply Keeps.after (keeps_setChan ..) ?_ ?_ ?_) <;> [rfl; rfl; skip]
    | (with_reducible apply Keeps.after (keeps_closeBanks ..) ?_ ?_ ?_) <;> [rfl; rfl; skip]

theorem keeps_execRefresh (n : Fin 12) (rank : Fin 8) (act : RefreshAct) (s : State) :
    KeepsO 0 0x4000 s (execRefresh n rank act s) := by
  unfold execRefresh
  repeat' first
    | with_reducible first
        | apply KeepsO.done
        | apply Keeps.refl
        | apply Keeps.andThen (Keeps.guarded ?_) ?_
    | (with_reducible apply Keeps.after (keeps_setChan ..) ?_ ?_ ?_) <;> [rfl; rfl; skip]
    | (with_reducible apply Keeps.after (keeps_issueRefresh ..) ?_ ?_ ?_) <;> [rfl; rfl; skip]
    | split

theorem keeps_execRxeqDataWrite (n : Fin 12) (v : Word) (s : State) :
    KeepsO 0x2000000000000000000000000000000000000000000 0x4000 s (execRxeqDataWrite n v s) := by
  unfold execRxeqDataWrite
  repeat' first
    | with_reducible first
        | apply KeepsO.done
        | apply Keeps.refl
    | (with_reducible apply Keeps.after (keeps_rxeqWrite ..) ?_ ?_ ?_) <;> [rfl; rfl; skip]

theorem keeps_execSealChannel (a0 : Fin 12) (s : State) :
    KeepsO 0x400000000000000000000000000000000000 0x4000 s (execSealChannel a0 s) := by
  unfold execSealChannel
  repeat' first
    | with_reducible first
        | apply KeepsO.done
        | apply Keeps.refl
    | (with_reducible apply Keeps.after (keeps_sealIlv ..) ?_ ?_ ?_) <;> [rfl; rfl; skip]

theorem keeps_execSelfRefreshEntry (n : Fin 12) (s : State) :
    KeepsO 0x200000000000000000000000000000000000 0x4000 s (execSelfRefreshEntry n s) := by
  unfold execSelfRefreshEntry
  repeat' first
    | with_reducible first
        | apply KeepsO.done
        | apply Keeps.refl
        | apply Keeps.andThen (Keeps.guarded ?_) ?_
    | (with_reducible apply Keeps.after (keeps_setChan ..) ?_ ?_ ?_) <;> [rfl; rfl; skip]
    | (with_reducible apply Keeps.after (keeps_setChanState ..) ?_ ?_ ?_) <;> [rfl; rfl; skip]

theorem keeps_execShadowValid (n : Fin 12) (s : State) :
    KeepsO 0xe00010200000000000000000000000000000040000 0x4010 s (execShadowValid n s) := by
  unfold execShadowValid
  repeat' first
    | with_reducible first
        | apply KeepsO.done
        | apply Keeps.refl
    | (with_reducible apply Keeps.after (keeps_shadowValid ..) ?_ ?_ ?_) <;> [rfl; rfl; skip]

end Sys2Proof.Machine
end

