-- ==== Sys2Proof/Laws/KeepsDirectory.lean ====
section
/-! SUPPORT. The frames of the operations of Machine/Directory.lean: what each can change, and that it keeps the stores canonical. -/

namespace Sys2Proof.Machine
open Sys2Proof

theorem keeps_dirRegs (leaf : ℕ) (s : State) :
    Keeps 0x900000000000000000000000000000000 0 s (dirRegs leaf s) := by
  unfold dirRegs
  repeat' first
    | with_reducible first
        | apply Keeps.refl
    | (with_reducible apply Keeps.after (keeps_wr ..) ?_ ?_ ?_) <;> [(first | rfl | (dsimp only; rfl)); rfl; skip]

theorem keeps_sendSnoops (p : PendLine) (s : State) :
    Keeps 0 0x80 s (sendSnoops p s) := by
  unfold sendSnoops
  repeat' first
    | with_reducible first
        | apply Keeps.refl
        | apply Keeps.andThen (Keeps.foldl (fun t a => ?_)) ?_
    | (with_reducible apply Keeps.after (keeps_dispatch ..) ?_ ?_ ?_) <;> [rfl; rfl; skip]

theorem keeps_addPend (p : PendLine) (s : State) :
    Keeps 0x900000000000000000000000000000000 0x2080 s (addPend p s) := by
  unfold addPend
  repeat' first
    | with_reducible first
        | apply Keeps.refl
    | (with_reducible apply Keeps.after (keeps_dirRegs ..) ?_ ?_ ?_) <;> [rfl; rfl; skip]
    | (with_reducible apply Keeps.after (keeps_sendSnoops ..) ?_ ?_ ?_) <;> [rfl; rfl; skip]
    | simp (disch := first | exact Or.inl rfl | with_reducible exact Or.inr rfl | rfl) only [Keeps.upd]

theorem keeps_mntStat (s : State) :
    Keeps 0x100000000000000000000000000000000000000000000000000000000000000000000000000000 0 s (mntStat s) := by
  unfold mntStat
  repeat' first
    | with_reducible first
        | apply Keeps.refl
    | (with_reducible apply Keeps.after (keeps_wr ..) ?_ ?_ ?_) <;> [(first | rfl | (dsimp only; rfl)); rfl; skip]

theorem keeps_mntRecord (k : ℕ) (act : ℕ) (res : ℕ) (hw : Bool) (s : State) :
    Keeps 0x300000000000000000000000000000000000000000000000000000000000000000000000000000 0x20000 s (mntRecord k act res hw s).1 := by
  unfold mntRecord
  repeat' first
    | with_reducible first
        | apply Keeps.refl
    | (with_reducible apply Keeps.after (keeps_setReg ..) ?_ ?_ ?_) <;> [(first | rfl | (dsimp only; rfl)); rfl; skip]
    | (with_reducible apply Keeps.after (keeps_wr ..) ?_ ?_ ?_) <;> [(first | rfl | (dsimp only; rfl)); rfl; skip]
    | (with_reducible apply Keeps.after (keeps_mntStat ..) ?_ ?_ ?_) <;> [rfl; rfl; skip]
    | simp (disch := first | exact Or.inl rfl | with_reducible exact Or.inr rfl | rfl) only [Keeps.upd]

theorem keeps_mntRecord_eq {k : ℕ} {act : ℕ} {res : ℕ} {hw : Bool} {s : State} {out} {t : State} (he : mntRecord k act res hw s = (t, out)) :
    Keeps 0x300000000000000000000000000000000000000000000000000000000000000000000000000000 0x20000 s t := by
  have := keeps_mntRecord k act res hw s
  rwa [he] at this

theorem keeps_mntHwRequest (act : ℕ) (res : ℕ) (s : State) :
    Keeps 0x300000000000000000000000000000000000000000000000000000000000000000000000000000 0x20000 s (mntHwRequest act res s).1 := by
  unfold mntHwRequest
  repeat' first
    | with_reducible first
        | apply Keeps.refl
    | (with_reducible apply Keeps.after (keeps_mntRecord ..) ?_ ?_ ?_) <;> [rfl; rfl; skip]
    | simp (disch := first | exact Or.inl rfl | with_reducible exact Or.inr rfl | rfl) only [Keeps.upd]
    | split

theorem keeps_mntHwRequest_eq {act : ℕ} {res : ℕ} {s : State} {out} {t : State} (he : mntHwRequest act res s = (t, out)) :
    Keeps 0x300000000000000000000000000000000000000000000000000000000000000000000000000000 0x20000 s t := by
  have := keeps_mntHwRequest act res s
  rwa [he] at this

theorem keeps_dirPut (leaf : ℕ) (line : ℕ) (way : ℕ) (e : DirEntry) (s : State) :
    Keeps 0 0x2000 s (dirPut leaf line way e s) := by
  unfold dirPut
  repeat' first
    | with_reducible first
        | apply Keeps.refl
    | simp (disch := first | exact Or.inl rfl | with_reducible exact Or.inr rfl | rfl) only [Keeps.upd]

theorem keeps_failPoison (p : PendLine) (n : ℕ) (s : State) :
    Keeps 0 0x4000 s (failPoison p n s) := by
  unfold failPoison
  repeat' first
    | with_reducible first
        | apply Keeps.refl
    | (with_reducible apply Keeps.after (keeps_poisonLine ..) ?_ ?_ ?_) <;> [rfl; rfl; skip]
    | split

theorem keeps_fence (n : ℕ) (s : State) :
    Keeps 0x80000000000000000000000000000000000000020000000000000000000000000000000 0x2021 s (fence n s) := by
  unfold fence
  repeat' first
    | with_reducible first
        | apply Keeps.refl
    | (with_reducible apply Keeps.after (keeps_on ..) ?_ ?_ ?_) <;> [(first | rfl | (dsimp only; rfl)); rfl; skip]
    | (with_reducible apply Keeps.after (keeps_raise ..) ?_ ?_ ?_) <;> [rfl; rfl; skip]
    | simp (disch := first | exact Or.inl rfl | with_reducible exact Or.inr rfl | rfl) only [Keeps.upd]
    | split

theorem keeps_failUnsent (p : PendLine) (s : State) :
    Keeps 0x80000000000000000000000000000000000000020000000000000000000000000000000 0x6021 s (failUnsent p s).2 := by
  unfold failUnsent
  repeat' first
    | with_reducible first
        | apply Keeps.refl
        | apply Keeps.andThen (Keeps.foldl (fun t a => ?_)) ?_
    | (with_reducible apply Keeps.after (keeps_failPoison ..) ?_ ?_ ?_) <;> [rfl; rfl; skip]
    | (with_reducible apply Keeps.after (keeps_fence ..) ?_ ?_ ?_) <;> [rfl; rfl; skip]

theorem keeps_failUnsent_eq {p : PendLine} {s : State} {out} {t : State} (he : failUnsent p s = (out, t)) :
    Keeps 0x80000000000000000000000000000000000000020000000000000000000000000000000 0x6021 s t := by
  have := keeps_failUnsent p s
  rwa [he] at this

theorem keeps_walkEntry (leaf : ℕ) (accLost : ℕ) (wrLost : ℕ) (discard : Bool) (s : State) (e : DirEntry) :
    Keeps 0x80000000000000000000000000000000000000920000000000000000000000000000000 0x60a1 s (walkEntry leaf accLost wrLost discard s e) := by
  unfold walkEntry
  repeat' first
    | with_reducible first
        | apply Keeps.refl
    | (with_reducible apply Keeps.after (keeps_addPend ..) ?_ ?_ ?_) <;> [rfl; rfl; skip]
    | (with_reducible apply Keeps.after (keeps_dirPut ..) ?_ ?_ ?_) <;> [rfl; rfl; skip]
    | (with_reducible apply Keeps.after (keeps_failUnsent ..) ?_ ?_ ?_) <;> [rfl; rfl; skip]
    | split
    | dsimp only

theorem keeps_walkHead (leaf : ℕ) (n : ℕ) (s : State) :
    Keeps 0x900000000000000000000000000000000 0x6000 s (walkHead leaf n s) := by
  unfold walkHead
  repeat' first
    | with_reducible first
        | apply Keeps.refl
        | apply Keeps.andThen (Keeps.foldl (fun t a => ?_)) ?_
    | (with_reducible apply Keeps.after (keeps_dirRegs ..) ?_ ?_ ?_) <;> [rfl; rfl; skip]
    | (with_reducible apply Keeps.after (keeps_poisonLine ..) ?_ ?_ ?_) <;> [rfl; rfl; skip]
    | simp (disch := first | exact Or.inl rfl | with_reducible exact Or.inr rfl | rfl) only [Keeps.upd]
    | split

theorem keeps_walkLeaf (leaf : ℕ) (s : State) :
    Keeps 0x80000000000000000000000000000000000000920000000000000000000000000000000 0x60a1 s (walkLeaf leaf s) := by
  unfold walkLeaf
  repeat' first
    | with_reducible first
        | apply Keeps.refl
        | apply Keeps.andThen (Keeps.foldl (fun t a => ?_)) ?_
    | (with_reducible apply Keeps.after (keeps_dirRegs ..) ?_ ?_ ?_) <;> [rfl; rfl; skip]
    | (with_reducible apply Keeps.after (keeps_walkEntry ..) ?_ ?_ ?_) <;> [rfl; rfl; skip]
    | (with_reducible apply Keeps.after (keeps_walkHead ..) ?_ ?_ ?_) <;> [rfl; rfl; skip]
    | simp (disch := first | exact Or.inl rfl | with_reducible exact Or.inr rfl | rfl) only [Keeps.upd]
    | split

theorem keeps_pumpWalks (f : Nat) (s : State) : Keeps 0x300000080000000000000000000000000000000000000920000000000000000000000000000000 0x260a1 s (pumpWalks f s) := by
  induction f generalizing s with
  | zero => exact Keeps.refl s
  | succ f ih =>
    unfold pumpWalks
    repeat' first
      | with_reducible first
          | apply Keeps.refl
          | apply Keeps.andThen (ih ..) ?_
      | (with_reducible apply Keeps.after (keeps_mntHwRequest ..) ?_ ?_ ?_) <;> [rfl; rfl; skip]
      | (with_reducible apply Keeps.after (keeps_walkLeaf ..) ?_ ?_ ?_) <;> [rfl; rfl; skip]
      | simp (disch := first | exact Or.inl rfl | with_reducible exact Or.inr rfl | rfl) only [Keeps.upd]
      | split

theorem keeps_walks (s : State) :
    Keeps 0x300000080000000000000000000000000000000000000920000000000000000000000000000000 0x260a1 s (walks s) := by
  unfold walks
  repeat' first
    | with_reducible first
        | apply Keeps.refl
    | (with_reducible apply Keeps.after (keeps_pumpWalks ..) ?_ ?_ ?_) <;> [rfl; rfl; skip]

theorem keeps_dirTouch (leaf : ℕ) (line : ℕ) (way : ℕ) (s : State) :
    Keeps 0 0x2000 s (dirTouch leaf line way s) := by
  unfold dirTouch
  repeat' first
    | with_reducible first
        | apply Keeps.refl
    | simp (disch := first | exact Or.inl rfl | with_reducible exact Or.inr rfl | rfl) only [Keeps.upd]

theorem keeps_evict (leaf : ℕ) (e : DirEntry) (s : State) :
    Keeps 0x80000000000000000000000000000000000000d20000000000000000000000000000000 0x60a1 s (evict leaf e s) := by
  unfold evict
  repeat' first
    | with_reducible first
        | apply Keeps.refl
    | (with_reducible apply Keeps.after (keeps_satAdd ..) ?_ ?_ ?_) <;> [(first | rfl | (dsimp only; rfl)); rfl; skip]
    | (with_reducible apply Keeps.after (keeps_addPend ..) ?_ ?_ ?_) <;> [rfl; rfl; skip]
    | (with_reducible apply Keeps.after (keeps_failUnsent ..) ?_ ?_ ?_) <;> [rfl; rfl; skip]
    | split
    | dsimp only

theorem keeps_stallReq (r : Req) (s : State) :
    Keeps 0 0x2000 s (stallReq r s) := by
  unfold stallReq
  repeat' first
    | with_reducible first
        | apply Keeps.refl
    | simp (disch := first | exact Or.inl rfl | with_reducible exact Or.inr rfl | rfl) only [Keeps.upd]

theorem keeps_toChannel (n : ℕ) (r : Req) (s : State) :
    Keeps 0x8000000000000000000000000000008241000000000000000000000000000001c000000 0x40a1 s (toChannel n r s) := by
  unfold toChannel
  repeat' first
    | with_reducible first
        | apply Keeps.refl
    | (with_reducible apply Keeps.after (keeps_wr ..) ?_ ?_ ?_) <;> [(first | rfl | (dsimp only; rfl)); rfl; skip]
    | (with_reducible apply Keeps.after (keeps_setChan ..) ?_ ?_ ?_) <;> [rfl; rfl; skip]
    | (with_reducible apply Keeps.after (keeps_enqueue ..) ?_ ?_ ?_) <;> [rfl; rfl; skip]
    | (with_reducible apply Keeps.after (keeps_noteEmpty ..) ?_ ?_ ?_) <;> [rfl; rfl; skip]
    | split

theorem keeps_dirAct (leaf : ℕ) (q : Req) (s : State) :
    Keeps 0x80000000000000000000000000000082410000f2000000000000000000000001c000000 0x60a1 s (dirAct leaf q s) := by
  unfold dirAct
  repeat' first
    | with_reducible first
        | apply Keeps.refl
    | (with_reducible apply Keeps.after (keeps_satAdd ..) ?_ ?_ ?_) <;> [(first | rfl | (dsimp only; rfl)); rfl; skip]
    | (with_reducible apply Keeps.after (keeps_dirRegs ..) ?_ ?_ ?_) <;> [rfl; rfl; skip]
    | (with_reducible apply Keeps.after (keeps_addPend ..) ?_ ?_ ?_) <;> [rfl; rfl; skip]
    | (with_reducible apply Keeps.after (keeps_dirPut ..) ?_ ?_ ?_) <;> [rfl; rfl; skip]
    | (with_reducible apply Keeps.after (keeps_failUnsent ..) ?_ ?_ ?_) <;> [rfl; rfl; skip]
    | (with_reducible apply Keeps.after (keeps_dirTouch ..) ?_ ?_ ?_) <;> [rfl; rfl; skip]
    | (with_reducible apply Keeps.after (keeps_evict ..) ?_ ?_ ?_) <;> [rfl; rfl; skip]
    | (with_reducible apply Keeps.after (keeps_stallReq ..) ?_ ?_ ?_) <;> [rfl; rfl; skip]
    | (with_reducible apply Keeps.after (keeps_toChannel ..) ?_ ?_ ?_) <;> [rfl; rfl; skip]
    | split
    | dsimp only

theorem keeps_setPend (p : PendLine) (s : State) :
    Keeps 0 0x2000 s (setPend p s) := by
  unfold setPend
  repeat' first
    | with_reducible first
        | apply Keeps.refl
    | simp (disch := first | exact Or.inl rfl | with_reducible exact Or.inr rfl | rfl) only [Keeps.upd]

theorem keeps_dirRequest (leaf : ℕ) (s : State) (r : Req) :
    Keeps 0x80000000000000000000000000000082410000f2000000000000000000000001c000000 0x60a1 s (dirRequest leaf s r) := by
  unfold dirRequest
  repeat' first
    | with_reducible first
        | apply Keeps.refl
    | (with_reducible apply Keeps.after (keeps_stallReq ..) ?_ ?_ ?_) <;> [rfl; rfl; skip]
    | (with_reducible apply Keeps.after (keeps_dirAct ..) ?_ ?_ ?_) <;> [rfl; rfl; skip]
    | (with_reducible apply Keeps.after (keeps_setPend ..) ?_ ?_ ?_) <;> [rfl; rfl; skip]
    | split
    | dsimp only

theorem keeps_dirtyWrite (line : ℕ) (d : Line) (s : State) :
    Keeps 0 0x6000 s (dirtyWrite line d s) := by
  unfold dirtyWrite
  repeat' first
    | with_reducible first
        | apply Keeps.refl
    | (with_reducible apply Keeps.after (keeps_queueLine ..) ?_ ?_ ?_) <;> [rfl; rfl; skip]
    | (with_reducible apply Keeps.after (keeps_unclean ..) ?_ ?_ ?_) <;> [rfl; rfl; skip]

theorem keeps_retryStalled (s : State) :
    Keeps 0x80000000000000000000000000000082410000f2000000000000000000000001c000000 0x60a1 s (retryStalled s) := by
  unfold retryStalled
  repeat' first
    | with_reducible first
        | apply Keeps.refl
        | apply Keeps.andThen (Keeps.foldl (fun t a => ?_)) ?_
    | (with_reducible apply Keeps.after (keeps_dirRequest ..) ?_ ?_ ?_) <;> [rfl; rfl; skip]
    | simp (disch := first | exact Or.inl rfl | with_reducible exact Or.inr rfl | rfl) only [Keeps.upd]

theorem keeps_finishPend (p : PendLine) (s : State) :
    Keeps 0x80000000000000000000000000000082410000f2000000000000000000000001c000000 0x60a1 s (finishPend p s) := by
  unfold finishPend
  repeat' first
    | with_reducible first
        | apply Keeps.refl
        | apply Keeps.andThen (Keeps.foldl (fun t a => ?_)) ?_
    | (with_reducible apply Keeps.after (keeps_dirRegs ..) ?_ ?_ ?_) <;> [rfl; rfl; skip]
    | (with_reducible apply Keeps.after (keeps_dirPut ..) ?_ ?_ ?_) <;> [rfl; rfl; skip]
    | (with_reducible apply Keeps.after (keeps_toChannel ..) ?_ ?_ ?_) <;> [rfl; rfl; skip]
    | (with_reducible apply Keeps.after (keeps_dirRequest ..) ?_ ?_ ?_) <;> [rfl; rfl; skip]
    | (with_reducible apply Keeps.after (keeps_retryStalled ..) ?_ ?_ ?_) <;> [rfl; rfl; skip]
    | simp (disch := first | exact Or.inl rfl | with_reducible exact Or.inr rfl | rfl) only [Keeps.upd]
    | split

theorem keeps_snoopEnd (p : PendLine) (n : ℕ) (keeps : Bool) (data : Option Line) (s : State) :
    Keeps 0x80000000000000000000000000000082410000f2000000000000000000000001c000000 0x60a1 s (snoopEnd p n keeps data s) := by
  unfold snoopEnd
  repeat' first
    | with_reducible first
        | apply Keeps.refl
    | (with_reducible apply Keeps.after (keeps_setPend ..) ?_ ?_ ?_) <;> [rfl; rfl; skip]
    | (with_reducible apply Keeps.after (keeps_dirtyWrite ..) ?_ ?_ ?_) <;> [rfl; rfl; skip]
    | (with_reducible apply Keeps.after (keeps_finishPend ..) ?_ ?_ ?_) <;> [rfl; rfl; skip]
    | split
    | dsimp only

theorem keeps_snoopFail (p : PendLine) (n : ℕ) (s : State) :
    Keeps 0x80000000000000000000000000000082410000f2000000000000000000000001c000000 0x60a1 s (snoopFail p n s) := by
  unfold snoopFail
  repeat' first
    | with_reducible first
        | apply Keeps.refl
    | (with_reducible apply Keeps.after (keeps_failPoison ..) ?_ ?_ ?_) <;> [rfl; rfl; skip]
    | (with_reducible apply Keeps.after (keeps_fence ..) ?_ ?_ ?_) <;> [rfl; rfl; skip]
    | (with_reducible apply Keeps.after (keeps_snoopEnd ..) ?_ ?_ ?_) <;> [rfl; rfl; skip]

theorem keeps_failSnoopsOf (n : ℕ) (s : State) :
    Keeps 0x80000000000000000000000000000082410000f2000000000000000000000001c000000 0x60a1 s (failSnoopsOf n s) := by
  unfold failSnoopsOf
  repeat' first
    | with_reducible first
        | apply Keeps.refl
        | apply Keeps.andThen (Keeps.foldl (fun t a => ?_)) ?_
    | (with_reducible apply Keeps.after (keeps_snoopFail ..) ?_ ?_ ?_) <;> [rfl; rfl; skip]
    | split

theorem keeps_mntAdmitHw (f : Nat) (s : State) : Keeps 0x300000080000000000000000000000000000000000000920000000000000000000000000000000 0x260a1 s (mntAdmitHw f s) := by
  induction f generalizing s with
  | zero => exact Keeps.refl s
  | succ f ih =>
    unfold mntAdmitHw
    repeat' first
      | with_reducible first
          | apply Keeps.refl
          | apply Keeps.andThen (ih ..) ?_
      | (with_reducible apply Keeps.after (keeps_mntRecord ..) ?_ ?_ ?_) <;> [rfl; rfl; skip]
      | (with_reducible apply Keeps.after (keeps_walkLeaf ..) ?_ ?_ ?_) <;> [rfl; rfl; skip]
      | simp (disch := first | exact Or.inl rfl | with_reducible exact Or.inr rfl | rfl) only [Keeps.upd]
      | split

theorem keeps_mntGrants (f : Nat) (s : State) : Keeps 0x300040080000000000000000000000000000000000000920000000000000000000000000000000 0x60a1 s (mntGrants f s) := by
  induction f generalizing s with
  | zero => exact Keeps.refl s
  | succ f ih =>
    unfold mntGrants
    repeat' first
      | with_reducible first
          | apply Keeps.refl
          | apply Keeps.andThen (ih ..) ?_
      | (with_reducible apply Keeps.after (keeps_wr ..) ?_ ?_ ?_) <;> [(first | rfl | (dsimp only; rfl)); rfl; skip]
      | (with_reducible apply Keeps.after (keeps_mntStat ..) ?_ ?_ ?_) <;> [rfl; rfl; skip]
      | (with_reducible apply Keeps.after (keeps_walkLeaf ..) ?_ ?_ ?_) <;> [rfl; rfl; skip]
      | (with_reducible apply Keeps.after (keeps_raiseCause ..) ?_ ?_ ?_) <;> [(first | rfl | (dsimp only; rfl)); rfl; skip]
      | split

theorem keeps_mntEnd (k : ℕ) (s : State) :
    Keeps 0x300040080000000000000000000000000000000000000920000000000000000000000000000000 0x260a1 s (mntEnd k s) := by
  unfold mntEnd
  repeat' first
    | with_reducible first
        | apply Keeps.refl
    | (with_reducible apply Keeps.after (keeps_setReg ..) ?_ ?_ ?_) <;> [(first | rfl | (dsimp only; rfl)); rfl; skip]
    | (with_reducible apply Keeps.after (keeps_mntStat ..) ?_ ?_ ?_) <;> [rfl; rfl; skip]
    | (with_reducible apply Keeps.after (keeps_walks ..) ?_ ?_ ?_) <;> [rfl; rfl; skip]
    | (with_reducible apply Keeps.after (keeps_mntAdmitHw ..) ?_ ?_ ?_) <;> [rfl; rfl; skip]
    | (with_reducible apply Keeps.after (keeps_mntGrants ..) ?_ ?_ ?_) <;> [rfl; rfl; skip]
    | simp (disch := first | exact Or.inl rfl | with_reducible exact Or.inr rfl | rfl) only [Keeps.upd]

theorem keeps_dirDamaged (leaf : ℕ) (keys : List ℕ) (s : State) :
    Keeps 0x80000000000000000000000000000000000001910000000000000000000000000000000 0x2021 s (dirDamaged leaf keys s) := by
  unfold dirDamaged
  repeat' first
    | with_reducible first
        | apply Keeps.refl
    | (with_reducible apply Keeps.after (keeps_satAdd ..) ?_ ?_ ?_) <;> [(first | rfl | (dsimp only; rfl)); rfl; skip]
    | (with_reducible apply Keeps.after (keeps_dirRegs ..) ?_ ?_ ?_) <;> [rfl; rfl; skip]
    | (with_reducible apply Keeps.after (keeps_raiseCause ..) ?_ ?_ ?_) <;> [(first | rfl | (dsimp only; rfl)); rfl; skip]
    | simp (disch := first | exact Or.inl rfl | with_reducible exact Or.inr rfl | rfl) only [Keeps.upd]
    | split

theorem keeps_dirParity (leaf : ℕ) (line : ℕ) (ways : BitVec 16) (s : State) :
    Keeps 0x80000000000000000000000000000000000001910000000000000000000000000000000 0x2021 s (dirParity leaf line ways s) := by
  unfold dirParity
  repeat' first
    | with_reducible first
        | apply Keeps.refl
    | (with_reducible apply Keeps.after (keeps_dirDamaged ..) ?_ ?_ ?_) <;> [rfl; rfl; skip]

end Sys2Proof.Machine
end

