-- ==== Sys2Proof/Laws/KeepsLevels.lean ====
section
/-! SUPPORT. The frames of the operations of Machine/Levels.lean: what each can change, and that it keeps the stores canonical. -/

namespace Sys2Proof.Machine
open Sys2Proof

theorem keeps_holdPins (xs : List ℕ) (s : State) :
    Keeps 0 0x100 s (holdPins xs s) := by
  unfold holdPins
  repeat' first
    | with_reducible first
        | apply Keeps.refl
    | simp (disch := first | exact Or.inl rfl | with_reducible exact Or.inr rfl | rfl) only [Keeps.upd]

theorem keeps_sampleMg (s : State) :
    Keeps 0 0x80000 s (sampleMg s) := by
  unfold sampleMg
  repeat' first
    | with_reducible first
        | apply Keeps.refl
    | simp (disch := first | exact Or.inl rfl | with_reducible exact Or.inr rfl | rfl) only [Keeps.upd]

theorem keeps_seeLocal (xs : List ℕ) (s : State) :
    Keeps 0 0x100 s (seeLocal xs s) := by
  unfold seeLocal
  repeat' first
    | with_reducible first
        | apply Keeps.refl
    | simp (disch := first | exact Or.inl rfl | with_reducible exact Or.inr rfl | rfl) only [Keeps.upd]

theorem keeps_seeFalls (s : State) :
    Keeps 0 0x100 s (seeFalls s) := by
  unfold seeFalls
  repeat' first
    | with_reducible first
        | apply Keeps.refl
    | simp (disch := first | exact Or.inl rfl | with_reducible exact Or.inr rfl | rfl) only [Keeps.upd]

end Sys2Proof.Machine
end

