-- ==== Sys2Proof/Laws/KeepsMemory.lean ====
section
/-! SUPPORT. The frames of the operations of Machine/Memory.lean: what each can change, and that it keeps the stores canonical. -/

namespace Sys2Proof.Machine
open Sys2Proof

theorem keeps_setScrub (s : State) (l : ℕ) (r : LeafScrub) :
    Keeps 0 0x400 s (State.setScrub s l r) := by
  unfold State.setScrub
  repeat' first
    | with_reducible first
        | apply Keeps.refl
    | simp (disch := first | exact Or.inl rfl | with_reducible exact Or.inr rfl | rfl) only [Keeps.upd]

theorem keeps_memLog (k : MemKind) (i : ℕ) (kind : ℕ) (entry : ℕ) (word : ℕ) (pos : ℕ) (s : State) :
    Keeps 0x8000000000000000000000000000000000000000000000000000000000001c000000000 0x21 s (memLog k i kind entry word pos s) := by
  unfold memLog
  repeat' first
    | with_reducible first
        | apply Keeps.refl
    | (with_reducible apply Keeps.after (keeps_wr ..) ?_ ?_ ?_) <;> [(first | rfl | (dsimp only; rfl) | (cases k <;> rfl)); rfl; skip]
    | (with_reducible apply Keeps.after (keeps_satAdd ..) ?_ ?_ ?_) <;> [(first | rfl | (dsimp only; rfl) | (cases k <;> rfl)); rfl; skip]
    | (with_reducible apply Keeps.after (keeps_raise ..) ?_ ?_ ?_) <;> [rfl; rfl; skip]
    | split
    | dsimp only

theorem keeps_setCode (k : MemKind) (i w : Nat) (c : Codeword) (s : State) : Keeps 0 0x400 s (setCode k i w c s) :=
  Keeps.store rfl rfl (swf_sset (fun _ => none) _ _ _) id id (fun p hp => by cases p <;> first | rfl | exact absurd hp (by decide))

theorem keeps_addRemap (k : MemKind) (i : ℕ) (j : ℕ) (w : ℕ) (pos : ℕ) (src : ℕ) (c : Codeword) (s : State) :
    Keeps 0x800000000000000000000000000000000000000000000000000000000000fc000000000 0x421 s (addRemap k i j w pos src c s) := by
  unfold addRemap
  repeat' first
    | with_reducible first
        | apply Keeps.refl
    | (with_reducible apply Keeps.after (keeps_wrBit ..) ?_ ?_ ?_) <;> [(first | rfl | (dsimp only; rfl) | exact sub_kind rfl | (cases k <;> rfl)); rfl; skip]
    | (with_reducible apply Keeps.after (keeps_memLog ..) ?_ ?_ ?_) <;> [rfl; rfl; skip]
    | (with_reducible apply Keeps.after (keeps_setCode ..) ?_ ?_ ?_) <;> [rfl; rfl; skip]
    | simp (disch := first | exact Or.inl rfl | with_reducible exact Or.inr rfl | rfl) only [Keeps.upd]

theorem keeps_advanceWalk (k : MemKind) (i : ℕ) (s : State) :
    Keeps 0 0x400 s (advanceWalk k i s) := by
  unfold advanceWalk
  repeat' first
    | with_reducible first
        | apply Keeps.refl
    | simp (disch := first | exact Or.inl rfl | with_reducible exact Or.inr rfl | rfl) only [Keeps.upd]

theorem keeps_restartWalks (x : ℕ) (s : State) :
    Keeps 0 0x400 s (restartWalks x s) := by
  unfold restartWalks
  repeat' first
    | with_reducible first
        | apply Keeps.refl
    | simp (disch := first | exact Or.inl rfl | with_reducible exact Or.inr rfl | rfl) only [Keeps.upd]

theorem keeps_memLogPop (l : ℕ) (v : Word) (s : State) :
    Keeps 0x4000000000 0 s (memLogPop l v s) := by
  unfold memLogPop
  repeat' first
    | with_reducible first
        | apply Keeps.refl
    | (with_reducible apply Keeps.after (keeps_wr ..) ?_ ?_ ?_) <;> [(first | rfl | (dsimp only; rfl)); rfl; skip]
    | split
    | dsimp only

theorem keeps_instOff (p : MemKind → Nat → Bool) (s : State) : Keeps 0x8e0000000000 0x400 s (instOff p s) := by
  unfold instOff
  extract_lets gone m s1 s2
  have h : Keeps 0x8e0000000000 0x400 s s1 := Keeps.store rfl rfl (swf_filter (fun _ => none) _ _) id id (fun p hp => by cases p <;> first | rfl | exact absurd hp (by decide))
  clear_value s1
  subst s2
  repeat' first
    | with_reducible first
        | apply Keeps.refl
        | assumption
        | apply Keeps.andThen (Keeps.foldl (fun t a => ?_)) ?_
    | (with_reducible apply Keeps.after (keeps_wr ..) ?_ ?_ ?_) <;> [(first | rfl | (dsimp only; rfl) | exact sub_kind rfl); rfl; skip]
    | (with_reducible apply Keeps.after (keeps_off ..) ?_ ?_ ?_) <;> [(first | rfl | (dsimp only; rfl) | exact sub_kind rfl); rfl; skip]
    | split

theorem keeps_selfTestState (l : ℕ) (powered : MemKind → ℕ → Bool) (s : State) :
    Keeps 0x2000000000 0 s (selfTestState l powered s) := by
  unfold selfTestState
  repeat' first
    | with_reducible first
        | apply Keeps.refl
    | (with_reducible apply Keeps.after (keeps_wr ..) ?_ ?_ ?_) <;> [(first | rfl | (dsimp only; rfl)); rfl; skip]

theorem keeps_rmpCmd (v : Word) (s : State) :
    Keeps 0x800000000000 0x400 s (rmpCmd v s) := by
  unfold rmpCmd
  repeat' first
    | with_reducible first
        | apply Keeps.refl
    | (with_reducible apply Keeps.after (keeps_on ..) ?_ ?_ ?_) <;> [(first | rfl | (dsimp only; rfl)); rfl; skip]
    | simp (disch := first | exact Or.inl rfl | with_reducible exact Or.inr rfl | rfl) only [Keeps.upd]
    | split

theorem keeps_rmpSelWrite (v : Word) (s : State) :
    Keeps 0x100000000000 0 s (rmpSelWrite v s) := by
  unfold rmpSelWrite
  repeat' first
    | with_reducible first
        | apply Keeps.refl
    | (with_reducible apply Keeps.after (keeps_wr ..) ?_ ?_ ?_) <;> [(first | rfl | (dsimp only; rfl)); rfl; skip]
    | split

theorem keeps_dropCodes (p : Nat → Bool) (s : State) : Keeps 0 0x400 s (dropCodes p s) :=
  Keeps.store rfl rfl (swf_filter (fun _ => none) _ _) id id (fun p hp => by cases p <;> first | rfl | exact absurd hp (by decide))

theorem keeps_postDirected (k : MemKind) (i : ℕ) (w : ℕ) (s : State) :
    Keeps 0 0x400 s (postDirected k i w s) := by
  unfold postDirected
  repeat' first
    | with_reducible first
        | apply Keeps.refl
    | simp (disch := first | exact Or.inl rfl | with_reducible exact Or.inr rfl | rfl) only [Keeps.upd]
    | split

theorem keeps_flipCode (k : MemKind) (i : ℕ) (w : ℕ) (flips : List ℕ) (s : State) :
    Keeps 0 0x400 s (flipCode k i w flips s) := by
  unfold flipCode
  repeat' first
    | with_reducible first
        | apply Keeps.refl
    | (with_reducible apply Keeps.after (keeps_setCode ..) ?_ ?_ ?_) <;> [rfl; rfl; skip]
    | split

theorem keeps_compareWrite (k : MemKind) (i : ℕ) (bank : ℕ) (flips : List ℕ) (s : State) :
    Keeps 0 0x400 s (compareWrite k i bank flips s) := by
  unfold compareWrite
  repeat' first
    | with_reducible first
        | apply Keeps.refl
    | (with_reducible apply Keeps.after (keeps_setCode ..) ?_ ?_ ?_) <;> [rfl; rfl; skip]
    | (with_reducible apply Keeps.after (keeps_flipCode ..) ?_ ?_ ?_) <;> [rfl; rfl; skip]
    | simp (disch := first | exact Or.inl rfl | with_reducible exact Or.inr rfl | rfl) only [Keeps.upd]
    | split

theorem keeps_readWords (k : MemKind) (i unit : Nat) (ws : List Nat) (l : Line) (bad : Bool) (s : State) :
    Keeps 0 0x400 s (readWords k i unit ws l bad s).2.2 := by
  induction ws generalizing l bad s with
  | nil => exact Keeps.refl s
  | cons w ws ih =>
    unfold readWords
    repeat' first
      | with_reducible first
          | apply Keeps.refl
          | apply Keeps.andThen (ih ..) ?_
      | (with_reducible apply Keeps.after (keeps_postDirected ..) ?_ ?_ ?_) <;> [rfl; rfl; skip]
      | split
      | dsimp only

theorem keeps_readWords_eq {k : MemKind} {i unit : Nat} {ws : List Nat} {l : Line} {bad : Bool} {s : State} {v w} {t : State}
    (h : readWords k i unit ws l bad s = (v, w, t)) : Keeps 0 0x400 s t := by
  have := keeps_readWords k i unit ws l bad s
  rwa [h] at this

theorem keeps_storeWord (k : MemKind) (i : ℕ) (w : ℕ) (d : BitVec 128) (s : State) :
    Keeps 0 0x400 s (storeWord k i w d s) := by
  unfold storeWord
  repeat' first
    | with_reducible first
        | apply Keeps.refl
    | (with_reducible apply Keeps.after (keeps_setCode ..) ?_ ?_ ?_) <;> [rfl; rfl; skip]

theorem keeps_writeWords (k : MemKind) (i : ℕ) (unit : ℕ) (off : ℕ) (len : ℕ) (data : Line) (s : State) :
    Keeps 0 0x400 s (writeWords k i unit off len data s) := by
  unfold writeWords
  repeat' first
    | with_reducible first
        | apply Keeps.refl
        | apply Keeps.andThen (Keeps.foldl (fun t a => ?_)) ?_
    | (with_reducible apply Keeps.after (keeps_storeWord ..) ?_ ?_ ?_) <;> [rfl; rfl; skip]

theorem keeps_serveWords (k : MemKind) (i : ℕ) (unit : ℕ) (off : ℕ) (r : Req) (s : State) :
    Keeps 0x1c000000 0x480 s (serveWords k i unit off r s) := by
  unfold serveWords
  repeat' first
    | with_reducible first
        | apply Keeps.refl
    | (with_reducible apply Keeps.after (keeps_respond ..) ?_ ?_ ?_) <;> [rfl; rfl; skip]
    | (with_reducible apply Keeps.after (keeps_readWords ..) ?_ ?_ ?_) <;> [rfl; rfl; skip]
    | (with_reducible apply Keeps.after (keeps_writeWords ..) ?_ ?_ ?_) <;> [rfl; rfl; skip]
    | split

theorem keeps_dueSlot (k : MemKind) (i : ℕ) (s : State) :
    Keeps 0x400000000 0x400 s (dueSlot k i s) := by
  unfold dueSlot
  repeat' first
    | with_reducible first
        | apply Keeps.refl
    | (with_reducible apply Keeps.after (keeps_on ..) ?_ ?_ ?_) <;> [(first | rfl | (dsimp only; rfl) | (cases k <;> rfl)); rfl; skip]
    | simp (disch := first | exact Or.inl rfl | with_reducible exact Or.inr rfl | rfl) only [Keeps.upd]
    | split

theorem keeps_flipTouched (k : MemKind) (i : ℕ) (unit : ℕ) (off : ℕ) (len : ℕ) (ups : List (List ℕ)) (s : State) :
    Keeps 0 0x400 s (flipTouched k i unit off len ups s) := by
  unfold flipTouched
  repeat' first
    | with_reducible first
        | apply Keeps.refl
        | apply Keeps.andThen (Keeps.foldl (fun t a => ?_)) ?_
    | (with_reducible apply Keeps.after (keeps_flipCode ..) ?_ ?_ ?_) <;> [rfl; rfl; skip]

theorem keeps_selfTestEnds (k : MemKind) (i : ℕ) (pass : Bool) (badSpares : ℕ) (s : State) :
    Keeps 0x800000000000000000000000000000000000000000000000000000000000fc000000000 0x421 s (selfTestEnds k i pass badSpares s) := by
  unfold selfTestEnds
  repeat' first
    | with_reducible first
        | apply Keeps.refl
    | (with_reducible apply Keeps.after (keeps_wr ..) ?_ ?_ ?_) <;> [(first | rfl | (dsimp only; rfl) | exact sub_kind rfl | (cases k <;> rfl)); rfl; skip]
    | (with_reducible apply Keeps.after (keeps_on ..) ?_ ?_ ?_) <;> [(first | rfl | (dsimp only; rfl) | exact sub_kind rfl | (cases k <;> rfl)); rfl; skip]
    | (with_reducible apply Keeps.after (keeps_memLog ..) ?_ ?_ ?_) <;> [rfl; rfl; skip]
    | simp (disch := first | exact Or.inl rfl | with_reducible exact Or.inr rfl | rfl) only [Keeps.upd]
    | split

theorem keeps_execCompareAndWrite (kind : MemKind) (i : ℕ) (bank : Fin 4) (flips : List ℕ) (s : State) :
    KeepsO 0 0x400 s (execCompareAndWrite kind i bank flips s) := by
  unfold execCompareAndWrite
  repeat' first
    | with_reducible first
        | apply KeepsO.done
        | apply Keeps.refl
        | apply Keeps.andThen (Keeps.guarded ?_) ?_
    | (with_reducible apply Keeps.after (keeps_compareWrite ..) ?_ ?_ ?_) <;> [rfl; rfl; skip]

theorem keeps_remapCopy (flips : List ℕ) (s : State) :
    Keeps 0x800000000000000000000000000000000000000000000000000000000008fc000000000 0x421 s (remapCopy flips s) := by
  unfold remapCopy
  repeat' first
    | with_reducible first
        | apply Keeps.refl
    | (with_reducible apply Keeps.after (keeps_off ..) ?_ ?_ ?_) <;> [(first | rfl | (dsimp only; rfl)); rfl; skip]
    | (with_reducible apply Keeps.after (keeps_on ..) ?_ ?_ ?_) <;> [(first | rfl | (dsimp only; rfl)); rfl; skip]
    | (with_reducible apply Keeps.after (keeps_addRemap ..) ?_ ?_ ?_) <;> [rfl; rfl; skip]
    | (with_reducible apply Keeps.after (keeps_flipCode ..) ?_ ?_ ?_) <;> [rfl; rfl; skip]
    | simp (disch := first | exact Or.inl rfl | with_reducible exact Or.inr rfl | rfl) only [Keeps.upd]
    | split

theorem keeps_execFirmwareRemapCopy (flips : List ℕ) (s : State) :
    KeepsO 0x800000000000000000000000000000000000000000000000000000000008fc000000000 0x421 s (execFirmwareRemapCopy flips s) := by
  unfold execFirmwareRemapCopy
  repeat' first
    | with_reducible first
        | apply KeepsO.done
        | apply Keeps.refl
    | (with_reducible apply Keeps.after (keeps_remapCopy ..) ?_ ?_ ?_) <;> [rfl; rfl; skip]
    | split
    | dsimp only

theorem keeps_markScrubbed (k : MemKind) (i : ℕ) (s : State) :
    Keeps 0 0x400 s (markScrubbed k i s) := by
  unfold markScrubbed
  repeat' first
    | with_reducible first
        | apply Keeps.refl
    | simp (disch := first | exact Or.inl rfl | with_reducible exact Or.inr rfl | rfl) only [Keeps.upd]

theorem keeps_recordCorrection (k : MemKind) (i : ℕ) (w : ℕ) (pos : ℕ) (s : State) :
    Keeps 0 0x400 s (recordCorrection k i w pos s).2 := by
  unfold recordCorrection
  repeat' first
    | with_reducible first
        | apply Keeps.refl
    | simp (disch := first | exact Or.inl rfl | with_reducible exact Or.inr rfl | rfl) only [Keeps.upd]
    | split

theorem keeps_recordCorrection_eq {k : MemKind} {i : ℕ} {w : ℕ} {pos : ℕ} {s : State} {out} {t : State} (he : recordCorrection k i w pos s = (out, t)) :
    Keeps 0 0x400 s t := by
  have := keeps_recordCorrection k i w pos s
  rwa [he] at this

theorem keeps_wordPermanent (k : MemKind) (i : ℕ) (w : ℕ) (pos : ℕ) (fixed : Codeword) (s : State) :
    Keeps 0x800000000000000000000000000000000000000000000000000000000000fc000000000 0x421 s (wordPermanent k i w pos fixed s) := by
  unfold wordPermanent
  repeat' first
    | with_reducible first
        | apply Keeps.refl
    | (with_reducible apply Keeps.after (keeps_on ..) ?_ ?_ ?_) <;> [(first | rfl | (dsimp only; rfl) | exact sub_kind rfl | (cases k <;> rfl)); rfl; skip]
    | (with_reducible apply Keeps.after (keeps_memLog ..) ?_ ?_ ?_) <;> [rfl; rfl; skip]
    | (with_reducible apply Keeps.after (keeps_addRemap ..) ?_ ?_ ?_) <;> [rfl; rfl; skip]
    | split
    | dsimp only

theorem keeps_scrubWord (k : MemKind) (i : ℕ) (w : ℕ) (s : State) :
    Keeps 0x800000000000000000000000000000000000000000000000000000000000fd800000000 0x421 s (scrubWord k i w s) := by
  unfold scrubWord
  repeat' first
    | with_reducible first
        | apply Keeps.refl
    | (with_reducible apply Keeps.after (keeps_satAdd ..) ?_ ?_ ?_) <;> [(first | rfl | (dsimp only; rfl) | exact sub_kind rfl | (cases k <;> rfl)); rfl; skip]
    | (with_reducible apply Keeps.after (keeps_memLog ..) ?_ ?_ ?_) <;> [rfl; rfl; skip]
    | (with_reducible apply Keeps.after (keeps_recordCorrection ..) ?_ ?_ ?_) <;> [rfl; rfl; skip]
    | (with_reducible apply Keeps.after (keeps_wordPermanent ..) ?_ ?_ ?_) <;> [rfl; rfl; skip]
    | simp (disch := first | exact Or.inl rfl | with_reducible exact Or.inr rfl | rfl) only [Keeps.upd]
    | split

theorem keeps_startWalk (k : MemKind) (i : ℕ) (s : State) :
    Keeps 0 0x400 s (startWalk k i s) := by
  unfold startWalk
  repeat' first
    | with_reducible first
        | apply Keeps.refl
    | simp (disch := first | exact Or.inl rfl | with_reducible exact Or.inr rfl | rfl) only [Keeps.upd]
    | split

theorem keeps_takeDue (k : MemKind) (i : ℕ) (s : State) :
    Keeps 0 0x400 s (takeDue k i s) := by
  unfold takeDue
  repeat' first
    | with_reducible first
        | apply Keeps.refl
    | simp (disch := first | exact Or.inl rfl | with_reducible exact Or.inr rfl | rfl) only [Keeps.upd]

theorem keeps_directedSlot (k : MemKind) (i bank w : ℕ) (flips : List ℕ) (s : State) :
    Keeps 0x800000000000000000000000000000000000000000000000000000000008fd800000000 0x421 s (directedSlot k i bank w flips s) := by
  unfold directedSlot
  repeat' first
    | with_reducible first
        | apply Keeps.refl
    | (with_reducible apply Keeps.after (keeps_flipCode ..) ?_ ?_ ?_) <;> [rfl; rfl; skip]
    | (with_reducible apply Keeps.after (keeps_markScrubbed ..) ?_ ?_ ?_) <;> [rfl; rfl; skip]
    | (with_reducible apply Keeps.after (keeps_scrubWord ..) ?_ ?_ ?_) <;> [rfl; rfl; skip]
    | (with_reducible apply Keeps.after (keeps_startWalk ..) ?_ ?_ ?_) <;> [rfl; rfl; skip]
    | (with_reducible apply Keeps.after (keeps_takeDue ..) ?_ ?_ ?_) <;> [rfl; rfl; skip]
    | simp (disch := first | exact Or.inl rfl | with_reducible exact Or.inr rfl | rfl) only [Keeps.upd]
    | split
    | dsimp only

theorem keeps_walkSlot (k : MemKind) (i : ℕ) (flips : List ℕ) (s : State) :
    Keeps 0x800000000000000000000000000000000000000000000000000000000008fd800000000 0x421 s (walkSlot k i flips s) := by
  unfold walkSlot
  repeat' first
    | with_reducible first
        | apply Keeps.refl
    | (with_reducible apply Keeps.after (keeps_advanceWalk ..) ?_ ?_ ?_) <;> [rfl; rfl; skip]
    | (with_reducible apply Keeps.after (keeps_flipCode ..) ?_ ?_ ?_) <;> [rfl; rfl; skip]
    | (with_reducible apply Keeps.after (keeps_markScrubbed ..) ?_ ?_ ?_) <;> [rfl; rfl; skip]
    | (with_reducible apply Keeps.after (keeps_scrubWord ..) ?_ ?_ ?_) <;> [rfl; rfl; skip]
    | (with_reducible apply Keeps.after (keeps_startWalk ..) ?_ ?_ ?_) <;> [rfl; rfl; skip]
    | (with_reducible apply Keeps.after (keeps_takeDue ..) ?_ ?_ ?_) <;> [rfl; rfl; skip]
    | simp (disch := first | exact Or.inl rfl | with_reducible exact Or.inr rfl | rfl) only [Keeps.upd]
    | split

theorem keeps_scrubSlot (k : MemKind) (i : ℕ) (bank : ℕ) (flips : List ℕ) (s : State) :
    Keeps 0x800000000000000000000000000000000000000000000000000000000008fd800000000 0x421 s (scrubSlot k i bank flips s) := by
  unfold scrubSlot
  repeat' first
    | with_reducible first
        | apply Keeps.refl
    | (with_reducible apply Keeps.after (keeps_compareWrite ..) ?_ ?_ ?_) <;> [rfl; rfl; skip]
    | (with_reducible apply Keeps.after (keeps_remapCopy ..) ?_ ?_ ?_) <;> [rfl; rfl; skip]
    | (with_reducible apply Keeps.after (keeps_directedSlot ..) ?_ ?_ ?_) <;> [rfl; rfl; skip]
    | (with_reducible apply Keeps.after (keeps_walkSlot ..) ?_ ?_ ?_) <;> [rfl; rfl; skip]
    | split

theorem keeps_execMemLogPop (leaf : Fin 4) (v : Word) (s : State) :
    KeepsO 0x4000000000 0 s (execMemLogPop leaf v s) := by
  unfold execMemLogPop
  repeat' first
    | with_reducible first
        | apply KeepsO.done
        | apply Keeps.refl
    | (with_reducible apply Keeps.after (keeps_memLogPop ..) ?_ ?_ ?_) <;> [rfl; rfl; skip]

theorem keeps_showSkipped (l : Nat) (s : State) : Keeps 0xe0000000000 0x400 s (showSkipped l s) := by
  unfold showSkipped
  extract_lets show1 s1
  have h (k : MemKind) (t : State) : Keeps 0xe0000000000 0x400 t (show1 k t) :=
    Keeps.foldl (fun t a => Keeps.mono (keeps_wr ..) (sub_kind rfl) rfl)
  have h1 : Keeps 0xe0000000000 0x400 s s1 := Keeps.andThen (h ..) (Keeps.andThen (h ..) (h ..))
  clear_value s1
  exact Keeps.trans h1 (Keeps.store rfl rfl id id id (fun p hp => by cases p <;> first | rfl | exact absurd hp (by decide)))

theorem keeps_execMemPassBoundary (leaf : Fin 4) (s : State) :
    KeepsO 0xe0400000000 0x400 s (execMemPassBoundary leaf s) := by
  unfold execMemPassBoundary
  repeat' first
    | with_reducible first
        | apply KeepsO.done
        | apply Keeps.refl
        | apply Keeps.andThen (Keeps.guarded ?_) ?_
    | (with_reducible apply Keeps.after (keeps_setScrub ..) ?_ ?_ ?_) <;> [rfl; rfl; skip]
    | (with_reducible apply Keeps.after (keeps_wrapInc ..) ?_ ?_ ?_) <;> [(first | rfl | (dsimp only; rfl)); rfl; skip]
    | (with_reducible apply Keeps.after (keeps_showSkipped ..) ?_ ?_ ?_) <;> [rfl; rfl; skip]

theorem keeps_execMemRemapAdd (v : Word) (s : State) :
    KeepsO 0x800000000000 0x400 s (execMemRemapAdd v s) := by
  unfold execMemRemapAdd
  repeat' first
    | with_reducible first
        | apply KeepsO.done
        | apply Keeps.refl
    | (with_reducible apply Keeps.after (keeps_rmpCmd ..) ?_ ?_ ?_) <;> [rfl; rfl; skip]

theorem keeps_vaultRequest (v : ℕ) (off : ℕ) (ups : List (List ℕ)) (r : Req) (s : State) :
    Keeps 0x1c000000 0x2480 s (vaultRequest v off ups r s) := by
  unfold vaultRequest
  repeat' first
    | with_reducible first
        | apply Keeps.refl
    | (with_reducible apply Keeps.after (keeps_respond ..) ?_ ?_ ?_) <;> [rfl; rfl; skip]
    | (with_reducible apply Keeps.after (keeps_denied ..) ?_ ?_ ?_) <;> [rfl; rfl; skip]
    | (with_reducible apply Keeps.after (keeps_serveWords ..) ?_ ?_ ?_) <;> [rfl; rfl; skip]
    | (with_reducible apply Keeps.after (keeps_flipTouched ..) ?_ ?_ ?_) <;> [rfl; rfl; skip]
    | split

theorem keeps_execScrubTick (leaf : Fin 4) (s : State) :
    KeepsO 0x400000000 0x400 s (execScrubTick leaf s) := by
  unfold execScrubTick
  repeat' first
    | with_reducible first
        | apply KeepsO.done
        | apply Keeps.refl
        | apply Keeps.andThen (Keeps.guarded ?_) ?_
        | apply Keeps.andThen (Keeps.foldl (fun t a => ?_)) ?_
    | (with_reducible apply Keeps.after (keeps_setScrub ..) ?_ ?_ ?_) <;> [rfl; rfl; skip]
    | (with_reducible apply Keeps.after (keeps_dueSlot ..) ?_ ?_ ?_) <;> [rfl; rfl; skip]

end Sys2Proof.Machine
end

