-- ==== Sys2Proof/Laws/KeepsFabric.lean ====
section
/-! SUPPORT. The frames of the operations of Machine/Fabric.lean: what each can change, and that it keeps the stores canonical. -/

namespace Sys2Proof.Machine
open Sys2Proof

theorem keeps_portPosts (s : State) (b : ℕ) (side : ℕ) (ecc : Bool) (a : PortAttr) (p : PortPins) (t : State) :
    Keeps 0 0x400 t (portPosts s b side ecc a p t) := by
  unfold portPosts
  repeat' first
    | with_reducible first
        | apply Keeps.refl
    | (with_reducible apply Keeps.after (keeps_postDirected ..) ?_ ?_ ?_) <;> [rfl; rfl; skip]
    | split

theorem keeps_portWrite (b : ℕ) (side : ℕ) (ecc : Bool) (a : PortAttr) (p : PortPins) (taken : BitVec 72) (s : State) :
    Keeps 0 0x401 s (portWrite b side ecc a p taken s) := by
  unfold portWrite
  repeat' first
    | with_reducible first
        | apply Keeps.refl
    | (with_reducible apply Keeps.after (keeps_setCode ..) ?_ ?_ ?_) <;> [rfl; rfl; skip]
    | simp (disch := first | exact Or.inl rfl | with_reducible exact Or.inr rfl | rfl) only [Keeps.upd]
    | split

theorem keeps_bramPorts (b : ℕ) (ecc : Bool) (at_ : BramAttr) (pa : Option PortPins) (pb : Option PortPins) (s : State) (t : State) :
    Keeps 0 0x501 t (bramPorts b ecc at_ pa pb s t) := by
  unfold bramPorts
  repeat' first
    | with_reducible first
        | apply Keeps.refl
    | (with_reducible apply Keeps.after (keeps_portPosts ..) ?_ ?_ ?_) <;> [rfl; rfl; skip]
    | (with_reducible apply Keeps.after (keeps_portWrite ..) ?_ ?_ ?_) <;> [rfl; rfl; skip]
    | simp (disch := first | exact Or.inl rfl | with_reducible exact Or.inr rfl | rfl) only [Keeps.upd]
    | split

theorem keeps_bramEdge (s : State) (x : ℕ) (line : ℕ) (j : ℕ) (close : List (ℕ × Bool)) (t : State) :
    Keeps 0 0x501 t (bramEdge s x line j close t) := by
  unfold bramEdge
  repeat' first
    | with_reducible first
        | apply Keeps.refl
    | (with_reducible apply Keeps.after (keeps_bramPorts ..) ?_ ?_ ?_) <;> [rfl; rfl; skip]

theorem keeps_setFf (x : ℕ) (c : ℕ) (l : ℕ) (f : ℕ) (v : Bool) (s : State) :
    Keeps 0 0x100 s (setFf x c l f v s) := by
  unfold setFf
  repeat' first
    | with_reducible first
        | apply Keeps.refl
    | simp (disch := first | exact Or.inl rfl | with_reducible exact Or.inr rfl | rfl) only [Keeps.upd]

theorem keeps_lcEdge (s : State) (x : ℕ) (c : ℕ) (line : ℕ) (a : ClusterAttr) (p : ClusterPins) (l : Fin 16) (t : State) :
    Keeps 0 0x100 t (lcEdge s x c line a p l t) := by
  unfold lcEdge
  repeat' first
    | with_reducible first
        | apply Keeps.refl
    | (with_reducible apply Keeps.after (keeps_setFf ..) ?_ ?_ ?_) <;> [rfl; rfl; skip]
    | split
    | dsimp only

theorem keeps_clusterEdge (s : State) (x : ℕ) (line : ℕ) (c : ℕ) (late : List (ℕ × Bool)) (t : State) :
    Keeps 0 0x100 t (clusterEdge s x line c late t) := by
  unfold clusterEdge
  repeat' first
    | with_reducible first
        | apply Keeps.refl
        | apply Keeps.andThen (Keeps.foldl (fun t a => ?_)) ?_
    | (with_reducible apply Keeps.after (keeps_lcEdge ..) ?_ ?_ ?_) <;> [rfl; rfl; skip]
    | simp (disch := first | exact Or.inl rfl | with_reducible exact Or.inr rfl | rfl) only [Keeps.upd]
    | split

theorem keeps_fabricRelease (p : ℕ → Bool) (s : State) :
    Keeps 0 0x100 s (fabricRelease p s) := by
  unfold fabricRelease
  repeat' first
    | with_reducible first
        | apply Keeps.refl
    | simp (disch := first | exact Or.inl rfl | with_reducible exact Or.inr rfl | rfl) only [Keeps.upd]

theorem keeps_sliceEdge (s : State) (x : ℕ) (line : ℕ) (i : ℕ) (t : State) :
    Keeps 0 0x100 t (sliceEdge s x line i t) := by
  unfold sliceEdge
  repeat' first
    | with_reducible first
        | apply Keeps.refl
    | simp (disch := first | exact Or.inl rfl | with_reducible exact Or.inr rfl | rfl) only [Keeps.upd]
    | split

theorem keeps_fabricEdge (x : ℕ) (line : ℕ) (e : EdgePins) (s : State) :
    Keeps 0 0x80501 s (fabricEdge x line e s) := by
  unfold fabricEdge
  repeat' first
    | with_reducible first
        | apply Keeps.refl
        | apply Keeps.andThen (Keeps.foldl (fun t a => ?_)) ?_
    | (with_reducible apply Keeps.after (keeps_bramEdge ..) ?_ ?_ ?_) <;> [rfl; rfl; skip]
    | (with_reducible apply Keeps.after (keeps_clusterEdge ..) ?_ ?_ ?_) <;> [rfl; rfl; skip]
    | (with_reducible apply Keeps.after (keeps_flipCode ..) ?_ ?_ ?_) <;> [rfl; rfl; skip]
    | (with_reducible apply Keeps.after (keeps_sampleMg ..) ?_ ?_ ?_) <;> [rfl; rfl; skip]
    | (with_reducible apply Keeps.after (keeps_seeFalls ..) ?_ ?_ ?_) <;> [rfl; rfl; skip]
    | (with_reducible apply Keeps.after (keeps_sliceEdge ..) ?_ ?_ ?_) <;> [rfl; rfl; skip]
    | simp (disch := first | exact Or.inl rfl | with_reducible exact Or.inr rfl | rfl) only [Keeps.upd]

theorem keeps_noteHigh (x : ℕ) (j : Fin 4) (s : State) :
    Keeps 0 0x100 s (noteHigh x j s) := by
  unfold noteHigh
  repeat' first
    | with_reducible first
        | apply Keeps.refl
    | simp (disch := first | exact Or.inl rfl | with_reducible exact Or.inr rfl | rfl) only [Keeps.upd]

theorem keeps_execFabricClockEdge (x : Fin 320) (line : Fin 36) (pins : EdgePins) (s : State) :
    KeepsO 0 0x80511 s (execFabricClockEdge x line pins s) := by
  unfold execFabricClockEdge
  repeat' first
    | with_reducible first
        | apply KeepsO.done
        | apply Keeps.refl
        | apply Keeps.andThen (Keeps.guarded ?_) ?_
    | (with_reducible apply Keeps.after (keeps_fabricEdge ..) ?_ ?_ ?_) <;> [rfl; rfl; skip]
    | (with_reducible apply Keeps.after (keeps_noteEdge ..) ?_ ?_ ?_) <;> [rfl; rfl; skip]
    | (with_reducible apply Keeps.after (keeps_noteHigh ..) ?_ ?_ ?_) <;> [rfl; rfl; skip]
    | split

end Sys2Proof.Machine
end

