-- ==== Sys2Proof/Laws/KeepsSequencer.lean ====
section
/-! SUPPORT. The frames of the operations of Machine/Sequencer.lean: what each can change, and that it keeps the stores canonical. -/

namespace Sys2Proof.Machine
open Sys2Proof

theorem keeps_setUnit (u : ℕ) (st : ℕ) (s : State) :
    Keeps 0x4000000000000000000000000000000000000000000000000000000000000000000000000000 0 s (setUnit u st s) := by
  unfold setUnit
  repeat' first
    | with_reducible first
        | apply Keeps.refl
    | (with_reducible apply Keeps.after (keeps_wr ..) ?_ ?_ ?_) <;> [(first | rfl | (dsimp only; rfl) | (simp only [F.PWR_MODE_UNIT.ST]; rfl)); rfl; skip]

theorem keeps_unitsIdle (s : State) :
    Keeps 0x4000000000000000000000000000000000000000000000000000000000000000000000000000 0 s (unitsIdle s) := by
  unfold unitsIdle
  repeat' first
    | with_reducible first
        | apply Keeps.refl
        | apply Keeps.andThen (Keeps.foldl (fun t a => ?_)) ?_
    | (with_reducible apply Keeps.after (keeps_setUnit ..) ?_ ?_ ?_) <;> [rfl; rfl; skip]
    | split

theorem keeps_broadcast (us : List ℕ) (s : State) :
    Keeps 0x4200000000000000000000000000000000000000000000000000000000000000000000000000 0x40000 s (broadcast us s) := by
  unfold broadcast
  repeat' first
    | with_reducible first
        | apply Keeps.refl
        | apply Keeps.andThen (Keeps.foldl (fun t a => ?_)) ?_
    | (with_reducible apply Keeps.after (keeps_wr ..) ?_ ?_ ?_) <;> [(first | rfl | (dsimp only; rfl)); rfl; skip]
    | (with_reducible apply Keeps.after (keeps_setUnit ..) ?_ ?_ ?_) <;> [rfl; rfl; skip]
    | (with_reducible apply Keeps.after (keeps_unitsIdle ..) ?_ ?_ ?_) <;> [rfl; rfl; skip]
    | simp (disch := first | exact Or.inl rfl | with_reducible exact Or.inr rfl | rfl) only [Keeps.upd]

theorem keeps_ownTransaction (s : State) :
    Keeps 0x4200000000000000000000000000000000000000000000000000000000000000000000000000 0x40000 s (ownTransaction s) := by
  unfold ownTransaction
  repeat' first
    | with_reducible first
        | apply Keeps.refl
    | (with_reducible apply Keeps.after (keeps_broadcast ..) ?_ ?_ ?_) <;> [rfl; rfl; skip]
    | simp (disch := first | exact Or.inl rfl | with_reducible exact Or.inr rfl | rfl) only [Keeps.upd]
    | split

theorem keeps_wantPower (ds : List ℕ) (s : State) :
    Keeps 0x4200000000000000000000000000000000000000000000000000000000000000000000000000 0x40000 s (wantPower ds s) := by
  unfold wantPower
  repeat' first
    | with_reducible first
        | apply Keeps.refl
    | (with_reducible apply Keeps.after (keeps_ownTransaction ..) ?_ ?_ ?_) <;> [rfl; rfl; skip]
    | simp (disch := first | exact Or.inl rfl | with_reducible exact Or.inr rfl | rfl) only [Keeps.upd]

end Sys2Proof.Machine
end

