-- ==== Sys2Proof/Laws/KeepsWards.lean ====
section
/-! SUPPORT. The frames of the operations of Machine/Wards.lean: what each can change, and that it keeps the stores canonical. -/

namespace Sys2Proof.Machine
open Sys2Proof

theorem keeps_setCore (s : State) (c : ℕ) (r : CoreRec) :
    Keeps 0 0x8000 s (State.setCore s c r) := by
  unfold State.setCore
  repeat' first
    | with_reducible first
        | apply Keeps.refl
    | simp (disch := first | exact Or.inl rfl | with_reducible exact Or.inr rfl | rfl) only [Keeps.upd]

theorem keeps_sendMessage (n : ℕ) (m : KpMessage) (s : State) :
    Keeps 0x1000000000000000000000000000000000000000000000000000000000000000000000 0x8008 s (sendMessage n m s) := by
  unfold sendMessage
  repeat' first
    | with_reducible first
        | apply Keeps.refl
    | (with_reducible apply Keeps.after (keeps_issueMsix ..) ?_ ?_ ?_) <;> [rfl; rfl; skip]
    | simp (disch := first | exact Or.inl rfl | with_reducible exact Or.inr rfl | rfl) only [Keeps.upd]
    | split

theorem keeps_admitMessage (n : ℕ) (m : KpMessage) (s : State) :
    Keeps 0x1000000004000000000000000000000000000000000000000000000000000000000000 0x8008 s (admitMessage n m s) := by
  unfold admitMessage
  repeat' first
    | with_reducible first
        | apply Keeps.refl
    | (with_reducible apply Keeps.after (keeps_satAdd ..) ?_ ?_ ?_) <;> [(first | rfl | (dsimp only; rfl)); rfl; skip]
    | (with_reducible apply Keeps.after (keeps_sendMessage ..) ?_ ?_ ?_) <;> [rfl; rfl; skip]
    | simp (disch := first | exact Or.inl rfl | with_reducible exact Or.inr rfl | rfl) only [Keeps.upd]
    | split

theorem keeps_alertPin (s : State) :
    Keeps 0 0x8000 s (alertPin s) := by
  unfold alertPin
  repeat' first
    | with_reducible first
        | apply Keeps.refl
    | simp (disch := first | exact Or.inl rfl | with_reducible exact Or.inr rfl | rfl) only [Keeps.upd]

theorem keeps_wardLog (kind : ℕ) (tenant : ℕ) (detail : ℕ) (addr : ℕ) (s : State) :
    Keeps 0xe0000000000000000000000000000000000000000000000000000000000000 0 s (wardLog kind tenant detail addr s) := by
  unfold wardLog
  repeat' first
    | with_reducible first
        | apply Keeps.refl
    | (with_reducible apply Keeps.after (keeps_wr ..) ?_ ?_ ?_) <;> [(first | rfl | (dsimp only; rfl)); rfl; skip]
    | (with_reducible apply Keeps.after (keeps_satAdd ..) ?_ ?_ ?_) <;> [(first | rfl | (dsimp only; rfl)); rfl; skip]
    | split
    | dsimp only

theorem keeps_armGrant (n : ℕ) (v : Word) (s : State) :
    Keeps 0x10000000000000000000000000000000000000000000000000000000000000 0x8000 s (armGrant n v s) := by
  unfold armGrant
  repeat' first
    | with_reducible first
        | apply Keeps.refl
    | (with_reducible apply Keeps.after (keeps_setReg ..) ?_ ?_ ?_) <;> [(first | rfl | (dsimp only; rfl)); rfl; skip]
    | (with_reducible apply Keeps.after (keeps_wr ..) ?_ ?_ ?_) <;> [(first | rfl | (dsimp only; rfl)); rfl; skip]
    | simp (disch := first | exact Or.inl rfl | with_reducible exact Or.inr rfl | rfl) only [Keeps.upd]
    | split

theorem keeps_dmaStart (c : ℕ) (v : Word) (transfers : ℕ) (s : State) :
    Keeps 0xc000000000000000000000000000000000000000000000000000000000 0x8000 s (dmaStart c v transfers s) := by
  unfold dmaStart
  repeat' first
    | with_reducible first
        | apply Keeps.refl
    | (with_reducible apply Keeps.after (keeps_wr ..) ?_ ?_ ?_) <;> [(first | rfl | (dsimp only; rfl)); rfl; skip]
    | (with_reducible apply Keeps.after (keeps_on ..) ?_ ?_ ?_) <;> [(first | rfl | (dsimp only; rfl)); rfl; skip]
    | simp (disch := first | exact Or.inl rfl | with_reducible exact Or.inr rfl | rfl) only [Keeps.upd]
    | split

theorem keeps_freeGrant (n : ℕ) (k : ℕ) (s : State) :
    Keeps 0x10000000000000000000000000000000000000000000000000000000000000 0x8000 s (freeGrant n k s) := by
  unfold freeGrant
  repeat' first
    | with_reducible first
        | apply Keeps.refl
    | (with_reducible apply Keeps.after (keeps_setReg ..) ?_ ?_ ?_) <;> [(first | rfl | (dsimp only; rfl)); rfl; skip]
    | simp (disch := first | exact Or.inl rfl | with_reducible exact Or.inr rfl | rfl) only [Keeps.upd]

theorem keeps_freeGrants (n : ℕ) (op : ℕ) (obj : ℕ) (s : State) :
    Keeps 0x10000000000000000000000000000000000000000000000000000000000000 0x8000 s (freeGrants n op obj s) := by
  unfold freeGrants
  repeat' first
    | with_reducible first
        | apply Keeps.refl
        | apply Keeps.andThen (Keeps.foldl (fun t a => ?_)) ?_
    | (with_reducible apply Keeps.after (keeps_freeGrant ..) ?_ ?_ ?_) <;> [rfl; rfl; skip]

theorem keeps_vio (n : ℕ) (s : State) :
    Keeps 0x8000000000000000000000000000000000000000000000000000000000000 0 s (vio n s) := by
  unfold vio
  repeat' first
    | with_reducible first
        | apply Keeps.refl
    | (with_reducible apply Keeps.after (keeps_satAdd ..) ?_ ?_ ?_) <;> [(first | rfl | (dsimp only; rfl)); rfl; skip]

theorem keeps_clearWindowsGrants (n : ℕ) (s : State) :
    Keeps 0x110000000000000000000000000000000000000000000000000000000000000 0x8000 s (clearWindowsGrants n s) := by
  unfold clearWindowsGrants
  repeat' first
    | with_reducible first
        | apply Keeps.refl
        | apply Keeps.andThen (Keeps.foldl (fun t a => ?_)) ?_
    | (with_reducible apply Keeps.after (keeps_setReg ..) ?_ ?_ ?_) <;> [(first | rfl | (dsimp only; rfl)); rfl; skip]
    | simp (disch := first | exact Or.inl rfl | with_reducible exact Or.inr rfl | rfl) only [Keeps.upd]

theorem keeps_wardLogPop (v : Word) (s : State) :
    Keeps 0x20000000000000000000000000000000000000000000000000000000000000 0 s (wardLogPop v s) := by
  unfold wardLogPop
  repeat' first
    | with_reducible first
        | apply Keeps.refl
    | (with_reducible apply Keeps.after (keeps_wr ..) ?_ ?_ ?_) <;> [(first | rfl | (dsimp only; rfl)); rfl; skip]
    | split
    | dsimp only

theorem keeps_coreAccessFault (c : ℕ) (f : AccessFault) (s : State) :
    Keeps 0 0x8000 s (coreAccessFault c f s) := by
  unfold coreAccessFault
  repeat' first
    | with_reducible first
        | apply Keeps.refl
    | (with_reducible apply Keeps.after (keeps_setCore ..) ?_ ?_ ?_) <;> [rfl; rfl; skip]

theorem keeps_dmaStop (c : ℕ) (code : ℕ) (s : State) :
    Keeps 0x80000000000008000000000000000000000000000000000000000000000000000000000 0x8021 s (dmaStop c code s) := by
  unfold dmaStop
  repeat' first
    | with_reducible first
        | apply Keeps.refl
    | (with_reducible apply Keeps.after (keeps_wr ..) ?_ ?_ ?_) <;> [(first | rfl | (dsimp only; rfl)); rfl; skip]
    | (with_reducible apply Keeps.after (keeps_off ..) ?_ ?_ ?_) <;> [(first | rfl | (dsimp only; rfl)); rfl; skip]
    | (with_reducible apply Keeps.after (keeps_on ..) ?_ ?_ ?_) <;> [(first | rfl | (dsimp only; rfl)); rfl; skip]
    | (with_reducible apply Keeps.after (keeps_raise ..) ?_ ?_ ?_) <;> [rfl; rfl; skip]
    | simp (disch := first | exact Or.inl rfl | with_reducible exact Or.inr rfl | rfl) only [Keeps.upd]

theorem keeps_execDmaStart (c : Fin 8) (v : Word) (transfers : ℕ) (s : State) :
    KeepsO 0xc000000000000000000000000000000000000000000000000000000000 0x8000 s (execDmaStart c v transfers s) := by
  unfold execDmaStart
  repeat' first
    | with_reducible first
        | apply KeepsO.done
        | apply Keeps.refl
    | (with_reducible apply Keeps.after (keeps_dmaStart ..) ?_ ?_ ?_) <;> [rfl; rfl; skip]

theorem keeps_execGrant (n : Fin 16) (v : Word) (s : State) :
    KeepsO 0x10000000000000000000000000000000000000000000000000000000000000 0x8000 s (execGrant n v s) := by
  unfold execGrant
  repeat' first
    | with_reducible first
        | apply KeepsO.done
        | apply Keeps.refl
    | (with_reducible apply Keeps.after (keeps_armGrant ..) ?_ ?_ ?_) <;> [rfl; rfl; skip]

theorem keeps_execGrantExpiry (n : Fin 16) (k : Fin 4) (s : State) :
    KeepsO 0x10000000000000000000000000000000000000000000000000000000000000 0x8000 s (execGrantExpiry n k s) := by
  unfold execGrantExpiry
  repeat' first
    | with_reducible first
        | apply KeepsO.done
        | apply Keeps.refl
        | apply Keeps.andThen (Keeps.guarded ?_) ?_
    | (with_reducible apply Keeps.after (keeps_freeGrant ..) ?_ ?_ ?_) <;> [rfl; rfl; skip]

theorem keeps_execHeldMessageRelease (n : Fin 16) (s : State) :
    KeepsO 0x1000000000000000000000000000000000000000000000000000000000000000000000 0x8008 s (execHeldMessageRelease n s) := by
  unfold execHeldMessageRelease
  repeat' first
    | with_reducible first
        | apply KeepsO.done
        | apply Keeps.refl
        | apply Keeps.andThen (Keeps.guarded ?_) ?_
    | (with_reducible apply Keeps.after (keeps_sendMessage ..) ?_ ?_ ?_) <;> [rfl; rfl; skip]
    | simp (disch := first | exact Or.inl rfl | with_reducible exact Or.inr rfl | rfl) only [Keeps.upd]
    | split

theorem keeps_windowRefused (n : ℕ) (c : ℕ) (addr : ℕ) (s : State) :
    Keeps 0x800000000e8008000000000000000000000000000000000000000000000000000000000 0x8021 s (windowRefused n c addr s) := by
  unfold windowRefused
  repeat' first
    | with_reducible first
        | apply Keeps.refl
    | (with_reducible apply Keeps.after (keeps_wardLog ..) ?_ ?_ ?_) <;> [rfl; rfl; skip]
    | (with_reducible apply Keeps.after (keeps_vio ..) ?_ ?_ ?_) <;> [rfl; rfl; skip]
    | (with_reducible apply Keeps.after (keeps_dmaStop ..) ?_ ?_ ?_) <;> [rfl; rfl; skip]

theorem keeps_execLinkMessage (n : Fin 16) (msg : KpMessage) (s : State) :
    KeepsO 0x810000000ec008000000000000000000000000000000000000000000000000000000000 0x8029 s (execLinkMessage n msg s) := by
  unfold execLinkMessage
  repeat' first
    | with_reducible first
        | apply KeepsO.done
        | apply Keeps.refl
        | apply Keeps.andThen (Keeps.guarded ?_) ?_
    | (with_reducible apply Keeps.after (keeps_admitMessage ..) ?_ ?_ ?_) <;> [rfl; rfl; skip]
    | (with_reducible apply Keeps.after (keeps_wardLog ..) ?_ ?_ ?_) <;> [rfl; rfl; skip]
    | (with_reducible apply Keeps.after (keeps_vio ..) ?_ ?_ ?_) <;> [rfl; rfl; skip]
    | (with_reducible apply Keeps.after (keeps_windowRefused ..) ?_ ?_ ?_) <;> [rfl; rfl; skip]
    | split

theorem keeps_execLockstepMismatch (q : Fin 2) (s : State) :
    KeepsO 0x800000000000000a0000000000000000000000000000000000000000000000000000000 0x21 s (execLockstepMismatch q s) := by
  unfold execLockstepMismatch
  repeat' first
    | with_reducible first
        | apply KeepsO.done
        | apply Keeps.refl
        | apply Keeps.andThen (Keeps.guarded ?_) ?_
    | (with_reducible apply Keeps.after (keeps_wr ..) ?_ ?_ ?_) <;> [(first | rfl | (dsimp only; rfl) | (simp only [F.KP_CORE_STAT.MISMATCH, F.KP_CORE_STAT.RUN]; rfl)); rfl; skip]
    | (with_reducible apply Keeps.after (keeps_on ..) ?_ ?_ ?_) <;> [(first | rfl | (dsimp only; rfl) | (simp only [F.KP_CORE_STAT.MISMATCH, F.KP_CORE_STAT.RUN]; rfl)); rfl; skip]
    | (with_reducible apply Keeps.after (keeps_satAdd ..) ?_ ?_ ?_) <;> [(first | rfl | (dsimp only; rfl) | (simp only [F.KP_CORE_STAT.MISMATCH, F.KP_CORE_STAT.RUN]; rfl)); rfl; skip]
    | (with_reducible apply Keeps.after (keeps_raise ..) ?_ ?_ ?_) <;> [rfl; rfl; skip]

theorem keeps_execPowerAverage (watts : BitVec 12) (s : State) :
    KeepsO 0x800000000e0200000000000000000000000000000000000000000000000000000000000 0x8021 s (execPowerAverage watts s) := by
  unfold execPowerAverage
  repeat' first
    | with_reducible first
        | apply KeepsO.done
        | apply Keeps.refl
    | (with_reducible apply Keeps.after (keeps_wr ..) ?_ ?_ ?_) <;> [(first | rfl | (dsimp only; rfl)); rfl; skip]
    | (with_reducible apply Keeps.after (keeps_on ..) ?_ ?_ ?_) <;> [(first | rfl | (dsimp only; rfl)); rfl; skip]
    | (with_reducible apply Keeps.after (keeps_raise ..) ?_ ?_ ?_) <;> [rfl; rfl; skip]
    | (with_reducible apply Keeps.after (keeps_alertPin ..) ?_ ?_ ?_) <;> [rfl; rfl; skip]
    | (with_reducible apply Keeps.after (keeps_wardLog ..) ?_ ?_ ?_) <;> [rfl; rfl; skip]
    | split

theorem keeps_execWrdLogPop (v : Word) (s : State) :
    KeepsO 0x20000000000000000000000000000000000000000000000000000000000000 0 s (execWrdLogPop v s) := by
  unfold execWrdLogPop
  repeat' first
    | with_reducible first
        | apply KeepsO.done
        | apply Keeps.refl
    | (with_reducible apply Keeps.after (keeps_wardLogPop ..) ?_ ?_ ?_) <;> [rfl; rfl; skip]

end Sys2Proof.Machine
end

