-- ==== Sys2Proof/Laws/KeepsLoad.lean ====
section
/-! SUPPORT. The frames of the operations of Machine/Load.lean: what each can change, and that it keeps the stores canonical. -/

namespace Sys2Proof.Machine
open Sys2Proof

theorem keeps_setLoader (s : State) (l : ℕ) (c : Loader) :
    Keeps 0 0x200 s (State.setLoader s l c) := by
  unfold State.setLoader
  repeat' first
    | with_reducible first
        | apply Keeps.refl
    | simp (disch := first | exact Or.inl rfl | with_reducible exact Or.inr rfl | rfl) only [Keeps.upd]

theorem keeps_setScan (s : State) (l : ℕ) (c : Scanner) :
    Keeps 0x100000000000000000000000000000000000000000000000000000 0x200 s (State.setScan s l c) := by
  unfold State.setScan
  repeat' first
    | with_reducible first
        | apply Keeps.refl
    | (with_reducible apply Keeps.after (keeps_wr ..) ?_ ?_ ?_) <;> [(first | rfl | (dsimp only; rfl)); rfl; skip]
    | simp (disch := first | exact Or.inl rfl | with_reducible exact Or.inr rfl | rfl) only [Keeps.upd]

theorem keeps_cfgEvent (cause : Fld) (enable : Fld) (l : ℕ) (s : State) :
    Keeps (1 <<< cause.reg.ctorIdx ||| 0x80000000000000000000000000000000000000000000000000000000000000000000000) 0x21 s (cfgEvent cause enable l s) := by
  unfold cfgEvent
  repeat' first
    | with_reducible first
        | apply Keeps.refl
    | (with_reducible apply Keeps.after (keeps_raiseCause ..) ?_ ?_ ?_) <;> [(first | rfl | (dsimp only; rfl) | exact Nat.or_self _ | exact sub_left .. | exact sub_right .. | exact sub_into rfl | exact sub_both rfl); rfl; skip]

theorem keeps_imgAnswer (l : ℕ) (src : ℕ) (txn : ℕ) (a : Answer) (s : State) :
    Keeps 0 0x80 s (imgAnswer l src txn a s) := by
  unfold imgAnswer
  repeat' first
    | with_reducible first
        | apply Keeps.refl
    | (with_reducible apply Keeps.after (keeps_dispatch ..) ?_ ?_ ?_) <;> [rfl; rfl; skip]
    | simp (disch := first | exact Or.inl rfl | with_reducible exact Or.inr rfl | rfl) only [Keeps.upd]

theorem keeps_imgRefused (l : ℕ) (src : ℕ) (txn : ℕ) (s : State) :
    Keeps 0x1c000000 0x81 s (imgRefused l src txn s) := by
  unfold imgRefused
  repeat' first
    | with_reducible first
        | apply Keeps.refl
    | (with_reducible apply Keeps.after (keeps_fresh ..) ?_ ?_ ?_) <;> [rfl; rfl; skip]
    | (with_reducible apply Keeps.after (keeps_netLog ..) ?_ ?_ ?_) <;> [rfl; rfl; skip]
    | (with_reducible apply Keeps.after (keeps_imgAnswer ..) ?_ ?_ ?_) <;> [rfl; rfl; skip]

theorem keeps_endLoader (l : ℕ) (s : State) :
    Keeps 0x1c000000 0x281 s (endLoader l s) := by
  unfold endLoader
  repeat' first
    | with_reducible first
        | apply Keeps.refl
        | apply Keeps.andThen (Keeps.foldl (fun t a => ?_)) ?_
    | (with_reducible apply Keeps.after (keeps_setLoader ..) ?_ ?_ ?_) <;> [rfl; rfl; skip]
    | (with_reducible apply Keeps.after (keeps_imgRefused ..) ?_ ?_ ?_) <;> [rfl; rfl; skip]
    | simp (disch := first | exact Or.inl rfl | with_reducible exact Or.inr rfl | rfl) only [Keeps.upd]

theorem keeps_startRetryWait (s : State) :
    Keeps 0 0x200 s (startRetryWait s) := by
  unfold startRetryWait
  repeat' first
    | with_reducible first
        | apply Keeps.refl
    | simp (disch := first | exact Or.inl rfl | with_reducible exact Or.inr rfl | rfl) only [Keeps.upd]

theorem keeps_fullFails (s : State) :
    Keeps 0xc00000000000000000000000000000000000000000000 0x200 s (fullFails s) := by
  unfold fullFails
  repeat' first
    | with_reducible first
        | apply Keeps.refl
    | (with_reducible apply Keeps.after (keeps_wr ..) ?_ ?_ ?_) <;> [(first | rfl | (dsimp only; rfl)); rfl; skip]
    | (with_reducible apply Keeps.after (keeps_on ..) ?_ ?_ ?_) <;> [(first | rfl | (dsimp only; rfl)); rfl; skip]
    | (with_reducible apply Keeps.after (keeps_startRetryWait ..) ?_ ?_ ?_) <;> [rfl; rfl; skip]
    | split

theorem keeps_loadFail (l : ℕ) (code : ℕ) (frame : ℕ) (s : State) :
    Keeps 0x800000000000000000000002b0c0000000000000000000000000000000000001c000000 0x2a1 s (loadFail l code frame s) := by
  unfold loadFail
  repeat' first
    | with_reducible first
        | apply Keeps.refl
    | (with_reducible apply Keeps.after (keeps_wr ..) ?_ ?_ ?_) <;> [(first | rfl | (dsimp only; rfl)); rfl; skip]
    | (with_reducible apply Keeps.after (keeps_on ..) ?_ ?_ ?_) <;> [(first | rfl | (dsimp only; rfl)); rfl; skip]
    | (with_reducible apply Keeps.after (keeps_cfgEvent ..) ?_ ?_ ?_) <;> [(first | rfl | (dsimp only; rfl)); rfl; skip]
    | (with_reducible apply Keeps.after (keeps_endLoader ..) ?_ ?_ ?_) <;> [rfl; rfl; skip]
    | (with_reducible apply Keeps.after (keeps_fullFails ..) ?_ ?_ ?_) <;> [rfl; rfl; skip]
    | simp (disch := first | exact Or.inl rfl | with_reducible exact Or.inr rfl | rfl) only [Keeps.upd]
    | split

theorem keeps_failNext (l : ℕ) (code : ℕ) (s : State) :
    Keeps 0x800000000000000000000002b0c0000000000000000000000000000000000001c000000 0x2a1 s (failNext l code s) := by
  unfold failNext
  repeat' first
    | with_reducible first
        | apply Keeps.refl
    | (with_reducible apply Keeps.after (keeps_loadFail ..) ?_ ?_ ?_) <;> [rfl; rfl; skip]

theorem keeps_ldResult (l : ℕ) (v : ℕ) (s : State) :
    Keeps 0x10000000000000000000000000000000000000000000000 0 s (ldResult l v s) := by
  unfold ldResult
  repeat' first
    | with_reducible first
        | apply Keeps.refl
    | (with_reducible apply Keeps.after (keeps_wr ..) ?_ ?_ ?_) <;> [(first | rfl | (dsimp only; rfl)); rfl; skip]

theorem keeps_cfgAbort (l : ℕ) (s : State) :
    Keeps 0x800000000000000000000002b0c0000000000000000000000000000000000001c000000 0x2a1 s (cfgAbort l s) := by
  unfold cfgAbort
  repeat' first
    | with_reducible first
        | apply Keeps.refl
    | (with_reducible apply Keeps.after (keeps_failNext ..) ?_ ?_ ?_) <;> [rfl; rfl; skip]
    | (with_reducible apply Keeps.after (keeps_ldResult ..) ?_ ?_ ?_) <;> [rfl; rfl; skip]
    | split
    | dsimp only

theorem keeps_setClosed (b : Bool) (x : ℕ) (s : State) :
    Keeps 0x2000000000000000000000000000000000000000080000000 0x480 s (setClosed b x s) := by
  unfold setClosed
  repeat' first
    | with_reducible first
        | apply Keeps.refl
        | apply Keeps.andThen (Keeps.foldl (fun t a => ?_)) ?_
    | (with_reducible apply Keeps.after (keeps_wr ..) ?_ ?_ ?_) <;> [(first | rfl | (dsimp only; rfl)); rfl; skip]
    | (with_reducible apply Keeps.after (keeps_portRegs ..) ?_ ?_ ?_) <;> [rfl; rfl; skip]
    | (with_reducible apply Keeps.after (keeps_restartWalks ..) ?_ ?_ ?_) <;> [rfl; rfl; skip]
    | simp (disch := first | exact Or.inl rfl | with_reducible exact Or.inr rfl | rfl) only [Keeps.upd]

theorem keeps_closeSectors (xs : List ℕ) (s : State) :
    Keeps 0x100002000000000000000000000000000000000000000080000000 0x780 s (closeSectors xs s) := by
  unfold closeSectors
  repeat' first
    | with_reducible first
        | apply Keeps.refl
        | apply Keeps.andThen (Keeps.foldl (fun t a => ?_)) ?_
    | (with_reducible apply Keeps.after (keeps_setScan ..) ?_ ?_ ?_) <;> [rfl; rfl; skip]
    | (with_reducible apply Keeps.after (keeps_holdPins ..) ?_ ?_ ?_) <;> [rfl; rfl; skip]
    | (with_reducible apply Keeps.after (keeps_setClosed ..) ?_ ?_ ?_) <;> [rfl; rfl; skip]

theorem keeps_closeWindow (xs : List ℕ) (s : State) :
    Keeps 0x4200000000000000000000100002000000000000000000000000000000000000000080000000 0x40780 s (closeWindow xs s) := by
  unfold closeWindow
  repeat' first
    | with_reducible first
        | apply Keeps.refl
    | (with_reducible apply Keeps.after (keeps_closeSectors ..) ?_ ?_ ?_) <;> [rfl; rfl; skip]
    | (with_reducible apply Keeps.after (keeps_wantPower ..) ?_ ?_ ?_) <;> [rfl; rfl; skip]

theorem keeps_startOp (l : ℕ) (op : ℕ) (region : ℕ) (phase : ℕ) (s : State) :
    Keeps 0x50000000000000000000000000000000000000000000000 0x200 s (startOp l op region phase s) := by
  unfold startOp
  repeat' first
    | with_reducible first
        | apply Keeps.refl
    | (with_reducible apply Keeps.after (keeps_wr ..) ?_ ?_ ?_) <;> [(first | rfl | (dsimp only; rfl)); rfl; skip]
    | (with_reducible apply Keeps.after (keeps_setLoader ..) ?_ ?_ ?_) <;> [rfl; rfl; skip]
    | (with_reducible apply Keeps.after (keeps_ldResult ..) ?_ ?_ ?_) <;> [rfl; rfl; skip]

theorem keeps_cfgClear (l : ℕ) (r : ℕ) (s : State) :
    Keeps 0x4200000000000000000000100002250000000000000000000000000000000000000080000000 0x40780 s (cfgClear l r s) := by
  unfold cfgClear
  repeat' first
    | with_reducible first
        | apply Keeps.refl
    | (with_reducible apply Keeps.after (keeps_wr ..) ?_ ?_ ?_) <;> [(first | rfl | (dsimp only; rfl)); rfl; skip]
    | (with_reducible apply Keeps.after (keeps_ldResult ..) ?_ ?_ ?_) <;> [rfl; rfl; skip]
    | (with_reducible apply Keeps.after (keeps_closeWindow ..) ?_ ?_ ?_) <;> [rfl; rfl; skip]
    | (with_reducible apply Keeps.after (keeps_startOp ..) ?_ ?_ ?_) <;> [rfl; rfl; skip]
    | split
    | dsimp only

theorem keeps_cfgLoad (l : ℕ) (r : ℕ) (s : State) :
    Keeps 0x50000000000000000000000000000000000000000000000 0x200 s (cfgLoad l r s) := by
  unfold cfgLoad
  repeat' first
    | with_reducible first
        | apply Keeps.refl
    | (with_reducible apply Keeps.after (keeps_ldResult ..) ?_ ?_ ?_) <;> [rfl; rfl; skip]
    | (with_reducible apply Keeps.after (keeps_startOp ..) ?_ ?_ ?_) <;> [rfl; rfl; skip]
    | split

theorem keeps_setAttempt (k : ℕ) (s : State) :
    Keeps 0x400000000000000000000000000000000000000000000 0x200 s (setAttempt k s) := by
  unfold setAttempt
  repeat' first
    | with_reducible first
        | apply Keeps.refl
    | (with_reducible apply Keeps.after (keeps_wr ..) ?_ ?_ ?_) <;> [(first | rfl | (dsimp only; rfl)); rfl; skip]
    | simp (disch := first | exact Or.inl rfl | with_reducible exact Or.inr rfl | rfl) only [Keeps.upd]

theorem keeps_cfgLoadFull (sherex : Bool) (s : State) :
    Keeps 0x50400000000000000000000000000000000000000000000 0x200 s (cfgLoadFull sherex s) := by
  unfold cfgLoadFull
  repeat' first
    | with_reducible first
        | apply Keeps.refl
    | (with_reducible apply Keeps.after (keeps_wr ..) ?_ ?_ ?_) <;> [(first | rfl | (dsimp only; rfl)); rfl; skip]
    | (with_reducible apply Keeps.after (keeps_ldResult ..) ?_ ?_ ?_) <;> [rfl; rfl; skip]
    | (with_reducible apply Keeps.after (keeps_startOp ..) ?_ ?_ ?_) <;> [rfl; rfl; skip]
    | (with_reducible apply Keeps.after (keeps_setAttempt ..) ?_ ?_ ?_) <;> [rfl; rfl; skip]
    | simp (disch := first | exact Or.inl rfl | with_reducible exact Or.inr rfl | rfl) only [Keeps.upd]
    | split

theorem keeps_trstStep (s : State) :
    Keeps 0x304200000000000000000000100002250000000000000000000000000000000000000080000000 0x60780 s (trstStep s) := by
  unfold trstStep
  repeat' first
    | with_reducible first
        | apply Keeps.refl
    | (with_reducible apply Keeps.after (keeps_mntHwRequest ..) ?_ ?_ ?_) <;> [rfl; rfl; skip]
    | (with_reducible apply Keeps.after (keeps_cfgClear ..) ?_ ?_ ?_) <;> [rfl; rfl; skip]
    | simp (disch := first | exact Or.inl rfl | with_reducible exact Or.inr rfl | rfl) only [Keeps.upd]
    | split

theorem keeps_trstAdvance (s : State) :
    Keeps 0x304200000000000000000000100002250000000000000000000000000000000000000080000000 0x60780 s (trstAdvance s) := by
  unfold trstAdvance
  repeat' first
    | with_reducible first
        | apply Keeps.refl
        | apply Keeps.andThen (Keeps.foldl (fun t a => ?_)) ?_
    | (with_reducible apply Keeps.after (keeps_trstStep ..) ?_ ?_ ?_) <;> [rfl; rfl; skip]

theorem keeps_regionWard (n : ℕ) (op : ℕ) (r : ℕ) (s : State) :
    Keeps 0xf8000000000000000000000000000000000000000000000000000000000000 0x8000 s (regionWard n op r s).2 := by
  unfold regionWard
  repeat' first
    | with_reducible first
        | apply Keeps.refl
    | (with_reducible apply Keeps.after (keeps_wardLog ..) ?_ ?_ ?_) <;> [rfl; rfl; skip]
    | (with_reducible apply Keeps.after (keeps_freeGrant ..) ?_ ?_ ?_) <;> [rfl; rfl; skip]
    | (with_reducible apply Keeps.after (keeps_vio ..) ?_ ?_ ?_) <;> [rfl; rfl; skip]
    | split

theorem keeps_regionWard_eq {n : ℕ} {op : ℕ} {r : ℕ} {s : State} {out} {t : State} (he : regionWard n op r s = (out, t)) :
    Keeps 0xf8000000000000000000000000000000000000000000000000000000000000 0x8000 s t := by
  have := keeps_regionWard n op r s
  rwa [he] at this

theorem keeps_showVerdict (k : Decoded) (s : State) :
    Keeps 0x8000000000000000000000000000000000000000000000000 0 s (showVerdict k s) := by
  unfold showVerdict
  repeat' first
    | with_reducible first
        | apply Keeps.refl
    | (with_reducible apply Keeps.after (keeps_off ..) ?_ ?_ ?_) <;> [(first | rfl | (dsimp only; rfl)); rfl; skip]
    | (with_reducible apply Keeps.after (keeps_on ..) ?_ ?_ ?_) <;> [(first | rfl | (dsimp only; rfl)); rfl; skip]
    | split

theorem keeps_showFrame (v : Frame) (s : State) :
    Keeps 0x18000000000000000000000000000000000000000000000000 0 s (showFrame v s) := by
  unfold showFrame
  repeat' first
    | with_reducible first
        | apply Keeps.refl
        | apply Keeps.andThen (Keeps.foldl (fun t a => ?_)) ?_
    | (with_reducible apply Keeps.after (keeps_setReg ..) ?_ ?_ ?_) <;> [(first | rfl | (dsimp only; rfl)); rfl; skip]
    | (with_reducible apply Keeps.after (keeps_on ..) ?_ ?_ ?_) <;> [(first | rfl | (dsimp only; rfl)); rfl; skip]
    | (with_reducible apply Keeps.after (keeps_showVerdict ..) ?_ ?_ ?_) <;> [rfl; rfl; skip]

theorem keeps_frameReadback (v : Word) (s : State) :
    Keeps 0xf8000000000018000000000000000000000000000000000000000000000000 0x8000 s (frameReadback v s) := by
  unfold frameReadback
  repeat' first
    | with_reducible first
        | apply Keeps.refl
    | (with_reducible apply Keeps.after (keeps_off ..) ?_ ?_ ?_) <;> [(first | rfl | (dsimp only; rfl)); rfl; skip]
    | (with_reducible apply Keeps.after (keeps_on ..) ?_ ?_ ?_) <;> [(first | rfl | (dsimp only; rfl)); rfl; skip]
    | (with_reducible apply Keeps.after (keeps_regionWard ..) ?_ ?_ ?_) <;> [rfl; rfl; skip]
    | (with_reducible apply Keeps.after (keeps_showFrame ..) ?_ ?_ ?_) <;> [rfl; rfl; skip]
    | split
    | dsimp only

theorem keeps_rgnCfgWrite (r : ℕ) (v : Word) (s : State) :
    Keeps 0x200000000000000000000000000000000000000000000000 0 s (rgnCfgWrite r v s) := by
  unfold rgnCfgWrite
  repeat' first
    | with_reducible first
        | apply Keeps.refl
    | (with_reducible apply Keeps.after (keeps_wr ..) ?_ ?_ ?_) <;> [(first | rfl | (dsimp only; rfl)); rfl; skip]
    | (with_reducible apply Keeps.after (keeps_off ..) ?_ ?_ ?_) <;> [(first | rfl | (dsimp only; rfl)); rfl; skip]
    | (with_reducible apply Keeps.after (keeps_on ..) ?_ ?_ ?_) <;> [(first | rfl | (dsimp only; rfl)); rfl; skip]
    | split
    | dsimp only

theorem keeps_khImages (s : State) :
    Keeps 0x20000000000000000000000000000000000000000000000000000000000000000000000000000000000000000 0x100000 s (khImages s) := by
  unfold khImages
  repeat' first
    | with_reducible first
        | apply Keeps.refl
    | (with_reducible apply Keeps.after (keeps_off ..) ?_ ?_ ?_) <;> [(first | rfl | (dsimp only; rfl)); rfl; skip]
    | (with_reducible apply Keeps.after (keeps_on ..) ?_ ?_ ?_) <;> [(first | rfl | (dsimp only; rfl)); rfl; skip]
    | simp (disch := first | exact Or.inl rfl | with_reducible exact Or.inr rfl | rfl) only [Keeps.upd]
    | split

theorem keeps_bootRomFails (s : State) :
    Keeps 0x20000000000000000000000000000000000000000000c00000000000000000000000000000000000000000000 0x100200 s (bootRomFails s) := by
  unfold bootRomFails
  repeat' first
    | with_reducible first
        | apply Keeps.refl
    | (with_reducible apply Keeps.after (keeps_wr ..) ?_ ?_ ?_) <;> [(first | rfl | (dsimp only; rfl)); rfl; skip]
    | (with_reducible apply Keeps.after (keeps_on ..) ?_ ?_ ?_) <;> [(first | rfl | (dsimp only; rfl)); rfl; skip]
    | (with_reducible apply Keeps.after (keeps_startRetryWait ..) ?_ ?_ ?_) <;> [rfl; rfl; skip]
    | (with_reducible apply Keeps.after (keeps_khImages ..) ?_ ?_ ?_) <;> [rfl; rfl; skip]

theorem keeps_defineRegions (s : State) :
    Keeps 0x3e00000000000000000000000000000000000000000000000 0 s (defineRegions s) := by
  unfold defineRegions
  repeat' first
    | with_reducible first
        | apply Keeps.refl
        | apply Keeps.andThen (Keeps.foldl (fun t a => ?_)) ?_
    | (with_reducible apply Keeps.after (keeps_wr ..) ?_ ?_ ?_) <;> [(first | rfl | (dsimp only; rfl)); rfl; skip]
    | (with_reducible apply Keeps.after (keeps_on ..) ?_ ?_ ?_) <;> [(first | rfl | (dsimp only; rfl)); rfl; skip]

theorem keeps_takeBytes (l : ℕ) (b : List Byte) (s : State) :
    Keeps 0x800000000000000000000002b0c0000000000000000000000000000000000001c000000 0x2a1 s (takeBytes l b s) := by
  unfold takeBytes
  repeat' first
    | with_reducible first
        | apply Keeps.refl
    | (with_reducible apply Keeps.after (keeps_wr ..) ?_ ?_ ?_) <;> [(first | rfl | (dsimp only; rfl)); rfl; skip]
    | (with_reducible apply Keeps.after (keeps_setLoader ..) ?_ ?_ ?_) <;> [rfl; rfl; skip]
    | (with_reducible apply Keeps.after (keeps_loadFail ..) ?_ ?_ ?_) <;> [rfl; rfl; skip]
    | simp (disch := first | exact Or.inl rfl | with_reducible exact Or.inr rfl | rfl) only [Keeps.upd]
    | split

theorem keeps_takeStep (l : ℕ) (s : State) :
    Keeps 0x800000000000000000000002b0c0000000000000000000000000000000000001c000000 0x2a1 s (takeStep l s) := by
  unfold takeStep
  repeat' first
    | with_reducible first
        | apply Keeps.refl
    | (with_reducible apply Keeps.after (keeps_setLoader ..) ?_ ?_ ?_) <;> [rfl; rfl; skip]
    | (with_reducible apply Keeps.after (keeps_imgAnswer ..) ?_ ?_ ?_) <;> [rfl; rfl; skip]
    | (with_reducible apply Keeps.after (keeps_imgRefused ..) ?_ ?_ ?_) <;> [rfl; rfl; skip]
    | (with_reducible apply Keeps.after (keeps_takeBytes ..) ?_ ?_ ?_) <;> [rfl; rfl; skip]
    | split
    | dsimp only

theorem keeps_takeHeld (l : ℕ) (s : State) :
    Keeps 0x800000000000000000000002b0c0000000000000000000000000000000000001c000000 0x2a1 s (takeHeld l s) := by
  unfold takeHeld
  repeat' first
    | with_reducible first
        | apply Keeps.refl
        | apply Keeps.andThen (Keeps.foldl (fun t a => ?_)) ?_
    | (with_reducible apply Keeps.after (keeps_takeStep ..) ?_ ?_ ?_) <;> [rfl; rfl; skip]

theorem keeps_eatRecord (l : ℕ) (n : ℕ) (s : State) :
    Keeps 0x800000000000000000000002b0c0000000000000000000000000000000000001c000000 0x2a1 s (eatRecord l n s) := by
  unfold eatRecord
  repeat' first
    | with_reducible first
        | apply Keeps.refl
    | (with_reducible apply Keeps.after (keeps_setLoader ..) ?_ ?_ ?_) <;> [rfl; rfl; skip]
    | (with_reducible apply Keeps.after (keeps_takeHeld ..) ?_ ?_ ?_) <;> [rfl; rfl; skip]

theorem keeps_execAbort (leaf : Fin 4) (s : State) :
    KeepsO 0x3042000800000000000000001000022f0c0000000000000000000000000000000000009c000000 0x607a1 s (execAbort leaf s) := by
  unfold execAbort
  repeat' first
    | with_reducible first
        | apply KeepsO.done
        | apply Keeps.refl
    | (with_reducible apply Keeps.after (keeps_cfgAbort ..) ?_ ?_ ?_) <;> [rfl; rfl; skip]
    | (with_reducible apply Keeps.after (keeps_trstAdvance ..) ?_ ?_ ?_) <;> [rfl; rfl; skip]

theorem keeps_execBootRetry (s : State) :
    KeepsO 0x400000000000000000000000000000000000000000000 0x200 s (execBootRetry s) := by
  unfold execBootRetry
  repeat' first
    | with_reducible first
        | apply KeepsO.done
        | apply Keeps.refl
        | apply Keeps.andThen (Keeps.guarded ?_) ?_
    | (with_reducible apply Keeps.after (keeps_wr ..) ?_ ?_ ?_) <;> [(first | rfl | (dsimp only; rfl)); rfl; skip]
    | (with_reducible apply Keeps.after (keeps_setAttempt ..) ?_ ?_ ?_) <;> [rfl; rfl; skip]
    | simp (disch := first | exact Or.inl rfl | with_reducible exact Or.inr rfl | rfl) only [Keeps.upd]
    | split

theorem keeps_execChunkVerified (leaf : Fin 4) (s : State) :
    KeepsO 0x3042000800000000000000001000022f0c0000000000000000000000000000000000009c000000 0x607a1 s (execChunkVerified leaf s) := by
  unfold execChunkVerified
  repeat' first
    | with_reducible first
        | apply KeepsO.done
        | apply Keeps.refl
    | (with_reducible apply Keeps.after (keeps_setLoader ..) ?_ ?_ ?_) <;> [rfl; rfl; skip]
    | (with_reducible apply Keeps.after (keeps_failNext ..) ?_ ?_ ?_) <;> [rfl; rfl; skip]
    | (with_reducible apply Keeps.after (keeps_trstAdvance ..) ?_ ?_ ?_) <;> [rfl; rfl; skip]
    | split
    | dsimp only

theorem keeps_execClear (leaf : Fin 4) (region : Fin 64) (s : State) :
    KeepsO 0x4200000000000000000000100002250000000000000000000000000000000000000080000000 0x40780 s (execClear leaf region s) := by
  unfold execClear
  repeat' first
    | with_reducible first
        | apply KeepsO.done
        | apply Keeps.refl
    | (with_reducible apply Keeps.after (keeps_cfgClear ..) ?_ ?_ ?_) <;> [rfl; rfl; skip]

theorem keeps_opDone (l : ℕ) (s : State) :
    Keeps 0x1000000000000000000000000000000000000001c000000 0x281 s (opDone l s) := by
  unfold opDone
  repeat' first
    | with_reducible first
        | apply Keeps.refl
    | (with_reducible apply Keeps.after (keeps_wr ..) ?_ ?_ ?_) <;> [(first | rfl | (dsimp only; rfl)); rfl; skip]
    | (with_reducible apply Keeps.after (keeps_on ..) ?_ ?_ ?_) <;> [(first | rfl | (dsimp only; rfl)); rfl; skip]
    | (with_reducible apply Keeps.after (keeps_endLoader ..) ?_ ?_ ?_) <;> [rfl; rfl; skip]

theorem keeps_trstCleared (r : ℕ) (s : State) :
    Keeps 0x304240080000000000000000100002250000000000000920000000000000000000000080000000 0x667a1 s (trstCleared r s) := by
  unfold trstCleared
  repeat' first
    | with_reducible first
        | apply Keeps.refl
    | (with_reducible apply Keeps.after (keeps_trstAdvance ..) ?_ ?_ ?_) <;> [rfl; rfl; skip]
    | (with_reducible apply Keeps.after (keeps_mntEnd ..) ?_ ?_ ?_) <;> [rfl; rfl; skip]
    | simp (disch := first | exact Or.inl rfl | with_reducible exact Or.inr rfl | rfl) only [Keeps.upd]
    | split

theorem keeps_forgetScan (p : ℕ → Bool) (s : State) :
    Keeps 0x100000000000000000000000000000000000000000000000000000 0x200 s (forgetScan p s) := by
  unfold forgetScan
  repeat' first
    | with_reducible first
        | apply Keeps.refl
        | apply Keeps.andThen (Keeps.foldl (fun t a => ?_)) ?_
    | (with_reducible apply Keeps.after (keeps_setScan ..) ?_ ?_ ?_) <;> [rfl; rfl; skip]
    | split
    | dsimp only

theorem keeps_writeFrames (f n : Nat) (v : Frame) (s : State) : Keeps 0x100000000000000000000000000000000000000000000000000000 0x200 s (writeFrames f n v s) := by
  unfold writeFrames
  refine Keeps.after (keeps_forgetScan ..) rfl rfl (Keeps.store rfl rfl id (fun h => ?_) id (fun p hp => by cases p <;> first | rfl | exact absurd hp (by decide)))
  dsimp only
  split
  · exact swf_filter _ _ _ h
  · exact swf_foldl_sset (fun _ => 0) _ _ (fun j => f + j) (fun _ => v) (swf_filter _ _ _ h)

theorem keeps_execClearComplete (leaf : Fin 4) (s : State) :
    KeepsO 0x3042400800000000000000001000022d000000000000092000000000000000000000009c000000 0x667a1 s (execClearComplete leaf s) := by
  unfold execClearComplete
  repeat' first
    | with_reducible first
        | apply KeepsO.done
        | apply Keeps.refl
        | apply Keeps.andThen (Keeps.guarded ?_) ?_
        | apply Keeps.andThen (Keeps.foldl (fun t a => ?_)) ?_
    | (with_reducible apply Keeps.after (keeps_wr ..) ?_ ?_ ?_) <;> [(first | rfl | (dsimp only; rfl)); rfl; skip]
    | (with_reducible apply Keeps.after (keeps_cfgEvent ..) ?_ ?_ ?_) <;> [(first | rfl | (dsimp only; rfl)); rfl; skip]
    | (with_reducible apply Keeps.after (keeps_opDone ..) ?_ ?_ ?_) <;> [rfl; rfl; skip]
    | (with_reducible apply Keeps.after (keeps_trstCleared ..) ?_ ?_ ?_) <;> [rfl; rfl; skip]
    | (with_reducible apply Keeps.after (keeps_writeFrames ..) ?_ ?_ ?_) <;> [rfl; rfl; skip]

theorem keeps_releaseSectors (xs : List ℕ) (s : State) :
    Keeps 0x2000000000000000000000000000000000000020080000000 0x80580 s (releaseSectors xs s) := by
  unfold releaseSectors
  repeat' first
    | with_reducible first
        | apply Keeps.refl
        | apply Keeps.andThen (Keeps.foldl (fun t a => ?_)) ?_
    | (with_reducible apply Keeps.after (keeps_wr ..) ?_ ?_ ?_) <;> [(first | rfl | (dsimp only; rfl)); rfl; skip]
    | (with_reducible apply Keeps.after (keeps_setClosed ..) ?_ ?_ ?_) <;> [rfl; rfl; skip]
    | (with_reducible apply Keeps.after (keeps_fabricRelease ..) ?_ ?_ ?_) <;> [rfl; rfl; skip]
    | (with_reducible apply Keeps.after (keeps_sampleMg ..) ?_ ?_ ?_) <;> [rfl; rfl; skip]
    | (with_reducible apply Keeps.after (keeps_seeLocal ..) ?_ ?_ ?_) <;> [rfl; rfl; skip]

theorem keeps_fullRelease (s : State) :
    Keeps 0x3e00c00000000000000000000000000000000020080000000 0x80780 s (fullRelease s) := by
  unfold fullRelease
  repeat' first
    | with_reducible first
        | apply Keeps.refl
    | (with_reducible apply Keeps.after (keeps_wr ..) ?_ ?_ ?_) <;> [(first | rfl | (dsimp only; rfl)); rfl; skip]
    | (with_reducible apply Keeps.after (keeps_off ..) ?_ ?_ ?_) <;> [(first | rfl | (dsimp only; rfl)); rfl; skip]
    | (with_reducible apply Keeps.after (keeps_on ..) ?_ ?_ ?_) <;> [(first | rfl | (dsimp only; rfl)); rfl; skip]
    | (with_reducible apply Keeps.after (keeps_defineRegions ..) ?_ ?_ ?_) <;> [rfl; rfl; skip]
    | (with_reducible apply Keeps.after (keeps_releaseSectors ..) ?_ ?_ ?_) <;> [rfl; rfl; skip]
    | simp (disch := first | exact Or.inl rfl | with_reducible exact Or.inr rfl | rfl) only [Keeps.upd]

theorem keeps_recordRow {R P l typ : Nat} {act : Nat → List Byte → State → State} {s : State}
    (hR : 0x3042000800000000000000001000022f0c0000000000000000000000000000000000009c000000 ||| R = R) (hP : 0x607a1 ||| P = P) (h : ∀ a b t, Keeps R P t (act a b t)) : Keeps R P s (recordRow l typ act s) := by
  have hf (f : ℕ) (u : State) : Keeps R P u (trstAdvance (loadFail l 13 f u)) :=
    Keeps.mono (Keeps.after (keeps_trstAdvance ..) rfl rfl (Keeps.mono (keeps_loadFail ..) rfl rfl)) hR hP
  unfold recordRow
  dsimp only
  split
  · exact Keeps.refl s
  · split
    · exact hf _ s
    · split
      · exact Keeps.refl s
      · exact h ..

theorem keeps_execEndRecord (leaf : Fin 4) (s : State) :
    KeepsO 0x304200080000000000000000100003ef0c0000000000000000000000000000000002009c000000 0xe07a1 s (execEndRecord leaf s) := by
  unfold execEndRecord
  repeat' first
    | with_reducible first
        | apply KeepsO.done
        | apply Keeps.refl
    | (with_reducible apply Keeps.after (keeps_wr ..) ?_ ?_ ?_) <;> [(first | rfl | (dsimp only; rfl)); rfl; skip]
    | (with_reducible apply Keeps.after (keeps_cfgEvent ..) ?_ ?_ ?_) <;> [(first | rfl | (dsimp only; rfl)); rfl; skip]
    | (with_reducible apply Keeps.after (keeps_failNext ..) ?_ ?_ ?_) <;> [rfl; rfl; skip]
    | (with_reducible apply Keeps.after (keeps_trstAdvance ..) ?_ ?_ ?_) <;> [rfl; rfl; skip]
    | (with_reducible apply Keeps.after (keeps_opDone ..) ?_ ?_ ?_) <;> [rfl; rfl; skip]
    | (with_reducible apply Keeps.after (keeps_releaseSectors ..) ?_ ?_ ?_) <;> [rfl; rfl; skip]
    | (with_reducible apply Keeps.after (keeps_fullRelease ..) ?_ ?_ ?_) <;> [rfl; rfl; skip]
    | (with_reducible apply Keeps.andThen (keeps_recordRow ?_ ?_ (fun a b t => ?_)) ?_) <;> [rfl; rfl; skip; skip]
    | split
    | dsimp only

theorem keeps_putFrames (l : ℕ) (f : ℕ) (n : ℕ) (v : Frame) (s : State) :
    Keeps 0x100000040000000000000000000000000000000000000000000000 0x200 s (putFrames l f n v s) := by
  unfold putFrames
  repeat' first
    | with_reducible first
        | apply Keeps.refl
    | (with_reducible apply Keeps.after (keeps_wr ..) ?_ ?_ ?_) <;> [(first | rfl | (dsimp only; rfl)); rfl; skip]
    | (with_reducible apply Keeps.after (keeps_setLoader ..) ?_ ?_ ?_) <;> [rfl; rfl; skip]
    | (with_reducible apply Keeps.after (keeps_writeFrames ..) ?_ ?_ ?_) <;> [rfl; rfl; skip]
    | simp (disch := first | exact Or.inl rfl | with_reducible exact Or.inr rfl | rfl) only [Keeps.upd]
    | split

theorem keeps_frameRules (l : ℕ) (f : ℕ) (n : ℕ) (v : Frame) (len : ℕ) (s : State) :
    Keeps 0x800000000000000001000002f0c0000000000000000000000000000000000001c000000 0x2a1 s (frameRules l f n v len s) := by
  unfold frameRules
  repeat' first
    | with_reducible first
        | apply Keeps.refl
    | (with_reducible apply Keeps.after (keeps_loadFail ..) ?_ ?_ ?_) <;> [rfl; rfl; skip]
    | (with_reducible apply Keeps.after (keeps_eatRecord ..) ?_ ?_ ?_) <;> [rfl; rfl; skip]
    | (with_reducible apply Keeps.after (keeps_putFrames ..) ?_ ?_ ?_) <;> [rfl; rfl; skip]
    | split

theorem keeps_execFrame (leaf : Fin 4) (s : State) :
    KeepsO 0x3042000800000000000000001000022f0c0000000000000000000000000000000000009c000000 0x607a1 s (execFrame leaf s) := by
  unfold execFrame
  repeat' first
    | with_reducible first
        | apply KeepsO.done
        | apply Keeps.refl
    | (with_reducible apply Keeps.after (keeps_loadFail ..) ?_ ?_ ?_) <;> [rfl; rfl; skip]
    | (with_reducible apply Keeps.after (keeps_trstAdvance ..) ?_ ?_ ?_) <;> [rfl; rfl; skip]
    | (with_reducible apply Keeps.andThen (keeps_recordRow ?_ ?_ (fun a b t => ?_)) ?_) <;> [rfl; rfl; skip; skip]
    | (with_reducible apply Keeps.after (keeps_frameRules ..) ?_ ?_ ?_) <;> [rfl; rfl; skip]
    | split

theorem keeps_meminitWord (vault : Bool) (inst : ℕ) (w : ℕ) (v : BitVec 128) (s : State) :
    Keeps 0 0x400 s (meminitWord vault inst w v s) := by
  unfold meminitWord
  repeat' first
    | with_reducible first
        | apply Keeps.refl
    | (with_reducible apply Keeps.after (keeps_setCode ..) ?_ ?_ ?_) <;> [rfl; rfl; skip]

theorem keeps_execFrameFwd (leaf : Fin 4) (src : BitVec 13) (s : State) :
    KeepsO 0x100000000000000000000000000000000000000000000000000000 0x600 s (execFrameFwd leaf src s) := by
  unfold execFrameFwd
  repeat' first
    | with_reducible first
        | apply KeepsO.done
        | apply Keeps.refl
    | (with_reducible apply Keeps.after (keeps_writeFrames ..) ?_ ?_ ?_) <;> [rfl; rfl; skip]
    | (with_reducible apply Keeps.after (keeps_meminitWord ..) ?_ ?_ ?_) <;> [rfl; rfl; skip]
    | simp (disch := first | exact Or.inl rfl | with_reducible exact Or.inr rfl | rfl) only [Keeps.upd]
    | split

theorem keeps_execFrameReadback (v : Word) (s : State) :
    KeepsO 0xf8000000000018000000000000000000000000000000000000000000000000 0x8000 s (execFrameReadback v s) := by
  unfold execFrameReadback
  repeat' first
    | with_reducible first
        | apply KeepsO.done
        | apply Keeps.refl
    | (with_reducible apply Keeps.after (keeps_frameReadback ..) ?_ ?_ ?_) <;> [rfl; rfl; skip]

theorem keeps_imgSent (l : ℕ) (dma : Option ℕ) (src : ℕ) (txn : ℕ) (s : State) :
    Keeps 0 0x80 s (imgSent l dma src txn s) := by
  unfold imgSent
  repeat' first
    | with_reducible first
        | apply Keeps.refl
    | simp (disch := first | exact Or.inl rfl | with_reducible exact Or.inr rfl | rfl) only [Keeps.upd]
    | split

theorem keeps_execImgData (leaf : Fin 4) (dma : Option (Fin 8)) (src : BitVec 13) (txn : BitVec 8) (data : BitVec 512) (s : State) :
    KeepsO 0x3042000800000000000000001000022f0c0000000000000000000000000000000000009c000000 0x607a1 s (execImgData leaf dma src txn data s) := by
  unfold execImgData
  repeat' first
    | with_reducible first
        | apply KeepsO.done
        | apply Keeps.refl
    | (with_reducible apply Keeps.after (keeps_setLoader ..) ?_ ?_ ?_) <;> [rfl; rfl; skip]
    | (with_reducible apply Keeps.after (keeps_imgRefused ..) ?_ ?_ ?_) <;> [rfl; rfl; skip]
    | (with_reducible apply Keeps.after (keeps_trstAdvance ..) ?_ ?_ ?_) <;> [rfl; rfl; skip]
    | (with_reducible apply Keeps.after (keeps_takeHeld ..) ?_ ?_ ?_) <;> [rfl; rfl; skip]
    | (with_reducible apply Keeps.after (keeps_imgSent ..) ?_ ?_ ?_) <;> [rfl; rfl; skip]
    | split

theorem keeps_execLoad (leaf : Fin 4) (region : Fin 64) (s : State) :
    KeepsO 0x50000000000000000000000000000000000000000000000 0x200 s (execLoad leaf region s) := by
  unfold execLoad
  repeat' first
    | with_reducible first
        | apply KeepsO.done
        | apply Keeps.refl
    | (with_reducible apply Keeps.after (keeps_cfgLoad ..) ?_ ?_ ?_) <;> [rfl; rfl; skip]

theorem keeps_execLoadFull (sherex : Bool) (s : State) :
    KeepsO 0x50400000000000000000000000000000000000000000000 0x200 s (execLoadFull sherex s) := by
  unfold execLoadFull
  repeat' first
    | with_reducible first
        | apply KeepsO.done
        | apply Keeps.refl
    | (with_reducible apply Keeps.after (keeps_cfgLoadFull ..) ?_ ?_ ?_) <;> [rfl; rfl; skip]

theorem keeps_meminitWords (l : ℕ) (vault : Bool) (inst : ℕ) (first : ℕ) (b : List Byte) (s : State) :
    Keeps 0 0x600 s (meminitWords l vault inst first b s) := by
  unfold meminitWords
  repeat' first
    | with_reducible first
        | apply Keeps.refl
        | apply Keeps.andThen (Keeps.foldl (fun t a => ?_)) ?_
    | (with_reducible apply Keeps.after (keeps_meminitWord ..) ?_ ?_ ?_) <;> [rfl; rfl; skip]
    | simp (disch := first | exact Or.inl rfl | with_reducible exact Or.inr rfl | rfl) only [Keeps.upd]
    | split

theorem keeps_execMeminit (leaf : Fin 4) (s : State) :
    KeepsO 0x3042000800000000000000001000022f0c0000000000000000000000000000000000009c000000 0x607a1 s (execMeminit leaf s) := by
  unfold execMeminit
  repeat' first
    | with_reducible first
        | apply KeepsO.done
        | apply Keeps.refl
    | (with_reducible apply Keeps.after (keeps_setLoader ..) ?_ ?_ ?_) <;> [rfl; rfl; skip]
    | (with_reducible apply Keeps.after (keeps_loadFail ..) ?_ ?_ ?_) <;> [rfl; rfl; skip]
    | (with_reducible apply Keeps.after (keeps_trstAdvance ..) ?_ ?_ ?_) <;> [rfl; rfl; skip]
    | (with_reducible apply Keeps.after (keeps_eatRecord ..) ?_ ?_ ?_) <;> [rfl; rfl; skip]
    | (with_reducible apply Keeps.andThen (keeps_recordRow ?_ ?_ (fun a b t => ?_)) ?_) <;> [rfl; rfl; skip; skip]
    | (with_reducible apply Keeps.after (keeps_meminitWords ..) ?_ ?_ ?_) <;> [rfl; rfl; skip]
    | split

theorem keeps_zeroMemories (xs : List ℕ) (s : State) :
    Keeps 0 0x400 s (zeroMemories xs s) := by
  unfold zeroMemories
  repeat' first
    | with_reducible first
        | apply Keeps.refl
    | (with_reducible apply Keeps.after (keeps_dropCodes ..) ?_ ?_ ?_) <;> [rfl; rfl; skip]

theorem keeps_execRegionDrained (leaf : Fin 4) (s : State) :
    KeepsO 0x10000000000000000000000000000000000000000000000 0x400 s (execRegionDrained leaf s) := by
  unfold execRegionDrained
  repeat' first
    | with_reducible first
        | apply KeepsO.done
        | apply Keeps.refl
        | apply Keeps.andThen (Keeps.guarded ?_) ?_
    | (with_reducible apply Keeps.after (keeps_wr ..) ?_ ?_ ?_) <;> [(first | rfl | (dsimp only; rfl)); rfl; skip]
    | (with_reducible apply Keeps.after (keeps_zeroMemories ..) ?_ ?_ ?_) <;> [rfl; rfl; skip]

theorem keeps_execRegionOwnerWrite (r : Fin 64) (v : Word) (s : State) :
    KeepsO 0x200000000000000000000000000000000000000000000000 0 s (execRegionOwnerWrite r v s) := by
  unfold execRegionOwnerWrite
  repeat' first
    | with_reducible first
        | apply KeepsO.done
        | apply Keeps.refl
    | (with_reducible apply Keeps.after (keeps_rgnCfgWrite ..) ?_ ?_ ?_) <;> [rfl; rfl; skip]

theorem keeps_execRepeatRecord (leaf : Fin 4) (s : State) :
    KeepsO 0x3042000800000000000000001000022f0c0000000000000000000000000000000000009c000000 0x607a1 s (execRepeatRecord leaf s) := by
  unfold execRepeatRecord
  repeat' first
    | with_reducible first
        | apply KeepsO.done
        | apply Keeps.refl
    | (with_reducible apply Keeps.after (keeps_loadFail ..) ?_ ?_ ?_) <;> [rfl; rfl; skip]
    | (with_reducible apply Keeps.after (keeps_trstAdvance ..) ?_ ?_ ?_) <;> [rfl; rfl; skip]
    | (with_reducible apply Keeps.andThen (keeps_recordRow ?_ ?_ (fun a b t => ?_)) ?_) <;> [rfl; rfl; skip; skip]
    | (with_reducible apply Keeps.after (keeps_frameRules ..) ?_ ?_ ?_) <;> [rfl; rfl; skip]
    | split

theorem keeps_execRgndef (leaf : Fin 4) (s : State) :
    KeepsO 0x3042000800000000000000001000022f0c0000000000000000000000000000000000009c000000 0x607a1 s (execRgndef leaf s) := by
  unfold execRgndef
  repeat' first
    | with_reducible first
        | apply KeepsO.done
        | apply Keeps.refl
    | (with_reducible apply Keeps.after (keeps_loadFail ..) ?_ ?_ ?_) <;> [rfl; rfl; skip]
    | (with_reducible apply Keeps.after (keeps_failNext ..) ?_ ?_ ?_) <;> [rfl; rfl; skip]
    | (with_reducible apply Keeps.after (keeps_trstAdvance ..) ?_ ?_ ?_) <;> [rfl; rfl; skip]
    | (with_reducible apply Keeps.after (keeps_eatRecord ..) ?_ ?_ ?_) <;> [rfl; rfl; skip]
    | (with_reducible apply Keeps.andThen (keeps_recordRow ?_ ?_ (fun a b t => ?_)) ?_) <;> [rfl; rfl; skip; skip]
    | simp (disch := first | exact Or.inl rfl | with_reducible exact Or.inr rfl | rfl) only [Keeps.upd]
    | split

theorem keeps_startClosing (l : ℕ) (s : State) :
    Keeps 0x4200000000000000000000100002210000000000000000000000000000000000000080000000 0x40780 s (startClosing l s) := by
  unfold startClosing
  repeat' first
    | with_reducible first
        | apply Keeps.refl
    | (with_reducible apply Keeps.after (keeps_wr ..) ?_ ?_ ?_) <;> [(first | rfl | (dsimp only; rfl)); rfl; skip]
    | (with_reducible apply Keeps.after (keeps_setLoader ..) ?_ ?_ ?_) <;> [rfl; rfl; skip]
    | (with_reducible apply Keeps.after (keeps_closeWindow ..) ?_ ?_ ?_) <;> [rfl; rfl; skip]
    | split

theorem keeps_lastChecks (l : ℕ) (s : State) :
    Keeps 0x42000800000000f80000001000022b0c0000000000000000000000000000000000009c000000 0x487a1 s (lastChecks l s) := by
  unfold lastChecks
  repeat' first
    | with_reducible first
        | apply Keeps.refl
    | (with_reducible apply Keeps.after (keeps_loadFail ..) ?_ ?_ ?_) <;> [rfl; rfl; skip]
    | (with_reducible apply Keeps.after (keeps_regionWard ..) ?_ ?_ ?_) <;> [rfl; rfl; skip]
    | (with_reducible apply Keeps.after (keeps_startClosing ..) ?_ ?_ ?_) <;> [rfl; rfl; skip]
    | split
    | dsimp only

theorem keeps_execSignatureVerified (leaf : Fin 4) (s : State) :
    KeepsO 0x3042000800000000f80000001000022f0c0000000000000000000000000000000000009c000000 0x687a1 s (execSignatureVerified leaf s) := by
  unfold execSignatureVerified
  repeat' first
    | with_reducible first
        | apply KeepsO.done
        | apply Keeps.refl
        | apply Keeps.andThen (Keeps.guarded ?_) ?_
    | (with_reducible apply Keeps.after (keeps_trstAdvance ..) ?_ ?_ ?_) <;> [rfl; rfl; skip]
    | (with_reducible apply Keeps.after (keeps_lastChecks ..) ?_ ?_ ?_) <;> [rfl; rfl; skip]
    | simp (disch := first | exact Or.inl rfl | with_reducible exact Or.inr rfl | rfl) only [Keeps.upd]

theorem keeps_execStall (leaf : Fin 4) (s : State) :
    KeepsO 0x3042000800000000000000001000022f0c0000000000000000000000000000000000009c000000 0x607a1 s (execStall leaf s) := by
  unfold execStall
  repeat' first
    | with_reducible first
        | apply KeepsO.done
        | apply Keeps.refl
        | apply Keeps.andThen (Keeps.guarded ?_) ?_
    | (with_reducible apply Keeps.after (keeps_failNext ..) ?_ ?_ ?_) <;> [rfl; rfl; skip]
    | (with_reducible apply Keeps.after (keeps_trstAdvance ..) ?_ ?_ ?_) <;> [rfl; rfl; skip]

theorem keeps_execZero (leaf : Fin 4) (s : State) :
    KeepsO 0x3042000800000000000000001000022f0c0000000000000000000000000000000000009c000000 0x607a1 s (execZero leaf s) := by
  unfold execZero
  repeat' first
    | with_reducible first
        | apply KeepsO.done
        | apply Keeps.refl
    | (with_reducible apply Keeps.after (keeps_loadFail ..) ?_ ?_ ?_) <;> [rfl; rfl; skip]
    | (with_reducible apply Keeps.after (keeps_trstAdvance ..) ?_ ?_ ?_) <;> [rfl; rfl; skip]
    | (with_reducible apply Keeps.andThen (keeps_recordRow ?_ ?_ (fun a b t => ?_)) ?_) <;> [rfl; rfl; skip; skip]
    | (with_reducible apply Keeps.after (keeps_frameRules ..) ?_ ?_ ?_) <;> [rfl; rfl; skip]
    | split

end Sys2Proof.Machine
end

