-- ==== Sys2Proof/Laws/KeepsDevCache.lean ====
section
/-! SUPPORT. The frames of the operations of Machine/DevCache.lean: what each can change, and that it keeps the stores canonical. -/

namespace Sys2Proof.Machine
open Sys2Proof

theorem keeps_dcMiss (n : ℕ) (line : ℕ) (r : Req) (s : State) :
    Keeps 0x1c000000 0x2088 s (dcMiss n line r s) := by
  unfold dcMiss
  repeat' first
    | with_reducible first
        | apply Keeps.refl
    | (with_reducible apply Keeps.after (keeps_respond ..) ?_ ?_ ?_) <;> [rfl; rfl; skip]
    | (with_reducible apply Keeps.after (keeps_denied ..) ?_ ?_ ?_) <;> [rfl; rfl; skip]
    | simp (disch := first | exact Or.inl rfl | with_reducible exact Or.inr rfl | rfl) only [Keeps.upd]
    | split

theorem keeps_dcPut (n : ℕ) (line : ℕ) (way : ℕ) (d : Option DcLine) (s : State) :
    Keeps 0 0x2000 s (dcPut n line way d s) := by
  unfold dcPut
  repeat' first
    | with_reducible first
        | apply Keeps.refl
    | simp (disch := first | exact Or.inl rfl | with_reducible exact Or.inr rfl | rfl) only [Keeps.upd]

theorem keeps_dcTouch (n : ℕ) (line : ℕ) (way : ℕ) (s : State) :
    Keeps 0 0x2000 s (dcTouch n line way s) := by
  unfold dcTouch
  repeat' first
    | with_reducible first
        | apply Keeps.refl
    | simp (disch := first | exact Or.inl rfl | with_reducible exact Or.inr rfl | rfl) only [Keeps.upd]

theorem keeps_dcServe (n : ℕ) (r : Req) (w : ℕ) (d : DcLine) (s : State) :
    Keeps 0x1c000000 0x2080 s (dcServe n r w d s) := by
  unfold dcServe
  repeat' first
    | with_reducible first
        | apply Keeps.refl
    | (with_reducible apply Keeps.after (keeps_respond ..) ?_ ?_ ?_) <;> [rfl; rfl; skip]
    | (with_reducible apply Keeps.after (keeps_dcPut ..) ?_ ?_ ?_) <;> [rfl; rfl; skip]
    | (with_reducible apply Keeps.after (keeps_dcTouch ..) ?_ ?_ ?_) <;> [rfl; rfl; skip]
    | split

theorem keeps_dcErr (n : ℕ) (s : State) :
    Keeps 0x80000000000000000000000000000000000000010000000000000000000000000000000 0x21 s (dcErr n s) := by
  unfold dcErr
  repeat' first
    | with_reducible first
        | apply Keeps.refl
    | (with_reducible apply Keeps.after (keeps_wrBit ..) ?_ ?_ ?_) <;> [(first | rfl | (dsimp only; rfl)); rfl; skip]
    | (with_reducible apply Keeps.after (keeps_raise ..) ?_ ?_ ?_) <;> [rfl; rfl; skip]
    | split
    | dsimp only

theorem keeps_dcUe (n : ℕ) (s : State) :
    Keeps 0x80000000000000000000000000000000000008010000000000000000000000000000000 0x21 s (dcUe n s) := by
  unfold dcUe
  repeat' first
    | with_reducible first
        | apply Keeps.refl
    | (with_reducible apply Keeps.after (keeps_satAdd ..) ?_ ?_ ?_) <;> [(first | rfl | (dsimp only; rfl)); rfl; skip]
    | (with_reducible apply Keeps.after (keeps_dcErr ..) ?_ ?_ ?_) <;> [rfl; rfl; skip]

theorem keeps_writeBack (n : ℕ) (line : ℕ) (d : Line) (poison : Bool) (s : State) :
    Keeps 0 0x2008 s (writeBack n line d poison s) := by
  unfold writeBack
  repeat' first
    | with_reducible first
        | apply Keeps.refl
    | (with_reducible apply Keeps.after (keeps_report ..) ?_ ?_ ?_) <;> [rfl; rfl; skip]
    | simp (disch := first | exact Or.inl rfl | with_reducible exact Or.inr rfl | rfl) only [Keeps.upd]
    | split

theorem keeps_dcWriteBack (n : ℕ) (d : DcLine) (s : State) :
    Keeps 0x80000000000000000000000000000000000008010000000000000000000000000000000 0x2029 s (dcWriteBack n d s) := by
  unfold dcWriteBack
  repeat' first
    | with_reducible first
        | apply Keeps.refl
    | (with_reducible apply Keeps.after (keeps_dcUe ..) ?_ ?_ ?_) <;> [rfl; rfl; skip]
    | (with_reducible apply Keeps.after (keeps_writeBack ..) ?_ ?_ ?_) <;> [rfl; rfl; skip]
    | split

theorem keeps_dcUpset (n : ℕ) (line : ℕ) (u : Upset) (s : State) :
    Keeps 0x80000000000000000000000000000000000008010000000000000000000000000000000 0x2029 s (dcUpset n line u s) := by
  unfold dcUpset
  repeat' first
    | with_reducible first
        | apply Keeps.refl
    | (with_reducible apply Keeps.after (keeps_dcPut ..) ?_ ?_ ?_) <;> [rfl; rfl; skip]
    | (with_reducible apply Keeps.after (keeps_dcUe ..) ?_ ?_ ?_) <;> [rfl; rfl; skip]
    | (with_reducible apply Keeps.after (keeps_dcWriteBack ..) ?_ ?_ ?_) <;> [rfl; rfl; skip]
    | split
    | dsimp only

theorem keeps_agentServe (r : Req) (u : Upset) (s : State) :
    Keeps 0x8000000000000000000000000000000000000e01000000000000000000000001c000000 0x20a9 s (agentServe r u s) := by
  unfold agentServe
  repeat' first
    | with_reducible first
        | apply Keeps.refl
    | (with_reducible apply Keeps.after (keeps_satAdd ..) ?_ ?_ ?_) <;> [(first | rfl | (dsimp only; rfl)); rfl; skip]
    | (with_reducible apply Keeps.after (keeps_respond ..) ?_ ?_ ?_) <;> [rfl; rfl; skip]
    | (with_reducible apply Keeps.after (keeps_dcMiss ..) ?_ ?_ ?_) <;> [rfl; rfl; skip]
    | (with_reducible apply Keeps.after (keeps_dcServe ..) ?_ ?_ ?_) <;> [rfl; rfl; skip]
    | (with_reducible apply Keeps.after (keeps_dcUpset ..) ?_ ?_ ?_) <;> [rfl; rfl; skip]
    | simp (disch := first | exact Or.inl rfl | with_reducible exact Or.inr rfl | rfl) only [Keeps.upd]
    | split

theorem keeps_dcDrop (n : ℕ) (way : ℕ) (d : DcLine) (s : State) :
    Keeps 0x80000000000000000000000000000000000008010000000000000000000000000000000 0x2029 s (dcDrop n way d s) := by
  unfold dcDrop
  repeat' first
    | with_reducible first
        | apply Keeps.refl
    | (with_reducible apply Keeps.after (keeps_dcPut ..) ?_ ?_ ?_) <;> [rfl; rfl; skip]
    | (with_reducible apply Keeps.after (keeps_dcWriteBack ..) ?_ ?_ ?_) <;> [rfl; rfl; skip]
    | split

theorem keeps_dcDropAll (n : ℕ) (p : DcLine → Bool) (s : State) :
    Keeps 0x80000000000000000000000000000000000008010000000000000000000000000000000 0x2029 s (dcDropAll n p s) := by
  unfold dcDropAll
  repeat' first
    | with_reducible first
        | apply Keeps.refl
        | apply Keeps.andThen (Keeps.foldl (fun t a => ?_)) ?_
    | (with_reducible apply Keeps.after (keeps_dcDrop ..) ?_ ?_ ?_) <;> [rfl; rfl; skip]

theorem keeps_dcFlushReleased (n : ℕ) (s : State) :
    Keeps 0x80000000000000000000000000000000000008010000000000000000000000000000000 0x2029 s (dcFlushReleased n s) := by
  unfold dcFlushReleased
  repeat' first
    | with_reducible first
        | apply Keeps.refl
    | (with_reducible apply Keeps.after (keeps_dcDropAll ..) ?_ ?_ ?_) <;> [rfl; rfl; skip]
    | split

theorem keeps_dcHeadReset (n : ℕ) (s : State) :
    Keeps 0x80000000000000000000000000000000000008010000000000000000000000000000000 0x2021 s (dcHeadReset n s) := by
  unfold dcHeadReset
  repeat' first
    | with_reducible first
        | apply Keeps.refl
        | apply Keeps.andThen (Keeps.foldl (fun t a => ?_)) ?_
    | (with_reducible apply Keeps.after (keeps_satAdd ..) ?_ ?_ ?_) <;> [(first | rfl | (dsimp only; rfl)); rfl; skip]
    | (with_reducible apply Keeps.after (keeps_dcPut ..) ?_ ?_ ?_) <;> [rfl; rfl; skip]
    | (with_reducible apply Keeps.after (keeps_dcErr ..) ?_ ?_ ?_) <;> [rfl; rfl; skip]
    | split
    | dsimp only

theorem keeps_dcClean (n : ℕ) (s : State) (e : ℕ × DcLine) :
    Keeps 0x80000000000000000000000000000000000008010000000000000000000000000000000 0x2029 s (dcClean n s e) := by
  unfold dcClean
  repeat' first
    | with_reducible first
        | apply Keeps.refl
    | (with_reducible apply Keeps.after (keeps_dcPut ..) ?_ ?_ ?_) <;> [rfl; rfl; skip]
    | (with_reducible apply Keeps.after (keeps_dcWriteBack ..) ?_ ?_ ?_) <;> [rfl; rfl; skip]
    | split

theorem keeps_dcDrain (n line : Nat) (l : List Req) (s : State) : Keeps 0x1c000000 0x2088 s (dcDrain n line l s) := by
  induction l generalizing s with
  | nil => exact Keeps.refl s
  | cons r l ih =>
    unfold dcDrain
    repeat' first
      | with_reducible first
          | apply Keeps.refl
          | apply Keeps.andThen (ih ..) ?_
      | (with_reducible apply Keeps.after (keeps_dcMiss ..) ?_ ?_ ?_) <;> [rfl; rfl; skip]
      | (with_reducible apply Keeps.after (keeps_dcServe ..) ?_ ?_ ?_) <;> [rfl; rfl; skip]
      | simp (disch := first | exact Or.inl rfl | with_reducible exact Or.inr rfl | rfl) only [Keeps.upd]
      | split

theorem keeps_dcFlushAll (n : ℕ) (s : State) :
    Keeps 0x80000000000000000000000000000000000008010000000000000000000000000000000 0x2029 s (dcFlushAll n s) := by
  unfold dcFlushAll
  repeat' first
    | with_reducible first
        | apply Keeps.refl
    | (with_reducible apply Keeps.after (keeps_dcDropAll ..) ?_ ?_ ?_) <;> [rfl; rfl; skip]
    | simp (disch := first | exact Or.inl rfl | with_reducible exact Or.inr rfl | rfl) only [Keeps.upd]
    | split

theorem keeps_dcLinkUp (n : ℕ) (s : State) :
    Keeps 0x80000000000000000000000000000000000008010000000000000000000000000000000 0x2029 s (dcLinkUp n s) := by
  unfold dcLinkUp
  repeat' first
    | with_reducible first
        | apply Keeps.refl
        | apply Keeps.andThen (Keeps.foldl (fun t a => ?_)) ?_
    | (with_reducible apply Keeps.after (keeps_dcDropAll ..) ?_ ?_ ?_) <;> [rfl; rfl; skip]
    | (with_reducible apply Keeps.after (keeps_dcFlushReleased ..) ?_ ?_ ?_) <;> [rfl; rfl; skip]
    | (with_reducible apply Keeps.after (keeps_dcClean ..) ?_ ?_ ?_) <;> [rfl; rfl; skip]
    | simp (disch := first | exact Or.inl rfl | with_reducible exact Or.inr rfl | rfl) only [Keeps.upd]
    | split

theorem keeps_dcWay (n : ℕ) (line : ℕ) (u : Upset) (s : State) :
    Keeps 0x80000000000000000000000000000000000008010000000000000000000000000000000 0x2029 s (dcWay n line u s).2 := by
  unfold dcWay
  repeat' first
    | with_reducible first
        | apply Keeps.refl
    | (with_reducible apply Keeps.after (keeps_dcDrop ..) ?_ ?_ ?_) <;> [rfl; rfl; skip]
    | split
    | dsimp only

theorem keeps_dcWay_eq {n : ℕ} {line : ℕ} {u : Upset} {s : State} {out} {t : State} (he : dcWay n line u s = (out, t)) :
    Keeps 0x80000000000000000000000000000000000008010000000000000000000000000000000 0x2029 s t := by
  have := keeps_dcWay n line u s
  rwa [he] at this

theorem keeps_poisonAnswer (data : Line) (s : State) (r : Req) :
    Keeps 0x1c000000 0x80 s (poisonAnswer data s r) := by
  unfold poisonAnswer
  repeat' first
    | with_reducible first
        | apply Keeps.refl
    | (with_reducible apply Keeps.after (keeps_respond ..) ?_ ?_ ?_) <;> [rfl; rfl; skip]
    | split

theorem keeps_execHostFill (n : Fin 16) (line : ℕ) (own : Bool) (poison : Bool) (data : BitVec 512) (u : Upset) (s : State) :
    KeepsO 0x8000000000000000000000000000000000000801000000000000000000000001c000000 0x20a9 s (execHostFill n line own poison data u s) := by
  unfold execHostFill
  repeat' first
    | with_reducible first
        | apply KeepsO.done
        | apply Keeps.refl
        | apply Keeps.andThen (Keeps.guarded ?_) ?_
        | apply Keeps.andThen (Keeps.foldl (fun t a => ?_)) ?_
    | (with_reducible apply Keeps.after (keeps_dcPut ..) ?_ ?_ ?_) <;> [rfl; rfl; skip]
    | (with_reducible apply Keeps.after (keeps_dcFlushReleased ..) ?_ ?_ ?_) <;> [rfl; rfl; skip]
    | (with_reducible apply Keeps.after (keeps_dcDrain ..) ?_ ?_ ?_) <;> [rfl; rfl; skip]
    | (with_reducible apply Keeps.after (keeps_dcWay ..) ?_ ?_ ?_) <;> [rfl; rfl; skip]
    | (with_reducible apply Keeps.after (keeps_poisonAnswer ..) ?_ ?_ ?_) <;> [rfl; rfl; skip]
    | simp (disch := first | exact Or.inl rfl | with_reducible exact Or.inr rfl | rfl) only [Keeps.upd]
    | split

theorem keeps_execHostSnoop (n : Fin 16) (line : ℕ) (inv : Bool) (u : Upset) (s : State) :
    KeepsO 0x80000000000000000000000000000000000008010000000000000000000000000000000 0x2029 s (execHostSnoop n line inv u s) := by
  unfold execHostSnoop
  repeat' first
    | with_reducible first
        | apply KeepsO.done
        | apply Keeps.refl
    | (with_reducible apply Keeps.after (keeps_dcPut ..) ?_ ?_ ?_) <;> [rfl; rfl; skip]
    | (with_reducible apply Keeps.after (keeps_dcUe ..) ?_ ?_ ?_) <;> [rfl; rfl; skip]
    | simp (disch := first | exact Or.inl rfl | with_reducible exact Or.inr rfl | rfl) only [Keeps.upd]
    | split

end Sys2Proof.Machine
end

