-- ==== Sys2Proof/Laws/KeepsCoherence.lean ====
section
/-! SUPPORT. The frames of the operations of Machine/Coherence.lean: what each can change, and that it keeps the stores canonical. -/

namespace Sys2Proof.Machine
open Sys2Proof

theorem keeps_setPt (s : State) (k : ℕ) (e : PtEntry) :
    Keeps 0 0x2000 s (State.setPt s k e) := by
  unfold State.setPt
  repeat' first
    | with_reducible first
        | apply Keeps.refl
    | simp (disch := first | exact Or.inl rfl | with_reducible exact Or.inr rfl | rfl) only [Keeps.upd]

theorem keeps_addWalk (k : ℕ) (why : WalkWhy) (s : State) :
    Keeps 0x300000080000000000000000000000000000000000000920000000000000000000000000000000 0x260a1 s (addWalk k why s) := by
  unfold addWalk
  repeat' first
    | with_reducible first
        | apply Keeps.refl
    | (with_reducible apply Keeps.after (keeps_walks ..) ?_ ?_ ?_) <;> [rfl; rfl; skip]
    | simp (disch := first | exact Or.inl rfl | with_reducible exact Or.inr rfl | rfl) only [Keeps.upd]

theorem keeps_admitted (n : ℕ) (s : State) (r : Req) :
    Keeps 0x80000000000000000000000000000082410000f2000000000000000000000001c000000 0x60a1 s (admitted n s r) := by
  unfold admitted
  repeat' first
    | with_reducible first
        | apply Keeps.refl
    | (with_reducible apply Keeps.after (keeps_toChannel ..) ?_ ?_ ?_) <;> [rfl; rfl; skip]
    | (with_reducible apply Keeps.after (keeps_dirRequest ..) ?_ ?_ ?_) <;> [rfl; rfl; skip]
    | split

theorem keeps_releaseHeld (n : ℕ) (s : State) :
    Keeps 0x300000080000000000000000000000000000082410000f2000000000000000000000001c000000 0x260a1 s (releaseHeld n s) := by
  unfold releaseHeld
  repeat' first
    | with_reducible first
        | apply Keeps.refl
        | apply Keeps.andThen (Keeps.foldl (fun t a => ?_)) ?_
    | (with_reducible apply Keeps.after (keeps_wr ..) ?_ ?_ ?_) <;> [(first | rfl | (dsimp only; rfl)); rfl; skip]
    | (with_reducible apply Keeps.after (keeps_setChan ..) ?_ ?_ ?_) <;> [rfl; rfl; skip]
    | (with_reducible apply Keeps.after (keeps_walks ..) ?_ ?_ ?_) <;> [rfl; rfl; skip]
    | (with_reducible apply Keeps.after (keeps_admitted ..) ?_ ?_ ?_) <;> [rfl; rfl; skip]
    | (with_reducible apply Keeps.after (keeps_refeed ..) ?_ ?_ ?_) <;> [rfl; rfl; skip]

theorem keeps_holdDone (n : ℕ) (s : State) :
    Keeps 0x300000080000000000000000000000000000082410200f2000000000000000000000001c000000 0x260a1 s (holdDone n s) := by
  unfold holdDone
  repeat' first
    | with_reducible first
        | apply Keeps.refl
    | (with_reducible apply Keeps.after (keeps_on ..) ?_ ?_ ?_) <;> [(first | rfl | (dsimp only; rfl)); rfl; skip]
    | (with_reducible apply Keeps.after (keeps_ddrEvent ..) ?_ ?_ ?_) <;> [(first | rfl | (dsimp only; rfl)); rfl; skip]
    | (with_reducible apply Keeps.after (keeps_noteEmpty ..) ?_ ?_ ?_) <;> [rfl; rfl; skip]
    | (with_reducible apply Keeps.after (keeps_setChanState ..) ?_ ?_ ?_) <;> [rfl; rfl; skip]
    | (with_reducible apply Keeps.after (keeps_releaseHeld ..) ?_ ?_ ?_) <;> [rfl; rfl; skip]
    | split

theorem keeps_ptChange (k : ℕ) (e : PtEntry) (s : State) :
    Keeps 0x100000000000000000000000000000 0x2000 s (ptChange k e s) := by
  unfold ptChange
  repeat' first
    | with_reducible first
        | apply Keeps.refl
    | (with_reducible apply Keeps.after (keeps_on ..) ?_ ?_ ?_) <;> [(first | rfl | (dsimp only; rfl)); rfl; skip]
    | (with_reducible apply Keeps.after (keeps_setPt ..) ?_ ?_ ?_) <;> [rfl; rfl; skip]
    | simp (disch := first | exact Or.inl rfl | with_reducible exact Or.inr rfl | rfl) only [Keeps.upd]

theorem keeps_ptAssign (k : ℕ) (s : State) :
    Keeps 0x100000000000000000000000000000 0x2000 s (ptAssign k s) := by
  unfold ptAssign
  repeat' first
    | with_reducible first
        | apply Keeps.refl
    | (with_reducible apply Keeps.after (keeps_ptChange ..) ?_ ?_ ?_) <;> [rfl; rfl; skip]
    | simp (disch := first | exact Or.inl rfl | with_reducible exact Or.inr rfl | rfl) only [Keeps.upd]
    | split

theorem keeps_ptNarrow (k : ℕ) (s : State) :
    Keeps 0x300000080000000000000000000000000000000000000920100000000000000000000000000000 0x260a1 s (ptNarrow k s) := by
  unfold ptNarrow
  repeat' first
    | with_reducible first
        | apply Keeps.refl
    | (with_reducible apply Keeps.after (keeps_addWalk ..) ?_ ?_ ?_) <;> [rfl; rfl; skip]
    | (with_reducible apply Keeps.after (keeps_ptChange ..) ?_ ?_ ?_) <;> [rfl; rfl; skip]
    | split
    | dsimp only

theorem keeps_ptRead (k : ℕ) (s : State) :
    Keeps 0xe00000000000000000000000000000 0 s (ptRead k s) := by
  unfold ptRead
  repeat' first
    | with_reducible first
        | apply Keeps.refl
    | (with_reducible apply Keeps.after (keeps_wr ..) ?_ ?_ ?_) <;> [(first | rfl | (dsimp only; rfl)); rfl; skip]

theorem keeps_ptRelease (k : ℕ) (s : State) :
    Keeps 0x300000080000000000000000000000000000000000008930100000000000000000000000000000 0x260a9 s (ptRelease k s) := by
  unfold ptRelease
  repeat' first
    | with_reducible first
        | apply Keeps.refl
    | (with_reducible apply Keeps.after (keeps_addWalk ..) ?_ ?_ ?_) <;> [rfl; rfl; skip]
    | (with_reducible apply Keeps.after (keeps_ptChange ..) ?_ ?_ ?_) <;> [rfl; rfl; skip]
    | (with_reducible apply Keeps.after (keeps_dcFlushReleased ..) ?_ ?_ ?_) <;> [rfl; rfl; skip]
    | simp (disch := first | exact Or.inl rfl | with_reducible exact Or.inr rfl | rfl) only [Keeps.upd]
    | split

theorem keeps_ptCmd (v : Word) (s : State) :
    Keeps 0x300000080000000000000000000000000000000000008930f00000000000000000000000000000 0x260a9 s (ptCmd v s) := by
  unfold ptCmd
  repeat' first
    | with_reducible first
        | apply Keeps.refl
    | (with_reducible apply Keeps.after (keeps_wr ..) ?_ ?_ ?_) <;> [(first | rfl | (dsimp only; rfl)); rfl; skip]
    | (with_reducible apply Keeps.after (keeps_on ..) ?_ ?_ ?_) <;> [(first | rfl | (dsimp only; rfl)); rfl; skip]
    | (with_reducible apply Keeps.after (keeps_ptAssign ..) ?_ ?_ ?_) <;> [rfl; rfl; skip]
    | (with_reducible apply Keeps.after (keeps_ptNarrow ..) ?_ ?_ ?_) <;> [rfl; rfl; skip]
    | (with_reducible apply Keeps.after (keeps_ptRead ..) ?_ ?_ ?_) <;> [rfl; rfl; skip]
    | (with_reducible apply Keeps.after (keeps_ptRelease ..) ?_ ?_ ?_) <;> [rfl; rfl; skip]
    | split
    | dsimp only

theorem keeps_vlogPop (v : Word) (s : State) :
    Keeps 0x10000000000000000000000000000000000 0 s (vlogPop v s) := by
  unfold vlogPop
  repeat' first
    | with_reducible first
        | apply Keeps.refl
    | (with_reducible apply Keeps.after (keeps_wr ..) ?_ ?_ ?_) <;> [(first | rfl | (dsimp only; rfl)); rfl; skip]
    | split
    | dsimp only

theorem keeps_xmCmd (v : Word) (s : State) :
    Keeps 0xe000000000000000000000000000000 0x2000 s (xmCmd v s) := by
  unfold xmCmd
  repeat' first
    | with_reducible first
        | apply Keeps.refl
    | (with_reducible apply Keeps.after (keeps_wr ..) ?_ ?_ ?_) <;> [(first | rfl | (dsimp only; rfl)); rfl; skip]
    | simp (disch := first | exact Or.inl rfl | with_reducible exact Or.inr rfl | rfl) only [Keeps.upd]
    | split

theorem keeps_clearOn (k : ℕ) (s : State) (n : ℕ) :
    Keeps 0 0x4000 s (clearOn k s n) := by
  unfold clearOn
  repeat' first
    | with_reducible first
        | apply Keeps.refl
        | apply Keeps.andThen (Keeps.foldl (fun t a => ?_)) ?_
    | (with_reducible apply Keeps.after (keeps_setChan ..) ?_ ?_ ?_) <;> [rfl; rfl; skip]
    | (with_reducible apply Keeps.after (keeps_storeLine ..) ?_ ?_ ?_) <;> [rfl; rfl; skip]

theorem keeps_cohHeadReset (n : ℕ) (s : State) :
    Keeps 0x300000080000000000000000000000000000082410008f3000000000000000000000001c000000 0x260a1 s (cohHeadReset n s) := by
  unfold cohHeadReset
  repeat' first
    | with_reducible first
        | apply Keeps.refl
    | (with_reducible apply Keeps.after (keeps_off ..) ?_ ?_ ?_) <;> [(first | rfl | (dsimp only; rfl)); rfl; skip]
    | (with_reducible apply Keeps.after (keeps_on ..) ?_ ?_ ?_) <;> [(first | rfl | (dsimp only; rfl)); rfl; skip]
    | (with_reducible apply Keeps.after (keeps_walks ..) ?_ ?_ ?_) <;> [rfl; rfl; skip]
    | (with_reducible apply Keeps.after (keeps_failSnoopsOf ..) ?_ ?_ ?_) <;> [rfl; rfl; skip]
    | (with_reducible apply Keeps.after (keeps_dcHeadReset ..) ?_ ?_ ?_) <;> [rfl; rfl; skip]
    | simp (disch := first | exact Or.inl rfl | with_reducible exact Or.inr rfl | rfl) only [Keeps.upd]
    | split

theorem keeps_hostAnswer (n : ℕ) (id : HostId) (op : NetOp) (a : Answer) (grant : Intent) (s : State) :
    Keeps 0 0x8 s (hostAnswer n id op a grant s) := by
  unfold hostAnswer
  repeat' first
    | with_reducible first
        | apply Keeps.refl
    | simp (disch := first | exact Or.inl rfl | with_reducible exact Or.inr rfl | rfl) only [Keeps.upd]
    | split

theorem keeps_execAssign (v : Word) (s : State) :
    KeepsO 0x300000080000000000000000000000000000000000008930f00000000000000000000000000000 0x260a9 s (execAssign v s) := by
  unfold execAssign
  repeat' first
    | with_reducible first
        | apply KeepsO.done
        | apply Keeps.refl
        | apply Keeps.andThen (Keeps.guarded ?_) ?_
    | (with_reducible apply Keeps.after (keeps_ptCmd ..) ?_ ?_ ?_) <;> [rfl; rfl; skip]

theorem keeps_execBackgroundCheck (chan : Option (Fin 12)) (ext : ℕ) (bad : Bool) (s : State) :
    KeepsO 0x80000000000000000000000000000000000000010000000000000000000000000000000 0x2021 s (execBackgroundCheck chan ext bad s) := by
  unfold execBackgroundCheck
  repeat' first
    | with_reducible first
        | apply KeepsO.done
        | apply Keeps.refl
        | apply Keeps.andThen (Keeps.guarded ?_) ?_
    | (with_reducible apply Keeps.after (keeps_raiseCause ..) ?_ ?_ ?_) <;> [(first | rfl | (dsimp only; rfl)); rfl; skip]
    | simp (disch := first | exact Or.inl rfl | with_reducible exact Or.inr rfl | rfl) only [Keeps.upd]
    | split

theorem keeps_execCohVlogPop (v : Word) (s : State) :
    KeepsO 0x10000000000000000000000000000000000 0 s (execCohVlogPop v s) := by
  unfold execCohVlogPop
  repeat' first
    | with_reducible first
        | apply KeepsO.done
        | apply Keeps.refl
    | (with_reducible apply Keeps.after (keeps_vlogPop ..) ?_ ?_ ?_) <;> [rfl; rfl; skip]

theorem keeps_windowRequest (n : ℕ) (id : HostId) (w : ℕ) (op : NetOp) (da : ℕ) (s : State) :
    Keeps 0x14000000000000009c000000 0x2088 s (windowRequest n id w op da s) := by
  unfold windowRequest
  repeat' first
    | with_reducible first
        | apply Keeps.refl
    | (with_reducible apply Keeps.after (keeps_satAdd ..) ?_ ?_ ?_) <;> [(first | rfl | (dsimp only; rfl)); rfl; skip]
    | (with_reducible apply Keeps.after (keeps_netError ..) ?_ ?_ ?_) <;> [rfl; rfl; skip]
    | (with_reducible apply Keeps.after (keeps_report ..) ?_ ?_ ?_) <;> [rfl; rfl; skip]
    | (with_reducible apply Keeps.after (keeps_hostAnswer ..) ?_ ?_ ?_) <;> [rfl; rfl; skip]
    | (with_reducible apply Keeps.getD (keeps_netPut_of _ _ _ _) ?_ ?_ ?_ ?_) <;> [rfl; rfl; skip; skip]
    | simp (disch := first | exact Or.inl rfl | with_reducible exact Or.inr rfl | rfl) only [Keeps.upd]
    | split

theorem keeps_hostRequest (n : ℕ) (id : HostId) (dpa : ℕ) (len : ℕ) (op : NetOp) (data : Line) (intent : Intent) (s : State) :
    Keeps 0x14000000000000009c000000 0x2088 s (hostRequest n id dpa len op data intent s) := by
  unfold hostRequest
  repeat' first
    | with_reducible first
        | apply Keeps.refl
    | (with_reducible apply Keeps.after (keeps_netError ..) ?_ ?_ ?_) <;> [rfl; rfl; skip]
    | (with_reducible apply Keeps.after (keeps_report ..) ?_ ?_ ?_) <;> [rfl; rfl; skip]
    | (with_reducible apply Keeps.after (keeps_hostAnswer ..) ?_ ?_ ?_) <;> [rfl; rfl; skip]
    | (with_reducible apply Keeps.after (keeps_netSend_sent (by assumption)) ?_ ?_ ?_) <;> [rfl; rfl; skip]
    | (with_reducible apply Keeps.after (keeps_netSend_answered (by assumption)) ?_ ?_ ?_) <;> [rfl; rfl; skip]
    | (with_reducible apply Keeps.after (keeps_windowRequest ..) ?_ ?_ ?_) <;> [rfl; rfl; skip]
    | simp (disch := first | exact Or.inl rfl | with_reducible exact Or.inr rfl | rfl) only [Keeps.upd]
    | split

theorem keeps_execCxlMemRead (n : Fin 16) (id : HostId) (dpa : ℕ) (intent : Intent) (s : State) :
    KeepsO 0x14000000000000009c000000 0x2088 s (execCxlMemRead n id dpa intent s) := by
  unfold execCxlMemRead
  repeat' first
    | with_reducible first
        | apply KeepsO.done
        | apply Keeps.refl
        | apply Keeps.andThen (Keeps.guarded ?_) ?_
    | (with_reducible apply Keeps.after (keeps_hostRequest ..) ?_ ?_ ?_) <;> [rfl; rfl; skip]

theorem keeps_execCxlMemWrite (n : Fin 16) (id : HostId) (dpa : ℕ) (len : ℕ) (data : BitVec 512) (keep : Intent) (s : State) :
    KeepsO 0x14000000000000009c000000 0x2088 s (execCxlMemWrite n id dpa len data keep s) := by
  unfold execCxlMemWrite
  repeat' first
    | with_reducible first
        | apply KeepsO.done
        | apply Keeps.refl
        | apply Keeps.andThen (Keeps.guarded ?_) ?_
    | (with_reducible apply Keeps.after (keeps_hostRequest ..) ?_ ?_ ?_) <;> [rfl; rfl; skip]

theorem keeps_ptEvent (cause : Fld) (s : State) :
    Keeps (1 <<< cause.reg.ctorIdx ||| 0x80000000000000000000000000000000000000000000000000000000000000000000000) 0x21 s (ptEvent cause s) := by
  unfold ptEvent
  repeat' first
    | with_reducible first
        | apply Keeps.refl
    | (with_reducible apply Keeps.after (keeps_raiseCause ..) ?_ ?_ ?_) <;> [(first | rfl | (dsimp only; rfl) | exact Nat.or_self _ | exact sub_left .. | exact sub_right .. | exact sub_into rfl | exact sub_both rfl); rfl; skip]

theorem keeps_execDrainComplete (ext : ℕ) (s : State) :
    KeepsO 0x80000000000000000000000000000000000000010000000000000000000000000000000 0x2021 s (execDrainComplete ext s) := by
  unfold execDrainComplete
  repeat' first
    | with_reducible first
        | apply KeepsO.done
        | apply Keeps.refl
        | apply Keeps.andThen (Keeps.guarded ?_) ?_
    | (with_reducible apply Keeps.after (keeps_setPt ..) ?_ ?_ ?_) <;> [rfl; rfl; skip]
    | (with_reducible apply Keeps.after (keeps_ptEvent ..) ?_ ?_ ?_) <;> [(first | rfl | (dsimp only; rfl)); rfl; skip]
    | split

theorem keeps_execExtentClearingComplete (ext : ℕ) (s : State) :
    KeepsO 0x80000000000000000000000000000000000000010000000000000000000000000000000 0x6021 s (execExtentClearingComplete ext s) := by
  unfold execExtentClearingComplete
  repeat' first
    | with_reducible first
        | apply KeepsO.done
        | apply Keeps.refl
        | apply Keeps.andThen (Keeps.guarded ?_) ?_
        | apply Keeps.andThen (Keeps.foldl (fun t a => ?_)) ?_
    | (with_reducible apply Keeps.after (keeps_setPt ..) ?_ ?_ ?_) <;> [rfl; rfl; skip]
    | (with_reducible apply Keeps.after (keeps_clearOn ..) ?_ ?_ ?_) <;> [rfl; rfl; skip]
    | (with_reducible apply Keeps.after (keeps_ptEvent ..) ?_ ?_ ?_) <;> [(first | rfl | (dsimp only; rfl)); rfl; skip]
    | simp (disch := first | exact Or.inl rfl | with_reducible exact Or.inr rfl | rfl) only [Keeps.upd]
    | split

theorem keeps_execExtentOfferResponse (n : Fin 16) (ext : ℕ) (accept : Bool) (s : State) :
    KeepsO 0 0x2000 s (execExtentOfferResponse n ext accept s) := by
  unfold execExtentOfferResponse
  repeat' first
    | with_reducible first
        | apply KeepsO.done
        | apply Keeps.refl
        | apply Keeps.andThen (Keeps.guarded ?_) ?_
    | simp (disch := first | exact Or.inl rfl | with_reducible exact Or.inr rfl | rfl) only [Keeps.upd]

theorem keeps_execNarrow (v : Word) (s : State) :
    KeepsO 0x300000080000000000000000000000000000000000008930f00000000000000000000000000000 0x260a9 s (execNarrow v s) := by
  unfold execNarrow
  repeat' first
    | with_reducible first
        | apply KeepsO.done
        | apply Keeps.refl
        | apply Keeps.andThen (Keeps.guarded ?_) ?_
    | (with_reducible apply Keeps.after (keeps_ptCmd ..) ?_ ?_ ?_) <;> [rfl; rfl; skip]

theorem keeps_execPtInForce (s : State) :
    KeepsO 0x100000000000000000000000000000 0x2000 s (execPtInForce s) := by
  unfold execPtInForce
  repeat' first
    | with_reducible first
        | apply KeepsO.done
        | apply Keeps.refl
        | apply Keeps.andThen (Keeps.guarded ?_) ?_
    | (with_reducible apply Keeps.after (keeps_off ..) ?_ ?_ ?_) <;> [(first | rfl | (dsimp only; rfl)); rfl; skip]
    | simp (disch := first | exact Or.inl rfl | with_reducible exact Or.inr rfl | rfl) only [Keeps.upd]

theorem keeps_execPtRead (v : Word) (s : State) :
    KeepsO 0x300000080000000000000000000000000000000000008930f00000000000000000000000000000 0x260a9 s (execPtRead v s) := by
  unfold execPtRead
  repeat' first
    | with_reducible first
        | apply KeepsO.done
        | apply Keeps.refl
        | apply Keeps.andThen (Keeps.guarded ?_) ?_
    | (with_reducible apply Keeps.after (keeps_ptCmd ..) ?_ ?_ ?_) <;> [rfl; rfl; skip]

theorem keeps_execRangeRead (v : Word) (s : State) :
    KeepsO 0xe000000000000000000000000000000 0x2000 s (execRangeRead v s) := by
  unfold execRangeRead
  repeat' first
    | with_reducible first
        | apply KeepsO.done
        | apply Keeps.refl
        | apply Keeps.andThen (Keeps.guarded ?_) ?_
    | (with_reducible apply Keeps.after (keeps_xmCmd ..) ?_ ?_ ?_) <;> [rfl; rfl; skip]

theorem keeps_execRangeWrite (v : Word) (s : State) :
    KeepsO 0xe000000000000000000000000000000 0x2000 s (execRangeWrite v s) := by
  unfold execRangeWrite
  repeat' first
    | with_reducible first
        | apply KeepsO.done
        | apply Keeps.refl
        | apply Keeps.andThen (Keeps.guarded ?_) ?_
    | (with_reducible apply Keeps.after (keeps_xmCmd ..) ?_ ?_ ?_) <;> [rfl; rfl; skip]

theorem keeps_forwarded_of (n : ℕ) (r : Req) (s : State) :
    KeepsP 0x1c000000 0x80 s (forwarded n r s) := by
  unfold forwarded
  repeat' first
    | with_reducible first
        | apply KeepsP.some
        | refine KeepsP.map ?_ (fun t => ?_)
        | apply Keeps.refl
    | (with_reducible apply Keeps.after (keeps_respond ..) ?_ ?_ ?_) <;> [rfl; rfl; skip]
    | (with_reducible apply KeepsP.after (keeps_launch_of _ _ _ _ _ _ _) ?_ ?_ ?_) <;> [rfl; rfl; skip]
    | simp (disch := first | exact Or.inl rfl | with_reducible exact Or.inr rfl | rfl) only [Keeps.upd]
    | split

theorem keeps_forwarded {n : ℕ} {r : Req} {s : State} {t : State} (he : forwarded n r s = some t) :
    Keeps 0x1c000000 0x80 s t :=
  keeps_forwarded_of n r s t he

theorem keeps_frontEnd (n : ℕ) (r : Req) (s : State) :
    Keeps 0x80000000000000000000000000000082410000f2000000000000000000000001c000000 0x60a1 s (frontEnd n r s) := by
  unfold frontEnd
  repeat' first
    | with_reducible first
        | apply Keeps.refl
    | (with_reducible apply Keeps.after (keeps_wr ..) ?_ ?_ ?_) <;> [(first | rfl | (dsimp only; rfl)); rfl; skip]
    | (with_reducible apply Keeps.after (keeps_setChan ..) ?_ ?_ ?_) <;> [rfl; rfl; skip]
    | (with_reducible apply Keeps.after (keeps_respond ..) ?_ ?_ ?_) <;> [rfl; rfl; skip]
    | (with_reducible apply Keeps.after (keeps_admitted ..) ?_ ?_ ?_) <;> [rfl; rfl; skip]
    | (with_reducible apply Keeps.after (keeps_denied ..) ?_ ?_ ?_) <;> [rfl; rfl; skip]
    | (with_reducible apply Keeps.after (keeps_unclean ..) ?_ ?_ ?_) <;> [rfl; rfl; skip]
    | (with_reducible apply Keeps.getD (keeps_forwarded_of _ _ _) ?_ ?_ ?_ ?_) <;> [rfl; rfl; skip; skip]
    | split
    | dsimp only

theorem keeps_execRelease (v : Word) (s : State) :
    KeepsO 0x300000080000000000000000000000000000000000008930f00000000000000000000000000000 0x260a9 s (execRelease v s) := by
  unfold execRelease
  repeat' first
    | with_reducible first
        | apply KeepsO.done
        | apply Keeps.refl
        | apply Keeps.andThen (Keeps.guarded ?_) ?_
    | (with_reducible apply Keeps.after (keeps_ptCmd ..) ?_ ?_ ?_) <;> [rfl; rfl; skip]

theorem keeps_execReplicaReload (chan : Fin 12) (ext : ℕ) (s : State) :
    KeepsO 0 0x2000 s (execReplicaReload chan ext s) := by
  unfold execReplicaReload
  repeat' first
    | with_reducible first
        | apply KeepsO.done
        | apply Keeps.refl
        | apply Keeps.andThen (Keeps.guarded ?_) ?_
    | simp (disch := first | exact Or.inl rfl | with_reducible exact Or.inr rfl | rfl) only [Keeps.upd]

theorem keeps_snoopReturns_of (n : ℕ) (line : ℕ) (inv : Bool) (data : Option Line) (s : State) :
    KeepsP 0 0x80 s (snoopReturns n line inv data s) := by
  unfold snoopReturns
  repeat' first
    | with_reducible first
        | refine KeepsP.map ?_ (fun t => ?_)
        | apply Keeps.refl
    | (with_reducible apply Keeps.after (keeps_dispatch ..) ?_ ?_ ?_) <;> [rfl; rfl; skip]
    | (with_reducible apply Keeps.after (keeps_landed ..) ?_ ?_ ?_) <;> [rfl; rfl; skip]
    | (with_reducible apply KeepsP.after (keeps_reach_of _ _) ?_ ?_ ?_) <;> [rfl; rfl; skip]

theorem keeps_snoopReturns {n : ℕ} {line : ℕ} {inv : Bool} {data : Option Line} {s : State} {t : State} (he : snoopReturns n line inv data s = some t) :
    Keeps 0 0x80 s t :=
  keeps_snoopReturns_of n line inv data s t he

theorem keeps_snoopResponse (n : ℕ) (line : ℕ) (shared : Bool) (data : Option Line) (s : State) :
    Keeps 0x300000080000000000000000000000000000082410000f2000000000000000000000001c000000 0x260a1 s (snoopResponse n line shared data s) := by
  unfold snoopResponse
  repeat' first
    | with_reducible first
        | apply Keeps.refl
    | (with_reducible apply Keeps.after (keeps_walks ..) ?_ ?_ ?_) <;> [rfl; rfl; skip]
    | (with_reducible apply Keeps.after (keeps_snoopEnd ..) ?_ ?_ ?_) <;> [rfl; rfl; skip]
    | (with_reducible apply Keeps.after (keeps_snoopReturns (by assumption)) ?_ ?_ ?_) <;> [rfl; rfl; skip]
    | split

theorem keeps_execRspI (n : Fin 16) (line : ℕ) (s : State) :
    KeepsO 0x300000080000000000000000000000000000082410000f2000000000000000000000001c000000 0x260a1 s (execRspI n line s) := by
  unfold execRspI
  repeat' first
    | with_reducible first
        | apply KeepsO.done
        | apply Keeps.refl
    | (with_reducible apply Keeps.after (keeps_snoopResponse ..) ?_ ?_ ?_) <;> [rfl; rfl; skip]

theorem keeps_execRspIData (n : Fin 16) (line : ℕ) (data : BitVec 512) (s : State) :
    KeepsO 0x300000080000000000000000000000000000082410000f2000000000000000000000001c000000 0x260a1 s (execRspIData n line data s) := by
  unfold execRspIData
  repeat' first
    | with_reducible first
        | apply KeepsO.done
        | apply Keeps.refl
    | (with_reducible apply Keeps.after (keeps_snoopResponse ..) ?_ ?_ ?_) <;> [rfl; rfl; skip]

theorem keeps_execRspS (n : Fin 16) (line : ℕ) (s : State) :
    KeepsO 0x300000080000000000000000000000000000082410000f2000000000000000000000001c000000 0x260a1 s (execRspS n line s) := by
  unfold execRspS
  repeat' first
    | with_reducible first
        | apply KeepsO.done
        | apply Keeps.refl
    | (with_reducible apply Keeps.after (keeps_snoopResponse ..) ?_ ?_ ?_) <;> [rfl; rfl; skip]

theorem keeps_execRspSData (n : Fin 16) (line : ℕ) (data : BitVec 512) (s : State) :
    KeepsO 0x300000080000000000000000000000000000082410000f2000000000000000000000001c000000 0x260a1 s (execRspSData n line data s) := by
  unfold execRspSData
  repeat' first
    | with_reducible first
        | apply KeepsO.done
        | apply Keeps.refl
    | (with_reducible apply Keeps.after (keeps_snoopResponse ..) ?_ ?_ ?_) <;> [rfl; rfl; skip]

theorem keeps_execSelfRefreshExit (n : Fin 12) (s : State) :
    KeepsO 0x300000080000000000000000000000000000082410200f2000000000000000000000001c000000 0x260a1 s (execSelfRefreshExit n s) := by
  unfold execSelfRefreshExit
  repeat' first
    | with_reducible first
        | apply KeepsO.done
        | apply Keeps.refl
        | apply Keeps.andThen (Keeps.guarded ?_) ?_
    | (with_reducible apply Keeps.after (keeps_setChan ..) ?_ ?_ ?_) <;> [rfl; rfl; skip]
    | (with_reducible apply Keeps.after (keeps_noteEmpty ..) ?_ ?_ ?_) <;> [rfl; rfl; skip]
    | (with_reducible apply Keeps.after (keeps_setChanState ..) ?_ ?_ ?_) <;> [rfl; rfl; skip]
    | (with_reducible apply Keeps.after (keeps_releaseHeld ..) ?_ ?_ ?_) <;> [rfl; rfl; skip]
    | split

theorem keeps_execSnoopTimeout (n : Fin 16) (line : ℕ) (s : State) :
    KeepsO 0x300000080000000000000000000000000000082410000f2000000000000000000000001c000000 0x260a1 s (execSnoopTimeout n line s) := by
  unfold execSnoopTimeout
  repeat' first
    | with_reducible first
        | apply KeepsO.done
        | apply Keeps.refl
        | apply Keeps.andThen (Keeps.guarded ?_) ?_
    | (with_reducible apply Keeps.after (keeps_walks ..) ?_ ?_ ?_) <;> [rfl; rfl; skip]
    | (with_reducible apply Keeps.after (keeps_snoopFail ..) ?_ ?_ ?_) <;> [rfl; rfl; skip]
    | split

theorem keeps_markDelivered (n : ℕ) (line : ℕ) (inv : Bool) (s : State) :
    Keeps 0 0x2000 s (markDelivered n line inv s) := by
  unfold markDelivered
  repeat' first
    | with_reducible first
        | apply Keeps.refl
    | (with_reducible apply Keeps.after (keeps_setPend ..) ?_ ?_ ?_) <;> [rfl; rfl; skip]
    | split

theorem keeps_snoopArrives (n : ℕ) (line : ℕ) (inv : Bool) (s : State) :
    Keeps 0 0x2088 s (snoopArrives n line inv s) := by
  unfold snoopArrives
  repeat' first
    | with_reducible first
        | apply Keeps.refl
    | (with_reducible apply Keeps.after (keeps_landed ..) ?_ ?_ ?_) <;> [rfl; rfl; skip]
    | (with_reducible apply Keeps.after (keeps_reach (by assumption)) ?_ ?_ ?_) <;> [rfl; rfl; skip]
    | (with_reducible apply Keeps.after (keeps_markDelivered ..) ?_ ?_ ?_) <;> [rfl; rfl; skip]
    | simp (disch := first | exact Or.inl rfl | with_reducible exact Or.inr rfl | rfl) only [Keeps.upd]
    | split

theorem keeps_execSnpData (n : Fin 16) (line : ℕ) (s : State) :
    KeepsO 0 0x2088 s (execSnpData n line s) := by
  unfold execSnpData
  repeat' first
    | with_reducible first
        | apply KeepsO.done
        | apply Keeps.refl
    | (with_reducible apply Keeps.after (keeps_snoopArrives ..) ?_ ?_ ?_) <;> [rfl; rfl; skip]

theorem keeps_execSnpInv (n : Fin 16) (line : ℕ) (s : State) :
    KeepsO 0 0x2088 s (execSnpInv n line s) := by
  unfold execSnpInv
  repeat' first
    | with_reducible first
        | apply KeepsO.done
        | apply Keeps.refl
    | (with_reducible apply Keeps.after (keeps_snoopArrives ..) ?_ ?_ ?_) <;> [rfl; rfl; skip]

theorem keeps_execTrainholdDone (n : Fin 12) (s : State) :
    KeepsO 0x300000080000000000000000000000000000082410200f2000000000000000000000001c000000 0x260a1 s (execTrainholdDone n s) := by
  unfold execTrainholdDone
  repeat' first
    | with_reducible first
        | apply KeepsO.done
        | apply Keeps.refl
    | (with_reducible apply Keeps.after (keeps_holdDone ..) ?_ ?_ ?_) <;> [rfl; rfl; skip]

theorem keeps_vioCount (f : Fld) (src : ℕ) (n : ℕ) (s : State) :
    Keeps (1 <<< f.reg.ctorIdx ||| 0x80000000000000000000000000000000000000000000000000000000000000000000000) 0x21 s (vioCount f src n s) := by
  unfold vioCount
  repeat' first
    | with_reducible first
        | apply Keeps.refl
    | (with_reducible apply Keeps.after (keeps_satAdd ..) ?_ ?_ ?_) <;> [(first | rfl | (dsimp only; rfl) | exact Nat.or_self _ | exact sub_left .. | exact sub_right .. | exact sub_into rfl | exact sub_both rfl); rfl; skip]
    | (with_reducible apply Keeps.after (keeps_raise ..) ?_ ?_ ?_) <;> [(first | rfl | exact Nat.or_self _ | exact sub_left .. | exact sub_right .. | exact sub_into rfl | exact sub_both rfl); rfl; skip]
    | split
    | dsimp only

theorem keeps_vlogAppend (v : VioReport) (s : State) :
    Keeps 0x70000000000000000000000000000000000 0 s (vlogAppend v s) := by
  unfold vlogAppend
  repeat' first
    | with_reducible first
        | apply Keeps.refl
    | (with_reducible apply Keeps.after (keeps_wr ..) ?_ ?_ ?_) <;> [(first | rfl | (dsimp only; rfl)); rfl; skip]
    | (with_reducible apply Keeps.after (keeps_satAdd ..) ?_ ?_ ?_) <;> [(first | rfl | (dsimp only; rfl)); rfl; skip]
    | split
    | dsimp only

theorem keeps_execViolationReport (s : State) :
    KeepsO 0x800000000000000000000000000000000000700c0000000000000000000000000000000 0x2021 s (execViolationReport s) := by
  unfold execViolationReport
  repeat' first
    | with_reducible first
        | apply KeepsO.done
        | apply Keeps.refl
        | apply Keeps.andThen (Keeps.foldl (fun t a => ?_)) ?_
    | (with_reducible apply Keeps.after (keeps_vioCount ..) ?_ ?_ ?_) <;> [(first | rfl | (dsimp only; rfl)); rfl; skip]
    | (with_reducible apply Keeps.after (keeps_vlogAppend ..) ?_ ?_ ?_) <;> [rfl; rfl; skip]
    | simp (disch := first | exact Or.inl rfl | with_reducible exact Or.inr rfl | rfl) only [Keeps.upd]
    | split

theorem keeps_walkEnds (why : WalkWhy) (s : State) :
    Keeps 0x80000000000000000000000000000000000000030000000000000000000000000000000 0x2021 s (walkEnds why s) := by
  unfold walkEnds
  repeat' first
    | with_reducible first
        | apply Keeps.refl
    | (with_reducible apply Keeps.after (keeps_off ..) ?_ ?_ ?_) <;> [(first | rfl | (dsimp only; rfl)); rfl; skip]
    | (with_reducible apply Keeps.after (keeps_setPt ..) ?_ ?_ ?_) <;> [rfl; rfl; skip]
    | (with_reducible apply Keeps.after (keeps_ptEvent ..) ?_ ?_ ?_) <;> [(first | rfl | (dsimp only; rfl)); rfl; skip]
    | split

theorem keeps_walkLeafEnds (leaf : ℕ) (w : WalkRec) (s : State) :
    Keeps 0x300040080000000000000000000000000000000000000930000000000000000000000000000000 0x260a1 s (walkLeafEnds leaf w s) := by
  unfold walkLeafEnds
  repeat' first
    | with_reducible first
        | apply Keeps.refl
    | (with_reducible apply Keeps.after (keeps_mntEnd ..) ?_ ?_ ?_) <;> [rfl; rfl; skip]
    | (with_reducible apply Keeps.after (keeps_walkEnds ..) ?_ ?_ ?_) <;> [rfl; rfl; skip]
    | simp (disch := first | exact Or.inl rfl | with_reducible exact Or.inr rfl | rfl) only [Keeps.upd]
    | split

theorem keeps_execWalkComplete (leaf : Fin 4) (damaged : List (Fin 1048576)) (s : State) :
    KeepsO 0x300040080000000000000000000000000000000000001930000000000000000000000000000000 0x260a1 s (execWalkComplete leaf damaged s) := by
  unfold execWalkComplete
  repeat' first
    | with_reducible first
        | apply KeepsO.done
        | apply Keeps.refl
        | apply Keeps.andThen (Keeps.foldl (fun t a => ?_)) ?_
    | (with_reducible apply Keeps.after (keeps_dirRegs ..) ?_ ?_ ?_) <;> [rfl; rfl; skip]
    | (with_reducible apply Keeps.after (keeps_walkEntry ..) ?_ ?_ ?_) <;> [rfl; rfl; skip]
    | (with_reducible apply Keeps.after (keeps_walks ..) ?_ ?_ ?_) <;> [rfl; rfl; skip]
    | (with_reducible apply Keeps.after (keeps_dirDamaged ..) ?_ ?_ ?_) <;> [rfl; rfl; skip]
    | (with_reducible apply Keeps.after (keeps_walkLeafEnds ..) ?_ ?_ ?_) <;> [rfl; rfl; skip]
    | split

end Sys2Proof.Machine
end

