-- ==== Sys2Proof/Laws/KeepsTumbler.lean ====
section
/-! SUPPORT. The frames of the operations of Machine/Tumbler.lean: what each can change, and that it keeps the stores canonical. -/

namespace Sys2Proof.Machine
open Sys2Proof

theorem keeps_setEng (s : State) (e : ℕ) (r : EngineRec) :
    Keeps 0 0x800 s (State.setEng s e r) := by
  unfold State.setEng
  repeat' first
    | with_reducible first
        | apply Keeps.refl
    | simp (disch := first | exact Or.inl rfl | with_reducible exact Or.inr rfl | rfl) only [Keeps.upd]

theorem keeps_modEng (s : State) (e : ℕ) (f : EngineRec → EngineRec) :
    Keeps 0 0x800 s (State.modEng s e f) := by
  unfold State.modEng
  repeat' first
    | with_reducible first
        | apply Keeps.refl
    | (with_reducible apply Keeps.after (keeps_setEng ..) ?_ ?_ ?_) <;> [rfl; rfl; skip]

theorem keeps_engineStore (e : ℕ) (addr : ℕ) (len : ℕ) (d : Line) (s : State) :
    Keeps 0 0x400 s (engineStore e addr len d s) := by
  unfold engineStore
  repeat' first
    | with_reducible first
        | apply Keeps.refl
        | apply Keeps.andThen (Keeps.foldl (fun t a => ?_)) ?_
    | (with_reducible apply Keeps.after (keeps_setCode ..) ?_ ?_ ?_) <;> [rfl; rfl; skip]

theorem keeps_poisonWords (e : ℕ) (addr : ℕ) (len : ℕ) (s : State) :
    Keeps 0 0x400 s (poisonWords e addr len s) := by
  unfold poisonWords
  repeat' first
    | with_reducible first
        | apply Keeps.refl
        | apply Keeps.andThen (Keeps.foldl (fun t a => ?_)) ?_
    | (with_reducible apply Keeps.after (keeps_setCode ..) ?_ ?_ ?_) <;> [rfl; rfl; skip]

end Sys2Proof.Machine
end

