-- ==== Sys2Proof/Laws/KeepsTumblerRun.lean ====
section
/-! SUPPORT. The frames of the operations of Machine/TumblerRun.lean: what each can change, and that it keeps the stores canonical. -/

namespace Sys2Proof.Machine
open Sys2Proof

theorem keeps_setJob (s : State) (k : ℕ) (r : JobRec) :
    Keeps 0 0x800 s (State.setJob s k r) := by
  unfold State.setJob
  repeat' first
    | with_reducible first
        | apply Keeps.refl
    | simp (disch := first | exact Or.inl rfl | with_reducible exact Or.inr rfl | rfl) only [Keeps.upd]

theorem keeps_writeWrsp (e : ℕ) (v : Word) (s : State) :
    Keeps 0x1c000000 0x880 s (writeWrsp e v s) := by
  unfold writeWrsp
  repeat' first
    | with_reducible first
        | apply Keeps.refl
    | (with_reducible apply Keeps.after (keeps_setEng ..) ?_ ?_ ?_) <;> [rfl; rfl; skip]
    | (with_reducible apply Keeps.after (keeps_respond ..) ?_ ?_ ?_) <;> [rfl; rfl; skip]
    | split
    | dsimp only

theorem keeps_crWrite (e : ℕ) (n : ℕ) (v : Word) (s : State) :
    Keeps 0x1c000000 0x880 s (crWrite e n v s) := by
  unfold crWrite
  repeat' first
    | with_reducible first
        | apply Keeps.refl
    | (with_reducible apply Keeps.after (keeps_setEng ..) ?_ ?_ ?_) <;> [rfl; rfl; skip]
    | (with_reducible apply Keeps.after (keeps_writeWrsp ..) ?_ ?_ ?_) <;> [rfl; rfl; skip]
    | split

theorem keeps_engineCause (e : ℕ) (cause : Fld) (enable : Fld) (s : State) :
    Keeps (1 <<< cause.reg.ctorIdx ||| 0x80000000000000000000000000000000000000000000000000000000000000000000000) 0x21 s (engineCause e cause enable s) := by
  unfold engineCause
  repeat' first
    | with_reducible first
        | apply Keeps.refl
    | (with_reducible apply Keeps.after (keeps_raiseCause ..) ?_ ?_ ?_) <;> [(first | rfl | (dsimp only; rfl) | exact Nat.or_self _ | exact sub_left .. | exact sub_right .. | exact sub_into rfl | exact sub_both rfl); rfl; skip]

theorem keeps_landResult (e : ℕ) (a : ResAct) (s : State) :
    Keeps 0x8000000000000000000000000000000000000000000000000000200000000001c000000 0xca1 s (landResult e a s) := by
  unfold landResult
  repeat' first
    | with_reducible first
        | apply Keeps.refl
    | (with_reducible apply Keeps.after (keeps_modEng ..) ?_ ?_ ?_) <;> [rfl; rfl; skip]
    | (with_reducible apply Keeps.after (keeps_crWrite ..) ?_ ?_ ?_) <;> [rfl; rfl; skip]
    | (with_reducible apply Keeps.after (keeps_engineCause ..) ?_ ?_ ?_) <;> [(first | rfl | (dsimp only; rfl)); rfl; skip]
    | (with_reducible apply Keeps.after (keeps_engineStore ..) ?_ ?_ ?_) <;> [rfl; rfl; skip]
    | split

theorem keeps_advancePipe (e : ℕ) (s : State) :
    Keeps 0x8000000000000000000000000000000000000000000000000000200000000001c000000 0xca1 s (advancePipe e s) := by
  unfold advancePipe
  repeat' first
    | with_reducible first
        | apply Keeps.refl
        | apply Keeps.andThen (Keeps.foldl (fun t a => ?_)) ?_
    | (with_reducible apply Keeps.after (keeps_setEng ..) ?_ ?_ ?_) <;> [rfl; rfl; skip]
    | (with_reducible apply Keeps.after (keeps_landResult ..) ?_ ?_ ?_) <;> [rfl; rfl; skip]

theorem keeps_crFromOutside (e : ℕ) (n : ℕ) (v : Word) (s : State) :
    Keeps 0x1c000000 0x880 s (crFromOutside e n v s) := by
  unfold crFromOutside
  repeat' first
    | with_reducible first
        | apply Keeps.refl
    | (with_reducible apply Keeps.after (keeps_crWrite ..) ?_ ?_ ?_) <;> [rfl; rfl; skip]
    | split

theorem keeps_endCode (k : ℕ) (code : ℕ) (s : State) :
    Keeps 0 0x800 s (endCode k code s) := by
  unfold endCode
  repeat' first
    | with_reducible first
        | apply Keeps.refl
    | (with_reducible apply Keeps.after (keeps_setJob ..) ?_ ?_ ?_) <;> [rfl; rfl; skip]
    | split
    | dsimp only

theorem keeps_checkDone (k : ℕ) (s : State) :
    Keeps 0 0x800 s (checkDone k s) := by
  unfold checkDone
  repeat' first
    | with_reducible first
        | apply Keeps.refl
    | (with_reducible apply Keeps.after (keeps_endCode ..) ?_ ?_ ?_) <;> [rfl; rfl; skip]
    | split
    | dsimp only

theorem keeps_settle (e : ℕ) (s : State) :
    Keeps 0 0x800 s (settle e s) := by
  unfold settle
  repeat' first
    | with_reducible first
        | apply Keeps.refl
    | (with_reducible apply Keeps.after (keeps_setEng ..) ?_ ?_ ?_) <;> [rfl; rfl; skip]
    | (with_reducible apply Keeps.after (keeps_checkDone ..) ?_ ?_ ?_) <;> [rfl; rfl; skip]
    | split
    | dsimp only

theorem keeps_stopEngine (e : ℕ) (s : State) :
    Keeps 0 0x800 s (stopEngine e s) := by
  unfold stopEngine
  repeat' first
    | with_reducible first
        | apply Keeps.refl
    | (with_reducible apply Keeps.after (keeps_setEng ..) ?_ ?_ ?_) <;> [rfl; rfl; skip]
    | (with_reducible apply Keeps.after (keeps_settle ..) ?_ ?_ ?_) <;> [rfl; rfl; skip]
    | split
    | dsimp only

theorem keeps_stopMembers (k : ℕ) (but : List ℕ) (s : State) :
    Keeps 0 0x800 s (stopMembers k but s) := by
  unfold stopMembers
  repeat' first
    | with_reducible first
        | apply Keeps.refl
        | apply Keeps.andThen (Keeps.foldl (fun t a => ?_)) ?_
    | (with_reducible apply Keeps.after (keeps_stopEngine ..) ?_ ?_ ?_) <;> [rfl; rfl; skip]

theorem keeps_ringDoorbell (e : ℕ) (off : ℕ) (len : ℕ) (s : State) :
    Keeps 0 0x800 s (ringDoorbell e off len s) := by
  unfold ringDoorbell
  repeat' first
    | with_reducible first
        | apply Keeps.refl
    | (with_reducible apply Keeps.after (keeps_setEng ..) ?_ ?_ ?_) <;> [rfl; rfl; skip]
    | split
    | dsimp only

theorem keeps_dataAccess (e : ℕ) (off : ℕ) (r : Req) (s : State) :
    Keeps 0x1c000000 0xc80 s (dataAccess e off r s) := by
  unfold dataAccess
  repeat' first
    | with_reducible first
        | apply Keeps.refl
    | (with_reducible apply Keeps.after (keeps_ringDoorbell ..) ?_ ?_ ?_) <;> [rfl; rfl; skip]
    | (with_reducible apply Keeps.after (keeps_serveWords ..) ?_ ?_ ?_) <;> [rfl; rfl; skip]
    | split

theorem keeps_quietCycle (e : ℕ) (s : State) :
    Keeps 0 0x800 s (quietCycle e s) := by
  unfold quietCycle
  repeat' first
    | with_reducible first
        | apply Keeps.refl
    | (with_reducible apply Keeps.after (keeps_modEng ..) ?_ ?_ ?_) <;> [rfl; rfl; skip]

theorem keeps_endingCycle (e : ℕ) (s : State) :
    Keeps 0x8000000000000000000000000000000000000000000000000000200000000001c000000 0xcb1 s (endingCycle e s) := by
  unfold endingCycle
  repeat' first
    | with_reducible first
        | apply Keeps.refl
    | (with_reducible apply Keeps.after (keeps_modEng ..) ?_ ?_ ?_) <;> [rfl; rfl; skip]
    | (with_reducible apply Keeps.after (keeps_advancePipe ..) ?_ ?_ ?_) <;> [rfl; rfl; skip]
    | (with_reducible apply Keeps.after (keeps_checkDone ..) ?_ ?_ ?_) <;> [rfl; rfl; skip]
    | (with_reducible apply Keeps.after (keeps_settle ..) ?_ ?_ ?_) <;> [rfl; rfl; skip]
    | (with_reducible apply Keeps.after (keeps_quietCycle ..) ?_ ?_ ?_) <;> [rfl; rfl; skip]
    | (with_reducible apply Keeps.after (keeps_noteEck ..) ?_ ?_ ?_) <;> [rfl; rfl; skip]
    | split
    | dsimp only

theorem keeps_markStale (e : ℕ) (w : ℕ) (old : Codeword) (s : State) :
    Keeps 0 0x801 s (markStale e w old s) := by
  unfold markStale
  repeat' first
    | with_reducible first
        | apply Keeps.refl
    | (with_reducible apply Keeps.after (keeps_modEng ..) ?_ ?_ ?_) <;> [rfl; rfl; skip]
    | simp (disch := first | exact Or.inl rfl | with_reducible exact Or.inr rfl | rfl) only [Keeps.upd]

theorem keeps_progAccess (e : ℕ) (off : ℕ) (r : Req) (s : State) :
    Keeps 0x1c000000 0xc81 s (progAccess e off r s) := by
  unfold progAccess
  repeat' first
    | with_reducible first
        | apply Keeps.refl
        | apply Keeps.andThen (Keeps.foldl (fun t a => ?_)) ?_
    | (with_reducible apply Keeps.after (keeps_modEng ..) ?_ ?_ ?_) <;> [rfl; rfl; skip]
    | (with_reducible apply Keeps.after (keeps_respond ..) ?_ ?_ ?_) <;> [rfl; rfl; skip]
    | (with_reducible apply Keeps.after (keeps_writeWords ..) ?_ ?_ ?_) <;> [rfl; rfl; skip]
    | (with_reducible apply Keeps.after (keeps_markStale ..) ?_ ?_ ?_) <;> [rfl; rfl; skip]
    | split

theorem keeps_engineRequest (e : ℕ) (off : ℕ) (ups : List (List ℕ)) (r : Req) (s : State) :
    Keeps 0x1c000000 0x2c81 s (engineRequest e off ups r s) := by
  unfold engineRequest
  repeat' first
    | with_reducible first
        | apply Keeps.refl
    | (with_reducible apply Keeps.after (keeps_respond ..) ?_ ?_ ?_) <;> [rfl; rfl; skip]
    | (with_reducible apply Keeps.after (keeps_denied ..) ?_ ?_ ?_) <;> [rfl; rfl; skip]
    | (with_reducible apply Keeps.after (keeps_dataAccess ..) ?_ ?_ ?_) <;> [rfl; rfl; skip]
    | (with_reducible apply Keeps.after (keeps_flipTouched ..) ?_ ?_ ?_) <;> [rfl; rfl; skip]
    | (with_reducible apply Keeps.after (keeps_progAccess ..) ?_ ?_ ?_) <;> [rfl; rfl; skip]
    | split

theorem keeps_execEventEntry (e : Fin 512) (s : State) :
    KeepsO 0 0x800 s (execEventEntry e s) := by
  unfold execEventEntry
  repeat' first
    | with_reducible first
        | apply KeepsO.done
        | apply Keeps.refl
        | apply Keeps.andThen (Keeps.guarded ?_) ?_
    | (with_reducible apply Keeps.after (keeps_setEng ..) ?_ ?_ ?_) <;> [rfl; rfl; skip]
    | split

theorem keeps_windowArrives_of (e : ℕ) (r : Req) (s : State) :
    KeepsP 0x1c000000 0x881 s (windowArrives e r s) := by
  unfold windowArrives
  repeat' first
    | with_reducible first
        | apply KeepsP.some
        | apply KeepsP.none
        | apply Keeps.refl
    | (with_reducible apply Keeps.after (keeps_freshBit ..) ?_ ?_ ?_) <;> [rfl; rfl; skip]
    | (with_reducible apply Keeps.after (keeps_modEng ..) ?_ ?_ ?_) <;> [rfl; rfl; skip]
    | (with_reducible apply Keeps.after (keeps_respond ..) ?_ ?_ ?_) <;> [rfl; rfl; skip]
    | split

theorem keeps_windowArrives {e : ℕ} {r : Req} {s : State} {t : State} (he : windowArrives e r s = some t) :
    Keeps 0x1c000000 0x881 s t :=
  keeps_windowArrives_of e r s t he

theorem keeps_heldCycle (e : ℕ) (f : EngineRec → EngineRec) (s : State) :
    Keeps 0 0x800 s (heldCycle e f s) := by
  unfold heldCycle
  repeat' first
    | with_reducible first
        | apply Keeps.refl
    | (with_reducible apply Keeps.after (keeps_modEng ..) ?_ ?_ ?_) <;> [rfl; rfl; skip]

theorem keeps_issueCycle (e : ℕ) (s : State) :
    Keeps 0x8000000000000000000000000000000000000000000000000000200000000001c000000 0xca1 s (issueCycle e s) := by
  unfold issueCycle
  repeat' first
    | with_reducible first
        | apply Keeps.refl
    | (with_reducible apply Keeps.after (keeps_setEng ..) ?_ ?_ ?_) <;> [rfl; rfl; skip]
    | (with_reducible apply Keeps.after (keeps_modEng ..) ?_ ?_ ?_) <;> [rfl; rfl; skip]
    | (with_reducible apply Keeps.after (keeps_advancePipe ..) ?_ ?_ ?_) <;> [rfl; rfl; skip]
    | (with_reducible apply Keeps.after (keeps_settle ..) ?_ ?_ ?_) <;> [rfl; rfl; skip]

theorem keeps_runCycle (e : ℕ) (s : State) :
    Keeps 0x8000000000000000000000000000000000000000000000000000200000000001c000000 0xcb1 s (runCycle e s) := by
  unfold runCycle
  repeat' first
    | with_reducible first
        | apply Keeps.refl
    | (with_reducible apply Keeps.after (keeps_advancePipe ..) ?_ ?_ ?_) <;> [rfl; rfl; skip]
    | (with_reducible apply Keeps.after (keeps_heldCycle ..) ?_ ?_ ?_) <;> [rfl; rfl; skip]
    | (with_reducible apply Keeps.after (keeps_issueCycle ..) ?_ ?_ ?_) <;> [rfl; rfl; skip]
    | (with_reducible apply Keeps.after (keeps_noteEck ..) ?_ ?_ ?_) <;> [rfl; rfl; skip]
    | split
    | dsimp only

theorem keeps_sleepCycle (e : ℕ) (s : State) :
    Keeps 0 0x800 s (sleepCycle e s) := by
  unfold sleepCycle
  repeat' first
    | with_reducible first
        | apply Keeps.refl
    | (with_reducible apply Keeps.after (keeps_modEng ..) ?_ ?_ ?_) <;> [rfl; rfl; skip]

theorem keeps_execResultLanding (e : Fin 512) (s : State) :
    KeepsO 0x8000000000000000000000000000000000000000000000000000200000000001c000000 0xcb1 s (execResultLanding e s) := by
  unfold execResultLanding
  repeat' first
    | with_reducible first
        | apply KeepsO.done
        | apply Keeps.refl
        | apply Keeps.andThen (Keeps.guarded ?_) ?_
    | (with_reducible apply Keeps.after (keeps_quietCycle ..) ?_ ?_ ?_) <;> [rfl; rfl; skip]
    | (with_reducible apply Keeps.after (keeps_endingCycle ..) ?_ ?_ ?_) <;> [rfl; rfl; skip]
    | (with_reducible apply Keeps.after (keeps_runCycle ..) ?_ ?_ ?_) <;> [rfl; rfl; skip]
    | (with_reducible apply Keeps.after (keeps_sleepCycle ..) ?_ ?_ ?_) <;> [rfl; rfl; skip]
    | (with_reducible apply Keeps.after (keeps_noteEck ..) ?_ ?_ ?_) <;> [rfl; rfl; skip]
    | split

theorem keeps_execTimer (e : Fin 512) (s : State) :
    KeepsO 0 0x800 s (execTimer e s) := by
  unfold execTimer
  repeat' first
    | with_reducible first
        | apply KeepsO.done
        | apply Keeps.refl
        | apply Keeps.andThen (Keeps.guarded ?_) ?_
    | (with_reducible apply Keeps.after (keeps_modEng ..) ?_ ?_ ?_) <;> [rfl; rfl; skip]

theorem keeps_faultEngine (e : ℕ) (s : State) :
    Keeps 0x80000000000000000000000000000000000000000000000000002000000000000000000 0x821 s (faultEngine e s) := by
  unfold faultEngine
  repeat' first
    | with_reducible first
        | apply Keeps.refl
    | (with_reducible apply Keeps.after (keeps_setEng ..) ?_ ?_ ?_) <;> [rfl; rfl; skip]
    | (with_reducible apply Keeps.after (keeps_engineCause ..) ?_ ?_ ?_) <;> [(first | rfl | (dsimp only; rfl)); rfl; skip]
    | (with_reducible apply Keeps.after (keeps_endCode ..) ?_ ?_ ?_) <;> [rfl; rfl; skip]
    | (with_reducible apply Keeps.after (keeps_stopMembers ..) ?_ ?_ ?_) <;> [rfl; rfl; skip]
    | split

theorem keeps_execUncorrectableFetch (e : Fin 512) (flips : List ℕ) (s : State) :
    KeepsO 0x80000000000000000000000000000000000000000000000000002000000000000000000 0xc21 s (execUncorrectableFetch e flips s) := by
  unfold execUncorrectableFetch
  repeat' first
    | with_reducible first
        | apply KeepsO.done
        | apply Keeps.refl
        | apply Keeps.andThen (Keeps.guarded ?_) ?_
    | (with_reducible apply Keeps.after (keeps_modEng ..) ?_ ?_ ?_) <;> [rfl; rfl; skip]
    | (with_reducible apply Keeps.after (keeps_flipCode ..) ?_ ?_ ?_) <;> [rfl; rfl; skip]
    | (with_reducible apply Keeps.after (keeps_faultEngine ..) ?_ ?_ ?_) <;> [rfl; rfl; skip]
    | split
    | dsimp only

theorem keeps_execWrsp (e : Fin 512) (v : Word) (s : State) :
    KeepsO 0x1c000000 0x880 s (execWrsp e v s) := by
  unfold execWrsp
  repeat' first
    | with_reducible first
        | apply KeepsO.done
        | apply Keeps.refl
    | (with_reducible apply Keeps.after (keeps_crFromOutside ..) ?_ ?_ ?_) <;> [rfl; rfl; skip]

end Sys2Proof.Machine
end

