-- ==== Sys2Proof/Laws/KeepsKeyhole.lean ====
section
/-! SUPPORT. The frames of the operations of Machine/Keyhole.lean: what each can change, and that it keeps the stores canonical. -/

namespace Sys2Proof.Machine
open Sys2Proof

theorem keeps_khFault (code : ℕ) (s : State) :
    Keeps 0x80000000000000000000000000000000000000000000000000000000000000000000000000000000000 0 s (khFault code s) := by
  unfold khFault
  repeat' first
    | with_reducible first
        | apply Keeps.refl
    | (with_reducible apply Keeps.after (keeps_wr ..) ?_ ?_ ?_) <;> [(first | rfl | (dsimp only; rfl)); rfl; skip]
    | (with_reducible apply Keeps.after (keeps_on ..) ?_ ?_ ?_) <;> [(first | rfl | (dsimp only; rfl)); rfl; skip]

theorem keeps_ackBits (r : KhReply) (s : State) :
    Keeps 0x80000000000000000000000000000000000000000000000000000000000000000000000000000000000 0x100000 s (ackBits r s).2 := by
  unfold ackBits
  repeat' first
    | with_reducible first
        | apply Keeps.refl
    | (with_reducible apply Keeps.after (keeps_wr ..) ?_ ?_ ?_) <;> [(first | rfl | (dsimp only; rfl)); rfl; skip]
    | (with_reducible apply Keeps.after (keeps_khFault ..) ?_ ?_ ?_) <;> [rfl; rfl; skip]
    | simp (disch := first | exact Or.inl rfl | with_reducible exact Or.inr rfl | rfl) only [Keeps.upd]
    | split

theorem keeps_ackBits_eq {r : KhReply} {s : State} {out} {t : State} (he : ackBits r s = (out, t)) :
    Keeps 0x80000000000000000000000000000000000000000000000000000000000000000000000000000000000 0x100000 s t := by
  have := keeps_ackBits r s
  rwa [he] at this

theorem keeps_drawChallenge (s : State) :
    Keeps 0x200000000000000000000000000000000000000000000000000000000000000000000000000000000000 0x1 s (drawChallenge s) := by
  unfold drawChallenge
  repeat' first
    | with_reducible first
        | apply Keeps.refl
        | apply Keeps.andThen (Keeps.foldl (fun t a => ?_)) ?_
    | (with_reducible apply Keeps.after (keeps_fresh ..) ?_ ?_ ?_) <;> [rfl; rfl; skip]
    | (with_reducible apply Keeps.after (keeps_wr ..) ?_ ?_ ?_) <;> [(first | rfl | (dsimp only; rfl)); rfl; skip]

theorem keeps_authWrite (v : Word) (s : State) :
    Keeps 0xa40000000000000000000000000000000000000000000000000000000000000000000000000000000000 0x100001 s (authWrite v s) := by
  unfold authWrite
  repeat' first
    | with_reducible first
        | apply Keeps.refl
    | (with_reducible apply Keeps.after (keeps_wr ..) ?_ ?_ ?_) <;> [(first | rfl | (dsimp only; rfl)); rfl; skip]
    | (with_reducible apply Keeps.after (keeps_off ..) ?_ ?_ ?_) <;> [(first | rfl | (dsimp only; rfl)); rfl; skip]
    | (with_reducible apply Keeps.after (keeps_on ..) ?_ ?_ ?_) <;> [(first | rfl | (dsimp only; rfl)); rfl; skip]
    | (with_reducible apply Keeps.after (keeps_satAdd ..) ?_ ?_ ?_) <;> [(first | rfl | (dsimp only; rfl)); rfl; skip]
    | (with_reducible apply Keeps.after (keeps_drawChallenge ..) ?_ ?_ ?_) <;> [rfl; rfl; skip]
    | simp (disch := first | exact Or.inl rfl | with_reducible exact Or.inr rfl | rfl) only [Keeps.upd]
    | split

theorem keeps_pcSample (c : ℕ) (s : State) :
    Keeps 0 0x1 s (pcSample c s).2 := by
  unfold pcSample
  repeat' first
    | with_reducible first
        | apply Keeps.refl
    | (with_reducible apply Keeps.after (keeps_fresh ..) ?_ ?_ ?_) <;> [rfl; rfl; skip]
    | split

theorem keeps_pcSample_eq {c : ℕ} {s : State} {out} {t : State} (he : pcSample c s = (out, t)) :
    Keeps 0 0x1 s t := by
  have := keeps_pcSample c s
  rwa [he] at this

theorem keeps_vtTxRead (s : State) :
    Keeps 0x8000000000000000080000000000000000000000000000000000000000000000000000000000000000000000 0x21 s (vtTxRead s).2 := by
  unfold vtTxRead
  repeat' first
    | with_reducible first
        | apply Keeps.refl
    | (with_reducible apply Keeps.after (keeps_off ..) ?_ ?_ ?_) <;> [(first | rfl | (dsimp only; rfl)); rfl; skip]
    | (with_reducible apply Keeps.after (keeps_raise ..) ?_ ?_ ?_) <;> [rfl; rfl; skip]
    | split

theorem keeps_vtTxRead_eq {s : State} {out} {t : State} (he : vtTxRead s = (out, t)) :
    Keeps 0x8000000000000000080000000000000000000000000000000000000000000000000000000000000000000000 0x21 s t := by
  have := keeps_vtTxRead s
  rwa [he] at this

theorem keeps_khGet (off : Nat) (s : State) : Keeps 0x8000000000000000080000000000000000000000000000000000000000000000000000000000000000000000 0x21 s (khGet off s).2 := by
  unfold khGet
  dsimp only
  repeat' first
    | with_reducible apply Keeps.ite_snd
    | (with_reducible apply Keeps.mono (keeps_pcSample ..) ?_ ?_) <;> rfl
    | (with_reducible apply Keeps.mono (keeps_vtTxRead ..) ?_ ?_) <;> rfl
    | with_reducible exact Keeps.refl s

theorem keeps_khGet_eq {off : Nat} {s : State} {out} {t : State} (h : khGet off s = (out, t)) : Keeps 0x8000000000000000080000000000000000000000000000000000000000000000000000000000000000000000 0x21 s t := by
  have := keeps_khGet off s
  rwa [h] at this

theorem keeps_vtRxRead (s : State) :
    Keeps 0x8000000000000000000000000000000000000000000000000000000000000000000000000000000000000000 0 s (vtRxRead s).2 := by
  unfold vtRxRead
  repeat' first
    | with_reducible first
        | apply Keeps.refl
    | (with_reducible apply Keeps.after (keeps_off ..) ?_ ?_ ?_) <;> [(first | rfl | (dsimp only; rfl)); rfl; skip]
    | split

theorem keeps_vtRxRead_eq {s : State} {out} {t : State} (he : vtRxRead s = (out, t)) :
    Keeps 0x8000000000000000000000000000000000000000000000000000000000000000000000000000000000000000 0 s t := by
  have := keeps_vtRxRead s
  rwa [he] at this

theorem keeps_vtTxWrite (v : Word) (s : State) :
    Keeps 0xa000000000000000000000000000000000000000000000000000000000000000000000000000000000000000 0 s (vtTxWrite v s) := by
  unfold vtTxWrite
  repeat' first
    | with_reducible first
        | apply Keeps.refl
    | (with_reducible apply Keeps.after (keeps_setReg ..) ?_ ?_ ?_) <;> [(first | rfl | (dsimp only; rfl)); rfl; skip]
    | (with_reducible apply Keeps.after (keeps_on ..) ?_ ?_ ?_) <;> [(first | rfl | (dsimp only; rfl)); rfl; skip]
    | split

theorem keeps_coreResume (c : ℕ) (s : State) :
    Keeps 0x2000000000000080000000000000020000000000000000000000000000000000000000000000000000000 0x20 s (coreResume c s) := by
  unfold coreResume
  repeat' first
    | with_reducible first
        | apply Keeps.refl
    | (with_reducible apply Keeps.after (keeps_wr ..) ?_ ?_ ?_) <;> [(first | rfl | (dsimp only; rfl) | (simp only [F.KP_CORE_STAT.RUN]; rfl)); rfl; skip]
    | (with_reducible apply Keeps.after (keeps_wrBit ..) ?_ ?_ ?_) <;> [(first | rfl | (dsimp only; rfl) | (simp only [F.KP_CORE_STAT.RUN]; rfl)); rfl; skip]
    | (with_reducible apply Keeps.after (keeps_evaluate ..) ?_ ?_ ?_) <;> [rfl; rfl; skip]
    | (with_reducible apply Keeps.after (keeps_wdtResume ..) ?_ ?_ ?_) <;> [rfl; rfl; skip]
    | split

theorem keeps_coreCtlWrite (v : Word) (s : State) :
    Keeps 0x3000000000000080000000000000020000000000000000000000000000000000000000000000000000000 0x100020 s (coreCtlWrite v s) := by
  unfold coreCtlWrite
  repeat' first
    | with_reducible first
        | apply Keeps.refl
        | apply Keeps.andThen (Keeps.foldl (fun t a => ?_)) ?_
    | (with_reducible apply Keeps.after (keeps_wr ..) ?_ ?_ ?_) <;> [(first | rfl | (dsimp only; rfl) | (simp only [F.KP_CORE_STAT.RUN]; rfl)); rfl; skip]
    | (with_reducible apply Keeps.after (keeps_wrBit ..) ?_ ?_ ?_) <;> [(first | rfl | (dsimp only; rfl) | (simp only [F.KP_CORE_STAT.RUN]; rfl)); rfl; skip]
    | (with_reducible apply Keeps.after (keeps_coreResume ..) ?_ ?_ ?_) <;> [rfl; rfl; skip]
    | simp (disch := first | exact Or.inl rfl | with_reducible exact Or.inr rfl | rfl) only [Keeps.upd]
    | split

theorem keeps_setCoreReg (c : ℕ) (space : ℕ) (num : ℕ) (v : BitVec 64) (s : State) :
    Keeps 0 0x8000 s (setCoreReg c space num v s) := by
  unfold setCoreReg
  repeat' first
    | with_reducible first
        | apply Keeps.refl
    | (with_reducible apply Keeps.after (keeps_setCore ..) ?_ ?_ ?_) <;> [rfl; rfl; skip]
    | split

theorem keeps_cregCmd (v : Word) (s : State) :
    Keeps 0x60000000000000000000000000000000000000000000000000000000000000000000000000000000000000 0x8000 s (cregCmd v s).2 := by
  unfold cregCmd
  repeat' first
    | with_reducible first
        | apply Keeps.refl
    | (with_reducible apply Keeps.after (keeps_wr ..) ?_ ?_ ?_) <;> [(first | rfl | (dsimp only; rfl)); rfl; skip]
    | (with_reducible apply Keeps.after (keeps_setCoreReg ..) ?_ ?_ ?_) <;> [rfl; rfl; skip]
    | split
    | dsimp only

theorem keeps_cregCmd_eq {v : Word} {s : State} {out} {t : State} (he : cregCmd v s = (out, t)) :
    Keeps 0x60000000000000000000000000000000000000000000000000000000000000000000000000000000000000 0x8000 s t := by
  have := keeps_cregCmd v s
  rwa [he] at this

theorem keeps_imgCtlWrite (v : Word) (s : State) :
    Keeps 0x20000000000000000000000000000000000000000000000000000000000000000000000000000000000000000 0x100000 s (imgCtlWrite v s) := by
  unfold imgCtlWrite
  repeat' first
    | with_reducible first
        | apply Keeps.refl
    | (with_reducible apply Keeps.after (keeps_wr ..) ?_ ?_ ?_) <;> [(first | rfl | (dsimp only; rfl)); rfl; skip]
    | simp (disch := first | exact Or.inl rfl | with_reducible exact Or.inr rfl | rfl) only [Keeps.upd]

theorem keeps_imgDataWrite (v : Word) (s : State) :
    Keeps 0x20000000000000000000000000000000000000000000000000000000000000000000000000000000000000000 0x100000 s (imgDataWrite v s) := by
  unfold imgDataWrite
  repeat' first
    | with_reducible first
        | apply Keeps.refl
    | (with_reducible apply Keeps.after (keeps_wr ..) ?_ ?_ ?_) <;> [(first | rfl | (dsimp only; rfl)); rfl; skip]
    | (with_reducible apply Keeps.after (keeps_on ..) ?_ ?_ ?_) <;> [(first | rfl | (dsimp only; rfl)); rfl; skip]
    | simp (disch := first | exact Or.inl rfl | with_reducible exact Or.inr rfl | rfl) only [Keeps.upd]
    | split

theorem keeps_plainWrite (r : RegName) (i : ℕ) (legal : ℕ → ℕ → Bool) (v : Word) (s : State) :
    Keeps (1 <<< r.ctorIdx) 0 s (plainWrite r i legal v s) := by
  unfold plainWrite
  repeat' first
    | with_reducible first
        | apply Keeps.refl
    | (with_reducible apply Keeps.after (keeps_setReg ..) ?_ ?_ ?_) <;> [(first | rfl | (dsimp only; rfl) | exact Nat.or_self _ | exact sub_left .. | exact sub_right .. | exact sub_into rfl | exact sub_both rfl); rfl; skip]

theorem keeps_engineHalt (e : ℕ) (s : State) :
    Keeps 0 0x800 s (engineHalt e s) := by
  unfold engineHalt
  repeat' first
    | with_reducible first
        | apply Keeps.refl
    | (with_reducible apply Keeps.after (keeps_setEng ..) ?_ ?_ ?_) <;> [rfl; rfl; skip]
    | split
    | dsimp only

theorem keeps_engineResume (e : ℕ) (s : State) :
    Keeps 0 0x800 s (engineResume e s) := by
  unfold engineResume
  repeat' first
    | with_reducible first
        | apply Keeps.refl
    | (with_reducible apply Keeps.after (keeps_setEng ..) ?_ ?_ ?_) <;> [rfl; rfl; skip]
    | (with_reducible apply Keeps.after (keeps_settle ..) ?_ ?_ ?_) <;> [rfl; rfl; skip]
    | (with_reducible apply Keeps.after (keeps_stopEngine ..) ?_ ?_ ?_) <;> [rfl; rfl; skip]
    | split
    | dsimp only

theorem keeps_engineStep (e : ℕ) (s : State) :
    Keeps 0 0x800 s (engineStep e s) := by
  unfold engineStep
  repeat' first
    | with_reducible first
        | apply Keeps.refl
    | (with_reducible apply Keeps.after (keeps_modEng ..) ?_ ?_ ?_) <;> [rfl; rfl; skip]
    | split

theorem keeps_tmbCtlWrite (v : Word) (s : State) :
    Keeps 0x200000000000000000000000000000000000000000000000000000000000000000000000000000000000000 0x800 s (tmbCtlWrite v s).2 := by
  unfold tmbCtlWrite
  repeat' first
    | with_reducible first
        | apply Keeps.refl
    | (with_reducible apply Keeps.after (keeps_wr ..) ?_ ?_ ?_) <;> [(first | rfl | (dsimp only; rfl)); rfl; skip]
    | (with_reducible apply Keeps.after (keeps_engineHalt ..) ?_ ?_ ?_) <;> [rfl; rfl; skip]
    | (with_reducible apply Keeps.after (keeps_engineResume ..) ?_ ?_ ?_) <;> [rfl; rfl; skip]
    | (with_reducible apply Keeps.after (keeps_engineStep ..) ?_ ?_ ?_) <;> [rfl; rfl; skip]
    | split
    | dsimp only

theorem keeps_tmbCtlWrite_eq {v : Word} {s : State} {out} {t : State} (he : tmbCtlWrite v s = (out, t)) :
    Keeps 0x200000000000000000000000000000000000000000000000000000000000000000000000000000000000000 0x800 s t := by
  have := keeps_tmbCtlWrite v s
  rwa [he] at this

theorem keeps_tregCmd (v : Word) (s : State) :
    Keeps 0x800000000000000000000000000000000000000000000000000000000000000000000000000000000000000 0x800 s (tregCmd v s).2 := by
  unfold tregCmd
  repeat' first
    | with_reducible first
        | apply Keeps.refl
    | (with_reducible apply Keeps.after (keeps_modEng ..) ?_ ?_ ?_) <;> [rfl; rfl; skip]
    | (with_reducible apply Keeps.after (keeps_setReg ..) ?_ ?_ ?_) <;> [(first | rfl | (dsimp only; rfl)); rfl; skip]
    | split
    | dsimp only

theorem keeps_tregCmd_eq {v : Word} {s : State} {out} {t : State} (he : tregCmd v s = (out, t)) :
    Keeps 0x800000000000000000000000000000000000000000000000000000000000000000000000000000000000000 0x800 s t := by
  have := keeps_tregCmd v s
  rwa [he] at this

theorem keeps_vtRxWrite (v : Word) (s : State) :
    Keeps 0xc000000000000000080000000000000000000000000000000000000000000000000000000000000000000000 0x21 s (vtRxWrite v s) := by
  unfold vtRxWrite
  repeat' first
    | with_reducible first
        | apply Keeps.refl
    | (with_reducible apply Keeps.after (keeps_setReg ..) ?_ ?_ ?_) <;> [(first | rfl | (dsimp only; rfl)); rfl; skip]
    | (with_reducible apply Keeps.after (keeps_on ..) ?_ ?_ ?_) <;> [(first | rfl | (dsimp only; rfl)); rfl; skip]
    | (with_reducible apply Keeps.after (keeps_raise ..) ?_ ?_ ?_) <;> [rfl; rfl; skip]
    | split

theorem keeps_khPut (off : Nat) (v : Word) (s : State) : Keeps 0x3ce73fc0000000000080000000000000020000000000000000000000000000000000000000000000000000000 0x108821 s (khPut off v s).2 := by
  unfold khPut
  dsimp only
  repeat' first
    | with_reducible apply Keeps.ite_snd
    | (with_reducible apply Keeps.mono (keeps_cregCmd ..) ?_ ?_) <;> rfl
    | (with_reducible apply Keeps.mono (keeps_tregCmd ..) ?_ ?_) <;> rfl
    | (with_reducible apply Keeps.mono (keeps_plainWrite ..) ?_ ?_) <;> rfl
    | (with_reducible apply Keeps.mono (keeps_setReg ..) ?_ ?_) <;> rfl
    | (with_reducible apply Keeps.mono (keeps_authWrite ..) ?_ ?_) <;> rfl
    | (with_reducible apply Keeps.mono (keeps_coreCtlWrite ..) ?_ ?_) <;> rfl
    | (with_reducible apply Keeps.mono (keeps_tmbCtlWrite ..) ?_ ?_) <;> rfl
    | (with_reducible apply Keeps.mono (keeps_vtRxWrite ..) ?_ ?_) <;> rfl
    | (with_reducible apply Keeps.mono (keeps_imgCtlWrite ..) ?_ ?_) <;> rfl
    | (with_reducible apply Keeps.mono (keeps_imgDataWrite ..) ?_ ?_) <;> rfl
    | with_reducible exact Keeps.refl s

theorem keeps_khPut_eq {off : Nat} {v : Word} {s : State} {out} {t : State} (h : khPut off v s = (out, t)) : Keeps 0x3ce73fc0000000000080000000000000020000000000000000000000000000000000000000000000000000000 0x108821 s t := by
  have := keeps_khPut off v s
  rwa [h] at this

theorem keeps_khDebug (off : ℕ) (v : Word) (s : State) :
    Keeps 0x3ce73fc0000000000080000000000000020000000000000000000000000000000000000000000000000000000 0x108821 s (khDebug off v s) := by
  unfold khDebug
  repeat' first
    | with_reducible first
        | apply Keeps.refl
        | apply Keeps.andThen (Keeps.guarded ?_) ?_
    | (with_reducible apply Keeps.after (keeps_khFault ..) ?_ ?_ ?_) <;> [rfl; rfl; skip]
    | (with_reducible apply Keeps.after (keeps_khPut ..) ?_ ?_ ?_) <;> [rfl; rfl; skip]
    | simp (disch := first | exact Or.inl rfl | with_reducible exact Or.inr rfl | rfl) only [Keeps.upd]
    | split

theorem keeps_coreHalt (c : ℕ) (pc : ℕ) (s : State) :
    Keeps 0x2000000000000080000000000000060000000000000000000000000000000000000000000000000000000 0x108021 s (coreHalt c pc s) := by
  unfold coreHalt
  repeat' first
    | with_reducible first
        | apply Keeps.refl
    | (with_reducible apply Keeps.after (keeps_wr ..) ?_ ?_ ?_) <;> [(first | rfl | (dsimp only; rfl) | (simp only [F.KP_CORE_STAT.RUN]; rfl)); rfl; skip]
    | (with_reducible apply Keeps.after (keeps_setCore ..) ?_ ?_ ?_) <;> [rfl; rfl; skip]
    | (with_reducible apply Keeps.after (keeps_wrBit ..) ?_ ?_ ?_) <;> [(first | rfl | (dsimp only; rfl) | (simp only [F.KP_CORE_STAT.RUN]; rfl)); rfl; skip]
    | (with_reducible apply Keeps.after (keeps_evaluate ..) ?_ ?_ ?_) <;> [rfl; rfl; skip]
    | (with_reducible apply Keeps.after (keeps_wdtPause ..) ?_ ?_ ?_) <;> [rfl; rfl; skip]
    | simp (disch := first | exact Or.inl rfl | with_reducible exact Or.inr rfl | rfl) only [Keeps.upd]
    | split

theorem keeps_khReply (r : KhReply) (s : State) :
    Keeps 0 0x100000 s (khReply r s) := by
  unfold khReply
  repeat' first
    | with_reducible first
        | apply Keeps.refl
    | simp (disch := first | exact Or.inl rfl | with_reducible exact Or.inr rfl | rfl) only [Keeps.upd]

theorem keeps_dropFrame (s : State) :
    Keeps 0 0x100000 s (dropFrame s) := by
  unfold dropFrame
  repeat' first
    | with_reducible first
        | apply Keeps.refl
    | simp (disch := first | exact Or.inl rfl | with_reducible exact Or.inr rfl | rfl) only [Keeps.upd]

theorem keeps_endSession (s : State) :
    Keeps 0x40000000000000000000000000000000000000000000000000000000000000000000000000000000000 0x100000 s (endSession s) := by
  unfold endSession
  repeat' first
    | with_reducible first
        | apply Keeps.refl
    | (with_reducible apply Keeps.after (keeps_wr ..) ?_ ?_ ?_) <;> [(first | rfl | (dsimp only; rfl)); rfl; skip]
    | (with_reducible apply Keeps.after (keeps_off ..) ?_ ?_ ?_) <;> [(first | rfl | (dsimp only; rfl)); rfl; skip]
    | simp (disch := first | exact Or.inl rfl | with_reducible exact Or.inr rfl | rfl) only [Keeps.upd]

theorem keeps_execAuth (v : Word) (s : State) :
    KeepsO 0x3ce73fc0000000000080000000000000020000000000000000000000000000000000000000000000000000000 0x108821 s (execAuth v s) := by
  unfold execAuth
  repeat' first
    | with_reducible first
        | apply KeepsO.done
        | apply Keeps.refl
    | (with_reducible apply Keeps.after (keeps_khDebug ..) ?_ ?_ ?_) <;> [rfl; rfl; skip]

theorem keeps_execCoreHalt (c : Fin 4) (pc : BitVec 64) (s : State) :
    KeepsO 0x2000000000000080000000000000060000000000000000000000000000000000000000000000000000000 0x108021 s (execCoreHalt c pc s) := by
  unfold execCoreHalt
  repeat' first
    | with_reducible first
        | apply KeepsO.done
        | apply Keeps.refl
        | apply Keeps.andThen (Keeps.guarded ?_) ?_
    | (with_reducible apply Keeps.after (keeps_coreHalt ..) ?_ ?_ ?_) <;> [rfl; rfl; skip]

theorem keeps_execCoreResume (c : Fin 4) (s : State) :
    KeepsO 0x3ce73fc0000000000080000000000000020000000000000000000000000000000000000000000000000000000 0x108821 s (execCoreResume c s) := by
  unfold execCoreResume
  repeat' first
    | with_reducible first
        | apply KeepsO.done
        | apply Keeps.refl
    | (with_reducible apply Keeps.after (keeps_khDebug ..) ?_ ?_ ?_) <;> [rfl; rfl; skip]

theorem keeps_execCoreStep (c : Fin 4) (pc : BitVec 64) (rd : Option (Fin 32 × BitVec 64)) (s : State) :
    KeepsO 0x2000000000000000000000000000000000000000000000000000000000000000000000000000000000000 0x8000 s (execCoreStep c pc rd s) := by
  unfold execCoreStep
  repeat' first
    | with_reducible first
        | apply KeepsO.done
        | apply Keeps.refl
        | apply Keeps.andThen (Keeps.guarded ?_) ?_
    | (with_reducible apply Keeps.after (keeps_setCore ..) ?_ ?_ ?_) <;> [rfl; rfl; skip]
    | (with_reducible apply Keeps.after (keeps_wrBit ..) ?_ ?_ ?_) <;> [(first | rfl | (dsimp only; rfl)); rfl; skip]
    | (with_reducible apply Keeps.after (keeps_setCoreReg ..) ?_ ?_ ?_) <;> [rfl; rfl; skip]
    | split

theorem keeps_execCregRead (sel : Word) (s : State) :
    KeepsO 0x3ce73fc0000000000080000000000000020000000000000000000000000000000000000000000000000000000 0x108821 s (execCregRead sel s) := by
  unfold execCregRead
  repeat' first
    | with_reducible first
        | apply KeepsO.done
        | apply Keeps.refl
    | (with_reducible apply Keeps.after (keeps_khDebug ..) ?_ ?_ ?_) <;> [rfl; rfl; skip]

theorem keeps_execCregWrite (sel : Word) (v : BitVec 64) (s : State) :
    KeepsO 0x3ce73fc0000000000080000000000000020000000000000000000000000000000000000000000000000000000 0x108821 s (execCregWrite sel v s) := by
  unfold execCregWrite
  repeat' first
    | with_reducible first
        | apply KeepsO.done
        | apply Keeps.refl
    | (with_reducible apply Keeps.after (keeps_khDebug ..) ?_ ?_ ?_) <;> [rfl; rfl; skip]

theorem keeps_khAnswer (code : ℕ) (r : KhReply) (s : State) :
    Keeps 0x80000000000000000000000000000000000000000000000000000000000000000000000000000000000 0x100000 s (khAnswer code r s) := by
  unfold khAnswer
  repeat' first
    | with_reducible first
        | apply Keeps.refl
    | (with_reducible apply Keeps.after (keeps_khFault ..) ?_ ?_ ?_) <;> [rfl; rfl; skip]
    | (with_reducible apply Keeps.after (keeps_khReply ..) ?_ ?_ ?_) <;> [rfl; rfl; skip]
    | split

theorem keeps_execEbreakHalt (c : Fin 4) (pc : BitVec 64) (s : State) :
    KeepsO 0x2000000000000080000000000000060000000000000000000000000000000000000000000000000000000 0x108021 s (execEbreakHalt c pc s) := by
  unfold execEbreakHalt
  repeat' first
    | with_reducible first
        | apply KeepsO.done
        | apply Keeps.refl
        | apply Keeps.andThen (Keeps.guarded ?_) ?_
    | (with_reducible apply Keeps.after (keeps_coreHalt ..) ?_ ?_ ?_) <;> [rfl; rfl; skip]

theorem keeps_execEngineHalt (e : Fin 512) (s : State) :
    KeepsO 0x3ce73fc0000000000080000000000000020000000000000000000000000000000000000000000000000000000 0x108821 s (execEngineHalt e s) := by
  unfold execEngineHalt
  repeat' first
    | with_reducible first
        | apply KeepsO.done
        | apply Keeps.refl
    | (with_reducible apply Keeps.after (keeps_khDebug ..) ?_ ?_ ?_) <;> [rfl; rfl; skip]

theorem keeps_execEngineResume (e : Fin 512) (s : State) :
    KeepsO 0x3ce73fc0000000000080000000000000020000000000000000000000000000000000000000000000000000000 0x108821 s (execEngineResume e s) := by
  unfold execEngineResume
  repeat' first
    | with_reducible first
        | apply KeepsO.done
        | apply Keeps.refl
    | (with_reducible apply Keeps.after (keeps_khDebug ..) ?_ ?_ ?_) <;> [rfl; rfl; skip]

theorem keeps_execEngineStep (e : Fin 512) (s : State) :
    KeepsO 0x3ce73fc0000000000080000000000000020000000000000000000000000000000000000000000000000000000 0x108821 s (execEngineStep e s) := by
  unfold execEngineStep
  repeat' first
    | with_reducible first
        | apply KeepsO.done
        | apply Keeps.refl
    | (with_reducible apply Keeps.after (keeps_khDebug ..) ?_ ?_ ?_) <;> [rfl; rfl; skip]

theorem keeps_frameError (s : State) :
    Keeps 0x80000000000000000000000000000000000000000000000000000000000000000000000000000000000 0x100000 s (frameError s) := by
  unfold frameError
  repeat' first
    | with_reducible first
        | apply Keeps.refl
    | (with_reducible apply Keeps.after (keeps_on ..) ?_ ?_ ?_) <;> [(first | rfl | (dsimp only; rfl)); rfl; skip]
    | (with_reducible apply Keeps.after (keeps_dropFrame ..) ?_ ?_ ?_) <;> [rfl; rfl; skip]

theorem keeps_execFrameGapTimeout (s : State) :
    KeepsO 0x80000000000000000000000000000000000000000000000000000000000000000000000000000000000 0x100000 s (execFrameGapTimeout s) := by
  unfold execFrameGapTimeout
  repeat' first
    | with_reducible first
        | apply KeepsO.done
        | apply Keeps.refl
        | apply Keeps.andThen (Keeps.guarded ?_) ?_
    | (with_reducible apply Keeps.after (keeps_frameError ..) ?_ ?_ ?_) <;> [rfl; rfl; skip]

theorem keeps_frameIn (bits : List Bool) (s : State) :
    Keeps 0x80000000000000000000000000000000000000000000000000000000000000000000000000000000000 0x100000 s (frameIn bits s) := by
  unfold frameIn
  repeat' first
    | with_reducible first
        | apply Keeps.refl
    | (with_reducible apply Keeps.after (keeps_khAnswer ..) ?_ ?_ ?_) <;> [rfl; rfl; skip]
    | simp (disch := first | exact Or.inl rfl | with_reducible exact Or.inr rfl | rfl) only [Keeps.upd]
    | split

theorem keeps_khBit (b : Bool) (s : State) :
    Keeps 0x80000000000000000000000000000000000000000000000000000000000000000000000000000000000 0x100000 s (khBit b s) := by
  unfold khBit
  repeat' first
    | with_reducible first
        | apply Keeps.refl
    | (with_reducible apply Keeps.after (keeps_frameIn ..) ?_ ?_ ?_) <;> [rfl; rfl; skip]
    | simp (disch := first | exact Or.inl rfl | with_reducible exact Or.inr rfl | rfl) only [Keeps.upd]
    | split

theorem keeps_khRelease (s : State) :
    Keeps 0x8000000000000000000000000000000000000000000000000000000000000000000000001 0x100010 s (khRelease s) := by
  unfold khRelease
  repeat' first
    | with_reducible first
        | apply Keeps.refl
    | (with_reducible apply Keeps.after (keeps_startAttempt ..) ?_ ?_ ?_) <;> [rfl; rfl; skip]
    | simp (disch := first | exact Or.inl rfl | with_reducible exact Or.inr rfl | rfl) only [Keeps.upd]
    | split

theorem keeps_khReset (s : State) :
    Keeps allRegs 0x1fffff s (khReset s) := by
  unfold khReset
  repeat' first
    | with_reducible first
        | apply Keeps.refl
    | (with_reducible apply Keeps.after (keeps_deviceResetHeld ..) ?_ ?_ ?_) <;> [rfl; rfl; skip]
    | simp (disch := first | exact Or.inl rfl | with_reducible exact Or.inr rfl | rfl) only [Keeps.upd]

theorem keeps_execKeyholeLow (w : ℕ) (s : State) :
    KeepsO allRegs 0x1fffff s (execKeyholeLow w s) := by
  unfold execKeyholeLow
  repeat' first
    | with_reducible first
        | apply KeepsO.done
        | apply Keeps.refl
        | apply Keeps.andThen (Keeps.guarded ?_) ?_
    | (with_reducible apply Keeps.after (keeps_dropFrame ..) ?_ ?_ ?_) <;> [rfl; rfl; skip]
    | (with_reducible apply Keeps.after (keeps_endSession ..) ?_ ?_ ?_) <;> [rfl; rfl; skip]
    | (with_reducible apply Keeps.after (keeps_frameError ..) ?_ ?_ ?_) <;> [rfl; rfl; skip]
    | (with_reducible apply Keeps.after (keeps_khBit ..) ?_ ?_ ?_) <;> [rfl; rfl; skip]
    | (with_reducible apply Keeps.after (keeps_khRelease ..) ?_ ?_ ?_) <;> [rfl; rfl; skip]
    | (with_reducible apply Keeps.after (keeps_khReset ..) ?_ ?_ ?_) <;> [rfl; rfl; skip]
    | simp (disch := first | exact Or.inl rfl | with_reducible exact Or.inr rfl | rfl) only [Keeps.upd]
    | split

theorem keeps_execKeyholeRelease (s : State) :
    KeepsO 0x8000000000000000000000000000000000000000000000000000000000000000000000001 0x100010 s (execKeyholeRelease s) := by
  unfold execKeyholeRelease
  repeat' first
    | with_reducible first
        | apply KeepsO.done
        | apply Keeps.refl
        | apply Keeps.andThen (Keeps.guarded ?_) ?_
    | (with_reducible apply Keeps.after (keeps_khRelease ..) ?_ ?_ ?_) <;> [rfl; rfl; skip]

theorem keeps_execKeyholeReset (s : State) :
    KeepsO allRegs 0x1fffff s (execKeyholeReset s) := by
  unfold execKeyholeReset
  repeat' first
    | with_reducible first
        | apply KeepsO.done
        | apply Keeps.refl
        | apply Keeps.andThen (Keeps.guarded ?_) ?_
    | (with_reducible apply Keeps.after (keeps_khReset ..) ?_ ?_ ?_) <;> [rfl; rfl; skip]

theorem keeps_execKhImgData (v : Word) (s : State) :
    KeepsO 0x3ce73fc0000000000080000000000000020000000000000000000000000000000000000000000000000000000 0x108821 s (execKhImgData v s) := by
  unfold execKhImgData
  repeat' first
    | with_reducible first
        | apply KeepsO.done
        | apply Keeps.refl
    | (with_reducible apply Keeps.after (keeps_khDebug ..) ?_ ?_ ?_) <;> [rfl; rfl; skip]

theorem keeps_execSessionEntry (s : State) :
    KeepsO 0xa40000000000000000000000000000000000000000000000000000000000000000000000000000000000 0x100001 s (execSessionEntry s) := by
  unfold execSessionEntry
  repeat' first
    | with_reducible first
        | apply KeepsO.done
        | apply Keeps.refl
        | apply Keeps.andThen (Keeps.guarded ?_) ?_
    | (with_reducible apply Keeps.after (keeps_wr ..) ?_ ?_ ?_) <;> [(first | rfl | (dsimp only; rfl)); rfl; skip]
    | (with_reducible apply Keeps.after (keeps_off ..) ?_ ?_ ?_) <;> [(first | rfl | (dsimp only; rfl)); rfl; skip]
    | (with_reducible apply Keeps.after (keeps_on ..) ?_ ?_ ?_) <;> [(first | rfl | (dsimp only; rfl)); rfl; skip]
    | (with_reducible apply Keeps.after (keeps_drawChallenge ..) ?_ ?_ ?_) <;> [rfl; rfl; skip]
    | simp (disch := first | exact Or.inl rfl | with_reducible exact Or.inr rfl | rfl) only [Keeps.upd]
    | split

theorem keeps_sendBit (b : Bool) (rest : List Bool) (s : State) :
    Keeps 0 0x100008 s (sendBit b rest s) := by
  unfold sendBit
  repeat' first
    | with_reducible first
        | apply Keeps.refl
    | simp (disch := first | exact Or.inl rfl | with_reducible exact Or.inr rfl | rfl) only [Keeps.upd]

theorem keeps_execTargetSlot (s : State) :
    KeepsO 0x80000000000000000000000000000000000000000000000000000000000000000000000000000000000 0x100008 s (execTargetSlot s) := by
  unfold execTargetSlot
  repeat' first
    | with_reducible first
        | apply KeepsO.done
        | apply Keeps.refl
    | (with_reducible apply Keeps.after (keeps_ackBits_eq (by assumption)) ?_ ?_ ?_) <;> [rfl; rfl; skip]
    | (with_reducible apply Keeps.after (keeps_sendBit ..) ?_ ?_ ?_) <;> [rfl; rfl; skip]
    | simp (disch := first | exact Or.inl rfl | with_reducible exact Or.inr rfl | rfl) only [Keeps.upd]
    | split

theorem keeps_execTregRead (sel : Word) (s : State) :
    KeepsO 0x3ce73fc0000000000080000000000000020000000000000000000000000000000000000000000000000000000 0x108821 s (execTregRead sel s) := by
  unfold execTregRead
  repeat' first
    | with_reducible first
        | apply KeepsO.done
        | apply Keeps.refl
    | (with_reducible apply Keeps.after (keeps_khDebug ..) ?_ ?_ ?_) <;> [rfl; rfl; skip]

theorem keeps_execTregWrite (sel : Word) (v : Word) (s : State) :
    KeepsO 0x3ce73fc0000000000080000000000000020000000000000000000000000000000000000000000000000000000 0x108821 s (execTregWrite sel v s) := by
  unfold execTregWrite
  repeat' first
    | with_reducible first
        | apply KeepsO.done
        | apply Keeps.refl
    | (with_reducible apply Keeps.after (keeps_khDebug ..) ?_ ?_ ?_) <;> [rfl; rfl; skip]

theorem keeps_execVtRxRead (s : State) :
    KeepsO 0x8000000000000000000000000000000000000000000000000000000000000000000000000000000000000000 0x4 s (execVtRxRead s) := by
  unfold execVtRxRead
  repeat' first
    | with_reducible first
        | apply KeepsO.done
        | apply Keeps.refl
    | (with_reducible apply Keeps.after (keeps_vtRxRead ..) ?_ ?_ ?_) <;> [rfl; rfl; skip]
    | simp (disch := first | exact Or.inl rfl | with_reducible exact Or.inr rfl | rfl) only [Keeps.upd]

theorem keeps_execVtRxWrite (v : Word) (s : State) :
    KeepsO 0x3ce73fc0000000000080000000000000020000000000000000000000000000000000000000000000000000000 0x108821 s (execVtRxWrite v s) := by
  unfold execVtRxWrite
  repeat' first
    | with_reducible first
        | apply KeepsO.done
        | apply Keeps.refl
    | (with_reducible apply Keeps.after (keeps_khDebug ..) ?_ ?_ ?_) <;> [rfl; rfl; skip]

theorem keeps_execVtTxRead (s : State) :
    KeepsO 0x8000080000000000080000000000000000000000000000000000000000000000000000000000000000000000 0x25 s (execVtTxRead s) := by
  unfold execVtTxRead
  repeat' first
    | with_reducible first
        | apply KeepsO.done
        | apply Keeps.refl
        | apply Keeps.andThen (Keeps.guarded ?_) ?_
    | (with_reducible apply Keeps.after (keeps_khFault ..) ?_ ?_ ?_) <;> [rfl; rfl; skip]
    | (with_reducible apply Keeps.after (keeps_vtTxRead ..) ?_ ?_ ?_) <;> [rfl; rfl; skip]
    | simp (disch := first | exact Or.inl rfl | with_reducible exact Or.inr rfl | rfl) only [Keeps.upd]
    | split

theorem keeps_execVtTxWrite (v : Word) (s : State) :
    KeepsO 0xa000000000000000000000000000000000000000000000000000000000000000000000000000000000000000 0 s (execVtTxWrite v s) := by
  unfold execVtTxWrite
  repeat' first
    | with_reducible first
        | apply KeepsO.done
        | apply Keeps.refl
    | (with_reducible apply Keeps.after (keeps_vtTxWrite ..) ?_ ?_ ?_) <;> [rfl; rfl; skip]

end Sys2Proof.Machine
end

