-- ==== Sys2Proof/Laws/KeepsLinks.lean ====
section
/-! SUPPORT. The frames of the operations of Machine/Links.lean: what each can change, and that it keeps the stores canonical. -/

namespace Sys2Proof.Machine
open Sys2Proof

theorem keeps_setHead (s : State) (n : ℕ) (r : HeadRec) :
    Keeps 0 0x1000 s (State.setHead s n r) := by
  unfold State.setHead
  repeat' first
    | with_reducible first
        | apply Keeps.refl
    | simp (disch := first | exact Or.inl rfl | with_reducible exact Or.inr rfl | rfl) only [Keeps.upd]

theorem keeps_applyOverride (n : ℕ) (s : State) (g : ℕ) :
    Keeps 0xe0400000000000000000000000000000002000000000000000000000000000 0x1000 s (applyOverride n s g) := by
  unfold applyOverride
  repeat' first
    | with_reducible first
        | apply Keeps.refl
    | (with_reducible apply Keeps.after (keeps_wr ..) ?_ ?_ ?_) <;> [(first | rfl | (dsimp only; rfl)); rfl; skip]
    | (with_reducible apply Keeps.after (keeps_on ..) ?_ ?_ ?_) <;> [(first | rfl | (dsimp only; rfl)); rfl; skip]
    | (with_reducible apply Keeps.after (keeps_satAdd ..) ?_ ?_ ?_) <;> [(first | rfl | (dsimp only; rfl)); rfl; skip]
    | (with_reducible apply Keeps.after (keeps_wardLog ..) ?_ ?_ ?_) <;> [rfl; rfl; skip]
    | simp (disch := first | exact Or.inl rfl | with_reducible exact Or.inr rfl | rfl) only [Keeps.upd]
    | split

theorem keeps_headCause (cause : Fld) (enable : Fld) (n : ℕ) (s : State) :
    Keeps (1 <<< cause.reg.ctorIdx ||| 0x80000000000000000000000000000000000000000000000000000000000000000000000) 0x21 s (headCause cause enable n s) := by
  unfold headCause
  repeat' first
    | with_reducible first
        | apply Keeps.refl
    | (with_reducible apply Keeps.after (keeps_raiseCause ..) ?_ ?_ ?_) <;> [(first | rfl | (dsimp only; rfl) | exact Nat.or_self _ | exact sub_left .. | exact sub_right .. | exact sub_into rfl | exact sub_both rfl); rfl; skip]

theorem keeps_retireLane (n : ℕ) (g : ℕ) (s : State) :
    Keeps 0x80000000000000000000000000000000000000000000a00800000000000000000000000 0x1021 s (retireLane n g s) := by
  unfold retireLane
  repeat' first
    | with_reducible first
        | apply Keeps.refl
    | (with_reducible apply Keeps.after (keeps_on ..) ?_ ?_ ?_) <;> [(first | rfl | (dsimp only; rfl)); rfl; skip]
    | (with_reducible apply Keeps.after (keeps_wrBit ..) ?_ ?_ ?_) <;> [(first | rfl | (dsimp only; rfl)); rfl; skip]
    | (with_reducible apply Keeps.after (keeps_headCause ..) ?_ ?_ ?_) <;> [(first | rfl | (dsimp only; rfl)); rfl; skip]
    | simp (disch := first | exact Or.inl rfl | with_reducible exact Or.inr rfl | rfl) only [Keeps.upd]

theorem keeps_chargeLane (n : ℕ) (g : ℕ) (s : State) :
    Keeps 0x80000000000000000000000000000000000000000000a00800000000000000000000000 0x1021 s (chargeLane n g s) := by
  unfold chargeLane
  repeat' first
    | with_reducible first
        | apply Keeps.refl
    | (with_reducible apply Keeps.after (keeps_retireLane ..) ?_ ?_ ?_) <;> [rfl; rfl; skip]
    | simp (disch := first | exact Or.inl rfl | with_reducible exact Or.inr rfl | rfl) only [Keeps.upd]
    | split

theorem keeps_chargeLanes (n : ℕ) (success : Bool) (s : State) :
    Keeps 0x80000000000000000000000000000000000000000000a00800000000000000000000000 0x1021 s (chargeLanes n success s) := by
  unfold chargeLanes
  repeat' first
    | with_reducible first
        | apply Keeps.refl
        | apply Keeps.andThen (Keeps.foldl (fun t a => ?_)) ?_
    | (with_reducible apply Keeps.after (keeps_chargeLane ..) ?_ ?_ ?_) <;> [rfl; rfl; skip]

theorem keeps_downIf (b : Bool) (n : ℕ) (s : State) :
    Keeps 0x80000000000000000000000000000000000000000000200000000000000000000000000 0x21 s (downIf b n s) := by
  unfold downIf
  repeat' first
    | with_reducible first
        | apply Keeps.refl
    | (with_reducible apply Keeps.after (keeps_headCause ..) ?_ ?_ ?_) <;> [(first | rfl | (dsimp only; rfl)); rfl; skip]
    | split

theorem keeps_setCtl (n : ℕ) (st : ℕ) (s : State) :
    Keeps 0x8000000000000000000000000 0 s (setCtl n st s) := by
  unfold setCtl
  repeat' first
    | with_reducible first
        | apply Keeps.refl
    | (with_reducible apply Keeps.after (keeps_wr ..) ?_ ?_ ?_) <;> [(first | rfl | (dsimp only; rfl)); rfl; skip]

theorem keeps_setLtssm (n : ℕ) (st : ℕ) (s : State) :
    Keeps 0x8000000000000000000000000 0 s (setLtssm n st s) := by
  unfold setLtssm
  repeat' first
    | with_reducible first
        | apply Keeps.refl
    | (with_reducible apply Keeps.after (keeps_wr ..) ?_ ?_ ?_) <;> [(first | rfl | (dsimp only; rfl)); rfl; skip]

theorem keeps_linkGone (n : ℕ) (st : ℕ) (s : State) :
    Keeps 0x300000480000000000000000000000000000082410000f2000880800000000000000001c000000 0x270a1 s (linkGone n st s) := by
  unfold linkGone
  repeat' first
    | with_reducible first
        | apply Keeps.refl
        | apply Keeps.andThen (Keeps.foldl (fun t a => ?_)) ?_
    | (with_reducible apply Keeps.after (keeps_wr ..) ?_ ?_ ?_) <;> [(first | rfl | (dsimp only; rfl)); rfl; skip]
    | (with_reducible apply Keeps.after (keeps_off ..) ?_ ?_ ?_) <;> [(first | rfl | (dsimp only; rfl)); rfl; skip]
    | (with_reducible apply Keeps.after (keeps_setHead ..) ?_ ?_ ?_) <;> [rfl; rfl; skip]
    | (with_reducible apply Keeps.after (keeps_walks ..) ?_ ?_ ?_) <;> [rfl; rfl; skip]
    | (with_reducible apply Keeps.after (keeps_failSnoopsOf ..) ?_ ?_ ?_) <;> [rfl; rfl; skip]
    | (with_reducible apply Keeps.after (keeps_setCtl ..) ?_ ?_ ?_) <;> [rfl; rfl; skip]
    | (with_reducible apply Keeps.after (keeps_setLtssm ..) ?_ ?_ ?_) <;> [rfl; rfl; skip]

theorem keeps_attemptFail (n : ℕ) (s : State) :
    Keeps 0x300000480000000000000000000000000000082410000f20008a1880000000000000001c000000 0x270a1 s (attemptFail n s) := by
  unfold attemptFail
  repeat' first
    | with_reducible first
        | apply Keeps.refl
    | (with_reducible apply Keeps.after (keeps_wr ..) ?_ ?_ ?_) <;> [(first | rfl | (dsimp only; rfl)); rfl; skip]
    | (with_reducible apply Keeps.after (keeps_satAdd ..) ?_ ?_ ?_) <;> [(first | rfl | (dsimp only; rfl)); rfl; skip]
    | (with_reducible apply Keeps.after (keeps_setHead ..) ?_ ?_ ?_) <;> [rfl; rfl; skip]
    | (with_reducible apply Keeps.after (keeps_chargeLanes ..) ?_ ?_ ?_) <;> [rfl; rfl; skip]
    | (with_reducible apply Keeps.after (keeps_downIf ..) ?_ ?_ ?_) <;> [rfl; rfl; skip]
    | (with_reducible apply Keeps.after (keeps_linkGone ..) ?_ ?_ ?_) <;> [rfl; rfl; skip]

theorem keeps_attemptStart (n : ℕ) (fromRec : Bool) (stage1 : List ℕ) (s : State) :
    Keeps 0xe0400000000000000000000000000000002810000000000000000000000000 0x1000 s (attemptStart n fromRec stage1 s) := by
  unfold attemptStart
  repeat' first
    | with_reducible first
        | apply Keeps.refl
        | apply Keeps.andThen (Keeps.foldl (fun t a => ?_)) ?_
    | (with_reducible apply Keeps.after (keeps_wr ..) ?_ ?_ ?_) <;> [(first | rfl | (dsimp only; rfl)); rfl; skip]
    | (with_reducible apply Keeps.after (keeps_satAdd ..) ?_ ?_ ?_) <;> [(first | rfl | (dsimp only; rfl)); rfl; skip]
    | (with_reducible apply Keeps.after (keeps_setHead ..) ?_ ?_ ?_) <;> [rfl; rfl; skip]
    | (with_reducible apply Keeps.after (keeps_applyOverride ..) ?_ ?_ ?_) <;> [rfl; rfl; skip]

theorem keeps_leaveLoopback (n : ℕ) (s : State) :
    Keeps 0x8008000000000000000000000000 0 s (leaveLoopback n s) := by
  unfold leaveLoopback
  repeat' first
    | with_reducible first
        | apply Keeps.refl
        | apply Keeps.andThen (Keeps.foldl (fun t a => ?_)) ?_
    | (with_reducible apply Keeps.after (keeps_off ..) ?_ ?_ ?_) <;> [(first | rfl | (dsimp only; rfl)); rfl; skip]
    | (with_reducible apply Keeps.after (keeps_setCtl ..) ?_ ?_ ?_) <;> [rfl; rfl; skip]
    | (with_reducible apply Keeps.after (keeps_setLtssm ..) ?_ ?_ ?_) <;> [rfl; rfl; skip]

theorem keeps_upToDetect (n : ℕ) (down : Bool) (s : State) :
    Keeps 0x300000480000000000000000000000000000082410000f20008a0800000000000000001c000000 0x270a1 s (upToDetect n down s) := by
  unfold upToDetect
  repeat' first
    | with_reducible first
        | apply Keeps.refl
    | (with_reducible apply Keeps.after (keeps_downIf ..) ?_ ?_ ?_) <;> [rfl; rfl; skip]
    | (with_reducible apply Keeps.after (keeps_linkGone ..) ?_ ?_ ?_) <;> [rfl; rfl; skip]

theorem keeps_hctlRedetect (n : ℕ) (s : State) :
    Keeps 0x300000480000000000000000000000000000082410000f20008a1880000000000000001c000000 0x270a1 s (hctlRedetect n s) := by
  unfold hctlRedetect
  repeat' first
    | with_reducible first
        | apply Keeps.refl
    | (with_reducible apply Keeps.after (keeps_attemptFail ..) ?_ ?_ ?_) <;> [rfl; rfl; skip]
    | (with_reducible apply Keeps.after (keeps_leaveLoopback ..) ?_ ?_ ?_) <;> [rfl; rfl; skip]
    | (with_reducible apply Keeps.after (keeps_upToDetect ..) ?_ ?_ ?_) <;> [rfl; rfl; skip]
    | split

theorem keeps_countRecovery (n : ℕ) (s : State) :
    Keeps 0x80000000000000000000000000000000000000000000220000000000000000000000000 0x1021 s (countRecovery n s) := by
  unfold countRecovery
  repeat' first
    | with_reducible first
        | apply Keeps.refl
    | (with_reducible apply Keeps.after (keeps_satAdd ..) ?_ ?_ ?_) <;> [(first | rfl | (dsimp only; rfl)); rfl; skip]
    | (with_reducible apply Keeps.after (keeps_setHead ..) ?_ ?_ ?_) <;> [rfl; rfl; skip]
    | (with_reducible apply Keeps.after (keeps_headCause ..) ?_ ?_ ?_) <;> [(first | rfl | (dsimp only; rfl)); rfl; skip]
    | split
    | dsimp only

theorem keeps_enterRecovery (n : ℕ) (counted : Bool) (equalise : Bool) (s : State) :
    Keeps 0x4800000000e0400000000000000000000000000000002a38000000000000000000000000 0x1021 s (enterRecovery n counted equalise s) := by
  unfold enterRecovery
  repeat' first
    | with_reducible first
        | apply Keeps.refl
    | (with_reducible apply Keeps.after (keeps_off ..) ?_ ?_ ?_) <;> [(first | rfl | (dsimp only; rfl)); rfl; skip]
    | (with_reducible apply Keeps.after (keeps_setCtl ..) ?_ ?_ ?_) <;> [rfl; rfl; skip]
    | (with_reducible apply Keeps.after (keeps_setLtssm ..) ?_ ?_ ?_) <;> [rfl; rfl; skip]
    | (with_reducible apply Keeps.after (keeps_attemptStart ..) ?_ ?_ ?_) <;> [rfl; rfl; skip]
    | (with_reducible apply Keeps.after (keeps_countRecovery ..) ?_ ?_ ?_) <;> [rfl; rfl; skip]
    | split

theorem keeps_hctlRetrain (n : ℕ) (s : State) :
    Keeps 0x4800000000e0400000000000000000000000000000002a38000000000000000000000000 0x1021 s (hctlRetrain n s) := by
  unfold hctlRetrain
  repeat' first
    | with_reducible first
        | apply Keeps.refl
    | (with_reducible apply Keeps.after (keeps_enterRecovery ..) ?_ ?_ ?_) <;> [rfl; rfl; skip]
    | split

theorem keeps_headRelease (n : ℕ) (s : State) :
    Keeps 0x8000000000000000000000000 0 s (headRelease n s) := by
  unfold headRelease
  repeat' first
    | with_reducible first
        | apply Keeps.refl
    | (with_reducible apply Keeps.after (keeps_setCtl ..) ?_ ?_ ?_) <;> [rfl; rfl; skip]
    | (with_reducible apply Keeps.after (keeps_setLtssm ..) ?_ ?_ ?_) <;> [rfl; rfl; skip]

theorem keeps_holdWrite (n : ℕ) (hold : Bool) (s : State) :
    Keeps 0x300000480000000000000000000000000000082410000f20008a0a00000000000000001c000000 0x270a1 s (holdWrite n hold s) := by
  unfold holdWrite
  repeat' first
    | with_reducible first
        | apply Keeps.refl
    | (with_reducible apply Keeps.after (keeps_off ..) ?_ ?_ ?_) <;> [(first | rfl | (dsimp only; rfl)); rfl; skip]
    | (with_reducible apply Keeps.after (keeps_on ..) ?_ ?_ ?_) <;> [(first | rfl | (dsimp only; rfl)); rfl; skip]
    | (with_reducible apply Keeps.after (keeps_downIf ..) ?_ ?_ ?_) <;> [rfl; rfl; skip]
    | (with_reducible apply Keeps.after (keeps_linkGone ..) ?_ ?_ ?_) <;> [rfl; rfl; skip]
    | (with_reducible apply Keeps.after (keeps_headRelease ..) ?_ ?_ ?_) <;> [rfl; rfl; skip]
    | split

theorem keeps_hctlWrite (n : ℕ) (v : Word) (s : State) :
    Keeps 0x3000004800000000e0400000000000000000082410000f2000aa3a80000000000000001c000000 0x270a1 s (hctlWrite n v s) := by
  unfold hctlWrite
  repeat' first
    | with_reducible first
        | apply Keeps.refl
    | (with_reducible apply Keeps.after (keeps_wr ..) ?_ ?_ ?_) <;> [(first | rfl | (dsimp only; rfl)); rfl; skip]
    | (with_reducible apply Keeps.after (keeps_hctlRedetect ..) ?_ ?_ ?_) <;> [rfl; rfl; skip]
    | (with_reducible apply Keeps.after (keeps_hctlRetrain ..) ?_ ?_ ?_) <;> [rfl; rfl; skip]
    | (with_reducible apply Keeps.after (keeps_holdWrite ..) ?_ ?_ ?_) <;> [rfl; rfl; skip]
    | split

theorem keeps_llbWrite (g : ℕ) (v : Word) (s : State) :
    Keeps 0x8000000000000000000000000000 0 s (llbWrite g v s) := by
  unfold llbWrite
  repeat' first
    | with_reducible first
        | apply Keeps.refl
    | (with_reducible apply Keeps.after (keeps_wr ..) ?_ ?_ ?_) <;> [(first | rfl | (dsimp only; rfl)); rfl; skip]
    | (with_reducible apply Keeps.after (keeps_off ..) ?_ ?_ ?_) <;> [(first | rfl | (dsimp only; rfl)); rfl; skip]
    | (with_reducible apply Keeps.after (keeps_on ..) ?_ ?_ ?_) <;> [(first | rfl | (dsimp only; rfl)); rfl; skip]
    | split
    | dsimp only

theorem keeps_setPll (p : ℕ) (h : ℕ) (v : ℕ) (s : State) :
    Keeps 0 0x1000 s (setPll p h v s) := by
  unfold setPll
  repeat' first
    | with_reducible first
        | apply Keeps.refl
    | simp (disch := first | exact Or.inl rfl | with_reducible exact Or.inr rfl | rfl) only [Keeps.upd]

theorem keeps_pllFollow (p : ℕ) (h : ℕ) (s : State) :
    Keeps 0 0x1000 s (pllFollow p h s) := by
  unfold pllFollow
  repeat' first
    | with_reducible first
        | apply Keeps.refl
    | (with_reducible apply Keeps.after (keeps_setPll ..) ?_ ?_ ?_) <;> [rfl; rfl; skip]
    | split

theorem keeps_pllsFollow (p : ℕ) (s : State) :
    Keeps 0 0x1000 s (pllsFollow p s) := by
  unfold pllsFollow
  repeat' first
    | with_reducible first
        | apply Keeps.refl
    | (with_reducible apply Keeps.after (keeps_pllFollow ..) ?_ ?_ ?_) <;> [rfl; rfl; skip]

theorem keeps_portOff (p : ℕ) (s : State) :
    Keeps 0x300000480000000000000000000000000000082410000f2000880a00000000000000001c000000 0x270a1 s (portOff p s) := by
  unfold portOff
  repeat' first
    | with_reducible first
        | apply Keeps.refl
    | (with_reducible apply Keeps.after (keeps_on ..) ?_ ?_ ?_) <;> [(first | rfl | (dsimp only; rfl)); rfl; skip]
    | (with_reducible apply Keeps.after (keeps_linkGone ..) ?_ ?_ ?_) <;> [rfl; rfl; skip]
    | (with_reducible apply Keeps.after (keeps_pllsFollow ..) ?_ ?_ ?_) <;> [rfl; rfl; skip]

theorem keeps_restoreLane (g : ℕ) (s : State) :
    Keeps 0x8800800000000000000000000000 0x1000 s (restoreLane g s) := by
  unfold restoreLane
  repeat' first
    | with_reducible first
        | apply Keeps.refl
    | (with_reducible apply Keeps.after (keeps_wr ..) ?_ ?_ ?_) <;> [(first | rfl | (dsimp only; rfl)); rfl; skip]
    | (with_reducible apply Keeps.after (keeps_off ..) ?_ ?_ ?_) <;> [(first | rfl | (dsimp only; rfl)); rfl; skip]
    | (with_reducible apply Keeps.after (keeps_wrBit ..) ?_ ?_ ?_) <;> [(first | rfl | (dsimp only; rfl)); rfl; skip]
    | simp (disch := first | exact Or.inl rfl | with_reducible exact Or.inr rfl | rfl) only [Keeps.upd]

theorem keeps_retWrite (p : ℕ) (v : Word) (s : State) :
    Keeps 0x8800800000000000000000000000 0x1000 s (retWrite p v s) := by
  unfold retWrite
  repeat' first
    | with_reducible first
        | apply Keeps.refl
        | apply Keeps.andThen (Keeps.foldl (fun t a => ?_)) ?_
    | (with_reducible apply Keeps.after (keeps_restoreLane ..) ?_ ?_ ?_) <;> [rfl; rfl; skip]
    | split

theorem keeps_cxlAfter (n : ℕ) (fromRec : Bool) (f : LinkForm) (s : State) :
    Keeps 0x8000000000000000000000000 0x1000 s (cxlAfter n fromRec f s) := by
  unfold cxlAfter
  repeat' first
    | with_reducible first
        | apply Keeps.refl
    | (with_reducible apply Keeps.after (keeps_wr ..) ?_ ?_ ?_) <;> [(first | rfl | (dsimp only; rfl)); rfl; skip]
    | (with_reducible apply Keeps.after (keeps_setHead ..) ?_ ?_ ?_) <;> [rfl; rfl; skip]

theorem keeps_execAttemptFailure (n : Fin 16) (s : State) :
    KeepsO 0x300000480000000000000000000000000000082410000f20008a1880000000000000001c000000 0x270a1 s (execAttemptFailure n s) := by
  unfold execAttemptFailure
  repeat' first
    | with_reducible first
        | apply KeepsO.done
        | apply Keeps.refl
        | apply Keeps.andThen (Keeps.guarded ?_) ?_
    | (with_reducible apply Keeps.after (keeps_attemptFail ..) ?_ ?_ ?_) <;> [rfl; rfl; skip]

theorem keeps_execAttemptStart (n : Fin 16) (start : AttemptFrom) (s : State) :
    KeepsO 0x4800000000e0400000000000000000000000000000002a38000000000000000000000000 0x1021 s (execAttemptStart n start s) := by
  unfold execAttemptStart
  repeat' first
    | with_reducible first
        | apply KeepsO.done
        | apply Keeps.refl
        | apply Keeps.andThen (Keeps.guarded ?_) ?_
    | (with_reducible apply Keeps.after (keeps_setLtssm ..) ?_ ?_ ?_) <;> [rfl; rfl; skip]
    | (with_reducible apply Keeps.after (keeps_attemptStart ..) ?_ ?_ ?_) <;> [rfl; rfl; skip]
    | (with_reducible apply Keeps.after (keeps_enterRecovery ..) ?_ ?_ ?_) <;> [rfl; rfl; skip]
    | split

theorem keeps_linkReady (n : ℕ) (s : State) :
    Keeps 0x681000000000000000000000000000000000008010000000000000000000000000000000 0x2029 s (linkReady n s) := by
  unfold linkReady
  repeat' first
    | with_reducible first
        | apply Keeps.refl
    | (with_reducible apply Keeps.after (keeps_dcLinkUp ..) ?_ ?_ ?_) <;> [rfl; rfl; skip]
    | (with_reducible apply Keeps.after (keeps_flushHeld ..) ?_ ?_ ?_) <;> [rfl; rfl; skip]

theorem keeps_showLink (n : ℕ) (f : LinkForm) (s : State) :
    Keeps 0x20000808000000000000000000000000 0 s (showLink n f s) := by
  unfold showLink
  repeat' first
    | with_reducible first
        | apply Keeps.refl
        | apply Keeps.andThen (Keeps.foldl (fun t a => ?_)) ?_
    | (with_reducible apply Keeps.after (keeps_wr ..) ?_ ?_ ?_) <;> [(first | rfl | (dsimp only; rfl)); rfl; skip]
    | (with_reducible apply Keeps.after (keeps_off ..) ?_ ?_ ?_) <;> [(first | rfl | (dsimp only; rfl)); rfl; skip]
    | (with_reducible apply Keeps.after (keeps_on ..) ?_ ?_ ?_) <;> [(first | rfl | (dsimp only; rfl)); rfl; skip]
    | split

theorem keeps_execAttemptSuccess (n : Fin 16) (f : LinkForm) (s : State) :
    KeepsO 0x681000000000000000000000000000000000008030000a08800000000000000000000000 0x3029 s (execAttemptSuccess n f s) := by
  unfold execAttemptSuccess
  repeat' first
    | with_reducible first
        | apply KeepsO.done
        | apply Keeps.refl
        | apply Keeps.andThen (Keeps.guarded ?_) ?_
    | (with_reducible apply Keeps.after (keeps_wr ..) ?_ ?_ ?_) <;> [(first | rfl | (dsimp only; rfl)); rfl; skip]
    | (with_reducible apply Keeps.after (keeps_off ..) ?_ ?_ ?_) <;> [(first | rfl | (dsimp only; rfl)); rfl; skip]
    | (with_reducible apply Keeps.after (keeps_setHead ..) ?_ ?_ ?_) <;> [rfl; rfl; skip]
    | (with_reducible apply Keeps.after (keeps_headCause ..) ?_ ?_ ?_) <;> [(first | rfl | (dsimp only; rfl)); rfl; skip]
    | (with_reducible apply Keeps.after (keeps_chargeLanes ..) ?_ ?_ ?_) <;> [rfl; rfl; skip]
    | (with_reducible apply Keeps.after (keeps_setCtl ..) ?_ ?_ ?_) <;> [rfl; rfl; skip]
    | (with_reducible apply Keeps.after (keeps_setLtssm ..) ?_ ?_ ?_) <;> [rfl; rfl; skip]
    | (with_reducible apply Keeps.after (keeps_cxlAfter ..) ?_ ?_ ?_) <;> [rfl; rfl; skip]
    | (with_reducible apply Keeps.after (keeps_linkReady ..) ?_ ?_ ?_) <;> [rfl; rfl; skip]
    | (with_reducible apply Keeps.after (keeps_showLink ..) ?_ ?_ ?_) <;> [rfl; rfl; skip]
    | split

theorem keeps_execBackoffEnd (n : Fin 16) (s : State) :
    KeepsO 0x8000000000000000000000000 0 s (execBackoffEnd n s) := by
  unfold execBackoffEnd
  repeat' first
    | with_reducible first
        | apply KeepsO.done
        | apply Keeps.refl
        | apply Keeps.andThen (Keeps.guarded ?_) ?_
    | (with_reducible apply Keeps.after (keeps_setCtl ..) ?_ ?_ ?_) <;> [rfl; rfl; skip]
    | (with_reducible apply Keeps.after (keeps_setLtssm ..) ?_ ?_ ?_) <;> [rfl; rfl; skip]

theorem keeps_execCheckerLock (lane : Fin 128) (s : State) :
    KeepsO 0x8000000000000000000000000000 0 s (execCheckerLock lane s) := by
  unfold execCheckerLock
  repeat' first
    | with_reducible first
        | apply KeepsO.done
        | apply Keeps.refl
        | apply Keeps.andThen (Keeps.guarded ?_) ?_
    | (with_reducible apply Keeps.after (keeps_on ..) ?_ ?_ ?_) <;> [(first | rfl | (dsimp only; rfl)); rfl; skip]

theorem keeps_execEqualisationRequest (lane : Fin 128) (pre : BitVec 6) (post : BitVec 6) (s : State) :
    KeepsO 0x2000000000000000000000000000 0x8 s (execEqualisationRequest lane pre post s) := by
  unfold execEqualisationRequest
  repeat' first
    | with_reducible first
        | apply KeepsO.done
        | apply Keeps.refl
        | apply Keeps.andThen (Keeps.guarded ?_) ?_
    | (with_reducible apply Keeps.after (keeps_wr ..) ?_ ?_ ?_) <;> [(first | rfl | (dsimp only; rfl)); rfl; skip]
    | simp (disch := first | exact Or.inl rfl | with_reducible exact Or.inr rfl | rfl) only [Keeps.upd]
    | split

theorem keeps_execErrorRateWindow (n : Fin 16) (s : State) :
    KeepsO 0 0x1000 s (execErrorRateWindow n s) := by
  unfold execErrorRateWindow
  repeat' first
    | with_reducible first
        | apply KeepsO.done
        | apply Keeps.refl
    | (with_reducible apply Keeps.after (keeps_setHead ..) ?_ ?_ ?_) <;> [rfl; rfl; skip]

theorem keeps_execFarEndLoopback (n : Fin 16) (lanes : BitVec 16) (s : State) :
    KeepsO 0x300000480000000000000000000000000000082410000f20008a0800000000000000001c000000 0x270a1 s (execFarEndLoopback n lanes s) := by
  unfold execFarEndLoopback
  repeat' first
    | with_reducible first
        | apply KeepsO.done
        | apply Keeps.refl
        | apply Keeps.andThen (Keeps.guarded ?_) ?_
        | apply Keeps.andThen (Keeps.foldl (fun t a => ?_)) ?_
    | (with_reducible apply Keeps.after (keeps_on ..) ?_ ?_ ?_) <;> [(first | rfl | (dsimp only; rfl)); rfl; skip]
    | (with_reducible apply Keeps.after (keeps_headCause ..) ?_ ?_ ?_) <;> [(first | rfl | (dsimp only; rfl)); rfl; skip]
    | (with_reducible apply Keeps.after (keeps_downIf ..) ?_ ?_ ?_) <;> [rfl; rfl; skip]
    | (with_reducible apply Keeps.after (keeps_setLtssm ..) ?_ ?_ ?_) <;> [rfl; rfl; skip]
    | (with_reducible apply Keeps.after (keeps_linkGone ..) ?_ ?_ ?_) <;> [rfl; rfl; skip]

theorem keeps_execFarEndLoopbackExit (n : Fin 16) (s : State) :
    KeepsO 0x8008000000000000000000000000 0 s (execFarEndLoopbackExit n s) := by
  unfold execFarEndLoopbackExit
  repeat' first
    | with_reducible first
        | apply KeepsO.done
        | apply Keeps.refl
        | apply Keeps.andThen (Keeps.guarded ?_) ?_
    | (with_reducible apply Keeps.after (keeps_leaveLoopback ..) ?_ ?_ ?_) <;> [rfl; rfl; skip]

theorem keeps_execFecCorrection (n : Fin 16) (s : State) :
    KeepsO 0x40000000000000000000000000 0 s (execFecCorrection n s) := by
  unfold execFecCorrection
  repeat' first
    | with_reducible first
        | apply KeepsO.done
        | apply Keeps.refl
        | apply Keeps.andThen (Keeps.guarded ?_) ?_
    | (with_reducible apply Keeps.after (keeps_satAdd ..) ?_ ?_ ?_) <;> [(first | rfl | (dsimp only; rfl)); rfl; skip]

theorem keeps_execHctlRetrain (n : Fin 16) (s : State) :
    KeepsO 0x4800000000e0400000000000000000000000000000002a38000000000000000000000000 0x1021 s (execHctlRetrain n s) := by
  unfold execHctlRetrain
  repeat' first
    | with_reducible first
        | apply KeepsO.done
        | apply Keeps.refl
        | apply Keeps.andThen (Keeps.guarded ?_) ?_
    | (with_reducible apply Keeps.after (keeps_hctlRetrain ..) ?_ ?_ ?_) <;> [rfl; rfl; skip]

theorem keeps_execHoldWrite (n : Fin 16) (hold : Bool) (s : State) :
    KeepsO 0x300000480000000000000000000000000000082410000f20008a0a00000000000000001c000000 0x270a1 s (execHoldWrite n hold s) := by
  unfold execHoldWrite
  repeat' first
    | with_reducible first
        | apply KeepsO.done
        | apply Keeps.refl
        | apply Keeps.andThen (Keeps.guarded ?_) ?_
    | (with_reducible apply Keeps.after (keeps_holdWrite ..) ?_ ?_ ?_) <;> [rfl; rfl; skip]

theorem keeps_execL2Exit (n : Fin 16) (s : State) :
    KeepsO 0x300000480000000000000000000000000000082410000f20008a0800000000000000001c000000 0x270a1 s (execL2Exit n s) := by
  unfold execL2Exit
  repeat' first
    | with_reducible first
        | apply KeepsO.done
        | apply Keeps.refl
        | apply Keeps.andThen (Keeps.guarded ?_) ?_
    | (with_reducible apply Keeps.after (keeps_upToDetect ..) ?_ ?_ ?_) <;> [rfl; rfl; skip]

theorem keeps_headWaits (n : ℕ) (s : State) :
    Keeps 0x300000480000000000000000000000000000082410000f20008a0800000000000000001c000000 0x270a1 s (headWaits n s) := by
  unfold headWaits
  repeat' first
    | with_reducible first
        | apply Keeps.refl
    | (with_reducible apply Keeps.after (keeps_downIf ..) ?_ ?_ ?_) <;> [rfl; rfl; skip]
    | (with_reducible apply Keeps.after (keeps_linkGone ..) ?_ ?_ ?_) <;> [rfl; rfl; skip]
    | split
    | dsimp only

theorem keeps_execLaneReferenceLost (n : Fin 8) (s : State) :
    KeepsO 0x300000480000000000000000000000000000082410000f20008a0800000000000000001c000800 0x270a1 s (execLaneReferenceLost n s) := by
  unfold execLaneReferenceLost
  repeat' first
    | with_reducible first
        | apply KeepsO.done
        | apply Keeps.refl
        | apply Keeps.andThen (Keeps.guarded ?_) ?_
    | (with_reducible apply Keeps.after (keeps_wrBit ..) ?_ ?_ ?_) <;> [(first | rfl | (dsimp only; rfl)); rfl; skip]
    | (with_reducible apply Keeps.after (keeps_raise ..) ?_ ?_ ?_) <;> [rfl; rfl; skip]
    | (with_reducible apply Keeps.after (keeps_pllsFollow ..) ?_ ?_ ?_) <;> [rfl; rfl; skip]
    | (with_reducible apply Keeps.after (keeps_headWaits ..) ?_ ?_ ?_) <;> [rfl; rfl; skip]

theorem keeps_execLaneReferencePresent (n : Fin 8) (s : State) :
    KeepsO 0x8000000000000000000000800 0x1000 s (execLaneReferencePresent n s) := by
  unfold execLaneReferencePresent
  repeat' first
    | with_reducible first
        | apply KeepsO.done
        | apply Keeps.refl
        | apply Keeps.andThen (Keeps.guarded ?_) ?_
    | (with_reducible apply Keeps.after (keeps_wrBit ..) ?_ ?_ ?_) <;> [(first | rfl | (dsimp only; rfl)); rfl; skip]
    | (with_reducible apply Keeps.after (keeps_setCtl ..) ?_ ?_ ?_) <;> [rfl; rfl; skip]
    | (with_reducible apply Keeps.after (keeps_setLtssm ..) ?_ ?_ ?_) <;> [rfl; rfl; skip]
    | (with_reducible apply Keeps.after (keeps_pllsFollow ..) ?_ ?_ ?_) <;> [rfl; rfl; skip]
    | split
    | dsimp only

theorem keeps_execLaneStageReached (lane : Fin 128) (stage : Fin 8) (polInv : Bool) (rx : Word) (s : State) :
    KeepsO 0x4808000000000000000000000000 0 s (execLaneStageReached lane stage polInv rx s) := by
  unfold execLaneStageReached
  repeat' first
    | with_reducible first
        | apply KeepsO.done
        | apply Keeps.refl
        | apply Keeps.andThen (Keeps.guarded ?_) ?_
    | (with_reducible apply Keeps.after (keeps_wr ..) ?_ ?_ ?_) <;> [(first | rfl | (dsimp only; rfl)); rfl; skip]
    | (with_reducible apply Keeps.after (keeps_setLtssm ..) ?_ ?_ ?_) <;> [rfl; rfl; skip]
    | split
    | dsimp only

theorem keeps_execLinkDown (n : Fin 16) (s : State) :
    KeepsO 0x300000480000000000000000000000000000082410000f20008a0800000000000000001c000000 0x270a1 s (execLinkDown n s) := by
  unfold execLinkDown
  repeat' first
    | with_reducible first
        | apply KeepsO.done
        | apply Keeps.refl
        | apply Keeps.andThen (Keeps.guarded ?_) ?_
    | (with_reducible apply Keeps.after (keeps_upToDetect ..) ?_ ?_ ?_) <;> [rfl; rfl; skip]

theorem keeps_execLinkReplay (n : Fin 16) (s : State) :
    KeepsO 0x80000000000000000000000000 0 s (execLinkReplay n s) := by
  unfold execLinkReplay
  repeat' first
    | with_reducible first
        | apply KeepsO.done
        | apply Keeps.refl
        | apply Keeps.andThen (Keeps.guarded ?_) ?_
    | (with_reducible apply Keeps.after (keeps_satAdd ..) ?_ ?_ ?_) <;> [(first | rfl | (dsimp only; rfl)); rfl; skip]

theorem keeps_execLnkRestore (p : Fin 8) (v : Word) (s : State) :
    KeepsO 0x8800800000000000000000000000 0x1000 s (execLnkRestore p v s) := by
  unfold execLnkRestore
  repeat' first
    | with_reducible first
        | apply KeepsO.done
        | apply Keeps.refl
    | (with_reducible apply Keeps.after (keeps_retWrite ..) ?_ ?_ ?_) <;> [rfl; rfl; skip]

theorem keeps_execLoopbackMismatch (lane : Fin 128) (s : State) :
    KeepsO 0x10000000000000000000000000000 0 s (execLoopbackMismatch lane s) := by
  unfold execLoopbackMismatch
  repeat' first
    | with_reducible first
        | apply KeepsO.done
        | apply Keeps.refl
        | apply Keeps.andThen (Keeps.guarded ?_) ?_
    | (with_reducible apply Keeps.after (keeps_satAdd ..) ?_ ?_ ?_) <;> [(first | rfl | (dsimp only; rfl)); rfl; skip]

theorem keeps_execLoopbackModeWrite (lane : Fin 128) (v : Word) (s : State) :
    KeepsO 0x8000000000000000000000000000 0 s (execLoopbackModeWrite lane v s) := by
  unfold execLoopbackModeWrite
  repeat' first
    | with_reducible first
        | apply KeepsO.done
        | apply Keeps.refl
    | (with_reducible apply Keeps.after (keeps_llbWrite ..) ?_ ?_ ?_) <;> [rfl; rfl; skip]

theorem keeps_execLowPowerTransition (n : Fin 16) (dir : LowPower) (s : State) :
    KeepsO 0x681000000000000000000000000000000000008010000008000000000000000000000000 0x3029 s (execLowPowerTransition n dir s) := by
  unfold execLowPowerTransition
  repeat' first
    | with_reducible first
        | apply KeepsO.done
        | apply Keeps.refl
        | apply Keeps.andThen (Keeps.guarded ?_) ?_
    | (with_reducible apply Keeps.after (keeps_off ..) ?_ ?_ ?_) <;> [(first | rfl | (dsimp only; rfl)); rfl; skip]
    | (with_reducible apply Keeps.after (keeps_setHead ..) ?_ ?_ ?_) <;> [rfl; rfl; skip]
    | (with_reducible apply Keeps.after (keeps_setLtssm ..) ?_ ?_ ?_) <;> [rfl; rfl; skip]
    | (with_reducible apply Keeps.after (keeps_linkReady ..) ?_ ?_ ?_) <;> [rfl; rfl; skip]
    | split

theorem keeps_execPerstNHigh (n : Fin 16) (s : State) :
    KeepsO 0x8000000000000000000000000 0x1000 s (execPerstNHigh n s) := by
  unfold execPerstNHigh
  repeat' first
    | with_reducible first
        | apply KeepsO.done
        | apply Keeps.refl
    | (with_reducible apply Keeps.after (keeps_headRelease ..) ?_ ?_ ?_) <;> [rfl; rfl; skip]
    | simp (disch := first | exact Or.inl rfl | with_reducible exact Or.inr rfl | rfl) only [Keeps.upd]
    | split

theorem keeps_execPllLock (p : Fin 8) (h : Fin 2) (s : State) :
    KeepsO 0 0x1000 s (execPllLock p h s) := by
  unfold execPllLock
  repeat' first
    | with_reducible first
        | apply KeepsO.done
        | apply Keeps.refl
    | (with_reducible apply Keeps.after (keeps_setPll ..) ?_ ?_ ?_) <;> [rfl; rfl; skip]
    | split
    | dsimp only

theorem keeps_execReceiverError (lane : Fin 128) (s : State) :
    KeepsO 0x1000000000000000000000000000 0 s (execReceiverError lane s) := by
  unfold execReceiverError
  repeat' first
    | with_reducible first
        | apply KeepsO.done
        | apply Keeps.refl
    | (with_reducible apply Keeps.after (keeps_satAdd ..) ?_ ?_ ?_) <;> [(first | rfl | (dsimp only; rfl)); rfl; skip]

theorem keeps_execRedetect (n : Fin 16) (s : State) :
    KeepsO 0x300000480000000000000000000000000000082410000f20008a1880000000000000001c000000 0x270a1 s (execRedetect n s) := by
  unfold execRedetect
  repeat' first
    | with_reducible first
        | apply KeepsO.done
        | apply Keeps.refl
        | apply Keeps.andThen (Keeps.guarded ?_) ?_
    | (with_reducible apply Keeps.after (keeps_hctlRedetect ..) ?_ ?_ ?_) <;> [rfl; rfl; skip]

theorem keeps_execTrainTimeout (n : Fin 16) (s : State) :
    KeepsO 0x300000480000000000000000000000000000082410000f20008a1880000000000000001c000000 0x270a1 s (execTrainTimeout n s) := by
  unfold execTrainTimeout
  repeat' first
    | with_reducible first
        | apply KeepsO.done
        | apply Keeps.refl
        | apply Keeps.andThen (Keeps.guarded ?_) ?_
    | (with_reducible apply Keeps.after (keeps_attemptFail ..) ?_ ?_ ?_) <;> [rfl; rfl; skip]

end Sys2Proof.Machine
end

