-- ==== Sys2Proof/Laws/KeepsTumblerSlots.lean ====
section
/-! SUPPORT. The frames of the operations of Machine/TumblerSlots.lean: what each can change, and that it keeps the stores canonical. -/

namespace Sys2Proof.Machine
open Sys2Proof

theorem keeps_engineDone (e : ℕ) (txn : ℕ) (a : Answer) (s : State) :
    Keeps 0 0xc00 s (engineDone e txn a s) := by
  unfold engineDone
  repeat' first
    | with_reducible first
        | apply Keeps.refl
    | (with_reducible apply Keeps.after (keeps_modEng ..) ?_ ?_ ?_) <;> [rfl; rfl; skip]
    | (with_reducible apply Keeps.after (keeps_engineStore ..) ?_ ?_ ?_) <;> [rfl; rfl; skip]
    | (with_reducible apply Keeps.after (keeps_poisonWords ..) ?_ ?_ ?_) <;> [rfl; rfl; skip]
    | split

theorem keeps_issueV (e : ℕ) (op : ℕ) (f : EngineRec → ℕ → List Result) (s : State) :
    Keeps 0 0x800 s (issueV e op f s) := by
  unfold issueV
  repeat' first
    | with_reducible first
        | apply Keeps.refl
        | apply Keeps.andThen (Keeps.guarded ?_) ?_
    | (with_reducible apply Keeps.after (keeps_setEng ..) ?_ ?_ ?_) <;> [rfl; rfl; skip]

theorem keeps_execAclr (e : Fin 512) (s : State) :
    KeepsO 0 0x800 s (execAclr e s) := by
  unfold execAclr
  repeat' first
    | with_reducible first
        | apply KeepsO.done
        | apply Keeps.refl
    | (with_reducible apply Keeps.after (keeps_issueV ..) ?_ ?_ ?_) <;> [rfl; rfl; skip]

theorem keeps_issueC (e : ℕ) (op : ℕ) (f : State → EngineRec → ℕ → List Result × CFlow) (s : State) :
    Keeps 0 0x800 s (issueC e op f s) := by
  unfold issueC
  repeat' first
    | with_reducible first
        | apply Keeps.refl
        | apply Keeps.andThen (Keeps.guarded ?_) ?_
    | (with_reducible apply Keeps.after (keeps_setEng ..) ?_ ?_ ?_) <;> [rfl; rfl; skip]

theorem keeps_issueRR (e : ℕ) (op : ℕ) (l : ℕ) (f : Word → Word → Word) (s : State) :
    Keeps 0 0x800 s (issueRR e op l f s) := by
  unfold issueRR
  repeat' first
    | with_reducible first
        | apply Keeps.refl
    | (with_reducible apply Keeps.after (keeps_issueC ..) ?_ ?_ ?_) <;> [rfl; rfl; skip]

theorem keeps_execAdd (e : Fin 512) (s : State) :
    KeepsO 0 0x800 s (execAdd e s) := by
  unfold execAdd
  repeat' first
    | with_reducible first
        | apply KeepsO.done
        | apply Keeps.refl
    | (with_reducible apply Keeps.after (keeps_issueRR ..) ?_ ?_ ?_) <;> [rfl; rfl; skip]

theorem keeps_issueRI (e : ℕ) (op : ℕ) (f : Word → ℕ → Word) (s : State) :
    Keeps 0 0x800 s (issueRI e op f s) := by
  unfold issueRI
  repeat' first
    | with_reducible first
        | apply Keeps.refl
    | (with_reducible apply Keeps.after (keeps_issueC ..) ?_ ?_ ?_) <;> [rfl; rfl; skip]

theorem keeps_execAddi (e : Fin 512) (s : State) :
    KeepsO 0 0x800 s (execAddi e s) := by
  unfold execAddi
  repeat' first
    | with_reducible first
        | apply KeepsO.done
        | apply Keeps.refl
    | (with_reducible apply Keeps.after (keeps_issueRI ..) ?_ ?_ ?_) <;> [rfl; rfl; skip]

theorem keeps_execAgete (e : Fin 512) (s : State) :
    KeepsO 0 0x800 s (execAgete e s) := by
  unfold execAgete
  repeat' first
    | with_reducible first
        | apply KeepsO.done
        | apply Keeps.refl
    | (with_reducible apply Keeps.after (keeps_issueV ..) ?_ ?_ ?_) <;> [rfl; rfl; skip]

theorem keeps_execAmov (e : Fin 512) (s : State) :
    KeepsO 0 0x800 s (execAmov e s) := by
  unfold execAmov
  repeat' first
    | with_reducible first
        | apply KeepsO.done
        | apply Keeps.refl
    | (with_reducible apply Keeps.after (keeps_issueV ..) ?_ ?_ ?_) <;> [rfl; rfl; skip]

theorem keeps_execAmovi (e : Fin 512) (s : State) :
    KeepsO 0 0x800 s (execAmovi e s) := by
  unfold execAmovi
  repeat' first
    | with_reducible first
        | apply KeepsO.done
        | apply Keeps.refl
    | (with_reducible apply Keeps.after (keeps_issueV ..) ?_ ?_ ?_) <;> [rfl; rfl; skip]

theorem keeps_execAnd (e : Fin 512) (s : State) :
    KeepsO 0 0x800 s (execAnd e s) := by
  unfold execAnd
  repeat' first
    | with_reducible first
        | apply KeepsO.done
        | apply Keeps.refl
    | (with_reducible apply Keeps.after (keeps_issueRR ..) ?_ ?_ ?_) <;> [rfl; rfl; skip]

theorem keeps_execAndi (e : Fin 512) (s : State) :
    KeepsO 0 0x800 s (execAndi e s) := by
  unfold execAndi
  repeat' first
    | with_reducible first
        | apply KeepsO.done
        | apply Keeps.refl
    | (with_reducible apply Keeps.after (keeps_issueRI ..) ?_ ?_ ?_) <;> [rfl; rfl; skip]

theorem keeps_issueBranch (e : ℕ) (op : ℕ) (c : Word → Bool) (s : State) :
    Keeps 0 0x800 s (issueBranch e op c s) := by
  unfold issueBranch
  repeat' first
    | with_reducible first
        | apply Keeps.refl
    | (with_reducible apply Keeps.after (keeps_issueC ..) ?_ ?_ ?_) <;> [rfl; rfl; skip]

theorem keeps_execBeqz (e : Fin 512) (s : State) :
    KeepsO 0 0x800 s (execBeqz e s) := by
  unfold execBeqz
  repeat' first
    | with_reducible first
        | apply KeepsO.done
        | apply Keeps.refl
    | (with_reducible apply Keeps.after (keeps_issueBranch ..) ?_ ?_ ?_) <;> [rfl; rfl; skip]

theorem keeps_execBgez (e : Fin 512) (s : State) :
    KeepsO 0 0x800 s (execBgez e s) := by
  unfold execBgez
  repeat' first
    | with_reducible first
        | apply KeepsO.done
        | apply Keeps.refl
    | (with_reducible apply Keeps.after (keeps_issueBranch ..) ?_ ?_ ?_) <;> [rfl; rfl; skip]

theorem keeps_execBltz (e : Fin 512) (s : State) :
    KeepsO 0 0x800 s (execBltz e s) := by
  unfold execBltz
  repeat' first
    | with_reducible first
        | apply KeepsO.done
        | apply Keeps.refl
    | (with_reducible apply Keeps.after (keeps_issueBranch ..) ?_ ?_ ?_) <;> [rfl; rfl; skip]

theorem keeps_execBnez (e : Fin 512) (s : State) :
    KeepsO 0 0x800 s (execBnez e s) := by
  unfold execBnez
  repeat' first
    | with_reducible first
        | apply KeepsO.done
        | apply Keeps.refl
    | (with_reducible apply Keeps.after (keeps_issueBranch ..) ?_ ?_ ?_) <;> [rfl; rfl; skip]

theorem keeps_execBnorm (e : Fin 512) (s : State) :
    KeepsO 0 0x800 s (execBnorm e s) := by
  unfold execBnorm
  repeat' first
    | with_reducible first
        | apply KeepsO.done
        | apply Keeps.refl
    | (with_reducible apply Keeps.after (keeps_issueV ..) ?_ ?_ ?_) <;> [rfl; rfl; skip]

theorem keeps_execBnorma (e : Fin 512) (s : State) :
    KeepsO 0 0x800 s (execBnorma e s) := by
  unfold execBnorma
  repeat' first
    | with_reducible first
        | apply KeepsO.done
        | apply Keeps.refl
    | (with_reducible apply Keeps.after (keeps_issueV ..) ?_ ?_ ?_) <;> [rfl; rfl; skip]

theorem keeps_execBr (e : Fin 512) (s : State) :
    KeepsO 0 0x800 s (execBr e s) := by
  unfold execBr
  repeat' first
    | with_reducible first
        | apply KeepsO.done
        | apply Keeps.refl
    | (with_reducible apply Keeps.after (keeps_issueC ..) ?_ ?_ ?_) <;> [rfl; rfl; skip]

theorem keeps_execCall (e : Fin 512) (s : State) :
    KeepsO 0 0x800 s (execCall e s) := by
  unfold execCall
  repeat' first
    | with_reducible first
        | apply KeepsO.done
        | apply Keeps.refl
    | (with_reducible apply Keeps.after (keeps_issueC ..) ?_ ?_ ?_) <;> [rfl; rfl; skip]

theorem keeps_execDone (e : Fin 512) (s : State) :
    KeepsO 0 0x800 s (execDone e s) := by
  unfold execDone
  repeat' first
    | with_reducible first
        | apply KeepsO.done
        | apply Keeps.refl
    | (with_reducible apply Keeps.after (keeps_issueC ..) ?_ ?_ ?_) <;> [rfl; rfl; skip]

theorem keeps_execExp (e : Fin 512) (s : State) :
    KeepsO 0 0x800 s (execExp e s) := by
  unfold execExp
  repeat' first
    | with_reducible first
        | apply KeepsO.done
        | apply Keeps.refl
    | (with_reducible apply Keeps.after (keeps_issueC ..) ?_ ?_ ?_) <;> [rfl; rfl; skip]

theorem keeps_execLclr (e : Fin 512) (s : State) :
    KeepsO 0 0x800 s (execLclr e s) := by
  unfold execLclr
  repeat' first
    | with_reducible first
        | apply KeepsO.done
        | apply Keeps.refl
    | (with_reducible apply Keeps.after (keeps_issueC ..) ?_ ?_ ?_) <;> [rfl; rfl; skip]

theorem keeps_issueM {R P e op : Nat} {f : State → EngineRec → Nat → List Result × State} {s : State}
    (hP : 0x800 ||| P = P) (h : ∀ t r w, Keeps R P t (f t r w).2) : Keeps R P s (issueM e op f s) := by
  unfold issueM
  refine Keeps.guarded ?_
  dsimp only [Prod.rec]
  have hk : Keeps R P s (if slotLegal Slot.m (slotBits .m (bundle s e)) (s.eng e).pc (s.eng e).run = true then
      f s (s.eng e) (slotBits .m (bundle s e)) else (illResult, s)).2 := Keeps.ite_snd (h ..) (Keeps.refl s)
  exact Keeps.after (keeps_modEng ..) (Nat.zero_or _) hP hk

theorem keeps_issueLoad (e : ℕ) (op : ℕ) (n : ℕ) (signed : Bool) (flips : List ℕ) (s : State) :
    Keeps 0 0xc00 s (issueLoad e op n signed flips s) := by
  unfold issueLoad
  repeat' first
    | with_reducible first
        | apply Keeps.refl
    | (with_reducible apply Keeps.after (keeps_flipCode ..) ?_ ?_ ?_) <;> [rfl; rfl; skip]
    | (with_reducible apply Keeps.andThen (keeps_issueM ?_ (fun t r w => ?_)) ?_) <;> [rfl; skip; skip]

theorem keeps_execLdb (e : Fin 512) (flips : List ℕ) (s : State) :
    KeepsO 0 0xc00 s (execLdb e flips s) := by
  unfold execLdb
  repeat' first
    | with_reducible first
        | apply KeepsO.done
        | apply Keeps.refl
    | (with_reducible apply Keeps.after (keeps_issueLoad ..) ?_ ?_ ?_) <;> [rfl; rfl; skip]

theorem keeps_execLdbu (e : Fin 512) (flips : List ℕ) (s : State) :
    KeepsO 0 0xc00 s (execLdbu e flips s) := by
  unfold execLdbu
  repeat' first
    | with_reducible first
        | apply KeepsO.done
        | apply Keeps.refl
    | (with_reducible apply Keeps.after (keeps_issueLoad ..) ?_ ?_ ?_) <;> [rfl; rfl; skip]

theorem keeps_execLdh (e : Fin 512) (flips : List ℕ) (s : State) :
    KeepsO 0 0xc00 s (execLdh e flips s) := by
  unfold execLdh
  repeat' first
    | with_reducible first
        | apply KeepsO.done
        | apply Keeps.refl
    | (with_reducible apply Keeps.after (keeps_issueLoad ..) ?_ ?_ ?_) <;> [rfl; rfl; skip]

theorem keeps_execLdhu (e : Fin 512) (flips : List ℕ) (s : State) :
    KeepsO 0 0xc00 s (execLdhu e flips s) := by
  unfold execLdhu
  repeat' first
    | with_reducible first
        | apply KeepsO.done
        | apply Keeps.refl
    | (with_reducible apply Keeps.after (keeps_issueLoad ..) ?_ ?_ ?_) <;> [rfl; rfl; skip]

theorem keeps_execLdv (e : Fin 512) (flips : List (List ℕ)) (s : State) :
    KeepsO 0 0xc00 s (execLdv e flips s) := by
  unfold execLdv
  repeat' first
    | with_reducible first
        | apply KeepsO.done
        | apply Keeps.refl
    | (with_reducible apply Keeps.after (keeps_flipTouched ..) ?_ ?_ ?_) <;> [rfl; rfl; skip]
    | (with_reducible apply Keeps.andThen (keeps_issueM ?_ (fun t r w => ?_)) ?_) <;> [rfl; skip; skip]

theorem keeps_execLdw (e : Fin 512) (flips : List ℕ) (s : State) :
    KeepsO 0 0xc00 s (execLdw e flips s) := by
  unfold execLdw
  repeat' first
    | with_reducible first
        | apply KeepsO.done
        | apply Keeps.refl
    | (with_reducible apply Keeps.after (keeps_issueLoad ..) ?_ ?_ ?_) <;> [rfl; rfl; skip]

theorem keeps_execLoop (e : Fin 512) (s : State) :
    KeepsO 0 0x800 s (execLoop e s) := by
  unfold execLoop
  repeat' first
    | with_reducible first
        | apply KeepsO.done
        | apply Keeps.refl
    | (with_reducible apply Keeps.after (keeps_issueC ..) ?_ ?_ ?_) <;> [rfl; rfl; skip]

theorem keeps_execLoopi (e : Fin 512) (s : State) :
    KeepsO 0 0x800 s (execLoopi e s) := by
  unfold execLoopi
  repeat' first
    | with_reducible first
        | apply KeepsO.done
        | apply Keeps.refl
    | (with_reducible apply Keeps.after (keeps_issueC ..) ?_ ?_ ?_) <;> [rfl; rfl; skip]

theorem keeps_execLui (e : Fin 512) (s : State) :
    KeepsO 0 0x800 s (execLui e s) := by
  unfold execLui
  repeat' first
    | with_reducible first
        | apply KeepsO.done
        | apply Keeps.refl
    | (with_reducible apply Keeps.after (keeps_issueC ..) ?_ ?_ ?_) <;> [rfl; rfl; skip]

theorem keeps_execMax (e : Fin 512) (s : State) :
    KeepsO 0 0x800 s (execMax e s) := by
  unfold execMax
  repeat' first
    | with_reducible first
        | apply KeepsO.done
        | apply Keeps.refl
    | (with_reducible apply Keeps.after (keeps_issueRR ..) ?_ ?_ ?_) <;> [rfl; rfl; skip]

theorem keeps_execMfc (e : Fin 512) (s : State) :
    KeepsO 0 0x800 s (execMfc e s) := by
  unfold execMfc
  repeat' first
    | with_reducible first
        | apply KeepsO.done
        | apply Keeps.refl
    | (with_reducible apply Keeps.after (keeps_issueC ..) ?_ ?_ ?_) <;> [rfl; rfl; skip]

theorem keeps_execMin (e : Fin 512) (s : State) :
    KeepsO 0 0x800 s (execMin e s) := by
  unfold execMin
  repeat' first
    | with_reducible first
        | apply KeepsO.done
        | apply Keeps.refl
    | (with_reducible apply Keeps.after (keeps_issueRR ..) ?_ ?_ ?_) <;> [rfl; rfl; skip]

theorem keeps_execMtc (e : Fin 512) (s : State) :
    KeepsO 0 0x800 s (execMtc e s) := by
  unfold execMtc
  repeat' first
    | with_reducible first
        | apply KeepsO.done
        | apply Keeps.refl
    | (with_reducible apply Keeps.after (keeps_issueC ..) ?_ ?_ ?_) <;> [rfl; rfl; skip]

theorem keeps_execMul (e : Fin 512) (s : State) :
    KeepsO 0 0x800 s (execMul e s) := by
  unfold execMul
  repeat' first
    | with_reducible first
        | apply KeepsO.done
        | apply Keeps.refl
    | (with_reducible apply Keeps.after (keeps_issueRR ..) ?_ ?_ ?_) <;> [rfl; rfl; skip]

theorem keeps_execMulh (e : Fin 512) (s : State) :
    KeepsO 0 0x800 s (execMulh e s) := by
  unfold execMulh
  repeat' first
    | with_reducible first
        | apply KeepsO.done
        | apply Keeps.refl
    | (with_reducible apply Keeps.after (keeps_issueRR ..) ?_ ?_ ?_) <;> [rfl; rfl; skip]

theorem keeps_netTaken {R P e txn addr len : Nat} {get : Bool} {r : EngineRec} {s : State} {a : Admit}
    (hP : 0x800 ||| P = P) (h : KeepsA R P s a) : Keeps R P s (netTaken e get txn addr len r s a) := by
  cases a with
  | sent t => exact Keeps.after (keeps_modEng ..) (Nat.zero_or _) hP (h t (.inl rfl))
  | answered c d t => exact Keeps.after (keeps_modEng ..) (Nat.zero_or _) hP (h t (.inr ⟨c, d, rfl⟩))
  | waits => exact Keeps.refl s

theorem keeps_netIssue (e : Nat) (get : Bool) (s : State) (r : EngineRec) (w : Nat) :
    Keeps 0x9c000000 0x2880 s (netIssue e get s r w).2 := by
  unfold netIssue
  dsimp only
  split
  · exact Keeps.mono (keeps_modEng ..) rfl rfl
  · exact keeps_netTaken rfl ((keeps_netAdmit _ _ _ _ _ _ _ _ _).mono rfl rfl)

theorem keeps_netIssue_eq {e : Nat} {get : Bool} {s : State} {r : EngineRec} {w : Nat} {v} {t : State}
    (h : netIssue e get s r w = (v, t)) : Keeps 0x9c000000 0x2880 s t := by
  have := keeps_netIssue e get s r w
  rwa [h] at this

theorem keeps_execNget (e : Fin 512) (s : State) :
    KeepsO 0x9c000000 0x2880 s (execNget e s) := by
  unfold execNget
  repeat' first
    | with_reducible first
        | apply KeepsO.done
        | apply Keeps.refl
        | apply Keeps.andThen (Keeps.guarded ?_) ?_
    | (with_reducible apply Keeps.andThen (keeps_issueM ?_ (fun t r w => ?_)) ?_) <;> [rfl; skip; skip]
    | (with_reducible apply Keeps.after (keeps_netIssue ..) ?_ ?_ ?_) <;> [rfl; rfl; skip]

theorem keeps_issueNop (e : ℕ) (k : Slot) (s : State) :
    Keeps 0 0x800 s (issueNop e k s) := by
  unfold issueNop
  repeat' first
    | with_reducible first
        | apply Keeps.refl
        | apply Keeps.andThen (Keeps.guarded ?_) ?_
    | (with_reducible apply Keeps.after (keeps_issueV ..) ?_ ?_ ?_) <;> [rfl; rfl; skip]
    | (with_reducible apply Keeps.after (keeps_issueC ..) ?_ ?_ ?_) <;> [rfl; rfl; skip]
    | (with_reducible apply Keeps.andThen (keeps_issueM ?_ (fun t r w => ?_)) ?_) <;> [rfl; skip; skip]
    | split

theorem keeps_execNop (e : Fin 512) (slot : Fin 3) (s : State) :
    KeepsO 0 0x800 s (execNop e slot s) := by
  unfold execNop
  repeat' first
    | with_reducible first
        | apply KeepsO.done
        | apply Keeps.refl
    | (with_reducible apply Keeps.after (keeps_issueNop ..) ?_ ?_ ?_) <;> [rfl; rfl; skip]

theorem keeps_execNorm (e : Fin 512) (s : State) :
    KeepsO 0 0x800 s (execNorm e s) := by
  unfold execNorm
  repeat' first
    | with_reducible first
        | apply KeepsO.done
        | apply Keeps.refl
    | (with_reducible apply Keeps.after (keeps_issueC ..) ?_ ?_ ?_) <;> [rfl; rfl; skip]

theorem keeps_execNput (e : Fin 512) (s : State) :
    KeepsO 0x9c000000 0x2880 s (execNput e s) := by
  unfold execNput
  repeat' first
    | with_reducible first
        | apply KeepsO.done
        | apply Keeps.refl
        | apply Keeps.andThen (Keeps.guarded ?_) ?_
    | (with_reducible apply Keeps.andThen (keeps_issueM ?_ (fun t r w => ?_)) ?_) <;> [rfl; skip; skip]
    | (with_reducible apply Keeps.after (keeps_netIssue ..) ?_ ?_ ?_) <;> [rfl; rfl; skip]

theorem keeps_execOr (e : Fin 512) (s : State) :
    KeepsO 0 0x800 s (execOr e s) := by
  unfold execOr
  repeat' first
    | with_reducible first
        | apply KeepsO.done
        | apply Keeps.refl
    | (with_reducible apply Keeps.after (keeps_issueRR ..) ?_ ?_ ?_) <;> [rfl; rfl; skip]

theorem keeps_execOri (e : Fin 512) (s : State) :
    KeepsO 0 0x800 s (execOri e s) := by
  unfold execOri
  repeat' first
    | with_reducible first
        | apply KeepsO.done
        | apply Keeps.refl
    | (with_reducible apply Keeps.after (keeps_issueRI ..) ?_ ?_ ?_) <;> [rfl; rfl; skip]

theorem keeps_execPget (e : Fin 512) (s : State) :
    KeepsO 0 0x800 s (execPget e s) := by
  unfold execPget
  repeat' first
    | with_reducible first
        | apply KeepsO.done
        | apply Keeps.refl
    | (with_reducible apply Keeps.after (keeps_issueC ..) ?_ ?_ ?_) <;> [rfl; rfl; skip]

theorem keeps_execPset (e : Fin 512) (s : State) :
    KeepsO 0 0x800 s (execPset e s) := by
  unfold execPset
  repeat' first
    | with_reducible first
        | apply KeepsO.done
        | apply Keeps.refl
    | (with_reducible apply Keeps.after (keeps_issueC ..) ?_ ?_ ?_) <;> [rfl; rfl; skip]

theorem keeps_execRet (e : Fin 512) (s : State) :
    KeepsO 0 0x800 s (execRet e s) := by
  unfold execRet
  repeat' first
    | with_reducible first
        | apply KeepsO.done
        | apply Keeps.refl
    | (with_reducible apply Keeps.after (keeps_issueC ..) ?_ ?_ ?_) <;> [rfl; rfl; skip]

theorem keeps_execReti (e : Fin 512) (s : State) :
    KeepsO 0 0x800 s (execReti e s) := by
  unfold execReti
  repeat' first
    | with_reducible first
        | apply KeepsO.done
        | apply Keeps.refl
    | (with_reducible apply Keeps.after (keeps_issueC ..) ?_ ?_ ?_) <;> [rfl; rfl; skip]

theorem keeps_execSats (e : Fin 512) (s : State) :
    KeepsO 0 0x800 s (execSats e s) := by
  unfold execSats
  repeat' first
    | with_reducible first
        | apply KeepsO.done
        | apply Keeps.refl
    | (with_reducible apply Keeps.after (keeps_issueC ..) ?_ ?_ ?_) <;> [rfl; rfl; skip]

theorem keeps_execSll (e : Fin 512) (s : State) :
    KeepsO 0 0x800 s (execSll e s) := by
  unfold execSll
  repeat' first
    | with_reducible first
        | apply KeepsO.done
        | apply Keeps.refl
    | (with_reducible apply Keeps.after (keeps_issueRR ..) ?_ ?_ ?_) <;> [rfl; rfl; skip]

theorem keeps_execSlli (e : Fin 512) (s : State) :
    KeepsO 0 0x800 s (execSlli e s) := by
  unfold execSlli
  repeat' first
    | with_reducible first
        | apply KeepsO.done
        | apply Keeps.refl
    | (with_reducible apply Keeps.after (keeps_issueRI ..) ?_ ?_ ?_) <;> [rfl; rfl; skip]

theorem keeps_execSlt (e : Fin 512) (s : State) :
    KeepsO 0 0x800 s (execSlt e s) := by
  unfold execSlt
  repeat' first
    | with_reducible first
        | apply KeepsO.done
        | apply Keeps.refl
    | (with_reducible apply Keeps.after (keeps_issueRR ..) ?_ ?_ ?_) <;> [rfl; rfl; skip]

theorem keeps_execSltu (e : Fin 512) (s : State) :
    KeepsO 0 0x800 s (execSltu e s) := by
  unfold execSltu
  repeat' first
    | with_reducible first
        | apply KeepsO.done
        | apply Keeps.refl
    | (with_reducible apply Keeps.after (keeps_issueRR ..) ?_ ?_ ?_) <;> [rfl; rfl; skip]

theorem keeps_execSra (e : Fin 512) (s : State) :
    KeepsO 0 0x800 s (execSra e s) := by
  unfold execSra
  repeat' first
    | with_reducible first
        | apply KeepsO.done
        | apply Keeps.refl
    | (with_reducible apply Keeps.after (keeps_issueRR ..) ?_ ?_ ?_) <;> [rfl; rfl; skip]

theorem keeps_execSrai (e : Fin 512) (s : State) :
    KeepsO 0 0x800 s (execSrai e s) := by
  unfold execSrai
  repeat' first
    | with_reducible first
        | apply KeepsO.done
        | apply Keeps.refl
    | (with_reducible apply Keeps.after (keeps_issueRI ..) ?_ ?_ ?_) <;> [rfl; rfl; skip]

theorem keeps_execSrecv (e : Fin 512) (s : State) :
    KeepsO 0 0x800 s (execSrecv e s) := by
  unfold execSrecv
  repeat' first
    | with_reducible first
        | apply KeepsO.done
        | apply Keeps.refl
    | (with_reducible apply Keeps.after (keeps_setEng ..) ?_ ?_ ?_) <;> [rfl; rfl; skip]
    | (with_reducible apply Keeps.after (keeps_modEng ..) ?_ ?_ ?_) <;> [rfl; rfl; skip]
    | (with_reducible apply Keeps.andThen (keeps_issueM ?_ (fun t r w => ?_)) ?_) <;> [rfl; skip; skip]
    | split
    | dsimp only

theorem keeps_execSrl (e : Fin 512) (s : State) :
    KeepsO 0 0x800 s (execSrl e s) := by
  unfold execSrl
  repeat' first
    | with_reducible first
        | apply KeepsO.done
        | apply Keeps.refl
    | (with_reducible apply Keeps.after (keeps_issueRR ..) ?_ ?_ ?_) <;> [rfl; rfl; skip]

theorem keeps_execSrli (e : Fin 512) (s : State) :
    KeepsO 0 0x800 s (execSrli e s) := by
  unfold execSrli
  repeat' first
    | with_reducible first
        | apply KeepsO.done
        | apply Keeps.refl
    | (with_reducible apply Keeps.after (keeps_issueRI ..) ?_ ?_ ?_) <;> [rfl; rfl; skip]

theorem keeps_execSsend (e : Fin 512) (s : State) :
    KeepsO 0 0x800 s (execSsend e s) := by
  unfold execSsend
  repeat' first
    | with_reducible first
        | apply KeepsO.done
        | apply Keeps.refl
    | (with_reducible apply Keeps.after (keeps_setEng ..) ?_ ?_ ?_) <;> [rfl; rfl; skip]
    | (with_reducible apply Keeps.after (keeps_modEng ..) ?_ ?_ ?_) <;> [rfl; rfl; skip]
    | (with_reducible apply Keeps.andThen (keeps_issueM ?_ (fun t r w => ?_)) ?_) <;> [rfl; skip; skip]
    | split
    | dsimp only

theorem keeps_issueStore (e : ℕ) (op : ℕ) (n : ℕ) (s : State) :
    Keeps 0 0x800 s (issueStore e op n s) := by
  unfold issueStore
  repeat' first
    | with_reducible first
        | apply Keeps.refl
    | (with_reducible apply Keeps.andThen (keeps_issueM ?_ (fun t r w => ?_)) ?_) <;> [rfl; skip; skip]

theorem keeps_execStb (e : Fin 512) (s : State) :
    KeepsO 0 0x800 s (execStb e s) := by
  unfold execStb
  repeat' first
    | with_reducible first
        | apply KeepsO.done
        | apply Keeps.refl
    | (with_reducible apply Keeps.after (keeps_issueStore ..) ?_ ?_ ?_) <;> [rfl; rfl; skip]

theorem keeps_execSth (e : Fin 512) (s : State) :
    KeepsO 0 0x800 s (execSth e s) := by
  unfold execSth
  repeat' first
    | with_reducible first
        | apply KeepsO.done
        | apply Keeps.refl
    | (with_reducible apply Keeps.after (keeps_issueStore ..) ?_ ?_ ?_) <;> [rfl; rfl; skip]

theorem keeps_execStreamArrival (e : Fin 512) (d : Fin 4) (s : State) :
    KeepsO 0 0x800 s (execStreamArrival e d s) := by
  unfold execStreamArrival
  repeat' first
    | with_reducible first
        | apply KeepsO.done
        | apply Keeps.refl
    | (with_reducible apply Keeps.after (keeps_setEng ..) ?_ ?_ ?_) <;> [rfl; rfl; skip]
    | split

theorem keeps_execStv (e : Fin 512) (s : State) :
    KeepsO 0 0x800 s (execStv e s) := by
  unfold execStv
  repeat' first
    | with_reducible first
        | apply KeepsO.done
        | apply Keeps.refl
    | (with_reducible apply Keeps.andThen (keeps_issueM ?_ (fun t r w => ?_)) ?_) <;> [rfl; skip; skip]

theorem keeps_execStw (e : Fin 512) (s : State) :
    KeepsO 0 0x800 s (execStw e s) := by
  unfold execStw
  repeat' first
    | with_reducible first
        | apply KeepsO.done
        | apply Keeps.refl
    | (with_reducible apply Keeps.after (keeps_issueStore ..) ?_ ?_ ?_) <;> [rfl; rfl; skip]

theorem keeps_execSub (e : Fin 512) (s : State) :
    KeepsO 0 0x800 s (execSub e s) := by
  unfold execSub
  repeat' first
    | with_reducible first
        | apply KeepsO.done
        | apply Keeps.refl
    | (with_reducible apply Keeps.after (keeps_issueRR ..) ?_ ?_ ?_) <;> [rfl; rfl; skip]

theorem keeps_execSwi (e : Fin 512) (s : State) :
    KeepsO 0 0x800 s (execSwi e s) := by
  unfold execSwi
  repeat' first
    | with_reducible first
        | apply KeepsO.done
        | apply Keeps.refl
    | (with_reducible apply Keeps.after (keeps_issueC ..) ?_ ?_ ?_) <;> [rfl; rfl; skip]

theorem keeps_issueElems (e : ℕ) (op : ℕ) (l : ℕ) (f : ℕ → ℕ → ℕ → ℕ) (s : State) :
    Keeps 0 0x800 s (issueElems e op l f s) := by
  unfold issueElems
  repeat' first
    | with_reducible first
        | apply Keeps.refl
    | (with_reducible apply Keeps.after (keeps_issueV ..) ?_ ?_ ?_) <;> [rfl; rfl; skip]

theorem keeps_execVadd (e : Fin 512) (s : State) :
    KeepsO 0 0x800 s (execVadd e s) := by
  unfold execVadd
  repeat' first
    | with_reducible first
        | apply KeepsO.done
        | apply Keeps.refl
    | (with_reducible apply Keeps.after (keeps_issueElems ..) ?_ ?_ ?_) <;> [rfl; rfl; skip]

theorem keeps_issueBits (e : ℕ) (op : ℕ) (f : Line → Line → Line) (s : State) :
    Keeps 0 0x800 s (issueBits e op f s) := by
  unfold issueBits
  repeat' first
    | with_reducible first
        | apply Keeps.refl
    | (with_reducible apply Keeps.after (keeps_issueV ..) ?_ ?_ ?_) <;> [rfl; rfl; skip]

theorem keeps_execVand (e : Fin 512) (s : State) :
    KeepsO 0 0x800 s (execVand e s) := by
  unfold execVand
  repeat' first
    | with_reducible first
        | apply KeepsO.done
        | apply Keeps.refl
    | (with_reducible apply Keeps.after (keeps_issueBits ..) ?_ ?_ ?_) <;> [rfl; rfl; skip]

theorem keeps_execVbcast (e : Fin 512) (s : State) :
    KeepsO 0 0x800 s (execVbcast e s) := by
  unfold execVbcast
  repeat' first
    | with_reducible first
        | apply KeepsO.done
        | apply Keeps.refl
    | (with_reducible apply Keeps.after (keeps_issueV ..) ?_ ?_ ?_) <;> [rfl; rfl; skip]

theorem keeps_execVcls (e : Fin 512) (s : State) :
    KeepsO 0 0x800 s (execVcls e s) := by
  unfold execVcls
  repeat' first
    | with_reducible first
        | apply KeepsO.done
        | apply Keeps.refl
    | (with_reducible apply Keeps.after (keeps_issueV ..) ?_ ?_ ?_) <;> [rfl; rfl; skip]

theorem keeps_execVexp (e : Fin 512) (s : State) :
    KeepsO 0 0x800 s (execVexp e s) := by
  unfold execVexp
  repeat' first
    | with_reducible first
        | apply KeepsO.done
        | apply Keeps.refl
    | (with_reducible apply Keeps.after (keeps_issueV ..) ?_ ?_ ?_) <;> [rfl; rfl; skip]

theorem keeps_execVget (e : Fin 512) (s : State) :
    KeepsO 0 0x800 s (execVget e s) := by
  unfold execVget
  repeat' first
    | with_reducible first
        | apply KeepsO.done
        | apply Keeps.refl
    | (with_reducible apply Keeps.after (keeps_issueV ..) ?_ ?_ ?_) <;> [rfl; rfl; skip]

theorem keeps_issueMac (e : ℕ) (op : ℕ) (kind : ℕ) (s : State) :
    Keeps 0 0x800 s (issueMac e op kind s) := by
  unfold issueMac
  repeat' first
    | with_reducible first
        | apply Keeps.refl
    | (with_reducible apply Keeps.after (keeps_issueV ..) ?_ ?_ ?_) <;> [rfl; rfl; skip]

theorem keeps_execVmac (e : Fin 512) (s : State) :
    KeepsO 0 0x800 s (execVmac e s) := by
  unfold execVmac
  repeat' first
    | with_reducible first
        | apply KeepsO.done
        | apply Keeps.refl
    | (with_reducible apply Keeps.after (keeps_issueMac ..) ?_ ?_ ?_) <;> [rfl; rfl; skip]

theorem keeps_issueMacb (e : ℕ) (op : ℕ) (add : Bool) (s : State) :
    Keeps 0 0x800 s (issueMacb e op add s) := by
  unfold issueMacb
  repeat' first
    | with_reducible first
        | apply Keeps.refl
    | (with_reducible apply Keeps.after (keeps_issueV ..) ?_ ?_ ?_) <;> [rfl; rfl; skip]

theorem keeps_execVmacb (e : Fin 512) (s : State) :
    KeepsO 0 0x800 s (execVmacb e s) := by
  unfold execVmacb
  repeat' first
    | with_reducible first
        | apply KeepsO.done
        | apply Keeps.refl
    | (with_reducible apply Keeps.after (keeps_issueMacb ..) ?_ ?_ ?_) <;> [rfl; rfl; skip]

theorem keeps_issueMinMax (e : ℕ) (op : ℕ) (less : Bool) (s : State) :
    Keeps 0 0x800 s (issueMinMax e op less s) := by
  unfold issueMinMax
  repeat' first
    | with_reducible first
        | apply Keeps.refl
    | (with_reducible apply Keeps.after (keeps_issueV ..) ?_ ?_ ?_) <;> [rfl; rfl; skip]

theorem keeps_execVmax (e : Fin 512) (s : State) :
    KeepsO 0 0x800 s (execVmax e s) := by
  unfold execVmax
  repeat' first
    | with_reducible first
        | apply KeepsO.done
        | apply Keeps.refl
    | (with_reducible apply Keeps.after (keeps_issueMinMax ..) ?_ ?_ ?_) <;> [rfl; rfl; skip]

theorem keeps_execVmin (e : Fin 512) (s : State) :
    KeepsO 0 0x800 s (execVmin e s) := by
  unfold execVmin
  repeat' first
    | with_reducible first
        | apply KeepsO.done
        | apply Keeps.refl
    | (with_reducible apply Keeps.after (keeps_issueMinMax ..) ?_ ?_ ?_) <;> [rfl; rfl; skip]

theorem keeps_execVmpy (e : Fin 512) (s : State) :
    KeepsO 0 0x800 s (execVmpy e s) := by
  unfold execVmpy
  repeat' first
    | with_reducible first
        | apply KeepsO.done
        | apply Keeps.refl
    | (with_reducible apply Keeps.after (keeps_issueMac ..) ?_ ?_ ?_) <;> [rfl; rfl; skip]

theorem keeps_execVmpyb (e : Fin 512) (s : State) :
    KeepsO 0 0x800 s (execVmpyb e s) := by
  unfold execVmpyb
  repeat' first
    | with_reducible first
        | apply KeepsO.done
        | apply Keeps.refl
    | (with_reducible apply Keeps.after (keeps_issueMacb ..) ?_ ?_ ?_) <;> [rfl; rfl; skip]

theorem keeps_execVmsu (e : Fin 512) (s : State) :
    KeepsO 0 0x800 s (execVmsu e s) := by
  unfold execVmsu
  repeat' first
    | with_reducible first
        | apply KeepsO.done
        | apply Keeps.refl
    | (with_reducible apply Keeps.after (keeps_issueMac ..) ?_ ?_ ?_) <;> [rfl; rfl; skip]

theorem keeps_execVmul (e : Fin 512) (s : State) :
    KeepsO 0 0x800 s (execVmul e s) := by
  unfold execVmul
  repeat' first
    | with_reducible first
        | apply KeepsO.done
        | apply Keeps.refl
    | (with_reducible apply Keeps.after (keeps_issueElems ..) ?_ ?_ ?_) <;> [rfl; rfl; skip]

theorem keeps_execVor (e : Fin 512) (s : State) :
    KeepsO 0 0x800 s (execVor e s) := by
  unfold execVor
  repeat' first
    | with_reducible first
        | apply KeepsO.done
        | apply Keeps.refl
    | (with_reducible apply Keeps.after (keeps_issueBits ..) ?_ ?_ ?_) <;> [rfl; rfl; skip]

theorem keeps_execVsat (e : Fin 512) (s : State) :
    KeepsO 0 0x800 s (execVsat e s) := by
  unfold execVsat
  repeat' first
    | with_reducible first
        | apply KeepsO.done
        | apply Keeps.refl
    | (with_reducible apply Keeps.after (keeps_issueV ..) ?_ ?_ ?_) <;> [rfl; rfl; skip]

theorem keeps_issueShift (e : ℕ) (op : ℕ) (f : ℕ → ℕ → ℕ → ℕ) (s : State) :
    Keeps 0 0x800 s (issueShift e op f s) := by
  unfold issueShift
  repeat' first
    | with_reducible first
        | apply Keeps.refl
    | (with_reducible apply Keeps.after (keeps_issueV ..) ?_ ?_ ?_) <;> [rfl; rfl; skip]

theorem keeps_execVshl (e : Fin 512) (s : State) :
    KeepsO 0 0x800 s (execVshl e s) := by
  unfold execVshl
  repeat' first
    | with_reducible first
        | apply KeepsO.done
        | apply Keeps.refl
    | (with_reducible apply Keeps.after (keeps_issueShift ..) ?_ ?_ ?_) <;> [rfl; rfl; skip]

theorem keeps_execVsra (e : Fin 512) (s : State) :
    KeepsO 0 0x800 s (execVsra e s) := by
  unfold execVsra
  repeat' first
    | with_reducible first
        | apply KeepsO.done
        | apply Keeps.refl
    | (with_reducible apply Keeps.after (keeps_issueShift ..) ?_ ?_ ?_) <;> [rfl; rfl; skip]

theorem keeps_execVsub (e : Fin 512) (s : State) :
    KeepsO 0 0x800 s (execVsub e s) := by
  unfold execVsub
  repeat' first
    | with_reducible first
        | apply KeepsO.done
        | apply Keeps.refl
    | (with_reducible apply Keeps.after (keeps_issueElems ..) ?_ ?_ ?_) <;> [rfl; rfl; skip]

theorem keeps_execVxor (e : Fin 512) (s : State) :
    KeepsO 0 0x800 s (execVxor e s) := by
  unfold execVxor
  repeat' first
    | with_reducible first
        | apply KeepsO.done
        | apply Keeps.refl
    | (with_reducible apply Keeps.after (keeps_issueBits ..) ?_ ?_ ?_) <;> [rfl; rfl; skip]

theorem keeps_execWaite (e : Fin 512) (s : State) :
    KeepsO 0 0x800 s (execWaite e s) := by
  unfold execWaite
  repeat' first
    | with_reducible first
        | apply KeepsO.done
        | apply Keeps.refl
    | (with_reducible apply Keeps.after (keeps_issueC ..) ?_ ?_ ?_) <;> [rfl; rfl; skip]

theorem keeps_execWaitn (e : Fin 512) (s : State) :
    KeepsO 0 0x800 s (execWaitn e s) := by
  unfold execWaitn
  repeat' first
    | with_reducible first
        | apply KeepsO.done
        | apply Keeps.refl
    | (with_reducible apply Keeps.after (keeps_issueC ..) ?_ ?_ ?_) <;> [rfl; rfl; skip]

theorem keeps_execXor (e : Fin 512) (s : State) :
    KeepsO 0 0x800 s (execXor e s) := by
  unfold execXor
  repeat' first
    | with_reducible first
        | apply KeepsO.done
        | apply Keeps.refl
    | (with_reducible apply Keeps.after (keeps_issueRR ..) ?_ ?_ ?_) <;> [rfl; rfl; skip]

theorem keeps_execXori (e : Fin 512) (s : State) :
    KeepsO 0 0x800 s (execXori e s) := by
  unfold execXori
  repeat' first
    | with_reducible first
        | apply KeepsO.done
        | apply Keeps.refl
    | (with_reducible apply Keeps.after (keeps_issueRI ..) ?_ ?_ ?_) <;> [rfl; rfl; skip]

end Sys2Proof.Machine
end

