-- ==== Sys2Proof/Laws/KeepsNetRows.lean ====
section
/-! SUPPORT. The frames of the operations of Machine/NetRows.lean: what each can change, and that it keeps the stores canonical. -/

namespace Sys2Proof.Machine
open Sys2Proof

theorem keeps_debugDone (o : KhOutcome) (s : State) :
    Keeps 0 0x100000 s (debugDone o s) := by
  unfold debugDone
  repeat' first
    | with_reducible first
        | apply Keeps.refl
    | simp (disch := first | exact Or.inl rfl | with_reducible exact Or.inr rfl | rfl) only [Keeps.upd]
    | split

theorem keeps_dmaStep (c : ℕ) (s : State) :
    Keeps 0x8000000000000000000000000000000000000000000000000000000000 0x8000 s (dmaStep c s) := by
  unfold dmaStep
  repeat' first
    | with_reducible first
        | apply Keeps.refl
    | (with_reducible apply Keeps.after (keeps_off ..) ?_ ?_ ?_) <;> [(first | rfl | (dsimp only; rfl)); rfl; skip]
    | simp (disch := first | exact Or.inl rfl | with_reducible exact Or.inr rfl | rfl) only [Keeps.upd]
    | split

theorem keeps_portTakes (a : ℕ) (p : Resp) (s : State) :
    Keeps 0 0x80 s (portTakes a p s) := by
  unfold portTakes
  repeat' first
    | with_reducible first
        | apply Keeps.refl
    | simp (disch := first | exact Or.inl rfl | with_reducible exact Or.inr rfl | rfl) only [Keeps.upd]
    | split

theorem keeps_completeAt (who : Who) (r : Req) (a : Answer) (grant : Intent) (s : State) :
    Keeps 0x80000000000008000000000000000000000000000000000010000000000000000000000 0x108ca9 s (completeAt who r a grant s) := by
  unfold completeAt
  repeat' first
    | with_reducible first
        | apply Keeps.refl
    | (with_reducible apply Keeps.after (keeps_satAdd ..) ?_ ?_ ?_) <;> [(first | rfl | (dsimp only; rfl)); rfl; skip]
    | (with_reducible apply Keeps.after (keeps_setCore ..) ?_ ?_ ?_) <;> [rfl; rfl; skip]
    | (with_reducible apply Keeps.after (keeps_settle ..) ?_ ?_ ?_) <;> [rfl; rfl; skip]
    | (with_reducible apply Keeps.after (keeps_coreAccessFault ..) ?_ ?_ ?_) <;> [rfl; rfl; skip]
    | (with_reducible apply Keeps.after (keeps_debugDone ..) ?_ ?_ ?_) <;> [rfl; rfl; skip]
    | (with_reducible apply Keeps.after (keeps_dmaStep ..) ?_ ?_ ?_) <;> [rfl; rfl; skip]
    | (with_reducible apply Keeps.after (keeps_dmaStop ..) ?_ ?_ ?_) <;> [rfl; rfl; skip]
    | (with_reducible apply Keeps.after (keeps_engineDone ..) ?_ ?_ ?_) <;> [rfl; rfl; skip]
    | (with_reducible apply Keeps.after (keeps_hostAnswer ..) ?_ ?_ ?_) <;> [rfl; rfl; skip]
    | (with_reducible apply Keeps.after (keeps_portTakes ..) ?_ ?_ ?_) <;> [rfl; rfl; skip]
    | split

theorem keeps_crcDrop (s : State) :
    Keeps 0x20000000 0 s (crcDrop s) := by
  unfold crcDrop
  repeat' first
    | with_reducible first
        | apply Keeps.refl
    | (with_reducible apply Keeps.after (keeps_satAdd ..) ?_ ?_ ?_) <;> [(first | rfl | (dsimp only; rfl)); rfl; skip]

theorem keeps_execAccessPortRequest (a : Fin 640) (write : Bool) (txn : Fin 64) (da : BitVec 48) (len : Fin 64) (data : BitVec 512) (s : State) :
    KeepsO 0x9c000000 0x2080 s (execAccessPortRequest a write txn da len data s) := by
  unfold execAccessPortRequest
  repeat' first
    | with_reducible first
        | apply KeepsO.done
        | apply Keeps.refl
        | apply Keeps.andThen (Keeps.guarded ?_) ?_
    | (with_reducible apply Keeps.after (keeps_portTakes ..) ?_ ?_ ?_) <;> [rfl; rfl; skip]
    | (with_reducible apply Keeps.after (keeps_netAdmit_sent (by assumption)) ?_ ?_ ?_) <;> [rfl; rfl; skip]
    | (with_reducible apply Keeps.after (keeps_netAdmit_answered (by assumption)) ?_ ?_ ?_) <;> [rfl; rfl; skip]
    | split
    | dsimp only

theorem keeps_execAccessPortResponse (a : Fin 640) (s : State) :
    KeepsO 0 0x88 s (execAccessPortResponse a s) := by
  unfold execAccessPortResponse
  repeat' first
    | with_reducible first
        | apply KeepsO.done
        | apply Keeps.refl
        | apply Keeps.andThen (Keeps.guarded ?_) ?_
    | simp (disch := first | exact Or.inl rfl | with_reducible exact Or.inr rfl | rfl) only [Keeps.upd]
    | split

theorem keeps_takeOutst (o : Outst) (s : State) :
    Keeps 0x80000000 0x80 s (takeOutst o s) := by
  unfold takeOutst
  repeat' first
    | with_reducible first
        | apply Keeps.refl
    | (with_reducible apply Keeps.after (keeps_whoRegs ..) ?_ ?_ ?_) <;> [rfl; rfl; skip]
    | simp (disch := first | exact Or.inl rfl | with_reducible exact Or.inr rfl | rfl) only [Keeps.upd]

theorem keeps_takeResp (p : Resp) (s : State) :
    Keeps 0 0x80 s (takeResp p s) := by
  unfold takeResp
  repeat' first
    | with_reducible first
        | apply Keeps.refl
    | (with_reducible apply Keeps.after (keeps_landed ..) ?_ ?_ ?_) <;> [rfl; rfl; skip]
    | simp (disch := first | exact Or.inl rfl | with_reducible exact Or.inr rfl | rfl) only [Keeps.upd]

theorem keeps_responseArrives (k : RespKind) (src : ℕ) (txn : ℕ) (damage : Option (Fin 1152)) (s : State) :
    Keeps 0x800000000000080000000000000000000000000000000000100000000000000a0000000 0x108ca9 s (responseArrives k src txn damage s) := by
  unfold responseArrives
  repeat' first
    | with_reducible first
        | apply Keeps.refl
    | (with_reducible apply Keeps.after (keeps_reach (by assumption)) ?_ ?_ ?_) <;> [rfl; rfl; skip]
    | (with_reducible apply Keeps.after (keeps_completeAt ..) ?_ ?_ ?_) <;> [rfl; rfl; skip]
    | (with_reducible apply Keeps.after (keeps_crcDrop ..) ?_ ?_ ?_) <;> [rfl; rfl; skip]
    | (with_reducible apply Keeps.after (keeps_takeOutst ..) ?_ ?_ ?_) <;> [rfl; rfl; skip]
    | (with_reducible apply Keeps.after (keeps_takeResp ..) ?_ ?_ ?_) <;> [rfl; rfl; skip]
    | split

theorem keeps_execAck (src : BitVec 13) (txn : BitVec 8) (damage : Option (Fin 1152)) (s : State) :
    KeepsO 0x800000000000080000000000000000000000000000000000100000000000000a0000000 0x108ca9 s (execAck src txn damage s) := by
  unfold execAck
  repeat' first
    | with_reducible first
        | apply KeepsO.done
        | apply Keeps.refl
    | (with_reducible apply Keeps.after (keeps_responseArrives ..) ?_ ?_ ?_) <;> [rfl; rfl; skip]

theorem keeps_execData (src : BitVec 13) (txn : BitVec 8) (damage : Option (Fin 1152)) (s : State) :
    KeepsO 0x800000000000080000000000000000000000000000000000100000000000000a0000000 0x108ca9 s (execData src txn damage s) := by
  unfold execData
  repeat' first
    | with_reducible first
        | apply KeepsO.done
        | apply Keeps.refl
    | (with_reducible apply Keeps.after (keeps_responseArrives ..) ?_ ?_ ?_) <;> [rfl; rfl; skip]

theorem keeps_execDataPoisoned (src : BitVec 13) (txn : BitVec 8) (damage : Option (Fin 1152)) (s : State) :
    KeepsO 0x800000000000080000000000000000000000000000000000100000000000000a0000000 0x108ca9 s (execDataPoisoned src txn damage s) := by
  unfold execDataPoisoned
  repeat' first
    | with_reducible first
        | apply KeepsO.done
        | apply Keeps.refl
    | (with_reducible apply Keeps.after (keeps_responseArrives ..) ?_ ?_ ?_) <;> [rfl; rfl; skip]

theorem keeps_execError (src : BitVec 13) (txn : BitVec 8) (damage : Option (Fin 1152)) (s : State) :
    KeepsO 0x800000000000080000000000000000000000000000000000100000000000000a0000000 0x108ca9 s (execError src txn damage s) := by
  unfold execError
  repeat' first
    | with_reducible first
        | apply KeepsO.done
        | apply Keeps.refl
    | (with_reducible apply Keeps.after (keeps_responseArrives ..) ?_ ?_ ?_) <;> [rfl; rfl; skip]

theorem keeps_holdEngine (e : ℕ) (s : State) :
    Keeps 0 0x800 s (holdEngine e s) := by
  unfold holdEngine
  repeat' first
    | with_reducible first
        | apply Keeps.refl
    | (with_reducible apply Keeps.after (keeps_modEng ..) ?_ ?_ ?_) <;> [rfl; rfl; skip]
    | split

theorem keeps_takeReq (r : Req) (s : State) :
    Keeps 0 0x80 s (takeReq r s) := by
  unfold takeReq
  repeat' first
    | with_reducible first
        | apply Keeps.refl
    | (with_reducible apply Keeps.after (keeps_landed ..) ?_ ?_ ?_) <;> [rfl; rfl; skip]
    | simp (disch := first | exact Or.inl rfl | with_reducible exact Or.inr rfl | rfl) only [Keeps.upd]

theorem keeps_execForcedNetworkAccess (e : Fin 512) (src : BitVec 13) (txn : BitVec 8) (ups : List (List ℕ)) (s : State) :
    KeepsO 0x800000000000080000000000000000000000000000000000100000000000000bc000000 0x10aca9 s (execForcedNetworkAccess e src txn ups s) := by
  unfold execForcedNetworkAccess
  repeat' first
    | with_reducible first
        | apply KeepsO.done
        | apply Keeps.refl
        | apply Keeps.andThen (Keeps.guarded ?_) ?_
    | (with_reducible apply Keeps.after (keeps_reach (by assumption)) ?_ ?_ ?_) <;> [rfl; rfl; skip]
    | (with_reducible apply Keeps.after (keeps_engineRequest ..) ?_ ?_ ?_) <;> [rfl; rfl; skip]
    | (with_reducible apply Keeps.after (keeps_responseArrives ..) ?_ ?_ ?_) <;> [rfl; rfl; skip]
    | (with_reducible apply Keeps.after (keeps_holdEngine ..) ?_ ?_ ?_) <;> [rfl; rfl; skip]
    | (with_reducible apply Keeps.after (keeps_takeReq ..) ?_ ?_ ?_) <;> [rfl; rfl; skip]
    | split

theorem keeps_execLateResponse (src : BitVec 13) (txn : BitVec 8) (s : State) :
    KeepsO 0x800000000000000c0000000 0x80 s (execLateResponse src txn s) := by
  unfold execLateResponse
  repeat' first
    | with_reducible first
        | apply KeepsO.done
        | apply Keeps.refl
        | apply Keeps.andThen (Keeps.guarded ?_) ?_
    | (with_reducible apply Keeps.after (keeps_satAdd ..) ?_ ?_ ?_) <;> [(first | rfl | (dsimp only; rfl)); rfl; skip]
    | (with_reducible apply Keeps.after (keeps_portRegs ..) ?_ ?_ ?_) <;> [rfl; rfl; skip]
    | (with_reducible apply Keeps.getD (keeps_reach_of _ _) ?_ ?_ ?_ ?_) <;> [rfl; rfl; skip; skip]
    | (with_reducible apply Keeps.after (keeps_takeResp ..) ?_ ?_ ?_) <;> [rfl; rfl; skip]
    | simp (disch := first | exact Or.inl rfl | with_reducible exact Or.inr rfl | rfl) only [Keeps.upd]
    | split

theorem keeps_serveRequest_of (ups : List (List ℕ)) (u : Upset) (parity : BitVec 16) (r : Req) (s : State) :
    KeepsP 0x30000008000000000000000000000000000008241000ff3000000000000000000000001c000000 0x26ca9 s (serveRequest ups u parity r s) := by
  unfold serveRequest
  repeat' first
    | with_reducible first
        | apply KeepsP.some
        | apply KeepsP.none
        | apply Keeps.refl
    | (with_reducible apply Keeps.after (keeps_walks ..) ?_ ?_ ?_) <;> [rfl; rfl; skip]
    | (with_reducible apply Keeps.after (keeps_respond ..) ?_ ?_ ?_) <;> [rfl; rfl; skip]
    | (with_reducible apply Keeps.after (keeps_agentServe ..) ?_ ?_ ?_) <;> [rfl; rfl; skip]
    | (with_reducible apply Keeps.after (keeps_dirParity ..) ?_ ?_ ?_) <;> [rfl; rfl; skip]
    | (with_reducible apply Keeps.after (keeps_engineRequest ..) ?_ ?_ ?_) <;> [rfl; rfl; skip]
    | (with_reducible apply Keeps.after (keeps_takeReq ..) ?_ ?_ ?_) <;> [rfl; rfl; skip]
    | (with_reducible apply Keeps.after (keeps_frontEnd ..) ?_ ?_ ?_) <;> [rfl; rfl; skip]
    | (with_reducible apply Keeps.after (keeps_vaultRequest ..) ?_ ?_ ?_) <;> [rfl; rfl; skip]
    | (with_reducible apply KeepsP.after (keeps_windowArrives_of _ _ _) ?_ ?_ ?_) <;> [rfl; rfl; skip]
    | split
    | dsimp only

theorem keeps_serveRequest {ups : List (List ℕ)} {u : Upset} {parity : BitVec 16} {r : Req} {s : State} {t : State} (he : serveRequest ups u parity r s = some t) :
    Keeps 0x30000008000000000000000000000000000008241000ff3000000000000000000000001c000000 0x26ca9 s t :=
  keeps_serveRequest_of ups u parity r s t he

theorem keeps_requestArrives (op : NetOp) (src : ℕ) (txn : ℕ) (ups : List (List ℕ)) (u : Upset) (parity : BitVec 16) (damage : Option (Fin 1152)) (s : State) :
    Keeps 0x30000008000000000000000000000000000008241000ff3000000000000000000000003c000000 0x26ca9 s (requestArrives op src txn ups u parity damage s) := by
  unfold requestArrives
  repeat' first
    | with_reducible first
        | apply Keeps.refl
    | (with_reducible apply Keeps.after (keeps_reach (by assumption)) ?_ ?_ ?_) <;> [rfl; rfl; skip]
    | (with_reducible apply Keeps.after (keeps_crcDrop ..) ?_ ?_ ?_) <;> [rfl; rfl; skip]
    | (with_reducible apply Keeps.after (keeps_takeReq ..) ?_ ?_ ?_) <;> [rfl; rfl; skip]
    | (with_reducible apply Keeps.getD (keeps_serveRequest_of _ _ _ _ _) ?_ ?_ ?_ ?_) <;> [rfl; rfl; skip; skip]
    | split

theorem keeps_keeperAccess (who : Who) (op : NetOp) (src : ℕ) (da : ℕ) (len : ℕ) (data : Line) (s : State) :
    Keeps 0x8000000000000800000000000000000000000000000000001000000000000009c000000 0x10aca9 s (keeperAccess who op src da len data s).2 := by
  unfold keeperAccess
  repeat' first
    | with_reducible first
        | apply Keeps.refl
    | (with_reducible apply Keeps.after (keeps_completeAt ..) ?_ ?_ ?_) <;> [rfl; rfl; skip]
    | (with_reducible apply Keeps.after (keeps_netAdmit_sent (by assumption)) ?_ ?_ ?_) <;> [rfl; rfl; skip]
    | (with_reducible apply Keeps.after (keeps_netAdmit_answered (by assumption)) ?_ ?_ ?_) <;> [rfl; rfl; skip]
    | split
    | dsimp only

theorem keeps_keeperAccess_eq {who : Who} {op : NetOp} {src : ℕ} {da : ℕ} {len : ℕ} {data : Line} {s : State} {out} {t : State} (he : keeperAccess who op src da len data s = (out, t)) :
    Keeps 0x8000000000000800000000000000000000000000000000001000000000000009c000000 0x10aca9 s t := by
  have := keeps_keeperAccess who op src da len data s
  rwa [he] at this

theorem keeps_requestOf (op : NetOp) (f : NetFrom) (s : State) :
    Keeps 0x8000000000000800000000000000000000000000000000001000000000000009c000000 0x10aca9 s (requestOf op f s).2 := by
  unfold requestOf
  repeat' first
    | with_reducible first
        | apply Keeps.refl
    | (with_reducible apply Keeps.after (keeps_keeperAccess ..) ?_ ?_ ?_) <;> [rfl; rfl; skip]
    | split

theorem keeps_requestOf_eq {op : NetOp} {f : NetFrom} {s : State} {out} {t : State} (he : requestOf op f s = (out, t)) :
    Keeps 0x8000000000000800000000000000000000000000000000001000000000000009c000000 0x10aca9 s t := by
  have := keeps_requestOf op f s
  rwa [he] at this

theorem keeps_execRead (f : NetFrom) (ups : List (List ℕ)) (u : Upset) (parity : BitVec 16) (damage : Option (Fin 1152)) (s : State) :
    KeepsO 0x30000008000000000000800000000000000008241000ff300000000100000000000000bc000000 0x12eca9 s (execRead f ups u parity damage s) := by
  unfold execRead
  repeat' first
    | with_reducible first
        | apply KeepsO.done
        | apply Keeps.refl
    | (with_reducible apply Keeps.after (keeps_requestArrives ..) ?_ ?_ ?_) <;> [rfl; rfl; skip]
    | (with_reducible apply Keeps.after (keeps_requestOf_eq (by assumption)) ?_ ?_ ?_) <;> [rfl; rfl; skip]
    | split

theorem keeps_execTimeout (src : BitVec 13) (txn : BitVec 8) (s : State) :
    KeepsO 0x8000000000000800000000000000000000000000000000001000000000000009c000000 0x108ca9 s (execTimeout src txn s) := by
  unfold execTimeout
  repeat' first
    | with_reducible first
        | apply KeepsO.done
        | apply Keeps.refl
        | apply Keeps.andThen (Keeps.guarded ?_) ?_
    | (with_reducible apply Keeps.after (keeps_raise ..) ?_ ?_ ?_) <;> [rfl; rfl; skip]
    | (with_reducible apply Keeps.after (keeps_netError ..) ?_ ?_ ?_) <;> [rfl; rfl; skip]
    | (with_reducible apply Keeps.after (keeps_completeAt ..) ?_ ?_ ?_) <;> [rfl; rfl; skip]
    | (with_reducible apply Keeps.after (keeps_takeOutst ..) ?_ ?_ ?_) <;> [rfl; rfl; skip]
    | simp (disch := first | exact Or.inl rfl | with_reducible exact Or.inr rfl | rfl) only [Keeps.upd]
    | split

theorem keeps_execWrite (f : NetFrom) (ups : List (List ℕ)) (u : Upset) (parity : BitVec 16) (damage : Option (Fin 1152)) (s : State) :
    KeepsO 0x30000008000000000000800000000000000008241000ff300000000100000000000000bc000000 0x12eca9 s (execWrite f ups u parity damage s) := by
  unfold execWrite
  repeat' first
    | with_reducible first
        | apply KeepsO.done
        | apply Keeps.refl
    | (with_reducible apply Keeps.after (keeps_requestArrives ..) ?_ ?_ ?_) <;> [rfl; rfl; skip]
    | (with_reducible apply Keeps.after (keeps_requestOf_eq (by assumption)) ?_ ?_ ?_) <;> [rfl; rfl; skip]
    | split

end Sys2Proof.Machine
end

