-- ==== Sys2Proof/Laws/KeepsPins.lean ====
section
/-! SUPPORT. The frames of the operations of Machine/Pins.lean: what each can change, and that it keeps the stores canonical. -/

namespace Sys2Proof.Machine
open Sys2Proof

theorem keeps_setUart (u : ℕ) (tx : List Byte) (rx : List Byte) (s : State) :
    Keeps 0x800000000000000000000000000000000000000000000000000000000000000000000000000000000 0x80000 s (setUart u tx rx s) := by
  unfold setUart
  repeat' first
    | with_reducible first
        | apply Keeps.refl
    | (with_reducible apply Keeps.after (keeps_wr ..) ?_ ?_ ?_) <;> [(first | rfl | (dsimp only; rfl)); rfl; skip]
    | simp (disch := first | exact Or.inl rfl | with_reducible exact Or.inr rfl | rfl) only [Keeps.upd]

theorem keeps_uartGet (u : ℕ) (s : State) :
    Keeps 0x800000000000000000000000000000000000000000000000000000000000000000000000000000000 0x80004 s (uartGet u s) := by
  unfold uartGet
  repeat' first
    | with_reducible first
        | apply Keeps.refl
    | (with_reducible apply Keeps.after (keeps_setUart ..) ?_ ?_ ?_) <;> [rfl; rfl; skip]
    | simp (disch := first | exact Or.inl rfl | with_reducible exact Or.inr rfl | rfl) only [Keeps.upd]
    | split

theorem keeps_lineSees (n : ℕ) (level : Bool) (s : State) :
    Keeps 0x10000000000000000000000000000000000000000000000000000000000000000000000000000000 0x80000 s (lineSees n level s) := by
  unfold lineSees
  repeat' first
    | with_reducible first
        | apply Keeps.refl
    | (with_reducible apply Keeps.after (keeps_wrBit ..) ?_ ?_ ?_) <;> [(first | rfl | (dsimp only; rfl)); rfl; skip]
    | simp (disch := first | exact Or.inl rfl | with_reducible exact Or.inr rfl | rfl) only [Keeps.upd]
    | split

theorem keeps_pinGuard {R P : Nat} {src : Actor} {pins : List Nat} {f : State → State} {s : State}
    (hR : 0xe0000000000000000000000000000000000000000000000000000000000000 ||| R = R) (hP : 0 ||| P = P) (h : Keeps R P s (f s)) : Keeps R P s (pinGuard src pins f s) := by
  unfold pinGuard
  split
  · exact (keeps_wardLog ..).mono hR hP
  · exact h

theorem keeps_evlWrite (src : Actor) (n : ℕ) (v : Word) (s : State) :
    Keeps 0x180000000000000000e0000000000000000000000000000000000000000000000000000000000000 0x80000 s (evlWrite src n v s) := by
  unfold evlWrite
  repeat' first
    | with_reducible first
        | apply Keeps.refl
    | (with_reducible apply Keeps.after (keeps_wr ..) ?_ ?_ ?_) <;> [(first | rfl | (dsimp only; rfl)); rfl; skip]
    | (with_reducible apply Keeps.after (keeps_lineSees ..) ?_ ?_ ?_) <;> [rfl; rfl; skip]
    | (with_reducible apply Keeps.andThen (keeps_pinGuard ?_ ?_ ?_) ?_) <;> [rfl; rfl; skip; skip]
    | simp (disch := first | exact Or.inl rfl | with_reducible exact Or.inr rfl | rfl) only [Keeps.upd]
    | split

theorem keeps_evstatWrite (v : Word) (s : State) :
    Keeps 0x10000000000000000000000000000000000000000000000000000000000000000000000000000000 0 s (evstatWrite v s) := by
  unfold evstatWrite
  repeat' first
    | with_reducible first
        | apply Keeps.refl
        | apply Keeps.andThen (Keeps.foldl (fun t a => ?_)) ?_
    | (with_reducible apply Keeps.after (keeps_wrBit ..) ?_ ?_ ?_) <;> [(first | rfl | (dsimp only; rfl)); rfl; skip]
    | split

theorem keeps_i2cStart (b : ℕ) (v : Word) (s : State) :
    Keeps 0x80000000000000000000000000000000000000000000000000000000000000000000000000000000 0x80008 s (i2cStart b v s) := by
  unfold i2cStart
  repeat' first
    | with_reducible first
        | apply Keeps.refl
    | (with_reducible apply Keeps.after (keeps_on ..) ?_ ?_ ?_) <;> [(first | rfl | (dsimp only; rfl)); rfl; skip]
    | simp (disch := first | exact Or.inl rfl | with_reducible exact Or.inr rfl | rfl) only [Keeps.upd]

theorem keeps_i2cGo (b : ℕ) (v : Word) (s : State) :
    Keeps 0x80000000000000000000000000000000000000000000000000000000000000000000000000000000 0x80008 s (i2cGo b v s) := by
  unfold i2cGo
  repeat' first
    | with_reducible first
        | apply Keeps.refl
    | (with_reducible apply Keeps.after (keeps_on ..) ?_ ?_ ?_) <;> [(first | rfl | (dsimp only; rfl)); rfl; skip]
    | (with_reducible apply Keeps.after (keeps_i2cStart ..) ?_ ?_ ?_) <;> [rfl; rfl; skip]
    | split

theorem keeps_startGap (i : ℕ) (s : State) :
    Keeps 0x1000000000000000000000000000000000000000000000000000000000000000000000000000000 0x80000 s (startGap i s) := by
  unfold startGap
  repeat' first
    | with_reducible first
        | apply Keeps.refl
    | (with_reducible apply Keeps.after (keeps_on ..) ?_ ?_ ?_) <;> [(first | rfl | (dsimp only; rfl)); rfl; skip]
    | simp (disch := first | exact Or.inl rfl | with_reducible exact Or.inr rfl | rfl) only [Keeps.upd]

theorem keeps_mapWrite (src : Actor) (m : ℕ) (v : Word) (s : State) :
    Keeps 0x50000000000000000e0000000000000000000000000000000000000000000000000000000000000 0x80000 s (mapWrite src m v s) := by
  unfold mapWrite
  repeat' first
    | with_reducible first
        | apply Keeps.refl
        | apply Keeps.andThen (Keeps.foldl (fun t a => ?_)) ?_
    | (with_reducible apply Keeps.after (keeps_wr ..) ?_ ?_ ?_) <;> [(first | rfl | (dsimp only; rfl)); rfl; skip]
    | (with_reducible apply Keeps.andThen (keeps_pinGuard ?_ ?_ ?_) ?_) <;> [rfl; rfl; skip; skip]
    | (with_reducible apply Keeps.after (keeps_startGap ..) ?_ ?_ ?_) <;> [rfl; rfl; skip]

theorem keeps_pinWrite (i : ℕ) (v : Word) (s : State) :
    Keeps 0x1000000000000000000000000000000000000000000000000000000000000000000000000000000 0 s (pinWrite i v s) := by
  unfold pinWrite
  repeat' first
    | with_reducible first
        | apply Keeps.refl
    | (with_reducible apply Keeps.after (keeps_setReg ..) ?_ ?_ ?_) <;> [(first | rfl | (dsimp only; rfl)); rfl; skip]

theorem keeps_linesSee (s : State) :
    Keeps 0x10000000000000000000000000000000000000000000000000000000000000000000000000000000 0x80000 s (linesSee s) := by
  unfold linesSee
  repeat' first
    | with_reducible first
        | apply Keeps.refl
        | apply Keeps.foldl (fun t a => ?_)
    | (with_reducible apply Keeps.after (keeps_lineSees ..) ?_ ?_ ?_) <;> [rfl; rfl; skip]
    | split
    | dsimp only

theorem keeps_pinDrive (i : ℕ) (v : Word) (s : State) :
    Keeps 0x11000000000000000000000000000000000000000000000000000000000000000000000000000000 0x80000 s (pinDrive i v s) := by
  unfold pinDrive
  repeat' first
    | with_reducible first
        | apply Keeps.refl
    | (with_reducible apply Keeps.after (keeps_linesSee ..) ?_ ?_ ?_) <;> [rfl; rfl; skip]
    | (with_reducible apply Keeps.after (keeps_pinWrite ..) ?_ ?_ ?_) <;> [rfl; rfl; skip]

theorem keeps_execGapEnd (i : Fin 64) (s : State) :
    KeepsO 0x11000000000000000000000000000000000000000000000000000000000000000000000000000000 0x80000 s (execGapEnd i s) := by
  unfold execGapEnd
  repeat' first
    | with_reducible first
        | apply KeepsO.done
        | apply Keeps.refl
        | apply Keeps.andThen (Keeps.guarded ?_) ?_
    | (with_reducible apply Keeps.after (keeps_off ..) ?_ ?_ ?_) <;> [(first | rfl | (dsimp only; rfl)); rfl; skip]
    | (with_reducible apply Keeps.after (keeps_linesSee ..) ?_ ?_ ?_) <;> [rfl; rfl; skip]

theorem keeps_execPinRegisterWrite (src : Actor) (i : Fin 64) (v : Word) (s : State) :
    KeepsO 0x110000000000000000e0000000000000000000000000000000000000000000000000000000000000 0x80000 s (execPinRegisterWrite src i v s) := by
  unfold execPinRegisterWrite
  repeat' first
    | with_reducible first
        | apply KeepsO.done
        | apply Keeps.refl
    | (with_reducible apply Keeps.andThen (keeps_pinGuard ?_ ?_ ?_) ?_) <;> [rfl; rfl; skip; skip]
    | (with_reducible apply Keeps.after (keeps_pinDrive ..) ?_ ?_ ?_) <;> [rfl; rfl; skip]

theorem keeps_spiPut (p : ℕ) (v : Word) (s : State) :
    Keeps 0x4000000000000000000000000000000000000000000000000000000000000000000000000000000000 0x8 s (spiPut p v s) := by
  unfold spiPut
  repeat' first
    | with_reducible first
        | apply Keeps.refl
    | (with_reducible apply Keeps.after (keeps_on ..) ?_ ?_ ?_) <;> [(first | rfl | (dsimp only; rfl)); rfl; skip]
    | simp (disch := first | exact Or.inl rfl | with_reducible exact Or.inr rfl | rfl) only [Keeps.upd]
    | split

theorem keeps_uartPut (u : ℕ) (v : Word) (s : State) :
    Keeps 0x800000000000000000000000000000000000000000000000000000000000000000000000000000000 0x80000 s (uartPut u v s) := by
  unfold uartPut
  repeat' first
    | with_reducible first
        | apply Keeps.refl
    | (with_reducible apply Keeps.after (keeps_setUart ..) ?_ ?_ ?_) <;> [rfl; rfl; skip]
    | split
    | dsimp only

theorem keeps_i2cStore (b : ℕ) (l : List Byte) (s : State) :
    Keeps 0x100000000000000000000000000000000000000000000000000000000000000000000000000000000 0 s (i2cStore b l s) := by
  unfold i2cStore
  repeat' first
    | with_reducible first
        | apply Keeps.refl
        | apply Keeps.andThen (Keeps.foldl (fun t a => ?_)) ?_
    | (with_reducible apply Keeps.after (keeps_setReg ..) ?_ ?_ ?_) <;> [(first | rfl | (dsimp only; rfl)); rfl; skip]

theorem keeps_execEventLineWrite (src : Actor) (n : Fin 16) (v : Word) (s : State) :
    KeepsO 0x180000000000000000e0000000000000000000000000000000000000000000000000000000000000 0x80000 s (execEventLineWrite src n v s) := by
  unfold execEventLineWrite
  repeat' first
    | with_reducible first
        | apply KeepsO.done
        | apply Keeps.refl
    | (with_reducible apply Keeps.after (keeps_evlWrite ..) ?_ ?_ ?_) <;> [rfl; rfl; skip]

theorem keeps_execFunctionSwitch (src : Actor) (m : Fin 34) (v : Word) (s : State) :
    KeepsO 0x50000000000000000e0000000000000000000000000000000000000000000000000000000000000 0x80000 s (execFunctionSwitch src m v s) := by
  unfold execFunctionSwitch
  repeat' first
    | with_reducible first
        | apply KeepsO.done
        | apply Keeps.refl
    | (with_reducible apply Keeps.after (keeps_mapWrite ..) ?_ ?_ ?_) <;> [rfl; rfl; skip]

theorem keeps_setI2cLeft (b : ℕ) (o : Option I2cOpen) (s : State) :
    Keeps 0 0x80000 s (setI2cLeft b o s) := by
  unfold setI2cLeft
  repeat' first
    | with_reducible first
        | apply Keeps.refl
    | simp (disch := first | exact Or.inl rfl | with_reducible exact Or.inr rfl | rfl) only [Keeps.upd]

theorem keeps_i2cEnds (b : ℕ) (e : I2cEnd) (s : State) :
    Keeps 0x180000000000000000000000000000000000000000000000000000000000000000000000000000000 0x80000 s (i2cEnds b e s) := by
  unfold i2cEnds
  repeat' first
    | with_reducible first
        | apply Keeps.refl
    | (with_reducible apply Keeps.after (keeps_off ..) ?_ ?_ ?_) <;> [(first | rfl | (dsimp only; rfl)); rfl; skip]
    | (with_reducible apply Keeps.after (keeps_on ..) ?_ ?_ ?_) <;> [(first | rfl | (dsimp only; rfl)); rfl; skip]
    | (with_reducible apply Keeps.after (keeps_i2cStore ..) ?_ ?_ ?_) <;> [rfl; rfl; skip]
    | (with_reducible apply Keeps.after (keeps_setI2cLeft ..) ?_ ?_ ?_) <;> [rfl; rfl; skip]
    | split

theorem keeps_execI2cDone (b : Fin 4) (e : I2cEnd) (s : State) :
    KeepsO 0x180000000000000000000000000000000000000000000000000000000000000000000000000000000 0x80000 s (execI2cDone b e s) := by
  unfold execI2cDone
  repeat' first
    | with_reducible first
        | apply KeepsO.done
        | apply Keeps.refl
        | apply Keeps.andThen (Keeps.guarded ?_) ?_
    | (with_reducible apply Keeps.after (keeps_i2cEnds ..) ?_ ?_ ?_) <;> [rfl; rfl; skip]

theorem keeps_execI2cGo (src : Actor) (b : Fin 4) (v : Word) (s : State) :
    KeepsO 0x80000000000000000000000000000000000000000000000000000000000000000000000000000000 0x80008 s (execI2cGo src b v s) := by
  unfold execI2cGo
  repeat' first
    | with_reducible first
        | apply KeepsO.done
        | apply Keeps.refl
        | apply Keeps.andThen (Keeps.guarded ?_) ?_
    | (with_reducible apply Keeps.after (keeps_i2cGo ..) ?_ ?_ ?_) <;> [rfl; rfl; skip]

theorem keeps_execPinEvent (n : Fin 16) (level : Bool) (s : State) :
    KeepsO 0x10000000000000000000000000000000000000000000000000000000000000000000000000000000 0x80000 s (execPinEvent n level s) := by
  unfold execPinEvent
  repeat' first
    | with_reducible first
        | apply KeepsO.done
        | apply Keeps.refl
    | (with_reducible apply Keeps.after (keeps_lineSees ..) ?_ ?_ ?_) <;> [rfl; rfl; skip]
    | simp (disch := first | exact Or.inl rfl | with_reducible exact Or.inr rfl | rfl) only [Keeps.upd]

theorem keeps_execSmbusTimeout (b : Fin 4) (s : State) :
    KeepsO 0x80000000000000000000000000000000000000000000000000000000000000000000000000000000 0x80000 s (execSmbusTimeout b s) := by
  unfold execSmbusTimeout
  repeat' first
    | with_reducible first
        | apply KeepsO.done
        | apply Keeps.refl
        | apply Keeps.andThen (Keeps.guarded ?_) ?_
    | (with_reducible apply Keeps.after (keeps_off ..) ?_ ?_ ?_) <;> [(first | rfl | (dsimp only; rfl)); rfl; skip]
    | (with_reducible apply Keeps.after (keeps_on ..) ?_ ?_ ?_) <;> [(first | rfl | (dsimp only; rfl)); rfl; skip]
    | (with_reducible apply Keeps.after (keeps_setI2cLeft ..) ?_ ?_ ?_) <;> [rfl; rfl; skip]

theorem keeps_execSpiDone (bus : Fin 2) (b : BitVec 8) (s : State) :
    KeepsO 0x6000000000000000000000000000000000000000000000000000000000000000000000000000000000 0 s (execSpiDone bus b s) := by
  unfold execSpiDone
  repeat' first
    | with_reducible first
        | apply KeepsO.done
        | apply Keeps.refl
        | apply Keeps.andThen (Keeps.guarded ?_) ?_
    | (with_reducible apply Keeps.after (keeps_wr ..) ?_ ?_ ?_) <;> [(first | rfl | (dsimp only; rfl)); rfl; skip]
    | (with_reducible apply Keeps.after (keeps_off ..) ?_ ?_ ?_) <;> [(first | rfl | (dsimp only; rfl)); rfl; skip]

theorem keeps_execSpiExchange (src : Actor) (bus : Fin 2) (v : Word) (s : State) :
    KeepsO 0x4000000000000000000000000000000000000000000000000000000000000000000000000000000000 0x8 s (execSpiExchange src bus v s) := by
  unfold execSpiExchange
  repeat' first
    | with_reducible first
        | apply KeepsO.done
        | apply Keeps.refl
        | apply Keeps.andThen (Keeps.guarded ?_) ?_
    | (with_reducible apply Keeps.after (keeps_spiPut ..) ?_ ?_ ?_) <;> [rfl; rfl; skip]

theorem keeps_execTachEdge (f : Fin 4) (s : State) :
    KeepsO 0x10000000000000000000000000000000000000000000000000000000000000000000000000000000000 0x80000 s (execTachEdge f s) := by
  unfold execTachEdge
  repeat' first
    | with_reducible first
        | apply KeepsO.done
        | apply Keeps.refl
    | (with_reducible apply Keeps.after (keeps_wr ..) ?_ ?_ ?_) <;> [(first | rfl | (dsimp only; rfl)); rfl; skip]
    | simp (disch := first | exact Or.inl rfl | with_reducible exact Or.inr rfl | rfl) only [Keeps.upd]
    | split

theorem keeps_execTachTimeout (f : Fin 4) (s : State) :
    KeepsO 0x10000000000000000000000000000000000000000000000000000000000000000000000000000000000 0 s (execTachTimeout f s) := by
  unfold execTachTimeout
  repeat' first
    | with_reducible first
        | apply KeepsO.done
        | apply Keeps.refl
        | apply Keeps.andThen (Keeps.guarded ?_) ?_
    | (with_reducible apply Keeps.after (keeps_wr ..) ?_ ?_ ?_) <;> [(first | rfl | (dsimp only; rfl)); rfl; skip]

theorem keeps_execUartDataRead (u : Fin 2) (s : State) :
    KeepsO 0x800000000000000000000000000000000000000000000000000000000000000000000000000000000 0x80004 s (execUartDataRead u s) := by
  unfold execUartDataRead
  repeat' first
    | with_reducible first
        | apply KeepsO.done
        | apply Keeps.refl
    | (with_reducible apply Keeps.after (keeps_uartGet ..) ?_ ?_ ?_) <;> [rfl; rfl; skip]

theorem keeps_execUartDataWrite (src : Actor) (u : Fin 2) (v : Word) (s : State) :
    KeepsO 0x800000000000000000000000000000000000000000000000000000000000000000000000000000000 0x80000 s (execUartDataWrite src u v s) := by
  unfold execUartDataWrite
  repeat' first
    | with_reducible first
        | apply KeepsO.done
        | apply Keeps.refl
        | apply Keeps.andThen (Keeps.guarded ?_) ?_
    | (with_reducible apply Keeps.after (keeps_uartPut ..) ?_ ?_ ?_) <;> [rfl; rfl; skip]

theorem keeps_execUartReceive (u : Fin 2) (b : BitVec 8) (stop : Bool) (s : State) :
    KeepsO 0x800000000000000000000000000000000000000000000000000000000000000000000000000000000 0x80000 s (execUartReceive u b stop s) := by
  unfold execUartReceive
  repeat' first
    | with_reducible first
        | apply KeepsO.done
        | apply Keeps.refl
        | apply Keeps.andThen (Keeps.guarded ?_) ?_
    | (with_reducible apply Keeps.after (keeps_on ..) ?_ ?_ ?_) <;> [(first | rfl | (dsimp only; rfl)); rfl; skip]
    | (with_reducible apply Keeps.after (keeps_setUart ..) ?_ ?_ ?_) <;> [rfl; rfl; skip]
    | split
    | dsimp only

theorem keeps_execUartTransmit (u : Fin 2) (s : State) :
    KeepsO 0x800000000000000000000000000000000000000000000000000000000000000000000000000000000 0x80008 s (execUartTransmit u s) := by
  unfold execUartTransmit
  repeat' first
    | with_reducible first
        | apply KeepsO.done
        | apply Keeps.refl
        | apply Keeps.andThen (Keeps.guarded ?_) ?_
    | (with_reducible apply Keeps.after (keeps_setUart ..) ?_ ?_ ?_) <;> [rfl; rfl; skip]
    | simp (disch := first | exact Or.inl rfl | with_reducible exact Or.inr rfl | rfl) only [Keeps.upd]
    | split

end Sys2Proof.Machine
end

