-- ==== Sys2Proof/Laws/KeepsTumblerSets.lean ====
section
/-! SUPPORT. The frames of the operations of Machine/TumblerSets.lean: what each can change, and that it keeps the stores canonical. -/

namespace Sys2Proof.Machine
open Sys2Proof

theorem keeps_clearEngine (e : ℕ) (s : State) :
    Keeps 0 0xc00 s (clearEngine e s) := by
  unfold clearEngine
  repeat' first
    | with_reducible first
        | apply Keeps.refl
    | (with_reducible apply Keeps.after (keeps_setEng ..) ?_ ?_ ?_) <;> [rfl; rfl; skip]
    | (with_reducible apply Keeps.after (keeps_dropCodes ..) ?_ ?_ ?_) <;> [rfl; rfl; skip]
    | simp (disch := first | exact Or.inl rfl | with_reducible exact Or.inr rfl | rfl) only [Keeps.upd]

theorem keeps_tagChanged (e : ℕ) (old : Option ℕ) (s : State) :
    Keeps 0x200000000000000000 0xc00 s (tagChanged e old s) := by
  unfold tagChanged
  repeat' first
    | with_reducible first
        | apply Keeps.refl
    | (with_reducible apply Keeps.after (keeps_on ..) ?_ ?_ ?_) <;> [(first | rfl | (dsimp only; rfl)); rfl; skip]
    | (with_reducible apply Keeps.after (keeps_clearEngine ..) ?_ ?_ ?_) <;> [rfl; rfl; skip]
    | split

theorem keeps_setCfgWrite (k : ℕ) (v : Word) (s : State) :
    Keeps 0x10200000000000000000 0xc00 s (setCfgWrite k v s) := by
  unfold setCfgWrite
  repeat' first
    | with_reducible first
        | apply Keeps.refl
        | apply Keeps.andThen (Keeps.foldl (fun t a => ?_)) ?_
    | (with_reducible apply Keeps.after (keeps_wr ..) ?_ ?_ ?_) <;> [(first | rfl | (dsimp only; rfl)); rfl; skip]
    | (with_reducible apply Keeps.after (keeps_off ..) ?_ ?_ ?_) <;> [(first | rfl | (dsimp only; rfl)); rfl; skip]
    | (with_reducible apply Keeps.after (keeps_on ..) ?_ ?_ ?_) <;> [(first | rfl | (dsimp only; rfl)); rfl; skip]
    | (with_reducible apply Keeps.after (keeps_tagChanged ..) ?_ ?_ ?_) <;> [rfl; rfl; skip]
    | split
    | dsimp only

theorem keeps_setDbWrite (k : ℕ) (v : Word) (s : State) :
    Keeps 0 0x800 s (setDbWrite k v s) := by
  unfold setDbWrite
  repeat' first
    | with_reducible first
        | apply Keeps.refl
        | apply Keeps.andThen (Keeps.guarded ?_) ?_
        | apply Keeps.andThen (Keeps.foldl (fun t a => ?_)) ?_
    | (with_reducible apply Keeps.after (keeps_modEng ..) ?_ ?_ ?_) <;> [rfl; rfl; skip]

theorem keeps_startMembers (k : ℕ) (entry : ℕ) (s : State) :
    Keeps 0 0x800 s (startMembers k entry s) := by
  unfold startMembers
  repeat' first
    | with_reducible first
        | apply Keeps.refl
        | apply Keeps.andThen (Keeps.foldl (fun t a => ?_)) ?_
    | (with_reducible apply Keeps.after (keeps_modEng ..) ?_ ?_ ?_) <;> [rfl; rfl; skip]

theorem keeps_setJobWrite (k : ℕ) (v : Word) (s : State) :
    Keeps 0x10000000000000000000000000000000000000000240000000000000000000 0x8800 s (setJobWrite k v s) := by
  unfold setJobWrite
  repeat' first
    | with_reducible first
        | apply Keeps.refl
    | (with_reducible apply Keeps.after (keeps_wr ..) ?_ ?_ ?_) <;> [(first | rfl | (dsimp only; rfl)); rfl; skip]
    | (with_reducible apply Keeps.after (keeps_on ..) ?_ ?_ ?_) <;> [(first | rfl | (dsimp only; rfl)); rfl; skip]
    | (with_reducible apply Keeps.after (keeps_setJob ..) ?_ ?_ ?_) <;> [rfl; rfl; skip]
    | (with_reducible apply Keeps.after (keeps_freeGrants ..) ?_ ?_ ?_) <;> [rfl; rfl; skip]
    | (with_reducible apply Keeps.after (keeps_startMembers ..) ?_ ?_ ?_) <;> [rfl; rfl; skip]
    | split

theorem keeps_endStopping (k : ℕ) (code : ℕ) (s : State) :
    Keeps 0 0x800 s (endStopping k code s) := by
  unfold endStopping
  repeat' first
    | with_reducible first
        | apply Keeps.refl
    | (with_reducible apply Keeps.after (keeps_endCode ..) ?_ ?_ ?_) <;> [rfl; rfl; skip]
    | (with_reducible apply Keeps.after (keeps_stopMembers ..) ?_ ?_ ?_) <;> [rfl; rfl; skip]

theorem keeps_setStopWrite (k : ℕ) (v : Word) (s : State) :
    Keeps 0 0x800 s (setStopWrite k v s) := by
  unfold setStopWrite
  repeat' first
    | with_reducible first
        | apply Keeps.refl
        | apply Keeps.andThen (Keeps.guarded ?_) ?_
    | (with_reducible apply Keeps.after (keeps_endStopping ..) ?_ ?_ ?_) <;> [rfl; rfl; skip]

theorem keeps_emptyLink (e : ℕ) (d : ℕ) (s : State) :
    Keeps 0 0x800 s (emptyLink e d s) := by
  unfold emptyLink
  repeat' first
    | with_reducible first
        | apply Keeps.refl
    | (with_reducible apply Keeps.after (keeps_modEng ..) ?_ ?_ ?_) <;> [rfl; rfl; skip]

theorem keeps_closeLinks (e : ℕ) (old : State) (s : State) :
    Keeps 0 0x800 s (closeLinks e old s) := by
  unfold closeLinks
  repeat' first
    | with_reducible first
        | apply Keeps.refl
        | apply Keeps.andThen (Keeps.foldl (fun t a => ?_)) ?_
    | (with_reducible apply Keeps.after (keeps_emptyLink ..) ?_ ?_ ?_) <;> [rfl; rfl; skip]
    | split

theorem keeps_tmbCfgWrite (e : ℕ) (v : Word) (s : State) :
    Keeps 0x300000000000000000 0xc00 s (tmbCfgWrite e v s) := by
  unfold tmbCfgWrite
  repeat' first
    | with_reducible first
        | apply Keeps.refl
    | (with_reducible apply Keeps.after (keeps_wr ..) ?_ ?_ ?_) <;> [(first | rfl | (dsimp only; rfl)); rfl; skip]
    | (with_reducible apply Keeps.after (keeps_on ..) ?_ ?_ ?_) <;> [(first | rfl | (dsimp only; rfl)); rfl; skip]
    | (with_reducible apply Keeps.after (keeps_tagChanged ..) ?_ ?_ ?_) <;> [rfl; rfl; skip]
    | (with_reducible apply Keeps.after (keeps_closeLinks ..) ?_ ?_ ?_) <;> [rfl; rfl; skip]
    | split
    | dsimp only

theorem keeps_startTest (e : ℕ) (restore : Bool) (s : State) :
    Keeps 0x200000000000000000 0x800 s (startTest e restore s) := by
  unfold startTest
  repeat' first
    | with_reducible first
        | apply Keeps.refl
    | (with_reducible apply Keeps.after (keeps_modEng ..) ?_ ?_ ?_) <;> [rfl; rfl; skip]
    | (with_reducible apply Keeps.after (keeps_on ..) ?_ ?_ ?_) <;> [(first | rfl | (dsimp only; rfl)); rfl; skip]

theorem keeps_restoreGo (e : ℕ) (s : State) :
    Keeps 0x200000000000000000 0x800 s (restoreGo e s) := by
  unfold restoreGo
  repeat' first
    | with_reducible first
        | apply Keeps.refl
        | apply Keeps.andThen (Keeps.guarded ?_) ?_
    | (with_reducible apply Keeps.after (keeps_startTest ..) ?_ ?_ ?_) <;> [rfl; rfl; skip]

theorem keeps_selfTestGo (e : ℕ) (s : State) :
    Keeps 0x200000000000000000 0x800 s (selfTestGo e s) := by
  unfold selfTestGo
  repeat' first
    | with_reducible first
        | apply Keeps.refl
        | apply Keeps.andThen (Keeps.guarded ?_) ?_
    | (with_reducible apply Keeps.after (keeps_startTest ..) ?_ ?_ ?_) <;> [rfl; rfl; skip]

theorem keeps_stopGo (e : ℕ) (s : State) :
    Keeps 0 0x800 s (stopGo e s) := by
  unfold stopGo
  repeat' first
    | with_reducible first
        | apply Keeps.refl
    | (with_reducible apply Keeps.after (keeps_stopEngine ..) ?_ ?_ ?_) <;> [rfl; rfl; skip]
    | (with_reducible apply Keeps.after (keeps_endStopping ..) ?_ ?_ ?_) <;> [rfl; rfl; skip]
    | split

theorem keeps_tmoWrite (v : Word) (s : State) :
    Keeps 0x200000 0 s (tmoWrite v s) := by
  unfold tmoWrite
  repeat' first
    | with_reducible first
        | apply Keeps.refl
    | (with_reducible apply Keeps.after (keeps_wr ..) ?_ ?_ ?_) <;> [(first | rfl | (dsimp only; rfl)); rfl; skip]
    | split
    | dsimp only

theorem keeps_windowCfgWrite (w : ℕ) (v : Word) (s : State) :
    Keeps 0x1000000000000000000000 0 s (windowCfgWrite w v s) := by
  unfold windowCfgWrite
  repeat' first
    | with_reducible first
        | apply Keeps.refl
    | (with_reducible apply Keeps.after (keeps_wr ..) ?_ ?_ ?_) <;> [(first | rfl | (dsimp only; rfl)); rfl; skip]
    | (with_reducible apply Keeps.after (keeps_off ..) ?_ ?_ ?_) <;> [(first | rfl | (dsimp only; rfl)); rfl; skip]
    | (with_reducible apply Keeps.after (keeps_on ..) ?_ ?_ ?_) <;> [(first | rfl | (dsimp only; rfl)); rfl; skip]
    | split
    | dsimp only

theorem keeps_retireEngine (e : ℕ) (cause : ℕ) (s : State) :
    Keeps 0x8000000000000000000000000000000000000000000000000000220000000001c000000 0x8a1 s (retireEngine e cause s) := by
  unfold retireEngine
  repeat' first
    | with_reducible first
        | apply Keeps.refl
        | apply Keeps.andThen (Keeps.foldl (fun t a => ?_)) ?_
    | (with_reducible apply Keeps.after (keeps_modEng ..) ?_ ?_ ?_) <;> [rfl; rfl; skip]
    | (with_reducible apply Keeps.after (keeps_wr ..) ?_ ?_ ?_) <;> [(first | rfl | (dsimp only; rfl)); rfl; skip]
    | (with_reducible apply Keeps.after (keeps_on ..) ?_ ?_ ?_) <;> [(first | rfl | (dsimp only; rfl)); rfl; skip]
    | (with_reducible apply Keeps.after (keeps_respond ..) ?_ ?_ ?_) <;> [rfl; rfl; skip]
    | (with_reducible apply Keeps.after (keeps_engineCause ..) ?_ ?_ ?_) <;> [(first | rfl | (dsimp only; rfl)); rfl; skip]
    | (with_reducible apply Keeps.after (keeps_endCode ..) ?_ ?_ ?_) <;> [rfl; rfl; skip]
    | (with_reducible apply Keeps.after (keeps_checkDone ..) ?_ ?_ ?_) <;> [rfl; rfl; skip]
    | (with_reducible apply Keeps.after (keeps_stopEngine ..) ?_ ?_ ?_) <;> [rfl; rfl; skip]
    | (with_reducible apply Keeps.after (keeps_stopMembers ..) ?_ ?_ ?_) <;> [rfl; rfl; skip]
    | split

theorem keeps_endTest (e : ℕ) (sig : Word) (s : State) :
    Keeps 0x8000000000000000000000000000000000000000000000000000320000000001c000000 0x8a1 s (endTest e sig s) := by
  unfold endTest
  repeat' first
    | with_reducible first
        | apply Keeps.refl
    | (with_reducible apply Keeps.after (keeps_setEng ..) ?_ ?_ ?_) <;> [rfl; rfl; skip]
    | (with_reducible apply Keeps.after (keeps_wr ..) ?_ ?_ ?_) <;> [(first | rfl | (dsimp only; rfl)); rfl; skip]
    | (with_reducible apply Keeps.after (keeps_off ..) ?_ ?_ ?_) <;> [(first | rfl | (dsimp only; rfl)); rfl; skip]
    | (with_reducible apply Keeps.after (keeps_on ..) ?_ ?_ ?_) <;> [(first | rfl | (dsimp only; rfl)); rfl; skip]
    | (with_reducible apply Keeps.after (keeps_engineCause ..) ?_ ?_ ?_) <;> [(first | rfl | (dsimp only; rfl)); rfl; skip]
    | (with_reducible apply Keeps.after (keeps_retireEngine ..) ?_ ?_ ?_) <;> [rfl; rfl; skip]
    | split

theorem keeps_execClearingEnd (e : Fin 512) (s : State) :
    KeepsO 0x200000000000000000 0 s (execClearingEnd e s) := by
  unfold execClearingEnd
  repeat' first
    | with_reducible first
        | apply KeepsO.done
        | apply Keeps.refl
        | apply Keeps.andThen (Keeps.guarded ?_) ?_
    | (with_reducible apply Keeps.after (keeps_off ..) ?_ ?_ ?_) <;> [(first | rfl | (dsimp only; rfl)); rfl; skip]

theorem keeps_execEngineRestore (e : Fin 512) (s : State) :
    KeepsO 0x200000000000000000 0x800 s (execEngineRestore e s) := by
  unfold execEngineRestore
  repeat' first
    | with_reducible first
        | apply KeepsO.done
        | apply Keeps.refl
    | (with_reducible apply Keeps.after (keeps_restoreGo ..) ?_ ?_ ?_) <;> [rfl; rfl; skip]

theorem keeps_execEngineSelfTest (e : Fin 512) (s : State) :
    KeepsO 0x200000000000000000 0x800 s (execEngineSelfTest e s) := by
  unfold execEngineSelfTest
  repeat' first
    | with_reducible first
        | apply KeepsO.done
        | apply Keeps.refl
    | (with_reducible apply Keeps.after (keeps_selfTestGo ..) ?_ ?_ ?_) <;> [rfl; rfl; skip]

theorem keeps_execEngineSelfTestDone (e : Fin 512) (sig : Word) (s : State) :
    KeepsO 0x8000000000000000000000000000000000000000000000000000320000000001c000000 0x8a1 s (execEngineSelfTestDone e sig s) := by
  unfold execEngineSelfTestDone
  repeat' first
    | with_reducible first
        | apply KeepsO.done
        | apply Keeps.refl
        | apply Keeps.andThen (Keeps.guarded ?_) ?_
    | (with_reducible apply Keeps.after (keeps_endTest ..) ?_ ?_ ?_) <;> [rfl; rfl; skip]

theorem keeps_execEngineStop (e : Fin 512) (s : State) :
    KeepsO 0 0x800 s (execEngineStop e s) := by
  unfold execEngineStop
  repeat' first
    | with_reducible first
        | apply KeepsO.done
        | apply Keeps.refl
    | (with_reducible apply Keeps.after (keeps_stopGo ..) ?_ ?_ ?_) <;> [rfl; rfl; skip]

theorem keeps_retireForProgram (old : State) (e : ℕ) (s : State) :
    Keeps 0x8000000000000000000000000000000000000000000000000000220000000001c000000 0x8a1 s (retireForProgram old e s) := by
  unfold retireForProgram
  repeat' first
    | with_reducible first
        | apply Keeps.refl
    | (with_reducible apply Keeps.after (keeps_retireEngine ..) ?_ ?_ ?_) <;> [rfl; rfl; skip]
    | split

theorem keeps_execJobEnd (k : Fin 64) (s : State) :
    KeepsO 0x80000000000000000000000000000000000000000000000000202000000000000000000 0x821 s (execJobEnd k s) := by
  unfold execJobEnd
  repeat' first
    | with_reducible first
        | apply KeepsO.done
        | apply Keeps.refl
        | apply Keeps.andThen (Keeps.guarded ?_) ?_
    | (with_reducible apply Keeps.after (keeps_wr ..) ?_ ?_ ?_) <;> [(first | rfl | (dsimp only; rfl)); rfl; skip]
    | (with_reducible apply Keeps.after (keeps_off ..) ?_ ?_ ?_) <;> [(first | rfl | (dsimp only; rfl)); rfl; skip]
    | (with_reducible apply Keeps.after (keeps_setJob ..) ?_ ?_ ?_) <;> [rfl; rfl; skip]
    | (with_reducible apply Keeps.after (keeps_engineCause ..) ?_ ?_ ?_) <;> [(first | rfl | (dsimp only; rfl)); rfl; skip]
    | split

theorem keeps_execJobGo (k : Fin 64) (v : Word) (s : State) :
    KeepsO 0x10000000000000000000000000000000000000000240000000000000000000 0x8800 s (execJobGo k v s) := by
  unfold execJobGo
  repeat' first
    | with_reducible first
        | apply KeepsO.done
        | apply Keeps.refl
    | (with_reducible apply Keeps.after (keeps_setJobWrite ..) ?_ ?_ ?_) <;> [rfl; rfl; skip]

theorem keeps_execJobTimeout (k : Fin 64) (s : State) :
    KeepsO 0 0x800 s (execJobTimeout k s) := by
  unfold execJobTimeout
  repeat' first
    | with_reducible first
        | apply KeepsO.done
        | apply Keeps.refl
        | apply Keeps.andThen (Keeps.guarded ?_) ?_
    | (with_reducible apply Keeps.after (keeps_endStopping ..) ?_ ?_ ?_) <;> [rfl; rfl; skip]

theorem keeps_execKrvTmoWrite (v : Word) (s : State) :
    KeepsO 0x200000 0 s (execKrvTmoWrite v s) := by
  unfold execKrvTmoWrite
  repeat' first
    | with_reducible first
        | apply KeepsO.done
        | apply Keeps.refl
    | (with_reducible apply Keeps.after (keeps_tmoWrite ..) ?_ ?_ ?_) <;> [rfl; rfl; skip]

theorem keeps_execSetCfgWrite (k : Fin 64) (v : Word) (s : State) :
    KeepsO 0x10200000000000000000 0xc00 s (execSetCfgWrite k v s) := by
  unfold execSetCfgWrite
  repeat' first
    | with_reducible first
        | apply KeepsO.done
        | apply Keeps.refl
    | (with_reducible apply Keeps.after (keeps_setCfgWrite ..) ?_ ?_ ?_) <;> [rfl; rfl; skip]

theorem keeps_execSetStop (k : Fin 64) (v : Word) (s : State) :
    KeepsO 0 0x800 s (execSetStop k v s) := by
  unfold execSetStop
  repeat' first
    | with_reducible first
        | apply KeepsO.done
        | apply Keeps.refl
    | (with_reducible apply Keeps.after (keeps_setStopWrite ..) ?_ ?_ ?_) <;> [rfl; rfl; skip]

theorem keeps_execTmbCfgWrite (e : Fin 512) (v : Word) (s : State) :
    KeepsO 0x300000000000000000 0xc00 s (execTmbCfgWrite e v s) := by
  unfold execTmbCfgWrite
  repeat' first
    | with_reducible first
        | apply KeepsO.done
        | apply Keeps.refl
    | (with_reducible apply Keeps.after (keeps_tmbCfgWrite ..) ?_ ?_ ?_) <;> [rfl; rfl; skip]

theorem keeps_execTmbSetsDb (k : Fin 64) (v : Word) (s : State) :
    KeepsO 0 0x800 s (execTmbSetsDb k v s) := by
  unfold execTmbSetsDb
  repeat' first
    | with_reducible first
        | apply KeepsO.done
        | apply Keeps.refl
    | (with_reducible apply Keeps.after (keeps_setDbWrite ..) ?_ ?_ ?_) <;> [rfl; rfl; skip]

theorem keeps_execWindowBoundExpiry (src : BitVec 13) (txn : BitVec 8) (s : State) :
    KeepsO 0x20000000000000000000000 0x88 s (execWindowBoundExpiry src txn s) := by
  unfold execWindowBoundExpiry
  repeat' first
    | with_reducible first
        | apply KeepsO.done
        | apply Keeps.refl
        | apply Keeps.andThen (Keeps.guarded ?_) ?_
    | (with_reducible apply Keeps.after (keeps_satAdd ..) ?_ ?_ ?_) <;> [(first | rfl | (dsimp only; rfl)); rfl; skip]
    | (with_reducible apply Keeps.after (keeps_hostAnswer ..) ?_ ?_ ?_) <;> [rfl; rfl; skip]
    | simp (disch := first | exact Or.inl rfl | with_reducible exact Or.inr rfl | rfl) only [Keeps.upd]
    | split

theorem keeps_execWindowEnable (w : Fin 16) (v : Word) (s : State) :
    KeepsO 0x1000000000000000000000 0 s (execWindowEnable w v s) := by
  unfold execWindowEnable
  repeat' first
    | with_reducible first
        | apply KeepsO.done
        | apply Keeps.refl
    | (with_reducible apply Keeps.after (keeps_windowCfgWrite ..) ?_ ?_ ?_) <;> [rfl; rfl; skip]

theorem keeps_execWindowRead (n : Fin 16) (id : HostId) (dpa : ℕ) (s : State) :
    KeepsO 0x14000000000000009c000000 0x2088 s (execWindowRead n id dpa s) := by
  unfold execWindowRead
  repeat' first
    | with_reducible first
        | apply KeepsO.done
        | apply Keeps.refl
        | apply Keeps.andThen (Keeps.guarded ?_) ?_
    | (with_reducible apply Keeps.after (keeps_hostRequest ..) ?_ ?_ ?_) <;> [rfl; rfl; skip]

theorem keeps_execWindowWrite (n : Fin 16) (id : HostId) (dpa : ℕ) (len : ℕ) (data : BitVec 512) (s : State) :
    KeepsO 0x14000000000000009c000000 0x2088 s (execWindowWrite n id dpa len data s) := by
  unfold execWindowWrite
  repeat' first
    | with_reducible first
        | apply KeepsO.done
        | apply Keeps.refl
        | apply Keeps.andThen (Keeps.guarded ?_) ?_
    | (with_reducible apply Keeps.after (keeps_hostRequest ..) ?_ ?_ ?_) <;> [rfl; rfl; skip]

end Sys2Proof.Machine
end

