-- ==== Sys2Proof/Laws/KeepsPower.lean ====
section
/-! SUPPORT. The frames of the operations of Machine/Power.lean: what each can change, and that it keeps the stores canonical. -/

namespace Sys2Proof.Machine
open Sys2Proof

theorem keeps_mntReqWrite (v : Word) (s : State) :
    Keeps 0x340000000000000000000000000000000000000000000000000000000000000000000000000000 0x20000 s (mntReqWrite v s) := by
  unfold mntReqWrite
  repeat' first
    | with_reducible first
        | apply Keeps.refl
    | (with_reducible apply Keeps.after (keeps_wr ..) ?_ ?_ ?_) <;> [(first | rfl | (dsimp only; rfl)); rfl; skip]
    | (with_reducible apply Keeps.after (keeps_mntRecord ..) ?_ ?_ ?_) <;> [rfl; rfl; skip]
    | split
    | dsimp only

theorem keeps_mntDoneWrite (v : Word) (s : State) :
    Keeps 0x304240080000000000000000100002250000000000000920000000000000000000000080000000 0x667a1 s (mntDoneWrite v s) := by
  unfold mntDoneWrite
  repeat' first
    | with_reducible first
        | apply Keeps.refl
    | (with_reducible apply Keeps.after (keeps_trstAdvance ..) ?_ ?_ ?_) <;> [rfl; rfl; skip]
    | (with_reducible apply Keeps.after (keeps_mntEnd ..) ?_ ?_ ?_) <;> [rfl; rfl; skip]
    | split
    | dsimp only

theorem keeps_modeGo (s : State) :
    Keeps 0x4200000000000000000000000000000000000000000000000000000000000000000000000000 0x40000 s (modeGo s) := by
  unfold modeGo
  repeat' first
    | with_reducible first
        | apply Keeps.refl
    | (with_reducible apply Keeps.after (keeps_on ..) ?_ ?_ ?_) <;> [(first | rfl | (dsimp only; rfl)); rfl; skip]
    | (with_reducible apply Keeps.after (keeps_broadcast ..) ?_ ?_ ?_) <;> [rfl; rfl; skip]
    | split

theorem keeps_groupOff (d : ℕ) (s : State) :
    Keeps 0x1000020000000000000000000000000000000000008e0080000000 0x780 s (groupOff d s) := by
  unfold groupOff
  repeat' first
    | with_reducible first
        | apply Keeps.refl
    | (with_reducible apply Keeps.after (keeps_closeSectors ..) ?_ ?_ ?_) <;> [rfl; rfl; skip]
    | (with_reducible apply Keeps.after (keeps_instOff ..) ?_ ?_ ?_) <;> [rfl; rfl; skip]
    | simp (disch := first | exact Or.inl rfl | with_reducible exact Or.inr rfl | rfl) only [Keeps.upd]

theorem keeps_halfOff (d : ℕ) (s : State) :
    Keeps 0x2000008e0000000000 0xc00 s (halfOff d s) := by
  unfold halfOff
  repeat' first
    | with_reducible first
        | apply Keeps.refl
        | apply Keeps.andThen (Keeps.foldl (fun t a => ?_)) ?_
    | (with_reducible apply Keeps.after (keeps_setEng ..) ?_ ?_ ?_) <;> [rfl; rfl; skip]
    | (with_reducible apply Keeps.after (keeps_off ..) ?_ ?_ ?_) <;> [(first | rfl | (dsimp only; rfl)); rfl; skip]
    | (with_reducible apply Keeps.after (keeps_instOff ..) ?_ ?_ ?_) <;> [rfl; rfl; skip]
    | (with_reducible apply Keeps.after (keeps_checkDone ..) ?_ ?_ ?_) <;> [rfl; rfl; skip]
    | simp (disch := first | exact Or.inl rfl | with_reducible exact Or.inr rfl | rfl) only [Keeps.upd]
    | split

theorem keeps_portCut (d : ℕ) (s : State) :
    Keeps 0x300000480000000000000000000000000000082410000f2000880a00000000000000001c000000 0x270a1 s (portCut d s) := by
  unfold portCut
  repeat' first
    | with_reducible first
        | apply Keeps.refl
    | (with_reducible apply Keeps.after (keeps_portOff ..) ?_ ?_ ?_) <;> [rfl; rfl; skip]
    | simp (disch := first | exact Or.inl rfl | with_reducible exact Or.inr rfl | rfl) only [Keeps.upd]

theorem keeps_domCut (d : ℕ) (s : State) :
    Keeps 0x3020004800000000000000001000020000020c2410300f2000880a0000002000008e209c000000 0x27fa1 s (domCut d s) := by
  unfold domCut
  repeat' first
    | with_reducible first
        | apply Keeps.refl
    | (with_reducible apply Keeps.after (keeps_off ..) ?_ ?_ ?_) <;> [(first | rfl | (dsimp only; rfl) | (simp only [F.PWR_DOM_STAT.ON]; rfl)); rfl; skip]
    | (with_reducible apply Keeps.after (keeps_channelOff ..) ?_ ?_ ?_) <;> [rfl; rfl; skip]
    | (with_reducible apply Keeps.after (keeps_groupOff ..) ?_ ?_ ?_) <;> [rfl; rfl; skip]
    | (with_reducible apply Keeps.after (keeps_halfOff ..) ?_ ?_ ?_) <;> [rfl; rfl; skip]
    | (with_reducible apply Keeps.after (keeps_portCut ..) ?_ ?_ ?_) <;> [rfl; rfl; skip]
    | (with_reducible apply Keeps.after (keeps_selfTestState ..) ?_ ?_ ?_) <;> [rfl; rfl; skip]
    | split
    | dsimp only

theorem keeps_unitRst (u : ℕ) (s : State) :
    Keeps 0x3020004800000000000000001000020000020c2410300f2000880a0000002000008e209c000000 0x67fa1 s (unitRst u s) := by
  unfold unitRst
  repeat' first
    | with_reducible first
        | apply Keeps.refl
    | (with_reducible apply Keeps.after (keeps_domCut ..) ?_ ?_ ?_) <;> [rfl; rfl; skip]
    | (with_reducible apply Keeps.after (keeps_queueRamps ..) ?_ ?_ ?_) <;> [rfl; rfl; skip]
    | split

theorem keeps_modeCtlWrite (v : Word) (s : State) :
    Keeps 0x3063004800000000000000001000020000020c2410300f2000880a0000002000008e209c000000 0x67fa1 s (modeCtlWrite v s) := by
  unfold modeCtlWrite
  repeat' first
    | with_reducible first
        | apply Keeps.refl
    | (with_reducible apply Keeps.after (keeps_wr ..) ?_ ?_ ?_) <;> [(first | rfl | (dsimp only; rfl)); rfl; skip]
    | (with_reducible apply Keeps.after (keeps_modeGo ..) ?_ ?_ ?_) <;> [rfl; rfl; skip]
    | (with_reducible apply Keeps.after (keeps_unitRst ..) ?_ ?_ ?_) <;> [rfl; rfl; skip]
    | split

theorem keeps_rstCtlWrite (v : Word) (s : State) :
    Keeps allRegs 0x1fffff s (rstCtlWrite v s) := by
  unfold rstCtlWrite
  repeat' first
    | with_reducible first
        | apply Keeps.refl
    | (with_reducible apply Keeps.after (keeps_deviceReset ..) ?_ ?_ ?_) <;> [rfl; rfl; skip]
    | split

theorem keeps_stopSets (ks : List ℕ) (s : State) :
    Keeps 0 0x800 s (stopSets ks s) := by
  unfold stopSets
  repeat' first
    | with_reducible first
        | apply Keeps.refl
        | apply Keeps.andThen (Keeps.foldl (fun t a => ?_)) ?_
    | (with_reducible apply Keeps.after (keeps_stopMembers ..) ?_ ?_ ?_) <;> [rfl; rfl; skip]
    | (with_reducible apply Keeps.after (keeps_endStopping ..) ?_ ?_ ?_) <;> [rfl; rfl; skip]
    | split

theorem keeps_trstEngines (s : State) :
    Keeps 0x200000000000000000 0x20c00 s (trstEngines s) := by
  unfold trstEngines
  repeat' first
    | with_reducible first
        | apply Keeps.refl
        | apply Keeps.andThen (Keeps.foldl (fun t a => ?_)) ?_
    | (with_reducible apply Keeps.after (keeps_on ..) ?_ ?_ ?_) <;> [(first | rfl | (dsimp only; rfl)); rfl; skip]
    | (with_reducible apply Keeps.after (keeps_clearEngine ..) ?_ ?_ ?_) <;> [rfl; rfl; skip]
    | simp (disch := first | exact Or.inl rfl | with_reducible exact Or.inr rfl | rfl) only [Keeps.upd]
    | split

theorem keeps_trstRegions (n : ℕ) (s : State) :
    Keeps 0x800000000000000000000002b0c0000000000000000000000000000000000001c000000 0x202a1 s (trstRegions n s) := by
  unfold trstRegions
  repeat' first
    | with_reducible first
        | apply Keeps.refl
        | apply Keeps.andThen (Keeps.foldl (fun t a => ?_)) ?_
    | (with_reducible apply Keeps.after (keeps_cfgAbort ..) ?_ ?_ ?_) <;> [rfl; rfl; skip]
    | simp (disch := first | exact Or.inl rfl | with_reducible exact Or.inr rfl | rfl) only [Keeps.upd]
    | split

theorem keeps_trstCmdWrite (v : Word) (s : State) :
    Keeps 0x3142000800000001100000001000022f0c0000000000000000000000000020000000009c000000 0x68fa1 s (trstCmdWrite v s) := by
  unfold trstCmdWrite
  repeat' first
    | with_reducible first
        | apply Keeps.refl
    | (with_reducible apply Keeps.after (keeps_wr ..) ?_ ?_ ?_) <;> [(first | rfl | (dsimp only; rfl)); rfl; skip]
    | (with_reducible apply Keeps.after (keeps_on ..) ?_ ?_ ?_) <;> [(first | rfl | (dsimp only; rfl)); rfl; skip]
    | (with_reducible apply Keeps.after (keeps_trstAdvance ..) ?_ ?_ ?_) <;> [rfl; rfl; skip]
    | (with_reducible apply Keeps.after (keeps_clearWindowsGrants ..) ?_ ?_ ?_) <;> [rfl; rfl; skip]
    | (with_reducible apply Keeps.after (keeps_stopSets ..) ?_ ?_ ?_) <;> [rfl; rfl; skip]
    | (with_reducible apply Keeps.after (keeps_trstEngines ..) ?_ ?_ ?_) <;> [rfl; rfl; skip]
    | (with_reducible apply Keeps.after (keeps_trstRegions ..) ?_ ?_ ?_) <;> [rfl; rfl; skip]
    | simp (disch := first | exact Or.inl rfl | with_reducible exact Or.inr rfl | rfl) only [Keeps.upd]
    | split

theorem keeps_modeEnds (s : State) :
    Keeps 0x4200000000000000000000000000000000000000000000000000000000000000000000000000 0x40000 s (modeEnds s) := by
  unfold modeEnds
  repeat' first
    | with_reducible first
        | apply Keeps.refl
    | (with_reducible apply Keeps.after (keeps_wr ..) ?_ ?_ ?_) <;> [(first | rfl | (dsimp only; rfl)); rfl; skip]
    | (with_reducible apply Keeps.after (keeps_unitsIdle ..) ?_ ?_ ?_) <;> [rfl; rfl; skip]
    | (with_reducible apply Keeps.after (keeps_ownTransaction ..) ?_ ?_ ?_) <;> [rfl; rfl; skip]

theorem keeps_checkModeDone (s : State) :
    Keeps 0x4240080000000000000000000000000000000000000000000000000000000000000000000000 0x40021 s (checkModeDone s) := by
  unfold checkModeDone
  repeat' first
    | with_reducible first
        | apply Keeps.refl
    | (with_reducible apply Keeps.after (keeps_on ..) ?_ ?_ ?_) <;> [(first | rfl | (dsimp only; rfl)); rfl; skip]
    | (with_reducible apply Keeps.after (keeps_raiseCause ..) ?_ ?_ ?_) <;> [(first | rfl | (dsimp only; rfl)); rfl; skip]
    | (with_reducible apply Keeps.after (keeps_modeEnds ..) ?_ ?_ ?_) <;> [rfl; rfl; skip]
    | simp (disch := first | exact Or.inl rfl | with_reducible exact Or.inr rfl | rfl) only [Keeps.upd]
    | split

theorem keeps_commitUnits (s : State) :
    Keeps 0x3062404800000000000000001000020000020c2410300f2000880a0000002000008e209c070000 0x67fa1 s (commitUnits s) := by
  unfold commitUnits
  repeat' first
    | with_reducible first
        | apply Keeps.refl
        | apply Keeps.andThen (Keeps.foldl (fun t a => ?_)) ?_
    | (with_reducible apply Keeps.after (keeps_wr ..) ?_ ?_ ?_) <;> [(first | rfl | (dsimp only; rfl)); rfl; skip]
    | (with_reducible apply Keeps.after (keeps_applyDivisor ..) ?_ ?_ ?_) <;> [rfl; rfl; skip]
    | (with_reducible apply Keeps.after (keeps_setUnit ..) ?_ ?_ ?_) <;> [rfl; rfl; skip]
    | (with_reducible apply Keeps.after (keeps_holdGo ..) ?_ ?_ ?_) <;> [rfl; rfl; skip]
    | (with_reducible apply Keeps.after (keeps_domCut ..) ?_ ?_ ?_) <;> [rfl; rfl; skip]
    | (with_reducible apply Keeps.after (keeps_queueRamps ..) ?_ ?_ ?_) <;> [rfl; rfl; skip]
    | (with_reducible apply Keeps.after (keeps_checkModeDone ..) ?_ ?_ ?_) <;> [rfl; rfl; skip]
    | simp (disch := first | exact Or.inl rfl | with_reducible exact Or.inr rfl | rfl) only [Keeps.upd]
    | split

theorem keeps_showSplit (s : State) :
    Keeps 0x200000000000000000000000000000000000000000000000000000000000000000000000000 0 s (showSplit s) := by
  unfold showSplit
  repeat' first
    | with_reducible first
        | apply Keeps.refl
    | (with_reducible apply Keeps.after (keeps_wr ..) ?_ ?_ ?_) <;> [(first | rfl | (dsimp only; rfl)); rfl; skip]

theorem keeps_domUp (d : ℕ) (s : State) :
    Keeps 0x6200000000000000000000000000000000000000200000000000000000000000002000000000 0x1000 s (domUp d s) := by
  unfold domUp
  repeat' first
    | with_reducible first
        | apply Keeps.refl
    | (with_reducible apply Keeps.after (keeps_on ..) ?_ ?_ ?_) <;> [(first | rfl | (dsimp only; rfl) | (simp only [F.PWR_DOM_STAT.ON]; rfl)); rfl; skip]
    | (with_reducible apply Keeps.after (keeps_setUnit ..) ?_ ?_ ?_) <;> [rfl; rfl; skip]
    | (with_reducible apply Keeps.after (keeps_pllsFollow ..) ?_ ?_ ?_) <;> [rfl; rfl; skip]
    | (with_reducible apply Keeps.after (keeps_selfTestState ..) ?_ ?_ ?_) <;> [rfl; rfl; skip]
    | (with_reducible apply Keeps.after (keeps_channelOn ..) ?_ ?_ ?_) <;> [rfl; rfl; skip]
    | (with_reducible apply Keeps.after (keeps_showSplit ..) ?_ ?_ ?_) <;> [rfl; rfl; skip]
    | split
    | dsimp only

theorem keeps_dropUnsupplied (s : State) :
    Keeps 0x3062404800000000000000001000020000020c2410300f2000880a0000002000008e209c000000 0x67fa1 s (dropUnsupplied s) := by
  unfold dropUnsupplied
  repeat' first
    | with_reducible first
        | apply Keeps.refl
        | apply Keeps.andThen (Keeps.foldl (fun t a => ?_)) ?_
    | (with_reducible apply Keeps.after (keeps_domCut ..) ?_ ?_ ?_) <;> [rfl; rfl; skip]
    | (with_reducible apply Keeps.after (keeps_startRamps ..) ?_ ?_ ?_) <;> [rfl; rfl; skip]
    | (with_reducible apply Keeps.after (keeps_checkModeDone ..) ?_ ?_ ?_) <;> [rfl; rfl; skip]
    | simp (disch := first | exact Or.inl rfl | with_reducible exact Or.inr rfl | rfl) only [Keeps.upd]

theorem keeps_execCommit (edge : ℕ) (s : State) :
    KeepsO 0x3062404800000000000000001000020000020c2410300f2000880a0000002000008e209c070000 0x67fa1 s (execCommit edge s) := by
  unfold execCommit
  repeat' first
    | with_reducible first
        | apply KeepsO.done
        | apply Keeps.refl
        | apply Keeps.andThen (Keeps.guarded ?_) ?_
    | (with_reducible apply Keeps.after (keeps_commitUnits ..) ?_ ?_ ?_) <;> [rfl; rfl; skip]

theorem keeps_execMaintenanceRequest (v : Word) (s : State) :
    KeepsO 0x340000000000000000000000000000000000000000000000000000000000000000000000000000 0x20000 s (execMaintenanceRequest v s) := by
  unfold execMaintenanceRequest
  repeat' first
    | with_reducible first
        | apply KeepsO.done
        | apply Keeps.refl
    | (with_reducible apply Keeps.after (keeps_mntReqWrite ..) ?_ ?_ ?_) <;> [rfl; rfl; skip]

theorem keeps_execModeGo (v : Word) (s : State) :
    KeepsO 0x3063004800000000000000001000020000020c2410300f2000880a0000002000008e209c000000 0x67fa1 s (execModeGo v s) := by
  unfold execModeGo
  repeat' first
    | with_reducible first
        | apply KeepsO.done
        | apply Keeps.refl
        | apply Keeps.andThen (Keeps.guarded ?_) ?_
    | (with_reducible apply Keeps.after (keeps_modeCtlWrite ..) ?_ ?_ ?_) <;> [rfl; rfl; skip]

theorem keeps_refuse (us : List ℕ) (s : State) :
    Keeps 0x4200000000000000000000000000000000000000000000000000000000000000000000000000 0x40000 s (refuse us s) := by
  unfold refuse
  repeat' first
    | with_reducible first
        | apply Keeps.refl
        | apply Keeps.andThen (Keeps.foldl (fun t a => ?_)) ?_
    | (with_reducible apply Keeps.after (keeps_wr ..) ?_ ?_ ?_) <;> [(first | rfl | (dsimp only; rfl)); rfl; skip]
    | (with_reducible apply Keeps.after (keeps_on ..) ?_ ?_ ?_) <;> [(first | rfl | (dsimp only; rfl)); rfl; skip]
    | (with_reducible apply Keeps.after (keeps_setUnit ..) ?_ ?_ ?_) <;> [rfl; rfl; skip]
    | simp (disch := first | exact Or.inl rfl | with_reducible exact Or.inr rfl | rfl) only [Keeps.upd]
    | split

theorem keeps_execModeTimeout (s : State) :
    KeepsO 0x4200000000000000000000000000000000000000000000000000000000000000000000000000 0x40000 s (execModeTimeout s) := by
  unfold execModeTimeout
  repeat' first
    | with_reducible first
        | apply KeepsO.done
        | apply Keeps.refl
        | apply Keeps.andThen (Keeps.guarded ?_) ?_
    | (with_reducible apply Keeps.after (keeps_refuse ..) ?_ ?_ ?_) <;> [rfl; rfl; skip]

theorem keeps_execPrepareAck (u : Fin 76) (s : State) :
    KeepsO 0x4200000000000000000000000000000000000000000000000000000000000000000000000000 0x40000 s (execPrepareAck u s) := by
  unfold execPrepareAck
  repeat' first
    | with_reducible first
        | apply KeepsO.done
        | apply Keeps.refl
        | apply Keeps.andThen (Keeps.guarded ?_) ?_
    | (with_reducible apply Keeps.after (keeps_wr ..) ?_ ?_ ?_) <;> [(first | rfl | (dsimp only; rfl)); rfl; skip]
    | (with_reducible apply Keeps.after (keeps_setUnit ..) ?_ ?_ ?_) <;> [rfl; rfl; skip]
    | simp (disch := first | exact Or.inl rfl | with_reducible exact Or.inr rfl | rfl) only [Keeps.upd]
    | split

theorem keeps_execPwrMntDone (v : Word) (s : State) :
    KeepsO 0x304240080000000000000000100002250000000000000920000000000000000000000080000000 0x667a1 s (execPwrMntDone v s) := by
  unfold execPwrMntDone
  repeat' first
    | with_reducible first
        | apply KeepsO.done
        | apply Keeps.refl
    | (with_reducible apply Keeps.after (keeps_mntDoneWrite ..) ?_ ?_ ?_) <;> [rfl; rfl; skip]

theorem keeps_execRampComplete (d : Fin 60) (s : State) :
    KeepsO 0x6240080000000000000000000000000000000000200000000000000000000000002000000000 0x41021 s (execRampComplete d s) := by
  unfold execRampComplete
  repeat' first
    | with_reducible first
        | apply KeepsO.done
        | apply Keeps.refl
        | apply Keeps.andThen (Keeps.guarded ?_) ?_
    | (with_reducible apply Keeps.after (keeps_startRamps ..) ?_ ?_ ?_) <;> [rfl; rfl; skip]
    | (with_reducible apply Keeps.after (keeps_checkModeDone ..) ?_ ?_ ?_) <;> [rfl; rfl; skip]
    | (with_reducible apply Keeps.after (keeps_domUp ..) ?_ ?_ ?_) <;> [rfl; rfl; skip]
    | simp (disch := first | exact Or.inl rfl | with_reducible exact Or.inr rfl | rfl) only [Keeps.upd]

theorem keeps_execRollbackComplete (s : State) :
    KeepsO 0x4240080000000000000000000000000000000000000000000000000000000000000000000000 0x40021 s (execRollbackComplete s) := by
  unfold execRollbackComplete
  repeat' first
    | with_reducible first
        | apply KeepsO.done
        | apply Keeps.refl
        | apply Keeps.andThen (Keeps.guarded ?_) ?_
    | (with_reducible apply Keeps.after (keeps_raiseCause ..) ?_ ?_ ?_) <;> [(first | rfl | (dsimp only; rfl)); rfl; skip]
    | (with_reducible apply Keeps.after (keeps_modeEnds ..) ?_ ?_ ?_) <;> [rfl; rfl; skip]

theorem keeps_execRollbackTimeout (stuck : List (Fin 76)) (s : State) :
    KeepsO 0x4240080000000000000000000000000000000000000000000000000000000000000000000000 0x40021 s (execRollbackTimeout stuck s) := by
  unfold execRollbackTimeout
  repeat' first
    | with_reducible first
        | apply KeepsO.done
        | apply Keeps.refl
        | apply Keeps.andThen (Keeps.guarded ?_) ?_
        | apply Keeps.andThen (Keeps.foldl (fun t a => ?_)) ?_
    | (with_reducible apply Keeps.after (keeps_raiseCause ..) ?_ ?_ ?_) <;> [(first | rfl | (dsimp only; rfl)); rfl; skip]
    | (with_reducible apply Keeps.after (keeps_setUnit ..) ?_ ?_ ?_) <;> [rfl; rfl; skip]
    | (with_reducible apply Keeps.after (keeps_modeEnds ..) ?_ ?_ ?_) <;> [rfl; rfl; skip]
    | (with_reducible apply Keeps.after (keeps_showSplit ..) ?_ ?_ ?_) <;> [rfl; rfl; skip]

theorem keeps_thermalTrip (sensor : ℕ) (s : State) :
    Keeps 0x3020004800000000000800001000020000020c2410300f2000880a0000002000008e209c000000 0x67fa1 s (thermalTrip sensor s) := by
  unfold thermalTrip
  repeat' first
    | with_reducible first
        | apply Keeps.refl
        | apply Keeps.andThen (Keeps.foldl (fun t a => ?_)) ?_
    | (with_reducible apply Keeps.after (keeps_wr ..) ?_ ?_ ?_) <;> [(first | rfl | (dsimp only; rfl)); rfl; skip]
    | (with_reducible apply Keeps.after (keeps_on ..) ?_ ?_ ?_) <;> [(first | rfl | (dsimp only; rfl)); rfl; skip]
    | (with_reducible apply Keeps.after (keeps_domCut ..) ?_ ?_ ?_) <;> [rfl; rfl; skip]
    | simp (disch := first | exact Or.inl rfl | with_reducible exact Or.inr rfl | rfl) only [Keeps.upd]
    | split

theorem keeps_thermalWarning (t : List (BitVec 12)) (s : State) :
    Keeps 0x800000000e0080000000000000000000000000000000000000000000000000000000000 0x21 s (thermalWarning t s) := by
  unfold thermalWarning
  repeat' first
    | with_reducible first
        | apply Keeps.refl
    | (with_reducible apply Keeps.after (keeps_off ..) ?_ ?_ ?_) <;> [(first | rfl | (dsimp only; rfl)); rfl; skip]
    | (with_reducible apply Keeps.after (keeps_on ..) ?_ ?_ ?_) <;> [(first | rfl | (dsimp only; rfl)); rfl; skip]
    | (with_reducible apply Keeps.after (keeps_raise ..) ?_ ?_ ?_) <;> [rfl; rfl; skip]
    | (with_reducible apply Keeps.after (keeps_wardLog ..) ?_ ?_ ?_) <;> [rfl; rfl; skip]
    | split
    | dsimp only

theorem keeps_execSensorSample (temps : List (BitVec 12)) (s : State) :
    KeepsO 0x3020004800000000e08800001000020000020c2410300f2000880a0000002000008e209c000000 0x6ffa1 s (execSensorSample temps s) := by
  unfold execSensorSample
  repeat' first
    | with_reducible first
        | apply KeepsO.done
        | apply Keeps.refl
        | apply Keeps.andThen (Keeps.foldl (fun t a => ?_)) ?_
    | (with_reducible apply Keeps.after (keeps_wr ..) ?_ ?_ ?_) <;> [(first | rfl | (dsimp only; rfl)); rfl; skip]
    | (with_reducible apply Keeps.after (keeps_alertPin ..) ?_ ?_ ?_) <;> [rfl; rfl; skip]
    | (with_reducible apply Keeps.after (keeps_thermalTrip ..) ?_ ?_ ?_) <;> [rfl; rfl; skip]
    | (with_reducible apply Keeps.after (keeps_thermalWarning ..) ?_ ?_ ?_) <;> [rfl; rfl; skip]
    | simp (disch := first | exact Or.inl rfl | with_reducible exact Or.inr rfl | rfl) only [Keeps.upd]
    | split

theorem keeps_execSherexDeviceReset (v : Word) (s : State) :
    KeepsO allRegs 0x1fffff s (execSherexDeviceReset v s) := by
  unfold execSherexDeviceReset
  repeat' first
    | with_reducible first
        | apply KeepsO.done
        | apply Keeps.refl
    | (with_reducible apply Keeps.after (keeps_rstCtlWrite ..) ?_ ?_ ?_) <;> [rfl; rfl; skip]

theorem keeps_showLanes (l : ℕ) (s : State) :
    Keeps 0x20000000000000000000000000000000000000000000000000000000000000000000000000 0 s (showLanes l s) := by
  unfold showLanes
  repeat' first
    | with_reducible first
        | apply Keeps.refl
    | (with_reducible apply Keeps.after (keeps_wrBit ..) ?_ ?_ ?_) <;> [(first | rfl | (dsimp only; rfl)); rfl; skip]

theorem keeps_setSupply (x : Supply) (on : Bool) (s : State) :
    Keeps 0x20000000000000000000000000000000000000000000000000000000000000000000000000 0x40000 s (setSupply x on s) := by
  unfold setSupply
  repeat' first
    | with_reducible first
        | apply Keeps.refl
    | (with_reducible apply Keeps.after (keeps_wrBit ..) ?_ ?_ ?_) <;> [(first | rfl | (dsimp only; rfl)); rfl; skip]
    | (with_reducible apply Keeps.after (keeps_showLanes ..) ?_ ?_ ?_) <;> [rfl; rfl; skip]
    | simp (disch := first | exact Or.inl rfl | with_reducible exact Or.inr rfl | rfl) only [Keeps.upd]
    | split

theorem keeps_execSupplyLoss (sup : Supply) (s : State) :
    KeepsO 0x3062604800000000000000001000020000020c2410300f2000880a0000002000008e209c000000 0x67fa1 s (execSupplyLoss sup s) := by
  unfold execSupplyLoss
  repeat' first
    | with_reducible first
        | apply KeepsO.done
        | apply Keeps.refl
    | (with_reducible apply Keeps.after (keeps_dropUnsupplied ..) ?_ ?_ ?_) <;> [rfl; rfl; skip]
    | (with_reducible apply Keeps.after (keeps_setSupply ..) ?_ ?_ ?_) <;> [rfl; rfl; skip]

theorem keeps_execSupplyReturn (sup : Supply) (s : State) :
    KeepsO 0x20000000000000000000000000000000000000000000000000000000000000000000000000 0x40000 s (execSupplyReturn sup s) := by
  unfold execSupplyReturn
  repeat' first
    | with_reducible first
        | apply KeepsO.done
        | apply Keeps.refl
    | (with_reducible apply Keeps.after (keeps_startRamps ..) ?_ ?_ ?_) <;> [rfl; rfl; skip]
    | (with_reducible apply Keeps.after (keeps_setSupply ..) ?_ ?_ ?_) <;> [rfl; rfl; skip]

theorem keeps_trstPoll (s : State) :
    Keeps 0x3042000800000000000000001000022f0c0000000000000000000000000020000000009c000000 0x60fa1 s (trstPoll s) := by
  unfold trstPoll
  repeat' first
    | with_reducible first
        | apply Keeps.refl
    | (with_reducible apply Keeps.after (keeps_trstAdvance ..) ?_ ?_ ?_) <;> [rfl; rfl; skip]
    | (with_reducible apply Keeps.after (keeps_trstEngines ..) ?_ ?_ ?_) <;> [rfl; rfl; skip]
    | (with_reducible apply Keeps.after (keeps_trstRegions ..) ?_ ?_ ?_) <;> [rfl; rfl; skip]
    | split
    | dsimp only

theorem keeps_execTrstGo (v : Word) (s : State) :
    KeepsO 0x3142000800000001100000001000022f0c0000000000000000000000000020000000009c000000 0x68fa1 s (execTrstGo v s) := by
  unfold execTrstGo
  repeat' first
    | with_reducible first
        | apply KeepsO.done
        | apply Keeps.refl
    | (with_reducible apply Keeps.after (keeps_trstCmdWrite ..) ?_ ?_ ?_) <;> [rfl; rfl; skip]

theorem keeps_execUnitRefuse (u : Fin 76) (s : State) :
    KeepsO 0x4200000000000000000000000000000000000000000000000000000000000000000000000000 0x40000 s (execUnitRefuse u s) := by
  unfold execUnitRefuse
  repeat' first
    | with_reducible first
        | apply KeepsO.done
        | apply Keeps.refl
        | apply Keeps.andThen (Keeps.guarded ?_) ?_
    | (with_reducible apply Keeps.after (keeps_refuse ..) ?_ ?_ ?_) <;> [rfl; rfl; skip]

theorem keeps_execUnitrst (v : Word) (s : State) :
    KeepsO 0x3063004800000000000000001000020000020c2410300f2000880a0000002000008e209c000000 0x67fa1 s (execUnitrst v s) := by
  unfold execUnitrst
  repeat' first
    | with_reducible first
        | apply KeepsO.done
        | apply Keeps.refl
        | apply Keeps.andThen (Keeps.guarded ?_) ?_
    | (with_reducible apply Keeps.after (keeps_modeCtlWrite ..) ?_ ?_ ?_) <;> [rfl; rfl; skip]

end Sys2Proof.Machine
end

