-- ==== Sys2Proof/Laws/KeepsKnuckle.lean ====
section
/-! SUPPORT. The frames of the operations of Machine/Knuckle.lean: what each can change, and that it keeps the stores canonical. -/

namespace Sys2Proof.Machine
open Sys2Proof

theorem keeps_setKnk (s : State) (g : ℕ) (n : ℕ) (r : KnkRec) :
    Keeps 0 0x40 s (State.setKnk s g n r) := by
  unfold State.setKnk
  repeat' first
    | with_reducible first
        | apply Keeps.refl
    | simp (disch := first | exact Or.inl rfl | with_reducible exact Or.inr rfl | rfl) only [Keeps.upd]

end Sys2Proof.Machine
end

