-- ==== Sys2Proof/Laws/KeepsReplay.lean ====
section
/-! SUPPORT. The frames of the operations of Machine/Replay.lean: what each can change, and that it keeps the stores canonical. -/

namespace Sys2Proof.Machine
open Sys2Proof

theorem keeps_knuckleRestore (g : ℕ) (s : State) :
    Keeps 0x1000000 0x40 s (knuckleRestore g s) := by
  unfold knuckleRestore
  repeat' first
    | with_reducible first
        | apply Keeps.refl
    | (with_reducible apply Keeps.after (keeps_on ..) ?_ ?_ ?_) <;> [(first | rfl | (dsimp only; rfl)); rfl; skip]
    | simp (disch := first | exact Or.inl rfl | with_reducible exact Or.inr rfl | rfl) only [Keeps.upd]
    | split

theorem keeps_pauseFrom (g : ℕ) (n : ℕ) (s : State) :
    Keeps 0x1000000 0x40 s (pauseFrom g n s) := by
  unfold pauseFrom
  repeat' first
    | with_reducible first
        | apply Keeps.refl
        | apply Keeps.andThen (Keeps.foldl (fun t a => ?_)) ?_
    | (with_reducible apply Keeps.after (keeps_on ..) ?_ ?_ ?_) <;> [(first | rfl | (dsimp only; rfl)); rfl; skip]
    | (with_reducible apply Keeps.after (keeps_setKnk ..) ?_ ?_ ?_) <;> [rfl; rfl; skip]
    | split

theorem keeps_bringBack (g : ℕ) (n : ℕ) (s : State) :
    Keeps 0x1000000 0x40 s (bringBack g n s) := by
  unfold bringBack
  repeat' first
    | with_reducible first
        | apply Keeps.refl
    | (with_reducible apply Keeps.after (keeps_setKnk ..) ?_ ?_ ?_) <;> [rfl; rfl; skip]
    | (with_reducible apply Keeps.after (keeps_wrBit ..) ?_ ?_ ?_) <;> [(first | rfl | (dsimp only; rfl)); rfl; skip]
    | (with_reducible apply Keeps.after (keeps_pauseFrom ..) ?_ ?_ ?_) <;> [rfl; rfl; skip]
    | split

theorem keeps_knkEvent (s : State) :
    Keeps 0x80000000000000000000000000000000000000000000000000000000000000000000000 0x21 s (knkEvent s) := by
  unfold knkEvent
  repeat' first
    | with_reducible first
        | apply Keeps.refl
    | (with_reducible apply Keeps.after (keeps_raise ..) ?_ ?_ ?_) <;> [rfl; rfl; skip]
    | split

theorem keeps_knkStat (g : ℕ) (s : State) :
    Keeps 0x1000000 0 s (knkStat g s) := by
  unfold knkStat
  repeat' first
    | with_reducible first
        | apply Keeps.refl
    | (with_reducible apply Keeps.after (keeps_wr ..) ?_ ?_ ?_) <;> [(first | rfl | (dsimp only; rfl)); rfl; skip]

theorem keeps_recordRetired (g : ℕ) (p : ℕ) (s : State) :
    Keeps 0x800000 0 s (recordRetired g p s) := by
  unfold recordRetired
  repeat' first
    | with_reducible first
        | apply Keeps.refl
    | (with_reducible apply Keeps.after (keeps_wr ..) ?_ ?_ ?_) <;> [(first | rfl | (dsimp only; rfl)); rfl; skip]
    | split

theorem keeps_takeOut (g : ℕ) (p : ℕ) (s : State) :
    Keeps 0x80000000000000000000000000000000000000000000000000000000000000001800000 0xe1 s (takeOut g p s) := by
  unfold takeOut
  repeat' first
    | with_reducible first
        | apply Keeps.refl
    | (with_reducible apply Keeps.after (keeps_setKnk ..) ?_ ?_ ?_) <;> [rfl; rfl; skip]
    | (with_reducible apply Keeps.after (keeps_wrBit ..) ?_ ?_ ?_) <;> [(first | rfl | (dsimp only; rfl)); rfl; skip]
    | (with_reducible apply Keeps.after (keeps_pauseFrom ..) ?_ ?_ ?_) <;> [rfl; rfl; skip]
    | (with_reducible apply Keeps.after (keeps_knkEvent ..) ?_ ?_ ?_) <;> [rfl; rfl; skip]
    | (with_reducible apply Keeps.after (keeps_knkStat ..) ?_ ?_ ?_) <;> [rfl; rfl; skip]
    | (with_reducible apply Keeps.after (keeps_recordRetired ..) ?_ ?_ ?_) <;> [rfl; rfl; skip]
    | (with_reducible apply Keeps.after (keeps_reroute ..) ?_ ?_ ?_) <;> [rfl; rfl; skip]
    | simp (disch := first | exact Or.inl rfl | with_reducible exact Or.inr rfl | rfl) only [Keeps.upd]
    | split

theorem keeps_retireChannel (g : ℕ) (n : ℕ) (s : State) :
    Keeps 0x80000000000000000000000000000000000000000000000000000000000000001800000 0xe1 s (retireChannel g n s) := by
  unfold retireChannel
  repeat' first
    | with_reducible first
        | apply Keeps.refl
    | (with_reducible apply Keeps.after (keeps_takeOut ..) ?_ ?_ ?_) <;> [rfl; rfl; skip]
    | split

theorem keeps_execKnuckleCrcMismatch (g : Fin 4) (n : Fin 16) (sameFlit : Bool) (s : State) :
    KeepsO 0x80000000000000000000000000000000000000000000000000000000000000003800000 0xe1 s (execKnuckleCrcMismatch g n sameFlit s) := by
  unfold execKnuckleCrcMismatch
  repeat' first
    | with_reducible first
        | apply KeepsO.done
        | apply Keeps.refl
        | apply Keeps.andThen (Keeps.guarded ?_) ?_
    | (with_reducible apply Keeps.after (keeps_satAdd ..) ?_ ?_ ?_) <;> [(first | rfl | (dsimp only; rfl)); rfl; skip]
    | (with_reducible apply Keeps.after (keeps_setKnk ..) ?_ ?_ ?_) <;> [rfl; rfl; skip]
    | (with_reducible apply Keeps.after (keeps_retireChannel ..) ?_ ?_ ?_) <;> [rfl; rfl; skip]
    | split
    | dsimp only

theorem keeps_execKnuckleRestore (g : Fin 4) (s : State) :
    KeepsO 0x1000000 0x40 s (execKnuckleRestore g s) := by
  unfold execKnuckleRestore
  repeat' first
    | with_reducible first
        | apply KeepsO.done
        | apply Keeps.refl
    | (with_reducible apply Keeps.after (keeps_knuckleRestore ..) ?_ ?_ ?_) <;> [rfl; rfl; skip]

theorem keeps_execKnuckleStall (g : Fin 4) (n : Fin 16) (s : State) :
    KeepsO 0x80000000000000000000000000000000000000000000000000000000000000001800000 0xe1 s (execKnuckleStall g n s) := by
  unfold execKnuckleStall
  repeat' first
    | with_reducible first
        | apply KeepsO.done
        | apply Keeps.refl
        | apply Keeps.andThen (Keeps.guarded ?_) ?_
    | (with_reducible apply Keeps.after (keeps_retireChannel ..) ?_ ?_ ?_) <;> [rfl; rfl; skip]

theorem keeps_execKnuckleTestComplete (failing : List KnkChannel) (s : State) :
    KeepsO 0x80000000000000000000000000000000000000000000000000000000000000001800000 0xe1 s (execKnuckleTestComplete failing s) := by
  unfold execKnuckleTestComplete
  repeat' first
    | with_reducible first
        | apply KeepsO.done
        | apply Keeps.refl
        | apply Keeps.andThen (Keeps.guarded ?_) ?_
        | apply Keeps.andThen (Keeps.foldl (fun t a => ?_)) ?_
    | (with_reducible apply Keeps.after (keeps_takeOut ..) ?_ ?_ ?_) <;> [rfl; rfl; skip]
    | simp (disch := first | exact Or.inl rfl | with_reducible exact Or.inr rfl | rfl) only [Keeps.upd]

theorem keeps_execRemapComplete (g : Fin 4) (s : State) :
    KeepsO 0x1000000 0x40 s (execRemapComplete g s) := by
  unfold execRemapComplete
  repeat' first
    | with_reducible first
        | apply KeepsO.done
        | apply Keeps.refl
        | apply Keeps.andThen (Keeps.guarded ?_) ?_
        | apply Keeps.andThen (Keeps.foldl (fun t a => ?_)) ?_
    | (with_reducible apply Keeps.after (keeps_off ..) ?_ ?_ ?_) <;> [(first | rfl | (dsimp only; rfl)); rfl; skip]
    | (with_reducible apply Keeps.after (keeps_setKnk ..) ?_ ?_ ?_) <;> [rfl; rfl; skip]
    | split

theorem keeps_execReplayComplete (g : Fin 4) (n : Fin 16) (s : State) :
    KeepsO 0 0x40 s (execReplayComplete g n s) := by
  unfold execReplayComplete
  repeat' first
    | with_reducible first
        | apply KeepsO.done
        | apply Keeps.refl
        | apply Keeps.andThen (Keeps.guarded ?_) ?_
    | (with_reducible apply Keeps.after (keeps_setKnk ..) ?_ ?_ ?_) <;> [rfl; rfl; skip]

theorem keeps_execReplayMaxReached (g : Fin 4) (n : Fin 16) (s : State) :
    KeepsO 0x80000000000000000000000000000000000000000000000000000000000000001800000 0xe1 s (execReplayMaxReached g n s) := by
  unfold execReplayMaxReached
  repeat' first
    | with_reducible first
        | apply KeepsO.done
        | apply Keeps.refl
        | apply Keeps.andThen (Keeps.guarded ?_) ?_
    | (with_reducible apply Keeps.after (keeps_retireChannel ..) ?_ ?_ ?_) <;> [rfl; rfl; skip]

theorem keeps_execReplayWindowBoundary (s : State) :
    KeepsO 0 0x40 s (execReplayWindowBoundary s) := by
  unfold execReplayWindowBoundary
  repeat' first
    | with_reducible first
        | apply KeepsO.done
        | apply Keeps.refl
        | apply Keeps.andThen (Keeps.guarded ?_) ?_
    | simp (disch := first | exact Or.inl rfl | with_reducible exact Or.inr rfl | rfl) only [Keeps.upd]

theorem keeps_restoreField (f : Fld) (g : ℕ) (passing : List ℕ) (s : State) :
    Keeps (1 <<< f.reg.ctorIdx) 0 s (restoreField f g passing s) := by
  unfold restoreField
  repeat' first
    | with_reducible first
        | apply Keeps.refl
    | (with_reducible apply Keeps.after (keeps_wr ..) ?_ ?_ ?_) <;> [(first | rfl | (dsimp only; rfl) | exact Nat.or_self _ | exact sub_left .. | exact sub_right .. | exact sub_into rfl | exact sub_both rfl); rfl; skip]
    | split

theorem keeps_execRestoreComplete (g : Fin 4) (passing : List ℕ) (s : State) :
    KeepsO 0x1800000 0xc0 s (execRestoreComplete g passing s) := by
  unfold execRestoreComplete
  repeat' first
    | with_reducible first
        | apply KeepsO.done
        | apply Keeps.refl
        | apply Keeps.andThen (Keeps.guarded ?_) ?_
        | apply Keeps.andThen (Keeps.foldl (fun t a => ?_)) ?_
    | (with_reducible apply Keeps.after (keeps_off ..) ?_ ?_ ?_) <;> [(first | rfl | (dsimp only; rfl)); rfl; skip]
    | (with_reducible apply Keeps.after (keeps_bringBack ..) ?_ ?_ ?_) <;> [rfl; rfl; skip]
    | (with_reducible apply Keeps.after (keeps_knkStat ..) ?_ ?_ ?_) <;> [rfl; rfl; skip]
    | (with_reducible apply Keeps.after (keeps_reroute ..) ?_ ?_ ?_) <;> [rfl; rfl; skip]
    | (with_reducible apply Keeps.after (keeps_restoreField ..) ?_ ?_ ?_) <;> [(first | rfl | (dsimp only; rfl)); rfl; skip]
    | simp (disch := first | exact Or.inl rfl | with_reducible exact Or.inr rfl | rfl) only [Keeps.upd]
    | split

end Sys2Proof.Machine
end

