-- ==== Sys2Proof/Laws/KeepsScan.lean ====
section
/-! SUPPORT. The frames of the operations of Machine/Scan.lean: what each can change, and that it keeps the stores canonical. -/

namespace Sys2Proof.Machine
open Sys2Proof

theorem keeps_countUnrepaired (owner : ℕ) (s : State) :
    Keeps 0x1400000000000000000000000000000000000000000000000000 0 s (countUnrepaired owner s) := by
  unfold countUnrepaired
  repeat' first
    | with_reducible first
        | apply Keeps.refl
    | (with_reducible apply Keeps.after (keeps_satAdd ..) ?_ ?_ ?_) <;> [(first | rfl | (dsimp only; rfl)); rfl; skip]
    | split

theorem keeps_scbEvent (cause : Fld) (enable : Fld) (l : ℕ) (s : State) :
    Keeps (1 <<< cause.reg.ctorIdx ||| 0x80000000000000000000000000000000000000000000000000000000000000000000000) 0x21 s (scbEvent cause enable l s) := by
  unfold scbEvent
  repeat' first
    | with_reducible first
        | apply Keeps.refl
    | (with_reducible apply Keeps.after (keeps_raiseCause ..) ?_ ?_ ?_) <;> [(first | rfl | (dsimp only; rfl) | exact Nat.or_self _ | exact sub_left .. | exact sub_right .. | exact sub_into rfl | exact sub_both rfl); rfl; skip]

theorem keeps_scbLog (l : ℕ) (kind : ℕ) (owner : ℕ) (frame : ℕ) (bit : ℕ) (s : State) :
    Keeps 0x16000000000000000000000000000000000000000000000000000000 0 s (scbLog l kind owner frame bit s) := by
  unfold scbLog
  repeat' first
    | with_reducible first
        | apply Keeps.refl
    | (with_reducible apply Keeps.after (keeps_wr ..) ?_ ?_ ?_) <;> [(first | rfl | (dsimp only; rfl)); rfl; skip]
    | (with_reducible apply Keeps.after (keeps_satAdd ..) ?_ ?_ ?_) <;> [(first | rfl | (dsimp only; rfl)); rfl; skip]
    | split
    | dsimp only

theorem keeps_setPendFrame (l : ℕ) (k : ℕ) (e : Option PendFrame) (s : State) :
    Keeps 0x100000000000000000000000000000000000000000000000000000 0x200 s (setPendFrame l k e s) := by
  unfold setPendFrame
  repeat' first
    | with_reducible first
        | apply Keeps.refl
    | (with_reducible apply Keeps.after (keeps_setScan ..) ?_ ?_ ?_) <;> [rfl; rfl; skip]

theorem keeps_giveUp (l : ℕ) (k : ℕ) (p : PendFrame) (s : State) :
    Keeps 0x80000000000000016141400000000000000000000000000000000000000000000000000 0x221 s (giveUp l k p s) := by
  unfold giveUp
  repeat' first
    | with_reducible first
        | apply Keeps.refl
    | (with_reducible apply Keeps.after (keeps_countUnrepaired ..) ?_ ?_ ?_) <;> [rfl; rfl; skip]
    | (with_reducible apply Keeps.after (keeps_scbEvent ..) ?_ ?_ ?_) <;> [(first | rfl | (dsimp only; rfl)); rfl; skip]
    | (with_reducible apply Keeps.after (keeps_scbLog ..) ?_ ?_ ?_) <;> [rfl; rfl; skip]
    | (with_reducible apply Keeps.after (keeps_setPendFrame ..) ?_ ?_ ?_) <;> [rfl; rfl; skip]

theorem keeps_fixGiveUp (l : ℕ) (f : ℕ) (s : State) :
    Keeps 0x80000000000000017141400000000000000000000000000000000000000000000000000 0x221 s (fixGiveUp l f s) := by
  unfold fixGiveUp
  repeat' first
    | with_reducible first
        | apply Keeps.refl
    | (with_reducible apply Keeps.after (keeps_on ..) ?_ ?_ ?_) <;> [(first | rfl | (dsimp only; rfl)); rfl; skip]
    | (with_reducible apply Keeps.after (keeps_giveUp ..) ?_ ?_ ?_) <;> [rfl; rfl; skip]
    | split

theorem keeps_countHard (l : ℕ) (owner : ℕ) (s : State) :
    Keeps 0x10a00000000000000000000000000000000000000000000000000 0 s (countHard l owner s) := by
  unfold countHard
  repeat' first
    | with_reducible first
        | apply Keeps.refl
    | (with_reducible apply Keeps.after (keeps_satAdd ..) ?_ ?_ ?_) <;> [(first | rfl | (dsimp only; rfl)); rfl; skip]
    | split

theorem keeps_checkHistory (l : ℕ) (f : ℕ) (bit : ℕ) (owner : ℕ) (s : State) :
    Keeps 0x80000000000000016150a00000000000000000000000000000000000000000000000000 0x221 s (checkHistory l f bit owner s) := by
  unfold checkHistory
  repeat' first
    | with_reducible first
        | apply Keeps.refl
    | (with_reducible apply Keeps.after (keeps_setScan ..) ?_ ?_ ?_) <;> [rfl; rfl; skip]
    | (with_reducible apply Keeps.after (keeps_scbEvent ..) ?_ ?_ ?_) <;> [(first | rfl | (dsimp only; rfl)); rfl; skip]
    | (with_reducible apply Keeps.after (keeps_scbLog ..) ?_ ?_ ?_) <;> [rfl; rfl; skip]
    | (with_reducible apply Keeps.after (keeps_countHard ..) ?_ ?_ ?_) <;> [rfl; rfl; skip]
    | split
    | dsimp only

theorem keeps_repairFrame (f : Nat) (v : Frame) (s : State) : Keeps 0 0x200 s (repairFrame f v s) :=
  Keeps.store rfl rfl id (swf_sset (fun _ => 0) _ _ _) id (fun p hp => by cases p <;> first | rfl | exact absurd hp (by decide))

theorem keeps_fixGo (l : ℕ) (f : ℕ) (s : State) :
    Keeps 0x80000000000000017151e00000000000000000000000000000000000000000000000000 0x221 s (fixGo l f s) := by
  unfold fixGo
  repeat' first
    | with_reducible first
        | apply Keeps.refl
    | (with_reducible apply Keeps.after (keeps_on ..) ?_ ?_ ?_) <;> [(first | rfl | (dsimp only; rfl)); rfl; skip]
    | (with_reducible apply Keeps.after (keeps_scbLog ..) ?_ ?_ ?_) <;> [rfl; rfl; skip]
    | (with_reducible apply Keeps.after (keeps_setPendFrame ..) ?_ ?_ ?_) <;> [rfl; rfl; skip]
    | (with_reducible apply Keeps.after (keeps_giveUp ..) ?_ ?_ ?_) <;> [rfl; rfl; skip]
    | (with_reducible apply Keeps.after (keeps_checkHistory ..) ?_ ?_ ?_) <;> [rfl; rfl; skip]
    | (with_reducible apply Keeps.after (keeps_repairFrame ..) ?_ ?_ ?_) <;> [rfl; rfl; skip]
    | split
    | dsimp only

theorem keeps_scbLogPop (l : ℕ) (v : Word) (s : State) :
    Keeps 0x2000000000000000000000000000000000000000000000000000000 0 s (scbLogPop l v s) := by
  unfold scbLogPop
  repeat' first
    | with_reducible first
        | apply Keeps.refl
    | (with_reducible apply Keeps.after (keeps_wr ..) ?_ ?_ ?_) <;> [(first | rfl | (dsimp only; rfl)); rfl; skip]
    | split
    | dsimp only

theorem keeps_execFixGo (leaf : Fin 4) (frame : ℕ) (s : State) :
    KeepsO 0x80000000000000017151e00000000000000000000000000000000000000000000000000 0x221 s (execFixGo leaf frame s) := by
  unfold execFixGo
  repeat' first
    | with_reducible first
        | apply KeepsO.done
        | apply Keeps.refl
    | (with_reducible apply Keeps.after (keeps_fixGo ..) ?_ ?_ ?_) <;> [rfl; rfl; skip]

theorem keeps_execFixTimeout (leaf : Fin 4) (entry : Fin 16) (s : State) :
    KeepsO 0x80000000000000016141400000000000000000000000000000000000000000000000000 0x221 s (execFixTimeout leaf entry s) := by
  unfold execFixTimeout
  repeat' first
    | with_reducible first
        | apply KeepsO.done
        | apply Keeps.refl
    | (with_reducible apply Keeps.after (keeps_giveUp ..) ?_ ?_ ?_) <;> [rfl; rfl; skip]
    | split

theorem keeps_fixSig (f : ℕ) (r : BitVec 39) (s : State) :
    Keeps 0 0x200 s (fixSig f r s) := by
  unfold fixSig
  repeat' first
    | with_reducible first
        | apply Keeps.refl
    | simp (disch := first | exact Or.inl rfl | with_reducible exact Or.inr rfl | rfl) only [Keeps.upd]

theorem keeps_flipSig (f : ℕ) (x : SigFlips) (s : State) :
    Keeps 0 0x200 s (flipSig f x s) := by
  unfold flipSig
  repeat' first
    | with_reducible first
        | apply Keeps.refl
    | simp (disch := first | exact Or.inl rfl | with_reducible exact Or.inr rfl | rfl) only [Keeps.upd]
    | split

theorem keeps_nextSlot (l : ℕ) (skipped : Bool) (s : State) :
    Keeps 0x122000000000000000000000000000000000000000000000000000 0x200 s (nextSlot l skipped s) := by
  unfold nextSlot
  repeat' first
    | with_reducible first
        | apply Keeps.refl
    | (with_reducible apply Keeps.after (keeps_wr ..) ?_ ?_ ?_) <;> [(first | rfl | (dsimp only; rfl)); rfl; skip]
    | (with_reducible apply Keeps.after (keeps_off ..) ?_ ?_ ?_) <;> [(first | rfl | (dsimp only; rfl)); rfl; skip]
    | (with_reducible apply Keeps.after (keeps_on ..) ?_ ?_ ?_) <;> [(first | rfl | (dsimp only; rfl)); rfl; skip]
    | (with_reducible apply Keeps.after (keeps_setScan ..) ?_ ?_ ?_) <;> [rfl; rfl; skip]
    | split
    | dsimp only

theorem keeps_multiBit (l : ℕ) (f : ℕ) (s : State) :
    Keeps 0x80000000000000016148000000000000000000000000000000000000000000000000000 0x221 s (multiBit l f s) := by
  unfold multiBit
  repeat' first
    | with_reducible first
        | apply Keeps.refl
    | (with_reducible apply Keeps.after (keeps_satAdd ..) ?_ ?_ ?_) <;> [(first | rfl | (dsimp only; rfl)); rfl; skip]
    | (with_reducible apply Keeps.after (keeps_setScan ..) ?_ ?_ ?_) <;> [rfl; rfl; skip]
    | (with_reducible apply Keeps.after (keeps_scbEvent ..) ?_ ?_ ?_) <;> [(first | rfl | (dsimp only; rfl)); rfl; skip]
    | (with_reducible apply Keeps.after (keeps_scbLog ..) ?_ ?_ ?_) <;> [rfl; rfl; skip]
    | split
    | dsimp only

theorem keeps_scanFrame (l : ℕ) (f : ℕ) (sig : BitVec 32) (s : State) :
    Keeps 0x8000000000000001616a000000000000000000000000000000000000000000000000000 0x221 s (scanFrame l f sig s) := by
  unfold scanFrame
  repeat' first
    | with_reducible first
        | apply Keeps.refl
    | (with_reducible apply Keeps.after (keeps_on ..) ?_ ?_ ?_) <;> [(first | rfl | (dsimp only; rfl)); rfl; skip]
    | (with_reducible apply Keeps.after (keeps_setScan ..) ?_ ?_ ?_) <;> [rfl; rfl; skip]
    | (with_reducible apply Keeps.after (keeps_nextSlot ..) ?_ ?_ ?_) <;> [rfl; rfl; skip]
    | (with_reducible apply Keeps.after (keeps_multiBit ..) ?_ ?_ ?_) <;> [rfl; rfl; skip]
    | simp (disch := first | exact Or.inl rfl | with_reducible exact Or.inr rfl | rfl) only [Keeps.upd]
    | split

theorem keeps_unverifiable (l : ℕ) (f : ℕ) (s : State) :
    Keeps 0x80000000000000016163400000000000000000000000000000000000000000000000000 0x221 s (unverifiable l f s) := by
  unfold unverifiable
  repeat' first
    | with_reducible first
        | apply Keeps.refl
    | (with_reducible apply Keeps.after (keeps_setScan ..) ?_ ?_ ?_) <;> [rfl; rfl; skip]
    | (with_reducible apply Keeps.after (keeps_countUnrepaired ..) ?_ ?_ ?_) <;> [rfl; rfl; skip]
    | (with_reducible apply Keeps.after (keeps_scbEvent ..) ?_ ?_ ?_) <;> [(first | rfl | (dsimp only; rfl)); rfl; skip]
    | (with_reducible apply Keeps.after (keeps_scbLog ..) ?_ ?_ ?_) <;> [rfl; rfl; skip]
    | (with_reducible apply Keeps.after (keeps_nextSlot ..) ?_ ?_ ?_) <;> [rfl; rfl; skip]

theorem keeps_frameSlot (l : Nat) (flips : List Nat) (x : SigFlips) (s : State) :
    Keeps 0x8000000000000001616b400000000000000000000000000000000000000000000000000 0x221 s (frameSlot l flips x s) := by
  unfold frameSlot
  extract_lets c f g struck s1 s2
  have h : Keeps 0x8000000000000001616b400000000000000000000000000000000000000000000000000 0x221 s struck :=
    Keeps.store rfl rfl id (swf_sset (fun _ => 0) _ _ _) id (fun p hp => by cases p <;> first | rfl | exact absurd hp (by decide))
  clear_value struck
  subst s2
  subst s1
  repeat' first
    | with_reducible first
        | assumption
    | (with_reducible apply Keeps.after (keeps_on ..) ?_ ?_ ?_) <;> [(first | rfl | (dsimp only; rfl)); rfl; skip]
    | (with_reducible apply Keeps.after (keeps_fixSig ..) ?_ ?_ ?_) <;> [rfl; rfl; skip]
    | (with_reducible apply Keeps.after (keeps_flipSig ..) ?_ ?_ ?_) <;> [rfl; rfl; skip]
    | (with_reducible apply Keeps.after (keeps_nextSlot ..) ?_ ?_ ?_) <;> [rfl; rfl; skip]
    | (with_reducible apply Keeps.after (keeps_scanFrame ..) ?_ ?_ ?_) <;> [rfl; rfl; skip]
    | (with_reducible apply Keeps.after (keeps_unverifiable ..) ?_ ?_ ?_) <;> [rfl; rfl; skip]
    | split

theorem keeps_execFrameSlot (leaf : Fin 4) (flips : List (Fin 4112)) (store : SigFlips) (s : State) :
    KeepsO 0x8000000000000001616b400000000000000000000000000000000000000000000000000 0x221 s (execFrameSlot leaf flips store s) := by
  unfold execFrameSlot
  repeat' first
    | with_reducible first
        | apply KeepsO.done
        | apply Keeps.refl
        | apply Keeps.andThen (Keeps.guarded ?_) ?_
    | (with_reducible apply Keeps.after (keeps_frameSlot ..) ?_ ?_ ?_) <;> [rfl; rfl; skip]

theorem keeps_execGiveup (leaf : Fin 4) (frame : ℕ) (s : State) :
    KeepsO 0x80000000000000017141400000000000000000000000000000000000000000000000000 0x221 s (execGiveup leaf frame s) := by
  unfold execGiveup
  repeat' first
    | with_reducible first
        | apply KeepsO.done
        | apply Keeps.refl
    | (with_reducible apply Keeps.after (keeps_fixGiveUp ..) ?_ ?_ ?_) <;> [rfl; rfl; skip]

theorem keeps_execRepairWrite (leaf : Fin 4) (s : State) :
    KeepsO 0x80000000000000016154a00000000000000000000000000000000000000000000000000 0x221 s (execRepairWrite leaf s) := by
  unfold execRepairWrite
  repeat' first
    | with_reducible first
        | apply KeepsO.done
        | apply Keeps.refl
    | (with_reducible apply Keeps.after (keeps_satAdd ..) ?_ ?_ ?_) <;> [(first | rfl | (dsimp only; rfl)); rfl; skip]
    | (with_reducible apply Keeps.after (keeps_setScan ..) ?_ ?_ ?_) <;> [rfl; rfl; skip]
    | (with_reducible apply Keeps.after (keeps_scbEvent ..) ?_ ?_ ?_) <;> [(first | rfl | (dsimp only; rfl)); rfl; skip]
    | (with_reducible apply Keeps.after (keeps_scbLog ..) ?_ ?_ ?_) <;> [rfl; rfl; skip]
    | (with_reducible apply Keeps.after (keeps_checkHistory ..) ?_ ?_ ?_) <;> [rfl; rfl; skip]
    | (with_reducible apply Keeps.after (keeps_repairFrame ..) ?_ ?_ ?_) <;> [rfl; rfl; skip]
    | split

theorem keeps_execScanPassStart (leaf : Fin 4) (s : State) :
    KeepsO 0x102000000000000000000000000000000000000000000000000000 0x200 s (execScanPassStart leaf s) := by
  unfold execScanPassStart
  repeat' first
    | with_reducible first
        | apply KeepsO.done
        | apply Keeps.refl
        | apply Keeps.andThen (Keeps.guarded ?_) ?_
    | (with_reducible apply Keeps.after (keeps_on ..) ?_ ?_ ?_) <;> [(first | rfl | (dsimp only; rfl)); rfl; skip]
    | (with_reducible apply Keeps.after (keeps_setScan ..) ?_ ?_ ?_) <;> [rfl; rfl; skip]
    | (with_reducible apply Keeps.after (keeps_wrapInc ..) ?_ ?_ ?_) <;> [(first | rfl | (dsimp only; rfl)); rfl; skip]

theorem keeps_execScbLogPop (leaf : Fin 4) (v : Word) (s : State) :
    KeepsO 0x2000000000000000000000000000000000000000000000000000000 0 s (execScbLogPop leaf v s) := by
  unfold execScbLogPop
  repeat' first
    | with_reducible first
        | apply KeepsO.done
        | apply Keeps.refl
    | (with_reducible apply Keeps.after (keeps_scbLogPop ..) ?_ ?_ ?_) <;> [rfl; rfl; skip]

end Sys2Proof.Machine
end

