-- ==== Sys2Proof/Laws/KeepsSherex.lean ====
section
/-! SUPPORT. The frames of the operations of Machine/Sherex.lean: what each can change, and that it keeps the stores canonical. -/

namespace Sys2Proof.Machine
open Sys2Proof

theorem keeps_advanceTail (n : ℕ) (s : State) :
    Keeps 0x200000000000000000000000000000000000000000000000000000000000000000 0 s (advanceTail n s) := by
  unfold advanceTail
  repeat' first
    | with_reducible first
        | apply Keeps.refl
    | (with_reducible apply Keeps.after (keeps_wr ..) ?_ ?_ ?_) <;> [(first | rfl | (dsimp only; rfl)); rfl; skip]
    | split
    | dsimp only

theorem keeps_setTaken (n : ℕ) (m : ℕ) (t : Option MbTaken) (s : State) :
    Keeps 0 0x10000 s (setTaken n m t s) := by
  unfold setTaken
  repeat' first
    | with_reducible first
        | apply Keeps.refl
    | simp (disch := first | exact Or.inl rfl | with_reducible exact Or.inr rfl | rfl) only [Keeps.upd]

theorem keeps_putResponse (n : ℕ) (m : ℕ) (l : List Byte) (s : State) :
    Keeps 0x1000000000000000000000000000000000000000000000000000000000000000000 0 s (putResponse n m l s) := by
  unfold putResponse
  repeat' first
    | with_reducible first
        | apply Keeps.refl
        | apply Keeps.andThen (Keeps.foldl (fun t a => ?_)) ?_
    | (with_reducible apply Keeps.after (keeps_setReg ..) ?_ ?_ ?_) <;> [(first | rfl | (dsimp only; rfl)); rfl; skip]

theorem keeps_shxAnswer (n : ℕ) (m : ℕ) (status : ℕ) (dsrc : ℕ) (handle : ℕ) (detail : ℕ) (result : List Byte) (s : State) :
    Keeps 0x1000000000000000000000000000000000000000000000000000000000000000000 0x10000 s (shxAnswer n m status dsrc handle detail result s) := by
  unfold shxAnswer
  repeat' first
    | with_reducible first
        | apply Keeps.refl
    | (with_reducible apply Keeps.after (keeps_setTaken ..) ?_ ?_ ?_) <;> [rfl; rfl; skip]
    | (with_reducible apply Keeps.after (keeps_putResponse ..) ?_ ?_ ?_) <;> [rfl; rfl; skip]

theorem keeps_shxRefuse (n : ℕ) (m : ℕ) (status : ℕ) (s : State) :
    Keeps 0x1000000000000000000000000000000000000000000000000000000000000000000 0x10000 s (shxRefuse n m status s) := by
  unfold shxRefuse
  repeat' first
    | with_reducible first
        | apply Keeps.refl
    | (with_reducible apply Keeps.after (keeps_shxAnswer ..) ?_ ?_ ?_) <;> [rfl; rfl; skip]

theorem keeps_authFailed (n : ℕ) (m : ℕ) (s : State) :
    Keeps 0x1000400000000000000000000000000000000000000000000000000000000000000 0x10000 s (authFailed n m s) := by
  unfold authFailed
  repeat' first
    | with_reducible first
        | apply Keeps.refl
    | (with_reducible apply Keeps.after (keeps_on ..) ?_ ?_ ?_) <;> [(first | rfl | (dsimp only; rfl)); rfl; skip]
    | (with_reducible apply Keeps.after (keeps_shxRefuse ..) ?_ ?_ ?_) <;> [rfl; rfl; skip]
    | simp (disch := first | exact Or.inl rfl | with_reducible exact Or.inr rfl | rfl) only [Keeps.upd]
    | split

theorem keeps_setNext (n : ℕ) (v : ℕ) (s : State) :
    Keeps 0x1800000000000000000000000000000000000000000000000000000000000000 0 s (setNext n v s) := by
  unfold setNext
  repeat' first
    | with_reducible first
        | apply Keeps.refl
    | (with_reducible apply Keeps.after (keeps_wr ..) ?_ ?_ ?_) <;> [(first | rfl | (dsimp only; rfl)); rfl; skip]

theorem keeps_setPhase (n : ℕ) (m : ℕ) (p : MbPhase) (s : State) :
    Keeps 0 0x10000 s (setPhase n m p s) := by
  unfold setPhase
  repeat' first
    | with_reducible first
        | apply Keeps.refl
    | (with_reducible apply Keeps.after (keeps_setTaken ..) ?_ ?_ ?_) <;> [rfl; rfl; skip]

theorem keeps_counterTaken (n : ℕ) (m : ℕ) (s : State) :
    Keeps 0x1800000000000000000000000000000000000000000000000000000000000000 0x10000 s (counterTaken n m s) := by
  unfold counterTaken
  repeat' first
    | with_reducible first
        | apply Keeps.refl
    | (with_reducible apply Keeps.after (keeps_setNext ..) ?_ ?_ ?_) <;> [rfl; rfl; skip]
    | (with_reducible apply Keeps.after (keeps_setPhase ..) ?_ ?_ ?_) <;> [rfl; rfl; skip]

theorem keeps_checkCounter (n : ℕ) (m : ℕ) (s : State) :
    Keeps 0x1001800000000000000000000000000000000000000000000000000000000000000 0x10000 s (checkCounter n m s) := by
  unfold checkCounter
  repeat' first
    | with_reducible first
        | apply Keeps.refl
    | (with_reducible apply Keeps.after (keeps_shxRefuse ..) ?_ ?_ ?_) <;> [rfl; rfl; skip]
    | (with_reducible apply Keeps.after (keeps_setPhase ..) ?_ ?_ ?_) <;> [rfl; rfl; skip]
    | (with_reducible apply Keeps.after (keeps_counterTaken ..) ?_ ?_ ?_) <;> [rfl; rfl; skip]
    | split
    | dsimp only

theorem keeps_authenticate (n : ℕ) (m : ℕ) (s : State) :
    Keeps 0x1001c00000000000000000000000000000000000000000000000000000000000000 0x10000 s (authenticate n m s) := by
  unfold authenticate
  repeat' first
    | with_reducible first
        | apply Keeps.refl
    | (with_reducible apply Keeps.after (keeps_off ..) ?_ ?_ ?_) <;> [(first | rfl | (dsimp only; rfl)); rfl; skip]
    | (with_reducible apply Keeps.after (keeps_shxRefuse ..) ?_ ?_ ?_) <;> [rfl; rfl; skip]
    | (with_reducible apply Keeps.after (keeps_authFailed ..) ?_ ?_ ?_) <;> [rfl; rfl; skip]
    | (with_reducible apply Keeps.after (keeps_checkCounter ..) ?_ ?_ ?_) <;> [rfl; rfl; skip]
    | simp (disch := first | exact Or.inl rfl | with_reducible exact Or.inr rfl | rfl) only [Keeps.upd]
    | split

theorem keeps_crCtlWrite (n : ℕ) (v : Word) (s : State) :
    Keeps 0x380000000000000000000000000000000000000000000000000000000000000000 0 s (crCtlWrite n v s) := by
  unfold crCtlWrite
  repeat' first
    | with_reducible first
        | apply Keeps.refl
    | (with_reducible apply Keeps.after (keeps_wr ..) ?_ ?_ ?_) <;> [(first | rfl | (dsimp only; rfl)); rfl; skip]
    | split
    | dsimp only

theorem keeps_crHeadWrite (n : ℕ) (v : Word) (s : State) :
    Keeps 0x500000000000000000000000000000000000000000000000000000000000000000 0 s (crHeadWrite n v s) := by
  unfold crHeadWrite
  repeat' first
    | with_reducible first
        | apply Keeps.refl
    | (with_reducible apply Keeps.after (keeps_wr ..) ?_ ?_ ?_) <;> [(first | rfl | (dsimp only; rfl)); rfl; skip]
    | (with_reducible apply Keeps.after (keeps_on ..) ?_ ?_ ?_) <;> [(first | rfl | (dsimp only; rfl)); rfl; skip]
    | split
    | dsimp only

theorem keeps_hwinWrite (n : ℕ) (w : ℕ) (k : ℕ) (v : Word) (s : State) :
    Keeps 0x100000000000000000000000000000000000000000000000000000000000000 0x10000 s (hwinWrite n w k v s) := by
  unfold hwinWrite
  repeat' first
    | with_reducible first
        | apply Keeps.refl
    | (with_reducible apply Keeps.after (keeps_setReg ..) ?_ ?_ ?_) <;> [(first | rfl | (dsimp only; rfl)); rfl; skip]
    | simp (disch := first | exact Or.inl rfl | with_reducible exact Or.inr rfl | rfl) only [Keeps.upd]
    | split

theorem keeps_setMbState (n : ℕ) (m : ℕ) (st : ℕ) (s : State) :
    Keeps 0x8000000000000000000000000000000000000000000000000000000000000000 0 s (setMbState n m st s) := by
  unfold setMbState
  repeat' first
    | with_reducible first
        | apply Keeps.refl
    | (with_reducible apply Keeps.after (keeps_wr ..) ?_ ?_ ?_) <;> [(first | rfl | (dsimp only; rfl)); rfl; skip]

theorem keeps_mbAck (n : ℕ) (m : ℕ) (s : State) :
    Keeps 0x8000000000000000000000000000000000000000000000000000000000000000 0 s (mbAck n m s) := by
  unfold mbAck
  repeat' first
    | with_reducible first
        | apply Keeps.refl
    | (with_reducible apply Keeps.after (keeps_on ..) ?_ ?_ ?_) <;> [(first | rfl | (dsimp only; rfl)); rfl; skip]
    | (with_reducible apply Keeps.after (keeps_setMbState ..) ?_ ?_ ?_) <;> [rfl; rfl; skip]
    | split

theorem keeps_mbDone (n : ℕ) (m : ℕ) (s : State) :
    Keeps 0x80000008000000000000000000000000000000000000000000000000000000000000000 0x21 s (mbDone n m s) := by
  unfold mbDone
  repeat' first
    | with_reducible first
        | apply Keeps.refl
    | (with_reducible apply Keeps.after (keeps_off ..) ?_ ?_ ?_) <;> [(first | rfl | (dsimp only; rfl)); rfl; skip]
    | (with_reducible apply Keeps.after (keeps_raise ..) ?_ ?_ ?_) <;> [rfl; rfl; skip]
    | (with_reducible apply Keeps.after (keeps_setMbState ..) ?_ ?_ ?_) <;> [rfl; rfl; skip]
    | split
    | dsimp only

theorem keeps_mbDoneWrite (n : ℕ) (m : ℕ) (s : State) :
    Keeps 0x8000000a000000000000000000000000000000000000000000000000000000000000000 0x10021 s (mbDoneWrite n m s) := by
  unfold mbDoneWrite
  repeat' first
    | with_reducible first
        | apply Keeps.refl
        | apply Keeps.andThen (Keeps.guarded ?_) ?_
    | (with_reducible apply Keeps.after (keeps_wr ..) ?_ ?_ ?_) <;> [(first | rfl | (dsimp only; rfl)); rfl; skip]
    | (with_reducible apply Keeps.after (keeps_setTaken ..) ?_ ?_ ?_) <;> [rfl; rfl; skip]
    | (with_reducible apply Keeps.after (keeps_mbDone ..) ?_ ?_ ?_) <;> [rfl; rfl; skip]
    | simp (disch := first | exact Or.inl rfl | with_reducible exact Or.inr rfl | rfl) only [Keeps.upd]
    | split

theorem keeps_mbRing (n : ℕ) (m : ℕ) (s : State) :
    Keeps 0x80000018000000000000000000000000000000000000000000000000000000000000000 0x21 s (mbRing n m s) := by
  unfold mbRing
  repeat' first
    | with_reducible first
        | apply Keeps.refl
    | (with_reducible apply Keeps.after (keeps_wr ..) ?_ ?_ ?_) <;> [(first | rfl | (dsimp only; rfl)); rfl; skip]
    | (with_reducible apply Keeps.after (keeps_on ..) ?_ ?_ ?_) <;> [(first | rfl | (dsimp only; rfl)); rfl; skip]
    | (with_reducible apply Keeps.after (keeps_raise ..) ?_ ?_ ?_) <;> [rfl; rfl; skip]
    | (with_reducible apply Keeps.after (keeps_setMbState ..) ?_ ?_ ?_) <;> [rfl; rfl; skip]
    | split

theorem keeps_mbTake (n : ℕ) (m : ℕ) (s : State) :
    Keeps 0x8000000000000000000000000000000000000000000000000000000000000000 0 s (mbTake n m s) := by
  unfold mbTake
  repeat' first
    | with_reducible first
        | apply Keeps.refl
    | (with_reducible apply Keeps.after (keeps_setMbState ..) ?_ ?_ ?_) <;> [rfl; rfl; skip]
    | split

theorem keeps_endTicket (t : Option ℕ) (s : State) :
    Keeps 0x304240080000000000000000100002250000000000000920000000000000000000000080000000 0x667a1 s (endTicket t s) := by
  unfold endTicket
  repeat' first
    | with_reducible first
        | apply Keeps.refl
    | (with_reducible apply Keeps.after (keeps_mntDoneWrite ..) ?_ ?_ ?_) <;> [rfl; rfl; skip]
    | split

theorem keeps_examine (n : ℕ) (m : ℕ) (s : State) :
    Keeps 0x1001c00000000000000000000000000000000000000000000000000000000000000 0x10000 s (examine n m s) := by
  unfold examine
  repeat' first
    | with_reducible first
        | apply Keeps.refl
    | (with_reducible apply Keeps.after (keeps_shxRefuse ..) ?_ ?_ ?_) <;> [rfl; rfl; skip]
    | (with_reducible apply Keeps.after (keeps_setPhase ..) ?_ ?_ ?_) <;> [rfl; rfl; skip]
    | (with_reducible apply Keeps.after (keeps_authenticate ..) ?_ ?_ ?_) <;> [rfl; rfl; skip]
    | split

theorem keeps_execAuthHoldExpiry (n : Fin 16) (m : Fin 2) (s : State) :
    KeepsO 0x1001c00000000000000000000000000000000000000000000000000000000000000 0x10000 s (execAuthHoldExpiry n m s) := by
  unfold execAuthHoldExpiry
  repeat' first
    | with_reducible first
        | apply KeepsO.done
        | apply Keeps.refl
        | apply Keeps.andThen (Keeps.guarded ?_) ?_
    | (with_reducible apply Keeps.after (keeps_authenticate ..) ?_ ?_ ?_) <;> [rfl; rfl; skip]

theorem keeps_showHandles (n : ℕ) (s : State) :
    Keeps 0x400400000000000000000000000000000000000000000000000000000000000000 0 s (showHandles n s) := by
  unfold showHandles
  repeat' first
    | with_reducible first
        | apply Keeps.refl
    | (with_reducible apply Keeps.after (keeps_wr ..) ?_ ?_ ?_) <;> [(first | rfl | (dsimp only; rfl)); rfl; skip]

theorem keeps_finishOp (o : ShxOp) (e : ShxEnd) (s : State) :
    Keeps 0x304240080000400400000000100002250000000000000920000000000000000000000080000000 0x767a1 s (finishOp o e s) := by
  unfold finishOp
  repeat' first
    | with_reducible first
        | apply Keeps.refl
    | (with_reducible apply Keeps.after (keeps_endTicket ..) ?_ ?_ ?_) <;> [rfl; rfl; skip]
    | (with_reducible apply Keeps.after (keeps_showHandles ..) ?_ ?_ ?_) <;> [rfl; rfl; skip]
    | simp (disch := first | exact Or.inl rfl | with_reducible exact Or.inr rfl | rfl) only [Keeps.upd]

theorem keeps_execCounterFloorWrite (n : Fin 16) (m : Fin 2) (ok : Bool) (s : State) :
    KeepsO 0x1001800000000000000000000000000000000000000000000000000000000000000 0x10000 s (execCounterFloorWrite n m ok s) := by
  unfold execCounterFloorWrite
  repeat' first
    | with_reducible first
        | apply KeepsO.done
        | apply Keeps.refl
        | apply Keeps.andThen (Keeps.guarded ?_) ?_
    | (with_reducible apply Keeps.after (keeps_shxRefuse ..) ?_ ?_ ?_) <;> [rfl; rfl; skip]
    | (with_reducible apply Keeps.after (keeps_counterTaken ..) ?_ ?_ ?_) <;> [rfl; rfl; skip]
    | simp (disch := first | exact Or.inl rfl | with_reducible exact Or.inr rfl | rfl) only [Keeps.upd]
    | split

theorem keeps_execCrEnable (n : Fin 16) (v : Word) (s : State) :
    KeepsO 0x380000000000000000000000000000000000000000000000000000000000000000 0 s (execCrEnable n v s) := by
  unfold execCrEnable
  repeat' first
    | with_reducible first
        | apply KeepsO.done
        | apply Keeps.refl
        | apply Keeps.andThen (Keeps.guarded ?_) ?_
    | (with_reducible apply Keeps.after (keeps_crCtlWrite ..) ?_ ?_ ?_) <;> [rfl; rfl; skip]

theorem keeps_execCrHeadWrite (n : Fin 16) (v : Word) (s : State) :
    KeepsO 0x500000000000000000000000000000000000000000000000000000000000000000 0 s (execCrHeadWrite n v s) := by
  unfold execCrHeadWrite
  repeat' first
    | with_reducible first
        | apply KeepsO.done
        | apply Keeps.refl
        | apply Keeps.andThen (Keeps.guarded ?_) ?_
    | (with_reducible apply Keeps.after (keeps_crHeadWrite ..) ?_ ?_ ?_) <;> [rfl; rfl; skip]

theorem keeps_issueHandle (n : ℕ) (s : State) :
    Keeps 0 0x10000 s (issueHandle n s).2 := by
  unfold issueHandle
  repeat' first
    | with_reducible first
        | apply Keeps.refl
    | simp (disch := first | exact Or.inl rfl | with_reducible exact Or.inr rfl | rfl) only [Keeps.upd]

theorem keeps_issueHandle_eq {n : ℕ} {s : State} {out} {t : State} (he : issueHandle n s = (out, t)) :
    Keeps 0 0x10000 s t := by
  have := keeps_issueHandle n s
  rwa [he] at this

theorem keeps_writeHost (n : ℕ) (addr : ℕ) (l : List Byte) (s : State) :
    Keeps 0x1000000004000000000000000000000000000000000000000000000000000000000000 0x8008 s (writeHost n addr l s) := by
  unfold writeHost
  repeat' first
    | with_reducible first
        | apply Keeps.refl
    | (with_reducible apply Keeps.after (keeps_admitMessage ..) ?_ ?_ ?_) <;> [rfl; rfl; skip]
    | simp (disch := first | exact Or.inl rfl | with_reducible exact Or.inr rfl | rfl) only [Keeps.upd]

theorem keeps_setOp (o : ShxOp) (s : State) :
    Keeps 0 0x10000 s (setOp o s) := by
  unfold setOp
  repeat' first
    | with_reducible first
        | apply Keeps.refl
    | simp (disch := first | exact Or.inl rfl | with_reducible exact Or.inr rfl | rfl) only [Keeps.upd]

theorem keeps_linkHeadReset (n : ℕ) (hot : Bool) (s : State) :
    Keeps 0x300000480000000000000000000000000000082410000f2000880800000000000000001c000000 0x270a1 s (linkHeadReset n hot s) := by
  unfold linkHeadReset
  repeat' first
    | with_reducible first
        | apply Keeps.refl
    | (with_reducible apply Keeps.after (keeps_off ..) ?_ ?_ ?_) <;> [(first | rfl | (dsimp only; rfl)); rfl; skip]
    | (with_reducible apply Keeps.after (keeps_linkGone ..) ?_ ?_ ?_) <;> [rfl; rfl; skip]
    | (with_reducible apply Keeps.after (keeps_headRelease ..) ?_ ?_ ?_) <;> [rfl; rfl; skip]
    | simp (disch := first | exact Or.inl rfl | with_reducible exact Or.inr rfl | rfl) only [Keeps.upd]
    | split

theorem keeps_mbHeadReset (n : ℕ) (s : State) (m : ℕ) :
    Keeps 0x8000000000000000000000000000000000000000000000000000000000000000 0 s (mbHeadReset n s m) := by
  unfold mbHeadReset
  repeat' first
    | with_reducible first
        | apply Keeps.refl
    | (with_reducible apply Keeps.after (keeps_on ..) ?_ ?_ ?_) <;> [(first | rfl | (dsimp only; rfl)); rfl; skip]
    | (with_reducible apply Keeps.after (keeps_setMbState ..) ?_ ?_ ?_) <;> [rfl; rfl; skip]
    | split

theorem keeps_shxHeadReset (n : Nat) (s : State) : Keeps 0x18003e8000000000000000000000000000000000000000000000000000000000000000 0x10020 s (shxHeadReset n s) := by
  unfold shxHeadReset
  simp only [List.foldl_cons, List.foldl_nil]
  repeat' first
    | with_reducible first
        | apply Keeps.refl
        | apply Keeps.andThen (Keeps.foldl (fun t a => ?_)) ?_
    | (with_reducible apply Keeps.after (keeps_setReg ..) ?_ ?_ ?_) <;> [(first | rfl | (dsimp only; rfl)); rfl; skip]
    | (with_reducible apply Keeps.after (keeps_mbHeadReset ..) ?_ ?_ ?_) <;> [rfl; rfl; skip]
    | simp (disch := first | exact Or.inl rfl | with_reducible exact Or.inr rfl | rfl) only [Keeps.upd]

theorem keeps_execHeadReset (n : Fin 16) (hot : Bool) (s : State) :
    KeepsO 0x3000004818003e8110000000000000000000082410008f3000880800000000000000001c000000 0x3f0a1 s (execHeadReset n hot s) := by
  unfold execHeadReset
  repeat' first
    | with_reducible first
        | apply KeepsO.done
        | apply Keeps.refl
        | apply Keeps.andThen (Keeps.guarded ?_) ?_
    | (with_reducible apply Keeps.after (keeps_clearWindowsGrants ..) ?_ ?_ ?_) <;> [rfl; rfl; skip]
    | (with_reducible apply Keeps.after (keeps_cohHeadReset ..) ?_ ?_ ?_) <;> [rfl; rfl; skip]
    | (with_reducible apply Keeps.after (keeps_linkHeadReset ..) ?_ ?_ ?_) <;> [rfl; rfl; skip]
    | (with_reducible apply Keeps.after (keeps_shxHeadReset ..) ?_ ?_ ?_) <;> [rfl; rfl; skip]

theorem keeps_setKey (n : ℕ) (k : Option (List Byte)) (s : State) :
    Keeps 0x400000000000000000000000000000000000000000000000000000000000000 0x10000 s (setKey n k s) := by
  unfold setKey
  repeat' first
    | with_reducible first
        | apply Keeps.refl
    | (with_reducible apply Keeps.after (keeps_wr ..) ?_ ?_ ?_) <;> [(first | rfl | (dsimp only; rfl)); rfl; skip]
    | simp (disch := first | exact Or.inl rfl | with_reducible exact Or.inr rfl | rfl) only [Keeps.upd]

theorem keeps_execMailboxAck (n : Fin 16) (m : Fin 2) (s : State) :
    KeepsO 0x8000000000000000000000000000000000000000000000000000000000000000 0 s (execMailboxAck n m s) := by
  unfold execMailboxAck
  repeat' first
    | with_reducible first
        | apply KeepsO.done
        | apply Keeps.refl
        | apply Keeps.andThen (Keeps.guarded ?_) ?_
    | (with_reducible apply Keeps.after (keeps_mbAck ..) ?_ ?_ ?_) <;> [rfl; rfl; skip]

theorem keeps_execMailboxDone (n : Fin 16) (m : Fin 2) (s : State) :
    KeepsO 0x8000000a000000000000000000000000000000000000000000000000000000000000000 0x10021 s (execMailboxDone n m s) := by
  unfold execMailboxDone
  repeat' first
    | with_reducible first
        | apply KeepsO.done
        | apply Keeps.refl
    | (with_reducible apply Keeps.after (keeps_mbDoneWrite ..) ?_ ?_ ?_) <;> [rfl; rfl; skip]

theorem keeps_execRecordWrite (n : Fin 16) (s : State) :
    KeepsO 0x810006004ec000000000000000000000000000000000000000000000000000000000000 0x18029 s (execRecordWrite n s) := by
  unfold execRecordWrite
  repeat' first
    | with_reducible first
        | apply KeepsO.done
        | apply Keeps.refl
        | apply Keeps.andThen (Keeps.guarded ?_) ?_
    | (with_reducible apply Keeps.after (keeps_on ..) ?_ ?_ ?_) <;> [(first | rfl | (dsimp only; rfl)); rfl; skip]
    | (with_reducible apply Keeps.after (keeps_raise ..) ?_ ?_ ?_) <;> [rfl; rfl; skip]
    | (with_reducible apply Keeps.after (keeps_advanceTail ..) ?_ ?_ ?_) <;> [rfl; rfl; skip]
    | (with_reducible apply Keeps.after (keeps_wardLog ..) ?_ ?_ ?_) <;> [rfl; rfl; skip]
    | (with_reducible apply Keeps.after (keeps_vio ..) ?_ ?_ ?_) <;> [rfl; rfl; skip]
    | (with_reducible apply Keeps.after (keeps_showHandles ..) ?_ ?_ ?_) <;> [rfl; rfl; skip]
    | (with_reducible apply Keeps.after (keeps_writeHost ..) ?_ ?_ ?_) <;> [rfl; rfl; skip]
    | simp (disch := first | exact Or.inl rfl | with_reducible exact Or.inr rfl | rfl) only [Keeps.upd]
    | split

theorem keeps_execRing (n : Fin 16) (m : Fin 2) (s : State) :
    KeepsO 0x80000018000000000000000000000000000000000000000000000000000000000000000 0x21 s (execRing n m s) := by
  unfold execRing
  repeat' first
    | with_reducible first
        | apply KeepsO.done
        | apply Keeps.refl
        | apply Keeps.andThen (Keeps.guarded ?_) ?_
    | (with_reducible apply Keeps.after (keeps_mbRing ..) ?_ ?_ ?_) <;> [rfl; rfl; skip]

theorem keeps_execTake (n : Fin 16) (m : Fin 2) (s : State) :
    KeepsO 0x1009c00000000000000000000000000000000000000000000000000000000000000 0x10000 s (execTake n m s) := by
  unfold execTake
  repeat' first
    | with_reducible first
        | apply KeepsO.done
        | apply Keeps.refl
        | apply Keeps.andThen (Keeps.guarded ?_) ?_
    | (with_reducible apply Keeps.after (keeps_setTaken ..) ?_ ?_ ?_) <;> [rfl; rfl; skip]
    | (with_reducible apply Keeps.after (keeps_mbTake ..) ?_ ?_ ?_) <;> [rfl; rfl; skip]
    | (with_reducible apply Keeps.after (keeps_examine ..) ?_ ?_ ?_) <;> [rfl; rfl; skip]

theorem keeps_shxTenantReset (n : ℕ) (s : State) :
    Keeps 0x304240080000400400000000100002250000000000000920000000000000000000000080000000 0x767a1 s (shxTenantReset n s) := by
  unfold shxTenantReset
  repeat' first
    | with_reducible first
        | apply Keeps.refl
        | apply Keeps.andThen (Keeps.foldl (fun t a => ?_)) ?_
    | (with_reducible apply Keeps.after (keeps_endTicket ..) ?_ ?_ ?_) <;> [rfl; rfl; skip]
    | (with_reducible apply Keeps.after (keeps_showHandles ..) ?_ ?_ ?_) <;> [rfl; rfl; skip]
    | simp (disch := first | exact Or.inl rfl | with_reducible exact Or.inr rfl | rfl) only [Keeps.upd]

theorem keeps_execTenantResetComplete (s : State) :
    KeepsO 0x3142404800004004000000001000022f0c0000000000893000000000000020000000009c000000 0x76fa9 s (execTenantResetComplete s) := by
  unfold execTenantResetComplete
  repeat' first
    | with_reducible first
        | apply KeepsO.done
        | apply Keeps.refl
        | apply Keeps.andThen (Keeps.guarded ?_) ?_
    | (with_reducible apply Keeps.after (keeps_off ..) ?_ ?_ ?_) <;> [(first | rfl | (dsimp only; rfl)); rfl; skip]
    | (with_reducible apply Keeps.after (keeps_dcFlushAll ..) ?_ ?_ ?_) <;> [rfl; rfl; skip]
    | (with_reducible apply Keeps.after (keeps_setHeld ..) ?_ ?_ ?_) <;> [rfl; rfl; skip]
    | (with_reducible apply Keeps.after (keeps_shxTenantReset ..) ?_ ?_ ?_) <;> [rfl; rfl; skip]
    | (with_reducible apply Keeps.after (keeps_trstPoll ..) ?_ ?_ ?_) <;> [rfl; rfl; skip]

theorem keeps_execWindowCommit (n : Fin 16) (w : Fin 16) (v : Word) (s : State) :
    KeepsO 0x100000000000000000000000000000000000000000000000000000000000000 0x10000 s (execWindowCommit n w v s) := by
  unfold execWindowCommit
  repeat' first
    | with_reducible first
        | apply KeepsO.done
        | apply Keeps.refl
        | apply Keeps.andThen (Keeps.guarded ?_) ?_
    | (with_reducible apply Keeps.after (keeps_hwinWrite ..) ?_ ?_ ?_) <;> [rfl; rfl; skip]

end Sys2Proof.Machine
end

