-- ==== Sys2Proof/Laws/KeepsRegAccess.lean ====
section
/-! SUPPORT. The frames of the operations of Machine/RegAccess.lean: what each can change, and that it keeps the stores canonical. -/

namespace Sys2Proof.Machine
open Sys2Proof

theorem keeps_khDebugRead (off : ℕ) (s : State) :
    Keeps 0x8000000000000000080000000000000000000000000000000000000000000000000000000000000000000000 0x21 s (khDebugRead off s).2 := by
  unfold khDebugRead
  repeat' first
    | with_reducible first
        | apply Keeps.refl
    | (with_reducible apply Keeps.after (keeps_khGet ..) ?_ ?_ ?_) <;> [rfl; rfl; skip]
    | split

theorem keeps_khDebugRead_eq {off : ℕ} {s : State} {out} {t : State} (he : khDebugRead off s = (out, t)) :
    Keeps 0x8000000000000000080000000000000000000000000000000000000000000000000000000000000000000000 0x21 s t := by
  have := keeps_khDebugRead off s
  rwa [he] at this

theorem keeps_readEffect (same : Word) (r : RegName) (i : ℕ) (s : State) :
    Keeps (1 <<< r.ctorIdx ||| 0x800000000280000000000000000000000000000000000000000000000000000000000000000008000) 0x80024 s (readEffect same r i s).2 := by
  unfold readEffect
  repeat' first
    | with_reducible first
        | apply Keeps.refl
    | (with_reducible apply Keeps.after (keeps_setReg ..) ?_ ?_ ?_) <;> [(first | rfl | (dsimp only; rfl) | exact Nat.or_self _ | exact sub_left .. | exact sub_right .. | exact sub_into rfl | exact sub_both rfl); rfl; skip]
    | (with_reducible apply Keeps.after (keeps_claim ..) ?_ ?_ ?_) <;> [(first | rfl | exact Nat.or_self _ | exact sub_left .. | exact sub_right .. | exact sub_into rfl | exact sub_both rfl); rfl; skip]
    | (with_reducible apply Keeps.after (keeps_dtcLoRead ..) ?_ ?_ ?_) <;> [(first | rfl | exact Nat.or_self _ | exact sub_left .. | exact sub_right .. | exact sub_into rfl | exact sub_both rfl); rfl; skip]
    | (with_reducible apply Keeps.after (keeps_uartGet ..) ?_ ?_ ?_) <;> [(first | rfl | exact Nat.or_self _ | exact sub_left .. | exact sub_right .. | exact sub_into rfl | exact sub_both rfl); rfl; skip]
    | split

theorem keeps_readEffect_eq {same : Word} {r : RegName} {i : ℕ} {s : State} {out} {t : State} (he : readEffect same r i s = (out, t)) :
    Keeps (1 <<< r.ctorIdx ||| 0x800000000280000000000000000000000000000000000000000000000000000000000000000008000) 0x80024 s t := by
  have := keeps_readEffect same r i s
  rwa [he] at this

theorem keeps_readReg (a : Actor) (same : Word) (r : RegName) (i : ℕ) (s : State) :
    Keeps (1 <<< r.ctorIdx ||| 0x8000000800000000280000000000000000000000000000000000000000000000000000000000000000008000) 0x80025 s (readReg a same r i s).2 := by
  unfold readReg
  repeat' first
    | with_reducible first
        | apply Keeps.refl
    | (with_reducible apply Keeps.after (keeps_khDebugRead ..) ?_ ?_ ?_) <;> [(first | rfl | exact Nat.or_self _ | exact sub_left .. | exact sub_right .. | exact sub_into rfl | exact sub_both rfl); rfl; skip]
    | (with_reducible apply Keeps.after (keeps_readEffect ..) ?_ ?_ ?_) <;> [(first | rfl | (dsimp only; rfl) | exact Nat.or_self _ | exact sub_left .. | exact sub_right .. | exact sub_into rfl | exact sub_both rfl); rfl; skip]
    | (with_reducible apply Keeps.after (keeps_vtRxRead ..) ?_ ?_ ?_) <;> [(first | rfl | exact Nat.or_self _ | exact sub_left .. | exact sub_right .. | exact sub_into rfl | exact sub_both rfl); rfl; skip]
    | split

theorem keeps_readReg_eq {a : Actor} {same : Word} {r : RegName} {i : ℕ} {s : State} {out} {t : State} (he : readReg a same r i s = (out, t)) :
    Keeps (1 <<< r.ctorIdx ||| 0x8000000800000000280000000000000000000000000000000000000000000000000000000000000000008000) 0x80025 s t := by
  have := keeps_readReg a same r i s
  rwa [he] at this

theorem keeps_readAt (a : Actor) (at_ : Option (RegName × ℕ)) (s : State) :
    Keeps allRegs 0x80025 s (readAt a at_ s).2 := by
  unfold readAt
  repeat' first
    | with_reducible first
        | apply Keeps.refl
    | (with_reducible apply Keeps.after (keeps_readReg ..) ?_ ?_ ?_) <;> [(first | rfl | (dsimp only; rfl) | exact sub_allRegs _ | exact sub_allRegs_or rfl); rfl; skip]
    | split

theorem keeps_readAt_eq {a : Actor} {at_ : Option (RegName × ℕ)} {s : State} {out} {t : State} (he : readAt a at_ s = (out, t)) :
    Keeps allRegs 0x80025 s t := by
  have := keeps_readAt a at_ s
  rwa [he] at this

theorem keeps_fieldWrite (keeperSide : Bool) (r : RegName) (i : ℕ) (v : Word) (s : State) :
    Keeps (1 <<< r.ctorIdx) 0 s (fieldWrite keeperSide r i v s) := by
  unfold fieldWrite
  repeat' first
    | with_reducible first
        | apply Keeps.refl
    | (with_reducible apply Keeps.after (keeps_setReg ..) ?_ ?_ ?_) <;> [(first | rfl | (dsimp only; rfl) | exact Nat.or_self _ | exact sub_left .. | exact sub_right .. | exact sub_into rfl | exact sub_both rfl); rfl; skip]

theorem keeps_mbDbWrite (host : Bool) (n : ℕ) (m : ℕ) (v : Word) (s : State) :
    Keeps 0x8000001a000000000000000000000000000000000000000000000000000000000000000 0x10021 s (mbDbWrite host n m v s) := by
  unfold mbDbWrite
  repeat' first
    | with_reducible first
        | apply Keeps.refl
    | (with_reducible apply Keeps.after (keeps_mbAck ..) ?_ ?_ ?_) <;> [rfl; rfl; skip]
    | (with_reducible apply Keeps.after (keeps_mbDoneWrite ..) ?_ ?_ ?_) <;> [rfl; rfl; skip]
    | (with_reducible apply Keeps.after (keeps_mbRing ..) ?_ ?_ ?_) <;> [rfl; rfl; skip]
    | (with_reducible apply Keeps.after (keeps_mbTake ..) ?_ ?_ ?_) <;> [rfl; rfl; skip]
    | split

theorem keeps_msixWrite (i : ℕ) (v : Word) (s : State) :
    Keeps 0x1800000000000000000000000000000000000000000000000000000000000000000000 0x8 s (msixWrite i v s) := by
  unfold msixWrite
  repeat' first
    | with_reducible first
        | apply Keeps.refl
    | (with_reducible apply Keeps.after (keeps_setReg ..) ?_ ?_ ?_) <;> [(first | rfl | (dsimp only; rfl)); rfl; skip]
    | (with_reducible apply Keeps.after (keeps_wrBit ..) ?_ ?_ ?_) <;> [(first | rfl | (dsimp only; rfl)); rfl; skip]
    | (with_reducible apply Keeps.after (keeps_issueMsix ..) ?_ ?_ ?_) <;> [rfl; rfl; skip]
    | split
    | dsimp only

theorem keeps_hostWrite (r : RegName) (i : ℕ) (n : ℕ) (v : Word) (s : State) :
    Keeps (1 <<< r.ctorIdx ||| 0x8180079a110000000000000000000000000000000000000000000000000000000000000) 0x18029 s (hostWrite r i n v s) := by
  unfold hostWrite
  repeat' first
    | with_reducible first
        | apply Keeps.refl
    | (with_reducible apply Keeps.after (keeps_setReg ..) ?_ ?_ ?_) <;> [(first | rfl | (dsimp only; rfl) | exact Nat.or_self _ | exact sub_left .. | exact sub_right .. | exact sub_into rfl | exact sub_both rfl); rfl; skip]
    | (with_reducible apply Keeps.after (keeps_armGrant ..) ?_ ?_ ?_) <;> [(first | rfl | exact Nat.or_self _ | exact sub_left .. | exact sub_right .. | exact sub_into rfl | exact sub_both rfl); rfl; skip]
    | (with_reducible apply Keeps.after (keeps_crCtlWrite ..) ?_ ?_ ?_) <;> [(first | rfl | exact Nat.or_self _ | exact sub_left .. | exact sub_right .. | exact sub_into rfl | exact sub_both rfl); rfl; skip]
    | (with_reducible apply Keeps.after (keeps_crHeadWrite ..) ?_ ?_ ?_) <;> [(first | rfl | exact Nat.or_self _ | exact sub_left .. | exact sub_right .. | exact sub_into rfl | exact sub_both rfl); rfl; skip]
    | (with_reducible apply Keeps.after (keeps_fieldWrite ..) ?_ ?_ ?_) <;> [(first | rfl | (dsimp only; rfl) | exact Nat.or_self _ | exact sub_left .. | exact sub_right .. | exact sub_into rfl | exact sub_both rfl); rfl; skip]
    | (with_reducible apply Keeps.after (keeps_hwinWrite ..) ?_ ?_ ?_) <;> [(first | rfl | exact Nat.or_self _ | exact sub_left .. | exact sub_right .. | exact sub_into rfl | exact sub_both rfl); rfl; skip]
    | (with_reducible apply Keeps.after (keeps_mbDbWrite ..) ?_ ?_ ?_) <;> [(first | rfl | exact Nat.or_self _ | exact sub_left .. | exact sub_right .. | exact sub_into rfl | exact sub_both rfl); rfl; skip]
    | (with_reducible apply Keeps.after (keeps_msixWrite ..) ?_ ?_ ?_) <;> [(first | rfl | exact Nat.or_self _ | exact sub_left .. | exact sub_right .. | exact sub_into rfl | exact sub_both rfl); rfl; skip]
    | split

theorem keeps_keeperShxWrite (r : RegName) (i : ℕ) (v : Word) (s : State) :
    Keeps (1 <<< r.ctorIdx ||| 0x8000001a000000000000000000000000000000000000000000000000000000000000000) 0x10021 s (keeperShxWrite r i v s) := by
  unfold keeperShxWrite
  repeat' first
    | with_reducible first
        | apply Keeps.refl
    | (with_reducible apply Keeps.after (keeps_setReg ..) ?_ ?_ ?_) <;> [(first | rfl | (dsimp only; rfl) | exact Nat.or_self _ | exact sub_left .. | exact sub_right .. | exact sub_into rfl | exact sub_both rfl); rfl; skip]
    | (with_reducible apply Keeps.after (keeps_fieldWrite ..) ?_ ?_ ?_) <;> [(first | rfl | (dsimp only; rfl) | exact Nat.or_self _ | exact sub_left .. | exact sub_right .. | exact sub_into rfl | exact sub_both rfl); rfl; skip]
    | (with_reducible apply Keeps.after (keeps_mbDbWrite ..) ?_ ?_ ?_) <;> [(first | rfl | exact Nat.or_self _ | exact sub_left .. | exact sub_right .. | exact sub_into rfl | exact sub_both rfl); rfl; skip]
    | split

theorem keeps_cfgCmdWrite (l : ℕ) (v : Word) (s : State) :
    Keeps 0x3042000800000000000000001000022f0c0000000000000000000000000000000000009c000000 0x607a1 s (cfgCmdWrite l v s) := by
  unfold cfgCmdWrite
  repeat' first
    | with_reducible first
        | apply Keeps.refl
    | (with_reducible apply Keeps.after (keeps_cfgAbort ..) ?_ ?_ ?_) <;> [rfl; rfl; skip]
    | (with_reducible apply Keeps.after (keeps_cfgClear ..) ?_ ?_ ?_) <;> [rfl; rfl; skip]
    | (with_reducible apply Keeps.after (keeps_cfgLoad ..) ?_ ?_ ?_) <;> [rfl; rfl; skip]
    | (with_reducible apply Keeps.after (keeps_cfgLoadFull ..) ?_ ?_ ?_) <;> [rfl; rfl; skip]
    | (with_reducible apply Keeps.after (keeps_trstAdvance ..) ?_ ?_ ?_) <;> [rfl; rfl; skip]
    | split
    | dsimp only

theorem keeps_ddrCtlWrite (n : ℕ) (v : Word) (s : State) :
    Keeps 0x180300000000000000000000000000000000000 0x4000 s (ddrCtlWrite n v s) := by
  unfold ddrCtlWrite
  repeat' first
    | with_reducible first
        | apply Keeps.refl
    | (with_reducible apply Keeps.after (keeps_setReg ..) ?_ ?_ ?_) <;> [(first | rfl | (dsimp only; rfl)); rfl; skip]
    | (with_reducible apply Keeps.after (keeps_inserviceWrite ..) ?_ ?_ ?_) <;> [rfl; rfl; skip]
    | split

theorem keeps_ddrIlvWrite (n : ℕ) (v : Word) (s : State) :
    Keeps 0x400000000000000000000000000000000000 0x4000 s (ddrIlvWrite n v s) := by
  unfold ddrIlvWrite
  repeat' first
    | with_reducible first
        | apply Keeps.refl
    | (with_reducible apply Keeps.after (keeps_fieldWrite ..) ?_ ?_ ?_) <;> [(first | rfl | (dsimp only; rfl)); rfl; skip]
    | (with_reducible apply Keeps.after (keeps_sealIlv ..) ?_ ?_ ?_) <;> [rfl; rfl; skip]
    | split

theorem keeps_fixCmdWrite (l : ℕ) (v : Word) (s : State) :
    Keeps 0x80000000000000017151e00000000000000000000000000000000000000000000000000 0x221 s (fixCmdWrite l v s) := by
  unfold fixCmdWrite
  repeat' first
    | with_reducible first
        | apply Keeps.refl
    | (with_reducible apply Keeps.after (keeps_fixGiveUp ..) ?_ ?_ ?_) <;> [rfl; rfl; skip]
    | (with_reducible apply Keeps.after (keeps_fixGo ..) ?_ ?_ ?_) <;> [rfl; rfl; skip]
    | split

theorem keeps_holdWriteCtl (n : ℕ) (v : Word) (s : State) :
    Keeps 0x300000080000000000000000000000000000082410200f2000000000000000000000001c000000 0x260a1 s (holdWriteCtl n v s) := by
  unfold holdWriteCtl
  repeat' first
    | with_reducible first
        | apply Keeps.refl
    | (with_reducible apply Keeps.after (keeps_holdDone ..) ?_ ?_ ?_) <;> [rfl; rfl; skip]
    | (with_reducible apply Keeps.after (keeps_holdGo ..) ?_ ?_ ?_) <;> [rfl; rfl; skip]
    | split

theorem keeps_tmbCtlBits (e : ℕ) (v : Word) (s : State) :
    Keeps 0x200000000000000000 0x800 s (tmbCtlBits e v s) := by
  unfold tmbCtlBits
  repeat' first
    | with_reducible first
        | apply Keeps.refl
    | (with_reducible apply Keeps.after (keeps_restoreGo ..) ?_ ?_ ?_) <;> [rfl; rfl; skip]
    | (with_reducible apply Keeps.after (keeps_selfTestGo ..) ?_ ?_ ?_) <;> [rfl; rfl; skip]
    | (with_reducible apply Keeps.after (keeps_stopGo ..) ?_ ?_ ?_) <;> [rfl; rfl; skip]
    | split

theorem keeps_windowFieldWrite (r : RegName) (w : ℕ) (v : Word) (s : State) :
    Keeps (1 <<< r.ctorIdx) 0 s (windowFieldWrite r w v s) := by
  unfold windowFieldWrite
  repeat' first
    | with_reducible first
        | apply Keeps.refl
    | (with_reducible apply Keeps.after (keeps_fieldWrite ..) ?_ ?_ ?_) <;> [(first | rfl | (dsimp only; rfl) | exact Nat.or_self _ | exact sub_left .. | exact sub_right .. | exact sub_into rfl | exact sub_both rfl); rfl; skip]
    | split

theorem keeps_keeperWrite (r : RegName) (i : ℕ) (v : Word) (s : State) :
    Keeps allRegs 0x1fffff s (keeperWrite r i v s) := by
  unfold keeperWrite
  repeat' first
    | with_reducible first
        | apply Keeps.refl
    | (with_reducible apply Keeps.after (keeps_fresh ..) ?_ ?_ ?_) <;> [(first | rfl | exact Nat.or_self _ | exact sub_left .. | exact sub_right .. | exact sub_into rfl | exact sub_both rfl | exact sub_allRegs _ | exact sub_allRegs_or rfl); rfl; skip]
    | (with_reducible apply Keeps.after (keeps_setReg ..) ?_ ?_ ?_) <;> [(first | rfl | (dsimp only; rfl) | exact Nat.or_self _ | exact sub_left .. | exact sub_right .. | exact sub_into rfl | exact sub_both rfl | exact sub_allRegs _ | exact sub_allRegs_or rfl); rfl; skip]
    | (with_reducible apply Keeps.after (keeps_off ..) ?_ ?_ ?_) <;> [(first | rfl | (dsimp only; rfl) | exact Nat.or_self _ | exact sub_left .. | exact sub_right .. | exact sub_into rfl | exact sub_both rfl | exact sub_allRegs _ | exact sub_allRegs_or rfl); rfl; skip]
    | (with_reducible apply Keeps.after (keeps_evaluate ..) ?_ ?_ ?_) <;> [(first | rfl | exact Nat.or_self _ | exact sub_left .. | exact sub_right .. | exact sub_into rfl | exact sub_both rfl | exact sub_allRegs _ | exact sub_allRegs_or rfl); rfl; skip]
    | (with_reducible apply Keeps.after (keeps_mntReqWrite ..) ?_ ?_ ?_) <;> [(first | rfl | exact Nat.or_self _ | exact sub_left .. | exact sub_right .. | exact sub_into rfl | exact sub_both rfl | exact sub_allRegs _ | exact sub_allRegs_or rfl); rfl; skip]
    | (with_reducible apply Keeps.after (keeps_fieldWrite ..) ?_ ?_ ?_) <;> [(first | rfl | (dsimp only; rfl) | exact Nat.or_self _ | exact sub_left .. | exact sub_right .. | exact sub_into rfl | exact sub_both rfl | exact sub_allRegs _ | exact sub_allRegs_or rfl); rfl; skip]
    | (with_reducible apply Keeps.after (keeps_cfgCmdWrite ..) ?_ ?_ ?_) <;> [(first | rfl | exact Nat.or_self _ | exact sub_left .. | exact sub_right .. | exact sub_into rfl | exact sub_both rfl | exact sub_allRegs _ | exact sub_allRegs_or rfl); rfl; skip]
    | (with_reducible apply Keeps.after (keeps_complete ..) ?_ ?_ ?_) <;> [(first | rfl | exact Nat.or_self _ | exact sub_left .. | exact sub_right .. | exact sub_into rfl | exact sub_both rfl | exact sub_allRegs _ | exact sub_allRegs_or rfl); rfl; skip]
    | (with_reducible apply Keeps.after (keeps_ddrCtlWrite ..) ?_ ?_ ?_) <;> [(first | rfl | exact Nat.or_self _ | exact sub_left .. | exact sub_right .. | exact sub_into rfl | exact sub_both rfl | exact sub_allRegs _ | exact sub_allRegs_or rfl); rfl; skip]
    | (with_reducible apply Keeps.after (keeps_ddrIlvWrite ..) ?_ ?_ ?_) <;> [(first | rfl | exact Nat.or_self _ | exact sub_left .. | exact sub_right .. | exact sub_into rfl | exact sub_both rfl | exact sub_allRegs _ | exact sub_allRegs_or rfl); rfl; skip]
    | (with_reducible apply Keeps.after (keeps_ddrRemapAdd ..) ?_ ?_ ?_) <;> [(first | rfl | exact Nat.or_self _ | exact sub_left .. | exact sub_right .. | exact sub_into rfl | exact sub_both rfl | exact sub_allRegs _ | exact sub_allRegs_or rfl); rfl; skip]
    | (with_reducible apply Keeps.after (keeps_divWrite ..) ?_ ?_ ?_) <;> [(first | rfl | exact Nat.or_self _ | exact sub_left .. | exact sub_right .. | exact sub_into rfl | exact sub_both rfl | exact sub_allRegs _ | exact sub_allRegs_or rfl); rfl; skip]
    | (with_reducible apply Keeps.after (keeps_dlyWrite ..) ?_ ?_ ?_) <;> [(first | rfl | exact Nat.or_self _ | exact sub_left .. | exact sub_right .. | exact sub_into rfl | exact sub_both rfl | exact sub_allRegs _ | exact sub_allRegs_or rfl); rfl; skip]
    | (with_reducible apply Keeps.after (keeps_dmaStart ..) ?_ ?_ ?_) <;> [(first | rfl | exact Nat.or_self _ | exact sub_left .. | exact sub_right .. | exact sub_into rfl | exact sub_both rfl | exact sub_allRegs _ | exact sub_allRegs_or rfl); rfl; skip]
    | (with_reducible apply Keeps.after (keeps_evcSrcWrite ..) ?_ ?_ ?_) <;> [(first | rfl | exact Nat.or_self _ | exact sub_left .. | exact sub_right .. | exact sub_into rfl | exact sub_both rfl | exact sub_allRegs _ | exact sub_allRegs_or rfl); rfl; skip]
    | (with_reducible apply Keeps.after (keeps_evcSwset ..) ?_ ?_ ?_) <;> [(first | rfl | exact Nat.or_self _ | exact sub_left .. | exact sub_right .. | exact sub_into rfl | exact sub_both rfl | exact sub_allRegs _ | exact sub_allRegs_or rfl); rfl; skip]
    | (with_reducible apply Keeps.after (keeps_fixCmdWrite ..) ?_ ?_ ?_) <;> [(first | rfl | exact Nat.or_self _ | exact sub_left .. | exact sub_right .. | exact sub_into rfl | exact sub_both rfl | exact sub_allRegs _ | exact sub_allRegs_or rfl); rfl; skip]
    | (with_reducible apply Keeps.after (keeps_frameReadback ..) ?_ ?_ ?_) <;> [(first | rfl | exact Nat.or_self _ | exact sub_left .. | exact sub_right .. | exact sub_into rfl | exact sub_both rfl | exact sub_allRegs _ | exact sub_allRegs_or rfl); rfl; skip]
    | (with_reducible apply Keeps.after (keeps_hctlWrite ..) ?_ ?_ ?_) <;> [(first | rfl | exact Nat.or_self _ | exact sub_left .. | exact sub_right .. | exact sub_into rfl | exact sub_both rfl | exact sub_allRegs _ | exact sub_allRegs_or rfl); rfl; skip]
    | (with_reducible apply Keeps.after (keeps_holdWriteCtl ..) ?_ ?_ ?_) <;> [(first | rfl | exact Nat.or_self _ | exact sub_left .. | exact sub_right .. | exact sub_into rfl | exact sub_both rfl | exact sub_allRegs _ | exact sub_allRegs_or rfl); rfl; skip]
    | (with_reducible apply Keeps.after (keeps_kickWrite ..) ?_ ?_ ?_) <;> [(first | rfl | exact Nat.or_self _ | exact sub_left .. | exact sub_right .. | exact sub_into rfl | exact sub_both rfl | exact sub_allRegs _ | exact sub_allRegs_or rfl); rfl; skip]
    | (with_reducible apply Keeps.after (keeps_knuckleRestore ..) ?_ ?_ ?_) <;> [(first | rfl | exact Nat.or_self _ | exact sub_left .. | exact sub_right .. | exact sub_into rfl | exact sub_both rfl | exact sub_allRegs _ | exact sub_allRegs_or rfl); rfl; skip]
    | (with_reducible apply Keeps.after (keeps_llbWrite ..) ?_ ?_ ?_) <;> [(first | rfl | exact Nat.or_self _ | exact sub_left .. | exact sub_right .. | exact sub_into rfl | exact sub_both rfl | exact sub_allRegs _ | exact sub_allRegs_or rfl); rfl; skip]
    | (with_reducible apply Keeps.after (keeps_memLogPop ..) ?_ ?_ ?_) <;> [(first | rfl | exact Nat.or_self _ | exact sub_left .. | exact sub_right .. | exact sub_into rfl | exact sub_both rfl | exact sub_allRegs _ | exact sub_allRegs_or rfl); rfl; skip]
    | (with_reducible apply Keeps.after (keeps_mntDoneWrite ..) ?_ ?_ ?_) <;> [(first | rfl | exact Nat.or_self _ | exact sub_left .. | exact sub_right .. | exact sub_into rfl | exact sub_both rfl | exact sub_allRegs _ | exact sub_allRegs_or rfl); rfl; skip]
    | (with_reducible apply Keeps.after (keeps_modeCtlWrite ..) ?_ ?_ ?_) <;> [(first | rfl | exact Nat.or_self _ | exact sub_left .. | exact sub_right .. | exact sub_into rfl | exact sub_both rfl | exact sub_allRegs _ | exact sub_allRegs_or rfl); rfl; skip]
    | (with_reducible apply Keeps.after (keeps_mrCmd ..) ?_ ?_ ?_) <;> [(first | rfl | exact Nat.or_self _ | exact sub_left .. | exact sub_right .. | exact sub_into rfl | exact sub_both rfl | exact sub_allRegs _ | exact sub_allRegs_or rfl); rfl; skip]
    | (with_reducible apply Keeps.after (keeps_ptCmd ..) ?_ ?_ ?_) <;> [(first | rfl | exact Nat.or_self _ | exact sub_left .. | exact sub_right .. | exact sub_into rfl | exact sub_both rfl | exact sub_allRegs _ | exact sub_allRegs_or rfl); rfl; skip]
    | (with_reducible apply Keeps.after (keeps_retWrite ..) ?_ ?_ ?_) <;> [(first | rfl | exact Nat.or_self _ | exact sub_left .. | exact sub_right .. | exact sub_into rfl | exact sub_both rfl | exact sub_allRegs _ | exact sub_allRegs_or rfl); rfl; skip]
    | (with_reducible apply Keeps.after (keeps_rgnCfgWrite ..) ?_ ?_ ?_) <;> [(first | rfl | exact Nat.or_self _ | exact sub_left .. | exact sub_right .. | exact sub_into rfl | exact sub_both rfl | exact sub_allRegs _ | exact sub_allRegs_or rfl); rfl; skip]
    | (with_reducible apply Keeps.after (keeps_rmpCmd ..) ?_ ?_ ?_) <;> [(first | rfl | exact Nat.or_self _ | exact sub_left .. | exact sub_right .. | exact sub_into rfl | exact sub_both rfl | exact sub_allRegs _ | exact sub_allRegs_or rfl); rfl; skip]
    | (with_reducible apply Keeps.after (keeps_rmpSelWrite ..) ?_ ?_ ?_) <;> [(first | rfl | exact Nat.or_self _ | exact sub_left .. | exact sub_right .. | exact sub_into rfl | exact sub_both rfl | exact sub_allRegs _ | exact sub_allRegs_or rfl); rfl; skip]
    | (with_reducible apply Keeps.after (keeps_rootCfgWrite ..) ?_ ?_ ?_) <;> [(first | rfl | exact Nat.or_self _ | exact sub_left .. | exact sub_right .. | exact sub_into rfl | exact sub_both rfl | exact sub_allRegs _ | exact sub_allRegs_or rfl); rfl; skip]
    | (with_reducible apply Keeps.after (keeps_rstCtlWrite ..) ?_ ?_ ?_) <;> [(first | rfl | exact Nat.or_self _ | exact sub_left .. | exact sub_right .. | exact sub_into rfl | exact sub_both rfl | exact sub_allRegs _ | exact sub_allRegs_or rfl); rfl; skip]
    | (with_reducible apply Keeps.after (keeps_rxeqWrite ..) ?_ ?_ ?_) <;> [(first | rfl | exact Nat.or_self _ | exact sub_left .. | exact sub_right .. | exact sub_into rfl | exact sub_both rfl | exact sub_allRegs _ | exact sub_allRegs_or rfl); rfl; skip]
    | (with_reducible apply Keeps.after (keeps_scbLogPop ..) ?_ ?_ ?_) <;> [(first | rfl | exact Nat.or_self _ | exact sub_left .. | exact sub_right .. | exact sub_into rfl | exact sub_both rfl | exact sub_allRegs _ | exact sub_allRegs_or rfl); rfl; skip]
    | (with_reducible apply Keeps.after (keeps_setCfgWrite ..) ?_ ?_ ?_) <;> [(first | rfl | exact Nat.or_self _ | exact sub_left .. | exact sub_right .. | exact sub_into rfl | exact sub_both rfl | exact sub_allRegs _ | exact sub_allRegs_or rfl); rfl; skip]
    | (with_reducible apply Keeps.after (keeps_setDbWrite ..) ?_ ?_ ?_) <;> [(first | rfl | exact Nat.or_self _ | exact sub_left .. | exact sub_right .. | exact sub_into rfl | exact sub_both rfl | exact sub_allRegs _ | exact sub_allRegs_or rfl); rfl; skip]
    | (with_reducible apply Keeps.after (keeps_setJobWrite ..) ?_ ?_ ?_) <;> [(first | rfl | exact Nat.or_self _ | exact sub_left .. | exact sub_right .. | exact sub_into rfl | exact sub_both rfl | exact sub_allRegs _ | exact sub_allRegs_or rfl); rfl; skip]
    | (with_reducible apply Keeps.after (keeps_setStopWrite ..) ?_ ?_ ?_) <;> [(first | rfl | exact Nat.or_self _ | exact sub_left .. | exact sub_right .. | exact sub_into rfl | exact sub_both rfl | exact sub_allRegs _ | exact sub_allRegs_or rfl); rfl; skip]
    | (with_reducible apply Keeps.after (keeps_shadowValid ..) ?_ ?_ ?_) <;> [(first | rfl | exact Nat.or_self _ | exact sub_left .. | exact sub_right .. | exact sub_into rfl | exact sub_both rfl | exact sub_allRegs _ | exact sub_allRegs_or rfl); rfl; skip]
    | (with_reducible apply Keeps.after (keeps_showMapCap ..) ?_ ?_ ?_) <;> [(first | rfl | exact Nat.or_self _ | exact sub_left .. | exact sub_right .. | exact sub_into rfl | exact sub_both rfl | exact sub_allRegs _ | exact sub_allRegs_or rfl); rfl; skip]
    | (with_reducible apply Keeps.after (keeps_swCtlWrite ..) ?_ ?_ ?_) <;> [(first | rfl | exact Nat.or_self _ | exact sub_left .. | exact sub_right .. | exact sub_into rfl | exact sub_both rfl | exact sub_allRegs _ | exact sub_allRegs_or rfl); rfl; skip]
    | (with_reducible apply Keeps.after (keeps_tmbCfgWrite ..) ?_ ?_ ?_) <;> [(first | rfl | exact Nat.or_self _ | exact sub_left .. | exact sub_right .. | exact sub_into rfl | exact sub_both rfl | exact sub_allRegs _ | exact sub_allRegs_or rfl); rfl; skip]
    | (with_reducible apply Keeps.after (keeps_tmbCtlBits ..) ?_ ?_ ?_) <;> [(first | rfl | exact Nat.or_self _ | exact sub_left .. | exact sub_right .. | exact sub_into rfl | exact sub_both rfl | exact sub_allRegs _ | exact sub_allRegs_or rfl); rfl; skip]
    | (with_reducible apply Keeps.after (keeps_tmoWrite ..) ?_ ?_ ?_) <;> [(first | rfl | exact Nat.or_self _ | exact sub_left .. | exact sub_right .. | exact sub_into rfl | exact sub_both rfl | exact sub_allRegs _ | exact sub_allRegs_or rfl); rfl; skip]
    | (with_reducible apply Keeps.after (keeps_trnCtlWrite ..) ?_ ?_ ?_) <;> [(first | rfl | exact Nat.or_self _ | exact sub_left .. | exact sub_right .. | exact sub_into rfl | exact sub_both rfl | exact sub_allRegs _ | exact sub_allRegs_or rfl); rfl; skip]
    | (with_reducible apply Keeps.after (keeps_trstCmdWrite ..) ?_ ?_ ?_) <;> [(first | rfl | exact Nat.or_self _ | exact sub_left .. | exact sub_right .. | exact sub_into rfl | exact sub_both rfl | exact sub_allRegs _ | exact sub_allRegs_or rfl); rfl; skip]
    | (with_reducible apply Keeps.after (keeps_vlogPop ..) ?_ ?_ ?_) <;> [(first | rfl | exact Nat.or_self _ | exact sub_left .. | exact sub_right .. | exact sub_into rfl | exact sub_both rfl | exact sub_allRegs _ | exact sub_allRegs_or rfl); rfl; skip]
    | (with_reducible apply Keeps.after (keeps_vtTxWrite ..) ?_ ?_ ?_) <;> [(first | rfl | exact Nat.or_self _ | exact sub_left .. | exact sub_right .. | exact sub_into rfl | exact sub_both rfl | exact sub_allRegs _ | exact sub_allRegs_or rfl); rfl; skip]
    | (with_reducible apply Keeps.after (keeps_wardLogPop ..) ?_ ?_ ?_) <;> [(first | rfl | exact Nat.or_self _ | exact sub_left .. | exact sub_right .. | exact sub_into rfl | exact sub_both rfl | exact sub_allRegs _ | exact sub_allRegs_or rfl); rfl; skip]
    | (with_reducible apply Keeps.after (keeps_wdtControl ..) ?_ ?_ ?_) <;> [(first | rfl | exact Nat.or_self _ | exact sub_left .. | exact sub_right .. | exact sub_into rfl | exact sub_both rfl | exact sub_allRegs _ | exact sub_allRegs_or rfl); rfl; skip]
    | (with_reducible apply Keeps.after (keeps_windowCfgWrite ..) ?_ ?_ ?_) <;> [(first | rfl | exact Nat.or_self _ | exact sub_left .. | exact sub_right .. | exact sub_into rfl | exact sub_both rfl | exact sub_allRegs _ | exact sub_allRegs_or rfl); rfl; skip]
    | (with_reducible apply Keeps.after (keeps_windowFieldWrite ..) ?_ ?_ ?_) <;> [(first | rfl | (dsimp only; rfl) | exact Nat.or_self _ | exact sub_left .. | exact sub_right .. | exact sub_into rfl | exact sub_both rfl | exact sub_allRegs _ | exact sub_allRegs_or rfl); rfl; skip]
    | (with_reducible apply Keeps.after (keeps_xmCmd ..) ?_ ?_ ?_) <;> [(first | rfl | exact Nat.or_self _ | exact sub_left .. | exact sub_right .. | exact sub_into rfl | exact sub_both rfl | exact sub_allRegs _ | exact sub_allRegs_or rfl); rfl; skip]
    | simp (disch := first | exact Or.inl rfl | with_reducible exact Or.inr rfl | rfl) only [Keeps.upd]
    | split

theorem keeps_periphWrite {R P : Nat} {a : Actor} {first count : Nat} {f : State → State} {s : State} (h : Keeps R P s (f s)) :
    Keeps R P s (periphWrite a first count f s) := by
  unfold periphWrite
  split
  · exact h
  · exact Keeps.refl s

theorem keeps_mgpWrite (a : Actor) (r : RegName) (i : ℕ) (v : Word) (s : State) :
    Keeps (1 <<< r.ctorIdx ||| 0x489d0000000000000000e0000000000000000000000000000000000000000000000000000000000000) 0x80008 s (mgpWrite a r i v s) := by
  unfold mgpWrite
  repeat' first
    | with_reducible first
        | apply Keeps.refl
    | (with_reducible apply Keeps.after (keeps_fieldWrite ..) ?_ ?_ ?_) <;> [(first | rfl | (dsimp only; rfl) | exact Nat.or_self _ | exact sub_left .. | exact sub_right .. | exact sub_into rfl | exact sub_both rfl); rfl; skip]
    | (with_reducible apply Keeps.andThen (keeps_pinGuard ?_ ?_ ?_) ?_) <;> [rfl; rfl; skip; skip]
    | (with_reducible apply Keeps.after (keeps_evlWrite ..) ?_ ?_ ?_) <;> [(first | rfl | exact Nat.or_self _ | exact sub_left .. | exact sub_right .. | exact sub_into rfl | exact sub_both rfl); rfl; skip]
    | (with_reducible apply Keeps.after (keeps_evstatWrite ..) ?_ ?_ ?_) <;> [(first | rfl | exact Nat.or_self _ | exact sub_left .. | exact sub_right .. | exact sub_into rfl | exact sub_both rfl); rfl; skip]
    | (with_reducible apply Keeps.after (keeps_i2cGo ..) ?_ ?_ ?_) <;> [(first | rfl | exact Nat.or_self _ | exact sub_left .. | exact sub_right .. | exact sub_into rfl | exact sub_both rfl); rfl; skip]
    | (with_reducible apply Keeps.after (keeps_mapWrite ..) ?_ ?_ ?_) <;> [(first | rfl | exact Nat.or_self _ | exact sub_left .. | exact sub_right .. | exact sub_into rfl | exact sub_both rfl); rfl; skip]
    | with_reducible apply Keeps.andThen (keeps_periphWrite ?_) ?_
    | (with_reducible apply Keeps.after (keeps_pinDrive ..) ?_ ?_ ?_) <;> [(first | rfl | exact Nat.or_self _ | exact sub_left .. | exact sub_right .. | exact sub_into rfl | exact sub_both rfl); rfl; skip]
    | (with_reducible apply Keeps.after (keeps_spiPut ..) ?_ ?_ ?_) <;> [(first | rfl | exact Nat.or_self _ | exact sub_left .. | exact sub_right .. | exact sub_into rfl | exact sub_both rfl); rfl; skip]
    | (with_reducible apply Keeps.after (keeps_uartPut ..) ?_ ?_ ?_) <;> [(first | rfl | exact Nat.or_self _ | exact sub_left .. | exact sub_right .. | exact sub_into rfl | exact sub_both rfl); rfl; skip]
    | split

theorem keeps_writeReg (a : Actor) (r : RegName) (i : ℕ) (v : Word) (s : State) :
    Keeps allRegs 0x1fffff s (writeReg a r i v s) := by
  unfold writeReg
  repeat' first
    | with_reducible first
        | apply Keeps.refl
    | (with_reducible apply Keeps.after (keeps_crFromOutside ..) ?_ ?_ ?_) <;> [(first | rfl | exact Nat.or_self _ | exact sub_left .. | exact sub_right .. | exact sub_into rfl | exact sub_both rfl | exact sub_allRegs _ | exact sub_allRegs_or rfl); rfl; skip]
    | (with_reducible apply Keeps.after (keeps_hostWrite ..) ?_ ?_ ?_) <;> [(first | rfl | (dsimp only; rfl) | exact Nat.or_self _ | exact sub_left .. | exact sub_right .. | exact sub_into rfl | exact sub_both rfl | exact sub_allRegs _ | exact sub_allRegs_or rfl); rfl; skip]
    | (with_reducible apply Keeps.after (keeps_keeperShxWrite ..) ?_ ?_ ?_) <;> [(first | rfl | (dsimp only; rfl) | exact Nat.or_self _ | exact sub_left .. | exact sub_right .. | exact sub_into rfl | exact sub_both rfl | exact sub_allRegs _ | exact sub_allRegs_or rfl); rfl; skip]
    | (with_reducible apply Keeps.after (keeps_keeperWrite ..) ?_ ?_ ?_) <;> [(first | rfl | (dsimp only; rfl) | exact Nat.or_self _ | exact sub_left .. | exact sub_right .. | exact sub_into rfl | exact sub_both rfl | exact sub_allRegs _ | exact sub_allRegs_or rfl); rfl; skip]
    | (with_reducible apply Keeps.after (keeps_khDebug ..) ?_ ?_ ?_) <;> [(first | rfl | exact Nat.or_self _ | exact sub_left .. | exact sub_right .. | exact sub_into rfl | exact sub_both rfl | exact sub_allRegs _ | exact sub_allRegs_or rfl); rfl; skip]
    | (with_reducible apply Keeps.after (keeps_mgpWrite ..) ?_ ?_ ?_) <;> [(first | rfl | (dsimp only; rfl) | exact Nat.or_self _ | exact sub_left .. | exact sub_right .. | exact sub_into rfl | exact sub_both rfl | exact sub_allRegs _ | exact sub_allRegs_or rfl); rfl; skip]
    | split

theorem keeps_writeAt (a : Actor) (at_ : Option (RegName × ℕ)) (v : Word) (s : State) :
    Keeps allRegs 0x1fffff s (writeAt a at_ v s) := by
  unfold writeAt
  repeat' first
    | with_reducible first
        | apply Keeps.refl
    | (with_reducible apply Keeps.after (keeps_writeReg ..) ?_ ?_ ?_) <;> [(first | rfl | (dsimp only; rfl) | exact sub_allRegs _ | exact sub_allRegs_or rfl); rfl; skip]
    | split

theorem keeps_blockServes (r : Req) (s : State) : Keeps allRegs 0x1fffff s (blockServes r s) := by
  have hr (a : Answer) (u : State) : Keeps allRegs 0x1fffff u (respond r a u) := Keeps.mono (keeps_respond ..) rfl rfl
  unfold blockServes
  cases r.op
  · exact Keeps.andThen (hr ..) (Keeps.mono (keeps_readAt ..) rfl rfl)
  · exact Keeps.andThen (Keeps.mono (keeps_writeAt ..) rfl rfl) (hr ..)

theorem keeps_carry_of (m : MsgName) (cls src dst : Nat) (s : State) : KeepsP 0 0x80 s (carry m cls src dst s) := by
  unfold carry
  exact KeepsP.map (KeepsP.bind (keeps_launch_of _ _ _ _ _ _ _) (fun t => keeps_reach_of _ _)) (fun t => keeps_landed ..)

theorem keeps_carry {m : MsgName} {cls src dst : Nat} {s : State} {t : State} (h : carry m cls src dst s = some t) : Keeps 0 0x80 s t :=
  keeps_carry_of m cls src dst s t h

theorem keeps_execClearingRead (r : RegName) (i : ℕ) (same : Word) (s : State) :
    KeepsO (1 <<< r.ctorIdx ||| 0x8000000800000000280000000000000000000000000000000000000000000000000000000000000000008000) 0x80025 s (execClearingRead r i same s) := by
  unfold execClearingRead
  repeat' first
    | with_reducible first
        | apply KeepsO.done
        | apply Keeps.refl
        | apply Keeps.andThen (Keeps.guarded ?_) ?_
    | (with_reducible apply Keeps.after (keeps_readReg ..) ?_ ?_ ?_) <;> [(first | rfl | (dsimp only; rfl) | exact Nat.or_self _ | exact sub_left .. | exact sub_right .. | exact sub_into rfl | exact sub_both rfl); rfl; skip]
    | simp (disch := first | exact Or.inl rfl | with_reducible exact Or.inr rfl | rfl) only [Keeps.upd]

theorem keeps_hubServes (r : Req) (s : State) : Keeps allRegs 0x1fffff s (hubServes r s) := by
  have ht : Keeps allRegs 0x1fffff s (takeReq r s) := Keeps.mono (keeps_takeReq ..) rfl rfl
  unfold hubServes
  dsimp only
  split
  · exact Keeps.andThen (keeps_blockServes ..) ht
  · split
    · exact Keeps.after (keeps_respond ..) rfl rfl ht
    · split
      · rename_i u h
        obtain ⟨t, h1, h2⟩ := Option.bind_eq_some_iff.1 h
        exact Keeps.andThen (keeps_blockServes ..) (Keeps.after (keeps_carry h2) rfl rfl (Keeps.after (keeps_carry h1) rfl rfl ht))
      · exact Keeps.refl s

theorem keeps_hubArrives (op : NetOp) (src : ℕ) (txn : ℕ) (damage : Option (Fin 1152)) (s : State) :
    Keeps allRegs 0x1fffff s (hubArrives op src txn damage s) := by
  unfold hubArrives
  repeat' first
    | with_reducible first
        | apply Keeps.refl
    | (with_reducible apply Keeps.after (keeps_reach (by assumption)) ?_ ?_ ?_) <;> [rfl; rfl; skip]
    | (with_reducible apply Keeps.after (keeps_crcDrop ..) ?_ ?_ ?_) <;> [rfl; rfl; skip]
    | (with_reducible apply Keeps.after (keeps_takeReq ..) ?_ ?_ ?_) <;> [rfl; rfl; skip]
    | (with_reducible apply Keeps.after (keeps_hubServes ..) ?_ ?_ ?_) <;> [rfl; rfl; skip]
    | split

theorem keeps_execRegRead (f : NetFrom) (damage : Option (Fin 1152)) (s : State) :
    KeepsO allRegs 0x1fffff s (execRegRead f damage s) := by
  unfold execRegRead
  repeat' first
    | with_reducible first
        | apply KeepsO.done
        | apply Keeps.refl
    | (with_reducible apply Keeps.after (keeps_requestOf_eq (by assumption)) ?_ ?_ ?_) <;> [rfl; rfl; skip]
    | (with_reducible apply Keeps.after (keeps_hubArrives ..) ?_ ?_ ?_) <;> [rfl; rfl; skip]
    | split

theorem keeps_execRegWrite (f : NetFrom) (damage : Option (Fin 1152)) (s : State) :
    KeepsO allRegs 0x1fffff s (execRegWrite f damage s) := by
  unfold execRegWrite
  repeat' first
    | with_reducible first
        | apply KeepsO.done
        | apply Keeps.refl
    | (with_reducible apply Keeps.after (keeps_requestOf_eq (by assumption)) ?_ ?_ ?_) <;> [rfl; rfl; skip]
    | (with_reducible apply Keeps.after (keeps_hubArrives ..) ?_ ?_ ?_) <;> [rfl; rfl; skip]
    | split

theorem keeps_execRegisterWrite (actor : Actor) (r : RegName) (i : ℕ) (v : Word) (s : State) :
    KeepsO allRegs 0x1fffff s (execRegisterWrite actor r i v s) := by
  unfold execRegisterWrite
  repeat' first
    | with_reducible first
        | apply KeepsO.done
        | apply Keeps.refl
        | apply Keeps.andThen (Keeps.guarded ?_) ?_
    | (with_reducible apply Keeps.after (keeps_writeReg ..) ?_ ?_ ?_) <;> [(first | rfl | (dsimp only; rfl) | exact Nat.or_self _ | exact sub_left .. | exact sub_right .. | exact sub_into rfl | exact sub_both rfl | exact sub_allRegs _ | exact sub_allRegs_or rfl); rfl; skip]

end Sys2Proof.Machine
end

