-- ==== Sys2Proof/Laws/KeepsBoot.lean ====
section
/-! SUPPORT. The frames of the operations of Machine/Boot.lean: what each can change, and that it keeps the stores canonical. -/

namespace Sys2Proof.Machine
open Sys2Proof

theorem zipIdx_keys_rising {α : Type} (p : List α) (n : Nat) : (p.zipIdx n).Pairwise (fun a b => a.2 < b.2) := by
  induction p generalizing n with
  | nil => simp
  | cons a p ih =>
    simp only [List.zipIdx_cons, List.pairwise_cons]
    refine ⟨fun e he => ?_, ih _⟩
    have := List.le_snd_of_mem_zipIdx he
    omega

/-- An image from byte 0 on and what stood behind it are canonical. -/
theorem swf_loadSram (p : List Byte) (m : Sparse Byte) (h : swf (fun _ => 0) m) : swf (fun _ => 0) (loadSram p m) := by
  unfold loadSram
  refine ⟨List.pairwise_append.2 ⟨?_, h.1.filter _, fun a ha b hb => ?_⟩, fun e he => ?_⟩
  · exact List.pairwise_map.2 ((zipIdx_keys_rising p 0).filter _)
  · obtain ⟨x, hx, rfl⟩ := List.mem_map.1 ha
    have h1 := List.snd_lt_of_mem_zipIdx (List.mem_filter.1 hx).1
    have h2 := (List.mem_filter.1 hb).2
    simp only [decide_eq_true_eq] at h2
    dsimp only
    omega
  · rcases List.mem_append.1 he with he | he
    · obtain ⟨x, hx, rfl⟩ := List.mem_map.1 he
      simpa using (List.mem_filter.1 hx).2
    · exact h.2 e (List.mem_filter.1 he).1

theorem keeps_dropImage (s : State) :
    Keeps 0x20000000000000000000000000000000000000000000000000000000000000000000000000000000000000000 0x100000 s (dropImage s) := by
  unfold dropImage
  repeat' first
    | with_reducible first
        | apply Keeps.refl
    | (with_reducible apply Keeps.after (keeps_wr ..) ?_ ?_ ?_) <;> [(first | rfl | (dsimp only; rfl)); rfl; skip]
    | simp (disch := first | exact Or.inl rfl | with_reducible exact Or.inr rfl | rfl) only [Keeps.upd]

theorem keeps_sramTested (s : State) : Keeps 0 0x8000 s (sramTested s) :=
  Keeps.store rfl rfl id id (fun _ => swf_nil _) (fun p hp => by cases p <;> first | rfl | exact absurd hp (by decide))

theorem keeps_startCore (pc : ℕ) (c : ℕ) (s : State) :
    Keeps 0x20000000000000000000000000000000000000000000000000000000 0x8000 s (startCore pc c s) := by
  unfold startCore
  repeat' first
    | with_reducible first
        | apply Keeps.refl
    | (with_reducible apply Keeps.after (keeps_wr ..) ?_ ?_ ?_) <;> [(first | rfl | (dsimp only; rfl) | (simp only [F.KP_CORE_STAT.RUN]; rfl)); rfl; skip]
    | (with_reducible apply Keeps.after (keeps_setCore ..) ?_ ?_ ?_) <;> [rfl; rfl; skip]
    | split

theorem keeps_execBootRomStart (failing : Bool) (s : State) :
    KeepsO 0x20000000000000000000000000000000020000000000c00000000000000000000000000000000000000000100 0x108210 s (execBootRomStart failing s) := by
  unfold execBootRomStart
  repeat' first
    | with_reducible first
        | apply KeepsO.done
        | apply Keeps.refl
        | apply Keeps.andThen (Keeps.guarded ?_) ?_
    | (with_reducible apply Keeps.after (keeps_wr ..) ?_ ?_ ?_) <;> [(first | rfl | (dsimp only; rfl)); rfl; skip]
    | (with_reducible apply Keeps.after (keeps_on ..) ?_ ?_ ?_) <;> [(first | rfl | (dsimp only; rfl)); rfl; skip]
    | (with_reducible apply Keeps.after (keeps_setAttempt ..) ?_ ?_ ?_) <;> [rfl; rfl; skip]
    | (with_reducible apply Keeps.after (keeps_khImages ..) ?_ ?_ ?_) <;> [rfl; rfl; skip]
    | (with_reducible apply Keeps.after (keeps_bootRomFails ..) ?_ ?_ ?_) <;> [rfl; rfl; skip]
    | (with_reducible apply Keeps.after (keeps_setDriver ..) ?_ ?_ ?_) <;> [rfl; rfl; skip]
    | (with_reducible apply Keeps.after (keeps_sramTested ..) ?_ ?_ ?_) <;> [rfl; rfl; skip]
    | (with_reducible apply Keeps.after (keeps_startCore ..) ?_ ?_ ?_) <;> [rfl; rfl; skip]
    | simp (disch := first | exact Or.inl rfl | with_reducible exact Or.inr rfl | rfl) only [Keeps.upd]
    | split

theorem keeps_firmwareServes (n : ℕ) (s : State) :
    Keeps 0x1c00000000000000000000000000000000000000000000000000000000000000 0 s (firmwareServes n s) := by
  unfold firmwareServes
  repeat' first
    | with_reducible first
        | apply Keeps.refl
    | (with_reducible apply Keeps.after (keeps_wr ..) ?_ ?_ ?_) <;> [(first | rfl | (dsimp only; rfl)); rfl; skip]
    | (with_reducible apply Keeps.after (keeps_setNext ..) ?_ ?_ ?_) <;> [rfl; rfl; skip]

theorem keeps_sramLoaded (p : List Byte) (s : State) : Keeps 0 0x8000 s (sramLoaded p s) :=
  Keeps.store rfl rfl id id (swf_loadSram p _) (fun p hp => by cases p <;> first | rfl | exact absurd hp (by decide))

theorem keeps_execKeeperFirmwareStart (flash : Option FlashRead) (s : State) :
    KeepsO 0x20000000000000000080000003c00000020000000000c00000000000000000000000000000000000000000000 0x108220 s (execKeeperFirmwareStart flash s) := by
  unfold execKeeperFirmwareStart
  repeat' first
    | with_reducible first
        | apply KeepsO.done
        | apply Keeps.refl
        | apply Keeps.andThen (Keeps.guarded ?_) ?_
        | apply Keeps.andThen (Keeps.foldl (fun t a => ?_)) ?_
    | (with_reducible apply Keeps.after (keeps_wr ..) ?_ ?_ ?_) <;> [(first | rfl | (dsimp only; rfl)); rfl; skip]
    | (with_reducible apply Keeps.after (keeps_off ..) ?_ ?_ ?_) <;> [(first | rfl | (dsimp only; rfl)); rfl; skip]
    | (with_reducible apply Keeps.after (keeps_evaluate ..) ?_ ?_ ?_) <;> [rfl; rfl; skip]
    | (with_reducible apply Keeps.after (keeps_bootRomFails ..) ?_ ?_ ?_) <;> [rfl; rfl; skip]
    | (with_reducible apply Keeps.after (keeps_dropImage ..) ?_ ?_ ?_) <;> [rfl; rfl; skip]
    | (with_reducible apply Keeps.after (keeps_startCore ..) ?_ ?_ ?_) <;> [rfl; rfl; skip]
    | (with_reducible apply Keeps.after (keeps_firmwareServes ..) ?_ ?_ ?_) <;> [rfl; rfl; skip]
    | (with_reducible apply Keeps.after (keeps_sramLoaded ..) ?_ ?_ ?_) <;> [rfl; rfl; skip]
    | simp (disch := first | exact Or.inl rfl | with_reducible exact Or.inr rfl | rfl) only [Keeps.upd]
    | split

theorem sub_policyMask {r : RegName} {m : Word} (h : policyMask r = some m) : 1 <<< r.ctorIdx ||| 0x4000000000000000e3170040000000000000000000000020000004200000000000000000000000 = 0x4000000000000000e3170040000000000000000000000020000004200000000000000000000000 := by
  cases r <;> first | rfl | cases h

theorem sub_wardReg {r : RegName} (h : isWardReg r = true) : 1 <<< r.ctorIdx ||| 0x4000000000000000e3170040000000000000000000000020000004200000000000000000000000 = 0x4000000000000000e3170040000000000000000000000020000004200000000000000000000000 := by
  cases r <;> first | rfl | cases h

theorem keeps_policyEntry_of (off : Nat) (v : Word) (s : State) : KeepsP 0x4000000000000000e3170040000000000000000000000020000004200000000000000000000000 0 s (policyEntry off v s) := by
  unfold policyEntry
  split
  · exact KeepsP.none s
  · split
    · refine KeepsP.some ?_
      split
      · exact Keeps.refl s
      · exact Keeps.mono (keeps_setReg ..) (sub_policyMask (by assumption)) rfl
    · split
      · refine KeepsP.some ?_
        split
        · split
          · exact Keeps.refl s
          · exact Keeps.after (keeps_wardLog ..) rfl rfl (Keeps.mono (keeps_on ..) rfl rfl)
        · exact Keeps.mono (keeps_fieldWrite ..) (sub_wardReg (by assumption)) rfl
      · exact KeepsP.none s

theorem keeps_policyEntry {off : Nat} {v : Word} {s t : State} (h : policyEntry off v s = some t) : Keeps 0x4000000000000000e3170040000000000000000000000020000004200000000000000000000000 0 s t :=
  keeps_policyEntry_of off v s t h

theorem keeps_policyEntries {l : List Byte} {s : State} {t : State} (h : policyEntries l s = some t) : Keeps 0x4000000000000000e3170040000000000000000000000020000004200000000000000000000000 0 s t := by
  induction l, s using policyEntries.induct with
  | case1 s => simp only [policyEntries, Option.some.injEq] at h; subst h; exact Keeps.refl _
  | case2 s a0 a1 a2 a3 v0 v1 v2 v3 l u hu ih =>
    simp only [policyEntries, hu] at h
    exact (keeps_policyEntry hu).trans (ih h)
  | case3 s a0 a1 a2 a3 v0 v1 v2 v3 l hu => simp only [policyEntries, hu] at h; cases h
  | case4 l s h1 h2 => rw [policyEntries] at h <;> simp_all

theorem keeps_policyEntries_of (l : List Byte) (s : State) : KeepsP 0x4000000000000000e3170040000000000000000000000020000004200000000000000000000000 0 s (policyEntries l s) := fun _ h => keeps_policyEntries h

theorem keeps_execPolicyImageApplied (flash : Option FlashRead) (fabdep : BitVec 16) (s : State) :
    KeepsO 0x200000000004000000000000000e3170040000000000c00000000000020000004200000000000000000000000 0x100200 s (execPolicyImageApplied flash fabdep s) := by
  unfold execPolicyImageApplied
  repeat' first
    | with_reducible first
        | apply KeepsO.done
        | apply Keeps.refl
        | apply Keeps.andThen (Keeps.guarded ?_) ?_
    | (with_reducible apply Keeps.after (keeps_wr ..) ?_ ?_ ?_) <;> [(first | rfl | (dsimp only; rfl)); rfl; skip]
    | (with_reducible apply Keeps.after (keeps_off ..) ?_ ?_ ?_) <;> [(first | rfl | (dsimp only; rfl)); rfl; skip]
    | (with_reducible apply Keeps.after (keeps_on ..) ?_ ?_ ?_) <;> [(first | rfl | (dsimp only; rfl)); rfl; skip]
    | (with_reducible apply Keeps.after (keeps_bootRomFails ..) ?_ ?_ ?_) <;> [rfl; rfl; skip]
    | (with_reducible apply Keeps.after (keeps_dropImage ..) ?_ ?_ ?_) <;> [rfl; rfl; skip]
    | (with_reducible apply Keeps.after (keeps_policyEntries (by assumption)) ?_ ?_ ?_) <;> [rfl; rfl; skip]
    | simp (disch := first | exact Or.inl rfl | with_reducible exact Or.inr rfl | rfl) only [Keeps.upd]
    | split

end Sys2Proof.Machine
end

