-- ==== Sys2Proof/Laws/KeepsKhFrames.lean ====
section
/-! SUPPORT. The frames of the operations of Machine/KhFrames.lean: what each can change, and that it keeps the stores canonical. -/

namespace Sys2Proof.Machine
open Sys2Proof

theorem keeps_debugTaken {R P : Nat} {f : KhFrame} {s : State} {a : Admit} (hP : 0x100000 ||| P = P) (h : KeepsA R P s a) :
    Keeps R P s (debugTaken f s a) := by
  have hk (u : State) (k : KhReply) : Keeps R P u (khReply k u) := Keeps.mono (keeps_khReply ..) (Nat.zero_or _) hP
  have hu (u : State) (x : KhState) : Keeps R P u { u with kh := x } :=
    Keeps.mono (Keeps.store (R := 0) (P := 0x100000) rfl rfl id id id (fun p hp => by cases p <;> first | rfl | exact absurd hp (by decide))) (Nat.zero_or _) hP
  cases a with
  | sent t => exact Keeps.andThen (hk ..) (Keeps.andThen (hu ..) (h t (.inl rfl)))
  | answered c d t => exact Keeps.andThen (hk ..) (Keeps.andThen (hu ..) (h t (.inr ⟨c, d, rfl⟩)))
  | waits => exact hk ..

theorem keeps_debugAccess (op : NetOp) (f : KhFrame) (s : State) : Keeps 0x9c000000 0x102080 s (debugAccess op f s) := by
  unfold debugAccess
  split
  · exact Keeps.mono (keeps_khReply ..) rfl rfl
  · exact Keeps.andThen (keeps_debugTaken rfl ((keeps_netAdmit _ _ _ _ _ _ _ _ _).mono rfl rfl))
      (Keeps.store rfl rfl id id id (fun p hp => by cases p <;> first | rfl | exact absurd hp (by decide)))

theorem keeps_frameRow {R P op : Nat} {act : KhFrame → State → State} {s : State}
    (hR : 0x80000000000000000000000000000000000000000000000000000000000000000000000000000000000 ||| R = R) (hP : 0x100000 ||| P = P) (h : ∀ f t, Keeps R P t (act f t)) : Keeps R P s (frameRow op act s) := by
  have ha (c : Nat) (k : KhReply) : Keeps R P s (khAnswer c k s) := (Keeps.mono (keeps_khAnswer ..) rfl rfl).mono hR hP
  unfold frameRow
  split
  · exact Keeps.refl s
  · split
    · exact Keeps.refl s
    split
    · exact ha ..
    split
    · exact ha ..
    split
    · exact (Keeps.mono (keeps_khReply ..) rfl rfl).mono hR hP
    · exact h ..

theorem keeps_execDaRead (s : State) :
    KeepsO 0x8000000000000000000000000000000000000000000000000000000000000000000000000009c000000 0x102080 s (execDaRead s) := by
  unfold execDaRead
  repeat' first
    | with_reducible first
        | apply KeepsO.done
        | apply Keeps.refl
    | (with_reducible apply Keeps.after (keeps_debugAccess ..) ?_ ?_ ?_) <;> [rfl; rfl; skip]
    | (with_reducible apply Keeps.andThen (keeps_frameRow ?_ ?_ (fun f t => ?_)) ?_) <;> [rfl; rfl; skip; skip]

theorem keeps_execDaWrite (s : State) :
    KeepsO 0x8000000000000000000000000000000000000000000000000000000000000000000000000009c000000 0x102080 s (execDaWrite s) := by
  unfold execDaWrite
  repeat' first
    | with_reducible first
        | apply KeepsO.done
        | apply Keeps.refl
    | (with_reducible apply Keeps.after (keeps_debugAccess ..) ?_ ?_ ?_) <;> [rfl; rfl; skip]
    | (with_reducible apply Keeps.andThen (keeps_frameRow ?_ ?_ (fun f t => ?_)) ?_) <;> [rfl; rfl; skip; skip]

theorem keeps_execExit (s : State) :
    KeepsO 0xc0000000000000000000000000000000000000000000000000000000000000000000000000000000000 0x100000 s (execExit s) := by
  unfold execExit
  repeat' first
    | with_reducible first
        | apply KeepsO.done
        | apply Keeps.refl
    | (with_reducible apply Keeps.after (keeps_khReply ..) ?_ ?_ ?_) <;> [rfl; rfl; skip]
    | (with_reducible apply Keeps.after (keeps_endSession ..) ?_ ?_ ?_) <;> [rfl; rfl; skip]
    | (with_reducible apply Keeps.andThen (keeps_frameRow ?_ ?_ (fun f t => ?_)) ?_) <;> [rfl; rfl; skip; skip]

theorem keeps_execKeyholeNop (s : State) :
    KeepsO 0x80000000000000000000000000000000000000000000000000000000000000000000000000000000000 0x100000 s (execKeyholeNop s) := by
  unfold execKeyholeNop
  repeat' first
    | with_reducible first
        | apply KeepsO.done
        | apply Keeps.refl
    | (with_reducible apply Keeps.after (keeps_khReply ..) ?_ ?_ ?_) <;> [rfl; rfl; skip]
    | (with_reducible apply Keeps.andThen (keeps_frameRow ?_ ?_ (fun f t => ?_)) ?_) <;> [rfl; rfl; skip; skip]

theorem keeps_execKhRead (s : State) :
    KeepsO 0x8000080000000000080000000000000000000000000000000000000000000000000000000000000000000000 0x100021 s (execKhRead s) := by
  unfold execKhRead
  repeat' first
    | with_reducible first
        | apply KeepsO.done
        | apply Keeps.refl
    | (with_reducible apply Keeps.after (keeps_khGet ..) ?_ ?_ ?_) <;> [rfl; rfl; skip]
    | (with_reducible apply Keeps.after (keeps_khReply ..) ?_ ?_ ?_) <;> [rfl; rfl; skip]
    | (with_reducible apply Keeps.andThen (keeps_frameRow ?_ ?_ (fun f t => ?_)) ?_) <;> [rfl; rfl; skip; skip]

theorem keeps_execKhWrite (s : State) :
    KeepsO 0x3ce73fc0000000000080000000000000020000000000000000000000000000000000000000000000000000000 0x108821 s (execKhWrite s) := by
  unfold execKhWrite
  repeat' first
    | with_reducible first
        | apply KeepsO.done
        | apply Keeps.refl
    | (with_reducible apply Keeps.after (keeps_khPut ..) ?_ ?_ ?_) <;> [rfl; rfl; skip]
    | (with_reducible apply Keeps.after (keeps_khAnswer ..) ?_ ?_ ?_) <;> [rfl; rfl; skip]
    | (with_reducible apply Keeps.andThen (keeps_frameRow ?_ ?_ (fun f t => ?_)) ?_) <;> [rfl; rfl; skip; skip]

theorem keeps_kspError (s : State) :
    Keeps 0x80000000000000000000000000000000000000000000000000000000000000000000000000000000000 0x100000 s (kspError s) := by
  unfold kspError
  repeat' first
    | with_reducible first
        | apply Keeps.refl
    | (with_reducible apply Keeps.after (keeps_wr ..) ?_ ?_ ?_) <;> [(first | rfl | (dsimp only; rfl)); rfl; skip]
    | (with_reducible apply Keeps.after (keeps_khAnswer ..) ?_ ?_ ?_) <;> [rfl; rfl; skip]

theorem keeps_sramUpset (flips : List ℕ) (k : ℕ) (s : State) : Keeps 0 0x8000 s (sramUpset flips k s) := by
  unfold sramUpset
  split
  · exact Keeps.refl s
  · exact Keeps.store rfl rfl id id id (fun p hp => by cases p <;> first | rfl | exact absurd hp (by decide))

theorem keeps_sramCounted (k : ℕ) (s : State) : Keeps 0x300000000000000000000000000000000000000000000000000000000 0 s (sramCounted k s) := by
  unfold sramCounted
  split
  · exact Keeps.refl s
  · exact (keeps_satAdd ..).mono rfl rfl
  · exact (keeps_satAdd ..).mono rfl rfl

theorem keeps_sramData (w : Word) (off : ℕ) (s : State) : Keeps 0 0x1 s (sramData w off s).2 := by
  unfold sramData
  dsimp only
  split
  · exact keeps_fresh s
  · exact Keeps.refl s

theorem keeps_sramMerge (k : ℕ) (s : State) : Keeps 0x300000000000000000000000000000000000000000000000000000000 0x8000 s (sramMerge k s) := by
  unfold sramMerge
  dsimp only
  split
  · refine Keeps.andThen ?_ ((keeps_sramCounted k s).mono rfl rfl)
    generalize sramCounted k s = t
    exact Keeps.store rfl rfl id id (swf_foldl_sset (fun _ => 0) _ _ (fun j => 8 * k + j) (fun j =>
        sget 0 s.kp.sram (8 * k + j) ^^^ (wordData 72 (sramPattern s k)).extractLsb' (8 * j) 8))
      (fun p hp => by cases p <;> first | rfl | exact absurd hp (by decide))
  · exact (keeps_sramCounted k s).mono rfl rfl

theorem keeps_execKspRead (flips : List ℕ) (s : State) :
    KeepsO 0x80000000000000000000000000300000000000000000000000000000000000000000000000000000000 0x108001 s (execKspRead flips s) := by
  unfold execKspRead
  repeat' first
    | with_reducible first
        | apply KeepsO.done
        | apply Keeps.refl
    | (with_reducible apply Keeps.after (keeps_khReply ..) ?_ ?_ ?_) <;> [rfl; rfl; skip]
    | (with_reducible apply Keeps.andThen (keeps_frameRow ?_ ?_ (fun f t => ?_)) ?_) <;> [rfl; rfl; skip; skip]
    | (with_reducible apply Keeps.after (keeps_kspError ..) ?_ ?_ ?_) <;> [rfl; rfl; skip]
    | (with_reducible apply Keeps.after (keeps_sramData ..) ?_ ?_ ?_) <;> [rfl; rfl; skip]
    | (with_reducible apply Keeps.after (keeps_sramCounted ..) ?_ ?_ ?_) <;> [rfl; rfl; skip]
    | (with_reducible apply Keeps.after (keeps_sramUpset ..) ?_ ?_ ?_) <;> [rfl; rfl; skip]
    | split
    | dsimp only

theorem keeps_sramPut (off v : Nat) (s : State) : Keeps 0 0x8000 s (sramPut off v s) :=
  Keeps.store rfl rfl id id (swf_foldl_sset (fun _ => 0) _ _ (fun k => off + k) (fun k => BitVec.ofNat 8 (v / 256 ^ k)))
    (fun p hp => by cases p <;> first | rfl | exact absurd hp (by decide))

theorem keeps_execKspWrite (s : State) :
    KeepsO 0x80000000000000000000000000300000000000000000000000000000000000000000000000000000000 0x108000 s (execKspWrite s) := by
  unfold execKspWrite
  repeat' first
    | with_reducible first
        | apply KeepsO.done
        | apply Keeps.refl
    | (with_reducible apply Keeps.after (keeps_khReply ..) ?_ ?_ ?_) <;> [rfl; rfl; skip]
    | (with_reducible apply Keeps.andThen (keeps_frameRow ?_ ?_ (fun f t => ?_)) ?_) <;> [rfl; rfl; skip; skip]
    | (with_reducible apply Keeps.after (keeps_kspError ..) ?_ ?_ ?_) <;> [rfl; rfl; skip]
    | (with_reducible apply Keeps.after (keeps_sramPut ..) ?_ ?_ ?_) <;> [rfl; rfl; skip]
    | (with_reducible apply Keeps.after (keeps_sramMerge ..) ?_ ?_ ?_) <;> [rfl; rfl; skip]
    | split

end Sys2Proof.Machine
end

