-- ==== Sys2Proof/Laws/KeepsMemRows.lean ====
section
/-! SUPPORT. The frames of the operations of Machine/MemRows.lean: what each can change, and that it keeps the stores canonical. -/

namespace Sys2Proof.Machine
open Sys2Proof

theorem keeps_testEnds (k : MemKind) (i : ℕ) (pass : Bool) (badSpares : ℕ) (s : State) :
    Keeps 0x42400800000000000000000000000000000000000000000000000000022000000fe01c000000 0x40ca1 s (testEnds k i pass badSpares s) := by
  unfold testEnds
  repeat' first
    | with_reducible first
        | apply Keeps.refl
    | (with_reducible apply Keeps.after (keeps_selfTestState ..) ?_ ?_ ?_) <;> [rfl; rfl; skip]
    | (with_reducible apply Keeps.after (keeps_checkModeDone ..) ?_ ?_ ?_) <;> [rfl; rfl; skip]
    | (with_reducible apply Keeps.after (keeps_retireEngine ..) ?_ ?_ ?_) <;> [rfl; rfl; skip]
    | (with_reducible apply Keeps.after (keeps_selfTestEnds ..) ?_ ?_ ?_) <;> [rfl; rfl; skip]
    | split

theorem keeps_execCheckerSelfTestDone (kind : MemKind) (i : ℕ) (pass : Bool) (badSpares : BitVec 8) (s : State) :
    KeepsO 0x42400800000000000000000000000000000000000000000000000000022000000fe01c000000 0x40ca1 s (execCheckerSelfTestDone kind i pass badSpares s) := by
  unfold execCheckerSelfTestDone
  repeat' first
    | with_reducible first
        | apply KeepsO.done
        | apply Keeps.refl
        | apply Keeps.andThen (Keeps.guarded ?_) ?_
    | (with_reducible apply Keeps.after (keeps_testEnds ..) ?_ ?_ ?_) <;> [rfl; rfl; skip]

theorem keeps_takeSlot (k : MemKind) (i : ℕ) (bank : ℕ) (flips : List ℕ) (s : State) :
    Keeps 0x800000000000000000000000000000000000000000000000000022000008fd81c000000 0xca1 s (takeSlot k i bank flips s) := by
  unfold takeSlot
  repeat' first
    | with_reducible first
        | apply Keeps.refl
    | (with_reducible apply Keeps.after (keeps_retireForProgram ..) ?_ ?_ ?_) <;> [rfl; rfl; skip]
    | (with_reducible apply Keeps.after (keeps_scrubSlot ..) ?_ ?_ ?_) <;> [rfl; rfl; skip]
    | split

theorem keeps_execForcedScrubSlot (kind : MemKind) (i : ℕ) (bank : Fin 4) (flips : List ℕ) (s : State) :
    KeepsO 0x800000000000000000000000000000000000000000000000000022000008fd81c000000 0xca1 s (execForcedScrubSlot kind i bank flips s) := by
  unfold execForcedScrubSlot
  repeat' first
    | with_reducible first
        | apply KeepsO.done
        | apply Keeps.refl
        | apply Keeps.andThen (Keeps.guarded ?_) ?_
    | (with_reducible apply Keeps.after (keeps_modEng ..) ?_ ?_ ?_) <;> [rfl; rfl; skip]
    | (with_reducible apply Keeps.after (keeps_takeSlot ..) ?_ ?_ ?_) <;> [rfl; rfl; skip]
    | split
    | dsimp only

theorem keeps_execScrubSlot (kind : MemKind) (i : ℕ) (bank : Fin 4) (flips : List ℕ) (s : State) :
    KeepsO 0x800000000000000000000000000000000000000000000000000022000008fd81c000000 0xca1 s (execScrubSlot kind i bank flips s) := by
  unfold execScrubSlot
  repeat' first
    | with_reducible first
        | apply KeepsO.done
        | apply Keeps.refl
        | apply Keeps.andThen (Keeps.guarded ?_) ?_
    | (with_reducible apply Keeps.after (keeps_takeSlot ..) ?_ ?_ ?_) <;> [rfl; rfl; skip]

end Sys2Proof.Machine
end

