-- ==== Sys2Proof/Laws/KeepsSherexOps.lean ====
section
/-! SUPPORT. The frames of the operations of Machine/SherexOps.lean: what each can change, and that it keeps the stores canonical. -/

namespace Sys2Proof.Machine
open Sys2Proof

theorem keeps_askArbiter (a : ℕ) (r : ℕ) (s : State) :
    Keeps 0x340000000000000000000000000000000000000000000000000000000000000000000000000000 0x20000 s (askArbiter a r s).2.2 := by
  unfold askArbiter
  repeat' first
    | with_reducible first
        | apply Keeps.refl
    | (with_reducible apply Keeps.after (keeps_mntReqWrite ..) ?_ ?_ ?_) <;> [rfl; rfl; skip]
    | split
    | dsimp only

theorem keeps_askArbiter_eq {a : ℕ} {r : ℕ} {s : State} {v w} {t : State} (he : askArbiter a r s = (v, w, t)) :
    Keeps 0x340000000000000000000000000000000000000000000000000000000000000000000000000000 0x20000 s t := by
  have := keeps_askArbiter a r s
  rwa [he] at this

theorem keeps_capacityEvents (k : ℕ) (add : Bool) (mask : ℕ) (s : State) :
    Keeps 0 0x8 s (capacityEvents k add mask s) := by
  unfold capacityEvents
  repeat' first
    | with_reducible first
        | apply Keeps.refl
    | simp (disch := first | exact Or.inl rfl | with_reducible exact Or.inr rfl | rfl) only [Keeps.upd]

theorem keeps_clearLdFlags (l : ℕ) (s : State) :
    Keeps 0x10000000000000000000000000000000000000000000000 0 s (clearLdFlags l s) := by
  unfold clearLdFlags
  repeat' first
    | with_reducible first
        | apply Keeps.refl
    | (with_reducible apply Keeps.after (keeps_off ..) ?_ ?_ ?_) <;> [(first | rfl | (dsimp only; rfl)); rfl; skip]

theorem keeps_rateShadow (rate : ℕ) (div : ℕ) (s : State) (n : ℕ) :
    Keeps 0xe00010200000000000000000000000000000040000 0x4011 s (rateShadow rate div s n) := by
  unfold rateShadow
  repeat' first
    | with_reducible first
        | apply Keeps.refl
        | apply Keeps.andThen (Keeps.foldl (fun t a => ?_)) ?_
    | (with_reducible apply Keeps.after (keeps_fresh ..) ?_ ?_ ?_) <;> [rfl; rfl; skip]
    | (with_reducible apply Keeps.after (keeps_setReg ..) ?_ ?_ ?_) <;> [(first | rfl | (dsimp only; rfl)); rfl; skip]
    | (with_reducible apply Keeps.after (keeps_wr ..) ?_ ?_ ?_) <;> [(first | rfl | (dsimp only; rfl)); rfl; skip]
    | (with_reducible apply Keeps.after (keeps_shadowValid ..) ?_ ?_ ?_) <;> [rfl; rfl; skip]

theorem keeps_dramRateStart (o : ShxOp) (s : State) :
    Keeps 0x306b00480000000000000000100002000002ec2410300f2000880a0000002000008e209c040000 0x67fb1 s (dramRateStart o s).2 := by
  unfold dramRateStart
  repeat' first
    | with_reducible first
        | apply Keeps.refl
        | apply Keeps.andThen (Keeps.foldl (fun t a => ?_)) ?_
    | (with_reducible apply Keeps.after (keeps_wr ..) ?_ ?_ ?_) <;> [(first | rfl | (dsimp only; rfl)); rfl; skip]
    | (with_reducible apply Keeps.after (keeps_off ..) ?_ ?_ ?_) <;> [(first | rfl | (dsimp only; rfl)); rfl; skip]
    | (with_reducible apply Keeps.after (keeps_modeCtlWrite ..) ?_ ?_ ?_) <;> [rfl; rfl; skip]
    | (with_reducible apply Keeps.after (keeps_rateShadow ..) ?_ ?_ ?_) <;> [rfl; rfl; skip]
    | split
    | dsimp only

theorem keeps_dramRateStart_eq {o : ShxOp} {s : State} {out} {t : State} (he : dramRateStart o s = (out, t)) :
    Keeps 0x306b00480000000000000000100002000002ec2410300f2000880a0000002000008e209c040000 0x67fb1 s t := by
  have := keeps_dramRateStart o s
  rwa [he] at this

theorem keeps_dramRatePoll (o : ShxOp) (s : State) :
    Keeps 0x306b00480000000000000000100002000002ec2410300f2000880a0000002000008e209c040000 0x67fb1 s (dramRatePoll o s).2 := by
  unfold dramRatePoll
  repeat' first
    | with_reducible first
        | apply Keeps.refl
        | apply Keeps.andThen (Keeps.foldl (fun t a => ?_)) ?_
    | (with_reducible apply Keeps.after (keeps_holdDone ..) ?_ ?_ ?_) <;> [rfl; rfl; skip]
    | (with_reducible apply Keeps.after (keeps_dramRateStart ..) ?_ ?_ ?_) <;> [rfl; rfl; skip]
    | split
    | dsimp only

theorem keeps_dramRatePoll_eq {o : ShxOp} {s : State} {out} {t : State} (he : dramRatePoll o s = (out, t)) :
    Keeps 0x306b00480000000000000000100002000002ec2410300f2000880a0000002000008e209c040000 0x67fb1 s t := by
  have := keeps_dramRatePoll o s
  rwa [he] at this

theorem keeps_engTestPoll (o : ShxOp) (s : State) :
    Keeps 0 0 s (engTestPoll o s).2 := by
  unfold engTestPoll
  repeat' first
    | with_reducible first
        | apply Keeps.refl
    | split
    | dsimp only

theorem keeps_engTestPoll_eq {o : ShxOp} {s : State} {out} {t : State} (he : engTestPoll o s = (out, t)) :
    Keeps 0 0 s t := by
  have := keeps_engTestPoll o s
  rwa [he] at this

theorem keeps_engTestStart (o : ShxOp) (s : State) :
    Keeps 0x200000000000000000 0x800 s (engTestStart o s).2 := by
  unfold engTestStart
  repeat' first
    | with_reducible first
        | apply Keeps.refl
    | (with_reducible apply Keeps.after (keeps_startTest ..) ?_ ?_ ?_) <;> [rfl; rfl; skip]
    | split
    | dsimp only

theorem keeps_engTestStart_eq {o : ShxOp} {s : State} {out} {t : State} (he : engTestStart o s = (out, t)) :
    Keeps 0x200000000000000000 0x800 s t := by
  have := keeps_engTestStart o s
  rwa [he] at this

theorem keeps_ptIssue (op : ℕ) (k : ℕ) (e : PtEntry) (s : State) :
    Keeps 0x300000080000000000000000000000000000000000008930f00000000000000000000000000000 0x260a9 s (ptIssue op k e s).2 := by
  unfold ptIssue
  repeat' first
    | with_reducible first
        | apply Keeps.refl
    | (with_reducible apply Keeps.after (keeps_wr ..) ?_ ?_ ?_) <;> [(first | rfl | (dsimp only; rfl)); rfl; skip]
    | (with_reducible apply Keeps.after (keeps_ptCmd ..) ?_ ?_ ?_) <;> [rfl; rfl; skip]
    | split

theorem keeps_ptIssue_eq {op : ℕ} {k : ℕ} {e : PtEntry} {s : State} {out} {t : State} (he : ptIssue op k e s = (out, t)) :
    Keeps 0x300000080000000000000000000000000000000000008930f00000000000000000000000000000 0x260a9 s t := by
  have := keeps_ptIssue op k e s
  rwa [he] at this

theorem keeps_ptStep (op : ℕ) (k : ℕ) (e : PtEntry) (o : ShxOp) (next : ShxOp) (s : State) :
    Keeps 0x300000080000000000000000000000000000000000008930f00000000000000000000000000000 0x260a9 s (ptStep op k e o next s).2 := by
  unfold ptStep
  repeat' first
    | with_reducible first
        | apply Keeps.refl
    | (with_reducible apply Keeps.after (keeps_ptIssue_eq (by assumption)) ?_ ?_ ?_) <;> [rfl; rfl; skip]
    | split

theorem keeps_ptStep_eq {op : ℕ} {k : ℕ} {e : PtEntry} {o : ShxOp} {next : ShxOp} {s : State} {out} {t : State} (he : ptStep op k e o next s = (out, t)) :
    Keeps 0x300000080000000000000000000000000000000000008930f00000000000000000000000000000 0x260a9 s t := by
  have := keeps_ptStep op k e o next s
  rwa [he] at this

theorem keeps_extAssignStart (o : ShxOp) (s : State) :
    Keeps 0x300000080000000000000000000000000000000000008930f00000000000000000000000000000 0x260a9 s (extAssignStart o s).2 := by
  unfold extAssignStart
  repeat' first
    | with_reducible first
        | apply Keeps.refl
    | (with_reducible apply Keeps.after (keeps_ptStep ..) ?_ ?_ ?_) <;> [rfl; rfl; skip]

theorem keeps_extAssignStart_eq {o : ShxOp} {s : State} {out} {t : State} (he : extAssignStart o s = (out, t)) :
    Keeps 0x300000080000000000000000000000000000000000008930f00000000000000000000000000000 0x260a9 s t := by
  have := keeps_extAssignStart o s
  rwa [he] at this

theorem keeps_extNarrowStart (o : ShxOp) (s : State) :
    Keeps 0x300000080000000000000000000000000000000000008930f00000000000000000000000000000 0x260a9 s (extNarrowStart o s).2 := by
  unfold extNarrowStart
  repeat' first
    | with_reducible first
        | apply Keeps.refl
    | (with_reducible apply Keeps.after (keeps_ptStep ..) ?_ ?_ ?_) <;> [rfl; rfl; skip]

theorem keeps_extNarrowStart_eq {o : ShxOp} {s : State} {out} {t : State} (he : extNarrowStart o s = (out, t)) :
    Keeps 0x300000080000000000000000000000000000000000008930f00000000000000000000000000000 0x260a9 s t := by
  have := keeps_extNarrowStart o s
  rwa [he] at this

theorem keeps_extReleaseStart (o : ShxOp) (s : State) :
    Keeps 0x300000080000000000000000000000000000000000008930f00000000000000000000000000000 0x260a9 s (extReleaseStart o s).2 := by
  unfold extReleaseStart
  repeat' first
    | with_reducible first
        | apply Keeps.refl
    | (with_reducible apply Keeps.after (keeps_capacityEvents ..) ?_ ?_ ?_) <;> [rfl; rfl; skip]
    | (with_reducible apply Keeps.after (keeps_ptStep ..) ?_ ?_ ?_) <;> [rfl; rfl; skip]
    | split
    | dsimp only

theorem keeps_extReleaseStart_eq {o : ShxOp} {s : State} {out} {t : State} (he : extReleaseStart o s = (out, t)) :
    Keeps 0x300000080000000000000000000000000000000000008930f00000000000000000000000000000 0x260a9 s t := by
  have := keeps_extReleaseStart o s
  rwa [he] at this

theorem keeps_i2cFinish (o : ShxOp) (data : List Byte) (s : State) :
    Keeps 0x10000000ec000000000000000000000000000000000000000000000000000000000000 0x8008 s (i2cFinish o data s).2 := by
  unfold i2cFinish
  repeat' first
    | with_reducible first
        | apply Keeps.refl
    | (with_reducible apply Keeps.after (keeps_wardLog ..) ?_ ?_ ?_) <;> [rfl; rfl; skip]
    | (with_reducible apply Keeps.after (keeps_vio ..) ?_ ?_ ?_) <;> [rfl; rfl; skip]
    | (with_reducible apply Keeps.after (keeps_writeHost ..) ?_ ?_ ?_) <;> [rfl; rfl; skip]
    | split
    | dsimp only

theorem keeps_i2cFinish_eq {o : ShxOp} {data : List Byte} {s : State} {out} {t : State} (he : i2cFinish o data s = (out, t)) :
    Keeps 0x10000000ec000000000000000000000000000000000000000000000000000000000000 0x8008 s t := by
  have := keeps_i2cFinish o data s
  rwa [he] at this

theorem keeps_i2cNext (o : ShxOp) (j : ℕ) (s : State) :
    Keeps 0x180000000000000000000000000000000000000000000000000000000000000000000000000000000 0x80008 s (i2cNext o j s) := by
  unfold i2cNext
  repeat' first
    | with_reducible first
        | apply Keeps.refl
    | (with_reducible apply Keeps.after (keeps_off ..) ?_ ?_ ?_) <;> [(first | rfl | (dsimp only; rfl)); rfl; skip]
    | (with_reducible apply Keeps.after (keeps_i2cGo ..) ?_ ?_ ?_) <;> [rfl; rfl; skip]
    | (with_reducible apply Keeps.after (keeps_i2cStore ..) ?_ ?_ ?_) <;> [rfl; rfl; skip]

theorem keeps_i2cPoll (o : ShxOp) (s : State) :
    Keeps 0x1800000000010000000ec000000000000000000000000000000000000000000000000000000000000 0x88008 s (i2cPoll o s).2 := by
  unfold i2cPoll
  repeat' first
    | with_reducible first
        | apply Keeps.refl
    | (with_reducible apply Keeps.after (keeps_i2cFinish ..) ?_ ?_ ?_) <;> [rfl; rfl; skip]
    | (with_reducible apply Keeps.after (keeps_i2cNext ..) ?_ ?_ ?_) <;> [rfl; rfl; skip]
    | split
    | dsimp only

theorem keeps_i2cPoll_eq {o : ShxOp} {s : State} {out} {t : State} (he : i2cPoll o s = (out, t)) :
    Keeps 0x1800000000010000000ec000000000000000000000000000000000000000000000000000000000000 0x88008 s t := by
  have := keeps_i2cPoll o s
  rwa [he] at this

theorem keeps_imageStart (o : ShxOp) (s : State) :
    Keeps 0 0x10000 s (imageStart o s).2 := by
  unfold imageStart
  repeat' first
    | with_reducible first
        | apply Keeps.refl
    | simp (disch := first | exact Or.inl rfl | with_reducible exact Or.inr rfl | rfl) only [Keeps.upd]
    | split

theorem keeps_imageStart_eq {o : ShxOp} {s : State} {out} {t : State} (he : imageStart o s = (out, t)) :
    Keeps 0 0x10000 s t := by
  have := keeps_imageStart o s
  rwa [he] at this

theorem keeps_jobStart (o : ShxOp) (s : State) :
    Keeps 0x100000000000000000000000000000000000000003c0000000000000000000 0x8800 s (jobStart o s).2 := by
  unfold jobStart
  repeat' first
    | with_reducible first
        | apply Keeps.refl
        | apply Keeps.andThen (Keeps.foldl (fun t a => ?_)) ?_
    | (with_reducible apply Keeps.after (keeps_setReg ..) ?_ ?_ ?_) <;> [(first | rfl | (dsimp only; rfl)); rfl; skip]
    | (with_reducible apply Keeps.after (keeps_wr ..) ?_ ?_ ?_) <;> [(first | rfl | (dsimp only; rfl)); rfl; skip]
    | (with_reducible apply Keeps.after (keeps_off ..) ?_ ?_ ?_) <;> [(first | rfl | (dsimp only; rfl)); rfl; skip]
    | (with_reducible apply Keeps.after (keeps_setJobWrite ..) ?_ ?_ ?_) <;> [rfl; rfl; skip]
    | split
    | dsimp only

theorem keeps_jobStart_eq {o : ShxOp} {s : State} {out} {t : State} (he : jobStart o s = (out, t)) :
    Keeps 0x100000000000000000000000000000000000000003c0000000000000000000 0x8800 s t := by
  have := keeps_jobStart o s
  rwa [he] at this

theorem keeps_trainStart (o : ShxOp) (s : State) :
    Keeps 0 0 s (trainStart o s).2 := by
  unfold trainStart
  repeat' first
    | with_reducible first
        | apply Keeps.refl

theorem keeps_trainStart_eq {o : ShxOp} {s : State} {out} {t : State} (he : trainStart o s = (out, t)) :
    Keeps 0 0 s t := by
  have := keeps_trainStart o s
  rwa [he] at this

theorem keeps_laneRestoreStart (o : ShxOp) (s : State) :
    Keeps 0x300000480000000000000000000000000000082410000f20008a1880000000000000001c000000 0x270a1 s (laneRestoreStart o s).2 := by
  unfold laneRestoreStart
  repeat' first
    | with_reducible first
        | apply Keeps.refl
    | (with_reducible apply Keeps.after (keeps_hctlRedetect ..) ?_ ?_ ?_) <;> [rfl; rfl; skip]
    | (with_reducible apply Keeps.after (keeps_retWrite ..) ?_ ?_ ?_) <;> [rfl; rfl; skip]
    | (with_reducible apply Keeps.after (keeps_trainStart ..) ?_ ?_ ?_) <;> [rfl; rfl; skip]

theorem keeps_laneRestoreStart_eq {o : ShxOp} {s : State} {out} {t : State} (he : laneRestoreStart o s = (out, t)) :
    Keeps 0x300000480000000000000000000000000000082410000f20008a1880000000000000001c000000 0x270a1 s t := by
  have := keeps_laneRestoreStart o s
  rwa [he] at this

theorem keeps_ldStart {R P : Nat} {o : ShxOp} {f : Nat → State → State} {s : State}
    (hR : 0x304200000000000000000000100002250000000000000000000000000000000000000080000000 ||| R = R) (hP : 0x60780 ||| P = P) (hf : ∀ l t, Keeps R P t (f l t)) : Keeps R P s (ldStart o f s).2 := by
  have hk : Keeps R P s (clearLdFlags (opLeaf s o) s) := Keeps.mono (Keeps.mono (keeps_clearLdFlags ..) rfl rfl) hR hP
  have ht (u : State) : Keeps R P u (trstAdvance u) := Keeps.mono (Keeps.mono (keeps_trstAdvance ..) rfl rfl) hR hP
  unfold ldStart
  dsimp only
  have h : Keeps R P s (trstAdvance (f (opLeaf s o) (clearLdFlags (opLeaf s o) s))) :=
    Keeps.andThen (ht _) (Keeps.andThen (hf ..) hk)
  split
  · with_reducible exact h
  · with_reducible exact h

theorem keeps_loopbackStart (o : ShxOp) (s : State) :
    Keeps 0x300000480000000000000000000000000000082410000f20018a0a00000000000000001c000000 0x270a1 s (loopbackStart o s).2 := by
  unfold loopbackStart
  repeat' first
    | with_reducible first
        | apply Keeps.refl
        | apply Keeps.andThen (Keeps.foldl (fun t a => ?_)) ?_
    | (with_reducible apply Keeps.after (keeps_wr ..) ?_ ?_ ?_) <;> [(first | rfl | (dsimp only; rfl)); rfl; skip]
    | (with_reducible apply Keeps.after (keeps_holdWrite ..) ?_ ?_ ?_) <;> [rfl; rfl; skip]
    | (with_reducible apply Keeps.after (keeps_llbWrite ..) ?_ ?_ ?_) <;> [rfl; rfl; skip]

theorem keeps_loopbackStart_eq {o : ShxOp} {s : State} {out} {t : State} (he : loopbackStart o s = (out, t)) :
    Keeps 0x300000480000000000000000000000000000082410000f20018a0a00000000000000001c000000 0x270a1 s t := by
  have := keeps_loopbackStart o s
  rwa [he] at this

theorem keeps_membersStart (o : ShxOp) (s : State) :
    Keeps 0x300000000000000000 0xc00 s (membersStart o s).2 := by
  unfold membersStart
  repeat' first
    | with_reducible first
        | apply Keeps.refl
        | apply Keeps.andThen (Keeps.foldl (fun t a => ?_)) ?_
    | (with_reducible apply Keeps.after (keeps_off ..) ?_ ?_ ?_) <;> [(first | rfl | (dsimp only; rfl)); rfl; skip]
    | (with_reducible apply Keeps.after (keeps_tmbCfgWrite ..) ?_ ?_ ?_) <;> [rfl; rfl; skip]
    | split
    | dsimp only

theorem keeps_membersStart_eq {o : ShxOp} {s : State} {out} {t : State} (he : membersStart o s = (out, t)) :
    Keeps 0x300000000000000000 0xc00 s t := by
  have := keeps_membersStart o s
  rwa [he] at this

theorem keeps_readbackStart (o : ShxOp) (s : State) :
    Keeps 0x10000000fc000000000018000000000000000000000000000000000000000000000000 0x8008 s (readbackStart o s).2 := by
  unfold readbackStart
  repeat' first
    | with_reducible first
        | apply Keeps.refl
    | (with_reducible apply Keeps.after (keeps_off ..) ?_ ?_ ?_) <;> [(first | rfl | (dsimp only; rfl)); rfl; skip]
    | (with_reducible apply Keeps.after (keeps_frameReadback ..) ?_ ?_ ?_) <;> [rfl; rfl; skip]
    | (with_reducible apply Keeps.after (keeps_writeHost ..) ?_ ?_ ?_) <;> [rfl; rfl; skip]
    | split
    | dsimp only

theorem keeps_readbackStart_eq {o : ShxOp} {s : State} {out} {t : State} (he : readbackStart o s = (out, t)) :
    Keeps 0x10000000fc000000000018000000000000000000000000000000000000000000000000 0x8008 s t := by
  have := keeps_readbackStart o s
  rwa [he] at this

theorem keeps_retrainStart (o : ShxOp) (s : State) :
    Keeps 0x3000004800000000e0400000000000000000082410000f2000aa3880000000000000001c000000 0x270a1 s (retrainStart o s).2 := by
  unfold retrainStart
  repeat' first
    | with_reducible first
        | apply Keeps.refl
    | (with_reducible apply Keeps.after (keeps_hctlRedetect ..) ?_ ?_ ?_) <;> [rfl; rfl; skip]
    | (with_reducible apply Keeps.after (keeps_hctlRetrain ..) ?_ ?_ ?_) <;> [rfl; rfl; skip]
    | (with_reducible apply Keeps.after (keeps_trainStart ..) ?_ ?_ ?_) <;> [rfl; rfl; skip]
    | split

theorem keeps_retrainStart_eq {o : ShxOp} {s : State} {out} {t : State} (he : retrainStart o s = (out, t)) :
    Keeps 0x3000004800000000e0400000000000000000082410000f2000aa3880000000000000001c000000 0x270a1 s t := by
  have := keeps_retrainStart o s
  rwa [he] at this

theorem keeps_keeperStore (e : ℕ) (off : ℕ) (l : List Byte) (s : State) :
    Keeps 0x1c000000 0x2c81 s (keeperStore e off l s).2 := by
  unfold keeperStore
  repeat' first
    | with_reducible first
        | apply Keeps.refl
    | (with_reducible apply Keeps.after (keeps_engineRequest ..) ?_ ?_ ?_) <;> [rfl; rfl; skip]
    | simp (disch := first | exact Or.inl rfl | with_reducible exact Or.inr rfl | rfl) only [Keeps.upd]

theorem keeps_keeperStore_eq {e : ℕ} {off : ℕ} {l : List Byte} {s : State} {out} {t : State} (he : keeperStore e off l s = (out, t)) :
    Keeps 0x1c000000 0x2c81 s t := by
  have := keeps_keeperStore e off l s
  rwa [he] at this

theorem keeps_keeperImage (e f off : Nat) (l : List Byte) (s : State) : Keeps 0x1c000000 0x2c81 s (keeperImage e f off l s).2 := by
  induction f generalizing off l s with
  | zero => exact Keeps.refl s
  | succ f ih =>
    unfold keeperImage
    repeat' first
      | with_reducible first
          | apply Keeps.refl
          | apply Keeps.andThen (ih ..) ?_
      | (with_reducible apply Keeps.after (keeps_keeperStore_eq (by assumption)) ?_ ?_ ?_) <;> [rfl; rfl; skip]
      | split
      | dsimp only

theorem keeps_keeperImage_eq {e f off : Nat} {l : List Byte} {s : State} {v} {t : State} (h : keeperImage e f off l s = (v, t)) :
    Keeps 0x1c000000 0x2c81 s t := by
  have := keeps_keeperImage e f off l s
  rwa [h] at this

theorem keeps_setLoadStart (o : ShxOp) (s : State) :
    Keeps 0x1c000000 0x2c81 s (setLoadStart o s).2 := by
  unfold setLoadStart
  repeat' first
    | with_reducible first
        | apply Keeps.refl
        | apply Keeps.andThen (Keeps.foldl_snd (fun t a => ?_)) ?_
    | (with_reducible apply Keeps.after (keeps_keeperImage ..) ?_ ?_ ?_) <;> [rfl; rfl; skip]
    | (with_reducible apply Keeps.after (keeps_keeperImage_eq (by assumption)) ?_ ?_ ?_) <;> [rfl; rfl; skip]
    | split
    | dsimp only

theorem keeps_setLoadStart_eq {o : ShxOp} {s : State} {out} {t : State} (he : setLoadStart o s = (out, t)) :
    Keeps 0x1c000000 0x2c81 s t := by
  have := keeps_setLoadStart o s
  rwa [he] at this

theorem keeps_opStart (o : ShxOp) (s : State) :
    Keeps 0x180306b004810000000fc40000010001a250402ec2410308f30f1aa3a8003c03000008e209c040000 0xfffb9 s (opStart o s).2 := by
  unfold opStart
  repeat' first
    | with_reducible first
        | apply Keeps.refl
    | (with_reducible apply Keeps.after (keeps_cfgClear ..) ?_ ?_ ?_) <;> [rfl; rfl; skip]
    | (with_reducible apply Keeps.after (keeps_cfgLoad ..) ?_ ?_ ?_) <;> [rfl; rfl; skip]
    | (with_reducible apply Keeps.after (keeps_cfgLoadFull ..) ?_ ?_ ?_) <;> [rfl; rfl; skip]
    | (with_reducible apply Keeps.after (keeps_dramRateStart ..) ?_ ?_ ?_) <;> [rfl; rfl; skip]
    | (with_reducible apply Keeps.after (keeps_engTestStart ..) ?_ ?_ ?_) <;> [rfl; rfl; skip]
    | (with_reducible apply Keeps.after (keeps_extAssignStart ..) ?_ ?_ ?_) <;> [rfl; rfl; skip]
    | (with_reducible apply Keeps.after (keeps_extNarrowStart ..) ?_ ?_ ?_) <;> [rfl; rfl; skip]
    | (with_reducible apply Keeps.after (keeps_extReleaseStart ..) ?_ ?_ ?_) <;> [rfl; rfl; skip]
    | (with_reducible apply Keeps.after (keeps_i2cPoll ..) ?_ ?_ ?_) <;> [rfl; rfl; skip]
    | (with_reducible apply Keeps.after (keeps_imageStart ..) ?_ ?_ ?_) <;> [rfl; rfl; skip]
    | (with_reducible apply Keeps.after (keeps_jobStart ..) ?_ ?_ ?_) <;> [rfl; rfl; skip]
    | (with_reducible apply Keeps.after (keeps_laneRestoreStart ..) ?_ ?_ ?_) <;> [rfl; rfl; skip]
    | (with_reducible apply Keeps.andThen (keeps_ldStart ?_ ?_ (fun l t => ?_)) ?_) <;> [rfl; rfl; skip; skip]
    | (with_reducible apply Keeps.after (keeps_loopbackStart ..) ?_ ?_ ?_) <;> [rfl; rfl; skip]
    | (with_reducible apply Keeps.after (keeps_membersStart ..) ?_ ?_ ?_) <;> [rfl; rfl; skip]
    | (with_reducible apply Keeps.after (keeps_readbackStart ..) ?_ ?_ ?_) <;> [rfl; rfl; skip]
    | (with_reducible apply Keeps.after (keeps_retrainStart ..) ?_ ?_ ?_) <;> [rfl; rfl; skip]
    | (with_reducible apply Keeps.after (keeps_setLoadStart ..) ?_ ?_ ?_) <;> [rfl; rfl; skip]
    | split

theorem keeps_opStart_eq {o : ShxOp} {s : State} {out} {t : State} (he : opStart o s = (out, t)) :
    Keeps 0x180306b004810000000fc40000010001a250402ec2410308f30f1aa3a8003c03000008e209c040000 0xfffb9 s t := by
  have := keeps_opStart o s
  rwa [he] at this

theorem keeps_unaccept (k : ℕ) (mask : ℕ) (s : State) :
    Keeps 0 0x2000 s (unaccept k mask s) := by
  unfold unaccept
  repeat' first
    | with_reducible first
        | apply Keeps.refl
    | simp (disch := first | exact Or.inl rfl | with_reducible exact Or.inr rfl | rfl) only [Keeps.upd]

theorem keeps_extAssignPoll (o : ShxOp) (s : State) :
    Keeps 0x300000080000000000000000000000000000000000008930f00000000000000000000000000000 0x260a9 s (extAssignPoll o s).2 := by
  unfold extAssignPoll
  repeat' first
    | with_reducible first
        | apply Keeps.refl
    | (with_reducible apply Keeps.after (keeps_capacityEvents ..) ?_ ?_ ?_) <;> [rfl; rfl; skip]
    | (with_reducible apply Keeps.after (keeps_ptIssue_eq (by assumption)) ?_ ?_ ?_) <;> [rfl; rfl; skip]
    | (with_reducible apply Keeps.after (keeps_ptStep ..) ?_ ?_ ?_) <;> [rfl; rfl; skip]
    | (with_reducible apply Keeps.after (keeps_extAssignStart ..) ?_ ?_ ?_) <;> [rfl; rfl; skip]
    | (with_reducible apply Keeps.after (keeps_unaccept ..) ?_ ?_ ?_) <;> [rfl; rfl; skip]
    | simp (disch := first | exact Or.inl rfl | with_reducible exact Or.inr rfl | rfl) only [Keeps.upd]
    | split

theorem keeps_extAssignPoll_eq {o : ShxOp} {s : State} {out} {t : State} (he : extAssignPoll o s = (out, t)) :
    Keeps 0x300000080000000000000000000000000000000000008930f00000000000000000000000000000 0x260a9 s t := by
  have := keeps_extAssignPoll o s
  rwa [he] at this

theorem keeps_extNarrowPoll (o : ShxOp) (s : State) :
    Keeps 0x300000080000000000000000000000000000000000008930f00000000000000000000000000000 0x260a9 s (extNarrowPoll o s).2 := by
  unfold extNarrowPoll
  repeat' first
    | with_reducible first
        | apply Keeps.refl
    | (with_reducible apply Keeps.after (keeps_extNarrowStart ..) ?_ ?_ ?_) <;> [rfl; rfl; skip]
    | (with_reducible apply Keeps.after (keeps_unaccept ..) ?_ ?_ ?_) <;> [rfl; rfl; skip]
    | split
    | dsimp only

theorem keeps_extNarrowPoll_eq {o : ShxOp} {s : State} {out} {t : State} (he : extNarrowPoll o s = (out, t)) :
    Keeps 0x300000080000000000000000000000000000000000008930f00000000000000000000000000000 0x260a9 s t := by
  have := keeps_extNarrowPoll o s
  rwa [he] at this

theorem keeps_extReleasePoll (o : ShxOp) (s : State) :
    Keeps 0x300000080000000000000000000000000000000000008930f00000000000000000000000000000 0x260a9 s (extReleasePoll o s).2 := by
  unfold extReleasePoll
  repeat' first
    | with_reducible first
        | apply Keeps.refl
    | (with_reducible apply Keeps.after (keeps_ptStep ..) ?_ ?_ ?_) <;> [rfl; rfl; skip]
    | (with_reducible apply Keeps.after (keeps_unaccept ..) ?_ ?_ ?_) <;> [rfl; rfl; skip]
    | split
    | dsimp only

theorem keeps_extReleasePoll_eq {o : ShxOp} {s : State} {out} {t : State} (he : extReleasePoll o s = (out, t)) :
    Keeps 0x300000080000000000000000000000000000000000008930f00000000000000000000000000000 0x260a9 s t := by
  have := keeps_extReleasePoll o s
  rwa [he] at this

theorem keeps_jobPoll (o : ShxOp) (s : State) :
    Keeps 0 0 s (jobPoll o s).2 := by
  unfold jobPoll
  repeat' first
    | with_reducible first
        | apply Keeps.refl
    | split
    | dsimp only

theorem keeps_jobPoll_eq {o : ShxOp} {s : State} {out} {t : State} (he : jobPoll o s = (out, t)) :
    Keeps 0 0 s t := by
  have := keeps_jobPoll o s
  rwa [he] at this

theorem keeps_ldPoll (o : ShxOp) (s : State) :
    Keeps 0 0x10000 s (ldPoll o s).2 := by
  unfold ldPoll
  repeat' first
    | with_reducible first
        | apply Keeps.refl
    | simp (disch := first | exact Or.inl rfl | with_reducible exact Or.inr rfl | rfl) only [Keeps.upd]
    | split

theorem keeps_ldPoll_eq {o : ShxOp} {s : State} {out} {t : State} (he : ldPoll o s = (out, t)) :
    Keeps 0 0x10000 s t := by
  have := keeps_ldPoll o s
  rwa [he] at this

theorem keeps_membersPoll (o : ShxOp) (s : State) :
    Keeps 0 0 s (membersPoll o s).2 := by
  unfold membersPoll
  repeat' first
    | with_reducible first
        | apply Keeps.refl
    | split

theorem keeps_membersPoll_eq {o : ShxOp} {s : State} {out} {t : State} (he : membersPoll o s = (out, t)) :
    Keeps 0 0 s t := by
  have := keeps_membersPoll o s
  rwa [he] at this

theorem keeps_passPoll (o : ShxOp) (s : State) :
    Keeps 0 0 s (passPoll o s).2 := by
  unfold passPoll
  repeat' first
    | with_reducible first
        | apply Keeps.refl
    | split

theorem keeps_passPoll_eq {o : ShxOp} {s : State} {out} {t : State} (he : passPoll o s = (out, t)) :
    Keeps 0 0 s t := by
  have := keeps_passPoll o s
  rwa [he] at this

theorem keeps_trainPoll (o : ShxOp) (s : State) :
    Keeps 0 0 s (trainPoll o s).2 := by
  unfold trainPoll
  repeat' first
    | with_reducible first
        | apply Keeps.refl
    | split
    | dsimp only

theorem keeps_trainPoll_eq {o : ShxOp} {s : State} {out} {t : State} (he : trainPoll o s = (out, t)) :
    Keeps 0 0 s t := by
  have := keeps_trainPoll o s
  rwa [he] at this

theorem keeps_opPoll (o : ShxOp) (s : State) :
    Keeps 0x180306b004810000000ec000000100002000002ec2410308f30f0880a0000002000008e209c040000 0xfffb9 s (opPoll o s).2 := by
  unfold opPoll
  repeat' first
    | with_reducible first
        | apply Keeps.refl
    | (with_reducible apply Keeps.after (keeps_dramRatePoll ..) ?_ ?_ ?_) <;> [rfl; rfl; skip]
    | (with_reducible apply Keeps.after (keeps_engTestPoll ..) ?_ ?_ ?_) <;> [rfl; rfl; skip]
    | (with_reducible apply Keeps.after (keeps_i2cPoll ..) ?_ ?_ ?_) <;> [rfl; rfl; skip]
    | (with_reducible apply Keeps.after (keeps_extAssignPoll ..) ?_ ?_ ?_) <;> [rfl; rfl; skip]
    | (with_reducible apply Keeps.after (keeps_extNarrowPoll ..) ?_ ?_ ?_) <;> [rfl; rfl; skip]
    | (with_reducible apply Keeps.after (keeps_extReleasePoll ..) ?_ ?_ ?_) <;> [rfl; rfl; skip]
    | (with_reducible apply Keeps.after (keeps_jobPoll ..) ?_ ?_ ?_) <;> [rfl; rfl; skip]
    | (with_reducible apply Keeps.after (keeps_ldPoll ..) ?_ ?_ ?_) <;> [rfl; rfl; skip]
    | (with_reducible apply Keeps.after (keeps_membersPoll ..) ?_ ?_ ?_) <;> [rfl; rfl; skip]
    | (with_reducible apply Keeps.after (keeps_passPoll ..) ?_ ?_ ?_) <;> [rfl; rfl; skip]
    | (with_reducible apply Keeps.after (keeps_trainPoll ..) ?_ ?_ ?_) <;> [rfl; rfl; skip]
    | split

theorem keeps_opPoll_eq {o : ShxOp} {s : State} {out} {t : State} (he : opPoll o s = (out, t)) :
    Keeps 0x180306b004810000000ec000000100002000002ec2410308f30f0880a0000002000008e209c040000 0xfffb9 s t := by
  have := keeps_opPoll o s
  rwa [he] at this

theorem keeps_opAfter (o : ShxOp) (x : OpStep × State) : Keeps 0x304240080000400400000000100002250000000000000920000000000000000000000080000000 0x767a1 x.2 (opAfter o x) := by
  unfold opAfter
  split
  · exact Keeps.mono (keeps_finishOp ..) rfl rfl
  · exact Keeps.mono (keeps_finishOp ..) rfl rfl
  · exact Keeps.mono (keeps_setOp ..) rfl rfl

theorem keeps_opQueued (o : ShxOp) (s : State) : Keeps 0x180346b404810004004fc40000010001a250402ec2410308f30f1aa3a8003c03000008e209c040000 0xfffb9 s (opQueued o s) := by
  unfold opQueued
  repeat' first
    | with_reducible first
        | apply Keeps.refl
    | (with_reducible apply Keeps.after (keeps_askArbiter ..) ?_ ?_ ?_) <;> [rfl; rfl; skip]
    | (with_reducible apply Keeps.after (keeps_opStart ..) ?_ ?_ ?_) <;> [rfl; rfl; skip]
    | (with_reducible apply Keeps.after (keeps_setOp ..) ?_ ?_ ?_) <;> [rfl; rfl; skip]
    | (with_reducible apply Keeps.after (keeps_opAfter ..) ?_ ?_ ?_) <;> [rfl; rfl; skip]
    | simp (disch := first | exact Or.inl rfl | with_reducible exact Or.inr rfl | rfl) only [Keeps.upd]
    | split

theorem keeps_opNext (s : State) (h : Nat) : Keeps 0x180346b404810004004fc40000010001a250402ec2410308f30f1aa3a8003c03000008e209c040000 0xfffb9 s (opNext s h) := by
  unfold opNext
  repeat' first
    | with_reducible first
        | apply Keeps.refl
    | (with_reducible apply Keeps.after (keeps_opPoll ..) ?_ ?_ ?_) <;> [rfl; rfl; skip]
    | (with_reducible apply Keeps.after (keeps_opQueued ..) ?_ ?_ ?_) <;> [rfl; rfl; skip]
    | (with_reducible apply Keeps.after (keeps_opAfter ..) ?_ ?_ ?_) <;> [rfl; rfl; skip]
    | split

theorem keeps_opRun (h : ℕ) (s : State) :
    Keeps 0x180346b404810004004fc40000010001a250402ec2410308f30f1aa3a8003c03000008e209c040000 0xfffb9 s (opRun h s) := by
  unfold opRun
  repeat' first
    | with_reducible first
        | apply Keeps.refl
    | (with_reducible apply Keeps.after (keeps_opNext ..) ?_ ?_ ?_) <;> [rfl; rfl; skip]

theorem keeps_unoffer (k : ℕ) (mask : ℕ) (s : State) :
    Keeps 0 0x2000 s (unoffer k mask s) := by
  unfold unoffer
  repeat' first
    | with_reducible first
        | apply Keeps.refl
    | simp (disch := first | exact Or.inl rfl | with_reducible exact Or.inr rfl | rfl) only [Keeps.upd]

theorem keeps_loopbackEnd (o : ShxOp) (s : State) :
    Keeps 0x300000480000000000000000000000000000082410000f20018a0a00000000000000001c000000 0x270a1 s (loopbackEnd o s).2 := by
  unfold loopbackEnd
  repeat' first
    | with_reducible first
        | apply Keeps.refl
        | apply Keeps.andThen (Keeps.foldl (fun t a => ?_)) ?_
    | (with_reducible apply Keeps.after (keeps_wr ..) ?_ ?_ ?_) <;> [(first | rfl | (dsimp only; rfl)); rfl; skip]
    | (with_reducible apply Keeps.after (keeps_holdWrite ..) ?_ ?_ ?_) <;> [rfl; rfl; skip]
    | (with_reducible apply Keeps.after (keeps_llbWrite ..) ?_ ?_ ?_) <;> [rfl; rfl; skip]
    | split

theorem keeps_loopbackEnd_eq {o : ShxOp} {s : State} {out} {t : State} (he : loopbackEnd o s = (out, t)) :
    Keeps 0x300000480000000000000000000000000000082410000f20018a0a00000000000000001c000000 0x270a1 s t := by
  have := keeps_loopbackEnd o s
  rwa [he] at this

theorem keeps_shxPoll (s : State) :
    Keeps 0x180346b404810004004fc40000010001a250402ec2410308f30f1aa3a8003c03000008e209c040000 0xfffb9 s (shxPoll s) := by
  unfold shxPoll
  repeat' first
    | with_reducible first
        | apply Keeps.refl
        | apply Keeps.andThen (Keeps.foldl (fun t a => ?_)) ?_
    | (with_reducible apply Keeps.after (keeps_opNext ..) ?_ ?_ ?_) <;> [rfl; rfl; skip]

end Sys2Proof.Machine
end

