-- ==== Sys2Proof/Laws/KeepsSherexCmds.lean ====
section
/-! SUPPORT. The frames of the operations of Machine/SherexCmds.lean: what each can change, and that it keeps the stores canonical. -/

namespace Sys2Proof.Machine
open Sys2Proof

theorem keeps_atDone (n : ℕ) (m : ℕ) (owner : Option ℕ) (reset : Bool) (s : State) :
    Keeps 0 0x10000 s (atDone n m owner reset s) := by
  unfold atDone
  repeat' first
    | with_reducible first
        | apply Keeps.refl
    | (with_reducible apply Keeps.after (keeps_setTaken ..) ?_ ?_ ?_) <;> [rfl; rfl; skip]

theorem keeps_shxShort {R P n m op : Nat} {checks : State → List Byte → List (Bool × Nat)} {act : List Byte → State → ShxEnd × State}
    {s : State} (hR : 0x1000000000000000000000000000000000000000000000000000000000000000000 ||| R = R) (hP : 0x10000 ||| P = P) (h : ∀ p t, Keeps R P t (act p t).2) :
    Keeps R P s (shxShort n m op checks act s) := by
  unfold shxShort
  refine Keeps.guarded ?_
  dsimp only
  split
  · exact (Keeps.mono (keeps_shxRefuse ..) rfl rfl).mono hR hP
  · exact Keeps.andThen ((Keeps.mono (keeps_shxAnswer ..) rfl rfl).mono hR hP) (h ..)

theorem keeps_execCancel (n : Fin 16) (m : Fin 2) (s : State) :
    KeepsO 0x304240080001400400000000100002250000000000000920000000000000000000000080000000 0x767a1 s (execCancel n m s) := by
  unfold execCancel
  repeat' first
    | with_reducible first
        | apply KeepsO.done
        | apply Keeps.refl
    | (with_reducible apply Keeps.after (keeps_finishOp ..) ?_ ?_ ?_) <;> [rfl; rfl; skip]
    | (with_reducible apply Keeps.andThen (keeps_shxShort ?_ ?_ (fun p t => ?_)) ?_) <;> [rfl; rfl; skip; skip]
    | split

theorem keeps_execDeviceReset (n : Fin 16) (m : Fin 2) (s : State) :
    KeepsO 0x1000000000000000000000000000000000000000000000000000000000000000000 0x10000 s (execDeviceReset n m s) := by
  unfold execDeviceReset
  repeat' first
    | with_reducible first
        | apply KeepsO.done
        | apply Keeps.refl
    | (with_reducible apply Keeps.after (keeps_atDone ..) ?_ ?_ ?_) <;> [rfl; rfl; skip]
    | (with_reducible apply Keeps.andThen (keeps_shxShort ?_ ?_ (fun p t => ?_)) ?_) <;> [rfl; rfl; skip; skip]

theorem keeps_opBegin (n : ℕ) (m : ℕ) (o : ShxOp) (serial : Sparse ℕ) (s : State) :
    Keeps 0x180306b404810014004fc40000010001a250402ec2410308f30f1aa3a8003c03000008e209c040000 0xfffb9 s (opBegin n m o serial s) := by
  unfold opBegin
  repeat' first
    | with_reducible first
        | apply Keeps.refl
    | (with_reducible apply Keeps.after (keeps_shxAnswer ..) ?_ ?_ ?_) <;> [rfl; rfl; skip]
    | (with_reducible apply Keeps.after (keeps_endTicket ..) ?_ ?_ ?_) <;> [rfl; rfl; skip]
    | (with_reducible apply Keeps.after (keeps_showHandles ..) ?_ ?_ ?_) <;> [rfl; rfl; skip]
    | (with_reducible apply Keeps.after (keeps_finishOp ..) ?_ ?_ ?_) <;> [rfl; rfl; skip]
    | (with_reducible apply Keeps.after (keeps_opStart_eq (by assumption)) ?_ ?_ ?_) <;> [rfl; rfl; skip]
    | simp (disch := first | exact Or.inl rfl | with_reducible exact Or.inr rfl | rfl) only [Keeps.upd]
    | split

theorem keeps_shxLong (n : ℕ) (m : ℕ) (op : ℕ) (checks : State → List Byte → List (Bool × ℕ)) (objs : List Byte → List ShxObj) (act : State → List Byte → Option (ℕ × ℕ)) (data : List Byte) (s : State) :
    Keeps 0x180346b404810014004fc40000010001a250402ec2410308f30f1aa3a8003c03000008e209c040000 0xfffb9 s (shxLong n m op checks objs act data s) := by
  unfold shxLong
  repeat' first
    | with_reducible first
        | apply Keeps.refl
        | apply Keeps.andThen (Keeps.guarded ?_) ?_
    | (with_reducible apply Keeps.after (keeps_askArbiter ..) ?_ ?_ ?_) <;> [rfl; rfl; skip]
    | (with_reducible apply Keeps.after (keeps_shxAnswer ..) ?_ ?_ ?_) <;> [rfl; rfl; skip]
    | (with_reducible apply Keeps.after (keeps_shxRefuse ..) ?_ ?_ ?_) <;> [rfl; rfl; skip]
    | (with_reducible apply Keeps.after (keeps_showHandles ..) ?_ ?_ ?_) <;> [rfl; rfl; skip]
    | (with_reducible apply Keeps.after (keeps_issueHandle ..) ?_ ?_ ?_) <;> [rfl; rfl; skip]
    | (with_reducible apply Keeps.after (keeps_opBegin ..) ?_ ?_ ?_) <;> [rfl; rfl; skip]
    | simp (disch := first | exact Or.inl rfl | with_reducible exact Or.inr rfl | rfl) only [Keeps.upd]
    | split

theorem keeps_execDramRate (n : Fin 16) (m : Fin 2) (s : State) :
    KeepsO 0x180346b404810014004fc40000010001a250402ec2410308f30f1aa3a8003c03000008e209c040000 0xfffb9 s (execDramRate n m s) := by
  unfold execDramRate
  repeat' first
    | with_reducible first
        | apply KeepsO.done
        | apply Keeps.refl
    | (with_reducible apply Keeps.after (keeps_shxLong ..) ?_ ?_ ?_) <;> [rfl; rfl; skip]

theorem keeps_execEngTest (n : Fin 16) (m : Fin 2) (s : State) :
    KeepsO 0x180346b404810014004fc40000010001a250402ec2410308f30f1aa3a8003c03000008e209c040000 0xfffb9 s (execEngTest n m s) := by
  unfold execEngTest
  repeat' first
    | with_reducible first
        | apply KeepsO.done
        | apply Keeps.refl
    | (with_reducible apply Keeps.after (keeps_shxLong ..) ?_ ?_ ?_) <;> [rfl; rfl; skip]

theorem keeps_execEvtRoute (n : Fin 16) (m : Fin 2) (s : State) :
    KeepsO 0x2082001000000000000000000000000000000000000000000000000000000000000000000 0x10020 s (execEvtRoute n m s) := by
  unfold execEvtRoute
  repeat' first
    | with_reducible first
        | apply KeepsO.done
        | apply Keeps.refl
    | (with_reducible apply Keeps.after (keeps_evcSrcWrite ..) ?_ ?_ ?_) <;> [rfl; rfl; skip]
    | (with_reducible apply Keeps.andThen (keeps_shxShort ?_ ?_ (fun p t => ?_)) ?_) <;> [rfl; rfl; skip; skip]

theorem keeps_execExtAssign (n : Fin 16) (m : Fin 2) (s : State) :
    KeepsO 0x180346b404810014004fc40000010001a250402ec2410308f30f1aa3a8003c03000008e209c040000 0xfffb9 s (execExtAssign n m s) := by
  unfold execExtAssign
  repeat' first
    | with_reducible first
        | apply KeepsO.done
        | apply Keeps.refl
    | (with_reducible apply Keeps.after (keeps_shxLong ..) ?_ ?_ ?_) <;> [rfl; rfl; skip]

theorem keeps_execExtNarrow (n : Fin 16) (m : Fin 2) (s : State) :
    KeepsO 0x180346b404810014004fc40000010001a250402ec2410308f30f1aa3a8003c03000008e209c040000 0xfffb9 s (execExtNarrow n m s) := by
  unfold execExtNarrow
  repeat' first
    | with_reducible first
        | apply KeepsO.done
        | apply Keeps.refl
    | (with_reducible apply Keeps.after (keeps_shxLong ..) ?_ ?_ ?_) <;> [rfl; rfl; skip]

theorem keeps_execExtRelease (n : Fin 16) (m : Fin 2) (s : State) :
    KeepsO 0x180346b404810014004fc40000010001a250402ec2410308f30f1aa3a8003c03000008e209c040000 0xfffb9 s (execExtRelease n m s) := by
  unfold execExtRelease
  repeat' first
    | with_reducible first
        | apply KeepsO.done
        | apply Keeps.refl
    | (with_reducible apply Keeps.after (keeps_shxLong ..) ?_ ?_ ?_) <;> [rfl; rfl; skip]

theorem keeps_execExtentOfferTimeout (ext : ℕ) (s : State) :
    KeepsO 0x180346b404810004004fc40000010001a250402ec2410308f30f1aa3a8003c03000008e209c040000 0xfffb9 s (execExtentOfferTimeout ext s) := by
  unfold execExtentOfferTimeout
  repeat' first
    | with_reducible first
        | apply KeepsO.done
        | apply Keeps.refl
        | apply Keeps.andThen (Keeps.guarded ?_) ?_
    | (with_reducible apply Keeps.after (keeps_opRun ..) ?_ ?_ ?_) <;> [rfl; rfl; skip]
    | (with_reducible apply Keeps.after (keeps_unoffer ..) ?_ ?_ ?_) <;> [rfl; rfl; skip]
    | split

theorem keeps_execExtentReleaseResponse (n : Fin 16) (ext : ℕ) (s : State) :
    KeepsO 0x180346b404810004004fc40000010001a250402ec2410308f30f1aa3a8003c03000008e209c040000 0xfffb9 s (execExtentReleaseResponse n ext s) := by
  unfold execExtentReleaseResponse
  repeat' first
    | with_reducible first
        | apply KeepsO.done
        | apply Keeps.refl
        | apply Keeps.andThen (Keeps.guarded ?_) ?_
    | (with_reducible apply Keeps.after (keeps_unaccept ..) ?_ ?_ ?_) <;> [rfl; rfl; skip]
    | (with_reducible apply Keeps.after (keeps_setOp ..) ?_ ?_ ?_) <;> [rfl; rfl; skip]
    | (with_reducible apply Keeps.after (keeps_opRun ..) ?_ ?_ ?_) <;> [rfl; rfl; skip]
    | split

theorem keeps_execExtentReleaseWaitExpiry (ext : ℕ) (s : State) :
    KeepsO 0x180346b404810004004fc40000010001a250402ec2410308f30f1aa3a8003c03000008e209c040000 0xfffb9 s (execExtentReleaseWaitExpiry ext s) := by
  unfold execExtentReleaseWaitExpiry
  repeat' first
    | with_reducible first
        | apply KeepsO.done
        | apply Keeps.refl
        | apply Keeps.andThen (Keeps.guarded ?_) ?_
    | (with_reducible apply Keeps.after (keeps_finishOp ..) ?_ ?_ ?_) <;> [rfl; rfl; skip]
    | (with_reducible apply Keeps.after (keeps_setOp ..) ?_ ?_ ?_) <;> [rfl; rfl; skip]
    | (with_reducible apply Keeps.after (keeps_opRun ..) ?_ ?_ ?_) <;> [rfl; rfl; skip]
    | split

theorem keeps_execFullLoad (n : Fin 16) (m : Fin 2) (s : State) :
    KeepsO 0x180346b404810014004fc40000010001a250402ec2410308f30f1aa3a8003c03000008e209c040000 0xfffb9 s (execFullLoad n m s) := by
  unfold execFullLoad
  repeat' first
    | with_reducible first
        | apply KeepsO.done
        | apply Keeps.refl
    | (with_reducible apply Keeps.after (keeps_shxLong ..) ?_ ?_ ?_) <;> [rfl; rfl; skip]

theorem keeps_execFwUpdate (n : Fin 16) (m : Fin 2) (img : List Byte) (s : State) :
    KeepsO 0x180346b404810014004fc40000010001a250402ec2410308f30f1aa3a8003c03000008e209c040000 0xfffb9 s (execFwUpdate n m img s) := by
  unfold execFwUpdate
  repeat' first
    | with_reducible first
        | apply KeepsO.done
        | apply Keeps.refl
    | (with_reducible apply Keeps.after (keeps_shxLong ..) ?_ ?_ ?_) <;> [rfl; rfl; skip]

theorem keeps_execGetExtents (n : Fin 16) (m : Fin 2) (s : State) :
    KeepsO 0x1000000000000000000000000000000000000000000000000000000000000000000 0x10000 s (execGetExtents n m s) := by
  unfold execGetExtents
  repeat' first
    | with_reducible first
        | apply KeepsO.done
        | apply Keeps.refl
    | (with_reducible apply Keeps.andThen (keeps_shxShort ?_ ?_ (fun p t => ?_)) ?_) <;> [rfl; rfl; skip; skip]

theorem keeps_execGetInfo (n : Fin 16) (m : Fin 2) (s : State) :
    KeepsO 0x1000000000000000000000000000000000000000000000000000000000000000000 0x10000 s (execGetInfo n m s) := by
  unfold execGetInfo
  repeat' first
    | with_reducible first
        | apply KeepsO.done
        | apply Keeps.refl
    | (with_reducible apply Keeps.andThen (keeps_shxShort ?_ ?_ (fun p t => ?_)) ?_) <;> [rfl; rfl; skip; skip]

theorem keeps_execGetResources (n : Fin 16) (m : Fin 2) (s : State) :
    KeepsO 0x1000000000000000000000000000000000000000000000000000000000000000000 0x10000 s (execGetResources n m s) := by
  unfold execGetResources
  repeat' first
    | with_reducible first
        | apply KeepsO.done
        | apply Keeps.refl
    | (with_reducible apply Keeps.andThen (keeps_shxShort ?_ ?_ (fun p t => ?_)) ?_) <;> [rfl; rfl; skip; skip]

theorem keeps_execHandleStatus (n : Fin 16) (m : Fin 2) (s : State) :
    KeepsO 0x1000000000000000000000000000000000000000000000000000000000000000000 0x10000 s (execHandleStatus n m s) := by
  unfold execHandleStatus
  repeat' first
    | with_reducible first
        | apply KeepsO.done
        | apply Keeps.refl
    | (with_reducible apply Keeps.andThen (keeps_shxShort ?_ ?_ (fun p t => ?_)) ?_) <;> [rfl; rfl; skip; skip]

theorem keeps_execI2cXfer (n : Fin 16) (m : Fin 2) (s : State) :
    KeepsO 0x180346b404810014004fc40000010001a250402ec2410308f30f1aa3a8003c03000008e209c040000 0xfffb9 s (execI2cXfer n m s) := by
  unfold execI2cXfer
  repeat' first
    | with_reducible first
        | apply KeepsO.done
        | apply Keeps.refl
    | (with_reducible apply Keeps.after (keeps_shxLong ..) ?_ ?_ ?_) <;> [rfl; rfl; skip]

theorem keeps_execImgkeyDec (n : Fin 16) (m : Fin 2) (s : State) :
    KeepsO 0x1000000000000000000000000000000000000000000000000000000000000000000 0x10200 s (execImgkeyDec n m s) := by
  unfold execImgkeyDec
  repeat' first
    | with_reducible first
        | apply KeepsO.done
        | apply Keeps.refl
    | (with_reducible apply Keeps.andThen (keeps_shxShort ?_ ?_ (fun p t => ?_)) ?_) <;> [rfl; rfl; skip; skip]
    | simp (disch := first | exact Or.inl rfl | with_reducible exact Or.inr rfl | rfl) only [Keeps.upd]

theorem keeps_execImgkeyHash (n : Fin 16) (m : Fin 2) (s : State) :
    KeepsO 0x1000000000000000020000000000000000000000000000000000000000000000000 0x10000 s (execImgkeyHash n m s) := by
  unfold execImgkeyHash
  repeat' first
    | with_reducible first
        | apply KeepsO.done
        | apply Keeps.refl
        | apply Keeps.andThen (Keeps.foldl (fun t a => ?_)) ?_
    | (with_reducible apply Keeps.after (keeps_setReg ..) ?_ ?_ ?_) <;> [(first | rfl | (dsimp only; rfl)); rfl; skip]
    | (with_reducible apply Keeps.andThen (keeps_shxShort ?_ ?_ (fun p t => ?_)) ?_) <;> [rfl; rfl; skip; skip]

theorem keeps_execJobStart (n : Fin 16) (m : Fin 2) (s : State) :
    KeepsO 0x180346b404810014004fc40000010001a250402ec2410308f30f1aa3a8003c03000008e209c040000 0xfffb9 s (execJobStart n m s) := by
  unfold execJobStart
  repeat' first
    | with_reducible first
        | apply KeepsO.done
        | apply Keeps.refl
    | (with_reducible apply Keeps.after (keeps_shxLong ..) ?_ ?_ ?_) <;> [rfl; rfl; skip]

theorem keeps_execJobStop (n : Fin 16) (m : Fin 2) (s : State) :
    KeepsO 0x1000000000000000000000000000000000000000000000000000000000000000000 0x10800 s (execJobStop n m s) := by
  unfold execJobStop
  repeat' first
    | with_reducible first
        | apply KeepsO.done
        | apply Keeps.refl
    | (with_reducible apply Keeps.after (keeps_endStopping ..) ?_ ?_ ?_) <;> [rfl; rfl; skip]
    | (with_reducible apply Keeps.andThen (keeps_shxShort ?_ ?_ (fun p t => ?_)) ?_) <;> [rfl; rfl; skip; skip]
    | split

theorem keeps_execKeyErase (n : Fin 16) (m : Fin 2) (s : State) :
    KeepsO 0x1000400000000000000000000000000000000000000000000000000000000000000 0x10000 s (execKeyErase n m s) := by
  unfold execKeyErase
  repeat' first
    | with_reducible first
        | apply KeepsO.done
        | apply Keeps.refl
    | (with_reducible apply Keeps.andThen (keeps_shxShort ?_ ?_ (fun p t => ?_)) ?_) <;> [rfl; rfl; skip; skip]
    | (with_reducible apply Keeps.after (keeps_setKey ..) ?_ ?_ ?_) <;> [rfl; rfl; skip]

theorem keeps_execKeyInstallOwner (n : Fin 16) (m : Fin 2) (s : State) :
    KeepsO 0x1000400000000000000000000000000000000000000000000000000000000000000 0x10000 s (execKeyInstallOwner n m s) := by
  unfold execKeyInstallOwner
  repeat' first
    | with_reducible first
        | apply KeepsO.done
        | apply Keeps.refl
    | (with_reducible apply Keeps.andThen (keeps_shxShort ?_ ?_ (fun p t => ?_)) ?_) <;> [rfl; rfl; skip; skip]
    | (with_reducible apply Keeps.after (keeps_setKey ..) ?_ ?_ ?_) <;> [rfl; rfl; skip]

theorem keeps_execKeyReplace (n : Fin 16) (m : Fin 2) (s : State) :
    KeepsO 0x1000400000000000000000000000000000000000000000000000000000000000000 0x10000 s (execKeyReplace n m s) := by
  unfold execKeyReplace
  repeat' first
    | with_reducible first
        | apply KeepsO.done
        | apply Keeps.refl
    | (with_reducible apply Keeps.andThen (keeps_shxShort ?_ ?_ (fun p t => ?_)) ?_) <;> [rfl; rfl; skip; skip]
    | (with_reducible apply Keeps.after (keeps_setKey ..) ?_ ?_ ?_) <;> [rfl; rfl; skip]

theorem keeps_execKeySet (n : Fin 16) (m : Fin 2) (s : State) :
    KeepsO 0x1000400000000000000000000000000000000000000000000000000000000000000 0x10000 s (execKeySet n m s) := by
  unfold execKeySet
  repeat' first
    | with_reducible first
        | apply KeepsO.done
        | apply Keeps.refl
    | (with_reducible apply Keeps.andThen (keeps_shxShort ?_ ?_ (fun p t => ?_)) ?_) <;> [rfl; rfl; skip; skip]
    | (with_reducible apply Keeps.after (keeps_setKey ..) ?_ ?_ ?_) <;> [rfl; rfl; skip]

theorem keeps_execLaneLoopback (n : Fin 16) (m : Fin 2) (s : State) :
    KeepsO 0x180346b404810014004fc40000010001a250402ec2410308f30f1aa3a8003c03000008e209c040000 0xfffb9 s (execLaneLoopback n m s) := by
  unfold execLaneLoopback
  repeat' first
    | with_reducible first
        | apply KeepsO.done
        | apply Keeps.refl
    | (with_reducible apply Keeps.after (keeps_shxLong ..) ?_ ?_ ?_) <;> [rfl; rfl; skip]

theorem keeps_execLaneRestore (n : Fin 16) (m : Fin 2) (s : State) :
    KeepsO 0x180346b404810014004fc40000010001a250402ec2410308f30f1aa3a8003c03000008e209c040000 0xfffb9 s (execLaneRestore n m s) := by
  unfold execLaneRestore
  repeat' first
    | with_reducible first
        | apply KeepsO.done
        | apply Keeps.refl
    | (with_reducible apply Keeps.after (keeps_shxLong ..) ?_ ?_ ?_) <;> [rfl; rfl; skip]

theorem keeps_execLinkStats (n : Fin 16) (m : Fin 2) (s : State) : KeepsO 0x10000000000000000000000000000000000000010f0000000000000000000000000 0x10000 s (execLinkStats n m s) := by
  unfold execLinkStats
  refine KeepsO.done (keeps_shxShort rfl rfl (fun p t => ?_))
  dsimp only
  rw [List.foldl_append, List.foldl_map]
  simp only [List.foldl_cons, List.foldl_nil]
  repeat' first
    | with_reducible first
        | apply Keeps.refl
        | apply Keeps.andThen (Keeps.foldl (fun t a => ?_)) ?_
    | (with_reducible apply Keeps.after (keeps_setReg ..) ?_ ?_ ?_) <;> [(first | rfl | (dsimp only; rfl)); rfl; skip]

theorem keeps_execLoopbackTimeExpiry (n : Fin 16) (s : State) :
    KeepsO 0x304240480000400400000000100002250000082410000f20018a0a00000000000000009c000000 0x777a1 s (execLoopbackTimeExpiry n s) := by
  unfold execLoopbackTimeExpiry
  repeat' first
    | with_reducible first
        | apply KeepsO.done
        | apply Keeps.refl
        | apply Keeps.andThen (Keeps.guarded ?_) ?_
    | (with_reducible apply Keeps.after (keeps_loopbackEnd ..) ?_ ?_ ?_) <;> [rfl; rfl; skip]
    | (with_reducible apply Keeps.after (keeps_opAfter ..) ?_ ?_ ?_) <;> [rfl; rfl; skip]
    | split

theorem keeps_execOwnerChange (n : Fin 16) (m : Fin 2) (s : State) :
    KeepsO 0x1000000000000000000000000000000000000000000000000000000000000000000 0x10000 s (execOwnerChange n m s) := by
  unfold execOwnerChange
  repeat' first
    | with_reducible first
        | apply KeepsO.done
        | apply Keeps.refl
    | (with_reducible apply Keeps.after (keeps_atDone ..) ?_ ?_ ?_) <;> [rfl; rfl; skip]
    | (with_reducible apply Keeps.andThen (keeps_shxShort ?_ ?_ (fun p t => ?_)) ?_) <;> [rfl; rfl; skip; skip]

theorem keeps_execPinGrant (n : Fin 16) (m : Fin 2) (s : State) :
    KeepsO 0x1000000000000000000000000000000000000000000000000000000000000000000 0x10000 s (execPinGrant n m s) := by
  unfold execPinGrant
  repeat' first
    | with_reducible first
        | apply KeepsO.done
        | apply Keeps.refl
    | (with_reducible apply Keeps.andThen (keeps_shxShort ?_ ?_ (fun p t => ?_)) ?_) <;> [rfl; rfl; skip; skip]
    | simp (disch := first | exact Or.inl rfl | with_reducible exact Or.inr rfl | rfl) only [Keeps.upd]

theorem keeps_execPinRead (n : Fin 16) (m : Fin 2) (s : State) :
    KeepsO 0x1000000000000000000000000000000000000000000000000000000000000000000 0x10000 s (execPinRead n m s) := by
  unfold execPinRead
  repeat' first
    | with_reducible first
        | apply KeepsO.done
        | apply Keeps.refl
    | (with_reducible apply Keeps.andThen (keeps_shxShort ?_ ?_ (fun p t => ?_)) ?_) <;> [rfl; rfl; skip; skip]

theorem keeps_execPinWrite (n : Fin 16) (m : Fin 2) (s : State) :
    KeepsO 0x11000000000001000000000000000000000000000000000000000000000000000000000000000000 0x90000 s (execPinWrite n m s) := by
  unfold execPinWrite
  repeat' first
    | with_reducible first
        | apply KeepsO.done
        | apply Keeps.refl
    | (with_reducible apply Keeps.after (keeps_wr ..) ?_ ?_ ?_) <;> [(first | rfl | (dsimp only; rfl)); rfl; skip]
    | (with_reducible apply Keeps.after (keeps_on ..) ?_ ?_ ?_) <;> [(first | rfl | (dsimp only; rfl)); rfl; skip]
    | (with_reducible apply Keeps.after (keeps_linesSee ..) ?_ ?_ ?_) <;> [rfl; rfl; skip]
    | (with_reducible apply Keeps.andThen (keeps_shxShort ?_ ?_ (fun p t => ?_)) ?_) <;> [rfl; rfl; skip; skip]

theorem keeps_execPolicyUpdate (n : Fin 16) (m : Fin 2) (img : List Byte) (s : State) :
    KeepsO 0x180346b404810014004fc40000010001a250402ec2410308f30f1aa3a8003c03000008e209c040000 0xfffb9 s (execPolicyUpdate n m img s) := by
  unfold execPolicyUpdate
  repeat' first
    | with_reducible first
        | apply KeepsO.done
        | apply Keeps.refl
    | (with_reducible apply Keeps.after (keeps_shxLong ..) ?_ ?_ ?_) <;> [rfl; rfl; skip]

theorem keeps_execRetrain (n : Fin 16) (m : Fin 2) (s : State) :
    KeepsO 0x180346b404810014004fc40000010001a250402ec2410308f30f1aa3a8003c03000008e209c040000 0xfffb9 s (execRetrain n m s) := by
  unfold execRetrain
  repeat' first
    | with_reducible first
        | apply KeepsO.done
        | apply Keeps.refl
    | (with_reducible apply Keeps.after (keeps_shxLong ..) ?_ ?_ ?_) <;> [rfl; rfl; skip]

theorem keeps_execRgnAbort (n : Fin 16) (m : Fin 2) (s : State) :
    KeepsO 0x3042000800010000000000001000022f0c0000000000000000000000000000000000009c000000 0x707a1 s (execRgnAbort n m s) := by
  unfold execRgnAbort
  repeat' first
    | with_reducible first
        | apply KeepsO.done
        | apply Keeps.refl
    | (with_reducible apply Keeps.after (keeps_cfgAbort ..) ?_ ?_ ?_) <;> [rfl; rfl; skip]
    | (with_reducible apply Keeps.after (keeps_trstAdvance ..) ?_ ?_ ?_) <;> [rfl; rfl; skip]
    | (with_reducible apply Keeps.andThen (keeps_shxShort ?_ ?_ (fun p t => ?_)) ?_) <;> [rfl; rfl; skip; skip]
    | split
    | dsimp only

theorem keeps_execRgnAssign (n : Fin 16) (m : Fin 2) (s : State) :
    KeepsO 0x1000000000000000000200000000000000000000000000000000000000000000000 0x10000 s (execRgnAssign n m s) := by
  unfold execRgnAssign
  repeat' first
    | with_reducible first
        | apply KeepsO.done
        | apply Keeps.refl
    | (with_reducible apply Keeps.after (keeps_off ..) ?_ ?_ ?_) <;> [(first | rfl | (dsimp only; rfl)); rfl; skip]
    | (with_reducible apply Keeps.after (keeps_rgnCfgWrite ..) ?_ ?_ ?_) <;> [rfl; rfl; skip]
    | (with_reducible apply Keeps.andThen (keeps_shxShort ?_ ?_ (fun p t => ?_)) ?_) <;> [rfl; rfl; skip; skip]

theorem keeps_execRgnClear (n : Fin 16) (m : Fin 2) (s : State) :
    KeepsO 0x180346b404810014004fc40000010001a250402ec2410308f30f1aa3a8003c03000008e209c040000 0xfffb9 s (execRgnClear n m s) := by
  unfold execRgnClear
  repeat' first
    | with_reducible first
        | apply KeepsO.done
        | apply Keeps.refl
    | (with_reducible apply Keeps.after (keeps_shxLong ..) ?_ ?_ ?_) <;> [rfl; rfl; skip]

theorem keeps_execRgnLoad (n : Fin 16) (m : Fin 2) (s : State) :
    KeepsO 0x180346b404810014004fc40000010001a250402ec2410308f30f1aa3a8003c03000008e209c040000 0xfffb9 s (execRgnLoad n m s) := by
  unfold execRgnLoad
  repeat' first
    | with_reducible first
        | apply KeepsO.done
        | apply Keeps.refl
    | (with_reducible apply Keeps.after (keeps_shxLong ..) ?_ ?_ ?_) <;> [rfl; rfl; skip]

theorem keeps_execRgnReadback (n : Fin 16) (m : Fin 2) (s : State) :
    KeepsO 0x180346b404810014004fc40000010001a250402ec2410308f30f1aa3a8003c03000008e209c040000 0xfffb9 s (execRgnReadback n m s) := by
  unfold execRgnReadback
  repeat' first
    | with_reducible first
        | apply KeepsO.done
        | apply Keeps.refl
    | (with_reducible apply Keeps.after (keeps_shxLong ..) ?_ ?_ ?_) <;> [rfl; rfl; skip]

theorem keeps_execRgnStatus (n : Fin 16) (m : Fin 2) (s : State) :
    KeepsO 0x1000000000000000000000000000000000000000000000000000000000000000000 0x10000 s (execRgnStatus n m s) := by
  unfold execRgnStatus
  repeat' first
    | with_reducible first
        | apply KeepsO.done
        | apply Keeps.refl
    | (with_reducible apply Keeps.andThen (keeps_shxShort ?_ ?_ (fun p t => ?_)) ?_) <;> [rfl; rfl; skip; skip]

theorem keeps_execScrubPass (n : Fin 16) (m : Fin 2) (s : State) :
    KeepsO 0x180346b404810014004fc40000010001a250402ec2410308f30f1aa3a8003c03000008e209c040000 0xfffb9 s (execScrubPass n m s) := by
  unfold execScrubPass
  repeat' first
    | with_reducible first
        | apply KeepsO.done
        | apply Keeps.refl
    | (with_reducible apply Keeps.after (keeps_shxLong ..) ?_ ?_ ?_) <;> [rfl; rfl; skip]

theorem keeps_execSensors (n : Fin 16) (m : Fin 2) (s : State) :
    KeepsO 0x1000000000000000000000000000000000000000000000000000000000000000000 0x10000 s (execSensors n m s) := by
  unfold execSensors
  repeat' first
    | with_reducible first
        | apply KeepsO.done
        | apply Keeps.refl
    | (with_reducible apply Keeps.andThen (keeps_shxShort ?_ ?_ (fun p t => ?_)) ?_) <;> [rfl; rfl; skip; skip]

theorem keeps_setCfgCmd (k : ℕ) (v : Word) (s : State) :
    Keeps 0x10200000000000000000 0xc00 s (setCfgCmd k v s).2 := by
  unfold setCfgCmd
  repeat' first
    | with_reducible first
        | apply Keeps.refl
    | (with_reducible apply Keeps.after (keeps_off ..) ?_ ?_ ?_) <;> [(first | rfl | (dsimp only; rfl)); rfl; skip]
    | (with_reducible apply Keeps.after (keeps_setCfgWrite ..) ?_ ?_ ?_) <;> [rfl; rfl; skip]

theorem keeps_setCfgCmd_eq {k : ℕ} {v : Word} {s : State} {out} {t : State} (he : setCfgCmd k v s = (out, t)) :
    Keeps 0x10200000000000000000 0xc00 s t := by
  have := keeps_setCfgCmd k v s
  rwa [he] at this

theorem keeps_execSetCreate (n : Fin 16) (m : Fin 2) (s : State) :
    KeepsO 0x1000000000000000000000000000000000000000000000010200000000000000000 0x10c00 s (execSetCreate n m s) := by
  unfold execSetCreate
  repeat' first
    | with_reducible first
        | apply KeepsO.done
        | apply Keeps.refl
    | (with_reducible apply Keeps.andThen (keeps_shxShort ?_ ?_ (fun p t => ?_)) ?_) <;> [rfl; rfl; skip; skip]
    | (with_reducible apply Keeps.after (keeps_setCfgCmd ..) ?_ ?_ ?_) <;> [rfl; rfl; skip]

theorem keeps_execSetDelete (n : Fin 16) (m : Fin 2) (s : State) :
    KeepsO 0x1000000000000000000000000000000000000000000000010200000000000000000 0x10c00 s (execSetDelete n m s) := by
  unfold execSetDelete
  repeat' first
    | with_reducible first
        | apply KeepsO.done
        | apply Keeps.refl
    | (with_reducible apply Keeps.andThen (keeps_shxShort ?_ ?_ (fun p t => ?_)) ?_) <;> [rfl; rfl; skip; skip]
    | (with_reducible apply Keeps.after (keeps_setCfgCmd ..) ?_ ?_ ?_) <;> [rfl; rfl; skip]

theorem keeps_execSetDoorbell (n : Fin 16) (m : Fin 2) (s : State) :
    KeepsO 0x1000000000000000000000000000000000000000000000000000000000000000000 0x10800 s (execSetDoorbell n m s) := by
  unfold execSetDoorbell
  repeat' first
    | with_reducible first
        | apply KeepsO.done
        | apply Keeps.refl
        | apply Keeps.andThen (Keeps.foldl (fun t a => ?_)) ?_
    | (with_reducible apply Keeps.after (keeps_modEng ..) ?_ ?_ ?_) <;> [rfl; rfl; skip]
    | (with_reducible apply Keeps.andThen (keeps_shxShort ?_ ?_ (fun p t => ?_)) ?_) <;> [rfl; rfl; skip; skip]
    | split
    | dsimp only

theorem keeps_execSetLoad (n : Fin 16) (m : Fin 2) (dimg : List Byte) (pimg : List Byte) (s : State) :
    KeepsO 0x180346b404810014004fc40000010001a250402ec2410308f30f1aa3a8003c03000008e209c040000 0xfffb9 s (execSetLoad n m dimg pimg s) := by
  unfold execSetLoad
  repeat' first
    | with_reducible first
        | apply KeepsO.done
        | apply Keeps.refl
    | (with_reducible apply Keeps.after (keeps_shxLong ..) ?_ ?_ ?_) <;> [rfl; rfl; skip]

theorem keeps_execSetMembers (n : Fin 16) (m : Fin 2) (s : State) :
    KeepsO 0x180346b404810014004fc40000010001a250402ec2410308f30f1aa3a8003c03000008e209c040000 0xfffb9 s (execSetMembers n m s) := by
  unfold execSetMembers
  repeat' first
    | with_reducible first
        | apply KeepsO.done
        | apply Keeps.refl
    | (with_reducible apply Keeps.after (keeps_shxLong ..) ?_ ?_ ?_) <;> [rfl; rfl; skip]

theorem keeps_execSherexNop (n : Fin 16) (m : Fin 2) (s : State) :
    KeepsO 0x1000000000000000000000000000000000000000000000000000000000000000000 0x10000 s (execSherexNop n m s) := by
  unfold execSherexNop
  repeat' first
    | with_reducible first
        | apply KeepsO.done
        | apply Keeps.refl
    | (with_reducible apply Keeps.andThen (keeps_shxShort ?_ ?_ (fun p t => ?_)) ?_) <;> [rfl; rfl; skip; skip]

theorem keeps_execTenantReset (n : Fin 16) (m : Fin 2) (s : State) :
    KeepsO 0x3142000800010001100000001000022f0c0000000000000000000000000020000000009c000000 0x78fa1 s (execTenantReset n m s) := by
  unfold execTenantReset
  repeat' first
    | with_reducible first
        | apply KeepsO.done
        | apply Keeps.refl
    | (with_reducible apply Keeps.after (keeps_trstCmdWrite ..) ?_ ?_ ?_) <;> [rfl; rfl; skip]
    | (with_reducible apply Keeps.andThen (keeps_shxShort ?_ ?_ (fun p t => ?_)) ?_) <;> [rfl; rfl; skip; skip]

theorem keeps_execWakeCtl (n : Fin 16) (m : Fin 2) (s : State) :
    KeepsO 0x400001000000000000000000000000000000000000000000000000000000000000000000 0x10000 s (execWakeCtl n m s) := by
  unfold execWakeCtl
  repeat' first
    | with_reducible first
        | apply KeepsO.done
        | apply Keeps.refl
    | (with_reducible apply Keeps.after (keeps_wr ..) ?_ ?_ ?_) <;> [(first | rfl | (dsimp only; rfl)); rfl; skip]
    | (with_reducible apply Keeps.andThen (keeps_shxShort ?_ ?_ (fun p t => ?_)) ?_) <;> [rfl; rfl; skip; skip]

theorem keeps_windowCfgCmd (w : ℕ) (v : Word) (s : State) :
    Keeps 0x1000000000000000000000 0 s (windowCfgCmd w v s).2 := by
  unfold windowCfgCmd
  repeat' first
    | with_reducible first
        | apply Keeps.refl
    | (with_reducible apply Keeps.after (keeps_off ..) ?_ ?_ ?_) <;> [(first | rfl | (dsimp only; rfl)); rfl; skip]
    | (with_reducible apply Keeps.after (keeps_windowCfgWrite ..) ?_ ?_ ?_) <;> [rfl; rfl; skip]

theorem keeps_windowCfgCmd_eq {w : ℕ} {v : Word} {s : State} {out} {t : State} (he : windowCfgCmd w v s = (out, t)) :
    Keeps 0x1000000000000000000000 0 s t := by
  have := keeps_windowCfgCmd w v s
  rwa [he] at this

theorem keeps_execWinBind (n : Fin 16) (m : Fin 2) (s : State) :
    KeepsO 0x100000000000000000000000000000000000000000000f000000000000000000000 0x10000 s (execWinBind n m s) := by
  unfold execWinBind
  repeat' first
    | with_reducible first
        | apply KeepsO.done
        | apply Keeps.refl
    | (with_reducible apply Keeps.after (keeps_wr ..) ?_ ?_ ?_) <;> [(first | rfl | (dsimp only; rfl)); rfl; skip]
    | (with_reducible apply Keeps.andThen (keeps_shxShort ?_ ?_ (fun p t => ?_)) ?_) <;> [rfl; rfl; skip; skip]
    | (with_reducible apply Keeps.after (keeps_windowCfgCmd ..) ?_ ?_ ?_) <;> [rfl; rfl; skip]

theorem keeps_execWinUnbind (n : Fin 16) (m : Fin 2) (s : State) :
    KeepsO 0x1000000000000000000000000000000000000000000001000000000000000000000 0x10000 s (execWinUnbind n m s) := by
  unfold execWinUnbind
  repeat' first
    | with_reducible first
        | apply KeepsO.done
        | apply Keeps.refl
    | (with_reducible apply Keeps.andThen (keeps_shxShort ?_ ?_ (fun p t => ?_)) ?_) <;> [rfl; rfl; skip; skip]
    | (with_reducible apply Keeps.after (keeps_windowCfgCmd ..) ?_ ?_ ?_) <;> [rfl; rfl; skip]

theorem keeps_execXlatSet (n : Fin 16) (m : Fin 2) (s : State) :
    KeepsO 0x100000000000000000000000000000000000e000000000000000000000000000000 0x12000 s (execXlatSet n m s) := by
  unfold execXlatSet
  repeat' first
    | with_reducible first
        | apply KeepsO.done
        | apply Keeps.refl
    | (with_reducible apply Keeps.after (keeps_wr ..) ?_ ?_ ?_) <;> [(first | rfl | (dsimp only; rfl)); rfl; skip]
    | (with_reducible apply Keeps.after (keeps_xmCmd ..) ?_ ?_ ?_) <;> [rfl; rfl; skip]
    | (with_reducible apply Keeps.andThen (keeps_shxShort ?_ ?_ (fun p t => ?_)) ?_) <;> [rfl; rfl; skip; skip]

end Sys2Proof.Machine
end

