-- ==== Sys2Proof/Laws/KeepsDispatch.lean ====
section
/-! SUPPORT. The frame every command keeps: the queue is left alone and the stores stay canonical. -/

namespace Sys2Proof.Machine
open Sys2Proof

/-- A frame inside another. -/
theorem KeepsO.mono {R P R' P' : Nat} {s : State} {o : Host.Outcome State Fault Refusal} (h : KeepsO R' P' s o) (hR : R' ||| R = R)
    (hP : P' ||| P = P) : KeepsO R P s o := fun t ht => (h t ht).mono hR hP

/-- Whatever the command, it leaves the queue alone and keeps the stores canonical. -/
theorem keeps_exec (i : Instr) (s : State) : KeepsO allRegs 0x1fffff s (exec i s) := by
  cases i with
  | registerWrite actor r ix v => exact (keeps_execRegisterWrite actor r ix v s).mono rfl rfl
  | clearingRead r ix same => exact (keeps_execClearingRead r ix same s).mono (sub_allRegs_or rfl) rfl
  | suppliesGood khLow => exact (keeps_execSuppliesGood khLow s).mono rfl rfl
  | powerOnReset => exact (keeps_execPowerOnReset s).mono rfl rfl
  | koscStable xsel xdly bootMode => exact (keeps_execKoscStable xsel xdly bootMode s).mono rfl rfl
  | crystalDelayComplete w => exact (keeps_execCrystalDelayComplete w s).mono rfl rfl
  | referencePresent => exact (keeps_execReferencePresent s).mono rfl rfl
  | rootPllLock => exact (keeps_execRootPllLock s).mono rfl rfl
  | leafAligned => exact (keeps_execLeafAligned s).mono rfl rfl
  | startupTimeout => exact (keeps_execStartupTimeout s).mono rfl rfl
  | clockFailReset cause leaf stepNo => exact (keeps_execClockFailReset cause leaf stepNo s).mono rfl rfl
  | knuckleTestComplete failing => exact (keeps_execKnuckleTestComplete failing s).mono rfl rfl
  | multWrite v => exact (keeps_execMultWrite v s).mono rfl rfl
  | rootSeal => exact (keeps_execRootSeal s).mono rfl rfl
  | relockComplete => exact (keeps_execRelockComplete s).mono rfl rfl
  | relockTimeout => exact (keeps_execRelockTimeout s).mono rfl rfl
  | alignmentFault leaf => exact (keeps_execAlignmentFault leaf s).mono rfl rfl
  | dividerEnable d en => exact (keeps_execDividerEnable d en s).mono rfl rfl
  | divisorChange n => exact (keeps_execDivisorChange n s).mono rfl rfl
  | sourceSwitch d root => exact (keeps_execSourceSwitch d root s).mono rfl rfl
  | switchComplete d => exact (keeps_execSwitchComplete d s).mono rfl rfl
  | forcedSwitch d => exact (keeps_execForcedSwitch d s).mono rfl rfl
  | monitorWindow w err1 err2 err3 lock => exact (keeps_execMonitorWindow w err1 err2 err3 lock s).mono rfl rfl
  | monitorReset => exact (keeps_execMonitorReset s).mono rfl rfl
  | koscFault counts => exact (keeps_execKoscFault counts s).mono rfl rfl
  | laneReferenceWindow n w => exact (keeps_execLaneReferenceWindow n w s).mono rfl rfl
  | laneReferencePresent n => exact (keeps_execLaneReferencePresent n s).mono rfl rfl
  | laneReferenceLost n => exact (keeps_execLaneReferenceLost n s).mono rfl rfl
  | dtcLoRead => exact (keeps_execDtcLoRead s).mono rfl rfl
  | read f ups u parity damage => exact (keeps_execRead f ups u parity damage s).mono rfl rfl
  | write f ups u parity damage => exact (keeps_execWrite f ups u parity damage s).mono rfl rfl
  | regRead f damage => exact (keeps_execRegRead f damage s).mono rfl rfl
  | regWrite f damage => exact (keeps_execRegWrite f damage s).mono rfl rfl
  | data src txn damage => exact (keeps_execData src txn damage s).mono rfl rfl
  | dataPoisoned src txn damage => exact (keeps_execDataPoisoned src txn damage s).mono rfl rfl
  | ack src txn damage => exact (keeps_execAck src txn damage s).mono rfl rfl
  | error src txn damage => exact (keeps_execError src txn damage s).mono rfl rfl
  | accessPortRequest a write txn da len data => exact (keeps_execAccessPortRequest a write txn da len data s).mono rfl rfl
  | accessPortResponse a => exact (keeps_execAccessPortResponse a s).mono rfl rfl
  | timeout src txn => exact (keeps_execTimeout src txn s).mono rfl rfl
  | lateResponse src txn => exact (keeps_execLateResponse src txn s).mono rfl rfl
  | krvTmoWrite v => exact (keeps_execKrvTmoWrite v s).mono rfl rfl
  | knuckleCrcMismatch g n sameFlit => exact (keeps_execKnuckleCrcMismatch g n sameFlit s).mono rfl rfl
  | replayComplete g n => exact (keeps_execReplayComplete g n s).mono rfl rfl
  | replayMaxReached g n => exact (keeps_execReplayMaxReached g n s).mono rfl rfl
  | knuckleStall g n => exact (keeps_execKnuckleStall g n s).mono rfl rfl
  | remapComplete g => exact (keeps_execRemapComplete g s).mono rfl rfl
  | knuckleRestore g => exact (keeps_execKnuckleRestore g s).mono rfl rfl
  | restoreComplete g passing => exact (keeps_execRestoreComplete g passing s).mono rfl rfl
  | violationReport => exact (keeps_execViolationReport s).mono rfl rfl
  | checkerSelfTestDone kind ix pass badSpares => exact (keeps_execCheckerSelfTestDone kind ix pass badSpares s).mono rfl rfl
  | scrubTick leaf => exact (keeps_execScrubTick leaf s).mono rfl rfl
  | memPassBoundary leaf => exact (keeps_execMemPassBoundary leaf s).mono rfl rfl
  | scrubSlot kind ix bank flips => exact (keeps_execScrubSlot kind ix bank flips s).mono rfl rfl
  | forcedScrubSlot kind ix bank flips => exact (keeps_execForcedScrubSlot kind ix bank flips s).mono rfl rfl
  | compareAndWrite kind ix bank flips => exact (keeps_execCompareAndWrite kind ix bank flips s).mono rfl rfl
  | memRemapAdd v => exact (keeps_execMemRemapAdd v s).mono rfl rfl
  | firmwareRemapCopy flips => exact (keeps_execFirmwareRemapCopy flips s).mono rfl rfl
  | memLogPop leaf v => exact (keeps_execMemLogPop leaf v s).mono rfl rfl
  | nop e slot => exact (keeps_execNop e slot s).mono rfl rfl
  | add e => exact (keeps_execAdd e s).mono rfl rfl
  | sub e => exact (keeps_execSub e s).mono rfl rfl
  | and e => exact (keeps_execAnd e s).mono rfl rfl
  | or e => exact (keeps_execOr e s).mono rfl rfl
  | xor e => exact (keeps_execXor e s).mono rfl rfl
  | sll e => exact (keeps_execSll e s).mono rfl rfl
  | srl e => exact (keeps_execSrl e s).mono rfl rfl
  | sra e => exact (keeps_execSra e s).mono rfl rfl
  | slt e => exact (keeps_execSlt e s).mono rfl rfl
  | sltu e => exact (keeps_execSltu e s).mono rfl rfl
  | mul e => exact (keeps_execMul e s).mono rfl rfl
  | mulh e => exact (keeps_execMulh e s).mono rfl rfl
  | min e => exact (keeps_execMin e s).mono rfl rfl
  | max e => exact (keeps_execMax e s).mono rfl rfl
  | addi e => exact (keeps_execAddi e s).mono rfl rfl
  | andi e => exact (keeps_execAndi e s).mono rfl rfl
  | ori e => exact (keeps_execOri e s).mono rfl rfl
  | xori e => exact (keeps_execXori e s).mono rfl rfl
  | slli e => exact (keeps_execSlli e s).mono rfl rfl
  | srli e => exact (keeps_execSrli e s).mono rfl rfl
  | srai e => exact (keeps_execSrai e s).mono rfl rfl
  | lui e => exact (keeps_execLui e s).mono rfl rfl
  | norm e => exact (keeps_execNorm e s).mono rfl rfl
  | exp e => exact (keeps_execExp e s).mono rfl rfl
  | sats e => exact (keeps_execSats e s).mono rfl rfl
  | pset e => exact (keeps_execPset e s).mono rfl rfl
  | pget e => exact (keeps_execPget e s).mono rfl rfl
  | br e => exact (keeps_execBr e s).mono rfl rfl
  | beqz e => exact (keeps_execBeqz e s).mono rfl rfl
  | bnez e => exact (keeps_execBnez e s).mono rfl rfl
  | bltz e => exact (keeps_execBltz e s).mono rfl rfl
  | bgez e => exact (keeps_execBgez e s).mono rfl rfl
  | call e => exact (keeps_execCall e s).mono rfl rfl
  | ret e => exact (keeps_execRet e s).mono rfl rfl
  | reti e => exact (keeps_execReti e s).mono rfl rfl
  | loop e => exact (keeps_execLoop e s).mono rfl rfl
  | loopi e => exact (keeps_execLoopi e s).mono rfl rfl
  | lclr e => exact (keeps_execLclr e s).mono rfl rfl
  | waitn e => exact (keeps_execWaitn e s).mono rfl rfl
  | waite e => exact (keeps_execWaite e s).mono rfl rfl
  | done e => exact (keeps_execDone e s).mono rfl rfl
  | swi e => exact (keeps_execSwi e s).mono rfl rfl
  | mfc e => exact (keeps_execMfc e s).mono rfl rfl
  | mtc e => exact (keeps_execMtc e s).mono rfl rfl
  | vadd e => exact (keeps_execVadd e s).mono rfl rfl
  | vsub e => exact (keeps_execVsub e s).mono rfl rfl
  | vmul e => exact (keeps_execVmul e s).mono rfl rfl
  | vand e => exact (keeps_execVand e s).mono rfl rfl
  | vor e => exact (keeps_execVor e s).mono rfl rfl
  | vxor e => exact (keeps_execVxor e s).mono rfl rfl
  | vshl e => exact (keeps_execVshl e s).mono rfl rfl
  | vsra e => exact (keeps_execVsra e s).mono rfl rfl
  | vmin e => exact (keeps_execVmin e s).mono rfl rfl
  | vmax e => exact (keeps_execVmax e s).mono rfl rfl
  | vbcast e => exact (keeps_execVbcast e s).mono rfl rfl
  | vget e => exact (keeps_execVget e s).mono rfl rfl
  | vmac e => exact (keeps_execVmac e s).mono rfl rfl
  | vmsu e => exact (keeps_execVmsu e s).mono rfl rfl
  | vmpy e => exact (keeps_execVmpy e s).mono rfl rfl
  | vmacb e => exact (keeps_execVmacb e s).mono rfl rfl
  | vmpyb e => exact (keeps_execVmpyb e s).mono rfl rfl
  | aclr e => exact (keeps_execAclr e s).mono rfl rfl
  | vsat e => exact (keeps_execVsat e s).mono rfl rfl
  | amov e => exact (keeps_execAmov e s).mono rfl rfl
  | amovi e => exact (keeps_execAmovi e s).mono rfl rfl
  | agete e => exact (keeps_execAgete e s).mono rfl rfl
  | vcls e => exact (keeps_execVcls e s).mono rfl rfl
  | vexp e => exact (keeps_execVexp e s).mono rfl rfl
  | bnorm e => exact (keeps_execBnorm e s).mono rfl rfl
  | bnorma e => exact (keeps_execBnorma e s).mono rfl rfl
  | ldb e flips => exact (keeps_execLdb e flips s).mono rfl rfl
  | ldbu e flips => exact (keeps_execLdbu e flips s).mono rfl rfl
  | ldh e flips => exact (keeps_execLdh e flips s).mono rfl rfl
  | ldhu e flips => exact (keeps_execLdhu e flips s).mono rfl rfl
  | ldw e flips => exact (keeps_execLdw e flips s).mono rfl rfl
  | stb e => exact (keeps_execStb e s).mono rfl rfl
  | sth e => exact (keeps_execSth e s).mono rfl rfl
  | stw e => exact (keeps_execStw e s).mono rfl rfl
  | ldv e flips => exact (keeps_execLdv e flips s).mono rfl rfl
  | stv e => exact (keeps_execStv e s).mono rfl rfl
  | ssend e => exact (keeps_execSsend e s).mono rfl rfl
  | srecv e => exact (keeps_execSrecv e s).mono rfl rfl
  | nget e => exact (keeps_execNget e s).mono rfl rfl
  | nput e => exact (keeps_execNput e s).mono rfl rfl
  | resultLanding e => exact (keeps_execResultLanding e s).mono rfl rfl
  | streamArrival e d => exact (keeps_execStreamArrival e d s).mono rfl rfl
  | eventEntry e => exact (keeps_execEventEntry e s).mono rfl rfl
  | uncorrectableFetch e flips => exact (keeps_execUncorrectableFetch e flips s).mono rfl rfl
  | timer e => exact (keeps_execTimer e s).mono rfl rfl
  | forcedNetworkAccess e src txn ups => exact (keeps_execForcedNetworkAccess e src txn ups s).mono rfl rfl
  | wrsp e v => exact (keeps_execWrsp e v s).mono rfl rfl
  | engineStop e => exact (keeps_execEngineStop e s).mono rfl rfl
  | tmbCfgWrite e v => exact (keeps_execTmbCfgWrite e v s).mono rfl rfl
  | setCfgWrite k v => exact (keeps_execSetCfgWrite k v s).mono rfl rfl
  | clearingEnd e => exact (keeps_execClearingEnd e s).mono rfl rfl
  | jobGo k v => exact (keeps_execJobGo k v s).mono rfl rfl
  | jobEnd k => exact (keeps_execJobEnd k s).mono rfl rfl
  | jobTimeout k => exact (keeps_execJobTimeout k s).mono rfl rfl
  | setStop k v => exact (keeps_execSetStop k v s).mono rfl rfl
  | tmbSetsDb k v => exact (keeps_execTmbSetsDb k v s).mono rfl rfl
  | windowEnable w v => exact (keeps_execWindowEnable w v s).mono rfl rfl
  | windowRead n id dpa => exact (keeps_execWindowRead n id dpa s).mono rfl rfl
  | windowWrite n id dpa len data => exact (keeps_execWindowWrite n id dpa len data s).mono rfl rfl
  | windowBoundExpiry src txn => exact (keeps_execWindowBoundExpiry src txn s).mono rfl rfl
  | engineSelfTest e => exact (keeps_execEngineSelfTest e s).mono rfl rfl
  | engineSelfTestDone e sig => exact (keeps_execEngineSelfTestDone e sig s).mono rfl rfl
  | engineRestore e => exact (keeps_execEngineRestore e s).mono rfl rfl
  | pllLock p h => exact (keeps_execPllLock p h s).mono rfl rfl
  | attemptStart n start => exact (keeps_execAttemptStart n start s).mono rfl rfl
  | attemptSuccess n f => exact (keeps_execAttemptSuccess n f s).mono rfl rfl
  | attemptFailure n => exact (keeps_execAttemptFailure n s).mono rfl rfl
  | trainTimeout n => exact (keeps_execTrainTimeout n s).mono rfl rfl
  | backoffEnd n => exact (keeps_execBackoffEnd n s).mono rfl rfl
  | linkDown n => exact (keeps_execLinkDown n s).mono rfl rfl
  | lowPowerTransition n dir => exact (keeps_execLowPowerTransition n dir s).mono rfl rfl
  | l2Exit n => exact (keeps_execL2Exit n s).mono rfl rfl
  | headReset n hot => exact (keeps_execHeadReset n hot s).mono rfl rfl
  | perstNHigh n => exact (keeps_execPerstNHigh n s).mono rfl rfl
  | holdWrite n hold => exact (keeps_execHoldWrite n hold s).mono rfl rfl
  | hctlRetrain n => exact (keeps_execHctlRetrain n s).mono rfl rfl
  | redetect n => exact (keeps_execRedetect n s).mono rfl rfl
  | equalisationRequest lane pre post => exact (keeps_execEqualisationRequest lane pre post s).mono rfl rfl
  | lnkRestore p v => exact (keeps_execLnkRestore p v s).mono rfl rfl
  | loopbackModeWrite lane v => exact (keeps_execLoopbackModeWrite lane v s).mono rfl rfl
  | farEndLoopback n lanes => exact (keeps_execFarEndLoopback n lanes s).mono rfl rfl
  | cxlMemRead n id dpa intent => exact (keeps_execCxlMemRead n id dpa intent s).mono rfl rfl
  | cxlMemWrite n id dpa len data keep => exact (keeps_execCxlMemWrite n id dpa len data keep s).mono rfl rfl
  | ptRead v => exact (keeps_execPtRead v s).mono rfl rfl
  | assign v => exact (keeps_execAssign v s).mono rfl rfl
  | narrow v => exact (keeps_execNarrow v s).mono rfl rfl
  | release v => exact (keeps_execRelease v s).mono rfl rfl
  | ptInForce => exact (keeps_execPtInForce s).mono rfl rfl
  | drainComplete ext => exact (keeps_execDrainComplete ext s).mono rfl rfl
  | extentClearingComplete ext => exact (keeps_execExtentClearingComplete ext s).mono rfl rfl
  | walkComplete leaf damaged => exact (keeps_execWalkComplete leaf damaged s).mono rfl rfl
  | backgroundCheck chan ext bad => exact (keeps_execBackgroundCheck chan ext bad s).mono rfl rfl
  | replicaReload chan ext => exact (keeps_execReplicaReload chan ext s).mono rfl rfl
  | snpInv n line => exact (keeps_execSnpInv n line s).mono rfl rfl
  | snpData n line => exact (keeps_execSnpData n line s).mono rfl rfl
  | rspI n line => exact (keeps_execRspI n line s).mono rfl rfl
  | rspS n line => exact (keeps_execRspS n line s).mono rfl rfl
  | rspIData n line data => exact (keeps_execRspIData n line data s).mono rfl rfl
  | rspSData n line data => exact (keeps_execRspSData n line data s).mono rfl rfl
  | snoopTimeout n line => exact (keeps_execSnoopTimeout n line s).mono rfl rfl
  | hostFill n line own poison data u => exact (keeps_execHostFill n line own poison data u s).mono rfl rfl
  | hostSnoop n line inv u => exact (keeps_execHostSnoop n line inv u s).mono rfl rfl
  | rangeRead v => exact (keeps_execRangeRead v s).mono rfl rfl
  | rangeWrite v => exact (keeps_execRangeWrite v s).mono rfl rfl
  | cohVlogPop v => exact (keeps_execCohVlogPop v s).mono rfl rfl
  | schedulerServe n sc u => exact (keeps_execSchedulerServe n sc u s).mono rfl rfl
  | demandScrub n sc u => exact (keeps_execDemandScrub n sc u s).mono rfl rfl
  | patrolRead n u => exact (keeps_execPatrolRead n u s).mono rfl rfl
  | rowCopyComplete n => exact (keeps_execRowCopyComplete n s).mono rfl rfl
  | permwinWindow n => exact (keeps_execPermwinWindow n s).mono rfl rfl
  | ddrRemapAdd n v => exact (keeps_execDdrRemapAdd n v s).mono rfl rfl
  | refresh n rank act => exact (keeps_execRefresh n rank act s).mono rfl rfl
  | mr4Poll n readouts => exact (keeps_execMr4Poll n readouts s).mono rfl rfl
  | selfRefreshEntry n => exact (keeps_execSelfRefreshEntry n s).mono rfl rfl
  | selfRefreshExit n => exact (keeps_execSelfRefreshExit n s).mono rfl rfl
  | holdGo n kind => exact (keeps_execHoldGo n kind s).mono rfl rfl
  | queuesEmpty n => exact (keeps_execQueuesEmpty n s).mono rfl rfl
  | freqchangeEntryComplete n => exact (keeps_execFreqchangeEntryComplete n s).mono rfl rfl
  | freqchangeExit n => exact (keeps_execFreqchangeExit n s).mono rfl rfl
  | trainholdDone n => exact (keeps_execTrainholdDone n s).mono rfl rfl
  | inservice n => exact (keeps_execInservice n s).mono rfl rfl
  | shadowValid n => exact (keeps_execShadowValid n s).mono rfl rfl
  | generatorWrite n v => exact (keeps_execGeneratorWrite n v s).mono rfl rfl
  | generatorReadCompare n v ups => exact (keeps_execGeneratorReadCompare n v ups s).mono rfl rfl
  | generatorSaveWriteCompare n v ups => exact (keeps_execGeneratorSaveWriteCompare n v ups s).mono rfl rfl
  | generatorRestore n v => exact (keeps_execGeneratorRestore n v s).mono rfl rfl
  | generatorDone n => exact (keeps_execGeneratorDone n s).mono rfl rfl
  | mrw n v => exact (keeps_execMrw n v s).mono rfl rfl
  | mrr n v byte => exact (keeps_execMrr n v byte s).mono rfl rfl
  | mpc n v => exact (keeps_execMpc n v s).mono rfl rfl
  | dlyDataWrite n v => exact (keeps_execDlyDataWrite n v s).mono rfl rfl
  | rxeqDataWrite n v => exact (keeps_execRxeqDataWrite n v s).mono rfl rfl
  | sealChannel n => exact (keeps_execSealChannel n s).mono rfl rfl
  | imgData leaf dma src txn data => exact (keeps_execImgData leaf dma src txn data s).mono rfl rfl
  | signatureVerified leaf => exact (keeps_execSignatureVerified leaf s).mono rfl rfl
  | chunkVerified leaf => exact (keeps_execChunkVerified leaf s).mono rfl rfl
  | frameFwd leaf src => exact (keeps_execFrameFwd leaf src s).mono rfl rfl
  | frame leaf => exact (keeps_execFrame leaf s).mono rfl rfl
  | zero leaf => exact (keeps_execZero leaf s).mono rfl rfl
  | repeatRecord leaf => exact (keeps_execRepeatRecord leaf s).mono rfl rfl
  | meminit leaf => exact (keeps_execMeminit leaf s).mono rfl rfl
  | rgndef leaf => exact (keeps_execRgndef leaf s).mono rfl rfl
  | endRecord leaf => exact (keeps_execEndRecord leaf s).mono rfl rfl
  | load leaf region => exact (keeps_execLoad leaf region s).mono rfl rfl
  | loadFull sherex => exact (keeps_execLoadFull sherex s).mono rfl rfl
  | clear leaf region => exact (keeps_execClear leaf region s).mono rfl rfl
  | abort leaf => exact (keeps_execAbort leaf s).mono rfl rfl
  | regionDrained leaf => exact (keeps_execRegionDrained leaf s).mono rfl rfl
  | clearComplete leaf => exact (keeps_execClearComplete leaf s).mono rfl rfl
  | stall leaf => exact (keeps_execStall leaf s).mono rfl rfl
  | regionOwnerWrite r v => exact (keeps_execRegionOwnerWrite r v s).mono rfl rfl
  | frameReadback v => exact (keeps_execFrameReadback v s).mono rfl rfl
  | bootRetry => exact (keeps_execBootRetry s).mono rfl rfl
  | bootRomStart failing => exact (keeps_execBootRomStart failing s).mono rfl rfl
  | policyImageApplied flash fabdep => exact (keeps_execPolicyImageApplied flash fabdep s).mono rfl rfl
  | keeperFirmwareStart flash => exact (keeps_execKeeperFirmwareStart flash s).mono rfl rfl
  | frameSlot leaf flips store => exact (keeps_execFrameSlot leaf flips store s).mono rfl rfl
  | scanPassStart leaf => exact (keeps_execScanPassStart leaf s).mono rfl rfl
  | repairWrite leaf => exact (keeps_execRepairWrite leaf s).mono rfl rfl
  | fixGo leaf frame => exact (keeps_execFixGo leaf frame s).mono rfl rfl
  | giveup leaf frame => exact (keeps_execGiveup leaf frame s).mono rfl rfl
  | fixTimeout leaf entry => exact (keeps_execFixTimeout leaf entry s).mono rfl rfl
  | scbLogPop leaf v => exact (keeps_execScbLogPop leaf v s).mono rfl rfl
  | lockstepMismatch q => exact (keeps_execLockstepMismatch q s).mono rfl rfl
  | dmaStart c v transfers => exact (keeps_execDmaStart c v transfers s).mono rfl rfl
  | windowCommit n w v => exact (keeps_execWindowCommit n w v s).mono rfl rfl
  | grant n v => exact (keeps_execGrant n v s).mono rfl rfl
  | grantExpiry n k => exact (keeps_execGrantExpiry n k s).mono rfl rfl
  | linkMessage n msg => exact (keeps_execLinkMessage n msg s).mono rfl rfl
  | heldMessageRelease n => exact (keeps_execHeldMessageRelease n s).mono rfl rfl
  | sensorSample temps => exact (keeps_execSensorSample temps s).mono rfl rfl
  | powerAverage watts => exact (keeps_execPowerAverage watts s).mono rfl rfl
  | wrdLogPop v => exact (keeps_execWrdLogPop v s).mono rfl rfl
  | ring n m => exact (keeps_execRing n m s).mono rfl rfl
  | take n m => exact (keeps_execTake n m s).mono rfl rfl
  | mailboxDone n m => exact (keeps_execMailboxDone n m s).mono rfl rfl
  | mailboxAck n m => exact (keeps_execMailboxAck n m s).mono rfl rfl
  | counterFloorWrite n m ok => exact (keeps_execCounterFloorWrite n m ok s).mono rfl rfl
  | recordWrite n => exact (keeps_execRecordWrite n s).mono rfl rfl
  | crEnable n v => exact (keeps_execCrEnable n v s).mono rfl rfl
  | crHeadWrite n v => exact (keeps_execCrHeadWrite n v s).mono rfl rfl
  | sherexNop n m => exact (keeps_execSherexNop n m s).mono rfl rfl
  | getInfo n m => exact (keeps_execGetInfo n m s).mono rfl rfl
  | getResources n m => exact (keeps_execGetResources n m s).mono rfl rfl
  | getExtents n m => exact (keeps_execGetExtents n m s).mono rfl rfl
  | handleStatus n m => exact (keeps_execHandleStatus n m s).mono rfl rfl
  | extAssign n m => exact (keeps_execExtAssign n m s).mono rfl rfl
  | extentOfferResponse n ext accept => exact (keeps_execExtentOfferResponse n ext accept s).mono rfl rfl
  | extentOfferTimeout ext => exact (keeps_execExtentOfferTimeout ext s).mono rfl rfl
  | extNarrow n m => exact (keeps_execExtNarrow n m s).mono rfl rfl
  | extRelease n m => exact (keeps_execExtRelease n m s).mono rfl rfl
  | xlatSet n m => exact (keeps_execXlatSet n m s).mono rfl rfl
  | rgnAssign n m => exact (keeps_execRgnAssign n m s).mono rfl rfl
  | rgnLoad n m => exact (keeps_execRgnLoad n m s).mono rfl rfl
  | rgnClear n m => exact (keeps_execRgnClear n m s).mono rfl rfl
  | rgnAbort n m => exact (keeps_execRgnAbort n m s).mono rfl rfl
  | rgnStatus n m => exact (keeps_execRgnStatus n m s).mono rfl rfl
  | rgnReadback n m => exact (keeps_execRgnReadback n m s).mono rfl rfl
  | fullLoad n m => exact (keeps_execFullLoad n m s).mono rfl rfl
  | setCreate n m => exact (keeps_execSetCreate n m s).mono rfl rfl
  | setMembers n m => exact (keeps_execSetMembers n m s).mono rfl rfl
  | setDelete n m => exact (keeps_execSetDelete n m s).mono rfl rfl
  | setLoad n m dimg pimg => exact (keeps_execSetLoad n m dimg pimg s).mono rfl rfl
  | jobStart n m => exact (keeps_execJobStart n m s).mono rfl rfl
  | jobStop n m => exact (keeps_execJobStop n m s).mono rfl rfl
  | setDoorbell n m => exact (keeps_execSetDoorbell n m s).mono rfl rfl
  | winBind n m => exact (keeps_execWinBind n m s).mono rfl rfl
  | winUnbind n m => exact (keeps_execWinUnbind n m s).mono rfl rfl
  | engTest n m => exact (keeps_execEngTest n m s).mono rfl rfl
  | cancel n m => exact (keeps_execCancel n m s).mono rfl rfl
  | evtRoute n m => exact (keeps_execEvtRoute n m s).mono rfl rfl
  | wakeCtl n m => exact (keeps_execWakeCtl n m s).mono rfl rfl
  | laneRestore n m => exact (keeps_execLaneRestore n m s).mono rfl rfl
  | retrain n m => exact (keeps_execRetrain n m s).mono rfl rfl
  | scrubPass n m => exact (keeps_execScrubPass n m s).mono rfl rfl
  | dramRate n m => exact (keeps_execDramRate n m s).mono rfl rfl
  | tenantReset n m => exact (keeps_execTenantReset n m s).mono rfl rfl
  | deviceReset n m => exact (keeps_execDeviceReset n m s).mono rfl rfl
  | keyInstallOwner n m => exact (keeps_execKeyInstallOwner n m s).mono rfl rfl
  | keySet n m => exact (keeps_execKeySet n m s).mono rfl rfl
  | keyReplace n m => exact (keeps_execKeyReplace n m s).mono rfl rfl
  | keyErase n m => exact (keeps_execKeyErase n m s).mono rfl rfl
  | imgkeyHash n m => exact (keeps_execImgkeyHash n m s).mono rfl rfl
  | imgkeyDec n m => exact (keeps_execImgkeyDec n m s).mono rfl rfl
  | ownerChange n m => exact (keeps_execOwnerChange n m s).mono rfl rfl
  | policyUpdate n m img => exact (keeps_execPolicyUpdate n m img s).mono rfl rfl
  | fwUpdate n m img => exact (keeps_execFwUpdate n m img s).mono rfl rfl
  | pinGrant n m => exact (keeps_execPinGrant n m s).mono rfl rfl
  | pinRead n m => exact (keeps_execPinRead n m s).mono rfl rfl
  | pinWrite n m => exact (keeps_execPinWrite n m s).mono rfl rfl
  | i2cXfer n m => exact (keeps_execI2cXfer n m s).mono rfl rfl
  | sensors n m => exact (keeps_execSensors n m s).mono rfl rfl
  | linkStats n m => exact (keeps_execLinkStats n m s).mono rfl rfl
  | laneLoopback n m => exact (keeps_execLaneLoopback n m s).mono rfl rfl
  | raise src => exact (keeps_execRaise src s).mono rfl rfl
  | claim c => exact (keeps_execClaim c s).mono rfl rfl
  | complete c v => exact (keeps_execComplete c v s).mono rfl rfl
  | evcSrcWrite src v => exact (keeps_execEvcSrcWrite src v s).mono rfl rfl
  | evcSwset v => exact (keeps_execEvcSwset v s).mono rfl rfl
  | holdOffExpiry g => exact (keeps_execHoldOffExpiry g s).mono rfl rfl
  | notification src => exact (keeps_execNotification src s).mono rfl rfl
  | fevt r ix pins => exact (keeps_execFevt r ix pins s).mono rfl rfl
  | kick v => exact (keeps_execKick v s).mono rfl rfl
  | watchdogEnable v => exact (keeps_execWatchdogEnable v s).mono rfl rfl
  | watchdogExpiry c => exact (keeps_execWatchdogExpiry c s).mono rfl rfl
  | halfTime => exact (keeps_execHalfTime s).mono rfl rfl
  | deviceWatchdogReset => exact (keeps_execDeviceWatchdogReset s).mono rfl rfl
  | modeGo v => exact (keeps_execModeGo v s).mono rfl rfl
  | prepareAck u => exact (keeps_execPrepareAck u s).mono rfl rfl
  | unitRefuse u => exact (keeps_execUnitRefuse u s).mono rfl rfl
  | modeTimeout => exact (keeps_execModeTimeout s).mono rfl rfl
  | commit edge => exact (keeps_execCommit edge s).mono rfl rfl
  | rampComplete d => exact (keeps_execRampComplete d s).mono rfl rfl
  | rollbackComplete => exact (keeps_execRollbackComplete s).mono rfl rfl
  | rollbackTimeout stuck => exact (keeps_execRollbackTimeout stuck s).mono rfl rfl
  | unitrst v => exact (keeps_execUnitrst v s).mono rfl rfl
  | sherexDeviceReset v => exact (keeps_execSherexDeviceReset v s).mono rfl rfl
  | trstGo v => exact (keeps_execTrstGo v s).mono rfl rfl
  | tenantResetComplete => exact (keeps_execTenantResetComplete s).mono rfl rfl
  | supplyLoss sup => exact (keeps_execSupplyLoss sup s).mono rfl rfl
  | supplyReturn sup => exact (keeps_execSupplyReturn sup s).mono rfl rfl
  | maintenanceRequest v => exact (keeps_execMaintenanceRequest v s).mono rfl rfl
  | pwrMntDone v => exact (keeps_execPwrMntDone v s).mono rfl rfl
  | pinRegisterWrite src ix v => exact (keeps_execPinRegisterWrite src ix v s).mono rfl rfl
  | functionSwitch src m v => exact (keeps_execFunctionSwitch src m v s).mono rfl rfl
  | gapEnd ix => exact (keeps_execGapEnd ix s).mono rfl rfl
  | eventLineWrite src n v => exact (keeps_execEventLineWrite src n v s).mono rfl rfl
  | pinEvent n level => exact (keeps_execPinEvent n level s).mono rfl rfl
  | i2cGo src b v => exact (keeps_execI2cGo src b v s).mono rfl rfl
  | i2cDone b e => exact (keeps_execI2cDone b e s).mono rfl rfl
  | smbusTimeout b => exact (keeps_execSmbusTimeout b s).mono rfl rfl
  | uartDataWrite src u v => exact (keeps_execUartDataWrite src u v s).mono rfl rfl
  | uartDataRead u => exact (keeps_execUartDataRead u s).mono rfl rfl
  | uartReceive u b stop => exact (keeps_execUartReceive u b stop s).mono rfl rfl
  | spiExchange src bus v => exact (keeps_execSpiExchange src bus v s).mono rfl rfl
  | spiDone bus b => exact (keeps_execSpiDone bus b s).mono rfl rfl
  | tachEdge f => exact (keeps_execTachEdge f s).mono rfl rfl
  | keyholeLow w => exact (keeps_execKeyholeLow w s).mono rfl rfl
  | keyholeReset => exact (keeps_execKeyholeReset s).mono rfl rfl
  | sessionEntry => exact (keeps_execSessionEntry s).mono rfl rfl
  | frameGapTimeout => exact (keeps_execFrameGapTimeout s).mono rfl rfl
  | keyholeNop => exact (keeps_execKeyholeNop s).mono rfl rfl
  | khRead => exact (keeps_execKhRead s).mono rfl rfl
  | khWrite => exact (keeps_execKhWrite s).mono rfl rfl
  | daRead => exact (keeps_execDaRead s).mono rfl rfl
  | daWrite => exact (keeps_execDaWrite s).mono rfl rfl
  | kspRead flips => exact (keeps_execKspRead flips s).mono rfl rfl
  | kspWrite => exact (keeps_execKspWrite s).mono rfl rfl
  | exit => exact (keeps_execExit s).mono rfl rfl
  | auth v => exact (keeps_execAuth v s).mono rfl rfl
  | coreHalt c pc => exact (keeps_execCoreHalt c pc s).mono rfl rfl
  | coreStep c pc rd => exact (keeps_execCoreStep c pc rd s).mono rfl rfl
  | coreResume c => exact (keeps_execCoreResume c s).mono rfl rfl
  | ebreakHalt c pc => exact (keeps_execEbreakHalt c pc s).mono rfl rfl
  | cregRead sel => exact (keeps_execCregRead sel s).mono rfl rfl
  | cregWrite sel v => exact (keeps_execCregWrite sel v s).mono rfl rfl
  | engineHalt e => exact (keeps_execEngineHalt e s).mono rfl rfl
  | engineStep e => exact (keeps_execEngineStep e s).mono rfl rfl
  | engineResume e => exact (keeps_execEngineResume e s).mono rfl rfl
  | tregRead sel => exact (keeps_execTregRead sel s).mono rfl rfl
  | tregWrite sel v => exact (keeps_execTregWrite sel v s).mono rfl rfl
  | vtTxWrite v => exact (keeps_execVtTxWrite v s).mono rfl rfl
  | vtTxRead => exact (keeps_execVtTxRead s).mono rfl rfl
  | vtRxWrite v => exact (keeps_execVtRxWrite v s).mono rfl rfl
  | vtRxRead => exact (keeps_execVtRxRead s).mono rfl rfl
  | khImgData v => exact (keeps_execKhImgData v s).mono rfl rfl
  | keyholeRelease => exact (keeps_execKeyholeRelease s).mono rfl rfl
  | fabricClockEdge x line pins => exact (keeps_execFabricClockEdge x line pins s).mono rfl rfl
  | laneStageReached lane stage polInv rx => exact (keeps_execLaneStageReached lane stage polInv rx s).mono rfl rfl
  | receiverError lane => exact (keeps_execReceiverError lane s).mono rfl rfl
  | fecCorrection n => exact (keeps_execFecCorrection n s).mono rfl rfl
  | linkReplay n => exact (keeps_execLinkReplay n s).mono rfl rfl
  | errorRateWindow n => exact (keeps_execErrorRateWindow n s).mono rfl rfl
  | replayWindowBoundary => exact (keeps_execReplayWindowBoundary s).mono rfl rfl
  | checkerLock lane => exact (keeps_execCheckerLock lane s).mono rfl rfl
  | loopbackMismatch lane => exact (keeps_execLoopbackMismatch lane s).mono rfl rfl
  | farEndLoopbackExit n => exact (keeps_execFarEndLoopbackExit n s).mono rfl rfl
  | openRowTimeout n bank => exact (keeps_execOpenRowTimeout n bank s).mono rfl rfl
  | wfi c => exact (keeps_execWfi c s).mono rfl rfl
  | msixEnable n on => exact (keeps_execMsixEnable n on s).mono rfl rfl
  | extentReleaseResponse n ext => exact (keeps_execExtentReleaseResponse n ext s).mono rfl rfl
  | extentReleaseWaitExpiry ext => exact (keeps_execExtentReleaseWaitExpiry ext s).mono rfl rfl
  | loopbackTimeExpiry n => exact (keeps_execLoopbackTimeExpiry n s).mono rfl rfl
  | authHoldExpiry n m => exact (keeps_execAuthHoldExpiry n m s).mono rfl rfl
  | uartTransmit u => exact (keeps_execUartTransmit u s).mono rfl rfl
  | tachTimeout f => exact (keeps_execTachTimeout f s).mono rfl rfl
  | targetSlot => exact (keeps_execTargetSlot s).mono rfl rfl

end Sys2Proof.Machine
end

