-- ==== Sys2Proof/Laws/State.lean ====
section
/-! SUPPORT. One lemma per field of the state and update of a register, and the register reads over an update of any other field, so that no
proof unfolds a record update. -/

namespace Sys2Proof.Machine
open Sys2Proof

/-! ### The registers over an update of another part -/

section
variable (t : State) (p : List Instr) (x0 x1 : Nat) (x2 : Word) (x3 : List OutMsg) (x4 : ClkState) (x5 : EvcState) (x6 : KnkNet)
  (x7 : NetState) (x8 : FabState) (x9 : CfgState) (x10 : MemState) (x11 : TmbState) (x12 : LnkState) (x13 : CohState)
  (x14 : DdrState) (x15 : KpState) (x16 : ShxState) (x17 : MntState) (x18 : PwrState) (x19 : PinState) (x20 : KhState)

@[simp] theorem reg_upd (r : RegName) (i : Nat) :
    State.reg ⟨p, t.regs, x0, x1, x2, x3, x4, x5, x6, x7, x8, x9, x10, x11, x12, x13, x14, x15, x16, x17, x18, x19, x20⟩ r i = t.reg r i := rfl

@[simp] theorem rd_upd (f : Fld) (i : Nat) :
    State.rd ⟨p, t.regs, x0, x1, x2, x3, x4, x5, x6, x7, x8, x9, x10, x11, x12, x13, x14, x15, x16, x17, x18, x19, x20⟩ f i = t.rd f i := rfl

@[simp] theorem flag_upd (f : Fld) (i : Nat) :
    State.flag ⟨p, t.regs, x0, x1, x2, x3, x4, x5, x6, x7, x8, x9, x10, x11, x12, x13, x14, x15, x16, x17, x18, x19, x20⟩ f i = t.flag f i := rfl

end

/-! ### The other parts over a write of a register -/

section
variable (s : State) (r : RegName) (i : Nat) (v : Word)

@[simp] theorem setReg_pending : (s.setReg r i v).pending = s.pending := rfl
@[simp] theorem setReg_freeCtr : (s.setReg r i v).freeCtr = s.freeCtr := rfl
@[simp] theorem setReg_memGen : (s.setReg r i v).memGen = s.memGen := rfl
@[simp] theorem setReg_rdata : (s.setReg r i v).rdata = s.rdata := rfl
@[simp] theorem setReg_out : (s.setReg r i v).out = s.out := rfl
@[simp] theorem setReg_clk : (s.setReg r i v).clk = s.clk := rfl
@[simp] theorem setReg_evc : (s.setReg r i v).evc = s.evc := rfl
@[simp] theorem setReg_knk : (s.setReg r i v).knk = s.knk := rfl
@[simp] theorem setReg_net : (s.setReg r i v).net = s.net := rfl
@[simp] theorem setReg_fab : (s.setReg r i v).fab = s.fab := rfl
@[simp] theorem setReg_cfg : (s.setReg r i v).cfg = s.cfg := rfl
@[simp] theorem setReg_mem : (s.setReg r i v).mem = s.mem := rfl
@[simp] theorem setReg_tmb : (s.setReg r i v).tmb = s.tmb := rfl
@[simp] theorem setReg_lnk : (s.setReg r i v).lnk = s.lnk := rfl
@[simp] theorem setReg_coh : (s.setReg r i v).coh = s.coh := rfl
@[simp] theorem setReg_ddr : (s.setReg r i v).ddr = s.ddr := rfl
@[simp] theorem setReg_kp : (s.setReg r i v).kp = s.kp := rfl
@[simp] theorem setReg_shx : (s.setReg r i v).shx = s.shx := rfl
@[simp] theorem setReg_mnt : (s.setReg r i v).mnt = s.mnt := rfl
@[simp] theorem setReg_pwr : (s.setReg r i v).pwr = s.pwr := rfl
@[simp] theorem setReg_pin : (s.setReg r i v).pin = s.pin := rfl
@[simp] theorem setReg_kh : (s.setReg r i v).kh = s.kh := rfl

end

section
variable (s : State) (f : Fld) (i v : Nat)

@[simp] theorem wr_pending : (s.wr f i v).pending = s.pending := rfl
@[simp] theorem wr_freeCtr : (s.wr f i v).freeCtr = s.freeCtr := rfl
@[simp] theorem wr_memGen : (s.wr f i v).memGen = s.memGen := rfl
@[simp] theorem wr_rdata : (s.wr f i v).rdata = s.rdata := rfl
@[simp] theorem wr_out : (s.wr f i v).out = s.out := rfl
@[simp] theorem wr_clk : (s.wr f i v).clk = s.clk := rfl
@[simp] theorem wr_evc : (s.wr f i v).evc = s.evc := rfl
@[simp] theorem wr_knk : (s.wr f i v).knk = s.knk := rfl
@[simp] theorem wr_net : (s.wr f i v).net = s.net := rfl
@[simp] theorem wr_fab : (s.wr f i v).fab = s.fab := rfl
@[simp] theorem wr_cfg : (s.wr f i v).cfg = s.cfg := rfl
@[simp] theorem wr_mem : (s.wr f i v).mem = s.mem := rfl
@[simp] theorem wr_tmb : (s.wr f i v).tmb = s.tmb := rfl
@[simp] theorem wr_lnk : (s.wr f i v).lnk = s.lnk := rfl
@[simp] theorem wr_coh : (s.wr f i v).coh = s.coh := rfl
@[simp] theorem wr_ddr : (s.wr f i v).ddr = s.ddr := rfl
@[simp] theorem wr_kp : (s.wr f i v).kp = s.kp := rfl
@[simp] theorem wr_shx : (s.wr f i v).shx = s.shx := rfl
@[simp] theorem wr_mnt : (s.wr f i v).mnt = s.mnt := rfl
@[simp] theorem wr_pwr : (s.wr f i v).pwr = s.pwr := rfl
@[simp] theorem wr_pin : (s.wr f i v).pin = s.pin := rfl
@[simp] theorem wr_kh : (s.wr f i v).kh = s.kh := rfl

end

section
variable (s : State) (f : Fld) (i : Nat)

@[simp] theorem on_pending : (s.on f i).pending = s.pending := rfl
@[simp] theorem on_freeCtr : (s.on f i).freeCtr = s.freeCtr := rfl
@[simp] theorem on_memGen : (s.on f i).memGen = s.memGen := rfl
@[simp] theorem on_rdata : (s.on f i).rdata = s.rdata := rfl
@[simp] theorem on_out : (s.on f i).out = s.out := rfl
@[simp] theorem on_clk : (s.on f i).clk = s.clk := rfl
@[simp] theorem on_evc : (s.on f i).evc = s.evc := rfl
@[simp] theorem on_knk : (s.on f i).knk = s.knk := rfl
@[simp] theorem on_net : (s.on f i).net = s.net := rfl
@[simp] theorem on_fab : (s.on f i).fab = s.fab := rfl
@[simp] theorem on_cfg : (s.on f i).cfg = s.cfg := rfl
@[simp] theorem on_mem : (s.on f i).mem = s.mem := rfl
@[simp] theorem on_tmb : (s.on f i).tmb = s.tmb := rfl
@[simp] theorem on_lnk : (s.on f i).lnk = s.lnk := rfl
@[simp] theorem on_coh : (s.on f i).coh = s.coh := rfl
@[simp] theorem on_ddr : (s.on f i).ddr = s.ddr := rfl
@[simp] theorem on_kp : (s.on f i).kp = s.kp := rfl
@[simp] theorem on_shx : (s.on f i).shx = s.shx := rfl
@[simp] theorem on_mnt : (s.on f i).mnt = s.mnt := rfl
@[simp] theorem on_pwr : (s.on f i).pwr = s.pwr := rfl
@[simp] theorem on_pin : (s.on f i).pin = s.pin := rfl
@[simp] theorem on_kh : (s.on f i).kh = s.kh := rfl

end

section
variable (s : State) (f : Fld) (i : Nat)

@[simp] theorem off_pending : (s.off f i).pending = s.pending := rfl
@[simp] theorem off_freeCtr : (s.off f i).freeCtr = s.freeCtr := rfl
@[simp] theorem off_memGen : (s.off f i).memGen = s.memGen := rfl
@[simp] theorem off_rdata : (s.off f i).rdata = s.rdata := rfl
@[simp] theorem off_out : (s.off f i).out = s.out := rfl
@[simp] theorem off_clk : (s.off f i).clk = s.clk := rfl
@[simp] theorem off_evc : (s.off f i).evc = s.evc := rfl
@[simp] theorem off_knk : (s.off f i).knk = s.knk := rfl
@[simp] theorem off_net : (s.off f i).net = s.net := rfl
@[simp] theorem off_fab : (s.off f i).fab = s.fab := rfl
@[simp] theorem off_cfg : (s.off f i).cfg = s.cfg := rfl
@[simp] theorem off_mem : (s.off f i).mem = s.mem := rfl
@[simp] theorem off_tmb : (s.off f i).tmb = s.tmb := rfl
@[simp] theorem off_lnk : (s.off f i).lnk = s.lnk := rfl
@[simp] theorem off_coh : (s.off f i).coh = s.coh := rfl
@[simp] theorem off_ddr : (s.off f i).ddr = s.ddr := rfl
@[simp] theorem off_kp : (s.off f i).kp = s.kp := rfl
@[simp] theorem off_shx : (s.off f i).shx = s.shx := rfl
@[simp] theorem off_mnt : (s.off f i).mnt = s.mnt := rfl
@[simp] theorem off_pwr : (s.off f i).pwr = s.pwr := rfl
@[simp] theorem off_pin : (s.off f i).pin = s.pin := rfl
@[simp] theorem off_kh : (s.off f i).kh = s.kh := rfl

end

section
variable (s : State) (f : Fld) (i k : Nat) (b : Bool)

@[simp] theorem wrBit_pending : (s.wrBit f i k b).pending = s.pending := rfl
@[simp] theorem wrBit_freeCtr : (s.wrBit f i k b).freeCtr = s.freeCtr := rfl
@[simp] theorem wrBit_memGen : (s.wrBit f i k b).memGen = s.memGen := rfl
@[simp] theorem wrBit_rdata : (s.wrBit f i k b).rdata = s.rdata := rfl
@[simp] theorem wrBit_out : (s.wrBit f i k b).out = s.out := rfl
@[simp] theorem wrBit_clk : (s.wrBit f i k b).clk = s.clk := rfl
@[simp] theorem wrBit_evc : (s.wrBit f i k b).evc = s.evc := rfl
@[simp] theorem wrBit_knk : (s.wrBit f i k b).knk = s.knk := rfl
@[simp] theorem wrBit_net : (s.wrBit f i k b).net = s.net := rfl
@[simp] theorem wrBit_fab : (s.wrBit f i k b).fab = s.fab := rfl
@[simp] theorem wrBit_cfg : (s.wrBit f i k b).cfg = s.cfg := rfl
@[simp] theorem wrBit_mem : (s.wrBit f i k b).mem = s.mem := rfl
@[simp] theorem wrBit_tmb : (s.wrBit f i k b).tmb = s.tmb := rfl
@[simp] theorem wrBit_lnk : (s.wrBit f i k b).lnk = s.lnk := rfl
@[simp] theorem wrBit_coh : (s.wrBit f i k b).coh = s.coh := rfl
@[simp] theorem wrBit_ddr : (s.wrBit f i k b).ddr = s.ddr := rfl
@[simp] theorem wrBit_kp : (s.wrBit f i k b).kp = s.kp := rfl
@[simp] theorem wrBit_shx : (s.wrBit f i k b).shx = s.shx := rfl
@[simp] theorem wrBit_mnt : (s.wrBit f i k b).mnt = s.mnt := rfl
@[simp] theorem wrBit_pwr : (s.wrBit f i k b).pwr = s.pwr := rfl
@[simp] theorem wrBit_pin : (s.wrBit f i k b).pin = s.pin := rfl
@[simp] theorem wrBit_kh : (s.wrBit f i k b).kh = s.kh := rfl

end

section
variable (s : State) (f : Fld) (i n : Nat)

@[simp] theorem satAdd_pending : (s.satAdd f i n).pending = s.pending := rfl
@[simp] theorem satAdd_freeCtr : (s.satAdd f i n).freeCtr = s.freeCtr := rfl
@[simp] theorem satAdd_memGen : (s.satAdd f i n).memGen = s.memGen := rfl
@[simp] theorem satAdd_rdata : (s.satAdd f i n).rdata = s.rdata := rfl
@[simp] theorem satAdd_out : (s.satAdd f i n).out = s.out := rfl
@[simp] theorem satAdd_clk : (s.satAdd f i n).clk = s.clk := rfl
@[simp] theorem satAdd_evc : (s.satAdd f i n).evc = s.evc := rfl
@[simp] theorem satAdd_knk : (s.satAdd f i n).knk = s.knk := rfl
@[simp] theorem satAdd_net : (s.satAdd f i n).net = s.net := rfl
@[simp] theorem satAdd_fab : (s.satAdd f i n).fab = s.fab := rfl
@[simp] theorem satAdd_cfg : (s.satAdd f i n).cfg = s.cfg := rfl
@[simp] theorem satAdd_mem : (s.satAdd f i n).mem = s.mem := rfl
@[simp] theorem satAdd_tmb : (s.satAdd f i n).tmb = s.tmb := rfl
@[simp] theorem satAdd_lnk : (s.satAdd f i n).lnk = s.lnk := rfl
@[simp] theorem satAdd_coh : (s.satAdd f i n).coh = s.coh := rfl
@[simp] theorem satAdd_ddr : (s.satAdd f i n).ddr = s.ddr := rfl
@[simp] theorem satAdd_kp : (s.satAdd f i n).kp = s.kp := rfl
@[simp] theorem satAdd_shx : (s.satAdd f i n).shx = s.shx := rfl
@[simp] theorem satAdd_mnt : (s.satAdd f i n).mnt = s.mnt := rfl
@[simp] theorem satAdd_pwr : (s.satAdd f i n).pwr = s.pwr := rfl
@[simp] theorem satAdd_pin : (s.satAdd f i n).pin = s.pin := rfl
@[simp] theorem satAdd_kh : (s.satAdd f i n).kh = s.kh := rfl

end

section
variable (s : State) (f : Fld) (i : Nat)

@[simp] theorem wrapInc_pending : (s.wrapInc f i).pending = s.pending := rfl
@[simp] theorem wrapInc_freeCtr : (s.wrapInc f i).freeCtr = s.freeCtr := rfl
@[simp] theorem wrapInc_memGen : (s.wrapInc f i).memGen = s.memGen := rfl
@[simp] theorem wrapInc_rdata : (s.wrapInc f i).rdata = s.rdata := rfl
@[simp] theorem wrapInc_out : (s.wrapInc f i).out = s.out := rfl
@[simp] theorem wrapInc_clk : (s.wrapInc f i).clk = s.clk := rfl
@[simp] theorem wrapInc_evc : (s.wrapInc f i).evc = s.evc := rfl
@[simp] theorem wrapInc_knk : (s.wrapInc f i).knk = s.knk := rfl
@[simp] theorem wrapInc_net : (s.wrapInc f i).net = s.net := rfl
@[simp] theorem wrapInc_fab : (s.wrapInc f i).fab = s.fab := rfl
@[simp] theorem wrapInc_cfg : (s.wrapInc f i).cfg = s.cfg := rfl
@[simp] theorem wrapInc_mem : (s.wrapInc f i).mem = s.mem := rfl
@[simp] theorem wrapInc_tmb : (s.wrapInc f i).tmb = s.tmb := rfl
@[simp] theorem wrapInc_lnk : (s.wrapInc f i).lnk = s.lnk := rfl
@[simp] theorem wrapInc_coh : (s.wrapInc f i).coh = s.coh := rfl
@[simp] theorem wrapInc_ddr : (s.wrapInc f i).ddr = s.ddr := rfl
@[simp] theorem wrapInc_kp : (s.wrapInc f i).kp = s.kp := rfl
@[simp] theorem wrapInc_shx : (s.wrapInc f i).shx = s.shx := rfl
@[simp] theorem wrapInc_mnt : (s.wrapInc f i).mnt = s.mnt := rfl
@[simp] theorem wrapInc_pwr : (s.wrapInc f i).pwr = s.pwr := rfl
@[simp] theorem wrapInc_pin : (s.wrapInc f i).pin = s.pin := rfl
@[simp] theorem wrapInc_kh : (s.wrapInc f i).kh = s.kh := rfl

end

end Sys2Proof.Machine
end

