-- ==== Sys2Proof/WellFormed.lean ====
section
/-! DEFINITION. When a command names something that exists: the bounds of the operands whose type does not already bound them.  A
command that is not well formed still has a meaning, which mostly leaves the state unchanged. -/

namespace Sys2Proof
open Sys2Proof.Machine

/-- An extent number (R258). -/
def wfExtent (k : Nat) : Bool := decide (k < 24576)

/-- The address of a line below the top of the address space, as its line number. -/
def wfLine (l : Nat) : Bool := decide (l < 2 ^ 42)

/-- A transfer of 1 to 64 bytes inside one line (R81). -/
def wfSpan (a len : Nat) : Bool := decide (1 ≤ len) && decide (a % 64 + len ≤ 64)

/-- Positions inside a codeword of n positions. -/
def wfFlips (n : Nat) (l : List Nat) : Bool := l.all (fun k => decide (k < n))

/-- An upset of a DRAM line's 640 stored bits. -/
def wfUpset (u : Upset) : Bool := wfFlips 640 u.bits

/-- Where a request comes from names a span that exists. -/
def wfFrom : NetFrom → Bool
  | .flit _ _ => true
  | .core _ da len _ => wfSpan da.toNat len
  | .dma _ da len _ => wfSpan da.toNat len

/-- A width a link can have (R228). -/
def wfWidth (n : Nat) : Bool := n == 1 || n == 2 || n == 4 || n == 8 || n == 16

/-- An edge's extras name clusters, block RAMs and codeword positions that exist in a sector (R116). -/
def wfEdge (p : EdgePins) : Bool :=
  p.late.all (fun e => decide (e.1 < 2048)) && p.close.all (fun e => decide (e.1 < 16)) &&
    p.flips.all (fun e => decide (e.1 < 16) && wfFlips (kindLen .bram) e.2.2)

/-- The command names only things that exist. -/
def Instr.wf : Instr → Bool
  | .registerWrite _ r i _ => decide (i < regCopies r)
  | .clearingRead r i _ => decide (i < regCopies r)
  | .koscFault counts => counts.length == 16
  | .restoreComplete _ passing => passing.all (fun p => decide (p < 18))
  | .sensorSample temps => temps.length == 16
  | .schedulerServe _ _ u => wfUpset u
  | .demandScrub _ _ u => wfUpset u
  | .patrolRead _ u => wfUpset u
  | .generatorReadCompare _ _ ups => ups.all wfUpset
  | .generatorSaveWriteCompare _ _ ups => ups.all wfUpset
  | .cxlMemWrite _ _ dpa len _ _ => wfSpan dpa len
  | .windowWrite _ _ dpa len _ => wfSpan dpa len
  | .drainComplete ext => wfExtent ext
  | .extentClearingComplete ext => wfExtent ext
  | .backgroundCheck _ ext _ => wfExtent ext
  | .replicaReload _ ext => wfExtent ext
  | .extentOfferResponse _ ext _ => wfExtent ext
  | .extentOfferTimeout ext => wfExtent ext
  | .extentReleaseResponse _ ext => wfExtent ext
  | .extentReleaseWaitExpiry ext => wfExtent ext
  | .snpInv _ line => wfLine line
  | .snpData _ line => wfLine line
  | .rspI _ line => wfLine line
  | .rspS _ line => wfLine line
  | .rspIData _ line _ => wfLine line
  | .rspSData _ line _ => wfLine line
  | .snoopTimeout _ line => wfLine line
  | .hostFill _ line _ _ _ _ => wfLine line
  | .hostSnoop _ line _ _ => wfLine line
  | .attemptSuccess _ f => wfWidth f.width
  | .checkerSelfTestDone kind i _ _ => decide (i < kindCount kind)
  | .scrubSlot kind i _ flips => decide (i < kindCount kind) && wfFlips (kindLen kind) flips
  | .forcedScrubSlot kind i _ flips => decide (i < kindCount kind) && wfFlips (kindLen kind) flips
  | .compareAndWrite kind i _ flips => decide (i < kindCount kind) && wfFlips (kindLen kind) flips
  | .fixGo _ f => decide (f < 409600)
  | .giveup _ f => decide (f < 409600)
  | .uncorrectableFetch _ flips => wfFlips 137 flips
  | .kspRead flips => wfFlips 72 flips
  | .read f _ u _ _ => wfFrom f && wfUpset u
  | .write f _ u _ _ => wfFrom f && wfUpset u
  | .fabricClockEdge _ _ p => wfEdge p
  | .regRead f _ => wfFrom f
  | .regWrite f _ => wfFrom f
  | _ => true

end Sys2Proof
end

