-- ==== Sys2Proof/Tests/Slice0.lean ====
section
/-! SUPPORT. Tests: the checks of the well-formedness predicate on ill-formed commands, results that the specification works out itself, and for
every statement a witness that meets the hypotheses of each of its clauses. -/

open Sys2Proof
open Sys2Proof.Machine

namespace Sys2Proof.Tests

section

set_option Elab.async false
set_option linter.unusedVariables false

/-! ### The word of a command: no row of the table gives bits -/

theorem test_no_row_has_bits : decodeTableWord 32 0 = none ∧ State.reset.withFetchWord 32 7 = State.reset := by decide +kernel

/-! ### Commands that name something that does not exist -/

theorem test_wf_copies : (Instr.registerWrite (.keeper 0) .LNK_HSTAT 16 0).wf = false ∧ (Instr.clearingRead .LNK_HSTAT 16 0).wf = false ∧
    (Instr.registerWrite (.keeper 0) .LNK_HSTAT 15 0).wf = true := by decide +kernel

theorem test_wf_counts : (Instr.koscFault [1, 2]).wf = false ∧ (Instr.sensorSample [1, 2]).wf = false := by decide +kernel

theorem test_wf_landing : (Instr.restoreComplete 0 [18]).wf = false ∧ (Instr.restoreComplete 0 [17]).wf = true := by decide +kernel

theorem test_wf_upset : (Instr.schedulerServe 0 0 ⟨[640], []⟩).wf = false ∧ (Instr.demandScrub 0 0 ⟨[640], []⟩).wf = false ∧
    (Instr.patrolRead 0 ⟨[640], []⟩).wf = false ∧ (Instr.generatorReadCompare 0 0 [⟨[640], []⟩]).wf = false ∧
    (Instr.generatorSaveWriteCompare 0 0 [⟨[640], []⟩]).wf = false ∧ (Instr.patrolRead 0 ⟨[639], []⟩).wf = true := by decide +kernel

theorem test_wf_span : (Instr.cxlMemWrite 0 ⟨0, 0⟩ 63 2 0 .none).wf = false ∧ (Instr.windowWrite 0 ⟨0, 0⟩ 0 0 0).wf = false ∧
    (Instr.windowWrite 0 ⟨0, 0⟩ 63 1 0).wf = true := by decide +kernel

theorem test_wf_extent : (Instr.drainComplete 24576).wf = false ∧ (Instr.extentClearingComplete 24576).wf = false ∧
    (Instr.backgroundCheck none 24576 true).wf = false ∧ (Instr.replicaReload 0 24576).wf = false ∧
    (Instr.extentOfferResponse 0 24576 true).wf = false ∧ (Instr.extentOfferTimeout 24576).wf = false ∧
    (Instr.extentReleaseResponse 0 24576).wf = false ∧ (Instr.extentReleaseWaitExpiry 24576).wf = false ∧
    (Instr.drainComplete 24575).wf = true := by decide +kernel

theorem test_wf_line : (Instr.snpInv 0 (2 ^ 42)).wf = false ∧ (Instr.snpData 0 (2 ^ 42)).wf = false ∧ (Instr.rspI 0 (2 ^ 42)).wf = false ∧
    (Instr.rspS 0 (2 ^ 42)).wf = false ∧ (Instr.rspIData 0 (2 ^ 42) 0).wf = false ∧ (Instr.rspSData 0 (2 ^ 42) 0).wf = false ∧
    (Instr.snoopTimeout 0 (2 ^ 42)).wf = false ∧ (Instr.hostFill 0 (2 ^ 42) true false 0 Upset.none).wf = false ∧
    (Instr.hostSnoop 0 (2 ^ 42) true Upset.none).wf = false ∧ (Instr.snpInv 0 (2 ^ 42 - 1)).wf = true := by decide +kernel

theorem test_wf_width : (Instr.attemptSuccess 0 ⟨0, 3, false, false, false, false, none⟩).wf = false ∧
    (Instr.attemptSuccess 0 ⟨0, 16, false, false, false, false, none⟩).wf = true := by decide +kernel

theorem test_wf_memory : (Instr.checkerSelfTestDone .vault 640 true 0).wf = false ∧ (Instr.scrubSlot .vault 0 0 [137]).wf = false ∧
    (Instr.forcedScrubSlot .vault 640 0 []).wf = false ∧ (Instr.compareAndWrite .bram 0 0 [72]).wf = false ∧
    (Instr.uncorrectableFetch 0 [137]).wf = false ∧ (Instr.scrubSlot .vault 639 0 [136]).wf = true := by decide +kernel

theorem test_wf_frame : (Instr.fixGo 0 409600).wf = false ∧ (Instr.giveup 0 409600).wf = false ∧ (Instr.fixGo 0 409599).wf = true := by
  decide +kernel

theorem test_wf_from : (Instr.read (.core 0 63 2 0) [] Upset.none 0 none).wf = false ∧
    (Instr.write (.dma 0 0 65 0) [] Upset.none 0 none).wf = false ∧ (Instr.regRead (.core 0 0 0 0) none).wf = false ∧
    (Instr.regWrite (.dma 0 63 2 0) none).wf = false ∧ (Instr.regRead (.core 0 4 4 0) none).wf = true := by decide +kernel

/-! ### Results the specification works out -/

/-- R65: the increment of the counter at MULT = 64 (6.4 GHz): 640 / 128 = 5. -/
theorem test_dtc_increment : dtcIncFor 64 = 0x500000000 := by decide

/-- R24: vault 218 is vault 0 of sector 109, at 0x0800_01B4_0000; the next vault follows 0x2_0000 later; engine 300 at 0x0801_0258_0000. -/
theorem test_vault_address : decodeDa State.reset 0x080001B40000 = .vault 218 0 ∧ decodeDa State.reset 0x080001B60010 = .vault 219 0x10 ∧
    decodeDa State.reset 0x080102590000 = .engine 300 0x10000 := by decide +kernel

/-- The worked example of the stuck bit: data bit 75 of the 137-bit code stands at codeword position 83. -/
theorem test_stuck_bit : (dataPos 137)[75]? = some 83 ∧ (dataPos 137)[57]? = some 65 ∧
    classifyWord 137 (flipPos (encodeWord 137 0) 83) = .corrected 83 := by decide +kernel

/-- R142: a word whose only data bit set is bit 0, at position 3, has check bits 1 and 2 set, and the parity bit at position 0. -/
theorem test_check_bits : encodeWord 72 1 = 15 := by decide +kernel

/-- The worked example of a bit-reversed sweep: N = 8 and E = 8 visit offsets 0, 32, 16, 48, 8, 40, 24 and 56. -/
theorem test_bit_reversed_sweep :
    (List.range 8).map (fun k => (Nat.repeat (fun p => { p with pa := postModify p }) k (⟨0, 32, 0, 64, 2⟩ : PtrRec)).pa) =
      [0, 32, 16, 48, 8, 40, 24, 56] := by decide +kernel

/-- R475: the CRC-8 of the single bit 1 is the polynomial 0x07. -/
theorem test_crc8 : crc8 [true] = 0x07 := by decide

/-- The worked example of the interleave: a sealed state of two sets of three channels. -/
def ilvState : State :=
  let s := (List.range 6).foldl (fun t n =>
    (((((((t.wr F.DDR_ILV.WAYS n 2).wr F.DDR_ILV.POS n (n % 3)).wr F.DDR_ILV.GRAN n 1).wr F.DDR_CFG.RANKS n 1).wr F.DDR_CFG.DENS n 1).wr
      F.DDR_ILV.SET n (n / 3)).wr F.DDR_ILVBASE.BASE n (n / 3 * 0x5FD)).wr F.DDR_CFG.KIND n 1) State.reset
  { s.on F.DDR_ILV.SEAL 0 with ddr := { s.ddr with members := 0x3F } }

/-- The worked example: DA 0x0063_1567_89C0 decodes to channel 3 and channel address 0x11_7228_9C0. -/
theorem test_interleave : decodeDa ilvState 0x0063156789C0 = .dram 3 0x1172289C0 := by decide +kernel

/-- The worked example: line 0x45C_8A27 of channel 3 under MAP 0. -/
theorem test_line_map : lineLoc ilvState 3 0x45C8A27 = ⟨1, 0, 1, 0, 4466, 40⟩ := by decide +kernel

/-! ### A witness for every statement -/

theorem witness_StartupEventsAndTheMultiplierSetTheRoot :
    (∃ (s : State) (khLow : Bool), (s.clk.step = 0)) ∧
    (∃ (s : State) (xsel : BitVec 1) (xdly : BitVec 2) (bootMode : BitVec 3), (s.clk.step = 1) ∧ (s.clk.koscOn = true) ∧
      (s.clk.strapsLatched = false)) ∧
    (∃ (s : State) (w : RefWindow), (s.clk.step = 2)) ∧
    (∃ (s : State), (s.clk.step = 3) ∧ (s.rd F.CLK_STRAP.REFKIND 0 ≠ 0)) ∧
    (∃ (s : State), (s.clk.step = 4)) ∧
    (∃ (s : State), (s.clk.step ≠ 4) ∧ (s.flag F.CLK_ROOT_STAT.RELOCK 0 = true)) ∧
    (∃ (s : State), (s.clk.step = 5)) ∧
    (∃ (s : State) (v : Word), (isMultWrite s v = true) ∧ (onRoot s = false) ∧ (s.flag F.CLK_ROOT_CFG.SEALED 0 = false)) ∧
    (∃ (s : State) (v : Word), (isMultWrite s v = true) ∧ ((onRoot s = true ∨ s.flag F.CLK_ROOT_CFG.SEALED 0 = true))) ∧
    (∃ (s : State), (s.flag F.CLK_ROOT_STAT.RELOCK 0 = true)) :=
  ⟨⟨{ State.reset with clk := { State.reset.clk with step := 0 } }, true, by decide +kernel⟩,
    ⟨{ State.reset with clk := { State.reset.clk with step := 1, koscOn := true, strapsLatched := false } }, 1, 2, 6, by decide +kernel⟩,
    ⟨{ State.reset with clk := { State.reset.clk with step := 2 }}, ⟨26, 3200⟩, by decide +kernel⟩,
    ⟨({ State.reset with clk := { State.reset.clk with step := 3 }}.wr F.CLK_STRAP.REFKIND 0 2), by decide +kernel⟩,
    ⟨({ State.reset with clk := { State.reset.clk with step := 4 }}), by decide +kernel⟩,
    ⟨(State.reset.on F.CLK_ROOT_STAT.RELOCK 0), by decide +kernel⟩,
    ⟨{ State.reset with clk := { State.reset.clk with step := 5 } }, by decide +kernel⟩,
    ⟨(((State.reset.off F.CLK_KCK_CTL.SRC 0).off F.CLK_CCK_CTL.SRC 0).wr F.CLK_ROOT_CFG.MULT 0 80 |>.off F.CLK_ROOT_CFG.SEALED 0),
      (BitVec.ofNat 32 70), by decide +kernel⟩,
    ⟨(((State.reset.on F.CLK_KCK_CTL.SRC 0).off F.CLK_CCK_CTL.SRC 0).wr F.CLK_ROOT_CFG.MULT 0 80), (BitVec.ofNat 32 70), by decide +kernel⟩,
    ⟨(State.reset.on F.CLK_ROOT_STAT.RELOCK 0), by decide +kernel⟩⟩

theorem witness_DividersAndSwitchesChangeAsCommitted :
    (∃ (s : State) (d : ClkDiv) (v : Nat) (c : Nat) (n : Nat), (s.clk.committed = [(d, v, c)]) ∧ (v < 2048)) ∧
    (∃ (s : State) (d : SwDomain) (root : Bool), (s.flag (swFields d).2.1 0 = false) ∧ (s.rd (swFields d).1 0 ≠ b2n root)) ∧
    (∃ (s : State) (d : SwDomain) (root : Bool), (s.flag (swFields d).2.1 0 = true)) ∧
    (∃ (s : State), (s.flag F.CLK_SW_STAT.BUSY_KCK 0 = true) ∧ (s.clk.kckHeld = none)) ∧
    (∃ (s : State), (s.flag F.CLK_SW_STAT.BUSY_CCK 0 = true) ∧ (s.clk.cckHeld = none)) ∧
    (∃ (s : State) (d : SwDomain), (s.flag (swFields d).2.1 0 = true)) :=
  ⟨⟨{ State.reset with clk := { State.reset.clk with committed := [(ClkDiv.fck 3, 10, 5)] } }, ClkDiv.fck 3, 10, 5, 0, by decide +kernel⟩,
    ⟨(State.reset.off F.CLK_SW_STAT.BUSY_KCK 0 |>.off F.CLK_KCK_CTL.SRC 0), .kck, true, by decide +kernel⟩,
    ⟨(State.reset.on F.CLK_SW_STAT.BUSY_CCK 0), .cck, true, by decide +kernel⟩,
    ⟨(State.reset.on F.CLK_SW_STAT.BUSY_KCK 0), by decide +kernel⟩,
    ⟨(State.reset.on F.CLK_SW_STAT.BUSY_CCK 0), by decide +kernel⟩,
    ⟨(State.reset.on F.CLK_SW_STAT.BUSY_CCK 0), .cck, by decide +kernel⟩⟩

theorem witness_MonitorWindowsAreCounted :
    (∃ (s : State) (w : RefWindow) (e1 : BitVec 8) (e2 : BitVec 8) (e3 : BitVec 8) (lock : BitVec 4), (7 ≤ s.clk.step) ∧
      (windowInRange w (nominalRef s) = true)) ∧
    (∃ (s : State) (w : RefWindow) (e1 : BitVec 8) (e2 : BitVec 8) (e3 : BitVec 8) (lock : BitVec 4), (7 ≤ s.clk.step) ∧
      (windowInRange w (nominalRef s) = false)) ∧
    (∃ (s : State) (n : Fin 8) (w : RefWindow), (7 ≤ s.clk.step)) ∧
    (∃ (s : State) (n : Fin 8), (sget 0 s.clk.lrefIn n = 16) ∧ (lrefPresent s n = false)) ∧
    (∃ (s : State) (n : Fin 8), (sget 0 s.clk.lrefOut n = 4) ∧ (lrefPresent s n = true)) :=
  ⟨⟨({State.reset with clk := {State.reset.clk with step := 7}}.wr F.CLK_STRAP.REFKIND 0 1), ⟨101,3200⟩, 3, 4, 5, 6, by decide +kernel⟩,
    ⟨({State.reset with clk := {State.reset.clk with step := 7}}.wr F.CLK_STRAP.REFKIND 0 1 |>.wr F.CLK_MON_STAT.RUN 0 7), ⟨141,3200⟩, 3, 4, 5, 6,
      by decide +kernel⟩,
    ⟨{State.reset with clk := {State.reset.clk with step := 7}}, 3, ⟨141,3200⟩, by decide +kernel⟩,
    ⟨({State.reset with clk := {State.reset.clk with step := 7, lrefIn := [(2,16)]}}.wr F.CLK_LREF_STAT.PRESENT 0 0), 2, by decide +kernel⟩,
    ⟨({State.reset with clk := {State.reset.clk with step := 7, lrefOut := [(2,4)]}}.wr F.CLK_LREF_STAT.PRESENT 0 15), 2, by decide +kernel⟩⟩

namespace W03
def kk (b : State) (g n : Nat) (r : KnkRec) : State := ({b with knk := {b.knk with carrying := true}}.setKnk g n r).wr F.KRV_KNK_STAT.LFAIL g 4 |>.wr F.KRV_KNK_SPARE.RET0 g 31 |>.wr F.KRV_KNK_SPARE.RET1 g 31
def rq (b : State) (r : Req) : State := { b with net := { b.net with reqs := [r] }, knk := { b.knk with carrying := true } }
def vOn (b : State) (v : Nat) : State := (((b.on (F.PWR_DOM_STAT.ON (sectorDom (v/2) % 32)) (sectorDom (v/2) / 32)).off F.CFG_SECT.INRGN (v/2)).on F.MEM_VAULT.USABLE v)
def r1 : Req := ⟨.read, 5, vaultEp 3, 7, ⟨3,17⟩, 0x080000000000 + 3*0x20000 + 0x20, 16, 0, .none⟩
def r2 : Req := ⟨.read, 5, engineEp 3, 7, ⟨3,17⟩, 0x080100000000 + 3*0x20000 + 0x20, 16, 0, .none⟩
def eOn (b : State) : State := ((((((((b.on (F.PWR_DOM_STAT.ON (engineDom 3 % 32)) (engineDom 3 / 32)).off F.TMB_CFG.VALID 3).off F.TMB_STAT.CLEARING 3).off F.TMB_STAT.TBUSY 3).off F.TMB_STAT.RETIRED 3).on F.MEM_TMB.USABLE 3).off F.TMB_CFG.VALID 3).off F.TMB_STAT.RETIRED 3)
def rsp (b : State) (w : Who) (k : Answer) : State := { b with net := { b.net with resps := [⟨9, 5, 7, ⟨1,2⟩, k, .none⟩], outst := [⟨w, {r1 with dst := 9}, 0, 10^12⟩] } }.off F.KRV_AP.CLOSED 2
end W03

open W03 in
theorem witness_KnuckleChannelsReplayRetireAndRestore :
    (∃ (s : State) (g : Fin 4) (n : Fin 16) (same : Bool), (knkRuns (s.knkAt g n) = true) ∧ ((s.knkAt g n).inRow < 4)) ∧
    (∃ (s : State) (g : Fin 4) (n : Fin 16) (p : Nat), ((s.knkAt g n).st = .replay) ∧ (4 ≤ (s.knkAt g n).inRow) ∧ (physOf s g n = some p) ∧
      (0 < sparesLeft s g)) ∧
    (∃ (s : State) (g : Fin 4) (n : Fin 16), ((s.knkAt g n).st = .replay)) ∧
    (∃ (s : State) (g : Fin 4) (n : Fin 16) (p : Nat), (knkRuns (s.knkAt g n) = true) ∧ (s.knk.carrying = true) ∧ (physOf s g n = some p) ∧
      (0 < sparesLeft s g) ∧ (s.rd F.KRV_KNK_SPARE.RET0 g = 31)) ∧
    (∃ (s : State) (g : Fin 4) (n : Fin 16) (p : Nat), (knkRuns (s.knkAt g n) = true) ∧ (s.knk.carrying = true) ∧
      (s.rd F.KRV_KNK_THR.REPLAY_MAX 0 ≤ (s.knkAt g n).replays) ∧ (physOf s g n = some p) ∧ (0 < sparesLeft s g) ∧ (s.rd F.KRV_KNK_SPARE.RET0 g = 31)) ∧
    (∃ (s : State) (g : Fin 4) (n : Fin 16) (p : Nat), (knkRuns (s.knkAt g n) = true) ∧ (physOf s g n = some p) ∧ (sparesLeft s g = 0)) ∧
    (∃ (s : State), (s.expired s.knk.winStart (1000000 * s.rd F.KRV_KNK_THR.WIN 0) = true)) ∧
    (∃ (s : State) (failing : List KnkChannel), (s.knk.carrying = false)) ∧
    (∃ (s : State) (c : KnkChannel), (s.knk.carrying = false)) ∧
    (∃ (s : State) (g : Fin 4), (s.flag F.KRV_KNK_STAT.BUSY g = true) ∧ (nbit s.knk.restoring.toNat g = false)) ∧
    (∃ (s : State) (g : Fin 4), (s.flag F.KRV_KNK_STAT.BUSY g = false)) ∧
    (∃ (s : State) (g : Fin 4) (passing : List Nat), (nbit s.knk.restoring.toNat g = true)) ∧
    (∃ (s : State) (g : Fin 4) (n : Fin 16) (p : Fin 18), (nbit s.knk.restoring.toNat g = true) ∧ (s.rd F.KRV_KNK_STAT.LFAIL g = 2 ^ n.val) ∧
      (s.rd F.KRV_KNK_SPARE.RET0 g = 31) ∧ (s.rd F.KRV_KNK_SPARE.RET1 g = 31) ∧ (sget 0 s.knk.physFailed g = 2 ^ p.val) ∧
      (s.flag F.KRV_KNK_STAT.BUSY g = true)) :=
  ⟨⟨(State.reset.setKnk 1 3 ⟨.replay, 5, 3⟩), 1, 3, true, by decide +kernel⟩,
    ⟨(kk State.reset 1 3 ⟨.replay, 5, 4⟩), 1, 3, 2, by decide +kernel⟩,
    ⟨(kk State.reset 1 3 ⟨.replay, 5, 4⟩), 1, 3, by decide +kernel⟩,
    ⟨(kk State.reset 1 3 ⟨.replay, 5, 4⟩), 1, 3, 2, by decide +kernel⟩,
    ⟨((kk State.reset 1 3 ⟨.replay, 5, 4⟩).wr F.KRV_KNK_THR.REPLAY_MAX 0 4), 1, 3, 2, by decide +kernel⟩,
    ⟨((kk State.reset 1 3 ⟨.replay, 5, 4⟩).wr F.KRV_KNK_STAT.LFAIL 1 0 |>.wr F.KRV_KNK_SPARE.RET0 1 0 |>.wr F.KRV_KNK_SPARE.RET1 1 17), 1, 3, 4,
      by decide +kernel⟩,
    ⟨({(kk State.reset 1 3 ⟨.replay, 5, 4⟩) with clk := {State.reset.clk with dtc := BitVec.ofNat 96 (2^90)}}), by decide +kernel⟩,
    ⟨({State.reset with knk := {State.reset.knk with carrying := false}}), [⟨1,3⟩,⟨1,5⟩,⟨1,7⟩,⟨2,7⟩], by decide +kernel⟩,
    ⟨({State.reset with knk := {State.reset.knk with carrying := false}}), ⟨1,3⟩, by decide +kernel⟩,
    ⟨(kk State.reset 1 3 ⟨.retiring, 5, 4⟩ |>.on F.KRV_KNK_STAT.BUSY 1), 1, by decide +kernel⟩,
    ⟨(kk State.reset 1 3 ⟨.retiring, 5, 4⟩ |>.off F.KRV_KNK_STAT.BUSY 1), 1, by decide +kernel⟩,
    ⟨({kk State.reset 1 3 ⟨.retiring, 5, 4⟩ with knk := {State.reset.knk with restoring := 6}}.wr F.KRV_KNK_SPARE.RET0 1 4), 1, [3,4,31],
      by decide +kernel⟩,
    ⟨({ State.reset with knk := { State.reset.knk with restoring := 2, physFailed := [(1, 16)] } }.wr F.KRV_KNK_STAT.LFAIL 1 8).on F.KRV_KNK_STAT.BUSY 1,
      1, 3, 4, by decide +kernel⟩⟩

theorem witness_FlitsCarryTheirFieldsAndShowDamage :
    (∃ (h : FlitHead) (p : Line), (h.cls < 4) ∧ (h.op < 8) ∧ (h.dst < 2 ^ 13) ∧ (h.src < 2 ^ 13) ∧ (h.txn < 256) ∧ (h.rqc < 8) ∧ (h.rqid < 32)) ∧
    (∃ (f : Flit) (e : Flit), (flitGood f = true) ∧ (((List.range 576).filter e.getLsbD).length % 2 = 1)) ∧
    (∃ (r : Req), (r.dst < 2 ^ 13) ∧ (r.src < 2 ^ 13) ∧ (r.txn < 256) ∧ (r.tag.cls < 8) ∧ (r.tag.id < 32)) ∧
    (∃ (r : Resp) (da : Nat), (r.dst < 2 ^ 13) ∧ (r.src < 2 ^ 13) ∧ (r.txn < 256) ∧ (r.tag.cls < 8) ∧ (r.tag.id < 32)) ∧
    (∃ (src dst line : Nat), (src < 2 ^ 13) ∧ (dst < 2 ^ 13) ∧ (64 * line < 2 ^ 48)) :=
  ⟨⟨⟨3, 7, 8191, 8190, 255, 7, 31, true⟩, 99, by decide +kernel⟩,
    ⟨mkFlit ⟨0, 1, 5, 9, 7, 3, 17, true⟩ 99, 1 <<< 575, flitGood_mkFlit _ _, by decide +kernel⟩,
    ⟨⟨.write, 8191, 8190, 255, ⟨7, 31⟩, 0x45, 3, 99, .none⟩, by decide +kernel⟩,
    ⟨⟨8191, 8190, 255, ⟨7, 31⟩, .error 5 3, .none⟩, 0x45, by decide +kernel⟩,
    ⟨8191, 0, 2 ^ 42 - 1, by decide +kernel⟩⟩

namespace W03
def u0 : Transit := ⟨.req 736 7, 0, 736, 739, 2, [.enter 736, .link 46 47 0, .exit 760], []⟩
def v0 : Transit := ⟨.req 737 7, 0, 737, 739, 1, [.enter 737, .link 46 47 0, .exit 760], [(.enter 736, 0)]⟩
def tw : State := { State.reset with net := { State.reset.net with way := [u0] }, knk := { State.reset.knk with carrying := true } }
def two : State := { tw with net := { tw.net with way := [u0, v0] } }

theorem tw_at (h : Hop) : tw.net.way.filter (fun u => u.here == some h) = if h = .enter 736 then [u0] else [] := by
  show List.filter (fun u => u.here == some h) [u0] = _
  have e : (u0.here == some h) = decide (h = .enter 736) := by
    rw [Bool.eq_iff_iff]
    simp only [beq_iff_eq, decide_eq_true_eq]
    show some (Hop.enter 736) = some h ↔ _
    exact ⟨fun k => (Option.some.inj k).symm, fun k => by rw [k]⟩
  by_cases hh : h = .enter 736
  · subst hh; rfl
  · simp only [List.filter_cons, e, hh, decide_false, List.filter_nil, if_false, Bool.false_eq_true]

theorem tw_in (h : Hop) : flitsIn tw h ≤ 2 := by
  unfold flitsIn; rw [tw_at]; split <;> decide

theorem tw_cls (h : Hop) (cls : Nat) : flitsAt tw h cls ≤ 2 := by
  have e : tw.net.way.filter (fun u => u.here == some h && u.cls == cls) =
      (tw.net.way.filter (fun u => u.here == some h)).filter (fun u => u.cls == cls) := by
    rw [List.filter_filter]; congr 1; funext u; exact Bool.and_comm _ _
  unfold flitsAt; rw [e, tw_at]
  split
  · show flitCount (List.filter (fun u => u.cls == cls) [u0]) ≤ 2
    rw [List.filter_cons]; split <;> rw [List.filter_nil] <;> decide
  · exact Nat.zero_le 2

/-- A network with one message on its way keeps to its buffers. -/
theorem tw_holds : BuffersHold tw := by
  refine ⟨fun ep => ?_, fun ep c => ?_, fun a b n c => ?_, fun g l c => ?_, fun g l ch c => ⟨?_, ?_⟩, fun ep => ?_, ?_⟩
  · exact le_trans (List.length_filter_le _ _) (by decide)
  · exact le_trans (tw_cls _ _) (by decide)
  · exact le_trans (tw_cls _ _) (by decide)
  · exact le_trans (tw_in _) (by decide)
  · exact le_trans (tw_cls _ _) (by decide)
  · exact le_trans (Nat.add_le_add (tw_cls _ _) (tw_cls _ _)) (by decide)
  · exact le_trans (tw_cls _ _) (by decide)
  · intro u hu k g l c h
    obtain rfl := List.mem_singleton.mp hu
    rcases k with _ | _ | k
    · cases h
    · cases h
    · exact absurd h (by simp [u0])
end W03

theorem witness_MessagesTakeOnePathAndKeepToTheirBuffers :
    (∃ (a : Nat) (b : Nat), (a / 128 = b / 128) ∧ (a % 128 < 80) ∧ (b % 128 < 80)) ∧
    (∃ (a : Nat) (b : Nat), (a % 128 < 80) ∧ (b % 128 < 80)) ∧
    (∃ (a b i : Nat), (b % 128 < 80) ∧ (80 ≤ i) ∧ (i < 94) ∧ (i ≠ 91) ∧ (i ≠ 92)) ∧
    (∃ (s : State) (q : Nat × Nat) (p : Nat × Nat) (g : Nat) (gs : List Nat), (p.1 < 10) ∧ (p.2 < 8) ∧ (usableLandings s g ≠ [])) ∧
    (∃ (s : State) (t : State) (a : Nat) (src : Nat) (dst : Nat), ((∀ g : Fin 4, s.rd F.KRV_KNK_STAT.LFAIL g = t.rd F.KRV_KNK_STAT.LFAIL g)) ∧
      ((∀ g : Fin 4, s.flag F.KRV_KNK_STAT.DETOUR g = t.flag F.KRV_KNK_STAT.DETOUR g))) ∧
    (∃ (s : State) (src : Nat), ((∀ g : Fin 4, s.rd F.KRV_KNK_STAT.LFAIL g = 0)) ∧ ((∀ g : Fin 4, s.flag F.KRV_KNK_STAT.DETOUR g = false))) ∧
    (∃ (s : State) (m : MsgName) (u : Transit), (transitOf s m = some u) ∧ ∃ t, reach m s = some t) ∧
    (∃ (s : State) (m : MsgName), (BuffersHold s) ∧ ∃ t, reach m s = some t) ∧
    (∃ (s : State) (m : MsgName) (cls at_ src dst n : Nat), (BuffersHold s) ∧ ∃ t, launch m cls at_ src dst n s = some t) ∧
    (∃ (s : State) (m : MsgName) (cls src dst n : Nat), (BuffersHold s) ∧ ∃ t, post m cls src dst n s = some t) ∧
    (∃ (s : State) (m : MsgName), (BuffersHold s)) ∧
    (∃ (s : State) (h : Hop) (i : Hop) (j : Hop) (u : Transit) (v : Transit), (u.here = some i) ∧ (v ∈ s.net.way) ∧ (v ≠ u) ∧ (v.next = some h) ∧
      (v.here = some j) ∧ (frontAt s j v.cls = some v)) ∧
    (∃ (s : State) (h : Hop) (u v : Transit), ((overdue s h u = [v]) ∧ (u.name ≠ v.name) ∧ (roomAt s h v.cls v.flits = true)) ∧ ∃ t,
      grant h u s = some t) :=
  ⟨⟨128 + 79, 128, by decide +kernel⟩,
    ⟨0, 7, by decide +kernel⟩,
    ⟨0, 200, 93, by decide +kernel⟩,
    ⟨State.reset, (0, 1), (9, 7), 3, [], by decide +kernel⟩,
    ⟨State.reset, State.reset.setWay [], 46, 736, 7552, by decide +kernel⟩,
    ⟨State.reset, 0, by decide +kernel⟩,
    ⟨W03.tw, .req 736 7, W03.u0, by decide +kernel, Option.isSome_iff_exists.mp (by decide +kernel)⟩,
    ⟨W03.tw, .req 736 7, W03.tw_holds, Option.isSome_iff_exists.mp (by decide +kernel)⟩,
    ⟨W03.tw, .req 736 8, 0, 736, 736, 7552, 2, W03.tw_holds, Option.isSome_iff_exists.mp (by decide +kernel)⟩,
    ⟨W03.tw, .req 736 8, 0, 736, 7552, 2, W03.tw_holds, Option.isSome_iff_exists.mp (by decide +kernel)⟩,
    ⟨W03.tw, .req 736 7, W03.tw_holds⟩,
    ⟨W03.two, .link 46 47 0, .enter 736, .enter 737, W03.u0, W03.v0, by decide +kernel⟩,
    ⟨W03.two, .link 46 47 0, W03.u0, W03.v0, by decide +kernel, Option.isSome_iff_exists.mp (by decide +kernel)⟩⟩

open W03 in
theorem witness_RequestsAreServedAtTheirTargets :
    (∃ (s : State) (src : BitVec 13) (txn : BitVec 8) (r : Req) (v : Fin 640), ((arriving s src.toNat txn.toNat = some r) ∧ (r.op = .read) ∧
      (r.dst = vaultEp v) ∧ (domOn s (sectorDom (v / 2)) = true) ∧ (vaultAdmits s v r.tag = true) ∧
      ((s.flag F.CFG_SECT.INRGN (v / 2) && s.flag F.CFG_SECT.CLOSED (v / 2)) = false) ∧ (usable s .vault v = true)) ∧ ∃ t,
      reach (.req src.toNat txn.toNat) s = some t) ∧
    (∃ (s : State) (src : BitVec 13) (txn : BitVec 8) (r : Req) (v : Fin 640) (u : Upset) (parity : BitVec 16),
      (arriving s src.toNat txn.toNat = some r) ∧ ((reach (.req src.toNat txn.toNat) s).isSome = true) ∧ (r.op = .write) ∧ (r.dst = vaultEp v) ∧
      (domOn s (sectorDom (v / 2)) = true) ∧ (vaultAdmits s v r.tag = true) ∧
      ((s.flag F.CFG_SECT.INRGN (v / 2) && s.flag F.CFG_SECT.CLOSED (v / 2)) = false) ∧ (usable s .vault v = true) ∧
      (writeBlocked s .vault v 16 (r.da % 0x20000) r.len = false)) ∧
    (∃ (s : State) (src : BitVec 13) (txn : BitVec 8) (r : Req) (v : Fin 640) (u : Upset) (parity : BitVec 16),
      (arriving s src.toNat txn.toNat = some r) ∧ ((reach (.req src.toNat txn.toNat) s).isSome = true) ∧ (r.op = .write) ∧ (r.dst = vaultEp v) ∧
      (domOn s (sectorDom (v / 2)) = true) ∧ (vaultAdmits s v r.tag = false)) ∧
    (∃ (s : State) (src : BitVec 13) (txn : BitVec 8) (r : Req) (ups : List (List Nat)) (u : Upset) (parity : BitVec 16) (k : Fin 1152),
      (arriving s src.toNat txn.toNat = some r) ∧ ((reach (.req src.toNat txn.toNat) s).isSome = true) ∧ (r.dst ≠ hubEp) ∧
      (k.val < 576 * (reqFlitsOf r).length) ∧ ∃ c ∈ [(NetOp.read, Instr.read (.flit src txn) ups u parity (some k)), (NetOp.write,
      Instr.write (.flit src txn) ups u parity (some k))], (r.op = c.1)) ∧
    (∃ (s : State) (c : Fin 4) (da : BitVec 48) (len x : Nat), (keeperAccess (.core c) .read coreEp da.toNat len 0 s).1 = some x) ∧
    (∃ (s : State) (src : BitVec 13) (txn : BitVec 8) (r : Req) (ups : List (List Nat)) (u : Upset) (parity : BitVec 16) (bad : Option (Fin 1152)),
      (arriving s src.toNat txn.toNat = some r) ∧ (reach (.req src.toNat txn.toNat) s = none)) ∧
    (∃ (s : State) (e : Fin 512) (src : BitVec 13) (txn : BitVec 8) (r : Req), ((arriving s src.toNat txn.toNat = some r) ∧ (r.op = .read) ∧
      (r.dst = engineEp e) ∧ (r.tag.cls ≠ 0) ∧ (r.da % 0x20000 < 0x10000) ∧ (domOn s (engineDom e) = true) ∧ (engineAdmits s e r = true) ∧
      (s.flag F.TMB_STAT.CLEARING e = false) ∧ (s.flag F.TMB_STAT.TBUSY e = false) ∧ (s.flag F.MEM_TMB.USABLE e = true) ∧
      (s.flag F.TMB_STAT.RETIRED e = false)) ∧ ∃ t, reach (.req src.toNat txn.toNat) s = some t) :=
  ⟨⟨(rq (vOn State.reset 3) r1), 5, 7, r1, 3, by decide +kernel, Option.isSome_iff_exists.mp (by decide +kernel)⟩,
    ⟨(rq (storeWord .vault 3 2 0x123456789 (vOn State.reset 3)) {r1 with op := .write, data := 0xabcdef, len := 9}), 5, 7,
      {r1 with op := .write, data := 0xabcdef, len := 9}, 3, Upset.none, 0, by decide +kernel⟩,
    ⟨(rq (storeWord .vault 3 2 0x123456789 (vOn State.reset 3)) {r1 with op := .write, tag := ⟨1,2⟩}), 5, 7, {r1 with op := .write, tag := ⟨1,2⟩},
      3, Upset.none, 0, by decide +kernel⟩,
    ⟨(rq (storeWord .vault 3 2 0x123456789 (vOn State.reset 3)) r1), 5, 7, r1, [], Upset.none, 0, 575, by decide +kernel⟩,
    ⟨{ vOn State.reset 3 with knk := { State.reset.knk with carrying := true } }, 2, 0x080000060020, 16, 0, by decide +kernel⟩,
    ⟨{ rq (storeWord .vault 3 2 0x123456789 (vOn State.reset 3)) r1 with net := { (rq (storeWord .vault 3 2 0x123456789 (vOn State.reset 3)) r1).net with way := [⟨.req 5 7, 0, 5, vaultEp 3, 1, [], []⟩] } },
      5, 7, r1, [], Upset.none, 0, none, by decide +kernel, by decide +kernel⟩,
    ⟨(rq (storeWord .data 3 4 0x1234 (eOn State.reset)) r2), 3, 5, 7, r2, by decide +kernel, Option.isSome_iff_exists.mp (by decide +kernel)⟩⟩

open W03 in
theorem witness_ResponsesCompleteTheirRequests :
    (∃ (s : State) (src : BitVec 13) (txn : BitVec 8) (p : Resp) (o : Outst) (a : Nat), (respArriving s src.toNat txn.toNat = some p) ∧
      ((reach (.resp src.toNat txn.toNat) s).isSome = true) ∧ (outstOf s src.toNat txn.toNat = some o) ∧ (o.who = .port a) ∧
      (s.expired o.sentAt o.window = false) ∧ (s.flag F.KRV_AP.CLOSED a = false) ∧ ∃ c ∈ [(RespKind.data, Instr.data src txn none), (.poisoned,
      .dataPoisoned src txn none), (.ack, .ack src txn none), (.error, .error src txn none)], (answerKind p.ans = c.1)) ∧
    (∃ (s : State) (src : BitVec 13) (txn : BitVec 8) (p : Resp) (k : Fin 1152), (respArriving s src.toNat txn.toNat = some p) ∧
      ((reach (.resp src.toNat txn.toNat) s).isSome = true) ∧ (k.val < 576) ∧ ∃ c ∈ [(RespKind.data, Instr.data src txn (some k)), (.poisoned,
      .dataPoisoned src txn (some k)), (.ack, .ack src txn (some k)), (.error, .error src txn (some k))], (answerKind p.ans = c.1)) ∧
    (∃ (s : State) (src : BitVec 13) (txn : BitVec 8) (o : Outst) (a : Nat), (outstOf s src.toNat txn.toNat = some o) ∧ (o.who = .port a) ∧
      (s.expired o.sentAt o.window = true) ∧ (s.flag F.KRV_AP.CLOSED a = false)) ∧
    (∃ (s : State) (src : BitVec 13) (txn : BitVec 8) (p : Resp), (respArriving s src.toNat txn.toNat = some p) ∧
      ((reach (.resp src.toNat txn.toNat) s).isSome = true) ∧ (s.net.quar.contains (src.toNat, txn.toNat) = true) ∧
      (outstOf s src.toNat txn.toNat = none)) :=
  ⟨⟨(rsp State.reset (.port 2) (.data 5)), 5, 7, ⟨9, 5, 7, ⟨1,2⟩, .data 5, .none⟩, ⟨.port 2, {r1 with dst := 9}, 0, 10^12⟩, 2, by decide +kernel⟩,
    ⟨(rsp State.reset (.port 2) (.error 5 3)), 5, 7, ⟨9, 5, 7, ⟨1,2⟩, .error 5 3, .none⟩, 575, by decide +kernel⟩,
    ⟨({rsp State.reset (.port 2) (.error 5 3) with clk := {State.reset.clk with dtc := BitVec.ofNat 96 (2^90)}}), 5, 7, ⟨.port 2,
      {r1 with dst := 9}, 0, 10^12⟩, 2, by decide +kernel⟩,
    ⟨({rsp State.reset (.port 2) (.error 5 3) with net := {(rsp State.reset (.port 2) (.error 5 3)).net with outst := [], quar := [(5,7)]}}), 5, 7,
      ⟨9, 5, 7, ⟨1,2⟩, .error 5 3, .none⟩, by decide +kernel⟩⟩

open W03 in
theorem witness_AccessPortsSendAndHandOver :
    (∃ (s : State) (a : Fin 640) (write : Bool) (txn : Fin 64) (len : Fin 64) (da : BitVec 48) (data : Line) (v : Nat) (off : Nat) (path : List Nat),
      (txnTaken s (portEp a) txn = false) ∧ (s.flag F.KRV_AP.CLOSED a = false) ∧
      (storeUsed s a + (s.net.outst.filter (fun o => o.req.src == portEp a)).length < 64) ∧ (da.toNat % 64 + (len.val + 1) ≤ 64) ∧
      (decodeDa s da.toNat = .vault v off) ∧ (leafRoute s (epLeaf (portEp a)) (epLeaf (vaultEp v)) = some path)) ∧
    (∃ (s : State) (a : Fin 640) (write : Bool) (txn : Fin 64) (len : Fin 64) (da : BitVec 48) (data : Line), (txnTaken s (portEp a) txn = false) ∧
      (s.flag F.KRV_AP.CLOSED a = false) ∧ (storeUsed s a + (s.net.outst.filter (fun o => o.req.src == portEp a)).length < 64) ∧
      (da.toNat % 64 + (len.val + 1) ≤ 64) ∧ (decodeDa s da.toNat = .unmapped)) ∧
    (∃ (s : State) (a : Fin 640) (p : Resp) (l : List Resp), (sget [] s.net.apStore a = p :: l)) :=
  ⟨⟨(State.reset.off F.KRV_AP.CLOSED 2 |>.wr F.KRV_KNK_STAT.DETOUR 0 0 |>.wr F.KRV_KNK_STAT.DETOUR 2 0|>.wr F.KRV_KNK_STAT.DETOUR 1 0), 2, true,
      3, 4, 0x080000000040, 5, 0, 0x40, [], by decide +kernel⟩,
    ⟨(State.reset.off F.KRV_AP.CLOSED 2 ), 2, true, 3, 4, 0x0F0000000040, 5, by decide +kernel⟩,
    ⟨{State.reset with net := {State.reset.net with apStore := [(2,[⟨9, 5, 7, ⟨1,2⟩, .error 5 3, .none⟩])]}}, 2, ⟨9, 5, 7, ⟨1,2⟩, .error 5 3,
      .none⟩, [], by decide +kernel⟩⟩

theorem witness_FabricElementsFollowTheirClockEdge :
    ∃ (a : SliceAttr) (o : SliceOp) (p : BitVec 72) (casc : BitVec 72), (a.mode = .m24) ∧ (a.preadd = false) ∧ (o.x.msel = 1) :=
  ⟨{ (default : SliceAttr) with mode := .m24, preadd := false }, ⟨1, ⟨1, 0, 0, 1, 0, false, false⟩⟩, 0, 0, by decide +kernel⟩

namespace W04
/-- Sectors 0 and 8 of L0 are of regions of tenants 3 and 5. -/
def apart : State := ((((State.reset.on F.CFG_SECT.INRGN 0).wr F.CFG_SECT.REGION 0 1).wr F.CFG_RGN_CFG.OWNER 1 3).on F.CFG_SECT.INRGN 8 |>.wr
  F.CFG_SECT.REGION 8 2 |>.wr F.CFG_RGN_CFG.OWNER 2 5).off F.CFG_SECT.CLOSED 0
end W04

theorem witness_WiresStayInTheirLeafAndKeepTenantsApart :
    (∃ (d : Dir) (d' : Dir) (n : WireLen) (n' : WireLen) (k : Nat) (k' : Nat), (k < lenStarts n) ∧ (k' < lenStarts n')) ∧
    (∃ (w : Wire) (j : Nat), (w.k < lenStarts w.len) ∧ (j < lenSize w.len)) ∧
    (∃ (w : Wire) (j : Nat), (w.row < 640) ∧ (w.col < 256) ∧ (j ≤ w.reach)) ∧
    (∃ (s : State) (w : Wire), (w.leaf < 4) ∧ (w.row < 640) ∧ (w.col < 256)) ∧
    (∃ (ask : Sig → Bool) (ask' : Sig → Bool) (s : State) (x : Nat) (c : Nat) (l : Fin 16), ((∀ m : Fin 16,
      m < l → ask (.cout x c m) = ask' (.cout x c m))) ∧ ((32 ≤ c → ask (.cout x (c - 32) 15) = ask' (.cout x (c - 32) 15))) ∧
      (ask (.cross x c 6) = ask' (.cross x c 6))) ∧
    (∃ (g : Nat → Frame) (c : Nat), (c % 2 = 1)) ∧
    (∃ (s : State) (w : Wire) (d : Nat) (j : Nat), (j < min d w.reach) ∧ (tenantsApart s (w.sector j) (w.sector (j + 1)) = true)) ∧
    (∃ (s : State) (x : Fin 320) (y : Nat) (h : Hasp), (h.out = true) ∧ (h.along.val < sideLength h.side) ∧ (sectorBeside x h.side = some y) ∧
      (haspsPass s x y = false) ∧ (s.flag F.CFG_SECT.CLOSED x = false)) ∧
    (∃ (s : State) (xs : List Nat) (x : Fin 320) (h : Hasp), (x.val ∉ xs ∨ s.flag F.CFG_SECT.CLOSED x = true)) :=
  ⟨⟨.south, .east, .l24, .l1, 1, 15, by decide +kernel⟩,
    ⟨⟨3, 639, 255, .south, .l24, 1⟩, 23, by decide +kernel⟩,
    ⟨⟨3, 620, 255, .north, .l24, 1⟩, 19, by decide +kernel⟩,
    ⟨State.reset, ⟨3, 639, 255, .south, .l24, 1⟩, by decide +kernel⟩,
    ⟨fun _ => true, fun g => decide (g ≠ .cross 0 0 7), State.reset, 3, 40, 5, by decide +kernel⟩,
    ⟨fun _ => 0, 2047, by decide +kernel⟩,
    ⟨W04.apart, ⟨0, 63, 0, .north, .l24, 0⟩, 24, 0, by decide +kernel⟩,
    ⟨W04.apart, 0, 8, ⟨.north, 31, 159, true⟩, by decide +kernel⟩,
    ⟨W04.apart, [8], 0, ⟨.north, 31, 159, true⟩, by decide +kernel⟩⟩

theorem witness_OneWrongBitIsCorrectedAndTwoAreFound :
    ∃ (k : MemKind) (d : BitVec 128) (i : Nat) (j : Nat), (i < kindLen k) ∧ (j < kindLen k) ∧ (i ≠ j) :=
  ⟨.vault, 0, 0, 136, by decide +kernel⟩

namespace W06
def late (b : State) : State := {b with clk := {b.clk with dtc := BitVec.ofNat 96 (2^90)}}
def sc (b : State) : State := (b.on F.MEM_SCR_CTL.EN 0|>.on F.MEM_SCR_CTL.VAULT 0|>.on F.MEM_SCR_CTL.TMBD 0 |>.on F.MEM_VAULT.USABLE 5|>.on F.MEM_TMB.USABLE 5 |>.off F.CFG_SECT.CLOSED 2)
def dir (b : State) (k : MemKind) (i w : Nat) : State :=
  {b with mem := {b.mem with directed := [(4 * instKey k i + w % 4, some w)], due := [(instKey k i, 1)], walk := [(instKey k i, w % 4)]}}
end W06

open W06 in
theorem witness_MemoryTestsRemapsAndLogs :
    (∃ (s : State) (k : MemKind) (i : Nat) (pass : Bool) (bad : BitVec 8), (i < kindCount k) ∧ (k = .bram ∨ k = .vault)) ∧
    (∃ (s : State) (i : Fin 512) (bad : BitVec 8), (sget 0 s.mem.tested (instKey .prog i) = 1)) ∧
    (∃ (s : State) (v : Word) (k : MemKind), (k = kindOf (s.rd F.MEM_RMP_SEL.MKIND 0)) ∧ (F.MEM_RMP_CMD.ADD.of v = 1) ∧
      (s.flag F.MEM_RMP_STAT.BUSY 0 = false) ∧ (F.MEM_RMP_CMD.WORD.of v < kindWords k) ∧ (s.rd F.MEM_RMP_SEL.INST 0 < kindCount k)) ∧
    (∃ (s : State) (k : MemKind) (i : Nat) (w : Nat) (j : Nat), (i < kindCount k) ∧ (s.mem.rmpAdd = some (instKey k i, w)) ∧
      (freeSpare s k i w = some j) ∧ (backWaits s k i (memBank k w) = false)) ∧
    (∃ (s : State) (leaf : Fin 4) (v : Word), (F.MEM_LOG_CTL.POP.of v = 1) ∧ (s.rd F.MEM_LOG_CTL.COUNT leaf ≠ 0)) :=
  ⟨⟨State.reset, .vault, 7, true, 0x35, by decide +kernel⟩,
    ⟨{State.reset with mem := {State.reset.mem with tested := [(instKey .prog 5, 1)]}}, 5, 3, by decide +kernel⟩,
    ⟨(State.reset.wr F.MEM_RMP_SEL.MKIND 0 1|>.wr F.MEM_RMP_SEL.INST 0 5 |>.off F.MEM_RMP_STAT.BUSY 0|>.on F.MEM_VAULT.USABLE 5),
      (setF (setF 0 F.MEM_RMP_CMD.ADD.lo 1 1) F.MEM_RMP_CMD.WORD.lo 10 33), .vault, by decide +kernel⟩,
    ⟨({storeWord .vault 5 33 0x1234 State.reset with mem := {(storeWord .vault 5 33 0x1234 State.reset).mem with rmpAdd := some (instKey .vault 5, 33)}}.wr F.MEM_VAULT.RMP_USED 5 1|>.wr F.MEM_VAULT.SPARE_BAD 5 4),
      .vault, 5, 33, 3, by decide +kernel⟩,
    ⟨(State.reset.wr F.MEM_LOG_CTL.COUNT 1 5), 1, (setF 0 F.MEM_LOG_CTL.POP.lo 1 1), by decide +kernel⟩⟩

open W06 in
theorem witness_ScrubbersWalkCorrectAndWriteBack :
    (∃ (s : State) (leaf : Fin 4) (i : Nat), (s.flag F.MEM_SCR_CTL.EN leaf = true) ∧ ((s.scrub leaf).ticks < 8192) ∧
      (8192 * (s.scrub leaf).passStart + (s.scrub leaf).ticks * (1000000 * (s.scrub leaf).period) ≤ 8192 * s.dtcNow) ∧
      (i ∈ leafInstances .vault leaf) ∧ (scrubOn s .vault i = true)) ∧
    (∃ (s : State) (leaf : Fin 4), (s.flag F.MEM_SCR_CTL.EN leaf = true) ∧ ((s.scrub leaf).ticks = 8192) ∧
      (s.expired (s.scrub leaf).passStart (1000000 * (s.scrub leaf).period) = true)) ∧
    (∃ (s : State) (k : MemKind) (i : Nat) (w : Nat) (bank : Fin 4), (i < kindCount k) ∧ (k = .vault ∨ k = .data) ∧ (scrubOn s k i = true) ∧
      (scrubClock s k i = true) ∧ (backWaits s k i bank = false) ∧ (rmpWaits s k i bank = false) ∧ (memBank k w = bank.val) ∧
      (sget none s.mem.directed (4 * instKey k i + bank) = some w) ∧ (classifyWord (kindLen k) (memCode s k i w) = .clean)) ∧
    (∃ (s : State) (k : MemKind) (i : Nat) (w : Nat) (bank : Fin 4), (i < kindCount k) ∧ (k = .vault ∨ k = .data) ∧ (scrubOn s k i = true) ∧
      (scrubClock s k i = true) ∧ (backWaits s k i bank = false) ∧ (rmpWaits s k i bank = false) ∧ (memBank k w = bank.val) ∧
      (sget none s.mem.directed (4 * instKey k i + bank) = some w) ∧ (classifyWord (kindLen k) (memCode s k i w) = .uncorrectable)) ∧
    (∃ (s : State) (k : MemKind) (i : Nat) (w : Nat) (p : Nat) (bank : Fin 4), (i < kindCount k) ∧ (k = .vault ∨ k = .data) ∧
      (scrubOn s k i = true) ∧ (scrubClock s k i = true) ∧ (backWaits s k i bank = false) ∧ (rmpWaits s k i bank = false) ∧
      (memBank k w = bank.val) ∧ (sget none s.mem.directed (4 * instKey k i + bank) = some w) ∧
      (classifyWord (kindLen k) (memCode s k i w) = .corrected p) ∧ (sget [] s.mem.hist (4 * instKey k i + bank) = [])) ∧
    (∃ (s : State) (k : MemKind) (i : Nat) (bank : Fin 4) (b : WriteBack), (sget none s.mem.back (4 * instKey k i + bank) = some b) ∧
      (scrubOn s k i = true)) ∧
    (∃ (s : State) (k : MemKind) (i : Nat) (w : Nat) (bank : Fin 4) (flips : List Nat), (i < kindCount k) ∧ (k ≠ .prog) ∧ (scrubOn s k i = true) ∧
      (scrubClock s k i = true)) ∧
    (∃ (s : State) (k : MemKind) (i : Nat) (bank : Fin 4) (flips : List Nat), (slotReady s k i bank = false)) :=
  ⟨⟨(late (sc State.reset)), 0, 5, by decide +kernel⟩,
    ⟨(late {sc State.reset with mem := {State.reset.mem with scrub := [(0, ⟨5,8192,6⟩)]}}), 0, by decide +kernel⟩,
    ⟨late (dir (storeWord .vault 5 33 0x1234 (sc State.reset)) .vault 5 33), .vault, 5, 33, 1, by decide +kernel⟩,
    ⟨late (dir (flipCode .vault 5 33 [7,8] (storeWord .vault 5 33 0x1234 (sc State.reset))) .vault 5 33), .vault, 5, 33, 1, by decide +kernel⟩,
    ⟨late (dir (flipCode .vault 5 33 [7] (storeWord .vault 5 33 0x1234 (sc State.reset))) .vault 5 33), .vault, 5, 33, 7, 1, by decide +kernel⟩,
    ⟨{storeWord .data 5 32 0x1234 (sc State.reset) with mem := {(storeWord .data 5 32 0x1234 (sc State.reset)).mem with back := [(4 * instKey .data 5 , some ⟨32, encodeWord 72 0x1234, 99⟩)]}},
      .data, 5, 0, ⟨32, encodeWord 72 0x1234, 99⟩, by decide +kernel⟩,
    ⟨late (sc State.reset), .vault, 5, 33, 1, [], by decide +kernel⟩,
    ⟨State.reset, .vault, 5, 1, [], by decide +kernel⟩⟩

namespace W07
def eg (b : State) (r : EngineRec) : State := (((b.setEng 5 r).on F.CLK_ECK.EN 0 |>.on F.CLK_ROOT_STAT.EPOCH 0).off F.TMB_STAT.CLEARING 5).off F.TMB_STAT.TBUSY 5
def er (c v m k : Nat) : EngineRec :=
  { EngineRec.idle with run := 1, pc := 40 * k, bank := k % 2 == 0, ir := some (BitVec.ofNat 128 (c + v * 2 ^ 40 + m * 2 ^ 88)) }
def inSet (b : State) : State := [5,6].foldl (fun t e => t.on F.TMB_CFG.VALID e |>.wr F.TMB_CFG.SET e 3) (b.on F.TMB_SET_CFG.VALID 3 |>.wr F.TMB_SET_CFG.TENANT 3 2)
def emr (k w : Nat) : EngineRec := {er 0 0 w k with issV := some [], fifo := [(1,[77,78])], credits := [(1,2)]}
def wS (op d rs : Nat) : Nat := op * 2^32 + d * 2^21 + rs*2^27
def rl : EngineRec := {er 0 0 0 4 with issM := some [], issV := some [], issC := some ([⟨1, .sreg true 6 0x77⟩], .none)}
def ner : EngineRec :=
  let r := er 0 0 0x1820000000 4
  { r with issV := some [], prim := { r.prim with s := [(4, 0), (5, 0x0800)] }, shad := { r.shad with s := [(4, 0), (5, 0x0800)] } }
end W07

open W07 in
theorem witness_ScalarAndControlSlotsGiveTheirResults :
    (∃ (s : State) (e : Fin 512) (r : EngineRec) (w : Nat), (r = s.eng e) ∧ (w = slotBits .c (bundle s e)) ∧ (canIssue s e = true) ∧
      (r.issC = none) ∧ (slotLegal .c w r.pc r.run = true)) ∧
    (∃ (s : State) (e : Fin 512) (r : EngineRec) (w : Nat), (r = s.eng e) ∧ (w = slotBits .c (bundle s e)) ∧ (canIssue s e = true) ∧
      (r.issC = none) ∧ (slotLegal .c w r.pc r.run = true)) ∧
    (∃ (s : State) (e : Fin 512) (r : EngineRec) (w : Nat), (r = s.eng e) ∧ (w = slotBits .c (bundle s e)) ∧ (canIssue s e = true) ∧
      (r.issC = none) ∧ (slotLegal .c w r.pc r.run = true)) ∧
    (∃ (s : State) (e : Fin 512) (r : EngineRec), (r = s.eng e) ∧ (canIssue s e = true) ∧ (r.issC = none) ∧
      (slotLegal .c (slotBits .c (bundle s e)) r.pc r.run = false)) :=
  ⟨⟨(eg State.reset {er 0x0100000000 0 0 4 with issM := some []}), 5, {er 0x0100000000 0 0 4 with issM := some []}, 0x0100000000,
      by decide +kernel⟩,
    ⟨(eg State.reset {er 0x0100000000 0 0 4 with issM := some []}), 5, {er 0x0100000000 0 0 4 with issM := some []}, 0x0100000000,
      by decide +kernel⟩,
    ⟨(eg State.reset {er 0x3D00000000 0 0 4 with issM := some []}), 5, {er 0x3D00000000 0 0 4 with issM := some []}, 0x3D00000000,
      by decide +kernel⟩,
    ⟨(eg State.reset {er (99*2^32) 0 0 4 with issM := some []}), 5, {er (99*2^32) 0 0 4 with issM := some []}, by decide +kernel⟩⟩

open W07 in
theorem witness_VectorSlotsGiveTheirResults :
    ∃ (s : State) (e : Fin 512) (r : EngineRec) (w : Nat), (r = s.eng e) ∧ (w = slotBits .v (bundle s e)) ∧ (canIssue s e = true) ∧ (r.issV = none) ∧
    (slotLegal .v w r.pc r.run = true) :=
  ⟨(eg State.reset {er 0 0x010000000000 0 4 with issM := some []}), 5, {er 0 0x010000000000 0 4 with issM := some []}, 0x010000000000,
      by decide +kernel⟩

open W07 in
theorem witness_LoadAndStoreSlotsGiveTheirResults :
    ∃ (s : State) (e : Fin 512) (r : EngineRec) (w : Nat), (r = s.eng e) ∧ (w = slotBits .m (bundle s e)) ∧ (canIssue s e = true) ∧ (r.issM = none) ∧
    (slotLegal .m w r.pc r.run = true) :=
  ⟨(eg State.reset {er 0 0 0x0100000000 4 with issV := some []}), 5, {er 0 0 0x0100000000 4 with issV := some []}, 0x0100000000,
      by decide +kernel⟩

open W07 in
theorem witness_StreamAndNetworkSlotsAct :
    (∃ (s : State) (e : Fin 512) (w : Nat) (d : Nat) (f : Nat), (w = slotBits .m (bundle s e)) ∧ (canIssue s e = true) ∧ ((s.eng e).issM = none) ∧
      (slotLegal .m w (s.eng e).pc (s.eng e).run = true) ∧ (slotOp .m w = 0x10) ∧ (d = sf w 21 2) ∧ (openLink s e d = some f)) ∧
    (∃ (s : State) (e : Fin 512) (w : Nat) (d : Nat) (f : Nat), (w = slotBits .m (bundle s e)) ∧ (canIssue s e = true) ∧ ((s.eng e).issM = none) ∧
      (slotLegal .m w (s.eng e).pc (s.eng e).run = true) ∧ (slotOp .m w = 0x11) ∧ (d = sf w 21 2) ∧ (openLink s e d = some f)) ∧
    (∃ (s : State) (e : Fin 512) (w : Nat), (w = slotBits .m (bundle s e)) ∧ (canIssue s e = true) ∧ ((s.eng e).issM = none) ∧
      (slotLegal .m w (s.eng e).pc (s.eng e).run = true) ∧ (openLink s e (sf w 21 2) = none) ∧ ∃ z ∈ [(0x10, Instr.ssend e, ([⟨1,
      .evt 0x20⟩] : List Result)), (0x11, .srecv e, [⟨2, .vreg (sf w 27 4) 0⟩, ⟨1, .evt 0x20⟩])], (slotOp .m w = z.1)) ∧
    (∃ (s : State) (e : Fin 512) (r : EngineRec) (w : Nat) (txn : Nat) (n : Nat) (v : Nat) (off : Nat) (path : List Nat), (r = s.eng e) ∧
      (w = slotBits .m (bundle s e)) ∧ (canIssue s e = true) ∧ (r.issM = none) ∧ (slotLegal .m w r.pc r.run = true) ∧
      (freeTxn s (engineEp e) = some txn) ∧ (engineTenant s e = some n) ∧ (netAddr r w % 64 + (sf w 16 6 + 1) ≤ 64) ∧
      (decodeDa s (netAddr r w) = .vault v off) ∧ (leafRoute s (epLeaf (engineEp e)) (epLeaf (vaultEp v)) = some path)) ∧
    (∃ (s : State) (e : Fin 512) (d : Fin 4) (v : Line) (l : List (Nat × Line)), ((s.eng e).coming = (d.val, v) :: l)) :=
  ⟨⟨(inSet (eg State.reset (emr 3 (wS 0x10 1 3)))), 5, (wS 0x10 1 3), 1, 6, by decide +kernel⟩,
    ⟨(inSet (eg State.reset (emr 3 (wS 0x11 1 3)))), 5, (wS 0x11 1 3), 1, 6, by decide +kernel⟩,
    ⟨(inSet (eg State.reset { emr 3 (wS 0x10 3 3) with credits := [] } |>.off F.TMB_CFG.VALID 5)), 5, (wS 0x10 3 3), by decide +kernel⟩,
    ⟨(inSet (eg State.reset (ner))), 5, ner, 0x1820000000, 0, 2, 0, 0, [], by decide +kernel⟩,
    ⟨(inSet (eg State.reset {emr 3 (wS 0x11 1 3) with coming := [(2,99),(2,3)]})), 5, 2, 99, [(2,3)], by decide +kernel⟩⟩

open W07 in
theorem witness_EngineCyclesLandResultsAndEnterEvents :
    (∃ (s : State) (e : Fin 512) (r : EngineRec) (b : Bool) (n : Nat) (v : Word), (r = s.eng e) ∧ (r.run = 1) ∧ (eckOn s e = true) ∧
      (r.take = none) ∧ (r.stopping = false) ∧ (r.doneWait = false) ∧ (r.halted = false) ∧ (r.bubble = false) ∧ (r.redir = none) ∧ (r.pend = []) ∧
      (r.wq = []) ∧ (r.issM = some []) ∧ (r.issV = some []) ∧ (r.issC = some ([⟨1, .sreg b n v⟩], .none)) ∧ ((∀ l : Fin 4,
      (r.loopLv r.bank l).active = false))) ∧
    (∃ (s : State) (e : Fin 512) (a : Nat), ((s.eng e).take = some a) ∧ (eckOn s e = true) ∧ ((s.eng e).halted = false) ∧
      ((s.eng e).stopping = false)) ∧
    (∃ (s : State) (e : Fin 512), (issuing s e = true) ∧ ((s.eng e).bubble = false) ∧ ((s.eng e).noSlot = true) ∧ ((s.eng e).hold = 0) ∧
      (fetchBad s e = true) ∧ (engineSet s e = none)) ∧
    (∃ (s : State) (e : Fin 512), ((s.eng e).run = 1 ∨ (s.eng e).run = 2) ∧ ((s.eng e).crGet 9 = (s.eng e).crGet 0x0A)) ∧
    (∃ (s : State) (e : Fin 512) (v : Word) (q : Req) (off : Nat) (l : List WinReq), ((s.eng e).run = 0) ∧ ((s.eng e).wq = ⟨q, off, 0⟩ :: l)) ∧
    (∃ (s : State) (e : Fin 512) (v : Word), ((s.eng e).run = 0) ∧ ((s.eng e).whead = none)) :=
  ⟨⟨(eg State.reset rl), 5, rl, true, 6, 0x77, by decide +kernel⟩,
    ⟨(eg State.reset {rl with take := some 44}), 5, 44, by decide +kernel⟩,
    ⟨(flipCode .prog 5 (rl.pc) [3,4] (storeWord .prog 5 (rl.pc) 77 ((eg State.reset {er 0 0 0 4 with ir := none}).off F.TMB_CFG.VALID 5))), 5,
      by decide +kernel⟩,
    ⟨(eg State.reset {rl with cr := [(9,0xFFFFFFFF)]}), 5, by decide +kernel⟩,
    ⟨(eg State.reset {rl with run := 0, wq := [⟨⟨.read,1,2,3,⟨0,3⟩,0x40,64,0,.none⟩, 0x40, 0⟩]}), 5, 0x1240, ⟨.read,1,2,3,⟨0,3⟩,0x40,64,0,.none⟩,
      0x40, [], by decide +kernel⟩,
    ⟨(eg State.reset {rl with run := 0}), 5, 0x1240, by decide +kernel⟩⟩

namespace W08
def jn (b : State) : State := (((((b.on F.TMB_SET_CFG.VALID 3).off F.TMB_SET_JSTAT.RUNNING 3).off F.TMB_SET_CFG.WINDOW 3).wr F.TMB_SET_CFG.TENANT 3 2))
def clr (b : State) : State := (List.range 6).foldl (fun t e => ((t.off F.TMB_CFG.VALID e).off F.TMB_STAT.CLEARING e).off F.TMB_STAT.TBUSY e) b
def sv (k : Nat) : Word := setF (setF 0 0 6 k) 8 1 1
def bse (b : State) : State := ((jn (clr b)).on F.TMB_STAT.TESTED 2).off F.TMB_STAT.RETIRED 2
def pw (b : State) : State := b.on (F.PWR_DOM_STAT.ON (engineDom 2 % 32)) (engineDom 2 / 32)
def mem2 (b : State) : State := [2,4].foldl (fun t e => ((t.on F.TMB_CFG.VALID e).wr F.TMB_CFG.SET e 3).off F.TMB_STAT.RETIRED e) ((bse b).on F.CLK_ECK.EN 0)
def run2 (b : State) : State := ((mem2 b).on F.TMB_SET_JSTAT.RUNNING 3).setEng 4 {EngineRec.idle with run := 1, pend := [⟨2,.evt 2⟩]} |>.setEng 2 {EngineRec.idle with run := 2}
def wb (b : State) : State := ((((((((mem2 b).on F.TMB_SET_CFG.WINDOW 3).wr F.TMB_TW_BASE_LO.BASE 1 0).wr F.TMB_TW_BASE_HI.BASE 1 0x700).wr F.TMB_TW_BOUND.BOUND 1 500).wr F.KRV_TMO.TMO 0 100).off F.TMB_TW_CFG.EN 1).off F.TMB_TW_CFG.EN 0 |>.off F.TMB_TW_CFG.EN 2|>.off F.TMB_TW_CFG.EN 3|>.off F.TMB_TW_CFG.EN 4|>.off F.TMB_TW_CFG.EN 5)
def wr2 (b : State) (runs : Bool) : State := let t := ((wb b).wr F.TMB_TW_CFG.SET 1 3 |>.wr F.TMB_TW_CFG.SIZE 1 16 |>.on F.TMB_TW_CFG.EN 1 |>.wr F.LNK_HSTAT.CTLST 2 3 |>.on F.LNK_HSTAT.CXLUP 2|>.wr F.TMB_SET_JSTAT.RUNNING 3 (b2n runs) |>.off F.KRV_KNK_STAT.DETOUR 0|>.off F.KRV_KNK_STAT.DETOUR 1|>.off F.KRV_KNK_STAT.DETOUR 2|>.off F.KRV_KNK_STAT.DETOUR 3)
   {t with coh := {t.coh with xlat := [(512, ⟨true, 0, 0x70000000000/2^28, 1⟩)]}}
end W08

open W08 in
theorem witness_SetsTakeTheirEnginesAndTestsRun :
    (∃ (s : State) (e : Fin 512) (v : Word) (k : Nat), (k = F.TMB_CFG.SET.of v) ∧ (F.TMB_CFG.VALID.of v = 1) ∧ ((s.eng e).run = 0) ∧
      (engineSet s e = none) ∧ (s.flag F.TMB_SET_CFG.VALID k = true) ∧ (s.flag F.TMB_SET_JSTAT.RUNNING k = false) ∧
      (s.flag F.TMB_STAT.TESTED e = true) ∧ (s.flag F.TMB_STAT.RETIRED e = false) ∧ (s.flag F.TMB_STAT.CLEARING e = false) ∧ ((∀ f ∈ tmbMembers s k,
      f / 128 = e.val / 128))) ∧
    (∃ (s : State) (e : Fin 512) (v : Word), ((s.eng e).run ≠ 0)) ∧
    (∃ (s : State) (k : Fin 64) (v : Word), (tmbMembers s k = []) ∧ (s.flag F.TMB_SET_JSTAT.RUNNING k = false)) ∧
    (∃ (s : State) (k : Fin 64) (v : Word), (s.flag F.TMB_SET_JSTAT.RUNNING k = true) ∧ (F.TMB_SET_CFG.TENANT.of v ≠ s.rd F.TMB_SET_CFG.TENANT k)) ∧
    (∃ (s : State) (e : Fin 512), (s.flag F.TMB_STAT.CLEARING e = true)) ∧
    (∃ (s : State) (e : Fin 512), (s.flag F.TMB_STAT.TBUSY e = false) ∧ (s.flag F.TMB_STAT.CLEARING e = false) ∧ (domOn s (engineDom e) = true) ∧
      ((s.eng e).run = 0) ∧ (engineSet s e = none)) ∧
    (∃ (s : State) (e : Fin 512), (s.flag F.TMB_STAT.TBUSY e = false) ∧ (s.flag F.TMB_STAT.CLEARING e = false) ∧ (domOn s (engineDom e) = true) ∧
      ((s.eng e).run = 0) ∧ (s.flag F.TMB_STAT.RETIRED e = true) ∧ (engineSet s e = none)) ∧
    (∃ (s : State) (e : Fin 512), (s.flag F.TMB_STAT.TBUSY e = true)) ∧
    (∃ (s : State) (e : Fin 512) (sig : Word), (s.flag F.TMB_STAT.TBUSY e = true) ∧ (sig ≠ Config.engineSignature)) :=
  ⟨⟨((bse State.reset).setEng 2 {EngineRec.idle with pc := 4}), 2, (sv 3), 3, by decide +kernel⟩,
    ⟨((bse State.reset).setEng 2 {EngineRec.idle with run := 4}), 2, (sv 3), by decide +kernel⟩,
    ⟨(bse State.reset), 3, 0x305, by decide +kernel⟩,
    ⟨((bse State.reset).on F.TMB_SET_JSTAT.RUNNING 3), 3, 0x305, by decide +kernel⟩,
    ⟨((bse State.reset).on F.TMB_STAT.CLEARING 3), 3, by decide +kernel⟩,
    ⟨(pw (bse State.reset)), 2, by decide +kernel⟩,
    ⟨((pw (bse State.reset)).on F.TMB_STAT.RETIRED 2), 2, by decide +kernel⟩,
    ⟨((pw (bse State.reset)).on F.TMB_STAT.TBUSY 2), 2, by decide +kernel⟩,
    ⟨((pw (bse State.reset)).on F.TMB_STAT.TBUSY 2), 2, Config.engineSignature + 1, by decide +kernel,
      by generalize Config.engineSignature = x; bv_omega⟩⟩

open W08 in
theorem witness_JobsStartStopAndEnd :
    (∃ (s : State) (k : Fin 64) (v : Word), (F.TMB_SET_JOB.GO.of v = 1) ∧ (s.flag F.TMB_SET_JSTAT.RUNNING k = false) ∧ (liveMembers s k ≠ []) ∧
      ((∀ e ∈ liveMembers s k, (s.eng e).run = 0 ∧ s.flag F.TMB_STAT.CLEARING e = false)) ∧ (s.flag F.CLK_ECK.EN (setLeaf s k) = true)) ∧
    (∃ (s : State) (k : Fin 64) (v : Word), (F.TMB_SET_JOB.GO.of v = 1) ∧ (s.flag F.TMB_SET_JSTAT.RUNNING k = true ∨ liveMembers s k = [])) ∧
    (∃ (s : State) (k : Fin 64) (e : Nat), (s.flag F.TMB_SET_JSTAT.RUNNING k = true) ∧ (s.flag F.TMB_SET_CFG.WINDOW k = false) ∧
      ((s.job k).tmo ≠ 0) ∧ (s.expired (s.job k).start (1000 * (s.job k).tmo) = true) ∧ ((s.job k).code = 0) ∧ (e ∈ liveMembers s k) ∧
      ((s.eng e).byDone = false)) ∧
    (∃ (s : State) (k : Fin 64) (v : Word) (e : Nat), (F.TMB_SET_STOP.STOP.of v = 1) ∧ (s.flag F.TMB_SET_JSTAT.RUNNING k = true) ∧
      ((s.job k).code = 0) ∧ (e ∈ liveMembers s k) ∧ ((s.eng e).byDone = false)) ∧
    (∃ (s : State) (e : Fin 512) (r : EngineRec), (r = s.eng e) ∧ (engineSet s e = none) ∧ (r.run ≠ 0) ∧ (r.halted = false)) ∧
    (∃ (s : State) (k : Fin 64), (s.flag F.TMB_SET_JSTAT.RUNNING k = true) ∧ ((s.job k).code ≠ 0) ∧ ((s.job k).code < 8) ∧ ((∀ e ∈ tmbMembers s k,
      (s.eng e).run = 0 ∧ (s.eng e).ops = []))) ∧
    (∃ (s : State) (k : Fin 64) (v : Word), (F.TMB_SET_DB.DB.of v = 1) ∧ (s.flag F.TMB_SET_CFG.WINDOW k = false)) :=
  ⟨⟨(mem2 State.reset), 3, 0x80000044, by decide +kernel⟩,
    ⟨(run2 State.reset), 3, 0x80000044, by decide +kernel⟩,
    ⟨({run2 State.reset with clk := {State.reset.clk with dtc := BitVec.ofNat 96 (2^90)}}.setJob 3 ⟨5,6,0,0⟩), 3, 4, by decide +kernel⟩,
    ⟨((run2 State.reset).setJob 3 ⟨5,6,0,0⟩), 3, 1, 4, by decide +kernel⟩,
    ⟨((clr State.reset).setEng 4 {EngineRec.idle with run := 1, pend := [⟨2,.evt 2⟩]}), 4, {EngineRec.idle with run := 1, pend := [⟨2,.evt 2⟩]},
      by decide +kernel⟩,
    ⟨(((mem2 State.reset).on F.TMB_SET_JSTAT.RUNNING 3).setJob 3 ⟨5,6,4,0⟩), 3, by decide +kernel⟩,
    ⟨(run2 State.reset), 3, 1, by decide +kernel⟩⟩

open W08 in
theorem witness_TransformWindowsServeTheirHost :
    (∃ (s : State) (w : Fin 16) (v : Word), (s.flag F.TMB_TW_CFG.EN w = false) ∧ (F.TMB_TW_CFG.EN.of v = 1) ∧ (F.TMB_TW_CFG.REJECT.of v = 0)) ∧
    (∃ (s : State) (w : Fin 16) (v : Word), (s.flag F.TMB_TW_CFG.EN w = true)) ∧
    (∃ (s : State) (n : Fin 16) (id : HostId) (dpa : Nat) (da : Nat) (w : Nat) (e : Nat) (txn : Nat) (path : List Nat), (cxlReady s n = true) ∧
      (dpaInWindow s n dpa = true) ∧ (translate s n (dpa / 64 * 64) = some da) ∧ (decodeDa s da = .window w) ∧
      (s.rd F.TMB_SET_CFG.TENANT (s.rd F.TMB_TW_CFG.SET w) = n.val) ∧ (s.flag F.TMB_SET_JSTAT.RUNNING (s.rd F.TMB_TW_CFG.SET w) = true) ∧
      ((liveMembers s (s.rd F.TMB_TW_CFG.SET w))[(da - windowBase s w) / 64 % (liveMembers s (s.rd F.TMB_TW_CFG.SET w)).length]? = some e) ∧
      (leafRoute s (epLeaf (headEp s n da)) (epLeaf (engineEp e)) = some path) ∧ (freeTxn s (headEp s n da) = some txn)) ∧
    (∃ (s : State) (n : Fin 16) (id : HostId) (dpa : Nat) (da : Nat) (w : Nat), (cxlReady s n = true) ∧ (dpaInWindow s n dpa = true) ∧
      (translate s n (dpa / 64 * 64) = some da) ∧ (decodeDa s da = .window w) ∧ (s.rd F.TMB_SET_CFG.TENANT (s.rd F.TMB_TW_CFG.SET w) = n.val) ∧
      (s.flag F.TMB_SET_JSTAT.RUNNING (s.rd F.TMB_TW_CFG.SET w) = false)) ∧
    (∃ (s : State) (n : Fin 16) (id : HostId) (dpa : Nat) (len : Nat) (da : Nat) (w : Nat) (data : Line), (cxlReady s n = true) ∧
      (translate s n dpa = some da) ∧ (decodeDa s da = .window w) ∧ (len ≠ 0) ∧ (da % 64 + len ≤ 64) ∧
      (s.rd F.TMB_SET_CFG.TENANT (s.rd F.TMB_TW_CFG.SET w) = n.val)) ∧
    (∃ (s : State) (src : BitVec 13) (txn : BitVec 8) (o : Outst) (n : Nat) (id : HostId) (w : Nat), (outstOf s src.toNat txn.toNat = some o) ∧
      (o.who = .window n id w) ∧ (s.expired o.sentAt o.window = true)) :=
  ⟨⟨(wb State.reset), 1, 0x10030001, by decide +kernel⟩,
    ⟨(wb State.reset).on F.TMB_TW_CFG.EN 1, 1, 0x10030001, by decide +kernel⟩,
    ⟨(wr2 State.reset true), 2, ⟨77, 5⟩, 0x47, 0x70000000040, 1, 4, 0, [], by decide +kernel⟩,
    ⟨(wr2 State.reset false), 2, ⟨77, 5⟩, 0x47, 0x70000000040, 1, by decide +kernel⟩,
    ⟨(wr2 State.reset false), 2, ⟨77, 5⟩, 0x47, 5, 0x70000000047, 1, 99, by decide +kernel⟩,
    ⟨{State.reset with clk := {State.reset.clk with dtc := BitVec.ofNat 96 (2^90)}, net := {State.reset.net with outst := [⟨.window 2 ⟨77, 5⟩ 1,⟨.read,5,2,7,⟨0,3⟩,0x40,64,0,.none⟩,0,55⟩]}},
      5, 7, ⟨.window 2 ⟨77, 5⟩ 1,⟨.read,5,2,7,⟨0,3⟩,0x40,64,0,.none⟩,0,55⟩, 2, ⟨77, 5⟩, 1, by decide +kernel⟩⟩

namespace W09
def ex0 (b : State) : State := ((b.on F.LNK_HCFG.EXISTS 2).on F.LNK_HCFG.EXISTS 3).off F.LNK_PCFG.X8X2 1
def pl (b : State) : State := {ex0 b with lnk := {b.lnk with pll := [(2,2),(3,2)]}}
def tr (b : State) : State := (((pl b).wr F.LNK_HSTAT.CTLST 2 2).wr F.LNK_HSTAT.LTSSM 2 0).wr F.LNK_RET.RET 1 8
def act (b : State) : State := ((pl b).wr F.LNK_HSTAT.CTLST 2 3).wr F.LNK_HSTAT.LTSSM 2 3 |>.setHead 2 {HeadRec.idle with limit := 6}
def att (b : State) : State := (tr b).setHead 2 {HeadRec.idle with attempt := true, limit := 6, fromRec := true, train := 100}
def far (b : State) : State := {b with clk := {b.clk with dtc := BitVec.ofNat 96 (2^90)}}
def ch (b : State) : State := (List.range 16).foldl (fun t l => t.wr F.LNK_LSTAT.STAGE (16+l) (if l = 11 then 1 else 3)) (att b |>.wr F.LNK_RET.RET 1 0)
end W09

open W09 in
theorem witness_HeadsFollowTheirControlTable :
    (∃ (s : State) (n : Fin 16) (found : BitVec 16), (s.rd F.LNK_HSTAT.CTLST n = 2) ∧ (s.rd F.LNK_HSTAT.LTSSM n = 0) ∧ (headPll s n = true) ∧
      ((∃ g ∈ lanesIn s n, found.getLsbD (g % 16) = true))) ∧
    (∃ (s : State) (n : Fin 16) (counted : Bool) (eq : Bool), (linkActive s n = true)) ∧
    (∃ (s : State) (n : Fin 16) (f : LinkForm), ((s.head n).attempt = true) ∧ (formOk s n f = true)) ∧
    (∃ (s : State) (n : Fin 16) (f : LinkForm), ((5 < f.rate.val ∧ f.flit = false) ∨ (∃ g ∈ linkLanes s n f,
      s.rd F.LNK_LSTAT.STAGE g = 0 ∨ laneRetired s g = true))) ∧
    (∃ (s : State) (n : Fin 16), ((s.head n).attempt = true)) ∧
    (∃ (s : State) (n : Fin 16), ((s.head n).attempt = true) ∧ (s.expired (s.head n).startAt (1000000 * (s.head n).train) = true)) ∧
    (∃ (s : State) (n : Fin 16), (s.rd F.LNK_HSTAT.CTLST n = 5) ∧ ((s.head n).backoffEnd ≤ s.dtcNow)) ∧
    (∃ (s : State) (n : Fin 16), (linkActive s n = true) ∧ ∃ c ∈ [Instr.linkDown n, Instr.redetect n], (headExists s n = true) ∧
      ((s.head n).attempt = false)) ∧
    (∃ (s : State) (n : Fin 16), (headExists s n = true) ∧ ((s.head n).attempt = false) ∧ (s.rd F.LNK_HSTAT.LTSSM n = 10)) ∧
    (∃ (s : State) (n : Fin 16), (s.rd F.LNK_HSTAT.CTLST n = 3) ∧ (s.rd F.LNK_HSTAT.LTSSM n = 8)) :=
  ⟨⟨(tr State.reset), 2, 0x00ff, by decide +kernel⟩,
    ⟨(act State.reset), 2, true, false, by decide +kernel⟩,
    ⟨(List.range 16).foldl (fun t l => t.wr F.LNK_LSTAT.STAGE (16 + l) 3) (att State.reset |>.wr F.LNK_RET.RET 1 0x8000), 2,
      ⟨6,8,true,false,true,false,some 5⟩, by decide +kernel⟩,
    ⟨ch State.reset, 2, ⟨6, 4, false, false, false, false, none⟩, by decide +kernel⟩,
    ⟨(att State.reset), 2, by decide +kernel⟩,
    ⟨(far (att State.reset)), 2, by decide +kernel⟩,
    ⟨(far (att State.reset) |>.wr F.LNK_HSTAT.CTLST 2 5), 2, by decide +kernel⟩,
    ⟨((State.reset.wr F.LNK_HSTAT.CTLST 2 3).wr F.LNK_HSTAT.LTSSM 2 3), 2, by decide +kernel⟩,
    ⟨(act State.reset).wr F.LNK_HSTAT.LTSSM 2 10, 2, by decide +kernel⟩,
    ⟨((act State.reset).wr F.LNK_HSTAT.LTSSM 2 8), 2, by decide +kernel⟩⟩

open W09 in
theorem witness_HeadsAreHeldResetAndIdled :
    (∃ (s : State) (n : Fin 16), (headExists s n = true) ∧ (s.rd F.LNK_HSTAT.CTLST n ≠ 0)) ∧
    (∃ (s : State) (n : Fin 16), (headExists s n = true) ∧ (s.rd F.LNK_HSTAT.CTLST n = 0)) ∧
    (∃ (s : State) (n : Fin 16), (headExists s n = true) ∧ (s.rd F.LNK_HSTAT.CTLST n = 0) ∧ (s.flag F.LNK_HCTL.HOLD n = false)) ∧
    (∃ (s : State) (n : Fin 16) (hot : Bool), (headExists s n = true)) ∧
    (∃ (s : State) (n : Fin 16), (headExists s n = true) ∧ (s.rd F.LNK_HSTAT.CTLST n = 3) ∧ (s.rd F.LNK_HSTAT.LTSSM n = 3)) ∧
    (∃ (s : State) (n : Fin 16) (d : LowPower), s.rd F.LNK_HSTAT.CTLST n = 3 ∧ s.rd F.LNK_HSTAT.LTSSM n = 3 ∧ d ≠ .l0 ∧ (∀ a,
      d = .l0p a → s.flag F.LNK_HSTAT.FLIT n = true ∧ 1 ≤ a ∧ a ≤ s.rd F.LNK_HSTAT.WIDTH n)) ∧
    (∃ (s : State) (n : Fin 16), (s.rd F.LNK_HSTAT.CTLST n = 3) ∧ (s.rd F.LNK_HSTAT.LTSSM n = 6 ∨ s.rd F.LNK_HSTAT.LTSSM n = 7)) ∧
    (∃ (s : State) (p : Fin 8) (h : Fin 2), (s.flag F.LNK_PCFG.X8X2 p = false) ∧ ((∀ k : Fin 2,
      sget 0 s.lnk.pll (2 * p.val + k.val) = 1 ∨ sget 0 s.lnk.pll (2 * p.val + k.val) = 2))) ∧
    (∃ (s : State) (p : Fin 8) (h : Fin 2), (s.flag F.LNK_PCFG.X8X2 p = true) ∧ (sget 0 s.lnk.pll (2 * p + h) = 1)) ∧
    (∃ (s : State) (n : Fin 16) (lanes : BitVec 16), ((s.head n).attempt = true)) ∧
    (∃ (s : State) (n : Fin 16), (s.rd F.LNK_HSTAT.LTSSM n = 10)) :=
  ⟨⟨(act State.reset), 2, by decide +kernel⟩,
    ⟨(pl State.reset |>.wr F.LNK_HSTAT.CTLST 2 0), 2, by decide +kernel⟩,
    ⟨(pl State.reset |>.wr F.LNK_HSTAT.CTLST 2 0|>.off F.LNK_HCTL.HOLD 2), 2, by decide +kernel⟩,
    ⟨(act State.reset), 2, true, by decide +kernel⟩,
    ⟨(act State.reset), 2, by decide +kernel⟩,
    ⟨(State.reset.wr F.LNK_HSTAT.CTLST 2 3).wr F.LNK_HSTAT.LTSSM 2 3, 2, .l1, by decide +kernel, by decide +kernel, by decide,
      fun a h => by cases h⟩,
    ⟨(act State.reset|>.wr F.LNK_HSTAT.LTSSM 2 6), 2, by decide +kernel⟩,
    ⟨{ex0 State.reset with lnk := {State.reset.lnk with pll := [(2,1),(3,1)]}}, 1, 1, by decide +kernel⟩,
    ⟨{(ex0 State.reset).on F.LNK_PCFG.X8X2 1 with lnk := {State.reset.lnk with pll := [(2,1),(3,1)]}}, 1, 1, by decide +kernel⟩,
    ⟨(att State.reset), 2, 0xff, by decide +kernel⟩,
    ⟨(pl State.reset |>.wr F.LNK_HSTAT.LTSSM 2 10), 2, by decide +kernel⟩⟩

open W09 in
theorem witness_LanesAreChargedRetiredAndLooped :
    (∃ (s : State) (n : Fin 16) (g : Nat), ((s.head n).attempt = true) ∧ (g ∈ chargedLanes s n false)) ∧
    (∃ (s : State) (n : Fin 16) (g : Nat) (t1 : Nat) (t2 : Nat), ((s.head n).attempt = true) ∧ (g ∈ chargedLanes s n false) ∧
      (sget [] s.lnk.charges g = [t1, t2])) ∧
    (∃ (s : State) (n : Nat) (g : Nat), (g ∈ lanesIn s n) ∧ (s.rd F.LNK_LSTAT.STAGE g = 0)) ∧
    (∃ (s : State) (lane : Fin 128) (stage : Fin 8) (pol : Bool) (rx : Word), ((s.head (laneHead s lane)).attempt = true) ∧
      (laneRetired s lane = false) ∧ (2 ≤ stage.val) ∧ (stage.val ≤ 5) ∧ (s.rd F.LNK_LSTAT.STAGE lane ≠ 0)) ∧
    (∃ (s : State) (lane : Fin 128) (pre : BitVec 6) (post : BitVec 6), ((s.head (laneHead s lane)).attempt = true)) ∧
    (∃ (s : State) (n : Nat) (g : Nat), (s.flag F.LNK_LTXEQ.OVR g = true)) ∧
    (∃ (s : State) (lane : Fin 128) (v : Word), (F.LNK_LLB.MODE.of v = 1 ∨ F.LNK_LLB.MODE.of v = 2)) ∧
    (∃ (s : State) (lane : Fin 128) (v : Word), (F.LNK_LLB.MODE.of v = 3)) ∧
    (∃ (s : State) (lane : Fin 128), (s.rd F.LNK_LLB.MODE lane ≠ 0)) ∧
    (∃ (s : State) (lane : Fin 128), (s.flag F.LNK_LLB.LOCK lane = true)) ∧
    (∃ (s : State) (n : Fin 16), (headExists s n = true)) ∧
    (∃ (s : State) (n : Fin 16), (headExists s n = true)) ∧
    (∃ (s : State) (n : Fin 16), ((s.head n).recWindow ≠ s.dtcNow / 1000000000)) :=
  ⟨⟨(ch State.reset), 2, 27, by decide +kernel⟩,
    ⟨({ch State.reset with lnk := {(ch State.reset).lnk with charges := [(27,[(ch State.reset).stamp,5])]}}), 2, 27, ((ch State.reset).stamp), 5,
      by decide +kernel⟩,
    ⟨(State.reset.wr F.LNK_HSTAT.CTLST 2 2), 2, 16, by decide +kernel⟩,
    ⟨(ch State.reset), 27, 5, true, 0x7a7a7a7b, by decide +kernel⟩,
    ⟨(ch State.reset), 27, 4, 12, by decide +kernel⟩,
    ⟨(State.reset.on F.LNK_LTXEQ.OVR 27), 2, 27, by decide +kernel⟩,
    ⟨(ch State.reset), 27, 2, by decide +kernel⟩,
    ⟨ch State.reset, 27, 3, by decide +kernel⟩,
    ⟨(State.reset.wr F.LNK_LLB.MODE 27 2), 27, by decide +kernel⟩,
    ⟨(State.reset.on F.LNK_LLB.LOCK 27), 27, by decide +kernel⟩,
    ⟨(ex0 State.reset), 2, by decide +kernel⟩,
    ⟨(ex0 State.reset), 2, by decide +kernel⟩,
    ⟨(far State.reset), 2, by decide +kernel⟩⟩

namespace W10
def dr (b : State) : State :=
  let t := ((((((b.on F.DDR_ILV.SEAL 0).wr F.DDR_CFG.KIND 0 1).wr F.DDR_CFG.RANKS 0 1).wr F.DDR_CFG.DENS 0 0).wr F.DDR_ILV.WAYS 0 0).wr F.DDR_ILV.POS 0 0).wr F.DDR_ILVBASE.BASE 0 0
  {t with ddr := {t.ddr with members := 1}}.wr F.DDR_STAT.STATE 0 2
def pe (e : PtEntry) (b : State) : State := (dr b).setPt 3 e |>.off F.COH_PT_STAT.BUSY 0
def v (op : Nat) : Word := BitVec.ofNat 32 (3 + op * 65536)
def dat (m a w st : Nat) (b : State) : State := (((b.wr F.COH_PT_DATA1.MODE 0 m).wr F.COH_PT_DATA0.ACC 0 a).wr F.COH_PT_DATA0.WR 0 w).wr F.COH_PT_DATA1.STATIC 0 st |>.wr F.COH_PT_DATA2.HPA 0 0 |>.on F.LNK_HCFG.EXISTS 2 |>.on F.LNK_HCFG.EXISTS 3 |>.off F.LNK_HCFG.EXISTS 5|>.on F.COH_HEAD.TYPE 2
def old (b : State) : State := let t := pe ⟨2,4,4,true,0,0,true,false⟩ b; {t with coh := {t.coh with ptOld := some (3, .free)}}.on F.COH_PT_STAT.BUSY 0
def cl (r : Bool) (b : State) : State := let t := pe ⟨2,4,4,true,0,2,false,r⟩ b; {t with coh := {t.coh with clearQ := [3]}}.setChan 0 {ChanRec.init with lines := [(0xC00001, some ⟨5,0⟩)], lineMap := [⟨0xC00002, 0, 5⟩]}
def rq (c id : Nat) (op : NetOp) (i : Intent := .none) : Req := ⟨op, 5, 9, 7, ⟨c, id⟩, 0x30000040, 64, 0, i⟩
def hs (b : State) : State :=
  let t := (dr b).on F.LNK_HCFG.EXISTS 2 |>.wr F.LNK_HSTAT.CTLST 2 3 |>.on F.LNK_HSTAT.UP 2 |>.on F.LNK_HSTAT.CXLUP 2 |>.wr F.KRV_KNK_STAT.DETOUR 0 0 |>.wr F.KRV_KNK_STAT.DETOUR 1 0|>.wr F.KRV_KNK_STAT.DETOUR 2 0|>.wr F.KRV_KNK_STAT.DETOUR 3 0|>.off F.LNK_PCFG.X8X2 1|>.wr F.DDR_ILV.GRAN 0 0
  {t with coh := {t.coh with xlat := [(512, ⟨true, 0, 3, 1⟩)]}}
def dcs (b : State) : State := {b.off F.LNK_PCFG.X8X2 1 with coh := {b.coh with dc := [((2048+5)*16+3, some ⟨2,5,true,true,99,0⟩)]}}
def fw (b : State) : State := let t := pe ⟨5,4,4,false,9,0,false,false⟩ (dcs b); {t with coh := {t.coh with dcWait := [(7, rq 0 2 .read)]}}
def sn (b : State) (del : Bool) (v : Bool) (l : List Snoop) : State := {dr b with coh := {b.coh with pend := [⟨0, 0xC00001, v, false, none, ⟨2, true, 0, 50, del⟩ :: l, none, .none, []⟩]}}
def vr (b : State) (c : Nat) : State := {b with coh := {b.coh with reports := [⟨1, ⟨0,2⟩, 77, true, 0x12345678901, 3, 0x55, 99⟩]}}.wr F.COH_VLOG_CTL.COUNT 0 c
def rq0 (t : Tag) : Req := ⟨.read, 5, 9, 7, t, 0x30000040, 64, 0, .none⟩
end W10

open W10 in
theorem witness_PartitionCommandsChangeTheTable :
    (∃ (s : State) (v : Word) (k : Nat), (k = F.COH_PT_CMD.EXT.of v) ∧ (F.COH_PT_CMD.OP.of v = 1) ∧ (s.flag F.COH_PT_STAT.BUSY 0 = false) ∧
      (k ≤ 24575) ∧ (sget 0 s.coh.masterBad k = 0)) ∧
    (∃ (s : State) (v : Word) (k : Nat), (k = F.COH_PT_CMD.EXT.of v) ∧ (F.COH_PT_CMD.OP.of v = 2) ∧ (s.flag F.COH_PT_STAT.BUSY 0 = false) ∧
      (k ≤ 24575) ∧ (sget 0 s.coh.masterBad k = 0)) ∧
    (∃ (s : State) (v : Word) (k : Nat), (k = F.COH_PT_CMD.EXT.of v) ∧ (F.COH_PT_CMD.OP.of v = 3) ∧ (s.flag F.COH_PT_STAT.BUSY 0 = false) ∧
      (k ≤ 24575) ∧ (sget 0 s.coh.masterBad k = 0) ∧ ((s.ptEntry k).st = 0) ∧ (1 ≤ (s.ptEntry k).mode) ∧ ((s.ptEntry k).mode ≤ 3)) ∧
    (∃ (s : State) (v : Word) (k : Nat), (k = F.COH_PT_CMD.EXT.of v) ∧ (F.COH_PT_CMD.OP.of v = 4) ∧ (s.flag F.COH_PT_STAT.BUSY 0 = false) ∧
      (k ≤ 24575) ∧ (sget 0 s.coh.masterBad k = 0)) ∧
    (∃ (s : State) (v : Word) (k : Nat), (k = F.COH_PT_CMD.EXT.of v) ∧ (F.COH_PT_CMD.OP.of v = 4)) ∧
    (∃ (s : State), (s.flag F.COH_PT_STAT.BUSY 0 = true)) ∧
    (∃ (s : State) (k : Nat) (e : PtEntry), (e = s.ptEntry k) ∧ (e.rel = true) ∧ (e.st = 1) ∧ (s.coh.ptOld = none) ∧ (extDrained s k = true) ∧
      (walkOf s k = false) ∧ (cacheDrained s e = true)) ∧
    (∃ (s : State) (k : Nat) (e : PtEntry), (e = s.ptEntry k) ∧ (e.st = 2) ∧ (s.coh.ptOld = none) ∧ (clearTurn s k = true)) ∧
    (∃ (s : State) (k : Nat), (k < 24576)) ∧
    (∃ (s : State) (n : Fin 12) (k : Nat), (sget 0 s.coh.masterBad k = 0)) :=
  ⟨⟨(pe ⟨2,12,4,true,0,0,true,false⟩ State.reset), (v 1), 3, by decide +kernel⟩,
    ⟨(dat 2 12 4 1 (pe ⟨2,12,4,true,0,0,true,false⟩ State.reset)), (v 2), 3, by decide +kernel⟩,
    ⟨(dat 2 4 4 0 (pe ⟨2,12,12,true,0,0,true,false⟩ State.reset)), (v 3), 3, by decide +kernel⟩,
    ⟨(pe ⟨1,4,4,true,0,0,true,false⟩ State.reset), (v 4), 3, by decide +kernel⟩,
    ⟨(pe ⟨5,4,4,true,0,1,true,false⟩ State.reset), (v 4), 3, by decide +kernel⟩,
    ⟨(old State.reset), by decide +kernel⟩,
    ⟨(pe ⟨2,4,4,true,0,1,true,true⟩ State.reset), 3, ⟨2,4,4,true,0,1,true,true⟩, by decide +kernel⟩,
    ⟨(cl false State.reset), 3, ⟨2,4,4,true,0,2,false,false⟩, by decide +kernel⟩,
    ⟨(dr State.reset), 3, by decide +kernel⟩,
    ⟨(let t := dr State.reset; {t with coh := {t.coh with replicaBad := [(3,1)]}}), 0, 3, by decide +kernel⟩⟩

open W10 in
theorem witness_FrontEndsAdmitAndDirectoriesDecide :
    (∃ (s : State) (n : Nat) (t : Nat) (r : Req) (e : PtEntry), (e = feEntry s (r.da / 2 ^ 28)) ∧ (r.tag = ⟨0, t⟩) ∧
      (entryBad s n (r.da / 2 ^ 28) = false)) ∧
    (∃ (s : State) (n : Nat) (t : Nat) (c : Nat) (r : Req) (e : PtEntry), (e = feEntry s (r.da / 2 ^ 28)) ∧ (r.tag = ⟨c, t⟩) ∧ (c = 1 ∨ c = 2) ∧
      (t < 16) ∧ (entryBad s n (r.da / 2 ^ 28) = false)) ∧
    (∃ (s : State) (n : Nat) (r : Req) (e : PtEntry), (e = feEntry s (r.da / 2 ^ 28)) ∧ (r.tag = ⟨1, 16⟩) ∧ (entryBad s n (r.da / 2 ^ 28) = false)) ∧
    (∃ (s : State) (n : Nat) (t : Nat) (c : Nat) (r : Req) (e : PtEntry), (e = feEntry s (r.da / 2 ^ 28)) ∧ (r.tag = ⟨c, t⟩) ∧ (c = 3 ∨ c = 4) ∧
      (entryBad s n (r.da / 2 ^ 28) = false)) ∧
    (∃ (s : State) (n : Nat) (r : Req), entryBad s n (r.da / 2 ^ 28) = true) ∧
    (∃ (s : State) (n : Nat) (r : Req) (reason : Nat) (victims : Nat), (partitionCheck s n r = some (reason, victims))) ∧
    (∃ (line : Nat) (m : Nat) (n : Nat) (e : DirEntry) (r : Req) (own : Bool), (e = ⟨line, true, 2 ^ m⟩) ∧ (m ≠ n) ∧ (r.op = .read)) ∧
    (∃ (line : Nat) (x : Nat) (n : Nat) (e : DirEntry) (r : Req) (own : Bool), (e = ⟨line, false, x⟩) ∧ (x ≠ 0) ∧ (r.op = .read)) ∧
    (∃ (line : Nat) (x : Nat) (n : Nat) (e : DirEntry) (r : Req) (own : Bool) (excl : Bool), (e = ⟨line, excl, x⟩) ∧ (r.op = .write) ∧
      (¬(excl = true ∧ x = 2 ^ n))) ∧
    (∃ (line : Nat) (n : Nat) (e : DirEntry) (r : Req) (own : Bool), (e = ⟨line, true, 2 ^ n⟩)) :=
  ⟨⟨State.reset, 0, 2, rq0 ⟨0, 2⟩, ⟨0, 0, 0, false, 0, 0, false, false⟩, by decide +kernel⟩,
    ⟨State.reset, 0, 2, 1, rq0 ⟨1, 2⟩, ⟨0, 0, 0, false, 0, 0, false, false⟩, by decide +kernel⟩,
    ⟨State.reset, 0, rq0 ⟨1, 16⟩, ⟨0, 0, 0, false, 0, 0, false, false⟩, by decide +kernel⟩,
    ⟨State.reset, 0, 18, 4, rq0 ⟨4, 18⟩, ⟨0, 0, 0, false, 0, 0, false, false⟩, by decide +kernel⟩,
    ⟨{ State.reset with coh := { State.reset.coh with masterBad := [(3, 1)] } }, 0, rq0 ⟨0, 2⟩, by decide +kernel⟩,
    ⟨State.reset, 0, rq0 ⟨0, 2⟩, 2, 0, by decide +kernel⟩,
    ⟨5, 2, 3, ⟨5, true, 4⟩, rq0 ⟨0, 2⟩, true, by decide +kernel⟩,
    ⟨5, 6, 3, ⟨5, false, 6⟩, rq0 ⟨0, 2⟩, true, by decide +kernel⟩,
    ⟨5, 6, 3, ⟨5, false, 6⟩, { rq0 ⟨0, 2⟩ with op := .write }, true, false, by decide +kernel⟩,
    ⟨5, 2, ⟨5, true, 4⟩, rq0 ⟨0, 2⟩, true, by decide +kernel⟩⟩

open W10 in
theorem witness_HostsReadWriteAndKeepTheirLines :
    (∃ (s : State) (s1 : State) (n : Fin 16) (id : HostId) (dpa : Nat) (da : Nat) (c : Nat) (ca : Nat) (txn : Nat) (i : Intent) (path : List Nat),
      (cxlReady s n = true) ∧ (s1 = { s with coh := { s.coh with hostPort := sset 0 s.coh.hostPort n id.port } }) ∧
      (translate s n (dpa / 64 * 64) = some da) ∧ (decodeDa s da = .dram c ca) ∧ (freeTxn s (headEp s n da) = some txn) ∧ (da % 64 = 0) ∧
      (leafRoute s (epLeaf (headEp s n da)) (epLeaf (channelEp c)) = some path)) ∧
    (∃ (s : State) (s1 : State) (n : Fin 16) (id : HostId) (dpa : Nat) (da : Nat) (c : Nat) (ca : Nat) (txn : Nat) (len : Nat) (data : Line) (i : Intent) (path : List Nat),
      (cxlReady s n = true) ∧ (s1 = { s with coh := { s.coh with hostPort := sset 0 s.coh.hostPort n id.port } }) ∧ (translate s n dpa = some da) ∧
      (decodeDa s da = .dram c ca) ∧ (freeTxn s (headEp s n da) = some txn) ∧ (0 < len) ∧ (da % 64 + len ≤ 64) ∧
      (leafRoute s (epLeaf (headEp s n da)) (epLeaf (channelEp c)) = some path)) ∧
    (∃ (s : State) (n : Fin 16) (id : HostId) (dpa : Nat) (i : Intent), (cxlReady s n = true) ∧ (translate s n (dpa / 64 * 64) = none)) ∧
    (∃ (s : State) (n : Nat) (dpa : Nat) (r : Nat) (x : XRange), (r < 256) ∧ (x = sget XRange.none s.coh.xlat (256 * n + r)) ∧ (x.valid = true) ∧
      (x.dpaBase * 2 ^ 28 ≤ dpa) ∧ (dpa < (x.dpaBase + x.count) * 2 ^ 28) ∧ (dpa < 2 ^ 43) ∧ ((∀ q : Nat,
      q < r → (sget XRange.none s.coh.xlat (256 * n + q)).valid = false))) ∧
    (∃ (s : State) (v : Word) (k : Nat), (k = 256 * F.COH_XM_CMD.HEAD.of v + F.COH_XM_CMD.RANGE.of v) ∧ (F.COH_XM_CMD.OP.of v = 2)) ∧
    (∃ (s : State) (v : Word) (x : XRange), (x = sget XRange.none s.coh.xlat (256 * F.COH_XM_CMD.HEAD.of v + F.COH_XM_CMD.RANGE.of v)) ∧
      (F.COH_XM_CMD.OP.of v = 1)) ∧
    (∃ (s : State) (n : Fin 16) (ext : Nat) (accept : Bool), (ext ∈ sget [] s.coh.offered n)) ∧
    (∃ (s : State) (n : Fin 16) (line : Nat) (w : Nat) (d : DcLine) (inv : Bool), (dcFind s n line = some (w, d)) ∧ (d.err = 0)) ∧
    (∃ (s : State) (n : Fin 16) (line : Nat) (w : Nat) (d : DcLine) (inv : Bool), (dcFind s n line = some (w, d)) ∧ (dcBad d = true)) ∧
    (∃ (s : State) (n : Fin 16) (line : Nat) (inv : Bool) (u : Upset), (dcFind s n line = none)) ∧
    (∃ (s : State) (n : Fin 16) (line : Nat) (w : Nat) (r : Req) (own : Bool) (data : Line), (s.coh.dcWait = [(line, r)]) ∧ (agentHead s r = n) ∧
      (r.op = .read) ∧ (dcFind s n line = none) ∧ ((headWays s n).find? (fun w => (dcAt s n line w).isNone) = some w) ∧ ((∀ e ∈ s.coh.pt,
      e.2.rel = false))) ∧
    (∃ (s : State) (n : Fin 16) (line : Nat) (r : Req) (own : Bool) (data : Line), (s.coh.dcWait = [(line, r)]) ∧ (agentHead s r = n) ∧
      (r.op = .read)) :=
  ⟨⟨(hs State.reset), { (hs State.reset) with coh := { (hs State.reset).coh with hostPort := sset 0 (hs State.reset).coh.hostPort 2 5 } }, 2, ⟨77,
      5⟩, 0x47, 0x30000040, 0, 0x30000040, 0, .shared, [], by decide +kernel⟩,
    ⟨(hs State.reset), { (hs State.reset) with coh := { (hs State.reset).coh with hostPort := sset 0 (hs State.reset).coh.hostPort 2 5 } }, 2, ⟨77,
      5⟩, 0x47, 0x30000047, 0, 0x30000047, 0, 5, 99, .shared, [], by decide +kernel⟩,
    ⟨(hs State.reset), 2, ⟨77, 5⟩, 0x10000047, .shared, by decide +kernel⟩,
    ⟨(hs State.reset), 2, 0x47, 0, ⟨true, 0, 3, 1⟩, by decide +kernel⟩,
    ⟨(hs State.reset), 0x2032, 515, by decide +kernel⟩,
    ⟨(hs State.reset), 0x1002, ⟨true, 0, 3, 1⟩, by decide +kernel⟩,
    ⟨{State.reset with coh := {State.reset.coh with offered := [(2,[5,6])]}}, 2, 6, true, by decide +kernel⟩,
    ⟨(dcs State.reset), 2, 5, 3, ⟨2,5,true,true,99,0⟩, true, by decide +kernel⟩,
    ⟨{dcs State.reset with coh := {State.reset.coh with dc := [((2048+5)*16+3, some ⟨2,5,true,true,99,3⟩)]}}, 2, 5, 3, ⟨2,5,true,true,99,3⟩, true,
      by decide +kernel⟩,
    ⟨State.reset, 2, 0xC00001, true, Upset.none, by decide +kernel⟩,
    ⟨(fw State.reset), 2, 7, 0, (rq 0 2 .read), true, 123456, by decide +kernel⟩,
    ⟨(fw State.reset), 2, 7, (rq 0 2 .read), true, 123456, by decide +kernel⟩⟩

open W10 in
theorem witness_SnoopsAreAnsweredAndViolationsLogged :
    (∃ (s : State) (n : Fin 16) (line : Nat) (p : PendLine) (q : Snoop), (snoopFor s n line = some (p, q)) ∧ (q.delivered = false) ∧
      (headUp s n = true) ∧ ((reach (.snoop n line q.inv) s).isSome = true)) ∧
    (∃ (s : State) (n : Fin 16) (line : Nat), (headUp s n = false)) ∧
    (∃ (s : State) (n : Fin 16) (p : PendLine) (q : Snoop) (d : Line), ((s.coh.pend = [p]) ∧ (p.snoops = [q]) ∧ (q.head = n) ∧
      (q.delivered = true) ∧ (p.victim = true) ∧ (p.req = none) ∧ (p.waiting = []) ∧ (p.discard = false) ∧ (s.coh.stalled = []) ∧
      (s.coh.walks = [])) ∧ (∃ u, snoopReturns n p.line q.inv none s = some u) ∧ ∃ u, snoopReturns n p.line q.inv (some d) s = some u) ∧
    (∃ (s : State) (n : Fin 16) (p : PendLine) (q : Snoop) (q2 : Snoop) (l : List Snoop), (s.coh.pend = [p]) ∧ (p.snoops = q :: q2 :: l) ∧
      (q.head = n) ∧ (q.delivered = true) ∧ ((∀ x ∈ q2 :: l, x.head ≠ n)) ∧ (s.coh.walks = []) ∧ ((snoopReturns n p.line q.inv none s).isSome = true)) ∧
    (∃ (s : State) (n : Fin 16) (p : PendLine) (q : Snoop) (q2 : Snoop) (l : List Snoop), (s.coh.pend = [p]) ∧ (p.snoops = q :: q2 :: l) ∧
      (q.head = n) ∧ ((∀ x ∈ q2 :: l, x.head ≠ n)) ∧ (s.coh.walks = []) ∧ (s.expired q.sentAt q.window = true) ∧
      (s.flag F.COH_HEAD.FENCED n = false) ∧ (p.exclWas = none)) ∧
    (∃ (s : State) (leaf : Fin 4) (w : WalkRec) (n : Nat), (s.coh.walks = [w]) ∧ (w = ⟨.head n, [], [], [leaf.val], []⟩) ∧ (n < 16) ∧
      (s.coh.fenceReset.getLsbD n = true) ∧ (mntTicket s 8 leaf = none)) ∧
    (∃ (s : State) (v : VioReport) (l : List VioReport) (c : Nat), (s.coh.reports = v :: l) ∧ (c = s.rd F.COH_VLOG_CTL.COUNT 0) ∧ (c < 32)) ∧
    (∃ (s : State) (v : VioReport) (l : List VioReport), (s.coh.reports = v :: l) ∧ (s.rd F.COH_VLOG_CTL.COUNT 0 = 32)) ∧
    (∃ (s : State) (v : Word) (c : Nat), (F.COH_VLOG_CTL.POP.of v = 1) ∧ (c = s.rd F.COH_VLOG_CTL.COUNT 0) ∧ (c ≠ 0)) :=
  ⟨⟨{ (State.reset.wr F.LNK_HSTAT.CTLST 2 3).wr F.LNK_HSTAT.LTSSM 2 3 with coh := { State.reset.coh with pend := [⟨0, 9, false, false, none, [⟨2, true, 5, 7, false⟩], none, ⟨9, false, 0⟩, []⟩] } },
      2, 9, _, _, rfl, rfl, by decide +kernel, by decide +kernel⟩,
    ⟨State.reset, 2, 9, by decide +kernel⟩,
    ⟨{ sn State.reset true true [] with knk := { State.reset.knk with carrying := true } }, 2, ⟨0, 0xC00001, true, false, none, [⟨2, true, 0, 50,
      true⟩], none, .none, []⟩, ⟨2, true, 0, 50, true⟩, 777, by decide +kernel, Option.isSome_iff_exists.mp (by decide +kernel),
      Option.isSome_iff_exists.mp (by decide +kernel)⟩,
    ⟨{ sn State.reset true true [⟨3, true, 0, 50, true⟩] with knk := { State.reset.knk with carrying := true } }, 2, ⟨0, 0xC00001, true, false,
      none, [⟨2, true, 0, 50, true⟩,⟨3, true, 0, 50, true⟩], none, .none, []⟩, ⟨2, true, 0, 50, true⟩, ⟨3, true, 0, 50, true⟩, [], by decide +kernel⟩,
    ⟨({sn State.reset true true [⟨3, true, 0, 50, true⟩] with clk := {State.reset.clk with dtc := BitVec.ofNat 96 (2^90)}}.off F.COH_HEAD.FENCED 2),
      2, ⟨0, 0xC00001, true, false, none, [⟨2, true, 0, 50, true⟩,⟨3, true, 0, 50, true⟩], none, .none, []⟩, ⟨2, true, 0, 50, true⟩, ⟨3, true, 0, 50,
      true⟩, [], by decide +kernel⟩,
    ⟨{State.reset with coh := {State.reset.coh with walks := [⟨.head 2, [], [], [1], []⟩], fenceReset := 4}}, 1, ⟨.head 2, [], [], [1], []⟩, 2,
      by decide +kernel⟩,
    ⟨(vr State.reset 31), ⟨1, ⟨0,2⟩, 77, true, 0x12345678901, 3, 0x55, 99⟩, [], 31, by decide +kernel⟩,
    ⟨(vr State.reset 32), ⟨1, ⟨0,2⟩, 77, true, 0x12345678901, 3, 0x55, 99⟩, [], by decide +kernel⟩,
    ⟨(vr State.reset 32), 0x80000000, 32, by decide +kernel⟩⟩

namespace W11
def dr (b : State) : State :=
  let t := ((((((b.on F.DDR_ILV.SEAL 0).wr F.DDR_CFG.KIND 0 1).wr F.DDR_CFG.RANKS 0 1).wr F.DDR_CFG.DENS 0 0).wr F.DDR_ILV.WAYS 0 0).wr F.DDR_ILV.POS 0 0).wr F.DDR_ILVBASE.BASE 0 0
  {t with ddr := {t.ddr with members := 1}}.wr F.DDR_STAT.STATE 0 2 |>.wr F.DDR_ILV.GRAN 0 0
def rq : Req := ⟨.read, 5, 9, 7, ⟨0, 2⟩, 0x30000048, 8, 0, .none⟩
def e1 : RdEntry := ⟨rq, 0xC00001, 3⟩
def e2 : RdEntry := ⟨rq, 0xC00002, 3⟩
def w1 : WrEntry := ⟨0xC00001, 77, 3⟩
def ch (b : State) (c : ChanRec) : State := (dr b).setChan 0 c |>.wr F.DDR_SCHED.WHI 0 10 |>.wr F.DDR_SCHED.WLO 0 2
def dl : DramLine := ⟨5, (BitVec.ofNat 640 0xff) <<< (64*3)⟩
def dc : ChanRec := {ChanRec.init with rq := [e2], lines := [(0xC00001, some dl)], demand := [(1, some 0xC00001)]}
def pc : ChanRec := {ChanRec.init with lines := [(77, some ⟨6,0⟩)], passStart := 0, passLen := 100}
def ps (b : State) : State := let t := (ch b pc).on F.DDR_PAT_CTL.EN 0 |>.wr F.DDR_PAT_POS_LO.LINE 0 77 |>.wr F.DDR_PAT_POS_HI.LINE32 0 0
  {t with clk := {t.clk with dtc := BitVec.ofNat 96 (2^35)}}
def ps2 (b : State) : State := let t := (ch b {pc with passLen := 2^40}).on F.DDR_PAT_CTL.EN 0 |>.wr F.DDR_PAT_POS_LO.LINE 0 77 |>.wr F.DDR_PAT_POS_HI.LINE32 0 0
  {t with clk := {t.clk with dtc := BitVec.ofNat 96 (2^50)}}
def rs (b : State) (c : ChanRec) : State := ch b c |>.off F.DDR_RMP_STAT.BUSY 0
def us (b : State) : State := (List.range 12).foldl (fun t n => t.off F.DDR_ILV.SEAL n |>.off F.DDR_CTL.INSERVICE n) b
def rf (b : State) : State := ch b {ChanRec.init with open_ := [(7, (5+1, 0)), (32+9,(3,3)),(32+10,(3,3)), (32*8+38,(4,4))], owed := [(1,2)]}
def far (b : State) : State := {b with clk := {b.clk with dtc := BitVec.ofNat 96 (2^90)}}
def st (k : Nat) (b : State) : State := ch b ChanRec.init |>.wr F.DDR_STAT.STATE 0 k
def sg (b : State) : State := b.on F.DDR_TIM_SHCTL.VALID 0 |>.wr F.DDR_TIM_SHADOW0.RATE 0 2 |>.wr F.DDR_CFG.DPC 0 0 |>.wr F.DDR_TIM_SHADOW0.MCKDIV 0 20 |>.wr F.CLK_ROOT_CFG.MULT 0 80 |>.wr F.DDR_CFG.KIND 0 1
def tv (mode pat : Nat) : Word := setF (setF (setF (setF (setF 0 0 2 mode) 2 2 1) 4 3 pat) 16 12 1) 31 1 1
def tn (b : State) : State := ch b dc |>.wr F.DDR_STAT.STATE 0 6 |>.off F.DDR_TRN_STAT.BUSY 0 |>.wr F.DDR_TRN_ADDR.LINE 0 0xC00002
end W11

open W11 in
theorem witness_OneBadDeviceIsCorrected :
    ∃ (x : Line) (dev : Fin 10) (v : BitVec 64), (v ≠ 0) :=
  ⟨0, 9, 0x8000000000000001, by decide +kernel⟩

open W11 in
theorem witness_ChannelsServeScrubAndRemap :
    (∃ (s : State) (n : Fin 12) (sc : Fin 2) (c : ChanRec) (e : RdEntry) (d : DramLine), (c = s.chan n) ∧ (chanState s n = 2 ∨ chanState s n = 4) ∧
      (c.rq.filter (fun e => e.line % 2 == sc.val) = [e]) ∧ (c.drain.getLsbD sc = false) ∧ (c.fe = []) ∧ ((∀ r ∈ c.rowMap, r.copying = false)) ∧
      (sget none c.lines (physLine s n e.line) = some d) ∧ (d.err = 0 ∨ d.err = poisonErr)) ∧
    (∃ (s : State) (n : Fin 12) (sc : Fin 2) (c : ChanRec) (e : WrEntry), (c = s.chan n) ∧ (chanState s n = 2 ∨ chanState s n = 4) ∧
      (c.wq.filter (fun e => e.line % 2 == sc.val) = [e]) ∧ (c.drain.getLsbD sc = true) ∧ (c.fe = []) ∧ ((∀ r ∈ c.rowMap, r.copying = false))) ∧
    (∃ (s : State) (n : Fin 12) (sc : Fin 2) (line : Nat) (dev : Nat) (d : DramLine) (c : ChanRec), (c = s.chan n) ∧ (chanState s n = 2) ∧
      (sget none c.demand sc = some line) ∧ ((∀ e ∈ c.rq, e.line % 2 ≠ sc.val)) ∧ (queuedWrite c line = none) ∧
      (stored s n (physLine s n line) = d) ∧ (classify (failedAt s n line) d = .corrected dev) ∧ (c.hist = [])) ∧
    (∃ (s : State) (n : Fin 12) (sc : Fin 2) (line : Nat) (dev : Nat) (h : Correction) (c : ChanRec), (c = s.chan n) ∧ (chanState s n = 2) ∧
      (sget none c.demand sc = some line) ∧ ((∀ e ∈ c.rq, e.line % 2 ≠ sc.val)) ∧
      (classify (failedAt s n line) (stored s n (physLine s n line)) = .corrected dev) ∧ (h ∈ c.hist) ∧ (h.line = physLine s n line) ∧
      (h.dev = dev) ∧ (s.dtcNow ≤ h.stamp + 3600000000000 * s.rd F.DDR_ECC_CTL.PERMWIN n)) ∧
    (∃ (s : State) (n : Fin 12) (d : DramLine) (c : ChanRec) (pos : Nat), (c = s.chan n) ∧ (pos = patrolPos s n) ∧ (chanState s n = 2) ∧
      (s.flag F.DDR_PAT_CTL.EN n = true) ∧ (c.rq = []) ∧ (c.lagging = false) ∧ ((patrolIdx s n).2 < patrolDue s n) ∧
      (patrolDue s n - (patrolIdx s n).2 < 65536) ∧ (pos + 1 < mapLines s n) ∧ (sget none c.lines (physLine s n pos) = some d) ∧ (d.err = 0)) ∧
    (∃ (s : State) (n : Fin 12) (u : Upset), (chanState s n = 2) ∧ (s.flag F.DDR_PAT_CTL.EN n = true) ∧ (0 < mapLines s n) ∧
      ((s.chan n).lagging = false) ∧ ((patrolIdx s n).2 + 65536 ≤ patrolDue s n)) ∧
    (∃ (s : State) (n : Fin 12) (bank : Fin 512) (row : Nat) (last : Nat), (sget (0, 0) (s.chan n).open_ bank = (row + 1, last)) ∧
      (s.flag F.DDR_CTL.PAGE n = true) ∧ (s.rd F.DDR_CTL.PGTMO n ≤ mckCycles s n (s.dtcNow - last))) ∧
    (∃ (s : State) (n : Fin 12) (len : Nat), (len = 3600000000000 * s.rd F.DDR_ECC_CTL.PERMWIN n) ∧ (s.expired (s.chan n).permStart len = true)) ∧
    (∃ (s : State) (n : Fin 12) (v : Word) (line : Nat) (sp : Nat), (line = 16 * F.DDR_RMP_CMD.LINE.of v) ∧ (F.DDR_RMP_CMD.ADD.of v = 1) ∧
      (F.DDR_RMP_CMD.ROW.of v = 0) ∧ (s.flag F.DDR_RMP_STAT.BUSY n = false) ∧ (alreadyMapped s n line = false) ∧ ((s.chan n).lineMap.length < 32) ∧
      (spareFor s n line = some sp) ∧ (alreadyMapped s n sp = false)) ∧
    (∃ (s : State) (n : Fin 12) (v : Word) (line : Nat), (line = 16 * F.DDR_RMP_CMD.LINE.of v) ∧ (F.DDR_RMP_CMD.ADD.of v = 1) ∧
      (F.DDR_RMP_CMD.ROW.of v = 1) ∧ (s.flag F.DDR_RMP_STAT.BUSY n = false) ∧ (alreadyMapped s n line = false) ∧ ((s.chan n).rowMap.length < 64)) ∧
    (∃ (s : State) (n : Fin 12) (v : Word), (F.DDR_RMP_CMD.ADD.of v = 1) ∧ (s.flag F.DDR_RMP_STAT.BUSY n = false) ∧
      (alreadyMapped s n (16 * F.DDR_RMP_CMD.LINE.of v) = true)) ∧
    (∃ (s : State) (n : Fin 12) (r : RowMap), ((s.chan n).lineMap = []) ∧ ((s.chan n).rowMap = [r]) ∧ (r.copying = true) ∧ (r.copied = 0) ∧
      (r.first + 8192 ≤ mapLines s n)) :=
  ⟨⟨(ch State.reset {ChanRec.init with rq := [e2,e1], lines := [(0xC00001, some ⟨5,0⟩)]}), 0, 1,
      {ChanRec.init with rq := [e2,e1], lines := [(0xC00001, some ⟨5,0⟩)]}, e1, ⟨5,0⟩, by decide +kernel⟩,
    ⟨(ch State.reset {ChanRec.init with rq := [e2], wq := [w1], drain := 2}), 0, 1, {ChanRec.init with rq := [e2], wq := [w1], drain := 2}, w1,
      by decide +kernel⟩,
    ⟨(ch State.reset dc), 0, 1, 0xC00001, 3, dl, dc, by decide +kernel⟩,
    ⟨(ch State.reset {dc with hist := [⟨0xC00001,3,State.reset.stamp⟩]} |>.wr F.DDR_ECC_CTL.PERMWIN 0 4), 0, 1, 0xC00001, 3,
      ⟨0xC00001,3,State.reset.stamp⟩, {dc with hist := [⟨0xC00001,3,State.reset.stamp⟩]}, by decide +kernel⟩,
    ⟨(ps2 State.reset), 0, ⟨6,0⟩, {pc with passLen := 2^40}, 77, by decide +kernel⟩,
    ⟨(ps State.reset), 0, Upset.none, by decide +kernel⟩,
    ⟨(ch State.reset {ChanRec.init with open_ := [(7, (5+1, 0)), (9,(3,3))]} |>.on F.DDR_CTL.PAGE 0 |>.wr F.DDR_CTL.PGTMO 0 0), 0, 7, 5, 0,
      by decide +kernel⟩,
    ⟨{ch State.reset ChanRec.init with clk := {State.reset.clk with dtc := BitVec.ofNat 96 (2^90)}}, 0,
      (3600000000000 * State.reset.rd F.DDR_ECC_CTL.PERMWIN 0), by decide +kernel⟩,
    ⟨(rs State.reset dc |>.wr F.DDR_CTL.MAP 0 0), 0, 0x800C0001, 0xC00010, 1069547520, by decide +kernel⟩,
    ⟨(rs State.reset dc), 0, 0xC00C0001, 0xC00010, by decide +kernel⟩,
    ⟨(rs State.reset {dc with rowMap := [⟨rowFirst (rs State.reset dc) 0 0xC00010,2,true,0⟩]}), 0, 0xC00C0001, by decide +kernel⟩,
    ⟨(rs State.reset {dc with rowMap := [⟨rowFirst (rs State.reset dc) 0 0xC00001,2,true,0⟩]}), 0,
      ⟨rowFirst (rs State.reset dc) 0 0xC00001,2,true,0⟩, by decide +kernel⟩⟩

open W11 in
theorem witness_ChannelsRefreshHoldAndSeal :
    (∃ (s : State) (n : Fin 12), (ilvSealed s = false)) ∧
    (∃ (s : State) (n : Fin 12), (ilvSealed s = true)) ∧
    (∃ (s : State) (n : Fin 12) (rank : Fin 8), (chanState s n = 2) ∧ (rank.val < 2 ^ s.rd F.DDR_CFG.RANKS n)) ∧
    (∃ (s : State) (n : Fin 12) (rank : Fin 8) (temp : Nat), (chanState s n = 2) ∧ (rank.val < 2 ^ s.rd F.DDR_CFG.RANKS n)) ∧
    (∃ (s : State) (n : Fin 12) (c : ChanRec), (c = s.chan n) ∧ (chanState s n = 2) ∧ (s.rd F.DDR_SRIDLE.IDLE n ≠ 0) ∧ (nothingWaits c = true) ∧
      (c.held = []) ∧ (c.holdNext = none) ∧ (s.coh.clearQ = []) ∧ (c.emptyAt + 1000 * s.rd F.DDR_SRIDLE.IDLE n ≤ s.dtcNow)) ∧
    (∃ (s : State) (n : Fin 12) (f : Bool), (chanState s n = 3) ∧ ((s.chan n).holdNext = some f)) ∧
    (∃ (s : State) (n : Fin 12) (kind : BitVec 1), (holdAccepted s n kind.toNat = true)) ∧
    (∃ (s : State) (n : Fin 12), (chanState s n = 4) ∧ (queuesEmpty (s.chan n) = true)) ∧
    (∃ (s : State) (n : Fin 12), (chanState s n = 5) ∧ ((s.chan n).swapped = false)) ∧
    (∃ (s : State) (n : Fin 12), (chanState s n = 5) ∧ ((s.chan n).swapped = true)) ∧
    (∃ (s : State) (n : Fin 12), (chanState s n = 6) ∧ (s.flag F.DDR_TRN_STAT.SAVED n = false) ∧ ((s.chan n).held = [])) ∧
    (∃ (s : State) (n : Fin 12), (chanState s n ≠ 6 ∨ s.flag F.DDR_TRN_STAT.SAVED n = true)) :=
  ⟨⟨(dr (us State.reset) |>.off F.DDR_ILV.SEAL 0|>.on F.DDR_CTL.INSERVICE 0 |>.wr F.DDR_ILV.SET 0 0), 1, by decide +kernel⟩,
    ⟨(dr State.reset), 0, by decide +kernel⟩,
    ⟨(dr State.reset), 0, 1, by decide +kernel⟩,
    ⟨(rf State.reset), 0, 1, 96, by decide +kernel⟩,
    ⟨(far (rf State.reset) |>.wr F.DDR_SRIDLE.IDLE 0 5), 0,
      {ChanRec.init with open_ := [(7, (5+1, 0)), (32+9,(3,3)),(32+10,(3,3)), (32*8+38,(4,4))], owed := [(1,2)]}, by decide +kernel⟩,
    ⟨(ch State.reset {ChanRec.init with holdNext := some true} |>.wr F.DDR_STAT.STATE 0 3), 0, true, by decide +kernel⟩,
    ⟨(sg (st 6 State.reset)), 0, 0, by decide +kernel⟩,
    ⟨(st 4 State.reset), 0, by decide +kernel⟩,
    ⟨(st 5 State.reset), 0, by decide +kernel⟩,
    ⟨(ch State.reset {ChanRec.init with swapped := true} |>.wr F.DDR_STAT.STATE 0 5), 0, by decide +kernel⟩,
    ⟨(st 6 State.reset |>.off F.DDR_TRN_STAT.SAVED 0), 0, by decide +kernel⟩,
    ⟨(st 6 State.reset |>.on F.DDR_TRN_STAT.SAVED 0), 0, by decide +kernel⟩⟩

open W11 in
theorem witness_TrainingHelpersWorkInTheirStates :
    (∃ (s : State) (n : Fin 12) (v : Word) (l : Nat), chanState s n = 6 ∧ s.flag F.DDR_TRN_STAT.BUSY n = false ∧ F.DDR_TRN_CTL.GO.of v = 1 ∧
      F.DDR_TRN_CTL.RESTORE.of v = 0 ∧ trnLines s n v = [l]) ∧
    (∃ (s : State) (n : Fin 12) (v : Word) (l : Nat) (d : DramLine), (chanState s n = 6) ∧ (s.flag F.DDR_TRN_STAT.BUSY n = false) ∧
      (F.DDR_TRN_CTL.RESTORE.of v = 1) ∧ (s.flag F.DDR_TRN_STAT.SAVED n = true) ∧ ((s.chan n).saved = [(l, d)])) ∧
    (∃ (s : State) (n : Fin 12) (v : Word), (chanState s n ≠ 1) ∧ (chanState s n ≠ 6) ∧ (F.DDR_TRN_CTL.GO.of v = 1) ∧ (F.DDR_TRN_CTL.MODE.of v = 1)) ∧
    (∃ (s : State) (n : Fin 12), (s.flag F.DDR_TRN_STAT.BUSY n = true)) ∧
    (∃ (s : State) (n : Fin 12) (v : Word) (byte : Byte), (chanState s n = 6)) ∧
    (∃ (s : State) (n : Fin 12) (v : Word), (s.rd F.DDR_DLY_SEL.LANE n < 80)) :=
  ⟨⟨tn State.reset, 0, tv 1 6, 0xC00002, by decide +kernel⟩,
    ⟨((tn State.reset).setChan 0 {dc with saved := [(0xC00002, ⟨8,9⟩)]} |>.on F.DDR_TRN_STAT.SAVED 0), 0, 0x40000000, 0xC00002, ⟨8,9⟩,
      by decide +kernel⟩,
    ⟨(st 2 State.reset), 0, (tv 1 6), by decide +kernel⟩,
    ⟨(State.reset.on F.DDR_TRN_STAT.BUSY 0), 0, by decide +kernel⟩,
    ⟨(st 6 State.reset), 0, 0, 0, by decide +kernel⟩,
    ⟨(st 6 State.reset|>.wr F.DDR_DLY_SEL.LANE 0 79), 0, 0xffffffff, by decide +kernel⟩⟩

namespace W12
def rg (r l st own : Nat) (b : State) : State :=
  let t := ((List.range 320).foldl (fun t x => t.off F.CFG_SECT.INRGN x) b)
  let t := (((t.wr F.CFG_RGN_CFG.STATE r st).wr F.CFG_RGN_CFG.LEAF r l).wr F.CFG_RGN_CFG.OWNER r own).off F.CFG_RGN_CFG.STATIC r
  [82,83].foldl (fun t x => (t.on F.CFG_SECT.INRGN x).wr F.CFG_SECT.REGION x r) t
def ld (l : Nat) (c : Loader) (ph r : Nat) (b : State) : State := (b.setLoader l c).wr F.CFG_LDSTAT.PHASE l ph |>.wr F.CFG_LDSTAT.REGION l r
def hd : ImgHeader := ⟨3, false, 0, 2560, 100, 1⟩
def lc : Loader := {Loader.idle with op := 1, hdr := some hd, body := List.replicate 100 7}
def hb : ImgHeader := ⟨3, false, 0, 2560, 2 ^ 30, 1⟩
def bf : Loader := { Loader.idle with op := 1, hdr := some hb, body := List.replicate 131072 7, taken := 131072 }
def drained (b : State) : State := [82,83].foldl (fun t x => ((t.on F.KRV_AP.DRAINED (2*x)).on F.KRV_AP.DRAINED (2*x+1)).on (F.PWR_DOM_STAT.ON (sectorDom x % 32)) (sectorDom x / 32)) b
def frec (f : Nat) (v : Nat) : List Byte := natBytes 4 (1 + 256 * f) ++ natBytes 514 v ++ [0, 0]
def fl (f v nx : Nat) : Loader := {Loader.idle with op := 1, plain := frec f v ++ [9,9], next := nx, last := some 0}
def zl (t f n : Nat) : Loader := {Loader.idle with op := 1, plain := natBytes 4 (t + 256 * f) ++ natBytes 4 n ++ [9,9], next := 104960, last := some 0}
def ml : Loader := {Loader.idle with op := 1, plain := natBytes 4 (4 + 256 * (2^18+165)) ++ natBytes 4 (2^16+77) ++ natBytes 16 0x1234567890}
def dl : Loader := {Loader.idle with op := 2, plain := natBytes 4 (5 + 256 * 9) ++ [5,0] ++ natBytes 10 0x123 ++ natBytes 4 0}
def el (w : Nat) : Loader := {Loader.idle with op := 1, hdr := some hd, chunk := 1, plain := natBytes 4 6, written := w}
def sc (b : State) (c : Scanner) : State := (b.setScan 1 c)
def far (b : State) : State := {b with clk := {b.clk with dtc := BitVec.ofNat 96 (2^90)}}
def sl (g v : Frame) (b : State) (q : List (Nat × Frame × Nat × Nat)) : State := far (rg 5 1 3 2 (sc b {Scanner.idle with idx := 2600, queue := q})) |>.on F.SCB_STAT.RUN 1 |>.on F.CFG_PINS.DONE 0 |>.on F.SCB_CTL.EN 0
   |> fun t => {t with cfg := {t.cfg with frames := [(105000, v)], golden := [(105000, g)]}}
def pf : PendFrame := ⟨105000, 2, false, 1, 5, 6⟩
def bt (st : Nat) (b : State) : State := {b.wr F.CFG_BOOT_STAT.STAGE 0 st |>.wr F.CFG_BOOT_STAT.BOOT_MODE 0 0 with clk := {b.clk with step := 7}, kp := {b.kp with sramReady := false}}
end W12

open W12 in
theorem witness_LoadsRunThroughTheirPhases :
    (∃ (s : State) (sherex : Bool) (stage : Nat) (k : Nat), ((∀ l : Fin 4, (s.loader l).op = 0)) ∧ (stage = s.rd F.CFG_BOOT_STAT.STAGE 0) ∧
      (k = (if stage = 3 then s.cfg.attempt else s.cfg.attempt + 1))) ∧
    (∃ (s : State) (l : Fin 4) (r : Fin 64), ((s.loader l).op = 0) ∧ ((s.loader 0).op ≠ 2) ∧ (s.rd F.CFG_RGN_CFG.LEAF r = l.val) ∧
      (s.rd F.CFG_RGN_CFG.STATE r = 3 ∨ s.rd F.CFG_RGN_CFG.STATE r = 4)) ∧
    (∃ (s : State) (l : Fin 4), (s.mnt.trst = [])) ∧
    (∃ (s : State) (l : Fin 4) (src : BitVec 13) (txn : BitVec 8) (data : BitVec 512), (src.toNat ≠ dmaEp)) ∧
    (∃ (s : State) (l : Fin 4) (src : BitVec 13) (txn : BitVec 8) (data : BitVec 512) (c : Loader), (src.toNat = dmaEp) ∧ (c = s.loader l) ∧
      (c.op = 1) ∧ (c.hdr = none) ∧ (1 ≤ ldPhase s l) ∧ (ldPhase s l ≤ 4) ∧ (c.head.length + 64 < 352) ∧ (c.body = []) ∧ (c.plain = []) ∧
      (c.waiting = []) ∧ (s.mnt.trst = [])) ∧
    (∃ (s : State) (l : Fin 4) (txn : BitVec 8) (data : BitVec 512) (c : Loader) (h : ImgHeader), (c = s.loader l) ∧ (c.op = 1) ∧ (c.hdr = some h) ∧
      (c.taken < h.bodyLen) ∧ (1 ≤ ldPhase s l) ∧ (ldPhase s l ≤ 4) ∧ (buffersFull c = true) ∧ (c.waiting = []) ∧ (s.mnt.trst = [])) ∧
    (∃ (s : State) (l : Fin 4) (c : Loader) (h : List Byte), (c = s.loader l) ∧ (h = c.head.take 352) ∧ (ldPhase s l = 2) ∧ (c.op = 1) ∧
      (s.cfg.verify.head? = some l.val) ∧ (16 ≤ s.rd F.CFG_RGN_CFG.OWNER (opRegion s l)) ∧ (s.mnt.trst = [])) ∧
    (∃ (s : State) (l : Fin 4), (s.cfg.verify.head? ≠ some l.val)) ∧
    (∃ (s : State) (l : Fin 4) (c : Loader) (h : ImgHeader) (n : Nat), (c = s.loader l) ∧ (c.hdr = some h) ∧ (ldPhase s l = 3 ∨ ldPhase s l = 4) ∧
      (c.chunk < h.chunks) ∧ (n = min 65536 (h.bodyLen - 65536 * c.chunk)) ∧ (n ≤ c.body.length) ∧ (s.mnt.trst = [])) ∧
    (∃ (s : State) (l : Fin 4), (ldPhase s l = 3) ∧ ((∀ x ∈ windowSectors s l, s.flag F.KRV_AP.DRAINED (2 * x) = true ∧
      s.flag F.KRV_AP.DRAINED (2 * x + 1) = true ∧ domOn s (sectorDom x) = true))) ∧
    (∃ (s : State) (l : Fin 4), ((s.loader l).op = 3) ∧ (ldPhase s l = 6) ∧ (s.mnt.trst = [])) ∧
    (∃ (s : State) (l : Fin 4), (ldPhase s l = 3 ∨ ldPhase s l = 4) ∧ ((s.loader l).op = 1) ∧ ((s.loader l).hdr = none) ∧ ((∀ x ∈ windowSectors s l,
      domOn s (sectorDom x) = true)) ∧ (s.expired (s.loader l).dataAt (1000000 * s.rd F.CFG_LDTMO.STALL 0) = true) ∧ (s.mnt.trst = [])) :=
  ⟨⟨(State.reset.off F.CFG_PINS.DONE 0), false, 0, 1, by decide +kernel⟩,
    ⟨(rg 5 1 3 2 State.reset), 1, 5, by decide +kernel⟩,
    ⟨(ld 1 {Loader.idle with op := 1} 3 5 (rg 5 1 2 2 State.reset)), 1, by decide +kernel⟩,
    ⟨State.reset, 1, 5, 7, 99, by decide +kernel⟩,
    ⟨(ld 1 {Loader.idle with op := 1, head := [1,2,3]} 1 5 (rg 5 1 1 2 State.reset)), 1, (BitVec.ofNat 13 dmaEp), 7, 99,
      {Loader.idle with op := 1, head := [1,2,3]}, by decide +kernel⟩,
    ⟨(ld 1 bf 4 5 (rg 5 1 2 16 State.reset)), 1, 7, 99, bf, hb, rfl, rfl, rfl, by decide, by decide +kernel, by decide +kernel,
      by unfold buffersFull bf; rw [List.length_replicate]; decide, rfl, rfl⟩,
    ⟨{ ld 1 {Loader.idle with op := 1, head := List.replicate 400 5} 2 5 (rg 5 1 1 16 State.reset) with cfg := { (ld 1 {Loader.idle with op := 1, head := List.replicate 400 5} 2 5 (rg 5 1 1 16 State.reset)).cfg with verify := [1, 3] } },
      1, {Loader.idle with op := 1, head := List.replicate 400 5}, (List.replicate 352 5), by decide +kernel⟩,
    ⟨State.reset, 1, by decide +kernel⟩,
    ⟨(ld 1 lc 4 5 (rg 5 1 2 16 State.reset)), 1, lc, hd, 100, by decide +kernel⟩,
    ⟨(drained (ld 1 {Loader.idle with op := 3} 3 5 (rg 5 1 5 2 (setCode .bram (16*82+3) 9 0x77 State.reset)))), 1, by decide +kernel⟩,
    ⟨(ld 1 {Loader.idle with op := 3} 6 5 (rg 5 1 5 2 {State.reset with cfg := {State.reset.cfg with frames := [(3, 5), (82*1280+5, 6)]}})), 1,
      by decide +kernel⟩,
    ⟨({drained (ld 1 {Loader.idle with op := 1} 3 5 (rg 5 1 2 2 State.reset)) with clk := {State.reset.clk with dtc := BitVec.ofNat 96 (2^90)}}),
      1, by decide +kernel⟩⟩

open W12 in
theorem witness_RecordsWriteFramesInOrder :
    (∃ (s : State) (l : Fin 4) (c : Loader) (f : Nat) (v : Frame), (c = s.loader l) ∧ (ldPhase s l = 4) ∧ (c.op = 1) ∧ (520 ≤ c.plain.length) ∧
      (recWord c.plain = (1, f, false)) ∧ (v = BitVec.ofNat 4112 (bytesAt c.plain 4 514)) ∧ (frameClass v < 2) ∧ (bytesAt c.plain 518 2 = 0) ∧
      (c.waiting = []) ∧ (s.mnt.trst = [])) ∧
    (∃ (s : State) (l : Fin 4) (c : Loader) (f : Nat) (n : Nat), (c = s.loader l) ∧ (ldPhase s l = 4) ∧ (c.op = 1) ∧ (8 ≤ c.plain.length) ∧
      (n = bytesAt c.plain 4 4) ∧ (0 < n) ∧ (f + n ≤ 409600) ∧ (outside s l f n = none) ∧ (c.next ≤ f) ∧ (c.waiting = []) ∧ (s.mnt.trst = [])) ∧
    (∃ (s : State) (l : Fin 4) (c : Loader) (inst : Nat) (w : Nat), (c = s.loader l) ∧ (ldPhase s l = 4) ∧ (c.op = 1) ∧ (c.plain.length = 24) ∧
      (recWord c.plain = (4, 2 ^ 18 + inst, false)) ∧ (inst < 640) ∧ (bytesAt c.plain 4 4 = 2 ^ 16 + w) ∧ (w < 8192) ∧
      (inWindow s l (inst / 2) = true) ∧ (c.waiting = []) ∧ (s.mnt.trst = [])) ∧
    (∃ (s : State) (c : Loader) (r : Nat) (mask : Nat), (c = s.loader 0) ∧ (ldPhase s 0 = 4) ∧ (c.op = 2) ∧ (c.content = false) ∧
      (c.plain.length = 20) ∧ (recWord c.plain = (5, r, false)) ∧ (r < 64) ∧ (bytesAt c.plain 4 1 < 8) ∧ (bytesAt c.plain 5 1 = 0) ∧
      (mask = bytesAt c.plain 6 10) ∧ (bytesAt c.plain 16 4 = 0) ∧ (mask ≠ 0) ∧ (s.cfg.defs = []) ∧ (c.waiting = []) ∧ (s.mnt.trst = [])) ∧
    (∃ (s : State) (l : Fin 4) (c : Loader) (h : ImgHeader), (c = s.loader l) ∧ (ldPhase s l = 4) ∧ (c.op = 1) ∧ (c.hdr = some h) ∧
      (4 ≤ c.plain.length) ∧ (recWord c.plain = (6, 0, false)) ∧ (s.cfg.fwd = []) ∧ (s.mnt.trst = [])) ∧
    (∃ (s : State) (l : Fin 4) (f : Nat) (n : Nat) (v : Frame) (rest : List FwdItem), (s.cfg.fwd = .frames f n v :: rest) ∧ (f / 102400 = l.val) ∧
      (0 < n)) ∧
    (∃ (s : State) (r : Fin 64) (v : Word), (F.CFG_RGN_CFG.OWNER.of v ≠ s.rd F.CFG_RGN_CFG.OWNER r) ∧ (F.CFG_RGN_CFG.REJECT.of v = 0)) ∧
    (∃ (s : State) (v : Word) (f : Nat), (f = F.CFG_FRD_CMD.FRAME.of v) ∧ (F.CFG_FRD_CMD.GO.of v = 1) ∧ (f < 409600) ∧ (frameOwner s f = 16)) ∧
    (∃ (s : State) (v : Word) (f : Nat), (f = F.CFG_FRD_CMD.FRAME.of v) ∧ (F.CFG_FRD_CMD.GO.of v = 1) ∧ (f < 409600) ∧ (frameOwner s f < 16) ∧
      (findGrant s (frameOwner s f) 2 ((frameRegion s f).getD 0) = none)) :=
  ⟨⟨(ld 1 (fl 105000 0 104960) 4 5 (rg 5 1 2 2 State.reset)), 1, (fl 105000 0 104960), 105000, 0, by decide +kernel⟩,
    ⟨(ld 1 (zl 2 105000 3) 4 5 (rg 5 1 2 2 State.reset)), 1, (zl 2 105000 3), 105000, 3, by decide +kernel⟩,
    ⟨(ld 1 ml 4 5 (rg 5 1 2 2 State.reset)), 1, ml, 165, 77, by decide +kernel⟩,
    ⟨(ld 0 dl 4 5 State.reset), dl, 9, 0x123, by decide +kernel⟩,
    ⟨(ld 1 (el 2560) 4 5 (rg 5 1 2 2 State.reset)), 1, (el 2560), hd, by decide +kernel⟩,
    ⟨{State.reset with cfg := {State.reset.cfg with fwd := [.frames 105000 3 5]}}, 1, 105000, 3, 5, [], by decide +kernel⟩,
    ⟨(rg 5 1 1 2 State.reset |>.on F.LNK_HCFG.EXISTS 3), 5, 3, by decide +kernel⟩,
    ⟨(rg 5 1 1 16 {State.reset with cfg := {State.reset.cfg with frames := [(105001, 77)]}}), (BitVec.ofNat 32 (2^31+105001)), 105001,
      by decide +kernel⟩,
    ⟨(rg 5 1 1 2 {State.reset with cfg := {State.reset.cfg with frames := [(105001, 77)]}}), (BitVec.ofNat 32 (2^31+105001)), 105001,
      by decide +kernel⟩⟩

open W12 in
theorem witness_ScannersFindAndRepairUpsets :
    (∃ (s : State) (l : Fin 4), ((s.scan l).idx = 102400) ∧ ((s.scan l).start = 0 ∨ (s.scan l).start + 4096000 ≤ s.dtcNow)) ∧
    (∃ (s : State) (l : Fin 4) (c : Scanner) (f : Nat) (v : Frame) (g : Frame), (c = s.scan l) ∧ (f = 102400 * l.val + c.idx) ∧ (v = frameNow s f) ∧
      (g = sget 0 s.cfg.golden f) ∧ (s.flag F.SCB_STAT.RUN l = true) ∧ (c.idx + 1 < 102400) ∧ (c.start + 40 * c.idx ≤ s.dtcNow) ∧ (sigErrOf s f = ⟨0,
      0⟩) ∧ (skips s l f = false)) ∧
    (∃ (s : State) (l : Fin 4) (f : Nat) (bit : Nat) (o : Nat) (v : Frame) (rest : List (Nat × Frame × Nat × Nat)), ((s.scan l).queue = (f, v, bit,
      o) :: rest)) ∧
    (∃ (s : State) (l : Fin 4) (f : Nat), (waitingEntry s l f = none)) ∧
    (∃ (s : State) (l : Fin 4) (f : Nat) (p : PendFrame) (v : Frame), ((s.scan l).pend = [some p]) ∧ (p.frame = f) ∧ (p.unrepaired = false) ∧
      (v = suppliedFrame s l) ∧ (sigErrOf s f = ⟨0, 0⟩) ∧ (p.refusals < 3)) ∧
    (∃ (s : State) (l : Fin 4) (p : PendFrame), ((s.scan l).pend = [some p]) ∧ (p.unrepaired = false)) ∧
    (∃ (s : State) (l : Fin 4) (v : Word) (n : Nat), (F.SCB_LOGCTL.POP.of v = 1) ∧ (n = s.rd F.SCB_LOGCTL.COUNT l) ∧ (n ≠ 0)) :=
  ⟨⟨(far (sc State.reset Scanner.idle)), 1, by decide +kernel⟩,
    ⟨(sl 0 4 State.reset []), 1, {Scanner.idle with idx := 2600}, 105000, 4, 0, by decide +kernel⟩,
    ⟨(sc State.reset {Scanner.idle with queue := [(105000, 7, 3, 2)]}), 1, 105000, 3, 2, 7, [], by decide +kernel⟩,
    ⟨(sc State.reset {Scanner.idle with pend := [some {pf with unrepaired := true}]}), 1, 105000, by decide +kernel⟩,
    ⟨(sc State.reset {Scanner.idle with pend := [some pf]}), 1, 105000, pf, 0, by decide +kernel⟩,
    ⟨(far (sc State.reset {Scanner.idle with pend := [some pf]})), 1, pf, by decide +kernel⟩,
    ⟨(State.reset.wr F.SCB_LOGCTL.COUNT 1 5), 1, 0x80000000, 5, by decide +kernel⟩⟩

open W12 in
theorem witness_BootRunsThroughItsStages :
    (∃ (s : State) (failing : Bool), (7 ≤ s.clk.step) ∧ (s.rd F.CFG_BOOT_STAT.STAGE 0 = 0) ∧ (s.kp.sramReady = false)) ∧
    (∃ (s : State) (img : Option FlashRead) (fabdep : BitVec 16), (s.kp.sramReady = true) ∧ (s.rd F.CFG_BOOT_STAT.STAGE 0 = 0) ∧
      ((s.rd F.CFG_BOOT_STAT.BOOT_MODE 0 = 4 → s.kh.images ≠ []))) ∧
    (∃ (off : Nat) (v : Word) (s t : State), policyEntry off v s = some t) ∧
    (∃ (s : State) (fw : Bool) (d : FlashRead), (s.rd F.CFG_BOOT_STAT.BOOT_MODE 0 ≠ 4) ∧ (bytesAt d.directory 0 4 ≠ 0x5249444C ∨ (∃ o ∈ [8, 0x10,
      0x18], bytesAt d.directory o 8 % 4096 ≠ 0))) ∧
    (∃ (s : State) (img : Option FlashRead), (s.rd F.CFG_BOOT_STAT.STAGE 0 = 1) ∧ ((s.rd F.CFG_BOOT_STAT.BOOT_MODE 0 = 4 → s.kh.images ≠ []))) ∧
    (∃ (s : State) (st : Nat), (st = s.rd F.CFG_BOOT_STAT.STAGE 0) ∧ (st = 5 ∨ st = 6) ∧ (s.cfg.retryAt ≠ 0) ∧ (s.cfg.retryAt ≤ s.dtcNow)) :=
  ⟨⟨(bt 0 State.reset), true, by decide +kernel⟩,
    ⟨{bt 0 State.reset with kp := {State.reset.kp with sramReady := true}}, none, 5, by decide +kernel⟩,
    ⟨0xC00004, 5, State.reset, (policyEntry 0xC00004 5 State.reset).getD State.reset, by decide +kernel⟩,
    ⟨bt 0 State.reset, true, ⟨[0x4C, 0x44, 0x49, 0x52, 0, 0, 0, 0, 1], []⟩, by decide +kernel⟩,
    ⟨(bt 1 State.reset), none, by decide +kernel⟩,
    ⟨{far (bt 5 State.reset) with cfg := {State.reset.cfg with retryAt := 5}}, 5, by decide +kernel⟩⟩

namespace W14
def nowin (b : State) : State := (List.range 16).foldl (fun t w => t.off F.WRD_HWIN0.VALID (hwin 5 w 0)) b
def win (b : State) : State := (((((nowin b).setReg .WRD_HWIN (hwin 5 3 0) 0x10007)).setReg .WRD_HWIN (hwin 5 3 1) 2).setReg .WRD_HWIN (hwin 5 3 2) 0)
def tok (b : State) : State := (b.wr F.WRD_MSG.BURST 5 20).wr F.WRD_MSG.RATE 5 1
def far (b : State) : State := {b with clk := {b.clk with dtc := BitVec.ofNat 96 (2^90)}}
def T (x : Int) : List (BitVec 12) := (List.replicate 7 (BitVec.ofInt 12 (x - 13))) ++ [BitVec.ofInt 12 x]  ++ (List.replicate 8 (BitVec.ofInt 12 (x - 15)))
end W14

open W14 in
theorem witness_WardsBoundTheKeepersTraffic :
    (∃ (s : State) (q : Fin 2), (lockstep s q = true) ∧ (s.rd (F.KP_CORE_STAT.RUN (2 * q.val)) 0 ≠ 3)) ∧
    (∃ (s : State) (n : Fin 16) (w : Fin 16) (v : Word) (j : Nat), (j = hwin n w 0) ∧ (headExists s n = true)) ∧
    (∃ (s : State) (n : Fin 16) (c : Fin 8) (a : BitVec 64) (l : Nat) (m : KpMessage) (wr : Bool), ((m = .memRead c a l ∧
      wr = false) ∨ (m = .memWrite c a l ∧ wr = true)) ∧ (windowAdmits s n a.toNat l wr = false) ∧ (messageStalls s m = false)) ∧
    (∃ (s : State) (n : Fin 16) (v : Nat) (m : KpMessage), ((m = .msix v ∧ 32 ≤ v) ∨ m = .other)) ∧
    (∃ (s : State) (n : Fin 16) (c : Fin 8) (a : BitVec 64) (l : Nat) (v : Nat) (m : KpMessage), ((m = .memRead c a l ∧
      windowAdmits s n a.toNat l false = true) ∨ (m = .memWrite c a l ∧ windowAdmits s n a.toNat l true = true) ∨ (m = .msix v ∧ v < 32)) ∧
      (messageStalls s m = false)) ∧
    (∃ (s : State) (n : Fin 16) (m : KpMessage), (messageStalls s m = true)) ∧
    (∃ (s : State) (n : Fin 16) (c : Fin 8) (a : BitVec 64) (l : Nat) (q : List KpMessage), (sget [] s.kp.heldMsgs n = .memRead c a l :: q) ∧
      (tokensThere s n (.memRead c a l) = true)) :=
  ⟨⟨((((State.reset.wr F.KP_LSCTL.LSMODE 0 3).wr F.KP_LSCTL.SPLIT 0 0).wr (F.KP_CORE_STAT.RUN 2) 0 1)), 1, by decide +kernel⟩,
    ⟨(State.reset.on F.LNK_PCFG.X8X2 2), 5, 7, 0x12345fff, (hwin 5 7 0), by decide +kernel⟩,
    ⟨((win State.reset).wr F.WRD_LOGCTL.COUNT 0 5), 5, 3, 0x100000100, 0x100, (.memRead 3 0x100000100 0x100), false, by decide +kernel⟩,
    ⟨State.reset, 5, 40, (.msix 40), by decide +kernel⟩,
    ⟨(tok (win State.reset)), 5, 3, 0x200010100, 0x100, 9, (.memRead 3 0x200010100 0x100), by decide +kernel⟩,
    ⟨{State.reset with kp := {State.reset.kp with heldMsgs := [(4, [.msix 3, .memWrite 6 7 9])]}}, 5, .memRead 6 5 4, by decide +kernel⟩,
    ⟨{tok (win State.reset) with kp := {State.reset.kp with heldMsgs := [(5,[.memRead 3 7 9,.msix 3])]}}, 5, 3, 7, 9, [.msix 3], by decide +kernel⟩⟩

open W14 in
theorem witness_GrantsExpireAndLimitsAct :
    (∃ (s : State) (n : Fin 16) (k : Fin 4), (s.rd F.WRD_GRANT.OP (4 * n.val + k) ≠ 0) ∧
      (s.expired (sget 0 s.kp.grantAt (4 * n.val + k)) (1000000 * s.rd F.WRD_GRTMO.TMO 0) = true)) ∧
    (∃ (s : State) (v : Word), (F.WRD_LOGCTL.POP.of v = 1) ∧ (s.rd F.WRD_LOGCTL.COUNT 0 ≠ 0)) ∧
    (∃ (s : State) (temps : List (BitVec 12)) (hot : Bool) (warn : Int),
      (hot = (List.range 16).any (fun k => decide ((440 : Int) ≤ (temps.getD k 0).toInt))) ∧ (warn = 4 * s.rd F.WRD_THERM.WARN 0)) ∧
    (∃ (s : State) (w : BitVec 12) (k : Nat) (plim : Nat), (k = s.rd F.WRD_PWRSTAT.THROTTLE 0) ∧ (plim = 4 * s.rd F.WRD_PWR.PLIM 0)) ∧
    (∃ (s : State) (e : Fin 512) (d : Nat) (n : Nat), (d = divNow s (.eck (Fin.ofNat 4 (e.val / 128)))) ∧ (0 < d) ∧ (n = nextEck s e)) :=
  ⟨⟨(far (State.reset.wr F.WRD_GRANT.OP 22 1)), 5, 2, by decide +kernel⟩,
    ⟨(State.reset.wr F.WRD_LOGCTL.COUNT 0 5), 0x80000000, by decide +kernel⟩,
    ⟨State.reset, (T 440), true, (4 * State.reset.rd F.WRD_THERM.WARN 0), by decide +kernel⟩,
    ⟨(State.reset.wr F.WRD_PWR.PLIM 0 250), 2000, (State.reset.rd F.WRD_PWRSTAT.THROTTLE 0), 1000, by decide +kernel⟩,
    ⟨(((State.reset.wr F.CLK_ECK.DIV 1 5).wr F.WRD_PWRSTAT.THROTTLE 0 12)), 200,
      divNow ((State.reset.wr F.CLK_ECK.DIV 1 5).wr F.WRD_PWRSTAT.THROTTLE 0 12) (.eck 1),
      nextEck ((State.reset.wr F.CLK_ECK.DIV 1 5).wr F.WRD_PWRSTAT.THROTTLE 0 12) 200, by decide +kernel⟩⟩

namespace W15
def putCmd (n m : Nat) (l : List Byte) (b : State) : State := (List.range 64).foldl (fun t k => t.setReg .SHX_MB_CMD (mbx n m * 64 + k) (BitVec.ofNat 32 (bytesAt l (4*k) 4))) b
def cb (op ver auth : Nat) (p : List Byte) (cnt : Nat := 0) : List Byte := natBytes 2 op ++ natBytes 1 auth ++ natBytes 1 ver ++ natBytes 2 p.length ++ natBytes 2 0 ++ natBytes 4 0x11223344 ++ natBytes 4 0 ++ natBytes 8 cnt ++ natBytes 16 (if auth = 1 then 99 else 0) ++ natBytes 8 0 ++ p
def rdy (op : Nat) (p : List Byte) (b : State) : State := (setTaken 5 1 (some ⟨.ready, none, false⟩) (setMbState 5 1 2 (putCmd 5 1 (cb op 1 0 p) b))).wr F.SHX_OWNER.OWNER 0 5
def hx (b : State) : State := b.on F.LNK_PCFG.X8X2 2
def pst (l : List Byte) (b : State) : State := (setMbState 5 1 1 ((List.range 32).foldl (fun t k => setMbState (k/2) (k%2) 0 t) (putCmd 5 1 l (hx b)))).on F.SHX_HSTAT.KREADY 5
def k5 (b : State) : State := {b with shx := {b.shx with keys := [(5, some [1,2,3])], floor := [(5, 65536)]}}
def qop (h : Nat) (st : Bool) (op ten : Nat) (args : List Byte) : ShxOp := ⟨h, 7, op, ten, [.head 5], none, none, st, 0, 0, 0, args, []⟩
def ops (l : List ShxOp) (b : State) : State := {b with shx := {b.shx with ops := l}}
def er : List Byte := natBytes 2 169 ++ [7,1]
def xs : List Byte := [6, 9, 1, 0] ++ natBytes 2 0x1234 ++ [0,0] ++ natBytes 4 0xffffffff ++ natBytes 2 0x8000
def lr (b : State) : State := (rdy 0x203 [7] b |>.wr F.CFG_RGN_CFG.LEAF 7 2 |>.wr F.CFG_RGN_CFG.OWNER 7 5 |>.wr F.CFG_LDSTAT.REGION 2 7)
def nome (b : State) : State := b
def st7 (op : Nat) (b : State) : State := (nome (rdy op [7] b) |>.on F.TMB_SET_CFG.VALID 7 |>.wr F.TMB_SET_CFG.TENANT 7 5 |>.on F.TMB_CFG.VALID 30 |>.wr F.TMB_CFG.SET 30 7 |>.off F.TMB_STAT.RETIRED 30)
def wb : List Byte := [3, 7, 9, 0] ++ natBytes 2 500 ++ [0,0] ++ natBytes 8 0x123456789000
def pg : List Byte := [9, 0, 0xff, 1, 0xf0, 3]
def gr (b : State) : State := {b with shx := {b.shx with readers := [(9, 32)], writers := [(9, 33)]}}
end W15

open W15 in
theorem witness_MailboxesCarryCommands :
    (∃ (s : State) (n : Fin 16) (m : Fin 2), (headExists s n = true) ∧ (mbState s n m = 0)) ∧
    (∃ (s : State) (n : Fin 16) (m : Fin 2), (headExists s n = true) ∧ (mbState s n m ≠ 0)) ∧
    (∃ (s : State) (n : Fin 16) (m : Fin 2), (headExists s n = true)) ∧
    (∃ (s : State) (n : Fin 16) (m : Fin 2) (c : List Byte), (takesNext s n m = true) ∧ (c = cmdBytes s n m)) ∧
    (∃ (s : State) (n : Fin 16) (m : Fin 2) (key : List Byte) (cnt : Nat), (takesNext s n m = true) ∧ (formStatus s n m = none) ∧
      (cmdAuth s n m = true) ∧ (authHeld s n = false) ∧ (cmdKey s n = some key) ∧ (cnt = cmdCounter s n m)) ∧
    (∃ (s : State) (n : Fin 16) (m : Fin 2), (mbState s n m = 2)) ∧
    (∃ (s : State) (n : Fin 16) (m : Fin 2) (ok : Bool), ((mbTaken s n m).map (·.phase) = some .floor)) ∧
    (∃ (s : State) (n : Fin 16) (m : Fin 2), ((mbTaken s n m).map (·.phase) = some .held) ∧
      (¬((mbTaken s n (1 - m.val)).map (·.phase) = some .held ∧ rungBefore s n (1 - m.val) n m = true)) ∧ (authHeld s n = false)) :=
  ⟨⟨(hx (setMbState 5 1 0 State.reset)), 5, 1, by decide +kernel⟩,
    ⟨(hx (setMbState 5 1 2 State.reset)), 5, 1, by decide +kernel⟩,
    ⟨(hx (setMbState 5 1 3 State.reset)), 5, 1, by decide +kernel⟩,
    ⟨(pst (cb 0 2 0 []) State.reset), 5, 1, (cb 0 2 0 [] ++ List.replicate 208 0), by decide +kernel⟩,
    ⟨(k5 (pst (cb 0x505 1 1 [] 77) State.reset)), 5, 1, [1,2,3], 77, by decide +kernel⟩,
    ⟨(setTaken 5 1 (some ⟨.answered, some 9, true⟩) (setMbState 5 1 2 State.reset)), 5, 1, by decide +kernel⟩,
    ⟨(setTaken 5 1 (some ⟨.floor, none, false⟩) (putCmd 5 1 (cb 0x505 1 1 [] (2^40+77)) State.reset)), 5, 1, true, by decide +kernel⟩,
    ⟨(setTaken 5 1 (some ⟨.held, none, false⟩) (putCmd 5 1 (cb 0x505 1 1 [] (2^40+77)) State.reset)), 5, 1, by decide +kernel⟩⟩

open W15 in
theorem witness_SherexTellsAndRoutes :
    (∃ (s : State) (n : Fin 16) (m : Fin 2) (p : List Byte), (shxReady s n m 0x0000 = true) ∧ (p = cmdPayload s n m)) ∧
    (∃ (s : State) (n : Fin 16) (m : Fin 2) (p : List Byte), (shxReady s n m 0x0001 = true) ∧ (p = cmdPayload s n m)) ∧
    (∃ (s : State) (n : Fin 16) (m : Fin 2) (p : List Byte), (shxReady s n m 0x0002 = true) ∧ (p = cmdPayload s n m)) ∧
    (∃ (s : State) (n : Fin 16) (m : Fin 2) (p : List Byte) (l : List (Nat × PtEntry)), (shxReady s n m 0x0003 = true) ∧ (p = cmdPayload s n m) ∧
      (l = ((s.coh.pt.filter (fun e => e.2.mode != 0 && nbit e.2.acc n)).filter (fun e => decide (bytesAt p 0 4 ≤ e.1))).take 24)) ∧
    (∃ (s : State) (n : Fin 16) (m : Fin 2) (p : List Byte), (shxReady s n m 0x0004 = true) ∧ (p = cmdPayload s n m)) ∧
    (∃ (s : State) (n : Fin 16) (m : Fin 2) (p : List Byte) (h : Nat), (shxReady s n m 0x0400 = true) ∧ (p = cmdPayload s n m) ∧ (h = bytesAt p 0 4)) ∧
    (∃ (s : State) (n : Fin 16) (m : Fin 2) (p : List Byte) (k : Nat), (shxReady s n m 0x0401 = true) ∧ (p = cmdPayload s n m) ∧
      (k = bytesAt p 0 2) ∧ (bytesAt p 2 1 ≤ 31) ∧ (bytesAt p 3 1 ≤ 1)) ∧
    (∃ (s : State) (n : Fin 16) (m : Fin 2) (p : List Byte), (shxReady s n m 0x0402 = true) ∧ (p = cmdPayload s n m)) ∧
    (∃ (s : State) (n : Fin 16) (m : Fin 2) (p : List Byte), (shxReady s n m 0x0704 = true) ∧ (p = cmdPayload s n m)) ∧
    (∃ (s : State) (n : Fin 16) (m : Fin 2) (p : List Byte) (regs : List (RegName × Nat)), (shxReady s n m 0x0800 = true) ∧ (p = cmdPayload s n m) ∧
      (regs = [(.LNK_HATT, n.val), (.LNK_HREC, n.val), (.LNK_HFEC, n.val), (.LNK_HREPLAY, n.val)] ++ (headLanes s n).map (fun g => (RegName.LNK_LERR,
      g)))) :=
  ⟨⟨(rdy 0 [] State.reset), 5, 1, [], by decide +kernel⟩,
    ⟨(rdy 1 [] State.reset), 5, 1, [], by decide +kernel⟩,
    ⟨{rdy 2 [] State.reset with coh := {State.reset.coh with pt := [(3, ⟨1,32,32,false,5,0,false,false⟩),(4, ⟨1,2,2,false,5,0,false,false⟩)]}}, 5,
      1, [], by decide +kernel⟩,
    ⟨{rdy 3 (natBytes 4 1) State.reset with coh := {State.reset.coh with pt := [(3, ⟨1,32,32,false,5,0,false,false⟩),(4, ⟨1,2,2,false,5,0,false,false⟩)]}},
      5, 1, (natBytes 4 1), [(3, ⟨1,32,32,false,5,0,false,false⟩)], by decide +kernel⟩,
    ⟨(rdy 4 (natBytes 4 (5*2^28+3)) State.reset), 5, 1, (natBytes 4 (5*2^28+3)), by decide +kernel⟩,
    ⟨(ops [qop (5*2^28+3) true 0x500 5 []] (rdy 0x400 (natBytes 4 (5*2^28+3)) State.reset)), 5, 1, (natBytes 4 (5*2^28+3)), (5*2^28+3),
      by decide +kernel⟩,
    ⟨(rdy 0x401 er State.reset), 5, 1, er, 169, by decide +kernel⟩,
    ⟨(rdy 0x402 [1] State.reset), 5, 1, [1], by decide +kernel⟩,
    ⟨(rdy 0x704 [] State.reset), 5, 1, [], by decide +kernel⟩,
    ⟨(rdy 0x800 [] State.reset), 5, 1, [], ([(.LNK_HATT, 5), (.LNK_HREC, 5), (.LNK_HFEC, 5), (.LNK_HREPLAY,
      5)] ++ (headLanes State.reset 5).map (fun g => (RegName.LNK_LERR, g))), by decide +kernel⟩⟩

namespace W15c
def putCmd (n m : Nat) (l : List Byte) (b : State) : State := (List.range 64).foldl (fun t k => t.setReg .SHX_MB_CMD (mbx n m * 64 + k) (BitVec.ofNat 32 (bytesAt l (4*k) 4))) b
def cb (op ver auth : Nat) (p : List Byte) (cnt : Nat := 0) : List Byte := natBytes 2 op ++ natBytes 1 auth ++ natBytes 1 ver ++ natBytes 2 p.length ++ natBytes 2 0 ++ natBytes 4 0x11223344 ++ natBytes 4 0 ++ natBytes 8 cnt ++ natBytes 16 (if auth = 1 then 99 else 0) ++ natBytes 8 0 ++ p
def rdy (op : Nat) (p : List Byte) (b : State) : State := (setTaken 5 1 (some ⟨.ready, none, false⟩) (setMbState 5 1 2 (putCmd 5 1 (cb op 1 0 p) b))).wr F.SHX_OWNER.OWNER 0 5
def win (b : State) : State := (((b.setReg .WRD_HWIN (hwin 5 3 0) 0x10007).setReg .WRD_HWIN (hwin 5 3 1) 2).setReg .WRD_HWIN (hwin 5 3 2) 15)
def rec : ShxRecord := ⟨5,6,0x500,5,[],0,0,0,[1],99⟩
def rr (b : State) : State := ({b with shx := {b.shx with held := [{rec with tenant := 3}, rec]}} : State).on F.SHX_CR_CTL.EN 5 |>.wr F.SHX_CR_CTL.SIZE 5 4 |>.wr F.SHX_CR_TAIL.TAIL 5 15 |>.wr F.SHX_CR_HEAD.HEAD 5 3
def bs (b : State) : State := (b.wr F.SHX_CR_BASE_LO.BASE 5 0x10).wr F.SHX_CR_BASE_HI.VALUE 5 2
end W15c

theorem witness_SherexActsAtOnce :
    (∃ (s : State) (n : Fin 16) (m : Fin 2) (x : Nat × Instr), (x ∈ [(0x0103, Instr.xlatSet n m), (0x0200, .rgnAssign n m), (0x0300,
      .setCreate n m), (0x0302, .setDelete n m), (0x0307, .winBind n m), (0x0308, .winUnbind n m), (0x0505, .deviceReset n m), (0x0600,
      .keyInstallOwner n m), (0x0601, .keySet n m), (0x0603, .keyErase n m), (0x0606, .ownerChange n m), (0x0700, .pinGrant n m)]) ∧
      (shxReady s n m x.1 = true) ∧ (deviceOwner s ≠ n.val)) ∧
    (∃ (s : State) (n : Fin 16) (m : Fin 2) (p : List Byte) (k : Nat), (shxReady s n m 0x0103 = true) ∧ (p = cmdPayload s n m) ∧
      (deviceOwner s = n.val) ∧ (bytesAt p 0 1 < 16) ∧ (k = 256 * bytesAt p 0 1 + bytesAt p 1 1) ∧ (bytesAt p 2 1 ≤ 1)) ∧
    (∃ (s : State) (n : Fin 16) (m : Fin 2) (p : List Byte) (r : Nat) (o : Nat), (shxReady s n m 0x0200 = true) ∧ (p = cmdPayload s n m) ∧
      (deviceOwner s = n.val) ∧ (r = bytesAt p 0 1) ∧ (r < 64) ∧ (objBusy s (.region r) = false) ∧ (o = bytesAt p 1 1) ∧ (o = 31 ∨ (o < 16 ∧
      headExists s o = true))) ∧
    (∃ (s : State) (n : Fin 16) (m : Fin 2) (p : List Byte) (r : Nat) (l : Fin 4), (shxReady s n m 0x0203 = true) ∧ (p = cmdPayload s n m) ∧
      (r = bytesAt p 0 1) ∧ (l.val = s.rd F.CFG_RGN_CFG.LEAF r) ∧ (s.mnt.trst = [])) ∧
    (∃ (s : State) (n : Fin 16) (m : Fin 2) (p : List Byte) (r : Nat), (shxReady s n m 0x0204 = true) ∧ (p = cmdPayload s n m) ∧ (r = bytesAt p 0 1)) ∧
    (∃ (s : State) (n : Fin 16) (m : Fin 2) (p : List Byte) (k : Nat), (shxReady s n m 0x0300 = true) ∧ (p = cmdPayload s n m) ∧
      (deviceOwner s = n.val) ∧ (k = bytesAt p 0 1) ∧ (bytesAt p 1 1 < 16) ∧ (bytesAt p 2 1 ≤ 1) ∧ (objBusy s (.set k) = false) ∧
      (tmbMembers s k = []) ∧ (jobRuns s k = false)) ∧
    (∃ (s : State) (n : Fin 16) (m : Fin 2) (p : List Byte) (k : Nat), (shxReady s n m 0x0302 = true) ∧ (p = cmdPayload s n m) ∧
      (deviceOwner s = n.val) ∧ (k = bytesAt p 0 1) ∧ (objBusy s (.set k) = false)) ∧
    (∃ (s : State) (n : Fin 16) (m : Fin 2) (p : List Byte) (k : Nat), (shxReady s n m 0x0305 = true) ∧ (p = cmdPayload s n m) ∧
      (k = bytesAt p 0 1) ∧ (k < 64)) ∧
    (∃ (s : State) (n : Fin 16) (m : Fin 2) (p : List Byte) (k : Nat), (shxReady s n m 0x0306 = true) ∧ (p = cmdPayload s n m) ∧
      (k = bytesAt p 0 1) ∧ (objBusy s (.set k) = false)) ∧
    (∃ (s : State) (n : Fin 16) (m : Fin 2) (p : List Byte) (w : Nat) (b : Nat), (shxReady s n m 0x0307 = true) ∧ (p = cmdPayload s n m) ∧
      (deviceOwner s = n.val) ∧ (w = bytesAt p 0 1) ∧ (w < 16) ∧ (b = bytesAt p 8 8) ∧ (s.flag F.TMB_TW_CFG.EN w = false) ∧ (bytesAt p 1 1 < 64) ∧
      (bytesAt p 2 1 < 64)) ∧
    (∃ (s : State) (n : Fin 16) (m : Fin 2) (p : List Byte) (w : Nat), (shxReady s n m 0x0308 = true) ∧ (p = cmdPayload s n m) ∧
      (deviceOwner s = n.val) ∧ (w = bytesAt p 0 1) ∧ (w < 16)) ∧
    (∃ (s : State) (n : Fin 16) (m : Fin 2) (p : List Byte) (k : Nat), (shxReady s n m 0x0504 = true) ∧ (p = cmdPayload s n m) ∧
      (k = bytesAt p 0 1) ∧ (k < 16) ∧ (k = n.val ∨ n.val = deviceOwner s)) ∧
    (∃ (s : State) (n : Fin 16) (m : Fin 2) (p : List Byte), (shxReady s n m 0x0505 = true) ∧ (p = cmdPayload s n m) ∧ (deviceOwner s = n.val)) ∧
    (∃ (s : State) (n : Fin 16) (m : Fin 2) (p : List Byte) (k : Nat), (shxReady s n m 0x0606 = true) ∧ (p = cmdPayload s n m) ∧
      (deviceOwner s = n.val) ∧ (k = bytesAt p 0 1)) ∧
    (∃ (s : State) (n : Fin 16) (m : Fin 2) (p : List Byte), (shxReady s n m 0x0600 = true) ∧ (p = cmdPayload s n m) ∧ (deviceOwner s = n.val)) ∧
    (∃ (s : State) (n : Fin 16) (m : Fin 2) (p : List Byte) (k : Nat), (shxReady s n m 0x0601 = true) ∧ (p = cmdPayload s n m) ∧
      (deviceOwner s = n.val) ∧ (k = bytesAt p 0 1)) ∧
    (∃ (s : State) (n : Fin 16) (m : Fin 2) (p : List Byte), (shxReady s n m 0x0602 = true) ∧ (p = cmdPayload s n m)) ∧
    (∃ (s : State) (n : Fin 16) (m : Fin 2) (p : List Byte) (k : Nat), (shxReady s n m 0x0603 = true) ∧ (p = cmdPayload s n m) ∧
      (deviceOwner s = n.val) ∧ (k = bytesAt p 0 1)) ∧
    (∃ (s : State) (n : Fin 16) (m : Fin 2) (p : List Byte), (shxReady s n m 0x0604 = true) ∧ (p = cmdPayload s n m)) ∧
    (∃ (s : State) (n : Fin 16) (m : Fin 2) (p : List Byte), (shxReady s n m 0x0605 = true) ∧ (p = cmdPayload s n m)) ∧
    (∃ (s : State) (n : Fin 16) (m : Fin 2) (p : List Byte) (i : Nat), (shxReady s n m 0x0700 = true) ∧ (p = cmdPayload s n m) ∧
      (deviceOwner s = n.val) ∧ (i = bytesAt p 0 1)) ∧
    (∃ (s : State) (n : Fin 16) (m : Fin 2) (p : List Byte) (i : Nat), (shxReady s n m 0x0701 = true) ∧ (p = cmdPayload s n m) ∧ (i = bytesAt p 0 1)) ∧
    (∃ (s : State) (n : Fin 16) (m : Fin 2) (p : List Byte) (i : Nat), (shxReady s n m 0x0702 = true) ∧ (p = cmdPayload s n m) ∧ (i = bytesAt p 0 1)) :=
  ⟨⟨(W15c.rdy 0x0103 [] State.reset).wr F.SHX_OWNER.OWNER 0 6, 5, 1, (0x0103, .xlatSet 5 1), List.mem_cons_self, by decide +kernel,
      by decide +kernel⟩,
    ⟨(W15.rdy 0x103 W15.xs State.reset), 5, 1, W15.xs, (256*6+9), by decide +kernel⟩,
    ⟨(W15.rdy 0x200 [7, 31] State.reset |>.wr F.CFG_RGN_CFG.STATE 7 1), 5, 1, [7,31], 7, 31, by decide +kernel⟩,
    ⟨(((W15.lr State.reset).setLoader 2 {Loader.idle with op := 1}).wr F.CFG_LDSTAT.PHASE 2 3), 5, 1, [7], 7, 2, by decide +kernel⟩,
    ⟨(W15.rdy 0x204 [7] State.reset), 5, 1, [7], 7, by decide +kernel⟩,
    ⟨(W15.nome (W15.rdy 0x300 [7,6,1] State.reset) |>.off F.TMB_SET_CFG.VALID 7 |>.off F.TMB_SET_JSTAT.RUNNING 7), 5, 1, [7,6,1], 7,
      by decide +kernel⟩,
    ⟨(W15.nome (W15.rdy 0x302 [7] State.reset) |>.on F.TMB_SET_CFG.VALID 7), 5, 1, [7], 7, by decide +kernel⟩,
    ⟨(W15.st7 0x305 State.reset |>.on F.TMB_SET_JSTAT.RUNNING 7), 5, 1, [7], 7, by decide +kernel⟩,
    ⟨(W15.st7 0x306 State.reset |>.off F.TMB_SET_CFG.WINDOW 7), 5, 1, [7], 7, by decide +kernel⟩,
    ⟨(W15.rdy 0x307 W15.wb State.reset |>.off F.TMB_TW_CFG.EN 3), 5, 1, W15.wb, 3, 0x123456789000, by decide +kernel⟩,
    ⟨(W15.rdy 0x308 [3] State.reset |>.on F.TMB_TW_CFG.EN 3), 5, 1, [3], 3, by decide +kernel⟩,
    ⟨(W15.rdy 0x504 [3] State.reset |>.off F.PWR_TRST_STAT.BUSY 0), 5, 1, [3], 3, by decide +kernel⟩,
    ⟨(W15.rdy 0x505 [] State.reset), 5, 1, [], by decide +kernel⟩,
    ⟨(W15.rdy 0x606 [6] State.reset), 5, 1, [6], 6, by decide +kernel⟩,
    ⟨(W15.rdy 0x600 [6,7] State.reset), 5, 1, [6,7], by decide +kernel⟩,
    ⟨(W15.rdy 0x601 [6,7] State.reset |> W15.k5), 5, 1, [6,7], 6, by decide +kernel⟩,
    ⟨(W15.rdy 0x602 [5,7] State.reset |> W15.k5), 5, 1, [5,7], by decide +kernel⟩,
    ⟨(W15.rdy 0x603 [5] State.reset |> W15.k5), 5, 1, [5], 5, by decide +kernel⟩,
    ⟨(W15.rdy 0x604 (natBytes 48 (2^350+12345678912345)) State.reset), 5, 1, (natBytes 48 (2^350+12345678912345)), by decide +kernel⟩,
    ⟨(W15.rdy 0x605 (natBytes 40 12345) State.reset), 5, 1, (natBytes 40 12345), by decide +kernel⟩,
    ⟨(W15.rdy 0x700 W15.pg State.reset), 5, 1, W15.pg, 9, by decide +kernel⟩,
    ⟨(W15.rdy 0x701 [9] State.reset), 5, 1, [9], 9, by decide +kernel⟩,
    ⟨(W15.rdy 0x702 [9, 1] State.reset |> W15.gr), 5, 1, [9, 1], 9, by decide +kernel⟩⟩

namespace W15b
def putCmd (n m : Nat) (l : List Byte) (b : State) : State := (List.range 64).foldl (fun t k => t.setReg .SHX_MB_CMD (mbx n m * 64 + k) (BitVec.ofNat 32 (bytesAt l (4*k) 4))) b
def cb (op ver auth : Nat) (p : List Byte) (cnt : Nat := 0) : List Byte := natBytes 2 op ++ natBytes 1 auth ++ natBytes 1 ver ++ natBytes 2 p.length ++ natBytes 2 0 ++ natBytes 4 0x11223344 ++ natBytes 4 0 ++ natBytes 8 cnt ++ natBytes 16 (if auth = 1 then 99 else 0) ++ natBytes 8 0 ++ p
def rdy (op : Nat) (p : List Byte) (b : State) : State := (setTaken 5 1 (some ⟨.ready, none, false⟩) (setMbState 5 1 2 (putCmd 5 1 (cb op 1 0 p) b))).wr F.SHX_OWNER.OWNER 0 5
def hx (b : State) : State := b.on F.LNK_PCFG.X8X2 2
def ops (l : List ShxOp) (b : State) : State := {b with shx := {b.shx with ops := l}}
def win (b : State) : State := (((b.setReg .WRD_HWIN (hwin 5 3 0) 0x10007).setReg .WRD_HWIN (hwin 5 3 1) 2).setReg .WRD_HWIN (hwin 5 3 2) 15)
def p0 : List Byte := natBytes 4 40 ++ [1,0] ++ natBytes 2 32 ++ natBytes 2 32 ++ [0,0] ++ natBytes 4 0
def s0 (b : State) : State := let p := p0; (rdy 0x100 p b).off F.COH_PT_STAT.BUSY 0
def p1 : List Byte := natBytes 4 40 ++ [0,0] ++ natBytes 2 32 ++ natBytes 2 0
def s1 (b : State) : State := let p := p1; { (rdy 0x101 p b).off F.COH_PT_STAT.BUSY 0 with coh := {b.coh with pt := [(40, ⟨1,33,33,false,5,0,false,false⟩)]}}
def p2 : List Byte := natBytes 4 40 ++ [0,0] ++ natBytes 2 32
def s2 (b : State) : State := let p := p2; { (rdy 0x102 p b).off F.COH_PT_STAT.BUSY 0 with coh := {b.coh with pt := [(40, ⟨1,33,33,false,5,0,false,false⟩)]}}
def p3 : List Byte := [7,0,0,0,0,0,0,0] ++ natBytes 8 (2^33+2^16) ++ natBytes 8 4096
def s3 (b : State) : State := let p := p3; (win (rdy 0x201 p b)).wr F.CFG_RGN_CFG.OWNER 7 5 |>.on F.CFG_PINS.DONE 0 |>.wr F.CFG_RGN_CFG.STATE 7 1 |>.wr F.CFG_RGN_CFG.LEAF 7 2
def p4 : List Byte := [7]
def s4 (b : State) : State := let p := p4; (win (rdy 0x202 p b)).wr F.CFG_RGN_CFG.STATE 7 3 |>.wr F.CFG_RGN_CFG.LEAF 7 2
def p5 : List Byte := [82/82*7,0,0,0] ++ natBytes 4 105000 ++ natBytes 8 (2^33+2^16)
def s5 (b : State) : State := let p := p5; (win (rdy 0x205 p b)).wr F.CFG_RGN_CFG.OWNER 7 5 |>.on F.CFG_SECT.INRGN 82 |>.wr F.CFG_SECT.REGION 82 7
def p6 : List Byte := [0,0,0,0,0,0,0,0] ++ natBytes 8 (2^33+2^16) ++ natBytes 8 4096
def s6 (b : State) : State := let p := p6; (win (rdy 0x206 p b)).off F.CFG_PINS.DONE 0
def nome (b : State) : State := [20,21,30].foldl (fun t e => t.off F.TMB_STAT.CLEARING e) b
def p7 : List Byte := [7,0,2,0,0,0,0,0] ++ natBytes 2 20 ++ natBytes 2 21
def s7 (b : State) : State := let p := p7; (nome (rdy 0x301 p b)).on F.TMB_SET_CFG.VALID 7 |>.on F.TMB_STAT.TESTED 20 |>.on F.TMB_STAT.TESTED 21 |>.off F.TMB_STAT.RETIRED 20 |>.off F.TMB_STAT.RETIRED 21 |>.off F.TMB_SET_JSTAT.RUNNING 7
def p8 : List Byte := [7,0,0,0,0,0,0,0] ++ natBytes 8 (2^33+2^16) ++ natBytes 4 64 ++ natBytes 2 16 ++ [0,0] ++ natBytes 8 (2^33+2^16) ++ natBytes 4 0
def s8 (b : State) : State := let p := p8; (nome (win (rdy 0x303 p b))).on F.TMB_SET_CFG.VALID 7 |>.wr F.TMB_SET_CFG.TENANT 7 5 |>.on F.TMB_CFG.VALID 30 |>.wr F.TMB_CFG.SET 30 7 |>.off F.TMB_STAT.RETIRED 30
def p9 : List Byte := [7,0,0,0] ++ natBytes 4 500 ++ natBytes 16 12345
def s9 (b : State) : State := let p := p9; (nome (rdy 0x304 p b)).on F.TMB_SET_CFG.VALID 7 |>.wr F.TMB_SET_CFG.TENANT 7 5 |>.on F.TMB_CFG.VALID 30 |>.wr F.TMB_CFG.SET 30 7 |>.off F.TMB_STAT.RETIRED 30 |>.off F.TMB_SET_JSTAT.RUNNING 7
def p10 : List Byte := natBytes 2 30 ++ [0]
def s10 (b : State) : State := let p := p10; (nome (rdy 0x309 p b))
def p11 : List Byte := natBytes 4 5
def s11 (b : State) : State := let p := p11; (rdy 0x500 p b)
def p12 : List Byte := natBytes 2 0
def s12 (b : State) : State := let p := p12; (rdy 0x501 p b).wr F.LNK_HSTAT.CTLST 5 3 |>.wr F.LNK_HSTAT.LTSSM 5 3
def p13 : List Byte := [1,3]
def s13 (b : State) : State := let p := p13; (rdy 0x502 p b)
def p14 : List Byte := natBytes 2 5 ++ [2]
def s14 (b : State) : State := let p := p14; (rdy 0x503 p b)
def p15 : List Byte := [1,0,0,0,0,0,0,0] ++ natBytes 8 (2^33+2^16) ++ natBytes 8 4096
def s15 (b : State) : State := let p := p15; win (rdy 0x607 p b)
def p16 : List Byte := [1,0,0,0,0,0,0,0] ++ natBytes 8 (2^33+2^16) ++ natBytes 8 4096
def s16 (b : State) : State := let p := p16; win (rdy 0x608 p b)
def p18 : List Byte := natBytes 2 3 ++ [1,0,1,0,0,0] ++ natBytes 4 9
def s18 (b : State) : State := let p := p18; (rdy 0x801 p b)
def far (b : State) : State := {b with clk := {b.clk with dtc := BitVec.ofNat 96 (2^90)}}
def oo (op ph mask : Nat) (args : List Byte) : ShxOp := ⟨77, 7, op, 5, [], none, none, true, ph, 3, mask, args, []⟩
def rec : ShxRecord := ⟨5,6,0x500,5,[],0,0,0,[1],99⟩
def rr (b : State) : State := ({b with shx := {b.shx with held := [{rec with tenant := 3}, rec]}} : State).on F.SHX_CR_CTL.EN 5 |>.wr F.SHX_CR_CTL.SIZE 5 4 |>.wr F.SHX_CR_TAIL.TAIL 5 15 |>.wr F.SHX_CR_HEAD.HEAD 5 3
def ev (z : Nat) : Word := setF (setF (setF 0 F.SHX_CR_CTL.EN.lo 1 1) F.SHX_CR_CTL.SIZE.lo F.SHX_CR_CTL.SIZE.width z) F.SHX_CR_CTL.MBV_EN.lo 1 1
def p17 : List Byte := [1, 0x50, 0, 0, 0,0,0,0] ++ natBytes 8 0
def s17 (b : State) : State := let t := (rdy 0x703 p17 b).on F.MGP_I2CCTL.EN 1 |>.on F.MGP_MAP.EN 2 |>.on F.MGP_MAP.EN 3
  {t with shx := {t.shx with writers := (List.range 64).map (fun i => (i, 0xffff)), readers := (List.range 64).map (fun i => (i, 0xffff))}}
end W15b

open W15b in
theorem witness_LongCommandsStartOrQueue :
    (∃ (s : State) (n : Fin 16) (m : Fin 2) (p : List Byte) (objs : List ShxObj) (o : ShxOp), (shxReady s n m 0x0100 = true) ∧
      (p = cmdPayload s n m) ∧ (deviceOwner s = n.val) ∧ (objs = [.extent (bytesAt p 0 4)]) ∧ (objs.any (objBusy s) = false) ∧
      (outstanding s n < 256) ∧ (o = newOp s n m 0x0100 objs none none [])) ∧
    (∃ (s : State) (n : Fin 16) (m : Fin 2) (p : List Byte) (objs : List ShxObj) (o : ShxOp), (shxReady s n m 0x0101 = true) ∧
      (p = cmdPayload s n m) ∧ (deviceOwner s = n.val) ∧ (objs = [.extent (bytesAt p 0 4)]) ∧ (objs.any (objBusy s) = false) ∧
      (outstanding s n < 256) ∧ (o = newOp s n m 0x0101 objs none none [])) ∧
    (∃ (s : State) (n : Fin 16) (m : Fin 2) (p : List Byte) (objs : List ShxObj) (o : ShxOp), (shxReady s n m 0x0102 = true) ∧
      (p = cmdPayload s n m) ∧ (deviceOwner s = n.val) ∧ (objs = [.extent (bytesAt p 0 4)]) ∧ (objs.any (objBusy s) = false) ∧
      (outstanding s n < 256) ∧ (o = newOp s n m 0x0102 objs none none [])) ∧
    (∃ (s : State) (n : Fin 16) (m : Fin 2) (p : List Byte) (objs : List ShxObj) (o : ShxOp) (tk : Option Nat) (g : Bool) (u : State),
      (shxReady s n m 0x0201 = true) ∧ (p = cmdPayload s n m) ∧ (s.rd F.CFG_RGN_CFG.OWNER (bytesAt p 0 1) = n.val) ∧
      (s.flag F.CFG_PINS.DONE 0 = true) ∧
      ((if bytesAt p 1 1 = 1 then s.shx.kept.getLsbD (bytesAt p 0 1) else !(noWindow s n (bytesAt p 8 8) (bytesAt p 16 8) false).1) = true) ∧
      (objs = [.region (bytesAt p 0 1)]) ∧ (objs.any (objBusy s) = false) ∧ (outstanding s n < 256) ∧
      (askArbiter 5 (s.rd F.CFG_RGN_CFG.LEAF (bytesAt p 0 1)) (issueHandle n s).2 = (tk, g, u)) ∧ (o = newOp s n m 0x0201 objs (some (5,
      s.rd F.CFG_RGN_CFG.LEAF (bytesAt p 0 1))) tk [])) ∧
    (∃ (s : State) (n : Fin 16) (m : Fin 2) (p : List Byte) (objs : List ShxObj) (o : ShxOp) (tk : Option Nat) (g : Bool) (u : State),
      (shxReady s n m 0x0202 = true) ∧ (p = cmdPayload s n m) ∧ (s.rd F.CFG_RGN_CFG.OWNER (bytesAt p 0 1) = n.val ∨ n.val = deviceOwner s) ∧
      (objs = [.region (bytesAt p 0 1)]) ∧ (objs.any (objBusy s) = false) ∧ (outstanding s n < 256) ∧
      (askArbiter 5 (s.rd F.CFG_RGN_CFG.LEAF (bytesAt p 0 1)) (issueHandle n s).2 = (tk, g, u)) ∧ (o = newOp s n m 0x0202 objs (some (5,
      s.rd F.CFG_RGN_CFG.LEAF (bytesAt p 0 1))) tk [])) ∧
    (∃ (s : State) (n : Fin 16) (m : Fin 2) (p : List Byte) (objs : List ShxObj) (o : ShxOp), (shxReady s n m 0x0205 = true) ∧
      (p = cmdPayload s n m) ∧ (s.rd F.CFG_RGN_CFG.OWNER (bytesAt p 0 1) = n.val) ∧ (frameRegion s (bytesAt p 4 4) = some (bytesAt p 0 1)) ∧
      ((noWindow s n (bytesAt p 8 8) 576 true).1 = false) ∧ (objs = [.region (bytesAt p 0 1)]) ∧ (objs.any (objBusy s) = false) ∧
      (outstanding s n < 256) ∧ (o = newOp s n m 0x0205 objs none none [])) ∧
    (∃ (s : State) (n : Fin 16) (m : Fin 2) (p : List Byte) (objs : List ShxObj) (o : ShxOp) (tk : Option Nat) (g : Bool) (u : State),
      (shxReady s n m 0x0206 = true) ∧ (p = cmdPayload s n m) ∧ (deviceOwner s = n.val) ∧ (s.flag F.CFG_PINS.DONE 0 = false) ∧
      ((noWindow s n (bytesAt p 8 8) (bytesAt p 16 8) false).1 = false) ∧ (objs = []) ∧ (objs.any (objBusy s) = false) ∧ (outstanding s n < 256) ∧
      (askArbiter 9 (0) (issueHandle n s).2 = (tk, g, u)) ∧ (o = newOp s n m 0x0206 objs (some (9, 0)) tk [])) ∧
    (∃ (s : State) (n : Fin 16) (m : Fin 2) (p : List Byte) (objs : List ShxObj) (o : ShxOp), (shxReady s n m 0x0301 = true) ∧
      (p = cmdPayload s n m) ∧ (deviceOwner s = n.val) ∧ ((∀ e ∈ enginesArg p, cfgRefused s e (bytesAt p 0 1) (bytesAt p 1 1 == 0) = false)) ∧
      ((bytesAt p 1 1 = 0 ∨ ∀ e ∈ enginesArg p, engineSet s e = some (bytesAt p 0 1))) ∧
      (objs = .set (bytesAt p 0 1) :: (enginesArg p).map .engine) ∧ (objs.any (objBusy s) = false) ∧ (outstanding s n < 256) ∧
      (o = newOp s n m 0x0301 objs none none [])) ∧
    (∃ (s : State) (n : Fin 16) (m : Fin 2) (p : List Byte) (a : List Byte) (b : List Byte) (objs : List ShxObj) (o : ShxOp),
      (shxReady s n m 0x0303 = true) ∧ (p = cmdPayload s n m) ∧ (ownsSet s n (bytesAt p 0 1) = true) ∧
      ((noWindow s n (bytesAt p 8 8) (bytesAt p 16 4) false).1 = false) ∧ ((noWindow s n (bytesAt p 24 8) (bytesAt p 32 4) false).1 = false) ∧
      (objs = [.set (bytesAt p 0 1)]) ∧ (objs.any (objBusy s) = false) ∧ (outstanding s n < 256) ∧
      (o = newOp s n m 0x0303 objs none none (fitBytes (bytesAt p 16 4) a ++ fitBytes (bytesAt p 32 4) b))) ∧
    (∃ (s : State) (n : Fin 16) (m : Fin 2) (p : List Byte) (objs : List ShxObj) (o : ShxOp), (shxReady s n m 0x0304 = true) ∧
      (p = cmdPayload s n m) ∧ (ownsSet s n (bytesAt p 0 1) = true) ∧ (jobRuns s (bytesAt p 0 1) = false) ∧ (objs = [.set (bytesAt p 0 1)]) ∧
      (objs.any (objBusy s) = false) ∧ (outstanding s n < 256) ∧ (o = newOp s n m 0x0304 objs none none [])) ∧
    (∃ (s : State) (n : Fin 16) (m : Fin 2) (p : List Byte) (objs : List ShxObj) (o : ShxOp) (tk : Option Nat) (g : Bool) (u : State),
      (shxReady s n m 0x0309 = true) ∧ (p = cmdPayload s n m) ∧ (deviceOwner s = n.val) ∧ (objs = [.engine (bytesAt p 0 2)]) ∧
      (objs.any (objBusy s) = false) ∧ (outstanding s n < 256) ∧ (askArbiter 7 (bytesAt p 0 2) (issueHandle n s).2 = (tk, g, u)) ∧
      (o = newOp s n m 0x0309 objs (some (7, bytesAt p 0 2)) tk [])) ∧
    (∃ (s : State) (n : Fin 16) (m : Fin 2) (p : List Byte) (objs : List ShxObj) (o : ShxOp) (tk : Option Nat) (g : Bool) (u : State),
      (shxReady s n m 0x0500 = true) ∧ (p = cmdPayload s n m) ∧ (objs = [.head n]) ∧ (objs.any (objBusy s) = false) ∧ (outstanding s n < 256) ∧
      (askArbiter 6 (n.val) (issueHandle n s).2 = (tk, g, u)) ∧ (o = newOp s n m 0x0500 objs (some (6, n.val)) tk [])) ∧
    (∃ (s : State) (n : Fin 16) (m : Fin 2) (p : List Byte) (objs : List ShxObj) (o : ShxOp) (tk : Option Nat) (g : Bool) (u : State),
      (shxReady s n m 0x0501 = true) ∧ (p = cmdPayload s n m) ∧ (headUp s n = true) ∧ (objs = [.head n]) ∧ (objs.any (objBusy s) = false) ∧
      (outstanding s n < 256) ∧ (askArbiter 6 (n.val) (issueHandle n s).2 = (tk, g, u)) ∧ (o = newOp s n m 0x0501 objs (some (6, n.val)) tk [])) ∧
    (∃ (s : State) (n : Fin 16) (m : Fin 2) (p : List Byte) (objs : List ShxObj) (o : ShxOp), (shxReady s n m 0x0502 = true) ∧
      (p = cmdPayload s n m) ∧ (deviceOwner s = n.val) ∧ (objs = [.pass (bytesAt p 0 1) (bytesAt p 1 1)]) ∧ (objs.any (objBusy s) = false) ∧
      (outstanding s n < 256) ∧ (o = newOp s n m 0x0502 objs none none [])) ∧
    (∃ (s : State) (n : Fin 16) (m : Fin 2) (p : List Byte) (objs : List ShxObj) (o : ShxOp) (tk : Option Nat) (g : Bool) (u : State),
      (shxReady s n m 0x0503 = true) ∧ (p = cmdPayload s n m) ∧ (deviceOwner s = n.val) ∧
      (objs = ((List.range 12).filter (fun c => nbit (bytesAt p 0 2) c)).map .channel) ∧ (objs.any (objBusy s) = false) ∧ (outstanding s n < 256) ∧
      (askArbiter 4 (bytesAt p 0 2) (issueHandle n s).2 = (tk, g, u)) ∧ (o = newOp s n m 0x0503 objs (some (4, bytesAt p 0 2)) tk [])) ∧
    (∃ (s : State) (n : Fin 16) (m : Fin 2) (p : List Byte) (img : List Byte) (objs : List ShxObj) (o : ShxOp), (shxReady s n m 0x0607 = true) ∧
      (p = cmdPayload s n m) ∧ (deviceOwner s = n.val) ∧ ((noWindow s n (bytesAt p 8 8) (bytesAt p 16 8) false).1 = false) ∧
      (objs = [.flash (bytesAt p 0 1) 0]) ∧ (objs.any (objBusy s) = false) ∧ (outstanding s n < 256) ∧ (o = newOp s n m 0x0607 objs none none img)) ∧
    (∃ (s : State) (n : Fin 16) (m : Fin 2) (p : List Byte) (img : List Byte) (objs : List ShxObj) (o : ShxOp), (shxReady s n m 0x0608 = true) ∧
      (p = cmdPayload s n m) ∧ (deviceOwner s = n.val) ∧ ((noWindow s n (bytesAt p 8 8) (bytesAt p 16 8) false).1 = false) ∧
      (objs = [.flash (bytesAt p 0 1) 1]) ∧ (objs.any (objBusy s) = false) ∧ (outstanding s n < 256) ∧ (o = newOp s n m 0x0608 objs none none img)) ∧
    (∃ (s : State) (n : Fin 16) (m : Fin 2) (p : List Byte) (objs : List ShxObj) (o : ShxOp), (shxReady s n m 0x0703 = true) ∧
      (p = cmdPayload s n m) ∧ (busGranted s n p = true) ∧ ((∀ i ∈ mapPins s (2 * bytesAt p 0 1) 2, pinOwner s i ≠ 5)) ∧
      (s.flag F.MGP_I2CCTL.EN (bytesAt p 0 1) = true) ∧ ((noWindow s n (bytesAt p 8 8) (bytesAt p 3 1) true).1 = false) ∧
      (objs = [.bus (bytesAt p 0 1)]) ∧ (objs.any (objBusy s) = false) ∧ (outstanding s n < 256) ∧ (o = newOp s n m 0x0703 objs none none [])) ∧
    (∃ (s : State) (n : Fin 16) (m : Fin 2) (p : List Byte) (objs : List ShxObj) (o : ShxOp), (shxReady s n m 0x0801 = true) ∧
      (p = cmdPayload s n m) ∧ (objs = [.head n]) ∧ (objs.any (objBusy s) = false) ∧ (outstanding s n < 256) ∧
      (o = newOp s n m 0x0801 objs none none [])) :=
  ⟨⟨(s0 State.reset), 5, 1, p0, ([.extent 40]), (newOp (s0 State.reset) 5 1 0x100 ([.extent 40]) none none []), by decide +kernel⟩,
    ⟨(s1 State.reset), 5, 1, p1, ([.extent 40]), (newOp (s1 State.reset) 5 1 0x101 ([.extent 40]) none none []), by decide +kernel⟩,
    ⟨(s2 State.reset), 5, 1, p2, ([.extent 40]), (newOp (s2 State.reset) 5 1 0x102 ([.extent 40]) none none []), by decide +kernel⟩,
    ⟨(s3 State.reset), 5, 1, p3, ([.region 7]),
      (newOp (s3 State.reset) 5 1 0x201 ([.region 7]) (some (5,(s3 State.reset).rd F.CFG_RGN_CFG.LEAF 7)) (askArbiter (5) ((s3 State.reset).rd F.CFG_RGN_CFG.LEAF 7) (issueHandle 5 (s3 State.reset)).2).1 []),
      (askArbiter (5) ((s3 State.reset).rd F.CFG_RGN_CFG.LEAF 7) (issueHandle 5 (s3 State.reset)).2).1,
      (askArbiter (5) ((s3 State.reset).rd F.CFG_RGN_CFG.LEAF 7) (issueHandle 5 (s3 State.reset)).2).2.1,
      (askArbiter (5) ((s3 State.reset).rd F.CFG_RGN_CFG.LEAF 7) (issueHandle 5 (s3 State.reset)).2).2.2, by decide +kernel⟩,
    ⟨(s4 State.reset), 5, 1, p4, ([.region 7]),
      (newOp (s4 State.reset) 5 1 0x202 ([.region 7]) (some (5,(s4 State.reset).rd F.CFG_RGN_CFG.LEAF 7)) (askArbiter (5) ((s4 State.reset).rd F.CFG_RGN_CFG.LEAF 7) (issueHandle 5 (s4 State.reset)).2).1 []),
      (askArbiter (5) ((s4 State.reset).rd F.CFG_RGN_CFG.LEAF 7) (issueHandle 5 (s4 State.reset)).2).1,
      (askArbiter (5) ((s4 State.reset).rd F.CFG_RGN_CFG.LEAF 7) (issueHandle 5 (s4 State.reset)).2).2.1,
      (askArbiter (5) ((s4 State.reset).rd F.CFG_RGN_CFG.LEAF 7) (issueHandle 5 (s4 State.reset)).2).2.2, by decide +kernel⟩,
    ⟨(s5 State.reset), 5, 1, p5, ([.region 7]), (newOp (s5 State.reset) 5 1 0x205 ([.region 7]) none none []), by decide +kernel⟩,
    ⟨(s6 State.reset), 5, 1, p6, ([]),
      (newOp (s6 State.reset) 5 1 0x206 ([]) (some (9,0)) (askArbiter (9) (0) (issueHandle 5 (s6 State.reset)).2).1 []),
      (askArbiter (9) (0) (issueHandle 5 (s6 State.reset)).2).1, (askArbiter (9) (0) (issueHandle 5 (s6 State.reset)).2).2.1,
      (askArbiter (9) (0) (issueHandle 5 (s6 State.reset)).2).2.2, by decide +kernel⟩,
    ⟨(s7 State.reset), 5, 1, p7, ([.set 7, .engine 20, .engine 21]), (newOp (s7 State.reset) 5 1 0x301 ([.set 7, .engine 20,
      .engine 21]) none none []), by decide +kernel⟩,
    ⟨(s8 State.reset), 5, 1, p8, [1,2,3], [5], ([.set 7]),
      (newOp (s8 State.reset) 5 1 0x303 ([.set 7]) none none (fitBytes 64 [1,2,3] ++ fitBytes 0 [5])), by decide +kernel⟩,
    ⟨(s9 State.reset), 5, 1, p9, ([.set 7]), (newOp (s9 State.reset) 5 1 0x304 ([.set 7]) none none []), by decide +kernel⟩,
    ⟨(s10 State.reset), 5, 1, p10, ([.engine 30]),
      (newOp (s10 State.reset) 5 1 0x309 ([.engine 30]) (some (7,30)) (askArbiter (7) (30) (issueHandle 5 (s10 State.reset)).2).1 []),
      (askArbiter (7) (30) (issueHandle 5 (s10 State.reset)).2).1, (askArbiter (7) (30) (issueHandle 5 (s10 State.reset)).2).2.1,
      (askArbiter (7) (30) (issueHandle 5 (s10 State.reset)).2).2.2, by decide +kernel⟩,
    ⟨(s11 State.reset), 5, 1, p11, ([.head 5]),
      (newOp (s11 State.reset) 5 1 0x500 ([.head 5]) (some (6,5)) (askArbiter (6) (5) (issueHandle 5 (s11 State.reset)).2).1 []),
      (askArbiter (6) (5) (issueHandle 5 (s11 State.reset)).2).1, (askArbiter (6) (5) (issueHandle 5 (s11 State.reset)).2).2.1,
      (askArbiter (6) (5) (issueHandle 5 (s11 State.reset)).2).2.2, by decide +kernel⟩,
    ⟨(s12 State.reset), 5, 1, p12, ([.head 5]),
      (newOp (s12 State.reset) 5 1 0x501 ([.head 5]) (some (6,5)) (askArbiter (6) (5) (issueHandle 5 (s12 State.reset)).2).1 []),
      (askArbiter (6) (5) (issueHandle 5 (s12 State.reset)).2).1, (askArbiter (6) (5) (issueHandle 5 (s12 State.reset)).2).2.1,
      (askArbiter (6) (5) (issueHandle 5 (s12 State.reset)).2).2.2, by decide +kernel⟩,
    ⟨(s13 State.reset), 5, 1, p13, ([.pass 1 3]), (newOp (s13 State.reset) 5 1 0x502 ([.pass 1 3]) none none []), by decide +kernel⟩,
    ⟨(s14 State.reset), 5, 1, p14, ([.channel 0, .channel 2]), (newOp (s14 State.reset) 5 1 0x503 ([.channel 0,
      .channel 2]) (some (4,5)) (askArbiter (4) (5) (issueHandle 5 (s14 State.reset)).2).1 []),
      (askArbiter (4) (5) (issueHandle 5 (s14 State.reset)).2).1, (askArbiter (4) (5) (issueHandle 5 (s14 State.reset)).2).2.1,
      (askArbiter (4) (5) (issueHandle 5 (s14 State.reset)).2).2.2, by decide +kernel⟩,
    ⟨(s15 State.reset), 5, 1, p15, [1,2,3], ([.flash 1 0]), (newOp (s15 State.reset) 5 1 0x607 ([.flash 1 0]) none none [1,2,3]), by decide +kernel⟩,
    ⟨(s16 State.reset), 5, 1, p16, [1,2,3], ([.flash 1 1]), (newOp (s16 State.reset) 5 1 0x608 ([.flash 1 1]) none none [1,2,3]), by decide +kernel⟩,
    ⟨(s17 State.reset), 5, 1, p17, [.bus 1], (newOp (s17 State.reset) 5 1 0x703 [.bus 1] none none []), by decide +kernel⟩,
    ⟨(s18 State.reset), 5, 1, p18, ([.head 5]), (newOp (s18 State.reset) 5 1 0x801 ([.head 5]) none none []), by decide +kernel⟩⟩

theorem witness_OperationsEndInRecords :
    (∃ (s : State) (n : Fin 16) (m : Fin 2) (x : ShxObj × Instr), (x ∈ [(ShxObj.head n, Instr.laneLoopback n m), (.head n, .laneRestore n m)]) ∧
      shxReady s n m 0x0801 = true ∧ x.2 ≠ .laneRestore n m ∧ objBusy s x.1 = false) ∧
    (∃ (s : State) (k : Nat) (o : ShxOp), (extOp s 0x0100 2 k = some o) ∧ (s.expired o.at_ 1000000000 = true) ∧ (acceptedBy s k o.mask = 0) ∧
      (o.mask ≠ 0) ∧ (o.ticket = none) ∧ (s.shx.ops = [o]) ∧ (s.rd F.COH_PT_STAT.BUSY 0 = 0)) ∧
    (∃ (s : State) (n : Fin 16) (k : Nat) (o : ShxOp), (extOp s 0x0102 1 k = some o) ∧ (nbit o.mask n = true) ∧ (o.mask ≠ 2 ^ n.val) ∧
      (s.shx.ops = [o])) ∧
    (∃ (s : State) (k : Nat) (o : ShxOp), (extOp s 0x0102 1 k = some o) ∧ (o.mask ≠ 0) ∧ (s.expired o.at_ (1000000 * o.arg 6 2) = true) ∧
      (o.arg 4 1 = 0) ∧ (o.ticket = none) ∧ (s.shx.ops = [o])) ∧
    (∃ (s : State) (n : Fin 16) (o : ShxOp), (s.shx.ops = [o]) ∧ (o.opcode = 0x0801) ∧ (o.started = true) ∧ (o.tenant = n.val) ∧ (o.ticket = none) ∧
      (s.expired o.at_ (1000000 * o.arg 8 4) = true)) ∧
    (∃ (s : State) (n : Fin 16) (r : ShxRecord) (x : Nat), (s.shx.held.find? (fun r => r.tenant == n.val) = some r) ∧ (ringRoom s n = true) ∧
      (x = (s.rd F.SHX_CR_TAIL.TAIL n + 1) % ringSize s n) ∧ (x < 2 ^ F.SHX_CR_TAIL.TAIL.width)) ∧
    (∃ (s : State) (n : Fin 16) (v : Word), (headExists s n = true) ∧ (F.SHX_CR_CTL.EN.of v = 1)) ∧
    (∃ (s : State) (n : Fin 16) (v : Word) (h : Nat) (size : Nat) (now : Nat) (tail : Nat), (headExists s n = true) ∧
      (h = F.SHX_CR_HEAD.HEAD.of v) ∧ (size = ringSize s n) ∧ (now = s.rd F.SHX_CR_HEAD.HEAD n) ∧ (tail = s.rd F.SHX_CR_TAIL.TAIL n)) :=
  ⟨⟨W15c.rdy 0x0801 [] State.reset, 5, 1, (.head 5, .laneLoopback 5 1), List.mem_cons_self, by decide +kernel, (by intro h; cases h),
      by decide +kernel⟩,
    ⟨(W15b.far (W15b.ops [W15b.oo 0x100 2 48 (natBytes 4 40)] {State.reset with coh := {State.reset.coh with offered := [(5,[40,41]),(4,[3,40])], accepted := []}}) |>.off F.COH_PT_STAT.BUSY 0),
      40, (W15b.oo 0x100 2 48 (natBytes 4 40)), by decide +kernel⟩,
    ⟨(W15b.ops [W15b.oo 0x102 1 48 (natBytes 4 40)] {State.reset with coh := {State.reset.coh with accepted := [(5,[40,41]),(4,[3,40])]}}), 5, 40,
      (W15b.oo 0x102 1 48 (natBytes 4 40)), by decide +kernel⟩,
    ⟨(W15b.far (W15b.ops [W15b.oo 0x102 1 48 (natBytes 4 40 ++ [0,0,7,0])] State.reset)), 40, (W15b.oo 0x102 1 48 (natBytes 4 40 ++ [0,0,7,0])),
      by decide +kernel⟩,
    ⟨(W15b.far (W15b.ops [W15b.oo 0x801 1 1 (natBytes 2 0xffff ++ [1,0,1,0,0,0] ++ natBytes 4 9)] State.reset)), 5,
      (W15b.oo 0x801 1 1 (natBytes 2 0xffff ++ [1,0,1,0,0,0] ++ natBytes 4 9)), by decide +kernel⟩,
    ⟨(W15c.bs (W15c.win (W15c.rr State.reset))), 5, W15c.rec, 0, by decide +kernel⟩,
    ⟨(W15b.hx State.reset |>.off F.SHX_CR_CTL.EN 5), 5, (W15b.ev 7), by decide +kernel⟩,
    ⟨(W15b.hx (W15b.rr State.reset)), 5, 0x5, 5, 16, 3, 15, by decide +kernel⟩⟩

namespace W16
def sr (n : Nat) (st : SrcState) (c : Nat) (b : State) : State := b.setSrc n ⟨st, c, 5⟩
def ens (b : State) : State := ((((b.on F.EVC_SRC.EN 100).wr F.EVC_SRC.TKIND 100 0).wr F.EVC_SRC.KMASK 100 15).wr F.EVC_SRC.PRIO 100 9)
def thr (b : State) : State := [0,1,2,3].foldl (fun t c => (t.wr F.EVC_THR.THR c 0).wr (F.KP_CORE_STAT.RUN c) 0 1) b
def off (b : State) : State := {sr 101 .pending 0 (sr 100 .pending 0 ((thr (ens b)).wr F.KP_LSCTL.LSMODE 0 0)) with evc := {(sr 101 .pending 0 (sr 100 .pending 0 (thr (ens b)))).evc with offers := [(2, 101)]}}
def cv (n : Nat) : Word := setF 0 F.EVC_COMPLETE.SOURCE.lo F.EVC_COMPLETE.SOURCE.width n
def sv (n : Nat) : Word := setF 0 F.EVC_SWSET.SOURCE.lo F.EVC_SWSET.SOURCE.width n
def nt (n : Nat) (b : State) : State := sr n .pending 0 ((b.wr F.EVC_SRC.TKIND n 1).wr F.EVC_SRC.TENANT n 5)
def up (l : Nat) (b : State) : State := {(b.wr F.LNK_HSTAT.CTLST 5 3).wr F.LNK_HSTAT.LTSSM 5 l with evc := {b.evc with msixEn := 0xff}}
def wd (l : List (Nat × Option WdtRec)) (b : State) : State := {b with evc := {b.evc with wdt := l}, clk := {b.clk with dtc := BitVec.ofNat 96 (2^60)}}
def r0 : WdtRec := ⟨2^28+5, 7, none⟩
def r1 : WdtRec := ⟨2^28, 7, none⟩
end W16

open W16 in
theorem witness_SourcesAreRaisedClaimedAndCompleted :
    (∃ (s : State) (c : Fin 4), (peek s c = 0x3FF)) ∧
    (∃ (s : State) (c : Fin 4) (n : Nat) (g : Nat), (n < 1023) ∧ (higherOfPair s c = false) ∧ (sget 0 s.evc.offers c = n + 1) ∧
      (g = s.rd F.EVC_SRC.GROUP n)) ∧
    (∃ (s : State) (c : Fin 4) (v : Word) (n : Nat), (n = F.EVC_COMPLETE.SOURCE.of v) ∧ (higherOfPair s c = false)) ∧
    (∃ (s : State) (n : Fin 1024) (v : Word), (n.val < 96 ∨ 128 ≤ n.val)) ∧
    (∃ (s : State) (n : Fin 1024) (v : Word), (96 ≤ n.val) ∧ (n.val < 128)) ∧
    (∃ (s : State) (v : Word) (n : Nat), (n = F.EVC_SWSET.SOURCE.of v)) ∧
    (∃ (s : State) (g : Fin 64), (groupOpen s g = true) ∧ (sget 0 s.evc.holdEnd g ≤ s.dtcNow)) ∧
    (∃ (s : State) (c : Fin 4), (s.rd (F.KP_CORE_STAT.RUN c) 0 = 1) ∧ (higherOfPair s c = false) ∧ (sget 0 s.evc.offers c = 0)) ∧
    (∃ (s : State) (r : Fin 64) (i : Fin 4) (pins : List (Fin 320)) (n : Nat) (new : Nat), (n = 768 + 4 * r.val + i.val) ∧
      (new = b2n (pins.any (fun x => s.flag F.CFG_SECT.INRGN x && s.rd F.CFG_SECT.REGION x == r.val && !s.flag F.CFG_SECT.CLOSED x)))) :=
  ⟨⟨State.reset, 2, by decide +kernel⟩,
    ⟨(off State.reset), 2, 100, (State.reset.rd F.EVC_SRC.GROUP 100), by decide +kernel⟩,
    ⟨(sr 101 .pending 0 (sr 100 .active 2 (thr (ens State.reset)))), 2, (cv 100), 100, by decide +kernel⟩,
    ⟨(sr 50 .pending 0 (thr (ens State.reset))), 50, 0x12345f0f, by decide +kernel⟩,
    ⟨(sr 50 .pending 0 (thr (ens State.reset))), 97, 0x12345f3f, by decide +kernel⟩,
    ⟨(thr (ens State.reset)), (sv 100), 100, by decide +kernel⟩,
    ⟨{thr (ens State.reset) with evc := {(sr 101 .pending 0 (thr (ens State.reset))).evc with holdEnd := [(6, 0), (7, 1)]}, clk := {State.reset.clk with dtc := BitVec.ofNat 96 (2^90)}},
      7, by decide +kernel⟩,
    ⟨(thr (ens State.reset) |>.wr F.KP_LSCTL.LSMODE 0 0), 3, by decide +kernel⟩,
    ⟨(((State.reset.on F.CFG_SECT.INRGN 3).wr F.CFG_SECT.REGION 3 9).off F.CFG_SECT.CLOSED 3 |>.on F.EVC_SRC.EN 805), 9, 1, [2,3], 805, 1,
      by decide +kernel⟩⟩

open W16 in
theorem witness_NotificationsReachTheTenantAndWatchdogsAct :
    (∃ (s : State) (n : Fin 1024) (tn : Nat) (v : Nat), ((s.src n).st = .pending) ∧ (s.rd F.EVC_SRC.TKIND n = 1) ∧
      (groupOpen s (s.rd F.EVC_SRC.GROUP n) = false) ∧ (tn = s.rd F.EVC_SRC.TENANT n) ∧ (v = s.rd F.EVC_SRC.VECTOR n)) ∧
    (∃ (s : State) (n : Fin 16) (k : Nat), (headUp s n = true) ∧ (headL0 s n = true) ∧ (sget [] s.evc.held n = [k]) ∧
      (s.rd F.EVC_SRC.TENANT k = n.val) ∧ (msixMasked s n (s.rd F.EVC_SRC.VECTOR k) = false)) ∧
    (∃ (s : State) (v : Word) (c : Fin 5), (c.val = 4 ∨ higherOfPair s c = false)) ∧
    (∃ (s : State) (c : Fin 4), (higherOfPair s c = false) ∧ (wdtExpired s c = true)) ∧
    (∃ s : State, (∃ r : WdtRec, s.wdt 4 = some r ∧ r.paused = none ∧ r.due ≤ s.dtcNow + 500 * r.len) ∧ s.evc.wdtHalf = false) ∧
    (∃ (s : State) (v : Word), (¬(nbit (F.KP_WDT_KICK.KICK.of v) 4 = true ∧ wdtExpired s 4 = true))) ∧
    (∃ (s : State) (v : Word), (nbit (F.KP_WDT_KICK.KICK.of v) 4 = true) ∧ (wdtExpired s 4 = true)) :=
  ⟨⟨(nt 101 (up 3 State.reset)), 101, 5, (State.reset.rd F.EVC_SRC.VECTOR 101), by decide +kernel⟩,
    ⟨(let s := ((up 3 (nt 101 State.reset)).setReg .SHX_MSIX ((5*32+State.reset.rd F.EVC_SRC.VECTOR 101)*4+3) 0); {s with evc := {s.evc with held := [(5,[101])]}}),
      5, 101, by decide +kernel⟩,
    ⟨(wd [(0, some r0), (1, some r0), (3, some r1)] State.reset |>.wr F.KP_WDT_CTL.EN 0 0xb), 0x15, 4, by decide +kernel⟩,
    ⟨(wd [(2, some r1), (3, some r0)] State.reset), 2, by decide +kernel⟩,
    ⟨wd [(4, some r0)] State.reset, ⟨r0, by decide +kernel⟩, rfl⟩,
    ⟨(wd [(2, some r1), (3, some r0), (4, some r0)] State.reset), 0x1f, by decide +kernel⟩,
    ⟨(wd [(2, some r1), (3, some r0), (4, some r1)] State.reset), 0x1f, by decide +kernel⟩⟩

namespace W17
def ms (n : Nat) (b : State) : State := {b.wr F.PWR_MODE_STAT.STATE 0 n with pwr := {b.pwr with wanted := [], ramping := [], rampQ := []}}
def su (l : List (Nat × Nat)) (b : State) : State := l.foldl (fun t e => setUnit e.1 e.2 t) b
def dm (l : List Nat) (b : State) : State := let t := (List.range 60).foldl (fun t d => t.off (F.PWR_DOM_STAT.ON (d % 32)) (d / 32)) b
  l.foldl (fun t d => t.on (F.PWR_DOM_STAT.ON (d % 32)) (d / 32)) t
def all (l : List Nat) : List (Nat × Nat) := units.map (fun u => (u, 0))
def tk (s : State) (v : Word) : Nat → Bool := fun u => if u = 0 then F.PWR_MODE_CTL.CLK.of v == 1 else if u < 13 then nbit (s.rd F.PWR_MODE_CHAN.MASK 0) (u - 1)
        else if u < 16 then false
        else s.flag (F.PWR_DOM_TGT.ON ((u - 16) % 32)) ((u - 16) / 32) != domOn s (u - 16) && unitSt s u != 6 &&
          !s.pwr.ramping.contains (u - 16) && !s.pwr.rampQ.contains (u - 16)
def G : Word := F.PWR_MODE_CTL.GO.reg |> fun _ => setF (setF 0 F.PWR_MODE_CTL.GO.lo 1 1) F.PWR_MODE_CTL.CLK.lo 1 1
def uu (k : Nat) (l : List (Nat × Nat)) (b : State) : State := su l (su (all []) (ms k b))
def far (b : State) : State := {b with clk := {b.clk with dtc := BitVec.ofNat 96 (2^90)}}
def rp (l q : List Nat) (b : State) : State := {b with pwr := {b.pwr with ramping := l, rampQ := q}}
def U : Word := setF (setF 0 F.PWR_MODE_CTL.UNITRST.lo 1 1) F.PWR_MODE_CTL.UNIT.lo F.PWR_MODE_CTL.UNIT.width 26
def tv : Word := setF (setF 0 F.PWR_TRST_CMD.GO.lo 1 1) F.PWR_TRST_CMD.TENANT.lo F.PWR_TRST_CMD.TENANT.width 5
def nosets (b : State) : State := (List.range 64).foldl (fun t k => t.off F.TMB_SET_CFG.VALID k) (b.on F.PWR_TRST_STAT.BUSY 0)
def mv (a r : Nat) : Word := setF (setF (setF 0 F.PWR_MNT_REQ.GO.lo 1 1) F.PWR_MNT_REQ.ACT.lo F.PWR_MNT_REQ.ACT.width a) F.PWR_MNT_REQ.RES.lo F.PWR_MNT_REQ.RES.width r
def ent (l : List (Nat × Nat × Nat × Nat)) (b : State) : State := l.foldl (fun t e => ((t.wr F.PWR_MNT_ENT.STATE e.1 e.2.1).wr F.PWR_MNT_ENT.ACT e.1 e.2.2.1).wr F.PWR_MNT_ENT.RES e.1 e.2.2.2) b
def full (b : State) : State := (List.range 64).foldl (fun t k => t.wr F.PWR_MNT_ENT.STATE k 2) b
def empt (b : State) : State := (List.range 64).foldl (fun t k => t.wr F.PWR_MNT_ENT.STATE k 0) b
end W17

open W17 in
theorem witness_ModeTransactionsMoveAsOne :
    (∃ (s : State) (v : Word), (F.PWR_MODE_CTL.GO.of v = 1) ∧ (F.PWR_MODE_CTL.UNITRST.of v = 0) ∧ (modeState s ≠ 0)) ∧
    (∃ (s : State) (v : Word) (takes : Nat → Bool), (F.PWR_MODE_CTL.GO.of v = 1) ∧ (F.PWR_MODE_CTL.UNITRST.of v = 0) ∧ (modeState s = 0) ∧
      ((takes = fun u => if u = 0 then F.PWR_MODE_CTL.CLK.of v == 1 else if u < 13 then nbit (s.rd F.PWR_MODE_CHAN.MASK 0) (u - 1) else if u < 16 then false else s.flag (F.PWR_DOM_TGT.ON ((u - 16) % 32)) ((u - 16) / 32) != domOn s (u - 16) && unitSt s u != 6 && !s.pwr.ramping.contains (u - 16) && !s.pwr.rampQ.contains (u - 16)))) ∧
    (∃ (s : State) (u : Fin 76), (modeState s = 1) ∧ (unitSt s u = 1) ∧ (prepared s u = true) ∧ (modeTimer s = false)) ∧
    (∃ (s : State) (u : Fin 76), (u.val < 13 ∨ 16 ≤ u.val) ∧ (modeState s = 1) ∧ (unitSt s u = 1) ∧ (prepared s u = false) ∧
      (u.val < 16 ∨ domOn s (u - 16) = false ∨ modeTimer s = true)) ∧
    (∃ (s : State) (u : Fin 76), (u.val < 13 ∨ 16 ≤ u.val) ∧ (modeState s = 1) ∧ (modeTimer s = true) ∧ (unitSt s u = 1) ∧ ((∀ k : Fin 76,
      k < u → k.val < 13 ∨ 16 ≤ k.val → unitSt s k ≠ 1))) ∧
    (∃ (s : State) (n : Nat) (l : Nat) (tick : Nat) (first : Nat), (modeState s = 2) ∧ (tick = (s.pwr.ackAt + 1023) / 1024 * 1024) ∧
      (tick ≤ s.dtcNow) ∧ (l = (if unitSt s 0 = 2 then changeLcm s else 1)) ∧ (0 < l) ∧ (l ∣ n) ∧
      (first = s.clk.rootEdges - 32 * ((s.clk.dtc.toNat - tick * 2 ^ 32) / s.dtcInc)) ∧ (first ≤ n) ∧ (n < first + l)) ∧
    (∃ (s : State), (modeState s = 4) ∧ (s.pwr.wanted = [])) ∧
    (∃ (s : State) (us : List (Fin 76)), (modeState s = 4) ∧ (modeTimer s = true) ∧ ((∃ u ∈ us, unitSt s u = 5 ∧ 16 ≤ u.val)) ∧ (s.pwr.wanted = [])) :=
  ⟨⟨(ms 2 State.reset), G, by decide +kernel⟩,
    ⟨ms 0 State.reset, G, _, by decide +kernel, by decide +kernel, by decide +kernel, rfl⟩,
    ⟨(uu 1 [(40,1),(50,1),(3,2)] (dm [] State.reset) |>.wr F.PWR_SUP_STAT.VDDQ 0 0xfff |>.wr F.PWR_SUP_STAT.LANE 0 15 |>.off F.WRD_THSTAT.TRIP 0 |>.wr F.PWR_MODE_TMO.TMO 0 9),
      40, by decide +kernel⟩,
    ⟨(uu 1 [(40,1),(50,2),(3,2),(51,1)] (dm [34] State.reset) |>.on F.WRD_THSTAT.TRIP 0), 40, by decide +kernel⟩,
    ⟨(far (uu 1 [(40,1),(50,2),(3,2),(51,1)] (dm [34] State.reset))), 40, by decide +kernel⟩,
    ⟨{ ms 2 State.reset with clk := { State.reset.clk with dtc := BitVec.ofNat 96 (2 ^ 44), rootEdges := 70000 } }.wr F.PWR_MODE_STAT.STATE 0 2, _,
      1, _, _, by decide +kernel, rfl, by decide +kernel, by decide +kernel, by decide, one_dvd _, rfl, le_refl _, Nat.lt_succ_self _⟩,
    ⟨(uu 4 [(0,3),(50,5),(3,6),(51,6)] (dm [34] State.reset)), by decide +kernel⟩,
    ⟨(far (uu 4 [(0,3),(50,5),(3,6),(52,5)] (dm [34] State.reset))), [50, 51], by decide +kernel⟩⟩

open W17 in
theorem witness_DomainsFollowRampsAndSupplies :
    (∃ (s : State) (d : Fin 60), (d.val ∈ s.pwr.ramping)) ∧
    (∃ (s : State) (v : Word) (d : Fin 60), (F.PWR_MODE_CTL.UNITRST.of v = 1) ∧ (F.PWR_MODE_CTL.GO.of v = 0) ∧
      (F.PWR_MODE_CTL.UNIT.of v = 16 + d.val)) ∧
    (∃ (s : State) (b : Fin 16), ((∀ d : Fin 60, supplied s d = true))) ∧
    (∃ (s : State) (l : Fin 4), (nbit s.pwr.lane.toNat (2 * l + 1) = true)) :=
  ⟨⟨(rp [3,12,19,14] [15,22] (uu 3 [(28,6)] (dm [34] State.reset) |> fun t => setChanState (domChannel 12) 0 t)), 12, by decide +kernel⟩,
    ⟨(uu 0 [(26,6)] State.reset), U, 10, by decide +kernel⟩,
    ⟨(State.reset.wr F.PWR_SUP_STAT.VDDQ 0 0xfff |>.wr F.PWR_SUP_STAT.LANE 0 15), 7, by decide +kernel⟩,
    ⟨{State.reset with pwr := {State.reset.pwr with lane := 0xfa}}, 1, by decide +kernel⟩⟩

open W17 in
theorem witness_TenantResetsAndTicketsRunToTheirEnd :
    (∃ (s : State) (v : Word), (F.PWR_TRST_CMD.GO.of v = 0 ∨ s.flag F.PWR_TRST_STAT.BUSY 0 = true)) ∧
    (∃ (s : State) (v : Word) (n : Fin 16), (F.PWR_TRST_CMD.GO.of v = 1) ∧ (F.PWR_TRST_CMD.TENANT.of v = n.val) ∧
      (s.flag F.PWR_TRST_STAT.BUSY 0 = false)) ∧
    (∃ (s : State) (n : Nat), (s.flag F.PWR_TRST_STAT.BUSY 0 = true) ∧ (n = s.rd F.PWR_TRST_STAT.TENANT 0) ∧ (s.mnt.trstEng = []) ∧
      (s.mnt.trst = []) ∧ (tenantSets s n = [])) ∧
    (∃ (s : State) (v : Word), (F.PWR_MNT_REQ.GO.of v = 0 ∨ F.PWR_MNT_REQ.ACT.of v < 3 ∨ 9 < F.PWR_MNT_REQ.ACT.of v)) ∧
    (∃ (s : State) (v : Word) (act : Nat) (res : Nat), (F.PWR_MNT_REQ.GO.of v = 1) ∧ (act = F.PWR_MNT_REQ.ACT.of v) ∧
      (res = F.PWR_MNT_REQ.RES.of v) ∧ (3 ≤ act) ∧ (act ≤ 9) ∧ ((∀ j : Fin 64, s.rd F.PWR_MNT_ENT.STATE j ≠ 0))) ∧
    (∃ (s : State) (v : Word) (act : Nat) (res : Nat) (k : Fin 64), (F.PWR_MNT_REQ.GO.of v = 1) ∧ (act = F.PWR_MNT_REQ.ACT.of v) ∧
      (res = F.PWR_MNT_REQ.RES.of v) ∧ (3 ≤ act) ∧ (act ≤ 9) ∧ (s.mnt.hwWait = []) ∧ (s.rd F.PWR_MNT_ENT.STATE k = 0) ∧ ((∀ j : Fin 64,
      j < k → s.rd F.PWR_MNT_ENT.STATE j ≠ 0))) ∧
    (∃ (s : State) (v : Word) (k : Nat), (k = F.PWR_MNT_DONE.TICKET.of v) ∧ (s.rd F.PWR_MNT_ENT.STATE k ≠ 0) ∧ ((∀ j : Fin 64,
      j.val ≠ k → s.rd F.PWR_MNT_ENT.STATE j ≠ 1)) ∧ ((∀ j ∈ s.mnt.order, j < 64)) ∧ (s.mnt.hwWait = []) ∧ (s.coh.walks = []) ∧ (s.mnt.trst = [])) ∧
    (∃ (s : State) (v : Word) (k : Fin 64) (j : Fin 64), (k ≠ j) ∧ (k.val = F.PWR_MNT_DONE.TICKET.of v) ∧ (s.rd F.PWR_MNT_ENT.STATE k = 2) ∧
      (s.rd F.PWR_MNT_ENT.STATE j = 1) ∧ (s.rd F.PWR_MNT_ENT.ACT j ≠ 8) ∧ (s.mnt.order = [j.val]) ∧ (s.mnt.hwWait = []) ∧ (s.coh.walks = []) ∧
      (s.mnt.trst = []) ∧ ((∀ i : Fin 64, i ≠ k → i ≠ j → s.rd F.PWR_MNT_ENT.STATE i = 0))) :=
  ⟨⟨(State.reset.on F.PWR_TRST_STAT.BUSY 0), tv, by decide +kernel⟩,
    ⟨(State.reset.off F.PWR_TRST_STAT.BUSY 0), tv, 5, by decide +kernel⟩,
    ⟨(nosets State.reset), (State.reset.rd F.PWR_TRST_STAT.TENANT 0), by decide +kernel⟩,
    ⟨State.reset, (mv 10 3), by decide +kernel⟩,
    ⟨(full State.reset), (mv 5 3), 5, 3, by decide +kernel⟩,
    ⟨(ent [(0,2,5,3)] (empt State.reset)), (mv 5 3), 5, 3, 1, by decide +kernel⟩,
    ⟨(ent [(0,2,5,3),(1,2,9,0)] (empt State.reset)), 1, 1, by decide +kernel⟩,
    ⟨{ent [(0,2,5,3),(1,1,9,0)] (empt State.reset) with mnt := {State.reset.mnt with order := [1]}}, 0, 0, 1, by decide +kernel⟩⟩

namespace W18
def ow (b : State) : State := (List.range 64).foldl (fun t i => t.wr (F.WRD_PINOWN.OWN (i % 8)) (i / 8) 0) b
def pe (m : Nat) (seen : BitVec 16) (b : State) : State := let t := ((List.range 34).foldl (fun t i => t.off F.MGP_MAP.EN i) b).wr F.MGP_EVL.PORT 9 1 |>.wr F.MGP_EVL.MODE 9 m |>.off F.MGP_PIN.GAP 25 |>.off F.MGP_PIN.OE 25
  {t with pin := {t.pin with seen := seen}}
def iv (ns nsp w r : Nat) : Word := setF (setF (setF (setF (setF (setF 0 0 7 0x50) 8 5 w) 16 5 r) 24 1 ns) 25 1 nsp) 31 1 1
def ib (b : State) : State := (b.off F.MGP_I2CSTAT.BUSY 2).on F.MGP_I2CCTL.EN 2
def ic (v : Word) (b : State) : State := {b.on F.MGP_I2CSTAT.BUSY 2 with pin := {b.pin with i2cCmd := [(2, v)]}}
def uq (tx rx : List Byte) (b : State) : State := {b with pin := {b.pin with tx := [(1, tx)], rx := [(1, rx)]}}
def tt (x : Option Nat) (b : State) : State := {b with pin := {b.pin with tachAt := [(2, x)]}, clk := {b.clk with dtc := BitVec.ofNat 96 (2^66+5)}}
end W18

open W18 in
theorem witness_PinsServeTheirOwners :
    (∃ (s : State) (src : Actor) (i : Fin 64) (v : Word), (pinAdmits s src i = true)) ∧
    (∃ (s : State) (src : Actor) (i : Fin 64) (v : Word) (c : Nat), (pinAdmits s src i = false) ∧ (c = s.rd F.WRD_LOGCTL.COUNT 0)) ∧
    (∃ (s : State) (src : Actor) (m : Fin 34) (v : Word) (p : Nat) (q : Nat), (q = F.MGP_MAP.PIN.of v) ∧ (p = s.rd F.MGP_MAP.PIN m) ∧
      (pinAdmits s src q = true) ∧ (pinAdmits s src p = true)) ∧
    (∃ (s : State) (src : Actor) (m : Fin 34) (v : Word), (pinAdmits s src (F.MGP_MAP.PIN.of v) = false)) ∧
    (∃ (s : State) (i : Fin 64), (s.flag F.MGP_PIN.GAP i = true)) ∧
    (∃ (s : State) (src : Actor) (n : Fin 16) (v : Word), (pinAdmits s src (linePin s n) = true) ∧
      (pinAdmits s src (16 * F.MGP_EVL.PORT.of v + n) = true)) ∧
    (∃ (s : State) (n : Fin 16) (level : Bool), (s.flag F.MGP_PIN.GAP (linePin s n) = false) ∧ (ownerDrives s (linePin s n) = false) ∧
      (pinConflict s (linePin s n) = false)) ∧
    (∃ (s : State) (b : Fin 16) (k : Fin 48) (x : Nat), (x = 80 * (b.val / 4) + 8 * (2 * (b.val % 4) + k.val / 24))) ∧
    (∃ (s : State) (i : Fin 64), (pinOwner s i = 5) ∧ (s.flag F.MGP_PIN.GAP i = false) ∧ (mappedOuts s i = [])) :=
  ⟨⟨(State.reset.wr (F.WRD_PINOWN.OWN 1) 1 0), (.debugger), 9, 0xfff, by decide +kernel⟩,
    ⟨(State.reset.wr (F.WRD_PINOWN.OWN 1) 1 3), (.keeper 1), 9, 0x6a, (State.reset.rd F.WRD_LOGCTL.COUNT 0), by decide +kernel⟩,
    ⟨(ow State.reset |>.off F.MGP_MAP.EN 3 |>.off F.MGP_PIN.GAP 9), (.debugger), 3, 0x89, (State.reset.rd F.MGP_MAP.PIN 3), 9, by decide +kernel⟩,
    ⟨(ow State.reset |>.wr (F.WRD_PINOWN.OWN 1) 1 3), (.debugger), 9, 0x89, by decide +kernel⟩,
    ⟨(State.reset.on F.MGP_PIN.GAP 9), 9, by decide +kernel⟩,
    ⟨(ow State.reset), .debugger, 9, 0xf17, by decide +kernel⟩,
    ⟨(pe 1 0 State.reset), 9, true, by decide +kernel⟩,
    ⟨State.reset, 5, 30, 104, by decide +kernel⟩,
    ⟨((List.range 34).foldl (fun t i => t.off F.MGP_MAP.EN i) State.reset).wr (F.WRD_PINOWN.OWN (9 % 8)) (9 / 8) 5, 9, by decide +kernel⟩⟩

open W18 in
theorem witness_PeripheralsMoveBytes :
    (∃ (s : State) (src : Actor) (b : Fin 4) (v : Word), (periphAdmits s src (2 * b.val) 2 = true) ∧ (F.MGP_I2CCMD.GO.of v = 1) ∧
      (s.flag F.MGP_I2CSTAT.BUSY b = false) ∧ (s.flag F.MGP_I2CCTL.EN b = true) ∧ (F.MGP_I2CCMD.WLEN.of v ≤ 16) ∧ (F.MGP_I2CCMD.RLEN.of v ≤ 16)) ∧
    (∃ (s : State) (b : Fin 4) (e : I2cEnd) (v : Word), (s.flag F.MGP_I2CSTAT.BUSY b = true) ∧ (v = sget 0 s.pin.i2cCmd b)) ∧
    (∃ (s : State) (b : Fin 4), (s.flag F.MGP_I2CCTL.SMB b = true) ∧ (s.flag F.MGP_I2CSTAT.BUSY b = true)) ∧
    (∃ (s : State) (src : Actor) (u : Fin 2) (v : Word), (periphAdmits s src (8 + 4 * u.val) 4 = true)) ∧
    (∃ (s : State) (u : Fin 2) (b : BitVec 8) (stop : Bool), (s.flag F.MGP_UARTCTL.EN u = true)) ∧
    (∃ (s : State) (u : Fin 2) (b : Byte) (q : List Byte), (sget [] s.pin.tx u = b :: q) ∧ (s.flag F.MGP_UARTCTL.EN u = true) ∧
      (s.flag F.MGP_UARTCTL.FLOW u = false)) ∧
    (∃ (s : State) (src : Actor) (p : Fin 2) (v : Word), (periphAdmits s src (16 + 5 * p.val) 5 = true)) ∧
    (∃ (s : State) (p : Fin 2) (b : BitVec 8), (s.flag F.MGP_SPISTAT.BUSY p = true)) ∧
    (∃ (s : State) (f : Fin 4) (x : Nat), (sget none s.pin.tachAt f = some x) ∧ (x + 1000000000 ≤ s.dtcNow)) :=
  ⟨⟨(ib State.reset), .debugger, 2, (iv 0 1 5 3), by decide +kernel⟩,
    ⟨(ic (iv 0 1 5 3) State.reset), 2, (.ok [7,8,9]), (iv 0 1 5 3), by decide +kernel⟩,
    ⟨(State.reset.on F.MGP_I2CSTAT.BUSY 2 |>.on F.MGP_I2CCTL.SMB 2), 2, by decide +kernel⟩,
    ⟨(uq [1,2] [3] State.reset), .debugger, 1, 0xabcd, by decide +kernel⟩,
    ⟨(uq (List.replicate 16 3) [] State.reset |>.on F.MGP_UARTCTL.EN 1), 1, 5, true, by decide +kernel⟩,
    ⟨(uq [3,4] (List.replicate 16 3) State.reset |>.on F.MGP_UARTCTL.EN 1 |>.off F.MGP_UARTCTL.FLOW 1), 1, 3, [4], by decide +kernel⟩,
    ⟨(State.reset.off F.MGP_SPISTAT.BUSY 1 |>.on F.MGP_SPICTL.EN 1), .debugger, 1, 0xabcd, by decide +kernel⟩,
    ⟨(State.reset.on F.MGP_SPISTAT.BUSY 1), 1, 0xcd, by decide +kernel⟩,
    ⟨(tt (some 1000000) State.reset), 2, 1000000, by decide +kernel⟩⟩

namespace W19
def kh0 (b : State) : State := {b with kh := {b.kh with held := false, phase := .session}, clk := {b.clk with koscOn := true, strapsLatched := true}} |>.on F.KH_SES.ACTIVE 0
def crcBits (l : List Bool) : List Bool := l ++ toBits 8 (crc8 l)
def frb (op addr : Nat) (w : Option Nat) : List Bool := crcBits (toBits 8 op ++ toBits 32 addr ++ (match w with | some v => toBits 32 v | none => []))
def wb (l : List Bool) (b : State) : State := {kh0 b with kh := {(kh0 b).kh with bits := l.dropLast}}
def lst (l : List Bool) : Bool := l.getLast?.getD false
def fr (op a w lvl : Nat) (b : State) : State := {kh0 b with kh := {(kh0 b).kh with frame := some ⟨op, a, w⟩}} |>.wr F.KH_SES.LEVEL 0 lvl
def rp (r : Option KhReply) (tu : Bool) (sd : List Bool) (b : State) : State := {b with kh := {b.kh with reply := r, turned := tu, sending := sd}}
def av (l : Nat) : Word := setF (setF 0 F.KH_AUTH.GO.lo 1 1) F.KH_AUTH.LVL.lo 2 l
def cr (r : Nat) (b : State) : State := {(kh0 b).wr (F.KP_CORE_STAT.RUN 2) 0 r with kh := {(kh0 b).kh with haltAsk := 4}} |>.wr F.KH_SES.LEVEL 0 2
def sel (c sp k : Nat) : Word := setF (setF (setF 0 F.KH_CREG_SEL.CORE.lo F.KH_CREG_SEL.CORE.width c) F.KH_CREG_SEL.SPACE.lo F.KH_CREG_SEL.SPACE.width sp) F.KH_CREG_SEL.NUM.lo F.KH_CREG_SEL.NUM.width k
def eg (r : EngineRec) (b : State) : State := ((cr 2 b).setEng 30 r).off F.TMB_CFG.VALID 30
def er : EngineRec := EngineRec.idle
def ts (k i w b : Nat) : Word := setF (setF (setF (setF (setF 0 F.KH_TREG_SEL.ENGINE.lo F.KH_TREG_SEL.ENGINE.width 30) F.KH_TREG_SEL.KIND.lo F.KH_TREG_SEL.KIND.width k) F.KH_TREG_SEL.INDEX.lo F.KH_TREG_SEL.INDEX.width i) F.KH_TREG_SEL.WORD.lo F.KH_TREG_SEL.WORD.width w) F.KH_TREG_SEL.BANK.lo 1 b
def im (st len : Nat) (b : State) : State := ((cr 2 b).wr F.CFG_BOOT_STAT.STAGE 0 st).on F.KH_IMG_CTL.READY 0 |>.wr F.KH_IMG_CTL.LEN 0 len
end W19

open W19 in
theorem witness_KeyholeFramesAreCheckedAndAnswered :
    (∃ (s : State) (w : Nat) (b : Bool) (l : List Bool), (khMeasures s = true) ∧ (s.kh.held = false) ∧ ((16 ≤ w ∧ w < 180 ∧ b = true) ∨ (180 ≤ w ∧
      w < 400 ∧ b = false)) ∧ (s.kh.phase = .session) ∧ (s.kh.frame = none) ∧ (s.kh.reply = none) ∧ (l = s.kh.bits ++ [b])) ∧
    (∃ (s : State) (w : Nat), (khMeasures s = true) ∧ (s.kh.held = false) ∧ (15600 ≤ w) ∧ (w ≤ 24800)) ∧
    (∃ (s : State), (s.kh.phase = .entry) ∧ (s.kh.bits.length = 8) ∧ (ofBits s.kh.bits = 0xB4)) ∧
    (∃ (s : State), (s.kh.phase = .session) ∧ (frameRuns s = true)) ∧
    (∃ (s : State) (x : Nat × Instr) (f : KhFrame), (x ∈ [(0x00, Instr.keyholeNop), (0x01, .khRead), (0x02, .khWrite), (0x10, .daRead), (0x11,
      .daWrite), (0x12, .kspRead []), (0x13, .kspWrite), (0x20, .exit)]) ∧ (s.kh.frame = some f) ∧ (f.op = x.1) ∧ (khOpen s = true)) ∧
    (∃ (s : State) (f : KhFrame), (s.kh.frame = some f) ∧ (khOpen s = true) ∧ (f.addr % 4 = 0) ∧ (frameNeeds f ≤ khLevelNow s) ∧
      (accessOutstanding s = none)) ∧
    (∃ (s : State), (s.kh.reply = none)) ∧
    (∃ (s : State) (r : KhReply), (s.kh.reply = some r) ∧ (s.kh.turned = false)) ∧
    (∃ (s : State) (r : KhReply) (w : Word), (s.kh.reply = some r) ∧ (s.kh.turned = true) ∧ (s.kh.sending = [])) ∧
    (∃ (s : State) (r : KhReply) (b : Bool) (l : List Bool), (s.kh.reply = some r) ∧ (s.kh.turned = true) ∧ (s.kh.sending = b :: l)) :=
  ⟨⟨(wb (frb 1 4 none) State.reset), (if lst (frb 1 4 none) then 100 else 300), (lst (frb 1 4 none)), (frb 1 4 none), by decide +kernel⟩,
    ⟨(wb (List.replicate 7 false ++ [false]) State.reset), 15600, by decide +kernel⟩,
    ⟨{State.reset with kh := {State.reset.kh with phase := .entry, bits := toBits 8 0xb4}}, by decide +kernel⟩,
    ⟨(wb (List.replicate 7 false ++ [false]) State.reset), by decide +kernel⟩,
    ⟨(fr 1 4 5 2 State.reset), (0x01, .khRead), ⟨1, 4, 5⟩, by decide +kernel⟩,
    ⟨(fr 1 4 5 2 State.reset), ⟨1, 4, 5⟩, by decide +kernel⟩,
    ⟨(rp none false [] State.reset), by decide +kernel⟩,
    ⟨(rp (some .fault) false [] State.reset), .fault, by decide +kernel⟩,
    ⟨(rp (some .fault) true [] State.reset), .fault, 0, by decide +kernel⟩,
    ⟨(rp (some .wait) true [true] State.reset), (.wait), true, [], by decide +kernel⟩⟩

open W19 in
theorem witness_DebuggerHaltsStepsAndReadsRegisters :
    (∃ (s : State) (v : Word) (l : Nat), (khOpen s = true) ∧ (F.KH_AUTH.GO.of v = 1) ∧ (l = F.KH_AUTH.LVL.of v) ∧ (l ≠ 3)) ∧
    (∃ (s : State) (c : Fin 4) (pc : BitVec 64) (i : Instr), s.rd (F.KP_CORE_STAT.RUN c) 0 = 1 ∧ ((i = .coreHalt c pc ∧
      s.kh.haltAsk.getLsbD c = true) ∨ (i = .ebreakHalt c pc ∧ nbit (s.rd F.KH_CORE_CTL.EBRK 0) c = true))) ∧
    (∃ (s : State) (c : Fin 4), (khOpen s = true) ∧ (2 ≤ khLevelNow s) ∧ (coreHalted s c = true)) ∧
    (∃ (s : State) (c : Fin 4) (pc : BitVec 64) (rd : Option (Fin 32 × BitVec 64)), (coreHalted s c = true) ∧
      (nbit (s.rd F.KH_CORE_STAT.STEPPING 0) c = true)) ∧
    (∃ (s : State) (sel : Word) (c : Nat) (sp : Nat) (k : Nat) (x : BitVec 64), (khOpen s = true) ∧ (2 ≤ khLevelNow s) ∧
      (c = F.KH_CREG_SEL.CORE.of sel) ∧ (sp = F.KH_CREG_SEL.SPACE.of sel) ∧ (k = F.KH_CREG_SEL.NUM.of sel) ∧ (sp ≠ 3) ∧ (x = coreReg s c sp k)) ∧
    (∃ (s : State) (sel : Word) (v : BitVec 64) (c : Nat) (sp : Nat) (k : Nat), (khOpen s = true) ∧ (2 ≤ khLevelNow s) ∧
      (c = F.KH_CREG_SEL.CORE.of sel) ∧ (sp = F.KH_CREG_SEL.SPACE.of sel) ∧ (k = F.KH_CREG_SEL.NUM.of sel) ∧ (sp ≠ 3)) ∧
    (∃ (s : State) (e : Fin 512), (khOpen s = true) ∧ (2 ≤ khLevelNow s)) ∧
    (∃ (s : State) (sel : Word) (e : Nat), (khOpen s = true) ∧ (2 ≤ khLevelNow s) ∧ (e = F.KH_TREG_SEL.ENGINE.of sel) ∧
      (F.KH_TREG_SEL.KIND.of sel ≤ 4)) ∧
    (∃ (s : State) (sel : Word) (v : Word) (e : Nat), (khOpen s = true) ∧ (2 ≤ khLevelNow s) ∧ (e = F.KH_TREG_SEL.ENGINE.of sel) ∧
      (F.KH_TREG_SEL.KIND.of sel ≤ 4)) ∧
    (∃ (s : State), (khOpen s = true) ∧ (1 ≤ khLevelNow s)) ∧
    (∃ (s : State) (v : Word), (khOpen s = true) ∧ (1 ≤ khLevelNow s)) ∧
    (∃ (s : State) (v : Word) (len : Nat) (img : List Byte), (khOpen s = true) ∧
      (s.rd F.CFG_BOOT_STAT.STAGE 0 = 0 ∨ s.rd F.CFG_BOOT_STAT.STAGE 0 = 5) ∧ (s.flag F.KH_IMG_CTL.READY 0 = true) ∧
      (len = s.rd F.KH_IMG_CTL.LEN 0) ∧ (len ≠ 0) ∧ (img = s.kh.img ++ natBytes 4 v.toNat)) :=
  ⟨⟨(kh0 State.reset), (av 2), 2, by decide +kernel⟩,
    ⟨{ State.reset.wr (F.KP_CORE_STAT.RUN 2) 0 1 with kh := { State.reset.kh with haltAsk := 4 } }, 2, 7, .coreHalt 2 7, by decide +kernel,
      Or.inl ⟨rfl, by decide +kernel⟩⟩,
    ⟨(cr 2 State.reset), 2, by decide +kernel⟩,
    ⟨(cr 2 State.reset |>.wr F.KH_CORE_STAT.STEPPING 0 4), 2, 7, none, by decide +kernel⟩,
    ⟨{cr 2 State.reset with kp := {State.reset.kp with core := [(2, {CoreRec.idle with pc := 2^40+7})]}}, (sel 2 2 7), 2, 2, 7,
      (BitVec.ofNat 64 (2^40+7)), by decide +kernel⟩,
    ⟨(cr 2 State.reset), (sel 2 0 7), 0x123456789abcdef0, 2, 0, 7, by decide +kernel⟩,
    ⟨(kh0 State.reset |>.wr F.KH_SES.LEVEL 0 2), 5, by decide +kernel⟩,
    ⟨(eg {er with v := [(3, 0x1234567890abcdef)]} State.reset), (ts 3 3 1 0), 30, by decide +kernel⟩,
    ⟨(eg {er with v := [(3, 0x1234567890abcdef)]} State.reset), (ts 3 3 1 0), 0xabcd, 30, by decide +kernel⟩,
    ⟨(cr 2 State.reset), by decide +kernel⟩,
    ⟨(cr 2 State.reset), 99, by decide +kernel⟩,
    ⟨(im 5 3 State.reset), 0x12345678, 3, [0x78,0x56,0x34,0x12], by decide +kernel⟩⟩

/-- A request of one flit with a wrong bit in its CRC field is found. -/
theorem crcFails_damaged (r : Req) (h : reqFlits r = 1) : crcFails (reqFlitsOf r) (some 48) = true := by
  have e : reqFlitsOf r = [mkFlit ⟨reqClass r, opCode r.op, r.dst, r.src, r.txn, r.tag.cls, r.tag.id, false⟩ (commandPayload r)] :=
    if_neg (by rw [h]; decide)
  rw [e]
  generalize FlitHead.mk .. = x
  show (!([mkFlit x _ ^^^ BitVec.ofNat 576 (2 ^ 48)].all flitGood)) = true
  rw [List.all_cons, flitGood_flip_field (flitGood_mkFlit _ _) (by decide) (by decide)]
  rfl

namespace W20
def rr (op : NetOp) (tag : Tag) (off : Nat) : Req := ⟨op, coreEp, hubEp, 3, tag, 0x0C0000000000 + off, 4, 0x123456789abcdef0123456789abcdef0123456789abcdef0123456789abcdef0, .none⟩
def rq (op : NetOp) (tag : Tag) (off : Nat) (b : State) : State := { b with net := { b.net with reqs := [rr op tag off] }, knk := { b.knk with carrying := true } }
end W20

open W20 in
theorem witness_RegistersFollowTheirAccessCodes :
    (∃ (s : State) (a : Actor) (r : RegName) (i : Nat), Plain r ∧ i < regCopies r ∧ (∀ n, a ≠ .host n) ∧ s = State.reset) ∧
    (∃ (s : State) (n : Fin 16) (r : RegName) (i : Nat) (v : Word), (shxHead r i ≠ some n.val)) ∧
    (∃ (r : RegName) (i : Nat), Plain r ∧ r ≠ .CLK_DTC_LO ∧ r ≠ .EVC_CLAIM ∧ i < regCopies r) ∧
    (∃ (s : State) (src : BitVec 13) (txn : BitVec 8) (q : Req) (r : RegName) (i : Nat), (arriving s src.toNat txn.toNat = some q) ∧
      (q.op = .write) ∧ (q.dst = hubEp) ∧ (regAt (regOffset q) = some (r, i)) ∧ (Plain r) ∧ (i < regCopies r) ∧ (HubReaches s q (blockEp r i))) ∧
    (∃ (s : State) (src : BitVec 13) (txn : BitVec 8) (q : Req) (r : RegName) (i : Nat), (arriving s src.toNat txn.toNat = some q) ∧
      (q.op = .read) ∧ (q.dst = hubEp) ∧ (regAt (regOffset q) = some (r, i)) ∧ (Plain r) ∧ (r ≠ .CLK_DTC_LO) ∧ (r ≠ .EVC_CLAIM) ∧
      (HubReaches s q (blockEp r i))) ∧
    (∃ (s : State) (u : State) (src : BitVec 13) (txn : BitVec 8) (q : Req) (r : RegName) (i : Nat), (arriving s src.toNat txn.toNat = some q) ∧
      (q.dst = hubEp) ∧ (regAt (regOffset q) = some (r, i)) ∧ (reach (.req q.src q.txn) s = some u) ∧ (blockEp r i ≠ hubEp) ∧
      (leafRoute s (epLeaf hubEp) (epLeaf (blockEp r i)) = none) ∧ ∃ c ∈ [(NetOp.read, Instr.regRead (.flit src txn) none), (NetOp.write,
      Instr.regWrite (.flit src txn) none)], (q.op = c.1)) ∧
    (∃ (s : State) (src : BitVec 13) (txn : BitVec 8) (q : Req) (d : Fin 1152), (arriving s src.toNat txn.toNat = some q) ∧ (q.dst = hubEp) ∧
      ((reach (.req q.src q.txn) s).isSome = true) ∧ (crcFails (reqFlitsOf q) (some d) = true) ∧ ∃ c ∈ [(NetOp.read,
      Instr.regRead (.flit src txn) (some d)), (NetOp.write, Instr.regWrite (.flit src txn) (some d))], (q.op = c.1)) :=
  ⟨⟨State.reset, .keeper 3, .KRV_KNK_THR, 0, by unfold Plain; decide +kernel, by decide +kernel, by decide, rfl⟩,
    ⟨State.reset, 3, .KRV_KNK_THR, 0, 3, by decide +kernel⟩,
    ⟨.KRV_KNK_ERR, 3, by unfold Plain; decide +kernel, by decide +kernel⟩,
    ⟨(rq .write ⟨0,0⟩ 0x700008 State.reset), (BitVec.ofNat 13 coreEp), 3, (rr .write ⟨0,0⟩ 0x700008), .KRV_KNK_THR, 0, by decide +kernel,
      by decide +kernel, by decide +kernel, by decide +kernel, by unfold Plain; decide +kernel, by decide +kernel, ⟨_, rfl,
      Or.inl (by decide +kernel)⟩⟩,
    ⟨(rq .read ⟨0,0⟩ 0x70003c State.reset), (BitVec.ofNat 13 coreEp), 3, (rr .read ⟨0,0⟩ 0x70003c), .KRV_KNK_ERR, 3, by decide +kernel,
      by decide +kernel, by decide +kernel, by decide +kernel, by unfold Plain; decide +kernel, by decide +kernel, by decide +kernel, ⟨_, rfl,
      Or.inl (by decide +kernel)⟩⟩,
    ⟨((rq .read ⟨0,0⟩ 12124168 State.reset).on F.KRV_KNK_STAT.DETOUR 0).on F.KRV_KNK_STAT.DETOUR 2, _, (BitVec.ofNat 13 coreEp), 3,
      (rr .read ⟨0,0⟩ 12124168), .DDR_STAT, 9, by decide +kernel, by decide +kernel, by decide +kernel, rfl, by decide +kernel, by decide +kernel,
      (NetOp.read, .regRead (.flit (BitVec.ofNat 13 coreEp) 3) none), List.mem_cons_self, rfl⟩,
    ⟨(rq .read debugTag 0x70003c State.reset), (BitVec.ofNat 13 coreEp), 3, (rr .read debugTag 0x70003c), 48, by decide +kernel, rfl,
      by decide +kernel, crcFails_damaged _ (by decide +kernel), (NetOp.read, .regRead (.flit (BitVec.ofNat 13 coreEp) 3) (some 48)),
      List.mem_cons_self, rfl⟩⟩

namespace W21
def ext (b : State) : State := { b with clk := {b.clk with koscOn := true, strapsLatched := true, step := 4, lockRun := [(2,16)]}, memGen := 4, pending := [.powerOnReset] }
end W21

open W21 in
theorem witness_DeviceWideResetsBeginANewAttempt :
    (∃ (s : State) (cause : Nat) (leaf : Nat) (stepNo : Nat) (hc : cause < 8) (hl : leaf < 4) (hn : stepNo < 8), (1 ≤ cause) ∧ (cause ≤ 5)) ∧
    (∃ (s : State), (3 ≤ s.clk.step) ∧ (s.clk.step ≤ 5)) ∧
    (∃ (s : State), (s.flag F.CLK_ROOT_STAT.RELOCK 0 = true)) ∧
    (∃ (s : State) (leaf : Fin 4), (16 ≤ sget 0 s.clk.lockRun leaf ∨ 16 ≤ sget 0 s.clk.phaseRun leaf)) ∧
    (∃ (s : State), (s.rd F.CLK_MON_STAT.RUN 0 = 16)) ∧
    (∃ (s : State) (counts : List Nat), (s.flag F.CLK_ROOT_STAT.EPOCH 0 = true) ∧ (counts.length = 16) ∧ ((∀ n ∈ counts,
      10 * n * s.rd F.CLK_ROOT_CFG.MULT 0 < 9 * 32768 ∨ 11 * 32768 < 10 * n * s.rd F.CLK_ROOT_CFG.MULT 0))) ∧
    (∃ (s : State), (wdtExpired s 4 = true)) ∧
    (∃ (s : State), (s.clk.koscOn = true) ∧ (s.clk.strapsLatched = true) ∧ (s.kh.held = false)) ∧
    (∃ (s : State), (s.kh.held = true)) :=
  ⟨⟨(ext State.reset), 3, 2, 5, (by decide), (by decide), (by decide), by decide +kernel⟩,
    ⟨(ext State.reset), by decide +kernel⟩,
    ⟨(ext State.reset|>.on F.CLK_ROOT_STAT.RELOCK 0|>.wr F.CLK_ROOT_STAT.LOCK 0 3 |>.wr F.CLK_ROOT_STAT.ALIGNED 0 13), by decide +kernel⟩,
    ⟨(ext State.reset), 2, by decide +kernel⟩,
    ⟨(ext State.reset |>.wr F.CLK_MON_STAT.RUN 0 16), by decide +kernel⟩,
    ⟨(ext State.reset |>.wr F.CLK_ROOT_STAT.EPOCH 0 1|>.wr F.CLK_ROOT_CFG.MULT 0 120), (List.replicate 8 3 ++ List.replicate 8 400),
      by decide +kernel⟩,
    ⟨(let t := wdtLoad 4 (ext State.reset); {t with clk := {t.clk with dtc := t.clk.dtc + BitVec.ofNat 96 (2^90)}}), by decide +kernel⟩,
    ⟨(ext State.reset), by decide +kernel⟩,
    ⟨({ext State.reset with kh := {State.reset.kh with held := true}}), by decide +kernel⟩⟩

namespace W22
def ext (b : State) : State := { b with clk := {b.clk with koscOn := true, strapsLatched := true, step := 4, lockRun := [(2,16)]}, memGen := 4, pending := [.powerOnReset] }
end W22

open W22 in
theorem witness_BootCountAndCauseLastUntilPowerOn :
    (∃ s t : State, step s = .next t ∧ s.pending.head? ≠ some .powerOnReset) ∧
    (∃ (s : State) (xsel : BitVec 1) (xdly : BitVec 2) (mode : BitVec 3), (s.clk.step = 1) ∧ (s.clk.koscOn = true) ∧ (s.clk.strapsLatched = false) ∧
      (s.kh.held = false)) ∧
    (∃ (s : State), (s.kh.held = true) ∧ (s.clk.strapsLatched = true)) ∧
    (∃ (s : State) (v : Word) (leaf : Fin 4) (cause stepNo : Fin 8) (counts : List Nat) (x : Nat × Instr × Bool), (x ∈ [(1, Instr.keyholeReset,
      s.clk.koscOn && s.clk.strapsLatched && !s.kh.held), (2, .clockFailReset cause leaf stepNo, decide (1 ≤ cause.val ∧ cause.val ≤ 5)), (4,
      .sherexDeviceReset v, decide (F.PWR_RST_CTL.KEY.of v = 0xA5 ∧ F.PWR_RST_CTL.GO.of v = 1))]) ∧ x.2.2 = true) ∧
    (∃ (s : State) (v : Word), s = State.reset ∧ F.PWR_RST_CTL.KEY.of v = 0xA5 ∧ F.PWR_RST_CTL.GO.of v = 1) :=
  ⟨⟨State.reset, idle State.reset, rfl, by decide⟩,
    ⟨({State.reset with clk := {State.reset.clk with koscOn := true, strapsLatched := false, step := 1}, kh := {State.reset.kh with held := false}}),
      0, 1, 2, by decide +kernel⟩,
    ⟨({ext State.reset with kh := {State.reset.kh with held := true}}), by decide +kernel⟩,
    ⟨State.reset, 0x1A5, 0, 0, 0, [], (4, .sherexDeviceReset 0x1A5, true), by simp; decide, rfl⟩,
    ⟨State.reset, 0x1A5, rfl, by decide +kernel⟩⟩

open W22 in
theorem witness_StepTakesTheFrontOrIdles :
    ∃ s : State, s.pending = [] :=
  ⟨State.reset, rfl⟩

open W22 in
theorem witness_StepKeepsTheStoresCanonical :
    ∃ s t : State, Canonical s ∧ step s = .next t :=
  ⟨State.reset, idle State.reset, by refine ⟨⟨?_, ?_⟩, ⟨?_, ?_⟩, ⟨?_, ?_⟩, ⟨?_, ?_⟩⟩ <;> decide, rfl⟩

end

end Sys2Proof.Tests
end

/-! ### Fields of a word under the access codes (R7, R9, R10) -/

namespace Sys2Proof.Machine
open Sys2Proof

/-- A number is its part under a mask and its part outside it. -/
theorem land_add_ldiff (a b : Nat) : (a &&& b) + a.ldiff b = a := by
  induction a using Nat.binaryRec generalizing b with
  | zero =>
    have hzero : Nat.ldiff 0 b = 0 := Nat.eq_of_testBit_eq fun k => by simp [Nat.testBit_ldiff]
    rw [Nat.zero_and, hzero]
  | bit x m ih =>
    obtain ⟨y, n, rfl⟩ : ∃ y n, b = Nat.bit y n := ⟨b.bodd, b.div2, (Nat.bit_bodd_div2 b).symm⟩
    have hrest := ih n
    have hbit : (x && y).toNat + (x && !y).toNat = x.toNat := by cases x <;> cases y <;> rfl
    rw [Nat.land_bit, Nat.ldiff_bit, Nat.bit_val, Nat.bit_val, Nat.bit_val]
    omega

theorem getF_and_not (w v : Word) {lo n : Nat} (h : lo + n ≤ 32) :
    getF (w &&& ~~~v) lo n = getF w lo n - (getF w lo n &&& getF v lo n) := by
  have hl : getF (w &&& ~~~v) lo n = (getF w lo n).ldiff (getF v lo n) := by
    apply Nat.eq_of_testBit_eq
    intro k
    rw [Nat.testBit_ldiff, getF_testBit, getF_testBit, getF_testBit]
    by_cases hk : k < n
    · have : lo + k < 32 := by omega
      simp [hk, this]
    · simp [hk]
  have := land_add_ldiff (getF w lo n) (getF v lo n)
  omega

theorem getF_or (w v : Word) (lo n : Nat) : getF (w ||| v) lo n = getF w lo n ||| getF v lo n := by
  apply Nat.eq_of_testBit_eq
  intro k
  rw [Nat.testBit_or, getF_testBit, getF_testBit, getF_testBit, BitVec.getLsbD_or, Bool.and_or_distrib_left]

theorem getF_mod (w : Word) (lo n : Nat) : getF w lo n % 2 ^ n = getF w lo n := Nat.mod_eq_of_lt (getF_lt w lo n)

theorem getF_copyField_same (w v : Word) {lo n : Nat} (h : lo + n ≤ 32) : getF (copyField w v lo n) lo n = getF v lo n := by
  rw [copyField, getF_setF_same _ _ _ _ h, getF_mod]

/-- What a write leaves in the field it is for. -/
theorem getF_writeField_same (acc : Access) (ok isSealed : Bool) (v w : Word) {lo n : Nat} (h : lo + n ≤ 32) :
    getF (writeField acc ok isSealed lo n v w) lo n = fieldAfter acc ok isSealed (getF w lo n) (getF v lo n) n := by
  cases acc with
  | RW => cases ok <;> simp [writeField, fieldAfter, getF_copyField_same _ _ h]
  | RWL => cases ok <;> cases isSealed <;> simp [writeField, fieldAfter, getF_copyField_same _ _ h]
  | W1C => rw [writeField, getF_setF_same _ _ _ _ h, getF_mod, getF_and_not _ _ h, fieldAfter]
  | W1S => simp only [writeField, fieldAfter, getF_setF_same _ _ _ _ h, getF_or]
  | RO | WO | RC => rfl

/-- A write of one field leaves the bits outside it alone. -/
theorem getF_writeField_other (acc : Access) (ok isSealed : Bool) (v w : Word) {lo n lo' n' : Nat} (h : lo + n ≤ lo' ∨ lo' + n' ≤ lo) :
    getF (writeField acc ok isSealed lo n v w) lo' n' = getF w lo' n' := by
  have hs (x : Nat) : getF (setF w lo n x) lo' n' = getF w lo' n' := getF_setF_other _ _ _ _ _ _ h
  cases acc with
  | RW => cases ok with
    | true => exact hs _
    | false => rfl
  | RWL =>
    rw [writeField]
    split
    · exact hs _
    · rfl
  | W1C | W1S => exact hs _
  | RO | WO | RC => rfl

/-- Two fields of one table share no bit. -/
abbrev FieldRow.Apart (f g : FieldRow) : Prop := f.lo + f.width ≤ g.lo ∨ g.lo + g.width ≤ f.lo

/-- The fields of a table fit in a word and share no bit. -/
abbrev FieldsApart (l : List FieldRow) : Prop := l.Pairwise FieldRow.Apart ∧ ∀ f ∈ l, f.lo + f.width ≤ 32

/-- An update by one row of a field table turns the value of the row's field by `val` and leaves every bit outside it alone. -/
def TurnsOwnField (val : FieldRow → Nat → Nat) (g : Word → FieldRow → Word) : Prop :=
  ∀ w f, (f.lo + f.width ≤ 32 → getF (g w f) f.lo f.width = val f (getF w f.lo f.width)) ∧
    ∀ lo n, f.lo + f.width ≤ lo ∨ lo + n ≤ f.lo → getF (g w f) lo n = getF w lo n

section
variable {val : FieldRow → Nat → Nat} {g : Word → FieldRow → Word} (hg : TurnsOwnField val g)
include hg

theorem TurnsOwnField.foldl_outside {l : List FieldRow} {lo n : Nat} (h : ∀ f ∈ l, f.lo + f.width ≤ lo ∨ lo + n ≤ f.lo) (w : Word) :
    getF (l.foldl g w) lo n = getF w lo n := by
  induction l generalizing w with
  | nil => rfl
  | cons e l ih =>
    rw [List.foldl_cons, ih (fun f hf => h f (List.mem_cons_of_mem _ hf)), (hg w e).2 lo n (h e List.mem_cons_self)]

theorem TurnsOwnField.foldl_field {l : List FieldRow} (hl : FieldsApart l) {f : FieldRow} (hf : f ∈ l) (w : Word) :
    getF (l.foldl g w) f.lo f.width = val f (getF w f.lo f.width) := by
  induction l generalizing w with
  | nil => cases hf
  | cons e l ih =>
    obtain ⟨hp, hfit⟩ := hl
    obtain ⟨he, hp⟩ := List.pairwise_cons.mp hp
    have htail : FieldsApart l := ⟨hp, fun f hf => hfit f (List.mem_cons_of_mem _ hf)⟩
    rw [List.foldl_cons]
    rcases List.mem_cons.mp hf with rfl | hf
    · rw [hg.foldl_outside (fun q hq => (he q hq).symm) (g w f), (hg w f).1 (hfit f List.mem_cons_self)]
    · rw [ih htail hf, (hg w e).2 f.lo f.width (he f hf)]

end

/-- The write of `v` on the field of one row of a table. -/
def writeRow (keeperSide isSealed : Bool) (legal : Nat → Nat → Bool) (v w : Word) (f : FieldRow) : Word :=
  writeField (if keeperSide then f.kacc else f.acc) (legal f.lo (getF v f.lo f.width)) isSealed f.lo f.width v w

/-- The clearing read of the field of one row of a table. -/
def clearRow (same w : Word) (f : FieldRow) : Word := if f.acc = .RC then copyField w same f.lo f.width else w

theorem writeFields_eq_foldl (keeperSide isSealed : Bool) (legal : Nat → Nat → Bool) (v : Word) (l : List FieldRow) (w : Word) :
    writeFields keeperSide isSealed legal v l w = l.foldl (writeRow keeperSide isSealed legal v) w := by
  induction l generalizing w with
  | nil => rfl
  | cons f l ih => exact ih _

theorem clearRC_eq_foldl (same : Word) (l : List FieldRow) (w : Word) : clearRC same l w = l.foldl (clearRow same) w := by
  induction l generalizing w with
  | nil => rfl
  | cons f l ih => exact ih _

theorem writeRow_turnsOwnField (isSealed : Bool) (legal : Nat → Nat → Bool) (v : Word) :
    TurnsOwnField (fun f old => fieldAfter f.kacc (legal f.lo (getF v f.lo f.width)) isSealed old (getF v f.lo f.width) f.width)
      (writeRow true isSealed legal v) :=
  fun w _ => ⟨fun h => getF_writeField_same _ _ _ v w h, fun _ _ h => getF_writeField_other _ _ _ v w h⟩

theorem clearRow_turnsOwnField (same : Word) :
    TurnsOwnField (fun f old => if f.acc = .RC then getF same f.lo f.width else old) (clearRow same) := by
  intro w f
  by_cases hrc : f.acc = .RC
  · simp only [clearRow, if_pos hrc]
    exact ⟨getF_copyField_same w same, fun _ _ => getF_setF_other _ _ _ _ _ _⟩
  · simp only [clearRow, if_neg hrc]
    exact ⟨fun _ => trivial, fun _ _ _ => trivial⟩


theorem regFields_apart (r : RegName) (i : Nat) : FieldsApart (regFields r i) := by
  cases r <;> dsimp only [regFields] <;> (repeat' split) <;> decide +kernel
end Sys2Proof.Machine

/-! ### What a frame says of registers and parts -/

namespace Sys2Proof.Machine
open Sys2Proof

/-- The mask of a list of registers. -/
def regMask (rs : List RegName) : Nat := rs.foldr (fun r m => 1 <<< r.ctorIdx ||| m) 0

/-- The mask of a list of parts. -/
def partMask (ps : List Part) : Nat := ps.foldr (fun p m => 1 <<< p.ctorIdx ||| m) 0

theorem testBit_regMask {rs : List RegName} {r : RegName} (h : r ∉ rs) : (regMask rs).testBit r.ctorIdx = false := by
  induction rs with
  | nil => exact Nat.zero_testBit _
  | cons q rs ih =>
    have hne : q.ctorIdx ≠ r.ctorIdx := fun e => List.ne_of_not_mem_cons h (RegName.ctorIdx_inj e.symm)
    have hrs := List.not_mem_of_not_mem_cons h
    rw [regMask, List.foldr_cons, Nat.testBit_or, ← regMask, ih hrs, Bool.or_false, Nat.one_shiftLeft, Nat.testBit_two_pow_of_ne hne]

theorem Part.ctorIdx_inj {p q : Part} (h : p.ctorIdx = q.ctorIdx) : p = q := by
  rw [← Part.ofNat_ctorIdx p, ← Part.ofNat_ctorIdx q, h]

theorem testBit_partMask {ps : List Part} {p : Part} (h : p ∉ ps) : (partMask ps).testBit p.ctorIdx = false := by
  induction ps with
  | nil => exact Nat.zero_testBit _
  | cons q ps ih =>
    have hne : q.ctorIdx ≠ p.ctorIdx := fun e => List.ne_of_not_mem_cons h (Part.ctorIdx_inj e.symm)
    have hps := List.not_mem_of_not_mem_cons h
    rw [partMask, List.foldr_cons, Nat.testBit_or, ← partMask, ih hps, Bool.or_false, Nat.one_shiftLeft, Nat.testBit_two_pow_of_ne hne]

/-- A frame whose masks lie in those of the lists touches nothing outside the lists. -/
theorem Keeps.touches {R P : Nat} {s t : State} (h : Keeps R P s t) {rs : List RegName} {ps : List Part}
    (hR : R ||| regMask rs = regMask rs) (hP : P ||| partMask ps = partMask ps) : Touches rs ps s t := by
  obtain ⟨hpending, _, hreg, hpart⟩ := h.mono hR hP
  exact ⟨hpending, fun r i hr => hreg r i (testBit_regMask hr), fun p hp => hpart p (testBit_partMask hp)⟩

end Sys2Proof.Machine

namespace Sys2Proof
open Sys2Proof.Machine

theorem Touches.refl (rs : List RegName) (ps : List Part) (s : State) : Touches rs ps s s :=
  ⟨rfl, fun _ _ _ => rfl, fun p _ => Part.same_refl p s⟩

theorem Touches.trans {rs rs' : List RegName} {ps ps' : List Part} {s t u : State} (h1 : Touches rs ps s t) (h2 : Touches rs' ps' t u) :
    Touches (rs ++ rs') (ps ++ ps') s u := by
  obtain ⟨hp1, hr1, hq1⟩ := h1
  obtain ⟨hp2, hr2, hq2⟩ := h2
  refine ⟨hp2.trans hp1, fun r i hr => ?_, fun p hp => ?_⟩
  · obtain ⟨h, h'⟩ := not_or.mp (hr ∘ List.mem_append.mpr)
    exact (hr2 r i h').trans (hr1 r i h)
  · obtain ⟨h, h'⟩ := not_or.mp (hp ∘ List.mem_append.mpr)
    exact Part.same_trans (hq1 p h) (hq2 p h')

end Sys2Proof

namespace Sys2Proof.Machine
open Sys2Proof

theorem touches_setReg (s : State) (r : RegName) (i : Nat) (v : Word) : Touches [r] [] s (s.setReg r i v) :=
  (keeps_setReg s r i v).touches (by rw [regMask, List.foldr_cons, List.foldr_nil, Nat.or_zero, Nat.or_self]) rfl

theorem touches_net (s : State) (n : NetState) : Touches [] [.net] s { s with net := n } := by
  refine ⟨rfl, fun _ _ _ => rfl, fun p hp => ?_⟩
  cases p with
  | net => exact absurd List.mem_cons_self hp
  | _ => rfl

theorem touches_rdata (s : State) (v : Word) : Touches [] [.rdata] s { s with rdata := v } := by
  refine ⟨rfl, fun _ _ _ => rfl, fun p hp => ?_⟩
  cases p with
  | rdata => exact absurd List.mem_cons_self hp
  | _ => rfl

/-- A counter that stops at its largest value. -/
theorem rd_satAdd_same (s : State) (f : Fld) (i n : Nat) (h : f.lo + f.width ≤ 32) :
    (s.satAdd f i n).rd f i = min (s.rd f i + n) (2 ^ f.width - 1) := by
  have := Nat.two_pow_pos f.width
  rw [State.satAdd, rd_wr_same _ _ _ _ h, Nat.mod_eq_of_lt (by omega)]

end Sys2Proof.Machine

/-! ### Messages on their way: an operation of the network that moves messages and changes nothing else -/

namespace Sys2Proof.Machine
open Sys2Proof

/-- From `s` to `t` nothing changes but the messages on their way. -/
def MovesOnly (s t : State) : Prop := ∃ l, t = s.setWay l

/-- The state of an answer, where there is one, has only messages moved. -/
def MovesOnlyP (s : State) (o : Option State) : Prop := ∀ t, o = some t → MovesOnly s t

theorem MovesOnly.refl (s : State) : MovesOnly s s := ⟨s.net.way, rfl⟩

theorem MovesOnly.trans {s t u : State} (h1 : MovesOnly s t) (h2 : MovesOnly t u) : MovesOnly s u := by
  obtain ⟨_, rfl⟩ := h1
  obtain ⟨l, rfl⟩ := h2
  exact ⟨l, rfl⟩

theorem MovesOnly.foldl {α : Type} {f : State → α → State} (hf : ∀ t a, MovesOnly t (f t a)) (l : List α) (s : State) :
    MovesOnly s (l.foldl f s) := by
  induction l generalizing s with
  | nil => exact .refl s
  | cons a l ih => exact (hf s a).trans (ih _)

theorem MovesOnlyP.some {s t : State} (h : MovesOnly s t) : MovesOnlyP s (some t) := by
  intro u e
  cases e
  exact h

theorem MovesOnlyP.none (s : State) : MovesOnlyP s none := fun t e => absurd e.symm (Option.some_ne_none t)

theorem MovesOnlyP.bind {s : State} {o : Option State} {f : State → Option State} (ho : MovesOnlyP s o) (hf : ∀ t, MovesOnlyP t (f t)) :
    MovesOnlyP s (o.bind f) := by
  intro u e
  obtain ⟨t, ht, hu⟩ := Option.bind_eq_some_iff.mp e
  exact (ho t ht).trans (hf t u hu)

theorem MovesOnlyP.map {s : State} {o : Option State} {f : State → State} (ho : MovesOnlyP s o) (hf : ∀ t, MovesOnly t (f t)) :
    MovesOnlyP s (o.map f) := by
  intro u e
  obtain ⟨t, ht, rfl⟩ := Option.map_eq_some_iff.mp e
  exact (ho t ht).trans (hf t)

theorem movesOnly_setWay (s : State) (l : List Transit) : MovesOnly s (s.setWay l) := ⟨l, rfl⟩

theorem movesOnly_moveOn (h : Hop) (u : Transit) (s : State) : MovesOnly s (moveOn h u s) := ⟨_, rfl⟩

theorem movesOnly_landed (m : MsgName) (s : State) : MovesOnly s (landed m s) := ⟨_, rfl⟩

theorem movesOnly_grant (h : Hop) (u : Transit) (s : State) : MovesOnlyP s (grant h u s) := by
  have hserved (l : List Transit) : MovesOnly s (l.foldl (fun t v => if roomAt t h v.cls v.flits then moveOn h v t else t) s) :=
    MovesOnly.foldl (fun t v => by
      split
      · exact movesOnly_moveOn h v t
      · exact .refl t) l s
  unfold grant
  dsimp only
  split
  · split
    · exact .some ((hserved _).trans (movesOnly_moveOn ..))
    · exact .none s
  · exact .none s

theorem movesOnly_untilFree {free : State → Bool} {move : State → Option State} (hm : ∀ t, MovesOnlyP t (move t)) (n : Nat) (s : State) :
    MovesOnlyP s (untilFree n free move s) := by
  induction n generalizing s with
  | zero =>
    unfold untilFree
    split
    · exact .some (.refl s)
    · exact .none s
  | succ n ih =>
    unfold untilFree
    split
    · exact .some (.refl s)
    · exact .bind (hm s) ih

theorem movesOnly_push (f : Nat) (h : Hop) (cls : Nat) (s : State) : MovesOnlyP s (push f h cls s) := by
  induction f generalizing h cls s with
  | zero => exact .none s
  | succ f ih =>
    unfold push
    split
    · exact .none s
    · split
      · exact .none s
      · exact .bind (movesOnly_untilFree (fun t => ih _ _ t) _ s) (movesOnly_grant _ _)

theorem movesOnly_makeRoom (h : Hop) (cls n : Nat) (s : State) : MovesOnlyP s (makeRoom h cls n s) :=
  movesOnly_untilFree (fun t => movesOnly_push _ _ _ t) _ s

theorem movesOnly_travel (f : Nat) (m : MsgName) (s : State) : MovesOnlyP s (travel f m s) := by
  induction f generalizing s with
  | zero => exact .none s
  | succ f ih =>
    unfold travel
    split
    · exact .some (.refl s)
    · split
      · split
        · exact .some (.refl s)
        · exact .none s
      · exact .bind (movesOnly_push _ _ _ s) ih
      · exact .none s

theorem movesOnly_reach (m : MsgName) (s : State) : MovesOnlyP s (reach m s) := movesOnly_travel _ m s

theorem movesOnly_post (m : MsgName) (cls src dst n : Nat) (s : State) : MovesOnlyP s (post m cls src dst n s) := by
  unfold post
  split
  · exact .none s
  · exact .map (movesOnly_makeRoom _ _ _ s) (fun t => movesOnly_setWay t _)

theorem movesOnly_launch (m : MsgName) (cls at_ src dst n : Nat) (s : State) : MovesOnlyP s (launch m cls at_ src dst n s) := by
  unfold launch
  split
  · exact .none s
  · exact .map (movesOnly_makeRoom _ _ _ s) (fun t => movesOnly_setWay t _)

theorem movesOnly_dispatch (m : MsgName) (cls src dst n : Nat) (s : State) : MovesOnly s (dispatch m cls src dst n s) := by
  unfold dispatch
  cases e : post m cls src dst n s with
  | none => exact .refl s
  | some t => exact movesOnly_post _ _ _ _ _ s t e

theorem movesOnly_carry (m : MsgName) (cls src dst : Nat) (s : State) : MovesOnlyP s (carry m cls src dst s) :=
  .map (.bind (movesOnly_launch _ _ _ _ _ _ s) (movesOnly_reach m)) (movesOnly_landed m)

end Sys2Proof.Machine

/-! ### Registers that R9 alone describes -/

namespace Sys2Proof.Machine
open Sys2Proof

/-- Whether a register is a control register of an engine does not depend on the copy. -/
theorem crOf_isSome (r : RegName) (i : Nat) : (crOf r i).isSome = (crOf r 0).isSome := by cases r <;> rfl

theorem khOffset_eq_none {r : RegName} (h : khOffset r 0 = none) (i : Nat) : khOffset r i = none :=
  Option.map_eq_none_iff.mpr (Option.map_eq_none_iff.mp h)

theorem shxHead_eq_none {r : RegName} (h : shxHead r 0 = none) (i : Nat) : shxHead r i = none :=
  Option.map_eq_none_iff.mpr (Option.map_eq_none_iff.mp h)

/-- The register store decides whether an encoding is legal. -/
theorem writeLegal_congr {s t : State} (h : t.regs = s.regs) (r : RegName) (i : Nat) (v : Word) : writeLegal t r i v = writeLegal s r i v := by
  funext lo x
  unfold writeLegal
  simp only [rd_congr h, flag_congr h]

/-- The register store decides whether a register is sealed. -/
theorem writeSealed_congr {s t : State} (h : t.regs = s.regs) (r : RegName) : writeSealed t r = writeSealed s r := by
  unfold writeSealed ilvSealed
  simp only [flag_congr h]

/-- A write of the Keeper side that goes field by field, from a state with the registers of `s`. -/
theorem fieldsWritten_fieldWrite {s u : State} (h : u.regs = s.regs) (r : RegName) (i : Nat) (v : Word) :
    FieldsWritten r i v s (fieldWrite true r i v u) := by
  have hw := writeRow_turnsOwnField (writeSealed s r) (writeLegal s r i v) v
  have hsame : (fieldWrite true r i v u).reg r i =
      (regFields r i).foldl (writeRow true (writeSealed s r) (writeLegal s r i v) v) (s.reg r i) := by
    rw [fieldWrite, reg_setReg_same, writeFields_eq_foldl, writeSealed_congr h, writeLegal_congr h, reg_congr h]
  refine ⟨fun f hf => ?_, fun k hk => ?_, fun j hj => ?_⟩
  · rw [hsame, hw.foldl_field (regFields_apart r i) hf]
  · rw [hsame, hw.foldl_outside fun f hf => (hk f hf).symm]
  · rw [fieldWrite, reg_setReg_ne _ _ fun e => hj e.2, reg_congr h]

/-- A register without a rule of its own takes a write of the Keeper side field by field. -/
theorem keeperWrite_of_not_mem_ownRule {r : RegName} (hown : r ∉ ownRule) (hkh : ∀ i, khOffset r i = none) (i : Nat) (v : Word) (s : State) :
    keeperWrite r i v s = fieldWrite true r i v s := by
  unfold keeperWrite
  split
  case h_67 => rw [hkh i, Option.isSome_none, if_neg Bool.false_ne_true]
  case h_63 | h_64 | h_65 | h_66 => exact absurd (hkh 0) (by decide)
  all_goals exact absurd (by decide) hown

section
variable {r : RegName} (hr : Plain r)
include hr

theorem crOf_of_plain (i : Nat) : crOf r i = none := by
  obtain ⟨_, hcr, _⟩ := hr
  rw [← Option.isNone_iff_eq_none, ← Option.not_isSome, crOf_isSome, hcr]
  rfl

theorem writeReg_of_plain {a : Actor} (ha : ∀ n, a ≠ .host n) (i : Nat) (v : Word) (s : State) :
    writeReg a r i v s = fieldWrite true r i v s := by
  have hcr := crOf_of_plain hr i
  obtain ⟨hown, _, hshx, hkh, hmgp⟩ := hr
  have hkeeper := keeperWrite_of_not_mem_ownRule hown (khOffset_eq_none hkh) i v s
  have hmgp' : regRowsMGP.any (fun row => row.reg == r) = false :=
    List.any_eq_false.mpr fun row hrow => by simpa using hmgp row hrow
  unfold writeReg
  rw [shxHead_eq_none hshx i, khOffset_eq_none hkh i, hcr, hmgp']
  cases a with
  | host n => exact absurd rfl (ha n)
  | keeper | dma | debugger => exact hkeeper

/-- A read by the Keeper side clears the RC fields; the debug master's has no side effects. -/
theorem readReg_of_plain (hdtc : r ≠ .CLK_DTC_LO) (hclaim : r ≠ .EVC_CLAIM) {a : Actor} (ha : ∀ n, a ≠ .host n) (same : Word) (i : Nat)
    (s : State) :
    readReg a same r i s =
      (regView r i s, if a = .debugger then s else s.setReg r i (clearRC same (regFields r i) (s.reg r i))) := by
  have hcr := crOf_of_plain hr i
  obtain ⟨_, _, _, hkh, hmgp⟩ := hr
  have huart : r ≠ .MGP_UARTDATA := by
    rintro rfl
    exact absurd hmgp (by decide)
  have heffect : readEffect same r i s = (regView r i s, s.setReg r i (clearRC same (regFields r i) (s.reg r i))) := by
    unfold readEffect
    split
    · exact absurd rfl hclaim
    · exact absurd rfl hdtc
    · exact absurd rfl huart
    · rw [hcr, Option.isSome_none, if_neg Bool.false_ne_true]
  unfold readReg
  rw [khOffset_eq_none hkh i]
  cases a with
  | host n => exact absurd rfl (ha n)
  | keeper | dma => exact heffect
  | debugger =>
    dsimp only
    rw [if_pos rfl]
    split
    · exact absurd rfl hdtc
    · exact absurd rfl huart
    · rfl

end

theorem setInfoView_net (s : State) (n : NetState) (k : Nat) : setInfoView { s with net := n } k = setInfoView s k := by
  have hlive : liveMembers { s with net := n } k = liveMembers s k := rfl
  have hmembers : tmbMembers { s with net := n } k = tmbMembers s k := rfl
  have hleaf : setLeaf { s with net := n } k = setLeaf s k := by
    unfold setLeaf
    rw [hmembers]
  rw [setInfoView, hlive, hmembers, hleaf, ← setInfoView]

/-- No register outside the engines shows what the network holds. -/
theorem regView_net {r : RegName} {i : Nat} (h : crOf r i = none) (s : State) (n : NetState) :
    regView r i { s with net := n } = regView r i s := by
  unfold regView
  rw [h]
  dsimp only
  split
  case h_8 => exact setInfoView_net s n i
  all_goals rfl

end Sys2Proof.Machine

/-! ### The register hub (R83) -/

namespace Sys2Proof.Machine
open Sys2Proof

/-- The state `s` with request `q` taken off the network, the messages on their way being `l`. -/
def taken (s : State) (q : Req) (l : List Transit) : State :=
  { s with net := { s.net with way := l, reqs := s.net.reqs.erase q } }

/-- The response to request `q` with answer `a`. -/
def respOf (q : Req) (a : Answer) : Resp := ⟨q.dst, q.src, q.txn, q.tag, a, q.intent⟩

/-- The state `s` with a response to request `q` sent, the messages on their way being `l`. -/
def replied (s : State) (q : Req) (a : Answer) (l : List Transit) : State :=
  { s with net := { s.net with way := l, resps := s.net.resps ++ [respOf q a] } }

/-- What a target logs of its answer: an error. -/
def logAnswer (q : Req) (a : Answer) (s : State) : State :=
  match a with
  | .error c d => netError c d q.src q.da s
  | _ => s

theorem net_logAnswer (q : Req) (a : Answer) (s : State) : (logAnswer q a s).net = s.net := by
  cases a with
  | error c d => exact (keeps_netError c d q.src q.da s).part .net rfl
  | data | poisoned | ack => rfl

theorem takeReq_of_movesOnly {s u : State} (q : Req) (h : MovesOnly s u) : ∃ l, takeReq q u = taken s q l := by
  obtain ⟨l, rfl⟩ := h
  exact ⟨_, rfl⟩

theorem taken_of_movesOnly {s u : State} {q : Req} {l : List Transit} (h : MovesOnly (taken s q l) u) : ∃ l', u = taken s q l' := by
  obtain ⟨l', rfl⟩ := h
  exact ⟨l', rfl⟩

theorem respond_eq_replied (q : Req) (a : Answer) (s : State) : ∃ l, respond q a s = replied (logAnswer q a s) q a l := by
  obtain ⟨l, hl⟩ := movesOnly_dispatch (.resp q.src q.txn) 1 q.dst q.src 1 (logAnswer q a s)
  have hreply : respond q a s = replied (dispatch (.resp q.src q.txn) 1 q.dst q.src 1 (logAnswer q a s)) q a
      (dispatch (.resp q.src q.txn) 1 q.dst q.src 1 (logAnswer q a s)).net.way := rfl
  exact ⟨l, by rw [hreply, hl]; rfl⟩

/-- A hub or a block that answers is no host: the request's tag tells the debug master from the Keeper. -/
theorem hubActor_ne_host (q : Req) (s : State) (n : Fin 16) : hubActor q s ≠ .host n := by
  unfold hubActor
  repeat' split
  all_goals exact Actor.noConfusion

theorem hubActor_eq_debugger_iff (q : Req) (s : State) : hubActor q s = .debugger ↔ q.tag = debugTag := by
  unfold hubActor
  by_cases h : q.tag = debugTag
  · rw [if_pos h]
    exact iff_of_true rfl h
  · rw [if_neg h]
    refine iff_of_false ?_ h
    repeat' split
    all_goals exact Actor.noConfusion

theorem leafRoute_congr {s t : State} (h : t.regs = s.regs) (a b : Nat) : leafRoute t a b = leafRoute s a b := by
  have hg : groupUsable t = groupUsable s := by
    funext g
    rw [groupUsable, groupUsable, flag_congr h]
  unfold leafRoute
  rw [hg]

theorem reqFlitsOf_good (q : Req) : (reqFlitsOf q).all flitGood = true := by
  unfold reqFlitsOf
  dsimp only
  split <;> simp

/-- An undamaged request passes its check (R79). -/
theorem crcFails_none (q : Req) : crcFails (reqFlitsOf q) none = false := by
  rw [crcFails, arrivedFlits, reqFlitsOf_good, Bool.not_true]

theorem arriving_name {s : State} {src txn : Nat} {q : Req} (h : arriving s src txn = some q) : q.src = src ∧ q.txn = txn := by
  unfold arriving at h
  split at h
  · rename_i r hr
    split at h
    · cases h
      simpa using List.find?_some hr
    · cases h
  · cases h

/-- A request that has arrived at the hub is served there, or dropped where its check fails. -/
theorem hubArrives_of_arriving {s u : State} {src txn : Nat} {q : Req} (ha : arriving s src txn = some q) (hdst : q.dst = hubEp)
    (hu : reach (.req q.src q.txn) s = some u) (damage : Option (Fin 1152)) :
    hubArrives q.op src txn damage s = if crcFails (reqFlitsOf q) damage then crcDrop (takeReq q u) else hubServes q u := by
  obtain ⟨rfl, rfl⟩ := arriving_name ha
  unfold hubArrives
  rw [ha]
  dsimp only
  rw [if_neg (by simp [hdst]), hu]

/-- A request that gets through to the block of its register is served there. -/
theorem hubServes_of_reaches {s : State} {q : Req} {r : RegName} {i : Nat} (hat : regAt (regOffset q) = some (r, i))
    (h : HubReaches s q (blockEp r i)) :
    ∃ u l, reach (.req q.src q.txn) s = some u ∧ hubServes q u = blockServes q (taken s q l) := by
  obtain ⟨u, hu, hgo⟩ := h
  have hmoved := movesOnly_reach _ s u hu
  obtain ⟨l, hl⟩ := takeReq_of_movesOnly q hmoved
  refine ⟨u, ?_⟩
  unfold hubServes
  rw [hl, hat]
  dsimp only [Option.map_some, Option.getD_some]
  by_cases hep : blockEp r i = hubEp
  · exact ⟨l, hu, if_pos hep⟩
  · obtain ⟨hroute, hcarry⟩ := hgo.resolve_left hep
    rw [hl] at hcarry
    obtain ⟨w, hw⟩ := Option.isSome_iff_exists.mp hcarry
    obtain ⟨l', rfl⟩ := taken_of_movesOnly (MovesOnlyP.bind (movesOnly_carry _ _ _ _ _) (movesOnly_carry _ _ _ _) w hw)
    obtain ⟨gs, hgs⟩ := Option.ne_none_iff_exists'.mp hroute
    refine ⟨l', hu, ?_⟩
    rw [if_neg hep, leafRoute_congr (s := s) (t := taken s q l) rfl, hgs, hw]

/-- A request whose block no route leads to is answered with ROUTE_LOST (R84). -/
theorem hubServes_of_no_route {s u : State} {q : Req} {r : RegName} {i : Nat} (hat : regAt (regOffset q) = some (r, i))
    (hu : reach (.req q.src q.txn) s = some u) (hep : blockEp r i ≠ hubEp)
    (hroute : leafRoute s (epLeaf hubEp) (epLeaf (blockEp r i)) = none) :
    hubServes q u = respond q (.error 6 0) (takeReq q u) := by
  obtain ⟨l, hl⟩ := takeReq_of_movesOnly q (movesOnly_reach _ s u hu)
  unfold hubServes
  rw [hl, hat]
  dsimp only [Option.map_some, Option.getD_some]
  rw [if_neg hep, leafRoute_congr (s := s) (t := taken s q l) rfl, hroute]

/-- The block takes a write of a plain register and answers it. -/
theorem blockServes_write {s : State} {q : Req} {r : RegName} {i : Nat} {l : List Transit} (hr : Plain r) (hop : q.op = .write)
    (hat : regAt (regOffset q) = some (r, i)) :
    ∃ l', blockServes q (taken s q l) = fieldWrite true r i (lineWord q.data q.da) (replied (taken s q l) q .ack l') := by
  obtain ⟨l', hl'⟩ := respond_eq_replied q .ack (taken s q l)
  refine ⟨l', ?_⟩
  unfold blockServes
  rw [hop, hat]
  dsimp only
  rw [writeAt, writeReg_of_plain hr (hubActor_ne_host q _), hl']
  rfl

/-- What a read over the network leaves in the device: the RC fields cleared, but for the debug master's. -/
def afterRead (byDebugger : Bool) (r : RegName) (i : Nat) (s : State) : State :=
  if byDebugger then s else s.setReg r i (clearRC 0 (regFields r i) (s.reg r i))

/-- The block reads a plain register and answers with its value in the byte lanes of the address. -/
theorem blockServes_read {s : State} {q : Req} {r : RegName} {i : Nat} {l : List Transit} (hr : Plain r) (hdtc : r ≠ .CLK_DTC_LO)
    (hclaim : r ≠ .EVC_CLAIM) (hop : q.op = .read) (hat : regAt (regOffset q) = some (r, i)) :
    ∃ l', blockServes q (taken s q l) = replied (taken (afterRead (decide (q.tag = debugTag)) r i s) q l) q
      (.data (((regView r i s).setWidth 512).shiftLeft (8 * (q.da % 64)))) l' := by
  have hread : readAt (hubActor q (taken s q l)) (some (r, i)) (taken s q l) =
      (regView r i s, taken (afterRead (decide (q.tag = debugTag)) r i s) q l) := by
    rw [readAt, readReg_of_plain hr hdtc hclaim (hubActor_ne_host q _)]
    simp only [hubActor_eq_debugger_iff, afterRead, decide_eq_true_eq]
    refine Prod.ext (regView_net (crOf_of_plain hr i) s _) ?_
    dsimp only
    split
    · rfl
    · rfl
  obtain ⟨l', hl'⟩ := respond_eq_replied q (.data (((regView r i s).setWidth 512).shiftLeft (8 * (q.da % 64))))
    (taken (afterRead (decide (q.tag = debugTag)) r i s) q l)
  refine ⟨l', ?_⟩
  unfold blockServes
  rw [hop, hat]
  dsimp only
  rw [hread, hl']
  rfl

end Sys2Proof.Machine

/-! ### The commands of the register space, and the statements about them -/

namespace Sys2Proof.Machine
open Sys2Proof

theorem exec_registerWrite {r : RegName} {i : Nat} (a : Actor) (v : Word) (s : State) (hi : i < regCopies r) :
    exec (.registerWrite a r i v) s = done (writeReg a r i v s) := by
  rw [show exec (.registerWrite a r i v) s = done (guarded (decide (i < regCopies r)) s (writeReg a r i v)) from rfl,
    guarded_true (decide_eq_true hi)]

theorem exec_clearingRead {r : RegName} {i : Nat} (same : Word) (s : State) (hi : i < regCopies r) :
    exec (.clearingRead r i same) s =
      done { (readReg (.keeper 0) same r i s).2 with rdata := (readReg (.keeper 0) same r i s).1 } := by
  rw [show exec (.clearingRead r i same) s = done (guarded (decide (i < regCopies r)) s fun s =>
    { (readReg (.keeper 0) same r i s).2 with rdata := (readReg (.keeper 0) same r i s).1 }) from rfl, guarded_true (decide_eq_true hi)]

/-- A request that is on its way to the hub acts as it arrives, a read or a write as its operation says. -/
theorem exec_hubAccess {src : BitVec 13} {txn : BitVec 8} {d : Option (Fin 1152)} {op : NetOp} {c : NetOp × Instr}
    (hc : c ∈ [(NetOp.read, Instr.regRead (.flit src txn) d), (NetOp.write, Instr.regWrite (.flit src txn) d)]) (hop : op = c.1) (s : State) :
    exec c.2 s = done (hubArrives op src.toNat txn.toNat d s) := by
  subst hop
  rcases List.mem_pair.mp hc with rfl | rfl
  · rfl
  · rfl

/-! #### Direct accesses (R7–R11, R411) -/

theorem registerWrite_completes {r : RegName} {i : Nat} {a : Actor} (hr : Plain r) (hi : i < regCopies r) (ha : ∀ n, a ≠ .host n)
    (v : Word) (s : State) : Completes (.registerWrite a r i v) s fun t => FieldsWritten r i v s t ∧ Touches [r] [] s t := by
  refine Completes.of_eq (exec_registerWrite a v s hi) ?_
  rw [writeReg_of_plain hr ha]
  exact ⟨fieldsWritten_fieldWrite rfl r i v, touches_setReg s r i _⟩

/-- A host that writes outside its own head's frame changes nothing. -/
theorem writeReg_of_other_head {n : Fin 16} {r : RegName} {i : Nat} (h : shxHead r i ≠ some n.val) (v : Word) (s : State) :
    writeReg (.host n) r i v s = s := by
  unfold writeReg
  cases hk : shxHead r i with
  | none => rfl
  | some k => exact if_neg fun e => h (hk.trans (congrArg some e.1))

theorem otherHeadWrite_completes {n : Fin 16} {r : RegName} {i : Nat} (h : shxHead r i ≠ some n.val) (v : Word) (s : State) :
    Completes (.registerWrite (.host n) r i v) s fun t => t = s := by
  refine ⟨_, rfl, ?_⟩
  unfold guarded
  split
  · exact writeReg_of_other_head h v s
  · rfl

/-- What a clearing read leaves in the fields of its register, and in the bits of no field. -/
theorem getF_setReg_clearRC_field (same : Word) {r : RegName} {i : Nat} (s : State) {f : FieldRow} (hf : f ∈ regFields r i) :
    getF ((s.setReg r i (clearRC same (regFields r i) (s.reg r i))).reg r i) f.lo f.width =
      if f.acc = .RC then getF same f.lo f.width else getF (s.reg r i) f.lo f.width := by
  rw [reg_setReg_same, clearRC_eq_foldl, (clearRow_turnsOwnField same).foldl_field (regFields_apart r i) hf]

theorem getF_setReg_clearRC_outside (same : Word) {r : RegName} {i k : Nat} (s : State)
    (hk : ∀ f ∈ regFields r i, k < f.lo ∨ f.lo + f.width ≤ k) :
    getF ((s.setReg r i (clearRC same (regFields r i) (s.reg r i))).reg r i) k 1 = getF (s.reg r i) k 1 := by
  rw [reg_setReg_same, clearRC_eq_foldl, (clearRow_turnsOwnField same).foldl_outside fun f hf => (hk f hf).symm]

theorem clearingRead_completes {r : RegName} {i : Nat} (hr : Plain r) (hdtc : r ≠ .CLK_DTC_LO) (hclaim : r ≠ .EVC_CLAIM)
    (hi : i < regCopies r) (same : Word) (s : State) :
    Completes (.clearingRead r i same) s fun t =>
      t.rdata = regView r i s ∧ Touches [r] [.rdata] s t ∧ (∀ j : Nat, j ≠ i → t.reg r j = s.reg r j) ∧
      (∀ f ∈ regFields r i, getF (t.reg r i) f.lo f.width =
        if f.acc = .RC then getF same f.lo f.width else getF (s.reg r i) f.lo f.width) ∧
      ∀ k : Fin 32, (∀ f ∈ regFields r i, k.val < f.lo ∨ f.lo + f.width ≤ k.val) → getF (t.reg r i) k 1 = getF (s.reg r i) k 1 := by
  refine Completes.of_eq (exec_clearingRead same s hi) ?_
  rw [readReg_of_plain hr hdtc hclaim (fun _ => Actor.noConfusion), if_neg Actor.noConfusion]
  exact ⟨rfl, (touches_setReg s r i _).trans (touches_rdata _ _), fun j hj => reg_setReg_ne s _ fun e => hj e.2,
    fun f hf => getF_setReg_clearRC_field same s hf, fun k hk => getF_setReg_clearRC_outside same s hk⟩

/-! #### Requests at the hub (R83, R79, R84) -/

theorem touches_replied_taken (s : State) (q : Req) (a : Answer) (l l' : List Transit) : Touches [] [.net] s (replied (taken s q l) q a l') :=
  touches_net s _

theorem touches_afterRead (byDebugger : Bool) (r : RegName) (i : Nat) (s : State) : Touches [r] [] s (afterRead byDebugger r i s) := by
  cases byDebugger
  · exact touches_setReg s r i _
  · exact Touches.refl _ _ s

/-- What a read over the network leaves in the fields of its register (R10, R481). -/
theorem getF_afterRead (byDebugger : Bool) {r : RegName} {i : Nat} (s : State) {f : FieldRow} (hf : f ∈ regFields r i) :
    getF ((afterRead byDebugger r i s).reg r i) f.lo f.width = if f.acc = .RC ∧ byDebugger = false then 0 else getF (s.reg r i) f.lo f.width := by
  cases byDebugger with
  | true => simp [afterRead]
  | false =>
    have h0 : getF 0 f.lo f.width = 0 := by simp [getF]
    simp only [afterRead, Bool.false_eq_true, if_false, and_true, getF_setReg_clearRC_field 0 s hf, h0]

section
variable {s : State} {src : BitVec 13} {txn : BitVec 8} {q : Req} {r : RegName} {i : Nat} (ha : arriving s src.toNat txn.toNat = some q)
  (hdst : q.dst = hubEp)
include ha hdst

/-- A sound request that gets through acts at its register's block. -/
theorem hubArrives_of_reaches (hat : regAt (regOffset q) = some (r, i)) (h : HubReaches s q (blockEp r i)) :
    ∃ l, hubArrives q.op src.toNat txn.toNat none s = blockServes q (taken s q l) := by
  obtain ⟨u, l, hu, hserves⟩ := hubServes_of_reaches hat h
  refine ⟨l, ?_⟩
  rw [hubArrives_of_arriving ha hdst hu, crcFails_none, if_neg Bool.false_ne_true, hserves]

theorem hubWrite_completes (hop : q.op = .write) (hat : regAt (regOffset q) = some (r, i)) (hr : Plain r)
    (h : HubReaches s q (blockEp r i)) :
    Completes (.regWrite (.flit src txn) none) s fun t =>
      FieldsWritten r i (q.data.extractLsb' (8 * (q.da % 64 / 4 * 4)) 32) s t ∧ Touches [r] [.net] s t ∧
      t.net = { s.net with
        way := t.net.way
        reqs := s.net.reqs.erase q
        resps := s.net.resps ++ [⟨q.dst, q.src, q.txn, q.tag, .ack, q.intent⟩] } := by
  obtain ⟨l, hl⟩ := hubArrives_of_reaches ha hdst hat h
  obtain ⟨l', hl'⟩ := blockServes_write (l := l) hr hop hat
  refine Completes.of_eq ((exec_hubAccess (List.mem_pair.mpr (.inr rfl)) hop s).trans (congrArg done (hl.trans hl'))) ?_
  exact ⟨fieldsWritten_fieldWrite rfl r i _, (touches_replied_taken s q .ack l l').trans (touches_setReg _ r i _), rfl⟩

theorem hubRead_completes (hop : q.op = .read) (hat : regAt (regOffset q) = some (r, i)) (hr : Plain r) (hdtc : r ≠ .CLK_DTC_LO)
    (hclaim : r ≠ .EVC_CLAIM) (h : HubReaches s q (blockEp r i)) :
    Completes (.regRead (.flit src txn) none) s fun t =>
      Touches [r] [.net] s t ∧
      t.net = { s.net with
        way := t.net.way
        reqs := s.net.reqs.erase q
        resps := s.net.resps ++
          [⟨q.dst, q.src, q.txn, q.tag, .data (((regView r i s).setWidth 512).shiftLeft (8 * (q.da % 64))), q.intent⟩] } ∧
      ∀ f ∈ regFields r i, getF (t.reg r i) f.lo f.width =
        if f.acc = .RC ∧ q.tag ≠ debugTag then 0 else getF (s.reg r i) f.lo f.width := by
  obtain ⟨l, hl⟩ := hubArrives_of_reaches ha hdst hat h
  obtain ⟨l', hl'⟩ := blockServes_read (l := l) hr hdtc hclaim hop hat
  refine Completes.of_eq ((exec_hubAccess (List.mem_pair.mpr (.inl rfl)) hop s).trans (congrArg done (hl.trans hl'))) ?_
  have hnet : (afterRead (decide (q.tag = debugTag)) r i s).net = s.net := (touches_afterRead _ r i s).2.2 .net List.not_mem_nil
  refine ⟨(touches_afterRead _ r i s).trans (touches_replied_taken _ q _ l l'), ?_, fun f hf => ?_⟩
  · simp only [replied, taken, hnet, respOf]
  · refine (getF_afterRead _ s hf).trans ?_
    simp only [decide_eq_false_iff_not, ne_eq]

variable {c : NetOp × Instr} (hop : q.op = c.1)
include hop

theorem hubAccess_without_route_completes (hat : regAt (regOffset q) = some (r, i)) {u : State} (hu : reach (.req q.src q.txn) s = some u)
    (hep : blockEp r i ≠ hubEp) (hroute : leafRoute s (epLeaf hubEp) (epLeaf (blockEp r i)) = none)
    (hc : c ∈ [(NetOp.read, Instr.regRead (.flit src txn) none), (NetOp.write, Instr.regWrite (.flit src txn) none)]) :
    Completes c.2 s fun t =>
      Touches [.KRV_ELOG0, .KRV_ELOG1, .KRV_ELOG2] [.net] s t ∧ t.net.reqs = s.net.reqs.erase q ∧
      t.net.resps = s.net.resps ++ [⟨q.dst, q.src, q.txn, q.tag, .error 6 0, q.intent⟩] := by
  have hanswer : hubArrives q.op src.toNat txn.toNat none s = respond q (.error 6 0) (takeReq q u) := by
    rw [hubArrives_of_arriving ha hdst hu, crcFails_none, if_neg Bool.false_ne_true, hubServes_of_no_route hat hu hep hroute]
  refine Completes.of_eq ((exec_hubAccess hc hop s).trans (congrArg done hanswer)) ?_
  have hframe : Keeps 0x1c000000 0x80 s (respond q (.error 6 0) (takeReq q u)) :=
    (keeps_respond ..).andThen (((keeps_takeReq q u).andThen (keeps_reach hu)).mono rfl rfl)
  obtain ⟨l, hl⟩ := takeReq_of_movesOnly q (movesOnly_reach _ s u hu)
  obtain ⟨l', hl'⟩ := respond_eq_replied q (.error 6 0) (takeReq q u)
  refine ⟨hframe.touches rfl rfl, ?_⟩
  rw [hl', replied, net_logAnswer, hl]
  exact ⟨rfl, rfl⟩

theorem damaged_hubAccess_completes {d : Fin 1152} (hreach : (reach (.req q.src q.txn) s).isSome = true)
    (hcrc : crcFails (reqFlitsOf q) (some d) = true)
    (hc : c ∈ [(NetOp.read, Instr.regRead (.flit src txn) (some d)), (NetOp.write, Instr.regWrite (.flit src txn) (some d))]) :
    Completes c.2 s fun t =>
      Touches [.KRV_CRCDROP] [.net] s t ∧ t.net = { s.net with way := t.net.way, reqs := s.net.reqs.erase q } ∧
      t.rd F.KRV_CRCDROP.COUNT 0 = min (s.rd F.KRV_CRCDROP.COUNT 0 + 1) (2 ^ F.KRV_CRCDROP.COUNT.width - 1) := by
  obtain ⟨u, hu⟩ := Option.isSome_iff_exists.mp hreach
  obtain ⟨l, hl⟩ := takeReq_of_movesOnly q (movesOnly_reach _ s u hu)
  have hdrop : hubArrives q.op src.toNat txn.toNat (some d) s = crcDrop (taken s q l) := by
    rw [hubArrives_of_arriving ha hdst hu, hcrc, if_pos rfl, hl]
  refine Completes.of_eq ((exec_hubAccess hc hop s).trans (congrArg done hdrop)) ?_
  exact ⟨(touches_net s _).trans ((keeps_crcDrop (taken s q l)).touches rfl rfl), rfl, rd_satAdd_same _ _ _ _ (by decide)⟩

end

/-- A core's access to a register makes its request, which then arrives at the hub. -/
theorem exec_coreAccess {s t : State} {c : Fin 4} {da : BitVec 48} {len : Nat} {data : Line} {x : Nat} (bad : Option (Fin 1152)) :
    (keeperAccess (.core c) .read coreEp da.toNat len 0 s = (some x, t) →
      exec (.regRead (.core c da len data) bad) s = .next (hubArrives .read coreEp x bad t)) ∧
    (keeperAccess (.core c) .write coreEp da.toNat len data s = (some x, t) →
      exec (.regWrite (.core c da len data) bad) s = .next (hubArrives .write coreEp x bad t)) := by
  constructor
  · intro h
    have hreq : requestOf .read (.core c da len data) s = (some (coreEp, x), t) := by
      rw [requestOf, if_neg nofun, h]
      rfl
    rw [show exec (.regRead (.core c da len data) bad) s = execRegRead (.core c da len data) bad s from rfl, execRegRead, hreq]
    rfl
  · intro h
    have hreq : requestOf .write (.core c da len data) s = (some (coreEp, x), t) := by
      rw [requestOf, if_pos rfl, h]
      rfl
    rw [show exec (.regWrite (.core c da len data) bad) s = execRegWrite (.core c da len data) bad s from rfl, execRegWrite, hreq]
    rfl

/-- Settles O54: a plain register is written and read row by row of its field table, directly or by a request that the hub carries to its block,
and on its way there a request moves messages only. -/
theorem registersFollowTheirAccessCodes : Obligations.RegistersFollowTheirAccessCodes := by
  unfold Obligations.RegistersFollowTheirAccessCodes
  refine ⟨?_, ?_, ?_, ?_, ?_, ?_, ?_, ?_⟩
  · exact fun s a r i v hr hi ha => registerWrite_completes hr hi ha v s
  · exact fun s n r i v h => otherHeadWrite_completes h v s
  · exact fun s r i same hr hdtc hclaim hi => clearingRead_completes hr hdtc hclaim hi same s
  · exact fun s src txn q r i ha hop hdst hat hr _ h => hubWrite_completes ha hdst hop hat hr h
  · exact fun s src txn q r i ha hop hdst hat hr hdtc hclaim h => hubRead_completes ha hdst hop hat hr hdtc hclaim h
  · exact fun s u src txn q r i ha hdst hat hu hep hroute c hc hop =>
      hubAccess_without_route_completes ha hdst hop hat hu hep hroute hc
  · exact fun s src txn q d ha hdst hreach hcrc c hc hop => damaged_hubAccess_completes ha hdst hop hreach hcrc hc
  · exact fun s c da len data bad x t => exec_coreAccess bad

/-! ### The state after reset -/

theorem reset_canonical : Canonical State.reset := by
  have hnil {α : Type} (d : Nat → α) : swf d [] := ⟨.nil, nofun⟩
  exact ⟨hnil _, hnil _, hnil _, hnil _⟩

/-- Settles O58: every store is empty, and an empty register store reads as the Reset columns. -/
theorem resetIsCanonicalAndHoldsTheTablesValues : Obligations.ResetIsCanonicalAndHoldsTheTablesValues :=
  ⟨reset_canonical, rfl, rfl, by decide +kernel⟩

end Sys2Proof.Machine

/-! ### Paths within a leaf (R36, R72, R84, R85) -/

namespace Sys2Proof.Machine
open Sys2Proof

/-- The list leads from a to b, each step in the relation. -/
def Leads (adj : Nat → Nat → Prop) (a : Nat) (l : List Nat) (b : Nat) : Prop := (a :: l).getLast? = some b ∧ (a :: l).IsChain adj

section
variable {adj : Nat → Nat → Prop}

theorem Leads.nil (a : Nat) : Leads adj a [] a := ⟨rfl, .singleton a⟩

theorem Leads.cons {a b c : Nat} {l : List Nat} (hab : adj a b) (h : Leads adj b l c) : Leads adj a (b :: l) c :=
  ⟨by rw [List.getLast?_cons_cons]; exact h.1, .cons_cons hab h.2⟩

theorem leads_cons {a b c : Nat} {l : List Nat} : Leads adj a (b :: l) c ↔ adj a b ∧ Leads adj b l c :=
  ⟨fun h => ⟨(List.isChain_cons_cons.mp h.2).1, by rw [← h.1, List.getLast?_cons_cons], (List.isChain_cons_cons.mp h.2).2⟩,
    fun h => h.2.cons h.1⟩

theorem leads_nil {a b : Nat} : Leads adj a [] b ↔ a = b :=
  ⟨fun h => Option.some.inj h.1, fun h => h ▸ .nil a⟩

theorem Leads.append {a b c : Nat} {l l' : List Nat} (h : Leads adj a l b) (h' : Leads adj b l' c) : Leads adj a (l ++ l') c := by
  induction l generalizing a with
  | nil => exact leads_nil.mp h ▸ h'
  | cons x l ih => exact (ih (leads_cons.mp h).2).cons (leads_cons.mp h).1

/-- Each router of a list that leads somewhere is followed by one that it is joined to. -/
theorem Leads.step {a b : Nat} {l : List Nat} (h : Leads adj a l b) {i p q : Nat} (hp : (a :: l)[i]? = some p) (hq : l[i]? = some q) :
    adj p q := by
  induction l generalizing a i with
  | nil => cases hq
  | cons x l ih =>
    obtain ⟨hax, hl⟩ := leads_cons.mp h
    cases i with
    | zero => cases hp; cases hq; exact hax
    | succ i => exact ih hl hp hq

/-- The values of f at 1 to n lead from its value at 0 to its value at n. -/
theorem leads_range (f : Nat → Nat) (n : Nat) (hf : ∀ k < n, adj (f k) (f (k + 1))) :
    Leads adj (f 0) ((List.range n).map fun k => f (k + 1)) (f n) := by
  induction n with
  | zero => exact .nil _
  | succ n ih =>
    rw [List.range_succ, List.map_append]
    exact (ih fun k hk => hf k (by omega)).append ((Leads.nil _).cons (hf n (by omega)))

/-- A line is walked place by place. -/
theorem leads_lineSteps (f : Nat → Nat) (a b : Nat) (hf : ∀ x, x + 1 ≤ max a b → adj (f x) (f (x + 1)) ∧ adj (f (x + 1)) (f x)) :
    Leads adj (f a) ((lineSteps a b).map f) (f b) := by
  unfold lineSteps
  split
  · next hle =>
    have h := leads_range (adj := adj) (fun k => f (a + k)) (b - a) fun k hk => (hf (a + k) (by omega)).1
    have hlist : ((List.range (b - a)).map fun k => a + 1 + k).map f = (List.range (b - a)).map fun k => f (a + (k + 1)) := by
      rw [List.map_map]
      exact List.map_congr_left fun k _ => congrArg f (by dsimp only; omega)
    rw [hlist, show b = a + (b - a) by omega]
    simpa using h
  · next hlt =>
    have h := leads_range (adj := adj) (fun k => f (a - k)) (a - b) fun k hk => by
      have hstep := (hf (a - (k + 1)) (by omega)).2
      rwa [show a - (k + 1) + 1 = a - k by omega] at hstep
    have hlist : ((List.range (a - b)).map fun k => a - 1 - k).map f = (List.range (a - b)).map fun k => f (a - (k + 1)) := by
      rw [List.map_map]
      exact List.map_congr_left fun k _ => congrArg f (by dsimp only; omega)
    rw [hlist]
    simpa [show a - (a - b) = b by omega] using h

end

theorem length_lineSteps (a b : Nat) : (lineSteps a b).length = ((a : Int) - (b : Int)).natAbs := by
  unfold lineSteps
  split <;> simp <;> omega

theorem le_max_of_mem_lineSteps {a b x : Nat} (hx : x ∈ lineSteps a b) : x ≤ max a b := by
  unfold lineSteps at hx
  split at hx <;> simp only [List.mem_map, List.mem_range] at hx <;> obtain ⟨k, hk, rfl⟩ := hx <;> omega

/-- The rows first, then the columns. -/
theorem leafSteps_of_sectors {a b : Nat} (hleaf : a / 128 = b / 128) (ha : a % 128 < 80) (hb : b % 128 < 80) :
    leafSteps a b = (lineSteps (a % 128 / 8) (b % 128 / 8)).map (fun r => sectorRouter (a / 128) r (a % 8)) ++
      (lineSteps (a % 8) (b % 8)).map (sectorRouter (a / 128) (b % 128 / 8)) := by
  have hspot (r : Nat) (hr : r % 128 < 80) : routerSpot r = (r % 128 / 8, r % 8) := by
    simp only [routerSpot, hr, if_true, Prod.mk.injEq, true_and]
    omega
  unfold leafSteps
  split
  · next e =>
    subst e
    simp [lineSteps]
  · simp [hspot a ha, hspot b hb, sectorSteps, Function.comp_def]

/-- Two sector routers of a leaf are joined: neighbours in a row or in a column. -/
def Joined (p q : Nat) : Prop := (p % 8 = q % 8 ∧ (q = p + 8 ∨ p = q + 8)) ∨ (p / 8 = q / 8 ∧ (q = p + 1 ∨ p = q + 1))

theorem leads_leafSteps {a b : Nat} (hleaf : a / 128 = b / 128) (ha : a % 128 < 80) (hb : b % 128 < 80) :
    Leads Joined a (leafSteps a b) b := by
  have hrows := leads_lineSteps (adj := Joined) (fun r => sectorRouter (a / 128) r (a % 8)) (a % 128 / 8) (b % 128 / 8)
    fun x _ => by simp only [Joined, sectorRouter]; omega
  have hcols := leads_lineSteps (adj := Joined) (sectorRouter (a / 128) (b % 128 / 8)) (a % 8) (b % 8)
    fun x _ => by simp only [Joined, sectorRouter]; omega
  rw [leafSteps_of_sectors hleaf ha hb]
  have hstart : sectorRouter (a / 128) (a % 128 / 8) (a % 8) = a := by unfold sectorRouter; omega
  have hend : sectorRouter (a / 128) (b % 128 / 8) (b % 8) = b := by unfold sectorRouter; omega
  rw [hstart] at hrows
  rw [hend] at hcols
  exact hrows.append hcols

theorem length_leafSteps {a b : Nat} (hleaf : a / 128 = b / 128) (ha : a % 128 < 80) (hb : b % 128 < 80) :
    (leafSteps a b).length = ((a % 128 / 8 : Int) - (b % 128 / 8 : Int)).natAbs + ((a % 8 : Int) - (b % 8 : Int)).natAbs := by
  rw [leafSteps_of_sectors hleaf ha hb, List.length_append, List.length_map, List.length_map, length_lineSteps, length_lineSteps]
  omega

theorem rows_then_columns {a b : Nat} (hleaf : a / 128 = b / 128) (ha : a % 128 < 80) (hb : b % 128 < 80) :
    ∃ k, (∀ r ∈ (leafSteps a b).take k, r % 8 = a % 8) ∧ ∀ r ∈ (leafSteps a b).drop k, r % 128 / 8 = b % 128 / 8 := by
  refine ⟨(lineSteps (a % 128 / 8) (b % 128 / 8)).length, ?_, ?_⟩
  · intro r hr
    rw [leafSteps_of_sectors hleaf ha hb, List.take_left' (List.length_map _)] at hr
    obtain ⟨x, _, rfl⟩ := List.mem_map.mp hr
    unfold sectorRouter
    omega
  · intro r hr
    rw [leafSteps_of_sectors hleaf ha hb, List.drop_left' (List.length_map _)] at hr
    obtain ⟨c, hc, rfl⟩ := List.mem_map.mp hr
    have hle := le_max_of_mem_lineSteps hc
    unfold sectorRouter
    omega

theorem bundleLink_two (x : BitVec 13) : bundleLink x 2 = x.toNat % 2 := by
  simp [bundleLink]

theorem bundleLink_four (x : BitVec 13) : bundleLink x 4 = (x.toNat % 4) ^^^ (x.toNat / 4 % 4) := by
  simp [bundleLink, Nat.shiftRight_eq_div_pow]

theorem bundleLink_four_lt (x : BitVec 13) : bundleLink x 4 < 4 := (x.extractLsb' 0 2 ^^^ x.extractLsb' 2 2).isLt

theorem linkWidth_of_sectors {a b : Nat} (ha : a % 128 < 80) (hb : b % 128 < 80) :
    linkWidth a b = if (a % 128 < 8 ∧ b % 128 < 8) ∨ (a % 8 = 0 ∧ b % 8 = 0) then 4 else 2 := by
  have hmod (x : Nat) : x % 128 % 8 = x % 8 := Nat.mod_mod_of_dvd x (by decide)
  simp only [linkWidth, ha, hb, and_self, if_true, hmod]

/-- The bundles of an edge router: four links at the ports, two elsewhere. -/
theorem linkWidth_of_edge (l : Nat) {i b : Nat} (hi : 80 ≤ i) (hi' : i < 94) (hb : b % 128 < 80) :
    linkWidth (128 * l + i) b = (if i = 91 ∨ i = 92 then 4 else 2) ∧ linkWidth b (128 * l + i) = if i = 91 ∨ i = 92 then 4 else 2 := by
  have hmod : (128 * l + i) % 128 = i := by omega
  have hne : b % 128 ≠ 91 ∧ b % 128 ≠ 92 := by omega
  simp only [linkWidth, hmod, hne.1, hne.2, show ¬ i < 80 by omega, false_and, and_false, if_false, false_or, or_false, and_self]

/-! ### Landings (R20, R84) -/

theorem landing_unique : ∀ (g : Fin 4) (n : Fin 16),
    ∃ k ∈ landings g, n.val ∈ landingChans g k ∧ ∀ j ∈ landings g, n.val ∈ landingChans g j → j = k := by
  decide +kernel

theorem length_landingChans : ∀ g : Fin 4, ∀ k ∈ landings g, (landingChans g k).length = if g.val < 2 ∧ 6 ≤ k then 1 else 2 := by
  decide +kernel

/-- The first of the least in cost, so far. -/
def firstLeast (cost : Nat → Nat) (b : Option Nat) (k : Nat) : Option Nat :=
  match b with
  | none => some k
  | some j => if cost k < cost j then some k else some j

/-- Of an ascending list, the fold leaves the least in cost, and of those the lowest. -/
theorem foldl_firstLeast (cost : Nat → Nat) {j : Nat} {l : List Nat} (hl : (j :: l).Pairwise (· < ·)) :
    ∃ m ∈ j :: l, l.foldl (firstLeast cost) (some j) = some m ∧ ∀ x ∈ j :: l, cost m < cost x ∨ (cost m = cost x ∧ m ≤ x) := by
  induction l generalizing j with
  | nil => exact ⟨j, List.mem_singleton.mpr rfl, rfl, fun x hx => .inr (by simp_all)⟩
  | cons k l ih =>
    obtain ⟨hj, hkl⟩ := List.pairwise_cons.mp hl
    have hjk := hj k List.mem_cons_self
    by_cases hlt : cost k < cost j
    · obtain ⟨m, hm, hfold, hmin⟩ := ih hkl
      refine ⟨m, List.mem_cons_of_mem _ hm, ?_, fun x hx => ?_⟩
      · rwa [List.foldl_cons, firstLeast, if_pos hlt]
      · rcases List.mem_cons.mp hx with rfl | hx
        · have hmk := hmin k List.mem_cons_self
          omega
        · exact hmin x hx
    · obtain ⟨m, hm, hfold, hmin⟩ := ih (hl.sublist (.cons_cons j (.cons k (.refl l))))
      refine ⟨m, ?_, ?_, fun x hx => ?_⟩
      · rcases List.mem_cons.mp hm with rfl | hm
        · exact List.mem_cons_self
        · exact List.mem_cons_of_mem _ (List.mem_cons_of_mem _ hm)
      · rwa [List.foldl_cons, firstLeast, if_neg hlt]
      · have hmj := hmin j List.mem_cons_self
        rcases List.mem_cons.mp hx with rfl | hx
        · exact hmj
        · rcases List.mem_cons.mp hx with rfl | hx
          · omega
          · exact hmin x (List.mem_cons_of_mem _ hx)

theorem pairwise_usableLandings (s : State) (g : Nat) : (usableLandings s g).Pairwise (· < ·) := by
  refine List.Pairwise.filter _ ?_
  unfold landings
  split <;> exact List.pairwise_lt_range

theorem lt_of_mem_landings {g k : Nat} (hk : k ∈ landings g) : k < if g < 2 then 10 else 8 := by
  unfold landings at hk
  split at hk
  · next hg => rwa [if_pos hg, ← List.mem_range]
  · next hg => rwa [if_neg hg, ← List.mem_range]

/-- No landing is more than seventeen routers away. -/
theorem sectorHops_landingSpot_le {p : Nat × Nat} (h1 : p.1 < 10) (h2 : p.2 < 8) {g k : Nat} (hk : k ∈ landings g) :
    sectorHops p (landingSpot g k) ≤ 17 := by
  have hlt := lt_of_mem_landings hk
  unfold sectorHops landingSpot
  split <;> simp_all <;> omega

/-- The cost by which a landing is chosen: the routers in total, then those on the current leaf. -/
def landingCost (s : State) (q : Nat × Nat) (g : Nat) (gs : List Nat) (p : Nat × Nat) (k : Nat) : Nat :=
  1000 * (sectorHops p (landingSpot g k) + fewestHops s q gs (landingSpot g k)) + sectorHops p (landingSpot g k)

theorem chooseLanding_eq (s : State) (q : Nat × Nat) (g : Nat) (gs : List Nat) (p : Nat × Nat) :
    chooseLanding s q g gs p = ((usableLandings s g).foldl (firstLeast (landingCost s q g gs p)) none).getD 0 := rfl

theorem chooseLanding_least {s : State} {q : Nat × Nat} {g : Nat} {gs : List Nat} {p : Nat × Nat} (hne : usableLandings s g ≠ []) :
    chooseLanding s q g gs p ∈ usableLandings s g ∧ ∀ x ∈ usableLandings s g,
      landingCost s q g gs p (chooseLanding s q g gs p) < landingCost s q g gs p x ∨
        (landingCost s q g gs p (chooseLanding s q g gs p) = landingCost s q g gs p x ∧ chooseLanding s q g gs p ≤ x) := by
  have hsorted := pairwise_usableLandings s g
  rw [chooseLanding_eq]
  obtain ⟨j, l, hjl⟩ := List.exists_cons_of_ne_nil hne
  rw [hjl] at hsorted ⊢
  obtain ⟨m, hm, hfold, hmin⟩ := foldl_firstLeast (landingCost s q g gs p) hsorted
  rw [List.foldl_cons, show firstLeast (landingCost s q g gs p) none j = some j from rfl, hfold]
  exact ⟨hm, hmin⟩

theorem mem_landings_of_usable {s : State} {g k : Nat} (hk : k ∈ usableLandings s g) : k ∈ landings g := List.mem_of_mem_filter hk

/-- The order of R84: the fewest routers in total, then on the current leaf, then the lowest. -/
theorem chooseLanding_order {s : State} {q p : Nat × Nat} {g : Nat} {gs : List Nat} (h1 : p.1 < 10) (h2 : p.2 < 8)
    (hne : usableLandings s g ≠ []) :
    let here (k : Nat) : Nat := sectorHops p (landingSpot g k)
    let total (k : Nat) : Nat := here k + fewestHops s q gs (landingSpot g k)
    let k := chooseLanding s q g gs p
    k ∈ usableLandings s g ∧ ∀ j ∈ usableLandings s g,
      total k < total j ∨ (total k = total j ∧ (here k < here j ∨ (here k = here j ∧ k ≤ j))) := by
  obtain ⟨hmem, hmin⟩ := chooseLanding_least (q := q) (gs := gs) (p := p) hne
  refine ⟨hmem, fun j hj => ?_⟩
  have hcost := hmin j hj
  have hk := sectorHops_landingSpot_le h1 h2 (mem_landings_of_usable hmem)
  have hj := sectorHops_landingSpot_le h1 h2 (mem_landings_of_usable hj)
  unfold landingCost at hcost
  dsimp only
  omega

/-! ### What a route depends on (R84) -/

/-- The same channels have failed, and the same groups are detoured. -/
def SameChannels (s t : State) : Prop :=
  (∀ g : Fin 4, s.rd F.KRV_KNK_STAT.LFAIL g = t.rd F.KRV_KNK_STAT.LFAIL g) ∧
  ∀ g : Fin 4, s.flag F.KRV_KNK_STAT.DETOUR g = t.flag F.KRV_KNK_STAT.DETOUR g

theorem groupOf_lt {a b g : Nat} (h : groupOf a b = some g) : g < 4 := by
  unfold groupOf at h
  split_ifs at h <;> cases h <;> decide

/-- The three groups around group g, from leaf a on. -/
def detour (g a : Nat) : List Nat :=
  if g = 0 then (if a = 0 then [2, 1, 3] else [3, 1, 2])
  else if g = 1 then (if a = 2 then [2, 0, 3] else [3, 0, 2])
  else if g = 2 then (if a = 0 then [0, 3, 1] else [1, 3, 0])
  else (if a = 1 then [0, 2, 1] else [1, 2, 0])

theorem detour_lt {g a : Nat} : ∀ x ∈ detour g a, x < 4 := by
  unfold detour
  split_ifs <;> decide

theorem leafRoute_of_groupOf (s : State) {a b g : Nat} (hne : a ≠ b) (hg : groupOf a b = some g) :
    leafRoute s a b = if groupUsable s g then some [g] else if (detour g a).all (groupUsable s) then some (detour g a) else none := by
  unfold leafRoute
  rw [if_neg hne, hg]
  rfl

/-- Between leaves that no group joins: over a horizontal group, then a vertical one, or the other way round. -/
theorem leafRoute_of_groupOf_none {a b : Nat} (hne : a ≠ b) (hg : groupOf a b = none) :
    ∃ h v h' v', h < 4 ∧ v < 4 ∧ h' < 4 ∧ v' < 4 ∧ ∀ s : State, leafRoute s a b =
      if groupUsable s h && groupUsable s v then some [h, v] else if groupUsable s v' && groupUsable s h' then some [v', h'] else none := by
  refine ⟨if a < 2 then 0 else 1, if b = 0 ∨ b = 2 then 2 else 3, if a < 2 then 1 else 0, if a = 0 ∨ a = 2 then 2 else 3, ?_, ?_, ?_, ?_,
    fun s => ?_⟩
  case refine_5 =>
    unfold leafRoute
    rw [if_neg hne, hg]
  all_goals split <;> decide

/-- Only groups that exist are crossed. -/
theorem leafRoute_lt {s : State} {a b : Nat} {gs : List Nat} (h : leafRoute s a b = some gs) : ∀ g ∈ gs, g < 4 := by
  by_cases hab : a = b
  · rw [leafRoute, if_pos hab] at h
    cases h
    exact nofun
  · cases hg : groupOf a b with
    | some g =>
      rw [leafRoute_of_groupOf s hab hg] at h
      split_ifs at h <;> cases h
      · simpa using groupOf_lt hg
      · exact detour_lt
    | none =>
      obtain ⟨i, j, i', j', hi, hj, hi', hj', hroute⟩ := leafRoute_of_groupOf_none hab hg
      rw [hroute] at h
      split_ifs at h <;> cases h <;> simp_all

section
variable {s t : State} (h : SameChannels s t)
include h

theorem SameChannels.landingLive {g : Nat} (hg : g < 4) (k : Nat) : landingLive s g k = landingLive t g k := by
  have hl := h.1 ⟨g, hg⟩
  simp only [Machine.landingLive, logicalFailed, hl]

theorem SameChannels.usableLandings {g : Nat} (hg : g < 4) : usableLandings s g = usableLandings t g := by
  simp only [Machine.usableLandings, h.landingLive hg]

theorem SameChannels.groupUsable {g : Nat} (hg : g < 4) : groupUsable s g = groupUsable t g := by
  have hd := h.2 ⟨g, hg⟩
  simp only [Machine.groupUsable, hd]

theorem SameChannels.fewestHops (q : Nat × Nat) {gs : List Nat} (hgs : ∀ g ∈ gs, g < 4) (p : Nat × Nat) :
    fewestHops s q gs p = fewestHops t q gs p := by
  induction gs generalizing p with
  | nil => rfl
  | cons g gs ih =>
    simp only [Machine.fewestHops, h.usableLandings (hgs g List.mem_cons_self), ih fun g hg => hgs g (List.mem_cons_of_mem _ hg)]

theorem SameChannels.groupHops (x : BitVec 13) (b : Nat) {gs : List Nat} (hgs : ∀ g ∈ gs, g < 4) (a : Nat) :
    groupHops s x b gs a = groupHops t x b gs a := by
  induction gs generalizing a with
  | nil => rfl
  | cons g gs ih =>
    have hg := hgs g List.mem_cons_self
    have hgs' : ∀ g ∈ gs, g < 4 := fun g hg => hgs g (List.mem_cons_of_mem _ hg)
    simp only [Machine.groupHops, chooseLanding, landingChannel, h.usableLandings hg, h.fewestHops _ hgs', h.landingLive hg, ih hgs']

theorem SameChannels.leafRoute (a b : Nat) : leafRoute s a b = leafRoute t a b := by
  by_cases hab : a = b
  · rw [Machine.leafRoute, Machine.leafRoute, if_pos hab, if_pos hab]
  · cases hg : groupOf a b with
    | some g =>
      have hall : (detour g a).all (Machine.groupUsable s) = (detour g a).all (Machine.groupUsable t) := by
        rw [Bool.eq_iff_iff, List.all_eq_true, List.all_eq_true]
        exact forall₂_congr fun x hx => by rw [h.groupUsable (detour_lt x hx)]
      rw [leafRoute_of_groupOf s hab hg, leafRoute_of_groupOf t hab hg, h.groupUsable (groupOf_lt hg), hall]
    | none =>
      obtain ⟨i, j, i', j', hi, hj, hi', hj', hroute⟩ := leafRoute_of_groupOf_none hab hg
      rw [hroute s, hroute t, h.groupUsable hi, h.groupUsable hj, h.groupUsable hi', h.groupUsable hj']

theorem SameChannels.routeFrom (a src dst : Nat) : routeFrom s a src dst = routeFrom t a src dst := by
  unfold Machine.routeFrom
  rw [h.leafRoute]
  exact Option.map_congr fun gs hgs => by rw [h.groupHops _ _ (leafRoute_lt hgs)]

end


/-! ### The routers of a route (R36) -/

/-- The router that a hop enters, where it enters one. -/
def routerEntered : Hop → Option Nat
  | .link _ b _ => some b
  | .recv g leaf ch => some (hopRouter (.recv g leaf ch))
  | _ => none

/-- A hop over a knuckle channel. -/
def overKnuckle : Hop → Bool
  | .recv _ _ _ => true
  | _ => false

theorem pathRouters_eq (start : Nat) (p : List Hop) : pathRouters start p = start :: p.filterMap routerEntered := by
  have heq : routerEntered = fun h => match h with
      | .link _ b _ => some b
      | .recv _ _ _ => some (hopRouter h)
      | _ => none := by
    funext h
    cases h <;> rfl
  rw [heq]
  rfl

theorem filterMap_linkHops (x : BitVec 13) (a : Nat) (l : List Nat) : (linkHops x a l).filterMap routerEntered = l := by
  induction l generalizing a with
  | nil => rfl
  | cons b l ih => exact congrArg (b :: ·) (ih b)

theorem filter_linkHops (x : BitVec 13) (a : Nat) (l : List Nat) : (linkHops x a l).filter overKnuckle = [] := by
  induction l generalizing a with
  | nil => rfl
  | cons b l ih => exact ih b

/-- The routers of a path over groups, which no channel and no link of a bundle changes. -/
def groupRouters (s : State) (b : Nat) : List Nat → Nat → List Nat
  | [], a => leafSteps a b
  | g :: gs, a =>
    let spot := landingSpot g (chooseLanding s (routerSpot b) g gs (routerSpot a))
    let far := sectorRouter (acrossGroup g (a / 128)) spot.1 spot.2
    leafSteps a (sectorRouter (a / 128) spot.1 spot.2) ++ far :: groupRouters s b gs far

theorem landingChannel_mem {s : State} {g k : Nat} (hk : k ∈ usableLandings s g) (x : BitVec 13) :
    landingChannel s g k x ∈ landingChans g k := by
  have hne : landingLive s g k ≠ [] := by simpa using (List.mem_filter.mp hk).2
  have hlen : (landingLive s g k).length ≤ 2 := by
    refine (List.length_filter_le _ _).trans ?_
    unfold landingChans
    split <;> simp
  have hsub : ∀ n ∈ landingLive s g k, n ∈ landingChans g k := fun n hn => List.mem_of_mem_filter hn
  unfold landingChannel
  split
  · next a b e =>
    rw [e] at hsub
    split
    · exact hsub b (by simp)
    · exact hsub a (by simp)
  · next a e =>
    rw [e] at hsub
    exact hsub a (by simp)
  · next h2 h1 =>
    match e : landingLive s g k with
    | [] => exact absurd e hne
    | [a] => exact absurd e (h1 a)
    | [a, b] => exact absurd e (h2 a b)
    | _ :: _ :: _ :: l => simp [e] at hlen

theorem find?_landing : ∀ g : Fin 4, ∀ k ∈ landings g, ∀ n ∈ landingChans g k,
    (landings g).find? (fun j => (landingChans g j).contains n) = some k := by
  decide +kernel

/-- A channel that lands at k is received across the group from there. -/
theorem hopRouter_recv {g leaf k n : Nat} (hg : g < 4) (hk : k ∈ landings g) (hn : n ∈ landingChans g k) :
    hopRouter (.recv g leaf n) = sectorRouter (acrossGroup g leaf) (landingSpot g k).1 (landingSpot g k).2 := by
  have hlt := lt_of_mem_landings hk
  have hspot : 8 * (landingSpot g k).1 + (landingSpot g k).2 < 128 := by
    unfold landingSpot
    split <;> simp_all <;> omega
  have hsend : sendRouter g leaf n = sectorRouter leaf (landingSpot g k).1 (landingSpot g k).2 := by
    rw [sendRouter, find?_landing ⟨g, hg⟩ k hk n hn]
    rfl
  rw [hopRouter, hsend]
  unfold sectorRouter
  omega

theorem length_filter_groupHops (s : State) (x : BitVec 13) (b : Nat) (gs : List Nat) (a : Nat) :
    ((groupHops s x b gs a).filter overKnuckle).length = gs.length := by
  induction gs generalizing a with
  | nil => exact congrArg List.length (filter_linkHops ..)
  | cons g gs ih =>
    simp only [groupHops, List.filter_append, filter_linkHops, List.length_append, ih]
    exact Nat.add_comm 1 _

section
variable {s : State} {gs : List Nat} (hgs : ∀ g ∈ gs, g < 4 ∧ usableLandings s g ≠ [])
include hgs

theorem filterMap_groupHops (x : BitVec 13) (b a : Nat) : (groupHops s x b gs a).filterMap routerEntered = groupRouters s b gs a := by
  induction gs generalizing a with
  | nil => exact filterMap_linkHops ..
  | cons g gs ih =>
    obtain ⟨hg, hne⟩ := hgs g List.mem_cons_self
    have hk := (chooseLanding_least (q := routerSpot b) (gs := gs) (p := routerSpot a) hne).1
    have hrecv := hopRouter_recv (leaf := a / 128) hg (mem_landings_of_usable hk) (landingChannel_mem hk x)
    simp only [groupHops, groupRouters, List.filterMap_append, filterMap_linkHops, ih fun g hg => hgs g (List.mem_cons_of_mem _ hg),
      List.append_assoc]
    exact congrArg (_ ++ · :: _) hrecv

theorem routeFrom_routers {a src dst : Nat} (hroute : leafRoute s (a / 128) (epLeaf dst) = some gs) :
    ∃ p, routeFrom s a src dst = some p ∧ pathRouters a p = a :: groupRouters s (routerOf dst) gs a ∧
      (p.filter overKnuckle).length = gs.length := by
  refine ⟨_, congrArg (Option.map _) hroute, ?_, ?_⟩
  · rw [pathRouters_eq, List.filterMap_append, filterMap_groupHops hgs]
    exact congrArg (a :: ·) (List.append_nil _)
  · rw [List.filter_append, List.length_append, length_filter_groupHops]
    rfl

end

/-- Where no channel has failed and no group is detoured, routes are those of the state after reset. -/
theorem sameChannels_reset {s : State} (hl : ∀ g : Fin 4, s.rd F.KRV_KNK_STAT.LFAIL g = 0)
    (hd : ∀ g : Fin 4, s.flag F.KRV_KNK_STAT.DETOUR g = false) : SameChannels s State.reset := by
  have hreset : ∀ g : Fin 4, State.reset.rd F.KRV_KNK_STAT.LFAIL g = 0 ∧ State.reset.flag F.KRV_KNK_STAT.DETOUR g = false := by decide +kernel
  exact ⟨fun g => (hl g).trans (hreset g).1.symm, fun g => (hd g).trans (hreset g).2.symm⟩

theorem usableLandings_reset : ∀ g : Fin 4, usableLandings State.reset g ≠ [] := by decide +kernel

/-- The route of a flow where no channel has failed. -/
theorem routeFrom_sound {s : State} (hl : ∀ g : Fin 4, s.rd F.KRV_KNK_STAT.LFAIL g = 0)
    (hd : ∀ g : Fin 4, s.flag F.KRV_KNK_STAT.DETOUR g = false) (src : Nat) {a dst : Nat} {gs : List Nat}
    (hroute : leafRoute State.reset (a / 128) (epLeaf dst) = some gs) :
    ∃ p, routeFrom s a src dst = some p ∧ pathRouters a p = a :: groupRouters State.reset (routerOf dst) gs a ∧
      (p.filter overKnuckle).length = gs.length := by
  rw [(sameChannels_reset hl hd).routeFrom]
  exact routeFrom_routers (fun g hg => ⟨leafRoute_lt hroute g hg, usableLandings_reset ⟨g, leafRoute_lt hroute g hg⟩⟩) hroute

section
variable {s : State} (hl : ∀ g : Fin 4, s.rd F.KRV_KNK_STAT.LFAIL g = 0) (hd : ∀ g : Fin 4, s.flag F.KRV_KNK_STAT.DETOUR g = false) (src : Nat)
include hl hd

/-- Path A of the worked example: from the first port of L0 to channel 0. -/
theorem routers_port_to_channel : (routeFrom s 91 src (channelEp 0)).map (pathRouters 91) = some [91, 16, 8, 0, 1, 88] := by
  obtain ⟨p, hp, hrouters, _⟩ := routeFrom_sound hl hd src (a := 91) (dst := channelEp 0) (gs := []) (by decide +kernel)
  rw [hp, Option.map_some, hrouters]
  decide +kernel

/-- Path B: from sector (5,6) of L0 to channel 9, over two groups. -/
theorem routers_sector_to_channel : (routeFrom s 46 src (channelEp 9)).map
    (fun hs => ((pathRouters 46 hs).length, (hs.filter overKnuckle).length)) = some (24, 2) := by
  obtain ⟨p, hp, hrouters, hknuckles⟩ := routeFrom_sound hl hd src (a := 46) (dst := channelEp 9) (gs := [0, 3]) (by decide +kernel)
  rw [hp, Option.map_some, hrouters, hknuckles]
  decide +kernel

/-- Path C: from the first port of L1 to the engines of its band router 3. -/
theorem routers_port_to_engine : ∀ e ∈ [134, 135, 150, 151, 246, 247],
    (routeFrom s 219 src (engineEp e)).map (pathRouters 219) = some [219, 144, 136, 128, 129, 130, 131, 211] := by
  have hleaf : ∀ e ∈ [134, 135, 150, 151, 246, 247], leafRoute State.reset (219 / 128) (epLeaf (engineEp e)) = some [] := by decide +kernel
  have hroute : ∀ e ∈ [134, 135, 150, 151, 246, 247],
      219 :: groupRouters State.reset (routerOf (engineEp e)) [] 219 = [219, 144, 136, 128, 129, 130, 131, 211] := by
    decide +kernel
  intro e he
  obtain ⟨p, hp, hrouters, _⟩ := routeFrom_sound hl hd src (hleaf e he)
  rw [hp, Option.map_some, hrouters, hroute e he]

end

end Sys2Proof.Machine

/-! ### The loads of the buffers (R74, R87, R90) -/

namespace Sys2Proof.Machine
open Sys2Proof

/-- What the messages of a list weigh together, each by the hop at which it stands, its class and its flits. -/
def load (f : Option Hop → Nat → Nat → Nat) (l : List Transit) : Nat := (l.map fun u => f u.here u.cls u.flits).sum

theorem load_append (f : Option Hop → Nat → Nat → Nat) (l l' : List Transit) : load f (l ++ l') = load f l + load f l' := by
  simp [load]

theorem load_singleton (f : Option Hop → Nat → Nat → Nat) (u : Transit) : load f [u] = f u.here u.cls u.flits := by
  simp [load]

theorem load_of_sublist (f : Option Hop → Nat → Nat → Nat) {l l' : List Transit} (h : l.Sublist l') : load f l ≤ load f l' :=
  (h.map _).sum_le_sum fun _ _ => Nat.zero_le _

theorem load_map (f : Option Hop → Nat → Nat → Nat) {g : Transit → Transit}
    (hg : ∀ u, (g u).here = u.here ∧ (g u).cls = u.cls ∧ (g u).flits = u.flits) (l : List Transit) : load f (l.map g) = load f l := by
  have heq (u : Transit) : f (g u).here (g u).cls (g u).flits = f u.here u.cls u.flits := by
    obtain ⟨hhere, hcls, hflits⟩ := hg u
    rw [hhere, hcls, hflits]
  simp only [load, List.map_map, Function.comp_def, heq]

theorem load_erase_of_mem (f : Option Hop → Nat → Nat → Nat) {u : Transit} {l : List Transit} (hu : u ∈ l) :
    load f (l.erase u) + f u.here u.cls u.flits = load f l := by
  rw [Nat.add_comm]
  exact List.sum_map_erase (fun u => f u.here u.cls u.flits) hu

theorem sum_map_filter (w : Transit → Nat) (p : Transit → Bool) (l : List Transit) :
    ((l.filter p).map w).sum = (l.map fun u => if p u then w u else 0).sum := by
  induction l with
  | nil => rfl
  | cons u l ih => cases hp : p u <;> simp [hp, ih]

theorem flitCount_filter (p : Transit → Bool) (l : List Transit) :
    flitCount (l.filter p) = (l.map fun u => if p u then u.flits else 0).sum :=
  List.sum_eq_foldl.symm.trans (sum_map_filter (·.flits) p l)

/-- The flits of a class at a hop, as a weight. -/
def weightAt (h : Hop) (cls : Nat) (o : Option Hop) (c n : Nat) : Nat := if o == some h && c == cls then n else 0

/-- The flits at a hop, as a weight. -/
def weightIn (h : Hop) (o : Option Hop) (_c n : Nat) : Nat := if o == some h then n else 0

/-- The requests in the store of a source, as a weight. -/
def weightOfRequest (ep : Nat) (o : Option Hop) (c _n : Nat) : Nat := if o == some (.source ep) && c == 0 then 1 else 0

theorem flitsAt_eq_load (s : State) (h : Hop) (cls : Nat) : flitsAt s h cls = load (weightAt h cls) s.net.way := flitCount_filter _ _

theorem flitsIn_eq_load (s : State) (h : Hop) : flitsIn s h = load (weightIn h) s.net.way := flitCount_filter _ _

theorem requests_eq_load (s : State) (ep : Nat) :
    (s.net.way.filter (fun u => u.here == some (.source ep) && u.cls == 0)).length = load (weightOfRequest ep) s.net.way := by
  have hone (l : List Transit) : l.length = (l.map fun _ => 1).sum := by simp
  exact (hone _).trans (sum_map_filter (fun _ => 1) _ s.net.way)

/-- From `s` to `t` no load grows but by n flits of class c at hop o. -/
def Gains (s t : State) (o : Option Hop) (c n : Nat) : Prop := ∀ f, load f t.net.way ≤ load f s.net.way + f o c n

section
variable {s t : State} {o : Option Hop} {c n : Nat} (hg : Gains s t o c n)
include hg

theorem Gains.flitsAt_le {h : Hop} {cls b : Nat} (hs : flitsAt s h cls ≤ b) (hroom : o = some h → c = cls → flitsAt s h cls + n ≤ b) :
    flitsAt t h cls ≤ b := by
  have hle := hg (weightAt h cls)
  rw [← flitsAt_eq_load, ← flitsAt_eq_load] at hle
  unfold weightAt at hle
  split at hle
  case isTrue hat =>
    obtain ⟨ho, hc⟩ : o = some h ∧ c = cls := by simpa using hat
    exact hle.trans (hroom ho hc)
  case isFalse => exact hle.trans hs

theorem Gains.flitsIn_le {h : Hop} {b : Nat} (hs : flitsIn s h ≤ b) (hroom : o = some h → flitsIn s h + n ≤ b) : flitsIn t h ≤ b := by
  have hle := hg (weightIn h)
  rw [← flitsIn_eq_load, ← flitsIn_eq_load] at hle
  unfold weightIn at hle
  split at hle
  case isTrue hat => exact hle.trans (hroom (by simpa using hat))
  case isFalse => exact hle.trans hs

theorem Gains.requests_le {ep b : Nat} (hs : (s.net.way.filter (fun u => u.here == some (.source ep) && u.cls == 0)).length ≤ b)
    (hroom : o = some (.source ep) → c = 0 → (s.net.way.filter (fun u => u.here == some (.source ep) && u.cls == 0)).length < b) :
    (t.net.way.filter (fun u => u.here == some (.source ep) && u.cls == 0)).length ≤ b := by
  have hle := hg (weightOfRequest ep)
  rw [← requests_eq_load, ← requests_eq_load] at hle
  unfold weightOfRequest at hle
  split at hle
  case isTrue hat =>
    obtain ⟨ho, hc⟩ : o = some (.source ep) ∧ c = 0 := by simpa using hat
    exact hle.trans (hroom ho hc)
  case isFalse => exact hle.trans hs

end

/-- A path that crosses a knuckle channel enters its sender's buffer before its receiver's. -/
def SenderFirst (p : List Hop) : Prop := ∀ k g leaf ch : Nat, p[k + 1]? = some (.recv g leaf ch) → p[k]? = some (.send g leaf ch)

theorem SenderFirst.tail {p : List Hop} (h : SenderFirst p) : SenderFirst p.tail := by
  intro k g leaf ch hk
  rw [List.getElem?_tail] at hk ⊢
  exact h (k + 1) g leaf ch hk

theorem senderFirst_of_buffersHold {s : State} (hs : BuffersHold s) : ∀ u ∈ s.net.way, SenderFirst u.path := by
  obtain ⟨_, _, _, _, _, _, hpaths⟩ := hs
  exact hpaths

/-- What a sender holds and what its receiver holds are within the credits. -/
theorem credits_of_buffersHold {s : State} (hs : BuffersHold s) (g leaf ch cls : Nat) :
    flitsAt s (.send g leaf ch) cls + flitsAt s (.recv g leaf ch) cls ≤ 16 := by
  obtain ⟨_, _, _, _, hrecv, _, _⟩ := hs
  exact (hrecv g leaf ch cls).2

/-- Buffers that held no more than their places still do when a message comes that has room at its hop; at a receiver of a knuckle channel it
also keeps the credits. -/
theorem buffersHold_of_gains {s t : State} {o : Option Hop} {c n : Nat} (hs : BuffersHold s) (hg : Gains s t o c n)
    (hroom : ∀ h, o = some h → roomAt s h c n = true)
    (hcredit : ∀ g leaf ch cls : Nat, o = some (.recv g leaf ch) →
      flitsAt t (.send g leaf ch) cls + flitsAt t (.recv g leaf ch) cls ≤ 16)
    (hpath : ∀ u ∈ t.net.way, SenderFirst u.path) : BuffersHold t := by
  obtain ⟨hsource, henter, hlink, hsend, hrecv, hexit, _⟩ := hs
  refine ⟨fun ep => ?_, fun ep cls => ?_, fun a b k cls => ?_, fun g leaf ch => ?_, fun g leaf ch cls => ⟨?_, ?_⟩, fun ep => ?_, hpath⟩
  · refine hg.requests_le (hsource ep) fun ho hc => ?_
    simpa [roomAt, hc] using hroom _ ho
  · refine hg.flitsAt_le (henter ep cls) fun ho hc => ?_
    simpa [roomAt, hc] using hroom _ ho
  · refine hg.flitsAt_le (hlink a b k cls) fun ho hc => ?_
    simpa [roomAt, hc] using hroom _ ho
  · refine hg.flitsIn_le (hsend g leaf ch) fun ho => ?_
    have h := hroom _ ho
    simp only [roomAt, Bool.and_eq_true, decide_eq_true_eq] at h
    exact h.1.2
  · refine hg.flitsAt_le (hrecv g leaf ch cls).1 fun ho hc => ?_
    have h := hroom _ ho
    simp only [roomAt, Bool.and_eq_true, decide_eq_true_eq, hc] at h
    exact h.2
  · by_cases ho : o = some (.recv g leaf ch)
    · exact hcredit g leaf ch cls ho
    · have hr : flitsAt t (.recv g leaf ch) cls ≤ flitsAt s (.recv g leaf ch) cls := hg.flitsAt_le le_rfl fun h => absurd h ho
      have hsum := (hrecv g leaf ch cls).2
      have hle : flitsAt t (.send g leaf ch) cls ≤ 16 - flitsAt s (.recv g leaf ch) cls := by
        refine hg.flitsAt_le (by omega) fun ho hc => ?_
        have h := hroom _ ho
        simp only [roomAt, Bool.and_eq_true, decide_eq_true_eq, hc] at h
        omega
      omega
  · refine hg.flitsAt_le (hexit ep) fun ho hc => ?_
    simpa [roomAt, hc] using hroom _ ho

/-! ### One message moves (R74, R86, R87) -/

/-- Message v waits for output link h at the front of its buffer. -/
def waitsFor (s : State) (h : Hop) (v : Transit) : Bool := v.next == some h && v.here.any fun i => frontAt s i v.cls == some v

/-- A message after link h has served u: one that waits for h notes the pair of u. -/
def noting (s : State) (h : Hop) (u v : Transit) : Transit :=
  match u.here.map fun i => (i, u.cls) with
  | some p => if waitsFor s h v then { v with passed := p :: v.passed } else v
  | none => v

/-- A message one hop on. -/
def Transit.hopped (u : Transit) : Transit := { u with path := u.path.tail, passed := [] }

theorem way_moveOn (h : Hop) (u : Transit) (s : State) :
    (moveOn h u s).net.way = (s.net.way.erase u).map (noting s h u) ++ [u.hopped] := rfl

theorem noting_eq (s : State) (h : Hop) (u v : Transit) : ∃ l, noting s h u v = { v with passed := l } := by
  unfold noting
  split
  · split
    · exact ⟨_, rfl⟩
    · exact ⟨_, rfl⟩
  · exact ⟨_, rfl⟩

@[simp] theorem noting_name (s : State) (h : Hop) (u v : Transit) : (noting s h u v).name = v.name := by
  obtain ⟨l, e⟩ := noting_eq s h u v
  rw [e]

@[simp] theorem noting_path (s : State) (h : Hop) (u v : Transit) : (noting s h u v).path = v.path := by
  obtain ⟨l, e⟩ := noting_eq s h u v
  rw [e]

theorem noting_place (s : State) (h : Hop) (u v : Transit) :
    (noting s h u v).here = v.here ∧ (noting s h u v).cls = v.cls ∧ (noting s h u v).flits = v.flits := by
  obtain ⟨l, e⟩ := noting_eq s h u v
  rw [e]
  exact ⟨rfl, rfl, rfl⟩

theorem passed_noting {s : State} {h i : Hop} {u v : Transit} (hu : u.here = some i) (hv : waitsFor s h v = true) :
    (i, u.cls) ∈ (noting s h u v).passed := by
  simp [noting, hu, hv]

theorem noting_mem_moveOn {s : State} {h : Hop} {u v : Transit} (hv : v ∈ s.net.way) (hne : v ≠ u) :
    noting s h u v ∈ (moveOn h u s).net.way := by
  rw [way_moveOn]
  exact List.mem_append_left _ (List.mem_map_of_mem ((List.mem_erase_of_ne hne).mpr hv))

theorem hopped_mem_moveOn (s : State) (h : Hop) (u : Transit) : u.hopped ∈ (moveOn h u s).net.way := by
  rw [way_moveOn]
  exact List.mem_append_right _ (List.mem_singleton.mpr rfl)

theorem load_moveOn (f : Option Hop → Nat → Nat → Nat) (h : Hop) (u : Transit) (s : State) :
    load f (moveOn h u s).net.way = load f (s.net.way.erase u) + f u.next u.cls u.flits := by
  rw [way_moveOn, load_append, load_map f (noting_place s h u), load_singleton]
  rfl

theorem gains_moveOn (h : Hop) (u : Transit) (s : State) : Gains s (moveOn h u s) u.next u.cls u.flits := by
  intro f
  rw [load_moveOn]
  exact Nat.add_le_add_right (load_of_sublist f List.erase_sublist) _

/-- A message that moves from a sender to its receiver leaves as many flits there as it takes. -/
theorem credits_moveOn {s : State} {u : Transit} {j h : Hop} (hne : j ≠ h) (hu : u ∈ s.net.way) (hj : u.here = some j)
    (hnext : u.next = some h) (cls : Nat) :
    flitsAt (moveOn h u s) j cls + flitsAt (moveOn h u s) h cls = flitsAt s j cls + flitsAt s h cls := by
  have hload (f) := load_erase_of_mem f hu
  simp only [flitsAt_eq_load, load_moveOn, ← hload]
  simp only [weightAt, hj, hnext, beq_self_eq_true, beq_iff_eq, Option.some.injEq, hne, hne.symm, Bool.true_and, Bool.and_eq_true, false_and,
    if_false]
  omega

theorem senderFirst_moveOn {s : State} {h : Hop} {u : Transit} (hs : ∀ v ∈ s.net.way, SenderFirst v.path) (hu : SenderFirst u.path) :
    ∀ v ∈ (moveOn h u s).net.way, SenderFirst v.path := by
  intro v hv
  rw [way_moveOn, List.mem_append, List.mem_map, List.mem_singleton] at hv
  obtain ⟨w, hw, rfl⟩ | rfl := hv
  · rw [noting_path]
    exact hs w (List.mem_of_mem_erase hw)
  · exact hu.tail

theorem here_of_next_recv {u : Transit} {g leaf ch : Nat} (hu : SenderFirst u.path) (hnext : u.next = some (.recv g leaf ch)) :
    u.here = some (.send g leaf ch) := by
  rw [Transit.next, List.head?_tail] at hnext
  rw [Transit.here, List.head?_eq_getElem?]
  exact hu 0 g leaf ch hnext

theorem buffersHold_moveOn {s : State} {h : Hop} {u : Transit} (hs : BuffersHold s) (hnext : u.next = some h) (hpath : SenderFirst u.path)
    (hroom : roomAt s h u.cls u.flits = true) (hrecv : ∀ g leaf ch, h = .recv g leaf ch → u ∈ s.net.way) :
    BuffersHold (moveOn h u s) := by
  refine buffersHold_of_gains hs (gains_moveOn h u s) (fun h' e => ?_) (fun g leaf ch cls e => ?_) (senderFirst_moveOn (senderFirst_of_buffersHold hs) hpath)
  · obtain rfl : h = h' := Option.some.inj (hnext.symm.trans e)
    exact hroom
  · obtain rfl : h = .recv g leaf ch := Option.some.inj (hnext.symm.trans e)
    have hne : Hop.send g leaf ch ≠ .recv g leaf ch := nofun
    rw [credits_moveOn hne (hrecv g leaf ch rfl) (here_of_next_recv hpath hnext) hnext cls]
    exact credits_of_buffersHold hs g leaf ch cls

/-! ### An output link is granted (R86) -/

/-- Link h serves the messages of a list that find room. -/
def serve (h : Hop) (l : List Transit) (s : State) : State := l.foldl (fun t v => if roomAt t h v.cls v.flits then moveOn h v t else t) s

theorem grant_cases {s t : State} {h : Hop} {u : Transit} (hg : grant h u s = some t) :
    ∃ v ∈ (serve h (overdue s h u) s).net.way, v.name = u.name ∧ v.path = u.path ∧
      roomAt (serve h (overdue s h u) s) h v.cls v.flits = true ∧ t = moveOn h v (serve h (overdue s h u) s) := by
  unfold grant at hg
  dsimp only at hg
  split at hg
  case h_1 v hv =>
    split at hg
    case isTrue hroom =>
      have hsame := List.find?_some hv
      simp only [Bool.and_eq_true, beq_iff_eq] at hsame
      exact ⟨v, List.mem_of_find?_eq_some hv, hsame.1, hsame.2, hroom, (Option.some.inj hg).symm⟩
    case isFalse => cases hg
  case h_2 => cases hg

theorem of_mem_overdue {s : State} {h : Hop} {u v : Transit} (hv : v ∈ overdue s h u) :
    v ∈ s.net.way ∧ v ≠ u ∧ waitsFor s h v = true := by
  simp only [overdue, List.mem_filter, Bool.and_eq_true, bne_iff_ne] at hv
  obtain ⟨hmem, ⟨⟨hne, hnext⟩, hfront⟩, _⟩ := hv
  exact ⟨hmem, hne, by rw [waitsFor, hnext, hfront]; rfl⟩

theorem waitsFor_iff {s : State} {h : Hop} {v : Transit} :
    waitsFor s h v = true ↔ v.next = some h ∧ ∃ i, v.here = some i ∧ frontAt s i v.cls = some v := by
  simp [waitsFor, Option.any_eq_true]

/-- Away from the receivers of the knuckle channels, what a link serves finds room or stays. -/
theorem buffersHold_serve {h : Hop} (hrecv : ∀ g leaf ch, h ≠ .recv g leaf ch) {l : List Transit}
    (hl : ∀ v ∈ l, v.next = some h ∧ SenderFirst v.path) {s : State} (hs : BuffersHold s) : BuffersHold (serve h l s) := by
  induction l generalizing s with
  | nil => exact hs
  | cons v l ih =>
    obtain ⟨hnext, hpath⟩ := hl v List.mem_cons_self
    refine ih (fun w hw => hl w (List.mem_cons_of_mem _ hw)) ?_
    dsimp only
    split
    · next hroom => exact buffersHold_moveOn hs hnext hpath hroom fun g leaf ch e => absurd e (hrecv g leaf ch)
    · exact hs

theorem frontAt_send (s : State) (g leaf ch c c' : Nat) : frontAt s (.send g leaf ch) c = frontAt s (.send g leaf ch) c' := by
  have heq : standsAt (.send g leaf ch) c = standsAt (.send g leaf ch) c' := by
    funext u
    simp [standsAt]
  rw [frontAt, frontAt, heq]

theorem of_frontAt {s : State} {h : Hop} {cls : Nat} {u : Transit} (hu : frontAt s h cls = some u) : u ∈ s.net.way ∧ u.here = some h := by
  have hstands := List.find?_some hu
  simp only [standsAt, Bool.and_eq_true, beq_iff_eq] at hstands
  exact ⟨List.mem_of_find?_eq_some hu, hstands.1⟩

/-- Only the front of its sender waits for the receiver of a knuckle channel, so nothing is due there before it. -/
theorem overdue_recv {s : State} {g leaf ch cls : Nat} {u : Transit} (hs : BuffersHold s)
    (hfront : frontAt s (.send g leaf ch) cls = some u) : overdue s (.recv g leaf ch) u = [] := by
  refine List.eq_nil_iff_forall_not_mem.mpr fun v hv => ?_
  obtain ⟨hmem, hne, hwaits⟩ := of_mem_overdue hv
  obtain ⟨hnext, i, hi, hfv⟩ := waitsFor_iff.mp hwaits
  obtain rfl : i = .send g leaf ch := Option.some.inj (hi.symm.trans (here_of_next_recv (senderFirst_of_buffersHold hs v hmem) hnext))
  rw [frontAt_send s g leaf ch v.cls cls, hfront] at hfv
  exact hne (Option.some.inj hfv).symm

/-! ### Room is made (R87, R89) -/

theorem untilFree_free {free : State → Bool} {move : State → Option State} {n : Nat} {s t : State} (h : untilFree n free move s = some t) :
    free t = true := by
  induction n generalizing s with
  | zero =>
    unfold untilFree at h
    split at h
    · next hs => cases h; exact hs
    · cases h
  | succ n ih =>
    unfold untilFree at h
    split at h
    · next hs => cases h; exact hs
    · obtain ⟨s', _, h'⟩ := Option.bind_eq_some_iff.mp h
      exact ih h'

theorem untilFree_of_free {free : State → Bool} {move : State → Option State} {n : Nat} {s : State} (hs : free s = true) :
    untilFree n free move s = some s := by
  cases n with
  | zero => exact if_pos hs
  | succ n => exact if_pos hs

/-- What every move keeps holds when there is room. -/
theorem untilFree_keeps {P : State → Prop} {free : State → Bool} {move : State → Option State}
    (hm : ∀ s t, P s → move s = some t → P t) {n : Nat} {s t : State} (hs : P s) (h : untilFree n free move s = some t) : P t := by
  induction n generalizing s with
  | zero =>
    unfold untilFree at h
    split at h
    · cases h; exact hs
    · cases h
  | succ n ih =>
    unfold untilFree at h
    split at h
    · cases h; exact hs
    · obtain ⟨s', hs', h'⟩ := Option.bind_eq_some_iff.mp h
      exact ih (hm s s' hs hs') h'

/-- The last step of a push: in `s` message u is the first of its class at h, and its next hop h' is granted to it in `r`, where room has
been made, if there was none. -/
structure PushStep (h : Hop) (cls : Nat) (u : Transit) (h' : Hop) (s r t : State) : Prop where
  front : frontAt s h cls = some u
  next : u.next = some h'
  moves : MovesOnly s r
  room : roomAt r h' u.cls u.flits = true
  early : roomAt s h' u.cls u.flits = true → r = s
  granted : grant h' u r = some t

/-- Every push keeps what its last step keeps. -/
def KeptByPush (P : State → Prop) : Prop := ∀ h cls u h' s r t, P s → P r → PushStep h cls u h' s r t → P t

section
variable {P : State → Prop} (hP : KeptByPush P) {s t : State}
include hP

theorem KeptByPush.push {f : Nat} {h : Hop} {cls : Nat} (hs : P s) (hp : push f h cls s = some t) : P t := by
  induction f generalizing h cls s t with
  | zero => cases hp
  | succ f ih =>
    unfold Machine.push at hp
    split at hp
    case h_1 => cases hp
    case h_2 u hfront =>
      split at hp
      case h_1 => cases hp
      case h_2 h' hnext =>
        obtain ⟨r, hfree, hgrant⟩ := Option.bind_eq_some_iff.mp hp
        refine hP h cls u h' s r t hs (untilFree_keeps (fun _ _ => ih) hs hfree) ⟨hfront, hnext, ?_, untilFree_free hfree, ?_, hgrant⟩
        · exact movesOnly_untilFree (fun t => movesOnly_push _ _ _ t) _ s r hfree
        · intro hroom
          rw [untilFree_of_free hroom] at hfree
          exact (Option.some.inj hfree).symm

theorem KeptByPush.makeRoom {h : Hop} {cls n : Nat} (hs : P s) (hm : makeRoom h cls n s = some t) : P t :=
  untilFree_keeps (fun _ _ => hP.push) hs hm

theorem KeptByPush.travel {f : Nat} {m : MsgName} (hs : P s) (ht : travel f m s = some t) : P t := by
  induction f generalizing s with
  | zero => cases ht
  | succ f ih =>
    unfold Machine.travel at ht
    split at ht
    · cases ht; exact hs
    · split at ht
      · split at ht
        · cases ht; exact hs
        · cases ht
      · obtain ⟨r, hpush, htravel⟩ := Option.bind_eq_some_iff.mp ht
        exact ih (hP.push hs hpush) htravel
      · cases ht

theorem KeptByPush.reach {m : MsgName} (hs : P s) (hr : reach m s = some t) : P t := hP.travel hs hr

end

/-- The credits of a knuckle channel count what its sender holds, so a message there has room at the receiver whenever the channel is open. -/
theorem PushStep.of_recv {h : Hop} {cls : Nat} {u : Transit} {g leaf ch : Nat} {s r t : State} (hs : BuffersHold s)
    (hp : PushStep h cls u (.recv g leaf ch) s r t) : r = s ∧ h = .send g leaf ch := by
  obtain ⟨hmem, hhere⟩ := of_frontAt hp.front
  have hsend := here_of_next_recv (senderFirst_of_buffersHold hs u hmem) hp.next
  refine ⟨hp.early ?_, Option.some.inj (hhere.symm.trans hsend)⟩
  obtain ⟨l, rfl⟩ := hp.moves
  have hroom := hp.room
  simp only [roomAt, Bool.and_eq_true, decide_eq_true_eq] at hroom ⊢
  refine ⟨hroom.1, ?_⟩
  have hflits : u.flits ≤ flitsAt s (.send g leaf ch) u.cls := by
    rw [flitsAt_eq_load, ← load_erase_of_mem _ hmem, hsend, weightAt]
    simp
  have hsum := credits_of_buffersHold hs g leaf ch u.cls
  omega

theorem buffersHold_keptByPush : KeptByPush BuffersHold := by
  intro h cls u h' s r t hs hr hp
  obtain ⟨v, hv, _, hpath, hroom, rfl⟩ := grant_cases hp.granted
  have hnext : v.next = some h' := by rw [Transit.next, hpath]; exact hp.next
  have hserved : BuffersHold (serve h' (overdue r h' u) r) := by
    by_cases hrecv : ∃ g leaf ch, h' = .recv g leaf ch
    · obtain ⟨g, leaf, ch, rfl⟩ := hrecv
      obtain ⟨rfl, rfl⟩ := hp.of_recv hs
      rw [overdue_recv hs hp.front]
      exact hs
    · refine buffersHold_serve (fun g leaf ch e => hrecv ⟨g, leaf, ch, e⟩) (fun w hw => ?_) hr
      obtain ⟨hmem, _, hwaits⟩ := of_mem_overdue hw
      exact ⟨(waitsFor_iff.mp hwaits).1, senderFirst_of_buffersHold hr w hmem⟩
  exact buffersHold_moveOn hserved hnext (senderFirst_of_buffersHold hserved v hv) hroom fun _ _ _ _ => hv

/-! ### A message is brought to its destination -/

/-- A message of this name is on its way. -/
def OnItsWay (m : MsgName) (s : State) : Prop := ∃ u ∈ s.net.way, u.name = m

theorem OnItsWay.moveOn {m : MsgName} {s : State} (hs : OnItsWay m s) (h : Hop) (u : Transit) : OnItsWay m (moveOn h u s) := by
  obtain ⟨v, hv, hname⟩ := hs
  by_cases e : v = u
  · subst e
    exact ⟨v.hopped, hopped_mem_moveOn s h v, hname⟩
  · exact ⟨_, noting_mem_moveOn hv e, (noting_name s h u v).trans hname⟩

theorem OnItsWay.serve {m : MsgName} {s : State} (hs : OnItsWay m s) (h : Hop) (l : List Transit) : OnItsWay m (serve h l s) := by
  induction l generalizing s with
  | nil => exact hs
  | cons v l ih =>
    refine ih ?_
    dsimp only
    split
    · exact hs.moveOn h v
    · exact hs

theorem onItsWay_keptByPush (m : MsgName) : KeptByPush (OnItsWay m) := by
  intro h cls u h' s r t _ hr hp
  obtain ⟨v, _, _, _, _, rfl⟩ := grant_cases hp.granted
  exact (hr.serve h' _).moveOn h' v

theorem onItsWay_of_transitOf {m : MsgName} {s : State} {u : Transit} (h : transitOf s m = some u) : OnItsWay m s :=
  ⟨u, List.mem_of_find?_eq_some h, by simpa using List.find?_some h⟩

theorem path_of_here_of_next {u : Transit} {h : Hop} (hhere : u.here = some h) (hnext : u.next = none) : u.path = [h] := by
  unfold Transit.here at hhere
  unfold Transit.next at hnext
  cases hp : u.path with
  | nil => simp [hp] at hhere
  | cons a l => simp_all

theorem travel_ends_at_exit {f : Nat} {m : MsgName} {s t : State} (hs : OnItsWay m s) (ht : travel f m s = some t) :
    ∃ w ep, transitOf t m = some w ∧ w.path = [.exit ep] ∧ frontAt t (.exit ep) w.cls = some w := by
  induction f generalizing s with
  | zero => cases ht
  | succ f ih =>
    unfold travel at ht
    split at ht
    case h_1 hnone =>
      obtain ⟨u, hu, hname⟩ := hs
      exact absurd (List.find?_eq_none.mp hnone u hu) (by simp [hname])
    case h_2 u hu =>
      split at ht
      case h_1 ep hhere hnext =>
        split at ht
        case isTrue hfront =>
          cases ht
          exact ⟨u, ep, hu, path_of_here_of_next hhere hnext, hfront⟩
        case isFalse => cases ht
      case h_2 =>
        obtain ⟨r, hpush, htravel⟩ := Option.bind_eq_some_iff.mp ht
        exact ih ((onItsWay_keptByPush m).push hs hpush) htravel
      case h_3 => cases ht

/-! ### Messages are sent, leave and take another path -/

/-- The hops that a route is made of: every receiver of a knuckle channel stands right after its sender. -/
inductive SoundRoute : List Hop → Prop
  | nil : SoundRoute []
  | hop {h : Hop} {p : List Hop} (hh : ∀ g leaf ch, h ≠ .recv g leaf ch) (hp : SoundRoute p) : SoundRoute (h :: p)
  | knuckle (g leaf ch : Nat) {p : List Hop} (hp : SoundRoute p) : SoundRoute (.send g leaf ch :: .recv g leaf ch :: p)

theorem SoundRoute.append {p q : List Hop} (hp : SoundRoute p) (hq : SoundRoute q) : SoundRoute (p ++ q) := by
  induction hp with
  | nil => exact hq
  | hop hh _ ih => exact .hop hh ih
  | knuckle g leaf ch _ ih => exact .knuckle g leaf ch ih

theorem SoundRoute.senderFirst_cons {p : List Hop} (hp : SoundRoute p) (h : Hop) : SenderFirst (h :: p) := by
  induction hp generalizing h with
  | nil => exact fun k g leaf ch e => absurd e (by simp)
  | @hop i p hi _ ih =>
    intro k g leaf ch e
    cases k with
    | zero => exact absurd (Option.some.inj e) (hi g leaf ch)
    | succ k => exact ih i k g leaf ch e
  | @knuckle g' leaf' ch' p _ ih =>
    intro k g leaf ch e
    match k, e with
    | 0, e => exact absurd (Option.some.inj e) nofun
    | 1, e =>
      obtain ⟨rfl, rfl, rfl⟩ := Hop.recv.inj (Option.some.inj e)
      rfl
    | k + 2, e => exact ih (.recv g' leaf' ch') k g leaf ch e

theorem soundRoute_linkHops (x : BitVec 13) (a : Nat) (l : List Nat) : SoundRoute (linkHops x a l) := by
  induction l generalizing a with
  | nil => exact .nil
  | cons b l ih => exact .hop nofun (ih b)

theorem soundRoute_groupHops (s : State) (x : BitVec 13) (b : Nat) (gs : List Nat) (a : Nat) : SoundRoute (groupHops s x b gs a) := by
  induction gs generalizing a with
  | nil => exact soundRoute_linkHops ..
  | cons g gs ih => exact ((soundRoute_linkHops ..).append (.knuckle _ _ _ .nil)).append (ih _)

theorem soundRoute_routeFrom {s : State} {a src dst : Nat} {p : List Hop} (h : routeFrom s a src dst = some p) : SoundRoute p := by
  obtain ⟨gs, _, rfl⟩ := Option.map_eq_some_iff.mp h
  exact (soundRoute_groupHops ..).append (.hop nofun .nil)

theorem soundRoute_pathOf (s : State) (at_ src dst : Nat) : SoundRoute (pathOf s at_ src dst) := by
  unfold pathOf
  split
  · next h => exact .hop nofun (soundRoute_routeFrom h)
  · exact .nil

theorem SoundRoute.head?_ne_recv {p : List Hop} (hp : SoundRoute p) (g leaf ch : Nat) : p.head? ≠ some (.recv g leaf ch) := by
  cases hp with
  | nil => exact nofun
  | hop hh _ => exact fun e => hh g leaf ch (Option.some.inj e)
  | knuckle => exact fun e => nomatch Option.some.inj e

theorem SoundRoute.senderFirst {p : List Hop} (hp : SoundRoute p) : SenderFirst p := (hp.senderFirst_cons (.exit 0)).tail

theorem here_of_pathOf {m : MsgName} {cls at_ src dst n : Nat} {s : State} {l : List (Hop × Nat)} {h : Hop}
    (e : (Transit.mk m cls src dst n (pathOf s at_ src dst) l).here = some h) : h = .enter at_ := by
  unfold Transit.here pathOf at e
  split at e
  · exact (Option.some.inj e).symm
  · cases e

/-- A message that is put where it has room, on a way that starts at no receiver. -/
theorem buffersHold_setWay_append {s : State} {u : Transit} (hs : BuffersHold s)
    (hroom : ∀ h, u.here = some h → roomAt s h u.cls u.flits = true) (hpath : SoundRoute u.path) :
    BuffersHold (s.setWay (s.net.way ++ [u])) := by
  refine buffersHold_of_gains (o := u.here) (c := u.cls) (n := u.flits) hs (fun f => ?_) hroom (fun g leaf ch cls e => ?_) fun v hv => ?_
  · exact (load_append f s.net.way [u]).le.trans (by rw [load_singleton])
  · exact absurd e (hpath.head?_ne_recv g leaf ch)
  · rcases List.mem_append.mp hv with hv | hv
    · exact senderFirst_of_buffersHold hs v hv
    · obtain rfl := List.mem_singleton.mp hv
      exact hpath.senderFirst

theorem makeRoom_room {h : Hop} {cls n : Nat} {s t : State} (hm : makeRoom h cls n s = some t) : roomAt t h cls n = true :=
  untilFree_free (free := fun t => roomAt t h cls n) hm

theorem buffersHold_post {s t : State} {m : MsgName} {cls src dst n : Nat} (hs : BuffersHold s) (hp : post m cls src dst n s = some t) :
    BuffersHold t := by
  unfold post at hp
  split at hp
  · cases hp
  · obtain ⟨r, hr, rfl⟩ := Option.map_eq_some_iff.mp hp
    refine buffersHold_setWay_append (buffersHold_keptByPush.makeRoom hs hr) (fun h e => ?_) (.hop nofun (soundRoute_pathOf ..))
    obtain rfl : Hop.source src = h := Option.some.inj e
    exact makeRoom_room hr

theorem buffersHold_launch {s t : State} {m : MsgName} {cls at_ src dst n : Nat} (hs : BuffersHold s)
    (hl : launch m cls at_ src dst n s = some t) : BuffersHold t := by
  unfold launch at hl
  split at hl
  · cases hl
  · obtain ⟨r, hr, rfl⟩ := Option.map_eq_some_iff.mp hl
    refine buffersHold_setWay_append (buffersHold_keptByPush.makeRoom hs hr) (fun h e => ?_) (soundRoute_pathOf ..)
    rw [here_of_pathOf e]
    exact makeRoom_room hr

/-- Messages that stand where messages stood before, or fewer of them. -/
theorem buffersHold_of_loads_le {s t : State} (hs : BuffersHold s) (hload : ∀ f, load f t.net.way ≤ load f s.net.way)
    (hpath : ∀ u ∈ t.net.way, SenderFirst u.path) : BuffersHold t :=
  buffersHold_of_gains (o := none) (c := 0) (n := 0) hs (fun f => (hload f).trans (Nat.le_add_right _ _)) nofun nofun hpath

theorem buffersHold_landed {s : State} (hs : BuffersHold s) (m : MsgName) : BuffersHold (landed m s) :=
  buffersHold_of_loads_le hs (fun f => load_of_sublist f List.filter_sublist) fun u hu =>
    senderFirst_of_buffersHold hs u (List.mem_of_mem_filter hu)

/-- What a message does whose path may be lost. -/
def rerouted (s : State) (u : Transit) : Transit :=
  if !pathLost s u then u
  else match u.here with
    | none => u
    | some h =>
      let start := match h with
        | .source ep => [Hop.enter ep]
        | _ => []
      match routeFrom s (hopRouter h) u.src u.dst with
      | some hs => { u with path := h :: start ++ hs, passed := [] }
      | none => u

theorem way_reroute (s : State) : (reroute s).net.way = s.net.way.map (rerouted s) := rfl

/-- A message stays as it is, or takes a sound route from where it stands. -/
theorem rerouted_cases (s : State) (u : Transit) :
    rerouted s u = u ∨ ∃ h p, u.here = some h ∧ SoundRoute p ∧ rerouted s u = { u with path := h :: p, passed := [] } := by
  unfold rerouted
  split
  · exact .inl rfl
  · split
    · exact .inl rfl
    · next h hhere =>
      dsimp only
      split
      · next p hp =>
        refine .inr ⟨h, _, hhere, SoundRoute.append ?_ (soundRoute_routeFrom hp), rfl⟩
        split
        · exact .hop nofun .nil
        · exact .nil
      · exact .inl rfl

theorem rerouted_place (s : State) (u : Transit) :
    (rerouted s u).here = u.here ∧ (rerouted s u).cls = u.cls ∧ (rerouted s u).flits = u.flits := by
  obtain e | ⟨h, p, hhere, _, e⟩ := rerouted_cases s u
  · rw [e]
    exact ⟨rfl, rfl, rfl⟩
  · rw [e, hhere]
    exact ⟨rfl, rfl, rfl⟩

theorem buffersHold_reroute {s : State} (hs : BuffersHold s) : BuffersHold (reroute s) := by
  refine buffersHold_of_loads_le hs (fun f => ?_) fun v hv => ?_
  · rw [way_reroute, load_map f (rerouted_place s)]
  · rw [way_reroute] at hv
    obtain ⟨u, hu, rfl⟩ := List.mem_map.mp hv
    obtain e | ⟨h, p, _, hp, e⟩ := rerouted_cases s u
    · rw [e]
      exact senderFirst_of_buffersHold hs u hu
    · rw [e]
      exact hp.senderFirst_cons h

/-! ### Who goes first (R86) -/

/-- A message that waits for a link while another is served notes it. -/
theorem moveOn_notes_pair {s : State} {h i j : Hop} {u v : Transit} (hu : u.here = some i) (hv : v ∈ s.net.way) (hne : v ≠ u)
    (hnext : v.next = some h) (hj : v.here = some j) (hfront : frontAt s j v.cls = some v) :
    ∃ w ∈ (moveOn h u s).net.way, w.name = v.name ∧ w.path = v.path ∧ (i, u.cls) ∈ w.passed :=
  ⟨_, noting_mem_moveOn hv hne, noting_name .., noting_path .., passed_noting hu (waitsFor_iff.mpr ⟨hnext, j, hj, hfront⟩)⟩

/-- A message that has been passed once moves before the one that asks again. -/
theorem grant_serves_overdue {s t : State} {h : Hop} {u v : Transit} (hdue : overdue s h u = [v]) (hne : u.name ≠ v.name)
    (hroom : roomAt s h v.cls v.flits = true) (hg : grant h u s = some t) : ∃ w ∈ t.net.way, w.name = v.name ∧ w.path = v.path.tail := by
  obtain ⟨x, _, hname, _, _, rfl⟩ := grant_cases hg
  have hserve : serve h (overdue s h u) s = moveOn h v s := by
    rw [hdue]
    exact if_pos hroom
  rw [hserve]
  have hx : v.hopped ≠ x := fun e => hne (hname.symm.trans (congrArg Transit.name e :).symm)
  exact ⟨_, noting_mem_moveOn (hopped_mem_moveOn s h v) hx, noting_name .., noting_path ..⟩

end Sys2Proof.Machine

/-! ### Messages take one path and keep to their buffers -/

namespace Sys2Proof.Machine
open Sys2Proof

/-- Settles O6: a route is walked over joined routers and the landing of least cost; and a push takes nothing into a buffer without room, for
at a receiver, where the credits count what the sender holds, only the front of the sender can be due. -/
theorem messagesTakeOnePathAndKeepToTheirBuffers : Obligations.MessagesTakeOnePathAndKeepToTheirBuffers := by
  unfold Obligations.MessagesTakeOnePathAndKeepToTheirBuffers
  refine ⟨?_, ?_, ?_, ?_, ?_, ?_, ?_, ?_, ?_, ?_, ?_, ?_, ?_, ?_, ?_, ?_⟩
  · intro a b hleaf ha hb
    have hleads := leads_leafSteps hleaf ha hb
    exact ⟨length_leafSteps hleaf ha hb, hleads.1, rows_then_columns hleaf ha hb, fun i p q => hleads.step⟩
  · exact fun x => ⟨bundleLink_two x, bundleLink_four x, bundleLink_four_lt x⟩
  · exact fun a b ha hb => linkWidth_of_sectors ha hb
  · intro a b hb
    refine ⟨⟨(linkWidth_of_edge _ (by decide) (by decide) hb).1, (linkWidth_of_edge _ (by decide) (by decide) hb).2⟩, ?_⟩
    intro i hi hi' h91 h92
    obtain ⟨hout, hin⟩ := linkWidth_of_edge (a / 128) hi hi' hb
    rw [hout, hin, if_neg (not_or.mpr ⟨h91, h92⟩)]
    exact ⟨rfl, rfl⟩
  · exact landing_unique
  · exact length_landingChans
  · exact fun s q p g gs h1 h2 hne => chooseLanding_order h1 h2 hne
  · exact fun s t a src dst hl hd => SameChannels.routeFrom ⟨hl, hd⟩ a src dst
  · exact fun s src hl hd => ⟨routers_port_to_channel hl hd src, routers_sector_to_channel hl hd src, routers_port_to_engine hl hd src⟩
  · exact fun s t m u hu ht => travel_ends_at_exit (onItsWay_of_transitOf hu) ht
  · exact fun s t m hs ht => buffersHold_keptByPush.reach hs ht
  · exact fun s t m cls at_ src dst n hs ht => buffersHold_launch hs ht
  · exact fun s t m cls src dst n hs ht => buffersHold_post hs ht
  · exact fun s m hs => ⟨buffersHold_landed hs m, buffersHold_reroute hs⟩
  · exact fun s h i j u v hu hv hne hnext hj hfront => moveOn_notes_pair hu hv hne hnext hj hfront
  · exact fun s t h u v hdue hne hroom hg => grant_serves_overdue hdue hne hroom hg

end Sys2Proof.Machine

/-! ### Fields and flags over the writes of a state -/

namespace Sys2Proof.Machine
open Sys2Proof

theorem testBit_nsetBit (v k j : Nat) (b : Bool) : (nsetBit v k b).testBit j = if j = k then b else v.testBit j := by
  have hbit : (1 <<< k : Nat).testBit j = decide (k = j) := by rw [Nat.one_shiftLeft, Nat.testBit_two_pow]
  cases b with
  | true =>
    rw [nsetBit, if_pos rfl, Nat.testBit_or, hbit]
    by_cases h : j = k
    · simp [h]
    · simp [h, Ne.symm h]
  | false =>
    rw [nsetBit, if_neg Bool.false_ne_true]
    by_cases hv : v.testBit k
    · have hsub : v - 1 <<< k = v.ldiff (1 <<< k) := by
        have hsum := land_add_ldiff v (1 <<< k)
        rw [Nat.one_shiftLeft, Nat.and_two_pow, hv, Bool.toNat_true, Nat.one_mul] at hsum
        rw [Nat.one_shiftLeft]
        omega
      rw [if_pos hv, hsub, Nat.testBit_ldiff, hbit]
      by_cases h : j = k
      · simp [h]
      · simp [h, Ne.symm h]
    · rw [if_neg hv]
      by_cases h : j = k
      · simpa [h] using hv
      · rw [if_neg h]

section
variable (s : State) (f g : Fld) (i j v k : Nat) (b : Bool)

@[simp] theorem rd_on_same (h : f.lo + f.width ≤ 32) (hw : 0 < f.width) : (s.on f i).rd f i = 1 := by
  rw [State.on, rd_wr_same _ _ _ _ h, Nat.mod_eq_of_lt (Nat.one_lt_two_pow hw.ne')]

@[simp] theorem flag_on_same (h : f.lo + f.width ≤ 32) (hw : 0 < f.width) : (s.on f i).flag f i = true := by
  rw [State.flag, rd_on_same s f i h hw]
  rfl

@[simp] theorem flag_off_same (h : f.lo + f.width ≤ 32) : (s.off f i).flag f i = false := by
  rw [State.flag, State.off, rd_wr_same _ _ _ _ h, Nat.zero_mod]
  rfl

@[simp] theorem flag_wr_b2n (h : f.lo + f.width ≤ 32) (hw : 0 < f.width) : (s.wr f i (b2n b)).flag f i = b := by
  have hlt : b2n b < 2 ^ f.width := (b2n_lt b).trans_le (Nat.le_self_pow hw.ne' 2)
  rw [State.flag, rd_wr_same _ _ _ _ h, Nat.mod_eq_of_lt hlt, b2n_bne_zero]

@[simp] theorem rd_on_other (h : f.apart g i j) : (s.on f i).rd g j = s.rd g j := rd_wr_other s f g i j 1 h

@[simp] theorem rd_off_other (h : f.apart g i j) : (s.off f i).rd g j = s.rd g j := rd_wr_other s f g i j 0 h

@[simp] theorem rd_wrBit_other (h : f.apart g i j) : (s.wrBit f i k b).rd g j = s.rd g j := rd_wr_other s f g i j _ h

@[simp] theorem flag_on_other (h : f.apart g i j) : (s.on f i).flag g j = s.flag g j := flag_wr_other s f g i j 1 h

@[simp] theorem flag_off_other (h : f.apart g i j) : (s.off f i).flag g j = s.flag g j := flag_wr_other s f g i j 0 h

@[simp] theorem rd_satAdd_other (h : f.apart g i j) : (s.satAdd f i k).rd g j = s.rd g j := rd_wr_other s f g i j _ h

@[simp] theorem flag_satAdd_other (h : f.apart g i j) : (s.satAdd f i k).flag g j = s.flag g j := flag_wr_other s f g i j _ h

theorem nbit_wrBit (h : f.lo + f.width ≤ 32) (hj : j < f.width) :
    nbit ((s.wrBit f i k b).rd f i) j = if j = k then b else nbit (s.rd f i) j := by
  rw [State.wrBit, rd_wr_same _ _ _ _ h, nbit, Nat.testBit_mod_two_pow, testBit_nsetBit, decide_eq_true hj, Bool.true_and, nbit]

end

end Sys2Proof.Machine


/-! ### The start-up of the root (R37, R39, R41) -/

namespace Sys2Proof.Machine
open Sys2Proof

theorem step_startAttempt (s : State) : (startAttempt s).clk.step = if s.flag F.CLK_STRAP.XSEL 0 then 2 else 3 := by
  have hxsel : (s.satAdd F.PWR_BOOTCNT.COUNT 0 1).flag F.CLK_STRAP.XSEL 0 = s.flag F.CLK_STRAP.XSEL 0 :=
    flag_satAdd_other _ _ _ _ _ _ (by decide)
  unfold startAttempt
  dsimp only
  rw [hxsel]
  split
  · rfl
  · rfl

/-- The start of an attempt writes REFKIND and the count of the attempts, and no other field. -/
theorem rd_startAttempt (s : State) {f : Fld} (hf : F.CLK_STRAP.REFKIND.apart f 0 0) (hcount : F.PWR_BOOTCNT.COUNT.apart f 0 0) :
    (startAttempt s).rd f 0 = s.rd f 0 := by
  unfold startAttempt
  dsimp only
  split
  · rw [rd_upd, rd_satAdd_other _ _ _ _ _ _ hcount]
  · rw [rd_wr_other _ _ _ _ _ _ hf, rd_upd, rd_satAdd_other _ _ _ _ _ _ hcount]

theorem strapsLatched_startAttempt (s : State) : (startAttempt s).clk.strapsLatched = s.clk.strapsLatched := by
  unfold startAttempt
  dsimp only
  split
  · rfl
  · rfl

theorem suppliesGood_completes {s : State} (khLow : Bool) (h : s.clk.step = 0) :
    Completes (.suppliesGood khLow) s fun t => t.clk.step = 1 ∧ t.clk.koscOn = true ∧ t.kh.held = khLow := by
  refine Completes.of_guarded rfl (beq_iff_eq.mpr h) ?_
  exact ⟨rfl, rfl, rfl⟩

/-- The state with the straps and the boot-mode pins latched (R37, R325). -/
def strapped (xsel : BitVec 1) (xdly : BitVec 2) (bootMode : BitVec 3) (s : State) : State :=
  let t := (((s.wr F.CLK_STRAP.XSEL 0 xsel.toNat).wr F.CLK_STRAP.XDLY 0 xdly.toNat).wr F.CFG_BOOT_STAT.BOOT_MODE 0 bootMode.toNat).wr
    F.CFG_BOOT_STAT.BMBAD 0 (b2n (decide (5 ≤ bootMode.toNat)))
  { t with clk := { t.clk with strapsLatched := true } }

theorem rd_strapped (xsel : BitVec 1) (xdly : BitVec 2) (bootMode : BitVec 3) (s : State) :
    (strapped xsel xdly bootMode s).rd F.CLK_STRAP.XSEL 0 = xsel.toNat ∧
    (strapped xsel xdly bootMode s).rd F.CLK_STRAP.XDLY 0 = xdly.toNat ∧
    (strapped xsel xdly bootMode s).rd F.CFG_BOOT_STAT.BOOT_MODE 0 = bootMode.toNat ∧
    (strapped xsel xdly bootMode s).flag F.CFG_BOOT_STAT.BMBAD 0 = decide (5 ≤ bootMode.toNat) := by
  have hsel : xsel.toNat % 2 ^ F.CLK_STRAP.XSEL.width = xsel.toNat := Nat.mod_eq_of_lt xsel.isLt
  have hdly : xdly.toNat % 2 ^ F.CLK_STRAP.XDLY.width = xdly.toNat := Nat.mod_eq_of_lt xdly.isLt
  have hmode : bootMode.toNat % 2 ^ F.CFG_BOOT_STAT.BOOT_MODE.width = bootMode.toNat := Nat.mod_eq_of_lt bootMode.isLt
  simp (disch := decide) [strapped, rd_wr_same, rd_wr_other, hsel, hdly, hmode]

/-- What the start of an attempt leaves of the straps. -/
theorem straps_startAttempt (s : State) :
    (startAttempt s).rd F.CLK_STRAP.XSEL 0 = s.rd F.CLK_STRAP.XSEL 0 ∧
    (startAttempt s).rd F.CLK_STRAP.XDLY 0 = s.rd F.CLK_STRAP.XDLY 0 ∧
    (startAttempt s).rd F.CFG_BOOT_STAT.BOOT_MODE 0 = s.rd F.CFG_BOOT_STAT.BOOT_MODE 0 ∧
    (startAttempt s).flag F.CFG_BOOT_STAT.BMBAD 0 = s.flag F.CFG_BOOT_STAT.BMBAD 0 := by
  refine ⟨rd_startAttempt s ?_ ?_, rd_startAttempt s ?_ ?_, rd_startAttempt s ?_ ?_,
    congrArg (· != 0) (rd_startAttempt s ?_ ?_)⟩ <;> decide

theorem koscStable_completes {s : State} (xsel : BitVec 1) (xdly : BitVec 2) (bootMode : BitVec 3) (hstep : s.clk.step = 1)
    (hkosc : s.clk.koscOn = true) (hstraps : s.clk.strapsLatched = false) :
    Completes (.koscStable xsel xdly bootMode) s fun t =>
      t.rd F.CLK_STRAP.XSEL 0 = xsel.toNat ∧ t.rd F.CLK_STRAP.XDLY 0 = xdly.toNat ∧
      t.rd F.CFG_BOOT_STAT.BOOT_MODE 0 = bootMode.toNat ∧ t.flag F.CFG_BOOT_STAT.BMBAD 0 = decide (5 ≤ bootMode.toNat) ∧
      t.clk.strapsLatched = true ∧ t.clk.step = if s.kh.held then 1 else if xsel = 1 then 2 else 3 := by
  have hexec : exec (.koscStable xsel xdly bootMode) s = done (guarded (s.clk.step == 1 && s.clk.koscOn && !s.clk.strapsLatched) s
    fun s => if s.kh.held then strapped xsel xdly bootMode s else startAttempt (strapped xsel xdly bootMode s)) := rfl
  obtain ⟨hsel, hdly, hmode, hbad⟩ := rd_strapped xsel xdly bootMode s
  refine Completes.of_guarded hexec (by simp [hstep, hkosc, hstraps]) ?_
  cases s.kh.held with
  | true => exact ⟨hsel, hdly, hmode, hbad, rfl, hstep⟩
  | false =>
    have hone : (strapped xsel xdly bootMode s).flag F.CLK_STRAP.XSEL 0 = decide (xsel = 1) := by
      have hbit : ∀ x : BitVec 1, (x.toNat != 0) = decide (x = 1) := by decide
      rw [State.flag, hsel, hbit]
    obtain ⟨hsel', hdly', hmode', hbad'⟩ := straps_startAttempt (strapped xsel xdly bootMode s)
    refine ⟨hsel'.trans hsel, hdly'.trans hdly, hmode'.trans hmode, hbad'.trans hbad, strapsLatched_startAttempt _, ?_⟩
    refine (step_startAttempt _).trans ?_
    simp [hone]

theorem crystalDelayComplete_completes {s : State} (w : RefWindow) (h : s.clk.step = 2) :
    Completes (.crystalDelayComplete w) s fun t =>
      t.clk.step = 3 ∧
      t.rd F.CLK_STRAP.REFKIND 0 = if windowInRange w 2500 then 2 else if windowInRange w 5000 then 3 else 0 := by
  refine Completes.of_guarded rfl (beq_iff_eq.mpr h) ⟨rfl, (rd_wr_same _ _ _ _ (by decide)).trans (Nat.mod_eq_of_lt ?_)⟩
  split_ifs <;> decide

theorem referencePresent_completes {s : State} (h : s.clk.step = 3) (hkind : s.rd F.CLK_STRAP.REFKIND 0 ≠ 0) :
    Completes .referencePresent s fun t => t.clk.step = 4 :=
  Completes.of_guarded rfl (by simp [h, hkind]) rfl

/-- The state with the four root PLLs in lock and leaf 0, the root itself, aligned. -/
def rootLocked (s : State) : State := (s.wr F.CLK_ROOT_STAT.LOCK 0 0xF).wrBit F.CLK_ROOT_STAT.ALIGNED 0 0 true

theorem exec_rootPllLock (s : State) : exec .rootPllLock s =
    done (if s.clk.step = 4 then rootLocked { s with clk := { s.clk with step := 5 } }
      else if s.flag F.CLK_ROOT_STAT.RELOCK 0 then rootLocked s else s) := rfl

theorem lock_rootLocked (s : State) : (rootLocked s).rd F.CLK_ROOT_STAT.LOCK 0 = 15 := by
  rw [rootLocked, rd_wrBit_other _ _ _ _ _ _ _ (by decide), rd_wr_same _ _ _ _ (by decide)]
  rfl

theorem rootPllLock_completes {s : State} (h : s.clk.step = 4) : Completes .rootPllLock s fun t =>
    t.clk.step = 5 ∧ t.rd F.CLK_ROOT_STAT.LOCK 0 = 15 ∧ (t.rd F.CLK_ROOT_STAT.ALIGNED 0).testBit 0 = true := by
  refine Completes.of_eq ((exec_rootPllLock s).trans (congrArg done (if_pos h))) ⟨rfl, lock_rootLocked _, ?_⟩
  exact (nbit_wrBit _ _ _ _ _ _ (by decide) (by decide)).trans (if_pos rfl)

theorem rootPllLock_in_relock_completes {s : State} (h : s.clk.step ≠ 4) (hrelock : s.flag F.CLK_ROOT_STAT.RELOCK 0 = true) :
    Completes .rootPllLock s fun t => t.clk = s.clk ∧ t.rd F.CLK_ROOT_STAT.LOCK 0 = 15 :=
  Completes.of_eq ((exec_rootPllLock s).trans (congrArg done ((if_neg h).trans (if_pos hrelock)))) ⟨rfl, lock_rootLocked s⟩

/-- What a new epoch shows (R41 step 7, R48). -/
theorem rd_setEpoch (s : State) :
    (setEpoch s).flag F.CLK_ROOT_STAT.EPOCH 0 = true ∧ (setEpoch s).rd F.CLK_ROOT_STAT.LOCK 0 = 15 ∧
    (setEpoch s).rd F.CLK_ROOT_STAT.ALIGNED 0 = 15 := by
  simp (disch := decide) [setEpoch, rd_wr_same, rd_wr_other]
  decide

/-- The new epoch's values stand over the increment and over the ramps. -/
theorem leafAligned_completes {s : State} (h : s.clk.step = 5) : Completes .leafAligned s fun t =>
    t.clk.step = 7 ∧ t.clk.dtc = 0 ∧ t.clk.rootEdges = 0 ∧ t.clk.dtcHeld = false ∧ t.flag F.CLK_ROOT_STAT.EPOCH 0 = true ∧
    t.rd F.CLK_ROOT_STAT.LOCK 0 = 15 ∧ t.rd F.CLK_ROOT_STAT.ALIGNED 0 = 15 ∧ t.rd F.CLK_MON_STAT.RUN 0 = 0 := by
  refine Completes.of_guarded rfl (beq_iff_eq.mpr h) ?_
  obtain ⟨hepoch, hlock, haligned⟩ := rd_setEpoch s
  have hinc := keeps_setDtcInc (setEpoch s)
  have hramps := keeps_queueRamps (List.range 60)
  have hroot (f : Fld) (u : State) : (queueRamps (List.range 60) u).rd f 0 = u.rd f 0 := (hramps u).rd f 0 (Nat.zero_testBit _)
  have hclk (u : State) : (queueRamps (List.range 60) u).clk = u.clk := (hramps u).part .clk rfl
  dsimp only
  simp (disch := decide) only [State.flag, hroot, hclk, wr_clk, rd_wr_same, rd_wr_other, rd_upd]
  refine ⟨trivial, trivial, rfl, trivial, ?_, ?_, ?_, rfl⟩
  · exact (hinc.flag _ _ rfl).trans hepoch
  · exact (hinc.rd _ _ rfl).trans hlock
  · exact (hinc.rd _ _ rfl).trans haligned

/-! ### The root multiplier (R43–R45) -/

/-- What a written MULT does before the seal takes effect (R43). -/
def judgeMult (v : Word) (s : State) : State :=
  if isMultWrite s v then
    (if onRoot s || s.flag F.CLK_ROOT_CFG.SEALED 0 then s.on F.CLK_ROOT_STAT.REJECT 0 else startRelock (F.CLK_ROOT_CFG.MULT.of v) s)
  else s

/-- The seal, where the written value asks for it (R44). -/
def sealIf (v : Word) (s : State) : State := if F.CLK_ROOT_CFG.SEALED.of v = 1 then s.on F.CLK_ROOT_CFG.SEALED 0 else s

theorem exec_multWrite (v : Word) (s : State) : exec (.multWrite v) s = done (sealIf v (judgeMult v s)) := rfl

theorem rd_sealIf (v : Word) (s : State) {f : Fld} (h : F.CLK_ROOT_CFG.SEALED.apart f 0 0) : (sealIf v s).rd f 0 = s.rd f 0 := by
  unfold sealIf
  split
  · exact rd_on_other _ _ _ _ _ h
  · rfl

theorem flag_sealIf (v : Word) (s : State) {f : Fld} (h : F.CLK_ROOT_CFG.SEALED.apart f 0 0) : (sealIf v s).flag f 0 = s.flag f 0 :=
  congrArg (· != 0) (rd_sealIf v s h)

theorem clk_sealIf (v : Word) (s : State) : (sealIf v s).clk = s.clk := by
  unfold sealIf
  split
  · rfl
  · rfl

/-- What a relock shows (R43). -/
theorem rd_startRelock (m : Nat) (s : State) :
    (startRelock m s).rd F.CLK_ROOT_CFG.MULT 0 = m % 2 ^ F.CLK_ROOT_CFG.MULT.width ∧
    (startRelock m s).flag F.CLK_ROOT_STAT.RELOCK 0 = true ∧ (startRelock m s).flag F.CLK_ROOT_STAT.EPOCH 0 = false ∧
    (startRelock m s).rd F.CLK_ROOT_STAT.LOCK 0 = 0 := by
  have hinc := keeps_setDtcInc
  unfold startRelock
  dsimp only
  refine ⟨?_, ?_, ?_, ?_⟩
  · rw [rd_upd, (hinc _).rd _ _ rfl]
    simp (disch := decide) [rd_wr_same, rd_wr_other]
  · rw [flag_upd, (hinc _).flag _ _ rfl]
    simp (disch := decide)
  · rw [flag_upd, (hinc _).flag _ _ rfl]
    simp (disch := decide)
  · rw [rd_upd, (hinc _).rd _ _ rfl]
    simp (disch := decide) [rd_wr_same, rd_wr_other]

section
variable {s : State} {v : Word} (hmult : isMultWrite s v = true)
include hmult

/-- A write of MULT is taken up where nothing stands on the root and the root is not sealed (R43). -/
theorem multWrite_relocks (hroot : onRoot s = false) (hseal : s.flag F.CLK_ROOT_CFG.SEALED 0 = false) :
    Completes (.multWrite v) s fun t =>
      t.rd F.CLK_ROOT_CFG.MULT 0 = F.CLK_ROOT_CFG.MULT.of v ∧ t.flag F.CLK_ROOT_STAT.RELOCK 0 = true ∧
      t.flag F.CLK_ROOT_STAT.EPOCH 0 = false ∧ t.rd F.CLK_ROOT_STAT.LOCK 0 = 0 ∧ t.clk.dtcHeld = true ∧ t.clk.dtc = s.clk.dtc := by
  have hwrite : exec (.multWrite v) s = done (sealIf v (startRelock (F.CLK_ROOT_CFG.MULT.of v) s)) := by
    rw [exec_multWrite, judgeMult, if_pos hmult, hroot, hseal]
    rfl
  obtain ⟨hm, hrelock, hepoch, hlock⟩ := rd_startRelock (F.CLK_ROOT_CFG.MULT.of v) s
  refine Completes.of_eq hwrite ⟨?_, ?_, ?_, ?_, ?_, ?_⟩
  · rw [rd_sealIf _ _ (by decide), hm]
    exact getF_mod _ _ _
  · exact (flag_sealIf _ _ (by decide)).trans hrelock
  · exact (flag_sealIf _ _ (by decide)).trans hepoch
  · exact (rd_sealIf _ _ (by decide)).trans hlock
  · rw [clk_sealIf]
    rfl
  · rw [clk_sealIf]
    rfl

/-- Elsewhere it is rejected, and the root runs on (R43, R44). -/
theorem multWrite_rejects (hno : onRoot s = true ∨ s.flag F.CLK_ROOT_CFG.SEALED 0 = true) :
    Completes (.multWrite v) s fun t =>
      t.rd F.CLK_ROOT_CFG.MULT 0 = s.rd F.CLK_ROOT_CFG.MULT 0 ∧ t.flag F.CLK_ROOT_STAT.REJECT 0 = true ∧ t.clk = s.clk := by
  have hwrite : exec (.multWrite v) s = done (sealIf v (s.on F.CLK_ROOT_STAT.REJECT 0)) := by
    rw [exec_multWrite, judgeMult, if_pos hmult, if_pos (Bool.or_eq_true_iff.mpr hno)]
  refine Completes.of_eq hwrite ⟨?_, ?_, ?_⟩
  · rw [rd_sealIf _ _ (by decide), rd_on_other _ _ _ _ _ (by decide)]
  · rw [flag_sealIf _ _ (by decide), flag_on_same _ _ _ (by decide) (by decide)]
  · rw [clk_sealIf]
    rfl

end

theorem rootSeal_completes (s : State) : Completes .rootSeal s fun t =>
    t.flag F.CLK_ROOT_CFG.SEALED 0 = true ∧ t.rd F.CLK_ROOT_CFG.MULT 0 = s.rd F.CLK_ROOT_CFG.MULT 0 ∧ t.clk = s.clk :=
  Completes.of_eq rfl ⟨flag_on_same s _ 0 (by decide) (by decide), rd_on_other s _ _ 0 0 (by decide), rfl⟩

theorem relockComplete_completes {s : State} (h : s.flag F.CLK_ROOT_STAT.RELOCK 0 = true) : Completes .relockComplete s fun t =>
    t.flag F.CLK_ROOT_STAT.RELOCK 0 = false ∧ t.flag F.CLK_ROOT_STAT.EPOCH 0 = true ∧ t.rd F.CLK_ROOT_STAT.ALIGNED 0 = 15 ∧
    t.clk.dtcHeld = false ∧ t.clk.dtc = s.clk.dtc ∧ t.clk.rootEdges = 0 := by
  refine Completes.of_guarded rfl h ?_
  obtain ⟨hepoch, _, haligned⟩ := rd_setEpoch s
  refine ⟨?_, ?_, ?_, rfl, rfl, rfl⟩
  · rw [flag_upd, flag_off_same _ _ _ (by decide)]
  · rw [flag_upd, flag_off_other _ _ _ _ _ (by decide), hepoch]
  · rw [rd_upd, rd_off_other _ _ _ _ _ (by decide), haligned]

/-- Settles O1: each event of the start-up acts in its own step, and the ramps, the increment and the seal leave what it set alone. -/
theorem startupEventsAndTheMultiplierSetTheRoot : Obligations.StartupEventsAndTheMultiplierSetTheRoot := by
  unfold Obligations.StartupEventsAndTheMultiplierSetTheRoot
  exact ⟨fun _ khLow h => suppliesGood_completes khLow h, fun _ xsel xdly mode h1 h2 h3 => koscStable_completes xsel xdly mode h1 h2 h3,
    fun _ w h => crystalDelayComplete_completes w h, fun _ h hkind => referencePresent_completes h hkind,
    fun _ h => rootPllLock_completes h, fun _ h hrelock => rootPllLock_in_relock_completes h hrelock, fun _ h => leafAligned_completes h,
    fun _ _ hmult hroot hseal => multWrite_relocks hmult hroot hseal, fun _ _ hmult hno => multWrite_rejects hmult hno,
    rootSeal_completes, fun _ h => relockComplete_completes h⟩

end Sys2Proof.Machine

/-! ### Dividers (R44, R49, R50) -/

namespace Sys2Proof.Machine
open Sys2Proof

/-- The register of a divider. -/
abbrev divWord (s : State) (d : ClkDiv) : Word := s.reg (divReg d).1 (divReg d).2.1

/-- The state with the register of a divider replaced. -/
abbrev setDivWord (d : ClkDiv) (w : Word) (s : State) : State := s.setReg (divReg d).1 (divReg d).2.1 w

theorem divNow_eq (s : State) (d : ClkDiv) : divNow s d = getF (divWord s d) 16 11 := rfl

theorem divNext_eq (s : State) (d : ClkDiv) : divNext s d = getF (divWord s d) 0 11 := rfl

theorem divOn_eq (s : State) (d : ClkDiv) : divOn s d = (getF (divWord s d) 31 1 != 0) := by
  have hbit : (getF (divWord s d) 31 1).testBit 0 = (divWord s d).toNat.testBit 31 := getF_testBit (divWord s d) 31 1 0
  have hlt : getF (divWord s d) 31 1 < 2 := getF_lt _ 31 1
  change (divWord s d).toNat.testBit 31 = _
  rw [← hbit]
  generalize getF (divWord s d) 31 1 = x at hlt
  interval_cases x
  · rfl
  · rfl

theorem divWord_setDivWord (d : ClkDiv) (w : Word) (s : State) : divWord (setDivWord d w s) d = w := reg_setReg_same _ _ _ _

theorem divReg_ne_rootCfg (d : ClkDiv) : (divReg d).1 ≠ .CLK_ROOT_CFG := by cases d <;> exact RegName.noConfusion

theorem divEnable_eq (d : ClkDiv) (en : Bool) (s : State) : divEnable d en s =
    if en then (setDivWord d (setF (divWord s d) 31 1 (b2n en)) s).on F.CLK_ROOT_CFG.SEALED 0
    else setDivWord d (setF (divWord s d) 31 1 (b2n en)) s := rfl

theorem divWord_divEnable (d : ClkDiv) (en : Bool) (s : State) :
    divWord (divEnable d en s) d = setF (divWord s d) 31 1 (b2n en) := by
  rw [divEnable_eq]
  cases en with
  | false => exact divWord_setDivWord d _ s
  | true => exact (reg_wr_ne _ _ _ _ fun e => divReg_ne_rootCfg d e.1).trans (divWord_setDivWord d _ s)

theorem clk_divEnable (d : ClkDiv) (en : Bool) (s : State) : (divEnable d en s).clk = s.clk := (keeps_divEnable d en s).part .clk rfl

/-- The first divider that is enabled seals the root (R44, R49). -/
theorem sealed_divEnable (d : ClkDiv) (s : State) : (divEnable d true s).flag F.CLK_ROOT_CFG.SEALED 0 = true :=
  flag_on_same _ _ _ (by decide) (by decide)

theorem dividerEnable_completes (s : State) (d : ClkDiv) (en : Bool) : Completes (.dividerEnable d en) s fun t =>
    divOn t d = en ∧ (en = true → t.flag F.CLK_ROOT_CFG.SEALED 0 = true) ∧
    divNow t d = divNow s d ∧ divNext t d = divNext s d ∧ t.clk = s.clk := by
  refine Completes.of_eq (t := divEnable d en s) rfl ⟨?_, ?_, ?_, ?_, clk_divEnable d en s⟩
  · rw [divOn_eq, divWord_divEnable, getF_setF_same _ _ _ _ (by decide), pow_one, b2n_mod_two, b2n_bne_zero]
  · rintro rfl
    exact sealed_divEnable d s
  · rw [divNow_eq, divWord_divEnable, getF_setF_other _ _ _ _ _ _ (by decide), divNow_eq]
  · rw [divNext_eq, divWord_divEnable, getF_setF_other _ _ _ _ _ _ (by decide), divNext_eq]

/-! ### Committed divisors (R50) -/

/-- The state once the changes `due` have taken effect. -/
def dueApplied (due : List (ClkDiv × Nat × Nat)) (s : State) : State :=
  let t := due.foldl (fun t e => applyDivisor e.1 e.2.1 t) s
  { t with clk := { t.clk with committed := t.clk.committed.filter fun e => !due.contains e } }

theorem exec_divisorChange (n : Nat) (s : State) : exec (.divisorChange n) s =
    done (guarded (!(s.clk.committed.filter fun e => changeEdge s e == n).isEmpty) s
      (dueApplied (s.clk.committed.filter fun e => changeEdge s e == n))) := rfl

section
variable {s : State} {d : ClkDiv} {v c n : Nat} (hone : s.clk.committed = [(d, v, c)])
include hone

theorem divisorChange_at_its_edge (hv : v < 2048) (hn : n = (c / Nat.lcm (divNow s d) v + 1) * Nat.lcm (divNow s d) v) :
    Completes (.divisorChange n) s fun t =>
      divNow t d = v ∧ divNext t d = divNext s d ∧ divOn t d = divOn s d ∧ t.clk.committed = [] := by
  have hedge : (changeEdge s (d, v, c) == n) = true := beq_iff_eq.mpr hn.symm
  have hdue : (s.clk.committed.filter fun e => changeEdge s e == n) = [(d, v, c)] := by
    rw [hone, List.filter_singleton, hedge, cond_true]
  refine Completes.of_guarded (exec_divisorChange n s) (by rw [hdue]; rfl) ?_
  have hword : divWord (dueApplied [(d, v, c)] s) d = setF (divWord s d) 16 11 v := divWord_setDivWord d _ s
  rw [hdue, divNow_eq, divNext_eq, divNext_eq, divOn_eq, divOn_eq, hword, getF_setF_same _ _ _ _ (by decide), Nat.mod_eq_of_lt (b := 2 ^ 11) hv,
    getF_setF_other _ _ _ _ _ _ (by decide), getF_setF_other _ _ _ _ _ _ (by decide)]
  refine ⟨rfl, rfl, rfl, ?_⟩
  change (s.clk.committed.filter fun e => !([(d, v, c)].contains e)) = []
  rw [hone]
  simp

theorem divisorChange_elsewhere (hn : n ≠ (c / Nat.lcm (divNow s d) v + 1) * Nat.lcm (divNow s d) v) :
    Completes (.divisorChange n) s fun t => t = s := by
  have hedge : (changeEdge s (d, v, c) == n) = false := beq_eq_false_iff_ne.mpr hn.symm
  have hdue : (s.clk.committed.filter fun e => changeEdge s e == n) = [] := by
    rw [hone, List.filter_singleton, hedge, cond_false]
  refine Completes.of_eq (exec_divisorChange n s) (guarded_false ?_)
  rw [hdue]
  rfl

end

end Sys2Proof.Machine

/-! ### Source switches (R54–R56) -/

namespace Sys2Proof.Machine
open Sys2Proof

/-- The source select, BUSY and FORCED of a switch lie in their words, apart from each other. -/
theorem swFields_apart (d : SwDomain) :
    ((swFields d).1.lo + (swFields d).1.width ≤ 32 ∧ 0 < (swFields d).1.width) ∧
    ((swFields d).2.1.lo + (swFields d).2.1.width ≤ 32 ∧ 0 < (swFields d).2.1.width) ∧
    ((swFields d).2.2.lo + (swFields d).2.2.width ≤ 32 ∧ 0 < (swFields d).2.2.width) ∧
    (swFields d).2.1.apart (swFields d).1 0 0 ∧ (swFields d).2.2.apart (swFields d).2.1 0 0 := by
  cases d <;> decide

theorem swHeld_setSwHeld (d : SwDomain) (h : Option Bool) (s : State) : swHeld (setSwHeld d h s) d = h := by
  cases d with
  | kck => rfl
  | cck => rfl

/-- A write of SRC during a switch waits (R56). -/
theorem srcWrite_of_busy {d : SwDomain} {s : State} (root : Bool) (h : s.flag (swFields d).2.1 0 = true) :
    srcWrite d root s = setSwHeld d (some root) s := if_pos h

/-- A write that changes SRC starts the switch (R54). -/
theorem srcWrite_of_change {d : SwDomain} {s : State} {root : Bool} (h : s.flag (swFields d).2.1 0 = false)
    (hne : s.rd (swFields d).1 0 ≠ b2n root) : srcWrite d root s = (s.wr (swFields d).1 0 (b2n root)).on (swFields d).2.1 0 :=
  (if_neg (Bool.eq_false_iff.mp h)).trans (if_neg hne)

theorem sourceSwitch_starts {s : State} {d : SwDomain} {root : Bool} (h : s.flag (swFields d).2.1 0 = false)
    (hne : s.rd (swFields d).1 0 ≠ b2n root) : Completes (.sourceSwitch d root) s fun t =>
      t.flag (swFields d).1 0 = root ∧ t.flag (swFields d).2.1 0 = true ∧ t.clk = s.clk := by
  obtain ⟨⟨hsrc, hsrc'⟩, ⟨hbusy, hbusy'⟩, _, hapart, _⟩ := swFields_apart d
  refine Completes.of_eq (congrArg done (srcWrite_of_change h hne)) ⟨?_, flag_on_same _ _ _ hbusy hbusy', rfl⟩
  rw [flag_on_other _ _ _ _ _ hapart, flag_wr_b2n _ _ _ _ hsrc hsrc']

theorem sourceSwitch_waits {s : State} {d : SwDomain} (root : Bool) (h : s.flag (swFields d).2.1 0 = true) :
    Completes (.sourceSwitch d root) s fun t =>
      swHeld t d = some root ∧ t.rd (swFields d).1 0 = s.rd (swFields d).1 0 :=
  Completes.of_eq (congrArg done (srcWrite_of_busy root h))
    ⟨swHeld_setSwHeld d _ s, (keeps_setSwHeld d (some root) s).rd _ _ (Nat.zero_testBit _)⟩

/-- The end of a switch without a write that waits (R54). -/
theorem exec_switchComplete {s : State} {d : SwDomain} (h : s.flag (swFields d).2.1 0 = true) (hheld : swHeld s d = none) :
    exec (.switchComplete d) s = done (setSwHeld d none ((setDriver d (s.flag (swFields d).1 0) s).off (swFields d).2.1 0)) := by
  refine (congrArg done (guarded_true h)).trans ?_
  dsimp only
  rw [hheld]
  rfl

theorem kckSwitchComplete_completes {s : State} (h : s.flag F.CLK_SW_STAT.BUSY_KCK 0 = true) (hheld : s.clk.kckHeld = none) :
    Completes (.switchComplete .kck) s fun t =>
      t.clk.kckRoot = s.flag F.CLK_KCK_CTL.SRC 0 ∧ t.flag F.CLK_SW_STAT.BUSY_KCK 0 = false ∧ t.clk.cckRoot = s.clk.cckRoot :=
  Completes.of_eq (exec_switchComplete (d := .kck) h hheld) ⟨rfl, flag_off_same _ _ _ (by decide), rfl⟩

theorem cckSwitchComplete_completes {s : State} (h : s.flag F.CLK_SW_STAT.BUSY_CCK 0 = true) (hheld : s.clk.cckHeld = none) :
    Completes (.switchComplete .cck) s fun t =>
      t.clk.cckRoot = s.flag F.CLK_CCK_CTL.SRC 0 ∧ t.flag F.CLK_SW_STAT.BUSY_CCK 0 = false ∧ t.clk.kckRoot = s.clk.kckRoot :=
  Completes.of_eq (exec_switchComplete (d := .cck) h hheld) ⟨rfl, flag_off_same _ _ _ (by decide), rfl⟩

/-- A switch that hangs is forced, and goes on (R55). -/
theorem forcedSwitch_completes {s : State} {d : SwDomain} (h : s.flag (swFields d).2.1 0 = true) :
    Completes (.forcedSwitch d) s fun t =>
      t.flag (swFields d).2.2 0 = true ∧ t.flag (swFields d).2.1 0 = true ∧ t.clk = s.clk := by
  obtain ⟨_, _, ⟨hforced, hforced'⟩, _, hapart⟩ := swFields_apart d
  refine Completes.of_guarded (f := fun s => s.on (swFields d).2.2 0) rfl h ⟨flag_on_same _ _ _ hforced hforced', ?_, rfl⟩
  exact (flag_on_other _ _ _ _ _ hapart).trans h

/-- Settles O2: a divisor changes at its one edge because the lone committed change is due there alone; a switch by the two branches of a
write of SRC. -/
theorem dividersAndSwitchesChangeAsCommitted : Obligations.DividersAndSwitchesChangeAsCommitted := by
  unfold Obligations.DividersAndSwitchesChangeAsCommitted
  refine ⟨dividerEnable_completes, ?_, fun _ _ _ h hne => sourceSwitch_starts h hne, fun _ _ root h => sourceSwitch_waits root h,
    fun _ h hheld => kckSwitchComplete_completes h hheld, fun _ h hheld => cckSwitchComplete_completes h hheld,
    fun _ _ h => forcedSwitch_completes h⟩
  exact fun _ _ _ _ _ hone hv => ⟨divisorChange_at_its_edge hone hv, divisorChange_elsewhere hone⟩

end Sys2Proof.Machine

/-! ### Monitor windows (R57–R59, R46) -/

namespace Sys2Proof.Machine
open Sys2Proof

/-- The state with the phase errors of a window shown (R71). -/
def errsShown (errs : List (BitVec 8)) (s : State) : State :=
  ((s.wr F.CLK_ALIGN_ERR.ERR_L1 0 (errs.getD 0 0).toNat).wr F.CLK_ALIGN_ERR.ERR_L2 0 (errs.getD 1 0).toNat).wr
    F.CLK_ALIGN_ERR.ERR_L3 0 (errs.getD 2 0).toNat

/-- Beside the phase errors a window shows its locks in LOCK, ALIGNED and LOCKLOSS_SEEN, and in no other field. -/
theorem rd_alignWindow (errs : List (BitVec 8)) (lock : BitVec 4) (s : State) {f : Fld} (hlock : F.CLK_ROOT_STAT.LOCK.apart f 0 0)
    (haligned : F.CLK_ROOT_STAT.ALIGNED.apart f 0 0) (hseen : F.CLK_MON_STAT.LOCKLOSS_SEEN.apart f 0 0) :
    (alignWindow errs lock s).rd f 0 = (errsShown errs s).rd f 0 := by
  unfold alignWindow errsShown
  dsimp only
  split
  · rfl
  · split
    · rw [rd_on_other _ _ _ _ _ hseen, rd_upd, rd_wr_other _ _ _ _ _ _ haligned, rd_wr_other _ _ _ _ _ _ hlock]
    · rw [rd_upd, rd_wr_other _ _ _ _ _ _ haligned, rd_wr_other _ _ _ _ _ _ hlock]

/-- What a window shows, in range or not. -/
def windowShown (w : RefWindow) (e1 e2 e3 : BitVec 8) (lock : BitVec 4) (s : State) : State :=
  alignWindow [e1, e2, e3] lock (showFreq w s)

/-- One more window out of range, after the windows that `s` counts (R58). -/
def runLengthened (w : RefWindow) (run : Nat) (s : State) : State :=
  let t := (s.wr F.CLK_MON_STAT.RUN 0 (min 16 (run + 1))).on F.CLK_MON_STAT.OOR_SEEN 0
  { t with clk := { t.clk with refMissing := decide (w.edges < 2) } }

/-- The state after a window out of range, before the actions of the first of a run. -/
def windowMissed (w : RefWindow) (e1 e2 e3 : BitVec 8) (lock : BitVec 4) (s : State) : State :=
  runLengthened w (s.rd F.CLK_MON_STAT.RUN 0) (windowShown w e1 e2 e3 lock s)

theorem exec_monitorWindow {s : State} (w : RefWindow) (e1 e2 e3 : BitVec 8) (lock : BitVec 4) (h : 7 ≤ s.clk.step) :
    exec (.monitorWindow w e1 e2 e3 lock) s = done (
      if windowInRange w (nominalRef s) then (windowShown w e1 e2 e3 lock s).wr F.CLK_MON_STAT.RUN 0 0
      else if s.rd F.CLK_MON_STAT.RUN 0 = 0 then firstOutOfRange (windowMissed w e1 e2 e3 lock s)
      else windowMissed w e1 e2 e3 lock s) :=
  congrArg done (guarded_true (decide_eq_true h))

section
variable (w : RefWindow) (e1 e2 e3 : BitVec 8) (lock : BitVec 4) (s : State)

theorem keeps_windowShown : Keeps 0xac 0x11 s (windowShown w e1 e2 e3 lock s) :=
  (keeps_alignWindow _ _ _).after rfl rfl ((keeps_showFreq w s).mono rfl rfl)

theorem errs_windowShown :
    (windowShown w e1 e2 e3 lock s).rd F.CLK_ALIGN_ERR.ERR_L1 0 = e1.toNat ∧
    (windowShown w e1 e2 e3 lock s).rd F.CLK_ALIGN_ERR.ERR_L2 0 = e2.toNat ∧
    (windowShown w e1 e2 e3 lock s).rd F.CLK_ALIGN_ERR.ERR_L3 0 = e3.toNat := by
  have hbyte (e : BitVec 8) : e.toNat % 256 = e.toNat := Nat.mod_eq_of_lt e.isLt
  unfold windowShown
  refine ⟨?_, ?_, ?_⟩ <;> rw [rd_alignWindow _ _ _ (by decide) (by decide) (by decide), errsShown]
  · rw [rd_wr_other _ _ _ _ _ _ (by decide), rd_wr_other _ _ _ _ _ _ (by decide), rd_wr_same _ _ _ _ (by decide)]
    exact hbyte e1
  · rw [rd_wr_other _ _ _ _ _ _ (by decide), rd_wr_same _ _ _ _ (by decide)]
    exact hbyte e2
  · rw [rd_wr_same _ _ _ _ (by decide)]
    exact hbyte e3

theorem oorSeen_windowShown :
    (windowShown w e1 e2 e3 lock s).rd F.CLK_MON_STAT.OOR_SEEN 0 = s.rd F.CLK_MON_STAT.OOR_SEEN 0 := by
  rw [windowShown, rd_alignWindow _ _ _ (by decide) (by decide) (by decide), errsShown, rd_wr_other _ _ _ _ _ _ (by decide),
    rd_wr_other _ _ _ _ _ _ (by decide), rd_wr_other _ _ _ _ _ _ (by decide), (keeps_showFreq w s).rd _ _ rfl]

variable {s}

theorem monitorWindow_in_range (h : 7 ≤ s.clk.step) (hw : windowInRange w (nominalRef s) = true) :
    Completes (.monitorWindow w e1 e2 e3 lock) s fun t =>
      t.rd F.CLK_MON_STAT.RUN 0 = 0 ∧ t.rd F.CLK_MON_STAT.OOR_SEEN 0 = s.rd F.CLK_MON_STAT.OOR_SEEN 0 ∧
      t.rd F.CLK_ALIGN_ERR.ERR_L1 0 = e1.toNat ∧ t.rd F.CLK_ALIGN_ERR.ERR_L2 0 = e2.toNat ∧ t.rd F.CLK_ALIGN_ERR.ERR_L3 0 = e3.toNat := by
  refine Completes.of_eq ((exec_monitorWindow w e1 e2 e3 lock h).trans (congrArg done (if_pos hw))) ?_
  have hseen := oorSeen_windowShown w e1 e2 e3 lock s
  obtain ⟨h1, h2, h3⟩ := errs_windowShown w e1 e2 e3 lock s
  simp (disch := decide) [rd_wr_same, rd_wr_other, hseen, h1, h2, h3]

end

/-! #### The first window of a run out of range (R59) -/

/-- The switch of KCK to KOSC that AUTOSW asks for (R59). -/
def autoSwitched (s : State) : State :=
  if s.flag F.CLK_MON_CTL.AUTOSW 0 then
    (if s.flag F.CLK_KCK_CTL.SRC 0 || s.clk.kckHeld == some true then (srcWrite .kck false s).on F.CLK_MON_STAT.AUTOSW_DONE 0 else s)
  else s

theorem firstOutOfRange_eq (s : State) : firstOutOfRange s =
    if (autoSwitched s).flag F.CLK_MON_CTL.EVT_EN 0 then raise 0 (autoSwitched s) else autoSwitched s := rfl

theorem keeps_autoSwitched (s : State) : Keeps 0x720 0x10 s (autoSwitched s) := by
  unfold autoSwitched
  split
  · split
    · exact (keeps_on _ _ _).after rfl rfl ((keeps_srcWrite .kck false s).mono rfl rfl)
    · exact Keeps.refl s
  · exact Keeps.refl s

theorem monStat_autoSwitched (s : State) {f : Fld} (hf : f.reg = .CLK_MON_STAT) (h : F.CLK_MON_STAT.AUTOSW_DONE.apart f 0 0) :
    (autoSwitched s).rd f 0 = s.rd f 0 := by
  have hsrc : (srcWrite .kck false s).rd f 0 = s.rd f 0 := (keeps_srcWrite .kck false s).rd f 0 (by rw [hf]; rfl)
  unfold autoSwitched
  split
  · split
    · rw [rd_on_other _ _ _ _ _ h, hsrc]
    · rfl
  · rfl

/-- A switch to KOSC begins where KCK is on the root and no switch is in progress. -/
theorem autoSwitched_switches {s : State} (hauto : s.flag F.CLK_MON_CTL.AUTOSW 0 = true) (hsrc : s.flag F.CLK_KCK_CTL.SRC 0 = true)
    (hbusy : s.flag F.CLK_SW_STAT.BUSY_KCK 0 = false) :
    (autoSwitched s).flag F.CLK_KCK_CTL.SRC 0 = false ∧ (autoSwitched s).flag F.CLK_MON_STAT.AUTOSW_DONE 0 = true := by
  have hne : s.rd F.CLK_KCK_CTL.SRC 0 ≠ b2n false := bne_iff_ne.mp hsrc
  have hwrite : autoSwitched s = ((s.wr F.CLK_KCK_CTL.SRC 0 (b2n false)).on F.CLK_SW_STAT.BUSY_KCK 0).on F.CLK_MON_STAT.AUTOSW_DONE 0 := by
    rw [autoSwitched, if_pos hauto, hsrc, srcWrite_of_change (d := .kck) hbusy hne]
    rfl
  rw [hwrite]
  simp (disch := decide) [-b2n_false]

theorem keeps_firstOutOfRange_autoSwitched (s : State) :
    Keeps 0x80000000000000000000000000000000000000000000000000000000000000000000000 0x21 (autoSwitched s) (firstOutOfRange s) := by
  rw [firstOutOfRange_eq]
  split
  · exact keeps_raise 0 _
  · exact Keeps.refl _

theorem src_evaluate (s : State) (n : Nat) : (evaluate s).src n = s.src n := by
  unfold evaluate
  dsimp only
  rw [State.src, (keeps_wakeOffered _ _).part .evc rfl]
  rfl

/-- An enabled source that is idle and whose delivery is not held becomes pending when it is raised (R412, R415). -/
theorem src_raise_of_inactive {s : State} {n : Nat} (hen : s.flag F.EVC_SRC.EN n = true) (hst : (s.src n).st = .inactive)
    (hheld : heldFor s n = false) : ((raise n s).src n).st = .pending := by
  unfold raise
  rw [if_pos hen]
  dsimp only
  rw [hst]
  dsimp only
  rw [if_neg (Bool.eq_false_iff.mp hheld), src_evaluate, State.src, State.setSrc, sget_sset_self]

section
variable (w : RefWindow) (e1 e2 e3 : BitVec 8) (lock : BitVec 4) {s : State}

theorem keeps_clk (s : State) (k : ClkState) : Keeps 0 0x10 s { s with clk := k } :=
  Keeps.store rfl rfl id id id fun p hp => by
    cases p with
    | clk => exact absurd hp (by decide)
    | _ => rfl

theorem keeps_windowMissed : Keeps 0xac 0x11 s (windowMissed w e1 e2 e3 lock s) := by
  refine (keeps_clk _ _).after rfl rfl ((keeps_on _ _ _).after rfl rfl ((keeps_wr _ _ _ _).after rfl rfl ?_))
  exact keeps_windowShown w e1 e2 e3 lock s

theorem rd_windowMissed :
    (windowMissed w e1 e2 e3 lock s).rd F.CLK_MON_STAT.RUN 0 = min 16 (s.rd F.CLK_MON_STAT.RUN 0 + 1) ∧
    (windowMissed w e1 e2 e3 lock s).flag F.CLK_MON_STAT.OOR_SEEN 0 = true := by
  have hlt : min 16 (s.rd F.CLK_MON_STAT.RUN 0 + 1) < 2 ^ 5 := by omega
  have hmod : min 16 (s.rd F.CLK_MON_STAT.RUN 0 + 1) % 2 ^ F.CLK_MON_STAT.RUN.width = _ := Nat.mod_eq_of_lt hlt
  unfold windowMissed runLengthened
  simp (disch := decide) only [rd_upd, flag_upd, rd_on_other, rd_wr_same, flag_on_same, hmod, and_self]

theorem monitorWindow_out_of_range (h : 7 ≤ s.clk.step) (hw : windowInRange w (nominalRef s) = false) :
    Completes (.monitorWindow w e1 e2 e3 lock) s fun t =>
      t.rd F.CLK_MON_STAT.RUN 0 = min 16 (s.rd F.CLK_MON_STAT.RUN 0 + 1) ∧ t.flag F.CLK_MON_STAT.OOR_SEEN 0 = true ∧
      (s.rd F.CLK_MON_STAT.RUN 0 = 0 → s.flag F.CLK_MON_CTL.AUTOSW 0 = true → s.flag F.CLK_KCK_CTL.SRC 0 = true →
        s.flag F.CLK_SW_STAT.BUSY_KCK 0 = false → s.clk.kckHeld = none →
        t.flag F.CLK_KCK_CTL.SRC 0 = false ∧ t.flag F.CLK_MON_STAT.AUTOSW_DONE 0 = true) ∧
      (s.rd F.CLK_MON_STAT.RUN 0 = 0 → s.flag F.CLK_MON_CTL.EVT_EN 0 = true → s.flag F.EVC_SRC.EN 0 = true →
        (s.src 0).st = .inactive → heldFor s 0 = false → (t.src 0).st = .pending) := by
  have hmissed := keeps_windowMissed w e1 e2 e3 lock (s := s)
  obtain ⟨hrun, hseen⟩ := rd_windowMissed w e1 e2 e3 lock (s := s)
  have hexec := (exec_monitorWindow w e1 e2 e3 lock h).trans (congrArg done (if_neg (Bool.eq_false_iff.mp hw)))
  by_cases h0 : s.rd F.CLK_MON_STAT.RUN 0 = 0
  · refine Completes.of_eq (hexec.trans (congrArg done (if_pos h0))) ?_
    have hevent := keeps_firstOutOfRange_autoSwitched (windowMissed w e1 e2 e3 lock s)
    have hswitch := (keeps_autoSwitched _).after (R := 0x7ac) (P := 0x11) rfl rfl (hmissed.mono rfl rfl)
    refine ⟨?_, ?_, fun _ hauto hsrc hbusy _ => ?_, fun _ hev hen hst hheld => ?_⟩
    · rw [hevent.rd _ _ rfl, monStat_autoSwitched _ rfl (by decide), hrun]
    · rw [hevent.flag _ _ rfl, State.flag, monStat_autoSwitched _ rfl (by decide), ← State.flag, hseen]
    · rw [hevent.flag _ _ rfl, hevent.flag _ _ rfl]
      exact autoSwitched_switches ((hmissed.flag _ _ rfl).trans hauto) ((hmissed.flag _ _ rfl).trans hsrc)
        ((hmissed.flag _ _ rfl).trans hbusy)
    · have hevc : (autoSwitched (windowMissed w e1 e2 e3 lock s)).evc = s.evc := hswitch.part .evc rfl
      rw [firstOutOfRange_eq, if_pos ((hswitch.flag _ _ rfl).trans hev)]
      refine src_raise_of_inactive ((hswitch.flag _ _ rfl).trans hen) ?_ ?_
      · rw [State.src, hevc]
        exact hst
      · rw [heldFor, hevc, hswitch.rd _ _ rfl]
        exact hheld
  · exact Completes.of_eq (hexec.trans (congrArg done (if_neg h0))) ⟨hrun, hseen, fun e => absurd e h0, fun e => absurd e h0⟩

end

end Sys2Proof.Machine

/-! ### Lane references and the DTC (R63, R66) -/

namespace Sys2Proof.Machine
open Sys2Proof

theorem laneReferenceWindow_completes {s : State} (n : Fin 8) (w : RefWindow) (h : 7 ≤ s.clk.step) :
    Completes (.laneReferenceWindow n w) s fun t =>
      (windowInRange w 10000 = true →
        sget 0 t.clk.lrefIn n = min 16 (sget 0 s.clk.lrefIn n + 1) ∧ sget 0 t.clk.lrefOut n = 0) ∧
      (windowInRange w 10000 = false →
        sget 0 t.clk.lrefIn n = 0 ∧ sget 0 t.clk.lrefOut n = min 4 (sget 0 s.clk.lrefOut n + 1)) ∧
      ∀ k : Nat, k ≠ n → sget 0 t.clk.lrefIn k = sget 0 s.clk.lrefIn k ∧ sget 0 t.clk.lrefOut k = sget 0 s.clk.lrefOut k := by
  refine Completes.of_guarded rfl (decide_eq_true h) ?_
  dsimp only
  refine ⟨fun hw => ?_, fun hw => ?_, fun k hk => ⟨sget_sset_ne _ _ _ _ hk, sget_sset_ne _ _ _ _ hk⟩⟩
  · simp [hw]
  · simp [hw]

/-- A head that waits for its port's reference starts training (R63, R236). -/
def headStarts (h : Nat) (t : State) : State := if t.rd F.LNK_HSTAT.CTLST h = 1 then setLtssm h 0 (setCtl h 2 t) else t

theorem keeps_headStarts (h : Nat) (t : State) : Keeps 0x8000000000000000000000000 0 t (headStarts h t) := by
  unfold headStarts
  split
  · exact (keeps_setLtssm _ _ _).after rfl rfl (keeps_setCtl _ _ _)
  · exact Keeps.refl t

theorem laneReferencePresent_completes {s : State} {n : Fin 8} (hin : sget 0 s.clk.lrefIn n = 16) (hpresent : lrefPresent s n = false) :
    Completes (.laneReferencePresent n) s fun t => lrefPresent t n = true ∧ t.clk = s.clk := by
  let shown := s.wrBit F.CLK_LREF_STAT.PRESENT 0 n true
  have hexec : exec (.laneReferencePresent n) s =
      done (headStarts (2 * n.val + 1) (headStarts (2 * n.val) (pllsFollow n shown))) :=
    congrArg done (guarded_true (by simp [hin, hpresent]))
  have htail : Keeps 0x8000000000000000000000000 0x1000 shown (headStarts (2 * n.val + 1) (headStarts (2 * n.val) (pllsFollow n shown))) :=
    (keeps_headStarts _ _).after rfl rfl ((keeps_headStarts _ _).after rfl rfl ((keeps_pllsFollow n shown).mono rfl rfl))
  refine Completes.of_eq hexec ⟨?_, htail.part .clk rfl⟩
  rw [lrefPresent, htail.rd _ _ rfl]
  exact (nbit_wrBit s _ 0 n n true (by decide) n.isLt).trans (if_pos rfl)

theorem laneReferenceLost_completes {s : State} {n : Fin 8} (hout : sget 0 s.clk.lrefOut n = 4) (hpresent : lrefPresent s n = true) :
    Completes (.laneReferenceLost n) s fun t =>
      lrefPresent t n = false ∧ nbit (t.rd F.CLK_LREF_STAT.LOST 0) n = true ∧ t.clk = s.clk := by
  let shown := (s.wrBit F.CLK_LREF_STAT.PRESENT 0 n false).wrBit F.CLK_LREF_STAT.LOST 0 n true
  have hexec : exec (.laneReferenceLost n) s =
      done (raise (1 + n.val) (headWaits (2 * n.val + 1) (headWaits (2 * n.val) (pllsFollow n shown)))) :=
    congrArg done (guarded_true (by simp [hout, hpresent]))
  have htail : Keeps 0x300000480000000000000000000000000000082410000f20008a0800000000000000001c000000 0x270a1 shown
      (raise (1 + n.val) (headWaits (2 * n.val + 1) (headWaits (2 * n.val) (pllsFollow n shown)))) :=
    (keeps_raise _ _).after rfl rfl ((keeps_headWaits _ _).after rfl rfl ((keeps_headWaits _ _).after rfl rfl
      ((keeps_pllsFollow n shown).mono rfl rfl)))
  refine Completes.of_eq hexec ⟨?_, ?_, htail.part .clk rfl⟩
  · rw [lrefPresent, htail.rd _ _ rfl, rd_wrBit_other _ _ _ _ _ _ _ (by decide)]
    exact (nbit_wrBit s _ 0 n n false (by decide) n.isLt).trans (if_pos rfl)
  · rw [htail.rd _ _ rfl]
    exact (nbit_wrBit _ _ 0 n n true (by decide) n.isLt).trans (if_pos rfl)

theorem dtcLoRead_completes (s : State) : Completes .dtcLoRead s fun t =>
    t.rdata = BitVec.ofNat 32 s.dtcNow ∧ t.rd F.CLK_DTC_HI.VALUE 0 = s.dtcNow / 2 ^ 32 % 2 ^ 32 ∧ t.clk = s.clk :=
  Completes.of_eq rfl ⟨rfl, rd_wr_same _ _ _ _ (by decide), rfl⟩

/-- Settles O3: what a window shows touches no count; the first window of a run then acts on fields of its own, so the counts, the switch of
KCK and the event are read off one after the other. -/
theorem monitorWindowsAreCounted : Obligations.MonitorWindowsAreCounted := by
  unfold Obligations.MonitorWindowsAreCounted
  exact ⟨fun _ w e1 e2 e3 lock h hw => monitorWindow_in_range w e1 e2 e3 lock h hw,
    fun _ w e1 e2 e3 lock h hw => monitorWindow_out_of_range w e1 e2 e3 lock h hw, fun _ n w h => laneReferenceWindow_completes n w h,
    fun _ _ hin hpresent => laneReferencePresent_completes hin hpresent, fun _ _ hout hpresent => laneReferenceLost_completes hout hpresent,
    dtcLoRead_completes⟩

end Sys2Proof.Machine

/-! ### What a device-wide reset keeps (R441–R443) -/

namespace Sys2Proof.Machine
open Sys2Proof

theorem sget_filter_of_pos {α : Type} (d : α) (l : Sparse α) (p : Nat × α → Bool) (k : Nat) (h : ∀ v, p (k, v) = true) :
    sget d (l.filter p) k = sget d l k := by
  induction l with
  | nil => rfl
  | cons e l ih =>
    obtain ⟨j, v⟩ := e
    by_cases hk : k = j
    · subst hk
      rw [List.filter_cons_of_pos (h v), sget, sget, if_pos rfl, if_pos rfl]
    · by_cases hp : p (j, v) = true
      · rw [List.filter_cons_of_pos hp, sget, sget, if_neg hk, if_neg hk, ih]
      · rw [List.filter_cons_of_neg hp, sget, if_neg hk, ih]

theorem sget_filter_of_neg {α : Type} (d : α) (l : Sparse α) (p : Nat × α → Bool) (k : Nat) (h : ∀ v, p (k, v) = false) :
    sget d (l.filter p) k = d := by
  induction l with
  | nil => rfl
  | cons e l ih =>
    obtain ⟨j, v⟩ := e
    by_cases hp : p (j, v) = true
    · have hk : k ≠ j := by
        rintro rfl
        exact Bool.eq_false_iff.mp (h v) hp
      rw [List.filter_cons_of_pos hp, sget, if_neg hk, ih]
    · rw [List.filter_cons_of_neg hp, ih]

theorem contains_ctorIdx_iff (l : List RegName) (r : RegName) : (l.map (·.ctorIdx)).contains r.ctorIdx = true ↔ r ∈ l := by
  rw [List.contains_iff_mem, List.mem_map]
  constructor
  · rintro ⟨q, hq, e⟩
    exact RegName.ctorIdx_inj e ▸ hq
  · exact fun h => ⟨r, h, rfl⟩

theorem regKey_mod (r : RegName) (i : Nat) : regKey r i % 1024 = r.ctorIdx := by
  have := RegName.ctorIdx_lt r
  unfold regKey
  omega

theorem rd_eq_of_reg_eq {s t : State} {f : Fld} {i : Nat} (h : t.reg f.reg i = s.reg f.reg i) : t.rd f i = s.rd f i :=
  congrArg (getF · f.lo f.width) h

/-- The state with everything cleared but the registers that survive, before their fields and the cause are restored (R443). -/
def clearedKeeping (s : State) : State := { clearedState s with regs := survivingRegs s.regs }

theorem reg_clearedKeeping (s : State) (r : RegName) (i : Nat) :
    (clearedKeeping s).reg r i = if r ∈ survivors then s.reg r i else regReset r i := by
  change sget _ (survivingRegs s.regs) _ = _
  unfold survivingRegs
  split
  · next h => exact sget_filter_of_pos _ _ _ _ fun v => by rw [regKey_mod, contains_ctorIdx_iff]; exact h
  · next h => exact sget_filter_of_neg _ _ _ _ fun v => by rw [regKey_mod, Bool.eq_false_iff, ne_eq, contains_ctorIdx_iff]; exact h

/-! #### Fields carried over -/

/-- The state `b` with fields of copy 0 of their registers taken from `s`. -/
def carried (s : State) (fs : List Fld) (b : State) : State := fs.foldl (fun t f => t.wr f 0 (s.rd f 0)) b

theorem reg_carried (s : State) {r : RegName} (i : Nat) {fs : List Fld} (h : ∀ f ∈ fs, f.reg ≠ r) (b : State) :
    (carried s fs b).reg r i = b.reg r i := by
  induction fs generalizing b with
  | nil => rfl
  | cons f fs ih =>
    refine (ih (fun g hg => h g (List.mem_cons_of_mem _ hg)) _).trans (reg_wr_ne _ _ _ _ fun e => ?_)
    exact h f List.mem_cons_self e.1.symm

theorem rd_carried_other (s : State) {g : Fld} {fs : List Fld} (h : ∀ f ∈ fs, f.apart g 0 0) (b : State) :
    (carried s fs b).rd g 0 = b.rd g 0 := by
  induction fs generalizing b with
  | nil => rfl
  | cons f fs ih =>
    exact (ih (fun q hq => h q (List.mem_cons_of_mem _ hq)) _).trans (rd_wr_other _ _ _ _ _ _ (h f List.mem_cons_self))

theorem rd_carried (s : State) {g : Fld} {fs : List Fld} (hp : fs.Pairwise fun f g => g.apart f 0 0) (hfit : ∀ f ∈ fs, f.lo + f.width ≤ 32)
    (hg : g ∈ fs) (b : State) : (carried s fs b).rd g 0 = s.rd g 0 := by
  induction fs generalizing b with
  | nil => cases hg
  | cons f fs ih =>
    obtain ⟨hf, hp⟩ := List.pairwise_cons.mp hp
    rcases List.mem_cons.mp hg with rfl | hg
    · refine (rd_carried_other s hf _).trans ?_
      rw [rd_wr_same _ _ _ _ (hfit g List.mem_cons_self)]
      exact getF_mod _ _ _
    · exact ih hp (fun q hq => hfit q (List.mem_cons_of_mem _ hq)) hg _

/-! #### The state before the next attempt -/

/-- A device-wide reset clears the state, keeps the registers and the fields that survive, and records its class. -/
theorem deviceResetHeld_eq (c : Nat) (s : State) : ∃ k : ClkState, k.koscOn = s.clk.koscOn ∧ k.step = 1 ∧
    deviceResetHeld c s =
      (State.wr { carried s survivorFields (clearedKeeping s) with clk := k } F.PWR_RST_CAUSE.LAST 0 c).wrBit F.PWR_RST_CAUSE.SEEN 0 c true :=
  ⟨{ ClkState.init with koscOn := s.clk.koscOn, strapsLatched := s.clk.strapsLatched, step := 1 }, rfl, rfl, rfl⟩

theorem reg_deviceResetHeld (c : Nat) (s : State) {r : RegName} (i : Nat) (hcause : r ≠ .PWR_RST_CAUSE)
    (hf : ∀ f ∈ survivorFields, f.reg ≠ r) :
    (deviceResetHeld c s).reg r i = if r ∈ survivors then s.reg r i else regReset r i := by
  obtain ⟨k, _, _, e⟩ := deviceResetHeld_eq c s
  rw [e, State.wrBit, reg_wr_ne _ _ _ _ fun e => hcause e.1, reg_wr_ne _ _ _ _ fun e => hcause e.1, reg_upd, reg_carried s i hf,
    reg_clearedKeeping]

theorem rd_survivorField (c : Nat) (s : State) {f : Fld} (hf : f ∈ survivorFields) : (deviceResetHeld c s).rd f 0 = s.rd f 0 := by
  obtain ⟨k, _, _, e⟩ := deviceResetHeld_eq c s
  have hapart : ∀ f ∈ survivorFields, F.PWR_RST_CAUSE.SEEN.apart f 0 0 ∧ F.PWR_RST_CAUSE.LAST.apart f 0 0 := by decide
  obtain ⟨hseen, hlast⟩ := hapart f hf
  rw [e, rd_wrBit_other _ _ _ _ _ _ _ hseen, rd_wr_other _ _ _ _ _ _ hlast, rd_upd, rd_carried s (by decide) (by decide) hf]

/-- The registers of which a device-wide reset or the attempt after it leaves something (R443). -/
def spared : List RegName :=
  [.CLK_MON_CAUSE, .PWR_BOOTCNT, .PWR_RST_CAUSE, .PWR_SUP_STAT, .SHX_OWNER, .WRD_GRTMO, .WRD_THERM, .WRD_PWR, .WRD_PINOWN, .WRD_MSG,
   .WRD_STAT, .WRD_THSTAT, .CLK_STRAP, .CFG_BOOT_STAT]

theorem spared_of_survives : (∀ r ∈ survivors, r ∈ spared) ∧ ∀ f ∈ survivorFields, f.reg ∈ spared := by decide

theorem reg_of_not_spared (c : Nat) (s : State) {r : RegName} (i : Nat) (h : r ∉ spared) :
    (deviceResetHeld c s).reg r i = regReset r i := by
  obtain ⟨hregs, hfields⟩ := spared_of_survives
  have hcause : r ≠ .PWR_RST_CAUSE := fun e => h (e ▸ by decide)
  rw [reg_deviceResetHeld c s i hcause fun f hf e => h (e ▸ hfields f hf), if_neg fun hr => h (hregs r hr)]

/-- The class of the last reset, and of every reset since power-on (R441). -/
theorem cause_deviceResetHeld {c : Nat} (hc : c < 5) (s : State) :
    (deviceResetHeld c s).rd F.PWR_RST_CAUSE.LAST 0 = c ∧
    ∀ k : Fin 5, nbit ((deviceResetHeld c s).rd F.PWR_RST_CAUSE.SEEN 0) k =
      (nbit (s.rd F.PWR_RST_CAUSE.SEEN 0) k || k.val == c) := by
  obtain ⟨k, _, _, e⟩ := deviceResetHeld_eq c s
  have hseen : (clearedKeeping s).rd F.PWR_RST_CAUSE.SEEN 0 = s.rd F.PWR_RST_CAUSE.SEEN 0 := by
    rw [State.rd, reg_clearedKeeping, if_pos (by decide), State.rd]
  constructor
  · rw [e, rd_wrBit_other _ _ _ _ _ _ _ (by decide), rd_wr_same _ _ _ _ (by decide)]
    exact Nat.mod_eq_of_lt (hc.trans (by decide))
  · intro j
    rw [e, nbit_wrBit _ _ _ _ _ _ (by decide) j.isLt, rd_wr_other _ _ _ _ _ _ (by decide), rd_upd, rd_carried_other s (by decide), hseen]
    by_cases hj : j.val = c
    · simp [hj]
    · simp [hj]

theorem resetOf_deviceResetHeld {c : Nat} (hc : c < 5) (s : State) : ResetOf c none s (deviceResetHeld c s) := by
  obtain ⟨hlast, hseen⟩ := cause_deviceResetHeld hc s
  refine ⟨hlast, hseen, ?_, ?_, fun f hf => rd_survivorField c s hf, ?_, rfl, rfl, rfl, rfl, rfl, rfl, rfl, rfl, rfl, rfl, rfl, rfl, rfl,
    rfl, rfl, rfl, rfl, rfl⟩
  · exact reg_deviceResetHeld c s 0 (by decide) (by decide)
  · intro r hr i
    have hsurvives : ∀ r ∈ [RegName.SHX_OWNER, .WRD_GRTMO, .WRD_THERM, .WRD_PWR, .WRD_PINOWN, .WRD_MSG],
        r ∈ survivors ∧ r ≠ .PWR_RST_CAUSE ∧ ∀ f ∈ survivorFields, f.reg ≠ r := by decide
    obtain ⟨hin, hcause, hf⟩ := hsurvives r hr
    rw [reg_deviceResetHeld c s i hcause hf, if_pos hin]
  · exact fun r hr i => reg_of_not_spared c s i hr

theorem step_deviceResetHeld (c : Nat) (s : State) : (deviceResetHeld c s).clk.step = 1 := rfl

theorem count_deviceResetHeld (c : Nat) (s : State) : (deviceResetHeld c s).reg .PWR_BOOTCNT 0 = s.reg .PWR_BOOTCNT 0 :=
  (reg_deviceResetHeld c s 0 (by decide) (by decide)).trans (if_pos (by decide))

end Sys2Proof.Machine

namespace Sys2Proof
open Sys2Proof.Machine

/-- Nothing that the start of an attempt or a hold of the Keyhole port changes is part of what a reset leaves. -/
theorem ResetOf.andThen {c : Nat} {mon : Option (Nat × Nat × Nat)} {s t u : State} (h : ResetOf c mon s t)
    (hu : Touches [.PWR_BOOTCNT, .CLK_STRAP] [.kh, .clk] t u) (hkosc : u.clk.koscOn = t.clk.koscOn)
    (hstraps : ∀ f ∈ [F.CLK_STRAP.XSEL, F.CLK_STRAP.XDLY], u.rd f 0 = t.rd f 0) : ResetOf c mon s u := by
  obtain ⟨hlast, hseen, hmon, hregs, hfields, hrest, hpending, hgen, hfloor, hkeys, hflash, hops, hheld, hon, htmb, hcoh, hddr, hmem, hcfg,
    hkp, hfab, hnet, hevc, hmnt⟩ := h
  obtain ⟨hp, hr, hq⟩ := hu
  have hrd (f : Fld) (hf : f.reg ∉ [RegName.PWR_BOOTCNT, .CLK_STRAP]) : u.rd f 0 = t.rd f 0 := rd_eq_of_reg_eq (hr _ _ hf)
  have hshx : u.shx = t.shx := hq .shx (by decide)
  refine ⟨(hrd _ (by decide)).trans hlast, fun k => by rw [hrd _ (by decide), hseen], ?_, ?_, ?_, ?_, hp.trans hpending,
    (hq .memGen (by decide)).trans hgen, hshx ▸ hfloor, hshx ▸ hkeys, hshx ▸ hflash, hshx ▸ hops, hshx ▸ hheld, hkosc.trans hon,
    (hq .tmb (by decide)).trans htmb, (hq .coh (by decide)).trans hcoh, (hq .ddr (by decide)).trans hddr, (hq .mem (by decide)).trans hmem,
    (hq .cfg (by decide)).trans hcfg, (hq .kp (by decide)).trans hkp, (hq .fab (by decide)).trans hfab, (hq .net (by decide)).trans hnet,
    (hq .evc (by decide)).trans hevc, (hq .mnt (by decide)).trans hmnt⟩
  · cases mon with
    | none => exact (hr _ _ (by decide)).trans hmon
    | some m =>
      obtain ⟨hcause, hleaf, hstep⟩ := hmon
      exact ⟨(hrd _ (by decide)).trans hcause, (hrd _ (by decide)).trans hleaf, (hrd _ (by decide)).trans hstep⟩
  · intro r hr' i
    have hout : ∀ r ∈ [RegName.SHX_OWNER, .WRD_GRTMO, .WRD_THERM, .WRD_PWR, .WRD_PINOWN, .WRD_MSG],
        r ∉ [RegName.PWR_BOOTCNT, .CLK_STRAP] := by decide
    exact (hr r i (hout r hr')).trans (hregs r hr' i)
  · intro f hf
    have hkind : ∀ f ∈ survivorFields, f ∈ [F.CLK_STRAP.XSEL, F.CLK_STRAP.XDLY] ∨ f.reg ∉ [RegName.PWR_BOOTCNT, .CLK_STRAP] := by decide
    rcases hkind f hf with hs | hs
    · exact (hstraps f hs).trans (hfields f hf)
    · exact (hrd f hs).trans (hfields f hf)
  · intro r hr' i
    have hin : ∀ r ∈ [RegName.PWR_BOOTCNT, .CLK_STRAP], r ∈ spared := by decide
    exact (hr r i fun h => hr' (hin r h)).trans (hrest r hr' i)

/-- A reset whose cause CLK_MON_CAUSE has taken before it (R61). -/
theorem ResetOf.recordCause {c x l n : Nat} {s u t : State} (h : ResetOf c none u t) (hu : Touches [.CLK_MON_CAUSE] [] s u)
    (hcause : u.rd F.CLK_MON_CAUSE.CAUSE 0 = x) (hleaf : u.rd F.CLK_MON_CAUSE.LEAF 0 = l) (hstep : u.rd F.CLK_MON_CAUSE.STEP 0 = n) :
    ResetOf c (some (x, l, n)) s t := by
  obtain ⟨hlast, hseen, hmon, hregs, hfields, hrest, hpending, hgen, hfloor, hkeys, hflash, hops, hheld, hon, hinit⟩ := h
  obtain ⟨hp, hr, hq⟩ := hu
  have hrd (f : Fld) (hf : f.reg ∉ [RegName.CLK_MON_CAUSE]) : u.rd f 0 = s.rd f 0 := rd_eq_of_reg_eq (hr _ _ hf)
  have hmon' (f : Fld) (hf : f.reg = .CLK_MON_CAUSE) : t.rd f 0 = u.rd f 0 := rd_eq_of_reg_eq (hf ▸ hmon)
  have hgen' : u.memGen = s.memGen := hq .memGen (by decide)
  have hshx : u.shx = s.shx := hq .shx (by decide)
  have hclk : u.clk = s.clk := hq .clk (by decide)
  refine ⟨hlast, fun k => by rw [hseen, hrd _ (by decide)], ⟨(hmon' _ rfl).trans hcause, (hmon' _ rfl).trans hleaf,
    (hmon' _ rfl).trans hstep⟩, ?_, ?_, hrest, hpending.trans hp, hgen.trans (congrArg (· + 1) hgen'), hshx ▸ hfloor, hshx ▸ hkeys,
    hshx ▸ hflash, hops, hheld, hclk ▸ hon, hinit⟩
  · intro r hr' i
    have hout : ∀ r ∈ [RegName.SHX_OWNER, .WRD_GRTMO, .WRD_THERM, .WRD_PWR, .WRD_PINOWN, .WRD_MSG], r ∉ [RegName.CLK_MON_CAUSE] := by
      decide
    exact (hregs r hr' i).trans (hr r i (hout r hr'))
  · intro f hf
    have hout : ∀ f ∈ survivorFields, f.reg ∉ [RegName.CLK_MON_CAUSE] := by decide
    exact (hfields f hf).trans (hrd f (hout f hf))

/-- The count and the strap decide how an attempt begins. -/
theorem AttemptBegun.congr {s u t : State} (h : AttemptBegun u t) (hcount : u.rd F.PWR_BOOTCNT.COUNT 0 = s.rd F.PWR_BOOTCNT.COUNT 0)
    (hxsel : u.rd F.CLK_STRAP.XSEL 0 = s.rd F.CLK_STRAP.XSEL 0) : AttemptBegun s t := by
  obtain ⟨h1, h2⟩ := h
  rw [State.flag, hxsel] at h2
  exact ⟨hcount ▸ h1, h2⟩

end Sys2Proof

/-! ### Resets that begin an attempt (R440, R441) -/

namespace Sys2Proof.Machine
open Sys2Proof

theorem touches_startAttempt (s : State) : Touches [.PWR_BOOTCNT, .CLK_STRAP] [.kh, .clk] s (startAttempt s) :=
  (keeps_startAttempt s).touches rfl rfl

theorem koscOn_startAttempt (s : State) : (startAttempt s).clk.koscOn = s.clk.koscOn := by
  unfold startAttempt
  dsimp only
  split
  · rfl
  · rfl

theorem count_startAttempt (s : State) : (startAttempt s).rd F.PWR_BOOTCNT.COUNT 0 =
    min (s.rd F.PWR_BOOTCNT.COUNT 0 + 1) (2 ^ F.PWR_BOOTCNT.COUNT.width - 1) := by
  have hcount := rd_satAdd_same s F.PWR_BOOTCNT.COUNT 0 1 (by decide)
  unfold startAttempt
  dsimp only
  split
  · rw [rd_upd, hcount]
  · rw [rd_wr_other _ _ _ _ _ _ (by decide), rd_upd, hcount]

theorem attemptBegun_startAttempt (s : State) : AttemptBegun s (startAttempt s) := ⟨count_startAttempt s, step_startAttempt s⟩

/-- A device-wide reset of class `c` records it and begins a new attempt. -/
theorem deviceReset_resets {c : Nat} (hc : c < 5) (s : State) : ResetOf c none s (deviceReset c s) ∧ AttemptBegun s (deviceReset c s) := by
  have hstraps : ∀ f ∈ [F.CLK_STRAP.XSEL, F.CLK_STRAP.XDLY], F.CLK_STRAP.REFKIND.apart f 0 0 ∧ F.PWR_BOOTCNT.COUNT.apart f 0 0 := by decide
  refine ⟨(resetOf_deviceResetHeld hc s).andThen (touches_startAttempt _) (koscOn_startAttempt _) fun f hf => ?_,
    (attemptBegun_startAttempt _).congr ?_ ?_⟩
  · exact rd_startAttempt _ (hstraps f hf).1 (hstraps f hf).2
  · exact rd_eq_of_reg_eq (f := F.PWR_BOOTCNT.COUNT) (count_deviceResetHeld c s)
  · exact rd_survivorField c s (by decide)

/-- The state with the cause of a clock-fail reset recorded (R61). -/
def causeRecorded (cause leaf stepNo : Nat) (s : State) : State :=
  ((s.wr F.CLK_MON_CAUSE.CAUSE 0 cause).wr F.CLK_MON_CAUSE.LEAF 0 (if cause = 3 then leaf else 0)).wr F.CLK_MON_CAUSE.STEP 0
    (if cause = 5 then stepNo else 0)

theorem touches_causeRecorded (cause leaf stepNo : Nat) (s : State) : Touches [.CLK_MON_CAUSE] [] s (causeRecorded cause leaf stepNo s) := by
  have h : Keeps 0x40 0 s (causeRecorded cause leaf stepNo s) :=
    (keeps_wr _ _ _ _).after rfl rfl ((keeps_wr _ _ _ _).after rfl rfl ((keeps_wr _ _ _ _).mono rfl rfl))
  exact h.touches rfl rfl

theorem rd_causeRecorded {cause leaf stepNo : Nat} (hc : cause < 8) (hl : leaf < 4) (hn : stepNo < 8) (s : State) :
    (causeRecorded cause leaf stepNo s).rd F.CLK_MON_CAUSE.CAUSE 0 = cause ∧
    (causeRecorded cause leaf stepNo s).rd F.CLK_MON_CAUSE.LEAF 0 = (if cause = 3 then leaf else 0) ∧
    (causeRecorded cause leaf stepNo s).rd F.CLK_MON_CAUSE.STEP 0 = (if cause = 5 then stepNo else 0) := by
  have hleaf : (if cause = 3 then leaf else 0) < 2 ^ F.CLK_MON_CAUSE.LEAF.width := by
    split
    · exact hl
    · decide
  have hstep : (if cause = 5 then stepNo else 0) < 2 ^ F.CLK_MON_CAUSE.STEP.width := by
    split
    · exact hn
    · decide
  unfold causeRecorded
  refine ⟨?_, ?_, ?_⟩
  · rw [rd_wr_other _ _ _ _ _ _ (by decide), rd_wr_other _ _ _ _ _ _ (by decide), rd_wr_same _ _ _ _ (by decide)]
    exact Nat.mod_eq_of_lt hc
  · rw [rd_wr_other _ _ _ _ _ _ (by decide), rd_wr_same _ _ _ _ (by decide), Nat.mod_eq_of_lt hleaf]
  · rw [rd_wr_same _ _ _ _ (by decide), Nat.mod_eq_of_lt hstep]

/-- A clock-fail reset records its cause, its class and begins a new attempt (R61). -/
theorem clockFail_resets {cause leaf stepNo : Nat} (hc : cause < 8) (hl : leaf < 4) (hn : stepNo < 8) (s : State) :
    ResetOf 2 (some (cause, if cause = 3 then leaf else 0, if cause = 5 then stepNo else 0)) s (clockFail cause leaf stepNo s) ∧
    AttemptBegun s (clockFail cause leaf stepNo s) := by
  obtain ⟨hreset, hbegun⟩ := deviceReset_resets (c := 2) (by decide) (causeRecorded cause leaf stepNo s)
  obtain ⟨_, hregs, _⟩ := touches_causeRecorded cause leaf stepNo s
  obtain ⟨hcause, hleaf, hstep⟩ := rd_causeRecorded hc hl hn s
  have hrd (f : Fld) (hf : f.reg ∉ [RegName.CLK_MON_CAUSE]) : (causeRecorded cause leaf stepNo s).rd f 0 = s.rd f 0 :=
    rd_eq_of_reg_eq (hregs _ _ hf)
  exact ⟨hreset.recordCause (touches_causeRecorded ..) hcause hleaf hstep, hbegun.congr (hrd _ (by decide)) (hrd _ (by decide))⟩

theorem clockFailReset_completes {cause leaf stepNo : Nat} (s : State) (hc : cause < 8) (hl : leaf < 4) (hn : stepNo < 8) (h1 : 1 ≤ cause)
    (h5 : cause ≤ 5) : Completes (.clockFailReset ⟨cause, hc⟩ ⟨leaf, hl⟩ ⟨stepNo, hn⟩) s fun t =>
      ResetOf 2 (some (cause, if cause = 3 then leaf else 0, if cause = 5 then stepNo else 0)) s t ∧ AttemptBegun s t :=
  Completes.of_guarded (f := clockFail cause leaf stepNo) rfl (decide_eq_true ⟨h1, h5⟩) (clockFail_resets hc hl hn s)

theorem startupTimeout_completes {s : State} (h3 : 3 ≤ s.clk.step) (h5 : s.clk.step ≤ 5) : Completes .startupTimeout s fun t =>
    ResetOf 2 (some (5, 0, s.clk.step + 1)) s t ∧ AttemptBegun s t :=
  Completes.of_guarded (f := clockFail 5 0 (s.clk.step + 1)) rfl (decide_eq_true ⟨h3, h5⟩)
    (clockFail_resets (by decide) (by decide) (by omega) s)

/-- The leaf a relock timeout names is one that is not in lock and aligned, where there is one (R45). -/
theorem unlockedLeaf_cases (s : State) : ∃ l : Fin 4, unlockedLeaf s = l ∧
    ((∃ k : Fin 4, (nbit (s.rd F.CLK_ROOT_STAT.LOCK 0) k && nbit (s.rd F.CLK_ROOT_STAT.ALIGNED 0) k) = false) →
      (nbit (s.rd F.CLK_ROOT_STAT.LOCK 0) l && nbit (s.rd F.CLK_ROOT_STAT.ALIGNED 0) l) = false) := by
  unfold unlockedLeaf
  cases hfind : (List.range 4).find? fun l => !(nbit (s.rd F.CLK_ROOT_STAT.LOCK 0) l && nbit (s.rd F.CLK_ROOT_STAT.ALIGNED 0) l) with
  | none =>
    refine ⟨0, rfl, fun ⟨k, hk⟩ => absurd ?_ (List.find?_eq_none.mp hfind k (List.mem_range.mpr k.isLt))⟩
    rw [hk]
    rfl
  | some l =>
    have hl : l < 4 := List.mem_range.mp (List.mem_of_find?_eq_some hfind)
    exact ⟨⟨l, hl⟩, rfl, fun _ => (Bool.not_eq_true _).mp fun e => by simpa [e] using List.find?_some hfind⟩

theorem relockTimeout_completes {s : State} (h : s.flag F.CLK_ROOT_STAT.RELOCK 0 = true) : Completes .relockTimeout s fun t =>
    ∃ l : Fin 4, ResetOf 2 (some (3, l, 0)) s t ∧ AttemptBegun s t ∧
      ((∃ k : Fin 4, (nbit (s.rd F.CLK_ROOT_STAT.LOCK 0) k && nbit (s.rd F.CLK_ROOT_STAT.ALIGNED 0) k) = false) →
        (nbit (s.rd F.CLK_ROOT_STAT.LOCK 0) l && nbit (s.rd F.CLK_ROOT_STAT.ALIGNED 0) l) = false) := by
  obtain ⟨l, hl, hleaf⟩ := unlockedLeaf_cases s
  obtain ⟨hreset, hbegun⟩ := clockFail_resets (cause := 3) (stepNo := 0) (by decide) l.isLt (by decide) s
  refine Completes.of_guarded (f := clockFail 3 (unlockedLeaf s) 0) rfl h ?_
  rw [hl]
  exact ⟨l, hreset, hbegun, hleaf⟩

theorem alignmentFault_completes {s : State} {leaf : Fin 4} (h : 16 ≤ sget 0 s.clk.lockRun leaf ∨ 16 ≤ sget 0 s.clk.phaseRun leaf) :
    Completes (.alignmentFault leaf) s fun t => ResetOf 2 (some (3, leaf, 0)) s t ∧ AttemptBegun s t := by
  have hfault : alignFault s leaf = true := by
    rcases h with h | h
    · simp [alignFault, h]
    · simp [alignFault, h]
  exact Completes.of_guarded (f := clockFail 3 leaf 0) rfl hfault (clockFail_resets (by decide) leaf.isLt (by decide) s)

theorem monitorReset_completes {s : State} (h : s.rd F.CLK_MON_STAT.RUN 0 = 16) : Completes .monitorReset s fun t =>
    ResetOf 2 (some (if s.clk.refMissing then 1 else 2, 0, 0)) s t ∧ AttemptBegun s t := by
  refine Completes.of_guarded (f := clockFail (if s.clk.refMissing then 1 else 2) 0 0) rfl (beq_iff_eq.mpr h) ?_
  cases s.clk.refMissing with
  | true => exact clockFail_resets (cause := 1) (leaf := 0) (stepNo := 0) (by decide) (by decide) (by decide) s
  | false => exact clockFail_resets (cause := 2) (leaf := 0) (stepNo := 0) (by decide) (by decide) (by decide) s

theorem koscOff_iff (mult n : Nat) : koscOff mult n = true ↔ 10 * n * mult < 9 * 32768 ∨ 11 * 32768 < 10 * n * mult := by
  rw [koscOff, Bool.or_eq_true, decide_eq_true_iff, decide_eq_true_iff, Nat.mul_comm 32768 11, Nat.mul_comm 32768 9, or_comm]

theorem koscFault_completes {s : State} {counts : List Nat} (hepoch : s.flag F.CLK_ROOT_STAT.EPOCH 0 = true) (hlen : counts.length = 16)
    (hoff : ∀ n ∈ counts, 10 * n * s.rd F.CLK_ROOT_CFG.MULT 0 < 9 * 32768 ∨ 11 * 32768 < 10 * n * s.rd F.CLK_ROOT_CFG.MULT 0) :
    Completes (.koscFault counts) s fun t => ResetOf 2 (some (4, 0, 0)) s t ∧ AttemptBegun s t := by
  have hall : counts.all (koscOff (s.rd F.CLK_ROOT_CFG.MULT 0)) = true :=
    List.all_eq_true.mpr fun n hn => (koscOff_iff _ n).mpr (hoff n hn)
  exact Completes.of_guarded (f := clockFail 4 0 0) rfl (by rw [hepoch, hlen, hall]; rfl)
    (clockFail_resets (by decide) (by decide) (by decide) s)

theorem deviceWatchdogReset_completes {s : State} (h : wdtExpired s 4 = true) :
    Completes .deviceWatchdogReset s fun t => ResetOf 3 none s t ∧ AttemptBegun s t :=
  Completes.of_guarded (f := deviceReset 3) rfl h (deviceReset_resets (by decide) s)

theorem sherexDeviceReset_completes (s : State) (v : Word) : Completes (.sherexDeviceReset v) s fun t =>
    if F.PWR_RST_CTL.KEY.of v = 0xA5 ∧ F.PWR_RST_CTL.GO.of v = 1 then ResetOf 4 none s t ∧ AttemptBegun s t else t = s := by
  refine Completes.of_eq (t := rstCtlWrite v s) rfl ?_
  unfold rstCtlWrite
  split
  · exact deviceReset_resets (by decide) s
  · rfl

/-! ### Resets that hold the device (R446, R472) -/

theorem keeps_kh (s : State) (k : KhState) : Keeps 0 0x100000 s { s with kh := k } :=
  Keeps.store rfl rfl id id id fun p hp => by
    cases p with
    | kh => exact absurd hp (by decide)
    | _ => rfl

/-- The device held until nRST_KH is released (R472). -/
def holding (s : State) : State := { s with kh := { s.kh with held := true } }

theorem resetOf_holding {c : Nat} {mon : Option (Nat × Nat × Nat)} {s t : State} (h : ResetOf c mon s t) : ResetOf c mon s (holding t) :=
  h.andThen ((keeps_kh t _).touches rfl rfl) rfl fun _ _ => rfl

theorem clk_holding (s : State) : (holding s).clk = s.clk := rfl

theorem reg_holding (s : State) (r : RegName) (i : Nat) : (holding s).reg r i = s.reg r i := rfl

theorem khReset_eq (s : State) : khReset s = holding (deviceResetHeld 1 s) := rfl

/-- A Keyhole reset holds the device; no attempt is counted. -/
theorem keyholeReset_completes {s : State} (hkosc : s.clk.koscOn = true) (hstraps : s.clk.strapsLatched = true)
    (hheld : s.kh.held = false) : Completes .keyholeReset s fun t =>
      ResetOf 1 none s t ∧ t.reg .PWR_BOOTCNT 0 = s.reg .PWR_BOOTCNT 0 ∧ t.clk.step = 1 ∧ t.kh.held = true := by
  refine Completes.of_guarded (f := khReset) rfl (by simp [khMeasures, hkosc, hstraps, hheld]) ?_
  rw [khReset_eq, reg_holding, clk_holding, count_deviceResetHeld, step_deviceResetHeld]
  exact ⟨resetOf_holding (resetOf_deviceResetHeld (by decide) s), rfl, rfl, rfl⟩

theorem keyholeRelease_completes {s : State} (h : s.kh.held = true) : Completes .keyholeRelease s fun t =>
    t.kh = { s.kh with held := false } ∧ Touches [.PWR_BOOTCNT, .CLK_STRAP] [.kh, .clk] s t ∧
    if s.clk.strapsLatched then AttemptBegun s t else t.regs = s.regs ∧ t.clk = s.clk := by
  refine Completes.of_guarded (f := khRelease) rfl h ⟨?_, (keeps_khRelease s).touches rfl rfl, ?_⟩
  · unfold khRelease
    dsimp only
    split
    · exact (keeps_startAttempt _).part .kh rfl
    · rfl
  · unfold khRelease
    dsimp only
    split
    · exact attemptBegun_startAttempt { s with kh := { s.kh with held := false } }
    · exact ⟨rfl, rfl⟩

theorem powerOnReset_completes (s : State) : Completes .powerOnReset s fun t =>
    (∀ r, r ≠ .PWR_SUP_STAT → ∀ i, t.reg r i = regReset r i) ∧ t.clk = .init ∧ t.shx.floor = s.shx.floor ∧ t.shx.keys = s.shx.keys ∧
    t.shx.flash = s.shx.flash ∧ t.memGen = s.memGen + 1 :=
  Completes.of_eq (t := powerOnReset s) rfl ⟨fun _ hr i => reg_setReg_reg_ne _ 0 i _ hr, rfl, rfl, rfl, rfl, rfl⟩

/-- Settles O55: every trigger is one and the same reset, with its class and, where the clock fails, its cause recorded before it; the attempt
that follows writes only its count and REFKIND. -/
theorem deviceWideResetsBeginANewAttempt : Obligations.DeviceWideResetsBeginANewAttempt := by
  unfold Obligations.DeviceWideResetsBeginANewAttempt
  exact ⟨fun s _ _ _ hc hl hn h1 h5 => clockFailReset_completes s hc hl hn h1 h5, fun _ h3 h5 => startupTimeout_completes h3 h5,
    fun _ h => relockTimeout_completes h, fun _ _ h => alignmentFault_completes h, fun _ h => monitorReset_completes h,
    fun _ _ hepoch hlen hoff => koscFault_completes hepoch hlen hoff, fun _ h => deviceWatchdogReset_completes h,
    sherexDeviceReset_completes, fun _ hkosc hstraps hheld => keyholeReset_completes hkosc hstraps hheld,
    fun _ h => keyholeRelease_completes h, powerOnReset_completes⟩

end Sys2Proof.Machine

/-! ### Flits: their fields, and the parity that their CRC keeps (R75–R77, R79, R270) -/

namespace Sys2Proof.Machine
open Sys2Proof

theorem toNat_append_add {m n : Nat} (x : BitVec m) (y : BitVec n) : (x ++ y).toNat = x.toNat * 2 ^ n + y.toNat := by
  rw [BitVec.toNat_append, ← Nat.shiftLeft_add_eq_or_of_lt y.isLt, Nat.shiftLeft_eq]

/-- Sealing fills in the gap that a flit leaves for its CRC. -/
theorem mkFlit_eq_append (h : FlitHead) (p : Line) : mkFlit h p = p ++ crcOf (mkFlit h p) ++ h.bits := by
  have hcrc : crcOf (mkFlit h p) = crcOf (p ++ (0 : BitVec 16) ++ h.bits) := crcOf_sealFlit _
  rw [hcrc, mkFlit]
  generalize hc : crcOf (p ++ (0 : BitVec 16) ++ h.bits) = c
  apply BitVec.eq_of_getLsbD_eq
  intro k _
  rw [getLsbD_sealFlit, hc]
  simp only [BitVec.getLsbD_append]
  by_cases h48 : k < 48
  · rw [if_neg (by omega), if_pos h48, if_pos h48]
  · by_cases h64 : k < 64
    · rw [if_pos ⟨by omega, h64⟩, if_neg h48, if_pos (by omega)]
    · rw [if_neg (by omega), if_neg h48, if_neg (by omega), if_neg h48, if_neg (by omega)]

/-- The fields of a header fit in their places (R75). -/
structure FlitHead.Fits (h : FlitHead) : Prop where
  cls : h.cls < 4
  op : h.op < 8
  dst : h.dst < 2 ^ 13
  src : h.src < 2 ^ 13
  txn : h.txn < 256
  rqc : h.rqc < 8
  rqid : h.rqid < 32

/-- The header as a number: each field at its place (R75). -/
theorem FlitHead.Fits.toNat_bits {h : FlitHead} (hf : h.Fits) : h.bits.toNat = h.cls + 2 ^ 2 * h.op + 2 ^ 5 * h.dst + 2 ^ 18 * h.src +
    2 ^ 31 * h.txn + 2 ^ 39 * h.rqc + 2 ^ 42 * h.rqid + 2 ^ 47 * b2n h.more := by
  obtain ⟨hcls, hop, hdst, hsrc, htxn, hrqc, hrqid⟩ := hf
  have hmore : (BitVec.ofBool h.more).toNat = b2n h.more := by cases h.more <;> rfl
  simp only [FlitHead.bits, toNat_append_add, BitVec.toNat_ofNat, hmore]
  omega

/-- A flit as a number: header, CRC and payload (R75). -/
theorem toNat_mkFlit (h : FlitHead) (p : Line) :
    (mkFlit h p).toNat = h.bits.toNat + 2 ^ 48 * (crcOf (mkFlit h p)).toNat + 2 ^ 64 * p.toNat := by
  conv_lhs => rw [mkFlit_eq_append, toNat_append_add, toNat_append_add]
  omega

theorem toNat_extract {n : Nat} (f : BitVec n) (lo w : Nat) : (f.extractLsb' lo w).toNat = f.toNat / 2 ^ lo % 2 ^ w := by
  rw [BitVec.extractLsb'_toNat, Nat.shiftRight_eq_div_pow]

@[simp] theorem flitPayload_mkFlit (h : FlitHead) (p : Line) : flitPayload (mkFlit h p) = p := by
  have hhead := h.bits.isLt
  have hcrc := (crcOf (mkFlit h p)).isLt
  have hp := p.isLt
  apply BitVec.eq_of_toNat_eq
  rw [flitPayload, toNat_extract, toNat_mkFlit]
  omega

theorem getLsbD_eq_div (f : Flit) (k : Nat) : f.getLsbD k = (f.toNat / 2 ^ k % 2 == 1) := by
  rw [← BitVec.testBit_toNat, Nat.testBit_eq_decide_div_mod_eq]
  rfl

theorem flitHead_mkFlit {h : FlitHead} (hf : h.Fits) (p : Line) : flitHead (mkFlit h p) = h := by
  have hcrc := (crcOf (mkFlit h p)).isLt
  have hbits := hf.toNat_bits
  have hnum := toNat_mkFlit h p
  obtain ⟨hcls, hop, hdst, hsrc, htxn, hrqc, hrqid⟩ := hf
  have hmore := b2n_lt h.more
  have hbit : (mkFlit h p).getLsbD 47 = h.more := by
    have : (mkFlit h p).toNat / 2 ^ 47 % 2 = b2n h.more := by omega
    rw [getLsbD_eq_div, this]
    cases h.more <;> rfl
  simp only [flitHead, toNat_extract, hbit]
  obtain ⟨cls, op, dst, src, txn, rqc, rqid, more⟩ := h
  simp only [FlitHead.mk.injEq, and_true]
  dsimp only at *
  omega

/-- Where a flit holds its fields (R75). -/
theorem fields_mkFlit {h : FlitHead} (hf : h.Fits) (p : Line) :
    let n (hi lo : Nat) : Nat := (mkFlit h p).toNat % 2 ^ (hi + 1) / 2 ^ lo
    n 1 0 = h.cls ∧ n 4 2 = h.op ∧ n 17 5 = h.dst ∧ n 30 18 = h.src ∧ n 38 31 = h.txn ∧ n 41 39 = h.rqc ∧ n 46 42 = h.rqid ∧
    n 47 47 = b2n h.more ∧ n 63 48 = (crcOf (mkFlit h p)).toNat ∧ n 575 64 = p.toNat := by
  have hcrc := (crcOf (mkFlit h p)).isLt
  have hp := p.isLt
  have hbits := hf.toNat_bits
  have hnum := toNat_mkFlit h p
  obtain ⟨hcls, hop, hdst, hsrc, htxn, hrqc, hrqid⟩ := hf
  have hmore := b2n_lt h.more
  dsimp only
  omega

/-! #### Odd damage (R79) -/

theorem parityOf_add (g : Nat → Bool) (m n : Nat) : parityOf g (m + n) = (parityOf g m ^^ parityOf (fun k => g (m + k)) n) := by
  induction n with
  | zero => exact (Bool.xor_false _).symm
  | succ n ih => rw [← Nat.add_assoc, parityOf_succ, ih, parityOf_succ, Bool.xor_assoc]

theorem xorAll_eq (l : List Bool) (a : Bool) : l.foldl (· ^^ ·) a = (a ^^ (l.count true % 2 == 1)) := by
  induction l generalizing a with
  | nil => exact (Bool.xor_false a).symm
  | cons b l ih =>
    rw [List.foldl_cons, ih]
    cases b with
    | false => simp
    | true =>
      rw [List.count_cons_self]
      cases a <;> (rcases Nat.mod_two_eq_zero_or_one (l.count true) with h | h <;> simp [Nat.add_mod, h])

theorem parityOf_eq_count (g : Nat → Bool) (n : Nat) : parityOf g n = (((List.range n).filter g).length % 2 == 1) := by
  have hmap : parityOf g n = ((List.range n).map g).foldl (· ^^ ·) false := by rw [List.foldl_map]; rfl
  have hcount : ((List.range n).map g).count true = ((List.range n).filter g).length := by
    rw [List.count, List.countP_map, List.countP_eq_length_filter]
    congr 1
    exact List.filter_congr fun k _ => by simp
  rw [hmap, xorAll_eq, Bool.false_xor, hcount]

/-- Bits taken from the highest down have the parity of the same bits taken from the lowest up. -/
theorem xor_descending (g : Nat → Bool) (lo n : Nat) :
    ((List.range n).map fun k => g (lo + n - 1 - k)).foldl (· ^^ ·) false = parityOf (fun k => g (lo + k)) n := by
  have hrev : ((List.range n).map fun k => g (lo + n - 1 - k)) = ((List.range n).map fun k => g (lo + k)).reverse := by
    refine List.ext_getElem (by simp) fun k hk _ => ?_
    simp only [List.length_map, List.length_range] at hk
    simp only [List.getElem_map, List.getElem_range, List.getElem_reverse, List.length_map, List.length_range]
    exact congrArg g (by omega)
  rw [hrev, xorAll_eq, List.count_reverse, ← xorAll_eq, List.foldl_map]
  rfl

theorem crcParity_crcOf (f : Flit) : crcParity (crcOf f) = (parityOf f.getLsbD 48 ^^ parityOf (fun k => f.getLsbD (64 + k)) 512) := by
  have hinit : crcParity 0xFFFF = false := by decide
  have hhigh := xor_descending f.getLsbD 64 512
  have hlow := xor_descending f.getLsbD 0 48
  simp only [Nat.zero_add] at hlow
  rw [crcOf, crcParity_foldl, hinit, Bool.false_xor, crcBits, List.foldl_append, xorAll_eq _ (List.foldl _ _ _), ← Bool.false_xor (_ == 1),
    ← xorAll_eq _ false]
  exact (congrArg₂ _ hhigh hlow).trans (Bool.xor_comm _ _)

/-- The bits of a good flit are even in number. -/
theorem parity_of_good {f : Flit} (h : flitGood f = true) : parityOf f.getLsbD 576 = false := by
  have hfield : parityOf (fun k => f.getLsbD (48 + k)) 16 = crcParity (flitCrc f) :=
    parityOf_congr 16 fun k hk => by simp [flitCrc, hk]
  have hcrc : flitCrc f = crcOf f := eq_of_beq h
  have h64 : parityOf f.getLsbD 64 = (parityOf f.getLsbD 48 ^^ parityOf (fun k => f.getLsbD (48 + k)) 16) := parityOf_add _ 48 16
  have h576 : parityOf f.getLsbD 576 = (parityOf f.getLsbD 64 ^^ parityOf (fun k => f.getLsbD (64 + k)) 512) := parityOf_add _ 64 512
  rw [h576, h64, hfield, hcrc, crcParity_crcOf]
  cases parityOf f.getLsbD 48 <;> cases parityOf (fun k => f.getLsbD (64 + k)) 512 <;> rfl

/-- An odd number of wrong bits is found. -/
theorem flitGood_xor_odd {f e : Flit} (hf : flitGood f = true) (he : parityOf e.getLsbD 576 = true) : flitGood (f ^^^ e) = false := by
  refine Bool.eq_false_iff.mpr fun hgood => ?_
  have hsum : parityOf (f ^^^ e).getLsbD 576 = (parityOf f.getLsbD 576 ^^ parityOf e.getLsbD 576) := by
    rw [← parityOf_xor]
    exact parityOf_congr 576 fun k _ => BitVec.getLsbD_xor
  rw [parity_of_good hgood, parity_of_good hf, he] at hsum
  exact Bool.false_ne_true hsum

theorem parity_oneBit {k : Nat} (hk : k < 576) : parityOf (BitVec.ofNat 576 (2 ^ k)).getLsbD 576 = true := by
  have hbits : ∀ n, n ≤ 576 → parityOf (BitVec.ofNat 576 (2 ^ k)).getLsbD n = decide (k < n) := by
    intro n
    induction n with
    | zero => intro _; rfl
    | succ n ih =>
      intro hn
      rw [parityOf_succ, ih (by omega), BitVec.getLsbD_ofNat, Nat.testBit_two_pow, decide_eq_true (show n < 576 by omega), Bool.true_and]
      by_cases hlt : k < n
      · simp [hlt, show k ≠ n by omega, show k < n + 1 by omega]
      · by_cases heq : k = n
        · simp [heq]
        · simp [hlt, heq, show ¬ k < n + 1 by omega]
  rw [hbits 576 le_rfl, decide_eq_true hk]

theorem crcFails_undamaged {fs : List Flit} (h : ∀ f ∈ fs, flitGood f = true) : crcFails fs none = false := by
  rw [crcFails, arrivedFlits, List.all_eq_true.mpr h, Bool.not_true]

/-- A bit inverted anywhere in a message of good flits is found. -/
theorem crcFails_damaged {fs : List Flit} (h : ∀ f ∈ fs, flitGood f = true) {k : Fin 1152} (hk : k.val < 576 * fs.length) :
    crcFails fs (some k) = true := by
  have hlt : k.val / 576 < fs.length := by omega
  have hbad : flitGood (fs.getD (k.val / 576) 0 ^^^ BitVec.ofNat 576 (2 ^ (k.val % 576))) = false := by
    rw [List.getD_eq_getElem fs 0 hlt]
    exact flitGood_xor_odd (h _ (List.getElem_mem hlt)) (parity_oneBit (Nat.mod_lt _ (by decide)))
  rw [crcFails, Bool.not_eq_true', List.all_eq_false]
  exact ⟨_, List.mem_set hlt _, by rw [hbad]; decide⟩

/-! #### Messages (R76, R77, R270) -/

/-- The header of each flit of a request, by whether another flit follows. -/
def requestHead (r : Req) (more : Bool) : FlitHead :=
  ⟨if r.dst = hubEp then 3 else 0, if r.op = .write then 1 else 0, r.dst, r.src, r.txn, r.tag.cls, r.tag.id, more⟩

theorem reqFlitsOf_eq (r : Req) : reqFlitsOf r =
    if r.op = .write ∧ r.dst ≠ hubEp then [mkFlit (requestHead r true) (commandPayload r), mkFlit (requestHead r false) r.data]
    else [mkFlit (requestHead r false) (commandPayload r)] := by
  have hop : opCode r.op = if r.op = .write then 1 else 0 := by cases r.op <;> rfl
  simp only [reqFlitsOf, reqFlits, reqClass, hop]
  split <;> rfl

theorem fits_requestHead {r : Req} (hdst : r.dst < 2 ^ 13) (hsrc : r.src < 2 ^ 13) (htxn : r.txn < 256) (hcls : r.tag.cls < 8)
    (hid : r.tag.id < 32) (more : Bool) : (requestHead r more).Fits :=
  ⟨by unfold requestHead; dsimp only; split <;> decide, by unfold requestHead; dsimp only; split <;> decide, hdst, hsrc, htxn, hcls, hid⟩

theorem head?_reqFlitsOf {r : Req} {f : Flit} (h : (reqFlitsOf r).head? = some f) : flitPayload f = commandPayload r := by
  rw [reqFlitsOf_eq] at h
  split at h <;> (cases h; exact flitPayload_mkFlit _ _)

theorem toNat_commandPayload (r : Req) : (commandPayload r).toNat = r.da % 2 ^ 48 + (r.len - 1) % 64 * 2 ^ 48 +
    (if r.dst = hubEp ∧ r.op = .write then (r.data.toNat / 2 ^ (8 * (r.da % 64 / 4 * 4))) % 2 ^ 32 else 0) * 2 ^ 64 := by
  have hv : (if r.dst = hubEp ∧ r.op = .write then (r.data.toNat / 2 ^ (8 * (r.da % 64 / 4 * 4))) % 2 ^ 32 else 0) < 2 ^ 32 := by
    split
    · exact Nat.mod_lt _ (by decide)
    · decide
  rw [commandPayload, BitVec.toNat_ofNat]
  generalize (if r.dst = hubEp ∧ r.op = .write then (r.data.toNat / 2 ^ (8 * (r.da % 64 / 4 * 4))) % 2 ^ 32 else 0) = v at hv ⊢
  exact Nat.mod_eq_of_lt (by omega)

/-- What a command flit carries (R77). -/
theorem fields_commandPayload (r : Req) :
    (commandPayload r).extractLsb' 0 48 = BitVec.ofNat 48 r.da ∧ (commandPayload r).extractLsb' 48 6 = BitVec.ofNat 6 (r.len - 1) ∧
    (r.dst = hubEp → r.op = .write →
      (commandPayload r).extractLsb' 64 32 = r.data.extractLsb' (8 * (r.da % 64 / 4 * 4)) 32) := by
  have hnum := toNat_commandPayload r
  refine ⟨BitVec.eq_of_toNat_eq ?_, BitVec.eq_of_toNat_eq ?_, fun hdst hop => BitVec.eq_of_toNat_eq ?_⟩
  · rw [toNat_extract, hnum, BitVec.toNat_ofNat]
    omega
  · rw [toNat_extract, hnum, BitVec.toNat_ofNat]
    omega
  · rw [if_pos ⟨hdst, hop⟩] at hnum
    rw [toNat_extract, toNat_extract, hnum]
    omega

theorem mem_reqFlitsOf {r : Req} {f : Flit} (h : f ∈ reqFlitsOf r) : ∃ more p, f = mkFlit (requestHead r more) p := by
  rw [reqFlitsOf_eq] at h
  split at h
  · rcases List.mem_pair.mp h with rfl | rfl
    · exact ⟨_, _, rfl⟩
    · exact ⟨_, _, rfl⟩
  · exact ⟨_, _, List.mem_singleton.mp h⟩

theorem reqFlitsOf_carry (r : Req) (hdst : r.dst < 2 ^ 13) (hsrc : r.src < 2 ^ 13) (htxn : r.txn < 256) (hcls : r.tag.cls < 8)
    (hid : r.tag.id < 32) :
    let fs := reqFlitsOf r
    let write := r.op = .write ∧ r.dst ≠ hubEp
    (fs.length = if write then 2 else 1) ∧ fs.map (fun f => (flitHead f).more) = (if write then [true, false] else [false]) ∧
    (∀ f ∈ fs, ∃ more, flitHead f = requestHead r more) ∧
    (∀ f : Flit, fs.head? = some f → (flitPayload f).extractLsb' 0 48 = BitVec.ofNat 48 r.da ∧
      (flitPayload f).extractLsb' 48 6 = BitVec.ofNat 6 (r.len - 1)) ∧
    (r.dst = hubEp → r.op = .write → ∀ f : Flit, fs.head? = some f →
      (flitPayload f).extractLsb' 64 32 = r.data.extractLsb' (8 * (r.da % 64 / 4 * 4)) 32) ∧
    (write → fs.getLast?.map flitPayload = some r.data) ∧
    crcFails fs none = false ∧ ∀ k : Fin 1152, k.val < 576 * fs.length → crcFails fs (some k) = true := by
  have hhead (more : Bool) (p : Line) : flitHead (mkFlit (requestHead r more) p) = requestHead r more :=
    flitHead_mkFlit (fits_requestHead hdst hsrc htxn hcls hid more) p
  obtain ⟨hda, hlen, hval⟩ := fields_commandPayload r
  have hgood := List.all_eq_true.mp (reqFlitsOf_good r)
  refine ⟨?_, ?_, fun f hf => ?_, fun f hf => ?_, fun hd hop f hf => ?_, fun hw => ?_, crcFails_none r, fun k hk => crcFails_damaged hgood hk⟩
  · rw [reqFlitsOf_eq]
    split <;> rfl
  · rw [reqFlitsOf_eq]
    split <;> simp only [List.map_cons, List.map_nil, hhead] <;> rfl
  · obtain ⟨more, p, rfl⟩ := mem_reqFlitsOf hf
    exact ⟨more, hhead more p⟩
  · rw [head?_reqFlitsOf hf]
    exact ⟨hda, hlen⟩
  · rw [head?_reqFlitsOf hf]
    exact hval hd hop
  · rw [reqFlitsOf_eq, if_pos hw]
    exact congrArg some (flitPayload_mkFlit _ _)

/-- What the flit of an error carries (R77). -/
theorem fields_errorPayload (da c d : Nat) :
    (answerBits da (.error c d)).2.extractLsb' 0 8 = BitVec.ofNat 8 c ∧ (answerBits da (.error c d)).2.extractLsb' 8 8 = BitVec.ofNat 8 d ∧
    (answerBits da (.error c d)).2.extractLsb' 64 48 = BitVec.ofNat 48 da := by
  have hnum : (answerBits da (.error c d)).2.toNat = c % 256 + d % 256 * 2 ^ 8 + da % 2 ^ 48 * 2 ^ 64 := by
    rw [answerBits, BitVec.toNat_ofNat]
    omega
  refine ⟨?_, ?_, ?_⟩ <;> refine BitVec.eq_of_toNat_eq ?_ <;> rw [toNat_extract, hnum, BitVec.toNat_ofNat] <;> omega

/-- The header of the flit of a response. -/
def responseHead (r : Resp) : FlitHead :=
  ⟨1, match r.ans with
    | .data _ => 0
    | .poisoned _ => 1
    | .ack => 2
    | .error _ _ => 3, r.dst, r.src, r.txn, r.tag.cls, r.tag.id, false⟩

theorem respFlitsOf_eq (da : Nat) (r : Resp) : respFlitsOf da r = [mkFlit (responseHead r) (answerBits da r.ans).2] := by
  unfold respFlitsOf responseHead
  cases r.ans <;> rfl

theorem respFlitsOf_carry (r : Resp) (da : Nat) (hdst : r.dst < 2 ^ 13) (hsrc : r.src < 2 ^ 13) (htxn : r.txn < 256) (hcls : r.tag.cls < 8)
    (hid : r.tag.id < 32) :
    let fs := respFlitsOf da r
    fs.map flitHead = [responseHead r] ∧
    (∀ f ∈ fs, match r.ans with
      | .data d => flitPayload f = d
      | .poisoned d => flitPayload f = d
      | .ack => True
      | .error c d => (flitPayload f).extractLsb' 0 8 = BitVec.ofNat 8 c ∧ (flitPayload f).extractLsb' 8 8 = BitVec.ofNat 8 d ∧
          (flitPayload f).extractLsb' 64 48 = BitVec.ofNat 48 da) ∧
    crcFails fs none = false ∧ ∀ k : Fin 1152, k.val < 576 → crcFails fs (some k) = true := by
  have hop : (responseHead r).op < 8 := by
    cases h : r.ans <;> simp [responseHead, h]
  have hfits : (responseHead r).Fits := ⟨(by decide : 1 < 4), hop, hdst, hsrc, htxn, hcls, hid⟩
  rw [respFlitsOf_eq]
  have hgood : ∀ f ∈ [mkFlit (responseHead r) (answerBits da r.ans).2], flitGood f = true :=
    fun f hf => by rw [List.mem_singleton.mp hf, flitGood_mkFlit]
  refine ⟨congrArg (fun h => [h]) (flitHead_mkFlit hfits _), fun f hf => ?_, crcFails_undamaged hgood, fun k hk => crcFails_damaged hgood hk⟩
  rw [List.mem_singleton.mp hf, flitPayload_mkFlit]
  cases r.ans with
  | data d => rfl
  | poisoned d => rfl
  | ack => trivial
  | error c d => exact fields_errorPayload da c d

/-- The header of the flit of a snoop or of its response (R270). -/
def snoopHead (src dst op : Nat) (more : Bool) : FlitHead := ⟨2, op, dst, src, 0, 0, 0, more⟩

theorem fits_snoopHead {src dst op : Nat} (hsrc : src < 2 ^ 13) (hdst : dst < 2 ^ 13) (hop : op < 8) (more : Bool) :
    (snoopHead src dst op more).Fits :=
  ⟨(by decide : 2 < 4), hop, hdst, hsrc, (by decide : 0 < 256), (by decide : 0 < 8), (by decide : 0 < 32)⟩

theorem snoopFlits_carry (src dst line : Nat) (inv shared : Bool) (data : Option Line) (hsrc : src < 2 ^ 13) (hdst : dst < 2 ^ 13)
    (hline : 64 * line < 2 ^ 48) :
    flitHead (snoopFlit src dst line inv) = ⟨2, if inv then 0 else 1, dst, src, 0, 0, 0, false⟩ ∧
    (flitPayload (snoopFlit src dst line inv)).toNat = 64 * line ∧
    (let h (more : Bool) : FlitHead := ⟨2, 4 + b2n shared + 2 * b2n data.isSome, dst, src, 0, 0, 0, more⟩
     (snoopRespFlits src dst line shared data).map flitHead = if data.isSome = true then [h true, h false] else [h false]) ∧
    ∀ d : Line, data = some d → (snoopRespFlits src dst line shared data).getLast?.map flitPayload = some d := by
  have hop : snoopOp inv < 8 := by cases inv <;> decide
  have hrespOp : snoopRespOp shared data.isSome < 8 := by cases shared <;> cases data.isSome <;> decide
  have hhead (more : Bool) (p : Line) :
      flitHead (mkFlit (snoopHead src dst (snoopRespOp shared data.isSome) more) p) = snoopHead src dst (snoopRespOp shared data.isSome) more :=
    flitHead_mkFlit (fits_snoopHead hsrc hdst hrespOp more) p
  refine ⟨flitHead_mkFlit (fits_snoopHead hsrc hdst hop false) _, ?_, ?_, fun d hd => ?_⟩
  · rw [snoopFlit, flitPayload_mkFlit, BitVec.toNat_ofNat]
    omega
  · cases data with
    | none => exact congrArg (fun h => [h]) (hhead false _)
    | some d => exact congrArg₂ (fun h h' => [h, h']) (hhead true _) (hhead false _)
  · subst hd
    exact congrArg some (flitPayload_mkFlit _ _)

/-- Settles O5: a flit is its payload, its CRC and its header one after the other, so each field is read back from its place; and a good flit has
an even number of ones, which no odd number of wrong bits leaves. -/
theorem flitsCarryTheirFieldsAndShowDamage : Obligations.FlitsCarryTheirFieldsAndShowDamage := by
  unfold Obligations.FlitsCarryTheirFieldsAndShowDamage
  refine ⟨fun h p hcls hop hdst hsrc htxn hrqc hrqid => ?_, fun f e hf he => ?_, fun r => reqFlitsOf_carry r,
    fun r da => respFlitsOf_carry r da, fun src dst line inv shared data => snoopFlits_carry src dst line inv shared data⟩
  · have hf : h.Fits := ⟨hcls, hop, hdst, hsrc, htxn, hrqc, hrqid⟩
    obtain ⟨n0, n2, n5, n18, n31, n39, n42, n47, n48, n64⟩ := fields_mkFlit hf p
    exact ⟨n0, n2, n5, n18, n31, n39, n42, n47, n48, n64, flitHead_mkFlit hf p, flitPayload_mkFlit h p, flitGood_mkFlit h p⟩
  · exact flitGood_xor_odd hf ((parityOf_eq_count _ _).trans (by rw [he]; rfl))

end Sys2Proof.Machine

/-! ### Responses at their sources (R75, R79, R90, R94, R99) -/

namespace Sys2Proof.Machine
open Sys2Proof

/-- Fields that share no bit of their register are apart in all copies. -/
theorem Fld.apart_of_places {f g : Fld} (h : f.reg ≠ g.reg ∨ f.lo + f.width ≤ g.lo ∨ g.lo + g.width ≤ f.lo) (i j : Nat) : f.apart g i j :=
  h.imp id Or.inr

theorem crcFails_respFlitsOf_none (da : Nat) (p : Resp) : crcFails (respFlitsOf da p) none = false := by
  rw [respFlitsOf_eq]
  exact crcFails_undamaged fun f hf => by rw [List.mem_singleton.mp hf, flitGood_mkFlit]

theorem crcFails_respFlitsOf_some (da : Nat) (p : Resp) {k : Fin 1152} (hk : k.val < 576) :
    crcFails (respFlitsOf da p) (some k) = true := by
  rw [respFlitsOf_eq]
  exact crcFails_damaged (fun f hf => by rw [List.mem_singleton.mp hf, flitGood_mkFlit]) hk

/-- The state `s` with response `p` taken off the network, the messages on their way being `l`. -/
def delivered (s : State) (p : Resp) (l : List Transit) : State :=
  { s with net := { s.net with way := l, resps := s.net.resps.erase p } }

theorem takeResp_of_movesOnly {s u : State} (p : Resp) (h : MovesOnly s u) : ∃ l, takeResp p u = delivered s p l := by
  obtain ⟨l, rfl⟩ := h
  exact ⟨_, rfl⟩

/-- A response that has come and found its request is checked, and completes the request within its window. -/
theorem responseArrives_eq {s : State} {src txn : Nat} {p : Resp} (ha : respArriving s src txn = some p)
    (hr : (reach (.resp src txn) s).isSome = true) (damage : Option (Fin 1152)) :
    ∃ l, (∀ k : Fin 1152, damage = some k → k.val < 576 →
        responseArrives (answerKind p.ans) src txn damage s = crcDrop (delivered s p l)) ∧
      ∀ o, damage = none → outstOf s src txn = some o → s.expired o.sentAt o.window = false →
        responseArrives (answerKind p.ans) src txn damage s = completeAt o.who o.req p.ans p.grant (takeOutst o (delivered s p l)) := by
  obtain ⟨u, hu⟩ := Option.isSome_iff_exists.mp hr
  obtain ⟨l, hl⟩ := takeResp_of_movesOnly p (movesOnly_reach _ s u hu)
  refine ⟨l, fun k hd hk => ?_, fun o hd ho hwindow => ?_⟩
  · unfold responseArrives
    rw [ha]
    dsimp only
    rw [if_neg (not_not_intro rfl), hu]
    dsimp only
    rw [hd, crcFails_respFlitsOf_some _ p hk, if_pos rfl, hl]
  · unfold responseArrives
    rw [ha]
    dsimp only
    rw [if_neg (not_not_intro rfl), hu]
    dsimp only
    rw [hd, crcFails_respFlitsOf_none, if_neg Bool.false_ne_true, ho]
    dsimp only
    rw [hwindow, if_neg Bool.false_ne_true, hl]

/-- A response acts as it arrives, as its kind says. -/
theorem exec_response {src : BitVec 13} {txn : BitVec 8} {d : Option (Fin 1152)} {p : Resp} {c : RespKind × Instr}
    (hc : c ∈ [(RespKind.data, Instr.data src txn d), (.poisoned, .dataPoisoned src txn d), (.ack, .ack src txn d), (.error, .error src txn d)])
    (hkind : answerKind p.ans = c.1) (s : State) :
    exec c.2 s = done (responseArrives (answerKind p.ans) src.toNat txn.toNat d s) := by
  rw [hkind]
  simp only [List.mem_cons, List.not_mem_nil, or_false] at hc
  rcases hc with rfl | rfl | rfl | rfl <;> rfl

/-- A port's state registers change no other field of the device. -/
theorem rd_portRegs (a : Nat) (s : State) {f : Fld} (i : Nat)
    (h : ∀ g ∈ [F.KRV_AP.OUTST, F.KRV_AP.QUAR, F.KRV_AP.DRAINED], g.reg ≠ f.reg ∨ g.lo + g.width ≤ f.lo ∨ f.lo + f.width ≤ g.lo) :
    (portRegs a s).rd f i = s.rd f i := by
  have hp (g) (hg : g ∈ [F.KRV_AP.OUTST, F.KRV_AP.QUAR, F.KRV_AP.DRAINED]) : g.apart f a i := Fld.apart_of_places (h g hg) a i
  unfold portRegs
  rw [rd_wr_other _ _ _ _ _ _ (hp _ (by decide)), rd_wr_other _ _ _ _ _ _ (hp _ (by decide)), rd_wr_other _ _ _ _ _ _ (hp _ (by decide))]

theorem net_portRegs (a : Nat) (s : State) : (portRegs a s).net = s.net := rfl

/-- The response store of port `a` with response `p` more. -/
def storedAt (a : Nat) (p : Resp) (s : State) : State :=
  { s with net := { s.net with apStore := sset [] s.net.apStore a (sget [] s.net.apStore a ++ [p]) } }

/-- A port that is open stores the response to its request. -/
theorem portTakes_of_open {a : Nat} {s : State} (h : s.flag F.KRV_AP.CLOSED a = false) (p : Resp) : portTakes a p s = storedAt a p s :=
  if_neg (by rw [h]; exact Bool.false_ne_true)

theorem store_storedAt (a : Nat) (p : Resp) (s : State) : sget [] (storedAt a p s).net.apStore a = sget [] s.net.apStore a ++ [p] :=
  sget_sset_self ..

/-- The state `s` with an outstanding request off its list. -/
def unlisted (o : Outst) (s : State) : State := { s with net := { s.net with outst := s.net.outst.erase o } }

/-- A port's request leaves its list. -/
theorem takeOutst_of_port {o : Outst} {a : Nat} (h : o.who = .port a) (s : State) :
    takeOutst o s = portRegs a (unlisted o s) := by
  rw [takeOutst, h]
  rfl

theorem closed_portRegs (a : Nat) (s : State) : (portRegs a s).flag F.KRV_AP.CLOSED a = s.flag F.KRV_AP.CLOSED a :=
  congrArg (· != 0) (rd_portRegs a s a (by decide))

section
variable {s : State} {src : BitVec 13} {txn : BitVec 8} {p : Resp}

theorem response_completes (ha : respArriving s src.toNat txn.toNat = some p) (hr : (reach (.resp src.toNat txn.toNat) s).isSome = true)
    {o : Outst} {a : Nat} (ho : outstOf s src.toNat txn.toNat = some o) (hwho : o.who = .port a)
    (hwindow : s.expired o.sentAt o.window = false) (hopen : s.flag F.KRV_AP.CLOSED a = false) {c : RespKind × Instr}
    (hc : c ∈ [(RespKind.data, Instr.data src txn none), (.poisoned, .dataPoisoned src txn none), (.ack, .ack src txn none),
      (.error, .error src txn none)]) (hkind : answerKind p.ans = c.1) :
    Completes c.2 s fun t =>
      t.net.resps = s.net.resps.erase p ∧ t.net.outst = s.net.outst.erase o ∧
      sget [] t.net.apStore a = sget [] s.net.apStore a ++ [⟨o.req.dst, o.req.src, o.req.txn, o.req.tag, p.ans, p.grant⟩] := by
  obtain ⟨l, _, hdone⟩ := responseArrives_eq ha hr none
  refine Completes.of_eq ((exec_response hc hkind s).trans (congrArg done (hdone o rfl ho hwindow))) ?_
  rw [hwho, completeAt, takeOutst_of_port hwho, portTakes_of_open ((closed_portRegs a (unlisted o (delivered s p l))).trans hopen)]
  exact ⟨rfl, rfl, store_storedAt ..⟩

theorem damagedResponse_completes (ha : respArriving s src.toNat txn.toNat = some p)
    (hr : (reach (.resp src.toNat txn.toNat) s).isSome = true) {k : Fin 1152} (hk : k.val < 576) {c : RespKind × Instr}
    (hc : c ∈ [(RespKind.data, Instr.data src txn (some k)), (.poisoned, .dataPoisoned src txn (some k)), (.ack, .ack src txn (some k)),
      (.error, .error src txn (some k))]) (hkind : answerKind p.ans = c.1) :
    Completes c.2 s fun t =>
      t.net.resps = s.net.resps.erase p ∧ t.net.outst = s.net.outst ∧
      t.rd F.KRV_CRCDROP.COUNT 0 = min (s.rd F.KRV_CRCDROP.COUNT 0 + 1) (2 ^ F.KRV_CRCDROP.COUNT.width - 1) := by
  obtain ⟨l, hdrop, _⟩ := responseArrives_eq ha hr (some k)
  exact Completes.of_eq ((exec_response hc hkind s).trans (congrArg done (hdrop k rfl hk)))
    ⟨rfl, rfl, rd_satAdd_same _ _ _ _ (by decide)⟩

/-- The first error after the log is cleared is recorded (R99). -/
theorem rd_netError {s : State} {code : Nat} (hcode : netLogged code = true) (hwidth : code < 2 ^ F.KRV_ELOG0.CODE.width)
    (hvalid : s.flag F.KRV_ELOG0.VALID 0 = false) (detail src da : Nat) :
    (netError code detail src da s).flag F.KRV_ELOG0.VALID 0 = true ∧ (netError code detail src da s).rd F.KRV_ELOG0.CODE 0 = code := by
  have hmod : code % 2 ^ F.KRV_ELOG0.CODE.width = code := Nat.mod_eq_of_lt hwidth
  rw [netError, hcode, if_pos rfl, netLog, hvalid, if_neg Bool.false_ne_true]
  dsimp only
  simp (disch := decide) only [flag_wr_other, flag_on_same, rd_wr_other, rd_on_other, rd_wr_same, hmod, and_self]

/-- An event raised where its enable is set. -/
def raisedIf (b : Bool) (n : Nat) (s : State) : State := if b then raise n s else s

theorem keeps_raisedIf (b : Bool) (n : Nat) (s : State) :
    Keeps 0x80000000000000000000000000000000000000000000000000000000000000000000000 0x21 s (raisedIf b n s) := by
  unfold raisedIf
  split
  · exact keeps_raise ..
  · exact Keeps.refl s

/-- The state `s` with the TXN of a request quarantined. -/
def quarantined (o : Outst) (s : State) : State := { s with net := { s.net with quar := s.net.quar ++ [(o.req.src, o.req.txn)] } }

/-- A port's request that has waited for its whole window ends with code 0x08. -/
theorem exec_timeout {o : Outst} {a : Nat} (ho : outstOf s src.toNat txn.toNat = some o) (hwho : o.who = .port a)
    (hwindow : s.expired o.sentAt o.window = true) : ∃ b, exec (.timeout src txn) s =
      done (raisedIf b 9 (portTakes a ⟨o.req.dst, o.req.src, o.req.txn, o.req.tag, .error 8 0, .none⟩
        (netError 8 0 o.req.src o.req.da (portRegs a (unlisted o (quarantined o s)))))) := by
  have hguard : (!isWindowRead o && s.expired o.sentAt o.window) = true := by rw [isWindowRead, hwho, hwindow]; rfl
  rw [show exec (.timeout src txn) s = execTimeout src txn s from rfl, execTimeout, ho]
  dsimp only
  rw [guarded_true hguard, hwho, completeAt, takeOutst_of_port hwho]
  exact ⟨_, rfl⟩

theorem timeout_completes {o : Outst} {a : Nat} (ho : outstOf s src.toNat txn.toNat = some o) (hwho : o.who = .port a)
    (hwindow : s.expired o.sentAt o.window = true) (hopen : s.flag F.KRV_AP.CLOSED a = false) :
    Completes (.timeout src txn) s fun t =>
      t.net.outst = s.net.outst.erase o ∧ t.net.quar = s.net.quar ++ [(o.req.src, o.req.txn)] ∧
      sget [] t.net.apStore a = sget [] s.net.apStore a ++ [⟨o.req.dst, o.req.src, o.req.txn, o.req.tag, .error 8 0, .none⟩] ∧
      (s.flag F.KRV_ELOG0.VALID 0 = false → t.flag F.KRV_ELOG0.VALID 0 = true ∧ t.rd F.KRV_ELOG0.CODE 0 = 8) := by
  obtain ⟨b, hexec⟩ := exec_timeout ho hwho hwindow
  have hlog := keeps_netError 8 0 o.req.src o.req.da (portRegs a (unlisted o (quarantined o s)))
  have hnet : (netError 8 0 o.req.src o.req.da (portRegs a (unlisted o (quarantined o s)))).net = (unlisted o (quarantined o s)).net :=
    hlog.part .net rfl
  have hvalid : (portRegs a (unlisted o (quarantined o s))).flag F.KRV_ELOG0.VALID 0 = s.flag F.KRV_ELOG0.VALID 0 :=
    congrArg (· != 0) (rd_portRegs a _ 0 (by decide))
  rw [portTakes_of_open (((hlog.flag _ _ rfl).trans (closed_portRegs a _)).trans hopen)] at hexec
  have hraise := keeps_raisedIf b 9 (storedAt a ⟨o.req.dst, o.req.src, o.req.txn, o.req.tag, .error 8 0, .none⟩
    (netError 8 0 o.req.src o.req.da (portRegs a (unlisted o (quarantined o s)))))
  refine Completes.of_eq hexec ⟨?_, ?_, ?_, fun hfree => ?_⟩
  · rw [hraise.part .net rfl]
    exact congrArg NetState.outst hnet
  · rw [hraise.part .net rfl]
    exact congrArg NetState.quar hnet
  · rw [hraise.part .net rfl, store_storedAt, hnet]
    rfl
  · rw [hraise.flag _ _ rfl, hraise.rd _ _ rfl]
    exact rd_netError rfl (by decide) (hvalid.trans hfree) 0 _ _

/-- The TXN of a quarantined request free again (R94). -/
def freed (src txn : Nat) (s : State) : State :=
  { s with net := { s.net with
    quar := s.net.quar.erase (src, txn)
    lateWin := s.net.lateWin.filter (fun (e : Nat × Nat × Nat) => !(e.1 == src && e.2.1 == txn)) } }

/-- A late response to a window read counted at its window (R218). -/
def lateCounted (e : Option (Nat × Nat × Nat)) (s : State) : State :=
  match e with
  | some e => s.satAdd F.TMB_TW_LATE.VALUE e.2.2 1
  | none => s

theorem keeps_lateCounted (e : Option (Nat × Nat × Nat)) (s : State) :
    Keeps 0x80000000000000000000000 0 s (lateCounted e s) := by
  cases e with
  | some e => exact keeps_satAdd ..
  | none => exact Keeps.refl s

/-- The registers of the port that waited for a response. -/
def lateRegs (a : Option Nat) (s : State) : State :=
  match a with
  | some a => portRegs a s
  | none => s

theorem net_lateRegs (a : Option Nat) (s : State) : (lateRegs a s).net = s.net := by cases a <;> rfl

theorem exec_lateResponse (ha : respArriving s src.toNat txn.toNat = some p) (hr : (reach (.resp src.toNat txn.toNat) s).isSome = true)
    (hquar : s.net.quar.contains (src.toNat, txn.toNat) = true) (hnone : outstOf s src.toNat txn.toNat = none) :
    ∃ l e a, exec (.lateResponse src txn) s =
      done (lateRegs a ((lateCounted e (freed src.toNat txn.toNat (delivered s p l))).satAdd F.KRV_LATE.COUNT 0 1)) := by
  obtain ⟨u, hu⟩ := Option.isSome_iff_exists.mp hr
  obtain ⟨l, hl⟩ := takeResp_of_movesOnly p (movesOnly_reach _ s u hu)
  rw [show exec (.lateResponse src txn) s = execLateResponse src txn s from rfl, execLateResponse, ha]
  dsimp only
  rw [guarded_true (by rw [hquar, hnone, hu]; rfl), hu, Option.getD_some, hl]
  generalize s.net.lateWin.find? _ = e
  generalize (List.range 640).find? _ = a
  exact ⟨l, e, a, rfl⟩

theorem lateResponse_completes (ha : respArriving s src.toNat txn.toNat = some p)
    (hr : (reach (.resp src.toNat txn.toNat) s).isSome = true) (hquar : s.net.quar.contains (src.toNat, txn.toNat) = true)
    (hnone : outstOf s src.toNat txn.toNat = none) :
    Completes (.lateResponse src txn) s fun t =>
      t.net.resps = s.net.resps.erase p ∧ t.net.quar = s.net.quar.erase (src.toNat, txn.toNat) ∧ t.net.apStore = s.net.apStore ∧
      t.rd F.KRV_LATE.COUNT 0 = min (s.rd F.KRV_LATE.COUNT 0 + 1) (2 ^ F.KRV_LATE.COUNT.width - 1) := by
  obtain ⟨l, e, a, hexec⟩ := exec_lateResponse ha hr hquar hnone
  have hlate := keeps_lateCounted e (freed src.toNat txn.toNat (delivered s p l))
  refine Completes.of_eq hexec ?_
  rw [net_lateRegs, satAdd_net, hlate.part .net rfl]
  refine ⟨rfl, rfl, rfl, ?_⟩
  have hregs (u : State) : (lateRegs a u).rd F.KRV_LATE.COUNT 0 = u.rd F.KRV_LATE.COUNT 0 := by
    cases a with
    | some a => exact rd_portRegs a u 0 (by decide)
    | none => rfl
  rw [hregs, rd_satAdd_same _ _ _ _ (by decide), hlate.rd _ _ rfl]
  rfl

end

/-- Settles O8: the way to the source moves messages only; there the response and its request leave their lists, and the port's registers and
the log are apart from what the port stores. -/
theorem responsesCompleteTheirRequests : Obligations.ResponsesCompleteTheirRequests := by
  unfold Obligations.ResponsesCompleteTheirRequests
  exact ⟨fun s src txn p o a ha hr ho hwho hwindow hopen c hc hkind => response_completes ha hr ho hwho hwindow hopen hc hkind,
    fun s src txn p k ha hr hk c hc hkind => damagedResponse_completes ha hr hk hc hkind,
    fun s src txn o a ho hwho hwindow hopen => timeout_completes ho hwho hwindow hopen,
    fun s src txn p ha hr hquar hnone => lateResponse_completes ha hr hquar hnone⟩

end Sys2Proof.Machine

/-! ### Requests put into the network (R83, R89, R94) -/

namespace Sys2Proof.Machine
open Sys2Proof

theorem movesOnly_netEnter (who : Who) (r : Req) (s : State) : MovesOnlyP s (netEnter who r s) := by
  cases who with
  | port a => exact movesOnly_post _ _ _ _ _ s
  | _ => exact movesOnly_launch _ _ _ _ _ _ s

/-- The state `s` with request `r` of a source on its list and in the network, the messages on their way being `l`. -/
def entered (who : Who) (window : Nat) (r : Req) (l : List Transit) (s : State) : State :=
  whoRegs who { s with net := { s.net with way := l, reqs := s.net.reqs ++ [r], outst := s.net.outst ++ [⟨who, r, s.dtcNow, window⟩] } }

/-- A request that finds room is put on its list; what else changes is what moves for it. -/
theorem netPut_eq (who : Who) (window : Nat) (r : Req) (s : State) :
    netPut who window r s = (netEnter who r s).map fun u => entered who window r u.net.way s := by
  unfold netPut
  refine Option.map_congr fun u hu => ?_
  obtain ⟨l, rfl⟩ := movesOnly_netEnter who r s u hu
  rfl

theorem net_whoRegs (who : Who) (s : State) : (whoRegs who s).net = s.net := by
  cases who <;> rfl

theorem net_entered (who : Who) (window : Nat) (r : Req) (l : List Transit) (s : State) :
    (entered who window r l s).net = { s.net with
      way := l
      reqs := s.net.reqs ++ [r]
      outst := s.net.outst ++ [⟨who, r, s.dtcNow, window⟩] } := net_whoRegs ..

/-- What a source does with a request that the network takes, or has no room for. -/
def sentOrWaits (who : Who) (r : Req) (s : State) : Admit :=
  match netEnter who r s with
  | some u => .sent (entered who (tmoWindow s) r u.net.way s)
  | none => .waits

/-- A request within a line of a vault that a route leads to is sent, or waits for room (R83, R89). -/
theorem netAdmit_vault {who : Who} {tag : Tag} {op : NetOp} {src txn da len v off : Nat} {data : Line} {s : State} {path : List Nat}
    (hlen : len ≠ 0) (hline : da % 64 + len ≤ 64) (hpl : decodeDa s da = .vault v off)
    (hroute : leafRoute s (epLeaf src) (epLeaf (vaultEp v)) = some path) :
    netAdmit who tag op src (some txn) da len data s = sentOrWaits who ⟨op, src, vaultEp v, txn, tag, da, len, data, .none⟩ s := by
  have hspan : ¬ (len = 0 ∨ 64 < da % 64 + len) := by omega
  unfold netAdmit
  rw [if_neg hspan, hpl]
  dsimp only
  unfold netSend
  dsimp only [placeEp]
  rw [hroute, netPut_eq, sentOrWaits]
  cases netEnter who _ s <;> rfl

/-- A request to no target is answered at its source (R83). -/
theorem netAdmit_unmapped {who : Who} {tag : Tag} {op : NetOp} {src da len : Nat} {txn : Option Nat} {data : Line} {s : State}
    (hlen : len ≠ 0) (hline : da % 64 + len ≤ 64) (hpl : decodeDa s da = .unmapped) :
    netAdmit who tag op src txn da len data s = .answered 1 0 (netError 1 0 src da s) := by
  have hspan : ¬ (len = 0 ∨ 64 < da % 64 + len) := by omega
  unfold netAdmit
  rw [if_neg hspan, hpl]
  rfl

/-! ### Access ports (R83, R89–R91) -/

section
variable {s : State} {a : Fin 640}

/-- What a port does with a request once it has a TXN and room for the response. -/
def portAdmits (a : Fin 640) (txn : Nat) (tag : Tag) (x : Admit) (s : State) : State :=
  match x with
  | .sent t => t
  | .answered code detail t => portTakes a ⟨portEp a, portEp a, txn, tag, .error code detail, .none⟩ t
  | .waits => s

/-- The tag of the requests of a port's sector (R31). -/
def portTag (s : State) (a : Nat) : Tag := ⟨1, sectorId s (a / 2)⟩

/-- A request that enters the network is on the port's list; one that does not changes nothing. -/
theorem portAdmits_sentOrWaits (a : Fin 640) (txn : Nat) (tag : Tag) (r : Req) (s : State) :
    match netEnter (.port a) r s with
    | some u => (portAdmits a txn tag (sentOrWaits (.port a) r s) s).net.reqs = s.net.reqs ++ [r] ∧
        (portAdmits a txn tag (sentOrWaits (.port a) r s) s).net.way = u.net.way ∧
        (portAdmits a txn tag (sentOrWaits (.port a) r s) s).net.outst =
          s.net.outst ++ [⟨.port a, r, s.dtcNow, 1000 * s.rd F.KRV_TMO.TMO 0⟩]
    | none => portAdmits a txn tag (sentOrWaits (.port a) r s) s = s := by
  unfold sentOrWaits
  cases netEnter (.port a) r s with
  | some u => exact ⟨rfl, rfl, rfl⟩
  | none => rfl

theorem exec_accessPortRequest {write : Bool} {txn len : Fin 64} {da : BitVec 48} {data : Line}
    (htxn : txnTaken s (portEp a) txn = false) (hopen : s.flag F.KRV_AP.CLOSED a = false)
    (hroom : storeUsed s a + (s.net.outst.filter (fun o => o.req.src == portEp a)).length < 64) :
    exec (.accessPortRequest a write txn da len data) s = done (if apClockOk s a then
      portAdmits a txn (portTag s a) (netAdmit (.port a) (portTag s a) (if write then .write else .read) (portEp a) (some txn.val) da.toNat
        (len.val + 1) (if write then data else 0) s) s else s) := by
  have hguard : (apClockOk s a && !txnTaken s (portEp a) txn &&
      decide (storeUsed s a + (s.net.outst.filter (fun o => o.req.src == portEp a)).length < 64) && !s.flag F.KRV_AP.CLOSED a) =
      apClockOk s a := by simp [htxn, hopen, hroom]
  rw [show exec (.accessPortRequest a write txn da len data) s = execAccessPortRequest a write txn da len data s from rfl,
    execAccessPortRequest]
  dsimp only
  rw [hguard]
  rfl

theorem accessPortRequest_sent {write : Bool} {txn len : Fin 64} {da : BitVec 48} {data : Line} {v off : Nat} {path : List Nat}
    (htxn : txnTaken s (portEp a) txn = false) (hopen : s.flag F.KRV_AP.CLOSED a = false)
    (hroom : storeUsed s a + (s.net.outst.filter (fun o => o.req.src == portEp a)).length < 64)
    (hline : da.toNat % 64 + (len.val + 1) ≤ 64) (hpl : decodeDa s da.toNat = .vault v off)
    (hroute : leafRoute s (epLeaf (portEp a)) (epLeaf (vaultEp v)) = some path) :
    Completes (.accessPortRequest a write txn da len data) s fun t =>
      if apClockOk s a = true then
        let r : Req := ⟨if write then .write else .read, portEp a, vaultEp v, txn, ⟨1, sectorId s (a / 2)⟩, da.toNat, len + 1,
          if write then data else 0, .none⟩
        match netEnter (.port a) r s with
        | some u => t.net.reqs = s.net.reqs ++ [r] ∧ t.net.way = u.net.way ∧
          t.net.outst = s.net.outst ++ [⟨.port a, r, s.dtcNow, 1000 * s.rd F.KRV_TMO.TMO 0⟩]
        | none => t = s
      else t = s := by
  refine Completes.of_eq (exec_accessPortRequest htxn hopen hroom) ?_
  rw [netAdmit_vault (Nat.add_one_ne_zero _) hline hpl hroute]
  cases apClockOk s a with
  | false => exact rfl
  | true =>
    rw [if_pos rfl, if_pos rfl]
    exact portAdmits_sentOrWaits a txn (portTag s a) _ s

theorem accessPortRequest_unmapped {write : Bool} {txn len : Fin 64} {da : BitVec 48} {data : Line}
    (htxn : txnTaken s (portEp a) txn = false) (hopen : s.flag F.KRV_AP.CLOSED a = false)
    (hroom : storeUsed s a + (s.net.outst.filter (fun o => o.req.src == portEp a)).length < 64)
    (hline : da.toNat % 64 + (len.val + 1) ≤ 64) (hpl : decodeDa s da.toNat = .unmapped) :
    Completes (.accessPortRequest a write txn da len data) s fun t =>
      if apClockOk s a = true then
        t.net.reqs = s.net.reqs ∧ (s.flag F.KRV_ELOG0.VALID 0 = false → t.rd F.KRV_ELOG0.CODE 0 = 1) ∧
        sget [] t.net.apStore a =
          sget [] s.net.apStore a ++ [⟨portEp a, portEp a, txn, ⟨1, sectorId s (a / 2)⟩, .error 1 0, .none⟩]
      else t = s := by
  refine Completes.of_eq (exec_accessPortRequest htxn hopen hroom) ?_
  rw [netAdmit_unmapped (Nat.add_one_ne_zero _) hline hpl]
  cases apClockOk s a with
  | false => exact rfl
  | true =>
    have hlog := keeps_netError 1 0 (portEp a) da.toNat s
    have hnet : (netError 1 0 (portEp a) da.toNat s).net = s.net := hlog.part .net rfl
    rw [if_pos rfl, if_pos rfl, portAdmits, portTakes_of_open ((hlog.flag _ _ rfl).trans hopen)]
    refine ⟨show (netError 1 0 (portEp a) da.toNat s).net.reqs = _ by rw [hnet], fun hfree => (rd_netError rfl (by decide) hfree 0 _ _).2, ?_⟩
    rw [store_storedAt, hnet]
    rfl

/-- What port `a` shows the fabric design of a response. -/
def portMsg (a : Fin 640) (p : Resp) : OutMsg :=
  match p.ans with
  | .data d => .apResponse a p.txn 0 0 d
  | .poisoned d => .apResponse a p.txn 1 0 d
  | .ack => .apResponse a p.txn 2 0 0
  | .error c _ => .apResponse a p.txn 3 c 0

theorem exec_accessPortResponse {p : Resp} {l : List Resp} (h : sget [] s.net.apStore a = p :: l) :
    exec (.accessPortResponse a) s = done (if apClockOk s a then
      { s with net := { s.net with apStore := sset [] s.net.apStore a l }, out := s.out ++ [portMsg a p] } else s) := by
  rw [show exec (.accessPortResponse a) s = execAccessPortResponse a s from rfl, execAccessPortResponse, h]
  obtain ⟨_, _, _, _, ans, _⟩ := p
  cases ans <;> rfl

theorem accessPortResponse_completes {p : Resp} {l : List Resp} (h : sget [] s.net.apStore a = p :: l) :
    Completes (.accessPortResponse a) s fun t =>
      if apClockOk s a = true then sget [] t.net.apStore a = l ∧ t.out = s.out ++ [portMsg a p] else t = s := by
  refine Completes.of_eq (exec_accessPortResponse h) ?_
  cases apClockOk s a with
  | false => exact rfl
  | true => exact ⟨sget_sset_self .., rfl⟩

end

/-- Settles O9: what the port accepts is decoded at once; a request to a vault enters the network or waits, one to no target is answered from
the port's own store. -/
theorem accessPortsSendAndHandOver : Obligations.AccessPortsSendAndHandOver := by
  unfold Obligations.AccessPortsSendAndHandOver
  exact ⟨fun s a write txn len da data v off path htxn hopen hroom hline hpl hroute =>
      accessPortRequest_sent htxn hopen hroom hline hpl hroute,
    fun s a write txn len da data htxn hopen hroom hline hpl => accessPortRequest_unmapped htxn hopen hroom hline hpl,
    fun s a p l h => accessPortResponse_completes h⟩

end Sys2Proof.Machine

/-! ### Requests at their targets (R77, R79, R89, R150, R199) -/

namespace Sys2Proof.Machine
open Sys2Proof

/-- A request on its way acts as it arrives, a read or a write as its operation says. -/
theorem exec_access {src : BitVec 13} {txn : BitVec 8} {ups : List (List Nat)} {u : Upset} {parity : BitVec 16} {d : Option (Fin 1152)}
    {op : NetOp} {c : NetOp × Instr}
    (hc : c ∈ [(NetOp.read, Instr.read (.flit src txn) ups u parity d), (NetOp.write, Instr.write (.flit src txn) ups u parity d)])
    (hop : op = c.1) (s : State) : exec c.2 s = done (requestArrives op src.toNat txn.toNat ups u parity d s) := by
  subst hop
  rcases List.mem_pair.mp hc with rfl | rfl
  · rfl
  · rfl

section
variable {s : State} {src txn : Nat} {r : Req}

/-- A request that has arrived at a target beside the hub is served there, or dropped where its check fails (R79). -/
theorem requestArrives_of_arriving (ha : arriving s src txn = some r) (hdst : r.dst ≠ hubEp) {s' : State}
    (hu : reach (.req src txn) s = some s') (ups : List (List Nat)) (u : Upset) (parity : BitVec 16) (damage : Option (Fin 1152)) :
    requestArrives r.op src txn ups u parity damage s =
      if crcFails (reqFlitsOf r) damage then crcDrop (takeReq r s') else (serveRequest ups u parity r s').getD s' := by
  unfold requestArrives
  rw [ha]
  dsimp only
  rw [if_neg (by simp [hdst]), hu]

/-- A request that something on its path holds up stays (R89). -/
theorem requestArrives_of_held (hu : reach (.req src txn) s = none) (op : NetOp) (ups : List (List Nat)) (u : Upset) (parity : BitVec 16)
    (damage : Option (Fin 1152)) : requestArrives op src txn ups u parity damage s = s := by
  unfold requestArrives
  cases arriving s src txn with
  | none => rfl
  | some r =>
    dsimp only
    rw [hu]
    split <;> rfl

end

/-! #### Vaults (R150) -/

theorem epLeaf_vaultEp (v : Fin 640) : epLeaf (vaultEp v) = v / 160 := by
  unfold epLeaf vaultEp endpoint
  omega

theorem epRouter_vaultEp (v : Fin 640) : epRouter (vaultEp v) = v / 2 % 80 := by
  unfold epRouter vaultEp endpoint
  omega

theorem epLocal_vaultEp (v : Fin 640) : epLocal (vaultEp v) = 2 + v % 2 := by
  unfold epLocal vaultEp endpoint
  omega

theorem vaultEp_ne_hubEp (v : Fin 640) : vaultEp v ≠ hubEp := by
  unfold vaultEp hubEp endpoint
  omega

theorem endpointDom_vaultEp (v : Fin 640) : endpointDom (vaultEp v) = some (sectorDom (v / 2)) := by
  have hsector : 80 * (v.val / 160) + v / 2 % 80 = v / 2 := by omega
  unfold endpointDom
  dsimp only
  rw [epLeaf_vaultEp, epRouter_vaultEp, if_pos (Nat.mod_lt _ (by decide)), hsector]

/-- A vault that has power takes every request to it. -/
theorem serveRequest_vault {s : State} {r : Req} {v : Fin 640} (hdst : r.dst = vaultEp v) (hdom : domOn s (sectorDom (v / 2)) = true)
    (ups : List (List Nat)) (u : Upset) (parity : BitVec 16) :
    serveRequest ups u parity r s = some (vaultRequest v (r.da % 0x20000) ups r (takeReq r s)) := by
  have hindex : 160 * (v.val / 160) + 2 * (v / 2 % 80) + (2 + v % 2 - 2) = v := by omega
  have hlocal : 2 + v.val % 2 = 2 ∨ 2 + v.val % 2 = 3 := by omega
  unfold serveRequest
  dsimp only
  rw [hdst, endpointDom_vaultEp, epLeaf_vaultEp, epRouter_vaultEp, epLocal_vaultEp, Option.any_some, hdom, Bool.not_true,
    if_neg Bool.false_ne_true, if_pos (Nat.mod_lt _ (by decide)), if_pos hlocal, hindex]

theorem flipTouched_nil (k : MemKind) (i unit off len : Nat) (s : State) : flipTouched k i unit off len [] s = s := by
  rw [flipTouched, List.zip_nil_right]
  rfl

/-- The state with another network. -/
def withNet (n : NetState) (s : State) : State := { s with net := n }

/-- What the network holds has no part in what is stored. -/
theorem writeWords_withNet (k : MemKind) (i unit off len : Nat) (data : Line) (n : NetState) (s : State) :
    writeWords k i unit off len data (withNet n s) = withNet n (writeWords k i unit off len data s) :=
  List.foldl_hom (withNet n) fun _ _ => rfl

/-- A read of a memory leaves its words as they are. -/
theorem code_readWords (k : MemKind) (i unit : Nat) (ws : List Nat) (l : Line) (bad : Bool) (s : State) :
    (readWords k i unit ws l bad s).2.2.mem.code = s.mem.code := by
  induction ws generalizing l bad s with
  | nil => rfl
  | cons w ws ih =>
    have hpost : (if scrubOn s k i then postDirected k i w s else s).mem.code = s.mem.code := by
      unfold postDirected
      dsimp only
      split
      · split <;> rfl
      · rfl
    unfold readWords
    dsimp only
    split
    · exact ih _ _ s
    · exact (ih _ _ _).trans hpost
    · exact ih _ _ s

/-- What a memory answers to an admitted read. -/
def readAnswer (k : MemKind) (i unit : Nat) (r : Req) (off : Nat) (s : State) : Answer :=
  let x := readWords k i unit (touched unit off r.len) 0 false s
  if x.2.1 then .poisoned (laneBytes x.1 (r.da % 64) r.len) else .data (laneBytes x.1 (r.da % 64) r.len)

theorem serveWords_read {k : MemKind} {i unit off : Nat} {r : Req} (hop : r.op = .read) (s : State) :
    serveWords k i unit off r s = respond r (readAnswer k i unit r off s) (readWords k i unit (touched unit off r.len) 0 false s).2.2 := by
  unfold serveWords
  rw [hop]
  rfl

theorem serveWords_write {k : MemKind} {i unit off : Nat} {r : Req} {s : State} (hop : r.op = .write)
    (hfree : writeBlocked s k i unit off r.len = false) :
    serveWords k i unit off r s = respond r .ack (writeWords k i unit off r.len r.data s) := by
  unfold serveWords
  rw [hop]
  dsimp only
  rw [hfree, if_neg Bool.false_ne_true]

/-- An answer goes to the requester; what else changes is what moves for it and what is logged. -/
theorem respond_net (r : Req) (a : Answer) (s : State) :
    (respond r a s).net.reqs = s.net.reqs ∧ (respond r a s).net.resps = s.net.resps ++ [⟨r.dst, r.src, r.txn, r.tag, a, r.intent⟩] := by
  obtain ⟨l, hl⟩ := respond_eq_replied r a s
  rw [hl, replied, net_logAnswer]
  exact ⟨rfl, rfl⟩

section
variable {s s' : State} {src : BitVec 13} {txn : BitVec 8} {r : Req} {v : Fin 640} (u : Upset) (parity : BitVec 16)

theorem vaultRequest_of_open {off : Nat} (hadmit : vaultAdmits s v r.tag = true)
    (hopen : (s.flag F.CFG_SECT.INRGN (v / 2) && s.flag F.CFG_SECT.CLOSED (v / 2)) = false) (husable : usable s .vault v = true) :
    vaultRequest v off [] r s = serveWords .vault v 16 off r s := by
  unfold vaultRequest
  rw [if_pos hadmit, hopen, if_neg Bool.false_ne_true, husable, Bool.not_true, if_neg Bool.false_ne_true, flipTouched_nil]

variable (ha : arriving s src.toNat txn.toNat = some r) (hdst : r.dst = vaultEp v) (hdom : domOn s (sectorDom (v / 2)) = true)
include ha hdst hdom

/-- A sound request that reaches its vault is that vault's, the messages on their way apart from where they were. -/
theorem requestArrives_vault (hu : reach (.req src.toNat txn.toNat) s = some s') :
    (∃ l, takeReq r s' = taken s r l) ∧ requestArrives r.op src.toNat txn.toNat [] u parity none s =
      vaultRequest v (r.da % 0x20000) [] r (takeReq r s') := by
  have hmoved := movesOnly_reach _ s s' hu
  refine ⟨takeReq_of_movesOnly r hmoved, ?_⟩
  obtain ⟨l, rfl⟩ := hmoved
  have hdom' : domOn (s.setWay l) (sectorDom (v / 2)) = true := hdom
  rw [requestArrives_of_arriving ha (hdst ▸ vaultEp_ne_hubEp v) hu, crcFails_none, if_neg Bool.false_ne_true,
    serveRequest_vault hdst hdom', Option.getD_some]

theorem vaultRead_completes (hu : reach (.req src.toNat txn.toNat) s = some s') (hop : r.op = .read) (hadmit : vaultAdmits s v r.tag = true)
    (hopen : (s.flag F.CFG_SECT.INRGN (v / 2) && s.flag F.CFG_SECT.CLOSED (v / 2)) = false) (husable : usable s .vault v = true) :
    Completes (.read (.flit src txn) [] u parity none) s fun t =>
      t.net.reqs = s.net.reqs.erase r ∧ t.mem.code = s.mem.code ∧
      let x := readWords .vault v 16 (touched 16 (r.da % 0x20000) r.len) 0 false (takeReq r s')
      let d := laneBytes x.1 (r.da % 64) r.len
      t.net.resps = s.net.resps ++ [⟨r.dst, r.src, r.txn, r.tag, if x.2.1 then .poisoned d else .data d, r.intent⟩] := by
  obtain ⟨⟨l, hl⟩, hserved⟩ := requestArrives_vault u parity ha hdst hdom hu
  refine Completes.of_eq ((exec_access (List.mem_pair.mpr (.inl rfl)) hop s).trans (congrArg done hserved)) ?_
  rw [hl, vaultRequest_of_open (s := taken s r l) hadmit hopen husable, serveWords_read hop]
  obtain ⟨hreqs, hresps⟩ := respond_net r (readAnswer .vault v 16 r (r.da % 0x20000) (taken s r l))
    (readWords .vault v 16 (touched 16 (r.da % 0x20000) r.len) 0 false (taken s r l)).2.2
  have hread := keeps_readWords .vault v 16 (touched 16 (r.da % 0x20000) r.len) 0 false (taken s r l)
  have hnet := hread.part .net rfl
  have hmem := (keeps_respond r (readAnswer .vault v 16 r (r.da % 0x20000) (taken s r l))
    (readWords .vault v 16 (touched 16 (r.da % 0x20000) r.len) 0 false (taken s r l)).2.2).part .mem rfl
  refine ⟨hreqs.trans (congrArg NetState.reqs hnet), (congrArg MemState.code hmem).trans (code_readWords ..), hresps.trans ?_⟩
  rw [hnet]
  rfl

theorem vaultWrite_completes (hr : (reach (.req src.toNat txn.toNat) s).isSome = true) (hop : r.op = .write)
    (hadmit : vaultAdmits s v r.tag = true)
    (hopen : (s.flag F.CFG_SECT.INRGN (v / 2) && s.flag F.CFG_SECT.CLOSED (v / 2)) = false) (husable : usable s .vault v = true)
    (hfree : writeBlocked s .vault v 16 (r.da % 0x20000) r.len = false) :
    Completes (.write (.flit src txn) [] u parity none) s fun t =>
      t.net.reqs = s.net.reqs.erase r ∧ t.net.resps = s.net.resps ++ [⟨r.dst, r.src, r.txn, r.tag, .ack, r.intent⟩] ∧
      t.mem = (writeWords .vault v 16 (r.da % 0x20000) r.len r.data s).mem := by
  obtain ⟨s', hu⟩ := Option.isSome_iff_exists.mp hr
  obtain ⟨⟨l, hl⟩, hserved⟩ := requestArrives_vault u parity ha hdst hdom hu
  refine Completes.of_eq ((exec_access (List.mem_pair.mpr (.inr rfl)) hop s).trans (congrArg done hserved)) ?_
  rw [hl, vaultRequest_of_open (s := taken s r l) hadmit hopen husable, serveWords_write (s := taken s r l) hop hfree,
    show taken s r l = withNet { s.net with way := l, reqs := s.net.reqs.erase r } s from rfl, writeWords_withNet]
  obtain ⟨hreqs, hresps⟩ := respond_net r .ack
    (withNet { s.net with way := l, reqs := s.net.reqs.erase r } (writeWords .vault v 16 (r.da % 0x20000) r.len r.data s))
  exact ⟨hreqs, hresps, (keeps_respond ..).part .mem rfl⟩

theorem vaultWrite_denied (hr : (reach (.req src.toNat txn.toNat) s).isSome = true) (hop : r.op = .write)
    (hadmit : vaultAdmits s v r.tag = false) :
    Completes (.write (.flit src txn) [] u parity none) s fun t =>
      t.mem = s.mem ∧ t.net.resps = s.net.resps ++ [⟨r.dst, r.src, r.txn, r.tag, .error 2 0, r.intent⟩] := by
  obtain ⟨s', hu⟩ := Option.isSome_iff_exists.mp hr
  obtain ⟨⟨l, hl⟩, hserved⟩ := requestArrives_vault u parity ha hdst hdom hu
  refine Completes.of_eq ((exec_access (List.mem_pair.mpr (.inr rfl)) hop s).trans (congrArg done hserved)) ?_
  have hadmit' : vaultAdmits (taken s r l) v r.tag = false := hadmit
  rw [hl, vaultRequest, hadmit', if_neg Bool.false_ne_true, denied]
  exact ⟨(keeps_respond ..).part .mem rfl, (respond_net ..).2⟩

end

/-! #### Damage, and the Keeper's accesses (R79, R83) -/

theorem damagedAccess_completes {s : State} {src : BitVec 13} {txn : BitVec 8} {r : Req} {ups : List (List Nat)} {u : Upset}
    {parity : BitVec 16} {k : Fin 1152} (ha : arriving s src.toNat txn.toNat = some r)
    (hr : (reach (.req src.toNat txn.toNat) s).isSome = true) (hdst : r.dst ≠ hubEp) (hk : k.val < 576 * (reqFlitsOf r).length)
    {c : NetOp × Instr}
    (hc : c ∈ [(NetOp.read, Instr.read (.flit src txn) ups u parity (some k)),
      (NetOp.write, Instr.write (.flit src txn) ups u parity (some k))]) (hop : r.op = c.1) :
    Completes c.2 s fun t =>
      t.net.reqs = s.net.reqs.erase r ∧ t.net.resps = s.net.resps ∧
      t.rd F.KRV_CRCDROP.COUNT 0 = min (s.rd F.KRV_CRCDROP.COUNT 0 + 1) (2 ^ F.KRV_CRCDROP.COUNT.width - 1) := by
  obtain ⟨s', hu⟩ := Option.isSome_iff_exists.mp hr
  obtain ⟨l, hl⟩ := takeReq_of_movesOnly r (movesOnly_reach _ s s' hu)
  have hbad : crcFails (reqFlitsOf r) (some k) = true := crcFails_damaged (List.all_eq_true.mp (reqFlitsOf_good r)) hk
  refine Completes.of_eq (exec_access hc hop s) ?_
  rw [requestArrives_of_arriving ha hdst hu, hbad, if_pos rfl, hl]
  exact ⟨rfl, rfl, rd_satAdd_same _ _ _ _ (by decide)⟩

/-- A core's read makes its request, which then arrives at its target. -/
theorem exec_coreRead {s t : State} {c : Fin 4} {da : BitVec 48} {len : Nat} {data : Line} {x : Nat} (ups : List (List Nat)) (u : Upset)
    (parity : BitVec 16) (bad : Option (Fin 1152)) (h : keeperAccess (.core c) .read coreEp da.toNat len 0 s = (some x, t)) :
    exec (.read (.core c da len data) ups u parity bad) s = .next (requestArrives .read coreEp x ups u parity bad t) := by
  have hreq : requestOf .read (.core c da len data) s = (some (coreEp, x), t) := by
    rw [requestOf, if_neg nofun, h]
    rfl
  rw [show exec (.read (.core c da len data) ups u parity bad) s = execRead (.core c da len data) ups u parity bad s from rfl, execRead, hreq]
  rfl

/-! #### Forced accesses to an engine's data memory (R199) -/

section
variable {s s' : State} {e : Fin 512} {src : BitVec 13} {txn : BitVec 8} {r : Req}

theorem oldestGrant_withNet (n : NetState) (s : State) (k : Nat) (l : List Nat) : oldestGrant (withNet n s) k l = oldestGrant s k l := by
  induction l with
  | nil => rfl
  | cons j l ih =>
    unfold oldestGrant
    rw [ih]
    rfl

theorem findGrant_withNet (n : NetState) (s : State) (k op obj : Nat) : findGrant (withNet n s) k op obj = findGrant s k op obj :=
  oldestGrant_withNet n s k _

/-- What the network holds has no part in who is admitted to an engine's memories. -/
theorem engineAdmits_withNet (n : NetState) (s : State) (e : Nat) (r : Req) : engineAdmits (withNet n s) e r = engineAdmits s e r := by
  unfold engineAdmits
  simp only [findGrant_withNet]
  rfl

theorem engineRequest_data {off : Nat} (hadmit : engineAdmits s e r = true) (hclearing : s.flag F.TMB_STAT.CLEARING e = false)
    (hbusy : s.flag F.TMB_STAT.TBUSY e = false) (husable : s.flag F.MEM_TMB.USABLE e = true)
    (hlive : s.flag F.TMB_STAT.RETIRED e = false) (hoff : off < 0x10000) : engineRequest e off [] r s = dataAccess e off r s := by
  unfold engineRequest
  rw [if_pos hadmit, hclearing, hbusy, Bool.or_false, if_neg Bool.false_ne_true, husable, hlive, Bool.not_true, Bool.or_false,
    if_neg Bool.false_ne_true, if_pos hoff, flipTouched_nil]

theorem dataAccess_read {off : Nat} (hop : r.op = .read) (s : State) : dataAccess e off r s = serveWords .data e 8 off r s := by
  unfold dataAccess
  rw [hop]
  rfl

theorem net_holdEngine (e : Nat) (s : State) : (holdEngine e s).net = s.net := (keeps_holdEngine e s).part .net rfl

theorem eng_setEng_same (s : State) (e : Nat) (q : EngineRec) : (s.setEng e q).eng e = q := sget_sset_self ..

theorem hold_holdEngine (e : Nat) (s : State) :
    ((holdEngine e s).eng e).hold = if issuesNow s e then (s.eng e).hold + 1 else (s.eng e).hold := by
  unfold holdEngine
  split
  · rw [State.modEng, eng_setEng_same]
  · rfl

theorem forcedRead_completes (ha : arriving s src.toNat txn.toNat = some r) (hu : reach (.req src.toNat txn.toNat) s = some s')
    (hop : r.op = .read) (hdst : r.dst = engineEp e) (hcls : r.tag.cls ≠ 0) (hoff : r.da % 0x20000 < 0x10000)
    (hdom : domOn s (engineDom e) = true) (hadmit : engineAdmits s e r = true) (hclearing : s.flag F.TMB_STAT.CLEARING e = false)
    (hbusy : s.flag F.TMB_STAT.TBUSY e = false) (husable : s.flag F.MEM_TMB.USABLE e = true)
    (hlive : s.flag F.TMB_STAT.RETIRED e = false) :
    Completes (.forcedNetworkAccess e src txn []) s fun t =>
      t.net.reqs = s.net.reqs.erase r ∧
      (let x := readWords .data e 8 (touched 8 (r.da % 0x20000) r.len) 0 false (takeReq r s')
       let d := laneBytes x.1 (r.da % 64) r.len
       t.net.resps = s.net.resps ++ [⟨r.dst, r.src, r.txn, r.tag, if x.2.1 then .poisoned d else .data d, r.intent⟩]) ∧
      (t.eng e).hold = if issuesNow s e then (s.eng e).hold + 1 else (s.eng e).hold := by
  obtain ⟨l, hl⟩ := takeReq_of_movesOnly r (movesOnly_reach _ s s' hu)
  have hguard : (r.dst == engineEp e && r.tag.cls != 0 && decide (r.da % 0x20000 < 0x10000) && domOn s (engineDom e)) = true := by
    simp [hdst, hcls, hoff, hdom]
  have hexec : exec (.forcedNetworkAccess e src txn []) s =
      done (holdEngine e (engineRequest e (r.da % 0x20000) [] r (takeReq r s'))) := by
    rw [show exec (.forcedNetworkAccess e src txn []) s = execForcedNetworkAccess e src txn [] s from rfl, execForcedNetworkAccess, ha]
    dsimp only
    rw [guarded_true hguard, hu]
  refine Completes.of_eq hexec ?_
  have hadmit' : engineAdmits (taken s r l) e r = true := (engineAdmits_withNet _ s e r).trans hadmit
  rw [hl, engineRequest_data hadmit' hclearing hbusy husable hlive hoff, dataAccess_read hop, serveWords_read hop, net_holdEngine,
    hold_holdEngine]
  obtain ⟨hreqs, hresps⟩ := respond_net r (readAnswer .data e 8 r (r.da % 0x20000) (taken s r l))
    (readWords .data e 8 (touched 8 (r.da % 0x20000) r.len) 0 false (taken s r l)).2.2
  have hread := keeps_readWords .data e 8 (touched 8 (r.da % 0x20000) r.len) 0 false (taken s r l)
  have hnet := hread.part .net rfl
  have htmb := ((keeps_respond r (readAnswer .data e 8 r (r.da % 0x20000) (taken s r l)) _).part .tmb rfl).trans (hread.part .tmb rfl)
  refine ⟨hreqs.trans (congrArg NetState.reqs hnet), hresps.trans ?_, ?_⟩
  · rw [hnet]
    rfl
  · have heng {t : State} (h : t.tmb = s.tmb) : issuesNow t e = issuesNow s e ∧ (t.eng e).hold = (s.eng e).hold := by
      unfold issuesNow State.eng
      rw [h]
      exact ⟨rfl, rfl⟩
    obtain ⟨hissues, hhold⟩ := heng htmb
    rw [hissues, hhold]

end

/-- Settles O7: the way to the target moves messages only, so the target's checks read what the state before the command holds. -/
theorem requestsAreServedAtTheirTargets : Obligations.RequestsAreServedAtTheirTargets := by
  unfold Obligations.RequestsAreServedAtTheirTargets
  refine ⟨?_, ?_, ?_, ?_, ?_, ?_, ?_⟩
  · exact fun s src txn r v u parity s' ha hu hop hdst hdom hadmit hopen husable =>
      vaultRead_completes u parity ha hdst hdom hu hop hadmit hopen husable
  · exact fun s src txn r v u parity ha hr hop hdst hdom hadmit hopen husable hfree =>
      vaultWrite_completes u parity ha hdst hdom hr hop hadmit hopen husable hfree
  · exact fun s src txn r v u parity ha hr hop hdst hdom hadmit => vaultWrite_denied u parity ha hdst hdom hr hop hadmit
  · exact fun s src txn r ups u parity k ha hr hdst hk c hc hop => damagedAccess_completes ha hr hdst hk hc hop
  · exact fun s c da len data ups u parity bad x t h => exec_coreRead ups u parity bad h
  · exact fun s src txn r ups u parity bad _ hu =>
      ⟨_, exec_access (List.mem_pair.mpr (.inl rfl)) rfl s, requestArrives_of_held hu .read ups u parity bad⟩
  · exact fun s e src txn r s' ha hu hop hdst hcls hoff hdom hadmit hclearing hbusy husable hlive =>
      forcedRead_completes ha hu hop hdst hcls hoff hdom hadmit hclearing hbusy husable hlive

end Sys2Proof.Machine

/-! ### Transform windows: their registers (R94, R214, R219) -/

namespace Sys2Proof.Machine
open Sys2Proof

/-- A field of a word is below the power of its width. -/
theorem of_mod (f : Fld) (v : Word) : f.of v % 2 ^ f.width = f.of v := getF_mod v f.lo f.width

/-- The state with the SET and SIZE of a write to a window's register. -/
def windowPlaced (w : Nat) (v : Word) (s : State) : State :=
  (s.wr F.TMB_TW_CFG.SET w (F.TMB_TW_CFG.SET.of v)).wr F.TMB_TW_CFG.SIZE w (F.TMB_TW_CFG.SIZE.of v)

/-- Two fields of a window's register are apart. -/
theorem rd_windowPlaced (w : Nat) (v : Word) (s : State) :
    (windowPlaced w v s).rd F.TMB_TW_CFG.SET w = F.TMB_TW_CFG.SET.of v ∧ (windowPlaced w v s).rd F.TMB_TW_CFG.SIZE w = F.TMB_TW_CFG.SIZE.of v ∧
    (windowPlaced w v s).rd F.TMB_TW_CFG.EN w = s.rd F.TMB_TW_CFG.EN w := by
  unfold windowPlaced
  refine ⟨?_, ?_, ?_⟩
  · rw [rd_wr_other _ _ _ _ _ _ (Fld.apart_of_places (by decide) _ _), rd_wr_same _ _ _ _ (by decide), of_mod]
  · rw [rd_wr_same _ _ _ _ (by decide), of_mod]
  · rw [rd_wr_other _ _ _ _ _ _ (Fld.apart_of_places (by decide) _ _), rd_wr_other _ _ _ _ _ _ (Fld.apart_of_places (by decide) _ _)]

theorem windowEnable_completes {s : State} {w : Fin 16} {v : Word} (hen : s.flag F.TMB_TW_CFG.EN w = false) (hv : F.TMB_TW_CFG.EN.of v = 1)
    (hreject : F.TMB_TW_CFG.REJECT.of v = 0) :
    Completes (.windowEnable w v) s fun t =>
      t.flag F.TMB_TW_CFG.EN w = windowOk (windowPlaced w v s) w ∧
      (windowOk (windowPlaced w v s) w = false → t.flag F.TMB_TW_CFG.REJECT w = true) ∧
      t.rd F.TMB_TW_CFG.SET w = F.TMB_TW_CFG.SET.of v ∧ t.rd F.TMB_TW_CFG.SIZE w = F.TMB_TW_CFG.SIZE.of v := by
  obtain ⟨hset, hsize, hen'⟩ := rd_windowPlaced w v s
  have hexec : exec (.windowEnable w v) s = done (if windowOk (windowPlaced w v s) w then (windowPlaced w v s).on F.TMB_TW_CFG.EN w
      else (windowPlaced w v s).on F.TMB_TW_CFG.REJECT w) := by
    rw [show exec (.windowEnable w v) s = done (windowCfgWrite w v s) from rfl, windowCfgWrite, hen, if_neg Bool.false_ne_true, hv, hreject]
    rfl
  have hfields {f g : Fld} (h : f.reg ≠ g.reg ∨ f.lo + f.width ≤ g.lo ∨ g.lo + g.width ≤ f.lo) :
      ((windowPlaced w v s).on f w).rd g w = (windowPlaced w v s).rd g w := rd_on_other _ _ _ _ _ (Fld.apart_of_places h _ _)
  refine Completes.of_eq hexec ?_
  cases windowOk (windowPlaced w v s) w with
  | true =>
    rw [if_pos rfl, hfields (by decide), hfields (by decide)]
    exact ⟨flag_on_same _ _ _ (by decide) (by decide), nofun, hset, hsize⟩
  | false =>
    rw [if_neg Bool.false_ne_true, hfields (by decide), hfields (by decide), State.flag, hfields (by decide), hen']
    exact ⟨hen, fun _ => flag_on_same _ _ _ (by decide) (by decide), hset, hsize⟩

theorem enabledWindowWrite_completes {s : State} {w : Fin 16} {v : Word} (hen : s.flag F.TMB_TW_CFG.EN w = true) :
    Completes (.windowEnable w v) s fun t =>
      t.rd F.TMB_TW_CFG.EN w = F.TMB_TW_CFG.EN.of v ∧ t.rd F.TMB_TW_CFG.SET w = s.rd F.TMB_TW_CFG.SET w ∧
      t.rd F.TMB_TW_CFG.SIZE w = s.rd F.TMB_TW_CFG.SIZE w ∧ t.rd F.TMB_TW_CFG.REJECT w = s.rd F.TMB_TW_CFG.REJECT w := by
  have hexec : exec (.windowEnable w v) s = done (s.wr F.TMB_TW_CFG.EN w (F.TMB_TW_CFG.EN.of v)) := by
    rw [show exec (.windowEnable w v) s = done (windowCfgWrite w v s) from rfl, windowCfgWrite, hen, if_pos rfl]
  have hother {g : Fld} (h : F.TMB_TW_CFG.EN.reg ≠ g.reg ∨ F.TMB_TW_CFG.EN.lo + F.TMB_TW_CFG.EN.width ≤ g.lo ∨
      g.lo + g.width ≤ F.TMB_TW_CFG.EN.lo) : (s.wr F.TMB_TW_CFG.EN w (F.TMB_TW_CFG.EN.of v)).rd g w = s.rd g w :=
    rd_wr_other _ _ _ _ _ _ (Fld.apart_of_places h _ _)
  exact Completes.of_eq hexec ⟨(rd_wr_same _ _ _ _ (by decide)).trans (of_mod _ v), hother (by decide), hother (by decide), hother (by decide)⟩

theorem tmoLegal_iff (s : State) (t : Nat) :
    tmoLegal s t = true ↔ 16 ≤ t ∧ ∀ w : Fin 16, s.flag F.TMB_TW_CFG.EN w = true → s.rd F.TMB_TW_BOUND.BOUND w < 1000 * t := by
  simp only [tmoLegal, Bool.and_eq_true, decide_eq_true_eq, List.all_eq_true, List.mem_range, Bool.or_eq_true, Bool.not_eq_true',
    ← Bool.not_eq_true, ← imp_iff_not_or]
  exact and_congr_right fun _ => ⟨fun h w => h w w.isLt, fun h w hw => h ⟨w, hw⟩⟩

theorem krvTmoWrite_completes (s : State) (v : Word) : Completes (.krvTmoWrite v) s fun t =>
    t.rd F.KRV_TMO.TMO 0 =
      if 16 ≤ F.KRV_TMO.TMO.of v ∧ ∀ w : Fin 16, s.flag F.TMB_TW_CFG.EN w = true →
          s.rd F.TMB_TW_BOUND.BOUND w < 1000 * F.KRV_TMO.TMO.of v then F.KRV_TMO.TMO.of v else s.rd F.KRV_TMO.TMO 0 := by
  refine Completes.of_eq (t := tmoWrite v s) rfl ?_
  simp only [← tmoLegal_iff, tmoWrite]
  split
  · exact (rd_wr_same _ _ _ _ (by decide)).trans (of_mod _ v)
  · rfl

/-! ### Transform windows: their host (R215, R216, R218, R253) -/

theorem rd_hostAnswer (m : Nat) (id : HostId) (op : NetOp) (a : Answer) (grant : Intent) (t : State) (f : Fld) (i : Nat) :
    (hostAnswer m id op a grant t).rd f i = t.rd f i := (keeps_hostAnswer ..).rd f i (Nat.zero_testBit _)

/-- A window's counter one more, and the answer to its host: the counter, and what the host is sent. -/
theorem counted_hostAnswer (m : Nat) (id : HostId) (w : Nat) (op : NetOp) (a : Answer) (t : State) {f : Fld} (hf : f.lo + f.width ≤ 32)
    (hpid : f.reg ≠ F.COH_HEAD.PID.reg) :
    (hostAnswer m id op a .none (t.satAdd f w 1)).out = (hostAnswer m id op a .none t).out ∧
    (hostAnswer m id op a .none (t.satAdd f w 1)).rd f w = min (t.rd f w + 1) (2 ^ f.width - 1) := by
  have hports : (t.satAdd f w 1).rd F.COH_HEAD.PID m = t.rd F.COH_HEAD.PID m := rd_satAdd_other _ _ _ _ _ _ (.inl hpid)
  refine ⟨?_, (rd_hostAnswer ..).trans (rd_satAdd_same _ _ _ _ hf)⟩
  unfold hostAnswer
  rw [hports]
  cases op <;> cases a <;> rfl

section
variable {s : State} {n : Fin 16} {id : HostId} {dpa da w : Nat}

/-- A translation keeps an address's place in its line (R255). -/
theorem translate_mod_line {m : Nat} (h : translate s m (dpa / 64 * 64) = some da) : da % 64 = 0 := by
  unfold translate at h
  dsimp only at h
  split at h
  · cases h
  · obtain ⟨r, _, hr⟩ := List.exists_of_findSome?_eq_some h
    split at hr
    next hx =>
      simp only [Bool.and_eq_true, decide_eq_true_eq] at hx
      obtain ⟨⟨_, hbase⟩, _⟩ := hx
      generalize sget XRange.none s.coh.xlat (256 * m + r) = x at hr hbase
      cases hr
      omega
    next => cases hr

/-- The state with the port ID of a host's request noted (R253). -/
def hostNoted (n : Nat) (id : HostId) (s : State) : State :=
  { s with coh := { s.coh with hostPort := sset 0 s.coh.hostPort n id.port } }

/-! What a request's port ID has no part in. -/

theorem decodeDa_hostNoted (m : Nat) (id : HostId) (s : State) (da : Nat) : decodeDa (hostNoted m id s) da = decodeDa s da := rfl

theorem translate_hostNoted (m k : Nat) (id : HostId) (s : State) (dpa : Nat) : translate (hostNoted m id s) k dpa = translate s k dpa := rfl

theorem liveMembers_hostNoted (m : Nat) (id : HostId) (s : State) (k : Nat) : liveMembers (hostNoted m id s) k = liveMembers s k := rfl

theorem windowBase_hostNoted (m : Nat) (id : HostId) (s : State) (w : Nat) : windowBase (hostNoted m id s) w = windowBase s w := rfl

theorem headEp_hostNoted (m k : Nat) (id : HostId) (s : State) (da : Nat) : headEp (hostNoted m id s) k da = headEp s k da := rfl

theorem freeTxn_hostNoted (m : Nat) (id : HostId) (s : State) (ep : Nat) : freeTxn (hostNoted m id s) ep = freeTxn s ep := rfl

theorem rd_hostNoted (m : Nat) (id : HostId) (s : State) (f : Fld) (i : Nat) : (hostNoted m id s).rd f i = s.rd f i := rfl

theorem flag_hostNoted (m : Nat) (id : HostId) (s : State) (f : Fld) (i : Nat) : (hostNoted m id s).flag f i = s.flag f i := rfl

/-- A host's request to a window goes to the window (R255). -/
theorem hostRequest_window {len : Nat} (htr : translate s n dpa = some da) (hlen : len ≠ 0) (hline : da % 64 + len ≤ 64)
    (hpl : decodeDa s da = .window w) (op : NetOp) (data : Line) (intent : Intent) :
    hostRequest n id dpa len op data intent s = windowRequest n id w op da (hostNoted n id s) := by
  have hspan : ¬ (len = 0 ∨ 64 < da % 64 + len) := by omega
  unfold hostRequest
  rw [← hostNoted]
  dsimp only
  rw [translate_hostNoted, htr]
  dsimp only
  rw [if_neg hspan, decodeDa_hostNoted, hpl]

theorem dpaInWindow_of_translate (htr : translate s n dpa = some da) (hpl : decodeDa s da = .window w) : dpaInWindow s n dpa = true := by
  unfold dpaInWindow
  rw [htr]
  dsimp only
  rw [hpl]

theorem exec_windowRead (hready : cxlReady s n = true) (hin : dpaInWindow s n dpa = true) (htr : translate s n (dpa / 64 * 64) = some da)
    (hpl : decodeDa s da = .window w) : exec (.windowRead n id dpa) s = done (windowRequest n id w .read da (hostNoted n id s)) := by
  have haligned := translate_mod_line htr
  rw [show exec (.windowRead n id dpa) s = execWindowRead n id dpa s from rfl, execWindowRead, guarded_true (by rw [hready, hin]; rfl),
    hostRequest_window htr (by decide) (by omega) hpl]

theorem netPut_of_some {who : Who} {r : Req} {t u : State} (window : Nat) (h : netEnter who r t = some u) :
    netPut who window r t = some (entered who window r u.net.way t) := by rw [netPut_eq, h, Option.map_some]

theorem netPut_of_none {who : Who} {r : Req} {t : State} (window : Nat) (h : netEnter who r t = none) : netPut who window r t = none := by
  rw [netPut_eq, h, Option.map_none]

/-- The state with the offset of a window's read noted under its TXN. -/
def offsetNoted (src txn off : Nat) (s : State) : State :=
  { s with net := { s.net with winOff := sset 0 s.net.winOff (256 * src + txn) off } }

/-- A read of a window whose job runs goes to the member that the address names (R215). -/
theorem windowRequest_sent {e txn : Nat} {path : List Nat} (howner : s.rd F.TMB_SET_CFG.TENANT (s.rd F.TMB_TW_CFG.SET w) = n.val)
    (hrun : s.flag F.TMB_SET_JSTAT.RUNNING (s.rd F.TMB_TW_CFG.SET w) = true)
    (he : (liveMembers s (s.rd F.TMB_TW_CFG.SET w))[(da - windowBase s w) / 64 %
      (liveMembers s (s.rd F.TMB_TW_CFG.SET w)).length]? = some e)
    (hroute : leafRoute s (epLeaf (headEp s n da)) (epLeaf (engineEp e)) = some path) (htxn : freeTxn s (headEp s n da) = some txn) :
    windowRequest n id w .read da (hostNoted n id s) =
      (netPut (.window n id w) (s.rd F.TMB_TW_BOUND.BOUND w) ⟨.read, headEp s n da, engineEp e, txn, headTag n, da / 64 * 64, 64, 0, .none⟩
        (offsetNoted (headEp s n da) txn (da - windowBase s w) (hostNoted n id s))).getD (hostNoted n id s) := by
  have hsome : (liveMembers s (s.rd F.TMB_TW_CFG.SET w)).isEmpty = false := by
    cases hl : liveMembers s (s.rd F.TMB_TW_CFG.SET w) with
    | nil => rw [hl] at he; exact absurd he nofun
    | cons => rfl
  have hmember : (liveMembers s (s.rd F.TMB_TW_CFG.SET w)).getD ((da - windowBase s w) / 64 %
      (liveMembers s (s.rd F.TMB_TW_CFG.SET w)).length) 0 = e := by rw [List.getD_eq_getElem?_getD, he, Option.getD_some]
  unfold windowRequest
  dsimp only
  rw [rd_hostNoted, rd_hostNoted, flag_hostNoted, liveMembers_hostNoted, windowBase_hostNoted, headEp_hostNoted, freeTxn_hostNoted,
    rd_hostNoted, if_neg (not_not_intro howner), hrun, hsome, Bool.not_true, Bool.or_false, if_neg Bool.false_ne_true, hmember,
    leafRoute_congr (s := s) (t := hostNoted n id s) rfl, hroute, htxn, offsetNoted]

/-- What the network holds once a window's read has entered it. -/
theorem net_entered_noted (who : Who) (window m src txn off : Nat) (id : HostId) (r : Req) (l : List Transit) (s : State) :
    (entered who window r l (offsetNoted src txn off (hostNoted m id s))).net = { s.net with
      way := l
      reqs := s.net.reqs ++ [r]
      outst := s.net.outst ++ [⟨who, r, s.dtcNow, window⟩]
      winOff := sset 0 s.net.winOff (256 * src + txn) off } := net_whoRegs ..

theorem windowRead_sent {e txn : Nat} {path : List Nat} (hready : cxlReady s n = true) (hin : dpaInWindow s n dpa = true)
    (htr : translate s n (dpa / 64 * 64) = some da) (hpl : decodeDa s da = .window w)
    (howner : s.rd F.TMB_SET_CFG.TENANT (s.rd F.TMB_TW_CFG.SET w) = n.val)
    (hrun : s.flag F.TMB_SET_JSTAT.RUNNING (s.rd F.TMB_TW_CFG.SET w) = true)
    (he : (liveMembers s (s.rd F.TMB_TW_CFG.SET w))[(da - windowBase s w) / 64 %
      (liveMembers s (s.rd F.TMB_TW_CFG.SET w)).length]? = some e)
    (hroute : leafRoute s (epLeaf (headEp s n da)) (epLeaf (engineEp e)) = some path) (htxn : freeTxn s (headEp s n da) = some txn) :
    let src := headEp s n da
    let r : Req := ⟨.read, src, engineEp e, txn, ⟨0, n⟩, da / 64 * 64, 64, 0, .none⟩
    Completes (.windowRead n id dpa) s fun t =>
      match netEnter (.window n id w) r (offsetNoted src txn (da - windowBase s w) (hostNoted n id s)) with
      | some u =>
        t.net.reqs = s.net.reqs ++ [r] ∧ t.net.way = u.net.way ∧
        t.net.outst = s.net.outst ++ [⟨.window n id w, r, s.dtcNow, s.rd F.TMB_TW_BOUND.BOUND w⟩] ∧
        sget 0 t.net.winOff (256 * src + txn) = da - windowBase s w
      | none => t = hostNoted n id s := by
  intro src r
  have hsent : windowRequest n id w .read da (hostNoted n id s) = (netPut (.window n id w) (s.rd F.TMB_TW_BOUND.BOUND w) r
      (offsetNoted src txn (da - windowBase s w) (hostNoted n id s))).getD (hostNoted n id s) :=
    windowRequest_sent howner hrun he hroute htxn
  refine Completes.of_eq ((exec_windowRead hready hin htr hpl).trans (congrArg done hsent)) ?_
  split
  next u hu =>
    rw [netPut_of_some _ hu, Option.getD_some, net_entered_noted]
    exact ⟨rfl, rfl, rfl, sget_sset_self ..⟩
  next hnone => rw [netPut_of_none _ hnone, Option.getD_none]

/-- A read of a window without a running job is answered poisoned and counted (R215). -/
theorem windowRead_notReady (hready : cxlReady s n = true) (hin : dpaInWindow s n dpa = true)
    (htr : translate s n (dpa / 64 * 64) = some da) (hpl : decodeDa s da = .window w)
    (howner : s.rd F.TMB_SET_CFG.TENANT (s.rd F.TMB_TW_CFG.SET w) = n.val)
    (hrun : s.flag F.TMB_SET_JSTAT.RUNNING (s.rd F.TMB_TW_CFG.SET w) = false) :
    Completes (.windowRead n id dpa) s fun t =>
      t.out = s.out ++ [.cxlData n id.tag 0 true .none ⟨s.rd F.COH_HEAD.PID n, id.port⟩] ∧
      t.rd F.TMB_TW_NOTREADY.VALUE w = min (s.rd F.TMB_TW_NOTREADY.VALUE w + 1) (2 ^ 32 - 1) ∧ t.net = s.net := by
  have hanswer : windowRequest n id w .read da (hostNoted n id s) =
      hostAnswer n id .read (.poisoned 0) .none ((hostNoted n id s).satAdd F.TMB_TW_NOTREADY.VALUE w 1) := by
    unfold windowRequest
    dsimp only
    rw [rd_hostNoted, rd_hostNoted, flag_hostNoted, if_neg (not_not_intro howner), hrun, Bool.not_false, Bool.true_or, if_pos rfl]
  obtain ⟨hout, hcount⟩ := counted_hostAnswer n id w .read (.poisoned 0) (hostNoted n id s) (f := F.TMB_TW_NOTREADY.VALUE) (by decide) (by decide)
  exact Completes.of_eq ((exec_windowRead hready hin htr hpl).trans (congrArg done hanswer)) ⟨hout, hcount, rfl⟩

/-- A write to a window completes with no effect and is counted (R216). -/
theorem windowWrite_completes {len : Nat} {data : Line} (hready : cxlReady s n = true) (htr : translate s n dpa = some da)
    (hpl : decodeDa s da = .window w) (hlen : len ≠ 0) (hline : da % 64 + len ≤ 64)
    (howner : s.rd F.TMB_SET_CFG.TENANT (s.rd F.TMB_TW_CFG.SET w) = n.val) :
    Completes (.windowWrite n id dpa len data) s fun t =>
      t.out = s.out ++ [.cxlCompletion n id.tag ⟨s.rd F.COH_HEAD.PID n, id.port⟩] ∧
      t.rd F.TMB_TW_WRITES.VALUE w = min (s.rd F.TMB_TW_WRITES.VALUE w + 1) (2 ^ 32 - 1) ∧ t.net = s.net ∧ t.tmb = s.tmb := by
  have hanswer : windowRequest n id w .write da (hostNoted n id s) =
      hostAnswer n id .write .ack .none ((hostNoted n id s).satAdd F.TMB_TW_WRITES.VALUE w 1) := by
    unfold windowRequest
    dsimp only
    rw [rd_hostNoted, rd_hostNoted, if_neg (not_not_intro howner)]
  have hexec : exec (.windowWrite n id dpa len data) s = done (windowRequest n id w .write da (hostNoted n id s)) := by
    rw [show exec (.windowWrite n id dpa len data) s = execWindowWrite n id dpa len data s from rfl, execWindowWrite,
      guarded_true (by rw [hready, dpaInWindow_of_translate htr hpl]; rfl), hostRequest_window htr hlen hline hpl]
  obtain ⟨hout, hcount⟩ := counted_hostAnswer n id w .write .ack (hostNoted n id s) (f := F.TMB_TW_WRITES.VALUE) (by decide) (by decide)
  exact Completes.of_eq (hexec.trans (congrArg done hanswer)) ⟨hout, hcount, rfl, rfl⟩

end

/-- A window's read whose bound has ended, off its list and quarantined (R218). -/
def overrun (o : Outst) (w : Nat) (s : State) : State :=
  { s with net := { s.net with
    outst := s.net.outst.erase o
    quar := s.net.quar ++ [(o.req.src, o.req.txn)]
    lateWin := s.net.lateWin ++ [(o.req.src, o.req.txn, w)] } }

theorem windowBoundExpiry_completes {s : State} {src : BitVec 13} {txn : BitVec 8} {o : Outst} {n : Nat} {id : HostId} {w : Nat}
    (ho : outstOf s src.toNat txn.toNat = some o) (hwho : o.who = .window n id w) (hend : s.expired o.sentAt o.window = true) :
    Completes (.windowBoundExpiry src txn) s fun t =>
      t.out = s.out ++ [.cxlData n id.tag 0 true .none ⟨s.rd F.COH_HEAD.PID n, id.port⟩] ∧ t.net.outst = s.net.outst.erase o ∧
      t.net.quar = s.net.quar ++ [(o.req.src, o.req.txn)] ∧
      t.rd F.TMB_TW_OVERRUN.VALUE w = min (s.rd F.TMB_TW_OVERRUN.VALUE w + 1) (2 ^ 32 - 1) := by
  have hexec : exec (.windowBoundExpiry src txn) s =
      done (hostAnswer n id .read (.poisoned 0) .none ((overrun o w s).satAdd F.TMB_TW_OVERRUN.VALUE w 1)) := by
    rw [show exec (.windowBoundExpiry src txn) s = execWindowBoundExpiry src txn s from rfl, execWindowBoundExpiry, ← outstOf, ho]
    dsimp only
    rw [hwho]
    dsimp only
    rw [guarded_true hend]
    rfl
  obtain ⟨hout, hcount⟩ := counted_hostAnswer n id w .read (.poisoned 0) (overrun o w s) (f := F.TMB_TW_OVERRUN.VALUE) (by decide) (by decide)
  exact Completes.of_eq hexec ⟨hout, rfl, rfl, hcount⟩

/-- Settles O22: a window's registers decide alone whether it is enabled; a host's request to it is that window's, which sends it, answers it or
counts it. -/
theorem transformWindowsServeTheirHost : Obligations.TransformWindowsServeTheirHost := by
  unfold Obligations.TransformWindowsServeTheirHost
  refine ⟨?_, ?_, ?_, ?_, ?_, ?_, ?_⟩
  · exact fun s w v hen hv hreject => windowEnable_completes hen hv hreject
  · exact fun s v => krvTmoWrite_completes s v
  · exact fun s w v hen => enabledWindowWrite_completes hen
  · exact fun s n id dpa da w e txn path hready hin htr hpl howner hrun he hroute htxn =>
      windowRead_sent hready hin htr hpl howner hrun he hroute htxn
  · exact fun s n id dpa da w hready hin htr hpl howner hrun => windowRead_notReady hready hin htr hpl howner hrun
  · exact fun s n id dpa len da w data hready htr hpl hlen hline howner => windowWrite_completes hready htr hpl hlen hline howner
  · exact fun s src txn o n id w ho hwho hend => windowBoundExpiry_completes ho hwho hend

end Sys2Proof.Machine

/-! ### The M slot's stream and network instructions (R89, R197, R198, R202, R203, R207) -/

namespace Sys2Proof.Machine
open Sys2Proof

theorem eng_setEng_ne (s : State) {e m : Nat} (h : m ≠ e) (q : EngineRec) : (s.setEng e q).eng m = s.eng m := sget_sset_ne _ _ _ _ h

theorem eng_modEng_same (s : State) (e : Nat) (f : EngineRec → EngineRec) : (s.modEng e f).eng e = f (s.eng e) := eng_setEng_same ..

theorem eng_modEng_ne (s : State) {e m : Nat} (h : m ≠ e) (f : EngineRec → EngineRec) : (s.modEng e f).eng m = s.eng m :=
  eng_setEng_ne s h _

/-- An engine's record once its M slot has issued. -/
def issuedM (b : BitVec 128) (l : List Result) (q : EngineRec) : EngineRec := { q with ir := some b, issM := some l }

section
variable {s : State} {e w : Nat} (hw : w = slotBits .m (bundle s e)) (hcan : canIssue s e = true) (hfree : (s.eng e).issM = none)
  (hlegal : slotLegal .m w (s.eng e).pc (s.eng e).run = true)
include hw hcan hfree hlegal

/-- A legal M slot that may issue does what its instruction says. -/
theorem issueM_of_legal {op : Nat} (hop : slotOp .m w = op) (f : State → EngineRec → Nat → List Result × State) :
    issueM e op f s = (f s (s.eng e) w).2.modEng e (issuedM (bundle s e) (f s (s.eng e) w).1) := by
  subst hw
  have hguard : (canIssue s e && (s.eng e).issM.isNone && slotOp .m (slotBits .m (bundle s e)) == op) = true := by
    rw [hcan, hfree, hop, beq_self_eq_true]
    rfl
  unfold issueM
  dsimp only
  rw [guarded_true hguard, if_pos hlegal]
  rfl

/-- What the slot leaves in the record of its own engine, and in those of the others. -/
theorem eng_issueM {op : Nat} (hop : slotOp .m w = op) {f : State → EngineRec → Nat → List Result × State} {l : List Result} {t : State}
    (hf : f s (s.eng e) w = (l, t)) :
    (issueM e op f s).eng e = issuedM (bundle s e) l (t.eng e) ∧ ∀ m, m ≠ e → (issueM e op f s).eng m = t.eng m := by
  rw [issueM_of_legal hw hcan hfree hlegal hop, hf]
  exact ⟨eng_modEng_same .., fun m hm => eng_modEng_ne t hm _⟩

end

/-! #### Streams (R197, R198) -/

/-- No engine is its own neighbour (R196). -/
theorem ne_of_openLink {s : State} {e d f : Nat} (h : openLink s e d = some f) : f ≠ e := by
  have hne : ∀ g, neighbour e d = some g → g ≠ e := by
    intro g hg
    unfold neighbour at hg
    dsimp only at hg
    split_ifs at hg <;> cases hg <;> omega
  unfold openLink at h
  split at h
  · next g hg =>
    split at h
    · cases h
      exact hne _ hg
    · cases h
  · cases h

/-- A vector on its way over the link in direction d to engine f, and the credit it takes (R197). -/
def sentOver (e : Fin 512) (d f : Nat) (r : EngineRec) (v : Line) (s : State) : State :=
  let t := s.setEng e (r.setCredits d (r.creditsOf d - 1))
  if s.flag F.TMB_STAT.RETIRED f then t else t.modEng f fun q => { q with coming := q.coming ++ [(oppositeDir d, v)] }

/-- The oldest vector of direction d taken from its FIFO, and its credit returned to engine f (R197). -/
def takenFrom (e : Fin 512) (d f : Nat) (r : EngineRec) (s : State) : State :=
  (s.setEng e (r.setFifo d ((r.fifoOf d).drop 1))).modEng f fun q =>
    q.setCredits (oppositeDir d) (q.creditsOf (oppositeDir d) + 1)

theorem exec_ssend (e : Fin 512) (s : State) : ∃ f, exec (.ssend e) s = done (issueM e 0x10 f s) ∧
    ∀ r w, (openLink s e (sf w 21 2) = none → f s r w = ([⟨1, .evt 0x20⟩], s)) ∧
      ∀ g, openLink s e (sf w 21 2) = some g → f s r w = ([], sentOver e (sf w 21 2) g r (r.vreg (sf w 27 4)) s) :=
  ⟨_, rfl, fun r w => ⟨fun h => by dsimp only; rw [h], fun g h => by dsimp only; rw [h]; rfl⟩⟩

theorem exec_srecv (e : Fin 512) (s : State) : ∃ f, exec (.srecv e) s = done (issueM e 0x11 f s) ∧
    ∀ r w, (openLink s e (sf w 21 2) = none → f s r w = ([⟨2, .vreg (sf w 27 4) 0⟩, ⟨1, .evt 0x20⟩], s)) ∧
      ∀ g, openLink s e (sf w 21 2) = some g →
        f s r w = ([⟨2, .vreg (sf w 27 4) ((r.fifoOf (sf w 21 2)).headD 0)⟩], takenFrom e (sf w 21 2) g r s) :=
  ⟨_, rfl, fun r w => ⟨fun h => by dsimp only; rw [h], fun g h => by dsimp only; rw [h]; rfl⟩⟩

/-- A send takes a credit of its engine, and its vector is on the way unless the neighbour is retired (R197, R207). -/
theorem eng_sentOver {e : Fin 512} {f : Nat} (hne : f ≠ e) (d : Nat) (r : EngineRec) (v : Line) (s : State) :
    (sentOver e d f r v s).eng e = r.setCredits d (r.creditsOf d - 1) ∧
    ((sentOver e d f r v s).eng f).coming =
      if s.flag F.TMB_STAT.RETIRED f then (s.eng f).coming else (s.eng f).coming ++ [(oppositeDir d, v)] := by
  unfold sentOver
  split
  · exact ⟨eng_setEng_same .., congrArg EngineRec.coming (eng_setEng_ne s hne _)⟩
  · rw [eng_modEng_ne _ hne.symm, eng_modEng_same, eng_setEng_same, eng_setEng_ne s hne]
    exact ⟨rfl, rfl⟩

theorem eng_takenFrom {e : Fin 512} {f : Nat} (hne : f ≠ e) (d : Nat) (r : EngineRec) (s : State) :
    (takenFrom e d f r s).eng e = r.setFifo d ((r.fifoOf d).drop 1) ∧
    (takenFrom e d f r s).eng f = (s.eng f).setCredits (oppositeDir d) ((s.eng f).creditsOf (oppositeDir d) + 1) := by
  unfold takenFrom
  rw [eng_modEng_ne _ hne.symm, eng_modEng_same, eng_setEng_same, eng_setEng_ne s hne]
  exact ⟨rfl, rfl⟩

theorem creditsOf_setCredits (r : EngineRec) (d n : Nat) : (r.setCredits d n).creditsOf d = n := sget_sset_self ..

theorem fifoOf_setFifo (r : EngineRec) (d : Nat) (l : List Line) : (r.setFifo d l).fifoOf d = l := sget_sset_self ..

section
variable {s : State} {e : Fin 512} {w d f : Nat} (hw : w = slotBits .m (bundle s e)) (hcan : canIssue s e = true)
  (hfree : (s.eng e).issM = none) (hlegal : slotLegal .m w (s.eng e).pc (s.eng e).run = true)
include hw hcan hfree hlegal

theorem ssend_completes (hop : slotOp .m w = 0x10) (hd : d = sf w 21 2) (hlink : openLink s e d = some f) :
    Completes (.ssend e) s fun t =>
      (t.eng e).issM = some [] ∧ (t.eng e).creditsOf d = (s.eng e).creditsOf d - 1 ∧
      (t.eng f).coming = if s.flag F.TMB_STAT.RETIRED f = true then (s.eng f).coming
        else (s.eng f).coming ++ [((d + 2) % 4, (s.eng e).vreg (sf w 27 4))] := by
  subst hd
  have hne := ne_of_openLink hlink
  obtain ⟨g, hexec, hg⟩ := exec_ssend e s
  obtain ⟨heng, hothers⟩ := eng_issueM hw hcan hfree hlegal hop ((hg (s.eng e) w).2 f hlink)
  obtain ⟨hown, hcoming⟩ := eng_sentOver hne (sf w 21 2) (s.eng e) ((s.eng e).vreg (sf w 27 4)) s
  refine Completes.of_eq hexec ⟨congrArg EngineRec.issM heng, ?_, ?_⟩
  · rw [heng, hown]
    exact creditsOf_setCredits ..
  · rw [hothers f hne, hcoming]
    rfl

theorem srecv_completes (hop : slotOp .m w = 0x11) (hd : d = sf w 21 2) (hlink : openLink s e d = some f) :
    Completes (.srecv e) s fun t =>
      (t.eng e).issM = some [⟨2, .vreg (sf w 27 4) (((s.eng e).fifoOf d).headD 0)⟩] ∧
      (t.eng e).fifoOf d = ((s.eng e).fifoOf d).drop 1 ∧
      (t.eng f).creditsOf ((d + 2) % 4) = (s.eng f).creditsOf ((d + 2) % 4) + 1 := by
  subst hd
  have hne := ne_of_openLink hlink
  obtain ⟨g, hexec, hg⟩ := exec_srecv e s
  obtain ⟨heng, hothers⟩ := eng_issueM hw hcan hfree hlegal hop ((hg (s.eng e) w).2 f hlink)
  obtain ⟨hown, hcredit⟩ := eng_takenFrom hne (sf w 21 2) (s.eng e) s
  refine Completes.of_eq hexec ⟨congrArg EngineRec.issM heng, ?_, ?_⟩
  · rw [heng, hown]
    exact fifoOf_setFifo ..
  · rw [hothers f hne, hcredit]
    exact creditsOf_setCredits ..

theorem closedLink_completes (hlink : openLink s e (sf w 21 2) = none) {z : Nat × Instr × List Result}
    (hz : z ∈ [(0x10, Instr.ssend e, ([⟨1, .evt 0x20⟩] : List Result)), (0x11, .srecv e, [⟨2, .vreg (sf w 27 4) 0⟩, ⟨1, .evt 0x20⟩])])
    (hop : slotOp .m w = z.1) :
    Completes z.2.1 s fun t => (t.eng e).issM = some z.2.2 ∧ ∀ m : Nat, m ≠ e → t.eng m = s.eng m := by
  rcases List.mem_pair.mp hz with rfl | rfl
  · obtain ⟨g, hexec, hg⟩ := exec_ssend e s
    obtain ⟨heng, hothers⟩ := eng_issueM hw hcan hfree hlegal hop ((hg (s.eng e) w).1 hlink)
    exact Completes.of_eq hexec ⟨congrArg EngineRec.issM heng, hothers⟩
  · obtain ⟨g, hexec, hg⟩ := exec_srecv e s
    obtain ⟨heng, hothers⟩ := eng_issueM hw hcan hfree hlegal hop ((hg (s.eng e) w).1 hlink)
    exact Completes.of_eq hexec ⟨congrArg EngineRec.issM heng, hothers⟩

end

/-- The oldest vector on its way enters its FIFO (R197). -/
theorem streamArrival_completes {s : State} {e : Fin 512} {d : Fin 4} {v : Line} {l : List (Nat × Line)}
    (h : (s.eng e).coming = (d.val, v) :: l) :
    Completes (.streamArrival e d) s fun t =>
      (t.eng e).coming = l ∧ (t.eng e).fifoOf d = (s.eng e).fifoOf d ++ [v] ∧ ∀ m : Nat, m ≠ e → t.eng m = s.eng m := by
  have hexec : exec (.streamArrival e d) s =
      done (s.setEng e ({ s.eng e with coming := l }.setFifo d ((s.eng e).fifoOf d ++ [v]))) := by
    have hfind : ((d.val, v) :: l).find? (fun x => x.1 == d.val) = some (d.val, v) := List.find?_cons_of_pos (beq_self_eq_true d.val)
    rw [show exec (.streamArrival e d) s = execStreamArrival e d s from rfl, execStreamArrival, h, hfind]
    dsimp only
    rw [List.erase_cons_head]
  refine Completes.of_eq hexec ?_
  rw [eng_setEng_same]
  exact ⟨rfl, fifoOf_setFifo .., fun m hm => eng_setEng_ne s hm _⟩

/-! #### Network operations (R89, R202, R203) -/

/-- The direction of a network operation. -/
def netOpOf (get : Bool) : NetOp := if get then .read else .write

theorem sentOrWaits_of_some {who : Who} {r : Req} {t u : State} (h : netEnter who r t = some u) :
    sentOrWaits who r t = .sent (entered who (tmoWindow t) r u.net.way t) := by
  rw [sentOrWaits, h]

section
variable {s : State} {e : Fin 512} {w txn n v off : Nat} {path : List Nat}

/-- The request of a network operation of engine e to a vault. -/
def engineReq (e : Fin 512) (get : Bool) (v txn n : Nat) (r : EngineRec) (w : Nat) (d : Line) : Req :=
  ⟨netOpOf get, engineEp e, vaultEp v, txn, ⟨2, n⟩, netAddr r w, sf w 16 6 + 1, d, .none⟩

/-- Where the data of a network operation lie in the engine's data memory. -/
def localAddr (r : EngineRec) (w : Nat) : Nat := (r.ptr r.bank (sf w 24 3)).pa / 64 * 64 + netAddr r w % 64

/-- The data that a network operation sends. -/
def netData (s : State) (e : Fin 512) (get : Bool) (w : Nat) : Line :=
  if get then 0 else dataLanes s e (localAddr (s.eng e) w) (sf w 16 6 + 1)

theorem netEnter_data (get : Bool) (r : EngineRec) (d : Line) (s : State) :
    netEnter (.engine e) (engineReq e get v txn n r w d) s = netEnter (.engine e) (engineReq e get v txn n r w 0) s := rfl

variable (htxn : freeTxn s (engineEp e) = some txn) (htenant : engineTenant s e = some n)
  (hline : netAddr (s.eng e) w % 64 + (sf w 16 6 + 1) ≤ 64) (hpl : decodeDa s (netAddr (s.eng e) w) = .vault v off)
  (hroute : leafRoute s (epLeaf (engineEp e)) (epLeaf (vaultEp v)) = some path)
include htxn htenant hline hpl hroute

/-- The router refuses a network operation exactly where the network has no room for its request (R89). -/
theorem routerRefuses_eq {get : Bool} (hop : slotOp .m w = if get then 0x18 else 0x19) :
    routerRefuses s e w = (netEnter (.engine e) (engineReq e get v txn n (s.eng e) w 0) s).isNone := by
  have hdir : (if slotOp .m w = 0x18 then NetOp.read else .write) = netOpOf get := by rw [hop]; cases get <;> rfl
  unfold routerRefuses
  rw [htenant]
  dsimp only
  rw [hdir, htxn, netAdmit_vault (Nat.add_one_ne_zero _) hline hpl hroute, sentOrWaits, ← engineReq]
  cases netEnter (.engine e) (engineReq e get v txn n (s.eng e) w 0) s <;> rfl

/-- A network operation that finds room is sent and counted as outstanding. -/
theorem netIssue_eq (get : Bool) {u : State} (hu : netEnter (.engine e) (engineReq e get v txn n (s.eng e) w (netData s e get w)) s = some u) :
    netIssue e get s (s.eng e) w = (postResult (s.eng e) w,
      (entered (.engine e) (tmoWindow s) (engineReq e get v txn n (s.eng e) w (netData s e get w)) u.net.way s).modEng e
        fun q => { q with ops := q.ops ++ [⟨txn, localAddr (s.eng e) w, sf w 16 6 + 1, get, (s.eng e).pc⟩] }) := by
  unfold netIssue
  dsimp only
  rw [htenant, htxn]
  dsimp only
  rw [netAdmit_vault (Nat.add_one_ne_zero _) hline hpl hroute]
  exact congrArg (fun x => (postResult (s.eng e) w, netTaken e get txn (localAddr (s.eng e) w) (sf w 16 6 + 1) (s.eng e) s x))
    (sentOrWaits_of_some hu)

/-- What an engine's network operation leaves: its request in the network and its record of what is outstanding, or nothing while the network
has no room. -/
theorem netSlot_effect (hw : w = slotBits .m (bundle s e)) (hcan : canIssue s e = true) (hfree : (s.eng e).issM = none)
    (hlegal : slotLegal .m w (s.eng e).pc (s.eng e).run = true) {get : Bool} {op : Nat} (hget : op = if get then 0x18 else 0x19)
    (hop : slotOp .m w = op) {r : Req} (hr : r = engineReq e get v txn n (s.eng e) w (netData s e get w)) {t : State}
    (ht : t = guarded (netRoom s e) s (issueM e op (netIssue e get))) :
    match netEnter (.engine e) r s with
    | some u => (t.eng e).ops = (s.eng e).ops ++ [⟨txn, localAddr (s.eng e) w, sf w 16 6 + 1, get, (s.eng e).pc⟩] ∧
        t.net.reqs = s.net.reqs ++ [r] ∧ t.net.way = u.net.way ∧ (t.eng e).issM = some (postResult (s.eng e) w)
    | none => t = s := by
  have hroom : netRoom s e = (netEnter (.engine e) r s).isSome := by
    rw [netRoom, slotNow, ← hw, hlegal, Bool.true_and,
      routerRefuses_eq htxn htenant hline hpl hroute (hop.trans hget), hr, netEnter_data get (s.eng e) (netData s e get w),
      Option.not_isNone]
  cases hnet : netEnter (.engine e) r s with
  | none =>
    rw [ht, hroom, hnet]
    rfl
  | some u =>
    have hissue := netIssue_eq htxn htenant hline hpl hroute get (hr ▸ hnet)
    rw [hroom, hnet, guarded_true Option.isSome_some, issueM_of_legal hw hcan hfree hlegal hop, hissue, ← hr] at ht
    have heng : t.eng e = issuedM (bundle s e) (postResult (s.eng e) w)
        { s.eng e with ops := (s.eng e).ops ++ [⟨txn, localAddr (s.eng e) w, sf w 16 6 + 1, get, (s.eng e).pc⟩] } := by
      rw [ht, eng_modEng_same, eng_modEng_same]
      rfl
    rw [heng, ht]
    exact ⟨rfl, rfl, rfl, rfl⟩

end

/-- Settles O18: a legal slot that may issue does what its instruction says and nothing else; a network operation is held back exactly where the
network has no room for its request. -/
theorem streamAndNetworkSlotsAct : Obligations.StreamAndNetworkSlotsAct := by
  unfold Obligations.StreamAndNetworkSlotsAct
  refine ⟨?_, ?_, ?_, ?_, ?_⟩
  · exact fun s e w d f hw hcan hfree hlegal hop hd hlink => ssend_completes hw hcan hfree hlegal hop hd hlink
  · exact fun s e w d f hw hcan hfree hlegal hop hd hlink => srecv_completes hw hcan hfree hlegal hop hd hlink
  · exact fun s e w hw hcan hfree hlegal hlink z hz hop => closedLink_completes hw hcan hfree hlegal hlink hz hop
  · rintro s e r w txn n v off path rfl hw hcan hfree hlegal htxn htenant hline hpl hroute len addr req z hz hop
    rcases List.mem_pair.mp hz with rfl | rfl
    · exact Completes.of_eq (t := guarded (netRoom s e) s (issueM e 0x18 (netIssue e true))) rfl
        (netSlot_effect htxn htenant hline hpl hroute hw hcan hfree hlegal (get := true) rfl hop rfl rfl)
    · exact Completes.of_eq (t := guarded (netRoom s e) s (issueM e 0x19 (netIssue e false))) rfl
        (netSlot_effect htxn htenant hline hpl hroute hw hcan hfree hlegal (get := false) rfl hop rfl rfl)
  · exact fun s e d v l h => streamArrival_completes h

end Sys2Proof.Machine

/-! ### Knuckle channels (R95–R98) -/

namespace Sys2Proof.Machine
open Sys2Proof

/-! #### The logical channels of a group -/

theorem knkAt_setKnk_same (s : State) (g n : Nat) (r : KnkRec) : (s.setKnk g n r).knkAt g n = r := sget_sset_self ..

theorem knkAt_setKnk_ne (s : State) (g : Nat) {n m : Nat} (h : m ≠ n) (r : KnkRec) : (s.setKnk g n r).knkAt g m = s.knkAt g m :=
  sget_sset_ne _ _ _ _ (by omega)

theorem knkAt_congr {s t : State} (h : t.knk = s.knk) (g n : Nat) : t.knkAt g n = s.knkAt g n := by rw [State.knkAt, State.knkAt, h]

/-- The state with the logical channels as listed. -/
def withChans (s : State) (l : Sparse KnkRec) : State := { s with knk := { s.knk with chan := l } }

/-- A pass over a group in which each step rewrites the record of its own logical channel alone. -/
structure RewritesOwn (g : Nat) (f : State → Nat → State) : Prop where
  chans : ∀ t m, ∃ l, f t m = withChans t l
  others : ∀ t m j, j ≠ m → (f t m).knkAt g j = t.knkAt g j

theorem RewritesOwn.foldl_eq {g : Nat} {f : State → Nat → State} (hf : RewritesOwn g f) (ms : List Nat) (s : State) :
    ∃ l, ms.foldl f s = withChans s l := by
  induction ms generalizing s with
  | nil => exact ⟨s.knk.chan, rfl⟩
  | cons m ms ih =>
    obtain ⟨l, hl⟩ := hf.chans s m
    obtain ⟨l', hl'⟩ := ih (f s m)
    exact ⟨l', by rw [List.foldl_cons, hl', hl]; rfl⟩

/-- What such a pass over the lowest `k` channels leaves: each of them as its own step makes it. -/
theorem RewritesOwn.knkAt_foldl {g : Nat} {f : State → Nat → State} (hf : RewritesOwn g f) (s : State) {new : Nat → KnkRec → KnkRec}
    (hown : ∀ l m, (f (withChans s l) m).knkAt g m = new m ((withChans s l).knkAt g m)) (k n : Nat) :
    ((List.range k).foldl f s).knkAt g n = if n < k then new n (s.knkAt g n) else s.knkAt g n := by
  induction k with
  | zero => rfl
  | succ k ih =>
    rw [List.range_succ, List.foldl_append, List.foldl_cons, List.foldl_nil]
    by_cases hn : n = k
    · subst hn
      rw [if_neg (Nat.lt_irrefl n)] at ih
      obtain ⟨l, hl⟩ := hf.foldl_eq (List.range n) s
      rw [if_pos n.lt_succ_self, ← ih, hl]
      exact hown l n
    · rw [hf.others _ _ _ hn, ih]
      exact if_congr (by omega) rfl rfl

/-! #### The mapping of logical onto physical channels (R95) -/

/-- Two states in which the channels of group `g` are mapped alike. -/
structure SameMapping (g : Nat) (s t : State) : Prop where
  ret0 : t.rd F.KRV_KNK_SPARE.RET0 g = s.rd F.KRV_KNK_SPARE.RET0 g
  ret1 : t.rd F.KRV_KNK_SPARE.RET1 g = s.rd F.KRV_KNK_SPARE.RET1 g
  lfail : t.rd F.KRV_KNK_STAT.LFAIL g = s.rd F.KRV_KNK_STAT.LFAIL g
  failed : sget 0 t.knk.physFailed g = sget 0 s.knk.physFailed g

namespace SameMapping
variable {g : Nat} {s t u : State}

theorem trans (h : SameMapping g s t) (h' : SameMapping g t u) : SameMapping g s u :=
  ⟨h'.ret0.trans h.ret0, h'.ret1.trans h.ret1, h'.lfail.trans h.lfail, h'.failed.trans h.failed⟩

theorem physOut_eq (h : SameMapping g s t) (p : Nat) : physOut t g p = physOut s g p := by
  simp only [physOut, h.ret0, h.ret1, h.failed]

theorem logicalFailed_eq (h : SameMapping g s t) (n : Nat) : logicalFailed t g n = logicalFailed s g n := by
  simp only [logicalFailed, h.lfail]

theorem physUsable_eq (h : SameMapping g s t) : physUsable t g = physUsable s g := by simp only [physUsable, h.physOut_eq]

theorem logicalUsable_eq (h : SameMapping g s t) : logicalUsable t g = logicalUsable s g := by
  simp only [logicalUsable, h.logicalFailed_eq]

theorem physOf_eq (h : SameMapping g s t) (n : Nat) : physOf t g n = physOf s g n := by
  simp only [physOf, h.logicalFailed_eq, h.physUsable_eq, h.logicalUsable_eq]

theorem sparesLeft_eq (h : SameMapping g s t) : sparesLeft t g = sparesLeft s g := by
  simp only [sparesLeft, h.physUsable_eq, h.logicalUsable_eq]

end SameMapping

/-- The place of an element in a rising list is the number of the elements below it. -/
theorem getElem?_eq_some_iff_of_rising {l : List Nat} (hl : l.Pairwise (· < ·)) {k x : Nat} :
    l[k]? = some x ↔ x ∈ l ∧ (l.filter (· < x)).length = k := by
  induction l generalizing k with
  | nil => simp
  | cons a l ih =>
    obtain ⟨ha, hl⟩ := List.pairwise_cons.mp hl
    have hbelow : (l.filter (· < a)).length = 0 := by
      rw [List.length_eq_zero_iff, List.filter_eq_nil_iff]
      intro b hb
      have := ha b hb
      simp only [decide_eq_true_eq]
      omega
    cases k with
    | zero =>
      rw [List.getElem?_cons_zero, Option.some_inj, List.mem_cons, List.filter_cons]
      constructor
      · rintro rfl
        exact ⟨.inl rfl, by rw [if_neg (by simp), hbelow]⟩
      · rintro ⟨rfl | hx, hlen⟩
        · rfl
        · rw [if_pos (decide_eq_true (ha x hx))] at hlen
          exact absurd hlen (Nat.succ_ne_zero _)
    | succ k =>
      rw [List.getElem?_cons_succ, ih hl, List.mem_cons, List.filter_cons]
      constructor
      · rintro ⟨hx, rfl⟩
        exact ⟨.inr hx, by rw [if_pos (decide_eq_true (ha x hx)), List.length_cons]⟩
      · rintro ⟨rfl | hx, hlen⟩
        · rw [if_neg (by simp), hbelow] at hlen
          exact absurd hlen.symm (Nat.succ_ne_zero k)
        · rw [if_pos (decide_eq_true (ha x hx)), List.length_cons] at hlen
          exact ⟨hx, Nat.succ.inj hlen⟩

theorem rising_physUsable (s : State) (g : Nat) : (physUsable s g).Pairwise (· < ·) := List.pairwise_lt_range.filter _

theorem rising_logicalUsable (s : State) (g : Nat) : (logicalUsable s g).Pairwise (· < ·) := List.pairwise_lt_range.filter _

theorem mem_physUsable {s : State} {g p : Nat} : p ∈ physUsable s g ↔ p < 18 ∧ physOut s g p = false := by simp [physUsable]

theorem mem_logicalUsable {s : State} {g n : Nat} : n ∈ logicalUsable s g ↔ n < 16 ∧ logicalFailed s g n = false := by
  simp [logicalUsable]

theorem logicalFailed_of_physOf {s : State} {g n p : Nat} (h : physOf s g n = some p) : logicalFailed s g n = false := by
  unfold physOf at h
  split at h
  · cases h
  · next hfailed => exact Bool.eq_false_iff.mpr hfailed

/-- The physical channel that carries a logical one is usable, and carries that one (R95). -/
theorem carries_of_physOf {s : State} {g n p : Nat} (hn : n < 16) (h : physOf s g n = some p) :
    p ∈ physUsable s g ∧ logicalOn s g p = some n := by
  have hup := logicalFailed_of_physOf h
  rw [physOf, hup, if_neg Bool.false_ne_true, getElem?_eq_some_iff_of_rising (rising_physUsable s g)] at h
  obtain ⟨hp, hbelow⟩ := h
  refine ⟨hp, ?_⟩
  rw [logicalOn, (mem_physUsable.mp hp).2, if_neg Bool.false_ne_true, getElem?_eq_some_iff_of_rising (rising_logicalUsable s g)]
  exact ⟨mem_logicalUsable.mpr ⟨hn, hup⟩, hbelow.symm⟩

/-- With no spare left every usable physical channel carries a logical one. -/
theorem logicalOn_of_no_spare {s : State} {g p : Nat} (hp : p ∈ physUsable s g) (hspare : sparesLeft s g = 0) :
    ∃ n, logicalOn s g p = some n := by
  have hlt : ((physUsable s g).filter (· < p)).length < (physUsable s g).length :=
    List.length_filter_lt_length_iff_exists.mpr ⟨p, hp, by simp⟩
  have hle : (physUsable s g).length ≤ (logicalUsable s g).length := Nat.sub_eq_zero_iff_le.mp hspare
  exact ⟨_, by rw [logicalOn, (mem_physUsable.mp hp).2, if_neg Bool.false_ne_true, List.getElem?_eq_getElem (hlt.trans_le hle)]⟩

/-- One spare fewer is left when one usable physical channel more is out. -/
theorem sparesLeft_of_out {s t : State} {g p : Nat} (hp : p ∈ physUsable s g) (hfail : t.rd F.KRV_KNK_STAT.LFAIL g = s.rd F.KRV_KNK_STAT.LFAIL g)
    (hout : ∀ q < 18, physOut t g q = (q == p || physOut s g q)) : sparesLeft t g = sparesLeft s g - 1 := by
  have hlogical : logicalUsable t g = logicalUsable s g := by simp only [logicalUsable, logicalFailed, hfail]
  have hphys : physUsable t g = (physUsable s g).erase p := by
    rw [(rising_physUsable s g).nodup.erase_eq_filter, physUsable, physUsable, List.filter_filter]
    refine List.filter_congr fun q hq => ?_
    rw [hout q (List.mem_range.mp hq), Bool.not_or]
    rfl
  rw [sparesLeft, sparesLeft, hlogical, hphys, List.length_erase_of_mem hp]
  omega

/-! #### What the steps of a retirement and of a restore leave (R96, R98) -/

/-- Physical channel `p` and its logical channel `n` have failed, and no spare is left for it. -/
def channelFailed (g n p : Nat) (s : State) : State :=
  ({ s with knk := { s.knk with physFailed := sset 0 s.knk.physFailed g (nsetBit (sget 0 s.knk.physFailed g) p true) } }.setKnk g n
    ⟨.failed, 0, 0⟩).wrBit F.KRV_KNK_STAT.LFAIL g n true

theorem physOut_channelFailed (g n p : Nat) (s : State) : physOut (channelFailed g n p s) g p = true := by
  have hfailed : sget 0 (channelFailed g n p s).knk.physFailed g = nsetBit (sget 0 s.knk.physFailed g) p true := sget_sset_self ..
  rw [physOut, hfailed, nbit, testBit_nsetBit, if_pos rfl, Bool.or_true]

theorem knkAt_channelFailed (g n p : Nat) (s : State) : (channelFailed g n p s).knkAt g n = ⟨.failed, 0, 0⟩ := knkAt_setKnk_same ..

theorem logicalFailed_channelFailed (g p : Nat) {n : Nat} (hn : n < 16) (s : State) : logicalFailed (channelFailed g n p s) g n = true := by
  rw [logicalFailed, channelFailed, nbit_wrBit _ _ _ _ _ _ (by decide) hn, if_pos rfl]

theorem knk_knkStat (g : Nat) (s : State) : (knkStat g s).knk = s.knk := rfl

theorem knk_recordRetired (g p : Nat) (s : State) : (recordRetired g p s).knk = s.knk := (keeps_recordRetired g p s).part .knk rfl

theorem knk_knkEvent (s : State) : (knkEvent s).knk = s.knk := (keeps_knkEvent s).part .knk rfl

theorem knk_reroute (s : State) : (reroute s).knk = s.knk := (keeps_reroute s).part .knk rfl

theorem rd_knkStat {f : Fld} (hspares : f.reg ≠ .KRV_KNK_STAT ∨ 18 ≤ f.lo ∨ f.lo + f.width ≤ 16)
    (hdetour : f.reg ≠ .KRV_KNK_STAT ∨ 20 ≤ f.lo ∨ f.lo + f.width ≤ 19) (g i : Nat) (s : State) : (knkStat g s).rd f i = s.rd f i := by
  unfold knkStat
  rw [rd_wr_other _ _ _ _ _ _ (Fld.apart_of_places (hdetour.imp Ne.symm id) g i),
    rd_wr_other _ _ _ _ _ _ (Fld.apart_of_places (hspares.imp Ne.symm id) g i)]

theorem rd_reroute (f : Fld) (i : Nat) (s : State) : (reroute s).rd f i = s.rd f i := (keeps_reroute s).rd f i (Nat.zero_testBit _)

theorem sameMapping_knkStat (g : Nat) (s : State) : SameMapping g s (knkStat g s) :=
  ⟨rd_knkStat (by decide) (by decide) .., rd_knkStat (by decide) (by decide) .., rd_knkStat (by decide) (by decide) .., rfl⟩

theorem sameMapping_knkEvent (g : Nat) (s : State) : SameMapping g s (knkEvent s) :=
  have h := keeps_knkEvent s
  ⟨h.rd _ _ rfl, h.rd _ _ rfl, h.rd _ _ rfl, by rw [knk_knkEvent]⟩

theorem sameMapping_reroute (g : Nat) (s : State) : SameMapping g s (reroute s) :=
  ⟨rd_reroute .., rd_reroute .., rd_reroute .., by rw [knk_reroute]⟩

theorem flag_busy_knkStat (g : Nat) (s : State) : (knkStat g s).flag F.KRV_KNK_STAT.BUSY g = s.flag F.KRV_KNK_STAT.BUSY g :=
  congrArg (· != 0) (rd_knkStat (by decide) (by decide) ..)

theorem flag_busy_reroute (g : Nat) (s : State) : (reroute s).flag F.KRV_KNK_STAT.BUSY g = s.flag F.KRV_KNK_STAT.BUSY g :=
  congrArg (· != 0) (rd_reroute ..)

theorem flag_busy_knkEvent (g : Nat) (s : State) : (knkEvent s).flag F.KRV_KNK_STAT.BUSY g = s.flag F.KRV_KNK_STAT.BUSY g :=
  (keeps_knkEvent s).flag _ _ rfl

/-- The step of `pauseFrom` for one channel. -/
def pauseOne (g n : Nat) (t : State) (m : Nat) : State :=
  if m < n ∨ logicalFailed t g m then t else t.setKnk g m ⟨.retiring, if m = n then 0 else (t.knkAt g m).replays, 0⟩

/-- A channel's record after the pause from channel `n` on; `failed`: it has failed. -/
def pausedRec (n : Nat) (failed : Bool) (m : Nat) (r : KnkRec) : KnkRec :=
  if m < n ∨ failed then r else ⟨.retiring, if m = n then 0 else r.replays, 0⟩

theorem pausedRec_below {n m : Nat} (h : m < n) (failed : Bool) (r : KnkRec) : pausedRec n failed m r = r := if_pos (.inl h)

theorem pausedRec_self (n : Nat) (r : KnkRec) : pausedRec n false n r = ⟨.retiring, 0, 0⟩ := by simp [pausedRec]

theorem pausedRec_above {n m : Nat} (h : n < m) (r : KnkRec) : pausedRec n false m r = ⟨.retiring, r.replays, 0⟩ := by
  rw [pausedRec, if_neg (by simp; omega), if_neg (by omega)]

theorem rewritesOwn_pauseOne (g n : Nat) : RewritesOwn g (pauseOne g n) where
  chans t m := by
    unfold pauseOne
    split
    · exact ⟨t.knk.chan, rfl⟩
    · exact ⟨_, rfl⟩
  others t m j hj := by
    unfold pauseOne
    split
    · rfl
    · exact knkAt_setKnk_ne t g hj _

theorem knkAt_pauseOne (g n m : Nat) (t : State) : (pauseOne g n t m).knkAt g m = pausedRec n (logicalFailed t g m) m (t.knkAt g m) := by
  unfold pauseOne pausedRec
  split
  · rfl
  · exact knkAt_setKnk_same ..

theorem pauseFrom_eq (g n : Nat) (s : State) :
    pauseFrom g n s = ((List.range 16).foldl (pauseOne g n) s).on F.KRV_KNK_STAT.BUSY g := rfl

theorem knkAt_pauseFrom (g n : Nat) {m : Nat} (hm : m < 16) (s : State) :
    (pauseFrom g n s).knkAt g m = pausedRec n (logicalFailed s g m) m (s.knkAt g m) :=
  ((rewritesOwn_pauseOne g n).knkAt_foldl s (new := fun m => pausedRec n (logicalFailed s g m) m)
    (fun l m => knkAt_pauseOne g n m (withChans s l)) 16 m).trans (if_pos hm)

theorem sameMapping_withChans_on (g : Nat) (l : Sparse KnkRec) (s : State) :
    SameMapping g s ((withChans s l).on F.KRV_KNK_STAT.BUSY g) :=
  have hstat (f : Fld) (h : f.reg ≠ .KRV_KNK_STAT ∨ 19 ≤ f.lo ∨ f.lo + f.width ≤ 18) :
      ((withChans s l).on F.KRV_KNK_STAT.BUSY g).rd f g = s.rd f g :=
    rd_wr_other _ _ _ _ _ _ (Fld.apart_of_places (h.imp Ne.symm id) g g)
  ⟨hstat _ (by decide), hstat _ (by decide), hstat _ (by decide), rfl⟩

theorem sameMapping_pauseFrom (g n : Nat) (s : State) : SameMapping g s (pauseFrom g n s) := by
  obtain ⟨l, hl⟩ := (rewritesOwn_pauseOne g n).foldl_eq (List.range 16) s
  rw [pauseFrom_eq, hl]
  exact sameMapping_withChans_on g l s

theorem flag_busy_pauseFrom (g n : Nat) (s : State) : (pauseFrom g n s).flag F.KRV_KNK_STAT.BUSY g = true :=
  flag_on_same _ _ _ (by decide) (by decide)

/-- A retired channel is out of use, by the field that records it. -/
theorem physOut_recordRetired {g p : Nat} (hp : p < 18) (s : State) : physOut (recordRetired g p s) g p = true := by
  have hmod : p % 2 ^ 5 = p := Nat.mod_eq_of_lt (by omega)
  unfold recordRetired physOut
  split
  · rw [rd_wr_same _ _ _ _ (by decide), show p % 2 ^ F.KRV_KNK_SPARE.RET0.width = p from hmod, beq_self_eq_true, Bool.true_or, Bool.true_or]
  · rw [rd_wr_same _ _ _ _ (by decide), show p % 2 ^ F.KRV_KNK_SPARE.RET1.width = p from hmod, beq_self_eq_true, Bool.or_true, Bool.true_or]

/-- The first channel retired is recorded in RET0. -/
theorem recordRetired_first {g : Nat} {s : State} (h : s.rd F.KRV_KNK_SPARE.RET0 g = 31) (p : Nat) :
    recordRetired g p s = s.wr F.KRV_KNK_SPARE.RET0 g p := if_pos h

/-! #### A channel taken out of use (R95, R96) -/

section
variable {s : State} {g p : Nat} (hp : p ∈ physUsable s g)
include hp

theorem takeOut_of_spare_unused (hspare : 0 < sparesLeft s g) (hon : logicalOn s g p = none) :
    takeOut g p s = knkEvent (knkStat g (recordRetired g p s)) := by
  rw [takeOut, (mem_physUsable.mp hp).2, if_neg Bool.false_ne_true, if_pos hspare, hon]

theorem takeOut_of_spare (hspare : 0 < sparesLeft s g) {n : Nat} (hon : logicalOn s g p = some n) :
    takeOut g p s = knkEvent (knkStat g (if s.knk.carrying then pauseFrom g n (recordRetired g p s) else recordRetired g p s)) := by
  rw [takeOut, (mem_physUsable.mp hp).2, if_neg Bool.false_ne_true, if_pos hspare, hon]

theorem takeOut_of_no_spare (hspare : sparesLeft s g = 0) {n : Nat} (hon : logicalOn s g p = some n) :
    takeOut g p s = knkEvent (reroute (knkStat g (channelFailed g n p s))) := by
  rw [takeOut, (mem_physUsable.mp hp).2, if_neg Bool.false_ne_true, if_neg (by omega), hon]
  rfl

end

theorem sameMapping_ended (g : Nat) (s : State) : SameMapping g s (knkEvent (knkStat g s)) :=
  (sameMapping_knkStat g s).trans (sameMapping_knkEvent g _)

theorem sameMapping_failed (g : Nat) (s : State) : SameMapping g s (knkEvent (reroute (knkStat g s))) :=
  ((sameMapping_knkStat g s).trans (sameMapping_reroute g _)).trans (sameMapping_knkEvent g _)

/-- A channel taken out of use is out of use, in each of the ways that it can be taken out. -/
theorem physOut_takeOut {g p : Nat} (hp : p < 18) (s : State) : physOut (takeOut g p s) g p = true := by
  by_cases hout : physOut s g p = true
  · rw [takeOut, if_pos hout, hout]
  have hmem : p ∈ physUsable s g := mem_physUsable.mpr ⟨hp, Bool.eq_false_iff.mpr hout⟩
  by_cases hspare : 0 < sparesLeft s g
  · cases hon : logicalOn s g p with
    | none => rw [takeOut_of_spare_unused hmem hspare hon, (sameMapping_ended g _).physOut_eq, physOut_recordRetired hp]
    | some n =>
      rw [takeOut_of_spare hmem hspare hon, (sameMapping_ended g _).physOut_eq]
      split
      · rw [(sameMapping_pauseFrom g n _).physOut_eq, physOut_recordRetired hp]
      · exact physOut_recordRetired hp s
  · have hnone : sparesLeft s g = 0 := Nat.eq_zero_of_not_pos hspare
    obtain ⟨n, hon⟩ := logicalOn_of_no_spare hmem hnone
    rw [takeOut_of_no_spare hmem hnone hon, (sameMapping_failed g _).physOut_eq, physOut_channelFailed]

theorem retireChannel_of_physOf {s : State} {g n p : Nat} (h : physOf s g n = some p) : retireChannel g n s = takeOut g p s := by
  rw [retireChannel, h]

theorem physOut_retireChannel {s : State} {g n p : Nat} (hn : n < 16) (h : physOf s g n = some p) :
    physOut (retireChannel g n s) g p = true := by
  rw [retireChannel_of_physOf h]
  exact physOut_takeOut (mem_physUsable.mp (carries_of_physOf hn h).1).1 s

/-- A retirement onto a spare, while the network carries traffic: what it leaves. -/
structure RetiredOnto (g n p : Nat) (s t : State) : Prop where
  ret0 : t.rd F.KRV_KNK_SPARE.RET0 g = p
  chans : ∀ m < 16, t.knkAt g m = pausedRec n (logicalFailed s g m) m (s.knkAt g m)
  busy : t.flag F.KRV_KNK_STAT.BUSY g = true
  spares : sparesLeft t g = sparesLeft s g - 1

theorem retiredOnto_retireChannel {s : State} {g n p : Nat} (hn : n < 16) (h : physOf s g n = some p) (hcarrying : s.knk.carrying = true)
    (hspare : 0 < sparesLeft s g) (hret : s.rd F.KRV_KNK_SPARE.RET0 g = 31) : RetiredOnto g n p s (retireChannel g n s) := by
  obtain ⟨hp, hon⟩ := carries_of_physOf hn h
  obtain ⟨hp18, hin⟩ := mem_physUsable.mp hp
  rw [retireChannel_of_physOf h, takeOut_of_spare hp hspare hon, hcarrying, if_pos rfl, recordRetired_first hret]
  have hmap := (sameMapping_pauseFrom g n (s.wr F.KRV_KNK_SPARE.RET0 g p)).trans (sameMapping_ended g _)
  have hret0 : (s.wr F.KRV_KNK_SPARE.RET0 g p).rd F.KRV_KNK_SPARE.RET0 g = p :=
    (rd_wr_same _ _ _ _ (by decide)).trans (Nat.mod_eq_of_lt (hp18.trans (by decide)))
  have hret1 : (s.wr F.KRV_KNK_SPARE.RET0 g p).rd F.KRV_KNK_SPARE.RET1 g = s.rd F.KRV_KNK_SPARE.RET1 g :=
    rd_wr_other _ _ _ _ _ _ (Fld.apart_of_places (by decide) g g)
  have hlfail : (s.wr F.KRV_KNK_SPARE.RET0 g p).rd F.KRV_KNK_STAT.LFAIL g = s.rd F.KRV_KNK_STAT.LFAIL g :=
    rd_wr_other _ _ _ _ _ _ (Fld.apart_of_places (by decide) g g)
  refine ⟨hmap.ret0.trans hret0, fun m hm => ?_, ?_, sparesLeft_of_out hp (hmap.lfail.trans hlfail) fun q hq => ?_⟩
  · rw [knkAt_congr (knk_knkEvent _), knkAt_congr (knk_knkStat ..), knkAt_pauseFrom g n hm, logicalFailed, hlfail]
    rfl
  · rw [flag_busy_knkEvent, flag_busy_knkStat, flag_busy_pauseFrom]
  · have hq31 : (31 == q) = false := beq_eq_false_iff_ne.mpr (by omega)
    rw [hmap.physOut_eq, physOut, physOut, hret0, hret1, hret, hq31, Bool.false_or, Bool.or_assoc, BEq.comm]
    rfl

/-- With no spare left the logical channel fails (R96). -/
theorem failed_retireChannel {s : State} {g n p : Nat} (hn : n < 16) (h : physOf s g n = some p) (hspare : sparesLeft s g = 0) :
    (retireChannel g n s).knkAt g n = ⟨.failed, 0, 0⟩ ∧ logicalFailed (retireChannel g n s) g n = true := by
  obtain ⟨hp, hon⟩ := carries_of_physOf hn h
  rw [retireChannel_of_physOf h, takeOut_of_no_spare hp hspare hon]
  constructor
  · rw [knkAt_congr (knk_knkEvent _), knkAt_congr (knk_reroute _), knkAt_congr (knk_knkStat ..), knkAt_channelFailed]
  · rw [(sameMapping_failed g _).logicalFailed_eq, logicalFailed_channelFailed g p hn]

/-! #### A restore (R97, R98) -/

theorem nsetBit_two_pow (p : Nat) : nsetBit (2 ^ p) p false = 0 := by
  rw [nsetBit, if_neg Bool.false_ne_true, Nat.testBit_two_pow_self, if_pos rfl, Nat.one_shiftLeft, Nat.sub_self]

theorem rd_restoreField {f : Fld} (hf : f.width = 5 ∧ f.lo + 5 ≤ 32) (g : Nat) (passing : List Nat) (s : State) :
    (restoreField f g passing s).rd f g = if passing.contains (s.rd f g) then 31 else s.rd f g := by
  obtain ⟨hwidth, hplace⟩ := hf
  unfold restoreField
  split
  · rw [rd_wr_same _ _ _ _ (by omega), hwidth]
    rfl
  · rfl

theorem rd_restoreField_other {f h : Fld} (hapart : f.reg ≠ h.reg ∨ f.lo + f.width ≤ h.lo ∨ h.lo + h.width ≤ f.lo) (g i : Nat)
    (passing : List Nat) (s : State) : (restoreField f g passing s).rd h i = s.rd h i := by
  unfold restoreField
  split
  · exact rd_wr_other _ _ _ _ _ _ (Fld.apart_of_places hapart g i)
  · rfl

theorem knk_restoreField (f : Fld) (g : Nat) (passing : List Nat) (s : State) : (restoreField f g passing s).knk = s.knk := by
  unfold restoreField
  split <;> rfl

/-- The retired-channel fields with the passing channels taken out. -/
def restoredFields (g : Nat) (passing : List Nat) (s : State) : State :=
  restoreField F.KRV_KNK_SPARE.RET1 g passing (restoreField F.KRV_KNK_SPARE.RET0 g passing s)

/-- The passing channels are spares and the retest has ended; no logical channel is brought back yet. -/
def retested (g : Nat) (passing : List Nat) (s : State) : State :=
  let t := restoredFields g passing s
  { t with knk := { t.knk with
    physFailed := sset 0 t.knk.physFailed g (passing.foldl (fun m p => nsetBit m p false) (sget 0 t.knk.physFailed g))
    restoring := BitVec.ofNat 4 (nsetBit t.knk.restoring.toNat g false) } }

/-- BUSY ends here unless a channel of the group is paused. -/
def busyEnded (g : Nat) (s : State) : State :=
  if (List.range 16).any fun n => (s.knkAt g n).st == .retiring then s else s.off F.KRV_KNK_STAT.BUSY g

/-- The failed logical channels brought back, as far as there are spares. -/
def allBroughtBack (g : Nat) (s : State) : State := (List.range 16).foldl (fun t n => bringBack g n t) s

theorem exec_restoreComplete (g : Fin 4) (passing : List Nat) (s : State) :
    exec (.restoreComplete g passing) s = done (guarded (nbit s.knk.restoring.toNat g) s fun s =>
      reroute (knkStat g (busyEnded g (allBroughtBack g (retested g passing s))))) := rfl

theorem ret0_retested (g : Nat) (passing : List Nat) (s : State) : (retested g passing s).rd F.KRV_KNK_SPARE.RET0 g =
    if passing.contains (s.rd F.KRV_KNK_SPARE.RET0 g) then 31 else s.rd F.KRV_KNK_SPARE.RET0 g :=
  (rd_restoreField_other (by decide) ..).trans (rd_restoreField (by decide) ..)

theorem ret1_retested (g : Nat) (passing : List Nat) (s : State) : (retested g passing s).rd F.KRV_KNK_SPARE.RET1 g =
    if passing.contains (s.rd F.KRV_KNK_SPARE.RET1 g) then 31 else s.rd F.KRV_KNK_SPARE.RET1 g := by
  refine (rd_restoreField (by decide) ..).trans ?_
  rw [rd_restoreField_other (by decide)]

theorem lfail_retested (g : Nat) (passing : List Nat) (s : State) :
    (retested g passing s).rd F.KRV_KNK_STAT.LFAIL g = s.rd F.KRV_KNK_STAT.LFAIL g :=
  (rd_restoreField_other (by decide) ..).trans (rd_restoreField_other (by decide) ..)

theorem knk_restoredFields (g : Nat) (passing : List Nat) (s : State) : (restoredFields g passing s).knk = s.knk :=
  (knk_restoreField ..).trans (knk_restoreField ..)

theorem knkAt_retested (g : Nat) (passing : List Nat) (s : State) (n : Nat) : (retested g passing s).knkAt g n = s.knkAt g n :=
  knkAt_congr (knk_restoredFields g passing s) g n

theorem restoring_retested (g : Fin 4) (passing : List Nat) (s : State) : nbit (retested g passing s).knk.restoring.toNat g = false := by
  show nbit (BitVec.ofNat 4 (nsetBit (restoredFields g passing s).knk.restoring.toNat g false)).toNat g = false
  rw [BitVec.toNat_ofNat, nbit, Nat.testBit_mod_two_pow, testBit_nsetBit, if_pos rfl, Bool.and_false]

theorem physFailed_retested (g : Nat) (passing : List Nat) (s : State) : sget 0 (retested g passing s).knk.physFailed g =
    passing.foldl (fun m p => nsetBit m p false) (sget 0 s.knk.physFailed g) := by
  rw [← knk_restoredFields g passing s]
  exact sget_sset_self ..

theorem knk_busyEnded (g : Nat) (s : State) : (busyEnded g s).knk = s.knk := by
  unfold busyEnded
  split <;> rfl

theorem sameMapping_busyEnded (g : Nat) (s : State) : SameMapping g s (busyEnded g s) := by
  have hoff (f : Fld) (h : f.reg ≠ .KRV_KNK_STAT ∨ 19 ≤ f.lo ∨ f.lo + f.width ≤ 18) : (busyEnded g s).rd f g = s.rd f g := by
    unfold busyEnded
    split
    · rfl
    · exact rd_wr_other _ _ _ _ _ _ (Fld.apart_of_places (h.imp Ne.symm id) g g)
  exact ⟨hoff _ (by decide), hoff _ (by decide), hoff _ (by decide), by rw [knk_busyEnded]⟩

theorem flag_busy_busyEnded_of_none {g : Nat} {s : State} (h : ∀ n < 16, (s.knkAt g n).st ≠ .retiring) :
    (busyEnded g s).flag F.KRV_KNK_STAT.BUSY g = false := by
  have hnone : ((List.range 16).any fun n => (s.knkAt g n).st == .retiring) = false :=
    List.any_eq_false.mpr fun n hn => by simpa using h n (List.mem_range.mp hn)
  rw [busyEnded, hnone, if_neg Bool.false_ne_true]
  exact flag_off_same _ _ _ (by decide)

theorem busyEnded_of_paused {g n : Nat} (hn : n < 16) {s : State} (h : (s.knkAt g n).st = .retiring) : busyEnded g s = s :=
  if_pos (List.any_eq_true.mpr ⟨n, List.mem_range.mpr hn, by rw [h]; rfl⟩)

/-- A channel that has not failed is not brought back. -/
theorem bringBack_of_up {g n : Nat} {s : State} (h : logicalFailed s g n = false) : bringBack g n s = s :=
  if_neg fun hb => absurd hb.1 (by rw [h]; exact Bool.false_ne_true)

theorem foldl_bringBack_of_up {g : Nat} {s : State} {ms : List Nat} (h : ∀ m ∈ ms, logicalFailed s g m = false) :
    ms.foldl (fun t n => bringBack g n t) s = s := by
  induction ms with
  | nil => rfl
  | cons m ms ih =>
    obtain ⟨hm, hms⟩ := List.forall_mem_cons.mp h
    rw [List.foldl_cons, bringBack_of_up hm, ih hms]

/-- The state in which logical channel `n` is brought back, before its pause. -/
def upAgain (g n : Nat) (s : State) : State := (s.setKnk g n .idle).wrBit F.KRV_KNK_STAT.LFAIL g n false

theorem logicalFailed_upAgain (g n : Nat) {m : Nat} (hm : m < 16) (s : State) :
    logicalFailed (upAgain g n s) g m = if m = n then false else logicalFailed s g m :=
  nbit_wrBit _ _ _ _ _ _ (by decide) hm

theorem physOut_upAgain (g n p : Nat) (s : State) : physOut (upAgain g n s) g p = physOut s g p := by
  have hrd (f : Fld) (h : f.reg ≠ .KRV_KNK_STAT) : (upAgain g n s).rd f g = s.rd f g := rd_wrBit_other _ _ _ _ _ _ _ (.inl h.symm)
  rw [physOut, hrd _ (by decide), hrd _ (by decide)]
  rfl

/-- The one failed channel is brought back where there is a spare. -/
theorem allBroughtBack_of_one {g n : Nat} (hn : n < 16) {s : State} (hfailed : ∀ m < 16, logicalFailed s g m = decide (m = n))
    (hspare : 0 < sparesLeft s g) : allBroughtBack g s = pauseFrom g n (upAgain g n s) := by
  obtain ⟨below, above, hsplit⟩ := List.append_of_mem (List.mem_range.mpr hn)
  have hlt : ∀ m ∈ below ++ n :: above, m < 16 := fun m hm => List.mem_range.mp (hsplit ▸ hm)
  have hnodup : (below ++ n :: above).Nodup := hsplit ▸ List.nodup_range
  have hbelow : ∀ m ∈ below, logicalFailed s g m = false := fun m hm => by
    rw [hfailed m (hlt m (List.mem_append_left _ hm)), decide_eq_false_iff_not]
    exact (List.nodup_append.mp hnodup).2.2 m hm n List.mem_cons_self
  have hback : bringBack g n s = pauseFrom g n (upAgain g n s) := if_pos ⟨by rw [hfailed n hn, decide_eq_true rfl], hspare⟩
  rw [allBroughtBack, hsplit, List.foldl_append, List.foldl_cons, foldl_bringBack_of_up hbelow, hback]
  refine foldl_bringBack_of_up fun m hm => ?_
  have hm16 := hlt m (List.mem_append_right _ (List.mem_cons_of_mem _ hm))
  rw [(sameMapping_pauseFrom g n _).logicalFailed_eq, logicalFailed_upAgain g n hm16, hfailed m hm16]
  split
  · rfl
  · next hne => exact decide_eq_false hne

/-- With every physical channel of a group in use or spare there are two spares at least. -/
theorem sparesLeft_of_all_usable {s : State} {g : Nat} (h : ∀ p < 18, physOut s g p = false) : 0 < sparesLeft s g := by
  have hphys : (physUsable s g).length = 18 := by
    rw [physUsable, List.filter_eq_self.mpr fun p hp => by rw [h p (List.mem_range.mp hp)]; rfl, List.length_range]
  have hlogical : (logicalUsable s g).length ≤ 16 := (List.length_filter_le ..).trans_eq List.length_range
  rw [sparesLeft]
  omega

theorem restoring_bringBack (g n : Nat) (s : State) : (bringBack g n s).knk.restoring = s.knk.restoring := by
  unfold bringBack
  split
  · obtain ⟨l, hl⟩ := (rewritesOwn_pauseOne g n).foldl_eq (List.range 16) (upAgain g n s)
    rw [show (s.setKnk g n .idle).wrBit F.KRV_KNK_STAT.LFAIL g n false = upAgain g n s from rfl, pauseFrom_eq, hl]
    rfl
  · rfl

theorem restoring_foldl_bringBack (g : Nat) (ms : List Nat) (s : State) :
    (ms.foldl (fun t n => bringBack g n t) s).knk.restoring = s.knk.restoring := by
  induction ms generalizing s with
  | nil => rfl
  | cons m ms ih => rw [List.foldl_cons, ih, restoring_bringBack]

theorem keeps_allBroughtBack (g : Nat) (s : State) : Keeps 0x1000000 0x40 s (allBroughtBack g s) :=
  Keeps.foldl fun t n => keeps_bringBack g n t

/-- The end of a restore, from the state in which the failed channels are brought back. -/
theorem sameMapping_restored (g : Nat) (s : State) : SameMapping g s (reroute (knkStat g (busyEnded g s))) :=
  (sameMapping_busyEnded g s).trans ((sameMapping_knkStat g _).trans (sameMapping_reroute g _))

theorem knk_restored (g : Nat) (s : State) : (reroute (knkStat g (busyEnded g s))).knk = s.knk :=
  (knk_reroute _).trans ((knk_knkStat ..).trans (knk_busyEnded g s))

theorem flag_busy_restored (g : Nat) (s : State) :
    (reroute (knkStat g (busyEnded g s))).flag F.KRV_KNK_STAT.BUSY g = (busyEnded g s).flag F.KRV_KNK_STAT.BUSY g := by
  rw [flag_busy_reroute, flag_busy_knkStat]

/-! #### The commands -/

/-- The mismatches in a row after one more; `same`: of the same flit. -/
def rowAfter (same : Bool) (r : KnkRec) : Nat := if r.st == .replay && same then r.inRow + 1 else 1

/-- A mismatch counted, and its replay begun, on a channel whose record was `r`. -/
def mismatched (g n : Nat) (same : Bool) (r : KnkRec) (s : State) : State :=
  ((s.satAdd F.KRV_KNK_ERR.CRC_ERR g 1).satAdd F.KRV_KNK_ERR.REPLAY g 1).setKnk g n ⟨.replay, r.replays + 1, rowAfter same r⟩

theorem rd_setKnk (s : State) (g n : Nat) (r : KnkRec) (f : Fld) (i : Nat) : (s.setKnk g n r).rd f i = s.rd f i := rfl

theorem exec_crcMismatch (g : Fin 4) (n : Fin 16) (same : Bool) (s : State) :
    exec (.knuckleCrcMismatch g n same) s = done (guarded (knkRuns (s.knkAt g n)) s fun t =>
      if 5 ≤ rowAfter same (s.knkAt g n) then retireChannel g n (mismatched g n same (s.knkAt g n) t)
      else mismatched g n same (s.knkAt g n) t) := rfl

theorem rowAfter_eq (same : Bool) (r : KnkRec) : rowAfter same r = if r.st = .replay ∧ same = true then r.inRow + 1 else 1 :=
  if_congr (by simp) rfl rfl

theorem sameMapping_mismatched (g n : Nat) (same : Bool) (r : KnkRec) (s : State) : SameMapping g s (mismatched g n same r s) := by
  have herr (f : Fld) (h : f.reg ≠ .KRV_KNK_ERR) : (mismatched g n same r s).rd f g = s.rd f g := by
    rw [mismatched, rd_setKnk, rd_satAdd_other _ _ _ _ _ _ (Or.inl h.symm), rd_satAdd_other _ _ _ _ _ _ (Or.inl h.symm)]
  exact ⟨herr _ (by decide), herr _ (by decide), herr _ (by decide), rfl⟩

/-- The two counters of a mismatch. -/
theorem counted_mismatched (g n : Nat) (same : Bool) (r : KnkRec) (s : State) :
    (mismatched g n same r s).rd F.KRV_KNK_ERR.CRC_ERR g =
      min (s.rd F.KRV_KNK_ERR.CRC_ERR g + 1) (2 ^ F.KRV_KNK_ERR.CRC_ERR.width - 1) ∧
    (mismatched g n same r s).rd F.KRV_KNK_ERR.REPLAY g = min (s.rd F.KRV_KNK_ERR.REPLAY g + 1) (2 ^ F.KRV_KNK_ERR.REPLAY.width - 1) := by
  rw [mismatched, rd_setKnk, rd_setKnk, rd_satAdd_same _ _ _ _ (by decide),
    rd_satAdd_other _ _ _ _ _ _ (Fld.apart_of_places (by decide) g g), rd_satAdd_same _ _ _ _ (by decide),
    rd_satAdd_other _ _ _ _ _ _ (Fld.apart_of_places (by decide) g g)]
  exact ⟨rfl, rfl⟩

theorem crcMismatch_completes {s : State} {g : Fin 4} {n : Fin 16} (same : Bool) (hruns : knkRuns (s.knkAt g n) = true)
    (hrow : (s.knkAt g n).inRow < 4) :
    Completes (.knuckleCrcMismatch g n same) s fun t =>
      (t.knkAt g n).st = .replay ∧ (t.knkAt g n).replays = (s.knkAt g n).replays + 1 ∧
      ((t.knkAt g n).inRow = if (s.knkAt g n).st = .replay ∧ same = true then (s.knkAt g n).inRow + 1 else 1) ∧
      t.rd F.KRV_KNK_ERR.CRC_ERR g = min (s.rd F.KRV_KNK_ERR.CRC_ERR g + 1) (2 ^ F.KRV_KNK_ERR.CRC_ERR.width - 1) ∧
      t.rd F.KRV_KNK_ERR.REPLAY g = min (s.rd F.KRV_KNK_ERR.REPLAY g + 1) (2 ^ F.KRV_KNK_ERR.REPLAY.width - 1) := by
  have hfew : ¬ 5 ≤ rowAfter same (s.knkAt g n) := by
    rw [rowAfter]
    split <;> omega
  refine Completes.of_guarded (exec_crcMismatch g n same s) hruns ?_
  rw [if_neg hfew, ← rowAfter_eq, show (mismatched g n same (s.knkAt g n) s).knkAt g n = _ from knkAt_setKnk_same ..]
  exact ⟨rfl, rfl, rfl, counted_mismatched ..⟩

theorem fifthMismatch_completes {s : State} {g : Fin 4} {n : Fin 16} {p : Nat} (hst : (s.knkAt g n).st = .replay)
    (hrow : 4 ≤ (s.knkAt g n).inRow) (hphys : physOf s g n = some p) :
    Completes (.knuckleCrcMismatch g n true) s fun t => physOut t g p = true := by
  have hmany : 5 ≤ rowAfter true (s.knkAt g n) := by
    rw [rowAfter_eq, if_pos ⟨hst, rfl⟩]
    omega
  refine Completes.of_guarded (exec_crcMismatch g n true s) (by rw [knkRuns, hst]; rfl) ?_
  rw [if_pos hmany]
  exact physOut_retireChannel n.isLt (((sameMapping_mismatched g n true _ s).physOf_eq n).trans hphys)

theorem replayComplete_completes {s : State} {g : Fin 4} {n : Fin 16} (hst : (s.knkAt g n).st = .replay) :
    Completes (.replayComplete g n) s fun t => t.knkAt g n = ⟨.active, (s.knkAt g n).replays, 0⟩ ∧ t.regs = s.regs :=
  Completes.of_guarded rfl (by rw [hst]; rfl) ⟨knkAt_setKnk_same .., rfl⟩

section
variable {s : State} {g : Fin 4} {n : Fin 16} {p : Nat} (hruns : knkRuns (s.knkAt g n) = true) (hphys : physOf s g n = some p)
include hruns hphys

theorem stall_completes (hcarrying : s.knk.carrying = true) (hspare : 0 < sparesLeft s g) (hret : s.rd F.KRV_KNK_SPARE.RET0 g = 31) :
    Completes (.knuckleStall g n) s fun t =>
      t.rd F.KRV_KNK_SPARE.RET0 g = p ∧ t.knkAt g n = ⟨.retiring, 0, 0⟩ ∧ t.flag F.KRV_KNK_STAT.BUSY g = true ∧
      sparesLeft t g = sparesLeft s g - 1 ∧
      ∀ m : Fin 16, (m < n → t.knkAt g m = s.knkAt g m) ∧
        (n < m → logicalFailed s g m = false → t.knkAt g m = ⟨.retiring, (s.knkAt g m).replays, 0⟩) := by
  obtain ⟨hret0, hchans, hbusy, hspares⟩ := retiredOnto_retireChannel n.isLt hphys hcarrying hspare hret
  refine Completes.of_guarded rfl hruns ⟨hret0, ?_, hbusy, hspares, fun m => ⟨fun hm => ?_, fun hm hup => ?_⟩⟩
  · rw [hchans n n.isLt, logicalFailed_of_physOf hphys, pausedRec_self]
  · rw [hchans m m.isLt, pausedRec_below hm]
  · rw [hchans m m.isLt, hup, pausedRec_above hm]

theorem replayMax_completes (hcarrying : s.knk.carrying = true) (hmax : s.rd F.KRV_KNK_THR.REPLAY_MAX 0 ≤ (s.knkAt g n).replays)
    (hspare : 0 < sparesLeft s g) (hret : s.rd F.KRV_KNK_SPARE.RET0 g = 31) :
    Completes (.replayMaxReached g n) s fun t =>
      t.rd F.KRV_KNK_SPARE.RET0 g = p ∧ t.knkAt g n = ⟨.retiring, 0, 0⟩ ∧ t.flag F.KRV_KNK_STAT.BUSY g = true := by
  obtain ⟨hret0, hchans, hbusy, -⟩ := retiredOnto_retireChannel n.isLt hphys hcarrying hspare hret
  refine Completes.of_guarded rfl (by rw [hruns, decide_eq_true hmax]; rfl) ⟨hret0, ?_, hbusy⟩
  rw [hchans n n.isLt, logicalFailed_of_physOf hphys, pausedRec_self]

theorem stall_failing_completes (hspare : sparesLeft s g = 0) :
    Completes (.knuckleStall g n) s fun t => t.knkAt g n = ⟨.failed, 0, 0⟩ ∧ logicalFailed t g n = true :=
  Completes.of_guarded rfl hruns (failed_retireChannel n.isLt hphys hspare)

end

/-- The counts of the listed channels start again. -/
def countsCleared (es l : Sparse KnkRec) : Sparse KnkRec := es.foldl (fun l e => sset .idle l e.1 { e.2 with replays := 0 }) l

/-- A channel whose record is not rewritten is one that had replayed nothing. -/
theorem replays_countsCleared {es l : Sparse KnkRec} {k : Nat} (h : (∃ e ∈ es, e.1 = k) ∨ (sget .idle l k).replays = 0) :
    (sget .idle (countsCleared es l) k).replays = 0 := by
  induction es generalizing l with
  | nil => exact h.resolve_left nofun
  | cons e es ih =>
    refine ih ?_
    by_cases hk : k = e.1
    · subst hk
      exact .inr (by rw [sget_sset_self])
    · rw [sget_sset_ne _ _ _ _ hk]
      exact h.imp_left fun ⟨d, hd, hdk⟩ => ⟨d, (List.mem_cons.mp hd).resolve_left (fun he => hk (he ▸ hdk.symm)), hdk⟩

theorem listed_or_default {α : Type} (d : α) (l : Sparse α) (k : Nat) : (∃ e ∈ l, e.1 = k) ∨ sget d l k = d := by
  induction l with
  | nil => exact .inr rfl
  | cons e l ih =>
    by_cases hk : k = e.1
    · exact .inl ⟨e, List.mem_cons_self, hk.symm⟩
    · exact ih.imp (fun ⟨c, hc, hck⟩ => ⟨c, List.mem_cons_of_mem _ hc, hck⟩) fun h => (if_neg hk).trans h

/-- A new replay window, `len` after the last. -/
def windowEnded (len : Nat) (s : State) : State :=
  { s with knk := { s.knk with winStart := s.knk.winStart + len, chan := countsCleared s.knk.chan s.knk.chan } }

theorem exec_windowBoundary (s : State) :
    exec .replayWindowBoundary s = done (guarded (s.expired s.knk.winStart (1000000 * s.rd F.KRV_KNK_THR.WIN 0)) s
      (windowEnded (1000000 * s.rd F.KRV_KNK_THR.WIN 0))) := rfl

theorem windowBoundary_completes {s : State} (h : s.expired s.knk.winStart (1000000 * s.rd F.KRV_KNK_THR.WIN 0) = true) :
    Completes .replayWindowBoundary s fun t =>
      t.knk.winStart = s.knk.winStart + 1000000 * s.rd F.KRV_KNK_THR.WIN 0 ∧ t.regs = s.regs ∧
      ∀ k : Nat, (sget .idle t.knk.chan k).replays = 0 := by
  have hreplays (k : Nat) : (sget .idle (countsCleared s.knk.chan s.knk.chan) k).replays = 0 :=
    replays_countsCleared ((listed_or_default .idle s.knk.chan k).imp_right fun hk => congrArg KnkRec.replays hk)
  refine Completes.of_guarded (exec_windowBoundary s) h ?_
  generalize 1000000 * s.rd F.KRV_KNK_THR.WIN 0 = len
  exact ⟨rfl, rfl, hreplays⟩

/-- The channels of a list taken out of use. -/
def allOut (failing : List KnkChannel) (s : State) : State := failing.foldl (fun t c => takeOut c.group c.phys t) s

/-- The network carries traffic, and its first replay window begins. -/
def trafficBegun (s : State) : State := { s with knk := { s.knk with carrying := true, winStart := s.dtcNow } }

theorem exec_testComplete (failing : List KnkChannel) (s : State) :
    exec (.knuckleTestComplete failing) s = done (guarded (!s.knk.carrying) s fun s => trafficBegun (allOut failing s)) := rfl

theorem clk_allOut (failing : List KnkChannel) (s : State) : (allOut failing s).clk = s.clk := by
  induction failing generalizing s with
  | nil => rfl
  | cons c failing ih => exact (ih _).trans ((keeps_takeOut c.group c.phys s).part .clk rfl)

theorem testComplete_completes {s : State} (failing : List KnkChannel) (h : s.knk.carrying = false) :
    Completes (.knuckleTestComplete failing) s fun t => t.knk.carrying = true ∧ t.knk.winStart = s.dtcNow := by
  refine Completes.of_guarded (exec_testComplete failing s) (by rw [h]; rfl) ⟨rfl, ?_⟩
  rw [State.dtcNow, ← clk_allOut failing s]
  rfl

theorem testComplete_one_completes {s : State} (c : KnkChannel) (h : s.knk.carrying = false) :
    Completes (.knuckleTestComplete [c]) s fun t => physOut t c.group c.phys = true :=
  Completes.of_guarded (exec_testComplete [c] s) (by rw [h]; rfl) (physOut_takeOut c.phys.isLt s)

/-- The step of the end of a remap for one channel. -/
def resumeOne (g : Nat) (t : State) (n : Nat) : State :=
  if (t.knkAt g n).st = .retiring then t.setKnk g n { t.knkAt g n with st := .active } else t

/-- A channel's record after the end of a remap. -/
def resumedRec (r : KnkRec) : KnkRec := { r with st := if r.st = .retiring then .active else r.st }

theorem rewritesOwn_resumeOne (g : Nat) : RewritesOwn g (resumeOne g) where
  chans t m := by
    unfold resumeOne
    split
    · exact ⟨_, rfl⟩
    · exact ⟨t.knk.chan, rfl⟩
  others t m j hj := by
    unfold resumeOne
    split
    · exact knkAt_setKnk_ne t g hj _
    · rfl

theorem knkAt_resumeOne (g n : Nat) (t : State) : (resumeOne g t n).knkAt g n = resumedRec (t.knkAt g n) := by
  unfold resumeOne resumedRec
  split
  · exact knkAt_setKnk_same ..
  · rfl

theorem knk_off (s : State) (f : Fld) (i : Nat) : (s.off f i).knk = s.knk := rfl

theorem exec_remapComplete (g : Fin 4) (s : State) :
    exec (.remapComplete g) s = done (guarded (s.flag F.KRV_KNK_STAT.BUSY g && !nbit s.knk.restoring.toNat g) s fun s =>
      ((List.range 16).foldl (resumeOne g) s).off F.KRV_KNK_STAT.BUSY g) := rfl

theorem remapComplete_completes {s : State} {g : Fin 4} (hbusy : s.flag F.KRV_KNK_STAT.BUSY g = true)
    (hrestoring : nbit s.knk.restoring.toNat g = false) :
    Completes (.remapComplete g) s fun t =>
      t.flag F.KRV_KNK_STAT.BUSY g = false ∧
      ∀ n : Fin 16, t.knkAt g n = { s.knkAt g n with st := if (s.knkAt g n).st = .retiring then .active else (s.knkAt g n).st } := by
  refine Completes.of_guarded (exec_remapComplete g s) (by rw [hbusy, hrestoring]; rfl) ⟨flag_off_same _ _ _ (by decide), fun n => ?_⟩
  rw [knkAt_congr (knk_off ..), (rewritesOwn_resumeOne g).knkAt_foldl s (new := fun _ => resumedRec)
    (fun l m => knkAt_resumeOne g m (withChans s l)), if_pos n.isLt, resumedRec]

theorem knuckleRestore_completes {s : State} {g : Fin 4} (hbusy : s.flag F.KRV_KNK_STAT.BUSY g = false) :
    Completes (.knuckleRestore g) s fun t => t.flag F.KRV_KNK_STAT.BUSY g = true ∧ nbit t.knk.restoring.toNat g = true := by
  refine Completes.of_eq (t := knuckleRestore g s) rfl ?_
  rw [knuckleRestore, hbusy, if_neg Bool.false_ne_true]
  refine ⟨flag_on_same _ _ _ (by decide) (by decide), ?_⟩
  show nbit (BitVec.ofNat 4 (nsetBit s.knk.restoring.toNat g true)).toNat g = true
  rw [BitVec.toNat_ofNat, nbit, Nat.testBit_mod_two_pow, testBit_nsetBit, if_pos rfl, decide_eq_true g.isLt]
  rfl

/-- What the end of a retest makes of the retired-channel fields, whatever it brings back. -/
theorem rd_spare_restored {f : Fld} (hf : f.reg = .KRV_KNK_SPARE) (g : Nat) (s : State) :
    (allBroughtBack g s).rd f g = s.rd f g := (keeps_allBroughtBack g s).rd f g (by rw [hf]; rfl)

theorem restoreComplete_completes {s : State} {g : Fin 4} (passing : List Nat) (hrestoring : nbit s.knk.restoring.toNat g = true) :
    Completes (.restoreComplete g passing) s fun t =>
      nbit t.knk.restoring.toNat g = false ∧
      (s.rd F.KRV_KNK_STAT.LFAIL g = 0 → (∀ n : Fin 16, (s.knkAt g n).st ≠ .retiring) → t.flag F.KRV_KNK_STAT.BUSY g = false) ∧
      (t.rd F.KRV_KNK_SPARE.RET0 g = if passing.contains (s.rd F.KRV_KNK_SPARE.RET0 g) then 31 else s.rd F.KRV_KNK_SPARE.RET0 g) ∧
      (t.rd F.KRV_KNK_SPARE.RET1 g = if passing.contains (s.rd F.KRV_KNK_SPARE.RET1 g) then 31 else s.rd F.KRV_KNK_SPARE.RET1 g) := by
  have hmap := sameMapping_restored g (allBroughtBack g (retested g passing s))
  refine Completes.of_guarded (exec_restoreComplete g passing s) hrestoring ⟨?_, fun hlfail hrun => ?_, ?_, ?_⟩
  · rw [knk_restored, allBroughtBack, restoring_foldl_bringBack, restoring_retested]
  · have hup (m : Nat) : logicalFailed (retested g passing s) g m = false := by
      rw [logicalFailed, lfail_retested, hlfail, nbit, Nat.zero_testBit]
    rw [flag_busy_restored, allBroughtBack, foldl_bringBack_of_up fun m _ => hup m]
    exact flag_busy_busyEnded_of_none fun n hn => by
      rw [knkAt_retested]
      exact hrun ⟨n, hn⟩
  · rw [hmap.ret0, rd_spare_restored rfl, ret0_retested]
  · rw [hmap.ret1, rd_spare_restored rfl, ret1_retested]

theorem restoreComplete_bringsBack {s : State} {g : Fin 4} {n : Fin 16} {p : Fin 18} (hrestoring : nbit s.knk.restoring.toNat g = true)
    (hlfail : s.rd F.KRV_KNK_STAT.LFAIL g = 2 ^ n.val) (hret0 : s.rd F.KRV_KNK_SPARE.RET0 g = 31)
    (hret1 : s.rd F.KRV_KNK_SPARE.RET1 g = 31) (hphys : sget 0 s.knk.physFailed g = 2 ^ p.val) :
    Completes (.restoreComplete g [p.val]) s fun t =>
      logicalFailed t g n = false ∧ t.knkAt g n = ⟨.retiring, 0, 0⟩ ∧ physOut t g p = false ∧ t.flag F.KRV_KNK_STAT.BUSY g = true := by
  let u := retested g [p.val] s
  have hret0' : u.rd F.KRV_KNK_SPARE.RET0 g = 31 := by rw [ret0_retested, hret0, ite_self]
  have hret1' : u.rd F.KRV_KNK_SPARE.RET1 g = 31 := by rw [ret1_retested, hret1, ite_self]
  have hnone : sget 0 u.knk.physFailed g = 0 := by
    rw [physFailed_retested, hphys, List.foldl_cons, List.foldl_nil, nsetBit_two_pow]
  have hin (q : Nat) (hq : q < 18) : physOut u g q = false := by
    have hq31 : (31 == q) = false := beq_eq_false_iff_ne.mpr (by omega)
    rw [physOut, hret0', hret1', hnone, hq31, nbit, Nat.zero_testBit]
    rfl
  have hfailed (m : Nat) : logicalFailed u g m = decide (m = n.val) := by
    rw [logicalFailed, lfail_retested, hlfail, nbit, Nat.testBit_two_pow]
    exact decide_eq_decide.mpr eq_comm
  have hback := allBroughtBack_of_one n.isLt (fun m _ => hfailed m) (sparesLeft_of_all_usable hin)
  have hup : logicalFailed (upAgain g n u) g n = false := by rw [logicalFailed_upAgain g n n.isLt, if_pos rfl]
  have hpaused : (pauseFrom g n (upAgain g n u)).knkAt g n = ⟨.retiring, 0, 0⟩ := by
    rw [knkAt_pauseFrom g n n.isLt, hup, pausedRec_self]
  refine Completes.of_guarded (exec_restoreComplete g [p.val] s) hrestoring ?_
  rw [hback]
  have hmap := (sameMapping_pauseFrom g n (upAgain g n u)).trans (sameMapping_restored g _)
  refine ⟨(hmap.logicalFailed_eq n).trans hup, ?_, ?_, ?_⟩
  · rw [knkAt_congr (knk_restored ..), hpaused]
  · rw [hmap.physOut_eq, physOut_upAgain, hin p p.isLt]
  · rw [flag_busy_restored, busyEnded_of_paused n.isLt (congrArg KnkRec.st hpaused), flag_busy_pauseFrom]

/-- Settles O4, by what each step of a retirement, a remap and a restore leaves, and by the two directions of the mapping (R95). -/
theorem knuckleChannelsReplayRetireAndRestore : Obligations.KnuckleChannelsReplayRetireAndRestore := by
  unfold Obligations.KnuckleChannelsReplayRetireAndRestore
  refine ⟨?_, ?_, ?_, ?_, ?_, ?_, ?_, ?_, ?_, ?_, ?_, ?_, ?_⟩
  · exact fun _ _ _ same hruns hrow => crcMismatch_completes same hruns hrow
  · exact fun _ _ _ _ hst hrow hphys _ => fifthMismatch_completes hst hrow hphys
  · exact fun _ _ _ hst => replayComplete_completes hst
  · exact fun _ _ _ _ hruns hcarrying hphys hspare hret => stall_completes hruns hphys hcarrying hspare hret
  · exact fun _ _ _ _ hruns hcarrying hmax hphys hspare hret => replayMax_completes hruns hphys hcarrying hmax hspare hret
  · exact fun _ _ _ _ hruns hphys hspare => stall_failing_completes hruns hphys hspare
  · exact fun _ h => windowBoundary_completes h
  · exact fun _ failing h => testComplete_completes failing h
  · exact fun _ c h => testComplete_one_completes c h
  · exact fun _ _ hbusy hrestoring => remapComplete_completes hbusy hrestoring
  · exact fun _ _ hbusy => knuckleRestore_completes hbusy
  · exact fun _ _ passing hrestoring => restoreComplete_completes passing hrestoring
  · exact fun _ _ _ _ hrestoring hlfail hret0 hret1 hphys _ => restoreComplete_bringsBack hrestoring hlfail hret0 hret1 hphys

end Sys2Proof.Machine

/-! ### Places of a leaf (R16, R116) -/

namespace Sys2Proof.Machine
open Sys2Proof

/-- A place of a leaf's 640 rows and 256 columns (R16). -/
structure InLeaf (p : Nat × Nat) : Prop where
  row : p.1 < 640
  col : p.2 < 256

theorem inLeaf_spotOf (x : Nat) {c : Nat} (hc : c < 2048) : InLeaf (spotOf x c) := by
  constructor <;> simp only [spotOf] <;> omega

theorem sectorAt_spotOf (x : Nat) {c : Nat} (hc : c < 2048) : sectorAt (x / 80) (spotOf x c) = x := by
  simp only [sectorAt, spotOf]
  omega

theorem clusterAtSpot_spotOf (x : Nat) {c : Nat} (hc : c < 2048) : clusterAtSpot (spotOf x c) = c := by
  simp only [clusterAtSpot, spotOf]
  omega

theorem spotOf_clusterAtSpot (leaf : Nat) {p : Nat × Nat} (hp : InLeaf p) : spotOf (sectorAt leaf p) (clusterAtSpot p) = p := by
  obtain ⟨hrow, hcol⟩ := hp
  ext <;> simp only [spotOf, sectorAt, clusterAtSpot] <;> omega

theorem sectorAt_div (leaf : Nat) {p : Nat × Nat} (hp : InLeaf p) : sectorAt leaf p / 80 = leaf := by
  obtain ⟨hrow, hcol⟩ := hp
  simp only [sectorAt]
  omega

theorem clusterAtSpot_lt (p : Nat × Nat) : clusterAtSpot p < 2048 := by
  simp only [clusterAtSpot]
  omega

/-! ### Wires run inside their leaf (R118, R120) -/

/-- The place `j` clusters away in a direction, where the leaf reaches that far. -/
def placeAfter (d : Dir) (p : Nat × Nat) (j : Nat) : Nat × Nat :=
  match d with
  | .east => (p.1, p.2 + j)
  | .west => (p.1, p.2 - j)
  | .north => (p.1 + j, p.2)
  | .south => (p.1 - j, p.2)

theorem moved_eq (d : Dir) (p : Nat × Nat) (j : Nat) : moved d p j = if roomTo d p < j then none else some (placeAfter d p j) := by
  cases d <;> rfl

theorem moved_eq_some_iff {d : Dir} {p q : Nat × Nat} {j : Nat} : moved d p j = some q ↔ j ≤ roomTo d p ∧ placeAfter d p j = q := by
  rw [moved_eq]
  split
  next h => simp [Nat.not_le.mpr h]
  next h => simp [Nat.not_lt.mp h]

theorem inLeaf_placeAfter {d : Dir} {p : Nat × Nat} {j : Nat} (hp : InLeaf p) (hj : j ≤ roomTo d p) : InLeaf (placeAfter d p j) := by
  obtain ⟨hrow, hcol⟩ := hp
  cases d <;> simp only [roomTo] at hj <;> constructor <;> simp only [placeAfter] <;> omega

theorem placeAfter_placeAfter_opposite {d : Dir} {p : Nat × Nat} {j : Nat} (hj : j ≤ roomTo (opposite d) p) :
    placeAfter d (placeAfter (opposite d) p j) j = p := by
  cases d <;> simp only [roomTo, opposite] at hj <;> ext <;> simp only [placeAfter, opposite] <;> omega

theorem le_roomTo_placeAfter_opposite {d : Dir} {p : Nat × Nat} {j : Nat} (hp : InLeaf p) (hj : j ≤ roomTo (opposite d) p) :
    j ≤ roomTo d (placeAfter (opposite d) p j) := by
  obtain ⟨hrow, hcol⟩ := hp
  cases d <;> simp only [roomTo, opposite, placeAfter] at hj ⊢ <;> omega

theorem Wire.spot_of_le_reach {w : Wire} {j : Nat} (hj : j ≤ w.reach) : w.spot j = placeAfter w.dir (w.row, w.col) j := by
  rw [Wire.spot, moved_eq_some_iff.mpr ⟨hj.trans (Nat.min_le_right ..), rfl⟩, Option.getD_some]

theorem Wire.spot_zero (w : Wire) : w.spot 0 = (w.row, w.col) := by
  rw [w.spot_of_le_reach (Nat.zero_le _)]
  cases w.dir <;> rfl

/-- A wire shorter than its length has come to the leaf's edge. -/
theorem Wire.reach_eq_roomTo {w : Wire} (h : w.reach < lenSize w.len) : w.reach = roomTo w.dir (w.row, w.col) := by
  unfold Wire.reach at h ⊢
  omega

theorem Wire.spot_runs {w : Wire} {j : Nat} (hin : InLeaf (w.row, w.col)) (hj : j ≤ w.reach) :
    InLeaf (w.spot j) ∧
    match w.dir with
      | .east => w.spot j = (w.row, w.col + j) ∧ (w.reach < lenSize w.len → (w.spot w.reach).2 = 255)
      | .west => (w.spot j).1 = w.row ∧ (w.spot j).2 + j = w.col ∧ (w.reach < lenSize w.len → (w.spot w.reach).2 = 0)
      | .north => w.spot j = (w.row + j, w.col) ∧ (w.reach < lenSize w.len → (w.spot w.reach).1 = 639)
      | .south => (w.spot j).1 + j = w.row ∧ (w.spot j).2 = w.col ∧ (w.reach < lenSize w.len → (w.spot w.reach).1 = 0) := by
  have hrow := hin.row
  have hcol := hin.col
  have hroom : j ≤ roomTo w.dir (w.row, w.col) := hj.trans (Nat.min_le_right ..)
  have hedge := w.reach_eq_roomTo
  rw [w.spot_of_le_reach hj, w.spot_of_le_reach le_rfl]
  refine ⟨inLeaf_placeAfter hin hroom, ?_⟩
  cases hd : w.dir <;> simp only [hd, roomTo] at hroom hedge <;> simp only [placeAfter, true_and] <;> omega

/-! ### Starts and tracks (R118, R126) -/

theorem dirCode_lt (d : Dir) : dirCode d < 4 := by cases d <;> decide

theorem dirCode_inj {d d' : Dir} : dirCode d = dirCode d' → d = d' := by cases d <;> cases d' <;> decide

theorem startsBelow_add_lt {n : WireLen} {k : Nat} (hk : k < lenStarts n) : startsBelow n + k < 38 := by
  cases n <;> simp only [startsBelow, lenStarts] at hk ⊢ <;> omega

/-- The starts of a length lie below those of the longer lengths. -/
theorem startsBelow_add_inj {n n' : WireLen} {k k' : Nat} (hk : k < lenStarts n) (hk' : k' < lenStarts n')
    (h : startsBelow n + k = startsBelow n' + k') : n = n' ∧ k = k' := by
  cases n <;> cases n' <;> simp only [startsBelow, lenStarts, reduceCtorEq, true_and, false_and] at hk hk' h ⊢ <;> omega

theorem startNumber_lt (d : Dir) {n : WireLen} {k : Nat} (hk : k < lenStarts n) : startNumber d n k < 152 := by
  have hcode := dirCode_lt d
  have hbelow := startsBelow_add_lt hk
  simp only [startNumber]
  omega

theorem startNumber_inj {d d' : Dir} {n n' : WireLen} {k k' : Nat} (hk : k < lenStarts n) (hk' : k' < lenStarts n')
    (h : startNumber d n k = startNumber d' n' k') : d = d' ∧ n = n' ∧ k = k' := by
  have hbelow := startsBelow_add_lt hk
  have hbelow' := startsBelow_add_lt hk'
  simp only [startNumber] at h
  exact ⟨dirCode_inj (by omega), startsBelow_add_inj hk hk' (by omega)⟩

/-- The 160 tracks, by length, start and distance (R118). -/
theorem trackWire_track (n : WireLen) : ∀ k < lenStarts n, ∀ j < lenSize n,
    tracksBelow n + lenSize n * k + j < 160 ∧ trackWire (tracksBelow n + lenSize n * k + j) = (n, k, j) := by
  cases n <;> decide

end Sys2Proof.Machine

/-! ### The wires that a reference names (R118–R120) -/

namespace Sys2Proof.Machine
open Sys2Proof

theorem Wire.reach_le_lenSize (w : Wire) : w.reach ≤ lenSize w.len := Nat.min_le_left ..

/-- The wire, of length `r.len`, is at cluster `c` of sector `x` after `r.dist` clusters: it is the one that the reference means there. -/
structure Wire.Meets (w : Wire) (x c : Nat) (r : WireRef) : Prop where
  leaf : w.leaf = x / 80
  start : InLeaf (w.row, w.col)
  dir : w.dir = r.dir
  len : w.len = r.len
  number : w.k = r.k.val
  numbered : r.k.val < lenStarts r.len
  within : r.dist.val ≤ w.reach
  spot : w.spot r.dist = spotOf x c

theorem Wire.Meets.sector {w : Wire} {x c : Nat} {r : WireRef} (h : w.Meets x c r) (hc : c < 2048) : w.sector r.dist = x := by
  rw [Wire.sector, h.spot, h.leaf, sectorAt_spotOf x hc]

theorem Wire.Meets.cluster {w : Wire} {x c : Nat} {r : WireRef} (h : w.Meets x c r) (hc : c < 2048) : clusterAtSpot (w.spot r.dist) = c := by
  rw [h.spot, clusterAtSpot_spotOf x hc]

theorem meets_of_refWire {x c : Nat} {r : WireRef} {w : Wire} (hc : c < 2048) (h : refWire x c r = some w) : w.Meets x c r := by
  unfold refWire at h
  split at h
  next hr =>
    obtain ⟨hk, hdist⟩ := hr
    obtain ⟨p, hp, rfl⟩ := Option.map_eq_some_iff.mp h
    obtain ⟨hroom, rfl⟩ := moved_eq_some_iff.mp hp
    have hin := inLeaf_spotOf x hc
    have hwithin : r.dist.val ≤ Wire.reach ⟨x / 80, (placeAfter (opposite r.dir) (spotOf x c) r.dist).1,
        (placeAfter (opposite r.dir) (spotOf x c) r.dist).2, r.dir, r.len, r.k⟩ :=
      Nat.le_min.mpr ⟨hdist, le_roomTo_placeAfter_opposite hin hroom⟩
    exact ⟨rfl, inLeaf_placeAfter hin hroom, rfl, rfl, rfl, hk, hwithin,
      (Wire.spot_of_le_reach hwithin).trans (placeAfter_placeAfter_opposite hroom)⟩
  next => cases h

theorem refWire_eq_none_iff {x c : Nat} {r : WireRef} :
    refWire x c r = none ↔ lenStarts r.len ≤ r.k.val ∨ lenSize r.len < r.dist.val ∨ roomTo (opposite r.dir) (spotOf x c) < r.dist.val := by
  unfold refWire
  split
  next h => rw [Option.map_eq_none_iff, moved_eq]; split <;> simp <;> omega
  next h => simp; omega

theorem bounds_of_mem_lenTaps {n : WireLen} {d : Nat} (h : d ∈ lenTaps n) : 1 ≤ d ∧ d ≤ lenSize n := by
  cases n <;> simp only [lenTaps, lenSize, List.mem_cons, List.not_mem_nil, or_false] at h ⊢ <;> omega

theorem tapWire_eq_some_iff {x c : Nat} {r : WireRef} {w : Wire} :
    tapWire x c r = some w ↔ r.dist.val ∈ lenTaps r.len ∧ refWire x c r = some w := by
  unfold tapWire
  split <;> simp_all

theorem tapWire_eq_none_iff {x c : Nat} {r : WireRef} : tapWire x c r = none ↔ r.dist.val ∉ lenTaps r.len ∨ refWire x c r = none := by
  unfold tapWire
  split <;> simp_all

theorem tapWire_eq_none {x c : Nat} {r : WireRef} (h : tapWire x c r = none) :
    r.dist.val ∉ lenTaps r.len ∨ lenStarts r.len ≤ r.k.val ∨ roomTo (opposite r.dir) (spotOf x c) < r.dist.val := by
  by_cases htap : r.dist.val ∈ lenTaps r.len
  · have hdist := (bounds_of_mem_lenTaps htap).2
    rcases refWire_eq_none_iff.mp ((tapWire_eq_none_iff.mp h).resolve_left (not_not.mpr htap)) with hk | hlong | hroom
    · exact .inr (.inl hk)
    · omega
    · exact .inr (.inr hroom)
  · exact .inl htap

theorem endWire_eq_some_iff {x c : Nat} {r : WireRef} {w : Wire} :
    endWire x c r = some w ↔ refWire x c r = some w ∧ r.dist.val ≠ 0 ∧ w.reach = r.dist.val := by
  simp [endWire, Option.filter_eq_some_iff]

/-- The wire whose end drives the start of `w` ends where `w` begins. -/
theorem endWire_at_start {w v : Wire} {r : WireRef} (hin : InLeaf (w.row, w.col))
    (h : endWire (w.sector 0) (clusterAtSpot (w.row, w.col)) r = some v) :
    v.Meets (w.sector 0) (clusterAtSpot (w.row, w.col)) r ∧ r.dist.val = v.reach ∧ v.leaf = w.leaf ∧ v.spot r.dist = (w.row, w.col) := by
  obtain ⟨href, -, hreach⟩ := endWire_eq_some_iff.mp h
  have hv := meets_of_refWire (clusterAtSpot_lt _) href
  have hsector : w.sector 0 = sectorAt w.leaf (w.row, w.col) := by rw [Wire.sector, w.spot_zero]
  refine ⟨hv, hreach.symm, ?_, ?_⟩
  · rw [hv.leaf, hsector, sectorAt_div w.leaf hin]
  · rw [hv.spot, hsector, spotOf_clusterAtSpot w.leaf hin]

/-! ### What drives a start and feeds a crossbar (R115, R118, R119) -/

/-- The selected output, wire end or hard element's pin, where it may drive the start. -/
theorem wireSource_cases {s : State} {w : Wire} {src : Sum Sig Bool} (h : wireSource s w = some src) :
    (∃ l o, src = .inl (.out (w.sector 0) (clusterAtSpot (w.row, w.col)) l o) ∧ outMayDrive l o w.dir w.len w.k = true) ∨
    (∃ r v, src = .inl (.wire v r.dist) ∧ endMayDrive r.dir r.len w.dir w.len = true ∧
      endWire (w.sector 0) (clusterAtSpot (w.row, w.col)) r = some v) ∨
    ∃ b, src = .inr b := by
  unfold wireSource at h
  dsimp only at h
  split at h
  · cases h
  · split at h
    next hdrive =>
      cases h
      exact .inl ⟨_, _, rfl, hdrive⟩
    next => cases h
  · split at h
    next hdrive =>
      obtain ⟨v, hv, rfl⟩ := Option.map_eq_some_iff.mp h
      exact .inr (.inl ⟨_, v, rfl, hdrive, hv⟩)
    next => cases h
  · obtain ⟨_, _, rfl⟩ := Option.map_eq_some_iff.mp h
    exact .inr (.inr ⟨_, rfl⟩)

theorem outMayDrive_long {l : Fin 16} {o : LcOut} {d : Dir} {n : WireLen} {k : Nat} (h : outMayDrive l o d n k = true)
    (hn : n = .l12 ∨ n = .l24) : o = .q0 ∨ o = .q1 := by
  have hlong : shortLen n = false := by rcases hn with rfl | rfl <;> rfl
  simp only [outMayDrive, hlong, Bool.false_or, Bool.and_eq_true, Bool.or_eq_true, beq_iff_eq] at h
  exact h.1

theorem endMayDrive_spec {d d' : Dir} {n n' : WireLen} (h : endMayDrive d n d' n' = true) :
    d' ≠ opposite d ∧ (n' = .l12 → n = .l4 ∨ n = .l12 ∨ n = .l24) ∧ (n' = .l24 → n = .l12 ∨ n = .l24) := by
  simp only [endMayDrive, Bool.and_eq_true, bne_iff_ne] at h
  obtain ⟨hdir, hlen⟩ := h
  refine ⟨hdir, ?_, ?_⟩ <;> rintro rfl <;> simpa [or_assoc] using hlen

theorem crossInput_cases {x c : Nat} {i : Fin 144} {g : Sig} (h : crossInput x c i = some g) :
    (∃ r w, tapWire x c r = some w ∧ g = .wire w r.dist) ∨ ∃ l o, g = .out x c l o := by
  unfold crossInput at h
  split at h
  next =>
    obtain ⟨w, hw, rfl⟩ := Option.map_eq_some_iff.mp h
    exact .inl ⟨_, w, hw, rfl⟩
  next =>
    cases h
    exact .inr ⟨_, _, rfl⟩

/-! ### Carry chains (R105) -/

theorem carryIn_zero (ask : Sig → Bool) (s : State) (x c : Nat) : carryIn ask s x c 0 =
    match (clusterAt (sectorFrames s x) c).cin with
    | .zero => false
    | .one => true
    | .bx => ask (.cross x c 6)
    | .chain => if c < 32 then false else ask (.cout x (c - 32) 15) := rfl

theorem carryIn_of_ne_zero (ask : Sig → Bool) (s : State) (x c : Nat) {l : Fin 16} (h : l ≠ 0) :
    carryIn ask s x c l = ask (.cout x c (l - 1)) := if_neg h

theorem carryIn_congr {ask ask' : Sig → Bool} (s : State) {x c : Nat} {l : Fin 16}
    (hbefore : ∀ m : Fin 16, m < l → ask (.cout x c m) = ask' (.cout x c m))
    (hbelow : 32 ≤ c → ask (.cout x (c - 32) 15) = ask' (.cout x (c - 32) 15)) (hbx : ask (.cross x c 6) = ask' (.cross x c 6)) :
    carryIn ask s x c l = carryIn ask' s x c l := by
  by_cases hl : l = 0
  · subst hl
    rw [carryIn_zero, carryIn_zero, hbx]
    split
    · rfl
    · rfl
    · rfl
    · split
      next => rfl
      next hc => exact hbelow (by omega)
  · rw [carryIn_of_ne_zero ask s x c hl, carryIn_of_ne_zero ask' s x c hl, hbefore (l - 1) (by omega)]

theorem mem_clusterAt_odd (g : Nat → Frame) {c : Nat} (h : c % 2 = 1) : (clusterAt g c).mem = .logic := by
  simp only [clusterAt, h]
  rfl

/-! ### Hasps (R121, R336, R337) -/

section
variable {s : State} {x y : Nat} {ho hi : Hasp} {idle v : Bool}

theorem throughHasps_of_apart (h : tenantsApart s x y = true) : throughHasps s x y ho hi idle v = idle := if_pos h

theorem throughHasps_of_pass (hapart : tenantsApart s x y = false) (hpass : haspsPass s x y = true) :
    throughHasps s x y ho hi idle v = v := by
  rw [throughHasps, hapart, hpass]
  rfl

/-- Between two regions of one tenant a level passes where both sides have a border pin; a closed source parks, a closed target ignores. -/
theorem throughHasps_of_not_pass (hapart : tenantsApart s x y = false) (hpass : haspsPass s x y = false) :
    throughHasps s x y ho hi idle v = if (Config.borderPin (haspFrames s y) hi).isNone then idle
      else if s.flag F.CFG_SECT.CLOSED y then false
      else match Config.borderPin (haspFrames s x) ho with
        | some p => if s.flag F.CFG_SECT.CLOSED x then parkLevel s x ho p else v
        | none => idle := by
  rw [throughHasps, hapart, hpass]
  rfl

theorem throughHasps_of_closed (hpass : haspsPass s x y = false) (hclosed : s.flag F.CFG_SECT.CLOSED x = true ∨ s.flag F.CFG_SECT.CLOSED y = true)
    (v' : Bool) : throughHasps s x y ho hi idle v = throughHasps s x y ho hi idle v' := by
  cases hapart : tenantsApart s x y with
  | true => rw [throughHasps_of_apart hapart, throughHasps_of_apart hapart]
  | false =>
    rw [throughHasps_of_not_pass hapart hpass, throughHasps_of_not_pass hapart hpass]
    rcases hclosed with hx | hy
    · simp only [hx, if_true]
    · simp only [hy, if_true]

theorem throughHasps_idle_or (hpass : haspsPass s x y = false) :
    throughHasps s x y ho hi idle v = idle ∨ s.flag F.CFG_SECT.CLOSED x = true ∨ s.flag F.CFG_SECT.CLOSED y = true ∨
      (Config.borderPin (haspFrames s x) ho).isSome = true ∧ (Config.borderPin (haspFrames s y) hi).isSome = true := by
  cases hapart : tenantsApart s x y with
  | true => exact .inl (throughHasps_of_apart hapart)
  | false =>
    rw [throughHasps_of_not_pass hapart hpass]
    cases hin : Config.borderPin (haspFrames s y) hi with
    | none => exact .inl rfl
    | some q =>
      cases hout : Config.borderPin (haspFrames s x) ho with
      | some p => exact .inr (.inr (.inr ⟨rfl, rfl⟩))
      | none =>
        cases hy : s.flag F.CFG_SECT.CLOSED y with
        | true => exact .inr (.inr (.inl rfl))
        | false => exact .inl rfl

end

theorem tenantsApart_self (s : State) (x : Nat) : tenantsApart s x x = false := by simp [tenantsApart]

/-- A fold over places, one of which forgets what came before, forgets where it began. -/
theorem foldl_range_forgets {α : Type} {f : α → Nat → α} {n j : Nat} (hj : j < n) (hf : ∀ a b, f a j = f b j) (a b : α) :
    (List.range n).foldl f a = (List.range n).foldl f b := by
  induction n with
  | zero => omega
  | succ n ih =>
    rw [List.range_succ, List.foldl_append, List.foldl_append]
    by_cases hjn : j = n
    · subst hjn
      exact hf _ _
    · rw [ih (by omega)]

theorem alongWire_of_apart {s : State} {w : Wire} {d j : Nat} (hj : j < min d w.reach)
    (hapart : tenantsApart s (w.sector j) (w.sector (j + 1)) = true) (v v' : Bool) : alongWire s w d v = alongWire s w d v' := by
  have hne : w.sector j ≠ w.sector (j + 1) := fun h => by
    rw [h, tenantsApart_self] at hapart
    cases hapart
  refine foldl_range_forgets hj (fun a b => ?_) v v'
  simp only [hne, if_false, throughHasps_of_apart hapart]

/-! ### Border pins that hold (R337) -/

theorem haspKey_div (x : Nat) (h : Hasp) : haspKey x h / 40960 = x := by
  have hcode : dirCode h.side < 4 := by cases h.side <;> decide
  have halong := h.along.isLt
  have htrack := h.track.isLt
  simp only [haspKey]
  omega

theorem haspKey_inj {x : Nat} {h h' : Hasp} (hout : h.out = h'.out) (hkey : haspKey x h = haspKey x h') : h = h' := by
  obtain ⟨side, along, track, out⟩ := h
  obtain ⟨side', along', track', out'⟩ := h'
  have halong := along.isLt
  have halong' := along'.isLt
  have htrack := track.isLt
  have htrack' := track'.isLt
  simp only [haspKey] at hkey
  have hside : side = side' := dirCode_inj (by omega)
  subst hside
  have : along = along' := by omega
  have : track = track' := by omega
  simp_all

theorem mem_sideHasps {d : Dir} {h : Hasp} : h ∈ sideHasps d ↔ h.side = d ∧ h.along.val < sideLength d ∧ h.out = true := by
  have hlen : sideLength d ≤ 64 := by cases d <;> decide
  simp only [sideHasps, List.mem_flatMap, List.mem_range, List.mem_map, List.mem_finRange, true_and]
  constructor
  · rintro ⟨a, ha, t, rfl⟩
    exact ⟨rfl, by simpa [Fin.ofNat, Nat.mod_eq_of_lt (ha.trans_le hlen)] using ha, rfl⟩
  · rintro ⟨rfl, halong, hout⟩
    exact ⟨h.along, halong, h.track, by rw [← hout, Fin.ofNat_val_eq_self]⟩

/-- An outbound border pin of sector `x` that is to hold its level carries a 1. -/
def holdsHigh (s : State) (x : Nat) (h : Hasp) : Bool :=
  let r := trackWire h.track
  decide (Config.borderPin (ringFrames (sectorFrames s x)) h = some .hold) &&
    (refWire x (haspCluster h) ⟨h.side, r.1, Fin.ofNat 16 r.2.1, Fin.ofNat 25 r.2.2⟩).any (fun w => level s (.wire w r.2.2))

theorem mem_heldHigh {s : State} {x k : Nat} : k ∈ heldHigh s x ↔
    ∃ h y, h ∈ sideHasps h.side ∧ sectorBeside x h.side = some y ∧ haspsPass s x y = false ∧ holdsHigh s x h = true ∧ haspKey x h = k := by
  unfold heldHigh
  rw [List.mem_flatMap]
  constructor
  · rintro ⟨d, -, hk⟩
    split at hk
    next => cases hk
    next y hbeside =>
      split at hk
      next => cases hk
      next hpass =>
        obtain ⟨h, hmem, hk⟩ := List.mem_filterMap.mp hk
        obtain rfl := (mem_sideHasps.mp hmem).1
        obtain ⟨hholds, hkey⟩ := Option.ite_none_right_eq_some.mp hk
        exact ⟨h, y, hmem, hbeside, Bool.eq_false_of_not_eq_true hpass, hholds, Option.some.inj hkey⟩
  · rintro ⟨h, y, hmem, hbeside, hpass, hholds, rfl⟩
    refine ⟨h.side, by cases h.side <;> decide, ?_⟩
    rw [hbeside]
    simp only [hpass, Bool.false_eq_true, if_false]
    exact List.mem_filterMap.mpr ⟨h, hmem, if_pos hholds⟩

theorem div_of_mem_heldHigh {s : State} {x k : Nat} (h : k ∈ heldHigh s x) : k / 40960 = x := by
  obtain ⟨h, -, -, -, -, -, rfl⟩ := mem_heldHigh.mp h
  exact haspKey_div x _

theorem haspKey_mem_heldHigh {s : State} {x y : Nat} {h : Hasp} (hout : h.out = true) (halong : h.along.val < sideLength h.side)
    (hbeside : sectorBeside x h.side = some y) (hpass : haspsPass s x y = false) : haspKey x h ∈ heldHigh s x ↔ holdsHigh s x h = true := by
  rw [mem_heldHigh]
  constructor
  · rintro ⟨h', y', hmem, -, -, hholds, hkey⟩
    rwa [haspKey_inj ((mem_sideHasps.mp hmem).2.2.trans hout.symm) hkey] at hholds
  · exact fun hholds => ⟨h, y, mem_sideHasps.mpr ⟨rfl, halong, hout⟩, hbeside, hpass, hholds, rfl⟩

/-- The open sectors of `xs`, which take what their pins hold (R337). -/
def closingOf (xs : List Nat) (s : State) : List Nat := xs.filter (fun x => !s.flag F.CFG_SECT.CLOSED x)

theorem mem_closingOf {xs : List Nat} {s : State} {x : Nat} : x ∈ closingOf xs s ↔ x ∈ xs ∧ s.flag F.CFG_SECT.CLOSED x = false := by
  rw [closingOf, List.mem_filter, Bool.not_eq_true']

theorem parked_holdPins (xs : List Nat) (s : State) : (holdPins xs s).fab.parked =
    s.fab.parked.filter (fun k => !(closingOf xs s).contains (k / 40960)) ++ (closingOf xs s).flatMap (heldHigh s) := rfl

theorem haspKey_mem_flatMap_heldHigh {l : List Nat} {s : State} {x : Nat} {h : Hasp} :
    haspKey x h ∈ l.flatMap (heldHigh s) ↔ x ∈ l ∧ haspKey x h ∈ heldHigh s x := by
  rw [List.mem_flatMap]
  refine ⟨fun ⟨y, hy, hmem⟩ => ?_, fun ⟨hx, hmem⟩ => ⟨x, hx, hmem⟩⟩
  obtain rfl : x = y := (haspKey_div x h).symm.trans (div_of_mem_heldHigh hmem)
  exact ⟨hy, hmem⟩

/-- What a closing sector's pin held before is replaced; every other sector's pins stay. -/
theorem haspKey_mem_parked_holdPins {xs : List Nat} {s : State} {x : Nat} {h : Hasp} : haspKey x h ∈ (holdPins xs s).fab.parked ↔
    haspKey x h ∈ s.fab.parked ∧ x ∉ closingOf xs s ∨ x ∈ closingOf xs s ∧ haspKey x h ∈ heldHigh s x := by
  rw [parked_holdPins, List.mem_append, haspKey_mem_flatMap_heldHigh, List.mem_filter, haspKey_div, Bool.not_eq_true', List.contains_eq_mem,
    decide_eq_false_iff_not]

theorem parked_holdPins_of_closing {xs : List Nat} {s : State} {x : Nat} {h : Hasp} (hx : x ∈ closingOf xs s) :
    (holdPins xs s).fab.parked.contains (haspKey x h) = true ↔ haspKey x h ∈ heldHigh s x := by
  simp [haspKey_mem_parked_holdPins, hx]

theorem parked_holdPins_of_not_closing {xs : List Nat} {s : State} {x : Nat} {h : Hasp} (hx : x ∉ closingOf xs s) :
    (holdPins xs s).fab.parked.contains (haspKey x h) = s.fab.parked.contains (haspKey x h) := by
  simp [haspKey_mem_parked_holdPins, hx]

/-- Settles O11: a wire is its start moved in its direction, so a reference names the wire whose end or tap is there; a step between two tenants'
sectors forgets what came before; and a border pin's key tells its sector and its place apart from every other's. -/
theorem wiresStayInTheirLeafAndKeepTenantsApart : Obligations.WiresStayInTheirLeafAndKeepTenantsApart := by
  unfold Obligations.WiresStayInTheirLeafAndKeepTenantsApart
  refine ⟨?_, ?_, ?_, ?_, ?_, ?_, ?_, ?_, ?_, ?_, ?_, ?_⟩
  · exact fun d _ _ _ _ _ hk hk' => ⟨startNumber_lt d hk, startNumber_inj hk hk'⟩
  · exact fun w j hk hj => trackWire_track w.len w.k hk j hj
  · intro w j hrow hcol hj
    obtain ⟨⟨hinrow, hincol⟩, hruns⟩ := Wire.spot_runs ⟨hrow, hcol⟩ hj
    exact ⟨hinrow, hincol, w.reach_le_lenSize, hruns⟩
  · intro x c r
    cases htap : tapWire x c r with
    | some w =>
      obtain ⟨htaps, href⟩ := tapWire_eq_some_iff.mp htap
      have hw := meets_of_refWire c.isLt href
      exact ⟨hw.leaf, hw.start.row, hw.start.col, hw.dir, hw.len, hw.number, hw.numbered, htaps, hw.within, hw.sector c.isLt,
        hw.cluster c.isLt⟩
    | none => exact tapWire_eq_none htap
  · intro s w _ hrow hcol
    cases hsrc : wireSource s w with
    | none => trivial
    | some src =>
      rcases wireSource_cases hsrc with ⟨l, o, rfl, hdrive⟩ | ⟨r, v, rfl, hdrive, hend⟩ | ⟨b, rfl⟩
      · exact ⟨rfl, rfl, outMayDrive_long hdrive⟩
      · obtain ⟨hv, hreach, hleaf, hspot⟩ := endWire_at_start ⟨hrow, hcol⟩ hend
        rw [← hv.dir, ← hv.len] at hdrive
        exact ⟨hleaf, hreach, hspot, endMayDrive_spec hdrive⟩
      · trivial
  · intro s x c o
    cases hsrc : crossSource s x c o with
    | none => trivial
    | some g =>
      rcases crossInput_cases hsrc with ⟨r, w, htap, rfl⟩ | ⟨l, o, rfl⟩
      · obtain ⟨htaps, href⟩ := tapWire_eq_some_iff.mp htap
        have hw := meets_of_refWire c.isLt href
        exact ⟨hw.leaf, hw.spot, (bounds_of_mem_lenTaps htaps).1, hw.within⟩
      · exact ⟨rfl, rfl⟩
  · exact fun _ _ s _ _ _ hbefore hbelow hbx => carryIn_congr s hbefore hbelow hbx
  · exact fun g _ h => mem_clusterAt_odd g h
  · exact fun _ _ _ _ hj hapart => alongWire_of_apart hj hapart true false
  · exact fun _ _ _ _ _ _ v => ⟨throughHasps_of_pass, fun hpass hclosed => throughHasps_of_closed hpass hclosed (!v), throughHasps_idle_or⟩
  · intro s x y h hout halong hbeside hpass hopen
    show (holdPins [x.val] s).fab.parked.contains (haspKey x h) = holdsHigh s x h
    rw [Bool.eq_iff_iff, parked_holdPins_of_closing (mem_closingOf.mpr ⟨List.mem_singleton_self _, hopen⟩)]
    exact haspKey_mem_heldHigh hout halong hbeside hpass
  · intro s xs x h hstays
    refine parked_holdPins_of_not_closing fun hclosing => ?_
    obtain ⟨hmem, hopen⟩ := mem_closingOf.mp hclosing
    rcases hstays with hnot | hclosed
    · exact hnot hmem
    · exact Bool.false_ne_true (hopen.symm.trans hclosed)

end Sys2Proof.Machine

/-! ### Folds of updates that each have an entry of their own -/

namespace Sys2Proof.Machine
open Sys2Proof

theorem foldl_unchanged {σ ι β : Type} (obs : σ → β) {f : σ → ι → σ} {l : List ι} (hf : ∀ t, ∀ a ∈ l, obs (f t a) = obs t) (s : σ) :
    obs (l.foldl f s) = obs s := by
  induction l generalizing s with
  | nil => rfl
  | cons a l ih => rw [List.foldl_cons, ih fun t b hb => hf t b (List.mem_cons_of_mem _ hb), hf s a List.mem_cons_self]

/-- What only one of a fold's updates touches is what that update makes of it. -/
theorem foldl_own {σ ι β : Type} (obs : σ → β) {new : β → β} {f : σ → ι → σ} {a : ι} {l : List ι} (ha : a ∈ l) (hl : l.Nodup)
    (hown : ∀ t, obs (f t a) = new (obs t)) (hother : ∀ t, ∀ b ∈ l, b ≠ a → obs (f t b) = obs t) (s : σ) :
    obs (l.foldl f s) = new (obs s) := by
  induction l generalizing s with
  | nil => cases ha
  | cons b l ih =>
    obtain ⟨hb, hl⟩ := List.nodup_cons.mp hl
    rw [List.foldl_cons]
    by_cases hab : b = a
    · subst hab
      rw [foldl_unchanged obs (fun t d hd => hother t d (List.mem_cons_of_mem _ hd) fun h => hb (h ▸ hd)), hown]
    · rw [ih (List.mem_of_ne_of_mem (Ne.symm hab) ha) hl (fun t d hd => hother t d (List.mem_cons_of_mem _ hd)),
        hother s b List.mem_cons_self hab]

/-! ### An edge at the logic cells (R106–R108, R111–R113) -/

theorem clusterKey_ne {x y c d : Nat} (hc : c < 2048) (hd : d < 2048) (h : y ≠ x ∨ d ≠ c) : clusterKey y d ≠ clusterKey x c := by
  simp only [clusterKey]
  omega

theorem ffValue_setFf_same (x c l f : Nat) (v : Bool) (t : State) : ffValue (setFf x c l f v t) x c l f = v := by
  simp only [ffValue, setFf, sget_sset_self]

theorem ffValue_setFf_ne {x y c d l m f g : Nat} (h : (clusterKey y d * 16 + m) * 2 + g ≠ (clusterKey x c * 16 + l) * 2 + f) (v : Bool)
    (t : State) : ffValue (setFf x c l f v t) y d m g = ffValue t y d m g := by
  simp only [ffValue, setFf, sget_sset_ne _ _ _ _ h]
  rfl

/-- A flip-flop takes what the edge in `s` gives it, written only where that differs. -/
def ffTaken (s : State) (x c l f : Nat) (v : Bool) (t : State) : State := if v = ffValue s x c l f then t else setFf x c l f v t

/-- What the edge gives the first flip-flop of a logic cell. -/
def ff0After (s : State) (x c line : Nat) (late : List (Nat × Bool)) (l : Fin 16) : Bool :=
  ffAfter s x c line (clusterAt (sectorFrames s x) c) (clusterPins s x c late) l 0 (lcOuts (level s) s x c l).1
    (Config.freeBit (s.freeCtr + 2 * (16 * clusterKey x c + l)))

theorem lcEdge_eq (s : State) (x c line : Nat) (late : List (Nat × Bool)) (l : Fin 16) : ∃ v, ∀ t,
    lcEdge s x c line (clusterAt (sectorFrames s x) c) (clusterPins s x c late) l t =
      ffTaken s x c l 1 v (ffTaken s x c l 0 (ff0After s x c line late l) t) := ⟨_, fun _ => rfl⟩

theorem ffValue_ffTaken_ne {x y c d l m f g : Nat} (h : (clusterKey y d * 16 + m) * 2 + g ≠ (clusterKey x c * 16 + l) * 2 + f) (s : State)
    (v : Bool) (t : State) : ffValue (ffTaken s x c l f v t) y d m g = ffValue t y d m g := by
  unfold ffTaken
  split
  · rfl
  · exact ffValue_setFf_ne h v t

theorem ffValue_ffTaken_same (s : State) (x c l f : Nat) (v : Bool) (t : State) :
    ffValue (ffTaken s x c l f v t) x c l f = if v = ffValue s x c l f then ffValue t x c l f else v := by
  unfold ffTaken
  split
  · rfl
  · exact ffValue_setFf_same x c l f v t

theorem lutTable_ffTaken (s : State) (x c l f : Nat) (v : Bool) (t : State) (y d k : Nat) :
    lutTable (ffTaken s x c l f v t) y d k = lutTable t y d k := by
  unfold ffTaken
  split <;> rfl

/-- The table of memory LC 8 + k is written. -/
def setLut (x c k : Nat) (v : BitVec 128) (t : State) : State :=
  { t with fab := { t.fab with lut := sset none t.fab.lut (clusterKey x c * 8 + k) (some v) } }

theorem ffValue_setLut (x c k : Nat) (v : BitVec 128) (t : State) (y d m g : Nat) : ffValue (setLut x c k v t) y d m g = ffValue t y d m g := rfl

theorem lutTable_setLut_same (x c k : Nat) (v : BitVec 128) (t : State) : lutTable (setLut x c k v t) x c k = v := by
  simp only [lutTable, setLut, sget_sset_self]

theorem lutTable_setLut_ne {x y c d k j : Nat} (h : clusterKey y d * 8 + j ≠ clusterKey x c * 8 + k) (v : BitVec 128) (t : State) :
    lutTable (setLut x c k v t) y d j = lutTable t y d j := by
  simp only [lutTable, setLut, sget_sset_ne _ _ _ _ h]
  rfl

/-- The flip-flops of a cluster take what the edge gives them. -/
def ffsAfter (s : State) (x line c : Nat) (late : List (Nat × Bool)) (t : State) : State :=
  (List.finRange 16).foldl (fun t l => lcEdge s x c line (clusterAt (sectorFrames s x) c) (clusterPins s x c late) l t) t

theorem clusterEdge_eq (s : State) (x line c : Nat) (late : List (Nat × Bool)) (t : State) : clusterEdge s x line c late t =
    if (clusterAt (sectorFrames s x) c).mem = .logic ∨ (clusterAt (sectorFrames s x) c).ctl0.clk ≠ line then ffsAfter s x line c late t
    else (List.range 8).foldl (fun t k => setLut x c k (lutNext s x c (clusterAt (sectorFrames s x) c) (clusterPins s x c late) k) t)
      (ffsAfter s x line c late t) := rfl

theorem ffValue_clusterEdge (s : State) (x line c : Nat) (late : List (Nat × Bool)) (t : State) (y d m g : Nat) :
    ffValue (clusterEdge s x line c late t) y d m g = ffValue (ffsAfter s x line c late t) y d m g := by
  rw [clusterEdge_eq]
  split
  · rfl
  · exact foldl_unchanged (fun t => ffValue t y d m g) (fun t k _ => ffValue_setLut x c k _ t y d m g) _

theorem ffValue_clusterEdge_ne {x y c d m g : Nat} (hkey : clusterKey y d ≠ clusterKey x c) (hm : m < 16) (hg : g < 2) (s : State) (line : Nat)
    (late : List (Nat × Bool)) (t : State) : ffValue (clusterEdge s x line c late t) y d m g = ffValue t y d m g := by
  rw [ffValue_clusterEdge]
  refine foldl_unchanged (fun t => ffValue t y d m g) (fun t l _ => ?_) t
  obtain ⟨v, hv⟩ := lcEdge_eq s x c line late l
  have hl := l.isLt
  rw [hv, ffValue_ffTaken_ne (by omega), ffValue_ffTaken_ne (by omega)]

theorem ffValue_clusterEdge_same (s : State) (x line c : Nat) (late : List (Nat × Bool)) (l : Fin 16) (t : State) :
    ffValue (clusterEdge s x line c late t) x c l 0 =
      if ff0After s x c line late l = ffValue s x c l 0 then ffValue t x c l 0 else ff0After s x c line late l := by
  rw [ffValue_clusterEdge]
  refine foldl_own (fun t => ffValue t x c l 0) (new := fun b => if ff0After s x c line late l = ffValue s x c l 0 then b
    else ff0After s x c line late l) (List.mem_finRange l) (List.nodup_finRange 16) (fun t => ?_) (fun t m _ hm => ?_) t
  · obtain ⟨v, hv⟩ := lcEdge_eq s x c line late l
    rw [hv, ffValue_ffTaken_ne (by omega), ffValue_ffTaken_same]
  · obtain ⟨v, hv⟩ := lcEdge_eq s x c line late m
    have hne : m.val ≠ l.val := fun h => hm (Fin.ext h)
    rw [hv, ffValue_ffTaken_ne (by omega), ffValue_ffTaken_ne (by omega)]

theorem lutTable_ffsAfter (s : State) (x line c : Nat) (late : List (Nat × Bool)) (t : State) (y d k : Nat) :
    lutTable (ffsAfter s x line c late t) y d k = lutTable t y d k := by
  refine foldl_unchanged (fun t => lutTable t y d k) (fun t l _ => ?_) t
  obtain ⟨v, hv⟩ := lcEdge_eq s x c line late l
  rw [hv, lutTable_ffTaken, lutTable_ffTaken]

theorem lutTable_clusterEdge_ne {x y c d k : Nat} (hkey : clusterKey y d ≠ clusterKey x c) (hk : k < 8) (s : State) (line : Nat)
    (late : List (Nat × Bool)) (t : State) : lutTable (clusterEdge s x line c late t) y d k = lutTable t y d k := by
  rw [clusterEdge_eq]
  split
  · exact lutTable_ffsAfter ..
  · rw [foldl_unchanged (fun t => lutTable t y d k) (fun t j hj => ?_), lutTable_ffsAfter]
    have hj := List.mem_range.mp hj
    exact lutTable_setLut_ne (by omega) _ t

theorem lutTable_clusterEdge_same {x c k : Nat} (hk : k < 8) (s : State) (line : Nat) (late : List (Nat × Bool)) (t : State)
    (hmem : (clusterAt (sectorFrames s x) c).mem ≠ .logic) : lutTable (clusterEdge s x line c late t) x c k =
      if (clusterAt (sectorFrames s x) c).ctl0.clk = line then lutNext s x c (clusterAt (sectorFrames s x) c) (clusterPins s x c late) k
      else lutTable t x c k := by
  rw [clusterEdge_eq]
  by_cases hclk : (clusterAt (sectorFrames s x) c).ctl0.clk = line
  · rw [if_neg (by simp [hmem, hclk]), if_pos hclk]
    exact foldl_own (fun t => lutTable t x c k) (new := fun _ => lutNext s x c (clusterAt (sectorFrames s x) c) (clusterPins s x c late) k)
      (List.mem_range.mpr hk) List.nodup_range (fun t => lutTable_setLut_same x c k _ t)
      (fun t j _ hj => lutTable_setLut_ne (by omega) _ t) _
  · rw [if_pos (.inr hclk), if_neg hclk, lutTable_ffsAfter]

end Sys2Proof.Machine

/-! ### An edge at the slices (R127, R130) -/

namespace Sys2Proof.Machine
open Sys2Proof

/-- The registers of slice `i` are written. -/
def setSlice (x i : Nat) (r : SliceRec) (t : State) : State :=
  { t with fab := { t.fab with slice := sset .zero t.fab.slice (40 * x + i) r } }

theorem sliceRec_setSlice_same (x i : Nat) (r : SliceRec) (t : State) : sliceRec (setSlice x i r t) x i = r := sget_sset_self ..

theorem sliceRec_setSlice_ne {x y i j : Nat} (h : 40 * y + j ≠ 40 * x + i) (r : SliceRec) (t : State) :
    sliceRec (setSlice x i r t) y j = sliceRec t y j := sget_sset_ne _ _ _ _ h

/-- What the edge gives slice `i`. -/
def sliceAfter (s : State) (x i : Nat) : SliceRec :=
  sliceNext (sliceAt (sectorFrames s x) i) (slicePins s x i) (sliceA s x 20 i) (sliceCasc s x i) (sliceRec s x i)

theorem sliceEdge_eq (s : State) (x line i : Nat) (t : State) :
    sliceEdge s x line i t = if (sliceAt (sectorFrames s x) i).clk ≠ line then t else setSlice x i (sliceAfter s x i) t := rfl

theorem sliceRec_sliceEdge_same (s : State) (x line i : Nat) (t : State) : sliceRec (sliceEdge s x line i t) x i =
    if (sliceAt (sectorFrames s x) i).clk = line then sliceAfter s x i else sliceRec t x i := by
  rw [sliceEdge_eq, ite_not]
  split
  · exact sliceRec_setSlice_same ..
  · rfl

theorem sliceRec_sliceEdge_ne {x y i j : Nat} (h : 40 * y + j ≠ 40 * x + i) (s : State) (line : Nat) (t : State) :
    sliceRec (sliceEdge s x line i t) y j = sliceRec t y j := by
  rw [sliceEdge_eq]
  split
  · rfl
  · exact sliceRec_setSlice_ne h ..

theorem gather_one (bit : Nat → Bool) : gather 1 bit = b2n (bit 0) := by
  cases h : bit 0 <;> simp [gather, h, b2n]

/-- A slice whose RST is 1 at its edge is reset (R130). -/
theorem sliceAfter_of_rst {s : State} {x i : Nat} (h : level s (.pin x (.slice i) 4) = true) : sliceAfter s x i = .zero := by
  have hrst : (slicePins s x i).rst = true := by
    show (gather 1 (fun k => level s (.pin x (.slice i) (4 + k))) == 1) = true
    rw [gather_one, h]
    rfl
  rw [sliceAfter, sliceNext, if_pos hrst]

/-! ### An edge at the block RAM ports (R144–R147) -/

theorem memCode_setCode_ne {b b' w w' : Nat} (hb : b' ≠ b) (hw : w < 8192) (hw' : w' < 8192) (c : Codeword) (t : State) :
    memCode (setCode .bram b w c t) .bram b' w' = memCode t .bram b' w' := by
  have hkey : instKey .bram b' * 8192 + w' ≠ instKey .bram b * 8192 + w := by
    simp only [instKey, kindCode]
    omega
  simp only [memCode, setCode, sget_sset_ne _ _ _ _ hkey]
  rfl

theorem memCode_bram_congr {s t : State} (h : t.mem = s.mem) (b w : Nat) : memCode t .bram b w = memCode s .bram b w := by
  simp only [memCode, h]
  rfl

theorem portPlace_word_lt (ecc : Bool) (a : PortAttr) (addr : Nat) : (portPlace ecc a addr).1 < 1024 := by
  unfold portPlace
  split <;> exact Nat.mod_lt _ (by decide)

/-- A port's write stores one codeword at the word it addresses or none, after it may have drawn open values. -/
theorem portWrite_cases (b side : Nat) (ecc : Bool) (a : PortAttr) (p : PortPins) (taken : BitVec 72) (t : State) :
    ∃ u, (u = { t with freeCtr := t.freeCtr + 8 } ∨ u = t) ∧ (portWrite b side ecc a p taken t = u ∨
      ∃ c, portWrite b side ecc a p taken t = setCode .bram b (portPlace ecc a p.addr.toNat).1 c u) := by
  unfold portWrite
  dsimp only
  split
  · exact ⟨t, .inr rfl, .inl rfl⟩
  · exact ⟨_, ite_eq_or_eq .., (ite_eq_or_eq ..).imp_right fun h => ⟨_, h⟩⟩

theorem memCode_portWrite_ne {b b' w' : Nat} (hb : b' ≠ b) (hw' : w' < 8192) (side : Nat) (ecc : Bool) (a : PortAttr) (p : PortPins)
    (taken : BitVec 72) (t : State) : memCode (portWrite b side ecc a p taken t) .bram b' w' = memCode t .bram b' w' := by
  have hw := portPlace_word_lt ecc a p.addr.toNat
  obtain ⟨u, hu, hwrite⟩ := portWrite_cases b side ecc a p taken t
  have hcode : memCode u .bram b' w' = memCode t .bram b' w' := by rcases hu with rfl | rfl <;> rfl
  rcases hwrite with h | ⟨c, h⟩
  · rw [h, hcode]
  · rw [h, memCode_setCode_ne hb (by omega) hw', hcode]

theorem memCode_portPosts (s : State) (b side : Nat) (ecc : Bool) (a : PortAttr) (p : PortPins) (t : State) (k : MemKind) (i w : Nat) :
    memCode (portPosts s b side ecc a p t) k i w = memCode t k i w := by
  unfold portPosts postDirected
  dsimp only
  split
  · split <;> rfl
  · rfl

/-- The write of a port that the line clocks. -/
def portWritten (b side : Nat) (ecc : Bool) (a : PortAttr) (p : Option PortPins) (taken : BitVec 72) (t : State) : State :=
  match p with
  | none => t
  | some q => portWrite b side ecc a q taken t

/-- The registers of a port are written. -/
def setPort (b side : Nat) (r : BramPort) (t : State) : State :=
  { t with fab := { t.fab with bram := sset .zero t.fab.bram (2 * b + side) r } }

/-- The registers of a port that the line clocks, after the edge in `s`. -/
def portTaken (s : State) (b side : Nat) (ecc : Bool) (a : PortAttr) (p : Option PortPins) (t : State) : State :=
  match p with
  | none => t
  | some q => setPort b side (portNext s b side ecc a q) (portPosts s b side ecc a q t)

theorem portRec_setPort_same (b side : Nat) (r : BramPort) (t : State) : portRec (setPort b side r t) b side = r := sget_sset_self ..

theorem portRec_setPort_ne {b b' side side' : Nat} (h : 2 * b' + side' ≠ 2 * b + side) (r : BramPort) (t : State) :
    portRec (setPort b side r t) b' side' = portRec t b' side' := sget_sset_ne _ _ _ _ h

theorem portRec_congr {s t : State} (h : t.fab.bram = s.fab.bram) (b side : Nat) : portRec t b side = portRec s b side := by
  rw [portRec, portRec, h]

theorem fab_portWritten (b side : Nat) (ecc : Bool) (a : PortAttr) (p : Option PortPins) (taken : BitVec 72) (t : State) :
    (portWritten b side ecc a p taken t).fab = t.fab := by
  cases p with
  | none => rfl
  | some q => exact (keeps_portWrite b side ecc a q taken t).part .fab rfl

theorem portRec_portWritten (b side : Nat) (ecc : Bool) (a : PortAttr) (p : Option PortPins) (taken : BitVec 72) (t : State)
    (b' side' : Nat) : portRec (portWritten b side ecc a p taken t) b' side' = portRec t b' side' :=
  portRec_congr (congrArg FabState.bram (fab_portWritten ..)) b' side'

theorem fab_portPosts (s : State) (b side : Nat) (ecc : Bool) (a : PortAttr) (p : PortPins) (t : State) :
    (portPosts s b side ecc a p t).fab = t.fab := (keeps_portPosts s b side ecc a p t).part .fab rfl

theorem portRec_portTaken_same (s : State) (b side : Nat) (ecc : Bool) (a : PortAttr) (p : Option PortPins) (t : State) :
    portRec (portTaken s b side ecc a p t) b side = (p.map (portNext s b side ecc a)).getD (portRec t b side) := by
  cases p with
  | none => rfl
  | some q => exact portRec_setPort_same ..

theorem portRec_portTaken_ne {b b' side side' : Nat} (h : 2 * b' + side' ≠ 2 * b + side) (s : State) (ecc : Bool) (a : PortAttr)
    (p : Option PortPins) (t : State) : portRec (portTaken s b side ecc a p t) b' side' = portRec t b' side' := by
  cases p with
  | none => rfl
  | some q => exact (portRec_setPort_ne h ..).trans (portRec_congr (congrArg FabState.bram (fab_portPosts ..)) b' side')

theorem memCode_portWritten_ne {b b' w : Nat} (hb : b' ≠ b) (hw : w < 8192) (side : Nat) (ecc : Bool) (a : PortAttr) (p : Option PortPins)
    (taken : BitVec 72) (t : State) : memCode (portWritten b side ecc a p taken t) .bram b' w = memCode t .bram b' w := by
  cases p with
  | none => rfl
  | some q => exact memCode_portWrite_ne hb hw ..

theorem memCode_portTaken (s : State) (b side : Nat) (ecc : Bool) (a : PortAttr) (p : Option PortPins) (t : State) (k : MemKind) (i w : Nat) :
    memCode (portTaken s b side ecc a p t) k i w = memCode t k i w := by
  cases p with
  | none => rfl
  | some q => exact memCode_portPosts s b side ecc a q t k i w

/-- A port's pins, where the line clocks it. -/
def clockedPins (s : State) (x line j side : Nat) (close : List (Nat × Bool)) (a : PortAttr) : Option PortPins :=
  if a.clk = line then some (ramPins s x j side (close.contains (j, side == 1))) else none

/-- Both ports write, and then both take their registers, where the line clocks them. -/
theorem bramEdge_eq (s : State) (x line j : Nat) (close : List (Nat × Bool)) : ∃ taken, ∀ t, bramEdge s x line j close t =
    let b := 16 * x + j
    let ecc := s.flag F.MEM_BRAM.ECCON b
    let r := bramAt (sectorFrames s x) j
    let pa := clockedPins s x line j 0 close r.a
    let pb := clockedPins s x line j 1 close r.b
    portTaken s b 0 ecc r.a pa (portTaken s b 1 ecc r.b pb (portWritten b 0 ecc r.a pa 0 (portWritten b 1 ecc r.b pb taken t))) :=
  ⟨_, fun _ => rfl⟩

theorem portRec_bramEdge_same (s : State) (x line j : Nat) (close : List (Nat × Bool)) (t : State) :
    portRec (bramEdge s x line j close t) (16 * x + j) 0 = if (bramAt (sectorFrames s x) j).a.clk = line then
        portNext s (16 * x + j) 0 (s.flag F.MEM_BRAM.ECCON (16 * x + j)) (bramAt (sectorFrames s x) j).a
          (ramPins s x j 0 (close.contains (j, false)))
      else portRec t (16 * x + j) 0 := by
  obtain ⟨taken, heq⟩ := bramEdge_eq s x line j close
  rw [heq, portRec_portTaken_same, portRec_portTaken_ne (by omega), portRec_portWritten, portRec_portWritten,
    clockedPins]
  split <;> rfl

theorem portRec_bramEdge_ne {x y i j side : Nat} (hside : side < 2) (h : 16 * y + i ≠ 16 * x + j) (s : State) (line : Nat)
    (close : List (Nat × Bool)) (t : State) :
    portRec (bramEdge s x line j close t) (16 * y + i) side = portRec t (16 * y + i) side := by
  obtain ⟨taken, heq⟩ := bramEdge_eq s x line j close
  rw [heq, portRec_portTaken_ne (by omega), portRec_portTaken_ne (by omega), portRec_portWritten,
    portRec_portWritten]

theorem memCode_bramEdge_ne {x y i j w : Nat} (h : 16 * y + i ≠ 16 * x + j) (hw : w < 8192) (s : State) (line : Nat)
    (close : List (Nat × Bool)) (t : State) :
    memCode (bramEdge s x line j close t) .bram (16 * y + i) w = memCode t .bram (16 * y + i) w := by
  obtain ⟨taken, heq⟩ := bramEdge_eq s x line j close
  rw [heq, memCode_portTaken, memCode_portTaken, memCode_portWritten_ne h hw, memCode_portWritten_ne h hw]

end Sys2Proof.Machine

/-! ### An edge at every element of the sector (R126) -/

namespace Sys2Proof.Machine
open Sys2Proof

/-- What the flip-flops and tables of logic cells are read from. -/
def cellStores (t : State) : Sparse Frame × Sparse (Option Bool) × Sparse (Option (BitVec 128)) := (t.fab.relFrames, t.fab.ff, t.fab.lut)

/-- What the slices' and block RAM ports' registers are read from. -/
def hardStores (t : State) : Sparse SliceRec × Sparse BramPort := (t.fab.slice, t.fab.bram)

section
variable {s t : State}

theorem ffValue_congr (h : cellStores t = cellStores s) (x c l f : Nat) : ffValue t x c l f = ffValue s x c l f := by
  simp only [cellStores, Prod.mk.injEq] at h
  obtain ⟨hrel, hff, -⟩ := h
  have hframes : releaseFrames t x = releaseFrames s x := by unfold releaseFrames; rw [hrel]
  simp only [ffValue, hframes, hff]

theorem lutTable_congr (h : cellStores t = cellStores s) (x c k : Nat) : lutTable t x c k = lutTable s x c k := by
  simp only [cellStores, Prod.mk.injEq] at h
  obtain ⟨hrel, -, hlut⟩ := h
  have hframes : releaseFrames t x = releaseFrames s x := by unfold releaseFrames; rw [hrel]
  simp only [lutTable, hframes, hlut]

theorem sliceRec_congr (h : t.fab.slice = s.fab.slice) (x i : Nat) : sliceRec t x i = sliceRec s x i := by
  rw [sliceRec, sliceRec, h]

end

theorem hardStores_ffTaken (s : State) (x c l f : Nat) (v : Bool) (t : State) : hardStores (ffTaken s x c l f v t) = hardStores t := by
  unfold ffTaken
  split <;> rfl

theorem hardStores_setLut (x c k : Nat) (v : BitVec 128) (t : State) : hardStores (setLut x c k v t) = hardStores t := rfl

theorem hardStores_ffsAfter (s : State) (x line c : Nat) (late : List (Nat × Bool)) (t : State) :
    hardStores (ffsAfter s x line c late t) = hardStores t := by
  refine foldl_unchanged hardStores (fun t l _ => ?_) t
  obtain ⟨v, hv⟩ := lcEdge_eq s x c line late l
  rw [hv, hardStores_ffTaken, hardStores_ffTaken]

theorem hardStores_clusterEdge (s : State) (x line c : Nat) (late : List (Nat × Bool)) (t : State) :
    hardStores (clusterEdge s x line c late t) = hardStores t := by
  rw [clusterEdge_eq]
  split
  · exact hardStores_ffsAfter ..
  · rw [foldl_unchanged hardStores (fun t k _ => hardStores_setLut x c k _ t), hardStores_ffsAfter]

theorem cellStores_sliceEdge (s : State) (x line i : Nat) (t : State) : cellStores (sliceEdge s x line i t) = cellStores t := by
  rw [sliceEdge_eq]
  split <;> rfl

theorem bram_sliceEdge (s : State) (x line i : Nat) (t : State) : (sliceEdge s x line i t).fab.bram = t.fab.bram := by
  rw [sliceEdge_eq]
  split <;> rfl

theorem fab_portTaken (s : State) (b side : Nat) (ecc : Bool) (a : PortAttr) (p : Option PortPins) (t : State) :
    ∃ l, (portTaken s b side ecc a p t).fab = { t.fab with bram := l } := by
  cases p with
  | none => exact ⟨_, rfl⟩
  | some q =>
    exact ⟨_, congrArg (fun f : FabState => { f with bram := sset .zero f.bram (2 * b + side) (portNext s b side ecc a q) })
      (fab_portPosts s b side ecc a q t)⟩

theorem fab_bramEdge (s : State) (x line j : Nat) (close : List (Nat × Bool)) (t : State) :
    ∃ l, (bramEdge s x line j close t).fab = { t.fab with bram := l } := by
  obtain ⟨taken, heq⟩ := bramEdge_eq s x line j close
  rw [heq]
  dsimp only
  obtain ⟨l, hl⟩ := fab_portTaken s (16 * x + j) 0 (s.flag F.MEM_BRAM.ECCON (16 * x + j)) (bramAt (sectorFrames s x) j).a
    (clockedPins s x line j 0 close (bramAt (sectorFrames s x) j).a) _
  obtain ⟨m, hm⟩ := fab_portTaken s (16 * x + j) 1 (s.flag F.MEM_BRAM.ECCON (16 * x + j)) (bramAt (sectorFrames s x) j).b
    (clockedPins s x line j 1 close (bramAt (sectorFrames s x) j).b) _
  exact ⟨l, by rw [hl, hm, fab_portWritten, fab_portWritten]⟩

theorem cellStores_bramEdge (s : State) (x line j : Nat) (close : List (Nat × Bool)) (t : State) :
    cellStores (bramEdge s x line j close t) = cellStores t := by
  obtain ⟨l, hl⟩ := fab_bramEdge s x line j close t
  rw [cellStores, hl]
  rfl

theorem slice_bramEdge (s : State) (x line j : Nat) (close : List (Nat × Bool)) (t : State) :
    (bramEdge s x line j close t).fab.slice = t.fab.slice := by
  obtain ⟨l, hl⟩ := fab_bramEdge s x line j close t
  rw [hl]

/-- The edge in `s` at the logic cells of the sector. -/
def clustersAfter (s : State) (x line : Nat) (late : List (Nat × Bool)) (t : State) : State :=
  (List.range 2048).foldl (fun t c => clusterEdge s x line c late t) t

/-- The same at its slices. -/
def slicesAfter (s : State) (x line : Nat) (t : State) : State := (List.range 40).foldl (fun t i => sliceEdge s x line i t) t

/-- The same at its block RAMs. -/
def ramsAfter (s : State) (x line : Nat) (close : List (Nat × Bool)) (t : State) : State :=
  (List.range 16).foldl (fun t j => bramEdge s x line j close t) t

/-- Open values have been drawn (log entry 2). -/
def drawn (n : Nat) (t : State) : State := { t with freeCtr := t.freeCtr + n }

theorem cellStores_slicesAfter (s : State) (x line : Nat) (t : State) : cellStores (slicesAfter s x line t) = cellStores t :=
  foldl_unchanged cellStores (fun t i _ => cellStores_sliceEdge s x line i t) t

theorem cellStores_ramsAfter (s : State) (x line : Nat) (close : List (Nat × Bool)) (t : State) :
    cellStores (ramsAfter s x line close t) = cellStores t :=
  foldl_unchanged cellStores (fun t j _ => cellStores_bramEdge s x line j close t) t

theorem slice_ramsAfter (s : State) (x line : Nat) (close : List (Nat × Bool)) (t : State) :
    (ramsAfter s x line close t).fab.slice = t.fab.slice :=
  foldl_unchanged (fun t => t.fab.slice) (fun t j _ => slice_bramEdge s x line j close t) t

theorem cellStores_drawn (n : Nat) (t : State) : cellStores (drawn n t) = cellStores t := rfl

theorem slice_drawn (n : Nat) (t : State) : (drawn n t).fab.slice = t.fab.slice := rfl

theorem portRec_drawn (n : Nat) (t : State) (b side : Nat) : portRec (drawn n t) b side = portRec t b side := rfl

theorem memCode_drawn (n : Nat) (t : State) (k : MemKind) (i w : Nat) : memCode (drawn n t) k i w = memCode t k i w := rfl

theorem cellStores_sampled (t : State) : cellStores (sampleMg (seeFalls t)) = cellStores t := rfl

theorem slice_sampled (t : State) : (sampleMg (seeFalls t)).fab.slice = t.fab.slice := rfl

theorem portRec_sampled (t : State) (b side : Nat) : portRec (sampleMg (seeFalls t)) b side = portRec t b side := rfl

theorem memCode_sampled (t : State) (k : MemKind) (i w : Nat) : memCode (sampleMg (seeFalls t)) k i w = memCode t k i w := rfl

section
variable (s : State) (x line : Nat) (late close : List (Nat × Bool))

/-- An edge that meets no upset. -/
abbrev edgeAfter : State := fabricEdge x line ⟨late, close, []⟩ s

theorem edgeAfter_eq : edgeAfter s x line late close =
    sampleMg (seeFalls (ramsAfter s x line close (drawn (65536 * (x + 1)) (slicesAfter s x line (clustersAfter s x line late s))))) := rfl

theorem cellStores_edgeAfter : cellStores (edgeAfter s x line late close) = cellStores (clustersAfter s x line late s) := by
  rw [edgeAfter_eq, cellStores_sampled, cellStores_ramsAfter, cellStores_drawn, cellStores_slicesAfter]

theorem slice_edgeAfter : (edgeAfter s x line late close).fab.slice = (slicesAfter s x line (clustersAfter s x line late s)).fab.slice := by
  rw [edgeAfter_eq, slice_sampled, slice_ramsAfter, slice_drawn]

theorem hardStores_clustersAfter : hardStores (clustersAfter s x line late s) = hardStores s :=
  foldl_unchanged hardStores (fun t c _ => hardStores_clusterEdge s x line c late t) s

theorem bram_slicesAfter : (slicesAfter s x line (clustersAfter s x line late s)).fab.bram = s.fab.bram :=
  (foldl_unchanged (fun t => t.fab.bram) (fun t i _ => bram_sliceEdge s x line i t) _).trans
    (Prod.mk.inj (hardStores_clustersAfter s x line late)).2

theorem mem_slicesAfter : (slicesAfter s x line (clustersAfter s x line late s)).mem = s.mem :=
  (foldl_unchanged State.mem (fun t i _ => (keeps_sliceEdge s x line i t).part .mem rfl) _).trans
    (foldl_unchanged State.mem (fun t c _ => (keeps_clusterEdge s x line c late t).part .mem rfl) s)

theorem ffValue_edgeAfter_same {c : Nat} (hc : c < 2048) (l : Fin 16) :
    ffValue (edgeAfter s x line late close) x c l 0 = ff0After s x c line late l := by
  rw [ffValue_congr (cellStores_edgeAfter s x line late close)]
  refine (foldl_own (fun t => ffValue t x c l 0) (new := fun b => if ff0After s x c line late l = ffValue s x c l 0 then b
    else ff0After s x c line late l) (List.mem_range.mpr hc) List.nodup_range
    (fun t => ffValue_clusterEdge_same s x line c late l t) (fun t d hd hdc => ?_) s).trans ?_
  · exact ffValue_clusterEdge_ne (clusterKey_ne (List.mem_range.mp hd) hc (.inr hdc.symm)) l.isLt (by decide) ..
  · split
    next h => exact h.symm
    next => rfl

theorem ffValue_edgeAfter_ne {y c l f : Nat} (hy : y ≠ x) (hc : c < 2048) (hl : l < 16) (hf : f < 2) :
    ffValue (edgeAfter s x line late close) y c l f = ffValue s y c l f := by
  rw [ffValue_congr (cellStores_edgeAfter s x line late close)]
  exact foldl_unchanged (fun t => ffValue t y c l f)
    (fun t d hd => ffValue_clusterEdge_ne (clusterKey_ne (List.mem_range.mp hd) hc (.inl hy)) hl hf ..) s

theorem lutTable_edgeAfter_same {c k : Nat} (hc : c < 2048) (hk : k < 8) (hmem : (clusterAt (sectorFrames s x) c).mem ≠ .logic) :
    lutTable (edgeAfter s x line late close) x c k = if (clusterAt (sectorFrames s x) c).ctl0.clk = line
      then lutNext s x c (clusterAt (sectorFrames s x) c) (clusterPins s x c late) k else lutTable s x c k := by
  rw [lutTable_congr (cellStores_edgeAfter s x line late close)]
  exact foldl_own (fun t => lutTable t x c k) (new := fun v => if (clusterAt (sectorFrames s x) c).ctl0.clk = line
      then lutNext s x c (clusterAt (sectorFrames s x) c) (clusterPins s x c late) k else v) (List.mem_range.mpr hc) List.nodup_range
    (fun t => lutTable_clusterEdge_same hk s line late t hmem)
    (fun t d hd hdc => lutTable_clusterEdge_ne (clusterKey_ne (List.mem_range.mp hd) hc (.inr hdc.symm)) hk ..) s

theorem sliceRec_edgeAfter_same {i : Nat} (hi : i < 40) : sliceRec (edgeAfter s x line late close) x i =
    if (sliceAt (sectorFrames s x) i).clk = line then sliceAfter s x i else sliceRec s x i := by
  rw [sliceRec_congr (slice_edgeAfter s x line late close),
    ← sliceRec_congr (Prod.mk.inj (hardStores_clustersAfter s x line late)).1 x i]
  exact foldl_own (fun t => sliceRec t x i) (new := fun r => if (sliceAt (sectorFrames s x) i).clk = line then sliceAfter s x i else r)
    (List.mem_range.mpr hi) List.nodup_range (fun t => sliceRec_sliceEdge_same s x line i t)
    (fun t j _ hj => sliceRec_sliceEdge_ne (by omega) s line t) _

theorem sliceRec_edgeAfter_ne {y i : Nat} (hy : y ≠ x) (hi : i < 40) :
    sliceRec (edgeAfter s x line late close) y i = sliceRec s y i := by
  rw [sliceRec_congr (slice_edgeAfter s x line late close),
    ← sliceRec_congr (Prod.mk.inj (hardStores_clustersAfter s x line late)).1 y i]
  refine foldl_unchanged (fun t => sliceRec t y i) (fun t j hj => ?_) _
  have hj := List.mem_range.mp hj
  exact sliceRec_sliceEdge_ne (by omega) s line t

theorem portRec_edgeAfter_same {j : Nat} (hj : j < 16) : portRec (edgeAfter s x line late close) (16 * x + j) 0 =
    if (bramAt (sectorFrames s x) j).a.clk = line then
      portNext s (16 * x + j) 0 (s.flag F.MEM_BRAM.ECCON (16 * x + j)) (bramAt (sectorFrames s x) j).a
        (ramPins s x j 0 (close.contains (j, false)))
    else portRec s (16 * x + j) 0 := by
  have hbefore : portRec (drawn (65536 * (x + 1)) (slicesAfter s x line (clustersAfter s x line late s))) (16 * x + j) 0 = portRec s (16 * x + j) 0 := by
    rw [portRec_drawn, portRec_congr (bram_slicesAfter s x line late)]
  rw [edgeAfter_eq, portRec_sampled, ← hbefore]
  exact foldl_own (fun t => portRec t (16 * x + j) 0) (new := fun r => if (bramAt (sectorFrames s x) j).a.clk = line then
      portNext s (16 * x + j) 0 (s.flag F.MEM_BRAM.ECCON (16 * x + j)) (bramAt (sectorFrames s x) j).a
        (ramPins s x j 0 (close.contains (j, false))) else r)
    (List.mem_range.mpr hj) List.nodup_range (fun t => portRec_bramEdge_same s x line j close t)
    (fun t i _ hi => portRec_bramEdge_ne (by decide) (by omega) s line close t) _

theorem memCode_edgeAfter_ne {y j w : Nat} (hy : y ≠ x) (hj : j < 16) (hw : w < 8192) :
    memCode (edgeAfter s x line late close) .bram (16 * y + j) w = memCode s .bram (16 * y + j) w := by
  have hbefore : memCode (drawn (65536 * (x + 1)) (slicesAfter s x line (clustersAfter s x line late s))) .bram (16 * y + j) w =
      memCode s .bram (16 * y + j) w := by rw [memCode_drawn, memCode_bram_congr (mem_slicesAfter s x line late)]
  rw [edgeAfter_eq, memCode_sampled, ← hbefore]
  refine foldl_unchanged (fun t => memCode t .bram (16 * y + j) w) (fun t i hi => ?_) _
  have hi := List.mem_range.mp hi
  exact memCode_bramEdge_ne (by omega) hw s line close t

end

end Sys2Proof.Machine

/-! ### What an edge gives a flip-flop (R106, R107) -/

namespace Sys2Proof.Machine
open Sys2Proof

theorem gather_succ (n : Nat) (bit : Nat → Bool) : gather (n + 1) bit = if bit n then gather n bit + 2 ^ n else gather n bit := by
  rw [gather, List.range_succ, List.foldl_append]
  rfl

theorem gather_lt (n : Nat) (bit : Nat → Bool) : gather n bit < 2 ^ n := by
  induction n with
  | zero => exact Nat.one_pos
  | succ n ih =>
    rw [gather_succ, Nat.pow_succ]
    split <;> omega

theorem testBit_gather (n : Nat) (bit : Nat → Bool) (k : Nat) : (gather n bit).testBit k = (decide (k < n) && bit k) := by
  induction n with
  | zero => simp [gather]
  | succ n ih =>
    have hlt := gather_lt n bit
    rw [gather_succ]
    rcases Nat.lt_trichotomy k n with hk | rfl | hk
    · have hbelow : (if bit n then gather n bit + 2 ^ n else gather n bit).testBit k = (gather n bit).testBit k := by
        split
        · rw [Nat.add_comm, Nat.testBit_two_pow_add_gt hk]
        · rfl
      rw [hbelow, ih, decide_eq_true hk, decide_eq_true (hk.trans (Nat.lt_succ_self n))]
    · have hnone : (gather k bit).testBit k = false := Nat.testBit_lt_two_pow hlt
      rw [decide_eq_true (Nat.lt_succ_self k), Bool.true_and]
      split
      next h => rw [Nat.add_comm, Nat.testBit_two_pow_add_eq, hnone, h, Bool.not_false]
      next h => rw [hnone, Bool.eq_false_of_not_eq_true h]
    · have hpow : 2 ^ (n + 1) ≤ 2 ^ k := Nat.pow_le_pow_right (by decide) hk
      rw [decide_eq_false (by omega), Bool.false_and, ← gather_succ]
      exact Nat.testBit_lt_two_pow ((gather_lt (n + 1) bit).trans_le hpow)

theorem lcPins_clusterPins (s : State) (x c : Nat) (late : List (Nat × Bool)) (l : Fin 16) :
    lcPins (clusterPins s x c late) l = lcPinsNow (level s) s x c l := by
  simp [lcPins, clusterPins]

theorem lcPinsNow_getLsbD (ask : Sig → Bool) (s : State) (x c : Nat) (l : Fin 16) {i : Nat} (hi : i < 8) :
    (lcPinsNow ask s x c l).getLsbD i = pinLevel ask s x c l i := by
  rw [lcPinsNow, BitVec.getLsbD_ofNat, testBit_gather, decide_eq_true hi, Bool.true_and, Bool.true_and]

section
variable {s : State} {x c line : Nat} (late : List (Nat × Bool)) {l : Fin 16}
  (hset : (lcAt (sectorFrames s x) c l).ff0.ctl1 = false) (hsync : (clusterAt (sectorFrames s x) c).ctl0.async = false)
include hset hsync

theorem ff0After_of_other_line (hclk : (clusterAt (sectorFrames s x) c).ctl0.clk ≠ line) :
    ff0After s x c line late l = ffValue s x c l 0 := by
  simp [ff0After, ffAfter, ffNext, hset, hsync, hclk]

theorem ff0After_of_disabled (hsr : (clusterAt (sectorFrames s x) c).ctl0.useSr = false)
    (hce : (clusterAt (sectorFrames s x) c).ctl0.useCe = true) (hlow : level s (.cross x c 128) = false) :
    ff0After s x c line late l = ffValue s x c l 0 := by
  have hce0 : (clusterPins s x c late).ce0 = false := hlow
  simp [ff0After, ffAfter, ffNext, hset, hsync, hsr, hce, hce0]

theorem ff0After_of_bypass (hclk : (clusterAt (sectorFrames s x) c).ctl0.clk = line)
    (hsr : (clusterAt (sectorFrames s x) c).ctl0.useSr = false) (hce : (clusterAt (sectorFrames s x) c).ctl0.useCe = false)
    (hbypass : (lcAt (sectorFrames s x) c l).ff0.bypass = true) : ff0After s x c line late l = pinLevel (level s) s x c l 6 := by
  have hd : (lcPins (clusterPins s x c late) l).getLsbD 6 = pinLevel (level s) s x c l 6 := by
    rw [lcPins_clusterPins, lcPinsNow_getLsbD _ _ _ _ _ (by decide)]
  rw [← hd]
  simp [ff0After, ffAfter, ffNext, hset, hsync, hsr, hce, hclk, hbypass]

end

/-! ### The integer load of P (R128, R131) -/

theorem ofNat_ofSigned (w : Nat) (v : Int) : BitVec.ofNat w (ofSigned w v) = BitVec.ofInt w v := by
  have hpos : (0 : Int) < (2 ^ w : Nat) := Int.natCast_pos.mpr (Nat.two_pow_pos w)
  have hlt : ofSigned w v < 2 ^ w := (Int.toNat_lt (Int.emod_nonneg v hpos.ne')).mpr (Int.emod_lt_of_pos v hpos)
  exact BitVec.eq_of_toNat_eq (by rw [BitVec.toNat_ofNat, Nat.mod_eq_of_lt hlt, BitVec.toNat_ofInt, ofSigned])

theorem ofInt_operandInt (sg : Bool) (w v : Nat) : BitVec.ofInt w (operandInt sg w v) = BitVec.ofNat w v := by
  have hmod : BitVec.ofNat w (v % 2 ^ w) = BitVec.ofNat w v := BitVec.eq_of_toNat_eq (by simp)
  have hpow : BitVec.ofNat w (2 ^ w) = 0 := BitVec.eq_of_toNat_eq (by rw [BitVec.toNat_ofNat, Nat.mod_self]; rfl)
  unfold operandInt toSigned
  split
  · split
    · rw [BitVec.ofInt_natCast, hmod]
    · rw [Int.sub_eq_add_neg, BitVec.ofInt_add, BitVec.ofInt_neg, BitVec.ofInt_natCast, BitVec.ofInt_natCast, hmod, hpow]
      simp
  · rw [BitVec.ofInt_natCast, hmod]

/-- A lane of 72 bits adds the term to what it loads over, or takes it away. -/
theorem ofNat_loadLane (sg sub : Bool) (w z : Nat) (t : Int) : BitVec.ofNat w (loadLane sg sub w z t).1 =
    if sub then BitVec.ofNat w z - BitVec.ofInt w t else BitVec.ofNat w z + BitVec.ofInt w t := by
  rw [loadLane]
  dsimp only
  rw [ofNat_ofSigned]
  cases sub with
  | false => rw [if_neg Bool.false_ne_true, if_neg Bool.false_ne_true, BitVec.ofInt_add, ofInt_operandInt]
  | true => rw [if_pos rfl, if_pos rfl, Int.sub_eq_add_neg, BitVec.ofInt_add, BitVec.ofInt_neg, ofInt_operandInt, BitVec.sub_eq_add_neg]

section
variable {a : SliceAttr} {o : SliceOp} (hmode : a.mode = .m24) (hpre : a.preadd = false) (hm : o.x.msel = 1)
include hmode

include hpre in
theorem productTerm_m24 : productTerm a o = operandInt a.asgn 24 o.a.toNat * operandInt a.bsgn 24 o.x.b.toNat := by
  simp [productTerm, laneShape, laneProduct, hmode, hpre]

include hm

theorem intLoad_product_onto_p (p casc : BitVec 72) : (intLoad a o 1 p casc).1 =
    BitVec.ofNat 72 (loadLane (a.asgn || a.bsgn) o.x.sub 72 p.toNat (productTerm a o)).1 := by
  have hz : p.toNat % 4722366482869645213696 = p.toNat := Nat.mod_eq_of_lt p.isLt
  simp [intLoad, hmode, hm, hz]

theorem intLoad_product_alone (p casc : BitVec 72) : (intLoad a o 0 p casc).1 =
    BitVec.ofNat 72 (loadLane (a.asgn || a.bsgn) o.x.sub 72 0 (productTerm a o)).1 := by
  simp [intLoad, hmode, hm]

include hpre

theorem intLoad_m24_onto_p (p casc : BitVec 72) : (intLoad a o 1 p casc).1 =
    if o.x.sub then p - BitVec.ofInt 72 (operandInt a.asgn 24 o.a.toNat * operandInt a.bsgn 24 o.x.b.toNat)
    else p + BitVec.ofInt 72 (operandInt a.asgn 24 o.a.toNat * operandInt a.bsgn 24 o.x.b.toNat) := by
  rw [intLoad_product_onto_p hmode hm, ofNat_loadLane, productTerm_m24 hmode hpre, BitVec.ofNat_toNat, BitVec.setWidth_eq]

theorem intLoad_m24_alone (p casc : BitVec 72) (hsub : o.x.sub = false) : (intLoad a o 0 p casc).1 =
    BitVec.ofInt 72 (operandInt a.asgn 24 o.a.toNat * operandInt a.bsgn 24 o.x.b.toNat) := by
  rw [intLoad_product_alone hmode hm, ofNat_loadLane, productTerm_m24 hmode hpre, hsub, if_neg Bool.false_ne_true]
  exact BitVec.zero_add _

end

/-! ### The command of an edge (R48, R49, R53, R122) -/

/-- The line has an edge in the sector: its network's through its gate, or its driver's. -/
def edgeComes (s : State) (x : Nat) (line : Fin 36) : Bool :=
  if line.val < 32 then gateOpen s x line && netTicks s line else sectorRuns s x && lckRises s x (Fin.ofNat 4 line.val)

/-- The edge is noted, or the local line seen high. -/
def edgeNoted (x : Nat) (line : Fin 36) (s : State) : State :=
  if line.val < 32 then noteEdge x line s else noteHigh x (Fin.ofNat 4 line.val) s

theorem exec_fabricClockEdge (s : State) (x : Fin 320) (line : Fin 36) (late close : List (Nat × Bool)) :
    exec (.fabricClockEdge x line ⟨late, close, []⟩) s =
      done (guarded (edgeComes s x line) s fun s => edgeAfter (edgeNoted x line s) x line late close) := by
  show execFabricClockEdge x line ⟨late, close, []⟩ s = _
  unfold execFabricClockEdge edgeComes edgeNoted
  split <;> rfl

section
variable (x : Nat) (line : Fin 36) (s : State)

theorem cellStores_edgeNoted : cellStores (edgeNoted x line s) = cellStores s := by
  unfold edgeNoted
  split <;> rfl

theorem hardStores_edgeNoted : hardStores (edgeNoted x line s) = hardStores s := by
  unfold edgeNoted
  split <;> rfl

theorem mem_edgeNoted : (edgeNoted x line s).mem = s.mem := by
  unfold edgeNoted
  split <;> rfl

theorem sectorFrames_edgeNoted (y : Nat) : sectorFrames (edgeNoted x line s) y = sectorFrames s y := by
  unfold edgeNoted
  split <;> rfl

theorem flag_edgeNoted (f : Fld) (i : Nat) : (edgeNoted x line s).flag f i = s.flag f i := by
  unfold edgeNoted
  split <;> rfl

theorem ffValue_edgeNoted (y c l f : Nat) : ffValue (edgeNoted x line s) y c l f = ffValue s y c l f :=
  ffValue_congr (cellStores_edgeNoted x line s) y c l f

theorem lutTable_edgeNoted (y c k : Nat) : lutTable (edgeNoted x line s) y c k = lutTable s y c k :=
  lutTable_congr (cellStores_edgeNoted x line s) y c k

theorem sliceRec_edgeNoted (y i : Nat) : sliceRec (edgeNoted x line s) y i = sliceRec s y i :=
  sliceRec_congr (Prod.mk.inj (hardStores_edgeNoted x line s)).1 y i

theorem portRec_edgeNoted (b side : Nat) : portRec (edgeNoted x line s) b side = portRec s b side :=
  portRec_congr (Prod.mk.inj (hardStores_edgeNoted x line s)).2 b side

theorem memCode_edgeNoted (b w : Nat) : memCode (edgeNoted x line s) .bram b w = memCode s .bram b w :=
  memCode_bram_congr (mem_edgeNoted x line s) b w

theorem sliceCasc_edgeNoted (y i : Nat) : sliceCasc (edgeNoted x line s) y i = sliceCasc s y i := by
  unfold sliceCasc
  rw [sectorFrames_edgeNoted, sliceRec_edgeNoted]

end

/-- Settles O10: every element has an entry of its own in the stores, which the edge at it alone writes, from the state before the edge; and the
load of P is one sum modulo 2^72. -/
theorem fabricElementsFollowTheirClockEdge : Obligations.FabricElementsFollowTheirClockEdge := by
  unfold Obligations.FabricElementsFollowTheirClockEdge
  refine ⟨?_, fun a o p casc hmode hpre hm => ⟨intLoad_m24_onto_p hmode hpre hm p casc, intLoad_m24_alone hmode hpre hm p casc⟩⟩
  intro s x line late close lck run u g
  cases hrun : edgeComes s x line with
  | false =>
    refine Completes.of_eq (t := s) ((exec_fabricClockEdge s x line late close).trans (by rw [guarded_false hrun])) ?_
    have hno {p : Prop} (h : run = true) : p := absurd (h.symm.trans hrun) (by decide)
    exact ⟨fun _ => rfl, hno, hno, hno, hno, fun _ _ => ⟨fun _ _ _ => rfl, fun _ => rfl, fun _ _ => rfl⟩⟩
  | true =>
    have hg : sectorFrames u x = g := sectorFrames_edgeNoted x line s x
    refine Completes.of_guarded (exec_fabricClockEdge s x line late close) hrun
      ⟨fun h => absurd (h.symm.trans hrun) (by decide), fun _ c l hset hsync => ?_, fun _ c k hmem => ?_, fun _ i => ?_, fun _ j => ?_,
        fun y hy => ⟨fun c l f => ?_, fun i => ?_, fun j w => ?_⟩⟩
    · rw [← hg] at hset hsync ⊢
      rw [ffValue_edgeAfter_same _ _ _ _ _ c.isLt l, ← ffValue_edgeNoted x line s]
      exact ⟨ff0After_of_other_line late hset hsync, fun hclk hsr =>
        ⟨ff0After_of_disabled late hset hsync hsr, ff0After_of_bypass late hset hsync hclk hsr⟩⟩
    · rw [← hg] at hmem ⊢
      rw [← lutTable_edgeNoted x line s]
      exact lutTable_edgeAfter_same u x line late close c.isLt k.isLt hmem
    · rw [← hg, ← sliceCasc_edgeNoted x line s, ← sliceRec_edgeNoted x line s]
      have hslice := sliceRec_edgeAfter_same u x line late close i.isLt
      exact ⟨hslice, fun hclk hrst => (hslice.trans (if_pos hclk)).trans (sliceAfter_of_rst hrst)⟩
    · rw [← hg, ← portRec_edgeNoted x line s, ← flag_edgeNoted x line s]
      exact portRec_edgeAfter_same u x line late close j.isLt
    · rw [← ffValue_edgeNoted x line s]
      exact ffValue_edgeAfter_ne u x line late close (Fin.val_ne_of_ne hy) c.isLt l.isLt f.isLt
    · rw [← sliceRec_edgeNoted x line s]
      exact sliceRec_edgeAfter_ne u x line late close (Fin.val_ne_of_ne hy) i.isLt
    · rw [← memCode_edgeNoted x line s]
      exact memCode_edgeAfter_ne u x line late close (Fin.val_ne_of_ne hy) j.isLt (w.isLt.trans (by decide))

end Sys2Proof.Machine

/-! ### The extended Hamming codes: syndrome and parity (R142, R143) -/

namespace Sys2Proof.Machine
open Sys2Proof

theorem parityOf_single (p : Nat) (b : Bool) (n : Nat) : parityOf (fun k => decide (k = p) && b) n = (decide (p < n) && b) := by
  induction n with
  | zero => rfl
  | succ n ih =>
    rw [parityOf_succ, ih]
    rcases Nat.lt_trichotomy p n with h | h | h
    · simp [h, h.ne', h.trans (Nat.lt_succ_self n)]
    · simp [h]
    · simp [h.not_gt, h.ne, show ¬ p < n + 1 by omega]

theorem syndrome_succ (n : Nat) (bit : Nat → Bool) :
    syndrome (n + 1) bit = if bit n then syndrome n bit ^^^ n else syndrome n bit := by
  rw [syndrome, List.range_succ, List.foldl_append]
  rfl

theorem codeParity_eq (n : Nat) (bit : Nat → Bool) : codeParity n bit = parityOf bit n := rfl

/-- Bit j of the syndrome is the parity of the positions whose index has bit j set. -/
theorem testBit_syndrome (n : Nat) (bit : Nat → Bool) (j : Nat) :
    (syndrome n bit).testBit j = parityOf (fun k => bit k && k.testBit j) n := by
  induction n with
  | zero => exact Nat.zero_testBit j
  | succ n ih =>
    rw [parityOf_succ, ← ih, syndrome_succ]
    cases bit n with
    | false => simp
    | true => simp

theorem syndrome_congr {n : Nat} {bit bit' : Nat → Bool} (h : ∀ k < n, bit k = bit' k) : syndrome n bit = syndrome n bit' :=
  Nat.eq_of_testBit_eq fun j => by
    rw [testBit_syndrome, testBit_syndrome, parityOf_congr n fun k hk => by rw [h k hk]]

/-- Position 0 has no part in the syndrome, which is the XOR of the positions that hold 1 (R143). -/
theorem syndrome_eq_foldl_filter (n : Nat) (bit : Nat → Bool) :
    syndrome n bit = ((List.range n).filter (fun k => k != 0 && bit k)).foldl (· ^^^ ·) 0 := by
  rw [List.foldl_filter, syndrome]
  congr 1
  funext a k
  by_cases hk : k = 0
  · simp [hk]
  · simp [hk]

/-- One inverted bit moves the syndrome by its position. -/
theorem syndrome_flip {n i : Nat} (hi : i < n) (bit : Nat → Bool) :
    syndrome n (fun k => bit k ^^ decide (k = i)) = syndrome n bit ^^^ i := by
  refine Nat.eq_of_testBit_eq fun j => ?_
  have hsplit : ∀ k < n, ((bit k ^^ decide (k = i)) && k.testBit j) = ((bit k && k.testBit j) ^^ (decide (k = i) && i.testBit j)) := by
    intro k _
    rw [Bool.and_xor_distrib_right]
    by_cases hk : k = i
    · rw [hk]
    · simp [hk]
  rw [testBit_syndrome, parityOf_congr n hsplit, parityOf_xor, ← testBit_syndrome, parityOf_single, decide_eq_true hi, Bool.true_and,
    Nat.testBit_xor]

theorem codeParity_flip {n i : Nat} (hi : i < n) (bit : Nat → Bool) :
    codeParity n (fun k => bit k ^^ decide (k = i)) = !codeParity n bit := by
  have hone := parityOf_single i true n
  simp only [Bool.and_true, decide_eq_true hi] at hone
  rw [codeParity_eq, parityOf_xor, hone, codeParity_eq, Bool.xor_true]

/-! #### Check positions -/

theorem checkPos_iff (k : Nat) : checkPos k = true ↔ k = 0 ∨ ∃ j, k = 2 ^ j := by
  rw [checkPos, Bool.or_eq_true, decide_eq_true_iff, decide_eq_true_iff, or_comm]
  refine or_congr_right ⟨fun h => ⟨_, h⟩, ?_⟩
  rintro ⟨j, rfl⟩
  rw [Nat.log2_two_pow]

/-- Below 256 a data position is none of 0 and the first eight powers of two. -/
theorem not_checkPos_iff {k : Nat} (hk : k < 256) : checkPos k = false ↔ k ≠ 0 ∧ ∀ j, j < 8 → k ≠ 2 ^ j := by
  rw [← Bool.not_eq_true, checkPos_iff, not_or, not_exists]
  refine and_congr_right fun _ => ⟨fun h j _ => h j, fun h j hj => h j ?_ hj⟩
  exact (Nat.pow_lt_pow_iff_right (by decide)).mp (hj ▸ hk : 2 ^ j < 2 ^ 8)

theorem dataPos_eq {n : Nat} (hn : n ≤ 256) : dataPos n = (List.range n).filter (fun k => k ≠ 0 ∧ ∀ j, j < 8 → k ≠ 2 ^ j) := by
  refine List.filter_congr fun k hk => ?_
  have hk : k < 256 := (List.mem_range.mp hk).trans_le hn
  rw [Bool.eq_iff_iff, Bool.not_eq_true', not_checkPos_iff hk, decide_eq_true_iff]

/-! #### The encoder (R142) -/

/-- The data bits at their positions, with no check bit. -/
def rawBit (data : Nat → Bool) (k : Nat) : Bool := !checkPos k && data (dataIndex k)

/-- The codeword with its check bits, but for that of position 0. -/
def checkedBit (n : Nat) (data : Nat → Bool) (k : Nat) : Bool :=
  if checkPos k then k != 0 && nbit (syndrome n (rawBit data)) (Nat.log2 k) else rawBit data k

theorem codeBit_eq (n : Nat) (data : Nat → Bool) (k : Nat) :
    codeBit n data k = if k = 0 then codeParity n (checkedBit n data) else checkedBit n data k := rfl

theorem codeBit_data (n : Nat) (data : Nat → Bool) {k : Nat} (hk : checkPos k = false) : codeBit n data k = data (dataIndex k) := by
  have hk0 : k ≠ 0 := by
    rintro rfl
    cases hk
  rw [codeBit_eq, if_neg hk0, checkedBit, hk, if_neg Bool.false_ne_true, rawBit, hk]
  rfl

/-- The check bit 2^j is what bit j of the syndrome of the data bits asks for. -/
theorem checkedBit_and_testBit (n : Nat) (data : Nat → Bool) (j k : Nat) : (checkedBit n data k && k.testBit j) =
    ((rawBit data k && k.testBit j) ^^ (decide (k = 2 ^ j) && (syndrome n (rawBit data)).testBit j)) := by
  cases hk : checkPos k with
  | false =>
    have hj : k ≠ 2 ^ j := by
      rintro rfl
      rw [(checkPos_iff _).mpr (.inr ⟨j, rfl⟩)] at hk
      cases hk
    simp [checkedBit, hk, hj]
  | true =>
    rcases (checkPos_iff k).mp hk with rfl | ⟨m, rfl⟩
    · simp [(Nat.two_pow_pos j).ne]
    · have hm : (2 ^ m : Nat) ≠ 0 := (Nat.two_pow_pos m).ne'
      simp only [checkedBit, rawBit, hk, if_true, nbit, Nat.log2_two_pow, Nat.testBit_two_pow, Nat.pow_right_inj (le_refl 2), bne_iff_ne.mpr hm]
      by_cases hmj : m = j
      · simp [hmj]
      · simp [hmj]

theorem syndrome_codeBit (n : Nat) (data : Nat → Bool) : syndrome n (codeBit n data) = 0 := by
  refine Nat.eq_of_testBit_eq fun j => ?_
  have hdrop : ∀ k < n, (codeBit n data k && k.testBit j) = (checkedBit n data k && k.testBit j) := by
    intro k _
    by_cases hk : k = 0
    · simp [hk]
    · rw [codeBit_eq, if_neg hk]
  rw [testBit_syndrome, parityOf_congr n hdrop, parityOf_congr n fun k _ => checkedBit_and_testBit n data j k, parityOf_xor,
    ← testBit_syndrome, parityOf_single, Nat.zero_testBit]
  by_cases hj : 2 ^ j < n
  · rw [decide_eq_true hj, Bool.true_and, Bool.xor_self]
  · have hbeyond : (syndrome n (rawBit data)).testBit j = false := by
      rw [testBit_syndrome, parityOf_congr n (h := fun _ => false && false) fun k hk => ?_, parityOf_and, Bool.false_and]
      rw [Nat.testBit_lt_two_pow (hk.trans_le (Nat.not_lt.mp hj)), Bool.and_false]
      rfl
    rw [hbeyond, Bool.and_false]
    rfl

/-- Position 0 holds the parity of all the others. -/
theorem codeBit_zero (n : Nat) (data : Nat → Bool) : codeBit n data 0 = parityOf (fun k => k != 0 && codeBit n data k) n := by
  rw [codeBit_eq, if_pos rfl, codeParity_eq]
  refine parityOf_congr n fun k _ => ?_
  by_cases hk : k = 0
  · subst hk
    rfl
  · rw [codeBit_eq, if_neg hk, bne_iff_ne.mpr hk, Bool.true_and]

theorem codeParity_codeBit {n : Nat} (hn : 0 < n) (data : Nat → Bool) : codeParity n (codeBit n data) = false := by
  have hsplit : ∀ k < n, codeBit n data k = ((k != 0 && codeBit n data k) ^^ (decide (k = 0) && codeBit n data 0)) := by
    intro k _
    by_cases hk : k = 0
    · simp [hk]
    · simp [hk]
  rw [codeParity_eq, parityOf_congr n hsplit, parityOf_xor, parityOf_single, ← codeBit_zero, decide_eq_true hn, Bool.true_and,
    Bool.xor_self]

/-! #### Stored words -/

theorem getLsbD_encodeWord {n : Nat} (hn : n ≤ 137) (d : BitVec 128) (k : Nat) :
    (encodeWord n d).getLsbD k = (decide (k < n) && codeBit n d.getLsbD k) := by
  rw [encodeWord, BitVec.getLsbD_ofNat, testBit_gather]
  by_cases hk : k < n
  · rw [decide_eq_true (hk.trans_le hn), Bool.true_and]
  · rw [decide_eq_false hk, Bool.false_and, Bool.and_false]

theorem getLsbD_flipPos {i : Nat} (hi : i < 137) (w : Codeword) (k : Nat) :
    (flipPos w i).getLsbD k = (w.getLsbD k ^^ decide (k = i)) := by
  rw [flipPos, BitVec.getLsbD_xor, BitVec.getLsbD_ofNat, Nat.testBit_two_pow]
  by_cases hk : k = i
  · simp [hk, hi]
  · simp [hk, Ne.symm hk]

theorem flipPos_flipPos (w : Codeword) (i : Nat) : flipPos (flipPos w i) i = w := by
  rw [flipPos, flipPos, BitVec.xor_assoc, BitVec.xor_self, BitVec.xor_zero]

/-- The classification of R143, by syndrome and parity. -/
theorem classifyWord_eq (n : Nat) (w : Codeword) : classifyWord n w =
    if codeParity n w.getLsbD then (if syndrome n w.getLsbD < n then .corrected (syndrome n w.getLsbD) else .uncorrectable)
    else if syndrome n w.getLsbD = 0 then .clean else .uncorrectable := rfl

theorem syndrome_encodeWord {n : Nat} (hn : n ≤ 137) (d : BitVec 128) : syndrome n (encodeWord n d).getLsbD = 0 := by
  rw [← syndrome_codeBit n d.getLsbD]
  exact syndrome_congr fun k hk => by rw [getLsbD_encodeWord hn, decide_eq_true hk, Bool.true_and]

theorem codeParity_encodeWord {n : Nat} (h0 : 0 < n) (hn : n ≤ 137) (d : BitVec 128) : codeParity n (encodeWord n d).getLsbD = false := by
  rw [← codeParity_codeBit h0 d.getLsbD]
  exact parityOf_congr n fun k hk => by rw [getLsbD_encodeWord hn, decide_eq_true hk, Bool.true_and]

theorem syndrome_flipPos {n i : Nat} (hn : n ≤ 137) (hi : i < n) (w : Codeword) :
    syndrome n (flipPos w i).getLsbD = syndrome n w.getLsbD ^^^ i :=
  (syndrome_congr fun k _ => getLsbD_flipPos (hi.trans_le hn) w k).trans (syndrome_flip hi _)

theorem codeParity_flipPos {n i : Nat} (hn : n ≤ 137) (hi : i < n) (w : Codeword) :
    codeParity n (flipPos w i).getLsbD = !codeParity n w.getLsbD :=
  (parityOf_congr n fun k _ => getLsbD_flipPos (hi.trans_le hn) w k).trans (codeParity_flip hi _)

section
variable {n i j : Nat} (hn : n ≤ 137) (hi : i < n) (d : BitVec 128)
include hn hi

theorem classifyWord_encodeWord : classifyWord n (encodeWord n d) = .clean := by
  rw [classifyWord_eq, codeParity_encodeWord (Nat.zero_lt_of_lt hi) hn, syndrome_encodeWord hn]
  rfl

theorem classifyWord_flipPos_encodeWord : classifyWord n (flipPos (encodeWord n d) i) = .corrected i := by
  rw [classifyWord_eq, codeParity_flipPos hn hi, codeParity_encodeWord (Nat.zero_lt_of_lt hi) hn, syndrome_flipPos hn hi,
    syndrome_encodeWord hn, Nat.zero_xor]
  simp [hi]

theorem classifyWord_flipPos_flipPos_encodeWord (hj : j < n) (hij : i ≠ j) :
    classifyWord n (flipPos (flipPos (encodeWord n d) i) j) = .uncorrectable := by
  rw [classifyWord_eq, codeParity_flipPos hn hj, codeParity_flipPos hn hi, codeParity_encodeWord (Nat.zero_lt_of_lt hi) hn,
    syndrome_flipPos hn hj, syndrome_flipPos hn hi, syndrome_encodeWord hn, Nat.zero_xor, Bool.not_not, if_neg Bool.false_ne_true,
    if_neg (mt Nat.xor_eq_zero_iff.mp hij)]

theorem fixWord_flipPos_encodeWord : fixWord n (flipPos (encodeWord n d) i) = fixWord n (encodeWord n d) := by
  rw [fixWord, fixWord, classifyWord_flipPos_encodeWord hn hi, classifyWord_encodeWord hn hi]
  exact flipPos_flipPos _ i

end

/-! #### The data that a decoder delivers (R143) -/

/-- A code whose words fit a codeword, and whose data positions hold the m data bits in order. -/
structure StoredCode (n m : Nat) : Prop where
  zero_lt : 0 < n
  le : n ≤ 137
  data_le : m ≤ 128
  index : (dataPos n).map dataIndex = List.range m

theorem storedCode_of_mem {x : Nat × Nat} (hx : x ∈ [(72, 64), (137, 128)]) : StoredCode x.1 x.2 := by
  simp only [List.mem_cons, List.not_mem_nil, or_false] at hx
  rcases hx with rfl | rfl
  · exact ⟨by decide, by decide, by decide, by decide +kernel⟩
  · exact ⟨by decide, by decide, by decide, by decide +kernel⟩

theorem lt_and_not_checkPos {n i k : Nat} (hk : (dataPos n)[i]? = some k) : k < n ∧ checkPos k = false := by
  obtain ⟨hrange, hcheck⟩ := List.mem_filter.mp (List.mem_of_getElem? hk)
  exact ⟨List.mem_range.mp hrange, by simpa using hcheck⟩

section
variable {n m i k : Nat} (hc : StoredCode n m)
include hc

theorem StoredCode.getElem?_range (hk : (dataPos n)[i]? = some k) : (List.range m)[i]? = some (dataIndex k) := by
  rw [← hc.index, List.getElem?_map, hk]
  rfl

theorem StoredCode.index_lt (hk : (dataPos n)[i]? = some k) : i < m := by
  simpa using (List.getElem?_eq_some_iff.mp (hc.getElem?_range hk)).1

theorem StoredCode.dataIndex_eq (hk : (dataPos n)[i]? = some k) : dataIndex k = i := by
  obtain ⟨_, hindex⟩ := List.getElem?_eq_some_iff.mp (hc.getElem?_range hk)
  simpa using hindex.symm

theorem StoredCode.exists_dataPos (hi : i < m) : ∃ k, (dataPos n)[i]? = some k := by
  have hlen : (dataPos n).length = m := by simpa using congrArg List.length hc.index
  exact ⟨_, List.getElem?_eq_getElem (hlen.symm ▸ hi)⟩

theorem StoredCode.dataPos_eq_map : dataPos n = (List.range m).map (fun i => (dataPos n).getD i 0) := by
  refine List.ext_getElem? fun i => ?_
  by_cases hi : i < m
  · obtain ⟨k, hk⟩ := hc.exists_dataPos hi
    simp [hi, hk]
  · have hnone : (dataPos n)[i]? = none := by
      by_contra h
      obtain ⟨k, hk⟩ := Option.ne_none_iff_exists'.mp h
      exact hi (hc.index_lt hk)
    simp [hi, hnone]

theorem StoredCode.getLsbD_encodeWord_data (hk : (dataPos n)[i]? = some k) (d : BitVec 128) : (encodeWord n d).getLsbD k = d.getLsbD i := by
  obtain ⟨hkn, hcheck⟩ := lt_and_not_checkPos hk
  rw [getLsbD_encodeWord hc.le, decide_eq_true hkn, Bool.true_and, codeBit_data _ _ hcheck, hc.dataIndex_eq hk]

/-- Data bit i is taken from the data position with index i. -/
theorem StoredCode.getLsbD_takeData (hk : (dataPos n)[i]? = some k) (w : Codeword) : (takeData w (dataPos n)).getLsbD i = w.getLsbD k := by
  have hgather : takeData w (dataPos n) = BitVec.ofNat 128 (gather m (fun i => w.getLsbD ((dataPos n).getD i 0))) := by
    rw [takeData, gather]
    conv_lhs => rw [hc.dataPos_eq_map, List.foldl_map]
    congr 1
    refine List.foldl_ext _ _ _ fun a j hj => ?_
    obtain ⟨l, hl⟩ := hc.exists_dataPos (List.mem_range.mp hj)
    rw [List.getD_eq_getElem?_getD, hl, Option.getD_some, hc.dataIndex_eq hl]
  have hi := hc.index_lt hk
  rw [hgather, BitVec.getLsbD_ofNat, testBit_gather, List.getD_eq_getElem?_getD, hk, decide_eq_true hi,
    decide_eq_true (hi.trans_le hc.data_le)]
  rfl

/-- The data are those of the word, with the one position inverted that the decoder corrects. -/
theorem StoredCode.getLsbD_wordData (hk : (dataPos n)[i]? = some k) (w : Codeword) : (wordData n w).getLsbD i =
    if codeParity n w.getLsbD = true ∧ syndrome n w.getLsbD < n ∧ k = syndrome n w.getLsbD then !w.getLsbD k else w.getLsbD k := by
  rw [wordData, hc.getLsbD_takeData hk, fixWord, classifyWord_eq]
  cases codeParity n w.getLsbD with
  | false =>
    by_cases hs : syndrome n w.getLsbD = 0
    · simp [hs]
    · simp [hs]
  | true =>
    by_cases hs : syndrome n w.getLsbD < n
    · simp only [if_true, if_pos hs, getLsbD_flipPos (hs.trans_le hc.le)]
      by_cases hks : k = syndrome n w.getLsbD
      · rw [← hks] at hs ⊢
        simp [hs]
      · simp [hks]
    · simp [hs]

theorem StoredCode.getLsbD_wordData_encodeWord (hi : i < m) (d : BitVec 128) : (wordData n (encodeWord n d)).getLsbD i = d.getLsbD i := by
  obtain ⟨k, hk⟩ := hc.exists_dataPos hi
  rw [hc.getLsbD_wordData hk, codeParity_encodeWord hc.zero_lt hc.le, if_neg (fun h => Bool.false_ne_true h.1), hc.getLsbD_encodeWord_data hk]

end

/-! #### The codes of the on-chip memories -/

/-- How a word is stored (R142). -/
theorem StoredCode.encodes {n m : Nat} (hc : StoredCode n m) (d : BitVec 128) :
    let w := encodeWord n d
    let ones (p : Nat → Bool) := ((List.range n).filter (fun k => p k && w.getLsbD k)).length
    (∀ k : Nat, n ≤ k → w.getLsbD k = false) ∧
    (∀ j : Nat, 2 ^ j < n → ones (fun k => k.testBit j) % 2 = 0) ∧
    (∀ (i k : Nat), i < m → ((List.range n).filter (fun k => k ≠ 0 ∧ ∀ j, j < 8 → k ≠ 2 ^ j))[i]? = some k → w.getLsbD k = d.getLsbD i) ∧
    w.getLsbD 0 = (ones (fun k => k != 0) % 2 == 1) := by
  refine ⟨fun k hk => ?_, fun j _ => ?_, fun i k _ hk => ?_, ?_⟩
  · rw [getLsbD_encodeWord hc.le, decide_eq_false (Nat.not_lt.mpr hk), Bool.false_and]
  · have hbit := testBit_syndrome n (encodeWord n d).getLsbD j
    rw [syndrome_encodeWord hc.le, Nat.zero_testBit, parityOf_congr n fun k _ => Bool.and_comm _ _, parityOf_eq_count] at hbit
    exact (Nat.mod_two_eq_zero_or_one _).resolve_right (beq_eq_false_iff_ne.mp hbit.symm)
  · rw [← dataPos_eq (hc.le.trans (by decide))] at hk
    exact hc.getLsbD_encodeWord_data hk d
  · rw [← parityOf_eq_count, getLsbD_encodeWord hc.le, decide_eq_true hc.zero_lt, Bool.true_and, codeBit_zero]
    exact parityOf_congr n fun k hk => by rw [getLsbD_encodeWord hc.le, decide_eq_true hk, Bool.true_and]

/-- How the decoder classifies what it reads, and the data it delivers (R143). -/
theorem StoredCode.decodes {n m : Nat} (hc : StoredCode n m) (w : Codeword) :
    let pos := (List.range n).filter (fun k => k ≠ 0 ∧ ∀ j, j < 8 → k ≠ 2 ^ j)
    let s := ((List.range n).filter (fun k => k != 0 && w.getLsbD k)).foldl (· ^^^ ·) 0
    let odd := ((List.range n).filter w.getLsbD).length % 2 = 1
    (¬ odd → s = 0 → classifyWord n w = .clean) ∧ (odd → s = 0 → classifyWord n w = .corrected 0) ∧
    (odd → 1 ≤ s → s < n → classifyWord n w = .corrected s) ∧ (odd → n ≤ s → classifyWord n w = .uncorrectable) ∧
    (¬ odd → s ≠ 0 → classifyWord n w = .uncorrectable) ∧
    ∀ (i k : Nat), pos[i]? = some k →
      (wordData n w).getLsbD i = if odd ∧ 1 ≤ s ∧ s < n ∧ k = s then !w.getLsbD k else w.getLsbD k := by
  intro pos s odd
  have hs : syndrome n w.getLsbD = s := syndrome_eq_foldl_filter n _
  have hodd : codeParity n w.getLsbD = true ↔ odd := by
    rw [codeParity_eq, parityOf_eq_count]
    exact beq_iff_eq
  have hclass := classifyWord_eq n w
  rw [hs] at hclass
  refine ⟨fun ho h0 => ?_, fun ho h0 => ?_, fun ho _ hlt => ?_, fun ho hle => ?_, fun ho hne => ?_, fun i k hk => ?_⟩
  · rw [hclass, if_neg (mt hodd.mp ho), if_pos h0]
  · rw [hclass, if_pos (hodd.mpr ho), h0, if_pos hc.zero_lt]
  · rw [hclass, if_pos (hodd.mpr ho), if_pos hlt]
  · rw [hclass, if_pos (hodd.mpr ho), if_neg (Nat.not_lt.mpr hle)]
  · rw [hclass, if_neg (mt hodd.mp ho), if_neg hne]
  · have hk : (dataPos n)[i]? = some k := by rwa [dataPos_eq (hc.le.trans (by decide))]
    have hk0 : k ≠ 0 := by
      rintro rfl
      cases (lt_and_not_checkPos hk).2
    rw [hc.getLsbD_wordData hk, hs]
    refine if_congr ?_ rfl rfl
    rw [hodd]
    exact and_congr_right fun _ => ⟨fun ⟨hlt, he⟩ => ⟨by omega, hlt, he⟩, fun ⟨_, hlt, he⟩ => ⟨hlt, he⟩⟩

theorem storedCode_kind (k : MemKind) : StoredCode (kindLen k) (if kindLen k = 72 then 64 else 128) := by
  cases k with
  | bram => exact storedCode_of_mem (x := (72, 64)) (by decide)
  | vault => exact storedCode_of_mem (x := (137, 128)) (by decide)
  | data => exact storedCode_of_mem (x := (72, 64)) (by decide)
  | prog => exact storedCode_of_mem (x := (137, 128)) (by decide)

/-- Settles O12: one inverted bit turns the parity and moves the syndrome by its position, from parity even and syndrome 0 of an encoded word. -/
theorem oneWrongBitIsCorrectedAndTwoAreFound : Obligations.OneWrongBitIsCorrectedAndTwoAreFound := by
  unfold Obligations.OneWrongBitIsCorrectedAndTwoAreFound
  refine ⟨fun k => by cases k <;> decide, fun x hx d => (storedCode_of_mem hx).encodes d, fun x hx w => (storedCode_of_mem hx).decodes w, ?_⟩
  intro k d i j hi hj hij
  have hc := storedCode_kind k
  refine ⟨classifyWord_encodeWord hc.le hi d, fun h137 => ?_, fun h72 => ?_, classifyWord_flipPos_encodeWord hc.le hi d, ?_,
    classifyWord_flipPos_flipPos_encodeWord hc.le hi d hj hij⟩
  · refine BitVec.eq_of_getLsbD_eq fun b hb => hc.getLsbD_wordData_encodeWord ?_ d
    rwa [h137]
  · refine BitVec.eq_of_getLsbD_eq fun b hb => ?_
    rw [BitVec.getLsbD_setWidth, BitVec.getLsbD_setWidth, hc.getLsbD_wordData_encodeWord (by rwa [if_pos h72]) d]
  · rw [wordData, fixWord_flipPos_encodeWord hc.le hi, ← wordData]

end Sys2Proof.Machine

/-! ### Instances of the on-chip memories, their registers and their words -/

namespace Sys2Proof.Machine
open Sys2Proof

theorem kindCount_le (k : MemKind) : kindCount k ≤ 5120 := by
  cases k <;> decide

theorem kindOf_kindCode (k : MemKind) : kindOf (kindCode k) = k := by
  cases k <;> rfl

section
variable (k : MemKind) {i : Nat} (hi : i < kindCount k)
include hi

theorem kindOf_instKey : kindOf (instKey k i / 8192) = k := by
  have hle := kindCount_le k
  rw [instKey, show (kindCode k * 8192 + i) / 8192 = kindCode k by omega, kindOf_kindCode]

theorem instKey_mod : instKey k i % 8192 = i := by
  have hle := kindCount_le k
  rw [instKey]
  omega

end

theorem instKey_inj {k k' : MemKind} {i i' : Nat} (hi : i < kindCount k) (hi' : i' < kindCount k') (h : instKey k i = instKey k' i') :
    k = k' ∧ i = i' :=
  ⟨by rw [← kindOf_instKey k hi, h, kindOf_instKey k' hi'], by rw [← instKey_mod k hi, h, instKey_mod k' hi']⟩

/-! #### The state registers of the memories (R163) -/

@[simp] theorem kindFld_lo (k : MemKind) (f : Fld) : (kindFld k f).lo = f.lo := by
  cases k <;> rfl

@[simp] theorem kindFld_width (k : MemKind) (f : Fld) : (kindFld k f).width = f.width := by
  cases k <;> rfl

theorem kindFld_fits {f : Fld} (h : f.lo + f.width ≤ 32) (k : MemKind) : (kindFld k f).lo + (kindFld k f).width ≤ 32 := by
  rwa [kindFld_lo, kindFld_width]

theorem kindFld_apart {k : MemKind} {f g : Fld} (h : f.lo + f.width ≤ g.lo ∨ g.lo + g.width ≤ f.lo) (i j : Nat) :
    (kindFld k f).apart (kindFld k g) i j := by
  refine .inr (.inr ?_)
  simpa using h

/-- An operation whose frame has none of the three registers leaves the state register of every memory alone. -/
theorem Keeps.rd_kindFld {R P : Nat} {s t : State} (h : Keeps R P s t)
    (hR : ∀ r ∈ [RegName.MEM_BRAM, .MEM_VAULT, .MEM_TMB], R.testBit r.ctorIdx = false) (k : MemKind) (f : Fld) (i : Nat) :
    t.rd (kindFld k f) i = s.rd (kindFld k f) i := by
  refine h.rd _ _ (hR _ ?_)
  cases k <;> simp [kindFld]

theorem Keeps.flag_kindFld {R P : Nat} {s t : State} (h : Keeps R P s t)
    (hR : ∀ r ∈ [RegName.MEM_BRAM, .MEM_VAULT, .MEM_TMB], R.testBit r.ctorIdx = false) (k : MemKind) (f : Fld) (i : Nat) :
    t.flag (kindFld k f) i = s.flag (kindFld k f) i := by
  rw [State.flag, h.rd_kindFld hR, State.flag]

/-! #### Stored words -/

theorem memCode_congr {s t : State} (hgen : t.memGen = s.memGen) (hcode : t.mem.code = s.mem.code) (hcleared : t.mem.cleared = s.mem.cleared)
    (hhalf : t.mem.gen = s.mem.gen) (k : MemKind) (i w : Nat) : memCode t k i w = memCode s k i w := by
  unfold memCode zeroFilled
  rw [hgen, hcode, hcleared, hhalf]

theorem memCode_setCode_same (k : MemKind) (i w : Nat) (c : Codeword) (s : State) : memCode (setCode k i w c s) k i w = c := by
  have hzero : zeroFilled (setCode k i w c s) k i = zeroFilled s k i := by cases k <;> rfl
  unfold memCode
  rw [hzero, setCode]
  dsimp only
  rw [sget_sset_self]
  by_cases h : (zeroFilled s k i && c == 0) = true
  · obtain ⟨hz, hc⟩ := Bool.and_eq_true_iff.mp h
    rw [if_pos h]
    dsimp only
    rw [if_pos hz, eq_of_beq hc]
  · rw [if_neg h]

/-! #### The log (R162) -/

section
variable (k : MemKind) (i kind entry word pos : Nat) (s : State)

@[simp] theorem mem_memLog : (memLog k i kind entry word pos s).mem = s.mem := (keeps_memLog ..).part .mem rfl

@[simp] theorem memGen_memLog : (memLog k i kind entry word pos s).memGen = s.memGen := (keeps_memLog ..).part .memGen rfl

theorem rd_memLog_kindFld (f : Fld) (j : Nat) : (memLog k i kind entry word pos s).rd (kindFld k f) j = s.rd (kindFld k f) j :=
  (keeps_memLog ..).rd_kindFld (by decide) k f j

theorem memCode_memLog (k' : MemKind) (i' w' : Nat) : memCode (memLog k i kind entry word pos s) k' i' w' = memCode s k' i' w' := by
  have hmem := mem_memLog k i kind entry word pos s
  exact memCode_congr (memGen_memLog ..) (by rw [hmem]) (by rw [hmem]) (by rw [hmem]) k' i' w'

end

theorem memLogPop_completes {s : State} (leaf : Fin 4) {v : Word} (hpop : F.MEM_LOG_CTL.POP.of v = 1)
    (hcount : s.rd F.MEM_LOG_CTL.COUNT leaf ≠ 0) : Completes (.memLogPop leaf v) s fun t =>
      t.rd F.MEM_LOG_CTL.COUNT leaf = s.rd F.MEM_LOG_CTL.COUNT leaf - 1 ∧
      t.rd F.MEM_LOG_CTL.HEAD leaf = (s.rd F.MEM_LOG_CTL.HEAD leaf + 1) % 16 ∧ t.mem = s.mem := by
  have hlt : s.rd F.MEM_LOG_CTL.COUNT leaf < 2 ^ F.MEM_LOG_CTL.COUNT.width := getF_lt ..
  have hexec : exec (.memLogPop leaf v) s = done ((s.wr F.MEM_LOG_CTL.HEAD leaf (s.rd F.MEM_LOG_CTL.HEAD leaf + 1)).wr
      F.MEM_LOG_CTL.COUNT leaf (s.rd F.MEM_LOG_CTL.COUNT leaf - 1)) := congrArg done (if_pos ⟨hpop, hcount⟩)
  refine Completes.of_eq hexec ⟨?_, ?_, rfl⟩
  · rw [rd_wr_same _ _ _ _ (by decide), Nat.mod_eq_of_lt (by omega)]
  · rw [rd_wr_other _ _ _ _ _ _ (Fld.apart_of_places (by decide) _ _), rd_wr_same _ _ _ _ (by decide)]
    rfl

end Sys2Proof.Machine

/-! ### Self-tests of the on-chip memories (R153, R154) -/

namespace Sys2Proof.Machine
open Sys2Proof

/-- The self-tests of a memory, of both memories of an engine, have passed once this one ends. -/
def passedAfter (s : State) (k : MemKind) (i : Nat) (pass : Bool) : Bool :=
  match k with
  | .bram => pass
  | .vault => pass
  | .data => pass && sget 0 s.mem.tested (instKey .prog i) == 1
  | .prog => sget 0 s.mem.tested (instKey .data i) == 1 && pass

/-- The spares whose failure a self-test reports, as the number that their bits stay below. -/
def selfTestSpares : MemKind → Nat
  | .vault => 256
  | .prog => 1
  | _ => 4

section
variable (k : MemKind) (i : Nat) (pass : Bool) (n : Nat) (s : State)

/-- What the end of a self-test leaves, but for its record in the log. -/
def selfTestNoted : State :=
  let s1 := { s with mem := { s.mem with tested := sset 0 s.mem.tested (instKey k i) (if pass then 1 else 2) } }
  let s2 := s1.wr (kindFld k F.MEM_BRAM.USABLE) i (b2n (passedAfter s k i pass))
  let s3 := if k = .bram then s2 else s2.on (kindFld k F.MEM_BRAM.ECCON) i
  s3.wr (kindFld k F.MEM_BRAM.SPARE_BAD) i (s3.rd (kindFld k F.MEM_BRAM.SPARE_BAD) i ||| n % selfTestSpares k)

theorem selfTestEnds_eq : selfTestEnds k i pass n s =
    if pass then selfTestNoted k i pass n s else memLog k i 5 0 0 0xFF (selfTestNoted k i pass n s) := by
  have hpass : ((if pass then 1 else 2) == 1) = pass := by cases pass <;> rfl
  have hboth (hk : k = .data ∨ k = .prog) : passedAfter s k i pass =
      (sget 0 (sset 0 s.mem.tested (instKey k i) (if pass then 1 else 2)) (instKey .data i) == 1 &&
        sget 0 (sset 0 s.mem.tested (instKey k i) (if pass then 1 else 2)) (instKey .prog i) == 1) := by
    rcases hk with rfl | rfl
    · rw [sget_sset_self, sget_sset_ne _ _ _ _ (by simp [instKey, kindCode]), hpass]
      rfl
    · rw [sget_sset_self, sget_sset_ne _ _ _ _ (by simp [instKey, kindCode]), hpass]
      rfl
  cases k with
  | bram => rfl
  | vault => rfl
  | data =>
    rw [selfTestNoted, hboth (.inl rfl)]
    rfl
  | prog =>
    rw [selfTestNoted, hboth (.inr rfl)]
    rfl

theorem mem_selfTestEnds : (selfTestEnds k i pass n s).mem =
    { s.mem with tested := sset 0 s.mem.tested (instKey k i) (if pass then 1 else 2) } := by
  have hnoted : (selfTestNoted k i pass n s).mem =
      { s.mem with tested := sset 0 s.mem.tested (instKey k i) (if pass then 1 else 2) } := by
    unfold selfTestNoted
    dsimp only
    split <;> rfl
  have hlog : (selfTestEnds k i pass n s).mem = (selfTestNoted k i pass n s).mem := by
    rw [selfTestEnds_eq]
    split
    · rfl
    · exact mem_memLog ..
  exact hlog.trans hnoted

theorem rd_selfTestEnds (f : Fld) (j : Nat) :
    (selfTestEnds k i pass n s).rd (kindFld k f) j = (selfTestNoted k i pass n s).rd (kindFld k f) j := by
  rw [selfTestEnds_eq]
  split
  · rfl
  · exact rd_memLog_kindFld ..

theorem flag_usable_selfTestEnds :
    (selfTestEnds k i pass n s).flag (kindFld k F.MEM_BRAM.USABLE) i = passedAfter s k i pass := by
  rw [State.flag, rd_selfTestEnds, ← State.flag, selfTestNoted]
  dsimp only
  rw [flag_wr_other _ _ _ _ _ _ (kindFld_apart (by decide) i i)]
  split
  · rw [flag_wr_b2n _ _ _ _ (kindFld_fits (by decide) k) (by rw [kindFld_width]; decide)]
  · rw [flag_on_other _ _ _ _ _ (kindFld_apart (by decide) i i), flag_wr_b2n _ _ _ _ (kindFld_fits (by decide) k) (by rw [kindFld_width]; decide)]

theorem rd_spareBad_selfTestEnds : (selfTestEnds k i pass n s).rd (kindFld k F.MEM_BRAM.SPARE_BAD) i =
    s.rd (kindFld k F.MEM_BRAM.SPARE_BAD) i ||| n % selfTestSpares k := by
  have hbefore (t : State) (v : Nat) : (if k = .bram then t.wr (kindFld k F.MEM_BRAM.USABLE) i v else
      (t.wr (kindFld k F.MEM_BRAM.USABLE) i v).on (kindFld k F.MEM_BRAM.ECCON) i).rd (kindFld k F.MEM_BRAM.SPARE_BAD) i =
        t.rd (kindFld k F.MEM_BRAM.SPARE_BAD) i := by
    split
    · exact rd_wr_other _ _ _ _ _ _ (kindFld_apart (by decide) i i)
    · rw [rd_on_other _ _ _ _ _ (kindFld_apart (by decide) i i), rd_wr_other _ _ _ _ _ _ (kindFld_apart (by decide) i i)]
  have hold : s.rd (kindFld k F.MEM_BRAM.SPARE_BAD) i < 2 ^ 8 := (getF_lt ..).trans_eq (by rw [kindFld_width]; rfl)
  have hnew : n % selfTestSpares k < 2 ^ 8 := by cases k <;> exact (Nat.mod_lt _ (by decide)).trans_le (by decide)
  rw [rd_selfTestEnds, selfTestNoted]
  dsimp only
  rw [rd_wr_same _ _ _ _ (kindFld_fits (by decide) k), kindFld_width, hbefore]
  exact Nat.mod_eq_of_lt (Nat.or_lt_two_pow hold hnew)

/-- Behind the self-test come the leaf's test state, the retirement of an engine and the mode sequencer. -/
theorem testEnds_keeps : Keeps 0x424008000000000000000000000000000000000000000000000000000220000000201c000000 0x408a1
    (selfTestEnds k i pass n s) (testEnds k i pass n s) := by
  have hleaf (powered : MemKind → Nat → Bool) := keeps_selfTestState (instLeaf k i) powered (selfTestEnds k i pass n s)
  unfold testEnds
  refine (keeps_checkModeDone _).after rfl rfl ?_
  split
  · exact (hleaf _).mono rfl rfl
  · exact (hleaf _).mono rfl rfl
  · split
    · exact (hleaf _).mono rfl rfl
    · exact (keeps_retireEngine ..).after rfl rfl ((hleaf _).mono rfl rfl)

theorem mem_testEnds : (testEnds k i pass n s).mem =
    { s.mem with tested := sset 0 s.mem.tested (instKey k i) (if pass then 1 else 2) } :=
  ((testEnds_keeps k i pass n s).part .mem rfl).trans (mem_selfTestEnds k i pass n s)

theorem flag_usable_testEnds : (testEnds k i pass n s).flag (kindFld k F.MEM_BRAM.USABLE) i = passedAfter s k i pass :=
  ((testEnds_keeps k i pass n s).flag_kindFld (by decide) ..).trans (flag_usable_selfTestEnds k i pass n s)

end

/-- A retirement writes its mark and its cause, and nothing else of the engine's status. -/
theorem rd_retireEngine {e : Nat} {s : State} (hlive : s.flag F.TMB_STAT.RETIRED e = false) (cause : Nat) {f : Fld} (hf : f.reg = .TMB_STAT)
    (i : Nat) : (retireEngine e cause s).rd f i = ((s.on F.TMB_STAT.RETIRED e).wr F.TMB_STAT.RCAUSE e cause).rd f i := by
  unfold retireEngine
  rw [if_neg (by rw [hlive]; exact Bool.false_ne_true)]
  dsimp only
  rw [(keeps_engineCause ..).rd f i (by rw [hf]; rfl), (keeps_modEng ..).rd f i (by rw [hf]; rfl)]
  split
  · exact (keeps_stopEngine ..).rd f i (Nat.zero_testBit _)
  · split
    · rw [(keeps_checkDone ..).rd f i (Nat.zero_testBit _),
        (Keeps.foldl fun t (q : WinReq) => keeps_respond q.req (.poisoned 0) t).rd f i (by rw [hf]; rfl),
        (keeps_modEng ..).rd f i (Nat.zero_testBit _), (keeps_stopEngine ..).rd f i (Nat.zero_testBit _)]
    · split
      · rw [(keeps_stopMembers ..).rd f i (Nat.zero_testBit _), (keeps_endCode ..).rd f i (Nat.zero_testBit _)]
      · exact (keeps_stopEngine ..).rd f i (Nat.zero_testBit _)

theorem retired_of_retireEngine (e cause : Nat) (s : State) : (retireEngine e cause s).flag F.TMB_STAT.RETIRED e = true := by
  cases hlive : s.flag F.TMB_STAT.RETIRED e with
  | true => rwa [retireEngine, if_pos hlive]
  | false =>
    rw [State.flag, rd_retireEngine hlive cause rfl, ← State.flag, flag_wr_other _ _ _ _ _ _ (Fld.apart_of_places (by decide) _ _),
      flag_on_same _ _ _ (by decide) (by decide)]

theorem checkerSelfTestDone_completes {s : State} {k : MemKind} {i : Nat} (hi : i < kindCount k) (pass : Bool) (bad : BitVec 8)
    {post : State → Prop} (hpost : post (testEnds k i pass bad.toNat s)) : Completes (.checkerSelfTestDone k i pass bad) s post :=
  Completes.of_guarded (b := decide (i < kindCount k)) (f := testEnds k i pass bad.toNat) rfl (decide_eq_true hi) hpost

/-- A failed data memory takes its engine out of use (R154, R220). -/
theorem testEnds_data_failed (i n : Nat) (s : State) : let t := testEnds .data i false n s
    t.flag F.TMB_STAT.RETIRED i = true ∧ (s.flag F.TMB_STAT.RETIRED i = false → t.rd F.TMB_STAT.RCAUSE i = 2) := by
  intro t
  let u := selfTestState (instLeaf .data i) (fun k i => domOn s (instDom k i)) (selfTestEnds .data i false n s)
  have hbehind : Keeps _ _ (retireEngine i 2 u) t := keeps_checkModeDone _
  have hbefore (f : Fld) (hf : f.reg = .TMB_STAT) : u.rd f i = s.rd f i :=
    ((keeps_selfTestState ..).rd f i (by rw [hf]; rfl)).trans ((keeps_selfTestEnds ..).rd f i (by rw [hf]; rfl))
  refine ⟨(hbehind.flag _ _ rfl).trans (retired_of_retireEngine i 2 u), fun hlive => ?_⟩
  have hlive : u.flag F.TMB_STAT.RETIRED i = false := by rwa [State.flag, hbefore _ rfl, ← State.flag]
  rw [hbehind.rd _ _ rfl, rd_retireEngine hlive 2 rfl, rd_wr_same _ _ _ _ (by decide)]
  rfl

end Sys2Proof.Machine

/-! ### Remaps (R160, R161) -/

namespace Sys2Proof.Machine
open Sys2Proof

theorem lt_of_freeSpare {s : State} {k : MemKind} {i w j : Nat} (h : freeSpare s k i w = some j) : j < 8 := by
  have hspares : ∀ m ∈ spareEntries k w, m < 8 := by
    intro m hm
    have hw := Nat.mod_lt w (show 0 < 4 by decide)
    cases k <;> simp only [spareEntries, List.mem_cons, List.not_mem_nil, or_false] at hm <;> omega
  exact hspares j (List.mem_of_find?_eq_some h)

/-- A remap command that names a word is taken where a spare is free, its memory usable and the word not remapped, and fails elsewhere (R161). -/
theorem memRemapAdd_completes {s : State} {v : Word} {k : MemKind} (hk : k = kindOf (s.rd F.MEM_RMP_SEL.MKIND 0))
    (hadd : F.MEM_RMP_CMD.ADD.of v = 1) (hbusy : s.flag F.MEM_RMP_STAT.BUSY 0 = false) (hword : F.MEM_RMP_CMD.WORD.of v < kindWords k)
    (hinst : s.rd F.MEM_RMP_SEL.INST 0 < kindCount k) : Completes (.memRemapAdd v) s fun t =>
      if (freeSpare s k (s.rd F.MEM_RMP_SEL.INST 0) (F.MEM_RMP_CMD.WORD.of v)).isSome ∧ usable s k (s.rd F.MEM_RMP_SEL.INST 0) = true ∧
          remapped s k (s.rd F.MEM_RMP_SEL.INST 0) (F.MEM_RMP_CMD.WORD.of v) = false then
        t.flag F.MEM_RMP_STAT.BUSY 0 = true ∧
        t.mem.rmpAdd = some (instKey k (s.rd F.MEM_RMP_SEL.INST 0), F.MEM_RMP_CMD.WORD.of v)
      else t.flag F.MEM_RMP_STAT.FAIL 0 = true ∧ t.mem = s.mem := by
  have hexec : exec (.memRemapAdd v) s = done (rmpCmd v s) := rfl
  have htaken : ¬ (F.MEM_RMP_CMD.ADD.of v = 0 ∨ s.flag F.MEM_RMP_STAT.BUSY 0 = true ∨ kindWords k ≤ F.MEM_RMP_CMD.WORD.of v ∨
      kindCount k ≤ s.rd F.MEM_RMP_SEL.INST 0) := by
    rw [hadd, hbusy]
    simp [hword, hinst]
  have hrefused (o : Option Nat) (u r : Bool) : (o.isNone || !u || r) = true ↔ ¬ (o.isSome = true ∧ u = true ∧ r = false) := by
    cases o <;> cases u <;> simp
  refine Completes.of_eq hexec ?_
  unfold rmpCmd
  dsimp only
  rw [← hk, if_neg htaken]
  split
  next hfree =>
    rw [if_neg fun h => (hrefused ..).mp h hfree]
    exact ⟨flag_on_same _ _ _ (by decide) (by decide), rfl⟩
  next hfree =>
    rw [if_pos ((hrefused ..).mpr hfree)]
    exact ⟨flag_on_same _ _ _ (by decide) (by decide), rfl⟩

section
variable {s : State} {k : MemKind} {i j w pos src : Nat} {c : Codeword}

/-- A remap entry made valid, and the word's codeword in its spare, but for the record in the log. -/
def remapNoted (k : MemKind) (i j w pos src : Nat) (c : Codeword) (s : State) : State :=
  setCode k i w c ({ s with mem := { s.mem with rmp := sset none s.mem.rmp (8 * instKey k i + j) (some ⟨w, pos, src⟩) } }.wrBit
    (kindFld k F.MEM_BRAM.RMP_USED) i j true)

theorem addRemap_eq : addRemap k i j w pos src c s = memLog k i 3 j w pos (remapNoted k i j w pos src c s) := rfl

theorem rmpEntry_addRemap : rmpEntry (addRemap k i j w pos src c s) k i j = some ⟨w, pos, src⟩ := by
  rw [addRemap_eq, rmpEntry, mem_memLog]
  exact sget_sset_self none s.mem.rmp (8 * instKey k i + j) (some ⟨w, pos, src⟩)

theorem rmpAdd_addRemap : (addRemap k i j w pos src c s).mem.rmpAdd = s.mem.rmpAdd := by
  rw [addRemap_eq, mem_memLog]
  rfl

theorem memCode_addRemap : memCode (addRemap k i j w pos src c s) k i w = c := by
  rw [addRemap_eq, memCode_memLog]
  exact memCode_setCode_same ..

theorem used_addRemap (hj : j < 8) : nbit ((addRemap k i j w pos src c s).rd (kindFld k F.MEM_BRAM.RMP_USED) i) j = true := by
  have hset : (remapNoted k i j w pos src c s).rd (kindFld k F.MEM_BRAM.RMP_USED) i = (s.wrBit (kindFld k F.MEM_BRAM.RMP_USED) i j true).rd
      (kindFld k F.MEM_BRAM.RMP_USED) i := rfl
  rw [addRemap_eq, rd_memLog_kindFld, hset, nbit_wrBit _ _ _ _ _ _ (kindFld_fits (by decide) k) (by rwa [kindFld_width]), if_pos rfl]

end

/-- A firmware remap that is no longer waiting (R161). -/
def remapTaken (s : State) : State := { s with mem := { s.mem with rmpAdd := none } }.off F.MEM_RMP_STAT.BUSY 0

section
variable {s : State} {k : MemKind} {i w : Nat} (hi : i < kindCount k) (hwait : s.mem.rmpAdd = some (instKey k i, w))
include hi hwait

theorem exec_firmwareRemapCopy (hback : backWaits s k i (memBank k w) = false) (flips : List Nat) :
    exec (.firmwareRemapCopy flips) s = done (remapCopy flips s) := by
  show execFirmwareRemapCopy flips s = _
  unfold execFirmwareRemapCopy
  rw [hwait]
  dsimp only
  rw [kindOf_instKey k hi, instKey_mod k hi, if_neg (by rw [hback]; exact Bool.false_ne_true)]

theorem remapCopy_of_freeSpare {j : Nat} (hfree : freeSpare s k i w = some j) :
    remapCopy [] s = addRemap k i j w 0xFF 2 (memCode s k i w) (remapTaken s) := by
  have hkeep (f : Fld) : (remapTaken s).rd (kindFld k f) i = s.rd (kindFld k f) i := by
    refine (keeps_off { s with mem := { s.mem with rmpAdd := none } } F.MEM_RMP_STAT.BUSY 0).rd_kindFld (by decide) k f i
  have hfree : freeSpare (remapTaken s) k i w = some j := by rwa [freeSpare, hkeep, hkeep]
  unfold remapCopy
  rw [hwait]
  dsimp only
  rw [kindOf_instKey k hi, instKey_mod k hi]
  have htaken : flipCode k i w [] ({ s with mem := { s.mem with rmpAdd := none } }.off F.MEM_RMP_STAT.BUSY 0) = remapTaken s := rfl
  rw [htaken, hfree]
  rfl

end

/-- Settles O13: what each command writes of the memory's state register, the log and the remap stores, and what the steps behind it leave alone. -/
theorem memoryTestsRemapsAndLogs : Obligations.MemoryTestsRemapsAndLogs := by
  unfold Obligations.MemoryTestsRemapsAndLogs
  refine ⟨fun s k i pass bad hi hk => ?_, fun s i bad hprog => ?_, fun s i bad => ?_, fun s v k => memRemapAdd_completes, ?_,
    fun s leaf v => memLogPop_completes leaf⟩
  · have husable : passedAfter s k i pass = pass := by rcases hk with rfl | rfl <;> rfl
    have hspares : selfTestSpares k = if k = .vault then 256 else 4 := by rcases hk with rfl | rfl <;> rfl
    refine checkerSelfTestDone_completes hi pass bad ⟨(flag_usable_testEnds ..).trans husable, ?_, ?_⟩
    · rw [mem_testEnds]
      exact sget_sset_self ..
    · rw [(testEnds_keeps ..).rd_kindFld (by decide), rd_spareBad_selfTestEnds, hspares]
  · refine checkerSelfTestDone_completes i.isLt true bad ((flag_usable_testEnds .data i true _ s).trans ?_)
    rw [passedAfter, hprog]
    rfl
  · exact checkerSelfTestDone_completes i.isLt false bad
      ⟨flag_usable_testEnds .data i false _ s, testEnds_data_failed i _ s⟩
  · intro s k i w j hi hwait hfree hback
    refine Completes.of_eq (exec_firmwareRemapCopy hi hwait hback []) ?_
    rw [remapCopy_of_freeSpare hi hwait hfree]
    refine ⟨?_, rmpAdd_addRemap, rmpEntry_addRemap, used_addRemap (lt_of_freeSpare hfree), memCode_addRemap⟩
    rw [(keeps_addRemap ..).flag _ _ rfl]
    exact flag_off_same _ _ _ (by decide)

end Sys2Proof.Machine

/-! ### What a tick makes due (R155) -/

namespace Sys2Proof.Machine
open Sys2Proof

/-- Where every update keeps `inv`, and from there `goal` too once it holds, an update that leads from `inv` to `goal` makes the whole fold do so. -/
theorem foldl_reaches {σ ι : Type} {inv goal : σ → Prop} {f : σ → ι → σ} {a : ι} {l : List ι} (ha : a ∈ l)
    (hinv : ∀ t, ∀ b ∈ l, inv t → inv (f t b)) (hgoal : ∀ t, ∀ b ∈ l, goal t → goal (f t b)) (hown : ∀ t, inv t → goal (f t a)) {s : σ}
    (hs : inv s) : goal (l.foldl f s) := by
  induction l generalizing s with
  | nil => cases ha
  | cons b l ih =>
    have hgoal' := fun t c hc => hgoal t c (List.mem_cons_of_mem b hc)
    rw [List.foldl_cons]
    rcases List.mem_cons.mp ha with rfl | ha
    · exact List.foldlRecOn l f (hown s hs) fun t ht c hc => hgoal' t c hc ht
    · exact ih ha (fun t c hc => hinv t c (List.mem_cons_of_mem b hc)) hgoal' (hinv s b List.mem_cons_self hs)

/-- Whether a memory is enabled for scrubbing hangs on five kinds of registers (R156). -/
theorem Keeps.scrubOn {R P : Nat} {s t : State} (h : Keeps R P s t)
    (hR : ∀ r ∈ [RegName.MEM_SCR_CTL, .CFG_SECT, .MEM_BRAM, .MEM_VAULT, .MEM_TMB], R.testBit r.ctorIdx = false) (k : MemKind) (i : Nat) :
    scrubOn t k i = scrubOn s k i := by
  have hflag (f : Fld) (hf : f.reg ∈ [RegName.MEM_SCR_CTL, .CFG_SECT, .MEM_BRAM, .MEM_VAULT, .MEM_TMB]) (j : Nat) : t.flag f j = s.flag f j :=
    h.flag f j (hR _ hf)
  have hen := hflag F.MEM_SCR_CTL.EN (by decide)
  have hin := hflag F.CFG_SECT.INRGN (by decide)
  have hclosed := hflag F.CFG_SECT.CLOSED (by decide)
  have husable : usable t k i = usable s k i := h.flag_kindFld (fun r hr => hR r (List.mem_cons_of_mem _ (List.mem_cons_of_mem _ hr))) k _ i
  cases k with
  | bram => simp [Machine.scrubOn, instSector, husable, hen, hin, hclosed, hflag F.MEM_SCR_CTL.BRAM (by decide),
      hflag F.MEM_BRAM.ECCON (by decide)]
  | vault => simp [Machine.scrubOn, instSector, husable, hen, hin, hclosed, hflag F.MEM_SCR_CTL.VAULT (by decide)]
  | data => simp [Machine.scrubOn, instSector, husable, hen, hflag F.MEM_SCR_CTL.TMBD (by decide)]
  | prog => simp [Machine.scrubOn, instSector, husable, hen, hflag F.MEM_SCR_CTL.TMBP (by decide)]

/-- The due slots of a memory are written. -/
def State.setDue (s : State) (key n : Nat) : State := { s with mem := { s.mem with due := sset 0 s.mem.due key n } }

theorem due_setDue_same (s : State) (key n : Nat) : sget 0 (s.setDue key n).mem.due key = n := sget_sset_self 0 s.mem.due key n

theorem due_setDue_ne (s : State) {key key' : Nat} (h : key' ≠ key) (n : Nat) : sget 0 (s.setDue key n).mem.due key' = sget 0 s.mem.due key' :=
  sget_sset_ne 0 0 s.mem.due n h

section
variable (k : MemKind) (i : Nat) (s : State)

theorem dueSlot_of_scrubOn (hon : scrubOn s k i = true) : dueSlot k i s = if sget 0 s.mem.due (instKey k i) < 4 then
    s.setDue (instKey k i) (sget 0 s.mem.due (instKey k i) + 1)
    else s.on F.MEM_SCR_STAT.LATE (instLeaf k i) := if_pos hon

theorem dueSlot_cases : dueSlot k i s = s ∨
    (scrubOn s k i = true ∧ sget 0 s.mem.due (instKey k i) < 4 ∧
      dueSlot k i s = s.setDue (instKey k i) (sget 0 s.mem.due (instKey k i) + 1)) ∨
    dueSlot k i s = s.on F.MEM_SCR_STAT.LATE (instLeaf k i) := by
  cases hon : scrubOn s k i with
  | false => exact .inl (if_neg (by rw [hon]; exact Bool.false_ne_true))
  | true =>
    rw [dueSlot_of_scrubOn k i s hon]
    by_cases hlt : sget 0 s.mem.due (instKey k i) < 4
    · exact .inr (.inl ⟨rfl, hlt, if_pos hlt⟩)
    · exact .inr (.inr (if_neg hlt))

theorem scrubOn_dueSlot (k' : MemKind) (i' : Nat) : scrubOn (dueSlot k i s) k' i' = scrubOn s k' i' :=
  (keeps_dueSlot k i s).scrubOn (by decide) k' i'

theorem due_le_due_dueSlot (key : Nat) : sget 0 s.mem.due key ≤ sget 0 (dueSlot k i s).mem.due key := by
  rcases dueSlot_cases k i s with h | ⟨-, -, h⟩ | h
  · rw [h]
  · rw [h]
    by_cases hkey : key = instKey k i
    · rw [hkey, due_setDue_same]
      exact Nat.le_succ _
    · exact (due_setDue_ne s hkey _).ge
  · rw [h]
    exact le_rfl

/-- A lag once seen stays on record. -/
theorem late_dueSlot {leaf : Nat} (hlate : s.flag F.MEM_SCR_STAT.LATE leaf = true) :
    (dueSlot k i s).flag F.MEM_SCR_STAT.LATE leaf = true := by
  rcases dueSlot_cases k i s with h | ⟨-, -, h⟩ | h
  · rwa [h]
  · rw [h]
    exact hlate
  · rw [h]
    by_cases hleaf : instLeaf k i = leaf
    · rw [hleaf, flag_on_same _ _ _ (by decide) (by decide)]
    · rwa [flag_on_other _ _ _ _ _ (.inr (.inl hleaf))]

theorem late_dueSlot_of_lag (hon : scrubOn s k i = true) (hlag : 4 ≤ sget 0 s.mem.due (instKey k i)) :
    (dueSlot k i s).flag F.MEM_SCR_STAT.LATE (instLeaf k i) = true := by
  rw [dueSlot_of_scrubOn k i s hon, if_neg (Nat.not_lt.mpr hlag), flag_on_same _ _ _ (by decide) (by decide)]

end

/-! #### The instances of a leaf -/

theorem mem_leafInstances {k : MemKind} {l i : Nat} (h : i ∈ leafInstances k l) (hl : l < 4) : i < kindCount k ∧ instLeaf k i = l := by
  obtain ⟨j, hj, rfl⟩ := List.mem_map.mp h
  have hj := List.mem_range.mp hj
  cases k <;> simp only [kindCount, instLeaf] at hj ⊢ <;> omega

theorem nodup_leafInstances (k : MemKind) (l : Nat) : (leafInstances k l).Nodup :=
  List.nodup_range.map fun _ _ h => Nat.add_left_cancel h

theorem vault_mem_tickKinds (n : Nat) : MemKind.vault ∈ tickKinds n := by
  unfold tickKinds
  split <;> decide

theorem nodup_tickKinds (n : Nat) : (tickKinds n).Nodup := by
  unfold tickKinds
  split <;> decide

/-- The instances of a leaf of one kind become due. -/
def dueKind (leaf : Nat) (s : State) (k : MemKind) : State := (leafInstances k leaf).foldl (fun u i => dueSlot k i u) s

/-- The instances of a leaf that tick n serves become due. -/
def dueTick (leaf n : Nat) (s : State) : State := (tickKinds n).foldl (dueKind leaf) s

/-- Whether a memory is enabled for scrubbing, and its due slots. -/
def dueOf (k : MemKind) (i : Nat) (s : State) : Bool × Nat := (scrubOn s k i, sget 0 s.mem.due (instKey k i))

/-- The same once the memory has become due for one slot more. -/
def dueNext (p : Bool × Nat) : Bool × Nat := if p.1 = true ∧ p.2 < 4 then (p.1, p.2 + 1) else p

/-- An enabled memory has all the slots due that it may have. -/
def Lags (k : MemKind) (i : Nat) (s : State) : Prop := scrubOn s k i = true ∧ 4 ≤ sget 0 s.mem.due (instKey k i)

theorem dueOf_dueSlot_same (k : MemKind) (i : Nat) (s : State) : dueOf k i (dueSlot k i s) = dueNext (dueOf k i s) := by
  rw [dueOf, scrubOn_dueSlot, dueNext, dueOf]
  by_cases hdue : scrubOn s k i = true ∧ sget 0 s.mem.due (instKey k i) < 4
  · rw [if_pos hdue, dueSlot_of_scrubOn k i s hdue.1, if_pos hdue.2]
    exact congrArg _ (due_setDue_same ..)
  · rw [if_neg hdue]
    rcases dueSlot_cases k i s with h | ⟨hon, hlt, -⟩ | h
    · rw [h]
    · exact absurd ⟨hon, hlt⟩ hdue
    · rw [h]
      rfl

theorem dueOf_dueSlot_ne {k k' : MemKind} {i i' : Nat} (hne : instKey k i ≠ instKey k' i') (s : State) :
    dueOf k i (dueSlot k' i' s) = dueOf k i s := by
  rw [dueOf, scrubOn_dueSlot, dueOf]
  rcases dueSlot_cases k' i' s with h | ⟨-, -, h⟩ | h
  · rw [h]
  · rw [h]
    exact congrArg _ (due_setDue_ne s hne _)
  · rw [h]
    rfl

theorem Lags.dueSlot {k : MemKind} {i : Nat} {s : State} (h : Lags k i s) (k' : MemKind) (i' : Nat) : Lags k i (dueSlot k' i' s) :=
  ⟨(scrubOn_dueSlot ..).trans h.1, h.2.trans (due_le_due_dueSlot ..)⟩

section
variable {k : MemKind} {leaf i n : Nat} (hleaf : leaf < 4) (hi : i ∈ leafInstances k leaf) (hk : k ∈ tickKinds n)
include hleaf hi hk

/-- A tick reaches each memory that it serves once. -/
theorem dueOf_dueTick (s : State) : dueOf k i (dueTick leaf n s) = dueNext (dueOf k i s) := by
  have hcount := (mem_leafInstances hi hleaf).1
  refine foldl_own (dueOf k i) (f := dueKind leaf) hk (nodup_tickKinds n) (fun t => ?_) (fun t k' _ hk' => ?_) s
  · refine foldl_own (dueOf k i) (f := fun u i => dueSlot k i u) hi (nodup_leafInstances k leaf) (dueOf_dueSlot_same k i) (fun u i' hi' hne => ?_) t
    exact dueOf_dueSlot_ne (fun h => hne (instKey_inj hcount (mem_leafInstances hi' hleaf).1 h).2.symm) u
  · refine foldl_unchanged (dueOf k i) (f := fun u i => dueSlot k' i u) (fun u i' hi' => ?_) t
    exact dueOf_dueSlot_ne (fun h => hk' (instKey_inj hcount (mem_leafInstances hi' hleaf).1 h).1.symm) u

theorem late_dueTick {s : State} (hlags : Lags k i s) : (dueTick leaf n s).flag F.MEM_SCR_STAT.LATE leaf = true := by
  refine foldl_reaches (inv := Lags k i) (goal := fun t => t.flag F.MEM_SCR_STAT.LATE leaf = true) (f := dueKind leaf) hk (fun t k' _ ht => ?_)
    (fun t k' _ ht => ?_) (fun t ht => ?_) hlags
  · exact List.foldlRecOn (motive := Lags k i) _ (fun u i => dueSlot k' i u) ht fun u hu i' _ => hu.dueSlot k' i'
  · exact List.foldlRecOn (motive := fun t => t.flag F.MEM_SCR_STAT.LATE leaf = true) _ (fun u i => dueSlot k' i u) ht
      fun u hu i' _ => late_dueSlot k' i' u hu
  · refine foldl_reaches (inv := Lags k i) (goal := fun t => t.flag F.MEM_SCR_STAT.LATE leaf = true) (f := fun u i => dueSlot k i u) hi
      (fun u i' _ hu => hu.dueSlot k i') (fun u i' _ hu => late_dueSlot k i' u hu) (fun u hu => ?_) ht
    exact (mem_leafInstances hi hleaf).2 ▸ late_dueSlot_of_lag k i u hu.1 hu.2

end

/-- A tick counts itself, and then the instances become due. -/
def ticked (leaf : Nat) (s : State) : State := s.setScrub leaf { s.scrub leaf with ticks := (s.scrub leaf).ticks + 1 }

theorem exec_scrubTick {s : State} {leaf : Fin 4} (hen : s.flag F.MEM_SCR_CTL.EN leaf = true) (hticks : (s.scrub leaf).ticks < 8192)
    (htime : 8192 * (s.scrub leaf).passStart + (s.scrub leaf).ticks * (1000000 * (s.scrub leaf).period) ≤ 8192 * s.dtcNow) :
    exec (.scrubTick leaf) s = done (dueTick leaf (s.scrub leaf).ticks (ticked leaf s)) := by
  show execScrubTick leaf s = _
  unfold execScrubTick
  dsimp only
  rw [hen, decide_eq_true hticks, decide_eq_true htime]
  rfl

theorem scrub_setScrub_same (s : State) (l : Nat) (r : LeafScrub) : (s.setScrub l r).scrub l = r := sget_sset_self ..

theorem scrub_dueSlot (k : MemKind) (i l : Nat) (s : State) : (dueSlot k i s).scrub l = s.scrub l := by
  rcases dueSlot_cases k i s with h | ⟨-, -, h⟩ | h
  · rw [h]
  · rw [h]
    rfl
  · rw [h]
    rfl

theorem scrub_dueTick (leaf n l : Nat) (s : State) : (dueTick leaf n s).scrub l = s.scrub l :=
  foldl_unchanged (fun t => t.scrub l) (fun t k _ => foldl_unchanged (fun t => t.scrub l) (fun u i _ => scrub_dueSlot k i l u) t) s

theorem scrubTick_completes {s : State} {leaf : Fin 4} {i : Nat} (hen : s.flag F.MEM_SCR_CTL.EN leaf = true)
    (hticks : (s.scrub leaf).ticks < 8192)
    (htime : 8192 * (s.scrub leaf).passStart + (s.scrub leaf).ticks * (1000000 * (s.scrub leaf).period) ≤ 8192 * s.dtcNow)
    (hi : i ∈ leafInstances .vault leaf) (hon : scrubOn s .vault i = true) :
    Completes (.scrubTick leaf) s fun t =>
      (t.scrub leaf).ticks = (s.scrub leaf).ticks + 1 ∧
      (sget 0 s.mem.due (instKey .vault i) < 4 → sget 0 t.mem.due (instKey .vault i) = sget 0 s.mem.due (instKey .vault i) + 1) ∧
      (4 ≤ sget 0 s.mem.due (instKey .vault i) → t.flag F.MEM_SCR_STAT.LATE leaf = true) := by
  have hvault := vault_mem_tickKinds (s.scrub leaf).ticks
  have hdue := dueOf_dueTick leaf.isLt hi hvault (ticked leaf s)
  have hbefore : dueOf .vault i (ticked leaf s) = (true, sget 0 s.mem.due (instKey .vault i)) := congrArg (Prod.mk · _) hon
  refine Completes.of_eq (exec_scrubTick hen hticks htime) ⟨?_, fun hlt => ?_, fun hlag => ?_⟩
  · rw [scrub_dueTick, ticked, scrub_setScrub_same]
  · rw [hbefore, dueNext, if_pos ⟨rfl, hlt⟩] at hdue
    exact congrArg Prod.snd hdue
  · exact late_dueTick leaf.isLt hi hvault ⟨hon, hlag⟩

/-! ### The end of a pass (R155) -/

/-- Showing what was skipped writes the instances' registers, and then drops the marks of the leaf. -/
theorem showSkipped_eq (l : Nat) (s : State) : ∃ t, Keeps 0xe0000000000 0 s t ∧ showSkipped l s =
    { t with mem := { t.mem with scrubbed := t.mem.scrubbed.filter (fun e => instLeaf (kindOf (e.1 / 8192)) (e.1 % 8192) != l) } } := by
  unfold showSkipped
  extract_lets show1 s1
  have hkeep (k : MemKind) (t : State) : Keeps 0xe0000000000 0 t (show1 k t) :=
    Keeps.foldl fun u i => (keeps_wr ..).mono (sub_kind rfl) rfl
  have hshown : Keeps 0xe0000000000 0 s s1 := (hkeep ..).andThen ((hkeep ..).andThen (hkeep ..))
  clear_value s1
  exact ⟨s1, hshown, rfl⟩

theorem code_showSkipped (l : Nat) (s : State) : (showSkipped l s).mem.code = s.mem.code := by
  obtain ⟨t, hkeeps, heq⟩ := showSkipped_eq l s
  have hmem : t.mem = s.mem := hkeeps.part .mem rfl
  rw [heq, ← hmem]

/-- The pass of a leaf ends, and the next begins with the period in force (R155). -/
def passEnded (leaf : Nat) (s : State) : State :=
  let s1 := (showSkipped leaf s).wrapInc F.MEM_SCR_STAT.PASS leaf
  s1.setScrub leaf ⟨(s.scrub leaf).passStart + 1000000 * (s.scrub leaf).period, 0, s1.rd F.MEM_SCR_PERIOD.PERIOD leaf⟩

theorem exec_memPassBoundary {s : State} {leaf : Fin 4} (hen : s.flag F.MEM_SCR_CTL.EN leaf = true)
    (hticks : (s.scrub leaf).ticks = 8192) (htime : s.expired (s.scrub leaf).passStart (1000000 * (s.scrub leaf).period) = true) :
    exec (.memPassBoundary leaf) s = done (passEnded leaf s) := by
  show execMemPassBoundary leaf s = _
  unfold execMemPassBoundary
  dsimp only
  rw [guarded_true (by rw [hen, htime, hticks, beq_self_eq_true, Bool.and_self, Bool.and_self])]
  rfl

section
variable (leaf : Nat) (s : State)

theorem pass_passEnded : (passEnded leaf s).rd F.MEM_SCR_STAT.PASS leaf = (s.rd F.MEM_SCR_STAT.PASS leaf + 1) % 2 ^ 16 := by
  have hscrub (t : State) (r : LeafScrub) : (t.setScrub leaf r).rd F.MEM_SCR_STAT.PASS leaf = t.rd F.MEM_SCR_STAT.PASS leaf := rfl
  rw [passEnded, hscrub, State.wrapInc, rd_wr_same _ _ _ _ (by decide), (keeps_showSkipped leaf s).rd _ _ rfl]
  rfl

theorem scrub_passEnded : (passEnded leaf s).scrub leaf =
    ⟨(s.scrub leaf).passStart + 1000000 * (s.scrub leaf).period, 0, s.rd F.MEM_SCR_PERIOD.PERIOD leaf⟩ := by
  rw [passEnded, scrub_setScrub_same, State.wrapInc, rd_wr_other _ _ _ _ _ _ (Fld.apart_of_places (by decide) _ _),
    (keeps_showSkipped leaf s).rd _ _ rfl]

theorem code_passEnded : (passEnded leaf s).mem.code = s.mem.code := by
  have hafter (t : State) (r : LeafScrub) : ((t.wrapInc F.MEM_SCR_STAT.PASS leaf).setScrub leaf r).mem.code = t.mem.code := rfl
  rw [passEnded, hafter, code_showSkipped]

end

end Sys2Proof.Machine

/-! ### What a slot reads (R155, R158–R160) -/

namespace Sys2Proof.Machine
open Sys2Proof

/-- Nothing but what a slot books of its memory has changed: its walk, its due slots and its directed word. -/
structure SlotBooked (s t : State) : Prop where
  regs : t.regs = s.regs
  memGen : t.memGen = s.memGen
  code : t.mem.code = s.mem.code
  cleared : t.mem.cleared = s.mem.cleared
  gen : t.mem.gen = s.mem.gen
  back : t.mem.back = s.mem.back
  hist : t.mem.hist = s.mem.hist

namespace SlotBooked

variable {s t u : State}

theorem refl (s : State) : SlotBooked s s := ⟨rfl, rfl, rfl, rfl, rfl, rfl, rfl⟩

theorem trans (h1 : SlotBooked s t) (h2 : SlotBooked t u) : SlotBooked s u :=
  ⟨h2.regs.trans h1.regs, h2.memGen.trans h1.memGen, h2.code.trans h1.code, h2.cleared.trans h1.cleared, h2.gen.trans h1.gen,
    h2.back.trans h1.back, h2.hist.trans h1.hist⟩

theorem memCode (h : SlotBooked s t) (k : MemKind) (i w : Nat) : memCode t k i w = memCode s k i w :=
  memCode_congr h.memGen h.code h.cleared h.gen k i w

theorem rd (h : SlotBooked s t) (f : Fld) (i : Nat) : t.rd f i = s.rd f i := rd_congr h.regs f i

end SlotBooked

section
variable (k : MemKind) (i : Nat) (s : State)

theorem booked_markScrubbed : SlotBooked s (markScrubbed k i s) := ⟨rfl, rfl, rfl, rfl, rfl, rfl, rfl⟩

theorem booked_takeDue : SlotBooked s (takeDue k i s) := ⟨rfl, rfl, rfl, rfl, rfl, rfl, rfl⟩

theorem booked_startWalk : SlotBooked s (startWalk k i s) := by
  unfold startWalk
  split
  · exact ⟨rfl, rfl, rfl, rfl, rfl, rfl, rfl⟩
  · exact .refl s

/-- A slot for the directed word, with the word no longer waiting, before the word is read. -/
def directedBooked (bank : Nat) : State :=
  let s1 := markScrubbed k i (startWalk k i s)
  let s2 := if walkDue s k i bank then takeDue k i s1 else s1
  { s2 with mem := { s2.mem with directed := sset none s2.mem.directed (4 * instKey k i + bank) none } }

theorem directedSlot_eq (bank w : Nat) : directedSlot k i bank w [] s = scrubWord k i w (directedBooked k i s bank) := rfl

theorem booked_directedBooked (bank : Nat) : SlotBooked s (directedBooked k i s bank) := by
  have hmark : SlotBooked s (markScrubbed k i (startWalk k i s)) := (booked_startWalk k i s).trans (booked_markScrubbed ..)
  have hdue : SlotBooked s (if walkDue s k i bank then takeDue k i (markScrubbed k i (startWalk k i s)) else
      markScrubbed k i (startWalk k i s)) := by
    split
    · exact hmark.trans (booked_takeDue ..)
    · exact hmark
  exact hdue.trans ⟨rfl, rfl, rfl, rfl, rfl, rfl, rfl⟩

theorem directed_directedBooked (bank : Nat) : sget none (directedBooked k i s bank).mem.directed (4 * instKey k i + bank) = none :=
  sget_sset_self none _ (4 * instKey k i + bank) none

/-- A slot for the next word of the walk, before the word is read. -/
def walkBooked : State := takeDue k i (markScrubbed k i (startWalk k i s))

theorem walkSlot_eq : walkSlot k i [] s = advanceWalk k i (scrubWord k i (sget 0 s.mem.walk (instKey k i)) (walkBooked k i s)) := rfl

theorem booked_walkBooked : SlotBooked s (walkBooked k i s) :=
  ((booked_startWalk k i s).trans (booked_markScrubbed ..)).trans (booked_takeDue ..)

theorem due_walkBooked : sget 0 (walkBooked k i s).mem.due (instKey k i) = sget 0 s.mem.due (instKey k i) - 1 := by
  have hdue : (markScrubbed k i (startWalk k i s)).mem.due = s.mem.due := by
    unfold startWalk
    split <;> rfl
  rw [walkBooked, takeDue, hdue]
  exact sget_sset_self 0 s.mem.due _ _

theorem walk_walkBooked : (walkBooked k i s).mem.walk = s.mem.walk := by
  unfold walkBooked startWalk
  split <;> rfl

theorem walk_advanceWalk : sget 0 (advanceWalk k i s).mem.walk (instKey k i) = (sget 0 s.mem.walk (instKey k i) + 1) % kindWords k :=
  sget_sset_self 0 s.mem.walk _ _

end

section
variable {k : MemKind} {i w : Nat} {s : State}

theorem scrubWord_of_clean (h : classifyWord (kindLen k) (memCode s k i w) = .clean) : scrubWord k i w s = s := by
  unfold scrubWord
  dsimp only
  rw [h]

theorem scrubWord_of_uncorrectable (h : classifyWord (kindLen k) (memCode s k i w) = .uncorrectable) :
    scrubWord k i w s = memLog k i 1 0 w 0xFF (s.satAdd F.MEM_UE_CNT.COUNT (instLeaf k i) 1) := by
  unfold scrubWord
  dsimp only
  rw [h]

/-- The history of a bank is written. -/
def State.setHist (s : State) (key : Nat) (h : List HistEnt) : State := { s with mem := { s.mem with hist := sset [] s.mem.hist key h } }

/-- A first correction of a bank is recorded and is not permanent (R159). -/
theorem recordCorrection_of_empty (hhist : sget [] s.mem.hist (4 * instKey k i + memBank k w) = []) (p : Nat) :
    recordCorrection k i w p s = 
      (false, s.setHist (4 * instKey k i + memBank k w) [⟨w, p, sget 0 s.mem.walkPass (instKey k i)⟩]) := by
  unfold recordCorrection
  dsimp only
  rw [hhist]
  rfl

/-- The state with a correction of a word counted, recorded as the first of its bank, and logged (R159, R162). -/
def correctionNoted (k : MemKind) (i w p : Nat) (s : State) : State :=
  let s1 := (s.satAdd F.MEM_CE_CNT.COUNT (instLeaf k i) 1).satAdd (kindFld k F.MEM_BRAM.CE) i 1
  memLog k i 0 0 w p (s1.setHist (4 * instKey k i + memBank k w) [⟨w, p, sget 0 s1.mem.walkPass (instKey k i)⟩])

/-- A bank's write-back waits. -/
def withBack (key : Nat) (b : WriteBack) (s : State) : State := { s with mem := { s.mem with back := sset none s.mem.back key (some b) } }

theorem back_withBack (key : Nat) (b : WriteBack) (s : State) : sget none (withBack key b s).mem.back key = some b :=
  sget_sset_self none s.mem.back key (some b)

theorem scrubWord_of_corrected {p : Nat} (h : classifyWord (kindLen k) (memCode s k i w) = .corrected p)
    (hhist : sget [] s.mem.hist (4 * instKey k i + memBank k w) = []) : scrubWord k i w s =
      withBack (4 * instKey k i + memBank k w) ⟨w, memCode s k i w, flipPos (memCode s k i w) p⟩ (correctionNoted k i w p s) := by
  have hfix : fixWord (kindLen k) (memCode s k i w) = flipPos (memCode s k i w) p := by rw [fixWord, h]
  have hrecord := recordCorrection_of_empty (s := (s.satAdd F.MEM_CE_CNT.COUNT (instLeaf k i) 1).satAdd (kindFld k F.MEM_BRAM.CE) i 1)
    hhist p
  unfold scrubWord
  dsimp only
  rw [h, hfix]
  dsimp only
  rw [hrecord]
  dsimp only
  rw [if_neg Bool.false_ne_true, if_neg (by rw [Bool.and_not_self]; exact Bool.false_ne_true)]
  rfl

theorem code_correctionNoted (p : Nat) : (correctionNoted k i w p s).mem.code = s.mem.code := by
  rw [correctionNoted, mem_memLog]
  rfl

theorem count_correctionNoted (p : Nat) : (correctionNoted k i w p s).rd F.MEM_CE_CNT.COUNT (instLeaf k i) =
    min (s.rd F.MEM_CE_CNT.COUNT (instLeaf k i) + 1) (2 ^ F.MEM_CE_CNT.COUNT.width - 1) := by
  have hapart : (kindFld k F.MEM_BRAM.CE).apart F.MEM_CE_CNT.COUNT i (instLeaf k i) := .inl (by cases k <;> decide)
  rw [correctionNoted, (keeps_memLog ..).rd _ _ rfl]
  exact (rd_satAdd_other _ _ _ _ _ _ hapart).trans (rd_satAdd_same _ _ _ _ (by decide))

end

end Sys2Proof.Machine

/-! ### Scrub slots (R155–R158, R161) -/

namespace Sys2Proof.Machine
open Sys2Proof

section
variable {s : State} {k : MemKind} {i : Nat} {bank : Fin 4} (hon : scrubOn s k i = true)
include hon

theorem exec_compareAndWrite (flips : List Nat) : exec (.compareAndWrite k i bank flips) s = done (compareWrite k i bank flips s) :=
  congrArg done (guarded_true hon)

theorem scrubSlot_of_back (hback : backWaits s k i bank = true) (flips : List Nat) : scrubSlot k i bank flips s = compareWrite k i bank flips s := by
  rw [scrubSlot, if_pos hon, if_pos hback]

variable (hback : backWaits s k i bank = false)
include hback

theorem scrubSlot_of_remap (hremap : rmpWaits s k i bank = true) (flips : List Nat) : scrubSlot k i bank flips s = remapCopy flips s := by
  rw [scrubSlot, if_pos hon, hback, if_neg Bool.false_ne_true, if_pos hremap]

variable (hremap : rmpWaits s k i bank = false)
include hremap

theorem scrubSlot_of_directed {w : Nat} (hdirected : sget none s.mem.directed (4 * instKey k i + bank) = some w) (flips : List Nat) :
    scrubSlot k i bank flips s = directedSlot k i bank w flips s := by
  rw [scrubSlot, if_pos hon, hback, if_neg Bool.false_ne_true, hremap, if_neg Bool.false_ne_true, hdirected]

theorem scrubSlot_of_undirected (hdirected : sget none s.mem.directed (4 * instKey k i + bank) = none) (flips : List Nat) :
    scrubSlot k i bank flips s = if walkDue s k i bank then walkSlot k i flips s else s := by
  rw [scrubSlot, if_pos hon, hback, if_neg Bool.false_ne_true, hremap, if_neg Bool.false_ne_true, hdirected]

end

section
variable {s : State} {k : MemKind} {i : Nat} {bank : Fin 4} (hi : i < kindCount k) (hclock : scrubClock s k i = true)
include hi hclock

theorem exec_scrubSlot (hk : k ≠ .prog) (flips : List Nat) : exec (.scrubSlot k i bank flips) s = done (scrubSlot k i bank flips s) := by
  have hcond : (decide (i < kindCount k) && scrubClock s k i) = true := by rw [decide_eq_true hi, hclock]; rfl
  exact (congrArg done (guarded_true hcond)).trans (congrArg done (if_neg hk))

/-- A forced slot is that of the free cycle, but that an engine that issues is held for a cycle (R157). -/
theorem exec_forcedScrubSlot (hk : k = .vault ∨ k = .data) (hready : slotReady s k i bank = true) (flips : List Nat) :
    ∃ t, exec (.forcedScrubSlot k i bank flips) s = done t ∧ t.mem = (scrubSlot k i bank flips s).mem ∧
      t.regs = (scrubSlot k i bank flips s).regs := by
  have hbram : (k != .bram) = true := by rcases hk with rfl | rfl <;> rfl
  have hprog : k ≠ .prog := by rcases hk with rfl | rfl <;> decide
  refine ⟨_, congrArg done (guarded_true (by rw [decide_eq_true hi, hbram, hclock, hready]; rfl)), ?_, ?_⟩
  all_goals
    dsimp only
    rw [takeSlot, if_neg hprog]
    split <;> rfl

/-- What holds of the memories and the registers behind a slot holds whether user access left it free or it was forced. -/
theorem slots_complete (hk : k = .vault ∨ k = .data) (hready : slotReady s k i bank = true) {post : State → Prop}
    (hpost : ∀ t, t.mem = (scrubSlot k i bank [] s).mem → t.regs = (scrubSlot k i bank [] s).regs → post t) :
    ∀ c ∈ [Instr.scrubSlot k i bank [], .forcedScrubSlot k i bank []], Completes c s post := by
  intro c hc
  rcases List.mem_pair.mp hc with rfl | rfl
  · exact Completes.of_eq (exec_scrubSlot hi hclock (by rcases hk with rfl | rfl <;> decide) []) (hpost _ rfl rfl)
  · obtain ⟨t, hexec, hmem, hregs⟩ := exec_forcedScrubSlot hi hclock hk hready []
    exact Completes.of_eq hexec (hpost t hmem hregs)

/-- A slot that finds a directed word waiting reads it. -/
theorem directed_completes {w : Nat} (hk : k = .vault ∨ k = .data) (hon : scrubOn s k i = true) (hback : backWaits s k i bank = false)
    (hremap : rmpWaits s k i bank = false) (hdirected : sget none s.mem.directed (4 * instKey k i + bank) = some w) {post : State → Prop}
    (hpost : ∀ t, t.mem = (scrubWord k i w (directedBooked k i s bank)).mem → t.regs = (scrubWord k i w (directedBooked k i s bank)).regs →
      post t) : ∀ c ∈ [Instr.scrubSlot k i bank [], .forcedScrubSlot k i bank []], Completes c s post := by
  have hready : slotReady s k i bank = true := by
    rw [slotReady, hon, hdirected]
    simp
  refine slots_complete hi hclock hk hready ?_
  rwa [scrubSlot_of_directed hon hback hremap hdirected, directedSlot_eq]

end

theorem forcedScrubSlot_not_ready {s : State} {k : MemKind} {i : Nat} {bank : Fin 4} (hready : slotReady s k i bank = false)
    (flips : List Nat) : exec (.forcedScrubSlot k i bank flips) s = done s :=
  congrArg done (guarded_false (by rw [hready, Bool.and_false]))

theorem rmpWaits_of_rmpAdd {s : State} {k : MemKind} {i w bank : Nat} (hwait : s.mem.rmpAdd = some (instKey k i, w))
    (hbank : memBank k w = bank) : rmpWaits s k i bank = true := by
  rw [rmpWaits, hwait]
  simp [hbank]

/-- The compare-and-write writes the corrected codeword where the word still holds what was corrected (R158). -/
theorem compareWrite_of_back {s : State} {k : MemKind} {i bank : Nat} {b : WriteBack}
    (hback : sget none s.mem.back (4 * instKey k i + bank) = some b) : let t := compareWrite k i bank [] s
    memCode t k i b.word = (if memCode s k i b.word = b.read then b.fixed else memCode s k i b.word) ∧
    sget none t.mem.back (4 * instKey k i + bank) = none ∧ t.regs = s.regs := by
  intro t
  let u : State := { s with mem := { s.mem with back := sset none s.mem.back (4 * instKey k i + bank) none } }
  have hu : memCode u k i b.word = memCode s k i b.word := rfl
  have hnone : sget none u.mem.back (4 * instKey k i + bank) = none := sget_sset_self none s.mem.back (4 * instKey k i + bank) none
  have ht : t = if memCode u k i b.word = b.read then setCode k i b.word b.fixed u else u := by
    show compareWrite k i bank [] s = _
    unfold compareWrite
    dsimp only
    rw [hback]
    rfl
  rw [ht, hu]
  split
  · exact ⟨memCode_setCode_same .., hnone, rfl⟩
  · exact ⟨hu, hnone, rfl⟩

/-- Settles O14: a slot does one thing, in the order of R155, R158 and R161, and each of them writes its own stores and registers. -/
theorem scrubbersWalkCorrectAndWriteBack : Obligations.ScrubbersWalkCorrectAndWriteBack := by
  unfold Obligations.ScrubbersWalkCorrectAndWriteBack
  refine ⟨fun s leaf i => scrubTick_completes, fun s leaf hen hticks htime => ?_, ?_, ?_, ?_, fun s k i bank b hback hon => ?_, ?_,
    fun s k i bank flips hready => Completes.of_eq (forcedScrubSlot_not_ready hready flips) rfl⟩
  · exact Completes.of_eq (exec_memPassBoundary hen hticks htime) ⟨pass_passEnded .., scrub_passEnded .., code_passEnded ..⟩
  · intro s k i w bank hi hk hon hclock hback hremap _ hdirected hclass
    have hu := booked_directedBooked k i s bank
    refine directed_completes hi hclock hk hon hback hremap hdirected fun t hmem hregs => ?_
    rw [scrubWord_of_clean (by rwa [hu.memCode])] at hmem hregs
    rw [hmem, rd_congr hregs]
    exact ⟨hu.code, hu.back, directed_directedBooked .., hu.rd ..⟩
  · intro s k i w bank hi hk hon hclock hback hremap _ hdirected hclass
    have hu := booked_directedBooked k i s bank
    refine directed_completes hi hclock hk hon hback hremap hdirected fun t hmem hregs => ?_
    rw [scrubWord_of_uncorrectable (by rwa [hu.memCode])] at hmem hregs
    rw [hmem, rd_congr hregs, mem_memLog, (keeps_memLog ..).rd _ _ rfl, rd_satAdd_same _ _ _ _ (by decide), hu.rd]
    exact ⟨hu.code, rfl⟩
  · intro s k i w p bank hi hk hon hclock hback hremap hbank hdirected hclass hhist
    have hu := booked_directedBooked k i s bank
    refine directed_completes hi hclock hk hon hback hremap hdirected fun t hmem hregs => ?_
    rw [scrubWord_of_corrected (p := p) (by rwa [hu.memCode]) (by rwa [hu.hist, hbank]), hbank, hu.memCode] at hmem hregs
    rw [hmem, rd_congr hregs]
    refine ⟨back_withBack .., (code_correctionNoted p).trans hu.code, ?_⟩
    exact (count_correctionNoted p).trans (by rw [hu.rd])
  · exact Completes.of_eq (exec_compareAndWrite hon []) (compareWrite_of_back hback)
  · intro s k i w bank flips hi hk hon hclock
    refine ⟨fun hback => ?_, fun hback hwait hbank => ?_, fun hback hremap hdirected hwalk => ?_, fun hback hremap hdirected hwalk hclass => ?_⟩
    · rw [exec_scrubSlot hi hclock hk, scrubSlot_of_back hon hback, exec_compareAndWrite hon]
    · rw [exec_scrubSlot hi hclock hk, scrubSlot_of_remap hon hback (rmpWaits_of_rmpAdd hwait hbank),
        exec_firmwareRemapCopy hi hwait (by rwa [hbank])]
    · rw [exec_scrubSlot hi hclock hk, scrubSlot_of_undirected hon hback hremap hdirected, hwalk, if_neg Bool.false_ne_true]
      rfl
    · have hu := booked_walkBooked k i s
      have hslot : scrubSlot k i bank [] s = advanceWalk k i (walkBooked k i s) := by
        rw [scrubSlot_of_undirected hon hback hremap hdirected, if_pos hwalk, walkSlot_eq, scrubWord_of_clean (by rwa [hu.memCode])]
      refine Completes.of_eq (exec_scrubSlot hi hclock hk []) ?_
      rw [hslot]
      refine ⟨hu.code, due_walkBooked k i s, ?_, hu.regs⟩
      rw [walk_advanceWalk, walk_walkBooked]

end Sys2Proof.Machine

/-! ### Slots that issue (R169–R172) -/

namespace Sys2Proof.Machine
open Sys2Proof

theorem ofInt_eq_word32 (v : Int) : word32 v = BitVec.ofInt 32 v := ofNat_ofSigned 32 v

/-- An engine's record once its C slot has issued. -/
def issuedC (b : BitVec 128) (x : List Result × CFlow) (r : EngineRec) : EngineRec := { r with ir := some b, issC := some x }

/-- Instruction `c` is the C slot's of opcode `op`, and gives the results and the flow `x`. -/
def GivesC (s : State) (e w : Nat) (c : Instr) (op : Nat) (x : List Result × CFlow) : Prop :=
  slotOp .c w = op → ∃ f, exec c s = done (issueC e op f s) ∧ f s (s.eng e) w = x

theorem GivesC.of_issueC {s : State} {e w op : Nat} {c : Instr} {f : State → EngineRec → Nat → List Result × CFlow}
    {x : List Result × CFlow} (h : exec c s = done (issueC e op f s)) (hf : f s (s.eng e) w = x) : GivesC s e w c op x :=
  fun _ => ⟨f, h, hf⟩

/-- A slot that does nothing, as NOP or as reserved, issues without a result of its own (R169, R171). -/
theorem issueNop_c {s : State} {e w : Nat} (hw : w = slotBits .c (bundle s e))
    (h : slotOp .c w = 0 ∨ slotLegal .c w (s.eng e).pc (s.eng e).run = false) :
    issueNop e .c s = issueC e (slotOp .c w) (fun _ _ _ => ([], .none)) s := by
  subst hw
  unfold issueNop slotNow
  refine guarded_true ?_
  rcases h with h | h
  · rw [h]; rfl
  · rw [h]; exact Bool.or_true _

section
variable {s : State} {e : Fin 512} {w : Nat} (hw : w = slotBits .c (bundle s e)) (hcan : canIssue s e = true) (hfree : (s.eng e).issC = none)
include hw hcan hfree

/-- A C slot that may issue does: a legal one what its instruction says, any other as NOP with ILL (R171). -/
theorem issueC_eq {op : Nat} (hop : slotOp .c w = op) (f : State → EngineRec → Nat → List Result × CFlow) :
    issueC e op f s = s.setEng e (issuedC (bundle s e)
      (if slotLegal .c w (s.eng e).pc (s.eng e).run then f s (s.eng e) w else (illResult, .none)) (s.eng e)) := by
  subst hw
  have hguard : (canIssue s e && (s.eng e).issC.isNone && slotOp .c (slotBits .c (bundle s e)) == op) = true := by
    rw [hcan, hfree, hop, beq_self_eq_true]
    rfl
  unfold issueC
  dsimp only
  rw [guarded_true hguard]
  rfl

/-- The instructions of a table each leave their results and flow in the slot, and nothing else changes. -/
theorem slotC_table {α : Type} {l : List (Nat × Instr × α)} {g : α → List Result × CFlow}
    (hlegal : slotLegal .c w (s.eng e).pc (s.eng e).run = true) (h : ∀ x ∈ l, GivesC s e w x.2.1 x.1 (g x.2.2)) :
    ∀ x ∈ l, slotOp .c w = x.1 → Completes x.2.1 s fun t =>
      (t.eng e).issC = some (g x.2.2) ∧ (t.eng e).issM = (s.eng e).issM ∧ (t.eng e).issV = (s.eng e).issV ∧ (t.eng e).pc = (s.eng e).pc ∧
      t.regs = s.regs ∧ t.mem = s.mem ∧ ∀ n : Nat, n ≠ e → t.eng n = s.eng n := by
  intro x hx hop
  obtain ⟨f, hexec, hf⟩ := h x hx hop
  rw [issueC_eq hw hcan hfree hop, if_pos hlegal, hf] at hexec
  refine Completes.of_eq hexec ?_
  rw [eng_setEng_same]
  exact ⟨rfl, rfl, rfl, rfl, rfl, rfl, fun n hn => eng_setEng_ne s hn _⟩

end

/-! #### Scalar arithmetic on words (R177, R181, R182) -/

theorem mulHigh_eq (a b : Word) : mulHigh a b = ((a.signExtend 64 * b.signExtend 64) >>> 32).setWidth 32 := by
  have hprod : (a.signExtend 64 * b.signExtend 64) = BitVec.ofInt 64 (a.toInt * b.toInt) := by
    rw [BitVec.ofInt_mul]; rfl
  rw [mulHigh, ofInt_eq_word32, hprod]
  apply BitVec.eq_of_toNat_eq
  simp only [BitVec.toNat_ofInt, BitVec.toNat_setWidth, BitVec.toNat_ushiftRight, Nat.shiftRight_eq_div_pow]
  generalize a.toInt * b.toInt = z
  norm_num
  omega

theorem toSigned17 (v : Nat) : toSigned 17 v = (BitVec.ofNat 17 v).toInt := by
  rw [toSigned, BitVec.toInt_eq_toNat_cond, BitVec.toNat_ofNat]
  split_ifs <;> omega

theorem sext17_eq (v : Nat) : sext17 v = ((BitVec.ofNat 32 v).setWidth 17).signExtend 32 := by
  rw [BitVec.setWidth_ofNat_of_le (by decide), sext17, ofInt_eq_word32, toSigned17]
  rfl

theorem lui_eq (w : Nat) : BitVec.ofNat 32 (sf w 0 15 * 2 ^ 17) = ((BitVec.ofNat 32 (sf w 0 17)).setWidth 15).setWidth 32 <<< 17 := by
  apply BitVec.eq_of_toNat_eq
  simp only [sf, BitVec.toNat_ofNat, BitVec.toNat_setWidth, BitVec.toNat_shiftLeft, Nat.shiftLeft_eq]
  omega

theorem expOf_eq (a : Word) : expOf a.toNat = ((a >>> 23).setWidth 8).toNat - 127 := by
  rw [expOf, BitVec.toNat_setWidth, BitVec.toNat_ushiftRight, Nat.shiftRight_eq_div_pow]

theorem toNat_imm_mod (v : Nat) : (BitVec.ofNat 32 v).toNat % 32 = v % 32 := by
  rw [BitVec.toNat_ofNat, Nat.mod_mod_of_dvd _ (by decide)]

theorem nopC_gives {s : State} {e : Fin 512} {w : Nat} (hw : w = slotBits .c (bundle s e)) : GivesC s e w (.nop e 0) 0 ([], .none) :=
  fun hop => ⟨_, by rw [← hop, ← issueNop_c hw (.inl hop)]; rfl, rfl⟩

/-- Settles O15: each instruction of the C slot has its function in the model, and a slot that may issue puts that function's value behind the
cycle. -/
theorem scalarAndControlSlotsGiveTheirResults : Obligations.ScalarAndControlSlotsGiveTheirResults := by
  unfold Obligations.ScalarAndControlSlotsGiveTheirResults
  refine ⟨?_, ?_, ?_, ?_⟩
  · rintro s e r w rfl hw hcan hfree hlegal a b
    refine slotC_table hw hcan hfree hlegal (g := fun y : Nat × Word => ([⟨y.1, .sreg (s.eng e).bank (sf w 27 5) y.2⟩], .none)) ?_
    simp only [List.forall_mem_cons]
    -- of the RR instructions only MULH is written otherwise than in the model
    exact ⟨.of_issueC rfl rfl, .of_issueC rfl rfl, .of_issueC rfl rfl, .of_issueC rfl rfl, .of_issueC rfl rfl, .of_issueC rfl rfl,
      .of_issueC rfl rfl, .of_issueC rfl rfl, .of_issueC rfl rfl, .of_issueC rfl rfl, .of_issueC rfl rfl,
      .of_issueC rfl (by rw [← mulHigh_eq]; rfl), .of_issueC rfl rfl, .of_issueC rfl rfl, List.forall_mem_nil _⟩
  · rintro s e r w rfl hw hcan hfree hlegal a imm
    refine slotC_table hw hcan hfree hlegal (g := fun y => ([⟨1, .sreg (s.eng e).bank (sf w 27 5) y⟩], .none)) ?_
    simp only [List.forall_mem_cons]
    exact ⟨.of_issueC rfl (by rw [← sext17_eq]; rfl), .of_issueC rfl rfl, .of_issueC rfl rfl, .of_issueC rfl rfl,
      .of_issueC rfl (by rw [toNat_imm_mod]; rfl), .of_issueC rfl (by rw [toNat_imm_mod]; rfl), .of_issueC rfl (by rw [toNat_imm_mod]; rfl),
      .of_issueC rfl (by rw [← lui_eq]; rfl), .of_issueC rfl rfl, .of_issueC rfl (by rw [← expOf_eq, ← ofInt_eq_word32]; rfl),
      .of_issueC rfl rfl, List.forall_mem_nil _⟩
  · rintro s e r w rfl hw hcan hfree hlegal a rd go start loop sat
    refine slotC_table hw hcan hfree hlegal (g := id) ?_
    simp only [List.forall_mem_cons]
    have hge : decide (0 ≤ a.toInt) = true ↔ ¬ a.toInt < 0 := by rw [decide_eq_true_eq, Int.not_lt]
    exact ⟨.of_issueC rfl rfl, .of_issueC rfl rfl, .of_issueC rfl rfl, .of_issueC rfl rfl,
      .of_issueC rfl (congrArg (Prod.mk []) (if_congr beq_iff_eq rfl rfl)),
      .of_issueC rfl (congrArg (Prod.mk []) ((if_congr bne_iff_ne rfl rfl).trans (ite_not ..))),
      .of_issueC rfl (congrArg (Prod.mk []) (if_congr decide_eq_true_iff rfl rfl)),
      .of_issueC rfl (congrArg (Prod.mk []) ((if_congr hge rfl rfl).trans (ite_not ..))),
      .of_issueC rfl rfl, .of_issueC rfl rfl, .of_issueC rfl rfl, .of_issueC rfl rfl, .of_issueC rfl rfl, .of_issueC rfl rfl,
      .of_issueC rfl rfl, .of_issueC rfl rfl, .of_issueC rfl rfl, .of_issueC rfl rfl, .of_issueC rfl rfl, nopC_gives hw, List.forall_mem_nil _⟩
  · rintro s e r rfl hcan hfree hill
    refine Completes.of_eq (t := issueNop e .c s) rfl ?_
    rw [issueNop_c rfl (.inr hill), issueC_eq rfl hcan hfree rfl, hill, if_neg Bool.false_ne_true]
    exact ⟨congrArg EngineRec.issC (eng_setEng_same ..), rfl⟩

end Sys2Proof.Machine
/-! ### The V slot (R168, R170, R178–R184) -/

namespace Sys2Proof.Machine
open Sys2Proof

/-- An engine's record once its V slot has issued. -/
def issuedV (b : BitVec 128) (l : List Result) (r : EngineRec) : EngineRec := { r with ir := some b, issV := some l }

/-- Instruction `c` is the V slot's of opcode `op`, and gives the results `l`. -/
def GivesV (s : State) (e w : Nat) (c : Instr) (op : Nat) (l : List Result) : Prop :=
  slotOp .v w = op → ∃ f, exec c s = done (issueV e op f s) ∧ f (s.eng e) w = l

theorem GivesV.of_issueV {s : State} {e w op : Nat} {c : Instr} {f : EngineRec → Nat → List Result} {l : List Result}
    (h : exec c s = done (issueV e op f s)) (hf : f (s.eng e) w = l) : GivesV s e w c op l :=
  fun _ => ⟨f, h, hf⟩

section
variable {s : State} {e : Fin 512} {w : Nat} (hw : w = slotBits .v (bundle s e))
include hw

theorem nopV_gives : GivesV s e w (.nop e 1) 0 [] := by
  subst hw
  refine fun hop => ⟨fun _ _ => [], ?_, rfl⟩
  have hnop : issueNop e .v s = issueV e (slotOp .v (slotBits .v (bundle s e))) (fun _ _ => []) s := by
    unfold issueNop slotNow
    exact guarded_true (by rw [hop]; rfl)
  rw [← hop, ← hnop]
  rfl

/-- The instructions of a table each leave their results in a legal slot that may issue, and nothing else changes. -/
theorem slotV_table {l : List (Nat × Instr × List Result)} (hcan : canIssue s e = true) (hfree : (s.eng e).issV = none)
    (hlegal : slotLegal .v w (s.eng e).pc (s.eng e).run = true) (h : ∀ z ∈ l, GivesV s e w z.2.1 z.1 z.2.2) :
    ∀ z ∈ l, slotOp .v w = z.1 → Completes z.2.1 s fun t =>
      (t.eng e).issV = some z.2.2 ∧ (t.eng e).issM = (s.eng e).issM ∧ (t.eng e).issC = (s.eng e).issC ∧ (t.eng e).pc = (s.eng e).pc ∧
      t.regs = s.regs ∧ t.mem = s.mem ∧ ∀ m : Nat, m ≠ e → t.eng m = s.eng m := by
  intro z hz hop
  obtain ⟨f, hexec, hf⟩ := h z hz hop
  subst hw
  have hguard : (canIssue s e && (s.eng e).issV.isNone && slotOp .v (slotBits .v (bundle s e)) == z.1) = true := by
    rw [hcan, hfree, hop, beq_self_eq_true]
    rfl
  have hissue : issueV e z.1 f s = s.setEng e (issuedV (bundle s e) z.2.2 (s.eng e)) := by
    unfold issueV
    dsimp only
    rw [guarded_true hguard, if_pos hlegal, hf]
    rfl
  refine Completes.of_eq (hexec.trans (congrArg done hissue)) ?_
  rw [eng_setEng_same]
  exact ⟨rfl, rfl, rfl, rfl, rfl, rfl, fun m hm => eng_setEng_ne s hm _⟩

end

/-- What VMIN and VMAX take of two elements. -/
theorem pick_eq (p : Prop) [Decidable p] (a b : Nat) :
    (if decide p == true then a else b) = (if p then a else b) ∧ (if decide p == false then a else b) = if p then b else a := by
  by_cases h : p <;> simp [h]

theorem ofNat_aLane (w k : Nat) (a : BitVec 2048) : BitVec.ofNat w (aLane w k a) = BitVec.ofNat w (a.toNat / 2 ^ (w * k)) :=
  BitVec.eq_of_toNat_eq (by rw [BitVec.toNat_ofNat, BitVec.toNat_ofNat, aLane, Nat.mod_mod])

/-- Settles O16: each instruction of the V slot has its function in the model, and a slot that may issue puts that function's value behind the
cycle. -/
theorem vectorSlotsGiveTheirResults : Obligations.VectorSlotsGiveTheirResults := by
  unfold Obligations.VectorSlotsGiveTheirResults
  rintro s e r w rfl hw hcan hfree hlegal x y sx n u bsz ac each mac sh sat
  refine slotV_table hw hcan hfree hlegal ?_
  have hmin (k : Nat) := (pick_eq (numOf u n (elem n k x) < numOf u n (elem n k y)) (elem n k x) (elem n k y)).1
  have hmax (k : Nat) := (pick_eq (numOf u n (elem n k x) < numOf u n (elem n k y)) (elem n k x) (elem n k y)).2
  simp only [List.forall_mem_cons, ← hmin, ← hmax, ← ofInt_eq_word32, ← ofNat_aLane]
  exact ⟨nopV_gives hw, .of_issueV rfl rfl, .of_issueV rfl rfl, .of_issueV rfl rfl, .of_issueV rfl rfl, .of_issueV rfl rfl,
    .of_issueV rfl rfl, .of_issueV rfl rfl, .of_issueV rfl rfl, .of_issueV rfl rfl, .of_issueV rfl rfl, .of_issueV rfl rfl,
    .of_issueV rfl rfl, .of_issueV rfl rfl, .of_issueV rfl rfl, .of_issueV rfl rfl, .of_issueV rfl rfl, .of_issueV rfl rfl,
    .of_issueV rfl rfl, .of_issueV rfl rfl, .of_issueV rfl rfl, .of_issueV rfl rfl, .of_issueV rfl rfl, .of_issueV rfl rfl,
    .of_issueV rfl rfl, .of_issueV rfl rfl, .of_issueV rfl rfl, List.forall_mem_nil _⟩

end Sys2Proof.Machine
/-! ### Loads and stores (R175, R185, R199–R201) -/

namespace Sys2Proof.Machine
open Sys2Proof

/-- Instruction `c` is the M slot's of opcode `op`, and gives the results `l` without acting at once. -/
def GivesM (s : State) (e w : Nat) (c : Instr) (op : Nat) (l : List Result) : Prop :=
  slotOp .m w = op → ∃ f, exec c s = done (issueM e op f s) ∧ f s (s.eng e) w = (l, s)

theorem GivesM.of_issueM {s : State} {e w op : Nat} {c : Instr} {f : State → EngineRec → Nat → List Result × State} {l : List Result}
    (h : exec c s = done (issueM e op f s)) (hf : f s (s.eng e) w = (l, s)) : GivesM s e w c op l :=
  fun _ => ⟨f, h, hf⟩

section
variable {s : State} {e : Fin 512} {w : Nat} (hw : w = slotBits .m (bundle s e))
include hw

theorem nopM_gives : GivesM s e w (.nop e 2) 0 [] := by
  subst hw
  refine fun hop => ⟨fun s _ _ => ([], s), ?_, rfl⟩
  have hnop : issueNop e .m s = issueM e (slotOp .m (slotBits .m (bundle s e))) (fun s _ _ => ([], s)) s := by
    unfold issueNop slotNow
    exact guarded_true (by rw [hop]; rfl)
  rw [← hop, ← hnop]
  rfl

/-- The instructions of a table each leave their results in a legal slot that may issue, and nothing else changes. -/
theorem slotM_table {l : List (Nat × Instr × List Result)} (hcan : canIssue s e = true) (hfree : (s.eng e).issM = none)
    (hlegal : slotLegal .m w (s.eng e).pc (s.eng e).run = true) (h : ∀ z ∈ l, GivesM s e w z.2.1 z.1 z.2.2) :
    ∀ z ∈ l, slotOp .m w = z.1 → Completes z.2.1 s fun t =>
      (t.eng e).issM = some z.2.2 ∧ (t.eng e).issV = (s.eng e).issV ∧ (t.eng e).issC = (s.eng e).issC ∧ (t.eng e).pc = (s.eng e).pc ∧
      t.regs = s.regs ∧ t.mem = s.mem ∧ ∀ m : Nat, m ≠ e → t.eng m = s.eng m := by
  intro z hz hop
  obtain ⟨f, hexec, hf⟩ := h z hz hop
  rw [issueM_of_legal hw hcan hfree hlegal hop, hf] at hexec
  refine Completes.of_eq hexec ?_
  rw [eng_modEng_same]
  exact ⟨rfl, rfl, rfl, rfl, rfl, rfl, fun m hm => eng_modEng_ne s hm _⟩

end

/-- Settles O17: each load and store has its function in the model, and a slot that may issue puts that function's results behind the cycle. -/
theorem loadAndStoreSlotsGiveTheirResults : Obligations.LoadAndStoreSlotsGiveTheirResults := by
  unfold Obligations.LoadAndStoreSlotsGiveTheirResults
  rintro s e r w rfl hw hcan hfree hlegal p at_ post bytes err load rs store
  refine slotM_table hw hcan hfree hlegal ?_
  -- no upset meets the words of a vector load
  have hflip (a : Nat) : flipTouched .data e 8 a 64 [] s = s := flipTouched_nil ..
  simp only [List.forall_mem_cons, load, ← ofInt_eq_word32]
  exact ⟨nopM_gives hw, .of_issueM rfl rfl, .of_issueM rfl rfl, .of_issueM rfl rfl, .of_issueM rfl rfl, .of_issueM rfl rfl, .of_issueM rfl rfl,
    .of_issueM rfl rfl, .of_issueM rfl rfl, .of_issueM rfl (by dsimp only; rw [hflip]; rfl), .of_issueM rfl rfl, List.forall_mem_nil _⟩

end Sys2Proof.Machine
/-! ### Records of engines -/

namespace Sys2Proof.Machine
open Sys2Proof

@[simp] theorem sreg_setSreg_same (r : EngineRec) (b : Bool) (n : Nat) (v : Word) : (r.setSreg b n v).sreg b n = v := by
  cases b <;> exact sget_sset_self ..

@[simp] theorem crGet_crSet_same (r : EngineRec) (n : Nat) (v : Word) : (r.crSet n v).crGet n = v := sget_sset_self ..

theorem crGet_crSet_ne (r : EngineRec) {n m : Nat} (h : m ≠ n) (v : Word) : (r.crSet n v).crGet m = r.crGet m := sget_sset_ne _ _ _ _ h

section
variable (r : EngineRec) (b : Bool) (n : Nat) (v : Word)

/-! A write of a scalar register changes no other field of the record. -/

@[simp] theorem crGet_setSreg (m : Nat) : (r.setSreg b n v).crGet m = r.crGet m := by cases b <;> rfl
@[simp] theorem pc_setSreg : (r.setSreg b n v).pc = r.pc := by cases b <;> rfl
@[simp] theorem issC_setSreg : (r.setSreg b n v).issC = r.issC := by cases b <;> rfl
@[simp] theorem pend_setSreg : (r.setSreg b n v).pend = r.pend := by cases b <;> rfl
@[simp] theorem wq_setSreg : (r.setSreg b n v).wq = r.wq := by cases b <;> rfl
@[simp] theorem stopping_setSreg : (r.setSreg b n v).stopping = r.stopping := by cases b <;> rfl
@[simp] theorem doneWait_setSreg : (r.setSreg b n v).doneWait = r.doneWait := by cases b <;> rfl

end

/-! An update of an engine's record changes nothing else. -/

@[simp] theorem regs_setEng (s : State) (e : Nat) (r : EngineRec) : (s.setEng e r).regs = s.regs := rfl
@[simp] theorem clk_setEng (s : State) (e : Nat) (r : EngineRec) : (s.setEng e r).clk = s.clk := rfl
@[simp] theorem regs_modEng (s : State) (e : Nat) (f : EngineRec → EngineRec) : (s.modEng e f).regs = s.regs := rfl
@[simp] theorem clk_modEng (s : State) (e : Nat) (f : EngineRec → EngineRec) : (s.modEng e f).clk = s.clk := rfl

theorem eng_congr {s t : State} (h : t.tmb = s.tmb) (e : Nat) : t.eng e = s.eng e := by rw [State.eng, State.eng, h]

/-! ### The end of a cycle in which a bundle has issued (R172, R187) -/

theorem loopBack_of_inactive {r : EngineRec} {b : Bool} {l : List Nat} (h : ∀ n ∈ l, (r.loopLv b n).active = false) (a : Nat) :
    loopBack b a l r = (r, none) := by
  induction l with
  | nil => rfl
  | cons n l ih =>
    obtain ⟨hn, hl⟩ := List.forall_mem_cons.mp h
    unfold loopBack
    dsimp only
    rw [hn, Bool.false_and, if_neg Bool.false_ne_true, ih hl]

/-- Without a control transfer or an active loop the next bundle follows. -/
theorem flow_none {r : EngineRec} (hredir : r.redir = none) (hloops : ∀ l : Fin 4, (r.loopLv r.bank l).active = false) :
    flow .none r = { r with ctl := r.ctl - 1, pc := (r.pc + 1) % 1024 } := by
  have hback : loopBack r.bank r.pc [3, 2, 1, 0] { r with ctl := r.ctl - 1 } = ({ r with ctl := r.ctl - 1 }, none) :=
    loopBack_of_inactive (r := { r with ctl := r.ctl - 1 }) (List.forall_mem_cons.mpr ⟨hloops 3, List.forall_mem_cons.mpr ⟨hloops 2,
      List.forall_mem_cons.mpr ⟨hloops 1, List.forall_mem_singleton.mpr (hloops 0)⟩⟩⟩) r.pc
  unfold flow
  dsimp only
  rw [hback, hredir]
  rfl

/-- The only result in flight lands when it is due. -/
theorem advancePipe_due {s : State} {e : Nat} {a : ResAct} (h : (s.eng e).pend = [⟨1, a⟩]) :
    advancePipe e s = landResult e a (s.setEng e { s.eng e with pend := [] }) := by
  unfold advancePipe
  dsimp only
  rw [h]
  cases ha : clearsBits a <;> simp [ha]

theorem recognise_eq (r : EngineRec) : ∃ x, recognise r = { r with take := x } := by
  unfold recognise
  split
  · exact ⟨_, rfl⟩
  · exact ⟨r.take, rfl⟩

/-- What goes on at the end of a cycle beside the bundle, with no window request queued. -/
theorem cycleEnd_eq {r : EngineRec} (h : r.wq = []) (transfer : Bool) : ∃ st x halt,
    endHalt (if transfer then tickEngine r else recognise (tickEngine r)) =
      { r with stale := st, wq := [], take := x, stepping := false, halted := halt, haltAsked := false } := by
  have htick : ∃ st, tickEngine r = { r with stale := st, wq := [] } := by
    unfold tickEngine
    rw [h]
    exact ⟨_, rfl⟩
  obtain ⟨st, hst⟩ := htick
  obtain ⟨x, hx⟩ := recognise_eq (tickEngine r)
  rw [hx, hst]
  cases transfer
  · exact ⟨st, x, _, rfl⟩
  · exact ⟨st, r.take, _, rfl⟩

theorem settle_of_running {s : State} {e : Nat} (hstop : (s.eng e).stopping = false) (hdone : (s.eng e).doneWait = false) :
    settle e s = s := by
  unfold settle
  dsimp only
  rw [hstop, hdone]
  rfl

theorem nextEck_congr {s t : State} (hregs : t.regs = s.regs) (hclk : t.clk = s.clk) (e : Nat) : nextEck t e = nextEck s e := by
  have hreg (r : RegName) (i : Nat) : t.reg r i = s.reg r i := reg_congr hregs r i
  have hrd (f : Fld) (i : Nat) : t.rd f i = s.rd f i := rd_congr hregs f i
  unfold nextEck eckEdgeFrom divNow
  simp only [hreg, hrd, hclk]

/-- The record of an engine whose bundle has issued, with the bundle's results in flight and the address of the next bundle. -/
def cycled (r : EngineRec) : EngineRec :=
  { (countCycle r).intoFlight with replied := false, ctl := r.ctl - 1, pc := (r.pc + 1) % 1024 }

/-- That record once a scalar result of the bundle has landed, with no other result in flight. -/
def landedScalar (r : EngineRec) (b : Bool) (n : Nat) (v : Word) : EngineRec := EngineRec.setSreg { cycled r with pend := [] } b n v

theorem landedScalar_fields (r : EngineRec) (b : Bool) (n : Nat) (v : Word) :
    (landedScalar r b n v).sreg b n = v ∧ (landedScalar r b n v).pc = (r.pc + 1) % 1024 ∧ (landedScalar r b n v).issC = none ∧
    (landedScalar r b n v).pend = [] ∧ (landedScalar r b n v).crGet 9 = r.crGet 9 + 1 ∧ (landedScalar r b n v).wq = r.wq ∧
    (landedScalar r b n v).stopping = r.stopping ∧ (landedScalar r b n v).doneWait = r.doneWait := by
  unfold landedScalar
  rw [sreg_setSreg_same, pc_setSreg, issC_setSreg, pend_setSreg, crGet_setSreg, wq_setSreg, stopping_setSreg, doneWait_setSreg]
  exact ⟨rfl, rfl, rfl, rfl, crGet_crSet_same r 9 _, rfl, rfl, rfl⟩

section
variable {s : State} {e : Fin 512} {b : Bool} {n : Nat} {v : Word} (hstop : (s.eng e).stopping = false) (hdone : (s.eng e).doneWait = false)
  (hredir : (s.eng e).redir = none) (hpend : (s.eng e).pend = []) (hwq : (s.eng e).wq = []) (hM : (s.eng e).issM = some [])
  (hV : (s.eng e).issV = some []) (hC : (s.eng e).issC = some ([⟨1, .sreg b n v⟩], .none))
  (hloops : ∀ l : Fin 4, ((s.eng e).loopLv (s.eng e).bank l).active = false)
include hstop hdone hredir hpend hwq hM hV hC hloops

/-- The cycle of a bundle whose only result is a scalar of latency 1. -/
theorem issueCycle_scalar :
    (∃ st x halt, (issueCycle e s).eng e = { landedScalar (s.eng e) b n v with
      stale := st, wq := [], take := x, stepping := false, halted := halt, haltAsked := false }) ∧
    (issueCycle e s).regs = s.regs ∧ (issueCycle e s).clk = s.clk ∧ ∀ m : Nat, m ≠ e → (issueCycle e s).eng m = s.eng m := by
  have hflow : flow .none { (countCycle (s.eng e)).intoFlight with replied := false } = cycled (s.eng e) := flow_none hredir hloops
  have hflight : (cycled (s.eng e)).pend = [⟨1, .sreg b n v⟩] := by
    show (s.eng e).pend ++ (s.eng e).issued = _
    rw [EngineRec.issued, hpend, hM, hV, hC]
    rfl
  have hpipe : advancePipe e (s.setEng e (cycled (s.eng e))) =
      ((s.setEng e (cycled (s.eng e))).setEng e { cycled (s.eng e) with pend := [] }).modEng e (·.setSreg b n v) := by
    rw [advancePipe_due (a := .sreg b n v) (by rw [eng_setEng_same, hflight]), eng_setEng_same]
    rfl
  obtain ⟨-, -, -, -, -, hwq', hstop', hdone'⟩ := landedScalar_fields (s.eng e) b n v
  obtain ⟨st, x, halt, hend⟩ := cycleEnd_eq (hwq'.trans hwq) (inTransfer (s.eng e))
  have heng : (advancePipe e (s.setEng e (cycled (s.eng e)))).eng e = landedScalar (s.eng e) b n v := by
    rw [hpipe, eng_modEng_same, eng_setEng_same, landedScalar]
  have hsettle : issueCycle e s = (advancePipe e (s.setEng e (cycled (s.eng e)))).modEng e fun q =>
      endHalt (if inTransfer (s.eng e) then tickEngine q else recognise (tickEngine q)) := by
    unfold issueCycle
    dsimp only
    rw [hC]
    dsimp only [Option.map_some, Option.getD_some]
    rw [hflow]
    refine settle_of_running ?_ ?_ <;> rw [eng_modEng_same, heng, hend]
    · exact hstop'.trans hstop
    · exact hdone'.trans hdone
  rw [hsettle]
  refine ⟨⟨st, x, halt, by rw [eng_modEng_same, heng, hend]⟩, ?_⟩
  rw [hpipe]
  refine ⟨by simp only [regs_modEng, regs_setEng], by simp only [clk_modEng, clk_setEng], fun m hm => ?_⟩
  rw [eng_modEng_ne _ hm, eng_modEng_ne _ hm, eng_setEng_ne _ hm, eng_setEng_ne _ hm]

end

end Sys2Proof.Machine
/-! ### The commands of an engine's cycle (R167, R172, R190, R193, R217) -/

namespace Sys2Proof.Machine
open Sys2Proof

/-- The cycle of a running engine whose bundle has issued every slot. -/
theorem exec_resultLanding {s : State} {e : Fin 512} (hrun : (s.eng e).run = 1) (hclock : eckOn s e = true) (htake : (s.eng e).take = none)
    (hstop : (s.eng e).stopping = false) (hdone : (s.eng e).doneWait = false) (hhalt : (s.eng e).halted = false)
    (hbubble : (s.eng e).bubble = false) (hM : (s.eng e).issM.isSome = true) (hV : (s.eng e).issV.isSome = true)
    (hC : (s.eng e).issC.isSome = true) : exec (.resultLanding e) s = done (noteEck e (issueCycle e s)) := by
  have hslot : (s.eng e).noSlot = false := by rw [EngineRec.noSlot, ← Option.not_isSome, hM]; rfl
  have hcycle : runCycle e s = noteEck e (issueCycle e s) := by
    unfold runCycle
    dsimp only
    rw [hbubble, hslot, hM, hV, hC]
    rfl
  rw [show exec (.resultLanding e) s = execResultLanding e s from rfl, execResultLanding]
  rw [hrun, hclock, htake, hstop, hdone, hhalt, ← hcycle]
  rfl

theorem eventEntry_completes {s : State} {e : Fin 512} {a : Nat} (htake : (s.eng e).take = some a) (hclock : eckOn s e = true)
    (hhalt : (s.eng e).halted = false) (hstop : (s.eng e).stopping = false) :
    Completes (.eventEntry e) s fun t =>
      (t.eng e).run = 2 ∧ (t.eng e).bank = true ∧ (t.eng e).pc = ((s.eng e).crGet 3).toNat % 1024 ∧
      (t.eng e).crGet 4 = BitVec.ofNat 32 a ∧ (t.eng e).take = none ∧ t.regs = s.regs := by
  have hexec : exec (.eventEntry e) s = done (s.setEng e { (s.eng e).crSet 4 (BitVec.ofNat 32 a) with
      run := 2, bank := true, pc := ((s.eng e).crGet 3).toNat % 1024, bubble := true, take := none, redir := none, slots := 0, ctl := 0 }) := by
    rw [show exec (.eventEntry e) s = execEventEntry e s from rfl, execEventEntry]
    dsimp only
    rw [htake]
    dsimp only
    rw [guarded_true (by rw [hclock, hhalt, hstop]; rfl)]
  refine Completes.of_eq hexec ?_
  rw [eng_setEng_same]
  exact ⟨rfl, rfl, rfl, crGet_crSet_same .., rfl, rfl⟩

/-! #### Causes of an engine (R223) -/

theorem rd_raise (src : Nat) (s : State) {f : Fld} (hreg : f.reg ≠ .EVC_CSTAT) (i : Nat) : (raise src s).rd f i = s.rd f i :=
  (keeps_raise src s).rd f i (testBit_regMask (rs := [.EVC_CSTAT]) fun h => hreg (List.mem_singleton.mp h))

/-- A cause that is raised stands. -/
theorem flag_raiseCause_same {cause : Fld} (enable : Fld) (i src : Nat) (s : State) (hlo : cause.lo + cause.width ≤ 32) (hw : 0 < cause.width)
    (hreg : cause.reg ≠ .EVC_CSTAT) : (raiseCause cause enable i src s).flag cause i = true := by
  unfold raiseCause
  split
  · assumption
  · split
    · rw [State.flag, rd_raise _ _ hreg, rd_on_same _ _ _ hlo hw]
      rfl
    · exact flag_on_same _ _ _ hlo hw

theorem rd_raiseCause_other {cause f : Fld} (enable : Fld) {i j : Nat} (src : Nat) (s : State) (h : cause.apart f i j)
    (hreg : f.reg ≠ .EVC_CSTAT) : (raiseCause cause enable i src s).rd f j = s.rd f j := by
  unfold raiseCause
  split
  · rfl
  · split
    · rw [rd_raise _ _ hreg, rd_on_other _ _ _ _ _ h]
    · exact rd_on_other _ _ _ _ _ h

theorem eng_engineCause (e : Nat) (cause enable : Fld) (s : State) (m : Nat) : (engineCause e cause enable s).eng m = s.eng m :=
  eng_congr ((keeps_engineCause e cause enable s).part .tmb rfl) m

/-- An engine in no set that is faulted (R193). -/
theorem faultEngine_alone {s : State} {e : Nat} (hset : engineSet s e = none) :
    ((faultEngine e s).eng e).run = 4 ∧ ((faultEngine e s).eng e).cr = (s.eng e).cr ∧
    (faultEngine e s).flag F.TMB_EVCAUSE.FAULT e = true ∧ (faultEngine e s).flag F.TMB_EVCAUSE.MEMERR e = true := by
  unfold faultEngine
  dsimp only
  rw [hset]
  dsimp only
  rw [eng_engineCause, eng_engineCause, eng_setEng_same]
  refine ⟨rfl, rfl, flag_raiseCause_same _ _ _ _ (by decide) (by decide) (by decide), ?_⟩
  rw [State.flag, engineCause, rd_raiseCause_other _ _ _ (.inr (.inr (by decide))) (by decide)]
  exact flag_raiseCause_same _ _ _ _ (by decide) (by decide) (by decide)

theorem uncorrectableFetch_completes {s : State} {e : Fin 512} (hissuing : issuing s e = true) (hbubble : (s.eng e).bubble = false)
    (hslot : (s.eng e).noSlot = true) (hhold : (s.eng e).hold = 0) (hbad : fetchBad s e = true) (hset : engineSet s e = none) :
    Completes (.uncorrectableFetch e []) s fun t =>
      (t.eng e).run = 4 ∧ (t.eng e).crGet 4 = BitVec.ofNat 32 (s.eng e).pc ∧ t.flag F.TMB_EVCAUSE.FAULT e = true ∧
      t.flag F.TMB_EVCAUSE.MEMERR e = true := by
  have hexec : exec (.uncorrectableFetch e []) s = done (faultEngine e (s.modEng e fun r => r.crSet 4 (BitVec.ofNat 32 r.pc))) := by
    rw [show exec (.uncorrectableFetch e []) s = execUncorrectableFetch e [] s from rfl, execUncorrectableFetch,
      guarded_true (by rw [hissuing, hbubble, hslot, hhold]; rfl)]
    dsimp only [flipCode]
    rw [if_pos hbad]
  obtain ⟨hrun, hcr, hfault, hmem⟩ := faultEngine_alone (s := s.modEng e fun r => r.crSet 4 (BitVec.ofNat 32 r.pc)) hset
  refine Completes.of_eq hexec ⟨hrun, ?_, hfault, hmem⟩
  rw [EngineRec.crGet, hcr, eng_modEng_same]
  exact crGet_crSet_same ..

theorem timer_completes {s : State} {e : Fin 512} (hrun : (s.eng e).run = 1 ∨ (s.eng e).run = 2)
    (hcycle : (s.eng e).crGet 9 = (s.eng e).crGet 0x0A) :
    Completes (.timer e) s fun t => (t.eng e).crGet 1 = (s.eng e).crGet 1 ||| 8 ∧ t.regs = s.regs := by
  refine Completes.of_guarded (f := fun s => s.modEng e fun r => r.setEvt 8) rfl ?_ ?_
  · rw [hcycle, beq_self_eq_true, Bool.and_true]
    rcases hrun with h | h <;> rw [h] <;> rfl
  · rw [eng_modEng_same]
    exact ⟨crGet_crSet_same .., rfl⟩

/-! #### WRSP (R217) -/

theorem exec_wrsp {s : State} {e : Fin 512} (hrun : (s.eng e).run = 0) (v : Word) : exec (.wrsp e v) s = done (writeWrsp e v s) := by
  rw [show exec (.wrsp e v) s = done (crFromOutside e 0x19 v s) from rfl, crFromOutside, if_pos (.inl hrun)]
  rfl

theorem wrsp_answers {s : State} {e : Fin 512} {v : Word} {q : Req} {off : Nat} {l : List WinReq} (hrun : (s.eng e).run = 0)
    (hq : (s.eng e).wq = ⟨q, off, 0⟩ :: l) :
    Completes (.wrsp e v) s fun t =>
      (t.eng e).wq = l ∧
      (let a := getF v 6 10 * 64
       let d := dataLanes s e a 64
       t.net.resps = s.net.resps ++ [⟨q.dst, q.src, q.txn, q.tag, if dataBad s e a 64 then .poisoned d else .data d, q.intent⟩]) := by
  have hhead : (s.eng e).whead = some ⟨q, off, 0⟩ := by rw [EngineRec.whead, hq]; rfl
  have hwrite : writeWrsp e v s = respond q (if dataBad s e (getF v 6 10 * 64) 64 then .poisoned (dataLanes s e (getF v 6 10 * 64) 64)
      else .data (dataLanes s e (getF v 6 10 * 64) 64)) (s.setEng e { s.eng e with wq := l, replied := true }) := by
    unfold writeWrsp
    dsimp only
    rw [hhead, hq]
    rfl
  refine Completes.of_eq ((exec_wrsp hrun v).trans (congrArg done hwrite)) ⟨?_, (respond_net ..).2⟩
  rw [eng_congr ((keeps_respond ..).part .tmb rfl), eng_setEng_same]

theorem wrsp_strays {s : State} {e : Fin 512} {v : Word} (hrun : (s.eng e).run = 0) (hq : (s.eng e).whead = none) :
    Completes (.wrsp e v) s fun t => getF ((t.eng e).crGet 0x1A) 8 1 = 1 ∧ t.net = s.net := by
  have hwrite : writeWrsp e v s = s.setEng e ((s.eng e).crSet 0x1A (setF ((s.eng e).crGet 0x1A) 8 1 1)) := by
    unfold writeWrsp
    dsimp only
    rw [hq]
  refine Completes.of_eq ((exec_wrsp hrun v).trans (congrArg done hwrite)) ⟨?_, rfl⟩
  rw [eng_setEng_same, crGet_crSet_same, getF_setF_same _ _ _ _ (by decide)]
  rfl

/-- Settles O19: at the end of a bundle's cycle its one result is the only one due, and no loop or control transfer is in the way; the other
commands act on the engine's record and its causes. -/
theorem engineCyclesLandResultsAndEnterEvents : Obligations.EngineCyclesLandResultsAndEnterEvents := by
  unfold Obligations.EngineCyclesLandResultsAndEnterEvents
  refine ⟨?_, ?_, ?_, ?_, ?_, ?_⟩
  · rintro s e r b n v rfl hrun hclock htake hstop hdone hhalt hbubble hredir hpend hwq hM hV hC hloops
    obtain ⟨⟨st, x, halt, heng⟩, hregs, hclk, hothers⟩ := issueCycle_scalar hstop hdone hredir hpend hwq hM hV hC hloops
    obtain ⟨hv, hpc, hissC, hflight, hcyc, -⟩ := landedScalar_fields (s.eng e) b n v
    refine Completes.of_eq (exec_resultLanding hrun hclock htake hstop hdone hhalt hbubble (by rw [hM]; rfl) (by rw [hV]; rfl) (by rw [hC]; rfl)) ?_
    rw [show (noteEck e (issueCycle e s)).eng e = (issueCycle e s).eng e from rfl, heng]
    refine ⟨hv, hpc, hissC, hflight, hcyc, ?_, hregs, hothers⟩
    exact (sget_sset_self ..).trans (nextEck_congr hregs hclk e)
  · exact fun s e a htake hclock hhalt hstop => eventEntry_completes htake hclock hhalt hstop
  · exact fun s e hissuing hbubble hslot hhold hbad hset => uncorrectableFetch_completes hissuing hbubble hslot hhold hbad hset
  · exact fun s e hrun hcycle => timer_completes hrun hcycle
  · exact fun s e v q off l hrun hq => wrsp_answers hrun hq
  · exact fun s e v hrun hq => wrsp_strays hrun hq

end Sys2Proof.Machine
/-! ### Sets and their members (R198, R204–R206) -/

namespace Sys2Proof.Machine
open Sys2Proof

section
variable {f g : Fld} (h : f.reg ≠ g.reg ∨ f.lo + f.width ≤ g.lo ∨ g.lo + g.width ≤ f.lo) (s : State) (i v : Nat)
include h

/-! A write of a field and another field of the same copy. -/

theorem rd_wr_apart : (s.wr f i v).rd g i = s.rd g i := rd_wr_other _ _ _ _ _ _ (Fld.apart_of_places h _ _)

theorem flag_wr_apart : (s.wr f i v).flag g i = s.flag g i := flag_wr_other _ _ _ _ _ _ (Fld.apart_of_places h _ _)

end

/-- The set of an engine stands while its registers do. -/
theorem Keeps.engineSet {R P : Nat} {s t : State} (h : Keeps R P s t) (hcfg : R.testBit RegName.TMB_CFG.ctorIdx = false)
    (hset : R.testBit RegName.TMB_SET_CFG.ctorIdx = false) (e : Nat) : Machine.engineSet t e = Machine.engineSet s e := by
  unfold Machine.engineSet
  rw [h.flag F.TMB_CFG.VALID e hcfg, h.rd F.TMB_CFG.SET e hcfg, h.flag F.TMB_SET_CFG.VALID _ hset]

theorem closeLinks_of_alone {e : Nat} {old : State} (h : engineSet old e = none) (s : State) : closeLinks e old s = s := by
  have hlink (d : Nat) : openLink old e d = none := by
    unfold openLink
    split
    · rw [h]; rfl
    · rfl
  simp only [closeLinks, hlink, List.foldl_fixed]

/-- Engine e written as a member of set k. -/
def joined (e k : Nat) (s : State) : State := (s.wr F.TMB_CFG.SET e k).wr F.TMB_CFG.VALID e 1

theorem rd_joined {e k i : Nat} {s : State} {f : Fld} (h : f.reg ≠ .TMB_CFG) : (joined e k s).rd f i = s.rd f i := by
  rw [joined, rd_wr_other _ _ _ _ _ _ (.inl h.symm), rd_wr_other _ _ _ _ _ _ (.inl h.symm)]

theorem engineSet_joined {e k : Nat} {s : State} (hk : k < 2 ^ F.TMB_CFG.SET.width) (hvalid : s.flag F.TMB_SET_CFG.VALID k = true) :
    engineSet (joined e k s) e = some k := by
  have hset : (joined e k s).rd F.TMB_CFG.SET e = k := by
    rw [joined, rd_wr_other _ _ _ _ _ _ (Fld.apart_of_places (by decide) _ _), rd_wr_same _ _ _ _ (by decide), Nat.mod_eq_of_lt hk]
  have hmember : (joined e k s).flag F.TMB_CFG.VALID e = true := by
    rw [State.flag, joined, rd_wr_same _ _ _ _ (by decide)]
    rfl
  have hset' : (joined e k s).flag F.TMB_SET_CFG.VALID k = true := by
    rw [State.flag, rd_joined (by decide)]
    exact hvalid
  unfold engineSet
  rw [hmember, hset, hset']
  rfl

/-- A cleared engine's data memory reads 0 (R206). -/
theorem memCode_clearEngine (e : Nat) (s : State) {w : Nat} (hw : w < 8192) : memCode (clearEngine e s) .data e w = 0 := by
  have hkey : (instKey .data e * 8192 + w) / 8192 = instKey .data e := by omega
  have hkeys : instKey .data e ≠ instKey .prog e := by simp [instKey, kindCode]
  have hcode : sget none (clearEngine e s).mem.code (instKey .data e * 8192 + w) = none :=
    sget_filter_of_neg _ _ _ _ fun v => by simp [hkey]
  have hzero : zeroFilled (clearEngine e s) .data e = true := by
    show sget false (sset false (sset false _ _ true) _ true) (instKey .data e) = true
    rw [sget_sset_ne _ _ _ _ hkeys, sget_sset_self]
  unfold memCode
  rw [hcode, hzero]
  rfl

theorem eng_clearEngine (e : Nat) (s : State) : (clearEngine e s).eng e = { EngineRec.idle with wq := (s.eng e).wq } := eng_setEng_same ..

theorem tmbCfgWrite_joins {s : State} {e : Fin 512} {v : Word} {k : Nat} (hk : k = F.TMB_CFG.SET.of v) (hv : F.TMB_CFG.VALID.of v = 1)
    (hidle : (s.eng e).run = 0) (hfree : engineSet s e = none) (hvalid : s.flag F.TMB_SET_CFG.VALID k = true)
    (hrun : s.flag F.TMB_SET_JSTAT.RUNNING k = false) (htested : s.flag F.TMB_STAT.TESTED e = true)
    (hretired : s.flag F.TMB_STAT.RETIRED e = false) (hclearing : s.flag F.TMB_STAT.CLEARING e = false)
    (hleaf : ∀ f ∈ tmbMembers s k, f / 128 = e.val / 128) :
    Completes (.tmbCfgWrite e v) s fun t =>
      engineSet t e = some k ∧ t.flag F.TMB_STAT.REJECT e = s.flag F.TMB_STAT.REJECT e ∧ t.flag F.TMB_STAT.CLEARING e = true ∧
      (t.eng e).prim = .zero ∧ (t.eng e).cr = [] ∧ ∀ w : Nat, w < 8192 → memCode t .data e w = 0 := by
  have hlt : k < 2 ^ F.TMB_CFG.SET.width := hk ▸ getF_lt ..
  have hleaves : (tmbMembers s k).any (fun f => f != e.val && f / 128 != e.val / 128) = false :=
    List.any_eq_false.mpr fun f hf => by rw [hleaf f hf, bne_self_eq_false, Bool.and_false]; exact Bool.false_ne_true
  have hallowed : cfgRefused s e k true = false := by
    unfold cfgRefused isIdle jobRuns
    rw [hidle, hfree, hrun, htested, hretired, hclearing, hvalid, hleaves]
    rfl
  have hset : engineSet (joined e k s) e = some k := engineSet_joined hlt hvalid
  have htag : engineTenant (joined e k s) e ≠ engineTenant s e := by
    rw [engineTenant, engineTenant, hset, hfree]
    exact nofun
  have hwrite : tmbCfgWrite e v s = (clearEngine e (joined e k s)).on F.TMB_STAT.CLEARING e := by
    unfold tmbCfgWrite
    dsimp only
    rw [hv, ← hk, beq_self_eq_true, hallowed, if_neg Bool.false_ne_true, closeLinks_of_alone hfree]
    exact if_neg htag
  refine Completes.of_eq (congrArg done hwrite) ⟨?_, ?_, flag_on_same _ _ _ (by decide) (by decide), ?_, ?_, fun w hw => ?_⟩
  · rw [(keeps_on ..).engineSet rfl rfl, (keeps_clearEngine ..).engineSet rfl rfl, hset]
  · rw [flag_on_other _ _ _ _ _ (Fld.apart_of_places (by decide) _ _), (keeps_clearEngine ..).flag _ _ rfl, State.flag, rd_joined (by decide),
      State.flag]
  · exact congrArg EngineRec.prim (eng_clearEngine ..)
  · exact congrArg EngineRec.cr (eng_clearEngine ..)
  · exact memCode_clearEngine e (joined e k s) hw

theorem tmbCfgWrite_refused {s : State} {e : Fin 512} (v : Word) (hrun : (s.eng e).run ≠ 0) :
    Completes (.tmbCfgWrite e v) s fun t =>
      t.flag F.TMB_STAT.REJECT e = true ∧ t.reg .TMB_CFG e = s.reg .TMB_CFG e ∧ t.tmb = s.tmb := by
  have hrefused : cfgRefused s e (F.TMB_CFG.SET.of v) (F.TMB_CFG.VALID.of v == 1) = true := by
    unfold cfgRefused isIdle
    rw [beq_eq_false_iff_ne.mpr hrun]
    rfl
  refine Completes.of_eq (t := s.on F.TMB_STAT.REJECT e) (congrArg done (if_pos hrefused)) ⟨flag_on_same _ _ _ (by decide) (by decide), ?_, rfl⟩
  exact (keeps_on ..).reg _ _ rfl

theorem clearingEnd_completes {s : State} {e : Fin 512} (h : s.flag F.TMB_STAT.CLEARING e = true) :
    Completes (.clearingEnd e) s fun t => t.flag F.TMB_STAT.CLEARING e = false ∧ t.tmb = s.tmb ∧ t.mem = s.mem :=
  Completes.of_guarded (f := fun s => s.off F.TMB_STAT.CLEARING e) rfl h ⟨flag_off_same _ _ _ (by decide), rfl, rfl⟩

/-! #### A write of TMB_SETs_CFG (R204, R205) -/

section
variable {s : State} {k : Fin 64} {v : Word}

/-- REJECT cleared where the write asks for it (R224). -/
def rejectCleared (k : Nat) (v : Word) (s : State) : State :=
  if F.TMB_SET_CFG.REJECT.of v = 1 then s.off F.TMB_SET_CFG.REJECT k else s

theorem rejectCleared_frame (k : Nat) (v : Word) (s : State) : (rejectCleared k v s).tmb = s.tmb ∧ (rejectCleared k v s).mem = s.mem ∧
    (rejectCleared k v s).rd F.TMB_SET_CFG.TENANT k = s.rd F.TMB_SET_CFG.TENANT k := by
  unfold rejectCleared
  split
  · exact ⟨rfl, rfl, rd_off_other _ _ _ _ _ (Fld.apart_of_places (by decide) _ _)⟩
  · exact ⟨rfl, rfl, rfl⟩

/-- An empty set without a job takes every field. -/
theorem setCfgWrite_empty (hempty : tmbMembers s k = []) (hrun : s.flag F.TMB_SET_JSTAT.RUNNING k = false) :
    Completes (.setCfgWrite k v) s fun t =>
      t.rd F.TMB_SET_CFG.TENANT k = F.TMB_SET_CFG.TENANT.of v ∧ t.rd F.TMB_SET_CFG.VALID k = F.TMB_SET_CFG.VALID.of v ∧
      t.rd F.TMB_SET_CFG.WINDOW k = F.TMB_SET_CFG.WINDOW.of v ∧ t.tmb = s.tmb ∧ t.mem = s.mem := by
  have hallowed : retenantRefused s k = false := by
    unfold retenantRefused jobRuns
    rw [hrun, hempty]
    rfl
  have hwrite : setCfgWrite k v s = (((rejectCleared k v s).wr F.TMB_SET_CFG.TENANT k (F.TMB_SET_CFG.TENANT.of v)).wr
      F.TMB_SET_CFG.VALID k (F.TMB_SET_CFG.VALID.of v)).wr F.TMB_SET_CFG.WINDOW k (F.TMB_SET_CFG.WINDOW.of v) := by
    unfold setCfgWrite
    simp [hallowed, hempty, jobRuns, hrun, rejectCleared]
  obtain ⟨htmb, hmem, -⟩ := rejectCleared_frame k v s
  refine Completes.of_eq (congrArg done hwrite) ⟨?_, ?_, (rd_wr_same _ _ _ _ (by decide)).trans (of_mod _ v), htmb, hmem⟩
  · rw [rd_wr_apart (by decide), rd_wr_apart (by decide)]
    exact (rd_wr_same _ _ _ _ (by decide)).trans (of_mod _ v)
  · rw [rd_wr_apart (by decide)]
    exact (rd_wr_same _ _ _ _ (by decide)).trans (of_mod _ v)

/-- While its job runs a set keeps its tenant. -/
theorem setCfgWrite_refused (hrun : s.flag F.TMB_SET_JSTAT.RUNNING k = true) (htenant : F.TMB_SET_CFG.TENANT.of v ≠ s.rd F.TMB_SET_CFG.TENANT k) :
    Completes (.setCfgWrite k v) s fun t =>
      t.flag F.TMB_SET_CFG.REJECT k = true ∧ t.rd F.TMB_SET_CFG.TENANT k = s.rd F.TMB_SET_CFG.TENANT k ∧ t.tmb = s.tmb := by
  have hrefused : retenantRefused s k = true := by rw [retenantRefused, jobRuns, hrun]; rfl
  have hwrite : setCfgWrite k v s = (rejectCleared k v s).on F.TMB_SET_CFG.REJECT k := if_pos ⟨htenant, hrefused⟩
  obtain ⟨htmb, -, hkept⟩ := rejectCleared_frame k v s
  refine Completes.of_eq (congrArg done hwrite) ⟨flag_on_same _ _ _ (by decide) (by decide), ?_, htmb⟩
  exact (rd_on_other _ _ _ _ _ (Fld.apart_of_places (by decide) _ _)).trans hkept

end

/-! #### Self-tests (R221, R222) -/

section
variable {s : State} {e : Fin 512}

/-- A self-test or a restore starts: the engine is busy with it. -/
theorem startTest_effect (e : Nat) (restore : Bool) (s : State) : (startTest e restore s).flag F.TMB_STAT.TBUSY e = true ∧
    ((startTest e restore s).eng e).restoring = restore ∧ (startTest e restore s).mem = s.mem :=
  ⟨flag_on_same _ _ _ (by decide) (by decide), congrArg EngineRec.restoring (eng_modEng_same s e fun r => { r with restoring := restore }), rfl⟩

section
variable (hbusy : s.flag F.TMB_STAT.TBUSY e = false) (hclearing : s.flag F.TMB_STAT.CLEARING e = false)
  (hon : domOn s (engineDom e) = true) (hidle : (s.eng e).run = 0)
include hbusy hclearing hon hidle

theorem selfTest_completes (hfree : engineSet s e = none) :
    Completes (.engineSelfTest e) s fun t => t.flag F.TMB_STAT.TBUSY e = true ∧ (t.eng e).restoring = false ∧ t.mem = s.mem := by
  refine Completes.of_guarded (f := startTest e false) rfl ?_ (startTest_effect ..)
  rw [testBlocked, hbusy, hclearing, hon, isIdle, hidle, inJob, hfree]
  rfl

theorem restore_completes (hretired : s.flag F.TMB_STAT.RETIRED e = true) (hfree : engineSet s e = none) :
    Completes (.engineRestore e) s fun t => t.flag F.TMB_STAT.TBUSY e = true ∧ (t.eng e).restoring = true ∧ t.mem = s.mem := by
  refine Completes.of_guarded (f := startTest e true) rfl ?_ (startTest_effect ..)
  rw [testBlocked, hbusy, hclearing, hon, isIdle, hidle, hretired, hfree]
  rfl

end

end

/-- What a retirement does after its registers are written: it stops the engine and its job, answers its queue and raises its cause (R220). -/
theorem keeps_retirement {s : State} {e : Nat} (cause : Nat) (h : s.flag F.TMB_STAT.RETIRED e = false) :
    Keeps (regMask [.KRV_ELOG0, .KRV_ELOG1, .KRV_ELOG2, .TMB_EVCAUSE, .EVC_CSTAT]) (partMask [.freeCtr, .evc, .net, .tmb])
      ((s.on F.TMB_STAT.RETIRED e).wr F.TMB_STAT.RCAUSE e cause) (retireEngine e cause s) := by
  unfold retireEngine
  rw [h, if_neg Bool.false_ne_true]
  refine (keeps_engineCause ..).after rfl rfl ((keeps_modEng ..).after rfl rfl ?_)
  split
  · exact (keeps_stopEngine ..).mono rfl rfl
  · split
    · refine (keeps_checkDone ..).after rfl rfl (Keeps.andThen (Keeps.foldl fun t q => (keeps_respond ..).mono rfl rfl) ?_)
      exact (keeps_modEng ..).after rfl rfl ((keeps_stopEngine ..).mono rfl rfl)
    · split
      · exact (keeps_stopMembers ..).after rfl rfl ((keeps_endCode ..).mono rfl rfl)
      · exact (keeps_stopEngine ..).mono rfl rfl

theorem retireEngine_effect (e : Nat) {cause : Nat} (hcause : cause < 2 ^ F.TMB_STAT.RCAUSE.width) (s : State) :
    (retireEngine e cause s).flag F.TMB_STAT.RETIRED e = true ∧
    (s.flag F.TMB_STAT.RETIRED e = false → (retireEngine e cause s).rd F.TMB_STAT.RCAUSE e = cause) ∧
    (retireEngine e cause s).flag F.TMB_STAT.TBUSY e = s.flag F.TMB_STAT.TBUSY e ∧
    (retireEngine e cause s).rd F.TMB_TSIG.SIG e = s.rd F.TMB_TSIG.SIG e := by
  cases h : s.flag F.TMB_STAT.RETIRED e with
  | true =>
    have hsame : retireEngine e cause s = s := if_pos h
    rw [hsame]
    exact ⟨h, nofun, rfl, rfl⟩
  | false =>
    have hkeeps := keeps_retirement cause h
    rw [hkeeps.flag _ _ rfl, hkeeps.rd _ _ rfl, hkeeps.flag _ _ rfl, hkeeps.rd _ _ rfl]
    refine ⟨?_, fun _ => ?_, ?_, ?_⟩
    · rw [flag_wr_other _ _ _ _ _ _ (Fld.apart_of_places (by decide) _ _), flag_on_same _ _ _ (by decide) (by decide)]
    · rw [rd_wr_same _ _ _ _ (by decide), Nat.mod_eq_of_lt hcause]
    · rw [flag_wr_other _ _ _ _ _ _ (Fld.apart_of_places (by decide) _ _), flag_on_other _ _ _ _ _ (Fld.apart_of_places (by decide) _ _)]
    · rw [rd_wr_other _ _ _ _ _ _ (.inl (by decide)), rd_on_other _ _ _ _ _ (.inl (by decide))]

/-- The end of a self-test: the engine's record, TBUSY and the signature. -/
def signed (e : Nat) (sig : Word) (s : State) : State :=
  ((s.setEng e { EngineRec.idle with wq := (s.eng e).wq }).off F.TMB_STAT.TBUSY e).wr F.TMB_TSIG.SIG e sig.toNat

theorem signed_fields (e : Nat) (sig : Word) (s : State) : (signed e sig s).flag F.TMB_STAT.TBUSY e = false ∧
    (signed e sig s).rd F.TMB_TSIG.SIG e = sig.toNat ∧
    (signed e sig s).flag F.TMB_STAT.RETIRED e = s.flag F.TMB_STAT.RETIRED e := by
  unfold signed
  refine ⟨?_, ?_, ?_⟩
  · rw [flag_wr_other _ _ _ _ _ _ (.inl (by decide)), flag_off_same _ _ _ (by decide)]
  · rw [rd_wr_same _ _ _ _ (by decide)]
    exact Nat.mod_eq_of_lt sig.isLt
  · rw [flag_wr_other _ _ _ _ _ _ (.inl (by decide)), flag_off_other _ _ _ _ _ (Fld.apart_of_places (by decide) _ _)]
    rfl

theorem rd_engineCause_reg (e : Nat) {cause f : Fld} (enable : Fld) (s : State) (i : Nat) (h : cause.reg ≠ f.reg) (hreg : f.reg ≠ .EVC_CSTAT) :
    (engineCause e cause enable s).rd f i = s.rd f i := rd_raiseCause_other _ _ _ (.inl h) hreg

theorem flag_engineCause_reg (e : Nat) {cause f : Fld} (enable : Fld) (s : State) (i : Nat) (h : cause.reg ≠ f.reg) (hreg : f.reg ≠ .EVC_CSTAT) :
    (engineCause e cause enable s).flag f i = s.flag f i := by rw [State.flag, rd_engineCause_reg _ _ _ _ h hreg, State.flag]

/-- A test that passes: TESTED, and a restore takes a usable engine back (R221, R222). -/
def passed (e : Nat) (back : Bool) (s : State) : State :=
  let t := s.on F.TMB_STAT.TESTED e
  if back then (t.off F.TMB_STAT.RETIRED e).wr F.TMB_STAT.RCAUSE e 0 else t

theorem passed_fields (e : Nat) (back : Bool) (s : State) :
    (passed e back s).flag F.TMB_STAT.TESTED e = true ∧ (passed e back s).flag F.TMB_STAT.TBUSY e = s.flag F.TMB_STAT.TBUSY e ∧
    (passed e back s).rd F.TMB_TSIG.SIG e = s.rd F.TMB_TSIG.SIG e ∧
    (passed e back s).flag F.TMB_STAT.RETIRED e = if back then false else s.flag F.TMB_STAT.RETIRED e := by
  cases back with
  | false =>
    exact ⟨flag_on_same _ _ _ (by decide) (by decide), flag_wr_apart (by decide) s e 1, rd_wr_apart (by decide) s e 1,
      flag_wr_apart (by decide) s e 1⟩
  | true =>
    have hback : passed e true s = ((s.wr F.TMB_STAT.TESTED e 1).wr F.TMB_STAT.RETIRED e 0).wr F.TMB_STAT.RCAUSE e 0 := rfl
    rw [hback]
    refine ⟨?_, ?_, ?_, ?_⟩
    · rw [flag_wr_apart (by decide), flag_wr_apart (by decide)]
      exact flag_on_same _ _ _ (by decide) (by decide)
    · rw [flag_wr_apart (by decide), flag_wr_apart (by decide), flag_wr_apart (by decide)]
    · rw [rd_wr_apart (by decide), rd_wr_apart (by decide), rd_wr_apart (by decide)]
    · rw [flag_wr_apart (by decide)]
      exact flag_off_same _ _ _ (by decide)

section
variable {s : State} {e : Fin 512} (hbusy : s.flag F.TMB_STAT.TBUSY e = true)
include hbusy

theorem exec_selfTestDone (sig : Word) : exec (.engineSelfTestDone e sig) s = done (engineCause e F.TMB_EVCAUSE.TESTDONE F.TMB_EVEN.TESTDONE
    (if sig == Config.engineSignature then
      passed e ((s.eng e).restoring && s.flag F.MEM_TMB.USABLE e && !s.flag F.MEM_TMB.PROG_PERM e) (signed e sig s)
    else retireEngine e 1 (signed e sig s))) := congrArg done (guarded_true hbusy)

theorem selfTestDone_passes :
    Completes (.engineSelfTestDone e Config.engineSignature) s fun t =>
      t.flag F.TMB_STAT.TBUSY e = false ∧ t.flag F.TMB_STAT.TESTED e = true ∧ t.rd F.TMB_TSIG.SIG e = Config.engineSignature.toNat ∧
      (t.flag F.TMB_STAT.RETIRED e = if (s.eng e).restoring = true ∧ s.flag F.MEM_TMB.USABLE e = true ∧
        s.flag F.MEM_TMB.PROG_PERM e = false then false else s.flag F.TMB_STAT.RETIRED e) ∧
      t.flag F.TMB_EVCAUSE.TESTDONE e = true := by
  refine Completes.of_eq (exec_selfTestDone hbusy _) ?_
  rw [if_pos (beq_self_eq_true _), flag_engineCause_reg _ _ _ _ (by decide) (by decide), flag_engineCause_reg _ _ _ _ (by decide) (by decide),
    rd_engineCause_reg _ _ _ _ (by decide) (by decide), flag_engineCause_reg _ _ _ _ (by decide) (by decide)]
  obtain ⟨hfree, hsig, hretired⟩ := signed_fields e Config.engineSignature s
  obtain ⟨htested, hbusy', hsig', hretired'⟩ := passed_fields e
    ((s.eng e).restoring && s.flag F.MEM_TMB.USABLE e && !s.flag F.MEM_TMB.PROG_PERM e) (signed e Config.engineSignature s)
  refine ⟨hbusy'.trans hfree, htested, hsig'.trans hsig, ?_, flag_raiseCause_same _ _ _ _ (by decide) (by decide) (by decide)⟩
  rw [hretired', hretired]
  exact if_congr (by rw [Bool.and_eq_true, Bool.and_eq_true, Bool.not_eq_true', and_assoc]) rfl rfl

theorem selfTestDone_fails {sig : Word} (hsig : sig ≠ Config.engineSignature) :
    Completes (.engineSelfTestDone e sig) s fun t =>
      t.flag F.TMB_STAT.TBUSY e = false ∧ t.flag F.TMB_STAT.RETIRED e = true ∧ t.rd F.TMB_TSIG.SIG e = sig.toNat ∧
      (s.flag F.TMB_STAT.RETIRED e = false → t.rd F.TMB_STAT.RCAUSE e = 1) := by
  refine Completes.of_eq (exec_selfTestDone hbusy _) ?_
  rw [if_neg (mt eq_of_beq hsig), flag_engineCause_reg _ _ _ _ (by decide) (by decide), flag_engineCause_reg _ _ _ _ (by decide) (by decide),
    rd_engineCause_reg _ _ _ _ (by decide) (by decide), rd_engineCause_reg _ _ _ _ (by decide) (by decide)]
  obtain ⟨hfree, hsigned, hretired⟩ := signed_fields e sig s
  obtain ⟨hretired', hcause, hbusy', hsig'⟩ := retireEngine_effect e (cause := 1) (by decide) (signed e sig s)
  exact ⟨hbusy'.trans hfree, hretired', hsig'.trans hsigned, fun h => hcause (hretired.trans h)⟩

end

/-- Settles O20: the conditions of R205 hold or fail by the hypotheses, and what a write, a clearing or a test then leaves is read field by
field. -/
theorem setsTakeTheirEnginesAndTestsRun : Obligations.SetsTakeTheirEnginesAndTestsRun := by
  unfold Obligations.SetsTakeTheirEnginesAndTestsRun
  refine ⟨?_, ?_, ?_, ?_, ?_, ?_, ?_, ?_, ?_⟩
  · exact fun s e v k hk hv hidle hfree hvalid hrun htested hretired hclearing hleaf =>
      tmbCfgWrite_joins hk hv hidle hfree hvalid hrun htested hretired hclearing hleaf
  · exact fun s e v hrun => tmbCfgWrite_refused v hrun
  · exact fun s k v hempty hrun => setCfgWrite_empty hempty hrun
  · exact fun s k v hrun htenant => setCfgWrite_refused hrun htenant
  · exact fun s e h => clearingEnd_completes h
  · exact fun s e hbusy hclearing hon hidle hfree => selfTest_completes hbusy hclearing hon hidle hfree
  · exact fun s e hbusy hclearing hon hidle hretired hfree => restore_completes hbusy hclearing hon hidle hretired hfree
  · exact fun s e hbusy => selfTestDone_passes hbusy
  · exact fun s e sig hbusy hsig => selfTestDone_fails hbusy hsig

end Sys2Proof.Machine
/-! ### Stop requests (R194, R213) -/

namespace Sys2Proof.Machine
open Sys2Proof

/-! #### The members of a set -/

theorem Keeps.tmbMembers {R P : Nat} {s t : State} (h : Keeps R P s t) (hcfg : R.testBit RegName.TMB_CFG.ctorIdx = false) (k : Nat) :
    Machine.tmbMembers t k = Machine.tmbMembers s k := by
  have hflag (e : Nat) : t.flag F.TMB_CFG.VALID e = s.flag F.TMB_CFG.VALID e := h.flag _ _ hcfg
  have hrd (e : Nat) : t.rd F.TMB_CFG.SET e = s.rd F.TMB_CFG.SET e := h.rd _ _ hcfg
  unfold Machine.tmbMembers
  simp only [hflag, hrd]

theorem Keeps.liveMembers {R P : Nat} {s t : State} (h : Keeps R P s t) (hcfg : R.testBit RegName.TMB_CFG.ctorIdx = false)
    (hset : R.testBit RegName.TMB_SET_CFG.ctorIdx = false) (hstat : R.testBit RegName.TMB_STAT.ctorIdx = false) (k : Nat) :
    Machine.liveMembers t k = Machine.liveMembers s k := by
  have hflag (e : Nat) : t.flag F.TMB_STAT.RETIRED e = s.flag F.TMB_STAT.RETIRED e := h.flag _ _ hstat
  unfold Machine.liveMembers
  simp only [h.engineSet hcfg hset, hflag]

theorem liveMembers_nodup (s : State) (k : Nat) : (liveMembers s k).Nodup := List.nodup_range.filter _

/-! A write of a register, of an engine's record or of a job's leaves the others as they are. -/

@[simp] theorem eng_on (s : State) (f : Fld) (i e : Nat) : (s.on f i).eng e = s.eng e := rfl
@[simp] theorem job_on (s : State) (f : Fld) (i k : Nat) : (s.on f i).job k = s.job k := rfl
@[simp] theorem job_modEng (s : State) (e : Nat) (f : EngineRec → EngineRec) (k : Nat) : (s.modEng e f).job k = s.job k := rfl
@[simp] theorem rd_setJob (s : State) (k : Nat) (r : JobRec) (f : Fld) (i : Nat) : (s.setJob k r).rd f i = s.rd f i := rfl
@[simp] theorem flag_setJob (s : State) (k : Nat) (r : JobRec) (f : Fld) (i : Nat) : (s.setJob k r).flag f i = s.flag f i := rfl

@[simp] theorem job_setJob_same (s : State) (k : Nat) (r : JobRec) : (s.setJob k r).job k = r := sget_sset_self ..

theorem job_setJob_ne (s : State) {k j : Nat} (h : j ≠ k) (r : JobRec) : (s.setJob k r).job j = s.job j := sget_sset_ne _ _ _ _ h

/-! #### What a stop request makes of an engine -/

/-- The record of an engine that stops issuing. -/
def stopIssue (r : EngineRec) : EngineRec := { r.intoFlight with stopping := true, haltAsked := false }

/-- The record of an engine that has got a stop request: an Idle engine ignores it, a halted one records it, another stops issuing and is Idle where
it has nothing to wait for. -/
def stopRecord (r : EngineRec) : EngineRec :=
  if r.run = 0 then r
  else if r.halted then { r with stopping := true }
  else if r.pend = [] ∧ r.issued = [] ∧ r.ops = [] then goIdle (stopIssue r)
  else stopIssue r

/-- The engine is Idle, or is to stop. -/
def Stopped (r : EngineRec) : Prop := r.run = 0 ∨ r.stopping = true

theorem stopRecord_stopped (r : EngineRec) : Stopped (stopRecord r) := by
  unfold stopRecord
  split
  · next h => exact .inl h
  · split
    · exact .inr rfl
    · split
      · exact .inl rfl
      · exact .inr rfl

/-- An engine that a stop request ends has not ended by DONE. -/
theorem stopRecord_byDone {r : EngineRec} (h : r.byDone = false) : (stopRecord r).byDone = false := by
  unfold stopRecord
  split
  · exact h
  · split
    · exact h
    · split
      · exact Bool.and_false _
      · exact h

theorem eng_endCode (k code : Nat) (s : State) (m : Nat) : (endCode k code s).eng m = s.eng m := by
  unfold endCode
  dsimp only
  split <;> rfl

theorem eng_checkDone (k : Nat) (s : State) (m : Nat) : (checkDone k s).eng m = s.eng m := by
  unfold checkDone
  dsimp only
  split
  · exact eng_endCode ..
  · rfl

theorem regs_endCode (k code : Nat) (s : State) : (endCode k code s).regs = s.regs := by
  unfold endCode
  dsimp only
  split <;> rfl

theorem regs_checkDone (k : Nat) (s : State) : (checkDone k s).regs = s.regs := by
  unfold checkDone
  dsimp only
  split
  · exact regs_endCode ..
  · rfl

theorem job_endCode_ne {j k : Nat} (h : k ≠ j) (code : Nat) (s : State) : (endCode j code s).job k = s.job k := by
  unfold endCode
  dsimp only
  split
  · exact job_setJob_ne _ h _
  · rfl

/-- Engine e is a live member of set k that has not ended by DONE. -/
def Unfinished (k e : Nat) (s : State) : Prop := e ∈ liveMembers s k ∧ (s.eng e).byDone = false

/-- A set with such a member has no job ended by DONE. -/
theorem job_checkDone {k e : Nat} {s : State} (h : Unfinished k e s) (j : Nat) : (checkDone j s).job k = s.job k := by
  obtain ⟨he, hdone⟩ := h
  by_cases hj : j = k
  · subst hj
    have hall : (liveMembers s j).all (fun e => (s.eng e).run == 0 && (s.eng e).byDone && eckOn s e) = false :=
      List.all_eq_false.mpr ⟨e, he, by rw [hdone, Bool.and_false, Bool.false_and]; exact Bool.false_ne_true⟩
    unfold checkDone
    dsimp only
    rw [hall, Bool.and_false, if_neg Bool.false_ne_true]
  · unfold checkDone
    dsimp only
    split
    · exact job_endCode_ne (Ne.symm hj) _ _
    · rfl

/-- Engine e becomes Idle, and its set sees it. -/
def seenIdle (e : Nat) (s : State) : State :=
  match engineSet s e with
  | some k => checkDone k (s.setEng e (goIdle (s.eng e)))
  | none => s.setEng e (goIdle (s.eng e))

theorem eng_seenIdle (e : Nat) (s : State) (m : Nat) : (seenIdle e s).eng m = (s.setEng e (goIdle (s.eng e))).eng m := by
  unfold seenIdle
  split
  · exact eng_checkDone ..
  · rfl

theorem regs_seenIdle (e : Nat) (s : State) : (seenIdle e s).regs = s.regs := by
  unfold seenIdle
  split
  · exact regs_checkDone ..
  · rfl

theorem job_seenIdle {k m e : Nat} {s : State} (h : Unfinished k m (s.setEng e (goIdle (s.eng e)))) : (seenIdle e s).job k = s.job k := by
  unfold seenIdle
  split
  · exact job_checkDone h _
  · rfl

/-- An engine that stops issuing is Idle where nothing is in flight and no operation outstanding (R194). -/
theorem settle_stopIssue {e : Nat} {s : State} (hhalt : (s.eng e).halted = false) :
    settle e (s.setEng e (stopIssue (s.eng e))) =
      if (s.eng e).pend = [] ∧ (s.eng e).issued = [] ∧ (s.eng e).ops = [] then seenIdle e (s.setEng e (stopIssue (s.eng e)))
      else s.setEng e (stopIssue (s.eng e)) := by
  have hcond : (((stopIssue (s.eng e)).stopping || ((stopIssue (s.eng e)).doneWait && eckOn (s.setEng e (stopIssue (s.eng e))) e)) &&
      (stopIssue (s.eng e)).pend.isEmpty && (stopIssue (s.eng e)).ops.isEmpty && !(stopIssue (s.eng e)).halted) = true ↔
      (s.eng e).pend = [] ∧ (s.eng e).issued = [] ∧ (s.eng e).ops = [] := by
    simp [stopIssue, EngineRec.intoFlight, hhalt, and_assoc]
  unfold settle
  rw [eng_setEng_same]
  exact if_congr hcond (by rewrite [seenIdle, eng_setEng_same]; rfl) rfl

/-- What a stop request can do. -/
theorem stopEngine_cases (e : Nat) (s : State) :
    (stopEngine e s = s ∧ stopRecord (s.eng e) = s.eng e) ∨
    stopEngine e s = s.setEng e (stopRecord (s.eng e)) ∨
    stopEngine e s = seenIdle e (s.setEng e (stopIssue (s.eng e))) ∧ stopRecord (s.eng e) = goIdle (stopIssue (s.eng e)) := by
  unfold stopEngine stopRecord
  dsimp only
  split
  · exact .inl ⟨rfl, rfl⟩
  · split
    · exact .inr (.inl rfl)
    · next hhalt =>
      have hsettle := settle_stopIssue (Bool.not_eq_true _ ▸ hhalt)
      split
      · next hnone => exact .inr (.inr ⟨hsettle.trans (if_pos hnone), rfl⟩)
      · next hnone => exact .inr (.inl (hsettle.trans (if_neg hnone)))

theorem eng_stopEngine_same (e : Nat) (s : State) : (stopEngine e s).eng e = stopRecord (s.eng e) := by
  rcases stopEngine_cases e s with ⟨h, hr⟩ | h | ⟨h, hr⟩ <;> rw [h]
  · exact hr.symm
  · exact eng_setEng_same ..
  · rw [eng_seenIdle, eng_setEng_same, eng_setEng_same, hr]

theorem eng_stopEngine_ne {e m : Nat} (hm : m ≠ e) (s : State) : (stopEngine e s).eng m = s.eng m := by
  rcases stopEngine_cases e s with ⟨h, -⟩ | h | ⟨h, -⟩ <;> rw [h]
  · exact eng_setEng_ne _ hm _
  · rw [eng_seenIdle, eng_setEng_ne _ hm, eng_setEng_ne _ hm]

theorem regs_stopEngine (e : Nat) (s : State) : (stopEngine e s).regs = s.regs := by
  rcases stopEngine_cases e s with ⟨h, -⟩ | h | ⟨h, -⟩ <;> rw [h]
  · rfl
  · exact regs_seenIdle ..

theorem stopped_stopEngine {m : Nat} (e : Nat) {s : State} (h : Stopped (s.eng m)) : Stopped ((stopEngine e s).eng m) := by
  by_cases hm : m = e
  · rw [hm, eng_stopEngine_same]
    exact stopRecord_stopped _
  · rwa [eng_stopEngine_ne hm]

section
variable {k m : Nat} {s : State} (h : Unfinished k m s)
include h

theorem unfinished_stopEngine (e : Nat) : Unfinished k m (stopEngine e s) := by
  obtain ⟨hm, hdone⟩ := h
  refine ⟨by rwa [(keeps_stopEngine ..).liveMembers rfl rfl rfl], ?_⟩
  by_cases he : m = e
  · rw [he, eng_stopEngine_same]
    exact stopRecord_byDone (he ▸ hdone)
  · rwa [eng_stopEngine_ne he]

theorem job_stopEngine (e : Nat) : (stopEngine e s).job k = s.job k := by
  obtain ⟨hm, hdone⟩ := unfinished_stopEngine h e
  rcases stopEngine_cases e s with ⟨hstop, -⟩ | hstop | ⟨hstop, -⟩ <;> rw [hstop]
  · rfl
  · refine job_seenIdle ⟨h.1, ?_⟩
    rwa [hstop, eng_seenIdle] at hdone

/-- A stop of several engines leaves the job as it was. -/
theorem stops_effect (l : List Nat) : (l.foldl (fun t e => stopEngine e t) s).job k = s.job k ∧
    ∀ f, f ∈ l ∨ Stopped (s.eng f) → Stopped ((l.foldl (fun t e => stopEngine e t) s).eng f) := by
  induction l generalizing s with
  | nil => exact ⟨rfl, fun f hf => hf.resolve_left (List.not_mem_nil)⟩
  | cons e l ih =>
    obtain ⟨hjob, hstopped⟩ := ih (unfinished_stopEngine h e)
    refine ⟨hjob.trans (job_stopEngine h e), fun f hf => hstopped f ?_⟩
    rcases hf with hf | hf
    · rcases List.mem_cons.mp hf with rfl | hf
      · rw [eng_stopEngine_same]
        exact .inr (stopRecord_stopped _)
      · exact .inl hf
    · exact .inr (stopped_stopEngine e hf)

/-- An end condition of a job without an end code is recorded, and every member stops (R213). -/
theorem endStopping_effect (hrun : s.flag F.TMB_SET_JSTAT.RUNNING k = true) (hcode : (s.job k).code = 0) (code : Nat) :
    ((endStopping k code s).job k).code = code ∧ ∀ f ∈ tmbMembers s k, Stopped ((endStopping k code s).eng f) := by
  have hend : endCode k code s = s.setJob k { s.job k with code := code, codeAt := s.stamp } := by
    unfold endCode jobRuns
    dsimp only
    rw [hrun, hcode]
    rfl
  have hstop : endStopping k code s = (tmbMembers s k).foldl (fun t e => stopEngine e t) (endCode k code s) := by
    rw [endStopping, stopMembers, (keeps_endCode ..).tmbMembers rfl]
    exact congrArg (List.foldl _ _) (List.filter_eq_self.mpr fun _ _ => rfl)
  have hun : Unfinished k m (endCode k code s) := by
    refine ⟨by rw [(keeps_endCode ..).liveMembers rfl rfl rfl]; exact h.1, ?_⟩
    rw [eng_endCode]
    exact h.2
  obtain ⟨hjob, hstopped⟩ := stops_effect hun (tmbMembers s k)
  rw [hstop]
  exact ⟨by rw [hjob, hend, job_setJob_same], fun f hf => hstopped f (.inl hf)⟩

end

/-! ### Jobs (R207, R209–R213) -/

section
variable {s : State} {k : Fin 64} {e : Nat}

theorem jobTimeout_completes (hrun : s.flag F.TMB_SET_JSTAT.RUNNING k = true) (hwindow : s.flag F.TMB_SET_CFG.WINDOW k = false)
    (htmo : (s.job k).tmo ≠ 0) (hexpired : s.expired (s.job k).start (1000 * (s.job k).tmo) = true) (hcode : (s.job k).code = 0)
    (h : Unfinished k e s) :
    Completes (.jobTimeout k) s fun t =>
      (t.job k).code = 3 ∧ ∀ f ∈ tmbMembers s k, (t.eng f).run = 0 ∨ (t.eng f).stopping = true := by
  refine Completes.of_guarded (f := endStopping k 3) rfl ?_ (endStopping_effect h hrun hcode 3)
  rw [jobRuns, hrun, hwindow, bne_iff_ne.mpr htmo, hexpired]
  rfl

theorem setStop_completes {v : Word} (hv : F.TMB_SET_STOP.STOP.of v = 1) (hrun : s.flag F.TMB_SET_JSTAT.RUNNING k = true)
    (hcode : (s.job k).code = 0) (h : Unfinished k e s) :
    Completes (.setStop k v) s fun t =>
      (t.job k).code = 4 ∧ ∀ f ∈ tmbMembers s k, (t.eng f).run = 0 ∨ (t.eng f).stopping = true := by
  refine Completes.of_guarded (f := endStopping k 4) rfl ?_ (endStopping_effect h hrun hcode 4)
  rw [jobRuns, hrun, hv]
  rfl

end

theorem engineStop_completes {s : State} {e : Fin 512} (hset : engineSet s e = none) (hrun : (s.eng e).run ≠ 0)
    (hhalt : (s.eng e).halted = false) :
    Completes (.engineStop e) s fun t =>
      (t.eng e).run = (if (s.eng e).pend = [] ∧ (s.eng e).issued = [] ∧ (s.eng e).ops = [] then 0 else (s.eng e).run) ∧
      ((t.eng e).run ≠ 0 → (t.eng e).stopping = true) ∧ t.regs = s.regs := by
  have hstop : stopGo e s = stopEngine e s := by rw [stopGo, hset]
  have hrecord : (stopRecord (s.eng e)).run =
      if (s.eng e).pend = [] ∧ (s.eng e).issued = [] ∧ (s.eng e).ops = [] then 0 else (s.eng e).run := by
    rw [stopRecord, if_neg hrun, hhalt, if_neg Bool.false_ne_true]
    split <;> rfl
  refine Completes.of_eq (congrArg done hstop) ⟨?_, ?_, ?_⟩
  · rw [eng_stopEngine_same, hrecord]
  · rw [eng_stopEngine_same]
    exact (stopRecord_stopped _).resolve_left
  · exact regs_stopEngine ..

/-! #### A job starts (R209, R210) -/

/-- The state in which the members of set k start: the entry and the job's record written, the grants freed. -/
def jobMade (k : Nat) (v : Word) (s : State) : State :=
  (freeGrants (s.rd F.TMB_SET_CFG.TENANT k) 3 k (s.wr F.TMB_SET_JOB.ENTRY k (F.TMB_SET_JOB.ENTRY.of v))).setJob k
    ⟨s.stamp, s.rd F.TMB_SET_TMO.TMO k, 0, 0⟩

theorem keeps_jobMade (k : Nat) (v : Word) (s : State) :
    Keeps (regMask [.TMB_SET_JOB, .WRD_GRANT]) (partMask [.tmb, .kp]) s (jobMade k v s) :=
  (keeps_setJob ..).after rfl rfl ((keeps_freeGrants ..).after rfl rfl ((keeps_wr ..).mono rfl rfl))

/-- The arguments of a job. -/
def jobArgs (s : State) (k : Nat) : List Word := (List.range 4).map fun j => s.reg .TMB_SET_ARG (4 * k + j)

/-- Updates of engines' records by rank in a list: each engine of the list gets its own, and no job's record changes. -/
theorem foldl_modEng_ranked {l : List Nat} (hl : l.Nodup) (f : Nat → EngineRec → EngineRec) (s : State) :
    (∀ e ∈ l, ∃ j, (((List.range l.length).zip l).foldl (fun t x => t.modEng x.2 (f x.1)) s).eng e = f j (s.eng e)) ∧
    ∀ k, (((List.range l.length).zip l).foldl (fun t x => t.modEng x.2 (f x.1)) s).job k = s.job k := by
  have hmap : ((List.range l.length).zip l).map Prod.snd = l := List.map_snd_zip List.length_range.ge
  have hnodup : (((List.range l.length).zip l).map Prod.snd).Nodup := by rwa [hmap]
  refine ⟨fun e he => ?_, fun k => foldl_unchanged (State.job · k) (fun t (x : Nat × Nat) _ => job_modEng t x.2 (f x.1) k) s⟩
  rw [← hmap] at he
  obtain ⟨a, ha, rfl⟩ := List.mem_map.mp he
  refine ⟨a.1, foldl_own (State.eng · a.2) ha hnodup.of_map (fun t => eng_modEng_same ..) (fun t b hb hne => ?_) s⟩
  exact eng_modEng_ne _ (fun h => hne (List.inj_on_of_nodup_map hnodup hb ha h.symm)) _

/-- Each live member starts at ENTRY with the job's arguments. -/
theorem startMembers_effect (k entry : Nat) (s : State) :
    (∀ e ∈ liveMembers s k, ∃ info, (startMembers k entry s).eng e = startEngine entry (jobArgs s k) info (s.eng e)) ∧
    ∀ j, (startMembers k entry s).job j = s.job j := by
  obtain ⟨heng, hjob⟩ := foldl_modEng_ranked (liveMembers_nodup s k)
    (fun j => startEngine entry (jobArgs s k) (jinfo j (liveMembers s k).length k)) s
  unfold startMembers
  refine ⟨fun e he => ?_, hjob⟩
  obtain ⟨j, hj⟩ := heng e he
  exact ⟨_, hj⟩

theorem startEngine_fields (entry : Nat) (args : List Word) (info : Word) (r : EngineRec) :
    (startEngine entry args info r).run = 1 ∧ (startEngine entry args info r).pc = entry ∧ (startEngine entry args info r).bank = false ∧
    (startEngine entry args info r).crGet 16 = args.getD 0 0 ∧ (startEngine entry args info r).crGet 19 = args.getD 3 0 := by
  refine ⟨rfl, rfl, rfl, ?_, ?_⟩
  · unfold startEngine
    dsimp only
    rw [crGet_crSet_ne _ (by decide), crGet_crSet_ne _ (by decide), crGet_crSet_ne _ (by decide), crGet_crSet_ne _ (by decide),
      crGet_crSet_same]
  · unfold startEngine
    dsimp only
    rw [crGet_crSet_ne _ (by decide), crGet_crSet_same]

section
variable {s : State} {k : Fin 64} {v : Word} (hv : F.TMB_SET_JOB.GO.of v = 1)
include hv

theorem jobGo_starts (hrun : s.flag F.TMB_SET_JSTAT.RUNNING k = false) (hlive : liveMembers s k ≠ [])
    (hidle : ∀ e ∈ liveMembers s k, (s.eng e).run = 0 ∧ s.flag F.TMB_STAT.CLEARING e = false)
    (hclock : s.flag F.CLK_ECK.EN (setLeaf s k) = true) :
    Completes (.jobGo k v) s fun t =>
      t.flag F.TMB_SET_JSTAT.RUNNING k = true ∧ t.job k = ⟨s.dtcNow, s.rd F.TMB_SET_TMO.TMO k, 0, 0⟩ ∧
      ∀ e ∈ liveMembers s k, (t.eng e).run = 1 ∧ (t.eng e).pc = F.TMB_SET_JOB.ENTRY.of v ∧ (t.eng e).bank = false ∧
        (t.eng e).crGet 16 = s.reg .TMB_SET_ARG (4 * k) ∧ (t.eng e).crGet 19 = s.reg .TMB_SET_ARG (4 * k + 3) := by
  have hmembers : (liveMembers s k).any (fun e => !isIdle s e || s.flag F.TMB_STAT.CLEARING e) = false :=
    List.any_eq_false.mpr fun e he => by
      obtain ⟨hrun, hclearing⟩ := hidle e he
      rw [isIdle, hrun, hclearing]
      exact Bool.false_ne_true
  have hallowed : goRefused s k = false := by
    unfold goRefused jobRuns
    dsimp only
    rw [hrun, hmembers, hclock, List.isEmpty_eq_false_iff.mpr hlive]
    rfl
  have hgo : setJobWrite k v s = (startMembers k (F.TMB_SET_JOB.ENTRY.of v) (jobMade k v s)).on F.TMB_SET_JSTAT.RUNNING k := by
    unfold setJobWrite
    dsimp only
    rw [hv, if_neg Nat.one_ne_zero, hallowed, if_neg Bool.false_ne_true]
    rfl
  have hmade := keeps_jobMade k v s
  obtain ⟨hstarts, hjob⟩ := startMembers_effect k (F.TMB_SET_JOB.ENTRY.of v) (jobMade k v s)
  refine Completes.of_eq (congrArg done hgo) ⟨flag_on_same _ _ _ (by decide) (by decide), ?_, fun e he => ?_⟩
  · rw [job_on, hjob, jobMade, job_setJob_same]
    rfl
  · obtain ⟨info, heng⟩ := hstarts e (by rwa [hmade.liveMembers rfl rfl rfl])
    obtain ⟨hrun, hpc, hbank, harg, harg'⟩ := startEngine_fields (F.TMB_SET_JOB.ENTRY.of v) (jobArgs (jobMade k v s) k) info
      ((jobMade k v s).eng e)
    rw [eng_on, heng]
    exact ⟨hrun, hpc, hbank, harg.trans (hmade.reg _ _ rfl), harg'.trans (hmade.reg _ _ rfl)⟩

theorem jobGo_refused (h : s.flag F.TMB_SET_JSTAT.RUNNING k = true ∨ liveMembers s k = []) :
    Completes (.jobGo k v) s fun t =>
      t.flag F.TMB_SET_JSTAT.REJECT k = true ∧ t.flag F.TMB_SET_JSTAT.RUNNING k = s.flag F.TMB_SET_JSTAT.RUNNING k ∧ t.tmb = s.tmb := by
  have hrefused : goRefused s k = true := by
    unfold goRefused jobRuns
    dsimp only
    rcases h with h | h <;> rw [h]
    · rfl
    · rw [List.isEmpty_nil, Bool.or_true]; rfl
  have hgo : setJobWrite k v s = s.on F.TMB_SET_JSTAT.REJECT k := by
    unfold setJobWrite
    dsimp only
    rw [hv, if_neg Nat.one_ne_zero, if_pos hrefused]
  exact Completes.of_eq (congrArg done hgo) ⟨flag_on_same _ _ _ (by decide) (by decide), flag_wr_apart (by decide) s k 1, rfl⟩

end

/-! #### A job ends (R213), and doorbells (R212) -/

theorem jobEnd_completes {s : State} {k : Fin 64} (hrun : s.flag F.TMB_SET_JSTAT.RUNNING k = true) (hcode : (s.job k).code ≠ 0)
    (hlt : (s.job k).code < 8) (hmembers : ∀ e ∈ tmbMembers s k, (s.eng e).run = 0 ∧ (s.eng e).ops = []) :
    Completes (.jobEnd k) s fun t =>
      t.flag F.TMB_SET_JSTAT.RUNNING k = false ∧ t.rd F.TMB_SET_JSTAT.END k = (s.job k).code ∧ t.job k = .none ∧ t.tmb.eng = s.tmb.eng := by
  have hover : jobOver s k = true := by
    have hall : (tmbMembers s k).all (fun e => isIdle s e && (s.eng e).ops.isEmpty) = true := List.all_eq_true.mpr fun e he => by
      obtain ⟨hidle, hops⟩ := hmembers e he
      rw [isIdle, hidle, hops]
      rfl
    rw [jobOver, jobRuns, hrun, bne_iff_ne.mpr hcode, hall]
    rfl
  have hend : ∃ u, exec (.jobEnd k) s = done u ∧ Keeps (regMask [.TMB_EVCAUSE, .EVC_CSTAT]) (partMask [.freeCtr, .evc])
      (((s.off F.TMB_SET_JSTAT.RUNNING k).wr F.TMB_SET_JSTAT.END k (s.job k).code).setJob k .none) u := by
    refine ⟨_, congrArg done (guarded_true hover), ?_⟩
    split
    · exact (keeps_engineCause ..).mono rfl rfl
    · exact Keeps.refl _
  obtain ⟨u, hexec, hkeeps⟩ := hend
  have htmb := hkeeps.part .tmb rfl
  refine Completes.of_eq hexec ⟨?_, ?_, ?_, ?_⟩
  · rw [hkeeps.flag _ _ rfl, flag_setJob, flag_wr_apart (by decide), flag_off_same _ _ _ (by decide)]
  · rw [hkeeps.rd _ _ rfl, rd_setJob, rd_wr_same _ _ _ _ (by decide)]
    exact Nat.mod_eq_of_lt hlt
  · rw [State.job, htmb]
    exact job_setJob_same ..
  · rw [htmb]
    rfl

theorem keeperBell_fields (r : EngineRec) : (keeperBell r).crGet 0x15 = r.crGet 0x15 ||| 2 ∧
    ((r.crGet 0x15).getLsbD 1 = false → ((keeperBell r).crGet 1).getLsbD 0 = true) := by
  unfold keeperBell EngineRec.setEvt
  refine ⟨by rw [crGet_crSet_ne _ (by decide), crGet_crSet_same], fun h => ?_⟩
  rw [crGet_crSet_same, h, BitVec.getLsbD_or]
  exact Bool.or_true _

theorem setsDb_completes {s : State} {k : Fin 64} {v : Word} (hv : F.TMB_SET_DB.DB.of v = 1) (hwindow : s.flag F.TMB_SET_CFG.WINDOW k = false) :
    Completes (.tmbSetsDb k v) s fun t =>
      t.regs = s.regs ∧ ∀ e ∈ liveMembers s k, (t.eng e).crGet 0x15 = (s.eng e).crGet 0x15 ||| 2 ∧
        (((s.eng e).crGet 0x15).getLsbD 1 = false → ((t.eng e).crGet 1).getLsbD 0 = true) := by
  refine Completes.of_guarded (f := fun s => (liveMembers s k).foldl (fun t e => t.modEng e keeperBell) s) rfl (by rw [hv, hwindow]; rfl)
    ⟨foldl_unchanged State.regs (fun t e _ => regs_modEng t e keeperBell) s, fun e he => ?_⟩
  have heng : ((liveMembers s k).foldl (fun t e => t.modEng e keeperBell) s).eng e = keeperBell (s.eng e) :=
    foldl_own (State.eng · e) he (liveMembers_nodup s k) (fun t => eng_modEng_same ..) (fun t b _ hb => eng_modEng_ne _ hb.symm _) s
  rw [heng]
  exact keeperBell_fields _

/-- Settles O21: a stop reaches every member and leaves the job's code, since the member that has not ended by DONE keeps the third condition of
R213 from holding; a start reaches each live member once. -/
theorem jobsStartStopAndEnd : Obligations.JobsStartStopAndEnd := by
  unfold Obligations.JobsStartStopAndEnd
  refine ⟨?_, ?_, ?_, ?_, ?_, ?_, ?_⟩
  · exact fun s k v hv hrun hlive hidle hclock => jobGo_starts hv hrun hlive hidle hclock
  · exact fun s k v hv h => jobGo_refused hv h
  · exact fun s k e hrun hwindow htmo hexpired hcode he hdone => jobTimeout_completes hrun hwindow htmo hexpired hcode ⟨he, hdone⟩
  · exact fun s k v e hv hrun hcode he hdone => setStop_completes hv hrun hcode ⟨he, hdone⟩
  · rintro s e r rfl hset hrun hhalt
    exact engineStop_completes hset hrun hhalt
  · exact fun s k hrun hcode hlt hmembers => jobEnd_completes hrun hcode hlt hmembers
  · exact fun s k v hv hwindow => setsDb_completes hv hwindow

end Sys2Proof.Machine
/-! ### Heads and their lanes (R225, R226, R234, R242) -/

namespace Sys2Proof.Machine
open Sys2Proof

/-- Two fields that share no bit of one register, whatever its copies (`Fld.apart_of_places`). -/
abbrev Fld.Beside (f g : Fld) : Prop := f.reg ≠ g.reg ∨ f.lo + f.width ≤ g.lo ∨ g.lo + g.width ≤ f.lo

theorem headLanes_nodup (s : State) (n : Nat) : (headLanes s n).Nodup := by
  unfold headLanes
  dsimp only
  split
  · exact List.nodup_range.map fun _ _ h => Nat.add_left_cancel h
  · split
    · exact List.nodup_range.map fun _ _ h => Nat.add_left_cancel h
    · exact List.nodup_nil

theorem mem_lanesIn {s : State} {n g : Nat} : g ∈ lanesIn s n ↔ g ∈ headLanes s n ∧ laneRetired s g = false := by
  rw [lanesIn, List.mem_filter, Bool.not_eq_true']

/-- Among the lanes of a head, one is in service and in a list's filter where it is not retired and the filter admits it. -/
theorem contains_lanesIn_filter {s : State} {n g : Nat} (hg : g ∈ headLanes s n) (p : Nat → Bool) :
    ((lanesIn s n).filter p).contains g = true ↔ laneRetired s g = false ∧ p g = true := by
  rw [List.contains_iff_mem, List.mem_filter, mem_lanesIn, and_iff_right hg]

theorem head_congr {s t : State} (h : t.lnk = s.lnk) (n : Nat) : t.head n = s.head n :=
  congrArg (fun l : LnkState => sget HeadRec.idle l.head n) h

section
variable {R P : Nat} {s t : State} (h : Keeps R P s t)
include h

theorem Keeps.headLanes (hcfg : R.testBit RegName.LNK_PCFG.ctorIdx = false) (n : Nat) : Machine.headLanes t n = Machine.headLanes s n := by
  unfold Machine.headLanes
  dsimp only
  rw [h.flag F.LNK_PCFG.X8X2 _ hcfg]

theorem Keeps.laneRetired (hret : R.testBit RegName.LNK_RET.ctorIdx = false) (g : Nat) : Machine.laneRetired t g = Machine.laneRetired s g := by
  unfold Machine.laneRetired
  rw [h.rd F.LNK_RET.RET _ hret]

theorem Keeps.lanesIn (hcfg : R.testBit RegName.LNK_PCFG.ctorIdx = false) (hret : R.testBit RegName.LNK_RET.ctorIdx = false) (n : Nat) :
    Machine.lanesIn t n = Machine.lanesIn s n := by
  unfold Machine.lanesIn
  rw [h.headLanes hcfg]
  exact List.filter_congr fun g _ => by rw [h.laneRetired hret]

theorem Keeps.lrefPresent (href : R.testBit RegName.CLK_LREF_STAT.ctorIdx = false) (p : Nat) :
    Machine.lrefPresent t p = Machine.lrefPresent s p := by
  unfold Machine.lrefPresent
  rw [h.rd F.CLK_LREF_STAT.PRESENT _ href]

theorem Keeps.head (hlnk : P.testBit Part.lnk.ctorIdx = false) (n : Nat) : t.head n = s.head n :=
  head_congr (h.part .lnk hlnk) n

theorem Keeps.stamp (hclk : P.testBit Part.clk.ctorIdx = false) : t.stamp = s.stamp :=
  congrArg (fun c : ClkState => (c.dtc >>> 32).toNat) (h.part .clk hclk)

end

theorem head_setHead_same (s : State) (n : Nat) (r : HeadRec) : (s.setHead n r).head n = r := sget_sset_self ..

theorem rd_setHead (s : State) (n : Nat) (r : HeadRec) (f : Fld) (i : Nat) : (s.setHead n r).rd f i = s.rd f i := rfl

theorem flag_setHead (s : State) (n : Nat) (r : HeadRec) (f : Fld) (i : Nat) : (s.setHead n r).flag f i = s.flag f i := rfl

/-- A bit of LNK_RET is the state of one device lane (R242). -/
theorem laneRetired_wrBit (s : State) (a g : Nat) (b : Bool) :
    laneRetired (s.wrBit F.LNK_RET.RET (a / 16) (a % 16) b) g = if g = a then b else laneRetired s g := by
  unfold laneRetired
  by_cases hport : a / 16 = g / 16
  · have hbit : g % 16 < F.LNK_RET.RET.width := Nat.mod_lt g (by decide)
    rw [← hport, nbit_wrBit s F.LNK_RET.RET _ _ _ _ (by decide) hbit]
    refine if_congr ?_ rfl rfl
    omega
  · rw [rd_wrBit_other _ _ _ _ _ _ _ (.inr (.inl hport)), if_neg fun h => hport (congrArg (· / 16) h.symm)]

/-! #### Causes of a head (R248) -/

theorem flag_headCause_same {cause : Fld} (enable : Fld) (n : Nat) (s : State) (hlo : cause.lo + cause.width ≤ 32) (hw : 0 < cause.width)
    (hreg : cause.reg ≠ .EVC_CSTAT) : (headCause cause enable n s).flag cause n = true := flag_raiseCause_same _ _ _ _ hlo hw hreg

theorem flag_headCause_other {cause f : Fld} (enable : Fld) (n : Nat) (s : State) (h : cause.Beside f) (hreg : f.reg ≠ .EVC_CSTAT) :
    (headCause cause enable n s).flag f n = s.flag f n :=
  congrArg (· != 0) (rd_raiseCause_other _ _ _ (Fld.apart_of_places h _ _) hreg)

theorem keeps_headEvent (cause enable : Fld) (h : cause.reg = .LNK_HEVT) (n : Nat) (s : State) :
    Keeps (regMask [.LNK_HEVT, .EVC_CSTAT]) (partMask [.freeCtr, .evc]) s (headCause cause enable n s) :=
  (keeps_headCause cause enable n s).mono (by rw [h]; rfl) rfl

theorem flag_downIf (b : Bool) (n : Nat) (s : State) : (downIf b n s).flag F.LNK_HEVT.DOWN n = (b || s.flag F.LNK_HEVT.DOWN n) := by
  cases b with
  | true => exact flag_headCause_same _ _ _ (by decide) (by decide) (by decide)
  | false => rfl

/-! #### A head whose link is gone (R236, R237) -/

/-- LNK_HSTAT of head n shows no link. -/
def linkUnshown (n : Nat) (s : State) : State :=
  ((((s.wr F.LNK_HSTAT.RATE n 0).wr F.LNK_HSTAT.WIDTH n 0).wr F.LNK_HSTAT.FLIT n 0).wr F.LNK_HSTAT.CXLUP n 0).wr F.LNK_HSTAT.REV n 0

/-- Device lane g is in no link and loops nothing back. -/
def laneOut (s : State) (g : Nat) : State := ((s.off F.LNK_LSTAT.INLINK g).wr F.LNK_LSTAT.LNUM g 0).off F.LNK_LLB.FELB g

/-- The status registers of head n, with control state `st`, and of its lanes, where its link is gone. -/
def headOut (n st : Nat) (s : State) : State :=
  (headLanes (linkUnshown n s) n).foldl laneOut (setLtssm n 0 (setCtl n st (linkUnshown n s)))

/-- The record of a head whose link is gone. -/
def HeadRec.out (r : HeadRec) : HeadRec := { r with attempt := false, cxlOpen := false, l0pIdle := 0 }

theorem keeps_linkUnshown (n : Nat) (s : State) : Keeps (regMask [.LNK_HSTAT]) 0 s (linkUnshown n s) :=
  (keeps_wr ..).after rfl rfl ((keeps_wr ..).after rfl rfl ((keeps_wr ..).after rfl rfl ((keeps_wr ..).after rfl rfl
    ((keeps_wr ..).mono rfl rfl))))

theorem keeps_laneOut (s : State) (g : Nat) : Keeps (regMask [.LNK_LSTAT, .LNK_LLB]) 0 s (laneOut s g) :=
  (keeps_off ..).after rfl rfl ((keeps_wr ..).after rfl rfl ((keeps_off ..).mono rfl rfl))

theorem keeps_headOut (n st : Nat) (s : State) : Keeps (regMask [.LNK_HSTAT, .LNK_LSTAT, .LNK_LLB]) 0 s (headOut n st s) :=
  Keeps.andThen (Keeps.foldl fun t g => (keeps_laneOut t g).mono rfl rfl)
    ((keeps_setLtssm ..).after rfl rfl ((keeps_setCtl ..).after rfl rfl ((keeps_linkUnshown n s).mono rfl rfl)))

/-- The registers that the snoops and the walks behind a link that is gone may write (R275): none of the links. -/
def goneRegs : List RegName := [.KRV_ELOG0, .KRV_ELOG1, .KRV_ELOG2, .COH_HEAD, .COH_DIR_OCC, .COH_DIR_ALLOC, .COH_DIR_EVICT, .COH_DIR_PEND,
  .DDR_HOLD_STAT, .DDR_UE_CNT, .DDR_ELOG_W, .DDR_EVT, .EVC_CSTAT, .EVC_TCH, .PWR_MNT_STAT, .PWR_MNT_ENT]

/-- The parts of the state that they may write. -/
def goneParts : List Part := [.freeCtr, .evc, .net, .coh, .ddr, .mnt]

theorem keeps_linkGone_rest (n st : Nat) (s : State) :
    Keeps (regMask goneRegs) (partMask goneParts) ((headOut n st s).setHead n ((headOut n st s).head n).out) (linkGone n st s) :=
  (keeps_walks ..).after rfl rfl ((keeps_failSnoopsOf ..).after rfl rfl ((keeps_off ..).mono rfl rfl))

theorem lnk_linkGone (n st : Nat) (s : State) : (linkGone n st s).lnk = (s.setHead n (s.head n).out).lnk := by
  have hout := keeps_headOut n st s
  refine ((keeps_linkGone_rest n st s).part .lnk rfl).trans ?_
  rw [hout.head rfl]
  exact congrArg (fun l : LnkState => { l with head := sset .idle l.head n (s.head n).out }) (hout.part .lnk rfl)

theorem head_linkGone (n st : Nat) (s : State) : (linkGone n st s).head n = (s.head n).out :=
  (head_congr (lnk_linkGone n st s) n).trans (head_setHead_same ..)

/-- Where the links' part of the state is that of a link gone, no attempt runs and the charges stand. -/
theorem of_lnk_gone {n : Nat} {s t : State} (h : t.lnk = (s.setHead n (s.head n).out).lnk) :
    (t.head n).attempt = false ∧ t.lnk.charges = s.lnk.charges := by
  rw [head_congr h, head_setHead_same, h]
  exact ⟨rfl, rfl⟩

theorem charges_linkGone (n st : Nat) (s : State) : (linkGone n st s).lnk.charges = s.lnk.charges := (of_lnk_gone (lnk_linkGone n st s)).2

/-- What LNK_HSTAT shows of a head whose link is gone. -/
theorem status_linkGone (n : Nat) {st : Nat} (hst : st < 8) (s : State) :
    (linkGone n st s).rd F.LNK_HSTAT.CTLST n = st ∧ (linkGone n st s).rd F.LNK_HSTAT.LTSSM n = 0 ∧
    (linkGone n st s).flag F.LNK_HSTAT.UP n = decide (st = 3) ∧ (linkGone n st s).rd F.LNK_HSTAT.RATE n = 0 ∧
    (linkGone n st s).rd F.LNK_HSTAT.WIDTH n = 0 ∧ (linkGone n st s).rd F.LNK_HSTAT.BACKOFF_K n = s.rd F.LNK_HSTAT.BACKOFF_K n := by
  have hrest := keeps_linkGone_rest n st s
  have hlanes : Keeps (regMask [.LNK_LSTAT, .LNK_LLB]) 0 (setLtssm n 0 (setCtl n st (linkUnshown n s))) (headOut n st s) :=
    Keeps.foldl fun t g => keeps_laneOut t g
  have hrd {f : Fld} (hf : f.reg = .LNK_HSTAT) :
      (linkGone n st s).rd f n = (setLtssm n 0 (setCtl n st (linkUnshown n s))).rd f n := by
    rw [hrest.rd f n (by rw [hf]; rfl), rd_setHead, hlanes.rd f n (by rw [hf]; rfl)]
  have hctl : st % 2 ^ F.LNK_HSTAT.CTLST.width = st := Nat.mod_eq_of_lt hst
  rw [State.flag, hrd rfl, hrd rfl, hrd rfl, hrd rfl, hrd rfl, hrd rfl, setLtssm, setCtl, linkUnshown, ← State.flag]
  simp (disch := decide) [rd_wr_apart, flag_wr_apart, rd_wr_same, hctl]

/-- Every lane of a head whose link is gone is in no link and loops nothing back. -/
theorem lanes_linkGone (n st : Nat) {s : State} {g : Nat} (hg : g ∈ headLanes s n) :
    (linkGone n st s).flag F.LNK_LSTAT.INLINK g = false ∧ (linkGone n st s).flag F.LNK_LLB.FELB g = false := by
  have hrest := keeps_linkGone_rest n st s
  have hlanes : g ∈ headLanes (linkUnshown n s) n := by rwa [(keeps_linkUnshown n s).headLanes rfl]
  rw [hrest.flag _ _ rfl, hrest.flag _ _ rfl, flag_setHead, flag_setHead]
  constructor
  · refine foldl_own (State.flag · F.LNK_LSTAT.INLINK g) (new := fun _ => false) hlanes (headLanes_nodup ..) (fun t => ?_) (fun t b _ hb => ?_) _
    · dsimp only [laneOut]
      rw [flag_off_other _ _ _ _ _ (.inl (by decide)), flag_wr_apart (by decide), flag_off_same _ _ _ (by decide)]
    · dsimp only [laneOut]
      rw [flag_off_other _ _ _ _ _ (.inl (by decide)), flag_wr_other _ _ _ _ _ _ (.inr (.inl hb)), flag_off_other _ _ _ _ _ (.inr (.inl hb))]
  · refine foldl_own (State.flag · F.LNK_LLB.FELB g) (new := fun _ => false) hlanes (headLanes_nodup ..) (fun t => ?_) (fun t b _ hb => ?_) _
    · exact flag_off_same _ _ _ (by decide)
    · dsimp only [laneOut]
      rw [flag_off_other _ _ _ _ _ (.inr (.inl hb)), flag_wr_other _ _ _ _ _ _ (.inl (by decide)), flag_off_other _ _ _ _ _ (.inl (by decide))]

/-- What a link leaves behind that goes, DOWN raised where `b` holds (R236, R248). -/
theorem downIf_linkGone (b : Bool) (n : Nat) {st : Nat} (hst : st < 8) (s : State) :
    (downIf b n (linkGone n st s)).rd F.LNK_HSTAT.CTLST n = st ∧ (downIf b n (linkGone n st s)).rd F.LNK_HSTAT.LTSSM n = 0 ∧
    (downIf b n (linkGone n st s)).rd F.LNK_HSTAT.RATE n = 0 ∧ (downIf b n (linkGone n st s)).rd F.LNK_HSTAT.WIDTH n = 0 ∧
    (downIf b n (linkGone n st s)).flag F.LNK_HEVT.DOWN n = (b || s.flag F.LNK_HEVT.DOWN n) := by
  have hdown := keeps_downIf b n (linkGone n st s)
  obtain ⟨hctl, hltssm, -, hrate, hwidth, -⟩ := status_linkGone n hst s
  rw [hdown.rd _ _ rfl, hdown.rd _ _ rfl, hdown.rd _ _ rfl, hdown.rd _ _ rfl, flag_downIf, (keeps_linkGone n st s).flag _ _ rfl]
  exact ⟨hctl, hltssm, hrate, hwidth, rfl⟩

/-! #### The control state alone -/

/-- What a change of the control state and of the standard's state shows. -/
theorem status_setCtl (n : Nat) {st l : Nat} (hst : st < 8) (hl : l < 16) (s : State) :
    (setLtssm n l (setCtl n st s)).rd F.LNK_HSTAT.CTLST n = st ∧ (setLtssm n l (setCtl n st s)).rd F.LNK_HSTAT.LTSSM n = l ∧
    (setLtssm n l (setCtl n st s)).flag F.LNK_HSTAT.UP n = decide (st = 3) := by
  have hctl : st % 2 ^ F.LNK_HSTAT.CTLST.width = st := Nat.mod_eq_of_lt hst
  have hltssm : l % 2 ^ F.LNK_HSTAT.LTSSM.width = l := Nat.mod_eq_of_lt hl
  rw [setLtssm, setCtl]
  simp (disch := decide) [rd_wr_apart, flag_wr_apart, rd_wr_same, hctl, hltssm]

/-- A field of LNK_HSTAT other than those three stands. -/
theorem rd_setCtl_other {f : Fld} (hltssm : F.LNK_HSTAT.LTSSM.Beside f) (hctl : F.LNK_HSTAT.CTLST.Beside f) (hup : F.LNK_HSTAT.UP.Beside f)
    (n st l : Nat) (s : State) : (setLtssm n l (setCtl n st s)).rd f n = s.rd f n := by
  rw [setLtssm, setCtl, rd_wr_apart hltssm, rd_wr_apart hup, rd_wr_apart hctl]

/-- Where the head leaves its hold or a reset (R236). -/
theorem status_headRelease (n : Nat) (s : State) :
    (headRelease n s).rd F.LNK_HSTAT.CTLST n = (if lrefPresent s (n / 2) = true then 2 else 1) ∧
    (headRelease n s).rd F.LNK_HSTAT.LTSSM n = 0 := by
  obtain ⟨hctl, hltssm, -⟩ := status_setCtl n (st := if lrefPresent s (n / 2) = true then 2 else 1) (l := 0) (by split <;> decide) (by decide) s
  exact ⟨hctl, hltssm⟩

/-- A head that leaves the standard's Loopback trains again, and its lanes loop nothing back (R247). -/
theorem leaveLoopback_effect (n : Nat) (s : State) :
    (leaveLoopback n s).rd F.LNK_HSTAT.LTSSM n = 0 ∧ (leaveLoopback n s).rd F.LNK_HSTAT.CTLST n = 2 ∧ (leaveLoopback n s).lnk = s.lnk ∧
    ∀ g ∈ headLanes s n, (leaveLoopback n s).flag F.LNK_LLB.FELB g = false := by
  have hlanes : Keeps (regMask [.LNK_LLB]) 0 (setLtssm n 0 (setCtl n 2 s)) (leaveLoopback n s) :=
    Keeps.foldl fun t g => (keeps_off t F.LNK_LLB.FELB g).mono rfl rfl
  obtain ⟨hctl, hltssm, -⟩ := status_setCtl n (st := 2) (l := 0) (by decide) (by decide) s
  refine ⟨(hlanes.rd _ _ rfl).trans hltssm, (hlanes.rd _ _ rfl).trans hctl, (keeps_leaveLoopback n s).part .lnk rfl, fun g hg => ?_⟩
  exact foldl_own (State.flag · F.LNK_LLB.FELB g) (new := fun _ => false) hg (headLanes_nodup ..) (fun t => flag_off_same _ _ _ (by decide))
    (fun t b _ hb => flag_off_other _ _ _ _ _ (.inr (.inl hb))) _

end Sys2Proof.Machine
/-! ### Attempts (R227, R233–R237, R241) -/

namespace Sys2Proof.Machine
open Sys2Proof

/-! #### The start of an attempt (R233, R234) -/

section
variable (n : Nat) (fromRec : Bool) (stage1 : List Nat) (s : State)

/-- The stages of head n's lanes at the start of an attempt. -/
def stagesStarted : State := (headLanes s n).foldl (fun t g => t.wr F.LNK_LSTAT.STAGE g (if stage1.contains g then 1 else 0)) s

/-- Those, with the transmitter settings of the lanes and the attempt counted. -/
def attemptCounted : State :=
  ((headLanes (stagesStarted n stage1 s) n).foldl (applyOverride n) (stagesStarted n stage1 s)).satAdd F.LNK_HATT.ATTEMPTS n 1

theorem attemptStart_eq : attemptStart n fromRec stage1 s = (attemptCounted n stage1 s).setHead n
    { (attemptCounted n stage1 s).head n with
      attempt := true
      startAt := (attemptCounted n stage1 s).stamp
      train := (attemptCounted n stage1 s).rd F.LNK_TMO.TRAIN (n / 2)
      fromRec := fromRec
      limit := rateLimit (attemptCounted n stage1 s) n } := rfl

theorem keeps_stagesStarted : Keeps (regMask [.LNK_LSTAT]) 0 s (stagesStarted n stage1 s) :=
  Keeps.foldl fun _ _ => (keeps_wr ..).mono rfl rfl

theorem keeps_overrides (l : List Nat) : Keeps (regMask [.LNK_LTXEQ, .WRD_TXCLAMP, .WRD_LOGCTL, .WRD_LOGLOST, .WRD_LOG_W]) (partMask [.lnk]) s
    (l.foldl (applyOverride n) s) := Keeps.foldl fun t g => (keeps_applyOverride n t g).mono rfl rfl

theorem keeps_attemptCounted :
    Keeps (regMask [.LNK_LSTAT, .LNK_HATT, .LNK_LTXEQ, .WRD_TXCLAMP, .WRD_LOGCTL, .WRD_LOGLOST, .WRD_LOG_W]) (partMask [.lnk]) s
      (attemptCounted n stage1 s) :=
  (keeps_satAdd ..).after rfl rfl ((keeps_overrides ..).after rfl rfl ((keeps_stagesStarted ..).mono rfl rfl))

theorem head_attemptStart : ((attemptStart n fromRec stage1 s).head n).attempt = true ∧
    ((attemptStart n fromRec stage1 s).head n).fromRec = fromRec ∧ ((attemptStart n fromRec stage1 s).head n).startAt = s.stamp ∧
    ((attemptStart n fromRec stage1 s).head n).train = s.rd F.LNK_TMO.TRAIN (n / 2) := by
  have hcounted := keeps_attemptCounted n stage1 s
  rw [attemptStart_eq, head_setHead_same]
  exact ⟨rfl, rfl, hcounted.stamp rfl, hcounted.rd _ _ rfl⟩

theorem attempts_attemptStart :
    (attemptStart n fromRec stage1 s).rd F.LNK_HATT.ATTEMPTS n = min (s.rd F.LNK_HATT.ATTEMPTS n + 1) 0xFFFF := by
  rw [attemptStart_eq, rd_setHead, attemptCounted, rd_satAdd_same _ _ _ _ (by decide), (keeps_overrides ..).rd _ _ rfl,
    (keeps_stagesStarted ..).rd _ _ rfl]
  rfl

theorem stage_attemptStart {g : Nat} (hg : g ∈ headLanes s n) :
    (attemptStart n fromRec stage1 s).rd F.LNK_LSTAT.STAGE g = if stage1.contains g = true then 1 else 0 := by
  rw [attemptStart_eq, rd_setHead, attemptCounted, rd_satAdd_other _ _ _ _ _ _ (.inl (by decide)), (keeps_overrides ..).rd _ _ rfl]
  refine foldl_own (State.rd · F.LNK_LSTAT.STAGE g) (new := fun _ => if stage1.contains g = true then 1 else 0) hg (headLanes_nodup ..)
    (fun t => ?_) (fun t b _ hb => rd_wr_other _ _ _ _ _ _ (.inr (.inl hb))) s
  rw [rd_wr_same _ _ _ _ (by decide), Nat.mod_eq_of_lt]
  split <;> decide

end

theorem attemptStart_detect {s : State} {n : Fin 16} {found : BitVec 16} (hctl : s.rd F.LNK_HSTAT.CTLST n = 2)
    (hltssm : s.rd F.LNK_HSTAT.LTSSM n = 0) (hpll : headPll s n = true) (hfound : ∃ g ∈ lanesIn s n, found.getLsbD (g % 16) = true) :
    Completes (.attemptStart n (.detect found)) s fun t =>
      t.rd F.LNK_HSTAT.LTSSM n = 1 ∧ t.rd F.LNK_HSTAT.CTLST n = 2 ∧ (t.head n).attempt = true ∧ (t.head n).fromRec = false ∧
      (t.head n).startAt = s.stamp ∧ (t.head n).train = s.rd F.LNK_TMO.TRAIN (n / 2) ∧
      t.rd F.LNK_HATT.ATTEMPTS n = min (s.rd F.LNK_HATT.ATTEMPTS n + 1) 0xFFFF ∧
      ∀ g ∈ headLanes s n, t.rd F.LNK_LSTAT.STAGE g = if laneRetired s g = false ∧ found.getLsbD (g % 16) = true then 1 else 0 := by
  let stage1 := (lanesIn s n).filter (fun g => found.getLsbD (g % 16))
  have hsome : stage1.isEmpty = false := by
    obtain ⟨g, hg, hbit⟩ := hfound
    rw [List.isEmpty_eq_false_iff]
    exact List.ne_nil_of_mem (List.mem_filter.mpr ⟨hg, hbit⟩)
  have hpolling := keeps_setLtssm n 1 s
  have hstart := keeps_attemptStart n false stage1 (setLtssm n 1 s)
  obtain ⟨hattempt, hfromRec, hstartAt, htrain⟩ := head_attemptStart n false stage1 (setLtssm n 1 s)
  refine Completes.of_guarded (f := fun s => attemptStart n false stage1 (setLtssm n 1 s)) rfl ?_
    ⟨?_, ?_, hattempt, hfromRec, hstartAt, htrain.trans (hpolling.rd _ _ rfl), ?_, fun g hg => ?_⟩
  · rw [hctl, hltssm, hpll]
    exact Bool.not_eq_true' _ ▸ hsome
  · exact (hstart.rd _ _ rfl).trans (rd_wr_same _ _ _ _ (by decide))
  · exact (hstart.rd _ _ rfl).trans ((rd_wr_apart (by decide) ..).trans hctl)
  · exact (attempts_attemptStart ..).trans (by rw [hpolling.rd _ _ rfl])
  · rw [stage_attemptStart _ _ _ _ (by rwa [hpolling.headLanes rfl])]
    exact if_congr (contains_lanesIn_filter hg _) rfl rfl

/-! #### Entering Recovery (R236, R240) -/

theorem rd_countRecovery_count (n : Nat) (s : State) :
    (countRecovery n s).rd F.LNK_HREC.COUNT n = min (s.rd F.LNK_HREC.COUNT n + 1) (2 ^ 32 - 1) := by
  have hcount : (s.satAdd F.LNK_HREC.COUNT n 1).rd F.LNK_HREC.COUNT n = min (s.rd F.LNK_HREC.COUNT n + 1) (2 ^ 32 - 1) :=
    rd_satAdd_same _ _ _ _ (by decide)
  unfold countRecovery
  dsimp only
  split
  · exact ((keeps_headCause ..).rd _ _ rfl).trans hcount
  · exact hcount

/-- Head n in Recovery, its attempt not yet started. -/
def recoveryEntered (n : Nat) (counted equalise : Bool) (s : State) : State :=
  setLtssm n (if equalise then 5 else 4) (setCtl n 4 ((if counted then countRecovery n s else s).off F.EVC_TCH.L1EXIT n))

theorem enterRecovery_eq (n : Nat) (counted equalise : Bool) (s : State) : enterRecovery n counted equalise s =
    attemptStart n true ((lanesIn (recoveryEntered n counted equalise s) n).filter
      fun g => (recoveryEntered n counted equalise s).flag F.LNK_LSTAT.INLINK g) (recoveryEntered n counted equalise s) := rfl

theorem keeps_recoveryEntered (n : Nat) (counted equalise : Bool) (s : State) :
    Keeps (regMask [.LNK_HSTAT, .LNK_HREC, .LNK_HEVT, .EVC_TCH, .EVC_CSTAT]) (partMask [.freeCtr, .evc, .lnk]) s
      (recoveryEntered n counted equalise s) := by
  refine (keeps_setLtssm ..).after rfl rfl ((keeps_setCtl ..).after rfl rfl ((keeps_off ..).after rfl rfl ?_))
  cases counted with
  | true => exact (keeps_countRecovery ..).mono rfl rfl
  | false => exact Keeps.refl s

theorem rd_recoveryEntered_count (n : Nat) (counted equalise : Bool) (s : State) : (recoveryEntered n counted equalise s).rd F.LNK_HREC.COUNT n =
    if counted = true then min (s.rd F.LNK_HREC.COUNT n + 1) (2 ^ 32 - 1) else s.rd F.LNK_HREC.COUNT n := by
  rw [recoveryEntered, (keeps_setLtssm ..).rd _ _ rfl, (keeps_setCtl ..).rd _ _ rfl, (keeps_off ..).rd _ _ rfl]
  cases counted with
  | true => exact rd_countRecovery_count n s
  | false => rfl

theorem attemptStart_recovery {s : State} {n : Fin 16} (counted eq : Bool) (hactive : linkActive s n = true) :
    Completes (.attemptStart n (.recovery counted eq)) s fun t =>
      t.rd F.LNK_HSTAT.LTSSM n = (if eq = true then 5 else 4) ∧ t.rd F.LNK_HSTAT.CTLST n = 4 ∧ (t.head n).attempt = true ∧
      (t.head n).fromRec = true ∧
      t.rd F.LNK_HREC.COUNT n = (if counted = true then min (s.rd F.LNK_HREC.COUNT n + 1) (2 ^ 32 - 1) else s.rd F.LNK_HREC.COUNT n) ∧
      ∀ g ∈ headLanes s n, t.rd F.LNK_LSTAT.STAGE g =
        if laneRetired s g = false ∧ s.flag F.LNK_LSTAT.INLINK g = true then 1 else 0 := by
  have hentered := keeps_recoveryEntered n counted eq s
  have hlanes : (lanesIn (recoveryEntered n counted eq s) n).filter (fun g => (recoveryEntered n counted eq s).flag F.LNK_LSTAT.INLINK g) =
      (lanesIn s n).filter (fun g => s.flag F.LNK_LSTAT.INLINK g) := by
    rw [hentered.lanesIn rfl rfl]
    exact List.filter_congr fun g _ => hentered.flag _ _ rfl
  obtain ⟨hctl, hltssm, -⟩ := status_setCtl n (st := 4) (l := if eq = true then 5 else 4) (by decide) (by split <;> decide)
    ((if counted = true then countRecovery n s else s).off F.EVC_TCH.L1EXIT n)
  have hstart := keeps_attemptStart n true ((lanesIn s n).filter fun g => s.flag F.LNK_LSTAT.INLINK g) (recoveryEntered n counted eq s)
  obtain ⟨hattempt, hfromRec, -, -⟩ :=
    head_attemptStart n true ((lanesIn s n).filter fun g => s.flag F.LNK_LSTAT.INLINK g) (recoveryEntered n counted eq s)
  refine Completes.of_guarded (f := enterRecovery n counted eq) rfl hactive ?_
  rw [enterRecovery_eq, hlanes]
  refine ⟨(hstart.rd _ _ rfl).trans hltssm, (hstart.rd _ _ rfl).trans hctl, hattempt, hfromRec,
    (hstart.rd _ _ rfl).trans (rd_recoveryEntered_count ..), fun g hg => ?_⟩
  rw [stage_attemptStart _ _ _ _ (by rwa [hentered.headLanes rfl])]
  exact if_congr (contains_lanesIn_filter hg _) rfl rfl

/-! #### The formed link (R226, R227, R243, R244) -/

/-- Lane g of a head whose link takes the lanes `ll`, in its registers. -/
def showLane (ll : List Nat) (s : State) (g : Nat) : State :=
  if ll.contains g then ((s.wr F.LNK_LSTAT.STAGE g 6).on F.LNK_LSTAT.INLINK g).wr F.LNK_LSTAT.LNUM g (ll.findIdx (· == g))
  else (s.off F.LNK_LSTAT.INLINK g).wr F.LNK_LSTAT.LNUM g 0

/-- The form of head n's link in LNK_HSTAT. -/
def showForm (n : Nat) (f : LinkForm) (s : State) : State :=
  (((s.wr F.LNK_HSTAT.RATE n f.rate).wr F.LNK_HSTAT.WIDTH n f.width).wr F.LNK_HSTAT.FLIT n (b2n f.flit)).wr F.LNK_HSTAT.REV n (b2n f.rev)

/-- The port ID that the fabric manager has assigned, if it has (log entry 79). -/
def showPid (n : Nat) (f : LinkForm) (s : State) : State :=
  match f.pid with
  | some pid => s.wr F.COH_HEAD.PID n pid.toNat
  | none => s

theorem showLink_eq (n : Nat) (f : LinkForm) (s : State) :
    showLink n f s = showPid n f (showForm n f ((headLanes s n).foldl (showLane (linkLanes s n f)) s)) := by
  unfold showLink showPid
  rfl

theorem keeps_showPid (n : Nat) (f : LinkForm) (s : State) : Keeps (regMask [.COH_HEAD]) 0 s (showPid n f s) := by
  unfold showPid
  split
  · exact (keeps_wr ..).mono rfl rfl
  · exact Keeps.refl s

theorem keeps_showForm (n : Nat) (f : LinkForm) (s : State) : Keeps (regMask [.LNK_HSTAT]) 0 s (showForm n f s) :=
  (keeps_wr ..).after rfl rfl ((keeps_wr ..).after rfl rfl ((keeps_wr ..).after rfl rfl ((keeps_wr ..).mono rfl rfl)))

theorem inlink_showLane_same (ll : List Nat) (s : State) (g : Nat) : (showLane ll s g).flag F.LNK_LSTAT.INLINK g = ll.contains g := by
  unfold showLane
  split
  · rename_i hin
    rw [flag_wr_apart (by decide), flag_on_same _ _ _ (by decide) (by decide), hin]
  · rename_i hout
    rw [flag_wr_apart (by decide), flag_off_same _ _ _ (by decide), Bool.eq_false_of_not_eq_true hout]

theorem inlink_showLane_other (ll : List Nat) (s : State) {g a : Nat} (h : a ≠ g) :
    (showLane ll s a).flag F.LNK_LSTAT.INLINK g = s.flag F.LNK_LSTAT.INLINK g := by
  have hwr (t : State) (f : Fld) (v : Nat) : (t.wr f a v).flag F.LNK_LSTAT.INLINK g = t.flag F.LNK_LSTAT.INLINK g :=
    flag_wr_other _ _ _ _ _ _ (.inr (.inl h))
  unfold showLane State.on State.off
  split
  · rw [hwr, hwr, hwr]
  · rw [hwr, hwr]

theorem inlink_showLink {n g : Nat} (f : LinkForm) {s : State} (hg : g ∈ headLanes s n) :
    (showLink n f s).flag F.LNK_LSTAT.INLINK g = (linkLanes s n f).contains g := by
  rw [showLink_eq, (keeps_showPid ..).flag _ _ rfl, (keeps_showForm ..).flag _ _ rfl]
  exact foldl_own (State.flag · F.LNK_LSTAT.INLINK g) (new := fun _ => (linkLanes s n f).contains g) hg (headLanes_nodup ..)
    (fun t => inlink_showLane_same ..) (fun t a _ ha => inlink_showLane_other _ t ha) s

theorem form_showLink (n : Nat) {f : LinkForm} (hwidth : f.width < 32) (s : State) :
    (showLink n f s).rd F.LNK_HSTAT.RATE n = f.rate.val ∧ (showLink n f s).rd F.LNK_HSTAT.WIDTH n = f.width ∧
    (showLink n f s).flag F.LNK_HSTAT.FLIT n = f.flit ∧ (showLink n f s).flag F.LNK_HSTAT.REV n = f.rev := by
  have hpid := keeps_showPid n f (showForm n f ((headLanes s n).foldl (showLane (linkLanes s n f)) s))
  have hrate : f.rate.val % 2 ^ F.LNK_HSTAT.RATE.width = f.rate.val := Nat.mod_eq_of_lt f.rate.isLt
  have hw : f.width % 2 ^ F.LNK_HSTAT.WIDTH.width = f.width := Nat.mod_eq_of_lt hwidth
  rw [showLink_eq, hpid.rd _ _ rfl, hpid.rd _ _ rfl, hpid.flag _ _ rfl, hpid.flag _ _ rfl, showForm]
  simp (disch := decide) [rd_wr_apart, flag_wr_apart, rd_wr_same, flag_wr_b2n, hrate, hw]

theorem cxlAfter_effect (n : Nat) (fromRec : Bool) (f : LinkForm) (s : State) :
    ((cxlAfter n fromRec f s).head n).attempt = (s.head n).attempt ∧
    (f.rate.val < 5 ∨ f.rate.val = 7 ∨ f.width < 4 → (cxlAfter n fromRec f s).flag F.LNK_HSTAT.CXLUP n = false) := by
  unfold cxlAfter
  dsimp only
  refine ⟨(congrArg HeadRec.attempt (head_setHead_same s n _)).trans rfl, fun hform => ?_⟩
  rw [flag_wr_b2n _ _ _ _ (by decide) (by decide)]
  have hcases : f.rate.val ≠ 5 ∧ f.rate.val ≠ 6 ∨ ¬4 ≤ f.width := by omega
  rcases hcases with ⟨h5, h6⟩ | hwidth
  · simp [h5, h6]
  · simp [hwidth]

theorem rd_cxlAfter_other {g : Fld} (h : F.LNK_HSTAT.CXLUP.Beside g) (n : Nat) (fromRec : Bool) (f : LinkForm) (s : State) :
    (cxlAfter n fromRec f s).rd g n = s.rd g n := rd_wr_apart h _ _ _

theorem formOk_iff {s : State} {n : Nat} {f : LinkForm} : formOk s n f = true ↔
    (1 ≤ f.rate.val ∧ f.rate.val ≤ (s.head n).limit) ∧ (f.rate.val ≤ 5 ∨ f.flit = true) ∧ f.width ∈ [1, 2, 4, 8, 16] ∧
    f.width ≤ (headLanes s n).length ∧ ∀ g ∈ linkLanes s n f, laneRetired s g = false ∧ s.rd F.LNK_LSTAT.STAGE g ≠ 0 := by
  simp [formOk, List.all_eq_true, and_assoc]

/-! #### What a charge of a lane leaves alone (R241, R242) -/

section
variable {f : Fld} (hret : RegName.LNK_RET ≠ f.reg) (hshown : F.LNK_LSTAT.RETIRED.Beside f) (hevent : F.LNK_HEVT.RETIRED.Beside f)
  (hcore : f.reg ≠ .EVC_CSTAT)
include hret hshown hevent hcore

theorem rd_retireLane_other (n a : Nat) (s : State) (i : Nat) : (retireLane n a s).rd f i = s.rd f i := by
  unfold retireLane
  rw [headCause, rd_raiseCause_other _ _ _ (Fld.apart_of_places hevent _ _) hcore, rd_upd, rd_on_other _ _ _ _ _ (Fld.apart_of_places hshown _ _),
    rd_wrBit_other _ _ _ _ _ _ _ (.inl hret)]

theorem rd_chargeLanes_other (n : Nat) (success : Bool) (s : State) (i : Nat) : (chargeLanes n success s).rd f i = s.rd f i := by
  refine foldl_unchanged (State.rd · f i) (fun t a _ => ?_) s
  unfold chargeLane
  dsimp only
  split
  · split
    · exact rd_retireLane_other hret hshown hevent hcore n a t i
    · rfl
  · rfl

end

/-! #### The end of an attempt (R233, R235, R236) -/

/-- The link of a won attempt, with its charges and its CXL, before head n is Up. -/
def attemptWon (n : Nat) (f : LinkForm) (s : State) : State :=
  cxlAfter n (s.head n).fromRec f ((chargeLanes n true (showLink n f s)).setHead n
    { (chargeLanes n true (showLink n f s)).head n with attempt := false, l0pIdle := 0 })

theorem attemptWon_effect (n : Nat) (f : LinkForm) (s : State) : ((attemptWon n f s).head n).attempt = false ∧
    (f.rate.val < 5 ∨ f.rate.val = 7 ∨ f.width < 4 → (attemptWon n f s).flag F.LNK_HSTAT.CXLUP n = false) := by
  unfold attemptWon
  generalize chargeLanes n true (showLink n f s) = u
  obtain ⟨hended, hcxl⟩ := cxlAfter_effect n (s.head n).fromRec f (u.setHead n { u.head n with attempt := false, l0pIdle := 0 })
  exact ⟨hended.trans ((congrArg HeadRec.attempt (head_setHead_same u n _)).trans rfl), hcxl⟩

/-- A field of LNK_HSTAT beside CXLUP shows what the link's form left in it. -/
theorem rd_attemptWon {g : Fld} (hreg : g.reg = .LNK_HSTAT) (hcxl : F.LNK_HSTAT.CXLUP.Beside g) (n : Nat) (f : LinkForm) (s : State) :
    (attemptWon n f s).rd g n = (showLink n f s).rd g n := by
  rw [attemptWon, rd_cxlAfter_other hcxl, rd_setHead, (keeps_chargeLanes ..).rd g n (by rw [hreg]; rfl)]

theorem inlink_attemptWon {n g : Nat} (f : LinkForm) {s : State} (hg : g ∈ headLanes s n) :
    (attemptWon n f s).flag F.LNK_LSTAT.INLINK g = (linkLanes s n f).contains g := by
  rw [attemptWon, (keeps_cxlAfter ..).flag _ _ rfl, flag_setHead, State.flag, rd_chargeLanes_other (by decide) (by decide) (by decide) (by decide),
    ← State.flag]
  exact inlink_showLink f hg

/-- Head n is Up in L0, with its backoff forgotten. -/
def headUpShown (n : Nat) (s : State) : State := setLtssm n 3 (setCtl n 3 (s.wr F.LNK_HSTAT.BACKOFF_K n 0))

theorem keeps_headUpShown (n : Nat) (s : State) : Keeps (regMask [.LNK_HSTAT]) 0 s (headUpShown n s) :=
  (keeps_setLtssm ..).after rfl rfl ((keeps_setCtl ..).after rfl rfl ((keeps_wr ..).mono rfl rfl))

theorem status_headUpShown (n : Nat) (s : State) :
    (headUpShown n s).rd F.LNK_HSTAT.CTLST n = 3 ∧ (headUpShown n s).rd F.LNK_HSTAT.LTSSM n = 3 ∧
    (headUpShown n s).flag F.LNK_HSTAT.UP n = true ∧ (headUpShown n s).rd F.LNK_HSTAT.BACKOFF_K n = 0 := by
  obtain ⟨hctl, hltssm, hup⟩ := status_setCtl n (st := 3) (l := 3) (by decide) (by decide) (s.wr F.LNK_HSTAT.BACKOFF_K n 0)
  refine ⟨hctl, hltssm, hup, ?_⟩
  rw [headUpShown, rd_setCtl_other (by decide) (by decide) (by decide)]
  exact rd_wr_same _ _ _ _ (by decide)

/-- The fields of LNK_HSTAT that show the form of a link. -/
def formFields : List Fld := [F.LNK_HSTAT.RATE, F.LNK_HSTAT.WIDTH, F.LNK_HSTAT.FLIT, F.LNK_HSTAT.CXLUP, F.LNK_HSTAT.REV]

theorem formFields_beside : ∀ g ∈ formFields, g.reg = .LNK_HSTAT ∧ F.LNK_HSTAT.LTSSM.Beside g ∧ F.LNK_HSTAT.CTLST.Beside g ∧
    F.LNK_HSTAT.UP.Beside g ∧ F.LNK_HSTAT.BACKOFF_K.Beside g := by decide

theorem rd_headUpShown {g : Fld} (hg : g ∈ formFields) (n : Nat) (s : State) : (headUpShown n s).rd g n = s.rd g n := by
  obtain ⟨-, hltssm, hctl, hup, hbackoff⟩ := formFields_beside g hg
  rw [headUpShown, rd_setCtl_other hltssm hctl hup, rd_wr_apart hbackoff]

/-- What goes on once head n is Up: UP is raised, and what waits for the link (R248, R280, R422). -/
def upReady (n : Nat) (raised : Bool) (s : State) : State :=
  linkReady n (if raised then s.off F.EVC_TCH.WAKE n else headCause F.LNK_HEVT.UP F.LNK_HEVEN.UP n (s.off F.EVC_TCH.WAKE n))

theorem exec_attemptSuccess (n : Fin 16) (f : LinkForm) (s : State) : exec (.attemptSuccess n f) s =
    done (guarded ((s.head n).attempt && formOk s n f) s fun s => upReady n (s.head n).fromRec (headUpShown n (attemptWon n f s))) := rfl

theorem keeps_upReady (n : Nat) (raised : Bool) (s : State) :
    Keeps (regMask [.LNK_HEVT, .COH_EVT, .COH_DC_ERR, .SHX_MSIX_PBA, .EVC_CSTAT, .EVC_HOLD, .EVC_TCH]) (partMask [.freeCtr, .out, .evc, .coh]) s
      (upReady n raised s) := by
  refine (keeps_linkReady ..).after rfl rfl ?_
  split
  · exact (keeps_off ..).mono rfl rfl
  · exact (keeps_headCause ..).after rfl rfl ((keeps_off ..).mono rfl rfl)

theorem event_upReady (n : Nat) (s : State) : (upReady n false s).flag F.LNK_HEVT.UP n = true :=
  ((keeps_linkReady ..).flag _ _ rfl).trans (flag_headCause_same _ _ _ (by decide) (by decide) (by decide))

theorem attemptSuccess_completes {s : State} {n : Fin 16} {f : LinkForm} (hattempt : (s.head n).attempt = true) (hok : formOk s n f = true) :
    Completes (.attemptSuccess n f) s fun t =>
      t.rd F.LNK_HSTAT.CTLST n = 3 ∧ t.rd F.LNK_HSTAT.LTSSM n = 3 ∧ t.flag F.LNK_HSTAT.UP n = true ∧ t.rd F.LNK_HSTAT.BACKOFF_K n = 0 ∧
      t.rd F.LNK_HSTAT.RATE n = f.rate.val ∧ t.rd F.LNK_HSTAT.WIDTH n = f.width ∧ t.flag F.LNK_HSTAT.FLIT n = f.flit ∧
      t.flag F.LNK_HSTAT.REV n = f.rev ∧ (t.head n).attempt = false ∧
      (f.rate.val < 5 ∨ f.rate.val = 7 ∨ f.width < 4 → t.flag F.LNK_HSTAT.CXLUP n = false) ∧
      (∀ g ∈ headLanes s n, t.flag F.LNK_LSTAT.INLINK g = (linkLanes s n f).contains g) ∧
      ((s.head n).fromRec = false → t.flag F.LNK_HEVT.UP n = true) := by
  have hwidth : f.width < 32 := by
    obtain ⟨-, -, hmem, -, -⟩ := formOk_iff.mp hok
    have hall : ∀ w ∈ [1, 2, 4, 8, 16], w < 32 := by decide
    exact hall _ hmem
  have hready := keeps_upReady n (s.head n).fromRec (headUpShown n (attemptWon n f s))
  have hup := keeps_headUpShown n (attemptWon n f s)
  have hform {g : Fld} (hg : g ∈ formFields) :
      (upReady n (s.head n).fromRec (headUpShown n (attemptWon n f s))).rd g n = (attemptWon n f s).rd g n := by
    obtain ⟨hreg, -⟩ := formFields_beside g hg
    exact (hready.rd g n (by rw [hreg]; rfl)).trans (rd_headUpShown hg ..)
  have hlink {g : Fld} (hg : g ∈ formFields) (hcxl : F.LNK_HSTAT.CXLUP.Beside g) :
      (upReady n (s.head n).fromRec (headUpShown n (attemptWon n f s))).rd g n = (showLink n f s).rd g n := by
    obtain ⟨hreg, -⟩ := formFields_beside g hg
    exact (hform hg).trans (rd_attemptWon hreg hcxl ..)
  obtain ⟨hctl, hltssm, hshown, hbackoff⟩ := status_headUpShown n (attemptWon n f s)
  obtain ⟨hrate, hw, hflit, hrev⟩ := form_showLink n hwidth s
  obtain ⟨hended, hcxl⟩ := attemptWon_effect n f s
  refine Completes.of_guarded (exec_attemptSuccess n f s) (by rw [hattempt, hok]; rfl)
    ⟨(hready.rd _ _ rfl).trans hctl, (hready.rd _ _ rfl).trans hltssm, (hready.flag _ _ rfl).trans hshown, (hready.rd _ _ rfl).trans hbackoff,
      ?_, ?_, ?_, ?_, ?_, fun h => ?_, fun g hg => ?_, fun hdetect => ?_⟩
  · rw [hlink (by decide) (by decide), hrate]
  · rw [hlink (by decide) (by decide), hw]
  · rw [State.flag, hlink (by decide) (by decide), ← State.flag, hflit]
  · rw [State.flag, hlink (by decide) (by decide), ← State.flag, hrev]
  · rw [hready.head rfl, hup.head rfl, hended]
  · rw [State.flag, hform (by decide), ← State.flag, hcxl h]
  · rw [hready.flag _ _ rfl, hup.flag _ _ rfl, inlink_attemptWon f hg]
  · rw [hdetect, event_upReady]

/-- No link forms that the head and its lanes do not allow (R227, R234, R237, R244). -/
theorem attemptSuccess_refused {s : State} {n : Fin 16} {f : LinkForm} (hno : (5 < f.rate.val ∧ f.flit = false) ∨
    (∃ g ∈ linkLanes s n f, s.rd F.LNK_LSTAT.STAGE g = 0 ∨ laneRetired s g = true)) :
    Completes (.attemptSuccess n f) s fun t => t = s := by
  have hform : formOk s n f = false := by
    refine Bool.eq_false_iff.mpr fun hok => ?_
    obtain ⟨-, hflit, -, -, hlanes⟩ := formOk_iff.mp hok
    rcases hno with ⟨hrate, hoff⟩ | ⟨g, hg, hlane⟩
    · rcases hflit with h | h
      · omega
      · exact Bool.false_ne_true (hoff.symm.trans h)
    · obtain ⟨hin, hstage⟩ := hlanes g hg
      rcases hlane with h | h
      · exact hstage h
      · exact Bool.false_ne_true (hin.symm.trans h)
  refine Completes.of_eq (t := s) ((exec_attemptSuccess n f s).trans (congrArg done (guarded_false ?_))) rfl
  rw [hform, Bool.and_false]

/-- The backoff count after one more failed attempt (R235). -/
def nextBackoff (s : State) (n : Nat) : Nat := min 15 (s.rd F.LNK_HSTAT.BACKOFF_K n + 1)

/-- A failed attempt is counted, and its lanes are charged. -/
def failCharged (n : Nat) (s : State) : State := chargeLanes n false (s.satAdd F.LNK_HATT.FAILED n 1)

/-- A failed attempt with its link gone, head n in Backoff. -/
def attemptLost (n : Nat) (s : State) : State :=
  linkGone n 5 ((failCharged n s).wr F.LNK_HSTAT.BACKOFF_K n (nextBackoff (failCharged n s) n))

theorem attemptFail_eq (n : Nat) (s : State) : attemptFail n s = downIf (s.head n).fromRec n ((attemptLost n s).setHead n
    { (attemptLost n s).head n with
      backoffEnd := (attemptLost n s).stamp + 1000000 * min 512 (2 ^ (nextBackoff (failCharged n s) n - 1)) }) := rfl

theorem keeps_failCharged (n : Nat) (s : State) : Keeps (regMask [.LNK_HATT, .LNK_RET, .LNK_HEVT, .LNK_LSTAT, .EVC_CSTAT])
    (partMask [.freeCtr, .evc, .lnk]) s (failCharged n s) := (keeps_chargeLanes ..).after rfl rfl ((keeps_satAdd ..).mono rfl rfl)

theorem nextBackoff_failCharged (n : Nat) (s : State) : nextBackoff (failCharged n s) n = nextBackoff s n := by
  rw [nextBackoff, (keeps_failCharged n s).rd _ _ rfl, nextBackoff]

theorem keeps_attemptLost (n : Nat) (s : State) :
    Keeps (regMask ([.LNK_HSTAT, .LNK_LSTAT, .LNK_LLB] ++ goneRegs)) (partMask (.lnk :: goneParts)) (failCharged n s) (attemptLost n s) :=
  (keeps_linkGone ..).after rfl rfl ((keeps_wr ..).mono rfl rfl)

theorem status_attemptLost (n : Nat) (s : State) :
    (attemptLost n s).rd F.LNK_HSTAT.CTLST n = 5 ∧ (attemptLost n s).rd F.LNK_HSTAT.LTSSM n = 0 ∧
    (attemptLost n s).flag F.LNK_HSTAT.UP n = false ∧ (attemptLost n s).rd F.LNK_HSTAT.WIDTH n = 0 ∧
    (attemptLost n s).rd F.LNK_HSTAT.BACKOFF_K n = nextBackoff s n := by
  obtain ⟨hctl, hltssm, hup, -, hwidth, hk⟩ :=
    status_linkGone n (st := 5) (by decide) ((failCharged n s).wr F.LNK_HSTAT.BACKOFF_K n (nextBackoff (failCharged n s) n))
  have hlt : nextBackoff s n < 2 ^ F.LNK_HSTAT.BACKOFF_K.width := (Nat.min_le_left ..).trans_lt (by decide)
  refine ⟨hctl, hltssm, hup, hwidth, hk.trans ?_⟩
  rw [rd_wr_same _ _ _ _ (by decide), nextBackoff_failCharged, Nat.mod_eq_of_lt hlt]

theorem head_attemptFail (n : Nat) (s : State) : ((attemptFail n s).head n).attempt = false ∧
    ((attemptFail n s).head n).backoffEnd = s.stamp + 1000000 * min 512 (2 ^ (nextBackoff s n - 1)) := by
  rw [attemptFail_eq, (keeps_downIf ..).head rfl, head_setHead_same, (keeps_attemptLost n s).stamp rfl, (keeps_failCharged n s).stamp rfl,
    nextBackoff_failCharged, attemptLost, head_linkGone]
  exact ⟨rfl, rfl⟩

/-- Behind the end of a failed attempt DOWN alone may still be raised. -/
theorem keeps_attemptFail_rest (n : Nat) (s : State) :
    Keeps (regMask [.LNK_HEVT, .EVC_CSTAT]) (partMask [.freeCtr, .evc, .lnk]) (attemptLost n s) (attemptFail n s) := by
  rw [attemptFail_eq]
  exact (keeps_downIf ..).after rfl rfl ((keeps_setHead ..).mono rfl rfl)

theorem counts_attemptFail (n : Nat) (s : State) :
    (attemptFail n s).rd F.LNK_HATT.FAILED n = min (s.rd F.LNK_HATT.FAILED n + 1) 0xFFFF ∧
    (attemptFail n s).flag F.LNK_HEVT.DOWN n = ((s.head n).fromRec || s.flag F.LNK_HEVT.DOWN n) := by
  constructor
  · rw [(keeps_attemptFail_rest n s).rd _ _ rfl, (keeps_attemptLost n s).rd _ _ rfl, failCharged, (keeps_chargeLanes ..).rd _ _ rfl]
    exact rd_satAdd_same _ _ _ _ (by decide)
  · rw [attemptFail_eq, flag_downIf, flag_setHead, (keeps_attemptLost n s).flag _ _ rfl, failCharged, State.flag,
      rd_chargeLanes_other (by decide) (by decide) (by decide) (by decide), (keeps_satAdd ..).rd _ _ rfl, ← State.flag]

theorem backoffEnd_completes {s : State} {n : Fin 16} (hctl : s.rd F.LNK_HSTAT.CTLST n = 5) (hend : (s.head n).backoffEnd ≤ s.dtcNow) :
    Completes (.backoffEnd n) s fun t => t.rd F.LNK_HSTAT.CTLST n = 2 ∧ t.rd F.LNK_HSTAT.LTSSM n = 0 ∧ t.lnk = s.lnk := by
  obtain ⟨hctl', hltssm, -⟩ := status_setCtl n (st := 2) (l := 0) (by decide) (by decide) s
  exact Completes.of_guarded (f := fun s => setLtssm n 0 (setCtl n 2 s)) rfl (by rw [hctl, decide_eq_true hend]; rfl) ⟨hctl', hltssm, rfl⟩

/-! #### An Up link goes to Detect (R236, R249) -/

/-- A link in L0, L0p or L1 is neither in L2 nor in the standard's Loopback. -/
theorem linkActive_iff {s : State} {n : Nat} :
    linkActive s n = true ↔ s.rd F.LNK_HSTAT.CTLST n = 3 ∧ s.rd F.LNK_HSTAT.LTSSM n ∈ [3, 6, 7] := by
  rw [linkActive, Bool.and_eq_true, beq_iff_eq, List.contains_iff_mem]

theorem exec_redetect {s : State} {n : Fin 16} (hexists : headExists s n = true) (hattempt : (s.head n).attempt = false) :
    exec (.redetect n) s = done (if s.rd F.LNK_HSTAT.LTSSM n = 10 then leaveLoopback n s else if linkActive s n then upToDetect n true s
      else if s.rd F.LNK_HSTAT.CTLST n = 3 ∧ s.rd F.LNK_HSTAT.LTSSM n = 8 then upToDetect n false s else s) := by
  refine congrArg done ((guarded_true hexists).trans ?_)
  rw [hctlRedetect, hattempt]
  rfl

theorem exec_linkDown_or_redetect {s : State} {n : Fin 16} (hactive : linkActive s n = true) {c : Instr}
    (hc : c ∈ [Instr.linkDown n, Instr.redetect n]) (hexists : headExists s n = true) (hattempt : (s.head n).attempt = false) :
    exec c s = done (upToDetect n true s) := by
  obtain ⟨-, hltssm⟩ := linkActive_iff.mp hactive
  have hloopback : s.rd F.LNK_HSTAT.LTSSM n ≠ 10 := by
    intro h
    rw [h] at hltssm
    exact absurd hltssm (by decide)
  rcases List.mem_pair.mp hc with rfl | rfl
  · exact congrArg done (guarded_true hactive)
  · rw [exec_redetect hexists hattempt, if_neg hloopback, if_pos hactive]

/-- Settles O23: an attempt's two ends and its start write the head's record and LNK_HSTAT, and the charges, the snoops and the notifications that
follow leave those alone; an active link is neither in Loopback nor in L2, so REDETECT takes it down as LINK_DOWN does. -/
theorem headsFollowTheirControlTable : Obligations.HeadsFollowTheirControlTable := by
  unfold Obligations.HeadsFollowTheirControlTable
  refine ⟨?_, ?_, ?_, ?_, ?_, ?_, ?_, ?_, ?_, ?_⟩
  · exact fun s n found hctl hltssm hpll hfound => attemptStart_detect hctl hltssm hpll hfound
  · exact fun s n counted eq hactive => attemptStart_recovery counted eq hactive
  · exact fun s n f hattempt hform => attemptSuccess_completes hattempt hform
  · exact fun s n f hno => attemptSuccess_refused hno
  · intro s n hattempt
    have hrest := keeps_attemptFail_rest n s
    obtain ⟨hctl, hltssm, hup, hwidth, hk⟩ := status_attemptLost n s
    obtain ⟨hended, hend⟩ := head_attemptFail n s
    obtain ⟨hfailed, hdown⟩ := counts_attemptFail n s
    exact Completes.of_guarded (f := attemptFail n) rfl hattempt ⟨(hrest.rd _ _ rfl).trans hctl, (hrest.rd _ _ rfl).trans hltssm,
      (hrest.flag _ _ rfl).trans hup, (hrest.rd _ _ rfl).trans hwidth, (hrest.rd _ _ rfl).trans hk, hend, hfailed, hended, hdown⟩
  · intro s n hattempt hexpired
    refine Completes.of_guarded (f := attemptFail n) rfl ?_ (congrArg done (guarded_true hattempt))
    rw [hattempt, hexpired]
    rfl
  · exact fun s n hctl hend => backoffEnd_completes hctl hend
  · intro s n hactive c hc hexists hattempt
    obtain ⟨hctl, hltssm, hrate, -, hdown⟩ := downIf_linkGone true n (st := 2) (by decide) s
    refine Completes.of_eq (exec_linkDown_or_redetect hactive hc hexists hattempt) ⟨hctl, hltssm, hdown, hrate, ?_, fun g hg => ?_⟩
    · exact (congrArg LnkState.charges ((keeps_downIf ..).part .lnk rfl)).trans (charges_linkGone ..)
    · exact ((keeps_downIf ..).flag _ _ rfl).trans (lanes_linkGone n 2 hg).1
  · intro s n hexists hattempt hloopback
    obtain ⟨hltssm, hctl, -, hlanes⟩ := leaveLoopback_effect n s
    exact Completes.of_eq ((exec_redetect hexists hattempt).trans (congrArg done (if_pos hloopback))) ⟨hltssm, hctl, hlanes⟩
  · intro s n hctl hltssm
    obtain ⟨hctl', hltssm', -, -, hdown⟩ := downIf_linkGone false n (st := 2) (by decide) s
    exact Completes.of_guarded (f := upToDetect n false) rfl (by rw [hctl, hltssm]; rfl) ⟨hctl', hltssm', hdown⟩

end Sys2Proof.Machine
/-! ### Heads under the Keeper, the board and the partner (R225, R236, R237, R246, R247, R249) -/

namespace Sys2Proof.Machine
open Sys2Proof

/-! #### HOLD (R236, R246) -/

theorem holdWrite_holds {s : State} {n : Fin 16} (hexists : headExists s n = true) (hctl : s.rd F.LNK_HSTAT.CTLST n ≠ 0) :
    Completes (.holdWrite n true) s fun t =>
      t.flag F.LNK_HCTL.HOLD n = true ∧ t.rd F.LNK_HSTAT.CTLST n = 0 ∧ t.rd F.LNK_HSTAT.LTSSM n = 0 ∧ t.rd F.LNK_HSTAT.WIDTH n = 0 ∧
      t.flag F.LNK_HEVT.DOWN n = (s.rd F.LNK_HSTAT.CTLST n == 3 || s.flag F.LNK_HEVT.DOWN n) := by
  have hexec : exec (.holdWrite n true) s =
      done (downIf (s.rd F.LNK_HSTAT.CTLST n == 3) n (linkGone n 0 (s.on F.LNK_HCTL.HOLD n))) :=
    congrArg done ((guarded_true hexists).trans (if_neg hctl))
  have hon := keeps_on s F.LNK_HCTL.HOLD n
  obtain ⟨hctl', hltssm, -, hwidth, hdown⟩ := downIf_linkGone (s.rd F.LNK_HSTAT.CTLST n == 3) n (st := 0) (by decide) (s.on F.LNK_HCTL.HOLD n)
  refine Completes.of_eq hexec ⟨?_, hctl', hltssm, hwidth, hdown.trans (by rw [hon.flag _ _ rfl])⟩
  rw [(keeps_downIf ..).flag _ _ rfl, (keeps_linkGone ..).flag _ _ rfl, flag_on_same _ _ _ (by decide) (by decide)]

theorem holdWrite_releases {s : State} {n : Fin 16} (hexists : headExists s n = true) (hctl : s.rd F.LNK_HSTAT.CTLST n = 0) :
    Completes (.holdWrite n false) s fun t =>
      if loopedLane s n = true then t = s
      else t.flag F.LNK_HCTL.HOLD n = false ∧
        t.rd F.LNK_HSTAT.CTLST n = if perstHigh s n = false then 0 else if lrefPresent s (n / 2) = true then 2 else 1 := by
  have hexec : exec (.holdWrite n false) s = done (if loopedLane s n then s else
      if s.rd F.LNK_HSTAT.CTLST n = 0 ∧ perstHigh s n then headRelease n (s.off F.LNK_HCTL.HOLD n) else s.off F.LNK_HCTL.HOLD n) :=
    congrArg done (guarded_true hexists)
  have hoff := keeps_off s F.LNK_HCTL.HOLD n
  refine Completes.of_eq hexec ?_
  split
  · rfl
  · cases hperst : perstHigh s n with
    | false =>
      rw [if_neg fun h => Bool.false_ne_true h.2, if_pos rfl, hoff.rd _ _ rfl]
      exact ⟨flag_off_same _ _ _ (by decide), hctl⟩
    | true =>
      rw [if_pos ⟨hctl, rfl⟩, if_neg (Ne.symm Bool.false_ne_true), (keeps_headRelease ..).flag _ _ rfl, (status_headRelease ..).1,
        hoff.lrefPresent rfl]
      exact ⟨flag_off_same _ _ _ (by decide), rfl⟩

/-! #### PERST_N and head resets (R236, R444) -/

/-- The pin PERST_N[n] at a level. -/
def withPerst (n : Nat) (b : Bool) (s : State) : State :=
  { s with lnk := { s.lnk with perst := BitVec.ofNat 16 (nsetBit s.lnk.perst.toNat n b) } }

theorem perstHigh_withPerst {n : Nat} (hn : n < 16) (b : Bool) (s : State) : perstHigh (withPerst n b s) n = b := by
  rw [perstHigh, withPerst, BitVec.getLsbD_ofNat, testBit_nsetBit, if_pos rfl, decide_eq_true hn, Bool.true_and]

theorem perstHigh_congr {s t : State} (h : t.lnk = s.lnk) (n : Nat) : perstHigh t n = perstHigh s n :=
  congrArg (fun l : LnkState => l.perst.getLsbD n) h

theorem perstNHigh_completes {s : State} {n : Fin 16} (hexists : headExists s n = true) (hctl : s.rd F.LNK_HSTAT.CTLST n = 0)
    (hhold : s.flag F.LNK_HCTL.HOLD n = false) :
    Completes (.perstNHigh n) s fun t =>
      perstHigh t n = true ∧ t.rd F.LNK_HSTAT.CTLST n = if lrefPresent s (n / 2) = true then 2 else 1 := by
  have hreleased : s.rd F.LNK_HCTL.HOLD n = 0 := by simpa [State.flag] using hhold
  have hexec : exec (.perstNHigh n) s = done (headRelease n (withPerst n true s)) :=
    congrArg done (if_pos ⟨hexists, hctl, hreleased⟩)
  refine Completes.of_eq hexec ⟨?_, (status_headRelease ..).1⟩
  exact (perstHigh_congr ((keeps_headRelease ..).part .lnk rfl) n).trans (perstHigh_withPerst n.isLt true s)

/-- The link of head n taken away by a reset. -/
def linkReset (n : Nat) (s : State) : State := (linkGone n 0 s).off F.EVC_TCH.WAKE n

/-- What a head reset does beside the head's link: its windows, its mailboxes, its interface and its lines (R371, R376, R408). -/
def resetElsewhere (n : Nat) (s : State) : State := cohHeadReset n (shxHeadReset n (clearWindowsGrants n s))

/-- Nothing of the links is touched there. -/
theorem resetElsewhere_links (n : Nat) (s : State) : (resetElsewhere n s).lnk = s.lnk ∧
    ∀ r ∈ [RegName.LNK_HSTAT, .LNK_RET], ∀ i, (resetElsewhere n s).reg r i = s.reg r i := by
  have hwindows := keeps_clearWindowsGrants n s
  have hinterface := keeps_shxHeadReset n (clearWindowsGrants n s)
  have hlines := keeps_cohHeadReset n (shxHeadReset n (clearWindowsGrants n s))
  refine ⟨(hlines.part .lnk rfl).trans ((hinterface.part .lnk rfl).trans (hwindows.part .lnk rfl)), fun r hr i => ?_⟩
  rcases List.mem_pair.mp hr with rfl | rfl
  · exact (hlines.reg _ _ rfl).trans ((hinterface.reg _ _ rfl).trans (hwindows.reg _ _ rfl))
  · exact (hlines.reg _ _ rfl).trans ((hinterface.reg _ _ rfl).trans (hwindows.reg _ _ rfl))

theorem lnk_linkReset (n : Nat) (s : State) : (linkReset n s).lnk = (s.setHead n (s.head n).out).lnk := by
  rw [linkReset, off_lnk, lnk_linkGone]

theorem linkReset_effect (n : Nat) (s : State) :
    (linkReset n s).rd F.LNK_HSTAT.CTLST n = 0 ∧ (linkReset n s).rd F.LNK_HSTAT.LTSSM n = 0 ∧ (linkReset n s).rd F.LNK_HSTAT.WIDTH n = 0 ∧
    (linkReset n s).rd F.LNK_RET.RET (n / 2) = s.rd F.LNK_RET.RET (n / 2) ∧ lrefPresent (linkReset n s) (n / 2) = lrefPresent s (n / 2) := by
  have hoff : Keeps (regMask [.EVC_TCH]) 0 (linkGone n 0 s) (linkReset n s) := (keeps_off ..).mono rfl rfl
  have hgone := keeps_linkGone n 0 s
  obtain ⟨hctl, hltssm, -, -, hwidth, -⟩ := status_linkGone n (st := 0) (by decide) s
  rw [hoff.rd _ _ rfl, hoff.rd _ _ rfl, hoff.rd _ _ rfl, hoff.rd _ _ rfl, hgone.rd F.LNK_RET.RET _ rfl, hoff.lrefPresent rfl,
    hgone.lrefPresent rfl]
  exact ⟨hctl, hltssm, hwidth, rfl, rfl⟩

/-- PERST_N[n] low takes the link away and holds the head; a hot reset lets a head that was not held train again. -/
theorem linkHeadReset_eq (n : Nat) (hot : Bool) (s : State) : linkHeadReset n hot s =
    if hot = true then (if s.rd F.LNK_HSTAT.CTLST n = 0 then linkReset n s else headRelease n (linkReset n s))
    else linkReset n (withPerst n false s) := by
  unfold linkHeadReset
  cases hot with
  | false => rfl
  | true => simp [linkReset]

theorem linkHeadReset_effect (n : Nat) (hot : Bool) (s : State) :
    (linkHeadReset n hot s).rd F.LNK_HSTAT.LTSSM n = 0 ∧ (linkHeadReset n hot s).rd F.LNK_HSTAT.WIDTH n = 0 ∧
    ((linkHeadReset n hot s).head n).attempt = false ∧ (linkHeadReset n hot s).lnk.charges = s.lnk.charges ∧
    (linkHeadReset n hot s).rd F.LNK_RET.RET (n / 2) = s.rd F.LNK_RET.RET (n / 2) ∧
    (hot = false → n < 16 → perstHigh (linkHeadReset n hot s) n = false ∧ (linkHeadReset n hot s).rd F.LNK_HSTAT.CTLST n = 0) ∧
    (hot = true → s.rd F.LNK_HSTAT.CTLST n ≠ 0 →
      (linkHeadReset n hot s).rd F.LNK_HSTAT.CTLST n = if lrefPresent s (n / 2) = true then 2 else 1) := by
  rw [linkHeadReset_eq]
  cases hot with
  | false =>
    obtain ⟨hctl, hltssm, hwidth, hret, -⟩ := linkReset_effect n (withPerst n false s)
    have hlnk := lnk_linkReset n (withPerst n false s)
    obtain ⟨hattempt, hcharges⟩ := of_lnk_gone hlnk
    have hpin (hn : n < 16) : perstHigh (linkReset n (withPerst n false s)) n = false :=
      (perstHigh_congr hlnk n).trans (perstHigh_withPerst hn false s)
    exact ⟨hltssm, hwidth, hattempt, hcharges, hret, fun _ hn => ⟨hpin hn, hctl⟩, nofun⟩
  | true =>
    obtain ⟨hctl, hltssm, hwidth, hret, href⟩ := linkReset_effect n s
    rw [if_pos rfl]
    split
    · rename_i hheld
      obtain ⟨hattempt, hcharges⟩ := of_lnk_gone (lnk_linkReset n s)
      exact ⟨hltssm, hwidth, hattempt, hcharges, hret, nofun, fun _ h => absurd hheld h⟩
    · have hrelease := keeps_headRelease n (linkReset n s)
      obtain ⟨hattempt, hcharges⟩ := of_lnk_gone ((hrelease.part .lnk rfl).trans (lnk_linkReset n s))
      obtain ⟨hctl', hltssm'⟩ := status_headRelease n (linkReset n s)
      have hwidth' : (headRelease n (linkReset n s)).rd F.LNK_HSTAT.WIDTH n = 0 :=
        (rd_setCtl_other (by decide) (by decide) (by decide) ..).trans hwidth
      rw [hctl', hrelease.rd F.LNK_RET.RET _ rfl, href]
      exact ⟨hltssm', hwidth', hattempt, hcharges, hret, nofun, fun _ _ => rfl⟩

theorem headReset_completes {s : State} {n : Fin 16} (hot : Bool) (hexists : headExists s n = true) :
    Completes (.headReset n hot) s fun t =>
      t.rd F.LNK_HSTAT.LTSSM n = 0 ∧ t.rd F.LNK_HSTAT.WIDTH n = 0 ∧ (t.head n).attempt = false ∧
      t.lnk.charges = s.lnk.charges ∧ t.rd F.LNK_RET.RET (n / 2) = s.rd F.LNK_RET.RET (n / 2) ∧
      (hot = false → perstHigh t n = false ∧ t.rd F.LNK_HSTAT.CTLST n = 0) ∧
      (hot = true → s.rd F.LNK_HSTAT.CTLST n ≠ 0 → t.rd F.LNK_HSTAT.CTLST n = if lrefPresent s (n / 2) = true then 2 else 1) := by
  have hexec : exec (.headReset n hot) s = done (resetElsewhere n (linkHeadReset n hot s)) := congrArg done (guarded_true hexists)
  obtain ⟨hlnk, hregs⟩ := resetElsewhere_links n (linkHeadReset n hot s)
  have hrd {f : Fld} (hf : f.reg ∈ [RegName.LNK_HSTAT, .LNK_RET]) (i : Nat) :
      (resetElsewhere n (linkHeadReset n hot s)).rd f i = (linkHeadReset n hot s).rd f i :=
    congrArg (getF · f.lo f.width) (hregs f.reg hf i)
  obtain ⟨hltssm, hwidth, hattempt, hcharges, hret, hpin, hhot⟩ := linkHeadReset_effect n hot s
  refine Completes.of_eq hexec ?_
  rw [hrd (by decide), hrd (by decide), hrd (by decide), hrd (by decide), head_congr hlnk, hlnk, perstHigh_congr hlnk]
  exact ⟨hltssm, hwidth, hattempt, hcharges, hret, fun h => hpin h n.isLt, hhot⟩

/-! #### RETRAIN and the low-power states (R229, R236, R237) -/

theorem exec_hctlRetrain {s : State} {n : Fin 16} (hexists : headExists s n = true) (hctl : s.rd F.LNK_HSTAT.CTLST n = 3)
    (hltssm : s.rd F.LNK_HSTAT.LTSSM n = 3) : exec (.hctlRetrain n) s = exec (.attemptStart n (.recovery false false)) s := by
  have hactive : linkActive s n = true := linkActive_iff.mpr ⟨hctl, by rw [hltssm]; decide⟩
  have hretrain : exec (.hctlRetrain n) s = done (enterRecovery n false false s) :=
    congrArg done ((guarded_true hexists).trans (if_pos ⟨hctl, hltssm⟩))
  exact hretrain.trans (congrArg done (guarded_true hactive).symm)

theorem setLtssm_effect (n : Nat) {l : Nat} (hl : l < 16) (s : State) :
    (setLtssm n l s).rd F.LNK_HSTAT.LTSSM n = l ∧ (setLtssm n l s).rd F.LNK_HSTAT.CTLST n = s.rd F.LNK_HSTAT.CTLST n :=
  ⟨(rd_wr_same _ _ _ _ (by decide)).trans (Nat.mod_eq_of_lt hl), rd_wr_apart (by decide) _ _ _⟩

section
variable {s : State} {n : Fin 16} (hctl : s.rd F.LNK_HSTAT.CTLST n = 3)
include hctl

/-- The standard's state in which a link idles (R236). -/
def idleState : LowPower → Nat
  | .l0p _ => 6
  | .l1 => 7
  | _ => 8

/-- From L0 the link idles in the state that the transition names, and its head stays Up. -/
theorem lowPowerTransition_idles (hltssm : s.rd F.LNK_HSTAT.LTSSM n = 3) {d : LowPower} (hd : d ≠ .l0)
    (hl0p : ∀ a, d = .l0p a → s.flag F.LNK_HSTAT.FLIT n = true ∧ 1 ≤ a ∧ a ≤ s.rd F.LNK_HSTAT.WIDTH n) :
    Completes (.lowPowerTransition n d) s fun t =>
      t.rd F.LNK_HSTAT.LTSSM n = idleState d ∧ t.rd F.LNK_HSTAT.CTLST n = 3 ∧
      t.lnk.charges = s.lnk.charges := by
  have hup : (s.rd F.LNK_HSTAT.CTLST n == 3) = true := beq_iff_eq.mpr hctl
  have hidle {l : Nat} (hl : l < 16) {u : State} (hu : u.rd F.LNK_HSTAT.CTLST n = 3) (hcharges : u.lnk.charges = s.lnk.charges) :
      (setLtssm n l u).rd F.LNK_HSTAT.LTSSM n = l ∧ (setLtssm n l u).rd F.LNK_HSTAT.CTLST n = 3 ∧
      (setLtssm n l u).lnk.charges = s.lnk.charges := by
    obtain ⟨hltssm', hctl'⟩ := setLtssm_effect n hl u
    exact ⟨hltssm', hctl'.trans hu, hcharges⟩
  cases d with
  | l0p a => exact Completes.of_eq (congrArg done ((guarded_true hup).trans (if_pos ⟨.inl hltssm, hl0p a rfl⟩))) (hidle (by decide) hctl rfl)
  | l1 => exact Completes.of_eq (congrArg done ((guarded_true hup).trans (if_pos (.inl hltssm)))) (hidle (by decide) hctl rfl)
  | l2 => exact Completes.of_eq (congrArg done ((guarded_true hup).trans (if_pos (.inl hltssm)))) (hidle (by decide) hctl rfl)
  | l0 => exact absurd rfl hd

/-- The link back in L0 from L0p or L1, no lane idled. -/
theorem lowPowerTransition_wakes (hltssm : s.rd F.LNK_HSTAT.LTSSM n = 6 ∨ s.rd F.LNK_HSTAT.LTSSM n = 7) :
    Completes (.lowPowerTransition n .l0) s fun t =>
      t.rd F.LNK_HSTAT.LTSSM n = 3 ∧ t.rd F.LNK_HSTAT.CTLST n = 3 ∧ (t.head n).l0pIdle = 0 := by
  let woken : State := (s.setHead n { s.head n with l0pIdle := 0 }).off F.EVC_TCH.L1EXIT n
  have hexec : exec (.lowPowerTransition n .l0) s = done (linkReady n (setLtssm n 3 woken)) :=
    congrArg done ((guarded_true (beq_iff_eq.mpr hctl)).trans (if_pos hltssm))
  have hready := keeps_linkReady n (setLtssm n 3 woken)
  obtain ⟨hltssm', hctl'⟩ := setLtssm_effect n (l := 3) (by decide) woken
  have hwoken : woken.rd F.LNK_HSTAT.CTLST n = 3 := ((keeps_off ..).rd _ _ rfl).trans hctl
  refine Completes.of_eq hexec ⟨(hready.rd _ _ rfl).trans hltssm', (hready.rd _ _ rfl).trans (hctl'.trans hwoken), ?_⟩
  exact congrArg HeadRec.l0pIdle ((hready.head rfl n).trans (head_setHead_same s n _))

end

/-! #### The PLLs of a port (R225) -/

/-- The PLL of half-port h locks where it runs. -/
def lockPll (p h : Nat) (s : State) : State := if sget 0 s.lnk.pll (2 * p + h) = 1 then setPll p h 2 s else s

theorem exec_pllLock (p : Fin 8) (h : Fin 2) (s : State) :
    exec (.pllLock p h) s = done (if s.flag F.LNK_PCFG.X8X2 p then lockPll p h s else lockPll p 1 (lockPll p 0 s)) := rfl

theorem regs_lockPll (p h : Nat) (s : State) : (lockPll p h s).regs = s.regs := by
  unfold lockPll
  split
  · rfl
  · rfl

theorem pll_lockPll_same {p h : Nat} {s : State} (hrun : sget 0 s.lnk.pll (2 * p + h) = 1 ∨ sget 0 s.lnk.pll (2 * p + h) = 2) :
    sget 0 (lockPll p h s).lnk.pll (2 * p + h) = 2 := by
  unfold lockPll
  split
  · exact sget_sset_self 0 s.lnk.pll (2 * p + h) 2
  · rename_i hnot
    exact hrun.resolve_left hnot

theorem pll_lockPll_other {p h k : Nat} (hne : k ≠ h) (s : State) :
    sget 0 (lockPll p h s).lnk.pll (2 * p + k) = sget 0 s.lnk.pll (2 * p + k) := by
  unfold lockPll
  split
  · exact sget_sset_ne 0 0 s.lnk.pll 2 fun h => hne (Nat.add_left_cancel h)
  · rfl

/-- In x16 mode both PLLs lock, and PLLOCK shows both. -/
theorem pllLock_together {s : State} {p : Fin 8} (h : Fin 2) (hx16 : s.flag F.LNK_PCFG.X8X2 p = false)
    (hrun : ∀ k : Fin 2, sget 0 s.lnk.pll (2 * p.val + k.val) = 1 ∨ sget 0 s.lnk.pll (2 * p.val + k.val) = 2) :
    Completes (.pllLock p h) s fun t => pllLock t p 0 = true ∧ pllLock t p 1 = true ∧ t.regs = s.regs := by
  have hexec : exec (.pllLock p h) s = done (lockPll p 1 (lockPll p 0 s)) :=
    (exec_pllLock p h s).trans (congrArg done (by rw [hx16]; rfl))
  have hregs : (lockPll p 1 (lockPll p 0 s)).regs = s.regs := (regs_lockPll ..).trans (regs_lockPll ..)
  have hlow : sget 0 (lockPll p 1 (lockPll p 0 s)).lnk.pll (2 * p + 0) = 2 :=
    (pll_lockPll_other (by decide) _).trans (pll_lockPll_same (hrun 0))
  have hhigh : sget 0 (lockPll p 1 (lockPll p 0 s)).lnk.pll (2 * p + 1) = 2 := by
    refine pll_lockPll_same ?_
    rw [pll_lockPll_other (by decide)]
    exact hrun 1
  have hboth (k : Nat) : pllLock (lockPll p 1 (lockPll p 0 s)) p k = true := by
    rw [pllLock, flag_congr hregs, hx16, if_neg Bool.false_ne_true, halfLock, halfLock, hlow, hhigh]
    rfl
  exact Completes.of_eq hexec ⟨hboth 0, hboth 1, hregs⟩

/-- With two heads on the port each half-port locks alone. -/
theorem pllLock_alone {s : State} {p : Fin 8} {h : Fin 2} (hx8 : s.flag F.LNK_PCFG.X8X2 p = true) (hrun : sget 0 s.lnk.pll (2 * p + h) = 1) :
    Completes (.pllLock p h) s fun t => pllLock t p h = true ∧ pllLock t p (1 - h.val) = pllLock s p (1 - h.val) ∧ t.regs = s.regs := by
  have hregs := regs_lockPll p h s
  have hhalf (k : Nat) (u : State) (hu : u.regs = s.regs) : pllLock u p k = halfLock u p k := by
    rw [pllLock, flag_congr hu, hx8, if_pos rfl]
  refine Completes.of_eq ((exec_pllLock p h s).trans (congrArg done (if_pos hx8))) ⟨?_, ?_, hregs⟩
  · rw [hhalf _ _ hregs, halfLock, pll_lockPll_same (.inl hrun)]
    rfl
  · rw [hhalf _ _ hregs, hhalf _ _ rfl, halfLock, pll_lockPll_other (by omega), halfLock]

/-! #### The standard's Loopback (R247) -/

section
variable (n : Nat) (lanes : BitVec 16) (s : State)

/-- Head n in Loopback, its link gone. -/
def loopbackEntered : State := setLtssm n 10 (linkGone n 2 s)

/-- Head n in Loopback with the lanes that the partner loops. -/
def lanesLooped : State :=
  ((lanesIn (loopbackEntered n s) n).filter fun g => lanes.getLsbD (g % 16)).foldl (fun t g => t.on F.LNK_LLB.FELB g) (loopbackEntered n s)

theorem exec_farEndLoopback (n : Fin 16) : exec (.farEndLoopback n lanes) s = done (guarded (s.head n).attempt s fun s =>
    headCause F.LNK_HEVT.FELB F.LNK_HEVEN.FELB n (downIf (s.head n).fromRec n (lanesLooped n lanes s))) := rfl

theorem lnk_loopbackEntered : (loopbackEntered n s).lnk = (s.setHead n (s.head n).out).lnk := by
  rw [loopbackEntered, setLtssm, wr_lnk, lnk_linkGone]

theorem keeps_lanesLooped : Keeps (regMask [.LNK_LLB]) 0 (loopbackEntered n s) (lanesLooped n lanes s) :=
  Keeps.foldl fun _ _ => (keeps_on ..).mono rfl rfl

theorem keeps_felbRaised (b : Bool) : Keeps (regMask [.LNK_HEVT, .EVC_CSTAT]) (partMask [.freeCtr, .evc]) s
    (headCause F.LNK_HEVT.FELB F.LNK_HEVEN.FELB n (downIf b n s)) :=
  (keeps_headEvent _ _ rfl ..).after rfl rfl ((keeps_downIf ..).mono rfl rfl)

theorem felb_lanesLooped {g : Nat} (hg : g ∈ lanesIn s n) : (lanesLooped n lanes s).flag F.LNK_LLB.FELB g = lanes.getLsbD (g % 16) := by
  obtain ⟨hlane, -⟩ := mem_lanesIn.mp hg
  have hentered : (loopbackEntered n s).flag F.LNK_LLB.FELB g = false :=
    ((keeps_setLtssm ..).flag _ _ rfl).trans (lanes_linkGone n 2 hlane).2
  have hlanes : lanesIn (loopbackEntered n s) n = lanesIn s n :=
    ((keeps_setLtssm ..).lanesIn rfl rfl n).trans ((keeps_linkGone n 2 s).lanesIn rfl rfl n)
  have hother (t : State) (a : Nat) (ha : a ≠ g) : (t.on F.LNK_LLB.FELB a).flag F.LNK_LLB.FELB g = t.flag F.LNK_LLB.FELB g :=
    flag_on_other _ _ _ _ _ (.inr (.inl ha))
  unfold lanesLooped
  rw [hlanes]
  cases hbit : lanes.getLsbD (g % 16) with
  | true =>
    refine foldl_own (State.flag · F.LNK_LLB.FELB g) (new := fun _ => true) (List.mem_filter.mpr ⟨hg, hbit⟩)
      (((headLanes_nodup s n).filter _).filter _) (fun t => flag_on_same _ _ _ (by decide) (by decide)) (fun t a _ ha => hother t a ha) _
  | false =>
    refine (foldl_unchanged (State.flag · F.LNK_LLB.FELB g) (fun t a ha => hother t a ?_) _).trans hentered
    rintro rfl
    exact Bool.false_ne_true (hbit.symm.trans (List.mem_filter.mp ha).2)

end

theorem farEndLoopback_completes {s : State} {n : Fin 16} (lanes : BitVec 16) (hattempt : (s.head n).attempt = true) :
    Completes (.farEndLoopback n lanes) s fun t =>
      t.rd F.LNK_HSTAT.LTSSM n = 10 ∧ (t.head n).attempt = false ∧ t.flag F.LNK_HEVT.FELB n = true ∧ t.lnk.charges = s.lnk.charges ∧
      ∀ g ∈ lanesIn s n, t.flag F.LNK_LLB.FELB g = lanes.getLsbD (g % 16) := by
  have hraised := keeps_felbRaised n (lanesLooped n lanes s) (s.head n).fromRec
  have hlooped := keeps_lanesLooped n lanes s
  have hlnk : (lanesLooped n lanes s).lnk = (s.setHead n (s.head n).out).lnk := (hlooped.part .lnk rfl).trans (lnk_loopbackEntered n s)
  obtain ⟨hended, hcharges⟩ := of_lnk_gone ((hraised.part .lnk rfl).trans hlnk)
  refine Completes.of_guarded (exec_farEndLoopback lanes s n) hattempt ⟨?_, hended, ?_, hcharges, fun g hg => ?_⟩
  · exact (hraised.rd _ _ rfl).trans ((hlooped.rd _ _ rfl).trans (setLtssm_effect n (by decide) _).1)
  · exact flag_headCause_same _ _ _ (by decide) (by decide) (by decide)
  · exact (hraised.flag _ _ rfl).trans (felb_lanesLooped n lanes s hg)

theorem farEndLoopbackExit_completes {s : State} {n : Fin 16} (hltssm : s.rd F.LNK_HSTAT.LTSSM n = 10) :
    Completes (.farEndLoopbackExit n) s fun t =>
      t.rd F.LNK_HSTAT.LTSSM n = 0 ∧ t.rd F.LNK_HSTAT.CTLST n = 2 ∧ t.lnk = s.lnk ∧ ∀ g ∈ headLanes s n, t.flag F.LNK_LLB.FELB g = false :=
  Completes.of_guarded (f := leaveLoopback n) rfl (beq_iff_eq.mpr hltssm) (leaveLoopback_effect n s)

/-- Settles O24: a hold, a reset and Loopback all take the link away first, and what they do beside it touches nothing of the links; RETRAIN in L0
is the entry into Recovery of an active link. -/
theorem headsAreHeldResetAndIdled : Obligations.HeadsAreHeldResetAndIdled := by
  unfold Obligations.HeadsAreHeldResetAndIdled
  refine ⟨?_, ?_, ?_, ?_, ?_, ?_, ?_, ?_, ?_, ?_, ?_⟩
  · exact fun s n hexists hctl => holdWrite_holds hexists hctl
  · exact fun s n hexists hctl => holdWrite_releases hexists hctl
  · exact fun s n hexists hctl hhold => perstNHigh_completes hexists hctl hhold
  · exact fun s n hot hexists => headReset_completes hot hexists
  · intro s n hexists hctl hltssm
    have hactive : linkActive s n = true := linkActive_iff.mpr ⟨hctl, by rw [hltssm]; decide⟩
    have hstart : exec (.attemptStart n (.recovery false false)) s = done (enterRecovery n false false s) := congrArg done (guarded_true hactive)
    exact Completes.of_eq ((exec_hctlRetrain hexists hctl hltssm).trans hstart) hstart
  · exact fun s n d hctl hltssm hd hl0p => lowPowerTransition_idles hctl hltssm hd hl0p
  · exact fun s n hctl hltssm => lowPowerTransition_wakes hctl hltssm
  · exact fun s p h hx16 hrun => pllLock_together h hx16 hrun
  · exact fun s p h hx8 hrun => pllLock_alone hx8 hrun
  · exact fun s n lanes hattempt => farEndLoopback_completes lanes hattempt
  · exact fun s n hltssm => farEndLoopbackExit_completes hltssm

end Sys2Proof.Machine
/-! ### Charged, retired and restored lanes, loopbacks and counters (R234, R238–R246) -/

namespace Sys2Proof.Machine
open Sys2Proof

/-! #### A charge of a lane (R241, R242) -/

/-- A charge now is a lane's third within 1,000 ms of the first of its two last ones. -/
def thirdCharge (now : Nat) : List Nat → Bool
  | [t1, _] => decide (now < t1 + 1000000000)
  | _ => false

/-- The stamps of a lane's last charges with one more. -/
def nextCharges (now : Nat) : List Nat → List Nat
  | [_, t2] => [t2, now]
  | l => l ++ [now]

/-- The state with the charges of lane g replaced. -/
def State.setCharges (s : State) (g : Nat) (l : List Nat) : State :=
  { s with lnk := { s.lnk with charges := sset [] s.lnk.charges g l } }

theorem rd_setCharges (s : State) (g : Nat) (l : List Nat) (f : Fld) (i : Nat) : (s.setCharges g l).rd f i = s.rd f i := rfl

theorem laneRetired_setCharges (s : State) (a : Nat) (l : List Nat) (g : Nat) : laneRetired (s.setCharges a l) g = laneRetired s g := rfl

theorem chargeLane_eq (n g : Nat) (s : State) : chargeLane n g s =
    if thirdCharge s.stamp (sget [] s.lnk.charges g) = true then retireLane n g s
    else s.setCharges g (nextCharges s.stamp (sget [] s.lnk.charges g)) := by
  unfold chargeLane
  dsimp only
  rcases sget [] s.lnk.charges g with _ | ⟨t1, _ | ⟨t2, _ | ⟨t3, l⟩⟩⟩
  · rfl
  · rfl
  · exact if_congr decide_eq_true_iff.symm rfl rfl
  · rfl

theorem nextCharges_getLast (now : Nat) (l : List Nat) : (nextCharges now l).getLast? = some now := by
  unfold nextCharges
  split
  · rfl
  · exact List.getLast?_concat

/-- From `s` to `t` nothing of what says whether lane g of head n is retired changes, but that RETIRED of the head may be raised. -/
structure LaneStands (n g : Nat) (s t : State) : Prop where
  stamp : t.stamp = s.stamp
  charges : sget [] t.lnk.charges g = sget [] s.lnk.charges g
  retired : laneRetired t g = laneRetired s g
  shown : t.flag F.LNK_LSTAT.RETIRED g = s.flag F.LNK_LSTAT.RETIRED g
  event : s.flag F.LNK_HEVT.RETIRED n = true → t.flag F.LNK_HEVT.RETIRED n = true

theorem LaneStands.refl (n g : Nat) (s : State) : LaneStands n g s s := ⟨rfl, rfl, rfl, rfl, id⟩

theorem LaneStands.trans {n g : Nat} {s t u : State} (h1 : LaneStands n g s t) (h2 : LaneStands n g t u) : LaneStands n g s u :=
  ⟨h2.stamp.trans h1.stamp, h2.charges.trans h1.charges, h2.retired.trans h1.retired, h2.shown.trans h1.shown, h2.event ∘ h1.event⟩

theorem LaneStands.foldl {n g : Nat} {f : State → Nat → State} {l : List Nat} (hf : ∀ t, ∀ a ∈ l, LaneStands n g t (f t a)) (s : State) :
    LaneStands n g s (l.foldl f s) :=
  List.foldlRecOn l f (.refl n g s) fun t ht a ha => ht.trans (hf t a ha)

/-- Lane g is shown retired. -/
def retiredShown (g : Nat) (s : State) : State := (s.wrBit F.LNK_RET.RET (g / 16) (g % 16) true).on F.LNK_LSTAT.RETIRED g

theorem retireLane_eq (n g : Nat) (s : State) :
    retireLane n g s = headCause F.LNK_HEVT.RETIRED F.LNK_HEVEN.RETIRED n ((retiredShown g s).setCharges g []) := rfl

theorem laneRetired_retiredShown (a g : Nat) (s : State) : laneRetired (retiredShown a s) g = if g = a then true else laneRetired s g := by
  have hshown : Keeps (regMask [.LNK_LSTAT]) 0 (s.wrBit F.LNK_RET.RET (a / 16) (a % 16) true) (retiredShown a s) :=
    (keeps_on ..).mono rfl rfl
  rw [hshown.laneRetired rfl, laneRetired_wrBit]

theorem laneRetired_retireLane (n a g : Nat) (s : State) : laneRetired (retireLane n a s) g = if g = a then true else laneRetired s g := by
  have hraised := keeps_headEvent F.LNK_HEVT.RETIRED F.LNK_HEVEN.RETIRED rfl n ((retiredShown a s).setCharges a [])
  rw [retireLane_eq, hraised.laneRetired rfl, laneRetired_setCharges, laneRetired_retiredShown]

theorem charges_retireLane (n a : Nat) (s : State) : (retireLane n a s).lnk.charges = sset [] s.lnk.charges a [] := by
  have hraised := keeps_headEvent F.LNK_HEVT.RETIRED F.LNK_HEVEN.RETIRED rfl n ((retiredShown a s).setCharges a [])
  rw [retireLane_eq]
  exact congrArg LnkState.charges (hraised.part .lnk rfl)

theorem shown_retireLane (n a g : Nat) (s : State) :
    (retireLane n a s).flag F.LNK_LSTAT.RETIRED g = (retiredShown a s).flag F.LNK_LSTAT.RETIRED g := by
  have hraised := keeps_headEvent F.LNK_HEVT.RETIRED F.LNK_HEVEN.RETIRED rfl n ((retiredShown a s).setCharges a [])
  rw [retireLane_eq, hraised.flag _ _ rfl]
  rfl

theorem event_retireLane (n a : Nat) (s : State) : (retireLane n a s).flag F.LNK_HEVT.RETIRED n = true :=
  flag_headCause_same _ _ _ (by decide) (by decide) (by decide)

theorem laneStands_retireLane (n : Nat) {a g : Nat} (hne : g ≠ a) (s : State) : LaneStands n g s (retireLane n a s) where
  stamp := (keeps_retireLane ..).stamp rfl
  charges := by rw [charges_retireLane, sget_sset_ne _ _ _ _ hne]
  retired := by rw [laneRetired_retireLane, if_neg hne]
  shown := by
    rw [shown_retireLane, retiredShown, flag_on_other _ _ _ _ _ (.inr (.inl hne.symm)), State.flag, rd_wrBit_other _ _ _ _ _ _ _ (.inl (by decide)),
      State.flag]
  event _ := event_retireLane n a s

theorem laneStands_setCharges (n : Nat) {a g : Nat} (hne : g ≠ a) (l : List Nat) (s : State) : LaneStands n g s (s.setCharges a l) :=
  ⟨rfl, sget_sset_ne [] [] s.lnk.charges l hne, rfl, rfl, id⟩

theorem laneStands_chargeLane (n : Nat) {a g : Nat} (hne : g ≠ a) (s : State) : LaneStands n g s (chargeLane n a s) := by
  rw [chargeLane_eq]
  split
  · exact laneStands_retireLane n hne s
  · exact laneStands_setCharges n hne _ s

/-- Lane g's charge at the end of an attempt is the one thing there that says whether it is retired. -/
theorem chargeLanes_at {n g : Nat} {success : Bool} {s : State} (hg : g ∈ chargedLanes s n success) :
    ∃ u, LaneStands n g s u ∧ LaneStands n g (chargeLane n g u) (chargeLanes n success s) := by
  obtain ⟨before, after, hsplit⟩ := List.append_of_mem hg
  have hnodup : (before ++ g :: after).Nodup := hsplit ▸ ((headLanes_nodup s n).filter _).filter _
  obtain ⟨hout, -⟩ := List.nodup_middle.mp hnodup |> List.nodup_cons.mp
  have hstands (l : List Nat) (hl : g ∉ l) (t : State) : LaneStands n g t (l.foldl (fun t a => chargeLane n a t) t) :=
    LaneStands.foldl (fun t a ha => laneStands_chargeLane n (fun h => hl (by rwa [h])) t) t
  rw [chargeLanes, hsplit, List.foldl_append, List.foldl_cons]
  exact ⟨_, hstands before (fun h => hout (List.mem_append_left _ h)) s, hstands after (fun h => hout (List.mem_append_right _ h)) _⟩

theorem chargedLanes_congr {s t : State} {R P : Nat} (h : Keeps R P s t) (hcfg : R.testBit RegName.LNK_PCFG.ctorIdx = false)
    (hret : R.testBit RegName.LNK_RET.ctorIdx = false) (hstage : R.testBit RegName.LNK_LSTAT.ctorIdx = false)
    (hlnk : P.testBit Part.lnk.ctorIdx = false) (n : Nat) (success : Bool) : chargedLanes t n success = chargedLanes s n success := by
  have hstages (g : Nat) : t.rd F.LNK_LSTAT.STAGE g = s.rd F.LNK_LSTAT.STAGE g := h.rd _ _ hstage
  have hcommon (l : List Nat) : commonStage t l = commonStage s l := by
    unfold commonStage
    simp only [hstages]
  unfold chargedLanes
  dsimp only
  rw [h.lanesIn hcfg hret, hcommon, h.head hlnk]
  exact List.filter_congr fun g _ => by rw [hstages]

theorem mem_chargedLanes {s : State} {n g : Nat} {success : Bool} (hg : g ∈ chargedLanes s n success) :
    g ∈ lanesIn s n ∧ s.rd F.LNK_LSTAT.STAGE g ≠ 0 := by
  obtain ⟨hin, hcharged⟩ := List.mem_filter.mp hg
  simp only [Bool.and_eq_true, decide_eq_true_eq] at hcharged
  obtain ⟨⟨-, hstage⟩, -⟩ := hcharged
  exact ⟨hin, Nat.one_le_iff_ne_zero.mp hstage⟩

section
variable (n g : Nat) (s : State)

/-- A frame with no register and no record of the links leaves every lane as it stands. -/
theorem Keeps.laneStands {R P : Nat} {t : State} (h : Keeps R P s t)
    (hR : ∀ r ∈ [RegName.LNK_RET, .LNK_LSTAT, .LNK_HEVT], R.testBit r.ctorIdx = false) (hclk : P.testBit Part.clk.ctorIdx = false)
    (hlnk : P.testBit Part.lnk.ctorIdx = false) : LaneStands n g s t where
  stamp := h.stamp hclk
  charges := congrArg (fun l : LnkState => sget [] l.charges g) (h.part .lnk hlnk)
  retired := h.laneRetired (hR _ (by decide)) g
  shown := h.flag _ _ (hR _ (by decide))
  event hevent := (h.flag _ _ (hR _ (by decide))).trans hevent

theorem shown_linkGone (st : Nat) : (linkGone n st s).flag F.LNK_LSTAT.RETIRED g = s.flag F.LNK_LSTAT.RETIRED g := by
  have hlanes : (headOut n st s).flag F.LNK_LSTAT.RETIRED g = (setLtssm n 0 (setCtl n st (linkUnshown n s))).flag F.LNK_LSTAT.RETIRED g :=
    foldl_unchanged (State.flag · F.LNK_LSTAT.RETIRED g) (fun t a _ => by
      dsimp only [laneOut]
      rw [flag_off_other _ _ _ _ _ (.inl (by decide)), flag_wr_other _ _ _ _ _ _ (Fld.apart_of_places (by decide) ..),
        flag_off_other _ _ _ _ _ (Fld.apart_of_places (by decide) ..)]) _
  rw [(keeps_linkGone_rest n st s).flag _ _ rfl, flag_setHead, hlanes, (keeps_setLtssm ..).flag _ _ rfl, (keeps_setCtl ..).flag _ _ rfl,
    (keeps_linkUnshown ..).flag _ _ rfl]

theorem laneStands_linkGone (st : Nat) : LaneStands n g s (linkGone n st s) where
  stamp := (keeps_linkGone n st s).stamp rfl
  charges := by rw [charges_linkGone]
  retired := (keeps_linkGone n st s).laneRetired rfl g
  shown := shown_linkGone n g s st
  event h := ((keeps_linkGone n st s).flag _ _ rfl).trans h

theorem laneStands_downIf (b : Bool) : LaneStands n g s (downIf b n s) where
  stamp := (keeps_downIf b n s).stamp rfl
  charges := congrArg (fun l : LnkState => sget [] l.charges g) ((keeps_downIf b n s).part .lnk rfl)
  retired := (keeps_downIf b n s).laneRetired rfl g
  shown := (keeps_downIf b n s).flag _ _ rfl
  event h := by
    cases b with
    | true => exact (flag_headCause_other _ _ _ (by decide) (by decide)).trans h
    | false => exact h

theorem laneStands_setHead (r : HeadRec) : LaneStands n g s (s.setHead n r) := ⟨rfl, rfl, rfl, rfl, id⟩

/-- Once its lanes are charged, a failed attempt leaves every lane as it stands. -/
theorem laneStands_attemptFail : LaneStands n g (failCharged n s) (attemptFail n s) := by
  have hbackoff : Keeps (regMask [.LNK_HSTAT]) 0 (failCharged n s) ((failCharged n s).wr F.LNK_HSTAT.BACKOFF_K n (nextBackoff (failCharged n s) n)) :=
    (keeps_wr ..).mono rfl rfl
  have hlost : LaneStands n g (failCharged n s) (attemptLost n s) :=
    (hbackoff.laneStands n g _ (by decide) rfl rfl).trans (laneStands_linkGone n g _ 5)
  rw [attemptFail_eq]
  exact (hlost.trans (laneStands_setHead n g _ _)).trans (laneStands_downIf n g _ _)

end

section
variable {n g : Nat} {s : State} (hg : g ∈ chargedLanes s n false)
include hg

/-- A failed attempt charges lane g once, and leaves it as it stands before and after. -/
theorem attemptFail_charges : ∃ u, LaneStands n g s u ∧ LaneStands n g (chargeLane n g u) (attemptFail n s) := by
  have hcounted : Keeps (regMask [.LNK_HATT]) 0 s (s.satAdd F.LNK_HATT.FAILED n 1) := (keeps_satAdd ..).mono rfl rfl
  obtain ⟨u, hbefore, hafter⟩ := chargeLanes_at (s := s.satAdd F.LNK_HATT.FAILED n 1) (by rwa [chargedLanes_congr hcounted rfl rfl rfl rfl])
  exact ⟨u, (hcounted.laneStands n g s (by decide) rfl rfl).trans hbefore, hafter.trans (laneStands_attemptFail n g s)⟩

theorem attemptFail_retires (h : thirdCharge s.stamp (sget [] s.lnk.charges g) = true) :
    (attemptFail n s).flag F.LNK_LSTAT.RETIRED g = true ∧ laneRetired (attemptFail n s) g = true ∧
    (attemptFail n s).flag F.LNK_HEVT.RETIRED n = true ∧ sget [] (attemptFail n s).lnk.charges g = [] := by
  obtain ⟨u, hbefore, hafter⟩ := attemptFail_charges hg
  have hcharge : chargeLane n g u = retireLane n g u := by rw [chargeLane_eq, hbefore.stamp, hbefore.charges, if_pos h]
  rw [hcharge] at hafter
  refine ⟨?_, ?_, hafter.event (event_retireLane ..), ?_⟩
  · rw [hafter.shown, shown_retireLane]
    exact flag_on_same _ _ _ (by decide) (by decide)
  · rw [hafter.retired, laneRetired_retireLane, if_pos rfl]
  · rw [hafter.charges, charges_retireLane, sget_sset_self]

theorem attemptFail_records (h : thirdCharge s.stamp (sget [] s.lnk.charges g) = false) : laneRetired (attemptFail n s) g = false ∧
    sget [] (attemptFail n s).lnk.charges g = nextCharges s.stamp (sget [] s.lnk.charges g) := by
  obtain ⟨u, hbefore, hafter⟩ := attemptFail_charges hg
  have hcharge : chargeLane n g u = u.setCharges g (nextCharges s.stamp (sget [] s.lnk.charges g)) := by
    rw [chargeLane_eq, hbefore.stamp, hbefore.charges, if_neg (Bool.eq_false_iff.mp h)]
  obtain ⟨hin, -⟩ := mem_chargedLanes hg
  obtain ⟨-, hservice⟩ := mem_lanesIn.mp hin
  rw [hcharge] at hafter
  exact ⟨hafter.retired.trans (hbefore.retired.trans hservice), hafter.charges.trans (sget_sset_self ..)⟩

end

theorem attemptFailure_charges {s : State} {n : Fin 16} {g : Nat} (hattempt : (s.head n).attempt = true) (hg : g ∈ chargedLanes s n false) :
    Completes (.attemptFailure n) s fun t =>
      (t.flag F.LNK_LSTAT.RETIRED g = true ∧ laneRetired t g = true ∧ t.flag F.LNK_HEVT.RETIRED n = true ∧ sget [] t.lnk.charges g = []) ∨
      (laneRetired t g = false ∧ (sget [] t.lnk.charges g).getLast? = some s.stamp) := by
  refine Completes.of_guarded (f := attemptFail n) rfl hattempt ?_
  cases h : thirdCharge s.stamp (sget [] s.lnk.charges g) with
  | true => exact .inl (attemptFail_retires hg h)
  | false =>
    obtain ⟨hservice, hcharges⟩ := attemptFail_records hg h
    exact .inr ⟨hservice, by rw [hcharges, nextCharges_getLast]⟩

/-- The third charge of a lane: retirement where it comes within 1,000 ms of the first. -/
theorem attemptFailure_third {s : State} {n : Fin 16} {g t1 t2 : Nat} (hattempt : (s.head n).attempt = true)
    (hg : g ∈ chargedLanes s n false) (htwo : sget [] s.lnk.charges g = [t1, t2]) :
    Completes (.attemptFailure n) s fun t =>
      laneRetired t g = decide (s.stamp < t1 + 1000000000) ∧
      sget [] t.lnk.charges g = if s.stamp < t1 + 1000000000 then [] else [t2, s.stamp] := by
  refine Completes.of_guarded (f := attemptFail n) rfl hattempt ?_
  by_cases h : s.stamp < t1 + 1000000000
  · obtain ⟨-, hretired, -, hcharges⟩ := attemptFail_retires hg (by rw [htwo]; exact decide_eq_true h)
    rw [if_pos h, decide_eq_true h]
    exact ⟨hretired, hcharges⟩
  · obtain ⟨hservice, hcharges⟩ := attemptFail_records hg (by rw [htwo]; exact decide_eq_false h)
    rw [if_neg h, decide_eq_false h]
    exact ⟨hservice, by rw [hcharges, htwo]; rfl⟩

/-! #### Stages and transmitter settings (R226, R234, R238, R239) -/

/-- Lane g has reached a stage, with its polarity. -/
def stageShown (g : Nat) (stage : Fin 8) (polInv : Bool) (s : State) : State :=
  (s.wr F.LNK_LSTAT.STAGE g (max stage.val (s.rd F.LNK_LSTAT.STAGE g))).wr F.LNK_LSTAT.POLINV g (b2n polInv)

/-- Polling ends with the first lane number (R236). -/
def pollingEnded (n : Nat) (stage : Fin 8) (s : State) : State :=
  if stage.val = 4 ∧ s.rd F.LNK_HSTAT.LTSSM n = 1 then setLtssm n 2 s else s

/-- The adapted receiver settings of a lane that is equalised (R238). -/
def receiverShown (g : Nat) (stage : Fin 8) (rx : Word) (s : State) : State :=
  if stage.val = 5 then
    (((s.wr F.LNK_LRXEQ.CTLE g (F.LNK_LRXEQ.CTLE.of rx)).wr F.LNK_LRXEQ.DFE1 g (F.LNK_LRXEQ.DFE1.of rx)).wr
      F.LNK_LRXEQ.DFE2 g (F.LNK_LRXEQ.DFE2.of rx)).wr F.LNK_LRXEQ.DFE3 g (F.LNK_LRXEQ.DFE3.of rx)
  else s

theorem keeps_pollingEnded (n : Nat) (stage : Fin 8) (s : State) : Keeps (regMask [.LNK_HSTAT]) 0 s (pollingEnded n stage s) := by
  unfold pollingEnded
  split
  · exact (keeps_setLtssm ..).mono rfl rfl
  · exact Keeps.refl s

theorem keeps_receiverShown (g : Nat) (stage : Fin 8) (rx : Word) (s : State) :
    Keeps (regMask [.LNK_LRXEQ]) 0 s (receiverShown g stage rx s) := by
  unfold receiverShown
  split
  · exact (keeps_wr ..).after rfl rfl ((keeps_wr ..).after rfl rfl ((keeps_wr ..).after rfl rfl ((keeps_wr ..).mono rfl rfl)))
  · exact Keeps.refl s

theorem stage_stageShown (g : Nat) (stage : Fin 8) (polInv : Bool) (s : State) :
    (stageShown g stage polInv s).rd F.LNK_LSTAT.STAGE g = max stage.val (s.rd F.LNK_LSTAT.STAGE g) ∧
    (stageShown g stage polInv s).flag F.LNK_LSTAT.POLINV g = polInv := by
  have hlt : max stage.val (s.rd F.LNK_LSTAT.STAGE g) < 2 ^ F.LNK_LSTAT.STAGE.width := Nat.max_lt.mpr ⟨stage.isLt, getF_lt ..⟩
  refine ⟨?_, flag_wr_b2n _ _ _ _ (by decide) (by decide)⟩
  rw [stageShown, rd_wr_apart (by decide), rd_wr_same _ _ _ _ (by decide), Nat.mod_eq_of_lt hlt]

theorem ctle_receiverShown {stage : Fin 8} (hstage : stage.val = 5) (g : Nat) (rx : Word) (s : State) :
    (receiverShown g stage rx s).rd F.LNK_LRXEQ.CTLE g = F.LNK_LRXEQ.CTLE.of rx := by
  rw [receiverShown, if_pos hstage, rd_wr_apart (by decide), rd_wr_apart (by decide), rd_wr_apart (by decide), rd_wr_same _ _ _ _ (by decide),
    of_mod]

theorem laneStageReached_completes {s : State} {lane : Fin 128} {stage : Fin 8} (pol : Bool) (rx : Word)
    (hattempt : (s.head (laneHead s lane)).attempt = true) (hservice : laneRetired s lane = false) (hlo : 2 ≤ stage.val) (hhi : stage.val ≤ 5)
    (hstage : s.rd F.LNK_LSTAT.STAGE lane ≠ 0) :
    Completes (.laneStageReached lane stage pol rx) s fun t =>
      t.rd F.LNK_LSTAT.STAGE lane = max stage.val (s.rd F.LNK_LSTAT.STAGE lane) ∧ t.flag F.LNK_LSTAT.POLINV lane = pol ∧
      (stage.val = 5 → t.rd F.LNK_LRXEQ.CTLE lane = F.LNK_LRXEQ.CTLE.of rx) ∧ t.lnk = s.lnk := by
  have hended := keeps_pollingEnded (laneHead s lane) stage (stageShown lane stage pol s)
  have hreceiver := keeps_receiverShown lane stage rx (pollingEnded (laneHead s lane) stage (stageShown lane stage pol s))
  obtain ⟨hshown, hpol⟩ := stage_stageShown lane stage pol s
  refine Completes.of_guarded
    (f := fun u => receiverShown lane stage rx (pollingEnded (laneHead s lane) stage (stageShown lane stage pol u))) rfl ?_
    ⟨(hreceiver.rd _ _ rfl).trans ((hended.rd _ _ rfl).trans hshown), (hreceiver.flag _ _ rfl).trans ((hended.flag _ _ rfl).trans hpol),
      fun h => ctle_receiverShown h .., (hreceiver.part .lnk rfl).trans (hended.part .lnk rfl)⟩
  rw [hattempt, hservice, decide_eq_true ⟨hlo, hhi⟩, bne_iff_ne.mpr hstage]
  rfl

/-- The transmitter settings of lane g. -/
def settingsTaken (g pre post : Nat) (s : State) : State := (s.wr F.LNK_LTXEQ.PRE_APP g pre).wr F.LNK_LTXEQ.POST_APP g post

theorem rd_settingsTaken {pre post : Nat} (hpre : pre < 64) (hpost : post < 64) (g : Nat) (s : State) :
    (settingsTaken g pre post s).rd F.LNK_LTXEQ.PRE_APP g = pre ∧ (settingsTaken g pre post s).rd F.LNK_LTXEQ.POST_APP g = post := by
  have hp : pre % 2 ^ F.LNK_LTXEQ.PRE_APP.width = pre := Nat.mod_eq_of_lt hpre
  have hq : post % 2 ^ F.LNK_LTXEQ.POST_APP.width = post := Nat.mod_eq_of_lt hpost
  rw [settingsTaken, rd_wr_apart (by decide), rd_wr_same _ _ _ _ (by decide), rd_wr_same _ _ _ _ (by decide)]
  exact ⟨hp, hq⟩

/-- The partner has the answer to its request. -/
def eqAnswered (g : Nat) (ok : Bool) (s : State) : State := { s with out := s.out ++ [.eqAnswer g ok] }

theorem rd_eqAnswered (g : Nat) (ok : Bool) (s : State) (f : Fld) (i : Nat) : (eqAnswered g ok s).rd f i = s.rd f i := rfl

/-- A request within the bound is taken where no override is in force. -/
theorem equalisationRequest_completes {s : State} {lane : Fin 128} (pre post : BitVec 6) (hattempt : (s.head (laneHead s lane)).attempt = true) :
    Completes (.equalisationRequest lane pre post) s fun t =>
      let ok := decide (pre.toNat ≤ 12 ∧ pre.toNat + post.toNat ≤ 16) && !nbit s.lnk.ovr lane
      t.out = s.out ++ [.eqAnswer lane ok] ∧
      t.rd F.LNK_LTXEQ.PRE_APP lane = (if ok = true then pre.toNat else s.rd F.LNK_LTXEQ.PRE_APP lane) ∧
      t.rd F.LNK_LTXEQ.POST_APP lane = (if ok = true then post.toNat else s.rd F.LNK_LTXEQ.POST_APP lane) := by
  obtain ⟨hpre, hpost⟩ := rd_settingsTaken pre.isLt post.isLt lane s
  obtain ⟨ok, hok⟩ : ∃ ok, ok = (decide (pre.toNat ≤ 12 ∧ pre.toNat + post.toNat ≤ 16) && !nbit s.lnk.ovr lane) := ⟨_, rfl⟩
  have hexec : exec (.equalisationRequest lane pre post) s =
      done (eqAnswered lane ok (if ok then settingsTaken lane pre.toNat post.toNat s else s)) := by
    rw [hok]
    exact congrArg done (guarded_true hattempt)
  refine Completes.of_eq hexec ?_
  dsimp only
  rw [← hok, rd_eqAnswered, rd_eqAnswered]
  cases ok with
  | true => exact ⟨rfl, hpre, hpost⟩
  | false => exact ⟨rfl, rfl, rfl⟩

/-- The settings of lane g under its override, in force. -/
def overridden (g pre post : Nat) (s : State) : State :=
  let t := settingsTaken g pre post s
  { t with lnk := { t.lnk with ovr := nsetBit t.lnk.ovr g true } }

theorem rd_overridden (g pre post : Nat) (s : State) (f : Fld) (i : Nat) : (overridden g pre post s).rd f i = (settingsTaken g pre post s).rd f i :=
  rfl

/-- An override clamped: CLAMPED, its count and the ward's record (R380). -/
def clampShown (n g : Nat) (s : State) : State := wardLog 4 n g 0 ((s.on F.LNK_LTXEQ.CLAMPED g).satAdd F.WRD_TXCLAMP.COUNT 0 1)

theorem applyOverride_eq (n : Nat) {s : State} {g pre post : Nat} (hovr : s.flag F.LNK_LTXEQ.OVR g = true)
    (hpre : pre = min (s.rd F.LNK_LTXEQ.PRE g) 12) (hpost : post = min (s.rd F.LNK_LTXEQ.POST g) (16 - pre)) :
    applyOverride n s g = if pre = s.rd F.LNK_LTXEQ.PRE g ∧ post = s.rd F.LNK_LTXEQ.POST g then overridden g pre post s
      else clampShown n g (overridden g pre post s) := by
  subst hpost hpre
  exact if_pos hovr

theorem clampShown_effect (n g : Nat) (s : State) : (clampShown n g s).flag F.LNK_LTXEQ.CLAMPED g = true ∧
    (clampShown n g s).rd F.LNK_LTXEQ.PRE_APP g = s.rd F.LNK_LTXEQ.PRE_APP g ∧
    (clampShown n g s).rd F.LNK_LTXEQ.POST_APP g = s.rd F.LNK_LTXEQ.POST_APP g := by
  have hlogged : Keeps (regMask [.WRD_TXCLAMP, .WRD_LOGCTL, .WRD_LOGLOST, .WRD_LOG_W]) 0 (s.on F.LNK_LTXEQ.CLAMPED g) (clampShown n g s) :=
    (keeps_wardLog ..).after rfl rfl ((keeps_satAdd ..).mono rfl rfl)
  refine ⟨(hlogged.flag _ _ rfl).trans (flag_on_same _ _ _ (by decide) (by decide)), (hlogged.rd _ _ rfl).trans ?_,
    (hlogged.rd _ _ rfl).trans ?_⟩
  · exact rd_wr_apart (by decide) _ _ _
  · exact rd_wr_apart (by decide) _ _ _

theorem applyOverride_clamps {s : State} (n : Nat) {g : Nat} (hovr : s.flag F.LNK_LTXEQ.OVR g = true) :
    (applyOverride n s g).rd F.LNK_LTXEQ.PRE_APP g = min (s.rd F.LNK_LTXEQ.PRE g) 12 ∧
    (applyOverride n s g).rd F.LNK_LTXEQ.POST_APP g = min (s.rd F.LNK_LTXEQ.POST g) (16 - (applyOverride n s g).rd F.LNK_LTXEQ.PRE_APP g) ∧
    ((applyOverride n s g).rd F.LNK_LTXEQ.PRE_APP g ≠ s.rd F.LNK_LTXEQ.PRE g ∨
      (applyOverride n s g).rd F.LNK_LTXEQ.POST_APP g ≠ s.rd F.LNK_LTXEQ.POST g → (applyOverride n s g).flag F.LNK_LTXEQ.CLAMPED g = true) := by
  obtain ⟨pre, hpre⟩ : ∃ pre, pre = min (s.rd F.LNK_LTXEQ.PRE g) 12 := ⟨_, rfl⟩
  obtain ⟨post, hpost⟩ : ∃ post, post = min (s.rd F.LNK_LTXEQ.POST g) (16 - pre) := ⟨_, rfl⟩
  obtain ⟨hpreApp, hpostApp⟩ := rd_settingsTaken (pre := pre) (post := post) (by omega) (by omega) g s
  rw [applyOverride_eq n hovr hpre hpost]
  split
  · rename_i hexact
    obtain ⟨hpreExact, hpostExact⟩ := hexact
    rw [rd_overridden, rd_overridden, hpreApp, hpostApp]
    exact ⟨hpre, hpost, fun h => (h.elim (· hpreExact) (· hpostExact)).elim⟩
  · obtain ⟨hclamped, hpreKept, hpostKept⟩ := clampShown_effect n g (overridden g pre post s)
    rw [hpreKept, hpostKept, rd_overridden, rd_overridden, hpreApp, hpostApp]
    exact ⟨hpre, hpost, fun _ => hclamped⟩

/-! #### Restore (R244) -/

/-- Device lane a loops nothing back and is in service again. -/
def restoredShown (a : Nat) (s : State) : State :=
  ((((s.wr F.LNK_LLB.MODE a 0).off F.LNK_LLB.LOCK a).off F.LNK_LLB.FELB a).wrBit F.LNK_RET.RET (a / 16) (a % 16) false).off F.LNK_LSTAT.RETIRED a

theorem restoreLane_eq (a : Nat) (s : State) : restoreLane a s = (restoredShown a s).setCharges a [] := rfl

theorem laneRetired_restoreLane (a g : Nat) (s : State) : laneRetired (restoreLane a s) g = if g = a then false else laneRetired s g := by
  have hloops : Keeps (regMask [.LNK_LLB]) 0 s (((s.wr F.LNK_LLB.MODE a 0).off F.LNK_LLB.LOCK a).off F.LNK_LLB.FELB a) :=
    (keeps_off ..).after rfl rfl ((keeps_off ..).after rfl rfl ((keeps_wr ..).mono rfl rfl))
  have hshown (u : State) : Keeps (regMask [.LNK_LSTAT]) 0 u (u.off F.LNK_LSTAT.RETIRED a) := (keeps_off ..).mono rfl rfl
  rw [restoreLane_eq, laneRetired_setCharges, restoredShown, (hshown _).laneRetired rfl, laneRetired_wrBit, hloops.laneRetired rfl]

theorem mode_restoreLane_same (g : Nat) (s : State) : (restoreLane g s).rd F.LNK_LLB.MODE g = 0 := by
  rw [restoreLane_eq, rd_setCharges, restoredShown, rd_off_other _ _ _ _ _ (.inl (by decide)), rd_wrBit_other _ _ _ _ _ _ _ (.inl (by decide)),
    rd_off_other _ _ _ _ _ (Fld.apart_of_places (by decide) ..), rd_off_other _ _ _ _ _ (Fld.apart_of_places (by decide) ..),
    rd_wr_same _ _ _ _ (by decide), Nat.zero_mod]

theorem mode_restoreLane_other {a g : Nat} (h : a ≠ g) (s : State) : (restoreLane a s).rd F.LNK_LLB.MODE g = s.rd F.LNK_LLB.MODE g := by
  rw [restoreLane_eq, rd_setCharges, restoredShown, rd_off_other _ _ _ _ _ (.inl (by decide)), rd_wrBit_other _ _ _ _ _ _ _ (.inl (by decide)),
    rd_off_other _ _ _ _ _ (.inr (.inl h)), rd_off_other _ _ _ _ _ (.inr (.inl h)), rd_wr_other _ _ _ _ _ _ (.inr (.inl h))]

/-- What a restore shows of lane g: whether it is retired, its charges and its loopback. -/
def laneRecord (g : Nat) (s : State) : Bool × List Nat × Nat := (laneRetired s g, sget [] s.lnk.charges g, s.rd F.LNK_LLB.MODE g)

theorem laneRecord_restoreLane_same (g : Nat) (s : State) : laneRecord g (restoreLane g s) = (false, [], 0) := by
  rw [laneRecord, laneRetired_restoreLane, if_pos rfl, mode_restoreLane_same]
  exact congrArg (fun l => (false, l, 0)) (sget_sset_self [] s.lnk.charges g [])

theorem laneRecord_restoreLane_other {a g : Nat} (h : a ≠ g) (s : State) : laneRecord g (restoreLane a s) = laneRecord g s := by
  rw [laneRecord, laneRetired_restoreLane, if_neg h.symm, mode_restoreLane_other h, laneRecord]
  exact congrArg (fun l => (laneRetired s g, l, s.rd F.LNK_LLB.MODE g)) (sget_sset_ne [] [] s.lnk.charges [] h.symm)

/-- A lane's record after a write of LNK_RET: only what is retired is restored. -/
def restoredRecord (asked : Bool) (r : Bool × List Nat × Nat) : Bool × List Nat × Nat := if asked && r.1 then (false, [], 0) else r

theorem laneRecord_retWrite (p : Nat) (v : Word) (s : State) {l : Nat} (hl : l < 16) :
    laneRecord (16 * p + l) (retWrite p v s) = restoredRecord (nbit (F.LNK_RET.RESTORE.of v) l) (laneRecord (16 * p + l) s) := by
  refine foldl_own (laneRecord (16 * p + l)) (new := restoredRecord (nbit (F.LNK_RET.RESTORE.of v) l)) (List.mem_range.mpr hl) List.nodup_range
    (fun t => ?_) (fun t b _ hb => ?_) s
  · by_cases h : (nbit (F.LNK_RET.RESTORE.of v) l && laneRetired t (16 * p + l)) = true
    · rw [if_pos h, laneRecord_restoreLane_same]
      exact (if_pos h).symm
    · rw [if_neg h]
      exact (if_neg h).symm
  · split
    · exact laneRecord_restoreLane_other (fun h => hb (Nat.add_left_cancel h)) t
    · rfl

theorem lnkRestore_completes (s : State) (p : Fin 8) (v : Word) : Completes (.lnkRestore p v) s fun t => ∀ l : Fin 16,
    laneRetired t (16 * p + l) = (laneRetired s (16 * p + l) && !nbit (F.LNK_RET.RESTORE.of v) l) ∧
    (laneRetired s (16 * p + l) = true → nbit (F.LNK_RET.RESTORE.of v) l = true →
      sget [] t.lnk.charges (16 * p + l) = [] ∧ t.rd F.LNK_LLB.MODE (16 * p + l) = 0) := by
  refine Completes.of_eq (t := retWrite p v s) rfl fun l => ?_
  have hrecord := laneRecord_retWrite p v s l.isLt
  unfold laneRecord at hrecord
  cases hasked : nbit (F.LNK_RET.RESTORE.of v) l with
  | true =>
    cases hretired : laneRetired s (16 * p + l) with
    | true =>
      rw [hasked, hretired] at hrecord
      obtain ⟨h1, h2⟩ := Prod.mk.inj hrecord
      obtain ⟨h2, h3⟩ := Prod.mk.inj h2
      exact ⟨h1, fun _ _ => ⟨h2, h3⟩⟩
    | false =>
      rw [hasked, hretired] at hrecord
      exact ⟨(Prod.mk.inj hrecord).1, nofun⟩
  | false =>
    rw [hasked] at hrecord
    exact ⟨(Prod.mk.inj hrecord).1.trans (Bool.and_true _).symm, nofun⟩

/-! #### Near-end loopbacks (R245, R246) -/

/-- PAT, RATE and REJECT of lane g after a write of LNK_LLB, before its MODE is judged. -/
def llbPrepared (g : Nat) (v : Word) (s : State) : State :=
  let s1 := if F.LNK_LLB.PAT.of v ≤ 3 then s.wr F.LNK_LLB.PAT g (F.LNK_LLB.PAT.of v) else s
  let s2 := if 1 ≤ F.LNK_LLB.RATE.of v ∧ F.LNK_LLB.RATE.of v ≤ rateCap s (laneHead s g) then
    s1.wr F.LNK_LLB.RATE g (F.LNK_LLB.RATE.of v) else s1
  if F.LNK_LLB.REJECT.of v = 1 then s2.off F.LNK_LLB.REJECT g else s2

theorem llbWrite_eq (g : Nat) (v : Word) (s : State) : llbWrite g v s =
    if F.LNK_LLB.MODE.of v = 0 then ((llbPrepared g v s).wr F.LNK_LLB.MODE g 0).off F.LNK_LLB.LOCK g
    else if !loopbackOk s g then (llbPrepared g v s).on F.LNK_LLB.REJECT g
    else if F.LNK_LLB.MODE.of v = 3 then llbPrepared g v s
    else ((llbPrepared g v s).wr F.LNK_LLB.MODE g (F.LNK_LLB.MODE.of v)).off F.LNK_LLB.LOCK g := rfl

theorem mode_llbPrepared (g : Nat) (v : Word) (s : State) : (llbPrepared g v s).rd F.LNK_LLB.MODE g = s.rd F.LNK_LLB.MODE g := by
  have hwr (b : Prop) [Decidable b] (u : State) {f : Fld} (hf : f.Beside F.LNK_LLB.MODE) (x : Nat) :
      (if b then u.wr f g x else u).rd F.LNK_LLB.MODE g = u.rd F.LNK_LLB.MODE g := by
    split
    · exact rd_wr_apart hf _ _ _
    · rfl
  exact (hwr _ _ (by decide) 0).trans ((hwr _ _ (by decide) _).trans (hwr _ _ (by decide) _))

/-- A write that asks for a loopback where none may start sets REJECT and leaves MODE. -/
theorem llbWrite_rejects {g : Nat} {v : Word} {s : State} (hmode : F.LNK_LLB.MODE.of v ≠ 0) (hno : loopbackOk s g = false) :
    (llbWrite g v s).rd F.LNK_LLB.MODE g = s.rd F.LNK_LLB.MODE g ∧ (llbWrite g v s).flag F.LNK_LLB.REJECT g = true := by
  rw [llbWrite_eq, if_neg hmode, hno, Bool.not_false, if_pos rfl]
  exact ⟨(rd_wr_apart (by decide) _ _ _).trans (mode_llbPrepared ..), flag_on_same _ _ _ (by decide) (by decide)⟩

theorem llbWrite_starts {g : Nat} {v : Word} {s : State} (hmode : F.LNK_LLB.MODE.of v = 1 ∨ F.LNK_LLB.MODE.of v = 2)
    (hok : loopbackOk s g = true) :
    (llbWrite g v s).rd F.LNK_LLB.MODE g = F.LNK_LLB.MODE.of v ∧ (llbWrite g v s).flag F.LNK_LLB.LOCK g = false := by
  rw [llbWrite_eq, if_neg (by omega), hok, if_neg (by decide), if_neg (by omega)]
  refine ⟨(rd_wr_apart (by decide) _ _ _).trans ((rd_wr_same _ _ _ _ (by decide)).trans (of_mod _ v)), flag_off_same _ _ _ (by decide)⟩

theorem loopbackModeWrite_completes (s : State) (lane : Fin 128) {v : Word} (hmode : F.LNK_LLB.MODE.of v = 1 ∨ F.LNK_LLB.MODE.of v = 2) :
    Completes (.loopbackModeWrite lane v) s fun t =>
      if loopbackOk s lane = true then t.rd F.LNK_LLB.MODE lane = F.LNK_LLB.MODE.of v ∧ t.flag F.LNK_LLB.LOCK lane = false
      else t.rd F.LNK_LLB.MODE lane = s.rd F.LNK_LLB.MODE lane ∧ t.flag F.LNK_LLB.REJECT lane = true := by
  refine Completes.of_eq (t := llbWrite lane v s) rfl ?_
  split
  · exact llbWrite_starts hmode ‹_›
  · exact llbWrite_rejects (by omega) (Bool.eq_false_iff.mpr ‹_›)

/-- The reserved encoding of MODE leaves it (R8). -/
theorem loopbackModeWrite_reserved (s : State) (lane : Fin 128) {v : Word} (hmode : F.LNK_LLB.MODE.of v = 3) :
    Completes (.loopbackModeWrite lane v) s fun t =>
      t.rd F.LNK_LLB.MODE lane = s.rd F.LNK_LLB.MODE lane ∧ (loopbackOk s lane = false → t.flag F.LNK_LLB.REJECT lane = true) := by
  refine Completes.of_eq (t := llbWrite lane v s) rfl ?_
  cases hok : loopbackOk s lane with
  | false =>
    obtain ⟨hkept, hreject⟩ := llbWrite_rejects (v := v) (by omega) hok
    exact ⟨hkept, fun _ => hreject⟩
  | true =>
    rw [llbWrite_eq, if_neg (by omega), hok, if_neg (by decide), if_pos hmode]
    exact ⟨mode_llbPrepared .., nofun⟩

/-! #### Counters (R240) -/

theorem windowRoll_newer {s : State} {r : HeadRec} (h : r.recWindow ≠ s.dtcNow / 1000000000) :
    windowRoll s r = { r with recWindow := s.dtcNow / 1000000000, recCount := 0, errDone := false } := if_neg h

/-- Settles O25: an attempt's end charges each lane once and leaves it as it stands before and after; the other commands write the fields of one
lane, one head or one record. -/
theorem lanesAreChargedRetiredAndLooped : Obligations.LanesAreChargedRetiredAndLooped := by
  unfold Obligations.LanesAreChargedRetiredAndLooped
  refine ⟨?_, ?_, ?_, ?_, ?_, ?_, ?_, ?_, ?_, ?_, ?_, ?_, ?_, ?_, ?_⟩
  · exact fun s n g hattempt hg => attemptFailure_charges hattempt hg
  · exact fun s n g t1 t2 hattempt hg htwo => attemptFailure_third hattempt hg htwo
  · exact fun s n g _ hstage => ⟨fun hg => (mem_chargedLanes hg).2 hstage, fun hg => (mem_chargedLanes hg).2 hstage⟩
  · exact fun s lane stage pol rx hattempt hservice hlo hhi hstage => laneStageReached_completes pol rx hattempt hservice hlo hhi hstage
  · exact fun s lane pre post hattempt => equalisationRequest_completes pre post hattempt
  · exact fun s n g hovr => applyOverride_clamps n hovr
  · exact fun s p v => lnkRestore_completes s p v
  · exact fun s lane v hmode => loopbackModeWrite_completes s lane hmode
  · exact fun s lane v hmode => loopbackModeWrite_reserved s lane hmode
  · exact fun s lane hmode => Completes.of_guarded (f := fun s => s.on F.LNK_LLB.LOCK lane) rfl (bne_iff_ne.mpr hmode)
      ⟨flag_on_same _ _ _ (by decide) (by decide), rd_wr_apart (by decide) _ _ _⟩
  · exact fun s lane hlock => Completes.of_guarded (f := fun s => s.satAdd F.LNK_LLBERR.COUNT lane 1) rfl hlock
      (rd_satAdd_same _ _ _ _ (by decide))
  · exact fun s lane => Completes.of_eq (t := s.satAdd F.LNK_LERR.COUNT lane 1) rfl (rd_satAdd_same _ _ _ _ (by decide))
  · exact fun s n hexists => Completes.of_guarded (f := fun s => s.satAdd F.LNK_HFEC.COUNT n 1) rfl hexists (rd_satAdd_same _ _ _ _ (by decide))
  · exact fun s n hexists => Completes.of_guarded (f := fun s => s.satAdd F.LNK_HREPLAY.COUNT n 1) rfl hexists
      (rd_satAdd_same _ _ _ _ (by decide))
  · intro s n hnewer
    refine Completes.of_eq (t := s.setHead n (windowRoll s (s.head n))) rfl ?_
    rw [head_setHead_same, windowRoll_newer hnewer]
    exact ⟨rfl, rfl, rfl, rfl⟩

end Sys2Proof.Machine

/-! ### Front ends and directories (R260, R261, R271, R282) -/

namespace Sys2Proof.Machine
open Sys2Proof

/-! #### The check of a front end (R260, R282) -/

/-- What the check of a tenant's request asks, with the modes that serve its class. -/
def tenantCheck (s : State) (r : Req) (modes : Bool) : Option (Nat × Nat) :=
  let e := feEntry s (r.da / 2 ^ 28)
  if !(modes && e.st == 0) then some (2, 0)
  else if !nbit e.acc r.tag.id then some (0, e.acc)
  else if r.op == .write && !nbit e.wr r.tag.id then some (1, e.acc)
  else if r.tag.cls == 0 && e.mode == 2 && s.flag F.COH_HEAD.FENCED r.tag.id then some (3, 0)
  else none

section
variable {s : State} {n : Nat} {r : Req}

/-- An uncorrectable entry refuses every request (R261). -/
theorem partitionCheck_of_bad (hbad : entryBad s n (r.da / 2 ^ 28) = true) :
    partitionCheck s n r = some (7, (feEntry s (r.da / 2 ^ 28)).acc) := if_pos hbad

variable (hgood : entryBad s n (r.da / 2 ^ 28) = false)
include hgood

theorem partitionCheck_of_good : partitionCheck s n r =
    let e := feEntry s (r.da / 2 ^ 28)
    let data := e.mode == 1 || e.mode == 2 || e.mode == 3
    if r.tag.cls = 0 then tenantCheck s r data
    else if r.tag.cls = 1 ∧ r.tag.id = 16 then
      (if !(data && e.st == 0) then some (2, 0) else if e.static then none else some (0, e.acc))
    else if r.tag.cls = 1 ∨ r.tag.cls = 2 then tenantCheck s r (data || e.mode == 5)
    else if r.tag.cls = 3 ∨ r.tag.cls = 4 then (if e.st = 0 ∧ (e.mode = 0 ∨ e.mode = 4) then none else some (2, 0))
    else some (2, 0) := if_neg (Bool.eq_false_iff.mp hgood)

end

theorem tenantCheck_eq_none_iff {s : State} {r : Req} {modes : Bool} {e : PtEntry} (he : e = feEntry s (r.da / 2 ^ 28)) :
    tenantCheck s r modes = none ↔ modes = true ∧ e.st = 0 ∧ nbit e.acc r.tag.id = true ∧
      (r.op = .write → nbit e.wr r.tag.id = true) ∧
      (r.tag.cls = 0 → e.mode = 2 → s.flag F.COH_HEAD.FENCED r.tag.id = false) := by
  unfold tenantCheck
  dsimp only
  rw [← he]
  split
  · next hserved =>
    rw [Bool.not_eq_true', Bool.and_eq_false_iff, beq_eq_false_iff_ne] at hserved
    exact ⟨nofun, fun h => absurd h.2.1 (hserved.resolve_left (Bool.not_eq_false _ ▸ h.1))⟩
  · next hserved =>
    rw [Bool.not_eq_true', Bool.not_eq_false, Bool.and_eq_true, beq_iff_eq] at hserved
    split
    · next hacc => exact ⟨nofun, fun h => absurd h.2.2.1 (by simpa using hacc)⟩
    · next hacc =>
      split
      · next hwr => simp_all
      · next hwr =>
        split
        · next hfenced => simp_all
        · next hfenced => simp_all

/-- A fenced head is the only tenant that an extent of mode 2 refuses beside its masks. -/
theorem partitionCheck_head {s : State} {n t : Nat} {r : Req} {e : PtEntry} (he : e = feEntry s (r.da / 2 ^ 28)) (htag : r.tag = ⟨0, t⟩)
    (hgood : entryBad s n (r.da / 2 ^ 28) = false) :
    partitionCheck s n r = none ↔ (e.mode = 1 ∨ e.mode = 2 ∨ e.mode = 3) ∧ e.st = 0 ∧ nbit e.acc t = true ∧
      (r.op = .write → nbit e.wr t = true) ∧ (e.mode = 2 → s.flag F.COH_HEAD.FENCED t = false) := by
  rw [partitionCheck_of_good hgood]
  dsimp only
  rw [if_pos (by rw [htag]), tenantCheck_eq_none_iff he, htag, ← he]
  simp [or_assoc]

theorem partitionCheck_tenant {s : State} {n t c : Nat} {r : Req} {e : PtEntry} (he : e = feEntry s (r.da / 2 ^ 28)) (htag : r.tag = ⟨c, t⟩)
    (hc : c = 1 ∨ c = 2) (ht : t < 16) (hgood : entryBad s n (r.da / 2 ^ 28) = false) :
    partitionCheck s n r = none ↔ (e.mode = 1 ∨ e.mode = 2 ∨ e.mode = 3 ∨ e.mode = 5) ∧ e.st = 0 ∧ nbit e.acc t = true ∧
      (r.op = .write → nbit e.wr t = true) := by
  have hcls : r.tag.cls = c := by rw [htag]
  have hid : r.tag.id = t := by rw [htag]
  have hzero : r.tag.cls ≠ 0 := by omega
  rw [partitionCheck_of_good hgood]
  dsimp only
  rw [if_neg hzero, if_neg (by omega), if_pos (by omega), tenantCheck_eq_none_iff he, hid, ← he]
  simp [or_assoc, hzero]

theorem partitionCheck_static {s : State} {n : Nat} {r : Req} {e : PtEntry} (he : e = feEntry s (r.da / 2 ^ 28)) (htag : r.tag = ⟨1, 16⟩)
    (hgood : entryBad s n (r.da / 2 ^ 28) = false) :
    partitionCheck s n r = none ↔ (e.mode = 1 ∨ e.mode = 2 ∨ e.mode = 3) ∧ e.st = 0 ∧ e.static = true := by
  rw [partitionCheck_of_good hgood]
  dsimp only
  rw [if_neg (by rw [htag]; decide), if_pos (by rw [htag]; decide), ← he]
  have hserved : (!((e.mode == 1 || e.mode == 2 || e.mode == 3) && e.st == 0)) = true ↔
      ¬((e.mode = 1 ∨ e.mode = 2 ∨ e.mode = 3) ∧ e.st = 0) := by
    rw [Bool.not_eq_true', Bool.eq_false_iff]
    simp only [ne_eq, Bool.and_eq_true, Bool.or_eq_true, beq_iff_eq, or_assoc]
  split
  · next hnot =>
    rw [hserved] at hnot
    exact ⟨nofun, fun h => absurd ⟨h.1, h.2.1⟩ hnot⟩
  · next hdata =>
    obtain ⟨hmode, hst⟩ := not_not.mp (mt hserved.mpr hdata)
    simp [hmode, hst]

theorem partitionCheck_keeper {s : State} {n t c : Nat} {r : Req} {e : PtEntry} (he : e = feEntry s (r.da / 2 ^ 28)) (htag : r.tag = ⟨c, t⟩)
    (hc : c = 3 ∨ c = 4) (hgood : entryBad s n (r.da / 2 ^ 28) = false) :
    partitionCheck s n r = none ↔ (e.mode = 0 ∨ e.mode = 4) ∧ e.st = 0 := by
  have hcls : r.tag.cls = c := by rw [htag]
  rw [partitionCheck_of_good hgood]
  dsimp only
  rw [if_neg (by omega), if_neg (by omega), if_neg (by omega), if_pos (by omega), ← he]
  by_cases hserved : e.st = 0 ∧ (e.mode = 0 ∨ e.mode = 4)
  · simp [hserved]
  · rw [if_neg hserved]
    exact ⟨nofun, fun h => absurd h.symm hserved⟩

/-- What the check refuses is denied, with the reason and the victims that it found (R282). -/
theorem frontEnd_of_refused {s : State} {n reason victims : Nat} {r : Req} (h : partitionCheck s n r = some (reason, victims)) :
    frontEnd n r s = denied r reason (r.da / 2 ^ 28) victims s := by
  simp only [frontEnd, h]

/-! #### The directory's table (R271) -/

theorem two_pow_inj {m n : Nat} : 2 ^ m = 2 ^ n ↔ m = n := Nat.pow_right_injective (le_refl 2) |>.eq_iff

section
variable {r : Req} {line n : Nat} {own : Bool}

/-- A read of a line that another head holds exclusively takes it over, or reduces it to a shared copy. -/
theorem dirAction_read_of_other {m : Nat} (hmn : m ≠ n) (hop : r.op = .read) :
    dirAction ⟨line, true, 2 ^ m⟩ r line (some n) own =
      if r.intent = .excl ∧ own = true then (2 ^ m, 0, ⟨line, true, 2 ^ n⟩)
      else if r.intent = .none then (0, 2 ^ m, ⟨line, false, 2 ^ m⟩) else (0, 2 ^ m, ⟨line, false, 2 ^ m ||| 2 ^ n⟩) := by
  have hne : 2 ^ m ≠ 2 ^ n := mt two_pow_inj.mp hmn
  have hpos : 2 ^ m ≠ 0 := (Nat.two_pow_pos m).ne'
  simp only [dirAction, hop, if_neg hpos, if_true, if_neg hne, grantOf]
  cases r.intent <;> cases own <;> rfl

/-- A read of a shared line joins its sharers, or takes the line from them. -/
theorem dirAction_read_of_shared {x : Nat} (hx : x ≠ 0) (hop : r.op = .read) :
    dirAction ⟨line, false, x⟩ r line (some n) own =
      if r.intent = .excl ∧ own = true then (nsetBit x n false, 0, ⟨line, true, 2 ^ n⟩)
      else if r.intent = .none then (0, 0, ⟨line, false, x⟩) else (0, 0, ⟨line, false, x ||| 2 ^ n⟩) := by
  simp only [dirAction, hop, if_neg hx, Bool.false_eq_true, if_false, grantOf]
  cases r.intent <;> cases own <;> rfl

/-- A write, of a head that does not own the line or of a device, takes the line from its sharers. -/
theorem dirAction_write {x : Nat} {excl : Bool} (hop : r.op = .write) (hnot : ¬(excl = true ∧ x = 2 ^ n)) :
    dirAction ⟨line, excl, x⟩ r line (some n) own = (nsetBit x n false, 0, .none) ∧
    dirAction ⟨line, excl, x⟩ r line none own = (x, 0, .none) := by
  simp only [dirAction, hop, if_neg hnot, and_self]

/-- The owner of a line reads it as it stands, and a device's read leaves it a shared copy. -/
theorem dirAction_read_of_owner (hop : r.op = .read) :
    dirAction ⟨line, true, 2 ^ n⟩ r line (some n) own = (0, 0, ⟨line, true, 2 ^ n⟩) ∧
    dirAction ⟨line, true, 2 ^ n⟩ r line none own = (0, 2 ^ n, ⟨line, false, 2 ^ n⟩) := by
  simp only [dirAction, hop, if_neg (Nat.two_pow_pos n).ne', if_true, and_self]

/-- The owner of a line that writes it back keeps what its intent says. -/
theorem dirAction_write_of_owner (hop : r.op = .write) :
    dirAction ⟨line, true, 2 ^ n⟩ r line (some n) own =
      (0, 0, match r.intent with | .none => .none | .shared => ⟨line, false, 2 ^ n⟩ | .excl => ⟨line, true, 2 ^ n⟩) := by
  simp only [dirAction, hop, and_self, if_true]
  cases r.intent <;> rfl

end

/-- Settles O27, rule by rule: the check of each class of requester, then the directory's table by the state of the entry and the operation. -/
theorem frontEndsAdmitAndDirectoriesDecide : Obligations.FrontEndsAdmitAndDirectoriesDecide := by
  unfold Obligations.FrontEndsAdmitAndDirectoriesDecide
  refine ⟨?_, ?_, ?_, ?_, ?_, ?_, ?_, ?_, ?_, ?_⟩
  · exact fun s n t r e he htag hgood => partitionCheck_head he htag hgood
  · exact fun s n t c r e he htag hc ht hgood => partitionCheck_tenant he htag hc ht hgood
  · exact fun s n r e he htag hgood => partitionCheck_static he htag hgood
  · exact fun s n t c r e he htag hc hgood => partitionCheck_keeper he htag hc hgood
  · exact fun s n r hbad => partitionCheck_of_bad hbad
  · exact fun s n r reason victims h => frontEnd_of_refused h
  · rintro line m n e r own rfl hmn hop
    exact dirAction_read_of_other hmn hop
  · rintro line x n e r own rfl hx hop
    exact dirAction_read_of_shared hx hop
  · rintro line x n e r own excl rfl hop hnot
    exact dirAction_write hop hnot
  · rintro line n e r own rfl
    exact ⟨dirAction_read_of_owner, dirAction_write_of_owner⟩

end Sys2Proof.Machine

/-! ### What the walks of the directories leave alone (R263, R264, R275) -/

namespace Sys2Proof.Machine
open Sys2Proof

/-- The partition table with its command and the extents that wait to be cleared, and the extents that the heads have been offered and hold. -/
def CohState.tenancy (c : CohState) : Sparse PtEntry × Option (Nat × PtEntry) × List Nat × Sparse (List Nat) × Sparse (List Nat) :=
  (c.pt, c.ptOld, c.clearQ, c.offered, c.accepted)

/-- From `s` to `t` the extents stand as they did, and a head that is fenced stays so. -/
structure TenancyStands (s t : State) : Prop where
  tenancy : t.coh.tenancy = s.coh.tenancy
  fenced : ∀ n, s.flag F.COH_HEAD.FENCED n = true → t.flag F.COH_HEAD.FENCED n = true

namespace TenancyStands

theorem refl (s : State) : TenancyStands s s := ⟨rfl, fun _ h => h⟩

theorem trans {s t u : State} (h1 : TenancyStands s t) (h2 : TenancyStands t u) : TenancyStands s u :=
  ⟨h2.tenancy.trans h1.tenancy, fun n h => h2.fenced n (h1.fenced n h)⟩

theorem foldl {α : Type} {f : State → α → State} (hf : ∀ t a, TenancyStands t (f t a)) (l : List α) (s : State) :
    TenancyStands s (l.foldl f s) := by
  induction l generalizing s with
  | nil => exact refl s
  | cons a l ih => exact (hf s a).trans (ih _)

theorem of_keeps {R P : Nat} {s t : State} (h : Keeps R P s t) (hR : R.testBit RegName.COH_HEAD.ctorIdx = false)
    (hP : P.testBit Part.coh.ctorIdx = false) : TenancyStands s t :=
  ⟨congrArg CohState.tenancy (h.part .coh hP), fun n hn => (h.flag F.COH_HEAD.FENCED n hR).trans hn⟩

theorem of_coh {s : State} {c : CohState} (h : c.tenancy = s.coh.tenancy) : TenancyStands s { s with coh := c } := ⟨h, fun _ hn => hn⟩

theorem of_wr (s : State) {f : Fld} (h : f.Beside F.COH_HEAD.FENCED) (i v : Nat) : TenancyStands s (s.wr f i v) :=
  ⟨rfl, fun n hn => (flag_wr_other _ _ _ _ _ _ (Fld.apart_of_places h i n)).trans hn⟩

variable {s t : State} (h : TenancyStands s t)
include h

theorem pt : t.coh.pt = s.coh.pt := congrArg Prod.fst h.tenancy
theorem ptOld : t.coh.ptOld = s.coh.ptOld := congrArg (·.2.1) h.tenancy
theorem clearQ : t.coh.clearQ = s.coh.clearQ := congrArg (·.2.2.1) h.tenancy
theorem offered : t.coh.offered = s.coh.offered := congrArg (·.2.2.2.1) h.tenancy
theorem accepted : t.coh.accepted = s.coh.accepted := congrArg (·.2.2.2.2) h.tenancy

end TenancyStands

/-! #### Fences and failed snoops (R275) -/

theorem flag_fenced_on (n j : Nat) (s : State) : (s.on F.COH_HEAD.FENCED n).flag F.COH_HEAD.FENCED j =
    if j = n then true else s.flag F.COH_HEAD.FENCED j := by
  split
  · next h => rw [h, flag_on_same _ _ _ (by decide) (by decide)]
  · next h => exact flag_on_other _ _ _ _ _ (.inr (.inl (Ne.symm h)))

theorem tenancyStands_fenced_on (n : Nat) (s : State) : TenancyStands s (s.on F.COH_HEAD.FENCED n) :=
  ⟨rfl, fun j hj => by rw [flag_fenced_on, hj, ite_self]⟩

/-- A head that was not fenced: it is marked, its walk noted, its event raised. -/
def fenceShown (n : Nat) (s : State) : State :=
  let t := (s.on F.COH_HEAD.FENCED n).on F.COH_HEAD.WALK n
  if t.flag F.COH_CTL.BIEVT_EN 0 then raise (672 + n) t else t

theorem tenancyStands_fenceShown (n : Nat) (s : State) :
    TenancyStands ((s.on F.COH_HEAD.FENCED n).on F.COH_HEAD.WALK n) (fenceShown n s) := by
  unfold fenceShown
  dsimp only
  split
  · exact .of_keeps (keeps_raise _ _) rfl rfl
  · exact .refl _

theorem fence_eq (n : Nat) (s : State) : fence n s =
    if s.flag F.COH_HEAD.FENCED n then s
    else { fenceShown n s with coh := { (fenceShown n s).coh with
      walks := (fenceShown n s).coh.walks ++ [⟨.head n, [0, 1, 2, 3], [], [], []⟩]
      fenceReset := BitVec.ofNat 16 (nsetBit (fenceShown n s).coh.fenceReset.toNat n false) } } := rfl

theorem tenancyStands_fence (n : Nat) (s : State) : TenancyStands s (fence n s) := by
  rw [fence_eq]
  split
  · exact .refl s
  · exact (tenancyStands_fenced_on n s).trans ((TenancyStands.of_wr _ (by decide) n 1).trans
      ((tenancyStands_fenceShown n s).trans (.of_coh rfl)))

theorem flag_fence (n : Nat) (s : State) : (fence n s).flag F.COH_HEAD.FENCED n = true := by
  rw [fence_eq]
  split
  · assumption
  · refine (tenancyStands_fenceShown n s).fenced n ?_
    exact (TenancyStands.of_wr _ (by decide) n 1).fenced n (flag_on_same _ _ _ (by decide) (by decide))

theorem tenancyStands_failUnsent (p : PendLine) (s : State) : TenancyStands s (failUnsent p s).2 := by
  unfold failUnsent
  dsimp only
  refine .foldl (fun t q => ?_) _ s
  have hpoison : TenancyStands t (failPoison p q.head t) := .of_keeps (keeps_failPoison p q.head t) rfl rfl
  exact hpoison.trans (tenancyStands_fence q.head _)

/-! #### Walks -/

theorem tenancyStands_addPend (p : PendLine) (s : State) : TenancyStands s (addPend p s) :=
  (TenancyStands.of_coh (s := s) (c := { s.coh with pend := s.coh.pend ++ [p] }) rfl).trans
    ((TenancyStands.of_keeps (keeps_dirRegs ..) rfl rfl).trans (.of_keeps (keeps_sendSnoops ..) rfl rfl))

theorem tenancyStands_walkEntry (leaf accLost wrLost : Nat) (discard : Bool) (s : State) (e : DirEntry) :
    TenancyStands s (walkEntry leaf accLost wrLost discard s e) := by
  unfold walkEntry
  extract_lets inv dat after p
  split
  · exact .refl s
  · have hfailed := tenancyStands_failUnsent p s
    generalize failUnsent p s = q at hfailed ⊢
    obtain ⟨p', u⟩ := q
    refine hfailed.trans ?_
    dsimp only
    split
    · split
      · exact .of_coh rfl
      · exact .refl _
    · exact tenancyStands_addPend _ _

/-- Head n taken out of one entry; a line it held exclusively is poisoned. -/
def walkHeadEntry (n : Nat) (t : State) (e : Nat × DirEntry) : State :=
  let t1 := if e.2.excl then poisonLine (lineChan t e.2.line) (chanLine t e.2.line) t else t
  let d := dropSharer n e.2
  { t1 with coh := { t1.coh with dir := sset .none t1.coh.dir e.1 (if d.sharers = 0 then DirEntry.none else d) } }

theorem tenancyStands_walkHeadEntry (n : Nat) (t : State) (e : Nat × DirEntry) : TenancyStands t (walkHeadEntry n t e) := by
  have hpoison : TenancyStands t (if e.2.excl then poisonLine (lineChan t e.2.line) (chanLine t e.2.line) t else t) := by
    split
    · exact .of_keeps (keeps_poisonLine ..) rfl rfl
    · exact .refl t
  exact hpoison.trans (.of_coh rfl)

theorem walkHead_eq (leaf n : Nat) (s : State) : walkHead leaf n s =
    let t := (s.coh.dir.filter (fun e => e.1 / 1048576 == leaf && nbit e.2.sharers n)).foldl (walkHeadEntry n) s
    dirRegs leaf { t with coh := { t.coh with
      pend := t.coh.pend.map (fun p => if p.leaf = leaf then { p with after := dropSharer n p.after } else p) } } := rfl

theorem tenancyStands_walkHead (leaf n : Nat) (s : State) : TenancyStands s (walkHead leaf n s) := by
  rw [walkHead_eq]
  have hentries := TenancyStands.foldl (tenancyStands_walkHeadEntry n)
    (s.coh.dir.filter (fun e => e.1 / 1048576 == leaf && nbit e.2.sharers n)) s
  dsimp only
  generalize List.foldl (walkHeadEntry n) s _ = t at hentries ⊢
  refine hentries.trans (.trans (.of_coh (s := t) ?_) (.of_keeps (keeps_dirRegs ..) rfl rfl))
  rfl

theorem tenancyStands_walkLeaf (leaf : Nat) (s : State) : TenancyStands s (walkLeaf leaf s) := by
  unfold walkLeaf
  split
  · exact .refl s
  · rename_i w rest _
    have hrest : TenancyStands s { s with coh := { s.coh with walks := rest } } := .of_coh rfl
    dsimp only
    split
    · exact hrest.trans ((TenancyStands.foldl (fun t e => tenancyStands_walkEntry _ _ _ _ t e) _ _).trans (.of_keeps (keeps_dirRegs ..) rfl rfl))
    · exact hrest.trans ((TenancyStands.foldl (fun t e => tenancyStands_walkEntry _ _ _ _ t e) _ _).trans (.of_keeps (keeps_dirRegs ..) rfl rfl))
    · exact hrest.trans (tenancyStands_walkHead ..)

theorem tenancyStands_pumpWalks (f : Nat) (s : State) : TenancyStands s (pumpWalks f s) := by
  induction f generalizing s with
  | zero => exact .refl s
  | succ f ih =>
    rw [pumpWalks]
    split
    · exact .refl s
    · rename_i leaf ws _
      have hask : TenancyStands s (mntHwRequest 8 leaf { s with coh := { s.coh with walks := ws } }).1 :=
        .trans (.of_coh (c := { s.coh with walks := ws }) rfl) (.of_keeps (keeps_mntHwRequest ..) rfl rfl)
      dsimp only
      generalize mntHwRequest 8 leaf { s with coh := { s.coh with walks := ws } } = q at hask ⊢
      obtain ⟨u, ok⟩ := q
      refine hask.trans (.trans (t := if ok = true then walkLeaf leaf u else u) ?_ (ih _))
      split
      · exact tenancyStands_walkLeaf ..
      · exact .refl _

theorem tenancyStands_walks (s : State) : TenancyStands s (walks s) := tenancyStands_pumpWalks 512 s

theorem walks_of_none {s : State} (h : s.coh.walks = []) : walks s = s := by
  rw [walks, pumpWalks, h]
  rfl

/-! #### Lines that leave a device cache (R280) -/

theorem tenancyStands_dcUe (n : Nat) (s : State) : TenancyStands s (dcUe n s) :=
  (TenancyStands.of_wr s (by decide) (n / 2) _).trans (.of_keeps (keeps_dcErr ..) rfl rfl)

theorem tenancyStands_writeBack (n line : Nat) (d : Line) (poison : Bool) (s : State) : TenancyStands s (writeBack n line d poison s) := by
  unfold writeBack
  split
  · exact ⟨rfl, fun _ h => h⟩
  · exact .of_coh rfl

theorem tenancyStands_dcWriteBack (n : Nat) (d : DcLine) (s : State) : TenancyStands s (dcWriteBack n d s) := by
  unfold dcWriteBack
  split
  · exact (tenancyStands_writeBack ..).trans (tenancyStands_dcUe ..)
  · exact tenancyStands_writeBack ..

theorem tenancyStands_dcDrop (n way : Nat) (d : DcLine) (s : State) : TenancyStands s (dcDrop n way d s) := by
  refine .trans (t := if d.dirty then dcWriteBack n d s else s) ?_ (.of_coh rfl)
  split
  · exact tenancyStands_dcWriteBack ..
  · exact .refl s

theorem tenancyStands_dcFlushReleased (n : Nat) (s : State) : TenancyStands s (dcFlushReleased n s) := by
  unfold dcFlushReleased
  split
  · exact .foldl (fun t e => tenancyStands_dcDrop ..) _ s
  · exact .refl s

/-- No line leaves a cache where no extent is being released. -/
theorem dcFlushReleased_of_none {n : Nat} {s : State} (h : ∀ e ∈ s.coh.pt, e.2.rel = false) : dcFlushReleased n s = s := by
  have hkept (d : DcLine) : dcReleased s n d = false := by
    rw [dcReleased, List.any_eq_false]
    intro e he
    rw [h e he]
    simp
  unfold dcFlushReleased
  split
  · simp only [dcDropAll, hkept, List.filter_false, List.foldl_nil]
  · rfl

end Sys2Proof.Machine

/-! ### The partition table (R258, R259, R262–R265) -/

namespace Sys2Proof.Machine
open Sys2Proof

/-! #### Entries -/

theorem ptEntry_setPt_same (s : State) (k : Nat) (e : PtEntry) : (s.setPt k e).ptEntry k = e := sget_sset_self ..

theorem ptEntry_congr {s t : State} (h : t.coh.pt = s.coh.pt) (k : Nat) : t.ptEntry k = s.ptEntry k :=
  congrArg (fun l => sget PtEntry.free l k) h

/-- The state with extent k queued to be cleared. -/
def queueClear (k : Nat) (s : State) : State := { s with coh := { s.coh with clearQ := s.coh.clearQ ++ [k] } }

theorem keeps_queueClear (k : Nat) (s : State) : Keeps 0 (partMask [.coh]) s (queueClear k s) :=
  Keeps.store rfl rfl id id id fun p hp => by
    cases p with
    | coh => cases hp
    | _ => rfl

/-! #### A change of an entry (R264) -/

section
variable (k : Nat) (e : PtEntry) (s : State)

theorem ptEntry_ptChange : (ptChange k e s).ptEntry k = e := sget_sset_self ..

theorem ptOld_ptChange : (ptChange k e s).coh.ptOld = some (k, s.ptEntry k) := rfl

theorem clearQ_ptChange : (ptChange k e s).coh.clearQ = s.coh.clearQ := rfl

theorem busy_ptChange : (ptChange k e s).flag F.COH_PT_STAT.BUSY 0 = true := flag_on_same _ _ _ (by decide) (by decide)

theorem result_ptChange : (ptChange k e s).rd F.COH_PT_STAT.RESULT 0 = s.rd F.COH_PT_STAT.RESULT 0 := rd_wr_apart (by decide) _ _ _

end

/-! #### A command (R262) -/

/-- The state in which a command's RESULT and DONE are shown. -/
def ptAnswered (res : Nat) (s : State) : State := (s.wr F.COH_PT_STAT.RESULT 0 res).on F.COH_PT_STAT.DONE 0

/-- The effect of an accepted command. -/
def ptPerformed (op k : Nat) (s : State) : State :=
  match op with
  | 1 => ptRead k s
  | 2 => ptAssign k s
  | 3 => ptNarrow k s
  | _ => ptRelease k s

theorem ptCmd_eq {v : Word} {s : State} (hbusy : s.flag F.COH_PT_STAT.BUSY 0 = false) (h0 : F.COH_PT_CMD.OP.of v ≠ 0)
    (h4 : F.COH_PT_CMD.OP.of v ≤ 4) : ptCmd v s =
    if ptResult s (F.COH_PT_CMD.OP.of v) (F.COH_PT_CMD.EXT.of v) ≠ 0 then
      ptAnswered (ptResult s (F.COH_PT_CMD.OP.of v) (F.COH_PT_CMD.EXT.of v)) s
    else ptPerformed (F.COH_PT_CMD.OP.of v) (F.COH_PT_CMD.EXT.of v) (ptAnswered 0 s) := by
  have hready : ¬(s.flag F.COH_PT_STAT.BUSY 0 = true ∨ F.COH_PT_CMD.OP.of v = 0 ∨ 4 < F.COH_PT_CMD.OP.of v) := by
    rw [hbusy]
    simp only [Bool.false_eq_true, false_or]
    omega
  unfold ptCmd
  dsimp only
  rw [if_neg hready]
  by_cases hres : ptResult s (F.COH_PT_CMD.OP.of v) (F.COH_PT_CMD.EXT.of v) = 0
  · rw [if_neg (not_not.mpr hres), if_neg (not_not.mpr hres), hres]
    rfl
  · rw [if_pos hres, if_pos hres]
    rfl

theorem ptCmd_busy {v : Word} {s : State} (hbusy : s.flag F.COH_PT_STAT.BUSY 0 = true) : ptCmd v s = s := if_pos (.inl hbusy)

section
variable (res : Nat) (s : State)

theorem keeps_ptAnswered : Keeps (regMask [.COH_PT_STAT]) 0 s (ptAnswered res s) :=
  .trans ((keeps_wr ..).mono rfl rfl) ((keeps_on ..).mono rfl rfl)

theorem result_ptAnswered (h : res < 16) : (ptAnswered res s).rd F.COH_PT_STAT.RESULT 0 = res := by
  rw [ptAnswered, State.on, rd_wr_apart (by decide), rd_wr_same _ _ _ _ (by decide)]
  exact Nat.mod_eq_of_lt h

theorem done_ptAnswered : (ptAnswered res s).flag F.COH_PT_STAT.DONE 0 = true := flag_on_same _ _ _ (by decide) (by decide)

theorem coh_ptAnswered : (ptAnswered res s).coh = s.coh := rfl

theorem ptEntry_ptAnswered (k : Nat) : (ptAnswered res s).ptEntry k = s.ptEntry k := rfl

theorem ptData_ptAnswered : ptData (ptAnswered res s) = ptData s := by
  have h := keeps_ptAnswered res s
  unfold ptData
  rw [h.rd _ _ rfl, h.rd _ _ rfl, h.rd _ _ rfl, h.flag _ _ rfl, h.rd _ _ rfl]

end

/-! #### READ -/

theorem ptRead_shows (k : Nat) (s : State) :
    (ptRead k s).rd F.COH_PT_DATA0.ACC 0 = (s.ptEntry k).acc % 2 ^ 16 ∧ (ptRead k s).rd F.COH_PT_DATA0.WR 0 = (s.ptEntry k).wr % 2 ^ 16 ∧
    (ptRead k s).rd F.COH_PT_DATA1.MODE 0 = (s.ptEntry k).mode % 8 ∧ (ptRead k s).rd F.COH_PT_DATA1.STATE 0 = (s.ptEntry k).st % 4 ∧
    (ptRead k s).flag F.COH_PT_DATA1.CLEAN 0 = (s.ptEntry k).clean ∧ (ptRead k s).rd F.COH_PT_DATA2.HPA 0 = (s.ptEntry k).hpa % 2 ^ 24 := by
  unfold ptRead
  dsimp only
  simp (disch := decide) only [rd_wr_same, rd_wr_other, flag_wr_other, flag_wr_b2n]
  exact ⟨rfl, rfl, rfl, rfl, trivial, rfl⟩

theorem keeps_ptRead_data (k : Nat) (s : State) : Keeps (regMask [.COH_PT_DATA0, .COH_PT_DATA1, .COH_PT_DATA2]) 0 s (ptRead k s) :=
  (keeps_ptRead k s).mono rfl rfl

/-! #### What an accepted command does to its entry (R263) -/

/-- A HOST extent and a clean one are in force at once; any other is cleared first. -/
theorem ptAssign_eq (k : Nat) (s : State) : ptAssign k s =
    if (ptData s).mode = 5 ∨ (s.ptEntry k).clean = true then ptChange k { ptData s with clean := (s.ptEntry k).clean } s
    else queueClear k (ptChange k { ptData s with st := 2 } s) := rfl

theorem tenancyStands_addWalk (k : Nat) (why : WalkWhy) (s : State) : TenancyStands s (addWalk k why s) :=
  .trans (.of_coh (c := { s.coh with walks := s.coh.walks ++ [⟨why,
    (List.range 4).filter (fun l => (chansOf s k).any (fun n => n / 3 == l)), [], [], []⟩] }) rfl) (tenancyStands_walks _)

/-- An entry narrowed to the masks of `d`; a SHARED_COH extent that a head loses waits for a walk. -/
def narrowedEntry (e d : PtEntry) : PtEntry :=
  let st := if e.mode = 2 ∧ (e.acc ≠ d.acc ∨ (e.wr ^^^ d.wr) &&& d.acc ≠ 0) then 1 else e.st
  { e with acc := d.acc, wr := d.wr, static := d.static, st := st }

theorem ptNarrow_effect (k : Nat) (s : State) :
    let e := s.ptEntry k
    let d := ptData s
    let t := ptNarrow k s
    t.rd F.COH_PT_STAT.RESULT 0 = s.rd F.COH_PT_STAT.RESULT 0 ∧ t.flag F.COH_PT_STAT.BUSY 0 = true ∧ t.coh.ptOld = some (k, e) ∧
      t.ptEntry k = narrowedEntry e d := by
  dsimp only
  have hwalk : ((s.ptEntry k).mode = 2 ∧ ((s.ptEntry k).acc ^^^ (ptData s).acc ≠ 0 ∨ ((s.ptEntry k).wr ^^^ (ptData s).wr) &&& (ptData s).acc ≠ 0)) ↔
      (s.ptEntry k).mode = 2 ∧ ((s.ptEntry k).acc ≠ (ptData s).acc ∨ ((s.ptEntry k).wr ^^^ (ptData s).wr) &&& (ptData s).acc ≠ 0) := by
    rw [Nat.xor_ne_zero_iff]
  unfold ptNarrow narrowedEntry
  dsimp only
  by_cases hlost : (s.ptEntry k).mode = 2 ∧
      ((s.ptEntry k).acc ≠ (ptData s).acc ∨ ((s.ptEntry k).wr ^^^ (ptData s).wr) &&& (ptData s).acc ≠ 0)
  · rw [if_pos (hwalk.mpr hlost), if_pos hlost]
    generalize hu : ptChange k _ s = u
    have hwalked := keeps_addWalk k (.narrow k ((s.ptEntry k).acc ^^^ (ptData s).acc) (((s.ptEntry k).wr ^^^ (ptData s).wr) &&& (ptData s).acc)) u
    have hstands := tenancyStands_addWalk k
      (.narrow k ((s.ptEntry k).acc ^^^ (ptData s).acc) (((s.ptEntry k).wr ^^^ (ptData s).wr) &&& (ptData s).acc)) u
    rw [hwalked.rd _ _ rfl, hwalked.flag _ _ rfl, hstands.ptOld, ptEntry_congr hstands.pt, ← hu, ptEntry_ptChange]
    exact ⟨result_ptChange .., busy_ptChange .., rfl, rfl⟩
  · rw [if_neg (mt hwalk.mp hlost), if_neg hlost, ptEntry_ptChange]
    exact ⟨result_ptChange .., busy_ptChange .., rfl, rfl⟩

theorem flag_of_reg_eq {s t : State} {f : Fld} {i : Nat} {b : Bool} (h : t.reg f.reg i = s.reg f.reg i) (hs : s.flag f i = b) :
    t.flag f i = b := by
  rw [← hs, State.flag, State.flag, rd_eq_of_reg_eq h]

/-- A released extent: its entry changes, and, but for HOST, it is queued to be cleared. -/
def released (k : Nat) (s : State) : State :=
  let t := ptChange k { s.ptEntry k with st := 1, rel := true } s
  if (s.ptEntry k).mode = 5 then t else queueClear k t

theorem ptRelease_eq (k : Nat) (s : State) : ptRelease k s =
    if (s.ptEntry k).mode = 2 then addWalk k (.release k) (released k s)
    else if (s.ptEntry k).mode = 5 then dcFlushReleased (Nat.log2 (s.ptEntry k).acc) (released k s)
    else released k s := rfl

theorem released_effect (k : Nat) (s : State) :
    (released k s).rd F.COH_PT_STAT.RESULT 0 = s.rd F.COH_PT_STAT.RESULT 0 ∧ (released k s).flag F.COH_PT_STAT.BUSY 0 = true ∧
    (released k s).ptEntry k = { s.ptEntry k with st := 1, rel := true } ∧
    (released k s).coh.clearQ = if (s.ptEntry k).mode = 5 then s.coh.clearQ else s.coh.clearQ ++ [k] := by
  unfold released
  dsimp only
  split
  · exact ⟨result_ptChange .., busy_ptChange .., ptEntry_ptChange .., rfl⟩
  · exact ⟨result_ptChange .., busy_ptChange .., ptEntry_ptChange .., rfl⟩

/-- What follows a release at the directories and in the caches leaves the command and the table alone. -/
theorem ptRelease_stands (k : Nat) (s : State) : TenancyStands (released k s) (ptRelease k s) ∧
    (ptRelease k s).reg .COH_PT_STAT 0 = (released k s).reg .COH_PT_STAT 0 := by
  rw [ptRelease_eq]
  split
  · exact ⟨tenancyStands_addWalk .., (keeps_addWalk ..).reg _ _ rfl⟩
  · split
    · exact ⟨tenancyStands_dcFlushReleased .., (keeps_dcFlushReleased ..).reg _ _ rfl⟩
    · exact ⟨.refl _, rfl⟩

/-! #### The commands complete (R262) -/

section
variable {s : State} {v : Word} {k : Nat} (hk : k = F.COH_PT_CMD.EXT.of v) (hbusy : s.flag F.COH_PT_STAT.BUSY 0 = false) (hrange : k ≤ 24575)
  (hgood : sget 0 s.coh.masterBad k = 0)
include hk hbusy hrange hgood

theorem ptRead_completes (hop : F.COH_PT_CMD.OP.of v = 1) :
    Completes (.ptRead v) s fun t =>
      t.rd F.COH_PT_STAT.RESULT 0 = 0 ∧ t.flag F.COH_PT_STAT.DONE 0 = true ∧ t.rd F.COH_PT_DATA0.ACC 0 = (s.ptEntry k).acc % 2 ^ 16 ∧
      t.rd F.COH_PT_DATA0.WR 0 = (s.ptEntry k).wr % 2 ^ 16 ∧ t.rd F.COH_PT_DATA1.MODE 0 = (s.ptEntry k).mode % 8 ∧
      t.rd F.COH_PT_DATA1.STATE 0 = (s.ptEntry k).st % 4 ∧ t.flag F.COH_PT_DATA1.CLEAN 0 = (s.ptEntry k).clean ∧
      t.rd F.COH_PT_DATA2.HPA 0 = (s.ptEntry k).hpa % 2 ^ 24 ∧ t.coh = s.coh := by
  have hres : ptResult s 1 k = 0 := by rw [ptResult, if_neg (by omega), if_neg (not_not.mpr hgood)]
  have hcmd : ptCmd v s = ptRead k (ptAnswered 0 s) := by
    rw [ptCmd_eq hbusy (by omega) (by omega), hop, ← hk, hres, if_neg (by decide)]
    rfl
  have hdata := keeps_ptRead_data k (ptAnswered 0 s)
  obtain ⟨hacc, hwr, hmode, hst, hclean, hhpa⟩ := ptRead_shows k (ptAnswered 0 s)
  refine Completes.of_guarded rfl (beq_iff_eq.mpr hop) ?_
  rw [hcmd]
  exact ⟨(hdata.rd _ _ rfl).trans (result_ptAnswered 0 s (by decide)), (hdata.flag _ _ rfl).trans (done_ptAnswered 0 s), hacc, hwr, hmode, hst,
    hclean, hhpa, hdata.part .coh rfl⟩

/-! #### ASSIGN (R262, R263) -/

theorem assign_completes (hop : F.COH_PT_CMD.OP.of v = 2) :
    Completes (.assign v) s fun t =>
      let e := s.ptEntry k
      let d := ptData s
      if e.mode ≠ 0 ∨ e.st ≠ 0 then t.rd F.COH_PT_STAT.RESULT 0 = 2 ∧ t.coh = s.coh
      else if ptDataGood d = false then t.rd F.COH_PT_STAT.RESULT 0 = 3 ∧ t.coh = s.coh
      else if ptHeadsGood s d = false then t.rd F.COH_PT_STAT.RESULT 0 = 5 ∧ t.coh = s.coh
      else t.rd F.COH_PT_STAT.RESULT 0 = 0 ∧ t.flag F.COH_PT_STAT.BUSY 0 = true ∧ t.coh.ptOld = some (k, e) ∧
        (t.ptEntry k).mode = d.mode ∧ (t.ptEntry k).acc = d.acc ∧ (t.ptEntry k).wr = d.wr ∧ (t.ptEntry k).static = d.static ∧
        (t.ptEntry k).st = (if d.mode = 5 ∨ e.clean = true then 0 else 2) ∧
        t.coh.clearQ = (if d.mode = 5 ∨ e.clean = true then s.coh.clearQ else s.coh.clearQ ++ [k]) := by
  have hres : ptResult s 2 k = if (s.ptEntry k).mode ≠ 0 ∨ (s.ptEntry k).st ≠ 0 then 2 else if ptDataGood (ptData s) = false then 3
      else if ptHeadsGood s (ptData s) = false then 5 else 0 := by
    rw [ptResult, if_neg (by omega), if_neg (not_not.mpr hgood)]
    simp only [Bool.not_eq_true']
  have hcmd : ptCmd v s = if ptResult s 2 k ≠ 0 then ptAnswered (ptResult s 2 k) s else ptAssign k (ptAnswered 0 s) := by
    rw [ptCmd_eq hbusy (by omega) (by omega), hop, ← hk]
    rfl
  refine Completes.of_guarded rfl (beq_iff_eq.mpr hop) ?_
  dsimp only
  rw [hcmd, hres]
  split
  · exact ⟨result_ptAnswered 2 s (by decide), rfl⟩
  · split
    · exact ⟨result_ptAnswered 3 s (by decide), rfl⟩
    · split
      · exact ⟨result_ptAnswered 5 s (by decide), rfl⟩
      · rw [if_neg (by decide), ptAssign_eq, ptData_ptAnswered, ptEntry_ptAnswered]
        split
        · rw [ptEntry_ptChange]
          exact ⟨(result_ptChange ..).trans (result_ptAnswered 0 s (by decide)), busy_ptChange .., rfl, rfl, rfl, rfl, rfl, rfl, rfl⟩
        · rw [ptEntry_congr (s := ptChange k _ _) (t := queueClear k _) rfl, ptEntry_ptChange]
          exact ⟨(result_ptChange ..).trans (result_ptAnswered 0 s (by decide)), busy_ptChange .., rfl, rfl, rfl, rfl, rfl, rfl, rfl⟩

/-! #### NARROW (R262, R263) -/

theorem narrow_completes (hop : F.COH_PT_CMD.OP.of v = 3) (hst : (s.ptEntry k).st = 0) (h1 : 1 ≤ (s.ptEntry k).mode)
    (h3 : (s.ptEntry k).mode ≤ 3) :
    Completes (.narrow v) s fun t =>
      let e := s.ptEntry k
      let d := ptData s
      if ptNarrows e d = false then t.rd F.COH_PT_STAT.RESULT 0 = 4 ∧ t.coh = s.coh
      else t.rd F.COH_PT_STAT.RESULT 0 = 0 ∧ t.flag F.COH_PT_STAT.BUSY 0 = true ∧ t.coh.ptOld = some (k, e) ∧
        (t.ptEntry k).mode = e.mode ∧ (t.ptEntry k).acc = d.acc ∧ (t.ptEntry k).wr = d.wr ∧ (t.ptEntry k).static = d.static ∧
        (t.ptEntry k).clean = e.clean ∧
        (t.ptEntry k).st = if e.mode = 2 ∧ (e.acc ≠ d.acc ∨ (e.wr ^^^ d.wr) &&& d.acc ≠ 0) then 1 else 0 := by
  have hmode : (s.ptEntry k).mode = 1 ∨ (s.ptEntry k).mode = 2 ∨ (s.ptEntry k).mode = 3 := by omega
  have hallowed : ¬(!((s.ptEntry k).mode == 1 || (s.ptEntry k).mode == 2 || (s.ptEntry k).mode == 3) || (s.ptEntry k).st != 0) = true := by
    rw [hst]
    rcases hmode with h | h | h
    · simp [h]
    · simp [h]
    · simp [h]
  have hres : ptResult s 3 k = if ptNarrows (s.ptEntry k) (ptData s) = false then 4 else 0 := by
    rw [ptResult, if_neg (by omega), if_neg (not_not.mpr hgood)]
    refine (if_neg hallowed).trans ?_
    simp only [Bool.not_eq_true']
  have hcmd : ptCmd v s = if ptResult s 3 k ≠ 0 then ptAnswered (ptResult s 3 k) s else ptNarrow k (ptAnswered 0 s) := by
    rw [ptCmd_eq hbusy (by omega) (by omega), hop, ← hk]
    rfl
  refine Completes.of_guarded rfl (beq_iff_eq.mpr hop) ?_
  dsimp only
  rw [hcmd, hres]
  split
  · exact ⟨result_ptAnswered 4 s (by decide), rfl⟩
  · obtain ⟨hresult, hbusy', hold, hentry⟩ := ptNarrow_effect k (ptAnswered 0 s)
    rw [ptData_ptAnswered, ptEntry_ptAnswered] at hentry
    rw [if_neg (by decide), hentry]
    refine ⟨hresult.trans (result_ptAnswered 0 s (by decide)), hbusy', hold, rfl, rfl, rfl, rfl, rfl, ?_⟩
    rw [narrowedEntry, hst]

/-! #### RELEASE (R262, R263) -/

theorem release_completes (hop : F.COH_PT_CMD.OP.of v = 4) :
    Completes (.release v) s fun t =>
      if (s.ptEntry k).mode = 0 ∨ (s.ptEntry k).st ≠ 0 then t.rd F.COH_PT_STAT.RESULT 0 = 2 ∧ t.coh = s.coh
      else t.rd F.COH_PT_STAT.RESULT 0 = 0 ∧ t.flag F.COH_PT_STAT.BUSY 0 = true ∧
        t.ptEntry k = { s.ptEntry k with st := 1, rel := true } ∧
        t.coh.clearQ = if (s.ptEntry k).mode = 5 then s.coh.clearQ else s.coh.clearQ ++ [k] := by
  have hres : ptResult s 4 k = if (s.ptEntry k).mode = 0 ∨ (s.ptEntry k).st ≠ 0 then 2 else 0 := by
    change (if 24575 < k then 1 else if sget 0 s.coh.masterBad k ≠ 0 then 6 else
      if (s.ptEntry k).mode = 0 ∨ (s.ptEntry k).st ≠ 0 then 2 else 0) = _
    rw [if_neg (by omega), if_neg (not_not.mpr hgood)]
  have hcmd : ptCmd v s = if ptResult s 4 k ≠ 0 then ptAnswered (ptResult s 4 k) s else ptRelease k (ptAnswered 0 s) := by
    rw [ptCmd_eq hbusy (by omega) (by omega), hop, ← hk]
    rfl
  refine Completes.of_guarded rfl (beq_iff_eq.mpr hop) ?_
  dsimp only
  rw [hcmd, hres]
  split
  · exact ⟨result_ptAnswered 2 s (by decide), rfl⟩
  · obtain ⟨hstands, hreg⟩ := ptRelease_stands k (ptAnswered 0 s)
    obtain ⟨hresult, hbusy', hentry, hqueue⟩ := released_effect k (ptAnswered 0 s)
    have hbusy_same : (ptRelease k (ptAnswered 0 s)).flag F.COH_PT_STAT.BUSY 0 = true :=
      flag_of_reg_eq hreg hbusy'
    rw [if_neg (by decide), rd_eq_of_reg_eq (f := F.COH_PT_STAT.RESULT) hreg, ptEntry_congr hstands.pt, hstands.clearQ]
    exact ⟨hresult.trans (result_ptAnswered 0 s (by decide)), hbusy_same, hentry, hqueue⟩

end

/-- A command while one is in progress is ignored, and one for no extent is refused. -/
theorem release_refused {s : State} {v : Word} {k : Nat} (hk : k = F.COH_PT_CMD.EXT.of v) (hop : F.COH_PT_CMD.OP.of v = 4) :
    Completes (.release v) s fun t =>
      if s.flag F.COH_PT_STAT.BUSY 0 = true then t = s
      else 24575 < k → t.rd F.COH_PT_STAT.RESULT 0 = 1 ∧ t.coh = s.coh := by
  refine Completes.of_guarded rfl (beq_iff_eq.mpr hop) ?_
  split
  · exact ptCmd_busy ‹_›
  · next hfree =>
    intro hrange
    have hres : ptResult s (F.COH_PT_CMD.OP.of v) (F.COH_PT_CMD.EXT.of v) = 1 := if_pos (hk ▸ hrange)
    rw [ptCmd_eq (Bool.eq_false_iff.mpr hfree) (by omega) (by omega), hres, if_pos (by decide)]
    exact ⟨result_ptAnswered 1 s (by decide), rfl⟩

/-! #### A command in force, drains (R263, R264) -/

theorem feEntry_of_none {s : State} (h : s.coh.ptOld = none) (k : Nat) : feEntry s k = s.ptEntry k := by rw [feEntry, h]

theorem ptInForce_completes {s : State} (hbusy : s.flag F.COH_PT_STAT.BUSY 0 = true) : Completes .ptInForce s fun t =>
    t.flag F.COH_PT_STAT.BUSY 0 = false ∧ ∀ k : Nat, feEntry t k = t.ptEntry k ∧ t.ptEntry k = s.ptEntry k :=
  Completes.of_guarded rfl hbusy ⟨flag_off_same _ _ _ (by decide), fun k => ⟨feEntry_of_none rfl k, rfl⟩⟩

theorem ptEntry_ptEvent (cause : Fld) (s : State) (k : Nat) : (ptEvent cause s).ptEntry k = s.ptEntry k :=
  ptEntry_congr (congrArg CohState.pt ((keeps_raiseCause cause F.COH_CTL.PTEVT_EN 0 701 s).part .coh rfl)) k

theorem drainComplete_completes {s : State} {k : Nat} {e : PtEntry} (he : e = s.ptEntry k) (hrel : e.rel = true) (hst : e.st = 1)
    (hold : s.coh.ptOld = none) (hdrained : extDrained s k = true) (hwalk : walkOf s k = false) (hcache : cacheDrained s e = true) :
    Completes (.drainComplete k) s fun t =>
      t.ptEntry k = (if e.mode = 5 then { PtEntry.free with clean := e.clean } else { e with st := 2 }) ∧
      (e.mode = 5 → t.flag F.COH_EVT.CLRDONE 0 = true) := by
  subst he
  have hready : ((s.ptEntry k).rel && (s.ptEntry k).st == 1 && s.coh.ptOld.isNone && extDrained s k && !walkOf s k &&
      cacheDrained s (s.ptEntry k)) = true := by
    rw [hrel, hst, hold, hdrained, hwalk, hcache]
    rfl
  refine Completes.of_guarded rfl hready ?_
  dsimp only
  split
  · rw [ptEntry_ptEvent, ptEntry_setPt_same]
    exact ⟨rfl, fun _ => flag_raiseCause_same _ _ _ _ (by decide) (by decide) (by decide)⟩
  · next hmode => exact ⟨ptEntry_setPt_same .., fun h => absurd h hmode⟩

/-! #### The clearing of an extent (R263–R265) -/

theorem chan_setChan_same (s : State) (n : Nat) (c : ChanRec) : (s.setChan n c).chan n = c := sget_sset_self ..

theorem chan_setChan_ne (s : State) {n m : Nat} (h : m ≠ n) (c : ChanRec) : (s.setChan n c).chan m = s.chan m := sget_sset_ne _ _ _ _ h

theorem mem_of_mem_serase {α : Type} {l : Sparse α} {k : Nat} {x : Nat × α} (h : x ∈ serase l k) : x ∈ l := (serase_keys l k x h).2

theorem mem_sset {α : Type} [DecidableEq α] {d v : α} {l : Sparse α} {k : Nat} {x : Nat × α} (h : x ∈ sset d l k v) : x = (k, v) ∨ x ∈ l := by
  unfold sset at h
  split at h
  · exact .inr (mem_of_mem_serase h)
  · exact ((mem_sinsert _ _ _ _).mp h).imp id mem_of_mem_serase

/-- A line that is stored holds the zero codewords, or is unlisted. -/
abbrev ZeroLine (x : Option DramLine) : Prop := x = some ⟨0, 0⟩ ∨ x = none

/-- Channel record `c` holds extent k as cleared; `inExt` says which lines lie in it. -/
def HoldsCleared (k : Nat) (inExt : Nat → Bool) (c : ChanRec) : Prop := k ∈ c.zeroed ∧ ∀ x ∈ c.lines, inExt x.1 = true → ZeroLine x.2

/-- Zero codewords stored in a line leave an extent cleared. -/
theorem holdsCleared_storeLine {k n : Nat} {inExt : Nat → Bool} {s : State} (h : HoldsCleared k inExt (s.chan n)) (phys : Nat) :
    HoldsCleared k inExt ((storeLine n phys ⟨0, 0⟩ s).chan n) := by
  obtain ⟨hzeroed, hlines⟩ := h
  unfold storeLine
  dsimp only
  rw [chan_setChan_same]
  refine ⟨hzeroed, fun x hx hin => ?_⟩
  rcases mem_sset hx with rfl | hx
  · dsimp only
    split
    · exact .inr rfl
    · exact .inl rfl
  · exact hlines x hx hin

/-- A channel's record without what an extent held, before the lines that have moved elsewhere are written. -/
def wiped (k : Nat) (s : State) (n : Nat) : State :=
  s.setChan n { s.chan n with
    lines := (s.chan n).lines.filter (fun e => !(extOfLine s n e.1 == some k))
    wq := (s.chan n).wq.filter (fun e => !(extOfLine s n e.line == some k))
    zeroed := k :: (s.chan n).zeroed.filter (· != k) }

/-- The lines of an extent that lie elsewhere in the channel (R302, R303). -/
def movedLines (k : Nat) (s : State) (n : Nat) : List Nat :=
  ((s.chan n).lineMap.map (·.line) ++ ((s.chan n).rowMap.map (fun r => (List.range 128).map (rowLine s n r.first))).flatten).filter
    (fun l => extOfLine s n l == some k)

theorem clearOn_eq (k : Nat) (s : State) (n : Nat) : clearOn k s n =
    (movedLines k s n).foldl (fun t l => storeLine n (physLine t n l) ⟨0, 0⟩ t) (wiped k s n) := rfl

theorem holdsCleared_clearOn (k n : Nat) (s : State) : HoldsCleared k (fun l => extOfLine s n l == some k) ((clearOn k s n).chan n) := by
  have hwiped : HoldsCleared k (fun l => extOfLine s n l == some k) ((wiped k s n).chan n) := by
    rw [wiped, chan_setChan_same]
    refine ⟨List.mem_cons_self, fun x hx hin => ?_⟩
    have hout := (List.mem_filter.mp hx).2
    dsimp only at hin hout
    rw [hin] at hout
    cases hout
  rw [clearOn_eq]
  generalize movedLines k s n = l
  generalize wiped k s n = u at hwiped
  induction l generalizing u with
  | nil => exact hwiped
  | cons a l ih => exact ih _ (holdsCleared_storeLine hwiped _)

theorem chan_clearOn_other {k n m : Nat} (h : m ≠ n) (s : State) : (clearOn k s n).chan m = s.chan m := by
  exact (foldl_unchanged (fun t : State => t.chan m) (fun t l _ => chan_setChan_ne t h _) _).trans (chan_setChan_ne s h _)

theorem members_clearOn (k n : Nat) (s : State) : (clearOn k s n).ddr.members = s.ddr.members := by
  rw [clearOn_eq]
  exact foldl_unchanged (fun t : State => t.ddr.members) (fun _ _ _ => by rfl) (wiped k s n)

theorem regs_clearOn (k n : Nat) (s : State) : (clearOn k s n).regs = s.regs := by
  rw [clearOn_eq]
  exact foldl_unchanged (fun t : State => t.regs) (fun _ _ _ => by rfl) (wiped k s n)

/-- Where a channel's lines lie follows from the registers and the members of the interleave sets. -/
theorem extOfLine_congr {s t : State} (hregs : t.regs = s.regs) (hmem : t.ddr.members = s.ddr.members) (n line : Nat) :
    extOfLine t n line = extOfLine s n line := by
  change extOfLine { s with regs := t.regs, ddr := { s.ddr with members := t.ddr.members } } n line = extOfLine s n line
  rw [hregs, hmem]

/-- The channels of a list cleared one after another each hold the extent as cleared. -/
theorem holdsCleared_foldl {k n : Nat} {l : List Nat} (hl : l.Nodup) (hn : n ∈ l) (s : State) :
    HoldsCleared k (fun a => extOfLine s n a == some k) ((l.foldl (clearOn k) s).chan n) := by
  induction l generalizing s with
  | nil => cases hn
  | cons m l ih =>
    obtain ⟨hm, hl⟩ := List.nodup_cons.mp hl
    rw [List.foldl_cons]
    by_cases hnm : n = m
    · subst hnm
      rw [foldl_unchanged (fun t : State => t.chan n) fun t b hb => chan_clearOn_other (fun h => hm (by rwa [← h] at hb)) t]
      exact holdsCleared_clearOn k n s
    · have hsame := ih hl (List.mem_of_ne_of_mem hnm hn) (clearOn k s m)
      simp only [extOfLine_congr (regs_clearOn k m s) (members_clearOn k m s)] at hsame
      exact hsame

/-- The state of the channels and the queue once extent k has been written with zeros. -/
def extentCleared (k : Nat) (s : State) : State :=
  let t := (chansOf s k).foldl (clearOn k) s
  { t with coh := { t.coh with clearQ := t.coh.clearQ.filter (· != k) } }

theorem holdsCleared_extentCleared {k n : Nat} {s : State} (hn : n ∈ chansOf s k) :
    HoldsCleared k (fun a => extOfLine s n a == some k) ((extentCleared k s).chan n) :=
  holdsCleared_foldl (List.nodup_range.filter _) hn s

/-- The entry of an extent whose clearing has ended, with the event that says so. -/
def clearingEvent (e : PtEntry) : Fld := if e.rel = true then F.COH_EVT.CLRDONE else F.COH_EVT.PTDONE

def clearedEntry (e : PtEntry) : PtEntry := if e.rel = true then { PtEntry.free with clean := true } else { e with st := 0, clean := true }

theorem flag_ptEvent_clearing (e : PtEntry) (s : State) : (ptEvent (clearingEvent e) s).flag (clearingEvent e) 0 = true := by
  unfold clearingEvent
  split
  · exact flag_raiseCause_same _ _ _ _ (by decide) (by decide) (by decide)
  · exact flag_raiseCause_same _ _ _ _ (by decide) (by decide) (by decide)

theorem extentClearingComplete_completes {s : State} {k : Nat} {e : PtEntry} (he : e = s.ptEntry k) (hst : e.st = 2) (hold : s.coh.ptOld = none)
    (hturn : clearTurn s k = true) :
    Completes (.extentClearingComplete k) s fun t =>
      t.ptEntry k = (if e.rel = true then { PtEntry.free with clean := true } else { e with st := 0, clean := true }) ∧
      t.flag (if e.rel = true then F.COH_EVT.CLRDONE else F.COH_EVT.PTDONE) 0 = true ∧ k ∉ t.coh.clearQ ∧
      ∀ n ∈ chansOf s k, k ∈ (t.chan n).zeroed ∧ ∀ x ∈ (t.chan n).lines, extOfLine s n x.1 = some k → x.2 = some ⟨0, 0⟩ ∨ x.2 = none := by
  subst he
  have hready : ((s.ptEntry k).st == 2 && s.coh.ptOld.isNone && clearTurn s k) = true := by
    rw [hst, hold, hturn]
    rfl
  have hends : execExtentClearingComplete k s =
      done (ptEvent (clearingEvent (s.ptEntry k)) ((extentCleared k s).setPt k (clearedEntry (s.ptEntry k)))) := by
    unfold execExtentClearingComplete clearingEvent clearedEntry
    dsimp only
    rw [guarded_true hready]
    split
    · rfl
    · rfl
  have hkept := keeps_raiseCause (clearingEvent (s.ptEntry k)) F.COH_CTL.PTEVT_EN 0 701
    ((extentCleared k s).setPt k (clearedEntry (s.ptEntry k)))
  refine Completes.of_eq hends ⟨?_, flag_ptEvent_clearing _ _, ?_, fun n hn => ?_⟩
  · exact (ptEntry_ptEvent ..).trans (ptEntry_setPt_same ..)
  · have hcoh := hkept.part .coh rfl
    rw [ptEvent, congrArg CohState.clearQ hcoh]
    exact fun h => by simpa using (List.mem_filter.mp h).2
  · have hddr := hkept.part .ddr rfl
    obtain ⟨hzeroed, hlines⟩ := holdsCleared_extentCleared hn
    have hchan : (ptEvent (clearingEvent (s.ptEntry k)) ((extentCleared k s).setPt k (clearedEntry (s.ptEntry k)))).chan n =
        (extentCleared k s).chan n := congrArg (fun d : DdrState => sget ChanRec.init d.chan n) hddr
    rw [hchan]
    exact ⟨hzeroed, fun x hx hin => hlines x hx (beq_iff_eq.mpr hin)⟩

/-! #### Copies of an entry (R261) -/

theorem entryBad_of_replica {s : State} {n k : Nat} (h : sget 0 s.coh.replicaBad (n * 32768 + k) ≠ 0) : entryBad s n k = true := by
  rw [entryBad, bne_iff_ne.mpr h, Bool.or_true]

theorem backgroundCheck_master {s : State} {k : Nat} (hk : k < 24576) : Completes (.backgroundCheck none k true) s fun t =>
    sget 0 t.coh.masterBad k = 1 ∧ t.flag F.COH_EVT.PTERR 0 = true := by
  refine Completes.of_guarded rfl (by simpa using hk) ⟨?_, flag_raiseCause_same _ _ _ _ (by decide) (by decide) (by decide)⟩
  have hcoh := (keeps_raiseCause F.COH_EVT.PTERR F.COH_CTL.PTEVT_EN 0 700
    { s with coh := { s.coh with masterBad := sset 0 s.coh.masterBad k 1 } }).part .coh rfl
  exact (congrArg (fun c : CohState => sget 0 c.masterBad k) hcoh).trans (sget_sset_self 0 s.coh.masterBad k 1)

theorem backgroundCheck_replica {s : State} {k : Nat} (hk : k < 24576) (n : Fin 12) : Completes (.backgroundCheck (some n) k true) s fun t =>
    entryBad t n k = true ∧ t.regs = s.regs := by
  refine Completes.of_guarded rfl (by simpa using hk) ⟨entryBad_of_replica ?_, rfl⟩
  exact (sget_sset_self 0 s.coh.replicaBad (n.val * 32768 + k) 1).trans_ne (by decide)

theorem replicaReload_completes {s : State} {n : Fin 12} {k : Nat} (hk : sget 0 s.coh.masterBad k = 0) :
    Completes (.replicaReload n k) s fun t => entryBad t n k = false ∧ t.coh.pt = s.coh.pt ∧ t.regs = s.regs := by
  refine Completes.of_guarded rfl (beq_iff_eq.mpr hk) ⟨?_, rfl, rfl⟩
  dsimp only [entryBad]
  rw [sget_sset_self, hk]
  rfl

/-- Settles O26, command by command: the RESULT of a command from its checks, then what READ, ASSIGN, NARROW and RELEASE do to the entry; the
clearing of an extent channel by channel. -/
theorem partitionCommandsChangeTheTable : Obligations.PartitionCommandsChangeTheTable := by
  unfold Obligations.PartitionCommandsChangeTheTable
  refine ⟨?_, ?_, ?_, ?_, ?_, ?_, ?_, ?_, ?_, ?_⟩
  · exact fun s v k hk hop hbusy hrange hgood => ptRead_completes hk hbusy hrange hgood hop
  · exact fun s v k hk hop hbusy hrange hgood => assign_completes hk hbusy hrange hgood hop
  · exact fun s v k hk hop hbusy hrange hgood hst h1 h3 => narrow_completes hk hbusy hrange hgood hop hst h1 h3
  · exact fun s v k hk hop hbusy hrange hgood => release_completes hk hbusy hrange hgood hop
  · exact fun s v k hk hop => release_refused hk hop
  · exact fun s hbusy => ptInForce_completes hbusy
  · exact fun s k e he hrel hst hold hdrained hwalk hcache => drainComplete_completes he hrel hst hold hdrained hwalk hcache
  · exact fun s k e he hst hold hturn => extentClearingComplete_completes he hst hold hturn
  · exact fun s k hk => ⟨backgroundCheck_master hk, backgroundCheck_replica hk⟩
  · exact fun s n k hk => replicaReload_completes hk

end Sys2Proof.Machine

/-! ### Snoops, walks and violations (R263, R270–R275, R282–R284) -/

namespace Sys2Proof.Machine
open Sys2Proof

/-! #### A snoop reaches its host (R270, R275) -/

theorem markDelivered_keeps (n line : Nat) (inv : Bool) (s : State) :
    (markDelivered n line inv s).out = s.out ∧ (markDelivered n line inv s).regs = s.regs := by
  unfold markDelivered
  split
  · split
    · exact ⟨rfl, rfl⟩
    · exact ⟨rfl, rfl⟩
  · exact ⟨rfl, rfl⟩

theorem snoopArrives_of_down {s : State} {n line : Nat} {inv : Bool} (h : headUp s n = false) : snoopArrives n line inv s = s := by
  unfold snoopArrives
  dsimp only
  rw [h]
  exact if_pos rfl

/-- A snoop that has not been delivered goes to its host once it has come through the network. -/
theorem snoopArrives_effect {s : State} {n line : Nat} {p : PendLine} {q : Snoop} (hfor : snoopFor s n line = some (p, q))
    (hnew : q.delivered = false) (hup : headUp s n = true) (hreach : (reach (.snoop n line q.inv) s).isSome = true) :
    (snoopArrives n line q.inv s).out = s.out ++ [.biSnoop n q.inv line (s.toHost n)] ∧ (snoopArrives n line q.inv s).regs = s.regs := by
  obtain ⟨t, ht⟩ := Option.isSome_iff_exists.mp hreach
  obtain ⟨l, hl⟩ := (movesOnly_reach _ s t ht).trans (movesOnly_landed (.snoop n line q.inv) t)
  have hwaits : ¬(!headUp s n || !((transitOf s (.snoop n line q.inv)).isSome ||
      (snoopFor s n line).any (fun e => e.2.inv == q.inv && !e.2.delivered))) = true := by
    rw [hfor, hup]
    simp [hnew]
  have harrives : snoopArrives n line q.inv s =
      markDelivered n line q.inv { s.setWay l with out := s.out ++ [.biSnoop n q.inv line (s.toHost n)] } := by
    unfold snoopArrives
    dsimp only
    rw [if_neg hwaits, ht]
    dsimp only
    rw [hl]
    rfl
  rw [harrives]
  exact markDelivered_keeps ..

/-! #### The answers of heads (R271) -/

theorem snoopReturns_movesOnly {s u : State} {n line : Nat} {inv : Bool} {data : Option Line} (h : snoopReturns n line inv data s = some u) :
    MovesOnly s u := by
  unfold snoopReturns at h
  obtain ⟨t, ht, rfl⟩ := Option.map_eq_some_iff.mp h
  exact (movesOnly_dispatch ..).trans ((movesOnly_reach _ _ _ ht).trans (movesOnly_landed ..))

theorem snoopResponse_eq {s u : State} {n line : Nat} {p : PendLine} {q : Snoop} {shared : Bool} {data : Option Line}
    (hfor : snoopFor s n line = some (p, q)) (hdelivered : q.delivered = true) (hreturns : snoopReturns n line q.inv data s = some u) :
    snoopResponse n line shared data s = walks (snoopEnd p n (shared && !q.inv) data u) := by
  unfold snoopResponse
  simp only [hfor, hdelivered, hreturns, Bool.not_true, Bool.false_eq_true, if_false]

/-- The first snoop of the only pending line. -/
theorem snoopFor_head {s : State} {n : Nat} {p : PendLine} {q : Snoop} {l : List Snoop} (hpend : s.coh.pend = [p]) (hsnoops : p.snoops = q :: l)
    (hq : q.head = n) : snoopFor s n p.line = some (p, q) := by
  unfold snoopFor
  rw [hpend, List.findSome?_cons, if_pos rfl, hsnoops, List.find?_cons_of_pos (p := fun q : Snoop => q.head == n) (beq_iff_eq.mpr hq)]
  rfl

/-- The state without a pending line. -/
def unpend (p : PendLine) (s : State) : State :=
  { s with coh := { s.coh with pend := s.coh.pend.filter (fun q => !(q.leaf == p.leaf && q.line == p.line)) } }

theorem pend_unpend {p : PendLine} {s : State} (h : s.coh.pend = [p]) : (unpend p s).coh.pend = [] := by
  simp only [unpend, h, beq_self_eq_true, Bool.and_self, Bool.not_true, Bool.false_eq_true, not_false_eq_true, List.filter_cons_of_neg,
    List.filter_nil]

theorem retryStalled_of_none {s : State} (h : s.coh.stalled = []) : retryStalled s = s := by
  unfold retryStalled
  rw [h, List.foldl_nil, ← h]

/-- A victim that nothing waits for is gone once its last snoop is answered. -/
theorem finishPend_of_victim {p : PendLine} {s : State} (hvictim : p.victim = true) (hreq : p.req = none) (hwait : p.waiting = [])
    (hstalled : s.coh.stalled = []) : finishPend p s = dirRegs p.leaf (unpend p s) := by
  unfold finishPend
  rw [hvictim, hreq, hwait]
  exact congrArg (dirRegs p.leaf) (retryStalled_of_none (s := unpend p s) hstalled)

/-- The last answer to a victim's snoops: what it brought is written, then the line is gone. -/
theorem snoopEnd_last {p : PendLine} {q : Snoop} {n : Nat} {keeps : Bool} {data : Option Line} {s t : State}
    (ht : t = match data with | some d => dirtyWrite p.line d s | none => s)
    (hsnoops : p.snoops = [q]) (hq : q.head = n) (hvictim : p.victim = true) (hreq : p.req = none) (hwait : p.waiting = [])
    (hkept : p.discard = false) (hstalled : t.coh.stalled = []) : snoopEnd p n keeps data s = dirRegs p.leaf (unpend p t) := by
  have hnone : p.snoops.filter (fun q => q.head != n) = [] := by rw [hsnoops, List.filter_cons_of_neg (by simp [hq]), List.filter_nil]
  have hends : snoopEnd p n keeps data s = finishPend
      { p with snoops := [], after := if keeps then p.after else dropSharer n p.after } t := by
    unfold snoopEnd
    rw [hnone, hkept, ht]
    cases data with
    | none => rfl
    | some d => rfl
  rw [hends]
  exact finishPend_of_victim hvictim hreq hwait hstalled

theorem walks_of_dirRegs {leaf : Nat} {s : State} (h : s.coh.walks = []) : walks (dirRegs leaf s) = dirRegs leaf s := walks_of_none h

section
variable {s u : State} {n : Nat} {p : PendLine} {q : Snoop} (hpend : s.coh.pend = [p]) (hsnoops : p.snoops = [q]) (hq : q.head = n)
  (hdelivered : q.delivered = true) (hvictim : p.victim = true) (hreq : p.req = none) (hwait : p.waiting = []) (hkept : p.discard = false)
  (hstalled : s.coh.stalled = []) (hwalks : s.coh.walks = [])
include hpend hsnoops hq hdelivered hvictim hreq hwait hkept hstalled hwalks

/-- An answer without data ends a victim. -/
theorem snoopResponse_clean (shared : Bool) (hreturns : snoopReturns n p.line q.inv none s = some u) :
    (snoopResponse n p.line shared none s).coh.pend = [] ∧ (snoopResponse n p.line shared none s).coh.dir = s.coh.dir ∧
    (snoopResponse n p.line shared none s).ddr = s.ddr := by
  obtain ⟨l, rfl⟩ := snoopReturns_movesOnly hreturns
  rw [snoopResponse_eq (snoopFor_head hpend hsnoops hq) hdelivered hreturns,
    snoopEnd_last (t := s.setWay l) rfl hsnoops hq hvictim hreq hwait hkept hstalled,
    walks_of_dirRegs (s := unpend p (s.setWay l)) hwalks]
  exact ⟨pend_unpend (s := s.setWay l) hpend, rfl, rfl⟩

/-- Dirty data of an answer is written to DRAM first, and its extent is no longer clean. -/
theorem snoopResponse_dirty (shared : Bool) {d : Line} (hreturns : snoopReturns n p.line q.inv (some d) s = some u) :
    (snoopResponse n p.line shared (some d) s).coh.pend = [] ∧
    (snoopResponse n p.line shared (some d) s).ddr = (queueLine (lineChan s p.line) (chanLine s p.line) d u).ddr ∧
    ((snoopResponse n p.line shared (some d) s).ptEntry (64 * p.line / 2 ^ 28)).clean = false := by
  obtain ⟨l, rfl⟩ := snoopReturns_movesOnly hreturns
  have hqueue := keeps_queueLine (lineChan (s.setWay l) p.line) (chanLine (s.setWay l) p.line) d (s.setWay l)
  have hcoh : (queueLine (lineChan (s.setWay l) p.line) (chanLine (s.setWay l) p.line) d (s.setWay l)).coh = s.coh := hqueue.part .coh rfl
  have hpend' : (dirtyWrite p.line d (s.setWay l)).coh.pend = [p] := (congrArg CohState.pend hcoh).trans hpend
  have hstalled' : (dirtyWrite p.line d (s.setWay l)).coh.stalled = [] := (congrArg CohState.stalled hcoh).trans hstalled
  have hwalks' : (unpend p (dirtyWrite p.line d (s.setWay l))).coh.walks = [] := (congrArg CohState.walks hcoh).trans hwalks
  rw [snoopResponse_eq (snoopFor_head hpend hsnoops hq) hdelivered hreturns,
    snoopEnd_last (t := dirtyWrite p.line d (s.setWay l)) rfl hsnoops hq hvictim hreq hwait hkept hstalled', walks_of_dirRegs hwalks']
  refine ⟨pend_unpend hpend', rfl, ?_⟩
  exact congrArg PtEntry.clean (sget_sset_self PtEntry.free _ (64 * p.line / 2 ^ 28) _)

end

/-- An answer that leaves snoops outstanding takes its head out of the entry. -/
theorem snoopResponse_more {s : State} {n : Nat} {p : PendLine} {q q2 : Snoop} {l : List Snoop} (hpend : s.coh.pend = [p])
    (hsnoops : p.snoops = q :: q2 :: l) (hq : q.head = n) (hdelivered : q.delivered = true) (hothers : ∀ x ∈ q2 :: l, x.head ≠ n)
    (hwalks : s.coh.walks = []) (hreturns : (snoopReturns n p.line q.inv none s).isSome = true) :
    (snoopResponse n p.line false none s).coh.pend = [{ p with snoops := q2 :: l, after := dropSharer n p.after }] ∧
    (snoopResponse n p.line false none s).regs = s.regs ∧ (snoopResponse n p.line false none s).ddr = s.ddr := by
  obtain ⟨u, hu⟩ := Option.isSome_iff_exists.mp hreturns
  obtain ⟨w, rfl⟩ := snoopReturns_movesOnly hu
  have hleft : p.snoops.filter (fun q => q.head != n) = q2 :: l := by
    rw [hsnoops, List.filter_cons_of_neg (by simp [hq]), List.filter_eq_self.mpr fun x hx => bne_iff_ne.mpr (hothers x hx)]
  have hends : snoopEnd p n false none (s.setWay w) =
      setPend { p with snoops := q2 :: l, after := dropSharer n p.after } (s.setWay w) := by
    unfold snoopEnd
    rw [hleft]
    rfl
  rw [snoopResponse_eq (snoopFor_head hpend hsnoops hq) hdelivered hu, Bool.false_and, hends,
    walks_of_none (s := setPend { p with snoops := q2 :: l, after := dropSharer n p.after } (s.setWay w)) hwalks]
  refine ⟨?_, rfl, rfl⟩
  change s.coh.pend.map _ = _
  rw [hpend, List.map_singleton, if_pos ⟨rfl, rfl⟩]

/-- A snoop that times out leaves its head fenced. -/
theorem snoopTimeout_fences {s : State} {n : Fin 16} {line : Nat} {p : PendLine} {q : Snoop} (hfor : snoopFor s n line = some (p, q))
    (hlate : s.expired q.sentAt q.window = true) : Completes (.snoopTimeout n line) s fun t => t.flag F.COH_HEAD.FENCED n = true := by
  have htimeout : exec (.snoopTimeout n line) s = done (walks (snoopFail p n s)) := by
    change done (match snoopFor s n line with | none => s | some (p, q) => _) = _
    rw [hfor]
    dsimp only
    rw [guarded_true hlate]
  exact Completes.of_eq htimeout ((tenancyStands_walks _).fenced n (flag_fence n _))

/-! #### A walk ends (R275) -/

theorem dirDamaged_nil (leaf : Nat) (s : State) : dirDamaged leaf [] s = s := rfl

/-- A ticket of the arbiter stands while its entries do. -/
theorem mntTicket_congr {s t : State} (h : ∀ k, t.reg .PWR_MNT_ENT k = s.reg .PWR_MNT_ENT k) (act res : Nat) :
    mntTicket t act res = mntTicket s act res := by
  have hent (k : Nat) : mntEnt t k = mntEnt s k := by
    unfold mntEnt
    rw [rd_eq_of_reg_eq (f := F.PWR_MNT_ENT.STATE) (h k), rd_eq_of_reg_eq (f := F.PWR_MNT_ENT.ACT) (h k),
      rd_eq_of_reg_eq (f := F.PWR_MNT_ENT.RES) (h k)]
  simp only [mntTicket, hent]

/-- The end of a walk that a head reset had asked for takes the head's fence away. -/
theorem walkEnds_head {s : State} {n : Nat} (hreset : nbit s.coh.fenceReset.toNat n = true) :
    walkEnds (.head n) s = (s.off F.COH_HEAD.WALK n).off F.COH_HEAD.FENCED n := if_pos hreset

theorem walkComplete_of_head {s : State} {leaf : Fin 4} {w : WalkRec} {n : Nat} (hwalks : s.coh.walks = [w])
    (hw : w = ⟨.head n, [], [], [leaf.val], []⟩) (hreset : s.coh.fenceReset.getLsbD n = true) (hticket : mntTicket s 8 leaf = none) :
    Completes (.walkComplete leaf []) s fun t =>
      t.coh.walks = [] ∧ t.flag F.COH_HEAD.WALK n = false ∧ t.flag F.COH_HEAD.FENCED n = false ∧ t.coh.dir = s.coh.dir := by
  subst hw
  have hticket' : mntTicket (({ s with coh := { s.coh with walks := [] } }.off F.COH_HEAD.WALK n).off F.COH_HEAD.FENCED n) 8 leaf = none := by
    rw [← hticket]
    refine mntTicket_congr (fun k => ?_) 8 leaf
    rw [State.off, State.off, reg_wr_ne _ _ _ _ (by simp [F.COH_HEAD.FENCED]), reg_wr_ne _ _ _ _ (by simp [F.COH_HEAD.WALK])]
    rfl
  have hends : exec (.walkComplete leaf []) s =
      done (({ s with coh := { s.coh with walks := [] } }.off F.COH_HEAD.WALK n).off F.COH_HEAD.FENCED n) := by
    change done (match s.coh.walks.find? (fun w => w.running.contains leaf.val) with | none => s | some w => _) = _
    rw [hwalks, List.find?_cons_of_pos (by simp)]
    change done (walkLeafEnds leaf _ s) = _
    unfold walkLeafEnds
    simp only [List.erase_cons_head, List.isEmpty_nil, Bool.and_self, if_true, hwalks, walkEnds_head (s := { s with coh := { s.coh with walks := [] } }) hreset, hticket']
  refine Completes.of_eq hends ⟨rfl, ?_, flag_off_same _ _ _ (by decide), rfl⟩
  rw [flag_off_other _ _ _ _ _ (Fld.apart_of_places (by decide) _ _)]
  exact flag_off_same _ _ _ (by decide)

/-! #### Violations (R282, R283) -/

theorem rd_wr_index (s : State) (f g : Fld) {i j : Nat} (h : i ≠ j) (v : Nat) : (s.wr f i v).rd g j = s.rd g j :=
  rd_wr_other _ _ _ _ _ _ (.inr (.inl h))

/-- The words of a record, from word m of the ring. -/
def vlogRecord (m : Nat) (v : VioReport) (s : State) : State :=
  let s1 := ((s.wr F.COH_VLOG_W0.REASON m v.reason).wr F.COH_VLOG_W0.RQC m v.tag.cls).wr F.COH_VLOG_W0.RQID m v.tag.id
  let s2 := (s1.wr F.COH_VLOG_W0.SRC m v.src).wr F.COH_VLOG_W0.WRITE m (b2n v.write)
  let s3 := ((s2.wr F.COH_VLOG_W1.DA_LO (m + 1) v.da).wr F.COH_VLOG_W2.DA_HI (m + 2) (v.da / 2 ^ 32)).wr F.COH_VLOG_W2.EXT (m + 2) v.ext
  ((s3.wr F.COH_VLOG_W3.VICTIMS (m + 3) v.victims).wr F.COH_VLOG_W4.DTC_LO (m + 4) v.stamp).wr F.COH_VLOG_W5.DTC_HI (m + 5) (v.stamp / 2 ^ 32)

theorem vlogAppend_of_room {v : VioReport} {s : State} {c : Nat} (hc : c = s.rd F.COH_VLOG_CTL.COUNT 0) (hroom : c ≠ 32) :
    vlogAppend v s = (vlogRecord (6 * ((s.rd F.COH_VLOG_CTL.HEAD 0 + c) % 32)) v s).wr F.COH_VLOG_CTL.COUNT 0 (c + 1) := by
  subst hc
  exact if_neg hroom

theorem vlogAppend_of_full {v : VioReport} {s : State} (hfull : s.rd F.COH_VLOG_CTL.COUNT 0 = 32) :
    vlogAppend v s = s.satAdd F.COH_VLOG_LOST.VALUE 0 1 := if_pos hfull

section
variable (m : Nat) (v : VioReport) (s : State)

theorem reason_vlogRecord : (vlogRecord m v s).rd F.COH_VLOG_W0.REASON m = v.reason % 2 ^ F.COH_VLOG_W0.REASON.width := by
  unfold vlogRecord
  simp (disch := omega) only [rd_wr_index]
  simp (disch := decide) only [rd_wr_apart]
  exact rd_wr_same _ _ _ _ (by decide)

theorem da_vlogRecord : (vlogRecord m v s).rd F.COH_VLOG_W1.DA_LO (m + 1) = v.da % 2 ^ 32 := by
  unfold vlogRecord
  simp (disch := omega) only [rd_wr_index]
  exact rd_wr_same _ _ _ _ (by decide)

theorem victims_vlogRecord : (vlogRecord m v s).rd F.COH_VLOG_W3.VICTIMS (m + 3) = v.victims % 2 ^ 16 := by
  unfold vlogRecord
  simp (disch := omega) only [rd_wr_index]
  exact rd_wr_same _ _ _ _ (by decide)

theorem rd_vlogRecord_other {f : Fld} (h : f.reg ≠ .COH_VLOG_W) (i : Nat) : (vlogRecord m v s).rd f i = s.rd f i := by
  have hapart (g : Fld) (hg : g.reg = .COH_VLOG_W) (j x : Nat) (u : State) : (u.wr g j x).rd f i = u.rd f i :=
    rd_wr_other _ _ _ _ _ _ (.inl (by rw [hg]; exact h.symm))
  unfold vlogRecord
  simp (disch := decide) only [hapart]

end

theorem keeps_vioCount_von (src n : Nat) (s : State) : Keeps (regMask [.COH_VBY, .COH_VON, .EVC_CSTAT]) 0x21 s (vioCount F.COH_VON.COUNT src n s) :=
  (keeps_vioCount ..).mono rfl rfl

theorem keeps_vioCount_vby (src n : Nat) (s : State) : Keeps (regMask [.COH_VBY, .COH_VON, .EVC_CSTAT]) 0x21 s (vioCount F.COH_VBY.COUNT src n s) :=
  (keeps_vioCount ..).mono rfl rfl

/-- The counters of a report: one of the tenant that asked, one of each victim. -/
def vioCounted (v : VioReport) (s : State) : State :=
  (bitsOf v.victims 16).foldl (fun t n => vioCount F.COH_VON.COUNT 640 n t)
    (if v.tag.cls ≤ 2 ∧ v.tag.id < 16 then vioCount F.COH_VBY.COUNT 656 v.tag.id s else s)

theorem keeps_vioCounted (v : VioReport) (s : State) : Keeps (regMask [.COH_VBY, .COH_VON, .EVC_CSTAT]) 0x21 s (vioCounted v s) := by
  refine .trans (t := if v.tag.cls ≤ 2 ∧ v.tag.id < 16 then vioCount F.COH_VBY.COUNT 656 v.tag.id s else s) ?_
    (Keeps.foldl fun t n => keeps_vioCount_von 640 n t)
  split
  · exact keeps_vioCount_vby ..
  · exact .refl s

theorem rd_vioCount (f : Fld) (src n : Nat) (s : State) {g : Fld} (hg : g.reg ≠ .EVC_CSTAT) (i : Nat) :
    (vioCount f src n s).rd g i = (s.satAdd f n 1).rd g i := by
  unfold vioCount
  dsimp only
  split
  · exact rd_raise _ _ hg i
  · rfl

theorem von_vioCounted (v : VioReport) (s : State) (n : Fin 16) :
    (vioCounted v s).rd F.COH_VON.COUNT n = min (s.rd F.COH_VON.COUNT n + b2n (nbit v.victims n)) (2 ^ 32 - 1) := by
  have hby : (if v.tag.cls ≤ 2 ∧ v.tag.id < 16 then vioCount F.COH_VBY.COUNT 656 v.tag.id s else s).rd F.COH_VON.COUNT n =
      s.rd F.COH_VON.COUNT n := by
    split
    · rw [rd_vioCount _ _ _ _ (by decide), rd_satAdd_other _ _ _ _ _ _ (.inl (by decide))]
    · rfl
  have hother (t : State) (m : Nat) (h : m ≠ n) : (vioCount F.COH_VON.COUNT 640 m t).rd F.COH_VON.COUNT n = t.rd F.COH_VON.COUNT n := by
    rw [rd_vioCount _ _ _ _ (by decide), rd_satAdd_other _ _ _ _ _ _ (.inr (.inl h))]
  have hown (t : State) : (vioCount F.COH_VON.COUNT 640 n t).rd F.COH_VON.COUNT n = min (t.rd F.COH_VON.COUNT n + 1) (2 ^ 32 - 1) := by
    rw [rd_vioCount _ _ _ _ (by decide), rd_satAdd_same _ _ _ _ (by decide)]
    rfl
  have hlt : s.rd F.COH_VON.COUNT n < 2 ^ 32 := getF_lt ..
  unfold vioCounted
  by_cases hvictim : nbit v.victims n = true
  · have hmem : n.val ∈ bitsOf v.victims 16 := List.mem_filter.mpr ⟨List.mem_range.mpr n.isLt, hvictim⟩
    rw [foldl_own (fun t : State => t.rd F.COH_VON.COUNT n) (new := fun x => min (x + 1) (2 ^ 32 - 1)) (f := fun t m => vioCount F.COH_VON.COUNT 640 m t) hmem (List.nodup_range.filter _) hown (fun t m _ h => hother t m h), hby, hvictim]
    rfl
  · rw [foldl_unchanged (fun t : State => t.rd F.COH_VON.COUNT n) (fun t m hm => hother t m ?_), hby, Bool.eq_false_iff.mpr hvictim]
    · rw [b2n_false, Nat.add_zero, Nat.min_eq_left (by omega)]
    · rintro rfl
      exact hvictim (List.mem_filter.mp hm).2

theorem violationReport_eq {s : State} {v : VioReport} {l : List VioReport} (h : s.coh.reports = v :: l) :
    exec .violationReport s = done (vioCounted v (vlogAppend v { s with coh := { s.coh with reports := l } })) := by
  change done (match s.coh.reports with | [] => s | v :: l => _) = _
  rw [h]
  rfl

theorem violationReport_logged {s : State} {v : VioReport} {l : List VioReport} {c : Nat} (hreports : s.coh.reports = v :: l)
    (hc : c = s.rd F.COH_VLOG_CTL.COUNT 0) (hroom : c < 32) :
    Completes .violationReport s fun t =>
      let m := 6 * ((s.rd F.COH_VLOG_CTL.HEAD 0 + c) % 32)
      t.coh.reports = l ∧ t.rd F.COH_VLOG_CTL.COUNT 0 = c + 1 ∧ t.rd F.COH_VLOG_W0.REASON m = v.reason % 2 ^ F.COH_VLOG_W0.REASON.width ∧
      t.rd F.COH_VLOG_W1.DA_LO (m + 1) = v.da % 2 ^ 32 ∧ t.rd F.COH_VLOG_W3.VICTIMS (m + 3) = v.victims % 2 ^ 16 ∧
      t.rd F.COH_VLOG_LOST.VALUE 0 = s.rd F.COH_VLOG_LOST.VALUE 0 ∧
      ∀ n : Fin 16, t.rd F.COH_VON.COUNT n = min (s.rd F.COH_VON.COUNT n + b2n (nbit v.victims n)) (2 ^ 32 - 1) := by
  refine Completes.of_eq (violationReport_eq hreports) ?_
  dsimp only
  generalize hs1 : { s with coh := { s.coh with reports := l } } = s1
  have hrd (f : Fld) (i : Nat) : s1.rd f i = s.rd f i := by rw [← hs1]; rfl
  rw [vlogAppend_of_room (s := s1) (hc.trans (hrd ..).symm) hroom.ne, hrd]
  generalize hm : 6 * ((s.rd F.COH_VLOG_CTL.HEAD 0 + c) % 32) = m
  have hcounted := keeps_vioCounted v ((vlogRecord m v s1).wr F.COH_VLOG_CTL.COUNT 0 (c + 1))
  refine ⟨?_, ?_, ?_, ?_, ?_, ?_, fun n => ?_⟩
  · refine (congrArg CohState.reports (hcounted.part .coh rfl)).trans ?_
    rw [← hs1]
    rfl
  · rw [hcounted.rd _ _ rfl, rd_wr_same _ _ _ _ (by decide)]
    exact Nat.mod_eq_of_lt (show c + 1 < 2 ^ 6 by omega)
  · rw [hcounted.rd _ _ rfl, rd_wr_other _ _ _ _ _ _ (.inl (by decide)), reason_vlogRecord]
  · rw [hcounted.rd _ _ rfl, rd_wr_other _ _ _ _ _ _ (.inl (by decide)), da_vlogRecord]
  · rw [hcounted.rd _ _ rfl, rd_wr_other _ _ _ _ _ _ (.inl (by decide)), victims_vlogRecord]
  · rw [hcounted.rd _ _ rfl, rd_wr_other _ _ _ _ _ _ (.inl (by decide)), rd_vlogRecord_other _ _ _ (by decide), hrd]
  · rw [von_vioCounted, rd_wr_other _ _ _ _ _ _ (.inl (by decide)), rd_vlogRecord_other _ _ _ (by decide), hrd]

theorem violationReport_lost {s : State} {v : VioReport} {l : List VioReport} (hreports : s.coh.reports = v :: l)
    (hfull : s.rd F.COH_VLOG_CTL.COUNT 0 = 32) :
    Completes .violationReport s fun t =>
      t.coh.reports = l ∧ t.rd F.COH_VLOG_CTL.COUNT 0 = 32 ∧
      t.rd F.COH_VLOG_LOST.VALUE 0 = min (s.rd F.COH_VLOG_LOST.VALUE 0 + 1) (2 ^ 32 - 1) ∧
      ∀ i : Nat, t.reg .COH_VLOG_W i = s.reg .COH_VLOG_W i := by
  refine Completes.of_eq (violationReport_eq hreports) ?_
  rw [vlogAppend_of_full (s := { s with coh := { s.coh with reports := l } }) hfull]
  have hcounted := keeps_vioCounted v (State.satAdd { s with coh := { s.coh with reports := l } } F.COH_VLOG_LOST.VALUE 0 1)
  refine ⟨congrArg CohState.reports (hcounted.part .coh rfl), ?_, ?_, fun i => ?_⟩
  · rw [hcounted.rd _ _ rfl, rd_satAdd_other _ _ _ _ _ _ (.inl (by decide))]
    exact hfull
  · rw [hcounted.rd _ _ rfl, rd_satAdd_same _ _ _ _ (by decide)]
    rfl
  · rw [hcounted.reg _ _ rfl, State.satAdd, reg_wr_ne _ _ _ _ (by simp [F.COH_VLOG_LOST.VALUE])]
    rfl

theorem cohVlogPop_completes {s : State} {v : Word} {c : Nat} (hpop : F.COH_VLOG_CTL.POP.of v = 1) (hc : c = s.rd F.COH_VLOG_CTL.COUNT 0)
    (hsome : c ≠ 0) : Completes (.cohVlogPop v) s fun t =>
      t.rd F.COH_VLOG_CTL.COUNT 0 = c - 1 ∧ t.rd F.COH_VLOG_CTL.HEAD 0 = (s.rd F.COH_VLOG_CTL.HEAD 0 + 1) % 32 ∧ t.coh = s.coh := by
  subst hc
  have hlt : s.rd F.COH_VLOG_CTL.COUNT 0 < 2 ^ F.COH_VLOG_CTL.COUNT.width := getF_lt ..
  refine Completes.of_eq (congrArg done (if_pos ⟨hpop, hsome⟩)) ⟨?_, ?_, rfl⟩
  · rw [rd_wr_same _ _ _ _ (by decide), Nat.mod_eq_of_lt (by omega)]
  · rw [rd_wr_apart (by decide), rd_wr_same _ _ _ _ (by decide)]
    rfl

/-- Settles O29, event by event: a snoop's way to its host, the answers that end a line or leave it pending, a timeout, a walk's end, and the
ring of violations with its counters. -/
theorem snoopsAreAnsweredAndViolationsLogged : Obligations.SnoopsAreAnsweredAndViolationsLogged := by
  unfold Obligations.SnoopsAreAnsweredAndViolationsLogged
  refine ⟨?_, ?_, ?_, ?_, ?_, ?_, ?_, ?_, ?_⟩
  · intro s n line p q hfor hnew hup hreach
    have heffect := snoopArrives_effect hfor hnew hup hreach
    refine ⟨fun hinv => ?_, fun hinv => ?_⟩
    · rw [hinv] at heffect
      exact Completes.of_eq rfl heffect
    · rw [hinv] at heffect
      exact Completes.of_eq rfl heffect
  · exact fun s n line hdown => ⟨Completes.of_eq rfl (snoopArrives_of_down hdown), Completes.of_eq rfl (snoopArrives_of_down hdown)⟩
  · intro s u n p q hpend hsnoops hq hdelivered hvictim hreq hwait hkept hstalled hwalks
    refine ⟨fun hreturns => ?_, fun d hreturns => ?_⟩
    · have hends := snoopResponse_clean hpend hsnoops hq hdelivered hvictim hreq hwait hkept hstalled hwalks (hreturns := hreturns)
      exact ⟨Completes.of_eq rfl (hends false), Completes.of_eq rfl (hends true)⟩
    · have hends := snoopResponse_dirty hpend hsnoops hq hdelivered hvictim hreq hwait hkept hstalled hwalks (hreturns := hreturns)
      obtain ⟨hgone, hwritten, _⟩ := hends true
      exact ⟨Completes.of_eq rfl (hends false), Completes.of_eq rfl ⟨hgone, hwritten⟩⟩
  · exact fun s n p q q2 l hpend hsnoops hq hdelivered hothers hwalks hreturns =>
      Completes.of_eq rfl (snoopResponse_more hpend hsnoops hq hdelivered hothers hwalks hreturns)
  · exact fun s n p q q2 l hpend hsnoops hq _ _ hlate _ _ => snoopTimeout_fences (snoopFor_head hpend hsnoops hq) hlate
  · exact fun s leaf w n hwalks hw _ hreset hticket => walkComplete_of_head hwalks hw hreset hticket
  · exact fun s v l c hreports hc hroom => violationReport_logged hreports hc hroom
  · exact fun s v l hreports hfull => violationReport_lost hreports hfull
  · exact fun s v c hpop hc hsome => cohVlogPop_completes hpop hc hsome

end Sys2Proof.Machine

/-! ### Answers of commands, operations and their records (R264, R391, R394–R398, R406, R407) -/

namespace Sys2Proof.Machine
open Sys2Proof

/-! #### Numbers as bytes -/

theorem length_natBytes (n v : Nat) : (natBytes n v).length = n := by rw [natBytes, List.length_map, List.length_range]

theorem leNat_append (l r : List Byte) : leNat (l ++ r) = leNat l + 256 ^ l.length * leNat r := by
  induction l with
  | nil => rw [List.nil_append, leNat, List.length_nil, pow_zero, one_mul, zero_add]
  | cons b l ih => rw [List.cons_append, leNat, leNat, ih, List.length_cons, pow_succ']; ring

theorem natBytes_succ (n v : Nat) : natBytes (n + 1) v = BitVec.ofNat 8 v :: natBytes n (v / 256) := by
  rw [natBytes, List.range_succ_eq_map, List.map_cons, pow_zero, Nat.div_one, List.map_map, natBytes]
  congr 1
  exact List.map_congr_left fun k _ => by rw [Function.comp_apply, Nat.pow_succ', Nat.div_div_eq_div_mul]

theorem leNat_natBytes (n v : Nat) : leNat (natBytes n v) = v % 256 ^ n := by
  induction n generalizing v with
  | zero => rw [pow_zero, Nat.mod_one]; rfl
  | succ n ih => rw [natBytes_succ, leNat, ih, BitVec.toNat_ofNat, pow_succ' 256 n, Nat.mod_mul]

theorem bytesAt_prefix {a : List Byte} {n : Nat} (h : a.length = n) (b : List Byte) : bytesAt (a ++ b) 0 n = leNat a := by
  rw [bytesAt, List.drop_zero, ← h, List.take_left]

theorem bytesAt_suffix {a : List Byte} {k : Nat} (h : a.length = k) (b : List Byte) (o n : Nat) : bytesAt (a ++ b) (k + o) n = bytesAt b o n := by
  rw [bytesAt, ← h, List.drop_length_add_append, bytesAt]

/-! #### A response (R391) -/

/-- A word of the response area, once bytes that reach it have been put there. -/
theorem rspWord_putResponse {n m j : Nat} {l : List Byte} (hj : 4 * j < l.length) (s : State) :
    rspWord (putResponse n m l s) n m j = BitVec.ofNat 32 (bytesAt l (4 * j) 4) := by
  have hmem : j ∈ List.range ((l.length + 3) / 4) := List.mem_range.mpr (by omega)
  exact foldl_own (fun t : State => t.reg .SHX_MB_RSP (mbx n m * 64 + j)) (new := fun _ => BitVec.ofNat 32 (bytesAt l (4 * j) 4))
    (f := fun t k => t.setReg .SHX_MB_RSP (mbx n m * 64 + k) (BitVec.ofNat 32 (bytesAt l (4 * k) 4))) hmem List.nodup_range
    (fun t => reg_setReg_same ..) (fun t k _ hk => reg_setReg_ne _ _ fun h => hk (Nat.add_left_cancel h.2).symm) s

/-- The header of a response in its words. -/
def rspHeader (status dsrc len tag handle detail : Nat) : List Byte :=
  (natBytes 1 status ++ natBytes 1 dsrc ++ natBytes 2 len) ++ (natBytes 4 tag ++ (natBytes 4 handle ++ (natBytes 4 detail ++ natBytes 16 0)))

theorem shxAnswer_eq (n m status dsrc handle detail : Nat) (result : List Byte) (s : State) :
    shxAnswer n m status dsrc handle detail result s =
      setTaken n m (some { (mbTaken s n m).getD ⟨.answered, none, false⟩ with phase := .answered })
        (putResponse n m (rspHeader status dsrc result.length (cmdTag s n m) handle detail ++ result) s) := by
  simp only [shxAnswer, rspHeader, List.append_assoc]

section
variable (status dsrc len tag handle detail : Nat) (result : List Byte)

theorem length_rspHeader : (rspHeader status dsrc len tag handle detail).length = 32 := by
  simp only [rspHeader, List.length_append, length_natBytes]

theorem bytesAt_rspHeader_status : bytesAt (rspHeader status dsrc len tag handle detail ++ result) 0 4 =
    status % 256 + 2 ^ 8 * (dsrc % 256) + 2 ^ 16 * (len % 65536) := by
  rw [rspHeader, List.append_assoc, bytesAt_prefix (by simp only [List.length_append, length_natBytes]), leNat_append, leNat_append,
    leNat_natBytes, leNat_natBytes, leNat_natBytes, List.length_append, length_natBytes, length_natBytes]
  rfl

theorem bytesAt_rspHeader_tag : bytesAt (rspHeader status dsrc len tag handle detail ++ result) 4 4 = tag % 2 ^ 32 := by
  rw [rspHeader, List.append_assoc, bytesAt_suffix (k := 4) (o := 0) (by simp only [List.length_append, length_natBytes]), List.append_assoc,
    bytesAt_prefix (length_natBytes ..), leNat_natBytes]
  rfl

theorem bytesAt_rspHeader_handle : bytesAt (rspHeader status dsrc len tag handle detail ++ result) 8 4 = handle % 2 ^ 32 := by
  rw [rspHeader, List.append_assoc, bytesAt_suffix (k := 4) (o := 4) (by simp only [List.length_append, length_natBytes]), List.append_assoc,
    bytesAt_suffix (k := 4) (o := 0) (length_natBytes ..), List.append_assoc, bytesAt_prefix (length_natBytes ..), leNat_natBytes]
  rfl

theorem bytesAt_rspHeader_detail : bytesAt (rspHeader status dsrc len tag handle detail ++ result) 12 4 = detail % 2 ^ 32 := by
  rw [rspHeader, List.append_assoc, bytesAt_suffix (k := 4) (o := 8) (by simp only [List.length_append, length_natBytes]), List.append_assoc,
    bytesAt_suffix (k := 4) (o := 4) (length_natBytes ..), List.append_assoc, bytesAt_suffix (k := 4) (o := 0) (length_natBytes ..),
    List.append_assoc, bytesAt_prefix (length_natBytes ..), leNat_natBytes]
  rfl

theorem bytesAt_rspHeader_reserved (k : Fin 4) : bytesAt (rspHeader status dsrc len tag handle detail ++ result) (16 + 4 * k) 4 = 0 := by
  have hzero : bytesAt (natBytes 16 0 ++ result) (4 * k) 4 = 0 := by
    rw [bytesAt, List.drop_append_of_le_length (by rw [length_natBytes]; omega),
      List.take_append_of_le_length (by rw [List.length_drop, length_natBytes]; omega)]
    revert k
    decide
  rw [rspHeader, List.append_assoc, show 16 + 4 * k.val = 4 + (4 + (4 + (4 + 4 * k.val))) by omega,
    bytesAt_suffix (k := 4) (by simp only [List.length_append, length_natBytes]), List.append_assoc,
    bytesAt_suffix (k := 4) (length_natBytes ..), List.append_assoc, bytesAt_suffix (k := 4) (length_natBytes ..), List.append_assoc,
    bytesAt_suffix (k := 4) (length_natBytes ..), hzero]

end

theorem ofNat_mod_two_pow (v : Nat) : BitVec.ofNat 32 (v % 2 ^ 32) = BitVec.ofNat 32 v :=
  BitVec.eq_of_toNat_eq (by rw [BitVec.toNat_ofNat, BitVec.toNat_ofNat, Nat.mod_mod])

theorem mbTaken_setTaken_same (n m : Nat) (x : Option MbTaken) (s : State) : mbTaken (setTaken n m x s) n m = x :=
  sget_sset_self none s.shx.taken (mbx n m) x

/-- What the answer of a command leaves in the response area. -/
theorem answered_shxAnswer (n m status dsrc handle detail : Nat) (result : List Byte) (s : State) :
    Answered s (shxAnswer n m status dsrc handle detail result s) n m status dsrc handle detail result := by
  rw [shxAnswer_eq]
  have hlen := length_rspHeader status dsrc result.length (cmdTag s n m) handle detail
  have hword (j : Nat) (hj : 4 * j < 32 + result.length) :
      rspWord (putResponse n m (rspHeader status dsrc result.length (cmdTag s n m) handle detail ++ result) s) n m j =
        BitVec.ofNat 32 (bytesAt (rspHeader status dsrc result.length (cmdTag s n m) handle detail ++ result) (4 * j) 4) :=
    rspWord_putResponse (by rw [List.length_append, hlen]; exact hj) s
  refine ⟨by rw [mbTaken_setTaken_same]; rfl, ?_, ?_, ?_, ?_, fun k => ?_, fun k hk => ?_⟩
  · exact (hword 0 (by omega)).trans (by rw [Nat.mul_zero, bytesAt_rspHeader_status])
  · exact (hword 1 (by omega)).trans (by rw [Nat.mul_one, bytesAt_rspHeader_tag, ofNat_mod_two_pow])
  · exact (hword 2 (by omega)).trans (by rw [show 4 * 2 = 8 from rfl, bytesAt_rspHeader_handle, ofNat_mod_two_pow])
  · exact (hword 3 (by omega)).trans (by rw [show 4 * 3 = 12 from rfl, bytesAt_rspHeader_detail, ofNat_mod_two_pow])
  · exact (hword (4 + k) (by omega)).trans (by rw [Nat.mul_add, show 4 * 4 = 16 from rfl, bytesAt_rspHeader_reserved]; rfl)
  · exact (hword (8 + k) (by omega)).trans (by rw [Nat.mul_add, show 4 * 8 = 32 from rfl, bytesAt_suffix hlen])

theorem onlyAnswers_shxAnswer (n m status dsrc handle detail : Nat) (result : List Byte) (s : State) :
    OnlyAnswers s (shxAnswer n m status dsrc handle detail result s) := by
  have hkept : Keeps (regMask [.SHX_MB_RSP]) (partMask [.shx]) s (shxAnswer n m status dsrc handle detail result s) :=
    (keeps_shxAnswer ..).mono rfl rfl
  obtain ⟨hpending, _, hreg, hpart⟩ := hkept
  refine ⟨⟨hpending, fun r i hr => hreg r i (testBit_regMask hr), fun p hp => hpart p (testBit_partMask hp)⟩, ?_⟩
  have hput := (keeps_putResponse n m (rspHeader status dsrc result.length (cmdTag s n m) handle detail ++ result) s).part .shx rfl
  rw [shxAnswer_eq]
  generalize putResponse n m _ s = u at hput ⊢
  rw [← hput]
  rfl

theorem refuses_shxRefuse (n m status : Nat) (s : State) : Refuses s (shxRefuse n m status s) n m status :=
  ⟨answered_shxAnswer .., onlyAnswers_shxAnswer ..⟩

/-! #### Conflicts of long commands (R394, R407) -/

section
variable {s : State} {n m op : Nat} (hready : shxReady s n m op = true) {objs : List Byte → List ShxObj}
  {act : State → List Byte → Option (Nat × Nat)} {data : List Byte}
include hready

theorem shxLong_busy (hbusy : (objs (cmdPayload s n m)).any (objBusy s) = true) :
    shxLong n m op noChecks objs act data s = shxRefuse n m 0x30 s := by
  rw [shxLong, guarded_true hready]
  simp only [noChecks, List.nil_append, firstStatus, hbusy, if_true]

theorem shxLong_limit (hfree : (objs (cmdPayload s n m)).any (objBusy s) = false) (hfull : 256 ≤ outstanding s n) :
    shxLong n m op noChecks objs act data s = shxRefuse n m 0x36 s := by
  rw [shxLong, guarded_true hready]
  simp only [noChecks, List.nil_append, firstStatus, hfree, decide_eq_true hfull, if_true, Bool.false_eq_true, if_false]

end

/-- The conflicts of a command on head n without checks of its own. -/
theorem headCommand_conflicts {s : State} {n m op : Nat} {c : Instr} {act : State → List Byte → Option (Nat × Nat)}
    (hexec : exec c s = done (shxLong n m op noChecks (fun _ => [.head n]) act [] s)) (hready : shxReady s n m op = true) :
    Completes c s fun t =>
      (objBusy s (.head n) = true → Refuses s t n m 0x30) ∧
      (objBusy s (.head n) = false → 256 ≤ outstanding s n → Refuses s t n m 0x36) := by
  have hany : ([ShxObj.head n].any (objBusy s)) = objBusy s (.head n) := by rw [List.any_cons, List.any_nil, Bool.or_false]
  refine Completes.of_eq hexec ⟨fun hbusy => ?_, fun hfree hfull => ?_⟩
  · rw [shxLong_busy hready (hany.trans hbusy)]
    exact refuses_shxRefuse ..
  · rw [shxLong_limit hready (hany.trans hfree) hfull]
    exact refuses_shxRefuse ..

/-! #### The end of an operation (R395) -/

/-- The record of an operation that has ended. -/
def endRecord (o : ShxOp) (e : ShxEnd) (s : State) : ShxRecord :=
  ⟨o.handle, o.tag, o.opcode, o.tenant, o.objs, e.status, e.dsrc, e.detail, e.result, s.stamp⟩

/-- An operation taken off the list, its record held. -/
def recorded (o : ShxOp) (e : ShxEnd) (s : State) : State :=
  { s with shx := { s.shx with
    ops := s.shx.ops.filter (fun q => q.handle != o.handle)
    held := s.shx.held ++ [endRecord o e s] } }

section
variable {o : ShxOp} (hticket : o.ticket = none) (e : ShxEnd) (s : State)
include hticket

theorem finishOp_of_no_ticket : finishOp o e s = showHandles o.tenant (recorded o e s) := by
  rw [finishOp, hticket]
  rfl

theorem shx_finishOp : (finishOp o e s).shx = (recorded o e s).shx := by
  rw [finishOp_of_no_ticket hticket]
  exact (keeps_showHandles ..).part .shx rfl

theorem held_finishOp : (finishOp o e s).shx.held = s.shx.held ++ [endRecord o e s] := congrArg ShxState.held (shx_finishOp hticket e s)

theorem ops_finishOp_single {q : ShxOp} (hops : s.shx.ops = [q]) (hq : q.handle = o.handle) : (finishOp o e s).shx.ops = [] := by
  rw [shx_finishOp hticket]
  change s.shx.ops.filter _ = []
  rw [hops, List.filter_cons_of_neg (by simp [hq]), List.filter_nil]

theorem coh_finishOp : (finishOp o e s).coh = s.coh := by
  rw [finishOp_of_no_ticket hticket]
  exact (keeps_showHandles o.tenant (recorded o e s)).part .coh rfl

theorem rd_finishOp {f : Fld} (hf : f.reg ∉ [RegName.SHX_HSTAT, .SHX_CR_STAT]) (i : Nat) : (finishOp o e s).rd f i = s.rd f i := by
  rw [finishOp_of_no_ticket hticket]
  have hkept : Keeps (regMask [.SHX_HSTAT, .SHX_CR_STAT]) 0 (recorded o e s) (showHandles o.tenant (recorded o e s)) :=
    (keeps_showHandles ..).mono rfl rfl
  exact hkept.rd f i (testBit_regMask hf)

/-- An operation that ends as the only one leaves its record last. -/
theorem finishOp_single {q : ShxOp} (hops : s.shx.ops = [q]) (hq : q.handle = o.handle) :
    (finishOp o e s).shx.ops = [] ∧ (finishOp o e s).shx.held.dropLast = s.shx.held ∧
    (finishOp o e s).shx.held.getLast? = some (endRecord o e s) := by
  rw [held_finishOp hticket]
  exact ⟨ops_finishOp_single hticket e s hops hq, List.dropLast_concat, List.getLast?_concat⟩

end

/-! #### Steps of the only operation -/

theorem opNext_single {s : State} {o : ShxOp} (hops : s.shx.ops = [o]) (hstarted : o.started = true) :
    opNext s o.handle = opAfter o (opPoll o s) := by
  unfold opNext
  rw [hops, List.find?_cons_of_pos (p := fun x : ShxOp => x.handle == o.handle) (beq_self_eq_true _)]
  exact if_pos hstarted

theorem opNext_none {s : State} (hops : s.shx.ops = []) (h : Nat) : opNext s h = s := by
  unfold opNext
  rw [hops]
  rfl

theorem ops_setOp_single {s : State} {o q : ShxOp} (hops : s.shx.ops = [o]) (hq : o.handle = q.handle) : (setOp q s).shx.ops = [q] := by
  change s.shx.ops.map _ = _
  rw [hops, List.map_singleton, if_pos hq]

theorem setOp_self {s : State} {o : ShxOp} (hops : s.shx.ops = [o]) : setOp o s = s := by
  have hsame : s.shx.ops.map (fun q => if q.handle = o.handle then o else q) = s.shx.ops := by
    rw [hops, List.map_singleton, if_pos rfl]
  rw [setOp, hsame]

theorem started_self {o : ShxOp} (h : o.started = true) : { o with started := true } = o := by
  cases o
  cases h
  rfl

theorem extOp_some {s : State} {op phase k : Nat} {o : ShxOp} (h : extOp s op phase k = some o) :
    o.opcode = op ∧ o.started = true ∧ o.phase = phase ∧ o.arg 0 4 = k := by
  have hall := List.find?_some h
  simpa only [Bool.and_eq_true, beq_iff_eq, and_assoc] using hall

/-! #### Offers and releases of extents (R254, R264, R406) -/

/-- An extent struck from the lists of the heads of a mask is in none of them. -/
theorem sget_dropExt_foldl {k mask h : Nat} (hh : h ∈ bitsOf mask 16) (l : Sparse (List Nat)) :
    sget [] ((bitsOf mask 16).foldl (fun l n => dropExt k n l) l) h = (sget [] l h).filter (· != k) :=
  foldl_own (fun l => sget [] l h) (new := fun x => x.filter (· != k)) (f := fun l n => dropExt k n l) hh (List.nodup_range.filter _)
    (fun _ => sget_sset_self ..) (fun _ _ _ hn => sget_sset_ne _ _ _ _ hn.symm) l

theorem not_mem_filter_ne (k : Nat) (l : List Nat) : k ∉ l.filter (· != k) := fun h => by simpa using (List.mem_filter.mp h).2

theorem not_offered_unoffer {k mask h : Nat} (hh : h ∈ bitsOf mask 16) (s : State) : k ∉ sget [] (unoffer k mask s).coh.offered h := by
  change k ∉ sget [] ((bitsOf mask 16).foldl (fun l n => dropExt k n l) s.coh.offered) h
  rw [sget_dropExt_foldl hh]
  exact not_mem_filter_ne _ _

theorem not_accepted_unaccept {k mask h : Nat} (hh : h ∈ bitsOf mask 16) (s : State) : k ∉ sget [] (unaccept k mask s).coh.accepted h := by
  change k ∉ sget [] ((bitsOf mask 16).foldl (fun l n => dropExt k n l) s.coh.accepted) h
  rw [sget_dropExt_foldl hh]
  exact not_mem_filter_ne _ _

theorem offered_released (k : Nat) (s : State) : (released k s).coh.offered = s.coh.offered := by
  unfold released
  dsimp only
  split
  · rfl
  · rfl

theorem offered_ptNarrow (k : Nat) (s : State) : (ptNarrow k s).coh.offered = s.coh.offered := by
  unfold ptNarrow
  dsimp only
  split
  · exact (tenancyStands_addWalk ..).offered
  · rfl

theorem offered_ptAssign (k : Nat) (s : State) : (ptAssign k s).coh.offered = s.coh.offered := by
  rw [ptAssign_eq]
  split
  · rfl
  · rfl

theorem offered_ptRelease (k : Nat) (s : State) : (ptRelease k s).coh.offered = s.coh.offered := by
  obtain ⟨hstands, _⟩ := ptRelease_stands k s
  rw [hstands.offered, offered_released]

/-- A partition command leaves the offers as they stand. -/
theorem offered_ptCmd (v : Word) (s : State) : (ptCmd v s).coh.offered = s.coh.offered := by
  unfold ptCmd
  dsimp only
  split
  · rfl
  · split
    · rfl
    · split
      · exact congrArg CohState.offered ((keeps_ptRead ..).part .coh rfl)
      · exact offered_ptAssign ..
      · exact offered_ptNarrow ..
      · exact offered_ptRelease ..

/-- A partition command that an operation issues while the block is free: its effect on the offers and the operations. -/
theorem ptIssue_of_free {s : State} (hbusy : s.flag F.COH_PT_STAT.BUSY 0 = false) (op k : Nat) (e : PtEntry) :
    ∃ r t, ptIssue op k e s = (some r, t) ∧ t.shx = s.shx ∧ t.coh.offered = s.coh.offered := by
  have hshx := (keeps_ptIssue op k e s).part .shx rfl
  have hissued : ptIssue op k e s = (some ((ptIssue op k e s).2.rd F.COH_PT_STAT.RESULT 0), (ptIssue op k e s).2) := by
    unfold ptIssue
    rw [hbusy]
    rfl
  refine ⟨_, _, hissued, hshx, ?_⟩
  unfold ptIssue
  rw [hbusy]
  exact offered_ptCmd ..

/-- The offer ends without a head that accepted: the extent is to be released. -/
theorem extAssignPoll_offer_ends {s : State} {o : ShxOp} (hphase : o.phase = 2)
    (hoffered : ∀ h ∈ bitsOf o.mask 16, o.arg 0 4 ∉ sget [] s.coh.offered h) (hnone : acceptedBy s (o.arg 0 4) o.mask = 0) (hmask : o.mask ≠ 0) :
    extAssignPoll o s = (.going { o with phase := 4, mask := 0 }, s) := by
  have hany : ((bitsOf o.mask 16).any (fun n => (sget [] s.coh.offered n).contains (o.arg 0 4))) = false := by
    rw [List.any_eq_false]
    intro h hh
    simpa using hoffered h hh
  unfold extAssignPoll
  simp only [hphase, hany, hnone, Bool.false_eq_true, if_false, if_neg hmask.symm, if_true]

/-- The release of an assigned extent ends the operation as refused. -/
theorem extAssignPoll_releases {s : State} {o : ShxOp} (hphase : o.phase = 4) (hbusy : s.flag F.COH_PT_STAT.BUSY 0 = false) :
    ∃ a b t, extAssignPoll o s = (.over (devError a b), t) ∧ t.shx = s.shx ∧ t.coh.offered = s.coh.offered := by
  obtain ⟨r, t, hissue, hshx, hoffered⟩ := ptIssue_of_free hbusy 4 (o.arg 0 4) (s.ptEntry (o.arg 0 4))
  unfold extAssignPoll
  simp only [hphase, hissue]
  cases r with
  | zero => exact ⟨0, 0, t, rfl, hshx, hoffered⟩
  | succ r => exact ⟨1, r + 1, t, rfl, hshx, hoffered⟩

theorem opPoll_extAssign {o : ShxOp} (h : o.opcode = 0x0100) (s : State) : opPoll o s = extAssignPoll o s := by
  unfold opPoll
  rw [h]
  rfl

theorem opPoll_extRelease {o : ShxOp} (h : o.opcode = 0x0102) (s : State) : opPoll o s = extReleasePoll o s := by
  unfold opPoll
  rw [h]
  rfl

theorem nsetBit_ne_zero {m n : Nat} (hbit : nbit m n = true) (hne : m ≠ 2 ^ n) : nsetBit m n false ≠ 0 := by
  intro hzero
  refine hne (Nat.eq_of_testBit_eq fun j => ?_)
  have hj := testBit_nsetBit m n j false
  rw [hzero, Nat.zero_testBit] at hj
  rw [Nat.testBit_two_pow]
  by_cases h : j = n
  · rw [h, decide_eq_true rfl]
    exact hbit
  · rw [decide_eq_false (Ne.symm h)]
    rw [if_neg h] at hj
    exact hj.symm

/-- EXT_ASSIGN after an offer that no head has accepted. -/
def offerEnded (o : ShxOp) : ShxOp := { o with phase := 4, mask := 0, started := true }

/-- EXT_RELEASE once head n has released the extent. -/
def headReleased (n : Nat) (o : ShxOp) : ShxOp := { o with mask := nsetBit o.mask n false }

section
variable {s : State} {k : Nat} {o : ShxOp} (hops : s.shx.ops = [o])
include hops

theorem extentOfferTimeout_completes (hop : extOp s 0x0100 2 k = some o) (hlate : s.expired o.at_ 1000000000 = true)
    (hnone : acceptedBy s k o.mask = 0) (hmask : o.mask ≠ 0) (hticket : o.ticket = none) (hbusy : s.rd F.COH_PT_STAT.BUSY 0 = 0) :
    Completes (.extentOfferTimeout k) s fun t =>
      (∀ h ∈ bitsOf o.mask 16, k ∉ sget [] t.coh.offered h) ∧ t.shx.ops = [] ∧
      t.shx.held.dropLast = s.shx.held ∧ t.shx.held.getLast?.map (fun r => (r.handle, r.status)) = some (o.handle, 0x40) := by
  obtain ⟨hcode, hstarted, hphase, rfl⟩ := extOp_some hop
  have hexec : exec (.extentOfferTimeout (o.arg 0 4)) s = done (opRun o.handle (unoffer (o.arg 0 4) o.mask s)) := by
    change done (match extOp s 0x0100 2 (o.arg 0 4) with | some o => _ | none => s) = _
    rw [hop]
    dsimp only
    rw [guarded_true hlate]
  obtain ⟨q, hq⟩ : ∃ q, q = offerEnded o := ⟨_, rfl⟩
  have hqhandle : q.handle = o.handle := by rw [hq]; rfl
  have hqcode : q.opcode = 0x0100 := by rw [hq]; exact hcode
  have hqticket : q.ticket = none := by rw [hq]; exact hticket
  obtain ⟨u, hu⟩ : ∃ u, u = setOp q (unoffer (o.arg 0 4) o.mask s) := ⟨_, rfl⟩
  have hfirst : opNext (unoffer (o.arg 0 4) o.mask s) o.handle = u := by
    rw [opNext_single (s := unoffer (o.arg 0 4) o.mask s) hops hstarted, opPoll_extAssign hcode,
      extAssignPoll_offer_ends hphase (fun h hh => not_offered_unoffer hh s) hnone hmask, hu, hq]
    rfl
  have huops : u.shx.ops = [q] := hu ▸ ops_setOp_single (s := unoffer (o.arg 0 4) o.mask s) hops hqhandle.symm
  have hubusy : u.flag F.COH_PT_STAT.BUSY 0 = false := by
    rw [hu]
    change (s.rd F.COH_PT_STAT.BUSY 0 != 0) = false
    rw [hbusy]
    rfl
  obtain ⟨a, b, t, hpoll, htshx, htoffered⟩ := extAssignPoll_releases (show q.phase = 4 by rw [hq]; rfl) hubusy
  have hsecond : opNext u o.handle = finishOp q (devError a b) t := by
    rw [← hqhandle, opNext_single huops (show q.started = true by rw [hq]; rfl), opPoll_extAssign hqcode, hpoll]
    rfl
  obtain ⟨hgone, hheld, hlast⟩ := finishOp_single hqticket (devError a b) t (q := q) (by rw [htshx]; exact huops) rfl
  have hrun : opRun o.handle (unoffer (o.arg 0 4) o.mask s) = finishOp q (devError a b) t := by
    rw [opRun, hfirst, hsecond, opNext_none hgone]
  refine Completes.of_eq (hexec.trans (congrArg done hrun)) ⟨fun h hh => ?_, hgone, ?_, ?_⟩
  · rw [coh_finishOp hqticket, htoffered, hu]
    exact not_offered_unoffer hh s
  · rw [hheld, htshx, hu]
    rfl
  · rw [hlast, ← hqhandle]
    rfl

theorem extentReleaseResponse_completes {n : Fin 16} (hop : extOp s 0x0102 1 k = some o) (hbit : nbit o.mask n = true)
    (hmask : o.mask ≠ 2 ^ n.val) : Completes (.extentReleaseResponse n k) s fun t =>
      t.shx.ops = [{ o with mask := nsetBit o.mask n false }] ∧ k ∉ sget [] t.coh.accepted n ∧ t.regs = s.regs := by
  obtain ⟨hcode, hstarted, hphase, _⟩ := extOp_some hop
  obtain ⟨q, hq⟩ : ∃ q, q = headReleased n o := ⟨_, rfl⟩
  have hqhandle : q.handle = o.handle := by rw [hq]; rfl
  have hqcode : q.opcode = 0x0102 := by rw [hq]; exact hcode
  have hqstarted : q.started = true := by rw [hq]; exact hstarted
  have hqphase : q.phase = 1 := by rw [hq]; exact hphase
  have hqmask : q.mask ≠ 0 := hq ▸ nsetBit_ne_zero hbit hmask
  obtain ⟨u, hu⟩ : ∃ u, u = setOp q (unaccept k (2 ^ n.val) s) := ⟨_, rfl⟩
  have hexec : exec (.extentReleaseResponse n k) s = done (opRun o.handle u) := by
    change done (match extOp s 0x0102 1 k with | some o => _ | none => s) = _
    rw [hop]
    dsimp only
    rw [guarded_true hbit, hu, hq]
    rfl
  have huops : u.shx.ops = [q] := hu ▸ ops_setOp_single (s := unaccept k (2 ^ n.val) s) hops hqhandle.symm
  have hidle : opNext u o.handle = u := by
    have hpoll : extReleasePoll q u = (.going q, u) := by
      unfold extReleasePoll
      simp only [hqphase, if_neg hqmask]
    rw [← hqhandle, opNext_single huops hqstarted, opPoll_extRelease hqcode, hpoll]
    change setOp { q with started := true } u = u
    rw [started_self hqstarted, setOp_self huops]
  have hrun : opRun o.handle u = u := by rw [opRun, hidle, hidle, hidle]
  refine Completes.of_eq (hexec.trans (congrArg done hrun)) ⟨huops.trans (by rw [hq]; rfl), ?_, by rw [hu]; rfl⟩
  rw [hu]
  exact not_accepted_unaccept (List.mem_filter.mpr ⟨List.mem_range.mpr n.isLt, Nat.testBit_two_pow_self⟩) s

theorem extentReleaseWaitExpiry_completes (hop : extOp s 0x0102 1 k = some o) (hmask : o.mask ≠ 0)
    (hlate : s.expired o.at_ (1000000 * o.arg 6 2) = true) (hforce : o.arg 4 1 = 0) (hticket : o.ticket = none) :
    Completes (.extentReleaseWaitExpiry k) s fun t =>
      t.shx.ops = [] ∧ t.coh.pt = s.coh.pt ∧
      t.shx.held.dropLast = s.shx.held ∧ t.shx.held.getLast?.map (fun r => (r.handle, r.status)) = some (o.handle, 0x40) := by
  have hexec : exec (.extentReleaseWaitExpiry k) s = done (finishOp o (devError 0 0) s) := by
    change done (match extOp s 0x0102 1 k with | some o => _ | none => s) = _
    rw [hop]
    dsimp only
    rw [guarded_true (by rw [bne_iff_ne.mpr hmask, hlate]; rfl), if_pos hforce]
  obtain ⟨hgone, hheld, hlast⟩ := finishOp_single hticket (devError 0 0) s hops rfl
  refine Completes.of_eq hexec ⟨hgone, ?_, hheld, ?_⟩
  · rw [coh_finishOp hticket]
  · rw [hlast]
    rfl

end

/-! #### The end of a loopback (R245, R246) -/

/-- The loopback of lane g stops, and its checker's count is cleared. -/
def loopStopped (s : State) (g : Nat) : State := (llbWrite g 0 s).wr F.LNK_LLBERR.COUNT g 0

theorem llbWrite_zero (g : Nat) (s : State) : llbWrite g 0 s = ((s.wr F.LNK_LLB.PAT g 0).wr F.LNK_LLB.MODE g 0).off F.LNK_LLB.LOCK g := rfl

theorem loopStopped_same (g : Nat) (s : State) : (loopStopped s g).rd F.LNK_LLB.MODE g = 0 ∧ (loopStopped s g).rd F.LNK_LLBERR.COUNT g = 0 := by
  refine ⟨?_, ?_⟩
  · rw [loopStopped, llbWrite_zero, rd_wr_apart (by decide), State.off, rd_wr_apart (by decide), rd_wr_same _ _ _ _ (by decide), Nat.zero_mod]
  · rw [loopStopped, rd_wr_same _ _ _ _ (by decide), Nat.zero_mod]

theorem rd_loopStopped_other {g h : Nat} (hne : g ≠ h) (f : Fld) (s : State) : (loopStopped s g).rd f h = s.rd f h := by
  rw [loopStopped, llbWrite_zero, State.off, rd_wr_index _ _ _ hne, rd_wr_index _ _ _ hne, rd_wr_index _ _ _ hne, rd_wr_index _ _ _ hne]

theorem keeps_loopStopped (s : State) (g : Nat) : Keeps (regMask [.LNK_LLB, .LNK_LLBERR]) 0 s (loopStopped s g) :=
  .trans ((keeps_llbWrite ..).mono rfl rfl) ((keeps_wr ..).mono rfl rfl)

theorem loopStopped_foldl {l : List Nat} (hl : l.Nodup) {g : Nat} (hg : g ∈ l) (s : State) :
    (l.foldl loopStopped s).rd F.LNK_LLB.MODE g = 0 ∧ (l.foldl loopStopped s).rd F.LNK_LLBERR.COUNT g = 0 :=
  ⟨foldl_own (fun t : State => t.rd F.LNK_LLB.MODE g) (new := fun _ => 0) (f := loopStopped) hg hl (fun t => (loopStopped_same g t).1)
      (fun t _ _ h => rd_loopStopped_other h _ t) s,
    foldl_own (fun t : State => t.rd F.LNK_LLBERR.COUNT g) (new := fun _ => 0) (f := loopStopped) hg hl (fun t => (loopStopped_same g t).2)
      (fun t _ _ h => rd_loopStopped_other h _ t) s⟩

theorem keeps_holdWrite_release (n : Nat) (s : State) : Keeps (regMask [.LNK_HCTL, .LNK_HSTAT]) 0 s (holdWrite n false s) := by
  change Keeps _ _ s (if loopedLane s n then s else _)
  split
  · exact .refl s
  · have hoff : Keeps (regMask [.LNK_HCTL, .LNK_HSTAT]) 0 s (s.off F.LNK_HCTL.HOLD n) := (keeps_off ..).mono rfl rfl
    split
    · exact hoff.trans ((keeps_headRelease ..).mono rfl rfl)
    · exact hoff

/-- The lanes of a loopback that counted errors. -/
def loopBad (s : State) (o : ShxOp) : List Nat := (loopLanes s o).filter (fun g => s.rd F.LNK_LLBERR.COUNT g != 0)

/-- What a loopback's end gives as its result. -/
def loopResult (s : State) (o : ShxOp) : List Byte :=
  natBytes 1 (loopBad s o).length ++ natBytes 2 ((loopBad s o).foldl (fun m g => nsetBit m (g % 16) true) 0)

/-- The lanes of a loopback stopped, and the head released unless it was held before. -/
def loopReleased (o : ShxOp) (s : State) : State :=
  let t := (loopLanes s o).foldl loopStopped s
  if o.mask = 0 then holdWrite o.tenant false t else t

theorem loopbackEnd_eq (o : ShxOp) (s : State) : loopbackEnd o s = (.over (okEnd (loopResult s o)), loopReleased o s) := rfl

theorem bytesAt_loopResult (s : State) (o : ShxOp) : bytesAt (loopResult s o) 0 1 = (loopBad s o).length % 256 := by
  rw [loopResult, bytesAt_prefix (length_natBytes ..), leNat_natBytes, pow_one]

theorem keeps_loopReleased (o : ShxOp) (s : State) :
    Keeps (regMask [.LNK_HCTL, .LNK_HSTAT]) 0 ((loopLanes s o).foldl loopStopped s) (loopReleased o s) := by
  unfold loopReleased
  dsimp only
  split
  · exact keeps_holdWrite_release ..
  · exact .refl _

theorem shx_loopReleased (o : ShxOp) (s : State) : (loopReleased o s).shx = s.shx :=
  ((keeps_loopReleased o s).part .shx rfl).trans ((Keeps.foldl keeps_loopStopped).part .shx rfl)

theorem loopReleased_lane {o : ShxOp} {s : State} {g : Nat} (hg : g ∈ loopLanes s o) :
    (loopReleased o s).rd F.LNK_LLB.MODE g = 0 ∧ (loopReleased o s).rd F.LNK_LLBERR.COUNT g = 0 := by
  have hkept := keeps_loopReleased o s
  rw [hkept.rd _ _ rfl, hkept.rd _ _ rfl]
  exact loopStopped_foldl ((headLanes_nodup ..).filter _) hg s

theorem loopbackTimeExpiry_completes {s : State} {n : Fin 16} {o : ShxOp} (hops : s.shx.ops = [o]) (hcode : o.opcode = 0x0801)
    (hstarted : o.started = true) (htenant : o.tenant = n.val) (hticket : o.ticket = none)
    (hlate : s.expired o.at_ (1000000 * o.arg 8 4) = true) : Completes (.loopbackTimeExpiry n) s fun t =>
      t.shx.ops = [] ∧ (∀ g ∈ loopLanes s o, t.rd F.LNK_LLB.MODE g = 0 ∧ t.rd F.LNK_LLBERR.COUNT g = 0) ∧
      t.shx.held.dropLast = s.shx.held ∧ t.shx.held.getLast?.map (fun r => (r.handle, r.status, bytesAt r.result 0 1)) =
        some (o.handle, 0, ((loopLanes s o).filter (fun g => s.rd F.LNK_LLBERR.COUNT g != 0)).length % 256) := by
  have hexec : exec (.loopbackTimeExpiry n) s = done (finishOp o (okEnd (loopResult s o)) (loopReleased o s)) := by
    change done (match s.shx.ops.find? (fun o => o.opcode == 0x0801 && o.started && o.tenant == n.val) with | some o => _ | none => s) = _
    rw [hops, List.find?_cons_of_pos (by simp [hcode, hstarted, htenant])]
    dsimp only
    rw [guarded_true hlate, loopbackEnd_eq]
    rfl
  obtain ⟨hgone, hheld, hlast⟩ := finishOp_single hticket (okEnd (loopResult s o)) (loopReleased o s) (q := o)
    (by rw [shx_loopReleased]; exact hops) rfl
  refine Completes.of_eq hexec ⟨hgone, fun g hg => ?_, ?_, ?_⟩
  · rw [rd_finishOp hticket _ _ (by decide), rd_finishOp hticket _ _ (by decide)]
    exact loopReleased_lane hg
  · rw [hheld, shx_loopReleased]
  · rw [hlast]
    exact congrArg (fun x => some (o.handle, 0, x)) (bytesAt_loopResult s o)

/-! #### Sources that are raised (R412, R415, R422) -/

theorem src_setSrc_same (s : State) (n : Nat) (r : SrcRec) : (s.setSrc n r).src n = r := sget_sset_self ..

/-- The state of a source after it is raised. -/
theorem src_raise (n : Nat) (s : State) : ((raise n s).src n).st = raisedState s n := by
  unfold raise raisedState
  cases hen : s.flag F.EVC_SRC.EN n with
  | false => rfl
  | true =>
    rw [if_pos rfl, if_neg (by decide)]
    dsimp only
    cases hst : (s.src n).st with
    | inactive =>
      dsimp only
      split
      · exact hst
      · rw [src_evaluate, src_setSrc_same]
    | pending => exact hst
    | active => exact congrArg SrcRec.st (src_setSrc_same ..)
    | activePending => exact hst

/-- The event blocks's part and the routing registers decide what a raise makes of a source. -/
theorem Keeps.raisedState {R P : Nat} {s t : State} (h : Keeps R P s t) (hR : R.testBit RegName.EVC_SRC.ctorIdx = false)
    (hP : P.testBit Part.evc.ctorIdx = false) (n : Nat) : raisedState t n = raisedState s n := by
  have hsrc : t.src n = s.src n := congrArg (fun e : EvcState => sget SrcRec.idle e.src n) (h.part .evc hP)
  have hheld : heldFor t n = heldFor s n := by
    rw [heldFor, heldFor, h.rd F.EVC_SRC.TENANT n hR, h.part .evc hP]
  rw [Sys2Proof.raisedState, Sys2Proof.raisedState, h.flag F.EVC_SRC.EN n hR, hsrc, hheld]

/-! #### Records on the ring (R396–R398) -/

theorem tail_advanceTail {n x : Nat} {s : State} (hx : x = (s.rd F.SHX_CR_TAIL.TAIL n + 1) % ringSize s n) (hlt : x < 2 ^ F.SHX_CR_TAIL.TAIL.width) :
    (advanceTail n s).rd F.SHX_CR_TAIL.TAIL n = x ∧
    (x ≠ 0 → (advanceTail n s).rd F.SHX_CR_TAIL.PHASE n = s.rd F.SHX_CR_TAIL.PHASE n) ∧
    (x = 0 → (advanceTail n s).rd F.SHX_CR_TAIL.PHASE n = 1 - s.rd F.SHX_CR_TAIL.PHASE n) := by
  have hphase : 1 - s.rd F.SHX_CR_TAIL.PHASE n < 2 ^ F.SHX_CR_TAIL.PHASE.width := by
    change 1 - s.rd F.SHX_CR_TAIL.PHASE n < 2
    omega
  unfold advanceTail
  dsimp only
  rw [← hx]
  split
  · next hzero =>
    refine ⟨?_, fun h => absurd hzero h, fun _ => ?_⟩
    · rw [rd_wr_apart (by decide), rd_wr_same _ _ _ _ (by decide), Nat.mod_eq_of_lt hlt]
    · rw [rd_wr_same _ _ _ _ (by decide), Nat.mod_eq_of_lt hphase]
  · next hnonzero =>
    refine ⟨?_, fun _ => rd_wr_apart (by decide) _ _ _, fun h => absurd h hnonzero⟩
    rw [rd_wr_same _ _ _ _ (by decide), Nat.mod_eq_of_lt hlt]

/-- Bytes for a host go out first; what else goes out follows. -/
theorem out_writeHost (n addr : Nat) (l : List Byte) (s : State) :
    (writeHost n addr l s).out.take (s.out.length + 1) = s.out ++ [.hostData n addr l] := by
  have hlen : (s.out ++ [OutMsg.hostData n addr l]).length = s.out.length + 1 := List.length_append
  unfold writeHost admitMessage
  dsimp only
  split
  · change (s.out ++ [OutMsg.hostData n addr l] ++ [_]).take (s.out.length + 1) = _
    rw [← hlen, List.take_left]
  · exact List.take_of_length_le hlen.le

/-- The oldest record sent to the ring's slot, and no longer held. -/
def recordSent (n : Nat) (r : ShxRecord) (s : State) : State :=
  let t := writeHost n (ringSlot s n) (recordBytes r (s.rd F.SHX_CR_TAIL.PHASE n)) s
  { t with shx := { t.shx with held := t.shx.held.filter (fun q => q.handle != r.handle) } }

theorem keeps_recordSent (n : Nat) (r : ShxRecord) (s : State) :
    Keeps (regMask [.SHX_MSIX_PBA, .WRD_MSGSTAT]) (partMask [.out, .kp, .shx]) s (recordSent n r s) := by
  refine .trans ((keeps_writeHost n (ringSlot s n) (recordBytes r (s.rd F.SHX_CR_TAIL.PHASE n)) s).mono rfl rfl)
    (Keeps.store rfl rfl id id id fun p hp => ?_)
  cases p with
  | shx => cases hp
  | _ => rfl

/-- The registers and parts that change from the sending of a record to the raise of its source. -/
theorem keeps_recordShown (n : Nat) (s : State) :
    Keeps (regMask [.SHX_CR_TAIL, .SHX_HSTAT, .SHX_CR_STAT]) 0 s (showHandles n (advanceTail n s)) :=
  .trans ((keeps_advanceTail n s).mono rfl rfl) ((keeps_showHandles ..).mono rfl rfl)

theorem recordWrite_admitted {s : State} {n : Fin 16} {r : ShxRecord} {x : Nat} (hheld : s.shx.held.find? (fun r => r.tenant == n.val) = some r)
    (hroom : ringRoom s n = true) (hx : x = (s.rd F.SHX_CR_TAIL.TAIL n + 1) % ringSize s n) (hlt : x < 2 ^ F.SHX_CR_TAIL.TAIL.width)
    (hadmits : windowAdmits s n (ringSlot s n) 32 true = true) :
    Completes (.recordWrite n) s fun t =>
      t.out.take (s.out.length + 1) = s.out ++ [.hostData n (ringSlot s n) (recordBytes r (s.rd F.SHX_CR_TAIL.PHASE n))] ∧
      (∀ q ∈ t.shx.held, q.handle ≠ r.handle) ∧ (t.src (96 + n)).st = raisedState s (96 + n) ∧
      (t.rd F.SHX_CR_TAIL.TAIL n = x ∧ (x ≠ 0 → t.rd F.SHX_CR_TAIL.PHASE n = s.rd F.SHX_CR_TAIL.PHASE n) ∧
        (x = 0 → t.rd F.SHX_CR_TAIL.PHASE n = 1 - s.rd F.SHX_CR_TAIL.PHASE n)) := by
  have hexec : exec (.recordWrite n) s = done (raise (96 + n.val) (showHandles n (advanceTail n (recordSent n r s)))) := by
    change done (match s.shx.held.find? (fun r => r.tenant == n.val) with | some r => _ | none => s) = _
    rw [hheld]
    dsimp only
    rw [guarded_true hroom, if_pos hadmits]
    rfl
  have hsent := keeps_recordSent n r s
  have hshown := keeps_recordShown n (recordSent n r s)
  have hraised := keeps_raise (96 + n.val) (showHandles n (advanceTail n (recordSent n r s)))
  have hsize : ringSize (recordSent n r s) n = ringSize s n := congrArg (2 ^ ·) (hsent.rd F.SHX_CR_CTL.SIZE n rfl)
  obtain ⟨htail, hphase, hwrap⟩ := tail_advanceTail (n := n) (s := recordSent n r s) (x := x)
    (by rw [hx, hsize, hsent.rd F.SHX_CR_TAIL.TAIL n rfl]) hlt
  have hcounted : Keeps (regMask [.SHX_HSTAT, .SHX_CR_STAT]) 0 (advanceTail n (recordSent n r s))
      (showHandles n (advanceTail n (recordSent n r s))) := (keeps_showHandles ..).mono rfl rfl
  rw [hsent.rd F.SHX_CR_TAIL.PHASE n rfl] at hphase hwrap
  refine Completes.of_eq hexec ⟨?_, fun q hq => ?_, ?_, ?_⟩
  · rw [hraised.part .out rfl, hshown.part .out rfl]
    exact out_writeHost ..
  · rw [hraised.part .shx rfl, hshown.part .shx rfl] at hq
    exact bne_iff_ne.mp (List.mem_filter.mp hq).2
  · rw [src_raise, hshown.raisedState rfl rfl, hsent.raisedState rfl rfl]
  · rw [hraised.rd _ _ rfl, hraised.rd _ _ rfl, hcounted.rd _ _ rfl, hcounted.rd _ _ rfl]
    exact ⟨htail, hphase, hwrap⟩

/-- A record whose slot lies outside the tenant's windows stays held. -/
theorem recordWrite_denied {s : State} {n : Fin 16} {r : ShxRecord} (hheld : s.shx.held.find? (fun r => r.tenant == n.val) = some r)
    (hroom : ringRoom s n = true) (hdenied : ¬windowAdmits s n (ringSlot s n) 32 true = true) :
    Completes (.recordWrite n) s fun t =>
      t.shx = s.shx ∧ t.out = s.out ∧ t.flag F.SHX_CR_STAT.WERR n = true ∧
      t.rd F.WRD_VIO.COUNT n = min (s.rd F.WRD_VIO.COUNT n + 1) (2 ^ 32 - 1) := by
  have hexec : exec (.recordWrite n) s = done ((vio n (wardLog 0 n 0 (ringSlot s n) s)).on F.SHX_CR_STAT.WERR n) := by
    change done (match s.shx.held.find? (fun r => r.tenant == n.val) with | some r => _ | none => s) = _
    rw [hheld]
    dsimp only
    rw [guarded_true hroom, if_neg hdenied]
  have hlog := keeps_wardLog 0 n 0 (ringSlot s n) s
  have hvio := keeps_vio n (wardLog 0 n 0 (ringSlot s n) s)
  refine Completes.of_eq hexec ⟨(hvio.part .shx rfl).trans (hlog.part .shx rfl), (hvio.part .out rfl).trans (hlog.part .out rfl),
    flag_on_same _ _ _ (by decide) (by decide), ?_⟩
  rw [rd_on_other _ _ _ _ _ (.inl (by decide)), vio, rd_satAdd_same _ _ _ _ (by decide), hlog.rd _ _ rfl]
  rfl

/-! #### The ring's registers (R396) -/

theorem field_of_lt (f : Fld) (v : Word) : f.of v < 2 ^ f.width := getF_lt ..

/-- A write of SHX_CR_CTL, before the ring starts anew. -/
def crConfigured (n : Nat) (v : Word) (s : State) : State :=
  let t := (s.wr F.SHX_CR_CTL.EN n (F.SHX_CR_CTL.EN.of v)).wr F.SHX_CR_CTL.MBV_EN n (F.SHX_CR_CTL.MBV_EN.of v)
  if s.flag F.SHX_CR_CTL.EN n = false ∧ 4 ≤ F.SHX_CR_CTL.SIZE.of v ∧ F.SHX_CR_CTL.SIZE.of v ≤ 16 then
    t.wr F.SHX_CR_CTL.SIZE n (F.SHX_CR_CTL.SIZE.of v) else t

/-- A ring started anew: empty, in the first phase. -/
def crStarted (n : Nat) (s : State) : State := ((s.wr F.SHX_CR_HEAD.HEAD n 0).wr F.SHX_CR_TAIL.TAIL n 0).wr F.SHX_CR_TAIL.PHASE n 1

theorem crCtlWrite_of_en {n : Nat} {v : Word} (hen : F.SHX_CR_CTL.EN.of v = 1) (s : State) :
    crCtlWrite n v s = if s.flag F.SHX_CR_CTL.EN n = true then crConfigured n v s else crStarted n (crConfigured n v s) := by
  unfold crCtlWrite crConfigured
  cases hwas : s.flag F.SHX_CR_CTL.EN n with
  | true => simp [hen]
  | false => simp [hen, crStarted]

theorem crConfigured_effect {n : Nat} {v : Word} (hen : F.SHX_CR_CTL.EN.of v = 1) (s : State) :
    (crConfigured n v s).flag F.SHX_CR_CTL.EN n = true ∧ (crConfigured n v s).rd F.SHX_CR_CTL.MBV_EN n = F.SHX_CR_CTL.MBV_EN.of v ∧
    (crConfigured n v s).rd F.SHX_CR_CTL.SIZE n =
      if s.flag F.SHX_CR_CTL.EN n = false ∧ 4 ≤ F.SHX_CR_CTL.SIZE.of v ∧ F.SHX_CR_CTL.SIZE.of v ≤ 16 then F.SHX_CR_CTL.SIZE.of v
      else s.rd F.SHX_CR_CTL.SIZE n := by
  have hon : (s.wr F.SHX_CR_CTL.EN n 1).flag F.SHX_CR_CTL.EN n = true := flag_on_same _ _ _ (by decide) (by decide)
  have hmbv := Nat.mod_eq_of_lt (field_of_lt F.SHX_CR_CTL.MBV_EN v)
  have hsize := Nat.mod_eq_of_lt (field_of_lt F.SHX_CR_CTL.SIZE v)
  unfold crConfigured
  dsimp only
  rw [hen]
  split
  · refine ⟨?_, ?_, ?_⟩
    · rw [flag_wr_apart (by decide), flag_wr_apart (by decide), hon]
    · rw [rd_wr_apart (by decide), rd_wr_same _ _ _ _ (by decide), hmbv]
    · rw [rd_wr_same _ _ _ _ (by decide), hsize]
  · refine ⟨?_, ?_, ?_⟩
    · rw [flag_wr_apart (by decide), hon]
    · rw [rd_wr_same _ _ _ _ (by decide), hmbv]
    · rw [rd_wr_apart (by decide), rd_wr_apart (by decide)]

theorem keeps_crConfigured (n : Nat) (v : Word) (s : State) : Keeps (regMask [.SHX_CR_CTL]) 0 s (crConfigured n v s) := by
  have hwr (f : Fld) (hf : f.reg = .SHX_CR_CTL) (x : Nat) (t : State) : Keeps (regMask [.SHX_CR_CTL]) 0 t (t.wr f n x) :=
    (keeps_wr t f n x).mono (by rw [hf]; rfl) rfl
  unfold crConfigured
  dsimp only
  split
  · exact (hwr _ rfl _ _).trans ((hwr _ rfl _ _).trans (hwr _ rfl _ _))
  · exact (hwr _ rfl _ _).trans (hwr _ rfl _ _)

theorem keeps_crStarted (n : Nat) (s : State) : Keeps (regMask [.SHX_CR_HEAD, .SHX_CR_TAIL]) 0 s (crStarted n s) := by
  have hhead : Keeps (regMask [.SHX_CR_HEAD, .SHX_CR_TAIL]) 0 s (s.wr F.SHX_CR_HEAD.HEAD n 0) := (keeps_wr ..).mono rfl rfl
  have htail (t : State) : Keeps (regMask [.SHX_CR_HEAD, .SHX_CR_TAIL]) 0 t (t.wr F.SHX_CR_TAIL.TAIL n 0) := (keeps_wr ..).mono rfl rfl
  have hphase (t : State) : Keeps (regMask [.SHX_CR_HEAD, .SHX_CR_TAIL]) 0 t (t.wr F.SHX_CR_TAIL.PHASE n 1) := (keeps_wr ..).mono rfl rfl
  exact hhead.trans ((htail _).trans (hphase _))

theorem crStarted_effect (n : Nat) (s : State) : (crStarted n s).rd F.SHX_CR_HEAD.HEAD n = 0 ∧ (crStarted n s).rd F.SHX_CR_TAIL.TAIL n = 0 ∧
    (crStarted n s).rd F.SHX_CR_TAIL.PHASE n = 1 := by
  refine ⟨?_, ?_, rd_wr_same _ _ _ _ (by decide)⟩
  · rw [crStarted, rd_wr_apart (by decide), rd_wr_apart (by decide), rd_wr_same _ _ _ _ (by decide), Nat.zero_mod]
  · rw [crStarted, rd_wr_apart (by decide), rd_wr_same _ _ _ _ (by decide), Nat.zero_mod]

theorem crEnable_completes {s : State} {n : Fin 16} {v : Word} (hexists : headExists s n = true) (hen : F.SHX_CR_CTL.EN.of v = 1) :
    Completes (.crEnable n v) s fun t =>
      t.flag F.SHX_CR_CTL.EN n = true ∧ t.rd F.SHX_CR_CTL.MBV_EN n = F.SHX_CR_CTL.MBV_EN.of v ∧
      if s.flag F.SHX_CR_CTL.EN n = true then
        t.rd F.SHX_CR_CTL.SIZE n = s.rd F.SHX_CR_CTL.SIZE n ∧ t.reg .SHX_CR_HEAD n = s.reg .SHX_CR_HEAD n ∧
        t.reg .SHX_CR_TAIL n = s.reg .SHX_CR_TAIL n
      else
        t.rd F.SHX_CR_CTL.SIZE n = (if 4 ≤ F.SHX_CR_CTL.SIZE.of v ∧ F.SHX_CR_CTL.SIZE.of v ≤ 16 then F.SHX_CR_CTL.SIZE.of v
          else s.rd F.SHX_CR_CTL.SIZE n) ∧
        t.rd F.SHX_CR_HEAD.HEAD n = 0 ∧ t.rd F.SHX_CR_TAIL.TAIL n = 0 ∧ t.rd F.SHX_CR_TAIL.PHASE n = 1 := by
  have hready : (headExists s n && F.SHX_CR_CTL.EN.of v == 1) = true := by rw [hexists, hen]; rfl
  obtain ⟨hon, hmbv, hsize⟩ := crConfigured_effect (n := n) hen s
  refine Completes.of_guarded rfl hready ?_
  rw [crCtlWrite_of_en hen]
  split
  · next hwas =>
    have hkept := keeps_crConfigured n v s
    rw [hwas, if_neg (by simp)] at hsize
    exact ⟨hon, hmbv, hsize, hkept.reg _ _ rfl, hkept.reg _ _ rfl⟩
  · next hwas =>
    have hkept := keeps_crStarted n (crConfigured n v s)
    rw [Bool.eq_false_iff.mpr hwas] at hsize
    simp only [true_and] at hsize
    rw [hkept.flag _ _ rfl, hkept.rd F.SHX_CR_CTL.MBV_EN _ rfl, hkept.rd F.SHX_CR_CTL.SIZE _ rfl]
    exact ⟨hon, hmbv, hsize, crStarted_effect ..⟩

/-- A write of HEAD is taken where it names a slot between HEAD and TAIL; any other is an error. -/
theorem crHeadWrite_completes {s : State} {n : Fin 16} {v : Word} {h size now tail : Nat} (hexists : headExists s n = true)
    (hh : h = F.SHX_CR_HEAD.HEAD.of v) (hsize : size = ringSize s n) (hnow : now = s.rd F.SHX_CR_HEAD.HEAD n)
    (htail : tail = s.rd F.SHX_CR_TAIL.TAIL n) : Completes (.crHeadWrite n v) s fun t =>
      if h < size ∧ (h + size - now) % size ≤ (tail + size - now) % size then
        t.rd F.SHX_CR_HEAD.HEAD n = h ∧ t.flag F.SHX_CR_STAT.HERR n = s.flag F.SHX_CR_STAT.HERR n
      else t.rd F.SHX_CR_HEAD.HEAD n = now ∧ t.flag F.SHX_CR_STAT.HERR n = true := by
  subst hh hsize hnow htail
  refine Completes.of_guarded rfl hexists ?_
  unfold crHeadWrite
  dsimp only
  split
  · next hgood =>
    obtain ⟨hin, hbefore⟩ := hgood
    rw [if_neg (by omega)]
    exact ⟨(rd_wr_same _ _ _ _ (by decide)).trans (Nat.mod_eq_of_lt (field_of_lt ..)), flag_wr_apart (by decide) _ _ _⟩
  · next hbad =>
    rw [if_pos (by omega)]
    exact ⟨rd_wr_apart (by decide) _ _ _, flag_on_same _ _ _ (by decide) (by decide)⟩

/-- Settles O44, rule by rule: the conflicts of the commands on a head, the offers and releases of extents, a loopback's end, and the records with
the registers of their ring. -/
theorem operationsEndInRecords : Obligations.OperationsEndInRecords := by
  unfold Obligations.OperationsEndInRecords
  refine ⟨?_, ?_, ?_, ?_, ?_, ?_, ?_, ?_⟩
  · intro s n m x hx hready
    rcases List.mem_pair.mp hx with rfl | rfl
    · exact headCommand_conflicts rfl (by simpa using hready)
    · exact headCommand_conflicts rfl (by simpa using hready)
  · exact fun s k o hop hlate hnone hmask hticket hops hbusy => extentOfferTimeout_completes hops hop hlate hnone hmask hticket hbusy
  · exact fun s n k o hop hbit hmask hops => extentReleaseResponse_completes hops hop hbit hmask
  · exact fun s k o hop hmask hlate hforce hticket hops => extentReleaseWaitExpiry_completes hops hop hmask hlate hforce hticket
  · exact fun s n o hops hcode hstarted htenant hticket hlate => loopbackTimeExpiry_completes hops hcode hstarted htenant hticket hlate
  · intro s n r x hheld hroom hx hlt
    by_cases hadmits : windowAdmits s n (ringSlot s n) 32 true = true
    · simp only [if_pos hadmits]
      exact recordWrite_admitted hheld hroom hx hlt hadmits
    · simp only [if_neg hadmits]
      exact recordWrite_denied hheld hroom hadmits
  · exact fun s n v hexists hen => crEnable_completes hexists hen
  · exact fun s n v h size now tail hexists hh hsize hnow htail => crHeadWrite_completes hexists hh hsize hnow htail

end Sys2Proof.Machine

/-! ### Hosts and their caches (R254–R256, R278–R280) -/

namespace Sys2Proof.Machine
open Sys2Proof

/-! #### Requests of a host to memory (R255, R256) -/

/-- The request of head n for bytes of a line of a channel. -/
def headReq (s : State) (n da c txn len : Nat) (op : NetOp) (data : Line) (i : Intent) : Req :=
  ⟨op, headEp s n da, channelEp c, txn, ⟨0, n⟩, da, len, data, i⟩

/-- A request that decodes to a channel goes out under its TXN, or waits with its host. -/
theorem hostRequest_dram {s : State} {n dpa da c ca txn len : Nat} {id : HostId} {path : List Nat} {op : NetOp} {data : Line} {i : Intent}
    (htr : translate s n dpa = some da) (hpl : decodeDa s da = .dram c ca) (htxn : freeTxn s (headEp s n da) = some txn) (hlen : 0 < len)
    (hline : da % 64 + len ≤ 64) (hroute : leafRoute s (epLeaf (headEp s n da)) (epLeaf (channelEp c)) = some path) :
    hostRequest n id dpa len op data i s =
      match netEnter (.head n id) (headReq s n da c txn len op data i) (hostNoted n id s) with
      | some u => entered (.head n id) (tmoWindow s) (headReq s n da c txn len op data i) u.net.way (hostNoted n id s)
      | none => hostNoted n id s := by
  have hspan : ¬ (len = 0 ∨ 64 < da % 64 + len) := by omega
  have hroute' : leafRoute (hostNoted n id s) (epLeaf (headEp s n da)) (epLeaf (channelEp c)) = some path := hroute
  unfold hostRequest
  rw [← hostNoted]
  dsimp only
  rw [translate_hostNoted, htr]
  dsimp only
  rw [if_neg hspan, decodeDa_hostNoted, hpl]
  dsimp only
  rw [headEp_hostNoted, freeTxn_hostNoted, htxn]
  dsimp only
  rw [netSend]
  dsimp only [placeEp]
  rw [hroute', netPut_eq]
  change (match (match (netEnter (.head n id) (headReq s n da c txn len op data i) (hostNoted n id s)).map
      fun u => entered (.head n id) (tmoWindow s) (headReq s n da c txn len op data i) u.net.way (hostNoted n id s) with
    | some t => Admit.sent t
    | none => Admit.waits) with
    | .sent s1 => s1
    | .answered code d s1 => _
    | .waits => _) = _
  cases netEnter (.head n id) (headReq s n da c txn len op data i) (hostNoted n id s) with
  | none => rfl
  | some u => rfl

/-- From `s` to `t` a request of head n goes out where the network has room for it, entering as in `e`; else only the port ID is noted. -/
def GoesOut (n : Nat) (id : HostId) (r : Req) (s t : State) (e : Option State) : Prop :=
  match e with
  | some u => t.net.reqs = s.net.reqs ++ [r] ∧ t.net.outst = s.net.outst ++ [⟨.head n id, r, s.stamp, 1000 * s.rd F.KRV_TMO.TMO 0⟩] ∧
      t.net.way = u.net.way ∧ t.out = s.out
  | none => t = hostNoted n id s

/-- As `GoesOut`, without the list of outstanding requests: what O28 says of a write. -/
def GoesOutListed (n : Nat) (id : HostId) (r : Req) (s t : State) (e : Option State) : Prop :=
  match e with
  | some u => t.net.reqs = s.net.reqs ++ [r] ∧ t.net.way = u.net.way ∧ t.out = s.out
  | none => t = hostNoted n id s

theorem GoesOut.listed {n : Nat} {id : HostId} {r : Req} {s t : State} {e : Option State} (h : GoesOut n id r s t e) :
    GoesOutListed n id r s t e := by
  cases e with
  | none => exact h
  | some u =>
    obtain ⟨hreqs, _, hway, hout⟩ := h
    exact ⟨hreqs, hway, hout⟩

theorem hostRequest_goesOut {s : State} {n dpa da c ca txn len : Nat} {id : HostId} {path : List Nat} {op : NetOp} {data : Line} {i : Intent}
    (htr : translate s n dpa = some da) (hpl : decodeDa s da = .dram c ca) (htxn : freeTxn s (headEp s n da) = some txn) (hlen : 0 < len)
    (hline : da % 64 + len ≤ 64) (hroute : leafRoute s (epLeaf (headEp s n da)) (epLeaf (channelEp c)) = some path) :
    GoesOut n id (headReq s n da c txn len op data i) s (hostRequest n id dpa len op data i s)
      (netEnter (.head n id) (headReq s n da c txn len op data i) (hostNoted n id s)) := by
  rw [hostRequest_dram htr hpl htxn hlen hline hroute]
  cases netEnter (.head n id) (headReq s n da c txn len op data i) (hostNoted n id s) with
  | none => rfl
  | some u => exact ⟨rfl, rfl, rfl, rfl⟩

/-- A read outside every range is answered at once as poisoned. -/
theorem hostRequest_unmapped {s : State} {n dpa len : Nat} {id : HostId} {data : Line} {i : Intent} (htr : translate s n dpa = none) :
    (hostRequest n id dpa len .read data i s).out = s.out ++ [.cxlData n id.tag 0 true .none ⟨s.rd F.COH_HEAD.PID n, id.port⟩] ∧
    (hostRequest n id dpa len .read data i s).net = s.net := by
  have hanswer : hostRequest n id dpa len .read data i s =
      hostAnswer n id .read (.error 1 1) .none (netError 1 1 (headEp s n dpa) dpa (hostNoted n id s)) := by
    unfold hostRequest
    rw [← hostNoted]
    dsimp only
    rw [translate_hostNoted, htr]
    rfl
  have hlogged := keeps_netError 1 1 (headEp s n dpa) dpa (hostNoted n id s)
  rw [hanswer]
  refine ⟨?_, ((keeps_hostAnswer ..).part .net rfl).trans (hlogged.part .net rfl)⟩
  change (netError 1 1 (headEp s n dpa) dpa (hostNoted n id s)).out ++
    [.cxlData n id.tag 0 true .none ⟨(netError 1 1 (headEp s n dpa) dpa (hostNoted n id s)).rd F.COH_HEAD.PID n, id.port⟩] = _
  rw [hlogged.part .out rfl, hlogged.rd _ _ rfl]
  rfl

/-! #### Translation ranges and offers (R254, R255) -/

/-- The first index that a search over a range finds. -/
theorem findSome?_range {α : Type} {f : Nat → Option α} {m r : Nat} {a : α} (hr : r < m) (hf : f r = some a) (hnone : ∀ q < r, f q = none) :
    (List.range m).findSome? f = some a := by
  have hlt : r < (List.range m).length := by rwa [List.length_range]
  rw [List.findSome?_eq_some_iff]
  refine ⟨(List.range m).take r, r, (List.range m).drop (r + 1), ?_, hf, fun q hq => hnone q ?_⟩
  · have hsplit := List.take_append_drop r (List.range m)
    rw [List.drop_eq_getElem_cons hlt, List.getElem_range] at hsplit
    exact hsplit.symm
  · rw [List.take_range] at hq
    exact lt_of_lt_of_le (List.mem_range.mp hq) (min_le_left ..)

theorem translate_of_range {s : State} {n dpa r : Nat} {x : XRange} (hr : r < 256) (hx : x = sget XRange.none s.coh.xlat (256 * n + r))
    (hvalid : x.valid = true) (hbase : x.dpaBase * 2 ^ 28 ≤ dpa) (htop : dpa < (x.dpaBase + x.count) * 2 ^ 28) (hdpa : dpa < 2 ^ 43)
    (hlowest : ∀ q : Nat, q < r → (sget XRange.none s.coh.xlat (256 * n + q)).valid = false) :
    translate s n dpa = some (x.daBase * 2 ^ 28 + (dpa - x.dpaBase * 2 ^ 28)) := by
  have hcovers : (x.valid && decide (x.dpaBase ≤ dpa / 2 ^ 28) && decide (dpa / 2 ^ 28 < x.dpaBase + x.count)) = true := by
    rw [hvalid, decide_eq_true (by omega), decide_eq_true (by omega)]
    rfl
  unfold translate
  dsimp only
  rw [if_neg (by omega)]
  refine findSome?_range hr ?_ fun q hq => ?_
  · rw [← hx, if_pos hcovers]
  · rw [hlowest q hq]
    rfl

/-- The range that the data registers hold. -/
def rangeData (s : State) : XRange :=
  ⟨s.flag F.COH_XM_DATA0.VALID 0, s.rd F.COH_XM_DATA0.DPA_BASE 0, s.rd F.COH_XM_DATA1.DA_BASE 0, s.rd F.COH_XM_DATA2.COUNT 0⟩

/-- The range that a command names. -/
abbrev rangeKey (v : Word) : Nat := 256 * F.COH_XM_CMD.HEAD.of v + F.COH_XM_CMD.RANGE.of v

theorem xmCmd_write {v : Word} (hop : F.COH_XM_CMD.OP.of v = 2) (s : State) :
    xmCmd v s = { s with coh := { s.coh with xlat := sset XRange.none s.coh.xlat (rangeKey v) (rangeData s) } } := by
  unfold xmCmd
  rw [hop]
  rfl

/-- The data registers show a range. -/
def rangeShown (x : XRange) (s : State) : State :=
  (((s.wr F.COH_XM_DATA0.DPA_BASE 0 x.dpaBase).wr F.COH_XM_DATA0.VALID 0 (b2n x.valid)).wr F.COH_XM_DATA1.DA_BASE 0 x.daBase).wr
    F.COH_XM_DATA2.COUNT 0 x.count

theorem xmCmd_read {v : Word} (hop : F.COH_XM_CMD.OP.of v = 1) (s : State) :
    xmCmd v s = rangeShown (sget XRange.none s.coh.xlat (256 * F.COH_XM_CMD.HEAD.of v + F.COH_XM_CMD.RANGE.of v)) s := by
  unfold xmCmd
  rw [hop]
  rfl

theorem rangeShown_effect (x : XRange) (s : State) :
    (rangeShown x s).flag F.COH_XM_DATA0.VALID 0 = x.valid ∧
    (rangeShown x s).rd F.COH_XM_DATA0.DPA_BASE 0 = x.dpaBase % 2 ^ F.COH_XM_DATA0.DPA_BASE.width ∧
    (rangeShown x s).rd F.COH_XM_DATA1.DA_BASE 0 = x.daBase % 2 ^ F.COH_XM_DATA1.DA_BASE.width ∧
    (rangeShown x s).rd F.COH_XM_DATA2.COUNT 0 = x.count % 2 ^ F.COH_XM_DATA2.COUNT.width := by
  unfold rangeShown
  simp (disch := decide) only [rd_wr_other, flag_wr_other, rd_wr_same, flag_wr_b2n, and_self]

theorem rangeWrite_completes {s : State} {v : Word} {k : Nat} (hk : k = 256 * F.COH_XM_CMD.HEAD.of v + F.COH_XM_CMD.RANGE.of v)
    (hop : F.COH_XM_CMD.OP.of v = 2) :
    Completes (.rangeWrite v) s fun t =>
      sget XRange.none t.coh.xlat k = ⟨s.flag F.COH_XM_DATA0.VALID 0, s.rd F.COH_XM_DATA0.DPA_BASE 0, s.rd F.COH_XM_DATA1.DA_BASE 0,
        s.rd F.COH_XM_DATA2.COUNT 0⟩ ∧ t.regs = s.regs ∧
      ∀ j : Nat, j ≠ k → sget XRange.none t.coh.xlat j = sget XRange.none s.coh.xlat j := by
  refine Completes.of_guarded rfl (beq_iff_eq.mpr hop) ?_
  subst hk
  rw [xmCmd_write hop]
  exact ⟨sget_sset_self .., rfl, fun j hj => sget_sset_ne _ _ _ _ hj⟩

theorem extentOfferResponse_completes {s : State} {n : Fin 16} {ext : Nat} {accept : Bool} (hoffered : ext ∈ sget [] s.coh.offered n) :
    Completes (.extentOfferResponse n ext accept) s fun t =>
      sget [] t.coh.offered n = (sget [] s.coh.offered n).erase ext ∧ (accept = true → ext ∈ sget [] t.coh.accepted n) ∧
      (accept = false → sget [] t.coh.accepted n = sget [] s.coh.accepted n) ∧ t.regs = s.regs := by
  refine Completes.of_guarded rfl (List.contains_iff_mem.mpr hoffered) ⟨sget_sset_self .., fun haccept => ?_, fun hrefuse => ?_, rfl⟩
  · dsimp only
    rw [sget_sset_self, haccept, Bool.true_and]
    split
    · exact List.mem_append_right _ (List.mem_singleton_self ext)
    · next hlisted => simpa using hlisted
  · dsimp only
    rw [sget_sset_self, hrefuse]
    rfl

/-! #### Lines of a device cache (R278, R280) -/

theorem classifyWord_zero : classifyWord 72 0 = .clean := by decide +kernel

theorem wordData_zero : wordData 72 0 = 0 := by decide +kernel

theorem dcWordErr_of_clean {d : DcLine} (h : d.err = 0) (k : Nat) : dcWordErr d k = 0 := by
  rw [dcWordErr, h, BitVec.ofNat_eq_ofNat, BitVec.extractLsb'_zero, BitVec.setWidth_zero]
  rfl

/-- A line without an error decodes to its data. -/
theorem dcBad_of_clean {d : DcLine} (h : d.err = 0) : dcBad d = false := by
  rw [dcBad, List.any_eq_false]
  intro k _
  rw [dcWordErr_of_clean h, classifyWord_zero]
  decide

theorem dcSeen_of_clean {d : DcLine} (h : d.err = 0) : dcSeen d = d.data := by
  have hterm (k : Nat) : ((wordData 72 (dcWordErr d k)).toNat % 2 ^ 64) * 2 ^ (64 * k) = 0 := by
    rw [dcWordErr_of_clean h, wordData_zero]
    exact Nat.zero_mul _
  have hsum : (List.range 8).foldl (fun v k => v + ((wordData 72 (dcWordErr d k)).toNat % 2 ^ 64) * 2 ^ (64 * k)) 0 = 0 := by
    simp only [hterm, Nat.add_zero, List.foldl_fixed]
  rw [dcSeen, hsum]
  exact BitVec.xor_zero

theorem dcFlip_nil (d : DcLine) : dcFlip [] d = d := rfl

theorem dcAt_dcPut_same (n line way : Nat) (d : Option DcLine) (s : State) : dcAt (dcPut n line way d s) n line way = d := sget_sset_self ..

theorem dcAt_dcPut_other {n line way w : Nat} (h : w ≠ way) (d : Option DcLine) (s : State) :
    dcAt (dcPut n line way d s) n line w = dcAt s n line w := sget_sset_ne _ _ _ _ (by omega)

/-- What a way that holds `o` offers to a search for head n's line. -/
def dcHit (n line w : Nat) (o : Option DcLine) : Option (Nat × DcLine) :=
  match o with
  | some d => if d.line = line ∧ d.head = n then some (w, d) else none
  | none => none

theorem dcFind_eq (s : State) (n line : Nat) : dcFind s n line = (headWays s n).findSome? fun w => dcHit n line w (dcAt s n line w) := rfl

/-- The only way of a list that hits is the one found. -/
theorem findSome?_of_only {α β : Type} [DecidableEq α] {f : α → Option β} {a : α} {b : β} {l : List α} (ha : a ∈ l) (hf : f a = some b)
    (hother : ∀ x ∈ l, x ≠ a → f x = none) : l.findSome? f = some b := by
  induction l with
  | nil => cases ha
  | cons x l ih =>
    rw [List.findSome?_cons]
    by_cases hx : x = a
    · rw [hx, hf]
    · rw [hother x List.mem_cons_self hx]
      exact ih (List.mem_of_ne_of_mem (Ne.symm hx) ha) fun y hy => hother y (List.mem_cons_of_mem _ hy)

/-- A way filled with a line that the cache did not hold is where the line is found. -/
theorem dcFind_dcPut {s : State} {n line w : Nat} {d : DcLine} (hnone : dcFind s n line = none) (hw : w ∈ headWays s n) (hline : d.line = line)
    (hhead : d.head = n) : dcFind (dcPut n line w (some d) s) n line = some (w, d) := by
  have hbefore : ∀ x ∈ headWays s n, dcHit n line x (dcAt s n line x) = none := List.findSome?_eq_none_iff.mp (dcFind_eq s n line ▸ hnone)
  rw [dcFind_eq]
  refine findSome?_of_only (a := w) hw ?_ fun x hx hne => ?_
  · rw [dcAt_dcPut_same]
    exact if_pos ⟨hline, hhead⟩
  · rw [dcAt_dcPut_other hne]
    exact hbefore x hx

/-! #### A host's snoop (R278, R280) -/

/-- The answer of a cache to a snoop, with the dirty data and whether it is poisoned. -/
def snoopAnswered (n line : Nat) (d : Option (Line × Bool)) (s : State) : State :=
  { s with out := s.out ++ [.cacheSnoopAnswer n line d (s.toHost n)] }

theorem hostSnoop_eq {s : State} {n : Fin 16} {line w : Nat} {d : DcLine} {inv : Bool} (hfind : dcFind s n line = some (w, d)) :
    exec (.hostSnoop n line inv Upset.none) s =
      done (if dcBad d then dcUe n (dcPut n line w none (snoopAnswered n line (if d.dirty then some (dcSeen d, dcBad d) else none) s))
        else dcPut n line w (if inv then none else some { d with owned := false, dirty := false })
          (snoopAnswered n line (if d.dirty then some (dcSeen d, dcBad d) else none) s)) := by
  change done (match dcFind s n line with | none => _ | some (w, d) => _) = _
  rw [hfind]
  rfl

theorem nbit_dcErr (n : Fin 16) (s : State) : nbit ((dcErr n s).rd F.COH_EVT.DCERR 0) (n / 2) = true := by
  have hset : nbit ((s.wrBit F.COH_EVT.DCERR 0 (n / 2) true).rd F.COH_EVT.DCERR 0) (n / 2) = true := by
    rw [nbit_wrBit _ _ _ _ _ _ (by decide) (show n.val / 2 < 8 by omega), if_pos rfl]
  unfold dcErr
  dsimp only
  split
  · assumption
  · split
    · rw [rd_raise _ _ (by decide)]
      exact hset
    · exact hset

theorem ue_dcUe (n : Nat) (s : State) :
    (dcUe n s).rd F.COH_DC_ERR.UE (n / 2) = min (s.rd F.COH_DC_ERR.UE (n / 2) + 1) (2 ^ 16 - 1) := by
  rw [dcUe, (keeps_dcErr ..).rd _ _ rfl, rd_satAdd_same _ _ _ _ (by decide)]
  rfl

theorem hostSnoop_of_clean {s : State} {n : Fin 16} {line w : Nat} {d : DcLine} {inv : Bool} (hfind : dcFind s n line = some (w, d))
    (herr : d.err = 0) : Completes (.hostSnoop n line inv Upset.none) s fun t =>
      t.out = s.out ++ [.cacheSnoopAnswer n line (if d.dirty = true then some (d.data, false) else none) (s.toHost n)] ∧
      dcAt t n line w = (if inv = true then none else some { d with owned := false, dirty := false }) ∧ t.regs = s.regs := by
  refine Completes.of_eq (hostSnoop_eq hfind) ?_
  rw [dcBad_of_clean herr, dcSeen_of_clean herr, if_neg Bool.false_ne_true]
  exact ⟨rfl, dcAt_dcPut_same .., rfl⟩

theorem hostSnoop_of_bad {s : State} {n : Fin 16} {line w : Nat} {d : DcLine} {inv : Bool} (hfind : dcFind s n line = some (w, d))
    (hbad : dcBad d = true) : Completes (.hostSnoop n line inv Upset.none) s fun t =>
      t.out = s.out ++ [.cacheSnoopAnswer n line (if d.dirty = true then some (dcSeen d, true) else none) (s.toHost n)] ∧
      dcAt t n line w = none ∧ t.rd F.COH_DC_ERR.UE (n / 2) = min (s.rd F.COH_DC_ERR.UE (n / 2) + 1) (2 ^ 16 - 1) ∧
      nbit (t.rd F.COH_EVT.DCERR 0) (n / 2) = true := by
  refine Completes.of_eq (hostSnoop_eq hfind) ?_
  rw [hbad, if_pos rfl]
  generalize hu : dcPut n line w none (snoopAnswered n line (if d.dirty = true then some (dcSeen d, true) else none) s) = u
  have hkept := keeps_dcUe n u
  refine ⟨?_, ?_, ?_, nbit_dcErr n _⟩
  · rw [hkept.part .out rfl, ← hu]
    rfl
  · have hsame : dcAt (dcUe n u) n line w = dcAt u n line w :=
      congrArg (fun c : CohState => sget none c.dc (dcSet n line * 16 + w)) (hkept.part .coh rfl)
    rw [hsame, ← hu, dcAt_dcPut_same]
  · rw [ue_dcUe, ← hu]
    rfl

theorem hostSnoop_of_absent {s : State} {n : Fin 16} {line : Nat} {inv : Bool} {u : Upset} (hfind : dcFind s n line = none) :
    Completes (.hostSnoop n line inv u) s fun t => t = { s with out := s.out ++ [.cacheSnoopAnswer n line none (s.toHost n)] } := by
  refine Completes.of_eq (t := snoopAnswered n line none s) ?_ rfl
  change done (match dcFind s n line with | none => _ | some (w, d) => _) = _
  rw [hfind]
  rfl

/-! #### A host's fill (R279) -/

/-- The state without the requests that wait for lines of the caches. -/
def unwaited (s : State) : State := { s with coh := { s.coh with dcWait := [] } }

/-- A response without an error changes only the network. -/
theorem respond_of_logged {r : Req} {a : Answer} {s : State} (h : logAnswer r a s = s) : ∃ l, respond r a s = replied s r a l := by
  obtain ⟨l, hl⟩ := respond_eq_replied r a s
  exact ⟨l, by rw [hl, h]⟩

/-- What a host's fill makes of the requests that waited for its line. -/
def lineFilled (n line : Nat) (own poison : Bool) (data : Line) (u : Upset) (waiting : List Req) (t : State) : State :=
  if poison then waiting.foldl (poisonAnswer data) t
  else
    let (w, v) := match dcFind t n line with
      | some (w, _) => (w, t)
      | none => dcWay n line u t
    let old := match dcFind t n line with
      | some (_, d) => (d.data, d.err)
      | none => (data, 0)
    dcFlushReleased n (dcDrain n line waiting (dcPut n line w (some ⟨n, line, own, false, old.1, old.2⟩) v))

/-- A line that the cache did not hold takes an empty way. -/
theorem lineFilled_of_way {n line w : Nat} {own : Bool} {data : Line} {u : Upset} {waiting : List Req} {t : State} (habsent : dcFind t n line = none)
    (hway : (headWays t n).find? (fun w => (dcAt t n line w).isNone) = some w) : lineFilled n line own false data u waiting t =
      dcFlushReleased n (dcDrain n line waiting (dcPut n line w (some ⟨n, line, own, false, data, 0⟩) t)) := by
  have hdrop : dcWay n line u t = (w, t) := by rw [dcWay, hway]
  rw [lineFilled, if_neg Bool.false_ne_true, habsent, hdrop]

section
variable {s : State} {n : Fin 16} {line : Nat} {r : Req} {own : Bool} {data : Line} (hwait : s.coh.dcWait = [(line, r)])
  (hagent : agentHead s r = n) (hread : r.op = .read)
include hwait hagent hread

omit hread in
theorem dcWait_filter_of_single : s.coh.dcWait.filter (fun e => e.1 == line && agentHead s e.2 == n.val) = [(line, r)] ∧
    s.coh.dcWait.filter (fun e => !(e.1 == line && agentHead s e.2 == n.val)) = [] := by
  rw [hwait]
  refine ⟨?_, ?_⟩
  · rw [List.filter_cons_of_pos (by simp [hagent]), List.filter_nil]
  · rw [List.filter_cons_of_neg (by simp [hagent]), List.filter_nil]

omit hread in
theorem hostFill_eq (poison : Bool) (u : Upset) :
    exec (.hostFill n line own poison data u) s = done (lineFilled n line own poison data u [r] (unwaited s)) := by
  obtain ⟨hserved, hleft⟩ := dcWait_filter_of_single hwait hagent
  change done (guarded (!((s.coh.dcWait.filter (fun e => e.1 == line && agentHead s e.2 == n.val)).map (·.2)).isEmpty) s fun t =>
    lineFilled n line own poison data u ((s.coh.dcWait.filter (fun e => e.1 == line && agentHead s e.2 == n.val)).map (·.2))
      { t with coh := { t.coh with dcWait := t.coh.dcWait.filter (fun e => !(e.1 == line && agentHead t e.2 == n.val)) } }) = _
  rw [hserved, guarded_true (b := !([(line, r)].map (·.2)).isEmpty) rfl, hleft]
  rfl

/-- Poisoned data answers the requests that waited, and fills no line. -/
theorem hostFill_of_poison : Completes (.hostFill n line own true data Upset.none) s fun t =>
      t.coh.dcWait = [] ∧ t.coh.dc = s.coh.dc ∧
      t.net.resps = s.net.resps ++ [⟨r.dst, r.src, r.txn, r.tag, .poisoned (laneBytes data (r.da % 64) r.len), r.intent⟩] := by
  obtain ⟨l, hl⟩ := respond_of_logged (r := r) (a := .poisoned (laneBytes data (r.da % 64) r.len)) (s := unwaited s) rfl
  refine Completes.of_eq (hostFill_eq hwait hagent true Upset.none) ?_
  change (poisonAnswer data (unwaited s) r).coh.dcWait = [] ∧ (poisonAnswer data (unwaited s) r).coh.dc = s.coh.dc ∧
    (poisonAnswer data (unwaited s) r).net.resps = _
  rw [poisonAnswer, hread]
  dsimp only
  rw [hl]
  exact ⟨rfl, rfl, rfl⟩

/-- A fill of an empty way serves the read that waited for it. -/
theorem hostFill_of_read {w : Nat} (habsent : dcFind s n line = none)
    (hway : (headWays s n).find? (fun w => (dcAt s n line w).isNone) = some w) (hkept : ∀ e ∈ s.coh.pt, e.2.rel = false) :
    Completes (.hostFill n line own false data Upset.none) s fun t =>
      t.coh.dcWait = [] ∧ dcAt t n line w = some ⟨n, line, own, false, data, 0⟩ ∧
      t.net.resps = s.net.resps ++ [⟨r.dst, r.src, r.txn, r.tag, .data (laneBytes data (r.da % 64) r.len), r.intent⟩] := by
  obtain ⟨u, hu⟩ : ∃ u, u = dcPut n line w (some ⟨n, line, own, false, data, 0⟩) (unwaited s) := ⟨_, rfl⟩
  have habsent' : dcFind (unwaited s) n line = none := habsent
  have hway' : (headWays (unwaited s) n).find? (fun w => (dcAt (unwaited s) n line w).isNone) = some w := hway
  have hfound : dcFind u n line = some (w, ⟨n, line, own, false, data, 0⟩) :=
    hu ▸ dcFind_dcPut habsent' (List.mem_of_find?_eq_some hway') rfl rfl
  obtain ⟨l, hl⟩ := respond_of_logged (r := r) (a := .data (laneBytes data (r.da % 64) r.len)) (s := dcTouch n line w u) rfl
  have hserve : dcDrain n line [r] u = replied (dcTouch n line w u) r (.data (laneBytes data (r.da % 64) r.len)) l := by
    have hholds : dcHolds r ⟨n, line, own, false, data, 0⟩ = true := by rw [dcHolds, hread]; rfl
    rw [dcDrain, hfound]
    dsimp only
    rw [if_pos hholds, dcDrain, dcServe, hread]
    dsimp only
    rw [dcSeen_of_clean rfl, hl]
  refine Completes.of_eq (hostFill_eq hwait hagent false Upset.none) ?_
  rw [lineFilled_of_way habsent' hway', ← hu]
  rw [hserve, dcFlushReleased_of_none (by rw [hu]; exact hkept)]
  refine ⟨by rw [hu]; rfl, ?_, by rw [hu]; rfl⟩
  rw [hu]
  exact dcAt_dcPut_same n line w (some ⟨n, line, own, false, data, 0⟩) (unwaited s)

end

/-- Settles O28, event by event: the requests that go out or are answered at once, the ranges, the offers, and a cache's answers to its host. -/
theorem hostsReadWriteAndKeepTheirLines : Obligations.HostsReadWriteAndKeepTheirLines := by
  unfold Obligations.HostsReadWriteAndKeepTheirLines
  refine ⟨?_, ?_, ?_, ?_, ?_, ?_, ?_, ?_, ?_, ?_, ?_, ?_⟩
  · rintro s s1 n id dpa da c ca txn i path hready rfl htr hpl htxn haligned hroute
    exact Completes.of_guarded rfl hready (hostRequest_goesOut htr hpl htxn (by decide) (by omega) hroute)
  · rintro s s1 n id dpa da c ca txn len data i path hready rfl htr hpl htxn hlen hline hroute
    exact Completes.of_guarded rfl hready (hostRequest_goesOut htr hpl htxn hlen hline hroute).listed
  · exact fun s n id dpa i hready htr => Completes.of_guarded rfl hready (hostRequest_unmapped htr)
  · exact fun s n dpa r x hr hx hvalid hbase htop hdpa hlowest => translate_of_range hr hx hvalid hbase htop hdpa hlowest
  · exact fun s v k hk hop => rangeWrite_completes hk hop
  · rintro s v x rfl hop
    refine Completes.of_guarded rfl (beq_iff_eq.mpr hop) ?_
    rw [xmCmd_read hop]
    obtain ⟨hvalid, hdpa, hda, hcount⟩ := rangeShown_effect (sget XRange.none s.coh.xlat (rangeKey v)) s
    exact ⟨hvalid, hdpa, hda, hcount, rfl⟩
  · exact fun s n ext accept hoffered => extentOfferResponse_completes hoffered
  · exact fun s n line w d inv hfind herr => hostSnoop_of_clean hfind herr
  · exact fun s n line w d inv hfind hbad => hostSnoop_of_bad hfind hbad
  · exact fun s n line inv u hfind => hostSnoop_of_absent hfind
  · exact fun s n line w r own data hwait hagent hread habsent hway hkept => hostFill_of_read hwait hagent hread habsent hway hkept
  · exact fun s n line r own data hwait hagent hread => hostFill_of_poison hwait hagent hread

end Sys2Proof.Machine
